-- ==== Sys2Proof/Word.lean ====
section
/-! DEFINITION. The words of the device: a register is 32 bits wide (spec/00_scope.md, Registers), and the tables
of sparse data the state is made of. -/
namespace Sys2Proof

/-- A register word (R6: every register is 32 bits wide). -/
abbrev Word := BitVec 32

/-- One byte of a memory or of a serial transfer. -/
abbrev Byte := BitVec 8

/-- A set of ports 0 to 7, bit m for port m. -/
abbrev Ports := BitVec 8

/-- Sparse data by number: pairs of an index and a value, in rising order of index. -/
abbrev Tab (α : Type) := List (Nat × α)

/-- The value at index `i`, `d` where the table lists none. -/
def Tab.get {α : Type} (d : α) : Tab α → Nat → α
  | [], _ => d
  | (k, v) :: t, i => if k = i then v else Tab.get d t i

/-- The table with the value at index `i` replaced by `v`, indexes kept rising. -/
def Tab.set {α : Type} : Tab α → Nat → α → Tab α
  | [], i, v => [(i, v)]
  | (k, x) :: t, i, v =>
    if i < k then (i, v) :: (k, x) :: t
    else if k = i then (i, v) :: t
    else (k, x) :: Tab.set t i v

end Sys2Proof
end

