-- ==== Sys2Proof/Syntax.lean ====
section
/-! DEFINITION. The commands: one constructor per row of spec/opcode_table.json, with the operands that the rule of the
row gives it. The device is a block; a command is a host write, a frame, an edge of a ball, or an event of one of its
engines at the instant at which the rules let it happen. -/
namespace Sys2Proof

/-- What a stream-samples frame brings (R107): the port over which it comes, false RING_UP, true RING_DN, the arcs that it
has still to travel and its direction (Table 14-2), the sender's device and slot, its probe seed, level and channel-filter
entry (R96, R98), no level where it sends no probe, its rate, SHIFT and Curtain state, the delay of the stream, the lane sample number of its newest word,
and its words, oldest first. -/
structure StreamFrame where
  port : Bool
  hops : Nat
  dir : Nat
  dev : Nat
  slot : Nat
  seed : Word
  level : Option Int
  chf : Nat
  rate : Nat
  shift : Nat
  curtain : Bool
  lat : Nat
  no : Nat
  words : List (BitVec 24)
  deriving DecidableEq, Repr

/-- A time message of the ring (R188): the port that it arrives by, the reference and its time state, the reference's TOD as
it left over the arc, in ticks and a part in ps, the arcs of the path, a calendar set (seconds, 10 ms steps and the frame
whose start takes them), the last move of the role with its kind and Δ in ns, the understudies, and a correction of the
shared oscillator's code (R187). `fe`: the frequency error that its receiver measures, in 1/16 ppb. -/
structure TimeMsg where
  port : Bool
  dev : Nat
  valid : Bool
  state : Nat
  tod : Nat
  ps : Int
  fe : Int
  hops : Nat
  set : Option (Word × BitVec 7 × Nat)
  move : Option (Nat × Int)
  us : List Nat
  tune : Option Int
  deriving DecidableEq, Repr

namespace Machine

/-- The statistics of a context over one history interval (R133), powers in units of 2^-16 dBFS, and the sum of linear
powers in units of 2^-100 with its number of windows. -/
structure CtxStats where
  min : Option Int := none
  max : Option Int := none
  sum : Nat := 0
  n : Nat := 0
  win : Nat := 0
  openN : Nat := 0
  excl : Nat := 0
  evt : Nat := 0
  deriving DecidableEq, Repr

/-- A context (R127, R128, R140): powers in units of 2^-16 dBFS. -/
structure CtxSt where
  /-- CTX_CTL as written, and the value in force while a later one waits for the lane's next window (R131). -/
  ctl : Word := 0x00082800
  inForce : Option Word := none
  /-- The instant of that write: a window that begins at it is not the next (R505). -/
  ctlAt : Nat := 0
  /-- The interval count at the start of the words (CTX_STATE.INTERVAL counts from it). -/
  base : Nat := 0
  isOpen : Bool := false
  hang : Nat := 0
  excluded : Bool := false
  learning : Bool := true
  smoothed : Option Int := none
  floor : Option Int := none
  last : Option Int := none
  /-- Windows left of a learning of its own (R129). -/
  relearn : Nat := 0
  run : Nat := 0
  /-- The instant from which the context has been open without a break (R135). -/
  runFrom : Option Nat := none
  stuck : Bool := false
  /-- What the floor's rise has come to below 2^-16 dB (R128), over the windows of a second. -/
  rise : Nat := 0
  cur : CtxStats := {}
  prev : CtxStats := {}
  deriving DecidableEq, Repr

/-- A lane armed for spotlight or measurement (R122 to R129). -/
structure SptLane where
  /-- The first lane sample of window 0 (R125) and the number of the window now open, once measuring has begun. -/
  started : Bool := false
  a : Int := 0
  win : Nat := 0
  learnLeft : Nat := 0
  /-- EN = 0 was written at this instant, and acts at the next window boundary (R123). -/
  disarm : Option Nat := none
  /-- The frame's sums of R137 in units of 2^-100 full scale, gated and ungated, and its windows with a decision. -/
  acc : Nat := 0
  accU : Nat := 0
  wins : Nat := 0
  /-- One frame with data has been received (Table 5-2). -/
  hadFrame : Bool := false
  /-- A bad bank word was used in the window now open (R138). -/
  bad : Bool := false
  /-- The open window: the power of each context summed over its active samples, in units of 2^-100 full scale, their
  number, and a sample marked suspect (R126). -/
  pows : List Nat := []
  actN : Nat := 0
  susp : Bool := false
  /-- Samples of the next window that came before the close of the open one: their powers, active and suspect. -/
  ahead : List (List Nat × Bool × Bool) := []
  /-- SPT_CFG or MEAS_CFG of the open window, where a later write waits for the next (R139, R141). -/
  oldCfg : Option (Nat × Int × Nat) := none
  cfgAt : Nat := 0
  /-- The gains of the contexts in the last windows decided, in units of 2^-40, newest window first (R130). -/
  gains : List (Nat × List Nat) := []
  deriving DecidableEq, Repr

/-- A complex word of a lane (Table 2-3). -/
structure Iq where
  i : BitVec 18
  q : BitVec 18
  deriving DecidableEq, Repr

/-- What is on the medium (R328). -/
inductive Medium where
  | none | blank | own | foreign
  deriving DecidableEq, Repr

/-- What the storage manager finds on the medium at a start (R328): the CEs in use, bits per cell, LUNs, page code, raw
capacity in GiB, pages per block, native endurance in 100 cycles, the interface rate, spare blocks and erase counts; of a
format header its identity, P16, MIRROR, S, H and the book's first number; and whether a CE differs or is absent. -/
structure MediumInfo where
  kind : Medium
  ceMask : Nat
  bpc : Nat
  luns : Nat
  page : Nat
  raw : Nat
  ppb : Nat
  endur : Nat
  mts : Nat
  spare : Nat
  wearN : Nat × Nat
  wearS : Nat × Nat
  ident : BitVec 64
  p16 : Nat
  mirror : Bool
  s : Nat
  h : Nat
  first : BitVec 40
  differs : Bool
  deriving DecidableEq, Repr

/-- Why a block is refreshed (R334 to R336, R339): the corrected bits of a scrubbed codeword, a codeword that needed soft
decoding, an uncorrectable one, the reads of the block since its last erase, and the least and the greatest erase count of its
pool's blocks that hold data. -/
inductive Refresh where
  | scrub (bits : Nat)
  | soft
  | unreadable
  | reads (n : Nat)
  | wear (lo hi : Nat)
  deriving DecidableEq, Repr

end Machine

namespace Machine

/-- The role of a cluster (Table 3-9, CNX_CLU_DESC.ROLE). -/
inductive Role where
  | dense | sparse | spare
  deriving DecidableEq, Repr

structure Cluster where
  used : Bool := false
  role : Role := .dense
  path : Nat := 0
  pos : Int := 0
  /-- The cluster has a position; a spare has none until it takes one (R91). -/
  placed : Bool := true
  /-- The position taken at the next estimate block (R92, R93), and whether the group keeps its tap values. -/
  next : Option Int := none
  keep : Bool := false
  /-- The instant of the move's request: a block boundary that coincides with it is not the next (R505). -/
  nextAt : Nat := 0
  /-- Estimate blocks left before a moved-from cluster becomes the spare (R92). -/
  retire : Option Nat := none
  deriving DecidableEq, Repr

end Machine

/-- The state of one path in the copy of a migration (R114): its estimates in units of 2^-16 dB, FLOOR, and its clusters
with their tap words. -/
structure PathCopy where
  ck : Option Int
  xk : Int
  hTaps : Option Int
  hProbe : Option Int
  xProbe : Option Int
  xFast : Int
  badBlocks : Nat
  floor : Bool
  clusters : List (Machine.Cluster × List (Int × Int))
  deriving DecidableEq, Repr

/-- What a register-write frame carries (R384, R272): a register write, or a message of a remote migration. -/
inductive RegBody where
  /-- A write of a register at a slice offset. -/
  | write (addr : Nat) (v : Word)
  /-- GO: the source slot, its RATE and its latency in ps, the target slot, TAIL, the paths copied, and the TOD in ticks
  of the instant of S. -/
  | migGo (src rate lat dst tail : Nat) (paths : List Nat) (tod : Nat)
  | migPath (j : Nat) (c : PathCopy)
  /-- For the target slot: the spotlight state of the source, with its RES, FIRST and COUNT, and its MEASURING, LEARNING and
  OPEN_NOW. -/
  | migSpot (dst res first count measuring learning openNow : Nat) (l : Machine.SptLane) (cs : List Machine.CtxSt)
  | migGain (dst request limit : Nat) (gc : Int) (cap : Option Nat)
  /-- From the target: ready, or its refusal code with its latency in ps. -/
  | migReady
  | migResult (err lat : Nat)
  | migAbort
  | migDup
  /-- A stream's reservation on its way (R109): the sender and its slot, the lane rate code, the direction, the hop that it
  has reached, and the hops that it takes; its answer, with the hop of a refusal; and its end. -/
  | streamAsk (dev slot rate dir hop hops : Nat)
  | streamAnswer (slot : Nat) (ok : Bool) (hop : Nat)
  | streamEnd (dev slot dir hop hops : Nat)
  deriving DecidableEq, Repr

/-- A DMA descriptor as fetched (Table 13-3), words 0 to 5. -/
structure Desc where
  w0 : Word
  w1 : Word
  w2 : Word
  w3 : Word
  w4 : Word
  w5 : Word
  deriving DecidableEq, Repr

/-- What enumeration finds at one position (R387): the device ID, its vertex strap, PG_ID.VERSION, and whether it is ready
(R388). -/
structure MapEntry where
  id : Nat
  vtx : Bool
  version : BitVec 8
  ready : Bool
  deriving DecidableEq, Repr

/-- The registers of a lane whose writes go to the shadow while the lane is enabled (R59). -/
inductive LaneWord where
  | cfg | rxLo | rxHi | rxPhase | txLo | txHi | txPhase | chf
  deriving DecidableEq, Repr

/-- A page of a slice that has a header (Table 18-1). -/
inductive Page where
  | sys | boot | sec | fc | ic | pb | stm | hif | dma | ring | time | tdd | syn | rfc | cur | prot | hk | thm | pwm | twt
  | twc (q : Fin 2)
  | smem | cte | fab | ledg
  | convRx (m : Fin 8)
  | convTx (m : Fin 8)
  | lane (n : Fin 32)
  | chf | rsm | cnx | sln | spt | meas
  deriving DecidableEq, Repr

/-- A command: one constructor per row of the command table, with its operands; rows without operands stand last. -/
inductive Instr where
  /-- Host writes a SYS_CMD code from 0b101 to 0b111; it is rejected and SYS_REJ_CNT increments. (R10) -/
  | sysCmdReservedCode (k : Fin 3)
  /-- Host sets CONVRX_CFG.EN; the port's converter starts its foreground calibration alone. (R212) -/
  | convrxEnable (m : Fin 8) (v : Word)
  /-- Host sets CONVTX_CFG.EN; the transmit converter starts its foreground calibration alone. (R212) -/
  | convtxEnable (m : Fin 8) (v : Word)
  /-- Host clears a converter's EN; every lane using that converter is first disabled with its in-flight samples
  discarded. (R60) -/
  | converterDisable (c : Fin 16) (v : Word)
  /-- A converter's foreground calibration ends; CAL_DONE sets on success and CAL_FAIL with source 35+n or 43+n on
  failure. (R212) -/
  | convCalComplete (c : Fin 16) (ok : Bool)
  /-- Host writes OVR_CNT_CLR, which clears CONVRX_OVR_CNT. (R73) -/
  | ovrCntClr (m : Fin 8)
  /-- Host writes CLIP_CNT_CLR, which clears CONVTX_CLIP_CNT. (R73) -/
  | clipCntClr (m : Fin 8)
  /-- A background calibration cycle of a converter completes; a residual out of limits raises the converter's fault
  source. (R54) -/
  | bgcalCycleDone (c : Fin 16) (ok : Bool)
  /-- An internal parity error in a converter raises source 35+n or 43+n. (R72) -/
  | converterParityError (c : Fin 16)
  /-- The first clipped receive sample sets OVR_NOW and OVR_STICKY, counts one episode, and starts the suspect mark
  of each fed lane. (R52) -/
  | overRangeEpisodeStart (m : Fin 8)
  /-- After 1,024 consecutive unclipped samples the over-range episode ends and OVR_NOW clears. (R52) -/
  | overRangeEpisodeEnd (m : Fin 8)
  /-- 64 lane samples after the last influenced sample, a lane's suspect mark ends. (R53) -/
  | suspectMarkEnd (n : Fin 32)
  /-- A saturated transmit port word sets CLIP_NOW and CLIP_STICKY and counts one clipping episode. (R56) -/
  | clippingEpisodeStart (m : Fin 8)
  /-- After 1,024 unclipped words the clipping episode ends and CLIP_NOW clears. (R56) -/
  | clippingEpisodeEnd (m : Fin 8)
  /-- Host writes LANE_CFG.EN = 1 on a disabled lane; the checks of Table 2-2 run and the lane is accepted or
  refused. (R58) -/
  | laneEnable (n : Fin 32) (v : Word)
  /-- An accepted lane starts at the next lane sample whose number is a multiple of 64. (R58) -/
  | laneStart (n : Fin 32)
  /-- Host writes LANE_CFG.EN = 0; the lane stops at the next lane sample and samples inside are discarded and
  counted. (R60) -/
  | laneDisable (n : Fin 32) (v : Word)
  /-- A write to LANE_CFG, a frequency or phase word, or CHF_SEL_n of an enabled lane goes to the shadow without
  checks. (R59) -/
  | laneCfgShadowWrite (n : Fin 32) (w : LaneWord) (v : Word)
  /-- A lane sample passes the stages of the lane, taking the lower of the gain request and LIMIT in force at its
  boundary. (R66) -/
  | laneSample (n : Fin 32) (ws : List (BitVec 14)) (chfEcc : Nat) (rsmEcc : Nat)
  /-- Host writes CHF_ROM_PTR, and the selected coefficient appears in CHF_ROM_DATA within 1 µs. (R65) -/
  | chfRomRead (v : Word) (ecc : Bool)
  /-- An uncorrectable channel-filter ROM read raises source 33 and records the entry in CHF_UNC. (R65) -/
  | chfRomUncorr (idx : Fin 512)
  /-- An uncorrectable resampler ROM read or a phase-accumulator check mismatch raises source 34 and records it in
  RSM_UNC. (R72) -/
  | rsmFault (n : Fin 32) (check : Bool) (phase : Fin 1024) (tap : Fin 16)
  /-- Host writes RSM_DELAY_n of a running lane; PENDING sets and the guard check of R198 runs if L rises. (R68) -/
  | rsmDelayWrite (n : Fin 32) (v : Word)
  /-- At the next lane sample that is a multiple of 64, the last written delay takes effect and LANE_LAT is updated.
  (R68) -/
  | rsmDelayApply (n : Fin 32)
  /-- Host writes CNX_PATH_CFG_p.EN = 1; the checks of Table 3-1 run, then clusters are allocated and the estimates
  reset, or the path is refused. (R79) -/
  | pathEnable (p : Fin 128) (v : Word)
  /-- An accepted path starts subtraction at the next victim lane sample whose number is a multiple of 1,024. (R79)
  -/
  | pathSubtractionStart (p : Fin 128)
  /-- Host clears a path's EN; its clusters are released and zeroed, a running search is abandoned, and its coupling
  may be retained. (R84) -/
  | pathDisable (p : Fin 128) (v : Word)
  /-- Host writes the tap window; the write applies to a frozen path's tap or is ignored and counted. (R87) -/
  | tapWrite (t : Fin 65536) (half : Bool) (v : Word)
  /-- Host writes CNX_CLU_DESC.POS with AUTO = 0; it is refused or accepted, with the cluster zeroed and moved at the
  next estimate block. (R93) -/
  | clusterPositionWrite (v : Word)
  /-- Host writes CNX_MARGIN; an out-of-range value is refused, otherwise the new margin acts from the next estimate
  block. (R105) -/
  | cnxMarginWrite (v : Word)
  /-- Host writes CNX_CEIL_RISE; values outside 1 to 60 dB/s are refused, otherwise the rise limit acts from the next
  block. (R116) -/
  | cnxCeilRiseWrite (v : Word)
  /-- Host writes SLN_CTL.GO, which queues a priority Sightline search of the named path. (R89) -/
  | searchGo (v : Word)
  /-- After 8 estimate blocks a moved-from cluster is zeroed and becomes the spare. (R92) -/
  | oldClusterRetire (p : Fin 128)
  /-- Every 2^UPD victim lane samples, each unfrozen path updates its taps by normalised LMS. (R94) -/
  | tapUpdate (n : Fin 32) (ecc : Nat)
  /-- At each victim lane sample that is a multiple of 1,024, the coupling and cancellation estimates are updated.
  (R101) -/
  | estimateBlock (n : Fin 32)
  /-- A path's probe correlation over 2^20 active samples ends, updating H_probe and X_probe and setting ISO_VALID.
  (R100) -/
  | probeIntegrationEnd (p : Fin 128)
  /-- An uncorrectable tap-memory error zeroes the cluster's taps, resets the path's estimates and raises source 29.
  (R115) -/
  | tapMemoryUncorr (k : Fin 2048)
  /-- Host writes CNX_STX_CFG_s.EN = 1; the stream's rate is reserved hop by hop. (R109) -/
  | streamEnable (k : Fin 8) (v : Word)
  /-- The reservation result arrives within 50 µs and the slot reports ACTIVE or ERR 3 with ARC. (R109) -/
  | streamReservationResult (k : Fin 8) (ok : Bool) (arc : Fin 4)
  /-- A transmit stream slot stops sending, by host disable or because its lane is disabled. (R113) -/
  | streamDisable (k : Fin 8) (v : Word)
  /-- Host enables a receive stream slot to accept the stream matching SRC_DEV and SRC_SLOT. (R108) -/
  | streamRxEnable (k : Fin 8) (v : Word)
  /-- A stream-samples frame arrives with reference words, probe seed and level, and the sender's Curtain state.
  (R107) -/
  | streamFrameReceived (f : StreamFrame)
  /-- 2 µs without a valid frame declares the stream lost; its paths take X_k = 0 and STREAM_LOST is set. (R111) -/
  | streamLost (k : Fin 8)
  /-- Frames return on a lost stream and its paths recover under the estimate rules. (R111) -/
  | streamRestored (k : Fin 8)
  /-- Host writes SPT_LANE_CFG_n.EN = 1; the arming checks of Table 4-2 run and the lane is armed or refused. (R122)
  -/
  | sptArm (k : Fin 16) (v : Word)
  /-- Host writes MEAS_LANE_CFG_n.EN = 1 on a downlink lane; it is armed for measurement or refused. (R141) -/
  | measArm (n : Fin 16) (v : Word)
  /-- Host writes EN = 0 on an armed lane; an inactive lane disarms at once, an active MEASURE lane at the next
  window boundary. (R123) -/
  | sptDisarm (n : Fin 32) (v : Word)
  /-- At the end of a decision window, every context of the lane is decided and its floor and statistics are updated.
  (R127) -/
  | decisionWindowClose (n : Fin 32) (ecc : Nat)
  /-- An AUTO context open without a break for STUCK_S seconds is reported stuck. (R135) -/
  | contextStuck (c : Fin 32768)
  /-- Host writes a context word; a valid SPT_CTX_CTL write acts from the next window, an invalid one or another word
  is ignored and counted. (R131) -/
  | contextCtlWrite (c : Fin 32768) (idx : Fin 16) (v : Word)
  /-- Host writes SPT_SNAP.GO with a context number, which clears DONE and requests a copy. (R134) -/
  | contextSnapshotGo (dn : Bool) (v : Word)
  /-- At the end of the lane's next window, the 16 context words are copied and DONE sets. (R134) -/
  | contextSnapshotDone (dn : Bool)
  /-- An uncorrectable context-memory or bank ROM error reinitialises or zeroes the affected subbands and raises
  source 31 or 32. (R138) -/
  | contextMemoryUncorr (rom : Bool) (c : Fin 32768)
  /-- At a history interval boundary every context's statistics are copied to its previous-interval words and
  cleared. (R133) -/
  | historyIntervalBoundary (taken : Fin 3)
  /-- The growth criterion is met on a repeating lane and source 13 latches, requesting the Curtain. (R144) -/
  | oscillationGrowth (n : Fin 32)
  /-- The line criterion is met in two consecutive spans and source 13 latches. (R145) -/
  | oscillationLine (n : Fin 32)
  /-- A 4,096-word window meets the overdrive criterion and source 15 latches for the port. (R146) -/
  | overdriveDetected (m : Fin 8)
  /-- An emission band exceeds its limit in two consecutive 10 µs windows and source 15 latches. (R147) -/
  | emissionDetected (m : Fin 8) (b : Fin 4)
  /-- Host sets CUR_HOST.SHUT bits or ALL, which puts the named ports behind the Curtain within 0.2 µs. (R151) -/
  | remoteShutdown (v : Word)
  /-- Host clears CUR_HOST bits and the HOST cause clears on the named ports. (R157) -/
  | remoteShutdownClear (v : Word)
  /-- The DAC is at zero and PAEN_n inactive on a port, so CUR_STAT.DOWN sets and the quiet period may start. (R153)
  -/
  | curtainComplete (ports : BitVec 8)
  /-- A port's protection cause clears after its source has been quiet for the quiet period. (R157) -/
  | portQuietPeriodEnd (m : Fin 8) (b : Fin 7)
  /-- The last cause on a port has cleared and no hold stands, so a lift starts or waits for a turn-round. (R158) -/
  | liftStart (m : Fin 8)
  /-- The DAC is released at the end of the lift, the lift is counted if due, and the back-off cap starts. (R158) -/
  | liftComplete (m : Fin 8)
  /-- Host writes CUR_RELEASE.PORTS; latches without standing causes are released, others are rejected and counted.
  (R161) -/
  | curtainRelease (v : Word)
  /-- Host writes CLR_HIST, which clears the lift history of the named ports. (R161) -/
  | clearLiftHistory (v : Word)
  /-- At a 1,024-sample boundary where the back-off cap reaches the request or LIMIT, the cap ends and BACKOFF
  clears. (R162) -/
  | backoffEnd (n : Fin 32)
  /-- The oscillator slope measurement of two 100 ms holds completes and writes KV. (R172) -/
  | kvMeasurementDone (kv : BitVec 16)
  /-- Host writes TIME_DET_CFG_k.EN = 1; the detector checks run and the search starts or is refused. (R174) -/
  | timeDetectorEnable (k : Fin 4) (v : Word)
  /-- A detector finds the donor's synchronisation signals and measures the timebase against donor-derived time.
  (R175) -/
  | syncDetection (k : Fin 4) (pci : BitVec 10) (sinr : BitVec 8) (ph : Int) (fe : Int)
  /-- No matching detection for LOSS × 50 ms makes the detector LOST and may enter holdover. (R175) -/
  | detectorLost (k : Fin 4)
  /-- A rising PPS_IN edge is stamped, or serves the discipline loop in SOURCE mode. (R185) -/
  | ppsInEdge (fe : Int)
  /-- A follower takes time from a time message arriving over its path, applying the measured arc delay. (R188) -/
  | timeMessageReceived (m : TimeMsg)
  /-- A delay request frame arrives and is answered with a timestamped delay answer. (R188) -/
  | delayRequestReceived (p : Bool) (t1 : Nat)
  /-- A delay answer arrives and yields the one-way delay of the arc. (R188) -/
  | delayAnswerReceived (p : Bool) (dn : Bool) (rtt : Nat) (turn : Nat) (corr : Int)
  /-- The vertex enters holdover or FREE and a ready understudy becomes reference, hitless or by a step on an invalid
  ring. (R193) -/
  | understudyTakeover (ph : Int)
  /-- Host writes TDD_CTL.SWAP; the inactive bank is checked and the swap is pending or refused. (R197) -/
  | tddSwap (v : Word)
  /-- A pending swap takes effect at the first interval of the named frame and may end a GUARD_FAIL cause. (R197) -/
  | tddSwapApply (x : Fin 2)
  /-- An uncorrectable error in a pattern bank raises BANK_ECC_UNCORR of source 10. (R198) -/
  | tddBankEccError (x : Fin 2)
  /-- The TDD block hands the sequencer the end of a port use, which starts a turn-round. (R196) -/
  | portUseEnd (m : Fin 8) (tx : Bool)
  /-- Host writes RFC_PORT_CFG_m.TARGET = OFF and the port goes to OFF, cutting any transmit use. (R207) -/
  | portCmdOff (m : Fin 8) (v : Word)
  /-- Host writes TARGET = RX, and the command completes when the port reaches RX. (R207) -/
  | portCmdRx (m : Fin 8) (v : Word)
  /-- Host writes TARGET = TX, and the command completes when the port would transmit but for Curtain causes and
  device state. (R207) -/
  | portCmdTx (m : Fin 8) (v : Word)
  /-- At a nominal instant of Table 7-3, a line of the port changes during a turn-round. (R208) -/
  | turnRoundLineEvent (m : Fin 8)
  /-- 1.75 µs after the use end the path is live and the port reads RX or TX. (R208) -/
  | turnRoundComplete (m : Fin 8)
  /-- PA_SETTLE after PAEN assertion on an FDD port, the DAC is released at the next lane-sample boundary. (R210) -/
  | paSettleExpiry (m : Fin 8)
  /-- The synthesiser calibration step ends and the state becomes LOCKING, or FAILED with ERR 3. (R212) -/
  | synCalComplete (b : Bool) (ok : Bool)
  /-- The synthesiser locks and its converters start calibration, or it fails with ERR 4. (R212) -/
  | synLock (b : Bool) (ok : Bool)
  /-- SETTLE after converter calibration the synthesiser reads READY, SYN_HOLD clears and pending port commands
  proceed. (R212) -/
  | synReady (b : Bool)
  /-- Loss of lock on a READY synthesiser disables its lanes, holds its ports and starts recalibration attempts.
  (R214) -/
  | synLossOfLock (b : Bool)
  /-- PAEN still active 10 µs after a TDD transmit use ends latches source 17 for the port. (R215) -/
  | txTimeoutTdd (m : Fin 8)
  /-- An FDD port's loss timer reaches LOSS_LIM and source 17 latches for the port. (R216) -/
  | presenceLossTimeout (m : Fin 8)
  /-- Host writes ATTN_CTL_x.GO, which starts shifting the frame or holds it as the pending frame. (R219) -/
  | attnGo (x : Fin 2)
  /-- The attenuator frame has been shifted out; LE follows at once or waits for the LATCH instant. (R218) -/
  | attnShiftDone (x : Fin 2)
  /-- LE is issued at the turn-round or frame boundary after the shift, latching the attenuator frame. (R219) -/
  | attnLatch (x : Fin 2)
  /-- COEX_REQ_IN rises and is granted, deferred or denied according to IN_POL. (R220) -/
  | coexReqInRise (pri : Bool)
  /-- LEAD before a transmit use or TX entry on a shared port, COEX_REQ_OUT rises. (R221) -/
  | coexReqOutRaise (m : Fin 8)
  /-- A front-end ball differs from its driven level for 1 µs, or the sequencer has a parity error, which raises
  source 12. (R223) -/
  | rfcLineMismatch (m : Fin 8) (parity : Bool)
  /-- Host writes LP_CFG.EN = 1; the checks of Table 8-5 run and the loop starts at sample 0 or is refused. (R246) -/
  | loopEnable (l : Fin 256) (v : Word)
  /-- Host writes EN = 0 and the loop stops at its next boundary, keeping its states. (R246) -/
  | loopDisable (l : Fin 256) (v : Word)
  /-- At a loop's sample boundary, the previous output is sent and the evaluation of the new sample starts. (R228) -/
  | loopSampleBoundary (l : Fin 256) (inTime : Bool) (ecc : Nat)
  /-- Host writes LP_CFG.CUE, which requests a bank swap at the loop's next boundary or refuses a bank breaking R236.
  (R239) -/
  | cue (l : Fin 256) (v : Word)
  /-- Host writes CTE_CUE_GRP, which cues every loop of the named groups. (R239) -/
  | cueGroup (v : Word)
  /-- Host sets CTE_CAP_CFG.EN, which arms the capture and clears DONE. (R248) -/
  | captureArm (v : Word)
  /-- An uncorrectable loop, section or table memory error forces the loop to manual and raises source 26. (R249) -/
  | cteMemUncorr (l : Fin 256)
  /-- An uncorrectable capture-memory read returns zero and raises source 26 at NOTE. (R249) -/
  | cteCapUncorr (idx : Fin 65536)
  /-- A gauge window ends and each island's slack and the lowest slack are computed and reported. (R257) -/
  | slackWindowEnd (act : List (Fin 188 × BitVec 12))
  /-- A converter wings buffer crosses its warning level, which raises source 27 and the voltage guard. (R255) -/
  | wingsWarning (w : Fin 22) (x : Nat)
  /-- A wings buffer loses a word; the affected samples are discarded under WINGS and source 27 raised. (R256) -/
  | wingsLoss (ls : List (Fin 32 × Nat))
  /-- Every 1 ms each active lane's ledger is snapshotted and checked for balance and HMAX. (R265) -/
  | ledgerAudit (upsets : List (Fin 32 × Nat))
  /-- Host writes LEDG_SNAP.GO with a lane, which clears DONE and requests a snapshot. (R266) -/
  | ledgerSnapshotGo (v : Word)
  /-- Host writes LEDG_CLR.GO, which requests clearing of a lane's ledger. (R267) -/
  | ledgerClearGo (v : Word)
  /-- Host writes LEDG_MIG_CTL.GO; the migration checks run and WARMING starts or the request is refused. (R268) -/
  | migrationGo (rerr : Fin 9) (rlat : Nat)
  /-- A block reports an occurrence of a cause, setting its PG_ERR bit and, unless masked, delivering an event.
  (R278) -/
  | faultEvent (page : Page) (b : Fin 32) (ports : BitVec 8)
  /-- Host writes PG_ERR_FORCE, which sets a cause and delivers one forced event. (R279) -/
  | forceCause (page : Page) (v : Word)
  /-- Host writes FC_FORCE_LO or HI, which delivers one forced event of the source with no cause bit. (R279) -/
  | forceSource (hi : Bool) (v : Word)
  /-- A source's quiet period ends; its status bit clears, recovery is counted and recorded. (R292) -/
  | sourceRecovery (n : Fin 56)
  /-- Host writes 1 to an FC_STATUS bit; it clears as a recovery if not standing, otherwise it is rejected and
  counted. (R295) -/
  | hostClear (hi : Bool) (v : Word)
  /-- Host writes FC_SEV_n; a valid change of SEV, QSEL or SCOPE acts on later latches and writes record 0x0104.
  (R304) -/
  | severityWrite (n : Fin 64) (v : Word)
  /-- A block hands a record to the recorder; it folds into the open record or is admitted, numbered, dropped or made
  to wait. (R310) -/
  | recordArrival (page : Page) (code : BitVec 16) (sev : Nat) (payload : BitVec 64)
  /-- Host writes PB_CFG; a change of COMPAT closes the open record. (R311) -/
  | pbCfgWrite (v : Word)
  /-- A record's NAND program is confirmed and the record is released from staging. (R34) -/
  | recordConfirmed (seq : BitVec 40)
  /-- PFAIL_N falls or a supply alarm occurs, starting the power-fail flush to the vault. (R316) -/
  | pfailAssert (supply : Bool)
  /-- An uncorrectable staging read loses that record, issues a gap record and raises source 4. (R322) -/
  | stagingUncorr (seq : BitVec 40)
  /-- Verification ends, setting DONE and, on a failing record, FAIL and PB_VFY_BAD. (R321) -/
  | verifyDone (k : Nat)
  /-- After reset the storage manager has identified the medium and reports READY with MEDIUM. (R328) -/
  | storageReady (m : Machine.MediumInfo)
  /-- First format or reshape completes, record 0x0900 is issued and the interrupt set. (R330) -/
  | formatDone (bad : Nat)
  /-- A codeword neither decoder corrects is counted, recorded, raises UNCORR and its block is refreshed. (R334) -/
  | codewordUncorrectable (part : Fin 5) (unit : Nat) (copies : List (List (BitVec 36608)))
  /-- A block's valid data are copied to a fresh block of its pool and the old block erased. (R336) -/
  | blockRefresh (why : Machine.Refresh) (pslc : Bool) (mx : Nat) (mean : Nat)
  /-- A program or erase failure retires the block, places its data elsewhere and records 0x0902. (R338) -/
  | blockRetire (erase : Bool) (pslc : Bool) (ch : Fin 2) (ce : Fin 4) (lun : Fin 16) (block : Word) (spare : Nat)
  /-- Host sets STM_CAP_CFG.ARM, which moves the capture from IDLE to FILLING or is refused. (R346) -/
  | snapshotArm (v : Word)
  /-- A selected trigger arrives and is accepted, merged or missed according to the capture state. (R347) -/
  | snapshotTrigger (b : Fin 4)
  /-- A malformed WIN_A or WIN_B request returns all ones or is discarded and counted. (R356) -/
  | badAccess (winB : Bool) (read : Bool) (off : BitVec 30)
  /-- The vertex tunnels a host read of a remote slice over the register virtual channel. (R357) -/
  | tunnelledRead (dev : Fin 64) (off : BitVec 24)
  /-- Host writes DMA_Q_TAIL_q, making the covered descriptors visible to the queue. (R360) -/
  | dmaDoorbell (q : Fin 8) (v : Word)
  /-- A KIND 0 descriptor performs no operation and completes. (R359) -/
  | descNop (q : Fin 8) (d : Desc)
  /-- A KIND 1 descriptor moves data from a device's WIN_B layout to host memory. (R359) -/
  | descMemoryRead (q : Fin 8) (d : Desc)
  /-- A KIND 2 descriptor reads units of a partition to host memory, zero-filling uncorrectable units. (R349) -/
  | descMediumRead (q : Fin 8) (d : Desc)
  /-- A KIND 3 descriptor reads a range of registers in ascending order into host memory. (R359) -/
  | descRegisterRead (q : Fin 8) (d : Desc)
  /-- A KIND 4 descriptor reads host memory and writes a range of registers in ascending order. (R359) -/
  | descRegisterWrite (q : Fin 8) (d : Desc) (ws : List Word)
  /-- A descriptor of KIND 5 to 15 or misaligned completes with STATUS 6. (R359) -/
  | descRefusedKind (q : Fin 8) (d : Desc)
  /-- A descriptor's completion entry is written at CQ_TAIL in descriptor order, with moderation of R362. (R361) -/
  | descComplete (q : Fin 8)
  /-- A descriptor read fails; it completes with STATUS 4, the queue stops and FETCH_ERR is raised. (R363) -/
  | descFetchError (q : Fin 8)
  /-- Host writes DMA_CQ_HEAD_q, consuming entries and lowering the completion source level. (R362) -/
  | cqHeadWrite (q : Fin 8) (v : Word)
  /-- The oldest unsignalled entry has waited MOD_TIME and SIG advances to CQ_TAIL. (R362) -/
  | moderationTimeout (q : Fin 8)
  /-- Host writes DMA_Q_CFG_q.EN = 1; the queue is refused or moves to RUNNING. (R363) -/
  | queueEnable (q : Fin 8) (v : Word)
  /-- Host writes EN = 0 and the queue moves to DRAINING, or from STOPPED to IDLE. (R363) -/
  | queueDisable (q : Fin 8) (v : Word)
  /-- The descriptor in progress on a draining queue completes and the queue moves to IDLE. (R363) -/
  | queueDrained (q : Fin 8)
  /-- Host writes RESET on an idle disabled queue, which sets all indices to 0 and PHASE to 1. (R363) -/
  | queueReset (q : Fin 8) (v : Word)
  /-- The function enters D3hot, cutting short descriptors in progress and beginning host sleep. (R363) -/
  | d3hotEntry (pmeEn : Bool)
  /-- An interrupt source level rises on an idle enabled source and the gateway accepts an assertion. (R364) -/
  | sourceAssertion (n : Fin 256)
  /-- A target reads its claim register in a class bank and the highest qualifying source becomes active. (R366) -/
  | icClaim (t : Fin 4) (fast : Bool)
  /-- A target writes its completion register; a valid completion returns the source to idle, otherwise it is counted
  as bad. (R367) -/
  | icComplete (t : Fin 4) (fast : Bool) (n : BitVec 8)
  /-- Host writes IC_SRC_n, changing enable, class or targets and possibly a wake. (R364) -/
  | sourceConfigWrite (n : Fin 256) (v : Word)
  /-- Host writes IC_CNT_PTR, which copies the source's counts and state at one instant. (R372) -/
  | countSnapshot (v : Word)
  /-- Host writes 1 to an IC_WAKE bit, which clears it and may release WAKE_N. (R370) -/
  | wakeClear (v : Word)
  /-- Host writes IC_TGT_CFG_t; clearing ASLEEP clears the target's wake bit. (R370) -/
  | targetConfigWrite (t : Fin 4) (v : Word)
  /-- A masked MSI-X vector is unmasked and its message sent if the line is asserted. (R369) -/
  | msixUnmask (v : Fin 4)
  /-- A poisoned, malformed or ECRC-failed TLP or unsupported request raises PCIE_UNCORR. (R374) -/
  | pcieErrorTlp (corr : Bool)
  /-- A parity error in a source's controller state returns it to idle with record 0x0801. (R374) -/
  | icStateParity (n : Fin 256)
  /-- A parity error in a DMA engine buffer completes the descriptor with STATUS 5. (R374) -/
  | bufParity (q : Fin 8)
  /-- A ring lane loses block lock for 1 µs and takes its port direction down for retraining. (R381) -/
  | ringLaneLockLoss (p : Bool) (l : Fin 4)
  /-- A ring port direction achieves block lock and deskew and comes up. (R381) -/
  | ringTrainingDone (p : Bool) (tx : Bool) (skew : Word)
  /-- Host writes RETRAIN_UP or RETRAIN_DN, which retrains the port and reinitialises its credits. (R381) -/
  | portRetrain (p : Bool)
  /-- A frame with a failing HCRC takes the port direction down at once. (R383) -/
  | headerCrcFail (p : Bool)
  /-- A frame with a failing end-block CRC is discarded and counted and its credit returned. (R383) -/
  | frameCrcFail (p : Bool) (vc : Fin 4)
  /-- A register-write frame arrives; the next expected SEQ is applied and acknowledged, others discarded or NAKed.
  (R389) -/
  | registerWriteFrame (p : Bool) (src : Fin 64) (seq : BitVec 16) (b : RegBody)
  /-- A register-read frame arrives and is answered with a read-answer frame. (R389) -/
  | registerReadFrame (p : Bool) (src : Fin 64) (seq : BitVec 16) (off : BitVec 24)
  /-- A read answer reaches the vertex and completes the tunnelled read, or is discarded if late. (R357) -/
  | readAnswerFrame (p : Bool) (src : Fin 64) (off : BitVec 24) (v : Word)
  /-- A cumulative acknowledge arrives, freeing unacknowledged writes and refreshing the device's status. (R389) -/
  | ackFrame (p : Bool) (src : Fin 64) (bulk : Bool) (seq : BitVec 16) (line : Bool) (low : Bool) (st : Fin 4)
  /-- A NAK arrives and the source replays from the oldest unacknowledged frame. (R389) -/
  | nakFrame (p : Bool) (src : Fin 64) (bulk : Bool)
  /-- A status frame reaches the vertex, setting the forwarded interrupt level and FAULT_N state of the device.
  (R391) -/
  | statusFrame (p : Bool) (src : Fin 64) (line : Bool) (low : Bool) (st : Fin 4)
  /-- 50 µs without acknowledgement progress makes the source replay unacknowledged frames. (R389) -/
  | replayTimeout (dev : Fin 64) (bulk : Bool)
  /-- A host write held at the vertex is sent once acknowledgements free a place. (R389) -/
  | tunnelWriteReleased (dev : Fin 64)
  /-- A credit-return block arrives and adds credits to the sender's count. (R385) -/
  | creditReturn (p : Bool) (vc : Fin 4) (n : BitVec 8)
  /-- A census marker arrives and the receiver checks that credits total 256, raising source 51 if not. (R386) -/
  | censusMarker (p : Bool) (vc : Fin 4) (cs : Fin 257) (rCum : BitVec 16) (b : Nat) (relayed : Nat)
  /-- An enumeration frame visits a device, which appends its ID, strap and version and learns its position. (R387)
  -/
  | enumerationFrame (p : Bool) (pos : Fin 64) (size : Fin 65) (seen : List MapEntry)
  /-- Enumeration returns to the vertex, filling RING_MAP and RING_PRES and detecting conflicts. (R387) -/
  | enumerationComplete (found : List (Option MapEntry)) (down : List (Fin 64))
  /-- An arc goes down; its end devices raise ARC_DOWN and send break notices. (R393) -/
  | arcDown (p : Bool)
  /-- A break notice arrives and the device routes as a line, recomputing HOPS_LEFT. (R393) -/
  | breakNoticeFrame (p : Bool) (arc : Fin 64)
  /-- A second arc goes down while the ring is a line; SPLIT is raised and the vertex discards writes to absent
  devices. (R394) -/
  | split (gone : List (Fin 64))
  /-- Host writes RING_CTL.RESTORE or AUTO_RESTORE applies; the vertex drains writes and sends a route command.
  (R395) -/
  | ringRestore (host : Bool)
  /-- A route command arrives and the device resumes whole-ring routes. (R395) -/
  | routeCommandFrame (p : Bool)
  /-- Host writes RING_CTL.RST_GO on the vertex, which sends a ring reset to the named or every device. (R396) -/
  | ringResetGo (all : Bool) (dev : Fin 64)
  /-- A bulk request frame for a remote DMA kind 1 or 2 arrives at the device that holds the data. (R384) -/
  | bulkRequestFrame (p : Bool) (src : Fin 64) (seq : BitVec 16) (q : Fin 8) (d : Desc)
  /-- A bulk data frame arrives at the vertex carrying remote DMA data. (R384) -/
  | bulkDataFrame (p : Bool) (src : Fin 64) (seq : BitVec 16) (q : Fin 8) (st : Fin 16) (info : Nat) (last : Bool) (ws : List Word)
  /-- A conversion ends, its result is stored with its flags and the scan or round proceeds or ends. (R404) -/
  | hkConversionEnd (raw : BitVec 16) (ok : Bool)
  /-- An uncorrectable trim read or result-store parity error raises source 18. (R419) -/
  | hkFault (parity : Bool) (ch : Fin 32)
  /-- A PWM channel starts a period, applying written settings and the owner's duty. (R415) -/
  | pwmPeriodStart (n : Fin 6)
  /-- A PWM channel reaches count DUTY and its ball goes inactive. (R415) -/
  | pwmDutyEdge (n : Fin 6)
  /-- A PWM ball differs from its driven level for 1 µs, or a configuration parity error occurs, raising source 21.
  (R418) -/
  | pwmMismatch (n : Fin 6) (parity : Bool)
  /-- An address byte addresses the TWT port; it is acknowledged, or refused and wakes a sleeping port. (R429) -/
  | twtAddress (addr : BitVec 7) (read : Bool)
  /-- A data byte written to TWT sets the pointer or is stored, refused or discarded at the pointer. (R426) -/
  | twtWriteByte (b : Byte) (stop : Bool)
  /-- A byte is read from the window at the pointer, which advances. (R426) -/
  | twtReadByte (stop : Bool) (parity : Bool)
  /-- A read of address 0x0C while an alert is pending transmits the port address and clears the alert unless
  arbitration is lost. (R428) -/
  | alertResponse (lost : Bool)
  /-- Host writes TWC_CMD.GO, which queues a host command or is refused. (R433) -/
  | twcCommandGo (q : Fin 2) (v : Word)
  /-- A controller transaction ends with a result and the controller starts the next waiting item. (R432) -/
  | twcTransactionDone (q : Fin 2) (res : Fin 8) (acked : Fin 64) (bs : List Byte)
  /-- A polling entry falls due every PERIOD ms and is queued, or dropped if its previous instance has not started.
  (R434) -/
  | pollDue (q : Fin 2) (e : Fin 16)
  /-- 1 ms after a failed regulator request, it is sent again. (R435) -/
  | regulatorRetry (q : Fin 2)
  /-- Host writes TWC_CTL.ABORT, which abandons the transaction at once and runs a bus clear. (R436) -/
  | twcAbort (q : Fin 2)
  /-- Host writes TWC_CTL.CLEAR, which runs a bus clear. (R436) -/
  | twcClear (q : Fin 2)
  /-- A bus clear ends in a STOP, or fails after nine pulses and completes waiting items with RESULT 6. (R436) -/
  | busClearDone (q : Fin 2) (ok : Bool)
  /-- PWR_GOOD falls or a rail falls below its reset level; the Curtain completes and the device goes DARK. (R442) -/
  | powerOnReset (kept : Nat)
  /-- Host writes BOOT_RESET with key and KIND host, which performs the host reset. (R442) -/
  | bootResetHost (v : Word)
  /-- Host writes BOOT_RESET with key and KIND fabric, which performs the fabric reset keeping the link. (R442) -/
  | bootResetFabric (v : Word)
  /-- A ring reset frame arrives and the device performs the ring reset kind within 20 µs. (R396) -/
  | ringResetFrame (p : Bool)
  /-- Straps are sampled, REF_IN recognised and the timebase PLL locked. (R447) -/
  | startupPhase0Done (id : Fin 64) (vtx : Bool) (twt : Fin 4) (hm : Fin 4) (ref : Option (Fin 6)) (nvq : Bool)
  /-- The SMEM reset and SFDP read end, the read mode chosen and both copy headers read. (R453) -/
  | smemDiscoveryDone (resp : Bool) (sfdp : Option (Nat × Bool × Bool)) (hdrA : List Byte) (hdrB : List Byte)
  /-- A copy has been read and checked in full, and is loaded or the other copy is checked. (R457) -/
  | imageCopyChecked (blocks : List (List Word)) (tag : List Byte)
  /-- An image WRITE record writes its values to consecutive registers as host writes. (R455) -/
  | imageWrite (off : BitVec 24) (vs : List Word)
  /-- An image MODIFY record reads a register and writes back the masked value. (R455) -/
  | imageModify (off : BitVec 24) (mask : Word) (v : Word)
  /-- An image WAIT record polls a register until the masked value matches. (R455) -/
  | imageWait (off : BitVec 24) (mask : Word) (v : Word) (timeout : Word) (fatal : Bool)
  /-- An image DELAY record starts a wait of the given microseconds. (R455) -/
  | imageDelay (us : Word)
  /-- An image SKIP record tests a register and skips the next count records if it matches. (R455) -/
  | imageSkip (off : BitVec 24) (mask : Word) (v : Word) (isNot : Bool) (count : Word)
  /-- Within 2 s of REHEARSAL the unchecked copy is checked and A_VALID or B_VALID and CHECKED set. (R457) -/
  | backgroundCopyCheck (blocks : List (List Word)) (tag : List Byte)
  /-- Host writes SEC_PROG with CONFIRM and slot; programming starts or is refused. (R463) -/
  | otpProgram (v : Word)
  /-- Programming of a one-time slot ends with RESULT 1 or 3, the key words cleared and record 0x0B10 issued. (R463)
  -/
  | otpProgramDone (ok : Bool)
  /-- Host writes SMEM_CMD.GO, which sends a command to the flash or refuses it under LOCK or BUSY. (R465) -/
  | smemCommandGo (v : Word)
  /-- A flash command ends, after any status poll, with its RESULT, or times out raising CMD_TIMEOUT. (R465) -/
  | smemCommandDone (bs : List Byte) (timeout : Bool)
  /-- Host writes PG_CTL.INT_CLR, which clears every W1C bit of the page's PG_INT_STAT. (R472) -/
  | pageIntClear (page : Page)
  /-- Host writes PG_CTL.ERR_CLR, which clears every bit of the page's PG_ERR. (R472) -/
  | pageErrClear (page : Page)
  /-- A rail crosses its under-alarm level for 1 µs, raising UNDER and starting the power-fail flush. (R487) -/
  | supplyUnderAlarm (r : Fin 7)
  /-- A rail crosses its over-alarm level for 1 µs and raises OVER of source 54. (R487) -/
  | supplyOverAlarm (r : Fin 7)
  /-- Two successive samples of a GPIO input differ and a rising or falling edge bit sets. (R503) -/
  | gpioEdge (m : Fin 16) (level : Bool)
  /-- Host writes a register that has no row of its own, which acts per its access type and range checks. (R6) -/
  | registerWrite (dev : Fin 64) (off : BitVec 24) (v : Word)
  /-- PCI Express link training completes and the Data Link Layer comes up, setting HIF_LINK.UP and the link-state
  interrupt and meeting the LINK_DOWN recovery condition. (R374) -/
  | linkUp (speed : Fin 5) (width : Fin 5)
  /-- A TDD port use begins at the instant set by the pattern, where strict coexistence mode holds the use if
  COEX_GNT_IN is low. (R221) -/
  | portUseStart (m : Fin 8)
  /-- A recovery condition that must hold for a time, such as RFC lines correct for 1 ms, a PWM ball correct for 1 ms
  or every rail inside its alarm levels for 10 ms, has held long enough, and the source's standing signal falls,
  starting its quiet period and ending the RFC OFF-level drive. (R278) -/
  | standingSignalFall (n : Fin 56) (k : Fin 32)
  /-- Host writes the START command to SYS_CMD; it is rejected, held pending under R9, or starts entry to
  PERFORMANCE. (R10) -/
  | sysCmdStart
  /-- Host writes the PAUSE command; from PERFORMANCE the Curtain falls on every port and INTERVAL follows, otherwise
  the command is rejected and counted. (R10) -/
  | sysCmdPause
  /-- Host writes the RESUME command; from INTERVAL it is held pending until R9 is met, otherwise it is rejected.
  (R10) -/
  | sysCmdResume
  /-- Host writes the STOP command; it cancels a pending START or RESUME, or returns PERFORMANCE or INTERVAL to
  REHEARSAL. (R27) -/
  | sysCmdStop
  /-- A SYS_CMD write that arrived during a transition is evaluated against the reached state once IN_TRANSITION
  clears. (R11) -/
  | deferredCmdEvaluation
  /-- A pending START or RESUME takes effect once every entry condition of R9 holds, with the re-ramp of R12 when
  coming from INTERVAL. (R9) -/
  | enterPerformance
  /-- The Curtain completes on every port after a PAUSE; DEV_STATE reads INTERVAL and IN_TRANSITION clears. (R28) -/
  | pauseComplete
  /-- A parity error in the device-state machine forces REHEARSAL, cancels any pending command and raises source 0.
  (R466) -/
  | stateParity
  /-- Host writes CNX_SNAP; both tap counts are frozen at one instant between allocation steps. (R116) -/
  | tapCountSnapshot
  /-- Sightline starts the next search, from the priority queue first and then in ascending path order, unless HOLD
  is set. (R89) -/
  | searchStart
  /-- A search has integrated its samples; peaks and the direct position are reported. (R90) -/
  | searchComplete
  /-- A correlator parity error discards and repeats the search and raises source 30. (R115) -/
  | slnParityError
  /-- A 10 ms frame boundary of the timebase closes a frame for the frame-based measurements. (R170) -/
  | frameBoundary
  /-- Host writes TIME_CTL.SNAP, which copies TOD, the tick count and FRAME at one tick. (R169) -/
  | timeSnapshot
  /-- 10 consecutive seconds within the locked limits take the time state to LOCKED. (R177) -/
  | timeLocked
  /-- Every 1 ms in holdover, E(t) is evaluated; beyond BUDGET the state becomes FREE and timing invalid. (R191) -/
  | holdoverEvaluation
  /-- Host writes TIME_CTL.SET_GO, which is refused on a non-reference device or pends until a frame boundary. (R181)
  -/
  | calendarSetGo
  /-- At the first frame boundary at least 10 µs after the write, TOD is set and CAL_SET sets. (R181) -/
  | calendarSetApply
  /-- Host writes TIME_CTL.REALIGN on the reference, which slews its held Δ toward zero. (R193) -/
  | realign
  /-- At each TOD second boundary less COMP, PPS_OUT rises for WIDTH × 10 µs unless gated. (R184) -/
  | ppsOutPulse
  /-- Every 1 ms the reference sends a time message on its RING_DN arc. (R188) -/
  | timeMessageSend
  /-- Every 1 ms each arc's delay is measured in both directions with delay requests. (R188) -/
  | arcDelayMeasurement
  /-- The understudy's detector has been DETECTED and the ring valid for 60 s, so US_READY sets. (R192) -/
  | usReady
  /-- The reference role returns to the vertex after 60 s of averaging with REVERT, or when the understudy leaves
  valid timing. (R193) -/
  | referenceReturn
  /-- REF_IN is absent or off frequency; the timebase switches to the internal oscillator and source 55 is raised.
  (R199) -/
  | refInFail
  /-- REF_IN has been correct for 100 ms and the synthesisers recalibrate. (R199) -/
  | refInRecovered
  /-- Host writes SYN_CTL.GO_A; it is refused or starts the calibration sequence of CSYN_A. (R211) -/
  | synGoA
  /-- Host writes SYN_CTL.GO_B; it is refused or starts the calibration sequence of CSYN_B. (R211) -/
  | synGoB
  /-- The coexistence hold is complete on every shared port and COEX_GNT_OUT rises. (R220) -/
  | coexGrantOut
  /-- COEX_REQ_IN falls; COEX_GNT_OUT falls and the hold ends. (R220) -/
  | coexReqInFall
  /-- A grant held longer than MAX_HOLD is withdrawn and source 52 is raised. (R222) -/
  | coexMaxHoldExpiry
  /-- COEX_GNT_IN rises, allowing a waiting FDD port to enter TX in strict mode. (R221) -/
  | coexGntInRise
  /-- COEX_GNT_IN falls during transmission; in strict mode the shared ports are held and a withdrawal is counted.
  (R221) -/
  | coexGntInFall
  /-- Host writes CTE_INJ_CTL.GO, which starts an injection at the loop's next boundary. (R247) -/
  | injectGo
  /-- Host writes STOP and the injection ends at the next boundary. (R247) -/
  | injectStop
  /-- Host writes CTE_INJ_CTL.TRIG, which triggers the control-engine capture at the next sample. (R248) -/
  | captureTrig
  /-- The guard's hold-off of HOLDOFF × 0.1 s expires and the 720 mV floor on requests ends. (R260) -/
  | guardHoldoffEnd
  /-- Host writes FAB_CTL.MIN_CLR, which resets every island MIN and wings WORST. (R276) -/
  | minClr
  /-- The counts are frozen at the lane's next sample boundary, checked, and DONE sets. (R266) -/
  | ledgerSnapshotDone
  /-- At the next lane-sample boundary In takes Held and the other counts become zero. (R267) -/
  | ledgerClearApply
  /-- Host writes ABORT before the deadline and the target is disabled, the source running on. (R269) -/
  | migrationAbort
  /-- At sample W the target starts taking in samples and the canceller state is copied. (R269) -/
  | migrationWarmStart
  /-- The target's first warm-up sample has passed the receive side and it reports ready. (R269) -/
  | migrationReady
  /-- At sample S − 64 the migration commits if the target is ready, otherwise it aborts. (R269) -/
  | migrationDeadline
  /-- At sample S the target counts in and delivers, gain and cap are copied and references are re-pointed. (R270) -/
  | migrationBoundary
  /-- The last late result leaves the source, which is disabled, its paths released and spotlight disarmed. (R269) -/
  | migrationDone
  /-- At the end of an arbitration epoch every source with an event latches, ranked, with status, Curtain request,
  record and interrupt. (R285) -/
  | faultEpochLatch
  /-- Host writes FC_FF_CTL.ACK, which ends handling, clears VALID and writes record 0x0103. (R290) -/
  | firstFaultAck
  /-- A FAULT_N pulse of PULSE_W × 10 µs ends and the pin returns to SW_LVL. (R297) -/
  | faultNPulseEnd
  /-- A waiting MAJOR or CURTAIN record is admitted when a staging place frees and takes its number with LATE. (R312)
  -/
  | recordAdmittedAfterWait
  /-- 60 s after issue the open record closes and its tag is computed. (R310) -/
  | foldWindowExpiry
  /-- In COMPAT mode, each rate-limit window end issues a suppression record for each code suppressed. (R311) -/
  | rateLimitWindowEnd
  /-- Every 250 ms a flush hands closed unconfirmed records to the storage manager. (R313) -/
  | flushPeriodic
  /-- Every unconfirmed record is in the vault and the completion mark is written. (R316) -/
  | vaultFlushComplete
  /-- PFAIL_N rises again without reset, recording resumes and a power-restored record is issued. (R316) -/
  | pfailDeassert
  /-- At start the vault records are programmed to NAND, the journal audited, any gap record and the start record
  issued. (R317) -/
  | vaultRestore
  /-- An uncorrectable vault line is rewritten in its next slot and source 53 is raised. (R322) -/
  | vaultLineUncorr
  /-- Host writes PB_RD_CTL.GO, which looks up a record by number wherever it resides. (R320) -/
  | pbReadGo
  /-- The looked-up record is copied to PB_RD_DATA and DONE sets with WHERE and OPEN. (R320) -/
  | pbReadDone
  /-- Host writes PB_VFY_CTL.GO, which starts verification of a range of records. (R321) -/
  | verifyGo
  /-- Host writes PB_VFY_CTL.STOP and verification ends at the next record. (R321) -/
  | verifyStop
  /-- Host or image writes STM_FMT_CTL.GO; the format checks run and first format starts or is refused. (R329) -/
  | formatGo
  /-- Host writes STM_FMT_CTL.RESHAPE, which sets a new S, recomputes H and empties both rings. (R331) -/
  | reshape
  /-- The patrol scrub completes a pass over every programmed codeword. (R337) -/
  | scrubPassComplete
  /-- Every 3,600 s of powered time or 8,192 erases the erase-count table is checkpointed. (R339) -/
  | wearCheckpoint
  /-- A chip enable stays busy for 50 ms and raises the CHANNEL cause of source 5. (R350) -/
  | ceBusyTimeout
  /-- Host writes STM_CAP_CTL.TRIG, which triggers the IQ capture. (R347) -/
  | snapshotHostTrigger
  /-- The capture has N samples around the trigger and STATE becomes WRITING. (R346) -/
  | snapshotFillComplete
  /-- The last snapshot unit is programmed; record 0x0901 is issued and STATE returns to FILLING or IDLE. (R346) -/
  | snapshotStored
  /-- A write to WIN_B is discarded and HIF_WINB_WR_CNT increments. (R356) -/
  | winbWrite
  /-- A tunnelled read unanswered after TUN_TO completes with all ones and raises TUNNEL_TIMEOUT. (R357) -/
  | tunnelTimeout
  /-- The function returns to D0; cut descriptors complete with STATUS 5 and their queues are STOPPED. (R363) -/
  | d0Return
  /-- MSI-X is enabled in configuration space and each asserted vector is sent once. (R369) -/
  | msixEnable
  /-- Host writes HIF_PM.SLEEP = 1 or D3hot begins; MSI-X targets are made asleep and completions signalled. (R371)
  -/
  | hostSleepEntry
  /-- SLEEP reads 0 with the function in D0, clearing ASLEEP and wake bits of MSI-X targets. (R371) -/
  | hostSleepExit
  /-- The PCI Express Data Link Layer goes down without a reset, raising LINK_DOWN of source 6. (R374) -/
  | linkDown
  /-- A non-vertex device sends a status frame on a change or every 1 ms. (R391) -/
  | statusFrameSend
  /-- Every 1 ms each sender places a census marker on each VC of each trained port direction. (R386) -/
  | censusMarkerSend
  /-- The vertex sends an enumeration frame after training, 100 ms after reset, or on any port change. (R387) -/
  | enumerationStart
  /-- Neither vertex port trains within 100 ms and the vertex runs alone as SINGLE. (R387) -/
  | singleTimeout
  /-- A trained non-vertex device receives no enumeration within 1 s and raises NO_VERTEX. (R387) -/
  | noVertexTimeout
  /-- At a tick count that is a multiple of PERIOD × 1,024 a timer trigger arrives, held or discarded. (R406) -/
  | hkTimerTrigger
  /-- A period start or duty edge of the selected PWM channel arrives as a housekeeping trigger. (R406) -/
  | hkPwmTrigger
  /-- Host writes HK_CTL.GO, which delivers a host trigger. (R406) -/
  | hkGo
  /-- A held trigger's scan starts at its start instant or, late, when the converter becomes free. (R407) -/
  | hkScanStart
  /-- Every 1 ms the slow round of channels 24 to 31 is requested. (R408) -/
  | slowRoundRequest
  /-- The cooling timer has run 1 s; the islands return, synthesisers calibrate and lanes restart. (R413) -/
  | thermalRestart
  /-- Host writes THM_CTL.MAX_CLR, which resets every THM_MAX_s. (R422) -/
  | maxClr
  /-- Every 1,024 ticks a bias DAC output moves toward its target by at most STEP codes. (R417) -/
  | bdacStep
  /-- A repeated START at an acknowledge discards the byte just moved and is counted. (R430) -/
  | twtRepeatedStartAtAck
  /-- SCL held low for 35 ms inside a transaction abandons it and raises STUCK. (R431) -/
  | twtSclStuck
  /-- IDLE_S seconds without an addressed transaction put the TWT port to sleep. (R429) -/
  | twtIdleSleep
  /-- Host writes TWT_CTL.IN_ACK, which clears IN_FULL. (R427) -/
  | mailboxInAck
  /-- Host writes TWT_CTL.OUT_GO, which sets OUT_FULL and the OUT alert cause, or is refused. (R427) -/
  | mailboxOutGo
  /-- Host writes TWT_CTL.ALERT, which latches the host alert cause. (R428) -/
  | hostAlert
  /-- RESET_N is held low for at least 1 µs and the device is reset. (R442) -/
  | pinReset
  /-- A PCI Express Hot Reset or Function Level Reset performs the host reset kind. (R442) -/
  | hostReset
  /-- The reset is released and start-up begins at phase 0 or phase 1. (R443) -/
  | resetRelease
  /-- An image NOP record runs and does nothing. (R455) -/
  | imageNop
  /-- A WAIT record times out, continuing or, with FATAL, ending phase 3 as ABORTED. (R458) -/
  | imageWaitTimeout
  /-- The DELAY wait expires and the next record runs. (R455) -/
  | imageDelayEnd
  /-- An image CALIBRATE record starts both synthesisers and waits for READY or FAILED. (R455) -/
  | imageCalibrate
  /-- An image END record ends phase 3. (R455) -/
  | imageEnd
  /-- LOAD_LIMIT expires; the running record is abandoned, ABORTED set and LOAD_ABORT raised. (R448) -/
  | loadLimitExpiry
  /-- Phase 4 starts both synthesisers with the NUM and DEN in force when no CALIBRATE record ran. (R459) -/
  | startupCalibration
  /-- Start-up reaches phase 5; REHEARSAL is entered, BOOT_TIME written and the autonomous START held pending if
  honoured. (R447) -/
  | rehearsalEntry
  /-- Every rail returns inside its alarm levels without reset and recording resumes as after PFAIL_N rising. (R487)
  -/
  | supplyAlarmClear
  /-- In pulse mode, a latch that fell in the 10 µs after a pulse gives its own FAULT_N pulse when those 10 µs have
  passed. (R297) -/
  | deferredFaultNPulse
  deriving DecidableEq, Repr

end Sys2Proof
end

