-- ==== Sys2Proof/Config.lean ====
section
/-! DEFINITION. What one device fixes and the values that the specification leaves open: constants without a body, so
that no statement can rest on a value of them. -/
namespace Sys2Proof.Config

/-- A value that the specification leaves open, fresh for each draw of the state's counter. -/
opaque freeValue : Nat → BitVec 64

/-- The deviation of the linear gain factor of a gain code from the code's value (R66). -/
opaque gainDev : Nat → BitVec 16

/-- The channel-filter ROM by entry and coefficient below the centre tap (R63, R65): a Kaiser-window design that is not
printed. -/
opaque chfRom : Nat → Nat → BitVec 18

/-- By how much the coefficients of an entry miss the sum 2^17, by the rounding of each (R64). -/
opaque chfDev : Nat → BitVec 16

/-- The resampler ROM by phase and tap. -/
opaque rsmRom : Nat → Nat → BitVec 18

/-- Cosine and sine of a phase accumulator in units of 2^-17 (R62): the rule gives no precision of the NCOs. -/
opaque nco : BitVec 48 → BitVec 36

/-- A coefficient of the polyphase decimator for a factor M and of the halfband decimator, in units of 2^-17, by its
distance from the end of the symmetric response. The specification prints the group delays alone. -/
opaque decTap : Nat → Nat → BitVec 20
opaque hbTap : Nat → BitVec 20

/-- The same of the interpolator by Mt and of the halfband interpolator. -/
opaque upTap : Nat → Nat → BitVec 20
opaque hbUpTap : Nat → BitVec 20

/-- The response equaliser of a transmit port in NRZ or mixed mode over its sums, newest first (CONVTX_CFG.SINC_EQ). -/
opaque sincEq : Bool → List Int → Int

/-- The mean power of a transmit port's words, oldest first, inside a band of a centre and a width in units of
Fs_tx / 2^16, in units of 2^-40 of a full-scale sine (R147): the filter behind it is not given. -/
opaque bandPower : Int → Nat → List Int → Nat

/-- The power in a bin of the transform of the reference-point words of a span, newest first (R145): its window is not
given. -/
opaque binPower : List (BitVec 36) → Nat → Nat

/-- The mean power of the analysis output of a subband of a resolution at a lane sample, for the words at the output of the
channel filter, newest first (R120, R126): in units of 2^-100 full scale. -/
opaque analysis : Nat → Int → List (BitVec 36) → BitVec 101

/-- The power of the part of residual words that is correlated with the reference words at a list of tap positions, all newest
first, summed over the words in units of the squared word (R101, R144): the rules give no estimator. -/
opaque correlated : List (BitVec 36) → List (List (BitVec 36)) → BitVec 64

/-- What a subband of a resolution adds to the output of the spotlight synthesis at unit gain, for the words at the output
of the channel filter, newest first (R120): the banks' responses are not printed. I and Q, in units of 2^-6. -/
opaque subband : Nat → Int → List (BitVec 36) → BitVec 48

/-- A reference sample turned by a phase in units of 2^-31 turn (R78): I and Q, 18 bits each. The rule gives no
precision of the rotation. -/
opaque rotate : Nat → BitVec 36 → BitVec 36

/-- The isolation probe of a generator seed at a lane sample number, for a channel-filter entry and a level in units of
2^-16 dB (R98): I and Q. The mapping of the PRBS to complex noise is not given. -/
opaque probe : Nat → Nat → Nat → Int → BitVec 36

/-- The peak level of a converter over a 1 ms window of the tick count, in 1/16 dBFS (CONVRX_PEAK, CONVTX_PEAK): the
analogue input and the converter's samples are outside the model. -/
opaque peak : Nat → Nat → BitVec 16

/-- The parity of a codeword's data and metadata; whether the hard decoder corrects a codeword as read, and whether the soft
decoder corrects it from the hard read and the retry reads; and the corrected bits that the hard decoder is capable of
(R327, R333, R336): the code and its decoders are not printed, and the correction limits are typical values. -/
opaque ldpcParity : BitVec 32896 → BitVec 3712
opaque ldpcHard : BitVec 36608 → Bool
opaque ldpcSoft : List (BitVec 36608) → Bool
opaque hardLimit : Nat

/-- The 16 metadata bytes of a codeword from its partition, unit, write sequence and erase count (R333): their places are not
given; and the erase count of the block that a programmed unit takes, which the mapping of the medium decides. -/
opaque cwMeta : Nat → Nat → Nat → Nat → BitVec 128
opaque eraseCount : Nat → Nat → Nat → Nat

/-- Whether a chip of 1 of the control engine's PRBS-15 gives +AMP (R247 does not say). -/
opaque prbsPositive : Bool

/-- The factory trim of a housekeeping channel as HK_TRIM reads it (R402): OFS above GAIN, both signed. -/
opaque hkTrim : Nat → BitVec 32

end Sys2Proof.Config
end

