-- ==== Sys2Proof/Machine/Regs.lean ====
section
/-! DEFINITION. The register directory: every field of every register of the slice (spec/18_register_directory.md
R470, R471, and the field tables of the chapters), as the offset, the place in the word and the reset value that the
tables give. A page's registers repeat with a stride, so a field is read at an index. -/
namespace Sys2Proof.Machine

/-- A field of a register: the slice offset of its word at index 0, the distance to the word at the next index, its
lowest bit, its width, its reset value at each index, and the indexes that exist: `runs` runs of `n` indexes, a run every
`per` indexes. -/
structure Fld where
  off : Nat
  stride : Nat
  lo : Nat
  w : Nat
  rst : Nat → Nat
  n : Nat
  per : Nat
  runs : Nat

/-- The field exists at index `i`. -/
def Fld.has (f : Fld) (i : Nat) : Bool := decide (i % f.per < f.n) && decide (i / f.per < f.runs)

/-- The slice offset of the word that holds the field at index `i`. -/
def Fld.addr (f : Fld) (i : Nat) : Nat := f.off + f.stride * i

/-- The place of the field in the register file: the word's offset and the lowest bit, in one number. -/
def Fld.key (f : Fld) (i : Nat) : Nat := f.addr i * 32 + f.lo

/-- Access types (spec/00_scope.md R7, Table 0-2). The tables use no W1S field, and a reserved field has no row. -/
inductive Acc where
  | rw | ro | w1c | wo
  deriving DecidableEq, Repr

/-- A row of the directory: a field, its first index, how many indexes it has, and its access type. -/
structure Row where
  f : Fld
  i0 : Nat
  n : Nat
  acc : Acc

/-- The SYS page (Table 18-1). -/
def pgSYS : Nat := 0x0
/-- The BOOT page (Table 18-1). -/
def pgBOOT : Nat := 0x1000
/-- The SEC page (Table 18-1). -/
def pgSEC : Nat := 0x2000
/-- The FC page (Table 18-1). -/
def pgFC : Nat := 0x4000
/-- The IC page (Table 18-1). -/
def pgIC : Nat := 0x5000
/-- The PB page (Table 18-1). -/
def pgPB : Nat := 0x8000
/-- The STM page (Table 18-1). -/
def pgSTM : Nat := 0x9000
/-- The HIF page (Table 18-1). -/
def pgHIF : Nat := 0xA000
/-- The DMA page (Table 18-1). -/
def pgDMA : Nat := 0xB000
/-- The RING page (Table 18-1). -/
def pgRING : Nat := 0xC000
/-- The TIME page (Table 18-1). -/
def pgTIME : Nat := 0xD000
/-- The TDD page (Table 18-1). -/
def pgTDD : Nat := 0xE000
/-- The SYN page (Table 18-1). -/
def pgSYN : Nat := 0xF000
/-- The RFC page (Table 18-1). -/
def pgRFC : Nat := 0x10000
/-- The CUR page (Table 18-1). -/
def pgCUR : Nat := 0x11000
/-- The PROT page (Table 18-1). -/
def pgPROT : Nat := 0x12000
/-- The HK page (Table 18-1). -/
def pgHK : Nat := 0x13000
/-- The THM page (Table 18-1). -/
def pgTHM : Nat := 0x14000
/-- The PWM page (Table 18-1). -/
def pgPWM : Nat := 0x15000
/-- The TWT page (Table 18-1). -/
def pgTWT : Nat := 0x16000
/-- The TWC page (Table 18-1). -/
def pgTWC : Nat := 0x17000
/-- The SMEM page (Table 18-1). -/
def pgSMEM : Nat := 0x19000
/-- The CTE page (Table 18-1). -/
def pgCTE : Nat := 0x1A000
/-- The FAB page (Table 18-1). -/
def pgFAB : Nat := 0x1B000
/-- The LEDG page (Table 18-1). -/
def pgLEDG : Nat := 0x1C000
/-- The CONVRX page (Table 18-1). -/
def pgCONVRX : Nat := 0x20000
/-- The CONVTX page (Table 18-1). -/
def pgCONVTX : Nat := 0x28000
/-- The LANE page (Table 18-1). -/
def pgLANE : Nat := 0x30000
/-- The CHF page (Table 18-1). -/
def pgCHF : Nat := 0x50000
/-- The RSM page (Table 18-1). -/
def pgRSM : Nat := 0x51000
/-- The CNX page (Table 18-1). -/
def pgCNX : Nat := 0x52000
/-- The SLN page (Table 18-1). -/
def pgSLN : Nat := 0x53000
/-- The SPT page (Table 18-1). -/
def pgSPT : Nat := 0x54000
/-- The MEAS page (Table 18-1). -/
def pgMEAS : Nat := 0x55000

/-- The page of instance `n` of a page with several instances. -/
def pgAt (base n : Nat) : Nat := base + 0x1000 * n

/-! Header words (R471, Table 18-2), indexed by the page's offset. -/
def PG_CTL_INT_CLR : Fld := ⟨0x004, 1, 1, 1, fun _ => 0, 1, 0x1000, 128⟩
def PG_CTL_ERR_CLR : Fld := ⟨0x004, 1, 0, 1, fun _ => 0, 1, 0x1000, 128⟩
def PG_ERR : Fld := ⟨0x00C, 1, 0, 32, fun _ => 0, 1, 0x1000, 128⟩
def PG_ERR_MASK : Fld := ⟨0x010, 1, 0, 32, fun _ => 0, 1, 0x1000, 128⟩
def PG_ERR_FORCE : Fld := ⟨0x014, 1, 0, 32, fun _ => 0, 1, 0x1000, 128⟩
def PG_INT_STAT : Fld := ⟨0x018, 1, 0, 32, fun _ => 0, 1, 0x1000, 128⟩
/-- FC resets to 7 (Table 18-2). -/
def PG_INT_EN : Fld := ⟨0x01C, 1, 0, 32, fun p => if p = pgFC then 7 else 0, 1, 0x1000, 128⟩

/-- Reset severity of a fault source (spec/10_fault_collector.md R280, Table 10-1). -/
def resetSev (n : Nat) : Nat :=
  if n = 10 ∨ n = 11 ∨ (13 ≤ n ∧ n ≤ 17) ∨ n = 20 ∨ n = 33 ∨ n = 34 ∨ n = 55 then 4
  else if n = 5 ∨ n = 7 ∨ n = 9 ∨ n = 18 ∨ n = 19 ∨ (21 ≤ n ∧ n ≤ 25) ∨ n = 30 ∨ n = 32 ∨ n = 52 then 2
  else 3

/-- Sources whose severity is fixed at CURTAIN (Table 10-1). -/
def fixedSev (n : Nat) : Bool := (13 ≤ n && n ≤ 17) || n == 20


/-! SYS page: spec/01_architecture.md, Table 1-8 and the tables beside it. -/
def SYS_CMD : Fld := ⟨0x40, 0, 0, 3, fun _ => 0, 1, 1, 1⟩
def SYS_STATE_CUR_LATCHED : Fld := ⟨0x44, 0, 24, 1, fun _ => 0, 1, 1, 1⟩
def SYS_STATE_DEV_ID : Fld := ⟨0x44, 0, 16, 6, fun _ => 0, 1, 1, 1⟩
def SYS_STATE_VERTEX : Fld := ⟨0x44, 0, 13, 1, fun _ => 1, 1, 1, 1⟩
def SYS_STATE_AUTONOMOUS : Fld := ⟨0x44, 0, 12, 1, fun _ => 0, 1, 1, 1⟩
def SYS_STATE_ISO_VALID : Fld := ⟨0x44, 0, 11, 1, fun _ => 0, 1, 1, 1⟩
def SYS_STATE_PROT_ARMED : Fld := ⟨0x44, 0, 10, 1, fun _ => 0, 1, 1, 1⟩
def SYS_STATE_TIME_ACQ : Fld := ⟨0x44, 0, 9, 1, fun _ => 0, 1, 1, 1⟩
def SYS_STATE_CAL_DONE : Fld := ⟨0x44, 0, 8, 1, fun _ => 0, 1, 1, 1⟩
def SYS_STATE_IN_TRANSITION : Fld := ⟨0x44, 0, 5, 1, fun _ => 0, 1, 1, 1⟩
def SYS_STATE_PENDING : Fld := ⟨0x44, 0, 2, 3, fun _ => 0, 1, 1, 1⟩
def SYS_STATE_DEV_STATE : Fld := ⟨0x44, 0, 0, 2, fun _ => 1, 1, 1, 1⟩
def SYS_REJ_CNT : Fld := ⟨0x48, 0, 0, 16, fun _ => 0, 1, 1, 1⟩

/-! CONVRX page: spec/02_lanes_and_converters.md, Table 2-12 and the tables beside it. -/
def CONVRX_CFG_OVR_CNT_CLR : Fld := ⟨0x20040, 0x1000, 8, 1, fun _ => 0, 8, 8, 1⟩
def CONVRX_CFG_BGCAL_EN : Fld := ⟨0x20040, 0x1000, 2, 1, fun _ => 1, 8, 8, 1⟩
def CONVRX_CFG_SIDE : Fld := ⟨0x20040, 0x1000, 1, 1, fun _ => 0, 8, 8, 1⟩
def CONVRX_CFG_EN : Fld := ⟨0x20040, 0x1000, 0, 1, fun _ => 0, 8, 8, 1⟩
def CONVRX_STAT_OVR_STICKY : Fld := ⟨0x20044, 0x1000, 3, 1, fun _ => 0, 8, 8, 1⟩
def CONVRX_STAT_OVR_NOW : Fld := ⟨0x20044, 0x1000, 2, 1, fun _ => 0, 8, 8, 1⟩
def CONVRX_STAT_CAL_FAIL : Fld := ⟨0x20044, 0x1000, 1, 1, fun _ => 0, 8, 8, 1⟩
def CONVRX_STAT_CAL_DONE : Fld := ⟨0x20044, 0x1000, 0, 1, fun _ => 0, 8, 8, 1⟩
def CONVRX_OVR_CNT : Fld := ⟨0x20048, 0x1000, 0, 32, fun _ => 0, 8, 8, 1⟩
def CONVRX_PEAK : Fld := ⟨0x2004C, 0x1000, 0, 16, fun _ => 0x8000, 8, 8, 1⟩
def CONVRX_BGCAL_AGE : Fld := ⟨0x20050, 0x1000, 16, 16, fun _ => 0xffff, 8, 8, 1⟩
def CONVRX_BGCAL_CYCLES : Fld := ⟨0x20050, 0x1000, 0, 16, fun _ => 0, 8, 8, 1⟩

/-! CONVTX page: spec/02_lanes_and_converters.md, Table 2-16 and the tables beside it. -/
def CONVTX_CFG_BACKOFF : Fld := ⟨0x28040, 0x1000, 16, 8, fun _ => 0, 8, 8, 1⟩
def CONVTX_CFG_CLIP_CNT_CLR : Fld := ⟨0x28040, 0x1000, 8, 1, fun _ => 0, 8, 8, 1⟩
def CONVTX_CFG_SINC_EQ : Fld := ⟨0x28040, 0x1000, 4, 1, fun _ => 1, 8, 8, 1⟩
def CONVTX_CFG_MODE : Fld := ⟨0x28040, 0x1000, 3, 1, fun _ => 0, 8, 8, 1⟩
def CONVTX_CFG_BGCAL_EN : Fld := ⟨0x28040, 0x1000, 2, 1, fun _ => 1, 8, 8, 1⟩
def CONVTX_CFG_SIDE : Fld := ⟨0x28040, 0x1000, 1, 1, fun _ => 0, 8, 8, 1⟩
def CONVTX_CFG_EN : Fld := ⟨0x28040, 0x1000, 0, 1, fun _ => 0, 8, 8, 1⟩
def CONVTX_STAT_CURTAIN : Fld := ⟨0x28044, 0x1000, 4, 1, fun _ => 1, 8, 8, 1⟩
def CONVTX_STAT_CLIP_STICKY : Fld := ⟨0x28044, 0x1000, 3, 1, fun _ => 0, 8, 8, 1⟩
def CONVTX_STAT_CLIP_NOW : Fld := ⟨0x28044, 0x1000, 2, 1, fun _ => 0, 8, 8, 1⟩
def CONVTX_STAT_CAL_FAIL : Fld := ⟨0x28044, 0x1000, 1, 1, fun _ => 0, 8, 8, 1⟩
def CONVTX_STAT_CAL_DONE : Fld := ⟨0x28044, 0x1000, 0, 1, fun _ => 0, 8, 8, 1⟩
def CONVTX_CLIP_CNT : Fld := ⟨0x28048, 0x1000, 0, 32, fun _ => 0, 8, 8, 1⟩

/-! LANE page: spec/02_lanes_and_converters.md, Table 2-18 and the tables beside it. -/
def LANE_CFG_EN : Fld := ⟨0x30040, 0x1000, 31, 1, fun _ => 0, 32, 32, 1⟩
def LANE_CFG_TX_EN : Fld := ⟨0x30040, 0x1000, 30, 1, fun _ => 0, 32, 32, 1⟩
def LANE_CFG_TDD : Fld := ⟨0x30040, 0x1000, 29, 1, fun _ => 0, 32, 32, 1⟩
def LANE_CFG_RX_PORT : Fld := ⟨0x30040, 0x1000, 24, 3, fun _ => 0, 32, 32, 1⟩
def LANE_CFG_TX_PORT : Fld := ⟨0x30040, 0x1000, 20, 3, fun _ => 0, 32, 32, 1⟩
def LANE_CFG_RATE : Fld := ⟨0x30040, 0x1000, 16, 3, fun _ => 0, 32, 32, 1⟩
def LANE_RX_FTW_LO : Fld := ⟨0x30044, 0x1000, 0, 32, fun _ => 0, 32, 32, 1⟩
def LANE_TX_FTW_LO : Fld := ⟨0x30050, 0x1000, 0, 32, fun _ => 0, 32, 32, 1⟩
def LANE_RX_FTW_HI : Fld := ⟨0x30048, 0x1000, 0, 16, fun _ => 0, 32, 32, 1⟩
def LANE_TX_FTW_HI : Fld := ⟨0x30054, 0x1000, 0, 16, fun _ => 0, 32, 32, 1⟩
def LANE_RX_PHASE : Fld := ⟨0x3004C, 0x1000, 0, 16, fun _ => 0, 32, 32, 1⟩
def LANE_TX_PHASE : Fld := ⟨0x30058, 0x1000, 0, 16, fun _ => 0, 32, 32, 1⟩
def LANE_GAIN_LIMIT : Fld := ⟨0x3005C, 0x1000, 16, 12, fun _ => 0, 32, 32, 1⟩
def LANE_GAIN_CLAMPED : Fld := ⟨0x3005C, 0x1000, 12, 1, fun _ => 0, 32, 32, 1⟩
def LANE_GAIN_APPLIED : Fld := ⟨0x3005C, 0x1000, 0, 12, fun _ => 0, 32, 32, 1⟩
def LANE_STAT_ERR_CODE : Fld := ⟨0x30060, 0x1000, 8, 4, fun _ => 0, 32, 32, 1⟩
def LANE_STAT_SAT_STICKY : Fld := ⟨0x30060, 0x1000, 3, 1, fun _ => 0, 32, 32, 1⟩
def LANE_STAT_SUSPECT_STICKY : Fld := ⟨0x30060, 0x1000, 2, 1, fun _ => 0, 32, 32, 1⟩
def LANE_STAT_SUSPECT : Fld := ⟨0x30060, 0x1000, 1, 1, fun _ => 0, 32, 32, 1⟩
def LANE_STAT_ACTIVE : Fld := ⟨0x30060, 0x1000, 0, 1, fun _ => 0, 32, 32, 1⟩
def LANE_DEC_I : Fld := ⟨0x30064, 0x1000, 16, 16, fun _ => 0, 32, 32, 1⟩
def LANE_DEC_D : Fld := ⟨0x30064, 0x1000, 0, 16, fun _ => 0, 32, 32, 1⟩
def LANE_LAT : Fld := ⟨0x30068, 0x1000, 0, 28, fun _ => 0, 32, 32, 1⟩
def LANE_SAT_CNT : Fld := ⟨0x3006C, 0x1000, 0, 32, fun _ => 0, 32, 32, 1⟩

/-! CHF page: spec/02_lanes_and_converters.md, Table 2-22 and the tables beside it. -/
def CHF_SEL : Fld := ⟨0x50040, 4, 0, 9, fun _ => 0x1ff, 32, 32, 1⟩
def CHF_ROM_PTR_TAP : Fld := ⟨0x500C0, 0, 16, 8, fun _ => 0, 1, 1, 1⟩
def CHF_ROM_PTR_INDEX : Fld := ⟨0x500C0, 0, 0, 9, fun _ => 0, 1, 1, 1⟩
def CHF_ROM_DATA : Fld := ⟨0x500C4, 0, 0, 18, fun _ => 0, 1, 1, 1⟩
def CHF_ECC_CNT : Fld := ⟨0x500C8, 0, 0, 32, fun _ => 0, 1, 1, 1⟩
def CHF_UNC_VALID : Fld := ⟨0x500CC, 0, 31, 1, fun _ => 0, 1, 1, 1⟩
def CHF_UNC_INDEX : Fld := ⟨0x500CC, 0, 0, 9, fun _ => 0, 1, 1, 1⟩

/-! RSM page: spec/02_lanes_and_converters.md, Table 2-23 and the tables beside it. -/
def RSM_RATIO_LO : Fld := ⟨0x51040, 0x10, 0, 32, fun _ => 0, 32, 32, 1⟩
def RSM_RATIO_HI : Fld := ⟨0x51044, 0x10, 0, 16, fun _ => 0, 32, 32, 1⟩
def RSM_DELAY : Fld := ⟨0x51048, 0x10, 0, 20, fun _ => 0, 32, 32, 1⟩
def RSM_STAT : Fld := ⟨0x5104C, 0x10, 0, 1, fun _ => 0, 32, 32, 1⟩
def RSM_ECC_CNT : Fld := ⟨0x51240, 0, 0, 32, fun _ => 0, 1, 1, 1⟩
def RSM_ROM_PTR_PHASE : Fld := ⟨0x51244, 0, 4, 10, fun _ => 0, 1, 1, 1⟩
def RSM_ROM_PTR_TAP : Fld := ⟨0x51244, 0, 0, 4, fun _ => 0, 1, 1, 1⟩
def RSM_ROM_DATA : Fld := ⟨0x51248, 0, 0, 18, fun _ => 0, 1, 1, 1⟩
def RSM_UNC_VALID : Fld := ⟨0x5124C, 0, 31, 1, fun _ => 0, 1, 1, 1⟩
def RSM_UNC_CHECK : Fld := ⟨0x5124C, 0, 30, 1, fun _ => 0, 1, 1, 1⟩
def RSM_UNC_LANE : Fld := ⟨0x5124C, 0, 16, 5, fun _ => 0, 1, 1, 1⟩
def RSM_UNC_PHASE : Fld := ⟨0x5124C, 0, 4, 10, fun _ => 0, 1, 1, 1⟩
def RSM_UNC_TAP : Fld := ⟨0x5124C, 0, 0, 4, fun _ => 0, 1, 1, 1⟩

/-! CNX page: spec/03_feedback_cancellation.md, Table 3-9 and the tables beside it. -/
def CNX_MARGIN : Fld := ⟨0x52040, 0, 0, 12, fun _ => 0x3c0, 1, 1, 1⟩
def CNX_CEIL_RISE : Fld := ⟨0x52044, 0, 0, 6, fun _ => 0x14, 1, 1, 1⟩
def CNX_XCAP : Fld := ⟨0x52048, 0, 0, 12, fun _ => 0xf00, 1, 1, 1⟩
def CNX_PROBE_PROBE_REL : Fld := ⟨0x5204C, 0, 8, 8, fun _ => 0x1e, 1, 1, 1⟩
def CNX_PROBE_PROBE_LVL : Fld := ⟨0x5204C, 0, 0, 8, fun _ => 0x28, 1, 1, 1⟩
def CNX_SNAP : Fld := ⟨0x52050, 0, 0, 1, fun _ => 0, 1, 1, 1⟩
def CNX_TAP_ALLOC : Fld := ⟨0x52054, 0, 0, 17, fun _ => 0, 1, 1, 1⟩
def CNX_TAP_FREE : Fld := ⟨0x52058, 0, 0, 17, fun _ => 0x10000, 1, 1, 1⟩
def CNX_LOAD : Fld := ⟨0x5205C, 0, 0, 13, fun _ => 0, 1, 1, 1⟩
def CNX_CLU_PTR : Fld := ⟨0x52060, 0, 0, 11, fun _ => 0, 1, 1, 1⟩
def CNX_CLU_DESC_USED : Fld := ⟨0x52064, 0, 31, 1, fun _ => 0, 1, 1, 1⟩
def CNX_CLU_DESC_ROLE : Fld := ⟨0x52064, 0, 29, 2, fun _ => 0, 1, 1, 1⟩
def CNX_CLU_DESC_PATH : Fld := ⟨0x52064, 0, 16, 7, fun _ => 0, 1, 1, 1⟩
def CNX_CLU_DESC_POS : Fld := ⟨0x52064, 0, 0, 16, fun _ => 0, 1, 1, 1⟩
def CNX_DIV_CNT : Fld := ⟨0x52068, 0, 0, 32, fun _ => 0, 1, 1, 1⟩
def CNX_ECC_CNT : Fld := ⟨0x5206C, 0, 0, 32, fun _ => 0, 1, 1, 1⟩
def CNX_TAPWR_CNT : Fld := ⟨0x52070, 0, 0, 32, fun _ => 0, 1, 1, 1⟩
def CNX_ISO_RETAINED : Fld := ⟨0x52100, 0x10, 17, 1, fun _ => 0, 32, 32, 1⟩
def CNX_ISO_FLOOR : Fld := ⟨0x52100, 0x10, 16, 1, fun _ => 0, 32, 32, 1⟩
def CNX_ISO_ISO : Fld := ⟨0x52100, 0x10, 0, 16, fun _ => 0, 32, 32, 1⟩
def CNX_XC : Fld := ⟨0x52104, 0x10, 0, 16, fun _ => 0, 32, 32, 1⟩
def CNX_CEIL_TARGET : Fld := ⟨0x52108, 0x10, 16, 12, fun _ => 0, 32, 32, 1⟩
def CNX_CEIL_RISING : Fld := ⟨0x52108, 0x10, 12, 1, fun _ => 0, 32, 32, 1⟩
def CNX_CEIL_CEIL : Fld := ⟨0x52108, 0x10, 0, 12, fun _ => 0, 32, 32, 1⟩
def CNX_LOOP : Fld := ⟨0x5210C, 0x10, 0, 24, fun _ => 0, 32, 32, 1⟩
def CNX_PATH_CFG_EN : Fld := ⟨0x52400, 0x10, 31, 1, fun _ => 0, 128, 128, 1⟩
def CNX_PATH_CFG_FREEZE : Fld := ⟨0x52400, 0x10, 30, 1, fun _ => 0, 128, 128, 1⟩
def CNX_PATH_CFG_AUTO : Fld := ⟨0x52400, 0x10, 29, 1, fun _ => 1, 128, 128, 1⟩
def CNX_PATH_CFG_SPARE : Fld := ⟨0x52400, 0x10, 28, 1, fun _ => 0, 128, 128, 1⟩
def CNX_PATH_CFG_REMOTE : Fld := ⟨0x52400, 0x10, 27, 1, fun _ => 0, 128, 128, 1⟩
def CNX_PATH_CFG_PROBE_ADAPT : Fld := ⟨0x52400, 0x10, 26, 1, fun _ => 0, 128, 128, 1⟩
def CNX_PATH_CFG_SRC : Fld := ⟨0x52400, 0x10, 20, 5, fun _ => 0, 128, 128, 1⟩
def CNX_PATH_CFG_DENSE : Fld := ⟨0x52400, 0x10, 16, 4, fun _ => 4, 128, 128, 1⟩
def CNX_PATH_CFG_SPARSE : Fld := ⟨0x52400, 0x10, 12, 4, fun _ => 2, 128, 128, 1⟩
def CNX_PATH_CFG_STEP : Fld := ⟨0x52400, 0x10, 8, 4, fun _ => 5, 128, 128, 1⟩
def CNX_PATH_CFG_UPD : Fld := ⟨0x52400, 0x10, 5, 3, fun _ => 2, 128, 128, 1⟩
def CNX_PATH_FOFS : Fld := ⟨0x52404, 0x10, 0, 32, fun _ => 0, 128, 128, 1⟩
def CNX_PATH_EST_ISO : Fld := ⟨0x52408, 0x10, 16, 16, fun _ => 0, 128, 128, 1⟩
def CNX_PATH_EST_XC : Fld := ⟨0x52408, 0x10, 0, 16, fun _ => 0, 128, 128, 1⟩
def CNX_PATH_STAT_ERR : Fld := ⟨0x5240C, 0x10, 28, 4, fun _ => 0, 128, 128, 1⟩
def CNX_PATH_STAT_FREEZE : Fld := ⟨0x5240C, 0x10, 16, 8, fun _ => 0, 128, 128, 1⟩
def CNX_PATH_STAT_FLOOR : Fld := ⟨0x5240C, 0x10, 3, 1, fun _ => 0, 128, 128, 1⟩
def CNX_PATH_STAT_ISO_VALID : Fld := ⟨0x5240C, 0x10, 2, 1, fun _ => 0, 128, 128, 1⟩
def CNX_PATH_STAT_EST_RESET : Fld := ⟨0x5240C, 0x10, 1, 1, fun _ => 0, 128, 128, 1⟩
def CNX_PATH_STAT_ACTIVE : Fld := ⟨0x5240C, 0x10, 0, 1, fun _ => 0, 128, 128, 1⟩
def CNX_STX_CFG_EN : Fld := ⟨0x52C00, 0x10, 31, 1, fun _ => 0, 8, 8, 1⟩
def CNX_STX_CFG_DIR : Fld := ⟨0x52C00, 0x10, 30, 1, fun _ => 0, 8, 8, 1⟩
def CNX_STX_CFG_HOPS : Fld := ⟨0x52C00, 0x10, 28, 2, fun _ => 1, 8, 8, 1⟩
def CNX_STX_CFG_SHIFT : Fld := ⟨0x52C00, 0x10, 24, 3, fun _ => 0, 8, 8, 1⟩
def CNX_STX_CFG_LANE : Fld := ⟨0x52C00, 0x10, 16, 5, fun _ => 0, 8, 8, 1⟩
def CNX_STX_STAT_ERR : Fld := ⟨0x52C04, 0x10, 28, 4, fun _ => 0, 8, 8, 1⟩
def CNX_STX_STAT_ARC : Fld := ⟨0x52C04, 0x10, 26, 2, fun _ => 0, 8, 8, 1⟩
def CNX_STX_STAT_ACTIVE : Fld := ⟨0x52C04, 0x10, 0, 1, fun _ => 0, 8, 8, 1⟩
def CNX_STX_SAT_CNT : Fld := ⟨0x52C08, 0x10, 0, 32, fun _ => 0, 8, 8, 1⟩
def CNX_SRX_LOST_CNT : Fld := ⟨0x52C88, 0x10, 0, 32, fun _ => 0, 8, 8, 1⟩
def CNX_SRX_CFG_EN : Fld := ⟨0x52C80, 0x10, 31, 1, fun _ => 0, 8, 8, 1⟩
def CNX_SRX_CFG_SRC_DEV : Fld := ⟨0x52C80, 0x10, 16, 6, fun _ => 0, 8, 8, 1⟩
def CNX_SRX_CFG_SRC_SLOT : Fld := ⟨0x52C80, 0x10, 8, 3, fun _ => 0, 8, 8, 1⟩
def CNX_SRX_STAT_LAT : Fld := ⟨0x52C84, 0x10, 16, 16, fun _ => 0, 8, 8, 1⟩
def CNX_SRX_STAT_CURTAIN : Fld := ⟨0x52C84, 0x10, 2, 1, fun _ => 0, 8, 8, 1⟩
def CNX_SRX_STAT_LOST : Fld := ⟨0x52C84, 0x10, 1, 1, fun _ => 0, 8, 8, 1⟩
def CNX_SRX_STAT_ACTIVE : Fld := ⟨0x52C84, 0x10, 0, 1, fun _ => 0, 8, 8, 1⟩

/-! SLN page: spec/03_feedback_cancellation.md, Table 3-14 and the tables beside it. -/
def SLN_CFG_THRESH : Fld := ⟨0x53040, 0, 16, 8, fun _ => 0xc, 1, 1, 1⟩
def SLN_CFG_DIRECT_WIN : Fld := ⟨0x53040, 0, 8, 8, fun _ => 0x14, 1, 1, 1⟩
def SLN_CFG_DENSE_PRE : Fld := ⟨0x53040, 0, 0, 8, fun _ => 8, 1, 1, 1⟩
def SLN_CTL_HOLD : Fld := ⟨0x53044, 0, 31, 1, fun _ => 0, 1, 1, 1⟩
def SLN_CTL_GO : Fld := ⟨0x53044, 0, 15, 1, fun _ => 0, 1, 1, 1⟩
def SLN_CTL_PATH : Fld := ⟨0x53044, 0, 0, 7, fun _ => 0, 1, 1, 1⟩
def SLN_STAT_BUSY : Fld := ⟨0x53048, 0, 31, 1, fun _ => 0, 1, 1, 1⟩
def SLN_STAT_CUR_PATH : Fld := ⟨0x53048, 0, 16, 7, fun _ => 0, 1, 1, 1⟩
def SLN_STAT_SEARCH_CNT : Fld := ⟨0x53048, 0, 0, 16, fun _ => 0, 1, 1, 1⟩
def SLN_RES_PTR_PATH : Fld := ⟨0x5304C, 0, 3, 7, fun _ => 0, 1, 1, 1⟩
def SLN_RES_PTR_PEAK : Fld := ⟨0x5304C, 0, 0, 3, fun _ => 0, 1, 1, 1⟩
def SLN_RES_POS : Fld := ⟨0x53050, 0, 16, 16, fun _ => 0x8000, 1, 1, 1⟩
def SLN_RES_LEVEL : Fld := ⟨0x53050, 0, 0, 16, fun _ => 0, 1, 1, 1⟩
def SLN_RES_INFO_COVERED : Fld := ⟨0x53054, 0, 31, 1, fun _ => 0, 1, 1, 1⟩
def SLN_RES_INFO_DIRECT : Fld := ⟨0x53054, 0, 30, 1, fun _ => 0, 1, 1, 1⟩
def SLN_RES_INFO_AGE : Fld := ⟨0x53054, 0, 0, 16, fun _ => 0xffff, 1, 1, 1⟩
def SLN_UNCOV : Fld := ⟨0x53058, 0, 0, 16, fun _ => 0, 1, 1, 1⟩

/-! SPT page: spec/04_spotlight_and_measurement.md, Table 4-8 and the tables beside it. -/
def SPT_CFG_RISE : Fld := ⟨0x54040, 0, 16, 8, fun _ => 8, 1, 1, 1⟩
def SPT_CFG_BIAS : Fld := ⟨0x54040, 0, 8, 8, fun _ => 0x10, 1, 1, 1⟩
def SPT_CFG_SMOOTH : Fld := ⟨0x54040, 0, 0, 4, fun _ => 6, 1, 1, 1⟩
def SPT_MON : Fld := ⟨0x54044, 0, 0, 16, fun _ => 0x1e, 1, 1, 1⟩
def SPT_LOAD : Fld := ⟨0x54048, 0, 0, 12, fun _ => 0, 1, 1, 1⟩
def SPT_CTXWR_CNT : Fld := ⟨0x5404C, 0, 0, 32, fun _ => 0, 1, 1, 1⟩
def SPT_ECC_CNT : Fld := ⟨0x54050, 0, 0, 32, fun _ => 0, 1, 1, 1⟩
def SPT_STUCK_ANY : Fld := ⟨0x54054, 0, 31, 1, fun _ => 0, 1, 1, 1⟩
def SPT_STUCK_CTX : Fld := ⟨0x54054, 0, 0, 14, fun _ => 0, 1, 1, 1⟩
def SPT_SNAP_DONE : Fld := ⟨0x54058, 0, 31, 1, fun _ => 0, 1, 1, 1⟩
def SPT_SNAP_GO : Fld := ⟨0x54058, 0, 30, 1, fun _ => 0, 1, 1, 1⟩
def SPT_SNAP_CTX : Fld := ⟨0x54058, 0, 0, 14, fun _ => 0, 1, 1, 1⟩
def SPT_SNAP_DATA : Fld := ⟨0x54080, 4, 0, 32, fun _ => 0, 16, 16, 1⟩
def SPT_LANE_CFG_EN : Fld := ⟨0x54100, 0x10, 31, 1, fun _ => 0, 16, 16, 1⟩
def SPT_LANE_CFG_GATE : Fld := ⟨0x54100, 0x10, 30, 1, fun _ => 0, 16, 16, 1⟩
def SPT_LANE_CFG_RES : Fld := ⟨0x54100, 0x10, 24, 3, fun _ => 0, 16, 16, 1⟩
def SPT_LANE_CFG_FIRST : Fld := ⟨0x54100, 0x10, 0, 14, fun _ => 0, 16, 16, 1⟩
def SPT_LANE_MAP_BASE : Fld := ⟨0x54104, 0x10, 16, 14, fun _ => 0, 16, 16, 1⟩
def SPT_LANE_MAP_COUNT : Fld := ⟨0x54104, 0x10, 0, 15, fun _ => 0, 16, 16, 1⟩
def SPT_LANE_STAT_ERR : Fld := ⟨0x54108, 0x10, 28, 4, fun _ => 0, 16, 16, 1⟩
def SPT_LANE_STAT_OPEN_NOW : Fld := ⟨0x54108, 0x10, 10, 15, fun _ => 0, 16, 16, 1⟩
def SPT_LANE_STAT_LEARNING : Fld := ⟨0x54108, 0x10, 3, 1, fun _ => 0, 16, 16, 1⟩
def SPT_LANE_STAT_GATING : Fld := ⟨0x54108, 0x10, 2, 1, fun _ => 0, 16, 16, 1⟩
def SPT_LANE_STAT_MEASURING : Fld := ⟨0x54108, 0x10, 1, 1, fun _ => 0, 16, 16, 1⟩
def SPT_LANE_STAT_ARMED : Fld := ⟨0x54108, 0x10, 0, 1, fun _ => 0, 16, 16, 1⟩
def SPT_LANE_NC_UNC : Fld := ⟨0x5410C, 0x10, 16, 16, fun _ => 0x8000, 16, 16, 1⟩
def SPT_LANE_NC_NC : Fld := ⟨0x5410C, 0x10, 0, 16, fun _ => 0x8000, 16, 16, 1⟩

/-! MEAS page: spec/04_spotlight_and_measurement.md, Table 4-11 and the tables beside it. -/
def MEAS_LANE_STAT_ACTIVE_NOW : Fld := ⟨0x55108, 0x10, 10, 15, fun _ => 0, 16, 16, 1⟩
def MEAS_LANE_STAT_ERR : Fld := ⟨0x55108, 0x10, 28, 4, fun _ => 0, 16, 16, 1⟩
def MEAS_LANE_STAT_LEARNING : Fld := ⟨0x55108, 0x10, 3, 1, fun _ => 0, 16, 16, 1⟩
def MEAS_LANE_STAT_MEASURING : Fld := ⟨0x55108, 0x10, 1, 1, fun _ => 0, 16, 16, 1⟩
def MEAS_LANE_STAT_ARMED : Fld := ⟨0x55108, 0x10, 0, 1, fun _ => 0, 16, 16, 1⟩
def MEAS_LANE_PWR_FLR : Fld := ⟨0x5510C, 0x10, 16, 16, fun _ => 0x8000, 16, 16, 1⟩
def MEAS_LANE_PWR_PWR : Fld := ⟨0x5510C, 0x10, 0, 16, fun _ => 0x8000, 16, 16, 1⟩
def MEAS_SNAP_CTX : Fld := ⟨0x55058, 0, 0, 14, fun _ => 0, 1, 1, 1⟩
def MEAS_SNAP_DONE : Fld := ⟨0x55058, 0, 31, 1, fun _ => 0, 1, 1, 1⟩
def MEAS_SNAP_GO : Fld := ⟨0x55058, 0, 30, 1, fun _ => 0, 1, 1, 1⟩

/-! PROT page: spec/05_network_protection.md, Table 5-8 and the tables beside it. -/
def PROT_OSC_LINE : Fld := ⟨0x12040, 0, 16, 8, fun _ => 0x14, 1, 1, 1⟩
def PROT_OSC_RHO : Fld := ⟨0x12040, 0, 8, 8, fun _ => 6, 1, 1, 1⟩
def PROT_OSC_GROW : Fld := ⟨0x12040, 0, 0, 8, fun _ => 0xc, 1, 1, 1⟩
def PROT_OD_OD_PWR : Fld := ⟨0x12044, 0, 8, 8, fun _ => 0xc, 1, 1, 1⟩
def PROT_OD_OD_CLIPS : Fld := ⟨0x12044, 0, 0, 8, fun _ => 0x40, 1, 1, 1⟩
def PROT_NR_FRAMES : Fld := ⟨0x12048, 0, 16, 8, fun _ => 0xa, 1, 1, 1⟩
def PROT_NR_LIMIT : Fld := ⟨0x12048, 0, 0, 12, fun _ => 0x40, 1, 1, 1⟩
def PROT_PRES : Fld := ⟨0x1204C, 0, 0, 16, fun _ => 0xe980, 1, 1, 1⟩
def PROT_RAMP : Fld := ⟨0x12050, 0, 0, 5, fun _ => 3, 1, 1, 1⟩
def PROT_REC : Fld := ⟨0x12054, 0, 0, 8, fun _ => 8, 1, 1, 1⟩
def PROT_LANE_CFG_DONOR_REF : Fld := ⟨0x12100, 0x10, 16, 16, fun _ => 0x8000, 32, 32, 1⟩
def PROT_LANE_CFG_NR_EN : Fld := ⟨0x12100, 0x10, 0, 1, fun _ => 1, 32, 32, 1⟩
def PROT_LANE_STAT_CAP : Fld := ⟨0x12104, 0x10, 16, 12, fun _ => 0, 32, 32, 1⟩
def PROT_LANE_STAT_PRESENT : Fld := ⟨0x12104, 0x10, 5, 1, fun _ => 0, 32, 32, 1⟩
def PROT_LANE_STAT_BACKOFF : Fld := ⟨0x12104, 0x10, 4, 1, fun _ => 0, 32, 32, 1⟩
def PROT_LANE_STAT_DONOR_ARMED : Fld := ⟨0x12104, 0x10, 3, 1, fun _ => 0, 32, 32, 1⟩
def PROT_LANE_STAT_NR_ARMED : Fld := ⟨0x12104, 0x10, 2, 1, fun _ => 0, 32, 32, 1⟩
def PROT_LANE_STAT_OSC_ARMED : Fld := ⟨0x12104, 0x10, 1, 1, fun _ => 0, 32, 32, 1⟩
def PROT_LANE_STAT_ALL_ARMED : Fld := ⟨0x12104, 0x10, 0, 1, fun _ => 0, 32, 32, 1⟩
def PROT_LANE_NR_NC_AVG : Fld := ⟨0x12108, 0x10, 16, 16, fun _ => 0x8000, 32, 32, 1⟩
def PROT_LANE_NR_DN : Fld := ⟨0x12108, 0x10, 0, 16, fun _ => 0x8000, 32, 32, 1⟩
def PROT_EM_BAND_CENTRE : Fld := ⟨0x12400, 8, 16, 16, fun _ => 0, 32, 32, 1⟩
def PROT_EM_BAND_WIDTH : Fld := ⟨0x12400, 8, 4, 12, fun _ => 0, 32, 32, 1⟩
def PROT_EM_BAND_EN : Fld := ⟨0x12400, 8, 0, 1, fun _ => 0, 32, 32, 1⟩
def PROT_EM_LIM_PWR : Fld := ⟨0x12404, 8, 16, 16, fun _ => 0x8000, 32, 32, 1⟩
def PROT_EM_LIM_LIMIT : Fld := ⟨0x12404, 8, 0, 16, fun _ => 0xf600, 32, 32, 1⟩

/-! CUR page: spec/05_network_protection.md, Table 5-11 and the tables beside it. -/
def CUR_STAT_DEVICE : Fld := ⟨0x11040, 0, 24, 1, fun _ => 1, 1, 1, 1⟩
def CUR_STAT_LIFTING : Fld := ⟨0x11040, 0, 16, 8, fun _ => 0, 1, 1, 1⟩
def CUR_STAT_LATCHED : Fld := ⟨0x11040, 0, 8, 8, fun _ => 0, 1, 1, 1⟩
def CUR_STAT_DOWN : Fld := ⟨0x11040, 0, 0, 8, fun _ => 0xff, 1, 1, 1⟩
def CUR_HOST_ALL : Fld := ⟨0x11044, 0, 8, 1, fun _ => 0, 1, 1, 1⟩
def CUR_HOST_SHUT : Fld := ⟨0x11044, 0, 0, 8, fun _ => 0, 1, 1, 1⟩
def CUR_RELEASE_CLR_HIST : Fld := ⟨0x11048, 0, 8, 1, fun _ => 0, 1, 1, 1⟩
def CUR_RELEASE_PORTS : Fld := ⟨0x11048, 0, 0, 8, fun _ => 0, 1, 1, 1⟩
def CUR_CFG : Fld := ⟨0x1104C, 0, 0, 8, fun _ => 0x14, 1, 1, 1⟩
def CUR_EPI_CNT : Fld := ⟨0x11050, 0, 0, 32, fun _ => 0, 1, 1, 1⟩
def CUR_REJ_CNT : Fld := ⟨0x11054, 0, 0, 32, fun _ => 0, 1, 1, 1⟩
def CUR_CAUSE_REC_HR : Fld := ⟨0x11080, 4, 24, 8, fun _ => 0, 8, 8, 1⟩
def CUR_CAUSE_LIFTING : Fld := ⟨0x11080, 4, 11, 1, fun _ => 0, 8, 8, 1⟩
def CUR_CAUSE_STATE : Fld := ⟨0x11080, 4, 10, 1, fun _ => 1, 8, 8, 1⟩
def CUR_CAUSE_LATCH : Fld := ⟨0x11080, 4, 9, 1, fun _ => 0, 8, 8, 1⟩
def CUR_CAUSE_HOST : Fld := ⟨0x11080, 4, 8, 1, fun _ => 0, 8, 8, 1⟩
def CUR_CAUSE_OTHER : Fld := ⟨0x11080, 4, 7, 1, fun _ => 0, 8, 8, 1⟩
def CUR_CAUSE_THERM : Fld := ⟨0x11080, 4, 6, 1, fun _ => 0, 8, 8, 1⟩
def CUR_CAUSE_TXTO : Fld := ⟨0x11080, 4, 5, 1, fun _ => 0, 8, 8, 1⟩
def CUR_CAUSE_DONOR : Fld := ⟨0x11080, 4, 4, 1, fun _ => 0, 8, 8, 1⟩
def CUR_CAUSE_OVERDRIVE : Fld := ⟨0x11080, 4, 3, 1, fun _ => 0, 8, 8, 1⟩
def CUR_CAUSE_EMISSION : Fld := ⟨0x11080, 4, 2, 1, fun _ => 0, 8, 8, 1⟩
def CUR_CAUSE_NR : Fld := ⟨0x11080, 4, 1, 1, fun _ => 0, 8, 8, 1⟩
def CUR_CAUSE_OSC : Fld := ⟨0x11080, 4, 0, 1, fun _ => 0, 8, 8, 1⟩

/-! TIME page: spec/06_time_reference.md, Table 6-10 and the tables beside it. -/
def TIME_CFG_REVERT : Fld := ⟨0xD040, 0, 5, 1, fun _ => 0, 1, 1, 1⟩
def TIME_CFG_REF_SHARED : Fld := ⟨0xD040, 0, 4, 1, fun _ => 0, 1, 1, 1⟩
def TIME_CFG_SRC : Fld := ⟨0xD040, 0, 2, 2, fun _ => 0, 1, 1, 1⟩
def TIME_CFG_ROLE : Fld := ⟨0xD040, 0, 0, 2, fun _ => 0, 1, 1, 1⟩
def TIME_STAT_REF_DEV : Fld := ⟨0xD044, 0, 26, 6, fun _ => 0, 1, 1, 1⟩
def TIME_STAT_REF_CODE : Fld := ⟨0xD044, 0, 20, 3, fun _ => 0, 1, 1, 1⟩
def TIME_STAT_NO_SRC : Fld := ⟨0xD044, 0, 19, 1, fun _ => 1, 1, 1, 1⟩
def TIME_STAT_US_READY : Fld := ⟨0xD044, 0, 18, 1, fun _ => 0, 1, 1, 1⟩
def TIME_STAT_US_IGNORED : Fld := ⟨0xD044, 0, 17, 1, fun _ => 0, 1, 1, 1⟩
def TIME_STAT_DEGRADED : Fld := ⟨0xD044, 0, 16, 1, fun _ => 0, 1, 1, 1⟩
def TIME_STAT_CAL_SET : Fld := ⟨0xD044, 0, 15, 1, fun _ => 0, 1, 1, 1⟩
def TIME_STAT_RAIL : Fld := ⟨0xD044, 0, 14, 1, fun _ => 0, 1, 1, 1⟩
def TIME_STAT_SERVING : Fld := ⟨0xD044, 0, 12, 2, fun _ => 0, 1, 1, 1⟩
def TIME_STAT_VALID : Fld := ⟨0xD044, 0, 11, 1, fun _ => 0, 1, 1, 1⟩
def TIME_STAT_SRC_ACT : Fld := ⟨0xD044, 0, 8, 3, fun _ => 3, 1, 1, 1⟩
def TIME_STAT_STATE : Fld := ⟨0xD044, 0, 0, 3, fun _ => 0, 1, 1, 1⟩
def TIME_CTL_SET_GO : Fld := ⟨0xD048, 0, 31, 1, fun _ => 0, 1, 1, 1⟩
def TIME_CTL_REALIGN : Fld := ⟨0xD048, 0, 2, 1, fun _ => 0, 1, 1, 1⟩
def TIME_CTL_SNAP : Fld := ⟨0xD048, 0, 0, 1, fun _ => 0, 1, 1, 1⟩
def TIME_TOD_SEC : Fld := ⟨0xD04C, 0, 0, 32, fun _ => 0, 1, 1, 1⟩
def TIME_TOD_FRAC : Fld := ⟨0xD050, 0, 0, 32, fun _ => 0, 1, 1, 1⟩
def TIME_FRAME : Fld := ⟨0xD054, 0, 0, 10, fun _ => 0, 1, 1, 1⟩
def TIME_SET_SEC : Fld := ⟨0xD058, 0, 0, 32, fun _ => 0, 1, 1, 1⟩
def TIME_SET_CS : Fld := ⟨0xD05C, 0, 0, 7, fun _ => 0, 1, 1, 1⟩
def TIME_UTC : Fld := ⟨0xD060, 0, 0, 16, fun _ => 0, 1, 1, 1⟩
def TIME_UTC_SEC : Fld := ⟨0xD064, 0, 0, 32, fun _ => 0, 1, 1, 1⟩
def TIME_OSC : Fld := ⟨0xD068, 0, 0, 20, fun _ => 0x80000, 1, 1, 1⟩
def TIME_OSC_KV : Fld := ⟨0xD06C, 0, 0, 16, fun _ => 0, 1, 1, 1⟩
def TIME_HOLD_BUDGET : Fld := ⟨0xD070, 0, 16, 16, fun _ => 0x3e8, 1, 1, 1⟩
def TIME_HOLD_OSC_FERR : Fld := ⟨0xD070, 0, 0, 16, fun _ => 0x1f4, 1, 1, 1⟩
def TIME_HOLD_DRIFT : Fld := ⟨0xD074, 0, 0, 16, fun _ => 0x64, 1, 1, 1⟩
def TIME_LOOP_STEP_LIM : Fld := ⟨0xD078, 0, 16, 16, fun _ => 0x3e8, 1, 1, 1⟩
def TIME_LOOP_SLEW_MAX : Fld := ⟨0xD078, 0, 8, 8, fun _ => 0x32, 1, 1, 1⟩
def TIME_LOOP_LOSS : Fld := ⟨0xD078, 0, 4, 4, fun _ => 4, 1, 1, 1⟩
def TIME_LOOP_BW : Fld := ⟨0xD078, 0, 0, 4, fun _ => 2, 1, 1, 1⟩
def TIME_ERR_PHASE : Fld := ⟨0xD07C, 0, 16, 16, fun _ => 0, 1, 1, 1⟩
def TIME_ERR_FOFS : Fld := ⟨0xD07C, 0, 0, 16, fun _ => 0, 1, 1, 1⟩
def TIME_HOLD_STAT_E : Fld := ⟨0xD080, 0, 16, 16, fun _ => 0, 1, 1, 1⟩
def TIME_HOLD_STAT_T : Fld := ⟨0xD080, 0, 0, 16, fun _ => 0, 1, 1, 1⟩
def TIME_PPSO_EN : Fld := ⟨0xD084, 0, 31, 1, fun _ => 0, 1, 1, 1⟩
def TIME_PPSO_GATE : Fld := ⟨0xD084, 0, 30, 1, fun _ => 1, 1, 1, 1⟩
def TIME_PPSO_WIDTH : Fld := ⟨0xD084, 0, 16, 14, fun _ => 0x2710, 1, 1, 1⟩
def TIME_PPSO_COMP : Fld := ⟨0xD084, 0, 0, 16, fun _ => 0, 1, 1, 1⟩
def TIME_PPSI_MODE : Fld := ⟨0xD088, 0, 30, 2, fun _ => 0, 1, 1, 1⟩
def TIME_PPSI_COMP : Fld := ⟨0xD088, 0, 0, 16, fun _ => 0, 1, 1, 1⟩
def TIME_PPSI_SEC : Fld := ⟨0xD08C, 0, 0, 32, fun _ => 0, 1, 1, 1⟩
def TIME_PPSI_FRAC : Fld := ⟨0xD090, 0, 0, 32, fun _ => 0, 1, 1, 1⟩
def TIME_REFOUT_EN : Fld := ⟨0xD094, 0, 31, 1, fun _ => 0, 1, 1, 1⟩
def TIME_REFOUT_MODE : Fld := ⟨0xD094, 0, 30, 1, fun _ => 0, 1, 1, 1⟩
def TIME_REFOUT_DIV : Fld := ⟨0xD094, 0, 0, 16, fun _ => 4, 1, 1, 1⟩
def TIME_REFOUT_FREQ : Fld := ⟨0xD098, 0, 0, 32, fun _ => 0, 1, 1, 1⟩
def TIME_REQ : Fld := ⟨0xD09C, 0, 0, 32, fun _ => 0, 1, 1, 1⟩
def TIME_STEP_CNT : Fld := ⟨0xD0A0, 0, 0, 32, fun _ => 0, 1, 1, 1⟩
def TIME_ARC_UP : Fld := ⟨0xD0A4, 0, 0, 24, fun _ => 0, 1, 1, 1⟩
def TIME_ARC_DN : Fld := ⟨0xD0A8, 0, 0, 24, fun _ => 0, 1, 1, 1⟩
def TIME_RING : Fld := ⟨0xD0AC, 0, 0, 6, fun _ => 0, 1, 1, 1⟩
def TIME_US_DELTA : Fld := ⟨0xD0B0, 0, 0, 32, fun _ => 0, 1, 1, 1⟩
def TIME_DET_CFG_EN : Fld := ⟨0xD100, 0x10, 31, 1, fun _ => 0, 4, 4, 1⟩
def TIME_DET_CFG_TYPE : Fld := ⟨0xD100, 0x10, 28, 2, fun _ => 0, 4, 4, 1⟩
def TIME_DET_CFG_LANE : Fld := ⟨0xD100, 0x10, 24, 4, fun _ => 0, 4, 4, 1⟩
def TIME_DET_CFG_PCI : Fld := ⟨0xD100, 0x10, 14, 10, fun _ => 0x3ff, 4, 4, 1⟩
def TIME_DET_OFS : Fld := ⟨0xD104, 0x10, 0, 16, fun _ => 0, 4, 4, 1⟩
def TIME_DET_STAT_STATE : Fld := ⟨0xD108, 0x10, 30, 2, fun _ => 0, 4, 4, 1⟩
def TIME_DET_STAT_PCI : Fld := ⟨0xD108, 0x10, 16, 10, fun _ => 0, 4, 4, 1⟩
def TIME_DET_STAT_SINR : Fld := ⟨0xD108, 0x10, 8, 8, fun _ => 0x80, 4, 4, 1⟩
def TIME_DET_STAT_ERR : Fld := ⟨0xD108, 0x10, 0, 4, fun _ => 0, 4, 4, 1⟩

/-! TDD page: spec/06_time_reference.md, Table 6-11 and the tables beside it. -/
def TDD_CTL_SWAP : Fld := ⟨0xE040, 0, 31, 1, fun _ => 0, 1, 1, 1⟩
def TDD_CTL_PAT : Fld := ⟨0xE040, 0, 24, 1, fun _ => 0, 1, 1, 1⟩
def TDD_CTL_FRAME : Fld := ⟨0xE040, 0, 0, 10, fun _ => 0, 1, 1, 1⟩
def TDD_STAT_ERR : Fld := ⟨0xE044, 0, 28, 4, fun _ => 0, 1, 1, 1⟩
def TDD_STAT_PENDING : Fld := ⟨0xE044, 0, 24, 2, fun _ => 0, 1, 1, 1⟩
def TDD_STAT_ACT_BANK : Fld := ⟨0xE044, 0, 16, 2, fun _ => 0, 1, 1, 1⟩
def TDD_STAT_LOADED : Fld := ⟨0xE044, 0, 8, 2, fun _ => 0, 1, 1, 1⟩
def TDD_STAT_CANCELLED : Fld := ⟨0xE044, 0, 1, 1, fun _ => 0, 1, 1, 1⟩
def TDD_STAT_NO_PAT : Fld := ⟨0xE044, 0, 0, 1, fun _ => 0, 1, 1, 1⟩
def TDD_LANE : Fld := ⟨0xE048, 0, 0, 32, fun _ => 0, 1, 1, 1⟩
def TDD_WR_CNT : Fld := ⟨0xE04C, 0, 0, 32, fun _ => 0, 1, 1, 1⟩
def TDD_PER : Fld := ⟨0xE400, 0x100, 0, 3, fun _ => 0, 4, 4, 1⟩
def TDD_DLOFS : Fld := ⟨0xE404, 0x100, 0, 24, fun _ => 0, 4, 4, 1⟩
def TDD_ULOFS : Fld := ⟨0xE408, 0x100, 0, 24, fun _ => 0, 4, 4, 1⟩
def TDD_ENT_DIR : Fld := ⟨0xE410, 4, 30, 2, fun _ => 0, 32, 64, 4⟩
def TDD_ENT_START : Fld := ⟨0xE410, 4, 0, 24, fun _ => 0, 32, 64, 4⟩

/-! SYN page: spec/07_radio_sequencing.md, Table 7-10 and the tables beside it. -/
def SYN_A_NUM : Fld := ⟨0xF040, 0, 0, 24, fun _ => 8, 1, 1, 1⟩
def SYN_B_NUM : Fld := ⟨0xF048, 0, 0, 24, fun _ => 0xc, 1, 1, 1⟩
def SYN_A_DEN : Fld := ⟨0xF044, 0, 0, 16, fun _ => 1, 1, 1, 1⟩
def SYN_B_DEN : Fld := ⟨0xF04C, 0, 0, 16, fun _ => 1, 1, 1, 1⟩
def SYN_CTL_GO_B : Fld := ⟨0xF050, 0, 1, 1, fun _ => 0, 1, 1, 1⟩
def SYN_CTL_GO_A : Fld := ⟨0xF050, 0, 0, 1, fun _ => 0, 1, 1, 1⟩
def SYN_CFG_RETRY : Fld := ⟨0xF054, 0, 8, 3, fun _ => 3, 1, 1, 1⟩
def SYN_CFG_SETTLE : Fld := ⟨0xF054, 0, 0, 8, fun _ => 0xa, 1, 1, 1⟩
def SYN_STAT_ERR_B : Fld := ⟨0xF058, 0, 20, 4, fun _ => 0, 1, 1, 1⟩
def SYN_STAT_ERR_A : Fld := ⟨0xF058, 0, 16, 4, fun _ => 0, 1, 1, 1⟩
def SYN_STAT_STATE_B : Fld := ⟨0xF058, 0, 4, 3, fun _ => 0, 1, 1, 1⟩
def SYN_STAT_STATE_A : Fld := ⟨0xF058, 0, 0, 3, fun _ => 0, 1, 1, 1⟩
def SYN_CAL_CNT_B : Fld := ⟨0xF05C, 0, 16, 16, fun _ => 0, 1, 1, 1⟩
def SYN_CAL_CNT_A : Fld := ⟨0xF05C, 0, 0, 16, fun _ => 0, 1, 1, 1⟩
def SYN_LOL_CNT_B : Fld := ⟨0xF060, 0, 16, 16, fun _ => 0, 1, 1, 1⟩
def SYN_LOL_CNT_A : Fld := ⟨0xF060, 0, 0, 16, fun _ => 0, 1, 1, 1⟩

/-! RFC page: spec/07_radio_sequencing.md, Table 7-11 and the tables beside it. -/
def RFC_CFG : Fld := ⟨0x10040, 0, 0, 8, fun _ => 0x32, 1, 1, 1⟩
def RFC_POL_TRSW_POL : Fld := ⟨0x10044, 0, 8, 8, fun _ => 0, 1, 1, 1⟩
def RFC_POL_LNAB_POL : Fld := ⟨0x10044, 0, 0, 8, fun _ => 0, 1, 1, 1⟩
def RFC_LINES_PAEN : Fld := ⟨0x10048, 0, 16, 8, fun _ => 0, 1, 1, 1⟩
def RFC_LINES_TRSW : Fld := ⟨0x10048, 0, 8, 8, fun _ => 0, 1, 1, 1⟩
def RFC_LINES_LNAB : Fld := ⟨0x10048, 0, 0, 8, fun _ => 0, 1, 1, 1⟩
def ATTN_CFG_OWNER : Fld := ⟨0x10080, 0x40, 31, 1, fun _ => 0, 2, 2, 1⟩
def ATTN_CFG_LSB_FIRST : Fld := ⟨0x10080, 0x40, 30, 1, fun _ => 0, 2, 2, 1⟩
def ATTN_CFG_LATCH : Fld := ⟨0x10080, 0x40, 28, 2, fun _ => 0, 2, 2, 1⟩
def ATTN_CFG_PORTS : Fld := ⟨0x10080, 0x40, 16, 8, fun _ => 0, 2, 2, 1⟩
def ATTN_CFG_DIV : Fld := ⟨0x10080, 0x40, 8, 8, fun _ => 0x28, 2, 2, 1⟩
def ATTN_CFG_LEN : Fld := ⟨0x10080, 0x40, 0, 8, fun _ => 0, 2, 2, 1⟩
def ATTN_CTL : Fld := ⟨0x10084, 0x40, 31, 1, fun _ => 0, 2, 2, 1⟩
def ATTN_STAT_BUSY : Fld := ⟨0x10088, 0x40, 31, 1, fun _ => 0, 2, 2, 1⟩
def ATTN_STAT_PENDING : Fld := ⟨0x10088, 0x40, 30, 1, fun _ => 0, 2, 2, 1⟩
def ATTN_STAT_SENT : Fld := ⟨0x10088, 0x40, 0, 16, fun _ => 0, 2, 2, 1⟩
def ATTN_DATA : Fld := ⟨0x10090, 4, 0, 32, fun _ => 0, 4, 16, 2⟩
def RFC_PORT_CFG_TARGET : Fld := ⟨0x10100, 0x10, 30, 2, fun _ => 0, 8, 8, 1⟩
def RFC_PORT_CFG_PROBE_EN : Fld := ⟨0x10100, 0x10, 29, 1, fun _ => 1, 8, 8, 1⟩
def RFC_PORT_CFG_FDD_POS : Fld := ⟨0x10100, 0x10, 28, 1, fun _ => 0, 8, 8, 1⟩
def RFC_PORT_CFG_RX_PROT : Fld := ⟨0x10100, 0x10, 27, 1, fun _ => 1, 8, 8, 1⟩
def RFC_PORT_CFG_COEX : Fld := ⟨0x10100, 0x10, 26, 1, fun _ => 0, 8, 8, 1⟩
def RFC_PORT_STAT_RESULT : Fld := ⟨0x10104, 0x10, 28, 4, fun _ => 0, 8, 8, 1⟩
def RFC_PORT_STAT_BUSY : Fld := ⟨0x10104, 0x10, 27, 1, fun _ => 0, 8, 8, 1⟩
def RFC_PORT_STAT_STATE : Fld := ⟨0x10104, 0x10, 24, 3, fun _ => 0, 8, 8, 1⟩
def RFC_PORT_STAT_PROBING : Fld := ⟨0x10104, 0x10, 23, 1, fun _ => 0, 8, 8, 1⟩
def RFC_PORT_STAT_SYN_HOLD : Fld := ⟨0x10104, 0x10, 22, 1, fun _ => 0, 8, 8, 1⟩
def RFC_PORT_STAT_COEX_HOLD : Fld := ⟨0x10104, 0x10, 21, 1, fun _ => 0, 8, 8, 1⟩
def RFC_PORT_STAT_TDD : Fld := ⟨0x10104, 0x10, 20, 1, fun _ => 0, 8, 8, 1⟩
def RFC_PORT_STAT_TXTO : Fld := ⟨0x10104, 0x10, 19, 1, fun _ => 0, 8, 8, 1⟩
def RFC_PORT_STAT_LOSS_T : Fld := ⟨0x10104, 0x10, 0, 16, fun _ => 0, 8, 8, 1⟩
def RFC_PORT_TXTO_CNT : Fld := ⟨0x10108, 0x10, 0, 32, fun _ => 0, 8, 8, 1⟩
def RFC_PRES_EN : Fld := ⟨0x10200, 4, 4, 1, fun _ => 1, 16, 16, 1⟩
def RFC_PRES_LANE : Fld := ⟨0x10200, 4, 0, 4, fun n => n % 16, 16, 16, 1⟩
def COEX_CFG_IN_POL : Fld := ⟨0x10300, 0, 30, 2, fun _ => 1, 1, 1, 1⟩
def COEX_CFG_OUT_MODE : Fld := ⟨0x10300, 0, 28, 2, fun _ => 0, 1, 1, 1⟩
def COEX_CFG_PRI_POL : Fld := ⟨0x10300, 0, 27, 1, fun _ => 0, 1, 1, 1⟩
def COEX_TIME_LEAD : Fld := ⟨0x10304, 0, 24, 8, fun _ => 0x32, 1, 1, 1⟩
def COEX_TIME_MAX_HOLD : Fld := ⟨0x10304, 0, 0, 16, fun _ => 0x3e8, 1, 1, 1⟩
def COEX_STAT_REQ_IN : Fld := ⟨0x10308, 0, 31, 1, fun _ => 0, 1, 1, 1⟩
def COEX_STAT_PRI : Fld := ⟨0x10308, 0, 30, 1, fun _ => 0, 1, 1, 1⟩
def COEX_STAT_GNT_OUT : Fld := ⟨0x10308, 0, 29, 1, fun _ => 0, 1, 1, 1⟩
def COEX_STAT_REQ_OUT : Fld := ⟨0x10308, 0, 28, 1, fun _ => 0, 1, 1, 1⟩
def COEX_STAT_GNT_IN : Fld := ⟨0x10308, 0, 27, 1, fun _ => 0, 1, 1, 1⟩
def COEX_STAT_PENDING : Fld := ⟨0x10308, 0, 26, 1, fun _ => 0, 1, 1, 1⟩
def COEX_GRANT_CNT : Fld := ⟨0x1030C, 0, 0, 32, fun _ => 0, 1, 1, 1⟩
def COEX_DENY_CNT : Fld := ⟨0x10310, 0, 0, 32, fun _ => 0, 1, 1, 1⟩
def COEX_WDRAW_CNT : Fld := ⟨0x10314, 0, 0, 32, fun _ => 0, 1, 1, 1⟩

/-! CTE page: spec/08_control_engine.md, Table 8-10 and the tables beside it. -/
def CTE_LOAD : Fld := ⟨0x1A040, 0, 0, 15, fun _ => 0, 1, 1, 1⟩
def CTE_VIEW : Fld := ⟨0x1A044, 0, 0, 1, fun _ => 0, 1, 1, 1⟩
def CTE_CUE_GRP : Fld := ⟨0x1A048, 0, 0, 16, fun _ => 0, 1, 1, 1⟩
def CTE_IGNWR_CNT : Fld := ⟨0x1A04C, 0, 0, 32, fun _ => 0, 1, 1, 1⟩
def CTE_OVR_CNT : Fld := ⟨0x1A050, 0, 0, 32, fun _ => 0, 1, 1, 1⟩
def CTE_ECC_CNT : Fld := ⟨0x1A054, 0, 0, 32, fun _ => 0, 1, 1, 1⟩
def CTE_STATE_PTR : Fld := ⟨0x1A058, 0, 0, 11, fun _ => 0, 1, 1, 1⟩
def CTE_STATE_S1_EXP : Fld := ⟨0x1A05C, 0, 24, 6, fun _ => 0, 1, 1, 1⟩
def CTE_STATE_S1_M1 : Fld := ⟨0x1A05C, 0, 0, 24, fun _ => 0, 1, 1, 1⟩
def CTE_STATE_S2_EXP : Fld := ⟨0x1A060, 0, 24, 6, fun _ => 0, 1, 1, 1⟩
def CTE_STATE_S2_M2 : Fld := ⟨0x1A060, 0, 0, 24, fun _ => 0, 1, 1, 1⟩
def CTE_INJ_CFG_SHAPE : Fld := ⟨0x1A064, 0, 30, 2, fun _ => 0, 1, 1, 1⟩
def CTE_INJ_CFG_POINT : Fld := ⟨0x1A064, 0, 29, 1, fun _ => 0, 1, 1, 1⟩
def CTE_INJ_CFG_LOOP : Fld := ⟨0x1A064, 0, 0, 8, fun _ => 0, 1, 1, 1⟩
def CTE_INJ_AMP : Fld := ⟨0x1A068, 0, 0, 32, fun _ => 0, 1, 1, 1⟩
def CTE_INJ_FREQ_F0 : Fld := ⟨0x1A06C, 0, 16, 16, fun _ => 0, 1, 1, 1⟩
def CTE_INJ_FREQ_F1 : Fld := ⟨0x1A06C, 0, 0, 16, fun _ => 0, 1, 1, 1⟩
def CTE_INJ_LEN : Fld := ⟨0x1A070, 0, 0, 24, fun _ => 1, 1, 1, 1⟩
def CTE_INJ_CTL_GO : Fld := ⟨0x1A074, 0, 31, 1, fun _ => 0, 1, 1, 1⟩
def CTE_INJ_CTL_STOP : Fld := ⟨0x1A074, 0, 30, 1, fun _ => 0, 1, 1, 1⟩
def CTE_INJ_CTL_TRIG : Fld := ⟨0x1A074, 0, 29, 1, fun _ => 0, 1, 1, 1⟩
def CTE_CAP_CFG_EN : Fld := ⟨0x1A078, 0, 31, 1, fun _ => 0, 1, 1, 1⟩
def CTE_CAP_CFG_DECIM : Fld := ⟨0x1A078, 0, 16, 4, fun _ => 0, 1, 1, 1⟩
def CTE_CAP_CFG_PRE : Fld := ⟨0x1A078, 0, 0, 16, fun _ => 0, 1, 1, 1⟩
def CTE_CAP_STAT_DONE : Fld := ⟨0x1A07C, 0, 31, 1, fun _ => 0, 1, 1, 1⟩
def CTE_CAP_STAT_INJ_ACTIVE : Fld := ⟨0x1A07C, 0, 30, 1, fun _ => 0, 1, 1, 1⟩
def CTE_CAP_STAT_TRIGGERED : Fld := ⟨0x1A07C, 0, 29, 1, fun _ => 0, 1, 1, 1⟩
def CTE_CAP_STAT_TRIG_IDX : Fld := ⟨0x1A07C, 0, 0, 16, fun _ => 0, 1, 1, 1⟩
def CTE_HOSTIN : Fld := ⟨0x1A0C0, 4, 0, 32, fun _ => 0, 16, 16, 1⟩

/-! FAB page: spec/09_self_timed_fabric.md, Table 9-8 and the tables beside it. -/
def FAB_CFG_GUARD : Fld := ⟨0x1B040, 0, 16, 8, fun _ => 0xa, 1, 1, 1⟩
def FAB_CFG_FAULT : Fld := ⟨0x1B040, 0, 8, 8, fun _ => 5, 1, 1, 1⟩
def FAB_CFG_HOLDOFF : Fld := ⟨0x1B040, 0, 0, 8, fun _ => 0xa, 1, 1, 1⟩
def FAB_VLIM_VMAX : Fld := ⟨0x1B044, 0, 16, 10, fun _ => 0x320, 1, 1, 1⟩
def FAB_VLIM_VMIN : Fld := ⟨0x1B044, 0, 0, 10, fun _ => 0x258, 1, 1, 1⟩
def FAB_VREQ_HOST_EN : Fld := ⟨0x1B048, 0, 31, 1, fun _ => 0, 1, 1, 1⟩
def FAB_VREQ_HOST_MV : Fld := ⟨0x1B048, 0, 16, 10, fun _ => 0x2d0, 1, 1, 1⟩
def FAB_VREQ_SRC : Fld := ⟨0x1B048, 0, 14, 2, fun _ => 0, 1, 1, 1⟩
def FAB_VREQ_MV : Fld := ⟨0x1B048, 0, 0, 10, fun _ => 0, 1, 1, 1⟩
def FAB_STAT_VGUARD : Fld := ⟨0x1B04C, 0, 31, 1, fun _ => 0, 1, 1, 1⟩
def FAB_STAT_SLACK_LOW : Fld := ⟨0x1B04C, 0, 30, 1, fun _ => 0, 1, 1, 1⟩
def FAB_STAT_LOW_ISL : Fld := ⟨0x1B04C, 0, 16, 8, fun _ => 0, 1, 1, 1⟩
def FAB_STAT_LOW_SLACK : Fld := ⟨0x1B04C, 0, 0, 12, fun _ => 0xfff, 1, 1, 1⟩
def FAB_ISL_PTR : Fld := ⟨0x1B050, 0, 0, 8, fun _ => 0, 1, 1, 1⟩
def FAB_ISL_ACTIVE : Fld := ⟨0x1B054, 0, 31, 1, fun _ => 0, 1, 1, 1⟩
def FAB_ISL_MIN : Fld := ⟨0x1B054, 0, 16, 12, fun _ => 0xfff, 1, 1, 1⟩
def FAB_ISL_SLACK : Fld := ⟨0x1B054, 0, 0, 12, fun _ => 0xfff, 1, 1, 1⟩
def FAB_CTL : Fld := ⟨0x1B058, 0, 0, 1, fun _ => 0, 1, 1, 1⟩
def FAB_WING_PTR : Fld := ⟨0x1B05C, 0, 0, 5, fun _ => 0, 1, 1, 1⟩
def FAB_WING_WARN : Fld := ⟨0x1B060, 0, 31, 1, fun _ => 0, 1, 1, 1⟩
def FAB_WING_WORST : Fld := ⟨0x1B060, 0, 16, 12, fun _ => 0, 1, 1, 1⟩
def FAB_WING_NOW : Fld := ⟨0x1B060, 0, 0, 12, fun _ => 0, 1, 1, 1⟩
def FAB_WLOSS_CNT : Fld := ⟨0x1B064, 0, 0, 32, fun _ => 0, 1, 1, 1⟩
def FAB_GUARD_CNT : Fld := ⟨0x1B068, 0, 0, 32, fun _ => 0, 1, 1, 1⟩
def FAB_IGNWR_CNT : Fld := ⟨0x1B06C, 0, 0, 32, fun _ => 0, 1, 1, 1⟩

/-! LEDG page: spec/09_self_timed_fabric.md, Table 9-8 and the tables beside it. -/
def LEDG_SNAP_GO : Fld := ⟨0x1C040, 0, 31, 1, fun _ => 0, 1, 1, 1⟩
def LEDG_SNAP_DONE : Fld := ⟨0x1C040, 0, 30, 1, fun _ => 0, 1, 1, 1⟩
def LEDG_SNAP_LANE : Fld := ⟨0x1C040, 0, 0, 5, fun _ => 0, 1, 1, 1⟩
def LEDG_CLR_GO : Fld := ⟨0x1C044, 0, 31, 1, fun _ => 0, 1, 1, 1⟩
def LEDG_CLR_LANE : Fld := ⟨0x1C044, 0, 0, 5, fun _ => 0, 1, 1, 1⟩
def LEDG_AUDIT_ANY : Fld := ⟨0x1C048, 0, 31, 1, fun _ => 0, 1, 1, 1⟩
def LEDG_AUDIT_LANE : Fld := ⟨0x1C048, 0, 0, 5, fun _ => 0, 1, 1, 1⟩
def LEDG_S_SAMPLE_LO : Fld := ⟨0x1C050, 0, 0, 32, fun _ => 0, 1, 1, 1⟩
def LEDG_S_SAMPLE_HI : Fld := ⟨0x1C054, 0, 0, 32, fun _ => 0, 1, 1, 1⟩
def LEDG_S_IN_LO : Fld := ⟨0x1C058, 0, 0, 32, fun _ => 0, 1, 1, 1⟩
def LEDG_S_IN_HI : Fld := ⟨0x1C05C, 0, 0, 32, fun _ => 0, 1, 1, 1⟩
def LEDG_S_OUT_LO : Fld := ⟨0x1C060, 0, 0, 32, fun _ => 0, 1, 1, 1⟩
def LEDG_S_OUT_HI : Fld := ⟨0x1C064, 0, 0, 32, fun _ => 0, 1, 1, 1⟩
def LEDG_S_DISC_LO : Fld := ⟨0x1C068, 0, 0, 32, fun _ => 0, 1, 1, 1⟩
def LEDG_S_DISC_HI : Fld := ⟨0x1C06C, 0, 0, 32, fun _ => 0, 1, 1, 1⟩
def LEDG_S_HELD : Fld := ⟨0x1C070, 0, 0, 32, fun _ => 0, 1, 1, 1⟩
def LEDG_S_HMAX : Fld := ⟨0x1C074, 0, 0, 32, fun _ => 0, 1, 1, 1⟩
def LEDG_S_LATE : Fld := ⟨0x1C078, 0, 0, 32, fun _ => 0, 1, 1, 1⟩
def LEDG_S_DISABLE : Fld := ⟨0x1C07C, 0, 0, 32, fun _ => 0, 1, 1, 1⟩
def LEDG_S_WINGS : Fld := ⟨0x1C080, 0, 0, 32, fun _ => 0, 1, 1, 1⟩
def LEDG_MIG_CFG_TAIL : Fld := ⟨0x1C100, 0, 26, 4, fun _ => 1, 1, 1, 1⟩
def LEDG_MIG_CFG_REMOTE : Fld := ⟨0x1C100, 0, 24, 1, fun _ => 0, 1, 1, 1⟩
def LEDG_MIG_CFG_DST_DEV : Fld := ⟨0x1C100, 0, 16, 6, fun _ => 0, 1, 1, 1⟩
def LEDG_MIG_CFG_DST : Fld := ⟨0x1C100, 0, 8, 5, fun _ => 0, 1, 1, 1⟩
def LEDG_MIG_CFG_SRC : Fld := ⟨0x1C100, 0, 0, 5, fun _ => 0, 1, 1, 1⟩
def LEDG_MIG_S_LO : Fld := ⟨0x1C104, 0, 0, 32, fun _ => 0, 1, 1, 1⟩
def LEDG_MIG_S_HI : Fld := ⟨0x1C108, 0, 0, 32, fun _ => 0, 1, 1, 1⟩
def LEDG_MIG_CTL_GO : Fld := ⟨0x1C10C, 0, 31, 1, fun _ => 0, 1, 1, 1⟩
def LEDG_MIG_CTL_ABORT : Fld := ⟨0x1C10C, 0, 30, 1, fun _ => 0, 1, 1, 1⟩
def LEDG_MIG_STAT_ERR : Fld := ⟨0x1C110, 0, 28, 4, fun _ => 0, 1, 1, 1⟩
def LEDG_MIG_STAT_PHASE : Fld := ⟨0x1C110, 0, 25, 3, fun _ => 0, 1, 1, 1⟩
def LEDG_MIG_STAT_ROLE : Fld := ⟨0x1C110, 0, 3, 1, fun _ => 0, 1, 1, 1⟩
def LEDG_MIG_STAT_DUP : Fld := ⟨0x1C110, 0, 2, 1, fun _ => 0, 1, 1, 1⟩
def LEDG_MIG_STAT_READY : Fld := ⟨0x1C110, 0, 1, 1, fun _ => 0, 1, 1, 1⟩
def LEDG_MIG_STAT_BUSY : Fld := ⟨0x1C110, 0, 0, 1, fun _ => 0, 1, 1, 1⟩
def LEDG_MIG_GAP : Fld := ⟨0x1C114, 0, 0, 32, fun _ => 0, 1, 1, 1⟩
def LEDG_MIG_WARM : Fld := ⟨0x1C118, 0, 0, 32, fun _ => 0, 1, 1, 1⟩
def LEDG_MIG_CNT_ABORTED : Fld := ⟨0x1C11C, 0, 16, 16, fun _ => 0, 1, 1, 1⟩
def LEDG_MIG_CNT_DONE : Fld := ⟨0x1C11C, 0, 0, 16, fun _ => 0, 1, 1, 1⟩

/-! FC page: spec/10_fault_collector.md, Table 10-7 and the tables beside it. -/
def FC_STATUS_LO : Fld := ⟨0x4040, 0, 0, 32, fun _ => 0, 1, 1, 1⟩
def FC_STATUS_HI : Fld := ⟨0x4044, 0, 0, 24, fun _ => 0, 1, 1, 1⟩
def FC_FORCE_LO : Fld := ⟨0x4048, 0, 0, 32, fun _ => 0, 1, 1, 1⟩
def FC_FORCE_HI : Fld := ⟨0x404C, 0, 0, 32, fun _ => 0, 1, 1, 1⟩
def FC_CFG_FF_MIN : Fld := ⟨0x4050, 0, 12, 3, fun _ => 2, 1, 1, 1⟩
def FC_CFG_PIN_MIN : Fld := ⟨0x4050, 0, 8, 3, fun _ => 2, 1, 1, 1⟩
def FC_CFG_PULSE_W : Fld := ⟨0x4050, 0, 0, 8, fun _ => 1, 1, 1, 1⟩
def FC_PIN_MODE_NOW : Fld := ⟨0x4054, 0, 31, 1, fun _ => 1, 1, 1, 1⟩
def FC_PIN_TEST : Fld := ⟨0x4054, 0, 30, 1, fun _ => 0, 1, 1, 1⟩
def FC_PIN_SW_LVL : Fld := ⟨0x4054, 0, 29, 1, fun _ => 1, 1, 1, 1⟩
def FC_PIN_REMOTE_EN : Fld := ⟨0x4054, 0, 28, 1, fun _ => 1, 1, 1, 1⟩
def FC_PIN_LEVEL : Fld := ⟨0x4054, 0, 0, 1, fun _ => 1, 1, 1, 1⟩
def FC_REC_CNT : Fld := ⟨0x4058, 0, 0, 32, fun _ => 0, 1, 1, 1⟩
def FC_REJ_CNT : Fld := ⟨0x405C, 0, 0, 32, fun _ => 0, 1, 1, 1⟩
def FC_FF_SRC_VALID : Fld := ⟨0x4060, 0, 31, 1, fun _ => 0, 1, 1, 1⟩
def FC_FF_SRC_FORCED : Fld := ⟨0x4060, 0, 30, 1, fun _ => 0, 1, 1, 1⟩
def FC_FF_SRC_MAX_MERGED : Fld := ⟨0x4060, 0, 24, 3, fun _ => 0, 1, 1, 1⟩
def FC_FF_SRC_SEV : Fld := ⟨0x4060, 0, 16, 3, fun _ => 0, 1, 1, 1⟩
def FC_FF_SRC_SOURCE : Fld := ⟨0x4060, 0, 0, 6, fun _ => 0, 1, 1, 1⟩
def FC_FF_CAUSE : Fld := ⟨0x4064, 0, 0, 32, fun _ => 0, 1, 1, 1⟩
def FC_FF_TICK_LO : Fld := ⟨0x4068, 0, 0, 32, fun _ => 0, 1, 1, 1⟩
def FC_FF_TICK_HI : Fld := ⟨0x406C, 0, 0, 32, fun _ => 0, 1, 1, 1⟩
def FC_FF_SEQ_LO : Fld := ⟨0x4070, 0, 0, 32, fun _ => 0, 1, 1, 1⟩
def FC_FF_SEQ_HI : Fld := ⟨0x4074, 0, 0, 8, fun _ => 0, 1, 1, 1⟩
def FC_FF_MERGE_CO_EPOCH : Fld := ⟨0x4078, 0, 16, 16, fun _ => 0, 1, 1, 1⟩
def FC_FF_MERGE_MERGE : Fld := ⟨0x4078, 0, 0, 16, fun _ => 0, 1, 1, 1⟩
def FC_FF_CTL : Fld := ⟨0x407C, 0, 31, 1, fun _ => 0, 1, 1, 1⟩
def FC_SEV_REC_CNT : Fld := ⟨0x4080, 4, 24, 8, fun _ => 0, 56, 56, 1⟩
def FC_SEV_SET : Fld := ⟨0x4080, 4, 23, 1, fun _ => 0, 56, 56, 1⟩
def FC_SEV_STANDING : Fld := ⟨0x4080, 4, 22, 1, fun _ => 0, 56, 56, 1⟩
def FC_SEV_FIXED : Fld := ⟨0x4080, 4, 21, 1, fun n => (fixedSev n).toNat, 56, 56, 1⟩
def FC_SEV_QSEL : Fld := ⟨0x4080, 4, 16, 3, fun _ => 0, 56, 56, 1⟩
def FC_SEV_LAST : Fld := ⟨0x4080, 4, 12, 3, fun _ => 0, 56, 56, 1⟩
def FC_SEV_SCOPE : Fld := ⟨0x4080, 4, 8, 1, fun _ => 0, 56, 56, 1⟩
def FC_SEV_SEV : Fld := ⟨0x4080, 4, 0, 3, resetSev, 56, 56, 1⟩

/-! PB page: spec/11_prompt_book.md, Table 11-7 and the tables beside it. -/
def PB_CFG_COMPAT : Fld := ⟨0x8040, 0, 31, 1, fun _ => 0, 1, 1, 1⟩
def PB_CFG_RL_MAX : Fld := ⟨0x8040, 0, 16, 8, fun _ => 0xa, 1, 1, 1⟩
def PB_CFG_RL_WIN : Fld := ⟨0x8040, 0, 0, 16, fun _ => 0x3e8, 1, 1, 1⟩
def PB_STAT_MODE : Fld := ⟨0x8044, 0, 30, 2, fun _ => 1, 1, 1, 1⟩
def PB_STAT_FORMATTED : Fld := ⟨0x8044, 0, 29, 1, fun _ => 0, 1, 1, 1⟩
def PB_STAT_MAIN_FULL : Fld := ⟨0x8044, 0, 28, 1, fun _ => 0, 1, 1, 1⟩
def PB_STAT_APRON_FULL : Fld := ⟨0x8044, 0, 27, 1, fun _ => 0, 1, 1, 1⟩
def PB_STAT_OPEN : Fld := ⟨0x8044, 0, 26, 1, fun _ => 0, 1, 1, 1⟩
def PB_STAT_PF_ACTIVE : Fld := ⟨0x8044, 0, 25, 1, fun _ => 0, 1, 1, 1⟩
def PB_STAT_STAGED : Fld := ⟨0x8044, 0, 0, 14, fun _ => 0, 1, 1, 1⟩
def PB_NEXT_LO : Fld := ⟨0x8048, 0, 0, 32, fun _ => 0, 1, 1, 1⟩
def PB_NEXT_HI : Fld := ⟨0x804C, 0, 0, 8, fun _ => 0, 1, 1, 1⟩
def PB_CONF_LO : Fld := ⟨0x8050, 0, 0, 32, fun _ => 0, 1, 1, 1⟩
def PB_CONF_HI : Fld := ⟨0x8054, 0, 0, 8, fun _ => 0, 1, 1, 1⟩
def PB_TAG : Fld := ⟨0x8058, 0, 0, 32, fun _ => 0, 1, 1, 1⟩
def PB_MAIN_CAP : Fld := ⟨0x805C, 0, 0, 32, fun _ => 0, 1, 1, 1⟩
def PB_MAIN_USED : Fld := ⟨0x8060, 0, 0, 32, fun _ => 0, 1, 1, 1⟩
def PB_APRON_CAP : Fld := ⟨0x8064, 0, 0, 32, fun _ => 0, 1, 1, 1⟩
def PB_APRON_USED : Fld := ⟨0x8068, 0, 0, 32, fun _ => 0, 1, 1, 1⟩
def PB_DISP_CNT : Fld := ⟨0x806C, 0, 0, 32, fun _ => 0, 1, 1, 1⟩
def PB_DROP_FULL : Fld := ⟨0x8070, 0, 0, 32, fun _ => 0, 1, 1, 1⟩
def PB_DROP_APRON : Fld := ⟨0x8074, 0, 0, 32, fun _ => 0, 1, 1, 1⟩
def PB_DROP_STAGE : Fld := ⟨0x8078, 0, 0, 32, fun _ => 0, 1, 1, 1⟩
def PB_DROP_RL : Fld := ⟨0x807C, 0, 0, 32, fun _ => 0, 1, 1, 1⟩
def PB_WAIT_CNT : Fld := ⟨0x8080, 0, 0, 32, fun _ => 0, 1, 1, 1⟩
def PB_VAULT_PF_CNT : Fld := ⟨0x8084, 0, 16, 16, fun _ => 0, 1, 1, 1⟩
def PB_VAULT_WEAR : Fld := ⟨0x8084, 0, 0, 16, fun _ => 0, 1, 1, 1⟩
def PB_RD_SEQ_LO : Fld := ⟨0x8090, 0, 0, 32, fun _ => 0, 1, 1, 1⟩
def PB_RD_SEQ_HI : Fld := ⟨0x8094, 0, 0, 8, fun _ => 0, 1, 1, 1⟩
def PB_RD_CTL : Fld := ⟨0x8098, 0, 31, 1, fun _ => 0, 1, 1, 1⟩
def PB_RD_STAT_DONE : Fld := ⟨0x809C, 0, 31, 1, fun _ => 0, 1, 1, 1⟩
def PB_RD_STAT_WHERE : Fld := ⟨0x809C, 0, 28, 3, fun _ => 0, 1, 1, 1⟩
def PB_RD_STAT_OPEN : Fld := ⟨0x809C, 0, 0, 1, fun _ => 0, 1, 1, 1⟩
def PB_RD_DATA : Fld := ⟨0x80A0, 4, 0, 32, fun _ => 0, 8, 8, 1⟩
def PB_VFY_FROM_LO : Fld := ⟨0x80C0, 0, 0, 32, fun _ => 0, 1, 1, 1⟩
def PB_VFY_FROM_HI : Fld := ⟨0x80C4, 0, 0, 8, fun _ => 0, 1, 1, 1⟩
def PB_VFY_CNT : Fld := ⟨0x80C8, 0, 0, 32, fun _ => 1, 1, 1, 1⟩
def PB_VFY_CTL_GO : Fld := ⟨0x80CC, 0, 31, 1, fun _ => 0, 1, 1, 1⟩
def PB_VFY_CTL_STOP : Fld := ⟨0x80CC, 0, 30, 1, fun _ => 0, 1, 1, 1⟩
def PB_VFY_STAT_BUSY : Fld := ⟨0x80D0, 0, 31, 1, fun _ => 0, 1, 1, 1⟩
def PB_VFY_STAT_DONE : Fld := ⟨0x80D0, 0, 30, 1, fun _ => 0, 1, 1, 1⟩
def PB_VFY_STAT_FAIL : Fld := ⟨0x80D0, 0, 29, 1, fun _ => 0, 1, 1, 1⟩
def PB_VFY_BAD_LO : Fld := ⟨0x80D4, 0, 0, 32, fun _ => 0, 1, 1, 1⟩
def PB_VFY_BAD_HI : Fld := ⟨0x80D8, 0, 0, 8, fun _ => 0, 1, 1, 1⟩
def PB_VFY_DONE_CNT : Fld := ⟨0x80DC, 0, 0, 32, fun _ => 0, 1, 1, 1⟩

/-! STM page: spec/12_storage_manager.md, Table 12-12 and the tables beside it. -/
def STM_GEOM_CE_MASK : Fld := ⟨0x9040, 0, 24, 8, fun _ => 0, 1, 1, 1⟩
def STM_GEOM_BPC : Fld := ⟨0x9040, 0, 20, 4, fun _ => 0, 1, 1, 1⟩
def STM_GEOM_LUNS : Fld := ⟨0x9040, 0, 16, 4, fun _ => 0, 1, 1, 1⟩
def STM_GEOM_PAGE : Fld := ⟨0x9040, 0, 13, 3, fun _ => 0, 1, 1, 1⟩
def STM_GEOM_RAW : Fld := ⟨0x9040, 0, 0, 13, fun _ => 0, 1, 1, 1⟩
def STM_STAT_MEDIUM : Fld := ⟨0x9044, 0, 29, 3, fun _ => 4, 1, 1, 1⟩
def STM_STAT_MIRROR : Fld := ⟨0x9044, 0, 28, 1, fun _ => 0, 1, 1, 1⟩
def STM_STAT_SINGLE : Fld := ⟨0x9044, 0, 27, 1, fun _ => 0, 1, 1, 1⟩
def STM_STAT_SPARE_LOW : Fld := ⟨0x9044, 0, 26, 1, fun _ => 0, 1, 1, 1⟩
def STM_STAT_READY : Fld := ⟨0x9044, 0, 25, 1, fun _ => 0, 1, 1, 1⟩
def STM_STAT_USABLE : Fld := ⟨0x9044, 0, 0, 12, fun _ => 0, 1, 1, 1⟩
def STM_IF_MTS : Fld := ⟨0x9048, 0, 16, 16, fun _ => 0, 1, 1, 1⟩
def STM_IF_MAX_MTS : Fld := ⟨0x9048, 0, 0, 16, fun _ => 0x320, 1, 1, 1⟩
def STM_PSLC_EN : Fld := ⟨0x904C, 0, 31, 1, fun _ => 0, 1, 1, 1⟩
def STM_PSLC_FEAT : Fld := ⟨0x904C, 0, 16, 8, fun _ => 0, 1, 1, 1⟩
def STM_PSLC_ON : Fld := ⟨0x904C, 0, 8, 8, fun _ => 0, 1, 1, 1⟩
def STM_PSLC_OFF : Fld := ⟨0x904C, 0, 0, 8, fun _ => 0, 1, 1, 1⟩
def STM_RETRY_FEAT : Fld := ⟨0x9050, 0, 24, 8, fun _ => 0, 1, 1, 1⟩
def STM_RETRY_STEPS : Fld := ⟨0x9050, 0, 20, 4, fun _ => 0, 1, 1, 1⟩
def STM_ENDUR_PSLC : Fld := ⟨0x9054, 0, 16, 16, fun _ => 0, 1, 1, 1⟩
def STM_ENDUR_NATIVE : Fld := ⟨0x9054, 0, 0, 16, fun _ => 0, 1, 1, 1⟩
def STM_LIMITS_RD_LIM : Fld := ⟨0x9058, 0, 16, 16, fun _ => 0x64, 1, 1, 1⟩
def STM_LIMITS_WL_DELTA : Fld := ⟨0x9058, 0, 0, 16, fun _ => 0xc8, 1, 1, 1⟩
def STM_FMT_CFG_P16 : Fld := ⟨0x9060, 0, 26, 6, fun _ => 0, 1, 1, 1⟩
def STM_FMT_CFG_MIRROR : Fld := ⟨0x9060, 0, 25, 1, fun _ => 0, 1, 1, 1⟩
def STM_FMT_CFG_S : Fld := ⟨0x9060, 0, 0, 12, fun _ => 0, 1, 1, 1⟩
def STM_FMT_CTL_GO : Fld := ⟨0x9064, 0, 31, 1, fun _ => 0, 1, 1, 1⟩
def STM_FMT_CTL_RESHAPE : Fld := ⟨0x9064, 0, 30, 1, fun _ => 0, 1, 1, 1⟩
def STM_FMT_STAT_ERR : Fld := ⟨0x9068, 0, 28, 4, fun _ => 0, 1, 1, 1⟩
def STM_FMT_STAT_BUSY : Fld := ⟨0x9068, 0, 27, 1, fun _ => 0, 1, 1, 1⟩
def STM_FMT_STAT_DONE : Fld := ⟨0x9068, 0, 26, 1, fun _ => 0, 1, 1, 1⟩
def STM_PART_P16 : Fld := ⟨0x906C, 0, 26, 6, fun _ => 0, 1, 1, 1⟩
def STM_PART_H : Fld := ⟨0x906C, 0, 12, 12, fun _ => 0, 1, 1, 1⟩
def STM_PART_S : Fld := ⟨0x906C, 0, 0, 12, fun _ => 0, 1, 1, 1⟩
def STM_HIST_CFG_EN : Fld := ⟨0x9080, 0, 31, 1, fun _ => 1, 1, 1, 1⟩
def STM_HIST_CFG_INTERVAL : Fld := ⟨0x9080, 0, 0, 10, fun _ => 0xa, 1, 1, 1⟩
def STM_HIST_HEAD : Fld := ⟨0x9084, 0, 0, 32, fun _ => 0xffffffff, 1, 1, 1⟩
def STM_HIST_HOFS : Fld := ⟨0x9088, 0, 0, 32, fun _ => 0xffffffff, 1, 1, 1⟩
def STM_HIST_TAIL : Fld := ⟨0x908C, 0, 0, 32, fun _ => 0xffffffff, 1, 1, 1⟩
def STM_HIST_TOFS : Fld := ⟨0x9090, 0, 0, 32, fun _ => 0xffffffff, 1, 1, 1⟩
def STM_HIST_DROP : Fld := ⟨0x9094, 0, 0, 32, fun _ => 0, 1, 1, 1⟩
def STM_CAP_CFG_ARM : Fld := ⟨0x90A0, 0, 31, 1, fun _ => 0, 1, 1, 1⟩
def STM_CAP_CFG_POINT : Fld := ⟨0x90A0, 0, 29, 2, fun _ => 0, 1, 1, 1⟩
def STM_CAP_CFG_PRE : Fld := ⟨0x90A0, 0, 24, 4, fun _ => 8, 1, 1, 1⟩
def STM_CAP_CFG_TRIG : Fld := ⟨0x90A0, 0, 20, 4, fun _ => 3, 1, 1, 1⟩
def STM_CAP_CFG_SEV_MIN : Fld := ⟨0x90A0, 0, 16, 3, fun _ => 3, 1, 1, 1⟩
def STM_CAP_CFG_HOLDOFF : Fld := ⟨0x90A0, 0, 0, 16, fun _ => 0, 1, 1, 1⟩
def STM_CAP_LANES : Fld := ⟨0x90A4, 0, 0, 32, fun _ => 0, 1, 1, 1⟩
def STM_CAP_CTL : Fld := ⟨0x90A8, 0, 31, 1, fun _ => 0, 1, 1, 1⟩
def STM_CAP_STAT : Fld := ⟨0x90AC, 0, 30, 2, fun _ => 0, 1, 1, 1⟩
def STM_SNAP_HEAD : Fld := ⟨0x90B0, 0, 0, 32, fun _ => 0xffffffff, 1, 1, 1⟩
def STM_SNAP_HOFS : Fld := ⟨0x90B4, 0, 0, 32, fun _ => 0xffffffff, 1, 1, 1⟩
def STM_SNAP_TAIL : Fld := ⟨0x90B8, 0, 0, 32, fun _ => 0xffffffff, 1, 1, 1⟩
def STM_SNAP_TOFS : Fld := ⟨0x90BC, 0, 0, 32, fun _ => 0xffffffff, 1, 1, 1⟩
def STM_SNAP_MISS : Fld := ⟨0x90C0, 0, 0, 32, fun _ => 0, 1, 1, 1⟩
def STM_SCRUB_CFG_REFRESH : Fld := ⟨0x90D0, 0, 8, 8, fun _ => 0x3c, 1, 1, 1⟩
def STM_SCRUB_CFG_DAYS : Fld := ⟨0x90D0, 0, 0, 8, fun _ => 0x1e, 1, 1, 1⟩
def STM_SCRUB_STAT_PASSES : Fld := ⟨0x90D4, 0, 16, 16, fun _ => 0, 1, 1, 1⟩
def STM_SCRUB_STAT_PROGRESS : Fld := ⟨0x90D4, 0, 0, 10, fun _ => 0, 1, 1, 1⟩
def STM_SCRUB_AGE : Fld := ⟨0x90D8, 0, 0, 32, fun _ => 0, 1, 1, 1⟩
def STM_ECC_CORR : Fld := ⟨0x90E0, 0, 0, 32, fun _ => 0, 1, 1, 1⟩
def STM_ECC_SOFT : Fld := ⟨0x90E4, 0, 0, 32, fun _ => 0, 1, 1, 1⟩
def STM_ECC_UNC : Fld := ⟨0x90E8, 0, 0, 32, fun _ => 0, 1, 1, 1⟩
def STM_REFRESH_CNT : Fld := ⟨0x90EC, 0, 0, 32, fun _ => 0, 1, 1, 1⟩
def STM_RD_DIST_CNT : Fld := ⟨0x90F0, 0, 0, 32, fun _ => 0, 1, 1, 1⟩
def STM_RETIRED : Fld := ⟨0x90F4, 0, 0, 32, fun _ => 0, 1, 1, 1⟩
def STM_SPARE : Fld := ⟨0x90F8, 0, 0, 32, fun _ => 0, 1, 1, 1⟩
def STM_UNC_PART : Fld := ⟨0x90FC, 0, 0, 3, fun _ => 0, 1, 1, 1⟩
def STM_UNC_UNIT : Fld := ⟨0x9100, 0, 0, 32, fun _ => 0, 1, 1, 1⟩
def STM_WEAR_N_MAX : Fld := ⟨0x9104, 0, 16, 16, fun _ => 0, 1, 1, 1⟩
def STM_WEAR_N_MEAN : Fld := ⟨0x9104, 0, 0, 16, fun _ => 0, 1, 1, 1⟩
def STM_WEAR_S_MAX : Fld := ⟨0x9108, 0, 16, 16, fun _ => 0, 1, 1, 1⟩
def STM_WEAR_S_MEAN : Fld := ⟨0x9108, 0, 0, 16, fun _ => 0, 1, 1, 1⟩
def STM_LIFE_PSLC : Fld := ⟨0x910C, 0, 16, 16, fun _ => 0xffff, 1, 1, 1⟩
def STM_LIFE_NATIVE : Fld := ⟨0x910C, 0, 0, 16, fun _ => 0xffff, 1, 1, 1⟩

/-! HIF page: spec/13_host_interface.md, Table 13-9 and the tables beside it. -/
def HIF_LINK_SPEED : Fld := ⟨0xA040, 0, 28, 4, fun _ => 0, 1, 1, 1⟩
def HIF_LINK_WIDTH : Fld := ⟨0xA040, 0, 24, 4, fun _ => 0, 1, 1, 1⟩
def HIF_LINK_STRAP_W : Fld := ⟨0xA040, 0, 20, 4, fun _ => 4, 1, 1, 1⟩
def HIF_LINK_UP : Fld := ⟨0xA040, 0, 19, 1, fun _ => 0, 1, 1, 1⟩
def HIF_CFG_RO_EN : Fld := ⟨0xA044, 0, 31, 1, fun _ => 0, 1, 1, 1⟩
def HIF_CFG_MAX_GT : Fld := ⟨0xA044, 0, 16, 4, fun _ => 4, 1, 1, 1⟩
def HIF_CFG_TUN_TO : Fld := ⟨0xA044, 0, 0, 16, fun _ => 0x64, 1, 1, 1⟩
def HIF_PM_SLEEP : Fld := ⟨0xA048, 0, 31, 1, fun _ => 0, 1, 1, 1⟩
def HIF_PM_D3 : Fld := ⟨0xA048, 0, 30, 1, fun _ => 0, 1, 1, 1⟩
def HIF_PM_ASLEEP_NOW : Fld := ⟨0xA048, 0, 29, 1, fun _ => 0, 1, 1, 1⟩
def HIF_BADACC_CNT : Fld := ⟨0xA04C, 0, 0, 32, fun _ => 0, 1, 1, 1⟩
def HIF_TUN_TO_CNT : Fld := ⟨0xA050, 0, 0, 32, fun _ => 0, 1, 1, 1⟩
def HIF_WINB_WR_CNT : Fld := ⟨0xA054, 0, 0, 32, fun _ => 0, 1, 1, 1⟩
def HIF_CORR_CNT : Fld := ⟨0xA058, 0, 0, 32, fun _ => 0, 1, 1, 1⟩
def HIF_UNCORR_CNT : Fld := ⟨0xA05C, 0, 0, 32, fun _ => 0, 1, 1, 1⟩
def HIF_LINKDN_CNT : Fld := ⟨0xA060, 0, 0, 32, fun _ => 0, 1, 1, 1⟩
def HIF_BADACC_ADDR_WIN : Fld := ⟨0xA064, 0, 30, 2, fun _ => 0, 1, 1, 1⟩
def HIF_BADACC_ADDR_OFFSET : Fld := ⟨0xA064, 0, 0, 30, fun _ => 0, 1, 1, 1⟩
def MSIX_PBA : Fld := ⟨0xAC00, 0, 0, 4, fun _ => 0, 1, 1, 1⟩

/-! DMA page: spec/13_host_interface.md, Table 13-10 and the tables beside it. -/
def DMA_STAT_STOPPED : Fld := ⟨0xB040, 0, 8, 8, fun _ => 0, 1, 1, 1⟩
def DMA_STAT_RUNNING : Fld := ⟨0xB040, 0, 0, 8, fun _ => 0, 1, 1, 1⟩
def DMA_Q_CFG_EN : Fld := ⟨0xB100, 0x40, 31, 1, fun _ => 0, 8, 8, 1⟩
def DMA_Q_CFG_RESET : Fld := ⟨0xB100, 0x40, 30, 1, fun _ => 0, 8, 8, 1⟩
def DMA_Q_CFG_MOD_CNT : Fld := ⟨0xB100, 0x40, 16, 8, fun _ => 1, 8, 8, 1⟩
def DMA_Q_CFG_MOD_TIME : Fld := ⟨0xB100, 0x40, 0, 16, fun _ => 0, 8, 8, 1⟩
def DMA_Q_BASE_LO : Fld := ⟨0xB104, 0x40, 0, 32, fun _ => 0, 8, 8, 1⟩
def DMA_Q_BASE_HI : Fld := ⟨0xB108, 0x40, 0, 32, fun _ => 0, 8, 8, 1⟩
def DMA_CQ_BASE_LO : Fld := ⟨0xB10C, 0x40, 0, 32, fun _ => 0, 8, 8, 1⟩
def DMA_CQ_BASE_HI : Fld := ⟨0xB110, 0x40, 0, 32, fun _ => 0, 8, 8, 1⟩
def DMA_Q_TAIL : Fld := ⟨0xB114, 0x40, 0, 10, fun _ => 0, 8, 8, 1⟩
def DMA_Q_HEAD : Fld := ⟨0xB118, 0x40, 0, 10, fun _ => 0, 8, 8, 1⟩
def DMA_CQ_HEAD : Fld := ⟨0xB11C, 0x40, 0, 10, fun _ => 0, 8, 8, 1⟩
def DMA_CQ_TAIL_PHASE : Fld := ⟨0xB120, 0x40, 16, 1, fun _ => 1, 8, 8, 1⟩
def DMA_CQ_TAIL_TAIL : Fld := ⟨0xB120, 0x40, 0, 10, fun _ => 0, 8, 8, 1⟩
def DMA_Q_STAT_STATE : Fld := ⟨0xB124, 0x40, 30, 2, fun _ => 0, 8, 8, 1⟩
def DMA_Q_STAT_LAST_ERR : Fld := ⟨0xB124, 0x40, 26, 4, fun _ => 0, 8, 8, 1⟩
def DMA_Q_STAT_CQ_FULL : Fld := ⟨0xB124, 0x40, 25, 1, fun _ => 0, 8, 8, 1⟩
def DMA_Q_STAT_ERR_SEEN : Fld := ⟨0xB124, 0x40, 24, 1, fun _ => 0, 8, 8, 1⟩
def DMA_Q_STAT_SIG : Fld := ⟨0xB124, 0x40, 0, 10, fun _ => 0, 8, 8, 1⟩
def DMA_Q_DONE_CNT : Fld := ⟨0xB128, 0x40, 0, 32, fun _ => 0, 8, 8, 1⟩
def DMA_Q_ERR_CNT : Fld := ⟨0xB12C, 0x40, 0, 32, fun _ => 0, 8, 8, 1⟩

/-! IC page: spec/13_host_interface.md, Table 13-11 and the tables beside it. -/
def IC_STAT_WAKE : Fld := ⟨0x5040, 0, 24, 4, fun _ => 0, 1, 1, 1⟩
def IC_STAT_LINE : Fld := ⟨0x5040, 0, 16, 4, fun _ => 0, 1, 1, 1⟩
def IC_STAT_FAST_PEND : Fld := ⟨0x5040, 0, 12, 4, fun _ => 0, 1, 1, 1⟩
def IC_STAT_NORM_PEND : Fld := ⟨0x5040, 0, 8, 4, fun _ => 0, 1, 1, 1⟩
def IC_WAKE : Fld := ⟨0x5044, 0, 0, 4, fun _ => 0, 1, 1, 1⟩
def IC_BADCMP_CNT : Fld := ⟨0x5048, 0, 0, 32, fun _ => 0, 1, 1, 1⟩
def IC_SPUR_CNT : Fld := ⟨0x504C, 0, 0, 32, fun _ => 0, 1, 1, 1⟩
def IC_CNT_PTR : Fld := ⟨0x5050, 0, 0, 8, fun _ => 0, 1, 1, 1⟩
def IC_CNT_ASSERT : Fld := ⟨0x5054, 0, 0, 32, fun _ => 0, 1, 1, 1⟩
def IC_CNT_CLAIM : Fld := ⟨0x5058, 0, 0, 32, fun _ => 0, 1, 1, 1⟩
def IC_CNT_STAT_VALID : Fld := ⟨0x505C, 0, 31, 1, fun _ => 0, 1, 1, 1⟩
def IC_CNT_STAT_PENDING : Fld := ⟨0x505C, 0, 1, 1, fun _ => 0, 1, 1, 1⟩
def IC_CNT_STAT_ACTIVE : Fld := ⟨0x505C, 0, 0, 1, fun _ => 0, 1, 1, 1⟩
def IC_TGT_CFG_MASK : Fld := ⟨0x5080, 0x10, 31, 1, fun _ => 0, 4, 4, 1⟩
def IC_TGT_CFG_ASLEEP : Fld := ⟨0x5080, 0x10, 30, 1, fun _ => 0, 4, 4, 1⟩
def IC_TGT_CFG_DELIV : Fld := ⟨0x5080, 0x10, 29, 1, fun _ => 0, 4, 4, 1⟩
def IC_CLAIM : Fld := ⟨0x5084, 0x10, 0, 8, fun _ => 0, 4, 4, 1⟩
def IC_COMPLETE : Fld := ⟨0x5088, 0x10, 0, 8, fun _ => 0, 4, 4, 1⟩
def IC_TGT_STAT_LAST_CLAIM : Fld := ⟨0x508C, 0x10, 24, 8, fun _ => 0, 4, 4, 1⟩
def IC_TGT_STAT_LAST_BAD : Fld := ⟨0x508C, 0x10, 16, 8, fun _ => 0, 4, 4, 1⟩
def IC_TGT_STAT_TOP : Fld := ⟨0x508C, 0x10, 8, 8, fun _ => 0, 4, 4, 1⟩
def IC_TGT_STAT_ACTIVE : Fld := ⟨0x508C, 0x10, 0, 8, fun _ => 0, 4, 4, 1⟩
def IC_PEND : Fld := ⟨0x5100, 4, 0, 32, fun _ => 0, 8, 8, 1⟩
def IC_ACTIVE : Fld := ⟨0x5140, 4, 0, 32, fun _ => 0, 8, 8, 1⟩
def IC_SRC_EN : Fld := ⟨0x5400, 4, 31, 1, fun _ => 0, 256, 256, 1⟩
def IC_SRC_CLASS : Fld := ⟨0x5400, 4, 30, 1, fun _ => 0, 256, 256, 1⟩
def IC_SRC_TARGETS : Fld := ⟨0x5400, 4, 24, 4, fun _ => 1, 256, 256, 1⟩
def IC_SRC_OWNER : Fld := ⟨0x5400, 4, 18, 2, fun _ => 0, 256, 256, 1⟩
def IC_SRC_ACTIVE : Fld := ⟨0x5400, 4, 17, 1, fun _ => 0, 256, 256, 1⟩
def IC_SRC_PEND : Fld := ⟨0x5400, 4, 16, 1, fun _ => 0, 256, 256, 1⟩
def IC_SRC_LEVEL : Fld := ⟨0x5400, 4, 15, 1, fun _ => 0, 256, 256, 1⟩

/-! RING page: spec/14_cascade_ring.md, Table 14-8 and the tables beside it. -/
def RING_CFG_AUTO_RESTORE : Fld := ⟨0xC040, 0, 8, 1, fun _ => 1, 1, 1, 1⟩
def RING_CFG_FWD_TGT : Fld := ⟨0xC040, 0, 0, 2, fun _ => 0, 1, 1, 1⟩
def RING_STAT_STATE : Fld := ⟨0xC044, 0, 29, 3, fun _ => 0, 1, 1, 1⟩
def RING_STAT_SIZE : Fld := ⟨0xC044, 0, 22, 7, fun _ => 1, 1, 1, 1⟩
def RING_STAT_POS : Fld := ⟨0xC044, 0, 16, 6, fun _ => 0, 1, 1, 1⟩
def RING_STAT_BREAK_VALID : Fld := ⟨0xC044, 0, 14, 1, fun _ => 0, 1, 1, 1⟩
def RING_STAT_BREAK_POS : Fld := ⟨0xC044, 0, 8, 6, fun _ => 0, 1, 1, 1⟩
def RING_STAT_DN_UP : Fld := ⟨0xC044, 0, 1, 1, fun _ => 0, 1, 1, 1⟩
def RING_STAT_UP_UP : Fld := ⟨0xC044, 0, 0, 1, fun _ => 0, 1, 1, 1⟩
def RING_CTL_RETRAIN_UP : Fld := ⟨0xC048, 0, 31, 1, fun _ => 0, 1, 1, 1⟩
def RING_CTL_RETRAIN_DN : Fld := ⟨0xC048, 0, 30, 1, fun _ => 0, 1, 1, 1⟩
def RING_CTL_RESTORE : Fld := ⟨0xC048, 0, 29, 1, fun _ => 0, 1, 1, 1⟩
def RING_CTL_RST_GO : Fld := ⟨0xC048, 0, 28, 1, fun _ => 0, 1, 1, 1⟩
def RING_CTL_RST_ALL : Fld := ⟨0xC048, 0, 27, 1, fun _ => 0, 1, 1, 1⟩
def RING_CTL_RST_DEV : Fld := ⟨0xC048, 0, 0, 6, fun _ => 0, 1, 1, 1⟩
def RING_PRES_LO : Fld := ⟨0xC04C, 0, 0, 32, fun _ => 1, 1, 1, 1⟩
def RING_PRES_HI : Fld := ⟨0xC050, 0, 0, 32, fun _ => 0, 1, 1, 1⟩
def RING_READY_LO : Fld := ⟨0xC054, 0, 0, 32, fun _ => 0, 1, 1, 1⟩
def RING_READY_HI : Fld := ⟨0xC058, 0, 0, 32, fun _ => 0, 1, 1, 1⟩
def RING_FAULTN_LO : Fld := ⟨0xC05C, 0, 0, 32, fun _ => 0, 1, 1, 1⟩
def RING_FAULTN_HI : Fld := ⟨0xC060, 0, 0, 32, fun _ => 0, 1, 1, 1⟩
def RING_ABS_WR_CNT : Fld := ⟨0xC064, 0, 0, 32, fun _ => 0, 1, 1, 1⟩
def RING_REROUTE_CNT : Fld := ⟨0xC068, 0, 0, 32, fun _ => 0, 1, 1, 1⟩
def RING_REPLAY_CNT : Fld := ⟨0xC06C, 0, 0, 32, fun _ => 0, 1, 1, 1⟩
def RING_WDISC_CNT : Fld := ⟨0xC070, 0, 0, 32, fun _ => 0, 1, 1, 1⟩
def RING_TUN_PEND : Fld := ⟨0xC074, 0, 0, 7, fun _ => 0, 1, 1, 1⟩
def RING_PORT_STAT_STATE : Fld := ⟨0xC080, 0x20, 30, 2, fun _ => 0, 2, 2, 1⟩
def RING_PORT_STAT_RX_LOCK : Fld := ⟨0xC080, 0x20, 4, 4, fun _ => 0, 2, 2, 1⟩
def RING_PORT_STAT_TX_OK : Fld := ⟨0xC080, 0x20, 0, 4, fun _ => 0, 2, 2, 1⟩
def RING_PORT_TRAIN_CNT : Fld := ⟨0xC084, 0x20, 0, 32, fun _ => 0, 2, 2, 1⟩
def RING_PORT_CRC_CNT : Fld := ⟨0xC088, 0x20, 0, 32, fun _ => 0, 2, 2, 1⟩
def RING_PORT_HDR_CNT : Fld := ⟨0xC08C, 0x20, 0, 32, fun _ => 0, 2, 2, 1⟩
def RING_PORT_SKEW : Fld := ⟨0xC090, 0x20, 0, 32, fun _ => 0, 2, 2, 1⟩
def RING_DROP_CNT : Fld := ⟨0xC0C0, 4, 0, 32, fun _ => 0, 4, 4, 1⟩
def RING_CEN_PTR_PORT : Fld := ⟨0xC0D0, 0, 2, 1, fun _ => 0, 1, 1, 1⟩
def RING_CEN_PTR_VC : Fld := ⟨0xC0D0, 0, 0, 2, fun _ => 0, 1, 1, 1⟩
def RING_CEN_A_C_S : Fld := ⟨0xC0D4, 0, 16, 9, fun _ => 0, 1, 1, 1⟩
def RING_CEN_A_HELD : Fld := ⟨0xC0D4, 0, 0, 9, fun _ => 0, 1, 1, 1⟩
def RING_CEN_B_FLIGHT : Fld := ⟨0xC0D8, 0, 16, 9, fun _ => 0, 1, 1, 1⟩
def RING_CEN_B_TOTAL : Fld := ⟨0xC0D8, 0, 0, 9, fun _ => 0, 1, 1, 1⟩
def RING_CEN_CNT : Fld := ⟨0xC0DC, 0, 0, 32, fun _ => 0, 1, 1, 1⟩
def RING_CEN_FAIL_CNT : Fld := ⟨0xC0E0, 0, 0, 32, fun _ => 0, 1, 1, 1⟩
def RING_MAP_VALID : Fld := ⟨0xC100, 4, 31, 1, fun _ => 0, 64, 64, 1⟩
def RING_MAP_VERTEX : Fld := ⟨0xC100, 4, 30, 1, fun _ => 0, 64, 64, 1⟩
def RING_MAP_STATE : Fld := ⟨0xC100, 4, 28, 2, fun _ => 0, 64, 64, 1⟩
def RING_MAP_ID : Fld := ⟨0xC100, 4, 16, 6, fun _ => 0, 64, 64, 1⟩
def RING_MAP_VERSION : Fld := ⟨0xC100, 4, 0, 8, fun _ => 0, 64, 64, 1⟩

/-! HK page: spec/15_housekeeping_and_thermal.md, Table 15-7 and the tables beside it. -/
def HK_CFG_EN : Fld := ⟨0x13040, 0, 31, 1, fun _ => 0, 1, 1, 1⟩
def HK_CFG_LP : Fld := ⟨0x13040, 0, 1, 1, fun _ => 0, 1, 1, 1⟩
def HK_CFG_FILT : Fld := ⟨0x13040, 0, 0, 1, fun _ => 1, 1, 1, 1⟩
def HK_SCAN_MASK : Fld := ⟨0x13044, 0, 0, 32, fun _ => 0, 1, 1, 1⟩
def HK_TRIG_TIMER_EN : Fld := ⟨0x13048, 0, 31, 1, fun _ => 0, 1, 1, 1⟩
def HK_TRIG_PWM_EN : Fld := ⟨0x13048, 0, 30, 1, fun _ => 0, 1, 1, 1⟩
def HK_TRIG_PWM_EDGE : Fld := ⟨0x13048, 0, 29, 1, fun _ => 0, 1, 1, 1⟩
def HK_TRIG_PWM_CH : Fld := ⟨0x13048, 0, 16, 3, fun _ => 0, 1, 1, 1⟩
def HK_TRIG_DELAY : Fld := ⟨0x13048, 0, 0, 16, fun _ => 0, 1, 1, 1⟩
def HK_TIMER : Fld := ⟨0x1304C, 0, 0, 16, fun _ => 0x60, 1, 1, 1⟩
def HK_CTL : Fld := ⟨0x13050, 0, 31, 1, fun _ => 0, 1, 1, 1⟩
def HK_STAT_BUSY : Fld := ⟨0x13054, 0, 31, 1, fun _ => 0, 1, 1, 1⟩
def HK_STAT_HELD : Fld := ⟨0x13054, 0, 30, 1, fun _ => 0, 1, 1, 1⟩
def HK_STAT_SLOW : Fld := ⟨0x13054, 0, 29, 1, fun _ => 0, 1, 1, 1⟩
def HK_STAT_LATE : Fld := ⟨0x13054, 0, 28, 1, fun _ => 0, 1, 1, 1⟩
def HK_STAT_SCAN_CNT : Fld := ⟨0x13054, 0, 0, 16, fun _ => 0, 1, 1, 1⟩
def HK_DISC_CNT : Fld := ⟨0x13058, 0, 0, 32, fun _ => 0, 1, 1, 1⟩
def HK_LATE_CNT : Fld := ⟨0x1305C, 0, 0, 32, fun _ => 0, 1, 1, 1⟩
def HK_OVR_CNT : Fld := ⟨0x13060, 0, 0, 32, fun _ => 0, 1, 1, 1⟩
def HK_OVR_STICKY : Fld := ⟨0x13064, 0, 0, 32, fun _ => 0, 1, 1, 1⟩
def HK_RAW_PTR : Fld := ⟨0x13068, 0, 0, 5, fun _ => 0, 1, 1, 1⟩
def HK_RAW : Fld := ⟨0x1306C, 0, 0, 16, fun _ => 0, 1, 1, 1⟩
def HK_TRIM_OFS : Fld := ⟨0x13070, 0, 16, 16, fun _ => 0, 1, 1, 1⟩
def HK_TRIM_GAIN : Fld := ⟨0x13070, 0, 0, 16, fun _ => 0, 1, 1, 1⟩
def HK_RES_VALID : Fld := ⟨0x13100, 4, 31, 1, fun _ => 0, 32, 32, 1⟩
def HK_RES_SUSPECT : Fld := ⟨0x13100, 4, 30, 1, fun _ => 0, 32, 32, 1⟩
def HK_RES_OVR : Fld := ⟨0x13100, 4, 29, 1, fun _ => 0, 32, 32, 1⟩
def HK_RES_SLOW : Fld := ⟨0x13100, 4, 28, 1, fun _ => 0, 32, 32, 1⟩
def HK_RES_LATE : Fld := ⟨0x13100, 4, 27, 1, fun _ => 0, 32, 32, 1⟩
def HK_RES_CNT : Fld := ⟨0x13100, 4, 16, 11, fun _ => 0, 32, 32, 1⟩
def HK_RES_VALUE : Fld := ⟨0x13100, 4, 0, 16, fun _ => 0, 32, 32, 1⟩

/-! THM page: spec/15_housekeeping_and_thermal.md, Table 15-8 and the tables beside it. -/
def THM_CFG_THR_EN : Fld := ⟨0x14040, 0, 31, 1, fun _ => 1, 1, 1, 1⟩
def THM_CFG_HYST : Fld := ⟨0x14040, 0, 0, 8, fun _ => 4, 1, 1, 1⟩
def THM_STAT_SHUT : Fld := ⟨0x14044, 0, 31, 1, fun _ => 0, 1, 1, 1⟩
def THM_STAT_COOLING : Fld := ⟨0x14044, 0, 30, 1, fun _ => 0, 1, 1, 1⟩
def THM_STAT_BLIND : Fld := ⟨0x14044, 0, 29, 1, fun _ => 0, 1, 1, 1⟩
def THM_STAT_STEP : Fld := ⟨0x14044, 0, 24, 4, fun _ => 0, 1, 1, 1⟩
def THM_STAT_HOT_SENS : Fld := ⟨0x14044, 0, 16, 2, fun _ => 0, 1, 1, 1⟩
def THM_STAT_T_HOT : Fld := ⟨0x14044, 0, 0, 16, fun _ => 0x8000, 1, 1, 1⟩
def THM_COOL : Fld := ⟨0x14048, 0, 0, 16, fun _ => 0, 1, 1, 1⟩
def THM_SHUT_CNT : Fld := ⟨0x1404C, 0, 0, 32, fun _ => 0, 1, 1, 1⟩
def THM_STEP_CNT : Fld := ⟨0x14050, 0, 0, 32, fun _ => 0, 1, 1, 1⟩
def THM_CTL : Fld := ⟨0x14054, 0, 0, 1, fun _ => 0, 1, 1, 1⟩
def THM_MAX : Fld := ⟨0x14060, 4, 0, 16, fun _ => 0x8000, 4, 4, 1⟩

/-! PWM page: spec/15_housekeeping_and_thermal.md, Table 15-9 and the tables beside it. -/
def PWM_CFG_EN : Fld := ⟨0x15040, 0x10, 31, 1, fun _ => 0, 6, 6, 1⟩
def PWM_CFG_POL : Fld := ⟨0x15040, 0x10, 30, 1, fun _ => 0, 6, 6, 1⟩
def PWM_CFG_SHUT_EN : Fld := ⟨0x15040, 0x10, 29, 1, fun _ => 0, 6, 6, 1⟩
def PWM_CFG_OWNED : Fld := ⟨0x15040, 0x10, 28, 1, fun _ => 0, 6, 6, 1⟩
def PWM_CFG_PRESC : Fld := ⟨0x15040, 0x10, 16, 4, fun _ => 0, 6, 6, 1⟩
def PWM_CFG_SHUT_DUTY : Fld := ⟨0x15040, 0x10, 0, 16, fun _ => 0, 6, 6, 1⟩
def PWM_PER : Fld := ⟨0x15044, 0x10, 0, 16, fun _ => 0x9999, 6, 6, 1⟩
def PWM_DUTY : Fld := ⟨0x15048, 0x10, 0, 16, fun _ => 0, 6, 6, 1⟩
def PWM_STAT_LEVEL : Fld := ⟨0x1504C, 0x10, 31, 1, fun _ => 0, 6, 6, 1⟩
def PWM_STAT_MISMATCH : Fld := ⟨0x1504C, 0x10, 30, 1, fun _ => 0, 6, 6, 1⟩
def BDAC_CFG_OWNED : Fld := ⟨0x15100, 8, 31, 1, fun _ => 0, 8, 8, 1⟩
def BDAC_CFG_SAFE : Fld := ⟨0x15100, 8, 16, 12, fun _ => 0, 8, 8, 1⟩
def BDAC_CFG_STEP : Fld := ⟨0x15100, 8, 0, 8, fun _ => 0, 8, 8, 1⟩
def BDAC_CODE_OUT : Fld := ⟨0x15104, 8, 16, 12, fun _ => 0, 8, 8, 1⟩
def BDAC_CODE_CODE : Fld := ⟨0x15104, 8, 0, 12, fun _ => 0, 8, 8, 1⟩
def PWM_IGNWR_CNT : Fld := ⟨0x15180, 0, 0, 32, fun _ => 0, 1, 1, 1⟩

/-! TWT page: spec/16_two_wire_ports.md, Table 16-7 and the tables beside it. -/
def TWT_CFG_IDLE_S : Fld := ⟨0x16040, 0, 16, 8, fun _ => 0xa, 1, 1, 1⟩
def TWT_CFG_SLEEP_EN : Fld := ⟨0x16040, 0, 8, 1, fun _ => 1, 1, 1, 1⟩
def TWT_CFG_ADDR : Fld := ⟨0x16040, 0, 0, 7, fun _ => 0x20, 1, 1, 1⟩
def TWT_STAT_ASLEEP : Fld := ⟨0x16044, 0, 31, 1, fun _ => 1, 1, 1, 1⟩
def TWT_STAT_ALERT : Fld := ⟨0x16044, 0, 30, 1, fun _ => 0, 1, 1, 1⟩
def TWT_STAT_BUSY : Fld := ⟨0x16044, 0, 29, 1, fun _ => 0, 1, 1, 1⟩
def TWT_STAT_OUT_FULL : Fld := ⟨0x16044, 0, 9, 1, fun _ => 0, 1, 1, 1⟩
def TWT_STAT_IN_FULL : Fld := ⟨0x16044, 0, 8, 1, fun _ => 0, 1, 1, 1⟩
def TWT_STAT_PTR : Fld := ⟨0x16044, 0, 0, 8, fun _ => 0, 1, 1, 1⟩
def TWT_ALERT_EN : Fld := ⟨0x16048, 0, 0, 6, fun _ => 0x1f, 1, 1, 1⟩
def TWT_CTL_ALERT : Fld := ⟨0x1604C, 0, 31, 1, fun _ => 0, 1, 1, 1⟩
def TWT_CTL_OUT_GO : Fld := ⟨0x1604C, 0, 30, 1, fun _ => 0, 1, 1, 1⟩
def TWT_CTL_IN_ACK : Fld := ⟨0x1604C, 0, 29, 1, fun _ => 0, 1, 1, 1⟩
def TWT_XFER_CNT : Fld := ⟨0x16050, 0, 0, 32, fun _ => 0, 1, 1, 1⟩
def TWT_RSACK_CNT : Fld := ⟨0x16054, 0, 0, 32, fun _ => 0, 1, 1, 1⟩
def TWT_STUCK_CNT : Fld := ⟨0x16058, 0, 0, 32, fun _ => 0, 1, 1, 1⟩
def TWT_NACK_CNT : Fld := ⟨0x1605C, 0, 0, 32, fun _ => 0, 1, 1, 1⟩
def TWT_ROWR_CNT : Fld := ⟨0x16060, 0, 0, 32, fun _ => 0, 1, 1, 1⟩
def TWT_MBOX_IN : Fld := ⟨0x16080, 4, 0, 32, fun _ => 0, 16, 16, 1⟩
def TWT_MBOX_OUT : Fld := ⟨0x160C0, 4, 0, 32, fun _ => 0, 16, 16, 1⟩

/-! TWC page: spec/16_two_wire_ports.md, Table 16-8 and the tables beside it. -/
def TWC_CFG_EN : Fld := ⟨0x17040, 0x1000, 31, 1, fun _ => 0, 2, 2, 1⟩
def TWC_CFG_STRETCH : Fld := ⟨0x17040, 0x1000, 16, 8, fun _ => 0x19, 2, 2, 1⟩
def TWC_TIME_A_HIGH : Fld := ⟨0x17044, 0x1000, 16, 10, fun _ => 0xf6, 2, 2, 1⟩
def TWC_TIME_A_LOW : Fld := ⟨0x17044, 0x1000, 0, 10, fun _ => 0x121, 2, 2, 1⟩
def TWC_TIME_B : Fld := ⟨0x17048, 0x1000, 0, 10, fun _ => 0x13, 2, 2, 1⟩
def TWC_CTL_ABORT : Fld := ⟨0x1704C, 0x1000, 31, 1, fun _ => 0, 2, 2, 1⟩
def TWC_CTL_CLEAR : Fld := ⟨0x1704C, 0x1000, 30, 1, fun _ => 0, 2, 2, 1⟩
def TWC_STAT_BUSY : Fld := ⟨0x17050, 0x1000, 31, 1, fun _ => 0, 2, 2, 1⟩
def TWC_STAT_STUCK : Fld := ⟨0x17050, 0x1000, 30, 1, fun _ => 0, 2, 2, 1⟩
def TWC_STAT_SDA : Fld := ⟨0x17050, 0x1000, 29, 1, fun _ => 1, 2, 2, 1⟩
def TWC_STAT_SCL : Fld := ⟨0x17050, 0x1000, 28, 1, fun _ => 1, 2, 2, 1⟩
def TWC_STAT_LAST : Fld := ⟨0x17050, 0x1000, 24, 4, fun _ => 0, 2, 2, 1⟩
def TWC_CMD_GO : Fld := ⟨0x17054, 0x1000, 31, 1, fun _ => 0, 2, 2, 1⟩
def TWC_CMD_PEC : Fld := ⟨0x17054, 0x1000, 30, 1, fun _ => 0, 2, 2, 1⟩
def TWC_CMD_WLEN : Fld := ⟨0x17054, 0x1000, 16, 6, fun _ => 0, 2, 2, 1⟩
def TWC_CMD_RLEN : Fld := ⟨0x17054, 0x1000, 8, 6, fun _ => 0, 2, 2, 1⟩
def TWC_CMD_ADDR : Fld := ⟨0x17054, 0x1000, 0, 7, fun _ => 0, 2, 2, 1⟩
def TWC_CMD_STAT_BUSY : Fld := ⟨0x17058, 0x1000, 31, 1, fun _ => 0, 2, 2, 1⟩
def TWC_CMD_STAT_RESULT : Fld := ⟨0x17058, 0x1000, 24, 4, fun _ => 0, 2, 2, 1⟩
def TWC_CMD_STAT_BYTES : Fld := ⟨0x17058, 0x1000, 16, 6, fun _ => 0, 2, 2, 1⟩
def TWC_DATA : Fld := ⟨0x17060, 4, 0, 32, fun _ => 0, 8, 1024, 2⟩
def TWC_REG_CFG_EN : Fld := ⟨0x17080, 0x1000, 31, 1, fun _ => 0, 2, 2, 1⟩
def TWC_REG_CFG_PEC : Fld := ⟨0x17080, 0x1000, 30, 1, fun _ => 0, 2, 2, 1⟩
def TWC_REG_CFG_BE : Fld := ⟨0x17080, 0x1000, 29, 1, fun _ => 0, 2, 2, 1⟩
def TWC_REG_CFG_LEN : Fld := ⟨0x17080, 0x1000, 28, 1, fun _ => 0, 2, 2, 1⟩
def TWC_REG_CFG_ADDR : Fld := ⟨0x17080, 0x1000, 16, 7, fun _ => 0, 2, 2, 1⟩
def TWC_REG_CFG_CMD : Fld := ⟨0x17080, 0x1000, 8, 8, fun _ => 0, 2, 2, 1⟩
def TWC_REG_MAP_MUL : Fld := ⟨0x17084, 0x1000, 16, 16, fun _ => 0, 2, 2, 1⟩
def TWC_REG_MAP_BASE : Fld := ⟨0x17084, 0x1000, 0, 16, fun _ => 0, 2, 2, 1⟩
def TWC_REG_STAT_RESULT : Fld := ⟨0x17088, 0x1000, 28, 4, fun _ => 0, 2, 2, 1⟩
def TWC_REG_STAT_MV : Fld := ⟨0x17088, 0x1000, 16, 10, fun _ => 0, 2, 2, 1⟩
def TWC_REG_STAT_FAILS : Fld := ⟨0x17088, 0x1000, 0, 16, fun _ => 0, 2, 2, 1⟩
def TWC_XFER_CNT : Fld := ⟨0x17090, 0x1000, 0, 32, fun _ => 0, 2, 2, 1⟩
def TWC_FAIL_CNT : Fld := ⟨0x17094, 0x1000, 0, 32, fun _ => 0, 2, 2, 1⟩
def TWC_CLEAR_CNT : Fld := ⟨0x17098, 0x1000, 0, 32, fun _ => 0, 2, 2, 1⟩
def TWC_POLL_SKIP_CNT : Fld := ⟨0x1709C, 0x1000, 0, 32, fun _ => 0, 2, 2, 1⟩
def TWC_REG_DROP_CNT : Fld := ⟨0x170A0, 0x1000, 0, 32, fun _ => 0, 2, 2, 1⟩
def TWC_POLL_A_EN : Fld := ⟨0x17100, 0x10, 31, 1, fun _ => 0, 16, 256, 2⟩
def TWC_POLL_A_PEC : Fld := ⟨0x17100, 0x10, 30, 1, fun _ => 0, 16, 256, 2⟩
def TWC_POLL_A_SIGNED : Fld := ⟨0x17100, 0x10, 29, 1, fun _ => 0, 16, 256, 2⟩
def TWC_POLL_A_BE : Fld := ⟨0x17100, 0x10, 28, 1, fun _ => 0, 16, 256, 2⟩
def TWC_POLL_A_LEN : Fld := ⟨0x17100, 0x10, 27, 1, fun _ => 0, 16, 256, 2⟩
def TWC_POLL_A_SHIFT : Fld := ⟨0x17100, 0x10, 23, 4, fun _ => 0, 16, 256, 2⟩
def TWC_POLL_A_ADDR : Fld := ⟨0x17100, 0x10, 16, 7, fun _ => 0, 16, 256, 2⟩
def TWC_POLL_A_CMD : Fld := ⟨0x17100, 0x10, 8, 8, fun _ => 0, 16, 256, 2⟩
def TWC_POLL_B : Fld := ⟨0x17104, 0x10, 0, 16, fun _ => 1, 16, 256, 2⟩
def TWC_POLL_RES_VALID : Fld := ⟨0x17108, 0x10, 31, 1, fun _ => 0, 16, 256, 2⟩
def TWC_POLL_RES_FAIL : Fld := ⟨0x17108, 0x10, 30, 1, fun _ => 0, 16, 256, 2⟩
def TWC_POLL_RES_RAW : Fld := ⟨0x17108, 0x10, 0, 16, fun _ => 0, 16, 256, 2⟩

/-! BOOT page: spec/17_startup_and_settings.md, Table 17-11 and the tables beside it. -/
def BOOT_STAT_PHASE : Fld := ⟨0x1040, 0, 29, 3, fun _ => 0, 1, 1, 1⟩
def BOOT_STAT_COPY : Fld := ⟨0x1040, 0, 27, 2, fun _ => 0, 1, 1, 1⟩
def BOOT_STAT_A_VALID : Fld := ⟨0x1040, 0, 26, 1, fun _ => 0, 1, 1, 1⟩
def BOOT_STAT_B_VALID : Fld := ⟨0x1040, 0, 25, 1, fun _ => 0, 1, 1, 1⟩
def BOOT_STAT_CHECKED : Fld := ⟨0x1040, 0, 24, 1, fun _ => 0, 1, 1, 1⟩
def BOOT_STAT_AUTH : Fld := ⟨0x1040, 0, 23, 1, fun _ => 0, 1, 1, 1⟩
def BOOT_STAT_ABORTED : Fld := ⟨0x1040, 0, 22, 1, fun _ => 0, 1, 1, 1⟩
def BOOT_STAT_KIND : Fld := ⟨0x1040, 0, 19, 3, fun _ => 0, 1, 1, 1⟩
def BOOT_STAT_RECORDS : Fld := ⟨0x1040, 0, 0, 16, fun _ => 0, 1, 1, 1⟩
def BOOT_SEQ : Fld := ⟨0x1044, 0, 0, 32, fun _ => 0, 1, 1, 1⟩
def BOOT_ERR_CODE : Fld := ⟨0x1048, 0, 28, 4, fun _ => 0, 1, 1, 1⟩
def BOOT_ERR_COPY : Fld := ⟨0x1048, 0, 26, 2, fun _ => 0, 1, 1, 1⟩
def BOOT_ERR_OFFSET : Fld := ⟨0x1048, 0, 0, 26, fun _ => 0, 1, 1, 1⟩
def BOOT_TIME : Fld := ⟨0x104C, 0, 0, 32, fun _ => 0, 1, 1, 1⟩
def BOOT_CFG : Fld := ⟨0x1050, 0, 0, 1, fun _ => 0, 1, 1, 1⟩
def BOOT_RESET_KEY : Fld := ⟨0x1054, 0, 24, 8, fun _ => 0, 1, 1, 1⟩
def BOOT_RESET_KIND : Fld := ⟨0x1054, 0, 0, 3, fun _ => 0, 1, 1, 1⟩

/-! SEC page: spec/17_startup_and_settings.md, Table 17-11 and the tables beside it. -/
def SEC_STAT_CHAIN_KEY : Fld := ⟨0x2040, 0, 31, 1, fun _ => 0, 1, 1, 1⟩
def SEC_STAT_IMG_KEY : Fld := ⟨0x2040, 0, 30, 1, fun _ => 0, 1, 1, 1⟩
def SEC_STAT_AUTH_REQ : Fld := ⟨0x2040, 0, 29, 1, fun _ => 0, 1, 1, 1⟩
def SEC_STAT_BUSY : Fld := ⟨0x2040, 0, 28, 1, fun _ => 0, 1, 1, 1⟩
def SEC_STAT_RESULT : Fld := ⟨0x2040, 0, 24, 4, fun _ => 0, 1, 1, 1⟩
def SEC_UID_LO : Fld := ⟨0x2044, 0, 0, 32, fun _ => 0, 1, 1, 1⟩
def SEC_UID_HI : Fld := ⟨0x2048, 0, 0, 32, fun _ => 0, 1, 1, 1⟩
def SEC_PROG_CONFIRM : Fld := ⟨0x204C, 0, 24, 8, fun _ => 0, 1, 1, 1⟩
def SEC_PROG_SLOT : Fld := ⟨0x204C, 0, 0, 2, fun _ => 0, 1, 1, 1⟩
def SEC_KEY : Fld := ⟨0x2050, 4, 0, 32, fun _ => 0, 8, 8, 1⟩
def SEC_AUTH_FAIL_CNT : Fld := ⟨0x2070, 0, 0, 32, fun _ => 0, 1, 1, 1⟩

/-! SMEM page: spec/17_startup_and_settings.md, Table 17-11 and the tables beside it. -/
def SMEM_STAT_READY : Fld := ⟨0x19040, 0, 31, 1, fun _ => 0, 1, 1, 1⟩
def SMEM_STAT_MODE : Fld := ⟨0x19040, 0, 28, 3, fun _ => 0, 1, 1, 1⟩
def SMEM_STAT_ADDR4 : Fld := ⟨0x19040, 0, 27, 1, fun _ => 0, 1, 1, 1⟩
def SMEM_STAT_SFDP_OK : Fld := ⟨0x19040, 0, 26, 1, fun _ => 0, 1, 1, 1⟩
def SMEM_STAT_DIV : Fld := ⟨0x19040, 0, 16, 6, fun _ => 0x14, 1, 1, 1⟩
def SMEM_STAT_SIZE_LOG2 : Fld := ⟨0x19040, 0, 0, 8, fun _ => 0, 1, 1, 1⟩
def SMEM_CFG_LOCK : Fld := ⟨0x19044, 0, 31, 1, fun _ => 1, 1, 1, 1⟩
def SMEM_CFG_DIV : Fld := ⟨0x19044, 0, 0, 6, fun _ => 0xa, 1, 1, 1⟩
def SMEM_CMD_GO : Fld := ⟨0x19048, 0, 31, 1, fun _ => 0, 1, 1, 1⟩
def SMEM_CMD_WREN : Fld := ⟨0x19048, 0, 30, 1, fun _ => 0, 1, 1, 1⟩
def SMEM_CMD_ADDR : Fld := ⟨0x19048, 0, 29, 1, fun _ => 0, 1, 1, 1⟩
def SMEM_CMD_WRITE : Fld := ⟨0x19048, 0, 28, 1, fun _ => 0, 1, 1, 1⟩
def SMEM_CMD_QUAD : Fld := ⟨0x19048, 0, 27, 1, fun _ => 0, 1, 1, 1⟩
def SMEM_CMD_POLL : Fld := ⟨0x19048, 0, 26, 1, fun _ => 0, 1, 1, 1⟩
def SMEM_CMD_OPCODE : Fld := ⟨0x19048, 0, 16, 8, fun _ => 0, 1, 1, 1⟩
def SMEM_CMD_DUMMY : Fld := ⟨0x19048, 0, 0, 8, fun _ => 0, 1, 1, 1⟩
def SMEM_ADDR : Fld := ⟨0x1904C, 0, 0, 26, fun _ => 0, 1, 1, 1⟩
def SMEM_LEN : Fld := ⟨0x19050, 0, 0, 9, fun _ => 0, 1, 1, 1⟩
def SMEM_CMD_STAT_BUSY : Fld := ⟨0x19054, 0, 31, 1, fun _ => 0, 1, 1, 1⟩
def SMEM_CMD_STAT_DONE : Fld := ⟨0x19054, 0, 30, 1, fun _ => 0, 1, 1, 1⟩
def SMEM_CMD_STAT_RESULT : Fld := ⟨0x19054, 0, 28, 2, fun _ => 0, 1, 1, 1⟩
def SMEM_ERR_CNT : Fld := ⟨0x19058, 0, 0, 32, fun _ => 0, 1, 1, 1⟩
def SMEM_DATA : Fld := ⟨0x19100, 4, 0, 32, fun _ => 0, 64, 64, 1⟩

/-! SYS page: spec/19_electrical_and_package.md, Table 19-15 and the tables beside it. -/
def SYS_SUPPLY_NVQ_1V2 : Fld := ⟨0x80, 0, 31, 1, fun _ => 0, 1, 1, 1⟩
def SYS_SUPPLY_OVER_STICKY : Fld := ⟨0x80, 0, 24, 7, fun _ => 0, 1, 1, 1⟩
def SYS_SUPPLY_UNDER_STICKY : Fld := ⟨0x80, 0, 16, 7, fun _ => 0, 1, 1, 1⟩
def SYS_SUPPLY_OVER_NOW : Fld := ⟨0x80, 0, 8, 7, fun _ => 0, 1, 1, 1⟩
def SYS_SUPPLY_UNDER_NOW : Fld := ⟨0x80, 0, 0, 7, fun _ => 0, 1, 1, 1⟩
def SYS_SUPPLY_CNT : Fld := ⟨0x84, 0, 0, 32, fun _ => 0, 1, 1, 1⟩
def SYS_GPIO_DIR : Fld := ⟨0xC0, 0, 0, 16, fun _ => 0, 1, 1, 1⟩
def SYS_GPIO_OUT : Fld := ⟨0xC4, 0, 0, 16, fun _ => 0, 1, 1, 1⟩
def SYS_GPIO_IN : Fld := ⟨0xC8, 0, 0, 16, fun _ => 0, 1, 1, 1⟩
def SYS_GPIO_EDGE_FALL : Fld := ⟨0xCC, 0, 16, 16, fun _ => 0, 1, 1, 1⟩
def SYS_GPIO_EDGE_RISE : Fld := ⟨0xCC, 0, 0, 16, fun _ => 0, 1, 1, 1⟩

/-! CONVTX page: spec/02_lanes_and_converters.md, Table 2-16 and the tables beside it. -/
def CONVTX_PEAK : Fld := ⟨0x2804C, 0x1000, 0, 16, fun _ => 0x8000, 8, 8, 1⟩
def CONVTX_BGCAL_AGE : Fld := ⟨0x28050, 0x1000, 16, 16, fun _ => 0xffff, 8, 8, 1⟩
def CONVTX_BGCAL_CYCLES : Fld := ⟨0x28050, 0x1000, 0, 16, fun _ => 0, 8, 8, 1⟩

/-! MEAS page: spec/04_spotlight_and_measurement.md, Table 4-11 and the tables beside it. -/
def MEAS_CFG_RISE : Fld := ⟨0x55040, 0, 16, 8, fun _ => 8, 1, 1, 1⟩
def MEAS_CFG_BIAS : Fld := ⟨0x55040, 0, 8, 8, fun _ => 0x10, 1, 1, 1⟩
def MEAS_CFG_SMOOTH : Fld := ⟨0x55040, 0, 0, 4, fun _ => 6, 1, 1, 1⟩
def MEAS_LOAD : Fld := ⟨0x55048, 0, 0, 12, fun _ => 0, 1, 1, 1⟩
def MEAS_CTXWR_CNT : Fld := ⟨0x5504C, 0, 0, 32, fun _ => 0, 1, 1, 1⟩
def MEAS_ECC_CNT : Fld := ⟨0x55050, 0, 0, 32, fun _ => 0, 1, 1, 1⟩
def MEAS_SNAP_DATA : Fld := ⟨0x55080, 4, 0, 32, fun _ => 0, 16, 16, 1⟩
def MEAS_LANE_CFG_EN : Fld := ⟨0x55100, 0x10, 31, 1, fun _ => 0, 16, 16, 1⟩
def MEAS_LANE_CFG_RES : Fld := ⟨0x55100, 0x10, 24, 3, fun _ => 0, 16, 16, 1⟩
def MEAS_LANE_CFG_FIRST : Fld := ⟨0x55100, 0x10, 0, 14, fun _ => 0, 16, 16, 1⟩
def MEAS_LANE_MAP_BASE : Fld := ⟨0x55104, 0x10, 16, 14, fun _ => 0, 16, 16, 1⟩
def MEAS_LANE_MAP_COUNT : Fld := ⟨0x55104, 0x10, 0, 15, fun _ => 0, 16, 16, 1⟩

/-! HIF page: spec/13_host_interface.md, Table 13-9 and the tables beside it. -/
def MSIX_ADDR : Fld := ⟨0xA800, 0x10, 0, 32, fun _ => 0, 4, 4, 1⟩
def MSIX_UADDR : Fld := ⟨0xA804, 0x10, 0, 32, fun _ => 0, 4, 4, 1⟩
def MSIX_DATA : Fld := ⟨0xA808, 0x10, 0, 32, fun _ => 0, 4, 4, 1⟩
def MSIX_CTRL : Fld := ⟨0xA80C, 0x10, 0, 32, fun _ => 1, 4, 4, 1⟩

def dirSYS : List Row :=
  [⟨SYS_CMD, 0, 1, .wo⟩, ⟨SYS_STATE_CUR_LATCHED, 0, 1, .ro⟩, ⟨SYS_STATE_DEV_ID, 0, 1, .ro⟩, ⟨SYS_STATE_VERTEX, 0, 1, .ro⟩,
   ⟨SYS_STATE_AUTONOMOUS, 0, 1, .ro⟩, ⟨SYS_STATE_ISO_VALID, 0, 1, .ro⟩, ⟨SYS_STATE_PROT_ARMED, 0, 1, .ro⟩, ⟨SYS_STATE_TIME_ACQ, 0, 1, .ro⟩,
   ⟨SYS_STATE_CAL_DONE, 0, 1, .ro⟩, ⟨SYS_STATE_IN_TRANSITION, 0, 1, .ro⟩, ⟨SYS_STATE_PENDING, 0, 1, .ro⟩, ⟨SYS_STATE_DEV_STATE, 0, 1, .ro⟩,
   ⟨SYS_REJ_CNT, 0, 1, .ro⟩, ⟨SYS_SUPPLY_NVQ_1V2, 0, 1, .ro⟩, ⟨SYS_SUPPLY_OVER_STICKY, 0, 1, .w1c⟩, ⟨SYS_SUPPLY_UNDER_STICKY, 0, 1, .w1c⟩,
   ⟨SYS_SUPPLY_OVER_NOW, 0, 1, .ro⟩, ⟨SYS_SUPPLY_UNDER_NOW, 0, 1, .ro⟩, ⟨SYS_SUPPLY_CNT, 0, 1, .ro⟩, ⟨SYS_GPIO_DIR, 0, 1, .rw⟩,
   ⟨SYS_GPIO_OUT, 0, 1, .rw⟩, ⟨SYS_GPIO_IN, 0, 1, .ro⟩, ⟨SYS_GPIO_EDGE_FALL, 0, 1, .w1c⟩, ⟨SYS_GPIO_EDGE_RISE, 0, 1, .w1c⟩]
def dirCONVRX : List Row :=
  [⟨CONVRX_CFG_OVR_CNT_CLR, 0, 8, .wo⟩, ⟨CONVRX_CFG_BGCAL_EN, 0, 8, .rw⟩, ⟨CONVRX_CFG_SIDE, 0, 8, .rw⟩, ⟨CONVRX_CFG_EN, 0, 8, .rw⟩,
   ⟨CONVRX_STAT_OVR_STICKY, 0, 8, .w1c⟩, ⟨CONVRX_STAT_OVR_NOW, 0, 8, .ro⟩, ⟨CONVRX_STAT_CAL_FAIL, 0, 8, .ro⟩, ⟨CONVRX_STAT_CAL_DONE, 0, 8, .ro⟩,
   ⟨CONVRX_OVR_CNT, 0, 8, .ro⟩, ⟨CONVRX_PEAK, 0, 8, .ro⟩, ⟨CONVRX_BGCAL_AGE, 0, 8, .ro⟩, ⟨CONVRX_BGCAL_CYCLES, 0, 8, .ro⟩]
def dirCONVTX : List Row :=
  [⟨CONVTX_CFG_BACKOFF, 0, 8, .rw⟩, ⟨CONVTX_CFG_CLIP_CNT_CLR, 0, 8, .wo⟩, ⟨CONVTX_CFG_SINC_EQ, 0, 8, .rw⟩, ⟨CONVTX_CFG_MODE, 0, 8, .rw⟩,
   ⟨CONVTX_CFG_BGCAL_EN, 0, 8, .rw⟩, ⟨CONVTX_CFG_SIDE, 0, 8, .rw⟩, ⟨CONVTX_CFG_EN, 0, 8, .rw⟩, ⟨CONVTX_STAT_CURTAIN, 0, 8, .ro⟩,
   ⟨CONVTX_STAT_CLIP_STICKY, 0, 8, .w1c⟩, ⟨CONVTX_STAT_CLIP_NOW, 0, 8, .ro⟩, ⟨CONVTX_STAT_CAL_FAIL, 0, 8, .ro⟩, ⟨CONVTX_STAT_CAL_DONE, 0, 8, .ro⟩,
   ⟨CONVTX_CLIP_CNT, 0, 8, .ro⟩, ⟨CONVTX_PEAK, 0, 8, .ro⟩, ⟨CONVTX_BGCAL_AGE, 0, 8, .ro⟩, ⟨CONVTX_BGCAL_CYCLES, 0, 8, .ro⟩]
def dirLANE : List Row :=
  [⟨LANE_CFG_EN, 0, 32, .rw⟩, ⟨LANE_CFG_TX_EN, 0, 32, .rw⟩, ⟨LANE_CFG_TDD, 0, 32, .rw⟩, ⟨LANE_CFG_RX_PORT, 0, 32, .rw⟩,
   ⟨LANE_CFG_TX_PORT, 0, 32, .rw⟩, ⟨LANE_CFG_RATE, 0, 32, .rw⟩, ⟨LANE_RX_FTW_LO, 0, 32, .rw⟩, ⟨LANE_TX_FTW_LO, 0, 32, .rw⟩,
   ⟨LANE_RX_FTW_HI, 0, 32, .rw⟩, ⟨LANE_TX_FTW_HI, 0, 32, .rw⟩, ⟨LANE_RX_PHASE, 0, 32, .rw⟩, ⟨LANE_TX_PHASE, 0, 32, .rw⟩,
   ⟨LANE_GAIN_LIMIT, 0, 32, .ro⟩, ⟨LANE_GAIN_CLAMPED, 0, 32, .ro⟩, ⟨LANE_GAIN_APPLIED, 0, 32, .ro⟩, ⟨LANE_STAT_ERR_CODE, 0, 32, .ro⟩,
   ⟨LANE_STAT_SAT_STICKY, 0, 32, .w1c⟩, ⟨LANE_STAT_SUSPECT_STICKY, 0, 32, .w1c⟩, ⟨LANE_STAT_SUSPECT, 0, 32, .ro⟩, ⟨LANE_STAT_ACTIVE, 0, 32, .ro⟩,
   ⟨LANE_DEC_I, 0, 32, .ro⟩, ⟨LANE_DEC_D, 0, 32, .ro⟩, ⟨LANE_LAT, 0, 32, .ro⟩, ⟨LANE_SAT_CNT, 0, 32, .ro⟩]
def dirCHF : List Row :=
  [⟨CHF_SEL, 0, 32, .rw⟩, ⟨CHF_ROM_PTR_TAP, 0, 1, .rw⟩, ⟨CHF_ROM_PTR_INDEX, 0, 1, .rw⟩, ⟨CHF_ROM_DATA, 0, 1, .ro⟩,
   ⟨CHF_ECC_CNT, 0, 1, .ro⟩, ⟨CHF_UNC_VALID, 0, 1, .ro⟩, ⟨CHF_UNC_INDEX, 0, 1, .ro⟩]
def dirRSM : List Row :=
  [⟨RSM_RATIO_LO, 0, 32, .ro⟩, ⟨RSM_RATIO_HI, 0, 32, .ro⟩, ⟨RSM_DELAY, 0, 32, .rw⟩, ⟨RSM_STAT, 0, 32, .ro⟩,
   ⟨RSM_ECC_CNT, 0, 1, .ro⟩, ⟨RSM_ROM_PTR_PHASE, 0, 1, .rw⟩, ⟨RSM_ROM_PTR_TAP, 0, 1, .rw⟩, ⟨RSM_ROM_DATA, 0, 1, .ro⟩,
   ⟨RSM_UNC_VALID, 0, 1, .ro⟩, ⟨RSM_UNC_CHECK, 0, 1, .ro⟩, ⟨RSM_UNC_LANE, 0, 1, .ro⟩, ⟨RSM_UNC_PHASE, 0, 1, .ro⟩,
   ⟨RSM_UNC_TAP, 0, 1, .ro⟩]
def dirCNX0 : List Row :=
  [⟨CNX_MARGIN, 0, 1, .rw⟩, ⟨CNX_CEIL_RISE, 0, 1, .rw⟩, ⟨CNX_XCAP, 0, 1, .rw⟩, ⟨CNX_PROBE_PROBE_REL, 0, 1, .rw⟩,
   ⟨CNX_PROBE_PROBE_LVL, 0, 1, .rw⟩, ⟨CNX_SNAP, 0, 1, .wo⟩, ⟨CNX_TAP_ALLOC, 0, 1, .ro⟩, ⟨CNX_TAP_FREE, 0, 1, .ro⟩,
   ⟨CNX_LOAD, 0, 1, .ro⟩, ⟨CNX_CLU_PTR, 0, 1, .rw⟩, ⟨CNX_CLU_DESC_USED, 0, 1, .ro⟩, ⟨CNX_CLU_DESC_ROLE, 0, 1, .ro⟩,
   ⟨CNX_CLU_DESC_PATH, 0, 1, .ro⟩, ⟨CNX_CLU_DESC_POS, 0, 1, .rw⟩, ⟨CNX_DIV_CNT, 0, 1, .ro⟩, ⟨CNX_ECC_CNT, 0, 1, .ro⟩,
   ⟨CNX_TAPWR_CNT, 0, 1, .ro⟩, ⟨CNX_ISO_RETAINED, 0, 32, .ro⟩, ⟨CNX_ISO_FLOOR, 0, 32, .ro⟩, ⟨CNX_ISO_ISO, 0, 32, .ro⟩,
   ⟨CNX_XC, 0, 32, .ro⟩, ⟨CNX_CEIL_TARGET, 0, 32, .ro⟩, ⟨CNX_CEIL_RISING, 0, 32, .ro⟩, ⟨CNX_CEIL_CEIL, 0, 32, .ro⟩,
   ⟨CNX_LOOP, 0, 32, .ro⟩, ⟨CNX_PATH_CFG_EN, 0, 128, .rw⟩, ⟨CNX_PATH_CFG_FREEZE, 0, 128, .rw⟩, ⟨CNX_PATH_CFG_AUTO, 0, 128, .rw⟩,
   ⟨CNX_PATH_CFG_SPARE, 0, 128, .rw⟩, ⟨CNX_PATH_CFG_REMOTE, 0, 128, .rw⟩, ⟨CNX_PATH_CFG_PROBE_ADAPT, 0, 128, .rw⟩, ⟨CNX_PATH_CFG_SRC, 0, 128, .rw⟩,
   ⟨CNX_PATH_CFG_DENSE, 0, 128, .rw⟩, ⟨CNX_PATH_CFG_SPARSE, 0, 128, .rw⟩, ⟨CNX_PATH_CFG_STEP, 0, 128, .rw⟩, ⟨CNX_PATH_CFG_UPD, 0, 128, .rw⟩,
   ⟨CNX_PATH_FOFS, 0, 128, .rw⟩, ⟨CNX_PATH_EST_ISO, 0, 128, .ro⟩, ⟨CNX_PATH_EST_XC, 0, 128, .ro⟩, ⟨CNX_PATH_STAT_ERR, 0, 128, .ro⟩]
def dirCNX1 : List Row :=
  [⟨CNX_PATH_STAT_FREEZE, 0, 128, .ro⟩, ⟨CNX_PATH_STAT_FLOOR, 0, 128, .ro⟩, ⟨CNX_PATH_STAT_ISO_VALID, 0, 128, .ro⟩, ⟨CNX_PATH_STAT_EST_RESET, 0, 128, .w1c⟩,
   ⟨CNX_PATH_STAT_ACTIVE, 0, 128, .ro⟩, ⟨CNX_STX_CFG_EN, 0, 8, .rw⟩, ⟨CNX_STX_CFG_DIR, 0, 8, .rw⟩, ⟨CNX_STX_CFG_HOPS, 0, 8, .rw⟩,
   ⟨CNX_STX_CFG_SHIFT, 0, 8, .rw⟩, ⟨CNX_STX_CFG_LANE, 0, 8, .rw⟩, ⟨CNX_STX_STAT_ERR, 0, 8, .ro⟩, ⟨CNX_STX_STAT_ARC, 0, 8, .ro⟩,
   ⟨CNX_STX_STAT_ACTIVE, 0, 8, .ro⟩, ⟨CNX_STX_SAT_CNT, 0, 8, .ro⟩, ⟨CNX_SRX_LOST_CNT, 0, 8, .ro⟩, ⟨CNX_SRX_CFG_EN, 0, 8, .rw⟩,
   ⟨CNX_SRX_CFG_SRC_DEV, 0, 8, .rw⟩, ⟨CNX_SRX_CFG_SRC_SLOT, 0, 8, .rw⟩, ⟨CNX_SRX_STAT_LAT, 0, 8, .ro⟩, ⟨CNX_SRX_STAT_CURTAIN, 0, 8, .ro⟩,
   ⟨CNX_SRX_STAT_LOST, 0, 8, .ro⟩, ⟨CNX_SRX_STAT_ACTIVE, 0, 8, .ro⟩]
def dirCNX : List Row := dirCNX0 ++ dirCNX1
def dirSLN : List Row :=
  [⟨SLN_CFG_THRESH, 0, 1, .rw⟩, ⟨SLN_CFG_DIRECT_WIN, 0, 1, .rw⟩, ⟨SLN_CFG_DENSE_PRE, 0, 1, .rw⟩, ⟨SLN_CTL_HOLD, 0, 1, .rw⟩,
   ⟨SLN_CTL_GO, 0, 1, .wo⟩, ⟨SLN_CTL_PATH, 0, 1, .rw⟩, ⟨SLN_STAT_BUSY, 0, 1, .ro⟩, ⟨SLN_STAT_CUR_PATH, 0, 1, .ro⟩,
   ⟨SLN_STAT_SEARCH_CNT, 0, 1, .ro⟩, ⟨SLN_RES_PTR_PATH, 0, 1, .rw⟩, ⟨SLN_RES_PTR_PEAK, 0, 1, .rw⟩, ⟨SLN_RES_POS, 0, 1, .ro⟩,
   ⟨SLN_RES_LEVEL, 0, 1, .ro⟩, ⟨SLN_RES_INFO_COVERED, 0, 1, .ro⟩, ⟨SLN_RES_INFO_DIRECT, 0, 1, .ro⟩, ⟨SLN_RES_INFO_AGE, 0, 1, .ro⟩,
   ⟨SLN_UNCOV, 0, 1, .ro⟩]
def dirSPT : List Row :=
  [⟨SPT_CFG_RISE, 0, 1, .rw⟩, ⟨SPT_CFG_BIAS, 0, 1, .rw⟩, ⟨SPT_CFG_SMOOTH, 0, 1, .rw⟩, ⟨SPT_MON, 0, 1, .rw⟩,
   ⟨SPT_LOAD, 0, 1, .ro⟩, ⟨SPT_CTXWR_CNT, 0, 1, .ro⟩, ⟨SPT_ECC_CNT, 0, 1, .ro⟩, ⟨SPT_STUCK_ANY, 0, 1, .ro⟩,
   ⟨SPT_STUCK_CTX, 0, 1, .ro⟩, ⟨SPT_SNAP_DONE, 0, 1, .ro⟩, ⟨SPT_SNAP_GO, 0, 1, .wo⟩, ⟨SPT_SNAP_CTX, 0, 1, .rw⟩,
   ⟨SPT_SNAP_DATA, 0, 16, .ro⟩, ⟨SPT_LANE_CFG_EN, 0, 16, .rw⟩, ⟨SPT_LANE_CFG_GATE, 0, 16, .rw⟩, ⟨SPT_LANE_CFG_RES, 0, 16, .rw⟩,
   ⟨SPT_LANE_CFG_FIRST, 0, 16, .rw⟩, ⟨SPT_LANE_MAP_BASE, 0, 16, .rw⟩, ⟨SPT_LANE_MAP_COUNT, 0, 16, .rw⟩, ⟨SPT_LANE_STAT_ERR, 0, 16, .ro⟩,
   ⟨SPT_LANE_STAT_OPEN_NOW, 0, 16, .ro⟩, ⟨SPT_LANE_STAT_LEARNING, 0, 16, .ro⟩, ⟨SPT_LANE_STAT_GATING, 0, 16, .ro⟩, ⟨SPT_LANE_STAT_MEASURING, 0, 16, .ro⟩,
   ⟨SPT_LANE_STAT_ARMED, 0, 16, .ro⟩, ⟨SPT_LANE_NC_UNC, 0, 16, .ro⟩, ⟨SPT_LANE_NC_NC, 0, 16, .ro⟩]
def dirMEAS : List Row :=
  [⟨MEAS_LANE_STAT_ACTIVE_NOW, 0, 16, .ro⟩, ⟨MEAS_LANE_STAT_ERR, 0, 16, .ro⟩, ⟨MEAS_LANE_STAT_LEARNING, 0, 16, .ro⟩, ⟨MEAS_LANE_STAT_MEASURING, 0, 16, .ro⟩,
   ⟨MEAS_LANE_STAT_ARMED, 0, 16, .ro⟩, ⟨MEAS_LANE_PWR_FLR, 0, 16, .ro⟩, ⟨MEAS_LANE_PWR_PWR, 0, 16, .ro⟩, ⟨MEAS_SNAP_CTX, 0, 1, .rw⟩,
   ⟨MEAS_SNAP_DONE, 0, 1, .ro⟩, ⟨MEAS_SNAP_GO, 0, 1, .wo⟩, ⟨MEAS_CFG_RISE, 0, 1, .rw⟩, ⟨MEAS_CFG_BIAS, 0, 1, .rw⟩,
   ⟨MEAS_CFG_SMOOTH, 0, 1, .rw⟩, ⟨MEAS_LOAD, 0, 1, .ro⟩, ⟨MEAS_CTXWR_CNT, 0, 1, .ro⟩, ⟨MEAS_ECC_CNT, 0, 1, .ro⟩,
   ⟨MEAS_SNAP_DATA, 0, 16, .ro⟩, ⟨MEAS_LANE_CFG_EN, 0, 16, .rw⟩, ⟨MEAS_LANE_CFG_RES, 0, 16, .rw⟩, ⟨MEAS_LANE_CFG_FIRST, 0, 16, .rw⟩,
   ⟨MEAS_LANE_MAP_BASE, 0, 16, .rw⟩, ⟨MEAS_LANE_MAP_COUNT, 0, 16, .rw⟩]
def dirPROT : List Row :=
  [⟨PROT_OSC_LINE, 0, 1, .rw⟩, ⟨PROT_OSC_RHO, 0, 1, .rw⟩, ⟨PROT_OSC_GROW, 0, 1, .rw⟩, ⟨PROT_OD_OD_PWR, 0, 1, .rw⟩,
   ⟨PROT_OD_OD_CLIPS, 0, 1, .rw⟩, ⟨PROT_NR_FRAMES, 0, 1, .rw⟩, ⟨PROT_NR_LIMIT, 0, 1, .rw⟩, ⟨PROT_PRES, 0, 1, .rw⟩,
   ⟨PROT_RAMP, 0, 1, .rw⟩, ⟨PROT_REC, 0, 1, .rw⟩, ⟨PROT_LANE_CFG_DONOR_REF, 0, 32, .rw⟩, ⟨PROT_LANE_CFG_NR_EN, 0, 32, .rw⟩,
   ⟨PROT_LANE_STAT_CAP, 0, 32, .ro⟩, ⟨PROT_LANE_STAT_PRESENT, 0, 32, .ro⟩, ⟨PROT_LANE_STAT_BACKOFF, 0, 32, .ro⟩, ⟨PROT_LANE_STAT_DONOR_ARMED, 0, 32, .ro⟩,
   ⟨PROT_LANE_STAT_NR_ARMED, 0, 32, .ro⟩, ⟨PROT_LANE_STAT_OSC_ARMED, 0, 32, .ro⟩, ⟨PROT_LANE_STAT_ALL_ARMED, 0, 32, .ro⟩, ⟨PROT_LANE_NR_NC_AVG, 0, 32, .ro⟩,
   ⟨PROT_LANE_NR_DN, 0, 32, .ro⟩, ⟨PROT_EM_BAND_CENTRE, 0, 32, .rw⟩, ⟨PROT_EM_BAND_WIDTH, 0, 32, .rw⟩, ⟨PROT_EM_BAND_EN, 0, 32, .rw⟩,
   ⟨PROT_EM_LIM_PWR, 0, 32, .ro⟩, ⟨PROT_EM_LIM_LIMIT, 0, 32, .rw⟩]
def dirCUR : List Row :=
  [⟨CUR_STAT_DEVICE, 0, 1, .ro⟩, ⟨CUR_STAT_LIFTING, 0, 1, .ro⟩, ⟨CUR_STAT_LATCHED, 0, 1, .ro⟩, ⟨CUR_STAT_DOWN, 0, 1, .ro⟩,
   ⟨CUR_HOST_ALL, 0, 1, .rw⟩, ⟨CUR_HOST_SHUT, 0, 1, .rw⟩, ⟨CUR_RELEASE_CLR_HIST, 0, 1, .wo⟩, ⟨CUR_RELEASE_PORTS, 0, 1, .wo⟩,
   ⟨CUR_CFG, 0, 1, .rw⟩, ⟨CUR_EPI_CNT, 0, 1, .ro⟩, ⟨CUR_REJ_CNT, 0, 1, .ro⟩, ⟨CUR_CAUSE_REC_HR, 0, 8, .ro⟩,
   ⟨CUR_CAUSE_LIFTING, 0, 8, .ro⟩, ⟨CUR_CAUSE_STATE, 0, 8, .ro⟩, ⟨CUR_CAUSE_LATCH, 0, 8, .ro⟩, ⟨CUR_CAUSE_HOST, 0, 8, .ro⟩,
   ⟨CUR_CAUSE_OTHER, 0, 8, .ro⟩, ⟨CUR_CAUSE_THERM, 0, 8, .ro⟩, ⟨CUR_CAUSE_TXTO, 0, 8, .ro⟩, ⟨CUR_CAUSE_DONOR, 0, 8, .ro⟩,
   ⟨CUR_CAUSE_OVERDRIVE, 0, 8, .ro⟩, ⟨CUR_CAUSE_EMISSION, 0, 8, .ro⟩, ⟨CUR_CAUSE_NR, 0, 8, .ro⟩, ⟨CUR_CAUSE_OSC, 0, 8, .ro⟩]
def dirTIME0 : List Row :=
  [⟨TIME_CFG_REVERT, 0, 1, .rw⟩, ⟨TIME_CFG_REF_SHARED, 0, 1, .rw⟩, ⟨TIME_CFG_SRC, 0, 1, .rw⟩, ⟨TIME_CFG_ROLE, 0, 1, .rw⟩,
   ⟨TIME_STAT_REF_DEV, 0, 1, .ro⟩, ⟨TIME_STAT_REF_CODE, 0, 1, .ro⟩, ⟨TIME_STAT_NO_SRC, 0, 1, .ro⟩, ⟨TIME_STAT_US_READY, 0, 1, .ro⟩,
   ⟨TIME_STAT_US_IGNORED, 0, 1, .ro⟩, ⟨TIME_STAT_DEGRADED, 0, 1, .ro⟩, ⟨TIME_STAT_CAL_SET, 0, 1, .ro⟩, ⟨TIME_STAT_RAIL, 0, 1, .ro⟩,
   ⟨TIME_STAT_SERVING, 0, 1, .ro⟩, ⟨TIME_STAT_VALID, 0, 1, .ro⟩, ⟨TIME_STAT_SRC_ACT, 0, 1, .ro⟩, ⟨TIME_STAT_STATE, 0, 1, .ro⟩,
   ⟨TIME_CTL_SET_GO, 0, 1, .wo⟩, ⟨TIME_CTL_REALIGN, 0, 1, .wo⟩, ⟨TIME_CTL_SNAP, 0, 1, .wo⟩, ⟨TIME_TOD_SEC, 0, 1, .ro⟩,
   ⟨TIME_TOD_FRAC, 0, 1, .ro⟩, ⟨TIME_FRAME, 0, 1, .ro⟩, ⟨TIME_SET_SEC, 0, 1, .rw⟩, ⟨TIME_SET_CS, 0, 1, .rw⟩,
   ⟨TIME_UTC, 0, 1, .rw⟩, ⟨TIME_UTC_SEC, 0, 1, .ro⟩, ⟨TIME_OSC, 0, 1, .rw⟩, ⟨TIME_OSC_KV, 0, 1, .rw⟩,
   ⟨TIME_HOLD_BUDGET, 0, 1, .rw⟩, ⟨TIME_HOLD_OSC_FERR, 0, 1, .rw⟩, ⟨TIME_HOLD_DRIFT, 0, 1, .rw⟩, ⟨TIME_LOOP_STEP_LIM, 0, 1, .rw⟩,
   ⟨TIME_LOOP_SLEW_MAX, 0, 1, .rw⟩, ⟨TIME_LOOP_LOSS, 0, 1, .rw⟩, ⟨TIME_LOOP_BW, 0, 1, .rw⟩, ⟨TIME_ERR_PHASE, 0, 1, .ro⟩,
   ⟨TIME_ERR_FOFS, 0, 1, .ro⟩, ⟨TIME_HOLD_STAT_E, 0, 1, .ro⟩, ⟨TIME_HOLD_STAT_T, 0, 1, .ro⟩, ⟨TIME_PPSO_EN, 0, 1, .rw⟩]
def dirTIME1 : List Row :=
  [⟨TIME_PPSO_GATE, 0, 1, .rw⟩, ⟨TIME_PPSO_WIDTH, 0, 1, .rw⟩, ⟨TIME_PPSO_COMP, 0, 1, .rw⟩, ⟨TIME_PPSI_MODE, 0, 1, .rw⟩,
   ⟨TIME_PPSI_COMP, 0, 1, .rw⟩, ⟨TIME_PPSI_SEC, 0, 1, .ro⟩, ⟨TIME_PPSI_FRAC, 0, 1, .ro⟩, ⟨TIME_REFOUT_EN, 0, 1, .rw⟩,
   ⟨TIME_REFOUT_MODE, 0, 1, .rw⟩, ⟨TIME_REFOUT_DIV, 0, 1, .rw⟩, ⟨TIME_REFOUT_FREQ, 0, 1, .rw⟩, ⟨TIME_REQ, 0, 1, .rw⟩,
   ⟨TIME_STEP_CNT, 0, 1, .ro⟩, ⟨TIME_ARC_UP, 0, 1, .ro⟩, ⟨TIME_ARC_DN, 0, 1, .ro⟩, ⟨TIME_RING, 0, 1, .ro⟩,
   ⟨TIME_US_DELTA, 0, 1, .ro⟩, ⟨TIME_DET_CFG_EN, 0, 4, .rw⟩, ⟨TIME_DET_CFG_TYPE, 0, 4, .rw⟩, ⟨TIME_DET_CFG_LANE, 0, 4, .rw⟩,
   ⟨TIME_DET_CFG_PCI, 0, 4, .rw⟩, ⟨TIME_DET_OFS, 0, 4, .rw⟩, ⟨TIME_DET_STAT_STATE, 0, 4, .ro⟩, ⟨TIME_DET_STAT_PCI, 0, 4, .ro⟩,
   ⟨TIME_DET_STAT_SINR, 0, 4, .ro⟩, ⟨TIME_DET_STAT_ERR, 0, 4, .ro⟩]
def dirTIME : List Row := dirTIME0 ++ dirTIME1
def dirTDD : List Row :=
  [⟨TDD_CTL_SWAP, 0, 1, .wo⟩, ⟨TDD_CTL_PAT, 0, 1, .rw⟩, ⟨TDD_CTL_FRAME, 0, 1, .rw⟩, ⟨TDD_STAT_ERR, 0, 1, .ro⟩,
   ⟨TDD_STAT_PENDING, 0, 1, .ro⟩, ⟨TDD_STAT_ACT_BANK, 0, 1, .ro⟩, ⟨TDD_STAT_LOADED, 0, 1, .ro⟩, ⟨TDD_STAT_CANCELLED, 0, 1, .w1c⟩,
   ⟨TDD_STAT_NO_PAT, 0, 1, .ro⟩, ⟨TDD_LANE, 0, 1, .rw⟩, ⟨TDD_WR_CNT, 0, 1, .ro⟩, ⟨TDD_PER, 0, 4, .rw⟩,
   ⟨TDD_DLOFS, 0, 4, .rw⟩, ⟨TDD_ULOFS, 0, 4, .rw⟩, ⟨TDD_ENT_DIR, 0, 32, .rw⟩, ⟨TDD_ENT_DIR, 64, 32, .rw⟩,
   ⟨TDD_ENT_DIR, 128, 32, .rw⟩, ⟨TDD_ENT_DIR, 192, 32, .rw⟩, ⟨TDD_ENT_START, 0, 32, .rw⟩, ⟨TDD_ENT_START, 64, 32, .rw⟩,
   ⟨TDD_ENT_START, 128, 32, .rw⟩, ⟨TDD_ENT_START, 192, 32, .rw⟩]
def dirSYN : List Row :=
  [⟨SYN_A_NUM, 0, 1, .rw⟩, ⟨SYN_B_NUM, 0, 1, .rw⟩, ⟨SYN_A_DEN, 0, 1, .rw⟩, ⟨SYN_B_DEN, 0, 1, .rw⟩,
   ⟨SYN_CTL_GO_B, 0, 1, .wo⟩, ⟨SYN_CTL_GO_A, 0, 1, .wo⟩, ⟨SYN_CFG_RETRY, 0, 1, .rw⟩, ⟨SYN_CFG_SETTLE, 0, 1, .rw⟩,
   ⟨SYN_STAT_ERR_B, 0, 1, .ro⟩, ⟨SYN_STAT_ERR_A, 0, 1, .ro⟩, ⟨SYN_STAT_STATE_B, 0, 1, .ro⟩, ⟨SYN_STAT_STATE_A, 0, 1, .ro⟩,
   ⟨SYN_CAL_CNT_B, 0, 1, .ro⟩, ⟨SYN_CAL_CNT_A, 0, 1, .ro⟩, ⟨SYN_LOL_CNT_B, 0, 1, .ro⟩, ⟨SYN_LOL_CNT_A, 0, 1, .ro⟩]
def dirRFC0 : List Row :=
  [⟨RFC_CFG, 0, 1, .rw⟩, ⟨RFC_POL_TRSW_POL, 0, 1, .rw⟩, ⟨RFC_POL_LNAB_POL, 0, 1, .rw⟩, ⟨RFC_LINES_PAEN, 0, 1, .ro⟩,
   ⟨RFC_LINES_TRSW, 0, 1, .ro⟩, ⟨RFC_LINES_LNAB, 0, 1, .ro⟩, ⟨ATTN_CFG_OWNER, 0, 2, .rw⟩, ⟨ATTN_CFG_LSB_FIRST, 0, 2, .rw⟩,
   ⟨ATTN_CFG_LATCH, 0, 2, .rw⟩, ⟨ATTN_CFG_PORTS, 0, 2, .rw⟩, ⟨ATTN_CFG_DIV, 0, 2, .rw⟩, ⟨ATTN_CFG_LEN, 0, 2, .rw⟩,
   ⟨ATTN_CTL, 0, 2, .wo⟩, ⟨ATTN_STAT_BUSY, 0, 2, .ro⟩, ⟨ATTN_STAT_PENDING, 0, 2, .ro⟩, ⟨ATTN_STAT_SENT, 0, 2, .ro⟩,
   ⟨ATTN_DATA, 0, 4, .rw⟩, ⟨ATTN_DATA, 16, 4, .rw⟩, ⟨RFC_PORT_CFG_TARGET, 0, 8, .rw⟩, ⟨RFC_PORT_CFG_PROBE_EN, 0, 8, .rw⟩,
   ⟨RFC_PORT_CFG_FDD_POS, 0, 8, .rw⟩, ⟨RFC_PORT_CFG_RX_PROT, 0, 8, .rw⟩, ⟨RFC_PORT_CFG_COEX, 0, 8, .rw⟩, ⟨RFC_PORT_STAT_RESULT, 0, 8, .ro⟩,
   ⟨RFC_PORT_STAT_BUSY, 0, 8, .ro⟩, ⟨RFC_PORT_STAT_STATE, 0, 8, .ro⟩, ⟨RFC_PORT_STAT_PROBING, 0, 8, .ro⟩, ⟨RFC_PORT_STAT_SYN_HOLD, 0, 8, .ro⟩,
   ⟨RFC_PORT_STAT_COEX_HOLD, 0, 8, .ro⟩, ⟨RFC_PORT_STAT_TDD, 0, 8, .ro⟩, ⟨RFC_PORT_STAT_TXTO, 0, 8, .ro⟩, ⟨RFC_PORT_STAT_LOSS_T, 0, 8, .ro⟩,
   ⟨RFC_PORT_TXTO_CNT, 0, 8, .ro⟩, ⟨RFC_PRES_EN, 0, 16, .rw⟩, ⟨RFC_PRES_LANE, 0, 16, .rw⟩, ⟨COEX_CFG_IN_POL, 0, 1, .rw⟩,
   ⟨COEX_CFG_OUT_MODE, 0, 1, .rw⟩, ⟨COEX_CFG_PRI_POL, 0, 1, .rw⟩, ⟨COEX_TIME_LEAD, 0, 1, .rw⟩, ⟨COEX_TIME_MAX_HOLD, 0, 1, .rw⟩]
def dirRFC1 : List Row :=
  [⟨COEX_STAT_REQ_IN, 0, 1, .ro⟩, ⟨COEX_STAT_PRI, 0, 1, .ro⟩, ⟨COEX_STAT_GNT_OUT, 0, 1, .ro⟩, ⟨COEX_STAT_REQ_OUT, 0, 1, .ro⟩,
   ⟨COEX_STAT_GNT_IN, 0, 1, .ro⟩, ⟨COEX_STAT_PENDING, 0, 1, .ro⟩, ⟨COEX_GRANT_CNT, 0, 1, .ro⟩, ⟨COEX_DENY_CNT, 0, 1, .ro⟩,
   ⟨COEX_WDRAW_CNT, 0, 1, .ro⟩]
def dirRFC : List Row := dirRFC0 ++ dirRFC1
def dirCTE : List Row :=
  [⟨CTE_LOAD, 0, 1, .ro⟩, ⟨CTE_VIEW, 0, 1, .rw⟩, ⟨CTE_CUE_GRP, 0, 1, .wo⟩, ⟨CTE_IGNWR_CNT, 0, 1, .ro⟩,
   ⟨CTE_OVR_CNT, 0, 1, .ro⟩, ⟨CTE_ECC_CNT, 0, 1, .ro⟩, ⟨CTE_STATE_PTR, 0, 1, .rw⟩, ⟨CTE_STATE_S1_EXP, 0, 1, .rw⟩,
   ⟨CTE_STATE_S1_M1, 0, 1, .rw⟩, ⟨CTE_STATE_S2_EXP, 0, 1, .ro⟩, ⟨CTE_STATE_S2_M2, 0, 1, .rw⟩, ⟨CTE_INJ_CFG_SHAPE, 0, 1, .rw⟩,
   ⟨CTE_INJ_CFG_POINT, 0, 1, .rw⟩, ⟨CTE_INJ_CFG_LOOP, 0, 1, .rw⟩, ⟨CTE_INJ_AMP, 0, 1, .rw⟩, ⟨CTE_INJ_FREQ_F0, 0, 1, .rw⟩,
   ⟨CTE_INJ_FREQ_F1, 0, 1, .rw⟩, ⟨CTE_INJ_LEN, 0, 1, .rw⟩, ⟨CTE_INJ_CTL_GO, 0, 1, .wo⟩, ⟨CTE_INJ_CTL_STOP, 0, 1, .wo⟩,
   ⟨CTE_INJ_CTL_TRIG, 0, 1, .wo⟩, ⟨CTE_CAP_CFG_EN, 0, 1, .rw⟩, ⟨CTE_CAP_CFG_DECIM, 0, 1, .rw⟩, ⟨CTE_CAP_CFG_PRE, 0, 1, .rw⟩,
   ⟨CTE_CAP_STAT_DONE, 0, 1, .ro⟩, ⟨CTE_CAP_STAT_INJ_ACTIVE, 0, 1, .ro⟩, ⟨CTE_CAP_STAT_TRIGGERED, 0, 1, .ro⟩, ⟨CTE_CAP_STAT_TRIG_IDX, 0, 1, .ro⟩,
   ⟨CTE_HOSTIN, 0, 16, .rw⟩]
def dirFAB : List Row :=
  [⟨FAB_CFG_GUARD, 0, 1, .rw⟩, ⟨FAB_CFG_FAULT, 0, 1, .rw⟩, ⟨FAB_CFG_HOLDOFF, 0, 1, .rw⟩, ⟨FAB_VLIM_VMAX, 0, 1, .rw⟩,
   ⟨FAB_VLIM_VMIN, 0, 1, .rw⟩, ⟨FAB_VREQ_HOST_EN, 0, 1, .rw⟩, ⟨FAB_VREQ_HOST_MV, 0, 1, .rw⟩, ⟨FAB_VREQ_SRC, 0, 1, .ro⟩,
   ⟨FAB_VREQ_MV, 0, 1, .ro⟩, ⟨FAB_STAT_VGUARD, 0, 1, .ro⟩, ⟨FAB_STAT_SLACK_LOW, 0, 1, .ro⟩, ⟨FAB_STAT_LOW_ISL, 0, 1, .ro⟩,
   ⟨FAB_STAT_LOW_SLACK, 0, 1, .ro⟩, ⟨FAB_ISL_PTR, 0, 1, .rw⟩, ⟨FAB_ISL_ACTIVE, 0, 1, .ro⟩, ⟨FAB_ISL_MIN, 0, 1, .ro⟩,
   ⟨FAB_ISL_SLACK, 0, 1, .ro⟩, ⟨FAB_CTL, 0, 1, .wo⟩, ⟨FAB_WING_PTR, 0, 1, .rw⟩, ⟨FAB_WING_WARN, 0, 1, .ro⟩,
   ⟨FAB_WING_WORST, 0, 1, .ro⟩, ⟨FAB_WING_NOW, 0, 1, .ro⟩, ⟨FAB_WLOSS_CNT, 0, 1, .ro⟩, ⟨FAB_GUARD_CNT, 0, 1, .ro⟩,
   ⟨FAB_IGNWR_CNT, 0, 1, .ro⟩]
def dirLEDG : List Row :=
  [⟨LEDG_SNAP_GO, 0, 1, .wo⟩, ⟨LEDG_SNAP_DONE, 0, 1, .ro⟩, ⟨LEDG_SNAP_LANE, 0, 1, .rw⟩, ⟨LEDG_CLR_GO, 0, 1, .wo⟩,
   ⟨LEDG_CLR_LANE, 0, 1, .rw⟩, ⟨LEDG_AUDIT_ANY, 0, 1, .ro⟩, ⟨LEDG_AUDIT_LANE, 0, 1, .ro⟩, ⟨LEDG_S_SAMPLE_LO, 0, 1, .ro⟩,
   ⟨LEDG_S_SAMPLE_HI, 0, 1, .ro⟩, ⟨LEDG_S_IN_LO, 0, 1, .ro⟩, ⟨LEDG_S_IN_HI, 0, 1, .ro⟩, ⟨LEDG_S_OUT_LO, 0, 1, .ro⟩,
   ⟨LEDG_S_OUT_HI, 0, 1, .ro⟩, ⟨LEDG_S_DISC_LO, 0, 1, .ro⟩, ⟨LEDG_S_DISC_HI, 0, 1, .ro⟩, ⟨LEDG_S_HELD, 0, 1, .ro⟩,
   ⟨LEDG_S_HMAX, 0, 1, .ro⟩, ⟨LEDG_S_LATE, 0, 1, .ro⟩, ⟨LEDG_S_DISABLE, 0, 1, .ro⟩, ⟨LEDG_S_WINGS, 0, 1, .ro⟩,
   ⟨LEDG_MIG_CFG_TAIL, 0, 1, .rw⟩, ⟨LEDG_MIG_CFG_REMOTE, 0, 1, .rw⟩, ⟨LEDG_MIG_CFG_DST_DEV, 0, 1, .rw⟩, ⟨LEDG_MIG_CFG_DST, 0, 1, .rw⟩,
   ⟨LEDG_MIG_CFG_SRC, 0, 1, .rw⟩, ⟨LEDG_MIG_S_LO, 0, 1, .rw⟩, ⟨LEDG_MIG_S_HI, 0, 1, .rw⟩, ⟨LEDG_MIG_CTL_GO, 0, 1, .wo⟩,
   ⟨LEDG_MIG_CTL_ABORT, 0, 1, .wo⟩, ⟨LEDG_MIG_STAT_ERR, 0, 1, .ro⟩, ⟨LEDG_MIG_STAT_PHASE, 0, 1, .ro⟩, ⟨LEDG_MIG_STAT_ROLE, 0, 1, .ro⟩,
   ⟨LEDG_MIG_STAT_DUP, 0, 1, .ro⟩, ⟨LEDG_MIG_STAT_READY, 0, 1, .ro⟩, ⟨LEDG_MIG_STAT_BUSY, 0, 1, .ro⟩, ⟨LEDG_MIG_GAP, 0, 1, .ro⟩,
   ⟨LEDG_MIG_WARM, 0, 1, .ro⟩, ⟨LEDG_MIG_CNT_ABORTED, 0, 1, .ro⟩, ⟨LEDG_MIG_CNT_DONE, 0, 1, .ro⟩]
def dirFC : List Row :=
  [⟨FC_STATUS_LO, 0, 1, .w1c⟩, ⟨FC_STATUS_HI, 0, 1, .w1c⟩, ⟨FC_FORCE_LO, 0, 1, .wo⟩, ⟨FC_FORCE_HI, 0, 1, .wo⟩,
   ⟨FC_CFG_FF_MIN, 0, 1, .rw⟩, ⟨FC_CFG_PIN_MIN, 0, 1, .rw⟩, ⟨FC_CFG_PULSE_W, 0, 1, .rw⟩, ⟨FC_PIN_MODE_NOW, 0, 1, .ro⟩,
   ⟨FC_PIN_TEST, 0, 1, .rw⟩, ⟨FC_PIN_SW_LVL, 0, 1, .rw⟩, ⟨FC_PIN_REMOTE_EN, 0, 1, .rw⟩, ⟨FC_PIN_LEVEL, 0, 1, .ro⟩,
   ⟨FC_REC_CNT, 0, 1, .ro⟩, ⟨FC_REJ_CNT, 0, 1, .ro⟩, ⟨FC_FF_SRC_VALID, 0, 1, .ro⟩, ⟨FC_FF_SRC_FORCED, 0, 1, .ro⟩,
   ⟨FC_FF_SRC_MAX_MERGED, 0, 1, .ro⟩, ⟨FC_FF_SRC_SEV, 0, 1, .ro⟩, ⟨FC_FF_SRC_SOURCE, 0, 1, .ro⟩, ⟨FC_FF_CAUSE, 0, 1, .ro⟩,
   ⟨FC_FF_TICK_LO, 0, 1, .ro⟩, ⟨FC_FF_TICK_HI, 0, 1, .ro⟩, ⟨FC_FF_SEQ_LO, 0, 1, .ro⟩, ⟨FC_FF_SEQ_HI, 0, 1, .ro⟩,
   ⟨FC_FF_MERGE_CO_EPOCH, 0, 1, .ro⟩, ⟨FC_FF_MERGE_MERGE, 0, 1, .ro⟩, ⟨FC_FF_CTL, 0, 1, .wo⟩, ⟨FC_SEV_REC_CNT, 0, 56, .ro⟩,
   ⟨FC_SEV_SET, 0, 56, .ro⟩, ⟨FC_SEV_STANDING, 0, 56, .ro⟩, ⟨FC_SEV_FIXED, 0, 56, .ro⟩, ⟨FC_SEV_QSEL, 0, 56, .rw⟩,
   ⟨FC_SEV_LAST, 0, 56, .ro⟩, ⟨FC_SEV_SCOPE, 0, 56, .rw⟩, ⟨FC_SEV_SEV, 0, 56, .rw⟩]
def dirPB0 : List Row :=
  [⟨PB_CFG_COMPAT, 0, 1, .rw⟩, ⟨PB_CFG_RL_MAX, 0, 1, .rw⟩, ⟨PB_CFG_RL_WIN, 0, 1, .rw⟩, ⟨PB_STAT_MODE, 0, 1, .ro⟩,
   ⟨PB_STAT_FORMATTED, 0, 1, .ro⟩, ⟨PB_STAT_MAIN_FULL, 0, 1, .ro⟩, ⟨PB_STAT_APRON_FULL, 0, 1, .ro⟩, ⟨PB_STAT_OPEN, 0, 1, .ro⟩,
   ⟨PB_STAT_PF_ACTIVE, 0, 1, .ro⟩, ⟨PB_STAT_STAGED, 0, 1, .ro⟩, ⟨PB_NEXT_LO, 0, 1, .ro⟩, ⟨PB_NEXT_HI, 0, 1, .ro⟩,
   ⟨PB_CONF_LO, 0, 1, .ro⟩, ⟨PB_CONF_HI, 0, 1, .ro⟩, ⟨PB_TAG, 0, 1, .ro⟩, ⟨PB_MAIN_CAP, 0, 1, .ro⟩,
   ⟨PB_MAIN_USED, 0, 1, .ro⟩, ⟨PB_APRON_CAP, 0, 1, .ro⟩, ⟨PB_APRON_USED, 0, 1, .ro⟩, ⟨PB_DISP_CNT, 0, 1, .ro⟩,
   ⟨PB_DROP_FULL, 0, 1, .ro⟩, ⟨PB_DROP_APRON, 0, 1, .ro⟩, ⟨PB_DROP_STAGE, 0, 1, .ro⟩, ⟨PB_DROP_RL, 0, 1, .ro⟩,
   ⟨PB_WAIT_CNT, 0, 1, .ro⟩, ⟨PB_VAULT_PF_CNT, 0, 1, .ro⟩, ⟨PB_VAULT_WEAR, 0, 1, .ro⟩, ⟨PB_RD_SEQ_LO, 0, 1, .rw⟩,
   ⟨PB_RD_SEQ_HI, 0, 1, .rw⟩, ⟨PB_RD_CTL, 0, 1, .wo⟩, ⟨PB_RD_STAT_DONE, 0, 1, .ro⟩, ⟨PB_RD_STAT_WHERE, 0, 1, .ro⟩,
   ⟨PB_RD_STAT_OPEN, 0, 1, .ro⟩, ⟨PB_RD_DATA, 0, 8, .ro⟩, ⟨PB_VFY_FROM_LO, 0, 1, .rw⟩, ⟨PB_VFY_FROM_HI, 0, 1, .rw⟩,
   ⟨PB_VFY_CNT, 0, 1, .rw⟩, ⟨PB_VFY_CTL_GO, 0, 1, .wo⟩, ⟨PB_VFY_CTL_STOP, 0, 1, .wo⟩, ⟨PB_VFY_STAT_BUSY, 0, 1, .ro⟩]
def dirPB1 : List Row :=
  [⟨PB_VFY_STAT_DONE, 0, 1, .ro⟩, ⟨PB_VFY_STAT_FAIL, 0, 1, .ro⟩, ⟨PB_VFY_BAD_LO, 0, 1, .ro⟩, ⟨PB_VFY_BAD_HI, 0, 1, .ro⟩,
   ⟨PB_VFY_DONE_CNT, 0, 1, .ro⟩]
def dirPB : List Row := dirPB0 ++ dirPB1
def dirSTM0 : List Row :=
  [⟨STM_GEOM_CE_MASK, 0, 1, .ro⟩, ⟨STM_GEOM_BPC, 0, 1, .ro⟩, ⟨STM_GEOM_LUNS, 0, 1, .ro⟩, ⟨STM_GEOM_PAGE, 0, 1, .ro⟩,
   ⟨STM_GEOM_RAW, 0, 1, .ro⟩, ⟨STM_STAT_MEDIUM, 0, 1, .ro⟩, ⟨STM_STAT_MIRROR, 0, 1, .ro⟩, ⟨STM_STAT_SINGLE, 0, 1, .ro⟩,
   ⟨STM_STAT_SPARE_LOW, 0, 1, .ro⟩, ⟨STM_STAT_READY, 0, 1, .ro⟩, ⟨STM_STAT_USABLE, 0, 1, .ro⟩, ⟨STM_IF_MTS, 0, 1, .ro⟩,
   ⟨STM_IF_MAX_MTS, 0, 1, .rw⟩, ⟨STM_PSLC_EN, 0, 1, .rw⟩, ⟨STM_PSLC_FEAT, 0, 1, .rw⟩, ⟨STM_PSLC_ON, 0, 1, .rw⟩,
   ⟨STM_PSLC_OFF, 0, 1, .rw⟩, ⟨STM_RETRY_FEAT, 0, 1, .rw⟩, ⟨STM_RETRY_STEPS, 0, 1, .rw⟩, ⟨STM_ENDUR_PSLC, 0, 1, .rw⟩,
   ⟨STM_ENDUR_NATIVE, 0, 1, .rw⟩, ⟨STM_LIMITS_RD_LIM, 0, 1, .rw⟩, ⟨STM_LIMITS_WL_DELTA, 0, 1, .rw⟩, ⟨STM_FMT_CFG_P16, 0, 1, .rw⟩,
   ⟨STM_FMT_CFG_MIRROR, 0, 1, .rw⟩, ⟨STM_FMT_CFG_S, 0, 1, .rw⟩, ⟨STM_FMT_CTL_GO, 0, 1, .wo⟩, ⟨STM_FMT_CTL_RESHAPE, 0, 1, .wo⟩,
   ⟨STM_FMT_STAT_ERR, 0, 1, .ro⟩, ⟨STM_FMT_STAT_BUSY, 0, 1, .ro⟩, ⟨STM_FMT_STAT_DONE, 0, 1, .ro⟩, ⟨STM_PART_P16, 0, 1, .ro⟩,
   ⟨STM_PART_H, 0, 1, .ro⟩, ⟨STM_PART_S, 0, 1, .ro⟩, ⟨STM_HIST_CFG_EN, 0, 1, .rw⟩, ⟨STM_HIST_CFG_INTERVAL, 0, 1, .rw⟩,
   ⟨STM_HIST_HEAD, 0, 1, .ro⟩, ⟨STM_HIST_HOFS, 0, 1, .ro⟩, ⟨STM_HIST_TAIL, 0, 1, .ro⟩, ⟨STM_HIST_TOFS, 0, 1, .ro⟩]
def dirSTM1 : List Row :=
  [⟨STM_HIST_DROP, 0, 1, .ro⟩, ⟨STM_CAP_CFG_ARM, 0, 1, .rw⟩, ⟨STM_CAP_CFG_POINT, 0, 1, .rw⟩, ⟨STM_CAP_CFG_PRE, 0, 1, .rw⟩,
   ⟨STM_CAP_CFG_TRIG, 0, 1, .rw⟩, ⟨STM_CAP_CFG_SEV_MIN, 0, 1, .rw⟩, ⟨STM_CAP_CFG_HOLDOFF, 0, 1, .rw⟩, ⟨STM_CAP_LANES, 0, 1, .rw⟩,
   ⟨STM_CAP_CTL, 0, 1, .wo⟩, ⟨STM_CAP_STAT, 0, 1, .ro⟩, ⟨STM_SNAP_HEAD, 0, 1, .ro⟩, ⟨STM_SNAP_HOFS, 0, 1, .ro⟩,
   ⟨STM_SNAP_TAIL, 0, 1, .ro⟩, ⟨STM_SNAP_TOFS, 0, 1, .ro⟩, ⟨STM_SNAP_MISS, 0, 1, .ro⟩, ⟨STM_SCRUB_CFG_REFRESH, 0, 1, .rw⟩,
   ⟨STM_SCRUB_CFG_DAYS, 0, 1, .rw⟩, ⟨STM_SCRUB_STAT_PASSES, 0, 1, .ro⟩, ⟨STM_SCRUB_STAT_PROGRESS, 0, 1, .ro⟩, ⟨STM_SCRUB_AGE, 0, 1, .ro⟩,
   ⟨STM_ECC_CORR, 0, 1, .ro⟩, ⟨STM_ECC_SOFT, 0, 1, .ro⟩, ⟨STM_ECC_UNC, 0, 1, .ro⟩, ⟨STM_REFRESH_CNT, 0, 1, .ro⟩,
   ⟨STM_RD_DIST_CNT, 0, 1, .ro⟩, ⟨STM_RETIRED, 0, 1, .ro⟩, ⟨STM_SPARE, 0, 1, .ro⟩, ⟨STM_UNC_PART, 0, 1, .ro⟩,
   ⟨STM_UNC_UNIT, 0, 1, .ro⟩, ⟨STM_WEAR_N_MAX, 0, 1, .ro⟩, ⟨STM_WEAR_N_MEAN, 0, 1, .ro⟩, ⟨STM_WEAR_S_MAX, 0, 1, .ro⟩,
   ⟨STM_WEAR_S_MEAN, 0, 1, .ro⟩, ⟨STM_LIFE_PSLC, 0, 1, .ro⟩, ⟨STM_LIFE_NATIVE, 0, 1, .ro⟩]
def dirSTM : List Row := dirSTM0 ++ dirSTM1
def dirHIF : List Row :=
  [⟨HIF_LINK_SPEED, 0, 1, .ro⟩, ⟨HIF_LINK_WIDTH, 0, 1, .ro⟩, ⟨HIF_LINK_STRAP_W, 0, 1, .ro⟩, ⟨HIF_LINK_UP, 0, 1, .ro⟩,
   ⟨HIF_CFG_RO_EN, 0, 1, .rw⟩, ⟨HIF_CFG_MAX_GT, 0, 1, .rw⟩, ⟨HIF_CFG_TUN_TO, 0, 1, .rw⟩, ⟨HIF_PM_SLEEP, 0, 1, .rw⟩,
   ⟨HIF_PM_D3, 0, 1, .ro⟩, ⟨HIF_PM_ASLEEP_NOW, 0, 1, .ro⟩, ⟨HIF_BADACC_CNT, 0, 1, .ro⟩, ⟨HIF_TUN_TO_CNT, 0, 1, .ro⟩,
   ⟨HIF_WINB_WR_CNT, 0, 1, .ro⟩, ⟨HIF_CORR_CNT, 0, 1, .ro⟩, ⟨HIF_UNCORR_CNT, 0, 1, .ro⟩, ⟨HIF_LINKDN_CNT, 0, 1, .ro⟩,
   ⟨HIF_BADACC_ADDR_WIN, 0, 1, .ro⟩, ⟨HIF_BADACC_ADDR_OFFSET, 0, 1, .ro⟩, ⟨MSIX_PBA, 0, 1, .ro⟩, ⟨MSIX_ADDR, 0, 4, .rw⟩,
   ⟨MSIX_UADDR, 0, 4, .rw⟩, ⟨MSIX_DATA, 0, 4, .rw⟩, ⟨MSIX_CTRL, 0, 4, .rw⟩]
def dirDMA : List Row :=
  [⟨DMA_STAT_STOPPED, 0, 1, .ro⟩, ⟨DMA_STAT_RUNNING, 0, 1, .ro⟩, ⟨DMA_Q_CFG_EN, 0, 8, .rw⟩, ⟨DMA_Q_CFG_RESET, 0, 8, .wo⟩,
   ⟨DMA_Q_CFG_MOD_CNT, 0, 8, .rw⟩, ⟨DMA_Q_CFG_MOD_TIME, 0, 8, .rw⟩, ⟨DMA_Q_BASE_LO, 0, 8, .rw⟩, ⟨DMA_Q_BASE_HI, 0, 8, .rw⟩,
   ⟨DMA_CQ_BASE_LO, 0, 8, .rw⟩, ⟨DMA_CQ_BASE_HI, 0, 8, .rw⟩, ⟨DMA_Q_TAIL, 0, 8, .rw⟩, ⟨DMA_Q_HEAD, 0, 8, .ro⟩,
   ⟨DMA_CQ_HEAD, 0, 8, .rw⟩, ⟨DMA_CQ_TAIL_PHASE, 0, 8, .ro⟩, ⟨DMA_CQ_TAIL_TAIL, 0, 8, .ro⟩, ⟨DMA_Q_STAT_STATE, 0, 8, .ro⟩,
   ⟨DMA_Q_STAT_LAST_ERR, 0, 8, .ro⟩, ⟨DMA_Q_STAT_CQ_FULL, 0, 8, .ro⟩, ⟨DMA_Q_STAT_ERR_SEEN, 0, 8, .w1c⟩, ⟨DMA_Q_STAT_SIG, 0, 8, .ro⟩,
   ⟨DMA_Q_DONE_CNT, 0, 8, .ro⟩, ⟨DMA_Q_ERR_CNT, 0, 8, .ro⟩]
def dirIC : List Row :=
  [⟨IC_STAT_WAKE, 0, 1, .ro⟩, ⟨IC_STAT_LINE, 0, 1, .ro⟩, ⟨IC_STAT_FAST_PEND, 0, 1, .ro⟩, ⟨IC_STAT_NORM_PEND, 0, 1, .ro⟩,
   ⟨IC_WAKE, 0, 1, .w1c⟩, ⟨IC_BADCMP_CNT, 0, 1, .ro⟩, ⟨IC_SPUR_CNT, 0, 1, .ro⟩, ⟨IC_CNT_PTR, 0, 1, .rw⟩,
   ⟨IC_CNT_ASSERT, 0, 1, .ro⟩, ⟨IC_CNT_CLAIM, 0, 1, .ro⟩, ⟨IC_CNT_STAT_VALID, 0, 1, .ro⟩, ⟨IC_CNT_STAT_PENDING, 0, 1, .ro⟩,
   ⟨IC_CNT_STAT_ACTIVE, 0, 1, .ro⟩, ⟨IC_TGT_CFG_MASK, 0, 4, .rw⟩, ⟨IC_TGT_CFG_ASLEEP, 0, 4, .rw⟩, ⟨IC_TGT_CFG_DELIV, 0, 4, .rw⟩,
   ⟨IC_CLAIM, 0, 4, .ro⟩, ⟨IC_COMPLETE, 0, 4, .wo⟩, ⟨IC_TGT_STAT_LAST_CLAIM, 0, 4, .ro⟩, ⟨IC_TGT_STAT_LAST_BAD, 0, 4, .ro⟩,
   ⟨IC_TGT_STAT_TOP, 0, 4, .ro⟩, ⟨IC_TGT_STAT_ACTIVE, 0, 4, .ro⟩, ⟨IC_PEND, 0, 8, .ro⟩, ⟨IC_ACTIVE, 0, 8, .ro⟩,
   ⟨IC_SRC_EN, 1, 255, .rw⟩, ⟨IC_SRC_CLASS, 1, 255, .rw⟩, ⟨IC_SRC_TARGETS, 1, 255, .rw⟩, ⟨IC_SRC_OWNER, 1, 255, .ro⟩,
   ⟨IC_SRC_ACTIVE, 1, 255, .ro⟩, ⟨IC_SRC_PEND, 1, 255, .ro⟩, ⟨IC_SRC_LEVEL, 1, 255, .ro⟩]
def dirRING0 : List Row :=
  [⟨RING_CFG_AUTO_RESTORE, 0, 1, .rw⟩, ⟨RING_CFG_FWD_TGT, 0, 1, .rw⟩, ⟨RING_STAT_STATE, 0, 1, .ro⟩, ⟨RING_STAT_SIZE, 0, 1, .ro⟩,
   ⟨RING_STAT_POS, 0, 1, .ro⟩, ⟨RING_STAT_BREAK_VALID, 0, 1, .ro⟩, ⟨RING_STAT_BREAK_POS, 0, 1, .ro⟩, ⟨RING_STAT_DN_UP, 0, 1, .ro⟩,
   ⟨RING_STAT_UP_UP, 0, 1, .ro⟩, ⟨RING_CTL_RETRAIN_UP, 0, 1, .wo⟩, ⟨RING_CTL_RETRAIN_DN, 0, 1, .wo⟩, ⟨RING_CTL_RESTORE, 0, 1, .wo⟩,
   ⟨RING_CTL_RST_GO, 0, 1, .wo⟩, ⟨RING_CTL_RST_ALL, 0, 1, .rw⟩, ⟨RING_CTL_RST_DEV, 0, 1, .rw⟩, ⟨RING_PRES_LO, 0, 1, .ro⟩,
   ⟨RING_PRES_HI, 0, 1, .ro⟩, ⟨RING_READY_LO, 0, 1, .ro⟩, ⟨RING_READY_HI, 0, 1, .ro⟩, ⟨RING_FAULTN_LO, 0, 1, .ro⟩,
   ⟨RING_FAULTN_HI, 0, 1, .ro⟩, ⟨RING_ABS_WR_CNT, 0, 1, .ro⟩, ⟨RING_REROUTE_CNT, 0, 1, .ro⟩, ⟨RING_REPLAY_CNT, 0, 1, .ro⟩,
   ⟨RING_WDISC_CNT, 0, 1, .ro⟩, ⟨RING_TUN_PEND, 0, 1, .ro⟩, ⟨RING_PORT_STAT_STATE, 0, 2, .ro⟩, ⟨RING_PORT_STAT_RX_LOCK, 0, 2, .ro⟩,
   ⟨RING_PORT_STAT_TX_OK, 0, 2, .ro⟩, ⟨RING_PORT_TRAIN_CNT, 0, 2, .ro⟩, ⟨RING_PORT_CRC_CNT, 0, 2, .ro⟩, ⟨RING_PORT_HDR_CNT, 0, 2, .ro⟩,
   ⟨RING_PORT_SKEW, 0, 2, .ro⟩, ⟨RING_DROP_CNT, 0, 4, .ro⟩, ⟨RING_CEN_PTR_PORT, 0, 1, .rw⟩, ⟨RING_CEN_PTR_VC, 0, 1, .rw⟩,
   ⟨RING_CEN_A_C_S, 0, 1, .ro⟩, ⟨RING_CEN_A_HELD, 0, 1, .ro⟩, ⟨RING_CEN_B_FLIGHT, 0, 1, .ro⟩, ⟨RING_CEN_B_TOTAL, 0, 1, .ro⟩]
def dirRING1 : List Row :=
  [⟨RING_CEN_CNT, 0, 1, .ro⟩, ⟨RING_CEN_FAIL_CNT, 0, 1, .ro⟩, ⟨RING_MAP_VALID, 0, 64, .ro⟩, ⟨RING_MAP_VERTEX, 0, 64, .ro⟩,
   ⟨RING_MAP_STATE, 0, 64, .ro⟩, ⟨RING_MAP_ID, 0, 64, .ro⟩, ⟨RING_MAP_VERSION, 0, 64, .ro⟩]
def dirRING : List Row := dirRING0 ++ dirRING1
def dirHK : List Row :=
  [⟨HK_CFG_EN, 0, 1, .rw⟩, ⟨HK_CFG_LP, 0, 1, .rw⟩, ⟨HK_CFG_FILT, 0, 1, .rw⟩, ⟨HK_SCAN_MASK, 0, 1, .rw⟩,
   ⟨HK_TRIG_TIMER_EN, 0, 1, .rw⟩, ⟨HK_TRIG_PWM_EN, 0, 1, .rw⟩, ⟨HK_TRIG_PWM_EDGE, 0, 1, .rw⟩, ⟨HK_TRIG_PWM_CH, 0, 1, .rw⟩,
   ⟨HK_TRIG_DELAY, 0, 1, .rw⟩, ⟨HK_TIMER, 0, 1, .rw⟩, ⟨HK_CTL, 0, 1, .wo⟩, ⟨HK_STAT_BUSY, 0, 1, .ro⟩,
   ⟨HK_STAT_HELD, 0, 1, .ro⟩, ⟨HK_STAT_SLOW, 0, 1, .ro⟩, ⟨HK_STAT_LATE, 0, 1, .w1c⟩, ⟨HK_STAT_SCAN_CNT, 0, 1, .ro⟩,
   ⟨HK_DISC_CNT, 0, 1, .ro⟩, ⟨HK_LATE_CNT, 0, 1, .ro⟩, ⟨HK_OVR_CNT, 0, 1, .ro⟩, ⟨HK_OVR_STICKY, 0, 1, .w1c⟩,
   ⟨HK_RAW_PTR, 0, 1, .rw⟩, ⟨HK_RAW, 0, 1, .ro⟩, ⟨HK_TRIM_OFS, 0, 1, .ro⟩, ⟨HK_TRIM_GAIN, 0, 1, .ro⟩,
   ⟨HK_RES_VALID, 0, 32, .ro⟩, ⟨HK_RES_SUSPECT, 0, 32, .ro⟩, ⟨HK_RES_OVR, 0, 32, .ro⟩, ⟨HK_RES_SLOW, 0, 32, .ro⟩,
   ⟨HK_RES_LATE, 0, 32, .ro⟩, ⟨HK_RES_CNT, 0, 32, .ro⟩, ⟨HK_RES_VALUE, 0, 32, .ro⟩]
def dirTHM : List Row :=
  [⟨THM_CFG_THR_EN, 0, 1, .rw⟩, ⟨THM_CFG_HYST, 0, 1, .rw⟩, ⟨THM_STAT_SHUT, 0, 1, .ro⟩, ⟨THM_STAT_COOLING, 0, 1, .ro⟩,
   ⟨THM_STAT_BLIND, 0, 1, .ro⟩, ⟨THM_STAT_STEP, 0, 1, .ro⟩, ⟨THM_STAT_HOT_SENS, 0, 1, .ro⟩, ⟨THM_STAT_T_HOT, 0, 1, .ro⟩,
   ⟨THM_COOL, 0, 1, .ro⟩, ⟨THM_SHUT_CNT, 0, 1, .ro⟩, ⟨THM_STEP_CNT, 0, 1, .ro⟩, ⟨THM_CTL, 0, 1, .wo⟩,
   ⟨THM_MAX, 0, 4, .ro⟩]
def dirPWM : List Row :=
  [⟨PWM_CFG_EN, 0, 6, .rw⟩, ⟨PWM_CFG_POL, 0, 6, .rw⟩, ⟨PWM_CFG_SHUT_EN, 0, 6, .rw⟩, ⟨PWM_CFG_OWNED, 0, 6, .ro⟩,
   ⟨PWM_CFG_PRESC, 0, 6, .rw⟩, ⟨PWM_CFG_SHUT_DUTY, 0, 6, .rw⟩, ⟨PWM_PER, 0, 6, .rw⟩, ⟨PWM_DUTY, 0, 6, .rw⟩,
   ⟨PWM_STAT_LEVEL, 0, 6, .ro⟩, ⟨PWM_STAT_MISMATCH, 0, 6, .w1c⟩, ⟨BDAC_CFG_OWNED, 0, 8, .ro⟩, ⟨BDAC_CFG_SAFE, 0, 8, .rw⟩,
   ⟨BDAC_CFG_STEP, 0, 8, .rw⟩, ⟨BDAC_CODE_OUT, 0, 8, .ro⟩, ⟨BDAC_CODE_CODE, 0, 8, .rw⟩, ⟨PWM_IGNWR_CNT, 0, 1, .ro⟩]
def dirTWT : List Row :=
  [⟨TWT_CFG_IDLE_S, 0, 1, .rw⟩, ⟨TWT_CFG_SLEEP_EN, 0, 1, .rw⟩, ⟨TWT_CFG_ADDR, 0, 1, .ro⟩, ⟨TWT_STAT_ASLEEP, 0, 1, .ro⟩,
   ⟨TWT_STAT_ALERT, 0, 1, .ro⟩, ⟨TWT_STAT_BUSY, 0, 1, .ro⟩, ⟨TWT_STAT_OUT_FULL, 0, 1, .ro⟩, ⟨TWT_STAT_IN_FULL, 0, 1, .ro⟩,
   ⟨TWT_STAT_PTR, 0, 1, .ro⟩, ⟨TWT_ALERT_EN, 0, 1, .rw⟩, ⟨TWT_CTL_ALERT, 0, 1, .wo⟩, ⟨TWT_CTL_OUT_GO, 0, 1, .wo⟩,
   ⟨TWT_CTL_IN_ACK, 0, 1, .wo⟩, ⟨TWT_XFER_CNT, 0, 1, .ro⟩, ⟨TWT_RSACK_CNT, 0, 1, .ro⟩, ⟨TWT_STUCK_CNT, 0, 1, .ro⟩,
   ⟨TWT_NACK_CNT, 0, 1, .ro⟩, ⟨TWT_ROWR_CNT, 0, 1, .ro⟩, ⟨TWT_MBOX_IN, 0, 16, .ro⟩, ⟨TWT_MBOX_OUT, 0, 16, .rw⟩]
def dirTWC0 : List Row :=
  [⟨TWC_CFG_EN, 0, 2, .rw⟩, ⟨TWC_CFG_STRETCH, 0, 2, .rw⟩, ⟨TWC_TIME_A_HIGH, 0, 2, .rw⟩, ⟨TWC_TIME_A_LOW, 0, 2, .rw⟩,
   ⟨TWC_TIME_B, 0, 2, .rw⟩, ⟨TWC_CTL_ABORT, 0, 2, .wo⟩, ⟨TWC_CTL_CLEAR, 0, 2, .wo⟩, ⟨TWC_STAT_BUSY, 0, 2, .ro⟩,
   ⟨TWC_STAT_STUCK, 0, 2, .ro⟩, ⟨TWC_STAT_SDA, 0, 2, .ro⟩, ⟨TWC_STAT_SCL, 0, 2, .ro⟩, ⟨TWC_STAT_LAST, 0, 2, .ro⟩,
   ⟨TWC_CMD_GO, 0, 2, .wo⟩, ⟨TWC_CMD_PEC, 0, 2, .rw⟩, ⟨TWC_CMD_WLEN, 0, 2, .rw⟩, ⟨TWC_CMD_RLEN, 0, 2, .rw⟩,
   ⟨TWC_CMD_ADDR, 0, 2, .rw⟩, ⟨TWC_CMD_STAT_BUSY, 0, 2, .ro⟩, ⟨TWC_CMD_STAT_RESULT, 0, 2, .ro⟩, ⟨TWC_CMD_STAT_BYTES, 0, 2, .ro⟩,
   ⟨TWC_DATA, 0, 8, .rw⟩, ⟨TWC_DATA, 1024, 8, .rw⟩, ⟨TWC_REG_CFG_EN, 0, 2, .rw⟩, ⟨TWC_REG_CFG_PEC, 0, 2, .rw⟩,
   ⟨TWC_REG_CFG_BE, 0, 2, .rw⟩, ⟨TWC_REG_CFG_LEN, 0, 2, .rw⟩, ⟨TWC_REG_CFG_ADDR, 0, 2, .rw⟩, ⟨TWC_REG_CFG_CMD, 0, 2, .rw⟩,
   ⟨TWC_REG_MAP_MUL, 0, 2, .rw⟩, ⟨TWC_REG_MAP_BASE, 0, 2, .rw⟩, ⟨TWC_REG_STAT_RESULT, 0, 2, .ro⟩, ⟨TWC_REG_STAT_MV, 0, 2, .ro⟩,
   ⟨TWC_REG_STAT_FAILS, 0, 2, .ro⟩, ⟨TWC_XFER_CNT, 0, 2, .ro⟩, ⟨TWC_FAIL_CNT, 0, 2, .ro⟩, ⟨TWC_CLEAR_CNT, 0, 2, .ro⟩,
   ⟨TWC_POLL_SKIP_CNT, 0, 2, .ro⟩, ⟨TWC_REG_DROP_CNT, 0, 2, .ro⟩, ⟨TWC_POLL_A_EN, 0, 16, .rw⟩, ⟨TWC_POLL_A_EN, 256, 16, .rw⟩]
def dirTWC1 : List Row :=
  [⟨TWC_POLL_A_PEC, 0, 16, .rw⟩, ⟨TWC_POLL_A_PEC, 256, 16, .rw⟩, ⟨TWC_POLL_A_SIGNED, 0, 16, .rw⟩, ⟨TWC_POLL_A_SIGNED, 256, 16, .rw⟩,
   ⟨TWC_POLL_A_BE, 0, 16, .rw⟩, ⟨TWC_POLL_A_BE, 256, 16, .rw⟩, ⟨TWC_POLL_A_LEN, 0, 16, .rw⟩, ⟨TWC_POLL_A_LEN, 256, 16, .rw⟩,
   ⟨TWC_POLL_A_SHIFT, 0, 16, .rw⟩, ⟨TWC_POLL_A_SHIFT, 256, 16, .rw⟩, ⟨TWC_POLL_A_ADDR, 0, 16, .rw⟩, ⟨TWC_POLL_A_ADDR, 256, 16, .rw⟩,
   ⟨TWC_POLL_A_CMD, 0, 16, .rw⟩, ⟨TWC_POLL_A_CMD, 256, 16, .rw⟩, ⟨TWC_POLL_B, 0, 16, .rw⟩, ⟨TWC_POLL_B, 256, 16, .rw⟩,
   ⟨TWC_POLL_RES_VALID, 0, 16, .ro⟩, ⟨TWC_POLL_RES_VALID, 256, 16, .ro⟩, ⟨TWC_POLL_RES_FAIL, 0, 16, .ro⟩, ⟨TWC_POLL_RES_FAIL, 256, 16, .ro⟩,
   ⟨TWC_POLL_RES_RAW, 0, 16, .ro⟩, ⟨TWC_POLL_RES_RAW, 256, 16, .ro⟩]
def dirTWC : List Row := dirTWC0 ++ dirTWC1
def dirBOOT : List Row :=
  [⟨BOOT_STAT_PHASE, 0, 1, .ro⟩, ⟨BOOT_STAT_COPY, 0, 1, .ro⟩, ⟨BOOT_STAT_A_VALID, 0, 1, .ro⟩, ⟨BOOT_STAT_B_VALID, 0, 1, .ro⟩,
   ⟨BOOT_STAT_CHECKED, 0, 1, .ro⟩, ⟨BOOT_STAT_AUTH, 0, 1, .ro⟩, ⟨BOOT_STAT_ABORTED, 0, 1, .ro⟩, ⟨BOOT_STAT_KIND, 0, 1, .ro⟩,
   ⟨BOOT_STAT_RECORDS, 0, 1, .ro⟩, ⟨BOOT_SEQ, 0, 1, .ro⟩, ⟨BOOT_ERR_CODE, 0, 1, .ro⟩, ⟨BOOT_ERR_COPY, 0, 1, .ro⟩,
   ⟨BOOT_ERR_OFFSET, 0, 1, .ro⟩, ⟨BOOT_TIME, 0, 1, .ro⟩, ⟨BOOT_CFG, 0, 1, .rw⟩, ⟨BOOT_RESET_KEY, 0, 1, .wo⟩,
   ⟨BOOT_RESET_KIND, 0, 1, .wo⟩]
def dirSEC : List Row :=
  [⟨SEC_STAT_CHAIN_KEY, 0, 1, .ro⟩, ⟨SEC_STAT_IMG_KEY, 0, 1, .ro⟩, ⟨SEC_STAT_AUTH_REQ, 0, 1, .ro⟩, ⟨SEC_STAT_BUSY, 0, 1, .ro⟩,
   ⟨SEC_STAT_RESULT, 0, 1, .ro⟩, ⟨SEC_UID_LO, 0, 1, .ro⟩, ⟨SEC_UID_HI, 0, 1, .ro⟩, ⟨SEC_PROG_CONFIRM, 0, 1, .wo⟩,
   ⟨SEC_PROG_SLOT, 0, 1, .wo⟩, ⟨SEC_KEY, 0, 8, .wo⟩, ⟨SEC_AUTH_FAIL_CNT, 0, 1, .ro⟩]
def dirSMEM : List Row :=
  [⟨SMEM_STAT_READY, 0, 1, .ro⟩, ⟨SMEM_STAT_MODE, 0, 1, .ro⟩, ⟨SMEM_STAT_ADDR4, 0, 1, .ro⟩, ⟨SMEM_STAT_SFDP_OK, 0, 1, .ro⟩,
   ⟨SMEM_STAT_DIV, 0, 1, .ro⟩, ⟨SMEM_STAT_SIZE_LOG2, 0, 1, .ro⟩, ⟨SMEM_CFG_LOCK, 0, 1, .rw⟩, ⟨SMEM_CFG_DIV, 0, 1, .rw⟩,
   ⟨SMEM_CMD_GO, 0, 1, .wo⟩, ⟨SMEM_CMD_WREN, 0, 1, .rw⟩, ⟨SMEM_CMD_ADDR, 0, 1, .rw⟩, ⟨SMEM_CMD_WRITE, 0, 1, .rw⟩,
   ⟨SMEM_CMD_QUAD, 0, 1, .rw⟩, ⟨SMEM_CMD_POLL, 0, 1, .rw⟩, ⟨SMEM_CMD_OPCODE, 0, 1, .rw⟩, ⟨SMEM_CMD_DUMMY, 0, 1, .rw⟩,
   ⟨SMEM_ADDR, 0, 1, .rw⟩, ⟨SMEM_LEN, 0, 1, .rw⟩, ⟨SMEM_CMD_STAT_BUSY, 0, 1, .ro⟩, ⟨SMEM_CMD_STAT_DONE, 0, 1, .ro⟩,
   ⟨SMEM_CMD_STAT_RESULT, 0, 1, .ro⟩, ⟨SMEM_ERR_CNT, 0, 1, .ro⟩, ⟨SMEM_DATA, 0, 64, .rw⟩]

/-- The rows of the page at slice offset `p` (Table 18-1); the instances of a page share its rows. -/
def dirOf (p : Nat) : List Row :=
  if p = pgSYS then dirSYS
  else if pgCONVRX ≤ p ∧ p < pgCONVRX + 0x8000 then dirCONVRX
  else if pgCONVTX ≤ p ∧ p < pgCONVTX + 0x8000 then dirCONVTX
  else if pgLANE ≤ p ∧ p < pgLANE + 0x20000 then dirLANE
  else if p = pgCHF then dirCHF
  else if p = pgRSM then dirRSM
  else if p = pgCNX then dirCNX
  else if p = pgSLN then dirSLN
  else if p = pgSPT then dirSPT
  else if p = pgMEAS then dirMEAS
  else if p = pgPROT then dirPROT
  else if p = pgCUR then dirCUR
  else if p = pgTIME then dirTIME
  else if p = pgTDD then dirTDD
  else if p = pgSYN then dirSYN
  else if p = pgRFC then dirRFC
  else if p = pgCTE then dirCTE
  else if p = pgFAB then dirFAB
  else if p = pgLEDG then dirLEDG
  else if p = pgFC then dirFC
  else if p = pgPB then dirPB
  else if p = pgSTM then dirSTM
  else if p = pgHIF then dirHIF
  else if p = pgDMA then dirDMA
  else if p = pgIC then dirIC
  else if p = pgRING then dirRING
  else if p = pgHK then dirHK
  else if p = pgTHM then dirTHM
  else if p = pgPWM then dirPWM
  else if p = pgTWT then dirTWT
  else if pgTWC ≤ p ∧ p < pgTWC + 0x2000 then dirTWC
  else if p = pgBOOT then dirBOOT
  else if p = pgSEC then dirSEC
  else if p = pgSMEM then dirSMEM
  else []

end Sys2Proof.Machine
end

