-- ==== Sys2Proof/Machine/State.lean ====
section
/-! DEFINITION. The state of one AV9640 as plain data: the register file, the addressed memories, the clock, and for each
block the state that the chapters give it outside its registers (INVENTORY.md, State). -/
namespace Sys2Proof.Machine
open Sys2Proof

/-- Why the model stops. No rule of the specification stops the device, so no meaning raises one. -/
inductive Fault where
  /-- Kept for an access to an address outside the slice; raised by no meaning (safe: nothing stops). -/
  | noAddress
  deriving DecidableEq, Repr

/-- Why a command has no meaning here. -/
inductive Refusal where
  /-- Raised by an arm of the dispatch whose command has no meaning yet (safe: it stops). -/
  | notModelled (mnemonic : String)
  deriving DecidableEq, Repr

/-! ### Fault collector (spec/10_fault_collector.md) -/

/-- An event delivered to the collector in the epoch now open (R278, R279, R285). -/
structure FcEvent where
  src : Nat
  forced : Bool
  /-- Steps below the source's severity at which the cause acts (R282). -/
  drop : Nat
  /-- Ports that the real cause concerns (R283). -/
  ports : Ports
  /-- The PG_ERR bit of the cause, for the CURTAIN cause of source 15 (R283). -/
  bit : Nat
  /-- The page that reports (R302). -/
  page : Nat
  /-- The page-status bits that report it, by page and bit: they rise once its record is visible (R41, R365). -/
  ints : List (Nat × Nat)
  deriving DecidableEq, Repr

/-- What the collector keeps of one source besides FC_STATUS and FC_SEV_n (R278, R283, R291). -/
structure FcSrc where
  /-- Unmet recovery conditions, one bit for each cause; the standing signal is their OR (R278). -/
  stand : BitVec 32 := 0
  /-- The first latch of the episode (Table 10-4). -/
  first : Nat := 0
  /-- The start of the quiet period (R291). -/
  quiet : Nat := 0
  /-- The ports that the last CURTAIN latch covered (R283). -/
  ports : Ports := 0
  /-- Ports of that latch whose Curtain is not complete yet (R291). -/
  await : Ports := 0
  /-- Every latch since the last recovery was forced (R279). -/
  forced : Bool := true
  /-- The last CURTAIN latch had every port as its own scope (CUR_STAT.DEVICE). -/
  wide : Bool := false
  deriving DecidableEq, Repr

structure FcSt where
  events : List FcEvent := []
  srcs : Tab FcSrc := []
  /-- The end of the FAULT_N pulse in progress (R297). -/
  pulseEnd : Option Nat := none
  /-- The end of the 10 µs after the last pulse, and whether a latch fell in them (R297). -/
  restEnd : Option Nat := none
  restLatch : Bool := false
  /-- The device has read REHEARSAL since the last reset (R297, R388, R450). -/
  seenRehearsal : Bool := false
  deriving DecidableEq, Repr

/-! ### Prompt book (spec/11_prompt_book.md) -/

/-- Where a numbered record's slot lies (R314, R315). -/
inductive Area where
  | main | apron
  deriving DecidableEq, Repr

/-- A record (R306, Table 11-1). -/
structure Rec where
  seq : BitVec 40 := 0
  code : BitVec 16
  sev : BitVec 3
  late : Bool := false
  forced : Bool := false
  uncal : Bool := false
  frac : Word := 0
  sec : Word := 0
  source : BitVec 10
  rep : BitVec 20 := 0
  payload : BitVec 64
  tag : Word := 0
  closed : Bool := false
  /-- The instant of issue (R310); before 0 where the tick count has started afresh since (R169). -/
  issued : Int := 0
  /-- Handed to the storage manager by a flush (R313). -/
  handed : Bool := false
  area : Area := .main
  /-- Its slot in the area (R314, R315). -/
  slot : Nat := 0
  deriving DecidableEq, Repr

/-- A tombstone (R315, Table 11-3). -/
structure Tomb where
  seq : BitVec 40
  code : BitVec 16
  sev : BitVec 3
  sec : Word
  tag : Word
  /-- The apron slot that it left. -/
  slot : Nat := 0
  deriving DecidableEq, Repr

/-- A record that is not numbered yet, with the collector's interrupt bits that wait for it (R300, R312, R451). -/
structure Waiting where
  r : Rec
  ints : Word
  /-- Its number fills FC_FF_SEQ (R288). -/
  ff : Bool
  /-- Other page-status bits that report it, by page and bit (R41). -/
  more : List (Nat × Nat)
  deriving DecidableEq, Repr

/-- The head line of the vault (R316). -/
structure VaultHead where
  valid : Bool := true
  next : BitVec 40 := 0
  tag : Word := 0
  hmac : Bool := false
  /-- Events after the power-fail warning. -/
  events : Nat := 0
  deriving DecidableEq, Repr

structure PbSt where
  /-- Records in staging that hold a number, in order. -/
  staging : List Rec := []
  /-- Records admitted before the restore, without a number (R451). -/
  held : List Waiting := []
  /-- MAJOR and CURTAIN records that wait for room (R312). -/
  waiting : List Waiting := []
  next : BitVec 40 := 0
  lastTag : Word := 0
  /-- The chain is in HMAC mode (R309). -/
  hmac : Bool := false
  /-- Supplies have been lost since the last restore (R317, R318). -/
  cold : Bool := true
  /-- The restore of R317 has completed since the last reset. -/
  restored : Bool := false
  /-- The first number of the book on the medium, and a book that awaits its first record (R319). -/
  first : BitVec 40 := 0
  opening : Bool := false
  /-- Records confirmed on NAND, tombstones, and the slots of the book (R314, R315). -/
  book : List Rec := []
  tombs : List Tomb := []
  mainCap : Nat := 0
  mainUsed : Nat := 0
  apronCap : Nat := 0
  apronUsed : Nat := 0
  mainFull : Bool := false
  apronFull : Bool := false
  /-- Records issued and suppressed by code in the rate-limit window `rlWin` (R311). -/
  rlWin : Nat := 0
  rlIssued : Tab Nat := []
  rlSupp : Tab Nat := []
  /-- A power-fail flush is under way or complete (R316). -/
  pf : Bool := false
  pfDone : Bool := false
  pfEvents : Nat := 0
  /-- PFAIL_N is low (R316). -/
  pfailLow : Bool := false
  head : VaultHead := {}
  vault : List Rec := []
  markDone : Bool := true
  reserve : Nat := 0
  /-- A read of PB_RD_SEQ is pending (R320); the verification's next number and count left (R321). -/
  rdPending : Option (BitVec 40) := none
  vfyNext : BitVec 40 := 0
  vfyLeft : Nat := 0
  vfyStop : Bool := false
  /-- Numbers named by the gap records issued (R42), and runs that a gap record is to name once records are issued again. -/
  gaps : List (BitVec 40 × Nat) := []
  owed : List (BitVec 40 × Nat) := []
  /-- A flush has begun whose audit is to follow (R30). -/
  auditDue : Bool := false
  deriving DecidableEq, Repr

/-! ### The Curtain and the protection detectors (spec/05_network_protection.md) -/

/-- How far a port's lift has come (R158). -/
inductive Lift where
  /-- No lift. -/
  | none
  /-- LIFTING, before its start: a hold stands or the start is due. -/
  | due
  /-- Started, and deferred to a receive-to-transmit turn-round (TDD). -/
  | waitTurn
  /-- The turn-round that serves the lift is under way (TDD). -/
  | turning
  /-- PAEN asserted, PA_SETTLE running from this instant (FDD). -/
  | settle (t : Nat)
  deriving DecidableEq, Repr

structure CurPort where
  lift : Lift := .none
  /-- A Curtain is latched and not complete (Table 5-3). -/
  completing : Bool := false
  /-- A cause of source 13, 14 or 15 cleared since the last completed lift (R160). -/
  counted : Bool := false
  /-- The instants of the completed counted lifts (R160). -/
  hist : List Nat := []
  /-- The start of the quiet period of each cause, by CUR_CAUSE bit (R157). -/
  quiet : Tab Nat := []
  /-- Causes set by forced events alone (R283). -/
  forced : BitVec 16 := 0
  /-- Causes whose request covers every port by its own scope (CUR_STAT.DEVICE). -/
  wide : BitVec 16 := 0
  deriving DecidableEq, Repr

structure CurSt where
  ports : Tab CurPort := []
  /-- PROT_NR, PROT_PRES and PROT_LANE_CFG by lane as they stood at the start of the open frame, where a later write waits for
  the next one (R165). -/
  old : Option (Word × Word × List Word) := none
  deriving DecidableEq, Repr

/-! ### Lanes and converters (spec/02_lanes_and_converters.md) -/

/-- How far a lane has come (R58, R60). -/
inductive LanePhase where
  | off
  /-- Accepted, and waiting for the lane sample of this number (R58). -/
  | accepted (start : Nat)
  /-- Running since the lane sample of this number. -/
  | running (start : Nat)
  deriving DecidableEq, Repr

/-- The stages of a lane that hold samples, newest first (Table 2-3). -/
structure ChainSt where
  /-- The polyphase decimator, then each halfband decimator. -/
  dec : List (List Iq) := []
  /-- The resampler, each halfband interpolator, and the last interpolator. -/
  rsm : List Iq := []
  up : List (List Iq) := []
  /-- The words at the channel filter's output, which the spotlight banks take (R120). -/
  bank : List Iq := []
  /-- The number of the next converter word that the lane gives. -/
  dacNo : Nat := 0
  deriving DecidableEq, Repr

/-- What the oscillation detector keeps of a lane (R144, R145). -/
structure OscSt where
  /-- The words at the reference point and after subtraction, newest first. -/
  point : List Iq := []
  resid : List Iq := []
  /-- The power of the open block less the gain, in units of 2^-96 of the squared lane word, and the last ten blocks. -/
  sum : Nat := 0
  blocks : List Nat := []
  /-- PROT_OSC as it stood at the start of the open block and of the open span of 32 blocks (R165). -/
  cfg : Word := 0x0014060C
  spanCfg : Word := 0x0014060C
  /-- The strongest bin of the last span that met the line criterion. -/
  bin : Option Nat := none
  /-- The growth criterion and the line criterion have been met, and the latch is due. -/
  grow : Bool := false
  line : Bool := false
  deriving DecidableEq, Repr

/-- A lane's configuration in use, kept from its last enable (R59), and what runs inside it. -/
structure LaneSt where
  phase : LanePhase := .off
  cfg : Word := 0
  rxFtw : BitVec 48 := 0
  txFtw : BitVec 48 := 0
  chf : Nat := 0
  /-- The start phases of the NCOs. -/
  rxPhase : BitVec 16 := 0
  txPhase : BitVec 16 := 0
  /-- The pattern in use (TDD_LANE.PSEL at the last enable, Table 6-11). -/
  psel : Bool := false
  /-- NCO phase accumulators, receive and transmit (R58, Down-conversion and up-conversion). -/
  rxAcc : BitVec 48 := 0
  txAcc : BitVec 48 := 0
  /-- The place of the resampler's next output after the current lane sample, in units of DEN × 2^c / (512 × NUM) of it
  (R67), and the delay in force and pending (R68). -/
  rsmAcc : Nat := 0
  delay : Nat := 0
  delayNext : Option (Nat × Nat) := none
  /-- The gain code that the control engine requests (R66). The back-off cap in units of code / 983,040,000, the instant at
  which it had that value, the rise in force, and the rise from a later lane sample on (R162). The throttle step in force
  (R411). -/
  request : Nat := 0
  cap : Option Nat := none
  capAt : Nat := 0
  capRate : Nat := 0
  capNext : Option (Nat × Nat) := none
  throttle : Nat := 0
  /-- Samples at the lane input are marked suspect (R53), and the tick at which the mark ends, once it is known. -/
  suspect : Bool := false
  suspectEnds : Option Nat := none
  /-- The samples inside the stages, the channel filter's newest first (R63). -/
  chain : ChainSt := {}
  line : List Iq := []
  /-- The reference words, newest first (R15), with the Curtain's zeros (R83), and the probe in each (R98). -/
  ref : List Iq := []
  probes : List Iq := []
  /-- The lane sample number of the newest word at the reference point. -/
  refNo : Nat := 0
  /-- The residual after subtraction of the last sample (R83). -/
  resid : Iq := ⟨0, 0⟩
  osc : OscSt := {}
  /-- The output power summed over the open estimate block and over the open probe integration, with the active samples
  of each (R99). -/
  blockPow : Nat := 0
  blockN : Nat := 0
  intPow : Nat := 0
  intN : Nat := 0
  /-- The lane waits for the thermal restart with EN set (R59, R413). -/
  thermWait : Bool := false
  deriving DecidableEq, Repr

/-- What a converter keeps beside its registers. -/
structure ConvSt where
  /-- The instant of the last enable (CONVRX_PEAK). -/
  enAt : Nat := 0
  /-- A foreground calibration is running (R212). -/
  cal : Bool := false
  /-- Consecutive background cycles in limits (R72). -/
  good : Nat := 0
  /-- A foreground failure stands until a later success (R72). -/
  fgFail : Bool := false
  /-- Consecutive unclipped samples or words (R52, R56). -/
  clean : Nat := 0
  /-- The instant of the last completed background cycle (CONVRX_BGCAL.AGE). -/
  cycleAt : Option Nat := none
  /-- The instant of the last saturated word (R56). -/
  clipAt : Nat := 0
  /-- The sums of the port's lanes whose words have not left, oldest first, and the number of the first (R56); the last
  sums that left, newest first, as the equaliser takes them. -/
  sums : List Int := []
  wordNo : Nat := 0
  eq : List Int := []
  /-- The open overdrive window (R146): its number, its thresholds OD_CLIPS and OD_PWR, its words that saturated, and the
  power of its words; the criterion has been met, and the latch is due. -/
  odWin : Nat := 0
  odCfg : Nat × Nat := (0x40, 0x0C)
  odClips : Nat := 0
  odPow : Nat := 0
  odMet : Bool := false
  /-- The open emission window (R147): its number on the timebase, the bands and limits in force, and its words; the
  bands that stood above their limit in the last window, and those that meet the criterion. -/
  emWin : Nat := 0
  emCfg : List (Word × Word) := []
  emWords : List Int := []
  emHot : BitVec 4 := 0
  emMet : BitVec 4 := 0
  /-- The open 1 ms window of CONVTX_PEAK, its greatest magnitude, and the last complete one. -/
  pkWin : Nat := 0
  pkMax : Nat := 0
  pkLast : Option (Nat × Nat) := none
  deriving DecidableEq, Repr

/-! ### Radio sequencing (spec/07_radio_sequencing.md) -/

/-- A use of a TDD port (R196). -/
inductive Use where
  | none | rx | tx
  deriving DecidableEq, Repr

/-- A turn-round in progress: its direction and the next of the events of Table 7-3. -/
structure Turn where
  toTx : Bool
  t0 : Nat
  next : Nat
  deriving DecidableEq, Repr

structure RfcPort where
  use : Use := .none
  turn : Option Turn := none
  /-- PAEN of an entry to TX is asserted, and PA_SETTLE runs, from this instant (R210). -/
  settle : Option Nat := none
  /-- The end of the last transmit use (R215). -/
  txEnd : Option Nat := none
  /-- The loss timer runs from this instant (R216). -/
  lossFrom : Option Nat := none
  /-- It has reached LOSS_LIM since it last started. -/
  lossHit : Bool := false
  /-- SYN_HOLD from CSYN_A and from CSYN_B (R212). -/
  synA : Bool := false
  synB : Bool := false
  /-- COEX_HOLD from an inbound grant, from a strict-mode use, and while waiting to enter TX (R220, R221). -/
  coexIn : Bool := false
  coexUse : Bool := false
  coexWait : Bool := false
  /-- COEX_REQ_OUT has been raised for a transmit use to come (R221). -/
  announced : Bool := false
  /-- An entry to TX waits for COEX_REQ_OUT, raised at this instant, or for COEX_GNT_IN (R221). -/
  entry : Bool := false
  leadEnd : Option Nat := none
  /-- Lines at their OFF levels under source 12 (Table 7-9). -/
  lineFault : Bool := false
  deriving DecidableEq, Repr

/-- A synthesiser beside SYN_STAT: the plan in force and the attempts left (R211, R214). -/
structure SynSt where
  num : Nat := 0
  den : Nat := 0
  tries : Nat := 0
  /-- The instant of the last step of Table 7-6. -/
  since : Nat := 0
  deriving DecidableEq, Repr

/-- An attenuator bus (R218, R219). -/
structure AttnSt where
  shifting : Bool := false
  awaiting : Bool := false
  /-- The frame in the shift register, its length and bit order, and half the period of SCK, in ticks. -/
  frame : BitVec 128 := 0
  len : Nat := 0
  lsb : Bool := false
  half : Nat := 0
  /-- The frame held as pending. -/
  held : Option (BitVec 128) := none
  /-- The bits last latched into the attenuators, in the order of their shift. -/
  latched : List Bool := []
  /-- The start and the end of the shift, and the last rise of LE after it. -/
  t0 : Nat := 0
  doneAt : Nat := 0
  leAt : Option Nat := none
  deriving DecidableEq, Repr

structure RfcSt where
  ports : Tab RfcPort := []
  synA : SynSt := {}
  synB : SynSt := {}
  attn : Tab AttnSt := []
  /-- The inbound request is granted: the hold is requested (R220); COEX_GNT_OUT rose at this instant (R222). -/
  granted : Bool := false
  grantAt : Option Nat := none
  deriving DecidableEq, Repr

/-! ### Canceller and Sightline (spec/03_feedback_cancellation.md) -/

/-- A correlation of a receive signal and of its residual with a reference over the lags of R82 (R88, R100): the samples
integrated, the power of the reference and of the two signals, and the sums by lag, lag −16 first. -/
structure CorrSt where
  n : Nat := 0
  pw : Nat := 0
  dPow : Nat := 0
  ePow : Nat := 0
  h : List (Int × Int) := []
  r : List (Int × Int) := []
  deriving DecidableEq, Repr

/-- A path's configuration in use (R59, Table 3-11), and its estimates in units of 2^-16 dB (R99 to R104). -/
structure PathSt where
  on : Bool := false
  cfg : Word := 0
  fofs : Word := 0
  /-- Subtraction has started; it starts at this lane sample (R79). -/
  running : Bool := false
  startAt : Nat := 0
  hProbe : Option Int := none
  xProbe : Option Int := none
  /-- H_taps of the last block not held (R101). -/
  hTaps : Option Int := none
  /-- C_k and X_k of R101. -/
  ck : Option Int := none
  xk : Int := 0
  /-- X_fast of the last block not held (R101), and consecutive blocks with it below 0 dB (R97). -/
  xFast : Int := 0
  badBlocks : Nat := 0
  /-- Freeze cause 4: the reference was below −70 dBFS over the last update interval (Table 3-2). -/
  refLow : Bool := false
  /-- Freeze cause 7: the old placement after the copy of a migration; the new placement, which adapts from S (R114). -/
  migrating : Bool := false
  warming : Bool := false
  /-- The power of the path's estimate over the open block (R101), and its probe integration (R100). -/
  est : Nat := 0
  probe : CorrSt := {}
  deriving DecidableEq, Repr

/-- A retained coupling (R102): the victim, the reference and C_k. -/
structure Retained where
  victim : Nat
  remote : Bool
  src : Nat
  c : Int
  deriving DecidableEq, Repr

/-- The search results of a path (R90, R92, R117): peaks as position and −10 log10 of the coupling in 1/64 dB. -/
structure SlnPath where
  peaks : List (Int × Int) := []
  since : Option Nat := none
  uncov : Int := 0
  /-- The direct-coupling position that the dense group is placed at (R92). -/
  pd : Int := 0
  /-- Consecutive searches that call for a move of a sparse cluster and of the dense group (R92). -/
  missSparse : Nat := 0
  missDense : Nat := 0
  deriving DecidableEq, Repr

/-- Why a search was queued (R89, R92). -/
inductive Why where
  | enable | reset | host | round
  deriving DecidableEq, Repr

structure StxSt where
  pending : Bool := false
  cfg : Word := 0
  /-- Words reduced to 12 bits that saturated (R107) are counted in the register. -/
  last : Option (BitVec 24) := none
  deriving DecidableEq, Repr

structure SrxSt where
  lastFrame : Option Nat := none
  seed : Word := 0
  level : Option Int := none
  chf : Nat := 0
  /-- The sender's lane rate code, as its frames show it. -/
  rate : Nat := 0
  /-- Reference words, newest first, and the lane sample number of the newest (R107, R110). -/
  ref : List Iq := []
  probes : List Iq := []
  refNo : Nat := 0
  deriving DecidableEq, Repr

/-- A stream's place on an outgoing arc (R109): the port, the sender's device and slot, and the lane rate code. -/
structure Resv where
  port : Nat
  dev : Nat
  slot : Nat
  rate : Nat
  deriving DecidableEq, Repr

structure CnxSt where
  clusters : Tab Cluster := []
  /-- The device's own counts of the taps allocated and free (Table 1-11). -/
  tapsUsed : Nat := 0
  tapsFree : Nat := 65536
  paths : Tab PathSt := []
  retained : List Retained := []
  /-- Applied ceilings G_c and target ceilings by lane, in units of 2^-16 dB (R103). -/
  gc : Tab Int := []
  gTarget : Tab Int := []
  /-- P_out of R99 by lane, in units of 2^-16 dB, and the lanes that have completed an integration in PERFORMANCE. -/
  pOut : Tab Int := []
  pDone : BitVec 32 := 0
  sln : Tab SlnPath := []
  queue : List (Nat × Why) := []
  search : Option (Nat × Why) := none
  /-- The correlation of the search, and the instant at which its samples are integrated (R88). -/
  corr : CorrSt := {}
  corrAt : Nat := 0
  lastPath : Nat := 127
  stx : Tab StxSt := []
  srx : Tab SrxSt := []
  /-- Streams that the outgoing arcs carry (R109). -/
  resv : List Resv := []
  /-- PERFORMANCE has been entered since the last reset (R106). -/
  performed : Bool := false
  deriving DecidableEq, Repr

/-! ### Spotlight and measurement (spec/04_spotlight_and_measurement.md) -/

structure SptSt where
  /-- Uplink contexts 0 to 16,383, then downlink contexts (R119, Table 18-1). -/
  ctx : Tab CtxSt := []
  lanes : Tab SptLane := []
  /-- History intervals closed since the last reset, and the instant of the last boundary (R133). -/
  gen : Nat := 0
  boundAt : Nat := 0
  /-- Snapshot requests of SPT and MEAS: the context, and the window whose end is awaited (R134). -/
  snapUp : Option (Nat × Nat) := none
  snapDn : Option (Nat × Nat) := none
  deriving DecidableEq, Repr

/-- Protection detectors (R148, R150). -/
structure ProtLane where
  /-- NC of the last frames with data, newest first, in units of 2^-100 full scale. -/
  ncs : List Nat := []
  /-- PWR reached the level of R150 in the frame now open, and in the last complete frame. -/
  reached : Bool := false
  was : Bool := false
  deriving DecidableEq, Repr

/-! ### Time reference and TDD (spec/06_time_reference.md) -/

structure Detector where
  /-- The last matching detection, and the entry to DETECTED (R175, R192). -/
  lastAt : Nat := 0
  since : Nat := 0
  deriving DecidableEq, Repr

/-- A pending bank swap (R197): the bank and the frame. -/
structure Swap where
  bank : Nat
  frame : Nat
  deriving DecidableEq, Repr

structure TimeSt where
  /-- TOD: seconds and tick index (R169). -/
  sec : Nat := 0
  idx : Nat := 0
  /-- The tick count frozen by TIME_CTL.SNAP (R169). -/
  snapTick : Nat := 0
  /-- The instants of the entry to the state, of the last good measurement, and since which every measurement has been
  inside the LOCKED limits (R177, R191). -/
  stateAt : Nat := 0
  goodAt : Nat := 0
  goodSince : Option Nat := none
  /-- The start of holdover and the device's contribution, in ns and ppb (R191). -/
  holdAt : Nat := 0
  e0 : Nat := 0
  f0 : Nat := 0
  det : Tab Detector := []
  /-- A calendar set written and not applied: its instant, and the TOD in ticks that the ring names (R181). -/
  calSet : Option (Nat × Option Nat) := none
  /-- The slope measurement of R172 runs from this instant. -/
  kvSince : Option Nat := none
  /-- A correction of the shared oscillator that a reference other than the vertex is to send (R187). -/
  corr : Option Int := none
  /-- TIME_OSC.TUNE as last written by the host (R172). -/
  tuneW : Nat := 0x80000
  /-- TOD has been stepped since FREE (R177). -/
  stepped : Bool := false
  /-- A device other than the vertex holds the reference role (R192, R193). -/
  refRole : Bool := false
  /-- Δ held by a reference that took the role, in ps, and its realign (R193). -/
  held : Int := 0
  realign : Bool := false
  /-- The instant of the last average of Δ (R192). -/
  deltaAt : Option Nat := none
  /-- The understudy's conditions hold from this instant (R192), and the vertex averages its own Δ (R193). -/
  usSince : Option Nat := none
  retSince : Option Nat := none
  /-- The understudies that the ring announces, by device ID (R192), and the time state of the reference. -/
  understudies : List Nat := []
  refState : Nat := 0
  lastMsg : Option Nat := none
  /-- The last message came over RING_DN (R190). -/
  viaDn : Bool := false
  /-- The last move of the role to this device: its kind and Δ in ns (R193). -/
  moved : Option (Nat × Int) := none
  /-- The measured delays of the arcs in ps: of port p, toward RING_DN at 2p + 1 and toward RING_UP at 2p (R188). -/
  arcs : Tab Nat := []
  /-- The instant of the last tick by which a follower moved TOD (R171). -/
  slewAt : Nat := 0
  /-- PPS_OUT is high until this instant (R184). -/
  ppsHigh : Option Nat := none
  refFail : Bool := false
  deriving DecidableEq, Repr

structure TddSt where
  pend : Tab Swap := []
  /-- Lanes whose guard check fails, by lane (R198). -/
  guard : BitVec 32 := 0
  /-- Patterns whose bank has an uncorrectable error (R198). -/
  ecc : BitVec 2 := 0
  deriving DecidableEq, Repr

/-! ### Control engine (spec/08_control_engine.md) -/

/-- A value of the engine: mantissa and exponent of the BFP32 word (R230). -/
structure Bfp where
  m : Int
  e : Nat
  deriving DecidableEq, Repr

/-- A section's coefficients in one bank (R231, R238): exponent and the five mantissas. -/
structure Bank where
  ce : BitVec 6 := 0
  b0 : BitVec 24 := 0
  b1 : BitVec 24 := 0
  b2 : BitVec 24 := 0
  a1 : BitVec 24 := 0
  a2 : BitVec 24 := 0
  deriving DecidableEq, Repr

structure Section where
  bankA : Bank := {}
  bankB : Bank := {}
  integ : Bool := false
  satE : BitVec 6 := 0x3F
  exp : BitVec 6 := 0
  s1 : BitVec 24 := 0
  s2 : BitVec 24 := 0
  sat : Bool := false
  deriving DecidableEq, Repr

/-- What a loop keeps beside its descriptor (R233, R236, R240 to R246). -/
structure LoopSt where
  on : Bool := false
  /-- The instant of sample 0 and the number of the next boundary. -/
  t0 : Nat := 0
  n : Nat := 0
  /-- The output of the sample evaluated, to be sent at the next boundary, with its code; the sample was missed (R229). -/
  out : Option (Bfp × Nat) := none
  missed : Bool := false
  /-- u_last of R233, and the u of the previous sample that R241 compares with. -/
  uLast : Bfp := ⟨0, 0⟩
  uPrev : Bfp := ⟨0, 0⟩
  firstAuto : Bool := false
  /-- y of the last CLAMP evaluation (R236). -/
  yPrev : Bfp := ⟨0, 0⟩
  stopping : Bool := false
  /-- The instant of the cue that waits: a boundary that coincides with it is not the next (R505). -/
  cueAt : Nat := 0
  /-- LP_CFG.CLASS as written (it reads the class in force while EN is 1). -/
  cls : Bool := false
  /-- The power of its lane's active samples since the last boundary, in squared lane words, their number, and the newest
  sample, with its tick, which may fall on the next boundary (R234). -/
  pow : Nat := 0
  powN : Nat := 0
  powLast : Option (Nat × Nat) := none
  /-- Source and target slots of migrations that the loop follows at its next boundary (R271). -/
  moved : List (Nat × Nat) := []
  deriving DecidableEq, Repr

/-- The injector (R247): requests, sample number, chirp phase in units of 2^-17 / LEN cycle, and the PRBS register. -/
structure InjSt where
  pendGo : Bool := false
  pendStop : Bool := false
  run : Bool := false
  k : Nat := 0
  phase : Int := 0
  prbs : BitVec 15 := 0
  deriving DecidableEq, Repr

/-- The engine's capture (R248): armed, the next entry, the sample count modulo 2^DECIM, a trigger that waits for its sample
and one that waits for its entry, and the entries left. -/
structure CapSt where
  armed : Bool := false
  idx : Nat := 0
  dec : Nat := 0
  pendTrig : Bool := false
  trigWait : Bool := false
  left : Option Nat := none
  deriving DecidableEq, Repr

structure CteSt where
  sections : Tab Section := []
  loops : Tab LoopSt := []
  inj : InjSt := {}
  cap : CapSt := {}
  deriving DecidableEq, Repr

/-! ### Fabric, ledger and migration (spec/09_self_timed_fabric.md) -/

structure Island where
  slack : Nat := 0xFFF
  active : Bool := false
  min : Nat := 0xFFF
  deriving DecidableEq, Repr

structure Wing where
  now : Nat := 0
  worst : Option Nat := none
  warn : Bool := false
  deriving DecidableEq, Repr

/-- A lane slot's ledger (R263). -/
structure Ledger where
  inn : Nat := 0
  out : Nat := 0
  late : Nat := 0
  dis : Nat := 0
  wings : Nat := 0
  held : Nat := 0
  /-- The lane sample next to be counted in; the sample from which results are late, and the first not taken in (R269). -/
  next : Nat := 0
  lateFrom : Option Nat := none
  stop : Option Nat := none
  reported : Bool := false
  deriving DecidableEq, Repr

/-- A migration in progress (R268 to R273). -/
structure Mig where
  src : Nat
  dst : Nat
  s : Nat
  remote : Bool
  /-- The device on the other side of a remote migration. -/
  peer : Nat := 0
  tail : Nat := 1
  /-- The first sample that the target takes in (R269), and whether the canceller state has been copied there (R114). -/
  w : Nat := 0
  warmed : Bool := false
  /-- S has been reached (R270). -/
  crossed : Bool := false
  deriving DecidableEq, Repr

structure FabSt where
  islands : Tab Island := []
  wings : Tab Wing := []
  /-- The guard condition was met in the last window or by a warning that stands; its hold-off ends at this instant
  (R260). -/
  guard : Bool := false
  holdoffEnd : Option Nat := none
  /-- The last gauge window ended at this instant (R257). -/
  windowAt : Nat := 0
  ledgers : Tab Ledger := []
  /-- The lanes of the snapshot and of the clear that are requested (R266, R267). -/
  snap : Option (Nat × Nat) := none
  clr : Option (Nat × Nat) := none
  mig : Option Mig := none
  /-- S' of the last migration to this device (R132, R272). -/
  lastS : Nat := 0
  deriving DecidableEq, Repr

/-! ### Storage manager (spec/12_storage_manager.md) -/

/-- The format header's contents (Table 12-4), as far as no register of the page holds them. -/
structure FmtHdr where
  ident : BitVec 64 := 0
  p16 : Nat := 0
  mirror : Bool := false
  s : Nat := 0
  h : Nat := 0
  u : Nat := 0
  raw : Nat := 0
  bpc : Nat := 0
  pageK : Nat := 4
  ppb : Nat := 0
  bad : Nat := 0
  frac : Word := 0
  sec : Word := 0
  first : BitVec 40 := 0
  deriving DecidableEq, Repr

/-- A history frame on the medium (R344): its number, its first unit, how many units it takes, and its words. -/
structure HistFrame where
  no : Nat
  unit : Nat
  units : Nat
  words : List Word
  deriving DecidableEq, Repr

/-- Work on the medium as R340 ranks it: a record read, a medium read of a DMA queue of this device or of another, a snapshot
whose units are to be programmed, a history frame, a refresh with the erase counts after it, and the end of a scrub pass. -/
inductive Work where
  | pbRead
  | bulk (q : Nat) (d : Desc)
  | send (src q : Nat) (d : Desc)
  | snapshot
  | history (no : Nat) (ws : List Word)
  | refresh (why : Refresh) (pslc : Bool) (mx mean : Nat)
  | scrub
  deriving DecidableEq, Repr

/-- A snapshot on the medium (R348): its number, its header unit and its units, the words of its header, the words a slot
holds, the first sample of each slot, and the capture memory's bytes as they were stored. -/
structure Snap where
  no : Nat
  unit : Nat
  units : Nat
  head : List Word
  perSlot : Nat
  firsts : List Nat
  cells : List Host.Cell
  deriving DecidableEq, Repr

structure StmSt where
  /-- The format header of the medium, and its copy in the vault (Table 12-4, Table 12-5). -/
  fmt : FmtHdr := {}
  vaultId : FmtHdr := {}
  /-- Pages per block, and the native endurance of the parameter page in 100 cycles (R325, R341). -/
  ppb : Nat := 0
  endur : Nat := 0
  /-- A format runs, and it is a RESHAPE (R329, R331). -/
  format : Bool := false
  reshape : Bool := false
  /-- GO of an image waits for the end of the image load (R329). -/
  goPending : Bool := false
  /-- Sizes of the rings in units, after any reduction (R338). -/
  histUnits : Nat := 0
  snapUnits : Nat := 0
  /-- History: the interval in force (R343), the next frame number and unit, whether frames were dropped and TOD was
  stepped since the last frame, and the frames on the medium, oldest first (R344). -/
  histT : Nat := 10
  histNext : Nat := 0
  histUnit : Nat := 0
  histDropped : Bool := false
  histStep : Bool := false
  hist : List HistFrame := []
  /-- Snapshot capture (R346, R347): the next number and unit, the snapshots on the medium, the lanes captured, the start
  of FILLING, the causes merged and the first, the trigger instant in ticks and TOD with its record, and the last accepted
  trigger. -/
  snapNext : Nat := 0
  snapUnit : Nat := 0
  snaps : List Snap := []
  capLanes : Word := 0
  capFillAt : Nat := 0
  capCauses : BitVec 4 := 0
  capFirst : Nat := 0
  capTrigAt : Nat := 0
  capSec : Nat := 0
  capIdx : Nat := 0
  capSeq : BitVec 40 := 0
  capLastAt : Option Nat := none
  /-- Erases since the wear checkpoint, and its instant (R339); the end of the last scrub pass (R337). -/
  erases : Nat := 0
  checkAt : Nat := 0
  scrubAt : Nat := 0
  /-- Mean erase counts of the native and the pseudo-SLC pool with their instants, oldest first (R341). -/
  means : List (Nat × Nat × Nat) := []
  /-- Units of the medium that read uncorrectable (R349): partition and unit. -/
  badUnits : List (Nat × Nat) := []
  /-- What was programmed, newest first: partition, first unit, units, and the write sequence of the first of their codewords
  (R333); and the sequence of the next. -/
  progs : List (Nat × Nat × Nat × Nat) := []
  wrSeq : Nat := 0
  /-- The SET FEATURES commands of the last codeword read: address and P1 (R326, R327). -/
  feats : List (Nat × Nat) := []
  /-- Work on the medium that waits for work of a higher priority (R340), as it came. -/
  work : List Work := []
  deriving DecidableEq, Repr

/-! ### Host interface, DMA, interrupt controller (spec/13_host_interface.md) -/

/-- What the device sends to its host. -/
inductive HostMsg where
  /-- An MSI-X message of a vector (R369). -/
  | msix (v : Nat)
  /-- A PM_PME message (R370). -/
  | pme
  /-- A read completion (R356, R357, R366). -/
  | readData (v : Word)
  /-- Words written to host memory by DMA (R358, R361). -/
  | write (addr : Nat) (ws : List Word)
  deriving DecidableEq, Repr

/-- A tunnelled read outstanding at the vertex (R357): for the host, or for a kind 3 descriptor of a queue, whose word goes
to a host address (R359). -/
structure TunRead where
  dev : Nat
  off : Nat
  since : Nat
  dma : Option (Nat × Nat)
  deriving DecidableEq, Repr

/-- A descriptor in progress (R358 to R361): its index, kind, device and host address, what its entry will hold, and
whether its data has moved. -/
structure DmaRun where
  idx : Nat
  tag : Nat
  notify : Bool
  kind : Nat
  dev : Nat
  host : Nat
  status : Nat
  bytes : Nat
  info : Nat
  done : Bool
  /-- Tunnelled writes of the descriptor, and the sequence number after the last (R361). -/
  upTo : Nat
  /-- The descriptor could not be read (R363). -/
  failed : Bool
  deriving DecidableEq, Repr

/-- A queue beside its registers (R358 to R363). -/
structure DmaQ where
  run : Option DmaRun := none
  /-- The unsignalled entries, oldest first, by the instant at which each has waited MOD_TIME (R362). -/
  unsig : List (Option Nat) := []
  deriving DecidableEq, Repr

/-- An interrupt source's state (R364). -/
inductive SrcState where
  | idle | pending | active
  deriving DecidableEq, Repr

structure IcSrc where
  st : SrcState := .idle
  owner : Nat := 0
  /-- The class through which it was claimed (R367). -/
  fast : Bool := false
  asserts : BitVec 32 := 0
  claims : BitVec 32 := 0
  deriving DecidableEq, Repr

/-- A completion of a remote device's source that waits for the writes before it (R391). -/
structure HeldComp where
  t : Nat
  fast : Bool
  n : Nat
  upTo : Nat
  deriving DecidableEq, Repr

structure HifSt where
  dma : Tab DmaQ := []
  ic : Tab IcSrc := []
  /-- LAST_CLAIM and LAST_BAD by target, normal then fast bank at 4 + t. -/
  lastClaim : Tab Nat := []
  lastBad : Tab Nat := []
  /-- The lines as last evaluated, whose rises send messages (R365, R369). -/
  lines : BitVec 4 := 0
  /-- MSI-X enabled in configuration space; the pending bits (R369). -/
  msixEn : Bool := false
  pba : BitVec 4 := 0
  /-- PME_En and PME_Status (R370). -/
  pmeEn : Bool := false
  pmeStatus : Bool := false
  out : List HostMsg := []
  reads : List TunRead := []
  heldComps : List HeldComp := []
  deriving DecidableEq, Repr

/-! ### Cascade ring (spec/14_cascade_ring.md) -/

/-- What a frame carries (Table 14-3). -/
inductive RingBody where
  | write (b : RegBody)
  | read (off : Nat)
  | answer (off : Nat) (v : Word)
  | ack (seq : Nat) (line faultLow : Bool) (state : Nat)
  | nak (seq : Nat)
  | status (line faultLow : Bool) (state : Nat)
  | enumeration (seen : List MapEntry)
  | ringReset
  | breakNotice (arc : Nat)
  | route
  /-- A time message, as its receiver takes it (R188). -/
  | time (m : TimeMsg)
  /-- A delay request and its answer, with the ticks of their sending and arrival (R188). -/
  | delayReq (t1 : Nat)
  | delayAns (t1 t2 t3 : Nat)
  /-- A census marker: C_s and R_cum (R386). -/
  | census (cs : Nat) (rCum : BitVec 16)
  /-- A request of a queue for memory or medium, and its data: status, first bad unit (R359). -/
  | bulkReq (q : Nat) (d : Desc)
  | bulkData (q : Nat) (status info : Nat) (last : Bool) (ws : List Word)
  | stream (f : StreamFrame)
  deriving DecidableEq, Repr

/-- A frame that the device sends (R382): the port (0 RING_UP, 1 RING_DN), the VC, its destination, and its number. -/
structure Frame where
  port : Nat
  vc : Nat
  dst : Nat
  seq : Nat
  body : RingBody
  deriving DecidableEq, Repr

/-- A VC of a port (R385): the credits of its sender, R_cum, and RetCum of its receiver. -/
structure Vc where
  credits : Nat := 256
  rCum : BitVec 16 := 0
  retCum : BitVec 16 := 0
  deriving DecidableEq, Repr

/-- Delivery to one device and from it on a VC (R389). -/
structure Deliv where
  /-- The number of the next frame sent, and the frames not acknowledged, oldest first. -/
  next : Nat := 0
  unacked : List Frame := []
  /-- What the vertex holds until acknowledgements free a place: writes, and reads behind them. -/
  waiting : List RingBody := []
  lastProg : Nat := 0
  /-- The number of the next frame expected from it; a NAK has been sent for it. -/
  expect : Nat := 0
  nakSent : Bool := false
  deriving DecidableEq, Repr

/-- What the vertex knows of a remote device (R391, R392). -/
structure Remote where
  level : Bool := false
  faultLow : Bool := false
  state : Nat := 0
  deriving DecidableEq, Repr

structure RingSt where
  out : List Frame := []
  /-- Frames that wait for a credit (R385). -/
  queue : List Frame := []
  /-- VCs at 4 × port + VC; delivery at 4 × device + VC. -/
  vcs : Tab Vc := []
  deliv : Tab Deliv := []
  remotes : Tab Remote := []
  /-- The broken arcs known, by the position of their upstream end. -/
  broken : List Nat := []
  /-- The arcs down, as the last enumeration found them (vertex). -/
  down : List Nat := []
  restoring : Bool := false
  conflict : Bool := false
  enumerated : Bool := false
  /-- The status last sent (R391). -/
  lastStatus : Option (Bool × Bool × Nat) := none
  statusAt : Nat := 0
  /-- Last failing census by 4 × port + VC: C_s, B, in flight, total (R386). -/
  census : Tab (Nat × Nat × Nat × Nat) := []
  /-- IDs that were present and are absent (Table 14-7). -/
  departed : List Nat := []
  deriving DecidableEq, Repr

/-! ### Housekeeping, thermal, PWM (spec/15_housekeeping_and_thermal.md) -/

structure HkChan where
  raw : BitVec 16 := 0
  /-- The latest result with VALID and without SUSPECT, for the engine and the thermal loop (R404, R409). -/
  usable : Option (BitVec 16) := none
  /-- The latest result without SUSPECT has VALID (R413). -/
  ok : Bool := false
  deriving DecidableEq, Repr

/-- A conversion in progress: its channel, whether it belongs to the slow round, its SUSPECT and LATE, and its end. -/
structure HkConv where
  ch : Nat
  slow : Bool
  suspect : Bool
  late : Bool
  done : Nat
  deriving DecidableEq, Repr

structure HkSt where
  chans : Tab HkChan := []
  /-- The start instant of the trigger that is held (R407). -/
  held : Option Nat := none
  /-- A user scan runs: the channels after the one that converts, and its LATE (R405, R407). -/
  scanOn : Bool := false
  scan : List Nat := []
  scanLate : Bool := false
  filt : Bool := true
  lp : Bool := false
  /-- A slow round runs, and its channels to come; one is requested (R408). -/
  slowOn : Bool := false
  slow : List Nat := []
  slowLp : Bool := false
  slowReq : Bool := false
  conv : Option HkConv := none
  /-- The next conversion is suspect (R403). -/
  suspectNext : Bool := false
  /-- The instant at which the converter last became free (R407). -/
  freeAt : Nat := 0
  deriving DecidableEq, Repr

structure ThmSt where
  shut : Bool := false
  /-- The start of the cooling timer; before 0 where the tick count has started afresh since (R169, R420). -/
  coolAt : Option Int := none
  restart : Bool := false
  /-- The conditions SHUTDOWN and BLIND held at the last evaluation (R412). -/
  hot : Bool := false
  blind : Bool := false
  /-- The instant of the last change of the throttle step (R411). -/
  stepAt : Nat := 0
  /-- The instant of the last usable reading of a die sensor, or of the release before any (R412). -/
  lastUsable : Nat := 0
  deriving DecidableEq, Repr

structure PwmChan where
  en : Bool := false
  per : Nat := 0x9999
  duty : Nat := 0
  pol : Bool := false
  presc : Nat := 0
  level : Bool := false
  t0 : Nat := 0
  /-- The owner's duty for the next period (R416). -/
  loopDuty : Option Bfp := none
  parity : Bool := false
  deriving DecidableEq, Repr

structure PwmSt where
  chans : Tab PwmChan := []
  deriving DecidableEq, Repr

/-! ### Two-wire ports (spec/16_two_wire_ports.md) -/

structure TwtSt where
  /-- Byte 0x66: the latched alert causes (R428). -/
  causes : BitVec 8 := 0
  /-- The status area copied at the address byte (R425). -/
  snap : List Byte := []
  /-- The transaction reads; the next data byte written is the pointer (R426). -/
  reading : Bool := false
  first : Bool := false
  /-- The instant of the last transaction that addressed the port (R429). -/
  lastAt : Nat := 0
  /-- The transaction was abandoned with SCL stuck, and the port waits for a START (R431). -/
  afterStuck : Bool := false
  /-- The last byte was acknowledged by the port; the last byte that the port transmitted. -/
  acked : Bool := false
  sent : Byte := 0
  deriving DecidableEq, Repr

/-- An item of a controller (R432). -/
inductive TwItem where
  | reg (mv : Nat) | host | poll (e : Nat)
  deriving DecidableEq, Repr

structure TwcSt where
  /-- The transaction that runs (R432), and the regulator code it carries (R435). -/
  run : Option TwItem := none
  code : Nat := 0
  /-- The regulator request that waits, in mV, and the instant before which it is not sent again (R435). -/
  regWait : Option Nat := none
  retryAt : Option Nat := none
  /-- The host command waits (R433); the polling entries that wait, in ascending order (R434). -/
  cmdWait : Bool := false
  polls : List Nat := []
  /-- A bus clear runs, or is to run when the transaction ends; the last clear failed at this instant (R436). -/
  clear : Bool := false
  clearReq : Bool := false
  failAt : Option Nat := none
  deriving DecidableEq, Repr

/-! ### Start-up, settings and security (spec/17_startup_and_settings.md) -/

/-- The five reset kinds (Table 17-1), in the order of the start record's codes. -/
inductive ResetKind where
  | powerOn | pin | host | ring | fabric
  deriving DecidableEq, Repr

structure BootSt where
  /-- The reset that is in force until its release, and the instant of its request (R443). -/
  inReset : Option ResetKind := none
  reqAt : Nat := 0
  /-- The kind of the last reset (Table 11-4, record 0x0001). -/
  kind : ResetKind := .powerOn
  /-- The release instant (R447), and LOAD_LIMIT in ms (R448). -/
  t0 : Nat := 0
  limit : Nat := 800
  /-- The headers of copies A and B as read in phase 1 (Table 17-5), and which copies have been checked in full or failed. -/
  hdrA : List Byte := []
  hdrB : List Byte := []
  doneA : Bool := false
  doneB : Bool := false
  /-- The copy that is checked in full, 1 A, 2 B, 0 none (R457). -/
  cand : Nat := 0
  /-- The loaded copy has the autonomous flag (R461); END has run. -/
  autoFlag : Bool := false
  ended : Bool := false
  /-- A CALIBRATE record has run (R459), and phase 3 waits for it. -/
  calibrated : Bool := false
  calWait : Bool := false
  /-- The start-up calibration of phase 4 has started, or is skipped. -/
  phase4 : Bool := false
  /-- A WAIT or DELAY record runs: its end; it is a WAIT, with FATAL; its last read (R455, R458). -/
  recEnd : Option Nat := none
  waiting : Bool := false
  fatal : Bool := false
  pollAt : Nat := 0
  skip : Nat := 0
  /-- Slots 0 to 2 of the one-time memory as programmed, and as in force since the last start (R463). -/
  otp0 : Option (BitVec 256) := none
  otp1 : Option (BitVec 256) := none
  otp2 : Bool := false
  slot0 : Option (BitVec 256) := none
  slot1 : Option (BitVec 256) := none
  slot2 : Bool := false
  /-- The slot that is being programmed. -/
  prog : Option Nat := none
  deriving DecidableEq, Repr

/-- The command that runs on the settings flash (R465). -/
structure SmemCmd where
  write : Bool
  poll : Bool
  len : Nat
  deriving DecidableEq, Repr

structure SmemSt where
  run : Option SmemCmd := none
  deriving DecidableEq, Repr

/-! ### The device -/

/-- Balls that the world drives, as last seen by the device. -/
structure Pins where
  strapId : BitVec 6 := 0
  strapVtx : Bool := true
  coexReqIn : Bool := false
  coexPri : Bool := false
  coexGntIn : Bool := false
  ppsIn : Bool := false
  gpio : BitVec 16 := 0
  deriving DecidableEq, Repr

/-- What waits behind a command written during a transition (R11, R38, R39): a write of a slice offset, a read of one for
the host, a claim, a read for another device of the ring, a word that descriptor `idx` of a queue reads for host memory, or
the end of a descriptor that writes. -/
inductive Waits where
  | write (off : Nat) (v : Word)
  | read (off : Nat)
  | claim (t : Nat) (fast : Bool)
  | answer (dev off : Nat)
  | descRead (q idx off host : Nat) (last : Bool)
  | descEnd (q idx : Nat)
  deriving DecidableEq, Repr

structure SysSt where
  /-- In reset, or in the start-up phases before REHEARSAL (Table 0-3). -/
  dark : Bool := true
  /-- The accesses that wait for a transition to complete, in order (R11). -/
  deferred : List Waits := []
  /-- A STOP was accepted since the last transition from DARK and no START after it (R13). -/
  stopHeld : Bool := false
  deriving DecidableEq, Repr

structure State where
  /-- Register fields that differ from their reset value or have been written, by place (`Fld.key`). -/
  regs : Tab Word
  /-- The addressed memories of the slice and the capture memories of WIN_B, in canonical form. -/
  mem : List Host.Cell
  /-- The tick count of R169. -/
  now : Nat
  /-- The model's own counter of free values drawn. -/
  free : Nat
  pins : Pins
  sys : SysSt
  boot : BootSt
  fc : FcSt
  pb : PbSt
  cur : CurSt
  prot : Tab ProtLane
  lanes : Tab LaneSt
  conv : Tab ConvSt
  rfc : RfcSt
  cnx : CnxSt
  spt : SptSt
  time : TimeSt
  tdd : TddSt
  cte : CteSt
  fab : FabSt
  stm : StmSt
  hif : HifSt
  ring : RingSt
  hk : HkSt
  thm : ThmSt
  pwm : PwmSt
  twt : TwtSt
  twc : Tab TwcSt
  smem : SmemSt
  /-- The tick after the one at which each periodic event last took place, by its number (`evFLUSH` and the rest). -/
  marks : Tab Nat
  /-- The commands that wait, first in, first out. -/
  pending : List Instr
  deriving DecidableEq, Repr

/-- The device at the release of a power-on reset, with no command waiting. -/
def State.reset : State :=
  { regs := [], mem := [], now := 0, free := 0, pins := {}, sys := {}, boot := {}, fc := {}, pb := {}, cur := {},
    prot := [], lanes := [], conv := [], rfc := {}, cnx := {}, spt := {}, time := {}, tdd := {}, cte := {}, fab := {},
    stm := {}, hif := {}, ring := {}, hk := {}, thm := {}, pwm := {}, twt := {}, twc := [], smem := {}, marks := [], pending := [] }

end Sys2Proof.Machine
end

