-- ==== Sys2Proof/Machine/Ops.lean ====
section
/-! DEFINITION. The named operations over the register file, the addressed memories and the clock. -/
namespace Sys2Proof.Machine
open Sys2Proof

/-! ### Register fields -/

/-- The value of a field, as a number below 2^width. -/
def State.rd (s : State) (f : Fld) (i : Nat) : Nat :=
  (Tab.get (BitVec.ofNat 32 (f.rst i)) s.regs (f.key i)).toNat % 2 ^ f.w

/-- The state with a field holding `v`, taken modulo 2^width. An index at which the field does not exist holds nothing. -/
def State.wr (s : State) (f : Fld) (i v : Nat) : State :=
  { s with regs := if f.has i then s.regs.set (f.key i) (BitVec.ofNat 32 (v % 2 ^ f.w)) else s.regs }

/-- A value of more than 32 bits in a low and a high word. -/
def State.wrPair (s : State) (lo hi : Fld) (v : Nat) : State := (s.wr lo 0 v).wr hi 0 (v / 2 ^ 32)

/-- A field of one bit, or a field that is not 0. -/
def State.on (s : State) (f : Fld) (i : Nat) : Bool := s.rd f i != 0

/-- Bit `b` of a field. -/
def State.tst (s : State) (f : Fld) (i b : Nat) : Bool := (s.rd f i).testBit b

/-- Bits of `m` set in a field. -/
def State.orBits (s : State) (f : Fld) (i m : Nat) : State := s.wr f i (s.rd f i ||| m)

/-- Bits of `m` cleared in a field. -/
def State.clrBits (s : State) (f : Fld) (i m : Nat) : State := s.wr f i (s.rd f i - (s.rd f i &&& m))

/-- Bit `b` of a field set, or cleared. -/
def State.putBit (s : State) (f : Fld) (i b : Nat) (v : Bool) : State :=
  if v then s.orBits f i (2 ^ b) else s.clrBits f i (2 ^ b)

/-- The bits [lo + w - 1 : lo] of a field set to `v`. -/
def State.wrBits (s : State) (f : Fld) (i lo w v : Nat) : State :=
  s.wr f i (s.rd f i - s.rd f i / 2 ^ lo % 2 ^ w * 2 ^ lo + v % 2 ^ w * 2 ^ lo)

/-- A saturating count raised by `n`. -/
def State.satAdd (s : State) (f : Fld) (i n : Nat) : State := s.wr f i (min (s.rd f i + n) (2 ^ f.w - 1))

/-- A saturating count raised by 1. -/
def State.satInc (s : State) (f : Fld) (i : Nat) : State := s.satAdd f i 1

/-- A count modulo 2^width raised by 1. -/
def State.inc (s : State) (f : Fld) (i : Nat) : State := s.wr f i (s.rd f i + 1)

/-- The two's complement value of the low `w` bits of `v`. -/
def sx (w v : Nat) : Int :=
  if 2 ^ (w - 1) ≤ v % 2 ^ w then (v % 2 ^ w : Nat) - (2 ^ w : Nat) else (v % 2 ^ w : Nat)

/-- The low `w` bits of the two's complement form of `x`. -/
def ux (w : Nat) (x : Int) : Nat := (x % (2 ^ w : Nat)).toNat

/-- A signed field. -/
def State.rdS (s : State) (f : Fld) (i : Nat) : Int := sx f.w (s.rd f i)

/-- A signed field set to `x`. -/
def State.wrS (s : State) (f : Fld) (i : Nat) (x : Int) : State := s.wr f i (ux f.w x)

/-- A signed field set to `x`, saturated to its range. -/
def State.wrSat (s : State) (f : Fld) (i : Nat) (x : Int) : State :=
  s.wrS f i (max (-(2 ^ (f.w - 1) : Nat)) (min x ((2 ^ (f.w - 1) : Nat) - 1)))

/-- The bits [lo + w - 1 : lo] of a word. -/
def bits (v : Word) (lo w : Nat) : Nat := v.toNat / 2 ^ lo % 2 ^ w

/-- The part of a written word that falls on a field. -/
def Fld.of (f : Fld) (v : Word) : Nat := bits v f.lo f.w

/-- The fields of `fs` at index `i` written from a word. -/
def State.wrWord (s : State) (fs : List Fld) (i : Nat) (v : Word) : State :=
  fs.foldl (fun s f => s.wr f i (f.of v)) s

/-- The word that holds the fields of `fs` at index `i`. -/
def State.rdWord (s : State) (fs : List Fld) (i : Nat) : Word :=
  BitVec.ofNat 32 (fs.foldl (fun a f => a + s.rd f i * 2 ^ f.lo) 0)

/-! ### The clock (R4, R169) -/

/-- Ticks of the 983.04 MHz timebase in `n` ns, rounded up: the first tick at or after the end of the window. -/
def nsT (n : Nat) : Nat := (n * 98304 + 99999) / 100000
/-- Ticks in `n` µs, rounded up. -/
def usT (n : Nat) : Nat := (n * 98304 + 99) / 100
/-- Ticks in `n` ms. -/
def msT (n : Nat) : Nat := n * 983040
/-- Ticks in `n` s. -/
def secT (n : Nat) : Nat := n * 983040000
/-- Ticks of a second. -/
def tps : Nat := 983040000

/-- `dt` ticks pass: the tick count and the time of day go on together (R169). -/
def State.pass (s : State) (dt : Nat) : State :=
  let i := s.time.idx + dt
  { s with now := s.now + dt,
           time := { s.time with idx := i % tps, sec := (s.time.sec + i / tps) % 2 ^ 32 } }

/-- Time goes on to tick `t`, where it has not yet been reached. -/
def State.reach (s : State) (t : Nat) : State := if s.now < t then s.pass (t - s.now) else s

/-- The next multiple of `p` strictly after the present tick (R505). -/
def State.nextMul (s : State) (p : Nat) : Nat := (s.now / p + 1) * p

/-! The periodic events of the timebase, and those of each lane or of each entry. -/
def evFLUSH : Nat := 0
def evRATE : Nat := 1
def evSLACK : Nat := 2
def evAUDIT : Nat := 3
def evTIMER : Nat := 4
def evSLOW : Nat := 5
def evBDAC : Nat := 6
def evCENSUS : Nat := 7
def evTIMEMSG : Nat := 8
def evARC : Nat := 9
def evHIST : Nat := 10
def evHOLD : Nat := 11
def evPPS : Nat := 12
def evFRAME : Nat := 13
def evPOLL : Nat := 32
def evSAMPLE : Nat := 64
def evTAP : Nat := 96
def evBLOCK : Nat := 128
def evCAP : Nat := 160

/-- The periodic event `e` takes place now. -/
def State.mark (s : State) (e : Nat) : State := { s with marks := s.marks.set e (s.now + 1) }

/-- The event `e` has not taken place at the present tick. -/
def State.due (s : State) (e : Nat) : Bool := s.now != 0 && s.marks.get 0 e != s.now + 1

/-- Time goes on to the next instant of the event `e`, at each multiple of `p` ticks from tick `o`: the present tick, where
it is one and the event has not taken place at it, otherwise the next (R505). Events of one instant so take place in the
order of their commands. -/
def State.toMul (s : State) (e o p : Nat) : State :=
  let r := (s.now - o) % p
  (if r = 0 ∧ s.now ≠ o ∧ s.due e = true then s else s.reach (s.now + (p - r))).mark e

/-- Time of day in ticks (R169). -/
def State.tod (s : State) : Nat := s.time.sec * tps + s.time.idx

/-- The time of day set to `n` ticks, its seconds modulo 2^32 (R169). -/
def State.setTod (s : State) (n : Nat) : State :=
  { s with time := { s.time with sec := n / tps % 2 ^ 32, idx := n % tps } }

/-- The fraction of the second in units of 2^-32, rounded to nearest with ties to even (R5, R169). -/
def todFrac (idx : Nat) : Nat :=
  let q := idx * 2 ^ 32 / tps
  let r := idx * 2 ^ 32 % tps
  if tps < 2 * r ∨ (2 * r = tps ∧ q % 2 = 1) then q + 1 else q

/-! ### Free values -/

/-- One value that the specification leaves open, with the counter moved on. -/
def State.draw (s : State) : Nat × State := (s.free, { s with free := s.free + 1 })

/-! ### Addressed memories -/

/-- What a byte reads as that nothing has written: zero, but for the loop descriptors that have other reset values (R252
Table 8-12), and the Vector Control words of the MSI-X table, whose mask bits PCI Express resets to 1 (Table 13-9). -/
def resetByte (a : Nat) : Byte :=
  if 0x400000 ≤ a ∧ a < 0x404000 then
    let o := a % 64
    if o = 5 then 0x80#8 else if o = 6 then 0x01#8 else if o = 0x36 then 0x01#8 else 0#8
  else if 0xA800 ≤ a ∧ a < 0xA840 then (if a % 16 = 12 then 0x01#8 else 0#8)
  else 0#8

/-- The byte at an address. -/
def memGet : List Host.Cell → Nat → Byte
  | [], a => resetByte a
  | (k, b) :: m, a => if k = a then b else memGet m a

/-- The memory with a byte replaced, in canonical form: addresses rising, no entry equal to `resetByte`. -/
def memSet : List Host.Cell → Nat → Byte → List Host.Cell
  | [], a, b => if b = resetByte a then [] else [(a, b)]
  | (k, c) :: m, a, b =>
    if a < k then (if b = resetByte a then (k, c) :: m else (a, b) :: (k, c) :: m)
    else if k = a then (if b = resetByte a then m else (a, b) :: m)
    else (k, c) :: memSet m a b

/-- The addresses from `lo` rise strictly, and no entry equals what its address reads as unlisted. -/
def memWfFrom : Nat → List Host.Cell → Bool
  | _, [] => true
  | lo, (k, b) :: m => decide (lo ≤ k) && b != resetByte k && memWfFrom (k + 1) m

/-- The canonical form of the memory. -/
def Memory.wf (m : List Host.Cell) : Bool := memWfFrom 0 m

/-- A byte of the memory. -/
def State.ld8 (s : State) (a : Nat) : Byte := memGet s.mem a

/-- A byte stored. -/
def State.st8 (s : State) (a : Nat) (b : Byte) : State := { s with mem := memSet s.mem a b }

/-- A word of the memory, least significant byte at the lowest address. -/
def State.ld (s : State) (a : Nat) : Word :=
  s.ld8 (a + 3) ++ s.ld8 (a + 2) ++ s.ld8 (a + 1) ++ s.ld8 a

/-- A word stored. -/
def State.st (s : State) (a : Nat) (w : Word) : State :=
  (((s.st8 a (w.extractLsb' 0 8)).st8 (a + 1) (w.extractLsb' 8 8)).st8 (a + 2) (w.extractLsb' 16 8)).st8 (a + 3)
    (w.extractLsb' 24 8)

/-- The addressed memories: the tap window (R87), the loop descriptors and the position tables of the engine, the MSI-X
table, and the capture memories of WIN_B. -/
inductive Region where
  | taps | loops | tables | vecs | laneCap | loopCap
  deriving DecidableEq, Repr

/-- The first address of a memory. -/
def Region.lo : Region → Nat
  | .taps => 0x100000 | .loops => 0x400000 | .tables => 0x410000 | .vecs => 0xA800 | .laneCap => 0x100000000
  | .loopCap => 0x110000000
/-- The bytes of a memory. -/
def Region.size : Region → Nat
  | .taps => 0x80000 | .loops => 0x4000 | .tables => 0x4000 | .vecs => 0x40 | .laneCap => 0x800000 | .loopCap => 0x80000
/-- The memory holds the byte at an address. -/
def Region.has (r : Region) (a : Nat) : Bool := decide (r.lo ≤ a) && decide (a < r.lo + r.size)

/-- A word stored at an offset of a memory. -/
def State.stIn (s : State) (r : Region) (o : Nat) (w : Word) : State :=
  if o + 4 ≤ r.size then s.st (r.lo + o) w else s

/-- A field of `w` bits at bit `lo` of the word at `a`. -/
def State.ldF (s : State) (a lo w : Nat) : Nat := bits (s.ld a) lo w

/-- A field of `w` bits at bit `lo` of the word at offset `o` of a memory set to `v`. -/
def State.stF (s : State) (r : Region) (o lo w v : Nat) : State :=
  s.stIn r o (BitVec.ofNat 32 ((s.ld (r.lo + o)).toNat - s.ldF (r.lo + o) lo w * 2 ^ lo + v % 2 ^ w * 2 ^ lo))

/-! ### Ports -/

/-- Port `m` as a set. -/
def portBit (m : Nat) : Ports := BitVec.ofNat 8 (2 ^ m)
/-- The ports of a set in rising order. -/
def portList (p : Ports) : List Nat := (List.range 8).filter (fun m => p.toNat.testBit m)
/-- Every port. -/
def allPorts : Ports := 0xFF#8
/-- The set of the ports of a list. -/
def portsOf (l : List Nat) : Ports := l.foldl (fun a m => a ||| portBit m) 0

/-- An operation on each member of a list in turn. -/
def State.each {α : Type} (s : State) (l : List α) (f : State → α → State) : State := l.foldl f s

/-- An operation under a condition. -/
def State.cond (s : State) (c : Bool) (f : State → State) : State := if c then f s else s

/-! ### Pieces of the state -/

def State.setFc (s : State) (f : FcSt → FcSt) : State := { s with fc := f s.fc }
def State.fcSrc (s : State) (n : Nat) : FcSrc := s.fc.srcs.get {} n
def State.setFcSrc (s : State) (n : Nat) (f : FcSrc → FcSrc) : State :=
  { s with fc := { s.fc with srcs := s.fc.srcs.set n (f (s.fcSrc n)) } }
def State.setPb (s : State) (f : PbSt → PbSt) : State := { s with pb := f s.pb }
def State.cport (s : State) (m : Nat) : CurPort := s.cur.ports.get {} m
def State.setCport (s : State) (m : Nat) (f : CurPort → CurPort) : State :=
  { s with cur := { s.cur with ports := s.cur.ports.set m (f (s.cport m)) } }
def State.rport (s : State) (m : Nat) : RfcPort := s.rfc.ports.get {} m
def State.setRport (s : State) (m : Nat) (f : RfcPort → RfcPort) : State :=
  { s with rfc := { s.rfc with ports := s.rfc.ports.set m (f (s.rport m)) } }
def State.lane (s : State) (n : Nat) : LaneSt := s.lanes.get {} n
def State.setLane (s : State) (n : Nat) (f : LaneSt → LaneSt) : State :=
  { s with lanes := s.lanes.set n (f (s.lane n)) }
def State.cv (s : State) (n : Nat) : ConvSt := s.conv.get {} n
def State.setCv (s : State) (n : Nat) (f : ConvSt → ConvSt) : State := { s with conv := s.conv.set n (f (s.cv n)) }
def State.path (s : State) (p : Nat) : PathSt := s.cnx.paths.get {} p
def State.setPath (s : State) (p : Nat) (f : PathSt → PathSt) : State :=
  { s with cnx := { s.cnx with paths := s.cnx.paths.set p (f (s.path p)) } }
def State.clu (s : State) (c : Nat) : Cluster := s.cnx.clusters.get {} c
def State.setClu (s : State) (c : Nat) (f : Cluster → Cluster) : State :=
  { s with cnx := { s.cnx with clusters := s.cnx.clusters.set c (f (s.clu c)) } }
def State.setCnx (s : State) (f : CnxSt → CnxSt) : State := { s with cnx := f s.cnx }
def State.setTime (s : State) (f : TimeSt → TimeSt) : State := { s with time := f s.time }
def State.setBoot (s : State) (f : BootSt → BootSt) : State := { s with boot := f s.boot }
def State.setSys (s : State) (f : SysSt → SysSt) : State := { s with sys := f s.sys }
def State.setStm (s : State) (f : StmSt → StmSt) : State := { s with stm := f s.stm }
def State.setHif (s : State) (f : HifSt → HifSt) : State := { s with hif := f s.hif }
def State.setRing (s : State) (f : RingSt → RingSt) : State := { s with ring := f s.ring }
def State.setTwt (s : State) (f : TwtSt → TwtSt) : State := { s with twt := f s.twt }
def State.setRfc (s : State) (f : RfcSt → RfcSt) : State := { s with rfc := f s.rfc }
def State.setHk (s : State) (f : HkSt → HkSt) : State := { s with hk := f s.hk }
def State.setThm (s : State) (f : ThmSt → ThmSt) : State := { s with thm := f s.thm }
def State.setFab (s : State) (f : FabSt → FabSt) : State := { s with fab := f s.fab }

end Sys2Proof.Machine
end

