-- ==== Sys2Proof/Machine/Operands.lean ====
section
/-! DEFINITION. Number formats and conversions that several chapters share: convergent rounding (R5), saturation, and
levels in dB as integers in units of 2^-16 dB. -/
namespace Sys2Proof.Machine
open Sys2Proof

/-- `n / d` rounded to the nearest integer, ties to even (R5); `d` positive. -/
def roundDiv (n : Int) (d : Nat) : Int :=
  let q := n.fdiv d
  let r := n.fmod d
  if 2 * r < d then q else if (d : Int) < 2 * r then q + 1 else if q % 2 = 0 then q else q + 1

/-- A rational rounded to the nearest integer, ties to even. -/
def roundRat (x : Rat) : Int := roundDiv x.num x.den

/-- `x` saturated to `w`-bit two's complement. -/
def satS (w : Nat) (x : Int) : Int := max (-(2 ^ (w - 1) : Nat)) (min x ((2 ^ (w - 1) : Nat) - 1))
/-- `x` does not fit in `w` bits. -/
def satHit (w : Nat) (x : Int) : Bool := satS w x != x

def Iq.zero : Iq := ⟨0, 0⟩
def Iq.re (x : Iq) : Int := x.i.toInt
def Iq.im (x : Iq) : Int := x.q.toInt
/-- The lane word of a value, saturated, and whether it saturated (R62). -/
def iqOf (re im : Int) : Iq := ⟨BitVec.ofInt 18 (satS 18 re), BitVec.ofInt 18 (satS 18 im)⟩
def iqSat (re im : Int) : Bool := satHit 18 re || satHit 18 im
/-- A lane word as one vector, I above Q, and back. -/
def Iq.bits (x : Iq) : BitVec 36 := x.i ++ x.q
def iqBits (v : BitVec 36) : Iq := ⟨v.extractLsb' 18 18, v.extractLsb' 0 18⟩
/-- The squared magnitude of a word. -/
def Iq.pow (x : Iq) : Nat := (x.re * x.re + x.im * x.im).toNat

/-- The square root of `n`, rounded down, found bit by bit from bit `k`. -/
def isqrtFrom (n : Nat) : Nat → Nat → Nat
  | 0, r => r
  | k + 1, r => let t := r + 2 ^ k; isqrtFrom n k (if t * t ≤ n then t else r)

/-- The square root of `n` below 2^128, rounded down. -/
def isqrt (n : Nat) : Nat := isqrtFrom n 64 0

/-- `k` further bits of the binary logarithm of `m / 2^40`, for m in [2^40, 2^41), by repeated squaring. -/
def logBits : Nat → Nat → Nat → Nat
  | 0, _, acc => acc
  | k + 1, m, acc =>
    let q := m * m / 2 ^ 40
    if 2 ^ 41 ≤ q then logBits k (q / 2) (2 * acc + 1) else logBits k q (2 * acc)

/-- The binary logarithm of `p / q` in units of 2^-24, rounded down to within the bits computed; `p`, `q` positive. -/
def log2Fix (p q : Nat) : Int :=
  let one (n : Nat) : Int :=
    let e := n.log2
    let m := if e ≤ 40 then n * 2 ^ (40 - e) else n / 2 ^ (e - 40)
    (e : Int) * 2 ^ 24 + logBits 24 m 0
  one p - one q

/-- One decibel in units of 2^-16 dB. -/
def dB1 : Int := 65536

/-- The level 10 log10 (p / q) in units of 2^-16 dB: the binary logarithm times 3.0102999566 dB. The specification
gives no precision of these conversions. -/
def dBpow (p q : Nat) : Int := roundDiv (log2Fix p q * 30102999566) (10000000000 * 2 ^ 8)

/-- The level 20 log10 (p / q) in units of 2^-16 dB. -/
def dBamp (p q : Nat) : Int := 2 * dBpow p q

/-- The successive square roots of 2 in units of 2^-60. -/
def rootTwos : Nat → Nat → List Nat
  | 0, _ => []
  | k + 1, c => let r := isqrt (c * 2 ^ 60); r :: rootTwos k r

/-- 2^(f / 2^24) in units of 2^-60, for f below 2^24. -/
def exp2Frac (f : Nat) : Nat :=
  ((rootTwos 24 (2 ^ 61)).zipIdx).foldl
    (fun a (r, i) => if f.testBit (23 - i) then a * r / 2 ^ 60 else a) (2 ^ 60)

/-- 10^(x / 10) for a level in units of 2^-16 dB, in units of 2^-k. -/
def linPowAt (k : Nat) (x : Int) : Nat :=
  let y := x * (10000000000 * 2 ^ 8) / 30102999566
  let e : Int := y.fdiv (2 ^ 24) + (k : Int)
  let v := exp2Frac (y.fmod (2 ^ 24)).toNat
  if 60 ≤ e then v * 2 ^ (e - 60).toNat else v / 2 ^ (60 - e).toNat

/-- 10^(x / 10) in units of 2^-40. -/
def linPow (x : Int) : Nat := linPowAt 40 x

/-- 10^(x / 10) in units of 2^-100, for powers of noise. -/
def linNoise (x : Int) : Nat := linPowAt 100 x

/-- The level of a power in units of 2^-100. -/
def dBNoise (p : Nat) : Int := dBpow (max 1 p) (2 ^ 100)

/-- 10^(x / 20) for a level in units of 2^-16 dB, in units of 2^-40. -/
def linAmp (x : Int) : Nat := linPow (x.fdiv 2)

/-- A level of 2^-16 dB as a signed register code of `u` units for each dB, saturated to `w` bits. -/
def levelCode (w u : Nat) (x : Int) : Nat := ux w (satS w (roundDiv (x * u) 65536))

/-- A signed register code of `u` units for each dB as a level of 2^-16 dB. -/
def codeLevel (w u v : Nat) : Int := (sx w v) * 65536 / u

/-- The linear factor of a gain code of R66 in units of 2^-40: 10^((g/64 - 48)/20), moved by the part of this device,
which stays within ±0.003 dB. -/
def gainFactor (g : Nat) : Nat :=
  let n := linAmp ((g : Int) * 1024 - 48 * 65536)
  let dev := (Config.gainDev g).toInt % 361 - 180
  ((n : Int) + (n : Int) * dev / 2 ^ 19).toNat

end Sys2Proof.Machine
end

