-- ==== Sys2Proof/Machine/Bfp.lean ====
section
/-! DEFINITION. The numbers and sections of the control engine (spec/08_control_engine.md R230 to R232, R236). -/
namespace Sys2Proof.Machine
open Sys2Proof

/-- 2^(e - 55). -/
def bfpUnit (e : Nat) : Rat := if 55 ≤ e then ((2 ^ (e - 55) : Nat) : Rat) else 1 / ((2 ^ (55 - e) : Nat) : Rat)

/-- The value M × 2^(E - 55) (R230). -/
def Bfp.val (b : Bfp) : Rat := b.m * bfpUnit b.e
/-- A BFP32 word as the device reads it: bits [31:30] are reserved. -/
def wordBfp (w : Word) : Bfp := ⟨sx 24 (bits w 0 24), bits w 24 6⟩
def wordVal (w : Word) : Rat := (wordBfp w).val
/-- The word of a value. -/
def Bfp.word (b : Bfp) : Word := BitVec.ofNat 32 (b.e * 2 ^ 24 + ux 24 b.m)

/-- A 24-bit mantissa. -/
def mantFits (m : Int) : Bool := satS 24 m == m

/-- The mantissas of values under one exponent: the smallest up to `top` at which each, rounded once under R5, fits; else
saturated at `top` (R230, R231). The last part tells whether any saturated. -/
def quantAt (top : Nat) (xs : List Rat) : Nat × List Int × Bool :=
  let at_ := fun e => xs.map fun x => roundRat (x / bfpUnit e)
  match (List.range (top + 1)).find? fun e => (at_ e).all mantFits with
  | some e => (e, at_ e, false)
  | none => (top, (at_ top).map (satS 24), true)

/-- A value rounded once to BFP32, with exponents up to `top`. -/
def bfpAt (top : Nat) (x : Rat) : Bfp × Bool :=
  let (e, ms, sat) := quantAt top [x]
  (⟨ms.headD 0, e⟩, sat)
/-- A value rounded to a normalised BFP32 word (R230). -/
def bfpOf (x : Rat) : Bfp := (bfpAt 63 x).1

/-- A coefficient mantissa of a bank (R231). -/
def Bank.coef (b : Bank) (m : BitVec 24) : Rat := m.toInt * bfpUnit b.ce.toNat

/-- The states of a section. -/
def Section.v1 (s : Section) : Rat := s.s1.toInt * bfpUnit s.exp.toNat
def Section.v2 (s : Section) : Rat := s.s2.toInt * bfpUnit s.exp.toNat

/-- The states stored under one exponent (R231). -/
def Section.store (s : Section) (a b : Rat) : Section :=
  let (e, ms, sat) := quantAt s.satE.toNat [a, b]
  { s with exp := BitVec.ofNat 6 e, s1 := BitVec.ofInt 24 (ms.getD 0 0), s2 := BitVec.ofInt 24 (ms.getD 1 0),
           sat := s.sat || sat }

/-- The bank in use: false A, true B. -/
def Section.bank (s : Section) (b : Bool) : Bank := if b then s.bankB else s.bankA

/-- One evaluation of a section (R231): the output, and the section after it. -/
def Section.step (s : Section) (b : Bool) (x : Rat) : Rat × Section :=
  let k := s.bank b
  let (yb, sat) := bfpAt s.satE.toNat (k.coef k.b0 * x + s.v1)
  let y := yb.val
  let t := s.store (k.coef k.b1 * x - k.coef k.a1 * y + s.v2) (k.coef k.b2 * x - k.coef k.a2 * y)
  (y, { t with sat := t.sat || sat })

/-- The integrator of a CLAMP loop (R236): bounded by `lo` and `hi`, and by its last output while held. -/
def Section.clampStep (s : Section) (b : Bool) (x lo hi : Rat) (held : Option Rat) : Rat × Section :=
  let k := s.bank b
  let (yb, sat) := bfpAt s.satE.toNat (k.coef k.b0 * x + s.v1)
  let top := match held with | some p => min hi p | none => hi
  let y := min (max yb.val lo) top
  let t := s.store (k.coef k.b1 * x + y) 0
  (y, { t with sat := t.sat || sat })

/-- The form that a CLAMP integrator needs: a1 = -1.0, a2 = 0 and b2 = 0 (R236). -/
def Bank.clampOk (k : Bank) : Bool := k.coef k.a1 == -1 && k.coef k.a2 == 0 && k.coef k.b2 == 0

/-! ### The sine of a chirp (R247) -/

/-- π in units of 2^-80. -/
def piFix : Int := 3797952473636338580787993

/-- The terms x^(2i+1) / (2i+1)! with alternating signs from `i`, `k` of them, in units of 2^-80. -/
def sinTerms (x : Int) : Nat → Nat → Int → Int
  | 0, _, _ => 0
  | k + 1, i, t => t + sinTerms x k (i + 1) (-(t * x / 2 ^ 80 * x / 2 ^ 80) / ((2 * i + 2) * (2 * i + 3) : Nat))

/-- The sine of `num / den` turns in units of 2^-80; the rule gives no precision. -/
def sinTurn (num : Int) (den : Nat) : Int :=
  let r := num % (den : Int)
  let r := if (den : Int) < 2 * r then r - den else r
  let x := 2 * piFix * r / den
  sinTerms x 24 0 x

end Sys2Proof.Machine
end

