-- ==== Sys2Proof/Machine/Crc.lean ====
section
/-! DEFINITION. CRC-32C and HMAC-SHA-256, the two published functions that the chain tags and the settings image use
(spec/00_scope.md, Glossary; spec/11_prompt_book.md R309). -/
namespace Sys2Proof.Machine
open Sys2Proof

/-- One bit of the reflected CRC-32C (Castagnoli polynomial, reflected form 0x82F63B78). -/
def crcBit (c : Word) : Word := if c.getLsbD 0 then (c >>> 1) ^^^ 0x82F63B78#32 else c >>> 1

/-- One byte of the CRC. -/
def crcByte (c : Word) (b : Byte) : Word :=
  (List.range 8).foldl (fun c _ => crcBit c) (c ^^^ b.setWidth 32)

/-- CRC-32C with reflected input and output, initial value and final XOR all ones (R309). -/
def crc32c (bs : List Byte) : Word := bs.foldl crcByte 0xFFFFFFFF#32 ^^^ 0xFFFFFFFF#32

/-- The bytes of a word, least significant first. -/
def wordBytes (w : Word) : List Byte :=
  [w.extractLsb' 0 8, w.extractLsb' 8 8, w.extractLsb' 16 8, w.extractLsb' 24 8]

/-- The word of four bytes, least significant first; missing bytes are 0. -/
def bytesWord (l : List Byte) : Word :=
  (l.getD 3 0) ++ (l.getD 2 0) ++ (l.getD 1 0) ++ (l.getD 0 0)

/-- The round constants of SHA-256. -/
def shaK : List Word :=
  [0x428A2F98#32, 0x71374491#32, 0xB5C0FBCF#32, 0xE9B5DBA5#32, 0x3956C25B#32, 0x59F111F1#32, 0x923F82A4#32, 0xAB1C5ED5#32,
   0xD807AA98#32, 0x12835B01#32, 0x243185BE#32, 0x550C7DC3#32, 0x72BE5D74#32, 0x80DEB1FE#32, 0x9BDC06A7#32, 0xC19BF174#32,
   0xE49B69C1#32, 0xEFBE4786#32, 0x0FC19DC6#32, 0x240CA1CC#32, 0x2DE92C6F#32, 0x4A7484AA#32, 0x5CB0A9DC#32, 0x76F988DA#32,
   0x983E5152#32, 0xA831C66D#32, 0xB00327C8#32, 0xBF597FC7#32, 0xC6E00BF3#32, 0xD5A79147#32, 0x06CA6351#32, 0x14292967#32,
   0x27B70A85#32, 0x2E1B2138#32, 0x4D2C6DFC#32, 0x53380D13#32, 0x650A7354#32, 0x766A0ABB#32, 0x81C2C92E#32, 0x92722C85#32,
   0xA2BFE8A1#32, 0xA81A664B#32, 0xC24B8B70#32, 0xC76C51A3#32, 0xD192E819#32, 0xD6990624#32, 0xF40E3585#32, 0x106AA070#32,
   0x19A4C116#32, 0x1E376C08#32, 0x2748774C#32, 0x34B0BCB5#32, 0x391C0CB3#32, 0x4ED8AA4A#32, 0x5B9CCA4F#32, 0x682E6FF3#32,
   0x748F82EE#32, 0x78A5636F#32, 0x84C87814#32, 0x8CC70208#32, 0x90BEFFFA#32, 0xA4506CEB#32, 0xBEF9A3F7#32, 0xC67178F2#32]

/-- The initial hash value of SHA-256. -/
def shaH0 : List Word :=
  [0x6A09E667#32, 0xBB67AE85#32, 0x3C6EF372#32, 0xA54FF53A#32,
   0x510E527F#32, 0x9B05688C#32, 0x1F83D9AB#32, 0x5BE0CD19#32]

/-- The message schedule grown to 64 words. -/
def shaSchedule : Nat → List Word → List Word
  | 0, w => w
  | n + 1, w =>
    let t := w.length
    let a := w.getD (t - 15) 0
    let b := w.getD (t - 2) 0
    let s0 := a.rotateRight 7 ^^^ a.rotateRight 18 ^^^ (a >>> 3)
    let s1 := b.rotateRight 17 ^^^ b.rotateRight 19 ^^^ (b >>> 10)
    shaSchedule n (w ++ [w.getD (t - 16) 0 + s0 + w.getD (t - 7) 0 + s1])

/-- One round: the eight working variables from a round constant and a schedule word. -/
def shaRound (v : List Word) (kw : Word × Word) : List Word :=
  let x := fun i => v.getD i 0
  let s1 := (x 4).rotateRight 6 ^^^ (x 4).rotateRight 11 ^^^ (x 4).rotateRight 25
  let ch := (x 4 &&& x 5) ^^^ (~~~(x 4) &&& x 6)
  let t1 := x 7 + s1 + ch + kw.1 + kw.2
  let s0 := (x 0).rotateRight 2 ^^^ (x 0).rotateRight 13 ^^^ (x 0).rotateRight 22
  let mj := (x 0 &&& x 1) ^^^ (x 0 &&& x 2) ^^^ (x 1 &&& x 2)
  [t1 + (s0 + mj), x 0, x 1, x 2, x 3 + t1, x 4, x 5, x 6]

/-- One block of 16 words. -/
def shaBlock (h : List Word) (blk : List Word) : List Word :=
  List.zipWith (· + ·) h ((shaK.zip (shaSchedule 48 blk)).foldl shaRound h)

/-- Big-endian words of a byte string. -/
def beWords : List Byte → List Word
  | a :: b :: c :: d :: l => (a ++ b ++ c ++ d) :: beWords l
  | _ => []

/-- The blocks of a message, at most `n`. -/
def shaBlocks : Nat → List Word → List (List Word)
  | 0, _ => []
  | n + 1, l => if l.isEmpty then [] else l.take 16 :: shaBlocks n (l.drop 16)

/-- The padding of a message. -/
def shaPad (m : List Byte) : List Byte :=
  let z := (119 - m.length % 64) % 64
  let n := BitVec.ofNat 64 (8 * m.length)
  m ++ [0x80#8] ++ List.replicate z 0 ++ (List.range 8).map (fun i => n.extractLsb' (8 * (7 - i)) 8)

/-- The bytes of SHA-256 of a message. -/
def sha256 (m : List Byte) : List Byte :=
  let w := beWords (shaPad m)
  ((shaBlocks (w.length / 16) w).foldl shaBlock shaH0).flatMap (fun x => (wordBytes x).reverse)

/-- The bytes of a 256-bit key, byte 0 first (spec/17 R463: word i holds key bytes 4i to 4i + 3). -/
def keyBytes (k : BitVec 256) : List Byte := (List.range 32).map (fun i => k.extractLsb' (8 * i) 8)

/-- HMAC-SHA-256 of a message under a 256-bit key. -/
def hmacSha256 (k : BitVec 256) (m : List Byte) : List Byte :=
  let kb := keyBytes k ++ List.replicate 32 0
  sha256 (kb.map (· ^^^ 0x5C#8) ++ sha256 (kb.map (· ^^^ 0x36#8) ++ m))

end Sys2Proof.Machine
end

