-- ==== Sys2Proof/Machine/Flags.lean ====
section
/-! DEFINITION. The flags of a page: interrupt causes, error causes, refusals, and the events and standing signals that
the error causes send to the fault collector (spec/10_fault_collector.md R278; spec/18_register_directory.md R471). -/
namespace Sys2Proof.Machine
open Sys2Proof

/-- A bit of a page's PG_INT_STAT is set. -/
def State.int (s : State) (page b : Nat) : State := s.orBits PG_INT_STAT page (2 ^ b)

/-- A write of the page is refused: PG_ERR.CFG_REFUSED sets, and no event is sent (R278). -/
def State.refuse (s : State) (page : Nat) : State := s.orBits PG_ERR page 1

/-- The page whose PG_ERR reports a source, for records and cause bits where no page is named (Table 18-5). -/
def srcPage (n : Nat) : Nat :=
  match n with
  | 0 => pgSYS | 1 => pgBOOT | 2 => pgSEC | 3 => pgIC | 4 => pgPB | 5 => pgSTM | 6 => pgHIF | 7 => pgDMA | 8 => pgRING
  | 9 => pgTIME | 10 => pgTDD | 11 => pgSYN | 12 => pgRFC | 13 => pgPROT | 14 => pgPROT | 15 => pgPROT | 16 => pgPROT
  | 17 => pgRFC | 18 => pgHK | 19 => pgTHM | 20 => pgTHM | 21 => pgPWM | 22 => pgTWT | 23 => pgAt pgTWC 0
  | 24 => pgAt pgTWC 1 | 25 => pgSMEM | 26 => pgCTE | 27 => pgFAB | 28 => pgLEDG | 29 => pgCNX | 30 => pgSLN | 31 => pgSPT
  | 32 => pgMEAS | 33 => pgCHF | 34 => pgRSM | 51 => pgRING | 52 => pgRFC | 53 => pgPB | 54 => pgSYS | 55 => pgTIME
  | _ => if n < 43 then pgAt pgCONVRX (n - 35) else pgAt pgCONVTX (n - 43)

/-- The source that a cause bit of a page raises (Table 18-5); none for CFG_REFUSED and bits without a cause. -/
def causeSrc (page b : Nat) : Option Nat :=
  if page = pgSYS then (if b = 1 then some 0 else if b = 2 then some 54 else none)
  else if page = pgFC then (if b = 1 then some 0 else none)
  else if page = pgPB then (if 1 ≤ b ∧ b ≤ 3 then some 4 else if 4 ≤ b ∧ b ≤ 6 then some 53 else none)
  else if page = pgSTM then (if 1 ≤ b ∧ b ≤ 7 then some 5 else none)
  else if page = pgHIF then (if 1 ≤ b ∧ b ≤ 4 then some 6 else none)
  else if page = pgRING then (if 1 ≤ b ∧ b ≤ 6 then some 8 else if b = 7 then some 51 else none)
  else if page = pgTIME then (if 1 ≤ b ∧ b ≤ 3 then some 9 else if b = 4 then some 55 else none)
  else if page = pgRFC then
    (if b = 1 ∨ b = 2 then some 12 else if b = 3 ∨ b = 4 then some 17 else if b = 5 then some 52 else none)
  else if page = pgPROT then
    (if b = 1 then some 13 else if b = 2 then some 14 else if b = 3 ∨ b = 4 then some 15 else if b = 5 then some 16 else none)
  else if page = pgTHM then (if b = 1 then some 19 else if b = 2 ∨ b = 3 then some 20 else none)
  else if page = pgBOOT ∨ page = pgSEC ∨ page = pgSMEM ∨ page = pgFAB ∨ page = pgCTE ∨ page = pgAt pgTWC 0
      ∨ page = pgAt pgTWC 1 then
    (if 1 ≤ b ∧ b ≤ 3 then
      some (if page = pgBOOT then 1 else if page = pgSEC then 2 else if page = pgSMEM then 25 else if page = pgFAB then 27
        else if page = pgCTE then 26 else if page = pgAt pgTWC 0 then 23 else 24) else none)
  else if page = pgIC ∨ page = pgDMA ∨ page = pgTDD ∨ page = pgSYN ∨ page = pgHK ∨ page = pgPWM ∨ page = pgTWT ∨ page = pgSPT
      ∨ page = pgMEAS ∨ page = pgRSM then
    (if 1 ≤ b ∧ b ≤ 2 then
      some (if page = pgIC then 3 else if page = pgDMA then 7 else if page = pgTDD then 10 else if page = pgSYN then 11
        else if page = pgHK then 18 else if page = pgPWM then 21 else if page = pgTWT then 22 else if page = pgSPT then 31
        else if page = pgMEAS then 32 else 34) else none)
  else if page = pgLEDG then (if b = 1 then some 28 else none)
  else if page = pgSLN then (if b = 1 then some 30 else none)
  else if page = pgCHF then (if b = 1 then some 33 else none)
  else if page = pgCNX then (if 1 ≤ b ∧ b ≤ 4 then some 29 else none)
  else if pgCONVRX ≤ page ∧ page < pgCONVRX + 0x8000 then
    (if 1 ≤ b ∧ b ≤ 3 then some (35 + (page - pgCONVRX) / 0x1000) else none)
  else if pgCONVTX ≤ page ∧ page < pgCONVTX + 0x8000 then
    (if 1 ≤ b ∧ b ≤ 3 then some (43 + (page - pgCONVTX) / 0x1000) else none)
  else none

/-- How many steps below its source's reset severity a cause acts (R282), by the fault tables of the chapters. -/
def causeDrop (page b : Nat) : Nat :=
  if page = pgPB then (if b = 3 ∨ b = 6 then 1 else 0)
  else if page = pgCTE then (if b = 2 then 1 else if b = 3 then 2 else 0)
  else if page = pgBOOT then (if b = 3 then 1 else 0)
  else if page = pgSEC then (if b = 1 ∨ b = 2 then 1 else if b = 3 then 2 else 0)
  else if page = pgSTM then (if b = 2 ∨ b = 6 ∨ b = 7 then 1 else 0)
  else if page = pgHIF then (if b = 1 ∨ b = 2 then 1 else 0)
  else if page = pgRING then (if b = 4 ∨ b = 5 then 1 else if b = 6 then 2 else 0)
  else if page = pgHK ∨ page = pgTWT then (if b = 2 then 1 else 0)
  else if page = pgAt pgTWC 0 ∨ page = pgAt pgTWC 1 ∨ page = pgSMEM then (if b = 3 then 1 else 0)
  else 0

/-- The mask bits of the causes of sources 13 to 17 and 20 read 0 (R278). -/
def maskable (page b : Nat) : Bool :=
  match causeSrc page b with
  | some n => !fixedSev n
  | none => true

/-- An event of a cause, or of a source without a cause, is delivered to the collector in the epoch now open. -/
def State.deliver (s : State) (e : FcEvent) : State := s.setFc fun f => { f with events := f.events ++ [e] }

/-- Page-status bits, by page and bit, are set. -/
def State.setInts (s : State) (is : List (Nat × Nat)) : State := is.foldl (fun (s : State) x => s.int x.1 x.2) s

/-- A block reports an occurrence of a cause (R278): its PG_ERR bit sets and, unless it is masked, an event of its source
is delivered for the ports concerned. The page-status bits that report it rise with the event's record (R41, R365), at once
where there is none. -/
def State.raiseInt (s : State) (is : List (Nat × Nat)) (page b : Nat) (ports : Ports) : State :=
  let s := s.orBits PG_ERR page (2 ^ b)
  match causeSrc page b with
  | none => s.setInts is
  | some n =>
    if maskable page b && s.tst PG_ERR_MASK page b then s.setInts is
    else s.deliver ⟨n, false, causeDrop page b, ports, b, page, is⟩

/-- A cause with no page-status bit of its own. -/
def State.raise (s : State) (page b : Nat) (ports : Ports) : State := s.raiseInt [] page b ports

/-- A recovery condition of a source is unmet: its standing signal is asserted (R278). -/
def State.stand (s : State) (n c : Nat) : State :=
  s.setFcSrc n fun x => { x with stand := x.stand ||| BitVec.ofNat 32 (2 ^ c) }

/-- A recovery condition is met. Where it was the last, the standing signal falls and the quiet period starts (R291). -/
def State.unstand (s : State) (n c : Nat) : State :=
  s.setFcSrc n fun x =>
    let m := x.stand &&& ~~~(BitVec.ofNat 32 (2 ^ c))
    if x.stand ≠ 0 ∧ m = 0 then { x with stand := m, quiet := s.now } else { x with stand := m }

/-- The standing signal of a source. -/
def State.standing (s : State) (n : Nat) : Bool := (s.fcSrc n).stand != 0

/-- The status bit of a source in FC_STATUS_LO or FC_STATUS_HI. -/
def State.status (s : State) (n : Nat) : Bool :=
  if n < 32 then s.tst FC_STATUS_LO 0 n else s.tst FC_STATUS_HI 0 (n - 32)

/-- The status bit of a source set or cleared. -/
def State.setStatus (s : State) (n : Nat) (v : Bool) : State :=
  if n < 32 then s.putBit FC_STATUS_LO 0 n v else s.putBit FC_STATUS_HI 0 (n - 32) v

/-- The sources whose bits FC_STATUS holds. -/
def State.statusList (s : State) : List Nat := (List.range 56).filter s.status

end Sys2Proof.Machine
end

