-- ==== Sys2Proof/Machine/Journal.lean ====
section
/-! DEFINITION. The recorder of the prompt book (spec/11_prompt_book.md): making, folding, admitting, numbering and
chaining records, and the filling of the book. Every block journals through `State.journal`. -/
namespace Sys2Proof.Machine
open Sys2Proof

def sevNOTE : Nat := 1
def sevMINOR : Nat := 2
def sevMAJOR : Nat := 3
def sevCURTAIN : Nat := 4

/-- Units of a partition are programmed: their codewords take the next write sequence numbers (R333). -/
def State.programmed (s : State) (part u k : Nat) : State :=
  s.setStm fun x =>
    { x with progs := (part, u, k, x.wrSeq) :: x.progs.filter (fun p => !(p.1 == part && p.2.1 == u && p.2.2.1 == k)),
             wrSeq := x.wrSeq + k }

/-- A field of `w` bits of a 64-bit payload, at bit `lo`. -/
def pf (lo w v : Nat) : Nat := v % 2 ^ w * 2 ^ lo

/-- The words 0 to 6 of a record (Table 11-1). -/
def Rec.words (r : Rec) : List Word :=
  [ r.seq.setWidth 32,
    BitVec.ofNat 32 (pf 16 16 r.code.toNat + pf 13 3 r.sev.toNat + pf 12 1 r.late.toNat + pf 11 1 r.forced.toNat
      + pf 10 1 r.uncal.toNat + r.seq.toNat / 2 ^ 32),
    r.frac, r.sec,
    BitVec.ofNat 32 (pf 22 10 r.source.toNat + r.rep.toNat),
    r.payload.setWidth 32, (r.payload >>> 32).setWidth 32 ]

/-- The message of a record's tag (R309): the previous tag and bytes 0 to 27. -/
def Rec.message (r : Rec) (prev : Word) : List Byte := wordBytes prev ++ r.words.flatMap wordBytes

/-- The chain tag of a record (R309), by HMAC-SHA-256 under the key of slot 0 or by CRC-32C. -/
def Rec.chainTag (r : Rec) (prev : Word) (key : Option (BitVec 256)) : Word :=
  match key with
  | some k => bytesWord ((hmacSha256 k (r.message prev)).take 4)
  | none => crc32c (r.message prev)

/-- The key of the chain: that of slot 0 in HMAC mode (R309). -/
def State.chainKey (s : State) : Option (BitVec 256) := if s.pb.hmac then s.boot.slot0 else none

/-- A record as its block observes the event now (R307). -/
def State.mkRec (s : State) (page code sev : Nat) (forced : Bool) (payload : Nat) : Rec :=
  { code := BitVec.ofNat 16 code, sev := BitVec.ofNat 3 sev, forced := forced, uncal := !s.on TIME_STAT_CAL_SET 0,
    frac := BitVec.ofNat 32 (todFrac s.time.idx), sec := BitVec.ofNat 32 s.time.sec,
    source := BitVec.ofNat 10 (page / 0x1000), payload := BitVec.ofNat 64 payload, issued := s.now }

/-- Records in staging whose record is closed, and so awaits confirmation. -/
def PbSt.closedCount (p : PbSt) : Nat := (p.staging.filter (·.closed)).length

/-- A flush hands every closed record of staging to the storage manager (R313). -/
def PbSt.flush (p : PbSt) : PbSt :=
  { p with staging := p.staging.map fun r => if r.closed then { r with handed := true } else r }

/-- The open record (R310): the last of staging while it has not closed. -/
def PbSt.openRec (p : PbSt) : Option Rec :=
  match p.staging.getLast? with
  | some r => if r.closed then none else some r
  | none => none

/-- The open record closes and takes its tag (R309, R310); 1,024 closed records start a flush (R313). -/
def State.closeOpen (s : State) : State :=
  match s.pb.openRec with
  | none => s
  | some r =>
    let t := r.chainTag s.pb.lastTag s.chainKey
    s.setPb fun p =>
      let p := { p with staging := p.staging.dropLast ++ [{ r with closed := true, tag := t }], lastTag := t }
      if 1024 ≤ p.closedCount then { p.flush with auditDue := true } else p

/-- A record becomes visible in staging, or counts as visible (R41, R300, R312): the interrupt bits that wait for it set,
[15:0] of the collector, [31:16] of the protection page and those of other pages, and FC_FF_SEQ takes its number where it
has one (R288). -/
def State.visible (s : State) (w : Waiting) (seq : Option (BitVec 40)) : State :=
  let s := (s.orBits PG_INT_STAT pgFC (w.ints.toNat % 2 ^ 16)).orBits PG_INT_STAT pgPROT (w.ints.toNat / 2 ^ 16)
  let s := s.setInts w.more
  match w.ff, seq with
  | true, some n => (s.wr FC_FF_SEQ_LO 0 n.toNat).wr FC_FF_SEQ_HI 0 (n.toNat / 2 ^ 32)
  | _, _ => s

/-- The run of numbers that a gap record names (Table 11-4). -/
def Rec.gap (r : Rec) : Option (BitVec 40 × Nat) :=
  if r.code = 2 ∧ r.source.toNat = pgPB / 0x1000 then some (r.payload.setWidth 40, (r.payload >>> 40).toNat) else none

/-- A record takes the next number and a staging place (R308, R312); with COMPAT it closes as it is issued (R311). A gap
record names its numbers (R42). -/
def State.number (s : State) (w : Waiting) (late : Bool) (area : Area) (slot : Nat) : State :=
  let n := s.pb.next
  let r := { w.r with seq := n, late := late, area := area, slot := slot, issued := s.now }
  let s := s.setPb fun p =>
    { p with staging := p.staging ++ [r], next := n + 1, gaps := p.gaps ++ r.gap.toList,
             reserve := if p.reserve ≤ n.toNat then (n.toNat / 2 ^ 20 + 1) * 2 ^ 20 else p.reserve }
  let s := s.visible w (some n)
  s.cond (s.on PB_CFG_COMPAT 0) State.closeOpen

/-- A record that is not issued: its drop counter increments, and it counts as visible (R312). -/
def State.dropRec (s : State) (w : Waiting) (cnt : Fld) : State :=
  ((s.satInc cnt 0).int pgPB 3).visible w none

/-- The tombstone of a displaced record (R315). -/
def Rec.tomb (r : Rec) : Tomb := ⟨r.seq, r.code, r.sev, r.sec, r.tag, r.slot⟩

/-- A record takes an apron slot (R314, R315). -/
def State.enterApron (s : State) (w : Waiting) (late : Bool) : State :=
  if s.pb.apronUsed < s.pb.apronCap then
    let k := s.pb.apronUsed
    let s := s.setPb fun p => { p with apronUsed := p.apronUsed + 1 }
    let s := s.cond (s.pb.apronUsed == s.pb.apronCap) fun s =>
      (s.setPb fun p => { p with apronFull := true }).int pgPB 1
    s.number w late .apron k
  else
    match (if w.r.sev.toNat = sevCURTAIN then
        s.pb.book.find? fun r => r.area == .apron && r.sev.toNat == sevMAJOR else none) with
    | some v =>
      let s := s.setPb fun p => { p with book := p.book.filter (fun r => r.seq != v.seq), tombs := p.tombs ++ [v.tomb] }
      let s := s.programmed 1 (v.slot / 256) 1
      ((s.satInc PB_DISP_CNT 0).int pgPB 2).number w late .apron v.slot
    | none => s.dropRec w PB_DROP_APRON

/-- A record is issued into the main area, or into the apron once the main area is full. Before the first format there
is no slot to take. The record that takes the last main slot is followed by the main-full record (R314). -/
def State.enter (s : State) (w : Waiting) (late : Bool) : State :=
  if s.pb.mainFull then s.enterApron w late
  else
    let s := s.number w late .main s.pb.mainUsed
    if s.pb.mainCap = 0 then s
    else
      let s := s.setPb fun p => { p with mainUsed := p.mainUsed + 1 }
      if s.pb.mainUsed < s.pb.mainCap then s
      else
        let last := s.pb.next - 1
        let s := s.setPb fun p => { p with mainFull := true }
        let r := s.mkRec pgPB 0x0007 sevMAJOR false last.toNat
        s.closeOpen.enterApron ⟨r, 0, false, [(pgPB, 0)]⟩ false

/-- NOTE and MINOR records. -/
def Rec.minor (r : Rec) : Bool := decide (r.sev.toNat ≤ sevMINOR)

/-- A record that does not fold: dropped, made to wait, or admitted (R312, R314). -/
def State.arrive (s : State) (w : Waiting) : State :=
  let s := s.closeOpen
  if w.r.minor && s.pb.mainFull then s.dropRec w PB_DROP_FULL
  else if w.r.minor && decide (7168 ≤ s.pb.staging.length) then s.dropRec w PB_DROP_STAGE
  else if !w.r.minor && (!s.pb.waiting.isEmpty || decide (8192 ≤ s.pb.staging.length)) then
    let s := s.setPb fun p => { p with waiting := p.waiting ++ [w] }
    let s := s.satInc PB_WAIT_CNT 0
    (s.raise pgPB 3 allPorts).stand 4 3
  else s.enter w false

/-- The open record and an arriving one are identical (R310). -/
def Rec.same (a b : Rec) : Bool :=
  a.code == b.code && a.source == b.source && a.sev == b.sev && a.late == b.late && a.forced == b.forced
    && a.uncal == b.uncal && a.payload == b.payload

/-- The rate-limit window that holds the present tick (R311). -/
def State.rlNow (s : State) : Nat := s.now / msT (max 1 (s.rd PB_CFG_RL_WIN 0))

/-- The end of a rate-limit window: one suppression record for each code suppressed in it (R311). -/
def State.rlEnd (s : State) : State :=
  let sup := s.pb.rlSupp
  let s := s.setPb fun p => { p with rlWin := s.rlNow, rlIssued := [], rlSupp := [] }
  if s.on PB_CFG_COMPAT 0 then
    sup.foldl (fun s (c, n) =>
      s.arrive ⟨s.mkRec pgPB 0x0006 sevNOTE false (pf 48 16 c + n % 2 ^ 32), 0, false, []⟩) s
  else s

/-- A record reaches the recorder after the restore (R310, R311). -/
def State.record (s : State) (w : Waiting) : State :=
  if s.on PB_CFG_COMPAT 0 then
    let s := s.cond (s.pb.rlWin != s.rlNow) State.rlEnd
    let c := w.r.code.toNat
    let k := s.pb.rlIssued.get 0 c
    if w.r.minor && decide (s.rd PB_CFG_RL_MAX 0 ≤ k) then
      let s := s.setPb fun p => { p with rlSupp := p.rlSupp.set c (p.rlSupp.get 0 c + 1) }
      s.dropRec w PB_DROP_RL
    else
      (s.setPb fun p => { p with rlIssued := p.rlIssued.set c (k + 1) }).arrive w
  else
    match s.pb.openRec with
    | none => s.arrive w
    | some o =>
      if o.same w.r && decide ((s.now : Int) < o.issued + (secT 60 : Nat)) then
        let o' := { o with rep := o.rep + 1 }
        let s := s.setPb fun p => { p with staging := p.staging.dropLast ++ [o'] }
        let s := s.visible w (some o.seq)
        s.cond (o'.rep.toNat == 0xFFFFF) State.closeOpen
      else s.arrive w

/-- What waits for the number of a held record, and what does not: the first-fault interrupt waits with FC_FF_SEQ
(R288, R451). -/
def Waiting.later (w : Waiting) : Waiting := { w with ints := if w.ff then 1 else 0, more := [] }
def Waiting.early (w : Waiting) : Waiting := { w with ints := if w.ff then w.ints &&& ~~~1 else w.ints }

/-- A record is held without a number (R451). -/
def State.holdRec (s : State) (w : Waiting) : State :=
  (s.setPb fun p => { p with held := p.held ++ [w.later] }).visible w.early none

/-- A record before the restore (R451): admitted to staging in arrival order without a number, under the limits of
R312, and visible at its admission. -/
def State.hold (s : State) (w : Waiting) : State :=
  let n := s.pb.staging.length + s.pb.held.length
  if w.r.minor && decide (7168 ≤ n) then s.dropRec w PB_DROP_STAGE
  else if !w.r.minor && (!s.pb.waiting.isEmpty || decide (8192 ≤ n)) then
    let s := s.setPb fun p => { p with waiting := p.waiting ++ [w] }
    ((s.satInc PB_WAIT_CNT 0).raise pgPB 3 allPorts).stand 4 3
  else
    s.holdRec w

/-- A record reaches the recorder (R310): counted after the power-fail warning (R316), held before the restore (R451), else
folded, dropped, made to wait or issued. -/
def State.handOne (s : State) (w : Waiting) : State :=
  if s.pb.pf then
    (s.setPb fun p => { p with pfEvents := p.pfEvents + 1, head := { p.head with events := p.head.events + 1 } }).visible
      w none
  else if !s.pb.restored then s.hold w
  else s.record w

/-! ### The journal audit (R29, R30, R42) -/

/-- The numbers that exist in the book, its tombstones and staging, and those that a gap record names or is about to
(R30, R42). -/
def PbSt.numbers (p : PbSt) : List Nat :=
  (p.book.map fun r => r.seq.toNat) ++ (p.tombs.map fun t => t.seq.toNat) ++ (p.staging.map fun r => r.seq.toNat)
    ++ (p.gaps ++ p.owed ++ (p.waiting ++ p.held).filterMap (·.r.gap)).flatMap fun (f, k) =>
      (List.range k).map fun i => f.toNat + i

/-- The first number of the book that does not exist exactly once, and whether it exists more than once. -/
def PbSt.violation (p : PbSt) : Option (Nat × Bool) :=
  let ns := p.numbers
  ((List.range (p.next.toNat - p.first.toNat)).map fun i => p.first.toNat + i).findSome? fun n =>
    match ns.count n with
    | 0 => some (n, false)
    | 1 => none
    | _ => some (n, true)

/-- The journal audit (R30, R313, Table 18-6), from the restore on, which brings the vault's records back. -/
def State.auditBook (s : State) : State :=
  let s := s.setPb fun p => { p with auditDue := false }
  match if s.pb.restored then s.pb.violation else none with
  | none => s
  | some (n, dup) =>
    let s := (s.raise pgPB 1 allPorts).stand 4 1
    s.handOne ⟨s.mkRec pgPB 0x0008 sevMAJOR false (pf 62 2 dup.toNat + n % 2 ^ 40), 0, false, []⟩

/-- The audit of a flush that 1,024 closed records have started. -/
def State.audited (s : State) : State := if s.pb.auditDue then s.auditBook else s

/-- A record is handed to the recorder. -/
def State.handRec (s : State) (w : Waiting) : State := (s.handOne w).audited

/-- A block journals an event of its page; the page-status bits `is` report it (R41). -/
def State.journalInt (s : State) (is : List (Nat × Nat)) (page code sev payload : Nat) : State :=
  s.handRec ⟨s.mkRec page code sev false payload, 0, false, is⟩

/-- A block journals an event of its page. -/
def State.journal (s : State) (page code sev payload : Nat) : State := s.journalInt [] page code sev payload

/-- Several records of one instant. -/
def State.journals (s : State) (l : List (Nat × Nat × Nat × Nat)) : State :=
  l.foldl (fun s (p, c, v, d) => s.journal p c v d) s

/-- The lowest number not confirmed on NAND (PB_CONF). -/
def PbSt.conf (p : PbSt) : BitVec 40 := match p.staging.head? with | some r => r.seq | none => p.next

end Sys2Proof.Machine
end

