-- ==== Sys2Proof/Machine/Signals.lean ====
section
/-! DEFINITION. Signals that many steps send to other blocks: the alert causes of the TWT port (R428) and the triggers of
the snapshot capture (R346, R347). -/
namespace Sys2Proof.Machine
open Sys2Proof

/-- An alert cause of Table 16-3: latched in byte 0x66 and pending, where it is enabled (R428). -/
def State.alert (s : State) (b : Nat) : State :=
  if s.tst TWT_ALERT_EN 0 b then
    (s.wr TWT_STAT_ALERT 0 1).setTwt fun t => { t with causes := t.causes ||| BitVec.ofNat 8 (2 ^ b) }
  else s

def capIDLE : Nat := 0
def capFILLING : Nat := 1
def capPOST : Nat := 2
def capWRITING : Nat := 3

/-- A trigger that is missed (R346). -/
def State.snapMiss (s : State) (b : Nat) : State :=
  (s.satInc STM_SNAP_MISS 0).journalInt [(pgSTM, 3)] pgSTM 0x0906 sevNOTE (2 ^ b)

/-- A trigger of the snapshot capture, where TRIG selects it (R346, R347). -/
def State.snapTrig (s : State) (b : Nat) : State :=
  if !s.tst STM_CAP_CFG_TRIG 0 b then s
  else
    let st := s.rd STM_CAP_STAT 0
    if st = capIDLE then s
    else if st = capFILLING then
      let free := match s.stm.capLastAt with
        | none => true
        | some t => decide (t + msT (s.rd STM_CAP_CFG_HOLDOFF 0) ≤ s.now)
      if free then
        (s.wr STM_CAP_STAT 0 capPOST).setStm fun x =>
          { x with capTrigAt := s.now, capSec := s.time.sec, capIdx := s.time.idx,
                   capSeq := if b = 1 ∧ s.pb.restored = true then s.pb.next - 1 else BitVec.allOnes 40, capLastAt := some s.now, capCauses := BitVec.ofNat 4 (2 ^ b), capFirst := b }
      else s.snapMiss b
    else if st = capPOST then
      s.setStm fun x =>
        { x with capCauses := x.capCauses ||| BitVec.ofNat 4 (2 ^ b),
                 capFirst := if s.now / 16 = x.capTrigAt / 16 then min x.capFirst b else x.capFirst }
    else s.snapMiss b

/-- The trigger that the completion of a Curtain cause gives (R347). -/
def State.snapCurtain (s : State) (b : Nat) : State :=
  if b ≤ 6 then s.snapTrig 0 else if b = 7 ∨ b = 8 then s.snapTrig 3 else s

end Sys2Proof.Machine
end

