-- ==== Sys2Proof/Machine/RingSend.lean ====
section
/-! DEFINITION. Sending over the cascade ring (spec/14_cascade_ring.md R382 to R389): routes, credits and reliable delivery.
Port 0 is RING_UP, port 1 RING_DN. -/
namespace Sys2Proof.Machine
open Sys2Proof

def State.devId (s : State) : Nat := s.rd SYS_STATE_DEV_ID 0
def State.vertex (s : State) : Bool := s.on SYS_STATE_VERTEX 0

/-- A device is present in the ring (RING_PRES). -/
def State.present (s : State) (d : Nat) : Bool :=
  if d < 32 then s.tst RING_PRES_LO 0 d else s.tst RING_PRES_HI 0 (d - 32)

def State.deliv (s : State) (d vc : Nat) : Deliv := s.ring.deliv.get {} (4 * d + vc)
def State.setDeliv (s : State) (d vc : Nat) (f : Deliv → Deliv) : State :=
  s.setRing fun r => { r with deliv := r.deliv.set (4 * d + vc) (f (s.deliv d vc)) }
/-- The number after the last tunnelled write to a device, those that wait included. -/
def Deliv.total (x : Deliv) : Nat :=
  x.next + (x.waiting.filter fun b => match b with | .write _ => true | _ => false).length
/-- Every frame before `n` has been acknowledged. -/
def Deliv.acked (x : Deliv) (n : Nat) : Bool :=
  decide (n ≤ (match x.unacked with | f :: _ => f.seq | [] => x.next))

def rENUM : Nat := 0
def rSINGLE : Nat := 1
def rRING : Nat := 2
def rLINE : Nat := 3
def rSPLIT : Nat := 4

def State.ringState (s : State) : Nat := s.rd RING_STAT_STATE 0
def State.ringPos (s : State) : Nat := s.rd RING_STAT_POS 0
def State.ringSize (s : State) : Nat := max 1 (s.rd RING_STAT_SIZE 0)
def State.rportUp (s : State) (p : Nat) : Bool := s.rd RING_PORT_STAT_STATE p == 2
/-- The device ID of every device (Table 14-2). -/
def everyDev : Nat := 0x3F

/-! ### Frames and credits (R382, R385, R386) -/

def State.vc (s : State) (p v : Nat) : Vc := s.ring.vcs.get {} (4 * p + v)
def State.setVc (s : State) (p v : Nat) (f : Vc → Vc) : State :=
  s.setRing fun r => { r with vcs := r.vcs.set (4 * p + v) (f (s.vc p v)) }

/-- A frame leaves on its port against a credit, waits for one, or is dropped where the port is down (R393). -/
def State.emit (s : State) (f : Frame) : State :=
  if !s.rportUp f.port then s.satInc RING_DROP_CNT f.vc
  else
    let v := s.vc f.port f.vc
    if v.credits = 0 ∨ (s.ring.queue.any fun g => g.port == f.port && g.vc == f.vc) = true then
      s.setRing fun r => { r with queue := r.queue ++ [f] }
    else (s.setVc f.port f.vc fun v => { v with credits := v.credits - 1 }).setRing fun r => { r with out := r.out ++ [f] }

/-- The device `hops` arcs on toward RING_DN (`dir` 0) or RING_UP (R108). -/
def State.devAlong (s : State) (dir hops : Nat) : Nat :=
  let n := s.ringSize
  s.rd RING_MAP_ID (if dir = 0 then (s.ringPos + hops) % n else (s.ringPos + n - hops % n) % n)
/-- The port that a direction leaves by. -/
def dirPort (dir : Nat) : Nat := if dir = 0 then 1 else 0

/-- The position of a device, from RING_MAP. -/
def State.posOf (s : State) (d : Nat) : Nat :=
  ((List.range 64).find? fun q => s.on RING_MAP_VALID q && s.rd RING_MAP_ID q == d).getD 0

/-- The port toward a device: downstream while the ring is whole, and otherwise the way that crosses no broken arc
(R384, R393). -/
def State.portTo (s : State) (d : Nat) : Nat :=
  let cut := if s.vertex then s.ring.broken.any fun b => decide (b < s.posOf d)
    else s.ring.broken.any fun b => decide (s.ringPos ≤ b)
  if cut then 0 else 1

/-- A frame that is sent once. -/
def State.sendOnce (s : State) (d vc : Nat) (b : RingBody) : State := s.emit ⟨s.portTo d, vc, d, 0, b⟩

/-- A register read goes out once, with the number of the next write: every earlier one has to be applied before it is
answered (R39, R390). DESIGN CHOICE (log 100): a read takes no number of its own. -/
def State.sendRead (s : State) (d off : Nat) : State := s.emit ⟨s.portTo d, 0, d, (s.deliv d 0).next, .read off⟩

/-- A frame under reliable delivery (R389). -/
def State.sendRel (s : State) (d vc : Nat) (b : RingBody) : State :=
  let x := s.deliv d vc
  let f : Frame := ⟨s.portTo d, vc, d, x.next, b⟩
  (s.setDeliv d vc fun x =>
    { x with next := x.next + 1, unacked := x.unacked ++ [f],
             lastProg := if x.unacked.isEmpty then s.now else x.lastProg }).emit f

end Sys2Proof.Machine
end

