-- ==== Sys2Proof/Machine/Curtain.lean ====
section
/-! DEFINITION. Lanes and ports as the other chapters see them, the front-end lines of a port, and the Curtain: requests,
completion, the clearing of causes, lifts and the back-off (spec/05_network_protection.md R153 to R163;
spec/07_radio_sequencing.md R204, R205). -/
namespace Sys2Proof.Machine
open Sys2Proof

/-! ### Lanes -/

/-- The sample period of a rate code in timebase ticks (Table 2-1). -/
def ratePeriod (r : Nat) : Nat := 512 / 2 ^ (r % 8)

def LaneSt.rx (l : LaneSt) : Nat := LANE_CFG_RX_PORT.of l.cfg
def LaneSt.tx (l : LaneSt) : Nat := LANE_CFG_TX_PORT.of l.cfg
def LaneSt.rate (l : LaneSt) : Nat := LANE_CFG_RATE.of l.cfg
def LaneSt.tdd (l : LaneSt) : Bool := LANE_CFG_TDD.of l.cfg == 1
def LaneSt.txEn (l : LaneSt) : Bool := LANE_CFG_TX_EN.of l.cfg == 1
def LaneSt.period (l : LaneSt) : Nat := ratePeriod l.rate
/-- The lane is enabled: accepted and not stopped. -/
def LaneSt.on (l : LaneSt) : Bool := l.phase != .off
/-- The lane runs. -/
def LaneSt.active (l : LaneSt) : Bool := match l.phase with | .running _ => true | _ => false
/-- An enabled lane that transmits. -/
def LaneSt.repeating (l : LaneSt) : Bool := l.on && l.txEn

/-- Lanes 0 to 15 are downlink lanes. -/
def downlink (n : Nat) : Bool := decide (n < 16)

/-- The lanes that are enabled. -/
def State.lanesOn (s : State) : List Nat := (List.range 32).filter fun n => (s.lane n).on
/-- The repeating lanes of a transmit port. -/
def State.txLanes (s : State) (m : Nat) : List Nat :=
  (List.range 32).filter fun n => (s.lane n).repeating && (s.lane n).tx == m
/-- The lanes of a port, by its receive or its transmit converter. -/
def State.portLanes (s : State) (m : Nat) : List Nat :=
  (List.range 32).filter fun n =>
    let l := s.lane n
    l.on && (l.rx == m || (l.txEn && l.tx == m))
/-- A TDD port carries a TDD lane (R203). -/
def State.tddPort (s : State) (m : Nat) : Bool := (s.portLanes m).any fun n => (s.lane n).tdd

/-- The number of the lane sample that is current: sample n is taken at tick n × P (R50). -/
def State.sampleNo (s : State) (n : Nat) : Nat := s.now / (s.lane n).period

/-- The tick of the next lane sample of a lane whose number is a multiple of `k`, strictly after now (R505). -/
def State.nextSample (s : State) (n k : Nat) : Nat := s.nextMul ((s.lane n).period * k)

/-- Time goes on to the next lane sample of a lane whose number is a multiple of `k`, for its event `e`. -/
def State.toSample (s : State) (e n k : Nat) : State := s.toMul e 0 ((s.lane n).period * k)

/-! ### The device state -/

def State.devState (s : State) : Nat := s.rd SYS_STATE_DEV_STATE 0
def State.performing (s : State) : Bool := !s.sys.dark && s.devState == 2
/-- REHEARSAL or INTERVAL. -/
def State.offStage (s : State) : Bool := !s.sys.dark && s.devState != 2

/-! ### Causes and holds -/

/-- The field of bit `b` of CUR_CAUSE_m, for the causes [10:0] (Table 5-11). -/
def causeFld (b : Nat) : Fld :=
  match b with
  | 0 => CUR_CAUSE_OSC | 1 => CUR_CAUSE_NR | 2 => CUR_CAUSE_EMISSION | 3 => CUR_CAUSE_OVERDRIVE | 4 => CUR_CAUSE_DONOR
  | 5 => CUR_CAUSE_TXTO | 6 => CUR_CAUSE_THERM | 7 => CUR_CAUSE_OTHER | 8 => CUR_CAUSE_HOST | 9 => CUR_CAUSE_LATCH
  | _ => CUR_CAUSE_STATE

def cOSC : Nat := 0
def cNR : Nat := 1
def cEMISSION : Nat := 2
def cOVERDRIVE : Nat := 3
def cDONOR : Nat := 4
def cTXTO : Nat := 5
def cTHERM : Nat := 6
def cOTHER : Nat := 7
def cHOST : Nat := 8
def cLATCH : Nat := 9
def cSTATE : Nat := 10

/-- A cause stands on a port. -/
def State.cause (s : State) (m b : Nat) : Bool := s.on (causeFld b) m
/-- The causes standing on a port. -/
def State.causes (s : State) (m : Nat) : List Nat := (List.range 11).filter (s.cause m)
/-- The source of a cause of CUR_CAUSE, for the sources that have causes of their own (R283). -/
def causeOwner (b : Nat) : Option Nat :=
  match b with
  | 0 => some 13 | 1 => some 14 | 2 => some 15 | 3 => some 15 | 4 => some 16 | 5 => some 17 | 6 => some 20 | _ => none
/-- The causes of a source that has causes of its own. -/
def ownCauses (n : Nat) : List Nat := (List.range 7).filter fun b => causeOwner b == some n

/-- A converter of the port calibrates. -/
def State.calibrating (s : State) (m : Nat) : Bool := (s.cv m).cal || (s.cv (8 + m)).cal

def stOFF : Nat := 0
def stCAL : Nat := 1
def stRX : Nat := 2
def stTX : Nat := 3
def stTURN : Nat := 4

def State.portState (s : State) (m : Nat) : Nat := s.rd RFC_PORT_STAT_STATE m

/-- The conditions of a probing port (R204). -/
def State.probing (s : State) (m : Nat) : Bool :=
  s.portState m == stCAL && s.offStage && s.rd RFC_PORT_CFG_TARGET m == 2 && s.on RFC_PORT_CFG_PROBE_EN m
    && !s.calibrating m

/-- A synthesiser hold (R206). -/
def State.synHold (s : State) (m : Nat) : Bool := (s.rport m).synA || (s.rport m).synB
/-- A coexistence hold (R220, R221). -/
def State.coexHold (s : State) (m : Nat) : Bool := (s.rport m).coexIn || (s.rport m).coexUse || (s.rport m).coexWait

/-- A hold stands on a port (R205). -/
def State.held (s : State) (m : Nat) : Bool :=
  s.portState m == stOFF || (s.portState m == stCAL && !s.probing m) || s.synHold m || s.coexHold m

/-- A Curtain cause stands that the port obeys: every cause, but STATE while the port is probing (R204). -/
def State.curtained (s : State) (m : Nat) : Bool :=
  (s.causes m).any fun b => !(b == cSTATE && s.probing m)

/-- A port behind the Curtain, or under a hold, for the canceller (R156, R205). -/
def State.behind (s : State) (m : Nat) : Bool := s.curtained m || s.held m || (s.cport m).lift != .none

/-- CUR_STAT.DOWN of a port: the Curtain is complete and not lifted, or a hold is in force (R153, R205). -/
def State.down (s : State) (m : Nat) : Bool := s.tst CUR_STAT_DOWN 0 m || s.held m

/-! ### The front-end lines (Table 7-1, Table 7-3) -/

/-- The port is in a transmit use, or an FDD port transmits. -/
def State.transmitting (s : State) (m : Nat) : Bool :=
  if s.tddPort m then
    match (s.rport m).turn with
    | some _ => false
    | none => s.portState m == stTX || (s.probing m && (s.rport m).use == .tx)
  else s.portState m == stTX || s.probing m

/-- The Curtain network holds PAEN inactive: a cause, a hold, or a lift that has not come to it (R153, R158). -/
def State.paBlocked (s : State) (m : Nat) : Bool :=
  s.curtained m || s.held m || (s.cport m).lift == .due || (s.cport m).lift == .waitTurn || (s.rport m).lineFault

/-- PAEN_m is driven active. -/
def State.paen (s : State) (m : Nat) : Bool :=
  !s.paBlocked m &&
    match (s.rport m).turn with
    | some t => if t.toTx then decide (3 ≤ t.next) else decide (t.next ≤ 1)
    | none => s.transmitting m || (match (s.rport m).settle with | some t => decide (t ≤ s.now) | none => false)

/-- The DAC of the port is held at code 0 by the Curtain network. -/
def State.muted (s : State) (m : Nat) : Bool := s.curtained m || s.held m || (s.cport m).lift != .none

/-- The DAC words of the port are not zero by the sequencer: no mute, no PA settling, no turn-round, and a state that
transmits; those of a TDD port are zero between its transmit uses (R209). -/
def State.dacLive (s : State) (m : Nat) : Bool :=
  !s.muted m && (s.rport m).settle == none && s.transmitting m && (!s.tddPort m || (s.rport m).use == .tx)
    && !(s.rport m).lineFault

/-- TRSW_m is driven to the transmit position. -/
def State.trsw (s : State) (m : Nat) : Bool :=
  if s.portState m == stOFF || (s.rport m).lineFault then false
  else if s.tddPort m then
    match (s.rport m).turn with
    | some t => if t.toTx then decide (2 ≤ t.next) else decide (t.next ≤ 2)
    | none => s.transmitting m
  else s.on RFC_PORT_CFG_FDD_POS m

/-- LNAB_m is driven to enable the LNA. -/
def State.lnab (s : State) (m : Nat) : Bool :=
  if s.portState m == stOFF || (s.rport m).lineFault || (s.portState m == stCAL && s.calibrating m) then false
  else if (s.rport m).coexIn && s.on RFC_PORT_CFG_RX_PROT m then false
  else if s.tddPort m then
    match (s.rport m).turn with
    | some t => if t.toTx then false else decide (4 ≤ t.next)
    | none => !s.transmitting m
  else true

/-- The ports of a condition as a bit mask. -/
def State.portMask (s : State) (f : State → Nat → Bool) : Nat :=
  (List.range 8).foldl (fun a m => if f s m then a + 2 ^ m else a) 0

/-! ### What the senders of reference streams tell (R107, R112) -/

def State.stx (s : State) (k : Nat) : StxSt := s.cnx.stx.get {} k
def State.setStx (s : State) (k : Nat) (f : StxSt → StxSt) : State :=
  s.setCnx fun c => { c with stx := c.stx.set k (f (c.stx.get {} k)) }

/-- A stream-samples frame of transmit slot `k` (R107), with the words `ws` up to lane sample `no`, the level of the probe
in them, and the sender's Curtain state. The receiver measures the delay. -/
def State.streamSend (s : State) (k : Nat) (ws : List (BitVec 24)) (no : Nat) (level : Option Int) (down : Bool) : State :=
  let c := (s.stx k).cfg
  let n := CNX_STX_CFG_LANE.of c
  let l := s.lane n
  let dir := CNX_STX_CFG_DIR.of c
  let hops := CNX_STX_CFG_HOPS.of c
  s.emit ⟨dirPort dir, 1, s.devAlong dir hops, 0,
    .stream { port := dir == 1, hops := hops - 1, dir := dir, dev := s.devId, slot := k,
              seed := BitVec.ofNat 32 (1 + n + 32 * s.devId), level := level, chf := l.chf, rate := l.rate,
              shift := CNX_STX_CFG_SHIFT.of c, curtain := down, lat := 0, no := no, words := ws }⟩

/-- The active streams of the lanes that transmit at a port send the Curtain's fall at once (R112). -/
def State.streamCurtain (s : State) (m : Nat) : State :=
  (List.range 8).foldl (fun (s : State) k =>
    let l := s.lane (CNX_STX_CFG_LANE.of (s.stx k).cfg)
    if s.on CNX_STX_STAT_ACTIVE k && l.tx == m then s.streamSend k [] l.refNo none true else s) s

/-! ### Requests -/

/-- The back-off cap of a lane ends (R162): BACKOFF clears and CUR PG_INT_STAT bit [4] sets. -/
def State.endCap (s : State) (n : Nat) : State :=
  match (s.lane n).cap with
  | none => s
  | some _ => ((s.setLane n fun l => { l with cap := none, capNext := none }).wr PROT_LANE_STAT_BACKOFF n 0).int pgCUR 4

/-- The LIFTING bit of a port, in both registers. -/
def State.setLifting (s : State) (m : Nat) (v : Bool) : State :=
  (s.putBit CUR_STAT_LIFTING 0 m v).wr CUR_CAUSE_LIFTING m v.toNat

/-- The shared ports. -/
def State.shared (s : State) : List Nat := (List.range 8).filter fun m => s.on RFC_PORT_CFG_COEX m

/-- COEX_REQ_OUT falls once no shared port transmits or waits to, nor a transmit use is announced by it (R221). DESIGN CHOICE
(log 101): a port that strict mode makes wait keeps the request. -/
def State.coexRelease (s : State) : State :=
  if s.shared.any fun m =>
      s.paen m || (s.rport m).announced || (s.rport m).entry || (s.rport m).coexWait || (s.rport m).settle.isSome then s
  else s.wr COEX_STAT_REQ_OUT 0 0

/-- The port is behind a complete Curtain, or a hold, as a request falls on it. -/
def State.coveredAt (s : State) (m : Nat) : Bool :=
  let lift := (s.cport m).lift
  (s.tst CUR_STAT_DOWN 0 m && (lift == .none || lift == .due || lift == .waitTurn)) || s.held m

/-- A request falls on one port (R155, R157, R159). The void lift, where there was one, is reported. DESIGN CHOICE
(log 86): a request that voids a lift already settling or turning clears CUR_STAT.DOWN until the Curtain is complete
again. -/
def State.requestPort (s : State) (m b : Nat) (wide forced : Bool) : State :=
  let fresh := (s.causes m).isEmpty
  let complete := s.coveredAt m
  let had := s.cause m b
  let bit := BitVec.ofNat 16 (2 ^ b)
  let mates := match causeOwner b with | some n => ownCauses n | none => [b]
  let s := s.wr (causeFld b) m 1
  let s := s.setCport m fun c =>
    { c with
      lift := .none
      completing := c.completing || !complete
      quiet := mates.foldl (fun q k => q.set k s.now) c.quiet
      forced := if !forced then c.forced &&& ~~~bit else if had then c.forced else c.forced ||| bit
      wide := if wide then c.wide ||| bit else c.wide }
  let s := s.setLifting m false
  let s := if complete then s.putBit CUR_STAT_DOWN 0 m true else s.putBit CUR_STAT_DOWN 0 m false
  let s := (s.txLanes m).foldl State.endCap s
  let s := s.cond fresh fun s => s.satInc CUR_EPI_CNT 0
  let s := s.cond complete fun s => s.snapCurtain b
  s.cond (fresh && complete) fun s => s.alert 4

/-- A request for ports, with cause `b`. `wide`: its own scope is every port. `forced`: by forced events alone. A lift
in progress that it voids and an episode that it begins are written to the prompt book (R159, R163, Table 18-6). -/
def State.request (s : State) (ports : Ports) (b : Nat) (wide forced : Bool) : State :=
  let ms := portList ports
  let voids := ms.filter fun m => (s.cport m).lift != .none && !s.held m
  let fresh := ms.filter fun m => (s.causes m).isEmpty
  let is := if fresh.any fun m => s.coveredAt m then [(pgCUR, 0)] else []
  let s := ms.foldl (fun s m => s.requestPort m b wide forced) s
  let s := (fresh.foldl State.streamCurtain s).coexRelease
  let s := s.cond (!voids.isEmpty) fun s => s.journal pgCUR 0x0202 sevNOTE (pf 56 8 (portsOf voids).toNat)
  s.cond (!fresh.isEmpty) fun s =>
    s.journalInt is pgCUR 0x0200 sevNOTE (pf 56 8 (portsOf fresh).toNat + pf 45 11 (2 ^ b))

/-- The Curtain becomes complete on a port (R153): its quiet periods start, and so do those of the sources that wait
for it (R157, R291). -/
def State.completePort (s : State) (m : Nat) : State :=
  let s := s.putBit CUR_STAT_DOWN 0 m true
  let s := s.setCport m fun c =>
    { c with completing := false, quiet := (s.causes m).foldl (fun q b => q.set b s.now) c.quiet }
  let s := (List.range 56).foldl (fun s n =>
    if (s.fcSrc n).await.getLsbD m then
      s.setFcSrc n fun x => { x with await := x.await &&& ~~~portBit m, quiet := s.now }
    else s) s
  let s := (s.causes m).foldl State.snapCurtain s
  (s.int pgCUR 0).alert 4

/-! ### Clearing causes and lifts -/

/-- A cause clears on a port (R157, R160). With the last one the port lifts, where the device performs (R158). -/
def State.clearCause (s : State) (m b : Nat) : State :=
  if s.cause m b then
    let s := s.wr (causeFld b) m 0
    let s := s.setCport m fun c =>
      { c with counted := c.counted || decide (b ≤ 3), forced := c.forced &&& ~~~(BitVec.ofNat 16 (2 ^ b)),
               wide := c.wide &&& ~~~(BitVec.ofNat 16 (2 ^ b)) }
    if (s.causes m).isEmpty && (s.performing || b == cSTATE) then
      (s.setCport m fun c => { c with lift := .due }).setLifting m true
    else s
  else s

/-- A cause clears on each port of a set. -/
def State.clearCauses (s : State) (ports : Ports) (b : Nat) : State :=
  (portList ports).foldl (fun s m => s.clearCause m b) s

/-- The OTHER cause of a port clears when no source covers the port any longer (R283). -/
def State.otherStands (s : State) (m : Nat) : Bool :=
  s.statusList.any fun n => !fixedSev n && (s.fcSrc n).ports.getLsbD m

def State.refreshOther (s : State) : State :=
  (List.range 8).foldl (fun s m => if s.otherStands m then s else s.clearCause m cOTHER) s

/-- Holds that stand now suspend the lifts of their ports (R158). -/
def State.suspendLifts (s : State) : State :=
  (List.range 8).foldl (fun s m =>
    if s.held m && (s.cport m).lift != .none then s.setCport m fun c => { c with lift := .due } else s) s

/-- Counted lifts of the last hour (R160). -/
def State.recHr (s : State) (m : Nat) : Nat :=
  ((s.cport m).hist.filter fun t => s.now ≤ t + secT 3600 && t < s.now).length

/-- A lift starts on a port (R158, R160): the recovery limit latches it, or an FDD port asserts PAEN and settles, or a
TDD port waits for its turn-round. -/
def State.liftStart (s : State) (m : Nat) : State :=
  if (s.cport m).lift == .due && (s.causes m).isEmpty && !s.held m then
    if (s.cport m).counted && decide (s.rd PROT_REC 0 ≤ s.recHr m) then
      let k := s.recHr m
      let s := (s.wr CUR_CAUSE_LATCH m 1).putBit CUR_STAT_LATCHED 0 m true
      let s := (s.setCport m fun c => { c with lift := .none }).setLifting m false
      let s := (s.satInc CUR_EPI_CNT 0).journalInt [(pgCUR, 2)] pgCUR 0x0203 sevMAJOR (pf 56 8 m + pf 48 8 k)
      s.journal pgCUR 0x0200 sevNOTE (pf 56 8 (2 ^ m) + pf 45 11 (2 ^ cLATCH))
    else
      s.setCport m fun c => { c with lift := if s.tddPort m then .waitTurn else .settle s.now }
  else s

/-- The back-off cap starts on a repeating lane (R162): LIMIT less 384, not below 0. -/
def State.startCap (s : State) (n : Nat) : State :=
  let c := s.rd LANE_GAIN_LIMIT n - 384
  let s := s.setLane n fun l =>
    { l with cap := some (c * tps), capAt := s.now, capRate := s.rd PROT_RAMP 0, capNext := none }
  (s.wr PROT_LANE_STAT_BACKOFF n 1).wr PROT_LANE_STAT_CAP n c

/-- The DAC of a lifting port is released and the lift is complete (R158, R160, R162). -/
def State.liftDone (s : State) (m : Nat) : State :=
  let counted := (s.cport m).counted
  let s := s.setCport m fun c =>
    { c with lift := .none, counted := false,
             hist := if counted then (c.hist.filter fun t => s.now ≤ t + secT 3600) ++ [s.now] else c.hist }
  let s := (s.setLifting m false).putBit CUR_STAT_DOWN 0 m false
  let s := (s.txLanes m).foldl State.startCap s
  s.journalInt [(pgCUR, 1)] pgCUR 0x0201 sevNOTE (pf 56 8 (2 ^ m) + pf 55 1 counted.toNat)

/-- The instant at which an FDD port that settles from `t` releases its DAC: PA_SETTLE after it, at the next lane-sample
boundary of each of its lanes, at once without a lane (R158, R210). DESIGN CHOICE (log 87): a port has one DAC, and it is
released at the latest of those boundaries. -/
def State.releaseAt (s : State) (m t : Nat) : Nat :=
  let e := t + nsT (s.rd CUR_CFG 0 * 100)
  (s.txLanes m).foldl (fun a n => max a ((e / (s.lane n).period + 1) * (s.lane n).period)) e

/-! ### Quiet periods -/

/-- The quiet period of a source by FC_SEV_n.QSEL; none where there is no automatic recovery (R291). -/
def State.quietLen (s : State) (n : Nat) : Option Nat :=
  match s.rd FC_SEV_QSEL n with
  | 0 => some (secT 10) | 1 => some (msT 100) | 2 => some (secT 1) | 3 => some (secT 60) | 4 => some (secT 600)
  | 5 => some (secT 3600) | _ => none

/-- SYS_STATE.CUR_LATCHED. -/
def State.anyLatched (s : State) : Bool := s.rd CUR_STAT_LATCHED 0 != 0

/-- CUR_STAT.DEVICE (Table 5-11). -/
def State.curDevice (s : State) : Bool :=
  s.on CUR_HOST_ALL 0 || (List.range 8).any (fun m =>
    s.cause m cSTATE || (s.causes m).any fun b => decide (b < 7) && (s.cport m).wide.getLsbD b)
  || s.statusList.any fun n => !fixedSev n && (s.fcSrc n).wide && (s.fcSrc n).ports != 0

end Sys2Proof.Machine
end

