-- ==== Sys2Proof/Machine/Lane.lean ====
section
/-! DEFINITION. The clock plan, the enable checks and the latency of a lane (spec/02_lanes_and_converters.md). -/
namespace Sys2Proof.Machine
open Sys2Proof

/-! ### Clock plan (R45 to R48) -/

/-- 512 × NUM / (DEN × 2^c): the converter rate over the lane rate 1.92 × 2^c, as numerator and denominator. -/
def overRate (y : SynSt) (c : Nat) : Nat × Nat := (512 * y.num, y.den * 2 ^ c)

/-- The factors M × 2^k with M from 4 to 7 and k from 0 to 12, largest first. -/
def factors : List (Nat × Nat) :=
  (List.range 13).reverse.flatMap fun k => [(7, k), (6, k), (5, k), (4, k)]

/-- The decomposition of the receive decimation factor (R46). -/
def decim (y : SynSt) (c : Nat) : Option (Nat × Nat) :=
  let (p, q) := overRate y c
  if q = 0 then none else factors.find? fun (m, k) => m * 2 ^ k * q == p

/-- The transmit interpolation factor (R47): the largest one at which Ft is at least Fl. -/
def interp (y : SynSt) (c : Nat) : Option (Nat × Nat) :=
  let (p, q) := overRate y c
  if q = 0 then none else factors.find? fun (m, k) => decide (m * 2 ^ k * q ≤ p)

/-- A converter rate in MS/s. -/
def synRate (y : SynSt) : Rat := if y.den = 0 then 0 else (98304 : Rat) / 100 * y.num / y.den
/-- A lane rate in MS/s (Table 2-1). -/
def laneRate (c : Nat) : Rat := (192 : Rat) / 100 * (2 ^ c : Nat)
/-- The occupied bandwidth of a ROM entry in MHz (R48, R63). -/
def occBw (c idx : Nat) : Rat := laneRate c * (idx % 64 + 1 : Nat) / 80
/-- Taps of a ROM entry (Table 2-4). -/
def chfTaps (idx : Nat) : Nat :=
  match idx / 64 % 8 with
  | 0 => 11 | 1 => 23 | 2 => 47 | 3 => 63 | 4 => 95 | 5 => 159 | 6 => 255 | _ => 383

/-- A signed 48-bit frequency word as a fraction of the converter rate (R51). -/
def ftwFrac (f : BitVec 48) : Rat := (f.toInt : Rat) / (2 ^ 48 : Nat)

def ratAbs (x : Rat) : Rat := if x < 0 then -x else x

/-- The guards of R51 for a frequency word, a converter rate and half an occupied bandwidth. -/
def guards (f : BitVec 48) (fs h : Rat) : Bool :=
  let a := ratAbs (ftwFrac f) * fs
  decide ((2 : Rat) / 100 * fs ≤ a - h) && decide (a + h ≤ (48 : Rat) / 100 * fs)

/-! ### The configuration of a lane that an enable would take -/

structure LaneCfg where
  cfg : Word
  rxFtw : BitVec 48
  txFtw : BitVec 48
  chf : Nat
  rxPhase : BitVec 16
  txPhase : BitVec 16
  deriving DecidableEq, Repr

def laneFlds : List Fld := [LANE_CFG_EN, LANE_CFG_TX_EN, LANE_CFG_TDD, LANE_CFG_RX_PORT, LANE_CFG_TX_PORT, LANE_CFG_RATE]

/-- The registers of a lane as written, shadow included (R59). -/
def State.laneCfg (s : State) (n : Nat) : LaneCfg :=
  { cfg := s.rdWord laneFlds n
    rxFtw := BitVec.ofNat 48 (s.rd LANE_RX_FTW_HI n * 2 ^ 32 + s.rd LANE_RX_FTW_LO n)
    txFtw := BitVec.ofNat 48 (s.rd LANE_TX_FTW_HI n * 2 ^ 32 + s.rd LANE_TX_FTW_LO n)
    chf := s.rd CHF_SEL n
    rxPhase := BitVec.ofNat 16 (s.rd LANE_RX_PHASE n)
    txPhase := BitVec.ofNat 16 (s.rd LANE_TX_PHASE n) }

/-- The configuration in use of an enabled lane. -/
def LaneSt.use (l : LaneSt) : LaneCfg := ⟨l.cfg, l.rxFtw, l.txFtw, l.chf, l.rxPhase, l.txPhase⟩

def LaneCfg.rate (c : LaneCfg) : Nat := LANE_CFG_RATE.of c.cfg
def LaneCfg.rx (c : LaneCfg) : Nat := LANE_CFG_RX_PORT.of c.cfg
def LaneCfg.tx (c : LaneCfg) : Nat := LANE_CFG_TX_PORT.of c.cfg
def LaneCfg.tdd (c : LaneCfg) : Bool := LANE_CFG_TDD.of c.cfg == 1
def LaneCfg.txEn (c : LaneCfg) : Bool := LANE_CFG_TX_EN.of c.cfg == 1

/-! ### Latency (R69) -/

/-- The latency without spotlight in µs, for a delay in units of 2^-20 lane samples. -/
def State.latBase (s : State) (c : LaneCfg) (d : Nat) : Rat :=
  let fr := synRate s.rfc.synA
  let ft := synRate s.rfc.synB
  let fl := laneRate c.rate
  match decim s.rfc.synA c.rate, interp s.rfc.synB c.rate with
  | some (m, _), some (mt, kt) =>
    let fti := ft / (mt * 2 ^ kt : Nat)
    64 / fr + (5 / fl - (m : Rat) / fr) + 8 / 10 + ((chfTaps c.chf - 1) / 2 : Nat) / fl
      + ((15 : Rat) / 2 + (d : Rat) / (2 ^ 20 : Nat)) / fl + (5 / fti - (mt : Rat) / ft) + 96 / ft
  | _, _ => 0

/-- L_spot by resolution in µs (Table 4-1). -/
def spotLat (res : Nat) : Rat :=
  match res with
  | 0 => 140 | 1 => 72 | 2 => 37 | 3 => (125 : Rat) / 10 | 4 => (64 : Rat) / 10 | 5 => (33 : Rat) / 10
  | 6 => (17 : Rat) / 10 | _ => 0

/-- The latency that spotlight adds to a lane while it gates (R121). -/
def State.laneSpot (s : State) (n : Nat) : Rat :=
  if s.on SPT_LANE_STAT_GATING (n - 16) && decide (16 ≤ n) then spotLat (s.rd SPT_LANE_CFG_RES (n - 16)) else 0

/-- The latency of an enabled lane in µs. -/
def State.lat (s : State) (n : Nat) : Rat :=
  if (s.lane n).on then s.latBase (s.lane n).use (s.lane n).delay + s.laneSpot n else 0

/-- LANE_LAT follows the latency (R69): picoseconds, ties to even. -/
def State.setLat (s : State) (n : Nat) : State := s.wr LANE_LAT n (roundRat (s.lat n * 1000000)).toNat

/-! ### Enable checks (Table 2-2) -/

/-- The side that a direction needs at its receive converter; the transmit converter needs the other (R16). -/
def rxSide (n : Nat) : Nat := if downlink n then 0 else 1

/-- The error code of the first check of Table 2-2 that fails, none where the lane passes. -/
def State.laneErr (s : State) (n : Nat) (c : LaneCfg) : Option Nat :=
  let fr := synRate s.rfc.synA
  let ft := synRate s.rfc.synB
  let h := occBw c.rate c.chf / 2
  let ta := ftwFrac c.txFtw * ft
  let mixed := s.on CONVTX_CFG_MODE c.tx
  let fout := if mixed then ft + ta else ta
  let bw := (s.lanesOn.filter fun k => downlink k == downlink n && k != n).foldl
    (fun a k => a + occBw (s.lane k).rate (s.lane k).chf) (occBw c.rate c.chf)
  if s.rd CONVRX_CFG_SIDE c.rx ≠ rxSide n ∨ s.rd CONVTX_CFG_SIDE c.tx ≠ 1 - rxSide n then some 1
  else if !(s.on CONVRX_CFG_EN c.rx && s.on CONVRX_STAT_CAL_DONE c.rx && s.on CONVTX_CFG_EN c.tx
      && s.on CONVTX_STAT_CAL_DONE c.tx) then some 2
  else if (decim s.rfc.synA c.rate).isNone then some 3
  else if !guards c.rxFtw fr h then some 4
  else if (decide (0 < ta) && mixed) || (decide (ta < 0) && !mixed) || !guards c.txFtw ft h || decide (7200 < fout + h)
    || (interp s.rfc.synB c.rate).isNone then some 5
  else if 1600 < bw then some 6
  else if c.txEn && decide (4 < s.latBase c (s.rd RSM_DELAY n)) then some 7
  else none

/-- A suspect mark starts on a lane (R53), or its end is no longer known: SUSPECT, SUSPECT_STICKY and the lane's interrupt
(Table 2-20). -/
def State.markSuspect (s : State) (n : Nat) : State :=
  let was := (s.lane n).suspect
  let s := (s.setLane n fun l => { l with suspect := true, suspectEnds := none }).wr LANE_STAT_SUSPECT n 1
  s.cond (!was) fun s => (s.wr LANE_STAT_SUSPECT_STICKY n 1).int (pgAt pgLANE n) 2

/-- What a lane keeps from its enable on (R58, R59), with its stages empty. -/
def LaneSt.accept (l : LaneSt) (c : LaneCfg) (psel : Bool) (start delay : Nat) : LaneSt :=
  { l with phase := .accepted start, cfg := c.cfg, rxFtw := c.rxFtw, txFtw := c.txFtw, chf := c.chf,
           rxPhase := c.rxPhase, txPhase := c.txPhase, psel := psel, delay := delay, delayNext := none, request := 0,
           rsmAcc := 0, chain := {}, line := [], ref := [], probes := [], resid := Iq.zero, osc := {}, blockPow := 0,
           blockN := 0, intPow := 0, intN := 0, thermWait := false, suspect := false, suspectEnds := none }

/-- A lane that passed its checks is accepted (R58): its configuration comes into use, and it starts at the next lane
sample whose number is a multiple of 64. Its ledger, saturation count and gain start anew (R66, R263). On a port in
over-range its samples are suspect from the first (R53). -/
def State.laneAccept (s : State) (n : Nat) (c : LaneCfg) (psel : Bool) : State :=
  let p := ratePeriod c.rate
  let start := (s.now / (p * 64) + 1) * 64
  let s := s.setLane n fun l => l.accept c psel start (s.rd RSM_DELAY n)
  let s := ((s.wr LANE_CFG_EN n 1).wr LANE_STAT_ACTIVE n 1).wr LANE_STAT_ERR_CODE n 0
  let s := (((s.wr LANE_SAT_CNT n 0).wr LANE_GAIN_APPLIED n 0).wr RSM_STAT n 0).wr LANE_STAT_SUSPECT n 0
  let s := s.cond (s.on CONVRX_STAT_OVR_NOW c.rx) fun s => s.markSuspect n
  let (d, i) := match decim s.rfc.synA c.rate, interp s.rfc.synB c.rate with
    | some (m, k), some (mt, kt) => (m * 2 ^ k, mt * 2 ^ kt)
    | _, _ => (0, 0)
  let (pn, pq) := overRate s.rfc.synB c.rate
  let f := (roundDiv ((pn * 2 ^ 48 : Nat) - (pq * i * 2 ^ 48 : Nat)) (max 1 (pq * i))).toNat
  let s := ((s.wr LANE_DEC_D n d).wr LANE_DEC_I n i).wr RSM_RATIO_LO n f
  let s := (s.wr RSM_RATIO_HI n (f / 2 ^ 32)).setFab fun b => { b with ledgers := b.ledgers.set n { next := start } }
  s.setLat n

/-- The transmit converter words up to a tick. -/
def State.wordsAt (s : State) (t : Nat) : Nat := (synRate s.rfc.synB * t * 100 / 98304).floor.toNat

/-- The first lane sample of a lane (R58): both NCO phases start from the words latched at its enable (R59), and its first
converter word leaves 96 words after the sample's instant (the last term of R69). -/
def State.laneBegin (s : State) (n k : Nat) : State :=
  s.setLane n fun l =>
    { l with phase := .running k, rxAcc := BitVec.ofNat 48 (l.rxPhase.toNat * 2 ^ 32),
             txAcc := BitVec.ofNat 48 (l.txPhase.toNat * 2 ^ 32),
             chain := { l.chain with dacNo := s.wordsAt (k * l.period) + 97 },
             osc := { cfg := s.rdWord [PROT_OSC_LINE, PROT_OSC_RHO, PROT_OSC_GROW] 0,
                      spanCfg := s.rdWord [PROT_OSC_LINE, PROT_OSC_RHO, PROT_OSC_GROW] 0 } }

/-- The codes reported of a refused enable (R58). -/
def State.laneRefuse (s : State) (n e : Nat) : State :=
  ((s.wr LANE_CFG_EN n 0).wr LANE_STAT_ERR_CODE n e).refuse (pgAt pgLANE n)

end Sys2Proof.Machine
end

