-- ==== Sys2Proof/Machine/Chain.lean ====
section
/-! DEFINITION. The sample stages of a lane whose filters the specification describes by their delays
(spec/02_lanes_and_converters.md, Down-conversion and up-conversion, Channel filter, Resampler, Table 2-3): mixing,
decimation, the channel filter, the resampler, interpolation and up-conversion. Each stage rounds to nearest even and then
saturates (R5, R62); the second member of a result counts the words that saturated. -/
namespace Sys2Proof.Machine
open Sys2Proof

/-- A sum of products in units of 2^-17 reduced to a lane word. -/
def reduce17 (a : Int × Int) : Iq × Nat :=
  let re := roundDiv a.1 (2 ^ 17)
  let im := roundDiv a.2 (2 ^ 17)
  (iqOf re im, (iqSat re im).toNat)

/-- The products of coefficients and words, summed exactly. -/
def macc (c : Nat → Int) (ws : List Iq) : Int × Int :=
  (ws.zipIdx).foldl (fun (a : Int × Int) (x : Iq × Nat) => (a.1 + c x.2 * x.1.re, a.2 + c x.2 * x.1.im)) (0, 0)

/-- A filter of `n` taps over its line, newest word first. -/
def firOut (c : Nat → Int) (n : Nat) (line : List Iq) : Iq × Nat := reduce17 (macc c (line.take n))

/-! ### Down-conversion -/

/-- A converter word after the receive NCO: 14 bits to the 18 of the lane, turned back by the accumulator's phase. -/
def mixWord (acc : BitVec 48) (w : BitVec 14) : Iq × Nat :=
  let c := iqBits (Config.nco acc)
  reduce17 (w.toInt * 16 * c.re, -(w.toInt * 16 * c.im))

/-- Every converter word of a lane sample after the NCO, oldest first. -/
def mixWords (ftw : BitVec 48) : BitVec 48 → List (BitVec 14) → List Iq × Nat
  | _, [] => ([], 0)
  | acc, w :: ws =>
    let (x, k) := mixWord acc w
    let (xs, j) := mixWords ftw (acc + ftw) ws
    (x :: xs, k + j)

/-- A decimation stage: each word enters the line, and every `m`-th one gives an output. -/
def decStage (c : Nat → Int) (n m : Nat) : Nat → List Iq → List Iq → List Iq × List Iq × Nat
  | _, line, [] => ([], line, 0)
  | i, line, x :: xs =>
    let line := (x :: line).take n
    if (i + 1) % m = 0 then
      let (y, k) := firOut c n line
      let (ys, line, j) := decStage c n m 0 line xs
      (y :: ys, line, k + j)
    else decStage c n m (i + 1) line xs

/-- A symmetric response of `n` taps by the distance from its ends. -/
def symTap (f : Nat → BitVec 20) (n i : Nat) : Int := (f (min i (n - 1 - i))).toInt

/-- The receive side after the NCO (R46): the polyphase decimator by M, of group delay 4 × M words and so 8 × M + 1 taps,
and k halfband stages of group delay 5 and so 11 taps. -/
def decimate (m k : Nat) (lines : List (List Iq)) (xs : List Iq) : List Iq × List (List Iq) × Nat :=
  let (ys, l, n) := decStage (symTap (Config.decTap m) (8 * m + 1)) (8 * m + 1) m 0 (lines.getD 0 []) xs
  (List.range k).foldl (fun (a : List Iq × List (List Iq) × Nat) i =>
    let (ys, l, n) := decStage (symTap Config.hbTap 11) 11 2 0 (lines.getD (i + 1) []) a.1
    (ys, a.2.1 ++ [l], a.2.2 + n)) (ys, [l], n)

/-- A lane sample from its D converter words (R46, R50): missing words are 0, and words beyond D are not taken. -/
def downConvert (m k : Nat) (ftw acc : BitVec 48) (lines : List (List Iq)) (ws : List (BitVec 14)) :
    Iq × List (List Iq) × Nat :=
  let d := m * 2 ^ k
  let (xs, a) := mixWords ftw acc ((ws ++ List.replicate (d - ws.length) 0).take d)
  let (ys, ls, b) := decimate m k lines xs
  (ys.headD Iq.zero, ls, a + b)

/-! ### The channel filter (R63, R64) -/

/-- A coefficient of an entry by its place from an end of the symmetric response. The centre tap makes the sum of the N
coefficients 2^17 but for the rounding of each, which is at most a half (R64). -/
def chfTap (idx i : Nat) : Int :=
  let n := chfTaps idx
  let side := fun j => (Config.chfRom idx j).toInt
  if i < (n - 1) / 2 then side i
  else
    let dev := (Config.chfDev idx).toInt % n - (n - 1) / 2
    sx 18 (ux 18 (2 ^ 17 + dev - 2 * (List.range ((n - 1) / 2)).foldl (fun a j => a + side j) 0))

/-- A coefficient by its tap. -/
def chfCoef (idx i : Nat) : Int := chfTap idx (min i (chfTaps idx - 1 - i))

/-- The channel filter over its line, newest word first: 2^17 is unit gain. -/
def chfOut (idx : Nat) (line : List Iq) : Iq × Nat := firOut (chfCoef idx) (chfTaps idx) line

/-! ### The resampler and up-conversion (R47, R67, R68) -/

/-- One output of the resampler at `num / den` lane samples after the newest word, less the delay `d` in units of 2^-20: the
phase of 1,024 that it falls in, over 16 taps. -/
def resampleAt (num den d : Nat) (line : List Iq) : Iq × Nat :=
  let t : Int := num * 2 ^ 20 - d * den
  let (t, line) := if t < 0 then (t + den * 2 ^ 20, line.drop 1) else (t, line)
  let ph := (t / (den * 2 ^ 10)).toNat % 1024
  firOut (fun i => (Config.rsmRom ph i).toInt) 16 line

/-- The outputs that fall before the next lane sample: at `pos`, and then each `step` on, in units of 1 / `den` lane sample
(R67). At most two do, since Ft is below 1.25 × Fl (R47). The second member is the place of the next one after that sample. -/
def resample (den step d : Nat) (line : List Iq) : Nat → Nat → List Iq × Nat × Nat
  | 0, pos => ([], pos - den, 0)
  | f + 1, pos =>
    if pos < den then
      let (y, k) := resampleAt pos den d line
      let (ys, p, j) := resample den step d line f (pos + step)
      (y :: ys, p, k + j)
    else ([], pos - den, 0)

/-- An interpolation stage by `m`: `n` taps at the output rate, each output from every `m`-th of them. -/
def upStage (c : Nat → Int) (n m : Nat) (line xs : List Iq) : List Iq × List Iq × Nat :=
  xs.foldl (fun (a : List Iq × List Iq × Nat) x =>
    let line := (x :: a.2.1).take (n / m + 1)
    let (ys, k) := (List.range m).foldl (fun (b : List Iq × Nat) p =>
      let (y, k) := reduce17 (macc (fun i => if p + m * i < n then c (p + m * i) else 0) line)
      (b.1 ++ [y], b.2 + k)) ([], 0)
    (a.1 ++ ys, line, a.2.2 + k)) ([], line, 0)

/-- The transmit side before the NCO: kt halfband interpolators, then the interpolator by Mt. -/
def interpolate (m k : Nat) (lines : List (List Iq)) (xs : List Iq) : List Iq × List (List Iq) × Nat :=
  let (ys, ls, n) := (List.range k).foldl (fun (a : List Iq × List (List Iq) × Nat) i =>
    let (ys, l, n) := upStage (symTap Config.hbUpTap 11) 11 2 (lines.getD i []) a.1
    (ys, a.2.1 ++ [l], a.2.2 + n)) (xs, [], 0)
  let (ys, l, j) := upStage (symTap (Config.upTap m) (8 * m + 1)) (8 * m + 1) m (lines.getD k []) ys
  (ys, ls ++ [l], n + j)

/-- The words that a lane adds to its transmit port: the real part after the transmit NCO, oldest first. -/
def upConvert (ftw : BitVec 48) : BitVec 48 → List Iq → List Int × BitVec 48 × Nat
  | acc, [] => ([], acc, 0)
  | acc, x :: xs =>
    let c := iqBits (Config.nco acc)
    let v := roundDiv (x.re * c.re - x.im * c.im) (2 ^ 17)
    let (vs, a, k) := upConvert ftw (acc + ftw) xs
    (satS 18 v :: vs, a, k + (satHit 18 v).toNat)

/-! ### The transmit port (R56) -/

/-- Words added to the port's sums from place `at_` on. -/
def addWords (sums : List Int) (at_ : Nat) (ws : List Int) : List Int :=
  let n := max sums.length (at_ + ws.length)
  (List.range n).map fun i => sums.getD i 0 + (if at_ ≤ i then ws.getD (i - at_) 0 else 0)

/-- The converter word of a port sum: BACKOFF in 0.25 dB, 18 bits to 16, rounded and saturated. -/
def dacWord (backoff : Nat) (sum : Int) : Int × Bool :=
  let v := roundDiv (sum * linAmp (-(backoff * 16384 : Int))) (2 ^ 42)
  (satS 16 v, satHit 16 v)

end Sys2Proof.Machine
end

