-- ==== Sys2Proof/Machine/Pattern.lean ====
section
/-! DEFINITION. The TDD patterns (spec/06_time_reference.md R194, R195): banks, entries, and the receive intervals of a
lane. -/
namespace Sys2Proof.Machine
open Sys2Proof

/-- Ticks of a 10 ms frame (R170). -/
def frameT : Nat := 9830400

/-- The period of a bank by its code, in ticks (R194). -/
def perT (code : Nat) : Nat :=
  match code with
  | 0 => 491520 | 1 => 614400 | 2 => 983040 | 3 => 1228800 | 4 => 1966080 | 5 => 2457600 | 6 => 4915200 | _ => 9830400

/-- The used entries of bank `i` = 2 × pattern + bank: DIR and START (R194). -/
def State.tddEntries (s : State) (i : Nat) : List (Nat × Nat) :=
  (((List.range 32).map fun e => (s.rd TDD_ENT_DIR (64 * i + e), s.rd TDD_ENT_START (64 * i + e)))).takeWhile fun x => x.1 != 0

/-- The intervals of a list of entries: DIR, start and end. -/
def tddIntervals (per : Nat) : List (Nat × Nat) → List (Nat × Nat × Nat)
  | [] => []
  | [(d, a)] => [(d, a, per)]
  | (d, a) :: (d', a') :: t => (d, a, a') :: tddIntervals per ((d', a') :: t)

/-- The bank in use of a pattern, as 2 × pattern + bank; none before the first swap (R197). -/
def State.actBank (s : State) (x : Nat) : Option Nat :=
  if s.tst TDD_STAT_LOADED 0 x then some (2 * x + (s.tst TDD_STAT_ACT_BANK 0 x).toNat) else none

/-- The pattern of a lane. -/
def LaneSt.pat (l : LaneSt) : Nat := l.psel.toNat

/-- A use's interval at a port: transmit or receive, its start in the frame and its length, in ticks. -/
structure PortInt where
  tx : Bool
  a : Rat
  len : Rat

def ratFloor (x : Rat) : Int := x.num.fdiv x.den
/-- A rational modulo the frame. -/
def modF (x : Rat) : Rat := x - (frameT : Rat) * ratFloor (x / (frameT : Rat))

/-- The receive intervals of a lane over a frame, under a choice of banks (R195). -/
def State.laneInts (s : State) (bank : Nat → Option Nat) (n : Nat) : List (Rat × Rat) :=
  match bank (s.lane n).pat with
  | none => []
  | some i =>
    let per := perT (s.rd TDD_PER i)
    let dir := if downlink n then 1 else 2
    let ofs : Int := if downlink n then s.rdS TDD_DLOFS i else s.rdS TDD_ULOFS i
    ((tddIntervals per (s.tddEntries i)).filter fun x => x.1 == dir).flatMap fun (_, a, b) =>
      (List.range (frameT / per)).map fun k => (modF ((a : Int) + ofs + (k * per : Nat) : Int), ((b - a : Nat) : Rat))

/-- An instant of the frame lies in an interval, given by its start and length. -/
def inInt (k : Rat × Rat) (t : Rat) : Bool := decide (modF (t - k.1) < k.2)

/-- The direction of a TDD lane is active: the tick lies in one of its own receive intervals (R195; R126, freeze cause 6).
Other lanes are always active. -/
def State.laneLive (s : State) (n : Nat) : Bool :=
  !(s.lane n).tdd || (s.laneInts s.actBank n).any fun k => inInt k ((s.time.idx % frameT : Nat) : Rat)

end Sys2Proof.Machine
end

