-- ==== Sys2Proof/Machine/Cnx.lean ====
section
/-! DEFINITION. The canceller and Sightline (spec/03_feedback_cancellation.md): the tap pool, paths, searches, adaptation,
estimates, the gain ceiling and the reference streams. -/
namespace Sys2Proof.Machine
open Sys2Proof

/-! ### Fields of a path's configuration -/

def pathFlds : List Fld :=
  [CNX_PATH_CFG_EN, CNX_PATH_CFG_FREEZE, CNX_PATH_CFG_AUTO, CNX_PATH_CFG_SPARE, CNX_PATH_CFG_REMOTE,
   CNX_PATH_CFG_PROBE_ADAPT, CNX_PATH_CFG_SRC, CNX_PATH_CFG_DENSE, CNX_PATH_CFG_SPARSE, CNX_PATH_CFG_STEP,
   CNX_PATH_CFG_UPD]

def PathSt.remote (x : PathSt) : Bool := CNX_PATH_CFG_REMOTE.of x.cfg == 1
def PathSt.src (x : PathSt) : Nat := CNX_PATH_CFG_SRC.of x.cfg
def PathSt.dense (x : PathSt) : Nat := CNX_PATH_CFG_DENSE.of x.cfg
def PathSt.sparse (x : PathSt) : Nat := CNX_PATH_CFG_SPARSE.of x.cfg
def PathSt.spare (x : PathSt) : Nat := CNX_PATH_CFG_SPARE.of x.cfg
def PathSt.step (x : PathSt) : Nat := CNX_PATH_CFG_STEP.of x.cfg
def PathSt.upd (x : PathSt) : Nat := CNX_PATH_CFG_UPD.of x.cfg
def PathSt.probeAdapt (x : PathSt) : Bool := CNX_PATH_CFG_PROBE_ADAPT.of x.cfg == 1

/-- The victim lane of a path (R78). -/
def victim (p : Nat) : Nat := p / 4
/-- The paths of a lane. -/
def lanePaths (n : Nat) : List Nat := (List.range 4).map fun k => 4 * n + k
/-- The enabled paths. -/
def State.pathsOn (s : State) : List Nat := (List.range 128).filter fun p => (s.path p).on

/-- The state of a receive stream slot, and a change of it. -/
def State.srx (s : State) (k : Nat) : SrxSt := s.cnx.srx.get {} k
def State.setSrx (s : State) (k : Nat) (f : SrxSt → SrxSt) : State :=
  s.setCnx fun c => { c with srx := c.srx.set k (f (c.srx.get {} k)) }
def State.slnPath (s : State) (p : Nat) : SlnPath := s.cnx.sln.get {} p
def State.setSln (s : State) (p : Nat) (f : SlnPath → SlnPath) : State :=
  s.setCnx fun c => { c with sln := c.sln.set p (f (c.sln.get {} p)) }

/-! ### The tap pool (R84 to R87) -/

/-- The address of tap `t` in the tap window; its I part, with the Q part four bytes on. -/
def tapAddr (t : Nat) : Nat := Region.taps.lo + 8 * t

def State.tap (s : State) (t : Nat) : Int × Int :=
  (sx 24 (s.ld (tapAddr t)).toNat, sx 24 (s.ld (tapAddr t + 4)).toNat)

def State.setTap (s : State) (t : Nat) (w : Int × Int) : State :=
  (s.stIn .taps (8 * t) (BitVec.ofNat 32 (ux 24 (satS 24 w.1)))).stIn .taps (8 * t + 4)
    (BitVec.ofNat 32 (ux 24 (satS 24 w.2)))

/-- The taps of a cluster set to zero. -/
def State.zeroCluster (s : State) (c : Nat) : State :=
  (List.range 32).foldl (fun s j => s.setTap (32 * c + j) (0, 0)) s

def State.clustersOf (s : State) (p : Nat) : List Nat :=
  (List.range 2048).filter fun c => (s.clu c).used && (s.clu c).path == p

/-- The clusters of a path that have a position. -/
def State.placedOf (s : State) (p : Nat) : List Nat := (s.clustersOf p).filter fun c => (s.clu c).placed

def State.freeClusters (s : State) : List Nat := (List.range 2048).filter fun c => !(s.clu c).used

/-- The greatest tap position of a lane rate (R82): ceil(10 µs × Fl) + 15. -/
def posMax (rate : Nat) : Int := ((192 * 2 ^ rate + 9) / 10 : Nat) + 15

/-- The position of a cluster clipped into the range of R82. -/
def clipPos (rate : Nat) (p : Int) : Int := max (-16) (min p (posMax rate - 31))

/-- The base of a dense group of `d` clusters, clipped so that the group stays contiguous inside R82 where it fits. -/
def clipBase (rate d : Nat) (base : Int) : Int := max (-16) (min base (posMax rate + 1 - 32 * d))

/-- Active taps times the lane rate over all enabled paths, in units of 61.44 × 10^6 CMAC/s: one cluster at 1.92 MS/s
(R85). -/
def State.cnxLoad (s : State) : Nat :=
  s.pathsOn.foldl (fun a p =>
    let x := s.path p
    a + (x.dense + x.sparse + x.spare) * 2 ^ (s.lane (victim p)).rate) 0

/-- CNX_LOAD: the load in units of 10^9 CMAC/s, rounded up (R85). -/
def State.setLoad (s : State) : State := s.wr CNX_LOAD 0 ((s.cnxLoad * 6144 + 99999) / 100000)

/-- The law of the taps, audited at every allocation and release (R29, Table 1-11): a violation raises source 29, which
then stands until a reset, with a record of both counts (R30, R115). -/
def State.tapAudit (s : State) : State :=
  let (u, f) := (s.cnx.tapsUsed, s.cnx.tapsFree)
  if u + f = 65536 then s
  else ((s.raise pgCNX 4 allPorts).stand 29 4).journal pgCNX 0x0700 sevMAJOR (pf 17 17 u + pf 0 17 f)

/-- Taps counted from free to allocated. -/
def State.countTaps (s : State) (free used : Nat) : State :=
  (s.setCnx fun c => { c with tapsUsed := c.tapsUsed + used - free, tapsFree := c.tapsFree + free - used }).tapAudit

/-- One cluster is allocated to a path, its count moved in the same step (R33, R84). A spare has no position (R91). -/
def State.allocCluster (s : State) (p : Nat) (r : Role) (pos : Int) : State :=
  match s.freeClusters with
  | [] => s
  | c :: _ =>
    ((s.zeroCluster c).setClu c fun _ => { used := true, role := r, path := p, pos := pos, placed := r != .spare }).countTaps 0 32

/-- The clusters of a path are released one by one, and their taps zeroed (R33, R84). -/
def State.releaseClusters (s : State) (p : Nat) : State :=
  (s.clustersOf p).foldl (fun s c => ((s.zeroCluster c).setClu c fun _ => {}).countTaps 32 0) s

/-! ### Levels of couplings -/

/-- The energy of the taps of a list of clusters, in units of 2^-40. -/
def State.tapEnergy (s : State) (cs : List Nat) : Nat :=
  cs.foldl (fun a c => (List.range 32).foldl (fun a j =>
    let w := s.tap (32 * c + j)
    a + (w.1 * w.1 + w.2 * w.2).toNat) a) 0

/-- A power in units of 2^-40 as a level; none for no power. -/
def levelOf (p : Nat) : Option Int := if p = 0 then none else some (dBpow p (2 ^ 40))

/-- The higher of two levels, of which one may be absent. -/
def maxLevel : Option Int → Option Int → Option Int
  | some a, some b => some (max a b)
  | some a, none => some a
  | none, b => b

/-! ### The gain ceiling (R102, R103) -/

def gMin : Int := -48 * 65536
/-- +15.984 dB, the highest gain code. -/
def gMax : Int := 4095 * 1024 - 48 * 65536

/-- The code of R66 of a gain, rounded under R5. -/
def gainCode (g : Int) : Nat := (max 0 (min 4095 (roundDiv (g + 48 * 65536) 1024))).toNat

/-- X_k as the ceiling takes it: 0 while the path's stream is lost (R111). -/
def State.pathX (s : State) (p : Nat) : Int :=
  let x := s.path p
  if x.remote && s.on CNX_SRX_STAT_LOST x.src then 0 else x.xk

/-- The couplings in the sum of a lane (R102): level and cancellation. -/
def State.couplings (s : State) (n : Nat) : List (Int × Int) :=
  ((lanePaths n).filterMap fun p =>
    if (s.path p).on then (s.path p).ck.map fun c => (c, s.pathX p) else none)
  ++ (s.cnx.retained.filter fun r => r.victim == n).map fun r => (r.c, 0)

/-- A lane's isolation I and the first term I + X of its target ceiling (R102); none with nothing in the sum. -/
def State.isoSum (s : State) (n : Nat) : Option (Int × Int) :=
  match s.couplings n with
  | [] => none
  | l =>
    let c := l.foldl (fun a k => a + linNoise k.1) 0
    let r := l.foldl (fun a k => a + linNoise (k.1 - k.2)) 0
    some (-(dBNoise c), -(dBNoise r))

/-- MARGIN in units of 2^-16 dB. -/
def State.margin (s : State) : Int := (s.rd CNX_MARGIN 0 : Int) * 1024

/-- G_target of a lane, quantised to 1/64 dB (R102, R103). -/
def State.target (s : State) (n : Nat) : Int :=
  match s.isoSum n with
  | none => gMax
  | some (_, t) => roundDiv (t - s.margin) 1024 * 1024

/-- G_c, and its registers with LANE_GAIN.LIMIT (R103, Table 3-10). -/
def State.setCeil (s : State) (n : Nat) (g t : Int) : State :=
  let s := s.setCnx fun c => { c with gc := c.gc.set n g, gTarget := c.gTarget.set n t }
  let s := ((s.wr LANE_GAIN_LIMIT n (gainCode g)).wr CNX_CEIL_CEIL n (gainCode g)).wr CNX_CEIL_TARGET n (gainCode t)
  s.wr CNX_CEIL_RISING n (decide (g < min t gMax)).toNat

def State.gcOf (s : State) (n : Nat) : Int := s.cnx.gc.get gMin n

/-- The greatest rise of G_c in one estimate block (R103). -/
def State.riseStep (s : State) (n : Nat) : Int :=
  roundDiv ((s.rd CNX_CEIL_RISE 0 : Int) * 65536 * 1024) (1920000 * 2 ^ (s.lane n).rate)

/-- The ISO and XC registers of a lane (R102, Table 3-10). DESIGN CHOICE (log 84): a lane with nothing in the sum has no I
and no X, and both read 0. -/
def State.setIso (s : State) (n : Nat) : State :=
  let (i, x) := match s.isoSum n with
    | none => (0, 0)
    | some (i, t) => (i, t - i)
  let s := (s.wr CNX_ISO_ISO n (levelCode 16 64 i)).wr CNX_XC n (levelCode 16 64 x)
  let s := s.wr CNX_ISO_RETAINED n (s.cnx.retained.any fun r => r.victim == n).toNat
  s.wr CNX_ISO_FLOOR n ((lanePaths n).any fun p => (s.path p).on && s.on CNX_PATH_STAT_FLOOR p).toNat

/-- The ceiling of a lane at the end of an estimate block (R103). -/
def State.ceilStep (s : State) (n : Nat) : State :=
  let t := s.target n
  let g := s.gcOf n
  let g' := if t < g then max t gMin else max gMin (min (min t (g + s.riseStep n)) gMax)
  (s.setIso n).setCeil n g' t

/-- The ceiling of a lane falls at once where its target has fallen (R104, R111). -/
def State.ceilFall (s : State) (n : Nat) : State :=
  let t := s.target n
  if t < s.gcOf n then (s.setIso n).setCeil n (max t gMin) t else s.setIso n

/-- The EST registers of a path (Table 3-11). -/
def State.setEst (s : State) (p : Nat) : State :=
  let x := s.path p
  (s.wr CNX_PATH_EST_ISO p (levelCode 16 64 (-(x.ck.getD 0)))).wr CNX_PATH_EST_XC p (levelCode 16 64 x.xk)

/-- A search of a path is queued (R89): at most 128 entries, the oldest kept. -/
def State.queueSearch (s : State) (p : Nat) (w : Why) : State :=
  if 128 ≤ s.cnx.queue.length then s.int pgSLN 2
  else s.setCnx fun c => { c with queue := c.queue ++ [(p, w)] }

/-- An estimate reset (R104): X_k becomes 0 and a priority search is queued. -/
def State.estReset (s : State) (p : Nat) : State :=
  let s := s.setPath p fun x => { x with xk := 0, xFast := 0, badBlocks := 0 }
  (((s.wr CNX_PATH_STAT_EST_RESET p 1).setEst p).int pgCNX 2).queueSearch p .reset

/-- The reference lane of a local path transmits at port `m`. -/
def State.refAt (s : State) (p m : Nat) : Bool :=
  let x := s.path p
  x.on && !x.remote && (s.lane x.src).repeating && (s.lane x.src).tx == m

/-- A Curtain of source 13 has come down on ports (R104): the estimates of the paths whose reference transmits there are
reset, and the ceilings of their victims fall. -/
def State.oscReset (s : State) (ports : Ports) : State :=
  let ps := s.pathsOn.filter fun p => (portList ports).any fun m => s.refAt p m
  let s := ps.foldl State.estReset s
  (ps.map victim).eraseDups.foldl State.ceilFall s

/-! ### Freeze causes (R95, Table 3-2) -/

/-- The standing freeze causes of a path, by bit. -/
def State.freeze (s : State) (p : Nat) : List Bool :=
  let x := s.path p
  let n := victim p
  let stream := x.remote && (s.on CNX_SRX_STAT_LOST x.src || s.on CNX_SRX_STAT_CURTAIN x.src)
  [ s.on CNX_PATH_CFG_FREEZE p, !s.performing,
    !x.remote && s.behind (s.lane x.src).tx,
    (s.lane n).suspect || (!x.remote && (s.lane x.src).suspect),
    x.refLow, stream, !s.laneLive n, x.migrating ]

/-- CNX_PATH_STAT_p.FREEZE of an enabled path. -/
def State.freezeWord (s : State) (p : Nat) : Nat :=
  if (s.path p).on then ((s.freeze p).zipIdx).foldl (fun a (b, i) => if b then a + 2 ^ i else a) 0 else 0

/-- Adaptation of the path is frozen; that of a migration's new placement begins at S (R114). -/
def State.frozen (s : State) (p : Nat) : Bool := s.freezeWord p != 0 || (s.path p).warming

/-- The estimates of the path are held: causes 2 to 7 (Table 3-2). While a stream is lost X_k stays at the 0 that its loss
gave it, and rises again when frames return (R111). A new placement waits for S (R114). -/
def State.estHeld (s : State) (p : Nat) : Bool :=
  let f := s.freezeWord p
  let x := s.path p
  f.testBit 2 || f.testBit 3 || f.testBit 4 || f.testBit 5 || f.testBit 6 || f.testBit 7 || x.warming

/-! ### Path enable and disable (R79, R84, R102) -/

/-- The configuration word of a path as written. -/
def State.pathCfg (s : State) (p : Nat) : Word := s.rdWord pathFlds p

/-- The error code of the first check of Table 3-1 that fails. -/
def State.pathErr (s : State) (p : Nat) : Option Nat :=
  let n := victim p
  let v := s.lane n
  let w : PathSt := { cfg := s.pathCfg p }
  let r := s.lane w.src
  let refOk := if w.remote then decide (w.src < 8) && s.on CNX_SRX_CFG_EN w.src && s.on CNX_SRX_STAT_ACTIVE w.src
    else s.on LANE_STAT_ACTIVE w.src && r.txEn && downlink w.src == downlink n
  let rrate := if w.remote then (s.srx w.src).rate else r.rate
  let rbw := if w.remote then occBw rrate 63 else occBw r.rate r.chf
  let delta := ratAbs ((sx 32 (s.rd CNX_PATH_FOFS p) : Rat) * laneRate v.rate / (2 ^ 31 : Nat))
  let need := w.dense + w.sparse + w.spare
  if !(s.on LANE_STAT_ACTIVE n && v.txEn) then some 1
  else if !refOk then some 2
  else if rrate ≠ v.rate then some 3
  else if !(decide (delta < (occBw v.rate v.chf + rbw) / 2)) then some 4
  else if (lanePaths n).any fun q => q != p && (s.path q).on && (s.path q).remote == w.remote && (s.path q).src == w.src
    then some 5
  else if w.dense < 1 ∨ 8 < w.dense ∨ 8 < w.sparse ∨ w.step < 1 then some 6
  else if s.freeClusters.length < need then some 7
  else if 4000000 * 100 < (s.cnxLoad + need * 2 ^ v.rate) * 6144 then some 8
  else none

/-- A path that passed its checks (R79, R84, R91): clusters are allocated, the estimates reset, a search queued. -/
def State.pathAccept (s : State) (p : Nat) : State :=
  let n := victim p
  let rate := (s.lane n).rate
  let w : PathSt := { cfg := s.pathCfg p }
  let pre := s.rd SLN_CFG_DENSE_PRE 0
  let base : Int := clipBase rate w.dense (-(pre : Int))
  let s := (List.range w.dense).foldl (fun s i => s.allocCluster p .dense (clipPos rate (base + 32 * i))) s
  let s := (List.range w.sparse).foldl (fun s i =>
    s.allocCluster p .sparse (clipPos rate (base + 32 * (w.dense + i)))) s
  let s := (List.range w.spare).foldl (fun s _ => s.allocCluster p .spare 0) s
  let startAt := (s.now / (ratePeriod rate * 1024) + 1) * 1024
  let s := s.setPath p fun _ =>
    { on := true, cfg := w.cfg, fofs := BitVec.ofNat 32 (s.rd CNX_PATH_FOFS p), startAt := startAt }
  let s := s.setSln p fun _ => {}
  let s := s.setCnx fun c =>
    { c with retained := c.retained.filter fun r => !(r.victim == n && r.remote == w.remote && r.src == w.src) }
  let s := (((s.wr CNX_PATH_STAT_ACTIVE p 1).wr CNX_PATH_STAT_ERR p 0).wr CNX_PATH_STAT_ISO_VALID p 0).wr
    CNX_PATH_STAT_FLOOR p 0
  let s := s.setPath p fun x => { x with xk := 0 }
  let s := ((s.wr CNX_PATH_STAT_EST_RESET p 1).setEst p).int pgCNX 2
  ((s.queueSearch p .enable).setLoad).int pgCNX 0

/-- A path enable that is refused (R79). -/
def State.pathRefuse (s : State) (p e : Nat) : State :=
  (((s.wr CNX_PATH_CFG_EN p 0).wr CNX_PATH_STAT_ERR p e).refuse pgCNX).int pgCNX 0

/-- A path is disabled (R84, R89, R102): its clusters are released, its search is abandoned, and its coupling is retained
while the victim and the reference stay active. -/
def State.pathDisable (s : State) (p : Nat) : State :=
  let x := s.path p
  if !x.on then s.wr CNX_PATH_CFG_EN p 0
  else
    let n := victim p
    let refOn := if x.remote then s.on CNX_SRX_STAT_ACTIVE x.src else s.on LANE_STAT_ACTIVE x.src
    let kept : List Retained := match x.ck with
      | some c => if s.on LANE_STAT_ACTIVE n && refOn then [⟨n, x.remote, x.src, c⟩] else []
      | none => []
    let s := s.releaseClusters p
    let s := s.setPath p fun _ => {}
    let busy := match s.cnx.search with | some (q, _) => q == p | none => false
    let s := s.setCnx fun c =>
      { c with retained := c.retained ++ kept, queue := c.queue.filter fun e => e.1 != p,
               search := if busy then none else c.search }
    let s := s.cond busy fun s => s.wr SLN_STAT_BUSY 0 0
    let s := ((s.wr CNX_PATH_CFG_EN p 0).wr CNX_PATH_STAT_ACTIVE p 0).wr CNX_PATH_STAT_ISO_VALID p 0
    (s.setLoad).setIso n

/-- A write of CNX_PATH_CFG_p (R79, R84, Table 3-11). While the path is enabled FREEZE and AUTO act at once and the other
fields wait for the next enable. -/
def State.writePathCfg (s : State) (p : Nat) (v : Word) : State :=
  let was := (s.path p).on
  let s := s.wrWord pathFlds p v
  if CNX_PATH_CFG_EN.of v = 1 then
    if was then s
    else match s.pathErr p with
      | some e => s.pathRefuse p e
      | none => s.pathAccept p
  else s.pathDisable p

/-- Couplings retained for a lane that stops end (R102). -/
def State.dropRetained (s : State) (n : Nat) : State :=
  s.setCnx fun c => { c with retained := c.retained.filter fun r => !(r.victim == n || (!r.remote && r.src == n)) }

/-! ### The reference line and subtraction (R81 to R83) -/

/-- The time in µs from the reference point of a lane to its transmit DAC (R69, R81). -/
def State.dacDelay (s : State) (n : Nat) : Rat :=
  let l := s.lane n
  let fst := synRate s.rfc.synB
  match interp s.rfc.synB l.rate with
  | some (mt, kt) =>
    let ft := fst / (mt * 2 ^ kt : Nat)
    ((15 : Rat) / 2 + (l.delay : Rat) / (2 ^ 20 : Nat)) / laneRate l.rate + (5 / ft - (mt : Rat) / fst) + 96 / fst
  | none => 0

/-- T_loop of R81 in µs, from a reference lane to a victim lane. -/
def State.loopDelay (s : State) (r n : Nat) : Rat :=
  let lv := s.lane n
  let fsr := synRate s.rfc.synA
  match decim s.rfc.synA lv.rate, interp s.rfc.synB (s.lane r).rate with
  | some (m, _), some _ =>
    s.dacDelay r + (24 : Rat) / 100 + 64 / fsr + (5 / laneRate lv.rate - (m : Rat) / fsr) + (24 : Rat) / 100
  | _, _ => 0

/-- T_loop in whole lane samples; a stream is taken with the transmit terms of the victim's own
lane, since its frames carry none of the sender's (R110). -/
def State.loopSamples (s : State) (p : Nat) : Int :=
  let x := s.path p
  let r := if x.remote then victim p else x.src
  roundRat (s.loopDelay r (victim p) * laneRate (s.lane (victim p)).rate)

/-- The reference words of a path, or the probe in each, newest first: the reference lane's line, or the stream's. -/
def State.refLine (s : State) (p : Nat) (probe : Bool) : List Iq :=
  let x := s.path p
  if x.remote then (if probe then (s.srx x.src).probes else (s.srx x.src).ref)
  else if probe then (s.lane x.src).probes else (s.lane x.src).ref

/-- The lane sample number of the newest word of that line. -/
def State.refNewest (s : State) (p : Nat) : Nat :=
  let x := s.path p
  if x.remote then (s.srx x.src).refNo else (s.lane x.src).refNo

/-- The rotation of the reference word of lane sample `j` by Δ (R78): each word is turned by its own phase, before the
taps. -/
def rotateIq (f : Int) (j : Int) (w : Iq) : Int × Int :=
  if f = 0 then (w.re, w.im)
  else
    let r := iqBits (Config.rotate ((f * j) % (2 ^ 31 : Nat)).toNat w.bits)
    (r.re, r.im)

/-- The rotated reference sample of a path, or its probe alone, that a tap position weights at lane sample `k` (R82): the
word T_loop and the position before; zero outside what has been sent. -/
def State.tapRef (s : State) (probe : Bool) (p k : Nat) (q : Int) : Int × Int :=
  let j : Int := k - s.loopSamples p - q
  let d := (s.refNewest p : Int) - j
  if d < 0 then (0, 0) else rotateIq (sx 32 (s.path p).fofs.toNat) j ((s.refLine p probe).getD d.toNat Iq.zero)

/-- The reference sample of a path for a tap position. -/
def State.refSample (s : State) (p k : Nat) (q : Int) : Int × Int := s.tapRef false p k q

/-- A path's estimate of the coupling for one lane sample, in units of 2^-20 of the lane word (R82, R86). -/
def State.pathEstimate (s : State) (p k : Nat) : Int × Int :=
  (s.placedOf p).foldl (fun a c =>
    let cl := s.clu c
    (List.range 32).foldl (fun (a : Int × Int) j =>
      let w := s.tap (32 * c + j)
      let x := s.refSample p k (cl.pos + j)
      (a.1 + (w.1 * x.1 - w.2 * x.2), a.2 + (w.1 * x.2 + w.2 * x.1))) a) (0, 0)

/-- A lane sample after canceller subtraction, and the words that saturated in its reduction (R62, R83). -/
def State.subtract (s : State) (n k : Nat) (x : Iq) : Iq × Nat :=
  let e := (lanePaths n).foldl (fun (a : Int × Int) p =>
    if (s.path p).on && (s.path p).running then
      let y := s.pathEstimate p k
      (a.1 + y.1, a.2 + y.2)
    else a) (0, 0)
  let re := roundDiv (x.re * 2 ^ 20 - e.1) (2 ^ 20)
  let im := roundDiv (x.im * 2 ^ 20 - e.2) (2 ^ 20)
  (iqOf re im, (iqSat re im).toNat)

/-! ### The probe (R98, R99) -/

/-- P_out of a lane (R99): −60 dBFS until its first block after the entry to PERFORMANCE. -/
def State.pOut (s : State) (n : Nat) : Int := s.cnx.pOut.get (-60 * 65536) n

/-- The probe level of a lane in units of 2^-16 dB (R99); none where the lane sends no probe. -/
def State.probeLevel (s : State) (n : Nat) : Option Int :=
  let l := s.lane n
  if !(l.active && l.txEn && s.laneLive n) then none
  else if s.performing then
    some (max (s.pOut n) (-60 * 65536) - (s.rd CNX_PROBE_PROBE_REL 0 : Int) * 65536)
  else if s.probing l.tx then some (-(s.rd CNX_PROBE_PROBE_LVL 0 : Int) * 65536)
  else none

/-- The seed of a lane's probe (R98). -/
def State.probeSeed (s : State) (n : Nat) : Nat := 1 + n + 32 * s.rd SYS_STATE_DEV_ID 0

/-- The probe of a lane at a lane sample: zero where it sends none. -/
def State.probeAt (s : State) (n k : Nat) : Iq :=
  match s.probeLevel n with
  | none => Iq.zero
  | some lv => iqBits (Config.probe (s.probeSeed n) k (s.lane n).chf lv)

/-- The output power of a lane over a number of words, in units of 2^-16 dBFS: `sum` of squared words. -/
def powLevel (sum n : Nat) : Int := dBpow (max 1 sum) (max 1 n * 2 ^ 34)

/-- The power of a lane's word at the reference point enters the open block and, in PERFORMANCE, the open probe
integration, whose end gives P_out (R99). -/
def State.outPower (s : State) (n : Nat) (r : Iq) : State :=
  let s := s.setLane n fun l => { l with blockPow := l.blockPow + r.pow, blockN := l.blockN + 1,
                                         intPow := l.intPow + r.pow, intN := l.intN + 1 }
  let l := s.lane n
  if l.intN < 2 ^ 20 then s
  else
    let s := s.setLane n fun l => { l with intPow := 0, intN := 0 }
    s.cond s.performing fun s => s.setCnx fun c =>
      { c with pOut := c.pOut.set n (powLevel l.intPow l.intN), pDone := c.pDone ||| BitVec.ofNat 32 (2 ^ n) }

/-- The output power of the estimate block that closes gives P_out until the lane's first integration in PERFORMANCE
(R99). -/
def State.outBlock (s : State) (n : Nat) : State :=
  let l := s.lane n
  let s := s.setLane n fun l => { l with blockPow := 0, blockN := 0 }
  s.cond (s.performing && !s.cnx.pDone.getLsbD n && decide (0 < l.blockN)) fun s =>
    s.setCnx fun c => { c with pOut := c.pOut.set n (powLevel l.blockPow l.blockN) }

/-- An entry to PERFORMANCE (R99): P_out starts anew, and with it the integrations that it is taken over. -/
def State.outRestart (s : State) : State :=
  let s := (List.range 32).foldl (fun s n => s.setLane n fun l => { l with intPow := 0, intN := 0, blockPow := 0, blockN := 0 }) s
  s.setCnx fun c => { c with pOut := [], pDone := 0 }

/-! ### Adaptation (R94, R96) -/

/-- ε of R94: the power of a reference at −90 dBFS, in units of the squared lane word. -/
def epsPow : Nat := 17

/-- One update of the taps of a path by normalised LMS (R94, R96): exact products and one reduction. -/
def State.lms (s : State) (p k : Nat) : State :=
  let x := s.path p
  let e := (s.lane (victim p)).resid
  let ref := s.tapRef x.probeAdapt p k
  let cs := s.placedOf p
  let den := cs.foldl (fun a c => (List.range 32).foldl (fun a (j : Nat) =>
    let r := ref ((s.clu c).pos + j)
    a + (r.1 * r.1 + r.2 * r.2).toNat) a) epsPow
  cs.foldl (fun t c => (List.range 32).foldl (fun t (j : Nat) =>
    let r := ref ((s.clu c).pos + j)
    let w := s.tap (32 * c + j)
    let g := fun (m w : Int) => roundDiv (w * (den * 2 ^ x.step : Nat) + m * 2 ^ 20) (den * 2 ^ x.step)
    t.setTap (32 * c + j) (g (e.re * r.1 + e.im * r.2) w.1, g (e.im * r.1 - e.re * r.2) w.2)) t) s

/-- Freeze cause 4 of a path: the reference power over its update interval is below −70 dBFS (Table 3-2). -/
def State.refQuiet (s : State) (p : Nat) : Bool :=
  let k := 2 ^ (s.path p).upd
  let l := (s.refLine p false).take k
  let pw := l.foldl (fun a w => a + w.pow) 0
  decide (pw * 10000000 < k * 2 ^ 34)

/-! ### Correlations (R88, R100) -/

def sumNat (l : List Nat) : Nat := l.foldl (· + ·) 0

/-- The lags of R82 at a rate, from −16 up. -/
def lags (rate : Nat) : List Int := (List.range (posMax rate + 17).toNat).map fun (i : Nat) => (i : Int) - 16

/-- The reference of a path at every lag for lane sample `k`. -/
def State.lagRefs (s : State) (probe : Bool) (p k : Nat) : List (Int × Int) :=
  (lags (s.lane (victim p)).rate).map fun q => s.tapRef probe p k q

/-- Products of a word with the conjugate of each reference, added to the sums by lag. -/
def corrSums (sums xs : List (Int × Int)) (w : Iq) : List (Int × Int) :=
  (xs.zipIdx).map fun (x, i) =>
    let a := sums.getD i (0, 0)
    (a.1 + (w.re * x.1 + w.im * x.2), a.2 + (w.im * x.1 - w.re * x.2))

/-- One lane sample enters a correlation: the word before and after subtraction. The reference power is taken at lag 0. -/
def CorrSt.add (c : CorrSt) (xs : List (Int × Int)) (d e : Iq) : CorrSt :=
  let x0 := xs.getD 16 (0, 0)
  { n := c.n + 1, pw := c.pw + (x0.1 * x0.1 + x0.2 * x0.2).toNat, dPow := c.dPow + d.pow, ePow := c.ePow + e.pow,
    h := corrSums c.h xs d, r := corrSums c.r xs e }

/-- The coupling by lag of the sums of a correlation, in units of 2^-40: the squared sum over the squared power of the
reference. -/
def CorrSt.lagPow (c : CorrSt) (sums : List (Int × Int)) : List Nat :=
  sums.map fun a => (a.1 * a.1 + a.2 * a.2).toNat * 2 ^ 40 / max 1 (c.pw * c.pw)

/-- The correlator's noise at one lag, in units of 2^-40: an uncorrelated signal of the same power gives it on average. -/
def CorrSt.noise (c : CorrSt) : Nat := c.dPow * 2 ^ 40 / max 1 (c.n * c.pw)

/-- A lane sample enters the probe integrations of the lane's paths (R100): the active samples of a path whose reference
sends a probe, up to 2^20 of them. -/
def State.probeSample (s : State) (n k : Nat) (d e : Iq) : State :=
  (lanePaths n).foldl (fun s p =>
    let x := s.path p
    let sent := if x.remote then s.on CNX_SRX_STAT_ACTIVE x.src && (s.srx x.src).level.isSome
      else (s.probeLevel x.src).isSome
    if x.on && x.running && sent && s.laneLive n && decide (x.probe.n < 2 ^ 20) then
      s.setPath p fun x => { x with probe := x.probe.add (s.lagRefs true p k) d e }
    else s) s

/-- A lane sample enters the search of one of the lane's paths (R88): one at which no freeze cause but HOST stands, up to
2^16 of them. -/
def State.searchSample (s : State) (n k : Nat) (d e : Iq) : State :=
  match s.cnx.search with
  | none => s
  | some (p, _) =>
    let x := s.path p
    if victim p = n ∧ x.on = true ∧ x.warming = false ∧ s.freezeWord p / 2 = 0 ∧ s.cnx.corr.n < 2 ^ 16 then
      s.setCnx fun c => { c with corr := c.corr.add (s.lagRefs false p k) d e, corrAt := s.now }
    else s

/-- The power of a path's estimate enters the open block (R101). -/
def State.estSample (s : State) (n k : Nat) : State :=
  (lanePaths n).foldl (fun s p =>
    if (s.path p).on && (s.path p).running then
      let y := s.pathEstimate p k
      s.setPath p fun x => { x with est := x.est + (y.1 * y.1 + y.2 * y.2).toNat }
    else s) s

/-! ### Estimate blocks (R97, R101) -/

/-- A value that gets worse replaces the old one; one that gets better moves it by 1/16 of the difference (R101). -/
def smooth (old new : Int) (worse : Bool) : Int := if worse then new else old + roundDiv (new - old) 16

/-- The residual power of the block's samples that is correlated with a path's reference over its tap positions, in units of
2^-40 of the squared word, with Sightline's last uncovered residual (R101). -/
def State.residPow (s : State) (p : Nat) : Nat :=
  let l := s.lane (victim p)
  let es := l.osc.resid.take 1024
  let refs := fun (q : Int) => (List.range es.length).map fun i =>
    let x := s.refSample p (l.refNo - i) q
    (iqOf x.1 x.2)
  let pos := (s.placedOf p).flatMap fun c => (List.range 32).map fun (j : Nat) => (s.clu c).pos + j
  let corr := (Config.correlated (es.map Iq.bits) (pos.map fun q => (refs q).map Iq.bits)).toNat * 2 ^ 40
  let unc := match (s.slnPath p).since with
    | some _ => linPow (-((s.slnPath p).uncov * 1024)) * sumNat ((refs 0).map Iq.pow)
    | none => 0
  corr + unc

/-- A value of a path that may be absent, moved as R101 says: higher is worse. -/
def smoothOpt (old new : Option Int) : Option Int :=
  match old, new with
  | some o, some c => some (smooth o c (decide (o < c)))
  | none, h => h
  | some o, none => some o

/-- The estimates of a path at the end of a block (R101), and divergence (R97). Outside PERFORMANCE X_fast and H_taps are
held, and the probe terms go on (Table 3-2, cause 1). -/
def State.pathBlock (s : State) (p : Nat) : State :=
  let x := s.path p
  let res := s.residPow p
  let s := s.setPath p fun x => { x with est := 0 }
  if !(x.on && x.running) || s.estHeld p then s
  else
    let off := (s.freezeWord p).testBit 1
    let ht := if off then x.hTaps else levelOf (s.tapEnergy (s.clustersOf p))
    let fast := if off then x.xFast else dBpow (max 1 x.est) (max 1 res)
    let ck := smoothOpt x.ck (maxLevel x.hProbe ht)
    let new := max 0 (min (min fast (x.xProbe.getD 0)) ((s.rd CNX_XCAP 0 : Int) * 1024))
    let bad := if off then x.badBlocks else if fast < 0 then x.badBlocks + 1 else 0
    if 4 ≤ bad ∧ off = false then
      let s := (s.clustersOf p).foldl State.zeroCluster s
      let s := (s.setPath p fun x => { x with ck := ck, hTaps := ht }).estReset p
      ((s.satInc CNX_DIV_CNT 0)).raise pgCNX 2 (portBit (s.lane (victim p)).tx)
    else
      (s.setPath p fun x =>
        { x with ck := ck, hTaps := ht, xFast := fast, badBlocks := bad,
                 xk := smooth x.xk new (decide (new < x.xk)) }).setEst p

/-- The pending move of a cluster at an estimate block (R92, R93). A group that keeps its taps takes each value whose
position stays inside the group. -/
def State.moveClusters (s : State) (p : Nat) : State :=
  let cs := (s.clustersOf p).filter fun c => (s.clu c).next.isSome && decide ((s.clu c).nextAt < s.now)
  let old := (s.clustersOf p).filter fun c => (s.clu c).keep
  let s0 := s
  cs.foldl (fun s c =>
    let cl := s0.clu c
    let pos := cl.next.getD cl.pos
    let s := if cl.keep then
        (List.range 32).foldl (fun s (j : Nat) =>
          let q := pos + (j : Int)
          let w := old.findSome? fun d =>
            let o := q - (s0.clu d).pos
            if 0 ≤ o ∧ o < 32 then some (s0.tap (32 * d + o.toNat)) else none
          s.setTap (32 * c + j) (w.getD (0, 0))) s
      else s.zeroCluster c
    s.setClu c fun x => { x with pos := pos, next := none, keep := false, placed := true }) s

/-- One estimate block counted for the clusters that wait to become the spare (R92). -/
def State.countRetire (s : State) (p : Nat) : State :=
  (s.clustersOf p).foldl (fun s c => s.setClu c fun x => { x with retire := x.retire.map (· - 1) }) s

/-- The estimate block of a victim lane (R101 to R103): every path, then the ceiling, which is held outside PERFORMANCE
and behind a Curtain (R106). -/
def State.estimateBlock (s : State) (n : Nat) : State :=
  let s := (s.toSample (evBLOCK + n) n 1024).outBlock n
  let s := (lanePaths n).foldl (fun s p =>
    if (s.path p).on then ((s.pathBlock p).moveClusters p).countRetire p else s) s
  let held := !s.performing || (lanePaths n).any fun p => (s.path p).on && (s.freezeWord p).testBit 2
  if held then s.setIso n else s.ceilStep n

/-- The first entry to PERFORMANCE after a reset (R106): every X_k is 0 and G_c is I less MARGIN. -/
def State.firstCeil (s : State) : State :=
  let s := s.pathsOn.foldl (fun s p => (s.setPath p fun x => { x with xk := 0 }).setEst p) s
  (s.lanesOn.filter fun n => (s.lane n).txEn).foldl (fun s n =>
    let t := s.target n
    (s.setIso n).setCeil n (max gMin (min t gMax)) t) s

/-- SYS_STATE.ISO_VALID: every enabled path has a valid isolation estimate (R100). -/
def State.isoValid (s : State) : Bool := s.pathsOn.all fun p => s.on CNX_PATH_STAT_ISO_VALID p

/-- PROBE_INTEGRATION_END, once 2^20 active samples are in (R100): the coupling and the residual energy over all lags.
Where no lag stands 10 dB above the noise the coupling is the one at which a lag would. -/
def State.probeEnd (s : State) (p : Nat) : State :=
  let x := s.path p
  let c := x.probe
  if !x.on || decide (c.n < 2 ^ 20) then s
  else
    let all := s.isoValid
    let hs := c.lagPow c.h
    let found := hs.any fun v => decide (10 * c.noise < v)
    let h := if found then sumNat hs else 10 * c.noise
    let r := sumNat (c.lagPow c.r)
    let s := s.setPath p fun x =>
      { x with hProbe := levelOf h, xProbe := some (dBpow (max 1 h) (max 1 r)), probe := {} }
    let s := (s.wr CNX_PATH_STAT_FLOOR p (!found).toNat).wr CNX_PATH_STAT_ISO_VALID p 1
    s.cond (!all && s.isoValid) fun s => s.int pgCNX 5

/-! ### Sightline (R88 to R92) -/

/-- A search of a path begins (R88). -/
def State.beginSearch (s : State) (e : Nat × Why) : State :=
  let s := s.setCnx fun c => { c with search := some e, corr := {}, corrAt := s.now }
  (s.wr SLN_STAT_BUSY 0 1).wr SLN_STAT_CUR_PATH 0 e.1

/-- A search starts (R89): the priority queue first, then the enabled paths in ascending order. -/
def State.searchStart (s : State) : State :=
  if s.on SLN_CTL_HOLD 0 || s.cnx.search.isSome then s
  else
    let q := s.cnx.queue.filter fun e => (s.path e.1).on
    match q with
    | e :: rest =>
      (s.setCnx fun c => { c with queue := rest }).beginSearch e
    | [] =>
      let s := s.setCnx fun c => { c with queue := [] }
      let after := s.pathsOn.filter fun p => s.cnx.lastPath < p
      match after ++ s.pathsOn with
      | [] => s
      | p :: _ => s.beginSearch (p, .round)

/-- The direct-coupling position of a list of peaks (R90). -/
def directPos (win : Nat) (peaks : List (Int × Int)) : Option Int :=
  match peaks with
  | [] => none
  | (p0, l0) :: rest =>
    some (rest.foldl (fun a (p, l) => if l ≤ l0 + 64 * win then min a p else a) p0)

/-- A position lies in an allocated cluster of a path that is placed. -/
def State.covered (s : State) (p : Nat) (pos : Int) : Bool :=
  (s.placedOf p).any fun c =>
    let cl := s.clu c
    decide (cl.pos ≤ pos) && decide (pos < cl.pos + 32)

/-- The dense group moves to the position below `pd`: in place at the next estimate block, or at once for the first
placement. -/
def State.placeDense (s : State) (p : Nat) (pd : Int) (now : Bool) : State :=
  let rate := (s.lane (victim p)).rate
  let base := clipBase rate (s.path p).dense (pd - (s.rd SLN_CFG_DENSE_PRE 0 : Int))
  let s := s.setSln p fun x => { x with pd := pd }
  (((s.clustersOf p).filter fun c => (s.clu c).role == .dense).zipIdx).foldl (fun s (c, i) =>
    let pos := clipPos rate (base + 32 * (i : Int))
    if now then s.setClu c fun x => { x with pos := pos }
    else s.setClu c fun x => { x with next := some pos, keep := true, nextAt := s.now }) s

/-- The first placement after enable (R91): the dense group, then each sparse cluster at a peak that the group does not
cover. DESIGN CHOICE (log 85): the rule does not say what becomes of the taps, and the model zeroes those of the path. -/
def State.placeFirst (s : State) (p : Nat) (peaks : List (Int × Int)) (pd : Option Int) : State :=
  let rate := (s.lane (victim p)).rate
  let s := ((s.clustersOf p).foldl State.zeroCluster s).placeDense p (pd.getD 0) true
  let free := peaks.filter fun (q, _) => !((s.clustersOf p).any fun c =>
    (s.clu c).role == .dense && decide ((s.clu c).pos ≤ q) && decide (q < (s.clu c).pos + 32))
  let sp := (s.clustersOf p).filter fun c => (s.clu c).role == .sparse
  (sp.zip free).foldl (fun s (c, (q, _)) => s.setClu c fun x => { x with pos := clipPos rate (q - 16) }) s

/-- The weakest sparse cluster of a path with its energy. -/
def State.weakSparse (s : State) (p : Nat) : Option (Nat × Nat) :=
  ((s.clustersOf p).filter fun c => (s.clu c).role == .sparse && (s.clu c).retire.isNone).foldl (fun a c =>
    let e := s.tapEnergy [c]
    match a with
    | some (_, e0) => if e < e0 then some (c, e) else a
    | none => some (c, e)) none

/-- Re-placement after a later search (R92). -/
def State.replace (s : State) (p : Nat) (peaks : List (Int × Int)) (pd : Option Int) (why : Why) : State :=
  let rate := (s.lane (victim p)).rate
  let need := if why = .reset then 1 else 2
  let unc := (peaks.filter fun (q, _) => !s.covered p q).head?
  let wantS := match unc, s.weakSparse p with
    | some (_, l), some (_, e) => match levelOf e with
      | some d => decide (d + 3 * 65536 ≤ -l * 1024)
      | none => true
    | _, _ => false
  let wantD := match pd with
    | some d => decide (4 ≤ (d - (s.slnPath p).pd).natAbs)
    | none => false
  let s := s.setSln p fun x =>
    { x with missSparse := if wantS then x.missSparse + 1 else 0, missDense := if wantD then x.missDense + 1 else 0 }
  let doS := wantS && decide (need ≤ (s.slnPath p).missSparse)
  let doD := wantD && decide (need ≤ (s.slnPath p).missDense)
  let spare := (s.clustersOf p).find? fun c => (s.clu c).role == .spare
  let s := if doS then
      match unc, s.weakSparse p with
      | some (q, _), some (c, _) =>
        let pos := clipPos rate (q - 16)
        let s := match spare with
          | some d =>
            let s := (s.zeroCluster d).setClu d fun x => { x with role := .sparse, pos := pos, placed := true }
            s.setClu c fun x => { x with retire := some 8 }
          | none => s.setClu c fun x => { x with next := some pos, keep := false, nextAt := s.now }
        (s.setSln p fun x => { x with missSparse := 0 }).int pgSLN 1
      | _, _ => s
    else s
  if doD then
    let s := s.placeDense p (pd.getD 0) false
    (s.setSln p fun x => { x with missDense := 0 }).int pgSLN 1
  else s

/-- A peak entered in its place by strength, the strongest first; levels are −10 log10, so the lowest is strongest. -/
def insertPeak (x : Int × Int) : List (Int × Int) → List (Int × Int)
  | [] => [x]
  | y :: l => if x.2 < y.2 then x :: y :: l else y :: insertPeak x l

/-- A coupling in units of 2^-40 as −10 log10 in 1/64 dB, saturated to 16 bits (R117). -/
def couplingCode (c : Nat) : Int := if c = 0 then 0x7FFF else satS 16 (roundDiv (-(dBpow c (2 ^ 40)) * 64) 65536)

/-- The peaks of a search (R90): local maxima of the coupling response that exceed the correlator's noise by THRESH dB, in
order of strength, at most eight. -/
def CorrSt.peaks (c : CorrSt) (rate thresh : Nat) : List (Int × Int) :=
  let hs := c.lagPow c.h
  let top := ((lags rate).zipIdx).filterMap fun (q, i) =>
    let v := hs.getD i 0
    let below := fun j => hs.getD j 0
    if 0 < v ∧ (i = 0 ∨ below (i - 1) < v) ∧ below (i + 1) ≤ v ∧ dBpow (max 1 c.noise) 1 + thresh * 65536 < dBpow v 1
    then some (q, couplingCode v) else none
  (top.foldl (fun l x => insertPeak x l) []).take 8

/-- SEARCH_COMPLETE, 20 µs after the 2^16 samples are in (R88, R90): the peaks, p_d and the uncovered residual, and with
AUTO the placement (R91, R92). -/
def State.searchDone (s : State) : State :=
  match s.cnx.search with
  | none => s
  | some (p, why) =>
    let c := s.cnx.corr
    if c.n < 2 ^ 16 then s
    else
      let s := s.reach (s.cnx.corrAt + usT 20)
      let rate := (s.lane (victim p)).rate
      let peaks := c.peaks rate (s.rd SLN_CFG_THRESH 0)
      let out := ((lags rate).zip (c.lagPow c.r)).filter fun (q, _) => !s.covered p q
      let pd := directPos (s.rd SLN_CFG_DIRECT_WIN 0) peaks
      let first := (s.slnPath p).since.isNone
      let s := s.setSln p fun x =>
        { x with peaks := peaks, since := some s.now, uncov := couplingCode (sumNat (out.map (·.2))) }
      let s := s.setCnx fun c => { c with search := none, corr := {}, lastPath := if why = .round then p else c.lastPath }
      let s := (s.wr SLN_STAT_BUSY 0 0).inc SLN_STAT_SEARCH_CNT 0
      let s := s.cond (why == .host) fun s => s.int pgSLN 0
      if s.on CNX_PATH_CFG_AUTO p then
        if first then (s.placeFirst p peaks pd).int pgSLN 1 else s.replace p peaks pd why
      else s

/-- A moved-from cluster becomes the spare after its 8 blocks (R92). -/
def State.retireOld (s : State) (p : Nat) : State :=
  ((s.clustersOf p).filter fun c => (s.clu c).retire == some 0).foldl (fun s c =>
    (s.zeroCluster c).setClu c fun x => { x with role := .spare, retire := none, pos := 0, placed := false }) s

/-! ### Host writes of the canceller -/

/-- A write of the tap window (R87): half 0 is the I part, half 1 the Q part. -/
def State.writeTap (s : State) (t : Nat) (half : Bool) (v : Word) : State :=
  let c := s.clu (t / 32)
  if c.used && s.on CNX_PATH_CFG_FREEZE c.path then
    let w := s.tap t
    let x := sx 24 v.toNat
    s.setTap t (if half then (w.1, x) else (x, w.2))
  else s.satInc CNX_TAPWR_CNT 0

/-- CNX_SNAP (R33, Table 3-9). -/
def State.tapSnap (s : State) : State :=
  (s.wr CNX_TAP_ALLOC 0 s.cnx.tapsUsed).wr CNX_TAP_FREE 0 s.cnx.tapsFree

/-- A write of CNX_CLU_DESC.POS (R93). -/
def State.writePos (s : State) (v : Word) : State :=
  let c := s.rd CNX_CLU_PTR 0
  let cl := s.clu c
  let pos := sx 16 v.toNat
  let rate := (s.lane (victim cl.path)).rate
  let clash := (s.clustersOf cl.path).any fun d =>
    d != c && ((s.clu d).placed || (s.clu d).next.isSome) && decide ((pos - (s.clu d).next.getD (s.clu d).pos).natAbs < 32)
  if !cl.used || s.on CNX_PATH_CFG_AUTO cl.path || decide (pos < -16) || decide (posMax rate < pos + 31) || clash then
    s.refuse pgCNX
  else (s.zeroCluster c).setClu c fun x => { x with next := some pos, keep := false, nextAt := s.now }

/-- A write of CNX_MARGIN (R105). -/
def State.writeMargin (s : State) (v : Word) : State :=
  let m := CNX_MARGIN.of v
  if 0x280 ≤ m ∧ m ≤ 0xA00 then s.wr CNX_MARGIN 0 m else (s.refuse pgCNX).int pgCNX 6

/-- A write of CNX_CEIL_RISE (R116). -/
def State.writeRise (s : State) (v : Word) : State :=
  let m := CNX_CEIL_RISE.of v
  if 1 ≤ m ∧ m ≤ 60 then s.wr CNX_CEIL_RISE 0 m else (s.refuse pgCNX).int pgCNX 6

/-- A write of SLN_CTL (R89, R117). -/
def State.writeSlnCtl (s : State) (v : Word) : State :=
  let s := (s.wr SLN_CTL_HOLD 0 (SLN_CTL_HOLD.of v)).wr SLN_CTL_PATH 0 (SLN_CTL_PATH.of v)
  s.cond (SLN_CTL_GO.of v == 1) fun s => s.queueSearch (SLN_CTL_PATH.of v) .host

/-! ### Streams (R107 to R113) -/

def stxFlds : List Fld := [CNX_STX_CFG_EN, CNX_STX_CFG_DIR, CNX_STX_CFG_HOPS, CNX_STX_CFG_SHIFT, CNX_STX_CFG_LANE]
def srxFlds : List Fld := [CNX_SRX_CFG_EN, CNX_SRX_CFG_SRC_DEV, CNX_SRX_CFG_SRC_SLOT]

/-- The arcs that a stream of this device crosses, toward RING_DN (0) or RING_UP (1) (R108, R379). -/
def State.streamArcs (s : State) (dir hops : Nat) : List Nat :=
  let n := max 1 (s.rd RING_STAT_SIZE 0)
  let p := s.rd RING_STAT_POS 0
  (List.range hops).map fun i => if dir = 0 then (p + i) % n else (p + 2 * n - 1 - i) % n

/-- The ring can carry a stream over a number of arcs: it is enumerated, and no arc of the route is broken. -/
def State.streamRoute (s : State) (dir hops : Nat) : Bool :=
  s.ring.enumerated && decide (1 ≤ hops) && decide (hops ≤ 3) && !(s.streamArcs dir hops).any s.ring.broken.contains

/-- The sample bits that streams put on an outgoing arc, in units of 24 × 1.92 Mb/s (R109). -/
def State.arcLoad (s : State) (port : Nat) : Nat :=
  (s.cnx.resv.filter fun x => x.port == port).foldl (fun a x => a + 2 ^ x.rate) 0

/-- An outgoing arc holds at most 90 Gb/s of streams (R109). -/
def State.arcFits (s : State) (x : Resv) : Bool := decide ((s.arcLoad x.port + 2 ^ x.rate) * 4608 ≤ 90000 * 100)

/-- A stream is reserved on an outgoing arc. -/
def State.reserve (s : State) (x : Resv) : State := s.setCnx fun c => { c with resv := c.resv ++ [x] }

/-- A stream leaves the outgoing arc (R109). -/
def State.unreserve (s : State) (dev slot : Nat) : State :=
  s.setCnx fun c => { c with resv := c.resv.filter fun x => !(x.dev == dev && x.slot == slot) }

/-- A transmit stream stops (R111, R113): its place on every arc is given up. -/
def State.stopStream (s : State) (k : Nat) : State :=
  let c := (s.stx k).cfg
  let (dir, hops) := (CNX_STX_CFG_DIR.of c, CNX_STX_CFG_HOPS.of c)
  let held := s.cnx.resv.any fun x => x.dev == s.devId && x.slot == k
  let s := s.cond (held && decide (1 < hops)) fun s => s.sendRel (s.devAlong dir 1) 0 (.write (.streamEnd s.devId k dir 2 hops))
  ((s.unreserve s.devId k).setStx k fun _ => {}).wr CNX_STX_STAT_ACTIVE k 0

/-- A reservation is refused at a hop (R109, Table 3-12). -/
def State.streamRefuse (s : State) (k hop : Nat) : State :=
  let s := (s.unreserve s.devId k).setStx k fun x => { x with pending := false }
  (((s.wr CNX_STX_CFG_EN k 0).wr CNX_STX_STAT_ERR k 3).wr CNX_STX_STAT_ARC k hop).refuse pgCNX

/-- A reservation begins (R109): on the outgoing arc of this device, its hop 1, and then at the next device of the route. -/
def State.streamAsk (s : State) (k : Nat) (v : Word) : State :=
  let (dir, hops) := (CNX_STX_CFG_DIR.of v, CNX_STX_CFG_HOPS.of v)
  let rate := (s.lane (CNX_STX_CFG_LANE.of v)).rate
  let x : Resv := ⟨dirPort dir, s.devId, k, rate⟩
  if !s.arcFits x then s.streamRefuse k 1
  else
    ((s.reserve x).setStx k fun _ => { pending := true, cfg := v }).cond (decide (1 < hops)) fun s =>
      s.sendRel (s.devAlong dir 1) 0 (.write (.streamAsk s.devId k rate dir 2 hops))

/-- Another device's reservation reaches this one on its route (R109): its outgoing arc takes it or refuses it, and the last
device of the arcs answers the sender. -/
def State.streamRelay (s : State) (dev slot rate dir hop hops : Nat) : State :=
  let x : Resv := ⟨dirPort dir, dev, slot, rate⟩
  if !s.arcFits x then s.sendRel dev 0 (.write (.streamAnswer slot false hop))
  else if hop < hops then
    (s.reserve x).sendRel (s.devAlong dir 1) 0 (.write (.streamAsk dev slot rate dir (hop + 1) hops))
  else (s.reserve x).sendRel dev 0 (.write (.streamAnswer slot true hop))

/-- Another device's stream leaves the route (R109). -/
def State.streamLeave (s : State) (dev slot dir hop hops : Nat) : State :=
  (s.unreserve dev slot).cond (decide (hop < hops)) fun s =>
    s.sendRel (s.devAlong dir 1) 0 (.write (.streamEnd dev slot dir (hop + 1) hops))

/-- A write of CNX_STX_CFG_s (R109): the reservation starts, or the write is refused. -/
def State.writeStx (s : State) (k : Nat) (v : Word) : State :=
  let was := s.on CNX_STX_CFG_EN k
  let s := s.wrWord stxFlds k v
  if CNX_STX_CFG_EN.of v = 1 then
    if was then s
    else
      let n := CNX_STX_CFG_LANE.of v
      let bad := fun (s : State) (e : Nat) => ((s.wr CNX_STX_CFG_EN k 0).wr CNX_STX_STAT_ERR k e).refuse pgCNX
      if !(s.on LANE_STAT_ACTIVE n && (s.lane n).txEn) then bad s 1
      else if CNX_STX_CFG_SHIFT.of v = 7 ∨ !s.streamRoute (CNX_STX_CFG_DIR.of v) (CNX_STX_CFG_HOPS.of v) then bad s 2
      else s.streamAsk k v
  else s.stopStream k

/-- The result of a reservation (R109). A route of one arc asks no other device, and none can refuse it. -/
def State.streamResult (s : State) (k : Nat) (ok : Bool) (arc : Nat) : State :=
  if !(s.stx k).pending then s
  else if ok || CNX_STX_CFG_HOPS.of (s.stx k).cfg == 1 then
    ((s.setStx k fun x => { x with pending := false }).wr CNX_STX_STAT_ACTIVE k 1).wr CNX_STX_STAT_ERR k 0
  else s.streamRefuse k arc

/-- The streams that a lane sends stop with it (R113). -/
def State.stopLaneStreams (s : State) (n : Nat) : State :=
  (List.range 8).foldl (fun s k =>
    if s.on CNX_STX_CFG_EN k && CNX_STX_CFG_LANE.of (s.stx k).cfg == n && (s.on CNX_STX_STAT_ACTIVE k || (s.stx k).pending)
    then (s.stopStream k).wr CNX_STX_CFG_EN k 0 else s) s

/-- The couplings retained of a receive stream slot end (R102). -/
def State.dropRemote (s : State) (k : Nat) : State :=
  s.setCnx fun c => { c with retained := c.retained.filter fun r => !(r.remote && r.src == k) }

/-- A write of CNX_SRX_CFG_s. -/
def State.writeSrx (s : State) (k : Nat) (v : Word) : State :=
  let s := s.wrWord srxFlds k v
  if CNX_SRX_CFG_EN.of v = 1 then s
  else ((((s.wr CNX_SRX_STAT_ACTIVE k 0).wr CNX_SRX_STAT_LOST k 0).wr CNX_SRX_STAT_CURTAIN k 0).setSrx k fun _ => {}).dropRemote k

/-- A reference word of a stream back in the scale of the lane word (R107): I in the high half. -/
def streamWord (shift : Nat) (w : BitVec 24) : Iq :=
  iqOf (roundDiv ((w.extractLsb' 12 12).toInt * 2 ^ 6) (2 ^ shift)) (roundDiv ((w.extractLsb' 0 12).toInt * 2 ^ 6) (2 ^ shift))

/-- A stream after a break of the ring (R111): one whose route crosses a down arc is reserved again along the reversed
route, where that fits in 3 arcs, and otherwise stops with ERR 2. -/
def State.streamsReroute (s : State) : State :=
  (List.range 8).foldl (fun (s : State) k =>
    let cfg := (s.stx k).cfg
    let dir := CNX_STX_CFG_DIR.of cfg
    let hops := CNX_STX_CFG_HOPS.of cfg
    if (s.on CNX_STX_STAT_ACTIVE k || (s.stx k).pending) && (s.streamArcs dir hops).any s.ring.broken.contains then
      let back := s.rd RING_STAT_SIZE 0 - hops
      if s.streamRoute (1 - dir) back then
        let s := ((s.wr CNX_STX_CFG_DIR k (1 - dir)).wr CNX_STX_CFG_HOPS k back).wr CNX_STX_STAT_ACTIVE k 0
        (s.unreserve s.devId k).streamAsk k (s.rdWord stxFlds k)
      else ((s.stopStream k).wr CNX_STX_CFG_EN k 0).wr CNX_STX_STAT_ERR k 2
    else s) s

/-- A frame has been received over a port and its buffer freed: RetCum counts it (R385). -/
def State.took (s : State) (port vc : Nat) : State :=
  s.setRing fun r =>
    let x := r.vcs.get {} (4 * port + vc)
    { r with vcs := r.vcs.set (4 * port + vc) { x with retCum := x.retCum + 1 } }

/-- A stream-samples frame for this device (R107, R112): its words enter the slots that name its sender. -/
def State.streamTake (s : State) (f : StreamFrame) : State :=
  let ws := (f.words.map fun w => if f.curtain then Iq.zero else streamWord f.shift w).reverse
  let ps := (List.range f.words.length).map fun i =>
    match f.level with
    | some lv => if f.curtain then Iq.zero else iqBits (Config.probe f.seed.toNat (f.no - i) f.chf lv)
    | none => Iq.zero
  (List.range 8).foldl (fun s k =>
    if s.on CNX_SRX_CFG_EN k && s.rd CNX_SRX_CFG_SRC_DEV k == f.dev && s.rd CNX_SRX_CFG_SRC_SLOT k == f.slot then
      let s := s.setSrx k fun x =>
        { x with lastFrame := some s.now, refNo := f.no, seed := f.seed, level := f.level, chf := f.chf, rate := f.rate,
                 ref := (ws ++ x.ref).take 4096, probes := (ps ++ x.probes).take 4096 }
      let s := (s.wr CNX_SRX_STAT_LAT k f.lat).wr CNX_SRX_STAT_CURTAIN k f.curtain.toNat
      s.cond (!s.on CNX_SRX_STAT_LOST k) fun s => s.wr CNX_SRX_STAT_ACTIVE k 1
    else s) s

/-- A stream-samples frame arrives (R107, R108): one with arcs left is relayed, and any other is for this device. -/
def State.streamFrame (s : State) (f : StreamFrame) : State :=
  let s := s.took f.port.toNat 1
  if f.hops = 0 then s.streamTake f
  else s.emit ⟨dirPort f.dir, 1, s.devAlong f.dir f.hops, 0, .stream { f with hops := f.hops - 1 }⟩

/-- The enabled paths that name a receive stream slot. -/
def State.slotPaths (s : State) (k : Nat) : List Nat :=
  s.pathsOn.filter fun p => (s.path p).remote && (s.path p).src == k

/-- A stream is lost 2 µs after its last valid frame (R111). DESIGN CHOICE (log 88): an enabled slot that has never
received a frame is not lost. The loss is the only sign that the sender's lane is disabled (R113), so it ends the couplings
retained of the slot (R102, log 89). -/
def State.streamLost (s : State) (k : Nat) : State :=
  match (s.srx k).lastFrame with
  | none => s
  | some t =>
    if !s.on CNX_SRX_CFG_EN k || s.on CNX_SRX_STAT_LOST k then s
    else
      let s := s.reach (t + usT 2)
      let s := (((s.wr CNX_SRX_STAT_LOST k 1).wr CNX_SRX_STAT_ACTIVE k 0).satInc CNX_SRX_LOST_CNT k).dropRemote k
      let ps := s.slotPaths k
      let s := ps.foldl (fun s p => (s.setPath p fun x => { x with xk := 0 }).setEst p) s
      let s := (ps.map victim).eraseDups.foldl State.ceilFall s
      let ports := portsOf (ps.map fun p => (s.lane (victim p)).tx)
      (s.raiseInt [(pgCNX, 3)] pgCNX 3 ports).stand 29 3

/-- Frames have returned on a lost stream (R111). -/
def State.streamBack (s : State) (k : Nat) : State :=
  if !s.on CNX_SRX_STAT_LOST k then s
  else
    let s := ((s.wr CNX_SRX_STAT_LOST k 0).wr CNX_SRX_STAT_ACTIVE k 1).int pgCNX 4
    let s := s.setSrx k fun x => { x with lastFrame := some s.now }
    if (List.range 8).any fun j => s.on CNX_SRX_STAT_LOST j then s else s.unstand 29 3

/-- An uncorrectable error in the tap memory of a cluster (R115). -/
def State.tapUncorr (s : State) (c : Nat) : State :=
  let cl := s.clu c
  let s := s.zeroCluster c
  if cl.used then (s.estReset cl.path).raise pgCNX 1 (portBit (s.lane (victim cl.path)).tx)
  else s.raise pgCNX 1 0

/-- CNX_LOOP_n: T_loop of the lane's own reference in ps (R81). -/
def State.cnxLoop (s : State) (n : Nat) : Nat :=
  if s.on LANE_STAT_ACTIVE n then (roundRat (s.loopDelay n n * 1000000)).toNat else 0

end Sys2Proof.Machine
end

