-- ==== Sys2Proof/Machine/Fc.lean ====
section
/-! DEFINITION. The fault collector (spec/10_fault_collector.md): arbitration epochs, latches, the first-fault record,
recovery, FAULT_N and the collector's records; and the network-protection detectors with the Curtain commands that rest
on it (spec/05_network_protection.md). -/
namespace Sys2Proof.Machine
open Sys2Proof

/-! ### FAULT_N (R296, R297) -/

/-- Pulse mode is in force: start-up, test, or the recovery after a thermal shutdown. -/
def State.pulseMode (s : State) : Bool := !s.fc.seenRehearsal || s.on FC_PIN_TEST 0 || s.thm.shut

/-- A pulse starts (R297). -/
def State.startPulse (s : State) : State :=
  s.setFc fun f => { f with pulseEnd := some (s.now + usT (10 * s.rd FC_CFG_PULSE_W 0)), restEnd := none, restLatch := false }

/-- A latch that sets a status bit, in pulse mode: a pulse, absorbed into one that runs, put off in the 10 µs after one. -/
def State.pulseLatch (s : State) : State :=
  if !s.pulseMode || s.fc.pulseEnd.isSome then s
  else match s.fc.restEnd with
    | some t => if s.now < t then s.setFc fun f => { f with restLatch := true } else s.startPulse
    | none => s.startPulse

/-- FAULT_N_PULSE_END: the pin returns to SW_LVL. -/
def State.pulseEnd (s : State) : State :=
  match s.fc.pulseEnd with
  | none => s
  | some t =>
    let s := s.reach t
    s.setFc fun f => { f with pulseEnd := none, restEnd := some (t + usT 10) }

/-- DEFERRED_FAULT_N_PULSE: the pulse of a latch that fell in the 10 µs after the last one. -/
def State.deferredPulse (s : State) : State :=
  match s.fc.restEnd with
  | none => s
  | some t => if s.fc.restLatch then (s.reach t).startPulse else s

/-- FAULT_N is driven low. -/
def State.faultNLow (s : State) : Bool :=
  if s.sys.dark && s.boot.inReset.isSome then false
  else if s.pulseMode then
    match s.fc.pulseEnd with
    | some t => decide (s.now < t) || !s.on FC_PIN_SW_LVL 0
    | none => !s.on FC_PIN_SW_LVL 0
  else (s.statusList.any fun n => decide (s.rd FC_CFG_PIN_MIN 0 ≤ s.rd FC_SEV_LAST n))
    || (s.on SYS_STATE_VERTEX 0 && s.on FC_PIN_REMOTE_EN 0
      && (s.on RING_FAULTN_LO 0 || s.on RING_FAULTN_HI 0))

/-! ### Epoch latches (R285 to R289) -/

/-- What one source's events of an epoch come to. -/
structure Latch where
  src : Nat
  sev : Nat
  forced : Bool
  ports : Ports
  page : Nat
  /-- CUR_CAUSE bits requested with their port sets. -/
  wide : Bool
  noCause : Bool
  /-- The page-status bits that report its events (R41). -/
  ints : List (Nat × Nat)
  bits : List (Nat × Ports)
  deriving DecidableEq, Repr

/-- The severity of an event (R282). -/
def State.eventSev (s : State) (e : FcEvent) : Nat := max 1 (s.rd FC_SEV_SEV e.src - e.drop)

/-- The CUR_CAUSE bit of an event (R283). -/
def FcEvent.curBit (e : FcEvent) : Nat :=
  match e.src with
  | 13 => cOSC | 14 => cNR | 15 => if e.bit = 4 then cOVERDRIVE else cEMISSION | 16 => cDONOR | 17 => cTXTO | 20 => cTHERM
  | _ => cOTHER

/-- The own scope of a cause is the whole device (CUR_STAT.DEVICE): those of the canceller, the lanes, the converters, the
detectors and the ports concern ports alone (Table 5-4 and the fault tables). -/
def deviceScope (page b : Nat) : Bool :=
  !([pgSLN, pgSPT, pgMEAS, pgCHF, pgRSM, pgPROT, pgRFC, pgTDD, pgLEDG].contains page || (page == pgCNX && b != 4)
    || (List.range 8).any fun m => page == pgAt pgCONVRX m || page == pgAt pgCONVTX m)

/-- The latch that the events of a source in one epoch form (R279, R282, R283, R285). -/
def State.latchOf (s : State) (n : Nat) (es : List FcEvent) : Latch :=
  let forced := es.all (·.forced)
  let real := es.filter fun e => !e.forced
  let own := real.foldl (fun (a : Ports) e => a ||| e.ports) 0
  let every := forced || s.on FC_SEV_SCOPE n
  { src := n, sev := es.foldl (fun a e => max a (s.eventSev e)) 0, forced := forced,
    ports := if every then allPorts else own,
    page := match real ++ es with | e :: _ => if e.page = 0x1000000 then srcPage n else e.page | [] => srcPage n,
    wide := every || real.any fun e => e.ports == allPorts && deviceScope e.page e.bit,
    noCause := es.all fun e => e.bit == 0,
    ints := (es.flatMap (·.ints)).eraseDups,
    bits := (es.map FcEvent.curBit).eraseDups.map fun b =>
      let of := (real.filter fun e => e.curBit == b).foldl (fun (a : Ports) e => a ||| e.ports) 0
      (b, if every then allPorts else of) }

/-- `a` ranks before `b` (R287). -/
def Latch.before (a b : Latch) : Bool := decide (b.sev < a.sev) || (a.sev == b.sev && decide (a.src < b.src))

/-- The latches of the open epoch in rank order. -/
def State.latches (s : State) : List Latch :=
  let srcs := (s.fc.events.map (·.src)).eraseDups
  (srcs.map fun n => s.latchOf n (s.fc.events.filter fun e => e.src == n)).mergeSort fun a b => a.before b

/-- The interrupt bit of a latch by its severity (FC PG_INT_STAT). -/
def sevInt (sev : Nat) : Nat := match sev with | 1 => 6 | 2 => 5 | 3 => 1 | _ => 2

/-- The Curtain request of a latch at CURTAIN severity (R283, R285). -/
def State.latchCurtain (s : State) (l : Latch) : State :=
  if l.sev ≠ sevCURTAIN then s
  else
    let fresh := portsOf ((portList l.ports).filter fun m => !s.cause m cOSC)
    let s := l.bits.foldl (fun s (b, ps) => s.request ps b l.wide l.forced) s
    let await := portsOf ((portList l.ports).filter fun m => (s.cport m).completing)
    let s := s.setFcSrc l.src fun x => { x with ports := l.ports, await := await, wide := l.wide }
    if l.src = 13 then s.oscReset fresh else s

/-- One latch of an epoch: status, pin, Curtain, first-fault record or merge, journal record and interrupt
(R281, R286 to R289, R300, R302). -/
def State.latch (s : State) (l : Latch) : State :=
  let was := s.status l.src
  let cause := if l.noCause then 0 else s.rd PG_ERR l.page
  let fills := decide (s.rd FC_CFG_FF_MIN 0 ≤ l.sev) && !s.on FC_FF_SRC_VALID 0
  let merges := decide (s.rd FC_CFG_FF_MIN 0 ≤ l.sev) && s.on FC_FF_SRC_VALID 0
  let s := s.setStatus l.src true
  let s := s.wr FC_SEV_LAST l.src l.sev
  let s := s.setFcSrc l.src fun x =>
    { x with first := if was then x.first else s.now, quiet := s.now, forced := l.forced && (x.forced || !was) }
  let s := s.cond (!was) State.pulseLatch
  let s := s.latchCurtain l
  let tick := s.rd FC_FF_TICK_LO 0 + s.rd FC_FF_TICK_HI 0 * 2 ^ 32
  let s := s.cond fills fun s =>
    let s := ((s.wr FC_FF_SRC_VALID 0 1).wr FC_FF_SRC_FORCED 0 l.forced.toNat).wr FC_FF_SRC_MAX_MERGED 0 0
    let s := ((s.wr FC_FF_SRC_SEV 0 l.sev).wr FC_FF_SRC_SOURCE 0 l.src).wr FC_FF_CAUSE 0 cause
    let s := (s.wr FC_FF_TICK_LO 0 s.now).wr FC_FF_TICK_HI 0 (s.now / 2 ^ 32)
    let s := (s.wr FC_FF_SEQ_LO 0 0xFFFFFFFF).wr FC_FF_SEQ_HI 0 0xFF
    (s.wr FC_FF_MERGE_CO_EPOCH 0 0).wr FC_FF_MERGE_MERGE 0 0
  let s := s.cond merges fun s =>
    let s := (s.satInc FC_FF_MERGE_MERGE 0).cond (tick == s.now) fun s => s.satInc FC_FF_MERGE_CO_EPOCH 0
    s.wr FC_FF_SRC_MAX_MERGED 0 (max (s.rd FC_FF_SRC_MAX_MERGED 0) l.sev)
  let ints := 2 ^ sevInt l.sev + (if fills then 1 else 0) + (if merges then 16 else 0)
    + (if 13 ≤ l.src ∧ l.src ≤ 16 then 2 ^ (16 + (l.src - 13)) else 0)
  let r := s.mkRec l.page 0x0100 l.sev l.forced
    (pf 58 6 l.src + pf 57 1 fills.toNat + pf 56 1 l.forced.toNat + cause)
  let s := s.handRec ⟨r, BitVec.ofNat 32 ints, fills, l.ints⟩
  let s := (s.setPb PbSt.flush).auditBook
  let s := s.cond (decide (s.rd STM_CAP_CFG_SEV_MIN 0 ≤ l.sev)) fun s => s.snapTrig 1
  s.alert 1

/-- FAULT_EPOCH_LATCH: the end of the arbitration epoch (R285). Every source with an event latches, in rank order. -/
def State.epochLatch (s : State) : State :=
  if s.fc.events.isEmpty then s
  else
    let s := s.reach (s.nextMul 16)
    let ls := s.latches
    ls.foldl State.latch (s.setFc fun f => { f with events := [] })

/-! ### Reports and forced events (R278, R279) -/

/-- FAULT_EVENT: a block of a page reports an occurrence of a cause for ports (R278). -/
def State.faultEvent (s : State) (page b : Nat) (ports : Ports) : State :=
  if (causeSrc page b).isSome then s.raise page b ports else s

/-- One bit of PG_ERR_FORCE (R279). -/
def State.forceBit (s : State) (page b : Nat) : State :=
  if b = 0 then s.refuse page
  else match causeSrc page b with
    | none => s
    | some n =>
      let s := s.orBits PG_ERR page (2 ^ b)
      if maskable page b && s.tst PG_ERR_MASK page b then s
      else s.deliver ⟨n, true, causeDrop page b, 0, b, page, []⟩

/-- FORCE_CAUSE: a write of PG_ERR_FORCE of a page (R279). -/
def State.forceCause (s : State) (page : Nat) (v : Word) : State :=
  if page = pgCUR then s
  else ((List.range 32).filter fun b => v.getLsbD b).foldl (fun s b => s.forceBit page b) s

/-- FORCE_SOURCE: a write of FC_FORCE_LO or FC_FORCE_HI (R279). Bits of sources 56 to 63 are ignored. -/
def State.forceSource (s : State) (hi : Bool) (v : Word) : State :=
  ((List.range 32).filter fun b => v.getLsbD b).foldl (fun s b =>
    let n := if hi then 32 + b else b
    if n < 56 then s.deliver ⟨n, true, 0, 0, 0, srcPage n, []⟩ else s) s

/-! ### Recovery (R291 to R295) -/

/-- The first-fault handling ends when every status bit reads 0 (R290). -/
def State.ffIdle (s : State) : State :=
  if s.statusList.isEmpty then s.wr FC_FF_SRC_VALID 0 0 else s

/-- A source recovers, or is cleared by the host (R292, R294, R295, R302). -/
def State.recover (s : State) (n code : Nat) : State :=
  let x := s.fcSrc n
  let forced := x.forced
  let sat := decide (s.rd FC_SEV_REC_CNT n = 254)
  let s := (s.setStatus n false).satInc FC_REC_CNT 0
  let s := s.satInc FC_SEV_REC_CNT n
  let ms := min ((s.now - x.first) / 983040) 0xFFFFFFFF
  let r := s.mkRec (srcPage n) code (s.rd FC_SEV_LAST n) false (pf 58 6 n + pf 50 8 (s.rd FC_SEV_REC_CNT n) + ms)
  let s := s.handRec ⟨r, if sat then 0x108 else 8, false, []⟩
  let s := s.setFcSrc n fun x => { x with ports := 0, await := 0, forced := true, wide := false }
  let s := s.refreshOther
  let s := s.cond (n == 20 && forced) fun s => s.clearCauses allPorts cTHERM
  s.ffIdle

/-- No port holds a cause of a source that has causes of its own. -/
def State.noneHolds (s : State) (n : Nat) : Bool :=
  (List.range 8).all fun m => (ownCauses n).all fun b => !s.cause m b

/-- SOURCE_RECOVERY: the end of a source's quiet period (R291, R292). Sources 13 to 16 recover with their ports (R293). -/
def State.sourceRecovery (s : State) (n : Nat) : State :=
  let x := s.fcSrc n
  match s.quietLen n with
  | none => s
  | some q =>
    if !s.status n || (13 ≤ n && n ≤ 16) || x.await != 0 || (x.stand != 0 && !x.forced) then s
    else (s.reach (x.quiet + q)).recover n 0x0101

/-- The per-port causes of a source clear, and the source recovers (R293, R295). -/
def State.clearOwn (s : State) (n : Nat) : State :=
  (ownCauses n).foldl (fun s b => s.clearCauses allPorts b) s

/-- One bit of a host clear (R295). -/
def State.hostClearBit (s : State) (n : Nat) : State :=
  if !s.status n then s
  else if s.standing n then (s.satInc FC_REJ_CNT 0).int pgFC 7
  else
    let s := s.recover n 0x0102
    s.cond (13 ≤ n && n ≤ 16) fun s => s.clearOwn n

/-- HOST_CLEAR: a write of FC_STATUS_LO or FC_STATUS_HI (R295). -/
def State.hostClear (s : State) (hi : Bool) (v : Word) : State :=
  ((List.range 32).filter fun b => v.getLsbD b).foldl (fun s b =>
    let n := if hi then 32 + b else b
    if n < 56 then s.hostClearBit n else s) s

/-- FIRST_FAULT_ACK: FC_FF_CTL.ACK (R290, R302). -/
def State.ackFirst (s : State) : State :=
  if !s.on FC_FF_SRC_VALID 0 then s
  else
    let n := s.rd FC_FF_SRC_SOURCE 0
    let s := s.wr FC_FF_SRC_VALID 0 0
    s.journal (srcPage n) 0x0103 sevNOTE
      (pf 58 6 n + pf 42 16 (s.rd FC_FF_MERGE_MERGE 0) + pf 26 16 (s.rd FC_FF_MERGE_CO_EPOCH 0))

/-- SEVERITY_WRITE: a write of FC_SEV_n (R284, R291, R304, Table 10-7). -/
def State.writeSev (s : State) (n : Nat) (v : Word) : State :=
  if 56 ≤ n then s
  else
    let fx := fixedSev n
    let sev := if fx then 4 else FC_SEV_SEV.of v
    let q := FC_SEV_QSEL.of v
    let sc := FC_SEV_SCOPE.of v
    if sev < 1 ∨ 4 < sev ∨ q = 7 ∨ (q = 6 ∧ fx) then s.refuse pgFC
    else
      let (os, oq, oc) := (s.rd FC_SEV_SEV n, s.rd FC_SEV_QSEL n, s.rd FC_SEV_SCOPE n)
      let s := ((s.wr FC_SEV_SEV n sev).wr FC_SEV_QSEL n q).wr FC_SEV_SCOPE n sc
      if os = sev ∧ oq = q ∧ oc = sc then s
      else s.journal (srcPage n) 0x0104 sevNOTE
        (pf 58 6 n + pf 55 3 os + pf 52 3 sev + pf 49 3 oq + pf 46 3 q + pf 45 1 oc + pf 44 1 sc)

/-! ### Protection detectors (R143 to R147) -/

/-- The Curtain scope of source 13 for a lane (Table 5-4): its transmit port, and those of its local paths' references. -/
def State.oscPorts (s : State) (n : Nat) : Ports :=
  portsOf ((s.lane n).tx :: ((lanePaths n).filter fun p => (s.path p).on && !(s.path p).remote).map
    fun p => (s.lane (s.path p).src).tx)

/-- A protection detector latches: it requests the Curtain itself, and reports to the collector, whose latch sets the
PROT interrupt bit once the record is visible (R41, R143, R285). -/
def State.detectInt (s : State) (is : List (Nat × Nat)) (b page bit : Nat) (ports : Ports) : State :=
  (s.request ports b (ports == allPorts && deviceScope page bit) false).raiseInt is page bit ports

/-- A detector whose page-status bit follows the source alone. -/
def State.detect (s : State) (b page bit : Nat) (ports : Ports) : State := s.detectInt [] b page bit ports

/-- An oscillation on a repeating lane (R144, R145): source 13, and the estimate resets of R104. -/
def State.oscillation (s : State) (n : Nat) : State :=
  if (s.lane n).active && (s.lane n).txEn then
    let ports := s.oscPorts n
    (s.detect cOSC pgPROT 1 ports).oscReset ports
  else s

/-- OSCILLATION_GROWTH: the latch of a lane whose block met the growth criterion (R144). -/
def State.oscGrowth (s : State) (n : Nat) : State :=
  if (s.lane n).osc.grow then (s.setLane n fun l => { l with osc := { l.osc with grow := false } }).oscillation n else s

/-- OSCILLATION_LINE: the latch of a lane whose span met the line criterion (R145). -/
def State.oscLine (s : State) (n : Nat) : State :=
  if (s.lane n).osc.line then (s.setLane n fun l => { l with osc := { l.osc with line := false } }).oscillation n else s

/-- OVERDRIVE_DETECTED: the latch of a transmit port whose window met the criterion (R146). -/
def State.overdrive (s : State) (m : Nat) : State :=
  if s.on CONVTX_CFG_EN m && (s.cv (8 + m)).odMet then
    (s.setCv (8 + m) fun c => { c with odMet := false }).detect cOVERDRIVE pgPROT 4 (portBit m)
  else s

/-- EMISSION_DETECTED: the latch of a band that stood above its limit in two consecutive windows (R147). -/
def State.emission (s : State) (m b : Nat) : State :=
  if s.on CONVTX_CFG_EN m && (s.cv (8 + m)).emMet.getLsbD b then
    (s.setCv (8 + m) fun c => { c with emMet := c.emMet &&& ~~~BitVec.ofNat 4 (2 ^ b) }).detect cEMISSION pgPROT 3 (portBit m)
  else s

/-! ### Curtain commands -/

/-- A write of CUR_HOST (R151, R157): newly set ports come behind the Curtain, cleared ones lose the HOST cause. -/
def State.writeCurHost (s : State) (v : Word) : State :=
  let shut : Ports := if CUR_HOST_ALL.of v = 1 then allPorts else BitVec.ofNat 8 (CUR_HOST_SHUT.of v)
  let old := portsOf ((List.range 8).filter fun m => s.cause m cHOST)
  let s := (s.wr CUR_HOST_ALL 0 (CUR_HOST_ALL.of v)).wr CUR_HOST_SHUT 0 (CUR_HOST_SHUT.of v)
  let s := s.cond (shut &&& ~~~old != 0) fun s => s.request (shut &&& ~~~old) cHOST false false
  s.clearCauses (old &&& ~~~shut) cHOST

/-- CURTAIN_COMPLETE on ports whose Curtain is under way (R153). A PAUSE waits for every port (R28). -/
def State.curtainComplete (s : State) (ports : Ports) : State :=
  ((portList ports).filter fun m => (s.cport m).completing).foldl State.completePort s

/-- The quiet period of a port's protection cause may end (R157): source 16 needs valid timing, source 17 the presence of
R217, unless forced events alone set the cause (R283). -/
def State.quietReady (s : State) (m b : Nat) : Bool :=
  (s.cport m).forced.getLsbD b || (b ≤ 3) || (b == cDONOR && !s.standing 16) || (b == cTXTO && !(s.fcSrc 17).stand.getLsbD m)

/-- PORT_QUIET_PERIOD_END: a cause of source 13 to 17, or a forced THERM, clears on a port, and a source of 13 to 16
recovers with its last cause (R157, R217, R293). -/
def State.portQuietEnd (s : State) (m b : Nat) : State :=
  match causeOwner b with
  | none => s
  | some n =>
    match s.quietLen n, (s.cport m).completing || !s.cause m b || !s.quietReady m b || (b == cTHERM) with
    | some q, false =>
      let from_ := (s.cport m).quiet.get 0 b
      let from_ := if b = cDONOR then max from_ (if (s.cport m).forced.getLsbD b then 0 else (s.fcSrc n).quiet)
        else from_
      let s := (s.reach (from_ + q)).clearCause m b
      if n ≤ 16 && s.noneHolds n && s.status n then s.recover n 0x0101 else s
    | _, _ => s

/-- LIFT_COMPLETE: an FDD port that settles releases its DAC; on a TDD port the turn-round that serves the lift ends it
(R158). -/
def State.liftComplete (s : State) (m : Nat) : State :=
  match (s.cport m).lift with
  | .settle t => if s.held m then s else (s.reach (s.releaseAt m t)).liftDone m
  | .turning =>
    if (s.rport m).turn.isNone && s.portState m == stTX then s.liftDone m else s
  | _ => s

/-- A write of CUR_RELEASE (R161). -/
def State.curRelease (s : State) (v : Word) : State :=
  let ps := portList (BitVec.ofNat 8 (CUR_RELEASE_PORTS.of v))
  let clr := CUR_RELEASE_CLR_HIST.of v
  let latched := ps.filter fun m => s.cause m cLATCH
  let stands := fun m => (s.causes m).any fun b => b != cLATCH && b != cSTATE
  let ok := latched.filter fun m => !stands m
  let bad := latched.filter stands
  let s := s.cond (clr == 1) fun s => ps.foldl (fun s m => s.setCport m fun c => { c with hist := [] }) s
  let s := ok.foldl (fun s m =>
    (((s.putBit CUR_STAT_LATCHED 0 m false).setCport m fun c => { c with counted := false })).clearCause m cLATCH) s
  let s := s.cond (!ok.isEmpty) fun s => s.journal pgCUR 0x0204 sevNOTE (pf 56 8 (portsOf ok).toNat + pf 55 1 clr)
  if bad.isEmpty then s
  else (s.satInc CUR_REJ_CNT 0).journalInt [(pgCUR, 3)] pgCUR 0x0205 sevMINOR (pf 56 8 (portsOf bad).toNat)

/-- The lane sample at or before now at which a lane's cap was last updated, as a tick (R162). -/
def State.capTick (s : State) (n : Nat) : Nat := s.now / (s.lane n).period * (s.lane n).period

/-- The back-off cap of a lane at its last lane sample, in units of code / 983,040,000: it rises by 64 codes a dB at RATE
dB/s, from a lane sample after a write of RATE at the new one (R162). -/
def State.capNow (s : State) (n : Nat) : Option Nat :=
  let l := s.lane n
  let t := s.capTick n
  l.cap.map fun c => match l.capNext with
    | some (r, u) => c + (min t u - l.capAt) * l.capRate * 64 + (t - max u l.capAt) * r * 64
    | none => c + (t - l.capAt) * l.capRate * 64

/-- A cap in units of the gain code. DESIGN CHOICE (log 94): the rule gives no rounding; R5 is followed. -/
def capCode (c : Nat) : Nat := min 4095 (roundDiv c tps).toNat

/-- The cap of a lane brought up to its last lane sample, with PROT_LANE_STAT.CAP. -/
def State.bringCap (s : State) (n : Nat) : State :=
  match s.capNow n with
  | none => s
  | some c =>
    let t := s.capTick n
    (s.setLane n fun l =>
      let (r, nx) := match l.capNext with
        | some (r, u) => if u ≤ t then (r, none) else (l.capRate, some (r, u))
        | none => (l.capRate, none)
      { l with cap := some c, capAt := max t l.capAt, capRate := r, capNext := nx }).wr PROT_LANE_STAT_CAP n (capCode c)

/-- A write of PROT_RAMP changes the rise of every running cap from the next lane sample (R162). -/
def State.newRate (s : State) (r : Nat) : State :=
  (List.range 32).foldl (fun (s : State) n =>
    if (s.lane n).cap.isSome then
      (s.bringCap n).setLane n fun l => { l with capNext := some (r, (s.now / l.period + 1) * l.period) }
    else s) s

/-- BACKOFF_END: at the next lane sample whose number is a multiple of 1,024 the cap ends, where it has come up to the
lower of the request and LIMIT (R162). -/
def State.backoffEnd (s : State) (n : Nat) : State :=
  if (s.lane n).cap.isNone then s
  else
    let s := (s.toSample (evCAP + n) n 1024).bringCap n
    if min (s.lane n).request (s.rd LANE_GAIN_LIMIT n) * tps ≤ ((s.lane n).cap.getD 0) then s.endCap n else s

/-- The path's subtraction starts at the lane sample of R79. -/
def State.pathStart (s : State) (p : Nat) : State :=
  let x := s.path p
  if x.on && !x.running then
    (s.reach (x.startAt * (s.lane (victim p)).period)).setPath p fun x => { x with running := true }
  else s

/-- SLN_PARITY_ERROR: the search is discarded and repeated (R115). -/
def State.slnParity (s : State) : State :=
  match s.cnx.search with
  | none => s
  | some (p, _) => s.raise pgSLN 1 (portBit (s.lane (victim p)).tx)

/-- TAP_UPDATE at the next lane sample of a victim: each unfrozen path whose interval 2^UPD ends there adapts (R94, R95).
`ecc`: corrected errors of the tap memory since the last (CNX_ECC_CNT). DESIGN CHOICE (log 95): the rule does not say whether
the taps adapt between the accepted enable and the start of subtraction; they do. -/
def State.tapUpdate (s : State) (n ecc : Nat) : State :=
  let s := (s.toSample (evTAP + n) n 1).cond (decide (0 < ecc)) fun s => s.satAdd CNX_ECC_CNT 0 ecc
  let k := s.sampleNo n
  (lanePaths n).foldl (fun s p =>
    let x := s.path p
    if x.on && k % 2 ^ x.upd == 0 then
      let s := s.setPath p fun x => { x with refLow := s.refQuiet p }
      if s.frozen p then s else s.lms p k
    else s) s

end Sys2Proof.Machine
end

