-- ==== Sys2Proof/Machine/Pb.lean ====
section
/-! DEFINITION. The commands of the prompt book (spec/11_prompt_book.md): admission after a wait, the fold and rate-limit
windows, flushing and the journal audit, the power-fail flush, the restore, reading and verifying. -/
namespace Sys2Proof.Machine
open Sys2Proof

/-- RECORD_ARRIVAL: a block of a page hands a record to the recorder. -/
def State.recordArrival (s : State) (page : Nat) (code : BitVec 16) (sev : Nat) (payload : BitVec 64) : State :=
  s.journal page code.toNat (max 1 (min 4 sev)) payload.toNat

/-- Staging holds fewer than 7,168 records: the condition of WAITED is met (Table 11-6). -/
def State.waitMet (s : State) : State :=
  if s.pb.staging.length + s.pb.held.length < 7168 ∧ s.pb.waiting.isEmpty then s.unstand 4 3 else s

/-- RECORD_ADMITTED_AFTER_WAIT: the first waiting record is admitted with LATE once a place is free (R312). -/
def State.letWaiting (s : State) : State :=
  match s.pb.waiting with
  | [] => s
  | w :: rest =>
    if 8192 ≤ s.pb.staging.length + s.pb.held.length ∨ s.pb.pf then s
    else
      let s := s.setPb fun p => { p with waiting := rest }
      let s := if s.pb.restored then (s.closeOpen.enter w true).audited
        else s.holdRec { w with r := { w.r with late := true } }
      s.waitMet

/-- FOLD_WINDOW_EXPIRY: the open record closes 60 s after its issue (R310). -/
def State.foldEnd (s : State) : State :=
  match s.pb.openRec with
  | none => s
  | some r => (s.reach (r.issued + (secT 60 : Nat)).toNat).closeOpen.audited

/-- RATE_LIMIT_WINDOW_END (R311). -/
def State.rateEnd (s : State) : State :=
  if s.on PB_CFG_COMPAT 0 then (s.toMul evRATE 0 (msT (max 1 (s.rd PB_CFG_RL_WIN 0)))).rlEnd.audited else s

/-- PB_CFG_WRITE (R310, R311, R323). -/
def State.writePbCfg (s : State) (v : Word) : State :=
  if PB_CFG_RL_MAX.of v = 0 ∨ PB_CFG_RL_WIN.of v = 0 then s.refuse pgPB
  else
    let s := s.cond (PB_CFG_COMPAT.of v != s.rd PB_CFG_COMPAT 0) fun s =>
      s.closeOpen.audited.setPb fun p => { p with rlWin := s.rlNow, rlIssued := [], rlSupp := [] }
    s.wrWord [PB_CFG_COMPAT, PB_CFG_RL_MAX, PB_CFG_RL_WIN] 0 v

/-- FLUSH_PERIODIC: every 250 ms of the timebase (R313). -/
def State.flushPeriodic (s : State) : State :=
  let s := s.toMul evFLUSH 0 (msT 250)
  s.auditBook.setPb PbSt.flush

/-- The unit of BOOK that holds a record (Table 12-3). -/
def State.bookUnit (s : State) (r : Rec) : Nat := ((if r.area = .main then 0 else s.pb.mainCap) + r.slot) / 128

/-- RECORD_CONFIRMED: the NAND program of a record that was handed over is confirmed, and the record leaves staging (R34). -/
def State.confirm (s : State) (seq : BitVec 40) : State :=
  match s.pb.staging.find? fun r => r.seq == seq with
  | none => s
  | some r =>
    if r.closed && r.handed && decide (0 < s.pb.mainCap) then
      let s := s.programmed 0 (s.bookUnit r) 1
      let s := s.setPb fun p => { p with staging := p.staging.filter (fun x => x.seq != seq), book := p.book ++ [r] }
      s.waitMet
    else s

/-- PFAIL_ASSERT: PFAIL_N falls (`supply` false) or a supply alarm occurs (R316): the open record closes, the power-fail
record is issued and closed, the head line is written, and no further number is issued. Before the restore after a loss of
supplies the vault still holds what it has to restore, and stays as it is. -/
def State.pfail (s : State) (supply : Bool) : State :=
  let s := s.setPb fun p => { p with pfailLow := p.pfailLow || !supply }
  if s.pb.pf then s
  else
    let s := s.closeOpen
    let s := if s.pb.restored then
        let r := s.mkRec pgPB 0x0004 sevMAJOR false (pf 63 1 supply.toNat)
        (s.enter ⟨r, 0, false, []⟩ false).closeOpen.audited
      else s
    let s := s.satInc PB_VAULT_PF_CNT 0
    if s.pb.cold && !s.pb.restored then s.setPb fun p => { p with pf := true, pfDone := false, pfEvents := 0 }
    else s.setPb fun p =>
      { p with pf := true, pfDone := false, pfEvents := 0, markDone := false, vault := [],
               head := { valid := true, next := p.next, tag := p.lastTag, hmac := p.hmac, events := 0 } }

/-- VAULT_FLUSH_COMPLETE: every unconfirmed record is in the vault and the completion mark is written (R316). -/
def State.vaultDone (s : State) : State :=
  if s.pb.pf && !s.pb.pfDone then
    s.setPb fun p =>
      if p.cold && !p.restored then { p with pfDone := true } else { p with pfDone := true, markDone := true, vault := p.staging }
  else s

/-- A gap record is issued for `k` numbers from `n` (R317, R322). -/
def State.gapRecord (s : State) (n k : Nat) : State :=
  s.journalInt [(pgPB, 6)] pgPB 0x0002 sevMAJOR (pf 40 24 k + n % 2 ^ 40)

/-- The gap records that a power-fail warning has put off are issued. -/
def State.gapsOwed (s : State) : State :=
  let l := s.pb.owed
  l.foldl (fun (s : State) x => s.gapRecord x.1.toNat x.2) (s.setPb fun p => { p with owed := [] })

/-- Recording resumes after a power-fail warning without a reset (R316). -/
def State.resumeRecording (s : State) : State :=
  if s.pb.pf && !s.pb.pfailLow && s.rd SYS_SUPPLY_UNDER_NOW 0 == 0 then
    let s := s.vaultDone
    let s := s.setPb fun p =>
      if p.cold && !p.restored then { p with pf := false, pfDone := false }
      else { p with pf := false, pfDone := false, vault := [], markDone := false, head := { p.head with valid := false } }
    (s.journal pgPB 0x0005 sevNOTE 0).gapsOwed
  else s

/-- PFAIL_DEASSERT: PFAIL_N rises again without any reset (R316). -/
def State.pfailRise (s : State) : State :=
  (s.setPb fun p => { p with pfailLow := false }).resumeRecording

/-- The highest-numbered record held complete on NAND, in the vault or in staging (R317). -/
def PbSt.lastHeld (p : PbSt) : Option Rec :=
  (p.book ++ p.staging).foldl (fun a r => match a with
    | some x => if x.seq.toNat < r.seq.toNat then some r else a
    | none => some r) none

/-- VAULT_RESTORE (R317, R451): the vault's records go to NAND, the journal is audited, lost numbers are named, and the
start record is issued; then the held records take their numbers. `cold` is set after a loss of supplies. -/
def State.restore (s : State) (kind : Nat) (cold : Bool) : State :=
  if s.pb.restored then s
  else
    let n := s.pb.vault.length
    let events := if cold then s.pb.head.events else s.pb.pfEvents
    let lostMark := cold && !s.pb.markDone
    let valid := s.pb.head.valid
    let back := s.pb.vault.filter fun r => !(s.pb.book.any fun b => b.seq == r.seq)
    let s := s.cond (cold && decide (0 < s.pb.mainCap)) fun s =>
      back.foldl (fun (s : State) r => s.programmed 0 (s.bookUnit r) 1) s
    let s := s.setPb fun p =>
      if cold then
        { p with book := if 0 < p.mainCap then p.book ++ back else p.book,
                 staging := if 0 < p.mainCap then [] else back.map fun r => { r with handed := false },
                 next := if valid then p.head.next else BitVec.ofNat 40 p.reserve,
                 lastTag := p.head.tag, hmac := if valid then p.head.hmac else s.boot.slot0.isSome }
      else p
    let s := s.setPb fun p => { p with restored := true, cold := false, pf := false, pfDone := false, vault := [], markDone := false,
                                       pfEvents := 0, head := { p.head with valid := false, events := 0 } }
    let s := if lostMark then
        let last := s.pb.lastHeld
        let from_ := match last with | some r => r.seq.toNat + 1 | none => s.pb.first.toNat
        let s := s.setPb fun p => { p with lastTag := match last with | some r => r.tag | none => 0 }
        let k := s.pb.next.toNat - from_
        let s := if 0 < k then s.gapRecord from_ k else s
        s.raise pgPB 4 allPorts
      else s
    let s := s.auditBook.gapsOwed
    let s := if s.pb.opening then
        let n := s.pb.next
        let s := s.setPb fun p => { p with opening := false, first := n }
        (s.setStm fun x => { x with fmt := { x.fmt with first := n } }).journal pgPB 0x0000 sevNOTE
          (pf 24 40 n.toNat + s.rd STM_PART_P16 0 * 16)
      else s
    let chain := s.boot.slot0.isSome && (!s.pb.hmac || (cold && !valid))
    let s := s.journal pgPB 0x0001 sevNOTE (pf 61 3 kind + pf 16 16 events + pf 0 16 (if cold then n else 0))
    let s := if chain then
        let s := s.closeOpen.setPb fun p => { p with hmac := true }
        s.journal pgPB 0x0003 sevNOTE 2
      else s
    let held := s.pb.held
    let s := s.setPb fun p => { p with held := [] }
    held.foldl (fun s w => s.closeOpen.enter w w.r.late) s

/-- The code of a reset kind in the start record (Table 11-4). -/
def ResetKind.code : ResetKind → Nat
  | .powerOn => 0 | .pin => 1 | .host => 2 | .ring => 3 | .fabric => 4

/-- VAULT_RESTORE at the start after the last reset: it needs an OWN medium (R328, R451). -/
def State.restoreStart (s : State) : State :=
  if s.on STM_STAT_READY 0 && s.rd STM_STAT_MEDIUM 0 == 2 then s.restore s.boot.kind.code s.pb.cold else s

/-- STAGING_UNCORR: the staging read of a record fails and the record is lost (R322): a gap record names it. The tag of
an open record that is lost is not known. After the power-fail warning no number is issued (R316), so the gap record waits for
the recording to resume, or for the restore. DESIGN CHOICE (log 105): the vault carries what it is to name. -/
def State.stagingLost (s : State) (seq : BitVec 40) : State :=
  match s.pb.staging.find? fun r => r.seq == seq with
  | none => s
  | some r =>
    let (v, s) := if r.closed then (s.pb.lastTag, s) else
      let (k, s) := s.draw
      ((Config.freeValue k).setWidth 32, s)
    let s := s.setPb fun p => { p with staging := p.staging.filter (fun x => x.seq != seq), lastTag := v }
    let s := s.raise pgPB 2 allPorts
    if s.pb.pf then s.setPb fun p => { p with owed := p.owed ++ [(seq, 1)] } else s.gapRecord seq.toNat 1

/-- VAULT_LINE_UNCORR: the line is rewritten in its next slot (R322). -/
def State.vaultUncorr (s : State) : State := s.raise pgPB 5 allPorts

/-- PB_READ_GO (R320). -/
def State.pbReadGo (s : State) : State :=
  let n := BitVec.ofNat 40 (s.rd PB_RD_SEQ_HI 0 * 2 ^ 32 + s.rd PB_RD_SEQ_LO 0)
  (s.setPb fun p => { p with rdPending := some n }).wr PB_RD_STAT_DONE 0 0

/-- The words of a record with its tag; the tag of an open record reads 0 (R320). -/
def Rec.words8 (r : Rec) : List Word := r.words ++ [if r.closed then r.tag else 0]

/-- The words that a tombstone is read as (Table 11-3, R320). -/
def Tomb.words8 (t : Tomb) : List Word :=
  [t.seq.setWidth 32,
   BitVec.ofNat 32 (t.seq.toNat / 2 ^ 32 + t.sev.toNat * 2 ^ 8 + t.code.toNat * 2 ^ 16), t.tag, t.sec, 0, 0, 0, 0]

/-- A record of the book can be read: the medium is present, and its unit is not uncorrectable (R334). -/
def State.onNand (s : State) (r : Rec) : Bool :=
  decide (0 < s.pb.mainCap)
    && !s.stm.badUnits.contains (0, s.bookUnit r)

/-- Where a number is held, with its words (R320). -/
def State.findNumber (s : State) (n : BitVec 40) : Nat × Bool × Option (List Word) :=
  match s.pb.staging.find? fun r => r.seq == n with
  | some r => (1, !r.closed, some r.words8)
  | none => match s.pb.vault.find? fun r => r.seq == n with
    | some r => (2, false, some r.words8)
    | none => match s.pb.book.find? fun r => r.seq == n && s.onNand r with
      | some r => (if r.area = .main then 3 else 4, false, some r.words8)
      | none => match s.pb.tombs.find? fun t => t.seq == n with
        | some t => (5, false, some t.words8)
        | none => (0, false, none)

/-- PB_READ_DONE (R320). -/
def State.pbReadDone (s : State) : State :=
  match s.pb.rdPending with
  | none => s
  | some n =>
    let (w, o, ws) := s.findNumber n
    let s := s.setPb fun p => { p with rdPending := none }
    let s := match ws with
      | some l => (l.zipIdx).foldl (fun (s : State) (x : Word × Nat) => s.wr PB_RD_DATA x.2 x.1.toNat) s
      | none => s
    (((s.wr PB_RD_STAT_DONE 0 1).wr PB_RD_STAT_WHERE 0 w).wr PB_RD_STAT_OPEN 0 o.toNat).int pgPB 4

/-- VERIFY_GO: a write of PB_VFY_CTL.GO, ignored while BUSY (R321). -/
def State.verifyGo (s : State) : State :=
  if s.on PB_VFY_STAT_BUSY 0 then s
  else
    let n := BitVec.ofNat 40 (s.rd PB_VFY_FROM_HI 0 * 2 ^ 32 + s.rd PB_VFY_FROM_LO 0)
    let s := s.setPb fun p => { p with vfyNext := n, vfyLeft := s.rd PB_VFY_CNT 0, vfyStop := false }
    (((s.wr PB_VFY_STAT_BUSY 0 1).wr PB_VFY_STAT_DONE 0 0).wr PB_VFY_STAT_FAIL 0 0).wr PB_VFY_DONE_CNT 0 0

/-- VERIFY_STOP (R321). -/
def State.verifyStop (s : State) : State :=
  if s.on PB_VFY_STAT_BUSY 0 then s.setPb fun p => { p with vfyStop := true } else s

/-- The tag of a number that is held closed, as a record or a tombstone. -/
def State.tagOf (s : State) (n : Nat) : Option Word :=
  match (s.pb.staging ++ s.pb.book).find? fun r => r.seq.toNat == n && r.closed with
  | some r => some r.tag
  | none => (s.pb.tombs.find? fun t => t.seq.toNat == n).map (·.tag)

/-- A record of a number fails verification (R320, R321): its predecessor's tag is known and its own tag does not follow. -/
def State.badNumber (s : State) (n : Nat) : Bool :=
  match (s.pb.staging ++ s.pb.book).find? fun r => r.seq.toNat == n && r.closed with
  | none => false
  | some r =>
    let prev := if n = 0 then some 0 else s.tagOf (n - 1)
    match prev with
    | some t => r.chainTag t s.chainKey != r.tag && r.chainTag t none != r.tag
    | none => false

/-- VERIFY_DONE: verification ends, after `k` records where STOP ended it (R321). -/
def State.verifyDone (s : State) (k : Nat) : State :=
  if !s.on PB_VFY_STAT_BUSY 0 then s
  else
    let cnt := if s.pb.vfyStop then min k s.pb.vfyLeft else s.pb.vfyLeft
    let from_ := s.pb.vfyNext.toNat
    let bad := (s.pb.numbers.filter fun n => decide (from_ ≤ n) && decide (n < from_ + cnt) && s.badNumber n)
    let s := ((s.wr PB_VFY_STAT_BUSY 0 0).wr PB_VFY_STAT_DONE 0 1).wr PB_VFY_DONE_CNT 0 cnt
    let s := match bad with
      | [] => s
      | b :: bs =>
        let m := bs.foldl min b
        ((s.wr PB_VFY_STAT_FAIL 0 1).wr PB_VFY_BAD_LO 0 m).wr PB_VFY_BAD_HI 0 (m / 2 ^ 32)
    s.int pgPB 5

end Sys2Proof.Machine
end

