-- ==== Sys2Proof/Machine/Twc.lean ====
section
/-! DEFINITION. The two-wire controllers TWC_0 and TWC_1 (spec/16_two_wire_ports.md R432 to R437): transactions, host
commands, polling, the regulator request and the bus clear. Controller q is 0 or 1; the entry e of controller q has index
256q + e, and the data register i index 1024q + i, by the strides of the pages. -/
namespace Sys2Proof.Machine
open Sys2Proof

def State.tw (s : State) (q : Nat) : TwcSt := s.twc.get {} q
def State.setTw (s : State) (q : Nat) (f : TwcSt → TwcSt) : State := { s with twc := s.twc.set q (f (s.tw q)) }
def pollIx (q e : Nat) : Nat := 256 * q + e
def twPage (q : Nat) : Nat := pgAt pgTWC q
/-- The fault source of a controller. -/
def twSrc (q : Nat) : Nat := 23 + q

/-- The regulator code of a request (R435). -/
def State.regCode (s : State) (q mv : Nat) : Nat :=
  let x := roundDiv (((mv : Int) - sx 16 (s.rd TWC_REG_MAP_BASE q)) * s.rd TWC_REG_MAP_MUL q) 65536
  (max 0 (min x ((2 ^ (8 * (s.rd TWC_REG_CFG_LEN q + 1)) : Nat) - 1))).toNat

/-- A regulator request fails: it stays at the head, and is sent again 1 ms later, where no newer one waits (R435). -/
def State.regFail (s : State) (q mv res : Nat) : State :=
  let s := s.setTw q fun t => if t.regWait.isSome then t else { t with regWait := some mv, retryAt := some (s.now + msT 1) }
  let s := ((s.wr TWC_REG_STAT_RESULT q res).satInc TWC_REG_STAT_FAILS q).int (twPage q) 3
  (s.raise (twPage q) 2 allPorts).stand (twSrc q) 2

/-- A regulator request succeeds. -/
def State.regDone (s : State) (q mv : Nat) : State :=
  (((s.wr TWC_REG_STAT_RESULT q 0).wr TWC_REG_STAT_MV q mv)).unstand (twSrc q) 2

/-- A host command ends (R433): read bytes replace the data from byte 0. -/
def State.cmdEnd (s : State) (q res acked : Nat) (bs : List Byte) : State :=
  let s := ((s.wr TWC_CMD_STAT_BUSY q 0).wr TWC_CMD_STAT_RESULT q res).wr TWC_CMD_STAT_BYTES q (if res = 2 then acked else 0)
  let s := (bs.zipIdx).foldl (fun (s : State) (b, k) =>
    s.wrBits TWC_DATA (1024 * q + k / 4) (8 * (k % 4)) 8 b.toNat) s
  let s := s.int (twPage q) 0
  s.cond (res != 0) fun s => s.int (twPage q) 1

/-- A poll fails (R434). -/
def State.pollFail (s : State) (q e : Nat) : State :=
  (((s.wr TWC_POLL_RES_FAIL (pollIx q e) 1).satInc TWC_FAIL_CNT q).int (twPage q) 2).raise (twPage q) 3 allPorts

/-- A poll succeeds (R434): with BE the first byte read is the more significant. -/
def State.pollDone (s : State) (q e : Nat) (bs : List Byte) : State :=
  let i := pollIx q e
  let b0 := (bs.getD 0 0).toNat
  let b1 := (bs.getD 1 0).toNat
  let v := if s.on TWC_POLL_A_LEN i then (if s.on TWC_POLL_A_BE i then 256 * b0 + b1 else b0 + 256 * b1) else b0
  ((s.wr TWC_POLL_RES_RAW i v).wr TWC_POLL_RES_VALID i 1).wr TWC_POLL_RES_FAIL i 0

/-- Every waiting item completes with RESULT 6 (R436). -/
def State.failWaiting (s : State) (q : Nat) : State :=
  let t := s.tw q
  let s := s.setTw q fun t => { t with regWait := none, cmdWait := false, polls := [] }
  let s := match t.regWait with | some mv => s.regFail q mv 6 | none => s
  let s := s.cond t.cmdWait fun s => s.cmdEnd q 6 0 []
  t.polls.foldl (fun s e => s.pollFail q e) s

/-- A bus clear starts (R436). -/
def State.clearStart (s : State) (q : Nat) : State :=
  (s.setTw q fun t => { t with clear := true, clearReq := false }).satInc TWC_CLEAR_CNT q

/-- An item waits and may start now. -/
def State.twWaiting (s : State) (q : Nat) : Option TwItem :=
  let t := s.tw q
  match t.regWait, t.retryAt with
  | some mv, none => some (.reg mv)
  | some mv, some r => if r ≤ s.now then some (.reg mv) else
      (if t.cmdWait then some .host else t.polls.head?.map .poll)
  | none, _ => if t.cmdWait then some .host else t.polls.head?.map .poll

/-- An item starts (R432). -/
def State.twStart (s : State) (q : Nat) (i : TwItem) : State :=
  let s := (s.wr TWC_STAT_BUSY q 1).satInc TWC_XFER_CNT q
  match i with
  | .reg mv => s.setTw q fun t => { t with run := some i, code := s.regCode q mv, regWait := none, retryAt := none }
  | .host => s.setTw q fun t => { t with run := some i, cmdWait := false }
  | .poll e => s.setTw q fun t => { t with run := some i, polls := t.polls.filter (· != e) }

/-- An idle controller starts the first item that waits, after a bus clear where one is due (R432, R436). -/
def State.twNext (s : State) (q : Nat) : State :=
  let t := s.tw q
  if !s.on TWC_CFG_EN q || t.run.isSome || t.clear then s
  else if t.clearReq then s.clearStart q
  else match s.twWaiting q with
    | none => s
    | some i =>
      if s.on TWC_STAT_STUCK q || !s.on TWC_STAT_SDA q then
        match t.failAt with
        | some f => if s.now < f + msT 10 then s.failWaiting q else s.clearStart q
        | none => s.clearStart q
      else s.twStart q i

/-- The result of the item that ran. -/
def State.twResult (s : State) (q res acked : Nat) (bs : List Byte) : State :=
  match (s.tw q).run with
  | none => s
  | some i =>
    let s := ((s.setTw q fun t => { t with run := none }).wr TWC_STAT_BUSY q 0).wr TWC_STAT_LAST q res
    match i with
    | .reg mv => if res = 0 then s.regDone q mv else s.regFail q mv res
    | .host => s.cmdEnd q res acked (if res = 0 ∨ res = 5 then bs.take (s.rd TWC_CMD_RLEN q) else [])
    | .poll e => if res = 0 then s.pollDone q e bs else s.pollFail q e

/-- TWC_TRANSACTION_DONE: the transaction ends with a result of Table 16-4, the bytes read and those acknowledged. -/
def State.twDone (s : State) (q res acked : Nat) (bs : List Byte) : State :=
  if (s.tw q).run.isNone then s
  else
    let s := s.twResult q res acked bs
    let s := s.cond (res == 3 || res == 4 || res == 7) fun s => s.setTw q fun t => { t with clearReq := true }
    s.twNext q

/-- BUS_CLEAR_DONE (R436): SDA reads high within nine pulses, or the clear fails. -/
def State.clearDone (s : State) (q : Nat) (ok : Bool) : State :=
  if !(s.tw q).clear then s
  else
    let s := s.setTw q fun t => { t with clear := false, failAt := if ok then none else some s.now }
    let s := (s.wr TWC_STAT_SDA q ok.toNat).wr TWC_STAT_STUCK q (!ok).toNat
    if ok then (s.unstand (twSrc q) 1).twNext q
    else (((s.raise (twPage q) 1 allPorts).stand (twSrc q) 1).int (twPage q) 4).failWaiting q

/-- TWC_ABORT: the transaction is abandoned at once, and a bus clear runs. -/
def State.twAbort (s : State) (q : Nat) : State :=
  let s := s.twResult q 7 0 []
  (s.setTw q fun t => { t with clearReq := true }).twNext q

/-- TWC_CLEAR. -/
def State.twClear (s : State) (q : Nat) : State := (s.setTw q fun t => { t with clearReq := true }).twNext q

/-- A write of TWC_CTL. -/
def State.writeTwcCtl (s : State) (q : Nat) (v : Word) : State :=
  let s := s.cond (TWC_CTL_ABORT.of v == 1) fun s => s.twAbort q
  s.cond (TWC_CTL_CLEAR.of v == 1) fun s => s.twClear q

/-- A write of TWC_CMD (R433). -/
def State.writeTwcCmd (s : State) (q : Nat) (v : Word) : State :=
  let w := TWC_CMD_WLEN.of v
  let r := TWC_CMD_RLEN.of v
  if 32 < w ∨ 32 < r then s.refuse (twPage q)
  else if TWC_CMD_GO.of v = 1 ∧ (s.on TWC_CMD_STAT_BUSY q ∨ 33 < w + r + TWC_CMD_PEC.of v) then s.refuse (twPage q)
  else
    let s := s.wrWord [TWC_CMD_PEC, TWC_CMD_WLEN, TWC_CMD_RLEN, TWC_CMD_ADDR] q v
    if TWC_CMD_GO.of v = 0 then s
    else ((s.wr TWC_CMD_STAT_BUSY q 1).setTw q fun t => { t with cmdWait := true }).twNext q

/-- POLL_DUE: the next multiple of PERIOD ms of the tick count (R434). -/
def State.pollDue (s : State) (q e : Nat) : State :=
  let i := pollIx q e
  if !s.on TWC_POLL_A_EN i then s
  else
    let s := s.toMul (evPOLL + 16 * q + e) 0 (983040 * max 1 (s.rd TWC_POLL_B i))
    if (s.tw q).polls.contains e then s.satInc TWC_POLL_SKIP_CNT q
    else (s.setTw q fun t => { t with polls := t.polls.filter (· < e) ++ e :: t.polls.filter (e < ·) }).twNext q

/-- A write of TWC_POLL_A: enabling an entry clears VALID; a disabled entry no longer waits. -/
def State.writePollA (s : State) (q e : Nat) (v : Word) : State :=
  let i := pollIx q e
  let was := s.on TWC_POLL_A_EN i
  let s := s.wrWord [TWC_POLL_A_EN, TWC_POLL_A_PEC, TWC_POLL_A_SIGNED, TWC_POLL_A_BE, TWC_POLL_A_LEN, TWC_POLL_A_SHIFT,
    TWC_POLL_A_ADDR, TWC_POLL_A_CMD] i v
  let s := s.cond (!was && s.on TWC_POLL_A_EN i) fun s => s.wr TWC_POLL_RES_VALID i 0
  s.cond (!s.on TWC_POLL_A_EN i) fun s => s.setTw q fun t => { t with polls := t.polls.filter (· != e) }

/-- The regulator port (R435). -/
def State.regPort (s : State) : Option Nat := [0, 1].find? fun q => s.on TWC_REG_CFG_EN q

/-- A core-supply request becomes the regulator request, in place of one that has not started (R435). -/
def State.regRequest (s : State) (mv : Nat) : State :=
  match s.regPort with
  | none => s.satInc TWC_REG_DROP_CNT 0
  | some q => (s.setTw q fun t => { t with regWait := some mv, retryAt := none }).twNext q

/-- A write of TWC_REG_CFG: one controller alone is the regulator port. -/
def State.writeRegCfg (s : State) (q : Nat) (v : Word) : State :=
  if TWC_REG_CFG_EN.of v = 1 ∧ s.on TWC_REG_CFG_EN (1 - q) then s.refuse (twPage q)
  else s.wrWord [TWC_REG_CFG_EN, TWC_REG_CFG_PEC, TWC_REG_CFG_BE, TWC_REG_CFG_LEN, TWC_REG_CFG_ADDR, TWC_REG_CFG_CMD] q v

/-- REGULATOR_RETRY: 1 ms after the failure (R435). -/
def State.regRetry (s : State) (q : Nat) : State :=
  match (s.tw q).retryAt with
  | none => s
  | some t => (((s.reach t).setTw q fun t => { t with retryAt := none })).twNext q

/-- A write of TWC_CFG. A port that is disabled releases its balls, and starts nothing. -/
def State.writeTwcCfg (s : State) (q : Nat) (v : Word) : State :=
  if TWC_CFG_STRETCH.of v = 0 then s.refuse (twPage q)
  else (s.wrWord [TWC_CFG_EN, TWC_CFG_STRETCH] q v).twNext q

/-- Writes of TWC_TIME_A and TWC_TIME_B (R437). -/
def State.writeTwcTimeA (s : State) (q : Nat) (v : Word) : State :=
  let lo := TWC_TIME_A_LOW.of v
  let hi := TWC_TIME_A_HIGH.of v
  if lo < 8 ∨ hi < 8 ∨ lo ≤ s.rd TWC_TIME_B q + 4 then s.refuse (twPage q)
  else s.wrWord [TWC_TIME_A_HIGH, TWC_TIME_A_LOW] q v
def State.writeTwcTimeB (s : State) (q : Nat) (v : Word) : State :=
  if s.rd TWC_TIME_A_LOW q ≤ TWC_TIME_B.of v + 4 then s.refuse (twPage q) else s.wrWord [TWC_TIME_B] q v

end Sys2Proof.Machine
end

