-- ==== Sys2Proof/Machine/Fab.lean ====
section
/-! DEFINITION. The self-timed fabric and the sample ledger (spec/09_self_timed_fabric.md R254 to R267): slack, wings
buffers, the voltage guard, core-supply requests, and the counts of each lane slot. -/
namespace Sys2Proof.Machine
open Sys2Proof

/-! ### Core-supply requests (R259) -/

def srcLOOP : Nat := 1
def srcGUARD : Nat := 2
def srcHOST : Nat := 3

/-- A request is sent to the regulator's queue. -/
def State.sendMv (s : State) (mv src : Nat) : State :=
  ((s.wr FAB_VREQ_MV 0 mv).wr FAB_VREQ_SRC 0 src).regRequest mv

/-- A core-supply request, limited by R259; one that equals the last is not queued. -/
def State.coreRequest (s : State) (x : Int) (src : Nat) : State :=
  let last := s.rd FAB_VREQ_MV 0
  let v := (max (s.rd FAB_VLIM_VMIN 0 : Int) (min x (s.rd FAB_VLIM_VMAX 0))).toNat
  let v := if last = 0 then v else max v (last - 10)
  let v := if s.on FAB_STAT_VGUARD 0 then max v 720 else v
  if v = last then s else s.sendMv v src

/-- A write of FAB_VREQ; `owned`: an enabled loop has output KIND 5. -/
def State.writeVreq (s : State) (owned : Bool) (v : Word) : State :=
  let s := s.wrWord [FAB_VREQ_HOST_EN] 0 v
  if owned then s.satInc FAB_IGNWR_CNT 0
  else
    let s := s.wrWord [FAB_VREQ_HOST_MV] 0 v
    s.cond (s.on FAB_VREQ_HOST_EN 0) fun s => s.coreRequest (FAB_VREQ_HOST_MV.of v) srcHOST

/-- Writes of FAB_CFG and FAB_VLIM (R262, Table 9-8). -/
def State.writeFabCfg (s : State) (v : Word) : State :=
  let g := FAB_CFG_GUARD.of v
  let f := FAB_CFG_FAULT.of v
  if g ≤ f ∨ g < 1 ∨ 100 < g ∨ 99 < f then s.refuse pgFAB
  else s.wrWord [FAB_CFG_GUARD, FAB_CFG_FAULT, FAB_CFG_HOLDOFF] 0 v
def State.writeVlim (s : State) (v : Word) : State :=
  let lo := FAB_VLIM_VMIN.of v
  let hi := FAB_VLIM_VMAX.of v
  if lo < 600 ∨ 720 < lo ∨ hi < 720 ∨ 800 < hi then s.refuse pgFAB else s.wrWord [FAB_VLIM_VMAX, FAB_VLIM_VMIN] 0 v

/-! ### The voltage guard (R260) -/

/-- Ticks of the hold-off. -/
def State.holdoff (s : State) : Nat := s.rd FAB_CFG_HOLDOFF 0 * msT 100

/-- The guard acts, its hold-off counted from the end `t` of the window that meets the condition. -/
def State.voltageGuard (s : State) (t : Nat) : State :=
  let s := s.setFab fun f => { f with guard := true, holdoffEnd := some (t + s.holdoff) }
  let s := s.cond (decide (s.rd FAB_VREQ_MV 0 < 720)) fun s => s.sendMv 720 srcGUARD
  ((s.wr FAB_STAT_VGUARD 0 1).int pgFAB 0).satInc FAB_GUARD_CNT 0

/-- A converter wings buffer is at or past its warning level. -/
def State.wingWarns (s : State) : Bool := (List.range 16).any fun w => (s.fab.wings.get {} w).warn

/-- GUARD_HOLDOFF_END. -/
def State.holdoffDone (s : State) : State :=
  match s.fab.holdoffEnd with
  | none => s
  | some t =>
    let s := s.reach t
    if s.wingWarns then s
    else (s.setFab fun f => { f with guard := false, holdoffEnd := none }).wr FAB_STAT_VGUARD 0 0

/-! ### Slack (R257, R258) -/

/-- Ticks of a gauge window. -/
def gaugeT : Nat := 8192

/-- SLACK_WINDOW_END: the next gauge window ends; `act`: the active islands with their slack codes. -/
def State.slackWindowEnd (s : State) (act : List (Nat × Nat)) : State :=
  let s := s.toMul evSLACK 0 gaugeT
  let isl := (List.range 188).foldl (fun (t : Tab Island) i =>
    let x := s.fab.islands.get {} i
    match act.find? (·.1 == i) with
    | some (_, c) => t.set i { slack := c, active := true, min := min x.min c }
    | none => if x == {} then t else t.set i { x with slack := 0xFFF, active := false }) s.fab.islands
  let s := s.setFab fun f => { f with islands := isl, windowAt := s.now }
  let low := ((List.range 188).filter fun i => (isl.get {} i).active).foldl (fun (a : Option (Nat × Nat)) i =>
    let c := (isl.get {} i).slack
    match a with | some (b, _) => if c < b then some (c, i) else a | none => some (c, i)) none
  let code := match low with | some (c, _) => c | none => 0xFFF
  let s := s.wr FAB_STAT_LOW_SLACK 0 code
  let s := match low with | some (_, i) => s.wr FAB_STAT_LOW_ISL 0 i | none => s
  let s :=
    if code < 16 * s.rd FAB_CFG_FAULT 0 then ((s.wr FAB_STAT_SLACK_LOW 0 1).raise pgFAB 1 allPorts).stand 27 1
    else (s.wr FAB_STAT_SLACK_LOW 0 0).cond (decide (16 * s.rd FAB_CFG_GUARD 0 ≤ code)) fun s => s.unstand 27 1
  if code < 16 * s.rd FAB_CFG_GUARD 0 then s.voltageGuard s.now
  else if s.wingWarns then s.setFab fun f => { f with holdoffEnd := some (s.now + s.holdoff) }
  else s.setFab fun f => { f with guard := false }

/-! ### Wings buffers (R254 to R256) -/

/-- A value of a wings buffer is at or past its warning level (Table 9-1). -/
def wingPast (w v : Nat) : Bool := if w < 8 then decide (200 ≤ v) else if w < 16 then decide (v < 40) else decide (75 ≤ v)

/-- WINGS_WARNING: the present value of a wings buffer crosses its warning level, in either direction. -/
def State.wingsWarning (s : State) (w v : Nat) : State :=
  let x := s.fab.wings.get {} w
  let worst := match x.worst with
    | none => v
    | some b => if 8 ≤ w ∧ w < 16 then min b v else max b v
  let now := wingPast w v
  let s := s.setFab fun f => { f with wings := f.wings.set w { now := v, worst := some worst, warn := now } }
  if 16 ≤ w then s
  else if now && !x.warn then
    ((s.raiseInt [(pgFAB, 1)] pgFAB 2 allPorts).stand 27 2).voltageGuard (s.nextMul gaugeT)
  else if s.wingWarns then s else s.unstand 27 2

/-- MIN_CLR. -/
def State.minClr (s : State) : State :=
  s.setFab fun f =>
    { f with islands := f.islands.map fun (i, x) => (i, { x with min := 0xFFF }),
             wings := f.wings.map fun (i, x) => (i, { x with worst := none }) }

/-! ### The sample ledger (R263 to R267) -/

def State.ledger (s : State) (n : Nat) : Ledger := s.fab.ledgers.get {} n
def State.setLedger (s : State) (n : Nat) (f : Ledger → Ledger) : State :=
  s.setFab fun b => { b with ledgers := b.ledgers.set n (f (s.ledger n)) }

/-- ceil(Fl × L). -/
def State.inFlight (s : State) (n : Nat) : Nat := (laneRate (s.lane n).rate * s.lat n).ceil.toNat
/-- HMAX (R264). -/
def State.hmax (s : State) (n : Nat) : Nat := s.inFlight n + 2

/-- The counts with every lane sample below `k` taken in; a sample has left once it is `h` samples old. -/
def Ledger.sync (l : Ledger) (k h : Nat) : Ledger :=
  let upto := max l.next (match l.stop with | some e => min k e | none => k)
  let total := l.held + (upto - l.next)
  let held := min total (upto - (k - h))
  let gone := total - held
  let oldest := upto - total
  let late := match l.lateFrom with
    | some f => (oldest + gone) - max oldest f
    | none => 0
  let late := min late gone
  { l with inn := l.inn + (upto - l.next), held := held, late := l.late + late, out := l.out + (gone - late), next := upto }

/-- A running lane's ledger brought up to lane sample `k`. -/
def State.syncTo (s : State) (n k : Nat) : State :=
  if (s.lane n).active then s.setLedger n fun l => l.sync k (s.inFlight n) else s
/-- A lane's ledger brought up to now. -/
def State.syncLedger (s : State) (n : Nat) : State := s.syncTo n (s.sampleNo n)

/-- Discarded. -/
def Ledger.disc (l : Ledger) : Nat := l.late + l.dis + l.wings
/-- In less the sum of the other counts (R29). -/
def Ledger.imbalance (l : Ledger) : Int := (l.inn : Int) - (l.out + l.held + l.disc : Nat)

/-- LEDG_AUDIT names the lowest lane whose report stands. -/
def State.setAudit (s : State) : State :=
  match (List.range 32).find? fun n => (s.ledger n).reported with
  | some n => (s.wr LEDG_AUDIT_ANY 0 1).wr LEDG_AUDIT_LANE 0 n
  | none => (s.wr LEDG_AUDIT_ANY 0 0).wr LEDG_AUDIT_LANE 0 0

/-- The check of R264 and of the balance, once for each lane until its ledger is cleared (R265). -/
def State.ledgerCheck (s : State) (n : Nat) : State :=
  let l := s.ledger n
  let excess := decide (s.hmax n < l.held) && (s.lane n).on
  if l.reported || (l.imbalance == 0 && !excess) then s
  else
    let s := (s.setLedger n fun l => { l with reported := true }).setAudit
    let s := (s.raiseInt [(pgLEDG, 1)] pgLEDG 1 (portBit (s.lane n).tx)).stand 28 n
    let r := fun (code v : Nat) => (pgLEDG, code, sevMAJOR, pf 59 5 n + v)
    s.journals
      [ r 0x0500 (pf 58 1 excess.toNat + ux 58 l.imbalance), r 0x0501 (pf 0 59 l.inn), r 0x0502 (pf 0 59 l.out),
        r 0x0503 (pf 0 59 l.held), r 0x0504 (pf 0 59 l.disc) ]

/-- LEDGER_AUDIT: the next millisecond of the tick count; `upsets`: counts of Held that an upset has changed. -/
def State.ledgerAudit (s : State) (upsets : List (Nat × Nat)) : State :=
  let s := s.toMul evAUDIT 0 (msT 1)
  let act := (List.range 32).filter fun n => (s.lane n).active
  let s := act.foldl (fun s n => s.syncLedger n) s
  let s := upsets.foldl (fun s (n, h) => s.setLedger n fun l => { l with held := h }) s
  act.foldl (fun s n => s.ledgerCheck n) s

/-- The copy of a lane's counts in the snapshot registers. -/
def State.ledgerCopy (s : State) (n : Nat) : State :=
  let l := s.ledger n
  let s := s.wrPair LEDG_S_SAMPLE_LO LEDG_S_SAMPLE_HI (s.sampleNo n)
  let s := s.wrPair LEDG_S_IN_LO LEDG_S_IN_HI l.inn
  let s := s.wrPair LEDG_S_OUT_LO LEDG_S_OUT_HI l.out
  let s := s.wrPair LEDG_S_DISC_LO LEDG_S_DISC_HI l.disc
  let s := (s.wr LEDG_S_HELD 0 l.held).wr LEDG_S_HMAX 0 (s.hmax n)
  let s := ((s.wr LEDG_S_LATE 0 l.late).wr LEDG_S_DISABLE 0 l.dis).wr LEDG_S_WINGS 0 l.wings
  (s.setFab fun f => { f with snap := none }).wr LEDG_SNAP_DONE 0 1

/-- LEDGER_SNAPSHOT_GO: a write of LEDG_SNAP (R266). -/
def State.writeSnap (s : State) (v : Word) : State :=
  let n := LEDG_SNAP_LANE.of v
  let s := s.wr LEDG_SNAP_LANE 0 n
  if LEDG_SNAP_GO.of v = 0 then s
  else
    let s := s.wr LEDG_SNAP_DONE 0 0
    if (s.lane n).active then s.setFab fun f => { f with snap := some (n, s.nextSample n 1) } else (s.ledgerCopy n).ledgerCheck n

/-- LEDGER_SNAPSHOT_DONE: at the lane's next lane-sample boundary. -/
def State.snapDone (s : State) : State :=
  match s.fab.snap with
  | none => s
  | some (n, t) =>
    let s := (s.reach t).syncLedger n
    (s.ledgerCopy n).ledgerCheck n

/-- LEDGER_CLEAR_GO: a write of LEDG_CLR (R267). -/
def State.writeLedgClr (s : State) (v : Word) : State :=
  let n := LEDG_CLR_LANE.of v
  let s := s.wr LEDG_CLR_LANE 0 n
  if LEDG_CLR_GO.of v = 0 then s else s.setFab fun f => { f with clr := some (n, s.nextSample n 1) }

/-- LEDGER_CLEAR_APPLY: at the lane's next lane-sample boundary. -/
def State.clearApply (s : State) : State :=
  match s.fab.clr with
  | none => s
  | some (n, t) =>
    let s := (s.reach t).syncLedger n
    let s := s.setLedger n fun l => { l with inn := l.held, out := 0, late := 0, dis := 0, wings := 0, reported := false }
    ((s.setFab fun f => { f with clr := none }).setAudit).unstand 28 n

/-- WINGS_LOSS: a converter wings buffer loses a word; `ls`: the lanes hit, each with the samples discarded (R256). -/
def State.wingsLoss (s : State) (ls : List (Nat × Nat)) : State :=
  let s := (s.satInc FAB_WLOSS_CNT 0).raiseInt [(pgFAB, 1)] pgFAB 3 allPorts
  ls.foldl (fun s (n, k) =>
    (s.syncLedger n).setLedger n fun l => { l with held := l.held - min k l.held, wings := l.wings + min k l.held }) s

end Sys2Proof.Machine
end

