-- ==== Sys2Proof/Machine/Spt.lean ====
section
/-! DEFINITION. Spotlight and measurement: arming, decision windows, contexts, statistics, snapshots and the noise
contribution (spec/04_spotlight_and_measurement.md). Powers are in units of 2^-16 dB (R128). -/
namespace Sys2Proof.Machine
open Sys2Proof

/-! ### Resolutions (R119) -/

/-- The subband spacing of a resolution in kHz (Table 4-1). -/
def sptDf (res : Nat) : Nat :=
  match res with | 0 => 15 | 1 => 30 | 2 => 60 | 3 => 180 | 4 => 360 | 5 => 720 | _ => 1440

/-- The bank rate over the lane rate. -/
def sptB (res : Nat) : Nat := if res < 3 then 1 else 3

/-- The subbands of a bank at a lane rate code. -/
def sptK (res rate : Nat) : Nat := sptB res * 1920 * 2 ^ rate / sptDf res

/-! ### The two pages -/

/-- A field of the SPT page, or the same field of the MEAS page for a downlink lane (R141). -/
def pageF (n : Nat) (spt meas : Fld) : Fld := if downlink n then meas else spt
def sptPage (n : Nat) : Nat := if downlink n then pgMEAS else pgSPT

def State.sptRd (s : State) (f g : Fld) (n : Nat) : Nat := s.rd (pageF n f g) (n % 16)
def State.sptWr (s : State) (f g : Fld) (n v : Nat) : State := s.wr (pageF n f g) (n % 16) v
/-- A register of the page of a lane that does not repeat by lane. -/
def State.sptRd0 (s : State) (f g : Fld) (n : Nat) : Nat := s.rd (pageF n f g) 0
def State.sptWr0 (s : State) (f g : Fld) (n v : Nat) : State := s.wr (pageF n f g) 0 v

def State.sl (s : State) (n : Nat) : SptLane := s.spt.lanes.get {} n
def State.setSl (s : State) (n : Nat) (f : SptLane → SptLane) : State :=
  { s with spt := { s.spt with lanes := s.spt.lanes.set n (f (s.sl n)) } }
def State.ctx (s : State) (c : Nat) : CtxSt := s.spt.ctx.get {} c
def State.setCtx (s : State) (c : Nat) (f : CtxSt → CtxSt) : State :=
  { s with spt := { s.spt with ctx := s.spt.ctx.set c (f (s.ctx c)) } }
def State.setSpt (s : State) (f : SptSt → SptSt) : State := { s with spt := f s.spt }

def State.armed (s : State) (n : Nat) : Bool := s.sptRd SPT_LANE_STAT_ARMED MEAS_LANE_STAT_ARMED n == 1
def State.measuring (s : State) (n : Nat) : Bool := s.sptRd SPT_LANE_STAT_MEASURING MEAS_LANE_STAT_MEASURING n == 1
def State.gating (s : State) (n : Nat) : Bool := !downlink n && s.on SPT_LANE_STAT_GATING (n % 16)
def State.sptRes (s : State) (n : Nat) : Nat := s.sptRd SPT_LANE_CFG_RES MEAS_LANE_CFG_RES n
def State.sptCount (s : State) (n : Nat) : Nat := s.sptRd SPT_LANE_MAP_COUNT MEAS_LANE_MAP_COUNT n
/-- The first context of a lane, downlink contexts from 16,384. -/
def State.sptBase (s : State) (n : Nat) : Nat := s.sptRd SPT_LANE_MAP_BASE MEAS_LANE_MAP_BASE n + if downlink n then 16384 else 0
/-- The contexts of a lane. -/
def State.ctxsOf (s : State) (n : Nat) : List Nat := (List.range (s.sptCount n)).map (s.sptBase n + ·)
/-- The armed lanes of a lane's direction. -/
def State.armedOf (s : State) (n : Nat) : List Nat :=
  (List.range 32).filter fun k => downlink k == downlink n && s.armed k
/-- The armed lane that a context belongs to. -/
def State.ctxLane (s : State) (c : Nat) : Option Nat :=
  (List.range 32).find? fun n => s.armed n && decide (s.sptBase n ≤ c) && decide (c < s.sptBase n + s.sptCount n)
/-- The first subband of a lane's contexts. -/
def State.sptFirst (s : State) (n : Nat) : Int := sx 14 (s.sptRd SPT_LANE_CFG_FIRST MEAS_LANE_CFG_FIRST n)

/-- The load of a direction in windows per second (Table 4-2, check 7). -/
def State.sptLoad (s : State) (n : Nat) : Nat :=
  (s.armedOf n).foldl (fun a k => a + s.sptCount k * sptDf (s.sptRes k) * 1000) 0

/-- SPT_LOAD or MEAS_LOAD follows the armed lanes. -/
def State.setSptLoad (s : State) (n : Nat) : State := s.sptWr0 SPT_LOAD MEAS_LOAD n ((s.sptLoad n + 999999) / 1000000)

/-! ### Starting and stopping (R122, R125, R129, R140) -/

/-- A context at arming, at a start of measuring and after a memory error: every word but CTX_CTL at its reset value. -/
def CtxSt.fresh (x : CtxSt) (gen relearn : Nat) : CtxSt :=
  { ctl := x.ctl, base := gen, relearn := relearn }

/-- SPT_STUCK follows the contexts (R135). -/
def State.setStuck (s : State) : State :=
  match s.spt.ctx.find? fun x => x.2.stuck with
  | some (c, _) => (s.wr SPT_STUCK_ANY 0 1).wr SPT_STUCK_CTX 0 c
  | none => (s.wr SPT_STUCK_ANY 0 0).wr SPT_STUCK_CTX 0 0

/-- The contexts of a lane start afresh. -/
def State.freshCtxs (s : State) (n : Nat) : State :=
  let g := s.spt.gen
  ((s.ctxsOf n).foldl (fun (s : State) c => s.setCtx c fun x => x.fresh g 0) s).setStuck

/-- The lane sample with which window `k` of a lane begins (R125): the first at or after k times Fl / Δf samples. -/
def winStart (a : Int) (res rate k : Nat) : Nat :=
  let d := sptK res rate
  (a + ((k * d + sptB res - 1) / sptB res : Nat)).toNat

/-- The window that a lane sample falls in. -/
def winOf (a : Int) (res rate n : Nat) : Nat := ((n : Int) - a).toNat * sptB res / sptK res rate

/-- An armed lane becomes active, or an active one is armed (R121, R129, R58): its contexts start afresh, and GATE puts the
banks in its path. -/
def State.sptActive (s : State) (n : Nat) : State :=
  if !s.armed n then s
  else
    let s := (s.setSl n fun x => { x with started := false, disarm := none }).freshCtxs n
    let s := (s.sptWr SPT_LANE_STAT_MEASURING MEAS_LANE_STAT_MEASURING n 1).sptWr SPT_LANE_STAT_LEARNING MEAS_LANE_STAT_LEARNING n 1
    let s := s.sptWr SPT_LANE_STAT_OPEN_NOW MEAS_LANE_STAT_ACTIVE_NOW n 0
    s.cond (!downlink n && s.on SPT_LANE_CFG_GATE (n % 16)) fun s => (s.wr SPT_LANE_STAT_GATING (n % 16) 1).setLat n

/-- Measuring starts at the lane sample `n0` (R125, R129): with the first window that begins at or after it. -/
def State.sptBegin (s : State) (n n0 : Nat) : State :=
  if !s.armed n then s
  else
    let l := s.lane n
    let res := s.sptRes n
    let frame := s.now - s.time.idx % 9830400
    let a := (frame + l.period - 1) / l.period
    let k := winOf a res l.rate n0
    let k := if winStart a res l.rate k = n0 then k else k + 1
    s.setSl n fun x =>
      { x with started := true, a := a, win := k, learnLeft := 256, acc := 0, accU := 0, wins := 0, bad := false,
               pows := [], actN := 0, susp := false, ahead := [], oldCfg := none, gains := [] }

/-- The tick at which window `k` of a lane begins. -/
def State.winTick (s : State) (n k : Nat) : Nat := winStart (s.sl n).a (s.sptRes n) (s.lane n).rate k * (s.lane n).period

/-- The open window of a measuring lane has begun: a write acts from the next one (R131, R139). -/
def State.winBegun (s : State) (n : Nat) : Bool :=
  s.measuring n && (s.sl n).started && decide (s.winTick n (s.sl n).win ≤ s.now)

/-- Measuring ends on a lane; it stays armed (R123). -/
def State.sptStop (s : State) (n : Nat) : State :=
  if s.armed n then
    let s := (s.ctxsOf n).foldl (fun (s : State) c =>
      if (s.ctx c).stuck then s.setCtx c fun x => { x with stuck := false, runFrom := none } else s) s
    let s := (s.sptWr SPT_LANE_STAT_MEASURING MEAS_LANE_STAT_MEASURING n 0).sptWr SPT_LANE_STAT_LEARNING MEAS_LANE_STAT_LEARNING n 0
    let s := s.cond (!downlink n) fun s => s.wr SPT_LANE_STAT_GATING (n % 16) 0
    (s.setSl n fun x => { x with disarm := none, started := false }).setStuck
  else s

/-- A lane is disarmed, with the code of R124 where there is one. -/
def State.sptDisarm (s : State) (n e : Nat) : State :=
  let s := (s.sptStop n).sptWr SPT_LANE_STAT_ARMED MEAS_LANE_STAT_ARMED n 0
  let s := s.sptWr SPT_LANE_CFG_EN MEAS_LANE_CFG_EN n 0
  let s := s.cond (e != 0) fun s => s.sptWr SPT_LANE_STAT_ERR MEAS_LANE_STAT_ERR n e
  s.setSptLoad n

/-- ARMED_LANE_DISARM: an armed lane that is not active is disarmed with ERR 8 (R124). -/
def State.sptRetire (s : State) (n : Nat) : State :=
  if s.armed n && !(s.lane n).on then s.sptDisarm n 8 else s

/-! ### Arming (R122, R123) -/

/-- What a write of LANE_CFG arms. -/
structure SptCfg where
  gate : Bool
  res : Nat
  first : Int
  base : Nat
  count : Nat

/-- The code of the first check of Table 4-2 that fails. -/
def State.sptErr (s : State) (n : Nat) (c : SptCfg) : Option Nat :=
  let l := s.laneCfg n
  let k := sptK c.res l.rate
  let base := c.base + if downlink n then 16384 else 0
  if 6 < c.res then some 1
  else if c.gate && l.tdd && decide (c.res < 4) then some 2
  else if c.gate && l.tdd && decide (10 < s.latBase l (2 ^ 20) + spotLat c.res) then some 3
  else if c.gate && (s.lane n).on then some 4
  else if c.count < 1 ∨ 2 * c.first < -(k : Int) ∨ (k : Int) - 2 < 2 * (c.first + c.count - 1) then some 5
  else if 16384 < c.base + c.count ∨ ((s.armedOf n).any fun m => m != n && decide (s.sptBase m < base + c.count)
      && decide (base < s.sptBase m + s.sptCount m)) = true then some 6
  else if 2000000000 < s.sptLoad n + c.count * sptDf c.res * 1000 then some 7
  else none

/-- The fields of SPT_LANE_CFG_n and SPT_LANE_MAP_n. -/
def sptCfgFlds (n : Nat) : List Fld :=
  if downlink n then [MEAS_LANE_CFG_EN, MEAS_LANE_CFG_RES, MEAS_LANE_CFG_FIRST]
  else [SPT_LANE_CFG_EN, SPT_LANE_CFG_RES, SPT_LANE_CFG_FIRST, SPT_LANE_CFG_GATE]
def sptMapFlds (n : Nat) : List Fld :=
  if downlink n then [MEAS_LANE_MAP_BASE, MEAS_LANE_MAP_COUNT] else [SPT_LANE_MAP_BASE, SPT_LANE_MAP_COUNT]

/-- A lane that passed its checks is armed (R122). -/
def State.sptArm (s : State) (n : Nat) : State :=
  let s := ((s.sptWr SPT_LANE_STAT_ERR MEAS_LANE_STAT_ERR n 0).sptWr SPT_LANE_STAT_ARMED MEAS_LANE_STAT_ARMED n 1).setSptLoad n
  let s := (s.setSl n fun _ => {}).freshCtxs n
  s.cond (s.lane n).on fun s => s.sptActive n

/-- What the registers of a lane arm. -/
def State.sptCfgOf (s : State) (n : Nat) (gate : Bool) : SptCfg :=
  { gate := gate, res := s.sptRes n, first := s.sptFirst n, base := s.sptRd SPT_LANE_MAP_BASE MEAS_LANE_MAP_BASE n,
    count := s.sptCount n }

/-- A write of SPT_LANE_CFG_n or MEAS_LANE_CFG_n (R122, R123). DESIGN CHOICE (log 90): the write of EN = 0 that disarms an
inactive lane stores its other fields too. -/
def State.writeSptCfg (s : State) (n : Nat) (v : Word) : State :=
  let en := v.getLsbD 31
  if s.armed n then
    if en || s.gating n then s.sptWr SPT_LANE_STAT_ERR MEAS_LANE_STAT_ERR n 4
    else if !(s.lane n).on then
      (s.sptDisarm n 0).wrWord (sptCfgFlds n) (n % 16) v
    else s.setSl n fun x => { x with disarm := some s.now }
  else
    let s := s.wrWord (sptCfgFlds n) (n % 16) v
    if !en then s
    else
      let s := s.int (sptPage n) 0
      match s.sptErr n (s.sptCfgOf n (!downlink n && v.getLsbD 30)) with
      | some e => ((s.sptWr SPT_LANE_STAT_ERR MEAS_LANE_STAT_ERR n e).sptWr SPT_LANE_CFG_EN MEAS_LANE_CFG_EN n 0).refuse (sptPage n)
      | none =>
        let s := s.sptArm n
        if (s.lane n).active then s.sptBegin n (s.sampleNo n + 1) else s

/-- A write of SPT_LANE_MAP_n or MEAS_LANE_MAP_n (R123). -/
def State.writeSptMap (s : State) (n : Nat) (v : Word) : State :=
  if s.armed n then s.sptWr SPT_LANE_STAT_ERR MEAS_LANE_STAT_ERR n 4 else s.wrWord (sptMapFlds n) (n % 16) v

/-! ### A decision window (R126 to R130, R136) -/

def CtxSt.force (x : CtxSt) : Word := x.inForce.getD x.ctl
def ctlMode (v : Word) : Nat := bits v 0 2
def ctlThresh (v : Word) : Int := bits v 8 8 * 16384
def ctlHang (v : Word) : Nat := bits v 16 8
def ctlTrim (v : Word) : Int := bits v 24 8 * 8192

/-- A 32-bit count that saturates. -/
def sat32 (n : Nat) : Nat := min n 0xFFFFFFFF

def minOpt (a : Option Int) (b : Int) : Int := match a with | some x => min x b | none => b
def maxOpt (a : Option Int) (b : Int) : Int := match a with | some x => max x b | none => b

/-- Floor settings of a page (R128): RISE in 1/16 dB/s, BIAS and the smoothing exponent. -/
structure FloorCfg where
  rise : Nat
  bias : Int
  smooth : Nat

/-- The settings of a lane's open window: those before a write that waits for the next one (R139, R141). -/
def State.floorCfg (s : State) (n : Nat) : FloorCfg :=
  match (s.sl n).oldCfg with
  | some (r, b, m) => ⟨r, b, m⟩
  | none => ⟨s.sptRd0 SPT_CFG_RISE MEAS_CFG_RISE n, s.sptRd0 SPT_CFG_BIAS MEAS_CFG_BIAS n * 4096, s.sptRd0 SPT_CFG_SMOOTH MEAS_CFG_SMOOTH n⟩

/-- A write of SPT_CFG or MEAS_CFG is about to act: the open windows of the page's lanes keep what they began with. -/
def State.holdCfg (s : State) (dn : Bool) : State :=
  (List.range 32).foldl (fun (s : State) n =>
    if downlink n == dn && s.winBegun n && (s.sl n).oldCfg.isNone then
      let f := s.floorCfg n
      s.setSl n fun x => { x with oldCfg := some (f.rise, f.bias, f.smooth), cfgAt := s.now }
    else s) s

/-- The floor estimator (R128). The rise of a window is below 2^-16 dB at some settings; what it leaves over counts in the
windows after (log 91). -/
def CtxSt.updateFloor (x : CtxSt) (f : FloorCfg) (df : Nat) (p : Int) : CtxSt :=
  match x.smoothed, x.floor with
  | some sm, some fl =>
    let l := ((2 ^ f.smooth - 1) * linNoise sm + linNoise p) / 2 ^ f.smooth
    let sm := dBNoise l
    let up := x.rise + f.rise * 4096
    let risen := fl + (up / (df * 1000) : Nat)
    { x with smoothed := some sm, floor := some (min (sm + f.bias) risen),
             rise := if sm + f.bias < risen then 0 else up % (df * 1000) }
  | _, _ => { x with smoothed := some p, floor := some (p + f.bias), rise := 0 }

/-- The decision on a context at the end of a window, with the CTX_CTL in force: open, and the hangover left (R127); a downlink context reads as
active without mode and hangover (R136). -/
def CtxSt.decide (x : CtxSt) (v : Word) (dn learning : Bool) (p : Int) : Bool × Nat :=
  let above := match x.floor with | some f => Decidable.decide (f + ctlThresh v ≤ p) | none => false
  if dn then (above && !learning, 0)
  else if ctlMode v = 1 then (true, x.hang)
  else if ctlMode v = 2 ∨ learning = true then (false, x.hang)
  else if above then (true, ctlHang v)
  else if x.isOpen && Decidable.decide (0 < x.hang) then (true, x.hang - 1)
  else (false, x.hang)

/-- One context at the end of a window of its lane (R127). DESIGN CHOICE (log 92): the seconds of SPT_MON.STUCK_S run from
the close of the window in which the context opened (R135). -/
def CtxSt.close (x : CtxSt) (dn laneLearn : Bool) (f : FloorCfg) (df now : Nat) (p : Int) (idle suspect : Bool) : CtxSt :=
  let force := x.force
  let x := { x with inForce := if x.ctlAt = now then x.inForce else none }
  if idle then { x with excluded := true, cur := { x.cur with excl := sat32 (x.cur.excl + 1) } }
  else
    let learning := laneLearn || Decidable.decide (0 < x.relearn)
    let (o, h) := x.decide force dn learning p
    let evt := (o && !x.isOpen).toNat
    let c := { x.cur with win := sat32 (x.cur.win + 1), openN := sat32 (x.cur.openN + o.toNat), evt := sat32 (x.cur.evt + evt) }
    let stays := o && x.isOpen
    let y := { x with isOpen := o, hang := h, last := some p, excluded := suspect, cur := c,
                      run := if o then sat32 (x.run + 1) else 0,
                      runFrom := if stays then x.runFrom else if o then some now else none,
                      stuck := x.stuck && o }
    if suspect then { y with cur := { c with excl := sat32 (c.excl + 1) } }
    else
      let c := { c with min := some (minOpt c.min p), max := some (maxOpt c.max p), sum := c.sum + linNoise p, n := c.n + 1 }
      ({ y with cur := c, relearn := x.relearn - 1 }).updateFloor f df p

/-- The same for a window that began before the last interval boundary: it belongs to the interval before (R133). -/
def CtxSt.closeLate (x : CtxSt) (dn laneLearn : Bool) (f : FloorCfg) (df now : Nat) (p : Int) (idle suspect : Bool) :
    CtxSt :=
  let y := CtxSt.close { x with cur := x.prev } dn laneLearn f df now p idle suspect
  { y with cur := x.cur, prev := y.cur }

/-- The tick at which the window of a lane that is open ends (R125). -/
def State.winEnd (s : State) (n : Nat) : Nat := s.winTick n ((s.sl n).win + 1)

/-- The sums of R137 for a window, its contexts' trims given: gated and ungated, in units of 2^-100 full scale. DESIGN
CHOICE (log 93): the floors are those after the window's update, and SPT_LANE_NC keeps its last value when measuring
stops. -/
def State.ncWindow (s : State) (n : Nat) (trims : List Int) : Nat × Nat :=
  if s.behind (s.lane n).tx then (0, 0)
  else
    let g := gainFactor (s.rd LANE_GAIN_APPLIED n)
    ((s.ctxsOf n).zip trims).foldl (fun (a : Nat × Nat) (c, trim) =>
      let x := s.ctx c
      match x.floor with
      | none => a
      | some f =>
        let w := g * g * linNoise (f - trim) / 2 ^ 80
        let u := g * g * linNoise f / 2 ^ 80
        (a.1 + (if x.isOpen || !s.gating n then w else w / 100000), a.2 + u)) (0, 0)

/-- PROT_NR, PROT_PRES and PROT_LANE_CFG by lane in force in the open frame (R165). -/
def State.protWords (s : State) : Word × Word × List Word :=
  s.cur.old.getD (BitVec.ofNat 32 (s.rd PROT_NR_FRAMES 0 * 2 ^ 16 + s.rd PROT_NR_LIMIT 0), BitVec.ofNat 32 (s.rd PROT_PRES 0),
    (List.range 32).map fun n => BitVec.ofNat 32 (s.rd PROT_LANE_CFG_DONOR_REF n * 2 ^ 16 + s.rd PROT_LANE_CFG_NR_EN n))

/-- A write of one of those registers waits for the next frame: the words of the open frame stay in force (R165). -/
def State.holdProt (s : State) : State := { s with cur := { s.cur with old := some s.protWords } }

/-- PROT_PRES in force in the open frame. -/
def State.presLevel (s : State) : Word := s.protWords.2.1

/-- The total power and floor of a downlink lane (R136, R150). -/
def State.measPwr (s : State) (n : Nat) (ps : List Int) : State :=
  let pw := dBNoise (ps.foldl (fun a p => a + linNoise p) 0)
  let fl := (s.ctxsOf n).foldl (fun a c => match (s.ctx c).floor with | some f => a + linNoise f | none => a) 0
  let s := s.wr MEAS_LANE_PWR_PWR n (levelCode 16 64 pw)
  let s := if fl = 0 then s else s.wr MEAS_LANE_PWR_FLR n (levelCode 16 64 (dBNoise fl))
  if sx 16 s.presLevel.toNat ≤ sx 16 (levelCode 16 64 pw) then
    { s with prot := s.prot.set n { (s.prot.get {} n) with reached := true } }
  else s

/-- A sample's powers, active and suspect, enter the sums of a window (R126). -/
def SptLane.take (y : SptLane) (e : List Nat × Bool × Bool) : SptLane :=
  { y with pows := (List.range e.1.length).map fun i => y.pows.getD i 0 + if e.2.1 then e.1.getD i 0 else 0,
           actN := y.actN + e.2.1.toNat, susp := y.susp || e.2.2 }

/-- A lane sample enters the open window of a measuring lane (R126): `line`, the words at the channel filter's output,
newest first; `live`, it is an active sample; `sus`, it is marked suspect. One of the next window waits for the close. -/
def State.sptSample (s : State) (n k : Nat) (line : List Iq) (live sus : Bool) : State :=
  let x := s.sl n
  let start := fun w => winStart x.a (s.sptRes n) (s.lane n).rate w
  if !(s.measuring n && x.started && decide (start x.win ≤ k)) then s
  else
    let ws := line.map Iq.bits
    let e := ((List.range (s.sptCount n)).map fun (i : Nat) => (Config.analysis (s.sptRes n) (s.sptFirst n + i) ws).toNat, live, sus)
    s.setSl n fun y => if start (x.win + 1) ≤ k then { y with ahead := y.ahead ++ [e] } else y.take e

/-- The delay of the banks in lane samples (R121). -/
def State.sptDelay (s : State) (n : Nat) : Nat := (roundRat (spotLat (s.sptRes n) * laneRate (s.lane n).rate)).toNat

/-- The output of the synthesis at lane sample `k` (R120, R130): each subband by the gain of the window that the sample lay in
when it entered. Before the first window decided, and in a window computed with a bad ROM word, every gain is zero. -/
def State.sptOut (s : State) (n k : Nat) (line : List Iq) : Iq × Nat :=
  let x := s.sl n
  let ws := line.map Iq.bits
  let w := winOf x.a (s.sptRes n) (s.lane n).rate (k - s.sptDelay n)
  let gs := match x.gains.find? fun g => g.1 == w with | some g => g.2 | none => []
  let (re, im) := (gs.zipIdx).foldl (fun (a : Int × Int) (g, i) =>
    if g = 0 then a
    else
      let v := Config.subband (s.sptRes n) (s.sptFirst n + (i : Int)) ws
      (a.1 + roundDiv ((v.extractLsb' 24 24).toInt * g) (2 ^ 40), a.2 + roundDiv ((v.extractLsb' 0 24).toInt * g) (2 ^ 40)))
    (0, 0)
  let re := roundDiv re (2 ^ 6)
  let im := roundDiv im (2 ^ 6)
  (iqOf re im, (iqSat re im).toNat)

/-- The gain of a context in the window just decided (R130), in units of 2^-40. -/
def ctxGain (x : CtxSt) (trim : Int) : Nat := if x.isOpen then linAmp (-trim) else 0

/-- DECISION_WINDOW_CLOSE: the open window of a measuring lane ends (R126, R127, R129). `ecc`: corrected errors of the
context memory and the bank ROM since the last (R138). A window whose first lane sample lies before the last frame boundary
belongs to a frame whose values have appeared, and counts in none (R137, log 93). -/
def State.windowClose (s : State) (n ecc : Nat) : State :=
  if !(s.measuring n && (s.lane n).active && (s.sl n).started) then s
  else
    let s := s.reach (s.winEnd n)
    let x := s.sl n
    let dn := downlink n
    let s := s.cond (decide (0 < ecc)) fun s => s.satAdd (pageF n SPT_ECC_CNT MEAS_ECC_CNT) 0 ecc
    let idle := (s.lane n).tdd && x.actN == 0
    let sus := x.susp
    let drop := dn && x.bad
    let learn := Decidable.decide (0 < x.learnLeft)
    let f := s.floorCfg n
    let df := sptDf (s.sptRes n)
    let floorP : Int := -180 * dB1
    let cs := s.ctxsOf n
    let trims := cs.map fun c => ctlTrim (s.ctx c).force
    let pw := (List.range cs.length).map fun i => max floorP (dBNoise (x.pows.getD i 0 / max 1 x.actN))
    let last := learn && !idle && !sus && !drop && x.learnLeft == 1
    let begun := s.winTick n x.win
    let late := Decidable.decide (begun < s.spt.boundAt)
    let s := if drop then s else
      (cs.zip pw).foldl (fun (s : State) (c : Nat × Int) => s.setCtx c.1 fun y =>
        let z := (if late then y.closeLate else y.close) dn learn f df s.now c.2 idle sus
        { z with learning := (learn && !last) || Decidable.decide (0 < z.relearn) }) s
    let s := s.cond (!idle && !drop && Decidable.decide (s.marks.get 0 evFRAME ≤ begun + 1)) fun s =>
      let (w, u) := if dn then (0, 0) else s.ncWindow n trims
      s.setSl n fun y => { y with wins := y.wins + 1, acc := y.acc + w, accU := y.accU + u }
    let s := s.cond (dn && !idle && !drop) fun s => s.measPwr n pw
    let gs := if x.bad then [] else (cs.zip trims).map fun (c, t) => ctxGain (s.ctx c) t
    let s := s.setSl n fun y =>
      { y.ahead.foldl SptLane.take { y with pows := [], actN := 0, susp := false } with
               ahead := [], win := y.win + 1, bad := false, oldCfg := if y.cfgAt = s.now then y.oldCfg else none,
               gains := ((x.win, gs) :: y.gains).take 4,
               learnLeft := if idle || sus || drop then y.learnLeft else y.learnLeft - 1 }
    let s := s.cond last fun s => (s.sptWr SPT_LANE_STAT_LEARNING MEAS_LANE_STAT_LEARNING n 0).int (sptPage n) 1
    let s := s.sptWr SPT_LANE_STAT_OPEN_NOW MEAS_LANE_STAT_ACTIVE_NOW n ((cs.filter fun c => (s.ctx c).isOpen).length)
    let s := s.setStuck
    match (s.sl n).disarm with
    | some t => if t < s.now then s.sptDisarm n 0 else s
    | none => s

/-- CONTEXT_STUCK (R135). -/
def State.ctxStuck (s : State) (c : Nat) : State :=
  let x := s.ctx c
  let t := s.rd SPT_MON 0
  match x.runFrom with
  | none => s
  | some f =>
    if t = 0 ∨ x.stuck = true ∨ ctlMode x.force ≠ 0 ∨ 16384 ≤ c ∨ (s.ctxLane c).isNone = true then s
    else
      let s := s.reach (f + secT t)
      ((s.setCtx c fun x => { x with stuck := true }).setStuck).int pgSPT 2

/-! ### Context words (R131, R140) -/

/-- A power as a context word's field, 0x8000 for none. -/
def pwrCode (p : Option Int) : Nat := match p with | some x => levelCode 16 64 x | none => 0x8000

def CtxStats.mean (c : CtxStats) : Option Int := if c.n = 0 then none else some (dBNoise (c.sum / c.n))

/-- Word `i` of a context (Table 4-10). -/
def State.ctxWord (s : State) (c i : Nat) : Word :=
  let x := s.ctx c
  match i with
  | 0 => x.ctl
  | 1 => BitVec.ofNat 32 ((s.spt.gen - x.base) % 256 * 2 ^ 24 + x.hang * 2 ^ 8 + x.learning.toNat * 4
      + x.excluded.toNat * 2 + x.isOpen.toNat)
  | 2 => BitVec.ofNat 32 (pwrCode x.smoothed * 2 ^ 16 + pwrCode x.floor)
  | 3 => BitVec.ofNat 32 (pwrCode x.last)
  | 4 => BitVec.ofNat 32 (pwrCode x.cur.max * 2 ^ 16 + pwrCode x.cur.min)
  | 5 => BitVec.ofNat 32 (pwrCode x.cur.mean)
  | 6 => BitVec.ofNat 32 x.cur.win
  | 7 => BitVec.ofNat 32 x.cur.openN
  | 8 => BitVec.ofNat 32 x.cur.excl
  | 9 => BitVec.ofNat 32 x.cur.evt
  | 10 => BitVec.ofNat 32 (pwrCode x.prev.max * 2 ^ 16 + pwrCode x.prev.min)
  | 11 => BitVec.ofNat 32 (pwrCode x.prev.mean)
  | 12 => BitVec.ofNat 32 x.prev.win
  | 13 => BitVec.ofNat 32 x.prev.openN
  | 14 => BitVec.ofNat 32 x.prev.excl
  | _ => BitVec.ofNat 32 x.run

/-- CONTEXT_CTL_WRITE: a host write to word `i` of a context (R131). -/
def State.writeCtx (s : State) (c i : Nat) (v : Word) : State :=
  let dn := decide (16384 ≤ c)
  let th := bits v 8 8
  if i ≠ 0 ∨ th < 0x0C ∨ 0x78 < th ∨ ctlMode v = 3 then
    if dn then (s.satInc MEAS_CTXWR_CNT 0).int pgMEAS 3 else (s.satInc SPT_CTXWR_CNT 0).int pgSPT 4
  else
    let run := match s.ctxLane c with | some n => s.winBegun n | none => false
    s.setCtx c fun x => { x with ctl := v &&& 0xFFFFFF03#32, inForce := if run then some x.force else none, ctlAt := s.now }

/-- HISTORY_INTERVAL_BOUNDARY for the contexts (R133). -/
def State.ctxInterval (s : State) : State :=
  let s := s.setSpt fun p =>
    { p with gen := p.gen + 1, boundAt := s.now, ctx := p.ctx.map fun (c, x) => (c, { x with prev := x.cur, cur := {} }) }
  (s.int pgSPT 3).int pgMEAS 2

/-! ### Snapshots (R134) -/

/-- The words of a context are copied and DONE sets. -/
def State.ctxCopy (s : State) (dn : Bool) (c : Nat) : State :=
  let f := if dn then MEAS_SNAP_DATA else SPT_SNAP_DATA
  let g := c + if dn then 16384 else 0
  let s := (List.range 16).foldl (fun (s : State) i => s.wr f i (s.ctxWord g i).toNat) s
  s.wr (if dn then MEAS_SNAP_DONE else SPT_SNAP_DONE) 0 1

/-- A write of SPT_SNAP or MEAS_SNAP: with GO it requests a copy, made at once for a lane that is not measuring. -/
def State.writeCtxSnap (s : State) (dn : Bool) (v : Word) : State :=
  let c := bits v 0 14
  let s := s.wr (if dn then MEAS_SNAP_CTX else SPT_SNAP_CTX) 0 c
  if !v.getLsbD 30 then s
  else
    let s := s.wr (if dn then MEAS_SNAP_DONE else SPT_SNAP_DONE) 0 0
    let put := fun (s : State) (r : Option (Nat × Nat)) =>
      s.setSpt fun p => if dn then { p with snapDn := r } else { p with snapUp := r }
    match s.ctxLane (c + if dn then 16384 else 0) with
    | some n => if s.measuring n then put s (some (c, (s.sl n).win)) else (put s none).ctxCopy dn c
    | none => (put s none).ctxCopy dn c

/-- CONTEXT_SNAPSHOT_DONE: the copy is made once the lane's window has ended. -/
def State.ctxSnapDone (s : State) (dn : Bool) : State :=
  match if dn then s.spt.snapDn else s.spt.snapUp with
  | none => s
  | some (c, w) =>
    let ended := match s.ctxLane (c + if dn then 16384 else 0) with
      | some n => !s.measuring n || decide (w < (s.sl n).win)
      | none => true
    if ended then (s.setSpt fun p => if dn then { p with snapDn := none } else { p with snapUp := none }).ctxCopy dn c else s

/-! ### Faults (R138) -/

/-- CONTEXT_MEMORY_UNCORR: an uncorrectable error in a context, or in the bank ROM of a direction. -/
def State.ctxUncorr (s : State) (rom : Bool) (c : Nat) : State :=
  let dn := decide (16384 ≤ c)
  if rom then
    let ls := (List.range 32).filter fun n => downlink n == dn && s.measuring n && (dn || s.gating n)
    let s := ls.foldl (fun (s : State) n => s.setSl n fun x => { x with bad := true }) s
    s.raise (if dn then pgMEAS else pgSPT) 2 (portsOf (ls.map fun n => (s.lane n).tx))
  else
    let owner := s.ctxLane c
    let g := s.spt.gen
    let s := s.setCtx c fun x => x.fresh g 256
    let s := s.setStuck
    let ps := match owner with | some n => portBit (s.lane n).tx | none => 0
    let s := match owner with
      | some n => if dn then s.setSl n fun x => { x with bad := true } else s
      | none => s
    s.raise (if dn then pgMEAS else pgSPT) 1 ps

/-! ### The frame (R137) -/

/-- NOISE_CONTRIBUTION of an uplink lane at the end of a frame: NC and UNC, in units of 2^-100 full scale where the
frame has data. -/
def State.frameNc (s : State) (n : Nat) : Option (Nat × Nat) × State :=
  let x := s.sl n
  if !s.measuring n || downlink n then (none, s)
  else
    let s := s.setSl n fun x => { x with acc := 0, accU := 0, wins := 0, hadFrame := x.hadFrame || decide (0 < x.wins) }
    if x.wins = 0 then (none, (s.wr SPT_LANE_NC_NC (n % 16) 0x8000).wr SPT_LANE_NC_UNC (n % 16) 0x8000)
    else
      let p := match s.probeLevel n with | some l => linNoise l | none => 0
      let nc := x.acc / x.wins + p
      let un := x.accU / x.wins + p
      (some (nc, un), (s.wr SPT_LANE_NC_NC (n % 16) (levelCode 16 64 (dBNoise nc))).wr SPT_LANE_NC_UNC (n % 16)
        (levelCode 16 64 (dBNoise un)))

end Sys2Proof.Machine
end

