-- ==== Sys2Proof/Machine/Tdd.lean ====
section
/-! DEFINITION. The TDD block: the uses of a port, the guard rule, and bank swaps (spec/06_time_reference.md R196 to R198). -/
namespace Sys2Proof.Machine
open Sys2Proof

/-- L of a lane in ticks: as it is, or with the delay taken as one lane sample (R196). -/
def State.latTicks (s : State) (n : Nat) (d1 : Bool) : Rat :=
  (if d1 then s.latBase (s.lane n).use (2 ^ 20) + s.laneSpot n else s.lat n) * 98304 / 100

/-- The intervals of the TDD lanes at a port (R196). -/
def State.portInts (s : State) (bank : Nat → Option Nat) (d1 : Bool) (m : Nat) : List PortInt :=
  (s.lanesOn.filter fun n => (s.lane n).tdd).flatMap fun n =>
    let l := s.lane n
    let is := s.laneInts bank n
    (if l.rx = m then is.map fun (a, k) => ⟨false, a, k⟩ else [])
    ++ (if l.txEn ∧ l.tx = m then is.map fun (a, k) => ⟨true, modF (a + s.latTicks n d1), k⟩ else [])

/-- An instant of the frame lies in an interval. -/
def PortInt.has (k : PortInt) (t : Rat) : Bool := inInt (k.a, k.len) t
def PortInt.fin (k : PortInt) : Rat := modF (k.a + k.len)

/-- 1.75 µs in ticks (R196). -/
def guardT : Rat := (98304 : Rat) * 175 / 10000

/-- Every use begins at least 1.75 µs after the previous use ends. -/
def intsOk (is : List PortInt) : Bool :=
  is.all fun k =>
    let e := k.fin
    !(is.any fun j => j.tx != k.tx && j.has e)
      && ((is.any fun j => j.tx == k.tx && j.has e) || is.all fun j => decide (guardT ≤ modF (j.a - e)))

/-- R196 holds on a port. -/
def State.portOk (s : State) (bank : Nat → Option Nat) (m : Nat) : Bool :=
  let ls := s.portLanes m
  !(ls.any (fun n => (s.lane n).tdd) && ls.any fun n => !(s.lane n).tdd) && intsOk (s.portInts bank true m)

/-- R196 holds on every port, under a choice of banks. -/
def State.guardOk (s : State) (bank : Nat → Option Nat) : Bool := (List.range 8).all (s.portOk bank)

/-! ### The next edges of a port's uses -/

/-- Ticks until an instant of the frame, zero where it is now. -/
def State.until (s : State) (t : Rat) : Nat :=
  let d := modF (t - ((s.time.idx % frameT : Nat) : Rat))
  (-(ratFloor (-d))).toNat

/-- The nearest of a list of edges: ticks until it, and the kind of use. -/
def nearest (l : List (Nat × Bool)) : Option (Nat × Bool) :=
  l.foldl (fun a x => match a with | none => some x | some y => if x.1 < y.1 then some x else a) none

/-- The next use of a TDD port to start: ticks until it, and whether it is a transmit use (R196). -/
def State.nextUse (s : State) (m : Nat) : Option (Nat × Bool) :=
  let is := s.portInts s.actBank false m
  nearest ((is.filter fun k => !(is.any fun j => j.tx == k.tx &&
    (let d := modF (k.a - j.a); decide (0 < d) && decide (d ≤ j.len)))).map fun k => (s.until k.a, k.tx))

/-- Ticks until the end of the use of a kind that is under way. -/
def State.useEnd (s : State) (m : Nat) (tx : Bool) : Option Nat :=
  let is := (s.portInts s.actBank false m).filter fun k => k.tx == tx
  (nearest ((is.filter fun k => !(is.any fun j => j.has k.fin)).map fun k => (s.until k.fin, tx))).map (·.1)

/-! ### The guard check of a lane (R198) -/

/-- The standing signal of source 10 follows its causes (R199). -/
def State.tddStand (s : State) : State :=
  let s := if s.tdd.guard = 0 then s.unstand 10 0 else s.stand 10 0
  if s.tdd.ecc = 0 then s.unstand 10 1 else s.stand 10 1

def State.setTdd (s : State) (f : TddSt → TddSt) : State := { s with tdd := f s.tdd }

/-- R196 is checked again for a TDD lane: a failure raises GUARD_FAIL. -/
def State.guardCheck (s : State) (n : Nat) : State :=
  let l := s.lane n
  if !(l.on && l.tdd) || (s.portOk s.actBank l.rx && s.portOk s.actBank l.tx) then s
  else
    let s := (s.setTdd fun t => { t with guard := t.guard ||| BitVec.ofNat 32 (2 ^ n) }).tddStand
    s.raiseInt [(pgTDD, 2)] pgTDD 1 (portBit l.tx)

/-- A TDD lane has been disabled: its guard failure ends, and a bank error that no lane uses any longer. -/
def State.guardDrop (s : State) (n : Nat) : State :=
  let used := fun (x : Nat) => s.lanesOn.any fun k => (s.lane k).tdd && (s.lane k).pat == x
  (s.setTdd fun t =>
    { t with guard := t.guard &&& ~~~(BitVec.ofNat 32 (2 ^ n)),
             ecc := t.ecc &&& BitVec.ofNat 2 ((used 0).toNat + 2 * (used 1).toNat) }).tddStand

/-! ### Swaps (R197) -/

def State.swapOf (s : State) (x : Nat) : Option Swap :=
  if s.tst TDD_STAT_PENDING 0 x then some (s.tdd.pend.get ⟨0, 0⟩ x) else none

/-- A pending swap is cancelled. -/
def State.cancelSwap (s : State) (x : Nat) : State :=
  if s.tst TDD_STAT_PENDING 0 x then
    ((s.putBit TDD_STAT_PENDING 0 x false).wr TDD_STAT_CANCELLED 0 1).int pgTDD 1
  else s

/-- The number of the frame now, counted from TOD 0 (R170). -/
def State.frameNo (s : State) : Nat := s.tod / frameT

/-- The number of the next frame whose FRAME equals `f`. -/
def State.frameAfter (s : State) (f : Nat) : Nat :=
  let n := s.frameNo + 1
  n + (f + 1024 - n % 1024) % 1024

/-- The code of the first check of Table 6-5 that fails for bank `i` of pattern `x`. -/
def State.swapErr (s : State) (x i : Nat) : Option Nat :=
  let per := perT (s.rd TDD_PER i)
  let es := s.tddEntries i
  let starts := es.map (·.2)
  let up := (starts.zip starts.tail).all fun (a, b) => decide (a < b)
  if s.rd TDD_ENT_START (64 * i) ≠ 0 ∨ !up ∨ (starts.any fun a => decide (per ≤ a)) = true then some 2
  else if !(es.any fun e => e.1 == 1) || !(es.any fun e => e.1 == 2) then some 3
  else if !s.guardOk (fun y => if y = x then some i else s.actBank y) then some 4
  else if per < 4 * (s.rdS TDD_DLOFS i).natAbs ∨ per < 4 * (s.rdS TDD_ULOFS i).natAbs then some 5
  else none

/-- A write of TDD_CTL. -/
def State.writeTddCtl (s : State) (v : Word) : State :=
  let x := TDD_CTL_PAT.of v
  let s := (s.wr TDD_CTL_PAT 0 x).wr TDD_CTL_FRAME 0 (TDD_CTL_FRAME.of v)
  if TDD_CTL_SWAP.of v = 0 then s
  else
    let b := match s.actBank x with | some i => 1 - i % 2 | none => 0
    match s.swapErr x (2 * x + b) with
    | some e => (((s.wr TDD_STAT_ERR 0 e).refuse pgTDD).cancelSwap x).int pgTDD 1
    | none =>
      let f := s.frameAfter (TDD_CTL_FRAME.of v)
      ((s.wr TDD_STAT_ERR 0 0).putBit TDD_STAT_PENDING 0 x true).setTdd fun t => { t with pend := t.pend.set x ⟨b, f⟩ }

/-- The TOD, in ticks, at which a pending swap takes effect: the first sample of its frame's first interval, shifted as the
lanes see it (R195, R197); after a step of TOD past it, the next frame boundary. -/
def State.swapDue (s : State) (x : Nat) (w : Swap) : Nat :=
  let i := 2 * x + w.bank
  let ofs : Int := if s.rd TDD_ENT_DIR (64 * i) = 1 then s.rdS TDD_DLOFS i
    else if s.rd TDD_ENT_DIR (64 * i) = 2 then s.rdS TDD_ULOFS i else 0
  let at_ := ((w.frame * frameT : Nat) + ofs).toNat
  if s.tod ≤ at_ then at_ else (s.tod + frameT - 1) / frameT * frameT

/-- TDD_SWAP_APPLY: the pending swap of a pattern takes effect. -/
def State.swapApply (s : State) (x : Nat) : State :=
  match s.swapOf x with
  | none => s
  | some w =>
    let s := s.reach (s.now + (s.swapDue x w - s.tod))
    let s := (s.putBit TDD_STAT_PENDING 0 x false).putBit TDD_STAT_ACT_BANK 0 x (w.bank == 1)
    let s := (s.putBit TDD_STAT_LOADED 0 x true).int pgTDD 0
    let s := s.setTdd fun t => { t with ecc := t.ecc &&& ~~~(BitVec.ofNat 2 (2 ^ x)) }
    let s := if s.guardOk s.actBank then
        let keep := (List.range 32).foldl (fun (a : BitVec 32) n =>
          if (s.lane n).tdd && (s.lane n).pat == x then a else a ||| BitVec.ofNat 32 (2 ^ n)) 0
        s.setTdd fun t => { t with guard := t.guard &&& keep }
      else s
    s.tddStand

/-- A write to a register of a bank: ignored in the active bank, and it cancels a pending swap to the bank (R197, R198). -/
def State.writeTddBank (s : State) (x b : Nat) (fs : List Fld) (i : Nat) (v : Word) : State :=
  if s.actBank x = some (2 * x + b) then s.satInc TDD_WR_CNT 0
  else
    let s := s.wrWord fs i v
    match s.swapOf x with
    | some w => if w.bank = b then s.cancelSwap x else s
    | none => s

/-- TDD_BANK_ECC_ERROR: an uncorrectable error in the bank in use of a pattern (R198). -/
def State.bankEcc (s : State) (x : Nat) : State :=
  let ls := s.lanesOn.filter fun n => (s.lane n).tdd && (s.lane n).pat == x
  let s := if ls.isEmpty then s
    else (s.setTdd fun t => { t with ecc := t.ecc ||| BitVec.ofNat 2 (2 ^ x) }).tddStand
  s.raise pgTDD 2 (portsOf ((ls.filter fun n => (s.lane n).txEn).map fun n => (s.lane n).tx))

end Sys2Proof.Machine
end

