-- ==== Sys2Proof/Machine/Time.lean ====
section
/-! DEFINITION. The time reference: TOD and its steps, detectors, the time state, holdover, calendar time, PPS and the
reference role (spec/06_time_reference.md R168 to R193, R199). A phase error is the source's time less TOD, in ps. -/
namespace Sys2Proof.Machine
open Sys2Proof

/-! ### Roles and queries -/

/-- This device is the reference (R187). -/
def State.isRef (s : State) : Bool := s.rd TIME_STAT_REF_DEV 0 == s.devId && (s.vertex || s.time.refRole)
/-- This device disciplines its oscillator (R187): with REF_SHARED, the vertex's alone drives the ring's, and only a vertex
that is the reference disciplines it by its own measurements. -/
def State.disciplines (s : State) : Bool := if s.on TIME_CFG_REF_SHARED 0 then s.isRef && s.vertex else true
/-- The loop, its own or that of the reference elsewhere, sets the OSC_TUNE code (R172, R187). -/
def State.drives (s : State) : Bool := s.disciplines || s.vertex
def State.timeState (s : State) : Nat := s.rd TIME_STAT_STATE 0
def State.timeValid (s : State) : Bool := s.on TIME_STAT_VALID 0
/-- A detector reads DETECTED. -/
def State.detOn (s : State) (k : Nat) : Bool := s.rd TIME_DET_STAT_STATE k == 2
/-- The serving detector (R175). -/
def State.serving (s : State) : Option Nat := (List.range 4).find? s.detOn
/-- An active lane requires timing (R179). -/
def State.needsTime (s : State) (n : Nat) : Bool := (s.lane n).on && ((s.lane n).tdd || s.tst TIME_REQ 0 n)
/-- SYS_STATE.TIME_ACQ (R179). -/
def State.timeAcq (s : State) : Bool := s.timeValid || !((List.range 32).any s.needsTime)
/-- Ports of the lanes that require timing (Table 6-8). -/
def State.timePorts (s : State) : Ports :=
  portsOf (((List.range 32).filter fun n => s.needsTime n && (s.lane n).txEn).map fun n => (s.lane n).tx)

/-! ### Presence (R150) -/

/-- The donor's synchronisation signals are detected on a lane. -/
def State.syncOn (s : State) (n : Nat) : Bool :=
  (List.range 4).any fun k => s.detOn k && s.rd TIME_DET_CFG_LANE k == n

/-- The presence lane of an FDD repeating lane (R216). -/
def State.presLane (s : State) (n : Nat) : Option Nat :=
  if downlink n then some n else if s.on RFC_PRES_EN (n - 16) then some (s.rd RFC_PRES_LANE (n - 16)) else none

/-- The loss timer of an FDD port (R216), and the TXTO condition of R217: it runs in TX while a presence lane of one of its
lanes reads PRESENT = 0. The quiet period of the port's own TXTO starts once every one of them reads 1. -/
def State.lossEval (s : State) (m : Nat) : State :=
  let miss := (s.txLanes m).any fun n => match s.presLane n with | some k => !s.on PROT_LANE_STAT_PRESENT k | none => false
  let back := !miss && (s.fcSrc 17).stand.getLsbD m
  let s := s.cond back fun s => (s.unstand 17 m).setCport m fun c => { c with quiet := c.quiet.set cTXTO s.now }
  let runs := miss && !s.tddPort m && s.portState m == stTX
  s.setRport m fun r => { r with lossFrom := if runs then some (r.lossFrom.getD s.now) else none, lossHit := runs && r.lossHit }

/-- The loss timers of every port. -/
def State.lossAll (s : State) : State := (List.range 8).foldl (fun s m => s.lossEval m) s

/-- PROT_LANE_STAT_n.PRESENT follows its conditions. -/
def State.presUpdate (s : State) (n : Nat) : State :=
  let v := s.syncOn n || (s.prot.get {} n).was
  if s.on PROT_LANE_STAT_PRESENT n == v then s else ((s.wr PROT_LANE_STAT_PRESENT n v.toNat).int pgPROT 4).lossAll

/-! ### Steps of TOD (R171) -/

/-- TOD becomes `new` ticks: counted, journalled, and pending swaps find their frame again (R197). -/
def State.stepTod (s : State) (kind : Nat) (new : Int) : State :=
  let old := s.tod
  let n := (new % ((2 ^ 32 * tps : Nat) : Int)).toNat
  let d : Int := (n : Int) - old
  if d = 0 then s
  else
    let s := (s.setTod n).setStm fun x => { x with histStep := true }
    let s := (s.satInc TIME_STEP_CNT 0).journalInt [(pgTIME, 2)] pgTIME 0x0300 sevNOTE (pf 62 2 kind + ux 62 d)
    if d < 0 then
      s.setTdd fun t => { t with pend := t.pend.map fun (x, w) => (x, { w with frame := s.frameAfter (w.frame % 1024) }) }
    else s

/-- A phase error in ps as ticks. -/
def psTicks (ph : Int) : Int := roundDiv (ph * 98304) 100000000
/-- A phase error reduced to the smallest shift of the 10 ms grid. -/
def gridErr (ph : Int) : Int := (ph + 5000000000) % 10000000000 - 5000000000

/-! ### The time state (R177) -/

/-- DONOR_SYNC_LATCH: the timing of the TDD repeating lanes becomes invalid (R149). -/
def State.donorLatch (s : State) (ls : List Nat) : State :=
  let ps := portsOf (ls.map fun n => (s.lane n).tx)
  if ps = 0 then s else ((s.stand 16 0).detect cDONOR pgPROT 5 ps)

def State.tddRepeating (s : State) : List Nat := (List.range 32).filter fun n => (s.lane n).repeating && (s.lane n).tdd

/-- The time state becomes `st` (Table 6-2). DESIGN CHOICE (log 111): TIME_HOLD_STAT reads 0 once HOLDOVER is left (R191 is
silent). -/
def State.setTimeState (s : State) (st : Nat) : State :=
  let old := s.timeState
  if old = st then s
  else
    let was := s.timeValid
    let v := decide (2 ≤ st)
    let s := ((s.wr TIME_STAT_STATE 0 st).wr TIME_STAT_VALID 0 v.toNat).int pgTIME 0
    let s := s.setTime fun t => { t with stateAt := s.now, goodSince := none, stepped := t.stepped && st != 0 }
    let s := s.cond (old == 4) fun s => (s.wr TIME_HOLD_STAT_E 0 0).wr TIME_HOLD_STAT_T 0 0
    let s := s.cond (st == 0) fun s =>
      ((s.wr TIME_OSC 0 s.time.tuneW).wr TIME_STAT_SRC_ACT 0 3).setTime fun t => { t with kvSince := none }
    if was && !v then s.donorLatch s.tddRepeating
    else if !was && v then (s.unstand 16 0).unstand 9 0
    else s

/-- A fault of source 9 (Table 6-8), whose recovery waits for valid timing. -/
def State.timeFault (s : State) (b : Nat) : State :=
  (s.cond (!s.timeValid) fun s => s.stand 9 0).raise pgTIME b s.timePorts

/-- Holdover begins (R191, Table 6-3). -/
def State.holdover (s : State) : State :=
  let st := s.timeState
  if st = 2 ∨ st = 3 then
    let (e, f) := if st = 3 then (60, if s.time.stateAt + secT 300 ≤ s.now then 1 else 5) else (120, 50)
    let e := if s.isRef then e else e + 20
    ((s.setTimeState 4).wr TIME_STAT_SRC_ACT 0 3).setTime fun t => { t with holdAt := t.goodAt, e0 := e, f0 := f }
  else s

/-- The loop would drive the OSC_TUNE code to `want`: it is held at its limits (R173). -/
def State.tuneTo (s : State) (want : Int) : State :=
  let code := max 0 (min want 0xFFFFF)
  let rail := code != want
  let new := rail && !s.on TIME_STAT_RAIL 0
  let s := (s.wr TIME_OSC 0 code.toNat).wr TIME_STAT_RAIL 0 rail.toNat
  s.cond new fun s => s.timeFault 2

/-- The loop sets the OSC_TUNE code, or, on a reference other than the vertex of a shared oscillator, finds a correction to
send (R172, R173, R187). The law of the loop is not given, so what it wants is free. -/
def State.tuneLoop (s : State) : State :=
  if s.timeState == 0 || s.time.kvSince.isSome then s
  else if s.disciplines then
    let (k, s) := s.draw
    s.tuneTo (sx 22 (Config.freeValue k).toNat)
  else if s.isRef then
    let (k, s) := s.draw
    s.setTime fun t => { t with corr := some (sx 22 (Config.freeValue k).toNat) }
  else s

/-- On a device that no longer drives its oscillator the code is the host's again (R172). -/
def State.tuneHost (s : State) : State := s.cond (!s.drives) fun s => s.wr TIME_OSC 0 s.time.tuneW

/-- The code applied to OSC_TUNE: 65,536 above the current one, then 65,536 below it, for 100 ms each while the slope is
measured (R172). -/
def State.oscCode (s : State) : Nat :=
  match s.time.kvSince with
  | some t => if s.now < t + msT 100 then min 0xFFFFF (s.rd TIME_OSC 0 + 65536) else s.rd TIME_OSC 0 - 65536
  | none => s.rd TIME_OSC 0

/-- The ACQUIRED criterion of Table 6-2, with the step of the first entry after FREE (R177). -/
def State.tryAcquire (s : State) (ph fe : Int) : State :=
  if 800 < fe.natAbs then s
  else
    let (s, ph) := if s.time.stepped then (s, ph)
      else ((s.setTime fun t => { t with stepped := true }).stepTod 0 (s.tod + psTicks (gridErr ph)), 0)
    if 100000 < ph.natAbs then s
    else
      let s := s.setTimeState 2
      s.setTime fun t => { t with goodSince := if ph.natAbs ≤ 20000 ∧ fe.natAbs ≤ 32 then some s.now else none }

/-- TIME_RESTEP (R180). -/
def State.restep (s : State) (ph : Int) : State :=
  let s := (s.setTimeState 1).timeFault 3
  (s.setTime fun t => { t with stepped := true }).stepTod 1 (s.tod + psTicks ph)

/-- A measurement of the source in use (R176, R177, R180): phase in ps, frequency in 1/16 ppb. -/
def State.measure (s : State) (ph fe : Int) (src : Nat) : State :=
  let s := (s.wrSat TIME_ERR_PHASE 0 (roundDiv ph 1000)).wrSat TIME_ERR_FOFS 0 fe
  let s := (s.wr TIME_STAT_SRC_ACT 0 src).setTime fun t => { t with goodAt := s.now }
  let s := if s.timeState = 0 then
      let s := s.setTimeState 1
      if s.rd TIME_OSC_KV 0 = 0 ∧ s.disciplines = true then s.setTime fun t => { t with kvSince := some s.now } else s
    else s
  let st := s.timeState
  let s := if st = 1 then (if s.time.kvSince.isSome then s else s.tryAcquire ph fe)
    else if (s.rd TIME_LOOP_STEP_LIM 0 * 1000 : Nat) < ph.natAbs then s.restep ph
    else
      let s := if st = 4 then (if ph.natAbs ≤ 100000 ∧ fe.natAbs ≤ 800 then s.setTimeState 2 else s)
        else if st = 3 ∧ (40000 < ph.natAbs ∨ 80 < fe.natAbs) then s.setTimeState 2
        else s
      if s.timeState = 2 then
        s.setTime fun t =>
          { t with goodSince := if ph.natAbs ≤ 20000 ∧ fe.natAbs ≤ 32 then some (t.goodSince.getD s.now) else none }
      else s
  s.tuneLoop

/-- KV_MEASUREMENT_DONE (R172): 200 ms after its start the slope is written. -/
def State.kvDone (s : State) (kv : BitVec 16) : State :=
  match s.time.kvSince with
  | none => s
  | some t => ((s.reach (t + msT 200)).wr TIME_OSC_KV 0 kv.toNat).setTime fun x => { x with kvSince := none }

/-- TIME_LOCKED (R177). -/
def State.timeLocked (s : State) : State :=
  match s.time.goodSince with
  | some t => if s.timeState = 2 then (s.reach (t + secT 10)).setTimeState 3 else s
  | none => s

/-! ### Detectors (R174, R175) -/

/-- TIME_STAT.NO_SRC: no detector reads DETECTED, and PPS_IN is no source. -/
def State.setNoSrc (s : State) : State :=
  s.wr TIME_STAT_NO_SRC 0 (s.serving.isNone && s.rd TIME_PPSI_MODE 0 != 2).toNat

/-- A detector's state, with the serving detector, NO_SRC and the presence of its lane. -/
def State.setDet (s : State) (k st : Nat) : State :=
  let old := s.rd TIME_DET_STAT_STATE k
  let s := s.wr TIME_DET_STAT_STATE k st
  let s := s.cond (old != st) fun s => s.int pgTIME 5
  let s := s.wr TIME_STAT_SERVING 0 (s.serving.getD 0)
  let s := s.setNoSrc
  s.presUpdate (s.rd TIME_DET_CFG_LANE k)

/-- No detector serves any longer: a reference that lives by its donor goes into holdover, and the understudy's and the
return's averaging break off (R191 to R193). -/
def State.donorLost (s : State) : State :=
  if s.serving.isSome then s
  else
    let s := (s.setTime fun t => { t with usSince := none, retSince := none }).wr TIME_STAT_US_READY 0 0
    if s.isRef && s.rd TIME_CFG_SRC 0 == 0 then s.holdover else s

/-- A detector goes to IDLE and clears EN. -/
def State.detIdle (s : State) (k : Nat) : State :=
  ((s.wr TIME_DET_CFG_EN k 0).setDet k 0).donorLost

/-- The detectors of a lane that is disabled (R175). -/
def State.detLaneOff (s : State) (n : Nat) : State :=
  (List.range 4).foldl (fun (s : State) k =>
    if s.rd TIME_DET_STAT_STATE k != 0 && s.rd TIME_DET_CFG_LANE k == n then s.detIdle k else s) s

def detFlds : List Fld := [TIME_DET_CFG_EN, TIME_DET_CFG_TYPE, TIME_DET_CFG_LANE, TIME_DET_CFG_PCI]

/-- Half the occupied width of a signal type in MHz (Table 6-1). -/
def detHalf (ty : Nat) : Rat :=
  match ty with | 0 => (54 : Rat) / 100 | 1 => (9 : Rat) / 100 | 2 => (18 : Rat) / 10 | _ => (36 : Rat) / 10

/-- The code of the first check of Table 6-1 that fails. -/
def State.detErr (s : State) (k : Nat) (v : Word) : Option Nat :=
  let n := TIME_DET_CFG_LANE.of v
  let ty := TIME_DET_CFG_TYPE.of v
  let l := s.lane n
  let ofs : Rat := ratAbs (s.rdS TIME_DET_OFS k : Rat) * 5 / 1000
  if !l.on then some 1
  else if (ty = 2 ∧ l.rate < 2) ∨ (ty = 3 ∧ l.rate < 3) then some 2
  else if occBw l.rate l.chf / 2 < ofs + detHalf ty then some 3
  else none

/-- A write of TIME_DET_CFG_k (R174). -/
def State.writeDet (s : State) (k : Nat) (v : Word) : State :=
  let was := s.rd TIME_DET_STAT_STATE k != 0
  let s := s.cond was fun s => s.detIdle k
  let s := s.wrWord detFlds k v
  if v.getLsbD 31 = false then s
  else match s.detErr k v with
    | some e => ((s.wr TIME_DET_STAT_ERR k e).wr TIME_DET_CFG_EN k 0).refuse pgTIME
    | none => (s.wr TIME_DET_STAT_ERR k 0).setDet k 1

/-- Δ averaged over 60 s (R192), in ps. -/
def State.averageDelta (s : State) (ph : Int) : State :=
  let old := s.rdS TIME_US_DELTA 0
  let new := match s.time.deltaAt with
    | none => ph
    | some t => old + roundDiv ((ph - old) * (min (s.now - t) (secT 60) : Nat)) (secT 60)
  (s.wrSat TIME_US_DELTA 0 new).setTime fun t => { t with deltaAt := some s.now }

/-- A reference that realigns moves its held Δ toward 0 at SLEW_MAX (R193). -/
def State.slewHeld (s : State) : State :=
  if s.time.realign then
    let d : Int := (s.rd TIME_LOOP_SLEW_MAX 0 * 1000 * (s.now - s.time.goodAt) / tps : Nat)
    let h := s.time.held
    let h := if h < 0 then min 0 (h + d) else max 0 (h - d)
    s.setTime fun t => { t with held := h, realign := h != 0 }
  else s

/-- The receive latency of a lane in ps: the receive terms of R69. DEDUCED (log 107): the detectors take the lane's word as the
decimator forms it. -/
def State.rxLatPs (s : State) (n : Nat) : Int :=
  let l := s.lane n
  let fr := synRate s.rfc.synA
  let fl := laneRate l.rate
  match decim s.rfc.synA l.rate with
  | some (m, _) => roundRat ((64 / fr + (5 / fl - (m : Rat) / fr)) * 1000000)
  | none => 0

/-- SYNC_DETECTION: detector `k` finds a cell, and measures the timebase against it through the lane's receive path, whose
latency is removed (R175, R176); `ph`: donor-derived time as it comes through that path, less TOD, in ps. -/
def State.syncDetect (s : State) (k : Nat) (pci : Nat) (sinr : BitVec 8) (ph fe : Int) : State :=
  let st := s.rd TIME_DET_STAT_STATE k
  let want := s.rd TIME_DET_CFG_PCI k
  let ph := ph + s.rxLatPs (s.rd TIME_DET_CFG_LANE k)
  if st = 0 ∨ ¬ (want = 0x3FF ∨ want = pci) then s
  else
    let s := (s.wr TIME_DET_STAT_PCI k pci).wr TIME_DET_STAT_SINR k sinr.toNat
    let s := s.setTime fun t =>
      { t with det := t.det.set k { lastAt := s.now, since := if st = 2 then (t.det.get {} k).since else s.now } }
    let s := s.setDet k 2
    if s.serving ≠ some k then s
    else if s.isRef then
      if s.rd TIME_CFG_SRC 0 = 0 ∧ s.time.refFail = false then
        let s := s.slewHeld
        s.measure (ph - s.time.held) fe 0
      else s
    else
      let us := s.rd TIME_CFG_ROLE 0 == 1 && !s.on TIME_STAT_US_IGNORED 0 && !s.vertex
      if us then
        (s.averageDelta ph).setTime fun t =>
          { t with usSince := if s.timeValid then some (t.usSince.getD s.now) else none }
      else if s.vertex then
        (s.averageDelta ph).setTime fun t => { t with retSince := some (t.retSince.getD s.now) }
      else s

/-- DETECTOR_LOST (R175): LOSS × 50 ms after its last matching detection. -/
def State.detLost (s : State) (k : Nat) : State :=
  if s.detOn k then
    let s := s.reach ((s.time.det.get {} k).lastAt + msT (50 * s.rd TIME_LOOP_LOSS 0))
    (s.setDet k 3).donorLost
  else s

/-! ### Holdover (R191) -/

/-- E(t) in ns after `dt` ticks of holdover. -/
def State.holdE (s : State) (dt : Nat) : Rat :=
  let t : Rat := (dt : Rat) / (tps : Rat)
  s.time.e0 + ((s.time.f0 : Rat) + (s.rd TIME_HOLD_OSC_FERR 0 : Rat) / 10) * t
    + (s.rd TIME_HOLD_DRIFT 0 : Rat) / 2000000 * t * t

/-- Ring time is lost on a follower (R190): it runs in holdover until messages arrive again. -/
def State.ringTimeLost (s : State) : State :=
  if s.isRef || s.timeState == 0 then s
  else (s.setTime fun t => { t with usSince := none }).holdover.int pgTIME 6

/-- The loss of the source of a device that takes its time from PPS_IN edges or from the ring, as the evaluations every 1 ms
find it (R177, R185, R190). DESIGN CHOICE (log 106): edges are lost after LOSS of their periods of 1 s, and messages after
two of their intervals of 1 ms. -/
def State.srcCheck (s : State) : State :=
  if s.isRef then
    if s.rd TIME_CFG_SRC 0 = 1 then
      let s := s.toMul evHOLD s.time.goodAt 983040
      s.cond (decide (s.time.goodAt + secT (s.rd TIME_LOOP_LOSS 0) ≤ s.now)) State.holdover
    else s
  else match s.time.lastMsg with
    | some t =>
      let s := s.toMul evHOLD t 983040
      s.cond (decide (t + msT 2 ≤ s.now)) State.ringTimeLost
    | none => s

/-- HOLDOVER_EVALUATION: the next of the evaluations every 1 ms. -/
def State.holdEval (s : State) : State :=
  if s.timeState = 2 ∨ s.timeState = 3 then s.srcCheck
  else if s.timeState ≠ 4 then s
  else
    let h := s.time.holdAt
    let s := s.toMul evHOLD h 983040
    let e := s.holdE (s.now - h)
    let s := (s.wr TIME_HOLD_STAT_E 0 (min 0xFFFF (roundRat e).toNat)).wr TIME_HOLD_STAT_T 0 (min 0xFFFF ((s.now - h) / tps))
    if (s.rd TIME_HOLD_BUDGET 0 : Rat) < e then (s.setTimeState 0).timeFault 1 else s

/-! ### Registers of the page (R191, R201) -/

/-- A write of TIME_CFG. -/
def State.writeTimeCfg (s : State) (v : Word) : State :=
  let src := TIME_CFG_SRC.of v
  if src = 3 ∨ 1 < TIME_CFG_ROLE.of v then s.refuse pgTIME
  else
    let old := s.rd TIME_CFG_SRC 0
    let s := s.wrWord [TIME_CFG_REVERT, TIME_CFG_REF_SHARED, TIME_CFG_SRC, TIME_CFG_ROLE] 0 v
    let s := s.wr TIME_STAT_US_IGNORED 0
      (TIME_CFG_ROLE.of v == 1 && !s.vertex && s.time.understudies.any fun d => decide (d < s.devId)).toNat
    let s := if old = src ∨ !s.isRef then s
      else if src = 2 then s.setTimeState 0
      else if s.timeValid then s.holdover
      else s
    s.tuneHost

/-- A write of TIME_PPSI: a reference that lives by PPS_IN loses its source as MODE leaves SOURCE (R177, R185). -/
def State.writePpsi (s : State) (v : Word) : State :=
  if TIME_PPSI_MODE.of v = 3 then s.refuse pgTIME
  else
    let was := s.rd TIME_PPSI_MODE 0
    let s := (s.wrWord [TIME_PPSI_MODE, TIME_PPSI_COMP] 0 v).setNoSrc
    s.cond (was == 2 && s.rd TIME_PPSI_MODE 0 != 2 && s.isRef && s.rd TIME_CFG_SRC 0 == 1) State.holdover

/-- A write of TIME_HOLD. -/
def State.writeHold (s : State) (v : Word) : State :=
  if s.rd TIME_LOOP_STEP_LIM 0 < TIME_HOLD_BUDGET.of v then s.refuse pgTIME
  else s.wrWord [TIME_HOLD_BUDGET, TIME_HOLD_OSC_FERR] 0 v

/-- A write of TIME_LOOP. -/
def State.writeTimeLoop (s : State) (v : Word) : State :=
  let st := TIME_LOOP_STEP_LIM.of v
  let sl := TIME_LOOP_SLEW_MAX.of v
  if st < 100 ∨ 10000 < st ∨ sl < 5 ∨ 200 < sl ∨ TIME_LOOP_LOSS.of v = 0 ∨ 3 < TIME_LOOP_BW.of v
      ∨ st < s.rd TIME_HOLD_BUDGET 0 then s.refuse pgTIME
  else s.wrWord [TIME_LOOP_STEP_LIM, TIME_LOOP_SLEW_MAX, TIME_LOOP_LOSS, TIME_LOOP_BW] 0 v

/-- A write of TIME_OSC: ignored while the loop sets the code (R172). -/
def State.writeOsc (s : State) (v : Word) : State :=
  if s.timeState = 0 ∨ !s.drives then
    (s.wr TIME_OSC 0 (TIME_OSC.of v)).setTime fun t => { t with tuneW := TIME_OSC.of v }
  else s

/-! ### REF_OUT (R186) -/

/-- The frequency of REF_OUT in Hz. -/
def State.refOutHz (s : State) : Rat :=
  if s.on TIME_REFOUT_MODE 0 then (983040000 : Rat) * s.rd TIME_REFOUT_FREQ 0 / 2 ^ 32
  else (983040000 : Rat) / s.rd TIME_REFOUT_DIV 0

/-- REF_OUT is high at the present tick. In INT mode a rising edge coincides with each TOD second where the frequency is a whole
number of hertz. DESIGN CHOICE (log 108): the duty cycle, and the phase where the rule gives none. -/
def State.refOutHigh (s : State) : Bool :=
  if !s.on TIME_REFOUT_EN 0 then false
  else if s.on TIME_REFOUT_MODE 0 then decide (s.now * s.rd TIME_REFOUT_FREQ 0 % 2 ^ 32 < 2 ^ 31)
  else
    let d := s.rd TIME_REFOUT_DIV 0
    let k := if tps % d = 0 then s.time.idx else s.now
    decide (2 * (k % d) < d)

/-- TIME_SNAPSHOT: TIME_CTL.SNAP (R169, R183). -/
def State.timeSnap (s : State) : State :=
  let s := s.setTime fun t => { t with snapTick := s.now }
  let s := (s.wr TIME_TOD_SEC 0 s.time.sec).wr TIME_TOD_FRAC 0 (roundDiv (s.time.idx * 2 ^ 32 : Nat) tps).toNat
  let s := s.wr TIME_FRAME 0 (s.frameNo % 1024)
  s.wr TIME_UTC_SEC 0 (ux 32 ((s.time.sec : Int) - s.rdS TIME_UTC 0))

/-- The time message that a device which is the reference sends by port `p`, and that arrives at its neighbour's other port
(R188, R193). -/
def State.timeMsg (s : State) (p : Nat) : TimeMsg :=
  let set := match s.time.calSet with
    | some (w, _) =>
      some (BitVec.ofNat 32 (s.rd TIME_SET_SEC 0), BitVec.ofNat 7 (s.rd TIME_SET_CS 0),
        (s.tod + (w + usT 10 - s.now) + frameT - 1) / frameT)
    | none => none
  let own := if s.rd TIME_CFG_ROLE 0 == 1 && !s.vertex then [s.devId] else []
  { port := p == 0, dev := s.devId, valid := s.timeValid, state := s.timeState, tod := s.tod, ps := 0, fe := 0, hops := 1,
    set := set, move := s.time.moved, us := (s.time.understudies ++ own).eraseDups, tune := s.time.corr }

/-- The reference sends its time on RING_DN, and on RING_UP too while the ring is a line (R188, R190). -/
def State.timeOut (s : State) : State :=
  let send := fun (s : State) p => s.emit ⟨p, 2, everyDev, 0, .time (s.timeMsg p)⟩
  let s := s.cond (s.rportUp 1) fun s => send s 1
  let s := s.cond (s.rportUp 0 && !s.ring.broken.isEmpty) fun s => send s 0
  s.setTime fun t => { t with corr := none }

/-- CALENDAR_SET_GO: TIME_CTL.SET_GO (R181). The ring carries the set at once, so that the followers apply it at the same
boundary. -/
def State.calGo (s : State) : State :=
  if s.isRef then (s.setTime fun t => { t with calSet := some (s.now, none) }).timeOut else s.refuse pgTIME

/-- CALENDAR_SET_APPLY: at the first frame boundary at least 10 µs after the write (R181, R197). -/
def State.calApply (s : State) : State :=
  match s.time.calSet with
  | none => s
  | some (w, named) =>
    let s := s.reach (w + usT 10)
    let s := s.reach (s.now + (frameT - s.time.idx % frameT) % frameT)
    let new := named.getD (s.rd TIME_SET_SEC 0 * tps + s.rd TIME_SET_CS 0 * frameT)
    let s := ((s.setTime fun t => { t with calSet := none }).wr TIME_STAT_CAL_SET 0 1).stepTod 2 new
    let s := s.int pgTIME 3
    (s.cancelSwap 0).cancelSwap 1

/-- REALIGN: TIME_CTL.REALIGN on the reference (R193). -/
def State.realignGo (s : State) : State :=
  if s.isRef then s.setTime fun t => { t with realign := t.held != 0 } else s

/-- A write of TIME_CTL. -/
def State.writeTimeCtl (s : State) (v : Word) : State :=
  let s := s.cond (v.getLsbD 0) State.timeSnap
  let s := s.cond (v.getLsbD 2) State.realignGo
  s.cond (v.getLsbD 31) State.calGo

/-! ### PPS (R184, R185) -/

/-- PPS_OUT_PULSE: the next second boundary less COMP; suppressed while timing is invalid, with GATE. -/
def State.ppsOut (s : State) : State :=
  if !s.on TIME_PPSO_EN 0 then s
  else
    let at_ : Int := (tps : Int) - roundDiv (s.rdS TIME_PPSO_COMP 0 * 98304) 100000
    let d := (at_ - s.time.idx) % (tps : Int)
    let s := (if d = 0 ∧ s.due evPPS = true then s else s.reach (s.now + (if d = 0 then tps else d.toNat))).mark evPPS
    if s.on TIME_PPSO_GATE 0 && !s.timeValid then s
    else s.setTime fun t => { t with ppsHigh := some (s.now + usT (10 * s.rd TIME_PPSO_WIDTH 0)) }

/-- PPS_OUT is high. -/
def State.ppsOutHigh (s : State) : Bool := match s.time.ppsHigh with | some e => decide (s.now < e) | none => false

/-- PPS_IN_EDGE: a rising edge; `fe`: the frequency error against the edges, in 1/16 ppb (R185). -/
def State.ppsIn (s : State) (fe : Int) : State :=
  let at_ : Int := (s.tod : Int) - roundDiv (s.rdS TIME_PPSI_COMP 0 * 98304) 100000
  let m := s.rd TIME_PPSI_MODE 0
  if m = 1 then
    let t := (at_ % ((2 ^ 32 * tps : Nat) : Int)).toNat
    ((s.wr TIME_PPSI_SEC 0 (t / tps)).wr TIME_PPSI_FRAC 0 (roundDiv (t % tps * 2 ^ 32 : Nat) tps).toNat).int pgTIME 4
  else if m = 2 ∧ s.rd TIME_CFG_SRC 0 = 1 ∧ s.isRef = true ∧ s.time.refFail = false then
    let e := (at_ + tps / 2) % (tps : Int) - tps / 2
    s.measure (roundDiv (-e * 100000000) 98304) fe 2
  else s

/-! ### The ring's time (R187 to R190) and the reference role (R192, R193) -/

/-- The reference role moves (R193, record 0x0301). -/
def State.roleMove (s : State) (dev kind : Nat) (delta : Int) : State :=
  let old := s.rd TIME_STAT_REF_DEV 0
  let s := (s.wr TIME_STAT_REF_DEV 0 dev).setTime fun t =>
    { t with moved := if dev = s.devId then some (kind, delta) else none }
  s.journalInt [(pgTIME, 1)] pgTIME 0x0301 sevNOTE (pf 58 6 dev + pf 52 6 old + pf 50 2 kind + ux 32 delta)

/-- The delay in ps that a message arriving by port `p` has taken over its arc (R188). -/
def State.arcPs (s : State) (p : Nat) : Nat := s.time.arcs.get 0 (2 * p + (if p = 0 then 1 else 0))

/-- A calendar set that the ring carries: at the start of frame `f` TOD becomes `new` ticks, or at the next boundary with the
frames since added, where that one has passed (R181). -/
def State.ringSet (s : State) (new f : Nat) : State :=
  let k := if f * frameT ≤ s.tod then s.tod / frameT + 1 - f else 0
  s.setTime fun t =>
    { t with calSet := some (s.now + ((f + k) * frameT - s.tod) - usT 10, some (new + k * frameT)) }

/-- A time message goes on around the ring, corrected for the arc that it came by (R188); a device with the role UNDERSTUDY
adds its ID (R192). -/
def State.timeRelay (s : State) (m : TimeMsg) : State :=
  let p := m.port.toNat
  let q := 1 - p
  let us := (m.us.filter (· != s.devId)) ++ (if s.rd TIME_CFG_ROLE 0 == 1 && !s.vertex then [s.devId] else [])
  s.cond (s.rportUp q) fun s =>
    s.emit ⟨q, 2, everyDev, 0, .time { m with port := q == 0, ps := m.ps + s.arcPs p, hops := m.hops + 1, us := us }⟩

/-- A follower takes its time from a message over RING_UP, or over RING_DN where a break has cut it off (R188, R190, R193). -/
def State.timeTake (s : State) (m : TimeMsg) : State :=
  let p := m.port.toNat
  let s := s.setTime fun t => { t with lastMsg := some s.now, viaDn := m.port, understudies := m.us, refState := m.state }
  let s := s.wr TIME_STAT_US_IGNORED 0
    (s.rd TIME_CFG_ROLE 0 == 1 && !s.vertex && m.us.any fun d => decide (d < s.devId)).toNat
  let wasRef := s.isRef
  let s := if s.rd TIME_STAT_REF_DEV 0 = m.dev then s
    else match m.move with
      | some (k, d) => if wasRef then s.roleMove m.dev k d else (s.wr TIME_STAT_REF_DEV 0 m.dev).int pgTIME 1
      | none => (s.wr TIME_STAT_REF_DEV 0 m.dev).int pgTIME 1
  let s := s.cond wasRef fun s =>
    s.setTime fun t => { t with refRole := false, held := 0, realign := false, deltaAt := none, corr := none }
  let s := (s.wr TIME_RING 0 m.hops).tuneHost
  let s := match m.set with
    | some (sec, cs, f) => s.ringSet (sec.toNat * tps + cs.toNat * frameT) f
    | none => s
  let s := match m.tune with
    | some d => s.cond (s.vertex && s.on TIME_CFG_REF_SHARED 0 && s.timeState != 0) fun s => s.tuneTo (s.rd TIME_OSC 0 + d)
    | none => s
  if !m.valid then (s.setTime fun t => { t with usSince := none }).holdover
  else
    let ph := roundDiv (((m.tod : Int) - s.tod) * 100000000) 98304 + m.ps + s.arcPs p
    let s := if s.on TIME_CFG_REF_SHARED 0 && s.timeValid && decide (1018 ≤ ph.natAbs)
        && decide (s.time.slewAt * s.rd TIME_LOOP_SLEW_MAX 0 + 1018 * tps / 1000 ≤ s.now * s.rd TIME_LOOP_SLEW_MAX 0) then
        let t := (((s.tod : Int) + (if ph < 0 then -1 else 1)) % ((2 ^ 32 * tps : Nat) : Int)).toNat
        (s.setTod t).setTime fun x => { x with slewAt := s.now }
      else s
    s.measure ph m.fe 1

/-- TIME_MESSAGE_RECEIVED. The reference's own message has come round the ring, and tells it the understudies. -/
def State.timeMessage (s : State) (m : TimeMsg) : State :=
  let s := s.took m.port.toNat 2
  if m.dev = s.devId then s.setTime fun t => { t with understudies := m.us }
  else if m.port && s.ring.broken.isEmpty then s
  else (s.timeTake m).timeRelay m

/-- US_READY: 60 s of the detector DETECTED and the ring valid (R192). -/
def State.usReady (s : State) : State :=
  match s.time.usSince with
  | none => s
  | some t =>
    if s.rd TIME_CFG_ROLE 0 == 1 && !s.vertex && !s.on TIME_STAT_US_IGNORED 0 && s.timeValid && s.serving.isSome then
      (s.reach (t + secT 60)).wr TIME_STAT_US_READY 0 1
    else s

/-- UNDERSTUDY_TAKEOVER on the understudy, as the reference announces HOLDOVER or FREE, or on an invalid ring (R193); `ph`: its donor-derived time less TOD, in ps. -/
def State.takeover (s : State) (ph : Int) : State :=
  let us := s.rd TIME_CFG_ROLE 0 == 1 && !s.vertex && !s.on TIME_STAT_US_IGNORED 0 && !s.isRef
  if us && s.timeValid && s.on TIME_STAT_US_READY 0 && (s.time.refState == 0 || s.time.refState == 4) then
    let d := s.rdS TIME_US_DELTA 0
    let s := s.setTime fun t => { t with refRole := true, held := d, realign := false }
    ((s.wr TIME_STAT_SRC_ACT 0 0).roleMove s.devId 0 (roundDiv d 1000))
  else if us && !s.timeValid && s.serving.isSome then
    let s := s.setTime fun t => { t with refRole := true, held := 0, realign := false, stepped := true }
    let s := (s.roleMove s.devId 1 (roundDiv ph 1000)).stepTod 3 (s.tod + psTicks ph)
    (s.setTimeState 1).wr TIME_STAT_SRC_ACT 0 0
  else s

/-- REFERENCE_RETURN on the vertex (R193). -/
def State.refReturn (s : State) : State :=
  if !s.vertex || s.isRef || s.serving.isNone then s
  else
    let d := s.rdS TIME_US_DELTA 0
    let back := fun (s : State) =>
      ((s.setTime fun t => { t with held := d, realign := false, retSince := none }).wr TIME_STAT_SRC_ACT 0 0).roleMove
        s.devId 2 (roundDiv d 1000)
    match s.on TIME_CFG_REVERT 0, s.time.retSince with
    | true, some t => back (s.reach (t + secT 60))
    | true, none => s
    | false, _ => if s.time.refState = 2 ∨ s.time.refState = 3 then s else back s

/-! ### REF_IN (R199) -/

/-- REF_IN is absent or off frequency: the internal oscillator, state FREE and source 55. -/
def State.refInFail (s : State) : State :=
  if s.time.refFail then s
  else
    let s := (s.setTime fun t => { t with refFail := true }).wr TIME_STAT_DEGRADED 0 1
    ((s.stand 55 0).raise pgTIME 4 allPorts).setTimeState 0

end Sys2Proof.Machine
end

