-- ==== Sys2Proof/Machine/LaneOps.lean ====
section
/-! DEFINITION. Lanes as the host and the other blocks switch them (spec/02_lanes_and_converters.md R57 to R61, R68), and
lane migration (spec/09_self_timed_fabric.md R268 to R273). -/
namespace Sys2Proof.Machine
open Sys2Proof

/-! ### Stopping a lane (R60) -/

/-- A lane stops at this instant. With `dis` the samples inside are discarded and counted; with `keep` LANE_CFG.EN stays
as it is. -/
def State.laneOff (s : State) (n : Nat) (dis keep : Bool) : State :=
  let s := s.syncTo n (s.sampleNo n)
  let s := s.cond dis fun s => s.setLedger n fun l => { l with dis := l.dis + l.held, held := 0 }
  let s := s.endCap n
  let s := s.setLane n fun l =>
    { l with phase := .off, cap := none, capNext := none, throttle := 0, suspect := false, suspectEnds := none, delayNext := none,
             request := 0 }
  let s := s.cond (!keep) fun s => s.wr LANE_CFG_EN n 0
  let s := ((s.wr LANE_STAT_ACTIVE n 0).wr LANE_LAT n 0).wr LANE_STAT_SUSPECT n 0
  let s := (s.wr RSM_STAT n 0).wr LANE_GAIN_CLAMPED n 0
  let s := (((s.stopLaneStreams n).dropRetained n).sptStop n).guardDrop n
  let s := s.cond (!keep) fun s => s.detLaneOff n
  let s := { s with prot := s.prot.set n {} }
  s.presUpdate n

/-- A lane stops at its next lane sample after tick `t`, and an accepted one that has not begun at once; the samples inside
are discarded and counted (R60). -/
def State.laneStop (s : State) (n : Nat) (keep : Bool) (t : Nat) : State :=
  (s.cond (s.lane n).active fun s => s.reach ((t / (s.lane n).period + 1) * (s.lane n).period)).laneOff n true keep

/-! ### Migration (R268 to R273) -/

def migWARMING : Nat := 1
def migCOMMITTED : Nat := 2
def migDONE : Nat := 3
def migABORTED : Nat := 4

/-- The device takes part in a migration as its source. -/
def State.migSource (s : State) : Bool := !s.on LEDG_MIG_STAT_ROLE 0
/-- The target slot is on this device. -/
def State.migLocalTarget (s : State) (m : Mig) : Bool := !m.remote || !s.migSource

/-- A migration ends in a phase. -/
def State.migEnd (s : State) (phase : Nat) : State :=
  let s := (s.setFab fun f => { f with mig := none }).wr LEDG_MIG_STAT_PHASE 0 phase
  let s := (s.wr LEDG_MIG_STAT_BUSY 0 0).int pgLEDG 0
  if phase = migDONE then s.satInc LEDG_MIG_CNT_DONE 0 else s.satInc LEDG_MIG_CNT_ABORTED 0

/-- A lane slot is taken off, its paths released. -/
def State.slotOff (s : State) (n : Nat) (dis : Bool) : State :=
  (lanePaths n).foldl (fun s p => s.pathDisable p) (s.laneOff n dis false)

/-- The migration is aborted (Table 9-4): the target is disabled, and the source runs on unchanged. -/
def State.migAbort (s : State) : State :=
  match s.fab.mig with
  | none => s
  | some m =>
    let s := s.cond (s.migLocalTarget m) fun s => s.slotOff m.dst false
    let s := s.cond s.migSource fun s =>
      (lanePaths m.src).foldl (fun s p => s.setPath p fun x => { x with migrating := false }) s
    let s := s.cond (m.remote && s.migSource) fun s => s.sendRel m.peer 0 (.write .migAbort)
    s.migEnd migABORTED

/-- The source slot is left (R269, R271): disabled without discards, its paths released, its spotlight disarmed. -/
def State.migFinish (s : State) : State :=
  match s.fab.mig with
  | none => s
  | some m =>
    let s := if s.migSource then
        let s := (s.slotOff m.src false).sptDisarm m.src 0
        s.pathsOn.foldl (fun s p =>
          if !(s.path p).remote && (s.path p).src == m.src then s.pathDisable p else s) s
      else s
    s.migEnd migDONE

/-- LANE_DISABLE, and every other stop of a lane under R60, at tick `t`, with the events of Table 9-5. -/
def State.laneDisable (s : State) (n : Nat) (keep : Bool) (t : Nat) : State :=
  if !(s.lane n).on then s.cond (!keep) fun s => s.wr LANE_CFG_EN n 0
  else match s.fab.mig with
    | none => s.laneStop n keep t
    | some m =>
      let part := (s.migSource && n == m.src) || (s.migLocalTarget m && n == m.dst)
      if !part then s.laneStop n keep t
      else if s.rd LEDG_MIG_STAT_PHASE 0 = migWARMING then
        let s := s.migAbort
        if (s.lane n).on then s.laneStop n keep t else s
      else
        let s := s.laneStop n keep t
        if m.crossed && s.migSource && n == m.src then s.migFinish else s

/-- A slot's results of lane sample `k` are delivered (Table 9-4, R270): those of a migration's source up to S, and those of
its target from S. -/
def State.delivers (s : State) (n k : Nat) : Bool :=
  match s.fab.mig with
  | none => true
  | some m =>
    if s.migLocalTarget m && n == m.dst then decide (m.s ≤ k) else !(s.migSource && n == m.src && decide (m.s ≤ k))

/-- The warm-up length in lane samples for a latency in µs (R269). -/
def warmLen (rate : Nat) (lt : Rat) : Nat := 64 * ((laneRate rate * lt + 64) / 64).ceil.toNat

/-- L of a disabled slot as configured, with the d in force and its armed spotlight. -/
def State.slotLat (s : State) (n : Nat) : Rat :=
  s.latBase (s.laneCfg n) (s.rd RSM_DELAY n)
    + if !downlink n && s.armed n && s.on SPT_LANE_CFG_GATE (n % 16) then spotLat (s.rd SPT_LANE_CFG_RES (n % 16)) else 0

/-- The pattern that TDD_LANE selects for a lane. -/
def State.pselOf (s : State) (n : Nat) : Bool := s.tst TDD_LANE 0 n

/-- The target slot is accepted, to take in samples from `w` and to count from `b`, with its paths `js`; none where a path
fails R79. -/
def State.targetAccept (s : State) (dst w b : Nat) (js : List Nat) : Option State :=
  let s := s.laneAccept dst { s.laneCfg dst with cfg := (s.laneCfg dst).cfg ||| 0x80000000#32 } (s.pselOf dst)
  let s := ((s.setLane dst fun l => { l with phase := .accepted w }).setLedger dst fun l => { l with next := b }).sptActive dst
  js.foldl (fun (o : Option State) j =>
    match o with
    | none => none
    | some s =>
      let p := 4 * dst + j
      match s.pathErr p with
      | some _ => none
      | none =>
        some ((((s.wr CNX_PATH_CFG_EN p 1).pathAccept p).setPath p fun x => { x with startAt := w, warming := true })))
    (some s)

/-- A migration that is accepted begins WARMING. -/
def State.migBegin (s : State) (m : Mig) (gap warm : Nat) (target : Bool) : State :=
  let s := s.setFab fun f => { f with mig := some m }
  let s := ((s.wr LEDG_MIG_STAT_ERR 0 0).wr LEDG_MIG_STAT_PHASE 0 migWARMING).wr LEDG_MIG_STAT_ROLE 0 target.toNat
  let s := ((s.wr LEDG_MIG_STAT_DUP 0 0).wr LEDG_MIG_STAT_READY 0 0).wr LEDG_MIG_STAT_BUSY 0 1
  (s.wr LEDG_MIG_GAP 0 gap).wr LEDG_MIG_WARM 0 warm

/-- A latency in µs, in ps. -/
def psOf (l : Rat) : Nat := (roundRat (l * 1000000)).toNat

/-- The paths of a slot that are enabled, by their place in the slot. -/
def State.slotPathsOn (s : State) (n : Nat) : List Nat := (List.range 4).filter fun j => (s.path (4 * n + j)).on

/-- MIGRATION_GO: the checks of Table 9-3. A remote target is asked over the register virtual channel once the checks
of this device pass (R272): `rerr` is the code of its checks, 0 where they pass, and `rlat` its latency in ps. -/
def State.migGo (s : State) (rerr rlat : Nat) : State :=
  let src := s.rd LEDG_MIG_CFG_SRC 0
  let dst := s.rd LEDG_MIG_CFG_DST 0
  let remote := s.on LEDG_MIG_CFG_REMOTE 0
  let dev := s.rd LEDG_MIG_CFG_DST_DEV 0
  let b := s.rd LEDG_MIG_S_HI 0 * 2 ^ 32 + s.rd LEDG_MIG_S_LO 0
  let l := s.lane src
  let at_ := b * l.period
  let lt : Rat := if remote then (rlat : Rat) / 1000000 else s.slotLat dst
  let warm := warmLen l.rate lt
  let js := s.slotPathsOn src
  let early := b % 64 ≠ 0 ∨ at_ < s.now + msT 1 ∨ s.now + secT 10 < at_
  let asked := remote && s.fab.mig.isNone && l.on && !decide early && s.present dev && s.timeValid
  let rerr := if asked then rerr else 0
  let s := s.cond asked fun s =>
    s.sendRel dev 0 (.write (.migGo src l.rate (psOf (s.lat src)) dst (s.rd LEDG_MIG_CFG_TAIL 0) js (s.tod + at_ - s.now)))
  let bad := fun (e : Nat) => (s.wr LEDG_MIG_STAT_ERR 0 e).refuse pgLEDG
  if s.fab.mig.isSome ∨ (remote ∧ rerr = 1) then bad 1
  else if !l.on then bad 2
  else if (if remote then rerr == 3
      else (s.lane dst).on || downlink dst != downlink src || (s.laneCfg dst).rate != l.rate) then bad 3
  else if early ∨ rerr = 4 then bad 4
  else if (if remote then rerr == 5 else (s.laneErr dst (s.laneCfg dst)).isSome) then bad 5
  else if (!remote || asked) && decide (lt < s.lat src) then bad 6
  else if remote then
    if rerr = 7 then bad 7
    else if !s.present dev ∨ !s.timeValid ∨ rerr = 8 then bad 8
    else s.migBegin { src := src, dst := dst, s := b, remote := true, peer := dev, tail := s.rd LEDG_MIG_CFG_TAIL 0,
                      w := b - warm } (rlat - psOf (s.lat src)) warm false
  else match s.targetAccept dst (b - warm) b js with
    | none => bad 7
    | some t =>
      (t.migBegin { src := src, dst := dst, s := b, remote := false, tail := s.rd LEDG_MIG_CFG_TAIL 0, w := b - warm }
        (psOf lt - psOf (s.lat src)) warm false).guardCheck dst

/-- MIGRATION_ABORT: before the deadline; ignored after it. -/
def State.migHostAbort (s : State) : State :=
  if s.rd LEDG_MIG_STAT_PHASE 0 = migWARMING then s.migAbort else s

/-- A write of LEDG_MIG_CTL. -/
def State.writeMigCtl (s : State) (v : Word) (rerr rlat : Nat) : State :=
  let s := s.cond (LEDG_MIG_CTL_GO.of v == 1) fun s => s.migGo rerr rlat
  s.cond (LEDG_MIG_CTL_ABORT.of v == 1) State.migHostAbort

/-- A write of LEDG_MIG_CFG: TAIL from 1 to 15. -/
def State.writeMigCfg (s : State) (v : Word) : State :=
  if LEDG_MIG_CFG_TAIL.of v = 0 then s.refuse pgLEDG
  else s.wrWord [LEDG_MIG_CFG_TAIL, LEDG_MIG_CFG_REMOTE, LEDG_MIG_CFG_DST_DEV, LEDG_MIG_CFG_DST, LEDG_MIG_CFG_SRC] 0 v

/-- The copy of a path's state that a migration makes (R114): its estimates, and its clusters with their tap words. -/
def State.pathCopy (s : State) (p : Nat) : PathCopy :=
  let x := s.path p
  { ck := x.ck, xk := x.xk, hTaps := x.hTaps, hProbe := x.hProbe, xProbe := x.xProbe, xFast := x.xFast,
    badBlocks := x.badBlocks, floor := s.on CNX_PATH_STAT_FLOOR p,
    clusters := (s.clustersOf p).map fun c => (s.clu c, (List.range 32).map fun j => s.tap (32 * c + j)) }

/-- A copy taken in by a path of the target: its clusters take the roles, positions and taps of the source's one by one. A
move that waits at the source waits here. -/
def State.pathPaste (s : State) (p : Nat) (c : PathCopy) : State :=
  let s := s.setPath p fun x =>
    { x with ck := c.ck, xk := c.xk, hTaps := c.hTaps, hProbe := c.hProbe, xProbe := c.xProbe, xFast := c.xFast,
             badBlocks := c.badBlocks, running := true }
  let s := ((s.clustersOf p).zip c.clusters).foldl (fun (s : State) (k, d, taps) =>
    let s := s.setClu k fun _ => { d with path := p }
    (taps.zipIdx).foldl (fun s (w, j) => s.setTap (32 * k + j) w) s) s
  ((s.wr CNX_PATH_STAT_ISO_VALID p c.hProbe.isSome.toNat).wr CNX_PATH_STAT_FLOOR p c.floor.toNat).setEst p

/-- MIGRATION_WARM_START at sample W. -/
def State.migWarm (s : State) : State :=
  match s.fab.mig with
  | none => s
  | some m =>
    if m.warmed || s.rd LEDG_MIG_STAT_PHASE 0 != migWARMING then s
    else
      let n := if s.migSource then m.src else m.dst
      let s := s.reach (m.w * (s.lane n).period)
      let s := s.setFab fun f => { f with mig := some { m with warmed := true } }
      let s := s.cond (s.migLocalTarget m) fun s => s.laneBegin m.dst m.w
      if !s.migSource then s
      else
        let js := s.slotPathsOn m.src
        let s := js.foldl (fun s j =>
          let c := s.pathCopy (4 * m.src + j)
          if m.remote then s.sendRel m.peer 0 (.write (.migPath j c)) else s.pathPaste (4 * m.dst + j) c) s
        js.foldl (fun s j => s.setPath (4 * m.src + j) fun x => { x with migrating := true }) s

/-- MIGRATION_READY. -/
def State.migReady (s : State) : State :=
  match s.fab.mig with
  | none => s
  | some m =>
    if s.rd LEDG_MIG_STAT_PHASE 0 = migWARMING ∧ m.warmed then
      (s.cond (!s.migSource) fun s => s.sendRel m.peer 0 (.write .migReady)).wr LEDG_MIG_STAT_READY 0 1
    else s

/-- MIGRATION_DEADLINE at sample S − 64. A remote target commits unless an ABORT has reached it (R272). -/
def State.migDeadline (s : State) : State :=
  match s.fab.mig with
  | none => s
  | some m =>
    if s.rd LEDG_MIG_STAT_PHASE 0 ≠ migWARMING then s
    else
      let n := if s.migSource then m.src else m.dst
      let s := s.reach ((m.s - 64) * (s.lane n).period)
      if !s.migSource then s
      else if s.on LEDG_MIG_STAT_READY 0 then
        (s.wr LEDG_MIG_STAT_PHASE 0 migCOMMITTED).setLedger m.src fun l =>
          { l with lateFrom := some m.s, stop := some (m.s + 64 * m.tail) }
      else s.migAbort

/-- The spotlight state of a slot, as a migration copies it to another (R132). The first lane sample of window 0 goes as its
distance before the boundary sample `b`, since the other device counts its own (R272). -/
def State.spotCopy (s : State) (src dst b : Nat) : RegBody :=
  .migSpot dst (s.sptRes src) (s.sptRd SPT_LANE_CFG_FIRST MEAS_LANE_CFG_FIRST src) (s.sptCount src) (s.sptRd SPT_LANE_STAT_MEASURING MEAS_LANE_STAT_MEASURING src)
    (s.sptRd SPT_LANE_STAT_LEARNING MEAS_LANE_STAT_LEARNING src) (s.sptRd SPT_LANE_STAT_OPEN_NOW MEAS_LANE_STAT_ACTIVE_NOW src)
    { s.sl src with a := b - (s.sl src).a } ((List.range (s.sptCount src)).map fun i => s.ctx (s.sptBase src + i))

/-- A slot takes the armed state that a migration copies (R132). DEDUCED (log 98): one that is not armed becomes so in
MEASURE mode with the RES, FIRST, BASE and COUNT that its registers hold, where the checks of Table 4-2 pass. -/
def State.spotArm (s : State) (dst : Nat) : State :=
  if s.armed dst || (s.sptErr dst (s.sptCfgOf dst false)).isSome then s
  else
    let s := s.cond (!downlink dst) fun s => s.wr SPT_LANE_CFG_GATE (dst % 16) 0
    (s.sptWr SPT_LANE_CFG_EN MEAS_LANE_CFG_EN dst 1).sptArm dst

/-- A copy of spotlight state reaches a slot whose boundary sample is `b` (R132): one that keeps RES, FIRST and COUNT goes on
with it, and any other starts as at arming. -/
def State.spotPaste (s : State) (dst res first count measuring learning openNow : Nat) (l : SptLane) (cs : List CtxSt) (b : Nat) :
    State :=
  let s := s.spotArm dst
  if s.armed dst && res == s.sptRes dst && count == s.sptCount dst && first == s.sptRd SPT_LANE_CFG_FIRST MEAS_LANE_CFG_FIRST dst then
    let s := s.setSl dst fun _ => { l with a := b - l.a }
    let s := (cs.zipIdx).foldl (fun (s : State) (c, i) => s.setCtx (s.sptBase dst + i) fun _ => c) s
    let s := (s.sptWr SPT_LANE_STAT_MEASURING MEAS_LANE_STAT_MEASURING dst measuring).sptWr SPT_LANE_STAT_LEARNING MEAS_LANE_STAT_LEARNING dst learning
    (s.sptWr SPT_LANE_STAT_OPEN_NOW MEAS_LANE_STAT_ACTIVE_NOW dst openNow).setStuck
  else s.sptBegin dst (s.sampleNo dst)

/-- The target slot takes in the source's spotlight state where that is armed, and otherwise starts as at arming (R132). -/
def State.migSpot (s : State) (src dst b : Nat) : State :=
  if !s.armed src then s.sptBegin dst (s.sampleNo dst)
  else match s.spotCopy src dst b with
    | .migSpot d r f c me le op l cs => s.spotPaste d r f c me le op l cs b
    | _ => s

/-- The gain state of a lane slot taken over (R269): the request, LIMIT with G_c, and the back-off cap. Its rise is this
device's own. -/
def State.pasteGain (s : State) (dst request limit : Nat) (gc : Int) (cap : Option Nat) : State :=
  let s := s.setLane dst fun l => { l with request := request, cap := cap, capAt := s.now, capRate := s.rd PROT_RAMP 0, capNext := none }
  let s := (s.wr LANE_GAIN_LIMIT dst limit).setCnx fun c => { c with gc := c.gc.set dst gc }
  s.wr PROT_LANE_STAT_BACKOFF dst cap.isSome.toNat

/-- Paths of other lanes, transmit stream slots and loops that name the source slot go over to the target (R271); the
loops do so at their next boundary. -/
def State.repoint (s : State) (src dst : Nat) : State :=
  let s := s.pathsOn.foldl (fun (s : State) p =>
    let x := s.path p
    if !x.remote && x.src == src && victim p != src then
      (s.setPath p fun x => { x with cfg := BitVec.ofNat 32 (x.cfg.toNat - src * 2 ^ CNX_PATH_CFG_SRC.lo
        + dst * 2 ^ CNX_PATH_CFG_SRC.lo) }).wr CNX_PATH_CFG_SRC p dst
    else s) s
  let s := (List.range 8).foldl (fun (s : State) k =>
    if s.on CNX_STX_STAT_ACTIVE k && s.rd CNX_STX_CFG_LANE k == src then
      (s.wr CNX_STX_CFG_LANE k dst).setStx k fun x => { x with cfg := s.rdWord stxFlds k }
    else s) s
  { s with cte := { s.cte with loops := s.cte.loops.map fun (i, l) => (i, { l with moved := l.moved ++ [(src, dst)] }) } }

/-- MIGRATION_BOUNDARY at sample S: the target counts in and delivers (R270, R271). -/
def State.migBoundary (s : State) : State :=
  match s.fab.mig with
  | none => s
  | some m =>
    let ph := s.rd LEDG_MIG_STAT_PHASE 0
    if m.crossed || !(ph == migCOMMITTED || (ph == migWARMING && !s.migSource)) then s
    else
      let n := if s.migSource then m.src else m.dst
      let s := s.reach (m.s * (s.lane n).period)
      let s := s.setFab fun f => { f with mig := some { m with crossed := true } }
      if !s.migSource then
        let s := (lanePaths m.dst).foldl (fun s p => s.setPath p fun x => { x with warming := false }) s
        let s := s.setFab fun f => { f with lastS := m.s }
        (s.sptBegin m.dst (s.sampleNo m.dst)).migEnd migDONE
      else if m.remote then
        let s := s.bringCap m.src
        let l := s.lane m.src
        let s := s.cond (s.armed m.src) fun s => s.sendRel m.peer 0 (.write (s.spotCopy m.src m.dst m.s))
        s.sendRel m.peer 0 (.write (.migGain m.dst l.request (s.rd LANE_GAIN_LIMIT m.src) (s.gcOf m.src) l.cap))
      else
        let l := s.lane m.src
        let s := (s.bringCap m.src).pasteGain m.dst l.request (s.rd LANE_GAIN_LIMIT m.src) (s.gcOf m.src)
          (s.lane m.src).cap
        let s := s.migSpot m.src m.dst m.s
        let s := s.cond (l.suspect && !(s.lane m.dst).suspect) fun s =>
          (s.markSuspect m.dst).setLane m.dst fun d => { d with suspectEnds := l.suspectEnds }
        let s := (lanePaths m.dst).foldl (fun s p => s.setPath p fun x => { x with warming := false }) s
        s.repoint m.src m.dst

/-- The instant at which the last late result leaves the source slot (Table 9-6). -/
def State.migDoneAt (s : State) (m : Mig) : Nat :=
  (m.s + 64 * m.tail) * (s.lane m.src).period + (s.latTicks m.src false).ceil.toNat

/-- MIGRATION_DONE. -/
def State.migDone (s : State) : State :=
  match s.fab.mig with
  | none => s
  | some m =>
    if !(m.crossed && s.migSource) then s
    else
      let s := s.reach (s.migDoneAt m)
      let s := s.syncTo m.src (s.sampleNo m.src + 2)
      s.migFinish

/-- The GO of a remote source reaches this device as the target (R268, R272): the code of its checks, 0 where it is
accepted, its latency in ps, and the state. -/
def State.migRemoteGo (s : State) (peer src rate lat dst tail : Nat) (js : List Nat) (tod : Nat) : Nat × Nat × State :=
  let c := s.laneCfg dst
  let lt := s.slotLat dst
  let p := ratePeriod c.rate
  let at_ := s.now + tod - s.tod
  let b := (2 * at_ + p) / (2 * p)
  let warm := warmLen c.rate lt
  if s.fab.mig.isSome then (1, 0, s)
  else if (s.lane dst).on ∨ downlink dst ≠ downlink src ∨ c.rate ≠ rate then (3, 0, s)
  else if (s.laneErr dst c).isSome then (5, 0, s)
  else if psOf lt < lat then (6, 0, s)
  else match s.targetAccept dst (b - warm) b js with
    | none => (7, 0, s)
    | some t =>
      if !s.timeValid then (8, 0, s)
      else (0, psOf lt, (t.migBegin { src := src, dst := dst, s := b, remote := true, peer := peer, tail := tail, w := b - warm }
        (psOf lt - lat) warm true).guardCheck dst)

/-- An ABORT of the source reaches the target: before S' the migration is aborted, after it both placements deliver
(R272); the source hears of it. -/
def State.migRemoteAbort (s : State) (peer : Nat) : State :=
  if s.migSource then s
  else match s.fab.mig with
    | some m => if m.crossed then s.wr LEDG_MIG_STAT_DUP 0 1 else s.migAbort
    | none =>
      if s.rd LEDG_MIG_STAT_PHASE 0 = migDONE then
        (s.wr LEDG_MIG_STAT_DUP 0 1).sendRel peer 0 (.write .migDup)
      else s

/-! ### Writes of a lane's registers (R58, R59) -/

/-- An accepted or refused enable (R58). The synchronisation of a TDD repeating lane is required from its enable (R149). -/
def State.laneEnable (s : State) (n : Nat) : State :=
  let c := s.laneCfg n
  let s := s.int (pgAt pgLANE n) 0
  match s.laneErr n c with
  | some e => s.laneRefuse n e
  | none =>
    let s := ((s.laneAccept n c (s.pselOf n)).sptActive n).guardCheck n
    s.cond (c.tdd && c.txEn && !s.timeValid && s.performing) fun s => s.donorLatch [n]

/-- A write of LANE_CFG_n: an enable, a disable, or a write to the shadow. During a thermal shutdown EN waits for the
restart (R59). -/
def State.writeLaneCfg (s : State) (n : Nat) (v : Word) : State :=
  let en := LANE_CFG_EN.of v == 1
  let was := s.on LANE_CFG_EN n
  let change := s.rd LANE_CFG_RATE n != LANE_CFG_RATE.of v || s.rd LANE_CFG_TDD n != LANE_CFG_TDD.of v
  let s := s.wrWord laneFlds n v
  let s := s.cond change fun s => s.sptRetire n
  if s.thm.shut then (s.setLane n fun l => { l with thermWait := en }).cond (was && !en) fun s => s.detLaneOff n
  else if (s.lane n).on then (if en then s else s.laneDisable n false s.now)
  else if en && !was then s.laneEnable n
  else s.setLane n fun l => { l with thermWait := en && l.thermWait }

/-- A write of CHF_SEL_n: a change of the index retires an armed lane that is not active (R124). -/
def State.writeChfSel (s : State) (n : Nat) (v : Word) : State :=
  let change := s.rd CHF_SEL n != CHF_SEL.of v
  (s.wrWord [CHF_SEL] n v).cond change fun s => s.sptRetire n

/-- The register of a shadowed word. -/
def laneWordFld (w : LaneWord) : Fld :=
  match w with
  | .cfg => LANE_CFG_EN | .rxLo => LANE_RX_FTW_LO | .rxHi => LANE_RX_FTW_HI | .rxPhase => LANE_RX_PHASE
  | .txLo => LANE_TX_FTW_LO | .txHi => LANE_TX_FTW_HI | .txPhase => LANE_TX_PHASE | .chf => CHF_SEL

/-- The word that a write of a shadowed register carries: one of LANE_CFG leaves EN as it is. -/
def State.shadowWord (s : State) (n : Nat) (w : LaneWord) (v : Word) : Word :=
  match w with
  | .cfg => (v &&& 0x7FFFFFFF#32) ||| BitVec.ofNat 32 (s.rd LANE_CFG_EN n * 2 ^ 31)
  | _ => v

/-- LANE_CFG_SHADOW_WRITE: a write to LANE_CFG (other than EN), to a frequency or phase word or to CHF_SEL_n. The value
goes to the register, which an enabled lane does not use until its next enable. -/
def State.writeLaneWord (s : State) (n : Nat) (w : LaneWord) (v : Word) : State :=
  match w with
  | .cfg => s.writeLaneCfg n (s.shadowWord n .cfg v)
  | .chf => s.writeChfSel n v
  | _ => s.wrWord [laneWordFld w] n v

/-- LANE_START: the lane sample of R58. -/
def State.laneStart (s : State) (n : Nat) : State :=
  match (s.lane n).phase with
  | .accepted k =>
    let isTarget := match s.fab.mig with
      | some m => s.migLocalTarget m && m.dst == n
      | none => false
    if isTarget then s
    else
      let s := s.reach (k * (s.lane n).period)
      let s := s.laneBegin n k
      ((s.mark (evBLOCK + n)).mark (evCAP + n)).sptBegin n (s.sampleNo n)
  | _ => s

/-- RSM_DELAY_WRITE (R68); the guard check runs where L rises (R198). -/
def State.writeDelay (s : State) (n : Nat) (v : Word) : State :=
  let d := RSM_DELAY.of v
  let s := s.wr RSM_DELAY n d
  if (s.lane n).on then
    let up := decide ((s.lane n).delay < d)
    let s := (s.setLane n fun l => { l with delayNext := some (d, s.nextSample n 64) }).wr RSM_STAT n 1
    s.cond up fun s => s.guardCheck n
  else s

/-- RSM_DELAY_APPLY: at the next lane sample whose number is a multiple of 64. -/
def State.delayApply (s : State) (n : Nat) : State :=
  match (s.lane n).delayNext with
  | none => s
  | some (d, t) =>
    let s := s.reach t
    ((s.setLane n fun l => { l with delay := d, delayNext := none }).wr RSM_STAT n 0).setLat n

/-! ### ROM errors (R65, R72) -/

/-- Transmit ports of a list of lanes. -/
def State.txPorts (s : State) (ls : List Nat) : Ports := portsOf (ls.map fun n => (s.lane n).tx)

/-- A write of CHF_ROM_PTR: the pointer selects the coefficient of CHF_ROM_DATA. -/
def State.writeChfPtr (s : State) (v : Word) : State := s.wrWord [CHF_ROM_PTR_TAP, CHF_ROM_PTR_INDEX] 0 v

/-- CHF_ROM_READ: with `ecc` the read of the coefficient met a corrected error (R65). -/
def State.chfRead (s : State) (v : Word) (ecc : Bool) : State :=
  (s.writeChfPtr v).cond ecc fun s => s.satInc CHF_ECC_CNT 0

/-- CHF_ROM_UNCORR. -/
def State.chfUncorr (s : State) (i : Nat) : State :=
  ((s.wr CHF_UNC_VALID 0 1).wr CHF_UNC_INDEX 0 i).raise pgCHF 1
    (s.txPorts (s.lanesOn.filter fun n => (s.lane n).chf == i))

/-- RSM_FAULT: an uncorrectable ROM read, or with `check` a mismatch of the phase accumulator. -/
def State.rsmFault (s : State) (n : Nat) (check : Bool) (phase tap : Nat) : State :=
  let s := ((s.wr RSM_UNC_VALID 0 1).wr RSM_UNC_CHECK 0 check.toNat).wr RSM_UNC_LANE 0 n
  let s := s.cond (!check) fun s => (s.wr RSM_UNC_PHASE 0 phase).wr RSM_UNC_TAP 0 tap
  s.raise pgRSM (if check then 2 else 1) (portBit (s.lane n).tx)

end Sys2Proof.Machine
end

