-- ==== Sys2Proof/Machine/Conv.lean ====
section
/-! DEFINITION. The converters (spec/02_lanes_and_converters.md R52 to R56, R72): calibration results, over-range and
clipping. Converter c is CONVRX_c below 8 and CONVTX_(c−8) from 8. -/
namespace Sys2Proof.Machine
open Sys2Proof

def State.cvRd (s : State) (rx tx : Fld) (c : Nat) : Nat := if c < 8 then s.rd rx c else s.rd tx (c - 8)
def State.cvWr (s : State) (rx tx : Fld) (c v : Nat) : State := if c < 8 then s.wr rx c v else s.wr tx (c - 8) v
/-- The page of a converter. -/
def cvPage (c : Nat) : Nat := if c < 8 then pgAt pgCONVRX c else pgAt pgCONVTX (c - 8)
/-- The fault source of a converter. -/
def cvSrc (c : Nat) : Nat := 35 + c
def State.cvEn (s : State) (c : Nat) : Bool := s.cvRd CONVRX_CFG_EN CONVTX_CFG_EN c == 1
def State.cvDone (s : State) (c : Nat) : Bool := s.cvRd CONVRX_STAT_CAL_DONE CONVTX_STAT_CAL_DONE c == 1
/-- The lanes that a converter serves. -/
def State.cvLanes (s : State) (c : Nat) : List Nat :=
  s.lanesOn.filter fun n => if c < 8 then (s.lane n).rx == c else (s.lane n).tx == c - 8
/-- The ports of a converter's faults (Table 2-10). -/
def State.cvPorts (s : State) (c : Nat) : Ports := if c < 8 then s.txPorts (s.cvLanes c) else portBit (c - 8)

/-- A fault of a converter, cause `b` of its page: it stands until its recovery. -/
def State.cvFault (s : State) (c b : Nat) : State :=
  ((s.raise (cvPage c) b (s.cvPorts c)).stand (cvSrc c) b).int (cvPage c) 2

/-- CAL_FAIL follows the calibration causes that stand. -/
def State.cvFail (s : State) (c : Nat) : State :=
  let w := (s.fcSrc (cvSrc c)).stand
  s.cvWr CONVRX_STAT_CAL_FAIL CONVTX_STAT_CAL_FAIL c (w.getLsbD 1 || w.getLsbD 2).toNat

/-- A foreground calibration ends (R72, R212). -/
def State.cvCalEnd (s : State) (c : Nat) (ok : Bool) : State :=
  let s := s.setCv c fun v => { v with cal := false, good := 0, fgFail := !ok }
  let s := s.cvWr CONVRX_STAT_CAL_DONE CONVTX_STAT_CAL_DONE c ok.toNat
  let s := if ok then s.int (cvPage c) 1 else s.cvFault c 1
  s.cvFail c

/-- BGCAL_CYCLE_DONE (R54, R72): a background cycle ends, its residual in limits or not. -/
def State.bgcalDone (s : State) (c : Nat) (ok : Bool) : State :=
  if !(s.cvEn c && s.cvRd CONVRX_CFG_BGCAL_EN CONVTX_CFG_BGCAL_EN c == 1) || (s.cv c).cal then s
  else
    let s := s.cvWr CONVRX_BGCAL_CYCLES CONVTX_BGCAL_CYCLES c (s.cvRd CONVRX_BGCAL_CYCLES CONVTX_BGCAL_CYCLES c + 1)
    let s := s.setCv c fun v => { v with cycleAt := some s.now, good := if ok then v.good + 1 else 0 }
    if !ok then (s.cvFault c 2).cvFail c
    else if (s.cv c).good < 2 then s
    else
      let s := s.cond (!(s.cv c).fgFail) fun s => s.unstand (cvSrc c) 1
      ((s.unstand (cvSrc c) 2).unstand (cvSrc c) 3).cvFail c

/-- CONVERTER_PARITY_ERROR. Its recovery asks for two consecutive cycles in limits after it (Table 2-10). -/
def State.cvParity (s : State) (c : Nat) : State := (s.setCv c fun v => { v with good := 0 }).cvFault c 3

/-! ### Over-range and clipping -/

/-- OVER_RANGE_EPISODE_START: the first clipped sample of a port (R52, R53). -/
def State.overStart (s : State) (m : Nat) : State :=
  if s.on CONVRX_STAT_OVR_NOW m || !s.on CONVRX_CFG_EN m then s
  else
    let s := ((s.wr CONVRX_STAT_OVR_NOW m 1).wr CONVRX_STAT_OVR_STICKY m 1).satInc CONVRX_OVR_CNT m
    (s.cvLanes m).foldl State.markSuspect (s.int (pgAt pgCONVRX m) 0)

/-- Ticks of 1,024 receive converter samples. -/
def State.clipSpan (s : State) : Nat :=
  let f := synRate s.rfc.synA
  if f = 0 then 0 else ((1024 : Rat) / f * 98304 / 100).ceil.toNat

/-- The last lane sample that a converter sample at tick `t` influences: the decimation filters are symmetric about a group
delay of 5 / Fl − M / Fs_rx, so they reach as far to the other side of the sample. -/
def State.lastInfluenced (s : State) (n t : Nat) : Nat :=
  let l := s.lane n
  match decim s.rfc.synA l.rate with
  | some (m, _) =>
    let fr := synRate s.rfc.synA
    ((t : Rat) / l.period + 5 - m * laneRate l.rate / fr).floor.toNat
  | none => t / l.period

/-- OVER_RANGE_EPISODE_END: 1,024 samples after the last clipped one; each lane's mark ends 64 lane samples after the last
one influenced. -/
def State.overEnd (s : State) (m : Nat) : State :=
  if !s.on CONVRX_STAT_OVR_NOW m then s
  else
    let last := s.now - s.clipSpan
    let s := s.wr CONVRX_STAT_OVR_NOW m 0
    (s.cvLanes m).foldl (fun (s : State) n =>
      s.setLane n fun l => { l with suspectEnds := some ((s.lastInfluenced n last + 64) * l.period) }) s

/-- SUSPECT_MARK_END. -/
def State.suspectEnd (s : State) (n : Nat) : State :=
  match (s.lane n).suspectEnds with
  | none => s
  | some t =>
    ((s.reach t).setLane n fun l => { l with suspect := false, suspectEnds := none }).wr LANE_STAT_SUSPECT n 0

/-- A saturated word of a transmit port (R56): both flags set, and the first of an episode counts it. -/
def State.clipWord (s : State) (m : Nat) : State :=
  let was := s.on CONVTX_STAT_CLIP_NOW m
  let s := ((s.wr CONVTX_STAT_CLIP_NOW m 1).wr CONVTX_STAT_CLIP_STICKY m 1).setCv (8 + m) fun c => { c with clipAt := s.now }
  s.cond (!was) fun s => (s.satInc CONVTX_CLIP_CNT m).int (pgAt pgCONVTX m) 0

/-- CLIPPING_EPISODE_START: a word of the port's sum saturates. The lane samples form the port's words and call the same
operation; the command is such a word beside theirs. -/
def State.clipStart (s : State) (m : Nat) : State :=
  if s.on CONVTX_CFG_EN m then s.clipWord m else s

/-- Ticks of 1,024 transmit converter words. -/
def State.clipRest (s : State) : Nat :=
  let f := synRate s.rfc.synB
  if f = 0 then 0 else ((1024 : Rat) / f * 98304 / 100).ceil.toNat

/-- CLIPPING_EPISODE_END: 1,024 unclipped words after the last saturated one. -/
def State.clipEnd (s : State) (m : Nat) : State :=
  if s.on CONVTX_STAT_CLIP_NOW m then (s.reach ((s.cv (8 + m)).clipAt + s.clipRest)).wr CONVTX_STAT_CLIP_NOW m 0 else s

end Sys2Proof.Machine
end

