-- ==== Sys2Proof/Machine/Rfc.lean ====
section
/-! DEFINITION. Radio sequencing (spec/07_radio_sequencing.md): port states and commands, synthesisers, TDD uses and
turn-rounds, the transmit timeouts, the attenuator buses and coexistence. -/
namespace Sys2Proof.Machine
open Sys2Proof

/-! ### Synthesisers: 0 is CSYN_A, 1 is CSYN_B -/

def synF (a b : Fld) (k : Nat) : Fld := if k = 0 then a else b
def State.synState (s : State) (k : Nat) : Nat := s.rd (synF SYN_STAT_STATE_A SYN_STAT_STATE_B k) 0
def State.setSynState (s : State) (k v : Nat) : State := s.wr (synF SYN_STAT_STATE_A SYN_STAT_STATE_B k) 0 v
def State.setSynErr (s : State) (k v : Nat) : State := s.wr (synF SYN_STAT_ERR_A SYN_STAT_ERR_B k) 0 v
def State.syn (s : State) (k : Nat) : SynSt := if k = 0 then s.rfc.synA else s.rfc.synB
def State.setSyn (s : State) (k : Nat) (f : SynSt → SynSt) : State :=
  s.setRfc fun r => if k = 0 then { r with synA := f r.synA } else { r with synB := f r.synB }

def synIDLE : Nat := 0
def synCAL : Nat := 1
def synLOCKING : Nat := 2
def synCONVCAL : Nat := 3
def synREADY : Nat := 4
def synFAILED : Nat := 5

/-- The synthesiser runs the sequence of Table 7-6. -/
def State.synBusy (s : State) (k : Nat) : Bool := decide (1 ≤ s.synState k) && decide (s.synState k ≤ 3)
/-- The synthesiser of a converter. -/
def cvSyn (c : Nat) : Nat := c / 8
/-- The enabled converters on a synthesiser. -/
def State.synConvs (s : State) (k : Nat) : List Nat := ((List.range 8).map (8 * k + ·)).filter s.cvEn

def State.holdSyn (s : State) (k m : Nat) (v : Bool) : State :=
  s.setRport m fun r => if k = 0 then { r with synA := v } else { r with synB := v }

/-! ### Port commands (R207) -/

/-- A port's STATE. Outside TX the loss timer does not run (R216). -/
def State.setPortState (s : State) (m st : Nat) : State :=
  (s.wr RFC_PORT_STAT_STATE m st).setRport m fun r =>
    if st = stTX then r else { r with lossFrom := none, lossHit := false }
def State.portTarget (s : State) (m : Nat) : Nat := s.rd RFC_PORT_CFG_TARGET m
/-- The converters that a target needs (Table 7-2). -/
def needs (m tg : Nat) : List Nat := if tg = 2 then [m, 8 + m] else [m]

/-- A port command completes with a RESULT. -/
def State.cmdDone (s : State) (m res : Nat) : State :=
  let s := ((s.wr RFC_PORT_STAT_RESULT m res).wr RFC_PORT_STAT_BUSY m 0).int pgRFC 0
  s.cond (res == 2) fun s => s.int pgRFC 1

/-- The command of a port has come to its end (R207). -/
def State.cmdCheck (s : State) (m : Nat) : State :=
  let st := s.portState m
  let ok := match s.portTarget m with
    | 0 => st == stOFF
    | 1 => st == stRX
    | _ => st == stTX || (!s.synHold m && ((st == stRX && (s.tddPort m || !s.performing))
        || (s.probing m && (needs m 2).all fun c => s.cvDone c && !(s.cv c).cal)))
  s.cond (s.on RFC_PORT_STAT_BUSY m && ok) fun s => s.cmdDone m 1

/-! ### Coexistence (R220 to R222) -/

/-- Strict mode (R221). -/
def State.strict (s : State) : Bool := s.rd COEX_CFG_OUT_MODE 0 == 2
/-- Ticks of LEAD. -/
def State.leadT (s : State) : Nat := nsT (100 * s.rd COEX_TIME_LEAD 0)

/-- The inbound request is granted: the hold is requested on every shared port (R220). -/
def State.coexGrant (s : State) : State :=
  let s := (s.setRfc fun r => { r with granted := true, grantAt := none }).wr COEX_STAT_PENDING 0 0
  s.shared.foldl (fun s m => s.setRport m fun r => { r with coexIn := true }) s |>.suspendLifts

/-- A shared port is in a transmit use, or an FDD port in TX. -/
def State.sharedTx (s : State) : Bool :=
  s.shared.any fun m => if s.tddPort m then (s.rport m).use == .tx && s.transmitting m else s.portState m == stTX

/-- A request that waits under PRIORITY is granted when no shared port is in a transmit use. -/
def State.coexTry (s : State) : State := s.cond (s.on COEX_STAT_PENDING 0 && !s.sharedTx) State.coexGrant

/-! ### Entry to TX of an FDD port (R210, R221) -/

/-- An FDD port that is to transmit: PAEN is asserted and PA_SETTLE runs; a shared port first waits for COEX_REQ_OUT. -/
def State.enterTx (s : State) (m : Nat) : State :=
  let r := s.rport m
  if r.settle.isSome || r.entry then s
  else if s.on RFC_PORT_CFG_COEX m && s.rd COEX_CFG_OUT_MODE 0 != 0 then s.setRport m fun r => { r with entry := true }
  else s.setRport m fun r => { r with settle := some s.now }

/-- A transmission or an entry to TX of a port is cut: its DAC is muted, and PAEN follows (R206). -/
def State.cutTx (s : State) (m : Nat) : State :=
  s.setRport m fun r => { r with settle := none, entry := false, leadEnd := none, coexWait := false, announced := false, turn := none }

/-! ### Port states (Table 7-2) -/

/-- The foreground calibration of a converter that misses it, while its synthesiser lets it calibrate alone (R212). -/
def State.calAlone (s : State) (c : Nat) : State :=
  let st := s.synState (cvSyn c)
  if s.cvEn c && !s.cvDone c && !(s.cv c).cal && (st == synREADY || st == synCONVCAL) then
    s.setCv c fun v => { v with cal := true }
  else s

/-- OFF to CAL (row 3). -/
def State.portUp (s : State) (m : Nat) : State :=
  let tg := s.portTarget m
  if s.portState m == stOFF && tg != 0 && (!s.thm.shut || s.thm.restart) && (needs m tg).all s.cvEn then
    let s := s.setPortState m stCAL
    let s := [0, 1].foldl (fun s k => if s.synBusy k && s.cvEn (8 * k + m) then s.holdSyn k m true else s) s
    (needs m tg).foldl State.calAlone s
  else s

/-- Calibration of the converters that the target needs is done. -/
def State.portCal (s : State) (m : Nat) : Bool := (needs m (s.portTarget m)).all fun c => s.cvDone c && !(s.cv c).cal

/-- Rows 4 and 5, 8 and 9: out of CAL, and in and out of TX for an FDD port. -/
def State.portMove (s : State) (m : Nat) : State :=
  let tg := s.portTarget m
  let s := if s.portState m == stCAL && !s.synHold m && s.portCal m && (tg == 1
      || (tg == 2 && !s.probing m && !(s.sys.dark && s.on RFC_PORT_CFG_PROBE_EN m))) then
      s.setPortState m stRX else s
  if s.tddPort m then s
  else
    let st := s.portState m
    if st == stRX then
      if tg == 2 && s.performing && s.portCal m && !s.synHold m then s.enterTx m
      else if (s.rport m).settle.isSome || (s.rport m).entry then s.cutTx m else s
    else if st == stTX && (tg != 2 || !s.performing) then (s.cutTx m).setPortState m stRX
    else s

/-- A turn-round begins on a port; while probing the state reads CAL throughout. One toward transmit serves a lift that waits
for it (R158). -/
def State.turnStart (s : State) (m : Nat) (toTx : Bool) : State :=
  let s := s.setRport m fun r => { r with turn := some ⟨toTx, s.now, 1⟩ }
  let s := s.cond (s.portState m != stCAL) fun s => s.setPortState m stTURN
  if toTx && (s.cport m).lift == .waitTurn then s.setCport m fun c => { c with lift := .turning } else s

/-- A TDD port whose uses hold no receive use turns to transmit as soon as it may: Table 7-2 starts a turn-round at the end
of a receive use alone. DESIGN CHOICE (log 102). -/
def State.turnAlone (s : State) (m : Nat) : State :=
  let is := s.portInts s.actBank false m
  let may := (s.portState m == stRX && s.portTarget m == 2 && s.performing) || (s.probing m && (s.rport m).txEnd.isSome)
  if s.tddPort m && may && (s.rport m).turn.isNone && is.all (·.tx) && !is.isEmpty then s.turnStart m true else s

/-- A port follows Table 7-2, and its command, its loss timer and its lift follow it. -/
def State.portEval (s : State) (m : Nat) : State :=
  let s := (((s.portUp m).portMove m).turnAlone m).suspendLifts
  ((s.cmdCheck m).lossEval m).coexTry.coexRelease

def State.portsEval (s : State) : State := (List.range 8).foldl (fun s m => s.portEval m) s

/-- A port goes to OFF (row 1). -/
def State.portOff (s : State) (m : Nat) : State :=
  let s := (s.cutTx m).setPortState m stOFF
  let s := s.setRport m fun r => { r with use := .none, coexUse := false, lossFrom := none, synA := false, synB := false }
  s.suspendLifts.coexTry.coexRelease

def portFlds : List Fld :=
  [RFC_PORT_CFG_TARGET, RFC_PORT_CFG_PROBE_EN, RFC_PORT_CFG_FDD_POS, RFC_PORT_CFG_RX_PROT, RFC_PORT_CFG_COEX]

/-- A write of RFC_PORT_CFG_m: the port command (R207). While a synthesiser that it depends on calibrates, the port carries
SYN_HOLD (R213). On a TDD port in a transmit use a change to RX waits for its
end (R206). -/
def State.writePortCfg (s : State) (m : Nat) (v : Word) : State :=
  let tg := RFC_PORT_CFG_TARGET.of v
  if tg = 3 then s.refuse pgRFC
  else
    let s := s.cond (s.on RFC_PORT_STAT_BUSY m) fun s => (s.wr RFC_PORT_STAT_RESULT m 3).int pgRFC 0
    let s := (s.wrWord portFlds m v).wr RFC_PORT_STAT_BUSY m 1
    let s := s.cond (tg != 0) fun s =>
      (needs m tg).foldl (fun (s : State) c => s.cond (s.synBusy (cvSyn c)) fun s => s.holdSyn (cvSyn c) m true) s
    if tg = 0 then (s.portOff m).cmdCheck m else s.portEval m

/-! ### The calibration sequence (Table 7-6) -/

/-- The sequence starts on a synthesiser: the ports with an enabled converter on it go to CAL under SYN_HOLD, and CAL_DONE
clears on its converters. -/
def State.synStart (s : State) (k : Nat) : State :=
  let s := ((s.setSynState k synCAL).satInc (synF SYN_CAL_CNT_A SYN_CAL_CNT_B k) 0).setSyn k fun y => { y with since := s.now }
  let cs := s.synConvs k
  let s := ((List.range 8).map (8 * k + ·)).foldl (fun (s : State) c =>
    (s.cvWr CONVRX_STAT_CAL_DONE CONVTX_STAT_CAL_DONE c 0).setCv c fun v => { v with cal := false }) s
  let s := cs.foldl (fun (s : State) c =>
    let m := c % 8
    if s.portState m == stOFF then s else ((s.cutTx m).setPortState m stCAL).holdSyn k m true) s
  s.suspendLifts.coexTry.coexRelease

/-- The plan of NUM and DEN as written is outside R45. -/
def State.planBad (s : State) (k : Nat) : Bool :=
  let n := s.rd (synF SYN_A_NUM SYN_B_NUM k) 0
  let d := s.rd (synF SYN_A_DEN SYN_B_DEN k) 0
  let f : Rat := if d = 0 then 0 else (98304 : Rat) / 100 * n / d
  if k = 0 then decide (f < 1500) || decide (8000 < f) else decide (f < 3000) || decide (12000 < f)

/-- A GO that is accepted: NUM and DEN take effect, and the armed lanes that are not active are retired (R124). -/
def State.synAccept (s : State) (k : Nat) : State :=
  let s := (s.setSynErr k 0).setSyn k fun y =>
    { y with num := s.rd (synF SYN_A_NUM SYN_B_NUM k) 0, den := s.rd (synF SYN_A_DEN SYN_B_DEN k) 0, tries := 0 }
  let s := (List.range 32).foldl (fun s n => s.sptRetire n) s
  s.synStart k

/-- SYN_GO_A and SYN_GO_B (R211). -/
def State.synGo (s : State) (k : Nat) : State :=
  if !s.lanesOn.isEmpty then (s.setSynErr k 1).refuse pgSYN
  else if s.planBad k then (s.setSynErr k 2).refuse pgSYN
  else s.synAccept k

/-- The last failed attempt: FAILED, and each pending command of an affected port completes with RESULT 2 (R213). -/
def State.synFailed (s : State) (k : Nat) : State :=
  let s := s.setSynState k synFAILED
  (List.range 8).foldl (fun (s : State) m =>
    let r := s.rport m
    if (if k = 0 then r.synA else r.synB) && s.on RFC_PORT_STAT_BUSY m && s.portTarget m != 0 then s.cmdDone m 2 else s) s

/-- A step of the sequence fails with an ERR: the next attempt of R214, or FAILED. -/
def State.synFail (s : State) (k err : Nat) : State :=
  let s := (s.setSynErr k err).raiseInt [(pgSYN, 1)] pgSYN 1 allPorts
  let s := s.stand 11 k
  if (s.syn k).tries = 0 then s.synFailed k
  else (s.setSyn k fun y => { y with tries := y.tries - 1 }).synStart k

/-- SYN_CAL_COMPLETE. -/
def State.synCalDone (s : State) (k : Nat) (ok : Bool) : State :=
  if s.synState k ≠ synCAL then s else if ok then s.setSynState k synLOCKING else s.synFail k 3

/-- SYN_LOCK: the converters calibrate. -/
def State.synLock (s : State) (k : Nat) (ok : Bool) : State :=
  if s.synState k ≠ synLOCKING then s
  else if !ok then s.synFail k 4
  else
    let s := (s.setSynState k synCONVCAL).setSyn k fun y => { y with since := s.now }
    (s.synConvs k).foldl (fun s c => s.setCv c fun v => { v with cal := true }) s

/-- CONV_CAL_COMPLETE: a foreground calibration ends (R212). A port that waits for it completes its command with RESULT 2
where it fails (R207). -/
def State.convCalDone (s : State) (c : Nat) (ok : Bool) : State :=
  if !(s.cv c).cal then s
  else
    let k := cvSyn c
    let m := c % 8
    let s := (s.cvCalEnd c ok).setSyn k fun y => { y with since := s.now }
    if ok then s.portEval m
    else s.cond (s.on RFC_PORT_STAT_BUSY m && (needs m (s.portTarget m)).contains c && s.portTarget m != 0) fun s => s.cmdDone m 2

/-- The lanes that wait for the thermal restart are checked and started, in ascending order (R413). -/
def State.restartLanes (s : State) : State :=
  (List.range 32).foldl (fun (s : State) n =>
    if (s.lane n).thermWait then
      let s := (s.setLane n fun l => { l with thermWait := false }).laneEnable n
      s.cond (!(s.lane n).on) fun s => s.detLaneOff n
    else s) s

/-- THERMAL_RESTART_COMPLETE: both synthesisers read READY after a restart; THERM clears and pulse mode ends (R414). -/
def State.restartDone (s : State) : State :=
  if s.thm.restart && s.synState 0 == synREADY && s.synState 1 == synREADY then
    let s := (s.setThm fun t => { t with restart := false, shut := false }).wr THM_STAT_SHUT 0 0
    let s := ((s.clearCauses allPorts cTHERM).int pgTHM 2).unstand 20 0
    (s.unstand 20 1).restartLanes
  else s

/-- SYN_READY: SETTLE after the last converter calibration (Table 7-6). -/
def State.synReady (s : State) (k : Nat) : State :=
  if s.synState k ≠ synCONVCAL || (s.synConvs k).any fun c => (s.cv c).cal then s
  else
    let s := s.reach ((s.syn k).since + usT (s.rd SYN_CFG_SETTLE 0))
    let s := (((s.setSynState k synREADY).setSyn k fun y => { y with tries := 0 }).int pgSYN 0).unstand 11 k
    let s := (List.range 8).foldl (fun s m => s.holdSyn k m false) s
    (s.restartDone).portsEval

/-- The recalibration of R214: the lanes stop, and the sequence runs up to RETRY times with the same NUM and DEN. Without
an attempt no calibration starts, so the ports stay where they are, under SYN_HOLD (Table 7-2). -/
def State.synRetry (s : State) (k : Nat) : State :=
  let at_ := s.now
  let s := s.lanesOn.foldl (fun (s : State) n => s.laneDisable n false at_) s
  let r := s.rd SYN_CFG_RETRY 0
  if r = 0 then
    let s := (s.synConvs k).foldl (fun (s : State) c =>
      if s.portState (c % 8) == stOFF then s else s.holdSyn k (c % 8) true) s
    ((s.setSynErr k 4).synFailed k).suspendLifts
  else (s.setSyn k fun y => { y with tries := r - 1 }).synStart k

/-- SYN_LOSS_OF_LOCK on a READY synthesiser (R214). -/
def State.synLost (s : State) (k : Nat) : State :=
  if s.synState k ≠ synREADY then s
  else
    let s := (s.satInc (synF SYN_LOL_CNT_A SYN_LOL_CNT_B k) 0).raiseInt [(pgSYN, 1)] pgSYN 2 allPorts
    (s.stand 11 k).synRetry k

/-- A write of SYN_CTL. -/
def State.writeSynCtl (s : State) (v : Word) : State :=
  let s := s.cond (v.getLsbD 0) fun s => s.synGo 0
  s.cond (v.getLsbD 1) fun s => s.synGo 1

/-! ### Converters as the host switches them (R60, R212) -/

def cvRxFlds : List Fld := [CONVRX_CFG_BGCAL_EN, CONVRX_CFG_SIDE, CONVRX_CFG_EN]
def cvTxFlds : List Fld :=
  [CONVTX_CFG_BACKOFF, CONVTX_CFG_SINC_EQ, CONVTX_CFG_MODE, CONVTX_CFG_BGCAL_EN, CONVTX_CFG_SIDE, CONVTX_CFG_EN]

/-- OVR_CNT_CLR and CLIP_CNT_CLR. -/
def State.cvCntClr (s : State) (c : Nat) : State := s.cvWr CONVRX_OVR_CNT CONVTX_CLIP_CNT c 0

/-- A converter is disabled: its lanes first (R60), then the port goes to OFF (Table 7-2). -/
def State.cvDisable (s : State) (c : Nat) : State :=
  let was := s.cvEn c
  let at_ := s.now
  let s := (s.cvLanes c).foldl (fun (s : State) n => s.laneDisable n false at_) s
  let s := (s.cvWr CONVRX_CFG_EN CONVTX_CFG_EN c 0).setCv c fun v => { v with cal := false, good := 0, clean := 0 }
  s.cond was fun s => (s.portOff (c % 8)).portEval (c % 8)

/-- A write of CONVRX_CFG or CONVTX_CFG: SIDE and MODE do not change while EN is 1. -/
def State.writeCv (s : State) (c : Nat) (v : Word) : State :=
  let was := s.cvEn c
  let side := s.cvRd CONVRX_CFG_SIDE CONVTX_CFG_SIDE c
  let mode := s.rd CONVTX_CFG_MODE (c - 8)
  let en := v.getLsbD 0
  let s := s.cond (v.getLsbD 8) fun s => s.cvCntClr c
  let s := s.cond (was && !en) fun s => s.cvDisable c
  let s := if c < 8 then s.wrWord cvRxFlds c v else s.wrWord cvTxFlds (c - 8) v
  let s := s.cond was fun s =>
    (s.cvWr CONVRX_CFG_SIDE CONVTX_CFG_SIDE c side).cond (decide (8 ≤ c)) fun s => s.wr CONVTX_CFG_MODE (c - 8) mode
  if en && !was then
    ((s.setCv c fun v => { v with enAt := s.now }).calAlone c).portEval (c % 8)
  else s

/-! ### Uses and turn-rounds of a TDD port (R208, R209) -/

/-- PORT_USE_START: the next use of a TDD port begins; strict mode holds a transmit use that finds COEX_GNT_IN low
(R221). -/
def State.portUseStart (s : State) (m : Nat) : State :=
  if !s.tddPort m then s
  else match s.nextUse m with
    | none => s
    | some (d, tx) =>
      let s := s.reach (s.now + d)
      let lost := tx && s.on RFC_PORT_CFG_COEX m && s.strict && !s.pins.coexGntIn
      let s := s.setRport m fun r =>
        { r with use := if tx then .tx else .rx, announced := r.announced && !tx,
                 coexUse := if tx then r.coexUse && lost else r.coexUse }
      let s := s.coexRelease
      if !(tx && s.on RFC_PORT_CFG_COEX m && s.rd COEX_CFG_OUT_MODE 0 != 0 && !s.pins.coexGntIn && s.transmitting m) then s
      else
        let s := s.satInc COEX_DENY_CNT 0
        if s.strict then ((s.setRport m fun r => { r with coexUse := true }).int pgRFC 2).suspendLifts else s

/-- PORT_USE_END: the TDD block hands over the end of a use (Table 7-2, rows 6 and 7). -/
def State.portUseEnd (s : State) (m : Nat) (tx : Bool) : State :=
  if !s.tddPort m then s
  else match s.useEnd m tx with
    | none => s
    | some d =>
      let s := s.reach (s.now + d)
      let sent := s.transmitting m
      let s := s.setRport m fun r => { r with use := .none, coexUse := r.coexUse && !tx }
      let s :=
        if tx then
          if sent then (s.setRport m fun r => { r with txEnd := some s.now }).turnStart m false else s
        else
          let may := (s.portState m == stRX && s.portTarget m == 2 && s.performing) || s.probing m
          match s.nextUse m with
          | some (_, true) => if may && (s.rport m).turn.isNone && !sent then s.turnStart m true else s
          | _ => s
      s.coexTry.coexRelease

/-- The nominal instants of Table 7-3, in ns. -/
def turnNs (toTx : Bool) (i : Nat) : Nat :=
  if toTx then (match i with | 0 => 0 | 1 => 500 | 2 => 1250 | _ => 1750)
  else match i with | 0 => 0 | 1 => 250 | 2 => 500 | 3 => 1250 | _ => 1750

/-- TURN_ROUND_LINE_EVENT: the next line event of a turn-round. -/
def State.turnEvent (s : State) (m : Nat) : State :=
  match (s.rport m).turn with
  | none => s
  | some t =>
    let last := if t.toTx then 3 else 4
    if last ≤ t.next then s
    else
      let s := s.reach (t.t0 + nsT (turnNs t.toTx t.next))
      (s.setRport m fun r => { r with turn := some { t with next := t.next + 1 } }).coexRelease

/-- TURN_ROUND_COMPLETE: 1.75 µs after the use end. -/
def State.turnDone (s : State) (m : Nat) : State :=
  match (s.rport m).turn with
  | none => s
  | some t =>
    let s := s.reach (t.t0 + nsT 1750)
    let s := s.setRport m fun r => { r with turn := none, use := if t.toTx && r.use == .none then .none else r.use }
    let s := s.cond (s.portState m != stCAL) fun s => s.setPortState m (if t.toTx then stTX else stRX)
    s.portEval m

/-- PA_SETTLE_EXPIRY: an FDD port releases its DAC, and an entry to TX is complete (R210). -/
def State.paSettled (s : State) (m : Nat) : State :=
  match (s.rport m).settle with
  | none => s
  | some t =>
    let s := (s.reach (s.releaseAt m t)).setRport m fun r => { r with settle := none, lossFrom := none, lossHit := false }
    let s := s.cond (s.portState m == stRX) fun s => s.setPortState m stTX
    (s.cmdCheck m).lossEval m

/-! ### Transmit timeouts (R215, R216) -/

/-- Source 17 latches for a port. -/
def State.txTimeout (s : State) (m b : Nat) : State :=
  (s.satInc RFC_PORT_TXTO_CNT m).detect cTXTO pgRFC b (portBit m)

/-- TX_TIMEOUT_TDD: PAEN still active 10 µs after the end of a transmit use. -/
def State.tddTimeout (s : State) (m : Nat) : State :=
  match (s.rport m).txEnd with
  | none => s
  | some t =>
    let s := (s.reach (t + usT 10)).setRport m fun r => { r with txEnd := none }
    if s.tddPort m && s.paen m && (s.rport m).use != .tx then s.txTimeout m 3 else s

/-- PRESENCE_LOSS_TIMEOUT: the loss timer of an FDD port reaches LOSS_LIM. -/
def State.lossTimeout (s : State) (m : Nat) : State :=
  match (s.rport m).lossFrom with
  | none => s
  | some t =>
    if (s.rport m).lossHit then s
    else
      let s := s.reach (t + s.rd RFC_CFG 0 * msT 100)
      ((s.setRport m fun r => { r with lossHit := true }).stand 17 m).txTimeout m 4

/-! ### Attenuator buses (R218, R219) -/

def State.attn (s : State) (x : Nat) : AttnSt := s.rfc.attn.get {} x
def State.setAttn (s : State) (x : Nat) (f : AttnSt → AttnSt) : State :=
  s.setRfc fun r => { r with attn := r.attn.set x (f (s.attn x)) }
/-- The data words of a bus as a frame. -/
def State.attnWord (s : State) (x : Nat) : BitVec 128 :=
  BitVec.ofNat 128 ((List.range 4).foldl (fun a i => a + s.rd ATTN_DATA (16 * x + i) * 2 ^ (32 * i)) 0)

/-- A frame starts shifting: LEN + 2.5 periods of SCK. -/
def State.attnShift (s : State) (x : Nat) (f : BitVec 128) : State :=
  let n := s.rd ATTN_CFG_LEN x
  let h := s.rd ATTN_CFG_DIV x
  let s := s.setAttn x fun a =>
    { a with shifting := true, awaiting := false, frame := f, len := n, lsb := s.on ATTN_CFG_LSB_FIRST x, half := h,
             t0 := s.now, doneAt := s.now + (2 * n + 5) * h }
  s.wr ATTN_STAT_BUSY x 1

/-- The bits of the frame in the shift register, in the order of their shift. -/
def AttnSt.bits (a : AttnSt) : List Bool :=
  let l := (List.range a.len).map a.frame.getLsbD
  if a.lsb then l else l.reverse

/-- The levels of SCK, SDO and LE. DEDUCED (log 103): the LEN + 2.5 periods begin with half a period of SCK high, so that the
first bit is put out on a falling edge, and end as LE falls. -/
def State.attnBalls (s : State) (x : Nat) : Bool × Bool × Bool :=
  let a := s.attn x
  if s.rd ATTN_CFG_LEN x = 0 then (false, false, false)
  else
    let h := (s.now - a.t0) / max 1 a.half
    let run := a.shifting && decide (s.now < a.doneAt)
    let late := match a.leAt with | some t => decide (s.now < t + 4 * a.half) | none => false
    (run && h % 2 == 0 && decide (h ≤ 2 * a.len),
     run && decide (1 ≤ h) && decide (h ≤ 2 * a.len) && a.bits.getD ((h - 1) / 2) false,
     (run && s.rd ATTN_CFG_LATCH x == 0 && decide (2 * a.len < h)) || late)

/-- A frame is sent, or held while another shifts or awaits its latch. -/
def State.attnSend (s : State) (x : Nat) : State :=
  if s.rd ATTN_CFG_LEN x = 0 then s
  else if s.on ATTN_STAT_BUSY x then
    (s.setAttn x fun a => { a with held := some (s.attnWord x) }).wr ATTN_STAT_PENDING x 1
  else s.attnShift x (s.attnWord x)

/-- ATTN_GO: a write of ATTN_CTL_x. -/
def State.writeAttnCtl (s : State) (x : Nat) (v : Word) : State :=
  if ATTN_CTL.of v = 0 then s
  else if s.on ATTN_CFG_OWNER x then s.refuse pgRFC else s.attnSend x

/-- A write of ATTN_DATA_x_i. -/
def State.writeAttnData (s : State) (x i : Nat) (v : Word) : State :=
  if s.on ATTN_CFG_OWNER x then s.refuse pgRFC else s.wr ATTN_DATA (16 * x + i) v.toNat

/-- LE is issued: the frame is latched, and a frame held follows. -/
def State.attnLE (s : State) (x : Nat) : State :=
  let a := s.attn x
  let s := (s.setAttn x fun a =>
    { a with shifting := false, awaiting := false, latched := a.bits, held := none,
             leAt := if a.awaiting then some s.now else none }).inc ATTN_STAT_SENT x
  match a.held with
  | some f => (s.wr ATTN_STAT_PENDING x 0).attnShift x f
  | none => s.wr ATTN_STAT_BUSY x 0

/-- ATTN_SHIFT_DONE. -/
def State.attnShifted (s : State) (x : Nat) : State :=
  let a := s.attn x
  if !a.shifting then s
  else
    let s := s.reach a.doneAt
    if s.rd ATTN_CFG_LATCH x = 0 then s.attnLE x
    else s.setAttn x fun a => { a with shifting := false, awaiting := true }

/-- The tick of the next 10 ms frame boundary of the timebase (R170). -/
def State.frameEnd (s : State) : Nat := s.now + (9830400 - s.time.idx % 9830400)

/-- The first frame boundary after tick `t`, which has passed. -/
def State.frameAfterTick (s : State) (t : Nat) : Nat :=
  t + (9830400 - (s.time.idx + tps - (s.now - t) % tps) % 9830400)

/-- ATTN_LATCH: 0.50 µs into a turn-round on a named port that began after the shift, or the next frame boundary. -/
def State.attnLatch (s : State) (x : Nat) : State :=
  let a := s.attn x
  if !a.awaiting then s
  else if s.rd ATTN_CFG_LATCH x = 2 then (s.reach (s.frameAfterTick a.doneAt)).attnLE x
  else
    let begun := (portList (BitVec.ofNat 8 (s.rd ATTN_CFG_PORTS x))).filterMap fun m =>
      match (s.rport m).turn with
      | some t => if a.doneAt ≤ t.t0 then some t.t0 else none
      | none => none
    match begun.min? with
    | some t => (s.reach (t + nsT 500)).attnLE x
    | none => s

/-- A write of ATTN_CFG_x (Table 7-11). LEN = 0 disables the bus. -/
def State.writeAttnCfg (s : State) (x : Nat) (v : Word) : State :=
  if ATTN_CFG_LATCH.of v = 3 ∨ ATTN_CFG_DIV.of v < 20 ∨ 128 < ATTN_CFG_LEN.of v then s.refuse pgRFC
  else
    let s := s.wrWord [ATTN_CFG_OWNER, ATTN_CFG_LSB_FIRST, ATTN_CFG_LATCH, ATTN_CFG_PORTS, ATTN_CFG_DIV, ATTN_CFG_LEN] x v
    if ATTN_CFG_LEN.of v = 0 then
      ((s.setAttn x fun a => { a with shifting := false, awaiting := false, held := none }).wr ATTN_STAT_BUSY x 0).wr
        ATTN_STAT_PENDING x 0
    else s

/-! ### The coexistence handshakes -/

/-- COEX_REQ_IN_RISE, with the level of COEX_PRI. -/
def State.coexReqRise (s : State) (pri : Bool) : State :=
  let s := { s with pins := { s.pins with coexReqIn := true, coexPri := pri } }
  let asserted := pri != s.on COEX_CFG_PRI_POL 0
  match s.rd COEX_CFG_IN_POL 0 with
  | 0 => s.coexGrant
  | 1 => if asserted || !s.sharedTx then s.coexGrant else s.wr COEX_STAT_PENDING 0 1
  | _ => s.satInc COEX_DENY_CNT 0

/-- COEX_GRANT_OUT: the hold is complete, and COEX_GNT_OUT rises. -/
def State.coexGntOut (s : State) : State :=
  if !s.rfc.granted || s.on COEX_STAT_GNT_OUT 0 then s
  else ((s.wr COEX_STAT_GNT_OUT 0 1).satInc COEX_GRANT_CNT 0).setRfc fun r => { r with grantAt := some s.now }

/-- The inbound hold ends: FDD ports resume under R210, TDD ports at their next transmit use. -/
def State.coexEnd (s : State) : State :=
  let s := (s.wr COEX_STAT_GNT_OUT 0 0).setRfc fun r => { r with granted := false, grantAt := none }
  (List.range 8).foldl (fun (s : State) m =>
    if (s.rport m).coexIn then
      let s := s.setRport m fun r => { r with coexIn := false, coexUse := r.coexUse || r.use == .tx }
      s.cond (!s.tddPort m && (s.portState m == stTX || (s.rport m).settle.isSome)) fun s =>
        s.setRport m fun r => { r with settle := some s.now }
    else s) s

/-- COEX_REQ_IN_FALL. -/
def State.coexReqFall (s : State) : State :=
  let s := { s with pins := { s.pins with coexReqIn := false } }
  (s.wr COEX_STAT_PENDING 0 0).coexEnd

/-- COEX_MAX_HOLD_EXPIRY (R222). -/
def State.coexMaxHold (s : State) : State :=
  let lim := s.rd COEX_TIME_MAX_HOLD 0
  match s.rfc.grantAt with
  | some t =>
    if lim = 0 then s
    else
      let s := (s.reach (t + usT (10 * lim))).coexEnd
      (s.satInc COEX_WDRAW_CNT 0).raiseInt [(pgSYN, 3)] pgRFC 5 (portsOf s.shared)
  | none => s

/-- COEX_REQ_OUT_RAISE: LEAD before a transmit use, or before an entry to TX, of a shared port. -/
def State.coexReqOut (s : State) (m : Nat) : State :=
  if !(s.on RFC_PORT_CFG_COEX m && s.rd COEX_CFG_OUT_MODE 0 != 0) then s
  else if s.tddPort m then
    match s.nextUse m with
    | some (d, true) =>
      ((s.reach (s.now + d - s.leadT)).wr COEX_STAT_REQ_OUT 0 1).setRport m fun r => { r with announced := true }
    | _ => s
  else if !(s.rport m).entry then s
  else
    let s := s.wr COEX_STAT_REQ_OUT 0 1
    let e := s.now + s.leadT
    let s := s.cond (!s.pins.coexGntIn) fun s => s.satInc COEX_DENY_CNT 0
    if s.strict && !s.pins.coexGntIn then
      (s.setRport m fun r => { r with coexWait := true, leadEnd := some e }).int pgRFC 2
    else s.setRport m fun r => { r with entry := false, settle := some e }

/-- The FDD ports that wait under strict mode enter TX, or resume. -/
def State.coexResume (s : State) : State :=
  (List.range 8).foldl (fun (s : State) m =>
    let r := s.rport m
    if !r.coexWait then s
    else s.setRport m fun r =>
      { r with coexWait := false, entry := false, leadEnd := none,
               settle := if s.portState m == stTX || r.entry then some (max s.now (r.leadEnd.getD 0)) else r.settle }) s

/-- COEX_GNT_IN_RISE. -/
def State.coexGntRise (s : State) : State := ({ s with pins := { s.pins with coexGntIn := true } } : State).coexResume

/-- COEX_GNT_IN_FALL: in strict mode a fall during a transmission holds every shared port, an FDD port until COEX_GNT_IN
rises, and a TDD port until its next transmit use finds it high. -/
def State.coexGntFall (s : State) : State :=
  let s := { s with pins := { s.pins with coexGntIn := false } }
  if !s.strict || !(s.shared.any fun m => s.paen m) then s
  else
    let s := s.shared.foldl (fun (s : State) m =>
      s.setRport m fun r =>
        if s.tddPort m then { r with coexUse := true }
        else { r with coexWait := true, settle := none, entry := r.entry || (r.settle.isSome && s.portState m == stRX) }) s
    (((s.satInc COEX_WDRAW_CNT 0).int pgSYN 3).int pgRFC 2).suspendLifts

/-- A write of COEX_CFG. -/
def State.writeCoexCfg (s : State) (v : Word) : State :=
  if COEX_CFG_IN_POL.of v = 3 ∨ COEX_CFG_OUT_MODE.of v = 3 then s.refuse pgRFC
  else
    let s := s.wrWord [COEX_CFG_IN_POL, COEX_CFG_OUT_MODE, COEX_CFG_PRI_POL] 0 v
    (s.cond (!s.strict) State.coexResume).portsEval

/-! ### Line faults (R223) -/

/-- RFC_LINE_MISMATCH on a port, or with `parity` a parity error of the sequencer: its lines go to OFF levels. -/
def State.lineMismatch (s : State) (m : Nat) (parity : Bool) : State :=
  let s := s.setRport m fun r => { r with lineFault := true }
  (s.stand 12 m).raise pgRFC (if parity then 2 else 1) (portBit m)

/-- The lines of a port have been correct for 1 ms. -/
def State.linesGood (s : State) (m : Nat) : State := (s.setRport m fun r => { r with lineFault := false }).unstand 12 m

/-! ### The reference clock (R199) -/

/-- REF_IN_FAIL: the internal oscillator takes over. -/
def State.refFail (s : State) : State := s.refInFail

/-- REF_IN_RECOVERED: REF_IN has been correct for 100 ms, and both synthesisers recalibrate by the rule of R214. -/
def State.refBack (s : State) : State :=
  if !s.time.refFail then s
  else
    let s := ((s.setTime fun t => { t with refFail := false }).unstand 55 0).wr TIME_STAT_DEGRADED 0 0
    [0, 1].foldl (fun (s : State) k => if (s.syn k).den = 0 ∨ (s.thm.shut && !s.thm.restart) = true then s else s.synRetry k) s

/-! ### The frame boundary (R137, R148, R150, R170) -/

/-- NOISE_RISE of an uplink lane: NC averaged over the last FRAMES frames with data, by the registers in force in the frame
that ends (R165); a lane with DONOR_REF unset has no reference to compare with. -/
def State.noiseRise (s : State) (n nc : Nat) : State :=
  let nr := s.protWords.1
  let cfg := s.protWords.2.2.getD n 0
  let k := max 1 (PROT_NR_FRAMES.of nr)
  let p := s.prot.get {} n
  let ncs := (nc :: p.ncs).take k
  let s := { s with prot := s.prot.set n { p with ncs := ncs } }
  if PROT_LANE_CFG_NR_EN.of cfg = 0 ∨ PROT_LANE_CFG_DONOR_REF.of cfg = 0x8000 ∨ !(s.lane n).repeating ∨ ncs.length < k then s
  else
    let avg := ncs.sum / k
    let ref := linNoise (codeLevel 16 64 (PROT_LANE_CFG_DONOR_REF.of cfg))
    let dn := dBpow (ref + avg) (max 1 ref)
    let s := (s.wr PROT_LANE_NR_NC_AVG n (levelCode 16 64 (dBNoise avg))).wr PROT_LANE_NR_DN n (levelCode 16 64 dn)
    if (PROT_NR_LIMIT.of nr : Int) * 1024 < dn then s.detect cNR pgPROT 2 (portBit (s.lane n).tx) else s

/-- FRAME_BOUNDARY: the next 10 ms frame boundary of the timebase. -/
def State.frameBoundary (s : State) : State :=
  let s := (if s.time.idx % 9830400 = 0 ∧ s.due evFRAME = true then s else s.reach s.frameEnd).mark evFRAME
  let s := ((List.range 16).map (16 + ·)).foldl (fun (s : State) n =>
    let (nc, s) := s.frameNc n
    match nc with
    | some (a, _) => s.noiseRise n a
    | none => s) s
  let s := { s with cur := { s.cur with old := none } }
  (List.range 16).foldl (fun (s : State) n =>
    let p := s.prot.get {} n
    ({ s with prot := s.prot.set n { p with was := p.reached, reached := false } } : State).presUpdate n) s

end Sys2Proof.Machine
end

