-- ==== Sys2Proof/Machine/Sys.lean ====
section
/-! DEFINITION. Device states and commands (spec/00_scope.md R8 to R13; spec/01_architecture.md R26 to R28). -/
namespace Sys2Proof.Machine
open Sys2Proof

def stREHEARSAL : Nat := 1
def stPERFORMANCE : Nat := 2
def stINTERVAL : Nat := 3
def cmdSTART : Nat := 1
def cmdPAUSE : Nat := 2
def cmdRESUME : Nat := 3
def cmdSTOP : Nat := 4

/-! ### The entry conditions (R9) -/

/-- SYS_STATE.CAL_DONE: every enabled converter is calibrated on a READY synthesiser, and no thermal shutdown is in force. -/
def State.calDone (s : State) : Bool :=
  !s.thm.shut && (List.range 16).all fun c => !s.cvEn c || (s.cvDone c && s.synState (cvSyn c) == synREADY)

/-- The noise-rise detector of a lane is armed (Table 5-2). -/
def State.nrArmed (s : State) (n : Nat) : Bool :=
  !s.on PROT_LANE_CFG_NR_EN n
    || (s.rd PROT_LANE_CFG_DONOR_REF n != 0x8000 && s.armed n && (s.sl n).hadFrame)

/-- The detectors that apply to an active lane are armed (Table 5-2, R58): that of oscillation once the lane runs. -/
def State.laneArmed (s : State) (n : Nat) : Bool :=
  !((s.lane n).on && (s.lane n).txEn)
    || ((s.lane n).active && (downlink n || s.nrArmed n) && (!(s.lane n).tdd || s.timeValid))

/-- SYS_STATE.PROT_ARMED (R152). -/
def State.protArmed (s : State) : Bool := (List.range 32).all s.laneArmed

/-- The conditions of R9; a device in an ID conflict stays in REHEARSAL (R23, R380). -/
def State.mayPerform (s : State) : Bool :=
  s.calDone && s.timeAcq && s.protArmed && s.isoValid && !s.thm.shut && !s.ring.conflict

/-- SYS_STATE.AUTONOMOUS: the autonomous flag is honoured (R461). -/
def State.autonomous (s : State) : Bool :=
  s.boot.autoFlag && s.boot.ended && !s.on BOOT_STAT_ABORTED 0 && !s.on BOOT_CFG 0

/-! ### Transitions (Table 0-4) -/

/-- DEV_STATE takes a new state. -/
def State.setDevState (s : State) (st : Nat) : State :=
  (((s.wr SYS_STATE_DEV_STATE 0 st).int pgSYS 0).alert 3).portsEval

/-- A pending command is cancelled (R11). -/
def State.cancelCmd (s : State) : State :=
  if s.rd SYS_STATE_PENDING 0 = 0 then s else (s.wr SYS_STATE_PENDING 0 0).int pgSYS 2

/-- The Curtain falls on every port for the device state (R154). -/
def State.stateCurtain (s : State) : State := s.request allPorts cSTATE true false

/-- PERFORMANCE or INTERVAL to REHEARSAL; a transition in progress ends. -/
def State.toRehearsal (s : State) : State :=
  let s := s.wr SYS_STATE_IN_TRANSITION 0 0
  if s.devState = stREHEARSAL then s
  else (s.cond (s.devState == stPERFORMANCE) State.stateCurtain).setDevState stREHEARSAL

/-- A command that is rejected (R10). -/
def State.rejectCmd (s : State) : State := (s.satInc SYS_REJ_CNT 0).int pgSYS 1

/-- ENTER_PERFORMANCE: a pending command takes effect once R9 is met. From INTERVAL every active lane starts under the
cap of R12; the first entry after a reset sets the ceilings by R106. -/
def State.enterPerformance (s : State) : State :=
  let p := s.rd SYS_STATE_PENDING 0
  let from3 := s.devState == stINTERVAL
  if s.sys.dark || !(p == cmdSTART && s.devState == stREHEARSAL || p == cmdRESUME && from3) || !s.mayPerform then s
  else
    let s := ((s.wr SYS_STATE_PENDING 0 0).setDevState stPERFORMANCE).outRestart
    let s := if s.cnx.performed then s else s.firstCeil.setCnx fun c => { c with performed := true }
    let s := s.cond from3 fun s => ((List.range 32).filter fun n => (s.lane n).on).foldl State.startCap s
    s.clearCauses allPorts cSTATE

/-- A command that is accepted, evaluated against the state reached (Table 0-4, R11, R27). A START or RESUME
waits only while a condition of R9 is missing. -/
def State.evalCmd (s : State) (c : Nat) : State :=
  if s.sys.dark then s.rejectCmd
  else if c = cmdSTOP then
    let s := (s.setSys fun x => { x with stopHeld := true }).cancelCmd
    if s.devState = stREHEARSAL then s else s.toRehearsal
  else if c = cmdSTART ∧ s.devState = stREHEARSAL then
    ((s.setSys fun x => { x with stopHeld := false }).wr SYS_STATE_PENDING 0 cmdSTART).enterPerformance
  else if c = cmdRESUME ∧ s.devState = stINTERVAL then (s.wr SYS_STATE_PENDING 0 cmdRESUME).enterPerformance
  else if c = cmdPAUSE ∧ s.devState = stPERFORMANCE then (s.wr SYS_STATE_IN_TRANSITION 0 1).stateCurtain
  else s.rejectCmd

/-- An access that waits behind a command written during a transition (R11). -/
def State.defer (s : State) (w : Waits) : State := s.setSys fun x => { x with deferred := x.deferred ++ [w] }

/-- A host write of the word at slice offset `a`, with its effect: behind a command that waits for a transition to complete,
it waits in its turn (R11, R38). -/
def State.byHost (s : State) (a : Nat) (v : Word) (act : State → State) : State :=
  if s.sys.deferred.isEmpty then act s else s.defer (.write a v)

/-- A write of SYS_CMD: code 0 is ignored; during a transition it waits (R11). -/
def State.sysCmd (s : State) (c : Nat) : State :=
  if c = 0 then s
  else if s.on SYS_STATE_IN_TRANSITION 0 || !s.sys.deferred.isEmpty then
    s.defer (.write 0x40 (BitVec.ofNat 32 c))
  else s.evalCmd c

/-- PAUSE_COMPLETE: the Curtain is complete on every port, and DEV_STATE reads INTERVAL (R28). -/
def State.pauseDone (s : State) : State :=
  if s.on SYS_STATE_IN_TRANSITION 0 && s.devState == stPERFORMANCE && (List.range 8).all s.down then
    (s.wr SYS_STATE_IN_TRANSITION 0 0).setDevState stINTERVAL
  else s

/-- STATE_PARITY (R466): REHEARSAL is forced, and a pending command is cancelled. -/
def State.stateParity (s : State) : State := (s.cancelCmd.toRehearsal).raise pgSYS 1 allPorts

end Sys2Proof.Machine
end

