-- ==== Sys2Proof/Machine/Stm.lean ====
section
/-! DEFINITION. The storage manager (spec/12_storage_manager.md): the start of the medium, first format, the history ring,
the capture memory and its snapshots, and the upkeep of the medium. -/
namespace Sys2Proof.Machine
open Sys2Proof

def medBLANK : Nat := 1
def medOWN : Nat := 2
def medFOREIGN : Nat := 3

/-- The native blocks and pages of a unit count of `g` GiB. -/
def gibUnits (g : Nat) : Nat := g * 2 ^ 18

/-- The record slots of the book for P16 (spec/11_prompt_book.md, Filling): main area and apron. -/
def mainSlots (p16 : Nat) : Nat := p16 * 16 * 2 ^ 20 * 29
def apronSlots (p16 : Nat) : Nat := p16 * 16 * 2 ^ 21

def State.uid (s : State) : BitVec 64 := BitVec.ofNat 64 (s.rd SEC_UID_HI 0 * 2 ^ 32 + s.rd SEC_UID_LO 0)

/-- The book's slots follow the medium; a blank medium holds no book (R314, R319). -/
def State.setBook (s : State) (p16 : Nat) (fresh : Bool) : State :=
  s.setPb fun p =>
    let p := { p with mainCap := mainSlots p16, apronCap := apronSlots p16 }
    if fresh then
      { p with book := [], tombs := [], mainUsed := 0, apronUsed := 0, mainFull := false, apronFull := false }
    else p

/-- The rings are empty. -/
def State.clearHist (s : State) : State :=
  let s := s.setStm fun x => { x with hist := [], histNext := 0, histUnit := 0, histDropped := false }
  (((s.wr STM_HIST_HEAD 0 0xFFFFFFFF).wr STM_HIST_HOFS 0 0xFFFFFFFF).wr STM_HIST_TAIL 0 0xFFFFFFFF).wr STM_HIST_TOFS 0
    0xFFFFFFFF
def State.clearSnaps (s : State) : State :=
  let s := s.setStm fun x => { x with snaps := [], snapNext := 0, snapUnit := 0 }
  (((s.wr STM_SNAP_HEAD 0 0xFFFFFFFF).wr STM_SNAP_HOFS 0 0xFFFFFFFF).wr STM_SNAP_TAIL 0 0xFFFFFFFF).wr STM_SNAP_TOFS 0
    0xFFFFFFFF

/-- The ring registers follow the rings. -/
def State.setRings (s : State) : State :=
  let s := match s.stm.hist.head?, s.stm.hist.getLast? with
    | some a, some b =>
      (((s.wr STM_HIST_HEAD 0 b.no).wr STM_HIST_HOFS 0 b.unit).wr STM_HIST_TAIL 0 a.no).wr STM_HIST_TOFS 0 a.unit
    | _, _ => s
  match s.stm.snaps.head?, s.stm.snaps.getLast? with
  | some a, some b =>
    (((s.wr STM_SNAP_HEAD 0 b.no).wr STM_SNAP_HOFS 0 b.unit).wr STM_SNAP_TAIL 0 a.no).wr STM_SNAP_TOFS 0 a.unit
  | _, _ => s

/-- Spare blocks left: below 1 % of the raw capacity SPARE_LOW is raised (R338, Table 12-10). -/
def State.setSpare (s : State) (n : Nat) : State :=
  let page := 2 ^ (s.rd STM_GEOM_PAGE 0 + 1)
  let low := decide (n * s.stm.ppb * page * 100 < s.rd STM_GEOM_RAW 0 * 2 ^ 20)
  let was := s.on STM_STAT_SPARE_LOW 0
  let s := (s.wr STM_SPARE 0 n).wr STM_STAT_SPARE_LOW 0 low.toNat
  if low && !was then (s.raiseInt [(pgSTM, 6)] pgSTM 3 allPorts).stand 5 3
  else if !low then s.unstand 5 3 else s

/-- The endurance of a pool in cycles (R341). -/
def State.endurance (s : State) (pslc : Bool) : Nat :=
  let nat := if s.rd STM_ENDUR_NATIVE 0 = 0 then s.stm.endur else s.rd STM_ENDUR_NATIVE 0
  100 * (if !pslc then nat else if s.rd STM_ENDUR_PSLC 0 = 0 then 10 * nat else s.rd STM_ENDUR_PSLC 0)

/-- The mean erase counts of the last 30 days of powered time, with one entry from before them (R341). -/
def keepMeans (now : Nat) : List (Nat × Nat × Nat) → List (Nat × Nat × Nat)
  | a :: b :: l => if b.1 + secT 2592000 ≤ now then keepMeans now (b :: l) else a :: b :: l
  | l => l

/-- The years left to a pool in 0.1 years, from its mean erase count now and at the start of the span (R341): the free
cycles over the erase rate, all ones where nothing was erased. -/
def State.life (s : State) (pslc : Bool) : Nat :=
  match keepMeans s.now s.stm.means with
  | [] => 0xFFFF
  | (t, n, p) :: _ =>
    let mean := if pslc then s.rd STM_WEAR_S_MEAN 0 else s.rd STM_WEAR_N_MEAN 0
    let d := mean - (if pslc then p else n)
    if d = 0 then 0xFFFF
    else min 0xFFFF (roundDiv ((s.endurance pslc - mean : Nat) * (s.now - t : Nat) * 10) (d * secT 31557600)).toNat

/-- A block of a pool is erased, whose greatest and mean erase counts are then these (R339, R341). -/
def State.erased (s : State) (pslc : Bool) (mx mean : Nat) : State :=
  let s := s.setStm fun x => { x with erases := x.erases + 1 }
  let s := if pslc then (s.wr STM_WEAR_S_MAX 0 mx).wr STM_WEAR_S_MEAN 0 mean
    else (s.wr STM_WEAR_N_MAX 0 mx).wr STM_WEAR_N_MEAN 0 mean
  let s := s.setStm fun x =>
    { x with means := keepMeans s.now (x.means ++ [(s.now, s.rd STM_WEAR_N_MEAN 0, s.rd STM_WEAR_S_MEAN 0)]) }
  let e := s.endurance pslc
  if 0 < e ∧ 9 * e ≤ 10 * mx then (s.raise pgSTM 6 allPorts).stand 5 6 else s

/-- STORAGE_READY (R328): the medium is identified. Only an OWN medium is written. -/
def State.storageReady (s : State) (m : MediumInfo) : State :=
  if s.on STM_STAT_READY 0 then s
  else
    let s := (((s.wr STM_GEOM_CE_MASK 0 m.ceMask).wr STM_GEOM_BPC 0 m.bpc).wr STM_GEOM_LUNS 0 m.luns).wr STM_GEOM_PAGE 0 m.page
    let s := (s.wr STM_GEOM_RAW 0 m.raw).wr STM_STAT_USABLE 0 (m.raw * 8 / 10)
    let s := (s.wr STM_IF_MTS 0 (min m.mts (s.rd STM_IF_MAX_MTS 0))).wr STM_STAT_READY 0 1
    let s := s.setStm fun x => { x with ppb := m.ppb, endur := m.endur, checkAt := s.now, means := [(s.now, m.wearN.2, m.wearS.2)] }
    let s := ((s.wr STM_WEAR_N_MAX 0 m.wearN.1).wr STM_WEAR_N_MEAN 0 m.wearN.2).wr STM_WEAR_S_MAX 0 m.wearS.1
    let s := s.wr STM_WEAR_S_MEAN 0 m.wearS.2
    let own := m.kind == .own
    let s := s.cond (m.differs) fun s => (s.raise pgSTM 5 allPorts).stand 5 5
    let s := s.cond (!m.differs) fun s => s.unstand 5 5
    let s := s.cond (own && m.mirror && m.differs) fun s => s.wr STM_STAT_SINGLE 0 1
    match m.kind with
    | .none => (s.wr STM_STAT_MEDIUM 0 0).setBook 0 false
    | .blank =>
      ((((s.wr STM_STAT_MEDIUM 0 medBLANK).unstand 5 4).setSpare m.spare).setBook 0 true).clearHist.clearSnaps
    | .own =>
      let s := ((s.wr STM_STAT_MEDIUM 0 medOWN).unstand 5 4).wr STM_STAT_MIRROR 0 m.mirror.toNat
      let s := ((s.wr STM_PART_P16 0 m.p16).wr STM_PART_H 0 m.h).wr STM_PART_S 0 m.s
      let s := s.setStm fun x =>
        { x with histUnits := gibUnits m.h, snapUnits := gibUnits m.s,
                 fmt := { x.fmt with ident := m.ident, p16 := m.p16, mirror := m.mirror, s := m.s, h := m.h, raw := m.raw,
                                     u := m.raw * 8 / 10, bpc := m.bpc, pageK := 2 ^ (m.page + 1), ppb := m.ppb,
                                     first := m.first } }
      ((s.setPb fun p => { p with first := m.first }).setBook m.p16 false).setRings.setSpare m.spare
    | .foreign =>
      let s := (s.wr STM_STAT_MEDIUM 0 medFOREIGN).setBook 0 false
      let s := s.setStm fun x => { x with fmt := { x.fmt with ident := m.ident } }
      ((s.raise pgSTM 4 allPorts).stand 5 4).journal pgSTM 0x0904 sevMINOR m.ident.toNat

/-! ### First format (R329 to R331) -/

/-- The checks of Table 12-2, in order: the first code that fails. -/
def State.fmtErr (s : State) (reshape : Bool) : Option Nat :=
  let p16 := if reshape then s.rd STM_PART_P16 0 else s.rd STM_FMT_CFG_P16 0
  let mir := if reshape then s.rd STM_STAT_MIRROR 0 else s.rd STM_FMT_CFG_MIRROR 0
  let b := s.rd STM_GEOM_BPC 0
  let ce := s.rd STM_GEOM_CE_MASK 0
  if s.rd STM_STAT_MEDIUM 0 ≠ (if reshape then medOWN else medBLANK) then some 1
  else if p16 < 1 ∨ 32 < p16 then some 2
  else if b ≠ 1 ∧ s.rd STM_PSLC_EN 0 = 0 then some 3
  else if mir = 1 ∧ (ce % 16 = 0 ∨ ce / 16 = 0) then some 4
  else if s.rd STM_STAT_USABLE 0 < 16 * p16 * b * (1 + mir) + s.rd STM_FMT_CFG_S 0 then some 5
  else none

/-- GO or RESHAPE at the storage manager: checked, and started or refused. -/
def State.formatStart (s : State) (reshape : Bool) : State :=
  if s.stm.format then s
  else
    match s.fmtErr reshape with
    | some e => (s.wr STM_FMT_STAT_ERR 0 e).refuse pgSTM
    | none =>
      (((s.wr STM_FMT_STAT_ERR 0 0).wr STM_FMT_STAT_BUSY 0 1).wr STM_FMT_STAT_DONE 0 0).setStm fun x =>
        { x with format := true, reshape := reshape }

/-- FORMAT_GO: a GO of an image acts at the end of the image load (R329). -/
def State.formatGo (s : State) (image : Bool) : State :=
  if image then s.setStm fun x => { x with goPending := true } else s.formatStart false

/-- The image load has ended. -/
def State.formatImage (s : State) : State :=
  if s.stm.goPending then (s.setStm fun x => { x with goPending := false }).formatStart false else s

/-- A write of STM_FMT_CTL. -/
def State.writeFmtCtl (s : State) (image : Bool) (v : Word) : State :=
  let s := s.cond (v.getLsbD 31) fun s => s.formatGo image
  s.cond (v.getLsbD 30) fun s => s.formatStart true

/-- FORMAT_DONE (R330, R331): `bad` factory bad blocks. -/
def State.formatDone (s : State) (bad : Nat) : State :=
  if !s.stm.format then s
  else
    let re := s.stm.reshape
    let p16 := if re then s.rd STM_PART_P16 0 else s.rd STM_FMT_CFG_P16 0
    let mir := if re then s.rd STM_STAT_MIRROR 0 else s.rd STM_FMT_CFG_MIRROR 0
    let b := s.rd STM_GEOM_BPC 0
    let sz := s.rd STM_FMT_CFG_S 0
    let h := s.rd STM_STAT_USABLE 0 - 16 * p16 * b * (1 + mir) - sz
    let s := s.setStm fun x => { x with format := false, reshape := false, histUnits := gibUnits h, snapUnits := gibUnits sz }
    let s := ((s.wr STM_PART_P16 0 p16).wr STM_PART_H 0 h).wr STM_PART_S 0 sz
    let s := ((s.wr STM_FMT_STAT_BUSY 0 0).wr STM_FMT_STAT_DONE 0 1).clearHist.clearSnaps
    let s := if re then (s.setStm fun x => { x with fmt := { x.fmt with s := sz, h := h } }).programmed 4 0 1
      else
        let s := (s.wr STM_STAT_MEDIUM 0 medOWN).wr STM_STAT_MIRROR 0 mir
        let f : FmtHdr :=
          { ident := s.uid, p16 := p16, mirror := mir == 1, s := sz, h := h, u := s.rd STM_STAT_USABLE 0,
            raw := s.rd STM_GEOM_RAW 0, bpc := b, pageK := 2 ^ (s.rd STM_GEOM_PAGE 0 + 1), ppb := s.stm.ppb, bad := bad,
            frac := BitVec.ofNat 32 (todFrac s.time.idx), sec := BitVec.ofNat 32 s.time.sec, first := s.pb.next }
        let s := (s.setStm fun x => { x with fmt := f, vaultId := f }).programmed 4 0 1
        (s.setBook p16 true).setPb fun p => { p with opening := true }
    let s := s.journal pgSTM 0x0900 sevNOTE
      (pf 58 6 p16 + pf 57 1 mir + pf 56 1 re.toNat + pf 44 12 sz + pf 32 12 h + (if re then 0 else bad % 2 ^ 32))
    s.int pgSTM 0

/-! ### Spectrum history (R343, R344) -/

/-- Ticks of an INTERVAL of `t` tenths of a second (R343). -/
def histTicks (t : Nat) : Nat := t * 98304000

/-- The armed lanes, in order. -/
def State.histLanes (s : State) : List Nat := (List.range 32).filter s.armed

/-- An entry of a context (Table 12-7). -/
def State.histEntry (s : State) (c : Nat) : List Word :=
  let x := s.ctx c
  let p := x.prev
  [BitVec.ofNat 32 (pwrCode p.mean * 2 ^ 16 + pwrCode p.min), BitVec.ofNat 32 (pwrCode x.floor * 2 ^ 16 + pwrCode p.max),
   BitVec.ofNat 32 p.win,
   BitVec.ofNat 32 ((if p.win = 0 then 0 else (roundDiv (p.openN * 65535) p.win).toNat)
     + (if p.win + p.excl = 0 then 0 else (roundDiv (p.excl * 65535) (p.win + p.excl)).toNat) * 2 ^ 16)]

/-- A byte for each lane, four to the word. -/
def packBytes (f : Nat → Nat) (n : Nat) : List Word :=
  (List.range n).map fun i =>
    BitVec.ofNat 32 ((f (4 * i + 3) % 256) * 2 ^ 24 + (f (4 * i + 2) % 256) * 2 ^ 16 + (f (4 * i + 1) % 256) * 2 ^ 8
      + f (4 * i) % 256)

/-- The words of the frame of the interval that ends now (Table 12-6). -/
def State.histWords (s : State) : List Word :=
  let ls := s.histLanes
  let es := ls.flatMap fun n => (s.ctxsOf n).flatMap s.histEntry
  let start := s.now - histTicks s.stm.histT
  let flags := (!s.on TIME_STAT_CAL_SET 0).toNat + 2 * s.stm.histStep.toNat + 4 * s.stm.histDropped.toNat
  let head : List Word :=
    [BitVec.ofNat 32 s.stm.histNext, BitVec.ofNat 32 (s.stm.histT + flags * 2 ^ 16), BitVec.ofNat 32 start,
     BitVec.ofNat 32 (start / 2 ^ 32), BitVec.ofNat 32 (todFrac s.time.idx), BitVec.ofNat 32 s.time.sec,
     BitVec.ofNat 32 (es.length / 4), BitVec.ofNat 32 (ls.foldl (fun a n => a + 2 ^ n) 0)]
  let maps := (List.range 32).map fun n =>
    if ls.contains n then BitVec.ofNat 32 (s.sptRd SPT_LANE_MAP_BASE MEAS_LANE_MAP_BASE n + s.sptCount n * 2 ^ 16) else 0
  let res := packBytes (fun n => if ls.contains n then s.sptRes n else 0xFF) 8
  let h := head ++ maps ++ res ++ List.replicate 15 0
  h ++ [crc32c ((h ++ es).flatMap wordBytes)] ++ es

/-- The oldest members of a ring of `cap` units go until `need` further units fit. -/
def dropOldest {α : Type} (units : α → Nat) (cap need : Nat) : List α → List α
  | [] => []
  | x :: xs =>
    if (x :: xs).foldl (fun a y => a + units y) 0 + need ≤ cap then x :: xs else dropOldest units cap need xs

/-- The units of a partition from `u`, `k` of them modulo its size, are written: they no longer read uncorrectable. -/
def State.unitsWritten (s : State) (part size u k : Nat) : State :=
  (s.programmed part u k).setStm fun x =>
    { x with badUnits := x.badUnits.filter fun b =>
        !(b.1 == part && decide (0 < size) && decide ((b.2 + size - u % size) % size < k)) }

/-- A frame is programmed: it takes the ring's next units, over the oldest frames (R344). -/
def State.histPlace (s : State) (no : Nat) (ws : List Word) : State :=
  let size := s.stm.histUnits
  if size = 0 then s
  else
    let k := (ws.length + 1023) / 1024
    let u := s.stm.histUnit
    let s := s.setStm fun x =>
      { x with hist := dropOldest HistFrame.units size k x.hist ++ [⟨no, u, k, ws⟩], histUnit := (u + k) % size }
    (s.unitsWritten 2 size u k).setRings

def Work.isHistory : Work → Bool
  | .history _ _ => true
  | .pbRead | .bulk _ _ | .send _ _ _ | .snapshot | .refresh _ _ _ _ | .scrub => false

/-- A frame is built at the boundary, or dropped where two frames still await programming (R344): `taken` that are being
programmed, or those that wait for work of a higher priority (R340). -/
def State.histFrame (s : State) (taken : Nat) : State :=
  let size := s.stm.histUnits
  if !s.on STM_HIST_CFG_EN 0 ∨ size = 0 ∨ s.rd STM_STAT_MEDIUM 0 ≠ medOWN ∨ s.on STM_STAT_READY 0 = false then s
  else if 2 ≤ max taken (s.stm.work.countP Work.isHistory) then
    let s := s.setStm fun x => { x with histNext := x.histNext + 1, histDropped := true }
    ((s.satInc STM_HIST_DROP 0).raise pgSTM 7 allPorts).journalInt [(pgSTM, 1)] pgSTM 0x0905 sevNOTE 0
  else
    let ws := s.histWords
    s.setStm fun x =>
      { x with work := x.work ++ [.history x.histNext ws], histNext := x.histNext + 1, histDropped := false, histStep := false }

/-- HISTORY_INTERVAL_BOUNDARY: every context's statistics are copied and cleared, and the frame is built (R133, R343). A
written INTERVAL takes effect at the first boundary of both. -/
def State.histBoundary (s : State) (taken : Nat) : State :=
  let s := s.toMul evHIST 0 (histTicks s.stm.histT)
  let s := s.ctxInterval.histFrame taken
  let t := s.rd STM_HIST_CFG_INTERVAL 0
  if s.now % histTicks t = 0 then s.setStm fun x => { x with histT := t } else s

/-- A write of STM_HIST_CFG. -/
def State.writeHistCfg (s : State) (v : Word) : State :=
  let t := STM_HIST_CFG_INTERVAL.of v
  if t < 1 ∨ 600 < t then s.refuse pgSTM else s.wrWord [STM_HIST_CFG_EN, STM_HIST_CFG_INTERVAL] 0 v

/-! ### The capture memory and snapshots (R345 to R348) -/

/-- Where the capture memory lies among the addressed memories: outside the slice, since the host reads it from the medium
alone. -/
def capBase : Nat := Region.laneCap.lo

/-- The lanes captured, in slot order, and the words of each. -/
def State.capSlots (s : State) : List Nat := (List.range 32).filter fun n => s.stm.capLanes.getLsbD n
def State.capN (s : State) : Nat := 1048576 / max 1 s.capSlots.length

/-- A sample word of a captured lane, at its tap point (R345). -/
def State.capWord (s : State) (n k : Nat) (w : Iq) (idle : Bool) : State :=
  let st := s.rd STM_CAP_STAT 0
  match (s.capSlots.zipIdx).find? fun x => x.1 == n with
  | none => s
  | some (_, i) =>
    if st = capFILLING ∨ st = capPOST then
      let l := s.lane n
      let flags := l.suspect.toNat + 2 * (s.behind l.tx).toNat + 4 * idle.toNat + 8 * (!l.active).toNat
      let v := w.i.toNat + w.q.toNat * 2 ^ 18 + flags * 2 ^ 36
      let o := 8 * (s.capN * i + k % s.capN)
      (s.stIn .laneCap o (BitVec.ofNat 32 v)).stIn .laneCap (o + 4) (BitVec.ofNat 32 (v / 2 ^ 32))
    else s

/-- The trigger sample of a lane, and the samples kept before it (R346). -/
def State.capTrigNo (s : State) (n : Nat) : Nat :=
  (s.stm.capTrigAt + (s.lane n).period - 1) / (s.lane n).period
def State.capPre (s : State) (n : Nat) : Nat :=
  let p := (s.lane n).period
  min (s.rd STM_CAP_CFG_PRE 0 * s.capN / 16) (s.capTrigNo n - (s.stm.capFillAt + p - 1) / p)

def capFlds : List Fld :=
  [STM_CAP_CFG_POINT, STM_CAP_CFG_PRE, STM_CAP_CFG_TRIG, STM_CAP_CFG_SEV_MIN, STM_CAP_CFG_HOLDOFF]

/-- A write of STM_CAP_CFG, arming with ARM (R346). -/
def State.writeCapCfg (s : State) (v : Word) : State :=
  let arm := v.getLsbD 31
  let was := s.on STM_CAP_CFG_ARM 0
  let sev := STM_CAP_CFG_SEV_MIN.of v
  let m := s.rd STM_CAP_LANES 0
  let n := ((List.range 32).filter m.testBit).length
  let idle := s.rd STM_CAP_STAT 0 == capIDLE
  if STM_CAP_CFG_POINT.of v = 3 ∨ sev < 1 ∨ 4 < sev then s.refuse pgSTM
  else if arm && !was && (s.stm.snapUnits == 0 || n == 0 || decide (8 < n)) then s.refuse pgSTM
  else
    let s := (s.wrWord capFlds 0 v).wr STM_CAP_CFG_ARM 0 arm.toNat
    if arm && idle then
      (s.wr STM_CAP_STAT 0 capFILLING).setStm fun x =>
        { x with capLanes := BitVec.ofNat 32 m, capFillAt := s.now, capCauses := 0 }
    else if !arm && s.rd STM_CAP_STAT 0 == capFILLING then s.wr STM_CAP_STAT 0 capIDLE
    else s

/-- SNAPSHOT_HOST_TRIGGER, a write of STM_CAP_CTL. -/
def State.writeCapCtl (s : State) (v : Word) : State := s.cond (v.getLsbD 31) fun s => s.snapTrig 2

/-- SNAPSHOT_FILL_COMPLETE: every lane holds N samples around the trigger (R346). -/
def State.snapFill (s : State) : State :=
  if s.rd STM_CAP_STAT 0 ≠ capPOST then s
  else
    let t := s.capSlots.foldl (fun a n =>
      max a ((s.capTrigNo n - s.capPre n + s.capN - 1) * (s.lane n).period)) s.now
    (s.reach t).wr STM_CAP_STAT 0 capWRITING

/-- The words of the snapshot's header (Table 12-8). -/
def State.snapHead (s : State) : List Word :=
  let x := s.stm
  let ls := s.capSlots
  let first := fun n => s.capTrigNo n - s.capPre n
  let pre := (ls.map s.capPre).foldl max 0
  let point := s.rd STM_CAP_CFG_POINT 0
  let seq := x.capSeq.toNat
  let h : List Word :=
    [BitVec.ofNat 32 x.snapNext,
     BitVec.ofNat 32 (2 ^ x.capFirst + x.capCauses.toNat * 2 ^ 8 + point * 2 ^ 16 + s.rd STM_CAP_CFG_PRE 0 * 2 ^ 24),
     BitVec.ofNat 32 x.capTrigAt, BitVec.ofNat 32 (x.capTrigAt / 2 ^ 32), BitVec.ofNat 32 (todFrac x.capIdx),
     BitVec.ofNat 32 x.capSec, BitVec.ofNat 32 seq, BitVec.ofNat 32 (seq / 2 ^ 32 + ls.length * 2 ^ 8),
     BitVec.ofNat 32 s.capN, BitVec.ofNat 32 pre]
    ++ packBytes (fun k => ls.getD k 0) 2
    ++ (List.range 8).flatMap fun k =>
      let f := if k < ls.length then first (ls.getD k 0) else 0
      [BitVec.ofNat 32 f, BitVec.ofNat 32 (f / 2 ^ 32)]
  let h := h ++ List.replicate (1023 - h.length) 0
  h ++ [crc32c (h.flatMap wordBytes)]

/-- SNAPSHOT_STORED: the last unit is programmed (R346, R348). -/
def State.snapStored (s : State) : State :=
  if s.rd STM_CAP_STAT 0 ≠ capWRITING then s
  else
    let size := s.stm.snapUnits
    let k := 1 + (8 * s.capSlots.length * s.capN + 4095) / 4096
    let u := s.stm.snapUnit
    let sn : Snap :=
      { no := s.stm.snapNext, unit := u, units := k, head := s.snapHead, perSlot := s.capN,
        firsts := s.capSlots.map fun n => s.capTrigNo n - s.capPre n, cells := s.mem.filter fun c => decide (capBase ≤ c.1) }
    let s := s.setStm fun x =>
      { x with snaps := dropOldest Snap.units size k x.snaps ++ [sn], snapNext := x.snapNext + 1,
               snapUnit := (u + k) % max 1 size }
    let s := (s.unitsWritten 3 size u k).setRings
    let s := s.journal pgSTM 0x0901 sevNOTE (pf 56 8 s.stm.capCauses.toNat + pf 48 8 (2 ^ s.stm.capFirst) + sn.no % 2 ^ 32)
    let s := s.int pgSTM 2
    if s.on STM_CAP_CFG_ARM 0 then
      (s.wr STM_CAP_STAT 0 capFILLING).setStm fun x => { x with capFillAt := s.now, capCauses := 0 }
    else s.wr STM_CAP_STAT 0 capIDLE

/-- A capture in POST or WRITING is abandoned and counts as missed (R352). -/
def State.capAbandon (s : State) : State :=
  let st := s.rd STM_CAP_STAT 0
  if st = capPOST ∨ st = capWRITING then
    (s.satInc STM_SNAP_MISS 0).wr STM_CAP_STAT 0 (if s.on STM_CAP_CFG_ARM 0 then capFILLING else capIDLE)
      |>.setStm fun x => { x with capFillAt := s.now, capCauses := 0 }
  else s

/-! ### Upkeep of the medium (R333 to R341) -/

/-- The condition of a refresh holds (R334 to R336, R339): without retry reads nothing needs soft decoding. -/
def State.mayRefresh (s : State) (why : Refresh) (pslc : Bool) : Bool :=
  match why with
  | .scrub bits => decide (s.rd STM_SCRUB_CFG_REFRESH 0 * Config.hardLimit < 100 * bits)
  | .soft => s.rd STM_RETRY_STEPS 0 != 0
  | .unreadable => true
  | .reads n => decide (s.rd STM_LIMITS_RD_LIM 0 * (if pslc then 10000 else 1000) ≤ n)
  | .wear lo hi => decide (s.rd STM_LIMITS_WL_DELTA 0 < hi - lo)

/-- A block's valid data move to a fresh block, and the old one is erased. -/
def State.blockRefresh (s : State) (why : Refresh) (pslc : Bool) (mx mean : Nat) : State :=
  if !s.mayRefresh why pslc then s
  else
    let s := s.satInc STM_REFRESH_CNT 0
    let s := match why with
      | .reads _ => s.satInc STM_RD_DIST_CNT 0
      | .soft | .scrub _ | .unreadable | .wear _ _ => s
    s.erased pslc mx mean

/-- CODEWORD_UNCORRECTABLE of a unit (R334). -/
def State.codewordUnc (s : State) (part unit : Nat) : State :=
  let s := ((s.satInc STM_ECC_UNC 0).wr STM_UNC_PART 0 part).wr STM_UNC_UNIT 0 unit
  let s := s.setStm fun x =>
    { x with badUnits := if x.badUnits.contains (part, unit) then x.badUnits else x.badUnits ++ [(part, unit)] }
  let s := (s.raise pgSTM 1 allPorts).journal pgSTM 0x0903 sevMINOR (pf 61 3 part + unit % 2 ^ 32)
  (s.int pgSTM 4).satInc STM_REFRESH_CNT 0

/-- One ring loses a block's units, from the oldest content, with its record (R338): SNAP first, then HIST. -/
def State.shrink (s : State) : State :=
  let k := max 1 (s.stm.ppb * 2 ^ (s.rd STM_GEOM_PAGE 0 + 1) / 4)
  if 0 < s.stm.snapUnits then
    let n := s.stm.snapUnits - k
    let s := s.setStm fun x => { x with snapUnits := n, snaps := dropOldest Snap.units n 0 x.snaps, snapUnit := x.snapUnit % max 1 n }
    ((s.wr STM_PART_S 0 (n / 2 ^ 18)).setRings).journal pgSTM 0x0907 sevMINOR (pf 61 3 3 + n % 2 ^ 32)
  else if 0 < s.stm.histUnits then
    let n := s.stm.histUnits - k
    let s := s.setStm fun x =>
      { x with histUnits := n, hist := dropOldest HistFrame.units n 0 x.hist, histUnit := x.histUnit % max 1 n }
    ((s.wr STM_PART_H 0 (n / 2 ^ 18)).setRings).journal pgSTM 0x0907 sevMINOR (pf 61 3 2 + n % 2 ^ 32)
  else s

/-- BLOCK_RETIRE (R338): `erase`, the pool, where the block lies, and the spare blocks left. -/
def State.blockRetire (s : State) (erase pslc : Bool) (ch ce lun block spare : Nat) : State :=
  let s := (s.satInc STM_RETIRED 0).journal pgSTM 0x0902 sevMINOR
    (pf 63 1 erase.toNat + pf 62 1 pslc.toNat + pf 61 1 ch + pf 59 2 ce + pf 55 4 lun + block % 2 ^ 32)
  let s := (s.raiseInt [(pgSTM, 5)] pgSTM 2 allPorts).setSpare spare
  s.cond (s.on STM_STAT_SPARE_LOW 0) State.shrink

/-- SCRUB_PASS_COMPLETE (R337). -/
def State.scrubDone (s : State) : State :=
  let s := ((s.satInc STM_SCRUB_STAT_PASSES 0).wr STM_SCRUB_STAT_PROGRESS 0 0).wr STM_SCRUB_AGE 0 0
  (s.setStm fun x => { x with scrubAt := s.now }).int pgSTM 7

/-- WEAR_CHECKPOINT: 8,192 erases, or 3,600 s of powered time, after the last (R339). -/
def State.wearCheckpoint (s : State) : State :=
  let s := if 8192 ≤ s.stm.erases then s else s.reach (s.stm.checkAt + secT 3600)
  s.setStm fun x => { x with erases := 0, checkAt := s.now }

/-- CE_BUSY_TIMEOUT: a chip enable stays busy for 50 ms (Table 12-10). -/
def State.ceBusy (s : State) : State :=
  let s := (s.raise pgSTM 5 allPorts).stand 5 5
  s.cond (s.on STM_STAT_MIRROR 0) fun s => s.wr STM_STAT_SINGLE 0 1

/-! ### Writes with ranges (Table 12-12) -/

def State.writeStmIf (s : State) (v : Word) : State :=
  let m := STM_IF_MAX_MTS.of v
  if m < 50 ∨ 800 < m then s.refuse pgSTM else s.wr STM_IF_MAX_MTS 0 m
def State.writeStmLimits (s : State) (v : Word) : State :=
  if STM_LIMITS_RD_LIM.of v = 0 ∨ STM_LIMITS_WL_DELTA.of v < 10 then s.refuse pgSTM
  else s.wrWord [STM_LIMITS_RD_LIM, STM_LIMITS_WL_DELTA] 0 v
def State.writeScrubCfg (s : State) (v : Word) : State :=
  let r := STM_SCRUB_CFG_REFRESH.of v
  let d := STM_SCRUB_CFG_DAYS.of v
  if r < 10 ∨ 90 < r ∨ d < 1 ∨ 30 < d then s.refuse pgSTM else s.wrWord [STM_SCRUB_CFG_REFRESH, STM_SCRUB_CFG_DAYS] 0 v

/-! ### Reading the medium (R332, R349) -/

/-- The words of the format header (Table 12-4). -/
def FmtHdr.words (f : FmtHdr) : List Word :=
  let h : List Word :=
    [1, f.ident.setWidth 32, (f.ident >>> 32).setWidth 32, BitVec.ofNat 32 (f.p16 * 2 ^ 26 + f.mirror.toNat * 2 ^ 25),
     BitVec.ofNat 32 f.s, BitVec.ofNat 32 f.h, BitVec.ofNat 32 f.u, BitVec.ofNat 32 f.raw,
     BitVec.ofNat 32 (f.bpc * 2 ^ 24 + f.pageK * 2 ^ 16 + f.ppb % 2 ^ 16), BitVec.ofNat 32 f.bad, f.frac, f.sec,
     f.first.setWidth 32, BitVec.ofNat 32 (f.first.toNat / 2 ^ 32)]
  let h := h ++ List.replicate (1023 - h.length) 0
  h ++ [crc32c (h.flatMap wordBytes)]

def blankWord : Word := 0xFFFFFFFF#32

/-- The size of a partition in units. -/
def State.partUnits (s : State) (part : Nat) : Nat :=
  let p := gibUnits (16 * s.rd STM_PART_P16 0)
  match part with
  | 0 => p * 31 / 32 | 1 => p / 32 | 2 => s.stm.histUnits | 3 => s.stm.snapUnits | 4 => 1 | _ => 0

/-- A byte of a snapshot's data (R348). -/
def Snap.byte (x : Snap) (i : Nat) : Byte :=
  let slot := i / (8 * x.perSlot)
  let j := i % (8 * x.perSlot)
  let k := x.firsts.getD slot 0 + j / 8
  memGet x.cells (capBase + 8 * (x.perSlot * slot + k % x.perSlot) + j % 8)

/-- A word of a unit. -/
def Snap.word (x : Snap) (u i : Nat) : Word :=
  if u = 0 then x.head.getD i 0
  else
    let b := 4096 * (u - 1) + 4 * i
    if 8 * x.perSlot * x.firsts.length ≤ b then blankWord
    else x.byte (b + 3) ++ x.byte (b + 2) ++ x.byte (b + 1) ++ x.byte b

/-- The words of one 4 KiB unit of a partition; bytes never written read 0xFF (R332). -/
def State.mediumUnit (s : State) (part unit : Nat) : List Word :=
  match part with
  | 0 => (List.range 128).flatMap fun j =>
      let i := 128 * unit + j
      match s.pb.book.find? fun r => (if r.area = .main then r.slot else s.pb.mainCap + r.slot) == i with
      | some r => r.words8
      | none => List.replicate 8 blankWord
  | 1 => (List.range 256).flatMap fun j =>
      match s.pb.tombs.find? fun t => t.slot == 256 * unit + j with
      | some t => t.words8.take 4
      | none => List.replicate 4 blankWord
  | 2 =>
      let n := max 1 s.stm.histUnits
      match s.stm.hist.find? fun f => decide ((unit + n - f.unit) % n < f.units) with
      | some f => (List.range 1024).map fun i => f.words.getD (1024 * ((unit + n - f.unit) % n) + i) blankWord
      | none => List.replicate 1024 blankWord
  | 3 =>
      let n := max 1 s.stm.snapUnits
      match s.stm.snaps.find? fun f => decide ((unit + n - f.unit) % n < f.units) with
      | some f => (List.range 1024).map fun i => f.word ((unit + n - f.unit) % n) i
      | none => List.replicate 1024 blankWord
  | _ => s.stm.fmt.words

end Sys2Proof.Machine
end

