-- ==== Sys2Proof/Machine/LaneSample.lean ====
section
/-! DEFINITION. What a lane sample undergoes from its converter words to those of its transmit port
(spec/02_lanes_and_converters.md R14, R46 to R67), and what watches it on the way: the canceller's references, correlations
and streams (spec/03_feedback_cancellation.md), spotlight, and the protection detectors of R144 to R147. -/
namespace Sys2Proof.Machine
open Sys2Proof

/-- Words of the reference line that are kept: more than any tap position reaches. -/
def lineLen : Nat := 4096
/-- Words that are kept for the spotlight banks: more than the longest L_spot. -/
def bankLen : Nat := 32768

/-- The throttle cap of a lane: LIMIT less 64 × k (R411). -/
def State.throttleCap (s : State) (n : Nat) : Option Nat :=
  let k := (s.lane n).throttle
  if 0 < k ∧ s.on THM_CFG_THR_EN 0 ∧ (s.lane n).txEn then some (s.rd LANE_GAIN_LIMIT n - 64 * k) else none

/-- The request of R66: the control engine's output, or the back-off cap where that is lower (R162). -/
def State.gainRequest (s : State) (n : Nat) : Nat :=
  match s.capNow n with
  | some c => min (s.lane n).request (capCode c)
  | none => (s.lane n).request

/-- The gain code that a lane applies now (R17, R66, R162, R411). -/
def State.gainNow (s : State) (n : Nat) : Nat :=
  let g := min (s.gainRequest n) (s.rd LANE_GAIN_LIMIT n)
  match s.throttleCap n with
  | some c => min g c
  | none => g

/-- The throttle step in force on a lane: a change acts at the first boundary 2 µs after its evaluation (R411). -/
def State.throttleStep (s : State) (n : Nat) : State :=
  if s.thm.stepAt + usT 2 ≤ s.now then s.setLane n fun l => { l with throttle := s.rd THM_STAT_STEP 0 } else s

/-- A lane's gain registers at a lane-sample boundary. CNX PG_INT_STAT bit [1] sets as clamping begins. -/
def State.setGain (s : State) (n : Nat) : State :=
  let s := (s.throttleStep n).bringCap n
  let lim := s.rd LANE_GAIN_LIMIT n
  let clamped := decide (lim < s.gainRequest n)
  let was := s.on LANE_GAIN_CLAMPED n
  let s := (s.wr LANE_GAIN_APPLIED n (s.gainNow n)).wr LANE_GAIN_CLAMPED n clamped.toNat
  s.cond (clamped && !was) fun s => s.int pgCNX 1

/-- Words that saturated are counted (R62). -/
def State.countSat (s : State) (n k : Nat) : State :=
  if k = 0 then s
  else
    let was := s.on LANE_STAT_SAT_STICKY n
    let s := (s.satAdd LANE_SAT_CNT n k).wr LANE_STAT_SAT_STICKY n 1
    s.cond (!was) fun s => s.int (pgAt pgLANE n) 1

/-- A word times a linear gain in units of 2^-40. -/
def scaleIq (x : Iq) (g : Nat) : Iq × Nat :=
  let re := roundDiv (x.re * g) (2 ^ 40)
  let im := roundDiv (x.im * g) (2 ^ 40)
  (iqOf re im, (iqSat re im).toNat)

/-! ### Streams (R107, R112) -/

/-- A stream's word of a lane word (R107): 12 + 12 bits, and whether it saturated. -/
def stxWord (shift : Nat) (x : Iq) : BitVec 24 × Bool :=
  let f := fun (v : Int) => roundDiv (v * 2 ^ shift) (2 ^ 6)
  (BitVec.ofInt 12 (satS 12 (f x.re)) ++ BitVec.ofInt 12 (satS 12 (f x.im)), satHit 12 (f x.re) || satHit 12 (f x.im))

/-- The streams that carry a lane send its reference word, with the level of the probe in it and the Curtain state. The
frames are not given a length: each carries one word (log 96). -/
def State.streamOut (s : State) (n k : Nat) (x : Iq) : State :=
  (List.range 8).foldl (fun (s : State) j =>
    let c := (s.stx j).cfg
    if s.on CNX_STX_STAT_ACTIVE j && CNX_STX_CFG_LANE.of c == n then
      let (w, sat) := stxWord (CNX_STX_CFG_SHIFT.of c) x
      let s := s.setStx j fun y => { y with last := some w }
      (s.cond sat fun s => s.satInc CNX_STX_SAT_CNT j).streamSend j [w] k (s.probeLevel n) (s.behind (s.lane n).tx)
    else s) s

/-! ### The oscillation detector (R144, R145) -/

/-- The level that `p` stands over `q`, both in one unit. -/
def dbOver (p q : Nat) : Int := dBpow (max 1 p) (max 1 q)

/-- The growth of the last ten blocks meets GROW, in 1/4 dB (R144). -/
def growing (grow : Nat) (ps : List Nat) : Bool :=
  let q := fun j => sumNat ((ps.drop j).take 4)
  decide (10 ≤ ps.length) && (List.range 3).all fun j => decide ((grow : Int) * 16384 ≤ dbOver (q j) (q (j + 4)))

/-- The echo's share of the last four blocks (R144): the residual's part that is correlated with the lane's own output over
the positions of R82 is no more than RHO dB below it (log 97). -/
def State.echo (s : State) (n rho : Nat) : Bool :=
  let l := s.lane n
  let es := l.osc.resid.take (4 * 2 ^ l.rate)
  let d := roundRat (s.loopDelay n n * laneRate l.rate)
  let refs := (lags l.rate).map fun q => (l.ref.drop (d + q).toNat).take es.length
  let c := (Config.correlated (es.map Iq.bits) (refs.map fun r => r.map Iq.bits)).toNat
  decide (-((rho : Int) * 65536) ≤ dbOver c (sumNat (es.map Iq.pow)))

/-- The strongest bin of a span's transform, where the span meets the line criterion (R145): it stands LINE dB above the
median bin, and the mean power is at least −6 dBFS. -/
def lineBin (line : Nat) (ws : List Iq) : Option Nat :=
  let bs := ws.map Iq.bits
  let ps := (List.range ws.length).map fun b => Config.binPower bs b
  let top := (ps.zipIdx).foldl (fun (a : Nat × Nat) x => if a.1 < x.1 then x else a) (0, 0)
  let med := (ps.mergeSort fun a b => decide (a ≤ b)).getD (ws.length / 2) 0
  if (line : Int) * 65536 ≤ dbOver top.1 med ∧ -6 * 65536 ≤ dbOver (sumNat (ws.map Iq.pow)) (ws.length * 2 ^ 34) then some top.2
  else none

/-- Two bins of a transform of `n` points that are the same or neighbours. -/
def nearBin (n a b : Nat) : Bool := a == b || (a + 1) % n == b || (b + 1) % n == a

/-- PROT_OSC as it stands. -/
def State.protOsc (s : State) : Word := s.rdWord [PROT_OSC_LINE, PROT_OSC_RHO, PROT_OSC_GROW] 0

/-- A word at the reference point enters the detector of a repeating lane: `y`, the word after subtraction; `g`, the gain
applied. The first block and span are the first that the lane runs through in full. -/
def State.oscSample (s : State) (n k : Nat) (r y : Iq) (g : Nat) : State :=
  let l := s.lane n
  let b := 2 ^ l.rate
  let o := l.osc
  let from_ := match l.phase with | .running k0 => k0 | _ => k
  let o := { o with point := (r :: o.point).take lineLen, resid := (y :: o.resid).take 1024,
                    sum := o.sum + r.pow * 2 ^ 176 / max 1 (g * g) }
  if !l.txEn then s.setLane n fun l => { l with osc := { o with sum := 0 } }
  else
    let o' := if (k + 1) % b = 0 then
        { o with sum := 0, blocks := if from_ + b ≤ k + 1 then ((o.sum / b) :: o.blocks).take 10 else o.blocks }
      else o
    let s := s.setLane n fun l => { l with osc := o' }
    let grow := (k + 1) % b == 0 && growing (PROT_OSC_GROW.of o'.cfg) o'.blocks && s.echo n (PROT_OSC_RHO.of o'.cfg)
    let s := s.setLane n fun l =>
      { l with osc := { l.osc with grow := l.osc.grow || grow, cfg := if (k + 1) % b = 0 then s.protOsc else l.osc.cfg } }
    if (k + 1) % (32 * b) ≠ 0 then s
    else
      let bin := if from_ + 32 * b ≤ k + 1 then lineBin (PROT_OSC_LINE.of o'.spanCfg) (o'.point.take (32 * b)) else none
      let hit := match bin, o'.bin with | some i, some j => nearBin (32 * b) i j | _, _ => false
      s.setLane n fun l => { l with osc := { l.osc with bin := bin, line := l.osc.line || hit, spanCfg := s.protOsc } }

/-! ### The transmit port (R56, R146, R147) -/

/-- A word enters the overdrive window of its port (R146): windows of 4,096 words on the count of the port's words. Full
scale is that of a sine. -/
def State.odWord (s : State) (m w : Nat) (v : Int) (sat : Bool) : State :=
  let s := s.setCv (8 + m) fun c =>
    if c.odWin = w / 4096 then c
    else { c with odWin := w / 4096, odClips := 0, odPow := 0, odCfg := (s.rd PROT_OD_OD_CLIPS 0, s.rd PROT_OD_OD_PWR 0) }
  s.setCv (8 + m) fun c =>
    let c := { c with odClips := c.odClips + sat.toNat, odPow := c.odPow + (v * v).toNat }
    if (w + 1) % 4096 ≠ 0 then c
    else { c with odMet := c.odMet || decide (c.odCfg.1 ≤ c.odClips)
                    || decide (-((c.odCfg.2 : Int) * 16384) ≤ dbOver (2 * c.odPow) (4096 * 2 ^ 30)) }

/-- The number of the 10 µs window of the timebase that a word lies in. -/
def State.emWinOf (s : State) (w : Nat) : Nat :=
  let f := synRate s.rfc.synB
  if f = 0 then 0 else ((w : Rat) / (f * 10)).floor.toNat

/-- The bands of a port and their limits, as registers. -/
def State.emBands (s : State) (m : Nat) : List (Word × Word) :=
  (List.range 4).map fun b =>
    (s.rdWord [PROT_EM_BAND_CENTRE, PROT_EM_BAND_WIDTH, PROT_EM_BAND_EN] (4 * m + b), s.rdWord [PROT_EM_LIM_LIMIT] (4 * m + b))

/-- The emission window of a port ends (R147): the power of each enabled band, and whether it exceeds the limit as it did in
the window before. -/
def State.emClose (s : State) (m : Nat) : State :=
  let c := s.cv (8 + m)
  (c.emCfg.zipIdx).foldl (fun (s : State) (x, b) =>
    let bit := BitVec.ofNat 4 (2 ^ b)
    if PROT_EM_BAND_EN.of x.1 = 0 then s.setCv (8 + m) fun c => { c with emHot := c.emHot &&& ~~~bit }
    else
      let lv := dbOver (Config.bandPower (sx 16 (PROT_EM_BAND_CENTRE.of x.1)) (PROT_EM_BAND_WIDTH.of x.1) c.emWords) (2 ^ 40)
      let hot := decide (codeLevel 16 64 (PROT_EM_LIM_LIMIT.of x.2) < lv)
      let met := hot && c.emHot.getLsbD b
      (s.wr PROT_EM_LIM_PWR (4 * m + b) (levelCode 16 64 lv)).setCv (8 + m) fun c =>
        { c with emHot := if hot then c.emHot ||| bit else c.emHot &&& ~~~bit,
                 emMet := if met then c.emMet ||| bit else c.emMet }) s

/-- A word enters the emission window of its port. -/
def State.emWord (s : State) (m w : Nat) (v : Int) : State :=
  let e := s.emWinOf w
  let s := s.setCv (8 + m) fun c =>
    if c.emWin = e then c
    else { c with emWin := e, emWords := [], emCfg := s.emBands m, emHot := if e = c.emWin + 1 then c.emHot else 0 }
  let s := s.setCv (8 + m) fun c => { c with emWords := c.emWords ++ [v] }
  if s.emWinOf (w + 1) = e then s else s.emClose m

/-- A word enters the 1 ms window of CONVTX_PEAK. -/
def State.pkWord (s : State) (m : Nat) (v : Int) : State :=
  s.setCv (8 + m) fun c =>
    let i := s.now / 983040
    if c.pkWin = i then { c with pkMax := max c.pkMax v.natAbs }
    else { c with pkLast := some (c.pkWin, c.pkMax), pkWin := i, pkMax := v.natAbs }

/-- The word of the transmit converter for a sum of the port's lanes (R56): equalised, backed off, rounded and saturated; code
0 where the sequencer or the Curtain holds the DAC. -/
def State.portWord (s : State) (m w : Nat) (sum : Int) : State :=
  let eq := (sum :: (s.cv (8 + m)).eq).take 64
  let s := s.setCv (8 + m) fun c => { c with eq := eq }
  let v := if s.on CONVTX_CFG_SINC_EQ m then Config.sincEq (s.on CONVTX_CFG_MODE m) eq else sum
  let (v, sat) := if s.dacLive m then dacWord (s.rd CONVTX_CFG_BACKOFF m) v else (0, false)
  ((((s.cond sat fun s => s.clipWord m).odWord m w v sat).emWord m w v).pkWord m v)

/-- The words of a port that every one of its lanes has given, and whose instants have come, leave. -/
def State.portDrain (s : State) (m : Nat) : State :=
  let c := s.cv (8 + m)
  let ls := (s.txLanes m).filter fun n => (s.lane n).active
  match ls with
  | [] => s
  | n :: _ =>
    let next := ls.foldl (fun a k => min a (s.lane k).chain.dacNo) (s.lane n).chain.dacNo
    let cnt := min (min (next - c.wordNo) (s.wordsAt s.now + 1 - c.wordNo)) c.sums.length
    let s := ((c.sums.take cnt).zipIdx).foldl (fun (s : State) (v, i) => s.portWord m (c.wordNo + i) v) s
    s.setCv (8 + m) fun d =>
      let rest := c.sums.drop cnt
      { d with sums := rest, wordNo := if rest.isEmpty then max (c.wordNo + cnt) next else c.wordNo + cnt }

/-- The words that a lane gives its port at a lane sample (R47, R67, R56): `x`, its word at the reference point, or its probe
on a probing port. The second member counts the words that saturated. -/
def State.transmit (s : State) (n : Nat) (x : Iq) : State × Nat :=
  let l := s.lane n
  match interp s.rfc.synB l.rate with
  | none => (s, 0)
  | some (mt, kt) =>
    let (pn, pq) := overRate s.rfc.synB l.rate
    let line := (x :: l.chain.rsm).take 18
    let (ys, pos, a) := resample pn (pq * (mt * 2 ^ kt)) l.delay line 4 l.rsmAcc
    let (zs, up, b) := interpolate mt kt l.chain.up ys
    let (ws, acc, c) := upConvert l.txFtw l.txAcc zs
    let d := l.chain.dacNo
    let s := s.portDrain l.tx
    let s := s.setLane n fun l =>
      { l with rsmAcc := pos, txAcc := acc, chain := { l.chain with rsm := line, up := up, dacNo := d + ws.length } }
    let s := s.cond l.txEn fun s => s.setCv (8 + l.tx) fun v =>
      { v with sums := addWords v.sums (d - v.wordNo) (ws.drop (v.wordNo - d)) }
    (s, a + b + c)

/-! ### The sample -/

/-- The word of a lane before its canceller, from its converter words (R46, R50): the second member counts the words that
saturated. -/
def State.receive (s : State) (n : Nat) (ws : List (BitVec 14)) : State × Iq × Nat :=
  let l := s.lane n
  match decim s.rfc.synA l.rate with
  | none => (s, Iq.zero, 0)
  | some (m, k) =>
    let (x, ls, a) := downConvert m k l.rxFtw l.rxAcc l.chain.dec ws
    (s.setLane n fun l => { l with rxAcc := l.rxAcc + l.rxFtw * BitVec.ofNat 48 (m * 2 ^ k), chain := { l.chain with dec := ls } },
     x, a)

/-- The reference word of a lane sample, with the probe in it, enters the lane's lines; the word that reaches its DAC now is
zero in them where the Curtain holds the DAC (R83, R156). -/
def State.pushRef (s : State) (n k : Nat) (r pr : Iq) : State :=
  let l := s.lane n
  let lag := (s.dacDelay n * laneRate l.rate).floor.toNat
  let hide := fun (ws : List Iq) => if s.behind l.tx then ws.set lag Iq.zero else ws
  s.setLane n fun l => { l with ref := hide ((r :: l.ref).take lineLen), probes := hide ((pr :: l.probes).take lineLen), refNo := k }

/-- The loops that measure a lane take its power (R234): `r`, at the reference point; `f`, at the channel filter's output. -/
def State.loopPower (s : State) (n : Nat) (r f : Iq) : State :=
  { s with cte := { s.cte with loops := s.cte.loops.map fun (l, x) =>
      let kind := s.ldF (Region.loops.lo + 64 * l + 8) 28 4
      if x.on && (kind == 1 || kind == 2) && s.ldF (Region.loops.lo + 64 * l + 8) 0 8 == n then
        let (p, q) := match x.powLast with | some (_, v) => (v, 1) | none => (0, 0)
        (l, { x with pow := x.pow + p, powN := x.powN + q, powLast := some (s.now, if kind = 1 then r.pow else f.pow) })
      else (l, x) } }

/-- LANE_SAMPLE: the next lane sample of a lane, from its converter words `ws`, oldest first; `chfEcc` and `rsmEcc`, the
corrected errors of the coefficient memories since the last (R65, R76). A captured lane that is not active gives its flagged
words alone (R345). -/
def State.laneSample (s : State) (n : Nat) (ws : List (BitVec 14)) (chfEcc rsmEcc : Nat) : State :=
  let s := s.toSample (evSAMPLE + n) n 1
  let k := s.sampleNo n
  let live := s.laneLive n
  if !(s.lane n).active then s.capWord n k Iq.zero (!live)
  else
    let s := s.cond (decide (0 < chfEcc)) fun s => s.satAdd CHF_ECC_CNT 0 chfEcc
    let s := s.cond (decide (0 < rsmEcc)) fun s => s.satAdd RSM_ECC_CNT 0 rsmEcc
    let s := s.setGain n
    let (s, xn) := s.receive n ws
    let (x, n1) := xn
    let (y, n2) := s.subtract n k x
    let s := s.setLane n fun l => { l with line := (y :: l.line).take 383, resid := y }
    let l := s.lane n
    let (f, n3) := chfOut l.chf l.line
    let bank := if s.armed n then (f :: l.chain.bank).take bankLen else []
    let s := (s.setLane n fun l => { l with chain := { l.chain with bank := bank } }).sptSample n k bank live l.suspect
    let (b, n4) := if s.gating n then s.sptOut n k bank else (f, 0)
    let g := gainFactor (s.gainNow n)
    let (h, n5) := scaleIq b g
    let pr := s.probeAt n k
    let r := iqOf (h.re + pr.re) (h.im + pr.im)
    let n6 := (iqSat (h.re + pr.re) (h.im + pr.im)).toNat
    let out := if s.performing then r else pr
    let s := (s.pushRef n k out pr).oscSample n k r y g
    let s := ((s.probeSample n k x y).searchSample n k x y).estSample n k
    let s := s.cond live fun s => (s.outPower n r).loopPower n r f
    let s := s.cond l.txEn fun s => s.streamOut n k r
    let (s, n7) := s.transmit n (if s.delivers n k then out else Iq.zero)
    let s := (s.countSat n (n1 + n2 + n3 + n4 + n5 + n6 + n7)).syncTo n (k + 1)
    let point := s.rd STM_CAP_CFG_POINT 0
    s.capWord n k (if point = 0 then x else if point = 1 then y else r) (!live)

end Sys2Proof.Machine
end

