-- ==== Sys2Proof/Machine/Cte.lean ====
section
/-! DEFINITION. The control engine (spec/08_control_engine.md R227 to R253): loops, their inputs and outputs, transfers,
the Cue, position tables, injection and capture. -/
namespace Sys2Proof.Machine
open Sys2Proof

/-! ### Descriptors, sections and tables -/

/-- Word `i` of a loop's descriptor. -/
def lpOff (l i : Nat) : Nat := 0x40 * l + 4 * i
def lpAddr (l i : Nat) : Nat := Region.loops.lo + lpOff l i
def State.lpW (s : State) (l i : Nat) : Word := s.ld (lpAddr l i)
def State.setLpW (s : State) (l i : Nat) (v : Word) : State := s.stIn .loops (lpOff l i) v
def State.lpF (s : State) (l i lo w : Nat) : Nat := s.ldF (lpAddr l i) lo w
def State.setLpF (s : State) (l i lo w v : Nat) : State := s.stF .loops (lpOff l i) lo w v

def wCFG : Nat := 0
def wPERIOD : Nat := 1
def wIN : Nat := 2
def wOUT : Nat := 3
def wSETPT : Nat := 4
def wMIN : Nat := 5
def wMAX : Nat := 6
def wSLEW : Nat := 7
def wMANUAL : Nat := 8
def wBOUND : Nat := 9
def wFF : Nat := 10
def wOUTPUT : Nat := 11
def wINPUT : Nat := 12
def wCODE : Nat := 13
def wSTAT : Nat := 14
def wSAMPLE : Nat := 15

def State.loop (s : State) (l : Nat) : LoopSt := s.cte.loops.get {} l
def State.setLoop (s : State) (l : Nat) (f : LoopSt → LoopSt) : State :=
  { s with cte := { s.cte with loops := s.cte.loops.set l (f (s.loop l)) } }
def State.sect (s : State) (k : Nat) : Section := s.cte.sections.get {} k
def State.setSect (s : State) (k : Nat) (x : Section) : State :=
  { s with cte := { s.cte with sections := s.cte.sections.set k x } }
def State.setCte (s : State) (f : CteSt → CteSt) : State := { s with cte := f s.cte }

def State.lpBase (s : State) (l : Nat) : Nat := s.lpF l wCFG 0 11
def State.lpCount (s : State) (l : Nat) : Nat := s.lpF l wCFG 16 3 + 1
def State.lpBank (s : State) (l : Nat) : Bool := s.lpF l wCFG 29 1 == 1
def State.lpPeriod (s : State) (l : Nat) : Nat := s.lpF l wPERIOD 0 30
def State.lpSects (s : State) (l : Nat) : List Nat := (List.range (s.lpCount l)).map (s.lpBase l + ·)
def State.inKind (s : State) (l : Nat) : Nat := s.lpF l wIN 28 4
def State.inIndex (s : State) (l : Nat) : Nat := s.lpF l wIN 0 8
def State.outKind (s : State) (l : Nat) : Nat := s.lpF l wOUT 28 4
def State.outIndex (s : State) (l : Nat) : Nat := s.lpF l wOUT 0 8
def State.outScale (s : State) (l : Nat) : Nat := s.lpF l wOUT 24 4
def State.outPos (s : State) (l : Nat) : Nat := s.lpF l wOUT 16 7
def State.outWidth (s : State) (l : Nat) : Nat := s.lpF l wOUT 8 4
/-- A status bit of LP_STAT. -/
def State.lpBit (s : State) (l b : Nat) : Bool := s.lpF l wSTAT b 1 == 1
def State.setLpBit (s : State) (l b : Nat) (v : Bool) : State := s.setLpF l wSTAT b 1 v.toNat

/-- The enabled loops. -/
def State.loopsOn (s : State) : List Nat := (s.cte.loops.filter fun x => x.2.on).map (·.1)
/-- An ignored write. -/
def State.cteIgnore (s : State) : State := s.satInc CTE_IGNWR_CNT 0
/-- The CLAMP class: the target's, or LP_CFG.CLASS for KIND 0 (Table 8-4). -/
def State.satClass (s : State) (l : Nat) (cls : Bool) : Bool :=
  match s.outKind l with | 0 => cls | 1 => false | 2 => false | _ => true
/-- The loop has an integrator (R232). -/
def State.hasInteg (s : State) (l : Nat) : Bool := (s.sect (s.lpBase l + s.lpCount l - 1)).integ
/-- The bank of the last section is fit for a CLAMP loop (R236). -/
def State.clampBank (s : State) (l : Nat) (b : Bool) : Bool :=
  s.hasInteg l && ((s.sect (s.lpBase l + s.lpCount l - 1)).bank b).clampOk
/-- The enabled loop that owns a section. -/
def State.sectOwner (s : State) (k : Nat) : Option Nat :=
  s.loopsOn.find? fun l => decide (s.lpBase l ≤ k) && decide (k < s.lpBase l + s.lpCount l)
/-- The enabled loop that owns a target. -/
def State.targetOwner (s : State) (kind idx : Nat) : Option Nat :=
  s.loopsOn.find? fun l => s.outKind l == kind && (kind == 5 || s.outIndex l == idx)

/-- CTE_LOAD follows the enabled loops (R229). -/
def State.cteLoad (s : State) : Rat := s.loopsOn.foldl (fun a l => a + (s.lpCount l * tps : Nat) / (s.lpPeriod l : Rat)) 0
def State.setCteLoad (s : State) : State := s.wr CTE_LOAD 0 (min 0x7FFF (s.cteLoad / 1000).ceil.toNat)

/-! ### Position tables (R240, R241) -/

/-- The entry of a position table at a code of `w` bits. -/
def State.tableAt (s : State) (t w p : Nat) : Rat :=
  let e := fun i => wordVal (s.ld (0x410000 + 0x400 * t + 4 * i))
  if w ≤ 8 then e p
  else
    let i := p / 2 ^ (w - 8)
    let f := p % 2 ^ (w - 8)
    if 255 ≤ i then e 255 else e i + (e (i + 1) - e i) * (f : Rat) / (2 ^ (w - 8) : Nat)

/-- The greatest code of a loop's target and its bits (Table 8-4). -/
def State.codeTop (s : State) (l : Nat) : Nat :=
  match s.outKind l with
  | 1 => 4095 | 2 => 2 ^ s.outWidth l - 1 | 3 => 4095 | 4 => s.rd PWM_PER (s.outIndex l) | 5 => 800 | _ => 0
def State.codeBits (s : State) (l : Nat) : Nat :=
  match s.outKind l with | 2 => s.outWidth l | 4 => 16 | _ => 12

/-- u as a code before rounding, and the u that converts exactly to a code (Table 8-4). -/
def State.toCode (s : State) (l : Nat) (u : Rat) : Rat :=
  match s.outKind l with
  | 1 => (u + 48) * 64 | 2 => u * (2 ^ s.outScale l : Nat) | 4 => u * (s.rd PWM_PER (s.outIndex l) : Rat) | 0 => 0 | _ => u
def State.nominal (s : State) (l p : Nat) : Rat :=
  match s.outKind l with
  | 2 => (p : Rat) / (2 ^ s.outScale l : Nat) | 4 => (p : Rat) / (max 1 (s.rd PWM_PER (s.outIndex l)) : Nat) | _ => p

/-- The least code of a target: the core supply is held to 600 mV and above. -/
def State.codeLow (s : State) (l : Nat) : Nat := if s.outKind l = 5 then 600 else 0

/-- The code of u, and whether it saturated (R235, R240). -/
def State.codeOf (s : State) (l : Nat) (u : Rat) : Nat × Bool :=
  let c := roundRat (s.toCode l u)
  let lo := s.codeLow l
  let hi := s.codeTop l
  let p0 := (max (lo : Int) (min c hi)).toNat
  let sat := decide ((p0 : Int) ≠ c)
  if s.lpF l wFF 31 1 = 0 then (p0, sat)
  else
    let t := s.lpF l wFF 24 4
    let err := fun p => ratAbs (s.nominal l p + s.tableAt t (s.codeBits l) p - u)
    let cand := ([p0 - 1, p0, p0 + 1].eraseDups).filter fun p => decide (lo ≤ p) && decide (p ≤ hi)
    let best := cand.foldl (fun b p =>
      if err p < err b ∨ (err p = err b ∧ p % 2 = 0 ∧ b % 2 = 1) then p else b) p0
    (best, sat)

/-! ### Inputs (Table 8-3) -/

/-- A housekeeping result in the units of Table 15-1. -/
def hkUnits (c : Nat) (v : BitVec 16) : Rat :=
  if c < 24 then (v.toNat : Rat) * 12 / (10 * 65536) else if c < 28 then (v.toInt : Rat) / 128 else (v.toNat : Rat) * 5 / 100000

/-- The output of a loop last sent at or before now: one that falls due now counts as sent. -/
def State.loopOut (s : State) (l : Nat) : Option Rat :=
  let x := s.loop l
  if !x.on then none
  else match x.out with
    | some (u, _) => if x.t0 + x.n * s.lpPeriod l ≤ s.now then some u.val else some (wordVal (s.lpW l wOUTPUT))
    | none => some (wordVal (s.lpW l wOUTPUT))

/-- A loop's sums of its lane's power with the newest sample, where that lies before now (R234). -/
def State.loopSums (s : State) (l : Nat) : Nat × Nat :=
  let x := s.loop l
  match x.powLast with
  | some (t, v) => if t < s.now then (x.pow + v, x.powN + 1) else (x.pow, x.powN)
  | none => (x.pow, x.powN)

/-- The mean power that a loop's lane measured over the interval, in dBFS of the lane word, −180 for zero power; none where it
held no active sample (R234). -/
def State.loopMean (s : State) (l : Nat) : Option Rat :=
  let (p, n) := s.loopSums l
  if n = 0 then none else if p = 0 then some (-180) else some ((dBpow p (n * 2 ^ 34) : Rat) / 65536)

/-- The interval of a loop's power measurement ends: a sample at this instant belongs to the next one. -/
def State.loopPowEnd (s : State) (l : Nat) : State :=
  s.setLoop l fun x =>
    { x with pow := 0, powN := 0, powLast := match x.powLast with | some (t, v) => if t < s.now then none else some (t, v) | none => none }

/-- The input of a sample (Table 8-3). -/
def State.loopIn (s : State) (l : Nat) : Option Rat :=
  let i := s.inIndex l
  match s.inKind l with
  | 0 => some 0
  | 1 => if (s.lane i).on then s.loopMean l else none
  | 2 => if (s.lane i).on then s.loopMean l else none
  | 3 => ((s.hk.chans.get {} i).usable).map (hkUnits i)
  | 4 => some ((s.rd FAB_STAT_LOW_SLACK 0 : Rat) / 16)
  | 5 => s.loopOut i
  | 6 => some (wordVal (BitVec.ofNat 32 (s.rd CTE_HOSTIN i)))
  | _ =>
    let e := pollIx (i / 16) (i % 16)
    if s.on TWC_POLL_RES_VALID e then
      let v : Int := if s.on TWC_POLL_A_SIGNED e then sx 16 (s.rd TWC_POLL_RES_RAW e) else s.rd TWC_POLL_RES_RAW e
      some ((v : Rat) / (2 ^ s.rd TWC_POLL_A_SHIFT e : Nat))
    else none

/-! ### Outputs (Table 8-4) -/

/-- A bias DAC takes a target code: at once where STEP is 0 (R417). -/
def State.bdacTarget (s : State) (k : Nat) : Nat := if s.thm.shut && !s.thm.restart then s.rd BDAC_CFG_SAFE k else s.rd BDAC_CODE_CODE k
def State.bdacMove (s : State) (k : Nat) : State :=
  if s.rd BDAC_CFG_STEP k = 0 then s.wr BDAC_CODE_OUT k (s.bdacTarget k) else s

def State.pwmChan (s : State) (k : Nat) : PwmChan := s.pwm.chans.get {} k
def State.setPwm (s : State) (k : Nat) (f : PwmChan → PwmChan) : State :=
  { s with pwm := { s.pwm with chans := s.pwm.chans.set k (f (s.pwmChan k)) } }

/-- The owner's duty code for the PER written: it is in force at the next period start (R416). -/
def State.dutyCode (s : State) (k : Nat) (u : Bfp) : Nat :=
  let per := s.rd PWM_PER k
  (max 0 (min (per : Int) (roundRat (u.val * (per : Rat))))).toNat

/-- Bits of a bus's data words set from `pos` (R218). -/
def State.setFrame (s : State) (x pos w v : Nat) : State :=
  (List.range w).foldl (fun s b => s.putBit ATTN_DATA (16 * x + (pos + b) / 32) ((pos + b) % 32) (v.testBit b)) s

/-- The loops whose field of an attenuator bus falls due now. -/
def State.attnDue (s : State) (x : Nat) : List (Nat × Nat) :=
  s.loopsOn.filterMap fun l =>
    let y := s.loop l
    match y.out with
    | some (_, c) => if s.outKind l = 2 ∧ s.outIndex l = x ∧ y.t0 + y.n * s.lpPeriod l = s.now then some (l, c) else none
    | none => none

/-- Every field of a bus that falls due now is written, and one frame is sent where any changed (Table 8-4, KIND 2). -/
def State.attnFields (s : State) (x : Nat) : State :=
  let was := s.attnWord x
  let s := (s.attnDue x).foldl (fun (s : State) e => s.setFrame x (s.outPos e.1) (s.outWidth e.1) e.2) s
  if s.attnWord x = was then s else s.attnSend x

/-- A code is sent to the loop's target. -/
def State.deliverCode (s : State) (l : Nat) (u : Bfp) (c : Nat) : State :=
  let i := s.outIndex l
  match s.outKind l with
  | 1 => if (s.lane i).on then s.setLane i fun x => { x with request := c } else s
  | 2 => s.attnFields i
  | 3 => (s.wr BDAC_CODE_CODE i c).bdacMove i
  | 4 => s.setPwm i fun x => { x with loopDuty := some u }
  | 5 => if c = s.lpF l wCODE 0 16 then s else s.coreRequest c srcLOOP
  | _ => s

/-- The output evaluated is sent: LP_OUTPUT and LP_CODE follow it. -/
def State.loopSend (s : State) (l : Nat) : State :=
  match (s.loop l).out with
  | none => s
  | some (u, c) =>
    let s := (s.deliverCode l u c).setLpW l wOUTPUT u.word
    s.setLpF l wCODE 0 16 c

/-! ### Injection and capture (R247, R248) -/

def cteCapBase : Nat := Region.loopCap.lo
def State.injLoop (s : State) : Nat := s.rd CTE_INJ_CFG_LOOP 0
def State.setInj (s : State) (f : InjSt → InjSt) : State := s.setCte fun c => { c with inj := f c.inj }
def State.setCap (s : State) (f : CapSt → CapSt) : State := s.setCte fun c => { c with cap := f c.cap }

/-- An injection ends. -/
def State.injEnd (s : State) : State :=
  if s.cte.inj.run then ((s.setInj fun _ => {}).wr CTE_CAP_STAT_INJ_ACTIVE 0 0).int pgCTE 6 else s

/-- The injector at a boundary of its loop: a GO starts, a STOP ends. -/
def State.injBoundary (s : State) (l : Nat) : State :=
  if l ≠ s.injLoop then s
  else
    let s := s.cond (s.cte.inj.run && s.cte.inj.pendStop) State.injEnd
    if s.cte.inj.pendGo && !s.cte.inj.run then
      let s := s.setInj fun _ => { run := true, prbs := BitVec.allOnes 15 }
      (s.wr CTE_CAP_STAT_INJ_ACTIVE 0 1).setCap fun c => { c with pendTrig := c.pendTrig || c.armed }
    else s

/-- The value injected at the sample. -/
def State.injValue (s : State) (l point : Nat) : Rat :=
  let j := s.cte.inj
  if j.run && l == s.injLoop && s.rd CTE_INJ_CFG_POINT 0 == point then
    let a := wordVal (BitVec.ofNat 32 (s.rd CTE_INJ_AMP 0))
    match s.rd CTE_INJ_CFG_SHAPE 0 with
    | 0 => a
    | 1 => a * ((sinTurn j.phase (2 ^ 17 * max 1 (s.rd CTE_INJ_LEN 0)) : Int) : Rat) / (2 ^ 80 : Nat)
    | _ => if j.prbs.getLsbD 14 == Config.prbsPositive then a else -a
  else 0

/-- The injector goes on to its next sample; after sample LEN - 1 it ends. -/
def State.injNext (s : State) (l : Nat) : State :=
  let j := s.cte.inj
  if j.run && l == s.injLoop then
    let len := s.rd CTE_INJ_LEN 0
    let f0 : Int := s.rd CTE_INJ_FREQ_F0 0
    let f1 : Int := s.rd CTE_INJ_FREQ_F1 0
    if len ≤ j.k + 1 then s.injEnd
    else s.setInj fun j =>
      { j with k := j.k + 1, phase := j.phase + f0 * len + (f1 - f0) * j.k,
               prbs := (j.prbs <<< 1) ||| (if j.prbs.getLsbD 14 != j.prbs.getLsbD 13 then 1 else 0) }
  else s

/-- The capture at a sample of its loop: x, none without data, and u. -/
def State.capSample (s : State) (l : Nat) (x : Option Rat) (u : Bfp) : State :=
  let c := s.cte.cap
  if !c.armed || l ≠ s.injLoop then s
  else
    let trig := c.pendTrig && !s.on CTE_CAP_STAT_TRIGGERED 0
    let s := (s.cond trig fun s => s.wr CTE_CAP_STAT_TRIGGERED 0 1).setCap fun c =>
      { c with pendTrig := false, trigWait := c.trigWait || trig }
    let d := s.cte.cap.dec
    let s := s.setCap fun c => { c with dec := (d + 1) % 2 ^ s.rd CTE_CAP_CFG_DECIM 0 }
    if d ≠ 0 then s
    else
      let i := s.cte.cap.idx
      let s := (s.stIn .loopCap (8 * i) (match x with | some v => (bfpOf v).word | none => 0x00800000#32)).stIn .loopCap
        (8 * i + 4) u.word
      let s := s.setCap fun c => { c with idx := (i + 1) % 65536 }
      let s := if s.cte.cap.trigWait then
          (s.wr CTE_CAP_STAT_TRIG_IDX 0 i).setCap fun c =>
            { c with trigWait := false, left := some (65536 - s.rd CTE_CAP_CFG_PRE 0) }
        else s.setCap fun c => { c with left := c.left.map (· - 1) }
      if s.cte.cap.left = some 0 then
        ((s.setCap fun c => { c with armed := false, left := none }).wr CTE_CAP_STAT_DONE 0 1).int pgCTE 7
      else s

/-- A write of CTE_CAP_CFG: setting EN arms afresh (R248). -/
def State.writeCteCap (s : State) (v : Word) : State :=
  let was := s.on CTE_CAP_CFG_EN 0
  let s := s.wrWord [CTE_CAP_CFG_EN, CTE_CAP_CFG_DECIM, CTE_CAP_CFG_PRE] 0 v
  if v.getLsbD 31 then
    if was then s
    else ((s.wr CTE_CAP_STAT_DONE 0 0).wr CTE_CAP_STAT_TRIGGERED 0 0).setCap fun _ => { armed := true }
  else s.setCap fun c => { c with armed := false }

/-- A write of CTE_INJ_CTL: GO, STOP and TRIG. -/
def State.writeInjCtl (s : State) (v : Word) : State :=
  let s := s.cond (v.getLsbD 31 && !s.cte.inj.run) fun s => s.setInj fun j => { j with pendGo := true }
  let s := s.cond (v.getLsbD 30) fun s => s.setInj fun j => { j with pendGo := false, pendStop := j.run }
  s.cond (v.getLsbD 29 && s.cte.cap.armed) fun s => s.setCap fun c => { c with pendTrig := true }

def State.writeInjCfg (s : State) (v : Word) : State :=
  if CTE_INJ_CFG_SHAPE.of v = 3 then s.refuse pgCTE
  else s.wrWord [CTE_INJ_CFG_SHAPE, CTE_INJ_CFG_POINT, CTE_INJ_CFG_LOOP] 0 v
def State.writeInjLen (s : State) (v : Word) : State :=
  if CTE_INJ_LEN.of v = 0 then s.refuse pgCTE else s.wr CTE_INJ_LEN 0 (CTE_INJ_LEN.of v)

/-! ### Evaluation (R233) -/

/-- A saturation flag of the output sets (R235, R237). -/
def State.outSat (s : State) (l : Nat) : State :=
  s.cond (!s.lpBit l 4) fun s => (s.setLpBit l 4 true).int pgCTE 4

/-- A section takes its evaluated form; the first setting of its SAT is reported (R237). -/
def State.putSect (s : State) (k : Nat) (x : Section) : State :=
  let was := (s.sect k).sat
  (s.setSect k x).cond (x.sat && !was) fun s => s.int pgCTE 4

/-- The sections before the integrator. -/
def State.runFront (s : State) (l : Nat) (ks : List Nat) (v : Rat) : Rat × State :=
  let b := s.lpBank l
  ks.foldl (fun (a : Rat × State) k =>
    let (y, x) := (a.2.sect k).step b a.1
    (y, a.2.putSect k x)) (v, s)

/-- The output in manual mode (R243). -/
def toward (a b step : Rat) : Rat := if step = 0 then b else if a < b then min b (a + step) else max b (a - step)

/-- A transfer is completed, and a disagreement is flagged (R244). -/
def State.transferred (s : State) (l : Nat) (d : Rat) : State :=
  let s := s.cond (decide (wordVal (s.lpW l wBOUND) < d)) fun s => (s.setLpBit l 5 true).int pgCTE 3
  s.int pgCTE 2

/-- The mode in force follows LP_CFG.AUTO at a boundary (R242, R243). The second part tells that the loop entered automatic
mode. -/
def State.modeAt (s : State) (l : Nat) : State × Bool :=
  let auto := s.lpF l wCFG 30 1 == 1
  let now := s.lpBit l 1
  if auto && !now then
    ((((s.setLpBit l 1 true).setLpBit l 2 false).setLpBit l 8 false).setLoop l fun x =>
      { x with firstAuto := s.hasInteg l }, true)
  else if !auto && now then
    let u := (s.loop l).uLast
    let s := s.setLpBit l 1 false
    let s := s.cond (!s.lpBit l 2) fun s => s.setLpW l wMANUAL u.word
    (s.transferred l (ratAbs (wordVal (s.lpW l wMANUAL) - u.val)), false)
  else (s, false)

/-- The hold of a loop on a lane's gain: the gain applied now is below the code last sent (R236). -/
def State.holdAt (s : State) (l : Nat) : State :=
  if s.outKind l ≠ 1 then s
  else
    let n := s.outIndex l
    let held := (s.lane n).on && decide (s.gainNow n < s.lpF l wCODE 0 16)
    let was := s.lpBit l 3
    (s.setLpBit l 3 held).cond (held && !was) fun s => s.int pgCTE 5

/-- The integrator of an automatic sample (R236, R237, R242). -/
def State.runInteg (s : State) (l : Nat) (v : Rat) : Rat × State :=
  let k := s.lpBase l + s.lpCount l - 1
  let b := s.lpBank l
  let x := s.loop l
  let s := if x.firstAuto then
      let y := s.sect k
      let bk := y.bank b
      (s.setSect k (y.store (x.uLast.val - bk.coef bk.b0 * v) y.v2)).setLoop l fun x =>
        { x with firstAuto := false, yPrev := x.uLast }
    else s
  let y := s.sect k
  if s.satClass l (s.lpF l wCFG 25 1 == 1) then
    let (u, y) := y.step b v
    (u, s.putSect k y)
  else
    let held := if s.lpBit l 3 then some (s.loop l).yPrev.val else none
    let (u, y) := y.clampStep b v (wordVal (s.lpW l wMIN)) (wordVal (s.lpW l wMAX)) held
    (u, (s.putSect k y).setLoop l fun x => { x with yPrev := bfpOf u })

/-- The code of a sample's u, by R240 and R241. -/
def State.sampleCode (s : State) (l : Nat) (u : Bfp) : Nat × State :=
  if s.lpF l wFF 23 1 = 0 then
    let (c, sat) := s.codeOf l u.val
    (c, s.cond sat fun s => s.outSat l)
  else
    let p := (s.loop l).uPrev.val
    let dir := if p < u.val then 1 else if u.val < p then 0 else s.lpF l wCODE 16 1
    let s := s.setLpF l wCODE 16 1 dir
    let h := s.tableAt (s.lpF l wFF 16 4) (s.codeBits l) (s.lpF l wCODE 0 16)
    let (c, sat) := s.codeOf l (if dir = 1 then u.val + h else u.val - h)
    (c, s.cond sat fun s => s.outSat l)

/-- One sample is evaluated (R233). -/
def State.loopEval (s : State) (l : Nat) : State :=
  let (s, entered) := s.modeAt l
  let s := s.holdAt l
  let x := s.loopIn l
  let last := (s.loop l).uLast.val
  let r := wordVal (s.lpW l wSETPT) + s.injValue l 0
  let ks := s.lpSects l
  let front := if s.hasInteg l then ks.dropLast else ks
  let (v, s) := match x with
    | some xv =>
      let s := s.setLpW l wINPUT (bfpOf xv).word
      s.runFront l front (if s.lpF l wCFG 26 1 = 0 then r - xv else xv - r)
    | none => (0, s)
  let (u, s) :=
    if !s.lpBit l 1 then
      (toward last (wordVal (s.lpW l wMANUAL)) (ratAbs (wordVal (s.lpW l wSLEW)) * (s.lpPeriod l : Rat) / (tps : Rat)), s)
    else match x with
      | none => (last, s.setLpBit l 7 true)
      | some _ => if s.hasInteg l then s.runInteg l v else (v, s)
  let u := u + s.injValue l 1
  let lim := min (max u (wordVal (s.lpW l wMIN))) (wordVal (s.lpW l wMAX))
  let s := s.cond (decide (lim ≠ u)) fun s => s.outSat l
  let ub := bfpOf lim
  let s := s.cond entered fun s => s.transferred l (ratAbs (ub.val - last))
  let (c, s) := s.sampleCode l ub
  let s := (s.capSample l x ub).injNext l
  let s := s.setLoop l fun y => { y with uLast := ub, uPrev := ub, out := some (ub, c) }
  s.setLpW l wSAMPLE (s.lpW l wSAMPLE + 1)

/-- A loop stops: its target keeps the last value sent (R246). -/
def State.loopHalt (s : State) (l : Nat) : State :=
  let s := s.cond (l == s.injLoop) fun s => (s.injEnd).setInj fun _ => {}
  let i := s.outIndex l
  let s := match s.outKind l with
    | 3 => s.wr BDAC_CFG_OWNED i 0
    | 4 =>
      let s := match (s.pwmChan i).loopDuty with
        | some u => s.wr PWM_DUTY i (s.dutyCode i u)
        | none => s
      (s.wr PWM_CFG_OWNED i 0).setPwm i fun x => { x with loopDuty := none }
    | _ => s
  let s := s.setLpF l wCFG 25 1 (s.loop l).cls.toNat
  let s := (s.setLpBit l 0 false).setLpBit l 3 false
  (s.setLoop l fun _ => {}).setCteLoad

/-- The bank of a cued loop swaps (R239). -/
def State.cueSwap (s : State) (l : Nat) : State :=
  let s := s.setLpF l wCFG 29 1 (1 - s.lpF l wCFG 29 1)
  (s.setLpF l wCFG 27 1 0).int pgCTE 1

/-- A loop follows the migrations of its lanes (R271). -/
def State.loopFollow (s : State) (l : Nat) : State :=
  let s := (s.loop l).moved.foldl (fun (s : State) m =>
    let s := s.cond ((s.inKind l == 1 || s.inKind l == 2) && s.inIndex l == m.1) fun s => s.setLpF l wIN 0 8 m.2
    s.cond (s.outKind l == 1 && s.outIndex l == m.1) fun s => s.setLpF l wOUT 0 8 m.2) s
  s.setLoop l fun x => { x with moved := [] }

/-- The lane that an overrun or a memory error of a loop concerns (Table 8-9). -/
def State.loopPorts (s : State) (l : Nat) : Ports :=
  if s.outKind l = 1 then portBit (s.lane (s.outIndex l)).tx else allPorts

/-- LOOP_SAMPLE_BOUNDARY: the next boundary of a loop. `inTime`: the sample that starts here will be complete at its deadline
(R228, R229); `ecc`: corrected errors of the engine's memories since the last (CTE_ECC_CNT). -/
def State.loopBoundary (s : State) (l : Nat) (inTime : Bool) (ecc : Nat) : State :=
  let s := s.cond (decide (0 < ecc)) fun s => s.satAdd CTE_ECC_CNT 0 ecc
  let x := s.loop l
  if !x.on || (s.thm.shut && s.thm.restart == false) then s
  else
    let s := s.reach (x.t0 + x.n * s.lpPeriod l)
    let s := s.loopFollow l
    let s := s.cond x.missed fun s => ((s.satInc CTE_OVR_CNT 0).setLpBit l 6 true).raise pgCTE 2 allPorts
    let s := (s.loopSend l).setLoop l fun x => { x with missed := false, n := x.n + 1 }
    let s := s.cond (s.lpF l wCFG 27 1 == 1 && decide ((s.loop l).cueAt < s.now)) fun s => s.cueSwap l
    if x.stopping then s.loopHalt l
    else
      let s := s.injBoundary l
      (if inTime then s.loopEval l else s.setLoop l fun x => { x with missed := true }).loopPowEnd l

/-! ### Enable, Cue and writes (R238, R239, R245, R246) -/

/-- The checks of Table 8-5, in order: the first code that fails. -/
def State.loopErr (s : State) (l : Nat) : Option Nat :=
  let others := s.loopsOn.filter (· != l)
  let base := s.lpBase l
  let cnt := s.lpCount l
  let per := s.lpPeriod l
  let ik := s.inKind l
  let ii := s.inIndex l
  let ok := s.outKind l
  let oi := s.outIndex l
  let pos := s.outPos l
  let w := s.outWidth l
  let ff := s.lpF l wFF 31 1 = 1 ∨ s.lpF l wFF 23 1 = 1
  let clash := fun (o : Nat) => s.outKind o == ok && ok != 0 &&
    (if ok = 2 then s.outIndex o == oi && decide (s.outPos o < pos + w) && decide (pos < s.outPos o + s.outWidth o)
     else ok == 5 || s.outIndex o == oi)
  if 2048 < base + cnt then some 1
  else if others.any fun o => decide (s.lpBase o < base + cnt) && decide (base < s.lpBase o + s.lpCount o) then some 2
  else if per < 9831 ∨ 983040000 < per then some 3
  else if 7 < ik ∨ ((ik = 1 ∨ ik = 2 ∨ ik = 3 ∨ ik = 7) ∧ 31 < ii) ∨ (ik = 5 ∧ ii = l) ∨ (ik = 6 ∧ 15 < ii) then some 4
  else if 5 < ok ∨ (ok = 1 ∧ 31 < oi) ∨ (ok = 3 ∧ 7 < oi) ∨ (ok = 4 ∧ 5 < oi) ∨ (ok = 2 ∧ (1 < oi ∨ w < 1 ∨ 8 < w ∨
      3 < s.outScale l ∨ s.rd ATTN_CFG_LEN oi < pos + w ∨ s.on ATTN_CFG_OWNER oi = false)) ∨ others.any clash = true then
    some 5
  else if ((s.lpSects l).dropLast.any fun k => (s.sect k).integ) = true
      ∨ (s.satClass l (s.lpF l wCFG 25 1 == 1) = false ∧ s.clampBank l (s.lpBank l) = false) then some 6
  else if wordVal (s.lpW l wMAX) < wordVal (s.lpW l wMIN) then some 7
  else if ff ∧ (ok < 2 ∨ 4 < ok) then some 8
  else if 16000000 < others.foldl (fun a o => a + (s.lpCount o * tps : Nat) / (s.lpPeriod o : Rat)) 0
      + (cnt * tps : Nat) / (per : Rat) then some 9
  else none

/-- The enabling write of a loop (R246). -/
def State.loopEnable (s : State) (l : Nat) : State :=
  match s.loopErr l with
  | some e => (((s.setLpF l wSTAT 28 4 e).setLpF l wCFG 31 1 0).refuse pgCTE).int pgCTE 0
  | none =>
    let per := s.lpPeriod l
    let cls := s.lpF l wCFG 25 1 == 1
    let u := wordBfp (if s.lpF l wCFG 30 1 = 1 then s.lpW l wMANUAL else s.lpW l wOUTPUT)
    let s := s.setLoop l fun _ =>
      { on := true, t0 := (s.now + usT 1 + per - 1) / per * per, uLast := u, uPrev := u, cls := cls }
    let s := s.setLpF l wCFG 25 1 (s.satClass l cls).toNat
    let s := ((s.setLpF l wCODE 16 1 1).setLpF l wSTAT 28 4 0).setLpW l wSAMPLE 0
    let s := (s.setLpBit l 0 true).setLpBit l 1 false
    let i := s.outIndex l
    let s := match s.outKind l with
      | 3 => s.wr BDAC_CFG_OWNED i 1
      | 4 => s.wr PWM_CFG_OWNED i 1
      | _ => s
    s.setCteLoad.int pgCTE 0

/-- A Cue of a loop (R239). -/
def State.cue (s : State) (l : Nat) : State :=
  if s.lpF l wCFG 27 1 = 1 then s.cteIgnore
  else if !s.satClass l (s.lpF l wCFG 25 1 == 1) && !s.clampBank l (!s.lpBank l) then
    (s.setLpF l wSTAT 28 4 10).refuse pgCTE
  else
    let s := s.setLpF l wSTAT 28 4 0
    if (s.loop l).on then (s.setLpF l wCFG 27 1 1).setLoop l fun x => { x with cueAt := s.now } else s.cueSwap l

/-- CUE_GROUP, a write of CTE_CUE_GRP. -/
def State.cueGroup (s : State) (v : Word) : State :=
  (List.range 256).foldl (fun s l => if v.getLsbD (s.lpF l wCFG 20 4) then s.cue l else s) s

/-- The writable bits of a descriptor word (Table 8-12). -/
def lpMask (i : Nat) : Nat :=
  match i with
  | 0 => 0xC6F707FF | 1 => 0x3FFFFFFF | 2 => 0xF00000FF | 3 => 0xFF7F0FFF | 10 => 0x8F8F0000
  | 11 => 0 | 12 => 0 | 13 => 0 | 14 => 0 | 15 => 0 | _ => 0xFFFFFFFF

/-- Old bits outside a mask, new bits inside it. -/
def maskWord (m : Nat) (old new : Word) : Word :=
  (old &&& ~~~(BitVec.ofNat 32 m)) ||| (new &&& BitVec.ofNat 32 m)

/-- A write of LP_CFG. -/
def State.writeLpCfg (s : State) (l : Nat) (v : Word) : State :=
  let old := s.lpW l wCFG
  let x := s.loop l
  let live := x.on && !x.stopping
  let en := v.getLsbD 31
  let s := if live then
      let diff := (v ^^^ old) &&& 0x06F707FF#32 ≠ 0
      let s := s.cond (decide diff) State.cteIgnore
      s.setLpW l wCFG (maskWord 0xC0000000 old v)
    else s.setLpW l wCFG (maskWord (lpMask 0) old v)
  let s := s.cond (v.getLsbD 30) fun s => s.setLpBit l 8 false
  let s := s.cond (v.getLsbD 28) fun s => s.cue l
  if en && !live then
    let s := s.cond x.on fun s =>
      let s := s.cond (s.lpF l wCFG 27 1 == 1) fun s => s.cueSwap l
      (s.loopHalt l).setLpF l wCFG 25 1 (v.getLsbD 25).toNat
    s.loopEnable l
  else if live && !en then s.setLoop l fun x => { x with stopping := true }
  else s

/-- A write of word `i` of a loop's descriptor (R245, Table 8-12). -/
def State.writeLp (s : State) (l i : Nat) (v : Word) : State :=
  let x := s.loop l
  let live := x.on && !x.stopping
  if i = wCFG then s.writeLpCfg l v
  else if i = wSTAT then
    let old := s.lpW l wSTAT
    s.setLpW l wSTAT (old &&& ~~~(v &&& 0xF0#32))
  else if lpMask i = 0 then s
  else
    let new := maskWord (lpMask i) (s.lpW l i) v
    if live && (decide (i < wSETPT) || decide (wBOUND < i)) then s.cteIgnore
    else if live && ((i == wMIN && decide (wordVal (s.lpW l wMAX) < wordVal new))
        || (i == wMAX && decide (wordVal new < wordVal (s.lpW l wMIN)))) then s.cteIgnore
    else (s.setLpW l i new).cond (i == wMANUAL) fun s => s.setLpBit l 2 true

/-- LOOP_ENABLE and LOOP_DISABLE: a write of LP_CFG with EN as the row says. -/
def State.loopEn (s : State) (l : Nat) (v : Word) (en : Bool) : State :=
  s.writeLpCfg l (if en then v ||| 0x80000000#32 else v &&& 0x7FFFFFFF#32)

/-- A bank with word `w` of Table 8-13 written. -/
def Bank.put (b : Bank) (w : Nat) (v : Word) : Bank :=
  let m := v.extractLsb' 0 24
  match w with
  | 0 => { b with ce := v.extractLsb' 24 6, b0 := m } | 1 => { b with b1 := m } | 2 => { b with b2 := m }
  | 3 => { b with a1 := m } | _ => { b with a2 := m }

/-- Word `w` of a section as it reads. -/
def Section.word (x : Section) (b : Bool) (w : Nat) : Word :=
  let k := x.bank b
  let z := fun (m : BitVec 24) => m.setWidth 32
  match w with
  | 0 => k.ce.setWidth 32 <<< 24 ||| z k.b0 | 1 => z k.b1 | 2 => z k.b2 | 3 => z k.a1 | 4 => z k.a2
  | _ => BitVec.ofNat 32 (x.integ.toNat * 2 ^ 31 + x.satE.toNat * 2 ^ 24 + x.exp.toNat * 2 ^ 8 + x.sat.toNat)

/-- A write of word `w` of a section (R238, R239, R245). -/
def State.writeSect (s : State) (k w : Nat) (v : Word) : State :=
  let x := s.sect k
  let owner := s.sectOwner k
  if w = 5 then
    let x := { x with sat := x.sat && !v.getLsbD 0 }
    match owner with
    | none => s.setSect k { x with integ := v.getLsbD 31, satE := v.extractLsb' 24 6 }
    | some _ =>
      (s.setSect k x).cond (x.integ != v.getLsbD 31 || x.satE != v.extractLsb' 24 6) State.cteIgnore
  else
    let b := s.on CTE_VIEW 0
    let shut := match owner with
      | some l => s.lpF l wCFG 27 1 == 1 || s.lpBank l == b
      | none => false
    if shut then s.cteIgnore
    else s.setSect k (if b then { x with bankB := x.bankB.put w v } else { x with bankA := x.bankA.put w v })

/-- Writes of CTE_STATE_S1 and CTE_STATE_S2 (Table 8-10): accepted while the owning loop is disabled. -/
def State.writeSectState (s : State) (two : Bool) (v : Word) : State :=
  let k := s.rd CTE_STATE_PTR 0
  let x := s.sect k
  match s.sectOwner k with
  | some _ => s.cteIgnore
  | none =>
    if two then s.setSect k { x with s2 := v.extractLsb' 0 24 }
    else s.setSect k { x with exp := v.extractLsb' 24 6, s1 := v.extractLsb' 0 24 }

/-! ### Faults, shutdown and restart (R249, R412, R413) -/

/-- CTE_MEM_UNCORR of a loop's memory: it is forced to manual. -/
def State.cteMem (s : State) (l : Nat) : State :=
  let s := if (s.loop l).on then
      let s := (s.setLpF l wCFG 30 1 0).setLpW l wMANUAL (s.loop l).uLast.word
      let s := (s.setLpBit l 8 true).setLpBit l 1 false
      let s := (s.lpSects l).foldl (fun (s : State) k => s.setSect k { (s.sect k) with s1 := 0, s2 := 0, exp := 0 }) s
      s.int pgCTE 8
    else s
  s.raise pgCTE 1 (s.loopPorts l)

/-- CTE_CAP_UNCORR: the entry reads 0x0000_0000. -/
def State.cteCapMem (s : State) (i : Nat) : State :=
  ((s.stIn .loopCap (8 * i) 0).stIn .loopCap (8 * i + 4) 0).raise pgCTE 3 allPorts

/-- The engine powers down: samples in progress are lost, and loops that were stopping stop (R412). -/
def State.ctePowerDown (s : State) : State :=
  s.loopsOn.foldl (fun (s : State) l =>
    if (s.loop l).stopping then s.loopHalt l else s.setLoop l fun x => { x with out := none, missed := false }) s

/-- Each loop resumes at its first boundary by the transfer of R242, from the value in force at its target (R413). -/
def State.cteRestart (s : State) : State :=
  s.loopsOn.foldl (fun (s : State) l =>
    let i := s.outIndex l
    let u : Rat := match s.outKind l with
      | 1 => -48
      | 3 => s.rd BDAC_CODE_OUT i
      | 4 => (((s.pwmChan i).duty : Nat) : Rat) / ((max 1 (s.pwmChan i).per : Nat) : Rat)
      | _ => (s.loop l).uLast.val
    let per := s.lpPeriod l
    (s.setLpBit l 1 false).setLoop l fun x =>
      { x with uLast := bfpOf u, uPrev := bfpOf u, t0 := (s.now / max 1 per + 1) * per, n := 0, firstAuto := false }) s

end Sys2Proof.Machine
end

