-- ==== Sys2Proof/Machine/Hk.lean ====
section
/-! DEFINITION. Housekeeping, thermal management and PWM (spec/15_housekeeping_and_thermal.md R400 to R423). -/
namespace Sys2Proof.Machine
open Sys2Proof

/-! ### Triggers (R405 to R407) -/

def State.hkChan (s : State) (c : Nat) : HkChan := s.hk.chans.get {} c
def State.setHkChan (s : State) (c : Nat) (f : HkChan → HkChan) : State :=
  s.setHk fun h => { h with chans := h.chans.set c (f (s.hkChan c)) }

/-- A trigger arrives: ignored, held, or discarded while another is held. -/
def State.hkTrigger (s : State) : State :=
  if !s.on HK_CFG_EN 0 || s.rd HK_SCAN_MASK 0 == 0 then s
  else if s.hk.held.isSome then (s.satInc HK_DISC_CNT 0).int pgHK 1
  else (s.wr HK_STAT_HELD 0 1).setHk fun h => { h with held := some (s.now + 16 * s.rd HK_TRIG_DELAY 0) }

/-- HK_TIMER_TRIGGER: the next multiple of PERIOD x 1,024. -/
def State.hkTimer (s : State) : State :=
  if s.on HK_TRIG_TIMER_EN 0 then (s.toMul evTIMER 0 (1024 * max 1 (s.rd HK_TIMER 0))).hkTrigger else s

/-- HK_PWM_TRIGGER: a period start, or a duty edge, of the selected channel is now. -/
def State.hkPwm (s : State) : State :=
  let x := s.pwmChan (s.rd HK_TRIG_PWM_CH 0)
  let at' := if s.on HK_TRIG_PWM_EDGE 0 then x.t0 + x.duty * 2 ^ x.presc else x.t0
  let edge := !s.on HK_TRIG_PWM_EDGE 0 || (decide (0 < x.duty) && decide (x.duty < x.per))
  if s.on HK_TRIG_PWM_EN 0 && x.en && edge && at' == s.now then s.hkTrigger else s

/-! ### The converter (R401, R405, R408) -/

/-- The ticks of a conversion (Table 15-2). -/
def convTicks (filt lp : Bool) : Nat := (if filt then 10240 else 2560) * (if lp then 4 else 1)

/-- A conversion starts now. -/
def State.hkConvert (s : State) (ch : Nat) (slow late : Bool) (ticks : Nat) : State :=
  s.setHk fun h => { h with conv := some ⟨ch, slow, h.suspectNext, late, s.now + ticks⟩, suspectNext := false }

/-- The user scan ends. -/
def State.scanEnd (s : State) : State :=
  ((s.setHk fun h => { h with scanOn := false, scanLate := false }).wr HK_STAT_BUSY 0 0).inc HK_STAT_SCAN_CNT 0 |>.int pgHK 0

/-- What the idle converter does next: a slow round that is requested, the rest of a round, the rest of a user scan. -/
def State.hkNext (s : State) : State :=
  let s := if s.hk.slowReq && !s.hk.slowOn then
      (s.wr HK_STAT_SLOW 0 1).setHk fun h =>
        { h with slowReq := false, slowOn := true, slow := (List.range 8).map (24 + ·), slowLp := s.on HK_CFG_LP 0 }
    else s
  match s.hk.slow, s.hk.scan with
  | c :: r, _ => (s.setHk fun h => { h with slow := r }).hkConvert c true false (convTicks true s.hk.slowLp)
  | [], c :: r => (s.setHk fun h => { h with scan := r }).hkConvert c false s.hk.scanLate (convTicks s.hk.filt s.hk.lp)
  | [], [] => s.setHk fun h => { h with freeAt := s.now }

/-- HK_SCAN_START: a held trigger's scan starts at its start instant, or late when the converter becomes free. -/
def State.scanStart (s : State) : State :=
  match s.hk.held with
  | none => s
  | some t =>
    if s.hk.scanOn || s.hk.slowOn || s.hk.conv.isSome then s
    else
      let late := decide (t < s.hk.freeAt)
      let s := s.reach (max t s.hk.freeAt)
      let s := s.cond late fun s => ((s.wr HK_STAT_LATE 0 1).satInc HK_LATE_CNT 0).int pgHK 2
      let m := s.rd HK_SCAN_MASK 0
      let s := ((s.wr HK_STAT_HELD 0 0).wr HK_STAT_BUSY 0 1).setHk fun h =>
        { h with held := none, scanOn := true, scan := (List.range 32).filter m.testBit, scanLate := late,
                 filt := s.on HK_CFG_FILT 0, lp := s.on HK_CFG_LP 0 }
      if m = 0 then s.scanEnd else s.hkNext

/-- SLOW_ROUND_REQUEST: the next multiple of 1 ms, tick 0 among them (R408). -/
def State.slowRequest (s : State) : State :=
  let first := s.now == 0 && s.marks.get 0 evSLOW == 0
  let s := (if first then s.mark evSLOW else s.toMul evSLOW 0 983040).setHk fun h => { h with slowReq := true }
  if s.hk.conv.isSome then s else s.hkNext

/-! ### Bias DACs and PWM (R415 to R418) -/

/-- The bias DACs follow their targets where STEP is 0. -/
def State.bdacAll (s : State) : State := (List.range 8).foldl (fun (s : State) k => s.bdacMove k) s

/-- BDAC_STEP: the next multiple of 1,024 ticks. -/
def State.bdacStep (s : State) : State :=
  let s := s.toMul evBDAC 0 1024
  (List.range 8).foldl (fun (s : State) k =>
    let o := s.rd BDAC_CODE_OUT k
    let t := s.bdacTarget k
    let st := s.rd BDAC_CFG_STEP k
    s.wr BDAC_CODE_OUT k (if st = 0 then t else if o < t then min t (o + st) else max t (o - st))) s

/-- A host write of a target that a loop owns is ignored (R416). -/
def State.pwmIgnore (s : State) : State := (s.satInc PWM_IGNWR_CNT 0).int pgPWM 1

def State.writeBdacCode (s : State) (k : Nat) (v : Word) : State :=
  if s.on BDAC_CFG_OWNED k then s.pwmIgnore else (s.wr BDAC_CODE_CODE k (BDAC_CODE_CODE.of v)).bdacMove k
def State.writeBdacCfg (s : State) (k : Nat) (v : Word) : State :=
  (s.wrWord [BDAC_CFG_SAFE, BDAC_CFG_STEP] k v).bdacMove k
def State.writePwmCfg (s : State) (n : Nat) (v : Word) : State :=
  s.wrWord [PWM_CFG_EN, PWM_CFG_POL, PWM_CFG_SHUT_EN, PWM_CFG_PRESC, PWM_CFG_SHUT_DUTY] n v
def State.writePwmPer (s : State) (n : Nat) (v : Word) : State :=
  if PWM_PER.of v < 2 then s.refuse pgPWM else s.wr PWM_PER n (PWM_PER.of v)
def State.writePwmDuty (s : State) (n : Nat) (v : Word) : State :=
  if s.on PWM_CFG_OWNED n then s.pwmIgnore
  else if s.rd PWM_PER n < PWM_DUTY.of v then s.refuse pgPWM
  else s.wr PWM_DUTY n (PWM_DUTY.of v)

/-- The configuration of a channel has a parity error that stands (R418). -/
def State.pwmBad (s : State) (n : Nat) : Bool := (s.pwmChan n).parity && s.tst PG_ERR pgPWM 2

/-- PWM_PERIOD_START of a channel: what was written takes effect, with the owner's duty, or SHUT_DUTY in a shutdown. -/
def State.pwmStart (s : State) (n : Nat) : State :=
  let x := s.pwmChan n
  let s := s.reach (x.t0 + x.per * 2 ^ x.presc)
  let per := s.rd PWM_PER n
  let s := match x.loopDuty with
    | some u => s.wr PWM_DUTY n (s.dutyCode n u)
    | none => s
  let shut := s.thm.shut && !s.thm.restart && s.on PWM_CFG_SHUT_EN n
  let duty := min per (if shut then s.rd PWM_CFG_SHUT_DUTY n else s.rd PWM_DUTY n)
  let bad := s.pwmBad n
  let en := s.on PWM_CFG_EN n
  let pol := s.on PWM_CFG_POL n
  s.setPwm n fun x =>
    { x with t0 := s.now, en := en, per := per, duty := duty, pol := pol, presc := s.rd PWM_CFG_PRESC n, parity := bad,
             level := (en && !bad && decide (0 < duty)) != pol }

/-- PWM_DUTY_EDGE: count DUTY, where the ball goes inactive. -/
def State.pwmEdge (s : State) (n : Nat) : State :=
  let x := s.pwmChan n
  let t := x.t0 + x.duty * 2 ^ x.presc
  if x.duty = 0 ∨ x.per ≤ x.duty ∨ t < s.now then s
  else (s.reach t).setPwm n fun x => { x with level := x.pol }

/-- PWM_MISMATCH of a channel, or with `parity` an error of its configuration. -/
def State.pwmFault (s : State) (n : Nat) (parity : Bool) : State :=
  if parity then (s.setPwm n fun x => { x with parity := true, level := x.pol }).raise pgPWM 2 allPorts
  else ((s.wr PWM_STAT_MISMATCH n 1).stand 21 n).raiseInt [(pgPWM, 0)] pgPWM 1 allPorts

/-- The level of a ball: a channel whose mismatch stands shows the other level. -/
def State.pwmLevel (s : State) (n : Nat) : Bool := (s.pwmChan n).level != (s.fcSrc 21).stand.getLsbD n

/-! ### Throttling and shutdown (R409 to R414) -/

/-- A channel's signed value in 1/128 °C. -/
def State.dieTemp (s : State) (c : Nat) : Option Int := ((s.hkChan c).usable).map fun v => v.toInt

/-- T_hot and its sensor (R409). -/
def State.tHot (s : State) : Option (Int × Nat) :=
  (List.range 4).foldl (fun a k =>
    match s.dieTemp (24 + k), a with
    | some t, some (b, j) => if b < t then some (t, k) else some (b, j)
    | some t, none => some (t, k)
    | none, a => a) none

/-- The count of thresholds θ_j, less `drop` in 1/128 °C, that T_hot reaches. -/
def throttleUp (t drop : Int) : Nat :=
  ((List.range 12).filter fun j => decide (((115 + 2 * j : Nat) : Int) * 128 - drop ≤ t)).length

/-- The throttle step (R410). -/
def throttleFor (t : Int) (k hyst : Nat) : Nat :=
  let up := throttleUp t 0
  let down := throttleUp t (32 * (hyst : Int))
  if k < up then up else if down < k then down else k

/-- The step at an evaluation, and what a change gives. -/
def State.stepEval (s : State) (t : Int) : State :=
  let k := s.rd THM_STAT_STEP 0
  let n := throttleFor t k (s.rd THM_CFG_HYST 0)
  if n = k then s
  else
    let s := (s.wr THM_STAT_STEP 0 n).setThm fun x => { x with stepAt := s.now }
    let s := s.cond (decide (k < n)) fun s => s.satInc THM_STEP_CNT 0
    let s := s.journalInt [(pgTHM, 0)] pgTHM 0x0400 sevNOTE (pf 60 4 n + pf 56 4 k + pf 0 16 (ux 16 t))
    let s := s.cond (k == 0) fun s => (s.stand 19 0).raise pgTHM 1 allPorts
    s.cond (n == 0) fun s => s.unstand 19 0

/-- The latch of source 20 (Table 15-4), for the causes `bs` of the page. -/
def State.shutdown (s : State) (bs : List Nat) : State :=
  let s := (s.setThm fun t => { t with shut := true, restart := false, coolAt := none }).wr THM_STAT_SHUT 0 1
  let s := (s.wr THM_STAT_COOLING 0 0).satInc THM_SHUT_CNT 0
  let s := bs.foldl (fun (s : State) b => (s.stand 20 (b - 2)).detectInt [(pgTHM, 1)] cTHERM pgTHM b allPorts) s
  let s := (List.range 8).foldl (fun (s : State) m => s.portOff m) s
  let at_ := s.now
  let s := s.lanesOn.foldl (fun (s : State) n => (s.laneDisable n true at_).setLane n fun l => { l with thermWait := true }) s
  let s := [0, 1].foldl (fun (s : State) k => s.setSynState k synIDLE) s
  let s := (List.range 16).foldl (fun (s : State) c =>
    (s.cvWr CONVRX_STAT_CAL_DONE CONVTX_STAT_CAL_DONE c 0).setCv c fun v => { v with cal := false }) s
  let s := s.cancelCmd
  let s := s.cond (!s.sys.dark) State.toRehearsal
  s.ctePowerDown.bdacAll

/-- The cooling timer at an evaluation (R413). -/
def State.coolEval (s : State) : State :=
  if !s.thm.shut || s.thm.restart then s
  else
    let cool := ((List.range 4).all fun k => (s.hkChan (24 + k)).ok) &&
      (match s.tHot with | some (t, _) => decide (t < 110 * 128) | none => false)
    let s := s.setThm fun t => { t with coolAt := if cool then some (t.coolAt.getD s.now) else none }
    s.wr THM_STAT_COOLING 0 cool.toNat

/-- The evaluation at the end of channel 27 in a slow round (R409 to R413). -/
def State.thermalEval (s : State) : State :=
  let s := match s.tHot with
    | some (t, k) => ((s.wrS THM_STAT_T_HOT 0 t).wr THM_STAT_HOT_SENS 0 k).stepEval t
    | none => s
  let hot := match s.tHot with | some (t, _) => decide (140 * 128 ≤ t) | none => false
  let blind := decide (s.thm.lastUsable + msT 5 ≤ s.now)
  let s := s.wr THM_STAT_BLIND 0 blind.toNat
  let fresh := (if hot && !s.thm.hot then [2] else []) ++ (if blind && !s.thm.blind then [3] else [])
  let s := s.setThm fun t => { t with hot := hot, blind := blind }
  let s := if (hot || blind) && (!s.thm.shut || s.thm.restart) then
      s.shutdown ((if hot then [2] else []) ++ (if blind then [3] else []))
    else fresh.foldl (fun (s : State) b => (s.stand 20 (b - 2)).raise pgTHM b allPorts) s
  s.coolEval

/-- THERMAL_RESTART: the cooling timer has run 1 s (R413, R414). -/
def State.thermalRestart (s : State) : State :=
  match s.thm.coolAt with
  | none => s
  | some t =>
    if !s.thm.shut || s.thm.restart || decide ((s.now : Int) < t + (secT 1 : Nat)) then s
    else
      let s := (s.setThm fun t => { t with restart := true, coolAt := none }).wr THM_STAT_COOLING 0 0
      let s := [0, 1].foldl (fun (s : State) k =>
        if (s.syn k).den = 0 then s else ((s.setSyn k fun y => { y with tries := 0 }).setSynErr k 0).synStart k) s
      let s := (s.pathsOn.foldl (fun (s : State) p => s.estReset p) s).portsEval
      let s := s.cteRestart.bdacAll
      s.cond (s.autonomous && !s.sys.stopHeld && s.devState == stREHEARSAL) fun s => s.wr SYS_STATE_PENDING 0 cmdSTART

/-! ### Results (R402 to R404) -/

/-- The least and the greatest code of a channel (Table 15-1). -/
def hkLow (c : Nat) : Int := if 24 ≤ c ∧ c < 28 then -32768 else 0
def hkHigh (c : Nat) : Int := if 24 ≤ c ∧ c < 28 then 32767 else 65535

/-- VALUE of a raw code (R402, R403). The raw code of a die sensor is offset binary, since both of its ends are
over-range. -/
def hkValue (c : Nat) (raw : BitVec 16) : Int :=
  if raw = 0 then hkLow c
  else if raw = 0xFFFF#16 then hkHigh c
  else
    let t := Config.hkTrim c
    let x : Int := (raw.toNat : Int) + (if 24 ≤ c ∧ c < 28 then -32768 else 0) - (t.extractLsb' 16 16).toInt
    max (hkLow c) (min (hkHigh c) (roundDiv (x * (2 ^ 20 + (t.extractLsb' 0 16).toInt)) (2 ^ 20)))

def hkResFlds : List Fld :=
  [HK_RES_VALID, HK_RES_SUSPECT, HK_RES_OVR, HK_RES_SLOW, HK_RES_LATE, HK_RES_CNT, HK_RES_VALUE]

/-- A result is stored; `ok`: its trim was read and the store kept it. -/
def State.hkStore (s : State) (c : HkConv) (raw : BitVec 16) (ok : Bool) : State :=
  let extreme := raw = 0 ∨ raw = 0xFFFF#16
  let v := BitVec.ofInt 16 (hkValue c.ch raw)
  let n := c.ch
  let s := ((s.wr HK_RES_VALID n ok.toNat).wr HK_RES_SUSPECT n c.suspect.toNat).wr HK_RES_OVR n (decide extreme).toNat
  let s := ((s.wr HK_RES_SLOW n c.slow.toNat).wr HK_RES_LATE n c.late.toNat).wr HK_RES_VALUE n v.toNat
  let s := (s.inc HK_RES_CNT n).setHkChan n fun h => { h with raw := raw }
  let s := if extreme then
      (((s.orBits HK_OVR_STICKY 0 (2 ^ n)).satInc HK_OVR_CNT 0).int pgHK 3).setHk fun h => { h with suspectNext := true }
    else s
  if c.suspect then s
  else
    let s := s.setHkChan n fun h => { h with ok := ok, usable := if ok then some v else h.usable }
    if ok && decide (24 ≤ n) && decide (n < 28) then
      let s := s.setThm fun t => { t with lastUsable := s.now }
      if s.rdS THM_MAX (n - 24) < v.toInt then s.wr THM_MAX (n - 24) v.toNat else s
    else s

/-- HK_CONVERSION_END: the conversion in progress ends with a raw code. -/
def State.hkConvEnd (s : State) (raw : BitVec 16) (ok : Bool) : State :=
  match s.hk.conv with
  | none => s
  | some c =>
    let s := (s.reach c.done).setHk fun h => { h with conv := none }
    let s := s.hkStore c raw ok
    let s := s.cond (c.slow && c.ch == 27) State.thermalEval
    let s := s.cond (c.slow && s.hk.slow.isEmpty) fun s => (s.wr HK_STAT_SLOW 0 0).setHk fun h => { h with slowOn := false }
    let s := s.cond (!c.slow && s.hk.scan.isEmpty) State.scanEnd
    s.hkNext

/-- HK_FAULT (Table 15-6): a trim read or the result store of a channel fails, and its results read VALID = 0. -/
def State.hkFault (s : State) (parity : Bool) (c : Nat) : State :=
  (s.wr HK_RES_VALID c 0).raise pgHK (if parity then 2 else 1) allPorts

/-! ### Writes -/

/-- A channel that a write enables has no result for the engine yet (R404). The slow round enables channels 24 to 31. -/
def State.hkEnabled (s : State) (c : Nat) : Bool := s.on HK_CFG_EN 0 && s.tst HK_SCAN_MASK 0 c
def State.hkFresh (s was : State) : State :=
  ((List.range 24).filter fun c => s.hkEnabled c && !was.hkEnabled c).foldl
    (fun (s : State) c => s.setHkChan c fun h => { h with usable := none }) s

def State.writeHkCfg (s : State) (v : Word) : State := (s.wrWord [HK_CFG_EN, HK_CFG_LP, HK_CFG_FILT] 0 v).hkFresh s
def State.writeHkMask (s : State) (v : Word) : State := (s.wr HK_SCAN_MASK 0 v.toNat).hkFresh s
def State.writeHkTrig (s : State) (v : Word) : State :=
  if 5 < HK_TRIG_PWM_CH.of v then s.refuse pgHK
  else s.wrWord [HK_TRIG_TIMER_EN, HK_TRIG_PWM_EN, HK_TRIG_PWM_EDGE, HK_TRIG_PWM_CH, HK_TRIG_DELAY] 0 v
def State.writeHkTimer (s : State) (v : Word) : State :=
  if HK_TIMER.of v = 0 then s.refuse pgHK else s.wr HK_TIMER 0 (HK_TIMER.of v)
def State.writeHkCtl (s : State) (v : Word) : State := if HK_CTL.of v = 1 then s.hkTrigger else s
def State.writeThmCfg (s : State) (v : Word) : State :=
  if 0x20 < THM_CFG_HYST.of v then s.refuse pgTHM else s.wrWord [THM_CFG_THR_EN, THM_CFG_HYST] 0 v
/-- A write of THM_CTL: MAX_CLR. -/
def State.writeThmCtl (s : State) (v : Word) : State :=
  if THM_CTL.of v = 1 then (List.range 4).foldl (fun (s : State) k => s.wr THM_MAX k 0x8000) s else s

end Sys2Proof.Machine
end

