-- ==== Sys2Proof/Machine/Ic.lean ====
section
/-! DEFINITION. The interrupt controller (spec/13_host_interface.md R364 to R373; spec/18_register_directory.md R473,
R475, R476): source levels, the gateway, lines, claims, completions, MSI-X and wakes. -/
namespace Sys2Proof.Machine
open Sys2Proof

/-! ### Levels -/

/-- A queue's completion entries beyond an index, in ring order. -/
def State.cqBeyond (s : State) (q i : Nat) : Nat := (s.rd DMA_CQ_TAIL_TAIL q + 1024 - i) % 1024
/-- CQ_HEAD lies behind SIG (R362). -/
def State.complLevel (s : State) (q : Nat) : Bool :=
  decide (s.cqBeyond q (s.rd DMA_Q_STAT_SIG q) < s.cqBeyond q (s.rd DMA_CQ_HEAD q))
def qIDLE : Nat := 0
def qRUNNING : Nat := 1
def qDRAINING : Nat := 2
def qSTOPPED : Nat := 3
def State.errLevel (s : State) (q : Nat) : Bool :=
  s.rd DMA_Q_STAT_STATE q == qSTOPPED || s.on DMA_Q_STAT_ERR_SEEN q

/-- Bits of PG_INT_STAT ANDed with PG_INT_EN: the level of a page interrupt over bits that events set. -/
def State.pageAny (s : State) (page : Nat) : Bool := s.rd PG_INT_STAT page &&& s.rd PG_INT_EN page != 0

/-- The level bits of a page's PG_INT_STAT (R476, R373, Table 7-10); none for a bit that events set. -/
def State.levelBit (s : State) (page b : Nat) : Option Bool :=
  if page = pgDMA then some (if b < 8 then s.complLevel b else if b < 16 then s.errLevel (b - 8) else false)
  else if page = pgSYN ∧ b = 2 then some (s.pageAny pgRFC)
  else if pgLANE ≤ page ∧ page < pgLANE + 0x8000 ∧ b = 3 then some (s.pageAny (pgAt pgCONVRX ((page - pgLANE) / 0x1000)))
  else if pgLANE ≤ page ∧ page < pgLANE + 0x8000 ∧ b = 4 then some (s.pageAny (pgAt pgCONVTX ((page - pgLANE) / 0x1000)))
  else none

/-- A bit of PG_INT_STAT as it reads. -/
def State.intBit (s : State) (page b : Nat) : Bool := (s.levelBit page b).getD (s.tst PG_INT_STAT page b)

/-- The page and the bits that drive an interrupt source (Table 18-4); none for the DMA, remote and reserved sources. -/
def srcDrive (n : Nat) : Option (Nat × List Nat) :=
  let run := fun (lo hi page : Nat) => if lo ≤ n ∧ n ≤ hi then some (page, [n - lo]) else none
  let five := List.range 5
  (((((run 1 3 pgSYS).orElse fun _ => run 4 6 pgBOOT).orElse fun _ => run 7 8 pgSEC).orElse fun _ =>
    ((run 9 9 pgIC).orElse fun _ => run 10 11 pgHIF).orElse fun _ => run 12 13 pgFAB).orElse fun _ =>
    ((run 14 15 pgLEDG).orElse fun _ => run 16 24 pgFC).orElse fun _ =>
    ((run 32 36 pgPROT).orElse fun _ => run 40 44 pgCUR).orElse fun _ =>
    ((run 48 54 pgTIME).orElse fun _ => run 56 58 pgTDD).orElse fun _ => run 60 63 pgSYN).orElse fun _ =>
  (((if 64 ≤ n ∧ n < 96 then some (pgAt pgLANE (n - 64), five) else none).orElse fun _ =>
    ((run 96 102 pgCNX).orElse fun _ => run 104 106 pgSLN).orElse fun _ =>
    ((run 112 116 pgSPT).orElse fun _ => run 120 123 pgMEAS).orElse fun _ =>
    ((run 128 136 pgCTE).orElse fun _ => run 144 150 pgPB).orElse fun _ => run 152 159 pgSTM).orElse fun _ =>
  ((run 176 179 pgHK).orElse fun _ => run 180 182 pgTHM).orElse fun _ =>
  if n = 183 then some (pgPWM, [0, 1]) else if n = 184 then some (pgTWT, five)
  else if n = 185 ∨ n = 186 then some (pgAt pgTWC (n - 185), five)
  else if n = 192 then some (pgRING, List.range 7) else run 188 189 pgSMEM)

def State.remote (s : State) (d : Nat) : Remote := s.ring.remotes.get {} d
/-- The level of an interrupt source (R473, R475). -/
def State.srcLevel (s : State) (n : Nat) : Bool :=
  if 160 ≤ n ∧ n < 168 then s.complLevel (n - 160)
  else if 168 ≤ n ∧ n < 176 then s.errLevel (n - 168)
  else if 193 ≤ n ∧ n < 256 then s.vertex && s.present (n - 192) && (s.remote (n - 192)).level
  else match srcDrive n with
    | some (page, bs) => bs.any fun b => s.intBit page b && s.tst PG_INT_EN page b
    | none => false

/-! ### Sources, lines and targets -/

def State.src (s : State) (n : Nat) : IcSrc := s.hif.ic.get {} n
def State.setSrc (s : State) (n : Nat) (f : IcSrc → IcSrc) : State :=
  s.setHif fun h => { h with ic := h.ic.set n (f (s.src n)) }
/-- Pending and visible (R364). -/
def State.shown (s : State) (n : Nat) : Bool := (s.src n).st == .pending && s.on IC_SRC_EN n
def State.targets (s : State) (n : Nat) : Nat := s.rd IC_SRC_TARGETS n
/-- The sources pending and visible for a target in a class. -/
def State.shownFor (s : State) (t : Nat) (fast : Bool) : List Nat :=
  (List.range 256).filter fun n => s.shown n && (s.on IC_SRC_CLASS n == fast) && (s.targets n).testBit t
/-- What a claim would return (R366). -/
def State.topFor (s : State) (t : Nat) (fast : Bool) : Nat := (s.shownFor t fast).getLast?.getD 0
/-- The line of a target (R365). -/
def State.line (s : State) (t : Nat) : Bool :=
  !s.on IC_TGT_CFG_MASK t && (s.topFor t false != 0 || s.topFor t true != 0)

/-- A message to the host. -/
def State.toHost (s : State) (m : HostMsg) : State := s.setHif fun h => { h with out := h.out ++ [m] }

/-- The Vector Control word of MSI-X entry `v` is at 0xA80C + 0x10 × v; its bit 0 masks the vector. -/
def msixEntry (v : Nat) : Nat := Region.vecs.lo + 0x10 * v
def State.vecMasked (s : State) (v : Nat) : Bool := (s.ld (msixEntry v + 12)).getLsbD 0

/-- Vector `t` is sent, or its PBA bit is set where it is masked (R369). -/
def State.msix (s : State) (t : Nat) : State :=
  if !s.hif.msixEn then s
  else if s.vecMasked t then s.setHif fun h => { h with pba := h.pba ||| BitVec.ofNat 4 (2 ^ t) }
  else s.toHost (.msix t)

/-- The lines are evaluated: an MSI-X target receives its vector at a rise, and `again` for a completion accepted while
its line is asserted; a PBA bit clears with its line (R369). -/
def State.lineEval (s : State) (again : Option Nat) : State :=
  (List.range 4).foldl (fun (s : State) t =>
    let was := s.hif.lines.getLsbD t
    let now := s.line t
    let b : BitVec 4 := BitVec.ofNat 4 (2 ^ t)
    let s := s.setHif fun h => { h with lines := if now then h.lines ||| b else h.lines &&& ~~~b }
    if now then
      s.cond (s.on IC_TGT_CFG_DELIV t && (!was || again == some t)) fun s => s.msix t
    else s.setHif fun h => { h with pba := h.pba &&& ~~~b }) s

/-- A wake is evaluated for a source that is pending and visible (R370). -/
def State.wakeEval (s : State) (n : Nat) : State :=
  let ts := (List.range 4).filter fun t => (s.targets n).testBit t
  match ts with
  | t :: _ =>
    if s.shown n && ts.all (fun t => s.on IC_TGT_CFG_ASLEEP t) then
      let fresh := !s.tst IC_WAKE 0 t
      let s := s.orBits IC_WAKE 0 (2 ^ t)
      s.cond (fresh && s.on HIF_PM_D3 0 && s.hif.pmeEn) fun s =>
        (s.toHost .pme).setHif fun h => { h with pmeStatus := true }
    else s
  | [] => s

/-- WAKE_N is driven low (R370). -/
def State.wakeLow (s : State) : Bool := s.rd IC_WAKE 0 != 0

/-- The gateway: a level that is high on an idle enabled source is accepted (R364). -/
def State.gateway (s : State) (n : Nat) : State :=
  if n = 0 ∨ 256 ≤ n then s
  else if (s.src n).st == .idle && s.on IC_SRC_EN n && s.srcLevel n then
    (s.setSrc n fun x => { x with st := .pending, asserts := x.asserts + 1 }).wakeEval n
  else s

/-- SOURCE_ASSERTION. -/
def State.sourceAssert (s : State) (n : Nat) : State := (s.gateway n).lineEval none

/-- The interrupt law of a source: assertions less claims less pending (R372). -/
def State.icLaw (s : State) (n : Nat) : BitVec 32 :=
  let x := s.src n
  x.asserts - x.claims - (if x.st = .pending then 1 else 0)

/-- The check of the law at a claim or a completion. -/
def State.icCheck (s : State) (n : Nat) : State :=
  let e := s.icLaw n
  if e = 0 then s
  else ((s.journal pgIC 0x0800 sevMAJOR (pf 56 8 n + e.toNat)).stand 3 0).raise pgIC 1 allPorts

def bankAt (t : Nat) (fast : Bool) : Nat := if fast then 4 + t else t

/-- IC_CLAIM: the read of a claim register (R366). The second part is the value read. -/
def State.icClaim (s : State) (t : Nat) (fast : Bool) : State × Nat :=
  let n := s.topFor t fast
  if n = 0 then (s.satInc IC_SPUR_CNT 0, 0)
  else
    let s := s.setSrc n fun x => { x with st := .active, owner := t, fast := fast, claims := x.claims + 1 }
    let s := s.setHif fun h => { h with lastClaim := h.lastClaim.set (bankAt t fast) n }
    ((s.icCheck n).lineEval none, n)

/-- A completion that is not accepted (R367). -/
def State.badComp (s : State) (t : Nat) (fast : Bool) (n : Nat) : State :=
  ((s.satInc IC_BADCMP_CNT 0).int pgIC 0).setHif fun h => { h with lastBad := h.lastBad.set (bankAt t fast) n }

/-- A completion takes effect (R367). -/
def State.compNow (s : State) (t : Nat) (fast : Bool) (n : Nat) : State :=
  let x := s.src n
  if n ≠ 0 ∧ x.st = .active ∧ x.owner = t ∧ x.fast = fast then
    let s := s.setSrc n fun x => { x with st := .idle }
    ((s.icCheck n).gateway n).lineEval (some t)
  else s.badComp t fast n

/-- IC_COMPLETE: a completion of a remote device's source waits for the tunnelled writes before it (R391). -/
def State.icComplete (s : State) (t : Nat) (fast : Bool) (n : Nat) : State :=
  let x := s.deliv (n - 192) 0
  if s.vertex && decide (193 ≤ n) && decide (n < 256) && !x.acked x.total then
    s.setHif fun h => { h with heldComps := h.heldComps ++ [⟨t, fast, n, x.total⟩] }
  else s.compNow t fast n

/-- SOURCE_CONFIG_WRITE (R364, R370). -/
def State.writeSrcCfg (s : State) (n : Nat) (v : Word) : State :=
  if n = 0 then s
  else
    let was := if s.shown n then s.targets n else 0
    let s := s.wrWord [IC_SRC_EN, IC_SRC_CLASS, IC_SRC_TARGETS] n v
    let s := s.cond (s.shown n && s.targets n != was) fun s => s.wakeEval n
    (s.gateway n).lineEval none

/-- COUNT_SNAPSHOT: a write of IC_CNT_PTR (R372). -/
def State.writeCntPtr (s : State) (v : Word) : State :=
  let n := IC_CNT_PTR.of v
  let x := s.src n
  let s := ((s.wr IC_CNT_PTR 0 n).wr IC_CNT_ASSERT 0 x.asserts.toNat).wr IC_CNT_CLAIM 0 x.claims.toNat
  ((s.wr IC_CNT_STAT_VALID 0 1).wr IC_CNT_STAT_PENDING 0 (decide (x.st = .pending)).toNat).wr IC_CNT_STAT_ACTIVE 0
    (decide (x.st = .active)).toNat

/-- WAKE_CLEAR: a write of IC_WAKE. -/
def State.writeWake (s : State) (v : Word) : State := s.clrBits IC_WAKE 0 (IC_WAKE.of v)

/-- TARGET_CONFIG_WRITE: clearing ASLEEP clears the wake bit (R370). -/
def State.writeTgtCfg (s : State) (t : Nat) (v : Word) : State :=
  let s := s.wrWord [IC_TGT_CFG_MASK, IC_TGT_CFG_ASLEEP, IC_TGT_CFG_DELIV] t v
  let s := s.cond (!s.on IC_TGT_CFG_ASLEEP t) fun s => s.clrBits IC_WAKE 0 (2 ^ t)
  s.lineEval none

/-- A write of the Vector Control word of an MSI-X entry. MSIX_UNMASK is one that clears its mask bit: the message is sent
if the PBA bit is set and the line still asserted (R369). -/
def State.writeVecCtl (s : State) (v : Nat) (x : Word) : State :=
  let was := s.vecMasked v
  let s := s.stIn .vecs (0x10 * v + 12) (x &&& 1#32)
  if was && !x.getLsbD 0 && s.hif.pba.getLsbD v then
    let s := s.setHif fun h => { h with pba := h.pba &&& ~~~(BitVec.ofNat 4 (2 ^ v)) }
    s.cond (s.line v && s.on IC_TGT_CFG_DELIV v) fun s => s.msix v
  else s

/-- MSIX_ENABLE: MSI-X is enabled in configuration space (R369). -/
def State.msixEnable (s : State) : State :=
  let s := s.setHif fun h => { h with msixEn := true }
  ((List.range 4).filter fun t => s.on IC_TGT_CFG_DELIV t && s.line t).foldl (fun (s : State) t => s.msix t) s

/-- IC_STATE_PARITY of a source (Table 13-8): it returns to idle, and the gateway applies R364 at once. -/
def State.icParity (s : State) (n : Nat) : State :=
  let s := s.setSrc n fun x =>
    { x with st := .idle, claims := if x.st = .pending then x.claims + 1 else x.claims }
  let s := (s.journal pgIC 0x0801 sevMAJOR (pf 56 8 n)).raise pgIC 2 allPorts
  (s.gateway n).lineEval none

/-- The sources of a class active with an owner (IC_TGT_STAT). -/
def State.activeOf (s : State) (t : Nat) (fast : Bool) : Nat :=
  ((List.range 256).filter fun n => (s.src n).st == .active && (s.src n).owner == t && (s.src n).fast == fast).length

end Sys2Proof.Machine
end

