-- ==== Sys2Proof/Machine/Ring.lean ====
section
/-! DEFINITION. The cascade ring (spec/14_cascade_ring.md R379 to R399) and its time messages (R187, R188): ports, frames
and credits, reliable delivery, tunnelled access, enumeration, breaks and restoration. Port 0 is RING_UP, port 1 RING_DN. -/
namespace Sys2Proof.Machine
open Sys2Proof

/-- Frames that wait go out while credits last. -/
def State.drainQueue (s : State) (p v : Nat) : State :=
  let wait := s.ring.queue.filter fun f => f.port == p && f.vc == v
  let go := wait.take (s.vc p v).credits
  (s.setRing fun r =>
    { r with queue := (r.queue.filter fun f => !(f.port == p && f.vc == v)) ++ wait.drop go.length,
             out := r.out ++ go }).setVc p v fun x => { x with credits := x.credits - go.length }

/-- CREDIT_RETURN: a credit-return block arrives on a port. -/
def State.creditReturn (s : State) (p v n : Nat) : State :=
  (s.setVc p v fun x => { x with credits := x.credits + n, rCum := x.rCum + BitVec.ofNat 16 n }).drainQueue p v

/-- CENSUS_MARKER_SEND: at the next multiple of 1 ms, on each VC of each trained port. -/
def State.censusSend (s : State) : State :=
  let s := s.toMul evCENSUS 0 983040
  ((List.range 8).filter fun k => s.rportUp (k / 4)).foldl (fun (s : State) k =>
    let x := s.vc (k / 4) (k % 4)
    s.setRing fun r => { r with out := r.out ++ [⟨k / 4, k % 4, everyDev, 0, .census x.credits x.rCum⟩] }) s

/-- CENSUS_MARKER: a marker arrives; `b`: the buffers held, `relayed`: buffers of relayed frames freed since the last
marker (R386). -/
def State.censusMarker (s : State) (p v cs : Nat) (rCum : BitVec 16) (b relayed : Nat) : State :=
  let s := s.setVc p v fun x => { x with retCum := x.retCum + BitVec.ofNat 16 relayed }
  let fl := ((s.vc p v).retCum - rCum).toNat
  let t := cs + b + fl
  let s := s.satInc RING_CEN_CNT 0
  if t = 256 then s
  else
    let s := (s.satInc RING_CEN_FAIL_CNT 0).setRing fun r => { r with census := r.census.set (4 * p + v) (cs, b, fl, t) }
    let s := s.journal pgRING 0x0600 sevMAJOR (pf 63 1 p + pf 61 2 v + pf 52 9 cs + pf 43 9 b + pf 34 9 fl + pf 25 9 t)
    (s.stand 51 (4 * p + v)).raiseInt [(pgRING, 5)] pgRING 7 allPorts

/-! ### Tunnelled access (R38, R39, R357, R389, R390) -/

/-- A tunnelled write on the vertex: discarded for an absent ID (R22), held where 64 are unacknowledged or others wait. -/
def State.tunnelWrite (s : State) (d : Nat) (b : RegBody) : State :=
  let x := s.deliv d 0
  if !s.present d then s.satInc RING_ABS_WR_CNT 0
  else if s.ring.restoring ∨ 64 ≤ x.unacked.length ∨ x.waiting ≠ [] then
    s.setDeliv d 0 fun x => { x with waiting := x.waiting ++ [.write b] }
  else s.sendRel d 0 (.write b)

def State.dmaQ (s : State) (q : Nat) : DmaQ := s.hif.dma.get {} q
def State.setDmaQ (s : State) (q : Nat) (f : DmaQ → DmaQ) : State :=
  s.setHif fun h => { h with dma := h.dma.set q (f (s.dmaQ q)) }
def State.setRun (s : State) (q : Nat) (f : DmaRun → DmaRun) : State :=
  s.setDmaQ q fun x => { x with run := x.run.map f }

/-- A tunnelled read completes with a word: for the host, or for a descriptor, whose data has moved with its last word. -/
def State.readDone (s : State) (r : TunRead) (v : Word) : State :=
  match r.dma with
  | none => s.toHost (.readData v)
  | some (q, a) =>
    let more := s.hif.reads.any fun x => match x.dma with | some (k, _) => k == q | none => false
    (s.toHost (.write a [v])).setRun q fun x => { x with bytes := x.bytes + 4, done := x.done || !more }

/-- TUNNELLED_READ of a remote slice on the vertex; an absent ID reads all ones (R22). -/
def State.tunnelRead (s : State) (d off : Nat) (dma : Option (Nat × Nat)) : State :=
  let r : TunRead := ⟨d, off, s.now, dma⟩
  if !s.present d then s.readDone r 0xFFFFFFFF#32
  else
    let s := s.setHif fun h => { h with reads := h.reads ++ [r] }
    if (s.deliv d 0).waiting.isEmpty then s.sendRead d off
    else s.setDeliv d 0 fun x => { x with waiting := x.waiting ++ [.read off] }

/-- Reads at the head of what the vertex holds go out. -/
def State.releaseReads : Nat → State → Nat → State
  | 0, s, _ => s
  | fuel + 1, s, d =>
    match (s.deliv d 0).waiting with
    | .read off :: r => State.releaseReads fuel ((s.setDeliv d 0 fun x => { x with waiting := r }).sendRead d off) d
    | _ => s

/-- TUNNEL_WRITE_RELEASED: acknowledgements have freed a place. -/
def State.tunnelRelease (s : State) (d : Nat) : State :=
  let x := s.deliv d 0
  if s.ring.restoring ∨ 64 ≤ x.unacked.length then s
  else match x.waiting with
    | .write b :: r =>
      let s := (s.setDeliv d 0 fun x => { x with waiting := r }).sendRel d 0 (.write b)
      State.releaseReads r.length s d
    | _ => State.releaseReads x.waiting.length s d

/-- READ_ANSWER_FRAME: a late answer is discarded. -/
def State.readAnswer (s : State) (d off : Nat) (v : Word) : State :=
  match s.hif.reads.find? fun r => r.dev == d && r.off == off with
  | some r => (s.setHif fun h => { h with reads := h.reads.erase r }).readDone r v
  | none => s

/-- TUNNEL_TIMEOUT of the oldest read. -/
def State.tunnelTimeout (s : State) : State :=
  match s.hif.reads with
  | r :: rs =>
    let s := (s.reach (r.since + usT (10 * s.rd HIF_CFG_TUN_TO 0))).setHif fun h => { h with reads := rs }
    let s := (s.satInc HIF_TUN_TO_CNT 0).raiseInt [(pgHIF, 1)] pgHIF 2 allPorts
    s.readDone r 0xFFFFFFFF#32
  | [] => s

/-- The frames not acknowledged are sent again, in order (R389). -/
def State.replay (s : State) (d vc : Nat) : State :=
  let fs := (s.deliv d vc).unacked
  let s := (s.setDeliv d vc fun x => { x with lastProg := s.now }).satAdd RING_REPLAY_CNT 0 fs.length
  fs.foldl (fun (s : State) f => s.emit { f with port := s.portTo d }) s

/-- NAK_FRAME, and REPLAY_TIMEOUT 50 µs after the last progress. -/
def State.replayTimeout (s : State) (d vc : Nat) : State :=
  let x := s.deliv d vc
  if x.unacked.isEmpty then s else (s.reach (x.lastProg + usT 50)).replay d vc

/-- The numbers that an acknowledgement of `n`, modulo 2^16, covers. -/
def Deliv.ackCount (x : Deliv) (n : BitVec 16) : Nat :=
  match x.unacked with
  | f :: _ =>
    let k := (n - BitVec.ofNat 16 f.seq).toNat
    if k < x.unacked.length then k + 1 else 0
  | [] => 0

/-- The completions that waited for acknowledged writes take effect, in order (R391). -/
def State.releaseComps (s : State) : State :=
  let ready := fun (c : HeldComp) => (s.deliv (c.n - 192) 0).acked c.upTo
  let go := s.hif.heldComps.filter ready
  let s := s.setHif fun h => { h with heldComps := h.heldComps.filter fun c => !ready c }
  go.foldl (fun (s : State) c => s.compNow c.t c.fast c.n) s

/-- The state of a remote device as it reports it (R391, R392). -/
def State.remoteStatus (s : State) (d : Nat) (level low : Bool) (st : Nat) : State :=
  let s := s.setRing fun r => { r with remotes := r.remotes.set d ⟨level, low, st⟩ }
  let s := (List.range 64).foldl (fun (s : State) q =>
    s.cond (s.on RING_MAP_VALID q && s.rd RING_MAP_ID q == d) fun s => s.wr RING_MAP_STATE q (if st = 0 then 1 else 2)) s
  if d < 32 then s.putBit RING_FAULTN_LO 0 d low else s.putBit RING_FAULTN_HI 0 (d - 32) low

/-- The whole-ring routes are in force again (R395). -/
def State.routeWhole (s : State) : State :=
  let s := ((s.wr RING_STAT_STATE 0 rRING).wr RING_STAT_BREAK_VALID 0 0).wr RING_STAT_BREAK_POS 0 0
  ((s.setRing fun r => { r with broken := [], restoring := false, lastStatus := none }).unstand 8 3).int pgRING 3

/-- The drain of a restoration has ended: the vertex sends the route command (R395). -/
def State.tryRoute (s : State) : State :=
  if s.ring.restoring && s.ring.deliv.all fun x => x.1 % 4 != 0 || x.2.unacked.isEmpty then
    (s.emit ⟨1, 0, everyDev, 0, .route⟩).routeWhole
  else s

/-- ACK_FRAME: a cumulative acknowledgement, with the sender's status. -/
def State.ackFrame (s : State) (port d vc : Nat) (seq : BitVec 16) (level low : Bool) (st : Nat) : State :=
  let s := s.took port vc
  let k := (s.deliv d vc).ackCount seq
  let s := s.cond (decide (0 < k)) fun s => s.setDeliv d vc fun x => { x with unacked := x.unacked.drop k, lastProg := s.now }
  let s := s.cond s.vertex fun s => s.remoteStatus d level low st
  let s := (List.range 8).foldl (fun (s : State) q =>
    match (s.dmaQ q).run with
    | some r => s.cond (r.kind == 4 && r.dev == d && (s.deliv d 0).acked r.upTo) fun s => s.setRun q fun r => { r with done := true }
    | none => s) s
  s.releaseComps.tryRoute

/-- STATUS_FRAME on the vertex. -/
def State.statusFrame (s : State) (port d : Nat) (level low : Bool) (st : Nat) : State :=
  let s := s.took port 0
  s.cond (s.vertex && s.present d) fun s => s.remoteStatus d level low st

/-- What a status frame or an acknowledgement of this device carries. -/
def State.ownStatus (s : State) : Bool × Bool × Nat :=
  (s.line (s.rd RING_CFG_FWD_TGT 0), s.faultNLow, if s.sys.dark then 0 else s.devState)

/-- STATUS_FRAME_SEND: at a change or a route change at once, otherwise 1 ms after the last. -/
def State.statusSend (s : State) : State :=
  if s.vertex || !s.ring.enumerated then s
  else
    let s := s.cond (s.ring.lastStatus == some s.ownStatus) fun s => s.reach (s.ring.statusAt + msT 1)
    let (l, f, st) := s.ownStatus
    (s.sendOnce 0 0 (.status l f st)).setRing fun r => { r with lastStatus := some (l, f, st), statusAt := s.now }

/-! ### Ports (R381, R383) -/

/-- A port direction is down: it trains again, and frames queued for it are discarded and counted (R393). -/
def State.portDirDown (s : State) (p : Nat) : State :=
  let lost := s.ring.queue.filter fun f => f.port == p
  let s := s.setRing fun r => { r with queue := r.queue.filter fun f => f.port != p }
  let s := lost.foldl (fun (s : State) f => s.satInc RING_DROP_CNT f.vc) s
  (s.wr RING_PORT_STAT_STATE p 1).wr (if p = 0 then RING_STAT_UP_UP else RING_STAT_DN_UP) 0 0

/-- RING_LANE_LOCK_LOSS of a lane for 1 µs. -/
def State.lockLoss (s : State) (p l : Nat) : State := (s.putBit RING_PORT_STAT_RX_LOCK p l false).portDirDown p

/-- HEADER_CRC_FAIL. -/
def State.headerCrc (s : State) (p : Nat) : State :=
  ((s.satInc RING_PORT_HDR_CNT p).wr RING_PORT_STAT_RX_LOCK p 0).portDirDown p

/-- FRAME_CRC_FAIL: the frame is discarded, its credit returned. -/
def State.frameCrc (s : State) (p vc : Nat) : State :=
  ((s.took p vc).satInc RING_PORT_CRC_CNT p).raise pgRING 6 allPorts

/-- PORT_RETRAIN. -/
def State.retrain (s : State) (p : Nat) : State :=
  ((s.wr RING_PORT_STAT_RX_LOCK p 0).wr RING_PORT_STAT_TX_OK p 0).portDirDown p

/-- RING_TRAINING_DONE of a direction of a port, received or sent; with both, the port is up, and its credits are fresh
(R36). -/
def State.trained (s : State) (p : Nat) (tx : Bool) (skew : Word) : State :=
  let s := if tx then s.wr RING_PORT_STAT_TX_OK p 0xF
    else (s.wr RING_PORT_STAT_RX_LOCK p 0xF).wr RING_PORT_SKEW p skew.toNat
  if s.rd RING_PORT_STAT_TX_OK p = 0xF ∧ s.rd RING_PORT_STAT_RX_LOCK p = 0xF ∧ ¬ s.rportUp p = true then
    let s := (s.wr RING_PORT_STAT_STATE p 2).wr (if p = 0 then RING_STAT_UP_UP else RING_STAT_DN_UP) 0 1
    let s := (List.range 4).foldl (fun (s : State) v => (s.setVc p v fun _ => {}).unstand 51 (4 * p + v)) s
    ((s.satInc RING_PORT_TRAIN_CNT p).unstand 8 (1 + p)).int pgRING 2
  else s

/-! ### Breaks (R393, R394) -/

/-- Remote DMA of kinds 1 and 2 in progress completes with STATUS 7 (Table 14-5). -/
def State.dmaReroute (s : State) : State :=
  (List.range 8).foldl (fun (s : State) q =>
    match (s.dmaQ q).run with
    | some r =>
      s.cond (!r.done && r.dev != s.devId && (r.kind == 1 || r.kind == 2)) fun s =>
        s.setRun q fun r => { r with status := 7, done := true }
    | none => s) s

/-- The arcs of the path from the reference to this device, as the messages last came (R189). -/
def State.timePath (s : State) : List Nat :=
  let n := s.ringSize
  (List.range (s.rd TIME_RING 0)).map fun k => if s.time.viaDn then (s.ringPos + k) % n else (s.ringPos + n - 1 - k % n) % n

/-- The device routes as a line around a broken arc; with a second one the ring is split. A follower whose time came over the
arc runs in holdover (R190). -/
def State.routeLine (s : State) (arc : Nat) : State :=
  if s.ring.broken.contains arc then s
  else
    let s := s.cond (s.timePath.contains arc) State.ringTimeLost
    let first := s.ring.broken.isEmpty
    let s := s.setRing fun r => { r with broken := r.broken ++ [arc], restoring := false, lastStatus := none }
    if !first then s.streamsReroute.wr RING_STAT_STATE 0 rSPLIT
    else
      let s := ((s.wr RING_STAT_STATE 0 rLINE).wr RING_STAT_BREAK_VALID 0 1).wr RING_STAT_BREAK_POS 0 arc
      let s := ((s.satInc RING_REROUTE_CNT 0).int pgRING 3).dmaReroute
      (s.ring.deliv.foldl (fun (s : State) x => s.cond (!x.2.unacked.isEmpty) fun s => s.replay (x.1 / 4) (x.1 % 4)) s).streamsReroute

/-- The arc at a port. -/
def State.arcAt (s : State) (p : Nat) : Nat :=
  if p = 1 then s.ringPos else (s.ringPos + s.ringSize - 1) % s.ringSize

/-- ARC_DOWN at a port of this device; where its own receiver is locked, the far direction is the one that failed. -/
def State.arcDown (s : State) (p : Nat) : State :=
  let s := s.cond (s.rportUp p) fun s => (s.wr RING_PORT_STAT_TX_OK p 0).portDirDown p
  let s := (s.stand 8 (1 + p)).raiseInt [(pgRING, 1)] pgRING 2 allPorts
  if !s.ring.enumerated then s
  else
    let a := s.arcAt p
    (s.emit ⟨1 - p, 0, everyDev, 0, .breakNotice a⟩).routeLine a

/-- BREAK_NOTICE_FRAME: the notice goes on over the other port. -/
def State.breakNotice (s : State) (p arc : Nat) : State :=
  let s := s.took p 0
  if s.ring.broken.contains arc then s
  else ((s.cond (s.rportUp (1 - p)) fun s => s.emit ⟨1 - p, 0, everyDev, 0, .breakNotice arc⟩)).routeLine arc

/-- A device is absent: the vertex discards what it has not acknowledged, and its levels read 0 (R391, R392, R394). -/
def State.devAbsent (s : State) (d : Nat) : State :=
  let x := s.deliv d 0
  let isWrite := fun (b : RingBody) => match b with | .write _ => true | _ => false
  let n := (x.unacked.filter fun f => isWrite f.body).length + (x.waiting.filter isWrite).length
  let s := (s.setDeliv d 0 fun x => { x with unacked := [], waiting := [] }).setDeliv d 3 fun x => { x with unacked := [] }
  let s := (s.satAdd RING_WDISC_CNT 0 n).cond (decide (0 < n)) fun s =>
    s.journal pgRING 0x0601 sevMINOR (pf 58 6 d + pf 0 16 n)
  let s := (s.remoteStatus d false false 0).setRing fun r => { r with remotes := r.remotes.filter fun x => x.1 != d }
  let s := (List.range 8).foldl (fun (s : State) q =>
    match (s.dmaQ q).run with
    | some r => s.cond (!r.done && r.kind == 4 && r.dev == d) fun s => s.setRun q fun r => { r with status := 3, done := true }
    | none => s) s
  s.releaseComps

/-- SPLIT: a second arc went down while the ring was a line; `gone`: the devices cut off from the vertex. -/
def State.split (s : State) (gone : List Nat) : State :=
  if s.ring.broken.length < 2 then s
  else
    let s := (((s.wr RING_STAT_STATE 0 rSPLIT).stand 8 3).raise pgRING 3 allPorts).streamsReroute
    s.cond s.vertex fun s => gone.foldl (fun (s : State) d => s.devAbsent d) s

/-- RING_RESTORE: by the host, or by AUTO_RESTORE, once every arc is up (R395). -/
def State.ringRestore (s : State) (host : Bool) : State :=
  if s.vertex && !s.ring.broken.isEmpty && s.ring.down.isEmpty && (host || s.on RING_CFG_AUTO_RESTORE 0) then
    (s.setRing fun r => { r with restoring := true }).tryRoute
  else s

/-- ROUTE_COMMAND_FRAME. -/
def State.routeCommand (s : State) (p : Nat) : State := (s.took p 0).routeWhole

/-! ### Enumeration (R380, R387, R388) -/

/-- This device is in an ID conflict (R23, R380): it goes to REHEARSAL, where it stays until the next reset. -/
def State.idConflict (s : State) : State :=
  if s.ring.conflict then s
  else
    let s := ((s.setRing fun r => { r with conflict := true }).stand 8 0)
    let s := (s.raiseInt [(pgRING, 6)] pgRING 1 allPorts).cancelCmd
    s.cond (!s.sys.dark) State.toRehearsal

/-- What this device appends to an enumeration frame. -/
def State.ownEntry (s : State) : MapEntry := ⟨s.devId, s.vertex, 0xB0#8, !s.sys.dark⟩

/-- ENUMERATION_START on the vertex: a frame over each trained port that no whole ring closes. -/
def State.enumStart (s : State) : State :=
  if !s.vertex then s
  else
    let s := s.cond (s.rportUp 1) fun s => s.emit ⟨1, 0, everyDev, 0, .enumeration [s.ownEntry]⟩
    s.cond (s.rportUp 0 && (!s.rportUp 1 || !s.ring.broken.isEmpty)) fun s =>
      s.emit ⟨0, 0, everyDev, 0, .enumeration [s.ownEntry]⟩

/-- The place of this device in the entries of a frame that came by port `p`: its position, counted from the vertex the way
the frame goes. -/
def enumPlace (p pos size : Nat) : Nat := if p = 0 then pos else size - pos

/-- ENUMERATION_FRAME: this device learns its position and the size, appends itself and passes the frame on. A frame that
already holds this device's entry is the vertex's notice of a conflict, and goes on as it is (log 71). -/
def State.enumFrame (s : State) (p pos size : Nat) (seen : List MapEntry) : State :=
  let s := s.took p 0
  let own := enumPlace p pos size
  let clash := (seen.eraseIdx own).any fun e => e.id == s.devId || (e.vtx && s.vertex)
  let s := s.cond clash State.idConflict
  if s.vertex then s
  else
    let s := ((s.wr RING_STAT_POS 0 pos).wr RING_STAT_SIZE 0 size).setRing fun r => { r with enumerated := true }
    let s := s.cond (s.ringState == rENUM) fun s => s.wr RING_STAT_STATE 0 (if s.ring.broken.isEmpty then rRING else rLINE)
    let s := s.unstand 8 4
    s.cond (s.rportUp (1 - p)) fun s => s.emit ⟨1 - p, 0, everyDev, 0, .enumeration (if own < seen.length then seen else seen ++ [s.ownEntry])⟩

/-- A word of RING_MAP. -/
def State.mapSet (s : State) (q : Nat) (e : Option MapEntry) : State :=
  match e with
  | some e =>
    let s := ((s.wr RING_MAP_VALID q 1).wr RING_MAP_VERTEX q e.vtx.toNat).wr RING_MAP_STATE q (if e.ready then 2 else 1)
    (s.wr RING_MAP_ID q e.id).wr RING_MAP_VERSION q e.version.toNat
  | none =>
    let s := ((s.wr RING_MAP_VALID q 0).wr RING_MAP_VERTEX q 0).wr RING_MAP_STATE q 0
    (s.wr RING_MAP_ID q 0).wr RING_MAP_VERSION q 0

/-- The IDs of a list as the two words of a presence register. -/
def idMask (l : List Nat) : Nat := l.foldl (fun a d => a ||| 2 ^ d) 0

/-- ENUMERATION_COMPLETE on the vertex: the devices by position, those that no frame reached absent, and the arcs down. Where
two of them conflict, the list goes round to every device (R23; DESIGN CHOICE, log 71). -/
def State.enumDone (s : State) (found : List (Option MapEntry)) (down : List Nat) : State :=
  if !s.vertex then s
  else
    let old := (List.range 64).filter s.present
    let es := found.filterMap id
    let ids := es.map (·.id)
    let m := idMask ids
    let s := (List.range 64).foldl (fun (s : State) q => s.mapSet q (found[q]?.getD none)) s
    let s := ((s.wr RING_PRES_LO 0 m).wr RING_PRES_HI 0 (m / 2 ^ 32)).wr RING_STAT_SIZE 0 es.length
    let st := if down.length ≥ 2 then rSPLIT else if down.isEmpty && s.ring.broken.isEmpty then rRING else rLINE
    let s := ((s.wr RING_STAT_STATE 0 st).wr RING_STAT_POS 0 0).setRing fun x => { x with enumerated := true, down := down }
    let s := s.cond down.isEmpty fun s => s.unstand 8 3
    let gone := old.filter fun d => !ids.contains d
    let came := ids.filter fun d => !old.contains d
    let s := gone.foldl (fun (s : State) d => (s.devAbsent d).raise pgRING 4 allPorts) s
    let dep := (s.ring.departed ++ gone).eraseDups.filter fun d => !ids.contains d
    let s := s.setRing fun x => { x with departed := dep }
    let s := if dep.isEmpty then s.unstand 8 5 else s.stand 8 5
    let s := s.cond (!gone.isEmpty || !came.isEmpty) fun s => s.int pgRING 4
    let clash := decide (ids.eraseDups.length < ids.length) || decide (1 < (es.filter (·.vtx)).length)
    let mine := decide (1 < (ids.filter (· == s.devId)).length) || decide (1 < (es.filter (·.vtx)).length)
    let s := s.cond mine State.idConflict
    let tell := fun (s : State) p => s.cond (s.rportUp p) fun s => s.emit ⟨p, 0, everyDev, 0, .enumeration es⟩
    let s := s.cond clash fun s => (tell s 1).cond (!down.isEmpty || !s.ring.broken.isEmpty) fun s => tell s 0
    let s := s.cond clash fun s => s.int pgRING 6
    s.int pgRING 0

/-- SINGLE_TIMEOUT: 100 ms after the release of the reset without a trained port, the vertex runs alone. -/
def State.singleTimeout (s : State) : State :=
  if !s.vertex || s.ring.enumerated || s.rportUp 0 || s.rportUp 1 then s
  else ((s.reach (s.boot.t0 + msT 100)).wr RING_STAT_STATE 0 rSINGLE).wr RING_STAT_SIZE 0 1

/-- NO_VERTEX_TIMEOUT: a trained port, and no enumeration within 1 s. -/
def State.noVertex (s : State) : State :=
  if s.vertex || s.ring.enumerated || !(s.rportUp 0 || s.rportUp 1) then s
  else (s.stand 8 4).raise pgRING 5 allPorts

/-! ### Ring reset and RING_CTL (R396) -/

/-- RING_RESET_GO: the vertex sends a ring reset. -/
def State.ringResetGo (s : State) (all : Bool) (d : Nat) : State :=
  if !s.vertex then s
  else if all then
    s.cond ((List.range 64).any fun d => d != s.devId && s.present d) fun s => s.emit ⟨1, 0, everyDev, 0, .ringReset⟩
  else if d = s.devId ∨ ¬ s.present d = true then s.refuse pgRING
  else s.sendOnce d 0 .ringReset

/-- A write of RING_CTL. -/
def State.writeRingCtl (s : State) (v : Word) : State :=
  let s := (s.wr RING_CTL_RST_ALL 0 (RING_CTL_RST_ALL.of v)).wr RING_CTL_RST_DEV 0 (RING_CTL_RST_DEV.of v)
  let s := s.cond (v.getLsbD 31) fun s => s.retrain 0
  let s := s.cond (v.getLsbD 30) fun s => s.retrain 1
  let s := s.cond (v.getLsbD 29) fun s => s.ringRestore true
  s.cond (v.getLsbD 28) fun s => s.ringResetGo (v.getLsbD 27) (RING_CTL_RST_DEV.of v)

/-! ### Time over the ring (R188) -/

/-- TIME_MESSAGE_SEND: the reference, at the next multiple of 1 ms. -/
def State.timeSend (s : State) : State :=
  if !s.isRef then s
  else
    (s.toMul evTIMEMSG 0 983040).timeOut

/-- ARC_DELAY_MEASUREMENT: at the next multiple of 1 ms a delay request goes out on each trained port. -/
def State.arcDelay (s : State) : State :=
  let s := s.toMul evARC 0 983040
  ([0, 1].filter s.rportUp).foldl (fun (s : State) p => s.emit ⟨p, 2, everyDev, 0, .delayReq s.now⟩) s

/-- DELAY_REQUEST_RECEIVED over a port, sent at `t1` of its sender. -/
def State.delayRequest (s : State) (p t1 : Nat) : State :=
  let s := s.took p 2
  s.cond (s.rportUp p) fun s => s.emit ⟨p, 2, everyDev, 0, .delayAns t1 s.now s.now⟩

/-- DELAY_ANSWER_RECEIVED: the round trip and the neighbour's turn-round in ps, and the correction for the lane skew. The
device at the downstream end of the arc, that of RING_UP, reports the delay of each direction. -/
def State.delayAnswer (s : State) (p : Nat) (dn : Bool) (rtt turn : Nat) (corr : Int) : State :=
  let s := s.took p 2
  let d := (max 0 (roundDiv ((rtt : Int) - turn + 2 * corr) 2)).toNat
  let s := s.setTime fun t => { t with arcs := t.arcs.set (2 * p + dn.toNat) d }
  if p ≠ 0 then s else s.wr (if dn then TIME_ARC_DN else TIME_ARC_UP) 0 d

end Sys2Proof.Machine
end

