-- ==== Sys2Proof/Machine/Dma.lean ====
section
/-! DEFINITION. The host interface and the DMA queues (spec/13_host_interface.md R354 to R363, R371, R374): descriptors,
completion entries and moderation, queue states, host sleep, the link and bad accesses. -/
namespace Sys2Proof.Machine
open Sys2Proof

/-! ### Descriptors (R359) -/

end Sys2Proof.Machine

namespace Sys2Proof
open Sys2Proof.Machine

def Desc.kind (d : Desc) : Nat := bits d.w0 28 4
def Desc.notify (d : Desc) : Bool := d.w0.getLsbD 27
def Desc.dev (d : Desc) : Nat := bits d.w0 16 6
def Desc.tag (d : Desc) : Nat := bits d.w0 0 16
def Desc.len (d : Desc) : Nat := d.w1.toNat
def Desc.part (d : Desc) : Nat := bits d.w1 16 3
def Desc.count (d : Desc) : Nat := bits d.w1 0 9
def Desc.devAddr (d : Desc) : Nat := d.w2.toNat + d.w3.toNat * 2 ^ 32
def Desc.host (d : Desc) : Nat := d.w4.toNat + d.w5.toNat * 2 ^ 32

end Sys2Proof

namespace Sys2Proof.Machine
open Sys2Proof

/-- The regions of a slice that pages or windows are mapped to (Table 18-1): first offset and length. -/
def regions : List (Nat × Nat) :=
  [(0, 0x1000), (0x1000, 0x1000), (0x2000, 0x1000), (0x4000, 0x1000), (0x5000, 0x2000), (0x8000, 0x1000), (0x9000, 0x1000),
   (0xA000, 0x1000), (0xB000, 0x1000), (0xC000, 0x1000), (0xD000, 0x1000), (0xE000, 0x1000), (0xF000, 0x1000),
   (0x10000, 0x1000), (0x11000, 0x1000), (0x12000, 0x1000), (0x13000, 0x1000), (0x14000, 0x1000), (0x15000, 0x1000),
   (0x16000, 0x1000), (0x17000, 0x2000), (0x19000, 0x1000), (0x1A000, 0x1000), (0x1B000, 0x1000), (0x1C000, 0x1000)] ++
  [(0x20000, 0x8000), (0x28000, 0x8000), (0x30000, 0x20000), (0x50000, 0x1000), (0x51000, 0x1000), (0x52000, 0x1000),
   (0x53000, 0x1000), (0x54000, 0x1000), (0x55000, 0x1000), (0x100000, 0x80000), (0x200000, 0x200000), (0x400000, 0x4000),
   (0x404000, 0xC000), (0x410000, 0x4000)]

/-- The STATUS of a descriptor that cannot run (Table 13-5): alignment and kind first, then its limits, then the range of
kinds 3 and 4, then the device. -/
def State.descErr (s : State) (d : Desc) : Option Nat :=
  let k := d.kind
  let a := d.devAddr
  let reg := k = 3 ∨ k = 4
  if 4 < k then some 6
  else if k ≠ 0 ∧ (d.host % 4 ≠ 0 ∨ (k ≠ 2 ∧ (a % 4 ≠ 0 ∨ d.len % 4 ≠ 0))) then some 6
  else if k = 1 ∧ (d.len < 4 ∨ 0x1000000 < d.len ∨ 0x1000000 < a + d.len) then some 1
  else if k = 2 ∧ (d.count < 1 ∨ 256 < d.count ∨ 4 < d.part) then some 1
  else if reg ∧ (d.len < 4 ∨ 0x10000 < d.len ∨ 0x1000000 < a + d.len) then some 1
  else if reg ∧ ((regions.all fun r => !(decide (r.1 ≤ a) && decide (a + d.len ≤ r.1 + r.2))) = true
      ∨ (a < 0x7000 ∧ 0x5000 < a + d.len)) then some 6
  else if k ≠ 0 ∧ d.dev ≠ s.devId ∧ ¬ (s.vertex && s.present d.dev) = true then some 3
  else none

/-- A word of WIN_B (Table 13-2). -/
def State.winB (s : State) (a : Nat) : Word :=
  if a < 0x800000 then s.ld (capBase + a) else if a < 0x880000 then s.ld (cteCapBase + (a - 0x800000)) else 0

/-- The data of a kind 1 or 2 descriptor on the device that holds it: STATUS, first bad unit, words (R349). -/
def State.bulkData (s : State) (d : Desc) : Nat × Nat × List Word :=
  if d.kind = 1 then (0, 0, (List.range (d.len / 4)).map fun i => s.winB (d.devAddr + 4 * i))
  else if s.partUnits d.part < d.devAddr + d.count then (1, 0, [])
  else
    let us := (List.range d.count).map (d.devAddr + ·)
    let bad := fun u => s.stm.badUnits.contains (d.part, u)
    let ws := us.flatMap fun u => if bad u then List.replicate 1024 (0 : Word) else s.mediumUnit d.part u
    match us.find? bad with
    | some u => (2, u, ws)
    | none => (0, 0, ws)

/-! ### Completion (R358, R361, R362) -/

def State.qState (s : State) (q : Nat) : Nat := s.rd DMA_Q_STAT_STATE q
def State.cqFull (s : State) (q : Nat) : Bool := s.cqBeyond q (s.rd DMA_CQ_HEAD q) == 1023
/-- A queue may start the descriptor at HEAD. -/
def State.mayStart (s : State) (q : Nat) : Bool :=
  s.qState q == qRUNNING && (s.dmaQ q).run.isNone && s.rd DMA_Q_HEAD q != s.rd DMA_Q_TAIL q && !s.cqFull q
    && !s.on HIF_PM_D3 0

/-- SIG moves to CQ_TAIL. -/
def State.signal (s : State) (q : Nat) : State :=
  (s.wr DMA_Q_STAT_SIG q (s.rd DMA_CQ_TAIL_TAIL q)).setDmaQ q fun x => { x with unsig := [] }

/-- The descriptor at HEAD starts. -/
def State.descBegin (s : State) (q : Nat) (r : DmaRun) : State :=
  (s.inc DMA_Q_HEAD q).setDmaQ q fun x => { x with run := some r }

/-- The descriptor as it starts. -/
def State.runOf (s : State) (q : Nat) (d : Desc) : DmaRun :=
  { idx := s.rd DMA_Q_HEAD q, tag := d.tag, notify := d.notify, kind := d.kind, dev := d.dev, host := d.host, status := 0,
    bytes := 0, info := 0, done := false, upTo := 0, failed := false }

/-- A descriptor of kind `k` starts: with a STATUS where it cannot run, and otherwise with `f`. -/
def State.descRun (s : State) (q : Nat) (d : Desc) (k : Nat) (f : State → State) : State :=
  if !s.mayStart q || d.kind != k then s
  else match s.descErr d with
    | some e => s.descBegin q { s.runOf q d with status := e, done := true }
    | none => f (s.descBegin q (s.runOf q d))

/-- DESC_NOP. -/
def State.descNop (s : State) (q : Nat) (d : Desc) : State :=
  s.descRun q d 0 fun s => s.setRun q fun r => { r with done := true }

/-- The data of a descriptor of this device go to the host. -/
def State.bulkHere (s : State) (q : Nat) (d : Desc) : State :=
  let (st, info, ws) := s.bulkData d
  let s := s.cond (!ws.isEmpty) fun s => s.toHost (.write d.host ws)
  s.setRun q fun r => { r with status := st, info := info, bytes := 4 * ws.length, done := true }

/-- Work comes to the medium. -/
def State.work (s : State) (w : Work) : State := s.setStm fun x => { x with work := x.work ++ [w] }

/-- DESC_MEMORY_READ and DESC_MEDIUM_READ: of this device at once, but for the medium in its turn (R340); of another by a bulk
request (R384). -/
def State.descBulk (s : State) (q : Nat) (d : Desc) (k : Nat) : State :=
  s.descRun q d k fun s =>
    if d.dev = s.devId then (if k = 2 then s.work (.bulk q d) else s.bulkHere q d)
    else s.sendRel d.dev 3 (.bulkReq q d)

/-- DESC_REFUSED_KIND. -/
def State.descRefused (s : State) (q : Nat) (d : Desc) : State :=
  if s.descErr d = some 6 then s.descRun q d d.kind id else s

/-- DESC_FETCH_ERROR (R363). -/
def State.descFetch (s : State) (q : Nat) : State :=
  if !s.mayStart q then s
  else
    let r := s.runOf q ⟨0, 0, 0, 0, 0, 0⟩
    let s := s.descBegin q { r with tag := 0xFFFF, status := 4, done := true, failed := true }
    ((s.wr DMA_Q_STAT_STATE q qSTOPPED).stand 7 q).raise pgDMA 1 allPorts

/-- A completion entry is written at CQ_TAIL (Table 13-4), with the moderation of R362. -/
def State.writeEntry (s : State) (q : Nat) (r : DmaRun) : State :=
  let t := s.rd DMA_CQ_TAIL_TAIL q
  let base := s.rd DMA_CQ_BASE_LO q + s.rd DMA_CQ_BASE_HI q * 2 ^ 32
  let w0 := pf 31 1 (s.rd DMA_CQ_TAIL_PHASE q) + pf 24 4 r.status + pf 0 16 r.tag
  let w : Nat → Word := BitVec.ofNat 32
  let s := s.toHost (.write (base + 16 * t) [w w0, w r.bytes, w (if r.status = 2 then r.info else 0), w r.idx])
  let s := s.inc DMA_CQ_TAIL_TAIL q
  let s := s.cond (s.rd DMA_CQ_TAIL_TAIL q == 0) fun s => s.wr DMA_CQ_TAIL_PHASE q (1 - s.rd DMA_CQ_TAIL_PHASE q)
  let s := s.satInc DMA_Q_DONE_CNT q
  let s := s.cond (r.status != 0) fun s =>
    ((s.satInc DMA_Q_ERR_CNT q).wr DMA_Q_STAT_LAST_ERR q r.status).wr DMA_Q_STAT_ERR_SEEN q 1
  let mt := s.rd DMA_Q_CFG_MOD_TIME q
  let s := s.setDmaQ q fun x =>
    { x with run := none, unsig := x.unsig ++ [if mt = 0 then none else some (s.now + usT mt)] }
  let full := decide (s.rd DMA_Q_CFG_MOD_CNT q ≤ (s.dmaQ q).unsig.length)
  s.cond (full || r.notify || r.status != 0 || s.on HIF_PM_ASLEEP_NOW 0) fun s => s.signal q

/-- DESC_COMPLETE. -/
def State.descComplete (s : State) (q : Nat) : State :=
  match (s.dmaQ q).run with
  | some r => if r.done && !s.on HIF_PM_D3 0 then s.writeEntry q r else s
  | none => s

/-- MODERATION_TIMEOUT of the oldest unsignalled entry. -/
def State.modTimeout (s : State) (q : Nat) : State :=
  match (s.dmaQ q).unsig with
  | some t :: _ => (s.reach t).signal q
  | _ => s

/-- CQ_HEAD_WRITE. -/
def State.writeCqHead (s : State) (q : Nat) (v : Word) : State :=
  let s := s.wr DMA_CQ_HEAD q (DMA_CQ_HEAD.of v)
  let n := s.cqBeyond q (s.rd DMA_CQ_HEAD q)
  s.setDmaQ q fun x => { x with unsig := x.unsig.drop (x.unsig.length - n) }

/-! ### Queue states (R363) -/

/-- A write of DMA_Q_CFG_q. QUEUE_ENABLE, QUEUE_DISABLE and QUEUE_RESET are its forms. -/
def State.writeQCfg (s : State) (q : Nat) (v : Word) : State :=
  let en := v.getLsbD 31
  let cnt := DMA_Q_CFG_MOD_CNT.of v
  let time := DMA_Q_CFG_MOD_TIME.of v
  let bad := decide (s.rd DMA_Q_BASE_LO q % 4096 ≠ 0) || decide (s.rd DMA_CQ_BASE_LO q % 4096 ≠ 0) || decide (cnt = 0)
    || (decide (time = 0) && decide (1 < cnt))
  if v.getLsbD 30 && (en || s.on DMA_Q_CFG_EN q || s.qState q != qIDLE) then s.refuse pgDMA
  else if en && bad then s.refuse pgDMA
  else
    let was := s.on DMA_Q_CFG_EN q
    let s := s.wrWord [DMA_Q_CFG_EN, DMA_Q_CFG_MOD_CNT, DMA_Q_CFG_MOD_TIME] q v
    let s := s.cond (v.getLsbD 30) fun s =>
      let s := ((s.wr DMA_Q_TAIL q 0).wr DMA_Q_HEAD q 0).wr DMA_CQ_HEAD q 0
      (((s.wr DMA_CQ_TAIL_TAIL q 0).wr DMA_CQ_TAIL_PHASE q 1).wr DMA_Q_STAT_SIG q 0).setDmaQ q fun x => { x with unsig := [] }
    if en && !was then (s.wr DMA_Q_STAT_STATE q qRUNNING).unstand 7 q
    else if !en && was then s.wr DMA_Q_STAT_STATE q (if s.qState q = qSTOPPED then qIDLE else qDRAINING)
    else s

/-- QUEUE_DRAINED. -/
def State.qDrained (s : State) (q : Nat) : State :=
  if s.qState q == qDRAINING && (s.dmaQ q).run.isNone then s.wr DMA_Q_STAT_STATE q qIDLE else s

/-- A write of a ring base. -/
def State.writeQBase (s : State) (f : Fld) (q : Nat) (v : Word) : State :=
  if s.on DMA_Q_CFG_EN q then s.refuse pgDMA else s.wr f q v.toNat

/-- BUF_PARITY: the descriptor completes with STATUS 5. -/
def State.bufParity (s : State) (q : Nat) : State :=
  (s.setRun q fun r => { r with status := 5, done := true }).raise pgDMA 2 allPorts

/-! ### Host sleep and power states (R363, R371) -/

/-- Host sleep begins. -/
def State.sleepBegin (s : State) : State :=
  if s.on HIF_PM_ASLEEP_NOW 0 then s
  else
    let s := s.wr HIF_PM_ASLEEP_NOW 0 1
    let ts := (List.range 4).filter fun t => s.on IC_TGT_CFG_DELIV t
    let s := ts.foldl (fun (s : State) t => s.wr IC_TGT_CFG_ASLEEP t 1) s
    (List.range 8).foldl (fun (s : State) q => s.signal q) s

/-- Host sleep ends once SLEEP reads 0 and the function is in D0. -/
def State.sleepEnd (s : State) : State :=
  if !s.on HIF_PM_ASLEEP_NOW 0 || s.on HIF_PM_SLEEP 0 || s.on HIF_PM_D3 0 then s
  else
    let ts := (List.range 4).filter fun t => s.on IC_TGT_CFG_DELIV t
    ts.foldl (fun (s : State) t => (s.wr IC_TGT_CFG_ASLEEP t 0).clrBits IC_WAKE 0 (2 ^ t)) (s.wr HIF_PM_ASLEEP_NOW 0 0)

/-- A write of HIF_PM. -/
def State.writeHifPm (s : State) (v : Word) : State :=
  let s := s.wr HIF_PM_SLEEP 0 (HIF_PM_SLEEP.of v)
  if s.on HIF_PM_SLEEP 0 then s.sleepBegin else s.sleepEnd

/-- D3HOT_ENTRY, with PME_En as configuration space holds it. -/
def State.d3Enter (s : State) (pmeEn : Bool) : State :=
  let s := (s.wr HIF_PM_D3 0 1).setHif fun h => { h with pmeEn := pmeEn }
  let s := (List.range 8).foldl (fun (s : State) q => s.setRun q fun r => { r with status := 5, done := true }) s
  s.sleepBegin

/-- D0_RETURN: the entries of the descriptors cut short are written, and their queues stop. -/
def State.d0Return (s : State) : State :=
  if !s.on HIF_PM_D3 0 then s
  else
    let s := s.wr HIF_PM_D3 0 0
    let s := (List.range 8).foldl (fun (s : State) q =>
      match (s.dmaQ q).run with
      | some r => (s.writeEntry q r).wr DMA_Q_STAT_STATE q qSTOPPED
      | none => s) s
    s.sleepEnd

/-! ### The link (R354, R356, R374) -/

/-- LINK_DOWN without a reset. -/
def State.linkDown (s : State) : State :=
  let s := ((s.wr HIF_LINK_UP 0 0).wr HIF_LINK_SPEED 0 0).wr HIF_LINK_WIDTH 0 0
  ((s.satInc HIF_LINKDN_CNT 0).stand 6 0).raiseInt [(pgHIF, 0)] pgHIF 4 allPorts

/-- LINK_UP at a rate and a width, within MAX_GT and the strap. -/
def State.linkUp (s : State) (speed width : Nat) : State :=
  let s := (s.wr HIF_LINK_UP 0 1).wr HIF_LINK_SPEED 0 (min speed (s.rd HIF_CFG_MAX_GT 0))
  ((s.wr HIF_LINK_WIDTH 0 (min width (s.rd HIF_LINK_STRAP_W 0))).int pgHIF 0).unstand 6 0

/-- PCIE_ERROR_TLP, or an error of the link that was corrected (HIF_CORR_CNT). -/
def State.tlpError (s : State) (corr : Bool) : State :=
  if corr then s.satInc HIF_CORR_CNT 0 else (s.satInc HIF_UNCORR_CNT 0).raise pgHIF 3 allPorts

/-- BAD_ACCESS: a malformed request of WIN_A, or a malformed read of WIN_B. -/
def State.badAccess (s : State) (winB read : Bool) (off : Nat) : State :=
  let s := ((s.satInc HIF_BADACC_CNT 0).wr HIF_BADACC_ADDR_WIN 0 winB.toNat).wr HIF_BADACC_ADDR_OFFSET 0 off
  (s.raise pgHIF 1 allPorts).cond read fun s => s.toHost (.readData 0xFFFFFFFF#32)

/-- A write of HIF_CFG. -/
def State.writeHifCfg (s : State) (v : Word) : State :=
  let g := HIF_CFG_MAX_GT.of v
  let t := HIF_CFG_TUN_TO.of v
  if g < 1 ∨ 4 < g ∨ t < 2 ∨ 10000 < t then s.refuse pgHIF
  else s.wrWord [HIF_CFG_RO_EN, HIF_CFG_MAX_GT, HIF_CFG_TUN_TO] 0 v

/-! ### Frames under reliable delivery (R389) -/

/-- The acknowledgement of the last frame applied. -/
def State.sendAck (s : State) (d vc : Nat) : State :=
  let (l, f, st) := s.ownStatus
  s.sendOnce d 0 (.ack ((s.deliv d vc).expect + 65535) l f st)

/-- A sequenced frame arrives: whether it is to be applied, and the state. A device that starts discards it unanswered
(R388); a duplicate is acknowledged again; a later one draws one NAK. -/
def State.rxSeq (s : State) (port src vc : Nat) (seq : BitVec 16) : Bool × State :=
  let s := s.took port vc
  let x := s.deliv src vc
  let k := (seq - BitVec.ofNat 16 x.expect).toNat
  if s.sys.dark then (false, s)
  else if k = 0 then (true, s.setDeliv src vc fun x => { x with expect := x.expect + 1, nakSent := false })
  else if 2 ^ 15 ≤ k then (false, s.sendAck src vc)
  else if x.nakSent then (false, s)
  else (false, (s.setDeliv src vc fun x => { x with nakSent := true }).sendOnce src 0 (.nak x.expect))

/-- Pieces of at most `n` elements. -/
def pieces {α : Type} (n : Nat) : Nat → List α → List (List α)
  | 0, _ => []
  | _ + 1, [] => []
  | fuel + 1, l => l.take n :: pieces n fuel (l.drop n)

/-- The data of a descriptor of another device's queue go to it, in frames of up to 32 blocks. -/
def State.bulkThere (s : State) (src q : Nat) (d : Desc) : State :=
  let (st, info, ws) := s.bulkData d
  let ps := pieces 64 (ws.length / 64 + 1) ws
  match ps with
  | [] => s.sendRel src 3 (.bulkData q st info true [])
  | _ =>
    let n := ps.length
    (ps.zipIdx).foldl (fun (s : State) x => s.sendRel src 3 (.bulkData q st info (x.2 + 1 == n) x.1)) s

/-- BULK_REQUEST_FRAME: this device holds the data. -/
def State.bulkRequest (s : State) (port src : Nat) (seq : BitVec 16) (q : Nat) (d : Desc) : State :=
  let (ok, s) := s.rxSeq port src 3 seq
  if !ok then s
  else
    let s := s.sendAck src 3
    if d.kind = 2 then s.work (.send src q d) else s.bulkThere src q d

/-- BULK_DATA_FRAME on the vertex. -/
def State.bulkArrive (s : State) (port src : Nat) (seq : BitVec 16) (q st info : Nat) (last : Bool) (ws : List Word) : State :=
  let (ok, s) := s.rxSeq port src 3 seq
  if !ok then s
  else
    let s := s.sendAck src 3
    match (s.dmaQ q).run with
    | some r =>
      if r.done ∨ r.dev ≠ src then s
      else
        let s := s.cond (!ws.isEmpty) fun s => s.toHost (.write (r.host + r.bytes) ws)
        s.setRun q fun r => { r with bytes := r.bytes + 4 * ws.length, status := st, info := info, done := last }
    | none => s

end Sys2Proof.Machine
end

