-- ==== Sys2Proof/Machine/Medium.lean ====
section
/-! DEFINITION. Reads of the medium (spec/12_storage_manager.md R326, R327, R333, R334) and the order in which work on it is
served (R340). -/
namespace Sys2Proof.Machine
open Sys2Proof

/-! ### Codewords -/

/-- The write sequence of the codeword of a unit: of the last program of it. -/
def State.unitSeq (s : State) (part unit : Nat) : Nat :=
  match s.stm.progs.find? fun p => p.1 == part && decide (p.2.1 ≤ unit) && decide (unit < p.2.1 + p.2.2.1) with
  | some (_, u, _, q) => q + (unit - u)
  | none => 0

/-- The 4,096 data bytes and 16 metadata bytes of a codeword, byte 0 lowest (R333). -/
def State.cwBody (s : State) (part unit : Nat) : BitVec 32896 :=
  let q := s.unitSeq part unit
  let md := Config.cwMeta part unit q (Config.eraseCount part unit q)
  md ++ BitVec.ofNat 32768 ((s.mediumUnit part unit).foldr (fun w a => w.toNat + a * 2 ^ 32) 0)

/-- A codeword with its 464 parity bytes. -/
def State.codeword (s : State) (part unit : Nat) : BitVec 36608 :=
  Config.ldpcParity (s.cwBody part unit) ++ s.cwBody part unit

/-- How a copy of a codeword is decoded. -/
inductive Decoded where
  | clean | hard | soft | failed
  deriving DecidableEq, Repr

/-- A copy is read, first plainly and then once for each retry index, each read with bits in error: hard decoding first, then,
if retry is configured, soft decoding over all the reads (R327, R333). -/
def State.decodeCopy (s : State) (part unit : Nat) (errs : List (BitVec 36608)) : Decoded :=
  let cw := s.codeword part unit
  let steps := s.rd STM_RETRY_STEPS 0
  match errs with
  | [] => .failed
  | e :: es =>
    if e = 0 then .clean
    else if Config.ldpcHard (cw ^^^ e) then .hard
    else if steps ≠ 0 ∧ Config.ldpcSoft ((e :: es.take steps).map (cw ^^^ ·)) = true then .soft
    else .failed

/-- The SET FEATURES commands for a copy: pSLC or native operation where the medium has both (R326), and with a failing hard
read the retry index before each retry read and 0 after them (R327). -/
def State.copyFeats (s : State) (part : Nat) (r : Decoded) : List (Nat × Nat) :=
  let mode := if s.rd STM_GEOM_BPC 0 = 1 ∨ s.rd STM_PSLC_EN 0 = 0 then []
    else [(s.rd STM_PSLC_FEAT 0, if part = 2 ∨ part = 3 then s.rd STM_PSLC_OFF 0 else s.rd STM_PSLC_ON 0)]
  let steps := s.rd STM_RETRY_STEPS 0
  let f := s.rd STM_RETRY_FEAT 0
  if r = .clean ∨ r = .hard ∨ steps = 0 then mode
  else mode ++ ((List.range steps).map fun k => (f, k + 1)) ++ [(f, 0)]

/-- A codeword of a unit is read from its copies, the mirror copy of BOOK and TOMB first (R334): the first that decodes is
taken, and only the failure of every copy counts. DESIGN CHOICE (log 109): a codeword that the soft decoder corrects counts in
STM_ECC_SOFT alone. -/
def State.codewordRead (s : State) (part unit : Nat) (copies : List (List (BitVec 36608))) : State :=
  let rs := copies.map (s.decodeCopy part unit)
  let tried := rs.take (1 + (rs.takeWhile (· == .failed)).length)
  let s := s.setStm fun x => { x with feats := tried.flatMap (s.copyFeats part) }
  match rs.find? (· != .failed) with
  | none | some .failed => s.codewordUnc part unit
  | some .clean => s
  | some .hard => s.satInc STM_ECC_CORR 0
  | some .soft => s.satInc STM_ECC_SOFT 0

/-! ### The order of work (R340) -/

/-- The place of work in the order: 3 host reads, 4 snapshots, 5 history, 6 refreshes, 7 scrub. -/
def Work.prio : Work → Nat
  | .pbRead | .bulk _ _ | .send _ _ _ => 3
  | .snapshot => 4
  | .history _ _ => 5
  | .refresh _ _ _ _ => 6
  | .scrub => 7

/-- Work before place `p` waits: book programs that a flush has handed over, the vault's records, or work that came. -/
def State.ahead (s : State) (p : Nat) : Bool :=
  (decide (0 < s.pb.mainCap) && s.pb.staging.any fun r => r.closed && r.handed)
    || (s.pb.cold && !s.pb.restored && s.on STM_STAT_READY 0 && s.rd STM_STAT_MEDIUM 0 == medOWN)
    || (decide (4 < p) && s.rd STM_CAP_STAT 0 == capWRITING)
    || s.stm.work.any fun w => decide (w.prio < p)

/-- Work is done. -/
def State.doWork (s : State) (w : Work) : State :=
  match w with
  | .pbRead => s.pbReadDone
  | .bulk q d => s.bulkHere q d
  | .send src q d => s.bulkThere src q d
  | .snapshot => s.snapStored
  | .history no ws => s.histPlace no ws
  | .refresh why pslc mx mean => s.blockRefresh why pslc mx mean
  | .scrub => s.scrubDone

/-- Work in its turn: done where nothing before it waits, and otherwise waiting on. -/
def State.turn (s : State) (w : Work) : State := if s.ahead w.prio then s.work w else s.doWork w

/-- The waiting work is served in its order. DESIGN CHOICE (log 110): an event that ends work on the medium takes effect once
no work of a higher priority waits. -/
def State.serve (s : State) : State :=
  let l := s.stm.work
  if l.isEmpty then s
  else
    [3, 4, 5, 6, 7].foldl (fun (s : State) p => (l.filter fun w => w.prio == p).foldl State.turn s)
      (s.setStm fun x => { x with work := [] })

/-- Work comes, and is served in its turn. -/
def State.medium (s : State) (w : Work) : State := (s.work w).serve

/-- PB_READ_DONE: a record on the medium is read in the order of the medium's work, one in staging or the vault at once. -/
def State.readBook (s : State) : State :=
  match s.pb.rdPending with
  | none => s
  | some n => if 3 ≤ (s.findNumber n).1 then s.medium .pbRead else s.pbReadDone

end Sys2Proof.Machine
end

