-- ==== Sys2Proof/Machine/Boot.lean ====
section
/-! DEFINITION. Resets and start-up (spec/17_startup_and_settings.md), what each reset kind keeps (Table 17-2, Table 18-3),
the one-time memory, host access to the settings memory, and the supply monitor and GPIO (spec/19, R487, R503). -/
namespace Sys2Proof.Machine
open Sys2Proof

/-! ### What each reset kind keeps (R445, R474) -/

/-- Power-on and pin resets. -/
def ResetKind.full : ResetKind → Bool
  | .powerOn | .pin => true
  | .host | .ring | .fabric => false

/-- A register field, by its word and lowest bit, that no reset kind returns to a reset value: the SEC page, the fields of
the medium, and the vault's counts (Table 18-3). -/
def keptByAll (a lo : Nat) : Bool :=
  (0x2000 ≤ a && a < 0x3000 && !(0x2050 ≤ a && a ≤ 0x2070) && !(a == 0x2040 && lo < 29))
    || a == 0x9040 || (a == 0x9044 && lo == 0) || a == 0x906C || (0x9084 ≤ a && a ≤ 0x9090) || (0x90B0 ≤ a && a ≤ 0x90BC)
    || a == 0x90D8 || a == 0x90F8 || a == 0x9104 || a == 0x9108 || a == 0x8084

/-- A field that every kind but power-on keeps (class P), the supply levels among them, which the monitor finds again. -/
def keptByPin (a lo : Nat) : Bool :=
  (0x8000 ≤ a && a < 0x9000 && a != 0x8040 && a != 0x801C) || a == 0x1404C || (a == 0x14044 && 30 ≤ lo)
    || (a == 0x80 && (lo == 0 || lo == 8))

/-- A field that host, ring and fabric resets keep besides (classes W and S, R163, R200, R303, R352, R398, R420, R439). -/
def keptBySoft (a lo : Nat) : Bool :=
  (a == 0x44 && (lo == 16 || lo == 13)) || (a == 0x80 && lo == 31) || a == 0x1050
    || a == 0x4040 || a == 0x4044 || a == 0x4050 || (a == 0x4054 && lo == 29) || (0x4058 ≤ a && a ≤ 0x4078)
    || (0x4080 ≤ a && a < 0x4180)
    || a == 0x8040 || a == 0x801C || (0x9000 ≤ a && a < 0xA000) || a == 0xA040
    || a == 0xC044 || a == 0xC04C || a == 0xC050 || ((a == 0xC080 || a == 0xC0A0 || a == 0xC090 || a == 0xC0B0))
    || (0xC100 ≤ a && a < 0xC200)
    || (a == 0xD044 && (lo == 20 || lo == 26 || lo == 15 || lo == 16)) || a == 0xD060 || a == 0xD068
    || (a == 0x11040 && lo == 8) || a == 0x11044 || (0x11080 ≤ a && a ≤ 0x1109C && lo ≤ 9)
    || (0x15000 ≤ a && a < 0x16000) || (a == 0x16040 && lo == 0)
    || (0x17000 ≤ a && a < 0x19000
        && (a % 0x1000 == 0x40 || a % 0x1000 == 0x44 || a % 0x1000 == 0x48 || a % 0x1000 == 0x80 || a % 0x1000 == 0x84))

/-- A counter of the RING page, which ring resets keep (class K). -/
def keptByRing (a : Nat) : Bool :=
  (0xC064 ≤ a && a ≤ 0xC070) || (0xC084 ≤ a && a ≤ 0xC08C) || (0xC0A4 ≤ a && a ≤ 0xC0AC) || (0xC0C0 ≤ a && a ≤ 0xC0CC)
    || a == 0xC0DC || a == 0xC0E0

def ResetKind.keeps (k : ResetKind) (key : Nat) : Bool :=
  let a := key / 32
  let lo := key % 32
  match k with
  | .powerOn => keptByAll a lo
  | .pin => keptByAll a lo || keptByPin a lo
  | .host | .fabric => keptByAll a lo || keptByPin a lo || keptBySoft a lo
  | .ring => keptByAll a lo || keptByPin a lo || keptBySoft a lo || keptByRing a

/-- A source whose unmet recovery condition is held in state that the reset keeps, or is found again at once after it, so
that its standing signal stays (R303). -/
def State.keepsStand (s : State) (k : ResetKind) (n : Nat) : Bool :=
  match k with
  | .powerOn => false
  | .pin => n == 4 || n == 53 || n == 54 || (n == 20 && s.thm.shut)
  | .host | .ring | .fabric =>
    [4, 5, 8, 9, 11, 16, 21, 51, 53, 54, 55].contains n || (n == 6 && !s.on HIF_LINK_UP 0) || (n == 20 && s.thm.shut)

/-- The collector's state of a source over a reset. -/
def State.resetSrc (s : State) (k : ResetKind) (n : Nat) (x : FcSrc) : FcSrc :=
  let keep := s.keepsStand k n
  let m := if n = 8 then x.stand &&& 0xFFFFFFFE#32 else x.stand
  if k.full then (if keep then { stand := m } else {})
  else if keep then { x with stand := m, await := 0 }
  else { x with stand := 0, await := 0, quiet := if x.stand = 0 then x.quiet else s.now }

/-- What a reset leaves of the recorder: the loss of supplies clears staging, and the vault holds what the flush has
written, `kept` records of it where it did not end (R316 to R318). -/
def PbSt.reset (p : PbSt) (k : ResetKind) (kept : Nat) : PbSt :=
  let p := { p with restored := false, rdPending := none, vfyLeft := 0, vfyStop := false }
  match k with
  | .powerOn =>
    let p := if p.cold then p
      else { p with vault := if p.pfDone then p.vault else if p.pf then (p.staging.filter (·.closed)).take kept else [],
                    markDone := p.pf && p.pfDone, head := if p.pf then p.head else { p.head with valid := false } }
    { p with staging := [], held := [], waiting := [], pf := false, pfDone := false, pfEvents := 0, cold := true,
             next := if p.head.valid then p.head.next else BitVec.ofNat 40 p.reserve, lastTag := p.head.tag,
             rlWin := 0, rlIssued := [], rlSupp := [] }
  | .pin => { p with rlWin := 0, rlIssued := [], rlSupp := [] }
  | .host | .ring | .fabric => p

/-- A port of the Curtain over a host, ring or fabric reset (R163). -/
def CurPort.reset (c : CurPort) : CurPort := { c with lift := .none, completing := false }

/-- The blocks are reset, and the device is in DARK (R443, Table 17-2). -/
def State.resetBlocks (s : State) (k : ResetKind) (kept : Nat) : State :=
  let f := k.full
  let t := s.time
  let r := s.ring
  { s with
    regs := s.regs.filter fun x => k.keeps x.1
    mem := s.mem.filter fun c => decide (capBase ≤ c.1 ∧ c.1 < cteCapBase)
    sys := {}
    boot := { inReset := some k, reqAt := s.now, kind := k, otp0 := s.boot.otp0, otp1 := s.boot.otp1, otp2 := s.boot.otp2,
              slot0 := s.boot.slot0, slot1 := s.boot.slot1, slot2 := s.boot.slot2 }
    fc := { srcs := s.fc.srcs.map fun x => (x.1, s.resetSrc k x.1 x.2) }
    pb := s.pb.reset k kept
    cur := if f then {} else { ports := s.cur.ports.map fun x => (x.1, x.2.reset) }
    prot := [], lanes := [], conv := [], rfc := {}, cnx := {}, spt := {}, tdd := {}, cte := {}, fab := {}
    time := if f then {} else
      { sec := t.sec, idx := t.idx, tuneW := t.tuneW, refRole := t.refRole, held := t.held, refFail := t.refFail }
    stm := if f then { s.stm with format := false, reshape := false, goPending := false, erases := 0, work := [], feats := [] }
      else { s.stm with goPending := false }
    hif := if f || k == .host then { out := s.hif.out }
      else { msixEn := s.hif.msixEn, pmeEn := s.hif.pmeEn, pmeStatus := s.hif.pmeStatus, out := s.hif.out }
    ring := if f then { out := r.out }
      else { r with remotes := [], lastStatus := none, conflict := false, census := if k == .ring then r.census else [] }
    hk := {}
    thm := if k == .powerOn || !s.thm.shut then {}
      else { shut := true, coolAt := if s.thm.restart then some (s.now - (secT 1 : Nat)) else s.thm.coolAt }
    pwm := if f then {} else s.pwm
    twt := {}
    twc := if f then [] else [0, 1].map fun q => (q, { clear := (s.tw q).clear })
    smem := {} }

/-- The kind in force where a request falls in an earlier reset: power-on, then pin, then the latest. -/
def ResetKind.over (k : ResetKind) : Option ResetKind → ResetKind
  | none => k
  | some j => if min k.code 2 ≤ min j.code 2 then k else j

/-- A reset request (R442, R443): the Curtain is complete on every port before the blocks are reset. A transaction of a
two-wire controller ends by a bus clear (R439), and a capture in progress is abandoned (R352). -/
def State.resetGo (s : State) (k : ResetKind) (kept : Nat) : State :=
  let k := k.over s.boot.inReset
  let s := s.cond (!k.full) fun s =>
    let s := [0, 1].foldl (fun (s : State) q => s.cond (s.tw q).run.isSome fun s => s.clearStart q) s
    s.capAbandon
  (s.resetBlocks k kept).wr BOOT_STAT_KIND 0 k.code

/-- RING_RESET_FRAME (R396). -/
def State.ringResetFrame (s : State) (p : Nat) : State := (s.took p 0).resetGo .ring 0

/-- A write of BOOT_RESET (R442). -/
def State.writeBootReset (s : State) (v : Word) : State :=
  if BOOT_RESET_KEY.of v ≠ 0x5A then s.refuse pgBOOT
  else if BOOT_RESET_KIND.of v = 2 then s.resetGo .host 0
  else if BOOT_RESET_KIND.of v = 4 then s.resetGo .fabric 0
  else s.refuse pgBOOT

/-- The tick count and TOD start at 0, and instants kept over the reset move with them (R169, R182). -/
def State.restartClock (s : State) : State :=
  let d : Int := s.now
  let back (r : Rec) : Rec := { r with issued := r.issued - d }
  let hours := (s.now - s.stm.scrubAt) / secT 3600
  let s := s.satAdd STM_SCRUB_AGE 0 hours
  { s with
    now := 0
    marks := []
    time := { s.time with sec := 0, idx := 0 }
    pb := { s.pb with staging := s.pb.staging.map back, held := s.pb.held.map fun w => { w with r := back w.r },
                      waiting := s.pb.waiting.map fun w => { w with r := back w.r } }
    stm := { s.stm with scrubAt := 0, checkAt := 0 }
    thm := { s.thm with coolAt := s.thm.coolAt.map (· - d) } }

/-- A device strapped as vertex with an ID other than 0 is in an ID conflict (R380). -/
def State.strapCheck (s : State) : State :=
  s.cond (s.on SYS_STATE_VERTEX 0 && s.rd SYS_STATE_DEV_ID 0 != 0) State.idConflict

/-- RESET_RELEASE (R443, R447): start-up begins at phase 0 or 1. After a pin reset every port is behind the Curtain with the
cause STATE alone (R167), also where a thermal shutdown goes on. -/
def State.resetRelease (s : State) : State :=
  match s.boot.inReset with
  | none => s
  | some k =>
    let s := if k.full then s.restartClock else s.reach (s.boot.reqAt + usT 10)
    let s := s.setBoot fun b => { b with inReset := none, t0 := s.now, slot0 := b.otp0, slot1 := b.otp1, slot2 := b.otp2 }
    let s := s.setThm fun t => { t with lastUsable := s.now, stepAt := s.now }
    (s.wr BOOT_STAT_PHASE 0 (if k.full then 0 else 1)).cond (!k.full) State.strapCheck

/-! ### Phases 0 to 2 (R446 to R457) -/

/-- STARTUP_PHASE_0_DONE: what the straps, REF_IN and the sensed VDD_NVQ level show (R168, R446, R497); REF_IN that fails
R168 is `none`. -/
def State.phase0Done (s : State) (id : Nat) (vtx : Bool) (twt hm : Nat) (ref : Option Nat) (nvq : Bool) : State :=
  if !s.sys.dark || s.boot.inReset.isSome || s.rd BOOT_STAT_PHASE 0 != 0 then s
  else
    let s := ((s.wr SYS_STATE_DEV_ID 0 id).wr SYS_STATE_VERTEX 0 vtx.toNat).wr TWT_CFG_ADDR 0 (0x5C + twt)
    let s := s.wr TIME_STAT_REF_DEV 0 id
    let s := (s.wr HIF_LINK_STRAP_W 0 (if hm = 3 then 4 else hm)).wr SYS_SUPPLY_NVQ_1V2 0 nvq.toNat
    let s := { s with pins := { s.pins with strapId := BitVec.ofNat 6 id, strapVtx := vtx } }
    let s := match ref with
      | some c => s.wr TIME_STAT_REF_CODE 0 c
      | none => s.refInFail
    s.strapCheck.wr BOOT_STAT_PHASE 0 1

/-- A little-endian field of a header. -/
def hdrField (h : List Byte) (o n : Nat) : Nat := (List.range n).foldl (fun a k => a + (h.getD (o + k) 0).toNat * 2 ^ (8 * k)) 0

def hdrFlags (h : List Byte) : Nat := hdrField h 6 2
def hdrAuto (h : List Byte) : Bool := (hdrFlags h).testBit 0
def hdrHmac (h : List Byte) : Bool := (hdrFlags h).testBit 1
def hdrSeq (h : List Byte) : Nat := hdrField h 8 4
def hdrBlocks (h : List Byte) : Nat := hdrField h 12 4
def hdrDiv (h : List Byte) : Nat := hdrField h 20 1

/-- Checks 1 to 5 of a header (Table 17-7): the first code that fails, or 0. -/
def hdrCheck (h : List Byte) (half : Nat) (authReq : Bool) : Nat :=
  if hdrField h 0 4 ≠ 0x314E444E ∨ hdrField h 4 2 ≠ 1 then 1
  else if hdrField h 60 4 ≠ (crc32c (h.take 60)).toNat then 2
  else if 0xB0 < hdrField h 21 1 then 3
  else if hdrBlocks h = 0 ∨ hdrDiv h < 5 ∨ 40 < hdrDiv h
      ∨ half < (hdrBlocks h + 1) * 4096 + (if hdrHmac h then 32 else 0) then 4
  else if authReq && !hdrHmac h then 5 else 0

/-- The size of the flash used, and half of it (R452, R454). -/
def State.flashHalf (s : State) : Nat := 2 ^ s.rd SMEM_STAT_SIZE_LOG2 0 / 2

/-- A copy, 1 A or 2 B. -/
def State.hdr (s : State) (c : Nat) : List Byte := if c = 1 then s.boot.hdrA else s.boot.hdrB
def State.copyBase (s : State) (c : Nat) : Nat := if c = 2 then s.flashHalf else 0
def State.copyDone (s : State) (c : Nat) : Bool := if c = 1 then s.boot.doneA else s.boot.doneB

/-- A copy has been checked (R457). -/
def State.setCopyDone (s : State) (c : Nat) (ok : Bool) : State :=
  let s := s.setBoot fun b => if c = 1 then { b with doneA := true } else { b with doneB := true }
  let s := s.wr (if c = 1 then BOOT_STAT_A_VALID else BOOT_STAT_B_VALID) 0 ok.toNat
  s.cond (s.boot.doneA && s.boot.doneB) fun s => s.wr BOOT_STAT_CHECKED 0 1

/-- A copy fails a check: BOOT_ERR, the cause and record 0x0B01 (R456, Table 17-9, Table 17-10). -/
def State.copyBad (s : State) (c code off : Nat) : State :=
  let a := s.copyBase c + off
  let s := ((s.wr BOOT_ERR_CODE 0 code).wr BOOT_ERR_COPY 0 c).wr BOOT_ERR_OFFSET 0 a
  let s := if code = 10 then (s.satInc SEC_AUTH_FAIL_CNT 0).raiseInt [(pgSEC, 1)] pgSEC 2 allPorts else s.raise pgBOOT 3 allPorts
  (s.setCopyDone c false).journalInt [(pgBOOT, 1)] pgBOOT 0x0B01 sevMINOR (pf 62 2 c + pf 58 4 code + pf 0 26 a)

/-- The image load has ended, and phase 4 follows; a GO of the image acts now (R329, R448). -/
def State.toPhase4 (s : State) : State :=
  ((s.wr BOOT_STAT_PHASE 0 4).setBoot fun b => { b with cand := 0, recEnd := none, waiting := false, calWait := false })
    |>.formatImage

/-- NO_IMAGE (R457). -/
def State.noImage (s : State) : State := ((s.raise pgBOOT 1 allPorts).stand 1 1).toPhase4

/-- SMEM_DISCOVERY_DONE (R452, R453): what the flash answers. `sfdp` is the logarithm of its size, whether 1-4-4 and 1-1-4
may be used, and none without a valid SFDP signature; `resp` is unset where the JEDEC ID reads all zeros or all ones. Then
the headers are checked and the candidate selected (R456, R457). -/
def State.discoveryDone (s : State) (resp : Bool) (sfdp : Option (Nat × Bool × Bool)) (ha hb : List Byte) : State :=
  if !s.sys.dark || s.boot.inReset.isSome || s.rd BOOT_STAT_PHASE 0 != 1 then s
  else
    let s := (s.wr SMEM_STAT_READY 0 1).wr BOOT_STAT_PHASE 0 2
    if !resp then (((s.raise pgSMEM 1 allPorts).stand 25 1)).noImage
    else
      let s := match sfdp with
        | none => (((((s.wr SMEM_STAT_MODE 0 1).wr SMEM_STAT_SIZE_LOG2 0 24).wr SMEM_STAT_ADDR4 0 0).wr SMEM_STAT_SFDP_OK 0 0).raise
            pgSMEM 2 allPorts).stand 25 2
        | some (n, q4, q1) =>
          let n := min n 26
          (((s.wr SMEM_STAT_MODE 0 (if q4 then 3 else if q1 then 2 else 1)).wr SMEM_STAT_SIZE_LOG2 0 n).wr SMEM_STAT_ADDR4 0
            (decide (24 < n)).toNat).wr SMEM_STAT_SFDP_OK 0 1
      let s := s.setBoot fun b => { b with hdrA := ha, hdrB := hb }
      let ca := hdrCheck ha s.flashHalf s.boot.slot2
      let cb := hdrCheck hb s.flashHalf s.boot.slot2
      let s := s.cond (ca != 0) fun s => s.copyBad 1 ca 0
      let s := s.cond (cb != 0) fun s => s.copyBad 2 cb 0
      if ca ≠ 0 ∧ cb ≠ 0 then s.noImage
      else s.setBoot fun b =>
        { b with cand := if cb ≠ 0 then 1 else if ca ≠ 0 then 2 else if hdrSeq ha < hdrSeq hb then 2 else 1 }

/-- LEN of a record type (Table 17-6). -/
def recLenOk (t n : Nat) : Bool :=
  if t = 0 then decide (n ≤ 1021) else if t = 1 then decide (2 ≤ n) && decide (n ≤ 1021) else if t = 2 then n == 3
  else if t = 3 then n == 4 else if t = 4 then n == 1 else if t = 5 then n == 4 else (t == 6 || t == 7) && n == 0

/-- The records of a block's words from word `j` (R455): each with its word, its type and its words, or none where the type
or LEN is wrong. -/
def recsOf : Nat → List Word → Nat → List (Nat × Option (Nat × List Word))
  | 0, _, _ => []
  | _, [], _ => []
  | k + 1, w :: l, j =>
    let t := bits w 24 8
    let n := bits w 0 16
    if t = 0xFF then []
    else if !recLenOk t n || decide (l.length < n) then [(j, none)]
    else (j, some (t, l.take n)) :: recsOf k (l.drop n) (j + 1 + n)

/-- An offset that no record may name (check 9). -/
def imgOffBad (a : Nat) : Bool :=
  a % 4 != 0 || decide (0x800000 ≤ a) || (decide (0x2000 ≤ a) && decide (a < 0x3000))
    || (decide (0x5000 ≤ a) && decide (a < 0x7000)) || a == 0x1054 || (decide (0x100000 ≤ a) && decide (a < 0x180000))

/-- The offsets that a record names. -/
def recOffs (t : Nat) (ws : List Word) : List Nat :=
  let o := (ws.getD 0 0).toNat
  if t = 1 then (List.range (ws.length - 1)).map fun i => o + 4 * i
  else if t = 2 ∨ t = 3 ∨ t = 5 then [o] else []

/-- Checks 6 to 10 of a copy's blocks and tag (Table 17-7): the code and the offset in the copy, or 0. -/
def copyCheck (h : List Byte) (blocks : List (List Word)) (tag : List Byte) (key : Option (BitVec 256)) : Nat × Nat :=
  let n := hdrBlocks h
  let bs := ((List.range n).map fun i => (i, blocks.getD i []))
  match bs.find? fun x => (x.2.getD 1022 0).toNat != x.1 with
  | some x => (6, 4096 * (1 + x.1))
  | none => match bs.find? fun x => crc32c ((x.2.take 1023).flatMap wordBytes) != x.2.getD 1023 0 with
    | some x => (7, 4096 * (1 + x.1))
    | none =>
      let recs := bs.flatMap fun x => (recsOf 1022 (x.2.take 1022) 0).map fun r => (4096 * (1 + x.1) + 4 * r.1, r.2)
      let scan := recs.foldl (fun (a : Bool × Option Nat) r =>
        match a.2, r.2 with
        | some _, _ => a
        | none, none => (a.1, some r.1)
        | none, some (t, _) => if a.1 && t != 0 then (a.1, some r.1) else (a.1 || t == 7, none)) (false, none)
      match scan with
      | (_, some o) => (8, o)
      | (false, none) => (8, 4096 * n)
      | (true, none) =>
        match recs.find? fun r => match r.2 with | some (t, ws) => (recOffs t ws).any imgOffBad | none => false with
        | some r => (9, r.1)
        | none => match key with
          | some k =>
            if hdrHmac h && hmacSha256 k (h.take 64 ++ bs.flatMap fun x => (x.2.take 1024).flatMap wordBytes) != tag.take 32 then
              (10, 4096 * (1 + n))
            else (0, 0)
          | none => (0, 0)

/-- A copy is loaded, and phase 3 begins (R457). -/
def State.loadCopy (s : State) (c : Nat) : State :=
  let h := s.hdr c
  let ll := hdrField h 24 4
  let s := (s.wr BOOT_STAT_COPY 0 c).wr BOOT_SEQ 0 (hdrSeq h)
  let s := (s.wr BOOT_STAT_AUTH 0 (hdrHmac h && s.boot.slot1.isSome).toNat).wr BOOT_STAT_PHASE 0 3
  s.setBoot fun b => { b with cand := 0, autoFlag := hdrAuto h, limit := if ll = 0 ∨ 800 < ll then 800 else ll }

/-- IMAGE_COPY_CHECKED: the candidate has been read in full (R456, R457). SMEM reads at the header's READ_DIV, and without
REF_IN no faster than DIV 20 (R449). -/
def State.copyChecked (s : State) (blocks : List (List Word)) (tag : List Byte) : State :=
  let c := s.boot.cand
  if s.rd BOOT_STAT_PHASE 0 ≠ 2 ∨ c = 0 then s
  else
    let d := hdrDiv (s.hdr c)
    let s := s.wr SMEM_STAT_DIV 0 (if s.time.refFail then max d 20 else d)
    let r := copyCheck (s.hdr c) blocks tag s.boot.slot1
    if r.1 = 0 then (s.setCopyDone c true).loadCopy c
    else
      let s := s.copyBad c r.1 r.2
      if s.copyDone (3 - c) then s.noImage else s.setBoot fun b => { b with cand := 3 - c }

/-- BACKGROUND_COPY_CHECK: the copy not checked in phase 2 (R457). -/
def State.backgroundCheck (s : State) (blocks : List (List Word)) (tag : List Byte) : State :=
  let c := if !s.boot.doneA then 1 else 2
  if s.sys.dark || (s.boot.doneA && s.boot.doneB) || (s.hdr c).isEmpty then s
  else
    let r := copyCheck (s.hdr c) blocks tag s.boot.slot1
    let s := if r.1 = 0 then s.setCopyDone c true else s.copyBad c r.1 r.2
    s.int pgBOOT 2

/-! ### Phase 3: the end of the records (R448, R458) -/

/-- LOAD_ABORT (R448, R458). -/
def State.loadAbort (s : State) : State := ((s.wr BOOT_STAT_ABORTED 0 1).raise pgBOOT 2 allPorts).stand 1 2

/-- LOAD_LIMIT_EXPIRY: without a verified copy the device goes on as with no image. -/
def State.loadLimit (s : State) : State :=
  let p := s.rd BOOT_STAT_PHASE 0
  if !s.sys.dark || s.boot.inReset.isSome || p < 1 || 3 < p then s
  else
    let s := (s.reach (s.boot.t0 + msT s.boot.limit)).loadAbort
    if p < 3 then s.noImage else s.toPhase4

/-- The synthesisers stay powered down or without a reference: source 55 stands (R449), or a kept thermal shutdown. -/
def State.synParked (s : State) : Bool := s.time.refFail || (s.thm.shut && !s.thm.restart)

/-- The NUM and DEN in force become the plan that the calibration after the hold uses (R449). -/
def State.planKeep (s : State) (k : Nat) : State :=
  if s.planBad k then s
  else s.setSyn k fun y =>
    { y with num := s.rd (synF SYN_A_NUM SYN_B_NUM k) 0, den := s.rd (synF SYN_A_DEN SYN_B_DEN k) 0 }

/-- Both synthesisers start as GO_A and GO_B would, or wait for the end of what holds them. -/
def State.startBoth (s : State) : State :=
  if s.synParked then (s.planKeep 0).planKeep 1 else (s.synGo 0).synGo 1

/-- Both synthesisers read READY or FAILED, or have not started. -/
def State.synSettled (s : State) : Bool := !s.synBusy 0 && !s.synBusy 1

/-- The next record of the loaded copy may run (R458). -/
def State.recReady (s : State) : Bool :=
  s.rd BOOT_STAT_PHASE 0 == 3 && s.boot.recEnd.isNone && (!s.boot.calWait || s.synSettled)

/-- A record runs, or is skipped (R455). -/
def State.recRun (s : State) (f : State → State) : State :=
  if !s.recReady then s
  else if 0 < s.boot.skip then s.setBoot fun b => { b with skip := b.skip - 1, calWait := false }
  else f ((s.satInc BOOT_STAT_RECORDS 0).setBoot fun b => { b with calWait := false })

/-- IMAGE_NOP: a NOP is never counted against a SKIP. -/
def State.imgNop (s : State) : State :=
  if s.recReady then (s.satInc BOOT_STAT_RECORDS 0).setBoot fun b => { b with calWait := false } else s

/-- IMAGE_DELAY. -/
def State.imgDelay (s : State) (us : Nat) : State :=
  s.recRun fun s => s.setBoot fun b => { b with recEnd := some (s.now + usT us), waiting := false }

/-- IMAGE_DELAY_END. -/
def State.imgDelayEnd (s : State) : State :=
  match s.boot.recEnd with
  | some t => if s.boot.waiting then s else (s.reach t).setBoot fun b => { b with recEnd := none }
  | none => s

/-- IMAGE_WAIT_TIMEOUT (R458). -/
def State.imgTimeout (s : State) : State :=
  match s.boot.recEnd with
  | some t =>
    if !s.boot.waiting then s
    else
      let s := (s.reach t).setBoot fun b => { b with recEnd := none, waiting := false }
      if s.boot.fatal then s.loadAbort.toPhase4 else s
  | none => s

/-- IMAGE_CALIBRATE: completes at once without calibrating where the synthesisers are held (R449). -/
def State.imgCalibrate (s : State) : State :=
  s.recRun fun s =>
    let hold := s.synParked
    s.startBoth.setBoot fun b => { b with calibrated := true, calWait := !hold }

/-- IMAGE_END: never skipped. -/
def State.imgEnd (s : State) : State :=
  if s.recReady then ((s.satInc BOOT_STAT_RECORDS 0).setBoot fun b => { b with ended := true }).toPhase4 else s

/-! ### Phases 4 and 5 (R459, R461) -/

/-- STARTUP_CALIBRATION. -/
def State.startCal (s : State) : State :=
  if !s.sys.dark || s.rd BOOT_STAT_PHASE 0 != 4 || s.boot.phase4 then s
  else (if s.boot.calibrated then s else s.startBoth).setBoot fun b => { b with phase4 := true }

/-- REHEARSAL_ENTRY (R447, R461). -/
def State.rehearse (s : State) : State :=
  if !s.sys.dark || s.rd BOOT_STAT_PHASE 0 != 4 || !(s.boot.phase4 || s.boot.calibrated) || !s.synSettled then s
  else
    let s := s.wr BOOT_STAT_PHASE 0 5
    let s := s.wr BOOT_TIME 0 (min ((s.now - s.boot.t0) * 100 / 98304) 0xFFFFFFFF)
    let c := s.rd BOOT_STAT_COPY 0
    let s := s.journal pgBOOT 0x0B00 sevNOTE (pf 32 32 (s.rd BOOT_SEQ 0) + pf 30 2 c + pf 29 1 (s.rd BOOT_STAT_AUTH 0)
      + pf 28 1 s.autonomous.toNat + pf 27 1 (s.rd BOOT_STAT_ABORTED 0) + pf 0 16 (s.rd BOOT_STAT_RECORDS 0))
    let s := (s.int pgBOOT 0).setSys fun x => { x with dark := false }
    let s := (s.setDevState stREHEARSAL).setFc fun f => { f with seenRehearsal := true }
    s.cond s.autonomous fun s => s.wr SYS_STATE_PENDING 0 cmdSTART

/-- A write of BOOT_CFG: a flag that NOAUTO no longer holds back is honoured from now on (R461, R13). -/
def State.writeBootCfg (s : State) (v : Word) : State :=
  let was := s.autonomous
  let s := s.wr BOOT_CFG 0 (BOOT_CFG.of v)
  s.cond (!was && s.autonomous && !s.sys.dark && s.devState == stREHEARSAL && !s.sys.stopHeld && !s.thm.shut) fun s =>
    s.wr SYS_STATE_PENDING 0 cmdSTART

/-! ### One-time memory (R463) -/

/-- A slot is programmed. -/
def State.slotUsed (s : State) (n : Nat) : Bool :=
  if n = 0 then s.boot.otp0.isSome else if n = 1 then s.boot.otp1.isSome else if n = 2 then s.boot.otp2 else true

/-- OTP_PROGRAM, a write of SEC_PROG. -/
def State.writeSecProg (s : State) (v : Word) : State :=
  let n := SEC_PROG_SLOT.of v
  if s.sys.dark || s.devState != stREHEARSAL || s.slotUsed n || (n == 2 && !s.slotUsed 1) || SEC_PROG_CONFIRM.of v != 0xC5
      || s.boot.prog.isSome then
    (s.wr SEC_STAT_RESULT 0 2).refuse pgSEC
  else ((s.wr SEC_STAT_BUSY 0 1).wr SEC_STAT_RESULT 0 0).setBoot fun b => { b with prog := some n }

/-- The staged key: word i holds key bytes 4i to 4i + 3. -/
def State.stagedKey (s : State) : BitVec 256 :=
  BitVec.ofNat 256 ((List.range 8).foldl (fun a i => a + s.rd SEC_KEY i * 2 ^ (32 * i)) 0)

/-- OTP_PROGRAM_DONE. -/
def State.progDone (s : State) (ok : Bool) : State :=
  match s.boot.prog with
  | none => s
  | some n =>
    let k := s.stagedKey
    let s := s.setBoot fun b =>
      let b := { b with prog := none }
      if !ok then b else if n = 0 then { b with otp0 := some k } else if n = 1 then { b with otp1 := some k }
      else { b with otp2 := true }
    let s := s.cond ok fun s =>
      s.wr (if n = 0 then SEC_STAT_CHAIN_KEY else if n = 1 then SEC_STAT_IMG_KEY else SEC_STAT_AUTH_REQ) 0 1
    let s := (s.wr SEC_STAT_BUSY 0 0).wr SEC_STAT_RESULT 0 (if ok then 1 else 3)
    let s := (List.range 8).foldl (fun (s : State) i => s.wr SEC_KEY i 0) s
    let s := s.cond (!ok) fun s => s.raise pgSEC 1 allPorts
    s.journalInt [(pgSEC, 0)] pgSEC 0x0B10 sevNOTE (pf 0 2 n + pf 2 1 (!ok).toNat)

/-! ### Host access to the settings memory (R465) -/

def smemFlds : List Fld :=
  [SMEM_CMD_WREN, SMEM_CMD_ADDR, SMEM_CMD_WRITE, SMEM_CMD_QUAD, SMEM_CMD_POLL, SMEM_CMD_OPCODE, SMEM_CMD_DUMMY]

/-- A command that LOCK keeps from the half that holds the loaded copy. -/
def State.smemLocked (s : State) : Bool :=
  let c := s.rd BOOT_STAT_COPY 0
  let h := s.flashHalf
  let lo := s.copyBase c
  let a := s.rd SMEM_ADDR 0
  let meets (x y : Nat) : Bool := decide (x < lo + h) && decide (lo < y)
  s.on SMEM_CFG_LOCK 0 && s.on SMEM_CMD_WREN 0
    && (!s.on SMEM_CMD_ADDR 0
        || (c != 0 && (meets (a / 65536 * 65536) (a / 65536 * 65536 + 65536) || meets a (a + s.rd SMEM_LEN 0))))

/-- A command that is refused with a RESULT. -/
def State.smemRefuse (s : State) (r : Nat) : State :=
  let s := (s.wr SMEM_CMD_STAT_RESULT 0 r).satInc SMEM_ERR_CNT 0
  (s.cond (!s.on SMEM_CMD_STAT_BUSY 0) fun s => s.wr SMEM_CMD_STAT_DONE 0 1).int pgSMEM 1

/-- A write of SMEM_CMD, with GO the command SMEM_COMMAND_GO. Commands run from REHEARSAL on. -/
def State.writeSmemCmd (s : State) (v : Word) : State :=
  let s := s.wrWord smemFlds 0 v
  if !v.getLsbD 31 then s
  else if s.smem.run.isSome || s.sys.dark || 256 < s.rd SMEM_LEN 0 then s.smemRefuse 3
  else if s.smemLocked then s.smemRefuse 1
  else
    let s := ((s.wr SMEM_CMD_STAT_BUSY 0 1).wr SMEM_CMD_STAT_DONE 0 0).wr SMEM_CMD_STAT_RESULT 0 0
    let s := { s with smem := { run := some ⟨s.on SMEM_CMD_WRITE 0, s.on SMEM_CMD_POLL 0, s.rd SMEM_LEN 0⟩ } }
    s.cond (s.on SMEM_CMD_WREN 0) fun s =>
      s.journal pgSMEM 0x0B20 sevNOTE (pf 56 8 (s.rd SMEM_CMD_OPCODE 0) + pf 0 26 (s.rd SMEM_ADDR 0))

/-- SMEM_COMMAND_DONE: the bytes read, or a status poll that runs out. -/
def State.smemDone (s : State) (bs : List Byte) (timeout : Bool) : State :=
  match s.smem.run with
  | none => s
  | some c =>
    let s := { s with smem := {} }
    let s := if c.write then s else ((bs.take c.len).zipIdx).foldl (fun (s : State) (b, k) =>
      s.wrBits SMEM_DATA (k / 4) (8 * (k % 4)) 8 b.toNat) s
    let late := timeout && c.poll
    let s := ((s.wr SMEM_CMD_STAT_BUSY 0 0).wr SMEM_CMD_STAT_DONE 0 1).wr SMEM_CMD_STAT_RESULT 0 (if late then 2 else 0)
    let s := s.int pgSMEM 0
    s.cond late fun s => (s.satInc SMEM_ERR_CNT 0).raiseInt [(pgSMEM, 1)] pgSMEM 3 allPorts

/-- A write of SMEM_CFG. -/
def State.writeSmemCfg (s : State) (v : Word) : State :=
  if SMEM_CFG_DIV.of v < 5 ∨ 40 < SMEM_CFG_DIV.of v then s.refuse pgSMEM else s.wrWord [SMEM_CFG_LOCK, SMEM_CFG_DIV] 0 v

/-! ### Supply monitor and GPIO (R487, R503, R504) -/

/-- SUPPLY_UNDER_ALARM of a rail. -/
def State.supplyUnder (s : State) (r : Nat) : State :=
  if s.tst SYS_SUPPLY_UNDER_NOW 0 r then s
  else
    let s := (s.putBit SYS_SUPPLY_UNDER_NOW 0 r true).putBit SYS_SUPPLY_UNDER_STICKY 0 r true
    (((s.satInc SYS_SUPPLY_CNT 0).raise pgSYS 2 allPorts).stand 54 0).pfail true

/-- SUPPLY_OVER_ALARM of a rail. -/
def State.supplyOver (s : State) (r : Nat) : State :=
  if s.tst SYS_SUPPLY_OVER_NOW 0 r then s
  else
    let s := (s.putBit SYS_SUPPLY_OVER_NOW 0 r true).putBit SYS_SUPPLY_OVER_STICKY 0 r true
    ((s.satInc SYS_SUPPLY_CNT 0).raise pgSYS 2 allPorts).stand 54 0

/-- SUPPLY_ALARM_CLEAR: recording resumes as after PFAIL_N rising (R487). -/
def State.supplyClear (s : State) : State :=
  ((s.wr SYS_SUPPLY_UNDER_NOW 0 0).wr SYS_SUPPLY_OVER_NOW 0 0).resumeRecording

/-- GPIO_EDGE: an input's sample differs from the last one. -/
def State.gpioEdge (s : State) (m : Nat) (level : Bool) : State :=
  if s.tst SYS_GPIO_DIR 0 m || s.pins.gpio.getLsbD m == level then s
  else
    let s := { s with pins := { s.pins with
      gpio := if level then s.pins.gpio ||| BitVec.ofNat 16 (2 ^ m) else s.pins.gpio &&& ~~~(BitVec.ofNat 16 (2 ^ m)) } }
    s.putBit (if level then SYS_GPIO_EDGE_RISE else SYS_GPIO_EDGE_FALL) 0 m true

/-- STANDING_SIGNAL_FALL: a recovery condition that must hold for a time has held long enough. The lines of port `c` end
their OFF-level drive (source 12), the ball of channel `c` is correct (source 21), and every rail is inside its alarm
levels (source 54); every formatted CE responds (source 5, CHANNEL). The other conditions fall by what their blocks do. -/
def State.standFall (s : State) (n c : Nat) : State :=
  if n = 12 then s.linesGood c
  else if n = 21 then s.unstand 21 c
  else if n = 54 then
    (if s.rd SYS_SUPPLY_UNDER_NOW 0 = 0 ∧ s.rd SYS_SUPPLY_OVER_NOW 0 = 0 then s.unstand 54 0 else s)
  else if n = 5 ∧ c = 5 then s.unstand 5 5
  else s

end Sys2Proof.Machine
end

