-- ==== Sys2Proof/Machine/Views.lean ====
section
/-! DEFINITION. What a register reads (spec/18_register_directory.md R470, R471, and the field tables of the chapters): the
common page header, the fields that show other state, the memory windows, and the word at any slice offset. -/
namespace Sys2Proof.Machine
open Sys2Proof

/-! ### The page header (R471) -/

/-- The block ID and the instance of a page (Table 18-1); none where no page lies. -/
def pageId (p : Nat) : Option (Nat × Nat) :=
  let one := [(pgSYS, 0x10), (pgBOOT, 0x11), (pgSEC, 0x12), (pgFC, 0x20), (pgIC, 0x21), (pgPB, 0x30), (pgSTM, 0x31),
    (pgHIF, 0x40), (pgDMA, 0x41), (pgRING, 0x42), (pgTIME, 0x50), (pgTDD, 0x51), (pgSYN, 0x52), (pgRFC, 0x53), (pgCUR, 0x60),
    (pgPROT, 0x61), (pgHK, 0x70), (pgTHM, 0x71), (pgPWM, 0x72), (pgTWT, 0x80), (pgSMEM, 0x82), (pgCTE, 0x90), (pgFAB, 0xA0),
    (pgLEDG, 0xA1), (pgCHF, 0xC1), (pgRSM, 0xC2), (pgCNX, 0xD0), (pgSLN, 0xD1), (pgSPT, 0xE0), (pgMEAS, 0xE1)]
  let many := [(pgIC + 0x1000, 1, 0x21, 1), (pgTWC, 2, 0x81, 0), (pgCONVRX, 8, 0xB0, 0), (pgCONVTX, 8, 0xB1, 0),
    (pgLANE, 32, 0xC0, 0)]
  match one.find? fun x => x.1 == p with
  | some x => some (x.2, 0)
  | none => (many.find? fun x => decide (x.1 ≤ p) && decide (p < x.1 + 0x1000 * x.2.1)).map fun x =>
      (x.2.2.1, (p - x.1) / 0x1000 + x.2.2.2)

/-- The slice offset of a page (Table 18-1). -/
def pageOff : Page → Nat
  | .sys => pgSYS | .boot => pgBOOT | .sec => pgSEC | .fc => pgFC | .ic => pgIC | .pb => pgPB | .stm => pgSTM | .hif => pgHIF
  | .dma => pgDMA | .ring => pgRING | .time => pgTIME | .tdd => pgTDD | .syn => pgSYN | .rfc => pgRFC | .cur => pgCUR
  | .prot => pgPROT | .hk => pgHK | .thm => pgTHM | .pwm => pgPWM | .twt => pgTWT | .twc q => pgAt pgTWC q.val
  | .smem => pgSMEM | .cte => pgCTE | .fab => pgFAB | .ledg => pgLEDG | .convRx m => pgAt pgCONVRX m.val
  | .convTx m => pgAt pgCONVTX m.val | .lane n => pgAt pgLANE n.val | .chf => pgCHF | .rsm => pgRSM | .cnx => pgCNX
  | .sln => pgSLN | .spt => pgSPT | .meas => pgMEAS

/-- The fault sources of a page (Table 18-5). -/
def pageSources (p : Nat) : List Nat := ((List.range 8).filterMap fun b => causeSrc p b).eraseDups

/-- PG_INT_STAT as it reads, levels included. -/
def State.intWord (s : State) (p : Nat) : Nat :=
  (List.range 32).foldl (fun a b => if s.intBit p b then a + 2 ^ b else a) 0

/-- A word of the header of page `p` (Table 18-2). -/
def State.header (s : State) (p o : Nat) : Nat :=
  if o = 8 then (s.on PG_ERR p).toNat + 2 * (s.intWord p &&& s.rd PG_INT_EN p != 0).toNat
    + 4 * ((pageSources p).any s.status).toNat
  else if o = 0xC then s.rd PG_ERR p
  else if o = 0x10 then s.rd PG_ERR_MASK p
  else if o = 0x18 then s.intWord p
  else if o = 0x1C then s.rd PG_INT_EN p
  else 0

/-! ### Fields that show other state -/

/-- A field as the place and the value it reads. -/
def Fld.as (f : Fld) (v : Nat) : Nat × Nat := (f.lo, v)

/-- A set of ports, or of anything else below `n`, as a word's bits. -/
def maskOf (n : Nat) (f : Nat → Bool) : Nat := (List.range n).foldl (fun a k => if f k then a + 2 ^ k else a) 0

/-- PEAK of converter `c` (Table 2-15), that of CONVTX at the DAC word: over the last 1 ms window of the tick count that began after its enable. -/
def State.peakCode (s : State) (c : Nat) : Nat :=
  let w := s.now / 983040
  if s.cvEn c && decide ((s.cv c).enAt + 983040 ≤ w * 983040) then
    if c < 8 then (Config.peak c (w - 1)).toNat
    else
      let x := s.cv c
      let pk := if x.pkWin + 1 = w then x.pkMax
        else match x.pkLast with | some (i, p) => if i + 1 = w then p else 0 | none => 0
      levelCode 16 16 (2 * dBpow (max 1 pk) (2 ^ 15))
  else 0x8000

/-- AGE of converter `c`: milliseconds since its last completed background cycle. -/
def State.cycleAge (s : State) (c : Nat) : Nat :=
  match (s.cv c).cycleAt with
  | some t => min 0xFFFF ((s.now - t) / 983040)
  | none => 0xFFFF

/-- FC_PIN.LEVEL: FAULT_N is not driven low. -/
def State.faultNLevel (s : State) : Bool := !s.faultNLow

/-- A ball whose active level is 1, or 0 where its polarity bit is set. -/
def lineLevel (active inverted : Bool) : Bool := active != inverted

/-- The levels of TRSW_m and LNAB_m: in DARK both are at high impedance, `none` (R203). -/
def State.trswBall (s : State) (m : Nat) : Option Bool :=
  if s.sys.dark then none else some (lineLevel (s.trsw m) (s.tst RFC_POL_TRSW_POL 0 m))
def State.lnabBall (s : State) (m : Nat) : Option Bool :=
  if s.sys.dark then none else some (lineLevel (s.lnab m) (s.tst RFC_POL_LNAB_POL 0 m))

/-- The lowest number that is not confirmed on NAND (Table 11-7). -/
def State.confNext (s : State) : Nat :=
  match s.pb.staging with
  | r :: _ => r.seq.toNat
  | [] => s.pb.next.toNat

/-- SYS_STATE (R8, R26). DEV_STATE never reads 0b00. DESIGN CHOICE (log 104): the entry conditions are first evaluated as the
records of the image run, and read their reset value 0 until then. -/
def State.viewSys (s : State) (o : Nat) : List (Nat × Nat) :=
  if o = 0x44 then
    let from3 := !s.sys.dark || decide (3 ≤ s.rd BOOT_STAT_PHASE 0)
    [SYS_STATE_CUR_LATCHED.as s.anyLatched.toNat, SYS_STATE_AUTONOMOUS.as s.autonomous.toNat,
     SYS_STATE_ISO_VALID.as (from3 && s.isoValid).toNat, SYS_STATE_PROT_ARMED.as (from3 && s.protArmed).toNat,
     SYS_STATE_TIME_ACQ.as (from3 && s.timeAcq).toNat, SYS_STATE_CAL_DONE.as (from3 && s.calDone).toNat]
  else if o = 0xC8 then
    let d := s.rd SYS_GPIO_DIR 0
    [SYS_GPIO_IN.as ((s.rd SYS_GPIO_OUT 0 &&& d) ||| (s.pins.gpio.toNat &&& (0xFFFF - d)))]
  else []

def State.viewCnx (s : State) (o : Nat) : List (Nat × Nat) :=
  if o = 0x64 then
    let c := s.clu (s.rd CNX_CLU_PTR 0)
    if c.used then
      [CNX_CLU_DESC_USED.as 1, CNX_CLU_DESC_ROLE.as (match c.role with | .dense => 0 | .sparse => 1 | .spare => 2),
       CNX_CLU_DESC_PATH.as c.path, CNX_CLU_DESC_POS.as (ux 16 (c.next.getD c.pos))]
    else [CNX_CLU_DESC_POS.as 0]
  else if 0x100 ≤ o ∧ o < 0x300 ∧ o % 16 = 0xC then [CNX_LOOP.as (s.cnxLoop ((o - 0x100) / 16))]
  else if 0x400 ≤ o ∧ o < 0xC00 ∧ o % 16 = 0xC then [CNX_PATH_STAT_FREEZE.as (s.freezeWord ((o - 0x400) / 16))]
  else []

/-- The results of the path and peak of SLN_RES_PTR (R117). -/
def State.viewSln (s : State) (o : Nat) : List (Nat × Nat) :=
  let p := s.rd SLN_RES_PTR_PATH 0
  let x := s.slnPath p
  let k := (x.peaks.drop (s.rd SLN_RES_PTR_PEAK 0)).head?
  if o = 0x50 then
    match k with
    | some (pos, lev) => [SLN_RES_POS.as (ux 16 pos), SLN_RES_LEVEL.as (ux 16 lev)]
    | none => [SLN_RES_POS.as 0x8000, SLN_RES_LEVEL.as 0]
  else if o = 0x54 then
    let age := match x.since with | some t => min 0xFFFF ((s.now - t) / 983040) | none => 0xFFFF
    match k with
    | some (pos, _) =>
      [SLN_RES_INFO_COVERED.as (s.covered p pos).toNat,
       SLN_RES_INFO_DIRECT.as (directPos (s.rd SLN_CFG_DIRECT_WIN 0) x.peaks == some pos).toNat, SLN_RES_INFO_AGE.as age]
    | none => [SLN_RES_INFO_AGE.as age]
  else if o = 0x58 then [SLN_UNCOV.as (ux 16 x.uncov)]
  else []

/-- PROT_LANE_STAT_n (Table 5-2, Table 5-8). DESIGN CHOICE (log 99): ALL_ARMED of an active lane to which no detector applies reads 1. -/
def State.viewProt (s : State) (o : Nat) : List (Nat × Nat) :=
  if 0x100 ≤ o ∧ o < 0x300 ∧ o % 16 = 4 then
    let n := (o - 0x100) / 16
    let rep := (s.lane n).on && (s.lane n).txEn
    [PROT_LANE_STAT_DONOR_ARMED.as (rep && (s.lane n).tdd && s.timeValid).toNat,
     PROT_LANE_STAT_NR_ARMED.as (rep && !downlink n && s.nrArmed n).toNat,
     PROT_LANE_STAT_OSC_ARMED.as (rep && (s.lane n).active).toNat,
     PROT_LANE_STAT_ALL_ARMED.as ((s.lane n).on && s.laneArmed n).toNat]
  else []

def State.viewCur (s : State) (o : Nat) : List (Nat × Nat) :=
  if o = 0x40 then [CUR_STAT_DEVICE.as s.curDevice.toNat, CUR_STAT_DOWN.as (maskOf 8 s.down)]
  else if 0x80 ≤ o ∧ o < 0xA0 then [CUR_CAUSE_REC_HR.as (min 0xFF (s.recHr ((o - 0x80) / 4)))]
  else []

def State.viewRfc (s : State) (o : Nat) : List (Nat × Nat) :=
  if o = 0x48 then
    [RFC_LINES_PAEN.as (maskOf 8 s.paen),
     RFC_LINES_TRSW.as (maskOf 8 fun m => (s.trswBall m).getD (s.tst RFC_POL_TRSW_POL 0 m)),
     RFC_LINES_LNAB.as (maskOf 8 fun m => (s.lnabBall m).getD (s.tst RFC_POL_LNAB_POL 0 m))]
  else if 0x100 ≤ o ∧ o < 0x180 ∧ o % 16 = 4 then
    let m := (o - 0x100) / 16
    let t := match (s.rport m).lossFrom with | some t => min 0xFFFF ((s.now - t) / msT 100) | none => 0
    [RFC_PORT_STAT_PROBING.as (s.probing m).toNat, RFC_PORT_STAT_SYN_HOLD.as (s.synHold m).toNat,
     RFC_PORT_STAT_COEX_HOLD.as (s.coexHold m).toNat, RFC_PORT_STAT_TDD.as (s.tddPort m).toNat,
     RFC_PORT_STAT_TXTO.as (s.cause m cTXTO).toNat, RFC_PORT_STAT_LOSS_T.as t]
  else if o = 0x308 then
    [COEX_STAT_REQ_IN.as s.pins.coexReqIn.toNat, COEX_STAT_PRI.as s.pins.coexPri.toNat,
     COEX_STAT_GNT_IN.as s.pins.coexGntIn.toNat]
  else []

def State.viewFab (s : State) (o : Nat) : List (Nat × Nat) :=
  if o = 0x54 then
    let i := s.fab.islands.get {} (s.rd FAB_ISL_PTR 0)
    [FAB_ISL_ACTIVE.as i.active.toNat, FAB_ISL_MIN.as i.min, FAB_ISL_SLACK.as i.slack]
  else if o = 0x60 then
    let w := s.fab.wings.get {} (s.rd FAB_WING_PTR 0)
    [FAB_WING_WARN.as w.warn.toNat, FAB_WING_WORST.as (w.worst.getD 0), FAB_WING_NOW.as w.now]
  else []

def State.viewFc (s : State) (o : Nat) : List (Nat × Nat) :=
  if o = 0x54 then [FC_PIN_MODE_NOW.as s.pulseMode.toNat, FC_PIN_LEVEL.as s.faultNLevel.toNat]
  else if 0x80 ≤ o ∧ o < 0x160 then
    let n := (o - 0x80) / 4
    [FC_SEV_SET.as (s.status n).toNat, FC_SEV_STANDING.as (s.standing n).toNat]
  else []

def State.viewPb (s : State) (o : Nat) : List (Nat × Nat) :=
  let p := s.pb
  if o = 0x44 then
    [PB_STAT_MODE.as (if p.hmac then 2 else 1), PB_STAT_FORMATTED.as (decide (0 < p.mainCap)).toNat,
     PB_STAT_MAIN_FULL.as p.mainFull.toNat, PB_STAT_APRON_FULL.as p.apronFull.toNat, PB_STAT_OPEN.as p.openRec.isSome.toNat,
     PB_STAT_PF_ACTIVE.as p.pf.toNat, PB_STAT_STAGED.as (p.staging.length + p.held.length)]
  else if o = 0x48 then [PB_NEXT_LO.as p.next.toNat]
  else if o = 0x4C then [PB_NEXT_HI.as (p.next.toNat / 2 ^ 32)]
  else if o = 0x50 then [PB_CONF_LO.as s.confNext]
  else if o = 0x54 then [PB_CONF_HI.as (s.confNext / 2 ^ 32)]
  else if o = 0x58 then [PB_TAG.as p.lastTag.toNat]
  else if o = 0x5C then [PB_MAIN_CAP.as (p.mainCap / 1024)]
  else if o = 0x60 then [PB_MAIN_USED.as (p.mainUsed / 1024)]
  else if o = 0x64 then [PB_APRON_CAP.as p.apronCap]
  else if o = 0x68 then [PB_APRON_USED.as p.apronUsed]
  else []

def State.viewStm (s : State) (o : Nat) : List (Nat × Nat) :=
  if o = 0xD8 then [STM_SCRUB_AGE.as (s.rd STM_SCRUB_AGE 0 + (s.now - s.stm.scrubAt) / secT 3600)]
  else if o = 0x10C then [STM_LIFE_PSLC.as (s.life true), STM_LIFE_NATIVE.as (s.life false)]
  else []

def State.viewDma (s : State) (o : Nat) : List (Nat × Nat) :=
  if o = 0x40 then
    [DMA_STAT_STOPPED.as (maskOf 8 fun q => s.qState q == qSTOPPED),
     DMA_STAT_RUNNING.as (maskOf 8 fun q => s.qState q == qRUNNING || s.qState q == qDRAINING)]
  else if 0x100 ≤ o ∧ o < 0x300 ∧ o % 0x40 = 0x24 then [DMA_Q_STAT_CQ_FULL.as (s.cqFull ((o - 0x100) / 0x40)).toNat]
  else []

/-- The bits of 32 sources from `n0`. -/
def State.srcMask (s : State) (n0 : Nat) (st : SrcState) : Nat := maskOf 32 fun k => (s.src (n0 + k)).st == st

/-- IC_TGT_STAT_t and IC_FTGT_STAT_t. -/
def State.tgtStat (s : State) (t : Nat) (fast : Bool) : List (Nat × Nat) :=
  [IC_TGT_STAT_LAST_CLAIM.as (s.hif.lastClaim.get 0 (bankAt t fast)), IC_TGT_STAT_LAST_BAD.as (s.hif.lastBad.get 0 (bankAt t fast)),
   IC_TGT_STAT_TOP.as (s.topFor t fast), IC_TGT_STAT_ACTIVE.as (min 0xFF (s.activeOf t fast))]

def State.viewIc (s : State) (o : Nat) : List (Nat × Nat) :=
  if o = 0x40 then
    [IC_STAT_WAKE.as (s.rd IC_WAKE 0), IC_STAT_LINE.as (maskOf 4 s.line),
     IC_STAT_FAST_PEND.as (maskOf 4 fun t => s.topFor t true != 0), IC_STAT_NORM_PEND.as (maskOf 4 fun t => s.topFor t false != 0)]
  else if 0x80 ≤ o ∧ o < 0xC0 ∧ o % 16 = 4 then [IC_CLAIM.as (s.topFor ((o - 0x80) / 16) false)]
  else if 0x80 ≤ o ∧ o < 0xC0 ∧ o % 16 = 0xC then s.tgtStat ((o - 0x80) / 16) false
  else if 0x100 ≤ o ∧ o < 0x120 then [IC_PEND.as (s.srcMask (8 * (o - 0x100)) .pending)]
  else if 0x140 ≤ o ∧ o < 0x160 then [IC_ACTIVE.as (s.srcMask (8 * (o - 0x140)) .active)]
  else if 0x400 ≤ o ∧ o < 0x800 then
    let n := (o - 0x400) / 4
    [IC_SRC_OWNER.as (s.src n).owner, IC_SRC_ACTIVE.as ((s.src n).st == .active).toNat,
     IC_SRC_PEND.as ((s.src n).st == .pending).toNat, IC_SRC_LEVEL.as (s.srcLevel n).toNat]
  else []

/-- A device that is present and not under R388 (RING_READY): this device from REHEARSAL on, another by its last status. -/
def State.ringReady (s : State) (d : Nat) : Bool :=
  s.present d && if d = s.devId then !s.sys.dark
    else (List.range 64).any fun q => s.on RING_MAP_VALID q && s.rd RING_MAP_ID q == d && s.rd RING_MAP_STATE q == 2

def State.viewRing (s : State) (o : Nat) : List (Nat × Nat) :=
  let c := s.ring.census.get (0, 0, 0, 0) (4 * s.rd RING_CEN_PTR_PORT 0 + s.rd RING_CEN_PTR_VC 0)
  if o = 0x74 then [RING_TUN_PEND.as ((List.range 64).foldl (fun a d => max a (s.deliv d 0).unacked.length) 0)]
  else if o = 0xD4 then [RING_CEN_A_C_S.as c.1, RING_CEN_A_HELD.as c.2.1]
  else if o = 0x54 then [RING_READY_LO.as (maskOf 32 s.ringReady)]
  else if o = 0x58 then [RING_READY_HI.as (maskOf 32 fun k => s.ringReady (32 + k))]
  else if 0x100 ≤ o ∧ o < 0x200 then
    let q := (o - 0x100) / 4
    if s.on RING_MAP_VALID q && s.rd RING_MAP_ID q == s.devId then [RING_MAP_STATE.as (if s.sys.dark then 1 else 2)] else []
  else if o = 0xD8 then [RING_CEN_B_FLIGHT.as c.2.2.1, RING_CEN_B_TOTAL.as c.2.2.2]
  else []

def State.viewHk (s : State) (o : Nat) : List (Nat × Nat) :=
  let k := s.rd HK_RAW_PTR 0
  if o = 0x6C then [HK_RAW.as (s.hk.chans.get {} k).raw.toNat]
  else if o = 0x70 then
    [HK_TRIM_OFS.as (bits (Config.hkTrim k) 16 16), HK_TRIM_GAIN.as (bits (Config.hkTrim k) 0 16)]
  else []

/-- The ROM words that the pointers of CHF and RSM name (R65, R69). -/
def State.viewRom (s : State) (p o : Nat) : List (Nat × Nat) :=
  if p = pgCHF ∧ o = 0xC4 then
    let i := s.rd CHF_ROM_PTR_INDEX 0
    let t := s.rd CHF_ROM_PTR_TAP 0
    [CHF_ROM_DATA.as (if t ≤ (chfTaps i - 1) / 2 then ux 18 (chfTap i t) else 0)]
  else if p = pgRSM ∧ o = 0x248 then
    [RSM_ROM_DATA.as (Config.rsmRom (s.rd RSM_ROM_PTR_PHASE 0) (s.rd RSM_ROM_PTR_TAP 0)).toNat]
  else []

/-- The fields of the word at offset `o` of page `p` that show other state: their place and what they read. -/
def State.views (s : State) (p o : Nat) : List (Nat × Nat) :=
  if p = pgSYS then s.viewSys o
  else if pgCONVRX ≤ p ∧ p < pgCONVRX + 0x8000 then
    let c := (p - pgCONVRX) / 0x1000
    if o = 0x4C then [CONVRX_PEAK.as (s.peakCode c)] else if o = 0x50 then [CONVRX_BGCAL_AGE.as (s.cycleAge c)] else []
  else if pgCONVTX ≤ p ∧ p < pgCONVTX + 0x8000 then
    let c := (p - pgCONVTX) / 0x1000
    if o = 0x44 then [CONVTX_STAT_CURTAIN.as (s.muted c).toNat]
    else if o = 0x4C then [CONVTX_PEAK.as (s.peakCode (8 + c))]
    else if o = 0x50 then [CONVTX_BGCAL_AGE.as (s.cycleAge (8 + c))] else []
  else if p = pgCHF ∨ p = pgRSM then s.viewRom p o
  else if p = pgCNX then s.viewCnx o
  else if p = pgSLN then s.viewSln o
  else if p = pgPROT then s.viewProt o
  else if p = pgCUR then s.viewCur o
  else if p = pgTDD then
    (if o = 0x44 then [TDD_STAT_NO_PAT.as ((List.range 32).any fun n =>
      (s.lane n).on && (s.lane n).tdd && (s.actBank (s.lane n).pat).isNone).toNat] else [])
  else if p = pgRFC then s.viewRfc o
  else if p = pgTIME then (if o = 0x68 then [TIME_OSC.as s.oscCode] else [])
  else if p = pgCTE then
    let x := s.sect (s.rd CTE_STATE_PTR 0)
    (if o = 0x5C then [CTE_STATE_S1_EXP.as x.exp.toNat, CTE_STATE_S1_M1.as x.s1.toNat]
     else if o = 0x60 then [CTE_STATE_S2_EXP.as x.exp.toNat, CTE_STATE_S2_M2.as x.s2.toNat] else [])
  else if p = pgFAB then s.viewFab o
  else if p = pgFC then s.viewFc o
  else if p = pgPB then s.viewPb o
  else if p = pgSTM then s.viewStm o
  else if p = pgHIF then (if o = 0xC00 then [MSIX_PBA.as s.hif.pba.toNat] else [])
  else if p = pgDMA then s.viewDma o
  else if p = pgIC then s.viewIc o
  else if p = pgRING then s.viewRing o
  else if p = pgHK then s.viewHk o
  else if p = pgTHM then
    (if o = 0x48 then [THM_COOL.as (match s.thm.coolAt with
      | some t => min 0xFFFF (((s.now : Int) - t) / 983040).toNat | none => 0)] else [])
  else if p = pgPWM then
    (if 0x40 ≤ o ∧ o < 0xA0 ∧ o % 16 = 0xC then [PWM_STAT_LEVEL.as (s.pwmLevel ((o - 0x40) / 16)).toNat] else [])
  else []

/-! ### The word at an offset -/

/-- The index at which a row's field lies in the word at slice offset `a`, if it does. -/
def Row.at (r : Row) (a : Nat) : Option Nat :=
  if r.f.stride = 0 then (if a = r.f.off then some 0 else none)
  else if r.f.off ≤ a ∧ (a - r.f.off) % r.f.stride = 0 ∧ r.i0 ≤ (a - r.f.off) / r.f.stride
      ∧ (a - r.f.off) / r.f.stride < r.i0 + r.n then some ((a - r.f.off) / r.f.stride) else none

/-- The rows whose fields lie in the word at slice offset `a`, with the index of each. -/
def rowsAt (a : Nat) : List (Row × Nat) :=
  (dirOf (a / 0x1000 * 0x1000)).filterMap fun r => (r.at a).map fun i => (r, i)

/-- The word of a page's own registers at slice offset `a`; write-only and reserved fields read 0 (R6, R7). -/
def State.fieldWord (s : State) (a : Nat) : Nat :=
  let vs := s.views (a / 0x1000 * 0x1000) (a % 0x1000)
  (rowsAt a).foldl (fun acc (r, i) =>
    let x := match r.acc with
      | .wo => 0
      | _ => match vs.find? fun v => v.1 == r.f.lo with
        | some v => v.2
        | none => s.rd r.f i
    acc + x % 2 ^ r.f.w * 2 ^ r.f.lo) 0

/-- The fast IC bank: PG_ID, the claim and status words of the fast class, and the mirrors (R378, R471). -/
def State.fastBank (s : State) (o : Nat) : Nat :=
  if o = 0x100 then s.fieldWord 0x44
  else if o = 0x104 then s.fieldWord (pgCUR + 0x40)
  else if o = 0x108 then s.fieldWord (pgFC + 0x40)
  else if o = 0x10C then s.fieldWord (pgFC + 0x44)
  else if 0x80 ≤ o ∧ o < 0xC0 ∧ o % 16 = 4 then s.topFor ((o - 0x80) / 16) true
  else if 0x80 ≤ o ∧ o < 0xC0 ∧ o % 16 = 0xC then
    (s.tgtStat ((o - 0x80) / 16) true).foldl (fun a x => a + x.2 * 2 ^ x.1) 0
  else 0

/-- What the word at slice offset `a` reads, rounded down to a word; offsets in no row read 0 (R470). -/
def State.readWord (s : State) (a : Nat) : Word :=
  let a := a / 4 * 4
  let o := a % 0x1000
  if 0x100000 ≤ a then
    if a < 0x180000 then s.ld a
    else if a < 0x200000 then 0
    else if a < 0x400000 then s.ctxWord ((a - 0x200000) / 64) ((a - 0x200000) / 4 % 16)
    else if a < 0x404000 then s.ld a
    else if a < 0x410000 then
      (s.sect ((a - 0x404000) / 24)).word (s.on CTE_VIEW 0) ((a - 0x404000) / 4 % 6)
    else if a < 0x414000 then s.ld a
    else 0
  else
    match pageId (a - o) with
    | none => 0
    | some (b, i) =>
      if o = 0 then BitVec.ofNat 32 (b * 2 ^ 16 + i * 2 ^ 8 + 0xB0)
      else if a - o = pgIC + 0x1000 then BitVec.ofNat 32 (s.fastBank o)
      else if o < 0x40 then BitVec.ofNat 32 (s.header (a - o) o)
      else if a - o = pgHIF ∧ 0x800 ≤ o ∧ o < 0x840 then s.ld a
      else BitVec.ofNat 32 (s.fieldWord a)

end Sys2Proof.Machine
end

