-- ==== Sys2Proof/Machine/Twt.lean ====
section
/-! DEFINITION. The two-wire target TWT (spec/16_two_wire_ports.md R425 to R431, R440): the management window, the
mailboxes, the alert, sleep, repeated starts and the stuck bus. -/
namespace Sys2Proof.Machine
open Sys2Proof

def alertOUT : Nat := 0
def alertHOST : Nat := 5

/-- The bytes of the status area (Table 16-2). -/
def State.statusArea (s : State) : List Byte :=
  let w := fun a => wordBytes (s.readWord a)
  let n := fun (v : Nat) => wordBytes (BitVec.ofNat 32 v)
  let hk := fun i => (n (s.rd HK_RES_VALUE i)).take 2
  w 0x44 ++ w (pgFC + 0x40) ++ w (pgFC + 0x44) ++ w (pgCUR + 0x40) ++ w (pgTHM + 0x44) ++ w (pgTIME + 0x44)
    ++ n (todFrac s.time.idx) ++ n s.time.sec
    ++ ((List.range 8).flatMap fun i => hk (24 + i)) ++ ((List.range 24).flatMap hk)
    ++ n s.pb.next.toNat ++ (n (s.pb.next.toNat / 2 ^ 32)).take 1
    ++ [BitVec.ofNat 8 (s.rd TWT_STAT_IN_FULL 0 + 2 * s.rd TWT_STAT_OUT_FULL 0), s.twt.causes,
        BitVec.ofNat 8 (s.rd TWT_CFG_ADDR 0)]
    ++ w 0 ++ List.replicate 20 0

/-- The transaction ends, or goes on. -/
def State.twtEnd (s : State) (stop : Bool) : State :=
  (s.setTwt fun t => { t with lastAt := s.now }).cond stop fun s => s.wr TWT_STAT_BUSY 0 0

/-- A sleeping port does not acknowledge, counts it and wakes (R429). -/
def State.twtWake (s : State) : State :=
  ((s.wr TWT_STAT_ASLEEP 0 0).satInc TWT_NACK_CNT 0).setTwt fun t => { t with lastAt := s.now, acked := false }

/-- TWT_ADDRESS: an address byte after a START or a repeated START. -/
def State.twtAddress (s : State) (addr : Nat) (read : Bool) : State :=
  if s.sys.dark then s
  else if addr ≠ s.rd TWT_CFG_ADDR 0 then (s.wr TWT_STAT_BUSY 0 0).setTwt fun t => { t with acked := false }
  else if s.on TWT_STAT_ASLEEP 0 && !s.twt.afterStuck then s.twtWake
  else
    let s := s.cond (!s.on TWT_STAT_BUSY 0) fun s => s.satInc TWT_XFER_CNT 0
    let s := (s.wr TWT_STAT_BUSY 0 1).wr TWT_STAT_ASLEEP 0 0
    let a := if read then s.statusArea else s.twt.snap
    s.setTwt fun t =>
      { t with reading := read, first := !read, lastAt := s.now, afterStuck := false, acked := true, snap := a }

/-- The pointer advances and wraps (R426). -/
def State.twtAdvance (s : State) : State := s.inc TWT_STAT_PTR 0

/-- TWT_WRITE_BYTE: a data byte, with a STOP after it or not. -/
def State.twtWrite (s : State) (b : Byte) (stop : Bool) : State :=
  if !s.on TWT_STAT_BUSY 0 || s.twt.reading then s
  else
    let p := s.rd TWT_STAT_PTR 0
    let s := s.setTwt fun t => { t with acked := true }
    let s :=
      if s.twt.first then (s.wr TWT_STAT_PTR 0 b.toNat).setTwt fun t => { t with first := false }
      else if 0x80 ≤ p ∧ p < 0xC0 then
        if s.on TWT_STAT_IN_FULL 0 then
          ((s.satInc TWT_NACK_CNT 0).setTwt fun t => { t with acked := false }).twtAdvance
        else
          let s := s.wrBits TWT_MBOX_IN ((p - 0x80) / 4) (8 * (p % 4)) 8 b.toNat
          (s.cond (p == 0xBF) fun s => (s.wr TWT_STAT_IN_FULL 0 1).int pgTWT 0).twtAdvance
      else (s.satInc TWT_ROWR_CNT 0).twtAdvance
    s.twtEnd stop

/-- The byte of the window at the pointer (R425, R426). -/
def State.twtByte (s : State) : Byte :=
  let p := s.rd TWT_STAT_PTR 0
  if p < 0x80 then (s.twt.snap.drop p).headD 0
  else if p < 0xC0 then BitVec.ofNat 8 (s.rd TWT_MBOX_IN ((p - 0x80) / 4) / 2 ^ (8 * (p % 4)))
  else BitVec.ofNat 8 (s.rd TWT_MBOX_OUT ((p - 0xC0) / 4) / 2 ^ (8 * (p % 4)))

/-- TWT_READ_BYTE: a byte is transmitted and its acknowledge clock passes; with a parity error it reads 0x00 (R438). -/
def State.twtRead (s : State) (stop parity : Bool) : State :=
  if !s.on TWT_STAT_BUSY 0 || !s.twt.reading then s
  else
    let p := s.rd TWT_STAT_PTR 0
    let b := if parity then 0 else s.twtByte
    let s := s.setTwt fun t => { t with sent := b }
    let s := s.cond parity fun s => s.raise pgTWT 2 allPorts
    let s := s.cond (p == 0x66) fun s => s.setTwt fun t => { t with causes := t.causes &&& ~~~((t.snap.drop 0x66).headD 0) }
    let s := s.cond (p == 0xFF && s.on TWT_STAT_OUT_FULL 0) fun s => (s.wr TWT_STAT_OUT_FULL 0 0).int pgTWT 1
    s.twtAdvance.twtEnd stop

/-- TWT_REPEATED_START_AT_ACK: the byte just moved has no effect (R430). -/
def State.twtRestart (s : State) : State :=
  if !s.on TWT_STAT_BUSY 0 then s
  else ((s.satInc TWT_RSACK_CNT 0).int pgTWT 3).setTwt fun t => { t with lastAt := s.now }

/-- TWT_SCL_STUCK (R431). -/
def State.twtStuck (s : State) : State :=
  if !s.on TWT_STAT_BUSY 0 then s
  else
    let s := ((s.wr TWT_STAT_BUSY 0 0).satInc TWT_STUCK_CNT 0).setTwt fun t => { t with afterStuck := true, lastAt := s.now }
    s.raiseInt [(pgTWT, 2)] pgTWT 1 allPorts

/-- TWT_IDLE_SLEEP (R429). -/
def State.twtSleep (s : State) : State :=
  if s.on TWT_STAT_BUSY 0 || s.on TWT_STAT_ASLEEP 0 || !s.on TWT_CFG_SLEEP_EN 0 then s
  else (s.reach (s.twt.lastAt + secT (s.rd TWT_CFG_IDLE_S 0))).wr TWT_STAT_ASLEEP 0 1

/-- ALERT_RESPONSE: a read of 0x0C; `lost`: the arbitration goes to a lower address (R428). -/
def State.alertRead (s : State) (lost : Bool) : State :=
  if s.sys.dark then s
  else if s.on TWT_STAT_ASLEEP 0 && !s.twt.afterStuck then s.twtWake
  else
    let s := s.setTwt fun t => { t with lastAt := s.now, afterStuck := false }
    if !s.on TWT_STAT_ALERT 0 then s.setTwt fun t => { t with acked := false }
    else
      let s := (s.satInc TWT_XFER_CNT 0).setTwt fun t =>
        { t with acked := true, sent := BitVec.ofNat 8 (2 * s.rd TWT_CFG_ADDR 0) }
      s.cond (!lost) fun s => (s.wr TWT_STAT_ALERT 0 0).int pgTWT 4

/-! ### Host writes -/

/-- MAILBOX_IN_ACK. -/
def State.inAck (s : State) : State := s.wr TWT_STAT_IN_FULL 0 0

/-- MAILBOX_OUT_GO. -/
def State.outGo (s : State) : State :=
  if s.on TWT_STAT_OUT_FULL 0 then s.refuse pgTWT else (s.wr TWT_STAT_OUT_FULL 0 1).alert alertOUT

/-- A write of TWT_CTL. -/
def State.writeTwtCtl (s : State) (v : Word) : State :=
  let s := s.cond (TWT_CTL_IN_ACK.of v == 1) State.inAck
  let s := s.cond (TWT_CTL_OUT_GO.of v == 1) State.outGo
  s.cond (TWT_CTL_ALERT.of v == 1) fun s => s.alert alertHOST

/-- A write of TWT_CFG. -/
def State.writeTwtCfg (s : State) (v : Word) : State :=
  if TWT_CFG_IDLE_S.of v = 0 then s.refuse pgTWT else s.wrWord [TWT_CFG_IDLE_S, TWT_CFG_SLEEP_EN] 0 v

/-- A write of TWT_MBOX_OUT_i. -/
def State.writeMboxOut (s : State) (i : Nat) (v : Word) : State :=
  if s.on TWT_STAT_OUT_FULL 0 then s.refuse pgTWT else s.wr TWT_MBOX_OUT i v.toNat

end Sys2Proof.Machine
end

