-- ==== Sys2Proof/Machine/HostWrite.lean ====
section
/-! DEFINITION. A register access as it arrives at the device, by any path (spec/00_scope.md R6, R7; spec/01_architecture.md
R27, R38, R39; spec/18_register_directory.md R470 to R472, and the field tables of the chapters): what a write of each
register does, and reads, claims and frames that wait for a transition to complete (R11). -/
namespace Sys2Proof.Machine
open Sys2Proof

/-! ### Plain registers -/

/-- A write by the access types of the fields of the word: RW takes the value, W1C clears where a 1 is written, the other
fields keep theirs (R7). -/
def State.writePlain (s : State) (a : Nat) (v : Word) : State :=
  (rowsAt a).foldl (fun (s : State) (r, i) =>
    match r.acc with
    | .rw => s.wr r.f i (r.f.of v)
    | .w1c => s.clrBits r.f i (r.f.of v)
    | .ro => s
    | .wo => s) s

/-- A write that a range check refuses as a whole, or that is plain. -/
def State.checked (s : State) (page : Nat) (ok : Bool) (a : Nat) (v : Word) : State :=
  if ok then s.writePlain a v else s.refuse page

/-! ### The page header (R278, R279, R472, Table 18-2) -/

/-- The defined bits of PG_INT_STAT of a page: those below this number. -/
def intBits (p : Nat) : Nat :=
  if pgCONVRX ≤ p ∧ p < pgLANE then 3
  else if pgLANE ≤ p ∧ p < pgCHF then (if p < pgLANE + 0x8000 then 5 else 3)
  else if p = pgAt pgTWC 0 ∨ p = pgAt pgTWC 1 then 5
  else
    let l := [(pgSYS, 3), (pgBOOT, 3), (pgSEC, 2), (pgIC, 1), (pgHIF, 2), (pgFAB, 2), (pgLEDG, 2), (pgFC, 9), (pgPROT, 5),
      (pgCUR, 5), (pgTIME, 7), (pgTDD, 3), (pgSYN, 4), (pgRFC, 3), (pgCNX, 7), (pgSLN, 3), (pgSPT, 5), (pgMEAS, 4), (pgCTE, 9),
      (pgPB, 7), (pgSTM, 8), (pgDMA, 16), (pgHK, 4), (pgTHM, 3), (pgPWM, 2), (pgTWT, 5), (pgSMEM, 2), (pgRING, 7)]
    match l.find? fun x => x.1 == p with
    | some x => x.2
    | none => 0

/-- The defined bits of PG_ERR of a page: CFG_REFUSED and the causes; CUR has no causes. -/
def errBits (p : Nat) : Nat :=
  if p = pgCUR then 0 else maskOf 32 fun b => b == 0 || (causeSrc p b).isSome

/-- Bits of PG_ERR cleared by the host. A detector's bit stays while a port holds its cause (R166). -/
def State.clearErr (s : State) (p m : Nat) : State :=
  let keep := if p = pgPROT then
      maskOf 8 fun b => decide (1 ≤ b) && decide (b ≤ 5) && (List.range 8).any fun k => s.cause k (b - 1)
    else 0
  s.clrBits PG_ERR p (m - (m &&& keep))

/-- PAGE_INT_CLEAR. -/
def State.pageIntClear (s : State) (p : Nat) : State := s.wr PG_INT_STAT p 0

/-- PAGE_ERR_CLEAR. -/
def State.pageErrClear (s : State) (p : Nat) : State := s.clearErr p 0xFFFFFFFF

/-- A write of a header word. -/
def State.writeHeader (s : State) (p o : Nat) (v : Word) : State :=
  if o = 4 then
    let s := s.cond (v.getLsbD 1) fun s => s.pageIntClear p
    s.cond (v.getLsbD 0) fun s => s.pageErrClear p
  else if o = 0xC then s.clearErr p v.toNat
  else if o = 0x10 then s.wr PG_ERR_MASK p (v.toNat &&& maskOf 32 fun b => (errBits p).testBit b && maskable p b)
  else if o = 0x14 then s.forceCause p v
  else if o = 0x18 then s.clrBits PG_INT_STAT p v.toNat
  else if o = 0x1C then s.wr PG_INT_EN p (v.toNat % 2 ^ intBits p)
  else s

/-! ### The registers of each page, at offset `o` of the page at `p`; registers without a case are plain -/

def State.writeLane (s : State) (p o : Nat) (v : Word) : State :=
  let n := (p - pgLANE) / 0x1000
  if o = 0x40 then s.writeLaneCfg n v
  else if o = 0x44 then s.writeLaneWord n .rxLo v
  else if o = 0x48 then s.writeLaneWord n .rxHi v
  else if o = 0x4C then s.writeLaneWord n .rxPhase v
  else if o = 0x50 then s.writeLaneWord n .txLo v
  else if o = 0x54 then s.writeLaneWord n .txHi v
  else if o = 0x58 then s.writeLaneWord n .txPhase v
  else s.writePlain (p + o) v

def State.writeConv (s : State) (p o : Nat) (v : Word) : State :=
  if o = 0x40 then s.writeCv (if pgCONVTX ≤ p then 8 + (p - pgCONVTX) / 0x1000 else (p - pgCONVRX) / 0x1000) v
  else s.writePlain (p + o) v

def State.writeCnx (s : State) (o : Nat) (v : Word) : State :=
  let plain := s.writePlain (pgCNX + o) v
  if o = 0x40 then s.writeMargin v
  else if o = 0x44 then s.writeRise v
  else if o = 0x48 then s.checked pgCNX (decide (CNX_XCAP.of v ≤ 0xF00)) (pgCNX + o) v
  else if o = 0x4C then
    let r := CNX_PROBE_PROBE_REL.of v
    let l := CNX_PROBE_PROBE_LVL.of v
    s.checked pgCNX (decide (30 ≤ r) && decide (r ≤ 50) && decide (20 ≤ l) && decide (l ≤ 70)) (pgCNX + o) v
  else if o = 0x50 then s.cond (v.getLsbD 0) State.tapSnap
  else if o = 0x64 then s.writePos v
  else if 0x400 ≤ o ∧ o < 0xC00 ∧ o % 16 = 0 then s.writePathCfg ((o - 0x400) / 16) v
  else if 0xC00 ≤ o ∧ o < 0xC80 ∧ o % 16 = 0 then s.writeStx ((o - 0xC00) / 16) v
  else if 0xC80 ≤ o ∧ o < 0xD00 ∧ o % 16 = 0 then s.writeSrx ((o - 0xC80) / 16) v
  else plain

def State.writeSln (s : State) (o : Nat) (v : Word) : State :=
  if o = 0x40 then s.checked pgSLN (decide (SLN_CFG_DENSE_PRE.of v ≤ 16)) (pgSLN + o) v
  else if o = 0x44 then s.writeSlnCtl v
  else s.writePlain (pgSLN + o) v

/-- SPT, and MEAS for `dn` (R122, R123, R128, R134). -/
def State.writeSpt (s : State) (dn : Bool) (o : Nat) (v : Word) : State :=
  let p := if dn then pgMEAS else pgSPT
  let n := (if dn then 0 else 16) + (o - 0x100) / 16
  if o = 0x40 then
    let m := SPT_CFG_SMOOTH.of v
    let ok := decide (SPT_CFG_RISE.of v ≠ 0) && decide (SPT_CFG_BIAS.of v ≤ 0x40) && decide (2 ≤ m) && decide (m ≤ 10)
    (s.cond ok fun s => s.holdCfg dn).checked p ok (p + o) v
  else if o = 0x58 then s.writeCtxSnap dn v
  else if 0x100 ≤ o ∧ o < 0x200 ∧ o % 16 = 0 then s.writeSptCfg n v
  else if 0x100 ≤ o ∧ o < 0x200 ∧ o % 16 = 4 then s.writeSptMap n v
  else s.writePlain (p + o) v

/-- PROT (R165, Tables 5-7 to 5-9). -/
def State.writeProt (s : State) (o : Nat) (v : Word) : State :=
  let a := pgPROT + o
  if o = 0x40 then
    let l := PROT_OSC_LINE.of v
    let g := PROT_OSC_GROW.of v
    s.checked pgPROT (decide (10 ≤ l) && decide (l ≤ 40) && decide (PROT_OSC_RHO.of v ≤ 20) && decide (4 ≤ g) && decide (g ≤ 0x30)) a v
  else if o = 0x44 then s.checked pgPROT (decide (PROT_OD_OD_PWR.of v ≤ 0x28) && decide (1 ≤ PROT_OD_OD_CLIPS.of v)) a v
  else if o = 0x48 then
    let f := PROT_NR_FRAMES.of v
    let l := PROT_NR_LIMIT.of v
    let ok := decide (1 ≤ f) && decide (f ≤ 100) && decide (8 ≤ l) && decide (l ≤ 0x180)
    (s.cond ok State.holdProt).checked pgPROT ok a v
  else if o = 0x4C ∨ (0x100 ≤ o ∧ o < 0x300 ∧ o % 16 = 0) then s.holdProt.writePlain a v
  else if o = 0x50 then
    let r := PROT_RAMP.of v
    if 1 ≤ r ∧ r ≤ 20 then (s.newRate r).writePlain a v else s.refuse pgPROT
  else if 0x400 ≤ o ∧ o < 0x500 ∧ o % 8 = 0 then
    let c := sx 16 (PROT_EM_BAND_CENTRE.of v)
    let w : Int := PROT_EM_BAND_WIDTH.of v
    s.checked pgPROT (!v.getLsbD 0 || (decide (w ≠ 0) && decide ((2 * c + w).natAbs ≤ 65536) && decide ((2 * c - w).natAbs ≤ 65536))) a v
  else s.writePlain a v

def State.writeCur (s : State) (o : Nat) (v : Word) : State :=
  if o = 0x44 then s.writeCurHost v
  else if o = 0x48 then s.curRelease v
  else s.writePlain (pgCUR + o) v

/-- TIME (R169 to R201, Tables 6-7 and 6-8). -/
def State.writeTime (s : State) (o : Nat) (v : Word) : State :=
  let a := pgTIME + o
  if o = 0x40 then s.writeTimeCfg v
  else if o = 0x48 then s.writeTimeCtl v
  else if o = 0x5C then s.checked pgTIME (decide (TIME_SET_CS.of v ≤ 99)) a v
  else if o = 0x68 then s.writeOsc v
  else if o = 0x70 then s.writeHold v
  else if o = 0x78 then s.writeTimeLoop v
  else if o = 0x84 then
    let w := TIME_PPSO_WIDTH.of v
    s.checked pgTIME (decide (1 ≤ w) && decide (w ≤ 10000)) a v
  else if o = 0x88 then s.writePpsi v
  else if o = 0x94 then s.checked pgTIME (decide (4 ≤ TIME_REFOUT_DIV.of v)) a v
  else if o = 0x98 then
    let f := 983040000 * v.toNat
    s.checked pgTIME (decide (1000 * 2 ^ 32 ≤ f) && decide (f ≤ 250000000 * 2 ^ 32)) a v
  else if 0x100 ≤ o ∧ o < 0x140 ∧ o % 16 = 0 then s.writeDet ((o - 0x100) / 16) v
  else s.writePlain a v

def State.writeTdd (s : State) (o : Nat) (v : Word) : State :=
  if o = 0x40 then s.writeTddCtl v
  else if 0x400 ≤ o ∧ o < 0x800 then
    let i := (o - 0x400) / 0x100
    let w := s.writeTddBank (i / 2) (i % 2)
    let r := o % 0x100
    if r = 0 then w [TDD_PER] i v
    else if r = 4 then w [TDD_DLOFS] i v
    else if r = 8 then w [TDD_ULOFS] i v
    else if 0x10 ≤ r ∧ r < 0x90 then w [TDD_ENT_DIR, TDD_ENT_START] (64 * i + (r - 0x10) / 4) v
    else s
  else s.writePlain (pgTDD + o) v

def State.writeRfc (s : State) (o : Nat) (v : Word) : State :=
  let a := pgRFC + o
  if o = 0x40 then s.checked pgRFC (decide (1 ≤ RFC_CFG.of v)) a v
  else if 0x80 ≤ o ∧ o < 0x100 then
    let x := (o - 0x80) / 0x40
    let r := (o - 0x80) % 0x40
    if r = 0 then s.writeAttnCfg x v
    else if r = 4 then s.writeAttnCtl x v
    else if 0x10 ≤ r ∧ r < 0x20 then s.writeAttnData x ((r - 0x10) / 4) v
    else s
  else if 0x100 ≤ o ∧ o < 0x180 ∧ o % 16 = 0 then s.writePortCfg ((o - 0x100) / 16) v
  else if 0x200 ≤ o ∧ o < 0x240 then (s.writePlain a v).lossAll
  else if o = 0x300 then s.writeCoexCfg v
  else s.writePlain a v

def State.writeCte (s : State) (o : Nat) (v : Word) : State :=
  if o = 0x48 then s.cueGroup v
  else if o = 0x5C then s.writeSectState false v
  else if o = 0x60 then s.writeSectState true v
  else if o = 0x64 then s.writeInjCfg v
  else if o = 0x70 then s.writeInjLen v
  else if o = 0x74 then s.writeInjCtl v
  else if o = 0x78 then s.writeCteCap v
  else s.writePlain (pgCTE + o) v

def State.writeFab (s : State) (o : Nat) (v : Word) : State :=
  if o = 0x40 then s.writeFabCfg v
  else if o = 0x44 then s.writeVlim v
  else if o = 0x48 then s.writeVreq (s.targetOwner 5 0).isSome v
  else if o = 0x58 then s.cond (v.getLsbD 0) State.minClr
  else s.writePlain (pgFAB + o) v

/-- LEDG. The answer of a remote target to a GO that this write gives is a free value. -/
def State.writeLedg (s : State) (o : Nat) (v : Word) : State :=
  if o = 0x40 then s.writeSnap v
  else if o = 0x44 then s.writeLedgClr v
  else if o = 0x100 then s.writeMigCfg v
  else if o = 0x10C then
    let (k, s) := s.draw
    let x := (Config.freeValue k).toNat
    s.writeMigCtl v (x % 9) (x / 9)
  else s.writePlain (pgLEDG + o) v

def State.writeFc (s : State) (o : Nat) (v : Word) : State :=
  if o = 0x40 then s.hostClear false v
  else if o = 0x44 then s.hostClear true v
  else if o = 0x48 then s.forceSource false v
  else if o = 0x4C then s.forceSource true v
  else if o = 0x50 then s.checked pgFC (decide (1 ≤ FC_CFG_PULSE_W.of v)) (pgFC + o) v
  else if o = 0x7C then s.cond (v.getLsbD 31) State.ackFirst
  else if 0x80 ≤ o ∧ o < 0x160 then s.writeSev ((o - 0x80) / 4) v
  else s.writePlain (pgFC + o) v

def State.writePb (s : State) (o : Nat) (v : Word) : State :=
  if o = 0x40 then s.writePbCfg v
  else if o = 0x98 then s.cond (v.getLsbD 31) State.pbReadGo
  else if o = 0xC8 then s.checked pgPB (decide (1 ≤ v.toNat)) (pgPB + o) v
  else if o = 0xCC then (s.cond (v.getLsbD 31) State.verifyGo).cond (v.getLsbD 30) State.verifyStop
  else s.writePlain (pgPB + o) v

def State.writeStm (s : State) (o : Nat) (v : Word) : State :=
  if o = 0x48 then s.writeStmIf v
  else if o = 0x58 then s.writeStmLimits v
  else if o = 0x64 then s.writeFmtCtl s.sys.dark v
  else if o = 0x80 then s.writeHistCfg v
  else if o = 0xA0 then s.writeCapCfg v
  else if o = 0xA8 then s.writeCapCtl v
  else if o = 0xD0 then s.writeScrubCfg v
  else s.writePlain (pgSTM + o) v

def State.writeHif (s : State) (o : Nat) (v : Word) : State :=
  if o = 0x44 then s.writeHifCfg v
  else if o = 0x48 then s.writeHifPm v
  else if 0x800 ≤ o ∧ o < 0x840 then
    (if o % 16 = 0xC then s.writeVecCtl ((o - 0x800) / 16) v else s.stIn .vecs (o - 0x800) v)
  else s.writePlain (pgHIF + o) v

def State.writeDma (s : State) (o : Nat) (v : Word) : State :=
  let q := (o - 0x100) / 0x40
  let r := (o - 0x100) % 0x40
  if 0x100 ≤ o ∧ o < 0x300 then
    if r = 0 then s.writeQCfg q v
    else if r = 4 then s.writeQBase DMA_Q_BASE_LO q v
    else if r = 8 then s.writeQBase DMA_Q_BASE_HI q v
    else if r = 0xC then s.writeQBase DMA_CQ_BASE_LO q v
    else if r = 0x10 then s.writeQBase DMA_CQ_BASE_HI q v
    else if r = 0x1C then s.writeCqHead q v
    else s.writePlain (pgDMA + o) v
  else s.writePlain (pgDMA + o) v

/-- IC, and its fast bank, where only IC_COMPLETE takes writes (R378). -/
def State.writeIc (s : State) (fast : Bool) (o : Nat) (v : Word) : State :=
  if 0x80 ≤ o ∧ o < 0xC0 ∧ o % 16 = 8 then s.icComplete ((o - 0x80) / 16) fast (v.toNat % 256)
  else if fast then s
  else if o = 0x44 then s.writeWake v
  else if o = 0x50 then s.writeCntPtr v
  else if 0x80 ≤ o ∧ o < 0xC0 ∧ o % 16 = 0 then s.writeTgtCfg ((o - 0x80) / 16) v
  else if 0x400 ≤ o ∧ o < 0x800 then s.writeSrcCfg ((o - 0x400) / 4) v
  else s.writePlain (pgIC + o) v

def State.writeHk (s : State) (o : Nat) (v : Word) : State :=
  if o = 0x40 then s.writeHkCfg v
  else if o = 0x44 then s.writeHkMask v
  else if o = 0x48 then s.writeHkTrig v
  else if o = 0x4C then s.writeHkTimer v
  else if o = 0x50 then s.cond (v.getLsbD 31) fun s => s.writeHkCtl v
  else s.writePlain (pgHK + o) v

def State.writePwm (s : State) (o : Nat) (v : Word) : State :=
  let n := (o - 0x40) / 16
  if 0x40 ≤ o ∧ o < 0xA0 ∧ o % 16 = 0 then s.writePwmCfg n v
  else if 0x40 ≤ o ∧ o < 0xA0 ∧ o % 16 = 4 then s.writePwmPer n v
  else if 0x40 ≤ o ∧ o < 0xA0 ∧ o % 16 = 8 then s.writePwmDuty n v
  else if 0x100 ≤ o ∧ o < 0x140 ∧ o % 8 = 0 then s.writeBdacCfg ((o - 0x100) / 8) v
  else if 0x100 ≤ o ∧ o < 0x140 ∧ o % 8 = 4 then s.writeBdacCode ((o - 0x100) / 8) v
  else s.writePlain (pgPWM + o) v

def State.writeTwt (s : State) (o : Nat) (v : Word) : State :=
  if o = 0x40 then s.writeTwtCfg v
  else if o = 0x4C then s.writeTwtCtl v
  else if 0xC0 ≤ o ∧ o < 0x100 then s.writeMboxOut ((o - 0xC0) / 4) v
  else s.writePlain (pgTWT + o) v

def State.writeTwc (s : State) (q o : Nat) (v : Word) : State :=
  let a := pgAt pgTWC q + o
  if o = 0x40 then s.writeTwcCfg q v
  else if o = 0x44 then s.writeTwcTimeA q v
  else if o = 0x48 then s.writeTwcTimeB q v
  else if o = 0x4C then s.writeTwcCtl q v
  else if o = 0x54 then s.writeTwcCmd q v
  else if o = 0x80 then s.writeRegCfg q v
  else if 0x100 ≤ o ∧ o < 0x200 ∧ o % 16 = 0 then s.writePollA q ((o - 0x100) / 16) v
  else if 0x100 ≤ o ∧ o < 0x200 ∧ o % 16 = 4 then s.checked (pgAt pgTWC q) (decide (1 ≤ TWC_POLL_B.of v)) a v
  else s.writePlain a v

/-- BOOT, SEC and SMEM (R444, R448, R463, R465). -/
def State.writeStart (s : State) (p o : Nat) (v : Word) : State :=
  if p = pgBOOT ∧ o = 0x50 then s.writeBootCfg v
  else if p = pgBOOT ∧ o = 0x54 then s.writeBootReset v
  else if p = pgSEC ∧ o = 0x4C then s.writeSecProg v
  else if p = pgSEC ∧ 0x50 ≤ o ∧ o < 0x70 then s.wr SEC_KEY ((o - 0x50) / 4) v.toNat
  else if p = pgSMEM ∧ o = 0x44 then s.writeSmemCfg v
  else if p = pgSMEM ∧ o = 0x48 then s.writeSmemCmd v
  else s.writePlain (p + o) v

/-- A write of the register at offset `o` of the page at `p`, beyond its header. -/
def State.writePage (s : State) (p o : Nat) (v : Word) : State :=
  if p = pgSYS then (if o = 0x40 then s.sysCmd (SYS_CMD.of v) else s.writePlain o v)
  else if p = pgBOOT ∨ p = pgSEC ∨ p = pgSMEM then s.writeStart p o v
  else if p = pgFC then s.writeFc o v
  else if p = pgIC then s.writeIc false o v
  else if p = pgIC + 0x1000 then s.writeIc true o v
  else if p = pgPB then s.writePb o v
  else if p = pgSTM then s.writeStm o v
  else if p = pgHIF then s.writeHif o v
  else if p = pgDMA then s.writeDma o v
  else if p = pgRING then (if o = 0x48 then s.writeRingCtl v else s.writePlain (p + o) v)
  else if p = pgTIME then s.writeTime o v
  else if p = pgTDD then s.writeTdd o v
  else if p = pgSYN then (if o = 0x50 then s.writeSynCtl v else s.writePlain (p + o) v)
  else if p = pgRFC then s.writeRfc o v
  else if p = pgCUR then s.writeCur o v
  else if p = pgPROT then s.writeProt o v
  else if p = pgHK then s.writeHk o v
  else if p = pgTHM then
    (if o = 0x40 then s.writeThmCfg v else if o = 0x54 then s.writeThmCtl v else s.writePlain (p + o) v)
  else if p = pgPWM then s.writePwm o v
  else if p = pgTWT then s.writeTwt o v
  else if p = pgAt pgTWC 0 then s.writeTwc 0 o v
  else if p = pgAt pgTWC 1 then s.writeTwc 1 o v
  else if p = pgCTE then s.writeCte o v
  else if p = pgFAB then s.writeFab o v
  else if p = pgLEDG then s.writeLedg o v
  else if pgCONVRX ≤ p ∧ p < pgLANE then s.writeConv p o v
  else if pgLANE ≤ p ∧ p < pgCHF then s.writeLane p o v
  else if p = pgCHF then
    (if 0x40 ≤ o ∧ o < 0xC0 then s.writeChfSel ((o - 0x40) / 4) v else if o = 0xC0 then s.writeChfPtr v else s)
  else if p = pgRSM then
    (if 0x40 ≤ o ∧ o < 0x240 ∧ o % 16 = 8 then s.writeDelay ((o - 0x40) / 16) v else s.writePlain (p + o) v)
  else if p = pgCNX then s.writeCnx o v
  else if p = pgSLN then s.writeSln o v
  else if p = pgSPT then s.writeSpt false o v
  else if p = pgMEAS then s.writeSpt true o v
  else s

/-- A write of the word at slice offset `a`, rounded down to a word. Writes to offsets in no row are discarded (R470). -/
def State.hostWrite (s : State) (a : Nat) (v : Word) : State :=
  let a := a / 4 * 4
  let o := a % 0x1000
  if 0x100000 ≤ a then
    if a < 0x180000 then s.writeTap ((a - 0x100000) / 8) (decide (a % 8 = 4)) v
    else if a < 0x200000 then s
    else if a < 0x400000 then s.writeCtx ((a - 0x200000) / 64) ((a - 0x200000) / 4 % 16) v
    else if a < 0x404000 then
      let l := (a - 0x400000) / 64
      let i := (a - 0x400000) / 4 % 16
      if i = 0 then s.writeLpCfg l v else s.writeLp l i v
    else if a < 0x410000 then s.writeSect ((a - 0x404000) / 24) ((a - 0x404000) / 4 % 6) v
    else if a < 0x414000 then s.stIn .tables (a - 0x410000) (v &&& 0x3FFFFFFF#32)
    else s
  else if (pageId (a - o)).isNone then s
  else if o < 0x40 then (if a - o = pgIC + 0x1000 then s else s.writeHeader (a - o) o v)
  else s.writePage (a - o) o v

/-! ### Accesses that may wait (R11, R27) -/

/-- A register write: behind a command that waits for a transition, it waits too. -/
def State.regWrite (s : State) (a : Nat) (v : Word) : State := s.byHost a v fun s => s.hostWrite a v

/-- A read with its effect: a read of a claim register claims (R366). -/
def State.readFx (s : State) (a : Nat) : State × Word :=
  let p := a / 0x1000 * 0x1000
  let o := a / 4 * 4 % 0x1000
  if (p = pgIC ∨ p = pgIC + 0x1000) ∧ 0x80 ≤ o ∧ o < 0xC0 ∧ o % 16 = 4 then
    let (s, n) := s.icClaim ((o - 0x80) / 16) (p != pgIC)
    (s, BitVec.ofNat 32 n)
  else (s, s.readWord a)

/-- A read completes to the host. -/
def State.readLocal (s : State) (a : Nat) : State :=
  let (s, w) := s.readFx a
  s.toHost (.readData w)

/-- A claim whose answer goes to the host. -/
def State.claimNow (s : State) (t : Nat) (fast : Bool) : State :=
  let (s, n) := s.icClaim t fast
  s.toHost (.readData (BitVec.ofNat 32 n))

/-- A register read of a tunnel is answered (R384). -/
def State.answerNow (s : State) (d a : Nat) : State :=
  let (s, w) := s.readFx a
  s.sendOnce d 0 (.answer a w)

/-- The index of the descriptor that a queue runs. -/
def State.runIdx (s : State) (q : Nat) : Nat := match (s.dmaQ q).run with | some r => r.idx | none => 0

/-- The running descriptor `idx` of a queue changes. -/
def State.setRunAt (s : State) (q idx : Nat) (g : DmaRun → DmaRun) : State :=
  s.setRun q fun r => if r.idx = idx then g r else r

/-- A word that a descriptor reads goes to host memory (R359). -/
def State.descWord (s : State) (q idx a host : Nat) (last : Bool) : State :=
  let (s, w) := s.readFx a
  (s.toHost (.write host [w])).setRunAt q idx fun r => { r with bytes := r.bytes + 4, done := r.done || last }

/-- An access is made; behind a command that waits for a transition to complete, it waits in its turn (R11). -/
def State.access (s : State) (w : Waits) : State :=
  if !s.sys.deferred.isEmpty then s.defer w
  else match w with
    | .write a v => s.hostWrite a v
    | .read a => s.readLocal a
    | .claim t f => s.claimNow t f
    | .answer d a => s.answerNow d a
    | .descRead q i a h last => s.descWord q i a h last
    | .descEnd q i => s.setRunAt q i fun r => { r with done := true }

/-- A host read through a slice: this device's own slice, another's over the ring (R38, R357). In DARK it reads all
ones (R450). -/
def State.hostRead (s : State) (d a : Nat) : State :=
  if s.sys.dark then s.toHost (.readData 0xFFFFFFFF#32)
  else if s.vertex && d != s.devId then s.tunnelRead d a none
  else s.access (.read a)

/-- IC_CLAIM. -/
def State.claimRead (s : State) (t : Nat) (fast : Bool) : State :=
  if s.sys.dark then s.toHost (.readData 0xFFFFFFFF#32)
  else s.access (.claim t fast)

/-- REGISTER_WRITE: a host write through a slice; in DARK it is discarded (R450). -/
def State.registerWrite (s : State) (d a : Nat) (v : Word) : State :=
  if s.sys.dark then s
  else if s.vertex && d != s.devId then s.tunnelWrite d (.write a v)
  else s.regWrite a v

/-- DEFERRED_CMD_EVALUATION: the transition is complete, and the accesses that waited are made in order (R11, R27). -/
def State.deferredEval (s : State) : State :=
  if s.on SYS_STATE_IN_TRANSITION 0 then s
  else s.sys.deferred.foldl State.access (s.setSys fun x => { x with deferred := [] })

/-! ### Frames that carry register accesses (R384, R389, R272) -/

/-- What a register-write frame of device `src` does. -/
def State.regBody (s : State) (src : Nat) (b : RegBody) : State :=
  let target := s.fab.mig.bind fun m => if !s.migSource && m.peer == src then some m.dst else none
  match b with
  | .write a v => s.regWrite a v
  | .migGo slot rate lat dst tail js tod =>
    let (e, l, s) := s.migRemoteGo src slot rate lat dst tail js tod
    s.sendRel src 0 (.write (.migResult e l))
  | .migPath j c => match target with | some dst => s.pathPaste (4 * dst + j) c | none => s
  | .migSpot dst res first count me le op l cs =>
    if s.migSource then s else s.spotPaste dst res first count me le op l cs s.fab.lastS
  | .migGain dst request limit gc cap => if s.migSource then s else s.pasteGain dst request limit gc cap
  | .migReady => if s.migSource then s.migReady else s
  | .migResult _ _ => s
  | .migAbort => s.migRemoteAbort src
  | .migDup => s.wr LEDG_MIG_STAT_DUP 0 1
  | .streamAsk dev slot rate dir hop hops => s.streamRelay dev slot rate dir hop hops
  | .streamAnswer slot ok hop => s.streamResult slot ok hop
  | .streamEnd dev slot dir hop hops => s.streamLeave dev slot dir hop hops

/-- REGISTER_WRITE_FRAME. -/
def State.regFrame (s : State) (port src : Nat) (seq : BitVec 16) (b : RegBody) : State :=
  let (ok, s) := s.rxSeq port src 0 seq
  if ok then (s.regBody src b).sendAck src 0 else s

/-- REGISTER_READ_FRAME: a device that starts answers 0 (R388). A read whose earlier writes are not all applied is a frame
with a later SEQ: it is discarded, and draws the NAK (R39, R389, R390). -/
def State.readFrame (s : State) (port src : Nat) (seq : BitVec 16) (a : Nat) : State :=
  let s := s.took port 0
  let x := s.deliv src 0
  let k := (seq - BitVec.ofNat 16 x.expect).toNat
  if s.sys.dark then s.sendOnce src 0 (.answer a 0)
  else if 0 < k ∧ k < 2 ^ 15 then
    (if x.nakSent then s else (s.setDeliv src 0 fun x => { x with nakSent := true }).sendOnce src 0 (.nak x.expect))
  else s.access (.answer src a)

/-! ### Descriptors of kinds 3 and 4 (R359) -/

/-- DESC_REGISTER_READ: each read as a host read would be made, in ascending order. -/
def State.descRegRead (s : State) (q : Nat) (d : Desc) : State :=
  s.descRun q d 3 fun s =>
    let n := d.len / 4
    let i := s.runIdx q
    (List.range n).foldl (fun (s : State) k =>
      if d.dev = s.devId then s.access (.descRead q i (d.devAddr + 4 * k) (d.host + 4 * k) (k + 1 == n))
      else s.tunnelRead d.dev (d.devAddr + 4 * k) (some (q, d.host + 4 * k))) s

/-- DESC_REGISTER_WRITE; `ws`: the words that host memory gives, fewer where a read of it fails (R359, R363). -/
def State.descRegWrite (s : State) (q : Nat) (d : Desc) (ws : List Word) : State :=
  s.descRun q d 4 fun s =>
    let n := d.len / 4
    let i := s.runIdx q
    let xs := (ws.take n).zipIdx
    let st := if ws.length < n then 4 else 0
    let s := s.setRun q fun r => { r with status := st, bytes := 4 * xs.length }
    if d.dev = s.devId then
      (xs.foldl (fun (s : State) x => s.access (.write (d.devAddr + 4 * x.2) x.1)) s).access (.descEnd q i)
    else
      let s := xs.foldl (fun (s : State) x => s.tunnelWrite d.dev (.write (d.devAddr + 4 * x.2) x.1)) s
      let upTo := (s.deliv d.dev 0).total
      s.setRun q fun r => { r with upTo := upTo, done := (s.deliv d.dev 0).acked upTo }

/-! ### Records of a settings image (R455, R458) -/

/-- IMAGE_WRITE. -/
def State.imgWrite (s : State) (a : Nat) (vs : List Word) : State :=
  s.recRun fun s => vs.zipIdx.foldl (fun (s : State) x => s.hostWrite (a + 4 * x.2) x.1) s

/-- IMAGE_MODIFY. -/
def State.imgModify (s : State) (a : Nat) (mask v : Word) : State :=
  s.recRun fun s =>
    let (s, w) := s.readFx a
    s.hostWrite a ((w &&& ~~~mask) ||| (v &&& mask))

/-- IMAGE_WAIT: one read of the record, the first or one 10 µs after the last. -/
def State.imgWait (s : State) (a : Nat) (mask v : Word) (timeout : Nat) (fatal : Bool) : State :=
  match s.boot.recEnd with
  | some e =>
    let t := s.boot.pollAt + usT 10
    if !s.boot.waiting || decide (e ≤ t) then s
    else
      let (s, w) := (s.reach t).readFx a
      if w &&& mask = v then s.setBoot fun b => { b with recEnd := none, waiting := false }
      else s.setBoot fun b => { b with pollAt := s.now }
  | none =>
    s.recRun fun s =>
      let (s, w) := s.readFx a
      if w &&& mask = v then s
      else s.setBoot fun b =>
        { b with recEnd := some (s.now + usT timeout), waiting := true, fatal := fatal, pollAt := s.now }

/-- IMAGE_SKIP. -/
def State.imgSkip (s : State) (a : Nat) (mask v : Word) (isNot : Bool) (count : Nat) : State :=
  s.recRun fun s =>
    let (s, w) := s.readFx a
    if (decide (w &&& mask = v)) != isNot then s.setBoot fun b => { b with skip := count } else s

end Sys2Proof.Machine
end

