-- ==== Sys2Proof/Machine/Canceller.lean ====
section
/-! DEFINITION. The canceller, the search and reference streams: what each command does, over the operations of the blocks. -/
namespace Sys2Proof.Machine
open Sys2Proof

/-- PATH_ENABLE (R79): Host writes CNX_PATH_CFG_p.EN = 1; the checks of Table 3-1 run, then clusters are allocated
and the estimates reset, or the path is refused. -/
def execPathEnable (p : Fin 128) (v : Word) (s : State) : Host.Outcome State Fault Refusal :=
  .next (s.byHost (CNX_PATH_CFG_EN.addr p.val) (v ||| 0x80000000#32) fun s => s.writePathCfg p.val (v ||| 0x80000000#32))

/-- PATH_SUBTRACTION_START (R79): An accepted path starts subtraction at the next victim lane sample whose number is
a multiple of 1,024. -/
def execPathSubtractionStart (p : Fin 128) (s : State) : Host.Outcome State Fault Refusal :=
  .next (s.pathStart p.val)

/-- PATH_DISABLE (R84): Host clears a path's EN; its clusters are released and zeroed, a running search is abandoned,
and its coupling may be retained. -/
def execPathDisable (p : Fin 128) (v : Word) (s : State) : Host.Outcome State Fault Refusal :=
  .next (s.byHost (CNX_PATH_CFG_EN.addr p.val) (v &&& 0x7FFFFFFF#32) fun s => s.writePathCfg p.val (v &&& 0x7FFFFFFF#32))

/-- TAP_WRITE (R87): Host writes the tap window; the write applies to a frozen path's tap or is ignored and counted.
-/
def execTapWrite (t : Fin 65536) (half : Bool) (v : Word) (s : State) : Host.Outcome State Fault Refusal :=
  .next (s.byHost (tapAddr t.val + 4 * half.toNat) v fun s => s.writeTap t.val half v)

/-- TAP_COUNT_SNAPSHOT (R116): Host writes CNX_SNAP; both tap counts are frozen at one instant between allocation
steps. -/
def execTapCountSnapshot (s : State) : Host.Outcome State Fault Refusal :=
  .next (s.byHost (CNX_SNAP.addr 0) 1 fun s => s.tapSnap)

/-- CLUSTER_POSITION_WRITE (R93): Host writes CNX_CLU_DESC.POS with AUTO = 0; it is refused or accepted, with the
cluster zeroed and moved at the next estimate block. -/
def execClusterPositionWrite (v : Word) (s : State) : Host.Outcome State Fault Refusal :=
  .next (s.byHost (CNX_CLU_DESC_POS.addr 0) v fun s => s.writePos v)

/-- CNX_MARGIN_WRITE (R105): Host writes CNX_MARGIN; an out-of-range value is refused, otherwise the new margin acts
from the next estimate block. -/
def execCnxMarginWrite (v : Word) (s : State) : Host.Outcome State Fault Refusal :=
  .next (s.byHost (CNX_MARGIN.addr 0) v fun s => s.writeMargin v)

/-- CNX_CEIL_RISE_WRITE (R116): Host writes CNX_CEIL_RISE; values outside 1 to 60 dB/s are refused, otherwise the
rise limit acts from the next block. -/
def execCnxCeilRiseWrite (v : Word) (s : State) : Host.Outcome State Fault Refusal :=
  .next (s.byHost (CNX_CEIL_RISE.addr 0) v fun s => s.writeRise v)

/-- SEARCH_GO (R89): Host writes SLN_CTL.GO, which queues a priority Sightline search of the named path. -/
def execSearchGo (v : Word) (s : State) : Host.Outcome State Fault Refusal :=
  .next (s.byHost (SLN_CTL_GO.addr 0) (v ||| 0x8000#32) fun s => s.writeSlnCtl (v ||| 0x8000#32))

/-- SEARCH_START (R89): Sightline starts the next search, from the priority queue first and then in ascending path
order, unless HOLD is set. -/
def execSearchStart (s : State) : Host.Outcome State Fault Refusal :=
  .next (s.searchStart)

/-- SEARCH_COMPLETE (R90): A search has integrated its samples; peaks and the direct position are reported. -/
def execSearchComplete (s : State) : Host.Outcome State Fault Refusal :=
  .next (s.searchDone)

/-- OLD_CLUSTER_RETIRE (R92): After 8 estimate blocks a moved-from cluster is zeroed and becomes the spare. -/
def execOldClusterRetire (p : Fin 128) (s : State) : Host.Outcome State Fault Refusal :=
  .next (s.retireOld p.val)

/-- SLN_PARITY_ERROR (R115): A correlator parity error discards and repeats the search and raises source 30. -/
def execSlnParityError (s : State) : Host.Outcome State Fault Refusal :=
  .next (s.slnParity)

/-- TAP_UPDATE (R94): Every 2^UPD victim lane samples, each unfrozen path updates its taps by normalised LMS. -/
def execTapUpdate (n : Fin 32) (ecc : Nat) (s : State) : Host.Outcome State Fault Refusal :=
  .next (s.tapUpdate n.val ecc)

/-- ESTIMATE_BLOCK (R101): At each victim lane sample that is a multiple of 1,024, the coupling and cancellation
estimates are updated. -/
def execEstimateBlock (n : Fin 32) (s : State) : Host.Outcome State Fault Refusal :=
  .next (s.estimateBlock n.val)

/-- PROBE_INTEGRATION_END (R100): A path's probe correlation over 2^20 active samples ends, updating H_probe and
X_probe and setting ISO_VALID. -/
def execProbeIntegrationEnd (p : Fin 128) (s : State) : Host.Outcome State Fault Refusal :=
  .next (s.probeEnd p.val)

/-- TAP_MEMORY_UNCORR (R115): An uncorrectable tap-memory error zeroes the cluster's taps, resets the path's
estimates and raises source 29. -/
def execTapMemoryUncorr (k : Fin 2048) (s : State) : Host.Outcome State Fault Refusal :=
  .next (s.tapUncorr k.val)

/-- STREAM_ENABLE (R109): Host writes CNX_STX_CFG_s.EN = 1; the stream's rate is reserved hop by hop. -/
def execStreamEnable (k : Fin 8) (v : Word) (s : State) : Host.Outcome State Fault Refusal :=
  .next (s.byHost (CNX_STX_CFG_EN.addr k.val) (v ||| 0x80000000#32) fun s => s.writeStx k.val (v ||| 0x80000000#32))

/-- STREAM_RESERVATION_RESULT (R109): The reservation result arrives within 50 µs and the slot reports ACTIVE or ERR
3 with ARC. -/
def execStreamReservationResult (k : Fin 8) (ok : Bool) (arc : Fin 4) (s : State) : Host.Outcome State Fault Refusal :=
  .next (s.streamResult k.val ok arc.val)

/-- STREAM_DISABLE (R113): A transmit stream slot stops sending, by host disable or because its lane is disabled. -/
def execStreamDisable (k : Fin 8) (v : Word) (s : State) : Host.Outcome State Fault Refusal :=
  .next (s.byHost (CNX_STX_CFG_EN.addr k.val) (v &&& 0x7FFFFFFF#32) fun s => s.writeStx k.val (v &&& 0x7FFFFFFF#32))

/-- STREAM_RX_ENABLE (R108): Host enables a receive stream slot to accept the stream matching SRC_DEV and SRC_SLOT.
-/
def execStreamRxEnable (k : Fin 8) (v : Word) (s : State) : Host.Outcome State Fault Refusal :=
  .next (s.byHost (CNX_SRX_CFG_EN.addr k.val) (v ||| 0x80000000#32) fun s => s.writeSrx k.val (v ||| 0x80000000#32))

/-- STREAM_FRAME_RECEIVED (R107): A stream-samples frame arrives with reference words, probe seed and level, and the
sender's Curtain state. -/
def execStreamFrameReceived (f : StreamFrame) (s : State) : Host.Outcome State Fault Refusal :=
  .next (s.streamFrame f)

/-- STREAM_LOST (R111): 2 µs without a valid frame declares the stream lost; its paths take X_k = 0 and STREAM_LOST
is set. -/
def execStreamLost (k : Fin 8) (s : State) : Host.Outcome State Fault Refusal :=
  .next (s.streamLost k.val)

/-- STREAM_RESTORED (R111): Frames return on a lost stream and its paths recover under the estimate rules. -/
def execStreamRestored (k : Fin 8) (s : State) : Host.Outcome State Fault Refusal :=
  .next (s.streamBack k.val)

end Sys2Proof.Machine
end

