-- ==== Sys2Proof/Machine/Coexistence.lean ====
section
/-! DEFINITION. Coexistence: what each command does, over the operations of the blocks. -/
namespace Sys2Proof.Machine
open Sys2Proof

/-- COEX_REQ_IN_RISE (R220): COEX_REQ_IN rises and is granted, deferred or denied according to IN_POL. -/
def execCoexReqInRise (pri : Bool) (s : State) : Host.Outcome State Fault Refusal :=
  .next (s.coexReqRise pri)

/-- COEX_GRANT_OUT (R220): The coexistence hold is complete on every shared port and COEX_GNT_OUT rises. -/
def execCoexGrantOut (s : State) : Host.Outcome State Fault Refusal :=
  .next (s.coexGntOut)

/-- COEX_REQ_IN_FALL (R220): COEX_REQ_IN falls; COEX_GNT_OUT falls and the hold ends. -/
def execCoexReqInFall (s : State) : Host.Outcome State Fault Refusal :=
  .next (s.coexReqFall)

/-- COEX_MAX_HOLD_EXPIRY (R222): A grant held longer than MAX_HOLD is withdrawn and source 52 is raised. -/
def execCoexMaxHoldExpiry (s : State) : Host.Outcome State Fault Refusal :=
  .next (s.coexMaxHold)

/-- COEX_REQ_OUT_RAISE (R221): LEAD before a transmit use or TX entry on a shared port, COEX_REQ_OUT rises. -/
def execCoexReqOutRaise (m : Fin 8) (s : State) : Host.Outcome State Fault Refusal :=
  .next (s.coexReqOut m.val)

/-- COEX_GNT_IN_RISE (R221): COEX_GNT_IN rises, allowing a waiting FDD port to enter TX in strict mode. -/
def execCoexGntInRise (s : State) : Host.Outcome State Fault Refusal :=
  .next (s.coexGntRise)

/-- COEX_GNT_IN_FALL (R221): COEX_GNT_IN falls during transmission; in strict mode the shared ports are held and a
withdrawal is counted. -/
def execCoexGntInFall (s : State) : Host.Outcome State Fault Refusal :=
  .next (s.coexGntFall)

end Sys2Proof.Machine
end

