-- ==== Sys2Proof/Machine/Collector.lean ====
section
/-! DEFINITION. The fault collector: what each command does, over the operations of the blocks. -/
namespace Sys2Proof.Machine
open Sys2Proof

/-- FAULT_EVENT (R278): A block reports an occurrence of a cause, setting its PG_ERR bit and, unless masked,
delivering an event. -/
def execFaultEvent (page : Page) (b : Fin 32) (ports : BitVec 8) (s : State) : Host.Outcome State Fault Refusal :=
  .next (s.faultEvent (pageOff page) b.val ports)

/-- FAULT_EPOCH_LATCH (R285): At the end of an arbitration epoch every source with an event latches, ranked, with
status, Curtain request, record and interrupt. -/
def execFaultEpochLatch (s : State) : Host.Outcome State Fault Refusal :=
  .next (s.epochLatch)

/-- FORCE_CAUSE (R279): Host writes PG_ERR_FORCE, which sets a cause and delivers one forced event. -/
def execForceCause (page : Page) (v : Word) (s : State) : Host.Outcome State Fault Refusal :=
  .next (s.byHost (PG_ERR_FORCE.addr (pageOff page)) v fun s => s.forceCause (pageOff page) v)

/-- FORCE_SOURCE (R279): Host writes FC_FORCE_LO or HI, which delivers one forced event of the source with no cause
bit. -/
def execForceSource (hi : Bool) (v : Word) (s : State) : Host.Outcome State Fault Refusal :=
  .next (s.byHost ((if hi then FC_FORCE_HI else FC_FORCE_LO).addr 0) v fun s => s.forceSource hi v)

/-- SOURCE_RECOVERY (R292): A source's quiet period ends; its status bit clears, recovery is counted and recorded. -/
def execSourceRecovery (n : Fin 56) (s : State) : Host.Outcome State Fault Refusal :=
  .next (s.sourceRecovery n.val)

/-- HOST_CLEAR (R295): Host writes 1 to an FC_STATUS bit; it clears as a recovery if not standing, otherwise it is
rejected and counted. -/
def execHostClear (hi : Bool) (v : Word) (s : State) : Host.Outcome State Fault Refusal :=
  .next (s.byHost ((if hi then FC_STATUS_HI else FC_STATUS_LO).addr 0) v fun s => s.hostClear hi v)

/-- FIRST_FAULT_ACK (R290): Host writes FC_FF_CTL.ACK, which ends handling, clears VALID and writes record 0x0103. -/
def execFirstFaultAck (s : State) : Host.Outcome State Fault Refusal :=
  .next (s.byHost (FC_FF_CTL.addr 0) 0x80000000#32 fun s => s.ackFirst)

/-- SEVERITY_WRITE (R304): Host writes FC_SEV_n; a valid change of SEV, QSEL or SCOPE acts on later latches and
writes record 0x0104. -/
def execSeverityWrite (n : Fin 64) (v : Word) (s : State) : Host.Outcome State Fault Refusal :=
  .next (s.byHost (FC_SEV_SEV.addr n.val) v fun s => s.writeSev n.val v)

/-- FAULT_N_PULSE_END (R297): A FAULT_N pulse of PULSE_W × 10 µs ends and the pin returns to SW_LVL. -/
def execFaultNPulseEnd (s : State) : Host.Outcome State Fault Refusal :=
  .next (s.pulseEnd)

/-- DEFERRED_FAULT_N_PULSE (R297): In pulse mode, a latch that fell in the 10 µs after a pulse gives its own FAULT_N
pulse when those 10 µs have passed. -/
def execDeferredFaultNPulse (s : State) : Host.Outcome State Fault Refusal :=
  .next (s.deferredPulse)

end Sys2Proof.Machine
end

