-- ==== Sys2Proof/Machine/Controller.lean ====
section
/-! DEFINITION. The two-wire controllers: what each command does, over the operations of the blocks. -/
namespace Sys2Proof.Machine
open Sys2Proof

/-- TWC_COMMAND_GO (R433): Host writes TWC_CMD.GO, which queues a host command or is refused. -/
def execTwcCommandGo (q : Fin 2) (v : Word) (s : State) : Host.Outcome State Fault Refusal :=
  .next (s.byHost (TWC_CMD_GO.addr q.val) (v ||| 0x80000000#32) fun s => s.writeTwcCmd q.val (v ||| 0x80000000#32))

/-- TWC_TRANSACTION_DONE (R432): A controller transaction ends with a result and the controller starts the next
waiting item. -/
def execTwcTransactionDone (q : Fin 2) (res : Fin 8) (acked : Fin 64) (bs : List Byte)
    (s : State) : Host.Outcome State Fault Refusal :=
  .next (s.twDone q.val res.val acked.val bs)

/-- POLL_DUE (R434): A polling entry falls due every PERIOD ms and is queued, or dropped if its previous instance has
not started. -/
def execPollDue (q : Fin 2) (e : Fin 16) (s : State) : Host.Outcome State Fault Refusal :=
  .next (s.pollDue q.val e.val)

/-- REGULATOR_RETRY (R435): 1 ms after a failed regulator request, it is sent again. -/
def execRegulatorRetry (q : Fin 2) (s : State) : Host.Outcome State Fault Refusal :=
  .next (s.regRetry q.val)

/-- TWC_ABORT (R436): Host writes TWC_CTL.ABORT, which abandons the transaction at once and runs a bus clear. -/
def execTwcAbort (q : Fin 2) (s : State) : Host.Outcome State Fault Refusal :=
  .next (s.byHost (TWC_CTL_ABORT.addr q.val) 0x80000000#32 fun s => s.twAbort q.val)

/-- TWC_CLEAR (R436): Host writes TWC_CTL.CLEAR, which runs a bus clear. -/
def execTwcClear (q : Fin 2) (s : State) : Host.Outcome State Fault Refusal :=
  .next (s.byHost (TWC_CTL_CLEAR.addr q.val) 0x40000000#32 fun s => s.twClear q.val)

/-- BUS_CLEAR_DONE (R436): A bus clear ends in a STOP, or fails after nine pulses and completes waiting items with
RESULT 6. -/
def execBusClearDone (q : Fin 2) (ok : Bool) (s : State) : Host.Outcome State Fault Refusal :=
  .next (s.clearDone q.val ok)

end Sys2Proof.Machine
end

