-- ==== Sys2Proof/Machine/Converter.lean ====
section
/-! DEFINITION. Converters: what each command does, over the operations of the blocks. -/
namespace Sys2Proof.Machine
open Sys2Proof

/-- CONVRX_ENABLE (R212): Host sets CONVRX_CFG.EN; the port's converter starts its foreground calibration alone. -/
def execConvrxEnable (m : Fin 8) (v : Word) (s : State) : Host.Outcome State Fault Refusal :=
  .next (s.byHost (CONVRX_CFG_EN.addr m.val) (v ||| 1#32) fun s => s.writeCv m.val (v ||| 1#32))

/-- CONVTX_ENABLE (R212): Host sets CONVTX_CFG.EN; the transmit converter starts its foreground calibration alone. -/
def execConvtxEnable (m : Fin 8) (v : Word) (s : State) : Host.Outcome State Fault Refusal :=
  .next (s.byHost (CONVTX_CFG_EN.addr m.val) (v ||| 1#32) fun s => s.writeCv (8 + m.val) (v ||| 1#32))

/-- CONVERTER_DISABLE (R60): Host clears a converter's EN; every lane using that converter is first disabled with its
in-flight samples discarded. -/
def execConverterDisable (c : Fin 16) (v : Word) (s : State) : Host.Outcome State Fault Refusal :=
  .next (s.byHost ((if c.val < 8 then CONVRX_CFG_EN.addr c.val else CONVTX_CFG_EN.addr (c.val - 8))) (v &&& 0xFFFFFFFE#32) fun s => s.writeCv c.val (v &&& 0xFFFFFFFE#32))

/-- CONV_CAL_COMPLETE (R212): A converter's foreground calibration ends; CAL_DONE sets on success and CAL_FAIL with
source 35+n or 43+n on failure. -/
def execConvCalComplete (c : Fin 16) (ok : Bool) (s : State) : Host.Outcome State Fault Refusal :=
  .next (s.convCalDone c.val ok)

/-- OVR_CNT_CLR (R73): Host writes OVR_CNT_CLR, which clears CONVRX_OVR_CNT. -/
def execOvrCntClr (m : Fin 8) (s : State) : Host.Outcome State Fault Refusal :=
  .next (s.cvCntClr m.val)

/-- CLIP_CNT_CLR (R73): Host writes CLIP_CNT_CLR, which clears CONVTX_CLIP_CNT. -/
def execClipCntClr (m : Fin 8) (s : State) : Host.Outcome State Fault Refusal :=
  .next (s.cvCntClr (8 + m.val))

/-- BGCAL_CYCLE_DONE (R54): A background calibration cycle of a converter completes; a residual out of limits raises
the converter's fault source. -/
def execBgcalCycleDone (c : Fin 16) (ok : Bool) (s : State) : Host.Outcome State Fault Refusal :=
  .next (s.bgcalDone c.val ok)

/-- CONVERTER_PARITY_ERROR (R72): An internal parity error in a converter raises source 35+n or 43+n. -/
def execConverterParityError (c : Fin 16) (s : State) : Host.Outcome State Fault Refusal :=
  .next (s.cvParity c.val)

/-- OVER_RANGE_EPISODE_START (R52): The first clipped receive sample sets OVR_NOW and OVR_STICKY, counts one episode,
and starts the suspect mark of each fed lane. -/
def execOverRangeEpisodeStart (m : Fin 8) (s : State) : Host.Outcome State Fault Refusal :=
  .next (s.overStart m.val)

/-- OVER_RANGE_EPISODE_END (R52): After 1,024 consecutive unclipped samples the over-range episode ends and OVR_NOW
clears. -/
def execOverRangeEpisodeEnd (m : Fin 8) (s : State) : Host.Outcome State Fault Refusal :=
  .next (s.overEnd m.val)

/-- SUSPECT_MARK_END (R53): 64 lane samples after the last influenced sample, a lane's suspect mark ends. -/
def execSuspectMarkEnd (n : Fin 32) (s : State) : Host.Outcome State Fault Refusal :=
  .next (s.suspectEnd n.val)

/-- CLIPPING_EPISODE_START (R56): A saturated transmit port word sets CLIP_NOW and CLIP_STICKY and counts one
clipping episode. -/
def execClippingEpisodeStart (m : Fin 8) (s : State) : Host.Outcome State Fault Refusal :=
  .next (s.clipStart m.val)

/-- CLIPPING_EPISODE_END (R56): After 1,024 unclipped words the clipping episode ends and CLIP_NOW clears. -/
def execClippingEpisodeEnd (m : Fin 8) (s : State) : Host.Outcome State Fault Refusal :=
  .next (s.clipEnd m.val)

end Sys2Proof.Machine
end

