-- ==== Sys2Proof/Machine/CurtainCmd.lean ====
section
/-! DEFINITION. The Curtain: what each command does, over the operations of the blocks. -/
namespace Sys2Proof.Machine
open Sys2Proof

/-- REMOTE_SHUTDOWN (R151): Host sets CUR_HOST.SHUT bits or ALL, which puts the named ports behind the Curtain within
0.2 µs. -/
def execRemoteShutdown (v : Word) (s : State) : Host.Outcome State Fault Refusal :=
  .next (s.byHost (CUR_HOST_SHUT.addr 0) v fun s => s.writeCurHost v)

/-- REMOTE_SHUTDOWN_CLEAR (R157): Host clears CUR_HOST bits and the HOST cause clears on the named ports. -/
def execRemoteShutdownClear (v : Word) (s : State) : Host.Outcome State Fault Refusal :=
  .next (s.byHost (CUR_HOST_SHUT.addr 0) v fun s => s.writeCurHost v)

/-- CURTAIN_COMPLETE (R153): The DAC is at zero and PAEN_n inactive on a port, so CUR_STAT.DOWN sets and the quiet
period may start. -/
def execCurtainComplete (ports : BitVec 8) (s : State) : Host.Outcome State Fault Refusal :=
  .next (s.curtainComplete ports)

/-- PORT_QUIET_PERIOD_END (R157): A port's protection cause clears after its source has been quiet for the quiet
period. -/
def execPortQuietPeriodEnd (m : Fin 8) (b : Fin 7) (s : State) : Host.Outcome State Fault Refusal :=
  .next (s.portQuietEnd m.val b.val)

/-- LIFT_START (R158): The last cause on a port has cleared and no hold stands, so a lift starts or waits for a
turn-round. -/
def execLiftStart (m : Fin 8) (s : State) : Host.Outcome State Fault Refusal :=
  .next (s.liftStart m.val)

/-- LIFT_COMPLETE (R158): The DAC is released at the end of the lift, the lift is counted if due, and the back-off
cap starts. -/
def execLiftComplete (m : Fin 8) (s : State) : Host.Outcome State Fault Refusal :=
  .next (s.liftComplete m.val)

/-- CURTAIN_RELEASE (R161): Host writes CUR_RELEASE.PORTS; latches without standing causes are released, others are
rejected and counted. -/
def execCurtainRelease (v : Word) (s : State) : Host.Outcome State Fault Refusal :=
  .next (s.byHost (CUR_RELEASE_PORTS.addr 0) (v &&& 0xFF#32) fun s => s.curRelease (v &&& 0xFF#32))

/-- CLEAR_LIFT_HISTORY (R161): Host writes CLR_HIST, which clears the lift history of the named ports. -/
def execClearLiftHistory (v : Word) (s : State) : Host.Outcome State Fault Refusal :=
  .next (s.byHost (CUR_RELEASE_PORTS.addr 0) (v ||| 0x100#32) fun s => s.curRelease (v ||| 0x100#32))

/-- BACKOFF_END (R162): At a 1,024-sample boundary where the back-off cap reaches the request or LIMIT, the cap ends
and BACKOFF clears. -/
def execBackoffEnd (n : Fin 32) (s : State) : Host.Outcome State Fault Refusal :=
  .next (s.backoffEnd n.val)

end Sys2Proof.Machine
end

