-- ==== Sys2Proof/Machine/DmaCmd.lean ====
section
/-! DEFINITION. The DMA queues: what each command does, over the operations of the blocks. -/
namespace Sys2Proof.Machine
open Sys2Proof

/-- DMA_DOORBELL (R360): Host writes DMA_Q_TAIL_q, making the covered descriptors visible to the queue. -/
def execDmaDoorbell (q : Fin 8) (v : Word) (s : State) : Host.Outcome State Fault Refusal :=
  .next (s.byHost (DMA_Q_TAIL.addr q.val) v fun s => s.wr DMA_Q_TAIL q.val (DMA_Q_TAIL.of v))

/-- DESC_NOP (R359): A KIND 0 descriptor performs no operation and completes. -/
def execDescNop (q : Fin 8) (d : Desc) (s : State) : Host.Outcome State Fault Refusal :=
  .next (s.descNop q.val d)

/-- DESC_MEMORY_READ (R359): A KIND 1 descriptor moves data from a device's WIN_B layout to host memory. -/
def execDescMemoryRead (q : Fin 8) (d : Desc) (s : State) : Host.Outcome State Fault Refusal :=
  .next (s.descBulk q.val d 1)

/-- DESC_MEDIUM_READ (R349): A KIND 2 descriptor reads units of a partition to host memory, zero-filling
uncorrectable units. -/
def execDescMediumRead (q : Fin 8) (d : Desc) (s : State) : Host.Outcome State Fault Refusal :=
  .next ((s.descBulk q.val d 2).serve)

/-- DESC_REGISTER_READ (R359): A KIND 3 descriptor reads a range of registers in ascending order into host memory. -/
def execDescRegisterRead (q : Fin 8) (d : Desc) (s : State) : Host.Outcome State Fault Refusal :=
  .next (s.descRegRead q.val d)

/-- DESC_REGISTER_WRITE (R359): A KIND 4 descriptor reads host memory and writes a range of registers in ascending
order. -/
def execDescRegisterWrite (q : Fin 8) (d : Desc) (ws : List Word) (s : State) : Host.Outcome State Fault Refusal :=
  .next (s.descRegWrite q.val d ws)

/-- DESC_REFUSED_KIND (R359): A descriptor of KIND 5 to 15 or misaligned completes with STATUS 6. -/
def execDescRefusedKind (q : Fin 8) (d : Desc) (s : State) : Host.Outcome State Fault Refusal :=
  .next (s.descRefused q.val d)

/-- DESC_COMPLETE (R361): A descriptor's completion entry is written at CQ_TAIL in descriptor order, with moderation
of R362. -/
def execDescComplete (q : Fin 8) (s : State) : Host.Outcome State Fault Refusal :=
  .next (s.descComplete q.val)

/-- DESC_FETCH_ERROR (R363): A descriptor read fails; it completes with STATUS 4, the queue stops and FETCH_ERR is
raised. -/
def execDescFetchError (q : Fin 8) (s : State) : Host.Outcome State Fault Refusal :=
  .next (s.descFetch q.val)

/-- CQ_HEAD_WRITE (R362): Host writes DMA_CQ_HEAD_q, consuming entries and lowering the completion source level. -/
def execCqHeadWrite (q : Fin 8) (v : Word) (s : State) : Host.Outcome State Fault Refusal :=
  .next (s.byHost (DMA_CQ_HEAD.addr q.val) v fun s => s.writeCqHead q.val v)

/-- MODERATION_TIMEOUT (R362): The oldest unsignalled entry has waited MOD_TIME and SIG advances to CQ_TAIL. -/
def execModerationTimeout (q : Fin 8) (s : State) : Host.Outcome State Fault Refusal :=
  .next (s.modTimeout q.val)

/-- QUEUE_ENABLE (R363): Host writes DMA_Q_CFG_q.EN = 1; the queue is refused or moves to RUNNING. -/
def execQueueEnable (q : Fin 8) (v : Word) (s : State) : Host.Outcome State Fault Refusal :=
  .next (s.byHost (DMA_Q_CFG_EN.addr q.val) ((v ||| 0x80000000#32) &&& 0xBFFFFFFF#32) fun s => s.writeQCfg q.val ((v ||| 0x80000000#32) &&& 0xBFFFFFFF#32))

/-- QUEUE_DISABLE (R363): Host writes EN = 0 and the queue moves to DRAINING, or from STOPPED to IDLE. -/
def execQueueDisable (q : Fin 8) (v : Word) (s : State) : Host.Outcome State Fault Refusal :=
  .next (s.byHost (DMA_Q_CFG_EN.addr q.val) (v &&& 0x3FFFFFFF#32) fun s => s.writeQCfg q.val (v &&& 0x3FFFFFFF#32))

/-- QUEUE_DRAINED (R363): The descriptor in progress on a draining queue completes and the queue moves to IDLE. -/
def execQueueDrained (q : Fin 8) (s : State) : Host.Outcome State Fault Refusal :=
  .next (s.qDrained q.val)

/-- QUEUE_RESET (R363): Host writes RESET on an idle disabled queue, which sets all indices to 0 and PHASE to 1. -/
def execQueueReset (q : Fin 8) (v : Word) (s : State) : Host.Outcome State Fault Refusal :=
  .next (s.byHost (DMA_Q_CFG_EN.addr q.val) (v ||| 0x40000000#32) fun s => s.writeQCfg q.val (v ||| 0x40000000#32))

/-- BUF_PARITY (R374): A parity error in a DMA engine buffer completes the descriptor with STATUS 5. -/
def execBufParity (q : Fin 8) (s : State) : Host.Outcome State Fault Refusal :=
  .next (s.bufParity q.val)

end Sys2Proof.Machine
end

