-- ==== Sys2Proof/Machine/Engine.lean ====
section
/-! DEFINITION. The control engine: what each command does, over the operations of the blocks. -/
namespace Sys2Proof.Machine
open Sys2Proof

/-- LOOP_ENABLE (R246): Host writes LP_CFG.EN = 1; the checks of Table 8-5 run and the loop starts at sample 0 or is
refused. -/
def execLoopEnable (l : Fin 256) (v : Word) (s : State) : Host.Outcome State Fault Refusal :=
  .next (s.byHost (Region.loops.lo + 64 * l.val) (v ||| 0x80000000#32) fun s => s.loopEn l.val v true)

/-- LOOP_DISABLE (R246): Host writes EN = 0 and the loop stops at its next boundary, keeping its states. -/
def execLoopDisable (l : Fin 256) (v : Word) (s : State) : Host.Outcome State Fault Refusal :=
  .next (s.byHost (Region.loops.lo + 64 * l.val) (v &&& 0x7FFFFFFF#32) fun s => s.loopEn l.val v false)

/-- LOOP_SAMPLE_BOUNDARY (R228): At a loop's sample boundary, the previous output is sent and the evaluation of the
new sample starts. -/
def execLoopSampleBoundary (l : Fin 256) (inTime : Bool) (ecc : Nat) (s : State) : Host.Outcome State Fault Refusal :=
  .next (s.loopBoundary l.val inTime ecc)

/-- CUE (R239): Host writes LP_CFG.CUE, which requests a bank swap at the loop's next boundary or refuses a bank
breaking R236. -/
def execCue (l : Fin 256) (v : Word) (s : State) : Host.Outcome State Fault Refusal :=
  .next (s.byHost (Region.loops.lo + 64 * l.val) (v ||| 0x10000000#32) fun s => s.writeLpCfg l.val (v ||| 0x10000000#32))

/-- CUE_GROUP (R239): Host writes CTE_CUE_GRP, which cues every loop of the named groups. -/
def execCueGroup (v : Word) (s : State) : Host.Outcome State Fault Refusal :=
  .next (s.byHost (CTE_CUE_GRP.addr 0) v fun s => s.cueGroup v)

/-- INJECT_GO (R247): Host writes CTE_INJ_CTL.GO, which starts an injection at the loop's next boundary. -/
def execInjectGo (s : State) : Host.Outcome State Fault Refusal :=
  .next (s.byHost (CTE_INJ_CTL_GO.addr 0) 0x80000000#32 fun s => s.writeInjCtl 0x80000000#32)

/-- INJECT_STOP (R247): Host writes STOP and the injection ends at the next boundary. -/
def execInjectStop (s : State) : Host.Outcome State Fault Refusal :=
  .next (s.byHost (CTE_INJ_CTL_GO.addr 0) 0x40000000#32 fun s => s.writeInjCtl 0x40000000#32)

/-- CAPTURE_TRIG (R248): Host writes CTE_INJ_CTL.TRIG, which triggers the control-engine capture at the next sample.
-/
def execCaptureTrig (s : State) : Host.Outcome State Fault Refusal :=
  .next (s.byHost (CTE_INJ_CTL_GO.addr 0) 0x20000000#32 fun s => s.writeInjCtl 0x20000000#32)

/-- CAPTURE_ARM (R248): Host sets CTE_CAP_CFG.EN, which arms the capture and clears DONE. -/
def execCaptureArm (v : Word) (s : State) : Host.Outcome State Fault Refusal :=
  .next (s.byHost (CTE_CAP_CFG_EN.addr 0) (v ||| 0x80000000#32) fun s => s.writeCteCap (v ||| 0x80000000#32))

/-- CTE_MEM_UNCORR (R249): An uncorrectable loop, section or table memory error forces the loop to manual and raises
source 26. -/
def execCteMemUncorr (l : Fin 256) (s : State) : Host.Outcome State Fault Refusal :=
  .next (s.cteMem l.val)

/-- CTE_CAP_UNCORR (R249): An uncorrectable capture-memory read returns zero and raises source 26 at NOTE. -/
def execCteCapUncorr (idx : Fin 65536) (s : State) : Host.Outcome State Fault Refusal :=
  .next (s.cteCapMem idx.val)

end Sys2Proof.Machine
end

