-- ==== Sys2Proof/Machine/Fabric.lean ====
section
/-! DEFINITION. The self-timed fabric and the ledger: what each command does, over the operations of the blocks. -/
namespace Sys2Proof.Machine
open Sys2Proof

/-- SLACK_WINDOW_END (R257): A gauge window ends and each island's slack and the lowest slack are computed and
reported. -/
def execSlackWindowEnd (act : List (Fin 188 × BitVec 12)) (s : State) : Host.Outcome State Fault Refusal :=
  .next (s.slackWindowEnd (act.map fun x => (x.1.val, x.2.toNat)))

/-- GUARD_HOLDOFF_END (R260): The guard's hold-off of HOLDOFF × 0.1 s expires and the 720 mV floor on requests ends.
-/
def execGuardHoldoffEnd (s : State) : Host.Outcome State Fault Refusal :=
  .next (s.holdoffDone)

/-- WINGS_WARNING (R255): A converter wings buffer crosses its warning level, which raises source 27 and the voltage
guard. -/
def execWingsWarning (w : Fin 22) (x : Nat) (s : State) : Host.Outcome State Fault Refusal :=
  .next (s.wingsWarning w.val x)

/-- WINGS_LOSS (R256): A wings buffer loses a word; the affected samples are discarded under WINGS and source 27
raised. -/
def execWingsLoss (ls : List (Fin 32 × Nat)) (s : State) : Host.Outcome State Fault Refusal :=
  .next (s.wingsLoss (ls.map fun x => (x.1.val, x.2)))

/-- MIN_CLR (R276): Host writes FAB_CTL.MIN_CLR, which resets every island MIN and wings WORST. -/
def execMinClr (s : State) : Host.Outcome State Fault Refusal :=
  .next (s.byHost (FAB_CTL.addr 0) 1 fun s => s.minClr)

/-- LEDGER_AUDIT (R265): Every 1 ms each active lane's ledger is snapshotted and checked for balance and HMAX. -/
def execLedgerAudit (upsets : List (Fin 32 × Nat)) (s : State) : Host.Outcome State Fault Refusal :=
  .next (s.ledgerAudit (upsets.map fun x => (x.1.val, x.2)))

/-- LEDGER_SNAPSHOT_GO (R266): Host writes LEDG_SNAP.GO with a lane, which clears DONE and requests a snapshot. -/
def execLedgerSnapshotGo (v : Word) (s : State) : Host.Outcome State Fault Refusal :=
  .next (s.byHost (LEDG_SNAP_GO.addr 0) (v ||| 0x80000000#32) fun s => s.writeSnap (v ||| 0x80000000#32))

/-- LEDGER_SNAPSHOT_DONE (R266): The counts are frozen at the lane's next sample boundary, checked, and DONE sets. -/
def execLedgerSnapshotDone (s : State) : Host.Outcome State Fault Refusal :=
  .next (s.snapDone)

/-- LEDGER_CLEAR_GO (R267): Host writes LEDG_CLR.GO, which requests clearing of a lane's ledger. -/
def execLedgerClearGo (v : Word) (s : State) : Host.Outcome State Fault Refusal :=
  .next (s.byHost (LEDG_CLR_GO.addr 0) (v ||| 0x80000000#32) fun s => s.writeLedgClr (v ||| 0x80000000#32))

/-- LEDGER_CLEAR_APPLY (R267): At the next lane-sample boundary In takes Held and the other counts become zero. -/
def execLedgerClearApply (s : State) : Host.Outcome State Fault Refusal :=
  .next (s.clearApply)

end Sys2Proof.Machine
end

