-- ==== Sys2Proof/Machine/HostIf.lean ====
section
/-! DEFINITION. The host interface: what each command does, over the operations of the blocks. -/
namespace Sys2Proof.Machine
open Sys2Proof

/-- BAD_ACCESS (R356): A malformed WIN_A or WIN_B request returns all ones or is discarded and counted. -/
def execBadAccess (winB : Bool) (read : Bool) (off : BitVec 30) (s : State) : Host.Outcome State Fault Refusal :=
  .next (s.badAccess winB read off.toNat)

/-- WINB_WRITE (R356): A write to WIN_B is discarded and HIF_WINB_WR_CNT increments. -/
def execWinbWrite (s : State) : Host.Outcome State Fault Refusal :=
  .next (s.satInc HIF_WINB_WR_CNT 0)

/-- TUNNELLED_READ (R357): The vertex tunnels a host read of a remote slice over the register virtual channel. -/
def execTunnelledRead (dev : Fin 64) (off : BitVec 24) (s : State) : Host.Outcome State Fault Refusal :=
  .next (s.hostRead dev.val off.toNat)

/-- TUNNEL_TIMEOUT (R357): A tunnelled read unanswered after TUN_TO completes with all ones and raises
TUNNEL_TIMEOUT. -/
def execTunnelTimeout (s : State) : Host.Outcome State Fault Refusal :=
  .next (s.tunnelTimeout)

/-- D3HOT_ENTRY (R363): The function enters D3hot, cutting short descriptors in progress and beginning host sleep. -/
def execD3hotEntry (pmeEn : Bool) (s : State) : Host.Outcome State Fault Refusal :=
  .next (s.d3Enter pmeEn)

/-- D0_RETURN (R363): The function returns to D0; cut descriptors complete with STATUS 5 and their queues are
STOPPED. -/
def execD0Return (s : State) : Host.Outcome State Fault Refusal :=
  .next (s.d0Return)

/-- HOST_SLEEP_ENTRY (R371): Host writes HIF_PM.SLEEP = 1 or D3hot begins; MSI-X targets are made asleep and
completions signalled. -/
def execHostSleepEntry (s : State) : Host.Outcome State Fault Refusal :=
  .next (s.byHost (HIF_PM_SLEEP.addr 0) 0x80000000#32 fun s => s.writeHifPm 0x80000000#32)

/-- HOST_SLEEP_EXIT (R371): SLEEP reads 0 with the function in D0, clearing ASLEEP and wake bits of MSI-X targets. -/
def execHostSleepExit (s : State) : Host.Outcome State Fault Refusal :=
  .next (s.byHost (HIF_PM_SLEEP.addr 0) 0 fun s => s.writeHifPm 0#32)

/-- LINK_DOWN (R374): The PCI Express Data Link Layer goes down without a reset, raising LINK_DOWN of source 6. -/
def execLinkDown (s : State) : Host.Outcome State Fault Refusal :=
  .next (s.linkDown)

/-- PCIE_ERROR_TLP (R374): A poisoned, malformed or ECRC-failed TLP or unsupported request raises PCIE_UNCORR. -/
def execPcieErrorTlp (corr : Bool) (s : State) : Host.Outcome State Fault Refusal :=
  .next (s.tlpError corr)

/-- LINK_UP (R374): PCI Express link training completes and the Data Link Layer comes up, setting HIF_LINK.UP and the
link-state interrupt and meeting the LINK_DOWN recovery condition. -/
def execLinkUp (speed : Fin 5) (width : Fin 5) (s : State) : Host.Outcome State Fault Refusal :=
  .next (s.linkUp speed.val width.val)

end Sys2Proof.Machine
end

