-- ==== Sys2Proof/Machine/Housekeeping.lean ====
section
/-! DEFINITION. Housekeeping, thermal control, PWM and bias: what each command does, over the operations of the blocks. -/
namespace Sys2Proof.Machine
open Sys2Proof

/-- HK_TIMER_TRIGGER (R406): At a tick count that is a multiple of PERIOD × 1,024 a timer trigger arrives, held or
discarded. -/
def execHkTimerTrigger (s : State) : Host.Outcome State Fault Refusal :=
  .next (s.hkTimer)

/-- HK_PWM_TRIGGER (R406): A period start or duty edge of the selected PWM channel arrives as a housekeeping trigger.
-/
def execHkPwmTrigger (s : State) : Host.Outcome State Fault Refusal :=
  .next (s.hkPwm)

/-- HK_GO (R406): Host writes HK_CTL.GO, which delivers a host trigger. -/
def execHkGo (s : State) : Host.Outcome State Fault Refusal :=
  .next (s.byHost (HK_CTL.addr 0) 0x80000000#32 fun s => s.hkTrigger)

/-- HK_SCAN_START (R407): A held trigger's scan starts at its start instant or, late, when the converter becomes
free. -/
def execHkScanStart (s : State) : Host.Outcome State Fault Refusal :=
  .next (s.scanStart)

/-- SLOW_ROUND_REQUEST (R408): Every 1 ms the slow round of channels 24 to 31 is requested. -/
def execSlowRoundRequest (s : State) : Host.Outcome State Fault Refusal :=
  .next (s.slowRequest)

/-- HK_CONVERSION_END (R404): A conversion ends, its result is stored with its flags and the scan or round proceeds
or ends. -/
def execHkConversionEnd (raw : BitVec 16) (ok : Bool) (s : State) : Host.Outcome State Fault Refusal :=
  .next (s.hkConvEnd raw ok)

/-- THERMAL_RESTART (R413): The cooling timer has run 1 s; the islands return, synthesisers calibrate and lanes
restart. -/
def execThermalRestart (s : State) : Host.Outcome State Fault Refusal :=
  .next (s.thermalRestart)

/-- MAX_CLR (R422): Host writes THM_CTL.MAX_CLR, which resets every THM_MAX_s. -/
def execMaxClr (s : State) : Host.Outcome State Fault Refusal :=
  .next (s.byHost (THM_CTL.addr 0) 1 fun s => s.writeThmCtl 1#32)

/-- HK_FAULT (R419): An uncorrectable trim read or result-store parity error raises source 18. -/
def execHkFault (parity : Bool) (ch : Fin 32) (s : State) : Host.Outcome State Fault Refusal :=
  .next (s.hkFault parity ch.val)

/-- PWM_PERIOD_START (R415): A PWM channel starts a period, applying written settings and the owner's duty. -/
def execPwmPeriodStart (n : Fin 6) (s : State) : Host.Outcome State Fault Refusal :=
  .next (s.pwmStart n.val)

/-- PWM_DUTY_EDGE (R415): A PWM channel reaches count DUTY and its ball goes inactive. -/
def execPwmDutyEdge (n : Fin 6) (s : State) : Host.Outcome State Fault Refusal :=
  .next (s.pwmEdge n.val)

/-- PWM_MISMATCH (R418): A PWM ball differs from its driven level for 1 µs, or a configuration parity error occurs,
raising source 21. -/
def execPwmMismatch (n : Fin 6) (parity : Bool) (s : State) : Host.Outcome State Fault Refusal :=
  .next (s.pwmFault n.val parity)

/-- BDAC_STEP (R417): Every 1,024 ticks a bias DAC output moves toward its target by at most STEP codes. -/
def execBdacStep (s : State) : Host.Outcome State Fault Refusal :=
  .next (s.bdacStep)

end Sys2Proof.Machine
end

