-- ==== Sys2Proof/Machine/Image.lean ====
section
/-! DEFINITION. Records of a settings image: what each command does, over the operations of the blocks. -/
namespace Sys2Proof.Machine
open Sys2Proof

/-- IMAGE_NOP (R455): An image NOP record runs and does nothing. -/
def execImageNop (s : State) : Host.Outcome State Fault Refusal :=
  .next (s.imgNop)

/-- IMAGE_WRITE (R455): An image WRITE record writes its values to consecutive registers as host writes. -/
def execImageWrite (off : BitVec 24) (vs : List Word) (s : State) : Host.Outcome State Fault Refusal :=
  .next (s.imgWrite off.toNat vs)

/-- IMAGE_MODIFY (R455): An image MODIFY record reads a register and writes back the masked value. -/
def execImageModify (off : BitVec 24) (mask : Word) (v : Word) (s : State) : Host.Outcome State Fault Refusal :=
  .next (s.imgModify off.toNat mask v)

/-- IMAGE_WAIT (R455): An image WAIT record polls a register until the masked value matches. -/
def execImageWait (off : BitVec 24) (mask : Word) (v : Word) (timeout : Word) (fatal : Bool)
    (s : State) : Host.Outcome State Fault Refusal :=
  .next (s.imgWait off.toNat mask v timeout.toNat fatal)

/-- IMAGE_WAIT_TIMEOUT (R458): A WAIT record times out, continuing or, with FATAL, ending phase 3 as ABORTED. -/
def execImageWaitTimeout (s : State) : Host.Outcome State Fault Refusal :=
  .next (s.imgTimeout)

/-- IMAGE_DELAY (R455): An image DELAY record starts a wait of the given microseconds. -/
def execImageDelay (us : Word) (s : State) : Host.Outcome State Fault Refusal :=
  .next (s.imgDelay us.toNat)

/-- IMAGE_DELAY_END (R455): The DELAY wait expires and the next record runs. -/
def execImageDelayEnd (s : State) : Host.Outcome State Fault Refusal :=
  .next (s.imgDelayEnd)

/-- IMAGE_SKIP (R455): An image SKIP record tests a register and skips the next count records if it matches. -/
def execImageSkip (off : BitVec 24) (mask : Word) (v : Word) (isNot : Bool) (count : Word)
    (s : State) : Host.Outcome State Fault Refusal :=
  .next (s.imgSkip off.toNat mask v isNot count.toNat)

/-- IMAGE_CALIBRATE (R455): An image CALIBRATE record starts both synthesisers and waits for READY or FAILED. -/
def execImageCalibrate (s : State) : Host.Outcome State Fault Refusal :=
  .next (s.imgCalibrate)

/-- IMAGE_END (R455): An image END record ends phase 3. -/
def execImageEnd (s : State) : Host.Outcome State Fault Refusal :=
  .next (s.imgEnd)

end Sys2Proof.Machine
end

