-- ==== Sys2Proof/Machine/Interrupt.lean ====
section
/-! DEFINITION. The interrupt controller: what each command does, over the operations of the blocks. -/
namespace Sys2Proof.Machine
open Sys2Proof

/-- SOURCE_ASSERTION (R364): An interrupt source level rises on an idle enabled source and the gateway accepts an
assertion. -/
def execSourceAssertion (n : Fin 256) (s : State) : Host.Outcome State Fault Refusal :=
  .next (s.sourceAssert n.val)

/-- IC_CLAIM (R366): A target reads its claim register in a class bank and the highest qualifying source becomes
active. -/
def execIcClaim (t : Fin 4) (fast : Bool) (s : State) : Host.Outcome State Fault Refusal :=
  .next (s.claimRead t.val fast)

/-- IC_COMPLETE (R367): A target writes its completion register; a valid completion returns the source to idle,
otherwise it is counted as bad. -/
def execIcComplete (t : Fin 4) (fast : Bool) (n : BitVec 8) (s : State) : Host.Outcome State Fault Refusal :=
  .next (s.byHost ((if fast then 0x1000 else 0) + IC_TGT_CFG_MASK.addr t.val + 8) (BitVec.ofNat 32 n.toNat) fun s => s.icComplete t.val fast n.toNat)

/-- SOURCE_CONFIG_WRITE (R364): Host writes IC_SRC_n, changing enable, class or targets and possibly a wake. -/
def execSourceConfigWrite (n : Fin 256) (v : Word) (s : State) : Host.Outcome State Fault Refusal :=
  .next (s.byHost (IC_SRC_EN.addr n.val) v fun s => s.writeSrcCfg n.val v)

/-- COUNT_SNAPSHOT (R372): Host writes IC_CNT_PTR, which copies the source's counts and state at one instant. -/
def execCountSnapshot (v : Word) (s : State) : Host.Outcome State Fault Refusal :=
  .next (s.byHost (IC_CNT_PTR.addr 0) v fun s => s.writeCntPtr v)

/-- WAKE_CLEAR (R370): Host writes 1 to an IC_WAKE bit, which clears it and may release WAKE_N. -/
def execWakeClear (v : Word) (s : State) : Host.Outcome State Fault Refusal :=
  .next (s.byHost (IC_WAKE.addr 0) v fun s => s.writeWake v)

/-- TARGET_CONFIG_WRITE (R370): Host writes IC_TGT_CFG_t; clearing ASLEEP clears the target's wake bit. -/
def execTargetConfigWrite (t : Fin 4) (v : Word) (s : State) : Host.Outcome State Fault Refusal :=
  .next (s.byHost (IC_TGT_CFG_MASK.addr t.val) v fun s => s.writeTgtCfg t.val v)

/-- MSIX_UNMASK (R369): A masked MSI-X vector is unmasked and its message sent if the line is asserted. -/
def execMsixUnmask (v : Fin 4) (s : State) : Host.Outcome State Fault Refusal :=
  .next (s.byHost (pgHIF + 0x80C + 16 * v.val) 0 fun s => s.writeVecCtl v.val 0#32)

/-- MSIX_ENABLE (R369): MSI-X is enabled in configuration space and each asserted vector is sent once. -/
def execMsixEnable (s : State) : Host.Outcome State Fault Refusal :=
  .next (s.msixEnable)

/-- IC_STATE_PARITY (R374): A parity error in a source's controller state returns it to idle with record 0x0801. -/
def execIcStateParity (n : Fin 256) (s : State) : Host.Outcome State Fault Refusal :=
  .next (s.icParity n.val)

end Sys2Proof.Machine
end

