-- ==== Sys2Proof/Machine/LaneCmd.lean ====
section
/-! DEFINITION. Lanes and their filters: what each command does, over the operations of the blocks. -/
namespace Sys2Proof.Machine
open Sys2Proof

/-- LANE_ENABLE (R58): Host writes LANE_CFG.EN = 1 on a disabled lane; the checks of Table 2-2 run and the lane is
accepted or refused. -/
def execLaneEnable (n : Fin 32) (v : Word) (s : State) : Host.Outcome State Fault Refusal :=
  .next (s.byHost (LANE_CFG_EN.addr n.val) (v ||| 0x80000000#32) fun s => s.writeLaneCfg n.val (v ||| 0x80000000#32))

/-- LANE_START (R58): An accepted lane starts at the next lane sample whose number is a multiple of 64. -/
def execLaneStart (n : Fin 32) (s : State) : Host.Outcome State Fault Refusal :=
  .next (s.laneStart n.val)

/-- LANE_DISABLE (R60): Host writes LANE_CFG.EN = 0; the lane stops at the next lane sample and samples inside are
discarded and counted. -/
def execLaneDisable (n : Fin 32) (v : Word) (s : State) : Host.Outcome State Fault Refusal :=
  .next (s.byHost (LANE_CFG_EN.addr n.val) (v &&& 0x7FFFFFFF#32) fun s => s.writeLaneCfg n.val (v &&& 0x7FFFFFFF#32))

/-- LANE_CFG_SHADOW_WRITE (R59): A write to LANE_CFG, a frequency or phase word, or CHF_SEL_n of an enabled lane goes
to the shadow without checks. -/
def execLaneCfgShadowWrite (n : Fin 32) (w : LaneWord) (v : Word) (s : State) : Host.Outcome State Fault Refusal :=
  .next (s.byHost ((laneWordFld w).addr n.val) (s.shadowWord n.val w v) fun s => s.writeLaneWord n.val w v)

/-- LANE_SAMPLE (R66): A lane sample passes the stages of the lane, taking the lower of the gain request and LIMIT in
force at its boundary. -/
def execLaneSample (n : Fin 32) (ws : List (BitVec 14)) (chfEcc : Nat) (rsmEcc : Nat)
    (s : State) : Host.Outcome State Fault Refusal :=
  .next (s.laneSample n.val ws chfEcc rsmEcc)

/-- CHF_ROM_READ (R65): Host writes CHF_ROM_PTR, and the selected coefficient appears in CHF_ROM_DATA within 1 µs. -/
def execChfRomRead (v : Word) (ecc : Bool) (s : State) : Host.Outcome State Fault Refusal :=
  .next (s.byHost (CHF_ROM_PTR_TAP.addr 0) v fun s => s.chfRead v ecc)

/-- CHF_ROM_UNCORR (R65): An uncorrectable channel-filter ROM read raises source 33 and records the entry in CHF_UNC.
-/
def execChfRomUncorr (idx : Fin 512) (s : State) : Host.Outcome State Fault Refusal :=
  .next (s.chfUncorr idx.val)

/-- RSM_FAULT (R72): An uncorrectable resampler ROM read or a phase-accumulator check mismatch raises source 34 and
records it in RSM_UNC. -/
def execRsmFault (n : Fin 32) (check : Bool) (phase : Fin 1024) (tap : Fin 16)
    (s : State) : Host.Outcome State Fault Refusal :=
  .next (s.rsmFault n.val check phase.val tap.val)

/-- RSM_DELAY_WRITE (R68): Host writes RSM_DELAY_n of a running lane; PENDING sets and the guard check of R198 runs
if L rises. -/
def execRsmDelayWrite (n : Fin 32) (v : Word) (s : State) : Host.Outcome State Fault Refusal :=
  .next (s.byHost (RSM_DELAY.addr n.val) v fun s => s.writeDelay n.val v)

/-- RSM_DELAY_APPLY (R68): At the next lane sample that is a multiple of 64, the last written delay takes effect and
LANE_LAT is updated. -/
def execRsmDelayApply (n : Fin 32) (s : State) : Host.Outcome State Fault Refusal :=
  .next (s.delayApply n.val)

end Sys2Proof.Machine
end

