-- ==== Sys2Proof/Machine/Migration.lean ====
section
/-! DEFINITION. Lane migration: what each command does, over the operations of the blocks. -/
namespace Sys2Proof.Machine
open Sys2Proof

/-- MIGRATION_GO (R268): Host writes LEDG_MIG_CTL.GO; the migration checks run and WARMING starts or the request is
refused. -/
def execMigrationGo (rerr : Fin 9) (rlat : Nat) (s : State) : Host.Outcome State Fault Refusal :=
  .next (s.byHost (LEDG_MIG_CTL_GO.addr 0) 0x80000000#32 fun s => s.migGo rerr.val rlat)

/-- MIGRATION_ABORT (R269): Host writes ABORT before the deadline and the target is disabled, the source running on.
-/
def execMigrationAbort (s : State) : Host.Outcome State Fault Refusal :=
  .next (s.byHost (LEDG_MIG_CTL_ABORT.addr 0) 0x40000000#32 fun s => s.migHostAbort)

/-- MIGRATION_WARM_START (R269): At sample W the target starts taking in samples and the canceller state is copied.
-/
def execMigrationWarmStart (s : State) : Host.Outcome State Fault Refusal :=
  .next (s.migWarm)

/-- MIGRATION_READY (R269): The target's first warm-up sample has passed the receive side and it reports ready. -/
def execMigrationReady (s : State) : Host.Outcome State Fault Refusal :=
  .next (s.migReady)

/-- MIGRATION_DEADLINE (R269): At sample S − 64 the migration commits if the target is ready, otherwise it aborts. -/
def execMigrationDeadline (s : State) : Host.Outcome State Fault Refusal :=
  .next (s.migDeadline)

/-- MIGRATION_BOUNDARY (R270): At sample S the target counts in and delivers, gain and cap are copied and references
are re-pointed. -/
def execMigrationBoundary (s : State) : Host.Outcome State Fault Refusal :=
  .next (s.migBoundary)

/-- MIGRATION_DONE (R269): The last late result leaves the source, which is disabled, its paths released and
spotlight disarmed. -/
def execMigrationDone (s : State) : Host.Outcome State Fault Refusal :=
  .next (s.migDone)

end Sys2Proof.Machine
end

