-- ==== Sys2Proof/Machine/PromptBook.lean ====
section
/-! DEFINITION. The prompt book: what each command does, over the operations of the blocks. -/
namespace Sys2Proof.Machine
open Sys2Proof

/-- RECORD_ARRIVAL (R310): A block hands a record to the recorder; it folds into the open record or is admitted,
numbered, dropped or made to wait. -/
def execRecordArrival (page : Page) (code : BitVec 16) (sev : Nat) (payload : BitVec 64)
    (s : State) : Host.Outcome State Fault Refusal :=
  .next (s.recordArrival (pageOff page) code sev payload)

/-- RECORD_ADMITTED_AFTER_WAIT (R312): A waiting MAJOR or CURTAIN record is admitted when a staging place frees and
takes its number with LATE. -/
def execRecordAdmittedAfterWait (s : State) : Host.Outcome State Fault Refusal :=
  .next (s.letWaiting)

/-- FOLD_WINDOW_EXPIRY (R310): 60 s after issue the open record closes and its tag is computed. -/
def execFoldWindowExpiry (s : State) : Host.Outcome State Fault Refusal :=
  .next (s.foldEnd)

/-- RATE_LIMIT_WINDOW_END (R311): In COMPAT mode, each rate-limit window end issues a suppression record for each
code suppressed. -/
def execRateLimitWindowEnd (s : State) : Host.Outcome State Fault Refusal :=
  .next (s.rateEnd)

/-- PB_CFG_WRITE (R311): Host writes PB_CFG; a change of COMPAT closes the open record. -/
def execPbCfgWrite (v : Word) (s : State) : Host.Outcome State Fault Refusal :=
  .next (s.byHost (PB_CFG_RL_WIN.addr 0) v fun s => s.writePbCfg v)

/-- FLUSH_PERIODIC (R313): Every 250 ms a flush hands closed unconfirmed records to the storage manager. -/
def execFlushPeriodic (s : State) : Host.Outcome State Fault Refusal :=
  .next (s.flushPeriodic)

/-- RECORD_CONFIRMED (R34): A record's NAND program is confirmed and the record is released from staging. -/
def execRecordConfirmed (seq : BitVec 40) (s : State) : Host.Outcome State Fault Refusal :=
  .next ((s.confirm seq).serve)

/-- PFAIL_ASSERT (R316): PFAIL_N falls or a supply alarm occurs, starting the power-fail flush to the vault. -/
def execPfailAssert (supply : Bool) (s : State) : Host.Outcome State Fault Refusal :=
  .next (s.pfail supply)

/-- VAULT_FLUSH_COMPLETE (R316): Every unconfirmed record is in the vault and the completion mark is written. -/
def execVaultFlushComplete (s : State) : Host.Outcome State Fault Refusal :=
  .next (s.vaultDone)

/-- PFAIL_DEASSERT (R316): PFAIL_N rises again without reset, recording resumes and a power-restored record is
issued. -/
def execPfailDeassert (s : State) : Host.Outcome State Fault Refusal :=
  .next (s.pfailRise)

/-- VAULT_RESTORE (R317): At start the vault records are programmed to NAND, the journal audited, any gap record and
the start record issued. -/
def execVaultRestore (s : State) : Host.Outcome State Fault Refusal :=
  .next (s.restoreStart.serve)

/-- STAGING_UNCORR (R322): An uncorrectable staging read loses that record, issues a gap record and raises source 4.
-/
def execStagingUncorr (seq : BitVec 40) (s : State) : Host.Outcome State Fault Refusal :=
  .next (s.stagingLost seq)

/-- VAULT_LINE_UNCORR (R322): An uncorrectable vault line is rewritten in its next slot and source 53 is raised. -/
def execVaultLineUncorr (s : State) : Host.Outcome State Fault Refusal :=
  .next (s.vaultUncorr)

/-- PB_READ_GO (R320): Host writes PB_RD_CTL.GO, which looks up a record by number wherever it resides. -/
def execPbReadGo (s : State) : Host.Outcome State Fault Refusal :=
  .next (s.byHost (PB_RD_CTL.addr 0) 0x80000000#32 fun s => s.pbReadGo)

/-- PB_READ_DONE (R320): The looked-up record is copied to PB_RD_DATA and DONE sets with WHERE and OPEN. -/
def execPbReadDone (s : State) : Host.Outcome State Fault Refusal :=
  .next (s.readBook)

/-- VERIFY_GO (R321): Host writes PB_VFY_CTL.GO, which starts verification of a range of records. -/
def execVerifyGo (s : State) : Host.Outcome State Fault Refusal :=
  .next (s.byHost (PB_VFY_CTL_GO.addr 0) 0x80000000#32 fun s => s.verifyGo)

/-- VERIFY_STOP (R321): Host writes PB_VFY_CTL.STOP and verification ends at the next record. -/
def execVerifyStop (s : State) : Host.Outcome State Fault Refusal :=
  .next (s.byHost (PB_VFY_CTL_STOP.addr 0) 0x40000000#32 fun s => s.verifyStop)

/-- VERIFY_DONE (R321): Verification ends, setting DONE and, on a failing record, FAIL and PB_VFY_BAD. -/
def execVerifyDone (k : Nat) (s : State) : Host.Outcome State Fault Refusal :=
  .next (s.verifyDone k)

end Sys2Proof.Machine
end

