-- ==== Sys2Proof/Machine/Protection.lean ====
section
/-! DEFINITION. The detectors of network protection: what each command does, over the operations of the blocks. -/
namespace Sys2Proof.Machine
open Sys2Proof

/-- OSCILLATION_GROWTH (R144): The growth criterion is met on a repeating lane and source 13 latches, requesting the
Curtain. -/
def execOscillationGrowth (n : Fin 32) (s : State) : Host.Outcome State Fault Refusal :=
  .next (s.oscGrowth n.val)

/-- OSCILLATION_LINE (R145): The line criterion is met in two consecutive spans and source 13 latches. -/
def execOscillationLine (n : Fin 32) (s : State) : Host.Outcome State Fault Refusal :=
  .next (s.oscLine n.val)

/-- OVERDRIVE_DETECTED (R146): A 4,096-word window meets the overdrive criterion and source 15 latches for the port.
-/
def execOverdriveDetected (m : Fin 8) (s : State) : Host.Outcome State Fault Refusal :=
  .next (s.overdrive m.val)

/-- EMISSION_DETECTED (R147): An emission band exceeds its limit in two consecutive 10 µs windows and source 15
latches. -/
def execEmissionDetected (m : Fin 8) (b : Fin 4) (s : State) : Host.Outcome State Fault Refusal :=
  .next (s.emission m.val b.val)

end Sys2Proof.Machine
end

