-- ==== Sys2Proof/Machine/Register.lean ====
section
/-! DEFINITION. Register writes and page clears: what each command does, over the operations of the blocks. -/
namespace Sys2Proof.Machine
open Sys2Proof

/-- PAGE_INT_CLEAR (R472): Host writes PG_CTL.INT_CLR, which clears every W1C bit of the page's PG_INT_STAT. -/
def execPageIntClear (page : Page) (s : State) : Host.Outcome State Fault Refusal :=
  .next (s.byHost (pageOff page + 4) 2 fun s => s.pageIntClear (pageOff page))

/-- PAGE_ERR_CLEAR (R472): Host writes PG_CTL.ERR_CLR, which clears every bit of the page's PG_ERR. -/
def execPageErrClear (page : Page) (s : State) : Host.Outcome State Fault Refusal :=
  .next (s.byHost (pageOff page + 4) 1 fun s => s.pageErrClear (pageOff page))

/-- REGISTER_WRITE (R6): Host writes a register that has no row of its own, which acts per its access type and range
checks. -/
def execRegisterWrite (dev : Fin 64) (off : BitVec 24) (v : Word) (s : State) : Host.Outcome State Fault Refusal :=
  .next (s.registerWrite dev.val off.toNat v)

/-- STANDING_SIGNAL_FALL (R278): A recovery condition that must hold for a time, such as RFC lines correct for 1 ms,
a PWM ball correct for 1 ms or every rail inside its alarm levels for 10 ms, has held long enough, and the source's
standing signal falls, starting its quiet period and ending the RFC OFF-level drive. -/
def execStandingSignalFall (n : Fin 56) (k : Fin 32) (s : State) : Host.Outcome State Fault Refusal :=
  .next (s.standFall n.val k.val)

end Sys2Proof.Machine
end

