-- ==== Sys2Proof/Machine/RingCmd.lean ====
section
/-! DEFINITION. The cascade ring: what each command does, over the operations of the blocks. -/
namespace Sys2Proof.Machine
open Sys2Proof

/-- RING_LANE_LOCK_LOSS (R381): A ring lane loses block lock for 1 µs and takes its port direction down for
retraining. -/
def execRingLaneLockLoss (p : Bool) (l : Fin 4) (s : State) : Host.Outcome State Fault Refusal :=
  .next (s.lockLoss p.toNat l.val)

/-- RING_TRAINING_DONE (R381): A ring port direction achieves block lock and deskew and comes up. -/
def execRingTrainingDone (p : Bool) (tx : Bool) (skew : Word) (s : State) : Host.Outcome State Fault Refusal :=
  .next (s.trained p.toNat tx skew)

/-- PORT_RETRAIN (R381): Host writes RETRAIN_UP or RETRAIN_DN, which retrains the port and reinitialises its credits.
-/
def execPortRetrain (p : Bool) (s : State) : Host.Outcome State Fault Refusal :=
  .next (s.retrain p.toNat)

/-- HEADER_CRC_FAIL (R383): A frame with a failing HCRC takes the port direction down at once. -/
def execHeaderCrcFail (p : Bool) (s : State) : Host.Outcome State Fault Refusal :=
  .next (s.headerCrc p.toNat)

/-- FRAME_CRC_FAIL (R383): A frame with a failing end-block CRC is discarded and counted and its credit returned. -/
def execFrameCrcFail (p : Bool) (vc : Fin 4) (s : State) : Host.Outcome State Fault Refusal :=
  .next (s.frameCrc p.toNat vc.val)

/-- REGISTER_WRITE_FRAME (R389): A register-write frame arrives; the next expected SEQ is applied and acknowledged,
others discarded or NAKed. -/
def execRegisterWriteFrame (p : Bool) (src : Fin 64) (seq : BitVec 16) (b : RegBody)
    (s : State) : Host.Outcome State Fault Refusal :=
  .next (s.regFrame p.toNat src.val seq b)

/-- REGISTER_READ_FRAME (R389): A register-read frame arrives and is answered with a read-answer frame. -/
def execRegisterReadFrame (p : Bool) (src : Fin 64) (seq : BitVec 16) (off : BitVec 24)
    (s : State) : Host.Outcome State Fault Refusal :=
  .next (s.readFrame p.toNat src.val seq off.toNat)

/-- READ_ANSWER_FRAME (R357): A read answer reaches the vertex and completes the tunnelled read, or is discarded if
late. -/
def execReadAnswerFrame (p : Bool) (src : Fin 64) (off : BitVec 24) (v : Word)
    (s : State) : Host.Outcome State Fault Refusal :=
  .next ((s.took p.toNat 0).readAnswer src.val off.toNat v)

/-- ACK_FRAME (R389): A cumulative acknowledge arrives, freeing unacknowledged writes and refreshing the device's
status. -/
def execAckFrame (p : Bool) (src : Fin 64) (bulk : Bool) (seq : BitVec 16) (line : Bool) (low : Bool) (st : Fin 4)
    (s : State) : Host.Outcome State Fault Refusal :=
  .next (s.ackFrame p.toNat src.val (if bulk then 3 else 0) seq line low st.val)

/-- NAK_FRAME (R389): A NAK arrives and the source replays from the oldest unacknowledged frame. -/
def execNakFrame (p : Bool) (src : Fin 64) (bulk : Bool) (s : State) : Host.Outcome State Fault Refusal :=
  .next ((s.took p.toNat 0).replay src.val (if bulk then 3 else 0))

/-- STATUS_FRAME (R391): A status frame reaches the vertex, setting the forwarded interrupt level and FAULT_N state
of the device. -/
def execStatusFrame (p : Bool) (src : Fin 64) (line : Bool) (low : Bool) (st : Fin 4)
    (s : State) : Host.Outcome State Fault Refusal :=
  .next (s.statusFrame p.toNat src.val line low st.val)

/-- STATUS_FRAME_SEND (R391): A non-vertex device sends a status frame on a change or every 1 ms. -/
def execStatusFrameSend (s : State) : Host.Outcome State Fault Refusal :=
  .next (s.statusSend)

/-- REPLAY_TIMEOUT (R389): 50 µs without acknowledgement progress makes the source replay unacknowledged frames. -/
def execReplayTimeout (dev : Fin 64) (bulk : Bool) (s : State) : Host.Outcome State Fault Refusal :=
  .next (s.replayTimeout dev.val (if bulk then 3 else 0))

/-- TUNNEL_WRITE_RELEASED (R389): A host write held at the vertex is sent once acknowledgements free a place. -/
def execTunnelWriteReleased (dev : Fin 64) (s : State) : Host.Outcome State Fault Refusal :=
  .next (s.tunnelRelease dev.val)

/-- CREDIT_RETURN (R385): A credit-return block arrives and adds credits to the sender's count. -/
def execCreditReturn (p : Bool) (vc : Fin 4) (n : BitVec 8) (s : State) : Host.Outcome State Fault Refusal :=
  .next (s.creditReturn p.toNat vc.val n.toNat)

/-- CENSUS_MARKER_SEND (R386): Every 1 ms each sender places a census marker on each VC of each trained port
direction. -/
def execCensusMarkerSend (s : State) : Host.Outcome State Fault Refusal :=
  .next (s.censusSend)

/-- CENSUS_MARKER (R386): A census marker arrives and the receiver checks that credits total 256, raising source 51
if not. -/
def execCensusMarker (p : Bool) (vc : Fin 4) (cs : Fin 257) (rCum : BitVec 16) (b : Nat) (relayed : Nat)
    (s : State) : Host.Outcome State Fault Refusal :=
  .next (s.censusMarker p.toNat vc.val cs.val rCum b relayed)

/-- ENUMERATION_START (R387): The vertex sends an enumeration frame after training, 100 ms after reset, or on any
port change. -/
def execEnumerationStart (s : State) : Host.Outcome State Fault Refusal :=
  .next (s.enumStart)

/-- ENUMERATION_FRAME (R387): An enumeration frame visits a device, which appends its ID, strap and version and
learns its position. -/
def execEnumerationFrame (p : Bool) (pos : Fin 64) (size : Fin 65) (seen : List MapEntry)
    (s : State) : Host.Outcome State Fault Refusal :=
  .next (s.enumFrame p.toNat pos.val size.val seen)

/-- ENUMERATION_COMPLETE (R387): Enumeration returns to the vertex, filling RING_MAP and RING_PRES and detecting
conflicts. -/
def execEnumerationComplete (found : List (Option MapEntry)) (down : List (Fin 64))
    (s : State) : Host.Outcome State Fault Refusal :=
  .next (s.enumDone found (down.map (·.val)))

/-- SINGLE_TIMEOUT (R387): Neither vertex port trains within 100 ms and the vertex runs alone as SINGLE. -/
def execSingleTimeout (s : State) : Host.Outcome State Fault Refusal :=
  .next (s.singleTimeout)

/-- NO_VERTEX_TIMEOUT (R387): A trained non-vertex device receives no enumeration within 1 s and raises NO_VERTEX. -/
def execNoVertexTimeout (s : State) : Host.Outcome State Fault Refusal :=
  .next (s.noVertex)

/-- ARC_DOWN (R393): An arc goes down; its end devices raise ARC_DOWN and send break notices. -/
def execArcDown (p : Bool) (s : State) : Host.Outcome State Fault Refusal :=
  .next (s.arcDown p.toNat)

/-- BREAK_NOTICE_FRAME (R393): A break notice arrives and the device routes as a line, recomputing HOPS_LEFT. -/
def execBreakNoticeFrame (p : Bool) (arc : Fin 64) (s : State) : Host.Outcome State Fault Refusal :=
  .next (s.breakNotice p.toNat arc.val)

/-- SPLIT (R394): A second arc goes down while the ring is a line; SPLIT is raised and the vertex discards writes to
absent devices. -/
def execSplit (gone : List (Fin 64)) (s : State) : Host.Outcome State Fault Refusal :=
  .next (s.split (gone.map (·.val)))

/-- RING_RESTORE (R395): Host writes RING_CTL.RESTORE or AUTO_RESTORE applies; the vertex drains writes and sends a
route command. -/
def execRingRestore (host : Bool) (s : State) : Host.Outcome State Fault Refusal :=
  .next (s.ringRestore host)

/-- ROUTE_COMMAND_FRAME (R395): A route command arrives and the device resumes whole-ring routes. -/
def execRouteCommandFrame (p : Bool) (s : State) : Host.Outcome State Fault Refusal :=
  .next (s.routeCommand p.toNat)

/-- RING_RESET_GO (R396): Host writes RING_CTL.RST_GO on the vertex, which sends a ring reset to the named or every
device. -/
def execRingResetGo (all : Bool) (dev : Fin 64) (s : State) : Host.Outcome State Fault Refusal :=
  .next (s.byHost (RING_CTL_RST_GO.addr 0) (BitVec.ofNat 32 (2 ^ 28 + all.toNat * 2 ^ 27 + dev.val)) fun s => ((s.wr RING_CTL_RST_ALL 0 all.toNat).wr RING_CTL_RST_DEV 0 dev.val).ringResetGo all dev.val)

/-- BULK_REQUEST_FRAME (R384): A bulk request frame for a remote DMA kind 1 or 2 arrives at the device that holds the
data. -/
def execBulkRequestFrame (p : Bool) (src : Fin 64) (seq : BitVec 16) (q : Fin 8) (d : Desc)
    (s : State) : Host.Outcome State Fault Refusal :=
  .next ((s.bulkRequest p.toNat src.val seq q.val d).serve)

/-- BULK_DATA_FRAME (R384): A bulk data frame arrives at the vertex carrying remote DMA data. -/
def execBulkDataFrame (p : Bool) (src : Fin 64) (seq : BitVec 16) (q : Fin 8) (st : Fin 16) (info : Nat)
    (last : Bool) (ws : List Word) (s : State) : Host.Outcome State Fault Refusal :=
  .next (s.bulkArrive p.toNat src.val seq q.val st.val info last ws)

end Sys2Proof.Machine
end

