-- ==== Sys2Proof/Machine/Sequencer.lean ====
section
/-! DEFINITION. The radio sequencer: what each command does, over the operations of the blocks. -/
namespace Sys2Proof.Machine
open Sys2Proof

/-- FRAME_BOUNDARY (R170): A 10 ms frame boundary of the timebase closes a frame for the frame-based measurements. -/
def execFrameBoundary (s : State) : Host.Outcome State Fault Refusal :=
  .next (s.frameBoundary)

/-- PORT_USE_END (R196): The TDD block hands the sequencer the end of a port use, which starts a turn-round. -/
def execPortUseEnd (m : Fin 8) (tx : Bool) (s : State) : Host.Outcome State Fault Refusal :=
  .next (s.portUseEnd m.val tx)

/-- REF_IN_FAIL (R199): REF_IN is absent or off frequency; the timebase switches to the internal oscillator and
source 55 is raised. -/
def execRefInFail (s : State) : Host.Outcome State Fault Refusal :=
  .next (s.refFail)

/-- REF_IN_RECOVERED (R199): REF_IN has been correct for 100 ms and the synthesisers recalibrate. -/
def execRefInRecovered (s : State) : Host.Outcome State Fault Refusal :=
  .next (s.refBack)

/-- PORT_CMD_OFF (R207): Host writes RFC_PORT_CFG_m.TARGET = OFF and the port goes to OFF, cutting any transmit use.
-/
def execPortCmdOff (m : Fin 8) (v : Word) (s : State) : Host.Outcome State Fault Refusal :=
  .next (s.byHost (RFC_PORT_CFG_TARGET.addr m.val) (v &&& 0x3FFFFFFF#32) fun s => s.writePortCfg m.val (v &&& 0x3FFFFFFF#32))

/-- PORT_CMD_RX (R207): Host writes TARGET = RX, and the command completes when the port reaches RX. -/
def execPortCmdRx (m : Fin 8) (v : Word) (s : State) : Host.Outcome State Fault Refusal :=
  .next (s.byHost (RFC_PORT_CFG_TARGET.addr m.val) ((v &&& 0x3FFFFFFF#32) ||| 0x40000000#32) fun s => s.writePortCfg m.val ((v &&& 0x3FFFFFFF#32) ||| 0x40000000#32))

/-- PORT_CMD_TX (R207): Host writes TARGET = TX, and the command completes when the port would transmit but for
Curtain causes and device state. -/
def execPortCmdTx (m : Fin 8) (v : Word) (s : State) : Host.Outcome State Fault Refusal :=
  .next (s.byHost (RFC_PORT_CFG_TARGET.addr m.val) ((v &&& 0x3FFFFFFF#32) ||| 0x80000000#32) fun s => s.writePortCfg m.val ((v &&& 0x3FFFFFFF#32) ||| 0x80000000#32))

/-- TURN_ROUND_LINE_EVENT (R208): At a nominal instant of Table 7-3, a line of the port changes during a turn-round.
-/
def execTurnRoundLineEvent (m : Fin 8) (s : State) : Host.Outcome State Fault Refusal :=
  .next (s.turnEvent m.val)

/-- TURN_ROUND_COMPLETE (R208): 1.75 µs after the use end the path is live and the port reads RX or TX. -/
def execTurnRoundComplete (m : Fin 8) (s : State) : Host.Outcome State Fault Refusal :=
  .next (s.turnDone m.val)

/-- PA_SETTLE_EXPIRY (R210): PA_SETTLE after PAEN assertion on an FDD port, the DAC is released at the next
lane-sample boundary. -/
def execPaSettleExpiry (m : Fin 8) (s : State) : Host.Outcome State Fault Refusal :=
  .next (s.paSettled m.val)

/-- TX_TIMEOUT_TDD (R215): PAEN still active 10 µs after a TDD transmit use ends latches source 17 for the port. -/
def execTxTimeoutTdd (m : Fin 8) (s : State) : Host.Outcome State Fault Refusal :=
  .next (s.tddTimeout m.val)

/-- PRESENCE_LOSS_TIMEOUT (R216): An FDD port's loss timer reaches LOSS_LIM and source 17 latches for the port. -/
def execPresenceLossTimeout (m : Fin 8) (s : State) : Host.Outcome State Fault Refusal :=
  .next (s.lossTimeout m.val)

/-- ATTN_GO (R219): Host writes ATTN_CTL_x.GO, which starts shifting the frame or holds it as the pending frame. -/
def execAttnGo (x : Fin 2) (s : State) : Host.Outcome State Fault Refusal :=
  .next (s.byHost (ATTN_CTL.addr x.val) 0x80000000#32 fun s => s.writeAttnCtl x.val 0x80000000#32)

/-- ATTN_SHIFT_DONE (R218): The attenuator frame has been shifted out; LE follows at once or waits for the LATCH
instant. -/
def execAttnShiftDone (x : Fin 2) (s : State) : Host.Outcome State Fault Refusal :=
  .next (s.attnShifted x.val)

/-- ATTN_LATCH (R219): LE is issued at the turn-round or frame boundary after the shift, latching the attenuator
frame. -/
def execAttnLatch (x : Fin 2) (s : State) : Host.Outcome State Fault Refusal :=
  .next (s.attnLatch x.val)

/-- RFC_LINE_MISMATCH (R223): A front-end ball differs from its driven level for 1 µs, or the sequencer has a parity
error, which raises source 12. -/
def execRfcLineMismatch (m : Fin 8) (parity : Bool) (s : State) : Host.Outcome State Fault Refusal :=
  .next (s.lineMismatch m.val parity)

/-- PORT_USE_START (R221): A TDD port use begins at the instant set by the pattern, where strict coexistence mode
holds the use if COEX_GNT_IN is low. -/
def execPortUseStart (m : Fin 8) (s : State) : Host.Outcome State Fault Refusal :=
  .next (s.portUseStart m.val)

end Sys2Proof.Machine
end

