-- ==== Sys2Proof/Machine/Settings.lean ====
section
/-! DEFINITION. One-time memory and the settings flash: what each command does, over the operations of the blocks. -/
namespace Sys2Proof.Machine
open Sys2Proof

/-- OTP_PROGRAM (R463): Host writes SEC_PROG with CONFIRM and slot; programming starts or is refused. -/
def execOtpProgram (v : Word) (s : State) : Host.Outcome State Fault Refusal :=
  .next (s.byHost (SEC_PROG_CONFIRM.addr 0) v fun s => s.writeSecProg v)

/-- OTP_PROGRAM_DONE (R463): Programming of a one-time slot ends with RESULT 1 or 3, the key words cleared and record
0x0B10 issued. -/
def execOtpProgramDone (ok : Bool) (s : State) : Host.Outcome State Fault Refusal :=
  .next (s.progDone ok)

/-- SMEM_COMMAND_GO (R465): Host writes SMEM_CMD.GO, which sends a command to the flash or refuses it under LOCK or
BUSY. -/
def execSmemCommandGo (v : Word) (s : State) : Host.Outcome State Fault Refusal :=
  .next (s.byHost (SMEM_CMD_GO.addr 0) (v ||| 0x80000000#32) fun s => s.writeSmemCmd (v ||| 0x80000000#32))

/-- SMEM_COMMAND_DONE (R465): A flash command ends, after any status poll, with its RESULT, or times out raising
CMD_TIMEOUT. -/
def execSmemCommandDone (bs : List Byte) (timeout : Bool) (s : State) : Host.Outcome State Fault Refusal :=
  .next (s.smemDone bs timeout)

end Sys2Proof.Machine
end

