-- ==== Sys2Proof/Machine/Spotlight.lean ====
section
/-! DEFINITION. Spotlight and measurement: what each command does, over the operations of the blocks. -/
namespace Sys2Proof.Machine
open Sys2Proof

/-- SPT_ARM (R122): Host writes SPT_LANE_CFG_n.EN = 1; the arming checks of Table 4-2 run and the lane is armed or
refused. -/
def execSptArm (k : Fin 16) (v : Word) (s : State) : Host.Outcome State Fault Refusal :=
  .next (s.byHost (SPT_LANE_CFG_EN.addr k.val) (v ||| 0x80000000#32) fun s => s.writeSptCfg (16 + k.val) (v ||| 0x80000000#32))

/-- MEAS_ARM (R141): Host writes MEAS_LANE_CFG_n.EN = 1 on a downlink lane; it is armed for measurement or refused.
-/
def execMeasArm (n : Fin 16) (v : Word) (s : State) : Host.Outcome State Fault Refusal :=
  .next (s.byHost (MEAS_LANE_CFG_EN.addr n.val) (v ||| 0x80000000#32) fun s => s.writeSptCfg n.val (v ||| 0x80000000#32))

/-- SPT_DISARM (R123): Host writes EN = 0 on an armed lane; an inactive lane disarms at once, an active MEASURE lane
at the next window boundary. -/
def execSptDisarm (n : Fin 32) (v : Word) (s : State) : Host.Outcome State Fault Refusal :=
  .next (s.byHost ((pageF n.val SPT_LANE_CFG_EN MEAS_LANE_CFG_EN).addr (n.val % 16)) (v &&& 0x7FFFFFFF#32) fun s => s.writeSptCfg n.val (v &&& 0x7FFFFFFF#32))

/-- DECISION_WINDOW_CLOSE (R127): At the end of a decision window, every context of the lane is decided and its floor
and statistics are updated. -/
def execDecisionWindowClose (n : Fin 32) (ecc : Nat) (s : State) : Host.Outcome State Fault Refusal :=
  .next (s.windowClose n.val ecc)

/-- CONTEXT_STUCK (R135): An AUTO context open without a break for STUCK_S seconds is reported stuck. -/
def execContextStuck (c : Fin 32768) (s : State) : Host.Outcome State Fault Refusal :=
  .next (s.ctxStuck c.val)

/-- CONTEXT_CTL_WRITE (R131): Host writes a context word; a valid SPT_CTX_CTL write acts from the next window, an
invalid one or another word is ignored and counted. -/
def execContextCtlWrite (c : Fin 32768) (idx : Fin 16) (v : Word) (s : State) : Host.Outcome State Fault Refusal :=
  .next (s.byHost (0x200000 + 64 * c.val + 4 * idx.val) v fun s => s.writeCtx c.val idx.val v)

/-- CONTEXT_SNAPSHOT_GO (R134): Host writes SPT_SNAP.GO with a context number, which clears DONE and requests a copy.
-/
def execContextSnapshotGo (dn : Bool) (v : Word) (s : State) : Host.Outcome State Fault Refusal :=
  .next (s.byHost ((if dn then MEAS_SNAP_CTX else SPT_SNAP_CTX).addr 0) (v ||| 0x40000000#32) fun s => s.writeCtxSnap dn (v ||| 0x40000000#32))

/-- CONTEXT_SNAPSHOT_DONE (R134): At the end of the lane's next window, the 16 context words are copied and DONE
sets. -/
def execContextSnapshotDone (dn : Bool) (s : State) : Host.Outcome State Fault Refusal :=
  .next (s.ctxSnapDone dn)

/-- CONTEXT_MEMORY_UNCORR (R138): An uncorrectable context-memory or bank ROM error reinitialises or zeroes the
affected subbands and raises source 31 or 32. -/
def execContextMemoryUncorr (rom : Bool) (c : Fin 32768) (s : State) : Host.Outcome State Fault Refusal :=
  .next (s.ctxUncorr rom c.val)

end Sys2Proof.Machine
end

