-- ==== Sys2Proof/Machine/Start.lean ====
section
/-! DEFINITION. Resets and start-up: what each command does, over the operations of the blocks. -/
namespace Sys2Proof.Machine
open Sys2Proof

/-- POWER_ON_RESET (R442): PWR_GOOD falls or a rail falls below its reset level; the Curtain completes and the device
goes DARK. -/
def execPowerOnReset (kept : Nat) (s : State) : Host.Outcome State Fault Refusal :=
  .next (s.resetGo .powerOn kept)

/-- PIN_RESET (R442): RESET_N is held low for at least 1 µs and the device is reset. -/
def execPinReset (s : State) : Host.Outcome State Fault Refusal :=
  .next (s.resetGo .pin 0)

/-- HOST_RESET (R442): A PCI Express Hot Reset or Function Level Reset performs the host reset kind. -/
def execHostReset (s : State) : Host.Outcome State Fault Refusal :=
  .next (s.resetGo .host 0)

/-- BOOT_RESET_HOST (R442): Host writes BOOT_RESET with key and KIND host, which performs the host reset. -/
def execBootResetHost (v : Word) (s : State) : Host.Outcome State Fault Refusal :=
  .next (s.byHost (BOOT_RESET_KEY.addr 0) ((v &&& 0xFFFFFFF8#32) ||| 2#32) fun s => s.writeBootReset ((v &&& 0xFFFFFFF8#32) ||| 2#32))

/-- BOOT_RESET_FABRIC (R442): Host writes BOOT_RESET with key and KIND fabric, which performs the fabric reset
keeping the link. -/
def execBootResetFabric (v : Word) (s : State) : Host.Outcome State Fault Refusal :=
  .next (s.byHost (BOOT_RESET_KEY.addr 0) ((v &&& 0xFFFFFFF8#32) ||| 4#32) fun s => s.writeBootReset ((v &&& 0xFFFFFFF8#32) ||| 4#32))

/-- RING_RESET_FRAME (R396): A ring reset frame arrives and the device performs the ring reset kind within 20 µs. -/
def execRingResetFrame (p : Bool) (s : State) : Host.Outcome State Fault Refusal :=
  .next (s.ringResetFrame p.toNat)

/-- RESET_RELEASE (R443): The reset is released and start-up begins at phase 0 or phase 1. -/
def execResetRelease (s : State) : Host.Outcome State Fault Refusal :=
  .next (s.resetRelease)

/-- STARTUP_PHASE_0_DONE (R447): Straps are sampled, REF_IN recognised and the timebase PLL locked. -/
def execStartupPhase0Done (id : Fin 64) (vtx : Bool) (twt : Fin 4) (hm : Fin 4) (ref : Option (Fin 6)) (nvq : Bool)
    (s : State) : Host.Outcome State Fault Refusal :=
  .next (s.phase0Done id.val vtx twt.val hm.val (ref.map (·.val)) nvq)

/-- SMEM_DISCOVERY_DONE (R453): The SMEM reset and SFDP read end, the read mode chosen and both copy headers read. -/
def execSmemDiscoveryDone (resp : Bool) (sfdp : Option (Nat × Bool × Bool)) (hdrA : List Byte) (hdrB : List Byte)
    (s : State) : Host.Outcome State Fault Refusal :=
  .next (s.discoveryDone resp sfdp hdrA hdrB)

/-- IMAGE_COPY_CHECKED (R457): A copy has been read and checked in full, and is loaded or the other copy is checked.
-/
def execImageCopyChecked (blocks : List (List Word)) (tag : List Byte) (s : State) : Host.Outcome State Fault Refusal :=
  .next (s.copyChecked blocks tag)

/-- LOAD_LIMIT_EXPIRY (R448): LOAD_LIMIT expires; the running record is abandoned, ABORTED set and LOAD_ABORT raised.
-/
def execLoadLimitExpiry (s : State) : Host.Outcome State Fault Refusal :=
  .next (s.loadLimit)

/-- STARTUP_CALIBRATION (R459): Phase 4 starts both synthesisers with the NUM and DEN in force when no CALIBRATE
record ran. -/
def execStartupCalibration (s : State) : Host.Outcome State Fault Refusal :=
  .next (s.startCal)

/-- REHEARSAL_ENTRY (R447): Start-up reaches phase 5; REHEARSAL is entered, BOOT_TIME written and the autonomous
START held pending if honoured. -/
def execRehearsalEntry (s : State) : Host.Outcome State Fault Refusal :=
  .next (s.rehearse)

/-- BACKGROUND_COPY_CHECK (R457): Within 2 s of REHEARSAL the unchecked copy is checked and A_VALID or B_VALID and
CHECKED set. -/
def execBackgroundCopyCheck (blocks : List (List Word)) (tag : List Byte)
    (s : State) : Host.Outcome State Fault Refusal :=
  .next (s.backgroundCheck blocks tag)

end Sys2Proof.Machine
end

