-- ==== Sys2Proof/Machine/Storage.lean ====
section
/-! DEFINITION. The storage manager: what each command does, over the operations of the blocks. -/
namespace Sys2Proof.Machine
open Sys2Proof

/-- HISTORY_INTERVAL_BOUNDARY (R133): At a history interval boundary every context's statistics are copied to its
previous-interval words and cleared. -/
def execHistoryIntervalBoundary (taken : Fin 3) (s : State) : Host.Outcome State Fault Refusal :=
  .next ((s.histBoundary taken.val).serve)

/-- STORAGE_READY (R328): After reset the storage manager has identified the medium and reports READY with MEDIUM. -/
def execStorageReady (m : Machine.MediumInfo) (s : State) : Host.Outcome State Fault Refusal :=
  .next (s.storageReady m)

/-- FORMAT_GO (R329): Host or image writes STM_FMT_CTL.GO; the format checks run and first format starts or is
refused. -/
def execFormatGo (s : State) : Host.Outcome State Fault Refusal :=
  .next (s.byHost (STM_FMT_CTL_GO.addr 0) 0x80000000#32 fun s => s.formatGo s.sys.dark)

/-- RESHAPE (R331): Host writes STM_FMT_CTL.RESHAPE, which sets a new S, recomputes H and empties both rings. -/
def execReshape (s : State) : Host.Outcome State Fault Refusal :=
  .next (s.byHost (STM_FMT_CTL_RESHAPE.addr 0) 0x40000000#32 fun s => s.formatStart true)

/-- FORMAT_DONE (R330): First format or reshape completes, record 0x0900 is issued and the interrupt set. -/
def execFormatDone (bad : Nat) (s : State) : Host.Outcome State Fault Refusal :=
  .next (s.formatDone bad)

/-- CODEWORD_UNCORRECTABLE (R334): A codeword neither decoder corrects is counted, recorded, raises UNCORR and its
block is refreshed. -/
def execCodewordUncorrectable (part : Fin 5) (unit : Nat) (copies : List (List (BitVec 36608)))
    (s : State) : Host.Outcome State Fault Refusal :=
  .next (s.codewordRead part.val unit copies)

/-- BLOCK_REFRESH (R336): A block's valid data are copied to a fresh block of its pool and the old block erased. -/
def execBlockRefresh (why : Machine.Refresh) (pslc : Bool) (mx : Nat) (mean : Nat)
    (s : State) : Host.Outcome State Fault Refusal :=
  .next (s.medium (.refresh why pslc mx mean))

/-- BLOCK_RETIRE (R338): A program or erase failure retires the block, places its data elsewhere and records 0x0902.
-/
def execBlockRetire (erase : Bool) (pslc : Bool) (ch : Fin 2) (ce : Fin 4) (lun : Fin 16) (block : Word)
    (spare : Nat) (s : State) : Host.Outcome State Fault Refusal :=
  .next (s.blockRetire erase pslc ch.val ce.val lun.val block.toNat spare)

/-- SCRUB_PASS_COMPLETE (R337): The patrol scrub completes a pass over every programmed codeword. -/
def execScrubPassComplete (s : State) : Host.Outcome State Fault Refusal :=
  .next (s.medium .scrub)

/-- WEAR_CHECKPOINT (R339): Every 3,600 s of powered time or 8,192 erases the erase-count table is checkpointed. -/
def execWearCheckpoint (s : State) : Host.Outcome State Fault Refusal :=
  .next (s.wearCheckpoint)

/-- CE_BUSY_TIMEOUT (R350): A chip enable stays busy for 50 ms and raises the CHANNEL cause of source 5. -/
def execCeBusyTimeout (s : State) : Host.Outcome State Fault Refusal :=
  .next (s.ceBusy)

/-- SNAPSHOT_ARM (R346): Host sets STM_CAP_CFG.ARM, which moves the capture from IDLE to FILLING or is refused. -/
def execSnapshotArm (v : Word) (s : State) : Host.Outcome State Fault Refusal :=
  .next (s.byHost (STM_CAP_CFG_ARM.addr 0) (v ||| 0x80000000#32) fun s => s.writeCapCfg (v ||| 0x80000000#32))

/-- SNAPSHOT_TRIGGER (R347): A selected trigger arrives and is accepted, merged or missed according to the capture
state. -/
def execSnapshotTrigger (b : Fin 4) (s : State) : Host.Outcome State Fault Refusal :=
  .next (s.snapTrig b.val)

/-- SNAPSHOT_HOST_TRIGGER (R347): Host writes STM_CAP_CTL.TRIG, which triggers the IQ capture. -/
def execSnapshotHostTrigger (s : State) : Host.Outcome State Fault Refusal :=
  .next (s.byHost (STM_CAP_CTL.addr 0) 0x80000000#32 fun s => s.snapTrig 2)

/-- SNAPSHOT_FILL_COMPLETE (R346): The capture has N samples around the trigger and STATE becomes WRITING. -/
def execSnapshotFillComplete (s : State) : Host.Outcome State Fault Refusal :=
  .next (s.snapFill)

/-- SNAPSHOT_STORED (R346): The last snapshot unit is programmed; record 0x0901 is issued and STATE returns to
FILLING or IDLE. -/
def execSnapshotStored (s : State) : Host.Outcome State Fault Refusal :=
  .next (s.medium .snapshot)

end Sys2Proof.Machine
end

