-- ==== Sys2Proof/Machine/Supply.lean ====
section
/-! DEFINITION. Supplies and GPIO: what each command does, over the operations of the blocks. -/
namespace Sys2Proof.Machine
open Sys2Proof

/-- SUPPLY_UNDER_ALARM (R487): A rail crosses its under-alarm level for 1 µs, raising UNDER and starting the
power-fail flush. -/
def execSupplyUnderAlarm (r : Fin 7) (s : State) : Host.Outcome State Fault Refusal :=
  .next (s.supplyUnder r.val)

/-- SUPPLY_OVER_ALARM (R487): A rail crosses its over-alarm level for 1 µs and raises OVER of source 54. -/
def execSupplyOverAlarm (r : Fin 7) (s : State) : Host.Outcome State Fault Refusal :=
  .next (s.supplyOver r.val)

/-- SUPPLY_ALARM_CLEAR (R487): Every rail returns inside its alarm levels without reset and recording resumes as
after PFAIL_N rising. -/
def execSupplyAlarmClear (s : State) : Host.Outcome State Fault Refusal :=
  .next (s.supplyClear)

/-- GPIO_EDGE (R503): Two successive samples of a GPIO input differ and a rising or falling edge bit sets. -/
def execGpioEdge (m : Fin 16) (level : Bool) (s : State) : Host.Outcome State Fault Refusal :=
  .next (s.gpioEdge m.val level)

end Sys2Proof.Machine
end

