-- ==== Sys2Proof/Machine/Synthesiser.lean ====
section
/-! DEFINITION. The synthesisers: what each command does, over the operations of the blocks. -/
namespace Sys2Proof.Machine
open Sys2Proof

/-- SYN_GO_A (R211): Host writes SYN_CTL.GO_A; it is refused or starts the calibration sequence of CSYN_A. -/
def execSynGoA (s : State) : Host.Outcome State Fault Refusal :=
  .next (s.byHost (SYN_CTL_GO_A.addr 0) 1 fun s => s.synGo 0)

/-- SYN_GO_B (R211): Host writes SYN_CTL.GO_B; it is refused or starts the calibration sequence of CSYN_B. -/
def execSynGoB (s : State) : Host.Outcome State Fault Refusal :=
  .next (s.byHost (SYN_CTL_GO_B.addr 0) 2 fun s => s.synGo 1)

/-- SYN_CAL_COMPLETE (R212): The synthesiser calibration step ends and the state becomes LOCKING, or FAILED with ERR
3. -/
def execSynCalComplete (b : Bool) (ok : Bool) (s : State) : Host.Outcome State Fault Refusal :=
  .next (s.synCalDone b.toNat ok)

/-- SYN_LOCK (R212): The synthesiser locks and its converters start calibration, or it fails with ERR 4. -/
def execSynLock (b : Bool) (ok : Bool) (s : State) : Host.Outcome State Fault Refusal :=
  .next (s.synLock b.toNat ok)

/-- SYN_READY (R212): SETTLE after converter calibration the synthesiser reads READY, SYN_HOLD clears and pending
port commands proceed. -/
def execSynReady (b : Bool) (s : State) : Host.Outcome State Fault Refusal :=
  .next (s.synReady b.toNat)

/-- SYN_LOSS_OF_LOCK (R214): Loss of lock on a READY synthesiser disables its lanes, holds its ports and starts
recalibration attempts. -/
def execSynLossOfLock (b : Bool) (s : State) : Host.Outcome State Fault Refusal :=
  .next (s.synLost b.toNat)

end Sys2Proof.Machine
end

