-- ==== Sys2Proof/Machine/SystemCmd.lean ====
section
/-! DEFINITION. Device commands and states: what each command does, over the operations of the blocks. -/
namespace Sys2Proof.Machine
open Sys2Proof

/-- SYS_CMD_START (R10): Host writes the START command to SYS_CMD; it is rejected, held pending under R9, or starts
entry to PERFORMANCE. -/
def execSysCmdStart (s : State) : Host.Outcome State Fault Refusal :=
  .next (s.sysCmd cmdSTART)

/-- SYS_CMD_PAUSE (R10): Host writes the PAUSE command; from PERFORMANCE the Curtain falls on every port and INTERVAL
follows, otherwise the command is rejected and counted. -/
def execSysCmdPause (s : State) : Host.Outcome State Fault Refusal :=
  .next (s.sysCmd cmdPAUSE)

/-- SYS_CMD_RESUME (R10): Host writes the RESUME command; from INTERVAL it is held pending until R9 is met, otherwise
it is rejected. -/
def execSysCmdResume (s : State) : Host.Outcome State Fault Refusal :=
  .next (s.sysCmd cmdRESUME)

/-- SYS_CMD_STOP (R27): Host writes the STOP command; it cancels a pending START or RESUME, or returns PERFORMANCE or
INTERVAL to REHEARSAL. -/
def execSysCmdStop (s : State) : Host.Outcome State Fault Refusal :=
  .next (s.sysCmd cmdSTOP)

/-- SYS_CMD_RESERVED_CODE (R10): Host writes a SYS_CMD code from 0b101 to 0b111; it is rejected and SYS_REJ_CNT
increments. -/
def execSysCmdReservedCode (k : Fin 3) (s : State) : Host.Outcome State Fault Refusal :=
  .next (s.sysCmd (5 + k.val))

/-- DEFERRED_CMD_EVALUATION (R11): A SYS_CMD write that arrived during a transition is evaluated against the reached
state once IN_TRANSITION clears. -/
def execDeferredCmdEvaluation (s : State) : Host.Outcome State Fault Refusal :=
  .next (s.deferredEval)

/-- ENTER_PERFORMANCE (R9): A pending START or RESUME takes effect once every entry condition of R9 holds, with the
re-ramp of R12 when coming from INTERVAL. -/
def execEnterPerformance (s : State) : Host.Outcome State Fault Refusal :=
  .next (s.enterPerformance)

/-- PAUSE_COMPLETE (R28): The Curtain completes on every port after a PAUSE; DEV_STATE reads INTERVAL and
IN_TRANSITION clears. -/
def execPauseComplete (s : State) : Host.Outcome State Fault Refusal :=
  .next (s.pauseDone)

/-- STATE_PARITY (R466): A parity error in the device-state machine forces REHEARSAL, cancels any pending command and
raises source 0. -/
def execStateParity (s : State) : Host.Outcome State Fault Refusal :=
  .next (s.stateParity)

end Sys2Proof.Machine
end

