-- ==== Sys2Proof/Machine/TddCmd.lean ====
section
/-! DEFINITION. TDD patterns: what each command does, over the operations of the blocks. -/
namespace Sys2Proof.Machine
open Sys2Proof

/-- TDD_SWAP (R197): Host writes TDD_CTL.SWAP; the inactive bank is checked and the swap is pending or refused. -/
def execTddSwap (v : Word) (s : State) : Host.Outcome State Fault Refusal :=
  .next (s.byHost (TDD_CTL_SWAP.addr 0) (v ||| 0x80000000#32) fun s => s.writeTddCtl (v ||| 0x80000000#32))

/-- TDD_SWAP_APPLY (R197): A pending swap takes effect at the first interval of the named frame and may end a
GUARD_FAIL cause. -/
def execTddSwapApply (x : Fin 2) (s : State) : Host.Outcome State Fault Refusal :=
  .next (s.swapApply x.val)

/-- TDD_BANK_ECC_ERROR (R198): An uncorrectable error in a pattern bank raises BANK_ECC_UNCORR of source 10. -/
def execTddBankEccError (x : Fin 2) (s : State) : Host.Outcome State Fault Refusal :=
  .next (s.bankEcc x.val)

end Sys2Proof.Machine
end

