-- ==== Sys2Proof/Machine/TimeCmd.lean ====
section
/-! DEFINITION. The time reference: what each command does, over the operations of the blocks. -/
namespace Sys2Proof.Machine
open Sys2Proof

/-- TIME_SNAPSHOT (R169): Host writes TIME_CTL.SNAP, which copies TOD, the tick count and FRAME at one tick. -/
def execTimeSnapshot (s : State) : Host.Outcome State Fault Refusal :=
  .next (s.byHost (TIME_CTL_SNAP.addr 0) 1 fun s => s.timeSnap)

/-- KV_MEASUREMENT_DONE (R172): The oscillator slope measurement of two 100 ms holds completes and writes KV. -/
def execKvMeasurementDone (kv : BitVec 16) (s : State) : Host.Outcome State Fault Refusal :=
  .next (s.kvDone kv)

/-- TIME_DETECTOR_ENABLE (R174): Host writes TIME_DET_CFG_k.EN = 1; the detector checks run and the search starts or
is refused. -/
def execTimeDetectorEnable (k : Fin 4) (v : Word) (s : State) : Host.Outcome State Fault Refusal :=
  .next (s.byHost (TIME_DET_CFG_EN.addr k.val) (v ||| 0x80000000#32) fun s => s.writeDet k.val (v ||| 0x80000000#32))

/-- SYNC_DETECTION (R175): A detector finds the donor's synchronisation signals and measures the timebase against
donor-derived time. -/
def execSyncDetection (k : Fin 4) (pci : BitVec 10) (sinr : BitVec 8) (ph : Int) (fe : Int)
    (s : State) : Host.Outcome State Fault Refusal :=
  .next (s.syncDetect k.val pci.toNat sinr ph fe)

/-- TIME_LOCKED (R177): 10 consecutive seconds within the locked limits take the time state to LOCKED. -/
def execTimeLocked (s : State) : Host.Outcome State Fault Refusal :=
  .next (s.timeLocked)

/-- DETECTOR_LOST (R175): No matching detection for LOSS × 50 ms makes the detector LOST and may enter holdover. -/
def execDetectorLost (k : Fin 4) (s : State) : Host.Outcome State Fault Refusal :=
  .next (s.detLost k.val)

/-- HOLDOVER_EVALUATION (R191): Every 1 ms in holdover, E(t) is evaluated; beyond BUDGET the state becomes FREE and
timing invalid. -/
def execHoldoverEvaluation (s : State) : Host.Outcome State Fault Refusal :=
  .next (s.holdEval)

/-- CALENDAR_SET_GO (R181): Host writes TIME_CTL.SET_GO, which is refused on a non-reference device or pends until a
frame boundary. -/
def execCalendarSetGo (s : State) : Host.Outcome State Fault Refusal :=
  .next (s.byHost (TIME_CTL_SET_GO.addr 0) 0x80000000#32 fun s => s.calGo)

/-- CALENDAR_SET_APPLY (R181): At the first frame boundary at least 10 µs after the write, TOD is set and CAL_SET
sets. -/
def execCalendarSetApply (s : State) : Host.Outcome State Fault Refusal :=
  .next (s.calApply)

/-- REALIGN (R193): Host writes TIME_CTL.REALIGN on the reference, which slews its held Δ toward zero. -/
def execRealign (s : State) : Host.Outcome State Fault Refusal :=
  .next (s.byHost (TIME_CTL_REALIGN.addr 0) 4 fun s => s.realignGo)

/-- PPS_OUT_PULSE (R184): At each TOD second boundary less COMP, PPS_OUT rises for WIDTH × 10 µs unless gated. -/
def execPpsOutPulse (s : State) : Host.Outcome State Fault Refusal :=
  .next (s.ppsOut)

/-- PPS_IN_EDGE (R185): A rising PPS_IN edge is stamped, or serves the discipline loop in SOURCE mode. -/
def execPpsInEdge (fe : Int) (s : State) : Host.Outcome State Fault Refusal :=
  .next (s.ppsIn fe)

/-- TIME_MESSAGE_SEND (R188): Every 1 ms the reference sends a time message on its RING_DN arc. -/
def execTimeMessageSend (s : State) : Host.Outcome State Fault Refusal :=
  .next (s.timeSend)

/-- TIME_MESSAGE_RECEIVED (R188): A follower takes time from a time message arriving over its path, applying the
measured arc delay. -/
def execTimeMessageReceived (m : TimeMsg) (s : State) : Host.Outcome State Fault Refusal :=
  .next (s.timeMessage m)

/-- ARC_DELAY_MEASUREMENT (R188): Every 1 ms each arc's delay is measured in both directions with delay requests. -/
def execArcDelayMeasurement (s : State) : Host.Outcome State Fault Refusal :=
  .next (s.arcDelay)

/-- DELAY_REQUEST_RECEIVED (R188): A delay request frame arrives and is answered with a timestamped delay answer. -/
def execDelayRequestReceived (p : Bool) (t1 : Nat) (s : State) : Host.Outcome State Fault Refusal :=
  .next (s.delayRequest p.toNat t1)

/-- DELAY_ANSWER_RECEIVED (R188): A delay answer arrives and yields the one-way delay of the arc. -/
def execDelayAnswerReceived (p : Bool) (dn : Bool) (rtt : Nat) (turn : Nat) (corr : Int)
    (s : State) : Host.Outcome State Fault Refusal :=
  .next (s.delayAnswer p.toNat dn rtt turn corr)

/-- US_READY (R192): The understudy's detector has been DETECTED and the ring valid for 60 s, so US_READY sets. -/
def execUsReady (s : State) : Host.Outcome State Fault Refusal :=
  .next (s.usReady)

/-- UNDERSTUDY_TAKEOVER (R193): The vertex enters holdover or FREE and a ready understudy becomes reference, hitless
or by a step on an invalid ring. -/
def execUnderstudyTakeover (ph : Int) (s : State) : Host.Outcome State Fault Refusal :=
  .next (s.takeover ph)

/-- REFERENCE_RETURN (R193): The reference role returns to the vertex after 60 s of averaging with REVERT, or when
the understudy leaves valid timing. -/
def execReferenceReturn (s : State) : Host.Outcome State Fault Refusal :=
  .next (s.refReturn)

end Sys2Proof.Machine
end

