-- ==== Sys2Proof/Machine/TwoWire.lean ====
section
/-! DEFINITION. The two-wire target: what each command does, over the operations of the blocks. -/
namespace Sys2Proof.Machine
open Sys2Proof

/-- TWT_ADDRESS (R429): An address byte addresses the TWT port; it is acknowledged, or refused and wakes a sleeping
port. -/
def execTwtAddress (addr : BitVec 7) (read : Bool) (s : State) : Host.Outcome State Fault Refusal :=
  .next (s.twtAddress addr.toNat read)

/-- TWT_WRITE_BYTE (R426): A data byte written to TWT sets the pointer or is stored, refused or discarded at the
pointer. -/
def execTwtWriteByte (b : Byte) (stop : Bool) (s : State) : Host.Outcome State Fault Refusal :=
  .next (s.twtWrite b stop)

/-- TWT_READ_BYTE (R426): A byte is read from the window at the pointer, which advances. -/
def execTwtReadByte (stop : Bool) (parity : Bool) (s : State) : Host.Outcome State Fault Refusal :=
  .next (s.twtRead stop parity)

/-- TWT_REPEATED_START_AT_ACK (R430): A repeated START at an acknowledge discards the byte just moved and is counted.
-/
def execTwtRepeatedStartAtAck (s : State) : Host.Outcome State Fault Refusal :=
  .next (s.twtRestart)

/-- TWT_SCL_STUCK (R431): SCL held low for 35 ms inside a transaction abandons it and raises STUCK. -/
def execTwtSclStuck (s : State) : Host.Outcome State Fault Refusal :=
  .next (s.twtStuck)

/-- TWT_IDLE_SLEEP (R429): IDLE_S seconds without an addressed transaction put the TWT port to sleep. -/
def execTwtIdleSleep (s : State) : Host.Outcome State Fault Refusal :=
  .next (s.twtSleep)

/-- ALERT_RESPONSE (R428): A read of address 0x0C while an alert is pending transmits the port address and clears the
alert unless arbitration is lost. -/
def execAlertResponse (lost : Bool) (s : State) : Host.Outcome State Fault Refusal :=
  .next (s.alertRead lost)

/-- MAILBOX_IN_ACK (R427): Host writes TWT_CTL.IN_ACK, which clears IN_FULL. -/
def execMailboxInAck (s : State) : Host.Outcome State Fault Refusal :=
  .next (s.byHost (TWT_CTL_IN_ACK.addr 0) 0x20000000#32 fun s => s.inAck)

/-- MAILBOX_OUT_GO (R427): Host writes TWT_CTL.OUT_GO, which sets OUT_FULL and the OUT alert cause, or is refused. -/
def execMailboxOutGo (s : State) : Host.Outcome State Fault Refusal :=
  .next (s.byHost (TWT_CTL_OUT_GO.addr 0) 0x40000000#32 fun s => s.outGo)

/-- HOST_ALERT (R428): Host writes TWT_CTL.ALERT, which latches the host alert cause. -/
def execHostAlert (s : State) : Host.Outcome State Fault Refusal :=
  .next (s.byHost (TWT_CTL_ALERT.addr 0) 0x80000000#32 fun s => s.alert alertHOST)

end Sys2Proof.Machine
end

