-- ==== Sys2Proof/Machine/Dispatch.lean ====
section
/-! DEFINITION. The meaning of every command, one direct call each. -/
namespace Sys2Proof.Machine
open Sys2Proof

/-- The effect of a command on everything but the queue. -/
def exec (i : Instr) (s : State) : Host.Outcome State Fault Refusal :=
  match i with
  | .sysCmdStart => Sys2Proof.Machine.execSysCmdStart s
  | .sysCmdPause => Sys2Proof.Machine.execSysCmdPause s
  | .sysCmdResume => Sys2Proof.Machine.execSysCmdResume s
  | .sysCmdStop => Sys2Proof.Machine.execSysCmdStop s
  | .sysCmdReservedCode k => Sys2Proof.Machine.execSysCmdReservedCode k s
  | .deferredCmdEvaluation => Sys2Proof.Machine.execDeferredCmdEvaluation s
  | .enterPerformance => Sys2Proof.Machine.execEnterPerformance s
  | .pauseComplete => Sys2Proof.Machine.execPauseComplete s
  | .stateParity => Sys2Proof.Machine.execStateParity s
  | .convrxEnable m v => Sys2Proof.Machine.execConvrxEnable m v s
  | .convtxEnable m v => Sys2Proof.Machine.execConvtxEnable m v s
  | .converterDisable c v => Sys2Proof.Machine.execConverterDisable c v s
  | .convCalComplete c ok => Sys2Proof.Machine.execConvCalComplete c ok s
  | .ovrCntClr m => Sys2Proof.Machine.execOvrCntClr m s
  | .clipCntClr m => Sys2Proof.Machine.execClipCntClr m s
  | .bgcalCycleDone c ok => Sys2Proof.Machine.execBgcalCycleDone c ok s
  | .converterParityError c => Sys2Proof.Machine.execConverterParityError c s
  | .overRangeEpisodeStart m => Sys2Proof.Machine.execOverRangeEpisodeStart m s
  | .overRangeEpisodeEnd m => Sys2Proof.Machine.execOverRangeEpisodeEnd m s
  | .suspectMarkEnd n => Sys2Proof.Machine.execSuspectMarkEnd n s
  | .clippingEpisodeStart m => Sys2Proof.Machine.execClippingEpisodeStart m s
  | .clippingEpisodeEnd m => Sys2Proof.Machine.execClippingEpisodeEnd m s
  | .laneEnable n v => Sys2Proof.Machine.execLaneEnable n v s
  | .laneStart n => Sys2Proof.Machine.execLaneStart n s
  | .laneDisable n v => Sys2Proof.Machine.execLaneDisable n v s
  | .laneCfgShadowWrite n w v => Sys2Proof.Machine.execLaneCfgShadowWrite n w v s
  | .laneSample n ws chfEcc rsmEcc => Sys2Proof.Machine.execLaneSample n ws chfEcc rsmEcc s
  | .chfRomRead v ecc => Sys2Proof.Machine.execChfRomRead v ecc s
  | .chfRomUncorr idx => Sys2Proof.Machine.execChfRomUncorr idx s
  | .rsmFault n check phase tap => Sys2Proof.Machine.execRsmFault n check phase tap s
  | .rsmDelayWrite n v => Sys2Proof.Machine.execRsmDelayWrite n v s
  | .rsmDelayApply n => Sys2Proof.Machine.execRsmDelayApply n s
  | .pathEnable p v => Sys2Proof.Machine.execPathEnable p v s
  | .pathSubtractionStart p => Sys2Proof.Machine.execPathSubtractionStart p s
  | .pathDisable p v => Sys2Proof.Machine.execPathDisable p v s
  | .tapWrite t half v => Sys2Proof.Machine.execTapWrite t half v s
  | .tapCountSnapshot => Sys2Proof.Machine.execTapCountSnapshot s
  | .clusterPositionWrite v => Sys2Proof.Machine.execClusterPositionWrite v s
  | .cnxMarginWrite v => Sys2Proof.Machine.execCnxMarginWrite v s
  | .cnxCeilRiseWrite v => Sys2Proof.Machine.execCnxCeilRiseWrite v s
  | .searchGo v => Sys2Proof.Machine.execSearchGo v s
  | .searchStart => Sys2Proof.Machine.execSearchStart s
  | .searchComplete => Sys2Proof.Machine.execSearchComplete s
  | .oldClusterRetire p => Sys2Proof.Machine.execOldClusterRetire p s
  | .slnParityError => Sys2Proof.Machine.execSlnParityError s
  | .tapUpdate n ecc => Sys2Proof.Machine.execTapUpdate n ecc s
  | .estimateBlock n => Sys2Proof.Machine.execEstimateBlock n s
  | .probeIntegrationEnd p => Sys2Proof.Machine.execProbeIntegrationEnd p s
  | .tapMemoryUncorr k => Sys2Proof.Machine.execTapMemoryUncorr k s
  | .streamEnable k v => Sys2Proof.Machine.execStreamEnable k v s
  | .streamReservationResult k ok arc => Sys2Proof.Machine.execStreamReservationResult k ok arc s
  | .streamDisable k v => Sys2Proof.Machine.execStreamDisable k v s
  | .streamRxEnable k v => Sys2Proof.Machine.execStreamRxEnable k v s
  | .streamFrameReceived f => Sys2Proof.Machine.execStreamFrameReceived f s
  | .streamLost k => Sys2Proof.Machine.execStreamLost k s
  | .streamRestored k => Sys2Proof.Machine.execStreamRestored k s
  | .sptArm k v => Sys2Proof.Machine.execSptArm k v s
  | .measArm n v => Sys2Proof.Machine.execMeasArm n v s
  | .sptDisarm n v => Sys2Proof.Machine.execSptDisarm n v s
  | .decisionWindowClose n ecc => Sys2Proof.Machine.execDecisionWindowClose n ecc s
  | .contextStuck c => Sys2Proof.Machine.execContextStuck c s
  | .contextCtlWrite c idx v => Sys2Proof.Machine.execContextCtlWrite c idx v s
  | .contextSnapshotGo dn v => Sys2Proof.Machine.execContextSnapshotGo dn v s
  | .contextSnapshotDone dn => Sys2Proof.Machine.execContextSnapshotDone dn s
  | .contextMemoryUncorr rom c => Sys2Proof.Machine.execContextMemoryUncorr rom c s
  | .frameBoundary => Sys2Proof.Machine.execFrameBoundary s
  | .historyIntervalBoundary taken => Sys2Proof.Machine.execHistoryIntervalBoundary taken s
  | .oscillationGrowth n => Sys2Proof.Machine.execOscillationGrowth n s
  | .oscillationLine n => Sys2Proof.Machine.execOscillationLine n s
  | .overdriveDetected m => Sys2Proof.Machine.execOverdriveDetected m s
  | .emissionDetected m b => Sys2Proof.Machine.execEmissionDetected m b s
  | .remoteShutdown v => Sys2Proof.Machine.execRemoteShutdown v s
  | .remoteShutdownClear v => Sys2Proof.Machine.execRemoteShutdownClear v s
  | .curtainComplete ports => Sys2Proof.Machine.execCurtainComplete ports s
  | .portQuietPeriodEnd m b => Sys2Proof.Machine.execPortQuietPeriodEnd m b s
  | .liftStart m => Sys2Proof.Machine.execLiftStart m s
  | .liftComplete m => Sys2Proof.Machine.execLiftComplete m s
  | .curtainRelease v => Sys2Proof.Machine.execCurtainRelease v s
  | .clearLiftHistory v => Sys2Proof.Machine.execClearLiftHistory v s
  | .backoffEnd n => Sys2Proof.Machine.execBackoffEnd n s
  | .timeSnapshot => Sys2Proof.Machine.execTimeSnapshot s
  | .kvMeasurementDone kv => Sys2Proof.Machine.execKvMeasurementDone kv s
  | .timeDetectorEnable k v => Sys2Proof.Machine.execTimeDetectorEnable k v s
  | .syncDetection k pci sinr ph fe => Sys2Proof.Machine.execSyncDetection k pci sinr ph fe s
  | .timeLocked => Sys2Proof.Machine.execTimeLocked s
  | .detectorLost k => Sys2Proof.Machine.execDetectorLost k s
  | .holdoverEvaluation => Sys2Proof.Machine.execHoldoverEvaluation s
  | .calendarSetGo => Sys2Proof.Machine.execCalendarSetGo s
  | .calendarSetApply => Sys2Proof.Machine.execCalendarSetApply s
  | .realign => Sys2Proof.Machine.execRealign s
  | .ppsOutPulse => Sys2Proof.Machine.execPpsOutPulse s
  | .ppsInEdge fe => Sys2Proof.Machine.execPpsInEdge fe s
  | .timeMessageSend => Sys2Proof.Machine.execTimeMessageSend s
  | .timeMessageReceived m => Sys2Proof.Machine.execTimeMessageReceived m s
  | .arcDelayMeasurement => Sys2Proof.Machine.execArcDelayMeasurement s
  | .delayRequestReceived p t1 => Sys2Proof.Machine.execDelayRequestReceived p t1 s
  | .delayAnswerReceived p dn rtt turn corr => Sys2Proof.Machine.execDelayAnswerReceived p dn rtt turn corr s
  | .usReady => Sys2Proof.Machine.execUsReady s
  | .understudyTakeover ph => Sys2Proof.Machine.execUnderstudyTakeover ph s
  | .referenceReturn => Sys2Proof.Machine.execReferenceReturn s
  | .tddSwap v => Sys2Proof.Machine.execTddSwap v s
  | .tddSwapApply x => Sys2Proof.Machine.execTddSwapApply x s
  | .tddBankEccError x => Sys2Proof.Machine.execTddBankEccError x s
  | .portUseEnd m tx => Sys2Proof.Machine.execPortUseEnd m tx s
  | .refInFail => Sys2Proof.Machine.execRefInFail s
  | .refInRecovered => Sys2Proof.Machine.execRefInRecovered s
  | .portCmdOff m v => Sys2Proof.Machine.execPortCmdOff m v s
  | .portCmdRx m v => Sys2Proof.Machine.execPortCmdRx m v s
  | .portCmdTx m v => Sys2Proof.Machine.execPortCmdTx m v s
  | .turnRoundLineEvent m => Sys2Proof.Machine.execTurnRoundLineEvent m s
  | .turnRoundComplete m => Sys2Proof.Machine.execTurnRoundComplete m s
  | .paSettleExpiry m => Sys2Proof.Machine.execPaSettleExpiry m s
  | .synGoA => Sys2Proof.Machine.execSynGoA s
  | .synGoB => Sys2Proof.Machine.execSynGoB s
  | .synCalComplete b ok => Sys2Proof.Machine.execSynCalComplete b ok s
  | .synLock b ok => Sys2Proof.Machine.execSynLock b ok s
  | .synReady b => Sys2Proof.Machine.execSynReady b s
  | .synLossOfLock b => Sys2Proof.Machine.execSynLossOfLock b s
  | .txTimeoutTdd m => Sys2Proof.Machine.execTxTimeoutTdd m s
  | .presenceLossTimeout m => Sys2Proof.Machine.execPresenceLossTimeout m s
  | .attnGo x => Sys2Proof.Machine.execAttnGo x s
  | .attnShiftDone x => Sys2Proof.Machine.execAttnShiftDone x s
  | .attnLatch x => Sys2Proof.Machine.execAttnLatch x s
  | .coexReqInRise pri => Sys2Proof.Machine.execCoexReqInRise pri s
  | .coexGrantOut => Sys2Proof.Machine.execCoexGrantOut s
  | .coexReqInFall => Sys2Proof.Machine.execCoexReqInFall s
  | .coexMaxHoldExpiry => Sys2Proof.Machine.execCoexMaxHoldExpiry s
  | .coexReqOutRaise m => Sys2Proof.Machine.execCoexReqOutRaise m s
  | .coexGntInRise => Sys2Proof.Machine.execCoexGntInRise s
  | .coexGntInFall => Sys2Proof.Machine.execCoexGntInFall s
  | .rfcLineMismatch m parity => Sys2Proof.Machine.execRfcLineMismatch m parity s
  | .loopEnable l v => Sys2Proof.Machine.execLoopEnable l v s
  | .loopDisable l v => Sys2Proof.Machine.execLoopDisable l v s
  | .loopSampleBoundary l inTime ecc => Sys2Proof.Machine.execLoopSampleBoundary l inTime ecc s
  | .cue l v => Sys2Proof.Machine.execCue l v s
  | .cueGroup v => Sys2Proof.Machine.execCueGroup v s
  | .injectGo => Sys2Proof.Machine.execInjectGo s
  | .injectStop => Sys2Proof.Machine.execInjectStop s
  | .captureTrig => Sys2Proof.Machine.execCaptureTrig s
  | .captureArm v => Sys2Proof.Machine.execCaptureArm v s
  | .cteMemUncorr l => Sys2Proof.Machine.execCteMemUncorr l s
  | .cteCapUncorr idx => Sys2Proof.Machine.execCteCapUncorr idx s
  | .slackWindowEnd act => Sys2Proof.Machine.execSlackWindowEnd act s
  | .guardHoldoffEnd => Sys2Proof.Machine.execGuardHoldoffEnd s
  | .wingsWarning w x => Sys2Proof.Machine.execWingsWarning w x s
  | .wingsLoss ls => Sys2Proof.Machine.execWingsLoss ls s
  | .minClr => Sys2Proof.Machine.execMinClr s
  | .ledgerAudit upsets => Sys2Proof.Machine.execLedgerAudit upsets s
  | .ledgerSnapshotGo v => Sys2Proof.Machine.execLedgerSnapshotGo v s
  | .ledgerSnapshotDone => Sys2Proof.Machine.execLedgerSnapshotDone s
  | .ledgerClearGo v => Sys2Proof.Machine.execLedgerClearGo v s
  | .ledgerClearApply => Sys2Proof.Machine.execLedgerClearApply s
  | .migrationGo rerr rlat => Sys2Proof.Machine.execMigrationGo rerr rlat s
  | .migrationAbort => Sys2Proof.Machine.execMigrationAbort s
  | .migrationWarmStart => Sys2Proof.Machine.execMigrationWarmStart s
  | .migrationReady => Sys2Proof.Machine.execMigrationReady s
  | .migrationDeadline => Sys2Proof.Machine.execMigrationDeadline s
  | .migrationBoundary => Sys2Proof.Machine.execMigrationBoundary s
  | .migrationDone => Sys2Proof.Machine.execMigrationDone s
  | .faultEvent page b ports => Sys2Proof.Machine.execFaultEvent page b ports s
  | .faultEpochLatch => Sys2Proof.Machine.execFaultEpochLatch s
  | .forceCause page v => Sys2Proof.Machine.execForceCause page v s
  | .forceSource hi v => Sys2Proof.Machine.execForceSource hi v s
  | .sourceRecovery n => Sys2Proof.Machine.execSourceRecovery n s
  | .hostClear hi v => Sys2Proof.Machine.execHostClear hi v s
  | .firstFaultAck => Sys2Proof.Machine.execFirstFaultAck s
  | .severityWrite n v => Sys2Proof.Machine.execSeverityWrite n v s
  | .faultNPulseEnd => Sys2Proof.Machine.execFaultNPulseEnd s
  | .recordArrival page code sev payload => Sys2Proof.Machine.execRecordArrival page code sev payload s
  | .recordAdmittedAfterWait => Sys2Proof.Machine.execRecordAdmittedAfterWait s
  | .foldWindowExpiry => Sys2Proof.Machine.execFoldWindowExpiry s
  | .rateLimitWindowEnd => Sys2Proof.Machine.execRateLimitWindowEnd s
  | .pbCfgWrite v => Sys2Proof.Machine.execPbCfgWrite v s
  | .flushPeriodic => Sys2Proof.Machine.execFlushPeriodic s
  | .recordConfirmed seq => Sys2Proof.Machine.execRecordConfirmed seq s
  | .pfailAssert supply => Sys2Proof.Machine.execPfailAssert supply s
  | .vaultFlushComplete => Sys2Proof.Machine.execVaultFlushComplete s
  | .pfailDeassert => Sys2Proof.Machine.execPfailDeassert s
  | .vaultRestore => Sys2Proof.Machine.execVaultRestore s
  | .stagingUncorr seq => Sys2Proof.Machine.execStagingUncorr seq s
  | .vaultLineUncorr => Sys2Proof.Machine.execVaultLineUncorr s
  | .pbReadGo => Sys2Proof.Machine.execPbReadGo s
  | .pbReadDone => Sys2Proof.Machine.execPbReadDone s
  | .verifyGo => Sys2Proof.Machine.execVerifyGo s
  | .verifyStop => Sys2Proof.Machine.execVerifyStop s
  | .verifyDone k => Sys2Proof.Machine.execVerifyDone k s
  | .storageReady m => Sys2Proof.Machine.execStorageReady m s
  | .formatGo => Sys2Proof.Machine.execFormatGo s
  | .reshape => Sys2Proof.Machine.execReshape s
  | .formatDone bad => Sys2Proof.Machine.execFormatDone bad s
  | .codewordUncorrectable part unit copies => Sys2Proof.Machine.execCodewordUncorrectable part unit copies s
  | .blockRefresh why pslc mx mean => Sys2Proof.Machine.execBlockRefresh why pslc mx mean s
  | .blockRetire erase pslc ch ce lun block spare => Sys2Proof.Machine.execBlockRetire erase pslc ch ce lun block spare s
  | .scrubPassComplete => Sys2Proof.Machine.execScrubPassComplete s
  | .wearCheckpoint => Sys2Proof.Machine.execWearCheckpoint s
  | .ceBusyTimeout => Sys2Proof.Machine.execCeBusyTimeout s
  | .snapshotArm v => Sys2Proof.Machine.execSnapshotArm v s
  | .snapshotTrigger b => Sys2Proof.Machine.execSnapshotTrigger b s
  | .snapshotHostTrigger => Sys2Proof.Machine.execSnapshotHostTrigger s
  | .snapshotFillComplete => Sys2Proof.Machine.execSnapshotFillComplete s
  | .snapshotStored => Sys2Proof.Machine.execSnapshotStored s
  | .badAccess winB read off => Sys2Proof.Machine.execBadAccess winB read off s
  | .winbWrite => Sys2Proof.Machine.execWinbWrite s
  | .tunnelledRead dev off => Sys2Proof.Machine.execTunnelledRead dev off s
  | .tunnelTimeout => Sys2Proof.Machine.execTunnelTimeout s
  | .dmaDoorbell q v => Sys2Proof.Machine.execDmaDoorbell q v s
  | .descNop q d => Sys2Proof.Machine.execDescNop q d s
  | .descMemoryRead q d => Sys2Proof.Machine.execDescMemoryRead q d s
  | .descMediumRead q d => Sys2Proof.Machine.execDescMediumRead q d s
  | .descRegisterRead q d => Sys2Proof.Machine.execDescRegisterRead q d s
  | .descRegisterWrite q d ws => Sys2Proof.Machine.execDescRegisterWrite q d ws s
  | .descRefusedKind q d => Sys2Proof.Machine.execDescRefusedKind q d s
  | .descComplete q => Sys2Proof.Machine.execDescComplete q s
  | .descFetchError q => Sys2Proof.Machine.execDescFetchError q s
  | .cqHeadWrite q v => Sys2Proof.Machine.execCqHeadWrite q v s
  | .moderationTimeout q => Sys2Proof.Machine.execModerationTimeout q s
  | .queueEnable q v => Sys2Proof.Machine.execQueueEnable q v s
  | .queueDisable q v => Sys2Proof.Machine.execQueueDisable q v s
  | .queueDrained q => Sys2Proof.Machine.execQueueDrained q s
  | .queueReset q v => Sys2Proof.Machine.execQueueReset q v s
  | .d3hotEntry pmeEn => Sys2Proof.Machine.execD3hotEntry pmeEn s
  | .d0Return => Sys2Proof.Machine.execD0Return s
  | .sourceAssertion n => Sys2Proof.Machine.execSourceAssertion n s
  | .icClaim t fast => Sys2Proof.Machine.execIcClaim t fast s
  | .icComplete t fast n => Sys2Proof.Machine.execIcComplete t fast n s
  | .sourceConfigWrite n v => Sys2Proof.Machine.execSourceConfigWrite n v s
  | .countSnapshot v => Sys2Proof.Machine.execCountSnapshot v s
  | .wakeClear v => Sys2Proof.Machine.execWakeClear v s
  | .targetConfigWrite t v => Sys2Proof.Machine.execTargetConfigWrite t v s
  | .msixUnmask v => Sys2Proof.Machine.execMsixUnmask v s
  | .msixEnable => Sys2Proof.Machine.execMsixEnable s
  | .hostSleepEntry => Sys2Proof.Machine.execHostSleepEntry s
  | .hostSleepExit => Sys2Proof.Machine.execHostSleepExit s
  | .linkDown => Sys2Proof.Machine.execLinkDown s
  | .pcieErrorTlp corr => Sys2Proof.Machine.execPcieErrorTlp corr s
  | .icStateParity n => Sys2Proof.Machine.execIcStateParity n s
  | .bufParity q => Sys2Proof.Machine.execBufParity q s
  | .ringLaneLockLoss p l => Sys2Proof.Machine.execRingLaneLockLoss p l s
  | .ringTrainingDone p tx skew => Sys2Proof.Machine.execRingTrainingDone p tx skew s
  | .portRetrain p => Sys2Proof.Machine.execPortRetrain p s
  | .headerCrcFail p => Sys2Proof.Machine.execHeaderCrcFail p s
  | .frameCrcFail p vc => Sys2Proof.Machine.execFrameCrcFail p vc s
  | .registerWriteFrame p src seq b => Sys2Proof.Machine.execRegisterWriteFrame p src seq b s
  | .registerReadFrame p src seq off => Sys2Proof.Machine.execRegisterReadFrame p src seq off s
  | .readAnswerFrame p src off v => Sys2Proof.Machine.execReadAnswerFrame p src off v s
  | .ackFrame p src bulk seq line low st => Sys2Proof.Machine.execAckFrame p src bulk seq line low st s
  | .nakFrame p src bulk => Sys2Proof.Machine.execNakFrame p src bulk s
  | .statusFrame p src line low st => Sys2Proof.Machine.execStatusFrame p src line low st s
  | .statusFrameSend => Sys2Proof.Machine.execStatusFrameSend s
  | .replayTimeout dev bulk => Sys2Proof.Machine.execReplayTimeout dev bulk s
  | .tunnelWriteReleased dev => Sys2Proof.Machine.execTunnelWriteReleased dev s
  | .creditReturn p vc n => Sys2Proof.Machine.execCreditReturn p vc n s
  | .censusMarkerSend => Sys2Proof.Machine.execCensusMarkerSend s
  | .censusMarker p vc cs rCum b relayed => Sys2Proof.Machine.execCensusMarker p vc cs rCum b relayed s
  | .enumerationStart => Sys2Proof.Machine.execEnumerationStart s
  | .enumerationFrame p pos size seen => Sys2Proof.Machine.execEnumerationFrame p pos size seen s
  | .enumerationComplete found down => Sys2Proof.Machine.execEnumerationComplete found down s
  | .singleTimeout => Sys2Proof.Machine.execSingleTimeout s
  | .noVertexTimeout => Sys2Proof.Machine.execNoVertexTimeout s
  | .arcDown p => Sys2Proof.Machine.execArcDown p s
  | .breakNoticeFrame p arc => Sys2Proof.Machine.execBreakNoticeFrame p arc s
  | .split gone => Sys2Proof.Machine.execSplit gone s
  | .ringRestore host => Sys2Proof.Machine.execRingRestore host s
  | .routeCommandFrame p => Sys2Proof.Machine.execRouteCommandFrame p s
  | .ringResetGo all dev => Sys2Proof.Machine.execRingResetGo all dev s
  | .bulkRequestFrame p src seq q d => Sys2Proof.Machine.execBulkRequestFrame p src seq q d s
  | .bulkDataFrame p src seq q st info last ws => Sys2Proof.Machine.execBulkDataFrame p src seq q st info last ws s
  | .hkTimerTrigger => Sys2Proof.Machine.execHkTimerTrigger s
  | .hkPwmTrigger => Sys2Proof.Machine.execHkPwmTrigger s
  | .hkGo => Sys2Proof.Machine.execHkGo s
  | .hkScanStart => Sys2Proof.Machine.execHkScanStart s
  | .slowRoundRequest => Sys2Proof.Machine.execSlowRoundRequest s
  | .hkConversionEnd raw ok => Sys2Proof.Machine.execHkConversionEnd raw ok s
  | .thermalRestart => Sys2Proof.Machine.execThermalRestart s
  | .maxClr => Sys2Proof.Machine.execMaxClr s
  | .hkFault parity ch => Sys2Proof.Machine.execHkFault parity ch s
  | .pwmPeriodStart n => Sys2Proof.Machine.execPwmPeriodStart n s
  | .pwmDutyEdge n => Sys2Proof.Machine.execPwmDutyEdge n s
  | .pwmMismatch n parity => Sys2Proof.Machine.execPwmMismatch n parity s
  | .bdacStep => Sys2Proof.Machine.execBdacStep s
  | .twtAddress addr read => Sys2Proof.Machine.execTwtAddress addr read s
  | .twtWriteByte b stop => Sys2Proof.Machine.execTwtWriteByte b stop s
  | .twtReadByte stop parity => Sys2Proof.Machine.execTwtReadByte stop parity s
  | .twtRepeatedStartAtAck => Sys2Proof.Machine.execTwtRepeatedStartAtAck s
  | .twtSclStuck => Sys2Proof.Machine.execTwtSclStuck s
  | .twtIdleSleep => Sys2Proof.Machine.execTwtIdleSleep s
  | .alertResponse lost => Sys2Proof.Machine.execAlertResponse lost s
  | .mailboxInAck => Sys2Proof.Machine.execMailboxInAck s
  | .mailboxOutGo => Sys2Proof.Machine.execMailboxOutGo s
  | .hostAlert => Sys2Proof.Machine.execHostAlert s
  | .twcCommandGo q v => Sys2Proof.Machine.execTwcCommandGo q v s
  | .twcTransactionDone q res acked bs => Sys2Proof.Machine.execTwcTransactionDone q res acked bs s
  | .pollDue q e => Sys2Proof.Machine.execPollDue q e s
  | .regulatorRetry q => Sys2Proof.Machine.execRegulatorRetry q s
  | .twcAbort q => Sys2Proof.Machine.execTwcAbort q s
  | .twcClear q => Sys2Proof.Machine.execTwcClear q s
  | .busClearDone q ok => Sys2Proof.Machine.execBusClearDone q ok s
  | .powerOnReset kept => Sys2Proof.Machine.execPowerOnReset kept s
  | .pinReset => Sys2Proof.Machine.execPinReset s
  | .hostReset => Sys2Proof.Machine.execHostReset s
  | .bootResetHost v => Sys2Proof.Machine.execBootResetHost v s
  | .bootResetFabric v => Sys2Proof.Machine.execBootResetFabric v s
  | .ringResetFrame p => Sys2Proof.Machine.execRingResetFrame p s
  | .resetRelease => Sys2Proof.Machine.execResetRelease s
  | .startupPhase0Done id vtx twt hm ref nvq => Sys2Proof.Machine.execStartupPhase0Done id vtx twt hm ref nvq s
  | .smemDiscoveryDone resp sfdp hdrA hdrB => Sys2Proof.Machine.execSmemDiscoveryDone resp sfdp hdrA hdrB s
  | .imageCopyChecked blocks tag => Sys2Proof.Machine.execImageCopyChecked blocks tag s
  | .imageNop => Sys2Proof.Machine.execImageNop s
  | .imageWrite off vs => Sys2Proof.Machine.execImageWrite off vs s
  | .imageModify off mask v => Sys2Proof.Machine.execImageModify off mask v s
  | .imageWait off mask v timeout fatal => Sys2Proof.Machine.execImageWait off mask v timeout fatal s
  | .imageWaitTimeout => Sys2Proof.Machine.execImageWaitTimeout s
  | .imageDelay us => Sys2Proof.Machine.execImageDelay us s
  | .imageDelayEnd => Sys2Proof.Machine.execImageDelayEnd s
  | .imageSkip off mask v isNot count => Sys2Proof.Machine.execImageSkip off mask v isNot count s
  | .imageCalibrate => Sys2Proof.Machine.execImageCalibrate s
  | .imageEnd => Sys2Proof.Machine.execImageEnd s
  | .loadLimitExpiry => Sys2Proof.Machine.execLoadLimitExpiry s
  | .startupCalibration => Sys2Proof.Machine.execStartupCalibration s
  | .rehearsalEntry => Sys2Proof.Machine.execRehearsalEntry s
  | .backgroundCopyCheck blocks tag => Sys2Proof.Machine.execBackgroundCopyCheck blocks tag s
  | .otpProgram v => Sys2Proof.Machine.execOtpProgram v s
  | .otpProgramDone ok => Sys2Proof.Machine.execOtpProgramDone ok s
  | .smemCommandGo v => Sys2Proof.Machine.execSmemCommandGo v s
  | .smemCommandDone bs timeout => Sys2Proof.Machine.execSmemCommandDone bs timeout s
  | .pageIntClear page => Sys2Proof.Machine.execPageIntClear page s
  | .pageErrClear page => Sys2Proof.Machine.execPageErrClear page s
  | .supplyUnderAlarm r => Sys2Proof.Machine.execSupplyUnderAlarm r s
  | .supplyOverAlarm r => Sys2Proof.Machine.execSupplyOverAlarm r s
  | .supplyAlarmClear => Sys2Proof.Machine.execSupplyAlarmClear s
  | .gpioEdge m level => Sys2Proof.Machine.execGpioEdge m level s
  | .registerWrite dev off v => Sys2Proof.Machine.execRegisterWrite dev off v s
  | .linkUp speed width => Sys2Proof.Machine.execLinkUp speed width s
  | .portUseStart m => Sys2Proof.Machine.execPortUseStart m s
  | .standingSignalFall n k => Sys2Proof.Machine.execStandingSignalFall n k s
  | .deferredFaultNPulse => Sys2Proof.Machine.execDeferredFaultNPulse s

end Sys2Proof.Machine
end

