-- ==== Sys2Proof/Safety.lean ====
section
/-! DEFINITION. What counts as a safe run, and the terms in which the statements speak of what a command reaches. -/
namespace Sys2Proof
open Sys2Proof.Machine

/-- A step that neither faults nor refuses. -/
def Completes (o : Host.Outcome State Fault Refusal) : Prop := ∃ t, o = .next t

/-- The addressed memories are in canonical form: equal memories are equal data. -/
def MemoryCanonical (s : State) : Prop := Memory.wf s.mem = true

/-- The time of day is below 2^32 s, and its tick index below the ticks of one second (R169). -/
def TimeLegal (s : State) : Prop := s.time.idx < tps ∧ s.time.sec < 2 ^ 32

/-- A piece of the state beside the register fields, the addressed memories and the queue of commands. -/
inductive Part where
  | now | free | pins | sys | boot | fc | pb | cur | prot | lanes | conv | rfc | cnx | spt
  | time | tdd | cte | fab | stm | hif | ring | hk | thm | pwm | twt | twc | smem | marks
  deriving DecidableEq, Repr

/-- The piece holds the same in both states. -/
def Part.same : Part → State → State → Prop
  | .now, s, t => t.now = s.now
  | .free, s, t => t.free = s.free
  | .pins, s, t => t.pins = s.pins
  | .sys, s, t => t.sys = s.sys
  | .boot, s, t => t.boot = s.boot
  | .fc, s, t => t.fc = s.fc
  | .pb, s, t => t.pb = s.pb
  | .cur, s, t => t.cur = s.cur
  | .prot, s, t => t.prot = s.prot
  | .lanes, s, t => t.lanes = s.lanes
  | .conv, s, t => t.conv = s.conv
  | .rfc, s, t => t.rfc = s.rfc
  | .cnx, s, t => t.cnx = s.cnx
  | .spt, s, t => t.spt = s.spt
  | .time, s, t => t.time = s.time
  | .tdd, s, t => t.tdd = s.tdd
  | .cte, s, t => t.cte = s.cte
  | .fab, s, t => t.fab = s.fab
  | .stm, s, t => t.stm = s.stm
  | .hif, s, t => t.hif = s.hif
  | .ring, s, t => t.ring = s.ring
  | .hk, s, t => t.hk = s.hk
  | .thm, s, t => t.thm = s.thm
  | .pwm, s, t => t.pwm = s.pwm
  | .twt, s, t => t.twt = s.twt
  | .twc, s, t => t.twc = s.twc
  | .smem, s, t => t.smem = s.smem
  | .marks, s, t => t.marks = s.marks

/-- What lies outside `rs`, `ps` and `fs` is the same in both states: the queue, each piece that `ps` does not name, each
byte of the memories outside `rs`, and each register field that shares no place with a field of `fs`. -/
structure Confined (rs : List Region) (ps : List Part) (fs : List Fld) (s t : State) : Prop where
  pending : t.pending = s.pending
  parts : ∀ p : Part, p ∉ ps → p.same s t
  mem : ∀ x : Nat, (∀ r ∈ rs, r.has x = false) → t.ld8 x = s.ld8 x
  regs : ∀ (g : Fld) (j : Nat), (∀ f ∈ fs, ∀ i, f.has i = true → f.key i ≠ g.key j) → t.rd g j = s.rd g j

/-- A command changes nothing but the named memories, pieces and register fields. -/
def OnlyChanges (c : Instr) (rs : List Region) (ps : List Part) (fs : List Fld) : Prop :=
  ∀ s t : State, exec c s = .next t → Confined rs ps fs s t

/-! Shared field lists -/
/-- The register fields that a request for the Curtain, and the episode, records and alert it brings, may write (R150,
R151, R160, R204, R307). -/
def requestFlds : List Fld :=
  [PG_INT_STAT, PG_ERR, FC_FF_SEQ_HI, FC_FF_SEQ_LO, PB_DISP_CNT, PB_DROP_APRON, PB_DROP_STAGE, PB_WAIT_CNT, PB_DROP_FULL,
   PB_DROP_RL, RING_DROP_CNT, COEX_STAT_REQ_OUT, STM_CAP_STAT, CUR_CAUSE_LIFTING, CUR_STAT_LIFTING, STM_SNAP_MISS,
   CUR_CAUSE_LATCH, CUR_CAUSE_DONOR, CUR_CAUSE_EMISSION, CUR_CAUSE_HOST, CUR_CAUSE_NR, CUR_CAUSE_OSC, CUR_CAUSE_OTHER,
   CUR_CAUSE_OVERDRIVE, CUR_CAUSE_STATE, CUR_CAUSE_THERM, CUR_CAUSE_TXTO, TWT_STAT_ALERT, PROT_LANE_STAT_BACKOFF,
   CUR_STAT_DOWN, CUR_EPI_CNT]
/-- The register fields that handing a record to the recorder may write (R310, R312, R300). -/
def recordFlds : List Fld :=
  [PG_INT_STAT, PG_ERR, FC_FF_SEQ_HI, FC_FF_SEQ_LO, PB_DISP_CNT, PB_DROP_APRON, PB_DROP_STAGE, PB_WAIT_CNT, PB_DROP_FULL,
   PB_DROP_RL]
/-- The register fields that a disarmed lane of the spotlight or the measurement unit may write (R125). -/
def disarmFlds : List Fld :=
  [SPT_STUCK_ANY, SPT_STUCK_CTX, MEAS_LANE_STAT_LEARNING, MEAS_LANE_STAT_MEASURING, SPT_LANE_STAT_GATING,
   SPT_LANE_STAT_LEARNING, SPT_LANE_STAT_MEASURING, MEAS_LANE_STAT_ERR, MEAS_LOAD, SPT_LANE_STAT_ERR, SPT_LOAD,
   MEAS_LANE_STAT_ARMED, SPT_LANE_STAT_ARMED, MEAS_LANE_CFG_EN, SPT_LANE_CFG_EN]
/-- The register fields that the progress of a two-wire controller may write (R437, R440). -/
def portControllerFlds : List Fld :=
  [PG_INT_STAT, PG_ERR, TWC_CLEAR_CNT, TWC_POLL_RES_FAIL, TWC_REG_STAT_RESULT, TWC_CMD_STAT_BUSY, TWC_CMD_STAT_BYTES,
   TWC_CMD_STAT_RESULT, TWC_DATA, TWC_FAIL_CNT, TWC_REG_STAT_FAILS, TWC_STAT_BUSY, TWC_XFER_CNT]
/-- The register fields that a new gain ceiling may write (R101, R103). -/
def ceilingFlds : List Fld :=
  [CNX_ISO_FLOOR, CNX_ISO_ISO, CNX_ISO_RETAINED, CNX_XC, CNX_PATH_EST_ISO, CNX_PATH_EST_XC, LANE_GAIN_LIMIT,
   CNX_CEIL_CEIL, CNX_CEIL_RISING, CNX_CEIL_TARGET]
/-- The register fields that the sizes of the storage rings may write (R329, R331). -/
def ringBufferFlds : List Fld :=
  [STM_HIST_HEAD, STM_HIST_HOFS, STM_HIST_TAIL, STM_HIST_TOFS, STM_SNAP_HEAD, STM_SNAP_HOFS, STM_SNAP_TAIL, STM_SNAP_TOFS]
/-- The register fields that the end of a cause of the Curtain may write (R155, R157). -/
def clearCauseFlds : List Fld :=
  [CUR_CAUSE_LIFTING, CUR_STAT_LIFTING, CUR_CAUSE_LATCH, CUR_CAUSE_DONOR, CUR_CAUSE_EMISSION, CUR_CAUSE_HOST,
   CUR_CAUSE_NR, CUR_CAUSE_OSC, CUR_CAUSE_OTHER, CUR_CAUSE_OVERDRIVE, CUR_CAUSE_STATE, CUR_CAUSE_THERM, CUR_CAUSE_TXTO]
/-- The register fields that a synthesiser start may write (R212). -/
def synStartFlds : List Fld :=
  [COEX_STAT_REQ_OUT, RFC_PORT_STAT_STATE, COEX_STAT_PENDING, SYN_STAT_STATE_A, SYN_STAT_STATE_B, CONVRX_STAT_CAL_DONE,
   CONVTX_STAT_CAL_DONE, SYN_CAL_CNT_A, SYN_CAL_CNT_B]
/-- The register fields that a lane's new estimates may write (R102). -/
def isolationFlds : List Fld :=
  [CNX_ISO_FLOOR, CNX_ISO_ISO, CNX_ISO_RETAINED, CNX_XC]
/-- The register fields that a new state of a port may write (R203, R204). -/
def portStateFlds : List Fld :=
  [PG_INT_STAT, COEX_STAT_REQ_OUT, RFC_PORT_STAT_STATE, COEX_STAT_PENDING, RFC_PORT_STAT_BUSY, RFC_PORT_STAT_RESULT]
/-! End of the shared field lists -/
namespace Machine

/-- The book takes a record at once: it has power, is restored, folds nothing, waits for nothing, has room and owes
no audit (R310, R312, R313, R314, R316, R451). -/
def Recording (s : State) : Prop :=
  s.pb.pf = false ∧ s.pb.restored = true ∧ s.pb.openRec = none ∧ s.rd PB_CFG_COMPAT 0 = 0 ∧ s.pb.mainFull = false
    ∧ s.pb.waiting = [] ∧ s.pb.staging.length < 7168 ∧ (s.pb.mainCap = 0 ∨ s.pb.mainUsed + 1 < s.pb.mainCap)
    ∧ s.pb.auditDue = false

/-- The record with the next number, in its slot. -/
def State.issue (s : State) (r : Rec) (late : Bool) : Rec :=
  { r with seq := s.pb.next, late := late, area := .main, slot := s.pb.mainUsed, issued := s.now }

/-- A frame offered on the port and virtual channel goes out at once: the port is up, it holds a credit and nothing waits
before it (R385). -/
def Sends (s : State) (p v : Nat) : Prop :=
  s.rportUp p = true ∧ (s.vc p v).credits ≠ 0 ∧ (s.ring.queue.any fun g => g.port == p && g.vc == v) = false

end Machine
end Sys2Proof
end

