-- ==== Sys2Proof/Certificates/Slice0/Obligations.lean ====
section
/-! DEFINITION. The statements for the provers. Each `Complete` statement says of every command it names that it answers a
next state and what that state holds; each `Frame` statement says of every command it names what it may change at all. -/
open Sys2Proof Sys2Proof.Machine

/-- A step runs the command at the front of the queue on the device with the queue's rest. -/
def Obligations.StepRunsFrontCommand : Prop :=
  ∀ (c : Instr) (s : State) (rest : List Instr), s.pending = c :: rest → step s = exec c { s with pending := rest }

/-- On an empty queue one tick of the timebase passes: the model's choice (log entry 2). -/
def Obligations.IdleStepPassesATick : Prop :=
  ∀ s : State, s.pending = [] → ∃ t, step s = .next t ∧ t.now = s.now + 1 ∧ t.pending = [] ∧ t.regs = s.regs ∧ t.mem = s.mem

/-- The invariant of `StepKeepsInvariant` holds after reset, and nothing waits. -/
def Obligations.ResetInvariant : Prop :=
  MemoryCanonical State.reset ∧ TimeLegal State.reset ∧ State.reset.pending = []

/-- Whatever command waits, a step keeps the addressed memories in canonical form and the time of day legal (R169). -/
def Obligations.StepKeepsInvariant : Prop :=
  ∀ s t : State, MemoryCanonical s → TimeLegal s → step s = .next t → MemoryCanonical t ∧ TimeLegal t

/-- No command stops the device, and none touches the queue of commands that wait. -/
def Obligations.EveryCommandCompletes : Prop :=
  ∀ (c : Instr) (s : State), MemoryCanonical s → TimeLegal s → ∃ t, exec c s = .next t ∧ t.pending = s.pending

/-- A word stored inside a memory reads back, and every other byte of the memories reads as before. -/
def Obligations.StoreThenRead : Prop :=
  ∀ (s : State) (r : Region) (o : Nat) (w : Word), MemoryCanonical s → o + 4 ≤ r.size →
    (s.stIn r o w).ld (r.lo + o) = w ∧ MemoryCanonical (s.stIn r o w)
      ∧ ∀ x, (x < r.lo + o ∨ r.lo + o + 4 ≤ x) → (s.stIn r o w).ld8 x = s.ld8 x

/-- What the commands that store to the tap memory leave of it: a tap write changes at most the eight bytes of its tap, and
an uncorrectable error of a cluster at most the 256 bytes of the cluster (R86, R115). -/
def Obligations.TapStores : Prop :=
    (∀ (s t : State) (k : Fin 65536) (half : Bool) (v : Word), exec (.tapWrite k half v) s = .next t →
      ∀ x, (x < tapAddr k ∨ tapAddr k + 8 ≤ x) → t.ld8 x = s.ld8 x)
    ∧ (∀ (s t : State) (c : Fin 2048), exec (.tapMemoryUncorr c) s = .next t →
      ∀ x, (x < tapAddr (32 * c) ∨ tapAddr (32 * c) + 256 ≤ x) → t.ld8 x = s.ld8 x)

/-- R28: a PAUSE completes when the Curtain is complete on every port, and not before; from then DEV_STATE reads 0b11 and
IN_TRANSITION reads 0. -/
def Obligations.PauseCompletes : Prop :=
  ∀ s : State, s.devState = stPERFORMANCE → s.rd SYS_STATE_IN_TRANSITION 0 = 1 →
    ∃ t, exec .pauseComplete s = .next t
      ∧ ((∀ m < 8, s.down m = true) → t.rd SYS_STATE_DEV_STATE 0 = 3 ∧ t.rd SYS_STATE_IN_TRANSITION 0 = 0)
      ∧ (¬ (∀ m < 8, s.down m = true) → t.rd SYS_STATE_DEV_STATE 0 = s.rd SYS_STATE_DEV_STATE 0
          ∧ t.rd SYS_STATE_IN_TRANSITION 0 = 1)

/-- R27: a STOP in REHEARSAL is accepted and not counted as rejected; it cancels a pending START, and with none pending no
register, no port and no byte of memory changes. -/
def Obligations.StopInRehearsal : Prop :=
  ∀ s : State, s.sys.dark = false → s.devState = stREHEARSAL → s.rd SYS_STATE_IN_TRANSITION 0 = 0 → s.sys.deferred = [] →
    ∃ t, exec .sysCmdStop s = .next t ∧ t.rd SYS_REJ_CNT 0 = s.rd SYS_REJ_CNT 0 ∧ t.devState = stREHEARSAL
      ∧ t.rd SYS_STATE_PENDING 0 = 0
      ∧ (s.rd SYS_STATE_PENDING 0 = 0 → t.regs = s.regs ∧ t.mem = s.mem ∧ t.rfc = s.rfc ∧ t.cur = s.cur)

/-- R284: a write to FC_SEV_n leaves what has latched before it as it is: the status bits, what stands at every source, and
every cause of the Curtain. Source 4 is left out of the second clause: the write's own record may raise it (R316, R312). -/
def Obligations.SeverityLeavesLatched : Prop :=
  ∀ (s t : State) (n : Fin 64) (v : Word), exec (.severityWrite n v) s = .next t →
    (∀ k < 56, t.status k = s.status k) ∧ (∀ k, k ≠ 4 → t.fcSrc k = s.fcSrc k) ∧ t.cur = s.cur
      ∧ (∀ m < 8, ∀ b ≤ 10, t.cause m b = s.cause m b) ∧ ∀ m < 8, t.down m = s.down m

/-- What each command of these families leaves unchanged: system, converters and lanes. A clause names the memories, the
pieces of the state and the register fields the command may change; all else stays. -/
def Obligations.SignalPathFrame : Prop :=
    (OnlyChanges .sysCmdStart [] [.sys, .fc, .pb, .cur, .lanes, .conv, .rfc, .cnx, .stm, .ring, .twt]
      (requestFlds ++ ceilingFlds ++ [RFC_PORT_STAT_STATE, COEX_STAT_PENDING, RFC_PORT_STAT_BUSY,
      RFC_PORT_STAT_RESULT, SYS_STATE_PENDING, SYS_STATE_DEV_STATE, SYS_STATE_IN_TRANSITION, PROT_LANE_STAT_CAP,
      SYS_REJ_CNT]))
    ∧ (OnlyChanges .sysCmdPause [] [.sys, .fc, .pb, .cur, .lanes, .conv, .rfc, .cnx, .stm, .ring, .twt]
      (requestFlds ++ ceilingFlds ++ [RFC_PORT_STAT_STATE, COEX_STAT_PENDING, RFC_PORT_STAT_BUSY,
      RFC_PORT_STAT_RESULT, SYS_STATE_PENDING, SYS_STATE_DEV_STATE, SYS_STATE_IN_TRANSITION, PROT_LANE_STAT_CAP,
      SYS_REJ_CNT]))
    ∧ (OnlyChanges .sysCmdResume [] [.sys, .fc, .pb, .cur, .lanes, .conv, .rfc, .cnx, .stm, .ring, .twt]
      (requestFlds ++ ceilingFlds ++ [RFC_PORT_STAT_STATE, COEX_STAT_PENDING, RFC_PORT_STAT_BUSY,
      RFC_PORT_STAT_RESULT, SYS_STATE_PENDING, SYS_STATE_DEV_STATE, SYS_STATE_IN_TRANSITION, PROT_LANE_STAT_CAP,
      SYS_REJ_CNT]))
    ∧ (OnlyChanges .sysCmdStop [] [.sys, .fc, .pb, .cur, .lanes, .conv, .rfc, .cnx, .stm, .ring, .twt]
      (requestFlds ++ ceilingFlds ++ [RFC_PORT_STAT_STATE, COEX_STAT_PENDING, RFC_PORT_STAT_BUSY,
      RFC_PORT_STAT_RESULT, SYS_STATE_PENDING, SYS_STATE_DEV_STATE, SYS_STATE_IN_TRANSITION, PROT_LANE_STAT_CAP,
      SYS_REJ_CNT]))
    ∧ (∀ (a : Fin 3), OnlyChanges (.sysCmdReservedCode a) [] [.sys, .fc, .pb, .cur, .lanes, .conv, .rfc, .cnx, .stm,
      .ring, .twt]
      (requestFlds ++ ceilingFlds ++ [RFC_PORT_STAT_STATE, COEX_STAT_PENDING, RFC_PORT_STAT_BUSY,
      RFC_PORT_STAT_RESULT, SYS_STATE_PENDING, SYS_STATE_DEV_STATE, SYS_STATE_IN_TRANSITION, PROT_LANE_STAT_CAP,
      SYS_REJ_CNT]))
    ∧ (OnlyChanges .enterPerformance [] [.fc, .cur, .lanes, .conv, .rfc, .cnx, .twt]
      (ceilingFlds ++ clearCauseFlds ++ portStateFlds ++ [TWT_STAT_ALERT, PROT_LANE_STAT_BACKOFF, SYS_STATE_PENDING,
      SYS_STATE_DEV_STATE, PROT_LANE_STAT_CAP]))
    ∧ (OnlyChanges .pauseComplete [] [.fc, .cur, .conv, .rfc, .twt]
      (portStateFlds ++ [TWT_STAT_ALERT, SYS_STATE_DEV_STATE, SYS_STATE_IN_TRANSITION]))
    ∧ (OnlyChanges .stateParity [] [.fc, .pb, .cur, .lanes, .conv, .rfc, .stm, .ring, .twt]
      (requestFlds ++ [RFC_PORT_STAT_STATE, COEX_STAT_PENDING, RFC_PORT_STAT_BUSY, RFC_PORT_STAT_RESULT,
      SYS_STATE_PENDING, SYS_STATE_DEV_STATE, SYS_STATE_IN_TRANSITION]))
    ∧ (∀ (a : Fin 8) (b : Word), OnlyChanges (.convrxEnable a b) [.taps] [.now, .sys, .fc, .pb, .cur, .prot, .lanes,
      .conv, .rfc, .cnx, .spt, .time, .tdd, .fab, .stm, .ring, .twt]
      (requestFlds ++ disarmFlds ++ isolationFlds ++ [RFC_PORT_STAT_STATE, TIME_OSC, COEX_STAT_PENDING,
      TIME_STAT_SRC_ACT, TIME_HOLD_STAT_E, TIME_HOLD_STAT_T, TIME_STAT_STATE, TIME_STAT_VALID, RFC_PORT_STAT_BUSY,
      RFC_PORT_STAT_RESULT, LANE_LAT, CNX_STX_CFG_EN, LANE_STAT_SUSPECT, PROT_LANE_STAT_PRESENT, CNX_STX_STAT_ACTIVE,
      TIME_STAT_NO_SRC, RSM_STAT, TIME_DET_STAT_STATE, TIME_STAT_SERVING, TIME_STAT_US_READY, CNX_PATH_STAT_ISO_VALID,
      LANE_CFG_EN, LANE_STAT_ACTIVE, CNX_LOAD, TIME_DET_CFG_EN, CNX_PATH_CFG_EN, CNX_PATH_STAT_ACTIVE, SLN_STAT_BUSY,
      LEDG_MIG_STAT_BUSY, LEDG_MIG_STAT_PHASE, LANE_GAIN_CLAMPED, LEDG_MIG_CNT_ABORTED, LEDG_MIG_CNT_DONE,
      CONVTX_CLIP_CNT, CONVRX_OVR_CNT, CONVRX_CFG_EN, CONVTX_CFG_EN, CONVRX_CFG_BGCAL_EN, CONVRX_CFG_SIDE,
      CONVTX_CFG_BACKOFF, CONVTX_CFG_BGCAL_EN, CONVTX_CFG_MODE, CONVTX_CFG_SIDE, CONVTX_CFG_SINC_EQ]))
    ∧ (∀ (a : Fin 8) (b : Word), OnlyChanges (.convtxEnable a b) [.taps] [.now, .sys, .fc, .pb, .cur, .prot, .lanes,
      .conv, .rfc, .cnx, .spt, .time, .tdd, .fab, .stm, .ring, .twt]
      (requestFlds ++ disarmFlds ++ isolationFlds ++ [RFC_PORT_STAT_STATE, TIME_OSC, COEX_STAT_PENDING,
      TIME_STAT_SRC_ACT, TIME_HOLD_STAT_E, TIME_HOLD_STAT_T, TIME_STAT_STATE, TIME_STAT_VALID, RFC_PORT_STAT_BUSY,
      RFC_PORT_STAT_RESULT, LANE_LAT, CNX_STX_CFG_EN, LANE_STAT_SUSPECT, PROT_LANE_STAT_PRESENT, CNX_STX_STAT_ACTIVE,
      TIME_STAT_NO_SRC, RSM_STAT, TIME_DET_STAT_STATE, TIME_STAT_SERVING, TIME_STAT_US_READY, CNX_PATH_STAT_ISO_VALID,
      LANE_CFG_EN, LANE_STAT_ACTIVE, CNX_LOAD, TIME_DET_CFG_EN, CNX_PATH_CFG_EN, CNX_PATH_STAT_ACTIVE, SLN_STAT_BUSY,
      LEDG_MIG_STAT_BUSY, LEDG_MIG_STAT_PHASE, LANE_GAIN_CLAMPED, LEDG_MIG_CNT_ABORTED, LEDG_MIG_CNT_DONE,
      CONVTX_CLIP_CNT, CONVRX_OVR_CNT, CONVRX_CFG_EN, CONVTX_CFG_EN, CONVRX_CFG_BGCAL_EN, CONVRX_CFG_SIDE,
      CONVTX_CFG_BACKOFF, CONVTX_CFG_BGCAL_EN, CONVTX_CFG_MODE, CONVTX_CFG_SIDE, CONVTX_CFG_SINC_EQ]))
    ∧ (∀ (a : Fin 16) (b : Word), OnlyChanges (.converterDisable a b) [.taps] [.now, .sys, .fc, .pb, .cur, .prot,
      .lanes, .conv, .rfc, .cnx, .spt, .time, .tdd, .fab, .stm, .ring, .twt]
      (requestFlds ++ disarmFlds ++ isolationFlds ++ [RFC_PORT_STAT_STATE, TIME_OSC, COEX_STAT_PENDING,
      TIME_STAT_SRC_ACT, TIME_HOLD_STAT_E, TIME_HOLD_STAT_T, TIME_STAT_STATE, TIME_STAT_VALID, RFC_PORT_STAT_BUSY,
      RFC_PORT_STAT_RESULT, LANE_LAT, CNX_STX_CFG_EN, LANE_STAT_SUSPECT, PROT_LANE_STAT_PRESENT, CNX_STX_STAT_ACTIVE,
      TIME_STAT_NO_SRC, RSM_STAT, TIME_DET_STAT_STATE, TIME_STAT_SERVING, TIME_STAT_US_READY, CNX_PATH_STAT_ISO_VALID,
      LANE_CFG_EN, LANE_STAT_ACTIVE, CNX_LOAD, TIME_DET_CFG_EN, CNX_PATH_CFG_EN, CNX_PATH_STAT_ACTIVE, SLN_STAT_BUSY,
      LEDG_MIG_STAT_BUSY, LEDG_MIG_STAT_PHASE, LANE_GAIN_CLAMPED, LEDG_MIG_CNT_ABORTED, LEDG_MIG_CNT_DONE,
      CONVTX_CLIP_CNT, CONVRX_OVR_CNT, CONVRX_CFG_EN, CONVTX_CFG_EN, CONVRX_CFG_BGCAL_EN, CONVRX_CFG_SIDE,
      CONVTX_CFG_BACKOFF, CONVTX_CFG_BGCAL_EN, CONVTX_CFG_MODE, CONVTX_CFG_SIDE, CONVTX_CFG_SINC_EQ]))
    ∧ (∀ (a : Fin 16) (b : Bool), OnlyChanges (.convCalComplete a b) [] [.fc, .cur, .conv, .rfc]
      (portStateFlds ++ [PG_ERR, CONVRX_STAT_CAL_DONE, CONVTX_STAT_CAL_DONE, CONVRX_STAT_CAL_FAIL,
      CONVTX_STAT_CAL_FAIL]))
    ∧ (∀ (a : Fin 8), OnlyChanges (.ovrCntClr a) [] []
      [CONVTX_CLIP_CNT, CONVRX_OVR_CNT])
    ∧ (∀ (a : Fin 8), OnlyChanges (.clipCntClr a) [] []
      [CONVTX_CLIP_CNT, CONVRX_OVR_CNT])
    ∧ (∀ (a : Fin 16) (b : Bool), OnlyChanges (.bgcalCycleDone a b) [] [.fc, .conv]
      [PG_INT_STAT, PG_ERR, CONVRX_STAT_CAL_FAIL, CONVTX_STAT_CAL_FAIL, CONVRX_BGCAL_CYCLES, CONVTX_BGCAL_CYCLES])
    ∧ (∀ (a : Fin 16), OnlyChanges (.converterParityError a) [] [.fc, .conv]
      [PG_INT_STAT, PG_ERR])
    ∧ (∀ (a : Fin 8), OnlyChanges (.overRangeEpisodeStart a) [] [.lanes]
      [PG_INT_STAT, LANE_STAT_SUSPECT, LANE_STAT_SUSPECT_STICKY, CONVRX_OVR_CNT, CONVRX_STAT_OVR_NOW,
      CONVRX_STAT_OVR_STICKY])
    ∧ (∀ (a : Fin 8), OnlyChanges (.overRangeEpisodeEnd a) [] [.lanes]
      [CONVRX_STAT_OVR_NOW])
    ∧ (∀ (a : Fin 32), OnlyChanges (.suspectMarkEnd a) [] [.now, .lanes, .time]
      [LANE_STAT_SUSPECT])
    ∧ (∀ (a : Fin 8), OnlyChanges (.clippingEpisodeStart a) [] [.conv]
      [PG_INT_STAT, CONVTX_CLIP_CNT, CONVTX_STAT_CLIP_NOW, CONVTX_STAT_CLIP_STICKY])
    ∧ (∀ (a : Fin 8), OnlyChanges (.clippingEpisodeEnd a) [] [.now, .time]
      [CONVTX_STAT_CLIP_NOW])
    ∧ (∀ (a : Fin 32) (b : Word), OnlyChanges (.laneEnable a b) [.taps] [.now, .sys, .fc, .pb, .cur, .prot, .lanes,
      .rfc, .cnx, .spt, .time, .tdd, .fab, .stm, .ring, .twt]
      (requestFlds ++ disarmFlds ++ isolationFlds ++ [TIME_OSC, TIME_STAT_SRC_ACT, TIME_HOLD_STAT_E, TIME_HOLD_STAT_T,
      TIME_STAT_STATE, TIME_STAT_VALID, LANE_LAT, CNX_STX_CFG_EN, LANE_STAT_SUSPECT, PROT_LANE_STAT_PRESENT,
      CNX_STX_STAT_ACTIVE, TIME_STAT_NO_SRC, RSM_STAT, TIME_DET_STAT_STATE, TIME_STAT_SERVING, TIME_STAT_US_READY,
      CNX_PATH_STAT_ISO_VALID, LANE_CFG_EN, LANE_STAT_ACTIVE, CNX_LOAD, TIME_DET_CFG_EN, CNX_PATH_CFG_EN,
      CNX_PATH_STAT_ACTIVE, SLN_STAT_BUSY, LEDG_MIG_STAT_BUSY, LEDG_MIG_STAT_PHASE, LANE_GAIN_CLAMPED,
      LEDG_MIG_CNT_ABORTED, LEDG_MIG_CNT_DONE, MEAS_LANE_STAT_ACTIVE_NOW, SPT_LANE_STAT_OPEN_NOW,
      LANE_STAT_SUSPECT_STICKY, LANE_GAIN_APPLIED, LANE_SAT_CNT, LANE_STAT_ERR_CODE, LANE_DEC_D, LANE_DEC_I,
      RSM_RATIO_HI, RSM_RATIO_LO, LANE_CFG_RATE, LANE_CFG_RX_PORT, LANE_CFG_TDD, LANE_CFG_TX_EN, LANE_CFG_TX_PORT]))
    ∧ (∀ (a : Fin 32), OnlyChanges (.laneStart a) [] [.now, .lanes, .spt, .time, .marks]
      [])
    ∧ (∀ (a : Fin 32) (b : Word), OnlyChanges (.laneDisable a b) [.taps] [.now, .sys, .fc, .pb, .cur, .prot, .lanes,
      .rfc, .cnx, .spt, .time, .tdd, .fab, .stm, .ring, .twt]
      (requestFlds ++ disarmFlds ++ isolationFlds ++ [TIME_OSC, TIME_STAT_SRC_ACT, TIME_HOLD_STAT_E, TIME_HOLD_STAT_T,
      TIME_STAT_STATE, TIME_STAT_VALID, LANE_LAT, CNX_STX_CFG_EN, LANE_STAT_SUSPECT, PROT_LANE_STAT_PRESENT,
      CNX_STX_STAT_ACTIVE, TIME_STAT_NO_SRC, RSM_STAT, TIME_DET_STAT_STATE, TIME_STAT_SERVING, TIME_STAT_US_READY,
      CNX_PATH_STAT_ISO_VALID, LANE_CFG_EN, LANE_STAT_ACTIVE, CNX_LOAD, TIME_DET_CFG_EN, CNX_PATH_CFG_EN,
      CNX_PATH_STAT_ACTIVE, SLN_STAT_BUSY, LEDG_MIG_STAT_BUSY, LEDG_MIG_STAT_PHASE, LANE_GAIN_CLAMPED,
      LEDG_MIG_CNT_ABORTED, LEDG_MIG_CNT_DONE, MEAS_LANE_STAT_ACTIVE_NOW, SPT_LANE_STAT_OPEN_NOW,
      LANE_STAT_SUSPECT_STICKY, LANE_GAIN_APPLIED, LANE_SAT_CNT, LANE_STAT_ERR_CODE, LANE_DEC_D, LANE_DEC_I,
      RSM_RATIO_HI, RSM_RATIO_LO, LANE_CFG_RATE, LANE_CFG_RX_PORT, LANE_CFG_TDD, LANE_CFG_TX_EN, LANE_CFG_TX_PORT]))
    ∧ (∀ (a : Fin 32) (b : LaneWord) (c : Word), OnlyChanges (.laneCfgShadowWrite a b c) [.taps] [.now, .sys, .fc,
      .pb, .cur, .prot, .lanes, .rfc, .cnx, .spt, .time, .tdd, .fab, .stm, .ring, .twt]
      (requestFlds ++ disarmFlds ++ isolationFlds ++ [TIME_OSC, TIME_STAT_SRC_ACT, TIME_HOLD_STAT_E, TIME_HOLD_STAT_T,
      TIME_STAT_STATE, TIME_STAT_VALID, LANE_LAT, CNX_STX_CFG_EN, LANE_STAT_SUSPECT, PROT_LANE_STAT_PRESENT,
      CNX_STX_STAT_ACTIVE, TIME_STAT_NO_SRC, RSM_STAT, TIME_DET_STAT_STATE, TIME_STAT_SERVING, TIME_STAT_US_READY,
      CNX_PATH_STAT_ISO_VALID, LANE_CFG_EN, LANE_STAT_ACTIVE, CNX_LOAD, TIME_DET_CFG_EN, CNX_PATH_CFG_EN,
      CNX_PATH_STAT_ACTIVE, SLN_STAT_BUSY, LEDG_MIG_STAT_BUSY, LEDG_MIG_STAT_PHASE, LANE_GAIN_CLAMPED,
      LEDG_MIG_CNT_ABORTED, LEDG_MIG_CNT_DONE, MEAS_LANE_STAT_ACTIVE_NOW, SPT_LANE_STAT_OPEN_NOW,
      LANE_STAT_SUSPECT_STICKY, LANE_GAIN_APPLIED, LANE_SAT_CNT, LANE_STAT_ERR_CODE, LANE_DEC_D, LANE_DEC_I,
      RSM_RATIO_HI, RSM_RATIO_LO, LANE_CFG_RATE, LANE_CFG_RX_PORT, LANE_CFG_TDD, LANE_CFG_TX_EN, LANE_CFG_TX_PORT,
      CHF_SEL, LANE_RX_FTW_HI, LANE_RX_FTW_LO, LANE_RX_PHASE, LANE_TX_FTW_HI, LANE_TX_FTW_LO, LANE_TX_PHASE]))
    ∧ (∀ (a : Fin 32) (b : List (BitVec 14)) (c : Nat) (d : Nat), OnlyChanges (.laneSample a b c d) [.laneCap] [.now,
      .lanes, .conv, .cnx, .spt, .time, .cte, .fab, .ring, .marks]
      [PG_INT_STAT, RING_DROP_CNT, LANE_GAIN_CLAMPED, PROT_LANE_STAT_CAP, LANE_GAIN_APPLIED, LANE_SAT_CNT,
      CONVTX_CLIP_CNT, CONVTX_STAT_CLIP_NOW, CONVTX_STAT_CLIP_STICKY, PROT_EM_LIM_PWR, CHF_ECC_CNT, CNX_STX_SAT_CNT,
      LANE_STAT_SAT_STICKY, RSM_ECC_CNT])
    ∧ (∀ (a : Word) (b : Bool), OnlyChanges (.chfRomRead a b) [] [.sys]
      [CHF_ROM_PTR_INDEX, CHF_ROM_PTR_TAP, CHF_ECC_CNT])
    ∧ (∀ (a : Fin 512), OnlyChanges (.chfRomUncorr a) [] [.fc]
      [PG_INT_STAT, PG_ERR, CHF_UNC_INDEX, CHF_UNC_VALID])
    ∧ (∀ (a : Fin 32) (b : Bool) (c : Fin 1024) (d : Fin 16), OnlyChanges (.rsmFault a b c d) [] [.fc]
      [PG_INT_STAT, PG_ERR, RSM_UNC_CHECK, RSM_UNC_LANE, RSM_UNC_PHASE, RSM_UNC_TAP, RSM_UNC_VALID])
    ∧ (∀ (a : Fin 32) (b : Word), OnlyChanges (.rsmDelayWrite a b) [] [.sys, .fc, .lanes, .tdd]
      [PG_INT_STAT, PG_ERR, RSM_STAT, RSM_DELAY])
    ∧ (∀ (a : Fin 32), OnlyChanges (.rsmDelayApply a) [] [.now, .lanes, .time]
      [LANE_LAT, RSM_STAT])

/-- What each command of these families leaves unchanged: canceller and spotlight. A clause names the memories, the
pieces of the state and the register fields the command may change; all else stays. -/
def Obligations.CancellerFrame : Prop :=
    (∀ (a : Fin 128) (b : Word), OnlyChanges (.pathEnable a b) [.taps] [.sys, .fc, .pb, .cnx, .stm]
      (recordFlds ++ isolationFlds ++ [CNX_PATH_STAT_ISO_VALID, CNX_LOAD, CNX_PATH_EST_ISO, CNX_PATH_EST_XC,
      CNX_PATH_CFG_EN, CNX_PATH_STAT_ACTIVE, SLN_STAT_BUSY, CNX_PATH_STAT_EST_RESET, CNX_PATH_STAT_FLOOR,
      CNX_PATH_STAT_ERR, CNX_PATH_CFG_SRC, CNX_PATH_CFG_AUTO, CNX_PATH_CFG_DENSE, CNX_PATH_CFG_FREEZE,
      CNX_PATH_CFG_PROBE_ADAPT, CNX_PATH_CFG_REMOTE, CNX_PATH_CFG_SPARE, CNX_PATH_CFG_SPARSE, CNX_PATH_CFG_STEP,
      CNX_PATH_CFG_UPD]))
    ∧ (∀ (a : Fin 128), OnlyChanges (.pathSubtractionStart a) [] [.now, .cnx, .time]
      [])
    ∧ (∀ (a : Fin 128) (b : Word), OnlyChanges (.pathDisable a b) [.taps] [.sys, .fc, .pb, .cnx, .stm]
      (recordFlds ++ isolationFlds ++ [CNX_PATH_STAT_ISO_VALID, CNX_LOAD, CNX_PATH_EST_ISO, CNX_PATH_EST_XC,
      CNX_PATH_CFG_EN, CNX_PATH_STAT_ACTIVE, SLN_STAT_BUSY, CNX_PATH_STAT_EST_RESET, CNX_PATH_STAT_FLOOR,
      CNX_PATH_STAT_ERR, CNX_PATH_CFG_SRC, CNX_PATH_CFG_AUTO, CNX_PATH_CFG_DENSE, CNX_PATH_CFG_FREEZE,
      CNX_PATH_CFG_PROBE_ADAPT, CNX_PATH_CFG_REMOTE, CNX_PATH_CFG_SPARE, CNX_PATH_CFG_SPARSE, CNX_PATH_CFG_STEP,
      CNX_PATH_CFG_UPD]))
    ∧ (∀ (a : Fin 65536) (b : Bool) (c : Word), OnlyChanges (.tapWrite a b c) [.taps] [.sys]
      [CNX_TAPWR_CNT])
    ∧ (OnlyChanges .tapCountSnapshot [] [.sys]
      [CNX_TAP_ALLOC, CNX_TAP_FREE])
    ∧ (∀ (a : Word), OnlyChanges (.clusterPositionWrite a) [.taps] [.sys, .cnx]
      [PG_ERR])
    ∧ (∀ (a : Word), OnlyChanges (.cnxMarginWrite a) [] [.sys]
      [PG_INT_STAT, PG_ERR, CNX_MARGIN])
    ∧ (∀ (a : Word), OnlyChanges (.cnxCeilRiseWrite a) [] [.sys]
      [PG_INT_STAT, PG_ERR, CNX_CEIL_RISE])
    ∧ (∀ (a : Word), OnlyChanges (.searchGo a) [] [.sys, .cnx]
      [PG_INT_STAT, SLN_CTL_HOLD, SLN_CTL_PATH])
    ∧ (OnlyChanges .searchStart [] [.cnx]
      [SLN_STAT_BUSY, SLN_STAT_CUR_PATH])
    ∧ (OnlyChanges .searchComplete [.taps] [.now, .cnx, .time]
      [PG_INT_STAT, SLN_STAT_BUSY, SLN_STAT_SEARCH_CNT])
    ∧ (∀ (a : Fin 128), OnlyChanges (.oldClusterRetire a) [.taps] [.cnx]
      [])
    ∧ (OnlyChanges .slnParityError [] [.fc]
      [PG_INT_STAT, PG_ERR])
    ∧ (∀ (a : Fin 32) (b : Nat), OnlyChanges (.tapUpdate a b) [.taps] [.now, .cnx, .time, .marks]
      [CNX_ECC_CNT])
    ∧ (∀ (a : Fin 32), OnlyChanges (.estimateBlock a) [.taps] [.now, .fc, .lanes, .cnx, .time, .marks]
      (ceilingFlds ++ [PG_INT_STAT, PG_ERR, CNX_PATH_STAT_EST_RESET, CNX_DIV_CNT]))
    ∧ (∀ (a : Fin 128), OnlyChanges (.probeIntegrationEnd a) [] [.cnx]
      [PG_INT_STAT, CNX_PATH_STAT_ISO_VALID, CNX_PATH_STAT_FLOOR])
    ∧ (∀ (a : Fin 2048), OnlyChanges (.tapMemoryUncorr a) [.taps] [.fc, .cnx]
      [PG_INT_STAT, PG_ERR, CNX_PATH_EST_ISO, CNX_PATH_EST_XC, CNX_PATH_STAT_EST_RESET])
    ∧ (∀ (a : Fin 8) (b : Word), OnlyChanges (.streamEnable a b) [] [.sys, .cnx, .ring]
      [PG_ERR, RING_DROP_CNT, CNX_STX_CFG_EN, CNX_STX_STAT_ACTIVE, CNX_STX_STAT_ARC, CNX_STX_STAT_ERR,
      CNX_STX_CFG_DIR, CNX_STX_CFG_HOPS, CNX_STX_CFG_LANE, CNX_STX_CFG_SHIFT])
    ∧ (∀ (a : Fin 8) (b : Bool) (c : Fin 4), OnlyChanges (.streamReservationResult a b c) [] [.cnx]
      [PG_ERR, CNX_STX_CFG_EN, CNX_STX_STAT_ACTIVE, CNX_STX_STAT_ARC, CNX_STX_STAT_ERR])
    ∧ (∀ (a : Fin 8) (b : Word), OnlyChanges (.streamDisable a b) [] [.sys, .cnx, .ring]
      [PG_ERR, RING_DROP_CNT, CNX_STX_CFG_EN, CNX_STX_STAT_ACTIVE, CNX_STX_STAT_ARC, CNX_STX_STAT_ERR,
      CNX_STX_CFG_DIR, CNX_STX_CFG_HOPS, CNX_STX_CFG_LANE, CNX_STX_CFG_SHIFT])
    ∧ (∀ (a : Fin 8) (b : Word), OnlyChanges (.streamRxEnable a b) [] [.sys, .cnx]
      [CNX_SRX_STAT_ACTIVE, CNX_SRX_STAT_LOST, CNX_SRX_STAT_CURTAIN, CNX_SRX_CFG_EN, CNX_SRX_CFG_SRC_DEV,
      CNX_SRX_CFG_SRC_SLOT])
    ∧ (∀ (a : StreamFrame), OnlyChanges (.streamFrameReceived a) [] [.cnx, .ring]
      [RING_DROP_CNT, CNX_SRX_STAT_ACTIVE, CNX_SRX_STAT_CURTAIN, CNX_SRX_STAT_LAT])
    ∧ (∀ (a : Fin 8), OnlyChanges (.streamLost a) [] [.now, .fc, .cnx, .time]
      (ceilingFlds ++ [PG_INT_STAT, PG_ERR, CNX_SRX_STAT_ACTIVE, CNX_SRX_STAT_LOST, CNX_SRX_LOST_CNT]))
    ∧ (∀ (a : Fin 8), OnlyChanges (.streamRestored a) [] [.fc, .cnx]
      [PG_INT_STAT, CNX_SRX_STAT_ACTIVE, CNX_SRX_STAT_LOST])
    ∧ (∀ (a : Fin 16) (b : Word), OnlyChanges (.sptArm a b) [] [.sys, .spt]
      (disarmFlds ++ [PG_INT_STAT, PG_ERR, LANE_LAT, MEAS_LANE_STAT_ACTIVE_NOW, SPT_LANE_STAT_OPEN_NOW,
      SPT_LANE_CFG_GATE, MEAS_LANE_CFG_FIRST, MEAS_LANE_CFG_RES, SPT_LANE_CFG_FIRST, SPT_LANE_CFG_RES]))
    ∧ (∀ (a : Fin 16) (b : Word), OnlyChanges (.measArm a b) [] [.sys, .spt]
      (disarmFlds ++ [PG_INT_STAT, PG_ERR, LANE_LAT, MEAS_LANE_STAT_ACTIVE_NOW, SPT_LANE_STAT_OPEN_NOW,
      SPT_LANE_CFG_GATE, MEAS_LANE_CFG_FIRST, MEAS_LANE_CFG_RES, SPT_LANE_CFG_FIRST, SPT_LANE_CFG_RES]))
    ∧ (∀ (a : Fin 32) (b : Word), OnlyChanges (.sptDisarm a b) [] [.sys, .spt]
      (disarmFlds ++ [PG_INT_STAT, PG_ERR, LANE_LAT, MEAS_LANE_STAT_ACTIVE_NOW, SPT_LANE_STAT_OPEN_NOW,
      SPT_LANE_CFG_GATE, MEAS_LANE_CFG_FIRST, MEAS_LANE_CFG_RES, SPT_LANE_CFG_FIRST, SPT_LANE_CFG_RES]))
    ∧ (∀ (a : Fin 32) (b : Nat), OnlyChanges (.decisionWindowClose a b) [] [.now, .prot, .spt, .time]
      (disarmFlds ++ [PG_INT_STAT, MEAS_LANE_STAT_ACTIVE_NOW, SPT_LANE_STAT_OPEN_NOW, MEAS_LANE_PWR_FLR,
      MEAS_LANE_PWR_PWR, MEAS_ECC_CNT, SPT_ECC_CNT]))
    ∧ (∀ (a : Fin 32768), OnlyChanges (.contextStuck a) [] [.now, .spt, .time]
      [PG_INT_STAT, SPT_STUCK_ANY, SPT_STUCK_CTX])
    ∧ (∀ (a : Fin 32768) (b : Fin 16) (c : Word), OnlyChanges (.contextCtlWrite a b c) [] [.sys, .spt]
      [PG_INT_STAT, MEAS_CTXWR_CNT, SPT_CTXWR_CNT])
    ∧ (∀ (a : Bool) (b : Word), OnlyChanges (.contextSnapshotGo a b) [] [.sys, .spt]
      [MEAS_SNAP_DATA, MEAS_SNAP_DONE, SPT_SNAP_DATA, SPT_SNAP_DONE, MEAS_SNAP_CTX, SPT_SNAP_CTX])
    ∧ (∀ (a : Bool), OnlyChanges (.contextSnapshotDone a) [] [.spt]
      [MEAS_SNAP_DATA, MEAS_SNAP_DONE, SPT_SNAP_DATA, SPT_SNAP_DONE])
    ∧ (∀ (a : Bool) (b : Fin 32768), OnlyChanges (.contextMemoryUncorr a b) [] [.fc, .spt]
      [PG_INT_STAT, PG_ERR, SPT_STUCK_ANY, SPT_STUCK_CTX])

/-- What each command of these families leaves unchanged: radio sequencing, TDD, synthesisers and coexistence. A clause
names the memories, the pieces of the state and the register fields the command may change; all else stays. -/
def Obligations.RadioFrame : Prop :=
    (OnlyChanges .frameBoundary [] [.now, .fc, .pb, .cur, .prot, .lanes, .rfc, .spt, .time, .stm, .ring, .twt,
      .marks]
      (requestFlds ++ [PROT_LANE_STAT_PRESENT, PROT_LANE_NR_DN, PROT_LANE_NR_NC_AVG, SPT_LANE_NC_NC,
      SPT_LANE_NC_UNC]))
    ∧ (∀ (a : Fin 8) (b : Bool), OnlyChanges (.portUseEnd a b) [] [.now, .cur, .rfc, .time]
      [COEX_STAT_REQ_OUT, RFC_PORT_STAT_STATE, COEX_STAT_PENDING])
    ∧ (OnlyChanges .refInFail [] [.fc, .pb, .cur, .lanes, .time, .stm, .ring, .twt]
      (requestFlds ++ [TIME_OSC, TIME_STAT_SRC_ACT, TIME_HOLD_STAT_E, TIME_HOLD_STAT_T, TIME_STAT_STATE,
      TIME_STAT_VALID, TIME_STAT_DEGRADED]))
    ∧ (OnlyChanges .refInRecovered [.taps] [.now, .fc, .pb, .cur, .prot, .lanes, .conv, .rfc, .cnx, .spt, .time, .tdd,
      .fab, .stm, .ring, .twt]
      (requestFlds ++ disarmFlds ++ isolationFlds ++ [RFC_PORT_STAT_STATE, TIME_OSC, COEX_STAT_PENDING,
      TIME_STAT_SRC_ACT, TIME_HOLD_STAT_E, TIME_HOLD_STAT_T, TIME_STAT_STATE, TIME_STAT_VALID, RFC_PORT_STAT_BUSY,
      RFC_PORT_STAT_RESULT, LANE_LAT, CNX_STX_CFG_EN, LANE_STAT_SUSPECT, PROT_LANE_STAT_PRESENT, CNX_STX_STAT_ACTIVE,
      TIME_STAT_NO_SRC, RSM_STAT, TIME_DET_STAT_STATE, TIME_STAT_SERVING, TIME_STAT_US_READY, CNX_PATH_STAT_ISO_VALID,
      LANE_CFG_EN, LANE_STAT_ACTIVE, CNX_LOAD, TIME_DET_CFG_EN, CNX_PATH_CFG_EN, CNX_PATH_STAT_ACTIVE, SLN_STAT_BUSY,
      LEDG_MIG_STAT_BUSY, LEDG_MIG_STAT_PHASE, LANE_GAIN_CLAMPED, LEDG_MIG_CNT_ABORTED, LEDG_MIG_CNT_DONE,
      SYN_STAT_STATE_A, SYN_STAT_STATE_B, CONVRX_STAT_CAL_DONE, CONVTX_STAT_CAL_DONE, SYN_CAL_CNT_A, SYN_CAL_CNT_B,
      SYN_STAT_ERR_A, SYN_STAT_ERR_B, TIME_STAT_DEGRADED]))
    ∧ (∀ (a : Fin 8) (b : Word), OnlyChanges (.portCmdOff a b) [] [.sys, .fc, .cur, .conv, .rfc]
      (portStateFlds ++ [PG_ERR, RFC_PORT_CFG_COEX, RFC_PORT_CFG_FDD_POS, RFC_PORT_CFG_PROBE_EN, RFC_PORT_CFG_RX_PROT,
      RFC_PORT_CFG_TARGET]))
    ∧ (∀ (a : Fin 8) (b : Word), OnlyChanges (.portCmdRx a b) [] [.sys, .fc, .cur, .conv, .rfc]
      (portStateFlds ++ [PG_ERR, RFC_PORT_CFG_COEX, RFC_PORT_CFG_FDD_POS, RFC_PORT_CFG_PROBE_EN, RFC_PORT_CFG_RX_PROT,
      RFC_PORT_CFG_TARGET]))
    ∧ (∀ (a : Fin 8) (b : Word), OnlyChanges (.portCmdTx a b) [] [.sys, .fc, .cur, .conv, .rfc]
      (portStateFlds ++ [PG_ERR, RFC_PORT_CFG_COEX, RFC_PORT_CFG_FDD_POS, RFC_PORT_CFG_PROBE_EN, RFC_PORT_CFG_RX_PROT,
      RFC_PORT_CFG_TARGET]))
    ∧ (∀ (a : Fin 8), OnlyChanges (.turnRoundLineEvent a) [] [.now, .rfc, .time]
      [COEX_STAT_REQ_OUT])
    ∧ (∀ (a : Fin 8), OnlyChanges (.turnRoundComplete a) [] [.now, .fc, .cur, .conv, .rfc, .time]
      portStateFlds)
    ∧ (∀ (a : Fin 8), OnlyChanges (.paSettleExpiry a) [] [.now, .fc, .cur, .rfc, .time]
      [PG_INT_STAT, RFC_PORT_STAT_STATE, RFC_PORT_STAT_BUSY, RFC_PORT_STAT_RESULT])
    ∧ (∀ (a : Fin 8), OnlyChanges (.txTimeoutTdd a) [] [.now, .fc, .pb, .cur, .lanes, .rfc, .time, .stm, .ring, .twt]
      (requestFlds ++ [RFC_PORT_TXTO_CNT]))
    ∧ (∀ (a : Fin 8), OnlyChanges (.presenceLossTimeout a) [] [.now, .fc, .pb, .cur, .lanes, .rfc, .time, .stm, .ring,
      .twt]
      (requestFlds ++ [RFC_PORT_TXTO_CNT]))
    ∧ (∀ (a : Fin 2), OnlyChanges (.attnGo a) [] [.sys, .rfc]
      [PG_ERR, ATTN_STAT_BUSY, ATTN_STAT_PENDING])
    ∧ (∀ (a : Fin 2), OnlyChanges (.attnShiftDone a) [] [.now, .rfc, .time]
      [ATTN_STAT_BUSY, ATTN_STAT_PENDING, ATTN_STAT_SENT])
    ∧ (∀ (a : Fin 2), OnlyChanges (.attnLatch a) [] [.now, .rfc, .time]
      [ATTN_STAT_BUSY, ATTN_STAT_PENDING, ATTN_STAT_SENT])
    ∧ (∀ (a : Fin 8) (b : Bool), OnlyChanges (.rfcLineMismatch a b) [] [.fc, .rfc]
      [PG_INT_STAT, PG_ERR])
    ∧ (∀ (a : Fin 8), OnlyChanges (.portUseStart a) [] [.now, .cur, .rfc, .time]
      [PG_INT_STAT, COEX_STAT_REQ_OUT, COEX_DENY_CNT])
    ∧ (∀ (a : Word), OnlyChanges (.tddSwap a) [] [.sys, .tdd]
      [PG_INT_STAT, PG_ERR, TDD_STAT_PENDING, TDD_STAT_CANCELLED, TDD_CTL_FRAME, TDD_CTL_PAT, TDD_STAT_ERR])
    ∧ (∀ (a : Fin 2), OnlyChanges (.tddSwapApply a) [] [.now, .fc, .time, .tdd]
      [PG_INT_STAT, TDD_STAT_PENDING, TDD_STAT_ACT_BANK, TDD_STAT_LOADED])
    ∧ (∀ (a : Fin 2), OnlyChanges (.tddBankEccError a) [] [.fc, .tdd]
      [PG_INT_STAT, PG_ERR])
    ∧ (OnlyChanges .synGoA [] [.sys, .cur, .conv, .rfc, .spt]
      (disarmFlds ++ synStartFlds ++ [PG_ERR, SYN_STAT_ERR_A, SYN_STAT_ERR_B]))
    ∧ (OnlyChanges .synGoB [] [.sys, .cur, .conv, .rfc, .spt]
      (disarmFlds ++ synStartFlds ++ [PG_ERR, SYN_STAT_ERR_A, SYN_STAT_ERR_B]))
    ∧ (∀ (a : Bool) (b : Bool), OnlyChanges (.synCalComplete a b) [] [.fc, .cur, .conv, .rfc]
      (synStartFlds ++ [PG_INT_STAT, PG_ERR, RFC_PORT_STAT_BUSY, RFC_PORT_STAT_RESULT, SYN_STAT_ERR_A,
      SYN_STAT_ERR_B]))
    ∧ (∀ (a : Bool) (b : Bool), OnlyChanges (.synLock a b) [] [.fc, .cur, .conv, .rfc]
      (synStartFlds ++ [PG_INT_STAT, PG_ERR, RFC_PORT_STAT_BUSY, RFC_PORT_STAT_RESULT, SYN_STAT_ERR_A,
      SYN_STAT_ERR_B]))
    ∧ (∀ (a : Bool), OnlyChanges (.synReady a) [] [.now, .fc, .pb, .cur, .lanes, .conv, .rfc, .spt, .time, .tdd, .fab,
      .stm, .ring, .thm, .twt]
      (requestFlds ++ [RFC_PORT_STAT_STATE, TIME_OSC, COEX_STAT_PENDING, TIME_STAT_SRC_ACT, TIME_HOLD_STAT_E,
      TIME_HOLD_STAT_T, TIME_STAT_STATE, TIME_STAT_VALID, SPT_STUCK_ANY, SPT_STUCK_CTX, MEAS_LANE_STAT_LEARNING,
      MEAS_LANE_STAT_MEASURING, SPT_LANE_STAT_GATING, SPT_LANE_STAT_LEARNING, SPT_LANE_STAT_MEASURING,
      RFC_PORT_STAT_BUSY, RFC_PORT_STAT_RESULT, LANE_LAT, LANE_STAT_SUSPECT, PROT_LANE_STAT_PRESENT, TIME_STAT_NO_SRC,
      RSM_STAT, TIME_DET_STAT_STATE, TIME_STAT_SERVING, TIME_STAT_US_READY, LANE_CFG_EN, LANE_STAT_ACTIVE,
      TIME_DET_CFG_EN, MEAS_LANE_STAT_ACTIVE_NOW, SPT_LANE_STAT_OPEN_NOW, SYN_STAT_STATE_A, SYN_STAT_STATE_B,
      LANE_STAT_SUSPECT_STICKY, LANE_GAIN_APPLIED, LANE_SAT_CNT, LANE_STAT_ERR_CODE, LANE_DEC_D, LANE_DEC_I,
      RSM_RATIO_HI, RSM_RATIO_LO, THM_STAT_SHUT]))
    ∧ (∀ (a : Bool), OnlyChanges (.synLossOfLock a) [.taps] [.now, .fc, .pb, .cur, .prot, .lanes, .conv, .rfc, .cnx,
      .spt, .time, .tdd, .fab, .stm, .ring, .twt]
      (requestFlds ++ disarmFlds ++ isolationFlds ++ [RFC_PORT_STAT_STATE, TIME_OSC, COEX_STAT_PENDING,
      TIME_STAT_SRC_ACT, TIME_HOLD_STAT_E, TIME_HOLD_STAT_T, TIME_STAT_STATE, TIME_STAT_VALID, RFC_PORT_STAT_BUSY,
      RFC_PORT_STAT_RESULT, LANE_LAT, CNX_STX_CFG_EN, LANE_STAT_SUSPECT, PROT_LANE_STAT_PRESENT, CNX_STX_STAT_ACTIVE,
      TIME_STAT_NO_SRC, RSM_STAT, TIME_DET_STAT_STATE, TIME_STAT_SERVING, TIME_STAT_US_READY, CNX_PATH_STAT_ISO_VALID,
      LANE_CFG_EN, LANE_STAT_ACTIVE, CNX_LOAD, TIME_DET_CFG_EN, CNX_PATH_CFG_EN, CNX_PATH_STAT_ACTIVE, SLN_STAT_BUSY,
      LEDG_MIG_STAT_BUSY, LEDG_MIG_STAT_PHASE, LANE_GAIN_CLAMPED, LEDG_MIG_CNT_ABORTED, LEDG_MIG_CNT_DONE,
      SYN_STAT_STATE_A, SYN_STAT_STATE_B, CONVRX_STAT_CAL_DONE, CONVTX_STAT_CAL_DONE, SYN_CAL_CNT_A, SYN_CAL_CNT_B,
      SYN_STAT_ERR_A, SYN_STAT_ERR_B, SYN_LOL_CNT_A, SYN_LOL_CNT_B]))
    ∧ (∀ (a : Bool), OnlyChanges (.coexReqInRise a) [] [.pins, .cur, .rfc]
      [COEX_STAT_PENDING, COEX_DENY_CNT])
    ∧ (OnlyChanges .coexGrantOut [] [.rfc]
      [COEX_STAT_GNT_OUT, COEX_GRANT_CNT])
    ∧ (OnlyChanges .coexReqInFall [] [.pins, .rfc]
      [COEX_STAT_PENDING, COEX_STAT_GNT_OUT])
    ∧ (OnlyChanges .coexMaxHoldExpiry [] [.now, .fc, .rfc, .time]
      [PG_INT_STAT, PG_ERR, COEX_STAT_GNT_OUT, COEX_WDRAW_CNT])
    ∧ (∀ (a : Fin 8), OnlyChanges (.coexReqOutRaise a) [] [.now, .rfc, .time]
      [PG_INT_STAT, COEX_STAT_REQ_OUT, COEX_DENY_CNT])
    ∧ (OnlyChanges .coexGntInRise [] [.pins, .rfc]
      [])
    ∧ (OnlyChanges .coexGntInFall [] [.pins, .cur, .rfc]
      [PG_INT_STAT, COEX_WDRAW_CNT])

/-- What each command of these families leaves unchanged: storage manager and prompt book. A clause names the memories,
the pieces of the state and the register fields the command may change; all else stays. -/
def Obligations.StorageFrame : Prop :=
    (∀ (a : Fin 3), OnlyChanges (.historyIntervalBoundary a) [] [.now, .fc, .pb, .spt, .time, .stm, .hif, .ring,
      .marks]
      (recordFlds ++ ringBufferFlds ++ [RING_DROP_CNT, STM_CAP_STAT, PB_RD_STAT_DONE, STM_REFRESH_CNT, STM_SCRUB_AGE,
      STM_WEAR_N_MAX, STM_WEAR_N_MEAN, STM_WEAR_S_MAX, STM_WEAR_S_MEAN, PB_RD_DATA, PB_RD_STAT_OPEN, PB_RD_STAT_WHERE,
      STM_RD_DIST_CNT, STM_SCRUB_STAT_PASSES, STM_SCRUB_STAT_PROGRESS, STM_HIST_DROP]))
    ∧ (∀ (a : Machine.MediumInfo), OnlyChanges (.storageReady a) [] [.fc, .pb, .stm]
      (recordFlds ++ ringBufferFlds ++ [STM_WEAR_N_MAX, STM_WEAR_N_MEAN, STM_WEAR_S_MAX, STM_WEAR_S_MEAN, STM_PART_H,
      STM_PART_S, STM_SPARE, STM_STAT_SPARE_LOW, STM_PART_P16, STM_STAT_MEDIUM, STM_STAT_MIRROR, STM_STAT_SINGLE,
      STM_GEOM_BPC, STM_GEOM_CE_MASK, STM_GEOM_LUNS, STM_GEOM_PAGE, STM_GEOM_RAW, STM_IF_MTS, STM_STAT_READY,
      STM_STAT_USABLE]))
    ∧ (OnlyChanges .formatGo [] [.sys, .stm]
      [PG_ERR, STM_FMT_STAT_BUSY, STM_FMT_STAT_DONE, STM_FMT_STAT_ERR])
    ∧ (OnlyChanges .reshape [] [.sys, .stm]
      [PG_ERR, STM_FMT_STAT_BUSY, STM_FMT_STAT_DONE, STM_FMT_STAT_ERR])
    ∧ (∀ (a : Nat), OnlyChanges (.formatDone a) [] [.fc, .pb, .stm]
      (recordFlds ++ ringBufferFlds ++ [STM_FMT_STAT_BUSY, STM_FMT_STAT_DONE, STM_PART_H, STM_PART_S, STM_PART_P16,
      STM_STAT_MEDIUM, STM_STAT_MIRROR]))
    ∧ (∀ (a : Fin 5) (b : Nat) (c : List (List (BitVec 36608))), OnlyChanges (.codewordUncorrectable a b c) [] [.fc,
      .pb, .stm]
      (recordFlds ++ [STM_REFRESH_CNT, STM_ECC_UNC, STM_UNC_PART, STM_UNC_UNIT, STM_ECC_CORR, STM_ECC_SOFT]))
    ∧ (∀ (a : Machine.Refresh) (b : Bool) (c : Nat) (d : Nat), OnlyChanges (.blockRefresh a b c d) [] [.fc, .pb, .stm,
      .hif, .ring]
      (recordFlds ++ ringBufferFlds ++ [RING_DROP_CNT, STM_CAP_STAT, PB_RD_STAT_DONE, STM_REFRESH_CNT, STM_SCRUB_AGE,
      STM_WEAR_N_MAX, STM_WEAR_N_MEAN, STM_WEAR_S_MAX, STM_WEAR_S_MEAN, PB_RD_DATA, PB_RD_STAT_OPEN, PB_RD_STAT_WHERE,
      STM_RD_DIST_CNT, STM_SCRUB_STAT_PASSES, STM_SCRUB_STAT_PROGRESS]))
    ∧ (∀ (a : Bool) (b : Bool) (c : Fin 2) (d : Fin 4) (e : Fin 16) (f : Word) (g : Nat), OnlyChanges (.blockRetire a
      b c d e f g) [] [.fc, .pb, .stm]
      (recordFlds ++ ringBufferFlds ++ [STM_PART_H, STM_PART_S, STM_SPARE, STM_STAT_SPARE_LOW, STM_RETIRED]))
    ∧ (OnlyChanges .scrubPassComplete [] [.fc, .pb, .stm, .hif, .ring]
      (recordFlds ++ ringBufferFlds ++ [RING_DROP_CNT, STM_CAP_STAT, PB_RD_STAT_DONE, STM_REFRESH_CNT, STM_SCRUB_AGE,
      STM_WEAR_N_MAX, STM_WEAR_N_MEAN, STM_WEAR_S_MAX, STM_WEAR_S_MEAN, PB_RD_DATA, PB_RD_STAT_OPEN, PB_RD_STAT_WHERE,
      STM_RD_DIST_CNT, STM_SCRUB_STAT_PASSES, STM_SCRUB_STAT_PROGRESS]))
    ∧ (OnlyChanges .wearCheckpoint [] [.now, .time, .stm]
      [])
    ∧ (OnlyChanges .ceBusyTimeout [] [.fc]
      [PG_INT_STAT, PG_ERR, STM_STAT_SINGLE])
    ∧ (∀ (a : Word), OnlyChanges (.snapshotArm a) [] [.sys, .stm]
      [PG_ERR, STM_CAP_STAT, STM_CAP_CFG_ARM, STM_CAP_CFG_HOLDOFF, STM_CAP_CFG_POINT, STM_CAP_CFG_PRE,
      STM_CAP_CFG_SEV_MIN, STM_CAP_CFG_TRIG])
    ∧ (∀ (a : Fin 4), OnlyChanges (.snapshotTrigger a) [] [.fc, .pb, .stm]
      (recordFlds ++ [STM_CAP_STAT, STM_SNAP_MISS]))
    ∧ (OnlyChanges .snapshotHostTrigger [] [.sys, .fc, .pb, .stm]
      (recordFlds ++ [STM_CAP_STAT, STM_SNAP_MISS]))
    ∧ (OnlyChanges .snapshotFillComplete [] [.now, .time]
      [STM_CAP_STAT])
    ∧ (OnlyChanges .snapshotStored [] [.fc, .pb, .stm, .hif, .ring]
      (recordFlds ++ ringBufferFlds ++ [RING_DROP_CNT, STM_CAP_STAT, PB_RD_STAT_DONE, STM_REFRESH_CNT, STM_SCRUB_AGE,
      STM_WEAR_N_MAX, STM_WEAR_N_MEAN, STM_WEAR_S_MAX, STM_WEAR_S_MEAN, PB_RD_DATA, PB_RD_STAT_OPEN, PB_RD_STAT_WHERE,
      STM_RD_DIST_CNT, STM_SCRUB_STAT_PASSES, STM_SCRUB_STAT_PROGRESS]))
    ∧ (∀ (a : Page) (b : BitVec 16) (c : Nat) (d : BitVec 64), OnlyChanges (.recordArrival a b c d) [] [.fc, .pb,
      .stm]
      recordFlds)
    ∧ (OnlyChanges .recordAdmittedAfterWait [] [.fc, .pb, .stm]
      recordFlds)
    ∧ (OnlyChanges .foldWindowExpiry [] [.now, .fc, .pb, .time, .stm]
      recordFlds)
    ∧ (OnlyChanges .rateLimitWindowEnd [] [.now, .fc, .pb, .time, .stm, .marks]
      recordFlds)
    ∧ (∀ (a : Word), OnlyChanges (.pbCfgWrite a) [] [.sys, .fc, .pb, .stm]
      (recordFlds ++ [PB_CFG_COMPAT, PB_CFG_RL_MAX, PB_CFG_RL_WIN]))
    ∧ (OnlyChanges .flushPeriodic [] [.now, .fc, .pb, .time, .stm, .marks]
      recordFlds)
    ∧ (∀ (a : BitVec 40), OnlyChanges (.recordConfirmed a) [] [.fc, .pb, .stm, .hif, .ring]
      (recordFlds ++ ringBufferFlds ++ [RING_DROP_CNT, STM_CAP_STAT, PB_RD_STAT_DONE, STM_REFRESH_CNT, STM_SCRUB_AGE,
      STM_WEAR_N_MAX, STM_WEAR_N_MEAN, STM_WEAR_S_MAX, STM_WEAR_S_MEAN, PB_RD_DATA, PB_RD_STAT_OPEN, PB_RD_STAT_WHERE,
      STM_RD_DIST_CNT, STM_SCRUB_STAT_PASSES, STM_SCRUB_STAT_PROGRESS]))
    ∧ (∀ (a : Bool), OnlyChanges (.pfailAssert a) [] [.fc, .pb, .stm]
      (recordFlds ++ [PB_VAULT_PF_CNT]))
    ∧ (OnlyChanges .vaultFlushComplete [] [.pb]
      [])
    ∧ (OnlyChanges .pfailDeassert [] [.fc, .pb, .stm]
      recordFlds)
    ∧ (OnlyChanges .vaultRestore [] [.fc, .pb, .stm, .hif, .ring]
      (recordFlds ++ ringBufferFlds ++ [RING_DROP_CNT, STM_CAP_STAT, PB_RD_STAT_DONE, STM_REFRESH_CNT, STM_SCRUB_AGE,
      STM_WEAR_N_MAX, STM_WEAR_N_MEAN, STM_WEAR_S_MAX, STM_WEAR_S_MEAN, PB_RD_DATA, PB_RD_STAT_OPEN, PB_RD_STAT_WHERE,
      STM_RD_DIST_CNT, STM_SCRUB_STAT_PASSES, STM_SCRUB_STAT_PROGRESS]))
    ∧ (∀ (a : BitVec 40), OnlyChanges (.stagingUncorr a) [] [.free, .fc, .pb, .stm]
      recordFlds)
    ∧ (OnlyChanges .vaultLineUncorr [] [.fc]
      [PG_INT_STAT, PG_ERR])
    ∧ (OnlyChanges .pbReadGo [] [.sys, .pb]
      [PB_RD_STAT_DONE])
    ∧ (OnlyChanges .pbReadDone [] [.fc, .pb, .stm, .hif, .ring]
      (recordFlds ++ ringBufferFlds ++ [RING_DROP_CNT, STM_CAP_STAT, PB_RD_STAT_DONE, STM_REFRESH_CNT, STM_SCRUB_AGE,
      STM_WEAR_N_MAX, STM_WEAR_N_MEAN, STM_WEAR_S_MAX, STM_WEAR_S_MEAN, PB_RD_DATA, PB_RD_STAT_OPEN, PB_RD_STAT_WHERE,
      STM_RD_DIST_CNT, STM_SCRUB_STAT_PASSES, STM_SCRUB_STAT_PROGRESS]))
    ∧ (OnlyChanges .verifyGo [] [.sys, .pb]
      [PB_VFY_DONE_CNT, PB_VFY_STAT_BUSY, PB_VFY_STAT_DONE, PB_VFY_STAT_FAIL])
    ∧ (OnlyChanges .verifyStop [] [.sys, .pb]
      [])
    ∧ (∀ (a : Nat), OnlyChanges (.verifyDone a) [] []
      [PG_INT_STAT, PB_VFY_DONE_CNT, PB_VFY_STAT_BUSY, PB_VFY_STAT_DONE, PB_VFY_STAT_FAIL, PB_VFY_BAD_HI,
      PB_VFY_BAD_LO])

/-- What each command of these families leaves unchanged: protection, Curtain, collector, fabric and migrations. A
clause names the memories, the pieces of the state and the register fields the command may change; all else stays. -/
def Obligations.FaultFrame : Prop :=
    (∀ (a : Fin 32), OnlyChanges (.oscillationGrowth a) [] [.fc, .pb, .cur, .lanes, .cnx, .stm, .ring, .twt]
      (requestFlds ++ ceilingFlds ++ [CNX_PATH_STAT_EST_RESET]))
    ∧ (∀ (a : Fin 32), OnlyChanges (.oscillationLine a) [] [.fc, .pb, .cur, .lanes, .cnx, .stm, .ring, .twt]
      (requestFlds ++ ceilingFlds ++ [CNX_PATH_STAT_EST_RESET]))
    ∧ (∀ (a : Fin 8), OnlyChanges (.overdriveDetected a) [] [.fc, .pb, .cur, .lanes, .conv, .stm, .ring, .twt]
      requestFlds)
    ∧ (∀ (a : Fin 8) (b : Fin 4), OnlyChanges (.emissionDetected a b) [] [.fc, .pb, .cur, .lanes, .conv, .stm, .ring,
      .twt]
      requestFlds)
    ∧ (∀ (a : Word), OnlyChanges (.remoteShutdown a) [] [.sys, .fc, .pb, .cur, .lanes, .stm, .ring, .twt]
      (requestFlds ++ [CUR_HOST_ALL, CUR_HOST_SHUT]))
    ∧ (∀ (a : Word), OnlyChanges (.remoteShutdownClear a) [] [.sys, .fc, .pb, .cur, .lanes, .stm, .ring, .twt]
      (requestFlds ++ [CUR_HOST_ALL, CUR_HOST_SHUT]))
    ∧ (∀ (a : BitVec 8), OnlyChanges (.curtainComplete a) [] [.fc, .pb, .cur, .stm, .twt]
      (recordFlds ++ [STM_CAP_STAT, STM_SNAP_MISS, TWT_STAT_ALERT, CUR_STAT_DOWN]))
    ∧ (∀ (a : Fin 8) (b : Fin 7), OnlyChanges (.portQuietPeriodEnd a b) [] [.now, .fc, .pb, .cur, .time, .stm]
      (recordFlds ++ clearCauseFlds ++ [FC_FF_SRC_VALID, FC_STATUS_HI, FC_STATUS_LO, FC_REC_CNT, FC_SEV_REC_CNT]))
    ∧ (∀ (a : Fin 8), OnlyChanges (.liftStart a) [] [.fc, .pb, .cur, .stm]
      (recordFlds ++ [CUR_CAUSE_LIFTING, CUR_STAT_LIFTING, CUR_CAUSE_LATCH, CUR_EPI_CNT, CUR_STAT_LATCHED]))
    ∧ (∀ (a : Fin 8), OnlyChanges (.liftComplete a) [] [.now, .fc, .pb, .cur, .lanes, .time, .stm]
      (recordFlds ++ [CUR_CAUSE_LIFTING, CUR_STAT_LIFTING, PROT_LANE_STAT_BACKOFF, CUR_STAT_DOWN,
      PROT_LANE_STAT_CAP]))
    ∧ (∀ (a : Word), OnlyChanges (.curtainRelease a) [] [.sys, .fc, .pb, .cur, .stm]
      (recordFlds ++ clearCauseFlds ++ [CUR_STAT_LATCHED, CUR_REJ_CNT]))
    ∧ (∀ (a : Word), OnlyChanges (.clearLiftHistory a) [] [.sys, .fc, .pb, .cur, .stm]
      (recordFlds ++ clearCauseFlds ++ [CUR_STAT_LATCHED, CUR_REJ_CNT]))
    ∧ (∀ (a : Fin 32), OnlyChanges (.backoffEnd a) [] [.now, .lanes, .time, .marks]
      [PG_INT_STAT, PROT_LANE_STAT_BACKOFF, PROT_LANE_STAT_CAP])
    ∧ (∀ (a : Page) (b : Fin 32) (c : BitVec 8), OnlyChanges (.faultEvent a b c) [] [.fc]
      [PG_INT_STAT, PG_ERR])
    ∧ (OnlyChanges .faultEpochLatch [] [.now, .fc, .pb, .cur, .lanes, .cnx, .time, .stm, .ring, .twt]
      (requestFlds ++ ceilingFlds ++ [CNX_PATH_STAT_EST_RESET, FC_FF_SRC_VALID, FC_STATUS_HI, FC_STATUS_LO,
      FC_FF_CAUSE, FC_FF_MERGE_CO_EPOCH, FC_FF_MERGE_MERGE, FC_FF_SRC_FORCED, FC_FF_SRC_MAX_MERGED, FC_FF_SRC_SEV,
      FC_FF_SRC_SOURCE, FC_FF_TICK_HI, FC_FF_TICK_LO, FC_SEV_LAST]))
    ∧ (∀ (a : Page) (b : Word), OnlyChanges (.forceCause a b) [] [.sys, .fc]
      [PG_ERR])
    ∧ (∀ (a : Bool) (b : Word), OnlyChanges (.forceSource a b) [] [.sys, .fc]
      [])
    ∧ (∀ (a : Fin 56), OnlyChanges (.sourceRecovery a) [] [.now, .fc, .pb, .cur, .time, .stm]
      (recordFlds ++ clearCauseFlds ++ [FC_FF_SRC_VALID, FC_STATUS_HI, FC_STATUS_LO, FC_REC_CNT, FC_SEV_REC_CNT]))
    ∧ (∀ (a : Bool) (b : Word), OnlyChanges (.hostClear a b) [] [.sys, .fc, .pb, .cur, .stm]
      (recordFlds ++ clearCauseFlds ++ [FC_FF_SRC_VALID, FC_STATUS_HI, FC_STATUS_LO, FC_REC_CNT, FC_SEV_REC_CNT,
      FC_REJ_CNT]))
    ∧ (OnlyChanges .firstFaultAck [] [.sys, .fc, .pb, .stm]
      (recordFlds ++ [FC_FF_SRC_VALID]))
    ∧ (∀ (a : Fin 64) (b : Word), OnlyChanges (.severityWrite a b) [] [.sys, .fc, .pb, .stm]
      (recordFlds ++ [FC_SEV_QSEL, FC_SEV_SCOPE, FC_SEV_SEV]))
    ∧ (OnlyChanges .faultNPulseEnd [] [.now, .fc, .time]
      [])
    ∧ (OnlyChanges .deferredFaultNPulse [] [.now, .fc, .time]
      [])
    ∧ (∀ (a : List (Fin 188 × BitVec 12)), OnlyChanges (.slackWindowEnd a) [] [.now, .fc, .time, .fab, .twc, .marks]
      (portControllerFlds ++ [TWC_REG_DROP_CNT, FAB_VREQ_MV, FAB_VREQ_SRC, FAB_STAT_VGUARD, FAB_GUARD_CNT,
      FAB_STAT_LOW_ISL, FAB_STAT_LOW_SLACK, FAB_STAT_SLACK_LOW]))
    ∧ (OnlyChanges .guardHoldoffEnd [] [.now, .time, .fab]
      [FAB_STAT_VGUARD])
    ∧ (∀ (a : Fin 22) (b : Nat), OnlyChanges (.wingsWarning a b) [] [.fc, .fab, .twc]
      (portControllerFlds ++ [TWC_REG_DROP_CNT, FAB_VREQ_MV, FAB_VREQ_SRC, FAB_STAT_VGUARD, FAB_GUARD_CNT]))
    ∧ (∀ (a : List (Fin 32 × Nat)), OnlyChanges (.wingsLoss a) [] [.fc, .fab]
      [PG_INT_STAT, PG_ERR, FAB_WLOSS_CNT])
    ∧ (OnlyChanges .minClr [] [.sys, .fab]
      [])
    ∧ (∀ (a : List (Fin 32 × Nat)), OnlyChanges (.ledgerAudit a) [] [.now, .fc, .pb, .time, .fab, .stm, .marks]
      (recordFlds ++ [LEDG_AUDIT_ANY, LEDG_AUDIT_LANE]))
    ∧ (∀ (a : Word), OnlyChanges (.ledgerSnapshotGo a) [] [.sys, .fc, .pb, .fab, .stm]
      (recordFlds ++ [LEDG_AUDIT_ANY, LEDG_AUDIT_LANE, LEDG_SNAP_DONE, LEDG_S_DISABLE, LEDG_S_DISC_HI, LEDG_S_DISC_LO,
      LEDG_S_HELD, LEDG_S_HMAX, LEDG_S_IN_HI, LEDG_S_IN_LO, LEDG_S_LATE, LEDG_S_OUT_HI, LEDG_S_OUT_LO,
      LEDG_S_SAMPLE_HI, LEDG_S_SAMPLE_LO, LEDG_S_WINGS, LEDG_SNAP_LANE]))
    ∧ (OnlyChanges .ledgerSnapshotDone [] [.now, .fc, .pb, .time, .fab, .stm]
      (recordFlds ++ [LEDG_AUDIT_ANY, LEDG_AUDIT_LANE, LEDG_SNAP_DONE, LEDG_S_DISABLE, LEDG_S_DISC_HI, LEDG_S_DISC_LO,
      LEDG_S_HELD, LEDG_S_HMAX, LEDG_S_IN_HI, LEDG_S_IN_LO, LEDG_S_LATE, LEDG_S_OUT_HI, LEDG_S_OUT_LO,
      LEDG_S_SAMPLE_HI, LEDG_S_SAMPLE_LO, LEDG_S_WINGS]))
    ∧ (∀ (a : Word), OnlyChanges (.ledgerClearGo a) [] [.sys, .fab]
      [LEDG_CLR_LANE])
    ∧ (OnlyChanges .ledgerClearApply [] [.now, .fc, .time, .fab]
      [LEDG_AUDIT_ANY, LEDG_AUDIT_LANE])
    ∧ (∀ (a : Fin 9) (b : Nat), OnlyChanges (.migrationGo a b) [.taps] [.sys, .fc, .pb, .lanes, .cnx, .spt, .tdd,
      .fab, .stm, .ring]
      (recordFlds ++ [RING_DROP_CNT, SPT_STUCK_ANY, SPT_STUCK_CTX, MEAS_LANE_STAT_LEARNING, MEAS_LANE_STAT_MEASURING,
      SPT_LANE_STAT_GATING, SPT_LANE_STAT_LEARNING, SPT_LANE_STAT_MEASURING, LANE_LAT, LANE_STAT_SUSPECT, RSM_STAT,
      CNX_PATH_STAT_ISO_VALID, LANE_CFG_EN, LANE_STAT_ACTIVE, CNX_LOAD, CNX_PATH_EST_ISO, CNX_PATH_EST_XC,
      CNX_PATH_CFG_EN, CNX_PATH_STAT_ACTIVE, LEDG_MIG_STAT_BUSY, LEDG_MIG_STAT_PHASE, MEAS_LANE_STAT_ACTIVE_NOW,
      SPT_LANE_STAT_OPEN_NOW, CNX_PATH_STAT_EST_RESET, LANE_STAT_SUSPECT_STICKY, LANE_GAIN_APPLIED, LANE_SAT_CNT,
      LANE_STAT_ERR_CODE, LANE_DEC_D, LANE_DEC_I, RSM_RATIO_HI, RSM_RATIO_LO, CNX_PATH_STAT_FLOOR, CNX_PATH_STAT_ERR,
      LEDG_MIG_STAT_READY, LEDG_MIG_STAT_DUP, LEDG_MIG_GAP, LEDG_MIG_STAT_ERR, LEDG_MIG_STAT_ROLE, LEDG_MIG_WARM]))
    ∧ (OnlyChanges .migrationAbort [.taps] [.sys, .fc, .pb, .cur, .prot, .lanes, .rfc, .cnx, .spt, .time, .tdd, .fab,
      .stm, .ring, .twt]
      (requestFlds ++ isolationFlds ++ [TIME_OSC, TIME_STAT_SRC_ACT, TIME_HOLD_STAT_E, TIME_HOLD_STAT_T,
      TIME_STAT_STATE, TIME_STAT_VALID, SPT_STUCK_ANY, SPT_STUCK_CTX, MEAS_LANE_STAT_LEARNING,
      MEAS_LANE_STAT_MEASURING, SPT_LANE_STAT_GATING, SPT_LANE_STAT_LEARNING, SPT_LANE_STAT_MEASURING, LANE_LAT,
      CNX_STX_CFG_EN, LANE_STAT_SUSPECT, PROT_LANE_STAT_PRESENT, CNX_STX_STAT_ACTIVE, TIME_STAT_NO_SRC, RSM_STAT,
      TIME_DET_STAT_STATE, TIME_STAT_SERVING, TIME_STAT_US_READY, CNX_PATH_STAT_ISO_VALID, LANE_CFG_EN,
      LANE_STAT_ACTIVE, CNX_LOAD, TIME_DET_CFG_EN, CNX_PATH_CFG_EN, CNX_PATH_STAT_ACTIVE, SLN_STAT_BUSY,
      LEDG_MIG_STAT_BUSY, LEDG_MIG_STAT_PHASE, LANE_GAIN_CLAMPED, LEDG_MIG_CNT_ABORTED, LEDG_MIG_CNT_DONE]))
    ∧ (OnlyChanges .migrationWarmStart [.taps] [.now, .lanes, .cnx, .time, .fab, .ring]
      [RING_DROP_CNT, CNX_PATH_STAT_ISO_VALID, CNX_PATH_EST_ISO, CNX_PATH_EST_XC, CNX_PATH_STAT_FLOOR])
    ∧ (OnlyChanges .migrationReady [] [.ring]
      [RING_DROP_CNT, LEDG_MIG_STAT_READY])
    ∧ (OnlyChanges .migrationDeadline [.taps] [.now, .fc, .pb, .cur, .prot, .lanes, .rfc, .cnx, .spt, .time, .tdd,
      .fab, .stm, .ring, .twt]
      (requestFlds ++ isolationFlds ++ [TIME_OSC, TIME_STAT_SRC_ACT, TIME_HOLD_STAT_E, TIME_HOLD_STAT_T,
      TIME_STAT_STATE, TIME_STAT_VALID, SPT_STUCK_ANY, SPT_STUCK_CTX, MEAS_LANE_STAT_LEARNING,
      MEAS_LANE_STAT_MEASURING, SPT_LANE_STAT_GATING, SPT_LANE_STAT_LEARNING, SPT_LANE_STAT_MEASURING, LANE_LAT,
      CNX_STX_CFG_EN, LANE_STAT_SUSPECT, PROT_LANE_STAT_PRESENT, CNX_STX_STAT_ACTIVE, TIME_STAT_NO_SRC, RSM_STAT,
      TIME_DET_STAT_STATE, TIME_STAT_SERVING, TIME_STAT_US_READY, CNX_PATH_STAT_ISO_VALID, LANE_CFG_EN,
      LANE_STAT_ACTIVE, CNX_LOAD, TIME_DET_CFG_EN, CNX_PATH_CFG_EN, CNX_PATH_STAT_ACTIVE, SLN_STAT_BUSY,
      LEDG_MIG_STAT_BUSY, LEDG_MIG_STAT_PHASE, LANE_GAIN_CLAMPED, LEDG_MIG_CNT_ABORTED, LEDG_MIG_CNT_DONE]))
    ∧ (OnlyChanges .migrationBoundary [] [.now, .lanes, .cnx, .spt, .time, .cte, .fab, .ring]
      (disarmFlds ++ [PG_INT_STAT, RING_DROP_CNT, PROT_LANE_STAT_BACKOFF, LANE_LAT, LANE_STAT_SUSPECT,
      LEDG_MIG_STAT_BUSY, LEDG_MIG_STAT_PHASE, LEDG_MIG_CNT_ABORTED, LEDG_MIG_CNT_DONE, MEAS_LANE_STAT_ACTIVE_NOW,
      SPT_LANE_STAT_OPEN_NOW, LANE_GAIN_LIMIT, LANE_STAT_SUSPECT_STICKY, PROT_LANE_STAT_CAP, SPT_LANE_CFG_GATE,
      CNX_PATH_CFG_SRC, CNX_STX_CFG_LANE]))
    ∧ (OnlyChanges .migrationDone [.taps] [.now, .fc, .pb, .cur, .prot, .lanes, .rfc, .cnx, .spt, .time, .tdd, .fab,
      .stm, .ring, .twt]
      (requestFlds ++ disarmFlds ++ isolationFlds ++ [TIME_OSC, TIME_STAT_SRC_ACT, TIME_HOLD_STAT_E, TIME_HOLD_STAT_T,
      TIME_STAT_STATE, TIME_STAT_VALID, LANE_LAT, CNX_STX_CFG_EN, LANE_STAT_SUSPECT, PROT_LANE_STAT_PRESENT,
      CNX_STX_STAT_ACTIVE, TIME_STAT_NO_SRC, RSM_STAT, TIME_DET_STAT_STATE, TIME_STAT_SERVING, TIME_STAT_US_READY,
      CNX_PATH_STAT_ISO_VALID, LANE_CFG_EN, LANE_STAT_ACTIVE, CNX_LOAD, TIME_DET_CFG_EN, CNX_PATH_CFG_EN,
      CNX_PATH_STAT_ACTIVE, SLN_STAT_BUSY, LEDG_MIG_STAT_BUSY, LEDG_MIG_STAT_PHASE, LANE_GAIN_CLAMPED,
      LEDG_MIG_CNT_ABORTED, LEDG_MIG_CNT_DONE]))

/-- What each command of these families leaves unchanged: time reference and control engine. A clause names the
memories, the pieces of the state and the register fields the command may change; all else stays. -/
def Obligations.TimeAndEngineFrame : Prop :=
    (OnlyChanges .timeSnapshot [] [.sys, .time]
      [TIME_FRAME, TIME_TOD_FRAC, TIME_TOD_SEC, TIME_UTC_SEC])
    ∧ (∀ (a : BitVec 16), OnlyChanges (.kvMeasurementDone a) [] [.now, .time]
      [TIME_OSC_KV])
    ∧ (∀ (a : Fin 4) (b : Word), OnlyChanges (.timeDetectorEnable a b) [] [.sys, .fc, .pb, .cur, .lanes, .rfc, .time,
      .stm, .ring, .twt]
      (requestFlds ++ [TIME_OSC, TIME_STAT_SRC_ACT, TIME_HOLD_STAT_E, TIME_HOLD_STAT_T, TIME_STAT_STATE,
      TIME_STAT_VALID, PROT_LANE_STAT_PRESENT, TIME_STAT_NO_SRC, TIME_DET_STAT_STATE, TIME_STAT_SERVING,
      TIME_STAT_US_READY, TIME_DET_CFG_EN, TIME_DET_CFG_LANE, TIME_DET_CFG_PCI, TIME_DET_CFG_TYPE,
      TIME_DET_STAT_ERR]))
    ∧ (∀ (a : Fin 4) (b : BitVec 10) (c : BitVec 8) (d : Int) (e : Int), OnlyChanges (.syncDetection a b c d e) []
      [.free, .fc, .pb, .cur, .lanes, .rfc, .time, .tdd, .stm, .ring, .twt]
      (requestFlds ++ [TIME_OSC, TIME_STAT_SRC_ACT, TIME_HOLD_STAT_E, TIME_HOLD_STAT_T, TIME_STAT_STATE,
      TIME_STAT_VALID, PROT_LANE_STAT_PRESENT, TIME_STAT_NO_SRC, TIME_DET_STAT_STATE, TIME_STAT_SERVING,
      TIME_STEP_CNT, TIME_STAT_RAIL, TIME_ERR_FOFS, TIME_ERR_PHASE, TIME_US_DELTA, TIME_DET_STAT_PCI,
      TIME_DET_STAT_SINR]))
    ∧ (OnlyChanges .timeLocked [] [.now, .fc, .pb, .cur, .lanes, .time, .stm, .ring, .twt]
      (requestFlds ++ [TIME_OSC, TIME_STAT_SRC_ACT, TIME_HOLD_STAT_E, TIME_HOLD_STAT_T, TIME_STAT_STATE,
      TIME_STAT_VALID]))
    ∧ (∀ (a : Fin 4), OnlyChanges (.detectorLost a) [] [.now, .fc, .pb, .cur, .lanes, .rfc, .time, .stm, .ring, .twt]
      (requestFlds ++ [TIME_OSC, TIME_STAT_SRC_ACT, TIME_HOLD_STAT_E, TIME_HOLD_STAT_T, TIME_STAT_STATE,
      TIME_STAT_VALID, PROT_LANE_STAT_PRESENT, TIME_STAT_NO_SRC, TIME_DET_STAT_STATE, TIME_STAT_SERVING,
      TIME_STAT_US_READY]))
    ∧ (OnlyChanges .holdoverEvaluation [] [.now, .fc, .pb, .cur, .lanes, .time, .stm, .ring, .twt, .marks]
      (requestFlds ++ [TIME_OSC, TIME_STAT_SRC_ACT, TIME_HOLD_STAT_E, TIME_HOLD_STAT_T, TIME_STAT_STATE,
      TIME_STAT_VALID]))
    ∧ (OnlyChanges .calendarSetGo [] [.sys, .time, .ring]
      [PG_ERR, RING_DROP_CNT])
    ∧ (OnlyChanges .calendarSetApply [] [.now, .fc, .pb, .time, .tdd, .stm]
      (recordFlds ++ [TDD_STAT_PENDING, TDD_STAT_CANCELLED, TIME_STEP_CNT, TIME_STAT_CAL_SET]))
    ∧ (OnlyChanges .realign [] [.sys, .time]
      [])
    ∧ (OnlyChanges .ppsOutPulse [] [.now, .time, .marks]
      [])
    ∧ (∀ (a : Int), OnlyChanges (.ppsInEdge a) [] [.free, .fc, .pb, .cur, .lanes, .time, .tdd, .stm, .ring, .twt]
      (requestFlds ++ [TIME_OSC, TIME_STAT_SRC_ACT, TIME_HOLD_STAT_E, TIME_HOLD_STAT_T, TIME_STAT_STATE,
      TIME_STAT_VALID, TIME_STEP_CNT, TIME_STAT_RAIL, TIME_ERR_FOFS, TIME_ERR_PHASE, TIME_PPSI_FRAC, TIME_PPSI_SEC]))
    ∧ (OnlyChanges .timeMessageSend [] [.now, .time, .ring, .marks]
      [RING_DROP_CNT])
    ∧ (∀ (a : TimeMsg), OnlyChanges (.timeMessageReceived a) [] [.free, .fc, .pb, .cur, .lanes, .time, .tdd, .stm,
      .ring, .twt]
      (requestFlds ++ [TIME_OSC, TIME_STAT_SRC_ACT, TIME_HOLD_STAT_E, TIME_HOLD_STAT_T, TIME_STAT_STATE,
      TIME_STAT_VALID, TIME_STAT_US_IGNORED, TIME_STEP_CNT, TIME_STAT_RAIL, TIME_STAT_REF_DEV, TIME_ERR_FOFS,
      TIME_ERR_PHASE, TIME_RING]))
    ∧ (OnlyChanges .arcDelayMeasurement [] [.now, .time, .ring, .marks]
      [RING_DROP_CNT])
    ∧ (∀ (a : Bool) (b : Nat), OnlyChanges (.delayRequestReceived a b) [] [.ring]
      [RING_DROP_CNT])
    ∧ (∀ (a : Bool) (b : Bool) (c : Nat) (d : Nat) (e : Int), OnlyChanges (.delayAnswerReceived a b c d e) [] [.time,
      .ring]
      [TIME_ARC_DN, TIME_ARC_UP])
    ∧ (OnlyChanges .usReady [] [.now, .time]
      [TIME_STAT_US_READY])
    ∧ (∀ (a : Int), OnlyChanges (.understudyTakeover a) [] [.fc, .pb, .cur, .lanes, .time, .tdd, .stm, .ring, .twt]
      (requestFlds ++ [TIME_OSC, TIME_STAT_SRC_ACT, TIME_HOLD_STAT_E, TIME_HOLD_STAT_T, TIME_STAT_STATE,
      TIME_STAT_VALID, TIME_STEP_CNT, TIME_STAT_REF_DEV]))
    ∧ (OnlyChanges .referenceReturn [] [.now, .fc, .pb, .time, .stm]
      (recordFlds ++ [TIME_STAT_SRC_ACT, TIME_STAT_REF_DEV]))
    ∧ (∀ (a : Fin 256) (b : Word), OnlyChanges (.loopEnable a b) [.loops] [.sys, .cte, .pwm]
      [PG_INT_STAT, PG_ERR, PWM_DUTY, CTE_CAP_STAT_INJ_ACTIVE, CTE_LOAD, BDAC_CFG_OWNED, PWM_CFG_OWNED,
      CTE_IGNWR_CNT])
    ∧ (∀ (a : Fin 256) (b : Word), OnlyChanges (.loopDisable a b) [.loops] [.sys, .cte, .pwm]
      [PG_INT_STAT, PG_ERR, PWM_DUTY, CTE_CAP_STAT_INJ_ACTIVE, CTE_LOAD, BDAC_CFG_OWNED, PWM_CFG_OWNED,
      CTE_IGNWR_CNT])
    ∧ (∀ (a : Fin 256) (b : Bool) (c : Nat), OnlyChanges (.loopSampleBoundary a b c) [.loops, .loopCap] [.now, .fc,
      .lanes, .rfc, .time, .cte, .pwm, .twc]
      (portControllerFlds ++ [PWM_DUTY, BDAC_CODE_OUT, CTE_CAP_STAT_INJ_ACTIVE, ATTN_STAT_BUSY, ATTN_STAT_PENDING,
      CTE_LOAD, BDAC_CFG_OWNED, PWM_CFG_OWNED, TWC_REG_DROP_CNT, FAB_VREQ_MV, FAB_VREQ_SRC, ATTN_DATA,
      CTE_CAP_STAT_DONE, CTE_CAP_STAT_TRIGGERED, BDAC_CODE_CODE, CTE_CAP_STAT_TRIG_IDX, CTE_ECC_CNT, CTE_OVR_CNT]))
    ∧ (∀ (a : Fin 256) (b : Word), OnlyChanges (.cue a b) [.loops] [.sys, .cte, .pwm]
      [PG_INT_STAT, PG_ERR, PWM_DUTY, CTE_CAP_STAT_INJ_ACTIVE, CTE_LOAD, BDAC_CFG_OWNED, PWM_CFG_OWNED,
      CTE_IGNWR_CNT])
    ∧ (∀ (a : Word), OnlyChanges (.cueGroup a) [.loops] [.sys, .cte]
      [PG_INT_STAT, PG_ERR, CTE_IGNWR_CNT])
    ∧ (OnlyChanges .injectGo [] [.sys, .cte]
      [])
    ∧ (OnlyChanges .injectStop [] [.sys, .cte]
      [])
    ∧ (OnlyChanges .captureTrig [] [.sys, .cte]
      [])
    ∧ (∀ (a : Word), OnlyChanges (.captureArm a) [] [.sys, .cte]
      [CTE_CAP_STAT_DONE, CTE_CAP_STAT_TRIGGERED, CTE_CAP_CFG_DECIM, CTE_CAP_CFG_EN, CTE_CAP_CFG_PRE])
    ∧ (∀ (a : Fin 256), OnlyChanges (.cteMemUncorr a) [.loops] [.fc, .cte]
      [PG_INT_STAT, PG_ERR])
    ∧ (∀ (a : Fin 65536), OnlyChanges (.cteCapUncorr a) [.loopCap] [.fc]
      [PG_INT_STAT, PG_ERR])

/-- What each command of these families leaves unchanged: host interface, DMA and interrupts. A clause names the
memories, the pieces of the state and the register fields the command may change; all else stays. -/
def Obligations.HostFrame : Prop :=
    (∀ (a : Bool) (b : Bool) (c : BitVec 30), OnlyChanges (.badAccess a b c) [] [.fc, .hif]
      [PG_INT_STAT, PG_ERR, HIF_BADACC_ADDR_OFFSET, HIF_BADACC_ADDR_WIN, HIF_BADACC_CNT])
    ∧ (OnlyChanges .winbWrite [] []
      [HIF_WINB_WR_CNT])
    ∧ (OnlyChanges .tunnelTimeout [] [.now, .fc, .time, .hif]
      [PG_INT_STAT, PG_ERR, HIF_TUN_TO_CNT])
    ∧ (∀ (a : Bool), OnlyChanges (.d3hotEntry a) [] [.hif]
      [DMA_Q_STAT_SIG, IC_TGT_CFG_ASLEEP, HIF_PM_ASLEEP_NOW, HIF_PM_D3])
    ∧ (OnlyChanges .d0Return [] [.hif]
      [IC_WAKE, DMA_Q_STAT_SIG, IC_TGT_CFG_ASLEEP, DMA_Q_STAT_STATE, DMA_CQ_TAIL_PHASE, DMA_CQ_TAIL_TAIL,
      HIF_PM_ASLEEP_NOW, DMA_Q_DONE_CNT, DMA_Q_ERR_CNT, DMA_Q_STAT_ERR_SEEN, DMA_Q_STAT_LAST_ERR, HIF_PM_D3])
    ∧ (OnlyChanges .hostSleepEntry [] [.sys, .hif]
      [IC_WAKE, DMA_Q_STAT_SIG, IC_TGT_CFG_ASLEEP, HIF_PM_ASLEEP_NOW, HIF_PM_SLEEP])
    ∧ (OnlyChanges .hostSleepExit [] [.sys, .hif]
      [IC_WAKE, DMA_Q_STAT_SIG, IC_TGT_CFG_ASLEEP, HIF_PM_ASLEEP_NOW, HIF_PM_SLEEP])
    ∧ (OnlyChanges .linkDown [] [.fc]
      [PG_INT_STAT, PG_ERR, HIF_LINK_SPEED, HIF_LINK_UP, HIF_LINK_WIDTH, HIF_LINKDN_CNT])
    ∧ (∀ (a : Bool), OnlyChanges (.pcieErrorTlp a) [] [.fc]
      [PG_INT_STAT, PG_ERR, HIF_CORR_CNT, HIF_UNCORR_CNT])
    ∧ (∀ (a : Fin 5) (b : Fin 5), OnlyChanges (.linkUp a b) [] [.fc]
      [PG_INT_STAT, HIF_LINK_SPEED, HIF_LINK_UP, HIF_LINK_WIDTH])
    ∧ (∀ (a : Fin 8) (b : Word), OnlyChanges (.dmaDoorbell a b) [] [.sys]
      [DMA_Q_TAIL])
    ∧ (∀ (a : Fin 8) (b : Desc), OnlyChanges (.descNop a b) [] [.hif]
      [DMA_Q_HEAD])
    ∧ (∀ (a : Fin 8) (b : Desc), OnlyChanges (.descMemoryRead a b) [] [.stm, .hif, .ring]
      [RING_DROP_CNT, DMA_Q_HEAD])
    ∧ (∀ (a : Fin 8) (b : Desc), OnlyChanges (.descMediumRead a b) [] [.fc, .pb, .stm, .hif, .ring]
      (recordFlds ++ ringBufferFlds ++ [RING_DROP_CNT, STM_CAP_STAT, PB_RD_STAT_DONE, DMA_Q_HEAD, STM_REFRESH_CNT,
      STM_SCRUB_AGE, STM_WEAR_N_MAX, STM_WEAR_N_MEAN, STM_WEAR_S_MAX, STM_WEAR_S_MEAN, PB_RD_DATA, PB_RD_STAT_OPEN,
      PB_RD_STAT_WHERE, STM_RD_DIST_CNT, STM_SCRUB_STAT_PASSES, STM_SCRUB_STAT_PROGRESS]))
    ∧ (∀ (a : Fin 8) (b : Desc), OnlyChanges (.descRefusedKind a b) [] [.hif]
      [DMA_Q_HEAD])
    ∧ (∀ (a : Fin 8), OnlyChanges (.descComplete a) [] [.hif]
      [DMA_Q_STAT_SIG, DMA_CQ_TAIL_PHASE, DMA_CQ_TAIL_TAIL, DMA_Q_DONE_CNT, DMA_Q_ERR_CNT, DMA_Q_STAT_ERR_SEEN,
      DMA_Q_STAT_LAST_ERR])
    ∧ (∀ (a : Fin 8), OnlyChanges (.descFetchError a) [] [.fc, .hif]
      [PG_INT_STAT, PG_ERR, DMA_Q_HEAD, DMA_Q_STAT_STATE])
    ∧ (∀ (a : Fin 8) (b : Word), OnlyChanges (.cqHeadWrite a b) [] [.sys, .hif]
      [DMA_CQ_HEAD])
    ∧ (∀ (a : Fin 8), OnlyChanges (.moderationTimeout a) [] [.now, .time, .hif]
      [DMA_Q_STAT_SIG])
    ∧ (∀ (a : Fin 8) (b : Word), OnlyChanges (.queueEnable a b) [] [.sys, .fc, .hif]
      [PG_ERR, DMA_Q_STAT_SIG, DMA_Q_HEAD, DMA_Q_STAT_STATE, DMA_CQ_TAIL_PHASE, DMA_CQ_TAIL_TAIL, DMA_CQ_HEAD,
      DMA_Q_TAIL, DMA_Q_CFG_EN, DMA_Q_CFG_MOD_CNT, DMA_Q_CFG_MOD_TIME])
    ∧ (∀ (a : Fin 8) (b : Word), OnlyChanges (.queueDisable a b) [] [.sys, .fc, .hif]
      [PG_ERR, DMA_Q_STAT_SIG, DMA_Q_HEAD, DMA_Q_STAT_STATE, DMA_CQ_TAIL_PHASE, DMA_CQ_TAIL_TAIL, DMA_CQ_HEAD,
      DMA_Q_TAIL, DMA_Q_CFG_EN, DMA_Q_CFG_MOD_CNT, DMA_Q_CFG_MOD_TIME])
    ∧ (∀ (a : Fin 8), OnlyChanges (.queueDrained a) [] []
      [DMA_Q_STAT_STATE])
    ∧ (∀ (a : Fin 8) (b : Word), OnlyChanges (.queueReset a b) [] [.sys, .fc, .hif]
      [PG_ERR, DMA_Q_STAT_SIG, DMA_Q_HEAD, DMA_Q_STAT_STATE, DMA_CQ_TAIL_PHASE, DMA_CQ_TAIL_TAIL, DMA_CQ_HEAD,
      DMA_Q_TAIL, DMA_Q_CFG_EN, DMA_Q_CFG_MOD_CNT, DMA_Q_CFG_MOD_TIME])
    ∧ (∀ (a : Fin 8), OnlyChanges (.bufParity a) [] [.fc, .hif]
      [PG_INT_STAT, PG_ERR])
    ∧ (∀ (a : Fin 256), OnlyChanges (.sourceAssertion a) [] [.hif]
      [IC_WAKE])
    ∧ (∀ (a : Fin 4) (b : Bool) (c : BitVec 8), OnlyChanges (.icComplete a b c) [] [.sys, .fc, .pb, .stm, .hif]
      (recordFlds ++ [IC_WAKE, IC_BADCMP_CNT]))
    ∧ (∀ (a : Fin 256) (b : Word), OnlyChanges (.sourceConfigWrite a b) [] [.sys, .hif]
      [IC_WAKE, IC_SRC_CLASS, IC_SRC_EN, IC_SRC_TARGETS])
    ∧ (∀ (a : Word), OnlyChanges (.countSnapshot a) [] [.sys]
      [IC_CNT_ASSERT, IC_CNT_CLAIM, IC_CNT_PTR, IC_CNT_STAT_ACTIVE, IC_CNT_STAT_PENDING, IC_CNT_STAT_VALID])
    ∧ (∀ (a : Word), OnlyChanges (.wakeClear a) [] [.sys]
      [IC_WAKE])
    ∧ (∀ (a : Fin 4) (b : Word), OnlyChanges (.targetConfigWrite a b) [] [.sys, .hif]
      [IC_WAKE, IC_TGT_CFG_ASLEEP, IC_TGT_CFG_DELIV, IC_TGT_CFG_MASK])
    ∧ (∀ (a : Fin 4), OnlyChanges (.msixUnmask a) [.vecs] [.sys, .hif]
      [])
    ∧ (OnlyChanges .msixEnable [] [.hif]
      [])
    ∧ (∀ (a : Fin 256), OnlyChanges (.icStateParity a) [] [.fc, .pb, .stm, .hif]
      (recordFlds ++ [IC_WAKE]))

/-- What each command of these families leaves unchanged: cascade ring and housekeeping. A clause names the memories,
the pieces of the state and the register fields the command may change; all else stays. -/
def Obligations.RingFrame : Prop :=
    (∀ (a : Bool) (b : Fin 4), OnlyChanges (.ringLaneLockLoss a b) [] [.ring]
      [RING_DROP_CNT, RING_PORT_STAT_STATE, RING_STAT_DN_UP, RING_STAT_UP_UP, RING_PORT_STAT_RX_LOCK])
    ∧ (∀ (a : Bool) (b : Bool) (c : Word), OnlyChanges (.ringTrainingDone a b c) [] [.fc, .ring]
      [PG_INT_STAT, RING_PORT_STAT_STATE, RING_STAT_DN_UP, RING_STAT_UP_UP, RING_PORT_STAT_RX_LOCK,
      RING_PORT_STAT_TX_OK, RING_PORT_SKEW, RING_PORT_TRAIN_CNT])
    ∧ (∀ (a : Bool), OnlyChanges (.portRetrain a) [] [.ring]
      [RING_DROP_CNT, RING_PORT_STAT_STATE, RING_STAT_DN_UP, RING_STAT_UP_UP, RING_PORT_STAT_RX_LOCK,
      RING_PORT_STAT_TX_OK])
    ∧ (∀ (a : Bool), OnlyChanges (.headerCrcFail a) [] [.ring]
      [RING_DROP_CNT, RING_PORT_STAT_STATE, RING_STAT_DN_UP, RING_STAT_UP_UP, RING_PORT_STAT_RX_LOCK,
      RING_PORT_HDR_CNT])
    ∧ (∀ (a : Bool) (b : Fin 4), OnlyChanges (.frameCrcFail a b) [] [.fc, .ring]
      [PG_INT_STAT, PG_ERR, RING_PORT_CRC_CNT])
    ∧ (∀ (a : Bool) (b : Fin 64) (c : BitVec 24) (d : Word), OnlyChanges (.readAnswerFrame a b c d) [] [.hif, .ring]
      [])
    ∧ (∀ (a : Bool) (b : Fin 64) (c : Bool) (d : BitVec 16) (e : Bool) (f : Bool) (g : Fin 4), OnlyChanges (.ackFrame
      a b c d e f g) [] [.fc, .pb, .stm, .hif, .ring]
      (recordFlds ++ [RING_DROP_CNT, IC_WAKE, RING_STAT_STATE, RING_STAT_BREAK_POS, RING_STAT_BREAK_VALID,
      IC_BADCMP_CNT, RING_MAP_STATE, RING_FAULTN_HI, RING_FAULTN_LO]))
    ∧ (∀ (a : Bool) (b : Fin 64) (c : Bool), OnlyChanges (.nakFrame a b c) [] [.ring]
      [RING_DROP_CNT, RING_REPLAY_CNT])
    ∧ (∀ (a : Bool) (b : Fin 64) (c : Bool) (d : Bool) (e : Fin 4), OnlyChanges (.statusFrame a b c d e) [] [.ring]
      [RING_MAP_STATE, RING_FAULTN_HI, RING_FAULTN_LO])
    ∧ (OnlyChanges .statusFrameSend [] [.now, .time, .ring]
      [RING_DROP_CNT])
    ∧ (∀ (a : Fin 64) (b : Bool), OnlyChanges (.replayTimeout a b) [] [.now, .time, .ring]
      [RING_DROP_CNT, RING_REPLAY_CNT])
    ∧ (∀ (a : Fin 64), OnlyChanges (.tunnelWriteReleased a) [] [.ring]
      [RING_DROP_CNT])
    ∧ (∀ (a : Bool) (b : Fin 4) (c : BitVec 8), OnlyChanges (.creditReturn a b c) [] [.ring]
      [])
    ∧ (OnlyChanges .censusMarkerSend [] [.now, .time, .ring, .marks]
      [])
    ∧ (∀ (a : Bool) (b : Fin 4) (c : Fin 257) (d : BitVec 16) (e : Nat) (f : Nat), OnlyChanges (.censusMarker a b c d
      e f) [] [.fc, .pb, .stm, .ring]
      (recordFlds ++ [RING_CEN_CNT, RING_CEN_FAIL_CNT]))
    ∧ (OnlyChanges .enumerationStart [] [.ring]
      [RING_DROP_CNT])
    ∧ (∀ (a : Bool) (b : Fin 64) (c : Fin 65) (d : List MapEntry), OnlyChanges (.enumerationFrame a b c d) [] [.fc,
      .pb, .cur, .lanes, .conv, .rfc, .stm, .ring, .twt]
      (requestFlds ++ [RFC_PORT_STAT_STATE, COEX_STAT_PENDING, RFC_PORT_STAT_BUSY, RFC_PORT_STAT_RESULT,
      SYS_STATE_PENDING, SYS_STATE_DEV_STATE, SYS_STATE_IN_TRANSITION, RING_STAT_STATE, RING_STAT_SIZE,
      RING_STAT_POS]))
    ∧ (∀ (a : List (Option MapEntry)) (b : List (Fin 64)), OnlyChanges (.enumerationComplete a b) [] [.fc, .pb, .cur,
      .lanes, .conv, .rfc, .stm, .hif, .ring, .twt]
      (requestFlds ++ [RFC_PORT_STAT_STATE, COEX_STAT_PENDING, RFC_PORT_STAT_BUSY, RFC_PORT_STAT_RESULT,
      SYS_STATE_PENDING, IC_WAKE, SYS_STATE_DEV_STATE, SYS_STATE_IN_TRANSITION, RING_STAT_STATE, IC_BADCMP_CNT,
      RING_MAP_STATE, RING_FAULTN_HI, RING_FAULTN_LO, RING_STAT_SIZE, RING_WDISC_CNT, RING_STAT_POS, RING_MAP_ID,
      RING_MAP_VALID, RING_MAP_VERSION, RING_MAP_VERTEX, RING_PRES_HI, RING_PRES_LO]))
    ∧ (OnlyChanges .singleTimeout [] [.now, .time]
      [RING_STAT_STATE, RING_STAT_SIZE])
    ∧ (OnlyChanges .noVertexTimeout [] [.fc]
      [PG_INT_STAT, PG_ERR])
    ∧ (∀ (a : Bool), OnlyChanges (.arcDown a) [] [.fc, .pb, .cur, .lanes, .cnx, .time, .stm, .hif, .ring, .twt]
      (requestFlds ++ [TIME_OSC, TIME_STAT_SRC_ACT, TIME_HOLD_STAT_E, TIME_HOLD_STAT_T, TIME_STAT_STATE,
      TIME_STAT_VALID, CNX_STX_CFG_EN, CNX_STX_STAT_ACTIVE, RING_STAT_STATE, CNX_STX_STAT_ARC, CNX_STX_STAT_ERR,
      RING_STAT_BREAK_POS, RING_STAT_BREAK_VALID, CNX_STX_CFG_DIR, CNX_STX_CFG_HOPS, RING_PORT_STAT_STATE,
      RING_STAT_DN_UP, RING_STAT_UP_UP, RING_PORT_STAT_TX_OK, RING_REPLAY_CNT, RING_REROUTE_CNT]))
    ∧ (∀ (a : Bool) (b : Fin 64), OnlyChanges (.breakNoticeFrame a b) [] [.fc, .pb, .cur, .lanes, .cnx, .time, .stm,
      .hif, .ring, .twt]
      (requestFlds ++ [TIME_OSC, TIME_STAT_SRC_ACT, TIME_HOLD_STAT_E, TIME_HOLD_STAT_T, TIME_STAT_STATE,
      TIME_STAT_VALID, CNX_STX_CFG_EN, CNX_STX_STAT_ACTIVE, RING_STAT_STATE, CNX_STX_STAT_ARC, CNX_STX_STAT_ERR,
      RING_STAT_BREAK_POS, RING_STAT_BREAK_VALID, CNX_STX_CFG_DIR, CNX_STX_CFG_HOPS, RING_REPLAY_CNT,
      RING_REROUTE_CNT]))
    ∧ (∀ (a : List (Fin 64)), OnlyChanges (.split a) [] [.fc, .pb, .cnx, .stm, .hif, .ring]
      (recordFlds ++ [RING_DROP_CNT, CNX_STX_CFG_EN, CNX_STX_STAT_ACTIVE, IC_WAKE, RING_STAT_STATE, CNX_STX_STAT_ARC,
      CNX_STX_STAT_ERR, IC_BADCMP_CNT, CNX_STX_CFG_DIR, CNX_STX_CFG_HOPS, RING_MAP_STATE, RING_FAULTN_HI,
      RING_FAULTN_LO, RING_WDISC_CNT]))
    ∧ (∀ (a : Bool), OnlyChanges (.ringRestore a) [] [.fc, .ring]
      [PG_INT_STAT, RING_DROP_CNT, RING_STAT_STATE, RING_STAT_BREAK_POS, RING_STAT_BREAK_VALID])
    ∧ (∀ (a : Bool), OnlyChanges (.routeCommandFrame a) [] [.fc, .ring]
      [PG_INT_STAT, RING_STAT_STATE, RING_STAT_BREAK_POS, RING_STAT_BREAK_VALID])
    ∧ (∀ (a : Bool) (b : Fin 64), OnlyChanges (.ringResetGo a b) [] [.sys, .ring]
      [PG_ERR, RING_DROP_CNT, RING_CTL_RST_ALL, RING_CTL_RST_DEV])
    ∧ (∀ (a : Bool) (b : Fin 64) (c : BitVec 16) (d : Fin 8) (e : Desc), OnlyChanges (.bulkRequestFrame a b c d e) []
      [.fc, .pb, .stm, .hif, .ring]
      (recordFlds ++ ringBufferFlds ++ [RING_DROP_CNT, STM_CAP_STAT, PB_RD_STAT_DONE, STM_REFRESH_CNT, STM_SCRUB_AGE,
      STM_WEAR_N_MAX, STM_WEAR_N_MEAN, STM_WEAR_S_MAX, STM_WEAR_S_MEAN, PB_RD_DATA, PB_RD_STAT_OPEN, PB_RD_STAT_WHERE,
      STM_RD_DIST_CNT, STM_SCRUB_STAT_PASSES, STM_SCRUB_STAT_PROGRESS]))
    ∧ (∀ (a : Bool) (b : Fin 64) (c : BitVec 16) (d : Fin 8) (e : Fin 16) (f : Nat) (g : Bool) (h : List Word),
      OnlyChanges (.bulkDataFrame a b c d e f g h) [] [.hif, .ring]
      [RING_DROP_CNT])
    ∧ (OnlyChanges .hkTimerTrigger [] [.now, .time, .hk, .marks]
      [PG_INT_STAT, HK_STAT_HELD, HK_DISC_CNT])
    ∧ (OnlyChanges .hkPwmTrigger [] [.hk]
      [PG_INT_STAT, HK_STAT_HELD, HK_DISC_CNT])
    ∧ (OnlyChanges .hkGo [] [.sys, .hk]
      [PG_INT_STAT, HK_STAT_HELD, HK_DISC_CNT])
    ∧ (OnlyChanges .hkScanStart [] [.now, .time, .hk]
      [PG_INT_STAT, HK_STAT_HELD, HK_STAT_SLOW, HK_STAT_BUSY, HK_STAT_SCAN_CNT, HK_LATE_CNT, HK_STAT_LATE])
    ∧ (OnlyChanges .slowRoundRequest [] [.now, .time, .hk, .marks]
      [HK_STAT_SLOW])
    ∧ (∀ (a : BitVec 16) (b : Bool), OnlyChanges (.hkConversionEnd a b) [.taps, .loops] [.now, .fc, .pb, .cur, .prot,
      .lanes, .conv, .rfc, .cnx, .spt, .time, .tdd, .cte, .fab, .stm, .ring, .hk, .thm, .pwm, .twt]
      (requestFlds ++ disarmFlds ++ isolationFlds ++ [RFC_PORT_STAT_STATE, TIME_OSC, COEX_STAT_PENDING,
      TIME_STAT_SRC_ACT, TIME_HOLD_STAT_E, TIME_HOLD_STAT_T, TIME_STAT_STATE, TIME_STAT_VALID, RFC_PORT_STAT_BUSY,
      RFC_PORT_STAT_RESULT, LANE_LAT, CNX_STX_CFG_EN, LANE_STAT_SUSPECT, PROT_LANE_STAT_PRESENT, CNX_STX_STAT_ACTIVE,
      TIME_STAT_NO_SRC, RSM_STAT, TIME_DET_STAT_STATE, TIME_STAT_SERVING, TIME_STAT_US_READY, CNX_PATH_STAT_ISO_VALID,
      LANE_CFG_EN, LANE_STAT_ACTIVE, CNX_LOAD, TIME_DET_CFG_EN, CNX_PATH_CFG_EN, CNX_PATH_STAT_ACTIVE, SLN_STAT_BUSY,
      LEDG_MIG_STAT_BUSY, LEDG_MIG_STAT_PHASE, LANE_GAIN_CLAMPED, LEDG_MIG_CNT_ABORTED, LEDG_MIG_CNT_DONE,
      SYS_STATE_PENDING, SYN_STAT_STATE_A, SYN_STAT_STATE_B, SYS_STATE_DEV_STATE, CONVRX_STAT_CAL_DONE,
      CONVTX_STAT_CAL_DONE, SYS_STATE_IN_TRANSITION, PWM_DUTY, BDAC_CODE_OUT, CTE_CAP_STAT_INJ_ACTIVE, CTE_LOAD,
      BDAC_CFG_OWNED, PWM_CFG_OWNED, THM_MAX, HK_STAT_SLOW, THM_STAT_COOLING, THM_STAT_SHUT, HK_RES_VALID,
      HK_STAT_BUSY, HK_STAT_SCAN_CNT, THM_SHUT_CNT, THM_STAT_STEP, THM_STEP_CNT, HK_OVR_CNT, HK_OVR_STICKY,
      HK_RES_CNT, HK_RES_LATE, HK_RES_OVR, HK_RES_SLOW, HK_RES_SUSPECT, HK_RES_VALUE, THM_STAT_BLIND,
      THM_STAT_HOT_SENS, THM_STAT_T_HOT]))
    ∧ (OnlyChanges .thermalRestart [.loops] [.fc, .cur, .conv, .rfc, .cnx, .cte, .thm]
      (synStartFlds ++ [PG_INT_STAT, RFC_PORT_STAT_BUSY, RFC_PORT_STAT_RESULT, CNX_PATH_EST_ISO, CNX_PATH_EST_XC,
      SYS_STATE_PENDING, CNX_PATH_STAT_EST_RESET, SYN_STAT_ERR_A, SYN_STAT_ERR_B, BDAC_CODE_OUT, THM_STAT_COOLING]))
    ∧ (OnlyChanges .maxClr [] [.sys]
      [THM_MAX])
    ∧ (∀ (a : Bool) (b : Fin 32), OnlyChanges (.hkFault a b) [] [.fc]
      [PG_INT_STAT, PG_ERR, HK_RES_VALID])
    ∧ (∀ (a : Fin 6), OnlyChanges (.pwmPeriodStart a) [] [.now, .time, .pwm]
      [PWM_DUTY])
    ∧ (∀ (a : Fin 6), OnlyChanges (.pwmDutyEdge a) [] [.now, .time, .pwm]
      [])
    ∧ (∀ (a : Fin 6) (b : Bool), OnlyChanges (.pwmMismatch a b) [] [.fc, .pwm]
      [PG_INT_STAT, PG_ERR, PWM_STAT_MISMATCH])
    ∧ (OnlyChanges .bdacStep [] [.now, .time, .marks]
      [BDAC_CODE_OUT])

/-- What each command of these families leaves unchanged: two-wire ports, start-up, images, settings, registers and
supplies. A clause names the memories, the pieces of the state and the register fields the command may change; all else
stays. -/
def Obligations.SerialAndStartFrame : Prop :=
    (∀ (a : BitVec 7) (b : Bool), OnlyChanges (.twtAddress a b) [] [.twt]
      [TWT_STAT_BUSY, TWT_NACK_CNT, TWT_STAT_ASLEEP, TWT_XFER_CNT])
    ∧ (∀ (a : Byte) (b : Bool), OnlyChanges (.twtWriteByte a b) [] [.twt]
      [PG_INT_STAT, TWT_STAT_IN_FULL, TWT_STAT_BUSY, TWT_NACK_CNT, TWT_STAT_PTR, TWT_MBOX_IN, TWT_ROWR_CNT])
    ∧ (∀ (a : Bool) (b : Bool), OnlyChanges (.twtReadByte a b) [] [.fc, .twt]
      [PG_INT_STAT, PG_ERR, TWT_STAT_OUT_FULL, TWT_STAT_BUSY, TWT_STAT_PTR])
    ∧ (OnlyChanges .twtRepeatedStartAtAck [] [.twt]
      [PG_INT_STAT, TWT_RSACK_CNT])
    ∧ (OnlyChanges .twtSclStuck [] [.fc, .twt]
      [PG_INT_STAT, PG_ERR, TWT_STAT_BUSY, TWT_STUCK_CNT])
    ∧ (OnlyChanges .twtIdleSleep [] [.now, .time]
      [TWT_STAT_ASLEEP])
    ∧ (∀ (a : Bool), OnlyChanges (.alertResponse a) [] [.twt]
      [PG_INT_STAT, TWT_STAT_ALERT, TWT_NACK_CNT, TWT_STAT_ASLEEP, TWT_XFER_CNT])
    ∧ (OnlyChanges .mailboxInAck [] [.sys]
      [TWT_STAT_IN_FULL])
    ∧ (OnlyChanges .mailboxOutGo [] [.sys, .twt]
      [PG_ERR, TWT_STAT_ALERT, TWT_STAT_OUT_FULL])
    ∧ (OnlyChanges .hostAlert [] [.sys, .twt]
      [TWT_STAT_ALERT])
    ∧ (∀ (a : Fin 2) (b : Word), OnlyChanges (.twcCommandGo a b) [] [.sys, .fc, .twc]
      (portControllerFlds ++ [TWC_CMD_ADDR, TWC_CMD_PEC, TWC_CMD_RLEN, TWC_CMD_WLEN]))
    ∧ (∀ (a : Fin 2) (b : Fin 8) (c : Fin 64) (d : List Byte), OnlyChanges (.twcTransactionDone a b c d) [] [.fc,
      .twc]
      (portControllerFlds ++ [TWC_POLL_RES_VALID, TWC_POLL_RES_RAW, TWC_REG_STAT_MV, TWC_STAT_LAST]))
    ∧ (∀ (a : Fin 2) (b : Fin 16), OnlyChanges (.pollDue a b) [] [.now, .fc, .time, .twc, .marks]
      (portControllerFlds ++ [TWC_POLL_SKIP_CNT]))
    ∧ (∀ (a : Fin 2), OnlyChanges (.regulatorRetry a) [] [.now, .fc, .time, .twc]
      portControllerFlds)
    ∧ (∀ (a : Fin 2), OnlyChanges (.twcAbort a) [] [.sys, .fc, .twc]
      (portControllerFlds ++ [TWC_POLL_RES_VALID, TWC_POLL_RES_RAW, TWC_REG_STAT_MV, TWC_STAT_LAST]))
    ∧ (∀ (a : Fin 2), OnlyChanges (.twcClear a) [] [.sys, .fc, .twc]
      portControllerFlds)
    ∧ (∀ (a : Fin 2) (b : Bool), OnlyChanges (.busClearDone a b) [] [.fc, .twc]
      (portControllerFlds ++ [TWC_STAT_SDA, TWC_STAT_STUCK]))
    ∧ (OnlyChanges .resetRelease [] [.now, .boot, .fc, .pb, .cur, .lanes, .conv, .rfc, .time, .stm, .ring, .thm, .twt,
      .marks]
      (requestFlds ++ [RFC_PORT_STAT_STATE, COEX_STAT_PENDING, RFC_PORT_STAT_BUSY, RFC_PORT_STAT_RESULT,
      SYS_STATE_PENDING, SYS_STATE_DEV_STATE, SYS_STATE_IN_TRANSITION, BOOT_STAT_PHASE, STM_SCRUB_AGE]))
    ∧ (∀ (a : Fin 64) (b : Bool) (c : Fin 4) (d : Fin 4) (e : Option (Fin 6)) (f : Bool), OnlyChanges
      (.startupPhase0Done a b c d e f) [] [.pins, .fc, .pb, .cur, .lanes, .conv, .rfc, .time, .stm, .ring, .twt]
      (requestFlds ++ [RFC_PORT_STAT_STATE, TIME_OSC, COEX_STAT_PENDING, TIME_STAT_SRC_ACT, TIME_HOLD_STAT_E,
      TIME_HOLD_STAT_T, TIME_STAT_STATE, TIME_STAT_VALID, RFC_PORT_STAT_BUSY, RFC_PORT_STAT_RESULT, SYS_STATE_PENDING,
      SYS_STATE_DEV_STATE, SYS_STATE_IN_TRANSITION, BOOT_STAT_PHASE, TIME_STAT_REF_DEV, TIME_STAT_DEGRADED,
      HIF_LINK_STRAP_W, SYS_STATE_DEV_ID, SYS_STATE_VERTEX, SYS_SUPPLY_NVQ_1V2, TIME_STAT_REF_CODE, TWT_CFG_ADDR]))
    ∧ (∀ (a : Bool) (b : Option (Nat × Bool × Bool)) (c : List Byte) (d : List Byte), OnlyChanges (.smemDiscoveryDone
      a b c d) [] [.boot, .fc, .pb, .stm]
      (recordFlds ++ [STM_FMT_STAT_BUSY, STM_FMT_STAT_DONE, STM_FMT_STAT_ERR, BOOT_STAT_PHASE, BOOT_STAT_A_VALID,
      BOOT_STAT_B_VALID, BOOT_STAT_CHECKED, BOOT_ERR_CODE, BOOT_ERR_COPY, BOOT_ERR_OFFSET, SEC_AUTH_FAIL_CNT,
      SMEM_STAT_ADDR4, SMEM_STAT_MODE, SMEM_STAT_READY, SMEM_STAT_SFDP_OK, SMEM_STAT_SIZE_LOG2]))
    ∧ (∀ (a : List (List Word)) (b : List Byte), OnlyChanges (.imageCopyChecked a b) [] [.boot, .fc, .pb, .stm]
      (recordFlds ++ [STM_FMT_STAT_BUSY, STM_FMT_STAT_DONE, STM_FMT_STAT_ERR, BOOT_STAT_PHASE, BOOT_STAT_A_VALID,
      BOOT_STAT_B_VALID, BOOT_STAT_CHECKED, BOOT_ERR_CODE, BOOT_ERR_COPY, BOOT_ERR_OFFSET, SEC_AUTH_FAIL_CNT,
      BOOT_SEQ, BOOT_STAT_AUTH, BOOT_STAT_COPY, SMEM_STAT_DIV]))
    ∧ (OnlyChanges .loadLimitExpiry [] [.now, .boot, .fc, .time, .stm]
      [PG_INT_STAT, PG_ERR, STM_FMT_STAT_BUSY, STM_FMT_STAT_DONE, STM_FMT_STAT_ERR, BOOT_STAT_PHASE,
      BOOT_STAT_ABORTED])
    ∧ (OnlyChanges .startupCalibration [] [.boot, .cur, .conv, .rfc, .spt]
      (disarmFlds ++ synStartFlds ++ [PG_ERR, SYN_STAT_ERR_A, SYN_STAT_ERR_B]))
    ∧ (OnlyChanges .rehearsalEntry [] [.sys, .fc, .pb, .cur, .conv, .rfc, .stm, .twt]
      (recordFlds ++ [COEX_STAT_REQ_OUT, TWT_STAT_ALERT, RFC_PORT_STAT_STATE, COEX_STAT_PENDING, RFC_PORT_STAT_BUSY,
      RFC_PORT_STAT_RESULT, SYS_STATE_PENDING, SYS_STATE_DEV_STATE, BOOT_STAT_PHASE, BOOT_TIME]))
    ∧ (∀ (a : List (List Word)) (b : List Byte), OnlyChanges (.backgroundCopyCheck a b) [] [.boot, .fc, .pb, .stm]
      (recordFlds ++ [BOOT_STAT_A_VALID, BOOT_STAT_B_VALID, BOOT_STAT_CHECKED, BOOT_ERR_CODE, BOOT_ERR_COPY,
      BOOT_ERR_OFFSET, SEC_AUTH_FAIL_CNT]))
    ∧ (OnlyChanges .imageNop [] [.boot]
      [BOOT_STAT_RECORDS])
    ∧ (∀ (a : BitVec 24) (b : Word) (c : Word) (d : Word) (e : Bool), OnlyChanges (.imageWait a b c d e) [] [.now,
      .boot, .fc, .pb, .time, .stm, .hif]
      (recordFlds ++ [IC_SPUR_CNT, BOOT_STAT_RECORDS]))
    ∧ (OnlyChanges .imageWaitTimeout [] [.now, .boot, .fc, .time, .stm]
      [PG_INT_STAT, PG_ERR, STM_FMT_STAT_BUSY, STM_FMT_STAT_DONE, STM_FMT_STAT_ERR, BOOT_STAT_PHASE,
      BOOT_STAT_ABORTED])
    ∧ (∀ (a : Word), OnlyChanges (.imageDelay a) [] [.boot]
      [BOOT_STAT_RECORDS])
    ∧ (OnlyChanges .imageDelayEnd [] [.now, .boot, .time]
      [])
    ∧ (∀ (a : BitVec 24) (b : Word) (c : Word) (d : Bool) (e : Word), OnlyChanges (.imageSkip a b c d e) [] [.boot,
      .fc, .pb, .stm, .hif]
      (recordFlds ++ [IC_SPUR_CNT, BOOT_STAT_RECORDS]))
    ∧ (OnlyChanges .imageCalibrate [] [.boot, .cur, .conv, .rfc, .spt]
      (disarmFlds ++ synStartFlds ++ [PG_ERR, SYN_STAT_ERR_A, SYN_STAT_ERR_B, BOOT_STAT_RECORDS]))
    ∧ (OnlyChanges .imageEnd [] [.boot, .stm]
      [PG_ERR, STM_FMT_STAT_BUSY, STM_FMT_STAT_DONE, STM_FMT_STAT_ERR, BOOT_STAT_PHASE, BOOT_STAT_RECORDS])
    ∧ (∀ (a : Word), OnlyChanges (.otpProgram a) [] [.sys, .boot]
      [PG_ERR, SEC_STAT_BUSY, SEC_STAT_RESULT])
    ∧ (∀ (a : Bool), OnlyChanges (.otpProgramDone a) [] [.boot, .fc, .pb, .stm]
      (recordFlds ++ [SEC_STAT_BUSY, SEC_STAT_RESULT, SEC_KEY, SEC_STAT_AUTH_REQ, SEC_STAT_CHAIN_KEY,
      SEC_STAT_IMG_KEY]))
    ∧ (∀ (a : Word), OnlyChanges (.smemCommandGo a) [] [.sys, .fc, .pb, .stm, .smem]
      (recordFlds ++ [SMEM_CMD_STAT_DONE, SMEM_CMD_STAT_RESULT, SMEM_ERR_CNT, SMEM_CMD_STAT_BUSY, SMEM_CMD_ADDR,
      SMEM_CMD_DUMMY, SMEM_CMD_OPCODE, SMEM_CMD_POLL, SMEM_CMD_QUAD, SMEM_CMD_WREN, SMEM_CMD_WRITE]))
    ∧ (∀ (a : List Byte) (b : Bool), OnlyChanges (.smemCommandDone a b) [] [.fc, .smem]
      [PG_INT_STAT, PG_ERR, SMEM_CMD_STAT_DONE, SMEM_CMD_STAT_RESULT, SMEM_ERR_CNT, SMEM_CMD_STAT_BUSY, SMEM_DATA])
    ∧ (∀ (a : Page), OnlyChanges (.pageIntClear a) [] [.sys]
      [PG_INT_STAT])
    ∧ (∀ (a : Page), OnlyChanges (.pageErrClear a) [] [.sys]
      [PG_ERR])
    ∧ (∀ (a : Fin 56) (b : Fin 32), OnlyChanges (.standingSignalFall a b) [] [.fc, .rfc]
      [])
    ∧ (∀ (a : Fin 7), OnlyChanges (.supplyUnderAlarm a) [] [.fc, .pb, .stm]
      (recordFlds ++ [PB_VAULT_PF_CNT, SYS_SUPPLY_CNT, SYS_SUPPLY_UNDER_NOW, SYS_SUPPLY_UNDER_STICKY]))
    ∧ (∀ (a : Fin 7), OnlyChanges (.supplyOverAlarm a) [] [.fc]
      [PG_INT_STAT, PG_ERR, SYS_SUPPLY_CNT, SYS_SUPPLY_OVER_NOW, SYS_SUPPLY_OVER_STICKY])
    ∧ (OnlyChanges .supplyAlarmClear [] [.fc, .pb, .stm]
      (recordFlds ++ [SYS_SUPPLY_OVER_NOW, SYS_SUPPLY_UNDER_NOW]))
    ∧ (∀ (a : Fin 16) (b : Bool), OnlyChanges (.gpioEdge a b) [] [.pins]
      [SYS_GPIO_EDGE_FALL, SYS_GPIO_EDGE_RISE])

/-- SYS_CMD and the transitions of the device state complete: each command answers a next state, which holds what its
clause gives. -/
def Obligations.SystemCommandsComplete : Prop :=
    (∀ (s u : State), s.sys.dark = false → s.rd SYS_STATE_IN_TRANSITION 0 = 0 → s.sys.deferred = [] →
      s.devState = stREHEARSAL → u = ({ s with sys := { s.sys with stopHeld := false } } : State).wr SYS_STATE_PENDING 0 cmdSTART → u.mayPerform = true →
      ∃ t, exec .sysCmdStart s = .next t ∧ t.devState = stPERFORMANCE ∧ t.rd SYS_STATE_PENDING 0 = 0)
    ∧ (∀ (s : State) (m : Fin 8), s.sys.dark = false → s.rd SYS_STATE_IN_TRANSITION 0 = 0 → s.sys.deferred = [] →
      s.devState = stPERFORMANCE →
      ∃ t, exec .sysCmdPause s = .next t ∧ t.devState = stPERFORMANCE ∧ t.rd SYS_STATE_IN_TRANSITION 0 = 1 ∧ t.cause m cSTATE = true)
    ∧ (∀ (s u : State), s.sys.dark = false → s.rd SYS_STATE_IN_TRANSITION 0 = 0 → s.sys.deferred = [] →
      s.devState = stINTERVAL → u = s.wr SYS_STATE_PENDING 0 cmdRESUME → u.mayPerform = true →
      ∃ t, exec .sysCmdResume s = .next t ∧ t.devState = stPERFORMANCE ∧ t.rd SYS_STATE_PENDING 0 = 0)
    ∧ (∀ (s : State), s.sys.dark = false → s.rd SYS_STATE_IN_TRANSITION 0 = 0 → s.sys.deferred = [] →
      s.devState ≠ stREHEARSAL →
      ∃ t, exec .sysCmdStop s = .next t ∧ t.devState = stREHEARSAL ∧ t.rd SYS_STATE_PENDING 0 = 0 ∧ t.rd SYS_STATE_IN_TRANSITION 0 = 0)
    ∧ (∀ (s : State) (k : Fin 3), s.rd SYS_STATE_IN_TRANSITION 0 = 0 → s.sys.deferred = [] →
      ∃ t, exec (.sysCmdReservedCode k) s = .next t ∧ t.rd SYS_REJ_CNT 0 = min (s.rd SYS_REJ_CNT 0 + 1) (2 ^ SYS_REJ_CNT.w - 1)
      ∧ t.devState = s.devState ∧ t.rd SYS_STATE_PENDING 0 = s.rd SYS_STATE_PENDING 0)
    ∧ (∀ (s : State), s.rd SYS_STATE_IN_TRANSITION 0 = 0 → s.sys.deferred = [.write 0x40 5#32] →
      ∃ t, exec .deferredCmdEvaluation s = .next t ∧ t.sys.deferred = []
      ∧ t.rd SYS_REJ_CNT 0 = min (s.rd SYS_REJ_CNT 0 + 1) (2 ^ SYS_REJ_CNT.w - 1))
    ∧ (∀ (s : State), s.sys.dark = false → s.mayPerform = true →
      (s.rd SYS_STATE_PENDING 0 = cmdSTART ∧ s.devState = stREHEARSAL) ∨ (s.rd SYS_STATE_PENDING 0 = cmdRESUME ∧ s.devState = stINTERVAL) →
      ∃ t, exec .enterPerformance s = .next t ∧ t.devState = stPERFORMANCE ∧ t.rd SYS_STATE_PENDING 0 = 0)
    ∧ (∀ (s : State), s.devState = stPERFORMANCE → s.rd SYS_STATE_IN_TRANSITION 0 = 1 → (∀ m < 8, s.down m = true) →
      ∃ t, exec .pauseComplete s = .next t ∧ t.devState = stINTERVAL ∧ t.rd SYS_STATE_IN_TRANSITION 0 = 0)
    ∧ (∀ (s : State), s.devState ≠ stREHEARSAL →
      ∃ t, exec .stateParity s = .next t ∧ t.devState = stREHEARSAL ∧ t.rd SYS_STATE_PENDING 0 = 0 ∧ t.rd SYS_STATE_IN_TRANSITION 0 = 0
      ∧ t.tst PG_ERR pgSYS 1 = true)

/-- Converter enables, calibrations and counter clears complete: each command answers a next state, which holds what its
clause gives. -/
def Obligations.ConverterCommandsComplete : Prop :=
    (∀ (s : State) (m : Fin 8) (v : Word), s.sys.deferred = [] → s.rd CONVRX_CFG_EN m = 0 →
      ∃ t, exec (.convrxEnable m v) s = .next t ∧ t.rd CONVRX_CFG_EN m = 1 ∧ t.rd CONVRX_CFG_SIDE m = CONVRX_CFG_SIDE.of (v ||| 1#32))
    ∧ (∀ (s : State) (m : Fin 8) (v : Word), s.sys.deferred = [] → s.rd CONVTX_CFG_EN m = 0 →
      ∃ t, exec (.convtxEnable m v) s = .next t ∧ t.rd CONVTX_CFG_EN m = 1 ∧ t.rd CONVTX_CFG_MODE m = CONVTX_CFG_MODE.of (v ||| 1#32))
    ∧ (∀ (s : State) (c : Fin 16) (v : Word), s.sys.deferred = [] → s.cvEn c = true →
      ∃ t, exec (.converterDisable c v) s = .next t ∧ t.cvEn c = false)
    ∧ (∀ (s : State) (c : Fin 16), (s.cv c).cal = true →
      ∃ t, exec (.convCalComplete c true) s = .next t ∧ t.cvDone c = true)
    ∧ (∀ (s : State) (m : Fin 8),
      ∃ t, exec (.ovrCntClr m) s = .next t ∧ t.rd CONVRX_OVR_CNT m = 0)
    ∧ (∀ (s : State) (m : Fin 8),
      ∃ t, exec (.clipCntClr m) s = .next t ∧ t.rd CONVTX_CLIP_CNT m = 0)
    ∧ (∀ (s : State) (c : Fin 16), s.cvEn c = true → s.cvRd CONVRX_CFG_BGCAL_EN CONVTX_CFG_BGCAL_EN c = 1 →
      (s.cv c).cal = false →
      ∃ t, exec (.bgcalCycleDone c true) s = .next t ∧ (t.cv c).good = (s.cv c).good + 1 ∧ (t.cv c).cycleAt = some s.now
      ∧ t.cvRd CONVRX_BGCAL_CYCLES CONVTX_BGCAL_CYCLES c = (s.cvRd CONVRX_BGCAL_CYCLES CONVTX_BGCAL_CYCLES c + 1) % 2 ^ CONVRX_BGCAL_CYCLES.w)
    ∧ (∀ (s : State) (c : Fin 16),
      ∃ t, exec (.converterParityError c) s = .next t ∧ t.tst PG_ERR (cvPage c) 3 = true
      ∧ ((t.fcSrc (cvSrc c)).stand.getLsbD 3) = true)

/-- Over-range and clipping episodes and the end of suspect marks complete: each command answers a next state, which
holds what its clause gives. -/
def Obligations.ConverterEpisodesComplete : Prop :=
    (∀ (s : State) (m : Fin 8), s.rd CONVRX_STAT_OVR_NOW m = 0 → s.rd CONVRX_CFG_EN m ≠ 0 →
      ∃ t, exec (.overRangeEpisodeStart m) s = .next t ∧ t.rd CONVRX_STAT_OVR_NOW m = 1 ∧ t.rd CONVRX_STAT_OVR_STICKY m = 1
      ∧ t.rd CONVRX_OVR_CNT m = min (s.rd CONVRX_OVR_CNT m + 1) (2 ^ CONVRX_OVR_CNT.w - 1))
    ∧ (∀ (s : State) (m : Fin 8), s.rd CONVRX_STAT_OVR_NOW m ≠ 0 →
      ∃ t, exec (.overRangeEpisodeEnd m) s = .next t ∧ t.rd CONVRX_STAT_OVR_NOW m = 0)
    ∧ (∀ (s : State) (n : Fin 32) (a : Nat), (s.lane n).suspectEnds = some a →
      ∃ t, exec (.suspectMarkEnd n) s = .next t ∧ (t.lane n).suspect = false ∧ t.rd LANE_STAT_SUSPECT n = 0 ∧ t.now = max s.now a)
    ∧ (∀ (s : State) (m : Fin 8), s.rd CONVTX_STAT_CLIP_NOW m = 0 → s.rd CONVTX_CFG_EN m ≠ 0 →
      ∃ t, exec (.clippingEpisodeStart m) s = .next t ∧ t.rd CONVTX_STAT_CLIP_NOW m = 1 ∧ t.rd CONVTX_STAT_CLIP_STICKY m = 1
      ∧ t.rd CONVTX_CLIP_CNT m = min (s.rd CONVTX_CLIP_CNT m + 1) (2 ^ CONVTX_CLIP_CNT.w - 1))
    ∧ (∀ (s : State) (m : Fin 8),
      ∃ t, exec (.clippingEpisodeEnd m) s = .next t ∧ t.rd CONVTX_STAT_CLIP_NOW m = 0)

/-- Lane enables, samples, channel-filter reads and resampler delays complete: each command answers a next state, which
holds what its clause gives. -/
def Obligations.LaneCommandsComplete : Prop :=
    (∀ (s u : State) (n : Fin 32) (v : Word), s.sys.deferred = [] → s.thm.shut = false → (s.lane n).on = false → s.rd LANE_CFG_EN n = 0 →
      s.armed n = false → u = s.wrWord laneFlds n (v ||| 0x80000000#32) → (u.int (pgAt pgLANE n) 0).laneErr n (u.laneCfg n) = none →
      ∃ t, exec (.laneEnable n v) s = .next t
      ∧ (t.ledger n).next = (s.now / (ratePeriod (u.laneCfg n).rate * 64) + 1) * 64
      ∧ t.rd LANE_STAT_ACTIVE n = 1 ∧ t.rd LANE_STAT_ERR_CODE n = 0 ∧ t.rd LANE_CFG_EN n = 1)
    ∧ (∀ (s : State) (n : Fin 32) (k : Nat), (s.lane n).phase = .accepted k → s.fab.mig = none →
      ∃ t, exec (.laneStart n) s = .next t ∧ (t.lane n).phase = .running k
      ∧ (t.lane n).rxAcc = BitVec.ofNat 48 ((s.lane n).rxPhase.toNat * 2 ^ 32)
      ∧ (t.lane n).txAcc = BitVec.ofNat 48 ((s.lane n).txPhase.toNat * 2 ^ 32) ∧ t.now = max s.now (k * (s.lane n).period))
    ∧ (∀ (s : State) (n : Fin 32) (v : Word), s.sys.deferred = [] → s.thm.shut = false → (s.lane n).on = true → s.fab.mig = none →
      ∃ t, exec (.laneDisable n v) s = .next t ∧ t.rd LANE_STAT_ACTIVE n = 0 ∧ t.rd LANE_CFG_EN n = 0)
    ∧ (∀ (s : State) (n : Fin 32) (w : LaneWord) (v : Word), s.sys.deferred = [] → s.thm.shut = false → (s.lane n).on = true →
      s.rd LANE_CFG_EN n = 1 →
      ∃ t, exec (.laneCfgShadowWrite n w v) s = .next t
      ∧ (w = .cfg → t.rd LANE_CFG_RATE n = LANE_CFG_RATE.of v ∧ t.lane n = s.lane n)
      ∧ (w = .rxLo → t.rd LANE_RX_FTW_LO n = LANE_RX_FTW_LO.of v) ∧ (w = .rxHi → t.rd LANE_RX_FTW_HI n = LANE_RX_FTW_HI.of v)
      ∧ (w = .rxPhase → t.rd LANE_RX_PHASE n = LANE_RX_PHASE.of v) ∧ (w = .txLo → t.rd LANE_TX_FTW_LO n = LANE_TX_FTW_LO.of v)
      ∧ (w = .txHi → t.rd LANE_TX_FTW_HI n = LANE_TX_FTW_HI.of v) ∧ (w = .txPhase → t.rd LANE_TX_PHASE n = LANE_TX_PHASE.of v)
      ∧ (w = .chf → t.rd CHF_SEL n = CHF_SEL.of v))
    ∧ (∀ (s u : State) (n : Fin 32) (ws : List (BitVec 14)) (a b : Nat), (s.lane n).active = true →
      u = s.toSample (evSAMPLE + n) n 1 →
      ∃ t, exec (.laneSample n ws a b) s = .next t ∧ t.now = u.now ∧ (t.lane n).refNo = u.sampleNo n)
    ∧ (∀ (s : State) (v : Word), s.sys.deferred = [] →
      ∃ t, exec (.chfRomRead v false) s = .next t ∧ t.rd CHF_ROM_PTR_TAP 0 = CHF_ROM_PTR_TAP.of v ∧ t.rd CHF_ROM_PTR_INDEX 0 = CHF_ROM_PTR_INDEX.of v)
    ∧ (∀ (s : State) (i : Fin 512),
      ∃ t, exec (.chfRomUncorr i) s = .next t ∧ t.rd CHF_UNC_VALID 0 = 1 ∧ t.rd CHF_UNC_INDEX 0 = i ∧ t.tst PG_ERR pgCHF 1 = true)
    ∧ (∀ (s : State) (n : Fin 32) (check : Bool) (phase : Fin 1024) (tap : Fin 16),
      ∃ t, exec (.rsmFault n check phase tap) s = .next t ∧ t.rd RSM_UNC_VALID 0 = 1 ∧ t.rd RSM_UNC_CHECK 0 = check.toNat
      ∧ t.rd RSM_UNC_LANE 0 = n ∧ t.tst PG_ERR pgRSM (if check then 2 else 1) = true)
    ∧ (∀ (s : State) (n : Fin 32) (v : Word), s.sys.deferred = [] → (s.lane n).on = true →
      ∃ t, exec (.rsmDelayWrite n v) s = .next t ∧ t.rd RSM_DELAY n = RSM_DELAY.of v ∧ t.rd RSM_STAT n = 1
      ∧ (t.lane n).delayNext = some (RSM_DELAY.of v, s.nextSample n 64))
    ∧ (∀ (s : State) (n : Fin 32) (d a : Nat), (s.lane n).delayNext = some (d, a) →
      ∃ t, exec (.rsmDelayApply n) s = .next t ∧ (t.lane n).delay = d ∧ (t.lane n).delayNext = none ∧ t.rd RSM_STAT n = 0
      ∧ t.now = max s.now a)

/-- Coupling paths, taps and canceller settings complete: each command answers a next state, which holds what its clause
gives. -/
def Obligations.PathCommandsComplete : Prop :=
    (∀ (s : State) (p : Fin 128) (v : Word), s.sys.deferred = [] → (s.path p).on = false →
      (s.wrWord pathFlds p (v ||| 0x80000000#32)).pathErr p = none →
      ∃ t, exec (.pathEnable p v) s = .next t ∧ (t.path p).on = true ∧ (t.path p).running = false
      ∧ (t.path p).startAt = (s.now / (ratePeriod (s.lane (victim p)).rate * 1024) + 1) * 1024
      ∧ t.rd CNX_PATH_STAT_ACTIVE p = 1 ∧ t.rd CNX_PATH_STAT_ERR p = 0 ∧ t.rd CNX_PATH_STAT_ISO_VALID p = 0
      ∧ t.rd CNX_PATH_STAT_EST_RESET p = 1 ∧ t.tst PG_INT_STAT pgCNX 0 = true)
    ∧ (∀ (s : State) (p : Fin 128), (s.path p).on = true → (s.path p).running = false →
      ∃ t, exec (.pathSubtractionStart p) s = .next t ∧ (t.path p).running = true
      ∧ t.now = max s.now ((s.path p).startAt * (s.lane (victim p)).period))
    ∧ (∀ (s : State) (p : Fin 128) (v : Word), s.sys.deferred = [] → (s.path p).on = true →
      ∃ t, exec (.pathDisable p v) s = .next t ∧ (t.path p).on = false ∧ t.rd CNX_PATH_CFG_EN p = 0
      ∧ t.rd CNX_PATH_STAT_ACTIVE p = 0 ∧ t.rd CNX_PATH_STAT_ISO_VALID p = 0)
    ∧ (∀ (s : State) (k : Fin 65536) (half : Bool) (v : Word), s.sys.deferred = [] → MemoryCanonical s →
      (s.clu (k / 32)).used = true → s.rd CNX_PATH_CFG_FREEZE (s.clu (k / 32)).path ≠ 0 →
      ∃ t, exec (.tapWrite k half v) s = .next t
      ∧ t.tap k = if half then ((s.tap k).1, sx 24 v.toNat) else (sx 24 v.toNat, (s.tap k).2))
    ∧ (∀ (s : State), s.sys.deferred = [] →
      ∃ t, exec .tapCountSnapshot s = .next t
      ∧ t.rd CNX_TAP_ALLOC 0 = s.cnx.tapsUsed % 2 ^ CNX_TAP_ALLOC.w
      ∧ t.rd CNX_TAP_FREE 0 = s.cnx.tapsFree % 2 ^ CNX_TAP_FREE.w)
    ∧ (∀ (s : State) (v : Word), s.sys.deferred = [] → (s.clu (s.rd CNX_CLU_PTR 0)).used = true →
      s.rd CNX_PATH_CFG_AUTO (s.clu (s.rd CNX_CLU_PTR 0)).path = 0 → -16 ≤ sx 16 v.toNat →
      sx 16 v.toNat + 31 ≤ posMax (s.lane (victim (s.clu (s.rd CNX_CLU_PTR 0)).path)).rate →
      (∀ d ∈ s.clustersOf (s.clu (s.rd CNX_CLU_PTR 0)).path, d ≠ s.rd CNX_CLU_PTR 0 →
      ((s.clu d).placed || (s.clu d).next.isSome) = true → 32 ≤ (sx 16 v.toNat - (s.clu d).next.getD (s.clu d).pos).natAbs) →
      ∃ t, exec (.clusterPositionWrite v) s = .next t ∧ (t.clu (s.rd CNX_CLU_PTR 0)).next = some (sx 16 v.toNat)
      ∧ (MemoryCanonical s → ∀ j < 32, t.tap (32 * s.rd CNX_CLU_PTR 0 + j) = (0, 0)))
    ∧ (∀ (s : State) (v : Word), s.sys.deferred = [] → 0x280 ≤ CNX_MARGIN.of v → CNX_MARGIN.of v ≤ 0xA00 →
      ∃ t, exec (.cnxMarginWrite v) s = .next t ∧ t.rd CNX_MARGIN 0 = CNX_MARGIN.of v)
    ∧ (∀ (s : State) (v : Word), s.sys.deferred = [] → 1 ≤ CNX_CEIL_RISE.of v → CNX_CEIL_RISE.of v ≤ 60 →
      ∃ t, exec (.cnxCeilRiseWrite v) s = .next t ∧ t.rd CNX_CEIL_RISE 0 = CNX_CEIL_RISE.of v)

/-- Sightline searches, adaptation, estimates and the isolation probe complete: each command answers a next state, which
holds what its clause gives. -/
def Obligations.SightlineAndAdaptationComplete : Prop :=
    (∀ (s : State) (v : Word), s.sys.deferred = [] → s.cnx.queue.length < 128 →
      ∃ t, exec (.searchGo v) s = .next t ∧ t.cnx.queue = s.cnx.queue ++ [(SLN_CTL_PATH.of v, .host)])
    ∧ (∀ (s : State) (p : Nat) (w : Why) (rest : List (Nat × Why)), s.rd SLN_CTL_HOLD 0 = 0 →
      s.cnx.search = none → (s.cnx.queue.filter fun e => (s.path e.1).on) = (p, w) :: rest → p < 128 →
      ∃ t, exec .searchStart s = .next t ∧ t.cnx.search = some (p, w) ∧ t.rd SLN_STAT_BUSY 0 = 1
      ∧ t.rd SLN_STAT_CUR_PATH 0 = p)
    ∧ (∀ (s : State) (p : Nat) (w : Why), s.cnx.search = some (p, w) → 2 ^ 16 ≤ s.cnx.corr.n →
      ∃ t, exec .searchComplete s = .next t ∧ t.rd SLN_STAT_BUSY 0 = 0
      ∧ t.rd SLN_STAT_SEARCH_CNT 0 = (s.rd SLN_STAT_SEARCH_CNT 0 + 1) % 2 ^ SLN_STAT_SEARCH_CNT.w
      ∧ t.now = max s.now (s.cnx.corrAt + usT 20))
    ∧ (∀ (s : State) (p : Fin 128) (c : Nat),
      ((s.clustersOf p).filter fun c => (s.clu c).retire == some 0) = [c] →
      ∃ t, exec (.oldClusterRetire p) s = .next t ∧ (t.clu c).role = .spare ∧ (t.clu c).retire = none)
    ∧ (∀ (s : State) (p : Nat) (w : Why), s.cnx.search = some (p, w) →
      ∃ t, exec .slnParityError s = .next t ∧ t.tst PG_ERR pgSLN 1 = true ∧ t.cnx.search = some (p, w))
    ∧ (∀ (s u : State) (n : Fin 32) (k : Fin 4), (∀ j : Fin 4, (s.path (4 * n + j)).on = decide (j = k)) →
      u = s.toSample (evTAP + n) n 1 → u.sampleNo n % 2 ^ (s.path (4 * n + k)).upd = 0 →
      (u.setPath (4 * n + k) fun x => { x with refLow := u.refQuiet (4 * n + k) }).frozen (4 * n + k) = false →
      ∃ t, exec (.tapUpdate n 0) s = .next t ∧ t.now = u.now ∧ (t.path (4 * n + k)).refLow = u.refQuiet (4 * n + k)
      ∧ t.mem = ((u.setPath (4 * n + k) fun x => { x with refLow := u.refQuiet (4 * n + k) }).lms (4 * n + k) (u.sampleNo n)).mem)
    ∧ (∀ (s u : State) (n : Fin 32), (∀ p ∈ lanePaths n, (s.path p).on = false) →
      s.performing = true → u = (s.toSample (evBLOCK + n) n 1024).outBlock n →
      ∃ t, exec (.estimateBlock n) s = .next t ∧ t.now = u.now
      ∧ t.gcOf n = (if u.target n < u.gcOf n then max (u.target n) gMin
      else max gMin (min (min (u.target n) (u.gcOf n + u.riseStep n)) gMax))
      ∧ t.rd LANE_GAIN_LIMIT n = gainCode (t.gcOf n) % 2 ^ LANE_GAIN_LIMIT.w)
    ∧ (∀ (s : State) (p : Fin 128), (s.path p).on = true → 2 ^ 20 ≤ (s.path p).probe.n →
      ∃ t, exec (.probeIntegrationEnd p) s = .next t
      ∧ (∀ h, h = (if ((s.path p).probe.lagPow (s.path p).probe.h).any (fun v => decide (10 * (s.path p).probe.noise < v)) then
      sumNat ((s.path p).probe.lagPow (s.path p).probe.h) else 10 * (s.path p).probe.noise) →
      (t.path p).hProbe = levelOf h
      ∧ (t.path p).xProbe = some (dBpow (max 1 h) (max 1 (sumNat ((s.path p).probe.lagPow (s.path p).probe.r)))))
      ∧ (t.path p).probe = {} ∧ t.rd CNX_PATH_STAT_ISO_VALID p = 1
      ∧ t.rd CNX_PATH_STAT_FLOOR p
      = (!((s.path p).probe.lagPow (s.path p).probe.h).any fun v => decide (10 * (s.path p).probe.noise < v)).toNat)
    ∧ (∀ (s : State) (k : Fin 2048), MemoryCanonical s →
      ∃ t, exec (.tapMemoryUncorr k) s = .next t ∧ t.tst PG_ERR pgCNX 1 = true
      ∧ ∀ j < 32, t.tap (32 * k + j) = (0, 0))

/-- Reference streams complete: each command answers a next state, which holds what its clause gives. -/
def Obligations.StreamCommandsComplete : Prop :=
    (∀ (s : State) (k : Fin 8) (v : Word), s.sys.deferred = [] → s.rd CNX_STX_CFG_EN k = 0 →
      s.rd LANE_STAT_ACTIVE (CNX_STX_CFG_LANE.of v) ≠ 0 → (s.lane (CNX_STX_CFG_LANE.of v)).txEn = true → CNX_STX_CFG_SHIFT.of v ≠ 7 →
      s.streamRoute (CNX_STX_CFG_DIR.of v) (CNX_STX_CFG_HOPS.of v) = true →
      s.arcFits ⟨dirPort (CNX_STX_CFG_DIR.of v), s.devId, k, (s.lane (CNX_STX_CFG_LANE.of v)).rate⟩ = true →
      ∃ t, exec (.streamEnable k v) s = .next t ∧ (t.stx k).pending = true ∧ t.rd CNX_STX_CFG_EN k = 1
      ∧ t.rd CNX_STX_CFG_LANE k = CNX_STX_CFG_LANE.of v)
    ∧ (∀ (s : State) (k : Fin 8) (arc : Fin 4), (s.stx k).pending = true →
      (∃ t, exec (.streamReservationResult k true arc) s = .next t ∧ t.rd CNX_STX_STAT_ACTIVE k = 1 ∧ t.rd CNX_STX_STAT_ERR k = 0
      ∧ (t.stx k).pending = false)
      ∧ (CNX_STX_CFG_HOPS.of (s.stx k).cfg ≠ 1 →
      ∃ t, exec (.streamReservationResult k false arc) s = .next t ∧ t.rd CNX_STX_CFG_EN k = 0 ∧ t.rd CNX_STX_STAT_ERR k = 3
      ∧ t.rd CNX_STX_STAT_ARC k = arc))
    ∧ (∀ (s : State) (k : Fin 8) (v : Word), s.sys.deferred = [] →
      ∃ t, exec (.streamDisable k v) s = .next t ∧ t.rd CNX_STX_STAT_ACTIVE k = 0 ∧ (t.stx k).pending = false
      ∧ t.rd CNX_STX_CFG_EN k = 0)
    ∧ (∀ (s : State) (k : Fin 8) (v : Word), s.sys.deferred = [] →
      ∃ t, exec (.streamRxEnable k v) s = .next t ∧ t.rd CNX_SRX_CFG_EN k = 1
      ∧ t.rd CNX_SRX_CFG_SRC_SLOT k = CNX_SRX_CFG_SRC_SLOT.of (v ||| 0x80000000#32)
      ∧ t.rd CNX_SRX_CFG_SRC_DEV k = CNX_SRX_CFG_SRC_DEV.of (v ||| 0x80000000#32))
    ∧ (∀ (s : State) (f : StreamFrame) (k : Fin 8),
      (∀ j : Fin 8, (s.rd CNX_SRX_CFG_EN j ≠ 0 ∧ s.rd CNX_SRX_CFG_SRC_DEV j = f.dev ∧ s.rd CNX_SRX_CFG_SRC_SLOT j = f.slot) ↔ j = k) →
      f.hops = 0 →
      ∃ t, exec (.streamFrameReceived f) s = .next t ∧ (t.srx k).lastFrame = some s.now ∧ (t.srx k).seed = f.seed
      ∧ (t.srx k).level = f.level ∧ t.rd CNX_SRX_STAT_CURTAIN k = f.curtain.toNat)
    ∧ (∀ (s : State) (k : Fin 8) (a : Nat), (s.srx k).lastFrame = some a → s.rd CNX_SRX_CFG_EN k ≠ 0 →
      s.rd CNX_SRX_STAT_LOST k = 0 →
      ∃ t, exec (.streamLost k) s = .next t ∧ t.rd CNX_SRX_STAT_LOST k = 1 ∧ t.rd CNX_SRX_STAT_ACTIVE k = 0
      ∧ t.now = max s.now (a + usT 2) ∧ t.tst PG_ERR pgCNX 3 = true ∧ (t.fcSrc 29).stand.getLsbD 3 = true)
    ∧ (∀ (s : State) (k : Fin 8), s.rd CNX_SRX_STAT_LOST k ≠ 0 →
      ∃ t, exec (.streamRestored k) s = .next t ∧ t.rd CNX_SRX_STAT_LOST k = 0 ∧ t.rd CNX_SRX_STAT_ACTIVE k = 1
      ∧ (t.srx k).lastFrame = some s.now ∧ t.tst PG_INT_STAT pgCNX 4 = true)

/-- Spotlight and measurement commands complete: each command answers a next state, which holds what its clause gives.
-/
def Obligations.SpotlightCommandsComplete : Prop :=
    (∀ (s u : State) (k : Fin 16) (v : Word) (c : SptCfg), s.sys.deferred = [] → s.armed (16 + k) = false →
      u = (s.wrWord (sptCfgFlds (16 + k)) k (v ||| 0x80000000#32)).int pgSPT 0 →
      c = ⟨(v ||| 0x80000000#32).getLsbD 30, u.rd SPT_LANE_CFG_RES k, sx 14 (u.rd SPT_LANE_CFG_FIRST k),
      u.rd SPT_LANE_MAP_BASE k, u.rd SPT_LANE_MAP_COUNT k⟩ → u.sptErr (16 + k) c = none →
      ∃ t, exec (.sptArm k v) s = .next t ∧ t.armed (16 + k) = true ∧ t.rd SPT_LANE_STAT_ERR k = 0)
    ∧ (∀ (s u : State) (n : Fin 16) (v : Word) (c : SptCfg), s.sys.deferred = [] → s.armed n = false →
      u = (s.wrWord (sptCfgFlds n) n (v ||| 0x80000000#32)).int pgMEAS 0 →
      c = ⟨false, u.rd MEAS_LANE_CFG_RES n, sx 14 (u.rd MEAS_LANE_CFG_FIRST n),
      u.rd MEAS_LANE_MAP_BASE n, u.rd MEAS_LANE_MAP_COUNT n⟩ → u.sptErr n c = none →
      ∃ t, exec (.measArm n v) s = .next t ∧ t.armed n = true ∧ t.rd MEAS_LANE_STAT_ERR n = 0)
    ∧ (∀ (s : State) (n : Fin 32) (v : Word), s.sys.deferred = [] → s.armed n = true → s.gating n = false → (s.lane n).on = false →
      ∃ t, exec (.sptDisarm n v) s = .next t ∧ t.armed n = false)
    ∧ (∀ (s : State) (n : Fin 32) (ecc : Nat), s.measuring n = true →
      (s.lane n).active = true → (s.sl n).started = true → (s.sl n).disarm = none →
      ∃ t, exec (.decisionWindowClose n ecc) s = .next t ∧ t.now = max s.now (s.winEnd n)
      ∧ (t.sl n).win = (s.sl n).win + 1)
    ∧ (∀ (s : State) (c : Fin 32768) (f : Nat), (s.ctx c).runFrom = some f → s.rd SPT_MON 0 ≠ 0 →
      (s.ctx c).stuck = false → ctlMode (s.ctx c).force = 0 → c.val < 16384 → (s.ctxLane c).isSome = true →
      ∃ t, exec (.contextStuck c) s = .next t ∧ (t.ctx c).stuck = true ∧ t.tst PG_INT_STAT pgSPT 2 = true
      ∧ t.now = max s.now (f + secT (s.rd SPT_MON 0)))
    ∧ (∀ (s : State) (c : Fin 32768) (v : Word), s.sys.deferred = [] → 0x0C ≤ bits v 8 8 → bits v 8 8 ≤ 0x78 → ctlMode v ≠ 3 →
      ∃ t, exec (.contextCtlWrite c 0 v) s = .next t ∧ (t.ctx c).ctl = v &&& 0xFFFFFF03#32)
    ∧ (∀ (s : State) (dn : Bool) (v : Word) (n : Nat), s.sys.deferred = [] →
      (s.ctxLane (bits (v ||| 0x40000000#32) 0 14 + if dn then 16384 else 0)) = some n → s.measuring n = true → n < 32 →
      ∃ t, exec (.contextSnapshotGo dn v) s = .next t ∧ t.rd (if dn then MEAS_SNAP_DONE else SPT_SNAP_DONE) 0 = 0
      ∧ (if dn then t.spt.snapDn else t.spt.snapUp) = some (bits (v ||| 0x40000000#32) 0 14, (s.sl n).win))
    ∧ (∀ (s : State) (dn : Bool) (c w n : Nat), (if dn then s.spt.snapDn else s.spt.snapUp) = some (c, w) →
      s.ctxLane (c + if dn then 16384 else 0) = some n → w < (s.sl n).win →
      ∃ t, exec (.contextSnapshotDone dn) s = .next t ∧ t.rd (if dn then MEAS_SNAP_DONE else SPT_SNAP_DONE) 0 = 1
      ∧ (if dn then t.spt.snapDn else t.spt.snapUp) = none)
    ∧ (∀ (s : State) (c : Fin 32768),
      ∃ t, exec (.contextMemoryUncorr false c) s = .next t ∧ t.ctx c = (s.ctx c).fresh s.spt.gen 256
      ∧ t.tst PG_ERR (if 16384 ≤ c.val then pgMEAS else pgSPT) 1 = true)

/-- Port commands, frame boundaries and turn-rounds complete: each command answers a next state, which holds what its
clause gives. -/
def Obligations.PortCommandsComplete : Prop :=
    (∀ (s : State),
      ∃ t, exec .frameBoundary s = .next t
      ∧ t.now = if s.time.idx % 9830400 = 0 ∧ s.due evFRAME = true then s.now else max s.now s.frameEnd)
    ∧ (∀ (s : State) (m : Fin 8) (tx : Bool) (d : Nat), s.tddPort m = true → s.useEnd m tx = some d →
      ∃ t, exec (.portUseEnd m tx) s = .next t ∧ (t.rport m).use = .none ∧ t.now = s.now + d)
    ∧ (∀ (s : State), s.time.refFail = false →
      ∃ t, exec .refInFail s = .next t ∧ t.rd TIME_STAT_DEGRADED 0 = 1 ∧ t.timeState = 0)
    ∧ (∀ (s : State), s.time.refFail = true →
      ∃ t, exec .refInRecovered s = .next t ∧ t.rd TIME_STAT_DEGRADED 0 = 0)
    ∧ (∀ (s : State) (m : Fin 8) (v : Word), s.sys.deferred = [] →
      ∃ t, exec (.portCmdOff m v) s = .next t ∧ t.portTarget m = 0 ∧ t.portState m = stOFF ∧ t.rd RFC_PORT_STAT_BUSY m = 0
      ∧ t.rd RFC_PORT_STAT_RESULT m = 1)
    ∧ (∀ (s : State) (m : Fin 8) (v : Word), s.sys.deferred = [] → s.portState m = stRX → (s.rport m).settle = none → (s.rport m).entry = false →
      ∃ t, exec (.portCmdRx m v) s = .next t ∧ t.portTarget m = 1 ∧ t.rd RFC_PORT_STAT_BUSY m = 0
      ∧ t.rd RFC_PORT_STAT_RESULT m = 1)
    ∧ (∀ (s : State) (m : Fin 8) (v : Word), s.sys.deferred = [] → s.portState m = stRX → (s.rport m).settle = none → (s.rport m).entry = false →
      s.performing = false → s.synHold m = false → s.synBusy 0 = false → s.synBusy 1 = false →
      ∃ t, exec (.portCmdTx m v) s = .next t ∧ t.portTarget m = 2 ∧ t.rd RFC_PORT_STAT_BUSY m = 0
      ∧ t.rd RFC_PORT_STAT_RESULT m = 1)
    ∧ (∀ (s : State) (m : Fin 8) (x : Turn), (s.rport m).turn = some x → x.next < (if x.toTx then 3 else 4) →
      ∃ t, exec (.turnRoundLineEvent m) s = .next t ∧ (t.rport m).turn = some { x with next := x.next + 1 }
      ∧ t.now = max s.now (x.t0 + nsT (turnNs x.toTx x.next)))
    ∧ (∀ (s : State) (m : Fin 8) (x : Turn), (s.rport m).turn = some x → x.toTx = true → s.tddPort m = true →
      s.portState m ≠ stCAL →
      ∃ t, exec (.turnRoundComplete m) s = .next t ∧ t.portState m = stTX ∧ (t.rport m).turn = none
      ∧ t.now = max s.now (x.t0 + nsT 1750))

/-- Timeouts of ports, attenuator shifts and port use complete: each command answers a next state, which holds what its
clause gives. -/
def Obligations.PortEventsComplete : Prop :=
    (∀ (s : State) (m : Fin 8) (a : Nat), (s.rport m).settle = some a → s.portState m = stRX →
      ∃ t, exec (.paSettleExpiry m) s = .next t ∧ (t.rport m).settle = none ∧ t.portState m = stTX ∧ t.now = max s.now (s.releaseAt m a))
    ∧ (∀ (s u : State) (m : Fin 8) (a : Nat), (s.rport m).txEnd = some a →
      u = (s.reach (a + usT 10)).setRport m (fun r => { r with txEnd := none }) → u.tddPort m = true → u.paen m = true → (u.rport m).use ≠ .tx →
      ∃ t, exec (.txTimeoutTdd m) s = .next t ∧ t.cause m cTXTO = true ∧ t.now = max s.now (a + usT 10)
      ∧ t.rd RFC_PORT_TXTO_CNT m = min (s.rd RFC_PORT_TXTO_CNT m + 1) (2 ^ RFC_PORT_TXTO_CNT.w - 1))
    ∧ (∀ (s : State) (m : Fin 8) (a : Nat), (s.rport m).lossFrom = some a → (s.rport m).lossHit = false →
      ∃ t, exec (.presenceLossTimeout m) s = .next t ∧ t.cause m cTXTO = true ∧ t.now = max s.now (a + s.rd RFC_CFG 0 * msT 100)
      ∧ t.rd RFC_PORT_TXTO_CNT m = min (s.rd RFC_PORT_TXTO_CNT m + 1) (2 ^ RFC_PORT_TXTO_CNT.w - 1))
    ∧ (∀ (s : State) (x : Fin 2), s.sys.deferred = [] → s.rd ATTN_CFG_OWNER x = 0 → s.rd ATTN_CFG_LEN x ≠ 0 → s.rd ATTN_STAT_BUSY x = 0 →
      ∃ t, exec (.attnGo x) s = .next t ∧ t.rd ATTN_STAT_BUSY x = 1 ∧ (t.attn x).shifting = true ∧ (t.attn x).frame = s.attnWord x
      ∧ (t.attn x).doneAt = s.now + (2 * s.rd ATTN_CFG_LEN x + 5) * s.rd ATTN_CFG_DIV x)
    ∧ (∀ (s : State) (x : Fin 2), (s.attn x).shifting = true → s.rd ATTN_CFG_LATCH x ≠ 0 →
      ∃ t, exec (.attnShiftDone x) s = .next t ∧ (t.attn x).shifting = false ∧ (t.attn x).awaiting = true ∧ t.now = max s.now (s.attn x).doneAt)
    ∧ (∀ (s : State) (x : Fin 2), (s.attn x).awaiting = true → s.rd ATTN_CFG_LATCH x = 2 → (s.attn x).held = none →
      ∃ t, exec (.attnLatch x) s = .next t ∧ (t.attn x).latched = (s.attn x).bits ∧ t.rd ATTN_STAT_BUSY x = 0 ∧ (t.attn x).awaiting = false
      ∧ t.now = max s.now (s.frameAfterTick (s.attn x).doneAt))
    ∧ (∀ (s : State) (m : Fin 8) (parity : Bool),
      ∃ t, exec (.rfcLineMismatch m parity) s = .next t ∧ (t.rport m).lineFault = true ∧ t.tst PG_ERR pgRFC (if parity then 2 else 1) = true)
    ∧ (∀ (s : State) (m : Fin 8) (d : Nat) (tx : Bool), s.tddPort m = true → s.nextUse m = some (d, tx) →
      s.rd RFC_PORT_CFG_COEX m = 0 →
      ∃ t, exec (.portUseStart m) s = .next t ∧ (t.rport m).use = (if tx then .tx else .rx) ∧ t.now = s.now + d)

/-- History, first format, reshape and the upkeep of the medium complete: each command answers a next state, which holds
what its clause gives. -/
def Obligations.StorageMediumComplete : Prop :=
    (∀ (s u : State), u = s.toMul evHIST 0 (histTicks s.stm.histT) →
      s.rd STM_HIST_CFG_EN 0 = 1 → s.stm.histUnits ≠ 0 → s.rd STM_STAT_MEDIUM 0 = medOWN → s.rd STM_STAT_READY 0 = 1 →
      s.stm.work = [] → s.ahead 5 = false →
      ∃ t, exec (.historyIntervalBoundary 0) s = .next t ∧ t.spt.gen = s.spt.gen + 1 ∧ t.spt.boundAt = u.now
      ∧ t.stm.histNext = s.stm.histNext + 1 ∧ t.stm.work = [])
    ∧ (∀ (s : State) (m : MediumInfo), s.rd STM_STAT_READY 0 = 0 → m.kind = .blank →
      ∃ t, exec (.storageReady m) s = .next t ∧ t.rd STM_STAT_READY 0 = 1 ∧ t.rd STM_STAT_MEDIUM 0 = medBLANK
      ∧ t.rd STM_GEOM_RAW 0 = m.raw % 2 ^ STM_GEOM_RAW.w ∧ t.stm.hist = [] ∧ t.stm.snaps = [] ∧ t.pb.book = [])
    ∧ (∀ (s : State), s.sys.deferred = [] → s.sys.dark = false → s.stm.format = false → s.fmtErr false = none →
      ∃ t, exec .formatGo s = .next t ∧ t.stm.format = true ∧ t.stm.reshape = false ∧ t.rd STM_FMT_STAT_BUSY 0 = 1
      ∧ t.rd STM_FMT_STAT_DONE 0 = 0 ∧ t.rd STM_FMT_STAT_ERR 0 = 0)
    ∧ (∀ (s : State), s.sys.deferred = [] → s.stm.format = false → s.fmtErr true = none →
      ∃ t, exec .reshape s = .next t ∧ t.stm.format = true ∧ t.stm.reshape = true ∧ t.rd STM_FMT_STAT_BUSY 0 = 1
      ∧ t.rd STM_FMT_STAT_DONE 0 = 0 ∧ t.rd STM_FMT_STAT_ERR 0 = 0)
    ∧ (∀ (s : State) (bad : Nat), s.stm.format = true → s.stm.reshape = false →
      ∃ t, exec (.formatDone bad) s = .next t ∧ t.rd STM_STAT_MEDIUM 0 = medOWN ∧ t.rd STM_FMT_STAT_BUSY 0 = 0
      ∧ t.rd STM_FMT_STAT_DONE 0 = 1 ∧ t.stm.format = false ∧ t.stm.hist = [])
    ∧ (∀ (s : State) (part : Fin 5) (unit : Nat) (copies : List (List (BitVec 36608))),
      (∀ c ∈ copies, s.decodeCopy part unit c = .failed) →
      ∃ t, exec (.codewordUncorrectable part unit copies) s = .next t
      ∧ t.rd STM_ECC_UNC 0 = min (s.rd STM_ECC_UNC 0 + 1) (2 ^ STM_ECC_UNC.w - 1) ∧ t.rd STM_UNC_PART 0 = part
      ∧ t.rd STM_UNC_UNIT 0 = unit % 2 ^ STM_UNC_UNIT.w
      ∧ t.rd STM_REFRESH_CNT 0 = min (s.rd STM_REFRESH_CNT 0 + 1) (2 ^ STM_REFRESH_CNT.w - 1))
    ∧ (∀ (s : State) (n : Nat) (pslc : Bool) (mx mean : Nat), s.stm.work = [] → s.ahead 6 = false →
      s.rd STM_LIMITS_RD_LIM 0 * (if pslc then 10000 else 1000) ≤ n →
      ∃ t, exec (.blockRefresh (.reads n) pslc mx mean) s = .next t
      ∧ t.rd STM_REFRESH_CNT 0 = min (s.rd STM_REFRESH_CNT 0 + 1) (2 ^ STM_REFRESH_CNT.w - 1)
      ∧ t.rd STM_RD_DIST_CNT 0 = min (s.rd STM_RD_DIST_CNT 0 + 1) (2 ^ STM_RD_DIST_CNT.w - 1)
      ∧ t.stm.erases = s.stm.erases + 1)
    ∧ (∀ (s : State) (erase pslc : Bool) (ch : Fin 2) (ce : Fin 4) (lun : Fin 16) (block : Word) (spare : Nat),
      ∃ t, exec (.blockRetire erase pslc ch ce lun block spare) s = .next t
      ∧ t.rd STM_RETIRED 0 = min (s.rd STM_RETIRED 0 + 1) (2 ^ STM_RETIRED.w - 1)
      ∧ t.rd STM_SPARE 0 = spare % 2 ^ STM_SPARE.w)
    ∧ (∀ (s : State), s.stm.work = [] → s.ahead 7 = false →
      ∃ t, exec .scrubPassComplete s = .next t
      ∧ t.rd STM_SCRUB_STAT_PASSES 0 = min (s.rd STM_SCRUB_STAT_PASSES 0 + 1) (2 ^ STM_SCRUB_STAT_PASSES.w - 1)
      ∧ t.rd STM_SCRUB_STAT_PROGRESS 0 = 0 ∧ t.rd STM_SCRUB_AGE 0 = 0 ∧ t.stm.scrubAt = s.now)
    ∧ (∀ (s : State), s.stm.erases < 8192 →
      ∃ t, exec .wearCheckpoint s = .next t ∧ t.stm.erases = 0 ∧ t.now = max s.now (s.stm.checkAt + secT 3600)
      ∧ t.stm.checkAt = t.now)

/-- Channel timeouts and snapshot captures complete: each command answers a next state, which holds what its clause
gives. -/
def Obligations.SnapshotCaptureComplete : Prop :=
    (∀ (s : State), s.rd STM_STAT_MIRROR 0 = 1 →
      ∃ t, exec .ceBusyTimeout s = .next t ∧ t.rd STM_STAT_SINGLE 0 = 1 ∧ t.tst PG_ERR pgSTM 5 = true)
    ∧ (∀ (s : State) (v : Word), s.sys.deferred = [] → STM_CAP_CFG_POINT.of v ≠ 3 → 1 ≤ STM_CAP_CFG_SEV_MIN.of v → STM_CAP_CFG_SEV_MIN.of v ≤ 4 →
      s.rd STM_CAP_STAT 0 = capIDLE → s.stm.snapUnits ≠ 0 → ((List.range 32).filter (s.rd STM_CAP_LANES 0).testBit).length ≠ 0 →
      ((List.range 32).filter (s.rd STM_CAP_LANES 0).testBit).length ≤ 8 →
      ∃ t, exec (.snapshotArm v) s = .next t ∧ t.rd STM_CAP_STAT 0 = capFILLING ∧ t.rd STM_CAP_CFG_ARM 0 = 1
      ∧ t.stm.capLanes = BitVec.ofNat 32 (s.rd STM_CAP_LANES 0) ∧ t.stm.capFillAt = s.now)
    ∧ (∀ (s : State) (b : Fin 4), s.tst STM_CAP_CFG_TRIG 0 b = true → s.rd STM_CAP_STAT 0 = capFILLING →
      s.stm.capLastAt = none →
      ∃ t, exec (.snapshotTrigger b) s = .next t ∧ t.rd STM_CAP_STAT 0 = capPOST ∧ t.stm.capTrigAt = s.now
      ∧ t.stm.capCauses = BitVec.ofNat 4 (2 ^ b.val))
    ∧ (∀ (s : State), s.sys.deferred = [] → s.tst STM_CAP_CFG_TRIG 0 2 = true → s.rd STM_CAP_STAT 0 = capFILLING →
      s.stm.capLastAt = none →
      ∃ t, exec .snapshotHostTrigger s = .next t ∧ t.rd STM_CAP_STAT 0 = capPOST ∧ t.stm.capTrigAt = s.now
      ∧ t.stm.capCauses = 4)
    ∧ (∀ (s : State), s.rd STM_CAP_STAT 0 = capPOST →
      ∃ t, exec .snapshotFillComplete s = .next t ∧ t.rd STM_CAP_STAT 0 = capWRITING ∧ s.now ≤ t.now)
    ∧ (∀ (s : State), s.rd STM_CAP_STAT 0 = capWRITING → s.rd STM_CAP_CFG_ARM 0 = 0 →
      s.stm.work = [] → s.ahead 4 = false →
      ∃ t, exec .snapshotStored s = .next t ∧ t.rd STM_CAP_STAT 0 = capIDLE ∧ t.stm.snapNext = s.stm.snapNext + 1)

/-- The detectors of network protection complete: each command answers a next state, which holds what its clause gives.
-/
def Obligations.ProtectionEventsComplete : Prop :=
    (∀ (s : State) (n : Fin 32), (s.lane n).active = true → (s.lane n).txEn = true → (s.lane n).tx < 8 →
      (s.lane n).osc.grow = true →
      ∃ t, exec (.oscillationGrowth n) s = .next t ∧ t.cause (s.lane n).tx cOSC = true ∧ t.tst PG_ERR pgPROT 1 = true)
    ∧ (∀ (s : State) (n : Fin 32), (s.lane n).active = true → (s.lane n).txEn = true → (s.lane n).tx < 8 →
      (s.lane n).osc.line = true →
      ∃ t, exec (.oscillationLine n) s = .next t ∧ t.cause (s.lane n).tx cOSC = true ∧ t.tst PG_ERR pgPROT 1 = true)
    ∧ (∀ (s : State) (m : Fin 8), s.rd CONVTX_CFG_EN m ≠ 0 → (s.cv (8 + m)).odMet = true →
      ∃ t, exec (.overdriveDetected m) s = .next t ∧ t.cause m cOVERDRIVE = true ∧ t.tst PG_ERR pgPROT 4 = true)
    ∧ (∀ (s : State) (m : Fin 8) (b : Fin 4), s.rd CONVTX_CFG_EN m ≠ 0 →
      (s.cv (8 + m)).emMet.getLsbD b = true →
      ∃ t, exec (.emissionDetected m b) s = .next t ∧ t.cause m cEMISSION = true ∧ t.tst PG_ERR pgPROT 3 = true)

/-- Requests, lifts and back-offs of the Curtain complete: each command answers a next state, which holds what its
clause gives. -/
def Obligations.CurtainCommandsComplete : Prop :=
    (∀ (s : State) (v : Word) (m : Fin 8), s.sys.deferred = [] → CUR_HOST_ALL.of v = 0 → (CUR_HOST_SHUT.of v).testBit m = true →
      s.cause m cHOST = false →
      ∃ t, exec (.remoteShutdown v) s = .next t ∧ t.cause m cHOST = true ∧ t.rd CUR_HOST_SHUT 0 = CUR_HOST_SHUT.of v)
    ∧ (∀ (s : State) (v : Word) (m : Fin 8), s.sys.deferred = [] → CUR_HOST_ALL.of v = 0 → (CUR_HOST_SHUT.of v).testBit m = false →
      s.cause m cHOST = true →
      ∃ t, exec (.remoteShutdownClear v) s = .next t ∧ t.cause m cHOST = false ∧ t.rd CUR_HOST_SHUT 0 = CUR_HOST_SHUT.of v)
    ∧ (∀ (s : State) (ports : BitVec 8) (m : Nat), (portList ports).filter (fun m => (s.cport m).completing) = [m] →
      ∃ t, exec (.curtainComplete ports) s = .next t ∧ t.tst CUR_STAT_DOWN 0 m = true ∧ t.tst PG_INT_STAT pgCUR 0 = true)
    ∧ (∀ (s : State) (m : Fin 8) (b : Fin 7) (n q : Nat), causeOwner b = some n → s.quietLen n = some q →
      (s.cport m).completing = false → s.cause m b = true → s.quietReady m b = true → b.val ≠ cTHERM → n = 17 →
      ∃ t, exec (.portQuietPeriodEnd m b) s = .next t ∧ t.cause m b = false)
    ∧ (∀ (s : State) (m : Fin 8), (s.cport m).lift = .due → s.causes m = [] → s.held m = false → (s.cport m).counted = false →
      ∃ t, exec (.liftStart m) s = .next t ∧ (t.cport m).lift = (if s.tddPort m then .waitTurn else .settle s.now))
    ∧ (∀ (s : State) (m : Fin 8) (a : Nat), (s.cport m).lift = .settle a → s.held m = false →
      ∃ t, exec (.liftComplete m) s = .next t ∧ t.tst CUR_STAT_DOWN 0 m = false ∧ t.rd CUR_CAUSE_LIFTING m = 0
      ∧ t.now = max s.now (s.releaseAt m a))
    ∧ (∀ (s : State) (v : Word) (m : Fin 8), s.sys.deferred = [] → portList (BitVec.ofNat 8 (CUR_RELEASE_PORTS.of (v &&& 0xFF#32))) = [m.val] →
      s.causes m = [cLATCH] →
      ∃ t, exec (.curtainRelease v) s = .next t ∧ t.cause m cLATCH = false)
    ∧ (∀ (s : State) (v : Word) (m : Fin 8), s.sys.deferred = [] → portList (BitVec.ofNat 8 (CUR_RELEASE_PORTS.of (v ||| 0x100#32))) = [m.val] →
      s.cause m cLATCH = false →
      ∃ t, exec (.clearLiftHistory v) s = .next t ∧ (t.cport m).hist = [])
    ∧ (∀ (s u : State) (n : Fin 32), (s.lane n).cap.isSome = true → u = (s.toSample (evCAP + n) n 1024).bringCap n →
      min (u.lane n).request (u.rd LANE_GAIN_LIMIT n) * tps ≤ (u.lane n).cap.getD 0 →
      ∃ t, exec (.backoffEnd n) s = .next t ∧ (t.lane n).cap = none ∧ t.rd PROT_LANE_STAT_BACKOFF n = 0 ∧ t.now = u.now)

/-- Time snapshots, detectors, holdover and calendar complete: each command answers a next state, which holds what its
clause gives. -/
def Obligations.TimeLoopComplete : Prop :=
    (∀ (s : State), s.sys.deferred = [] →
      ∃ t, exec .timeSnapshot s = .next t ∧ t.rd TIME_TOD_SEC 0 = s.time.sec % 2 ^ 32
      ∧ t.rd TIME_TOD_FRAC 0 = (roundDiv (s.time.idx * 2 ^ 32 : Nat) tps).toNat % 2 ^ 32 ∧ t.rd TIME_FRAME 0 = s.frameNo % 1024
      ∧ t.time.snapTick = s.now)
    ∧ (∀ (s : State) (kv : BitVec 16) (a : Nat), s.time.kvSince = some a →
      ∃ t, exec (.kvMeasurementDone kv) s = .next t ∧ t.rd TIME_OSC_KV 0 = kv.toNat ∧ t.time.kvSince = none
      ∧ t.now = max s.now (a + msT 200))
    ∧ (∀ (s : State) (k : Fin 4) (v : Word), s.sys.deferred = [] → s.rd TIME_DET_STAT_STATE k = 0 →
      (s.wrWord detFlds k (v ||| 0x80000000#32)).detErr k (v ||| 0x80000000#32) = none →
      ∃ t, exec (.timeDetectorEnable k v) s = .next t ∧ t.rd TIME_DET_STAT_STATE k = 1 ∧ t.rd TIME_DET_STAT_ERR k = 0
      ∧ t.rd TIME_DET_CFG_EN k = 1)
    ∧ (∀ (s : State) (k : Fin 4) (pci : BitVec 10) (sinr : BitVec 8) (ph fe : Int), s.rd TIME_DET_STAT_STATE k ≠ 0 →
      s.rd TIME_DET_CFG_PCI k = 0x3FF ∨ s.rd TIME_DET_CFG_PCI k = pci.toNat →
      ∃ t, exec (.syncDetection k pci sinr ph fe) s = .next t ∧ t.rd TIME_DET_STAT_STATE k = 2 ∧ t.rd TIME_DET_STAT_PCI k = pci.toNat
      ∧ t.rd TIME_DET_STAT_SINR k = sinr.toNat)
    ∧ (∀ (s : State) (a : Nat), s.time.goodSince = some a → s.timeState = 2 →
      ∃ t, exec .timeLocked s = .next t ∧ t.timeState = 3 ∧ t.now = max s.now (a + secT 10))
    ∧ (∀ (s : State) (k : Fin 4), s.detOn k = true →
      ∃ t, exec (.detectorLost k) s = .next t ∧ t.rd TIME_DET_STAT_STATE k = 3
      ∧ t.now = max s.now ((s.time.det.get {} k).lastAt + msT (50 * s.rd TIME_LOOP_LOSS 0)))
    ∧ (∀ (s u : State), s.timeState = 4 → u = s.toMul evHOLD s.time.holdAt 983040 →
      u.holdE (u.now - s.time.holdAt) ≤ (u.rd TIME_HOLD_BUDGET 0 : Rat) →
      ∃ t, exec .holdoverEvaluation s = .next t ∧ t.rd TIME_HOLD_STAT_T 0 = min 0xFFFF ((u.now - s.time.holdAt) / tps)
      ∧ t.rd TIME_HOLD_STAT_E 0 = min 0xFFFF (roundRat (u.holdE (u.now - s.time.holdAt))).toNat ∧ t.timeState = 4)
    ∧ (∀ (s : State), s.sys.deferred = [] → s.isRef = true →
      ∃ t, exec .calendarSetGo s = .next t ∧ t.time.calSet = some (s.now, none))
    ∧ (∀ (s : State) (a : Nat) (named : Option Nat), s.time.calSet = some (a, named) →
      ∃ t, exec .calendarSetApply s = .next t ∧ t.time.calSet = none ∧ t.rd TIME_STAT_CAL_SET 0 = 1 ∧ t.tst PG_INT_STAT pgTIME 3 = true)
    ∧ (∀ (s : State), s.sys.deferred = [] → s.isRef = true →
      ∃ t, exec .realign s = .next t ∧ t.time.realign = (s.time.held != 0))

/-- Pulses, time messages and the understudy complete: each command answers a next state, which holds what its clause
gives. -/
def Obligations.TimeMessagesComplete : Prop :=
    (∀ (s : State), s.rd TIME_PPSO_EN 0 ≠ 0 → s.rd TIME_PPSO_GATE 0 = 0 →
      ∃ t, exec .ppsOutPulse s = .next t ∧ t.time.ppsHigh = some (t.now + usT (10 * s.rd TIME_PPSO_WIDTH 0)))
    ∧ (∀ (s : State) (fe at_ : Int) (x : Nat), s.rd TIME_PPSI_MODE 0 = 1 →
      at_ = (s.tod : Int) - roundDiv (s.rdS TIME_PPSI_COMP 0 * 98304) 100000 → x = (at_ % ((2 ^ 32 * tps : Nat) : Int)).toNat →
      ∃ t, exec (.ppsInEdge fe) s = .next t ∧ t.rd TIME_PPSI_SEC 0 = x / tps % 2 ^ 32
      ∧ t.rd TIME_PPSI_FRAC 0 = (roundDiv (x % tps * 2 ^ 32 : Nat) tps).toNat % 2 ^ 32 ∧ t.tst PG_INT_STAT pgTIME 4 = true)
    ∧ (∀ (s u : State), s.isRef = true → u = s.toMul evTIMEMSG 0 983040 → s.rportUp 1 = true → s.ring.broken = [] →
      (s.vc 1 2).credits ≠ 0 → (s.ring.queue.any fun g => g.port == 1 && g.vc == 2) = false →
      ∃ t, exec .timeMessageSend s = .next t
      ∧ t.ring.out = s.ring.out ++ [⟨1, 2, everyDev, 0, .time (u.timeMsg 1)⟩] ∧ t.time.corr = none ∧ t.now = u.now)
    ∧ (∀ (s : State) (m : TimeMsg), m.dev ≠ s.devId → m.dev < 64 → m.hops < 2 ^ TIME_RING.w →
      (m.port = true → s.ring.broken ≠ []) →
      ∃ t, exec (.timeMessageReceived m) s = .next t ∧ t.rd TIME_RING 0 = m.hops ∧ t.rd TIME_STAT_REF_DEV 0 = m.dev)
    ∧ (∀ (s u : State), u = s.toMul evARC 0 983040 → s.rportUp 0 = true → s.rportUp 1 = false →
      (s.vc 0 2).credits ≠ 0 → (s.ring.queue.any fun g => g.port == 0 && g.vc == 2) = false →
      ∃ t, exec .arcDelayMeasurement s = .next t
      ∧ t.ring.out = s.ring.out ++ [⟨0, 2, everyDev, 0, .delayReq u.now⟩] ∧ t.now = u.now)
    ∧ (∀ (s : State) (p : Bool) (t1 : Nat), s.rportUp p.toNat = true → (s.vc p.toNat 2).credits ≠ 0 →
      (s.ring.queue.any fun g => g.port == p.toNat && g.vc == 2) = false →
      ∃ t, exec (.delayRequestReceived p t1) s = .next t
      ∧ t.ring.out = s.ring.out ++ [⟨p.toNat, 2, everyDev, 0, .delayAns t1 s.now s.now⟩])
    ∧ (∀ (s : State) (dn : Bool) (rtt turn : Nat) (corr : Int) (d : Int),
      d = roundDiv ((rtt : Int) - turn + 2 * corr) 2 → 0 ≤ d → d < 2 ^ TIME_ARC_DN.w →
      ∃ t, exec (.delayAnswerReceived false dn rtt turn corr) s = .next t
      ∧ t.rd (if dn then TIME_ARC_DN else TIME_ARC_UP) 0 = d.toNat)
    ∧ (∀ (s : State) (a : Nat), s.time.usSince = some a → s.rd TIME_CFG_ROLE 0 = 1 → s.vertex = false →
      s.rd TIME_STAT_US_IGNORED 0 = 0 → s.timeValid = true → s.serving.isSome = true →
      ∃ t, exec .usReady s = .next t ∧ t.rd TIME_STAT_US_READY 0 = 1 ∧ t.now = max s.now (a + secT 60))
    ∧ (∀ (s : State) (ph : Int), s.rd TIME_CFG_ROLE 0 = 1 → s.vertex = false →
      s.rd TIME_STAT_US_IGNORED 0 = 0 → s.isRef = false → s.timeValid = true → s.rd TIME_STAT_US_READY 0 ≠ 0 →
      s.time.refState = 0 ∨ s.time.refState = 4 →
      ∃ t, exec (.understudyTakeover ph) s = .next t ∧ t.time.refRole = true ∧ t.time.held = s.rdS TIME_US_DELTA 0
      ∧ t.rd TIME_STAT_REF_DEV 0 = s.devId ∧ t.rd TIME_STAT_SRC_ACT 0 = 0)
    ∧ (∀ (s : State) (a : Nat), s.vertex = true → s.isRef = false → s.serving.isSome = true →
      s.rd TIME_CFG_REVERT 0 ≠ 0 → s.time.retSince = some a →
      ∃ t, exec .referenceReturn s = .next t ∧ t.time.held = s.rdS TIME_US_DELTA 0 ∧ t.rd TIME_STAT_REF_DEV 0 = s.devId
      ∧ t.rd TIME_STAT_SRC_ACT 0 = 0 ∧ t.now = max s.now (a + secT 60))

/-- TDD swaps and synthesisers complete: each command answers a next state, which holds what its clause gives. -/
def Obligations.TddAndSynthesiserComplete : Prop :=
    (∀ (s u : State) (v : Word) (x b : Nat), s.sys.deferred = [] → x = TDD_CTL_PAT.of (v ||| 0x80000000#32) →
      u = (s.wr TDD_CTL_PAT 0 x).wr TDD_CTL_FRAME 0 (TDD_CTL_FRAME.of (v ||| 0x80000000#32)) →
      b = (match u.actBank x with | some i => 1 - i % 2 | none => 0) → u.swapErr x (2 * x + b) = none →
      ∃ t, exec (.tddSwap v) s = .next t ∧ t.tst TDD_STAT_PENDING 0 x = true ∧ t.rd TDD_STAT_ERR 0 = 0
      ∧ t.swapOf x = some ⟨b, u.frameAfter (TDD_CTL_FRAME.of (v ||| 0x80000000#32))⟩)
    ∧ (∀ (s : State) (x : Fin 2) (w : Swap), s.swapOf x = some w →
      ∃ t, exec (.tddSwapApply x) s = .next t ∧ t.tst TDD_STAT_PENDING 0 x = false ∧ t.tst TDD_STAT_ACT_BANK 0 x = (w.bank == 1)
      ∧ t.tst TDD_STAT_LOADED 0 x = true)
    ∧ (∀ (s : State) (x : Fin 2),
      ∃ t, exec (.tddBankEccError x) s = .next t ∧ t.tst PG_ERR pgTDD 2 = true)
    ∧ (∀ (s : State), s.sys.deferred = [] → s.lanesOn = [] → s.planBad 0 = false →
      ∃ t, exec .synGoA s = .next t ∧ t.synState 0 = synCAL ∧ t.rd SYN_STAT_ERR_A 0 = 0
      ∧ t.rd SYN_CAL_CNT_A 0 = min (s.rd SYN_CAL_CNT_A 0 + 1) (2 ^ SYN_CAL_CNT_A.w - 1))
    ∧ (∀ (s : State), s.sys.deferred = [] → s.lanesOn = [] → s.planBad 1 = false →
      ∃ t, exec .synGoB s = .next t ∧ t.synState 1 = synCAL ∧ t.rd SYN_STAT_ERR_B 0 = 0
      ∧ t.rd SYN_CAL_CNT_B 0 = min (s.rd SYN_CAL_CNT_B 0 + 1) (2 ^ SYN_CAL_CNT_B.w - 1))
    ∧ (∀ (s : State) (b : Bool), s.synState b.toNat = synCAL →
      ∃ t, exec (.synCalComplete b true) s = .next t ∧ t.synState b.toNat = synLOCKING)
    ∧ (∀ (s : State) (b : Bool), s.synState b.toNat = synLOCKING →
      ∃ t, exec (.synLock b true) s = .next t ∧ t.synState b.toNat = synCONVCAL)
    ∧ (∀ (s : State) (b : Bool), s.synState b.toNat = synCONVCAL → ((s.synConvs b.toNat).any fun c => (s.cv c).cal) = false →
      ∃ t, exec (.synReady b) s = .next t ∧ t.synState b.toNat = synREADY
      ∧ t.now = max s.now ((s.syn b.toNat).since + usT (s.rd SYN_CFG_SETTLE 0)))
    ∧ (∀ (s : State) (b : Bool), s.synState b.toNat = synREADY →
      ∃ t, exec (.synLossOfLock b) s = .next t
      ∧ t.rd (synF SYN_LOL_CNT_A SYN_LOL_CNT_B b.toNat) 0 = min (s.rd (synF SYN_LOL_CNT_A SYN_LOL_CNT_B b.toNat) 0 + 1) (2 ^ SYN_LOL_CNT_A.w - 1))

/-- Coexistence requests and grants complete: each command answers a next state, which holds what its clause gives. -/
def Obligations.CoexistenceComplete : Prop :=
    (∀ (s : State) (pri : Bool), s.rd COEX_CFG_IN_POL 0 = 0 →
      ∃ t, exec (.coexReqInRise pri) s = .next t ∧ t.rfc.granted = true ∧ t.pins.coexReqIn = true ∧ t.pins.coexPri = pri
      ∧ t.rd COEX_STAT_PENDING 0 = 0)
    ∧ (∀ (s : State), s.rfc.granted = true → s.rd COEX_STAT_GNT_OUT 0 = 0 →
      ∃ t, exec .coexGrantOut s = .next t ∧ t.rd COEX_STAT_GNT_OUT 0 = 1 ∧ t.rfc.grantAt = some s.now
      ∧ t.rd COEX_GRANT_CNT 0 = min (s.rd COEX_GRANT_CNT 0 + 1) (2 ^ COEX_GRANT_CNT.w - 1))
    ∧ (∀ (s : State),
      ∃ t, exec .coexReqInFall s = .next t ∧ t.rfc.granted = false ∧ t.rd COEX_STAT_GNT_OUT 0 = 0 ∧ t.rd COEX_STAT_PENDING 0 = 0
      ∧ t.pins.coexReqIn = false)
    ∧ (∀ (s : State) (a : Nat), s.rfc.grantAt = some a → s.rd COEX_TIME_MAX_HOLD 0 ≠ 0 →
      ∃ t, exec .coexMaxHoldExpiry s = .next t ∧ t.rfc.granted = false ∧ t.rd COEX_STAT_GNT_OUT 0 = 0
      ∧ t.rd COEX_WDRAW_CNT 0 = min (s.rd COEX_WDRAW_CNT 0 + 1) (2 ^ COEX_WDRAW_CNT.w - 1)
      ∧ t.tst PG_ERR pgRFC 5 = true ∧ t.now = max s.now (a + usT (10 * s.rd COEX_TIME_MAX_HOLD 0)))
    ∧ (∀ (s : State) (m : Fin 8), s.rd RFC_PORT_CFG_COEX m ≠ 0 → s.rd COEX_CFG_OUT_MODE 0 = 1 →
      s.tddPort m = false → (s.rport m).entry = true →
      ∃ t, exec (.coexReqOutRaise m) s = .next t ∧ t.rd COEX_STAT_REQ_OUT 0 = 1 ∧ (t.rport m).entry = false
      ∧ (t.rport m).settle = some (s.now + s.leadT))
    ∧ (∀ (s : State) (m : Fin 8), (s.rport m).coexWait = true →
      s.portState m = stTX ∨ (s.rport m).entry = true →
      ∃ t, exec .coexGntInRise s = .next t ∧ t.pins.coexGntIn = true ∧ (t.rport m).coexWait = false
      ∧ (t.rport m).settle = some (max s.now ((s.rport m).leadEnd.getD 0)))
    ∧ (∀ (s u : State), s.rd COEX_CFG_OUT_MODE 0 = 2 →
      u = { s with pins := { s.pins with coexGntIn := false } } → (u.shared.any fun m => u.paen m) = true →
      ∃ t, exec .coexGntInFall s = .next t ∧ t.pins.coexGntIn = false
      ∧ t.rd COEX_WDRAW_CNT 0 = min (s.rd COEX_WDRAW_CNT 0 + 1) (2 ^ COEX_WDRAW_CNT.w - 1))

/-- Control loops, cues, injection and captures complete: each command answers a next state, which holds what its clause
gives. -/
def Obligations.EngineCommandsComplete : Prop :=
    (∀ (s u : State) (l : Fin 256) (v : Word), s.sys.deferred = [] → (s.loop l).on = false → v.getLsbD 30 = false → v.getLsbD 28 = false →
      u = s.setLpW l wCFG (maskWord (lpMask 0) (s.lpW l wCFG) (v ||| 0x80000000#32)) → u.loopErr l = none →
      ∃ t, exec (.loopEnable l v) s = .next t ∧ (t.loop l).on = true
      ∧ (t.loop l).t0 = (s.now + usT 1 + u.lpPeriod l - 1) / u.lpPeriod l * u.lpPeriod l ∧ t.tst PG_INT_STAT pgCTE 0 = true)
    ∧ (∀ (s : State) (l : Fin 256) (v : Word), s.sys.deferred = [] → (s.loop l).on = true → (s.loop l).stopping = false → v.getLsbD 28 = false →
      ∃ t, exec (.loopDisable l v) s = .next t ∧ (t.loop l).on = true ∧ (t.loop l).stopping = true)
    ∧ (∀ (s : State) (l : Fin 256), (s.loop l).on = true → s.thm.shut = false →
      (s.loop l).stopping = false →
      ∃ t, exec (.loopSampleBoundary l true 0) s = .next t ∧ t.now = max s.now ((s.loop l).t0 + (s.loop l).n * s.lpPeriod l)
      ∧ (t.loop l).out.isSome = true)
    ∧ (∀ (s u : State) (l : Fin 256) (v : Word), s.sys.deferred = [] → Memory.wf s.mem = true → (s.loop l).on = false → v.getLsbD 31 = false → v.getLsbD 30 = false →
      u = s.setLpW l wCFG (maskWord (lpMask 0) (s.lpW l wCFG) (v ||| 0x10000000#32)) → u.lpF l wCFG 27 1 = 0 →
      u.satClass l (u.lpF l wCFG 25 1 == 1) = true →
      ∃ t, exec (.cue l v) s = .next t ∧ t.lpF l wCFG 29 1 = (1 - u.lpF l wCFG 29 1) % 2 ∧ t.lpF l wCFG 27 1 = 0 ∧ t.lpF l wSTAT 28 4 = 0)
    ∧ (∀ (s : State) (v : Word) (l : Fin 256), s.sys.deferred = [] → Memory.wf s.mem = true → (s.loop l).on = true →
      (∀ k : Fin 256, v.getLsbD (s.lpF k wCFG 20 4) = decide (k = l)) → s.lpF l wCFG 27 1 = 0 →
      s.satClass l (s.lpF l wCFG 25 1 == 1) = true →
      ∃ t, exec (.cueGroup v) s = .next t ∧ t.lpF l wCFG 27 1 = 1 ∧ t.lpF l wCFG 29 1 = s.lpF l wCFG 29 1 ∧ t.lpF l wSTAT 28 4 = 0)
    ∧ (∀ (s : State), s.sys.deferred = [] → s.cte.inj.run = false →
      ∃ t, exec .injectGo s = .next t ∧ t.cte.inj.pendGo = true)
    ∧ (∀ (s : State), s.sys.deferred = [] → s.cte.inj.run = true →
      ∃ t, exec .injectStop s = .next t ∧ t.cte.inj.pendGo = false ∧ t.cte.inj.pendStop = true)
    ∧ (∀ (s : State), s.sys.deferred = [] → s.cte.cap.armed = true →
      ∃ t, exec .captureTrig s = .next t ∧ t.cte.cap.pendTrig = true ∧ t.cte.cap.armed = true)
    ∧ (∀ (s : State) (v : Word), s.sys.deferred = [] → s.rd CTE_CAP_CFG_EN 0 = 0 →
      ∃ t, exec (.captureArm v) s = .next t ∧ t.rd CTE_CAP_CFG_EN 0 = 1 ∧ t.rd CTE_CAP_STAT_DONE 0 = 0 ∧ t.rd CTE_CAP_STAT_TRIGGERED 0 = 0
      ∧ t.cte.cap = { armed := true })
    ∧ (∀ (s : State) (l : Fin 256), (s.loop l).on = true →
      ∃ t, exec (.cteMemUncorr l) s = .next t ∧ t.tst PG_INT_STAT pgCTE 8 = true ∧ t.tst PG_ERR pgCTE 1 = true)
    ∧ (∀ (s : State) (i : Fin 65536), Memory.wf s.mem = true →
      ∃ t, exec (.cteCapUncorr i) s = .next t ∧ t.ld (Region.loopCap.lo + 8 * i) = 0 ∧ t.ld (Region.loopCap.lo + 8 * i + 4) = 0
      ∧ t.tst PG_ERR pgCTE 3 = true)

/-- Slack windows, wings and sample ledgers complete: each command answers a next state, which holds what its clause
gives. -/
def Obligations.FabricCommandsComplete : Prop :=
    (∀ (s u : State) (act : List (Fin 188 × BitVec 12)) (i : Fin 188) (j c : Nat), u = s.toMul evSLACK 0 gaugeT →
      (act.map fun x => (x.1.val, x.2.toNat)).find? (fun x => x.1 == i.val) = some (j, c) →
      ∃ t, exec (.slackWindowEnd act) s = .next t ∧ t.fab.windowAt = u.now ∧ t.now = u.now
      ∧ (t.fab.islands.get {} i).slack = c ∧ (t.fab.islands.get {} i).active = true)
    ∧ (∀ (s : State) (a : Nat), s.fab.holdoffEnd = some a → s.wingWarns = false →
      ∃ t, exec .guardHoldoffEnd s = .next t ∧ t.fab.guard = false ∧ t.fab.holdoffEnd = none ∧ t.rd FAB_STAT_VGUARD 0 = 0
      ∧ t.now = max s.now a)
    ∧ (∀ (s : State) (w : Fin 22) (x : Nat), w.val < 16 → wingPast w x = true → (s.fab.wings.get {} w).warn = false →
      ∃ t, exec (.wingsWarning w x) s = .next t ∧ t.rd FAB_STAT_VGUARD 0 = 1 ∧ (t.fab.wings.get {} w).now = x
      ∧ (t.fab.wings.get {} w).warn = true
      ∧ t.rd FAB_GUARD_CNT 0 = min (s.rd FAB_GUARD_CNT 0 + 1) (2 ^ FAB_GUARD_CNT.w - 1))
    ∧ (∀ (s : State) (ls : List (Fin 32 × Nat)),
      ∃ t, exec (.wingsLoss ls) s = .next t ∧ t.rd FAB_WLOSS_CNT 0 = min (s.rd FAB_WLOSS_CNT 0 + 1) (2 ^ FAB_WLOSS_CNT.w - 1)
      ∧ (∀ (n : Fin 32) (k : Nat), ls = [(n, k)] → (s.lane n).active = false →
      (t.ledger n).held = (s.ledger n).held - min k (s.ledger n).held ∧ (t.ledger n).wings = (s.ledger n).wings + min k (s.ledger n).held))
    ∧ (∀ (s : State), s.sys.deferred = [] →
      ∃ t, exec .minClr s = .next t ∧ t.fab.islands = s.fab.islands.map (fun (i, x) => (i, { x with min := 0xFFF }))
      ∧ t.fab.wings = s.fab.wings.map (fun (i, x) => (i, { x with worst := none })))
    ∧ (∀ (s u : State) (n : Fin 32), (List.range 32).filter (fun n => (s.lane n).active) = [n.val] →
      u = (s.toMul evAUDIT 0 (msT 1)).syncLedger n → (u.ledger n).reported = false → (u.ledger n).imbalance ≠ 0 →
      ∃ t, exec (.ledgerAudit []) s = .next t ∧ (t.ledger n).reported = true)
    ∧ (∀ (s : State) (v : Word), s.sys.deferred = [] → (s.lane (LEDG_SNAP_LANE.of (v ||| 0x80000000#32))).active = true →
      ∃ t, exec (.ledgerSnapshotGo v) s = .next t ∧ t.rd LEDG_SNAP_DONE 0 = 0
      ∧ t.fab.snap = some (LEDG_SNAP_LANE.of (v ||| 0x80000000#32), s.nextSample (LEDG_SNAP_LANE.of (v ||| 0x80000000#32)) 1))
    ∧ (∀ (s u : State) (n : Fin 32) (a : Nat), s.fab.snap = some (n.val, a) → u = (s.reach a).syncLedger n →
      ∃ t, exec .ledgerSnapshotDone s = .next t ∧ t.rd LEDG_SNAP_DONE 0 = 1 ∧ t.rd LEDG_S_HELD 0 = (u.ledger n).held % 2 ^ LEDG_S_HELD.w
      ∧ t.now = max s.now a)
    ∧ (∀ (s : State) (v : Word), s.sys.deferred = [] →
      ∃ t, exec (.ledgerClearGo v) s = .next t
      ∧ t.fab.clr = some (LEDG_CLR_LANE.of (v ||| 0x80000000#32), s.nextSample (LEDG_CLR_LANE.of (v ||| 0x80000000#32)) 1))
    ∧ (∀ (s u : State) (n a : Nat), s.fab.clr = some (n, a) → u = (s.reach a).syncLedger n →
      ∃ t, exec .ledgerClearApply s = .next t ∧ t.fab.clr = none
      ∧ t.ledger n = { u.ledger n with inn := (u.ledger n).held, out := 0, late := 0, dis := 0, wings := 0, reported := false }
      ∧ t.now = max s.now a)

/-- Lane migrations complete: each command answers a next state, which holds what its clause gives. -/
def Obligations.MigrationCommandsComplete : Prop :=
    (∀ (s u : State) (rerr : Fin 9) (rlat src dst b warm : Nat), s.sys.deferred = [] → src = s.rd LEDG_MIG_CFG_SRC 0 → dst = s.rd LEDG_MIG_CFG_DST 0 →
      b = s.rd LEDG_MIG_S_HI 0 * 2 ^ 32 + s.rd LEDG_MIG_S_LO 0 → warm = warmLen (s.lane src).rate (s.slotLat dst) →
      s.rd LEDG_MIG_CFG_REMOTE 0 = 0 → s.fab.mig = none → (s.lane src).on = true → b % 64 = 0 →
      s.now + msT 1 ≤ b * (s.lane src).period → b * (s.lane src).period ≤ s.now + secT 10 →
      (s.lane dst).on = false → downlink dst = downlink src → (s.laneCfg dst).rate = (s.lane src).rate →
      s.laneErr dst (s.laneCfg dst) = none → s.lat src ≤ s.slotLat dst →
      s.targetAccept dst (b - warm) b (s.slotPathsOn src) = some u →
      ∃ t, exec (.migrationGo rerr rlat) s = .next t
      ∧ t.fab.mig = some { src := src, dst := dst, s := b, remote := false, tail := s.rd LEDG_MIG_CFG_TAIL 0, w := b - warm }
      ∧ t.rd LEDG_MIG_STAT_PHASE 0 = migWARMING ∧ t.rd LEDG_MIG_STAT_BUSY 0 = 1 ∧ t.rd LEDG_MIG_STAT_ERR 0 = 0)
    ∧ (∀ (s : State) (m : Mig), s.sys.deferred = [] → s.fab.mig = some m → s.rd LEDG_MIG_STAT_PHASE 0 = migWARMING →
      ∃ t, exec .migrationAbort s = .next t ∧ t.fab.mig = none ∧ t.rd LEDG_MIG_STAT_PHASE 0 = migABORTED ∧ t.rd LEDG_MIG_STAT_BUSY 0 = 0)
    ∧ (∀ (s : State) (m : Mig), s.fab.mig = some m → m.warmed = false → s.rd LEDG_MIG_STAT_PHASE 0 = migWARMING →
      ∃ t, exec .migrationWarmStart s = .next t ∧ t.fab.mig = some { m with warmed := true }
      ∧ t.now = max s.now (m.w * (s.lane (if s.migSource then m.src else m.dst)).period))
    ∧ (∀ (s : State) (m : Mig), s.fab.mig = some m → m.warmed = true → s.rd LEDG_MIG_STAT_PHASE 0 = migWARMING →
      ∃ t, exec .migrationReady s = .next t ∧ t.rd LEDG_MIG_STAT_READY 0 = 1)
    ∧ (∀ (s : State) (m : Mig), s.fab.mig = some m → s.migSource = true → s.rd LEDG_MIG_STAT_PHASE 0 = migWARMING →
      s.rd LEDG_MIG_STAT_READY 0 ≠ 0 →
      ∃ t, exec .migrationDeadline s = .next t ∧ t.rd LEDG_MIG_STAT_PHASE 0 = migCOMMITTED ∧ (t.ledger m.src).lateFrom = some m.s
      ∧ (t.ledger m.src).stop = some (m.s + 64 * m.tail) ∧ t.now = max s.now ((m.s - 64) * (s.lane m.src).period))
    ∧ (∀ (s : State) (m : Mig), s.fab.mig = some m → s.migSource = true → m.crossed = false →
      s.rd LEDG_MIG_STAT_PHASE 0 = migCOMMITTED →
      ∃ t, exec .migrationBoundary s = .next t ∧ t.fab.mig = some { m with crossed := true }
      ∧ t.now = max s.now (m.s * (s.lane m.src).period))
    ∧ (∀ (s : State) (m : Mig), s.fab.mig = some m → s.migSource = true → m.crossed = true →
      ∃ t, exec .migrationDone s = .next t ∧ t.fab.mig = none ∧ t.rd LEDG_MIG_STAT_PHASE 0 = migDONE ∧ t.rd LEDG_MIG_STAT_BUSY 0 = 0
      ∧ t.now = max s.now (s.migDoneAt m))

/-- Fault latches, recoveries and severities complete: each command answers a next state, which holds what its clause
gives. -/
def Obligations.CollectorCommandsComplete : Prop :=
    (∀ (s : State) (page : Page) (b : Fin 32) (ports : BitVec 8) (n : Nat), causeSrc (pageOff page) b = some n →
      (maskable (pageOff page) b && s.tst PG_ERR_MASK (pageOff page) b) = false →
      ∃ t, exec (.faultEvent page b ports) s = .next t
      ∧ t.fc.events = s.fc.events ++ [⟨n, false, causeDrop (pageOff page) b, ports, b, pageOff page, []⟩])
    ∧ (∀ (s : State) (e : FcEvent), s.fc.events = [e] → e.src < 56 →
      ∃ t, exec .faultEpochLatch s = .next t ∧ t.status e.src = true ∧ t.now = max s.now (s.nextMul 16))
    ∧ (∀ (s : State) (page : Page) (v : Word) (b n : Nat), s.sys.deferred = [] → pageOff page ≠ pgCUR →
      ((List.range 32).filter fun b => v.getLsbD b) = [b] → b ≠ 0 → causeSrc (pageOff page) b = some n →
      (maskable (pageOff page) b && s.tst PG_ERR_MASK (pageOff page) b) = false →
      ∃ t, exec (.forceCause page v) s = .next t
      ∧ t.fc.events = s.fc.events ++ [⟨n, true, causeDrop (pageOff page) b, 0, b, pageOff page, []⟩])
    ∧ (∀ (s : State) (hi : Bool) (v : Word) (b : Nat), s.sys.deferred = [] → ((List.range 32).filter fun b => v.getLsbD b) = [b] →
      (if hi then 32 + b else b) < 56 →
      ∃ t, exec (.forceSource hi v) s = .next t
      ∧ t.fc.events = s.fc.events ++ [⟨if hi then 32 + b else b, true, 0, 0, 0, srcPage (if hi then 32 + b else b), []⟩])
    ∧ (∀ (s : State) (n : Fin 56) (q : Nat), s.quietLen n = some q → s.status n = true →
      n.val < 13 ∨ 16 < n.val → (s.fcSrc n).await = 0 → (s.fcSrc n).stand = 0 →
      ∃ t, exec (.sourceRecovery n) s = .next t ∧ t.status n = false ∧ t.now = max s.now ((s.fcSrc n).quiet + q)
      ∧ t.rd FC_REC_CNT 0 = min (s.rd FC_REC_CNT 0 + 1) (2 ^ FC_REC_CNT.w - 1))
    ∧ (∀ (s : State) (hi : Bool) (v : Word) (b : Nat), s.sys.deferred = [] → ((List.range 32).filter fun b => v.getLsbD b) = [b] →
      (if hi then 32 + b else b) < 56 → s.status (if hi then 32 + b else b) = true → s.standing (if hi then 32 + b else b) = false →
      ∃ t, exec (.hostClear hi v) s = .next t ∧ t.status (if hi then 32 + b else b) = false
      ∧ t.rd FC_REC_CNT 0 = min (s.rd FC_REC_CNT 0 + 1) (2 ^ FC_REC_CNT.w - 1))
    ∧ (∀ (s : State), s.sys.deferred = [] → s.rd FC_FF_SRC_VALID 0 ≠ 0 →
      ∃ t, exec .firstFaultAck s = .next t ∧ t.rd FC_FF_SRC_VALID 0 = 0)
    ∧ (∀ (s : State) (n : Fin 64) (v : Word), s.sys.deferred = [] → n.val < 56 → fixedSev n = false → 1 ≤ FC_SEV_SEV.of v →
      FC_SEV_SEV.of v ≤ 4 → FC_SEV_QSEL.of v ≠ 7 →
      ∃ t, exec (.severityWrite n v) s = .next t ∧ t.rd FC_SEV_SEV n = FC_SEV_SEV.of v ∧ t.rd FC_SEV_QSEL n = FC_SEV_QSEL.of v
      ∧ t.rd FC_SEV_SCOPE n = FC_SEV_SCOPE.of v)
    ∧ (∀ (s : State) (a : Nat), s.fc.pulseEnd = some a →
      ∃ t, exec .faultNPulseEnd s = .next t ∧ t.fc.pulseEnd = none ∧ t.fc.restEnd = some (a + usT 10) ∧ t.now = max s.now a)
    ∧ (∀ (s : State) (a : Nat), s.fc.restEnd = some a → s.fc.restLatch = true →
      ∃ t, exec .deferredFaultNPulse s = .next t
      ∧ t.fc.pulseEnd = some (max s.now a + usT (10 * s.rd FC_CFG_PULSE_W 0)) ∧ t.fc.restEnd = none)

/-- Records, folding, rate limits and flushes complete: each command answers a next state, which holds what its clause
gives. -/
def Obligations.RecorderCommandsComplete : Prop :=
    (∀ (s : State) (page : Page) (code : BitVec 16) (sev : Nat) (payload : BitVec 64), Recording s →
      ∃ t, exec (.recordArrival page code sev payload) s = .next t ∧ t.pb.next = s.pb.next + 1
      ∧ t.pb.staging = s.pb.staging ++ [s.issue (s.mkRec (pageOff page) code.toNat (max 1 (min 4 sev)) false payload.toNat) false])
    ∧ (∀ (s : State) (w : Waiting) (rest : List Waiting), s.pb.waiting = w :: rest →
      s.pb.staging.length + s.pb.held.length < 8192 → Recording (s.setPb fun p => { p with waiting := [] }) →
      ∃ t, exec .recordAdmittedAfterWait s = .next t ∧ t.pb.waiting = rest ∧ t.pb.next = s.pb.next + 1
      ∧ t.pb.staging = s.pb.staging ++ [s.issue w.r true])
    ∧ (∀ (s : State) (r : Rec), s.pb.openRec = some r → s.pb.violation = none →
      ∃ t, exec .foldWindowExpiry s = .next t ∧ t.pb.openRec = none ∧ t.pb.lastTag = r.chainTag s.pb.lastTag s.chainKey
      ∧ t.now = max s.now (r.issued + (secT 60 : Nat)).toNat)
    ∧ (∀ (s : State), s.rd PB_CFG_COMPAT 0 ≠ 0 → s.pb.rlSupp = [] → s.pb.auditDue = false →
      ∃ t, exec .rateLimitWindowEnd s = .next t ∧ t.pb.rlIssued = [] ∧ t.pb.rlWin = t.rlNow)
    ∧ (∀ (s : State) (v : Word), s.sys.deferred = [] → PB_CFG_RL_MAX.of v ≠ 0 → PB_CFG_RL_WIN.of v ≠ 0 →
      ∃ t, exec (.pbCfgWrite v) s = .next t ∧ t.rd PB_CFG_COMPAT 0 = PB_CFG_COMPAT.of v ∧ t.rd PB_CFG_RL_MAX 0 = PB_CFG_RL_MAX.of v
      ∧ t.rd PB_CFG_RL_WIN 0 = PB_CFG_RL_WIN.of v)
    ∧ (∀ (s : State), s.pb.violation = none →
      ∃ t, exec .flushPeriodic s = .next t ∧ t.pb = { s.pb.flush with auditDue := false })
    ∧ (∀ (s : State) (seq : BitVec 40) (r : Rec), (s.pb.staging.find? fun r => r.seq == seq) = some r →
      r.closed = true → r.handed = true → 0 < s.pb.mainCap → s.stm.work = [] →
      ∃ t, exec (.recordConfirmed seq) s = .next t ∧ t.pb.book = s.pb.book ++ [r]
      ∧ t.pb.staging = s.pb.staging.filter fun x => x.seq != seq)
    ∧ (∀ (s : State) (supply : Bool), s.pb.pf = false → s.pb.restored = true →
      ∃ t, exec (.pfailAssert supply) s = .next t ∧ t.pb.pf = true ∧ t.pb.head.valid = true ∧ t.pb.head.next = t.pb.next
      ∧ t.rd PB_VAULT_PF_CNT 0 = min (s.rd PB_VAULT_PF_CNT 0 + 1) (2 ^ PB_VAULT_PF_CNT.w - 1))
    ∧ (∀ (s : State), s.pb.pf = true → s.pb.pfDone = false → s.pb.restored = true →
      ∃ t, exec .vaultFlushComplete s = .next t ∧ t.pb.markDone = true ∧ t.pb.vault = s.pb.staging ∧ t.pb.pfDone = true)

/-- The end of a power failure, the restore and memory errors of the book complete: each command answers a next state,
which holds what its clause gives. -/
def Obligations.VaultComplete : Prop :=
    (∀ (s : State), s.pb.pf = true → s.pb.restored = true → s.rd SYS_SUPPLY_UNDER_NOW 0 = 0 →
      ∃ t, exec .pfailDeassert s = .next t ∧ t.pb.pf = false ∧ t.pb.pfailLow = false ∧ t.pb.head.valid = false)
    ∧ (∀ (s : State), s.rd STM_STAT_READY 0 ≠ 0 → s.rd STM_STAT_MEDIUM 0 = 2 → s.pb.restored = false →
      ∃ t, exec .vaultRestore s = .next t ∧ t.pb.restored = true)
    ∧ (∀ (s : State) (seq : BitVec 40) (r : Rec), (s.pb.staging.find? fun r => r.seq == seq) = some r →
      (s.pb.pf = true → ∃ t, exec (.stagingUncorr seq) s = .next t ∧ t.tst PG_ERR pgPB 2 = true
      ∧ t.pb.staging = (s.pb.staging.filter fun x => x.seq != seq) ∧ t.pb.owed = s.pb.owed ++ [(seq, 1)])
      ∧ (r.closed = true → Recording (s.setPb fun p => { p with staging := p.staging.filter fun x => x.seq != seq }) →
      ∃ t g, exec (.stagingUncorr seq) s = .next t ∧ t.pb.staging = (s.pb.staging.filter fun x => x.seq != seq) ++ [g]
      ∧ g.seq = s.pb.next ∧ g.code = 2 ∧ g.gap = some (seq, 1) ∧ t.pb.next = s.pb.next + 1
      ∧ t.pb.gaps = s.pb.gaps ++ [(seq, 1)]))
    ∧ (∀ (s : State),
      ∃ t, exec .vaultLineUncorr s = .next t ∧ t.tst PG_ERR pgPB 5 = true)

/-- Reads and verification of the book complete: each command answers a next state, which holds what its clause gives.
-/
def Obligations.BookReadsComplete : Prop :=
    (∀ (s : State), s.sys.deferred = [] →
      ∃ t, exec .pbReadGo s = .next t ∧ t.rd PB_RD_STAT_DONE 0 = 0
      ∧ t.pb.rdPending = some (BitVec.ofNat 40 (s.rd PB_RD_SEQ_HI 0 * 2 ^ 32 + s.rd PB_RD_SEQ_LO 0)))
    ∧ (∀ (s : State) (n : BitVec 40), s.pb.rdPending = some n →
      (s.findNumber n).1 < 3 ∨ s.stm.work = [] ∧ s.ahead 3 = false →
      ∃ t, exec .pbReadDone s = .next t ∧ t.rd PB_RD_STAT_DONE 0 = 1 ∧ t.rd PB_RD_STAT_WHERE 0 = (s.findNumber n).1
      ∧ t.pb.rdPending = none ∧ t.tst PG_INT_STAT pgPB 4 = true)
    ∧ (∀ (s : State), s.sys.deferred = [] → s.rd PB_VFY_STAT_BUSY 0 = 0 →
      ∃ t, exec .verifyGo s = .next t ∧ t.rd PB_VFY_STAT_BUSY 0 = 1 ∧ t.rd PB_VFY_STAT_DONE 0 = 0 ∧ t.pb.vfyLeft = s.rd PB_VFY_CNT 0)
    ∧ (∀ (s : State), s.sys.deferred = [] → s.rd PB_VFY_STAT_BUSY 0 ≠ 0 →
      ∃ t, exec .verifyStop s = .next t ∧ t.pb.vfyStop = true)
    ∧ (∀ (s : State) (k cnt : Nat), s.rd PB_VFY_STAT_BUSY 0 ≠ 0 →
      cnt = (if s.pb.vfyStop then min k s.pb.vfyLeft else s.pb.vfyLeft) →
      ∃ t, exec (.verifyDone k) s = .next t ∧ t.rd PB_VFY_STAT_BUSY 0 = 0 ∧ t.rd PB_VFY_STAT_DONE 0 = 1
      ∧ t.rd PB_VFY_DONE_CNT 0 = cnt % 2 ^ PB_VFY_DONE_CNT.w ∧ t.tst PG_INT_STAT pgPB 5 = true
      ∧ ((∃ n ∈ s.pb.numbers, s.pb.vfyNext.toNat ≤ n ∧ n < s.pb.vfyNext.toNat + cnt ∧ s.badNumber n = true) → t.rd PB_VFY_STAT_FAIL 0 = 1))

/-- Host link accesses and power states complete: each command answers a next state, which holds what its clause gives.
-/
def Obligations.HostLinkCommandsComplete : Prop :=
    (∀ (s : State) (winB : Bool) (off : BitVec 30),
      ∃ t, exec (.badAccess winB true off) s = .next t ∧ t.rd HIF_BADACC_CNT 0 = min (s.rd HIF_BADACC_CNT 0 + 1) (2 ^ HIF_BADACC_CNT.w - 1)
      ∧ t.rd HIF_BADACC_ADDR_WIN 0 = winB.toNat ∧ t.rd HIF_BADACC_ADDR_OFFSET 0 = off.toNat ∧ t.hif.out = s.hif.out ++ [.readData 0xFFFFFFFF#32])
    ∧ (∀ (s : State),
      ∃ t, exec .winbWrite s = .next t ∧ t.rd HIF_WINB_WR_CNT 0 = min (s.rd HIF_WINB_WR_CNT 0 + 1) (2 ^ HIF_WINB_WR_CNT.w - 1))
    ∧ (∀ (s : State) (dev : Fin 64) (off : BitVec 24), s.sys.dark = false → s.vertex = true → dev.val ≠ s.devId →
      s.present dev = true → (s.deliv dev 0).waiting = [] →
      ∃ t, exec (.tunnelledRead dev off) s = .next t ∧ t.hif.reads = s.hif.reads ++ [⟨dev, off.toNat, s.now, none⟩] ∧ t.hif.out = s.hif.out)
    ∧ (∀ (s : State) (r : TunRead) (rs : List TunRead), s.hif.reads = r :: rs → r.dma = none →
      ∃ t, exec .tunnelTimeout s = .next t ∧ t.hif.reads = rs ∧ t.hif.out = s.hif.out ++ [.readData 0xFFFFFFFF#32]
      ∧ t.rd HIF_TUN_TO_CNT 0 = min (s.rd HIF_TUN_TO_CNT 0 + 1) (2 ^ HIF_TUN_TO_CNT.w - 1)
      ∧ t.now = max s.now (r.since + usT (10 * s.rd HIF_CFG_TUN_TO 0)))
    ∧ (∀ (s : State) (pmeEn : Bool),
      ∃ t, exec (.d3hotEntry pmeEn) s = .next t ∧ t.rd HIF_PM_D3 0 = 1 ∧ t.rd HIF_PM_ASLEEP_NOW 0 = 1)
    ∧ (∀ (s : State), s.rd HIF_PM_D3 0 = 1 → s.rd HIF_PM_SLEEP 0 = 0 →
      ∃ t, exec .d0Return s = .next t ∧ t.rd HIF_PM_D3 0 = 0 ∧ t.rd HIF_PM_ASLEEP_NOW 0 = 0)
    ∧ (∀ (s : State), s.sys.deferred = [] →
      ∃ t, exec .hostSleepEntry s = .next t ∧ t.rd HIF_PM_SLEEP 0 = 1 ∧ t.rd HIF_PM_ASLEEP_NOW 0 = 1)
    ∧ (∀ (s : State), s.sys.deferred = [] → s.rd HIF_PM_D3 0 = 0 →
      ∃ t, exec .hostSleepExit s = .next t ∧ t.rd HIF_PM_SLEEP 0 = 0 ∧ t.rd HIF_PM_ASLEEP_NOW 0 = 0)
    ∧ (∀ (s : State),
      ∃ t, exec .linkDown s = .next t ∧ t.rd HIF_LINK_UP 0 = 0 ∧ t.rd HIF_LINKDN_CNT 0 = min (s.rd HIF_LINKDN_CNT 0 + 1) (2 ^ HIF_LINKDN_CNT.w - 1)
      ∧ t.tst PG_ERR pgHIF 4 = true)
    ∧ (∀ (s : State),
      ∃ t, exec (.pcieErrorTlp false) s = .next t ∧ t.rd HIF_UNCORR_CNT 0 = min (s.rd HIF_UNCORR_CNT 0 + 1) (2 ^ HIF_UNCORR_CNT.w - 1)
      ∧ t.tst PG_ERR pgHIF 3 = true)
    ∧ (∀ (s : State) (speed width : Fin 5),
      ∃ t, exec (.linkUp speed width) s = .next t ∧ t.rd HIF_LINK_UP 0 = 1 ∧ t.rd HIF_LINK_SPEED 0 = min speed.val (s.rd HIF_CFG_MAX_GT 0)
      ∧ t.rd HIF_LINK_WIDTH 0 = min width.val (s.rd HIF_LINK_STRAP_W 0))

/-- DMA descriptors complete: each command answers a next state, which holds what its clause gives. -/
def Obligations.DescriptorCommandsComplete : Prop :=
    (∀ (s : State) (q : Fin 8) (v : Word), s.sys.deferred = [] →
      ∃ t, exec (.dmaDoorbell q v) s = .next t ∧ t.rd DMA_Q_TAIL q = DMA_Q_TAIL.of v)
    ∧ (∀ (s : State) (q : Fin 8) (d : Desc), s.mayStart q = true → d.kind = 0 →
      ∃ t, exec (.descNop q d) s = .next t ∧ (t.dmaQ q).run = some { s.runOf q d with done := true }
      ∧ t.rd DMA_Q_HEAD q = (s.rd DMA_Q_HEAD q + 1) % 2 ^ DMA_Q_HEAD.w)
    ∧ (∀ (s : State) (q : Fin 8) (d : Desc) (st info : Nat) (ws : List Word), s.mayStart q = true → d.kind = 1 → s.descErr d = none →
      d.dev = s.devId → (s.descBegin q (s.runOf q d)).bulkData d = (st, info, ws) → ws ≠ [] →
      ∃ t, exec (.descMemoryRead q d) s = .next t
      ∧ (t.dmaQ q).run = some { s.runOf q d with status := st, info := info, bytes := 4 * ws.length, done := true }
      ∧ t.hif.out = s.hif.out ++ [.write d.host ws] ∧ t.rd DMA_Q_HEAD q = (s.rd DMA_Q_HEAD q + 1) % 2 ^ DMA_Q_HEAD.w)
    ∧ (∀ (s : State) (q : Fin 8) (d : Desc) (st info : Nat) (ws : List Word), s.mayStart q = true → d.kind = 2 → s.descErr d = none →
      d.dev = s.devId → s.stm.work = [] → s.ahead 3 = false → (s.descBegin q (s.runOf q d)).bulkData d = (st, info, ws) → ws ≠ [] →
      ∃ t, exec (.descMediumRead q d) s = .next t
      ∧ (t.dmaQ q).run = some { s.runOf q d with status := st, info := info, bytes := 4 * ws.length, done := true }
      ∧ t.hif.out = s.hif.out ++ [.write d.host ws] ∧ t.rd DMA_Q_HEAD q = (s.rd DMA_Q_HEAD q + 1) % 2 ^ DMA_Q_HEAD.w)
    ∧ (∀ (s : State) (q : Fin 8) (d : Desc), s.sys.deferred = [] → s.mayStart q = true → d.kind = 3 →
      s.descErr d = none → d.dev = s.devId →
      exec (.descRegisterRead q d) s = .next ((List.range (d.len / 4)).foldl (fun s' k =>
      s'.descWord q (s.rd DMA_Q_HEAD q) (d.devAddr + 4 * k) (d.host + 4 * k) (k + 1 == d.len / 4)) (s.descBegin q (s.runOf q d))))
    ∧ (∀ (s u v : State) (q : Fin 8) (d : Desc) (w : Word), s.sys.deferred = [] → s.mayStart q = true → d.kind = 4 →
      s.descErr d = none → d.dev = s.devId → d.len = 4 →
      u = (s.descBegin q { s.runOf q d with bytes := 4 }) → u.hostWrite d.devAddr w = v → v.sys.deferred = [] →
      ∃ t, exec (.descRegisterWrite q d [w]) s = .next t ∧ t.regs = v.regs ∧ t.mem = v.mem
      ∧ (t.dmaQ q).run = (v.dmaQ q).run.map fun r => if r.idx = s.rd DMA_Q_HEAD q then { r with done := true } else r)
    ∧ (∀ (s : State) (q : Fin 8) (d : Desc), s.mayStart q = true → s.descErr d = some 6 →
      ∃ t, exec (.descRefusedKind q d) s = .next t ∧ (t.dmaQ q).run = some { s.runOf q d with status := 6, done := true }
      ∧ t.rd DMA_Q_HEAD q = (s.rd DMA_Q_HEAD q + 1) % 2 ^ DMA_Q_HEAD.w)
    ∧ (∀ (s : State) (q : Fin 8) (r : DmaRun), (s.dmaQ q).run = some r → r.done = true → s.rd HIF_PM_D3 0 = 0 →
      ∃ t, exec (.descComplete q) s = .next t ∧ (t.dmaQ q).run = none
      ∧ t.rd DMA_Q_DONE_CNT q = min (s.rd DMA_Q_DONE_CNT q + 1) (2 ^ DMA_Q_DONE_CNT.w - 1)
      ∧ t.rd DMA_CQ_TAIL_TAIL q = (s.rd DMA_CQ_TAIL_TAIL q + 1) % 2 ^ DMA_CQ_TAIL_TAIL.w)
    ∧ (∀ (s : State) (q : Fin 8), s.mayStart q = true →
      ∃ t, exec (.descFetchError q) s = .next t ∧ t.qState q = qSTOPPED ∧ (t.dmaQ q).run.map (fun r => (r.tag, r.status, r.done)) = some (0xFFFF, 4, true)
      ∧ t.tst PG_ERR pgDMA 1 = true)

/-- DMA queues complete: each command answers a next state, which holds what its clause gives. -/
def Obligations.QueueCommandsComplete : Prop :=
    (∀ (s : State) (q : Fin 8) (v : Word), s.sys.deferred = [] →
      ∃ t, exec (.cqHeadWrite q v) s = .next t ∧ t.rd DMA_CQ_HEAD q = DMA_CQ_HEAD.of v)
    ∧ (∀ (s : State) (q : Fin 8) (a : Nat) (l : List (Option Nat)), (s.dmaQ q).unsig = some a :: l →
      ∃ t, exec (.moderationTimeout q) s = .next t ∧ t.rd DMA_Q_STAT_SIG q = s.rd DMA_CQ_TAIL_TAIL q ∧ (t.dmaQ q).unsig = []
      ∧ t.now = max s.now a)
    ∧ (∀ (s : State) (q : Fin 8) (v : Word), s.sys.deferred = [] → s.rd DMA_Q_CFG_EN q = 0 → s.rd DMA_Q_BASE_LO q % 4096 = 0 →
      s.rd DMA_CQ_BASE_LO q % 4096 = 0 → DMA_Q_CFG_MOD_CNT.of v = 1 →
      ∃ t, exec (.queueEnable q v) s = .next t ∧ t.qState q = qRUNNING ∧ t.rd DMA_Q_CFG_EN q = 1)
    ∧ (∀ (s : State) (q : Fin 8) (v : Word), s.sys.deferred = [] → s.rd DMA_Q_CFG_EN q = 1 → s.qState q = qRUNNING →
      ∃ t, exec (.queueDisable q v) s = .next t ∧ t.qState q = qDRAINING ∧ t.rd DMA_Q_CFG_EN q = 0)
    ∧ (∀ (s : State) (q : Fin 8), s.qState q = qDRAINING → (s.dmaQ q).run = none →
      ∃ t, exec (.queueDrained q) s = .next t ∧ t.qState q = qIDLE)
    ∧ (∀ (s : State) (q : Fin 8) (v : Word), s.sys.deferred = [] → v.getLsbD 31 = false → s.rd DMA_Q_CFG_EN q = 0 → s.qState q = qIDLE →
      ∃ t, exec (.queueReset q v) s = .next t ∧ t.rd DMA_Q_TAIL q = 0 ∧ t.rd DMA_Q_HEAD q = 0 ∧ t.rd DMA_CQ_HEAD q = 0 ∧ t.rd DMA_CQ_TAIL_TAIL q = 0
      ∧ t.rd DMA_CQ_TAIL_PHASE q = 1 ∧ (t.dmaQ q).unsig = [])
    ∧ (∀ (s : State) (q : Fin 8) (r : DmaRun), (s.dmaQ q).run = some r →
      ∃ t, exec (.bufParity q) s = .next t ∧ (t.dmaQ q).run = some { r with status := 5, done := true } ∧ t.tst PG_ERR pgDMA 2 = true)

/-- Interrupt sources, claims and targets complete: each command answers a next state, which holds what its clause
gives. -/
def Obligations.InterruptCommandsComplete : Prop :=
    (∀ (s : State) (n : Fin 256), n.val ≠ 0 → (s.src n).st = .idle → s.rd IC_SRC_EN n = 1 → s.srcLevel n = true →
      ∃ t, exec (.sourceAssertion n) s = .next t ∧ (t.src n).st = .pending ∧ (t.src n).asserts = (s.src n).asserts + 1)
    ∧ (∀ (s : State) (t : Fin 4) (fast : Bool) (n : Nat), s.sys.dark = false → s.sys.deferred = [] → s.topFor t fast = n → n ≠ 0 →
      ∃ u, exec (.icClaim t fast) s = .next u ∧ (u.src n).st = .active ∧ (u.src n).owner = t ∧ (u.src n).fast = fast
      ∧ (u.src n).claims = (s.src n).claims + 1 ∧ u.hif.out.getLast? = some (.readData (BitVec.ofNat 32 n)))
    ∧ (∀ (s u : State) (t : Fin 4) (fast : Bool) (n : BitVec 8), s.sys.deferred = [] → n.toNat ≠ 0 → n.toNat < 193 → (s.src n.toNat).st = .active →
      (s.src n.toNat).owner = t → (s.src n.toNat).fast = fast → u = s.setSrc n.toNat (fun x => { x with st := .idle }) → u.icLaw n.toNat = 0 →
      u.srcLevel n.toNat = false →
      ∃ v, exec (.icComplete t fast n) s = .next v ∧ (v.src n.toNat).st = .idle ∧ (v.src n.toNat).claims = (s.src n.toNat).claims)
    ∧ (∀ (s : State) (n : Fin 256) (v : Word), s.sys.deferred = [] → n.val ≠ 0 →
      ∃ t, exec (.sourceConfigWrite n v) s = .next t ∧ t.rd IC_SRC_EN n = IC_SRC_EN.of v ∧ t.rd IC_SRC_CLASS n = IC_SRC_CLASS.of v
      ∧ t.rd IC_SRC_TARGETS n = IC_SRC_TARGETS.of v)
    ∧ (∀ (s : State) (v : Word), s.sys.deferred = [] →
      ∃ t, exec (.countSnapshot v) s = .next t ∧ t.rd IC_CNT_PTR 0 = IC_CNT_PTR.of v ∧ t.rd IC_CNT_ASSERT 0 = (s.src (IC_CNT_PTR.of v)).asserts.toNat
      ∧ t.rd IC_CNT_CLAIM 0 = (s.src (IC_CNT_PTR.of v)).claims.toNat ∧ t.rd IC_CNT_STAT_VALID 0 = 1)
    ∧ (∀ (s : State) (v : Word) (k : Fin 4), s.sys.deferred = [] →
      ∃ t, exec (.wakeClear v) s = .next t ∧ t.tst IC_WAKE 0 k = (s.tst IC_WAKE 0 k && !(IC_WAKE.of v).testBit k))
    ∧ (∀ (s : State) (t : Fin 4) (v : Word), s.sys.deferred = [] →
      ∃ u, exec (.targetConfigWrite t v) s = .next u ∧ u.rd IC_TGT_CFG_MASK t = IC_TGT_CFG_MASK.of v ∧ u.rd IC_TGT_CFG_ASLEEP t = IC_TGT_CFG_ASLEEP.of v
      ∧ u.rd IC_TGT_CFG_DELIV t = IC_TGT_CFG_DELIV.of v)
    ∧ (∀ (s : State) (v : Fin 4), s.sys.deferred = [] → Memory.wf s.mem = true → s.vecMasked v = true → s.hif.pba.getLsbD v = true → s.hif.msixEn = true →
      s.line v = true → s.rd IC_TGT_CFG_DELIV v = 1 →
      ∃ t, exec (.msixUnmask v) s = .next t ∧ t.vecMasked v = false ∧ t.hif.out = s.hif.out ++ [.msix v])
    ∧ (∀ (s : State),
      ∃ t, exec .msixEnable s = .next t ∧ t.hif.msixEn = true)
    ∧ (∀ (s : State) (n : Fin 256), s.rd IC_SRC_EN n = 0 →
      ∃ t, exec (.icStateParity n) s = .next t ∧ (t.src n).st = .idle ∧ t.tst PG_ERR pgIC 2 = true)

/-- Ring lanes, frames and reliable delivery complete: each command answers a next state, which holds what its clause
gives. -/
def Obligations.RingLinkComplete : Prop :=
    (∀ (s : State) (p : Bool) (l : Fin 4),
      ∃ t, exec (.ringLaneLockLoss p l) s = .next t ∧ t.rd RING_PORT_STAT_STATE p.toNat = 1
      ∧ t.rd (if p then RING_STAT_DN_UP else RING_STAT_UP_UP) 0 = 0 ∧ t.tst RING_PORT_STAT_RX_LOCK p.toNat l = false)
    ∧ (∀ (s : State) (p : Bool) (skew : Word), s.rd RING_PORT_STAT_RX_LOCK p.toNat = 0xF → s.rportUp p.toNat = false →
      ∃ t, exec (.ringTrainingDone p true skew) s = .next t ∧ t.rportUp p.toNat = true
      ∧ t.rd (if p then RING_STAT_DN_UP else RING_STAT_UP_UP) 0 = 1
      ∧ t.rd RING_PORT_TRAIN_CNT p.toNat = min (s.rd RING_PORT_TRAIN_CNT p.toNat + 1) (2 ^ RING_PORT_TRAIN_CNT.w - 1))
    ∧ (∀ (s : State) (p : Bool),
      ∃ t, exec (.portRetrain p) s = .next t ∧ t.rd RING_PORT_STAT_STATE p.toNat = 1 ∧ t.rd RING_PORT_STAT_RX_LOCK p.toNat = 0
      ∧ t.rd RING_PORT_STAT_TX_OK p.toNat = 0)
    ∧ (∀ (s : State) (p : Bool),
      ∃ t, exec (.headerCrcFail p) s = .next t ∧ t.rd RING_PORT_STAT_STATE p.toNat = 1 ∧ t.rd RING_PORT_STAT_RX_LOCK p.toNat = 0
      ∧ t.rd RING_PORT_HDR_CNT p.toNat = min (s.rd RING_PORT_HDR_CNT p.toNat + 1) (2 ^ RING_PORT_HDR_CNT.w - 1))
    ∧ (∀ (s : State) (p : Bool) (v : Fin 4),
      ∃ t, exec (.frameCrcFail p v) s = .next t ∧ (t.vc p.toNat v).retCum = (s.vc p.toNat v).retCum + 1
      ∧ t.rd RING_PORT_CRC_CNT p.toNat = min (s.rd RING_PORT_CRC_CNT p.toNat + 1) (2 ^ RING_PORT_CRC_CNT.w - 1)
      ∧ t.tst PG_ERR pgRING 6 = true)
    ∧ (∀ (s u : State) (p : Bool) (src : Fin 64) (seq : BitVec 16) (a : Nat) (v : Word), s.sys.dark = false →
      seq = BitVec.ofNat 16 (s.deliv src 0).expect →
      u = (s.took p.toNat 0).setDeliv src 0 (fun x => { x with expect := x.expect + 1, nakSent := false }) →
      ∃ t, exec (.registerWriteFrame p src seq (.write a v)) s = .next t ∧ t = (u.regWrite a v).sendAck src 0)
    ∧ (∀ (s u : State) (p : Bool) (src : Fin 64) (seq : BitVec 16) (off : BitVec 24) (w : Word), s.sys.dark = false → s.sys.deferred = [] →
      seq = BitVec.ofNat 16 (s.deliv src 0).expect → (s.took p.toNat 0).readFx off.toNat = (u, w) → Sends u (u.portTo src) 0 →
      ∃ t, exec (.registerReadFrame p src seq off) s = .next t ∧ t.ring.out = u.ring.out ++ [⟨u.portTo src, 0, src, 0, .answer off.toNat w⟩])
    ∧ (∀ (s : State) (p : Bool) (src : Fin 64) (off : BitVec 24) (v : Word) (r : TunRead),
      (s.hif.reads.find? fun r => r.dev == src.val && r.off == off.toNat) = some r → r.dma = none →
      ∃ t, exec (.readAnswerFrame p src off v) s = .next t ∧ t.hif.reads = s.hif.reads.erase r ∧ t.hif.out = s.hif.out ++ [.readData v])
    ∧ (∀ (s : State) (p : Bool) (src : Fin 64) (bulk : Bool) (seq : BitVec 16) (line low : Bool) (st : Fin 4) (v k : Nat),
      v = (if bulk then 3 else 0) → s.vertex = false → s.ring.restoring = false → s.hif.heldComps = [] → (s.deliv src v).ackCount seq = k → 0 < k →
      ∃ t, exec (.ackFrame p src bulk seq line low st) s = .next t ∧ (t.deliv src v).unacked = (s.deliv src v).unacked.drop k
      ∧ (t.deliv src v).lastProg = s.now)
    ∧ (∀ (s u : State) (p : Bool) (src : Fin 64) (bulk : Bool) (f : Frame) (v : Nat), v = (if bulk then 3 else 0) →
      u = s.took p.toNat 0 → s.ring.broken = [] → (s.deliv src v).unacked = [f] → Sends u (1) f.vc →
      ∃ t, exec (.nakFrame p src bulk) s = .next t ∧ t.ring.out = s.ring.out ++ [{ f with port := 1 }]
      ∧ t.rd RING_REPLAY_CNT 0 = min (s.rd RING_REPLAY_CNT 0 + 1) (2 ^ RING_REPLAY_CNT.w - 1))

/-- Status, replay, credits, census and enumeration complete: each command answers a next state, which holds what its
clause gives. -/
def Obligations.RingTrafficComplete : Prop :=
    (∀ (s : State) (p : Bool) (src : Fin 64) (line low : Bool) (st : Fin 4), s.vertex = true → s.present src = true →
      ∃ t, exec (.statusFrame p src line low st) s = .next t ∧ t.remote src = ⟨line, low, st⟩)
    ∧ (∀ (s : State) (l f : Bool) (st : Nat), s.vertex = false → s.ring.enumerated = true → s.ownStatus = (l, f, st) →
      s.ring.lastStatus ≠ some s.ownStatus → Sends s (s.portTo 0) 0 →
      ∃ t, exec .statusFrameSend s = .next t ∧ t.ring.out = s.ring.out ++ [⟨s.portTo 0, 0, 0, 0, .status l f st⟩]
      ∧ t.ring.lastStatus = some (l, f, st) ∧ t.ring.statusAt = s.now)
    ∧ (∀ (s u : State) (dev : Fin 64) (bulk : Bool) (f : Frame) (v : Nat), v = (if bulk then 3 else 0) →
      u = s.reach ((s.deliv dev v).lastProg + usT 50) → s.ring.broken = [] → (s.deliv dev v).unacked = [f] → Sends u (1) f.vc →
      ∃ t, exec (.replayTimeout dev bulk) s = .next t ∧ t.ring.out = s.ring.out ++ [{ f with port := 1 }]
      ∧ t.rd RING_REPLAY_CNT 0 = min (s.rd RING_REPLAY_CNT 0 + 1) (2 ^ RING_REPLAY_CNT.w - 1)
      ∧ t.now = max s.now ((s.deliv dev v).lastProg + usT 50) ∧ (t.deliv dev v).lastProg = t.now)
    ∧ (∀ (s : State) (dev : Fin 64) (b : RegBody), s.ring.restoring = false → (s.deliv dev 0).unacked.length < 64 →
      (s.deliv dev 0).waiting = [.write b] →
      ∃ t, exec (.tunnelWriteReleased dev) s = .next t ∧ (t.deliv dev 0).waiting = []
      ∧ (t.deliv dev 0).unacked = (s.deliv dev 0).unacked ++ [⟨s.portTo dev, 0, dev, (s.deliv dev 0).next, .write b⟩]
      ∧ (t.deliv dev 0).next = (s.deliv dev 0).next + 1)
    ∧ (∀ (s : State) (p : Bool) (v : Fin 4) (n : BitVec 8), s.ring.queue = [] →
      ∃ t, exec (.creditReturn p v n) s = .next t ∧ (t.vc p.toNat v).credits = (s.vc p.toNat v).credits + n.toNat
      ∧ (t.vc p.toNat v).rCum = (s.vc p.toNat v).rCum + BitVec.ofNat 16 n.toNat)
    ∧ (∀ (s : State), s.rportUp 0 = true → s.rportUp 1 = false →
      ∃ t, exec .censusMarkerSend s = .next t
      ∧ t.ring.out = s.ring.out ++ (List.range 4).map fun v => ⟨0, v, everyDev, 0, .census (s.vc 0 v).credits (s.vc 0 v).rCum⟩)
    ∧ (∀ (s : State) (p : Bool) (v : Fin 4) (cs : Fin 257) (rCum : BitVec 16) (b : Nat),
      cs.val + b + ((s.vc p.toNat v).retCum - rCum).toNat = 256 →
      ∃ t, exec (.censusMarker p v cs rCum b 0) s = .next t ∧ t.rd RING_CEN_CNT 0 = min (s.rd RING_CEN_CNT 0 + 1) (2 ^ RING_CEN_CNT.w - 1)
      ∧ t.rd RING_CEN_FAIL_CNT 0 = s.rd RING_CEN_FAIL_CNT 0)
    ∧ (∀ (s : State), s.vertex = true → s.rportUp 0 = false → Sends s 1 0 →
      ∃ t, exec .enumerationStart s = .next t ∧ t.ring.out = s.ring.out ++ [⟨1, 0, everyDev, 0, .enumeration [s.ownEntry]⟩])
    ∧ (∀ (s : State) (p : Bool) (pos : Fin 64) (size : Fin 64) (seen : List MapEntry), s.vertex = false →
      ((seen.eraseIdx (enumPlace p.toNat pos size)).any fun e => e.id == s.devId || (e.vtx && s.vertex)) = false →
      ∃ t, exec (.enumerationFrame p pos (size.castSucc) seen) s = .next t ∧ t.rd RING_STAT_POS 0 = pos ∧ t.rd RING_STAT_SIZE 0 = size
      ∧ t.ring.enumerated = true)
    ∧ (∀ (s : State) (found : List (Option MapEntry)) (down : List (Fin 64)), s.vertex = true →
      found.filterMap id = [s.ownEntry] → (List.range 64).filter s.present = [s.devId] → s.ring.departed = [] →
      ∃ t, exec (.enumerationComplete found down) s = .next t ∧ t.ring.enumerated = true ∧ t.ring.down = down.map (·.val)
      ∧ t.rd RING_STAT_POS 0 = 0 ∧ t.rd RING_STAT_SIZE 0 = 1)

/-- Breaks, splits, restoration, ring resets and bulk frames complete: each command answers a next state, which holds
what its clause gives. -/
def Obligations.RingTopologyComplete : Prop :=
    (∀ (s : State), s.vertex = true → s.ring.enumerated = false → s.rportUp 0 = false → s.rportUp 1 = false →
      ∃ t, exec .singleTimeout s = .next t ∧ t.rd RING_STAT_STATE 0 = rSINGLE ∧ t.rd RING_STAT_SIZE 0 = 1
      ∧ t.now = max s.now (s.boot.t0 + msT 100))
    ∧ (∀ (s : State), s.vertex = false → s.ring.enumerated = false → s.rportUp 0 = true →
      ∃ t, exec .noVertexTimeout s = .next t ∧ t.tst PG_ERR pgRING 5 = true ∧ t.rd RING_STAT_STATE 0 = s.rd RING_STAT_STATE 0)
    ∧ (∀ (s : State) (p : Bool), s.ring.enumerated = false →
      ∃ t, exec (.arcDown p) s = .next t ∧ t.tst PG_ERR pgRING 2 = true ∧ t.rportUp p.toNat = false)
    ∧ (∀ (s : State) (p : Bool) (arc : Fin 64), s.ring.broken = [] → s.rportUp (1 - p.toNat) = false →
      ∃ t, exec (.breakNoticeFrame p arc) s = .next t ∧ t.rd RING_STAT_STATE 0 = rLINE ∧ t.rd RING_STAT_BREAK_VALID 0 = 1
      ∧ t.rd RING_STAT_BREAK_POS 0 = arc)
    ∧ (∀ (s : State) (gone : List (Fin 64)), 2 ≤ s.ring.broken.length → s.vertex = false →
      ∃ t, exec (.split gone) s = .next t ∧ t.rd RING_STAT_STATE 0 = rSPLIT)
    ∧ (∀ (s : State), s.vertex = true → s.ring.broken ≠ [] → s.ring.down = [] →
      (s.ring.deliv.all fun x => x.1 % 4 != 0 || x.2.unacked.isEmpty) = true →
      ∃ t, exec (.ringRestore true) s = .next t ∧ t.ring.broken = [] ∧ t.ring.restoring = false ∧ t.rd RING_STAT_STATE 0 = rRING
      ∧ t.rd RING_STAT_BREAK_VALID 0 = 0)
    ∧ (∀ (s : State) (p : Bool),
      ∃ t, exec (.routeCommandFrame p) s = .next t ∧ t.ring.broken = [] ∧ t.ring.restoring = false ∧ t.rd RING_STAT_STATE 0 = rRING
      ∧ t.rd RING_STAT_BREAK_VALID 0 = 0)
    ∧ (∀ (s u : State) (dev : Fin 64), s.sys.deferred = [] → u = (s.wr RING_CTL_RST_ALL 0 0).wr RING_CTL_RST_DEV 0 dev.val → s.vertex = true → dev.val ≠ s.devId →
      s.present dev = true → Sends u (u.portTo dev) 0 →
      ∃ t, exec (.ringResetGo false dev) s = .next t ∧ t.rd RING_CTL_RST_DEV 0 = dev
      ∧ t.ring.out = s.ring.out ++ [⟨u.portTo dev, 0, dev, 0, .ringReset⟩])
    ∧ (∀ (s u : State) (p : Bool) (src : Fin 64) (seq : BitVec 16) (q : Fin 8) (d : Desc) (st info : Nat) (ws : List Word), s.sys.dark = false →
      seq = BitVec.ofNat 16 (s.deliv src 3).expect →
      u = ((s.took p.toNat 3).setDeliv src 3 (fun x => { x with expect := x.expect + 1, nakSent := false })).sendAck src 3 →
      u.stm.work = [] → (d.kind = 2 → u.ahead 3 = false) → u.bulkData d = (st, info, ws) → pieces 64 (ws.length / 64 + 1) ws = [ws] →
      ∃ t, exec (.bulkRequestFrame p src seq q d) s = .next t ∧ (t.deliv src 3).expect = (s.deliv src 3).expect + 1
      ∧ (t.deliv src 3).unacked = (s.deliv src 3).unacked ++ [⟨u.portTo src, 3, src, (s.deliv src 3).next, .bulkData q st info true ws⟩])
    ∧ (∀ (s : State) (p : Bool) (src : Fin 64) (seq : BitVec 16) (q : Fin 8) (st : Fin 16) (info : Nat) (last : Bool) (ws : List Word) (r : DmaRun),
      s.sys.dark = false → seq = BitVec.ofNat 16 (s.deliv src 3).expect → (s.dmaQ q).run = some r → r.done = false → r.dev = src → ws ≠ [] →
      ∃ t, exec (.bulkDataFrame p src seq q st info last ws) s = .next t ∧ t.hif.out = s.hif.out ++ [.write (r.host + r.bytes) ws]
      ∧ (t.dmaQ q).run = some { r with bytes := r.bytes + 4 * ws.length, status := st, info := info, done := last })

/-- Housekeeping scans, thermal shutdown, PWM and bias codes complete: each command answers a next state, which holds
what its clause gives. -/
def Obligations.HousekeepingCommandsComplete : Prop :=
    (∀ (s u : State), s.rd HK_TRIG_TIMER_EN 0 = 1 → s.rd HK_CFG_EN 0 = 1 → s.rd HK_SCAN_MASK 0 ≠ 0 → s.hk.held = none →
      u = s.toMul evTIMER 0 (1024 * max 1 (s.rd HK_TIMER 0)) →
      ∃ t, exec .hkTimerTrigger s = .next t ∧ t.rd HK_STAT_HELD 0 = 1 ∧ t.hk.held = some (u.now + 16 * s.rd HK_TRIG_DELAY 0))
    ∧ (∀ (s : State) (x : PwmChan), x = s.pwmChan (s.rd HK_TRIG_PWM_CH 0) → s.rd HK_TRIG_PWM_EN 0 = 1 → s.rd HK_TRIG_PWM_EDGE 0 = 0 →
      x.en = true → x.t0 = s.now → s.rd HK_CFG_EN 0 = 1 → s.rd HK_SCAN_MASK 0 ≠ 0 → s.hk.held = none →
      ∃ t, exec .hkPwmTrigger s = .next t ∧ t.rd HK_STAT_HELD 0 = 1 ∧ t.hk.held = some (s.now + 16 * s.rd HK_TRIG_DELAY 0))
    ∧ (∀ (s : State), s.sys.deferred = [] → s.rd HK_CFG_EN 0 = 1 → s.rd HK_SCAN_MASK 0 ≠ 0 → s.hk.held = none →
      ∃ t, exec .hkGo s = .next t ∧ t.rd HK_STAT_HELD 0 = 1 ∧ t.hk.held = some (s.now + 16 * s.rd HK_TRIG_DELAY 0))
    ∧ (∀ (s : State) (a : Nat), s.hk.held = some a → s.hk.scanOn = false → s.hk.slowOn = false → s.hk.conv = none →
      s.hk.freeAt ≤ a → s.rd HK_SCAN_MASK 0 ≠ 0 →
      ∃ t, exec .hkScanStart s = .next t ∧ t.rd HK_STAT_HELD 0 = 0 ∧ t.rd HK_STAT_BUSY 0 = 1 ∧ t.now = max s.now a
      ∧ t.rd HK_STAT_LATE 0 = s.rd HK_STAT_LATE 0)
    ∧ (∀ (s u : State), s.now ≠ 0 → u = s.toMul evSLOW 0 983040 → s.hk.conv = none → s.hk.slowOn = false →
      ∃ t, exec .slowRoundRequest s = .next t ∧ t.rd HK_STAT_SLOW 0 = 1 ∧ t.hk.slowOn = true ∧ t.hk.slowReq = false ∧ t.now = u.now)
    ∧ (∀ (s : State) (raw : BitVec 16) (ok : Bool) (c : HkConv) (n : Fin 32), s.hk.conv = some c → c.ch = n → c.slow = false →
      ∃ t, exec (.hkConversionEnd raw ok) s = .next t ∧ t.rd HK_RES_VALID n = ok.toNat
      ∧ t.rd HK_RES_VALUE n = (BitVec.ofInt 16 (hkValue n raw)).toNat ∧ t.now = max s.now c.done)
    ∧ (∀ (s : State) (a : Int), s.thm.coolAt = some a → s.thm.shut = true → s.thm.restart = false → a + (secT 1 : Nat) ≤ s.now →
      ∃ t, exec .thermalRestart s = .next t ∧ t.thm.restart = true ∧ t.thm.coolAt = none ∧ t.rd THM_STAT_COOLING 0 = 0)
    ∧ (∀ (s : State) (k : Fin 4), s.sys.deferred = [] →
      ∃ t, exec .maxClr s = .next t ∧ t.rd THM_MAX k = 0x8000)
    ∧ (∀ (s : State) (parity : Bool) (c : Fin 32),
      ∃ t, exec (.hkFault parity c) s = .next t ∧ t.rd HK_RES_VALID c = 0 ∧ t.tst PG_ERR pgHK (if parity then 2 else 1) = true)
    ∧ (∀ (s : State) (n : Fin 6), (s.pwmChan n).loopDuty = none → s.thm.shut = false →
      ∃ t, exec (.pwmPeriodStart n) s = .next t ∧ t.now = max s.now ((s.pwmChan n).t0 + (s.pwmChan n).per * 2 ^ (s.pwmChan n).presc)
      ∧ (t.pwmChan n).t0 = t.now ∧ (t.pwmChan n).en = s.on PWM_CFG_EN n ∧ (t.pwmChan n).per = s.rd PWM_PER n
      ∧ (t.pwmChan n).duty = min (s.rd PWM_PER n) (s.rd PWM_DUTY n) ∧ (t.pwmChan n).pol = s.on PWM_CFG_POL n)
    ∧ (∀ (s : State) (n : Fin 6), (s.pwmChan n).duty ≠ 0 → (s.pwmChan n).duty < (s.pwmChan n).per →
      s.now ≤ (s.pwmChan n).t0 + (s.pwmChan n).duty * 2 ^ (s.pwmChan n).presc →
      ∃ t, exec (.pwmDutyEdge n) s = .next t ∧ t.now = (s.pwmChan n).t0 + (s.pwmChan n).duty * 2 ^ (s.pwmChan n).presc
      ∧ (t.pwmChan n).level = (s.pwmChan n).pol)
    ∧ (∀ (s : State) (n : Fin 6),
      ∃ t, exec (.pwmMismatch n false) s = .next t ∧ t.rd PWM_STAT_MISMATCH n = 1 ∧ t.tst PG_ERR pgPWM 1 = true)
    ∧ (∀ (s u : State) (k : Fin 8), u = s.toMul evBDAC 0 1024 → s.rd BDAC_CFG_STEP k = 0 →
      ∃ t, exec .bdacStep s = .next t ∧ t.now = u.now ∧ t.rd BDAC_CODE_OUT k = s.bdacTarget k)

/-- The two-wire target and its mailboxes complete: each command answers a next state, which holds what its clause
gives. -/
def Obligations.TwoWireTargetComplete : Prop :=
    (∀ (s : State) (addr : BitVec 7), s.sys.dark = false → addr.toNat = s.rd TWT_CFG_ADDR 0 → s.rd TWT_STAT_ASLEEP 0 = 0 →
      s.rd TWT_STAT_BUSY 0 = 0 →
      ∃ t, exec (.twtAddress addr false) s = .next t ∧ t.rd TWT_STAT_BUSY 0 = 1 ∧ t.twt.acked = true ∧ t.twt.first = true ∧ t.twt.reading = false
      ∧ t.rd TWT_XFER_CNT 0 = min (s.rd TWT_XFER_CNT 0 + 1) (2 ^ TWT_XFER_CNT.w - 1))
    ∧ (∀ (s : State) (b : Byte), s.rd TWT_STAT_BUSY 0 = 1 → s.twt.reading = false → s.twt.first = true →
      ∃ t, exec (.twtWriteByte b true) s = .next t ∧ t.rd TWT_STAT_PTR 0 = b.toNat ∧ t.twt.acked = true ∧ t.twt.first = false
      ∧ t.rd TWT_STAT_BUSY 0 = 0)
    ∧ (∀ (s : State), s.rd TWT_STAT_BUSY 0 = 1 → s.twt.reading = true →
      ∃ t, exec (.twtReadByte true false) s = .next t ∧ t.twt.sent = s.twtByte ∧ t.rd TWT_STAT_PTR 0 = (s.rd TWT_STAT_PTR 0 + 1) % 256
      ∧ t.rd TWT_STAT_BUSY 0 = 0)
    ∧ (∀ (s : State), s.rd TWT_STAT_BUSY 0 = 1 →
      ∃ t, exec .twtRepeatedStartAtAck s = .next t ∧ t.rd TWT_RSACK_CNT 0 = min (s.rd TWT_RSACK_CNT 0 + 1) (2 ^ TWT_RSACK_CNT.w - 1)
      ∧ t.twt.lastAt = s.now ∧ t.rd TWT_STAT_PTR 0 = s.rd TWT_STAT_PTR 0)
    ∧ (∀ (s : State), s.rd TWT_STAT_BUSY 0 = 1 →
      ∃ t, exec .twtSclStuck s = .next t ∧ t.rd TWT_STAT_BUSY 0 = 0 ∧ t.rd TWT_STUCK_CNT 0 = min (s.rd TWT_STUCK_CNT 0 + 1) (2 ^ TWT_STUCK_CNT.w - 1)
      ∧ t.tst PG_ERR pgTWT 1 = true ∧ t.twt.afterStuck = true)
    ∧ (∀ (s : State), s.rd TWT_STAT_BUSY 0 = 0 → s.rd TWT_STAT_ASLEEP 0 = 0 → s.rd TWT_CFG_SLEEP_EN 0 = 1 →
      ∃ t, exec .twtIdleSleep s = .next t ∧ t.rd TWT_STAT_ASLEEP 0 = 1 ∧ t.now = max s.now (s.twt.lastAt + secT (s.rd TWT_CFG_IDLE_S 0)))
    ∧ (∀ (s : State), s.sys.dark = false → s.rd TWT_STAT_ASLEEP 0 = 0 → s.rd TWT_STAT_ALERT 0 = 1 →
      ∃ t, exec (.alertResponse false) s = .next t ∧ t.rd TWT_STAT_ALERT 0 = 0 ∧ t.twt.acked = true
      ∧ t.twt.sent = BitVec.ofNat 8 (2 * s.rd TWT_CFG_ADDR 0) ∧ t.tst PG_INT_STAT pgTWT 4 = true)
    ∧ (∀ (s : State), s.sys.deferred = [] → ∃ t, exec .mailboxInAck s = .next t ∧ t.rd TWT_STAT_IN_FULL 0 = 0)
    ∧ (∀ (s : State), s.sys.deferred = [] → s.rd TWT_STAT_OUT_FULL 0 = 0 →
      ∃ t, exec .mailboxOutGo s = .next t ∧ t.rd TWT_STAT_OUT_FULL 0 = 1)
    ∧ (∀ (s : State), s.sys.deferred = [] → s.tst TWT_ALERT_EN 0 alertHOST = true →
      ∃ t, exec .hostAlert s = .next t ∧ t.rd TWT_STAT_ALERT 0 = 1 ∧ t.twt.causes = s.twt.causes ||| BitVec.ofNat 8 (2 ^ alertHOST))

/-- The two-wire controllers complete: each command answers a next state, which holds what its clause gives. -/
def Obligations.TwoWireControllerComplete : Prop :=
    (∀ (s : State) (q : Fin 2) (v : Word), s.sys.deferred = [] → TWC_CMD_WLEN.of (v ||| 0x80000000#32) ≤ 32 →
      TWC_CMD_RLEN.of (v ||| 0x80000000#32) ≤ 32 → s.rd TWC_CMD_STAT_BUSY q = 0 →
      TWC_CMD_WLEN.of (v ||| 0x80000000#32) + TWC_CMD_RLEN.of (v ||| 0x80000000#32) + TWC_CMD_PEC.of (v ||| 0x80000000#32) ≤ 33 →
      s.rd TWC_CFG_EN q ≠ 0 → (s.tw q).run = none → (s.tw q).clear = false → (s.tw q).clearReq = false → (s.tw q).regWait = none →
      s.rd TWC_STAT_STUCK q = 0 → s.rd TWC_STAT_SDA q ≠ 0 →
      ∃ t, exec (.twcCommandGo q v) s = .next t ∧ (t.tw q).run = some .host ∧ (t.tw q).cmdWait = false ∧ t.rd TWC_CMD_STAT_BUSY q = 1
      ∧ t.rd TWC_STAT_BUSY q = 1 ∧ t.rd TWC_CMD_ADDR q = TWC_CMD_ADDR.of (v ||| 0x80000000#32))
    ∧ (∀ (s : State) (q : Fin 2) (res : Fin 8) (acked : Fin 64) (bs : List Byte), (s.tw q).run = some .host →
      ∃ t, exec (.twcTransactionDone q res acked bs) s = .next t ∧ t.rd TWC_STAT_LAST q = res)
    ∧ (∀ (s u : State) (q : Fin 2) (e : Fin 16), s.rd TWC_POLL_A_EN (pollIx q e) ≠ 0 → (s.tw q).run.isSome = true →
      (s.tw q).polls.contains e.val = false → u = s.toMul (evPOLL + 16 * q + e) 0 (983040 * max 1 (s.rd TWC_POLL_B (pollIx q e))) →
      ∃ t, exec (.pollDue q e) s = .next t ∧ (t.tw q).polls = (s.tw q).polls.filter (· < e.val) ++ e.val :: (s.tw q).polls.filter (e.val < ·)
      ∧ t.now = u.now)
    ∧ (∀ (s : State) (q : Fin 2) (a mv : Nat), (s.tw q).retryAt = some a → (s.tw q).regWait = some mv →
      s.rd TWC_CFG_EN q ≠ 0 → (s.tw q).run = none → (s.tw q).clear = false → (s.tw q).clearReq = false →
      s.rd TWC_STAT_STUCK q = 0 → s.rd TWC_STAT_SDA q ≠ 0 →
      ∃ t, exec (.regulatorRetry q) s = .next t ∧ (t.tw q).run = some (.reg mv) ∧ t.rd TWC_STAT_BUSY q = 1 ∧ t.now = max s.now a)
    ∧ (∀ (s : State) (q : Fin 2), s.sys.deferred = [] → (s.tw q).run = some .host → s.rd TWC_CFG_EN q ≠ 0 → (s.tw q).clear = false →
      ∃ t, exec (.twcAbort q) s = .next t ∧ (t.tw q).clear = true ∧ (t.tw q).run = none ∧ t.rd TWC_STAT_LAST q = 7 ∧ t.rd TWC_CMD_STAT_RESULT q = 7)
    ∧ (∀ (s : State) (q : Fin 2), s.sys.deferred = [] → (s.tw q).run = none → s.rd TWC_CFG_EN q ≠ 0 → (s.tw q).clear = false →
      ∃ t, exec (.twcClear q) s = .next t ∧ (t.tw q).clear = true
      ∧ t.rd TWC_CLEAR_CNT q = min (s.rd TWC_CLEAR_CNT q + 1) (2 ^ TWC_CLEAR_CNT.w - 1))
    ∧ (∀ (s : State) (q : Fin 2), (s.tw q).clear = true →
      ∃ t, exec (.busClearDone q true) s = .next t ∧ t.rd TWC_STAT_SDA q = 1)

/-- The reset kinds and the release complete: each command answers a next state, which holds what its clause gives. -/
def Obligations.ResetCommandsComplete : Prop :=
    (∀ (s : State) (kept : Nat),
      ∃ t, exec (.powerOnReset kept) s = .next t ∧ t.boot.inReset = some .powerOn ∧ t.sys = {} ∧ t.lanes = [] ∧ t.cnx = {}
      ∧ t.rd BOOT_STAT_KIND 0 = 0)
    ∧ (∀ (s : State), s.boot.inReset = none →
      ∃ t, exec .pinReset s = .next t ∧ t.boot.inReset = some .pin ∧ t.sys = {} ∧ t.lanes = [] ∧ t.cnx = {} ∧ t.rd BOOT_STAT_KIND 0 = 1)
    ∧ (∀ (s : State), s.boot.inReset = none →
      ∃ t, exec .hostReset s = .next t ∧ t.boot.inReset = some .host ∧ t.sys = {} ∧ t.lanes = [] ∧ t.cnx = {} ∧ t.rd BOOT_STAT_KIND 0 = 2)
    ∧ (∀ (s : State) (v : Word), s.sys.deferred = [] → BOOT_RESET_KEY.of v = 0x5A → s.boot.inReset = none →
      ∃ t, exec (.bootResetHost v) s = .next t ∧ t.boot.inReset = some .host ∧ t.sys = {} ∧ t.lanes = [] ∧ t.cnx = {} ∧ t.rd BOOT_STAT_KIND 0 = 2)
    ∧ (∀ (s : State) (v : Word), s.sys.deferred = [] → BOOT_RESET_KEY.of v = 0x5A → s.boot.inReset = none →
      ∃ t, exec (.bootResetFabric v) s = .next t ∧ t.boot.inReset = some .fabric ∧ t.sys = {} ∧ t.lanes = [] ∧ t.cnx = {} ∧ t.rd BOOT_STAT_KIND 0 = 4)
    ∧ (∀ (s : State) (p : Bool), s.boot.inReset = none →
      ∃ t, exec (.ringResetFrame p) s = .next t ∧ t.boot.inReset = some .ring ∧ t.sys = {} ∧ t.lanes = [] ∧ t.cnx = {} ∧ t.rd BOOT_STAT_KIND 0 = 3)
    ∧ (∀ (s : State) (k : ResetKind), s.boot.inReset = some k → k.full = true →
      ∃ t, exec .resetRelease s = .next t ∧ t.boot.inReset = none ∧ t.now = 0 ∧ t.rd BOOT_STAT_PHASE 0 = 0 ∧ t.boot.t0 = 0)

/-- The phases of start-up complete: each command answers a next state, which holds what its clause gives. -/
def Obligations.StartUpComplete : Prop :=
    (∀ (s : State) (id : Fin 64) (vtx : Bool) (twt hm : Fin 4) (ref : Option (Fin 6)) (nvq : Bool), s.sys.dark = true →
      s.boot.inReset = none → s.rd BOOT_STAT_PHASE 0 = 0 →
      ∃ t, exec (.startupPhase0Done id vtx twt hm ref nvq) s = .next t ∧ t.rd BOOT_STAT_PHASE 0 = 1 ∧ t.rd SYS_STATE_DEV_ID 0 = id
      ∧ t.rd SYS_STATE_VERTEX 0 = vtx.toNat ∧ t.rd TWT_CFG_ADDR 0 = 0x5C + twt)
    ∧ (∀ (s : State) (ha hb : List Byte), s.sys.dark = true → s.boot.inReset = none → s.rd BOOT_STAT_PHASE 0 = 1 →
      hdrCheck ha (0x800000) s.boot.slot2 = 0 → hdrCheck hb (0x800000) s.boot.slot2 = 0 →
      ∃ t, exec (.smemDiscoveryDone true none ha hb) s = .next t ∧ t.rd BOOT_STAT_PHASE 0 = 2 ∧ t.rd SMEM_STAT_READY 0 = 1 ∧ t.rd SMEM_STAT_MODE 0 = 1
      ∧ t.rd SMEM_STAT_SIZE_LOG2 0 = 24 ∧ t.boot.cand = if hdrSeq ha < hdrSeq hb then 2 else 1)
    ∧ (∀ (s : State) (blocks : List (List Word)) (tag : List Byte) (x : Nat), s.rd BOOT_STAT_PHASE 0 = 2 → s.boot.cand = 1 →
      copyCheck s.boot.hdrA blocks tag s.boot.slot1 = (0, x) →
      ∃ t, exec (.imageCopyChecked blocks tag) s = .next t ∧ t.rd BOOT_STAT_PHASE 0 = 3 ∧ t.rd BOOT_STAT_COPY 0 = 1 ∧ t.boot.cand = 0
      ∧ t.boot.doneA = true ∧ t.rd BOOT_STAT_A_VALID 0 = 1)
    ∧ (∀ (s : State), s.sys.dark = true → s.boot.inReset = none → s.rd BOOT_STAT_PHASE 0 = 3 →
      ∃ t, exec .loadLimitExpiry s = .next t ∧ t.rd BOOT_STAT_PHASE 0 = 4 ∧ t.rd BOOT_STAT_ABORTED 0 = 1
      ∧ t.now = max s.now (s.boot.t0 + msT s.boot.limit))
    ∧ (∀ (s : State), s.sys.dark = true → s.rd BOOT_STAT_PHASE 0 = 4 → s.boot.phase4 = false →
      ∃ t, exec .startupCalibration s = .next t ∧ t.boot.phase4 = true ∧ t.rd BOOT_STAT_PHASE 0 = 4)
    ∧ (∀ (s : State), s.sys.dark = true → s.rd BOOT_STAT_PHASE 0 = 4 → s.boot.phase4 = true → s.synSettled = true →
      ∃ t, exec .rehearsalEntry s = .next t ∧ t.sys.dark = false ∧ t.rd BOOT_STAT_PHASE 0 = 5 ∧ t.devState = stREHEARSAL)
    ∧ (∀ (s : State) (blocks : List (List Word)) (tag : List Byte) (x : Nat), s.sys.dark = false → s.boot.doneA = true →
      s.boot.doneB = false → s.boot.hdrB ≠ [] → copyCheck s.boot.hdrB blocks tag s.boot.slot1 = (0, x) →
      ∃ t, exec (.backgroundCopyCheck blocks tag) s = .next t ∧ t.boot.doneB = true ∧ t.rd BOOT_STAT_B_VALID 0 = 1 ∧ t.rd BOOT_STAT_CHECKED 0 = 1
      ∧ t.tst PG_INT_STAT pgBOOT 2 = true)

/-- The records of an NDN image complete: each command answers a next state, which holds what its clause gives. -/
def Obligations.ImageRecordsComplete : Prop :=
    (∀ (s : State), s.recReady = true →
      ∃ t, exec .imageNop s = .next t ∧ t.rd BOOT_STAT_RECORDS 0 = min (s.rd BOOT_STAT_RECORDS 0 + 1) (2 ^ BOOT_STAT_RECORDS.w - 1) ∧ t.boot.calWait = false
      ∧ t.boot.skip = s.boot.skip)
    ∧ (∀ (s u : State) (off : BitVec 24) (v : Word), s.recReady = true → s.boot.skip = 0 →
      u = (s.satInc BOOT_STAT_RECORDS 0).setBoot (fun b => { b with calWait := false }) →
      ∃ t, exec (.imageWrite off [v]) s = .next t ∧ t = u.hostWrite off.toNat v)
    ∧ (∀ (s u x : State) (off : BitVec 24) (mask v w : Word), s.recReady = true → s.boot.skip = 0 →
      u = (s.satInc BOOT_STAT_RECORDS 0).setBoot (fun b => { b with calWait := false }) → u.readFx off.toNat = (x, w) →
      ∃ t, exec (.imageModify off mask v) s = .next t ∧ t = x.hostWrite off.toNat ((w &&& ~~~mask) ||| (v &&& mask)))
    ∧ (∀ (s u x : State) (off : BitVec 24) (mask v w timeout : Word) (fatal : Bool), s.recReady = true → s.boot.skip = 0 →
      u = (s.satInc BOOT_STAT_RECORDS 0).setBoot (fun b => { b with calWait := false }) → u.readFx off.toNat = (x, w) → w &&& mask ≠ v →
      ∃ t, exec (.imageWait off mask v timeout fatal) s = .next t ∧ t.boot.recEnd = some (x.now + usT timeout.toNat) ∧ t.boot.waiting = true
      ∧ t.boot.fatal = fatal ∧ t.boot.pollAt = x.now)
    ∧ (∀ (s : State) (a : Nat), s.boot.recEnd = some a → s.boot.waiting = true → s.boot.fatal = true →
      ∃ t, exec .imageWaitTimeout s = .next t ∧ t.rd BOOT_STAT_PHASE 0 = 4 ∧ t.rd BOOT_STAT_ABORTED 0 = 1 ∧ t.now = max s.now a)
    ∧ (∀ (s : State) (us : Word), s.recReady = true → s.boot.skip = 0 →
      ∃ t, exec (.imageDelay us) s = .next t ∧ t.boot.recEnd = some (s.now + usT us.toNat) ∧ t.boot.waiting = false
      ∧ t.rd BOOT_STAT_RECORDS 0 = min (s.rd BOOT_STAT_RECORDS 0 + 1) (2 ^ BOOT_STAT_RECORDS.w - 1))
    ∧ (∀ (s : State) (a : Nat), s.boot.recEnd = some a → s.boot.waiting = false →
      ∃ t, exec .imageDelayEnd s = .next t ∧ t.boot.recEnd = none ∧ t.now = max s.now a)
    ∧ (∀ (s u x : State) (off : BitVec 24) (mask v w count : Word), s.recReady = true → s.boot.skip = 0 →
      u = (s.satInc BOOT_STAT_RECORDS 0).setBoot (fun b => { b with calWait := false }) → u.readFx off.toNat = (x, w) → w &&& mask = v →
      ∃ t, exec (.imageSkip off mask v false count) s = .next t ∧ t.boot.skip = count.toNat)
    ∧ (∀ (s : State), s.recReady = true → s.boot.skip = 0 → s.synParked = false →
      ∃ t, exec .imageCalibrate s = .next t ∧ t.boot.calibrated = true ∧ t.boot.calWait = true
      ∧ t.rd BOOT_STAT_RECORDS 0 = min (s.rd BOOT_STAT_RECORDS 0 + 1) (2 ^ BOOT_STAT_RECORDS.w - 1))
    ∧ (∀ (s : State), s.recReady = true →
      ∃ t, exec .imageEnd s = .next t ∧ t.rd BOOT_STAT_PHASE 0 = 4 ∧ t.boot.ended = true
      ∧ t.rd BOOT_STAT_RECORDS 0 = min (s.rd BOOT_STAT_RECORDS 0 + 1) (2 ^ BOOT_STAT_RECORDS.w - 1))

/-- One-time memory, settings memory and supply monitor complete: each command answers a next state, which holds what
its clause gives. -/
def Obligations.SettingsAndSupplyComplete : Prop :=
    (∀ (s : State) (v : Word) (n : Nat), s.sys.deferred = [] → SEC_PROG_SLOT.of v = n → s.sys.dark = false → s.devState = stREHEARSAL →
      s.slotUsed n = false → (n = 2 → s.slotUsed 1 = true) → SEC_PROG_CONFIRM.of v = 0xC5 → s.boot.prog = none →
      ∃ t, exec (.otpProgram v) s = .next t ∧ t.boot.prog = some n ∧ t.rd SEC_STAT_BUSY 0 = 1 ∧ t.rd SEC_STAT_RESULT 0 = 0)
    ∧ (∀ (s : State), s.boot.prog = some 0 →
      ∃ t, exec (.otpProgramDone true) s = .next t ∧ t.boot.otp0 = some s.stagedKey ∧ t.boot.prog = none ∧ t.rd SEC_STAT_CHAIN_KEY 0 = 1
      ∧ t.rd SEC_STAT_BUSY 0 = 0 ∧ t.rd SEC_STAT_RESULT 0 = 1)
    ∧ (∀ (s : State) (v : Word), s.sys.deferred = [] → s.smem.run = none → s.sys.dark = false → s.rd SMEM_LEN 0 ≤ 256 →
      s.rd SMEM_CFG_LOCK 0 = 0 → SMEM_CMD_WREN.of v = 0 →
      ∃ t, exec (.smemCommandGo v) s = .next t ∧ t.rd SMEM_CMD_STAT_BUSY 0 = 1 ∧ t.rd SMEM_CMD_STAT_DONE 0 = 0
      ∧ t.rd SMEM_CMD_STAT_RESULT 0 = 0 ∧ t.rd SMEM_CMD_OPCODE 0 = SMEM_CMD_OPCODE.of v
      ∧ (t.smem.run.map fun r => r.len) = some (s.rd SMEM_LEN 0))
    ∧ (∀ (s : State) (bs : List Byte) (c : SmemCmd), s.smem.run = some c →
      ∃ t, exec (.smemCommandDone bs false) s = .next t ∧ t.smem.run = none ∧ t.rd SMEM_CMD_STAT_BUSY 0 = 0 ∧ t.rd SMEM_CMD_STAT_DONE 0 = 1
      ∧ t.rd SMEM_CMD_STAT_RESULT 0 = 0)
    ∧ (∀ (s : State) (r : Fin 7), s.tst SYS_SUPPLY_UNDER_NOW 0 r = false →
      ∃ t, exec (.supplyUnderAlarm r) s = .next t ∧ t.tst SYS_SUPPLY_UNDER_NOW 0 r = true ∧ t.tst SYS_SUPPLY_UNDER_STICKY 0 r = true
      ∧ t.rd SYS_SUPPLY_CNT 0 = min (s.rd SYS_SUPPLY_CNT 0 + 1) (2 ^ SYS_SUPPLY_CNT.w - 1))
    ∧ (∀ (s : State) (r : Fin 7), s.tst SYS_SUPPLY_OVER_NOW 0 r = false →
      ∃ t, exec (.supplyOverAlarm r) s = .next t ∧ t.tst SYS_SUPPLY_OVER_NOW 0 r = true ∧ t.tst SYS_SUPPLY_OVER_STICKY 0 r = true
      ∧ t.rd SYS_SUPPLY_CNT 0 = min (s.rd SYS_SUPPLY_CNT 0 + 1) (2 ^ SYS_SUPPLY_CNT.w - 1) ∧ t.pb.pf = s.pb.pf)
    ∧ (∀ (s : State),
      ∃ t, exec .supplyAlarmClear s = .next t ∧ t.rd SYS_SUPPLY_UNDER_NOW 0 = 0 ∧ t.rd SYS_SUPPLY_OVER_NOW 0 = 0)
    ∧ (∀ (s : State) (m : Fin 16) (level : Bool), s.tst SYS_GPIO_DIR 0 m = false → s.pins.gpio.getLsbD m = !level →
      ∃ t, exec (.gpioEdge m level) s = .next t ∧ t.pins.gpio.getLsbD m = level
      ∧ t.tst (if level then SYS_GPIO_EDGE_RISE else SYS_GPIO_EDGE_FALL) 0 m = true)

/-- Page interrupt and error clears complete: each command answers a next state, which holds what its clause gives. -/
def Obligations.PageClearsComplete : Prop :=
    (∀ (s : State) (page : Page), s.sys.deferred = [] →
      ∃ t, exec (.pageIntClear page) s = .next t ∧ t.rd PG_INT_STAT (pageOff page) = 0)
    ∧ (∀ (s : State) (page : Page) (b : Nat), s.sys.deferred = [] → b < 32 →
      ∃ t, exec (.pageErrClear page) s = .next t
      ∧ t.tst PG_ERR (pageOff page) b = (s.tst PG_ERR (pageOff page) b && (decide (pageOff page = pgPROT) && decide (1 ≤ b) && decide (b ≤ 5)
      && (List.range 8).any fun m => s.cause m (b - 1))))

/-- Register writes and falls of standing signals complete: each command answers a next state, which holds what its
clause gives. -/
def Obligations.RegisterWriteAndSignalFallComplete : Prop :=
    ((∀ (s : State) (dev : Fin 64) (off : BitVec 24) (v : Word), s.sys.dark = true → exec (.registerWrite dev off v) s = .next s)
      ∧ (∀ (s : State) (dev : Fin 64) (off : BitVec 24) (v : Word), s.sys.dark = false → (s.vertex = true → dev.val = s.devId) → s.sys.deferred = [] →
      exec (.registerWrite dev off v) s = .next (s.hostWrite off.toNat v))
      ∧ (∀ (s : State) (dev : Fin 64) (page : Page) (off : BitVec 24) (v : Word), s.sys.dark = false → (s.vertex = true → dev.val = s.devId) → s.sys.deferred = [] →
      off.toNat = pageOff page + 0x1C → pageOff page ≠ pgIC + 0x1000 →
      ∃ t, exec (.registerWrite dev off v) s = .next t ∧ t.rd PG_INT_EN (pageOff page) = v.toNat % 2 ^ intBits (pageOff page) ∧ t.mem = s.mem)
      ∧ (∀ (s : State) (dev : Fin 64) (off : BitVec 24) (v : Word), s.sys.dark = false → s.vertex = true → dev.val ≠ s.devId → s.present dev = true →
      s.ring.restoring = false → (s.deliv dev 0).unacked.length < 64 → (s.deliv dev 0).waiting = [] →
      ∃ t, exec (.registerWrite dev off v) s = .next t
      ∧ (t.deliv dev 0).unacked = (s.deliv dev 0).unacked ++ [⟨s.portTo dev, 0, dev, (s.deliv dev 0).next, .write (.write off.toNat v)⟩])
      ∧ (∀ (s : State) (dev : Fin 64) (off : BitVec 24) (v : Word), s.sys.dark = false → s.vertex = true → dev.val ≠ s.devId → s.present dev = false →
      ∃ t, exec (.registerWrite dev off v) s = .next t
      ∧ t.rd RING_ABS_WR_CNT 0 = min (s.rd RING_ABS_WR_CNT 0 + 1) (2 ^ RING_ABS_WR_CNT.w - 1)))
    ∧ ((∀ (s : State) (k : Fin 8), ∃ t, exec (.standingSignalFall 12 (k.castLE (by decide))) s = .next t ∧ (t.rport k).lineFault = false)
      ∧ (∀ (s : State) (n : Fin 56) (k : Fin 32), n.val = 12 ∨ n.val = 21 ∨ n.val = 5 ∧ k.val = 5
      ∨ n.val = 54 ∧ k.val = 0 ∧ s.rd SYS_SUPPLY_UNDER_NOW 0 = 0 ∧ s.rd SYS_SUPPLY_OVER_NOW 0 = 0 →
      ∃ t, exec (.standingSignalFall n k) s = .next t ∧ ∀ b < 32, (t.fcSrc n).stand.getLsbD b = ((s.fcSrc n).stand.getLsbD b && b != k)))
end

