-- ==== Sys2Proof/Laws/Memory.lean ====
section
/-! SUPPORT. The addressed memory: a byte read after a store, and the canonical form kept by every store. -/
namespace Sys2Proof.Machine
open Sys2Proof

theorem memWfFrom_mono {m : List Host.Cell} {a b : Nat} (hab : a ≤ b) (h : memWfFrom b m = true) : memWfFrom a m = true := by
  cases m with
  | nil => rfl
  | cons x m =>
    obtain ⟨k, v⟩ := x
    simp only [memWfFrom, Bool.and_eq_true, decide_eq_true_eq] at h ⊢
    exact ⟨⟨Nat.le_trans hab h.1.1, h.1.2⟩, h.2⟩

theorem memGet_below {m : List Host.Cell} {a lo : Nat} (hm : memWfFrom lo m = true) (ha : a < lo) :
    memGet m a = resetByte a := by
  induction m generalizing lo with
  | nil => rfl
  | cons x m ih =>
    obtain ⟨k, v⟩ := x
    simp only [memWfFrom, Bool.and_eq_true, decide_eq_true_eq] at hm
    simp only [memGet]
    rw [if_neg (by omega), ih hm.2 (by omega)]

theorem memSet_wfFrom {m : List Host.Cell} {lo a : Nat} (b : Byte) (hm : memWfFrom lo m = true) (ha : lo ≤ a) :
    memWfFrom lo (memSet m a b) = true := by
  induction m generalizing lo with
  | nil =>
    simp only [memSet]
    split
    · rfl
    · rename_i h; simp [memWfFrom, ha, h]
  | cons x m ih =>
    obtain ⟨k, v⟩ := x
    have hm' := hm
    simp only [memWfFrom, Bool.and_eq_true, decide_eq_true_eq] at hm'
    obtain ⟨⟨hk, hv⟩, hr⟩ := hm'
    simp only [memSet]
    split
    · split
      · exact hm
      · rename_i h1 h2
        simp only [memWfFrom, Bool.and_eq_true, decide_eq_true_eq]
        exact ⟨⟨ha, by simp [h2]⟩, ⟨by omega, hv⟩, hr⟩
    · split
      · rename_i h1 h2
        subst h2
        split
        · exact memWfFrom_mono (by omega) hr
        · rename_i h3
          simp only [memWfFrom, Bool.and_eq_true, decide_eq_true_eq]
          exact ⟨⟨hk, by simp [h3]⟩, hr⟩
      · simp only [memWfFrom, Bool.and_eq_true, decide_eq_true_eq]
        exact ⟨⟨hk, hv⟩, ih hr (by omega)⟩

/-- A store keeps the canonical form. -/
theorem memSet_wf {m : List Host.Cell} (a : Nat) (b : Byte) (h : Memory.wf m = true) : Memory.wf (memSet m a b) = true :=
  memSet_wfFrom b h (Nat.zero_le a)

/-- A byte reads as it was stored. -/
theorem memGet_memSet_self {m : List Host.Cell} (a : Nat) (b : Byte) (h : Memory.wf m = true) :
    memGet (memSet m a b) a = b := by
  have gen : ∀ lo, memWfFrom lo m = true → memGet (memSet m a b) a = b := by
    induction m with
    | nil =>
      intro lo _
      simp only [memSet]
      split
      · rename_i h; simp [memGet, h]
      · simp [memGet]
    | cons x m ih =>
      obtain ⟨k, v⟩ := x
      intro lo hm
      have hm' := hm
      simp only [memWfFrom, Bool.and_eq_true, decide_eq_true_eq] at hm'
      obtain ⟨⟨hk, hv⟩, hr⟩ := hm'
      simp only [memSet]
      split
      · split
        · rename_i h1 h2
          simp only [memGet]
          rw [if_neg (by omega), memGet_below hr (by omega), h2]
        · simp [memGet]
      · split
        · rename_i h1 h2
          subst h2
          split
          · rename_i h3; rw [memGet_below hr (by omega), h3]
          · simp [memGet]
        · rename_i h1 h2
          simp only [memGet, if_neg h2]
          exact ih (memWfFrom_mono (Nat.zero_le _) hr) _ hr
  exact gen 0 h

/-- A store leaves every other byte. -/
theorem memGet_memSet_ne {m : List Host.Cell} {a c : Nat} (b : Byte) (h : c ≠ a) : memGet (memSet m a b) c = memGet m c := by
  induction m with
  | nil => simp only [memSet]; split <;> simp [memGet, Ne.symm h]
  | cons x m ih =>
    obtain ⟨k, v⟩ := x
    simp only [memSet]
    split
    · split
      · rfl
      · simp [memGet, Ne.symm h]
    · split
      · rename_i h1 h2
        subst h2
        split <;> simp [memGet, Ne.symm h]
      · simp only [memGet, ih]

theorem memWfFrom_filter {m : List Host.Cell} {lo : Nat} (p : Host.Cell → Bool) (h : memWfFrom lo m = true) :
    memWfFrom lo (m.filter p) = true := by
  induction m generalizing lo with
  | nil => rfl
  | cons x m ih =>
    obtain ⟨k, v⟩ := x
    simp only [memWfFrom, Bool.and_eq_true, decide_eq_true_eq] at h
    simp only [List.filter]
    split
    · simp only [memWfFrom, Bool.and_eq_true, decide_eq_true_eq]; exact ⟨h.1, ih h.2⟩
    · exact memWfFrom_mono (by omega) (ih h.2)

theorem st8_mem_wf {s : State} (a : Nat) (b : Byte) (h : Memory.wf s.mem = true) : Memory.wf (s.st8 a b).mem = true :=
  memSet_wf a b h
theorem ld8_st8_self {s : State} (a : Nat) (b : Byte) (h : Memory.wf s.mem = true) : (s.st8 a b).ld8 a = b :=
  memGet_memSet_self a b h
theorem ld8_st8_ne {s : State} {a c : Nat} (b : Byte) (h : c ≠ a) : (s.st8 a b).ld8 c = s.ld8 c :=
  memGet_memSet_ne b h

/-- A word reads as it was stored. -/
theorem ld_st_self {s : State} (a : Nat) (w : Word) (h : Memory.wf s.mem = true) : (s.st a w).ld a = w := by
  have h0 := st8_mem_wf a (w.extractLsb' 0 8) h
  have h1 := st8_mem_wf (a + 1) (w.extractLsb' 8 8) h0
  have h2 := st8_mem_wf (a + 2) (w.extractLsb' 16 8) h1
  simp only [State.ld, State.st]
  rw [ld8_st8_self _ _ h2, ld8_st8_ne _ (by omega), ld8_st8_self _ _ h1, ld8_st8_ne _ (by omega), ld8_st8_ne _ (by omega),
    ld8_st8_self _ _ h0, ld8_st8_ne _ (by omega), ld8_st8_ne _ (by omega), ld8_st8_ne _ (by omega), ld8_st8_self _ _ h]
  ext i hi
  simp only [BitVec.getElem_append, BitVec.getElem_extractLsb']
  split
  · simp [BitVec.getLsbD_eq_getElem hi]
  · split
    · rw [← BitVec.getLsbD_eq_getElem hi]; congr 1; omega
    · split
      · rw [← BitVec.getLsbD_eq_getElem hi]; congr 1; omega
      · rw [← BitVec.getLsbD_eq_getElem hi]; congr 1; omega

/-- A word stored leaves every byte outside it. -/
theorem ld8_st_ne {s : State} {a c : Nat} (w : Word) (h : c < a ∨ a + 4 ≤ c) : (s.st a w).ld8 c = s.ld8 c := by
  simp only [State.st]
  rw [ld8_st8_ne _ (by omega), ld8_st8_ne _ (by omega), ld8_st8_ne _ (by omega), ld8_st8_ne _ (by omega)]

end Sys2Proof.Machine
end

