-- ==== Sys2Proof/Laws/State.lean ====
section
/-! SUPPORT. What each primitive update of the state leaves in each of its pieces, and what the accessors read after it. -/
namespace Sys2Proof.Machine
open Sys2Proof

/-! ### Tables -/

theorem Tab.get_set_self {α : Type} (d : α) (v : α) (i : Nat) : ∀ t : Tab α, Tab.get d (Tab.set t i v) i = v
  | [] => by simp [Tab.set, Tab.get]
  | (j, x) :: t => by
    unfold Tab.set
    split
    · simp [Tab.get]
    · split
      · simp [Tab.get]
      · rename_i h; simp only [Tab.get, h, if_false]; exact Tab.get_set_self d v i t

theorem Tab.get_set_ne {α : Type} (d : α) (v : α) {i k : Nat} (h : i ≠ k) :
    ∀ t : Tab α, Tab.get d (Tab.set t i v) k = Tab.get d t k
  | [] => by simp [Tab.set, Tab.get, h]
  | (j, x) :: t => by
    unfold Tab.set
    split
    · simp [Tab.get, h]
    · split
      · rename_i e; subst e; simp [Tab.get, h]
      · simp only [Tab.get]; split
        · rfl
        · exact Tab.get_set_ne d v h t

theorem Tab.get_set {α : Type} (d : α) (v : α) (i k : Nat) (t : Tab α) :
    Tab.get d (Tab.set t i v) k = if i = k then v else Tab.get d t k := by
  split
  · rename_i h; subst h; exact Tab.get_set_self d v i t
  · rename_i h; exact Tab.get_set_ne d v h t

section
variable (s : State)

/-! ### Pieces of the state after an update -/

@[simp] theorem State.wr_mem (f : Fld) (i v : Nat) : (s.wr f i v).mem = s.mem := rfl
@[simp] theorem State.wr_now (f : Fld) (i v : Nat) : (s.wr f i v).now = s.now := rfl
@[simp] theorem State.wr_free (f : Fld) (i v : Nat) : (s.wr f i v).free = s.free := rfl
@[simp] theorem State.wr_pins (f : Fld) (i v : Nat) : (s.wr f i v).pins = s.pins := rfl
@[simp] theorem State.wr_sys (f : Fld) (i v : Nat) : (s.wr f i v).sys = s.sys := rfl
@[simp] theorem State.wr_boot (f : Fld) (i v : Nat) : (s.wr f i v).boot = s.boot := rfl
@[simp] theorem State.wr_fc (f : Fld) (i v : Nat) : (s.wr f i v).fc = s.fc := rfl
@[simp] theorem State.wr_pb (f : Fld) (i v : Nat) : (s.wr f i v).pb = s.pb := rfl
@[simp] theorem State.wr_cur (f : Fld) (i v : Nat) : (s.wr f i v).cur = s.cur := rfl
@[simp] theorem State.wr_prot (f : Fld) (i v : Nat) : (s.wr f i v).prot = s.prot := rfl
@[simp] theorem State.wr_lanes (f : Fld) (i v : Nat) : (s.wr f i v).lanes = s.lanes := rfl
@[simp] theorem State.wr_conv (f : Fld) (i v : Nat) : (s.wr f i v).conv = s.conv := rfl
@[simp] theorem State.wr_rfc (f : Fld) (i v : Nat) : (s.wr f i v).rfc = s.rfc := rfl
@[simp] theorem State.wr_cnx (f : Fld) (i v : Nat) : (s.wr f i v).cnx = s.cnx := rfl
@[simp] theorem State.wr_spt (f : Fld) (i v : Nat) : (s.wr f i v).spt = s.spt := rfl
@[simp] theorem State.wr_time (f : Fld) (i v : Nat) : (s.wr f i v).time = s.time := rfl
@[simp] theorem State.wr_tdd (f : Fld) (i v : Nat) : (s.wr f i v).tdd = s.tdd := rfl
@[simp] theorem State.wr_cte (f : Fld) (i v : Nat) : (s.wr f i v).cte = s.cte := rfl
@[simp] theorem State.wr_fab (f : Fld) (i v : Nat) : (s.wr f i v).fab = s.fab := rfl
@[simp] theorem State.wr_stm (f : Fld) (i v : Nat) : (s.wr f i v).stm = s.stm := rfl
@[simp] theorem State.wr_hif (f : Fld) (i v : Nat) : (s.wr f i v).hif = s.hif := rfl
@[simp] theorem State.wr_ring (f : Fld) (i v : Nat) : (s.wr f i v).ring = s.ring := rfl
@[simp] theorem State.wr_hk (f : Fld) (i v : Nat) : (s.wr f i v).hk = s.hk := rfl
@[simp] theorem State.wr_thm (f : Fld) (i v : Nat) : (s.wr f i v).thm = s.thm := rfl
@[simp] theorem State.wr_pwm (f : Fld) (i v : Nat) : (s.wr f i v).pwm = s.pwm := rfl
@[simp] theorem State.wr_twt (f : Fld) (i v : Nat) : (s.wr f i v).twt = s.twt := rfl
@[simp] theorem State.wr_twc (f : Fld) (i v : Nat) : (s.wr f i v).twc = s.twc := rfl
@[simp] theorem State.wr_smem (f : Fld) (i v : Nat) : (s.wr f i v).smem = s.smem := rfl
@[simp] theorem State.wr_marks (f : Fld) (i v : Nat) : (s.wr f i v).marks = s.marks := rfl
@[simp] theorem State.wr_pending (f : Fld) (i v : Nat) : (s.wr f i v).pending = s.pending := rfl
@[simp] theorem State.pass_regs (d : Nat) : (s.pass d).regs = s.regs := rfl
@[simp] theorem State.pass_mem (d : Nat) : (s.pass d).mem = s.mem := rfl
@[simp] theorem State.pass_now (d : Nat) : (s.pass d).now = s.now + d := rfl
@[simp] theorem State.pass_free (d : Nat) : (s.pass d).free = s.free := rfl
@[simp] theorem State.pass_pins (d : Nat) : (s.pass d).pins = s.pins := rfl
@[simp] theorem State.pass_sys (d : Nat) : (s.pass d).sys = s.sys := rfl
@[simp] theorem State.pass_boot (d : Nat) : (s.pass d).boot = s.boot := rfl
@[simp] theorem State.pass_fc (d : Nat) : (s.pass d).fc = s.fc := rfl
@[simp] theorem State.pass_pb (d : Nat) : (s.pass d).pb = s.pb := rfl
@[simp] theorem State.pass_cur (d : Nat) : (s.pass d).cur = s.cur := rfl
@[simp] theorem State.pass_prot (d : Nat) : (s.pass d).prot = s.prot := rfl
@[simp] theorem State.pass_lanes (d : Nat) : (s.pass d).lanes = s.lanes := rfl
@[simp] theorem State.pass_conv (d : Nat) : (s.pass d).conv = s.conv := rfl
@[simp] theorem State.pass_rfc (d : Nat) : (s.pass d).rfc = s.rfc := rfl
@[simp] theorem State.pass_cnx (d : Nat) : (s.pass d).cnx = s.cnx := rfl
@[simp] theorem State.pass_spt (d : Nat) : (s.pass d).spt = s.spt := rfl
@[simp] theorem State.pass_tdd (d : Nat) : (s.pass d).tdd = s.tdd := rfl
@[simp] theorem State.pass_cte (d : Nat) : (s.pass d).cte = s.cte := rfl
@[simp] theorem State.pass_fab (d : Nat) : (s.pass d).fab = s.fab := rfl
@[simp] theorem State.pass_stm (d : Nat) : (s.pass d).stm = s.stm := rfl
@[simp] theorem State.pass_hif (d : Nat) : (s.pass d).hif = s.hif := rfl
@[simp] theorem State.pass_ring (d : Nat) : (s.pass d).ring = s.ring := rfl
@[simp] theorem State.pass_hk (d : Nat) : (s.pass d).hk = s.hk := rfl
@[simp] theorem State.pass_thm (d : Nat) : (s.pass d).thm = s.thm := rfl
@[simp] theorem State.pass_pwm (d : Nat) : (s.pass d).pwm = s.pwm := rfl
@[simp] theorem State.pass_twt (d : Nat) : (s.pass d).twt = s.twt := rfl
@[simp] theorem State.pass_twc (d : Nat) : (s.pass d).twc = s.twc := rfl
@[simp] theorem State.pass_smem (d : Nat) : (s.pass d).smem = s.smem := rfl
@[simp] theorem State.pass_marks (d : Nat) : (s.pass d).marks = s.marks := rfl
@[simp] theorem State.pass_pending (d : Nat) : (s.pass d).pending = s.pending := rfl
@[simp] theorem State.st8_regs (a : Nat) (b : Byte) : (s.st8 a b).regs = s.regs := rfl
@[simp] theorem State.st8_mem (a : Nat) (b : Byte) : (s.st8 a b).mem = memSet s.mem a b := rfl
@[simp] theorem State.st8_now (a : Nat) (b : Byte) : (s.st8 a b).now = s.now := rfl
@[simp] theorem State.st8_free (a : Nat) (b : Byte) : (s.st8 a b).free = s.free := rfl
@[simp] theorem State.st8_pins (a : Nat) (b : Byte) : (s.st8 a b).pins = s.pins := rfl
@[simp] theorem State.st8_sys (a : Nat) (b : Byte) : (s.st8 a b).sys = s.sys := rfl
@[simp] theorem State.st8_boot (a : Nat) (b : Byte) : (s.st8 a b).boot = s.boot := rfl
@[simp] theorem State.st8_fc (a : Nat) (b : Byte) : (s.st8 a b).fc = s.fc := rfl
@[simp] theorem State.st8_pb (a : Nat) (b : Byte) : (s.st8 a b).pb = s.pb := rfl
@[simp] theorem State.st8_cur (a : Nat) (b : Byte) : (s.st8 a b).cur = s.cur := rfl
@[simp] theorem State.st8_prot (a : Nat) (b : Byte) : (s.st8 a b).prot = s.prot := rfl
@[simp] theorem State.st8_lanes (a : Nat) (b : Byte) : (s.st8 a b).lanes = s.lanes := rfl
@[simp] theorem State.st8_conv (a : Nat) (b : Byte) : (s.st8 a b).conv = s.conv := rfl
@[simp] theorem State.st8_rfc (a : Nat) (b : Byte) : (s.st8 a b).rfc = s.rfc := rfl
@[simp] theorem State.st8_cnx (a : Nat) (b : Byte) : (s.st8 a b).cnx = s.cnx := rfl
@[simp] theorem State.st8_spt (a : Nat) (b : Byte) : (s.st8 a b).spt = s.spt := rfl
@[simp] theorem State.st8_time (a : Nat) (b : Byte) : (s.st8 a b).time = s.time := rfl
@[simp] theorem State.st8_tdd (a : Nat) (b : Byte) : (s.st8 a b).tdd = s.tdd := rfl
@[simp] theorem State.st8_cte (a : Nat) (b : Byte) : (s.st8 a b).cte = s.cte := rfl
@[simp] theorem State.st8_fab (a : Nat) (b : Byte) : (s.st8 a b).fab = s.fab := rfl
@[simp] theorem State.st8_stm (a : Nat) (b : Byte) : (s.st8 a b).stm = s.stm := rfl
@[simp] theorem State.st8_hif (a : Nat) (b : Byte) : (s.st8 a b).hif = s.hif := rfl
@[simp] theorem State.st8_ring (a : Nat) (b : Byte) : (s.st8 a b).ring = s.ring := rfl
@[simp] theorem State.st8_hk (a : Nat) (b : Byte) : (s.st8 a b).hk = s.hk := rfl
@[simp] theorem State.st8_thm (a : Nat) (b : Byte) : (s.st8 a b).thm = s.thm := rfl
@[simp] theorem State.st8_pwm (a : Nat) (b : Byte) : (s.st8 a b).pwm = s.pwm := rfl
@[simp] theorem State.st8_twt (a : Nat) (b : Byte) : (s.st8 a b).twt = s.twt := rfl
@[simp] theorem State.st8_twc (a : Nat) (b : Byte) : (s.st8 a b).twc = s.twc := rfl
@[simp] theorem State.st8_smem (a : Nat) (b : Byte) : (s.st8 a b).smem = s.smem := rfl
@[simp] theorem State.st8_marks (a : Nat) (b : Byte) : (s.st8 a b).marks = s.marks := rfl
@[simp] theorem State.st8_pending (a : Nat) (b : Byte) : (s.st8 a b).pending = s.pending := rfl
@[simp] theorem State.mark_regs (e : Nat) : (s.mark e).regs = s.regs := rfl
@[simp] theorem State.mark_mem (e : Nat) : (s.mark e).mem = s.mem := rfl
@[simp] theorem State.mark_now (e : Nat) : (s.mark e).now = s.now := rfl
@[simp] theorem State.mark_free (e : Nat) : (s.mark e).free = s.free := rfl
@[simp] theorem State.mark_pins (e : Nat) : (s.mark e).pins = s.pins := rfl
@[simp] theorem State.mark_sys (e : Nat) : (s.mark e).sys = s.sys := rfl
@[simp] theorem State.mark_boot (e : Nat) : (s.mark e).boot = s.boot := rfl
@[simp] theorem State.mark_fc (e : Nat) : (s.mark e).fc = s.fc := rfl
@[simp] theorem State.mark_pb (e : Nat) : (s.mark e).pb = s.pb := rfl
@[simp] theorem State.mark_cur (e : Nat) : (s.mark e).cur = s.cur := rfl
@[simp] theorem State.mark_prot (e : Nat) : (s.mark e).prot = s.prot := rfl
@[simp] theorem State.mark_lanes (e : Nat) : (s.mark e).lanes = s.lanes := rfl
@[simp] theorem State.mark_conv (e : Nat) : (s.mark e).conv = s.conv := rfl
@[simp] theorem State.mark_rfc (e : Nat) : (s.mark e).rfc = s.rfc := rfl
@[simp] theorem State.mark_cnx (e : Nat) : (s.mark e).cnx = s.cnx := rfl
@[simp] theorem State.mark_spt (e : Nat) : (s.mark e).spt = s.spt := rfl
@[simp] theorem State.mark_time (e : Nat) : (s.mark e).time = s.time := rfl
@[simp] theorem State.mark_tdd (e : Nat) : (s.mark e).tdd = s.tdd := rfl
@[simp] theorem State.mark_cte (e : Nat) : (s.mark e).cte = s.cte := rfl
@[simp] theorem State.mark_fab (e : Nat) : (s.mark e).fab = s.fab := rfl
@[simp] theorem State.mark_stm (e : Nat) : (s.mark e).stm = s.stm := rfl
@[simp] theorem State.mark_hif (e : Nat) : (s.mark e).hif = s.hif := rfl
@[simp] theorem State.mark_ring (e : Nat) : (s.mark e).ring = s.ring := rfl
@[simp] theorem State.mark_hk (e : Nat) : (s.mark e).hk = s.hk := rfl
@[simp] theorem State.mark_thm (e : Nat) : (s.mark e).thm = s.thm := rfl
@[simp] theorem State.mark_pwm (e : Nat) : (s.mark e).pwm = s.pwm := rfl
@[simp] theorem State.mark_twt (e : Nat) : (s.mark e).twt = s.twt := rfl
@[simp] theorem State.mark_twc (e : Nat) : (s.mark e).twc = s.twc := rfl
@[simp] theorem State.mark_smem (e : Nat) : (s.mark e).smem = s.smem := rfl
@[simp] theorem State.mark_marks (e : Nat) : (s.mark e).marks = s.marks.set e (s.now + 1) := rfl
@[simp] theorem State.mark_pending (e : Nat) : (s.mark e).pending = s.pending := rfl
@[simp] theorem State.setTod_regs (n : Nat) : (s.setTod n).regs = s.regs := rfl
@[simp] theorem State.setTod_mem (n : Nat) : (s.setTod n).mem = s.mem := rfl
@[simp] theorem State.setTod_now (n : Nat) : (s.setTod n).now = s.now := rfl
@[simp] theorem State.setTod_free (n : Nat) : (s.setTod n).free = s.free := rfl
@[simp] theorem State.setTod_pins (n : Nat) : (s.setTod n).pins = s.pins := rfl
@[simp] theorem State.setTod_sys (n : Nat) : (s.setTod n).sys = s.sys := rfl
@[simp] theorem State.setTod_boot (n : Nat) : (s.setTod n).boot = s.boot := rfl
@[simp] theorem State.setTod_fc (n : Nat) : (s.setTod n).fc = s.fc := rfl
@[simp] theorem State.setTod_pb (n : Nat) : (s.setTod n).pb = s.pb := rfl
@[simp] theorem State.setTod_cur (n : Nat) : (s.setTod n).cur = s.cur := rfl
@[simp] theorem State.setTod_prot (n : Nat) : (s.setTod n).prot = s.prot := rfl
@[simp] theorem State.setTod_lanes (n : Nat) : (s.setTod n).lanes = s.lanes := rfl
@[simp] theorem State.setTod_conv (n : Nat) : (s.setTod n).conv = s.conv := rfl
@[simp] theorem State.setTod_rfc (n : Nat) : (s.setTod n).rfc = s.rfc := rfl
@[simp] theorem State.setTod_cnx (n : Nat) : (s.setTod n).cnx = s.cnx := rfl
@[simp] theorem State.setTod_spt (n : Nat) : (s.setTod n).spt = s.spt := rfl
@[simp] theorem State.setTod_time (n : Nat) : (s.setTod n).time = { s.time with sec := n / tps % 2 ^ 32, idx := n % tps } := rfl
@[simp] theorem State.setTod_tdd (n : Nat) : (s.setTod n).tdd = s.tdd := rfl
@[simp] theorem State.setTod_cte (n : Nat) : (s.setTod n).cte = s.cte := rfl
@[simp] theorem State.setTod_fab (n : Nat) : (s.setTod n).fab = s.fab := rfl
@[simp] theorem State.setTod_stm (n : Nat) : (s.setTod n).stm = s.stm := rfl
@[simp] theorem State.setTod_hif (n : Nat) : (s.setTod n).hif = s.hif := rfl
@[simp] theorem State.setTod_ring (n : Nat) : (s.setTod n).ring = s.ring := rfl
@[simp] theorem State.setTod_hk (n : Nat) : (s.setTod n).hk = s.hk := rfl
@[simp] theorem State.setTod_thm (n : Nat) : (s.setTod n).thm = s.thm := rfl
@[simp] theorem State.setTod_pwm (n : Nat) : (s.setTod n).pwm = s.pwm := rfl
@[simp] theorem State.setTod_twt (n : Nat) : (s.setTod n).twt = s.twt := rfl
@[simp] theorem State.setTod_twc (n : Nat) : (s.setTod n).twc = s.twc := rfl
@[simp] theorem State.setTod_smem (n : Nat) : (s.setTod n).smem = s.smem := rfl
@[simp] theorem State.setTod_marks (n : Nat) : (s.setTod n).marks = s.marks := rfl
@[simp] theorem State.setTod_pending (n : Nat) : (s.setTod n).pending = s.pending := rfl
@[simp] theorem State.setFc_regs (g : FcSt → FcSt) : (s.setFc g).regs = s.regs := rfl
@[simp] theorem State.setFc_mem (g : FcSt → FcSt) : (s.setFc g).mem = s.mem := rfl
@[simp] theorem State.setFc_now (g : FcSt → FcSt) : (s.setFc g).now = s.now := rfl
@[simp] theorem State.setFc_free (g : FcSt → FcSt) : (s.setFc g).free = s.free := rfl
@[simp] theorem State.setFc_pins (g : FcSt → FcSt) : (s.setFc g).pins = s.pins := rfl
@[simp] theorem State.setFc_sys (g : FcSt → FcSt) : (s.setFc g).sys = s.sys := rfl
@[simp] theorem State.setFc_boot (g : FcSt → FcSt) : (s.setFc g).boot = s.boot := rfl
@[simp] theorem State.setFc_fc (g : FcSt → FcSt) : (s.setFc g).fc = g s.fc := rfl
@[simp] theorem State.setFc_pb (g : FcSt → FcSt) : (s.setFc g).pb = s.pb := rfl
@[simp] theorem State.setFc_cur (g : FcSt → FcSt) : (s.setFc g).cur = s.cur := rfl
@[simp] theorem State.setFc_prot (g : FcSt → FcSt) : (s.setFc g).prot = s.prot := rfl
@[simp] theorem State.setFc_lanes (g : FcSt → FcSt) : (s.setFc g).lanes = s.lanes := rfl
@[simp] theorem State.setFc_conv (g : FcSt → FcSt) : (s.setFc g).conv = s.conv := rfl
@[simp] theorem State.setFc_rfc (g : FcSt → FcSt) : (s.setFc g).rfc = s.rfc := rfl
@[simp] theorem State.setFc_cnx (g : FcSt → FcSt) : (s.setFc g).cnx = s.cnx := rfl
@[simp] theorem State.setFc_spt (g : FcSt → FcSt) : (s.setFc g).spt = s.spt := rfl
@[simp] theorem State.setFc_time (g : FcSt → FcSt) : (s.setFc g).time = s.time := rfl
@[simp] theorem State.setFc_tdd (g : FcSt → FcSt) : (s.setFc g).tdd = s.tdd := rfl
@[simp] theorem State.setFc_cte (g : FcSt → FcSt) : (s.setFc g).cte = s.cte := rfl
@[simp] theorem State.setFc_fab (g : FcSt → FcSt) : (s.setFc g).fab = s.fab := rfl
@[simp] theorem State.setFc_stm (g : FcSt → FcSt) : (s.setFc g).stm = s.stm := rfl
@[simp] theorem State.setFc_hif (g : FcSt → FcSt) : (s.setFc g).hif = s.hif := rfl
@[simp] theorem State.setFc_ring (g : FcSt → FcSt) : (s.setFc g).ring = s.ring := rfl
@[simp] theorem State.setFc_hk (g : FcSt → FcSt) : (s.setFc g).hk = s.hk := rfl
@[simp] theorem State.setFc_thm (g : FcSt → FcSt) : (s.setFc g).thm = s.thm := rfl
@[simp] theorem State.setFc_pwm (g : FcSt → FcSt) : (s.setFc g).pwm = s.pwm := rfl
@[simp] theorem State.setFc_twt (g : FcSt → FcSt) : (s.setFc g).twt = s.twt := rfl
@[simp] theorem State.setFc_twc (g : FcSt → FcSt) : (s.setFc g).twc = s.twc := rfl
@[simp] theorem State.setFc_smem (g : FcSt → FcSt) : (s.setFc g).smem = s.smem := rfl
@[simp] theorem State.setFc_marks (g : FcSt → FcSt) : (s.setFc g).marks = s.marks := rfl
@[simp] theorem State.setFc_pending (g : FcSt → FcSt) : (s.setFc g).pending = s.pending := rfl
@[simp] theorem State.setPb_regs (g : PbSt → PbSt) : (s.setPb g).regs = s.regs := rfl
@[simp] theorem State.setPb_mem (g : PbSt → PbSt) : (s.setPb g).mem = s.mem := rfl
@[simp] theorem State.setPb_now (g : PbSt → PbSt) : (s.setPb g).now = s.now := rfl
@[simp] theorem State.setPb_free (g : PbSt → PbSt) : (s.setPb g).free = s.free := rfl
@[simp] theorem State.setPb_pins (g : PbSt → PbSt) : (s.setPb g).pins = s.pins := rfl
@[simp] theorem State.setPb_sys (g : PbSt → PbSt) : (s.setPb g).sys = s.sys := rfl
@[simp] theorem State.setPb_boot (g : PbSt → PbSt) : (s.setPb g).boot = s.boot := rfl
@[simp] theorem State.setPb_fc (g : PbSt → PbSt) : (s.setPb g).fc = s.fc := rfl
@[simp] theorem State.setPb_pb (g : PbSt → PbSt) : (s.setPb g).pb = g s.pb := rfl
@[simp] theorem State.setPb_cur (g : PbSt → PbSt) : (s.setPb g).cur = s.cur := rfl
@[simp] theorem State.setPb_prot (g : PbSt → PbSt) : (s.setPb g).prot = s.prot := rfl
@[simp] theorem State.setPb_lanes (g : PbSt → PbSt) : (s.setPb g).lanes = s.lanes := rfl
@[simp] theorem State.setPb_conv (g : PbSt → PbSt) : (s.setPb g).conv = s.conv := rfl
@[simp] theorem State.setPb_rfc (g : PbSt → PbSt) : (s.setPb g).rfc = s.rfc := rfl
@[simp] theorem State.setPb_cnx (g : PbSt → PbSt) : (s.setPb g).cnx = s.cnx := rfl
@[simp] theorem State.setPb_spt (g : PbSt → PbSt) : (s.setPb g).spt = s.spt := rfl
@[simp] theorem State.setPb_time (g : PbSt → PbSt) : (s.setPb g).time = s.time := rfl
@[simp] theorem State.setPb_tdd (g : PbSt → PbSt) : (s.setPb g).tdd = s.tdd := rfl
@[simp] theorem State.setPb_cte (g : PbSt → PbSt) : (s.setPb g).cte = s.cte := rfl
@[simp] theorem State.setPb_fab (g : PbSt → PbSt) : (s.setPb g).fab = s.fab := rfl
@[simp] theorem State.setPb_stm (g : PbSt → PbSt) : (s.setPb g).stm = s.stm := rfl
@[simp] theorem State.setPb_hif (g : PbSt → PbSt) : (s.setPb g).hif = s.hif := rfl
@[simp] theorem State.setPb_ring (g : PbSt → PbSt) : (s.setPb g).ring = s.ring := rfl
@[simp] theorem State.setPb_hk (g : PbSt → PbSt) : (s.setPb g).hk = s.hk := rfl
@[simp] theorem State.setPb_thm (g : PbSt → PbSt) : (s.setPb g).thm = s.thm := rfl
@[simp] theorem State.setPb_pwm (g : PbSt → PbSt) : (s.setPb g).pwm = s.pwm := rfl
@[simp] theorem State.setPb_twt (g : PbSt → PbSt) : (s.setPb g).twt = s.twt := rfl
@[simp] theorem State.setPb_twc (g : PbSt → PbSt) : (s.setPb g).twc = s.twc := rfl
@[simp] theorem State.setPb_smem (g : PbSt → PbSt) : (s.setPb g).smem = s.smem := rfl
@[simp] theorem State.setPb_marks (g : PbSt → PbSt) : (s.setPb g).marks = s.marks := rfl
@[simp] theorem State.setPb_pending (g : PbSt → PbSt) : (s.setPb g).pending = s.pending := rfl
@[simp] theorem State.setCnx_regs (g : CnxSt → CnxSt) : (s.setCnx g).regs = s.regs := rfl
@[simp] theorem State.setCnx_mem (g : CnxSt → CnxSt) : (s.setCnx g).mem = s.mem := rfl
@[simp] theorem State.setCnx_now (g : CnxSt → CnxSt) : (s.setCnx g).now = s.now := rfl
@[simp] theorem State.setCnx_free (g : CnxSt → CnxSt) : (s.setCnx g).free = s.free := rfl
@[simp] theorem State.setCnx_pins (g : CnxSt → CnxSt) : (s.setCnx g).pins = s.pins := rfl
@[simp] theorem State.setCnx_sys (g : CnxSt → CnxSt) : (s.setCnx g).sys = s.sys := rfl
@[simp] theorem State.setCnx_boot (g : CnxSt → CnxSt) : (s.setCnx g).boot = s.boot := rfl
@[simp] theorem State.setCnx_fc (g : CnxSt → CnxSt) : (s.setCnx g).fc = s.fc := rfl
@[simp] theorem State.setCnx_pb (g : CnxSt → CnxSt) : (s.setCnx g).pb = s.pb := rfl
@[simp] theorem State.setCnx_cur (g : CnxSt → CnxSt) : (s.setCnx g).cur = s.cur := rfl
@[simp] theorem State.setCnx_prot (g : CnxSt → CnxSt) : (s.setCnx g).prot = s.prot := rfl
@[simp] theorem State.setCnx_lanes (g : CnxSt → CnxSt) : (s.setCnx g).lanes = s.lanes := rfl
@[simp] theorem State.setCnx_conv (g : CnxSt → CnxSt) : (s.setCnx g).conv = s.conv := rfl
@[simp] theorem State.setCnx_rfc (g : CnxSt → CnxSt) : (s.setCnx g).rfc = s.rfc := rfl
@[simp] theorem State.setCnx_cnx (g : CnxSt → CnxSt) : (s.setCnx g).cnx = g s.cnx := rfl
@[simp] theorem State.setCnx_spt (g : CnxSt → CnxSt) : (s.setCnx g).spt = s.spt := rfl
@[simp] theorem State.setCnx_time (g : CnxSt → CnxSt) : (s.setCnx g).time = s.time := rfl
@[simp] theorem State.setCnx_tdd (g : CnxSt → CnxSt) : (s.setCnx g).tdd = s.tdd := rfl
@[simp] theorem State.setCnx_cte (g : CnxSt → CnxSt) : (s.setCnx g).cte = s.cte := rfl
@[simp] theorem State.setCnx_fab (g : CnxSt → CnxSt) : (s.setCnx g).fab = s.fab := rfl
@[simp] theorem State.setCnx_stm (g : CnxSt → CnxSt) : (s.setCnx g).stm = s.stm := rfl
@[simp] theorem State.setCnx_hif (g : CnxSt → CnxSt) : (s.setCnx g).hif = s.hif := rfl
@[simp] theorem State.setCnx_ring (g : CnxSt → CnxSt) : (s.setCnx g).ring = s.ring := rfl
@[simp] theorem State.setCnx_hk (g : CnxSt → CnxSt) : (s.setCnx g).hk = s.hk := rfl
@[simp] theorem State.setCnx_thm (g : CnxSt → CnxSt) : (s.setCnx g).thm = s.thm := rfl
@[simp] theorem State.setCnx_pwm (g : CnxSt → CnxSt) : (s.setCnx g).pwm = s.pwm := rfl
@[simp] theorem State.setCnx_twt (g : CnxSt → CnxSt) : (s.setCnx g).twt = s.twt := rfl
@[simp] theorem State.setCnx_twc (g : CnxSt → CnxSt) : (s.setCnx g).twc = s.twc := rfl
@[simp] theorem State.setCnx_smem (g : CnxSt → CnxSt) : (s.setCnx g).smem = s.smem := rfl
@[simp] theorem State.setCnx_marks (g : CnxSt → CnxSt) : (s.setCnx g).marks = s.marks := rfl
@[simp] theorem State.setCnx_pending (g : CnxSt → CnxSt) : (s.setCnx g).pending = s.pending := rfl
@[simp] theorem State.setTime_regs (g : TimeSt → TimeSt) : (s.setTime g).regs = s.regs := rfl
@[simp] theorem State.setTime_mem (g : TimeSt → TimeSt) : (s.setTime g).mem = s.mem := rfl
@[simp] theorem State.setTime_now (g : TimeSt → TimeSt) : (s.setTime g).now = s.now := rfl
@[simp] theorem State.setTime_free (g : TimeSt → TimeSt) : (s.setTime g).free = s.free := rfl
@[simp] theorem State.setTime_pins (g : TimeSt → TimeSt) : (s.setTime g).pins = s.pins := rfl
@[simp] theorem State.setTime_sys (g : TimeSt → TimeSt) : (s.setTime g).sys = s.sys := rfl
@[simp] theorem State.setTime_boot (g : TimeSt → TimeSt) : (s.setTime g).boot = s.boot := rfl
@[simp] theorem State.setTime_fc (g : TimeSt → TimeSt) : (s.setTime g).fc = s.fc := rfl
@[simp] theorem State.setTime_pb (g : TimeSt → TimeSt) : (s.setTime g).pb = s.pb := rfl
@[simp] theorem State.setTime_cur (g : TimeSt → TimeSt) : (s.setTime g).cur = s.cur := rfl
@[simp] theorem State.setTime_prot (g : TimeSt → TimeSt) : (s.setTime g).prot = s.prot := rfl
@[simp] theorem State.setTime_lanes (g : TimeSt → TimeSt) : (s.setTime g).lanes = s.lanes := rfl
@[simp] theorem State.setTime_conv (g : TimeSt → TimeSt) : (s.setTime g).conv = s.conv := rfl
@[simp] theorem State.setTime_rfc (g : TimeSt → TimeSt) : (s.setTime g).rfc = s.rfc := rfl
@[simp] theorem State.setTime_cnx (g : TimeSt → TimeSt) : (s.setTime g).cnx = s.cnx := rfl
@[simp] theorem State.setTime_spt (g : TimeSt → TimeSt) : (s.setTime g).spt = s.spt := rfl
@[simp] theorem State.setTime_time (g : TimeSt → TimeSt) : (s.setTime g).time = g s.time := rfl
@[simp] theorem State.setTime_tdd (g : TimeSt → TimeSt) : (s.setTime g).tdd = s.tdd := rfl
@[simp] theorem State.setTime_cte (g : TimeSt → TimeSt) : (s.setTime g).cte = s.cte := rfl
@[simp] theorem State.setTime_fab (g : TimeSt → TimeSt) : (s.setTime g).fab = s.fab := rfl
@[simp] theorem State.setTime_stm (g : TimeSt → TimeSt) : (s.setTime g).stm = s.stm := rfl
@[simp] theorem State.setTime_hif (g : TimeSt → TimeSt) : (s.setTime g).hif = s.hif := rfl
@[simp] theorem State.setTime_ring (g : TimeSt → TimeSt) : (s.setTime g).ring = s.ring := rfl
@[simp] theorem State.setTime_hk (g : TimeSt → TimeSt) : (s.setTime g).hk = s.hk := rfl
@[simp] theorem State.setTime_thm (g : TimeSt → TimeSt) : (s.setTime g).thm = s.thm := rfl
@[simp] theorem State.setTime_pwm (g : TimeSt → TimeSt) : (s.setTime g).pwm = s.pwm := rfl
@[simp] theorem State.setTime_twt (g : TimeSt → TimeSt) : (s.setTime g).twt = s.twt := rfl
@[simp] theorem State.setTime_twc (g : TimeSt → TimeSt) : (s.setTime g).twc = s.twc := rfl
@[simp] theorem State.setTime_smem (g : TimeSt → TimeSt) : (s.setTime g).smem = s.smem := rfl
@[simp] theorem State.setTime_marks (g : TimeSt → TimeSt) : (s.setTime g).marks = s.marks := rfl
@[simp] theorem State.setTime_pending (g : TimeSt → TimeSt) : (s.setTime g).pending = s.pending := rfl
@[simp] theorem State.setBoot_regs (g : BootSt → BootSt) : (s.setBoot g).regs = s.regs := rfl
@[simp] theorem State.setBoot_mem (g : BootSt → BootSt) : (s.setBoot g).mem = s.mem := rfl
@[simp] theorem State.setBoot_now (g : BootSt → BootSt) : (s.setBoot g).now = s.now := rfl
@[simp] theorem State.setBoot_free (g : BootSt → BootSt) : (s.setBoot g).free = s.free := rfl
@[simp] theorem State.setBoot_pins (g : BootSt → BootSt) : (s.setBoot g).pins = s.pins := rfl
@[simp] theorem State.setBoot_sys (g : BootSt → BootSt) : (s.setBoot g).sys = s.sys := rfl
@[simp] theorem State.setBoot_boot (g : BootSt → BootSt) : (s.setBoot g).boot = g s.boot := rfl
@[simp] theorem State.setBoot_fc (g : BootSt → BootSt) : (s.setBoot g).fc = s.fc := rfl
@[simp] theorem State.setBoot_pb (g : BootSt → BootSt) : (s.setBoot g).pb = s.pb := rfl
@[simp] theorem State.setBoot_cur (g : BootSt → BootSt) : (s.setBoot g).cur = s.cur := rfl
@[simp] theorem State.setBoot_prot (g : BootSt → BootSt) : (s.setBoot g).prot = s.prot := rfl
@[simp] theorem State.setBoot_lanes (g : BootSt → BootSt) : (s.setBoot g).lanes = s.lanes := rfl
@[simp] theorem State.setBoot_conv (g : BootSt → BootSt) : (s.setBoot g).conv = s.conv := rfl
@[simp] theorem State.setBoot_rfc (g : BootSt → BootSt) : (s.setBoot g).rfc = s.rfc := rfl
@[simp] theorem State.setBoot_cnx (g : BootSt → BootSt) : (s.setBoot g).cnx = s.cnx := rfl
@[simp] theorem State.setBoot_spt (g : BootSt → BootSt) : (s.setBoot g).spt = s.spt := rfl
@[simp] theorem State.setBoot_time (g : BootSt → BootSt) : (s.setBoot g).time = s.time := rfl
@[simp] theorem State.setBoot_tdd (g : BootSt → BootSt) : (s.setBoot g).tdd = s.tdd := rfl
@[simp] theorem State.setBoot_cte (g : BootSt → BootSt) : (s.setBoot g).cte = s.cte := rfl
@[simp] theorem State.setBoot_fab (g : BootSt → BootSt) : (s.setBoot g).fab = s.fab := rfl
@[simp] theorem State.setBoot_stm (g : BootSt → BootSt) : (s.setBoot g).stm = s.stm := rfl
@[simp] theorem State.setBoot_hif (g : BootSt → BootSt) : (s.setBoot g).hif = s.hif := rfl
@[simp] theorem State.setBoot_ring (g : BootSt → BootSt) : (s.setBoot g).ring = s.ring := rfl
@[simp] theorem State.setBoot_hk (g : BootSt → BootSt) : (s.setBoot g).hk = s.hk := rfl
@[simp] theorem State.setBoot_thm (g : BootSt → BootSt) : (s.setBoot g).thm = s.thm := rfl
@[simp] theorem State.setBoot_pwm (g : BootSt → BootSt) : (s.setBoot g).pwm = s.pwm := rfl
@[simp] theorem State.setBoot_twt (g : BootSt → BootSt) : (s.setBoot g).twt = s.twt := rfl
@[simp] theorem State.setBoot_twc (g : BootSt → BootSt) : (s.setBoot g).twc = s.twc := rfl
@[simp] theorem State.setBoot_smem (g : BootSt → BootSt) : (s.setBoot g).smem = s.smem := rfl
@[simp] theorem State.setBoot_marks (g : BootSt → BootSt) : (s.setBoot g).marks = s.marks := rfl
@[simp] theorem State.setBoot_pending (g : BootSt → BootSt) : (s.setBoot g).pending = s.pending := rfl
@[simp] theorem State.setSys_regs (g : SysSt → SysSt) : (s.setSys g).regs = s.regs := rfl
@[simp] theorem State.setSys_mem (g : SysSt → SysSt) : (s.setSys g).mem = s.mem := rfl
@[simp] theorem State.setSys_now (g : SysSt → SysSt) : (s.setSys g).now = s.now := rfl
@[simp] theorem State.setSys_free (g : SysSt → SysSt) : (s.setSys g).free = s.free := rfl
@[simp] theorem State.setSys_pins (g : SysSt → SysSt) : (s.setSys g).pins = s.pins := rfl
@[simp] theorem State.setSys_sys (g : SysSt → SysSt) : (s.setSys g).sys = g s.sys := rfl
@[simp] theorem State.setSys_boot (g : SysSt → SysSt) : (s.setSys g).boot = s.boot := rfl
@[simp] theorem State.setSys_fc (g : SysSt → SysSt) : (s.setSys g).fc = s.fc := rfl
@[simp] theorem State.setSys_pb (g : SysSt → SysSt) : (s.setSys g).pb = s.pb := rfl
@[simp] theorem State.setSys_cur (g : SysSt → SysSt) : (s.setSys g).cur = s.cur := rfl
@[simp] theorem State.setSys_prot (g : SysSt → SysSt) : (s.setSys g).prot = s.prot := rfl
@[simp] theorem State.setSys_lanes (g : SysSt → SysSt) : (s.setSys g).lanes = s.lanes := rfl
@[simp] theorem State.setSys_conv (g : SysSt → SysSt) : (s.setSys g).conv = s.conv := rfl
@[simp] theorem State.setSys_rfc (g : SysSt → SysSt) : (s.setSys g).rfc = s.rfc := rfl
@[simp] theorem State.setSys_cnx (g : SysSt → SysSt) : (s.setSys g).cnx = s.cnx := rfl
@[simp] theorem State.setSys_spt (g : SysSt → SysSt) : (s.setSys g).spt = s.spt := rfl
@[simp] theorem State.setSys_time (g : SysSt → SysSt) : (s.setSys g).time = s.time := rfl
@[simp] theorem State.setSys_tdd (g : SysSt → SysSt) : (s.setSys g).tdd = s.tdd := rfl
@[simp] theorem State.setSys_cte (g : SysSt → SysSt) : (s.setSys g).cte = s.cte := rfl
@[simp] theorem State.setSys_fab (g : SysSt → SysSt) : (s.setSys g).fab = s.fab := rfl
@[simp] theorem State.setSys_stm (g : SysSt → SysSt) : (s.setSys g).stm = s.stm := rfl
@[simp] theorem State.setSys_hif (g : SysSt → SysSt) : (s.setSys g).hif = s.hif := rfl
@[simp] theorem State.setSys_ring (g : SysSt → SysSt) : (s.setSys g).ring = s.ring := rfl
@[simp] theorem State.setSys_hk (g : SysSt → SysSt) : (s.setSys g).hk = s.hk := rfl
@[simp] theorem State.setSys_thm (g : SysSt → SysSt) : (s.setSys g).thm = s.thm := rfl
@[simp] theorem State.setSys_pwm (g : SysSt → SysSt) : (s.setSys g).pwm = s.pwm := rfl
@[simp] theorem State.setSys_twt (g : SysSt → SysSt) : (s.setSys g).twt = s.twt := rfl
@[simp] theorem State.setSys_twc (g : SysSt → SysSt) : (s.setSys g).twc = s.twc := rfl
@[simp] theorem State.setSys_smem (g : SysSt → SysSt) : (s.setSys g).smem = s.smem := rfl
@[simp] theorem State.setSys_marks (g : SysSt → SysSt) : (s.setSys g).marks = s.marks := rfl
@[simp] theorem State.setSys_pending (g : SysSt → SysSt) : (s.setSys g).pending = s.pending := rfl
@[simp] theorem State.setStm_regs (g : StmSt → StmSt) : (s.setStm g).regs = s.regs := rfl
@[simp] theorem State.setStm_mem (g : StmSt → StmSt) : (s.setStm g).mem = s.mem := rfl
@[simp] theorem State.setStm_now (g : StmSt → StmSt) : (s.setStm g).now = s.now := rfl
@[simp] theorem State.setStm_free (g : StmSt → StmSt) : (s.setStm g).free = s.free := rfl
@[simp] theorem State.setStm_pins (g : StmSt → StmSt) : (s.setStm g).pins = s.pins := rfl
@[simp] theorem State.setStm_sys (g : StmSt → StmSt) : (s.setStm g).sys = s.sys := rfl
@[simp] theorem State.setStm_boot (g : StmSt → StmSt) : (s.setStm g).boot = s.boot := rfl
@[simp] theorem State.setStm_fc (g : StmSt → StmSt) : (s.setStm g).fc = s.fc := rfl
@[simp] theorem State.setStm_pb (g : StmSt → StmSt) : (s.setStm g).pb = s.pb := rfl
@[simp] theorem State.setStm_cur (g : StmSt → StmSt) : (s.setStm g).cur = s.cur := rfl
@[simp] theorem State.setStm_prot (g : StmSt → StmSt) : (s.setStm g).prot = s.prot := rfl
@[simp] theorem State.setStm_lanes (g : StmSt → StmSt) : (s.setStm g).lanes = s.lanes := rfl
@[simp] theorem State.setStm_conv (g : StmSt → StmSt) : (s.setStm g).conv = s.conv := rfl
@[simp] theorem State.setStm_rfc (g : StmSt → StmSt) : (s.setStm g).rfc = s.rfc := rfl
@[simp] theorem State.setStm_cnx (g : StmSt → StmSt) : (s.setStm g).cnx = s.cnx := rfl
@[simp] theorem State.setStm_spt (g : StmSt → StmSt) : (s.setStm g).spt = s.spt := rfl
@[simp] theorem State.setStm_time (g : StmSt → StmSt) : (s.setStm g).time = s.time := rfl
@[simp] theorem State.setStm_tdd (g : StmSt → StmSt) : (s.setStm g).tdd = s.tdd := rfl
@[simp] theorem State.setStm_cte (g : StmSt → StmSt) : (s.setStm g).cte = s.cte := rfl
@[simp] theorem State.setStm_fab (g : StmSt → StmSt) : (s.setStm g).fab = s.fab := rfl
@[simp] theorem State.setStm_stm (g : StmSt → StmSt) : (s.setStm g).stm = g s.stm := rfl
@[simp] theorem State.setStm_hif (g : StmSt → StmSt) : (s.setStm g).hif = s.hif := rfl
@[simp] theorem State.setStm_ring (g : StmSt → StmSt) : (s.setStm g).ring = s.ring := rfl
@[simp] theorem State.setStm_hk (g : StmSt → StmSt) : (s.setStm g).hk = s.hk := rfl
@[simp] theorem State.setStm_thm (g : StmSt → StmSt) : (s.setStm g).thm = s.thm := rfl
@[simp] theorem State.setStm_pwm (g : StmSt → StmSt) : (s.setStm g).pwm = s.pwm := rfl
@[simp] theorem State.setStm_twt (g : StmSt → StmSt) : (s.setStm g).twt = s.twt := rfl
@[simp] theorem State.setStm_twc (g : StmSt → StmSt) : (s.setStm g).twc = s.twc := rfl
@[simp] theorem State.setStm_smem (g : StmSt → StmSt) : (s.setStm g).smem = s.smem := rfl
@[simp] theorem State.setStm_marks (g : StmSt → StmSt) : (s.setStm g).marks = s.marks := rfl
@[simp] theorem State.setStm_pending (g : StmSt → StmSt) : (s.setStm g).pending = s.pending := rfl
@[simp] theorem State.setHif_regs (g : HifSt → HifSt) : (s.setHif g).regs = s.regs := rfl
@[simp] theorem State.setHif_mem (g : HifSt → HifSt) : (s.setHif g).mem = s.mem := rfl
@[simp] theorem State.setHif_now (g : HifSt → HifSt) : (s.setHif g).now = s.now := rfl
@[simp] theorem State.setHif_free (g : HifSt → HifSt) : (s.setHif g).free = s.free := rfl
@[simp] theorem State.setHif_pins (g : HifSt → HifSt) : (s.setHif g).pins = s.pins := rfl
@[simp] theorem State.setHif_sys (g : HifSt → HifSt) : (s.setHif g).sys = s.sys := rfl
@[simp] theorem State.setHif_boot (g : HifSt → HifSt) : (s.setHif g).boot = s.boot := rfl
@[simp] theorem State.setHif_fc (g : HifSt → HifSt) : (s.setHif g).fc = s.fc := rfl
@[simp] theorem State.setHif_pb (g : HifSt → HifSt) : (s.setHif g).pb = s.pb := rfl
@[simp] theorem State.setHif_cur (g : HifSt → HifSt) : (s.setHif g).cur = s.cur := rfl
@[simp] theorem State.setHif_prot (g : HifSt → HifSt) : (s.setHif g).prot = s.prot := rfl
@[simp] theorem State.setHif_lanes (g : HifSt → HifSt) : (s.setHif g).lanes = s.lanes := rfl
@[simp] theorem State.setHif_conv (g : HifSt → HifSt) : (s.setHif g).conv = s.conv := rfl
@[simp] theorem State.setHif_rfc (g : HifSt → HifSt) : (s.setHif g).rfc = s.rfc := rfl
@[simp] theorem State.setHif_cnx (g : HifSt → HifSt) : (s.setHif g).cnx = s.cnx := rfl
@[simp] theorem State.setHif_spt (g : HifSt → HifSt) : (s.setHif g).spt = s.spt := rfl
@[simp] theorem State.setHif_time (g : HifSt → HifSt) : (s.setHif g).time = s.time := rfl
@[simp] theorem State.setHif_tdd (g : HifSt → HifSt) : (s.setHif g).tdd = s.tdd := rfl
@[simp] theorem State.setHif_cte (g : HifSt → HifSt) : (s.setHif g).cte = s.cte := rfl
@[simp] theorem State.setHif_fab (g : HifSt → HifSt) : (s.setHif g).fab = s.fab := rfl
@[simp] theorem State.setHif_stm (g : HifSt → HifSt) : (s.setHif g).stm = s.stm := rfl
@[simp] theorem State.setHif_hif (g : HifSt → HifSt) : (s.setHif g).hif = g s.hif := rfl
@[simp] theorem State.setHif_ring (g : HifSt → HifSt) : (s.setHif g).ring = s.ring := rfl
@[simp] theorem State.setHif_hk (g : HifSt → HifSt) : (s.setHif g).hk = s.hk := rfl
@[simp] theorem State.setHif_thm (g : HifSt → HifSt) : (s.setHif g).thm = s.thm := rfl
@[simp] theorem State.setHif_pwm (g : HifSt → HifSt) : (s.setHif g).pwm = s.pwm := rfl
@[simp] theorem State.setHif_twt (g : HifSt → HifSt) : (s.setHif g).twt = s.twt := rfl
@[simp] theorem State.setHif_twc (g : HifSt → HifSt) : (s.setHif g).twc = s.twc := rfl
@[simp] theorem State.setHif_smem (g : HifSt → HifSt) : (s.setHif g).smem = s.smem := rfl
@[simp] theorem State.setHif_marks (g : HifSt → HifSt) : (s.setHif g).marks = s.marks := rfl
@[simp] theorem State.setHif_pending (g : HifSt → HifSt) : (s.setHif g).pending = s.pending := rfl
@[simp] theorem State.setRing_regs (g : RingSt → RingSt) : (s.setRing g).regs = s.regs := rfl
@[simp] theorem State.setRing_mem (g : RingSt → RingSt) : (s.setRing g).mem = s.mem := rfl
@[simp] theorem State.setRing_now (g : RingSt → RingSt) : (s.setRing g).now = s.now := rfl
@[simp] theorem State.setRing_free (g : RingSt → RingSt) : (s.setRing g).free = s.free := rfl
@[simp] theorem State.setRing_pins (g : RingSt → RingSt) : (s.setRing g).pins = s.pins := rfl
@[simp] theorem State.setRing_sys (g : RingSt → RingSt) : (s.setRing g).sys = s.sys := rfl
@[simp] theorem State.setRing_boot (g : RingSt → RingSt) : (s.setRing g).boot = s.boot := rfl
@[simp] theorem State.setRing_fc (g : RingSt → RingSt) : (s.setRing g).fc = s.fc := rfl
@[simp] theorem State.setRing_pb (g : RingSt → RingSt) : (s.setRing g).pb = s.pb := rfl
@[simp] theorem State.setRing_cur (g : RingSt → RingSt) : (s.setRing g).cur = s.cur := rfl
@[simp] theorem State.setRing_prot (g : RingSt → RingSt) : (s.setRing g).prot = s.prot := rfl
@[simp] theorem State.setRing_lanes (g : RingSt → RingSt) : (s.setRing g).lanes = s.lanes := rfl
@[simp] theorem State.setRing_conv (g : RingSt → RingSt) : (s.setRing g).conv = s.conv := rfl
@[simp] theorem State.setRing_rfc (g : RingSt → RingSt) : (s.setRing g).rfc = s.rfc := rfl
@[simp] theorem State.setRing_cnx (g : RingSt → RingSt) : (s.setRing g).cnx = s.cnx := rfl
@[simp] theorem State.setRing_spt (g : RingSt → RingSt) : (s.setRing g).spt = s.spt := rfl
@[simp] theorem State.setRing_time (g : RingSt → RingSt) : (s.setRing g).time = s.time := rfl
@[simp] theorem State.setRing_tdd (g : RingSt → RingSt) : (s.setRing g).tdd = s.tdd := rfl
@[simp] theorem State.setRing_cte (g : RingSt → RingSt) : (s.setRing g).cte = s.cte := rfl
@[simp] theorem State.setRing_fab (g : RingSt → RingSt) : (s.setRing g).fab = s.fab := rfl
@[simp] theorem State.setRing_stm (g : RingSt → RingSt) : (s.setRing g).stm = s.stm := rfl
@[simp] theorem State.setRing_hif (g : RingSt → RingSt) : (s.setRing g).hif = s.hif := rfl
@[simp] theorem State.setRing_ring (g : RingSt → RingSt) : (s.setRing g).ring = g s.ring := rfl
@[simp] theorem State.setRing_hk (g : RingSt → RingSt) : (s.setRing g).hk = s.hk := rfl
@[simp] theorem State.setRing_thm (g : RingSt → RingSt) : (s.setRing g).thm = s.thm := rfl
@[simp] theorem State.setRing_pwm (g : RingSt → RingSt) : (s.setRing g).pwm = s.pwm := rfl
@[simp] theorem State.setRing_twt (g : RingSt → RingSt) : (s.setRing g).twt = s.twt := rfl
@[simp] theorem State.setRing_twc (g : RingSt → RingSt) : (s.setRing g).twc = s.twc := rfl
@[simp] theorem State.setRing_smem (g : RingSt → RingSt) : (s.setRing g).smem = s.smem := rfl
@[simp] theorem State.setRing_marks (g : RingSt → RingSt) : (s.setRing g).marks = s.marks := rfl
@[simp] theorem State.setRing_pending (g : RingSt → RingSt) : (s.setRing g).pending = s.pending := rfl
@[simp] theorem State.setTwt_regs (g : TwtSt → TwtSt) : (s.setTwt g).regs = s.regs := rfl
@[simp] theorem State.setTwt_mem (g : TwtSt → TwtSt) : (s.setTwt g).mem = s.mem := rfl
@[simp] theorem State.setTwt_now (g : TwtSt → TwtSt) : (s.setTwt g).now = s.now := rfl
@[simp] theorem State.setTwt_free (g : TwtSt → TwtSt) : (s.setTwt g).free = s.free := rfl
@[simp] theorem State.setTwt_pins (g : TwtSt → TwtSt) : (s.setTwt g).pins = s.pins := rfl
@[simp] theorem State.setTwt_sys (g : TwtSt → TwtSt) : (s.setTwt g).sys = s.sys := rfl
@[simp] theorem State.setTwt_boot (g : TwtSt → TwtSt) : (s.setTwt g).boot = s.boot := rfl
@[simp] theorem State.setTwt_fc (g : TwtSt → TwtSt) : (s.setTwt g).fc = s.fc := rfl
@[simp] theorem State.setTwt_pb (g : TwtSt → TwtSt) : (s.setTwt g).pb = s.pb := rfl
@[simp] theorem State.setTwt_cur (g : TwtSt → TwtSt) : (s.setTwt g).cur = s.cur := rfl
@[simp] theorem State.setTwt_prot (g : TwtSt → TwtSt) : (s.setTwt g).prot = s.prot := rfl
@[simp] theorem State.setTwt_lanes (g : TwtSt → TwtSt) : (s.setTwt g).lanes = s.lanes := rfl
@[simp] theorem State.setTwt_conv (g : TwtSt → TwtSt) : (s.setTwt g).conv = s.conv := rfl
@[simp] theorem State.setTwt_rfc (g : TwtSt → TwtSt) : (s.setTwt g).rfc = s.rfc := rfl
@[simp] theorem State.setTwt_cnx (g : TwtSt → TwtSt) : (s.setTwt g).cnx = s.cnx := rfl
@[simp] theorem State.setTwt_spt (g : TwtSt → TwtSt) : (s.setTwt g).spt = s.spt := rfl
@[simp] theorem State.setTwt_time (g : TwtSt → TwtSt) : (s.setTwt g).time = s.time := rfl
@[simp] theorem State.setTwt_tdd (g : TwtSt → TwtSt) : (s.setTwt g).tdd = s.tdd := rfl
@[simp] theorem State.setTwt_cte (g : TwtSt → TwtSt) : (s.setTwt g).cte = s.cte := rfl
@[simp] theorem State.setTwt_fab (g : TwtSt → TwtSt) : (s.setTwt g).fab = s.fab := rfl
@[simp] theorem State.setTwt_stm (g : TwtSt → TwtSt) : (s.setTwt g).stm = s.stm := rfl
@[simp] theorem State.setTwt_hif (g : TwtSt → TwtSt) : (s.setTwt g).hif = s.hif := rfl
@[simp] theorem State.setTwt_ring (g : TwtSt → TwtSt) : (s.setTwt g).ring = s.ring := rfl
@[simp] theorem State.setTwt_hk (g : TwtSt → TwtSt) : (s.setTwt g).hk = s.hk := rfl
@[simp] theorem State.setTwt_thm (g : TwtSt → TwtSt) : (s.setTwt g).thm = s.thm := rfl
@[simp] theorem State.setTwt_pwm (g : TwtSt → TwtSt) : (s.setTwt g).pwm = s.pwm := rfl
@[simp] theorem State.setTwt_twt (g : TwtSt → TwtSt) : (s.setTwt g).twt = g s.twt := rfl
@[simp] theorem State.setTwt_twc (g : TwtSt → TwtSt) : (s.setTwt g).twc = s.twc := rfl
@[simp] theorem State.setTwt_smem (g : TwtSt → TwtSt) : (s.setTwt g).smem = s.smem := rfl
@[simp] theorem State.setTwt_marks (g : TwtSt → TwtSt) : (s.setTwt g).marks = s.marks := rfl
@[simp] theorem State.setTwt_pending (g : TwtSt → TwtSt) : (s.setTwt g).pending = s.pending := rfl
@[simp] theorem State.setRfc_regs (g : RfcSt → RfcSt) : (s.setRfc g).regs = s.regs := rfl
@[simp] theorem State.setRfc_mem (g : RfcSt → RfcSt) : (s.setRfc g).mem = s.mem := rfl
@[simp] theorem State.setRfc_now (g : RfcSt → RfcSt) : (s.setRfc g).now = s.now := rfl
@[simp] theorem State.setRfc_free (g : RfcSt → RfcSt) : (s.setRfc g).free = s.free := rfl
@[simp] theorem State.setRfc_pins (g : RfcSt → RfcSt) : (s.setRfc g).pins = s.pins := rfl
@[simp] theorem State.setRfc_sys (g : RfcSt → RfcSt) : (s.setRfc g).sys = s.sys := rfl
@[simp] theorem State.setRfc_boot (g : RfcSt → RfcSt) : (s.setRfc g).boot = s.boot := rfl
@[simp] theorem State.setRfc_fc (g : RfcSt → RfcSt) : (s.setRfc g).fc = s.fc := rfl
@[simp] theorem State.setRfc_pb (g : RfcSt → RfcSt) : (s.setRfc g).pb = s.pb := rfl
@[simp] theorem State.setRfc_cur (g : RfcSt → RfcSt) : (s.setRfc g).cur = s.cur := rfl
@[simp] theorem State.setRfc_prot (g : RfcSt → RfcSt) : (s.setRfc g).prot = s.prot := rfl
@[simp] theorem State.setRfc_lanes (g : RfcSt → RfcSt) : (s.setRfc g).lanes = s.lanes := rfl
@[simp] theorem State.setRfc_conv (g : RfcSt → RfcSt) : (s.setRfc g).conv = s.conv := rfl
@[simp] theorem State.setRfc_rfc (g : RfcSt → RfcSt) : (s.setRfc g).rfc = g s.rfc := rfl
@[simp] theorem State.setRfc_cnx (g : RfcSt → RfcSt) : (s.setRfc g).cnx = s.cnx := rfl
@[simp] theorem State.setRfc_spt (g : RfcSt → RfcSt) : (s.setRfc g).spt = s.spt := rfl
@[simp] theorem State.setRfc_time (g : RfcSt → RfcSt) : (s.setRfc g).time = s.time := rfl
@[simp] theorem State.setRfc_tdd (g : RfcSt → RfcSt) : (s.setRfc g).tdd = s.tdd := rfl
@[simp] theorem State.setRfc_cte (g : RfcSt → RfcSt) : (s.setRfc g).cte = s.cte := rfl
@[simp] theorem State.setRfc_fab (g : RfcSt → RfcSt) : (s.setRfc g).fab = s.fab := rfl
@[simp] theorem State.setRfc_stm (g : RfcSt → RfcSt) : (s.setRfc g).stm = s.stm := rfl
@[simp] theorem State.setRfc_hif (g : RfcSt → RfcSt) : (s.setRfc g).hif = s.hif := rfl
@[simp] theorem State.setRfc_ring (g : RfcSt → RfcSt) : (s.setRfc g).ring = s.ring := rfl
@[simp] theorem State.setRfc_hk (g : RfcSt → RfcSt) : (s.setRfc g).hk = s.hk := rfl
@[simp] theorem State.setRfc_thm (g : RfcSt → RfcSt) : (s.setRfc g).thm = s.thm := rfl
@[simp] theorem State.setRfc_pwm (g : RfcSt → RfcSt) : (s.setRfc g).pwm = s.pwm := rfl
@[simp] theorem State.setRfc_twt (g : RfcSt → RfcSt) : (s.setRfc g).twt = s.twt := rfl
@[simp] theorem State.setRfc_twc (g : RfcSt → RfcSt) : (s.setRfc g).twc = s.twc := rfl
@[simp] theorem State.setRfc_smem (g : RfcSt → RfcSt) : (s.setRfc g).smem = s.smem := rfl
@[simp] theorem State.setRfc_marks (g : RfcSt → RfcSt) : (s.setRfc g).marks = s.marks := rfl
@[simp] theorem State.setRfc_pending (g : RfcSt → RfcSt) : (s.setRfc g).pending = s.pending := rfl
@[simp] theorem State.setHk_regs (g : HkSt → HkSt) : (s.setHk g).regs = s.regs := rfl
@[simp] theorem State.setHk_mem (g : HkSt → HkSt) : (s.setHk g).mem = s.mem := rfl
@[simp] theorem State.setHk_now (g : HkSt → HkSt) : (s.setHk g).now = s.now := rfl
@[simp] theorem State.setHk_free (g : HkSt → HkSt) : (s.setHk g).free = s.free := rfl
@[simp] theorem State.setHk_pins (g : HkSt → HkSt) : (s.setHk g).pins = s.pins := rfl
@[simp] theorem State.setHk_sys (g : HkSt → HkSt) : (s.setHk g).sys = s.sys := rfl
@[simp] theorem State.setHk_boot (g : HkSt → HkSt) : (s.setHk g).boot = s.boot := rfl
@[simp] theorem State.setHk_fc (g : HkSt → HkSt) : (s.setHk g).fc = s.fc := rfl
@[simp] theorem State.setHk_pb (g : HkSt → HkSt) : (s.setHk g).pb = s.pb := rfl
@[simp] theorem State.setHk_cur (g : HkSt → HkSt) : (s.setHk g).cur = s.cur := rfl
@[simp] theorem State.setHk_prot (g : HkSt → HkSt) : (s.setHk g).prot = s.prot := rfl
@[simp] theorem State.setHk_lanes (g : HkSt → HkSt) : (s.setHk g).lanes = s.lanes := rfl
@[simp] theorem State.setHk_conv (g : HkSt → HkSt) : (s.setHk g).conv = s.conv := rfl
@[simp] theorem State.setHk_rfc (g : HkSt → HkSt) : (s.setHk g).rfc = s.rfc := rfl
@[simp] theorem State.setHk_cnx (g : HkSt → HkSt) : (s.setHk g).cnx = s.cnx := rfl
@[simp] theorem State.setHk_spt (g : HkSt → HkSt) : (s.setHk g).spt = s.spt := rfl
@[simp] theorem State.setHk_time (g : HkSt → HkSt) : (s.setHk g).time = s.time := rfl
@[simp] theorem State.setHk_tdd (g : HkSt → HkSt) : (s.setHk g).tdd = s.tdd := rfl
@[simp] theorem State.setHk_cte (g : HkSt → HkSt) : (s.setHk g).cte = s.cte := rfl
@[simp] theorem State.setHk_fab (g : HkSt → HkSt) : (s.setHk g).fab = s.fab := rfl
@[simp] theorem State.setHk_stm (g : HkSt → HkSt) : (s.setHk g).stm = s.stm := rfl
@[simp] theorem State.setHk_hif (g : HkSt → HkSt) : (s.setHk g).hif = s.hif := rfl
@[simp] theorem State.setHk_ring (g : HkSt → HkSt) : (s.setHk g).ring = s.ring := rfl
@[simp] theorem State.setHk_hk (g : HkSt → HkSt) : (s.setHk g).hk = g s.hk := rfl
@[simp] theorem State.setHk_thm (g : HkSt → HkSt) : (s.setHk g).thm = s.thm := rfl
@[simp] theorem State.setHk_pwm (g : HkSt → HkSt) : (s.setHk g).pwm = s.pwm := rfl
@[simp] theorem State.setHk_twt (g : HkSt → HkSt) : (s.setHk g).twt = s.twt := rfl
@[simp] theorem State.setHk_twc (g : HkSt → HkSt) : (s.setHk g).twc = s.twc := rfl
@[simp] theorem State.setHk_smem (g : HkSt → HkSt) : (s.setHk g).smem = s.smem := rfl
@[simp] theorem State.setHk_marks (g : HkSt → HkSt) : (s.setHk g).marks = s.marks := rfl
@[simp] theorem State.setHk_pending (g : HkSt → HkSt) : (s.setHk g).pending = s.pending := rfl
@[simp] theorem State.setThm_regs (g : ThmSt → ThmSt) : (s.setThm g).regs = s.regs := rfl
@[simp] theorem State.setThm_mem (g : ThmSt → ThmSt) : (s.setThm g).mem = s.mem := rfl
@[simp] theorem State.setThm_now (g : ThmSt → ThmSt) : (s.setThm g).now = s.now := rfl
@[simp] theorem State.setThm_free (g : ThmSt → ThmSt) : (s.setThm g).free = s.free := rfl
@[simp] theorem State.setThm_pins (g : ThmSt → ThmSt) : (s.setThm g).pins = s.pins := rfl
@[simp] theorem State.setThm_sys (g : ThmSt → ThmSt) : (s.setThm g).sys = s.sys := rfl
@[simp] theorem State.setThm_boot (g : ThmSt → ThmSt) : (s.setThm g).boot = s.boot := rfl
@[simp] theorem State.setThm_fc (g : ThmSt → ThmSt) : (s.setThm g).fc = s.fc := rfl
@[simp] theorem State.setThm_pb (g : ThmSt → ThmSt) : (s.setThm g).pb = s.pb := rfl
@[simp] theorem State.setThm_cur (g : ThmSt → ThmSt) : (s.setThm g).cur = s.cur := rfl
@[simp] theorem State.setThm_prot (g : ThmSt → ThmSt) : (s.setThm g).prot = s.prot := rfl
@[simp] theorem State.setThm_lanes (g : ThmSt → ThmSt) : (s.setThm g).lanes = s.lanes := rfl
@[simp] theorem State.setThm_conv (g : ThmSt → ThmSt) : (s.setThm g).conv = s.conv := rfl
@[simp] theorem State.setThm_rfc (g : ThmSt → ThmSt) : (s.setThm g).rfc = s.rfc := rfl
@[simp] theorem State.setThm_cnx (g : ThmSt → ThmSt) : (s.setThm g).cnx = s.cnx := rfl
@[simp] theorem State.setThm_spt (g : ThmSt → ThmSt) : (s.setThm g).spt = s.spt := rfl
@[simp] theorem State.setThm_time (g : ThmSt → ThmSt) : (s.setThm g).time = s.time := rfl
@[simp] theorem State.setThm_tdd (g : ThmSt → ThmSt) : (s.setThm g).tdd = s.tdd := rfl
@[simp] theorem State.setThm_cte (g : ThmSt → ThmSt) : (s.setThm g).cte = s.cte := rfl
@[simp] theorem State.setThm_fab (g : ThmSt → ThmSt) : (s.setThm g).fab = s.fab := rfl
@[simp] theorem State.setThm_stm (g : ThmSt → ThmSt) : (s.setThm g).stm = s.stm := rfl
@[simp] theorem State.setThm_hif (g : ThmSt → ThmSt) : (s.setThm g).hif = s.hif := rfl
@[simp] theorem State.setThm_ring (g : ThmSt → ThmSt) : (s.setThm g).ring = s.ring := rfl
@[simp] theorem State.setThm_hk (g : ThmSt → ThmSt) : (s.setThm g).hk = s.hk := rfl
@[simp] theorem State.setThm_thm (g : ThmSt → ThmSt) : (s.setThm g).thm = g s.thm := rfl
@[simp] theorem State.setThm_pwm (g : ThmSt → ThmSt) : (s.setThm g).pwm = s.pwm := rfl
@[simp] theorem State.setThm_twt (g : ThmSt → ThmSt) : (s.setThm g).twt = s.twt := rfl
@[simp] theorem State.setThm_twc (g : ThmSt → ThmSt) : (s.setThm g).twc = s.twc := rfl
@[simp] theorem State.setThm_smem (g : ThmSt → ThmSt) : (s.setThm g).smem = s.smem := rfl
@[simp] theorem State.setThm_marks (g : ThmSt → ThmSt) : (s.setThm g).marks = s.marks := rfl
@[simp] theorem State.setThm_pending (g : ThmSt → ThmSt) : (s.setThm g).pending = s.pending := rfl
@[simp] theorem State.setFab_regs (g : FabSt → FabSt) : (s.setFab g).regs = s.regs := rfl
@[simp] theorem State.setFab_mem (g : FabSt → FabSt) : (s.setFab g).mem = s.mem := rfl
@[simp] theorem State.setFab_now (g : FabSt → FabSt) : (s.setFab g).now = s.now := rfl
@[simp] theorem State.setFab_free (g : FabSt → FabSt) : (s.setFab g).free = s.free := rfl
@[simp] theorem State.setFab_pins (g : FabSt → FabSt) : (s.setFab g).pins = s.pins := rfl
@[simp] theorem State.setFab_sys (g : FabSt → FabSt) : (s.setFab g).sys = s.sys := rfl
@[simp] theorem State.setFab_boot (g : FabSt → FabSt) : (s.setFab g).boot = s.boot := rfl
@[simp] theorem State.setFab_fc (g : FabSt → FabSt) : (s.setFab g).fc = s.fc := rfl
@[simp] theorem State.setFab_pb (g : FabSt → FabSt) : (s.setFab g).pb = s.pb := rfl
@[simp] theorem State.setFab_cur (g : FabSt → FabSt) : (s.setFab g).cur = s.cur := rfl
@[simp] theorem State.setFab_prot (g : FabSt → FabSt) : (s.setFab g).prot = s.prot := rfl
@[simp] theorem State.setFab_lanes (g : FabSt → FabSt) : (s.setFab g).lanes = s.lanes := rfl
@[simp] theorem State.setFab_conv (g : FabSt → FabSt) : (s.setFab g).conv = s.conv := rfl
@[simp] theorem State.setFab_rfc (g : FabSt → FabSt) : (s.setFab g).rfc = s.rfc := rfl
@[simp] theorem State.setFab_cnx (g : FabSt → FabSt) : (s.setFab g).cnx = s.cnx := rfl
@[simp] theorem State.setFab_spt (g : FabSt → FabSt) : (s.setFab g).spt = s.spt := rfl
@[simp] theorem State.setFab_time (g : FabSt → FabSt) : (s.setFab g).time = s.time := rfl
@[simp] theorem State.setFab_tdd (g : FabSt → FabSt) : (s.setFab g).tdd = s.tdd := rfl
@[simp] theorem State.setFab_cte (g : FabSt → FabSt) : (s.setFab g).cte = s.cte := rfl
@[simp] theorem State.setFab_fab (g : FabSt → FabSt) : (s.setFab g).fab = g s.fab := rfl
@[simp] theorem State.setFab_stm (g : FabSt → FabSt) : (s.setFab g).stm = s.stm := rfl
@[simp] theorem State.setFab_hif (g : FabSt → FabSt) : (s.setFab g).hif = s.hif := rfl
@[simp] theorem State.setFab_ring (g : FabSt → FabSt) : (s.setFab g).ring = s.ring := rfl
@[simp] theorem State.setFab_hk (g : FabSt → FabSt) : (s.setFab g).hk = s.hk := rfl
@[simp] theorem State.setFab_thm (g : FabSt → FabSt) : (s.setFab g).thm = s.thm := rfl
@[simp] theorem State.setFab_pwm (g : FabSt → FabSt) : (s.setFab g).pwm = s.pwm := rfl
@[simp] theorem State.setFab_twt (g : FabSt → FabSt) : (s.setFab g).twt = s.twt := rfl
@[simp] theorem State.setFab_twc (g : FabSt → FabSt) : (s.setFab g).twc = s.twc := rfl
@[simp] theorem State.setFab_smem (g : FabSt → FabSt) : (s.setFab g).smem = s.smem := rfl
@[simp] theorem State.setFab_marks (g : FabSt → FabSt) : (s.setFab g).marks = s.marks := rfl
@[simp] theorem State.setFab_pending (g : FabSt → FabSt) : (s.setFab g).pending = s.pending := rfl
@[simp] theorem State.setFcSrc_regs (n : Nat) (g : FcSrc → FcSrc) : (s.setFcSrc n g).regs = s.regs := rfl
@[simp] theorem State.setFcSrc_mem (n : Nat) (g : FcSrc → FcSrc) : (s.setFcSrc n g).mem = s.mem := rfl
@[simp] theorem State.setFcSrc_now (n : Nat) (g : FcSrc → FcSrc) : (s.setFcSrc n g).now = s.now := rfl
@[simp] theorem State.setFcSrc_free (n : Nat) (g : FcSrc → FcSrc) : (s.setFcSrc n g).free = s.free := rfl
@[simp] theorem State.setFcSrc_pins (n : Nat) (g : FcSrc → FcSrc) : (s.setFcSrc n g).pins = s.pins := rfl
@[simp] theorem State.setFcSrc_sys (n : Nat) (g : FcSrc → FcSrc) : (s.setFcSrc n g).sys = s.sys := rfl
@[simp] theorem State.setFcSrc_boot (n : Nat) (g : FcSrc → FcSrc) : (s.setFcSrc n g).boot = s.boot := rfl
@[simp] theorem State.setFcSrc_pb (n : Nat) (g : FcSrc → FcSrc) : (s.setFcSrc n g).pb = s.pb := rfl
@[simp] theorem State.setFcSrc_cur (n : Nat) (g : FcSrc → FcSrc) : (s.setFcSrc n g).cur = s.cur := rfl
@[simp] theorem State.setFcSrc_prot (n : Nat) (g : FcSrc → FcSrc) : (s.setFcSrc n g).prot = s.prot := rfl
@[simp] theorem State.setFcSrc_lanes (n : Nat) (g : FcSrc → FcSrc) : (s.setFcSrc n g).lanes = s.lanes := rfl
@[simp] theorem State.setFcSrc_conv (n : Nat) (g : FcSrc → FcSrc) : (s.setFcSrc n g).conv = s.conv := rfl
@[simp] theorem State.setFcSrc_rfc (n : Nat) (g : FcSrc → FcSrc) : (s.setFcSrc n g).rfc = s.rfc := rfl
@[simp] theorem State.setFcSrc_cnx (n : Nat) (g : FcSrc → FcSrc) : (s.setFcSrc n g).cnx = s.cnx := rfl
@[simp] theorem State.setFcSrc_spt (n : Nat) (g : FcSrc → FcSrc) : (s.setFcSrc n g).spt = s.spt := rfl
@[simp] theorem State.setFcSrc_time (n : Nat) (g : FcSrc → FcSrc) : (s.setFcSrc n g).time = s.time := rfl
@[simp] theorem State.setFcSrc_tdd (n : Nat) (g : FcSrc → FcSrc) : (s.setFcSrc n g).tdd = s.tdd := rfl
@[simp] theorem State.setFcSrc_cte (n : Nat) (g : FcSrc → FcSrc) : (s.setFcSrc n g).cte = s.cte := rfl
@[simp] theorem State.setFcSrc_fab (n : Nat) (g : FcSrc → FcSrc) : (s.setFcSrc n g).fab = s.fab := rfl
@[simp] theorem State.setFcSrc_stm (n : Nat) (g : FcSrc → FcSrc) : (s.setFcSrc n g).stm = s.stm := rfl
@[simp] theorem State.setFcSrc_hif (n : Nat) (g : FcSrc → FcSrc) : (s.setFcSrc n g).hif = s.hif := rfl
@[simp] theorem State.setFcSrc_ring (n : Nat) (g : FcSrc → FcSrc) : (s.setFcSrc n g).ring = s.ring := rfl
@[simp] theorem State.setFcSrc_hk (n : Nat) (g : FcSrc → FcSrc) : (s.setFcSrc n g).hk = s.hk := rfl
@[simp] theorem State.setFcSrc_thm (n : Nat) (g : FcSrc → FcSrc) : (s.setFcSrc n g).thm = s.thm := rfl
@[simp] theorem State.setFcSrc_pwm (n : Nat) (g : FcSrc → FcSrc) : (s.setFcSrc n g).pwm = s.pwm := rfl
@[simp] theorem State.setFcSrc_twt (n : Nat) (g : FcSrc → FcSrc) : (s.setFcSrc n g).twt = s.twt := rfl
@[simp] theorem State.setFcSrc_twc (n : Nat) (g : FcSrc → FcSrc) : (s.setFcSrc n g).twc = s.twc := rfl
@[simp] theorem State.setFcSrc_smem (n : Nat) (g : FcSrc → FcSrc) : (s.setFcSrc n g).smem = s.smem := rfl
@[simp] theorem State.setFcSrc_marks (n : Nat) (g : FcSrc → FcSrc) : (s.setFcSrc n g).marks = s.marks := rfl
@[simp] theorem State.setFcSrc_pending (n : Nat) (g : FcSrc → FcSrc) : (s.setFcSrc n g).pending = s.pending := rfl
@[simp] theorem State.setCport_regs (n : Nat) (g : CurPort → CurPort) : (s.setCport n g).regs = s.regs := rfl
@[simp] theorem State.setCport_mem (n : Nat) (g : CurPort → CurPort) : (s.setCport n g).mem = s.mem := rfl
@[simp] theorem State.setCport_now (n : Nat) (g : CurPort → CurPort) : (s.setCport n g).now = s.now := rfl
@[simp] theorem State.setCport_free (n : Nat) (g : CurPort → CurPort) : (s.setCport n g).free = s.free := rfl
@[simp] theorem State.setCport_pins (n : Nat) (g : CurPort → CurPort) : (s.setCport n g).pins = s.pins := rfl
@[simp] theorem State.setCport_sys (n : Nat) (g : CurPort → CurPort) : (s.setCport n g).sys = s.sys := rfl
@[simp] theorem State.setCport_boot (n : Nat) (g : CurPort → CurPort) : (s.setCport n g).boot = s.boot := rfl
@[simp] theorem State.setCport_fc (n : Nat) (g : CurPort → CurPort) : (s.setCport n g).fc = s.fc := rfl
@[simp] theorem State.setCport_pb (n : Nat) (g : CurPort → CurPort) : (s.setCport n g).pb = s.pb := rfl
@[simp] theorem State.setCport_prot (n : Nat) (g : CurPort → CurPort) : (s.setCport n g).prot = s.prot := rfl
@[simp] theorem State.setCport_lanes (n : Nat) (g : CurPort → CurPort) : (s.setCport n g).lanes = s.lanes := rfl
@[simp] theorem State.setCport_conv (n : Nat) (g : CurPort → CurPort) : (s.setCport n g).conv = s.conv := rfl
@[simp] theorem State.setCport_rfc (n : Nat) (g : CurPort → CurPort) : (s.setCport n g).rfc = s.rfc := rfl
@[simp] theorem State.setCport_cnx (n : Nat) (g : CurPort → CurPort) : (s.setCport n g).cnx = s.cnx := rfl
@[simp] theorem State.setCport_spt (n : Nat) (g : CurPort → CurPort) : (s.setCport n g).spt = s.spt := rfl
@[simp] theorem State.setCport_time (n : Nat) (g : CurPort → CurPort) : (s.setCport n g).time = s.time := rfl
@[simp] theorem State.setCport_tdd (n : Nat) (g : CurPort → CurPort) : (s.setCport n g).tdd = s.tdd := rfl
@[simp] theorem State.setCport_cte (n : Nat) (g : CurPort → CurPort) : (s.setCport n g).cte = s.cte := rfl
@[simp] theorem State.setCport_fab (n : Nat) (g : CurPort → CurPort) : (s.setCport n g).fab = s.fab := rfl
@[simp] theorem State.setCport_stm (n : Nat) (g : CurPort → CurPort) : (s.setCport n g).stm = s.stm := rfl
@[simp] theorem State.setCport_hif (n : Nat) (g : CurPort → CurPort) : (s.setCport n g).hif = s.hif := rfl
@[simp] theorem State.setCport_ring (n : Nat) (g : CurPort → CurPort) : (s.setCport n g).ring = s.ring := rfl
@[simp] theorem State.setCport_hk (n : Nat) (g : CurPort → CurPort) : (s.setCport n g).hk = s.hk := rfl
@[simp] theorem State.setCport_thm (n : Nat) (g : CurPort → CurPort) : (s.setCport n g).thm = s.thm := rfl
@[simp] theorem State.setCport_pwm (n : Nat) (g : CurPort → CurPort) : (s.setCport n g).pwm = s.pwm := rfl
@[simp] theorem State.setCport_twt (n : Nat) (g : CurPort → CurPort) : (s.setCport n g).twt = s.twt := rfl
@[simp] theorem State.setCport_twc (n : Nat) (g : CurPort → CurPort) : (s.setCport n g).twc = s.twc := rfl
@[simp] theorem State.setCport_smem (n : Nat) (g : CurPort → CurPort) : (s.setCport n g).smem = s.smem := rfl
@[simp] theorem State.setCport_marks (n : Nat) (g : CurPort → CurPort) : (s.setCport n g).marks = s.marks := rfl
@[simp] theorem State.setCport_pending (n : Nat) (g : CurPort → CurPort) : (s.setCport n g).pending = s.pending := rfl
@[simp] theorem State.setRport_regs (n : Nat) (g : RfcPort → RfcPort) : (s.setRport n g).regs = s.regs := rfl
@[simp] theorem State.setRport_mem (n : Nat) (g : RfcPort → RfcPort) : (s.setRport n g).mem = s.mem := rfl
@[simp] theorem State.setRport_now (n : Nat) (g : RfcPort → RfcPort) : (s.setRport n g).now = s.now := rfl
@[simp] theorem State.setRport_free (n : Nat) (g : RfcPort → RfcPort) : (s.setRport n g).free = s.free := rfl
@[simp] theorem State.setRport_pins (n : Nat) (g : RfcPort → RfcPort) : (s.setRport n g).pins = s.pins := rfl
@[simp] theorem State.setRport_sys (n : Nat) (g : RfcPort → RfcPort) : (s.setRport n g).sys = s.sys := rfl
@[simp] theorem State.setRport_boot (n : Nat) (g : RfcPort → RfcPort) : (s.setRport n g).boot = s.boot := rfl
@[simp] theorem State.setRport_fc (n : Nat) (g : RfcPort → RfcPort) : (s.setRport n g).fc = s.fc := rfl
@[simp] theorem State.setRport_pb (n : Nat) (g : RfcPort → RfcPort) : (s.setRport n g).pb = s.pb := rfl
@[simp] theorem State.setRport_cur (n : Nat) (g : RfcPort → RfcPort) : (s.setRport n g).cur = s.cur := rfl
@[simp] theorem State.setRport_prot (n : Nat) (g : RfcPort → RfcPort) : (s.setRport n g).prot = s.prot := rfl
@[simp] theorem State.setRport_lanes (n : Nat) (g : RfcPort → RfcPort) : (s.setRport n g).lanes = s.lanes := rfl
@[simp] theorem State.setRport_conv (n : Nat) (g : RfcPort → RfcPort) : (s.setRport n g).conv = s.conv := rfl
@[simp] theorem State.setRport_cnx (n : Nat) (g : RfcPort → RfcPort) : (s.setRport n g).cnx = s.cnx := rfl
@[simp] theorem State.setRport_spt (n : Nat) (g : RfcPort → RfcPort) : (s.setRport n g).spt = s.spt := rfl
@[simp] theorem State.setRport_time (n : Nat) (g : RfcPort → RfcPort) : (s.setRport n g).time = s.time := rfl
@[simp] theorem State.setRport_tdd (n : Nat) (g : RfcPort → RfcPort) : (s.setRport n g).tdd = s.tdd := rfl
@[simp] theorem State.setRport_cte (n : Nat) (g : RfcPort → RfcPort) : (s.setRport n g).cte = s.cte := rfl
@[simp] theorem State.setRport_fab (n : Nat) (g : RfcPort → RfcPort) : (s.setRport n g).fab = s.fab := rfl
@[simp] theorem State.setRport_stm (n : Nat) (g : RfcPort → RfcPort) : (s.setRport n g).stm = s.stm := rfl
@[simp] theorem State.setRport_hif (n : Nat) (g : RfcPort → RfcPort) : (s.setRport n g).hif = s.hif := rfl
@[simp] theorem State.setRport_ring (n : Nat) (g : RfcPort → RfcPort) : (s.setRport n g).ring = s.ring := rfl
@[simp] theorem State.setRport_hk (n : Nat) (g : RfcPort → RfcPort) : (s.setRport n g).hk = s.hk := rfl
@[simp] theorem State.setRport_thm (n : Nat) (g : RfcPort → RfcPort) : (s.setRport n g).thm = s.thm := rfl
@[simp] theorem State.setRport_pwm (n : Nat) (g : RfcPort → RfcPort) : (s.setRport n g).pwm = s.pwm := rfl
@[simp] theorem State.setRport_twt (n : Nat) (g : RfcPort → RfcPort) : (s.setRport n g).twt = s.twt := rfl
@[simp] theorem State.setRport_twc (n : Nat) (g : RfcPort → RfcPort) : (s.setRport n g).twc = s.twc := rfl
@[simp] theorem State.setRport_smem (n : Nat) (g : RfcPort → RfcPort) : (s.setRport n g).smem = s.smem := rfl
@[simp] theorem State.setRport_marks (n : Nat) (g : RfcPort → RfcPort) : (s.setRport n g).marks = s.marks := rfl
@[simp] theorem State.setRport_pending (n : Nat) (g : RfcPort → RfcPort) : (s.setRport n g).pending = s.pending := rfl
@[simp] theorem State.setLane_regs (n : Nat) (g : LaneSt → LaneSt) : (s.setLane n g).regs = s.regs := rfl
@[simp] theorem State.setLane_mem (n : Nat) (g : LaneSt → LaneSt) : (s.setLane n g).mem = s.mem := rfl
@[simp] theorem State.setLane_now (n : Nat) (g : LaneSt → LaneSt) : (s.setLane n g).now = s.now := rfl
@[simp] theorem State.setLane_free (n : Nat) (g : LaneSt → LaneSt) : (s.setLane n g).free = s.free := rfl
@[simp] theorem State.setLane_pins (n : Nat) (g : LaneSt → LaneSt) : (s.setLane n g).pins = s.pins := rfl
@[simp] theorem State.setLane_sys (n : Nat) (g : LaneSt → LaneSt) : (s.setLane n g).sys = s.sys := rfl
@[simp] theorem State.setLane_boot (n : Nat) (g : LaneSt → LaneSt) : (s.setLane n g).boot = s.boot := rfl
@[simp] theorem State.setLane_fc (n : Nat) (g : LaneSt → LaneSt) : (s.setLane n g).fc = s.fc := rfl
@[simp] theorem State.setLane_pb (n : Nat) (g : LaneSt → LaneSt) : (s.setLane n g).pb = s.pb := rfl
@[simp] theorem State.setLane_cur (n : Nat) (g : LaneSt → LaneSt) : (s.setLane n g).cur = s.cur := rfl
@[simp] theorem State.setLane_prot (n : Nat) (g : LaneSt → LaneSt) : (s.setLane n g).prot = s.prot := rfl
@[simp] theorem State.setLane_conv (n : Nat) (g : LaneSt → LaneSt) : (s.setLane n g).conv = s.conv := rfl
@[simp] theorem State.setLane_rfc (n : Nat) (g : LaneSt → LaneSt) : (s.setLane n g).rfc = s.rfc := rfl
@[simp] theorem State.setLane_cnx (n : Nat) (g : LaneSt → LaneSt) : (s.setLane n g).cnx = s.cnx := rfl
@[simp] theorem State.setLane_spt (n : Nat) (g : LaneSt → LaneSt) : (s.setLane n g).spt = s.spt := rfl
@[simp] theorem State.setLane_time (n : Nat) (g : LaneSt → LaneSt) : (s.setLane n g).time = s.time := rfl
@[simp] theorem State.setLane_tdd (n : Nat) (g : LaneSt → LaneSt) : (s.setLane n g).tdd = s.tdd := rfl
@[simp] theorem State.setLane_cte (n : Nat) (g : LaneSt → LaneSt) : (s.setLane n g).cte = s.cte := rfl
@[simp] theorem State.setLane_fab (n : Nat) (g : LaneSt → LaneSt) : (s.setLane n g).fab = s.fab := rfl
@[simp] theorem State.setLane_stm (n : Nat) (g : LaneSt → LaneSt) : (s.setLane n g).stm = s.stm := rfl
@[simp] theorem State.setLane_hif (n : Nat) (g : LaneSt → LaneSt) : (s.setLane n g).hif = s.hif := rfl
@[simp] theorem State.setLane_ring (n : Nat) (g : LaneSt → LaneSt) : (s.setLane n g).ring = s.ring := rfl
@[simp] theorem State.setLane_hk (n : Nat) (g : LaneSt → LaneSt) : (s.setLane n g).hk = s.hk := rfl
@[simp] theorem State.setLane_thm (n : Nat) (g : LaneSt → LaneSt) : (s.setLane n g).thm = s.thm := rfl
@[simp] theorem State.setLane_pwm (n : Nat) (g : LaneSt → LaneSt) : (s.setLane n g).pwm = s.pwm := rfl
@[simp] theorem State.setLane_twt (n : Nat) (g : LaneSt → LaneSt) : (s.setLane n g).twt = s.twt := rfl
@[simp] theorem State.setLane_twc (n : Nat) (g : LaneSt → LaneSt) : (s.setLane n g).twc = s.twc := rfl
@[simp] theorem State.setLane_smem (n : Nat) (g : LaneSt → LaneSt) : (s.setLane n g).smem = s.smem := rfl
@[simp] theorem State.setLane_marks (n : Nat) (g : LaneSt → LaneSt) : (s.setLane n g).marks = s.marks := rfl
@[simp] theorem State.setLane_pending (n : Nat) (g : LaneSt → LaneSt) : (s.setLane n g).pending = s.pending := rfl
@[simp] theorem State.setCv_regs (n : Nat) (g : ConvSt → ConvSt) : (s.setCv n g).regs = s.regs := rfl
@[simp] theorem State.setCv_mem (n : Nat) (g : ConvSt → ConvSt) : (s.setCv n g).mem = s.mem := rfl
@[simp] theorem State.setCv_now (n : Nat) (g : ConvSt → ConvSt) : (s.setCv n g).now = s.now := rfl
@[simp] theorem State.setCv_free (n : Nat) (g : ConvSt → ConvSt) : (s.setCv n g).free = s.free := rfl
@[simp] theorem State.setCv_pins (n : Nat) (g : ConvSt → ConvSt) : (s.setCv n g).pins = s.pins := rfl
@[simp] theorem State.setCv_sys (n : Nat) (g : ConvSt → ConvSt) : (s.setCv n g).sys = s.sys := rfl
@[simp] theorem State.setCv_boot (n : Nat) (g : ConvSt → ConvSt) : (s.setCv n g).boot = s.boot := rfl
@[simp] theorem State.setCv_fc (n : Nat) (g : ConvSt → ConvSt) : (s.setCv n g).fc = s.fc := rfl
@[simp] theorem State.setCv_pb (n : Nat) (g : ConvSt → ConvSt) : (s.setCv n g).pb = s.pb := rfl
@[simp] theorem State.setCv_cur (n : Nat) (g : ConvSt → ConvSt) : (s.setCv n g).cur = s.cur := rfl
@[simp] theorem State.setCv_prot (n : Nat) (g : ConvSt → ConvSt) : (s.setCv n g).prot = s.prot := rfl
@[simp] theorem State.setCv_lanes (n : Nat) (g : ConvSt → ConvSt) : (s.setCv n g).lanes = s.lanes := rfl
@[simp] theorem State.setCv_rfc (n : Nat) (g : ConvSt → ConvSt) : (s.setCv n g).rfc = s.rfc := rfl
@[simp] theorem State.setCv_cnx (n : Nat) (g : ConvSt → ConvSt) : (s.setCv n g).cnx = s.cnx := rfl
@[simp] theorem State.setCv_spt (n : Nat) (g : ConvSt → ConvSt) : (s.setCv n g).spt = s.spt := rfl
@[simp] theorem State.setCv_time (n : Nat) (g : ConvSt → ConvSt) : (s.setCv n g).time = s.time := rfl
@[simp] theorem State.setCv_tdd (n : Nat) (g : ConvSt → ConvSt) : (s.setCv n g).tdd = s.tdd := rfl
@[simp] theorem State.setCv_cte (n : Nat) (g : ConvSt → ConvSt) : (s.setCv n g).cte = s.cte := rfl
@[simp] theorem State.setCv_fab (n : Nat) (g : ConvSt → ConvSt) : (s.setCv n g).fab = s.fab := rfl
@[simp] theorem State.setCv_stm (n : Nat) (g : ConvSt → ConvSt) : (s.setCv n g).stm = s.stm := rfl
@[simp] theorem State.setCv_hif (n : Nat) (g : ConvSt → ConvSt) : (s.setCv n g).hif = s.hif := rfl
@[simp] theorem State.setCv_ring (n : Nat) (g : ConvSt → ConvSt) : (s.setCv n g).ring = s.ring := rfl
@[simp] theorem State.setCv_hk (n : Nat) (g : ConvSt → ConvSt) : (s.setCv n g).hk = s.hk := rfl
@[simp] theorem State.setCv_thm (n : Nat) (g : ConvSt → ConvSt) : (s.setCv n g).thm = s.thm := rfl
@[simp] theorem State.setCv_pwm (n : Nat) (g : ConvSt → ConvSt) : (s.setCv n g).pwm = s.pwm := rfl
@[simp] theorem State.setCv_twt (n : Nat) (g : ConvSt → ConvSt) : (s.setCv n g).twt = s.twt := rfl
@[simp] theorem State.setCv_twc (n : Nat) (g : ConvSt → ConvSt) : (s.setCv n g).twc = s.twc := rfl
@[simp] theorem State.setCv_smem (n : Nat) (g : ConvSt → ConvSt) : (s.setCv n g).smem = s.smem := rfl
@[simp] theorem State.setCv_marks (n : Nat) (g : ConvSt → ConvSt) : (s.setCv n g).marks = s.marks := rfl
@[simp] theorem State.setCv_pending (n : Nat) (g : ConvSt → ConvSt) : (s.setCv n g).pending = s.pending := rfl
@[simp] theorem State.setPath_regs (n : Nat) (g : PathSt → PathSt) : (s.setPath n g).regs = s.regs := rfl
@[simp] theorem State.setPath_mem (n : Nat) (g : PathSt → PathSt) : (s.setPath n g).mem = s.mem := rfl
@[simp] theorem State.setPath_now (n : Nat) (g : PathSt → PathSt) : (s.setPath n g).now = s.now := rfl
@[simp] theorem State.setPath_free (n : Nat) (g : PathSt → PathSt) : (s.setPath n g).free = s.free := rfl
@[simp] theorem State.setPath_pins (n : Nat) (g : PathSt → PathSt) : (s.setPath n g).pins = s.pins := rfl
@[simp] theorem State.setPath_sys (n : Nat) (g : PathSt → PathSt) : (s.setPath n g).sys = s.sys := rfl
@[simp] theorem State.setPath_boot (n : Nat) (g : PathSt → PathSt) : (s.setPath n g).boot = s.boot := rfl
@[simp] theorem State.setPath_fc (n : Nat) (g : PathSt → PathSt) : (s.setPath n g).fc = s.fc := rfl
@[simp] theorem State.setPath_pb (n : Nat) (g : PathSt → PathSt) : (s.setPath n g).pb = s.pb := rfl
@[simp] theorem State.setPath_cur (n : Nat) (g : PathSt → PathSt) : (s.setPath n g).cur = s.cur := rfl
@[simp] theorem State.setPath_prot (n : Nat) (g : PathSt → PathSt) : (s.setPath n g).prot = s.prot := rfl
@[simp] theorem State.setPath_lanes (n : Nat) (g : PathSt → PathSt) : (s.setPath n g).lanes = s.lanes := rfl
@[simp] theorem State.setPath_conv (n : Nat) (g : PathSt → PathSt) : (s.setPath n g).conv = s.conv := rfl
@[simp] theorem State.setPath_rfc (n : Nat) (g : PathSt → PathSt) : (s.setPath n g).rfc = s.rfc := rfl
@[simp] theorem State.setPath_spt (n : Nat) (g : PathSt → PathSt) : (s.setPath n g).spt = s.spt := rfl
@[simp] theorem State.setPath_time (n : Nat) (g : PathSt → PathSt) : (s.setPath n g).time = s.time := rfl
@[simp] theorem State.setPath_tdd (n : Nat) (g : PathSt → PathSt) : (s.setPath n g).tdd = s.tdd := rfl
@[simp] theorem State.setPath_cte (n : Nat) (g : PathSt → PathSt) : (s.setPath n g).cte = s.cte := rfl
@[simp] theorem State.setPath_fab (n : Nat) (g : PathSt → PathSt) : (s.setPath n g).fab = s.fab := rfl
@[simp] theorem State.setPath_stm (n : Nat) (g : PathSt → PathSt) : (s.setPath n g).stm = s.stm := rfl
@[simp] theorem State.setPath_hif (n : Nat) (g : PathSt → PathSt) : (s.setPath n g).hif = s.hif := rfl
@[simp] theorem State.setPath_ring (n : Nat) (g : PathSt → PathSt) : (s.setPath n g).ring = s.ring := rfl
@[simp] theorem State.setPath_hk (n : Nat) (g : PathSt → PathSt) : (s.setPath n g).hk = s.hk := rfl
@[simp] theorem State.setPath_thm (n : Nat) (g : PathSt → PathSt) : (s.setPath n g).thm = s.thm := rfl
@[simp] theorem State.setPath_pwm (n : Nat) (g : PathSt → PathSt) : (s.setPath n g).pwm = s.pwm := rfl
@[simp] theorem State.setPath_twt (n : Nat) (g : PathSt → PathSt) : (s.setPath n g).twt = s.twt := rfl
@[simp] theorem State.setPath_twc (n : Nat) (g : PathSt → PathSt) : (s.setPath n g).twc = s.twc := rfl
@[simp] theorem State.setPath_smem (n : Nat) (g : PathSt → PathSt) : (s.setPath n g).smem = s.smem := rfl
@[simp] theorem State.setPath_marks (n : Nat) (g : PathSt → PathSt) : (s.setPath n g).marks = s.marks := rfl
@[simp] theorem State.setPath_pending (n : Nat) (g : PathSt → PathSt) : (s.setPath n g).pending = s.pending := rfl
@[simp] theorem State.setClu_regs (n : Nat) (g : Cluster → Cluster) : (s.setClu n g).regs = s.regs := rfl
@[simp] theorem State.setClu_mem (n : Nat) (g : Cluster → Cluster) : (s.setClu n g).mem = s.mem := rfl
@[simp] theorem State.setClu_now (n : Nat) (g : Cluster → Cluster) : (s.setClu n g).now = s.now := rfl
@[simp] theorem State.setClu_free (n : Nat) (g : Cluster → Cluster) : (s.setClu n g).free = s.free := rfl
@[simp] theorem State.setClu_pins (n : Nat) (g : Cluster → Cluster) : (s.setClu n g).pins = s.pins := rfl
@[simp] theorem State.setClu_sys (n : Nat) (g : Cluster → Cluster) : (s.setClu n g).sys = s.sys := rfl
@[simp] theorem State.setClu_boot (n : Nat) (g : Cluster → Cluster) : (s.setClu n g).boot = s.boot := rfl
@[simp] theorem State.setClu_fc (n : Nat) (g : Cluster → Cluster) : (s.setClu n g).fc = s.fc := rfl
@[simp] theorem State.setClu_pb (n : Nat) (g : Cluster → Cluster) : (s.setClu n g).pb = s.pb := rfl
@[simp] theorem State.setClu_cur (n : Nat) (g : Cluster → Cluster) : (s.setClu n g).cur = s.cur := rfl
@[simp] theorem State.setClu_prot (n : Nat) (g : Cluster → Cluster) : (s.setClu n g).prot = s.prot := rfl
@[simp] theorem State.setClu_lanes (n : Nat) (g : Cluster → Cluster) : (s.setClu n g).lanes = s.lanes := rfl
@[simp] theorem State.setClu_conv (n : Nat) (g : Cluster → Cluster) : (s.setClu n g).conv = s.conv := rfl
@[simp] theorem State.setClu_rfc (n : Nat) (g : Cluster → Cluster) : (s.setClu n g).rfc = s.rfc := rfl
@[simp] theorem State.setClu_spt (n : Nat) (g : Cluster → Cluster) : (s.setClu n g).spt = s.spt := rfl
@[simp] theorem State.setClu_time (n : Nat) (g : Cluster → Cluster) : (s.setClu n g).time = s.time := rfl
@[simp] theorem State.setClu_tdd (n : Nat) (g : Cluster → Cluster) : (s.setClu n g).tdd = s.tdd := rfl
@[simp] theorem State.setClu_cte (n : Nat) (g : Cluster → Cluster) : (s.setClu n g).cte = s.cte := rfl
@[simp] theorem State.setClu_fab (n : Nat) (g : Cluster → Cluster) : (s.setClu n g).fab = s.fab := rfl
@[simp] theorem State.setClu_stm (n : Nat) (g : Cluster → Cluster) : (s.setClu n g).stm = s.stm := rfl
@[simp] theorem State.setClu_hif (n : Nat) (g : Cluster → Cluster) : (s.setClu n g).hif = s.hif := rfl
@[simp] theorem State.setClu_ring (n : Nat) (g : Cluster → Cluster) : (s.setClu n g).ring = s.ring := rfl
@[simp] theorem State.setClu_hk (n : Nat) (g : Cluster → Cluster) : (s.setClu n g).hk = s.hk := rfl
@[simp] theorem State.setClu_thm (n : Nat) (g : Cluster → Cluster) : (s.setClu n g).thm = s.thm := rfl
@[simp] theorem State.setClu_pwm (n : Nat) (g : Cluster → Cluster) : (s.setClu n g).pwm = s.pwm := rfl
@[simp] theorem State.setClu_twt (n : Nat) (g : Cluster → Cluster) : (s.setClu n g).twt = s.twt := rfl
@[simp] theorem State.setClu_twc (n : Nat) (g : Cluster → Cluster) : (s.setClu n g).twc = s.twc := rfl
@[simp] theorem State.setClu_smem (n : Nat) (g : Cluster → Cluster) : (s.setClu n g).smem = s.smem := rfl
@[simp] theorem State.setClu_marks (n : Nat) (g : Cluster → Cluster) : (s.setClu n g).marks = s.marks := rfl
@[simp] theorem State.setClu_pending (n : Nat) (g : Cluster → Cluster) : (s.setClu n g).pending = s.pending := rfl

/-! ### Accessors after an update -/

@[simp] theorem State.pass_rd (d : Nat) (h : Fld) (j : Nat) : (s.pass d).rd h j = s.rd h j := rfl
@[simp] theorem State.st8_rd (a : Nat) (b : Byte) (h : Fld) (j : Nat) : (s.st8 a b).rd h j = s.rd h j := rfl
@[simp] theorem State.mark_rd (e : Nat) (h : Fld) (j : Nat) : (s.mark e).rd h j = s.rd h j := rfl
@[simp] theorem State.setTod_rd (n : Nat) (h : Fld) (j : Nat) : (s.setTod n).rd h j = s.rd h j := rfl
@[simp] theorem State.setFc_rd (g : FcSt → FcSt) (h : Fld) (j : Nat) : (s.setFc g).rd h j = s.rd h j := rfl
@[simp] theorem State.setPb_rd (g : PbSt → PbSt) (h : Fld) (j : Nat) : (s.setPb g).rd h j = s.rd h j := rfl
@[simp] theorem State.setCnx_rd (g : CnxSt → CnxSt) (h : Fld) (j : Nat) : (s.setCnx g).rd h j = s.rd h j := rfl
@[simp] theorem State.setTime_rd (g : TimeSt → TimeSt) (h : Fld) (j : Nat) : (s.setTime g).rd h j = s.rd h j := rfl
@[simp] theorem State.setBoot_rd (g : BootSt → BootSt) (h : Fld) (j : Nat) : (s.setBoot g).rd h j = s.rd h j := rfl
@[simp] theorem State.setSys_rd (g : SysSt → SysSt) (h : Fld) (j : Nat) : (s.setSys g).rd h j = s.rd h j := rfl
@[simp] theorem State.setStm_rd (g : StmSt → StmSt) (h : Fld) (j : Nat) : (s.setStm g).rd h j = s.rd h j := rfl
@[simp] theorem State.setHif_rd (g : HifSt → HifSt) (h : Fld) (j : Nat) : (s.setHif g).rd h j = s.rd h j := rfl
@[simp] theorem State.setRing_rd (g : RingSt → RingSt) (h : Fld) (j : Nat) : (s.setRing g).rd h j = s.rd h j := rfl
@[simp] theorem State.setTwt_rd (g : TwtSt → TwtSt) (h : Fld) (j : Nat) : (s.setTwt g).rd h j = s.rd h j := rfl
@[simp] theorem State.setRfc_rd (g : RfcSt → RfcSt) (h : Fld) (j : Nat) : (s.setRfc g).rd h j = s.rd h j := rfl
@[simp] theorem State.setHk_rd (g : HkSt → HkSt) (h : Fld) (j : Nat) : (s.setHk g).rd h j = s.rd h j := rfl
@[simp] theorem State.setThm_rd (g : ThmSt → ThmSt) (h : Fld) (j : Nat) : (s.setThm g).rd h j = s.rd h j := rfl
@[simp] theorem State.setFab_rd (g : FabSt → FabSt) (h : Fld) (j : Nat) : (s.setFab g).rd h j = s.rd h j := rfl
@[simp] theorem State.setFcSrc_rd (n : Nat) (g : FcSrc → FcSrc) (h : Fld) (j : Nat) : (s.setFcSrc n g).rd h j = s.rd h j := rfl
@[simp] theorem State.setCport_rd (n : Nat) (g : CurPort → CurPort) (h : Fld) (j : Nat) : (s.setCport n g).rd h j = s.rd h j := rfl
@[simp] theorem State.setRport_rd (n : Nat) (g : RfcPort → RfcPort) (h : Fld) (j : Nat) : (s.setRport n g).rd h j = s.rd h j := rfl
@[simp] theorem State.setLane_rd (n : Nat) (g : LaneSt → LaneSt) (h : Fld) (j : Nat) : (s.setLane n g).rd h j = s.rd h j := rfl
@[simp] theorem State.setCv_rd (n : Nat) (g : ConvSt → ConvSt) (h : Fld) (j : Nat) : (s.setCv n g).rd h j = s.rd h j := rfl
@[simp] theorem State.setPath_rd (n : Nat) (g : PathSt → PathSt) (h : Fld) (j : Nat) : (s.setPath n g).rd h j = s.rd h j := rfl
@[simp] theorem State.setClu_rd (n : Nat) (g : Cluster → Cluster) (h : Fld) (j : Nat) : (s.setClu n g).rd h j = s.rd h j := rfl
@[simp] theorem State.wr_fcSrc (f : Fld) (i v : Nat) (k : Nat) : (s.wr f i v).fcSrc k = s.fcSrc k := rfl
@[simp] theorem State.pass_fcSrc (d : Nat) (k : Nat) : (s.pass d).fcSrc k = s.fcSrc k := rfl
@[simp] theorem State.st8_fcSrc (a : Nat) (b : Byte) (k : Nat) : (s.st8 a b).fcSrc k = s.fcSrc k := rfl
@[simp] theorem State.mark_fcSrc (e : Nat) (k : Nat) : (s.mark e).fcSrc k = s.fcSrc k := rfl
@[simp] theorem State.setTod_fcSrc (n : Nat) (k : Nat) : (s.setTod n).fcSrc k = s.fcSrc k := rfl
@[simp] theorem State.setPb_fcSrc (g : PbSt → PbSt) (k : Nat) : (s.setPb g).fcSrc k = s.fcSrc k := rfl
@[simp] theorem State.setCnx_fcSrc (g : CnxSt → CnxSt) (k : Nat) : (s.setCnx g).fcSrc k = s.fcSrc k := rfl
@[simp] theorem State.setTime_fcSrc (g : TimeSt → TimeSt) (k : Nat) : (s.setTime g).fcSrc k = s.fcSrc k := rfl
@[simp] theorem State.setBoot_fcSrc (g : BootSt → BootSt) (k : Nat) : (s.setBoot g).fcSrc k = s.fcSrc k := rfl
@[simp] theorem State.setSys_fcSrc (g : SysSt → SysSt) (k : Nat) : (s.setSys g).fcSrc k = s.fcSrc k := rfl
@[simp] theorem State.setStm_fcSrc (g : StmSt → StmSt) (k : Nat) : (s.setStm g).fcSrc k = s.fcSrc k := rfl
@[simp] theorem State.setHif_fcSrc (g : HifSt → HifSt) (k : Nat) : (s.setHif g).fcSrc k = s.fcSrc k := rfl
@[simp] theorem State.setRing_fcSrc (g : RingSt → RingSt) (k : Nat) : (s.setRing g).fcSrc k = s.fcSrc k := rfl
@[simp] theorem State.setTwt_fcSrc (g : TwtSt → TwtSt) (k : Nat) : (s.setTwt g).fcSrc k = s.fcSrc k := rfl
@[simp] theorem State.setRfc_fcSrc (g : RfcSt → RfcSt) (k : Nat) : (s.setRfc g).fcSrc k = s.fcSrc k := rfl
@[simp] theorem State.setHk_fcSrc (g : HkSt → HkSt) (k : Nat) : (s.setHk g).fcSrc k = s.fcSrc k := rfl
@[simp] theorem State.setThm_fcSrc (g : ThmSt → ThmSt) (k : Nat) : (s.setThm g).fcSrc k = s.fcSrc k := rfl
@[simp] theorem State.setFab_fcSrc (g : FabSt → FabSt) (k : Nat) : (s.setFab g).fcSrc k = s.fcSrc k := rfl
theorem State.setFcSrc_fcSrc (n : Nat) (g : FcSrc → FcSrc) (k : Nat) : (s.setFcSrc n g).fcSrc k = if n = k then g (s.fcSrc n) else s.fcSrc k := Tab.get_set ..
@[simp] theorem State.setFcSrc_fcSrc_self (n : Nat) (g : FcSrc → FcSrc) : (s.setFcSrc n g).fcSrc n = g (s.fcSrc n) := Tab.get_set_self ..
@[simp] theorem State.setCport_fcSrc (n : Nat) (g : CurPort → CurPort) (k : Nat) : (s.setCport n g).fcSrc k = s.fcSrc k := rfl
@[simp] theorem State.setRport_fcSrc (n : Nat) (g : RfcPort → RfcPort) (k : Nat) : (s.setRport n g).fcSrc k = s.fcSrc k := rfl
@[simp] theorem State.setLane_fcSrc (n : Nat) (g : LaneSt → LaneSt) (k : Nat) : (s.setLane n g).fcSrc k = s.fcSrc k := rfl
@[simp] theorem State.setCv_fcSrc (n : Nat) (g : ConvSt → ConvSt) (k : Nat) : (s.setCv n g).fcSrc k = s.fcSrc k := rfl
@[simp] theorem State.setPath_fcSrc (n : Nat) (g : PathSt → PathSt) (k : Nat) : (s.setPath n g).fcSrc k = s.fcSrc k := rfl
@[simp] theorem State.setClu_fcSrc (n : Nat) (g : Cluster → Cluster) (k : Nat) : (s.setClu n g).fcSrc k = s.fcSrc k := rfl
@[simp] theorem State.wr_cport (f : Fld) (i v : Nat) (k : Nat) : (s.wr f i v).cport k = s.cport k := rfl
@[simp] theorem State.pass_cport (d : Nat) (k : Nat) : (s.pass d).cport k = s.cport k := rfl
@[simp] theorem State.st8_cport (a : Nat) (b : Byte) (k : Nat) : (s.st8 a b).cport k = s.cport k := rfl
@[simp] theorem State.mark_cport (e : Nat) (k : Nat) : (s.mark e).cport k = s.cport k := rfl
@[simp] theorem State.setTod_cport (n : Nat) (k : Nat) : (s.setTod n).cport k = s.cport k := rfl
@[simp] theorem State.setFc_cport (g : FcSt → FcSt) (k : Nat) : (s.setFc g).cport k = s.cport k := rfl
@[simp] theorem State.setPb_cport (g : PbSt → PbSt) (k : Nat) : (s.setPb g).cport k = s.cport k := rfl
@[simp] theorem State.setCnx_cport (g : CnxSt → CnxSt) (k : Nat) : (s.setCnx g).cport k = s.cport k := rfl
@[simp] theorem State.setTime_cport (g : TimeSt → TimeSt) (k : Nat) : (s.setTime g).cport k = s.cport k := rfl
@[simp] theorem State.setBoot_cport (g : BootSt → BootSt) (k : Nat) : (s.setBoot g).cport k = s.cport k := rfl
@[simp] theorem State.setSys_cport (g : SysSt → SysSt) (k : Nat) : (s.setSys g).cport k = s.cport k := rfl
@[simp] theorem State.setStm_cport (g : StmSt → StmSt) (k : Nat) : (s.setStm g).cport k = s.cport k := rfl
@[simp] theorem State.setHif_cport (g : HifSt → HifSt) (k : Nat) : (s.setHif g).cport k = s.cport k := rfl
@[simp] theorem State.setRing_cport (g : RingSt → RingSt) (k : Nat) : (s.setRing g).cport k = s.cport k := rfl
@[simp] theorem State.setTwt_cport (g : TwtSt → TwtSt) (k : Nat) : (s.setTwt g).cport k = s.cport k := rfl
@[simp] theorem State.setRfc_cport (g : RfcSt → RfcSt) (k : Nat) : (s.setRfc g).cport k = s.cport k := rfl
@[simp] theorem State.setHk_cport (g : HkSt → HkSt) (k : Nat) : (s.setHk g).cport k = s.cport k := rfl
@[simp] theorem State.setThm_cport (g : ThmSt → ThmSt) (k : Nat) : (s.setThm g).cport k = s.cport k := rfl
@[simp] theorem State.setFab_cport (g : FabSt → FabSt) (k : Nat) : (s.setFab g).cport k = s.cport k := rfl
@[simp] theorem State.setFcSrc_cport (n : Nat) (g : FcSrc → FcSrc) (k : Nat) : (s.setFcSrc n g).cport k = s.cport k := rfl
theorem State.setCport_cport (n : Nat) (g : CurPort → CurPort) (k : Nat) : (s.setCport n g).cport k = if n = k then g (s.cport n) else s.cport k := Tab.get_set ..
@[simp] theorem State.setCport_cport_self (n : Nat) (g : CurPort → CurPort) : (s.setCport n g).cport n = g (s.cport n) := Tab.get_set_self ..
@[simp] theorem State.setRport_cport (n : Nat) (g : RfcPort → RfcPort) (k : Nat) : (s.setRport n g).cport k = s.cport k := rfl
@[simp] theorem State.setLane_cport (n : Nat) (g : LaneSt → LaneSt) (k : Nat) : (s.setLane n g).cport k = s.cport k := rfl
@[simp] theorem State.setCv_cport (n : Nat) (g : ConvSt → ConvSt) (k : Nat) : (s.setCv n g).cport k = s.cport k := rfl
@[simp] theorem State.setPath_cport (n : Nat) (g : PathSt → PathSt) (k : Nat) : (s.setPath n g).cport k = s.cport k := rfl
@[simp] theorem State.setClu_cport (n : Nat) (g : Cluster → Cluster) (k : Nat) : (s.setClu n g).cport k = s.cport k := rfl
@[simp] theorem State.wr_rport (f : Fld) (i v : Nat) (k : Nat) : (s.wr f i v).rport k = s.rport k := rfl
@[simp] theorem State.pass_rport (d : Nat) (k : Nat) : (s.pass d).rport k = s.rport k := rfl
@[simp] theorem State.st8_rport (a : Nat) (b : Byte) (k : Nat) : (s.st8 a b).rport k = s.rport k := rfl
@[simp] theorem State.mark_rport (e : Nat) (k : Nat) : (s.mark e).rport k = s.rport k := rfl
@[simp] theorem State.setTod_rport (n : Nat) (k : Nat) : (s.setTod n).rport k = s.rport k := rfl
@[simp] theorem State.setFc_rport (g : FcSt → FcSt) (k : Nat) : (s.setFc g).rport k = s.rport k := rfl
@[simp] theorem State.setPb_rport (g : PbSt → PbSt) (k : Nat) : (s.setPb g).rport k = s.rport k := rfl
@[simp] theorem State.setCnx_rport (g : CnxSt → CnxSt) (k : Nat) : (s.setCnx g).rport k = s.rport k := rfl
@[simp] theorem State.setTime_rport (g : TimeSt → TimeSt) (k : Nat) : (s.setTime g).rport k = s.rport k := rfl
@[simp] theorem State.setBoot_rport (g : BootSt → BootSt) (k : Nat) : (s.setBoot g).rport k = s.rport k := rfl
@[simp] theorem State.setSys_rport (g : SysSt → SysSt) (k : Nat) : (s.setSys g).rport k = s.rport k := rfl
@[simp] theorem State.setStm_rport (g : StmSt → StmSt) (k : Nat) : (s.setStm g).rport k = s.rport k := rfl
@[simp] theorem State.setHif_rport (g : HifSt → HifSt) (k : Nat) : (s.setHif g).rport k = s.rport k := rfl
@[simp] theorem State.setRing_rport (g : RingSt → RingSt) (k : Nat) : (s.setRing g).rport k = s.rport k := rfl
@[simp] theorem State.setTwt_rport (g : TwtSt → TwtSt) (k : Nat) : (s.setTwt g).rport k = s.rport k := rfl
@[simp] theorem State.setHk_rport (g : HkSt → HkSt) (k : Nat) : (s.setHk g).rport k = s.rport k := rfl
@[simp] theorem State.setThm_rport (g : ThmSt → ThmSt) (k : Nat) : (s.setThm g).rport k = s.rport k := rfl
@[simp] theorem State.setFab_rport (g : FabSt → FabSt) (k : Nat) : (s.setFab g).rport k = s.rport k := rfl
@[simp] theorem State.setFcSrc_rport (n : Nat) (g : FcSrc → FcSrc) (k : Nat) : (s.setFcSrc n g).rport k = s.rport k := rfl
@[simp] theorem State.setCport_rport (n : Nat) (g : CurPort → CurPort) (k : Nat) : (s.setCport n g).rport k = s.rport k := rfl
theorem State.setRport_rport (n : Nat) (g : RfcPort → RfcPort) (k : Nat) : (s.setRport n g).rport k = if n = k then g (s.rport n) else s.rport k := Tab.get_set ..
@[simp] theorem State.setRport_rport_self (n : Nat) (g : RfcPort → RfcPort) : (s.setRport n g).rport n = g (s.rport n) := Tab.get_set_self ..
@[simp] theorem State.setLane_rport (n : Nat) (g : LaneSt → LaneSt) (k : Nat) : (s.setLane n g).rport k = s.rport k := rfl
@[simp] theorem State.setCv_rport (n : Nat) (g : ConvSt → ConvSt) (k : Nat) : (s.setCv n g).rport k = s.rport k := rfl
@[simp] theorem State.setPath_rport (n : Nat) (g : PathSt → PathSt) (k : Nat) : (s.setPath n g).rport k = s.rport k := rfl
@[simp] theorem State.setClu_rport (n : Nat) (g : Cluster → Cluster) (k : Nat) : (s.setClu n g).rport k = s.rport k := rfl
@[simp] theorem State.wr_lane (f : Fld) (i v : Nat) (k : Nat) : (s.wr f i v).lane k = s.lane k := rfl
@[simp] theorem State.pass_lane (d : Nat) (k : Nat) : (s.pass d).lane k = s.lane k := rfl
@[simp] theorem State.st8_lane (a : Nat) (b : Byte) (k : Nat) : (s.st8 a b).lane k = s.lane k := rfl
@[simp] theorem State.mark_lane (e : Nat) (k : Nat) : (s.mark e).lane k = s.lane k := rfl
@[simp] theorem State.setTod_lane (n : Nat) (k : Nat) : (s.setTod n).lane k = s.lane k := rfl
@[simp] theorem State.setFc_lane (g : FcSt → FcSt) (k : Nat) : (s.setFc g).lane k = s.lane k := rfl
@[simp] theorem State.setPb_lane (g : PbSt → PbSt) (k : Nat) : (s.setPb g).lane k = s.lane k := rfl
@[simp] theorem State.setCnx_lane (g : CnxSt → CnxSt) (k : Nat) : (s.setCnx g).lane k = s.lane k := rfl
@[simp] theorem State.setTime_lane (g : TimeSt → TimeSt) (k : Nat) : (s.setTime g).lane k = s.lane k := rfl
@[simp] theorem State.setBoot_lane (g : BootSt → BootSt) (k : Nat) : (s.setBoot g).lane k = s.lane k := rfl
@[simp] theorem State.setSys_lane (g : SysSt → SysSt) (k : Nat) : (s.setSys g).lane k = s.lane k := rfl
@[simp] theorem State.setStm_lane (g : StmSt → StmSt) (k : Nat) : (s.setStm g).lane k = s.lane k := rfl
@[simp] theorem State.setHif_lane (g : HifSt → HifSt) (k : Nat) : (s.setHif g).lane k = s.lane k := rfl
@[simp] theorem State.setRing_lane (g : RingSt → RingSt) (k : Nat) : (s.setRing g).lane k = s.lane k := rfl
@[simp] theorem State.setTwt_lane (g : TwtSt → TwtSt) (k : Nat) : (s.setTwt g).lane k = s.lane k := rfl
@[simp] theorem State.setRfc_lane (g : RfcSt → RfcSt) (k : Nat) : (s.setRfc g).lane k = s.lane k := rfl
@[simp] theorem State.setHk_lane (g : HkSt → HkSt) (k : Nat) : (s.setHk g).lane k = s.lane k := rfl
@[simp] theorem State.setThm_lane (g : ThmSt → ThmSt) (k : Nat) : (s.setThm g).lane k = s.lane k := rfl
@[simp] theorem State.setFab_lane (g : FabSt → FabSt) (k : Nat) : (s.setFab g).lane k = s.lane k := rfl
@[simp] theorem State.setFcSrc_lane (n : Nat) (g : FcSrc → FcSrc) (k : Nat) : (s.setFcSrc n g).lane k = s.lane k := rfl
@[simp] theorem State.setCport_lane (n : Nat) (g : CurPort → CurPort) (k : Nat) : (s.setCport n g).lane k = s.lane k := rfl
@[simp] theorem State.setRport_lane (n : Nat) (g : RfcPort → RfcPort) (k : Nat) : (s.setRport n g).lane k = s.lane k := rfl
theorem State.setLane_lane (n : Nat) (g : LaneSt → LaneSt) (k : Nat) : (s.setLane n g).lane k = if n = k then g (s.lane n) else s.lane k := Tab.get_set ..
@[simp] theorem State.setLane_lane_self (n : Nat) (g : LaneSt → LaneSt) : (s.setLane n g).lane n = g (s.lane n) := Tab.get_set_self ..
@[simp] theorem State.setCv_lane (n : Nat) (g : ConvSt → ConvSt) (k : Nat) : (s.setCv n g).lane k = s.lane k := rfl
@[simp] theorem State.setPath_lane (n : Nat) (g : PathSt → PathSt) (k : Nat) : (s.setPath n g).lane k = s.lane k := rfl
@[simp] theorem State.setClu_lane (n : Nat) (g : Cluster → Cluster) (k : Nat) : (s.setClu n g).lane k = s.lane k := rfl
@[simp] theorem State.wr_cv (f : Fld) (i v : Nat) (k : Nat) : (s.wr f i v).cv k = s.cv k := rfl
@[simp] theorem State.pass_cv (d : Nat) (k : Nat) : (s.pass d).cv k = s.cv k := rfl
@[simp] theorem State.st8_cv (a : Nat) (b : Byte) (k : Nat) : (s.st8 a b).cv k = s.cv k := rfl
@[simp] theorem State.mark_cv (e : Nat) (k : Nat) : (s.mark e).cv k = s.cv k := rfl
@[simp] theorem State.setTod_cv (n : Nat) (k : Nat) : (s.setTod n).cv k = s.cv k := rfl
@[simp] theorem State.setFc_cv (g : FcSt → FcSt) (k : Nat) : (s.setFc g).cv k = s.cv k := rfl
@[simp] theorem State.setPb_cv (g : PbSt → PbSt) (k : Nat) : (s.setPb g).cv k = s.cv k := rfl
@[simp] theorem State.setCnx_cv (g : CnxSt → CnxSt) (k : Nat) : (s.setCnx g).cv k = s.cv k := rfl
@[simp] theorem State.setTime_cv (g : TimeSt → TimeSt) (k : Nat) : (s.setTime g).cv k = s.cv k := rfl
@[simp] theorem State.setBoot_cv (g : BootSt → BootSt) (k : Nat) : (s.setBoot g).cv k = s.cv k := rfl
@[simp] theorem State.setSys_cv (g : SysSt → SysSt) (k : Nat) : (s.setSys g).cv k = s.cv k := rfl
@[simp] theorem State.setStm_cv (g : StmSt → StmSt) (k : Nat) : (s.setStm g).cv k = s.cv k := rfl
@[simp] theorem State.setHif_cv (g : HifSt → HifSt) (k : Nat) : (s.setHif g).cv k = s.cv k := rfl
@[simp] theorem State.setRing_cv (g : RingSt → RingSt) (k : Nat) : (s.setRing g).cv k = s.cv k := rfl
@[simp] theorem State.setTwt_cv (g : TwtSt → TwtSt) (k : Nat) : (s.setTwt g).cv k = s.cv k := rfl
@[simp] theorem State.setRfc_cv (g : RfcSt → RfcSt) (k : Nat) : (s.setRfc g).cv k = s.cv k := rfl
@[simp] theorem State.setHk_cv (g : HkSt → HkSt) (k : Nat) : (s.setHk g).cv k = s.cv k := rfl
@[simp] theorem State.setThm_cv (g : ThmSt → ThmSt) (k : Nat) : (s.setThm g).cv k = s.cv k := rfl
@[simp] theorem State.setFab_cv (g : FabSt → FabSt) (k : Nat) : (s.setFab g).cv k = s.cv k := rfl
@[simp] theorem State.setFcSrc_cv (n : Nat) (g : FcSrc → FcSrc) (k : Nat) : (s.setFcSrc n g).cv k = s.cv k := rfl
@[simp] theorem State.setCport_cv (n : Nat) (g : CurPort → CurPort) (k : Nat) : (s.setCport n g).cv k = s.cv k := rfl
@[simp] theorem State.setRport_cv (n : Nat) (g : RfcPort → RfcPort) (k : Nat) : (s.setRport n g).cv k = s.cv k := rfl
@[simp] theorem State.setLane_cv (n : Nat) (g : LaneSt → LaneSt) (k : Nat) : (s.setLane n g).cv k = s.cv k := rfl
theorem State.setCv_cv (n : Nat) (g : ConvSt → ConvSt) (k : Nat) : (s.setCv n g).cv k = if n = k then g (s.cv n) else s.cv k := Tab.get_set ..
@[simp] theorem State.setCv_cv_self (n : Nat) (g : ConvSt → ConvSt) : (s.setCv n g).cv n = g (s.cv n) := Tab.get_set_self ..
@[simp] theorem State.setPath_cv (n : Nat) (g : PathSt → PathSt) (k : Nat) : (s.setPath n g).cv k = s.cv k := rfl
@[simp] theorem State.setClu_cv (n : Nat) (g : Cluster → Cluster) (k : Nat) : (s.setClu n g).cv k = s.cv k := rfl
@[simp] theorem State.wr_path (f : Fld) (i v : Nat) (k : Nat) : (s.wr f i v).path k = s.path k := rfl
@[simp] theorem State.pass_path (d : Nat) (k : Nat) : (s.pass d).path k = s.path k := rfl
@[simp] theorem State.st8_path (a : Nat) (b : Byte) (k : Nat) : (s.st8 a b).path k = s.path k := rfl
@[simp] theorem State.mark_path (e : Nat) (k : Nat) : (s.mark e).path k = s.path k := rfl
@[simp] theorem State.setTod_path (n : Nat) (k : Nat) : (s.setTod n).path k = s.path k := rfl
@[simp] theorem State.setFc_path (g : FcSt → FcSt) (k : Nat) : (s.setFc g).path k = s.path k := rfl
@[simp] theorem State.setPb_path (g : PbSt → PbSt) (k : Nat) : (s.setPb g).path k = s.path k := rfl
@[simp] theorem State.setTime_path (g : TimeSt → TimeSt) (k : Nat) : (s.setTime g).path k = s.path k := rfl
@[simp] theorem State.setBoot_path (g : BootSt → BootSt) (k : Nat) : (s.setBoot g).path k = s.path k := rfl
@[simp] theorem State.setSys_path (g : SysSt → SysSt) (k : Nat) : (s.setSys g).path k = s.path k := rfl
@[simp] theorem State.setStm_path (g : StmSt → StmSt) (k : Nat) : (s.setStm g).path k = s.path k := rfl
@[simp] theorem State.setHif_path (g : HifSt → HifSt) (k : Nat) : (s.setHif g).path k = s.path k := rfl
@[simp] theorem State.setRing_path (g : RingSt → RingSt) (k : Nat) : (s.setRing g).path k = s.path k := rfl
@[simp] theorem State.setTwt_path (g : TwtSt → TwtSt) (k : Nat) : (s.setTwt g).path k = s.path k := rfl
@[simp] theorem State.setRfc_path (g : RfcSt → RfcSt) (k : Nat) : (s.setRfc g).path k = s.path k := rfl
@[simp] theorem State.setHk_path (g : HkSt → HkSt) (k : Nat) : (s.setHk g).path k = s.path k := rfl
@[simp] theorem State.setThm_path (g : ThmSt → ThmSt) (k : Nat) : (s.setThm g).path k = s.path k := rfl
@[simp] theorem State.setFab_path (g : FabSt → FabSt) (k : Nat) : (s.setFab g).path k = s.path k := rfl
@[simp] theorem State.setFcSrc_path (n : Nat) (g : FcSrc → FcSrc) (k : Nat) : (s.setFcSrc n g).path k = s.path k := rfl
@[simp] theorem State.setCport_path (n : Nat) (g : CurPort → CurPort) (k : Nat) : (s.setCport n g).path k = s.path k := rfl
@[simp] theorem State.setRport_path (n : Nat) (g : RfcPort → RfcPort) (k : Nat) : (s.setRport n g).path k = s.path k := rfl
@[simp] theorem State.setLane_path (n : Nat) (g : LaneSt → LaneSt) (k : Nat) : (s.setLane n g).path k = s.path k := rfl
@[simp] theorem State.setCv_path (n : Nat) (g : ConvSt → ConvSt) (k : Nat) : (s.setCv n g).path k = s.path k := rfl
theorem State.setPath_path (n : Nat) (g : PathSt → PathSt) (k : Nat) : (s.setPath n g).path k = if n = k then g (s.path n) else s.path k := Tab.get_set ..
@[simp] theorem State.setPath_path_self (n : Nat) (g : PathSt → PathSt) : (s.setPath n g).path n = g (s.path n) := Tab.get_set_self ..
@[simp] theorem State.setClu_path (n : Nat) (g : Cluster → Cluster) (k : Nat) : (s.setClu n g).path k = s.path k := rfl
@[simp] theorem State.wr_clu (f : Fld) (i v : Nat) (k : Nat) : (s.wr f i v).clu k = s.clu k := rfl
@[simp] theorem State.pass_clu (d : Nat) (k : Nat) : (s.pass d).clu k = s.clu k := rfl
@[simp] theorem State.st8_clu (a : Nat) (b : Byte) (k : Nat) : (s.st8 a b).clu k = s.clu k := rfl
@[simp] theorem State.mark_clu (e : Nat) (k : Nat) : (s.mark e).clu k = s.clu k := rfl
@[simp] theorem State.setTod_clu (n : Nat) (k : Nat) : (s.setTod n).clu k = s.clu k := rfl
@[simp] theorem State.setFc_clu (g : FcSt → FcSt) (k : Nat) : (s.setFc g).clu k = s.clu k := rfl
@[simp] theorem State.setPb_clu (g : PbSt → PbSt) (k : Nat) : (s.setPb g).clu k = s.clu k := rfl
@[simp] theorem State.setTime_clu (g : TimeSt → TimeSt) (k : Nat) : (s.setTime g).clu k = s.clu k := rfl
@[simp] theorem State.setBoot_clu (g : BootSt → BootSt) (k : Nat) : (s.setBoot g).clu k = s.clu k := rfl
@[simp] theorem State.setSys_clu (g : SysSt → SysSt) (k : Nat) : (s.setSys g).clu k = s.clu k := rfl
@[simp] theorem State.setStm_clu (g : StmSt → StmSt) (k : Nat) : (s.setStm g).clu k = s.clu k := rfl
@[simp] theorem State.setHif_clu (g : HifSt → HifSt) (k : Nat) : (s.setHif g).clu k = s.clu k := rfl
@[simp] theorem State.setRing_clu (g : RingSt → RingSt) (k : Nat) : (s.setRing g).clu k = s.clu k := rfl
@[simp] theorem State.setTwt_clu (g : TwtSt → TwtSt) (k : Nat) : (s.setTwt g).clu k = s.clu k := rfl
@[simp] theorem State.setRfc_clu (g : RfcSt → RfcSt) (k : Nat) : (s.setRfc g).clu k = s.clu k := rfl
@[simp] theorem State.setHk_clu (g : HkSt → HkSt) (k : Nat) : (s.setHk g).clu k = s.clu k := rfl
@[simp] theorem State.setThm_clu (g : ThmSt → ThmSt) (k : Nat) : (s.setThm g).clu k = s.clu k := rfl
@[simp] theorem State.setFab_clu (g : FabSt → FabSt) (k : Nat) : (s.setFab g).clu k = s.clu k := rfl
@[simp] theorem State.setFcSrc_clu (n : Nat) (g : FcSrc → FcSrc) (k : Nat) : (s.setFcSrc n g).clu k = s.clu k := rfl
@[simp] theorem State.setCport_clu (n : Nat) (g : CurPort → CurPort) (k : Nat) : (s.setCport n g).clu k = s.clu k := rfl
@[simp] theorem State.setRport_clu (n : Nat) (g : RfcPort → RfcPort) (k : Nat) : (s.setRport n g).clu k = s.clu k := rfl
@[simp] theorem State.setLane_clu (n : Nat) (g : LaneSt → LaneSt) (k : Nat) : (s.setLane n g).clu k = s.clu k := rfl
@[simp] theorem State.setCv_clu (n : Nat) (g : ConvSt → ConvSt) (k : Nat) : (s.setCv n g).clu k = s.clu k := rfl
@[simp] theorem State.setPath_clu (n : Nat) (g : PathSt → PathSt) (k : Nat) : (s.setPath n g).clu k = s.clu k := rfl
theorem State.setClu_clu (n : Nat) (g : Cluster → Cluster) (k : Nat) : (s.setClu n g).clu k = if n = k then g (s.clu n) else s.clu k := Tab.get_set ..
@[simp] theorem State.setClu_clu_self (n : Nat) (g : Cluster → Cluster) : (s.setClu n g).clu n = g (s.clu n) := Tab.get_set_self ..

/-! ### Register fields -/

theorem State.rd_lt (f : Fld) (i : Nat) : s.rd f i < 2 ^ f.w := Nat.mod_lt _ (Nat.two_pow_pos _)

@[simp] theorem State.rd_mod (f : Fld) (i : Nat) : s.rd f i % 2 ^ f.w = s.rd f i := Nat.mod_eq_of_lt (s.rd_lt f i)

/-- A field reads as it was written, at an index at which it exists. -/
theorem State.rd_wr_self {f : Fld} {i : Nat} (v : Nat) (hi : f.has i = true) (hw : f.w ≤ 32) :
    (s.wr f i v).rd f i = v % 2 ^ f.w := by
  have h : v % 2 ^ f.w < 2 ^ 32 :=
    Nat.lt_of_lt_of_le (Nat.mod_lt _ (Nat.two_pow_pos _)) (Nat.pow_le_pow_right (by decide) hw)
  simp only [State.rd, State.wr, hi, if_true, Tab.get_set_self, BitVec.toNat_ofNat, Nat.mod_eq_of_lt h, Nat.mod_mod]

/-- A write of one place leaves the field of another. -/
theorem State.rd_wr_ne {f g : Fld} {i j : Nat} (v : Nat) (h : f.key i ≠ g.key j) : (s.wr f i v).rd g j = s.rd g j := by
  simp only [State.rd, State.wr]
  split
  · rw [Tab.get_set_ne _ _ h]
  · rfl

/-- A write of a field at an index that it does not have leaves everything as it was. -/
theorem State.wr_of_not_has {f : Fld} {i : Nat} (v : Nat) (h : f.has i = false) : s.wr f i v = s := by
  simp [State.wr, h]

end
end Sys2Proof.Machine
end

