-- ==== Sys2Proof/Laws/OffBase.lean ====
section
/-! SUPPORT. What an operation of the device reaches. Each piece of the state and each register field that some operation
writes has a number; a mask is the set of the numbers that an operation may reach. Each later file of this folder proves,
once for each operation of one file of Machine/, that whatever lies outside its mask stays as it was. -/
namespace Sys2Proof.Machine
open Sys2Proof

/-- The number of a memory. -/
def Region.no : Region → Nat
  | .taps => 0 | .loops => 1 | .tables => 2 | .vecs => 3 | .laneCap => 4 | .loopCap => 5

/-- A field that exists at no index: the value of `fldNo` outside the numbers of the fields. -/
def noFld : Fld := ⟨0, 0, 0, 0, fun _ => 0, 0, 1, 0⟩

def fldTab0 : List Fld := [PG_INT_STAT, PG_ERR, FC_FF_SEQ_HI, FC_FF_SEQ_LO, PB_DISP_CNT, PB_DROP_APRON, PB_DROP_STAGE, PB_WAIT_CNT, PB_DROP_FULL, PB_DROP_RL, RING_DROP_CNT, COEX_STAT_REQ_OUT, STM_CAP_STAT, CUR_CAUSE_LIFTING, CUR_STAT_LIFTING, STM_SNAP_MISS]
def fldTab1 : List Fld := [CUR_CAUSE_LATCH, CUR_CAUSE_DONOR, CUR_CAUSE_EMISSION, CUR_CAUSE_HOST, CUR_CAUSE_NR, CUR_CAUSE_OSC, CUR_CAUSE_OTHER, CUR_CAUSE_OVERDRIVE, CUR_CAUSE_STATE, CUR_CAUSE_THERM, CUR_CAUSE_TXTO, TWT_STAT_ALERT, PROT_LANE_STAT_BACKOFF, CUR_STAT_DOWN, CUR_EPI_CNT, RFC_PORT_STAT_STATE]
def fldTab2 : List Fld := [TIME_OSC, COEX_STAT_PENDING, TIME_STAT_SRC_ACT, TIME_HOLD_STAT_E, TIME_HOLD_STAT_T, TIME_STAT_STATE, TIME_STAT_VALID, SPT_STUCK_ANY, SPT_STUCK_CTX, MEAS_LANE_STAT_LEARNING, MEAS_LANE_STAT_MEASURING, SPT_LANE_STAT_GATING, SPT_LANE_STAT_LEARNING, SPT_LANE_STAT_MEASURING, RFC_PORT_STAT_BUSY, RFC_PORT_STAT_RESULT]
def fldTab3 : List Fld := [CNX_ISO_FLOOR, CNX_ISO_ISO, CNX_ISO_RETAINED, CNX_XC, LANE_LAT, CNX_STX_CFG_EN, LANE_STAT_SUSPECT, PROT_LANE_STAT_PRESENT, CNX_STX_STAT_ACTIVE, MEAS_LANE_STAT_ERR, MEAS_LOAD, SPT_LANE_STAT_ERR, SPT_LOAD, TIME_STAT_NO_SRC, MEAS_LANE_STAT_ARMED, SPT_LANE_STAT_ARMED]
def fldTab4 : List Fld := [MEAS_LANE_CFG_EN, RSM_STAT, SPT_LANE_CFG_EN, TIME_DET_STAT_STATE, TIME_STAT_SERVING, TIME_STAT_US_READY, CNX_PATH_STAT_ISO_VALID, LANE_CFG_EN, LANE_STAT_ACTIVE, CNX_LOAD, CNX_PATH_EST_ISO, CNX_PATH_EST_XC, TIME_DET_CFG_EN, CNX_PATH_CFG_EN, CNX_PATH_STAT_ACTIVE, SLN_STAT_BUSY]
def fldTab5 : List Fld := [TWC_CLEAR_CNT, LEDG_MIG_STAT_BUSY, LEDG_MIG_STAT_PHASE, LANE_GAIN_CLAMPED, LEDG_MIG_CNT_ABORTED, LEDG_MIG_CNT_DONE, TWC_POLL_RES_FAIL, TWC_REG_STAT_RESULT, TWC_CMD_STAT_BUSY, TWC_CMD_STAT_BYTES, TWC_CMD_STAT_RESULT, TWC_DATA, TWC_FAIL_CNT, TWC_REG_STAT_FAILS, TWC_STAT_BUSY, TWC_XFER_CNT]
def fldTab6 : List Fld := [SYS_STATE_PENDING, IC_WAKE, MEAS_LANE_STAT_ACTIVE_NOW, SPT_LANE_STAT_OPEN_NOW, SYN_STAT_STATE_A, SYN_STAT_STATE_B, SYS_STATE_DEV_STATE, CONVRX_STAT_CAL_DONE, CONVTX_STAT_CAL_DONE, LANE_GAIN_LIMIT, CNX_PATH_STAT_EST_RESET, CNX_CEIL_CEIL, CNX_CEIL_RISING, CNX_CEIL_TARGET, SYS_STATE_IN_TRANSITION, LANE_STAT_SUSPECT_STICKY]
def fldTab7 : List Fld := [PROT_LANE_STAT_CAP, SYN_CAL_CNT_A, SYN_CAL_CNT_B, SYN_STAT_ERR_A, SYN_STAT_ERR_B, RING_STAT_STATE, LANE_GAIN_APPLIED, LANE_SAT_CNT, STM_FMT_STAT_BUSY, STM_FMT_STAT_DONE, DMA_Q_STAT_SIG, LANE_STAT_ERR_CODE, STM_FMT_STAT_ERR, LANE_DEC_D, LANE_DEC_I, PB_RD_STAT_DONE]
def fldTab8 : List Fld := [PWM_DUTY, RSM_RATIO_HI, RSM_RATIO_LO, BDAC_CODE_OUT, CTE_CAP_STAT_INJ_ACTIVE, ATTN_STAT_BUSY, CNX_PATH_STAT_FLOOR, CNX_STX_STAT_ARC, CNX_STX_STAT_ERR, CONVTX_CLIP_CNT, DMA_Q_HEAD, ATTN_STAT_PENDING, CTE_LOAD, FC_FF_SRC_VALID, BDAC_CFG_OWNED, PWM_CFG_OWNED]
def fldTab9 : List Fld := [RING_STAT_BREAK_POS, RING_STAT_BREAK_VALID, TWC_REG_DROP_CNT, CTE_IGNWR_CNT, FAB_VREQ_MV, FAB_VREQ_SRC, FC_STATUS_HI, FC_STATUS_LO, IC_BADCMP_CNT, IC_TGT_CFG_ASLEEP, CNX_PATH_STAT_ERR, CNX_STX_CFG_DIR, CNX_STX_CFG_HOPS, RING_PORT_STAT_STATE, RING_STAT_DN_UP, RING_STAT_UP_UP]
def fldTab10 : List Fld := [DMA_Q_STAT_STATE, LEDG_AUDIT_ANY, LEDG_AUDIT_LANE, BOOT_STAT_KIND, CNX_SRX_STAT_ACTIVE, CONVRX_OVR_CNT, DMA_CQ_TAIL_PHASE, DMA_CQ_TAIL_TAIL, HIF_PM_ASLEEP_NOW, HK_STAT_HELD, SPT_LANE_CFG_GATE, FC_REC_CNT, FC_SEV_REC_CNT, RING_PORT_STAT_RX_LOCK, TDD_STAT_PENDING, TWC_POLL_RES_VALID]
def fldTab11 : List Fld := [ATTN_DATA, HK_DISC_CNT, LEDG_MIG_STAT_READY, SYS_REJ_CNT, TWC_POLL_RES_RAW, TWC_REG_STAT_MV, CNX_PATH_CFG_SRC, CNX_SRX_STAT_LOST, CNX_STX_CFG_LANE, CTE_CAP_STAT_DONE, CTE_CAP_STAT_TRIGGERED, DMA_CQ_HEAD, LEDG_MIG_STAT_DUP, RING_PORT_STAT_TX_OK, TDD_STAT_CANCELLED, TWC_STAT_LAST]
def fldTab12 : List Fld := [BDAC_CODE_CODE, CNX_SRX_STAT_CURTAIN, CONVRX_CFG_EN, CONVTX_CFG_EN, CUR_STAT_LATCHED, DMA_Q_TAIL, LANE_CFG_RATE, LANE_CFG_RX_PORT, LANE_CFG_TDD, LANE_CFG_TX_EN, LANE_CFG_TX_PORT, LEDG_MIG_GAP, LEDG_MIG_STAT_ERR, LEDG_MIG_STAT_ROLE, LEDG_MIG_WARM, LEDG_SNAP_DONE]
def fldTab13 : List Fld := [LEDG_S_DISABLE, LEDG_S_DISC_HI, LEDG_S_DISC_LO, LEDG_S_HELD, LEDG_S_HMAX, LEDG_S_IN_HI, LEDG_S_IN_LO, LEDG_S_LATE, LEDG_S_OUT_HI, LEDG_S_OUT_LO, LEDG_S_SAMPLE_HI, LEDG_S_SAMPLE_LO, LEDG_S_WINGS, MEAS_SNAP_DATA, MEAS_SNAP_DONE, SMEM_CMD_STAT_DONE]
def fldTab14 : List Fld := [SMEM_CMD_STAT_RESULT, SMEM_ERR_CNT, SPT_SNAP_DATA, SPT_SNAP_DONE, TWT_STAT_IN_FULL, TWT_STAT_OUT_FULL, CONVRX_CFG_BGCAL_EN, CONVRX_CFG_SIDE, CONVTX_CFG_BACKOFF, CONVTX_CFG_BGCAL_EN, CONVTX_CFG_MODE, CONVTX_CFG_SIDE, CONVTX_CFG_SINC_EQ, DMA_Q_CFG_EN, DMA_Q_CFG_MOD_CNT, DMA_Q_CFG_MOD_TIME]
def fldTab15 : List Fld := [MEAS_LANE_CFG_FIRST, MEAS_LANE_CFG_RES, PB_VFY_DONE_CNT, PB_VFY_STAT_BUSY, PB_VFY_STAT_DONE, PB_VFY_STAT_FAIL, RFC_PORT_CFG_COEX, RFC_PORT_CFG_FDD_POS, RFC_PORT_CFG_PROBE_EN, RFC_PORT_CFG_RX_PROT, RFC_PORT_CFG_TARGET, SEC_STAT_BUSY, SEC_STAT_RESULT, SMEM_CMD_STAT_BUSY, SPT_LANE_CFG_FIRST, SPT_LANE_CFG_RES]
def fldTab16 : List Fld := [THM_MAX, TIME_STAT_US_IGNORED, CHF_SEL, CNX_PATH_CFG_AUTO, CNX_PATH_CFG_DENSE, CNX_PATH_CFG_FREEZE, CNX_PATH_CFG_PROBE_ADAPT, CNX_PATH_CFG_REMOTE, CNX_PATH_CFG_SPARE, CNX_PATH_CFG_SPARSE, CNX_PATH_CFG_STEP, CNX_PATH_CFG_UPD, CNX_STX_CFG_SHIFT, CUR_HOST_ALL, CUR_HOST_SHUT, CUR_REJ_CNT]
def fldTab17 : List Fld := [FC_REJ_CNT, HIF_PM_SLEEP, PWM_IGNWR_CNT, TIME_FRAME, TIME_TOD_FRAC, TIME_TOD_SEC, TIME_UTC_SEC, CHF_ROM_PTR_INDEX, CHF_ROM_PTR_TAP, CNX_CEIL_RISE, CNX_MARGIN, CNX_SRX_CFG_EN, CNX_SRX_CFG_SRC_DEV, CNX_SRX_CFG_SRC_SLOT, CNX_TAP_ALLOC, CNX_TAP_FREE]
def fldTab18 : List Fld := [CTE_CAP_CFG_DECIM, CTE_CAP_CFG_EN, CTE_CAP_CFG_PRE, FC_SEV_QSEL, FC_SEV_SCOPE, FC_SEV_SEV, IC_CNT_ASSERT, IC_CNT_CLAIM, IC_CNT_PTR, IC_CNT_STAT_ACTIVE, IC_CNT_STAT_PENDING, IC_CNT_STAT_VALID, IC_SRC_CLASS, IC_SRC_EN, IC_SRC_TARGETS, IC_TGT_CFG_DELIV]
def fldTab19 : List Fld := [IC_TGT_CFG_MASK, LANE_RX_FTW_HI, LANE_RX_FTW_LO, LANE_RX_PHASE, LANE_TX_FTW_HI, LANE_TX_FTW_LO, LANE_TX_PHASE, LEDG_CLR_LANE, LEDG_SNAP_LANE, MEAS_SNAP_CTX, PB_CFG_COMPAT, PB_CFG_RL_MAX, PB_CFG_RL_WIN, SEC_KEY, SLN_CTL_HOLD, SLN_CTL_PATH]
def fldTab20 : List Fld := [SMEM_CMD_ADDR, SMEM_CMD_DUMMY, SMEM_CMD_OPCODE, SMEM_CMD_POLL, SMEM_CMD_QUAD, SMEM_CMD_WREN, SMEM_CMD_WRITE, SPT_SNAP_CTX, STM_CAP_CFG_ARM, STM_CAP_CFG_HOLDOFF, STM_CAP_CFG_POINT, STM_CAP_CFG_PRE, STM_CAP_CFG_SEV_MIN, STM_CAP_CFG_TRIG, TDD_CTL_FRAME, TDD_CTL_PAT]
def fldTab21 : List Fld := [TDD_STAT_ERR, TIME_DET_CFG_LANE, TIME_DET_CFG_PCI, TIME_DET_CFG_TYPE, TIME_DET_STAT_ERR, TWC_CMD_ADDR, TWC_CMD_PEC, TWC_CMD_RLEN, TWC_CMD_WLEN, ATTN_CFG_DIV, ATTN_CFG_LATCH, ATTN_CFG_LEN, ATTN_CFG_LSB_FIRST, ATTN_CFG_OWNER, ATTN_CFG_PORTS, BDAC_CFG_SAFE]
def fldTab22 : List Fld := [BDAC_CFG_STEP, BOOT_CFG, COEX_CFG_IN_POL, COEX_CFG_OUT_MODE, COEX_CFG_PRI_POL, CTE_INJ_CFG_LOOP, CTE_INJ_CFG_POINT, CTE_INJ_CFG_SHAPE, CTE_INJ_LEN, FAB_CFG_FAULT, FAB_CFG_GUARD, FAB_CFG_HOLDOFF, FAB_IGNWR_CNT, FAB_VLIM_VMAX, FAB_VLIM_VMIN, FAB_VREQ_HOST_EN]
def fldTab23 : List Fld := [FAB_VREQ_HOST_MV, HIF_CFG_MAX_GT, HIF_CFG_RO_EN, HIF_CFG_TUN_TO, HK_CFG_EN, HK_CFG_FILT, HK_CFG_LP, HK_SCAN_MASK, HK_TIMER, HK_TRIG_DELAY, HK_TRIG_PWM_CH, HK_TRIG_PWM_EDGE, HK_TRIG_PWM_EN, HK_TRIG_TIMER_EN, LEDG_MIG_CFG_DST, LEDG_MIG_CFG_DST_DEV]
def fldTab24 : List Fld := [LEDG_MIG_CFG_REMOTE, LEDG_MIG_CFG_SRC, LEDG_MIG_CFG_TAIL, MEAS_LANE_MAP_BASE, MEAS_LANE_MAP_COUNT, PWM_CFG_EN, PWM_CFG_POL, PWM_CFG_PRESC, PWM_CFG_SHUT_DUTY, PWM_CFG_SHUT_EN, PWM_PER, RING_CTL_RST_ALL, RING_CTL_RST_DEV, RSM_DELAY, SMEM_CFG_DIV, SMEM_CFG_LOCK]
def fldTab25 : List Fld := [SPT_LANE_MAP_BASE, SPT_LANE_MAP_COUNT, STM_HIST_CFG_EN, STM_HIST_CFG_INTERVAL, STM_IF_MAX_MTS, STM_LIMITS_RD_LIM, STM_LIMITS_WL_DELTA, STM_SCRUB_CFG_DAYS, STM_SCRUB_CFG_REFRESH, TDD_WR_CNT, TIME_CFG_REF_SHARED, TIME_CFG_REVERT, TIME_CFG_ROLE, TIME_CFG_SRC, TIME_HOLD_BUDGET, TIME_HOLD_OSC_FERR]
def fldTab26 : List Fld := [TIME_LOOP_BW, TIME_LOOP_LOSS, TIME_LOOP_SLEW_MAX, TIME_LOOP_STEP_LIM, TIME_PPSI_COMP, TIME_PPSI_MODE, TWC_CFG_EN, TWC_CFG_STRETCH, TWC_POLL_A_ADDR, TWC_POLL_A_BE, TWC_POLL_A_CMD, TWC_POLL_A_EN, TWC_POLL_A_LEN, TWC_POLL_A_PEC, TWC_POLL_A_SHIFT, TWC_POLL_A_SIGNED]
def fldTab27 : List Fld := [TWC_REG_CFG_ADDR, TWC_REG_CFG_BE, TWC_REG_CFG_CMD, TWC_REG_CFG_EN, TWC_REG_CFG_LEN, TWC_REG_CFG_PEC, TWC_TIME_A_HIGH, TWC_TIME_A_LOW, TWC_TIME_B, TWT_CFG_IDLE_S, TWT_CFG_SLEEP_EN, TWT_MBOX_OUT, CNX_TAPWR_CNT, DMA_CQ_BASE_HI, DMA_CQ_BASE_LO, DMA_Q_BASE_HI]
def fldTab28 : List Fld := [DMA_Q_BASE_LO, MEAS_CTXWR_CNT, SPT_CTXWR_CNT, TDD_DLOFS, TDD_ENT_DIR, TDD_ENT_START, TDD_PER, TDD_ULOFS, THM_CFG_HYST, THM_CFG_THR_EN, IC_SPUR_CNT, PG_ERR_MASK, PG_INT_EN, STM_HIST_HEAD, STM_HIST_HOFS, STM_HIST_TAIL]
def fldTab29 : List Fld := [STM_HIST_TOFS, STM_SNAP_HEAD, STM_SNAP_HOFS, STM_SNAP_TAIL, STM_SNAP_TOFS, BOOT_STAT_PHASE, STM_REFRESH_CNT, STM_SCRUB_AGE, STM_WEAR_N_MAX, STM_WEAR_N_MEAN, STM_WEAR_S_MAX, STM_WEAR_S_MEAN, BOOT_STAT_RECORDS, PB_RD_DATA, PB_RD_STAT_OPEN, PB_RD_STAT_WHERE]
def fldTab30 : List Fld := [STM_RD_DIST_CNT, STM_SCRUB_STAT_PASSES, STM_SCRUB_STAT_PROGRESS, TIME_STEP_CNT, RING_MAP_STATE, CONVTX_STAT_CLIP_NOW, RING_FAULTN_HI, RING_FAULTN_LO, TIME_STAT_RAIL, TIME_STAT_REF_DEV, RING_REPLAY_CNT, TWT_STAT_BUSY, BOOT_STAT_A_VALID, BOOT_STAT_B_VALID, BOOT_STAT_CHECKED, CONVTX_STAT_CLIP_STICKY]
def fldTab31 : List Fld := [TIME_ERR_FOFS, TIME_ERR_PHASE, BOOT_ERR_CODE, BOOT_ERR_COPY, BOOT_ERR_OFFSET, COEX_STAT_GNT_OUT, FAB_STAT_VGUARD, HK_STAT_SLOW, PROT_EM_LIM_PWR, SEC_AUTH_FAIL_CNT, STM_PART_H, STM_PART_S, THM_STAT_COOLING, THM_STAT_SHUT, TIME_STAT_DEGRADED, TWT_NACK_CNT]
def fldTab32 : List Fld := [TWT_STAT_ASLEEP, COEX_DENY_CNT, CONVRX_STAT_CAL_FAIL, CONVTX_STAT_CAL_FAIL, RING_STAT_SIZE, ATTN_STAT_SENT, BOOT_STAT_ABORTED, DMA_Q_DONE_CNT, DMA_Q_ERR_CNT, DMA_Q_STAT_ERR_SEEN, DMA_Q_STAT_LAST_ERR, FAB_GUARD_CNT, HK_RES_VALID, HK_STAT_BUSY, HK_STAT_SCAN_CNT, RFC_PORT_TXTO_CNT]
def fldTab33 : List Fld := [RING_ABS_WR_CNT, RING_REROUTE_CNT, RING_WDISC_CNT, STM_SPARE, STM_STAT_SPARE_LOW, TWT_STAT_PTR, CHF_ECC_CNT, COEX_WDRAW_CNT, CONVRX_STAT_OVR_NOW, CTE_CAP_STAT_TRIG_IDX, HIF_LINK_SPEED, HIF_LINK_UP, HIF_LINK_WIDTH, HIF_PM_D3, PB_VAULT_PF_CNT, RING_STAT_POS]
def fldTab34 : List Fld := [STM_PART_P16, STM_STAT_MEDIUM, STM_STAT_MIRROR, STM_STAT_SINGLE, SYS_SUPPLY_CNT, SYS_SUPPLY_OVER_NOW, SYS_SUPPLY_UNDER_NOW, THM_SHUT_CNT, THM_STAT_STEP, THM_STEP_CNT, TWT_XFER_CNT, BOOT_SEQ, BOOT_STAT_AUTH, BOOT_STAT_COPY, CNX_DIV_CNT, CNX_SRX_STAT_LAT]
def fldTab35 : List Fld := [CNX_STX_SAT_CNT, FC_FF_CAUSE, FC_FF_MERGE_CO_EPOCH, FC_FF_MERGE_MERGE, FC_FF_SRC_FORCED, FC_FF_SRC_MAX_MERGED, FC_FF_SRC_SEV, FC_FF_SRC_SOURCE, FC_FF_TICK_HI, FC_FF_TICK_LO, FC_SEV_LAST, HK_OVR_CNT, HK_OVR_STICKY, HK_RES_CNT, HK_RES_LATE, HK_RES_OVR]
def fldTab36 : List Fld := [HK_RES_SLOW, HK_RES_SUSPECT, HK_RES_VALUE, LANE_STAT_SAT_STICKY, MEAS_LANE_PWR_FLR, MEAS_LANE_PWR_PWR, PROT_LANE_NR_DN, PROT_LANE_NR_NC_AVG, RING_MAP_ID, RING_MAP_VALID, RING_MAP_VERSION, RING_MAP_VERTEX, SLN_STAT_CUR_PATH, SPT_LANE_NC_NC, SPT_LANE_NC_UNC, STM_ECC_UNC]
def fldTab37 : List Fld := [STM_HIST_DROP, STM_UNC_PART, STM_UNC_UNIT, THM_STAT_BLIND, THM_STAT_HOT_SENS, THM_STAT_T_HOT, TIME_RING, TIME_US_DELTA, BOOT_TIME, CHF_UNC_INDEX, CHF_UNC_VALID, CNX_ECC_CNT, CNX_SRX_LOST_CNT, COEX_GRANT_CNT, CONVRX_BGCAL_CYCLES, CONVRX_STAT_OVR_STICKY]
def fldTab38 : List Fld := [CONVTX_BGCAL_CYCLES, CTE_ECC_CNT, CTE_OVR_CNT, FAB_STAT_LOW_ISL, FAB_STAT_LOW_SLACK, FAB_STAT_SLACK_LOW, FAB_WLOSS_CNT, HIF_BADACC_ADDR_OFFSET, HIF_BADACC_ADDR_WIN, HIF_BADACC_CNT, HIF_CORR_CNT, HIF_LINKDN_CNT, HIF_LINK_STRAP_W, HIF_TUN_TO_CNT, HIF_UNCORR_CNT, HK_LATE_CNT]
def fldTab39 : List Fld := [HK_STAT_LATE, MEAS_ECC_CNT, PB_VFY_BAD_HI, PB_VFY_BAD_LO, PWM_STAT_MISMATCH, RING_CEN_CNT, RING_CEN_FAIL_CNT, RING_PORT_CRC_CNT, RING_PORT_HDR_CNT, RING_PORT_SKEW, RING_PORT_TRAIN_CNT, RING_PRES_HI, RING_PRES_LO, RSM_ECC_CNT, RSM_UNC_CHECK, RSM_UNC_LANE]
def fldTab40 : List Fld := [RSM_UNC_PHASE, RSM_UNC_TAP, RSM_UNC_VALID, SEC_STAT_AUTH_REQ, SEC_STAT_CHAIN_KEY, SEC_STAT_IMG_KEY, SLN_STAT_SEARCH_CNT, SMEM_DATA, SMEM_STAT_ADDR4, SMEM_STAT_DIV, SMEM_STAT_MODE, SMEM_STAT_READY, SMEM_STAT_SFDP_OK, SMEM_STAT_SIZE_LOG2, SPT_ECC_CNT, STM_ECC_CORR]
def fldTab41 : List Fld := [STM_ECC_SOFT, STM_GEOM_BPC, STM_GEOM_CE_MASK, STM_GEOM_LUNS, STM_GEOM_PAGE, STM_GEOM_RAW, STM_IF_MTS, STM_RETIRED, STM_STAT_READY, STM_STAT_USABLE, SYN_LOL_CNT_A, SYN_LOL_CNT_B, SYS_GPIO_EDGE_FALL, SYS_GPIO_EDGE_RISE, SYS_STATE_DEV_ID, SYS_STATE_VERTEX]
def fldTab42 : List Fld := [SYS_SUPPLY_NVQ_1V2, SYS_SUPPLY_OVER_STICKY, SYS_SUPPLY_UNDER_STICKY, TDD_STAT_ACT_BANK, TDD_STAT_LOADED, TIME_ARC_DN, TIME_ARC_UP, TIME_DET_STAT_PCI, TIME_DET_STAT_SINR, TIME_OSC_KV, TIME_PPSI_FRAC, TIME_PPSI_SEC, TIME_STAT_CAL_SET, TIME_STAT_REF_CODE, TWC_POLL_SKIP_CNT, TWC_STAT_SDA]
def fldTab43 : List Fld := [TWC_STAT_STUCK, TWT_CFG_ADDR, TWT_MBOX_IN, TWT_ROWR_CNT, TWT_RSACK_CNT, TWT_STUCK_CNT, HIF_WINB_WR_CNT]

/-- The field with a number from 48. -/
def fldNo (n : Nat) : Fld :=
  match n / 16 with
  | 3 => fldTab0.getD (n % 16) noFld
  | 4 => fldTab1.getD (n % 16) noFld
  | 5 => fldTab2.getD (n % 16) noFld
  | 6 => fldTab3.getD (n % 16) noFld
  | 7 => fldTab4.getD (n % 16) noFld
  | 8 => fldTab5.getD (n % 16) noFld
  | 9 => fldTab6.getD (n % 16) noFld
  | 10 => fldTab7.getD (n % 16) noFld
  | 11 => fldTab8.getD (n % 16) noFld
  | 12 => fldTab9.getD (n % 16) noFld
  | 13 => fldTab10.getD (n % 16) noFld
  | 14 => fldTab11.getD (n % 16) noFld
  | 15 => fldTab12.getD (n % 16) noFld
  | 16 => fldTab13.getD (n % 16) noFld
  | 17 => fldTab14.getD (n % 16) noFld
  | 18 => fldTab15.getD (n % 16) noFld
  | 19 => fldTab16.getD (n % 16) noFld
  | 20 => fldTab17.getD (n % 16) noFld
  | 21 => fldTab18.getD (n % 16) noFld
  | 22 => fldTab19.getD (n % 16) noFld
  | 23 => fldTab20.getD (n % 16) noFld
  | 24 => fldTab21.getD (n % 16) noFld
  | 25 => fldTab22.getD (n % 16) noFld
  | 26 => fldTab23.getD (n % 16) noFld
  | 27 => fldTab24.getD (n % 16) noFld
  | 28 => fldTab25.getD (n % 16) noFld
  | 29 => fldTab26.getD (n % 16) noFld
  | 30 => fldTab27.getD (n % 16) noFld
  | 31 => fldTab28.getD (n % 16) noFld
  | 32 => fldTab29.getD (n % 16) noFld
  | 33 => fldTab30.getD (n % 16) noFld
  | 34 => fldTab31.getD (n % 16) noFld
  | 35 => fldTab32.getD (n % 16) noFld
  | 36 => fldTab33.getD (n % 16) noFld
  | 37 => fldTab34.getD (n % 16) noFld
  | 38 => fldTab35.getD (n % 16) noFld
  | 39 => fldTab36.getD (n % 16) noFld
  | 40 => fldTab37.getD (n % 16) noFld
  | 41 => fldTab38.getD (n % 16) noFld
  | 42 => fldTab39.getD (n % 16) noFld
  | 43 => fldTab40.getD (n % 16) noFld
  | 44 => fldTab41.getD (n % 16) noFld
  | 45 => fldTab42.getD (n % 16) noFld
  | 46 => fldTab43.getD (n % 16) noFld
  | _ => noFld

/-- The mask holds the field. -/
def Has (m : Nat) (f : Fld) : Prop := ∃ n, Nat.testBit m n = true ∧ fldNo n = f
/-- The mask holds each field of a list. -/
def HasL (m : Nat) (fs : List Fld) : Prop := ∀ f ∈ fs, Has m f

theorem HasL.nil {m : Nat} : HasL m [] := fun _ h => nomatch h
theorem HasL.cons {m : Nat} {f : Fld} {fs : List Fld} (h : Has m f) (hs : HasL m fs) : HasL m (f :: fs) := fun g hg => by
  rcases List.mem_cons.mp hg with rfl | hg
  · exact h
  · exact hs g hg

theorem Has.ite {m : Nat} {f g : Fld} {c : Prop} [Decidable c] (hf : Has m f) (hg : Has m g) :
    Has m (if c then f else g) := by split <;> assumption
theorem HasL.ite {m : Nat} {f g : List Fld} {c : Prop} [Decidable c] (hf : HasL m f) (hg : HasL m g) :
    HasL m (if c then f else g) := by split <;> assumption

theorem has_PG_INT_STAT {m} (h : Nat.testBit m 48 = true) : Has m PG_INT_STAT := ⟨48, h, rfl⟩
theorem has_PG_ERR {m} (h : Nat.testBit m 49 = true) : Has m PG_ERR := ⟨49, h, rfl⟩
theorem has_FC_FF_SEQ_HI {m} (h : Nat.testBit m 50 = true) : Has m FC_FF_SEQ_HI := ⟨50, h, rfl⟩
theorem has_FC_FF_SEQ_LO {m} (h : Nat.testBit m 51 = true) : Has m FC_FF_SEQ_LO := ⟨51, h, rfl⟩
theorem has_PB_DISP_CNT {m} (h : Nat.testBit m 52 = true) : Has m PB_DISP_CNT := ⟨52, h, rfl⟩
theorem has_PB_DROP_APRON {m} (h : Nat.testBit m 53 = true) : Has m PB_DROP_APRON := ⟨53, h, rfl⟩
theorem has_PB_DROP_STAGE {m} (h : Nat.testBit m 54 = true) : Has m PB_DROP_STAGE := ⟨54, h, rfl⟩
theorem has_PB_WAIT_CNT {m} (h : Nat.testBit m 55 = true) : Has m PB_WAIT_CNT := ⟨55, h, rfl⟩
theorem has_PB_DROP_FULL {m} (h : Nat.testBit m 56 = true) : Has m PB_DROP_FULL := ⟨56, h, rfl⟩
theorem has_PB_DROP_RL {m} (h : Nat.testBit m 57 = true) : Has m PB_DROP_RL := ⟨57, h, rfl⟩
theorem has_RING_DROP_CNT {m} (h : Nat.testBit m 58 = true) : Has m RING_DROP_CNT := ⟨58, h, rfl⟩
theorem has_COEX_STAT_REQ_OUT {m} (h : Nat.testBit m 59 = true) : Has m COEX_STAT_REQ_OUT := ⟨59, h, rfl⟩
theorem has_STM_CAP_STAT {m} (h : Nat.testBit m 60 = true) : Has m STM_CAP_STAT := ⟨60, h, rfl⟩
theorem has_CUR_CAUSE_LIFTING {m} (h : Nat.testBit m 61 = true) : Has m CUR_CAUSE_LIFTING := ⟨61, h, rfl⟩
theorem has_CUR_STAT_LIFTING {m} (h : Nat.testBit m 62 = true) : Has m CUR_STAT_LIFTING := ⟨62, h, rfl⟩
theorem has_STM_SNAP_MISS {m} (h : Nat.testBit m 63 = true) : Has m STM_SNAP_MISS := ⟨63, h, rfl⟩
theorem has_CUR_CAUSE_LATCH {m} (h : Nat.testBit m 64 = true) : Has m CUR_CAUSE_LATCH := ⟨64, h, rfl⟩
theorem has_CUR_CAUSE_DONOR {m} (h : Nat.testBit m 65 = true) : Has m CUR_CAUSE_DONOR := ⟨65, h, rfl⟩
theorem has_CUR_CAUSE_EMISSION {m} (h : Nat.testBit m 66 = true) : Has m CUR_CAUSE_EMISSION := ⟨66, h, rfl⟩
theorem has_CUR_CAUSE_HOST {m} (h : Nat.testBit m 67 = true) : Has m CUR_CAUSE_HOST := ⟨67, h, rfl⟩
theorem has_CUR_CAUSE_NR {m} (h : Nat.testBit m 68 = true) : Has m CUR_CAUSE_NR := ⟨68, h, rfl⟩
theorem has_CUR_CAUSE_OSC {m} (h : Nat.testBit m 69 = true) : Has m CUR_CAUSE_OSC := ⟨69, h, rfl⟩
theorem has_CUR_CAUSE_OTHER {m} (h : Nat.testBit m 70 = true) : Has m CUR_CAUSE_OTHER := ⟨70, h, rfl⟩
theorem has_CUR_CAUSE_OVERDRIVE {m} (h : Nat.testBit m 71 = true) : Has m CUR_CAUSE_OVERDRIVE := ⟨71, h, rfl⟩
theorem has_CUR_CAUSE_STATE {m} (h : Nat.testBit m 72 = true) : Has m CUR_CAUSE_STATE := ⟨72, h, rfl⟩
theorem has_CUR_CAUSE_THERM {m} (h : Nat.testBit m 73 = true) : Has m CUR_CAUSE_THERM := ⟨73, h, rfl⟩
theorem has_CUR_CAUSE_TXTO {m} (h : Nat.testBit m 74 = true) : Has m CUR_CAUSE_TXTO := ⟨74, h, rfl⟩
theorem has_TWT_STAT_ALERT {m} (h : Nat.testBit m 75 = true) : Has m TWT_STAT_ALERT := ⟨75, h, rfl⟩
theorem has_PROT_LANE_STAT_BACKOFF {m} (h : Nat.testBit m 76 = true) : Has m PROT_LANE_STAT_BACKOFF := ⟨76, h, rfl⟩
theorem has_CUR_STAT_DOWN {m} (h : Nat.testBit m 77 = true) : Has m CUR_STAT_DOWN := ⟨77, h, rfl⟩
theorem has_CUR_EPI_CNT {m} (h : Nat.testBit m 78 = true) : Has m CUR_EPI_CNT := ⟨78, h, rfl⟩
theorem has_RFC_PORT_STAT_STATE {m} (h : Nat.testBit m 79 = true) : Has m RFC_PORT_STAT_STATE := ⟨79, h, rfl⟩
theorem has_TIME_OSC {m} (h : Nat.testBit m 80 = true) : Has m TIME_OSC := ⟨80, h, rfl⟩
theorem has_COEX_STAT_PENDING {m} (h : Nat.testBit m 81 = true) : Has m COEX_STAT_PENDING := ⟨81, h, rfl⟩
theorem has_TIME_STAT_SRC_ACT {m} (h : Nat.testBit m 82 = true) : Has m TIME_STAT_SRC_ACT := ⟨82, h, rfl⟩
theorem has_TIME_HOLD_STAT_E {m} (h : Nat.testBit m 83 = true) : Has m TIME_HOLD_STAT_E := ⟨83, h, rfl⟩
theorem has_TIME_HOLD_STAT_T {m} (h : Nat.testBit m 84 = true) : Has m TIME_HOLD_STAT_T := ⟨84, h, rfl⟩
theorem has_TIME_STAT_STATE {m} (h : Nat.testBit m 85 = true) : Has m TIME_STAT_STATE := ⟨85, h, rfl⟩
theorem has_TIME_STAT_VALID {m} (h : Nat.testBit m 86 = true) : Has m TIME_STAT_VALID := ⟨86, h, rfl⟩
theorem has_SPT_STUCK_ANY {m} (h : Nat.testBit m 87 = true) : Has m SPT_STUCK_ANY := ⟨87, h, rfl⟩
theorem has_SPT_STUCK_CTX {m} (h : Nat.testBit m 88 = true) : Has m SPT_STUCK_CTX := ⟨88, h, rfl⟩
theorem has_MEAS_LANE_STAT_LEARNING {m} (h : Nat.testBit m 89 = true) : Has m MEAS_LANE_STAT_LEARNING := ⟨89, h, rfl⟩
theorem has_MEAS_LANE_STAT_MEASURING {m} (h : Nat.testBit m 90 = true) : Has m MEAS_LANE_STAT_MEASURING := ⟨90, h, rfl⟩
theorem has_SPT_LANE_STAT_GATING {m} (h : Nat.testBit m 91 = true) : Has m SPT_LANE_STAT_GATING := ⟨91, h, rfl⟩
theorem has_SPT_LANE_STAT_LEARNING {m} (h : Nat.testBit m 92 = true) : Has m SPT_LANE_STAT_LEARNING := ⟨92, h, rfl⟩
theorem has_SPT_LANE_STAT_MEASURING {m} (h : Nat.testBit m 93 = true) : Has m SPT_LANE_STAT_MEASURING := ⟨93, h, rfl⟩
theorem has_RFC_PORT_STAT_BUSY {m} (h : Nat.testBit m 94 = true) : Has m RFC_PORT_STAT_BUSY := ⟨94, h, rfl⟩
theorem has_RFC_PORT_STAT_RESULT {m} (h : Nat.testBit m 95 = true) : Has m RFC_PORT_STAT_RESULT := ⟨95, h, rfl⟩
theorem has_CNX_ISO_FLOOR {m} (h : Nat.testBit m 96 = true) : Has m CNX_ISO_FLOOR := ⟨96, h, rfl⟩
theorem has_CNX_ISO_ISO {m} (h : Nat.testBit m 97 = true) : Has m CNX_ISO_ISO := ⟨97, h, rfl⟩
theorem has_CNX_ISO_RETAINED {m} (h : Nat.testBit m 98 = true) : Has m CNX_ISO_RETAINED := ⟨98, h, rfl⟩
theorem has_CNX_XC {m} (h : Nat.testBit m 99 = true) : Has m CNX_XC := ⟨99, h, rfl⟩
theorem has_LANE_LAT {m} (h : Nat.testBit m 100 = true) : Has m LANE_LAT := ⟨100, h, rfl⟩
theorem has_CNX_STX_CFG_EN {m} (h : Nat.testBit m 101 = true) : Has m CNX_STX_CFG_EN := ⟨101, h, rfl⟩
theorem has_LANE_STAT_SUSPECT {m} (h : Nat.testBit m 102 = true) : Has m LANE_STAT_SUSPECT := ⟨102, h, rfl⟩
theorem has_PROT_LANE_STAT_PRESENT {m} (h : Nat.testBit m 103 = true) : Has m PROT_LANE_STAT_PRESENT := ⟨103, h, rfl⟩
theorem has_CNX_STX_STAT_ACTIVE {m} (h : Nat.testBit m 104 = true) : Has m CNX_STX_STAT_ACTIVE := ⟨104, h, rfl⟩
theorem has_MEAS_LANE_STAT_ERR {m} (h : Nat.testBit m 105 = true) : Has m MEAS_LANE_STAT_ERR := ⟨105, h, rfl⟩
theorem has_MEAS_LOAD {m} (h : Nat.testBit m 106 = true) : Has m MEAS_LOAD := ⟨106, h, rfl⟩
theorem has_SPT_LANE_STAT_ERR {m} (h : Nat.testBit m 107 = true) : Has m SPT_LANE_STAT_ERR := ⟨107, h, rfl⟩
theorem has_SPT_LOAD {m} (h : Nat.testBit m 108 = true) : Has m SPT_LOAD := ⟨108, h, rfl⟩
theorem has_TIME_STAT_NO_SRC {m} (h : Nat.testBit m 109 = true) : Has m TIME_STAT_NO_SRC := ⟨109, h, rfl⟩
theorem has_MEAS_LANE_STAT_ARMED {m} (h : Nat.testBit m 110 = true) : Has m MEAS_LANE_STAT_ARMED := ⟨110, h, rfl⟩
theorem has_SPT_LANE_STAT_ARMED {m} (h : Nat.testBit m 111 = true) : Has m SPT_LANE_STAT_ARMED := ⟨111, h, rfl⟩
theorem has_MEAS_LANE_CFG_EN {m} (h : Nat.testBit m 112 = true) : Has m MEAS_LANE_CFG_EN := ⟨112, h, rfl⟩
theorem has_RSM_STAT {m} (h : Nat.testBit m 113 = true) : Has m RSM_STAT := ⟨113, h, rfl⟩
theorem has_SPT_LANE_CFG_EN {m} (h : Nat.testBit m 114 = true) : Has m SPT_LANE_CFG_EN := ⟨114, h, rfl⟩
theorem has_TIME_DET_STAT_STATE {m} (h : Nat.testBit m 115 = true) : Has m TIME_DET_STAT_STATE := ⟨115, h, rfl⟩
theorem has_TIME_STAT_SERVING {m} (h : Nat.testBit m 116 = true) : Has m TIME_STAT_SERVING := ⟨116, h, rfl⟩
theorem has_TIME_STAT_US_READY {m} (h : Nat.testBit m 117 = true) : Has m TIME_STAT_US_READY := ⟨117, h, rfl⟩
theorem has_CNX_PATH_STAT_ISO_VALID {m} (h : Nat.testBit m 118 = true) : Has m CNX_PATH_STAT_ISO_VALID := ⟨118, h, rfl⟩
theorem has_LANE_CFG_EN {m} (h : Nat.testBit m 119 = true) : Has m LANE_CFG_EN := ⟨119, h, rfl⟩
theorem has_LANE_STAT_ACTIVE {m} (h : Nat.testBit m 120 = true) : Has m LANE_STAT_ACTIVE := ⟨120, h, rfl⟩
theorem has_CNX_LOAD {m} (h : Nat.testBit m 121 = true) : Has m CNX_LOAD := ⟨121, h, rfl⟩
theorem has_CNX_PATH_EST_ISO {m} (h : Nat.testBit m 122 = true) : Has m CNX_PATH_EST_ISO := ⟨122, h, rfl⟩
theorem has_CNX_PATH_EST_XC {m} (h : Nat.testBit m 123 = true) : Has m CNX_PATH_EST_XC := ⟨123, h, rfl⟩
theorem has_TIME_DET_CFG_EN {m} (h : Nat.testBit m 124 = true) : Has m TIME_DET_CFG_EN := ⟨124, h, rfl⟩
theorem has_CNX_PATH_CFG_EN {m} (h : Nat.testBit m 125 = true) : Has m CNX_PATH_CFG_EN := ⟨125, h, rfl⟩
theorem has_CNX_PATH_STAT_ACTIVE {m} (h : Nat.testBit m 126 = true) : Has m CNX_PATH_STAT_ACTIVE := ⟨126, h, rfl⟩
theorem has_SLN_STAT_BUSY {m} (h : Nat.testBit m 127 = true) : Has m SLN_STAT_BUSY := ⟨127, h, rfl⟩
theorem has_TWC_CLEAR_CNT {m} (h : Nat.testBit m 128 = true) : Has m TWC_CLEAR_CNT := ⟨128, h, rfl⟩
theorem has_LEDG_MIG_STAT_BUSY {m} (h : Nat.testBit m 129 = true) : Has m LEDG_MIG_STAT_BUSY := ⟨129, h, rfl⟩
theorem has_LEDG_MIG_STAT_PHASE {m} (h : Nat.testBit m 130 = true) : Has m LEDG_MIG_STAT_PHASE := ⟨130, h, rfl⟩
theorem has_LANE_GAIN_CLAMPED {m} (h : Nat.testBit m 131 = true) : Has m LANE_GAIN_CLAMPED := ⟨131, h, rfl⟩
theorem has_LEDG_MIG_CNT_ABORTED {m} (h : Nat.testBit m 132 = true) : Has m LEDG_MIG_CNT_ABORTED := ⟨132, h, rfl⟩
theorem has_LEDG_MIG_CNT_DONE {m} (h : Nat.testBit m 133 = true) : Has m LEDG_MIG_CNT_DONE := ⟨133, h, rfl⟩
theorem has_TWC_POLL_RES_FAIL {m} (h : Nat.testBit m 134 = true) : Has m TWC_POLL_RES_FAIL := ⟨134, h, rfl⟩
theorem has_TWC_REG_STAT_RESULT {m} (h : Nat.testBit m 135 = true) : Has m TWC_REG_STAT_RESULT := ⟨135, h, rfl⟩
theorem has_TWC_CMD_STAT_BUSY {m} (h : Nat.testBit m 136 = true) : Has m TWC_CMD_STAT_BUSY := ⟨136, h, rfl⟩
theorem has_TWC_CMD_STAT_BYTES {m} (h : Nat.testBit m 137 = true) : Has m TWC_CMD_STAT_BYTES := ⟨137, h, rfl⟩
theorem has_TWC_CMD_STAT_RESULT {m} (h : Nat.testBit m 138 = true) : Has m TWC_CMD_STAT_RESULT := ⟨138, h, rfl⟩
theorem has_TWC_DATA {m} (h : Nat.testBit m 139 = true) : Has m TWC_DATA := ⟨139, h, rfl⟩
theorem has_TWC_FAIL_CNT {m} (h : Nat.testBit m 140 = true) : Has m TWC_FAIL_CNT := ⟨140, h, rfl⟩
theorem has_TWC_REG_STAT_FAILS {m} (h : Nat.testBit m 141 = true) : Has m TWC_REG_STAT_FAILS := ⟨141, h, rfl⟩
theorem has_TWC_STAT_BUSY {m} (h : Nat.testBit m 142 = true) : Has m TWC_STAT_BUSY := ⟨142, h, rfl⟩
theorem has_TWC_XFER_CNT {m} (h : Nat.testBit m 143 = true) : Has m TWC_XFER_CNT := ⟨143, h, rfl⟩
theorem has_SYS_STATE_PENDING {m} (h : Nat.testBit m 144 = true) : Has m SYS_STATE_PENDING := ⟨144, h, rfl⟩
theorem has_IC_WAKE {m} (h : Nat.testBit m 145 = true) : Has m IC_WAKE := ⟨145, h, rfl⟩
theorem has_MEAS_LANE_STAT_ACTIVE_NOW {m} (h : Nat.testBit m 146 = true) : Has m MEAS_LANE_STAT_ACTIVE_NOW := ⟨146, h, rfl⟩
theorem has_SPT_LANE_STAT_OPEN_NOW {m} (h : Nat.testBit m 147 = true) : Has m SPT_LANE_STAT_OPEN_NOW := ⟨147, h, rfl⟩
theorem has_SYN_STAT_STATE_A {m} (h : Nat.testBit m 148 = true) : Has m SYN_STAT_STATE_A := ⟨148, h, rfl⟩
theorem has_SYN_STAT_STATE_B {m} (h : Nat.testBit m 149 = true) : Has m SYN_STAT_STATE_B := ⟨149, h, rfl⟩
theorem has_SYS_STATE_DEV_STATE {m} (h : Nat.testBit m 150 = true) : Has m SYS_STATE_DEV_STATE := ⟨150, h, rfl⟩
theorem has_CONVRX_STAT_CAL_DONE {m} (h : Nat.testBit m 151 = true) : Has m CONVRX_STAT_CAL_DONE := ⟨151, h, rfl⟩
theorem has_CONVTX_STAT_CAL_DONE {m} (h : Nat.testBit m 152 = true) : Has m CONVTX_STAT_CAL_DONE := ⟨152, h, rfl⟩
theorem has_LANE_GAIN_LIMIT {m} (h : Nat.testBit m 153 = true) : Has m LANE_GAIN_LIMIT := ⟨153, h, rfl⟩
theorem has_CNX_PATH_STAT_EST_RESET {m} (h : Nat.testBit m 154 = true) : Has m CNX_PATH_STAT_EST_RESET := ⟨154, h, rfl⟩
theorem has_CNX_CEIL_CEIL {m} (h : Nat.testBit m 155 = true) : Has m CNX_CEIL_CEIL := ⟨155, h, rfl⟩
theorem has_CNX_CEIL_RISING {m} (h : Nat.testBit m 156 = true) : Has m CNX_CEIL_RISING := ⟨156, h, rfl⟩
theorem has_CNX_CEIL_TARGET {m} (h : Nat.testBit m 157 = true) : Has m CNX_CEIL_TARGET := ⟨157, h, rfl⟩
theorem has_SYS_STATE_IN_TRANSITION {m} (h : Nat.testBit m 158 = true) : Has m SYS_STATE_IN_TRANSITION := ⟨158, h, rfl⟩
theorem has_LANE_STAT_SUSPECT_STICKY {m} (h : Nat.testBit m 159 = true) : Has m LANE_STAT_SUSPECT_STICKY := ⟨159, h, rfl⟩
theorem has_PROT_LANE_STAT_CAP {m} (h : Nat.testBit m 160 = true) : Has m PROT_LANE_STAT_CAP := ⟨160, h, rfl⟩
theorem has_SYN_CAL_CNT_A {m} (h : Nat.testBit m 161 = true) : Has m SYN_CAL_CNT_A := ⟨161, h, rfl⟩
theorem has_SYN_CAL_CNT_B {m} (h : Nat.testBit m 162 = true) : Has m SYN_CAL_CNT_B := ⟨162, h, rfl⟩
theorem has_SYN_STAT_ERR_A {m} (h : Nat.testBit m 163 = true) : Has m SYN_STAT_ERR_A := ⟨163, h, rfl⟩
theorem has_SYN_STAT_ERR_B {m} (h : Nat.testBit m 164 = true) : Has m SYN_STAT_ERR_B := ⟨164, h, rfl⟩
theorem has_RING_STAT_STATE {m} (h : Nat.testBit m 165 = true) : Has m RING_STAT_STATE := ⟨165, h, rfl⟩
theorem has_LANE_GAIN_APPLIED {m} (h : Nat.testBit m 166 = true) : Has m LANE_GAIN_APPLIED := ⟨166, h, rfl⟩
theorem has_LANE_SAT_CNT {m} (h : Nat.testBit m 167 = true) : Has m LANE_SAT_CNT := ⟨167, h, rfl⟩
theorem has_STM_FMT_STAT_BUSY {m} (h : Nat.testBit m 168 = true) : Has m STM_FMT_STAT_BUSY := ⟨168, h, rfl⟩
theorem has_STM_FMT_STAT_DONE {m} (h : Nat.testBit m 169 = true) : Has m STM_FMT_STAT_DONE := ⟨169, h, rfl⟩
theorem has_DMA_Q_STAT_SIG {m} (h : Nat.testBit m 170 = true) : Has m DMA_Q_STAT_SIG := ⟨170, h, rfl⟩
theorem has_LANE_STAT_ERR_CODE {m} (h : Nat.testBit m 171 = true) : Has m LANE_STAT_ERR_CODE := ⟨171, h, rfl⟩
theorem has_STM_FMT_STAT_ERR {m} (h : Nat.testBit m 172 = true) : Has m STM_FMT_STAT_ERR := ⟨172, h, rfl⟩
theorem has_LANE_DEC_D {m} (h : Nat.testBit m 173 = true) : Has m LANE_DEC_D := ⟨173, h, rfl⟩
theorem has_LANE_DEC_I {m} (h : Nat.testBit m 174 = true) : Has m LANE_DEC_I := ⟨174, h, rfl⟩
theorem has_PB_RD_STAT_DONE {m} (h : Nat.testBit m 175 = true) : Has m PB_RD_STAT_DONE := ⟨175, h, rfl⟩
theorem has_PWM_DUTY {m} (h : Nat.testBit m 176 = true) : Has m PWM_DUTY := ⟨176, h, rfl⟩
theorem has_RSM_RATIO_HI {m} (h : Nat.testBit m 177 = true) : Has m RSM_RATIO_HI := ⟨177, h, rfl⟩
theorem has_RSM_RATIO_LO {m} (h : Nat.testBit m 178 = true) : Has m RSM_RATIO_LO := ⟨178, h, rfl⟩
theorem has_BDAC_CODE_OUT {m} (h : Nat.testBit m 179 = true) : Has m BDAC_CODE_OUT := ⟨179, h, rfl⟩
theorem has_CTE_CAP_STAT_INJ_ACTIVE {m} (h : Nat.testBit m 180 = true) : Has m CTE_CAP_STAT_INJ_ACTIVE := ⟨180, h, rfl⟩
theorem has_ATTN_STAT_BUSY {m} (h : Nat.testBit m 181 = true) : Has m ATTN_STAT_BUSY := ⟨181, h, rfl⟩
theorem has_CNX_PATH_STAT_FLOOR {m} (h : Nat.testBit m 182 = true) : Has m CNX_PATH_STAT_FLOOR := ⟨182, h, rfl⟩
theorem has_CNX_STX_STAT_ARC {m} (h : Nat.testBit m 183 = true) : Has m CNX_STX_STAT_ARC := ⟨183, h, rfl⟩
theorem has_CNX_STX_STAT_ERR {m} (h : Nat.testBit m 184 = true) : Has m CNX_STX_STAT_ERR := ⟨184, h, rfl⟩
theorem has_CONVTX_CLIP_CNT {m} (h : Nat.testBit m 185 = true) : Has m CONVTX_CLIP_CNT := ⟨185, h, rfl⟩
theorem has_DMA_Q_HEAD {m} (h : Nat.testBit m 186 = true) : Has m DMA_Q_HEAD := ⟨186, h, rfl⟩
theorem has_ATTN_STAT_PENDING {m} (h : Nat.testBit m 187 = true) : Has m ATTN_STAT_PENDING := ⟨187, h, rfl⟩
theorem has_CTE_LOAD {m} (h : Nat.testBit m 188 = true) : Has m CTE_LOAD := ⟨188, h, rfl⟩
theorem has_FC_FF_SRC_VALID {m} (h : Nat.testBit m 189 = true) : Has m FC_FF_SRC_VALID := ⟨189, h, rfl⟩
theorem has_BDAC_CFG_OWNED {m} (h : Nat.testBit m 190 = true) : Has m BDAC_CFG_OWNED := ⟨190, h, rfl⟩
theorem has_PWM_CFG_OWNED {m} (h : Nat.testBit m 191 = true) : Has m PWM_CFG_OWNED := ⟨191, h, rfl⟩
theorem has_RING_STAT_BREAK_POS {m} (h : Nat.testBit m 192 = true) : Has m RING_STAT_BREAK_POS := ⟨192, h, rfl⟩
theorem has_RING_STAT_BREAK_VALID {m} (h : Nat.testBit m 193 = true) : Has m RING_STAT_BREAK_VALID := ⟨193, h, rfl⟩
theorem has_TWC_REG_DROP_CNT {m} (h : Nat.testBit m 194 = true) : Has m TWC_REG_DROP_CNT := ⟨194, h, rfl⟩
theorem has_CTE_IGNWR_CNT {m} (h : Nat.testBit m 195 = true) : Has m CTE_IGNWR_CNT := ⟨195, h, rfl⟩
theorem has_FAB_VREQ_MV {m} (h : Nat.testBit m 196 = true) : Has m FAB_VREQ_MV := ⟨196, h, rfl⟩
theorem has_FAB_VREQ_SRC {m} (h : Nat.testBit m 197 = true) : Has m FAB_VREQ_SRC := ⟨197, h, rfl⟩
theorem has_FC_STATUS_HI {m} (h : Nat.testBit m 198 = true) : Has m FC_STATUS_HI := ⟨198, h, rfl⟩
theorem has_FC_STATUS_LO {m} (h : Nat.testBit m 199 = true) : Has m FC_STATUS_LO := ⟨199, h, rfl⟩
theorem has_IC_BADCMP_CNT {m} (h : Nat.testBit m 200 = true) : Has m IC_BADCMP_CNT := ⟨200, h, rfl⟩
theorem has_IC_TGT_CFG_ASLEEP {m} (h : Nat.testBit m 201 = true) : Has m IC_TGT_CFG_ASLEEP := ⟨201, h, rfl⟩
theorem has_CNX_PATH_STAT_ERR {m} (h : Nat.testBit m 202 = true) : Has m CNX_PATH_STAT_ERR := ⟨202, h, rfl⟩
theorem has_CNX_STX_CFG_DIR {m} (h : Nat.testBit m 203 = true) : Has m CNX_STX_CFG_DIR := ⟨203, h, rfl⟩
theorem has_CNX_STX_CFG_HOPS {m} (h : Nat.testBit m 204 = true) : Has m CNX_STX_CFG_HOPS := ⟨204, h, rfl⟩
theorem has_RING_PORT_STAT_STATE {m} (h : Nat.testBit m 205 = true) : Has m RING_PORT_STAT_STATE := ⟨205, h, rfl⟩
theorem has_RING_STAT_DN_UP {m} (h : Nat.testBit m 206 = true) : Has m RING_STAT_DN_UP := ⟨206, h, rfl⟩
theorem has_RING_STAT_UP_UP {m} (h : Nat.testBit m 207 = true) : Has m RING_STAT_UP_UP := ⟨207, h, rfl⟩
theorem has_DMA_Q_STAT_STATE {m} (h : Nat.testBit m 208 = true) : Has m DMA_Q_STAT_STATE := ⟨208, h, rfl⟩
theorem has_LEDG_AUDIT_ANY {m} (h : Nat.testBit m 209 = true) : Has m LEDG_AUDIT_ANY := ⟨209, h, rfl⟩
theorem has_LEDG_AUDIT_LANE {m} (h : Nat.testBit m 210 = true) : Has m LEDG_AUDIT_LANE := ⟨210, h, rfl⟩
theorem has_BOOT_STAT_KIND {m} (h : Nat.testBit m 211 = true) : Has m BOOT_STAT_KIND := ⟨211, h, rfl⟩
theorem has_CNX_SRX_STAT_ACTIVE {m} (h : Nat.testBit m 212 = true) : Has m CNX_SRX_STAT_ACTIVE := ⟨212, h, rfl⟩
theorem has_CONVRX_OVR_CNT {m} (h : Nat.testBit m 213 = true) : Has m CONVRX_OVR_CNT := ⟨213, h, rfl⟩
theorem has_DMA_CQ_TAIL_PHASE {m} (h : Nat.testBit m 214 = true) : Has m DMA_CQ_TAIL_PHASE := ⟨214, h, rfl⟩
theorem has_DMA_CQ_TAIL_TAIL {m} (h : Nat.testBit m 215 = true) : Has m DMA_CQ_TAIL_TAIL := ⟨215, h, rfl⟩
theorem has_HIF_PM_ASLEEP_NOW {m} (h : Nat.testBit m 216 = true) : Has m HIF_PM_ASLEEP_NOW := ⟨216, h, rfl⟩
theorem has_HK_STAT_HELD {m} (h : Nat.testBit m 217 = true) : Has m HK_STAT_HELD := ⟨217, h, rfl⟩
theorem has_SPT_LANE_CFG_GATE {m} (h : Nat.testBit m 218 = true) : Has m SPT_LANE_CFG_GATE := ⟨218, h, rfl⟩
theorem has_FC_REC_CNT {m} (h : Nat.testBit m 219 = true) : Has m FC_REC_CNT := ⟨219, h, rfl⟩
theorem has_FC_SEV_REC_CNT {m} (h : Nat.testBit m 220 = true) : Has m FC_SEV_REC_CNT := ⟨220, h, rfl⟩
theorem has_RING_PORT_STAT_RX_LOCK {m} (h : Nat.testBit m 221 = true) : Has m RING_PORT_STAT_RX_LOCK := ⟨221, h, rfl⟩
theorem has_TDD_STAT_PENDING {m} (h : Nat.testBit m 222 = true) : Has m TDD_STAT_PENDING := ⟨222, h, rfl⟩
theorem has_TWC_POLL_RES_VALID {m} (h : Nat.testBit m 223 = true) : Has m TWC_POLL_RES_VALID := ⟨223, h, rfl⟩
theorem has_ATTN_DATA {m} (h : Nat.testBit m 224 = true) : Has m ATTN_DATA := ⟨224, h, rfl⟩
theorem has_HK_DISC_CNT {m} (h : Nat.testBit m 225 = true) : Has m HK_DISC_CNT := ⟨225, h, rfl⟩
theorem has_LEDG_MIG_STAT_READY {m} (h : Nat.testBit m 226 = true) : Has m LEDG_MIG_STAT_READY := ⟨226, h, rfl⟩
theorem has_SYS_REJ_CNT {m} (h : Nat.testBit m 227 = true) : Has m SYS_REJ_CNT := ⟨227, h, rfl⟩
theorem has_TWC_POLL_RES_RAW {m} (h : Nat.testBit m 228 = true) : Has m TWC_POLL_RES_RAW := ⟨228, h, rfl⟩
theorem has_TWC_REG_STAT_MV {m} (h : Nat.testBit m 229 = true) : Has m TWC_REG_STAT_MV := ⟨229, h, rfl⟩
theorem has_CNX_PATH_CFG_SRC {m} (h : Nat.testBit m 230 = true) : Has m CNX_PATH_CFG_SRC := ⟨230, h, rfl⟩
theorem has_CNX_SRX_STAT_LOST {m} (h : Nat.testBit m 231 = true) : Has m CNX_SRX_STAT_LOST := ⟨231, h, rfl⟩
theorem has_CNX_STX_CFG_LANE {m} (h : Nat.testBit m 232 = true) : Has m CNX_STX_CFG_LANE := ⟨232, h, rfl⟩
theorem has_CTE_CAP_STAT_DONE {m} (h : Nat.testBit m 233 = true) : Has m CTE_CAP_STAT_DONE := ⟨233, h, rfl⟩
theorem has_CTE_CAP_STAT_TRIGGERED {m} (h : Nat.testBit m 234 = true) : Has m CTE_CAP_STAT_TRIGGERED := ⟨234, h, rfl⟩
theorem has_DMA_CQ_HEAD {m} (h : Nat.testBit m 235 = true) : Has m DMA_CQ_HEAD := ⟨235, h, rfl⟩
theorem has_LEDG_MIG_STAT_DUP {m} (h : Nat.testBit m 236 = true) : Has m LEDG_MIG_STAT_DUP := ⟨236, h, rfl⟩
theorem has_RING_PORT_STAT_TX_OK {m} (h : Nat.testBit m 237 = true) : Has m RING_PORT_STAT_TX_OK := ⟨237, h, rfl⟩
theorem has_TDD_STAT_CANCELLED {m} (h : Nat.testBit m 238 = true) : Has m TDD_STAT_CANCELLED := ⟨238, h, rfl⟩
theorem has_TWC_STAT_LAST {m} (h : Nat.testBit m 239 = true) : Has m TWC_STAT_LAST := ⟨239, h, rfl⟩
theorem has_BDAC_CODE_CODE {m} (h : Nat.testBit m 240 = true) : Has m BDAC_CODE_CODE := ⟨240, h, rfl⟩
theorem has_CNX_SRX_STAT_CURTAIN {m} (h : Nat.testBit m 241 = true) : Has m CNX_SRX_STAT_CURTAIN := ⟨241, h, rfl⟩
theorem has_CONVRX_CFG_EN {m} (h : Nat.testBit m 242 = true) : Has m CONVRX_CFG_EN := ⟨242, h, rfl⟩
theorem has_CONVTX_CFG_EN {m} (h : Nat.testBit m 243 = true) : Has m CONVTX_CFG_EN := ⟨243, h, rfl⟩
theorem has_CUR_STAT_LATCHED {m} (h : Nat.testBit m 244 = true) : Has m CUR_STAT_LATCHED := ⟨244, h, rfl⟩
theorem has_DMA_Q_TAIL {m} (h : Nat.testBit m 245 = true) : Has m DMA_Q_TAIL := ⟨245, h, rfl⟩
theorem has_LANE_CFG_RATE {m} (h : Nat.testBit m 246 = true) : Has m LANE_CFG_RATE := ⟨246, h, rfl⟩
theorem has_LANE_CFG_RX_PORT {m} (h : Nat.testBit m 247 = true) : Has m LANE_CFG_RX_PORT := ⟨247, h, rfl⟩
theorem has_LANE_CFG_TDD {m} (h : Nat.testBit m 248 = true) : Has m LANE_CFG_TDD := ⟨248, h, rfl⟩
theorem has_LANE_CFG_TX_EN {m} (h : Nat.testBit m 249 = true) : Has m LANE_CFG_TX_EN := ⟨249, h, rfl⟩
theorem has_LANE_CFG_TX_PORT {m} (h : Nat.testBit m 250 = true) : Has m LANE_CFG_TX_PORT := ⟨250, h, rfl⟩
theorem has_LEDG_MIG_GAP {m} (h : Nat.testBit m 251 = true) : Has m LEDG_MIG_GAP := ⟨251, h, rfl⟩
theorem has_LEDG_MIG_STAT_ERR {m} (h : Nat.testBit m 252 = true) : Has m LEDG_MIG_STAT_ERR := ⟨252, h, rfl⟩
theorem has_LEDG_MIG_STAT_ROLE {m} (h : Nat.testBit m 253 = true) : Has m LEDG_MIG_STAT_ROLE := ⟨253, h, rfl⟩
theorem has_LEDG_MIG_WARM {m} (h : Nat.testBit m 254 = true) : Has m LEDG_MIG_WARM := ⟨254, h, rfl⟩
theorem has_LEDG_SNAP_DONE {m} (h : Nat.testBit m 255 = true) : Has m LEDG_SNAP_DONE := ⟨255, h, rfl⟩
theorem has_LEDG_S_DISABLE {m} (h : Nat.testBit m 256 = true) : Has m LEDG_S_DISABLE := ⟨256, h, rfl⟩
theorem has_LEDG_S_DISC_HI {m} (h : Nat.testBit m 257 = true) : Has m LEDG_S_DISC_HI := ⟨257, h, rfl⟩
theorem has_LEDG_S_DISC_LO {m} (h : Nat.testBit m 258 = true) : Has m LEDG_S_DISC_LO := ⟨258, h, rfl⟩
theorem has_LEDG_S_HELD {m} (h : Nat.testBit m 259 = true) : Has m LEDG_S_HELD := ⟨259, h, rfl⟩
theorem has_LEDG_S_HMAX {m} (h : Nat.testBit m 260 = true) : Has m LEDG_S_HMAX := ⟨260, h, rfl⟩
theorem has_LEDG_S_IN_HI {m} (h : Nat.testBit m 261 = true) : Has m LEDG_S_IN_HI := ⟨261, h, rfl⟩
theorem has_LEDG_S_IN_LO {m} (h : Nat.testBit m 262 = true) : Has m LEDG_S_IN_LO := ⟨262, h, rfl⟩
theorem has_LEDG_S_LATE {m} (h : Nat.testBit m 263 = true) : Has m LEDG_S_LATE := ⟨263, h, rfl⟩
theorem has_LEDG_S_OUT_HI {m} (h : Nat.testBit m 264 = true) : Has m LEDG_S_OUT_HI := ⟨264, h, rfl⟩
theorem has_LEDG_S_OUT_LO {m} (h : Nat.testBit m 265 = true) : Has m LEDG_S_OUT_LO := ⟨265, h, rfl⟩
theorem has_LEDG_S_SAMPLE_HI {m} (h : Nat.testBit m 266 = true) : Has m LEDG_S_SAMPLE_HI := ⟨266, h, rfl⟩
theorem has_LEDG_S_SAMPLE_LO {m} (h : Nat.testBit m 267 = true) : Has m LEDG_S_SAMPLE_LO := ⟨267, h, rfl⟩
theorem has_LEDG_S_WINGS {m} (h : Nat.testBit m 268 = true) : Has m LEDG_S_WINGS := ⟨268, h, rfl⟩
theorem has_MEAS_SNAP_DATA {m} (h : Nat.testBit m 269 = true) : Has m MEAS_SNAP_DATA := ⟨269, h, rfl⟩
theorem has_MEAS_SNAP_DONE {m} (h : Nat.testBit m 270 = true) : Has m MEAS_SNAP_DONE := ⟨270, h, rfl⟩
theorem has_SMEM_CMD_STAT_DONE {m} (h : Nat.testBit m 271 = true) : Has m SMEM_CMD_STAT_DONE := ⟨271, h, rfl⟩
theorem has_SMEM_CMD_STAT_RESULT {m} (h : Nat.testBit m 272 = true) : Has m SMEM_CMD_STAT_RESULT := ⟨272, h, rfl⟩
theorem has_SMEM_ERR_CNT {m} (h : Nat.testBit m 273 = true) : Has m SMEM_ERR_CNT := ⟨273, h, rfl⟩
theorem has_SPT_SNAP_DATA {m} (h : Nat.testBit m 274 = true) : Has m SPT_SNAP_DATA := ⟨274, h, rfl⟩
theorem has_SPT_SNAP_DONE {m} (h : Nat.testBit m 275 = true) : Has m SPT_SNAP_DONE := ⟨275, h, rfl⟩
theorem has_TWT_STAT_IN_FULL {m} (h : Nat.testBit m 276 = true) : Has m TWT_STAT_IN_FULL := ⟨276, h, rfl⟩
theorem has_TWT_STAT_OUT_FULL {m} (h : Nat.testBit m 277 = true) : Has m TWT_STAT_OUT_FULL := ⟨277, h, rfl⟩
theorem has_CONVRX_CFG_BGCAL_EN {m} (h : Nat.testBit m 278 = true) : Has m CONVRX_CFG_BGCAL_EN := ⟨278, h, rfl⟩
theorem has_CONVRX_CFG_SIDE {m} (h : Nat.testBit m 279 = true) : Has m CONVRX_CFG_SIDE := ⟨279, h, rfl⟩
theorem has_CONVTX_CFG_BACKOFF {m} (h : Nat.testBit m 280 = true) : Has m CONVTX_CFG_BACKOFF := ⟨280, h, rfl⟩
theorem has_CONVTX_CFG_BGCAL_EN {m} (h : Nat.testBit m 281 = true) : Has m CONVTX_CFG_BGCAL_EN := ⟨281, h, rfl⟩
theorem has_CONVTX_CFG_MODE {m} (h : Nat.testBit m 282 = true) : Has m CONVTX_CFG_MODE := ⟨282, h, rfl⟩
theorem has_CONVTX_CFG_SIDE {m} (h : Nat.testBit m 283 = true) : Has m CONVTX_CFG_SIDE := ⟨283, h, rfl⟩
theorem has_CONVTX_CFG_SINC_EQ {m} (h : Nat.testBit m 284 = true) : Has m CONVTX_CFG_SINC_EQ := ⟨284, h, rfl⟩
theorem has_DMA_Q_CFG_EN {m} (h : Nat.testBit m 285 = true) : Has m DMA_Q_CFG_EN := ⟨285, h, rfl⟩
theorem has_DMA_Q_CFG_MOD_CNT {m} (h : Nat.testBit m 286 = true) : Has m DMA_Q_CFG_MOD_CNT := ⟨286, h, rfl⟩
theorem has_DMA_Q_CFG_MOD_TIME {m} (h : Nat.testBit m 287 = true) : Has m DMA_Q_CFG_MOD_TIME := ⟨287, h, rfl⟩
theorem has_MEAS_LANE_CFG_FIRST {m} (h : Nat.testBit m 288 = true) : Has m MEAS_LANE_CFG_FIRST := ⟨288, h, rfl⟩
theorem has_MEAS_LANE_CFG_RES {m} (h : Nat.testBit m 289 = true) : Has m MEAS_LANE_CFG_RES := ⟨289, h, rfl⟩
theorem has_PB_VFY_DONE_CNT {m} (h : Nat.testBit m 290 = true) : Has m PB_VFY_DONE_CNT := ⟨290, h, rfl⟩
theorem has_PB_VFY_STAT_BUSY {m} (h : Nat.testBit m 291 = true) : Has m PB_VFY_STAT_BUSY := ⟨291, h, rfl⟩
theorem has_PB_VFY_STAT_DONE {m} (h : Nat.testBit m 292 = true) : Has m PB_VFY_STAT_DONE := ⟨292, h, rfl⟩
theorem has_PB_VFY_STAT_FAIL {m} (h : Nat.testBit m 293 = true) : Has m PB_VFY_STAT_FAIL := ⟨293, h, rfl⟩
theorem has_RFC_PORT_CFG_COEX {m} (h : Nat.testBit m 294 = true) : Has m RFC_PORT_CFG_COEX := ⟨294, h, rfl⟩
theorem has_RFC_PORT_CFG_FDD_POS {m} (h : Nat.testBit m 295 = true) : Has m RFC_PORT_CFG_FDD_POS := ⟨295, h, rfl⟩
theorem has_RFC_PORT_CFG_PROBE_EN {m} (h : Nat.testBit m 296 = true) : Has m RFC_PORT_CFG_PROBE_EN := ⟨296, h, rfl⟩
theorem has_RFC_PORT_CFG_RX_PROT {m} (h : Nat.testBit m 297 = true) : Has m RFC_PORT_CFG_RX_PROT := ⟨297, h, rfl⟩
theorem has_RFC_PORT_CFG_TARGET {m} (h : Nat.testBit m 298 = true) : Has m RFC_PORT_CFG_TARGET := ⟨298, h, rfl⟩
theorem has_SEC_STAT_BUSY {m} (h : Nat.testBit m 299 = true) : Has m SEC_STAT_BUSY := ⟨299, h, rfl⟩
theorem has_SEC_STAT_RESULT {m} (h : Nat.testBit m 300 = true) : Has m SEC_STAT_RESULT := ⟨300, h, rfl⟩
theorem has_SMEM_CMD_STAT_BUSY {m} (h : Nat.testBit m 301 = true) : Has m SMEM_CMD_STAT_BUSY := ⟨301, h, rfl⟩
theorem has_SPT_LANE_CFG_FIRST {m} (h : Nat.testBit m 302 = true) : Has m SPT_LANE_CFG_FIRST := ⟨302, h, rfl⟩
theorem has_SPT_LANE_CFG_RES {m} (h : Nat.testBit m 303 = true) : Has m SPT_LANE_CFG_RES := ⟨303, h, rfl⟩
theorem has_THM_MAX {m} (h : Nat.testBit m 304 = true) : Has m THM_MAX := ⟨304, h, rfl⟩
theorem has_TIME_STAT_US_IGNORED {m} (h : Nat.testBit m 305 = true) : Has m TIME_STAT_US_IGNORED := ⟨305, h, rfl⟩
theorem has_CHF_SEL {m} (h : Nat.testBit m 306 = true) : Has m CHF_SEL := ⟨306, h, rfl⟩
theorem has_CNX_PATH_CFG_AUTO {m} (h : Nat.testBit m 307 = true) : Has m CNX_PATH_CFG_AUTO := ⟨307, h, rfl⟩
theorem has_CNX_PATH_CFG_DENSE {m} (h : Nat.testBit m 308 = true) : Has m CNX_PATH_CFG_DENSE := ⟨308, h, rfl⟩
theorem has_CNX_PATH_CFG_FREEZE {m} (h : Nat.testBit m 309 = true) : Has m CNX_PATH_CFG_FREEZE := ⟨309, h, rfl⟩
theorem has_CNX_PATH_CFG_PROBE_ADAPT {m} (h : Nat.testBit m 310 = true) : Has m CNX_PATH_CFG_PROBE_ADAPT := ⟨310, h, rfl⟩
theorem has_CNX_PATH_CFG_REMOTE {m} (h : Nat.testBit m 311 = true) : Has m CNX_PATH_CFG_REMOTE := ⟨311, h, rfl⟩
theorem has_CNX_PATH_CFG_SPARE {m} (h : Nat.testBit m 312 = true) : Has m CNX_PATH_CFG_SPARE := ⟨312, h, rfl⟩
theorem has_CNX_PATH_CFG_SPARSE {m} (h : Nat.testBit m 313 = true) : Has m CNX_PATH_CFG_SPARSE := ⟨313, h, rfl⟩
theorem has_CNX_PATH_CFG_STEP {m} (h : Nat.testBit m 314 = true) : Has m CNX_PATH_CFG_STEP := ⟨314, h, rfl⟩
theorem has_CNX_PATH_CFG_UPD {m} (h : Nat.testBit m 315 = true) : Has m CNX_PATH_CFG_UPD := ⟨315, h, rfl⟩
theorem has_CNX_STX_CFG_SHIFT {m} (h : Nat.testBit m 316 = true) : Has m CNX_STX_CFG_SHIFT := ⟨316, h, rfl⟩
theorem has_CUR_HOST_ALL {m} (h : Nat.testBit m 317 = true) : Has m CUR_HOST_ALL := ⟨317, h, rfl⟩
theorem has_CUR_HOST_SHUT {m} (h : Nat.testBit m 318 = true) : Has m CUR_HOST_SHUT := ⟨318, h, rfl⟩
theorem has_CUR_REJ_CNT {m} (h : Nat.testBit m 319 = true) : Has m CUR_REJ_CNT := ⟨319, h, rfl⟩
theorem has_FC_REJ_CNT {m} (h : Nat.testBit m 320 = true) : Has m FC_REJ_CNT := ⟨320, h, rfl⟩
theorem has_HIF_PM_SLEEP {m} (h : Nat.testBit m 321 = true) : Has m HIF_PM_SLEEP := ⟨321, h, rfl⟩
theorem has_PWM_IGNWR_CNT {m} (h : Nat.testBit m 322 = true) : Has m PWM_IGNWR_CNT := ⟨322, h, rfl⟩
theorem has_TIME_FRAME {m} (h : Nat.testBit m 323 = true) : Has m TIME_FRAME := ⟨323, h, rfl⟩
theorem has_TIME_TOD_FRAC {m} (h : Nat.testBit m 324 = true) : Has m TIME_TOD_FRAC := ⟨324, h, rfl⟩
theorem has_TIME_TOD_SEC {m} (h : Nat.testBit m 325 = true) : Has m TIME_TOD_SEC := ⟨325, h, rfl⟩
theorem has_TIME_UTC_SEC {m} (h : Nat.testBit m 326 = true) : Has m TIME_UTC_SEC := ⟨326, h, rfl⟩
theorem has_CHF_ROM_PTR_INDEX {m} (h : Nat.testBit m 327 = true) : Has m CHF_ROM_PTR_INDEX := ⟨327, h, rfl⟩
theorem has_CHF_ROM_PTR_TAP {m} (h : Nat.testBit m 328 = true) : Has m CHF_ROM_PTR_TAP := ⟨328, h, rfl⟩
theorem has_CNX_CEIL_RISE {m} (h : Nat.testBit m 329 = true) : Has m CNX_CEIL_RISE := ⟨329, h, rfl⟩
theorem has_CNX_MARGIN {m} (h : Nat.testBit m 330 = true) : Has m CNX_MARGIN := ⟨330, h, rfl⟩
theorem has_CNX_SRX_CFG_EN {m} (h : Nat.testBit m 331 = true) : Has m CNX_SRX_CFG_EN := ⟨331, h, rfl⟩
theorem has_CNX_SRX_CFG_SRC_DEV {m} (h : Nat.testBit m 332 = true) : Has m CNX_SRX_CFG_SRC_DEV := ⟨332, h, rfl⟩
theorem has_CNX_SRX_CFG_SRC_SLOT {m} (h : Nat.testBit m 333 = true) : Has m CNX_SRX_CFG_SRC_SLOT := ⟨333, h, rfl⟩
theorem has_CNX_TAP_ALLOC {m} (h : Nat.testBit m 334 = true) : Has m CNX_TAP_ALLOC := ⟨334, h, rfl⟩
theorem has_CNX_TAP_FREE {m} (h : Nat.testBit m 335 = true) : Has m CNX_TAP_FREE := ⟨335, h, rfl⟩
theorem has_CTE_CAP_CFG_DECIM {m} (h : Nat.testBit m 336 = true) : Has m CTE_CAP_CFG_DECIM := ⟨336, h, rfl⟩
theorem has_CTE_CAP_CFG_EN {m} (h : Nat.testBit m 337 = true) : Has m CTE_CAP_CFG_EN := ⟨337, h, rfl⟩
theorem has_CTE_CAP_CFG_PRE {m} (h : Nat.testBit m 338 = true) : Has m CTE_CAP_CFG_PRE := ⟨338, h, rfl⟩
theorem has_FC_SEV_QSEL {m} (h : Nat.testBit m 339 = true) : Has m FC_SEV_QSEL := ⟨339, h, rfl⟩
theorem has_FC_SEV_SCOPE {m} (h : Nat.testBit m 340 = true) : Has m FC_SEV_SCOPE := ⟨340, h, rfl⟩
theorem has_FC_SEV_SEV {m} (h : Nat.testBit m 341 = true) : Has m FC_SEV_SEV := ⟨341, h, rfl⟩
theorem has_IC_CNT_ASSERT {m} (h : Nat.testBit m 342 = true) : Has m IC_CNT_ASSERT := ⟨342, h, rfl⟩
theorem has_IC_CNT_CLAIM {m} (h : Nat.testBit m 343 = true) : Has m IC_CNT_CLAIM := ⟨343, h, rfl⟩
theorem has_IC_CNT_PTR {m} (h : Nat.testBit m 344 = true) : Has m IC_CNT_PTR := ⟨344, h, rfl⟩
theorem has_IC_CNT_STAT_ACTIVE {m} (h : Nat.testBit m 345 = true) : Has m IC_CNT_STAT_ACTIVE := ⟨345, h, rfl⟩
theorem has_IC_CNT_STAT_PENDING {m} (h : Nat.testBit m 346 = true) : Has m IC_CNT_STAT_PENDING := ⟨346, h, rfl⟩
theorem has_IC_CNT_STAT_VALID {m} (h : Nat.testBit m 347 = true) : Has m IC_CNT_STAT_VALID := ⟨347, h, rfl⟩
theorem has_IC_SRC_CLASS {m} (h : Nat.testBit m 348 = true) : Has m IC_SRC_CLASS := ⟨348, h, rfl⟩
theorem has_IC_SRC_EN {m} (h : Nat.testBit m 349 = true) : Has m IC_SRC_EN := ⟨349, h, rfl⟩
theorem has_IC_SRC_TARGETS {m} (h : Nat.testBit m 350 = true) : Has m IC_SRC_TARGETS := ⟨350, h, rfl⟩
theorem has_IC_TGT_CFG_DELIV {m} (h : Nat.testBit m 351 = true) : Has m IC_TGT_CFG_DELIV := ⟨351, h, rfl⟩
theorem has_IC_TGT_CFG_MASK {m} (h : Nat.testBit m 352 = true) : Has m IC_TGT_CFG_MASK := ⟨352, h, rfl⟩
theorem has_LANE_RX_FTW_HI {m} (h : Nat.testBit m 353 = true) : Has m LANE_RX_FTW_HI := ⟨353, h, rfl⟩
theorem has_LANE_RX_FTW_LO {m} (h : Nat.testBit m 354 = true) : Has m LANE_RX_FTW_LO := ⟨354, h, rfl⟩
theorem has_LANE_RX_PHASE {m} (h : Nat.testBit m 355 = true) : Has m LANE_RX_PHASE := ⟨355, h, rfl⟩
theorem has_LANE_TX_FTW_HI {m} (h : Nat.testBit m 356 = true) : Has m LANE_TX_FTW_HI := ⟨356, h, rfl⟩
theorem has_LANE_TX_FTW_LO {m} (h : Nat.testBit m 357 = true) : Has m LANE_TX_FTW_LO := ⟨357, h, rfl⟩
theorem has_LANE_TX_PHASE {m} (h : Nat.testBit m 358 = true) : Has m LANE_TX_PHASE := ⟨358, h, rfl⟩
theorem has_LEDG_CLR_LANE {m} (h : Nat.testBit m 359 = true) : Has m LEDG_CLR_LANE := ⟨359, h, rfl⟩
theorem has_LEDG_SNAP_LANE {m} (h : Nat.testBit m 360 = true) : Has m LEDG_SNAP_LANE := ⟨360, h, rfl⟩
theorem has_MEAS_SNAP_CTX {m} (h : Nat.testBit m 361 = true) : Has m MEAS_SNAP_CTX := ⟨361, h, rfl⟩
theorem has_PB_CFG_COMPAT {m} (h : Nat.testBit m 362 = true) : Has m PB_CFG_COMPAT := ⟨362, h, rfl⟩
theorem has_PB_CFG_RL_MAX {m} (h : Nat.testBit m 363 = true) : Has m PB_CFG_RL_MAX := ⟨363, h, rfl⟩
theorem has_PB_CFG_RL_WIN {m} (h : Nat.testBit m 364 = true) : Has m PB_CFG_RL_WIN := ⟨364, h, rfl⟩
theorem has_SEC_KEY {m} (h : Nat.testBit m 365 = true) : Has m SEC_KEY := ⟨365, h, rfl⟩
theorem has_SLN_CTL_HOLD {m} (h : Nat.testBit m 366 = true) : Has m SLN_CTL_HOLD := ⟨366, h, rfl⟩
theorem has_SLN_CTL_PATH {m} (h : Nat.testBit m 367 = true) : Has m SLN_CTL_PATH := ⟨367, h, rfl⟩
theorem has_SMEM_CMD_ADDR {m} (h : Nat.testBit m 368 = true) : Has m SMEM_CMD_ADDR := ⟨368, h, rfl⟩
theorem has_SMEM_CMD_DUMMY {m} (h : Nat.testBit m 369 = true) : Has m SMEM_CMD_DUMMY := ⟨369, h, rfl⟩
theorem has_SMEM_CMD_OPCODE {m} (h : Nat.testBit m 370 = true) : Has m SMEM_CMD_OPCODE := ⟨370, h, rfl⟩
theorem has_SMEM_CMD_POLL {m} (h : Nat.testBit m 371 = true) : Has m SMEM_CMD_POLL := ⟨371, h, rfl⟩
theorem has_SMEM_CMD_QUAD {m} (h : Nat.testBit m 372 = true) : Has m SMEM_CMD_QUAD := ⟨372, h, rfl⟩
theorem has_SMEM_CMD_WREN {m} (h : Nat.testBit m 373 = true) : Has m SMEM_CMD_WREN := ⟨373, h, rfl⟩
theorem has_SMEM_CMD_WRITE {m} (h : Nat.testBit m 374 = true) : Has m SMEM_CMD_WRITE := ⟨374, h, rfl⟩
theorem has_SPT_SNAP_CTX {m} (h : Nat.testBit m 375 = true) : Has m SPT_SNAP_CTX := ⟨375, h, rfl⟩
theorem has_STM_CAP_CFG_ARM {m} (h : Nat.testBit m 376 = true) : Has m STM_CAP_CFG_ARM := ⟨376, h, rfl⟩
theorem has_STM_CAP_CFG_HOLDOFF {m} (h : Nat.testBit m 377 = true) : Has m STM_CAP_CFG_HOLDOFF := ⟨377, h, rfl⟩
theorem has_STM_CAP_CFG_POINT {m} (h : Nat.testBit m 378 = true) : Has m STM_CAP_CFG_POINT := ⟨378, h, rfl⟩
theorem has_STM_CAP_CFG_PRE {m} (h : Nat.testBit m 379 = true) : Has m STM_CAP_CFG_PRE := ⟨379, h, rfl⟩
theorem has_STM_CAP_CFG_SEV_MIN {m} (h : Nat.testBit m 380 = true) : Has m STM_CAP_CFG_SEV_MIN := ⟨380, h, rfl⟩
theorem has_STM_CAP_CFG_TRIG {m} (h : Nat.testBit m 381 = true) : Has m STM_CAP_CFG_TRIG := ⟨381, h, rfl⟩
theorem has_TDD_CTL_FRAME {m} (h : Nat.testBit m 382 = true) : Has m TDD_CTL_FRAME := ⟨382, h, rfl⟩
theorem has_TDD_CTL_PAT {m} (h : Nat.testBit m 383 = true) : Has m TDD_CTL_PAT := ⟨383, h, rfl⟩
theorem has_TDD_STAT_ERR {m} (h : Nat.testBit m 384 = true) : Has m TDD_STAT_ERR := ⟨384, h, rfl⟩
theorem has_TIME_DET_CFG_LANE {m} (h : Nat.testBit m 385 = true) : Has m TIME_DET_CFG_LANE := ⟨385, h, rfl⟩
theorem has_TIME_DET_CFG_PCI {m} (h : Nat.testBit m 386 = true) : Has m TIME_DET_CFG_PCI := ⟨386, h, rfl⟩
theorem has_TIME_DET_CFG_TYPE {m} (h : Nat.testBit m 387 = true) : Has m TIME_DET_CFG_TYPE := ⟨387, h, rfl⟩
theorem has_TIME_DET_STAT_ERR {m} (h : Nat.testBit m 388 = true) : Has m TIME_DET_STAT_ERR := ⟨388, h, rfl⟩
theorem has_TWC_CMD_ADDR {m} (h : Nat.testBit m 389 = true) : Has m TWC_CMD_ADDR := ⟨389, h, rfl⟩
theorem has_TWC_CMD_PEC {m} (h : Nat.testBit m 390 = true) : Has m TWC_CMD_PEC := ⟨390, h, rfl⟩
theorem has_TWC_CMD_RLEN {m} (h : Nat.testBit m 391 = true) : Has m TWC_CMD_RLEN := ⟨391, h, rfl⟩
theorem has_TWC_CMD_WLEN {m} (h : Nat.testBit m 392 = true) : Has m TWC_CMD_WLEN := ⟨392, h, rfl⟩
theorem has_ATTN_CFG_DIV {m} (h : Nat.testBit m 393 = true) : Has m ATTN_CFG_DIV := ⟨393, h, rfl⟩
theorem has_ATTN_CFG_LATCH {m} (h : Nat.testBit m 394 = true) : Has m ATTN_CFG_LATCH := ⟨394, h, rfl⟩
theorem has_ATTN_CFG_LEN {m} (h : Nat.testBit m 395 = true) : Has m ATTN_CFG_LEN := ⟨395, h, rfl⟩
theorem has_ATTN_CFG_LSB_FIRST {m} (h : Nat.testBit m 396 = true) : Has m ATTN_CFG_LSB_FIRST := ⟨396, h, rfl⟩
theorem has_ATTN_CFG_OWNER {m} (h : Nat.testBit m 397 = true) : Has m ATTN_CFG_OWNER := ⟨397, h, rfl⟩
theorem has_ATTN_CFG_PORTS {m} (h : Nat.testBit m 398 = true) : Has m ATTN_CFG_PORTS := ⟨398, h, rfl⟩
theorem has_BDAC_CFG_SAFE {m} (h : Nat.testBit m 399 = true) : Has m BDAC_CFG_SAFE := ⟨399, h, rfl⟩
theorem has_BDAC_CFG_STEP {m} (h : Nat.testBit m 400 = true) : Has m BDAC_CFG_STEP := ⟨400, h, rfl⟩
theorem has_BOOT_CFG {m} (h : Nat.testBit m 401 = true) : Has m BOOT_CFG := ⟨401, h, rfl⟩
theorem has_COEX_CFG_IN_POL {m} (h : Nat.testBit m 402 = true) : Has m COEX_CFG_IN_POL := ⟨402, h, rfl⟩
theorem has_COEX_CFG_OUT_MODE {m} (h : Nat.testBit m 403 = true) : Has m COEX_CFG_OUT_MODE := ⟨403, h, rfl⟩
theorem has_COEX_CFG_PRI_POL {m} (h : Nat.testBit m 404 = true) : Has m COEX_CFG_PRI_POL := ⟨404, h, rfl⟩
theorem has_CTE_INJ_CFG_LOOP {m} (h : Nat.testBit m 405 = true) : Has m CTE_INJ_CFG_LOOP := ⟨405, h, rfl⟩
theorem has_CTE_INJ_CFG_POINT {m} (h : Nat.testBit m 406 = true) : Has m CTE_INJ_CFG_POINT := ⟨406, h, rfl⟩
theorem has_CTE_INJ_CFG_SHAPE {m} (h : Nat.testBit m 407 = true) : Has m CTE_INJ_CFG_SHAPE := ⟨407, h, rfl⟩
theorem has_CTE_INJ_LEN {m} (h : Nat.testBit m 408 = true) : Has m CTE_INJ_LEN := ⟨408, h, rfl⟩
theorem has_FAB_CFG_FAULT {m} (h : Nat.testBit m 409 = true) : Has m FAB_CFG_FAULT := ⟨409, h, rfl⟩
theorem has_FAB_CFG_GUARD {m} (h : Nat.testBit m 410 = true) : Has m FAB_CFG_GUARD := ⟨410, h, rfl⟩
theorem has_FAB_CFG_HOLDOFF {m} (h : Nat.testBit m 411 = true) : Has m FAB_CFG_HOLDOFF := ⟨411, h, rfl⟩
theorem has_FAB_IGNWR_CNT {m} (h : Nat.testBit m 412 = true) : Has m FAB_IGNWR_CNT := ⟨412, h, rfl⟩
theorem has_FAB_VLIM_VMAX {m} (h : Nat.testBit m 413 = true) : Has m FAB_VLIM_VMAX := ⟨413, h, rfl⟩
theorem has_FAB_VLIM_VMIN {m} (h : Nat.testBit m 414 = true) : Has m FAB_VLIM_VMIN := ⟨414, h, rfl⟩
theorem has_FAB_VREQ_HOST_EN {m} (h : Nat.testBit m 415 = true) : Has m FAB_VREQ_HOST_EN := ⟨415, h, rfl⟩
theorem has_FAB_VREQ_HOST_MV {m} (h : Nat.testBit m 416 = true) : Has m FAB_VREQ_HOST_MV := ⟨416, h, rfl⟩
theorem has_HIF_CFG_MAX_GT {m} (h : Nat.testBit m 417 = true) : Has m HIF_CFG_MAX_GT := ⟨417, h, rfl⟩
theorem has_HIF_CFG_RO_EN {m} (h : Nat.testBit m 418 = true) : Has m HIF_CFG_RO_EN := ⟨418, h, rfl⟩
theorem has_HIF_CFG_TUN_TO {m} (h : Nat.testBit m 419 = true) : Has m HIF_CFG_TUN_TO := ⟨419, h, rfl⟩
theorem has_HK_CFG_EN {m} (h : Nat.testBit m 420 = true) : Has m HK_CFG_EN := ⟨420, h, rfl⟩
theorem has_HK_CFG_FILT {m} (h : Nat.testBit m 421 = true) : Has m HK_CFG_FILT := ⟨421, h, rfl⟩
theorem has_HK_CFG_LP {m} (h : Nat.testBit m 422 = true) : Has m HK_CFG_LP := ⟨422, h, rfl⟩
theorem has_HK_SCAN_MASK {m} (h : Nat.testBit m 423 = true) : Has m HK_SCAN_MASK := ⟨423, h, rfl⟩
theorem has_HK_TIMER {m} (h : Nat.testBit m 424 = true) : Has m HK_TIMER := ⟨424, h, rfl⟩
theorem has_HK_TRIG_DELAY {m} (h : Nat.testBit m 425 = true) : Has m HK_TRIG_DELAY := ⟨425, h, rfl⟩
theorem has_HK_TRIG_PWM_CH {m} (h : Nat.testBit m 426 = true) : Has m HK_TRIG_PWM_CH := ⟨426, h, rfl⟩
theorem has_HK_TRIG_PWM_EDGE {m} (h : Nat.testBit m 427 = true) : Has m HK_TRIG_PWM_EDGE := ⟨427, h, rfl⟩
theorem has_HK_TRIG_PWM_EN {m} (h : Nat.testBit m 428 = true) : Has m HK_TRIG_PWM_EN := ⟨428, h, rfl⟩
theorem has_HK_TRIG_TIMER_EN {m} (h : Nat.testBit m 429 = true) : Has m HK_TRIG_TIMER_EN := ⟨429, h, rfl⟩
theorem has_LEDG_MIG_CFG_DST {m} (h : Nat.testBit m 430 = true) : Has m LEDG_MIG_CFG_DST := ⟨430, h, rfl⟩
theorem has_LEDG_MIG_CFG_DST_DEV {m} (h : Nat.testBit m 431 = true) : Has m LEDG_MIG_CFG_DST_DEV := ⟨431, h, rfl⟩
theorem has_LEDG_MIG_CFG_REMOTE {m} (h : Nat.testBit m 432 = true) : Has m LEDG_MIG_CFG_REMOTE := ⟨432, h, rfl⟩
theorem has_LEDG_MIG_CFG_SRC {m} (h : Nat.testBit m 433 = true) : Has m LEDG_MIG_CFG_SRC := ⟨433, h, rfl⟩
theorem has_LEDG_MIG_CFG_TAIL {m} (h : Nat.testBit m 434 = true) : Has m LEDG_MIG_CFG_TAIL := ⟨434, h, rfl⟩
theorem has_MEAS_LANE_MAP_BASE {m} (h : Nat.testBit m 435 = true) : Has m MEAS_LANE_MAP_BASE := ⟨435, h, rfl⟩
theorem has_MEAS_LANE_MAP_COUNT {m} (h : Nat.testBit m 436 = true) : Has m MEAS_LANE_MAP_COUNT := ⟨436, h, rfl⟩
theorem has_PWM_CFG_EN {m} (h : Nat.testBit m 437 = true) : Has m PWM_CFG_EN := ⟨437, h, rfl⟩
theorem has_PWM_CFG_POL {m} (h : Nat.testBit m 438 = true) : Has m PWM_CFG_POL := ⟨438, h, rfl⟩
theorem has_PWM_CFG_PRESC {m} (h : Nat.testBit m 439 = true) : Has m PWM_CFG_PRESC := ⟨439, h, rfl⟩
theorem has_PWM_CFG_SHUT_DUTY {m} (h : Nat.testBit m 440 = true) : Has m PWM_CFG_SHUT_DUTY := ⟨440, h, rfl⟩
theorem has_PWM_CFG_SHUT_EN {m} (h : Nat.testBit m 441 = true) : Has m PWM_CFG_SHUT_EN := ⟨441, h, rfl⟩
theorem has_PWM_PER {m} (h : Nat.testBit m 442 = true) : Has m PWM_PER := ⟨442, h, rfl⟩
theorem has_RING_CTL_RST_ALL {m} (h : Nat.testBit m 443 = true) : Has m RING_CTL_RST_ALL := ⟨443, h, rfl⟩
theorem has_RING_CTL_RST_DEV {m} (h : Nat.testBit m 444 = true) : Has m RING_CTL_RST_DEV := ⟨444, h, rfl⟩
theorem has_RSM_DELAY {m} (h : Nat.testBit m 445 = true) : Has m RSM_DELAY := ⟨445, h, rfl⟩
theorem has_SMEM_CFG_DIV {m} (h : Nat.testBit m 446 = true) : Has m SMEM_CFG_DIV := ⟨446, h, rfl⟩
theorem has_SMEM_CFG_LOCK {m} (h : Nat.testBit m 447 = true) : Has m SMEM_CFG_LOCK := ⟨447, h, rfl⟩
theorem has_SPT_LANE_MAP_BASE {m} (h : Nat.testBit m 448 = true) : Has m SPT_LANE_MAP_BASE := ⟨448, h, rfl⟩
theorem has_SPT_LANE_MAP_COUNT {m} (h : Nat.testBit m 449 = true) : Has m SPT_LANE_MAP_COUNT := ⟨449, h, rfl⟩
theorem has_STM_HIST_CFG_EN {m} (h : Nat.testBit m 450 = true) : Has m STM_HIST_CFG_EN := ⟨450, h, rfl⟩
theorem has_STM_HIST_CFG_INTERVAL {m} (h : Nat.testBit m 451 = true) : Has m STM_HIST_CFG_INTERVAL := ⟨451, h, rfl⟩
theorem has_STM_IF_MAX_MTS {m} (h : Nat.testBit m 452 = true) : Has m STM_IF_MAX_MTS := ⟨452, h, rfl⟩
theorem has_STM_LIMITS_RD_LIM {m} (h : Nat.testBit m 453 = true) : Has m STM_LIMITS_RD_LIM := ⟨453, h, rfl⟩
theorem has_STM_LIMITS_WL_DELTA {m} (h : Nat.testBit m 454 = true) : Has m STM_LIMITS_WL_DELTA := ⟨454, h, rfl⟩
theorem has_STM_SCRUB_CFG_DAYS {m} (h : Nat.testBit m 455 = true) : Has m STM_SCRUB_CFG_DAYS := ⟨455, h, rfl⟩
theorem has_STM_SCRUB_CFG_REFRESH {m} (h : Nat.testBit m 456 = true) : Has m STM_SCRUB_CFG_REFRESH := ⟨456, h, rfl⟩
theorem has_TDD_WR_CNT {m} (h : Nat.testBit m 457 = true) : Has m TDD_WR_CNT := ⟨457, h, rfl⟩
theorem has_TIME_CFG_REF_SHARED {m} (h : Nat.testBit m 458 = true) : Has m TIME_CFG_REF_SHARED := ⟨458, h, rfl⟩
theorem has_TIME_CFG_REVERT {m} (h : Nat.testBit m 459 = true) : Has m TIME_CFG_REVERT := ⟨459, h, rfl⟩
theorem has_TIME_CFG_ROLE {m} (h : Nat.testBit m 460 = true) : Has m TIME_CFG_ROLE := ⟨460, h, rfl⟩
theorem has_TIME_CFG_SRC {m} (h : Nat.testBit m 461 = true) : Has m TIME_CFG_SRC := ⟨461, h, rfl⟩
theorem has_TIME_HOLD_BUDGET {m} (h : Nat.testBit m 462 = true) : Has m TIME_HOLD_BUDGET := ⟨462, h, rfl⟩
theorem has_TIME_HOLD_OSC_FERR {m} (h : Nat.testBit m 463 = true) : Has m TIME_HOLD_OSC_FERR := ⟨463, h, rfl⟩
theorem has_TIME_LOOP_BW {m} (h : Nat.testBit m 464 = true) : Has m TIME_LOOP_BW := ⟨464, h, rfl⟩
theorem has_TIME_LOOP_LOSS {m} (h : Nat.testBit m 465 = true) : Has m TIME_LOOP_LOSS := ⟨465, h, rfl⟩
theorem has_TIME_LOOP_SLEW_MAX {m} (h : Nat.testBit m 466 = true) : Has m TIME_LOOP_SLEW_MAX := ⟨466, h, rfl⟩
theorem has_TIME_LOOP_STEP_LIM {m} (h : Nat.testBit m 467 = true) : Has m TIME_LOOP_STEP_LIM := ⟨467, h, rfl⟩
theorem has_TIME_PPSI_COMP {m} (h : Nat.testBit m 468 = true) : Has m TIME_PPSI_COMP := ⟨468, h, rfl⟩
theorem has_TIME_PPSI_MODE {m} (h : Nat.testBit m 469 = true) : Has m TIME_PPSI_MODE := ⟨469, h, rfl⟩
theorem has_TWC_CFG_EN {m} (h : Nat.testBit m 470 = true) : Has m TWC_CFG_EN := ⟨470, h, rfl⟩
theorem has_TWC_CFG_STRETCH {m} (h : Nat.testBit m 471 = true) : Has m TWC_CFG_STRETCH := ⟨471, h, rfl⟩
theorem has_TWC_POLL_A_ADDR {m} (h : Nat.testBit m 472 = true) : Has m TWC_POLL_A_ADDR := ⟨472, h, rfl⟩
theorem has_TWC_POLL_A_BE {m} (h : Nat.testBit m 473 = true) : Has m TWC_POLL_A_BE := ⟨473, h, rfl⟩
theorem has_TWC_POLL_A_CMD {m} (h : Nat.testBit m 474 = true) : Has m TWC_POLL_A_CMD := ⟨474, h, rfl⟩
theorem has_TWC_POLL_A_EN {m} (h : Nat.testBit m 475 = true) : Has m TWC_POLL_A_EN := ⟨475, h, rfl⟩
theorem has_TWC_POLL_A_LEN {m} (h : Nat.testBit m 476 = true) : Has m TWC_POLL_A_LEN := ⟨476, h, rfl⟩
theorem has_TWC_POLL_A_PEC {m} (h : Nat.testBit m 477 = true) : Has m TWC_POLL_A_PEC := ⟨477, h, rfl⟩
theorem has_TWC_POLL_A_SHIFT {m} (h : Nat.testBit m 478 = true) : Has m TWC_POLL_A_SHIFT := ⟨478, h, rfl⟩
theorem has_TWC_POLL_A_SIGNED {m} (h : Nat.testBit m 479 = true) : Has m TWC_POLL_A_SIGNED := ⟨479, h, rfl⟩
theorem has_TWC_REG_CFG_ADDR {m} (h : Nat.testBit m 480 = true) : Has m TWC_REG_CFG_ADDR := ⟨480, h, rfl⟩
theorem has_TWC_REG_CFG_BE {m} (h : Nat.testBit m 481 = true) : Has m TWC_REG_CFG_BE := ⟨481, h, rfl⟩
theorem has_TWC_REG_CFG_CMD {m} (h : Nat.testBit m 482 = true) : Has m TWC_REG_CFG_CMD := ⟨482, h, rfl⟩
theorem has_TWC_REG_CFG_EN {m} (h : Nat.testBit m 483 = true) : Has m TWC_REG_CFG_EN := ⟨483, h, rfl⟩
theorem has_TWC_REG_CFG_LEN {m} (h : Nat.testBit m 484 = true) : Has m TWC_REG_CFG_LEN := ⟨484, h, rfl⟩
theorem has_TWC_REG_CFG_PEC {m} (h : Nat.testBit m 485 = true) : Has m TWC_REG_CFG_PEC := ⟨485, h, rfl⟩
theorem has_TWC_TIME_A_HIGH {m} (h : Nat.testBit m 486 = true) : Has m TWC_TIME_A_HIGH := ⟨486, h, rfl⟩
theorem has_TWC_TIME_A_LOW {m} (h : Nat.testBit m 487 = true) : Has m TWC_TIME_A_LOW := ⟨487, h, rfl⟩
theorem has_TWC_TIME_B {m} (h : Nat.testBit m 488 = true) : Has m TWC_TIME_B := ⟨488, h, rfl⟩
theorem has_TWT_CFG_IDLE_S {m} (h : Nat.testBit m 489 = true) : Has m TWT_CFG_IDLE_S := ⟨489, h, rfl⟩
theorem has_TWT_CFG_SLEEP_EN {m} (h : Nat.testBit m 490 = true) : Has m TWT_CFG_SLEEP_EN := ⟨490, h, rfl⟩
theorem has_TWT_MBOX_OUT {m} (h : Nat.testBit m 491 = true) : Has m TWT_MBOX_OUT := ⟨491, h, rfl⟩
theorem has_CNX_TAPWR_CNT {m} (h : Nat.testBit m 492 = true) : Has m CNX_TAPWR_CNT := ⟨492, h, rfl⟩
theorem has_DMA_CQ_BASE_HI {m} (h : Nat.testBit m 493 = true) : Has m DMA_CQ_BASE_HI := ⟨493, h, rfl⟩
theorem has_DMA_CQ_BASE_LO {m} (h : Nat.testBit m 494 = true) : Has m DMA_CQ_BASE_LO := ⟨494, h, rfl⟩
theorem has_DMA_Q_BASE_HI {m} (h : Nat.testBit m 495 = true) : Has m DMA_Q_BASE_HI := ⟨495, h, rfl⟩
theorem has_DMA_Q_BASE_LO {m} (h : Nat.testBit m 496 = true) : Has m DMA_Q_BASE_LO := ⟨496, h, rfl⟩
theorem has_MEAS_CTXWR_CNT {m} (h : Nat.testBit m 497 = true) : Has m MEAS_CTXWR_CNT := ⟨497, h, rfl⟩
theorem has_SPT_CTXWR_CNT {m} (h : Nat.testBit m 498 = true) : Has m SPT_CTXWR_CNT := ⟨498, h, rfl⟩
theorem has_TDD_DLOFS {m} (h : Nat.testBit m 499 = true) : Has m TDD_DLOFS := ⟨499, h, rfl⟩
theorem has_TDD_ENT_DIR {m} (h : Nat.testBit m 500 = true) : Has m TDD_ENT_DIR := ⟨500, h, rfl⟩
theorem has_TDD_ENT_START {m} (h : Nat.testBit m 501 = true) : Has m TDD_ENT_START := ⟨501, h, rfl⟩
theorem has_TDD_PER {m} (h : Nat.testBit m 502 = true) : Has m TDD_PER := ⟨502, h, rfl⟩
theorem has_TDD_ULOFS {m} (h : Nat.testBit m 503 = true) : Has m TDD_ULOFS := ⟨503, h, rfl⟩
theorem has_THM_CFG_HYST {m} (h : Nat.testBit m 504 = true) : Has m THM_CFG_HYST := ⟨504, h, rfl⟩
theorem has_THM_CFG_THR_EN {m} (h : Nat.testBit m 505 = true) : Has m THM_CFG_THR_EN := ⟨505, h, rfl⟩
theorem has_IC_SPUR_CNT {m} (h : Nat.testBit m 506 = true) : Has m IC_SPUR_CNT := ⟨506, h, rfl⟩
theorem has_PG_ERR_MASK {m} (h : Nat.testBit m 507 = true) : Has m PG_ERR_MASK := ⟨507, h, rfl⟩
theorem has_PG_INT_EN {m} (h : Nat.testBit m 508 = true) : Has m PG_INT_EN := ⟨508, h, rfl⟩
theorem has_STM_HIST_HEAD {m} (h : Nat.testBit m 509 = true) : Has m STM_HIST_HEAD := ⟨509, h, rfl⟩
theorem has_STM_HIST_HOFS {m} (h : Nat.testBit m 510 = true) : Has m STM_HIST_HOFS := ⟨510, h, rfl⟩
theorem has_STM_HIST_TAIL {m} (h : Nat.testBit m 511 = true) : Has m STM_HIST_TAIL := ⟨511, h, rfl⟩
theorem has_STM_HIST_TOFS {m} (h : Nat.testBit m 512 = true) : Has m STM_HIST_TOFS := ⟨512, h, rfl⟩
theorem has_STM_SNAP_HEAD {m} (h : Nat.testBit m 513 = true) : Has m STM_SNAP_HEAD := ⟨513, h, rfl⟩
theorem has_STM_SNAP_HOFS {m} (h : Nat.testBit m 514 = true) : Has m STM_SNAP_HOFS := ⟨514, h, rfl⟩
theorem has_STM_SNAP_TAIL {m} (h : Nat.testBit m 515 = true) : Has m STM_SNAP_TAIL := ⟨515, h, rfl⟩
theorem has_STM_SNAP_TOFS {m} (h : Nat.testBit m 516 = true) : Has m STM_SNAP_TOFS := ⟨516, h, rfl⟩
theorem has_BOOT_STAT_PHASE {m} (h : Nat.testBit m 517 = true) : Has m BOOT_STAT_PHASE := ⟨517, h, rfl⟩
theorem has_STM_REFRESH_CNT {m} (h : Nat.testBit m 518 = true) : Has m STM_REFRESH_CNT := ⟨518, h, rfl⟩
theorem has_STM_SCRUB_AGE {m} (h : Nat.testBit m 519 = true) : Has m STM_SCRUB_AGE := ⟨519, h, rfl⟩
theorem has_STM_WEAR_N_MAX {m} (h : Nat.testBit m 520 = true) : Has m STM_WEAR_N_MAX := ⟨520, h, rfl⟩
theorem has_STM_WEAR_N_MEAN {m} (h : Nat.testBit m 521 = true) : Has m STM_WEAR_N_MEAN := ⟨521, h, rfl⟩
theorem has_STM_WEAR_S_MAX {m} (h : Nat.testBit m 522 = true) : Has m STM_WEAR_S_MAX := ⟨522, h, rfl⟩
theorem has_STM_WEAR_S_MEAN {m} (h : Nat.testBit m 523 = true) : Has m STM_WEAR_S_MEAN := ⟨523, h, rfl⟩
theorem has_BOOT_STAT_RECORDS {m} (h : Nat.testBit m 524 = true) : Has m BOOT_STAT_RECORDS := ⟨524, h, rfl⟩
theorem has_PB_RD_DATA {m} (h : Nat.testBit m 525 = true) : Has m PB_RD_DATA := ⟨525, h, rfl⟩
theorem has_PB_RD_STAT_OPEN {m} (h : Nat.testBit m 526 = true) : Has m PB_RD_STAT_OPEN := ⟨526, h, rfl⟩
theorem has_PB_RD_STAT_WHERE {m} (h : Nat.testBit m 527 = true) : Has m PB_RD_STAT_WHERE := ⟨527, h, rfl⟩
theorem has_STM_RD_DIST_CNT {m} (h : Nat.testBit m 528 = true) : Has m STM_RD_DIST_CNT := ⟨528, h, rfl⟩
theorem has_STM_SCRUB_STAT_PASSES {m} (h : Nat.testBit m 529 = true) : Has m STM_SCRUB_STAT_PASSES := ⟨529, h, rfl⟩
theorem has_STM_SCRUB_STAT_PROGRESS {m} (h : Nat.testBit m 530 = true) : Has m STM_SCRUB_STAT_PROGRESS := ⟨530, h, rfl⟩
theorem has_TIME_STEP_CNT {m} (h : Nat.testBit m 531 = true) : Has m TIME_STEP_CNT := ⟨531, h, rfl⟩
theorem has_RING_MAP_STATE {m} (h : Nat.testBit m 532 = true) : Has m RING_MAP_STATE := ⟨532, h, rfl⟩
theorem has_CONVTX_STAT_CLIP_NOW {m} (h : Nat.testBit m 533 = true) : Has m CONVTX_STAT_CLIP_NOW := ⟨533, h, rfl⟩
theorem has_RING_FAULTN_HI {m} (h : Nat.testBit m 534 = true) : Has m RING_FAULTN_HI := ⟨534, h, rfl⟩
theorem has_RING_FAULTN_LO {m} (h : Nat.testBit m 535 = true) : Has m RING_FAULTN_LO := ⟨535, h, rfl⟩
theorem has_TIME_STAT_RAIL {m} (h : Nat.testBit m 536 = true) : Has m TIME_STAT_RAIL := ⟨536, h, rfl⟩
theorem has_TIME_STAT_REF_DEV {m} (h : Nat.testBit m 537 = true) : Has m TIME_STAT_REF_DEV := ⟨537, h, rfl⟩
theorem has_RING_REPLAY_CNT {m} (h : Nat.testBit m 538 = true) : Has m RING_REPLAY_CNT := ⟨538, h, rfl⟩
theorem has_TWT_STAT_BUSY {m} (h : Nat.testBit m 539 = true) : Has m TWT_STAT_BUSY := ⟨539, h, rfl⟩
theorem has_BOOT_STAT_A_VALID {m} (h : Nat.testBit m 540 = true) : Has m BOOT_STAT_A_VALID := ⟨540, h, rfl⟩
theorem has_BOOT_STAT_B_VALID {m} (h : Nat.testBit m 541 = true) : Has m BOOT_STAT_B_VALID := ⟨541, h, rfl⟩
theorem has_BOOT_STAT_CHECKED {m} (h : Nat.testBit m 542 = true) : Has m BOOT_STAT_CHECKED := ⟨542, h, rfl⟩
theorem has_CONVTX_STAT_CLIP_STICKY {m} (h : Nat.testBit m 543 = true) : Has m CONVTX_STAT_CLIP_STICKY := ⟨543, h, rfl⟩
theorem has_TIME_ERR_FOFS {m} (h : Nat.testBit m 544 = true) : Has m TIME_ERR_FOFS := ⟨544, h, rfl⟩
theorem has_TIME_ERR_PHASE {m} (h : Nat.testBit m 545 = true) : Has m TIME_ERR_PHASE := ⟨545, h, rfl⟩
theorem has_BOOT_ERR_CODE {m} (h : Nat.testBit m 546 = true) : Has m BOOT_ERR_CODE := ⟨546, h, rfl⟩
theorem has_BOOT_ERR_COPY {m} (h : Nat.testBit m 547 = true) : Has m BOOT_ERR_COPY := ⟨547, h, rfl⟩
theorem has_BOOT_ERR_OFFSET {m} (h : Nat.testBit m 548 = true) : Has m BOOT_ERR_OFFSET := ⟨548, h, rfl⟩
theorem has_COEX_STAT_GNT_OUT {m} (h : Nat.testBit m 549 = true) : Has m COEX_STAT_GNT_OUT := ⟨549, h, rfl⟩
theorem has_FAB_STAT_VGUARD {m} (h : Nat.testBit m 550 = true) : Has m FAB_STAT_VGUARD := ⟨550, h, rfl⟩
theorem has_HK_STAT_SLOW {m} (h : Nat.testBit m 551 = true) : Has m HK_STAT_SLOW := ⟨551, h, rfl⟩
theorem has_PROT_EM_LIM_PWR {m} (h : Nat.testBit m 552 = true) : Has m PROT_EM_LIM_PWR := ⟨552, h, rfl⟩
theorem has_SEC_AUTH_FAIL_CNT {m} (h : Nat.testBit m 553 = true) : Has m SEC_AUTH_FAIL_CNT := ⟨553, h, rfl⟩
theorem has_STM_PART_H {m} (h : Nat.testBit m 554 = true) : Has m STM_PART_H := ⟨554, h, rfl⟩
theorem has_STM_PART_S {m} (h : Nat.testBit m 555 = true) : Has m STM_PART_S := ⟨555, h, rfl⟩
theorem has_THM_STAT_COOLING {m} (h : Nat.testBit m 556 = true) : Has m THM_STAT_COOLING := ⟨556, h, rfl⟩
theorem has_THM_STAT_SHUT {m} (h : Nat.testBit m 557 = true) : Has m THM_STAT_SHUT := ⟨557, h, rfl⟩
theorem has_TIME_STAT_DEGRADED {m} (h : Nat.testBit m 558 = true) : Has m TIME_STAT_DEGRADED := ⟨558, h, rfl⟩
theorem has_TWT_NACK_CNT {m} (h : Nat.testBit m 559 = true) : Has m TWT_NACK_CNT := ⟨559, h, rfl⟩
theorem has_TWT_STAT_ASLEEP {m} (h : Nat.testBit m 560 = true) : Has m TWT_STAT_ASLEEP := ⟨560, h, rfl⟩
theorem has_COEX_DENY_CNT {m} (h : Nat.testBit m 561 = true) : Has m COEX_DENY_CNT := ⟨561, h, rfl⟩
theorem has_CONVRX_STAT_CAL_FAIL {m} (h : Nat.testBit m 562 = true) : Has m CONVRX_STAT_CAL_FAIL := ⟨562, h, rfl⟩
theorem has_CONVTX_STAT_CAL_FAIL {m} (h : Nat.testBit m 563 = true) : Has m CONVTX_STAT_CAL_FAIL := ⟨563, h, rfl⟩
theorem has_RING_STAT_SIZE {m} (h : Nat.testBit m 564 = true) : Has m RING_STAT_SIZE := ⟨564, h, rfl⟩
theorem has_ATTN_STAT_SENT {m} (h : Nat.testBit m 565 = true) : Has m ATTN_STAT_SENT := ⟨565, h, rfl⟩
theorem has_BOOT_STAT_ABORTED {m} (h : Nat.testBit m 566 = true) : Has m BOOT_STAT_ABORTED := ⟨566, h, rfl⟩
theorem has_DMA_Q_DONE_CNT {m} (h : Nat.testBit m 567 = true) : Has m DMA_Q_DONE_CNT := ⟨567, h, rfl⟩
theorem has_DMA_Q_ERR_CNT {m} (h : Nat.testBit m 568 = true) : Has m DMA_Q_ERR_CNT := ⟨568, h, rfl⟩
theorem has_DMA_Q_STAT_ERR_SEEN {m} (h : Nat.testBit m 569 = true) : Has m DMA_Q_STAT_ERR_SEEN := ⟨569, h, rfl⟩
theorem has_DMA_Q_STAT_LAST_ERR {m} (h : Nat.testBit m 570 = true) : Has m DMA_Q_STAT_LAST_ERR := ⟨570, h, rfl⟩
theorem has_FAB_GUARD_CNT {m} (h : Nat.testBit m 571 = true) : Has m FAB_GUARD_CNT := ⟨571, h, rfl⟩
theorem has_HK_RES_VALID {m} (h : Nat.testBit m 572 = true) : Has m HK_RES_VALID := ⟨572, h, rfl⟩
theorem has_HK_STAT_BUSY {m} (h : Nat.testBit m 573 = true) : Has m HK_STAT_BUSY := ⟨573, h, rfl⟩
theorem has_HK_STAT_SCAN_CNT {m} (h : Nat.testBit m 574 = true) : Has m HK_STAT_SCAN_CNT := ⟨574, h, rfl⟩
theorem has_RFC_PORT_TXTO_CNT {m} (h : Nat.testBit m 575 = true) : Has m RFC_PORT_TXTO_CNT := ⟨575, h, rfl⟩
theorem has_RING_ABS_WR_CNT {m} (h : Nat.testBit m 576 = true) : Has m RING_ABS_WR_CNT := ⟨576, h, rfl⟩
theorem has_RING_REROUTE_CNT {m} (h : Nat.testBit m 577 = true) : Has m RING_REROUTE_CNT := ⟨577, h, rfl⟩
theorem has_RING_WDISC_CNT {m} (h : Nat.testBit m 578 = true) : Has m RING_WDISC_CNT := ⟨578, h, rfl⟩
theorem has_STM_SPARE {m} (h : Nat.testBit m 579 = true) : Has m STM_SPARE := ⟨579, h, rfl⟩
theorem has_STM_STAT_SPARE_LOW {m} (h : Nat.testBit m 580 = true) : Has m STM_STAT_SPARE_LOW := ⟨580, h, rfl⟩
theorem has_TWT_STAT_PTR {m} (h : Nat.testBit m 581 = true) : Has m TWT_STAT_PTR := ⟨581, h, rfl⟩
theorem has_CHF_ECC_CNT {m} (h : Nat.testBit m 582 = true) : Has m CHF_ECC_CNT := ⟨582, h, rfl⟩
theorem has_COEX_WDRAW_CNT {m} (h : Nat.testBit m 583 = true) : Has m COEX_WDRAW_CNT := ⟨583, h, rfl⟩
theorem has_CONVRX_STAT_OVR_NOW {m} (h : Nat.testBit m 584 = true) : Has m CONVRX_STAT_OVR_NOW := ⟨584, h, rfl⟩
theorem has_CTE_CAP_STAT_TRIG_IDX {m} (h : Nat.testBit m 585 = true) : Has m CTE_CAP_STAT_TRIG_IDX := ⟨585, h, rfl⟩
theorem has_HIF_LINK_SPEED {m} (h : Nat.testBit m 586 = true) : Has m HIF_LINK_SPEED := ⟨586, h, rfl⟩
theorem has_HIF_LINK_UP {m} (h : Nat.testBit m 587 = true) : Has m HIF_LINK_UP := ⟨587, h, rfl⟩
theorem has_HIF_LINK_WIDTH {m} (h : Nat.testBit m 588 = true) : Has m HIF_LINK_WIDTH := ⟨588, h, rfl⟩
theorem has_HIF_PM_D3 {m} (h : Nat.testBit m 589 = true) : Has m HIF_PM_D3 := ⟨589, h, rfl⟩
theorem has_PB_VAULT_PF_CNT {m} (h : Nat.testBit m 590 = true) : Has m PB_VAULT_PF_CNT := ⟨590, h, rfl⟩
theorem has_RING_STAT_POS {m} (h : Nat.testBit m 591 = true) : Has m RING_STAT_POS := ⟨591, h, rfl⟩
theorem has_STM_PART_P16 {m} (h : Nat.testBit m 592 = true) : Has m STM_PART_P16 := ⟨592, h, rfl⟩
theorem has_STM_STAT_MEDIUM {m} (h : Nat.testBit m 593 = true) : Has m STM_STAT_MEDIUM := ⟨593, h, rfl⟩
theorem has_STM_STAT_MIRROR {m} (h : Nat.testBit m 594 = true) : Has m STM_STAT_MIRROR := ⟨594, h, rfl⟩
theorem has_STM_STAT_SINGLE {m} (h : Nat.testBit m 595 = true) : Has m STM_STAT_SINGLE := ⟨595, h, rfl⟩
theorem has_SYS_SUPPLY_CNT {m} (h : Nat.testBit m 596 = true) : Has m SYS_SUPPLY_CNT := ⟨596, h, rfl⟩
theorem has_SYS_SUPPLY_OVER_NOW {m} (h : Nat.testBit m 597 = true) : Has m SYS_SUPPLY_OVER_NOW := ⟨597, h, rfl⟩
theorem has_SYS_SUPPLY_UNDER_NOW {m} (h : Nat.testBit m 598 = true) : Has m SYS_SUPPLY_UNDER_NOW := ⟨598, h, rfl⟩
theorem has_THM_SHUT_CNT {m} (h : Nat.testBit m 599 = true) : Has m THM_SHUT_CNT := ⟨599, h, rfl⟩
theorem has_THM_STAT_STEP {m} (h : Nat.testBit m 600 = true) : Has m THM_STAT_STEP := ⟨600, h, rfl⟩
theorem has_THM_STEP_CNT {m} (h : Nat.testBit m 601 = true) : Has m THM_STEP_CNT := ⟨601, h, rfl⟩
theorem has_TWT_XFER_CNT {m} (h : Nat.testBit m 602 = true) : Has m TWT_XFER_CNT := ⟨602, h, rfl⟩
theorem has_BOOT_SEQ {m} (h : Nat.testBit m 603 = true) : Has m BOOT_SEQ := ⟨603, h, rfl⟩
theorem has_BOOT_STAT_AUTH {m} (h : Nat.testBit m 604 = true) : Has m BOOT_STAT_AUTH := ⟨604, h, rfl⟩
theorem has_BOOT_STAT_COPY {m} (h : Nat.testBit m 605 = true) : Has m BOOT_STAT_COPY := ⟨605, h, rfl⟩
theorem has_CNX_DIV_CNT {m} (h : Nat.testBit m 606 = true) : Has m CNX_DIV_CNT := ⟨606, h, rfl⟩
theorem has_CNX_SRX_STAT_LAT {m} (h : Nat.testBit m 607 = true) : Has m CNX_SRX_STAT_LAT := ⟨607, h, rfl⟩
theorem has_CNX_STX_SAT_CNT {m} (h : Nat.testBit m 608 = true) : Has m CNX_STX_SAT_CNT := ⟨608, h, rfl⟩
theorem has_FC_FF_CAUSE {m} (h : Nat.testBit m 609 = true) : Has m FC_FF_CAUSE := ⟨609, h, rfl⟩
theorem has_FC_FF_MERGE_CO_EPOCH {m} (h : Nat.testBit m 610 = true) : Has m FC_FF_MERGE_CO_EPOCH := ⟨610, h, rfl⟩
theorem has_FC_FF_MERGE_MERGE {m} (h : Nat.testBit m 611 = true) : Has m FC_FF_MERGE_MERGE := ⟨611, h, rfl⟩
theorem has_FC_FF_SRC_FORCED {m} (h : Nat.testBit m 612 = true) : Has m FC_FF_SRC_FORCED := ⟨612, h, rfl⟩
theorem has_FC_FF_SRC_MAX_MERGED {m} (h : Nat.testBit m 613 = true) : Has m FC_FF_SRC_MAX_MERGED := ⟨613, h, rfl⟩
theorem has_FC_FF_SRC_SEV {m} (h : Nat.testBit m 614 = true) : Has m FC_FF_SRC_SEV := ⟨614, h, rfl⟩
theorem has_FC_FF_SRC_SOURCE {m} (h : Nat.testBit m 615 = true) : Has m FC_FF_SRC_SOURCE := ⟨615, h, rfl⟩
theorem has_FC_FF_TICK_HI {m} (h : Nat.testBit m 616 = true) : Has m FC_FF_TICK_HI := ⟨616, h, rfl⟩
theorem has_FC_FF_TICK_LO {m} (h : Nat.testBit m 617 = true) : Has m FC_FF_TICK_LO := ⟨617, h, rfl⟩
theorem has_FC_SEV_LAST {m} (h : Nat.testBit m 618 = true) : Has m FC_SEV_LAST := ⟨618, h, rfl⟩
theorem has_HK_OVR_CNT {m} (h : Nat.testBit m 619 = true) : Has m HK_OVR_CNT := ⟨619, h, rfl⟩
theorem has_HK_OVR_STICKY {m} (h : Nat.testBit m 620 = true) : Has m HK_OVR_STICKY := ⟨620, h, rfl⟩
theorem has_HK_RES_CNT {m} (h : Nat.testBit m 621 = true) : Has m HK_RES_CNT := ⟨621, h, rfl⟩
theorem has_HK_RES_LATE {m} (h : Nat.testBit m 622 = true) : Has m HK_RES_LATE := ⟨622, h, rfl⟩
theorem has_HK_RES_OVR {m} (h : Nat.testBit m 623 = true) : Has m HK_RES_OVR := ⟨623, h, rfl⟩
theorem has_HK_RES_SLOW {m} (h : Nat.testBit m 624 = true) : Has m HK_RES_SLOW := ⟨624, h, rfl⟩
theorem has_HK_RES_SUSPECT {m} (h : Nat.testBit m 625 = true) : Has m HK_RES_SUSPECT := ⟨625, h, rfl⟩
theorem has_HK_RES_VALUE {m} (h : Nat.testBit m 626 = true) : Has m HK_RES_VALUE := ⟨626, h, rfl⟩
theorem has_LANE_STAT_SAT_STICKY {m} (h : Nat.testBit m 627 = true) : Has m LANE_STAT_SAT_STICKY := ⟨627, h, rfl⟩
theorem has_MEAS_LANE_PWR_FLR {m} (h : Nat.testBit m 628 = true) : Has m MEAS_LANE_PWR_FLR := ⟨628, h, rfl⟩
theorem has_MEAS_LANE_PWR_PWR {m} (h : Nat.testBit m 629 = true) : Has m MEAS_LANE_PWR_PWR := ⟨629, h, rfl⟩
theorem has_PROT_LANE_NR_DN {m} (h : Nat.testBit m 630 = true) : Has m PROT_LANE_NR_DN := ⟨630, h, rfl⟩
theorem has_PROT_LANE_NR_NC_AVG {m} (h : Nat.testBit m 631 = true) : Has m PROT_LANE_NR_NC_AVG := ⟨631, h, rfl⟩
theorem has_RING_MAP_ID {m} (h : Nat.testBit m 632 = true) : Has m RING_MAP_ID := ⟨632, h, rfl⟩
theorem has_RING_MAP_VALID {m} (h : Nat.testBit m 633 = true) : Has m RING_MAP_VALID := ⟨633, h, rfl⟩
theorem has_RING_MAP_VERSION {m} (h : Nat.testBit m 634 = true) : Has m RING_MAP_VERSION := ⟨634, h, rfl⟩
theorem has_RING_MAP_VERTEX {m} (h : Nat.testBit m 635 = true) : Has m RING_MAP_VERTEX := ⟨635, h, rfl⟩
theorem has_SLN_STAT_CUR_PATH {m} (h : Nat.testBit m 636 = true) : Has m SLN_STAT_CUR_PATH := ⟨636, h, rfl⟩
theorem has_SPT_LANE_NC_NC {m} (h : Nat.testBit m 637 = true) : Has m SPT_LANE_NC_NC := ⟨637, h, rfl⟩
theorem has_SPT_LANE_NC_UNC {m} (h : Nat.testBit m 638 = true) : Has m SPT_LANE_NC_UNC := ⟨638, h, rfl⟩
theorem has_STM_ECC_UNC {m} (h : Nat.testBit m 639 = true) : Has m STM_ECC_UNC := ⟨639, h, rfl⟩
theorem has_STM_HIST_DROP {m} (h : Nat.testBit m 640 = true) : Has m STM_HIST_DROP := ⟨640, h, rfl⟩
theorem has_STM_UNC_PART {m} (h : Nat.testBit m 641 = true) : Has m STM_UNC_PART := ⟨641, h, rfl⟩
theorem has_STM_UNC_UNIT {m} (h : Nat.testBit m 642 = true) : Has m STM_UNC_UNIT := ⟨642, h, rfl⟩
theorem has_THM_STAT_BLIND {m} (h : Nat.testBit m 643 = true) : Has m THM_STAT_BLIND := ⟨643, h, rfl⟩
theorem has_THM_STAT_HOT_SENS {m} (h : Nat.testBit m 644 = true) : Has m THM_STAT_HOT_SENS := ⟨644, h, rfl⟩
theorem has_THM_STAT_T_HOT {m} (h : Nat.testBit m 645 = true) : Has m THM_STAT_T_HOT := ⟨645, h, rfl⟩
theorem has_TIME_RING {m} (h : Nat.testBit m 646 = true) : Has m TIME_RING := ⟨646, h, rfl⟩
theorem has_TIME_US_DELTA {m} (h : Nat.testBit m 647 = true) : Has m TIME_US_DELTA := ⟨647, h, rfl⟩
theorem has_BOOT_TIME {m} (h : Nat.testBit m 648 = true) : Has m BOOT_TIME := ⟨648, h, rfl⟩
theorem has_CHF_UNC_INDEX {m} (h : Nat.testBit m 649 = true) : Has m CHF_UNC_INDEX := ⟨649, h, rfl⟩
theorem has_CHF_UNC_VALID {m} (h : Nat.testBit m 650 = true) : Has m CHF_UNC_VALID := ⟨650, h, rfl⟩
theorem has_CNX_ECC_CNT {m} (h : Nat.testBit m 651 = true) : Has m CNX_ECC_CNT := ⟨651, h, rfl⟩
theorem has_CNX_SRX_LOST_CNT {m} (h : Nat.testBit m 652 = true) : Has m CNX_SRX_LOST_CNT := ⟨652, h, rfl⟩
theorem has_COEX_GRANT_CNT {m} (h : Nat.testBit m 653 = true) : Has m COEX_GRANT_CNT := ⟨653, h, rfl⟩
theorem has_CONVRX_BGCAL_CYCLES {m} (h : Nat.testBit m 654 = true) : Has m CONVRX_BGCAL_CYCLES := ⟨654, h, rfl⟩
theorem has_CONVRX_STAT_OVR_STICKY {m} (h : Nat.testBit m 655 = true) : Has m CONVRX_STAT_OVR_STICKY := ⟨655, h, rfl⟩
theorem has_CONVTX_BGCAL_CYCLES {m} (h : Nat.testBit m 656 = true) : Has m CONVTX_BGCAL_CYCLES := ⟨656, h, rfl⟩
theorem has_CTE_ECC_CNT {m} (h : Nat.testBit m 657 = true) : Has m CTE_ECC_CNT := ⟨657, h, rfl⟩
theorem has_CTE_OVR_CNT {m} (h : Nat.testBit m 658 = true) : Has m CTE_OVR_CNT := ⟨658, h, rfl⟩
theorem has_FAB_STAT_LOW_ISL {m} (h : Nat.testBit m 659 = true) : Has m FAB_STAT_LOW_ISL := ⟨659, h, rfl⟩
theorem has_FAB_STAT_LOW_SLACK {m} (h : Nat.testBit m 660 = true) : Has m FAB_STAT_LOW_SLACK := ⟨660, h, rfl⟩
theorem has_FAB_STAT_SLACK_LOW {m} (h : Nat.testBit m 661 = true) : Has m FAB_STAT_SLACK_LOW := ⟨661, h, rfl⟩
theorem has_FAB_WLOSS_CNT {m} (h : Nat.testBit m 662 = true) : Has m FAB_WLOSS_CNT := ⟨662, h, rfl⟩
theorem has_HIF_BADACC_ADDR_OFFSET {m} (h : Nat.testBit m 663 = true) : Has m HIF_BADACC_ADDR_OFFSET := ⟨663, h, rfl⟩
theorem has_HIF_BADACC_ADDR_WIN {m} (h : Nat.testBit m 664 = true) : Has m HIF_BADACC_ADDR_WIN := ⟨664, h, rfl⟩
theorem has_HIF_BADACC_CNT {m} (h : Nat.testBit m 665 = true) : Has m HIF_BADACC_CNT := ⟨665, h, rfl⟩
theorem has_HIF_CORR_CNT {m} (h : Nat.testBit m 666 = true) : Has m HIF_CORR_CNT := ⟨666, h, rfl⟩
theorem has_HIF_LINKDN_CNT {m} (h : Nat.testBit m 667 = true) : Has m HIF_LINKDN_CNT := ⟨667, h, rfl⟩
theorem has_HIF_LINK_STRAP_W {m} (h : Nat.testBit m 668 = true) : Has m HIF_LINK_STRAP_W := ⟨668, h, rfl⟩
theorem has_HIF_TUN_TO_CNT {m} (h : Nat.testBit m 669 = true) : Has m HIF_TUN_TO_CNT := ⟨669, h, rfl⟩
theorem has_HIF_UNCORR_CNT {m} (h : Nat.testBit m 670 = true) : Has m HIF_UNCORR_CNT := ⟨670, h, rfl⟩
theorem has_HK_LATE_CNT {m} (h : Nat.testBit m 671 = true) : Has m HK_LATE_CNT := ⟨671, h, rfl⟩
theorem has_HK_STAT_LATE {m} (h : Nat.testBit m 672 = true) : Has m HK_STAT_LATE := ⟨672, h, rfl⟩
theorem has_MEAS_ECC_CNT {m} (h : Nat.testBit m 673 = true) : Has m MEAS_ECC_CNT := ⟨673, h, rfl⟩
theorem has_PB_VFY_BAD_HI {m} (h : Nat.testBit m 674 = true) : Has m PB_VFY_BAD_HI := ⟨674, h, rfl⟩
theorem has_PB_VFY_BAD_LO {m} (h : Nat.testBit m 675 = true) : Has m PB_VFY_BAD_LO := ⟨675, h, rfl⟩
theorem has_PWM_STAT_MISMATCH {m} (h : Nat.testBit m 676 = true) : Has m PWM_STAT_MISMATCH := ⟨676, h, rfl⟩
theorem has_RING_CEN_CNT {m} (h : Nat.testBit m 677 = true) : Has m RING_CEN_CNT := ⟨677, h, rfl⟩
theorem has_RING_CEN_FAIL_CNT {m} (h : Nat.testBit m 678 = true) : Has m RING_CEN_FAIL_CNT := ⟨678, h, rfl⟩
theorem has_RING_PORT_CRC_CNT {m} (h : Nat.testBit m 679 = true) : Has m RING_PORT_CRC_CNT := ⟨679, h, rfl⟩
theorem has_RING_PORT_HDR_CNT {m} (h : Nat.testBit m 680 = true) : Has m RING_PORT_HDR_CNT := ⟨680, h, rfl⟩
theorem has_RING_PORT_SKEW {m} (h : Nat.testBit m 681 = true) : Has m RING_PORT_SKEW := ⟨681, h, rfl⟩
theorem has_RING_PORT_TRAIN_CNT {m} (h : Nat.testBit m 682 = true) : Has m RING_PORT_TRAIN_CNT := ⟨682, h, rfl⟩
theorem has_RING_PRES_HI {m} (h : Nat.testBit m 683 = true) : Has m RING_PRES_HI := ⟨683, h, rfl⟩
theorem has_RING_PRES_LO {m} (h : Nat.testBit m 684 = true) : Has m RING_PRES_LO := ⟨684, h, rfl⟩
theorem has_RSM_ECC_CNT {m} (h : Nat.testBit m 685 = true) : Has m RSM_ECC_CNT := ⟨685, h, rfl⟩
theorem has_RSM_UNC_CHECK {m} (h : Nat.testBit m 686 = true) : Has m RSM_UNC_CHECK := ⟨686, h, rfl⟩
theorem has_RSM_UNC_LANE {m} (h : Nat.testBit m 687 = true) : Has m RSM_UNC_LANE := ⟨687, h, rfl⟩
theorem has_RSM_UNC_PHASE {m} (h : Nat.testBit m 688 = true) : Has m RSM_UNC_PHASE := ⟨688, h, rfl⟩
theorem has_RSM_UNC_TAP {m} (h : Nat.testBit m 689 = true) : Has m RSM_UNC_TAP := ⟨689, h, rfl⟩
theorem has_RSM_UNC_VALID {m} (h : Nat.testBit m 690 = true) : Has m RSM_UNC_VALID := ⟨690, h, rfl⟩
theorem has_SEC_STAT_AUTH_REQ {m} (h : Nat.testBit m 691 = true) : Has m SEC_STAT_AUTH_REQ := ⟨691, h, rfl⟩
theorem has_SEC_STAT_CHAIN_KEY {m} (h : Nat.testBit m 692 = true) : Has m SEC_STAT_CHAIN_KEY := ⟨692, h, rfl⟩
theorem has_SEC_STAT_IMG_KEY {m} (h : Nat.testBit m 693 = true) : Has m SEC_STAT_IMG_KEY := ⟨693, h, rfl⟩
theorem has_SLN_STAT_SEARCH_CNT {m} (h : Nat.testBit m 694 = true) : Has m SLN_STAT_SEARCH_CNT := ⟨694, h, rfl⟩
theorem has_SMEM_DATA {m} (h : Nat.testBit m 695 = true) : Has m SMEM_DATA := ⟨695, h, rfl⟩
theorem has_SMEM_STAT_ADDR4 {m} (h : Nat.testBit m 696 = true) : Has m SMEM_STAT_ADDR4 := ⟨696, h, rfl⟩
theorem has_SMEM_STAT_DIV {m} (h : Nat.testBit m 697 = true) : Has m SMEM_STAT_DIV := ⟨697, h, rfl⟩
theorem has_SMEM_STAT_MODE {m} (h : Nat.testBit m 698 = true) : Has m SMEM_STAT_MODE := ⟨698, h, rfl⟩
theorem has_SMEM_STAT_READY {m} (h : Nat.testBit m 699 = true) : Has m SMEM_STAT_READY := ⟨699, h, rfl⟩
theorem has_SMEM_STAT_SFDP_OK {m} (h : Nat.testBit m 700 = true) : Has m SMEM_STAT_SFDP_OK := ⟨700, h, rfl⟩
theorem has_SMEM_STAT_SIZE_LOG2 {m} (h : Nat.testBit m 701 = true) : Has m SMEM_STAT_SIZE_LOG2 := ⟨701, h, rfl⟩
theorem has_SPT_ECC_CNT {m} (h : Nat.testBit m 702 = true) : Has m SPT_ECC_CNT := ⟨702, h, rfl⟩
theorem has_STM_ECC_CORR {m} (h : Nat.testBit m 703 = true) : Has m STM_ECC_CORR := ⟨703, h, rfl⟩
theorem has_STM_ECC_SOFT {m} (h : Nat.testBit m 704 = true) : Has m STM_ECC_SOFT := ⟨704, h, rfl⟩
theorem has_STM_GEOM_BPC {m} (h : Nat.testBit m 705 = true) : Has m STM_GEOM_BPC := ⟨705, h, rfl⟩
theorem has_STM_GEOM_CE_MASK {m} (h : Nat.testBit m 706 = true) : Has m STM_GEOM_CE_MASK := ⟨706, h, rfl⟩
theorem has_STM_GEOM_LUNS {m} (h : Nat.testBit m 707 = true) : Has m STM_GEOM_LUNS := ⟨707, h, rfl⟩
theorem has_STM_GEOM_PAGE {m} (h : Nat.testBit m 708 = true) : Has m STM_GEOM_PAGE := ⟨708, h, rfl⟩
theorem has_STM_GEOM_RAW {m} (h : Nat.testBit m 709 = true) : Has m STM_GEOM_RAW := ⟨709, h, rfl⟩
theorem has_STM_IF_MTS {m} (h : Nat.testBit m 710 = true) : Has m STM_IF_MTS := ⟨710, h, rfl⟩
theorem has_STM_RETIRED {m} (h : Nat.testBit m 711 = true) : Has m STM_RETIRED := ⟨711, h, rfl⟩
theorem has_STM_STAT_READY {m} (h : Nat.testBit m 712 = true) : Has m STM_STAT_READY := ⟨712, h, rfl⟩
theorem has_STM_STAT_USABLE {m} (h : Nat.testBit m 713 = true) : Has m STM_STAT_USABLE := ⟨713, h, rfl⟩
theorem has_SYN_LOL_CNT_A {m} (h : Nat.testBit m 714 = true) : Has m SYN_LOL_CNT_A := ⟨714, h, rfl⟩
theorem has_SYN_LOL_CNT_B {m} (h : Nat.testBit m 715 = true) : Has m SYN_LOL_CNT_B := ⟨715, h, rfl⟩
theorem has_SYS_GPIO_EDGE_FALL {m} (h : Nat.testBit m 716 = true) : Has m SYS_GPIO_EDGE_FALL := ⟨716, h, rfl⟩
theorem has_SYS_GPIO_EDGE_RISE {m} (h : Nat.testBit m 717 = true) : Has m SYS_GPIO_EDGE_RISE := ⟨717, h, rfl⟩
theorem has_SYS_STATE_DEV_ID {m} (h : Nat.testBit m 718 = true) : Has m SYS_STATE_DEV_ID := ⟨718, h, rfl⟩
theorem has_SYS_STATE_VERTEX {m} (h : Nat.testBit m 719 = true) : Has m SYS_STATE_VERTEX := ⟨719, h, rfl⟩
theorem has_SYS_SUPPLY_NVQ_1V2 {m} (h : Nat.testBit m 720 = true) : Has m SYS_SUPPLY_NVQ_1V2 := ⟨720, h, rfl⟩
theorem has_SYS_SUPPLY_OVER_STICKY {m} (h : Nat.testBit m 721 = true) : Has m SYS_SUPPLY_OVER_STICKY := ⟨721, h, rfl⟩
theorem has_SYS_SUPPLY_UNDER_STICKY {m} (h : Nat.testBit m 722 = true) : Has m SYS_SUPPLY_UNDER_STICKY := ⟨722, h, rfl⟩
theorem has_TDD_STAT_ACT_BANK {m} (h : Nat.testBit m 723 = true) : Has m TDD_STAT_ACT_BANK := ⟨723, h, rfl⟩
theorem has_TDD_STAT_LOADED {m} (h : Nat.testBit m 724 = true) : Has m TDD_STAT_LOADED := ⟨724, h, rfl⟩
theorem has_TIME_ARC_DN {m} (h : Nat.testBit m 725 = true) : Has m TIME_ARC_DN := ⟨725, h, rfl⟩
theorem has_TIME_ARC_UP {m} (h : Nat.testBit m 726 = true) : Has m TIME_ARC_UP := ⟨726, h, rfl⟩
theorem has_TIME_DET_STAT_PCI {m} (h : Nat.testBit m 727 = true) : Has m TIME_DET_STAT_PCI := ⟨727, h, rfl⟩
theorem has_TIME_DET_STAT_SINR {m} (h : Nat.testBit m 728 = true) : Has m TIME_DET_STAT_SINR := ⟨728, h, rfl⟩
theorem has_TIME_OSC_KV {m} (h : Nat.testBit m 729 = true) : Has m TIME_OSC_KV := ⟨729, h, rfl⟩
theorem has_TIME_PPSI_FRAC {m} (h : Nat.testBit m 730 = true) : Has m TIME_PPSI_FRAC := ⟨730, h, rfl⟩
theorem has_TIME_PPSI_SEC {m} (h : Nat.testBit m 731 = true) : Has m TIME_PPSI_SEC := ⟨731, h, rfl⟩
theorem has_TIME_STAT_CAL_SET {m} (h : Nat.testBit m 732 = true) : Has m TIME_STAT_CAL_SET := ⟨732, h, rfl⟩
theorem has_TIME_STAT_REF_CODE {m} (h : Nat.testBit m 733 = true) : Has m TIME_STAT_REF_CODE := ⟨733, h, rfl⟩
theorem has_TWC_POLL_SKIP_CNT {m} (h : Nat.testBit m 734 = true) : Has m TWC_POLL_SKIP_CNT := ⟨734, h, rfl⟩
theorem has_TWC_STAT_SDA {m} (h : Nat.testBit m 735 = true) : Has m TWC_STAT_SDA := ⟨735, h, rfl⟩
theorem has_TWC_STAT_STUCK {m} (h : Nat.testBit m 736 = true) : Has m TWC_STAT_STUCK := ⟨736, h, rfl⟩
theorem has_TWT_CFG_ADDR {m} (h : Nat.testBit m 737 = true) : Has m TWT_CFG_ADDR := ⟨737, h, rfl⟩
theorem has_TWT_MBOX_IN {m} (h : Nat.testBit m 738 = true) : Has m TWT_MBOX_IN := ⟨738, h, rfl⟩
theorem has_TWT_ROWR_CNT {m} (h : Nat.testBit m 739 = true) : Has m TWT_ROWR_CNT := ⟨739, h, rfl⟩
theorem has_TWT_RSACK_CNT {m} (h : Nat.testBit m 740 = true) : Has m TWT_RSACK_CNT := ⟨740, h, rfl⟩
theorem has_TWT_STUCK_CNT {m} (h : Nat.testBit m 741 = true) : Has m TWT_STUCK_CNT := ⟨741, h, rfl⟩
theorem has_HIF_WINB_WR_CNT {m} (h : Nat.testBit m 742 = true) : Has m HIF_WINB_WR_CNT := ⟨742, h, rfl⟩

/-- `s` agrees with `a` in each register field and each piece of the state whose number the mask does not hold. -/
structure Off (m : Nat) (a s : State) : Prop where
  regs : ∀ k d, (∀ f, Has m f → ∀ i, f.has i = true → f.key i ≠ k) → Tab.get d s.regs k = Tab.get d a.regs k
  mem : ∀ x, (∀ r, Nat.testBit m (Region.no r) = true → r.has x = false) → memGet s.mem x = memGet a.mem x
  now : s.now = a.now ∨ Nat.testBit m 6 = true
  free : s.free = a.free ∨ Nat.testBit m 7 = true
  pins : s.pins = a.pins ∨ Nat.testBit m 8 = true
  sys : s.sys = a.sys ∨ Nat.testBit m 9 = true
  boot : s.boot = a.boot ∨ Nat.testBit m 10 = true
  fc : s.fc = a.fc ∨ Nat.testBit m 11 = true
  pb : s.pb = a.pb ∨ Nat.testBit m 12 = true
  cur : s.cur = a.cur ∨ Nat.testBit m 13 = true
  prot : s.prot = a.prot ∨ Nat.testBit m 14 = true
  lanes : s.lanes = a.lanes ∨ Nat.testBit m 15 = true
  conv : s.conv = a.conv ∨ Nat.testBit m 16 = true
  rfc : s.rfc = a.rfc ∨ Nat.testBit m 17 = true
  cnx : s.cnx = a.cnx ∨ Nat.testBit m 18 = true
  spt : s.spt = a.spt ∨ Nat.testBit m 19 = true
  time : s.time = a.time ∨ Nat.testBit m 20 = true
  tdd : s.tdd = a.tdd ∨ Nat.testBit m 21 = true
  cte : s.cte = a.cte ∨ Nat.testBit m 22 = true
  fab : s.fab = a.fab ∨ Nat.testBit m 23 = true
  stm : s.stm = a.stm ∨ Nat.testBit m 24 = true
  hif : s.hif = a.hif ∨ Nat.testBit m 25 = true
  ring : s.ring = a.ring ∨ Nat.testBit m 26 = true
  hk : s.hk = a.hk ∨ Nat.testBit m 27 = true
  thm : s.thm = a.thm ∨ Nat.testBit m 28 = true
  pwm : s.pwm = a.pwm ∨ Nat.testBit m 29 = true
  twt : s.twt = a.twt ∨ Nat.testBit m 30 = true
  twc : s.twc = a.twc ∨ Nat.testBit m 31 = true
  smem : s.smem = a.smem ∨ Nat.testBit m 32 = true
  marks : s.marks = a.marks ∨ Nat.testBit m 33 = true
  pending : s.pending = a.pending ∨ Nat.testBit m 34 = true

theorem Off.refl {m : Nat} {a : State} : Off m a a :=
  ⟨fun _ _ _ => rfl, fun _ _ => rfl, .inl rfl, .inl rfl, .inl rfl, .inl rfl, .inl rfl, .inl rfl, .inl rfl, .inl rfl, .inl rfl, .inl rfl, .inl rfl, .inl rfl, .inl rfl, .inl rfl, .inl rfl, .inl rfl, .inl rfl, .inl rfl, .inl rfl, .inl rfl, .inl rfl, .inl rfl, .inl rfl, .inl rfl, .inl rfl, .inl rfl, .inl rfl, .inl rfl, .inl rfl⟩

theorem tb {c m n : Nat} (hm : c &&& m = c) (hn : Nat.testBit c n = true) : Nat.testBit m n = true := by
  have h := congrArg (fun x => Nat.testBit x n) hm
  simp only [Nat.testBit_and, hn, Bool.true_and] at h
  exact h
theorem sb {c c' m : Nat} (hm : c &&& m = c) (h : c' &&& c = c') : c' &&& m = c' := by
  rw [← h, Nat.and_assoc, hm]


theorem Off.upd {m : Nat} {a s t : State} (h : Off m a s) (h_regs : t.regs = s.regs := by rfl)
    (h_mem : t.mem = s.mem := by rfl)
    (h_now : t.now = s.now ∨ Nat.testBit m 6 = true := by exact .inl rfl)
    (h_free : t.free = s.free ∨ Nat.testBit m 7 = true := by exact .inl rfl)
    (h_pins : t.pins = s.pins ∨ Nat.testBit m 8 = true := by exact .inl rfl)
    (h_sys : t.sys = s.sys ∨ Nat.testBit m 9 = true := by exact .inl rfl)
    (h_boot : t.boot = s.boot ∨ Nat.testBit m 10 = true := by exact .inl rfl)
    (h_fc : t.fc = s.fc ∨ Nat.testBit m 11 = true := by exact .inl rfl)
    (h_pb : t.pb = s.pb ∨ Nat.testBit m 12 = true := by exact .inl rfl)
    (h_cur : t.cur = s.cur ∨ Nat.testBit m 13 = true := by exact .inl rfl)
    (h_prot : t.prot = s.prot ∨ Nat.testBit m 14 = true := by exact .inl rfl)
    (h_lanes : t.lanes = s.lanes ∨ Nat.testBit m 15 = true := by exact .inl rfl)
    (h_conv : t.conv = s.conv ∨ Nat.testBit m 16 = true := by exact .inl rfl)
    (h_rfc : t.rfc = s.rfc ∨ Nat.testBit m 17 = true := by exact .inl rfl)
    (h_cnx : t.cnx = s.cnx ∨ Nat.testBit m 18 = true := by exact .inl rfl)
    (h_spt : t.spt = s.spt ∨ Nat.testBit m 19 = true := by exact .inl rfl)
    (h_time : t.time = s.time ∨ Nat.testBit m 20 = true := by exact .inl rfl)
    (h_tdd : t.tdd = s.tdd ∨ Nat.testBit m 21 = true := by exact .inl rfl)
    (h_cte : t.cte = s.cte ∨ Nat.testBit m 22 = true := by exact .inl rfl)
    (h_fab : t.fab = s.fab ∨ Nat.testBit m 23 = true := by exact .inl rfl)
    (h_stm : t.stm = s.stm ∨ Nat.testBit m 24 = true := by exact .inl rfl)
    (h_hif : t.hif = s.hif ∨ Nat.testBit m 25 = true := by exact .inl rfl)
    (h_ring : t.ring = s.ring ∨ Nat.testBit m 26 = true := by exact .inl rfl)
    (h_hk : t.hk = s.hk ∨ Nat.testBit m 27 = true := by exact .inl rfl)
    (h_thm : t.thm = s.thm ∨ Nat.testBit m 28 = true := by exact .inl rfl)
    (h_pwm : t.pwm = s.pwm ∨ Nat.testBit m 29 = true := by exact .inl rfl)
    (h_twt : t.twt = s.twt ∨ Nat.testBit m 30 = true := by exact .inl rfl)
    (h_twc : t.twc = s.twc ∨ Nat.testBit m 31 = true := by exact .inl rfl)
    (h_smem : t.smem = s.smem ∨ Nat.testBit m 32 = true := by exact .inl rfl)
    (h_marks : t.marks = s.marks ∨ Nat.testBit m 33 = true := by exact .inl rfl)
    (h_pending : t.pending = s.pending ∨ Nat.testBit m 34 = true := by exact .inl rfl) : Off m a t where
  regs k d hk := by rw [h_regs]; exact h.regs k d hk
  mem x hx := by rw [h_mem]; exact h.mem x hx
  now := h_now.elim (fun e => e ▸ h.now) .inr
  free := h_free.elim (fun e => e ▸ h.free) .inr
  pins := h_pins.elim (fun e => e ▸ h.pins) .inr
  sys := h_sys.elim (fun e => e ▸ h.sys) .inr
  boot := h_boot.elim (fun e => e ▸ h.boot) .inr
  fc := h_fc.elim (fun e => e ▸ h.fc) .inr
  pb := h_pb.elim (fun e => e ▸ h.pb) .inr
  cur := h_cur.elim (fun e => e ▸ h.cur) .inr
  prot := h_prot.elim (fun e => e ▸ h.prot) .inr
  lanes := h_lanes.elim (fun e => e ▸ h.lanes) .inr
  conv := h_conv.elim (fun e => e ▸ h.conv) .inr
  rfc := h_rfc.elim (fun e => e ▸ h.rfc) .inr
  cnx := h_cnx.elim (fun e => e ▸ h.cnx) .inr
  spt := h_spt.elim (fun e => e ▸ h.spt) .inr
  time := h_time.elim (fun e => e ▸ h.time) .inr
  tdd := h_tdd.elim (fun e => e ▸ h.tdd) .inr
  cte := h_cte.elim (fun e => e ▸ h.cte) .inr
  fab := h_fab.elim (fun e => e ▸ h.fab) .inr
  stm := h_stm.elim (fun e => e ▸ h.stm) .inr
  hif := h_hif.elim (fun e => e ▸ h.hif) .inr
  ring := h_ring.elim (fun e => e ▸ h.ring) .inr
  hk := h_hk.elim (fun e => e ▸ h.hk) .inr
  thm := h_thm.elim (fun e => e ▸ h.thm) .inr
  pwm := h_pwm.elim (fun e => e ▸ h.pwm) .inr
  twt := h_twt.elim (fun e => e ▸ h.twt) .inr
  twc := h_twc.elim (fun e => e ▸ h.twc) .inr
  smem := h_smem.elim (fun e => e ▸ h.smem) .inr
  marks := h_marks.elim (fun e => e ▸ h.marks) .inr
  pending := h_pending.elim (fun e => e ▸ h.pending) .inr

theorem Off.wr {m : Nat} {a s : State} {f : Fld} (h : Off m a s) (hf : Has m f) (i v : Nat) : Off m a (s.wr f i v) where
  regs k d hk := by
    unfold State.wr
    simp only
    split
    · rename_i e
      rw [Tab.get_set_ne _ _ (hk f hf i e)]; exact h.regs k d hk
    · exact h.regs k d hk
  mem := h.mem
  now := h.now
  free := h.free
  pins := h.pins
  sys := h.sys
  boot := h.boot
  fc := h.fc
  pb := h.pb
  cur := h.cur
  prot := h.prot
  lanes := h.lanes
  conv := h.conv
  rfc := h.rfc
  cnx := h.cnx
  spt := h.spt
  time := h.time
  tdd := h.tdd
  cte := h.cte
  fab := h.fab
  stm := h.stm
  hif := h.hif
  ring := h.ring
  hk := h.hk
  thm := h.thm
  pwm := h.pwm
  twt := h.twt
  twc := h.twc
  smem := h.smem
  marks := h.marks
  pending := h.pending

theorem Region.no_of_has {r : Region} {o x : Nat} (ho : o + 4 ≤ r.size) (hx : r.has x = false) :
    x < r.lo + o ∨ r.lo + o + 4 ≤ x := by
  simp only [Region.has, Bool.and_eq_false_iff, decide_eq_false_iff_not, Nat.not_le, Nat.not_lt] at hx
  omega

theorem Off.stIn {m : Nat} {a s : State} {r : Region} (h : Off m a s) (hr : Nat.testBit m (Region.no r) = true) (o : Nat)
    (w : Word) : Off m a (s.stIn r o w) := by
  unfold State.stIn
  split
  · rename_i ho
    exact { h with
      mem := fun x hx => (ld8_st_ne w (Region.no_of_has ho (hx r hr))).trans (h.mem x hx) }
  · exact h

section
variable {m : Nat} {a : State} {α : Type} {c : Prop} [Decidable c]
theorem Off.ite {x y : State} (hx : Off m a x) (hy : Off m a y) : Off m a (if c then x else y) := by split <;> assumption
theorem Off.ite1 {x y : State × α} (hx : Off m a x.1) (hy : Off m a y.1) : Off m a (if c then x else y).1 := by
  split <;> assumption
theorem Off.ite2 {x y : α × State} (hx : Off m a x.2) (hy : Off m a y.2) : Off m a (if c then x else y).2 := by
  split <;> assumption
theorem Off.pr1 {s : State} {x : α} (h : Off m a s) : Off m a (s, x).1 := h
theorem Off.pr2 {s : State} {x : α} (h : Off m a s) : Off m a (x, s).2 := h
theorem Off.fst {p : State × α} {s : State} {x : α} (e : p = (s, x)) (h : Off m a p.1) : Off m a s := by subst e; exact h
theorem Off.snd {p : α × State} {s : State} {x : α} (e : p = (x, s)) (h : Off m a p.2) : Off m a s := by subst e; exact h
theorem Off.foldl {s : State} {f : State → α → State} (h : Off m a s) (hf : ∀ y, Off m a y → ∀ b, Off m a (f y b))
    (l : List α) : Off m a (l.foldl f s) := by
  induction l generalizing s with
  | nil => exact h
  | cons b l ih => exact ih (hf s h b)
end

/-- An outcome whose next state agrees with `s` outside the mask. -/
structure OutOff (m : Nat) (s : State) (o : Host.Outcome State Fault Refusal) : Prop where
  of : ∀ t, o = .next t → Off m s t
theorem OutOff.next {m : Nat} {s t : State} (h : Off m s t) : OutOff m s (.next t) := ⟨fun _ e => by cases e; exact h⟩

end Sys2Proof.Machine
end

