-- ==== Sys2Proof/Laws/OffOps.lean ====
section
/-! SUPPORT. What the operations of Machine/Ops.lean reach: the pieces of the state and the register fields whose
numbers are set in the mask of each (`F`). -/
namespace Sys2Proof.Machine
open Sys2Proof
set_option Elab.async false

def F.State.setHif : Nat := 0x2000000
theorem State.setHif_off {m a} (hm : F.State.setHif &&& m = F.State.setHif) (h0' : Off m a s0') (a1') : Off m a (State.setHif s0' a1') := by
  unfold State.setHif; exact (.upd h0' (h_hif := .inr (tb hm (by decide))))
theorem State.wr_off {m a s f} (h : Off m a s) (hf : Has m f) (i v) : Off m a (State.wr s f i v) := .wr h hf i v

theorem State.satAdd_off {m a} (h0' : Off m a s0') (p1' : Has m a1') (a2') (a3') : Off m a (State.satAdd s0' a1' a2' a3') := by
  unfold State.satAdd; exact (State.wr_off h0' p1' ..)
theorem State.satInc_off {m a} (h0' : Off m a s0') (p1' : Has m a1') (a2') : Off m a (State.satInc s0' a1' a2') := by
  unfold State.satInc; exact (State.satAdd_off h0' p1' ..)
def F.State.setFcSrc : Nat := 0x800
theorem State.setFcSrc_off {m a} (hm : F.State.setFcSrc &&& m = F.State.setFcSrc) (h0' : Off m a s0') (a1') (a2') : Off m a (State.setFcSrc s0' a1' a2') := by
  unfold State.setFcSrc; exact (.upd h0' (h_fc := .inr (tb hm (by decide))))
theorem State.orBits_off {m a} (h0' : Off m a s0') (p1' : Has m a1') (a2') (a3') : Off m a (State.orBits s0' a1' a2' a3') := by
  unfold State.orBits; exact (State.wr_off h0' p1' ..)
def F.State.setPb : Nat := 0x1000
theorem State.setPb_off {m a} (hm : F.State.setPb &&& m = F.State.setPb) (h0' : Off m a s0') (a1') : Off m a (State.setPb s0' a1') := by
  unfold State.setPb; exact (.upd h0' (h_pb := .inr (tb hm (by decide))))
def F.State.setFc : Nat := 0x800
theorem State.setFc_off {m a} (hm : F.State.setFc &&& m = F.State.setFc) (h0' : Off m a s0') (a1') : Off m a (State.setFc s0' a1') := by
  unfold State.setFc; exact (.upd h0' (h_fc := .inr (tb hm (by decide))))
theorem State.cond_off {m a s} (h : Off m a s) {f : State → State} (hf : ∀ y, Off m a y → Off m a (f y)) (c) :
    Off m a (State.cond s c f) := by
  unfold State.cond; exact .ite (hf s h) h

def F.State.setStm : Nat := 0x1000000
theorem State.setStm_off {m a} (hm : F.State.setStm &&& m = F.State.setStm) (h0' : Off m a s0') (a1') : Off m a (State.setStm s0' a1') := by
  unfold State.setStm; exact (.upd h0' (h_stm := .inr (tb hm (by decide))))
def F.State.setRing : Nat := 0x4000000
theorem State.setRing_off {m a} (hm : F.State.setRing &&& m = F.State.setRing) (h0' : Off m a s0') (a1') : Off m a (State.setRing s0' a1') := by
  unfold State.setRing; exact (.upd h0' (h_ring := .inr (tb hm (by decide))))
theorem State.clrBits_off {m a} (h0' : Off m a s0') (p1' : Has m a1') (a2') (a3') : Off m a (State.clrBits s0' a1' a2' a3') := by
  unfold State.clrBits; exact (State.wr_off h0' p1' ..)
theorem State.stIn_off {m a s r} (h : Off m a s) (hr : Nat.testBit m (Region.no r) = true) (o w) : Off m a (State.stIn s r o w) :=
  .stIn h hr o w

theorem State.stF_off {m a} (h0' : Off m a s0') (p1' : Nat.testBit m (Region.no a1') = true) (a2') (a3') (a4') (a5') : Off m a (State.stF s0' a1' a2' a3' a4' a5') := by
  unfold State.stF; exact (State.stIn_off h0' p1' ..)
def F.State.setCnx : Nat := 0x40000
theorem State.setCnx_off {m a} (hm : F.State.setCnx &&& m = F.State.setCnx) (h0' : Off m a s0') (a1') : Off m a (State.setCnx s0' a1') := by
  unfold State.setCnx; exact (.upd h0' (h_cnx := .inr (tb hm (by decide))))
theorem State.wrWord_off {m a s fs} (h : Off m a s) (hf : HasL m fs) (i v) : Off m a (State.wrWord s fs i v) := by
  unfold State.wrWord
  induction fs generalizing s with
  | nil => exact h
  | cons f fs ih => exact ih (.wr h (hf f (List.mem_cons_self ..)) ..) (fun g hg => hf g (List.mem_cons_of_mem _ hg))

def F.State.setClu : Nat := 0x40000
theorem State.setClu_off {m a} (hm : F.State.setClu &&& m = F.State.setClu) (h0' : Off m a s0') (a1') (a2') : Off m a (State.setClu s0' a1' a2') := by
  unfold State.setClu; exact (.upd h0' (h_cnx := .inr (tb hm (by decide))))
def F.State.setPath : Nat := 0x40000
theorem State.setPath_off {m a} (hm : F.State.setPath &&& m = F.State.setPath) (h0' : Off m a s0') (a1') (a2') : Off m a (State.setPath s0' a1' a2') := by
  unfold State.setPath; exact (.upd h0' (h_cnx := .inr (tb hm (by decide))))
def F.State.setRfc : Nat := 0x20000
theorem State.setRfc_off {m a} (hm : F.State.setRfc &&& m = F.State.setRfc) (h0' : Off m a s0') (a1') : Off m a (State.setRfc s0' a1') := by
  unfold State.setRfc; exact (.upd h0' (h_rfc := .inr (tb hm (by decide))))
def F.State.setCport : Nat := 0x2000
theorem State.setCport_off {m a} (hm : F.State.setCport &&& m = F.State.setCport) (h0' : Off m a s0') (a1') (a2') : Off m a (State.setCport s0' a1' a2') := by
  unfold State.setCport; exact (.upd h0' (h_cur := .inr (tb hm (by decide))))
def F.State.setRport : Nat := 0x20000
theorem State.setRport_off {m a} (hm : F.State.setRport &&& m = F.State.setRport) (h0' : Off m a s0') (a1') (a2') : Off m a (State.setRport s0' a1' a2') := by
  unfold State.setRport; exact (.upd h0' (h_rfc := .inr (tb hm (by decide))))
def F.State.setCv : Nat := 0x10000
theorem State.setCv_off {m a} (hm : F.State.setCv &&& m = F.State.setCv) (h0' : Off m a s0') (a1') (a2') : Off m a (State.setCv s0' a1' a2') := by
  unfold State.setCv; exact (.upd h0' (h_conv := .inr (tb hm (by decide))))
def F.State.setLane : Nat := 0x8000
theorem State.setLane_off {m a} (hm : F.State.setLane &&& m = F.State.setLane) (h0' : Off m a s0') (a1') (a2') : Off m a (State.setLane s0' a1' a2') := by
  unfold State.setLane; exact (.upd h0' (h_lanes := .inr (tb hm (by decide))))
def F.State.setFab : Nat := 0x800000
theorem State.setFab_off {m a} (hm : F.State.setFab &&& m = F.State.setFab) (h0' : Off m a s0') (a1') : Off m a (State.setFab s0' a1') := by
  unfold State.setFab; exact (.upd h0' (h_fab := .inr (tb hm (by decide))))
theorem State.putBit_off {m a} (h0' : Off m a s0') (p1' : Has m a1') (a2') (a3') (a4') : Off m a (State.putBit s0' a1' a2' a3' a4') := by
  unfold State.putBit; exact (.ite (State.orBits_off h0' p1' ..) (State.clrBits_off h0' p1' ..))
def F.State.setTwt : Nat := 0x40000000
theorem State.setTwt_off {m a} (hm : F.State.setTwt &&& m = F.State.setTwt) (h0' : Off m a s0') (a1') : Off m a (State.setTwt s0' a1') := by
  unfold State.setTwt; exact (.upd h0' (h_twt := .inr (tb hm (by decide))))
def F.State.pass : Nat := 0x100040
theorem State.pass_off {m a} (hm : F.State.pass &&& m = F.State.pass) (h0' : Off m a s0') (a1') : Off m a (State.pass s0' a1') := by
  unfold State.pass; exact (by extract_lets -merge x0 x1; (try clear_value x0 x1); exact (.upd h0' (h_now := .inr (tb hm (by decide))) (h_time := .inr (tb hm (by decide)))))
def F.State.reach : Nat := 0x100040
theorem State.reach_off {m a} (hm : F.State.reach &&& m = F.State.reach) (h0' : Off m a s0') (a1') : Off m a (State.reach s0' a1') := by
  unfold State.reach; exact (.ite (State.pass_off (sb hm (by decide)) h0' ..) h0')
def F.State.setTime : Nat := 0x100000
theorem State.setTime_off {m a} (hm : F.State.setTime &&& m = F.State.setTime) (h0' : Off m a s0') (a1') : Off m a (State.setTime s0' a1') := by
  unfold State.setTime; exact (.upd h0' (h_time := .inr (tb hm (by decide))))
theorem State.wrBits_off {m a} (h0' : Off m a s0') (p1' : Has m a1') (a2') (a3') (a4') (a5') : Off m a (State.wrBits s0' a1' a2' a3' a4' a5') := by
  unfold State.wrBits; exact (State.wr_off h0' p1' ..)
def F.State.setHk : Nat := 0x8000000
theorem State.setHk_off {m a} (hm : F.State.setHk &&& m = F.State.setHk) (h0' : Off m a s0') (a1') : Off m a (State.setHk s0' a1') := by
  unfold State.setHk; exact (.upd h0' (h_hk := .inr (tb hm (by decide))))
def F.State.setBoot : Nat := 0x400
theorem State.setBoot_off {m a} (hm : F.State.setBoot &&& m = F.State.setBoot) (h0' : Off m a s0') (a1') : Off m a (State.setBoot s0' a1') := by
  unfold State.setBoot; exact (.upd h0' (h_boot := .inr (tb hm (by decide))))
def F.State.setSys : Nat := 0x200
theorem State.setSys_off {m a} (hm : F.State.setSys &&& m = F.State.setSys) (h0' : Off m a s0') (a1') : Off m a (State.setSys s0' a1') := by
  unfold State.setSys; exact (.upd h0' (h_sys := .inr (tb hm (by decide))))
def F.State.draw : Nat := 0x80
theorem State.draw_off {m a} (hm : F.State.draw &&& m = F.State.draw) (h0' : Off m a s0') : Off m a (State.draw s0').2 := by
  unfold State.draw; exact (.pr2 (.upd h0' (h_free := .inr (tb hm (by decide)))))
theorem State.wrPair_off {m a} (h0' : Off m a s0') (p1' : Has m a1') (p2' : Has m a2') (a3') : Off m a (State.wrPair s0' a1' a2' a3') := by
  unfold State.wrPair; exact (State.wr_off (State.wr_off h0' p1' ..) p2' ..)
def F.State.mark : Nat := 0x200000000
theorem State.mark_off {m a} (hm : F.State.mark &&& m = F.State.mark) (h0' : Off m a s0') (a1') : Off m a (State.mark s0' a1') := by
  unfold State.mark; exact (.upd h0' (h_marks := .inr (tb hm (by decide))))
def F.State.toMul : Nat := 0x200100040
theorem State.toMul_off {m a} (hm : F.State.toMul &&& m = F.State.toMul) (h0' : Off m a s0') (a1') (a2') (a3') : Off m a (State.toMul s0' a1' a2' a3') := by
  unfold State.toMul; exact (by extract_lets -merge x0; (try clear_value x0); exact (State.mark_off (sb hm (by decide)) (.ite h0' (State.reach_off (sb hm (by decide)) h0' ..)) ..))
theorem State.inc_off {m a} (h0' : Off m a s0') (p1' : Has m a1') (a2') : Off m a (State.inc s0' a1' a2') := by
  unfold State.inc; exact (State.wr_off h0' p1' ..)
theorem State.wrS_off {m a} (h0' : Off m a s0') (p1' : Has m a1') (a2') (a3') : Off m a (State.wrS s0' a1' a2' a3') := by
  unfold State.wrS; exact (State.wr_off h0' p1' ..)
theorem State.wrSat_off {m a} (h0' : Off m a s0') (p1' : Has m a1') (a2') (a3') : Off m a (State.wrSat s0' a1' a2' a3') := by
  unfold State.wrSat; exact (State.wrS_off h0' p1' ..)
def F.State.setTod : Nat := 0x100000
theorem State.setTod_off {m a} (hm : F.State.setTod &&& m = F.State.setTod) (h0' : Off m a s0') (a1') : Off m a (State.setTod s0' a1') := by
  unfold State.setTod; exact (.upd h0' (h_time := .inr (tb hm (by decide))))
def F.State.setThm : Nat := 0x10000000
theorem State.setThm_off {m a} (hm : F.State.setThm &&& m = F.State.setThm) (h0' : Off m a s0') (a1') : Off m a (State.setThm s0' a1') := by
  unfold State.setThm; exact (.upd h0' (h_thm := .inr (tb hm (by decide))))
theorem State.each_off {α : Type} {m a s} (h : Off m a s) {f : State → α → State}
    (hf : ∀ y, Off m a y → ∀ b, Off m a (f y b)) (l) : Off m a (State.each s l f) := .foldl h hf l


end Sys2Proof.Machine
end

