-- ==== Sys2Proof/Laws/OffFlags.lean ====
section
/-! SUPPORT. What the operations of Machine/Flags.lean reach: the pieces of the state and the register fields whose
numbers are set in the mask of each (`F`). -/
namespace Sys2Proof.Machine
open Sys2Proof
set_option Elab.async false

def F.State.stand : Nat := 0x800
theorem State.stand_off {m a} (hm : F.State.stand &&& m = F.State.stand) (h0' : Off m a s0') (a1') (a2') : Off m a (State.stand s0' a1' a2') := by
  unfold State.stand; exact (State.setFcSrc_off (sb hm (by decide)) h0' ..)
def F.State.int : Nat := 0x1000000000000
theorem State.int_off {m a} (hm : F.State.int &&& m = F.State.int) (h0' : Off m a s0') (a1') (a2') : Off m a (State.int s0' a1' a2') := by
  unfold State.int; exact (State.orBits_off h0' (has_PG_INT_STAT (tb hm (by decide))) ..)
def F.State.setInts : Nat := 0x1000000000000
theorem State.setInts_off {m a} (hm : F.State.setInts &&& m = F.State.setInts) (h0' : Off m a s0') (a1') : Off m a (State.setInts s0' a1') := by
  unfold State.setInts; exact (.foldl h0' (fun _ h0 _ => (State.int_off (sb hm (by decide)) h0 ..)) _)
def F.State.deliver : Nat := 0x800
theorem State.deliver_off {m a} (hm : F.State.deliver &&& m = F.State.deliver) (h0' : Off m a s0') (a1') : Off m a (State.deliver s0' a1') := by
  unfold State.deliver; exact (State.setFc_off (sb hm (by decide)) h0' ..)
def F.State.raiseInt : Nat := 0x3000000000800
theorem State.raiseInt_off {m a} (hm : F.State.raiseInt &&& m = F.State.raiseInt) (h0' : Off m a s0') (a1') (a2') (a3') (a4') : Off m a (State.raiseInt s0' a1' a2' a3' a4') := by
  unfold State.raiseInt; exact (by extract_lets -merge s0; have h1 : Off m a s0 := (by unfold s0; exact (State.orBits_off h0' (has_PG_ERR (tb hm (by decide))) ..)); (try clear_value s0); (try clear_value s0); exact (by split; (· exact (State.setInts_off (sb hm (by decide)) h1 ..)); (· exact (.ite (State.setInts_off (sb hm (by decide)) h1 ..) (State.deliver_off (sb hm (by decide)) h1 ..)))))
def F.State.raise : Nat := 0x3000000000800
theorem State.raise_off {m a} (hm : F.State.raise &&& m = F.State.raise) (h0' : Off m a s0') (a1') (a2') (a3') : Off m a (State.raise s0' a1' a2' a3') := by
  unfold State.raise; exact (State.raiseInt_off (sb hm (by decide)) h0' ..)
def F.State.refuse : Nat := 0x2000000000000
theorem State.refuse_off {m a} (hm : F.State.refuse &&& m = F.State.refuse) (h0' : Off m a s0') (a1') : Off m a (State.refuse s0' a1') := by
  unfold State.refuse; exact (State.orBits_off h0' (has_PG_ERR (tb hm (by decide))) ..)
def F.State.unstand : Nat := 0x800
theorem State.unstand_off {m a} (hm : F.State.unstand &&& m = F.State.unstand) (h0' : Off m a s0') (a1') (a2') : Off m a (State.unstand s0' a1' a2') := by
  unfold State.unstand; exact (State.setFcSrc_off (sb hm (by decide)) h0' ..)
def F.State.setStatus : Nat := 0xc0000000000000000000000000000000000000000000000000
theorem State.setStatus_off {m a} (hm : F.State.setStatus &&& m = F.State.setStatus) (h0' : Off m a s0') (a1') (a2') : Off m a (State.setStatus s0' a1' a2') := by
  unfold State.setStatus; exact (.ite (State.putBit_off h0' (has_FC_STATUS_LO (tb hm (by decide))) ..) (State.putBit_off h0' (has_FC_STATUS_HI (tb hm (by decide))) ..))

end Sys2Proof.Machine
end

