-- ==== Sys2Proof/Laws/OffJournal.lean ====
section
/-! SUPPORT. What the operations of Machine/Journal.lean reach: the pieces of the state and the register fields whose
numbers are set in the mask of each (`F`). -/
namespace Sys2Proof.Machine
open Sys2Proof
set_option Elab.async false

def F.State.visible : Nat := 0xd000000000000
theorem State.visible_off {m a} (hm : F.State.visible &&& m = F.State.visible) (h0' : Off m a s0') (a1') (a2') : Off m a (State.visible s0' a1' a2') := by
  unfold State.visible; exact (by extract_lets -merge s0 s2; have h1 : Off m a s0 := (by unfold s0; exact (State.orBits_off (State.orBits_off h0' (has_PG_INT_STAT (tb hm (by decide))) ..) (has_PG_INT_STAT (tb hm (by decide))) ..)); (try clear_value s0); have h3 : Off m a s2 := (by unfold s2; exact (State.setInts_off (sb hm (by decide)) h1 ..)); (try clear_value s2); (try clear_value s0 s2); exact (by split; (· exact (State.wr_off (State.wr_off h3 (has_FC_FF_SEQ_LO (tb hm (by decide))) ..) (has_FC_FF_SEQ_HI (tb hm (by decide))) ..)); (· exact h3)))
def F.State.closeOpen : Nat := 0x1000
theorem State.closeOpen_off {m a} (hm : F.State.closeOpen &&& m = F.State.closeOpen) (h0' : Off m a s0') : Off m a (State.closeOpen s0') := by
  unfold State.closeOpen; exact (by split; (· exact h0'); (· exact (by extract_lets -merge x0; (try clear_value x0); exact (State.setPb_off (sb hm (by decide)) h0' ..))))
def F.State.dropRec : Nat := 0xd000000000000
theorem State.dropRec_off {m a} (hm : F.State.dropRec &&& m = F.State.dropRec) (h0' : Off m a s0') (p2' : Has m a2') (a1') : Off m a (State.dropRec s0' a1' a2') := by
  unfold State.dropRec; exact (State.visible_off (sb hm (by decide)) (State.int_off (sb hm (by decide)) (State.satInc_off h0' p2' ..) ..) ..)
def F.State.number : Nat := 0xd000000001000
theorem State.number_off {m a} (hm : F.State.number &&& m = F.State.number) (h0' : Off m a s0') (a1') (a2') (a3') (a4') : Off m a (State.number s0' a1' a2' a3' a4') := by
  unfold State.number; exact (by extract_lets -merge x0 x1 x2 s3 s5; (try clear_value x0 x1 x2); have h4 : Off m a s3 := (by unfold s3; exact (State.setPb_off (sb hm (by decide)) h0' ..)); (try clear_value s3); have h6 : Off m a s5 := (by unfold s5; exact (State.visible_off (sb hm (by decide)) h4 ..)); (try clear_value s5); (try clear_value s3 s5); exact (State.cond_off h6 (fun _ h7 => (State.closeOpen_off (sb hm (by decide)) h7 ..)) ..))
def F.State.programmed : Nat := 0x1000000
theorem State.programmed_off {m a} (hm : F.State.programmed &&& m = F.State.programmed) (h0' : Off m a s0') (a1') (a2') (a3') : Off m a (State.programmed s0' a1' a2' a3') := by
  unfold State.programmed; exact (State.setStm_off (sb hm (by decide)) h0' ..)
def F.State.enterApron : Nat := 0x3d000001001000
theorem State.enterApron_off {m a} (hm : F.State.enterApron &&& m = F.State.enterApron) (h0' : Off m a s0') (a1') (a2') : Off m a (State.enterApron s0' a1' a2') := by
  unfold State.enterApron; exact (.ite (by extract_lets -merge x0 s1 s3; (try clear_value x0); have h2 : Off m a s1 := (by unfold s1; exact (State.setPb_off (sb hm (by decide)) h0' ..)); (try clear_value s1); have h5 : Off m a s3 := (by unfold s3; exact (State.cond_off h2 (fun _ h4 => (State.int_off (sb hm (by decide)) (State.setPb_off (sb hm (by decide)) h4 ..) ..)) ..)); (try clear_value s3); (try clear_value s1 s3); exact (State.number_off (sb hm (by decide)) h5 ..)) (by split; (· exact (by extract_lets -merge s6 s8; have h7 : Off m a s6 := (by unfold s6; exact (State.setPb_off (sb hm (by decide)) h0' ..)); (try clear_value s6); have h9 : Off m a s8 := (by unfold s8; exact (State.programmed_off (sb hm (by decide)) h7 ..)); (try clear_value s8); (try clear_value s6 s8); exact (State.number_off (sb hm (by decide)) (State.int_off (sb hm (by decide)) (State.satInc_off h9 (has_PB_DISP_CNT (tb hm (by decide))) ..) ..) ..))); (· exact (State.dropRec_off (sb hm (by decide)) h0' (has_PB_DROP_APRON (tb hm (by decide))) ..))))
def F.State.enter : Nat := 0x3d000001001000
theorem State.enter_off {m a} (hm : F.State.enter &&& m = F.State.enter) (h0' : Off m a s0') (a1') (a2') : Off m a (State.enter s0' a1' a2') := by
  unfold State.enter; exact (.ite (State.enterApron_off (sb hm (by decide)) h0' ..) (by extract_lets -merge s0 s2 x4 s5 x7; (try clear_value x4 x7); have h1 : Off m a s0 := (by unfold s0; exact (State.number_off (sb hm (by decide)) h0' ..)); (try clear_value s0); have h3 : Off m a s2 := (by unfold s2; exact (State.setPb_off (sb hm (by decide)) h1 ..)); (try clear_value s2); have h6 : Off m a s5 := (by unfold s5; exact (State.setPb_off (sb hm (by decide)) h3 ..)); (try clear_value s5); (try clear_value s0 s2 s5); exact (.ite h1 (.ite h3 (State.enterApron_off (sb hm (by decide)) (State.closeOpen_off (sb hm (by decide)) h6 ..) ..)))))
def F.State.arrive : Nat := 0x1ff000001001800
theorem State.arrive_off {m a} (hm : F.State.arrive &&& m = F.State.arrive) (h0' : Off m a s0') (a1') : Off m a (State.arrive s0' a1') := by
  unfold State.arrive; exact (by extract_lets -merge s0 s2 s4; have h1 : Off m a s0 := (by unfold s0; exact (State.closeOpen_off (sb hm (by decide)) h0' ..)); (try clear_value s0); have h3 : Off m a s2 := (by unfold s2; exact (State.setPb_off (sb hm (by decide)) h1 ..)); (try clear_value s2); have h5 : Off m a s4 := (by unfold s4; exact (State.satInc_off h3 (has_PB_WAIT_CNT (tb hm (by decide))) ..)); (try clear_value s4); (try clear_value s0 s2 s4); exact (.ite (State.dropRec_off (sb hm (by decide)) h1 (has_PB_DROP_FULL (tb hm (by decide))) ..) (.ite (State.dropRec_off (sb hm (by decide)) h1 (has_PB_DROP_STAGE (tb hm (by decide))) ..) (.ite (State.stand_off (sb hm (by decide)) (State.raise_off (sb hm (by decide)) h5 ..) ..) (State.enter_off (sb hm (by decide)) h1 ..)))))
def F.State.rlEnd : Nat := 0x1ff000001001800
theorem State.rlEnd_off {m a} (hm : F.State.rlEnd &&& m = F.State.rlEnd) (h0' : Off m a s0') : Off m a (State.rlEnd s0') := by
  unfold State.rlEnd; exact (by extract_lets -merge x0 s1; (try clear_value x0); have h2 : Off m a s1 := (by unfold s1; exact (State.setPb_off (sb hm (by decide)) h0' ..)); (try clear_value s1); (try clear_value s1); exact (.ite (.foldl h2 (fun _ h3 _ => (by split; (· exact (State.arrive_off (sb hm (by decide)) h3 ..)))) _) h2))
def F.State.record : Nat := 0x3ff000001001800
theorem State.record_off {m a} (hm : F.State.record &&& m = F.State.record) (h0' : Off m a s0') (a1') : Off m a (State.record s0' a1') := by
  unfold State.record; exact (.ite (by extract_lets -merge s0 x3 x4 s5; (try clear_value x3 x4); have h2 : Off m a s0 := (by unfold s0; exact (State.cond_off h0' (fun _ h1 => (State.rlEnd_off (sb hm (by decide)) h1 ..)) ..)); (try clear_value s0); have h6 : Off m a s5 := (by unfold s5; exact (State.setPb_off (sb hm (by decide)) h2 ..)); (try clear_value s5); (try clear_value s0 s5); exact (.ite (State.dropRec_off (sb hm (by decide)) h6 (has_PB_DROP_RL (tb hm (by decide))) ..) (State.arrive_off (sb hm (by decide)) (State.setPb_off (sb hm (by decide)) h2 ..) ..))) (by split; (· exact (State.arrive_off (sb hm (by decide)) h0' ..)); (· exact (.ite (by extract_lets -merge x7 s8 s10; (try clear_value x7); have h9 : Off m a s8 := (by unfold s8; exact (State.setPb_off (sb hm (by decide)) h0' ..)); (try clear_value s8); have h11 : Off m a s10 := (by unfold s10; exact (State.visible_off (sb hm (by decide)) h9 ..)); (try clear_value s10); (try clear_value s8 s10); exact (State.cond_off h11 (fun _ h12 => (State.closeOpen_off (sb hm (by decide)) h12 ..)) ..)) (State.arrive_off (sb hm (by decide)) h0' ..)))))
def F.State.holdRec : Nat := 0xd000000001000
theorem State.holdRec_off {m a} (hm : F.State.holdRec &&& m = F.State.holdRec) (h0' : Off m a s0') (a1') : Off m a (State.holdRec s0' a1') := by
  unfold State.holdRec; exact (State.visible_off (sb hm (by decide)) (State.setPb_off (sb hm (by decide)) h0' ..) ..)
def F.State.hold : Nat := 0xcf000000001800
theorem State.hold_off {m a} (hm : F.State.hold &&& m = F.State.hold) (h0' : Off m a s0') (a1') : Off m a (State.hold s0' a1') := by
  unfold State.hold; exact (by extract_lets -merge x0 s1; (try clear_value x0); have h2 : Off m a s1 := (by unfold s1; exact (State.setPb_off (sb hm (by decide)) h0' ..)); (try clear_value s1); (try clear_value s1); exact (.ite (State.dropRec_off (sb hm (by decide)) h0' (has_PB_DROP_STAGE (tb hm (by decide))) ..) (.ite (State.stand_off (sb hm (by decide)) (State.raise_off (sb hm (by decide)) (State.satInc_off h2 (has_PB_WAIT_CNT (tb hm (by decide))) ..) ..) ..) (State.holdRec_off (sb hm (by decide)) h0' ..))))
def F.State.handOne : Nat := 0x3ff000001001800
theorem State.handOne_off {m a} (hm : F.State.handOne &&& m = F.State.handOne) (h0' : Off m a s0') (a1') : Off m a (State.handOne s0' a1') := by
  unfold State.handOne; exact (.ite (State.visible_off (sb hm (by decide)) (State.setPb_off (sb hm (by decide)) h0' ..) ..) (.ite (State.hold_off (sb hm (by decide)) h0' ..) (State.record_off (sb hm (by decide)) h0' ..)))
def F.State.auditBook : Nat := 0x3ff000001001800
theorem State.auditBook_off {m a} (hm : F.State.auditBook &&& m = F.State.auditBook) (h0' : Off m a s0') : Off m a (State.auditBook s0') := by
  unfold State.auditBook; exact (by extract_lets -merge s0 s2; have h1 : Off m a s0 := (by unfold s0; exact (State.setPb_off (sb hm (by decide)) h0' ..)); (try clear_value s0); have h3 : Off m a s2 := (by unfold s2; exact (State.stand_off (sb hm (by decide)) (State.raise_off (sb hm (by decide)) h1 ..) ..)); (try clear_value s2); (try clear_value s0 s2); exact (by split; (· exact h1); (· exact (State.handOne_off (sb hm (by decide)) h3 ..))))
def F.State.audited : Nat := 0x3ff000001001800
theorem State.audited_off {m a} (hm : F.State.audited &&& m = F.State.audited) (h0' : Off m a s0') : Off m a (State.audited s0') := by
  unfold State.audited; exact (.ite (State.auditBook_off (sb hm (by decide)) h0' ..) h0')
def F.State.handRec : Nat := 0x3ff000001001800
theorem State.handRec_off {m a} (hm : F.State.handRec &&& m = F.State.handRec) (h0' : Off m a s0') (a1') : Off m a (State.handRec s0' a1') := by
  unfold State.handRec; exact (State.audited_off (sb hm (by decide)) (State.handOne_off (sb hm (by decide)) h0' ..) ..)
def F.State.journalInt : Nat := 0x3ff000001001800
theorem State.journalInt_off {m a} (hm : F.State.journalInt &&& m = F.State.journalInt) (h0' : Off m a s0') (a1') (a2') (a3') (a4') (a5') : Off m a (State.journalInt s0' a1' a2' a3' a4' a5') := by
  unfold State.journalInt; exact (State.handRec_off (sb hm (by decide)) h0' ..)
def F.State.journal : Nat := 0x3ff000001001800
theorem State.journal_off {m a} (hm : F.State.journal &&& m = F.State.journal) (h0' : Off m a s0') (a1') (a2') (a3') (a4') : Off m a (State.journal s0' a1' a2' a3' a4') := by
  unfold State.journal; exact (State.journalInt_off (sb hm (by decide)) h0' ..)
def F.State.journals : Nat := 0x3ff000001001800
theorem State.journals_off {m a} (hm : F.State.journals &&& m = F.State.journals) (h0' : Off m a s0') (a1') : Off m a (State.journals s0' a1') := by
  unfold State.journals; exact (.foldl h0' (fun _ h0 _ => (by split; (· exact (State.journal_off (sb hm (by decide)) h0 ..)))) _)

end Sys2Proof.Machine
end

