-- ==== Sys2Proof/Laws/OffSignals.lean ====
section
/-! SUPPORT. What the operations of Machine/Signals.lean reach: the pieces of the state and the register fields whose
numbers are set in the mask of each (`F`). -/
namespace Sys2Proof.Machine
open Sys2Proof
set_option Elab.async false

def F.State.alert : Nat := 0x8000000000040000000
theorem State.alert_off {m a} (hm : F.State.alert &&& m = F.State.alert) (h0' : Off m a s0') (a1') : Off m a (State.alert s0' a1') := by
  unfold State.alert; exact (.ite (State.setTwt_off (sb hm (by decide)) (State.wr_off h0' (has_TWT_STAT_ALERT (tb hm (by decide))) ..) ..) h0')
def F.State.snapMiss : Nat := 0x83ff000001001800
theorem State.snapMiss_off {m a} (hm : F.State.snapMiss &&& m = F.State.snapMiss) (h0' : Off m a s0') (a1') : Off m a (State.snapMiss s0' a1') := by
  unfold State.snapMiss; exact (State.journalInt_off (sb hm (by decide)) (State.satInc_off h0' (has_STM_SNAP_MISS (tb hm (by decide))) ..) ..)
def F.State.snapTrig : Nat := 0x93ff000001001800
theorem State.snapTrig_off {m a} (hm : F.State.snapTrig &&& m = F.State.snapTrig) (h0' : Off m a s0') (a1') : Off m a (State.snapTrig s0' a1') := by
  unfold State.snapTrig; exact (.ite h0' (by extract_lets -merge x0 x1; (try clear_value x0 x1); exact (.ite h0' (.ite (.ite (State.setStm_off (sb hm (by decide)) (State.wr_off h0' (has_STM_CAP_STAT (tb hm (by decide))) ..) ..) (State.snapMiss_off (sb hm (by decide)) h0' ..)) (.ite (State.setStm_off (sb hm (by decide)) h0' ..) (State.snapMiss_off (sb hm (by decide)) h0' ..))))))
def F.State.snapCurtain : Nat := 0x93ff000001001800
theorem State.snapCurtain_off {m a} (hm : F.State.snapCurtain &&& m = F.State.snapCurtain) (h0' : Off m a s0') (a1') : Off m a (State.snapCurtain s0' a1') := by
  unfold State.snapCurtain; exact (.ite (State.snapTrig_off (sb hm (by decide)) h0' ..) (.ite (State.snapTrig_off (sb hm (by decide)) h0' ..) h0'))

end Sys2Proof.Machine
end

