-- ==== Sys2Proof/Laws/OffRingSend.lean ====
section
/-! SUPPORT. What the operations of Machine/RingSend.lean reach: the pieces of the state and the register fields whose
numbers are set in the mask of each (`F`). -/
namespace Sys2Proof.Machine
open Sys2Proof
set_option Elab.async false

def F.State.setVc : Nat := 0x4000000
theorem State.setVc_off {m a} (hm : F.State.setVc &&& m = F.State.setVc) (h0' : Off m a s0') (a1') (a2') (a3') : Off m a (State.setVc s0' a1' a2' a3') := by
  unfold State.setVc; exact (State.setRing_off (sb hm (by decide)) h0' ..)
def F.State.emit : Nat := 0x400000004000000
theorem State.emit_off {m a} (hm : F.State.emit &&& m = F.State.emit) (h0' : Off m a s0') (a1') : Off m a (State.emit s0' a1') := by
  unfold State.emit; exact (.ite (State.satInc_off h0' (has_RING_DROP_CNT (tb hm (by decide))) ..) (by extract_lets -merge x0; (try clear_value x0); exact (.ite (State.setRing_off (sb hm (by decide)) h0' ..) (State.setRing_off (sb hm (by decide)) (State.setVc_off (sb hm (by decide)) h0' ..) ..))))
def F.State.sendOnce : Nat := 0x400000004000000
theorem State.sendOnce_off {m a} (hm : F.State.sendOnce &&& m = F.State.sendOnce) (h0' : Off m a s0') (a1') (a2') (a3') : Off m a (State.sendOnce s0' a1' a2' a3') := by
  unfold State.sendOnce; exact (State.emit_off (sb hm (by decide)) h0' ..)
def F.State.setDeliv : Nat := 0x4000000
theorem State.setDeliv_off {m a} (hm : F.State.setDeliv &&& m = F.State.setDeliv) (h0' : Off m a s0') (a1') (a2') (a3') : Off m a (State.setDeliv s0' a1' a2' a3') := by
  unfold State.setDeliv; exact (State.setRing_off (sb hm (by decide)) h0' ..)
def F.State.sendRel : Nat := 0x400000004000000
theorem State.sendRel_off {m a} (hm : F.State.sendRel &&& m = F.State.sendRel) (h0' : Off m a s0') (a1') (a2') (a3') : Off m a (State.sendRel s0' a1' a2' a3') := by
  unfold State.sendRel; exact (by extract_lets -merge x0 x1; (try clear_value x0 x1); exact (State.emit_off (sb hm (by decide)) (State.setDeliv_off (sb hm (by decide)) h0' ..) ..))
def F.State.sendRead : Nat := 0x400000004000000
theorem State.sendRead_off {m a} (hm : F.State.sendRead &&& m = F.State.sendRead) (h0' : Off m a s0') (a1') (a2') : Off m a (State.sendRead s0' a1' a2') := by
  unfold State.sendRead; exact (State.emit_off (sb hm (by decide)) h0' ..)

end Sys2Proof.Machine
end

