-- ==== Sys2Proof/Laws/OffCurtain.lean ====
section
/-! SUPPORT. What the operations of Machine/Curtain.lean reach: the pieces of the state and the register fields whose
numbers are set in the mask of each (`F`). -/
namespace Sys2Proof.Machine
open Sys2Proof
set_option Elab.async false

def F.State.setStx : Nat := 0x40000
theorem State.setStx_off {m a} (hm : F.State.setStx &&& m = F.State.setStx) (h0' : Off m a s0') (a1') (a2') : Off m a (State.setStx s0' a1' a2') := by
  unfold State.setStx; exact (State.setCnx_off (sb hm (by decide)) h0' ..)
def F.State.coexRelease : Nat := 0x800000000000000
theorem State.coexRelease_off {m a} (hm : F.State.coexRelease &&& m = F.State.coexRelease) (h0' : Off m a s0') : Off m a (State.coexRelease s0') := by
  unfold State.coexRelease; exact (.ite h0' (State.wr_off h0' (has_COEX_STAT_REQ_OUT (tb hm (by decide))) ..))
def F.State.suspendLifts : Nat := 0x2000
theorem State.suspendLifts_off {m a} (hm : F.State.suspendLifts &&& m = F.State.suspendLifts) (h0' : Off m a s0') : Off m a (State.suspendLifts s0') := by
  unfold State.suspendLifts; exact (.foldl h0' (fun _ h0 _ => (.ite (State.setCport_off (sb hm (by decide)) h0 ..) h0)) _)
def F.State.setLifting : Nat := 0x6000000000000000
theorem State.setLifting_off {m a} (hm : F.State.setLifting &&& m = F.State.setLifting) (h0' : Off m a s0') (a1') (a2') : Off m a (State.setLifting s0' a1' a2') := by
  unfold State.setLifting; exact (State.wr_off (State.putBit_off h0' (has_CUR_STAT_LIFTING (tb hm (by decide))) ..) (has_CUR_CAUSE_LIFTING (tb hm (by decide))) ..)
def F.State.endCap : Nat := 0x10000001000000008000
theorem State.endCap_off {m a} (hm : F.State.endCap &&& m = F.State.endCap) (h0' : Off m a s0') (a1') : Off m a (State.endCap s0' a1') := by
  unfold State.endCap; exact (by split; (· exact h0'); (· exact (State.int_off (sb hm (by decide)) (State.wr_off (State.setLane_off (sb hm (by decide)) h0' ..) (has_PROT_LANE_STAT_BACKOFF (tb hm (by decide))) ..) ..)))
def F.State.requestPort : Nat := 0x7ffff3ff00004100b800
theorem State.requestPort_off {m a} (hm : F.State.requestPort &&& m = F.State.requestPort) (h0' : Off m a s0') (a1') (a2') (a3') (a4') : Off m a (State.requestPort s0' a1' a2' a3' a4') := by
  unfold State.requestPort; exact (by extract_lets -merge x0 x1 x2 x3 x4 s5 s7 s9 s11 s13 s16 s19; (try clear_value x0 x1 x2 x3 x4); have h6 : Off m a s5 := (by unfold s5; exact (State.wr_off h0' (by unfold causeFld; repeat' split; all_goals first | exact has_CUR_CAUSE_DONOR (tb hm (by decide)) | exact has_CUR_CAUSE_OVERDRIVE (tb hm (by decide)) | exact has_CUR_CAUSE_TXTO (tb hm (by decide)) | exact has_CUR_CAUSE_EMISSION (tb hm (by decide)) | exact has_CUR_CAUSE_OTHER (tb hm (by decide)) | exact has_CUR_CAUSE_LATCH (tb hm (by decide)) | exact has_CUR_CAUSE_NR (tb hm (by decide)) | exact has_CUR_CAUSE_HOST (tb hm (by decide)) | exact has_CUR_CAUSE_THERM (tb hm (by decide)) | exact has_CUR_CAUSE_OSC (tb hm (by decide)) | exact has_CUR_CAUSE_STATE (tb hm (by decide))) ..)); (try clear_value s5); have h8 : Off m a s7 := (by unfold s7; exact (State.setCport_off (sb hm (by decide)) h6 ..)); (try clear_value s7); have h10 : Off m a s9 := (by unfold s9; exact (State.setLifting_off (sb hm (by decide)) h8 ..)); (try clear_value s9); have h12 : Off m a s11 := (by unfold s11; exact (.ite (State.putBit_off h10 (has_CUR_STAT_DOWN (tb hm (by decide))) ..) (State.putBit_off h10 (has_CUR_STAT_DOWN (tb hm (by decide))) ..))); (try clear_value s11); have h15 : Off m a s13 := (by unfold s13; exact (.foldl h12 (fun _ h14 _ => (State.endCap_off (sb hm (by decide)) h14 ..)) _)); (try clear_value s13); have h18 : Off m a s16 := (by unfold s16; exact (State.cond_off h15 (fun _ h17 => (State.satInc_off h17 (has_CUR_EPI_CNT (tb hm (by decide))) ..)) ..)); (try clear_value s16); have h21 : Off m a s19 := (by unfold s19; exact (State.cond_off h18 (fun _ h20 => (State.snapCurtain_off (sb hm (by decide)) h20 ..)) ..)); (try clear_value s19); (try clear_value s5 s7 s9 s11 s13 s16 s19); exact (State.cond_off h21 (fun _ h22 => (State.alert_off (sb hm (by decide)) h22 ..)) ..))
def F.State.streamSend : Nat := 0x400000004000000
theorem State.streamSend_off {m a} (hm : F.State.streamSend &&& m = F.State.streamSend) (h0' : Off m a s0') (a1') (a2') (a3') (a4') (a5') : Off m a (State.streamSend s0' a1' a2' a3' a4' a5') := by
  unfold State.streamSend; exact (by extract_lets -merge x0 x1 x2 x3 x4; (try clear_value x0 x1 x2 x3 x4); exact (State.emit_off (sb hm (by decide)) h0' ..))
def F.State.streamCurtain : Nat := 0x400000004000000
theorem State.streamCurtain_off {m a} (hm : F.State.streamCurtain &&& m = F.State.streamCurtain) (h0' : Off m a s0') (a1') : Off m a (State.streamCurtain s0' a1') := by
  unfold State.streamCurtain; exact (.foldl h0' (fun _ h0 _ => (by extract_lets -merge x1; (try clear_value x1); exact (.ite (State.streamSend_off (sb hm (by decide)) h0 ..) h0))) _)
def F.State.request : Nat := 0x7fffffff00004500b800
theorem State.request_off {m a} (hm : F.State.request &&& m = F.State.request) (h0' : Off m a s0') (a1') (a2') (a3') (a4') : Off m a (State.request s0' a1' a2' a3' a4') := by
  unfold State.request; exact (by extract_lets -merge x0 x1 x2 x3 s4 s7 s10; (try clear_value x0 x1 x2 x3); have h6 : Off m a s4 := (by unfold s4; exact (.foldl h0' (fun _ h5 _ => (State.requestPort_off (sb hm (by decide)) h5 ..)) _)); (try clear_value s4); have h9 : Off m a s7 := (by unfold s7; exact (State.coexRelease_off (sb hm (by decide)) (.foldl h6 (fun _ h8 _ => (State.streamCurtain_off (sb hm (by decide)) h8 ..)) _) ..)); (try clear_value s7); have h12 : Off m a s10 := (by unfold s10; exact (State.cond_off h9 (fun _ h11 => (State.journal_off (sb hm (by decide)) h11 ..)) ..)); (try clear_value s10); (try clear_value s4 s7 s10); exact (State.cond_off h12 (fun _ h13 => (State.journalInt_off (sb hm (by decide)) h13 ..)) ..))
def F.State.clearCause : Nat := 0x7ff6000000000002000
theorem State.clearCause_off {m a} (hm : F.State.clearCause &&& m = F.State.clearCause) (h0' : Off m a s0') (a1') (a2') : Off m a (State.clearCause s0' a1' a2') := by
  unfold State.clearCause; exact (.ite (by extract_lets -merge s0 s2; have h1 : Off m a s0 := (by unfold s0; exact (State.wr_off h0' (by unfold causeFld; repeat' split; all_goals first | exact has_CUR_CAUSE_DONOR (tb hm (by decide)) | exact has_CUR_CAUSE_OVERDRIVE (tb hm (by decide)) | exact has_CUR_CAUSE_TXTO (tb hm (by decide)) | exact has_CUR_CAUSE_EMISSION (tb hm (by decide)) | exact has_CUR_CAUSE_OTHER (tb hm (by decide)) | exact has_CUR_CAUSE_LATCH (tb hm (by decide)) | exact has_CUR_CAUSE_NR (tb hm (by decide)) | exact has_CUR_CAUSE_HOST (tb hm (by decide)) | exact has_CUR_CAUSE_THERM (tb hm (by decide)) | exact has_CUR_CAUSE_OSC (tb hm (by decide)) | exact has_CUR_CAUSE_STATE (tb hm (by decide))) ..)); (try clear_value s0); have h3 : Off m a s2 := (by unfold s2; exact (State.setCport_off (sb hm (by decide)) h1 ..)); (try clear_value s2); (try clear_value s0 s2); exact (.ite (State.setLifting_off (sb hm (by decide)) (State.setCport_off (sb hm (by decide)) h3 ..) ..) h3)) h0')
def F.State.clearCauses : Nat := 0x7ff6000000000002000
theorem State.clearCauses_off {m a} (hm : F.State.clearCauses &&& m = F.State.clearCauses) (h0' : Off m a s0') (a1') (a2') : Off m a (State.clearCauses s0' a1' a2') := by
  unfold State.clearCauses; exact (.foldl h0' (fun _ h0 _ => (State.clearCause_off (sb hm (by decide)) h0 ..)) _)
def F.State.refreshOther : Nat := 0x7ff6000000000002000
theorem State.refreshOther_off {m a} (hm : F.State.refreshOther &&& m = F.State.refreshOther) (h0' : Off m a s0') : Off m a (State.refreshOther s0') := by
  unfold State.refreshOther; exact (.foldl h0' (fun _ h0 _ => (.ite h0 (State.clearCause_off (sb hm (by decide)) h0 ..))) _)
def F.State.startCap : Nat := 0x10000000000000000000010000000000000008000
theorem State.startCap_off {m a} (hm : F.State.startCap &&& m = F.State.startCap) (h0' : Off m a s0') (a1') : Off m a (State.startCap s0' a1') := by
  unfold State.startCap; exact (by extract_lets -merge x0 s1; (try clear_value x0); have h2 : Off m a s1 := (by unfold s1; exact (State.setLane_off (sb hm (by decide)) h0' ..)); (try clear_value s1); (try clear_value s1); exact (State.wr_off (State.wr_off h2 (has_PROT_LANE_STAT_BACKOFF (tb hm (by decide))) ..) (has_PROT_LANE_STAT_CAP (tb hm (by decide))) ..))
def F.State.toSample : Nat := 0x200100040
theorem State.toSample_off {m a} (hm : F.State.toSample &&& m = F.State.toSample) (h0' : Off m a s0') (a1') (a2') (a3') : Off m a (State.toSample s0' a1' a2' a3') := by
  unfold State.toSample; exact (State.toMul_off (sb hm (by decide)) h0' ..)
def F.State.completePort : Nat := 0x280093ff000041003800
theorem State.completePort_off {m a} (hm : F.State.completePort &&& m = F.State.completePort) (h0' : Off m a s0') (a1') : Off m a (State.completePort s0' a1') := by
  unfold State.completePort; exact (by extract_lets -merge s0 s2 s4 s7; have h1 : Off m a s0 := (by unfold s0; exact (State.putBit_off h0' (has_CUR_STAT_DOWN (tb hm (by decide))) ..)); (try clear_value s0); have h3 : Off m a s2 := (by unfold s2; exact (State.setCport_off (sb hm (by decide)) h1 ..)); (try clear_value s2); have h6 : Off m a s4 := (by unfold s4; exact (.foldl h3 (fun _ h5 _ => (.ite (State.setFcSrc_off (sb hm (by decide)) h5 ..) h5)) _)); (try clear_value s4); have h9 : Off m a s7 := (by unfold s7; exact (.foldl h6 (fun _ h8 _ => (State.snapCurtain_off (sb hm (by decide)) h8 ..)) _)); (try clear_value s7); (try clear_value s0 s2 s4 s7); exact (State.alert_off (sb hm (by decide)) (State.int_off (sb hm (by decide)) h9 ..) ..))
def F.State.liftDone : Nat := 0x100000000000000000000300063ff00000100b800
theorem State.liftDone_off {m a} (hm : F.State.liftDone &&& m = F.State.liftDone) (h0' : Off m a s0') (a1') : Off m a (State.liftDone s0' a1') := by
  unfold State.liftDone; exact (by extract_lets -merge x0 s1 s3 s5; (try clear_value x0); have h2 : Off m a s1 := (by unfold s1; exact (State.setCport_off (sb hm (by decide)) h0' ..)); (try clear_value s1); have h4 : Off m a s3 := (by unfold s3; exact (State.putBit_off (State.setLifting_off (sb hm (by decide)) h2 ..) (has_CUR_STAT_DOWN (tb hm (by decide))) ..)); (try clear_value s3); have h7 : Off m a s5 := (by unfold s5; exact (.foldl h4 (fun _ h6 _ => (State.startCap_off (sb hm (by decide)) h6 ..)) _)); (try clear_value s5); (try clear_value s1 s3 s5); exact (State.journalInt_off (sb hm (by decide)) h7 ..))
def F.State.liftStart : Nat := 0x100000000000000000000000000000000000000000400163ff000001003800
theorem State.liftStart_off {m a} (hm : F.State.liftStart &&& m = F.State.liftStart) (h0' : Off m a s0') (a1') : Off m a (State.liftStart s0' a1') := by
  unfold State.liftStart; exact (.ite (.ite (by extract_lets -merge x0 s1 s3 s5; (try clear_value x0); have h2 : Off m a s1 := (by unfold s1; exact (State.putBit_off (State.wr_off h0' (has_CUR_CAUSE_LATCH (tb hm (by decide))) ..) (has_CUR_STAT_LATCHED (tb hm (by decide))) ..)); (try clear_value s1); have h4 : Off m a s3 := (by unfold s3; exact (State.setLifting_off (sb hm (by decide)) (State.setCport_off (sb hm (by decide)) h2 ..) ..)); (try clear_value s3); have h6 : Off m a s5 := (by unfold s5; exact (State.journalInt_off (sb hm (by decide)) (State.satInc_off h4 (has_CUR_EPI_CNT (tb hm (by decide))) ..) ..)); (try clear_value s5); (try clear_value s1 s3 s5); exact (State.journal_off (sb hm (by decide)) h6 ..)) (State.setCport_off (sb hm (by decide)) h0' ..)) h0')

end Sys2Proof.Machine
end

