-- ==== Sys2Proof/Laws/OffLane.lean ====
section
/-! SUPPORT. What the operations of Machine/Lane.lean reach: the pieces of the state and the register fields whose
numbers are set in the mask of each (`F`). -/
namespace Sys2Proof.Machine
open Sys2Proof
set_option Elab.async false

def F.State.setLat : Nat := 0x10000000000000000000000000
theorem State.setLat_off {m a} (hm : F.State.setLat &&& m = F.State.setLat) (h0' : Off m a s0') (a1') : Off m a (State.setLat s0' a1') := by
  unfold State.setLat; exact (State.wr_off h0' (has_LANE_LAT (tb hm (by decide))) ..)
def F.State.markSuspect : Nat := 0x8000000000000040000000000001000000008000
theorem State.markSuspect_off {m a} (hm : F.State.markSuspect &&& m = F.State.markSuspect) (h0' : Off m a s0') (a1') : Off m a (State.markSuspect s0' a1') := by
  unfold State.markSuspect; exact (by extract_lets -merge x0 s1; (try clear_value x0); have h2 : Off m a s1 := (by unfold s1; exact (State.wr_off (State.setLane_off (sb hm (by decide)) h0' ..) (has_LANE_STAT_SUSPECT (tb hm (by decide))) ..)); (try clear_value s1); (try clear_value s1); exact (State.cond_off h2 (fun _ h3 => (State.int_off (sb hm (by decide)) (State.wr_off h3 (has_LANE_STAT_SUSPECT_STICKY (tb hm (by decide))) ..) ..)) ..))
def F.State.laneAccept : Nat := 0x668c08000000001820050000000000001000000808000
theorem State.laneAccept_off {m a} (hm : F.State.laneAccept &&& m = F.State.laneAccept) (h0' : Off m a s0') (a1') (a2') (a3') : Off m a (State.laneAccept s0' a1' a2' a3') := by
  unfold State.laneAccept; exact (by extract_lets -merge x0 x1 s2 s4 s6 s8; (try clear_value x0 x1); have h3 : Off m a s2 := (by unfold s2; exact (State.setLane_off (sb hm (by decide)) h0' ..)); (try clear_value s2); have h5 : Off m a s4 := (by unfold s4; exact (State.wr_off (State.wr_off (State.wr_off h3 (has_LANE_CFG_EN (tb hm (by decide))) ..) (has_LANE_STAT_ACTIVE (tb hm (by decide))) ..) (has_LANE_STAT_ERR_CODE (tb hm (by decide))) ..)); (try clear_value s4); have h7 : Off m a s6 := (by unfold s6; exact (State.wr_off (State.wr_off (State.wr_off (State.wr_off h5 (has_LANE_SAT_CNT (tb hm (by decide))) ..) (has_LANE_GAIN_APPLIED (tb hm (by decide))) ..) (has_RSM_STAT (tb hm (by decide))) ..) (has_LANE_STAT_SUSPECT (tb hm (by decide))) ..)); (try clear_value s6); have h10 : Off m a s8 := (by unfold s8; exact (State.cond_off h7 (fun _ h9 => (State.markSuspect_off (sb hm (by decide)) h9 ..)) ..)); (try clear_value s8); (try clear_value s2 s4 s6 s8); exact (by split; (· exact (by split; (· exact (by extract_lets -merge x11 s12 s14; (try clear_value x11); have h13 : Off m a s12 := (by unfold s12; exact (State.wr_off (State.wr_off (State.wr_off h10 (has_LANE_DEC_D (tb hm (by decide))) ..) (has_LANE_DEC_I (tb hm (by decide))) ..) (has_RSM_RATIO_LO (tb hm (by decide))) ..)); (try clear_value s12); have h15 : Off m a s14 := (by unfold s14; exact (State.setFab_off (sb hm (by decide)) (State.wr_off h13 (has_RSM_RATIO_HI (tb hm (by decide))) ..) ..)); (try clear_value s14); (try clear_value s12 s14); exact (State.setLat_off (sb hm (by decide)) h15 ..)))))))
def F.State.laneRefuse : Nat := 0x8000000000000800000000000000002000000000000
theorem State.laneRefuse_off {m a} (hm : F.State.laneRefuse &&& m = F.State.laneRefuse) (h0' : Off m a s0') (a1') (a2') : Off m a (State.laneRefuse s0' a1' a2') := by
  unfold State.laneRefuse; exact (State.refuse_off (sb hm (by decide)) (State.wr_off (State.wr_off h0' (has_LANE_CFG_EN (tb hm (by decide))) ..) (has_LANE_STAT_ERR_CODE (tb hm (by decide))) ..) ..)
def F.State.laneBegin : Nat := 0x8000
theorem State.laneBegin_off {m a} (hm : F.State.laneBegin &&& m = F.State.laneBegin) (h0' : Off m a s0') (a1') (a2') : Off m a (State.laneBegin s0' a1' a2') := by
  unfold State.laneBegin; exact (State.setLane_off (sb hm (by decide)) h0' ..)

end Sys2Proof.Machine
end

