-- ==== Sys2Proof/Laws/OffCnx.lean ====
section
/-! SUPPORT. What the operations of Machine/Cnx.lean reach: the pieces of the state and the register fields whose
numbers are set in the mask of each (`F`). -/
namespace Sys2Proof.Machine
open Sys2Proof
set_option Elab.async false

def F.State.setTap : Nat := 0x1
theorem State.setTap_off {m a} (hm : F.State.setTap &&& m = F.State.setTap) (h0' : Off m a s0') (a1') (a2') : Off m a (State.setTap s0' a1' a2') := by
  unfold State.setTap; exact (State.stIn_off (State.stIn_off h0' (tb hm (by decide)) ..) (tb hm (by decide)) ..)
def F.State.writeTap : Nat := 0x1000000000000000000000000000000000000000000000000000000000000000000000000000000000000000000000000000000000000000000000000001
theorem State.writeTap_off {m a} (hm : F.State.writeTap &&& m = F.State.writeTap) (h0' : Off m a s0') (a1') (a2') (a3') : Off m a (State.writeTap s0' a1' a2' a3') := by
  unfold State.writeTap; exact (by extract_lets -merge x0 x1 x2; (try clear_value x0 x1 x2); exact (.ite (State.setTap_off (sb hm (by decide)) h0' ..) (State.satInc_off h0' (has_CNX_TAPWR_CNT (tb hm (by decide))) ..)))
def F.State.tapSnap : Nat := 0xc00000000000000000000000000000000000000000000000000000000000000000000000000000000000
theorem State.tapSnap_off {m a} (hm : F.State.tapSnap &&& m = F.State.tapSnap) (h0' : Off m a s0') : Off m a (State.tapSnap s0') := by
  unfold State.tapSnap; exact (State.wr_off (State.wr_off h0' (has_CNX_TAP_ALLOC (tb hm (by decide))) ..) (has_CNX_TAP_FREE (tb hm (by decide))) ..)
def F.State.unreserve : Nat := 0x40000
theorem State.unreserve_off {m a} (hm : F.State.unreserve &&& m = F.State.unreserve) (h0' : Off m a s0') (a1') (a2') : Off m a (State.unreserve s0' a1' a2') := by
  unfold State.unreserve; exact (State.setCnx_off (sb hm (by decide)) h0' ..)
def F.State.stopStream : Nat := 0x100000000000400000004040000
theorem State.stopStream_off {m a} (hm : F.State.stopStream &&& m = F.State.stopStream) (h0' : Off m a s0') (a1') : Off m a (State.stopStream s0' a1') := by
  unfold State.stopStream; exact (by extract_lets -merge x0 x1; (try clear_value x0 x1); exact (by split; (· exact (by extract_lets -merge s2; have h4 : Off m a s2 := (by unfold s2; exact (State.cond_off h0' (fun _ h3 => (State.sendRel_off (sb hm (by decide)) h3 ..)) ..)); (try clear_value s2); (try clear_value s2); exact (State.wr_off (State.setStx_off (sb hm (by decide)) (State.unreserve_off (sb hm (by decide)) h4 ..) ..) (has_CNX_STX_STAT_ACTIVE (tb hm (by decide))) ..)))))
def F.State.streamRefuse : Nat := 0x18000000000000000000020000000000002000000040000
theorem State.streamRefuse_off {m a} (hm : F.State.streamRefuse &&& m = F.State.streamRefuse) (h0' : Off m a s0') (a1') (a2') : Off m a (State.streamRefuse s0' a1' a2') := by
  unfold State.streamRefuse; exact (by extract_lets -merge s0; have h1 : Off m a s0 := (by unfold s0; exact (State.setStx_off (sb hm (by decide)) (State.unreserve_off (sb hm (by decide)) h0' ..) ..)); (try clear_value s0); (try clear_value s0); exact (State.refuse_off (sb hm (by decide)) (State.wr_off (State.wr_off (State.wr_off h1 (has_CNX_STX_CFG_EN (tb hm (by decide))) ..) (has_CNX_STX_STAT_ERR (tb hm (by decide))) ..) (has_CNX_STX_STAT_ARC (tb hm (by decide))) ..) ..))
def F.State.reserve : Nat := 0x40000
theorem State.reserve_off {m a} (hm : F.State.reserve &&& m = F.State.reserve) (h0' : Off m a s0') (a1') : Off m a (State.reserve s0' a1') := by
  unfold State.reserve; exact (State.setCnx_off (sb hm (by decide)) h0' ..)
def F.State.streamAsk : Nat := 0x18000000000000000000020000000000402000004040000
theorem State.streamAsk_off {m a} (hm : F.State.streamAsk &&& m = F.State.streamAsk) (h0' : Off m a s0') (a1') (a2') : Off m a (State.streamAsk s0' a1' a2') := by
  unfold State.streamAsk; exact (by split; (· exact (by extract_lets -merge x0 x1; (try clear_value x0 x1); exact (.ite (State.streamRefuse_off (sb hm (by decide)) h0' ..) (State.cond_off (State.setStx_off (sb hm (by decide)) (State.reserve_off (sb hm (by decide)) h0' ..) ..) (fun _ h2 => (State.sendRel_off (sb hm (by decide)) h2 ..)) ..)))))
def F.State.writeStx : Nat := 0x10000000000000000000010000001800018000000000000000000120000000000402000004040000
theorem State.writeStx_off {m a} (hm : F.State.writeStx &&& m = F.State.writeStx) (h0' : Off m a s0') (a1') (a2') : Off m a (State.writeStx s0' a1' a2') := by
  unfold State.writeStx; exact (by extract_lets -merge x0 s1 x3 g4; (try clear_value x0 x3); have h2 : Off m a s1 := (by unfold s1; exact (State.wrWord_off h0' (.cons (has_CNX_STX_CFG_EN (tb hm (by decide))) (.cons (has_CNX_STX_CFG_DIR (tb hm (by decide))) (.cons (has_CNX_STX_CFG_HOPS (tb hm (by decide))) (.cons (has_CNX_STX_CFG_SHIFT (tb hm (by decide))) (.cons (has_CNX_STX_CFG_LANE (tb hm (by decide))) .nil))))) ..)); (try clear_value s1); have h6 : ∀ y0, Off m a y0 → ∀ y1, Off m a (g4 y0 y1) := (fun _ h5 _ => (State.refuse_off (sb hm (by decide)) (State.wr_off (State.wr_off h5 (has_CNX_STX_CFG_EN (tb hm (by decide))) ..) (has_CNX_STX_STAT_ERR (tb hm (by decide))) ..) ..)); (try clear_value s1); exact (.ite (.ite h2 (.ite (h6 _ h2 _) (.ite (h6 _ h2 _) (State.streamAsk_off (sb hm (by decide)) h2 ..)))) (State.stopStream_off (sb hm (by decide)) h2 ..)))
def F.State.zeroCluster : Nat := 0x1
theorem State.zeroCluster_off {m a} (hm : F.State.zeroCluster &&& m = F.State.zeroCluster) (h0' : Off m a s0') (a1') : Off m a (State.zeroCluster s0' a1') := by
  unfold State.zeroCluster; exact (.foldl h0' (fun _ h0 _ => (State.setTap_off (sb hm (by decide)) h0 ..)) _)
def F.State.writePos : Nat := 0x2000000040001
theorem State.writePos_off {m a} (hm : F.State.writePos &&& m = F.State.writePos) (h0' : Off m a s0') (a1') : Off m a (State.writePos s0' a1') := by
  unfold State.writePos; exact (by extract_lets -merge x0 x1 x2 x3 x4; (try clear_value x0 x1 x2 x3 x4); exact (.ite (State.refuse_off (sb hm (by decide)) h0' ..) (State.setClu_off (sb hm (by decide)) (State.zeroCluster_off (sb hm (by decide)) h0' ..) ..)))
def F.State.pathRefuse : Nat := 0x400000000000000000020000000000000000003000000000000
theorem State.pathRefuse_off {m a} (hm : F.State.pathRefuse &&& m = F.State.pathRefuse) (h0' : Off m a s0') (a1') (a2') : Off m a (State.pathRefuse s0' a1' a2') := by
  unfold State.pathRefuse; exact (State.int_off (sb hm (by decide)) (State.refuse_off (sb hm (by decide)) (State.wr_off (State.wr_off h0' (has_CNX_PATH_CFG_EN (tb hm (by decide))) ..) (has_CNX_PATH_STAT_ERR (tb hm (by decide))) ..) ..) ..)
def F.State.setLoad : Nat := 0x2000000000000000000000000000000
theorem State.setLoad_off {m a} (hm : F.State.setLoad &&& m = F.State.setLoad) (h0' : Off m a s0') : Off m a (State.setLoad s0') := by
  unfold State.setLoad; exact (State.wr_off h0' (has_CNX_LOAD (tb hm (by decide))) ..)
def F.State.queueSearch : Nat := 0x1000000040000
theorem State.queueSearch_off {m a} (hm : F.State.queueSearch &&& m = F.State.queueSearch) (h0' : Off m a s0') (a1') (a2') : Off m a (State.queueSearch s0' a1' a2') := by
  unfold State.queueSearch; exact (.ite (State.int_off (sb hm (by decide)) h0' ..) (State.setCnx_off (sb hm (by decide)) h0' ..))
def F.State.setEst : Nat := 0xc000000000000000000000000000000
theorem State.setEst_off {m a} (hm : F.State.setEst &&& m = F.State.setEst) (h0' : Off m a s0') (a1') : Off m a (State.setEst s0' a1') := by
  unfold State.setEst; exact (by extract_lets -merge x0; (try clear_value x0); exact (State.wr_off (State.wr_off h0' (has_CNX_PATH_EST_ISO (tb hm (by decide))) ..) (has_CNX_PATH_EST_XC (tb hm (by decide))) ..))
def F.State.setSln : Nat := 0x40000
theorem State.setSln_off {m a} (hm : F.State.setSln &&& m = F.State.setSln) (h0' : Off m a s0') (a1') (a2') : Off m a (State.setSln s0' a1' a2') := by
  unfold State.setSln; exact (State.setCnx_off (sb hm (by decide)) h0' ..)
def F.State.tapAudit : Nat := 0x3ff000001001800
theorem State.tapAudit_off {m a} (hm : F.State.tapAudit &&& m = F.State.tapAudit) (h0' : Off m a s0') : Off m a (State.tapAudit s0') := by
  unfold State.tapAudit; exact (by split; (· exact (.ite h0' (State.journal_off (sb hm (by decide)) (State.stand_off (sb hm (by decide)) (State.raise_off (sb hm (by decide)) h0' ..) ..) ..))))
def F.State.countTaps : Nat := 0x3ff000001041800
theorem State.countTaps_off {m a} (hm : F.State.countTaps &&& m = F.State.countTaps) (h0' : Off m a s0') (a1') (a2') : Off m a (State.countTaps s0' a1' a2') := by
  unfold State.countTaps; exact (State.tapAudit_off (sb hm (by decide)) (State.setCnx_off (sb hm (by decide)) h0' ..) ..)
def F.State.allocCluster : Nat := 0x3ff000001041801
theorem State.allocCluster_off {m a} (hm : F.State.allocCluster &&& m = F.State.allocCluster) (h0' : Off m a s0') (a1') (a2') (a3') : Off m a (State.allocCluster s0' a1' a2' a3') := by
  unfold State.allocCluster; exact (by split; (· exact h0'); (· exact (State.countTaps_off (sb hm (by decide)) (State.setClu_off (sb hm (by decide)) (State.zeroCluster_off (sb hm (by decide)) h0' ..) ..) ..)))
def F.State.pathAccept : Nat := 0x40000400000040000004e4000000000000003ff000001041801
theorem State.pathAccept_off {m a} (hm : F.State.pathAccept &&& m = F.State.pathAccept) (h0' : Off m a s0') (a1') : Off m a (State.pathAccept s0' a1') := by
  unfold State.pathAccept; exact (by extract_lets -merge x0 x1 x2 x3 x4 s5 s8 s11 x14 s15 s17 s19 s21 s23 s25; (try clear_value x0 x1 x2 x3 x4 x14); have h7 : Off m a s5 := (by unfold s5; exact (.foldl h0' (fun _ h6 _ => (State.allocCluster_off (sb hm (by decide)) h6 ..)) _)); (try clear_value s5); have h10 : Off m a s8 := (by unfold s8; exact (.foldl h7 (fun _ h9 _ => (State.allocCluster_off (sb hm (by decide)) h9 ..)) _)); (try clear_value s8); have h13 : Off m a s11 := (by unfold s11; exact (.foldl h10 (fun _ h12 _ => (State.allocCluster_off (sb hm (by decide)) h12 ..)) _)); (try clear_value s11); have h16 : Off m a s15 := (by unfold s15; exact (State.setPath_off (sb hm (by decide)) h13 ..)); (try clear_value s15); have h18 : Off m a s17 := (by unfold s17; exact (State.setSln_off (sb hm (by decide)) h16 ..)); (try clear_value s17); have h20 : Off m a s19 := (by unfold s19; exact (State.setCnx_off (sb hm (by decide)) h18 ..)); (try clear_value s19); have h22 : Off m a s21 := (by unfold s21; exact (State.wr_off (State.wr_off (State.wr_off (State.wr_off h20 (has_CNX_PATH_STAT_ACTIVE (tb hm (by decide))) ..) (has_CNX_PATH_STAT_ERR (tb hm (by decide))) ..) (has_CNX_PATH_STAT_ISO_VALID (tb hm (by decide))) ..) (has_CNX_PATH_STAT_FLOOR (tb hm (by decide))) ..)); (try clear_value s21); have h24 : Off m a s23 := (by unfold s23; exact (State.setPath_off (sb hm (by decide)) h22 ..)); (try clear_value s23); have h26 : Off m a s25 := (by unfold s25; exact (State.int_off (sb hm (by decide)) (State.setEst_off (sb hm (by decide)) (State.wr_off h24 (has_CNX_PATH_STAT_EST_RESET (tb hm (by decide))) ..) ..) ..)); (try clear_value s25); (try clear_value s5 s8 s11 s15 s17 s19 s21 s23 s25); exact (State.int_off (sb hm (by decide)) (State.setLoad_off (sb hm (by decide)) (State.queueSearch_off (sb hm (by decide)) h26 ..) ..) ..))
def F.State.setIso : Nat := 0xf000000000000000000000000
theorem State.setIso_off {m a} (hm : F.State.setIso &&& m = F.State.setIso) (h0' : Off m a s0') (a1') : Off m a (State.setIso s0' a1') := by
  unfold State.setIso; exact (by split; (· exact (by extract_lets -merge s0 s2; have h1 : Off m a s0 := (by unfold s0; exact (State.wr_off (State.wr_off h0' (has_CNX_ISO_ISO (tb hm (by decide))) ..) (has_CNX_XC (tb hm (by decide))) ..)); (try clear_value s0); have h3 : Off m a s2 := (by unfold s2; exact (State.wr_off h1 (has_CNX_ISO_RETAINED (tb hm (by decide))) ..)); (try clear_value s2); (try clear_value s0 s2); exact (State.wr_off h3 (has_CNX_ISO_FLOOR (tb hm (by decide))) ..))))
def F.State.releaseClusters : Nat := 0x3ff000001041801
theorem State.releaseClusters_off {m a} (hm : F.State.releaseClusters &&& m = F.State.releaseClusters) (h0' : Off m a s0') (a1') : Off m a (State.releaseClusters s0' a1') := by
  unfold State.releaseClusters; exact (.foldl h0' (fun _ h0 _ => (State.countTaps_off (sb hm (by decide)) (State.setClu_off (sb hm (by decide)) (State.zeroCluster_off (sb hm (by decide)) h0 ..) ..) ..)) _)
def F.State.pathDisable : Nat := 0xe240000f0000000003ff000001041801
theorem State.pathDisable_off {m a} (hm : F.State.pathDisable &&& m = F.State.pathDisable) (h0' : Off m a s0') (a1') : Off m a (State.pathDisable s0' a1') := by
  unfold State.pathDisable; exact (by extract_lets -merge x0 x1 x2 x3 s4 s6 x8 s9 s11 s14; (try clear_value x0 x1 x2 x3 x8); have h5 : Off m a s4 := (by unfold s4; exact (State.releaseClusters_off (sb hm (by decide)) h0' ..)); (try clear_value s4); have h7 : Off m a s6 := (by unfold s6; exact (State.setPath_off (sb hm (by decide)) h5 ..)); (try clear_value s6); have h10 : Off m a s9 := (by unfold s9; exact (State.setCnx_off (sb hm (by decide)) h7 ..)); (try clear_value s9); have h13 : Off m a s11 := (by unfold s11; exact (State.cond_off h10 (fun _ h12 => (State.wr_off h12 (has_SLN_STAT_BUSY (tb hm (by decide))) ..)) ..)); (try clear_value s11); have h15 : Off m a s14 := (by unfold s14; exact (State.wr_off (State.wr_off (State.wr_off h13 (has_CNX_PATH_CFG_EN (tb hm (by decide))) ..) (has_CNX_PATH_STAT_ACTIVE (tb hm (by decide))) ..) (has_CNX_PATH_STAT_ISO_VALID (tb hm (by decide))) ..)); (try clear_value s14); (try clear_value s4 s6 s9 s11 s14); exact (.ite (State.wr_off h0' (has_CNX_PATH_CFG_EN (tb hm (by decide))) ..) (State.setIso_off (sb hm (by decide)) (State.setLoad_off (sb hm (by decide)) h15 ..) ..)))
def F.State.writePathCfg : Nat := 0xff800000000000000000040000004000040000004000000ee40000f0000000003ff000001041801
theorem State.writePathCfg_off {m a} (hm : F.State.writePathCfg &&& m = F.State.writePathCfg) (h0' : Off m a s0') (a1') (a2') : Off m a (State.writePathCfg s0' a1' a2') := by
  unfold State.writePathCfg; exact (by extract_lets -merge x0 s1; (try clear_value x0); have h2 : Off m a s1 := (by unfold s1; exact (State.wrWord_off h0' (.cons (has_CNX_PATH_CFG_EN (tb hm (by decide))) (.cons (has_CNX_PATH_CFG_FREEZE (tb hm (by decide))) (.cons (has_CNX_PATH_CFG_AUTO (tb hm (by decide))) (.cons (has_CNX_PATH_CFG_SPARE (tb hm (by decide))) (.cons (has_CNX_PATH_CFG_REMOTE (tb hm (by decide))) (.cons (has_CNX_PATH_CFG_PROBE_ADAPT (tb hm (by decide))) (.cons (has_CNX_PATH_CFG_SRC (tb hm (by decide))) (.cons (has_CNX_PATH_CFG_DENSE (tb hm (by decide))) (.cons (has_CNX_PATH_CFG_SPARSE (tb hm (by decide))) (.cons (has_CNX_PATH_CFG_STEP (tb hm (by decide))) (.cons (has_CNX_PATH_CFG_UPD (tb hm (by decide))) .nil))))))))))) ..)); (try clear_value s1); (try clear_value s1); exact (.ite (.ite h2 (by split; (· exact (State.pathRefuse_off (sb hm (by decide)) h2 ..)); (· exact (State.pathAccept_off (sb hm (by decide)) h2 ..)))) (State.pathDisable_off (sb hm (by decide)) h2 ..)))
def F.State.setSrx : Nat := 0x40000
theorem State.setSrx_off {m a} (hm : F.State.setSrx &&& m = F.State.setSrx) (h0' : Off m a s0') (a1') (a2') : Off m a (State.setSrx s0' a1' a2') := by
  unfold State.setSrx; exact (State.setCnx_off (sb hm (by decide)) h0' ..)
def F.State.dropRemote : Nat := 0x40000
theorem State.dropRemote_off {m a} (hm : F.State.dropRemote &&& m = F.State.dropRemote) (h0' : Off m a s0') (a1') : Off m a (State.dropRemote s0' a1') := by
  unfold State.dropRemote; exact (State.setCnx_off (sb hm (by decide)) h0' ..)
def F.State.writeSrx : Nat := 0x380000000000000000000002008000100000000000000000000000000000000000000000000000040000
theorem State.writeSrx_off {m a} (hm : F.State.writeSrx &&& m = F.State.writeSrx) (h0' : Off m a s0') (a1') (a2') : Off m a (State.writeSrx s0' a1' a2') := by
  unfold State.writeSrx; exact (by extract_lets -merge s0; have h1 : Off m a s0 := (by unfold s0; exact (State.wrWord_off h0' (.cons (has_CNX_SRX_CFG_EN (tb hm (by decide))) (.cons (has_CNX_SRX_CFG_SRC_DEV (tb hm (by decide))) (.cons (has_CNX_SRX_CFG_SRC_SLOT (tb hm (by decide))) .nil))) ..)); (try clear_value s0); (try clear_value s0); exact (.ite h1 (State.dropRemote_off (sb hm (by decide)) (State.setSrx_off (sb hm (by decide)) (State.wr_off (State.wr_off (State.wr_off h1 (has_CNX_SRX_STAT_ACTIVE (tb hm (by decide))) ..) (has_CNX_SRX_STAT_LOST (tb hm (by decide))) ..) (has_CNX_SRX_STAT_CURTAIN (tb hm (by decide))) ..) ..) ..)))
def F.State.writeMargin : Nat := 0x40000000000000000000000000000000000000000000000000000000000000000000003000000000000
theorem State.writeMargin_off {m a} (hm : F.State.writeMargin &&& m = F.State.writeMargin) (h0' : Off m a s0') (a1') : Off m a (State.writeMargin s0' a1') := by
  unfold State.writeMargin; exact (by extract_lets -merge x0; (try clear_value x0); exact (.ite (State.wr_off h0' (has_CNX_MARGIN (tb hm (by decide))) ..) (State.int_off (sb hm (by decide)) (State.refuse_off (sb hm (by decide)) h0' ..) ..)))
def F.State.writeRise : Nat := 0x20000000000000000000000000000000000000000000000000000000000000000000003000000000000
theorem State.writeRise_off {m a} (hm : F.State.writeRise &&& m = F.State.writeRise) (h0' : Off m a s0') (a1') : Off m a (State.writeRise s0' a1') := by
  unfold State.writeRise; exact (by extract_lets -merge x0; (try clear_value x0); exact (.ite (State.wr_off h0' (has_CNX_CEIL_RISE (tb hm (by decide))) ..) (State.int_off (sb hm (by decide)) (State.refuse_off (sb hm (by decide)) h0' ..) ..)))
def F.State.dropRetained : Nat := 0x40000
theorem State.dropRetained_off {m a} (hm : F.State.dropRetained &&& m = F.State.dropRetained) (h0' : Off m a s0') (a1') : Off m a (State.dropRetained s0' a1') := by
  unfold State.dropRetained; exact (State.setCnx_off (sb hm (by decide)) h0' ..)
def F.State.stopLaneStreams : Nat := 0x120000000000400000004040000
theorem State.stopLaneStreams_off {m a} (hm : F.State.stopLaneStreams &&& m = F.State.stopLaneStreams) (h0' : Off m a s0') (a1') : Off m a (State.stopLaneStreams s0' a1') := by
  unfold State.stopLaneStreams; exact (.foldl h0' (fun _ h0 _ => (.ite (State.wr_off (State.stopStream_off (sb hm (by decide)) h0 ..) (has_CNX_STX_CFG_EN (tb hm (by decide))) ..) h0)) _)
def F.State.writeSlnCtl : Nat := 0xc0000000000000000000000000000000000000000000000000000000000000000000000000000001000000040000
theorem State.writeSlnCtl_off {m a} (hm : F.State.writeSlnCtl &&& m = F.State.writeSlnCtl) (h0' : Off m a s0') (a1') : Off m a (State.writeSlnCtl s0' a1') := by
  unfold State.writeSlnCtl; exact (by extract_lets -merge s0; have h1 : Off m a s0 := (by unfold s0; exact (State.wr_off (State.wr_off h0' (has_SLN_CTL_HOLD (tb hm (by decide))) ..) (has_SLN_CTL_PATH (tb hm (by decide))) ..)); (try clear_value s0); (try clear_value s0); exact (State.cond_off h1 (fun _ h2 => (State.queueSearch_off (sb hm (by decide)) h2 ..)) ..))
def F.State.outRestart : Nat := 0x48000
theorem State.outRestart_off {m a} (hm : F.State.outRestart &&& m = F.State.outRestart) (h0' : Off m a s0') : Off m a (State.outRestart s0') := by
  unfold State.outRestart; exact (by extract_lets -merge s0; have h2 : Off m a s0 := (by unfold s0; exact (.foldl h0' (fun _ h1 _ => (State.setLane_off (sb hm (by decide)) h1 ..)) _)); (try clear_value s0); (try clear_value s0); exact (State.setCnx_off (sb hm (by decide)) h2 ..))
def F.State.setCeil : Nat := 0x3a00000000000000000000000000000000040000
theorem State.setCeil_off {m a} (hm : F.State.setCeil &&& m = F.State.setCeil) (h0' : Off m a s0') (a1') (a2') (a3') : Off m a (State.setCeil s0' a1' a2' a3') := by
  unfold State.setCeil; exact (by extract_lets -merge s0 s2; have h1 : Off m a s0 := (by unfold s0; exact (State.setCnx_off (sb hm (by decide)) h0' ..)); (try clear_value s0); have h3 : Off m a s2 := (by unfold s2; exact (State.wr_off (State.wr_off (State.wr_off h1 (has_LANE_GAIN_LIMIT (tb hm (by decide))) ..) (has_CNX_CEIL_CEIL (tb hm (by decide))) ..) (has_CNX_CEIL_TARGET (tb hm (by decide))) ..)); (try clear_value s2); (try clear_value s0 s2); exact (State.wr_off h3 (has_CNX_CEIL_RISING (tb hm (by decide))) ..))
def F.State.firstCeil : Nat := 0x3a0000000c00000f000000000000000000040000
theorem State.firstCeil_off {m a} (hm : F.State.firstCeil &&& m = F.State.firstCeil) (h0' : Off m a s0') : Off m a (State.firstCeil s0') := by
  unfold State.firstCeil; exact (by extract_lets -merge s0; have h2 : Off m a s0 := (by unfold s0; exact (.foldl h0' (fun _ h1 _ => (State.setEst_off (sb hm (by decide)) (State.setPath_off (sb hm (by decide)) h1 ..) ..)) _)); (try clear_value s0); (try clear_value s0); exact (.foldl h2 (fun _ h3 _ => (by extract_lets -merge x4; (try clear_value x4); exact (State.setCeil_off (sb hm (by decide)) (State.setIso_off (sb hm (by decide)) h3 ..) ..))) _))
def F.State.took : Nat := 0x4000000
theorem State.took_off {m a} (hm : F.State.took &&& m = F.State.took) (h0' : Off m a s0') (a1') (a2') : Off m a (State.took s0' a1' a2') := by
  unfold State.took; exact (State.setRing_off (sb hm (by decide)) h0' ..)
def F.State.streamsReroute : Nat := 0x1800018000000000000000000120000000000402000004040000
theorem State.streamsReroute_off {m a} (hm : F.State.streamsReroute &&& m = F.State.streamsReroute) (h0' : Off m a s0') : Off m a (State.streamsReroute s0') := by
  unfold State.streamsReroute; exact (.foldl h0' (fun _ h0 _ => (by extract_lets -merge x1 x2 x3 x4 s5; (try clear_value x1 x2 x3 x4); have h6 : Off m a s5 := (by unfold s5; exact (State.wr_off (State.wr_off (State.wr_off h0 (has_CNX_STX_CFG_DIR (tb hm (by decide))) ..) (has_CNX_STX_CFG_HOPS (tb hm (by decide))) ..) (has_CNX_STX_STAT_ACTIVE (tb hm (by decide))) ..)); (try clear_value s5); (try clear_value s5); exact (.ite (.ite (State.streamAsk_off (sb hm (by decide)) (State.unreserve_off (sb hm (by decide)) h6 ..) ..) (State.wr_off (State.wr_off (State.stopStream_off (sb hm (by decide)) h0 ..) (has_CNX_STX_CFG_EN (tb hm (by decide))) ..) (has_CNX_STX_STAT_ERR (tb hm (by decide))) ..)) h0))) _)
def F.State.beginSearch : Nat := 0x1000000000000000000000000000000000000000000000000000000000000000000000000000000000000000000000000000000000000000000000000000000080000000000000000000000000040000
theorem State.beginSearch_off {m a} (hm : F.State.beginSearch &&& m = F.State.beginSearch) (h0' : Off m a s0') (a1') : Off m a (State.beginSearch s0' a1') := by
  unfold State.beginSearch; exact (by extract_lets -merge s0; have h1 : Off m a s0 := (by unfold s0; exact (State.setCnx_off (sb hm (by decide)) h0' ..)); (try clear_value s0); (try clear_value s0); exact (State.wr_off (State.wr_off h1 (has_SLN_STAT_BUSY (tb hm (by decide))) ..) (has_SLN_STAT_CUR_PATH (tb hm (by decide))) ..))
def F.State.ceilFall : Nat := 0x3a0000000000000f000000000000000000040000
theorem State.ceilFall_off {m a} (hm : F.State.ceilFall &&& m = F.State.ceilFall) (h0' : Off m a s0') (a1') : Off m a (State.ceilFall s0' a1') := by
  unfold State.ceilFall; exact (by extract_lets -merge x0; (try clear_value x0); exact (.ite (State.setCeil_off (sb hm (by decide)) (State.setIso_off (sb hm (by decide)) h0' ..) ..) (State.setIso_off (sb hm (by decide)) h0' ..)))
def F.State.ceilStep : Nat := 0x3a0000000000000f000000000000000000040000
theorem State.ceilStep_off {m a} (hm : F.State.ceilStep &&& m = F.State.ceilStep) (h0' : Off m a s0') (a1') : Off m a (State.ceilStep s0' a1') := by
  unfold State.ceilStep; exact (by extract_lets -merge x0 x1 x2; (try clear_value x0 x1 x2); exact (State.setCeil_off (sb hm (by decide)) (State.setIso_off (sb hm (by decide)) h0' ..) ..))
def F.State.countRetire : Nat := 0x40000
theorem State.countRetire_off {m a} (hm : F.State.countRetire &&& m = F.State.countRetire) (h0' : Off m a s0') (a1') : Off m a (State.countRetire s0' a1') := by
  unfold State.countRetire; exact (.foldl h0' (fun _ h0 _ => (State.setClu_off (sb hm (by decide)) h0 ..)) _)
def F.State.estReset : Nat := 0x40000000c000000000000000001000000040000
theorem State.estReset_off {m a} (hm : F.State.estReset &&& m = F.State.estReset) (h0' : Off m a s0') (a1') : Off m a (State.estReset s0' a1') := by
  unfold State.estReset; exact (by extract_lets -merge s0; have h1 : Off m a s0 := (by unfold s0; exact (State.setPath_off (sb hm (by decide)) h0' ..)); (try clear_value s0); (try clear_value s0); exact (State.queueSearch_off (sb hm (by decide)) (State.int_off (sb hm (by decide)) (State.setEst_off (sb hm (by decide)) (State.wr_off h1 (has_CNX_PATH_STAT_EST_RESET (tb hm (by decide))) ..) ..) ..) ..))
def F.State.oscReset : Nat := 0x3e0000000c00000f000000000001000000040000
theorem State.oscReset_off {m a} (hm : F.State.oscReset &&& m = F.State.oscReset) (h0' : Off m a s0') (a1') : Off m a (State.oscReset s0' a1') := by
  unfold State.oscReset; exact (by extract_lets -merge x0 s1; (try clear_value x0); have h3 : Off m a s1 := (by unfold s1; exact (.foldl h0' (fun _ h2 _ => (State.estReset_off (sb hm (by decide)) h2 ..)) _)); (try clear_value s1); (try clear_value s1); exact (.foldl h3 (fun _ h4 _ => (State.ceilFall_off (sb hm (by decide)) h4 ..)) _))
def F.State.estSample : Nat := 0x40000
theorem State.estSample_off {m a} (hm : F.State.estSample &&& m = F.State.estSample) (h0' : Off m a s0') (a1') (a2') : Off m a (State.estSample s0' a1' a2') := by
  unfold State.estSample; exact (.foldl h0' (fun _ h0 _ => (.ite (by extract_lets -merge x1; (try clear_value x1); exact (State.setPath_off (sb hm (by decide)) h0 ..)) h0)) _)
def F.State.moveClusters : Nat := 0x40001
theorem State.moveClusters_off {m a} (hm : F.State.moveClusters &&& m = F.State.moveClusters) (h0' : Off m a s0') (a1') : Off m a (State.moveClusters s0' a1') := by
  unfold State.moveClusters; exact (by extract_lets -merge x0 x1 s2; (try clear_value x0 x1); have h3 : Off m a s2 := h0'; (try clear_value s2); (try clear_value s2); exact (.foldl h0' (fun _ h4 _ => (by extract_lets -merge x5 x6 s7; (try clear_value x5 x6); have h11 : Off m a s7 := (by unfold s7; exact (.ite (.foldl h4 (fun _ h8 _ => (by extract_lets -merge x9 x10; (try clear_value x9 x10); exact (State.setTap_off (sb hm (by decide)) h8 ..))) _) (State.zeroCluster_off (sb hm (by decide)) h4 ..))); (try clear_value s7); (try clear_value s7); exact (State.setClu_off (sb hm (by decide)) h11 ..))) _))
def F.State.outBlock : Nat := 0x48000
theorem State.outBlock_off {m a} (hm : F.State.outBlock &&& m = F.State.outBlock) (h0' : Off m a s0') (a1') : Off m a (State.outBlock s0' a1') := by
  unfold State.outBlock; exact (by extract_lets -merge x0 s1; (try clear_value x0); have h2 : Off m a s1 := (by unfold s1; exact (State.setLane_off (sb hm (by decide)) h0' ..)); (try clear_value s1); (try clear_value s1); exact (State.cond_off h2 (fun _ h3 => (State.setCnx_off (sb hm (by decide)) h3 ..)) ..))
def F.State.pathBlock : Nat := 0x4000000000000000000000000000000000000000000000000000000000000000000000000000000000000000000000000000000000000000040000000c000000000000000003000000040801
theorem State.pathBlock_off {m a} (hm : F.State.pathBlock &&& m = F.State.pathBlock) (h0' : Off m a s0') (a1') : Off m a (State.pathBlock s0' a1') := by
  unfold State.pathBlock; exact (by extract_lets -merge x0 x1 s2 x4 x5 x6 x7 x8 x9 s10 s13; (try clear_value x0 x1 x4 x5 x6 x7 x8 x9); have h3 : Off m a s2 := (by unfold s2; exact (State.setPath_off (sb hm (by decide)) h0' ..)); (try clear_value s2); have h12 : Off m a s10 := (by unfold s10; exact (.foldl h3 (fun _ h11 _ => (State.zeroCluster_off (sb hm (by decide)) h11 ..)) _)); (try clear_value s10); have h14 : Off m a s13 := (by unfold s13; exact (State.estReset_off (sb hm (by decide)) (State.setPath_off (sb hm (by decide)) h12 ..) ..)); (try clear_value s13); (try clear_value s2 s10 s13); exact (.ite h3 (.ite (State.raise_off (sb hm (by decide)) (State.satInc_off h14 (has_CNX_DIV_CNT (tb hm (by decide))) ..) ..) (State.setEst_off (sb hm (by decide)) (State.setPath_off (sb hm (by decide)) h3 ..) ..))))
def F.State.estimateBlock : Nat := 0x40000000000000000000000000000000000000000000000000000000000000000000000000000000000000000000000000000000000000003e0000000c00000f000000000003000200148841
theorem State.estimateBlock_off {m a} (hm : F.State.estimateBlock &&& m = F.State.estimateBlock) (h0' : Off m a s0') (a1') : Off m a (State.estimateBlock s0' a1') := by
  unfold State.estimateBlock; exact (by extract_lets -merge s0 s2 x5; (try clear_value x5); have h1 : Off m a s0 := (by unfold s0; exact (State.outBlock_off (sb hm (by decide)) (State.toSample_off (sb hm (by decide)) h0' ..) ..)); (try clear_value s0); have h4 : Off m a s2 := (by unfold s2; exact (.foldl h1 (fun _ h3 _ => (.ite (State.countRetire_off (sb hm (by decide)) (State.moveClusters_off (sb hm (by decide)) (State.pathBlock_off (sb hm (by decide)) h3 ..) ..) ..) h3)) _)); (try clear_value s2); (try clear_value s0 s2); exact (.ite (State.setIso_off (sb hm (by decide)) h4 ..) (State.ceilStep_off (sb hm (by decide)) h4 ..)))
def F.State.searchSample : Nat := 0x40000
theorem State.searchSample_off {m a} (hm : F.State.searchSample &&& m = F.State.searchSample) (h0' : Off m a s0') (a1') (a2') (a3') (a4') : Off m a (State.searchSample s0' a1' a2' a3' a4') := by
  unfold State.searchSample; exact (by split; (· exact h0'); (· exact (by extract_lets -merge x0; (try clear_value x0); exact (.ite (State.setCnx_off (sb hm (by decide)) h0' ..) h0'))))
def F.State.probeSample : Nat := 0x40000
theorem State.probeSample_off {m a} (hm : F.State.probeSample &&& m = F.State.probeSample) (h0' : Off m a s0') (a1') (a2') (a3') (a4') : Off m a (State.probeSample s0' a1' a2' a3' a4') := by
  unfold State.probeSample; exact (.foldl h0' (fun _ h0 _ => (by extract_lets -merge x1 x2; (try clear_value x1 x2); exact (.ite (State.setPath_off (sb hm (by decide)) h0 ..) h0))) _)
def F.State.outPower : Nat := 0x48000
theorem State.outPower_off {m a} (hm : F.State.outPower &&& m = F.State.outPower) (h0' : Off m a s0') (a1') (a2') : Off m a (State.outPower s0' a1' a2') := by
  unfold State.outPower; exact (by extract_lets -merge s0 x2 s3; (try clear_value x2); have h1 : Off m a s0 := (by unfold s0; exact (State.setLane_off (sb hm (by decide)) h0' ..)); (try clear_value s0); have h4 : Off m a s3 := (by unfold s3; exact (State.setLane_off (sb hm (by decide)) h1 ..)); (try clear_value s3); (try clear_value s0 s3); exact (.ite h1 (State.cond_off h4 (fun _ h5 => (State.setCnx_off (sb hm (by decide)) h5 ..)) ..)))
def F.State.lms : Nat := 0x1
theorem State.lms_off {m a} (hm : F.State.lms &&& m = F.State.lms) (h0' : Off m a s0') (a1') (a2') : Off m a (State.lms s0' a1' a2') := by
  unfold State.lms; exact (by extract_lets -merge x0 x1 x2 x3 x4 x5; (try clear_value x0 x1 x2 x3 x4 x5); exact (.foldl h0' (fun _ h6 _ => (.foldl h6 (fun _ h7 _ => (by extract_lets -merge x8 x9; (try clear_value x8 x9); exact (State.setTap_off (sb hm (by decide)) h7 ..))) _)) _))
def F.State.placeDense : Nat := 0x40000
theorem State.placeDense_off {m a} (hm : F.State.placeDense &&& m = F.State.placeDense) (h0' : Off m a s0') (a1') (a2') (a3') : Off m a (State.placeDense s0' a1' a2' a3') := by
  unfold State.placeDense; exact (by extract_lets -merge x0 x1 s2; (try clear_value x0 x1); have h3 : Off m a s2 := (by unfold s2; exact (State.setSln_off (sb hm (by decide)) h0' ..)); (try clear_value s2); (try clear_value s2); exact (.foldl h3 (fun _ h4 _ => (by split; (· exact (by extract_lets -merge x5; (try clear_value x5); exact (.ite (State.setClu_off (sb hm (by decide)) h4 ..) (State.setClu_off (sb hm (by decide)) h4 ..)))))) _))
def F.State.placeFirst : Nat := 0x40001
theorem State.placeFirst_off {m a} (hm : F.State.placeFirst &&& m = F.State.placeFirst) (h0' : Off m a s0') (a1') (a2') (a3') : Off m a (State.placeFirst s0' a1' a2' a3') := by
  unfold State.placeFirst; exact (by extract_lets -merge x0 s1 x4 x5; (try clear_value x0 x4 x5); have h3 : Off m a s1 := (by unfold s1; exact (State.placeDense_off (sb hm (by decide)) (.foldl h0' (fun _ h2 _ => (State.zeroCluster_off (sb hm (by decide)) h2 ..)) _) ..)); (try clear_value s1); (try clear_value s1); exact (.foldl h3 (fun _ h6 _ => (by split; (· exact (State.setClu_off (sb hm (by decide)) h6 ..)))) _))
def F.State.probeEnd : Nat := 0x4000000000000000400000000000000001000000040000
theorem State.probeEnd_off {m a} (hm : F.State.probeEnd &&& m = F.State.probeEnd) (h0' : Off m a s0') (a1') : Off m a (State.probeEnd s0' a1') := by
  unfold State.probeEnd; exact (by extract_lets -merge x0 x1 x2 x3 x4 x5 x6 s7 s9; (try clear_value x0 x1 x2 x3 x4 x5 x6); have h8 : Off m a s7 := (by unfold s7; exact (State.setPath_off (sb hm (by decide)) h0' ..)); (try clear_value s7); have h10 : Off m a s9 := (by unfold s9; exact (State.wr_off (State.wr_off h8 (has_CNX_PATH_STAT_FLOOR (tb hm (by decide))) ..) (has_CNX_PATH_STAT_ISO_VALID (tb hm (by decide))) ..)); (try clear_value s9); (try clear_value s7 s9); exact (.ite h0' (State.cond_off h10 (fun _ h11 => (State.int_off (sb hm (by decide)) h11 ..)) ..)))
def F.State.streamRelay : Nat := 0x400000004040000
theorem State.streamRelay_off {m a} (hm : F.State.streamRelay &&& m = F.State.streamRelay) (h0' : Off m a s0') (a1') (a2') (a3') (a4') (a5') (a6') : Off m a (State.streamRelay s0' a1' a2' a3' a4' a5' a6') := by
  unfold State.streamRelay; exact (by extract_lets -merge x0; (try clear_value x0); exact (.ite (State.sendRel_off (sb hm (by decide)) h0' ..) (.ite (State.sendRel_off (sb hm (by decide)) (State.reserve_off (sb hm (by decide)) h0' ..) ..) (State.sendRel_off (sb hm (by decide)) (State.reserve_off (sb hm (by decide)) h0' ..) ..))))
def F.State.streamLeave : Nat := 0x400000004040000
theorem State.streamLeave_off {m a} (hm : F.State.streamLeave &&& m = F.State.streamLeave) (h0' : Off m a s0') (a1') (a2') (a3') (a4') (a5') : Off m a (State.streamLeave s0' a1' a2' a3' a4' a5') := by
  unfold State.streamLeave; exact (State.cond_off (State.unreserve_off (sb hm (by decide)) h0' ..) (fun _ h0 => (State.sendRel_off (sb hm (by decide)) h0 ..)) ..)
def F.State.streamResult : Nat := 0x18000000000000000000120000000000002000000040000
theorem State.streamResult_off {m a} (hm : F.State.streamResult &&& m = F.State.streamResult) (h0' : Off m a s0') (a1') (a2') (a3') : Off m a (State.streamResult s0' a1' a2' a3') := by
  unfold State.streamResult; exact (.ite h0' (.ite (State.wr_off (State.wr_off (State.setStx_off (sb hm (by decide)) h0' ..) (has_CNX_STX_STAT_ACTIVE (tb hm (by decide))) ..) (has_CNX_STX_STAT_ERR (tb hm (by decide))) ..) (State.streamRefuse_off (sb hm (by decide)) h0' ..)))
def F.State.replace : Nat := 0x1000000040001
theorem State.replace_off {m a} (hm : F.State.replace &&& m = F.State.replace) (h0' : Off m a s0') (a1') (a2') (a3') (a4') : Off m a (State.replace s0' a1' a2' a3' a4') := by
  unfold State.replace; exact (by extract_lets -merge x0 x1 x2 x3 x4 s5 x7 x8 x9 s10 s17; (try clear_value x0 x1 x2 x3 x4 x7 x8 x9); have h6 : Off m a s5 := (by unfold s5; exact (State.setSln_off (sb hm (by decide)) h0' ..)); (try clear_value s5); have h16 : Off m a s10 := (by unfold s10; exact (.ite (by split; (· exact (by extract_lets -merge x11 s12; (try clear_value x11); have h15 : Off m a s12 := (by unfold s12; exact (by split; (· exact (by extract_lets -merge s13; have h14 : Off m a s13 := (by unfold s13; exact (State.setClu_off (sb hm (by decide)) (State.zeroCluster_off (sb hm (by decide)) h6 ..) ..)); (try clear_value s13); (try clear_value s13); exact (State.setClu_off (sb hm (by decide)) h14 ..))); (· exact (State.setClu_off (sb hm (by decide)) h6 ..)))); (try clear_value s12); (try clear_value s12); exact (State.int_off (sb hm (by decide)) (State.setSln_off (sb hm (by decide)) h15 ..) ..))); (· exact h6)) h6)); (try clear_value s10); have h18 : Off m a s17 := (by unfold s17; exact (State.placeDense_off (sb hm (by decide)) h16 ..)); (try clear_value s17); (try clear_value s5 s10 s17); exact (.ite (State.int_off (sb hm (by decide)) (State.setSln_off (sb hm (by decide)) h18 ..) ..) h16))
def F.State.retireOld : Nat := 0x40001
theorem State.retireOld_off {m a} (hm : F.State.retireOld &&& m = F.State.retireOld) (h0' : Off m a s0') (a1') : Off m a (State.retireOld s0' a1') := by
  unfold State.retireOld; exact (.foldl h0' (fun _ h0 _ => (State.setClu_off (sb hm (by decide)) (State.zeroCluster_off (sb hm (by decide)) h0 ..) ..)) _)
def F.State.searchDone : Nat := 0x400000000000000000000000000000000000000000000000000000000000000000000000000000000000000000000000000000000000000000000000000000000000000000000080000000000000000001000000140041
theorem State.searchDone_off {m a} (hm : F.State.searchDone &&& m = F.State.searchDone) (h0' : Off m a s0') : Off m a (State.searchDone s0') := by
  unfold State.searchDone; exact (by split; (· exact h0'); (· exact (by extract_lets -merge x0 s1 x3 x4 x5 x6 x7 s8 s10 s12 s14; (try clear_value x0 x3 x4 x5 x6 x7); have h2 : Off m a s1 := (by unfold s1; exact (State.reach_off (sb hm (by decide)) h0' ..)); (try clear_value s1); have h9 : Off m a s8 := (by unfold s8; exact (State.setSln_off (sb hm (by decide)) h2 ..)); (try clear_value s8); have h11 : Off m a s10 := (by unfold s10; exact (State.setCnx_off (sb hm (by decide)) h9 ..)); (try clear_value s10); have h13 : Off m a s12 := (by unfold s12; exact (State.inc_off (State.wr_off h11 (has_SLN_STAT_BUSY (tb hm (by decide))) ..) (has_SLN_STAT_SEARCH_CNT (tb hm (by decide))) ..)); (try clear_value s12); have h16 : Off m a s14 := (by unfold s14; exact (State.cond_off h13 (fun _ h15 => (State.int_off (sb hm (by decide)) h15 ..)) ..)); (try clear_value s14); (try clear_value s1 s8 s10 s12 s14); exact (.ite h0' (.ite (.ite (State.int_off (sb hm (by decide)) (State.placeFirst_off (sb hm (by decide)) h16 ..) ..) (State.replace_off (sb hm (by decide)) h16 ..)) h16)))))
def F.State.searchStart : Nat := 0x1000000000000000000000000000000000000000000000000000000000000000000000000000000000000000000000000000000000000000000000000000000080000000000000000000000000040000
theorem State.searchStart_off {m a} (hm : F.State.searchStart &&& m = F.State.searchStart) (h0' : Off m a s0') : Off m a (State.searchStart s0') := by
  unfold State.searchStart; exact (.ite h0' (by extract_lets -merge x0 s1 x3; (try clear_value x0 x3); have h2 : Off m a s1 := (by unfold s1; exact (State.setCnx_off (sb hm (by decide)) h0' ..)); (try clear_value s1); (try clear_value s1); exact (by split; (· exact (State.beginSearch_off (sb hm (by decide)) (State.setCnx_off (sb hm (by decide)) h0' ..) ..)); (· exact (by split; (· exact h2); (· exact (State.beginSearch_off (sb hm (by decide)) h2 ..)))))))
def F.State.streamBack : Nat := 0x8000100000000000000000000000000000000000000001000000040800
theorem State.streamBack_off {m a} (hm : F.State.streamBack &&& m = F.State.streamBack) (h0' : Off m a s0') (a1') : Off m a (State.streamBack s0' a1') := by
  unfold State.streamBack; exact (.ite h0' (by extract_lets -merge s0 s2; have h1 : Off m a s0 := (by unfold s0; exact (State.int_off (sb hm (by decide)) (State.wr_off (State.wr_off h0' (has_CNX_SRX_STAT_LOST (tb hm (by decide))) ..) (has_CNX_SRX_STAT_ACTIVE (tb hm (by decide))) ..) ..)); (try clear_value s0); have h3 : Off m a s2 := (by unfold s2; exact (State.setSrx_off (sb hm (by decide)) h1 ..)); (try clear_value s2); (try clear_value s0 s2); exact (.ite h3 (State.unstand_off (sb hm (by decide)) h3 ..))))
def F.State.streamTake : Nat := 0x80000000000000000000000000000000000000000000000000000000000000000000000000000000000000000002000000100000000000000000000000000000000000000000000000040000
theorem State.streamTake_off {m a} (hm : F.State.streamTake &&& m = F.State.streamTake) (h0' : Off m a s0') (a1') : Off m a (State.streamTake s0' a1') := by
  unfold State.streamTake; exact (by extract_lets -merge x0 x1; (try clear_value x0 x1); exact (.foldl h0' (fun _ h2 _ => (.ite (by extract_lets -merge s3 s5; have h4 : Off m a s3 := (by unfold s3; exact (State.setSrx_off (sb hm (by decide)) h2 ..)); (try clear_value s3); have h6 : Off m a s5 := (by unfold s5; exact (State.wr_off (State.wr_off h4 (has_CNX_SRX_STAT_LAT (tb hm (by decide))) ..) (has_CNX_SRX_STAT_CURTAIN (tb hm (by decide))) ..)); (try clear_value s5); (try clear_value s3 s5); exact (State.cond_off h6 (fun _ h7 => (State.wr_off h7 (has_CNX_SRX_STAT_ACTIVE (tb hm (by decide))) ..)) ..)) h2)) _))
def F.State.streamFrame : Nat := 0x80000000000000000000000000000000000000000000000000000000000000000000000000000000000000000002000000100000000000000000000000000000000000000400000004040000
theorem State.streamFrame_off {m a} (hm : F.State.streamFrame &&& m = F.State.streamFrame) (h0' : Off m a s0') (a1') : Off m a (State.streamFrame s0' a1') := by
  unfold State.streamFrame; exact (by extract_lets -merge s0; have h1 : Off m a s0 := (by unfold s0; exact (State.took_off (sb hm (by decide)) h0' ..)); (try clear_value s0); (try clear_value s0); exact (.ite (State.streamTake_off (sb hm (by decide)) h1 ..) (State.emit_off (sb hm (by decide)) h1 ..)))
def F.State.streamLost : Nat := 0x10000000000000000000000000000000000000000000000000000000000000000000000000000000000000000000000000000000008000100000000000003a0000000c00000f000000000003000000140840
theorem State.streamLost_off {m a} (hm : F.State.streamLost &&& m = F.State.streamLost) (h0' : Off m a s0') (a1') : Off m a (State.streamLost s0' a1') := by
  unfold State.streamLost; exact (by split; (· exact h0'); (· exact (.ite h0' (by extract_lets -merge s0 s2 x4 s5 s8 x11; (try clear_value x4 x11); have h1 : Off m a s0 := (by unfold s0; exact (State.reach_off (sb hm (by decide)) h0' ..)); (try clear_value s0); have h3 : Off m a s2 := (by unfold s2; exact (State.dropRemote_off (sb hm (by decide)) (State.satInc_off (State.wr_off (State.wr_off h1 (has_CNX_SRX_STAT_LOST (tb hm (by decide))) ..) (has_CNX_SRX_STAT_ACTIVE (tb hm (by decide))) ..) (has_CNX_SRX_LOST_CNT (tb hm (by decide))) ..) ..)); (try clear_value s2); have h7 : Off m a s5 := (by unfold s5; exact (.foldl h3 (fun _ h6 _ => (State.setEst_off (sb hm (by decide)) (State.setPath_off (sb hm (by decide)) h6 ..) ..)) _)); (try clear_value s5); have h10 : Off m a s8 := (by unfold s8; exact (.foldl h7 (fun _ h9 _ => (State.ceilFall_off (sb hm (by decide)) h9 ..)) _)); (try clear_value s8); (try clear_value s0 s2 s5 s8); exact (State.stand_off (sb hm (by decide)) (State.raiseInt_off (sb hm (by decide)) h10 ..) ..)))))
def F.State.tapUncorr : Nat := 0x40000000c000000000000000003000000040801
theorem State.tapUncorr_off {m a} (hm : F.State.tapUncorr &&& m = F.State.tapUncorr) (h0' : Off m a s0') (a1') : Off m a (State.tapUncorr s0' a1') := by
  unfold State.tapUncorr; exact (by extract_lets -merge x0 s1; (try clear_value x0); have h2 : Off m a s1 := (by unfold s1; exact (State.zeroCluster_off (sb hm (by decide)) h0' ..)); (try clear_value s1); (try clear_value s1); exact (.ite (State.raise_off (sb hm (by decide)) (State.estReset_off (sb hm (by decide)) h2 ..) ..) (State.raise_off (sb hm (by decide)) h2 ..)))

end Sys2Proof.Machine
end

