-- ==== Sys2Proof/Laws/OffFc.lean ====
section
/-! SUPPORT. What the operations of Machine/Fc.lean reach: the pieces of the state and the register fields whose
numbers are set in the mask of each (`F`). -/
namespace Sys2Proof.Machine
open Sys2Proof
set_option Elab.async false

def F.State.forceBit : Nat := 0x2000000000800
theorem State.forceBit_off {m a} (hm : F.State.forceBit &&& m = F.State.forceBit) (h0' : Off m a s0') (a1') (a2') : Off m a (State.forceBit s0' a1' a2') := by
  unfold State.forceBit; exact (.ite (State.refuse_off (sb hm (by decide)) h0' ..) (by split; (· exact h0'); (· exact (by extract_lets -merge s0; have h1 : Off m a s0 := (by unfold s0; exact (State.orBits_off h0' (has_PG_ERR (tb hm (by decide))) ..)); (try clear_value s0); (try clear_value s0); exact (.ite h1 (State.deliver_off (sb hm (by decide)) h1 ..))))))
def F.State.forceCause : Nat := 0x2000000000800
theorem State.forceCause_off {m a} (hm : F.State.forceCause &&& m = F.State.forceCause) (h0' : Off m a s0') (a1') (a2') : Off m a (State.forceCause s0' a1' a2') := by
  unfold State.forceCause; exact (.ite h0' (.foldl h0' (fun _ h0 _ => (State.forceBit_off (sb hm (by decide)) h0 ..)) _))
def F.State.detectInt : Nat := 0x7fffffff00004500b800
theorem State.detectInt_off {m a} (hm : F.State.detectInt &&& m = F.State.detectInt) (h0' : Off m a s0') (a1') (a2') (a3') (a4') (a5') : Off m a (State.detectInt s0' a1' a2' a3' a4' a5') := by
  unfold State.detectInt; exact (State.raiseInt_off (sb hm (by decide)) (State.request_off (sb hm (by decide)) h0' ..) ..)
def F.State.detect : Nat := 0x7fffffff00004500b800
theorem State.detect_off {m a} (hm : F.State.detect &&& m = F.State.detect) (h0' : Off m a s0') (a1') (a2') (a3') (a4') : Off m a (State.detect s0' a1' a2' a3' a4') := by
  unfold State.detect; exact (State.detectInt_off (sb hm (by decide)) h0' ..)
def F.State.writeCurHost : Nat := 0x6000000000000000000000000000000000000000000000000000000000007fffffff00004500b800
theorem State.writeCurHost_off {m a} (hm : F.State.writeCurHost &&& m = F.State.writeCurHost) (h0' : Off m a s0') (a1') : Off m a (State.writeCurHost s0' a1') := by
  unfold State.writeCurHost; exact (by extract_lets -merge x0 x1 s2 s4; (try clear_value x0 x1); have h3 : Off m a s2 := (by unfold s2; exact (State.wr_off (State.wr_off h0' (has_CUR_HOST_ALL (tb hm (by decide))) ..) (has_CUR_HOST_SHUT (tb hm (by decide))) ..)); (try clear_value s2); have h6 : Off m a s4 := (by unfold s4; exact (State.cond_off h3 (fun _ h5 => (State.request_off (sb hm (by decide)) h5 ..)) ..)); (try clear_value s4); (try clear_value s2 s4); exact (State.clearCauses_off (sb hm (by decide)) h6 ..))
def F.State.curRelease : Nat := 0x80000000000000000010000000000000000000000000000000000000000007ff63ff000001003800
theorem State.curRelease_off {m a} (hm : F.State.curRelease &&& m = F.State.curRelease) (h0' : Off m a s0') (a1') : Off m a (State.curRelease s0' a1') := by
  unfold State.curRelease; exact (by extract_lets -merge x0 x1 x2 x3 x4 x5 s6 s10 s13; (try clear_value x0 x1 x2 x3 x4 x5); have h9 : Off m a s6 := (by unfold s6; exact (State.cond_off h0' (fun _ h7 => (.foldl h7 (fun _ h8 _ => (State.setCport_off (sb hm (by decide)) h8 ..)) _)) ..)); (try clear_value s6); have h12 : Off m a s10 := (by unfold s10; exact (.foldl h9 (fun _ h11 _ => (State.clearCause_off (sb hm (by decide)) (State.setCport_off (sb hm (by decide)) (State.putBit_off h11 (has_CUR_STAT_LATCHED (tb hm (by decide))) ..) ..) ..)) _)); (try clear_value s10); have h15 : Off m a s13 := (by unfold s13; exact (State.cond_off h12 (fun _ h14 => (State.journal_off (sb hm (by decide)) h14 ..)) ..)); (try clear_value s13); (try clear_value s6 s10 s13); exact (.ite h15 (State.journalInt_off (sb hm (by decide)) (State.satInc_off h15 (has_CUR_REJ_CNT (tb hm (by decide))) ..) ..)))
def F.State.forceSource : Nat := 0x800
theorem State.forceSource_off {m a} (hm : F.State.forceSource &&& m = F.State.forceSource) (h0' : Off m a s0') (a1') (a2') : Off m a (State.forceSource s0' a1' a2') := by
  unfold State.forceSource; exact (.foldl h0' (fun _ h0 _ => (by extract_lets -merge x1; (try clear_value x1); exact (.ite (State.deliver_off (sb hm (by decide)) h0 ..) h0))) _)
def F.State.writeSev : Nat := 0x380000000000000000000000000000000000000000000000000000000000000000000003ff000001001800
theorem State.writeSev_off {m a} (hm : F.State.writeSev &&& m = F.State.writeSev) (h0' : Off m a s0') (a1') (a2') : Off m a (State.writeSev s0' a1' a2') := by
  unfold State.writeSev; exact (.ite h0' (by extract_lets -merge x0 x1 x2 x3 s4; (try clear_value x0 x1 x2 x3); have h5 : Off m a s4 := (by unfold s4; exact (State.wr_off (State.wr_off (State.wr_off h0' (has_FC_SEV_SEV (tb hm (by decide))) ..) (has_FC_SEV_QSEL (tb hm (by decide))) ..) (has_FC_SEV_SCOPE (tb hm (by decide))) ..)); (try clear_value s4); (try clear_value s4); exact (.ite (State.refuse_off (sb hm (by decide)) h0' ..) (by split; (· exact (.ite h5 (State.journal_off (sb hm (by decide)) h5 ..)))))))
def F.State.clearOwn : Nat := 0x7ff6000000000002000
theorem State.clearOwn_off {m a} (hm : F.State.clearOwn &&& m = F.State.clearOwn) (h0' : Off m a s0') (a1') : Off m a (State.clearOwn s0' a1') := by
  unfold State.clearOwn; exact (.foldl h0' (fun _ h0 _ => (State.clearCauses_off (sb hm (by decide)) h0 ..)) _)
def F.State.ffIdle : Nat := 0x200000000000000000000000000000000000000000000000
theorem State.ffIdle_off {m a} (hm : F.State.ffIdle &&& m = F.State.ffIdle) (h0' : Off m a s0') : Off m a (State.ffIdle s0') := by
  unfold State.ffIdle; exact (.ite (State.wr_off h0' (has_FC_FF_SRC_VALID (tb hm (by decide))) ..) h0')
def F.State.recover : Nat := 0x180000c0200000000000000000000000000007ff63ff000001003800
theorem State.recover_off {m a} (hm : F.State.recover &&& m = F.State.recover) (h0' : Off m a s0') (a1') (a2') : Off m a (State.recover s0' a1' a2') := by
  unfold State.recover; exact (by extract_lets -merge x0 x1 x2 s3 s5 x7 x8 s9 s11 s13 s15; (try clear_value x0 x1 x2 x7 x8); have h4 : Off m a s3 := (by unfold s3; exact (State.satInc_off (State.setStatus_off (sb hm (by decide)) h0' ..) (has_FC_REC_CNT (tb hm (by decide))) ..)); (try clear_value s3); have h6 : Off m a s5 := (by unfold s5; exact (State.satInc_off h4 (has_FC_SEV_REC_CNT (tb hm (by decide))) ..)); (try clear_value s5); have h10 : Off m a s9 := (by unfold s9; exact (State.handRec_off (sb hm (by decide)) h6 ..)); (try clear_value s9); have h12 : Off m a s11 := (by unfold s11; exact (State.setFcSrc_off (sb hm (by decide)) h10 ..)); (try clear_value s11); have h14 : Off m a s13 := (by unfold s13; exact (State.refreshOther_off (sb hm (by decide)) h12 ..)); (try clear_value s13); have h17 : Off m a s15 := (by unfold s15; exact (State.cond_off h14 (fun _ h16 => (State.clearCauses_off (sb hm (by decide)) h16 ..)) ..)); (try clear_value s15); (try clear_value s3 s5 s9 s11 s13 s15); exact (State.ffIdle_off (sb hm (by decide)) h17 ..))
def F.State.hostClearBit : Nat := 0x1000000000000000000000000180000c0200000000000000000000000000007ff63ff000001003800
theorem State.hostClearBit_off {m a} (hm : F.State.hostClearBit &&& m = F.State.hostClearBit) (h0' : Off m a s0') (a1') : Off m a (State.hostClearBit s0' a1') := by
  unfold State.hostClearBit; exact (.ite h0' (.ite (State.int_off (sb hm (by decide)) (State.satInc_off h0' (has_FC_REJ_CNT (tb hm (by decide))) ..) ..) (by extract_lets -merge s0; have h1 : Off m a s0 := (by unfold s0; exact (State.recover_off (sb hm (by decide)) h0' ..)); (try clear_value s0); (try clear_value s0); exact (State.cond_off h1 (fun _ h2 => (State.clearOwn_off (sb hm (by decide)) h2 ..)) ..))))
def F.State.hostClear : Nat := 0x1000000000000000000000000180000c0200000000000000000000000000007ff63ff000001003800
theorem State.hostClear_off {m a} (hm : F.State.hostClear &&& m = F.State.hostClear) (h0' : Off m a s0') (a1') (a2') : Off m a (State.hostClear s0' a1' a2') := by
  unfold State.hostClear; exact (.foldl h0' (fun _ h0 _ => (by extract_lets -merge x1; (try clear_value x1); exact (.ite (State.hostClearBit_off (sb hm (by decide)) h0 ..) h0))) _)
def F.State.ackFirst : Nat := 0x2000000000000000000000000000000003ff000001001800
theorem State.ackFirst_off {m a} (hm : F.State.ackFirst &&& m = F.State.ackFirst) (h0' : Off m a s0') : Off m a (State.ackFirst s0') := by
  unfold State.ackFirst; exact (.ite h0' (by extract_lets -merge x0 s1; (try clear_value x0); have h2 : Off m a s1 := (by unfold s1; exact (State.wr_off h0' (has_FC_FF_SRC_VALID (tb hm (by decide))) ..)); (try clear_value s1); (try clear_value s1); exact (State.journal_off (sb hm (by decide)) h2 ..)))
def F.State.bringCap : Nat := 0x10000000000000000000000000000000000008000
theorem State.bringCap_off {m a} (hm : F.State.bringCap &&& m = F.State.bringCap) (h0' : Off m a s0') (a1') : Off m a (State.bringCap s0' a1') := by
  unfold State.bringCap; exact (by split; (· exact h0'); (· exact (by extract_lets -merge x0; (try clear_value x0); exact (State.wr_off (State.setLane_off (sb hm (by decide)) h0' ..) (has_PROT_LANE_STAT_CAP (tb hm (by decide))) ..))))
def F.State.newRate : Nat := 0x10000000000000000000000000000000000008000
theorem State.newRate_off {m a} (hm : F.State.newRate &&& m = F.State.newRate) (h0' : Off m a s0') (a1') : Off m a (State.newRate s0' a1') := by
  unfold State.newRate; exact (.foldl h0' (fun _ h0 _ => (.ite (State.setLane_off (sb hm (by decide)) (State.bringCap_off (sb hm (by decide)) h0 ..) ..) h0)) _)
def F.State.backoffEnd : Nat := 0x10000000000000000000010000001000200108040
theorem State.backoffEnd_off {m a} (hm : F.State.backoffEnd &&& m = F.State.backoffEnd) (h0' : Off m a s0') (a1') : Off m a (State.backoffEnd s0' a1') := by
  unfold State.backoffEnd; exact (.ite h0' (by extract_lets -merge s0; have h1 : Off m a s0 := (by unfold s0; exact (State.bringCap_off (sb hm (by decide)) (State.toSample_off (sb hm (by decide)) h0' ..) ..)); (try clear_value s0); (try clear_value s0); exact (.ite (State.endCap_off (sb hm (by decide)) h1 ..) h1)))
def F.State.curtainComplete : Nat := 0x280093ff000041003800
theorem State.curtainComplete_off {m a} (hm : F.State.curtainComplete &&& m = F.State.curtainComplete) (h0' : Off m a s0') (a1') : Off m a (State.curtainComplete s0' a1') := by
  unfold State.curtainComplete; exact (.foldl h0' (fun _ h0 _ => (State.completePort_off (sb hm (by decide)) h0 ..)) _)
def F.State.startPulse : Nat := 0x800
theorem State.startPulse_off {m a} (hm : F.State.startPulse &&& m = F.State.startPulse) (h0' : Off m a s0') : Off m a (State.startPulse s0') := by
  unfold State.startPulse; exact (State.setFc_off (sb hm (by decide)) h0' ..)
def F.State.deferredPulse : Nat := 0x100840
theorem State.deferredPulse_off {m a} (hm : F.State.deferredPulse &&& m = F.State.deferredPulse) (h0' : Off m a s0') : Off m a (State.deferredPulse s0') := by
  unfold State.deferredPulse; exact (by split; (· exact h0'); (· exact (.ite (State.startPulse_off (sb hm (by decide)) (State.reach_off (sb hm (by decide)) h0' ..) ..) h0')))
def F.State.emission : Nat := 0x7fffffff00004501b800
theorem State.emission_off {m a} (hm : F.State.emission &&& m = F.State.emission) (h0' : Off m a s0') (a1') (a2') : Off m a (State.emission s0' a1' a2') := by
  unfold State.emission; exact (.ite (State.detect_off (sb hm (by decide)) (State.setCv_off (sb hm (by decide)) h0' ..) ..) h0')
def F.State.pulseLatch : Nat := 0x800
theorem State.pulseLatch_off {m a} (hm : F.State.pulseLatch &&& m = F.State.pulseLatch) (h0' : Off m a s0') : Off m a (State.pulseLatch s0') := by
  unfold State.pulseLatch; exact (.ite h0' (by split; (· exact (.ite (State.setFc_off (sb hm (by decide)) h0' ..) (State.startPulse_off (sb hm (by decide)) h0' ..))); (· exact (State.startPulse_off (sb hm (by decide)) h0' ..))))
def F.State.latchCurtain : Nat := 0x3e0000000c00000f00007fffffff00004504b800
theorem State.latchCurtain_off {m a} (hm : F.State.latchCurtain &&& m = F.State.latchCurtain) (h0' : Off m a s0') (a1') : Off m a (State.latchCurtain s0' a1') := by
  unfold State.latchCurtain; exact (.ite h0' (by extract_lets -merge x0 s1 x4 s5; (try clear_value x0 x4); have h3 : Off m a s1 := (by unfold s1; exact (.foldl h0' (fun _ h2 _ => (by split; (· exact (State.request_off (sb hm (by decide)) h2 ..)))) _)); (try clear_value s1); have h6 : Off m a s5 := (by unfold s5; exact (State.setFcSrc_off (sb hm (by decide)) h3 ..)); (try clear_value s5); (try clear_value s1 s5); exact (.ite (State.oscReset_off (sb hm (by decide)) h6 ..) h6)))
def F.State.latch : Nat := 0x7fe000000000000000000000000000000000000000000000000000000000000000000000000000000000000000000000000000000c0200000003e0000000c00000f00007fffffff00004504b800
theorem State.latch_off {m a} (hm : F.State.latch &&& m = F.State.latch) (h0' : Off m a s0') (a1') : Off m a (State.latch s0' a1') := by
  unfold State.latch; exact (by extract_lets -merge x0 x1 x2 x3 s4 s6 s8 s10 s13 x15 s16 s27 x33 x34 s35 s37 s39; (try clear_value x0 x1 x2 x3 x15 x33 x34); have h5 : Off m a s4 := (by unfold s4; exact (State.setStatus_off (sb hm (by decide)) h0' ..)); (try clear_value s4); have h7 : Off m a s6 := (by unfold s6; exact (State.wr_off h5 (has_FC_SEV_LAST (tb hm (by decide))) ..)); (try clear_value s6); have h9 : Off m a s8 := (by unfold s8; exact (State.setFcSrc_off (sb hm (by decide)) h7 ..)); (try clear_value s8); have h12 : Off m a s10 := (by unfold s10; exact (State.cond_off h9 (fun _ h11 => (State.pulseLatch_off (sb hm (by decide)) h11 ..)) ..)); (try clear_value s10); have h14 : Off m a s13 := (by unfold s13; exact (State.latchCurtain_off (sb hm (by decide)) h12 ..)); (try clear_value s13); have h26 : Off m a s16 := (by unfold s16; exact (State.cond_off h14 (fun _ h17 => (by extract_lets -merge s18 s20 s22 s24; have h19 : Off m a s18 := (by unfold s18; exact (State.wr_off (State.wr_off (State.wr_off h17 (has_FC_FF_SRC_VALID (tb hm (by decide))) ..) (has_FC_FF_SRC_FORCED (tb hm (by decide))) ..) (has_FC_FF_SRC_MAX_MERGED (tb hm (by decide))) ..)); (try clear_value s18); have h21 : Off m a s20 := (by unfold s20; exact (State.wr_off (State.wr_off (State.wr_off h19 (has_FC_FF_SRC_SEV (tb hm (by decide))) ..) (has_FC_FF_SRC_SOURCE (tb hm (by decide))) ..) (has_FC_FF_CAUSE (tb hm (by decide))) ..)); (try clear_value s20); have h23 : Off m a s22 := (by unfold s22; exact (State.wr_off (State.wr_off h21 (has_FC_FF_TICK_LO (tb hm (by decide))) ..) (has_FC_FF_TICK_HI (tb hm (by decide))) ..)); (try clear_value s22); have h25 : Off m a s24 := (by unfold s24; exact (State.wr_off (State.wr_off h23 (has_FC_FF_SEQ_LO (tb hm (by decide))) ..) (has_FC_FF_SEQ_HI (tb hm (by decide))) ..)); (try clear_value s24); (try clear_value s18 s20 s22 s24); exact (State.wr_off (State.wr_off h25 (has_FC_FF_MERGE_CO_EPOCH (tb hm (by decide))) ..) (has_FC_FF_MERGE_MERGE (tb hm (by decide))) ..))) ..)); (try clear_value s16); have h32 : Off m a s27 := (by unfold s27; exact (State.cond_off h26 (fun _ h28 => (by extract_lets -merge s29; have h31 : Off m a s29 := (by unfold s29; exact (State.cond_off (State.satInc_off h28 (has_FC_FF_MERGE_MERGE (tb hm (by decide))) ..) (fun _ h30 => (State.satInc_off h30 (has_FC_FF_MERGE_CO_EPOCH (tb hm (by decide))) ..)) ..)); (try clear_value s29); (try clear_value s29); exact (State.wr_off h31 (has_FC_FF_SRC_MAX_MERGED (tb hm (by decide))) ..))) ..)); (try clear_value s27); have h36 : Off m a s35 := (by unfold s35; exact (State.handRec_off (sb hm (by decide)) h32 ..)); (try clear_value s35); have h38 : Off m a s37 := (by unfold s37; exact (State.auditBook_off (sb hm (by decide)) (State.setPb_off (sb hm (by decide)) h36 ..) ..)); (try clear_value s37); have h41 : Off m a s39 := (by unfold s39; exact (State.cond_off h38 (fun _ h40 => (State.snapTrig_off (sb hm (by decide)) h40 ..)) ..)); (try clear_value s39); (try clear_value s4 s6 s8 s10 s13 s16 s27 s35 s37 s39); exact (State.alert_off (sb hm (by decide)) h41 ..))
def F.State.epochLatch : Nat := 0x7fe000000000000000000000000000000000000000000000000000000000000000000000000000000000000000000000000000000c0200000003e0000000c00000f00007fffffff00004514b840
theorem State.epochLatch_off {m a} (hm : F.State.epochLatch &&& m = F.State.epochLatch) (h0' : Off m a s0') : Off m a (State.epochLatch s0') := by
  unfold State.epochLatch; exact (.ite h0' (by extract_lets -merge s0 x2; (try clear_value x2); have h1 : Off m a s0 := (by unfold s0; exact (State.reach_off (sb hm (by decide)) h0' ..)); (try clear_value s0); (try clear_value s0); exact (.foldl (State.setFc_off (sb hm (by decide)) h1 ..) (fun _ h3 _ => (State.latch_off (sb hm (by decide)) h3 ..)) _)))
def F.State.faultEvent : Nat := 0x3000000000800
theorem State.faultEvent_off {m a} (hm : F.State.faultEvent &&& m = F.State.faultEvent) (h0' : Off m a s0') (a1') (a2') (a3') : Off m a (State.faultEvent s0' a1' a2' a3') := by
  unfold State.faultEvent; exact (.ite (State.raise_off (sb hm (by decide)) h0' ..) h0')
def F.State.liftComplete : Nat := 0x100000000000000000000300063ff00000110b840
theorem State.liftComplete_off {m a} (hm : F.State.liftComplete &&& m = F.State.liftComplete) (h0' : Off m a s0') (a1') : Off m a (State.liftComplete s0' a1') := by
  unfold State.liftComplete; exact (by split; (· exact (.ite h0' (State.liftDone_off (sb hm (by decide)) (State.reach_off (sb hm (by decide)) h0' ..) ..))); (· exact (.ite (State.liftDone_off (sb hm (by decide)) h0' ..) h0')); (· exact h0'))
def F.State.oscillation : Nat := 0x3e0000000c00000f00007fffffff00004504b800
theorem State.oscillation_off {m a} (hm : F.State.oscillation &&& m = F.State.oscillation) (h0' : Off m a s0') (a1') : Off m a (State.oscillation s0' a1') := by
  unfold State.oscillation; exact (.ite (by extract_lets -merge x0; (try clear_value x0); exact (State.oscReset_off (sb hm (by decide)) (State.detect_off (sb hm (by decide)) h0' ..) ..)) h0')
def F.State.oscGrowth : Nat := 0x3e0000000c00000f00007fffffff00004504b800
theorem State.oscGrowth_off {m a} (hm : F.State.oscGrowth &&& m = F.State.oscGrowth) (h0' : Off m a s0') (a1') : Off m a (State.oscGrowth s0' a1') := by
  unfold State.oscGrowth; exact (.ite (State.oscillation_off (sb hm (by decide)) (State.setLane_off (sb hm (by decide)) h0' ..) ..) h0')
def F.State.oscLine : Nat := 0x3e0000000c00000f00007fffffff00004504b800
theorem State.oscLine_off {m a} (hm : F.State.oscLine &&& m = F.State.oscLine) (h0' : Off m a s0') (a1') : Off m a (State.oscLine s0' a1') := by
  unfold State.oscLine; exact (.ite (State.oscillation_off (sb hm (by decide)) (State.setLane_off (sb hm (by decide)) h0' ..) ..) h0')
def F.State.overdrive : Nat := 0x7fffffff00004501b800
theorem State.overdrive_off {m a} (hm : F.State.overdrive &&& m = F.State.overdrive) (h0' : Off m a s0') (a1') : Off m a (State.overdrive s0' a1') := by
  unfold State.overdrive; exact (.ite (State.detect_off (sb hm (by decide)) (State.setCv_off (sb hm (by decide)) h0' ..) ..) h0')
def F.State.pathStart : Nat := 0x140040
theorem State.pathStart_off {m a} (hm : F.State.pathStart &&& m = F.State.pathStart) (h0' : Off m a s0') (a1') : Off m a (State.pathStart s0' a1') := by
  unfold State.pathStart; exact (by extract_lets -merge x0; (try clear_value x0); exact (.ite (State.setPath_off (sb hm (by decide)) (State.reach_off (sb hm (by decide)) h0' ..) ..) h0'))
def F.State.portQuietEnd : Nat := 0x180000c0200000000000000000000000000007ff63ff000001103840
theorem State.portQuietEnd_off {m a} (hm : F.State.portQuietEnd &&& m = F.State.portQuietEnd) (h0' : Off m a s0') (a1') (a2') : Off m a (State.portQuietEnd s0' a1' a2') := by
  unfold State.portQuietEnd; exact (by split; (· exact h0'); (· exact (by split; (· exact (by extract_lets -merge x0 x1 s2; (try clear_value x0 x1); have h3 : Off m a s2 := (by unfold s2; exact (State.clearCause_off (sb hm (by decide)) (State.reach_off (sb hm (by decide)) h0' ..) ..)); (try clear_value s2); (try clear_value s2); exact (.ite (State.recover_off (sb hm (by decide)) h3 ..) h3))); (· exact h0'))))
def F.State.pulseEnd : Nat := 0x100840
theorem State.pulseEnd_off {m a} (hm : F.State.pulseEnd &&& m = F.State.pulseEnd) (h0' : Off m a s0') : Off m a (State.pulseEnd s0') := by
  unfold State.pulseEnd; exact (by split; (· exact h0'); (· exact (by extract_lets -merge s0; have h1 : Off m a s0 := (by unfold s0; exact (State.reach_off (sb hm (by decide)) h0' ..)); (try clear_value s0); (try clear_value s0); exact (State.setFc_off (sb hm (by decide)) h1 ..))))
def F.State.slnParity : Nat := 0x3000000000800
theorem State.slnParity_off {m a} (hm : F.State.slnParity &&& m = F.State.slnParity) (h0' : Off m a s0') : Off m a (State.slnParity s0') := by
  unfold State.slnParity; exact (by split; (· exact h0'); (· exact (State.raise_off (sb hm (by decide)) h0' ..)))
def F.State.sourceRecovery : Nat := 0x180000c0200000000000000000000000000007ff63ff000001103840
theorem State.sourceRecovery_off {m a} (hm : F.State.sourceRecovery &&& m = F.State.sourceRecovery) (h0' : Off m a s0') (a1') : Off m a (State.sourceRecovery s0' a1') := by
  unfold State.sourceRecovery; exact (by extract_lets -merge x0; (try clear_value x0); exact (by split; (· exact h0'); (· exact (.ite h0' (State.recover_off (sb hm (by decide)) (State.reach_off (sb hm (by decide)) h0' ..) ..)))))
def F.State.tapUpdate : Nat := 0x8000000000000000000000000000000000000000000000000000000000000000000000000000000000000000000000000000000000000000000000000000000000000000000000000000000000200140041
theorem State.tapUpdate_off {m a} (hm : F.State.tapUpdate &&& m = F.State.tapUpdate) (h0' : Off m a s0') (a1') (a2') : Off m a (State.tapUpdate s0' a1' a2') := by
  unfold State.tapUpdate; exact (by extract_lets -merge s0 x3; (try clear_value x3); have h2 : Off m a s0 := (by unfold s0; exact (State.cond_off (State.toSample_off (sb hm (by decide)) h0' ..) (fun _ h1 => (State.satAdd_off h1 (has_CNX_ECC_CNT (tb hm (by decide))) ..)) ..)); (try clear_value s0); (try clear_value s0); exact (.foldl h2 (fun _ h4 _ => (by extract_lets -merge x5 s6; (try clear_value x5); have h7 : Off m a s6 := (by unfold s6; exact (State.setPath_off (sb hm (by decide)) h4 ..)); (try clear_value s6); (try clear_value s6); exact (.ite (.ite h7 (State.lms_off (sb hm (by decide)) h7 ..)) h4))) _))

end Sys2Proof.Machine
end

