-- ==== Sys2Proof/Laws/OffPb.lean ====
section
/-! SUPPORT. What the operations of Machine/Pb.lean reach: the pieces of the state and the register fields whose
numbers are set in the mask of each (`F`). -/
namespace Sys2Proof.Machine
open Sys2Proof
set_option Elab.async false

def F.State.verifyStop : Nat := 0x1000
theorem State.verifyStop_off {m a} (hm : F.State.verifyStop &&& m = F.State.verifyStop) (h0' : Off m a s0') : Off m a (State.verifyStop s0') := by
  unfold State.verifyStop; exact (.ite (State.setPb_off (sb hm (by decide)) h0' ..) h0')
def F.State.pbReadGo : Nat := 0x80000000000000000000000000000000000000001000
theorem State.pbReadGo_off {m a} (hm : F.State.pbReadGo &&& m = F.State.pbReadGo) (h0' : Off m a s0') : Off m a (State.pbReadGo s0') := by
  unfold State.pbReadGo; exact (by extract_lets -merge x0; (try clear_value x0); exact (State.wr_off (State.setPb_off (sb hm (by decide)) h0' ..) (has_PB_RD_STAT_DONE (tb hm (by decide))) ..))
def F.State.verifyGo : Nat := 0x3c000000000000000000000000000000000000000000000000000000000000000000001000
theorem State.verifyGo_off {m a} (hm : F.State.verifyGo &&& m = F.State.verifyGo) (h0' : Off m a s0') : Off m a (State.verifyGo s0') := by
  unfold State.verifyGo; exact (.ite h0' (by extract_lets -merge x0 s1; (try clear_value x0); have h2 : Off m a s1 := (by unfold s1; exact (State.setPb_off (sb hm (by decide)) h0' ..)); (try clear_value s1); (try clear_value s1); exact (State.wr_off (State.wr_off (State.wr_off (State.wr_off h2 (has_PB_VFY_STAT_BUSY (tb hm (by decide))) ..) (has_PB_VFY_STAT_DONE (tb hm (by decide))) ..) (has_PB_VFY_STAT_FAIL (tb hm (by decide))) ..) (has_PB_VFY_DONE_CNT (tb hm (by decide))) ..)))
def F.State.writePbCfg : Nat := 0x1c0000000000000000000000000000000000000000000000000000000000000000000000000003ff000001001800
theorem State.writePbCfg_off {m a} (hm : F.State.writePbCfg &&& m = F.State.writePbCfg) (h0' : Off m a s0') (a1') : Off m a (State.writePbCfg s0' a1') := by
  unfold State.writePbCfg; exact (.ite (State.refuse_off (sb hm (by decide)) h0' ..) (by extract_lets -merge s0; have h2 : Off m a s0 := (by unfold s0; exact (State.cond_off h0' (fun _ h1 => (State.setPb_off (sb hm (by decide)) (State.audited_off (sb hm (by decide)) (State.closeOpen_off (sb hm (by decide)) h1 ..) ..) ..)) ..)); (try clear_value s0); (try clear_value s0); exact (State.wrWord_off h2 (.cons (has_PB_CFG_COMPAT (tb hm (by decide))) (.cons (has_PB_CFG_RL_MAX (tb hm (by decide))) (.cons (has_PB_CFG_RL_WIN (tb hm (by decide))) .nil))) ..)))
def F.State.waitMet : Nat := 0x800
theorem State.waitMet_off {m a} (hm : F.State.waitMet &&& m = F.State.waitMet) (h0' : Off m a s0') : Off m a (State.waitMet s0') := by
  unfold State.waitMet; exact (.ite (State.unstand_off (sb hm (by decide)) h0' ..) h0')
def F.State.confirm : Nat := 0x1001800
theorem State.confirm_off {m a} (hm : F.State.confirm &&& m = F.State.confirm) (h0' : Off m a s0') (a1') : Off m a (State.confirm s0' a1') := by
  unfold State.confirm; exact (by split; (· exact h0'); (· exact (.ite (by extract_lets -merge s0 s2; have h1 : Off m a s0 := (by unfold s0; exact (State.programmed_off (sb hm (by decide)) h0' ..)); (try clear_value s0); have h3 : Off m a s2 := (by unfold s2; exact (State.setPb_off (sb hm (by decide)) h1 ..)); (try clear_value s2); (try clear_value s0 s2); exact (State.waitMet_off (sb hm (by decide)) h3 ..)) h0')))
def F.State.pbReadDone : Nat := 0xe00000000000000000000000000000000000000000000000000000000000000000000000000000000000000080000000000000000000000000000001000000001000
theorem State.pbReadDone_off {m a} (hm : F.State.pbReadDone &&& m = F.State.pbReadDone) (h0' : Off m a s0') : Off m a (State.pbReadDone s0') := by
  unfold State.pbReadDone; exact (by split; (· exact h0'); (· exact (by split; (· exact (by extract_lets -merge s0 s2; have h1 : Off m a s0 := (by unfold s0; exact (State.setPb_off (sb hm (by decide)) h0' ..)); (try clear_value s0); have h4 : Off m a s2 := (by unfold s2; exact (by split; (· exact (.foldl h1 (fun _ h3 _ => (State.wr_off h3 (has_PB_RD_DATA (tb hm (by decide))) ..)) _)); (· exact h1))); (try clear_value s2); (try clear_value s0 s2); exact (State.int_off (sb hm (by decide)) (State.wr_off (State.wr_off (State.wr_off h4 (has_PB_RD_STAT_DONE (tb hm (by decide))) ..) (has_PB_RD_STAT_WHERE (tb hm (by decide))) ..) (has_PB_RD_STAT_OPEN (tb hm (by decide))) ..) ..))))))
def F.State.flushPeriodic : Nat := 0x3ff000201101840
theorem State.flushPeriodic_off {m a} (hm : F.State.flushPeriodic &&& m = F.State.flushPeriodic) (h0' : Off m a s0') : Off m a (State.flushPeriodic s0') := by
  unfold State.flushPeriodic; exact (by extract_lets -merge s0; have h1 : Off m a s0 := (by unfold s0; exact (State.toMul_off (sb hm (by decide)) h0' ..)); (try clear_value s0); (try clear_value s0); exact (State.setPb_off (sb hm (by decide)) (State.auditBook_off (sb hm (by decide)) h1 ..) ..))
def F.State.foldEnd : Nat := 0x3ff000001101840
theorem State.foldEnd_off {m a} (hm : F.State.foldEnd &&& m = F.State.foldEnd) (h0' : Off m a s0') : Off m a (State.foldEnd s0') := by
  unfold State.foldEnd; exact (by split; (· exact h0'); (· exact (State.audited_off (sb hm (by decide)) (State.closeOpen_off (sb hm (by decide)) (State.reach_off (sb hm (by decide)) h0' ..) ..) ..)))
def F.State.gapRecord : Nat := 0x3ff000001001800
theorem State.gapRecord_off {m a} (hm : F.State.gapRecord &&& m = F.State.gapRecord) (h0' : Off m a s0') (a1') (a2') : Off m a (State.gapRecord s0' a1' a2') := by
  unfold State.gapRecord; exact (State.journalInt_off (sb hm (by decide)) h0' ..)
def F.State.gapsOwed : Nat := 0x3ff000001001800
theorem State.gapsOwed_off {m a} (hm : F.State.gapsOwed &&& m = F.State.gapsOwed) (h0' : Off m a s0') : Off m a (State.gapsOwed s0') := by
  unfold State.gapsOwed; exact (by extract_lets -merge x0; (try clear_value x0); exact (.foldl (State.setPb_off (sb hm (by decide)) h0' ..) (fun _ h1 _ => (State.gapRecord_off (sb hm (by decide)) h1 ..)) _))
def F.State.letWaiting : Nat := 0x3ff000001001800
theorem State.letWaiting_off {m a} (hm : F.State.letWaiting &&& m = F.State.letWaiting) (h0' : Off m a s0') : Off m a (State.letWaiting s0') := by
  unfold State.letWaiting; exact (by split; (· exact h0'); (· exact (.ite h0' (by extract_lets -merge s0 x2 s3; (try clear_value x2); have h1 : Off m a s0 := (by unfold s0; exact (State.setPb_off (sb hm (by decide)) h0' ..)); (try clear_value s0); have h4 : Off m a s3 := (by unfold s3; exact (.ite (State.audited_off (sb hm (by decide)) (State.enter_off (sb hm (by decide)) (State.closeOpen_off (sb hm (by decide)) h1 ..) ..) ..) (State.holdRec_off (sb hm (by decide)) h1 ..))); (try clear_value s3); (try clear_value s0 s3); exact (State.waitMet_off (sb hm (by decide)) h4 ..)))))
def F.State.pfail : Nat := 0x40000000000000000000000000000000000000000000000000000000000000000000000000000000000000000000000000000000000000000000000000000000000003ff000001001800
theorem State.pfail_off {m a} (hm : F.State.pfail &&& m = F.State.pfail) (h0' : Off m a s0') (a1') : Off m a (State.pfail s0' a1') := by
  unfold State.pfail; exact (by extract_lets -merge s0 s2 x4 s5 s7; (try clear_value x4); have h1 : Off m a s0 := (by unfold s0; exact (State.setPb_off (sb hm (by decide)) h0' ..)); (try clear_value s0); have h3 : Off m a s2 := (by unfold s2; exact (State.closeOpen_off (sb hm (by decide)) h1 ..)); (try clear_value s2); have h6 : Off m a s5 := (by unfold s5; exact (.ite (State.audited_off (sb hm (by decide)) (State.closeOpen_off (sb hm (by decide)) (State.enter_off (sb hm (by decide)) h3 ..) ..) ..) h3)); (try clear_value s5); have h8 : Off m a s7 := (by unfold s7; exact (State.satInc_off h6 (has_PB_VAULT_PF_CNT (tb hm (by decide))) ..)); (try clear_value s7); (try clear_value s0 s2 s5 s7); exact (.ite h1 (.ite (State.setPb_off (sb hm (by decide)) h8 ..) (State.setPb_off (sb hm (by decide)) h8 ..))))
def F.State.vaultDone : Nat := 0x1000
theorem State.vaultDone_off {m a} (hm : F.State.vaultDone &&& m = F.State.vaultDone) (h0' : Off m a s0') : Off m a (State.vaultDone s0') := by
  unfold State.vaultDone; exact (.ite (State.setPb_off (sb hm (by decide)) h0' ..) h0')
def F.State.resumeRecording : Nat := 0x3ff000001001800
theorem State.resumeRecording_off {m a} (hm : F.State.resumeRecording &&& m = F.State.resumeRecording) (h0' : Off m a s0') : Off m a (State.resumeRecording s0') := by
  unfold State.resumeRecording; exact (.ite (by extract_lets -merge s0 s2; have h1 : Off m a s0 := (by unfold s0; exact (State.vaultDone_off (sb hm (by decide)) h0' ..)); (try clear_value s0); have h3 : Off m a s2 := (by unfold s2; exact (State.setPb_off (sb hm (by decide)) h1 ..)); (try clear_value s2); (try clear_value s0 s2); exact (State.gapsOwed_off (sb hm (by decide)) (State.journal_off (sb hm (by decide)) h3 ..) ..)) h0')
def F.State.pfailRise : Nat := 0x3ff000001001800
theorem State.pfailRise_off {m a} (hm : F.State.pfailRise &&& m = F.State.pfailRise) (h0' : Off m a s0') : Off m a (State.pfailRise s0') := by
  unfold State.pfailRise; exact (State.resumeRecording_off (sb hm (by decide)) (State.setPb_off (sb hm (by decide)) h0' ..) ..)
def F.State.rateEnd : Nat := 0x3ff000201101840
theorem State.rateEnd_off {m a} (hm : F.State.rateEnd &&& m = F.State.rateEnd) (h0' : Off m a s0') : Off m a (State.rateEnd s0') := by
  unfold State.rateEnd; exact (.ite (State.audited_off (sb hm (by decide)) (State.rlEnd_off (sb hm (by decide)) (State.toMul_off (sb hm (by decide)) h0' ..) ..) ..) h0')
def F.State.recordArrival : Nat := 0x3ff000001001800
theorem State.recordArrival_off {m a} (hm : F.State.recordArrival &&& m = F.State.recordArrival) (h0' : Off m a s0') (a1') (a2') (a3') (a4') : Off m a (State.recordArrival s0' a1' a2' a3' a4') := by
  unfold State.recordArrival; exact (State.journal_off (sb hm (by decide)) h0' ..)
def F.State.restore : Nat := 0x3ff000001001800
theorem State.restore_off {m a} (hm : F.State.restore &&& m = F.State.restore) (h0' : Off m a s0') (a1') (a2') : Off m a (State.restore s0' a1' a2') := by
  unfold State.restore; exact (.ite h0' (by extract_lets -merge x0 x1 x2 x3 x4 s5 s9 s11 x13 x14 s15 x17 s18 s20 s22 x24 s25 s27 x29 s30 s32 s34 x36 s37; (try clear_value x0 x1 x2 x3 x4 x13 x14 x17 x24 x29 x36); have h8 : Off m a s5 := (by unfold s5; exact (State.cond_off h0' (fun _ h6 => (.foldl h6 (fun _ h7 _ => (State.programmed_off (sb hm (by decide)) h7 ..)) _)) ..)); (try clear_value s5); have h10 : Off m a s9 := (by unfold s9; exact (State.setPb_off (sb hm (by decide)) h8 ..)); (try clear_value s9); have h12 : Off m a s11 := (by unfold s11; exact (State.setPb_off (sb hm (by decide)) h10 ..)); (try clear_value s11); have h16 : Off m a s15 := (by unfold s15; exact (State.setPb_off (sb hm (by decide)) h12 ..)); (try clear_value s15); have h19 : Off m a s18 := (by unfold s18; exact (.ite (State.gapRecord_off (sb hm (by decide)) h16 ..) h16)); (try clear_value s18); have h21 : Off m a s20 := (by unfold s20; exact (.ite (State.raise_off (sb hm (by decide)) h19 ..) h12)); (try clear_value s20); have h23 : Off m a s22 := (by unfold s22; exact (State.gapsOwed_off (sb hm (by decide)) (State.auditBook_off (sb hm (by decide)) h21 ..) ..)); (try clear_value s22); have h26 : Off m a s25 := (by unfold s25; exact (State.setPb_off (sb hm (by decide)) h23 ..)); (try clear_value s25); have h28 : Off m a s27 := (by unfold s27; exact (.ite (State.journal_off (sb hm (by decide)) (State.setStm_off (sb hm (by decide)) h26 ..) ..) h23)); (try clear_value s27); have h31 : Off m a s30 := (by unfold s30; exact (State.journal_off (sb hm (by decide)) h28 ..)); (try clear_value s30); have h33 : Off m a s32 := (by unfold s32; exact (State.setPb_off (sb hm (by decide)) (State.closeOpen_off (sb hm (by decide)) h31 ..) ..)); (try clear_value s32); have h35 : Off m a s34 := (by unfold s34; exact (.ite (State.journal_off (sb hm (by decide)) h33 ..) h31)); (try clear_value s34); have h38 : Off m a s37 := (by unfold s37; exact (State.setPb_off (sb hm (by decide)) h35 ..)); (try clear_value s37); (try clear_value s5 s9 s11 s15 s18 s20 s22 s25 s27 s30 s32 s34 s37); exact (.foldl h38 (fun _ h39 _ => (State.enter_off (sb hm (by decide)) (State.closeOpen_off (sb hm (by decide)) h39 ..) ..)) _)))
def F.State.restoreStart : Nat := 0x3ff000001001800
theorem State.restoreStart_off {m a} (hm : F.State.restoreStart &&& m = F.State.restoreStart) (h0' : Off m a s0') : Off m a (State.restoreStart s0') := by
  unfold State.restoreStart; exact (.ite (State.restore_off (sb hm (by decide)) h0' ..) h0')
def F.State.stagingLost : Nat := 0x3ff000001001880
theorem State.stagingLost_off {m a} (hm : F.State.stagingLost &&& m = F.State.stagingLost) (h0' : Off m a s0') (a1') : Off m a (State.stagingLost s0' a1') := by
  unfold State.stagingLost; exact (by split; (· exact h0'); (· exact (by split; rename_i x7 s6 e4; have h5 : Off m a s6 := .snd e4 (.ite2 (.pr2 h0') (by split; rename_i x3 s2 e0; have h1 : Off m a s2 := .snd e0 (State.draw_off (sb hm (by decide)) h0' ..); exact (.pr2 h1))); exact (by extract_lets -merge s8 s10; have h9 : Off m a s8 := (by unfold s8; exact (State.setPb_off (sb hm (by decide)) h5 ..)); (try clear_value s8); have h11 : Off m a s10 := (by unfold s10; exact (State.raise_off (sb hm (by decide)) h9 ..)); (try clear_value s10); (try clear_value s8 s10); exact (.ite (State.setPb_off (sb hm (by decide)) h11 ..) (State.gapRecord_off (sb hm (by decide)) h11 ..))))))
def F.State.vaultUncorr : Nat := 0x3000000000800
theorem State.vaultUncorr_off {m a} (hm : F.State.vaultUncorr &&& m = F.State.vaultUncorr) (h0' : Off m a s0') : Off m a (State.vaultUncorr s0') := by
  unfold State.vaultUncorr; exact (State.raise_off (sb hm (by decide)) h0' ..)
def F.State.verifyDone : Nat := 0xc00000000000000000000000000000000000000000000000000000000000000000000000000000000000000000000003c000000000000000000000000000000000000000000000000000000000001000000000000
theorem State.verifyDone_off {m a} (hm : F.State.verifyDone &&& m = F.State.verifyDone) (h0' : Off m a s0') (a1') : Off m a (State.verifyDone s0' a1') := by
  unfold State.verifyDone; exact (.ite h0' (by extract_lets -merge x0 x1 x2 s3 s5; (try clear_value x0 x1 x2); have h4 : Off m a s3 := (by unfold s3; exact (State.wr_off (State.wr_off (State.wr_off h0' (has_PB_VFY_STAT_BUSY (tb hm (by decide))) ..) (has_PB_VFY_STAT_DONE (tb hm (by decide))) ..) (has_PB_VFY_DONE_CNT (tb hm (by decide))) ..)); (try clear_value s3); have h7 : Off m a s5 := (by unfold s5; exact (by split; (· exact h4); (· exact (by extract_lets -merge x6; (try clear_value x6); exact (State.wr_off (State.wr_off (State.wr_off h4 (has_PB_VFY_STAT_FAIL (tb hm (by decide))) ..) (has_PB_VFY_BAD_LO (tb hm (by decide))) ..) (has_PB_VFY_BAD_HI (tb hm (by decide))) ..))))); (try clear_value s5); (try clear_value s3 s5); exact (State.int_off (sb hm (by decide)) h7 ..)))

end Sys2Proof.Machine
end

