-- ==== Sys2Proof/Laws/OffTwc.lean ====
section
/-! SUPPORT. What the operations of Machine/Twc.lean reach: the pieces of the state and the register fields whose
numbers are set in the mask of each (`F`). -/
namespace Sys2Proof.Machine
open Sys2Proof
set_option Elab.async false

def F.State.pollFail : Nat := 0x104000000000000000000003000000000800
theorem State.pollFail_off {m a} (hm : F.State.pollFail &&& m = F.State.pollFail) (h0' : Off m a s0') (a1') (a2') : Off m a (State.pollFail s0' a1' a2') := by
  unfold State.pollFail; exact (State.raise_off (sb hm (by decide)) (State.int_off (sb hm (by decide)) (State.satInc_off (State.wr_off h0' (has_TWC_POLL_RES_FAIL (tb hm (by decide))) ..) (has_TWC_FAIL_CNT (tb hm (by decide))) ..) ..) ..)
def F.State.setTw : Nat := 0x80000000
theorem State.setTw_off {m a} (hm : F.State.setTw &&& m = F.State.setTw) (h0' : Off m a s0') (a1') (a2') : Off m a (State.setTw s0' a1' a2') := by
  unfold State.setTw; exact (.upd h0' (h_twc := .inr (tb hm (by decide))))
def F.State.regFail : Nat := 0x208000000000000000000003000080000800
theorem State.regFail_off {m a} (hm : F.State.regFail &&& m = F.State.regFail) (h0' : Off m a s0') (a1') (a2') (a3') : Off m a (State.regFail s0' a1' a2' a3') := by
  unfold State.regFail; exact (by extract_lets -merge s0 s2; have h1 : Off m a s0 := (by unfold s0; exact (State.setTw_off (sb hm (by decide)) h0' ..)); (try clear_value s0); have h3 : Off m a s2 := (by unfold s2; exact (State.int_off (sb hm (by decide)) (State.satInc_off (State.wr_off h1 (has_TWC_REG_STAT_RESULT (tb hm (by decide))) ..) (has_TWC_REG_STAT_FAILS (tb hm (by decide))) ..) ..)); (try clear_value s2); (try clear_value s0 s2); exact (State.stand_off (sb hm (by decide)) (State.raise_off (sb hm (by decide)) h3 ..) ..))
def F.State.cmdEnd : Nat := 0xf0000000000000000000001000000000000
theorem State.cmdEnd_off {m a} (hm : F.State.cmdEnd &&& m = F.State.cmdEnd) (h0' : Off m a s0') (a1') (a2') (a3') (a4') : Off m a (State.cmdEnd s0' a1' a2' a3' a4') := by
  unfold State.cmdEnd; exact (by extract_lets -merge s0 s2 s5; have h1 : Off m a s0 := (by unfold s0; exact (State.wr_off (State.wr_off (State.wr_off h0' (has_TWC_CMD_STAT_BUSY (tb hm (by decide))) ..) (has_TWC_CMD_STAT_RESULT (tb hm (by decide))) ..) (has_TWC_CMD_STAT_BYTES (tb hm (by decide))) ..)); (try clear_value s0); have h4 : Off m a s2 := (by unfold s2; exact (.foldl h1 (fun _ h3 _ => (by split; (· exact (State.wrBits_off h3 (has_TWC_DATA (tb hm (by decide))) ..)))) _)); (try clear_value s2); have h6 : Off m a s5 := (by unfold s5; exact (State.int_off (sb hm (by decide)) h4 ..)); (try clear_value s5); (try clear_value s0 s2 s5); exact (State.cond_off h6 (fun _ h7 => (State.int_off (sb hm (by decide)) h7 ..)) ..))
def F.State.failWaiting : Nat := 0x3fc000000000000000000003000080000800
theorem State.failWaiting_off {m a} (hm : F.State.failWaiting &&& m = F.State.failWaiting) (h0' : Off m a s0') (a1') : Off m a (State.failWaiting s0' a1') := by
  unfold State.failWaiting; exact (by extract_lets -merge x0 s1 s3 s5; (try clear_value x0); have h2 : Off m a s1 := (by unfold s1; exact (State.setTw_off (sb hm (by decide)) h0' ..)); (try clear_value s1); have h4 : Off m a s3 := (by unfold s3; exact (by split; (· exact (State.regFail_off (sb hm (by decide)) h2 ..)); (· exact h2))); (try clear_value s3); have h7 : Off m a s5 := (by unfold s5; exact (State.cond_off h4 (fun _ h6 => (State.cmdEnd_off (sb hm (by decide)) h6 ..)) ..)); (try clear_value s5); (try clear_value s1 s3 s5); exact (.foldl h7 (fun _ h8 _ => (State.pollFail_off (sb hm (by decide)) h8 ..)) _))
def F.State.twStart : Nat := 0xc00000000000000000000000000080000000
theorem State.twStart_off {m a} (hm : F.State.twStart &&& m = F.State.twStart) (h0' : Off m a s0') (a1') (a2') : Off m a (State.twStart s0' a1' a2') := by
  unfold State.twStart; exact (by extract_lets -merge s0; have h1 : Off m a s0 := (by unfold s0; exact (State.satInc_off (State.wr_off h0' (has_TWC_STAT_BUSY (tb hm (by decide))) ..) (has_TWC_XFER_CNT (tb hm (by decide))) ..)); (try clear_value s0); (try clear_value s0); exact (by split; (· exact (State.setTw_off (sb hm (by decide)) h1 ..)); (· exact (State.setTw_off (sb hm (by decide)) h1 ..)); (· exact (State.setTw_off (sb hm (by decide)) h1 ..))))
def F.State.clearStart : Nat := 0x100000000000000000000000080000000
theorem State.clearStart_off {m a} (hm : F.State.clearStart &&& m = F.State.clearStart) (h0' : Off m a s0') (a1') : Off m a (State.clearStart s0' a1') := by
  unfold State.clearStart; exact (State.satInc_off (State.setTw_off (sb hm (by decide)) h0' ..) (has_TWC_CLEAR_CNT (tb hm (by decide))) ..)
def F.State.twNext : Nat := 0xffc100000000000000000003000080000800
theorem State.twNext_off {m a} (hm : F.State.twNext &&& m = F.State.twNext) (h0' : Off m a s0') (a1') : Off m a (State.twNext s0' a1') := by
  unfold State.twNext; exact (by extract_lets -merge x0; (try clear_value x0); exact (.ite h0' (.ite (State.clearStart_off (sb hm (by decide)) h0' ..) (by split; (· exact h0'); (· exact (.ite (by split; (· exact (.ite (State.failWaiting_off (sb hm (by decide)) h0' ..) (State.clearStart_off (sb hm (by decide)) h0' ..))); (· exact (State.clearStart_off (sb hm (by decide)) h0' ..))) (State.twStart_off (sb hm (by decide)) h0' ..)))))))
def F.State.regRequest : Nat := 0x4000000000000ffc100000000000000000003000080000800
theorem State.regRequest_off {m a} (hm : F.State.regRequest &&& m = F.State.regRequest) (h0' : Off m a s0') (a1') : Off m a (State.regRequest s0' a1') := by
  unfold State.regRequest; exact (by split; (· exact (State.satInc_off h0' (has_TWC_REG_DROP_CNT (tb hm (by decide))) ..)); (· exact (State.twNext_off (sb hm (by decide)) (State.setTw_off (sb hm (by decide)) h0' ..) ..)))
def F.State.writeTwcTimeA : Nat := 0xc0000000000000000000000000000000000000000000000000000000000000000000000000000000000000000000000000000000000002000000000000
theorem State.writeTwcTimeA_off {m a} (hm : F.State.writeTwcTimeA &&& m = F.State.writeTwcTimeA) (h0' : Off m a s0') (a1') (a2') : Off m a (State.writeTwcTimeA s0' a1' a2') := by
  unfold State.writeTwcTimeA; exact (by extract_lets -merge x0 x1; (try clear_value x0 x1); exact (.ite (State.refuse_off (sb hm (by decide)) h0' ..) (State.wrWord_off h0' (.cons (has_TWC_TIME_A_HIGH (tb hm (by decide))) (.cons (has_TWC_TIME_A_LOW (tb hm (by decide))) .nil)) ..)))
def F.State.writeTwcTimeB : Nat := 0x100000000000000000000000000000000000000000000000000000000000000000000000000000000000000000000000000000000000002000000000000
theorem State.writeTwcTimeB_off {m a} (hm : F.State.writeTwcTimeB &&& m = F.State.writeTwcTimeB) (h0' : Off m a s0') (a1') (a2') : Off m a (State.writeTwcTimeB s0' a1' a2') := by
  unfold State.writeTwcTimeB; exact (.ite (State.refuse_off (sb hm (by decide)) h0' ..) (State.wrWord_off h0' (.cons (has_TWC_TIME_B (tb hm (by decide))) .nil) ..))
def F.State.twClear : Nat := 0xffc100000000000000000003000080000800
theorem State.twClear_off {m a} (hm : F.State.twClear &&& m = F.State.twClear) (h0' : Off m a s0') (a1') : Off m a (State.twClear s0' a1') := by
  unfold State.twClear; exact (State.twNext_off (sb hm (by decide)) (State.setTw_off (sb hm (by decide)) h0' ..) ..)
def F.State.regDone : Nat := 0x2000000000000000000000008000000000000000000000000000000800
theorem State.regDone_off {m a} (hm : F.State.regDone &&& m = F.State.regDone) (h0' : Off m a s0') (a1') (a2') : Off m a (State.regDone s0' a1' a2') := by
  unfold State.regDone; exact (State.unstand_off (sb hm (by decide)) (State.wr_off (State.wr_off h0' (has_TWC_REG_STAT_RESULT (tb hm (by decide))) ..) (has_TWC_REG_STAT_MV (tb hm (by decide))) ..) ..)
def F.State.pollDone : Nat := 0x1080000000000000000000004000000000000000000000000000000000
theorem State.pollDone_off {m a} (hm : F.State.pollDone &&& m = F.State.pollDone) (h0' : Off m a s0') (a1') (a2') (a3') : Off m a (State.pollDone s0' a1' a2' a3') := by
  unfold State.pollDone; exact (by extract_lets -merge x0 x1 x2 x3; (try clear_value x0 x1 x2 x3); exact (State.wr_off (State.wr_off (State.wr_off h0' (has_TWC_POLL_RES_RAW (tb hm (by decide))) ..) (has_TWC_POLL_RES_VALID (tb hm (by decide))) ..) (has_TWC_POLL_RES_FAIL (tb hm (by decide))) ..))
def F.State.twResult : Nat := 0x8030800000000000000000007fc000000000000000000003000080000800
theorem State.twResult_off {m a} (hm : F.State.twResult &&& m = F.State.twResult) (h0' : Off m a s0') (a1') (a2') (a3') (a4') : Off m a (State.twResult s0' a1' a2' a3' a4') := by
  unfold State.twResult; exact (by split; (· exact h0'); (· exact (by extract_lets -merge s0; have h1 : Off m a s0 := (by unfold s0; exact (State.wr_off (State.wr_off (State.setTw_off (sb hm (by decide)) h0' ..) (has_TWC_STAT_BUSY (tb hm (by decide))) ..) (has_TWC_STAT_LAST (tb hm (by decide))) ..)); (try clear_value s0); (try clear_value s0); exact (by split; (· exact (.ite (State.regDone_off (sb hm (by decide)) h1 ..) (State.regFail_off (sb hm (by decide)) h1 ..))); (· exact (State.cmdEnd_off (sb hm (by decide)) h1 ..)); (· exact (.ite (State.pollDone_off (sb hm (by decide)) h1 ..) (State.pollFail_off (sb hm (by decide)) h1 ..)))))))
def F.State.twAbort : Nat := 0x803080000000000000000000ffc100000000000000000003000080000800
theorem State.twAbort_off {m a} (hm : F.State.twAbort &&& m = F.State.twAbort) (h0' : Off m a s0') (a1') : Off m a (State.twAbort s0' a1') := by
  unfold State.twAbort; exact (by extract_lets -merge s0; have h1 : Off m a s0 := (by unfold s0; exact (State.twResult_off (sb hm (by decide)) h0' ..)); (try clear_value s0); (try clear_value s0); exact (State.twNext_off (sb hm (by decide)) (State.setTw_off (sb hm (by decide)) h1 ..) ..))
def F.State.writeTwcCtl : Nat := 0x803080000000000000000000ffc100000000000000000003000080000800
theorem State.writeTwcCtl_off {m a} (hm : F.State.writeTwcCtl &&& m = F.State.writeTwcCtl) (h0' : Off m a s0') (a1') (a2') : Off m a (State.writeTwcCtl s0' a1' a2') := by
  unfold State.writeTwcCtl; exact (by extract_lets -merge s0; have h2 : Off m a s0 := (by unfold s0; exact (State.cond_off h0' (fun _ h1 => (State.twAbort_off (sb hm (by decide)) h1 ..)) ..)); (try clear_value s0); (try clear_value s0); exact (State.cond_off h2 (fun _ h3 => (State.twClear_off (sb hm (by decide)) h3 ..)) ..))
def F.State.writeTwcCfg : Nat := 0xc000000000000000000000000000000000000000000000000000000000000000000000000000000000ffc100000000000000000003000080000800
theorem State.writeTwcCfg_off {m a} (hm : F.State.writeTwcCfg &&& m = F.State.writeTwcCfg) (h0' : Off m a s0') (a1') (a2') : Off m a (State.writeTwcCfg s0' a1' a2') := by
  unfold State.writeTwcCfg; exact (.ite (State.refuse_off (sb hm (by decide)) h0' ..) (State.twNext_off (sb hm (by decide)) (State.wrWord_off h0' (.cons (has_TWC_CFG_EN (tb hm (by decide))) (.cons (has_TWC_CFG_STRETCH (tb hm (by decide))) .nil)) ..) ..))
def F.State.writePollA : Nat := 0xff0000000000000000000000000000000000000000000000000000000000000080000000000000000000000000000000000000000000000080000000
theorem State.writePollA_off {m a} (hm : F.State.writePollA &&& m = F.State.writePollA) (h0' : Off m a s0') (a1') (a2') (a3') : Off m a (State.writePollA s0' a1' a2' a3') := by
  unfold State.writePollA; exact (by extract_lets -merge x0 x1 s2 s4; (try clear_value x0 x1); have h3 : Off m a s2 := (by unfold s2; exact (State.wrWord_off h0' (.cons (has_TWC_POLL_A_EN (tb hm (by decide))) (.cons (has_TWC_POLL_A_PEC (tb hm (by decide))) (.cons (has_TWC_POLL_A_SIGNED (tb hm (by decide))) (.cons (has_TWC_POLL_A_BE (tb hm (by decide))) (.cons (has_TWC_POLL_A_LEN (tb hm (by decide))) (.cons (has_TWC_POLL_A_SHIFT (tb hm (by decide))) (.cons (has_TWC_POLL_A_ADDR (tb hm (by decide))) (.cons (has_TWC_POLL_A_CMD (tb hm (by decide))) .nil)))))))) ..)); (try clear_value s2); have h6 : Off m a s4 := (by unfold s4; exact (State.cond_off h3 (fun _ h5 => (State.wr_off h5 (has_TWC_POLL_RES_VALID (tb hm (by decide))) ..)) ..)); (try clear_value s4); (try clear_value s2 s4); exact (State.cond_off h6 (fun _ h7 => (State.setTw_off (sb hm (by decide)) h7 ..)) ..))
def F.State.writeRegCfg : Nat := 0x3f000000000000000000000000000000000000000000000000000000000000000000000000000000000000000000000000000000000002000000000000
theorem State.writeRegCfg_off {m a} (hm : F.State.writeRegCfg &&& m = F.State.writeRegCfg) (h0' : Off m a s0') (a1') (a2') : Off m a (State.writeRegCfg s0' a1' a2') := by
  unfold State.writeRegCfg; exact (.ite (State.refuse_off (sb hm (by decide)) h0' ..) (State.wrWord_off h0' (.cons (has_TWC_REG_CFG_EN (tb hm (by decide))) (.cons (has_TWC_REG_CFG_PEC (tb hm (by decide))) (.cons (has_TWC_REG_CFG_BE (tb hm (by decide))) (.cons (has_TWC_REG_CFG_LEN (tb hm (by decide))) (.cons (has_TWC_REG_CFG_ADDR (tb hm (by decide))) (.cons (has_TWC_REG_CFG_CMD (tb hm (by decide))) .nil)))))) ..))
def F.State.writeTwcCmd : Nat := 0x1e0000000000000000000000000000000000000000000000000000000000000ffc100000000000000000003000080000800
theorem State.writeTwcCmd_off {m a} (hm : F.State.writeTwcCmd &&& m = F.State.writeTwcCmd) (h0' : Off m a s0') (a1') (a2') : Off m a (State.writeTwcCmd s0' a1' a2') := by
  unfold State.writeTwcCmd; exact (by extract_lets -merge x0 x1 s2; (try clear_value x0 x1); have h3 : Off m a s2 := (by unfold s2; exact (State.wrWord_off h0' (.cons (has_TWC_CMD_PEC (tb hm (by decide))) (.cons (has_TWC_CMD_WLEN (tb hm (by decide))) (.cons (has_TWC_CMD_RLEN (tb hm (by decide))) (.cons (has_TWC_CMD_ADDR (tb hm (by decide))) .nil)))) ..)); (try clear_value s2); (try clear_value s2); exact (.ite (State.refuse_off (sb hm (by decide)) h0' ..) (.ite (State.refuse_off (sb hm (by decide)) h0' ..) (.ite h3 (State.twNext_off (sb hm (by decide)) (State.setTw_off (sb hm (by decide)) (State.wr_off h3 (has_TWC_CMD_STAT_BUSY (tb hm (by decide))) ..) ..) ..)))))
def F.State.clearDone : Nat := 0x18000000000000000000000000000000000000000000000000000000000000000000000000000000000000000000000000000000000000000000000000000000000000000000000000000ffc100000000000000000003000080000800
theorem State.clearDone_off {m a} (hm : F.State.clearDone &&& m = F.State.clearDone) (h0' : Off m a s0') (a1') (a2') : Off m a (State.clearDone s0' a1' a2') := by
  unfold State.clearDone; exact (.ite h0' (by extract_lets -merge s0 s2; have h1 : Off m a s0 := (by unfold s0; exact (State.setTw_off (sb hm (by decide)) h0' ..)); (try clear_value s0); have h3 : Off m a s2 := (by unfold s2; exact (State.wr_off (State.wr_off h1 (has_TWC_STAT_SDA (tb hm (by decide))) ..) (has_TWC_STAT_STUCK (tb hm (by decide))) ..)); (try clear_value s2); (try clear_value s0 s2); exact (.ite (State.twNext_off (sb hm (by decide)) (State.unstand_off (sb hm (by decide)) h3 ..) ..) (State.failWaiting_off (sb hm (by decide)) (State.int_off (sb hm (by decide)) (State.stand_off (sb hm (by decide)) (State.raise_off (sb hm (by decide)) h3 ..) ..) ..) ..))))
def F.State.pollDue : Nat := 0x4000000000000000000000000000000000000000000000000000000000000000000000000000000000000000000000000000000000000000000000000000000000000000000000000000ffc100000000000000000003000280100840
theorem State.pollDue_off {m a} (hm : F.State.pollDue &&& m = F.State.pollDue) (h0' : Off m a s0') (a1') (a2') : Off m a (State.pollDue s0' a1' a2') := by
  unfold State.pollDue; exact (by extract_lets -merge x0 s1; (try clear_value x0); have h2 : Off m a s1 := (by unfold s1; exact (State.toMul_off (sb hm (by decide)) h0' ..)); (try clear_value s1); (try clear_value s1); exact (.ite h0' (.ite (State.satInc_off h2 (has_TWC_POLL_SKIP_CNT (tb hm (by decide))) ..) (State.twNext_off (sb hm (by decide)) (State.setTw_off (sb hm (by decide)) h2 ..) ..))))
def F.State.regRetry : Nat := 0xffc100000000000000000003000080100840
theorem State.regRetry_off {m a} (hm : F.State.regRetry &&& m = F.State.regRetry) (h0' : Off m a s0') (a1') : Off m a (State.regRetry s0' a1') := by
  unfold State.regRetry; exact (by split; (· exact h0'); (· exact (State.twNext_off (sb hm (by decide)) (State.setTw_off (sb hm (by decide)) (State.reach_off (sb hm (by decide)) h0' ..) ..) ..)))
def F.State.twDone : Nat := 0x803080000000000000000000ffc100000000000000000003000080000800
theorem State.twDone_off {m a} (hm : F.State.twDone &&& m = F.State.twDone) (h0' : Off m a s0') (a1') (a2') (a3') (a4') : Off m a (State.twDone s0' a1' a2' a3' a4') := by
  unfold State.twDone; exact (.ite h0' (by extract_lets -merge s0 s2; have h1 : Off m a s0 := (by unfold s0; exact (State.twResult_off (sb hm (by decide)) h0' ..)); (try clear_value s0); have h4 : Off m a s2 := (by unfold s2; exact (State.cond_off h1 (fun _ h3 => (State.setTw_off (sb hm (by decide)) h3 ..)) ..)); (try clear_value s2); (try clear_value s0 s2); exact (State.twNext_off (sb hm (by decide)) h4 ..)))

end Sys2Proof.Machine
end

