-- ==== Sys2Proof/Laws/OffFab.lean ====
section
/-! SUPPORT. What the operations of Machine/Fab.lean reach: the pieces of the state and the register fields whose
numbers are set in the mask of each (`F`). -/
namespace Sys2Proof.Machine
open Sys2Proof
set_option Elab.async false

def F.State.setLedger : Nat := 0x800000
theorem State.setLedger_off {m a} (hm : F.State.setLedger &&& m = F.State.setLedger) (h0' : Off m a s0') (a1') (a2') : Off m a (State.setLedger s0' a1' a2') := by
  unfold State.setLedger; exact (State.setFab_off (sb hm (by decide)) h0' ..)
def F.State.syncTo : Nat := 0x800000
theorem State.syncTo_off {m a} (hm : F.State.syncTo &&& m = F.State.syncTo) (h0' : Off m a s0') (a1') (a2') : Off m a (State.syncTo s0' a1' a2') := by
  unfold State.syncTo; exact (.ite (State.setLedger_off (sb hm (by decide)) h0' ..) h0')
def F.State.writeFabCfg : Nat := 0xe000000000000000000000000000000000000000000000000000000000000000000000000000000000000000002000000000000
theorem State.writeFabCfg_off {m a} (hm : F.State.writeFabCfg &&& m = F.State.writeFabCfg) (h0' : Off m a s0') (a1') : Off m a (State.writeFabCfg s0' a1') := by
  unfold State.writeFabCfg; exact (by extract_lets -merge x0 x1; (try clear_value x0 x1); exact (.ite (State.refuse_off (sb hm (by decide)) h0' ..) (State.wrWord_off h0' (.cons (has_FAB_CFG_GUARD (tb hm (by decide))) (.cons (has_FAB_CFG_FAULT (tb hm (by decide))) (.cons (has_FAB_CFG_HOLDOFF (tb hm (by decide))) .nil))) ..)))
def F.State.writeVlim : Nat := 0x60000000000000000000000000000000000000000000000000000000000000000000000000000000000000000002000000000000
theorem State.writeVlim_off {m a} (hm : F.State.writeVlim &&& m = F.State.writeVlim) (h0' : Off m a s0') (a1') : Off m a (State.writeVlim s0' a1') := by
  unfold State.writeVlim; exact (by extract_lets -merge x0 x1; (try clear_value x0 x1); exact (.ite (State.refuse_off (sb hm (by decide)) h0' ..) (State.wrWord_off h0' (.cons (has_FAB_VLIM_VMAX (tb hm (by decide))) (.cons (has_FAB_VLIM_VMIN (tb hm (by decide))) .nil)) ..)))
def F.State.minClr : Nat := 0x800000
theorem State.minClr_off {m a} (hm : F.State.minClr &&& m = F.State.minClr) (h0' : Off m a s0') : Off m a (State.minClr s0') := by
  unfold State.minClr; exact (State.setFab_off (sb hm (by decide)) h0' ..)
def F.State.sendMv : Nat := 0x34000000000000ffc100000000000000000003000080000800
theorem State.sendMv_off {m a} (hm : F.State.sendMv &&& m = F.State.sendMv) (h0' : Off m a s0') (a1') (a2') : Off m a (State.sendMv s0' a1' a2') := by
  unfold State.sendMv; exact (State.regRequest_off (sb hm (by decide)) (State.wr_off (State.wr_off h0' (has_FAB_VREQ_MV (tb hm (by decide))) ..) (has_FAB_VREQ_SRC (tb hm (by decide))) ..) ..)
def F.State.coreRequest : Nat := 0x34000000000000ffc100000000000000000003000080000800
theorem State.coreRequest_off {m a} (hm : F.State.coreRequest &&& m = F.State.coreRequest) (h0' : Off m a s0') (a1') (a2') : Off m a (State.coreRequest s0' a1' a2') := by
  unfold State.coreRequest; exact (by extract_lets -merge x0 x1 x2 x3; (try clear_value x0 x1 x2 x3); exact (.ite h0' (State.sendMv_off (sb hm (by decide)) h0' ..)))
def F.State.writeVreq : Nat := 0x190000000000000000000000000000000000000000000000000000034000000000000ffc100000000000000000003000080000800
theorem State.writeVreq_off {m a} (hm : F.State.writeVreq &&& m = F.State.writeVreq) (h0' : Off m a s0') (a1') (a2') : Off m a (State.writeVreq s0' a1' a2') := by
  unfold State.writeVreq; exact (by extract_lets -merge s0 s2; have h1 : Off m a s0 := (by unfold s0; exact (State.wrWord_off h0' (.cons (has_FAB_VREQ_HOST_EN (tb hm (by decide))) .nil) ..)); (try clear_value s0); have h3 : Off m a s2 := (by unfold s2; exact (State.wrWord_off h1 (.cons (has_FAB_VREQ_HOST_MV (tb hm (by decide))) .nil) ..)); (try clear_value s2); (try clear_value s0 s2); exact (.ite (State.satInc_off h1 (has_FAB_IGNWR_CNT (tb hm (by decide))) ..) (State.cond_off h3 (fun _ h4 => (State.coreRequest_off (sb hm (by decide)) h4 ..)) ..)))
def F.State.writeLedgClr : Nat := 0x800000000000000000000000000000000000000000000000000000000000000000000000000000000000800000
theorem State.writeLedgClr_off {m a} (hm : F.State.writeLedgClr &&& m = F.State.writeLedgClr) (h0' : Off m a s0') (a1') : Off m a (State.writeLedgClr s0' a1') := by
  unfold State.writeLedgClr; exact (by extract_lets -merge x0 s1; (try clear_value x0); have h2 : Off m a s1 := (by unfold s1; exact (State.wr_off h0' (has_LEDG_CLR_LANE (tb hm (by decide))) ..)); (try clear_value s1); (try clear_value s1); exact (.ite h2 (State.setFab_off (sb hm (by decide)) h2 ..)))
def F.State.setAudit : Nat := 0x60000000000000000000000000000000000000000000000000000
theorem State.setAudit_off {m a} (hm : F.State.setAudit &&& m = F.State.setAudit) (h0' : Off m a s0') : Off m a (State.setAudit s0') := by
  unfold State.setAudit; exact (by split; (· exact (State.wr_off (State.wr_off h0' (has_LEDG_AUDIT_ANY (tb hm (by decide))) ..) (has_LEDG_AUDIT_LANE (tb hm (by decide))) ..)); (· exact (State.wr_off (State.wr_off h0' (has_LEDG_AUDIT_ANY (tb hm (by decide))) ..) (has_LEDG_AUDIT_LANE (tb hm (by decide))) ..)))
def F.State.ledgerCheck : Nat := 0x600000000000000000000000000000000000003ff000001801800
theorem State.ledgerCheck_off {m a} (hm : F.State.ledgerCheck &&& m = F.State.ledgerCheck) (h0' : Off m a s0') (a1') : Off m a (State.ledgerCheck s0' a1') := by
  unfold State.ledgerCheck; exact (by extract_lets -merge x0 x1 s2 s4 x6; (try clear_value x0 x1 x6); have h3 : Off m a s2 := (by unfold s2; exact (State.setAudit_off (sb hm (by decide)) (State.setLedger_off (sb hm (by decide)) h0' ..) ..)); (try clear_value s2); have h5 : Off m a s4 := (by unfold s4; exact (State.stand_off (sb hm (by decide)) (State.raiseInt_off (sb hm (by decide)) h3 ..) ..)); (try clear_value s4); (try clear_value s2 s4); exact (.ite h0' (State.journals_off (sb hm (by decide)) h5 ..)))
def F.State.ledgerCopy : Nat := 0x1fff8000000000000000000000000000000000000000000000000000000000800000
theorem State.ledgerCopy_off {m a} (hm : F.State.ledgerCopy &&& m = F.State.ledgerCopy) (h0' : Off m a s0') (a1') : Off m a (State.ledgerCopy s0' a1') := by
  unfold State.ledgerCopy; exact (by extract_lets -merge x0 s1 s3 s5 s7 s9 s11; (try clear_value x0); have h2 : Off m a s1 := (by unfold s1; exact (State.wrPair_off h0' (has_LEDG_S_SAMPLE_LO (tb hm (by decide))) (has_LEDG_S_SAMPLE_HI (tb hm (by decide))) ..)); (try clear_value s1); have h4 : Off m a s3 := (by unfold s3; exact (State.wrPair_off h2 (has_LEDG_S_IN_LO (tb hm (by decide))) (has_LEDG_S_IN_HI (tb hm (by decide))) ..)); (try clear_value s3); have h6 : Off m a s5 := (by unfold s5; exact (State.wrPair_off h4 (has_LEDG_S_OUT_LO (tb hm (by decide))) (has_LEDG_S_OUT_HI (tb hm (by decide))) ..)); (try clear_value s5); have h8 : Off m a s7 := (by unfold s7; exact (State.wrPair_off h6 (has_LEDG_S_DISC_LO (tb hm (by decide))) (has_LEDG_S_DISC_HI (tb hm (by decide))) ..)); (try clear_value s7); have h10 : Off m a s9 := (by unfold s9; exact (State.wr_off (State.wr_off h8 (has_LEDG_S_HELD (tb hm (by decide))) ..) (has_LEDG_S_HMAX (tb hm (by decide))) ..)); (try clear_value s9); have h12 : Off m a s11 := (by unfold s11; exact (State.wr_off (State.wr_off (State.wr_off h10 (has_LEDG_S_LATE (tb hm (by decide))) ..) (has_LEDG_S_DISABLE (tb hm (by decide))) ..) (has_LEDG_S_WINGS (tb hm (by decide))) ..)); (try clear_value s11); (try clear_value s1 s3 s5 s7 s9 s11); exact (State.wr_off (State.setFab_off (sb hm (by decide)) h12 ..) (has_LEDG_SNAP_DONE (tb hm (by decide))) ..))
def F.State.writeSnap : Nat := 0x100000000000000000000001fff80000000000600000000000000000000000000000000000003ff000001801800
theorem State.writeSnap_off {m a} (hm : F.State.writeSnap &&& m = F.State.writeSnap) (h0' : Off m a s0') (a1') : Off m a (State.writeSnap s0' a1') := by
  unfold State.writeSnap; exact (by extract_lets -merge x0 s1 s3; (try clear_value x0); have h2 : Off m a s1 := (by unfold s1; exact (State.wr_off h0' (has_LEDG_SNAP_LANE (tb hm (by decide))) ..)); (try clear_value s1); have h4 : Off m a s3 := (by unfold s3; exact (State.wr_off h2 (has_LEDG_SNAP_DONE (tb hm (by decide))) ..)); (try clear_value s3); (try clear_value s1 s3); exact (.ite h2 (.ite (State.setFab_off (sb hm (by decide)) h4 ..) (State.ledgerCheck_off (sb hm (by decide)) (State.ledgerCopy_off (sb hm (by decide)) h4 ..) ..))))
def F.State.syncLedger : Nat := 0x800000
theorem State.syncLedger_off {m a} (hm : F.State.syncLedger &&& m = F.State.syncLedger) (h0' : Off m a s0') (a1') : Off m a (State.syncLedger s0' a1') := by
  unfold State.syncLedger; exact (State.syncTo_off (sb hm (by decide)) h0' ..)
def F.State.clearApply : Nat := 0x60000000000000000000000000000000000000000000000900840
theorem State.clearApply_off {m a} (hm : F.State.clearApply &&& m = F.State.clearApply) (h0' : Off m a s0') : Off m a (State.clearApply s0') := by
  unfold State.clearApply; exact (by split; (· exact h0'); (· exact (by extract_lets -merge s0 s2; have h1 : Off m a s0 := (by unfold s0; exact (State.syncLedger_off (sb hm (by decide)) (State.reach_off (sb hm (by decide)) h0' ..) ..)); (try clear_value s0); have h3 : Off m a s2 := (by unfold s2; exact (State.setLedger_off (sb hm (by decide)) h1 ..)); (try clear_value s2); (try clear_value s0 s2); exact (State.unstand_off (sb hm (by decide)) (State.setAudit_off (sb hm (by decide)) (State.setFab_off (sb hm (by decide)) h3 ..) ..) ..))))
def F.State.holdoffDone : Nat := 0x400000000000000000000000000000000000000000000000000000000000000000000000000000000000000000000000000000000000000000000000000000000000900040
theorem State.holdoffDone_off {m a} (hm : F.State.holdoffDone &&& m = F.State.holdoffDone) (h0' : Off m a s0') : Off m a (State.holdoffDone s0') := by
  unfold State.holdoffDone; exact (by split; (· exact h0'); (· exact (by extract_lets -merge s0; have h1 : Off m a s0 := (by unfold s0; exact (State.reach_off (sb hm (by decide)) h0' ..)); (try clear_value s0); (try clear_value s0); exact (.ite h1 (State.wr_off (State.setFab_off (sb hm (by decide)) h1 ..) (has_FAB_STAT_VGUARD (tb hm (by decide))) ..)))))
def F.State.ledgerAudit : Nat := 0x600000000000000000000000000000000000003ff000201901840
theorem State.ledgerAudit_off {m a} (hm : F.State.ledgerAudit &&& m = F.State.ledgerAudit) (h0' : Off m a s0') (a1') : Off m a (State.ledgerAudit s0' a1') := by
  unfold State.ledgerAudit; exact (by extract_lets -merge s0 x2 s3 s6; (try clear_value x2); have h1 : Off m a s0 := (by unfold s0; exact (State.toMul_off (sb hm (by decide)) h0' ..)); (try clear_value s0); have h5 : Off m a s3 := (by unfold s3; exact (.foldl h1 (fun _ h4 _ => (State.syncLedger_off (sb hm (by decide)) h4 ..)) _)); (try clear_value s3); have h8 : Off m a s6 := (by unfold s6; exact (.foldl h5 (fun _ h7 _ => (by split; (· exact (State.setLedger_off (sb hm (by decide)) h7 ..)))) _)); (try clear_value s6); (try clear_value s0 s3 s6); exact (.foldl h8 (fun _ h9 _ => (State.ledgerCheck_off (sb hm (by decide)) h9 ..)) _))
def F.State.voltageGuard : Nat := 0x80000400000000000000000000000000000000000000000000000000000000000000000000000000000000000000034000000000000ffc100000000000000000003000080800800
theorem State.voltageGuard_off {m a} (hm : F.State.voltageGuard &&& m = F.State.voltageGuard) (h0' : Off m a s0') (a1') : Off m a (State.voltageGuard s0' a1') := by
  unfold State.voltageGuard; exact (by extract_lets -merge s0 s2; have h1 : Off m a s0 := (by unfold s0; exact (State.setFab_off (sb hm (by decide)) h0' ..)); (try clear_value s0); have h4 : Off m a s2 := (by unfold s2; exact (State.cond_off h1 (fun _ h3 => (State.sendMv_off (sb hm (by decide)) h3 ..)) ..)); (try clear_value s2); (try clear_value s0 s2); exact (State.satInc_off (State.int_off (sb hm (by decide)) (State.wr_off h4 (has_FAB_STAT_VGUARD (tb hm (by decide))) ..) ..) (has_FAB_GUARD_CNT (tb hm (by decide))) ..))
def F.State.slackWindowEnd : Nat := 0x3800000000000000000000080000400000000000000000000000000000000000000000000000000000000000000000000000000000000000000034000000000000ffc100000000000000000003000280900840
theorem State.slackWindowEnd_off {m a} (hm : F.State.slackWindowEnd &&& m = F.State.slackWindowEnd) (h0' : Off m a s0') (a1') : Off m a (State.slackWindowEnd s0' a1') := by
  unfold State.slackWindowEnd; exact (by extract_lets -merge s0 x2 s3 x5 x6 s7 s9 s11; (try clear_value x2 x5 x6); have h1 : Off m a s0 := (by unfold s0; exact (State.toMul_off (sb hm (by decide)) h0' ..)); (try clear_value s0); have h4 : Off m a s3 := (by unfold s3; exact (State.setFab_off (sb hm (by decide)) h1 ..)); (try clear_value s3); have h8 : Off m a s7 := (by unfold s7; exact (State.wr_off h4 (has_FAB_STAT_LOW_SLACK (tb hm (by decide))) ..)); (try clear_value s7); have h10 : Off m a s9 := (by unfold s9; exact (by split; (· exact (State.wr_off h8 (has_FAB_STAT_LOW_ISL (tb hm (by decide))) ..)); (· exact h8))); (try clear_value s9); have h13 : Off m a s11 := (by unfold s11; exact (.ite (State.stand_off (sb hm (by decide)) (State.raise_off (sb hm (by decide)) (State.wr_off h10 (has_FAB_STAT_SLACK_LOW (tb hm (by decide))) ..) ..) ..) (State.cond_off (State.wr_off h10 (has_FAB_STAT_SLACK_LOW (tb hm (by decide))) ..) (fun _ h12 => (State.unstand_off (sb hm (by decide)) h12 ..)) ..))); (try clear_value s11); (try clear_value s0 s3 s7 s9 s11); exact (.ite (State.voltageGuard_off (sb hm (by decide)) h13 ..) (.ite (State.setFab_off (sb hm (by decide)) h13 ..) (State.setFab_off (sb hm (by decide)) h13 ..))))
def F.State.snapDone : Nat := 0x1fff80000000000600000000000000000000000000000000000003ff000001901840
theorem State.snapDone_off {m a} (hm : F.State.snapDone &&& m = F.State.snapDone) (h0' : Off m a s0') : Off m a (State.snapDone s0') := by
  unfold State.snapDone; exact (by split; (· exact h0'); (· exact (by extract_lets -merge s0; have h1 : Off m a s0 := (by unfold s0; exact (State.syncLedger_off (sb hm (by decide)) (State.reach_off (sb hm (by decide)) h0' ..) ..)); (try clear_value s0); (try clear_value s0); exact (State.ledgerCheck_off (sb hm (by decide)) (State.ledgerCopy_off (sb hm (by decide)) h1 ..) ..))))
def F.State.wingsLoss : Nat := 0x4000000000000000000000000000000000000000000000000000000000000000000000000000000000000000000000000000000000000000000000000000000000000000000000000000000003000000800800
theorem State.wingsLoss_off {m a} (hm : F.State.wingsLoss &&& m = F.State.wingsLoss) (h0' : Off m a s0') (a1') : Off m a (State.wingsLoss s0' a1') := by
  unfold State.wingsLoss; exact (by extract_lets -merge s0; have h1 : Off m a s0 := (by unfold s0; exact (State.raiseInt_off (sb hm (by decide)) (State.satInc_off h0' (has_FAB_WLOSS_CNT (tb hm (by decide))) ..) ..)); (try clear_value s0); (try clear_value s0); exact (.foldl h1 (fun _ h2 _ => (by split; (· exact (State.setLedger_off (sb hm (by decide)) (State.syncLedger_off (sb hm (by decide)) h2 ..) ..)))) _))
def F.State.wingsWarning : Nat := 0x80000400000000000000000000000000000000000000000000000000000000000000000000000000000000000000034000000000000ffc100000000000000000003000080800800
theorem State.wingsWarning_off {m a} (hm : F.State.wingsWarning &&& m = F.State.wingsWarning) (h0' : Off m a s0') (a1') (a2') : Off m a (State.wingsWarning s0' a1' a2') := by
  unfold State.wingsWarning; exact (by extract_lets -merge x0 x1 x2 s3; (try clear_value x0 x1 x2); have h4 : Off m a s3 := (by unfold s3; exact (State.setFab_off (sb hm (by decide)) h0' ..)); (try clear_value s3); (try clear_value s3); exact (.ite h4 (.ite (State.voltageGuard_off (sb hm (by decide)) (State.stand_off (sb hm (by decide)) (State.raiseInt_off (sb hm (by decide)) h4 ..) ..) ..) (.ite h4 (State.unstand_off (sb hm (by decide)) h4 ..)))))

end Sys2Proof.Machine
end

