-- ==== Sys2Proof/Laws/OffSpt.lean ====
section
/-! SUPPORT. What the operations of Machine/Spt.lean reach: the pieces of the state and the register fields whose
numbers are set in the mask of each (`F`). -/
namespace Sys2Proof.Machine
open Sys2Proof
set_option Elab.async false

def F.State.setCtx : Nat := 0x80000
theorem State.setCtx_off {m a} (hm : F.State.setCtx &&& m = F.State.setCtx) (h0' : Off m a s0') (a1') (a2') : Off m a (State.setCtx s0' a1' a2') := by
  unfold State.setCtx; exact (.upd h0' (h_spt := .inr (tb hm (by decide))))
def F.State.writeCtx : Nat := 0x60000000000000000000000000000000000000000000000000000000000000000000000000000000000000000000000000000000000000001000000080000
theorem State.writeCtx_off {m a} (hm : F.State.writeCtx &&& m = F.State.writeCtx) (h0' : Off m a s0') (a1') (a2') (a3') : Off m a (State.writeCtx s0' a1' a2' a3') := by
  unfold State.writeCtx; exact (by extract_lets -merge x0 x1 x2; (try clear_value x0 x1 x2); exact (.ite (.ite (State.int_off (sb hm (by decide)) (State.satInc_off h0' (has_MEAS_CTXWR_CNT (tb hm (by decide))) ..) ..) (State.int_off (sb hm (by decide)) (State.satInc_off h0' (has_SPT_CTXWR_CNT (tb hm (by decide))) ..) ..)) (State.setCtx_off (sb hm (by decide)) h0' ..)))
theorem State.sptWr_off {m a} (h0' : Off m a s0') (p1' : Has m a1') (p2' : Has m a2') (a3') (a4') : Off m a (State.sptWr s0' a1' a2' a3' a4') := by
  unfold State.sptWr; exact (State.wr_off h0' (.ite p2' p1') ..)
def F.State.setSl : Nat := 0x80000
theorem State.setSl_off {m a} (hm : F.State.setSl &&& m = F.State.setSl) (h0' : Off m a s0') (a1') (a2') : Off m a (State.setSl s0' a1' a2') := by
  unfold State.setSl; exact (.upd h0' (h_spt := .inr (tb hm (by decide))))
def F.State.setStuck : Nat := 0x18000000000000000000000
theorem State.setStuck_off {m a} (hm : F.State.setStuck &&& m = F.State.setStuck) (h0' : Off m a s0') : Off m a (State.setStuck s0') := by
  unfold State.setStuck; exact (by split; (· exact (State.wr_off (State.wr_off h0' (has_SPT_STUCK_ANY (tb hm (by decide))) ..) (has_SPT_STUCK_CTX (tb hm (by decide))) ..)); (· exact (State.wr_off (State.wr_off h0' (has_SPT_STUCK_ANY (tb hm (by decide))) ..) (has_SPT_STUCK_CTX (tb hm (by decide))) ..)))
def F.State.sptStop : Nat := 0x3f8000000000000000080000
theorem State.sptStop_off {m a} (hm : F.State.sptStop &&& m = F.State.sptStop) (h0' : Off m a s0') (a1') : Off m a (State.sptStop s0' a1') := by
  unfold State.sptStop; exact (.ite (by extract_lets -merge s0 s3 s5; have h2 : Off m a s0 := (by unfold s0; exact (.foldl h0' (fun _ h1 _ => (.ite (State.setCtx_off (sb hm (by decide)) h1 ..) h1)) _)); (try clear_value s0); have h4 : Off m a s3 := (by unfold s3; exact (State.sptWr_off (State.sptWr_off h2 (has_SPT_LANE_STAT_MEASURING (tb hm (by decide))) (has_MEAS_LANE_STAT_MEASURING (tb hm (by decide))) ..) (has_SPT_LANE_STAT_LEARNING (tb hm (by decide))) (has_MEAS_LANE_STAT_LEARNING (tb hm (by decide))) ..)); (try clear_value s3); have h7 : Off m a s5 := (by unfold s5; exact (State.cond_off h4 (fun _ h6 => (State.wr_off h6 (has_SPT_LANE_STAT_GATING (tb hm (by decide))) ..)) ..)); (try clear_value s5); (try clear_value s0 s3 s5); exact (State.setStuck_off (sb hm (by decide)) (State.setSl_off (sb hm (by decide)) h7 ..) ..)) h0')
theorem State.sptWr0_off {m a} (h0' : Off m a s0') (p1' : Has m a1') (p2' : Has m a2') (a3') (a4') : Off m a (State.sptWr0 s0' a1' a2' a3' a4') := by
  unfold State.sptWr0; exact (State.wr_off h0' (.ite p2' p1') ..)
def F.State.setSptLoad : Nat := 0x1400000000000000000000000000
theorem State.setSptLoad_off {m a} (hm : F.State.setSptLoad &&& m = F.State.setSptLoad) (h0' : Off m a s0') (a1') : Off m a (State.setSptLoad s0' a1') := by
  unfold State.setSptLoad; exact (State.sptWr0_off h0' (has_SPT_LOAD (tb hm (by decide))) (has_MEAS_LOAD (tb hm (by decide))) ..)
def F.State.sptDisarm : Nat := 0x5de003f8000000000000000080000
theorem State.sptDisarm_off {m a} (hm : F.State.sptDisarm &&& m = F.State.sptDisarm) (h0' : Off m a s0') (a1') (a2') : Off m a (State.sptDisarm s0' a1' a2') := by
  unfold State.sptDisarm; exact (by extract_lets -merge s0 s2 s4; have h1 : Off m a s0 := (by unfold s0; exact (State.sptWr_off (State.sptStop_off (sb hm (by decide)) h0' ..) (has_SPT_LANE_STAT_ARMED (tb hm (by decide))) (has_MEAS_LANE_STAT_ARMED (tb hm (by decide))) ..)); (try clear_value s0); have h3 : Off m a s2 := (by unfold s2; exact (State.sptWr_off h1 (has_SPT_LANE_CFG_EN (tb hm (by decide))) (has_MEAS_LANE_CFG_EN (tb hm (by decide))) ..)); (try clear_value s2); have h6 : Off m a s4 := (by unfold s4; exact (State.cond_off h3 (fun _ h5 => (State.sptWr_off h5 (has_SPT_LANE_STAT_ERR (tb hm (by decide))) (has_MEAS_LANE_STAT_ERR (tb hm (by decide))) ..)) ..)); (try clear_value s4); (try clear_value s0 s2 s4); exact (State.setSptLoad_off (sb hm (by decide)) h6 ..))
def F.State.sptRetire : Nat := 0x5de003f8000000000000000080000
theorem State.sptRetire_off {m a} (hm : F.State.sptRetire &&& m = F.State.sptRetire) (h0' : Off m a s0') (a1') : Off m a (State.sptRetire s0' a1') := by
  unfold State.sptRetire; exact (.ite (State.sptDisarm_off (sb hm (by decide)) h0' ..) h0')
def F.State.freshCtxs : Nat := 0x18000000000000000080000
theorem State.freshCtxs_off {m a} (hm : F.State.freshCtxs &&& m = F.State.freshCtxs) (h0' : Off m a s0') (a1') : Off m a (State.freshCtxs s0' a1') := by
  unfold State.freshCtxs; exact (by extract_lets -merge x0; (try clear_value x0); exact (State.setStuck_off (sb hm (by decide)) (.foldl h0' (fun _ h1 _ => (State.setCtx_off (sb hm (by decide)) h1 ..)) _) ..))
def F.State.sptActive : Nat := 0xc0000000000103f8000000000000000080000
theorem State.sptActive_off {m a} (hm : F.State.sptActive &&& m = F.State.sptActive) (h0' : Off m a s0') (a1') : Off m a (State.sptActive s0' a1') := by
  unfold State.sptActive; exact (.ite h0' (by extract_lets -merge s0 s2 s4; have h1 : Off m a s0 := (by unfold s0; exact (State.freshCtxs_off (sb hm (by decide)) (State.setSl_off (sb hm (by decide)) h0' ..) ..)); (try clear_value s0); have h3 : Off m a s2 := (by unfold s2; exact (State.sptWr_off (State.sptWr_off h1 (has_SPT_LANE_STAT_MEASURING (tb hm (by decide))) (has_MEAS_LANE_STAT_MEASURING (tb hm (by decide))) ..) (has_SPT_LANE_STAT_LEARNING (tb hm (by decide))) (has_MEAS_LANE_STAT_LEARNING (tb hm (by decide))) ..)); (try clear_value s2); have h5 : Off m a s4 := (by unfold s4; exact (State.sptWr_off h3 (has_SPT_LANE_STAT_OPEN_NOW (tb hm (by decide))) (has_MEAS_LANE_STAT_ACTIVE_NOW (tb hm (by decide))) ..)); (try clear_value s4); (try clear_value s0 s2 s4); exact (State.cond_off h5 (fun _ h6 => (State.setLat_off (sb hm (by decide)) (State.wr_off h6 (has_SPT_LANE_STAT_GATING (tb hm (by decide))) ..) ..)) ..)))
def F.State.holdCfg : Nat := 0x80000
theorem State.holdCfg_off {m a} (hm : F.State.holdCfg &&& m = F.State.holdCfg) (h0' : Off m a s0') (a1') : Off m a (State.holdCfg s0' a1') := by
  unfold State.holdCfg; exact (.foldl h0' (fun _ h0 _ => (.ite (by extract_lets -merge x1; (try clear_value x1); exact (State.setSl_off (sb hm (by decide)) h0 ..)) h0)) _)
def F.State.ctxCopy : Nat := 0xc60000000000000000000000000000000000000000000000000000000000000000000
theorem State.ctxCopy_off {m a} (hm : F.State.ctxCopy &&& m = F.State.ctxCopy) (h0' : Off m a s0') (a1') (a2') : Off m a (State.ctxCopy s0' a1' a2') := by
  unfold State.ctxCopy; exact (by extract_lets -merge u0 x1 s2; (try clear_value x1); have h4 : Off m a s2 := (by unfold s2; exact (.foldl h0' (fun _ h3 _ => (State.wr_off h3 (by unfold u0; exact (.ite (has_MEAS_SNAP_DATA (tb hm (by decide))) (has_SPT_SNAP_DATA (tb hm (by decide))))) ..)) _)); (try clear_value s2); (try clear_value s2); exact (State.wr_off h4 (.ite (has_MEAS_SNAP_DONE (tb hm (by decide))) (has_SPT_SNAP_DONE (tb hm (by decide)))) ..))
def F.State.setSpt : Nat := 0x80000
theorem State.setSpt_off {m a} (hm : F.State.setSpt &&& m = F.State.setSpt) (h0' : Off m a s0') (a1') : Off m a (State.setSpt s0' a1') := by
  unfold State.setSpt; exact (.upd h0' (h_spt := .inr (tb hm (by decide))))
def F.State.writeCtxSnap : Nat := 0x8002000000000000000000000c60000000000000000000000000000000000000000000000000000000000000080000
theorem State.writeCtxSnap_off {m a} (hm : F.State.writeCtxSnap &&& m = F.State.writeCtxSnap) (h0' : Off m a s0') (a1') (a2') : Off m a (State.writeCtxSnap s0' a1' a2') := by
  unfold State.writeCtxSnap; exact (by extract_lets -merge x0 s1 s3 g5; (try clear_value x0); have h2 : Off m a s1 := (by unfold s1; exact (State.wr_off h0' (.ite (has_MEAS_SNAP_CTX (tb hm (by decide))) (has_SPT_SNAP_CTX (tb hm (by decide)))) ..)); (try clear_value s1); have h4 : Off m a s3 := (by unfold s3; exact (State.wr_off h2 (.ite (has_MEAS_SNAP_DONE (tb hm (by decide))) (has_SPT_SNAP_DONE (tb hm (by decide)))) ..)); (try clear_value s3); have h7 : ∀ y0, Off m a y0 → ∀ y1, Off m a (g5 y0 y1) := (fun _ h6 _ => (State.setSpt_off (sb hm (by decide)) h6 ..)); (try clear_value s1 s3); exact (.ite h2 (by split; (· exact (.ite (h7 _ h4 _) (State.ctxCopy_off (sb hm (by decide)) (h7 _ h4 _) ..))); (· exact (State.ctxCopy_off (sb hm (by decide)) (h7 _ h4 _) ..)))))
def F.State.writeSptMap : Nat := 0x30018000000000000000000000000000000000000000000000000000000000000000000000000000000000a00000000000000000000000000
theorem State.writeSptMap_off {m a} (hm : F.State.writeSptMap &&& m = F.State.writeSptMap) (h0' : Off m a s0') (a1') (a2') : Off m a (State.writeSptMap s0' a1' a2') := by
  unfold State.writeSptMap; exact (.ite (State.sptWr_off h0' (has_SPT_LANE_STAT_ERR (tb hm (by decide))) (has_MEAS_LANE_STAT_ERR (tb hm (by decide))) ..) (State.wrWord_off h0' (.ite (.cons (has_MEAS_LANE_MAP_BASE (tb hm (by decide))) (.cons (has_MEAS_LANE_MAP_COUNT (tb hm (by decide))) .nil)) (.cons (has_SPT_LANE_MAP_BASE (tb hm (by decide))) (.cons (has_SPT_LANE_MAP_COUNT (tb hm (by decide))) .nil))) ..))
def F.State.sptArm : Nat := 0xc00000000de103f8000000000000000080000
theorem State.sptArm_off {m a} (hm : F.State.sptArm &&& m = F.State.sptArm) (h0' : Off m a s0') (a1') : Off m a (State.sptArm s0' a1') := by
  unfold State.sptArm; exact (by extract_lets -merge s0 s2; have h1 : Off m a s0 := (by unfold s0; exact (State.setSptLoad_off (sb hm (by decide)) (State.sptWr_off (State.sptWr_off h0' (has_SPT_LANE_STAT_ERR (tb hm (by decide))) (has_MEAS_LANE_STAT_ERR (tb hm (by decide))) ..) (has_SPT_LANE_STAT_ARMED (tb hm (by decide))) (has_MEAS_LANE_STAT_ARMED (tb hm (by decide))) ..) ..)); (try clear_value s0); have h3 : Off m a s2 := (by unfold s2; exact (State.freshCtxs_off (sb hm (by decide)) (State.setSl_off (sb hm (by decide)) h1 ..) ..)); (try clear_value s2); (try clear_value s0 s2); exact (State.cond_off h3 (fun _ h4 => (State.sptActive_off (sb hm (by decide)) h4 ..)) ..))
def F.State.sptBegin : Nat := 0x80000
theorem State.sptBegin_off {m a} (hm : F.State.sptBegin &&& m = F.State.sptBegin) (h0' : Off m a s0') (a1') (a2') : Off m a (State.sptBegin s0' a1' a2') := by
  unfold State.sptBegin; exact (.ite h0' (by extract_lets -merge x0 x1 x2 x3 x4 x5; (try clear_value x0 x1 x2 x3 x4 x5); exact (State.setSl_off (sb hm (by decide)) h0' ..)))
def F.State.writeSptCfg : Nat := 0xc00300000000000000000400000000000000000c00000005de103f8000000003000000080000
theorem State.writeSptCfg_off {m a} (hm : F.State.writeSptCfg &&& m = F.State.writeSptCfg) (h0' : Off m a s0') (a1') (a2') : Off m a (State.writeSptCfg s0' a1' a2') := by
  unfold State.writeSptCfg; exact (by extract_lets -merge x0 s1 s3 s5; (try clear_value x0); have h2 : Off m a s1 := (by unfold s1; exact (State.wrWord_off h0' (.ite (.cons (has_MEAS_LANE_CFG_EN (tb hm (by decide))) (.cons (has_MEAS_LANE_CFG_RES (tb hm (by decide))) (.cons (has_MEAS_LANE_CFG_FIRST (tb hm (by decide))) .nil))) (.cons (has_SPT_LANE_CFG_EN (tb hm (by decide))) (.cons (has_SPT_LANE_CFG_RES (tb hm (by decide))) (.cons (has_SPT_LANE_CFG_FIRST (tb hm (by decide))) (.cons (has_SPT_LANE_CFG_GATE (tb hm (by decide))) .nil))))) ..)); (try clear_value s1); have h4 : Off m a s3 := (by unfold s3; exact (State.int_off (sb hm (by decide)) h2 ..)); (try clear_value s3); have h6 : Off m a s5 := (by unfold s5; exact (State.sptArm_off (sb hm (by decide)) h4 ..)); (try clear_value s5); (try clear_value s1 s3 s5); exact (.ite (.ite (State.sptWr_off h0' (has_SPT_LANE_STAT_ERR (tb hm (by decide))) (has_MEAS_LANE_STAT_ERR (tb hm (by decide))) ..) (.ite (State.wrWord_off (State.sptDisarm_off (sb hm (by decide)) h0' ..) (.ite (.cons (has_MEAS_LANE_CFG_EN (tb hm (by decide))) (.cons (has_MEAS_LANE_CFG_RES (tb hm (by decide))) (.cons (has_MEAS_LANE_CFG_FIRST (tb hm (by decide))) .nil))) (.cons (has_SPT_LANE_CFG_EN (tb hm (by decide))) (.cons (has_SPT_LANE_CFG_RES (tb hm (by decide))) (.cons (has_SPT_LANE_CFG_FIRST (tb hm (by decide))) (.cons (has_SPT_LANE_CFG_GATE (tb hm (by decide))) .nil))))) ..) (State.setSl_off (sb hm (by decide)) h0' ..))) (.ite h2 (by split; (· exact (State.refuse_off (sb hm (by decide)) (State.sptWr_off (State.sptWr_off h4 (has_SPT_LANE_STAT_ERR (tb hm (by decide))) (has_MEAS_LANE_STAT_ERR (tb hm (by decide))) ..) (has_SPT_LANE_CFG_EN (tb hm (by decide))) (has_MEAS_LANE_CFG_EN (tb hm (by decide))) ..) ..)); (· exact (.ite (State.sptBegin_off (sb hm (by decide)) h6 ..) h6))))))
def F.State.holdProt : Nat := 0x2000
theorem State.holdProt_off {m a} (hm : F.State.holdProt &&& m = F.State.holdProt) (h0' : Off m a s0') : Off m a (State.holdProt s0') := by
  unfold State.holdProt; exact (.upd h0' (h_cur := .inr (tb hm (by decide))))
def F.State.ctxInterval : Nat := 0x1000000080000
theorem State.ctxInterval_off {m a} (hm : F.State.ctxInterval &&& m = F.State.ctxInterval) (h0' : Off m a s0') : Off m a (State.ctxInterval s0') := by
  unfold State.ctxInterval; exact (by extract_lets -merge s0; have h1 : Off m a s0 := (by unfold s0; exact (State.setSpt_off (sb hm (by decide)) h0' ..)); (try clear_value s0); (try clear_value s0); exact (State.int_off (sb hm (by decide)) (State.int_off (sb hm (by decide)) h1 ..) ..))
def F.State.ctxSnapDone : Nat := 0xc60000000000000000000000000000000000000000000000000000000000000080000
theorem State.ctxSnapDone_off {m a} (hm : F.State.ctxSnapDone &&& m = F.State.ctxSnapDone) (h0' : Off m a s0') (a1') : Off m a (State.ctxSnapDone s0' a1') := by
  unfold State.ctxSnapDone; exact (by split; (· exact h0'); (· exact (by extract_lets -merge x0; (try clear_value x0); exact (.ite (State.ctxCopy_off (sb hm (by decide)) (State.setSpt_off (sb hm (by decide)) h0' ..) ..) h0'))))
def F.State.ctxStuck : Nat := 0x18000000001000000180040
theorem State.ctxStuck_off {m a} (hm : F.State.ctxStuck &&& m = F.State.ctxStuck) (h0' : Off m a s0') (a1') : Off m a (State.ctxStuck s0' a1') := by
  unfold State.ctxStuck; exact (by extract_lets -merge x0 x1; (try clear_value x0 x1); exact (by split; (· exact h0'); (· exact (.ite h0' (by extract_lets -merge s2; have h3 : Off m a s2 := (by unfold s2; exact (State.reach_off (sb hm (by decide)) h0' ..)); (try clear_value s2); (try clear_value s2); exact (State.int_off (sb hm (by decide)) (State.setStuck_off (sb hm (by decide)) (State.setCtx_off (sb hm (by decide)) h3 ..) ..) ..))))))
def F.State.ctxUncorr : Nat := 0x18000000003000000080800
theorem State.ctxUncorr_off {m a} (hm : F.State.ctxUncorr &&& m = F.State.ctxUncorr) (h0' : Off m a s0') (a1') (a2') : Off m a (State.ctxUncorr s0' a1' a2') := by
  unfold State.ctxUncorr; exact (by extract_lets -merge x0 x1 s2 x5 x6 s7 s9 x11 s12; (try clear_value x0 x1 x5 x6 x11); have h4 : Off m a s2 := (by unfold s2; exact (.foldl h0' (fun _ h3 _ => (State.setSl_off (sb hm (by decide)) h3 ..)) _)); (try clear_value s2); have h8 : Off m a s7 := (by unfold s7; exact (State.setCtx_off (sb hm (by decide)) h0' ..)); (try clear_value s7); have h10 : Off m a s9 := (by unfold s9; exact (State.setStuck_off (sb hm (by decide)) h8 ..)); (try clear_value s9); have h13 : Off m a s12 := (by unfold s12; exact (by split; (· exact (.ite (State.setSl_off (sb hm (by decide)) h10 ..) h10)); (· exact h10))); (try clear_value s12); (try clear_value s2 s7 s9 s12); exact (.ite (State.raise_off (sb hm (by decide)) h4 ..) (State.raise_off (sb hm (by decide)) h13 ..)))
def F.State.frameNc : Nat := 0x6000000000000000000000000000000000000000000000000000000000000000000000000000000000000000000000000000000000000000000000000000000000000000000000000000000000080000
theorem State.frameNc_off {m a} (hm : F.State.frameNc &&& m = F.State.frameNc) (h0' : Off m a s0') (a1') : Off m a (State.frameNc s0' a1').2 := by
  unfold State.frameNc; exact (by extract_lets -merge x0 s1 x3 x4 x5; (try clear_value x0 x3 x4 x5); have h2 : Off m a s1 := (by unfold s1; exact (State.setSl_off (sb hm (by decide)) h0' ..)); (try clear_value s1); (try clear_value s1); exact (.ite2 (.pr2 h0') (.ite2 (.pr2 (State.wr_off (State.wr_off h2 (has_SPT_LANE_NC_NC (tb hm (by decide))) ..) (has_SPT_LANE_NC_UNC (tb hm (by decide))) ..)) (.pr2 (State.wr_off (State.wr_off h2 (has_SPT_LANE_NC_NC (tb hm (by decide))) ..) (has_SPT_LANE_NC_UNC (tb hm (by decide))) ..)))))
def F.State.sptSample : Nat := 0x80000
theorem State.sptSample_off {m a} (hm : F.State.sptSample &&& m = F.State.sptSample) (h0' : Off m a s0') (a1') (a2') (a3') (a4') (a5') : Off m a (State.sptSample s0' a1' a2' a3' a4' a5') := by
  unfold State.sptSample; exact (by extract_lets -merge x0 x1 x2 x3; (try clear_value x0 x1 x2 x3); exact (.ite h0' (State.setSl_off (sb hm (by decide)) h0' ..)))
def F.State.measPwr : Nat := 0x30000000000000000000000000000000000000000000000000000000000000000000000000000000000000000000000000000000000000000000000000000000000000000000000000000000004000
theorem State.measPwr_off {m a} (hm : F.State.measPwr &&& m = F.State.measPwr) (h0' : Off m a s0') (a1') (a2') : Off m a (State.measPwr s0' a1' a2') := by
  unfold State.measPwr; exact (by extract_lets -merge x0 x1 s2 s4 x6; (try clear_value x0 x1 x6); have h3 : Off m a s2 := (by unfold s2; exact (State.wr_off h0' (has_MEAS_LANE_PWR_PWR (tb hm (by decide))) ..)); (try clear_value s2); have h5 : Off m a s4 := (by unfold s4; exact (.ite h3 (State.wr_off h3 (has_MEAS_LANE_PWR_FLR (tb hm (by decide))) ..))); (try clear_value s4); (try clear_value s2 s4); exact (.ite (.upd h5 (h_prot := .inr (tb hm (by decide)))) h5))
def F.State.windowClose : Nat := 0x4000000200000000003000000000000000000000000000000000000000000000000000000000000000000000000000000000000000000000000000000000000000000000000c00000005de003f8000000001000000184040
theorem State.windowClose_off {m a} (hm : F.State.windowClose &&& m = F.State.windowClose) (h0' : Off m a s0') (a1') (a2') : Off m a (State.windowClose s0' a1' a2') := by
  unfold State.windowClose; exact (.ite h0' (by extract_lets -merge s0 x2 x3 s4 x7 x8 x9 x10 x11 x12 x13 x14 x15 x16 x17 x18 x19 s20 s23 s26 x29 s30 s32 s35 s37; (try clear_value x2 x3 x7 x8 x9 x10 x11 x12 x13 x14 x15 x16 x17 x18 x19 x29); have h1 : Off m a s0 := (by unfold s0; exact (State.reach_off (sb hm (by decide)) h0' ..)); (try clear_value s0); have h6 : Off m a s4 := (by unfold s4; exact (State.cond_off h1 (fun _ h5 => (State.satAdd_off h5 (.ite (has_MEAS_ECC_CNT (tb hm (by decide))) (has_SPT_ECC_CNT (tb hm (by decide)))) ..)) ..)); (try clear_value s4); have h22 : Off m a s20 := (by unfold s20; exact (.ite h6 (.foldl h6 (fun _ h21 _ => (State.setCtx_off (sb hm (by decide)) h21 ..)) _))); (try clear_value s20); have h25 : Off m a s23 := (by unfold s23; exact (State.cond_off h22 (fun _ h24 => (by split; (· exact (State.setSl_off (sb hm (by decide)) h24 ..)))) ..)); (try clear_value s23); have h28 : Off m a s26 := (by unfold s26; exact (State.cond_off h25 (fun _ h27 => (State.measPwr_off (sb hm (by decide)) h27 ..)) ..)); (try clear_value s26); have h31 : Off m a s30 := (by unfold s30; exact (State.setSl_off (sb hm (by decide)) h28 ..)); (try clear_value s30); have h34 : Off m a s32 := (by unfold s32; exact (State.cond_off h31 (fun _ h33 => (State.int_off (sb hm (by decide)) (State.sptWr_off h33 (has_SPT_LANE_STAT_LEARNING (tb hm (by decide))) (has_MEAS_LANE_STAT_LEARNING (tb hm (by decide))) ..) ..)) ..)); (try clear_value s32); have h36 : Off m a s35 := (by unfold s35; exact (State.sptWr_off h34 (has_SPT_LANE_STAT_OPEN_NOW (tb hm (by decide))) (has_MEAS_LANE_STAT_ACTIVE_NOW (tb hm (by decide))) ..)); (try clear_value s35); have h38 : Off m a s37 := (by unfold s37; exact (State.setStuck_off (sb hm (by decide)) h36 ..)); (try clear_value s37); (try clear_value s0 s4 s20 s23 s26 s30 s32 s35 s37); exact (by split; (· exact (.ite (State.sptDisarm_off (sb hm (by decide)) h38 ..) h38)); (· exact h38))))

end Sys2Proof.Machine
end

