-- ==== Sys2Proof/Laws/OffTdd.lean ====
section
/-! SUPPORT. What the operations of Machine/Tdd.lean reach: the pieces of the state and the register fields whose
numbers are set in the mask of each (`F`). -/
namespace Sys2Proof.Machine
open Sys2Proof
set_option Elab.async false

def F.State.tddStand : Nat := 0x800
theorem State.tddStand_off {m a} (hm : F.State.tddStand &&& m = F.State.tddStand) (h0' : Off m a s0') : Off m a (State.tddStand s0') := by
  unfold State.tddStand; exact (by extract_lets -merge s0; have h1 : Off m a s0 := (by unfold s0; exact (.ite (State.unstand_off (sb hm (by decide)) h0' ..) (State.stand_off (sb hm (by decide)) h0' ..))); (try clear_value s0); (try clear_value s0); exact (.ite (State.unstand_off (sb hm (by decide)) h1 ..) (State.stand_off (sb hm (by decide)) h1 ..)))
def F.State.setTdd : Nat := 0x200000
theorem State.setTdd_off {m a} (hm : F.State.setTdd &&& m = F.State.setTdd) (h0' : Off m a s0') (a1') : Off m a (State.setTdd s0' a1') := by
  unfold State.setTdd; exact (.upd h0' (h_tdd := .inr (tb hm (by decide))))
def F.State.guardCheck : Nat := 0x3000000200800
theorem State.guardCheck_off {m a} (hm : F.State.guardCheck &&& m = F.State.guardCheck) (h0' : Off m a s0') (a1') : Off m a (State.guardCheck s0' a1') := by
  unfold State.guardCheck; exact (by extract_lets -merge x0 s1; (try clear_value x0); have h2 : Off m a s1 := (by unfold s1; exact (State.tddStand_off (sb hm (by decide)) (State.setTdd_off (sb hm (by decide)) h0' ..) ..)); (try clear_value s1); (try clear_value s1); exact (.ite h0' (State.raiseInt_off (sb hm (by decide)) h2 ..)))
def F.State.guardDrop : Nat := 0x200800
theorem State.guardDrop_off {m a} (hm : F.State.guardDrop &&& m = F.State.guardDrop) (h0' : Off m a s0') (a1') : Off m a (State.guardDrop s0' a1') := by
  unfold State.guardDrop; exact (by extract_lets -merge x0; (try clear_value x0); exact (State.tddStand_off (sb hm (by decide)) (State.setTdd_off (sb hm (by decide)) h0' ..) ..))
def F.State.cancelSwap : Nat := 0x400040000000000000000000000000000000000000000001000000000000
theorem State.cancelSwap_off {m a} (hm : F.State.cancelSwap &&& m = F.State.cancelSwap) (h0' : Off m a s0') (a1') : Off m a (State.cancelSwap s0' a1') := by
  unfold State.cancelSwap; exact (.ite (State.int_off (sb hm (by decide)) (State.wr_off (State.putBit_off h0' (has_TDD_STAT_PENDING (tb hm (by decide))) ..) (has_TDD_STAT_CANCELLED (tb hm (by decide))) ..) ..) h0')
def F.State.writeTddCtl : Nat := 0x1c00000000000000000000000000000000000400040000000000000000000000000000000000000000003000000200000
theorem State.writeTddCtl_off {m a} (hm : F.State.writeTddCtl &&& m = F.State.writeTddCtl) (h0' : Off m a s0') (a1') : Off m a (State.writeTddCtl s0' a1') := by
  unfold State.writeTddCtl; exact (by extract_lets -merge x0 s1 x3 x4; (try clear_value x0 x3 x4); have h2 : Off m a s1 := (by unfold s1; exact (State.wr_off (State.wr_off h0' (has_TDD_CTL_PAT (tb hm (by decide))) ..) (has_TDD_CTL_FRAME (tb hm (by decide))) ..)); (try clear_value s1); (try clear_value s1); exact (.ite h2 (by split; (· exact (State.int_off (sb hm (by decide)) (State.cancelSwap_off (sb hm (by decide)) (State.refuse_off (sb hm (by decide)) (State.wr_off h2 (has_TDD_STAT_ERR (tb hm (by decide))) ..) ..) ..) ..)); (· exact (State.setTdd_off (sb hm (by decide)) (State.putBit_off (State.wr_off h2 (has_TDD_STAT_ERR (tb hm (by decide))) ..) (has_TDD_STAT_PENDING (tb hm (by decide))) ..) ..)))))
def F.State.writeTddBank : Nat := 0x2000000000000000000000000000000000000000000000000000000400040000000000000000000000000000000000000000001000000000000
theorem State.writeTddBank_off {m a} (hm : F.State.writeTddBank &&& m = F.State.writeTddBank) (h0' : Off m a s0') (p3' : HasL m a3') (a1') (a2') (a4') (a5') : Off m a (State.writeTddBank s0' a1' a2' a3' a4' a5') := by
  unfold State.writeTddBank; exact (.ite (State.satInc_off h0' (has_TDD_WR_CNT (tb hm (by decide))) ..) (by extract_lets -merge s0; have h1 : Off m a s0 := (State.wrWord_off h0' p3' ..); (try clear_value s0); (try clear_value s0); exact (by split; (· exact (.ite (State.cancelSwap_off (sb hm (by decide)) h1 ..) h1)); (· exact h1))))
def F.State.bankEcc : Nat := 0x3000000200800
theorem State.bankEcc_off {m a} (hm : F.State.bankEcc &&& m = F.State.bankEcc) (h0' : Off m a s0') (a1') : Off m a (State.bankEcc s0' a1') := by
  unfold State.bankEcc; exact (by extract_lets -merge x0 s1; (try clear_value x0); have h2 : Off m a s1 := (by unfold s1; exact (.ite h0' (State.tddStand_off (sb hm (by decide)) (State.setTdd_off (sb hm (by decide)) h0' ..) ..))); (try clear_value s1); (try clear_value s1); exact (State.raise_off (sb hm (by decide)) h2 ..))
def F.State.swapApply : Nat := 0x18000000000000000000000000000000000000000000000000000000000000000000000000000000000000000000000000000000000000000000000000000040000000000000000000000000000000000000000001000000300840
theorem State.swapApply_off {m a} (hm : F.State.swapApply &&& m = F.State.swapApply) (h0' : Off m a s0') (a1') : Off m a (State.swapApply s0' a1') := by
  unfold State.swapApply; exact (by split; (· exact h0'); (· exact (by extract_lets -merge s0 s2 s4 s6 x8 s9; (try clear_value x8); have h1 : Off m a s0 := (by unfold s0; exact (State.reach_off (sb hm (by decide)) h0' ..)); (try clear_value s0); have h3 : Off m a s2 := (by unfold s2; exact (State.putBit_off (State.putBit_off h1 (has_TDD_STAT_PENDING (tb hm (by decide))) ..) (has_TDD_STAT_ACT_BANK (tb hm (by decide))) ..)); (try clear_value s2); have h5 : Off m a s4 := (by unfold s4; exact (State.int_off (sb hm (by decide)) (State.putBit_off h3 (has_TDD_STAT_LOADED (tb hm (by decide))) ..) ..)); (try clear_value s4); have h7 : Off m a s6 := (by unfold s6; exact (State.setTdd_off (sb hm (by decide)) h5 ..)); (try clear_value s6); have h10 : Off m a s9 := (by unfold s9; exact (.ite (State.setTdd_off (sb hm (by decide)) h7 ..) h7)); (try clear_value s9); (try clear_value s0 s2 s4 s6 s9); exact (State.tddStand_off (sb hm (by decide)) h10 ..))))

end Sys2Proof.Machine
end

