-- ==== Sys2Proof/Laws/OffTime.lean ====
section
/-! SUPPORT. What the operations of Machine/Time.lean reach: the pieces of the state and the register fields whose
numbers are set in the mask of each (`F`). -/
namespace Sys2Proof.Machine
open Sys2Proof
set_option Elab.async false

def F.State.donorLatch : Nat := 0x7fffffff00004500b800
theorem State.donorLatch_off {m a} (hm : F.State.donorLatch &&& m = F.State.donorLatch) (h0' : Off m a s0') (a1') : Off m a (State.donorLatch s0' a1') := by
  unfold State.donorLatch; exact (by extract_lets -merge x0; (try clear_value x0); exact (.ite h0' (State.detect_off (sb hm (by decide)) (State.stand_off (sb hm (by decide)) h0' ..) ..)))
def F.State.lossEval : Nat := 0x22800
theorem State.lossEval_off {m a} (hm : F.State.lossEval &&& m = F.State.lossEval) (h0' : Off m a s0') (a1') : Off m a (State.lossEval s0' a1') := by
  unfold State.lossEval; exact (by extract_lets -merge x0 x1 s2 x5; (try clear_value x0 x1 x5); have h4 : Off m a s2 := (by unfold s2; exact (State.cond_off h0' (fun _ h3 => (State.setCport_off (sb hm (by decide)) (State.unstand_off (sb hm (by decide)) h3 ..) ..)) ..)); (try clear_value s2); (try clear_value s2); exact (State.setRport_off (sb hm (by decide)) h4 ..))
def F.State.lossAll : Nat := 0x22800
theorem State.lossAll_off {m a} (hm : F.State.lossAll &&& m = F.State.lossAll) (h0' : Off m a s0') : Off m a (State.lossAll s0') := by
  unfold State.lossAll; exact (.foldl h0' (fun _ h0 _ => (State.lossEval_off (sb hm (by decide)) h0 ..)) _)
def F.State.presUpdate : Nat := 0x80000000000001000000022800
theorem State.presUpdate_off {m a} (hm : F.State.presUpdate &&& m = F.State.presUpdate) (h0' : Off m a s0') (a1') : Off m a (State.presUpdate s0' a1') := by
  unfold State.presUpdate; exact (by extract_lets -merge x0; (try clear_value x0); exact (.ite h0' (State.lossAll_off (sb hm (by decide)) (State.int_off (sb hm (by decide)) (State.wr_off h0' (has_PROT_LANE_STAT_PRESENT (tb hm (by decide))) ..) ..) ..)))
def F.State.setNoSrc : Nat := 0x2000000000000000000000000000
theorem State.setNoSrc_off {m a} (hm : F.State.setNoSrc &&& m = F.State.setNoSrc) (h0' : Off m a s0') : Off m a (State.setNoSrc s0') := by
  unfold State.setNoSrc; exact (State.wr_off h0' (has_TIME_STAT_NO_SRC (tb hm (by decide))) ..)
def F.State.setDet : Nat := 0x182080000000000001000000022800
theorem State.setDet_off {m a} (hm : F.State.setDet &&& m = F.State.setDet) (h0' : Off m a s0') (a1') (a2') : Off m a (State.setDet s0' a1' a2') := by
  unfold State.setDet; exact (by extract_lets -merge x0 s1 s3 s6 s8; (try clear_value x0); have h2 : Off m a s1 := (by unfold s1; exact (State.wr_off h0' (has_TIME_DET_STAT_STATE (tb hm (by decide))) ..)); (try clear_value s1); have h5 : Off m a s3 := (by unfold s3; exact (State.cond_off h2 (fun _ h4 => (State.int_off (sb hm (by decide)) h4 ..)) ..)); (try clear_value s3); have h7 : Off m a s6 := (by unfold s6; exact (State.wr_off h5 (has_TIME_STAT_SERVING (tb hm (by decide))) ..)); (try clear_value s6); have h9 : Off m a s8 := (by unfold s8; exact (State.setNoSrc_off (sb hm (by decide)) h7 ..)); (try clear_value s8); (try clear_value s1 s3 s6 s8); exact (State.presUpdate_off (sb hm (by decide)) h9 ..))
def F.State.setTimeState : Nat := 0x7d7fffffff00004510b800
theorem State.setTimeState_off {m a} (hm : F.State.setTimeState &&& m = F.State.setTimeState) (h0' : Off m a s0') (a1') : Off m a (State.setTimeState s0' a1') := by
  unfold State.setTimeState; exact (by extract_lets -merge x0 x1 x2 s3 s5 s7 s10; (try clear_value x0 x1 x2); have h4 : Off m a s3 := (by unfold s3; exact (State.int_off (sb hm (by decide)) (State.wr_off (State.wr_off h0' (has_TIME_STAT_STATE (tb hm (by decide))) ..) (has_TIME_STAT_VALID (tb hm (by decide))) ..) ..)); (try clear_value s3); have h6 : Off m a s5 := (by unfold s5; exact (State.setTime_off (sb hm (by decide)) h4 ..)); (try clear_value s5); have h9 : Off m a s7 := (by unfold s7; exact (State.cond_off h6 (fun _ h8 => (State.wr_off (State.wr_off h8 (has_TIME_HOLD_STAT_E (tb hm (by decide))) ..) (has_TIME_HOLD_STAT_T (tb hm (by decide))) ..)) ..)); (try clear_value s7); have h12 : Off m a s10 := (by unfold s10; exact (State.cond_off h9 (fun _ h11 => (State.setTime_off (sb hm (by decide)) (State.wr_off (State.wr_off h11 (has_TIME_OSC (tb hm (by decide))) ..) (has_TIME_STAT_SRC_ACT (tb hm (by decide))) ..) ..)) ..)); (try clear_value s10); (try clear_value s3 s5 s7 s10); exact (.ite h0' (.ite (State.donorLatch_off (sb hm (by decide)) h12 ..) (.ite (State.unstand_off (sb hm (by decide)) (State.unstand_off (sb hm (by decide)) h12 ..) ..) h12))))
def F.State.holdover : Nat := 0x7d7fffffff00004510b800
theorem State.holdover_off {m a} (hm : F.State.holdover &&& m = F.State.holdover) (h0' : Off m a s0') : Off m a (State.holdover s0') := by
  unfold State.holdover; exact (by extract_lets -merge x0; (try clear_value x0); exact (.ite (by split; (· exact (by extract_lets -merge x1; (try clear_value x1); exact (State.setTime_off (sb hm (by decide)) (State.wr_off (State.setTimeState_off (sb hm (by decide)) h0' ..) (has_TIME_STAT_SRC_ACT (tb hm (by decide))) ..) ..)))) h0'))
def F.State.donorLost : Nat := 0x200000007d7fffffff00004510b800
theorem State.donorLost_off {m a} (hm : F.State.donorLost &&& m = F.State.donorLost) (h0' : Off m a s0') : Off m a (State.donorLost s0') := by
  unfold State.donorLost; exact (.ite h0' (by extract_lets -merge s0; have h1 : Off m a s0 := (by unfold s0; exact (State.wr_off (State.setTime_off (sb hm (by decide)) h0' ..) (has_TIME_STAT_US_READY (tb hm (by decide))) ..)); (try clear_value s0); (try clear_value s0); exact (.ite (State.holdover_off (sb hm (by decide)) h1 ..) h1)))
def F.State.detIdle : Nat := 0x10382080007d7fffffff00004512b800
theorem State.detIdle_off {m a} (hm : F.State.detIdle &&& m = F.State.detIdle) (h0' : Off m a s0') (a1') : Off m a (State.detIdle s0' a1') := by
  unfold State.detIdle; exact (State.donorLost_off (sb hm (by decide)) (State.setDet_off (sb hm (by decide)) (State.wr_off h0' (has_TIME_DET_CFG_EN (tb hm (by decide))) ..) ..) ..)
def F.State.detLaneOff : Nat := 0x10382080007d7fffffff00004512b800
theorem State.detLaneOff_off {m a} (hm : F.State.detLaneOff &&& m = F.State.detLaneOff) (h0' : Off m a s0') (a1') : Off m a (State.detLaneOff s0' a1') := by
  unfold State.detLaneOff; exact (.foldl h0' (fun _ h0 _ => (.ite (State.detIdle_off (sb hm (by decide)) h0 ..) h0)) _)
def F.State.writePpsi : Nat := 0x3000000000000000000000000000000000000000000000000000000000000000000000000000000000000000002000007d7fffffff00004510b800
theorem State.writePpsi_off {m a} (hm : F.State.writePpsi &&& m = F.State.writePpsi) (h0' : Off m a s0') (a1') : Off m a (State.writePpsi s0' a1') := by
  unfold State.writePpsi; exact (.ite (State.refuse_off (sb hm (by decide)) h0' ..) (by extract_lets -merge x0 s1; (try clear_value x0); have h2 : Off m a s1 := (by unfold s1; exact (State.setNoSrc_off (sb hm (by decide)) (State.wrWord_off h0' (.cons (has_TIME_PPSI_MODE (tb hm (by decide))) (.cons (has_TIME_PPSI_COMP (tb hm (by decide))) .nil)) ..) ..)); (try clear_value s1); (try clear_value s1); exact (State.cond_off h2 (fun _ h3 => (State.holdover_off (sb hm (by decide)) h3 ..)) ..)))
def F.State.writeDet : Nat := 0x1e000000000000000000000000000000000000000000000000000000000000000010382080007d7fffffff00004512b800
theorem State.writeDet_off {m a} (hm : F.State.writeDet &&& m = F.State.writeDet) (h0' : Off m a s0') (a1') (a2') : Off m a (State.writeDet s0' a1' a2') := by
  unfold State.writeDet; exact (by extract_lets -merge x0 s1 s4; (try clear_value x0); have h3 : Off m a s1 := (by unfold s1; exact (State.cond_off h0' (fun _ h2 => (State.detIdle_off (sb hm (by decide)) h2 ..)) ..)); (try clear_value s1); have h5 : Off m a s4 := (by unfold s4; exact (State.wrWord_off h3 (.cons (has_TIME_DET_CFG_EN (tb hm (by decide))) (.cons (has_TIME_DET_CFG_TYPE (tb hm (by decide))) (.cons (has_TIME_DET_CFG_LANE (tb hm (by decide))) (.cons (has_TIME_DET_CFG_PCI (tb hm (by decide))) .nil)))) ..)); (try clear_value s4); (try clear_value s1 s4); exact (.ite h5 (by split; (· exact (State.refuse_off (sb hm (by decide)) (State.wr_off (State.wr_off h5 (has_TIME_DET_STAT_ERR (tb hm (by decide))) ..) (has_TIME_DET_CFG_EN (tb hm (by decide))) ..) ..)); (· exact (State.setDet_off (sb hm (by decide)) (State.wr_off h5 (has_TIME_DET_STAT_ERR (tb hm (by decide))) ..) ..)))))
def F.State.writeOsc : Nat := 0x100000000000000100000
theorem State.writeOsc_off {m a} (hm : F.State.writeOsc &&& m = F.State.writeOsc) (h0' : Off m a s0') (a1') : Off m a (State.writeOsc s0' a1') := by
  unfold State.writeOsc; exact (.ite (State.setTime_off (sb hm (by decide)) (State.wr_off h0' (has_TIME_OSC (tb hm (by decide))) ..) ..) h0')
def F.State.tuneHost : Nat := 0x100000000000000000000
theorem State.tuneHost_off {m a} (hm : F.State.tuneHost &&& m = F.State.tuneHost) (h0' : Off m a s0') : Off m a (State.tuneHost s0') := by
  unfold State.tuneHost; exact (State.cond_off h0' (fun _ h0 => (State.wr_off h0 (has_TIME_OSC (tb hm (by decide))) ..)) ..)
def F.State.writeTimeCfg : Nat := 0x3c000000000000000000000000000000000000020000000000000000000000000000000000000000000000000000007d7fffffff00004510b800
theorem State.writeTimeCfg_off {m a} (hm : F.State.writeTimeCfg &&& m = F.State.writeTimeCfg) (h0' : Off m a s0') (a1') : Off m a (State.writeTimeCfg s0' a1') := by
  unfold State.writeTimeCfg; exact (by extract_lets -merge x0 x1 s2 s4 s6; (try clear_value x0 x1); have h3 : Off m a s2 := (by unfold s2; exact (State.wrWord_off h0' (.cons (has_TIME_CFG_REVERT (tb hm (by decide))) (.cons (has_TIME_CFG_REF_SHARED (tb hm (by decide))) (.cons (has_TIME_CFG_SRC (tb hm (by decide))) (.cons (has_TIME_CFG_ROLE (tb hm (by decide))) .nil)))) ..)); (try clear_value s2); have h5 : Off m a s4 := (by unfold s4; exact (State.wr_off h3 (has_TIME_STAT_US_IGNORED (tb hm (by decide))) ..)); (try clear_value s4); have h7 : Off m a s6 := (by unfold s6; exact (.ite h5 (.ite (State.setTimeState_off (sb hm (by decide)) h5 ..) (.ite (State.holdover_off (sb hm (by decide)) h5 ..) h5)))); (try clear_value s6); (try clear_value s2 s4 s6); exact (.ite (State.refuse_off (sb hm (by decide)) h0' ..) (State.tuneHost_off (sb hm (by decide)) h7 ..)))
def F.State.timeOut : Nat := 0x400000004100000
theorem State.timeOut_off {m a} (hm : F.State.timeOut &&& m = F.State.timeOut) (h0' : Off m a s0') : Off m a (State.timeOut s0') := by
  unfold State.timeOut; exact (by extract_lets -merge g0 s3 s6; have h2 : ∀ y0, Off m a y0 → ∀ y1, Off m a (g0 y0 y1) := (fun _ h1 _ => (State.emit_off (sb hm (by decide)) h1 ..)); have h5 : Off m a s3 := (State.cond_off h0' (fun _ h4 => (h2 _ h4 _)) ..); (try clear_value s3); have h8 : Off m a s6 := (State.cond_off h5 (fun _ h7 => (h2 _ h7 _)) ..); (try clear_value s6); (try clear_value s3 s6); exact (State.setTime_off (sb hm (by decide)) h8 ..))
def F.State.calGo : Nat := 0x402000004100000
theorem State.calGo_off {m a} (hm : F.State.calGo &&& m = F.State.calGo) (h0' : Off m a s0') : Off m a (State.calGo s0') := by
  unfold State.calGo; exact (.ite (State.timeOut_off (sb hm (by decide)) (State.setTime_off (sb hm (by decide)) h0' ..) ..) (State.refuse_off (sb hm (by decide)) h0' ..))
def F.State.timeSnap : Nat := 0x7800000000000000000000000000000000000000000000000000000000000000000000000000100000
theorem State.timeSnap_off {m a} (hm : F.State.timeSnap &&& m = F.State.timeSnap) (h0' : Off m a s0') : Off m a (State.timeSnap s0') := by
  unfold State.timeSnap; exact (by extract_lets -merge s0 s2 s4; have h1 : Off m a s0 := (by unfold s0; exact (State.setTime_off (sb hm (by decide)) h0' ..)); (try clear_value s0); have h3 : Off m a s2 := (by unfold s2; exact (State.wr_off (State.wr_off h1 (has_TIME_TOD_SEC (tb hm (by decide))) ..) (has_TIME_TOD_FRAC (tb hm (by decide))) ..)); (try clear_value s2); have h5 : Off m a s4 := (by unfold s4; exact (State.wr_off h3 (has_TIME_FRAME (tb hm (by decide))) ..)); (try clear_value s4); (try clear_value s0 s2 s4); exact (State.wr_off h5 (has_TIME_UTC_SEC (tb hm (by decide))) ..))
def F.State.realignGo : Nat := 0x100000
theorem State.realignGo_off {m a} (hm : F.State.realignGo &&& m = F.State.realignGo) (h0' : Off m a s0') : Off m a (State.realignGo s0') := by
  unfold State.realignGo; exact (.ite (State.setTime_off (sb hm (by decide)) h0' ..) h0')
def F.State.writeTimeCtl : Nat := 0x7800000000000000000000000000000000000000000000000000000000000000000402000004100000
theorem State.writeTimeCtl_off {m a} (hm : F.State.writeTimeCtl &&& m = F.State.writeTimeCtl) (h0' : Off m a s0') (a1') : Off m a (State.writeTimeCtl s0' a1') := by
  unfold State.writeTimeCtl; exact (by extract_lets -merge s0 s3; have h2 : Off m a s0 := (by unfold s0; exact (State.cond_off h0' (fun _ h1 => (State.timeSnap_off (sb hm (by decide)) h1 ..)) ..)); (try clear_value s0); have h5 : Off m a s3 := (by unfold s3; exact (State.cond_off h2 (fun _ h4 => (State.realignGo_off (sb hm (by decide)) h4 ..)) ..)); (try clear_value s3); (try clear_value s0 s3); exact (State.cond_off h5 (fun _ h6 => (State.calGo_off (sb hm (by decide)) h6 ..)) ..))
def F.State.writeTimeLoop : Nat := 0xf00000000000000000000000000000000000000000000000000000000000000000000000000000000000000000000000000000002000000000000
theorem State.writeTimeLoop_off {m a} (hm : F.State.writeTimeLoop &&& m = F.State.writeTimeLoop) (h0' : Off m a s0') (a1') : Off m a (State.writeTimeLoop s0' a1') := by
  unfold State.writeTimeLoop; exact (by extract_lets -merge x0 x1; (try clear_value x0 x1); exact (.ite (State.refuse_off (sb hm (by decide)) h0' ..) (State.wrWord_off h0' (.cons (has_TIME_LOOP_STEP_LIM (tb hm (by decide))) (.cons (has_TIME_LOOP_SLEW_MAX (tb hm (by decide))) (.cons (has_TIME_LOOP_LOSS (tb hm (by decide))) (.cons (has_TIME_LOOP_BW (tb hm (by decide))) .nil)))) ..)))
def F.State.writeHold : Nat := 0xc0000000000000000000000000000000000000000000000000000000000000000000000000000000000000000000000000000002000000000000
theorem State.writeHold_off {m a} (hm : F.State.writeHold &&& m = F.State.writeHold) (h0' : Off m a s0') (a1') : Off m a (State.writeHold s0' a1') := by
  unfold State.writeHold; exact (.ite (State.refuse_off (sb hm (by decide)) h0' ..) (State.wrWord_off h0' (.cons (has_TIME_HOLD_BUDGET (tb hm (by decide))) (.cons (has_TIME_HOLD_OSC_FERR (tb hm (by decide))) .nil)) ..))
def F.State.ringTimeLost : Nat := 0x7d7fffffff00004510b800
theorem State.ringTimeLost_off {m a} (hm : F.State.ringTimeLost &&& m = F.State.ringTimeLost) (h0' : Off m a s0') : Off m a (State.ringTimeLost s0') := by
  unfold State.ringTimeLost; exact (.ite h0' (State.int_off (sb hm (by decide)) (State.holdover_off (sb hm (by decide)) (State.setTime_off (sb hm (by decide)) h0' ..) ..) ..))
def F.State.averageDelta : Nat := 0x800000000000000000000000000000000000000000000000000000000000000000000000000000000000000000000000000000000000000000000000000000000000000000000000000000000000100000
theorem State.averageDelta_off {m a} (hm : F.State.averageDelta &&& m = F.State.averageDelta) (h0' : Off m a s0') (a1') : Off m a (State.averageDelta s0' a1') := by
  unfold State.averageDelta; exact (by extract_lets -merge x0 x1; (try clear_value x0 x1); exact (State.setTime_off (sb hm (by decide)) (State.wrSat_off h0' (has_TIME_US_DELTA (tb hm (by decide))) ..) ..))
def F.State.stepTod : Nat := 0x80000000000000000000000000000000000000000000000000000000000000000000000000000000000000000000000000000000000000000000003ff000001301800
theorem State.stepTod_off {m a} (hm : F.State.stepTod &&& m = F.State.stepTod) (h0' : Off m a s0') (a1') (a2') : Off m a (State.stepTod s0' a1' a2') := by
  unfold State.stepTod; exact (by extract_lets -merge x0 x1 x2 s3 s5; (try clear_value x0 x1 x2); have h4 : Off m a s3 := (by unfold s3; exact (State.setStm_off (sb hm (by decide)) (State.setTod_off (sb hm (by decide)) h0' ..) ..)); (try clear_value s3); have h6 : Off m a s5 := (by unfold s5; exact (State.journalInt_off (sb hm (by decide)) (State.satInc_off h4 (has_TIME_STEP_CNT (tb hm (by decide))) ..) ..)); (try clear_value s5); (try clear_value s3 s5); exact (.ite h0' (.ite (State.setTdd_off (sb hm (by decide)) h6 ..) h6)))
def F.State.calApply : Nat := 0x10000000000000000000000000000000000000000000000000080000000000000000000000000000000000000000000000000000000000000000000000004000400000000000000000000000000000000000000003ff000001301840
theorem State.calApply_off {m a} (hm : F.State.calApply &&& m = F.State.calApply) (h0' : Off m a s0') : Off m a (State.calApply s0') := by
  unfold State.calApply; exact (by split; (· exact h0'); (· exact (by extract_lets -merge s0 s2 x4 s5 s7; (try clear_value x4); have h1 : Off m a s0 := (by unfold s0; exact (State.reach_off (sb hm (by decide)) h0' ..)); (try clear_value s0); have h3 : Off m a s2 := (by unfold s2; exact (State.reach_off (sb hm (by decide)) h1 ..)); (try clear_value s2); have h6 : Off m a s5 := (by unfold s5; exact (State.stepTod_off (sb hm (by decide)) (State.wr_off (State.setTime_off (sb hm (by decide)) h3 ..) (has_TIME_STAT_CAL_SET (tb hm (by decide))) ..) ..)); (try clear_value s5); have h8 : Off m a s7 := (by unfold s7; exact (State.int_off (sb hm (by decide)) h6 ..)); (try clear_value s7); (try clear_value s0 s2 s5 s7); exact (State.cancelSwap_off (sb hm (by decide)) (State.cancelSwap_off (sb hm (by decide)) h8 ..) ..))))
def F.State.detLost : Nat := 0x382080007d7fffffff00004512b840
theorem State.detLost_off {m a} (hm : F.State.detLost &&& m = F.State.detLost) (h0' : Off m a s0') (a1') : Off m a (State.detLost s0' a1') := by
  unfold State.detLost; exact (.ite (by extract_lets -merge s0; have h1 : Off m a s0 := (by unfold s0; exact (State.reach_off (sb hm (by decide)) h0' ..)); (try clear_value s0); (try clear_value s0); exact (State.donorLost_off (sb hm (by decide)) (State.setDet_off (sb hm (by decide)) h1 ..) ..)) h0')
def F.State.timeFault : Nat := 0x3000000000800
theorem State.timeFault_off {m a} (hm : F.State.timeFault &&& m = F.State.timeFault) (h0' : Off m a s0') (a1') : Off m a (State.timeFault s0' a1') := by
  unfold State.timeFault; exact (State.raise_off (sb hm (by decide)) (State.cond_off h0' (fun _ h0 => (State.stand_off (sb hm (by decide)) h0 ..)) ..) ..)
def F.State.srcCheck : Nat := 0x7d7fffffff00024510b840
theorem State.srcCheck_off {m a} (hm : F.State.srcCheck &&& m = F.State.srcCheck) (h0' : Off m a s0') : Off m a (State.srcCheck s0') := by
  unfold State.srcCheck; exact (.ite (.ite (by extract_lets -merge s0; have h1 : Off m a s0 := (by unfold s0; exact (State.toMul_off (sb hm (by decide)) h0' ..)); (try clear_value s0); (try clear_value s0); exact (State.cond_off h1 (fun _ h2 => (State.holdover_off (sb hm (by decide)) h2 ..)) ..)) h0') (by split; (· exact (by extract_lets -merge s3; have h4 : Off m a s3 := (by unfold s3; exact (State.toMul_off (sb hm (by decide)) h0' ..)); (try clear_value s3); (try clear_value s3); exact (State.cond_off h4 (fun _ h5 => (State.ringTimeLost_off (sb hm (by decide)) h5 ..)) ..))); (· exact h0')))
def F.State.holdEval : Nat := 0x7d7fffffff00024510b840
theorem State.holdEval_off {m a} (hm : F.State.holdEval &&& m = F.State.holdEval) (h0' : Off m a s0') : Off m a (State.holdEval s0') := by
  unfold State.holdEval; exact (.ite (State.srcCheck_off (sb hm (by decide)) h0' ..) (.ite h0' (by extract_lets -merge x0 s1 x3 s4; (try clear_value x0 x3); have h2 : Off m a s1 := (by unfold s1; exact (State.toMul_off (sb hm (by decide)) h0' ..)); (try clear_value s1); have h5 : Off m a s4 := (by unfold s4; exact (State.wr_off (State.wr_off h2 (has_TIME_HOLD_STAT_E (tb hm (by decide))) ..) (has_TIME_HOLD_STAT_T (tb hm (by decide))) ..)); (try clear_value s4); (try clear_value s1 s4); exact (.ite (State.timeFault_off (sb hm (by decide)) (State.setTimeState_off (sb hm (by decide)) h5 ..) ..) h5))))
def F.State.kvDone : Nat := 0x200000000000000000000000000000000000000000000000000000000000000000000000000000000000000000000000000000000000000000000000000000000000000000000000000000000000000000000000000000000100040
theorem State.kvDone_off {m a} (hm : F.State.kvDone &&& m = F.State.kvDone) (h0' : Off m a s0') (a1') : Off m a (State.kvDone s0' a1') := by
  unfold State.kvDone; exact (by split; (· exact h0'); (· exact (State.setTime_off (sb hm (by decide)) (State.wr_off (State.reach_off (sb hm (by decide)) h0' ..) (has_TIME_OSC_KV (tb hm (by decide))) ..) ..)))
def F.State.restep : Nat := 0x8000000000000000000000000000000000000000000000000000000000000000000000000000000000000000000000000000000000000007d7fffffff00004530b800
theorem State.restep_off {m a} (hm : F.State.restep &&& m = F.State.restep) (h0' : Off m a s0') (a1') : Off m a (State.restep s0' a1') := by
  unfold State.restep; exact (by extract_lets -merge s0; have h1 : Off m a s0 := (by unfold s0; exact (State.timeFault_off (sb hm (by decide)) (State.setTimeState_off (sb hm (by decide)) h0' ..) ..)); (try clear_value s0); (try clear_value s0); exact (State.stepTod_off (sb hm (by decide)) (State.setTime_off (sb hm (by decide)) h1 ..) ..))
def F.State.tuneTo : Nat := 0x100000000000000000000000000000000000000000000000000000000000000000000000000000000000000000000000000000000000000000100000003000000000800
theorem State.tuneTo_off {m a} (hm : F.State.tuneTo &&& m = F.State.tuneTo) (h0' : Off m a s0') (a1') : Off m a (State.tuneTo s0' a1') := by
  unfold State.tuneTo; exact (by extract_lets -merge x0 x1 x2 s3; (try clear_value x0 x1 x2); have h4 : Off m a s3 := (by unfold s3; exact (State.wr_off (State.wr_off h0' (has_TIME_OSC (tb hm (by decide))) ..) (has_TIME_STAT_RAIL (tb hm (by decide))) ..)); (try clear_value s3); (try clear_value s3); exact (State.cond_off h4 (fun _ h5 => (State.timeFault_off (sb hm (by decide)) h5 ..)) ..))
def F.State.tuneLoop : Nat := 0x100000000000000000000000000000000000000000000000000000000000000000000000000000000000000000000000000000000000000000100000003000000100880
theorem State.tuneLoop_off {m a} (hm : F.State.tuneLoop &&& m = F.State.tuneLoop) (h0' : Off m a s0') : Off m a (State.tuneLoop s0') := by
  unfold State.tuneLoop; exact (.ite h0' (.ite (by split; rename_i x3 s2 e0; have h1 : Off m a s2 := .snd e0 (State.draw_off (sb hm (by decide)) h0' ..); exact (State.tuneTo_off (sb hm (by decide)) h1 ..)) (.ite (by split; rename_i x7 s6 e4; have h5 : Off m a s6 := .snd e4 (State.draw_off (sb hm (by decide)) h0' ..); exact (State.setTime_off (sb hm (by decide)) h5 ..)) h0')))
def F.State.tryAcquire : Nat := 0x8000000000000000000000000000000000000000000000000000000000000000000000000000000000000000000000000000000000000007d7fffffff00004530b800
theorem State.tryAcquire_off {m a} (hm : F.State.tryAcquire &&& m = F.State.tryAcquire) (h0' : Off m a s0') (a1') (a2') : Off m a (State.tryAcquire s0' a1' a2') := by
  unfold State.tryAcquire; exact (.ite h0' (by split; rename_i s2 x3 e0; have h1 : Off m a s2 := .fst e0 (.ite1 (.pr1 h0') (.pr1 (State.stepTod_off (sb hm (by decide)) (State.setTime_off (sb hm (by decide)) h0' ..) ..))); exact (.ite h1 (by extract_lets -merge s4; have h5 : Off m a s4 := (by unfold s4; exact (State.setTimeState_off (sb hm (by decide)) h1 ..)); (try clear_value s4); (try clear_value s4); exact (State.setTime_off (sb hm (by decide)) h5 ..)))))
def F.State.measure : Nat := 0x30108000000000000000000000000000000000000000000000000000000000000000000000000000000000000000000000000000000000000007d7fffffff00004530b880
theorem State.measure_off {m a} (hm : F.State.measure &&& m = F.State.measure) (h0' : Off m a s0') (a1') (a2') (a3') : Off m a (State.measure s0' a1' a2' a3') := by
  unfold State.measure; exact (by extract_lets -merge s0 s2 s4 s6 x8 s9 s11; (try clear_value x8); have h1 : Off m a s0 := (by unfold s0; exact (State.wrSat_off (State.wrSat_off h0' (has_TIME_ERR_PHASE (tb hm (by decide))) ..) (has_TIME_ERR_FOFS (tb hm (by decide))) ..)); (try clear_value s0); have h3 : Off m a s2 := (by unfold s2; exact (State.setTime_off (sb hm (by decide)) (State.wr_off h1 (has_TIME_STAT_SRC_ACT (tb hm (by decide))) ..) ..)); (try clear_value s2); have h5 : Off m a s4 := (by unfold s4; exact (State.setTimeState_off (sb hm (by decide)) h3 ..)); (try clear_value s4); have h7 : Off m a s6 := (by unfold s6; exact (.ite (.ite (State.setTime_off (sb hm (by decide)) h5 ..) h5) h3)); (try clear_value s6); have h10 : Off m a s9 := (by unfold s9; exact (.ite (.ite (State.setTimeState_off (sb hm (by decide)) h7 ..) h7) (.ite (State.setTimeState_off (sb hm (by decide)) h7 ..) h7))); (try clear_value s9); have h12 : Off m a s11 := (by unfold s11; exact (.ite (.ite h7 (State.tryAcquire_off (sb hm (by decide)) h7 ..)) (.ite (State.restep_off (sb hm (by decide)) h7 ..) (.ite (State.setTime_off (sb hm (by decide)) h10 ..) h10)))); (try clear_value s11); (try clear_value s0 s2 s4 s6 s9 s11); exact (State.tuneLoop_off (sb hm (by decide)) h12 ..))
def F.State.refInFail : Nat := 0x40000000000000000000000000000000000000000000000000000000000000000000000000000000000000000000000000000000000000000000007d7fffffff00004510b800
theorem State.refInFail_off {m a} (hm : F.State.refInFail &&& m = F.State.refInFail) (h0' : Off m a s0') : Off m a (State.refInFail s0') := by
  unfold State.refInFail; exact (.ite h0' (by extract_lets -merge s0; have h1 : Off m a s0 := (by unfold s0; exact (State.wr_off (State.setTime_off (sb hm (by decide)) h0' ..) (has_TIME_STAT_DEGRADED (tb hm (by decide))) ..)); (try clear_value s0); (try clear_value s0); exact (State.setTimeState_off (sb hm (by decide)) (State.raise_off (sb hm (by decide)) (State.stand_off (sb hm (by decide)) h1 ..) ..) ..)))
def F.State.ppsIn : Nat := 0xc00000000000000000000000000000000000000000000030108000000000000000000000000000000000000000000000000000000000000000000000000000000000000000000000000000000000000007d7fffffff00004530b880
theorem State.ppsIn_off {m a} (hm : F.State.ppsIn &&& m = F.State.ppsIn) (h0' : Off m a s0') (a1') : Off m a (State.ppsIn s0' a1') := by
  unfold State.ppsIn; exact (by extract_lets -merge x0 x1 x2 x3; (try clear_value x0 x1 x2 x3); exact (.ite (State.int_off (sb hm (by decide)) (State.wr_off (State.wr_off h0' (has_TIME_PPSI_SEC (tb hm (by decide))) ..) (has_TIME_PPSI_FRAC (tb hm (by decide))) ..) ..) (.ite (State.measure_off (sb hm (by decide)) h0' ..) h0')))
def F.State.ppsOut : Nat := 0x200100040
theorem State.ppsOut_off {m a} (hm : F.State.ppsOut &&& m = F.State.ppsOut) (h0' : Off m a s0') : Off m a (State.ppsOut s0') := by
  unfold State.ppsOut; exact (.ite h0' (by extract_lets -merge x0 x1 s2; (try clear_value x0 x1); have h3 : Off m a s2 := (by unfold s2; exact (State.mark_off (sb hm (by decide)) (.ite h0' (State.reach_off (sb hm (by decide)) h0' ..)) ..)); (try clear_value s2); (try clear_value s2); exact (.ite h3 (State.setTime_off (sb hm (by decide)) h3 ..))))
def F.State.roleMove : Nat := 0x2000000000000000000000000000000000000000000000000000000000000000000000000000000000000000000000000000000000000000000000003ff000001101800
theorem State.roleMove_off {m a} (hm : F.State.roleMove &&& m = F.State.roleMove) (h0' : Off m a s0') (a1') (a2') (a3') : Off m a (State.roleMove s0' a1' a2' a3') := by
  unfold State.roleMove; exact (by extract_lets -merge x0 s1; (try clear_value x0); have h2 : Off m a s1 := (by unfold s1; exact (State.setTime_off (sb hm (by decide)) (State.wr_off h0' (has_TIME_STAT_REF_DEV (tb hm (by decide))) ..) ..)); (try clear_value s1); (try clear_value s1); exact (State.journalInt_off (sb hm (by decide)) h2 ..))
def F.State.refReturn : Nat := 0x2000000000000000000000000000000000000000000000000000000000000000000000000000000000000000000000000000000000000000004000003ff000001101840
theorem State.refReturn_off {m a} (hm : F.State.refReturn &&& m = F.State.refReturn) (h0' : Off m a s0') : Off m a (State.refReturn s0') := by
  unfold State.refReturn; exact (.ite h0' (by extract_lets -merge x0 g1; (try clear_value x0); have h3 : ∀ y0, Off m a y0 → Off m a (g1 y0) := (fun _ h2 => (State.roleMove_off (sb hm (by decide)) (State.wr_off (State.setTime_off (sb hm (by decide)) h2 ..) (has_TIME_STAT_SRC_ACT (tb hm (by decide))) ..) ..)); exact (by split; (· exact (h3 _ (State.reach_off (sb hm (by decide)) h0' ..))); (· exact h0'); (· exact (.ite h0' (h3 _ h0'))))))
def F.State.ringSet : Nat := 0x100000
theorem State.ringSet_off {m a} (hm : F.State.ringSet &&& m = F.State.ringSet) (h0' : Off m a s0') (a1') (a2') : Off m a (State.ringSet s0' a1' a2') := by
  unfold State.ringSet; exact (by extract_lets -merge x0; (try clear_value x0); exact (State.setTime_off (sb hm (by decide)) h0' ..))
def F.State.slewHeld : Nat := 0x100000
theorem State.slewHeld_off {m a} (hm : F.State.slewHeld &&& m = F.State.slewHeld) (h0' : Off m a s0') : Off m a (State.slewHeld s0') := by
  unfold State.slewHeld; exact (.ite (by extract_lets -merge x0 x1 x2; (try clear_value x0 x1 x2); exact (State.setTime_off (sb hm (by decide)) h0' ..)) h0')
def F.State.syncDetect : Nat := 0x180000000000000000000800000000000000000000000030108000000000000000000000000000000000000000000000000000000000000000000000000000000000000000000000000000000182080007d7fffffff00004532b880
theorem State.syncDetect_off {m a} (hm : F.State.syncDetect &&& m = F.State.syncDetect) (h0' : Off m a s0') (a1') (a2') (a3') (a4') (a5') : Off m a (State.syncDetect s0' a1' a2' a3' a4' a5') := by
  unfold State.syncDetect; exact (by extract_lets -merge x0 x1 x2 s3 s5 s7 s9 x11; (try clear_value x0 x1 x2 x11); have h4 : Off m a s3 := (by unfold s3; exact (State.wr_off (State.wr_off h0' (has_TIME_DET_STAT_PCI (tb hm (by decide))) ..) (has_TIME_DET_STAT_SINR (tb hm (by decide))) ..)); (try clear_value s3); have h6 : Off m a s5 := (by unfold s5; exact (State.setTime_off (sb hm (by decide)) h4 ..)); (try clear_value s5); have h8 : Off m a s7 := (by unfold s7; exact (State.setDet_off (sb hm (by decide)) h6 ..)); (try clear_value s7); have h10 : Off m a s9 := (by unfold s9; exact (State.slewHeld_off (sb hm (by decide)) h8 ..)); (try clear_value s9); (try clear_value s3 s5 s7 s9); exact (.ite h0' (.ite h8 (.ite (.ite (State.measure_off (sb hm (by decide)) h10 ..) h8) (.ite (State.setTime_off (sb hm (by decide)) (State.averageDelta_off (sb hm (by decide)) h8 ..) ..) (.ite (State.setTime_off (sb hm (by decide)) (State.averageDelta_off (sb hm (by decide)) h8 ..) ..) h8))))))
def F.State.takeover : Nat := 0x208000000000000000000000000000000000000000000000000000000000000000000000000000000000000000000000000000000000000007d7fffffff00004530b800
theorem State.takeover_off {m a} (hm : F.State.takeover &&& m = F.State.takeover) (h0' : Off m a s0') (a1') : Off m a (State.takeover s0' a1') := by
  unfold State.takeover; exact (by extract_lets -merge x0 x1 s2 s4 s6; (try clear_value x0 x1); have h3 : Off m a s2 := (by unfold s2; exact (State.setTime_off (sb hm (by decide)) h0' ..)); (try clear_value s2); have h5 : Off m a s4 := (by unfold s4; exact (State.setTime_off (sb hm (by decide)) h0' ..)); (try clear_value s4); have h7 : Off m a s6 := (by unfold s6; exact (State.stepTod_off (sb hm (by decide)) (State.roleMove_off (sb hm (by decide)) h5 ..) ..)); (try clear_value s6); (try clear_value s2 s4 s6); exact (.ite (State.roleMove_off (sb hm (by decide)) (State.wr_off h3 (has_TIME_STAT_SRC_ACT (tb hm (by decide))) ..) ..) (.ite (State.wr_off (State.setTimeState_off (sb hm (by decide)) h7 ..) (has_TIME_STAT_SRC_ACT (tb hm (by decide))) ..) h0')))
def F.State.timeLocked : Nat := 0x7d7fffffff00004510b840
theorem State.timeLocked_off {m a} (hm : F.State.timeLocked &&& m = F.State.timeLocked) (h0' : Off m a s0') : Off m a (State.timeLocked s0') := by
  unfold State.timeLocked; exact (by split; (· exact (.ite (State.setTimeState_off (sb hm (by decide)) (State.reach_off (sb hm (by decide)) h0' ..) ..) h0')); (· exact h0'))
def F.State.timeTake : Nat := 0x400000000000000000000000030308000000000000000000000000000000000000000000000000000000020000000000000000000000000000000000000000000000000000007d7fffffff00004530b880
theorem State.timeTake_off {m a} (hm : F.State.timeTake &&& m = F.State.timeTake) (h0' : Off m a s0') (a1') : Off m a (State.timeTake s0' a1') := by
  unfold State.timeTake; exact (by extract_lets -merge x0 s1 s3 x5 s6 s8 s11 s13 s15 x18 x19 s20; (try clear_value x0 x5 x18 x19); have h2 : Off m a s1 := (by unfold s1; exact (State.setTime_off (sb hm (by decide)) h0' ..)); (try clear_value s1); have h4 : Off m a s3 := (by unfold s3; exact (State.wr_off h2 (has_TIME_STAT_US_IGNORED (tb hm (by decide))) ..)); (try clear_value s3); have h7 : Off m a s6 := (by unfold s6; exact (.ite h4 (by split; (· exact (.ite (State.roleMove_off (sb hm (by decide)) h4 ..) (State.int_off (sb hm (by decide)) (State.wr_off h4 (has_TIME_STAT_REF_DEV (tb hm (by decide))) ..) ..))); (· exact (State.int_off (sb hm (by decide)) (State.wr_off h4 (has_TIME_STAT_REF_DEV (tb hm (by decide))) ..) ..))))); (try clear_value s6); have h10 : Off m a s8 := (by unfold s8; exact (State.cond_off h7 (fun _ h9 => (State.setTime_off (sb hm (by decide)) h9 ..)) ..)); (try clear_value s8); have h12 : Off m a s11 := (by unfold s11; exact (State.tuneHost_off (sb hm (by decide)) (State.wr_off h10 (has_TIME_RING (tb hm (by decide))) ..) ..)); (try clear_value s11); have h14 : Off m a s13 := (by unfold s13; exact (by split; (· exact (State.ringSet_off (sb hm (by decide)) h12 ..)); (· exact h12))); (try clear_value s13); have h17 : Off m a s15 := (by unfold s15; exact (by split; (· exact (State.cond_off h14 (fun _ h16 => (State.tuneTo_off (sb hm (by decide)) h16 ..)) ..)); (· exact h14))); (try clear_value s15); have h21 : Off m a s20 := (by unfold s20; exact (.ite (State.setTime_off (sb hm (by decide)) (State.setTod_off (sb hm (by decide)) h17 ..) ..) h17)); (try clear_value s20); (try clear_value s1 s3 s6 s8 s11 s13 s15 s20); exact (.ite (State.holdover_off (sb hm (by decide)) (State.setTime_off (sb hm (by decide)) h17 ..) ..) (State.measure_off (sb hm (by decide)) h21 ..)))
def F.State.timeRelay : Nat := 0x400000004000000
theorem State.timeRelay_off {m a} (hm : F.State.timeRelay &&& m = F.State.timeRelay) (h0' : Off m a s0') (a1') : Off m a (State.timeRelay s0' a1') := by
  unfold State.timeRelay; exact (by extract_lets -merge x0 x1 x2; (try clear_value x0 x1 x2); exact (State.cond_off h0' (fun _ h3 => (State.emit_off (sb hm (by decide)) h3 ..)) ..))
def F.State.timeMessage : Nat := 0x400000000000000000000000030308000000000000000000000000000000000000000000000000000000020000000000000000000000000000000000000000000000000000007d7fffffff00004530b880
theorem State.timeMessage_off {m a} (hm : F.State.timeMessage &&& m = F.State.timeMessage) (h0' : Off m a s0') (a1') : Off m a (State.timeMessage s0' a1') := by
  unfold State.timeMessage; exact (by extract_lets -merge s0; have h1 : Off m a s0 := (by unfold s0; exact (State.took_off (sb hm (by decide)) h0' ..)); (try clear_value s0); (try clear_value s0); exact (.ite (State.setTime_off (sb hm (by decide)) h1 ..) (.ite h1 (State.timeRelay_off (sb hm (by decide)) (State.timeTake_off (sb hm (by decide)) h1 ..) ..))))
def F.State.usReady : Nat := 0x200000000000000000000000100040
theorem State.usReady_off {m a} (hm : F.State.usReady &&& m = F.State.usReady) (h0' : Off m a s0') : Off m a (State.usReady s0') := by
  unfold State.usReady; exact (by split; (· exact h0'); (· exact (.ite (State.wr_off (State.reach_off (sb hm (by decide)) h0' ..) (has_TIME_STAT_US_READY (tb hm (by decide))) ..) h0')))

end Sys2Proof.Machine
end

