-- ==== Sys2Proof/Laws/OffLaneOps.lean ====
section
/-! SUPPORT. What the operations of Machine/LaneOps.lean reach: the pieces of the state and the register fields whose
numbers are set in the mask of each (`F`). -/
namespace Sys2Proof.Machine
open Sys2Proof
set_option Elab.async false

def F.State.laneEnable : Nat := 0x668c0800c0000018200503f807fffffff000045a8b800
theorem State.laneEnable_off {m a} (hm : F.State.laneEnable &&& m = F.State.laneEnable) (h0' : Off m a s0') (a1') : Off m a (State.laneEnable s0' a1') := by
  unfold State.laneEnable; exact (by extract_lets -merge x0 s1 s3; (try clear_value x0); have h2 : Off m a s1 := (by unfold s1; exact (State.int_off (sb hm (by decide)) h0' ..)); (try clear_value s1); have h4 : Off m a s3 := (by unfold s3; exact (State.guardCheck_off (sb hm (by decide)) (State.sptActive_off (sb hm (by decide)) (State.laneAccept_off (sb hm (by decide)) h2 ..) ..) ..)); (try clear_value s3); (try clear_value s1 s3); exact (by split; (· exact (State.laneRefuse_off (sb hm (by decide)) h2 ..)); (· exact (State.cond_off h4 (fun _ h5 => (State.donorLatch_off (sb hm (by decide)) h5 ..)) ..))))
def F.State.laneOff : Nat := 0x811ba21f03ffd7fffffff000045bef800
theorem State.laneOff_off {m a} (hm : F.State.laneOff &&& m = F.State.laneOff) (h0' : Off m a s0') (a1') (a2') (a3') : Off m a (State.laneOff s0' a1' a2' a3') := by
  unfold State.laneOff; exact (by extract_lets -merge s0 s2 s5 s7 s9 s12 s14 s16 s18 s21; have h1 : Off m a s0 := (by unfold s0; exact (State.syncTo_off (sb hm (by decide)) h0' ..)); (try clear_value s0); have h4 : Off m a s2 := (by unfold s2; exact (State.cond_off h1 (fun _ h3 => (State.setLedger_off (sb hm (by decide)) h3 ..)) ..)); (try clear_value s2); have h6 : Off m a s5 := (by unfold s5; exact (State.endCap_off (sb hm (by decide)) h4 ..)); (try clear_value s5); have h8 : Off m a s7 := (by unfold s7; exact (State.setLane_off (sb hm (by decide)) h6 ..)); (try clear_value s7); have h11 : Off m a s9 := (by unfold s9; exact (State.cond_off h8 (fun _ h10 => (State.wr_off h10 (has_LANE_CFG_EN (tb hm (by decide))) ..)) ..)); (try clear_value s9); have h13 : Off m a s12 := (by unfold s12; exact (State.wr_off (State.wr_off (State.wr_off h11 (has_LANE_STAT_ACTIVE (tb hm (by decide))) ..) (has_LANE_LAT (tb hm (by decide))) ..) (has_LANE_STAT_SUSPECT (tb hm (by decide))) ..)); (try clear_value s12); have h15 : Off m a s14 := (by unfold s14; exact (State.wr_off (State.wr_off h13 (has_RSM_STAT (tb hm (by decide))) ..) (has_LANE_GAIN_CLAMPED (tb hm (by decide))) ..)); (try clear_value s14); have h17 : Off m a s16 := (by unfold s16; exact (State.guardDrop_off (sb hm (by decide)) (State.sptStop_off (sb hm (by decide)) (State.dropRetained_off (sb hm (by decide)) (State.stopLaneStreams_off (sb hm (by decide)) h15 ..) ..) ..) ..)); (try clear_value s16); have h20 : Off m a s18 := (by unfold s18; exact (State.cond_off h17 (fun _ h19 => (State.detLaneOff_off (sb hm (by decide)) h19 ..)) ..)); (try clear_value s18); have h22 : Off m a s21 := (by unfold s21; exact (.upd h20 (h_prot := .inr (tb hm (by decide))))); (try clear_value s21); (try clear_value s0 s2 s5 s7 s9 s12 s14 s16 s18 s21); exact (State.presUpdate_off (sb hm (by decide)) h22 ..))
def F.State.laneStop : Nat := 0x811ba21f03ffd7fffffff000045bef840
theorem State.laneStop_off {m a} (hm : F.State.laneStop &&& m = F.State.laneStop) (h0' : Off m a s0') (a1') (a2') (a3') : Off m a (State.laneStop s0' a1' a2' a3') := by
  unfold State.laneStop; exact (State.laneOff_off (sb hm (by decide)) (State.cond_off h0' (fun _ h0 => (State.reach_off (sb hm (by decide)) h0 ..)) ..) ..)
def F.State.slotOff : Nat := 0x8f3fa21ff3ffd7fffffff000045bef801
theorem State.slotOff_off {m a} (hm : F.State.slotOff &&& m = F.State.slotOff) (h0' : Off m a s0') (a1') (a2') : Off m a (State.slotOff s0' a1' a2') := by
  unfold State.slotOff; exact (.foldl (State.laneOff_off (sb hm (by decide)) h0' ..) (fun _ h0 _ => (State.pathDisable_off (sb hm (by decide)) h0 ..)) _)
def F.State.migEnd : Nat := 0x3600000000000000000001000000800000
theorem State.migEnd_off {m a} (hm : F.State.migEnd &&& m = F.State.migEnd) (h0' : Off m a s0') (a1') : Off m a (State.migEnd s0' a1') := by
  unfold State.migEnd; exact (by extract_lets -merge s0 s2; have h1 : Off m a s0 := (by unfold s0; exact (State.wr_off (State.setFab_off (sb hm (by decide)) h0' ..) (has_LEDG_MIG_STAT_PHASE (tb hm (by decide))) ..)); (try clear_value s0); have h3 : Off m a s2 := (by unfold s2; exact (State.int_off (sb hm (by decide)) (State.wr_off h1 (has_LEDG_MIG_STAT_BUSY (tb hm (by decide))) ..) ..)); (try clear_value s2); (try clear_value s0 s2); exact (.ite (State.satInc_off h3 (has_LEDG_MIG_CNT_DONE (tb hm (by decide))) ..) (State.satInc_off h3 (has_LEDG_MIG_CNT_ABORTED (tb hm (by decide))) ..)))
def F.State.migAbort : Nat := 0x3ef3fa21ff3ffd7fffffff000045bef801
theorem State.migAbort_off {m a} (hm : F.State.migAbort &&& m = F.State.migAbort) (h0' : Off m a s0') : Off m a (State.migAbort s0') := by
  unfold State.migAbort; exact (by split; (· exact h0'); (· exact (by extract_lets -merge s0 s3 s7; have h2 : Off m a s0 := (by unfold s0; exact (State.cond_off h0' (fun _ h1 => (State.slotOff_off (sb hm (by decide)) h1 ..)) ..)); (try clear_value s0); have h6 : Off m a s3 := (by unfold s3; exact (State.cond_off h2 (fun _ h4 => (.foldl h4 (fun _ h5 _ => (State.setPath_off (sb hm (by decide)) h5 ..)) _)) ..)); (try clear_value s3); have h9 : Off m a s7 := (by unfold s7; exact (State.cond_off h6 (fun _ h8 => (State.sendRel_off (sb hm (by decide)) h8 ..)) ..)); (try clear_value s7); (try clear_value s0 s3 s7); exact (State.migEnd_off (sb hm (by decide)) h9 ..))))
def F.State.migFinish : Nat := 0x3ef3ffffff3ffd7fffffff000045bef801
theorem State.migFinish_off {m a} (hm : F.State.migFinish &&& m = F.State.migFinish) (h0' : Off m a s0') : Off m a (State.migFinish s0') := by
  unfold State.migFinish; exact (by split; (· exact h0'); (· exact (by extract_lets -merge s0 s2; have h1 : Off m a s0 := (by unfold s0; exact (State.sptDisarm_off (sb hm (by decide)) (State.slotOff_off (sb hm (by decide)) h0' ..) ..)); (try clear_value s0); have h4 : Off m a s2 := (by unfold s2; exact (.ite (.foldl h1 (fun _ h3 _ => (.ite (State.pathDisable_off (sb hm (by decide)) h3 ..) h3)) _) h0')); (try clear_value s2); (try clear_value s0 s2); exact (State.migEnd_off (sb hm (by decide)) h4 ..))))
def F.State.laneDisable : Nat := 0x3ef3ffffff3ffd7fffffff000045bef841
theorem State.laneDisable_off {m a} (hm : F.State.laneDisable &&& m = F.State.laneDisable) (h0' : Off m a s0') (a1') (a2') (a3') : Off m a (State.laneDisable s0' a1' a2' a3') := by
  unfold State.laneDisable; exact (.ite (State.cond_off h0' (fun _ h0 => (State.wr_off h0 (has_LANE_CFG_EN (tb hm (by decide))) ..)) ..) (by split; (· exact (State.laneStop_off (sb hm (by decide)) h0' ..)); (· exact (by extract_lets -merge x1 s2 s4; (try clear_value x1); have h3 : Off m a s2 := (by unfold s2; exact (State.migAbort_off (sb hm (by decide)) h0' ..)); (try clear_value s2); have h5 : Off m a s4 := (by unfold s4; exact (State.laneStop_off (sb hm (by decide)) h0' ..)); (try clear_value s4); (try clear_value s2 s4); exact (.ite (State.laneStop_off (sb hm (by decide)) h0' ..) (.ite (.ite (State.laneStop_off (sb hm (by decide)) h3 ..) h3) (.ite (State.migFinish_off (sb hm (by decide)) h5 ..) h5)))))))
def F.State.writeLaneCfg : Nat := 0x7c0000000000000000668c0800c003ef3ffffff3ffd7fffffff000045bef841
theorem State.writeLaneCfg_off {m a} (hm : F.State.writeLaneCfg &&& m = F.State.writeLaneCfg) (h0' : Off m a s0') (a1') (a2') : Off m a (State.writeLaneCfg s0' a1' a2') := by
  unfold State.writeLaneCfg; exact (by extract_lets -merge x0 x1 x2 s3 s5; (try clear_value x0 x1 x2); have h4 : Off m a s3 := (by unfold s3; exact (State.wrWord_off h0' (.cons (has_LANE_CFG_EN (tb hm (by decide))) (.cons (has_LANE_CFG_TX_EN (tb hm (by decide))) (.cons (has_LANE_CFG_TDD (tb hm (by decide))) (.cons (has_LANE_CFG_RX_PORT (tb hm (by decide))) (.cons (has_LANE_CFG_TX_PORT (tb hm (by decide))) (.cons (has_LANE_CFG_RATE (tb hm (by decide))) .nil)))))) ..)); (try clear_value s3); have h7 : Off m a s5 := (by unfold s5; exact (State.cond_off h4 (fun _ h6 => (State.sptRetire_off (sb hm (by decide)) h6 ..)) ..)); (try clear_value s5); (try clear_value s3 s5); exact (.ite (State.cond_off (State.setLane_off (sb hm (by decide)) h7 ..) (fun _ h8 => (State.detLaneOff_off (sb hm (by decide)) h8 ..)) ..) (.ite (.ite h7 (State.laneDisable_off (sb hm (by decide)) h7 ..)) (.ite (State.laneEnable_off (sb hm (by decide)) h7 ..) (State.setLane_off (sb hm (by decide)) h7 ..)))))
def F.State.writeChfSel : Nat := 0x4000000000000000000000000000000000000000000000005de003f8000000000000000080000
theorem State.writeChfSel_off {m a} (hm : F.State.writeChfSel &&& m = F.State.writeChfSel) (h0' : Off m a s0') (a1') (a2') : Off m a (State.writeChfSel s0' a1' a2') := by
  unfold State.writeChfSel; exact (by extract_lets -merge x0; (try clear_value x0); exact (State.cond_off (State.wrWord_off h0' (.cons (has_CHF_SEL (tb hm (by decide))) .nil) ..) (fun _ h1 => (State.sptRetire_off (sb hm (by decide)) h1 ..)) ..))
def F.State.writeLaneWord : Nat := 0x7e00000000000400000000000007c0000000000000000668c0800c003ef3ffffff3ffd7fffffff000045bef841
theorem State.writeLaneWord_off {m a} (hm : F.State.writeLaneWord &&& m = F.State.writeLaneWord) (h0' : Off m a s0') (a1') (a2') (a3') : Off m a (State.writeLaneWord s0' a1' a2' a3') := by
  unfold State.writeLaneWord; exact (by split; (· exact (State.writeLaneCfg_off (sb hm (by decide)) h0' ..)); (· exact (State.writeChfSel_off (sb hm (by decide)) h0' ..)); (· exact (State.wrWord_off h0' (.cons (by unfold laneWordFld; repeat' split; all_goals first | exact has_LANE_TX_FTW_HI (tb hm (by decide)) | exact has_LANE_RX_PHASE (tb hm (by decide)) | exact has_CHF_SEL (tb hm (by decide)) | exact has_LANE_RX_FTW_LO (tb hm (by decide)) | exact has_LANE_TX_FTW_LO (tb hm (by decide)) | exact has_LANE_CFG_EN (tb hm (by decide)) | exact has_LANE_RX_FTW_HI (tb hm (by decide)) | exact has_LANE_TX_PHASE (tb hm (by decide))) .nil) ..)))
def F.State.writeChfPtr : Nat := 0x18000000000000000000000000000000000000000000000000000000000000000000000000000000000
theorem State.writeChfPtr_off {m a} (hm : F.State.writeChfPtr &&& m = F.State.writeChfPtr) (h0' : Off m a s0') (a1') : Off m a (State.writeChfPtr s0' a1') := by
  unfold State.writeChfPtr; exact (State.wrWord_off h0' (.cons (has_CHF_ROM_PTR_TAP (tb hm (by decide))) (.cons (has_CHF_ROM_PTR_INDEX (tb hm (by decide))) .nil)) ..)
def F.State.writeDelay : Nat := 0x2000000000000000000000000000000000000000000000000000000000000000000000000000000000020000000000000003000000208800
theorem State.writeDelay_off {m a} (hm : F.State.writeDelay &&& m = F.State.writeDelay) (h0' : Off m a s0') (a1') (a2') : Off m a (State.writeDelay s0' a1' a2') := by
  unfold State.writeDelay; exact (by extract_lets -merge x0 s1 x3 s4; (try clear_value x0 x3); have h2 : Off m a s1 := (by unfold s1; exact (State.wr_off h0' (has_RSM_DELAY (tb hm (by decide))) ..)); (try clear_value s1); have h5 : Off m a s4 := (by unfold s4; exact (State.wr_off (State.setLane_off (sb hm (by decide)) h2 ..) (has_RSM_STAT (tb hm (by decide))) ..)); (try clear_value s4); (try clear_value s1 s4); exact (.ite (State.cond_off h5 (fun _ h6 => (State.guardCheck_off (sb hm (by decide)) h6 ..)) ..) h2))
def F.State.targetAccept : Nat := 0x400004668c0840c00006fc200503f80000003ff0000018c9801
theorem State.targetAccept_off {m a s t} (hm : F.State.targetAccept &&& m = F.State.targetAccept) (h : Off m a s)
    {dst w b js} (e : State.targetAccept s dst w b js = some t) : Off m a t := by
  unfold State.targetAccept at e
  extract_lets +onlyGivenNames -merge x0 s1 s2 at e
  have h1 : Off m a s1 := State.laneAccept_off (sb hm (by decide)) h ..
  have h2 : Off m a s2 := State.sptActive_off (sb hm (by decide))
    (State.setLedger_off (sb hm (by decide)) (State.setLane_off (sb hm (by decide)) h1 ..) ..) ..
  clear_value s2
  have gen : ∀ (js : List Nat) (o : Option State), (∀ x, o = some x → Off m a x) → ∀ t, List.foldl
      (fun (o : Option State) j => match o with
        | none => none
        | some s =>
          let p := 4 * dst + j
          match s.pathErr p with
          | some _ => none
          | none => some ((((s.wr CNX_PATH_CFG_EN p 1).pathAccept p).setPath p
              fun x => { x with startAt := w, warming := true }))) o js = some t → Off m a t := by
    intro js
    induction js with
    | nil => exact fun o ho t e => ho t e
    | cons j js ih =>
      intro o ho t e
      refine ih _ ?_ t e
      intro x ex
      rcases o with _ | s
      · exact nomatch ex
      · simp only at ex
        split at ex
        · exact nomatch ex
        · cases ex
          exact State.setPath_off (sb hm (by decide)) (State.pathAccept_off (sb hm (by decide))
            (.wr (ho s rfl) (has_CNX_PATH_CFG_EN (tb hm (by decide))) ..) ..) ..
  exact gen js (some s2) (fun x e => by cases e; exact h2) t e

def F.State.migBegin : Nat := 0x7800100400000000000000000000000600000000000000000000000000800000
theorem State.migBegin_off {m a} (hm : F.State.migBegin &&& m = F.State.migBegin) (h0' : Off m a s0') (a1') (a2') (a3') (a4') : Off m a (State.migBegin s0' a1' a2' a3' a4') := by
  unfold State.migBegin; exact (by extract_lets -merge s0 s2 s4; have h1 : Off m a s0 := (by unfold s0; exact (State.setFab_off (sb hm (by decide)) h0' ..)); (try clear_value s0); have h3 : Off m a s2 := (by unfold s2; exact (State.wr_off (State.wr_off (State.wr_off h1 (has_LEDG_MIG_STAT_ERR (tb hm (by decide))) ..) (has_LEDG_MIG_STAT_PHASE (tb hm (by decide))) ..) (has_LEDG_MIG_STAT_ROLE (tb hm (by decide))) ..)); (try clear_value s2); have h5 : Off m a s4 := (by unfold s4; exact (State.wr_off (State.wr_off (State.wr_off h3 (has_LEDG_MIG_STAT_DUP (tb hm (by decide))) ..) (has_LEDG_MIG_STAT_READY (tb hm (by decide))) ..) (has_LEDG_MIG_STAT_BUSY (tb hm (by decide))) ..)); (try clear_value s4); (try clear_value s0 s2 s4); exact (State.wr_off (State.wr_off h5 (has_LEDG_MIG_GAP (tb hm (by decide))) ..) (has_LEDG_MIG_WARM (tb hm (by decide))) ..))
def F.State.migGo : Nat := 0x7800100400000400004668c0840c00066fc200503f80000007ff000005ac9801
theorem State.migGo_off {m a s} (hm : F.State.migGo &&& m = F.State.migGo) (h : Off m a s) (x y) :
    Off m a (State.migGo s x y) := by
  unfold State.migGo
  extract_lets +onlyGivenNames -merge src dst remote dev n l at_ lt warm js early asked rerr s1 bad
  have h1 : Off m a s1 := State.cond_off h (fun _ h => State.sendRel_off (sb hm (by decide)) h ..) ..
  have hb : ∀ e, Off m a (bad e) := fun e => State.refuse_off (sb hm (by decide))
    (.wr h1 (has_LEDG_MIG_STAT_ERR (tb hm (by decide))) ..) ..
  clear_value s1 bad
  refine .ite (hb _) (.ite (hb _) (.ite (hb _) (.ite (hb _) (.ite (hb _) (.ite (hb _) (.ite (.ite (hb _) (.ite (hb _) ?_)) ?_))))))
  · exact State.migBegin_off (sb hm (by decide)) h1 ..
  · split
    · exact hb _
    · rename_i t e
      exact State.guardCheck_off (sb hm (by decide)) (State.migBegin_off (sb hm (by decide))
        (State.targetAccept_off (sb hm (by decide)) h1 e) ..) ..

def F.State.migHostAbort : Nat := 0x3ef3fa21ff3ffd7fffffff000045bef801
theorem State.migHostAbort_off {m a} (hm : F.State.migHostAbort &&& m = F.State.migHostAbort) (h0' : Off m a s0') : Off m a (State.migHostAbort s0') := by
  unfold State.migHostAbort; exact (.ite (State.migAbort_off (sb hm (by decide)) h0' ..) h0')
def F.State.writeMigCtl : Nat := 0x7800100400000400004668c0840c003efffa21ff3ffd7fffffff000045bef801
theorem State.writeMigCtl_off {m a} (hm : F.State.writeMigCtl &&& m = F.State.writeMigCtl) (h0' : Off m a s0') (a1') (a2') (a3') : Off m a (State.writeMigCtl s0' a1' a2' a3') := by
  unfold State.writeMigCtl; exact (by extract_lets -merge s0; have h2 : Off m a s0 := (by unfold s0; exact (State.cond_off h0' (fun _ h1 => (State.migGo_off (sb hm (by decide)) h1 ..)) ..)); (try clear_value s0); (try clear_value s0); exact (State.cond_off h2 (fun _ h3 => (State.migHostAbort_off (sb hm (by decide)) h3 ..)) ..))
def F.State.writeMigCfg : Nat := 0x7c00000000000000000000000000000000000000000000000000000000000000000000000000000000000000000000002000000000000
theorem State.writeMigCfg_off {m a} (hm : F.State.writeMigCfg &&& m = F.State.writeMigCfg) (h0' : Off m a s0') (a1') : Off m a (State.writeMigCfg s0' a1') := by
  unfold State.writeMigCfg; exact (.ite (State.refuse_off (sb hm (by decide)) h0' ..) (State.wrWord_off h0' (.cons (has_LEDG_MIG_CFG_TAIL (tb hm (by decide))) (.cons (has_LEDG_MIG_CFG_REMOTE (tb hm (by decide))) (.cons (has_LEDG_MIG_CFG_DST_DEV (tb hm (by decide))) (.cons (has_LEDG_MIG_CFG_DST (tb hm (by decide))) (.cons (has_LEDG_MIG_CFG_SRC (tb hm (by decide))) .nil))))) ..))
def F.State.chfRead : Nat := 0x40000000000000000000000000000000000000000000000000000000000000018000000000000000000000000000000000000000000000000000000000000000000000000000000000
theorem State.chfRead_off {m a} (hm : F.State.chfRead &&& m = F.State.chfRead) (h0' : Off m a s0') (a1') (a2') : Off m a (State.chfRead s0' a1' a2') := by
  unfold State.chfRead; exact (State.cond_off (State.writeChfPtr_off (sb hm (by decide)) h0' ..) (fun _ h0 => (State.satInc_off h0 (has_CHF_ECC_CNT (tb hm (by decide))) ..)) ..)
def F.State.chfUncorr : Nat := 0x6000000000000000000000000000000000000000000000000000000000000000000000000000000000000000000000000000000000000000000000000000000000000000000000000000003000000000800
theorem State.chfUncorr_off {m a} (hm : F.State.chfUncorr &&& m = F.State.chfUncorr) (h0' : Off m a s0') (a1') : Off m a (State.chfUncorr s0' a1') := by
  unfold State.chfUncorr; exact (State.raise_off (sb hm (by decide)) (State.wr_off (State.wr_off h0' (has_CHF_UNC_VALID (tb hm (by decide))) ..) (has_CHF_UNC_INDEX (tb hm (by decide))) ..) ..)
def F.State.delayApply : Nat := 0x20010000000000000000000108040
theorem State.delayApply_off {m a} (hm : F.State.delayApply &&& m = F.State.delayApply) (h0' : Off m a s0') (a1') : Off m a (State.delayApply s0' a1') := by
  unfold State.delayApply; exact (by split; (· exact h0'); (· exact (by extract_lets -merge s0; have h1 : Off m a s0 := (by unfold s0; exact (State.reach_off (sb hm (by decide)) h0' ..)); (try clear_value s0); (try clear_value s0); exact (State.setLat_off (sb hm (by decide)) (State.wr_off (State.setLane_off (sb hm (by decide)) h1 ..) (has_RSM_STAT (tb hm (by decide))) ..) ..))))
def F.State.laneStart : Nat := 0x200188040
theorem State.laneStart_off {m a} (hm : F.State.laneStart &&& m = F.State.laneStart) (h0' : Off m a s0') (a1') : Off m a (State.laneStart s0' a1') := by
  unfold State.laneStart; exact (by split; (· exact (by extract_lets -merge x0 s1 s3; (try clear_value x0); have h2 : Off m a s1 := (by unfold s1; exact (State.reach_off (sb hm (by decide)) h0' ..)); (try clear_value s1); have h4 : Off m a s3 := (by unfold s3; exact (State.laneBegin_off (sb hm (by decide)) h2 ..)); (try clear_value s3); (try clear_value s1 s3); exact (.ite h0' (State.sptBegin_off (sb hm (by decide)) (State.mark_off (sb hm (by decide)) (State.mark_off (sb hm (by decide)) h4 ..) ..) ..)))); (· exact h0'))
def F.State.pasteGain : Nat := 0x200000000000000000010000000000000048000
theorem State.pasteGain_off {m a} (hm : F.State.pasteGain &&& m = F.State.pasteGain) (h0' : Off m a s0') (a1') (a2') (a3') (a4') (a5') : Off m a (State.pasteGain s0' a1' a2' a3' a4' a5') := by
  unfold State.pasteGain; exact (by extract_lets -merge s0 s2; have h1 : Off m a s0 := (by unfold s0; exact (State.setLane_off (sb hm (by decide)) h0' ..)); (try clear_value s0); have h3 : Off m a s2 := (by unfold s2; exact (State.setCnx_off (sb hm (by decide)) (State.wr_off h1 (has_LANE_GAIN_LIMIT (tb hm (by decide))) ..) ..)); (try clear_value s2); (try clear_value s0 s2); exact (State.wr_off h3 (has_PROT_LANE_STAT_BACKOFF (tb hm (by decide))) ..))
def F.State.spotArm : Nat := 0x400000000000000000c00000005de103f8000000000000000080000
theorem State.spotArm_off {m a} (hm : F.State.spotArm &&& m = F.State.spotArm) (h0' : Off m a s0') (a1') : Off m a (State.spotArm s0' a1') := by
  unfold State.spotArm; exact (.ite h0' (by extract_lets -merge s0; have h2 : Off m a s0 := (by unfold s0; exact (State.cond_off h0' (fun _ h1 => (State.wr_off h1 (has_SPT_LANE_CFG_GATE (tb hm (by decide))) ..)) ..)); (try clear_value s0); (try clear_value s0); exact (State.sptArm_off (sb hm (by decide)) (State.sptWr_off h2 (has_SPT_LANE_CFG_EN (tb hm (by decide))) (has_MEAS_LANE_CFG_EN (tb hm (by decide))) ..) ..)))
def F.State.spotPaste : Nat := 0x400000000000000000c00000005de103f8000000000000000080000
theorem State.spotPaste_off {m a} (hm : F.State.spotPaste &&& m = F.State.spotPaste) (h0' : Off m a s0') (a1') (a2') (a3') (a4') (a5') (a6') (a7') (a8') (a9') (a10') : Off m a (State.spotPaste s0' a1' a2' a3' a4' a5' a6' a7' a8' a9' a10') := by
  unfold State.spotPaste; exact (by extract_lets -merge s0 s2 s4 s7; have h1 : Off m a s0 := (by unfold s0; exact (State.spotArm_off (sb hm (by decide)) h0' ..)); (try clear_value s0); have h3 : Off m a s2 := (by unfold s2; exact (State.setSl_off (sb hm (by decide)) h1 ..)); (try clear_value s2); have h6 : Off m a s4 := (by unfold s4; exact (.foldl h3 (fun _ h5 _ => (by split; (· exact (State.setCtx_off (sb hm (by decide)) h5 ..)))) _)); (try clear_value s4); have h8 : Off m a s7 := (by unfold s7; exact (State.sptWr_off (State.sptWr_off h6 (has_SPT_LANE_STAT_MEASURING (tb hm (by decide))) (has_MEAS_LANE_STAT_MEASURING (tb hm (by decide))) ..) (has_SPT_LANE_STAT_LEARNING (tb hm (by decide))) (has_MEAS_LANE_STAT_LEARNING (tb hm (by decide))) ..)); (try clear_value s7); (try clear_value s0 s2 s4 s7); exact (.ite (State.setStuck_off (sb hm (by decide)) (State.sptWr_off h8 (has_SPT_LANE_STAT_OPEN_NOW (tb hm (by decide))) (has_MEAS_LANE_STAT_ACTIVE_NOW (tb hm (by decide))) ..) ..) (State.sptBegin_off (sb hm (by decide)) h1 ..)))
def F.State.migSpot : Nat := 0x400000000000000000c00000005de103f8000000000000000080000
theorem State.migSpot_off {m a} (hm : F.State.migSpot &&& m = F.State.migSpot) (h0' : Off m a s0') (a1') (a2') (a3') : Off m a (State.migSpot s0' a1' a2' a3') := by
  unfold State.migSpot; exact (.ite (State.sptBegin_off (sb hm (by decide)) h0' ..) (by split; (· exact (State.spotPaste_off (sb hm (by decide)) h0' ..)); (· exact h0')))
def F.State.repoint : Nat := 0x14000000000000000000000000000000000000000000000000000440000
theorem State.repoint_off {m a} (hm : F.State.repoint &&& m = F.State.repoint) (h0' : Off m a s0') (a1') (a2') : Off m a (State.repoint s0' a1' a2') := by
  unfold State.repoint; exact (by extract_lets -merge s0 s4 x7; (try clear_value x7); have h3 : Off m a s0 := (by unfold s0; exact (.foldl h0' (fun _ h1 _ => (by extract_lets -merge x2; (try clear_value x2); exact (.ite (State.wr_off (State.setPath_off (sb hm (by decide)) h1 ..) (has_CNX_PATH_CFG_SRC (tb hm (by decide))) ..) h1))) _)); (try clear_value s0); have h6 : Off m a s4 := (by unfold s4; exact (.foldl h3 (fun _ h5 _ => (.ite (State.setStx_off (sb hm (by decide)) (State.wr_off h5 (has_CNX_STX_CFG_LANE (tb hm (by decide))) ..) ..) h5)) _)); (try clear_value s4); (try clear_value s0 s4); exact (.upd h6 (h_cte := .inr (tb hm (by decide)))))
def F.State.migBoundary : Nat := 0x1400400000000000001820c00360005de503f8010000401000004dc8040
theorem State.migBoundary_off {m a} (hm : F.State.migBoundary &&& m = F.State.migBoundary) (h0' : Off m a s0') : Off m a (State.migBoundary s0') := by
  unfold State.migBoundary; exact (by split; (· exact h0'); (· exact (by extract_lets -merge x0 x1 s2 s4 s6 s9 s11 x13 s14 x17 s18 s20 s22 s25; (try clear_value x0 x1 x13 x17); have h3 : Off m a s2 := (by unfold s2; exact (State.reach_off (sb hm (by decide)) h0' ..)); (try clear_value s2); have h5 : Off m a s4 := (by unfold s4; exact (State.setFab_off (sb hm (by decide)) h3 ..)); (try clear_value s4); have h8 : Off m a s6 := (by unfold s6; exact (.foldl h5 (fun _ h7 _ => (State.setPath_off (sb hm (by decide)) h7 ..)) _)); (try clear_value s6); have h10 : Off m a s9 := (by unfold s9; exact (State.setFab_off (sb hm (by decide)) h8 ..)); (try clear_value s9); have h12 : Off m a s11 := (by unfold s11; exact (State.bringCap_off (sb hm (by decide)) h5 ..)); (try clear_value s11); have h16 : Off m a s14 := (by unfold s14; exact (State.cond_off h12 (fun _ h15 => (State.sendRel_off (sb hm (by decide)) h15 ..)) ..)); (try clear_value s14); have h19 : Off m a s18 := (by unfold s18; exact (State.pasteGain_off (sb hm (by decide)) (State.bringCap_off (sb hm (by decide)) h5 ..) ..)); (try clear_value s18); have h21 : Off m a s20 := (by unfold s20; exact (State.migSpot_off (sb hm (by decide)) h19 ..)); (try clear_value s20); have h24 : Off m a s22 := (by unfold s22; exact (State.cond_off h21 (fun _ h23 => (State.setLane_off (sb hm (by decide)) (State.markSuspect_off (sb hm (by decide)) h23 ..) ..)) ..)); (try clear_value s22); have h27 : Off m a s25 := (by unfold s25; exact (.foldl h24 (fun _ h26 _ => (State.setPath_off (sb hm (by decide)) h26 ..)) _)); (try clear_value s25); (try clear_value s2 s4 s6 s9 s11 s14 s18 s20 s22 s25); exact (.ite h0' (.ite (State.migEnd_off (sb hm (by decide)) (State.sptBegin_off (sb hm (by decide)) h10 ..) ..) (.ite (State.sendRel_off (sb hm (by decide)) h16 ..) (State.repoint_off (sb hm (by decide)) h27 ..)))))))
def F.State.migDeadline : Nat := 0x3ef3fa21ff3ffd7fffffff000045bef841
theorem State.migDeadline_off {m a} (hm : F.State.migDeadline &&& m = F.State.migDeadline) (h0' : Off m a s0') : Off m a (State.migDeadline s0') := by
  unfold State.migDeadline; exact (by split; (· exact h0'); (· exact (.ite h0' (by extract_lets -merge x0 s1; (try clear_value x0); have h2 : Off m a s1 := (by unfold s1; exact (State.reach_off (sb hm (by decide)) h0' ..)); (try clear_value s1); (try clear_value s1); exact (.ite h2 (.ite (State.setLedger_off (sb hm (by decide)) (State.wr_off h2 (has_LEDG_MIG_STAT_PHASE (tb hm (by decide))) ..) ..) (State.migAbort_off (sb hm (by decide)) h2 ..)))))))
def F.State.migDone : Nat := 0x3ef3ffffff3ffd7fffffff000045bef841
theorem State.migDone_off {m a} (hm : F.State.migDone &&& m = F.State.migDone) (h0' : Off m a s0') : Off m a (State.migDone s0') := by
  unfold State.migDone; exact (by split; (· exact h0'); (· exact (.ite h0' (by extract_lets -merge s0 s2; have h1 : Off m a s0 := (by unfold s0; exact (State.reach_off (sb hm (by decide)) h0' ..)); (try clear_value s0); have h3 : Off m a s2 := (by unfold s2; exact (State.syncTo_off (sb hm (by decide)) h1 ..)); (try clear_value s2); (try clear_value s0 s2); exact (State.migFinish_off (sb hm (by decide)) h3 ..)))))
def F.State.migReady : Nat := 0x400000000000000000000000000000000000000000400000004000000
theorem State.migReady_off {m a} (hm : F.State.migReady &&& m = F.State.migReady) (h0' : Off m a s0') : Off m a (State.migReady s0') := by
  unfold State.migReady; exact (by split; (· exact h0'); (· exact (.ite (State.wr_off (State.cond_off h0' (fun _ h0 => (State.sendRel_off (sb hm (by decide)) h0 ..)) ..) (has_LEDG_MIG_STAT_READY (tb hm (by decide))) ..) h0')))
def F.State.migRemoteAbort : Nat := 0x100000000000000000000000003ef3fa21ff3ffd7fffffff000045bef801
theorem State.migRemoteAbort_off {m a} (hm : F.State.migRemoteAbort &&& m = F.State.migRemoteAbort) (h0' : Off m a s0') (a1') : Off m a (State.migRemoteAbort s0' a1') := by
  unfold State.migRemoteAbort; exact (.ite h0' (by split; (· exact (.ite (State.wr_off h0' (has_LEDG_MIG_STAT_DUP (tb hm (by decide))) ..) (State.migAbort_off (sb hm (by decide)) h0' ..))); (· exact (.ite (State.sendRel_off (sb hm (by decide)) (State.wr_off h0' (has_LEDG_MIG_STAT_DUP (tb hm (by decide))) ..) ..) h0'))))
def F.State.migRemoteGo : Nat := 0x7800100400000400004668c0840c00066fc200503f80000003ff000001ac9801
theorem State.migRemoteGo_off {m a s} (hm : F.State.migRemoteGo &&& m = F.State.migRemoteGo) (h : Off m a s) (x b c d e f g i) :
    Off m a (State.migRemoteGo s x b c d e f g i).2.2 := by
  unfold State.migRemoteGo
  repeat' first | exact h | split | extract_lets
  rename_i t e
  exact State.guardCheck_off (sb hm (by decide)) (State.migBegin_off (sb hm (by decide))
    (State.targetAccept_off (sb hm (by decide)) h e) ..) ..

def F.State.pathPaste : Nat := 0x400000000000000c400000000000000000000000040001
theorem State.pathPaste_off {m a} (hm : F.State.pathPaste &&& m = F.State.pathPaste) (h0' : Off m a s0') (a1') (a2') : Off m a (State.pathPaste s0' a1' a2') := by
  unfold State.pathPaste; exact (by extract_lets -merge s0 s2; have h1 : Off m a s0 := (by unfold s0; exact (State.setPath_off (sb hm (by decide)) h0' ..)); (try clear_value s0); have h7 : Off m a s2 := (by unfold s2; exact (.foldl h1 (fun _ h3 _ => (by split; (· exact (by extract_lets -merge s4; have h5 : Off m a s4 := (by unfold s4; exact (State.setClu_off (sb hm (by decide)) h3 ..)); (try clear_value s4); (try clear_value s4); exact (.foldl h5 (fun _ h6 _ => (by split; (· exact (State.setTap_off (sb hm (by decide)) h6 ..)))) _))))) _)); (try clear_value s2); (try clear_value s0 s2); exact (State.setEst_off (sb hm (by decide)) (State.wr_off (State.wr_off h7 (has_CNX_PATH_STAT_ISO_VALID (tb hm (by decide))) ..) (has_CNX_PATH_STAT_FLOOR (tb hm (by decide))) ..) ..))
def F.State.migWarm : Nat := 0x400000000000000c400000000000000400000004948041
theorem State.migWarm_off {m a} (hm : F.State.migWarm &&& m = F.State.migWarm) (h0' : Off m a s0') : Off m a (State.migWarm s0') := by
  unfold State.migWarm; exact (by split; (· exact h0'); (· exact (.ite h0' (by extract_lets -merge x0 s1 s3 s5 x8 s9; (try clear_value x0 x8); have h2 : Off m a s1 := (by unfold s1; exact (State.reach_off (sb hm (by decide)) h0' ..)); (try clear_value s1); have h4 : Off m a s3 := (by unfold s3; exact (State.setFab_off (sb hm (by decide)) h2 ..)); (try clear_value s3); have h7 : Off m a s5 := (by unfold s5; exact (State.cond_off h4 (fun _ h6 => (State.laneBegin_off (sb hm (by decide)) h6 ..)) ..)); (try clear_value s5); have h12 : Off m a s9 := (by unfold s9; exact (.foldl h7 (fun _ h10 _ => (by extract_lets -merge x11; (try clear_value x11); exact (.ite (State.sendRel_off (sb hm (by decide)) h10 ..) (State.pathPaste_off (sb hm (by decide)) h10 ..)))) _)); (try clear_value s9); (try clear_value s1 s3 s5 s9); exact (.ite h7 (.foldl h12 (fun _ h13 _ => (State.setPath_off (sb hm (by decide)) h13 ..)) _))))))
def F.State.rsmFault : Nat := 0x7c000000000000000000000000000000000000000000000000000000000000000000000000000000000000000000000000000000000000000000000000000000000000000000000000000000000000003000000000800
theorem State.rsmFault_off {m a} (hm : F.State.rsmFault &&& m = F.State.rsmFault) (h0' : Off m a s0') (a1') (a2') (a3') (a4') : Off m a (State.rsmFault s0' a1' a2' a3' a4') := by
  unfold State.rsmFault; exact (by extract_lets -merge s0 s2; have h1 : Off m a s0 := (by unfold s0; exact (State.wr_off (State.wr_off (State.wr_off h0' (has_RSM_UNC_VALID (tb hm (by decide))) ..) (has_RSM_UNC_CHECK (tb hm (by decide))) ..) (has_RSM_UNC_LANE (tb hm (by decide))) ..)); (try clear_value s0); have h4 : Off m a s2 := (by unfold s2; exact (State.cond_off h1 (fun _ h3 => (State.wr_off (State.wr_off h3 (has_RSM_UNC_PHASE (tb hm (by decide))) ..) (has_RSM_UNC_TAP (tb hm (by decide))) ..)) ..)); (try clear_value s2); (try clear_value s0 s2); exact (State.raise_off (sb hm (by decide)) h4 ..))

end Sys2Proof.Machine
end

