-- ==== Sys2Proof/Laws/OffConv.lean ====
section
/-! SUPPORT. What the operations of Machine/Conv.lean reach: the pieces of the state and the register fields whose
numbers are set in the mask of each (`F`). -/
namespace Sys2Proof.Machine
open Sys2Proof
set_option Elab.async false

theorem State.cvWr_off {m a} (h0' : Off m a s0') (p1' : Has m a1') (p2' : Has m a2') (a3') (a4') : Off m a (State.cvWr s0' a1' a2' a3' a4') := by
  unfold State.cvWr; exact (.ite (State.wr_off h0' p1' ..) (State.wr_off h0' p2' ..))
def F.State.cvFault : Nat := 0x3000000000800
theorem State.cvFault_off {m a} (hm : F.State.cvFault &&& m = F.State.cvFault) (h0' : Off m a s0') (a1') (a2') : Off m a (State.cvFault s0' a1' a2') := by
  unfold State.cvFault; exact (State.int_off (sb hm (by decide)) (State.stand_off (sb hm (by decide)) (State.raise_off (sb hm (by decide)) h0' ..) ..) ..)
def F.State.cvFail : Nat := 0xc00000000000000000000000000000000000000000000000000000000000000000000000000000000000000000000000000000000000000000000000000000000000000000000
theorem State.cvFail_off {m a} (hm : F.State.cvFail &&& m = F.State.cvFail) (h0' : Off m a s0') (a1') : Off m a (State.cvFail s0' a1') := by
  unfold State.cvFail; exact (by extract_lets -merge x0; (try clear_value x0); exact (State.cvWr_off h0' (has_CONVRX_STAT_CAL_FAIL (tb hm (by decide))) (has_CONVTX_STAT_CAL_FAIL (tb hm (by decide))) ..))
def F.State.bgcalDone : Nat := 0x140000000000000000000000c00000000000000000000000000000000000000000000000000000000000000000000000000000000000000000000000000000000000000000000000000000003000000010800
theorem State.bgcalDone_off {m a} (hm : F.State.bgcalDone &&& m = F.State.bgcalDone) (h0' : Off m a s0') (a1') (a2') : Off m a (State.bgcalDone s0' a1' a2') := by
  unfold State.bgcalDone; exact (.ite h0' (by extract_lets -merge s0 s2 s4; have h1 : Off m a s0 := (by unfold s0; exact (State.cvWr_off h0' (has_CONVRX_BGCAL_CYCLES (tb hm (by decide))) (has_CONVTX_BGCAL_CYCLES (tb hm (by decide))) ..)); (try clear_value s0); have h3 : Off m a s2 := (by unfold s2; exact (State.setCv_off (sb hm (by decide)) h1 ..)); (try clear_value s2); have h6 : Off m a s4 := (by unfold s4; exact (State.cond_off h3 (fun _ h5 => (State.unstand_off (sb hm (by decide)) h5 ..)) ..)); (try clear_value s4); (try clear_value s0 s2 s4); exact (.ite (State.cvFail_off (sb hm (by decide)) (State.cvFault_off (sb hm (by decide)) h3 ..) ..) (.ite h3 (State.cvFail_off (sb hm (by decide)) (State.unstand_off (sb hm (by decide)) (State.unstand_off (sb hm (by decide)) h6 ..) ..) ..)))))
def F.State.clipEnd : Nat := 0x20000000000000000000000000000000000000000000000000000000000000000000000000000000000000000000000000000000000000000000000000000000100040
theorem State.clipEnd_off {m a} (hm : F.State.clipEnd &&& m = F.State.clipEnd) (h0' : Off m a s0') (a1') : Off m a (State.clipEnd s0' a1') := by
  unfold State.clipEnd; exact (.ite (State.wr_off (State.reach_off (sb hm (by decide)) h0' ..) (has_CONVTX_STAT_CLIP_NOW (tb hm (by decide))) ..) h0')
def F.State.clipWord : Nat := 0x8020000000000000000000000000000000000000000000000000000000000000000000000000000000000000020000000000000000000000000000000001000000010000
theorem State.clipWord_off {m a} (hm : F.State.clipWord &&& m = F.State.clipWord) (h0' : Off m a s0') (a1') : Off m a (State.clipWord s0' a1') := by
  unfold State.clipWord; exact (by extract_lets -merge x0 s1; (try clear_value x0); have h2 : Off m a s1 := (by unfold s1; exact (State.setCv_off (sb hm (by decide)) (State.wr_off (State.wr_off h0' (has_CONVTX_STAT_CLIP_NOW (tb hm (by decide))) ..) (has_CONVTX_STAT_CLIP_STICKY (tb hm (by decide))) ..) ..)); (try clear_value s1); (try clear_value s1); exact (State.cond_off h2 (fun _ h3 => (State.int_off (sb hm (by decide)) (State.satInc_off h3 (has_CONVTX_CLIP_CNT (tb hm (by decide))) ..) ..)) ..))
def F.State.clipStart : Nat := 0x8020000000000000000000000000000000000000000000000000000000000000000000000000000000000000020000000000000000000000000000000001000000010000
theorem State.clipStart_off {m a} (hm : F.State.clipStart &&& m = F.State.clipStart) (h0' : Off m a s0') (a1') : Off m a (State.clipStart s0' a1') := by
  unfold State.clipStart; exact (.ite (State.clipWord_off (sb hm (by decide)) h0' ..) h0')
def F.State.cvCalEnd : Nat := 0xc00000000000000000000000000000000000000000000000000000000000000000000000000000000000000000000000000000180000000000000000000000003000000010800
theorem State.cvCalEnd_off {m a} (hm : F.State.cvCalEnd &&& m = F.State.cvCalEnd) (h0' : Off m a s0') (a1') (a2') : Off m a (State.cvCalEnd s0' a1' a2') := by
  unfold State.cvCalEnd; exact (by extract_lets -merge s0 s2 s4; have h1 : Off m a s0 := (by unfold s0; exact (State.setCv_off (sb hm (by decide)) h0' ..)); (try clear_value s0); have h3 : Off m a s2 := (by unfold s2; exact (State.cvWr_off h1 (has_CONVRX_STAT_CAL_DONE (tb hm (by decide))) (has_CONVTX_STAT_CAL_DONE (tb hm (by decide))) ..)); (try clear_value s2); have h5 : Off m a s4 := (by unfold s4; exact (.ite (State.int_off (sb hm (by decide)) h3 ..) (State.cvFault_off (sb hm (by decide)) h3 ..))); (try clear_value s4); (try clear_value s0 s2 s4); exact (State.cvFail_off (sb hm (by decide)) h5 ..))
def F.State.cvParity : Nat := 0x3000000010800
theorem State.cvParity_off {m a} (hm : F.State.cvParity &&& m = F.State.cvParity) (h0' : Off m a s0') (a1') : Off m a (State.cvParity s0' a1') := by
  unfold State.cvParity; exact (State.cvFault_off (sb hm (by decide)) (State.setCv_off (sb hm (by decide)) h0' ..) ..)
def F.State.overEnd : Nat := 0x100000000000000000000000000000000000000000000000000000000000000000000000000000000000000000000000000000000000000000000000000000000000000000000008000
theorem State.overEnd_off {m a} (hm : F.State.overEnd &&& m = F.State.overEnd) (h0' : Off m a s0') (a1') : Off m a (State.overEnd s0' a1') := by
  unfold State.overEnd; exact (.ite h0' (by extract_lets -merge x0 s1; (try clear_value x0); have h2 : Off m a s1 := (by unfold s1; exact (State.wr_off h0' (has_CONVRX_STAT_OVR_NOW (tb hm (by decide))) ..)); (try clear_value s1); (try clear_value s1); exact (.foldl h2 (fun _ h3 _ => (State.setLane_off (sb hm (by decide)) h3 ..)) _)))
def F.State.overStart : Nat := 0x80000000000000000100000000000000000000000000000000000000000000000000000000000000000000000000000000000000000000200000000000008000000000000040000000000001000000008000
theorem State.overStart_off {m a} (hm : F.State.overStart &&& m = F.State.overStart) (h0' : Off m a s0') (a1') : Off m a (State.overStart s0' a1') := by
  unfold State.overStart; exact (.ite h0' (by extract_lets -merge s0; have h1 : Off m a s0 := (by unfold s0; exact (State.satInc_off (State.wr_off (State.wr_off h0' (has_CONVRX_STAT_OVR_NOW (tb hm (by decide))) ..) (has_CONVRX_STAT_OVR_STICKY (tb hm (by decide))) ..) (has_CONVRX_OVR_CNT (tb hm (by decide))) ..)); (try clear_value s0); (try clear_value s0); exact (.foldl (State.int_off (sb hm (by decide)) h1 ..) (fun _ h2 _ => (State.markSuspect_off (sb hm (by decide)) h2 ..)) _)))
def F.State.suspectEnd : Nat := 0x40000000000000000000108040
theorem State.suspectEnd_off {m a} (hm : F.State.suspectEnd &&& m = F.State.suspectEnd) (h0' : Off m a s0') (a1') : Off m a (State.suspectEnd s0' a1') := by
  unfold State.suspectEnd; exact (by split; (· exact h0'); (· exact (State.wr_off (State.setLane_off (sb hm (by decide)) (State.reach_off (sb hm (by decide)) h0' ..) ..) (has_LANE_STAT_SUSPECT (tb hm (by decide))) ..)))

end Sys2Proof.Machine
end

