-- ==== Sys2Proof/Laws/OffRfc.lean ====
section
/-! SUPPORT. What the operations of Machine/Rfc.lean reach: the pieces of the state and the register fields whose
numbers are set in the mask of each (`F`). -/
namespace Sys2Proof.Machine
open Sys2Proof
set_option Elab.async false

def F.State.setSynErr : Nat := 0x180000000000000000000000000000000000000000
theorem State.setSynErr_off {m a} (hm : F.State.setSynErr &&& m = F.State.setSynErr) (h0' : Off m a s0') (a1') (a2') : Off m a (State.setSynErr s0' a1' a2') := by
  unfold State.setSynErr; exact (State.wr_off h0' (.ite (has_SYN_STAT_ERR_A (tb hm (by decide))) (has_SYN_STAT_ERR_B (tb hm (by decide)))) ..)
def F.State.setSyn : Nat := 0x20000
theorem State.setSyn_off {m a} (hm : F.State.setSyn &&& m = F.State.setSyn) (h0' : Off m a s0') (a1') (a2') : Off m a (State.setSyn s0' a1' a2') := by
  unfold State.setSyn; exact (State.setRfc_off (sb hm (by decide)) h0' ..)
def F.State.cutTx : Nat := 0x20000
theorem State.cutTx_off {m a} (hm : F.State.cutTx &&& m = F.State.cutTx) (h0' : Off m a s0') (a1') : Off m a (State.cutTx s0' a1') := by
  unfold State.cutTx; exact (State.setRport_off (sb hm (by decide)) h0' ..)
def F.State.setPortState : Nat := 0x80000000000000020000
theorem State.setPortState_off {m a} (hm : F.State.setPortState &&& m = F.State.setPortState) (h0' : Off m a s0') (a1') (a2') : Off m a (State.setPortState s0' a1' a2') := by
  unfold State.setPortState; exact (State.setRport_off (sb hm (by decide)) (State.wr_off h0' (has_RFC_PORT_STAT_STATE (tb hm (by decide))) ..) ..)
def F.State.holdSyn : Nat := 0x20000
theorem State.holdSyn_off {m a} (hm : F.State.holdSyn &&& m = F.State.holdSyn) (h0' : Off m a s0') (a1') (a2') (a3') : Off m a (State.holdSyn s0' a1' a2' a3') := by
  unfold State.holdSyn; exact (State.setRport_off (sb hm (by decide)) h0' ..)
def F.State.coexGrant : Nat := 0x200000000000000022000
theorem State.coexGrant_off {m a} (hm : F.State.coexGrant &&& m = F.State.coexGrant) (h0' : Off m a s0') : Off m a (State.coexGrant s0') := by
  unfold State.coexGrant; exact (by extract_lets -merge s0; have h1 : Off m a s0 := (by unfold s0; exact (State.wr_off (State.setRfc_off (sb hm (by decide)) h0' ..) (has_COEX_STAT_PENDING (tb hm (by decide))) ..)); (try clear_value s0); (try clear_value s0); exact (State.suspendLifts_off (sb hm (by decide)) (.foldl h1 (fun _ h2 _ => (State.setRport_off (sb hm (by decide)) h2 ..)) _) ..))
def F.State.coexTry : Nat := 0x200000000000000022000
theorem State.coexTry_off {m a} (hm : F.State.coexTry &&& m = F.State.coexTry) (h0' : Off m a s0') : Off m a (State.coexTry s0') := by
  unfold State.coexTry; exact (State.cond_off h0' (fun _ h0 => (State.coexGrant_off (sb hm (by decide)) h0 ..)) ..)
def F.State.setSynState : Nat := 0x30000000000000000000000000000000000000
theorem State.setSynState_off {m a} (hm : F.State.setSynState &&& m = F.State.setSynState) (h0' : Off m a s0') (a1') (a2') : Off m a (State.setSynState s0' a1' a2') := by
  unfold State.setSynState; exact (State.wr_off h0' (.ite (has_SYN_STAT_STATE_A (tb hm (by decide))) (has_SYN_STAT_STATE_B (tb hm (by decide)))) ..)
def F.State.synStart : Nat := 0x601b0000000000000000280000800000000032000
theorem State.synStart_off {m a} (hm : F.State.synStart &&& m = F.State.synStart) (h0' : Off m a s0') (a1') : Off m a (State.synStart s0' a1') := by
  unfold State.synStart; exact (by extract_lets -merge s0 x2 s3 s6; (try clear_value x2); have h1 : Off m a s0 := (by unfold s0; exact (State.setSyn_off (sb hm (by decide)) (State.satInc_off (State.setSynState_off (sb hm (by decide)) h0' ..) (.ite (has_SYN_CAL_CNT_A (tb hm (by decide))) (has_SYN_CAL_CNT_B (tb hm (by decide)))) ..) ..)); (try clear_value s0); have h5 : Off m a s3 := (by unfold s3; exact (.foldl h1 (fun _ h4 _ => (State.setCv_off (sb hm (by decide)) (State.cvWr_off h4 (has_CONVRX_STAT_CAL_DONE (tb hm (by decide))) (has_CONVTX_STAT_CAL_DONE (tb hm (by decide))) ..) ..)) _)); (try clear_value s3); have h9 : Off m a s6 := (by unfold s6; exact (.foldl h5 (fun _ h7 _ => (by extract_lets -merge x8; (try clear_value x8); exact (.ite h7 (State.holdSyn_off (sb hm (by decide)) (State.setPortState_off (sb hm (by decide)) (State.cutTx_off (sb hm (by decide)) h7 ..) ..) ..)))) _)); (try clear_value s6); (try clear_value s0 s3 s6); exact (State.coexRelease_off (sb hm (by decide)) (State.coexTry_off (sb hm (by decide)) (State.suspendLifts_off (sb hm (by decide)) h9 ..) ..) ..))
def F.State.synAccept : Nat := 0x1e01b000000005de003f82800008000000000b2000
theorem State.synAccept_off {m a} (hm : F.State.synAccept &&& m = F.State.synAccept) (h0' : Off m a s0') (a1') : Off m a (State.synAccept s0' a1') := by
  unfold State.synAccept; exact (by extract_lets -merge s0 s2; have h1 : Off m a s0 := (by unfold s0; exact (State.setSyn_off (sb hm (by decide)) (State.setSynErr_off (sb hm (by decide)) h0' ..) ..)); (try clear_value s0); have h4 : Off m a s2 := (by unfold s2; exact (.foldl h1 (fun _ h3 _ => (State.sptRetire_off (sb hm (by decide)) h3 ..)) _)); (try clear_value s2); (try clear_value s0 s2); exact (State.synStart_off (sb hm (by decide)) h4 ..))
def F.State.synGo : Nat := 0x1e01b000000005de003f82800008020000000b2000
theorem State.synGo_off {m a} (hm : F.State.synGo &&& m = F.State.synGo) (h0' : Off m a s0') (a1') : Off m a (State.synGo s0' a1') := by
  unfold State.synGo; exact (.ite (State.refuse_off (sb hm (by decide)) (State.setSynErr_off (sb hm (by decide)) h0' ..) ..) (.ite (State.refuse_off (sb hm (by decide)) (State.setSynErr_off (sb hm (by decide)) h0' ..) ..) (State.synAccept_off (sb hm (by decide)) h0' ..)))
def F.State.writeSynCtl : Nat := 0x1e01b000000005de003f82800008020000000b2000
theorem State.writeSynCtl_off {m a} (hm : F.State.writeSynCtl &&& m = F.State.writeSynCtl) (h0' : Off m a s0') (a1') : Off m a (State.writeSynCtl s0' a1') := by
  unfold State.writeSynCtl; exact (by extract_lets -merge s0; have h2 : Off m a s0 := (by unfold s0; exact (State.cond_off h0' (fun _ h1 => (State.synGo_off (sb hm (by decide)) h1 ..)) ..)); (try clear_value s0); (try clear_value s0); exact (State.cond_off h2 (fun _ h3 => (State.synGo_off (sb hm (by decide)) h3 ..)) ..))
def F.State.calAlone : Nat := 0x10000
theorem State.calAlone_off {m a} (hm : F.State.calAlone &&& m = F.State.calAlone) (h0' : Off m a s0') (a1') : Off m a (State.calAlone s0' a1') := by
  unfold State.calAlone; exact (by extract_lets -merge x0; (try clear_value x0); exact (.ite (State.setCv_off (sb hm (by decide)) h0' ..) h0'))
def F.State.cvCntClr : Nat := 0x200000020000000000000000000000000000000000000000000000
theorem State.cvCntClr_off {m a} (hm : F.State.cvCntClr &&& m = F.State.cvCntClr) (h0' : Off m a s0') (a1') : Off m a (State.cvCntClr s0' a1') := by
  unfold State.cvCntClr; exact (State.cvWr_off h0' (has_CONVRX_OVR_CNT (tb hm (by decide))) (has_CONVTX_CLIP_CNT (tb hm (by decide))) ..)
def F.State.portOff : Nat := 0x280000800000000022000
theorem State.portOff_off {m a} (hm : F.State.portOff &&& m = F.State.portOff) (h0' : Off m a s0') (a1') : Off m a (State.portOff s0' a1') := by
  unfold State.portOff; exact (by extract_lets -merge s0 s2; have h1 : Off m a s0 := (by unfold s0; exact (State.setPortState_off (sb hm (by decide)) (State.cutTx_off (sb hm (by decide)) h0' ..) ..)); (try clear_value s0); have h3 : Off m a s2 := (by unfold s2; exact (State.setRport_off (sb hm (by decide)) h1 ..)); (try clear_value s2); (try clear_value s0 s2); exact (State.coexRelease_off (sb hm (by decide)) (State.coexTry_off (sb hm (by decide)) (State.suspendLifts_off (sb hm (by decide)) h3 ..) ..) ..))
def F.State.portUp : Nat := 0x80000000000000030000
theorem State.portUp_off {m a} (hm : F.State.portUp &&& m = F.State.portUp) (h0' : Off m a s0') (a1') : Off m a (State.portUp s0' a1') := by
  unfold State.portUp; exact (by extract_lets -merge x0 s1 s3; (try clear_value x0); have h2 : Off m a s1 := (by unfold s1; exact (State.setPortState_off (sb hm (by decide)) h0' ..)); (try clear_value s1); have h5 : Off m a s3 := (by unfold s3; exact (.foldl h2 (fun _ h4 _ => (.ite (State.holdSyn_off (sb hm (by decide)) h4 ..) h4)) _)); (try clear_value s3); (try clear_value s1 s3); exact (.ite (.foldl h5 (fun _ h6 _ => (State.calAlone_off (sb hm (by decide)) h6 ..)) _) h0'))
def F.State.turnStart : Nat := 0x80000000000000022000
theorem State.turnStart_off {m a} (hm : F.State.turnStart &&& m = F.State.turnStart) (h0' : Off m a s0') (a1') (a2') : Off m a (State.turnStart s0' a1' a2') := by
  unfold State.turnStart; exact (by extract_lets -merge s0 s2; have h1 : Off m a s0 := (by unfold s0; exact (State.setRport_off (sb hm (by decide)) h0' ..)); (try clear_value s0); have h4 : Off m a s2 := (by unfold s2; exact (State.cond_off h1 (fun _ h3 => (State.setPortState_off (sb hm (by decide)) h3 ..)) ..)); (try clear_value s2); (try clear_value s0 s2); exact (.ite (State.setCport_off (sb hm (by decide)) h4 ..) h4))
def F.State.turnAlone : Nat := 0x80000000000000022000
theorem State.turnAlone_off {m a} (hm : F.State.turnAlone &&& m = F.State.turnAlone) (h0' : Off m a s0') (a1') : Off m a (State.turnAlone s0' a1') := by
  unfold State.turnAlone; exact (by extract_lets -merge x0 x1; (try clear_value x0 x1); exact (.ite (State.turnStart_off (sb hm (by decide)) h0' ..) h0'))
def F.State.enterTx : Nat := 0x20000
theorem State.enterTx_off {m a} (hm : F.State.enterTx &&& m = F.State.enterTx) (h0' : Off m a s0') (a1') : Off m a (State.enterTx s0' a1') := by
  unfold State.enterTx; exact (by extract_lets -merge x0; (try clear_value x0); exact (.ite h0' (.ite (State.setRport_off (sb hm (by decide)) h0' ..) (State.setRport_off (sb hm (by decide)) h0' ..))))
def F.State.portMove : Nat := 0x80000000000000020000
theorem State.portMove_off {m a} (hm : F.State.portMove &&& m = F.State.portMove) (h0' : Off m a s0') (a1') : Off m a (State.portMove s0' a1') := by
  unfold State.portMove; exact (by extract_lets -merge x0 s1 x3; (try clear_value x0 x3); have h2 : Off m a s1 := (by unfold s1; exact (.ite (State.setPortState_off (sb hm (by decide)) h0' ..) h0')); (try clear_value s1); (try clear_value s1); exact (.ite h2 (.ite (.ite (State.enterTx_off (sb hm (by decide)) h2 ..) (.ite (State.cutTx_off (sb hm (by decide)) h2 ..) h2)) (.ite (State.setPortState_off (sb hm (by decide)) (State.cutTx_off (sb hm (by decide)) h2 ..) ..) h2))))
def F.State.cmdDone : Nat := 0xc00000000001000000000000
theorem State.cmdDone_off {m a} (hm : F.State.cmdDone &&& m = F.State.cmdDone) (h0' : Off m a s0') (a1') (a2') : Off m a (State.cmdDone s0' a1' a2') := by
  unfold State.cmdDone; exact (by extract_lets -merge s0; have h1 : Off m a s0 := (by unfold s0; exact (State.int_off (sb hm (by decide)) (State.wr_off (State.wr_off h0' (has_RFC_PORT_STAT_RESULT (tb hm (by decide))) ..) (has_RFC_PORT_STAT_BUSY (tb hm (by decide))) ..) ..)); (try clear_value s0); (try clear_value s0); exact (State.cond_off h1 (fun _ h2 => (State.int_off (sb hm (by decide)) h2 ..)) ..))
def F.State.cmdCheck : Nat := 0xc00000000001000000000000
theorem State.cmdCheck_off {m a} (hm : F.State.cmdCheck &&& m = F.State.cmdCheck) (h0' : Off m a s0') (a1') : Off m a (State.cmdCheck s0' a1') := by
  unfold State.cmdCheck; exact (by extract_lets -merge x0 x1; (try clear_value x0 x1); exact (State.cond_off h0' (fun _ h2 => (State.cmdDone_off (sb hm (by decide)) h2 ..)) ..))
def F.State.portEval : Nat := 0xc00280000801000000032800
theorem State.portEval_off {m a} (hm : F.State.portEval &&& m = F.State.portEval) (h0' : Off m a s0') (a1') : Off m a (State.portEval s0' a1') := by
  unfold State.portEval; exact (by extract_lets -merge s0; have h1 : Off m a s0 := (by unfold s0; exact (State.suspendLifts_off (sb hm (by decide)) (State.turnAlone_off (sb hm (by decide)) (State.portMove_off (sb hm (by decide)) (State.portUp_off (sb hm (by decide)) h0' ..) ..) ..) ..)); (try clear_value s0); (try clear_value s0); exact (State.coexRelease_off (sb hm (by decide)) (State.coexTry_off (sb hm (by decide)) (State.lossEval_off (sb hm (by decide)) (State.cmdCheck_off (sb hm (by decide)) h1 ..) ..) ..) ..))
def F.State.cvDisable : Nat := 0xc000000000000000000000000003ef3ffffffffffffffffff000045bff841
theorem State.cvDisable_off {m a} (hm : F.State.cvDisable &&& m = F.State.cvDisable) (h0' : Off m a s0') (a1') : Off m a (State.cvDisable s0' a1') := by
  unfold State.cvDisable; exact (by extract_lets -merge x0 x1 s2 s5; (try clear_value x0 x1); have h4 : Off m a s2 := (by unfold s2; exact (.foldl h0' (fun _ h3 _ => (State.laneDisable_off (sb hm (by decide)) h3 ..)) _)); (try clear_value s2); have h6 : Off m a s5 := (by unfold s5; exact (State.setCv_off (sb hm (by decide)) (State.cvWr_off h4 (has_CONVRX_CFG_EN (tb hm (by decide))) (has_CONVTX_CFG_EN (tb hm (by decide))) ..) ..)); (try clear_value s5); (try clear_value s2 s5); exact (State.cond_off h6 (fun _ h7 => (State.portEval_off (sb hm (by decide)) (State.portOff_off (sb hm (by decide)) h7 ..) ..)) ..))
def F.State.writeCv : Nat := 0x1fc00000000c000000200000020000000000003ef3ffffffffffffffffff000045bff841
theorem State.writeCv_off {m a} (hm : F.State.writeCv &&& m = F.State.writeCv) (h0' : Off m a s0') (a1') (a2') : Off m a (State.writeCv s0' a1' a2') := by
  unfold State.writeCv; exact (by extract_lets -merge x0 x1 x2 x3 s4 s7 s10 s12; (try clear_value x0 x1 x2 x3); have h6 : Off m a s4 := (by unfold s4; exact (State.cond_off h0' (fun _ h5 => (State.cvCntClr_off (sb hm (by decide)) h5 ..)) ..)); (try clear_value s4); have h9 : Off m a s7 := (by unfold s7; exact (State.cond_off h6 (fun _ h8 => (State.cvDisable_off (sb hm (by decide)) h8 ..)) ..)); (try clear_value s7); have h11 : Off m a s10 := (by unfold s10; exact (.ite (State.wrWord_off h9 (.cons (has_CONVRX_CFG_BGCAL_EN (tb hm (by decide))) (.cons (has_CONVRX_CFG_SIDE (tb hm (by decide))) (.cons (has_CONVRX_CFG_EN (tb hm (by decide))) .nil))) ..) (State.wrWord_off h9 (.cons (has_CONVTX_CFG_BACKOFF (tb hm (by decide))) (.cons (has_CONVTX_CFG_SINC_EQ (tb hm (by decide))) (.cons (has_CONVTX_CFG_MODE (tb hm (by decide))) (.cons (has_CONVTX_CFG_BGCAL_EN (tb hm (by decide))) (.cons (has_CONVTX_CFG_SIDE (tb hm (by decide))) (.cons (has_CONVTX_CFG_EN (tb hm (by decide))) .nil)))))) ..))); (try clear_value s10); have h15 : Off m a s12 := (by unfold s12; exact (State.cond_off h11 (fun _ h13 => (State.cond_off (State.cvWr_off h13 (has_CONVRX_CFG_SIDE (tb hm (by decide))) (has_CONVTX_CFG_SIDE (tb hm (by decide))) ..) (fun _ h14 => (State.wr_off h14 (has_CONVTX_CFG_MODE (tb hm (by decide))) ..)) ..)) ..)); (try clear_value s12); (try clear_value s4 s7 s10 s12); exact (.ite (State.portEval_off (sb hm (by decide)) (State.calAlone_off (sb hm (by decide)) (State.setCv_off (sb hm (by decide)) h15 ..) ..) ..) h15))
def F.State.portsEval : Nat := 0xc00280000801000000032800
theorem State.portsEval_off {m a} (hm : F.State.portsEval &&& m = F.State.portsEval) (h0' : Off m a s0') : Off m a (State.portsEval s0') := by
  unfold State.portsEval; exact (.foldl h0' (fun _ h0 _ => (State.portEval_off (sb hm (by decide)) h0 ..)) _)
def F.State.setAttn : Nat := 0x20000
theorem State.setAttn_off {m a} (hm : F.State.setAttn &&& m = F.State.setAttn) (h0' : Off m a s0') (a1') (a2') : Off m a (State.setAttn s0' a1' a2') := by
  unfold State.setAttn; exact (State.setRfc_off (sb hm (by decide)) h0' ..)
def F.State.attnShift : Nat := 0x2000000000000000000000000000000000000000020000
theorem State.attnShift_off {m a} (hm : F.State.attnShift &&& m = F.State.attnShift) (h0' : Off m a s0') (a1') (a2') : Off m a (State.attnShift s0' a1' a2') := by
  unfold State.attnShift; exact (by extract_lets -merge x0 x1 s2; (try clear_value x0 x1); have h3 : Off m a s2 := (by unfold s2; exact (State.setAttn_off (sb hm (by decide)) h0' ..)); (try clear_value s2); (try clear_value s2); exact (State.wr_off h3 (has_ATTN_STAT_BUSY (tb hm (by decide))) ..))
def F.State.attnSend : Nat := 0x82000000000000000000000000000000000000000020000
theorem State.attnSend_off {m a} (hm : F.State.attnSend &&& m = F.State.attnSend) (h0' : Off m a s0') (a1') : Off m a (State.attnSend s0' a1') := by
  unfold State.attnSend; exact (.ite h0' (.ite (State.wr_off (State.setAttn_off (sb hm (by decide)) h0' ..) (has_ATTN_STAT_PENDING (tb hm (by decide))) ..) (State.attnShift_off (sb hm (by decide)) h0' ..)))
def F.State.writeAttnCtl : Nat := 0x82000000000000000000000000000000002000000020000
theorem State.writeAttnCtl_off {m a} (hm : F.State.writeAttnCtl &&& m = F.State.writeAttnCtl) (h0' : Off m a s0') (a1') (a2') : Off m a (State.writeAttnCtl s0' a1' a2') := by
  unfold State.writeAttnCtl; exact (.ite h0' (.ite (State.refuse_off (sb hm (by decide)) h0' ..) (State.attnSend_off (sb hm (by decide)) h0' ..)))
def F.State.writeAttnData : Nat := 0x100000000000000000000000000000000000000000002000000000000
theorem State.writeAttnData_off {m a} (hm : F.State.writeAttnData &&& m = F.State.writeAttnData) (h0' : Off m a s0') (a1') (a2') (a3') : Off m a (State.writeAttnData s0' a1' a2' a3') := by
  unfold State.writeAttnData; exact (.ite (State.refuse_off (sb hm (by decide)) h0' ..) (State.wr_off h0' (has_ATTN_DATA (tb hm (by decide))) ..))
def F.State.coexResume : Nat := 0x20000
theorem State.coexResume_off {m a} (hm : F.State.coexResume &&& m = F.State.coexResume) (h0' : Off m a s0') : Off m a (State.coexResume s0') := by
  unfold State.coexResume; exact (.foldl h0' (fun _ h0 _ => (by extract_lets -merge x1; (try clear_value x1); exact (.ite h0 (State.setRport_off (sb hm (by decide)) h0 ..)))) _)
def F.State.writeCoexCfg : Nat := 0x1c0000000000000000000000000000000000000000000000000000000000000000000000000000c00280000803000000032800
theorem State.writeCoexCfg_off {m a} (hm : F.State.writeCoexCfg &&& m = F.State.writeCoexCfg) (h0' : Off m a s0') (a1') : Off m a (State.writeCoexCfg s0' a1') := by
  unfold State.writeCoexCfg; exact (.ite (State.refuse_off (sb hm (by decide)) h0' ..) (by extract_lets -merge s0; have h1 : Off m a s0 := (by unfold s0; exact (State.wrWord_off h0' (.cons (has_COEX_CFG_IN_POL (tb hm (by decide))) (.cons (has_COEX_CFG_OUT_MODE (tb hm (by decide))) (.cons (has_COEX_CFG_PRI_POL (tb hm (by decide))) .nil))) ..)); (try clear_value s0); (try clear_value s0); exact (State.portsEval_off (sb hm (by decide)) (State.cond_off h1 (fun _ h2 => (State.coexResume_off (sb hm (by decide)) h2 ..)) ..) ..)))
def F.State.writeAttnCfg : Nat := 0x7e00000000000000000000000000000000000000000000000000082000000000000000000000000000000002000000020000
theorem State.writeAttnCfg_off {m a} (hm : F.State.writeAttnCfg &&& m = F.State.writeAttnCfg) (h0' : Off m a s0') (a1') (a2') : Off m a (State.writeAttnCfg s0' a1' a2') := by
  unfold State.writeAttnCfg; exact (.ite (State.refuse_off (sb hm (by decide)) h0' ..) (by extract_lets -merge s0; have h1 : Off m a s0 := (by unfold s0; exact (State.wrWord_off h0' (.cons (has_ATTN_CFG_OWNER (tb hm (by decide))) (.cons (has_ATTN_CFG_LSB_FIRST (tb hm (by decide))) (.cons (has_ATTN_CFG_LATCH (tb hm (by decide))) (.cons (has_ATTN_CFG_PORTS (tb hm (by decide))) (.cons (has_ATTN_CFG_DIV (tb hm (by decide))) (.cons (has_ATTN_CFG_LEN (tb hm (by decide))) .nil)))))) ..)); (try clear_value s0); (try clear_value s0); exact (.ite (State.wr_off (State.wr_off (State.setAttn_off (sb hm (by decide)) h1 ..) (has_ATTN_STAT_BUSY (tb hm (by decide))) ..) (has_ATTN_STAT_PENDING (tb hm (by decide))) ..) h1)))
def F.State.writePortCfg : Nat := 0x7c0000000000000000000000000000000000000000000000000c00280000803000000032800
theorem State.writePortCfg_off {m a} (hm : F.State.writePortCfg &&& m = F.State.writePortCfg) (h0' : Off m a s0') (a1') (a2') : Off m a (State.writePortCfg s0' a1' a2') := by
  unfold State.writePortCfg; exact (by extract_lets -merge x0 s1 s4 s6; (try clear_value x0); have h3 : Off m a s1 := (by unfold s1; exact (State.cond_off h0' (fun _ h2 => (State.int_off (sb hm (by decide)) (State.wr_off h2 (has_RFC_PORT_STAT_RESULT (tb hm (by decide))) ..) ..)) ..)); (try clear_value s1); have h5 : Off m a s4 := (by unfold s4; exact (State.wr_off (State.wrWord_off h3 (.cons (has_RFC_PORT_CFG_TARGET (tb hm (by decide))) (.cons (has_RFC_PORT_CFG_PROBE_EN (tb hm (by decide))) (.cons (has_RFC_PORT_CFG_FDD_POS (tb hm (by decide))) (.cons (has_RFC_PORT_CFG_RX_PROT (tb hm (by decide))) (.cons (has_RFC_PORT_CFG_COEX (tb hm (by decide))) .nil))))) ..) (has_RFC_PORT_STAT_BUSY (tb hm (by decide))) ..)); (try clear_value s4); have h10 : Off m a s6 := (by unfold s6; exact (State.cond_off h5 (fun _ h7 => (.foldl h7 (fun _ h8 _ => (State.cond_off h8 (fun _ h9 => (State.holdSyn_off (sb hm (by decide)) h9 ..)) ..)) _)) ..)); (try clear_value s6); (try clear_value s1 s4 s6); exact (.ite (State.refuse_off (sb hm (by decide)) h0' ..) (.ite (State.cmdCheck_off (sb hm (by decide)) (State.portOff_off (sb hm (by decide)) h10 ..) ..) (State.portEval_off (sb hm (by decide)) h10 ..))))
def F.State.attnLE : Nat := 0x2000000000000000000000000000000000000000000000000000000000000000000000000000000000000000000000082000000000000000000000000000000000000000020000
theorem State.attnLE_off {m a} (hm : F.State.attnLE &&& m = F.State.attnLE) (h0' : Off m a s0') (a1') : Off m a (State.attnLE s0' a1') := by
  unfold State.attnLE; exact (by extract_lets -merge x0 s1; (try clear_value x0); have h2 : Off m a s1 := (by unfold s1; exact (State.inc_off (State.setAttn_off (sb hm (by decide)) h0' ..) (has_ATTN_STAT_SENT (tb hm (by decide))) ..)); (try clear_value s1); (try clear_value s1); exact (by split; (· exact (State.attnShift_off (sb hm (by decide)) (State.wr_off h2 (has_ATTN_STAT_PENDING (tb hm (by decide))) ..) ..)); (· exact (State.wr_off h2 (has_ATTN_STAT_BUSY (tb hm (by decide))) ..))))
def F.State.attnLatch : Nat := 0x2000000000000000000000000000000000000000000000000000000000000000000000000000000000000000000000082000000000000000000000000000000000000000120040
theorem State.attnLatch_off {m a} (hm : F.State.attnLatch &&& m = F.State.attnLatch) (h0' : Off m a s0') (a1') : Off m a (State.attnLatch s0' a1') := by
  unfold State.attnLatch; exact (by extract_lets -merge x0 x1; (try clear_value x0 x1); exact (.ite h0' (.ite (State.attnLE_off (sb hm (by decide)) (State.reach_off (sb hm (by decide)) h0' ..) ..) (by split; (· exact (State.attnLE_off (sb hm (by decide)) (State.reach_off (sb hm (by decide)) h0' ..) ..)); (· exact h0')))))
def F.State.attnShifted : Nat := 0x2000000000000000000000000000000000000000000000000000000000000000000000000000000000000000000000082000000000000000000000000000000000000000120040
theorem State.attnShifted_off {m a} (hm : F.State.attnShifted &&& m = F.State.attnShifted) (h0' : Off m a s0') (a1') : Off m a (State.attnShifted s0' a1') := by
  unfold State.attnShifted; exact (by extract_lets -merge x0 s1; (try clear_value x0); have h2 : Off m a s1 := (by unfold s1; exact (State.reach_off (sb hm (by decide)) h0' ..)); (try clear_value s1); (try clear_value s1); exact (.ite h0' (.ite (State.attnLE_off (sb hm (by decide)) h2 ..) (State.setAttn_off (sb hm (by decide)) h2 ..))))
def F.State.coexEnd : Nat := 0x200000000000000000000000000000000000000000000000000000000000000000000000000000000000000000000000000000000000000000000000000000000000020000
theorem State.coexEnd_off {m a} (hm : F.State.coexEnd &&& m = F.State.coexEnd) (h0' : Off m a s0') : Off m a (State.coexEnd s0') := by
  unfold State.coexEnd; exact (by extract_lets -merge s0; have h1 : Off m a s0 := (by unfold s0; exact (State.setRfc_off (sb hm (by decide)) (State.wr_off h0' (has_COEX_STAT_GNT_OUT (tb hm (by decide))) ..) ..)); (try clear_value s0); (try clear_value s0); exact (.foldl h1 (fun _ h2 _ => (.ite (by extract_lets -merge s3; have h4 : Off m a s3 := (by unfold s3; exact (State.setRport_off (sb hm (by decide)) h2 ..)); (try clear_value s3); (try clear_value s3); exact (State.cond_off h4 (fun _ h5 => (State.setRport_off (sb hm (by decide)) h5 ..)) ..)) h2)) _))
def F.State.coexGntFall : Nat := 0x80000000000000000000000000000000000000000000000000000000000000000000000000000000000000000000000000000000000000000000000000000000000001000000022100
theorem State.coexGntFall_off {m a} (hm : F.State.coexGntFall &&& m = F.State.coexGntFall) (h0' : Off m a s0') : Off m a (State.coexGntFall s0') := by
  unfold State.coexGntFall; exact (by extract_lets -merge x0 s1 s3; (try clear_value x0); have h2 : Off m a s1 := (by unfold s1; exact (.upd h0' (h_pins := .inr (tb hm (by decide))))); (try clear_value s1); have h5 : Off m a s3 := (by unfold s3; exact (.foldl h2 (fun _ h4 _ => (State.setRport_off (sb hm (by decide)) h4 ..)) _)); (try clear_value s3); (try clear_value s1 s3); exact (.ite h2 (State.suspendLifts_off (sb hm (by decide)) (State.int_off (sb hm (by decide)) (State.int_off (sb hm (by decide)) (State.satInc_off h5 (has_COEX_WDRAW_CNT (tb hm (by decide))) ..) ..) ..) ..)))
def F.State.coexGntOut : Nat := 0x20000000000000000000000000200000000000000000000000000000000000000000000000000000000000000000000000000000000000000000000000000000000000000000000000000000000000020000
theorem State.coexGntOut_off {m a} (hm : F.State.coexGntOut &&& m = F.State.coexGntOut) (h0' : Off m a s0') : Off m a (State.coexGntOut s0') := by
  unfold State.coexGntOut; exact (.ite h0' (State.setRfc_off (sb hm (by decide)) (State.satInc_off (State.wr_off h0' (has_COEX_STAT_GNT_OUT (tb hm (by decide))) ..) (has_COEX_GRANT_CNT (tb hm (by decide))) ..) ..))
def F.State.coexGntRise : Nat := 0x20100
theorem State.coexGntRise_off {m a} (hm : F.State.coexGntRise &&& m = F.State.coexGntRise) (h0' : Off m a s0') : Off m a (State.coexGntRise s0') := by
  unfold State.coexGntRise; exact (State.coexResume_off (sb hm (by decide)) (.upd h0' (h_pins := .inr (tb hm (by decide)))) ..)
def F.State.coexMaxHold : Nat := 0x80000000200000000000000000000000000000000000000000000000000000000000000000000000000000000000000000000000000000000000000000000000000003000000120840
theorem State.coexMaxHold_off {m a} (hm : F.State.coexMaxHold &&& m = F.State.coexMaxHold) (h0' : Off m a s0') : Off m a (State.coexMaxHold s0') := by
  unfold State.coexMaxHold; exact (by extract_lets -merge x0; (try clear_value x0); exact (by split; (· exact (.ite h0' (by extract_lets -merge s1; have h2 : Off m a s1 := (by unfold s1; exact (State.coexEnd_off (sb hm (by decide)) (State.reach_off (sb hm (by decide)) h0' ..) ..)); (try clear_value s1); (try clear_value s1); exact (State.raiseInt_off (sb hm (by decide)) (State.satInc_off h2 (has_COEX_WDRAW_CNT (tb hm (by decide))) ..) ..)))); (· exact h0')))
def F.State.coexReqFall : Nat := 0x200000000000000000000000000000000000000000000000000000000000000000000000000000000000000000000000000000000000000000000200000000000000020100
theorem State.coexReqFall_off {m a} (hm : F.State.coexReqFall &&& m = F.State.coexReqFall) (h0' : Off m a s0') : Off m a (State.coexReqFall s0') := by
  unfold State.coexReqFall; exact (by extract_lets -merge x0 s1; (try clear_value x0); have h2 : Off m a s1 := (by unfold s1; exact (.upd h0' (h_pins := .inr (tb hm (by decide))))); (try clear_value s1); (try clear_value s1); exact (State.coexEnd_off (sb hm (by decide)) (State.wr_off h2 (has_COEX_STAT_PENDING (tb hm (by decide))) ..) ..))
def F.State.coexReqOut : Nat := 0x200000000000000000000000000000000000000000000000000000000000000000000000000000000000000000000000000000000000000000000000000000801000000120040
theorem State.coexReqOut_off {m a} (hm : F.State.coexReqOut &&& m = F.State.coexReqOut) (h0' : Off m a s0') (a1') : Off m a (State.coexReqOut s0' a1') := by
  unfold State.coexReqOut; exact (.ite h0' (.ite (by split; (· exact (State.setRport_off (sb hm (by decide)) (State.wr_off (State.reach_off (sb hm (by decide)) h0' ..) (has_COEX_STAT_REQ_OUT (tb hm (by decide))) ..) ..)); (· exact h0')) (.ite h0' (by extract_lets -merge s0 x2 s3; (try clear_value x2); have h1 : Off m a s0 := (by unfold s0; exact (State.wr_off h0' (has_COEX_STAT_REQ_OUT (tb hm (by decide))) ..)); (try clear_value s0); have h5 : Off m a s3 := (by unfold s3; exact (State.cond_off h1 (fun _ h4 => (State.satInc_off h4 (has_COEX_DENY_CNT (tb hm (by decide))) ..)) ..)); (try clear_value s3); (try clear_value s0 s3); exact (.ite (State.int_off (sb hm (by decide)) (State.setRport_off (sb hm (by decide)) h5 ..) ..) (State.setRport_off (sb hm (by decide)) h5 ..))))))
def F.State.coexReqRise : Nat := 0x200000000000000000000000000000000000000000000000000000000000000000000000000000000000000000000000000000000000000000000000200000000000000022100
theorem State.coexReqRise_off {m a} (hm : F.State.coexReqRise &&& m = F.State.coexReqRise) (h0' : Off m a s0') (a1') : Off m a (State.coexReqRise s0' a1') := by
  unfold State.coexReqRise; exact (by extract_lets -merge x0 s1 x3; (try clear_value x0 x3); have h2 : Off m a s1 := (by unfold s1; exact (.upd h0' (h_pins := .inr (tb hm (by decide))))); (try clear_value s1); (try clear_value s1); exact (by split; (· exact (State.coexGrant_off (sb hm (by decide)) h2 ..)); (· exact (.ite (State.coexGrant_off (sb hm (by decide)) h2 ..) (State.wr_off h2 (has_COEX_STAT_PENDING (tb hm (by decide))) ..))); (· exact (State.satInc_off h2 (has_COEX_DENY_CNT (tb hm (by decide))) ..))))
def F.State.convCalDone : Nat := 0xc00000000000000000000000000000000000000000000000000000000000000000000000000000000000000000000000000000180000000000000c00280000803000000032800
theorem State.convCalDone_off {m a} (hm : F.State.convCalDone &&& m = F.State.convCalDone) (h0' : Off m a s0') (a1') (a2') : Off m a (State.convCalDone s0' a1' a2') := by
  unfold State.convCalDone; exact (.ite h0' (by extract_lets -merge x0 x1 s2; (try clear_value x0 x1); have h3 : Off m a s2 := (by unfold s2; exact (State.setSyn_off (sb hm (by decide)) (State.cvCalEnd_off (sb hm (by decide)) h0' ..) ..)); (try clear_value s2); (try clear_value s2); exact (.ite (State.portEval_off (sb hm (by decide)) h3 ..) (State.cond_off h3 (fun _ h4 => (State.cmdDone_off (sb hm (by decide)) h4 ..)) ..))))
def F.State.noiseRise : Nat := 0xc000000000000000000000000000000000000000000000000000000000000000000000000000000000000000000000000000000000000000000000000000000000000000007fffffff00004500f800
theorem State.noiseRise_off {m a} (hm : F.State.noiseRise &&& m = F.State.noiseRise) (h0' : Off m a s0') (a1') (a2') : Off m a (State.noiseRise s0' a1' a2') := by
  unfold State.noiseRise; exact (by extract_lets -merge x0 x1 x2 x3 x4 s5 x7 x8 x9 s10; (try clear_value x0 x1 x2 x3 x4 x7 x8 x9); have h6 : Off m a s5 := (by unfold s5; exact (.upd h0' (h_prot := .inr (tb hm (by decide))))); (try clear_value s5); have h11 : Off m a s10 := (by unfold s10; exact (State.wr_off (State.wr_off h6 (has_PROT_LANE_NR_NC_AVG (tb hm (by decide))) ..) (has_PROT_LANE_NR_DN (tb hm (by decide))) ..)); (try clear_value s10); (try clear_value s5 s10); exact (.ite h6 (.ite (State.detect_off (sb hm (by decide)) h11 ..) h11)))
def F.State.frameBoundary : Nat := 0x60c000000000000000000000000000000000000000000000000000000000000000000000000000000000000000000000000000000000000000000000000000000000008000007fffffff0002451af840
theorem State.frameBoundary_off {m a} (hm : F.State.frameBoundary &&& m = F.State.frameBoundary) (h0' : Off m a s0') : Off m a (State.frameBoundary s0') := by
  unfold State.frameBoundary; exact (by extract_lets -merge s0 s2 x9 s10; (try clear_value x9); have h1 : Off m a s0 := (by unfold s0; exact (State.mark_off (sb hm (by decide)) (.ite h0' (State.reach_off (sb hm (by decide)) h0' ..)) ..)); (try clear_value s0); have h8 : Off m a s2 := (by unfold s2; exact (.foldl h1 (fun _ h3 _ => (by split; rename_i x7 s6 e4; have h5 : Off m a s6 := .snd e4 (State.frameNc_off (sb hm (by decide)) h3 ..); exact (by split; (· exact (State.noiseRise_off (sb hm (by decide)) h5 ..)); (· exact h5)))) _)); (try clear_value s2); have h11 : Off m a s10 := (by unfold s10; exact (.upd h8 (h_cur := .inr (tb hm (by decide))))); (try clear_value s10); (try clear_value s0 s2 s10); exact (.foldl h11 (fun _ h12 _ => (by extract_lets -merge x13; (try clear_value x13); exact (State.presUpdate_off (sb hm (by decide)) (.upd h12 (h_prot := .inr (tb hm (by decide)))) ..))) _))
def F.State.lineMismatch : Nat := 0x3000000020800
theorem State.lineMismatch_off {m a} (hm : F.State.lineMismatch &&& m = F.State.lineMismatch) (h0' : Off m a s0') (a1') (a2') : Off m a (State.lineMismatch s0' a1' a2') := by
  unfold State.lineMismatch; exact (by extract_lets -merge s0; have h1 : Off m a s0 := (by unfold s0; exact (State.setRport_off (sb hm (by decide)) h0' ..)); (try clear_value s0); (try clear_value s0); exact (State.raise_off (sb hm (by decide)) (State.stand_off (sb hm (by decide)) h1 ..) ..))
def F.State.linesGood : Nat := 0x20800
theorem State.linesGood_off {m a} (hm : F.State.linesGood &&& m = F.State.linesGood) (h0' : Off m a s0') (a1') : Off m a (State.linesGood s0' a1') := by
  unfold State.linesGood; exact (State.unstand_off (sb hm (by decide)) (State.setRport_off (sb hm (by decide)) h0' ..) ..)
def F.State.txTimeout : Nat := 0x80000000000000000000000000000000000000000000000000000000000000000000000000000000000000000000000000000000000000000000000000007fffffff00004500b800
theorem State.txTimeout_off {m a} (hm : F.State.txTimeout &&& m = F.State.txTimeout) (h0' : Off m a s0') (a1') (a2') : Off m a (State.txTimeout s0' a1' a2') := by
  unfold State.txTimeout; exact (State.detect_off (sb hm (by decide)) (State.satInc_off h0' (has_RFC_PORT_TXTO_CNT (tb hm (by decide))) ..) ..)
def F.State.lossTimeout : Nat := 0x80000000000000000000000000000000000000000000000000000000000000000000000000000000000000000000000000000000000000000000000000007fffffff00004512b840
theorem State.lossTimeout_off {m a} (hm : F.State.lossTimeout &&& m = F.State.lossTimeout) (h0' : Off m a s0') (a1') : Off m a (State.lossTimeout s0' a1') := by
  unfold State.lossTimeout; exact (by split; (· exact h0'); (· exact (.ite h0' (by extract_lets -merge s0; have h1 : Off m a s0 := (by unfold s0; exact (State.reach_off (sb hm (by decide)) h0' ..)); (try clear_value s0); (try clear_value s0); exact (State.txTimeout_off (sb hm (by decide)) (State.stand_off (sb hm (by decide)) (State.setRport_off (sb hm (by decide)) h1 ..) ..) ..)))))
def F.State.paSettled : Nat := 0xc00080000001000000122840
theorem State.paSettled_off {m a} (hm : F.State.paSettled &&& m = F.State.paSettled) (h0' : Off m a s0') (a1') : Off m a (State.paSettled s0' a1') := by
  unfold State.paSettled; exact (by split; (· exact h0'); (· exact (by extract_lets -merge s0 s2; have h1 : Off m a s0 := (by unfold s0; exact (State.setRport_off (sb hm (by decide)) (State.reach_off (sb hm (by decide)) h0' ..) ..)); (try clear_value s0); have h4 : Off m a s2 := (by unfold s2; exact (State.cond_off h1 (fun _ h3 => (State.setPortState_off (sb hm (by decide)) h3 ..)) ..)); (try clear_value s2); (try clear_value s0 s2); exact (State.lossEval_off (sb hm (by decide)) (State.cmdCheck_off (sb hm (by decide)) h4 ..) ..))))
def F.State.portUseEnd : Nat := 0x280000800000000122040
theorem State.portUseEnd_off {m a} (hm : F.State.portUseEnd &&& m = F.State.portUseEnd) (h0' : Off m a s0') (a1') (a2') : Off m a (State.portUseEnd s0' a1' a2') := by
  unfold State.portUseEnd; exact (.ite h0' (by split; (· exact h0'); (· exact (by extract_lets -merge s0 x2 s3 x5 s6; (try clear_value x2 x5); have h1 : Off m a s0 := (by unfold s0; exact (State.reach_off (sb hm (by decide)) h0' ..)); (try clear_value s0); have h4 : Off m a s3 := (by unfold s3; exact (State.setRport_off (sb hm (by decide)) h1 ..)); (try clear_value s3); have h7 : Off m a s6 := (by unfold s6; exact (.ite (.ite (State.turnStart_off (sb hm (by decide)) (State.setRport_off (sb hm (by decide)) h4 ..) ..) h4) (by split; (· exact (.ite (State.turnStart_off (sb hm (by decide)) h4 ..) h4)); (· exact h4)))); (try clear_value s6); (try clear_value s0 s3 s6); exact (State.coexRelease_off (sb hm (by decide)) (State.coexTry_off (sb hm (by decide)) h7 ..) ..)))))
def F.State.portUseStart : Nat := 0x200000000000000000000000000000000000000000000000000000000000000000000000000000000000000000000000000000000000000000000000000000801000000122040
theorem State.portUseStart_off {m a} (hm : F.State.portUseStart &&& m = F.State.portUseStart) (h0' : Off m a s0') (a1') : Off m a (State.portUseStart s0' a1') := by
  unfold State.portUseStart; exact (.ite h0' (by split; (· exact h0'); (· exact (by extract_lets -merge s0 x2 s3 s5 s7; (try clear_value x2); have h1 : Off m a s0 := (by unfold s0; exact (State.reach_off (sb hm (by decide)) h0' ..)); (try clear_value s0); have h4 : Off m a s3 := (by unfold s3; exact (State.setRport_off (sb hm (by decide)) h1 ..)); (try clear_value s3); have h6 : Off m a s5 := (by unfold s5; exact (State.coexRelease_off (sb hm (by decide)) h4 ..)); (try clear_value s5); have h8 : Off m a s7 := (by unfold s7; exact (State.satInc_off h6 (has_COEX_DENY_CNT (tb hm (by decide))) ..)); (try clear_value s7); (try clear_value s0 s3 s5 s7); exact (.ite h6 (.ite (State.suspendLifts_off (sb hm (by decide)) (State.int_off (sb hm (by decide)) (State.setRport_off (sb hm (by decide)) h8 ..) ..) ..) h8))))))
def F.State.synFailed : Nat := 0x30000000000000c00000000001000000000000
theorem State.synFailed_off {m a} (hm : F.State.synFailed &&& m = F.State.synFailed) (h0' : Off m a s0') (a1') : Off m a (State.synFailed s0' a1') := by
  unfold State.synFailed; exact (by extract_lets -merge s0; have h1 : Off m a s0 := (by unfold s0; exact (State.setSynState_off (sb hm (by decide)) h0' ..)); (try clear_value s0); (try clear_value s0); exact (.foldl h1 (fun _ h2 _ => (by extract_lets -merge x3; (try clear_value x3); exact (.ite (State.cmdDone_off (sb hm (by decide)) h2 ..) h2))) _))
def F.State.synRetry : Nat := 0x1e01b0003ef3ffffffffffffffffff000045bff841
theorem State.synRetry_off {m a} (hm : F.State.synRetry &&& m = F.State.synRetry) (h0' : Off m a s0') (a1') : Off m a (State.synRetry s0' a1') := by
  unfold State.synRetry; exact (by extract_lets -merge x0 s1 x4 s5; (try clear_value x0 x4); have h3 : Off m a s1 := (by unfold s1; exact (.foldl h0' (fun _ h2 _ => (State.laneDisable_off (sb hm (by decide)) h2 ..)) _)); (try clear_value s1); have h7 : Off m a s5 := (by unfold s5; exact (.foldl h3 (fun _ h6 _ => (.ite h6 (State.holdSyn_off (sb hm (by decide)) h6 ..))) _)); (try clear_value s5); (try clear_value s1 s5); exact (.ite (State.suspendLifts_off (sb hm (by decide)) (State.synFailed_off (sb hm (by decide)) (State.setSynErr_off (sb hm (by decide)) h7 ..) ..) ..) (State.synStart_off (sb hm (by decide)) (State.setSyn_off (sb hm (by decide)) h3 ..) ..)))
def F.State.refBack : Nat := 0x400000000000000000000000000000000000000000000000000000000000000000000000000000000000000000000000001e01b0003ef3ffffffffffffffffff000045bff841
theorem State.refBack_off {m a} (hm : F.State.refBack &&& m = F.State.refBack) (h0' : Off m a s0') : Off m a (State.refBack s0') := by
  unfold State.refBack; exact (.ite h0' (by extract_lets -merge s0; have h1 : Off m a s0 := (by unfold s0; exact (State.wr_off (State.unstand_off (sb hm (by decide)) (State.setTime_off (sb hm (by decide)) h0' ..) ..) (has_TIME_STAT_DEGRADED (tb hm (by decide))) ..)); (try clear_value s0); (try clear_value s0); exact (.foldl h1 (fun _ h2 _ => (.ite h2 (State.synRetry_off (sb hm (by decide)) h2 ..))) _)))
def F.State.refFail : Nat := 0x40000000000000000000000000000000000000000000000000000000000000000000000000000000000000000000000000000000000000000000007d7fffffff00004510b800
theorem State.refFail_off {m a} (hm : F.State.refFail &&& m = F.State.refFail) (h0' : Off m a s0') : Off m a (State.refFail s0') := by
  unfold State.refFail; exact (State.refInFail_off (sb hm (by decide)) h0' ..)
def F.State.restartLanes : Nat := 0x668c0800c000011ba20d03ffd7fffffff000045bab800
theorem State.restartLanes_off {m a} (hm : F.State.restartLanes &&& m = F.State.restartLanes) (h0' : Off m a s0') : Off m a (State.restartLanes s0') := by
  unfold State.restartLanes; exact (.foldl h0' (fun _ h0 _ => (.ite (by extract_lets -merge s1; have h2 : Off m a s1 := (by unfold s1; exact (State.laneEnable_off (sb hm (by decide)) (State.setLane_off (sb hm (by decide)) h0 ..) ..)); (try clear_value s1); (try clear_value s1); exact (State.cond_off h2 (fun _ h3 => (State.detLaneOff_off (sb hm (by decide)) h3 ..)) ..)) h0)) _)
def F.State.restartDone : Nat := 0x20000000000000000000000000000000000000000000000000000000000000000000000000000000000000000000000668c0800c000011ba20d03ffd7fffffff000055bab800
theorem State.restartDone_off {m a} (hm : F.State.restartDone &&& m = F.State.restartDone) (h0' : Off m a s0') : Off m a (State.restartDone s0') := by
  unfold State.restartDone; exact (.ite (by extract_lets -merge s0 s2; have h1 : Off m a s0 := (by unfold s0; exact (State.wr_off (State.setThm_off (sb hm (by decide)) h0' ..) (has_THM_STAT_SHUT (tb hm (by decide))) ..)); (try clear_value s0); have h3 : Off m a s2 := (by unfold s2; exact (State.unstand_off (sb hm (by decide)) (State.int_off (sb hm (by decide)) (State.clearCauses_off (sb hm (by decide)) h1 ..) ..) ..)); (try clear_value s2); (try clear_value s0 s2); exact (State.restartLanes_off (sb hm (by decide)) (State.unstand_off (sb hm (by decide)) h3 ..) ..)) h0')
def F.State.synFail : Nat := 0x1e01b0000000000000c00280000803000000032800
theorem State.synFail_off {m a} (hm : F.State.synFail &&& m = F.State.synFail) (h0' : Off m a s0') (a1') (a2') : Off m a (State.synFail s0' a1' a2') := by
  unfold State.synFail; exact (by extract_lets -merge s0 s2; have h1 : Off m a s0 := (by unfold s0; exact (State.raiseInt_off (sb hm (by decide)) (State.setSynErr_off (sb hm (by decide)) h0' ..) ..)); (try clear_value s0); have h3 : Off m a s2 := (by unfold s2; exact (State.stand_off (sb hm (by decide)) h1 ..)); (try clear_value s2); (try clear_value s0 s2); exact (.ite (State.synFailed_off (sb hm (by decide)) h3 ..) (State.synStart_off (sb hm (by decide)) (State.setSyn_off (sb hm (by decide)) h3 ..) ..)))
def F.State.synCalDone : Nat := 0x1e01b0000000000000c00280000803000000032800
theorem State.synCalDone_off {m a} (hm : F.State.synCalDone &&& m = F.State.synCalDone) (h0' : Off m a s0') (a1') (a2') : Off m a (State.synCalDone s0' a1' a2') := by
  unfold State.synCalDone; exact (.ite h0' (.ite (State.setSynState_off (sb hm (by decide)) h0' ..) (State.synFail_off (sb hm (by decide)) h0' ..)))
def F.State.synLock : Nat := 0x1e01b0000000000000c00280000803000000032800
theorem State.synLock_off {m a} (hm : F.State.synLock &&& m = F.State.synLock) (h0' : Off m a s0') (a1') (a2') : Off m a (State.synLock s0' a1' a2') := by
  unfold State.synLock; exact (.ite h0' (.ite (State.synFail_off (sb hm (by decide)) h0' ..) (by extract_lets -merge s0; have h1 : Off m a s0 := (by unfold s0; exact (State.setSyn_off (sb hm (by decide)) (State.setSynState_off (sb hm (by decide)) h0' ..) ..)); (try clear_value s0); (try clear_value s0); exact (.foldl h1 (fun _ h2 _ => (State.setCv_off (sb hm (by decide)) h2 ..)) _))))
def F.State.synLost : Nat := 0xc00000000000000000000000000000000000000000000000000000000000000000000000000000000000000000000000000000000000000000000000000000000000000001e01b0003ef3ffffffffffffffffff000045bff841
theorem State.synLost_off {m a} (hm : F.State.synLost &&& m = F.State.synLost) (h0' : Off m a s0') (a1') : Off m a (State.synLost s0' a1') := by
  unfold State.synLost; exact (.ite h0' (by extract_lets -merge s0; have h1 : Off m a s0 := (by unfold s0; exact (State.raiseInt_off (sb hm (by decide)) (State.satInc_off h0' (.ite (has_SYN_LOL_CNT_A (tb hm (by decide))) (has_SYN_LOL_CNT_B (tb hm (by decide)))) ..) ..)); (try clear_value s0); (try clear_value s0); exact (State.synRetry_off (sb hm (by decide)) (State.stand_off (sb hm (by decide)) h1 ..) ..)))
def F.State.synReady : Nat := 0x20000000000000000000000000000000000000000000000000000000000000000000000000000000000000000000000668c0803c000011ba20d0ffffffffffff000055bbb840
theorem State.synReady_off {m a} (hm : F.State.synReady &&& m = F.State.synReady) (h0' : Off m a s0') (a1') : Off m a (State.synReady s0' a1') := by
  unfold State.synReady; exact (.ite h0' (by extract_lets -merge s0 s2 s4; have h1 : Off m a s0 := (by unfold s0; exact (State.reach_off (sb hm (by decide)) h0' ..)); (try clear_value s0); have h3 : Off m a s2 := (by unfold s2; exact (State.unstand_off (sb hm (by decide)) (State.int_off (sb hm (by decide)) (State.setSyn_off (sb hm (by decide)) (State.setSynState_off (sb hm (by decide)) h1 ..) ..) ..) ..)); (try clear_value s2); have h6 : Off m a s4 := (by unfold s4; exact (.foldl h3 (fun _ h5 _ => (State.holdSyn_off (sb hm (by decide)) h5 ..)) _)); (try clear_value s4); (try clear_value s0 s2 s4); exact (State.portsEval_off (sb hm (by decide)) (State.restartDone_off (sb hm (by decide)) h6 ..) ..)))
def F.State.tddTimeout : Nat := 0x80000000000000000000000000000000000000000000000000000000000000000000000000000000000000000000000000000000000000000000000000007fffffff00004512b840
theorem State.tddTimeout_off {m a} (hm : F.State.tddTimeout &&& m = F.State.tddTimeout) (h0' : Off m a s0') (a1') : Off m a (State.tddTimeout s0' a1') := by
  unfold State.tddTimeout; exact (by split; (· exact h0'); (· exact (by extract_lets -merge s0; have h1 : Off m a s0 := (by unfold s0; exact (State.setRport_off (sb hm (by decide)) (State.reach_off (sb hm (by decide)) h0' ..) ..)); (try clear_value s0); (try clear_value s0); exact (.ite (State.txTimeout_off (sb hm (by decide)) h1 ..) h1))))
def F.State.turnDone : Nat := 0xc00280000801000000132840
theorem State.turnDone_off {m a} (hm : F.State.turnDone &&& m = F.State.turnDone) (h0' : Off m a s0') (a1') : Off m a (State.turnDone s0' a1') := by
  unfold State.turnDone; exact (by split; (· exact h0'); (· exact (by extract_lets -merge s0 s2 s4; have h1 : Off m a s0 := (by unfold s0; exact (State.reach_off (sb hm (by decide)) h0' ..)); (try clear_value s0); have h3 : Off m a s2 := (by unfold s2; exact (State.setRport_off (sb hm (by decide)) h1 ..)); (try clear_value s2); have h6 : Off m a s4 := (by unfold s4; exact (State.cond_off h3 (fun _ h5 => (State.setPortState_off (sb hm (by decide)) h5 ..)) ..)); (try clear_value s4); (try clear_value s0 s2 s4); exact (State.portEval_off (sb hm (by decide)) h6 ..))))
def F.State.turnEvent : Nat := 0x800000000120040
theorem State.turnEvent_off {m a} (hm : F.State.turnEvent &&& m = F.State.turnEvent) (h0' : Off m a s0') (a1') : Off m a (State.turnEvent s0' a1') := by
  unfold State.turnEvent; exact (by split; (· exact h0'); (· exact (by extract_lets -merge x0 s1; (try clear_value x0); have h2 : Off m a s1 := (by unfold s1; exact (State.reach_off (sb hm (by decide)) h0' ..)); (try clear_value s1); (try clear_value s1); exact (.ite h0' (State.coexRelease_off (sb hm (by decide)) (State.setRport_off (sb hm (by decide)) h2 ..) ..)))))

end Sys2Proof.Machine
end

