-- ==== Sys2Proof/Laws/OffSys.lean ====
section
/-! SUPPORT. What the operations of Machine/Sys.lean reach: the pieces of the state and the register fields whose
numbers are set in the mask of each (`F`). -/
namespace Sys2Proof.Machine
open Sys2Proof
set_option Elab.async false

def F.State.defer : Nat := 0x200
theorem State.defer_off {m a} (hm : F.State.defer &&& m = F.State.defer) (h0' : Off m a s0') (a1') : Off m a (State.defer s0' a1') := by
  unfold State.defer; exact (State.setSys_off (sb hm (by decide)) h0' ..)
def F.State.rejectCmd : Nat := 0x800000000000000000000000000000000000000000001000000000000
theorem State.rejectCmd_off {m a} (hm : F.State.rejectCmd &&& m = F.State.rejectCmd) (h0' : Off m a s0') : Off m a (State.rejectCmd s0') := by
  unfold State.rejectCmd; exact (State.int_off (sb hm (by decide)) (State.satInc_off h0' (has_SYS_REJ_CNT (tb hm (by decide))) ..) ..)
def F.State.stateCurtain : Nat := 0x7fffffff00004500b800
theorem State.stateCurtain_off {m a} (hm : F.State.stateCurtain &&& m = F.State.stateCurtain) (h0' : Off m a s0') : Off m a (State.stateCurtain s0') := by
  unfold State.stateCurtain; exact (State.request_off (sb hm (by decide)) h0' ..)
def F.State.setDevState : Nat := 0x40000000000000c00288000801000040032800
theorem State.setDevState_off {m a} (hm : F.State.setDevState &&& m = F.State.setDevState) (h0' : Off m a s0') (a1') : Off m a (State.setDevState s0' a1') := by
  unfold State.setDevState; exact (State.portsEval_off (sb hm (by decide)) (State.alert_off (sb hm (by decide)) (State.int_off (sb hm (by decide)) (State.wr_off h0' (has_SYS_STATE_DEV_STATE (tb hm (by decide))) ..) ..) ..) ..)
def F.State.toRehearsal : Nat := 0x4040000000000000c002ffffffff00004503b800
theorem State.toRehearsal_off {m a} (hm : F.State.toRehearsal &&& m = F.State.toRehearsal) (h0' : Off m a s0') : Off m a (State.toRehearsal s0') := by
  unfold State.toRehearsal; exact (by extract_lets -merge s0; have h1 : Off m a s0 := (by unfold s0; exact (State.wr_off h0' (has_SYS_STATE_IN_TRANSITION (tb hm (by decide))) ..)); (try clear_value s0); (try clear_value s0); exact (.ite h1 (State.setDevState_off (sb hm (by decide)) (State.cond_off h1 (fun _ h2 => (State.stateCurtain_off (sb hm (by decide)) h2 ..)) ..) ..)))
def F.State.cancelCmd : Nat := 0x1000000000000000000000001000000000000
theorem State.cancelCmd_off {m a} (hm : F.State.cancelCmd &&& m = F.State.cancelCmd) (h0' : Off m a s0') : Off m a (State.cancelCmd s0') := by
  unfold State.cancelCmd; exact (.ite h0' (State.int_off (sb hm (by decide)) (State.wr_off h0' (has_SYS_STATE_PENDING (tb hm (by decide))) ..) ..))
def F.State.enterPerformance : Nat := 0x13a4100000c00000fc0029fff680100004007a800
theorem State.enterPerformance_off {m a} (hm : F.State.enterPerformance &&& m = F.State.enterPerformance) (h0' : Off m a s0') : Off m a (State.enterPerformance s0') := by
  unfold State.enterPerformance; exact (by extract_lets -merge x0 x1 s2 s4 s6; (try clear_value x0 x1); have h3 : Off m a s2 := (by unfold s2; exact (State.outRestart_off (sb hm (by decide)) (State.setDevState_off (sb hm (by decide)) (State.wr_off h0' (has_SYS_STATE_PENDING (tb hm (by decide))) ..) ..) ..)); (try clear_value s2); have h5 : Off m a s4 := (by unfold s4; exact (.ite h3 (State.setCnx_off (sb hm (by decide)) (State.firstCeil_off (sb hm (by decide)) h3 ..) ..))); (try clear_value s4); have h9 : Off m a s6 := (by unfold s6; exact (State.cond_off h5 (fun _ h7 => (.foldl h7 (fun _ h8 _ => (State.startCap_off (sb hm (by decide)) h8 ..)) _)) ..)); (try clear_value s6); (try clear_value s2 s4 s6); exact (.ite h0' (State.clearCauses_off (sb hm (by decide)) h9 ..)))
def F.State.evalCmd : Nat := 0x800000000000000017a4100000c00000fc002ffffffff00004507ba00
theorem State.evalCmd_off {m a} (hm : F.State.evalCmd &&& m = F.State.evalCmd) (h0' : Off m a s0') (a1') : Off m a (State.evalCmd s0' a1') := by
  unfold State.evalCmd; exact (.ite (State.rejectCmd_off (sb hm (by decide)) h0' ..) (.ite (by extract_lets -merge s0; have h1 : Off m a s0 := (by unfold s0; exact (State.cancelCmd_off (sb hm (by decide)) (State.setSys_off (sb hm (by decide)) h0' ..) ..)); (try clear_value s0); (try clear_value s0); exact (.ite h1 (State.toRehearsal_off (sb hm (by decide)) h1 ..))) (.ite (State.enterPerformance_off (sb hm (by decide)) (State.wr_off (State.setSys_off (sb hm (by decide)) h0' ..) (has_SYS_STATE_PENDING (tb hm (by decide))) ..) ..) (.ite (State.enterPerformance_off (sb hm (by decide)) (State.wr_off h0' (has_SYS_STATE_PENDING (tb hm (by decide))) ..) ..) (.ite (State.stateCurtain_off (sb hm (by decide)) (State.wr_off h0' (has_SYS_STATE_IN_TRANSITION (tb hm (by decide))) ..) ..) (State.rejectCmd_off (sb hm (by decide)) h0' ..))))))
def F.State.sysCmd : Nat := 0x800000000000000017a4100000c00000fc002ffffffff00004507ba00
theorem State.sysCmd_off {m a} (hm : F.State.sysCmd &&& m = F.State.sysCmd) (h0' : Off m a s0') (a1') : Off m a (State.sysCmd s0' a1') := by
  unfold State.sysCmd; exact (.ite h0' (.ite (State.defer_off (sb hm (by decide)) h0' ..) (State.evalCmd_off (sb hm (by decide)) h0' ..)))
def F.State.byHost : Nat := 0x200
theorem State.byHost_off {m a} (hm : F.State.byHost &&& m = F.State.byHost) (h0' : Off m a s0') (h1' : ∀ y0, Off m a y0 → Off m a (f1' y0)) (a1') (a2') : Off m a (State.byHost s0' a1' a2' f1') := by
  unfold State.byHost; exact (.ite (h1' _ h0') (State.defer_off (sb hm (by decide)) h0' ..))
def F.State.pauseDone : Nat := 0x4040000000000000c00288000801000040032800
theorem State.pauseDone_off {m a} (hm : F.State.pauseDone &&& m = F.State.pauseDone) (h0' : Off m a s0') : Off m a (State.pauseDone s0') := by
  unfold State.pauseDone; exact (.ite (State.setDevState_off (sb hm (by decide)) (State.wr_off h0' (has_SYS_STATE_IN_TRANSITION (tb hm (by decide))) ..) ..) h0')
def F.State.stateParity : Nat := 0x4041000000000000c002ffffffff00004503b800
theorem State.stateParity_off {m a} (hm : F.State.stateParity &&& m = F.State.stateParity) (h0' : Off m a s0') : Off m a (State.stateParity s0') := by
  unfold State.stateParity; exact (State.raise_off (sb hm (by decide)) (State.toRehearsal_off (sb hm (by decide)) (State.cancelCmd_off (sb hm (by decide)) h0' ..) ..) ..)

end Sys2Proof.Machine
end

