-- ==== Sys2Proof/Laws/OffStm.lean ====
section
/-! SUPPORT. What the operations of Machine/Stm.lean reach: the pieces of the state and the register fields whose
numbers are set in the mask of each (`F`). -/
namespace Sys2Proof.Machine
open Sys2Proof
set_option Elab.async false

def F.State.capAbandon : Nat := 0x9000000001000000
theorem State.capAbandon_off {m a} (hm : F.State.capAbandon &&& m = F.State.capAbandon) (h0' : Off m a s0') : Off m a (State.capAbandon s0') := by
  unfold State.capAbandon; exact (by extract_lets -merge x0; (try clear_value x0); exact (.ite (State.setStm_off (sb hm (by decide)) (State.wr_off (State.satInc_off h0' (has_STM_SNAP_MISS (tb hm (by decide))) ..) (has_STM_CAP_STAT (tb hm (by decide))) ..) ..) h0'))
def F.State.writeCapCfg : Nat := 0x3f0000000000000000000000000000000000000000000000000000000000000000000000000000001002000001000000
theorem State.writeCapCfg_off {m a} (hm : F.State.writeCapCfg &&& m = F.State.writeCapCfg) (h0' : Off m a s0') (a1') : Off m a (State.writeCapCfg s0' a1') := by
  unfold State.writeCapCfg; exact (by extract_lets -merge x0 x1 x2 x3 x4 x5 s6; (try clear_value x0 x1 x2 x3 x4 x5); have h7 : Off m a s6 := (by unfold s6; exact (State.wr_off (State.wrWord_off h0' (.cons (has_STM_CAP_CFG_POINT (tb hm (by decide))) (.cons (has_STM_CAP_CFG_PRE (tb hm (by decide))) (.cons (has_STM_CAP_CFG_TRIG (tb hm (by decide))) (.cons (has_STM_CAP_CFG_SEV_MIN (tb hm (by decide))) (.cons (has_STM_CAP_CFG_HOLDOFF (tb hm (by decide))) .nil))))) ..) (has_STM_CAP_CFG_ARM (tb hm (by decide))) ..)); (try clear_value s6); (try clear_value s6); exact (.ite (State.refuse_off (sb hm (by decide)) h0' ..) (.ite (State.refuse_off (sb hm (by decide)) h0' ..) (.ite (State.setStm_off (sb hm (by decide)) (State.wr_off h7 (has_STM_CAP_STAT (tb hm (by decide))) ..) ..) (.ite (State.wr_off h7 (has_STM_CAP_STAT (tb hm (by decide))) ..) h7)))))
def F.State.formatStart : Nat := 0x13000000000000000000000000000002000001000000
theorem State.formatStart_off {m a} (hm : F.State.formatStart &&& m = F.State.formatStart) (h0' : Off m a s0') (a1') : Off m a (State.formatStart s0' a1') := by
  unfold State.formatStart; exact (.ite h0' (by split; (· exact (State.refuse_off (sb hm (by decide)) (State.wr_off h0' (has_STM_FMT_STAT_ERR (tb hm (by decide))) ..) ..)); (· exact (State.setStm_off (sb hm (by decide)) (State.wr_off (State.wr_off (State.wr_off h0' (has_STM_FMT_STAT_ERR (tb hm (by decide))) ..) (has_STM_FMT_STAT_BUSY (tb hm (by decide))) ..) (has_STM_FMT_STAT_DONE (tb hm (by decide))) ..) ..))))
def F.State.formatGo : Nat := 0x13000000000000000000000000000002000001000000
theorem State.formatGo_off {m a} (hm : F.State.formatGo &&& m = F.State.formatGo) (h0' : Off m a s0') (a1') : Off m a (State.formatGo s0' a1') := by
  unfold State.formatGo; exact (.ite (State.setStm_off (sb hm (by decide)) h0' ..) (State.formatStart_off (sb hm (by decide)) h0' ..))
def F.State.writeFmtCtl : Nat := 0x13000000000000000000000000000002000001000000
theorem State.writeFmtCtl_off {m a} (hm : F.State.writeFmtCtl &&& m = F.State.writeFmtCtl) (h0' : Off m a s0') (a1') (a2') : Off m a (State.writeFmtCtl s0' a1' a2') := by
  unfold State.writeFmtCtl; exact (by extract_lets -merge s0; have h2 : Off m a s0 := (by unfold s0; exact (State.cond_off h0' (fun _ h1 => (State.formatGo_off (sb hm (by decide)) h1 ..)) ..)); (try clear_value s0); (try clear_value s0); exact (State.cond_off h2 (fun _ h3 => (State.formatStart_off (sb hm (by decide)) h3 ..)) ..))
def F.State.writeStmLimits : Nat := 0x600000000000000000000000000000000000000000000000000000000000000000000000000000000000000000000000000002000000000000
theorem State.writeStmLimits_off {m a} (hm : F.State.writeStmLimits &&& m = F.State.writeStmLimits) (h0' : Off m a s0') (a1') : Off m a (State.writeStmLimits s0' a1') := by
  unfold State.writeStmLimits; exact (.ite (State.refuse_off (sb hm (by decide)) h0' ..) (State.wrWord_off h0' (.cons (has_STM_LIMITS_RD_LIM (tb hm (by decide))) (.cons (has_STM_LIMITS_WL_DELTA (tb hm (by decide))) .nil)) ..))
def F.State.writeCapCtl : Nat := 0x93ff000001001800
theorem State.writeCapCtl_off {m a} (hm : F.State.writeCapCtl &&& m = F.State.writeCapCtl) (h0' : Off m a s0') (a1') : Off m a (State.writeCapCtl s0' a1') := by
  unfold State.writeCapCtl; exact (State.cond_off h0' (fun _ h0 => (State.snapTrig_off (sb hm (by decide)) h0 ..)) ..)
def F.State.writeScrubCfg : Nat := 0x1800000000000000000000000000000000000000000000000000000000000000000000000000000000000000000000000000002000000000000
theorem State.writeScrubCfg_off {m a} (hm : F.State.writeScrubCfg &&& m = F.State.writeScrubCfg) (h0' : Off m a s0') (a1') : Off m a (State.writeScrubCfg s0' a1') := by
  unfold State.writeScrubCfg; exact (by extract_lets -merge x0 x1; (try clear_value x0 x1); exact (.ite (State.refuse_off (sb hm (by decide)) h0' ..) (State.wrWord_off h0' (.cons (has_STM_SCRUB_CFG_REFRESH (tb hm (by decide))) (.cons (has_STM_SCRUB_CFG_DAYS (tb hm (by decide))) .nil)) ..)))
def F.State.writeHistCfg : Nat := 0xc0000000000000000000000000000000000000000000000000000000000000000000000000000000000000000000000000002000000000000
theorem State.writeHistCfg_off {m a} (hm : F.State.writeHistCfg &&& m = F.State.writeHistCfg) (h0' : Off m a s0') (a1') : Off m a (State.writeHistCfg s0' a1') := by
  unfold State.writeHistCfg; exact (by extract_lets -merge x0; (try clear_value x0); exact (.ite (State.refuse_off (sb hm (by decide)) h0' ..) (State.wrWord_off h0' (.cons (has_STM_HIST_CFG_EN (tb hm (by decide))) (.cons (has_STM_HIST_CFG_INTERVAL (tb hm (by decide))) .nil)) ..)))
def F.State.writeStmIf : Nat := 0x100000000000000000000000000000000000000000000000000000000000000000000000000000000000000000000000000002000000000000
theorem State.writeStmIf_off {m a} (hm : F.State.writeStmIf &&& m = F.State.writeStmIf) (h0' : Off m a s0') (a1') : Off m a (State.writeStmIf s0' a1') := by
  unfold State.writeStmIf; exact (by extract_lets -merge x0; (try clear_value x0); exact (.ite (State.refuse_off (sb hm (by decide)) h0' ..) (State.wr_off h0' (has_STM_IF_MAX_MTS (tb hm (by decide))) ..)))
def F.State.erased : Nat := 0xf0000000000000000000000000000000000000000000000000000000000000000000000000000000000000000000000000000000000000000000003000001000800
theorem State.erased_off {m a} (hm : F.State.erased &&& m = F.State.erased) (h0' : Off m a s0') (a1') (a2') (a3') : Off m a (State.erased s0' a1' a2' a3') := by
  unfold State.erased; exact (by extract_lets -merge s0 s2 s4 x6; (try clear_value x6); have h1 : Off m a s0 := (by unfold s0; exact (State.setStm_off (sb hm (by decide)) h0' ..)); (try clear_value s0); have h3 : Off m a s2 := (by unfold s2; exact (.ite (State.wr_off (State.wr_off h1 (has_STM_WEAR_S_MAX (tb hm (by decide))) ..) (has_STM_WEAR_S_MEAN (tb hm (by decide))) ..) (State.wr_off (State.wr_off h1 (has_STM_WEAR_N_MAX (tb hm (by decide))) ..) (has_STM_WEAR_N_MEAN (tb hm (by decide))) ..))); (try clear_value s2); have h5 : Off m a s4 := (by unfold s4; exact (State.setStm_off (sb hm (by decide)) h3 ..)); (try clear_value s4); (try clear_value s0 s2 s4); exact (.ite (State.stand_off (sb hm (by decide)) (State.raise_off (sb hm (by decide)) h5 ..) ..) h5))
def F.State.blockRefresh : Nat := 0x10f4000000000000000000000000000000000000000000000000000000000000000000000000000000000000000000000000000000000000000000003000001000800
theorem State.blockRefresh_off {m a} (hm : F.State.blockRefresh &&& m = F.State.blockRefresh) (h0' : Off m a s0') (a1') (a2') (a3') (a4') : Off m a (State.blockRefresh s0' a1' a2' a3' a4') := by
  unfold State.blockRefresh; exact (.ite h0' (by extract_lets -merge s0 s2; have h1 : Off m a s0 := (by unfold s0; exact (State.satInc_off h0' (has_STM_REFRESH_CNT (tb hm (by decide))) ..)); (try clear_value s0); have h3 : Off m a s2 := (by unfold s2; exact (by split; (· exact (State.satInc_off h1 (has_STM_RD_DIST_CNT (tb hm (by decide))) ..)); (· exact h1); (· exact h1); (· exact h1); (· exact h1))); (try clear_value s2); (try clear_value s0 s2); exact (State.erased_off (sb hm (by decide)) h3 ..)))
def F.State.setSpare : Nat := 0x18000000000000000000000000000000000000000000000000000000000000000000000000000000000000000000000000000000000000000000000000000000000003000000000800
theorem State.setSpare_off {m a} (hm : F.State.setSpare &&& m = F.State.setSpare) (h0' : Off m a s0') (a1') : Off m a (State.setSpare s0' a1') := by
  unfold State.setSpare; exact (by extract_lets -merge x0 x1 x2 s3; (try clear_value x0 x1 x2); have h4 : Off m a s3 := (by unfold s3; exact (State.wr_off (State.wr_off h0' (has_STM_SPARE (tb hm (by decide))) ..) (has_STM_STAT_SPARE_LOW (tb hm (by decide))) ..)); (try clear_value s3); (try clear_value s3); exact (.ite (State.stand_off (sb hm (by decide)) (State.raiseInt_off (sb hm (by decide)) h4 ..) ..) (.ite (State.unstand_off (sb hm (by decide)) h4 ..) h4)))
def F.State.setRings : Nat := 0x1fe0000000000000000000000000000000000000000000000000000000000000000000000000000000000000000000000000000000000000000000000000000000
theorem State.setRings_off {m a} (hm : F.State.setRings &&& m = F.State.setRings) (h0' : Off m a s0') : Off m a (State.setRings s0') := by
  unfold State.setRings; exact (by extract_lets -merge s0; have h1 : Off m a s0 := (by unfold s0; exact (by split; (· exact (State.wr_off (State.wr_off (State.wr_off (State.wr_off h0' (has_STM_HIST_HEAD (tb hm (by decide))) ..) (has_STM_HIST_HOFS (tb hm (by decide))) ..) (has_STM_HIST_TAIL (tb hm (by decide))) ..) (has_STM_HIST_TOFS (tb hm (by decide))) ..)); (· exact h0'))); (try clear_value s0); (try clear_value s0); exact (by split; (· exact (State.wr_off (State.wr_off (State.wr_off (State.wr_off h1 (has_STM_SNAP_HEAD (tb hm (by decide))) ..) (has_STM_SNAP_HOFS (tb hm (by decide))) ..) (has_STM_SNAP_TAIL (tb hm (by decide))) ..) (has_STM_SNAP_TOFS (tb hm (by decide))) ..)); (· exact h1)))
def F.State.shrink : Nat := 0xc000000001fe00000000000000000000000000000000000000000000000000000000000000000000000000000000000000000000000000000000000000003ff000001001800
theorem State.shrink_off {m a} (hm : F.State.shrink &&& m = F.State.shrink) (h0' : Off m a s0') : Off m a (State.shrink s0') := by
  unfold State.shrink; exact (by extract_lets -merge x0 x1 s2 x4 s5; (try clear_value x0 x1 x4); have h3 : Off m a s2 := (by unfold s2; exact (State.setStm_off (sb hm (by decide)) h0' ..)); (try clear_value s2); have h6 : Off m a s5 := (by unfold s5; exact (State.setStm_off (sb hm (by decide)) h0' ..)); (try clear_value s5); (try clear_value s2 s5); exact (.ite (State.journal_off (sb hm (by decide)) (State.setRings_off (sb hm (by decide)) (State.wr_off h3 (has_STM_PART_S (tb hm (by decide))) ..) ..) ..) (.ite (State.journal_off (sb hm (by decide)) (State.setRings_off (sb hm (by decide)) (State.wr_off h6 (has_STM_PART_H (tb hm (by decide))) ..) ..) ..) h0')))
def F.State.blockRetire : Nat := 0x800000000000000000000000000000001800000c000000001fe00000000000000000000000000000000000000000000000000000000000000000000000000000000000000000000000000000000000000003ff000001001800
theorem State.blockRetire_off {m a} (hm : F.State.blockRetire &&& m = F.State.blockRetire) (h0' : Off m a s0') (a1') (a2') (a3') (a4') (a5') (a6') (a7') : Off m a (State.blockRetire s0' a1' a2' a3' a4' a5' a6' a7') := by
  unfold State.blockRetire; exact (by extract_lets -merge s0 s2; have h1 : Off m a s0 := (by unfold s0; exact (State.journal_off (sb hm (by decide)) (State.satInc_off h0' (has_STM_RETIRED (tb hm (by decide))) ..) ..)); (try clear_value s0); have h3 : Off m a s2 := (by unfold s2; exact (State.setSpare_off (sb hm (by decide)) (State.raiseInt_off (sb hm (by decide)) h1 ..) ..)); (try clear_value s2); (try clear_value s0 s2); exact (State.cond_off h3 (fun _ h4 => (State.shrink_off (sb hm (by decide)) h4 ..)) ..))
def F.State.capWord : Nat := 0x10
theorem State.capWord_off {m a} (hm : F.State.capWord &&& m = F.State.capWord) (h0' : Off m a s0') (a1') (a2') (a3') (a4') : Off m a (State.capWord s0' a1' a2' a3' a4') := by
  unfold State.capWord; exact (by extract_lets -merge x0 x1 x2 x3; (try clear_value x0 x1 x2 x3); exact (by split; (· exact h0'); (· exact (.ite (by extract_lets -merge x4; (try clear_value x4); exact (State.stIn_off (State.stIn_off h0' (tb hm (by decide)) ..) (tb hm (by decide)) ..)) h0'))))
def F.State.ceBusy : Nat := 0x80000000000000000000000000000000000000000000000000000000000000000000000000000000000000000000000000000000000000000000000000000000000000003000000000800
theorem State.ceBusy_off {m a} (hm : F.State.ceBusy &&& m = F.State.ceBusy) (h0' : Off m a s0') : Off m a (State.ceBusy s0') := by
  unfold State.ceBusy; exact (by extract_lets -merge s0; have h1 : Off m a s0 := (by unfold s0; exact (State.stand_off (sb hm (by decide)) (State.raise_off (sb hm (by decide)) h0' ..) ..)); (try clear_value s0); (try clear_value s0); exact (State.cond_off h1 (fun _ h2 => (State.wr_off h2 (has_STM_STAT_SINGLE (tb hm (by decide))) ..)) ..))
def F.State.clearHist : Nat := 0x1e0000000000000000000000000000000000000000000000000000000000000000000000000000000000000000000000000000000000000000000000001000000
theorem State.clearHist_off {m a} (hm : F.State.clearHist &&& m = F.State.clearHist) (h0' : Off m a s0') : Off m a (State.clearHist s0') := by
  unfold State.clearHist; exact (by extract_lets -merge s0; have h1 : Off m a s0 := (by unfold s0; exact (State.setStm_off (sb hm (by decide)) h0' ..)); (try clear_value s0); (try clear_value s0); exact (State.wr_off (State.wr_off (State.wr_off (State.wr_off h1 (has_STM_HIST_HEAD (tb hm (by decide))) ..) (has_STM_HIST_HOFS (tb hm (by decide))) ..) (has_STM_HIST_TAIL (tb hm (by decide))) ..) (has_STM_HIST_TOFS (tb hm (by decide))) ..))
def F.State.clearSnaps : Nat := 0x1e00000000000000000000000000000000000000000000000000000000000000000000000000000000000000000000000000000000000000000000000001000000
theorem State.clearSnaps_off {m a} (hm : F.State.clearSnaps &&& m = F.State.clearSnaps) (h0' : Off m a s0') : Off m a (State.clearSnaps s0') := by
  unfold State.clearSnaps; exact (by extract_lets -merge s0; have h1 : Off m a s0 := (by unfold s0; exact (State.setStm_off (sb hm (by decide)) h0' ..)); (try clear_value s0); (try clear_value s0); exact (State.wr_off (State.wr_off (State.wr_off (State.wr_off h1 (has_STM_SNAP_HEAD (tb hm (by decide))) ..) (has_STM_SNAP_HOFS (tb hm (by decide))) ..) (has_STM_SNAP_TAIL (tb hm (by decide))) ..) (has_STM_SNAP_TOFS (tb hm (by decide))) ..))
def F.State.codewordUnc : Nat := 0x680000000000000000000000000000040000000000000000000000000000000000000000000000000000000000000000000000000000000000000000000000000000000000000000003ff000001001800
theorem State.codewordUnc_off {m a} (hm : F.State.codewordUnc &&& m = F.State.codewordUnc) (h0' : Off m a s0') (a1') (a2') : Off m a (State.codewordUnc s0' a1' a2') := by
  unfold State.codewordUnc; exact (by extract_lets -merge s0 s2 s4; have h1 : Off m a s0 := (by unfold s0; exact (State.wr_off (State.wr_off (State.satInc_off h0' (has_STM_ECC_UNC (tb hm (by decide))) ..) (has_STM_UNC_PART (tb hm (by decide))) ..) (has_STM_UNC_UNIT (tb hm (by decide))) ..)); (try clear_value s0); have h3 : Off m a s2 := (by unfold s2; exact (State.setStm_off (sb hm (by decide)) h1 ..)); (try clear_value s2); have h5 : Off m a s4 := (by unfold s4; exact (State.journal_off (sb hm (by decide)) (State.raise_off (sb hm (by decide)) h3 ..) ..)); (try clear_value s4); (try clear_value s0 s2 s4); exact (State.satInc_off (State.int_off (sb hm (by decide)) h5 ..) (has_STM_REFRESH_CNT (tb hm (by decide))) ..))
def F.State.formatImage : Nat := 0x13000000000000000000000000000002000001000000
theorem State.formatImage_off {m a} (hm : F.State.formatImage &&& m = F.State.formatImage) (h0' : Off m a s0') : Off m a (State.formatImage s0') := by
  unfold State.formatImage; exact (.ite (State.formatStart_off (sb hm (by decide)) (State.setStm_off (sb hm (by decide)) h0' ..) ..) h0')
def F.State.unitsWritten : Nat := 0x1000000
theorem State.unitsWritten_off {m a} (hm : F.State.unitsWritten &&& m = F.State.unitsWritten) (h0' : Off m a s0') (a1') (a2') (a3') (a4') : Off m a (State.unitsWritten s0' a1' a2' a3' a4') := by
  unfold State.unitsWritten; exact (State.setStm_off (sb hm (by decide)) (State.programmed_off (sb hm (by decide)) h0' ..) ..)
def F.State.histPlace : Nat := 0x1fe0000000000000000000000000000000000000000000000000000000000000000000000000000000000000000000000000000000000000000000000001000000
theorem State.histPlace_off {m a} (hm : F.State.histPlace &&& m = F.State.histPlace) (h0' : Off m a s0') (a1') (a2') : Off m a (State.histPlace s0' a1' a2') := by
  unfold State.histPlace; exact (by extract_lets -merge x0 x1 x2 s3; (try clear_value x0 x1 x2); have h4 : Off m a s3 := (by unfold s3; exact (State.setStm_off (sb hm (by decide)) h0' ..)); (try clear_value s3); (try clear_value s3); exact (.ite h0' (State.setRings_off (sb hm (by decide)) (State.unitsWritten_off (sb hm (by decide)) h4 ..) ..)))
def F.State.snapStored : Nat := 0x1fe00000000000000000000000000000000000000000000000000000000000000000000000000000000000000000000000000000000000000013ff000001001800
theorem State.snapStored_off {m a} (hm : F.State.snapStored &&& m = F.State.snapStored) (h0' : Off m a s0') : Off m a (State.snapStored s0') := by
  unfold State.snapStored; exact (.ite h0' (by extract_lets -merge x0 x1 x2 x3 s4 s6 s8 s10; (try clear_value x0 x1 x2 x3); have h5 : Off m a s4 := (by unfold s4; exact (State.setStm_off (sb hm (by decide)) h0' ..)); (try clear_value s4); have h7 : Off m a s6 := (by unfold s6; exact (State.setRings_off (sb hm (by decide)) (State.unitsWritten_off (sb hm (by decide)) h5 ..) ..)); (try clear_value s6); have h9 : Off m a s8 := (by unfold s8; exact (State.journal_off (sb hm (by decide)) h7 ..)); (try clear_value s8); have h11 : Off m a s10 := (by unfold s10; exact (State.int_off (sb hm (by decide)) h9 ..)); (try clear_value s10); (try clear_value s4 s6 s8 s10); exact (.ite (State.setStm_off (sb hm (by decide)) (State.wr_off h11 (has_STM_CAP_STAT (tb hm (by decide))) ..) ..) (State.wr_off h11 (has_STM_CAP_STAT (tb hm (by decide))) ..))))
def F.State.scrubDone : Nat := 0x6008000000000000000000000000000000000000000000000000000000000000000000000000000000000000000000000000000000000000000000001000001000000
theorem State.scrubDone_off {m a} (hm : F.State.scrubDone &&& m = F.State.scrubDone) (h0' : Off m a s0') : Off m a (State.scrubDone s0') := by
  unfold State.scrubDone; exact (by extract_lets -merge s0; have h1 : Off m a s0 := (by unfold s0; exact (State.wr_off (State.wr_off (State.satInc_off h0' (has_STM_SCRUB_STAT_PASSES (tb hm (by decide))) ..) (has_STM_SCRUB_STAT_PROGRESS (tb hm (by decide))) ..) (has_STM_SCRUB_AGE (tb hm (by decide))) ..)); (try clear_value s0); (try clear_value s0); exact (State.int_off (sb hm (by decide)) (State.setStm_off (sb hm (by decide)) h1 ..) ..))
def F.State.setBook : Nat := 0x1000
theorem State.setBook_off {m a} (hm : F.State.setBook &&& m = F.State.setBook) (h0' : Off m a s0') (a1') (a2') : Off m a (State.setBook s0' a1' a2') := by
  unfold State.setBook; exact (State.setPb_off (sb hm (by decide)) h0' ..)
def F.State.formatDone : Nat := 0x7000000000c000000001fe00000000000000000000000000000000000000000000000000000000000000000000000000000000000030000000000000000000000000003ff000001001800
theorem State.formatDone_off {m a} (hm : F.State.formatDone &&& m = F.State.formatDone) (h0' : Off m a s0') (a1') : Off m a (State.formatDone s0' a1') := by
  unfold State.formatDone; exact (.ite h0' (by extract_lets -merge x0 x1 x2 x3 x4 x5 s6 s8 s10 s12 x14 s15 s17 s19; (try clear_value x0 x1 x2 x3 x4 x5 x14); have h7 : Off m a s6 := (by unfold s6; exact (State.setStm_off (sb hm (by decide)) h0' ..)); (try clear_value s6); have h9 : Off m a s8 := (by unfold s8; exact (State.wr_off (State.wr_off (State.wr_off h7 (has_STM_PART_P16 (tb hm (by decide))) ..) (has_STM_PART_H (tb hm (by decide))) ..) (has_STM_PART_S (tb hm (by decide))) ..)); (try clear_value s8); have h11 : Off m a s10 := (by unfold s10; exact (State.clearSnaps_off (sb hm (by decide)) (State.clearHist_off (sb hm (by decide)) (State.wr_off (State.wr_off h9 (has_STM_FMT_STAT_BUSY (tb hm (by decide))) ..) (has_STM_FMT_STAT_DONE (tb hm (by decide))) ..) ..) ..)); (try clear_value s10); have h13 : Off m a s12 := (by unfold s12; exact (State.wr_off (State.wr_off h11 (has_STM_STAT_MEDIUM (tb hm (by decide))) ..) (has_STM_STAT_MIRROR (tb hm (by decide))) ..)); (try clear_value s12); have h16 : Off m a s15 := (by unfold s15; exact (State.programmed_off (sb hm (by decide)) (State.setStm_off (sb hm (by decide)) h13 ..) ..)); (try clear_value s15); have h18 : Off m a s17 := (by unfold s17; exact (.ite (State.programmed_off (sb hm (by decide)) (State.setStm_off (sb hm (by decide)) h11 ..) ..) (State.setPb_off (sb hm (by decide)) (State.setBook_off (sb hm (by decide)) h16 ..) ..))); (try clear_value s17); have h20 : Off m a s19 := (by unfold s19; exact (State.journal_off (sb hm (by decide)) h18 ..)); (try clear_value s19); (try clear_value s6 s8 s10 s12 s15 s17 s19); exact (State.int_off (sb hm (by decide)) h20 ..)))
def F.State.histFrame : Nat := 0x100000000000000000000000000000000000000000000000000000000000000000000000000000000000000000000000000000000000000000000000000000000000000000000000003ff000001001800
theorem State.histFrame_off {m a} (hm : F.State.histFrame &&& m = F.State.histFrame) (h0' : Off m a s0') (a1') : Off m a (State.histFrame s0' a1') := by
  unfold State.histFrame; exact (by extract_lets -merge x0 s1 x3; (try clear_value x0 x3); have h2 : Off m a s1 := (by unfold s1; exact (State.setStm_off (sb hm (by decide)) h0' ..)); (try clear_value s1); (try clear_value s1); exact (.ite h0' (.ite (State.journalInt_off (sb hm (by decide)) (State.raise_off (sb hm (by decide)) (State.satInc_off h2 (has_STM_HIST_DROP (tb hm (by decide))) ..) ..) ..) (State.setStm_off (sb hm (by decide)) h0' ..))))
def F.State.histBoundary : Nat := 0x100000000000000000000000000000000000000000000000000000000000000000000000000000000000000000000000000000000000000000000000000000000000000000000000003ff000201181840
theorem State.histBoundary_off {m a} (hm : F.State.histBoundary &&& m = F.State.histBoundary) (h0' : Off m a s0') (a1') : Off m a (State.histBoundary s0' a1') := by
  unfold State.histBoundary; exact (by extract_lets -merge s0 s2 x4; (try clear_value x4); have h1 : Off m a s0 := (by unfold s0; exact (State.toMul_off (sb hm (by decide)) h0' ..)); (try clear_value s0); have h3 : Off m a s2 := (by unfold s2; exact (State.histFrame_off (sb hm (by decide)) (State.ctxInterval_off (sb hm (by decide)) h1 ..) ..)); (try clear_value s2); (try clear_value s0 s2); exact (.ite (State.setStm_off (sb hm (by decide)) h3 ..) h3))
def F.State.snapFill : Nat := 0x1000000000100040
theorem State.snapFill_off {m a} (hm : F.State.snapFill &&& m = F.State.snapFill) (h0' : Off m a s0') : Off m a (State.snapFill s0') := by
  unfold State.snapFill; exact (.ite h0' (by extract_lets -merge x0; (try clear_value x0); exact (State.wr_off (State.reach_off (sb hm (by decide)) h0' ..) (has_STM_CAP_STAT (tb hm (by decide))) ..)))
def F.State.storageReady : Nat := 0x37e000000000000000000000000000f001800000c0000000f1fe00000000000000000000000000000000000000000000000000000000000000000000000000000000000000000000000000000000000000003ff000001001800
theorem State.storageReady_off {m a} (hm : F.State.storageReady &&& m = F.State.storageReady) (h0' : Off m a s0') (a1') : Off m a (State.storageReady s0' a1') := by
  unfold State.storageReady; exact (.ite h0' (by extract_lets -merge s0 s2 s4 s6 s8 s10 x12 s13 s16 s19 s22 s24 s26 s28 s30; (try clear_value x12); have h1 : Off m a s0 := (by unfold s0; exact (State.wr_off (State.wr_off (State.wr_off (State.wr_off h0' (has_STM_GEOM_CE_MASK (tb hm (by decide))) ..) (has_STM_GEOM_BPC (tb hm (by decide))) ..) (has_STM_GEOM_LUNS (tb hm (by decide))) ..) (has_STM_GEOM_PAGE (tb hm (by decide))) ..)); (try clear_value s0); have h3 : Off m a s2 := (by unfold s2; exact (State.wr_off (State.wr_off h1 (has_STM_GEOM_RAW (tb hm (by decide))) ..) (has_STM_STAT_USABLE (tb hm (by decide))) ..)); (try clear_value s2); have h5 : Off m a s4 := (by unfold s4; exact (State.wr_off (State.wr_off h3 (has_STM_IF_MTS (tb hm (by decide))) ..) (has_STM_STAT_READY (tb hm (by decide))) ..)); (try clear_value s4); have h7 : Off m a s6 := (by unfold s6; exact (State.setStm_off (sb hm (by decide)) h5 ..)); (try clear_value s6); have h9 : Off m a s8 := (by unfold s8; exact (State.wr_off (State.wr_off (State.wr_off h7 (has_STM_WEAR_N_MAX (tb hm (by decide))) ..) (has_STM_WEAR_N_MEAN (tb hm (by decide))) ..) (has_STM_WEAR_S_MAX (tb hm (by decide))) ..)); (try clear_value s8); have h11 : Off m a s10 := (by unfold s10; exact (State.wr_off h9 (has_STM_WEAR_S_MEAN (tb hm (by decide))) ..)); (try clear_value s10); have h15 : Off m a s13 := (by unfold s13; exact (State.cond_off h11 (fun _ h14 => (State.stand_off (sb hm (by decide)) (State.raise_off (sb hm (by decide)) h14 ..) ..)) ..)); (try clear_value s13); have h18 : Off m a s16 := (by unfold s16; exact (State.cond_off h15 (fun _ h17 => (State.unstand_off (sb hm (by decide)) h17 ..)) ..)); (try clear_value s16); have h21 : Off m a s19 := (by unfold s19; exact (State.cond_off h18 (fun _ h20 => (State.wr_off h20 (has_STM_STAT_SINGLE (tb hm (by decide))) ..)) ..)); (try clear_value s19); have h23 : Off m a s22 := (by unfold s22; exact (State.wr_off (State.unstand_off (sb hm (by decide)) (State.wr_off h21 (has_STM_STAT_MEDIUM (tb hm (by decide))) ..) ..) (has_STM_STAT_MIRROR (tb hm (by decide))) ..)); (try clear_value s22); have h25 : Off m a s24 := (by unfold s24; exact (State.wr_off (State.wr_off (State.wr_off h23 (has_STM_PART_P16 (tb hm (by decide))) ..) (has_STM_PART_H (tb hm (by decide))) ..) (has_STM_PART_S (tb hm (by decide))) ..)); (try clear_value s24); have h27 : Off m a s26 := (by unfold s26; exact (State.setStm_off (sb hm (by decide)) h25 ..)); (try clear_value s26); have h29 : Off m a s28 := (by unfold s28; exact (State.setBook_off (sb hm (by decide)) (State.wr_off h21 (has_STM_STAT_MEDIUM (tb hm (by decide))) ..) ..)); (try clear_value s28); have h31 : Off m a s30 := (by unfold s30; exact (State.setStm_off (sb hm (by decide)) h29 ..)); (try clear_value s30); (try clear_value s0 s2 s4 s6 s8 s10 s13 s16 s19 s22 s24 s26 s28 s30); exact (by split; (· exact (State.setBook_off (sb hm (by decide)) (State.wr_off h21 (has_STM_STAT_MEDIUM (tb hm (by decide))) ..) ..)); (· exact (State.clearSnaps_off (sb hm (by decide)) (State.clearHist_off (sb hm (by decide)) (State.setBook_off (sb hm (by decide)) (State.setSpare_off (sb hm (by decide)) (State.unstand_off (sb hm (by decide)) (State.wr_off h21 (has_STM_STAT_MEDIUM (tb hm (by decide))) ..) ..) ..) ..) ..) ..)); (· exact (State.setSpare_off (sb hm (by decide)) (State.setRings_off (sb hm (by decide)) (State.setBook_off (sb hm (by decide)) (State.setPb_off (sb hm (by decide)) h27 ..) ..) ..) ..)); (· exact (State.journal_off (sb hm (by decide)) (State.stand_off (sb hm (by decide)) (State.raise_off (sb hm (by decide)) h31 ..) ..) ..)))))
def F.State.wearCheckpoint : Nat := 0x1100040
theorem State.wearCheckpoint_off {m a} (hm : F.State.wearCheckpoint &&& m = F.State.wearCheckpoint) (h0' : Off m a s0') : Off m a (State.wearCheckpoint s0') := by
  unfold State.wearCheckpoint; exact (by extract_lets -merge s0; have h1 : Off m a s0 := (by unfold s0; exact (.ite h0' (State.reach_off (sb hm (by decide)) h0' ..))); (try clear_value s0); (try clear_value s0); exact (State.setStm_off (sb hm (by decide)) h1 ..))

end Sys2Proof.Machine
end

