-- ==== Sys2Proof/Laws/OffLaneSample.lean ====
section
/-! SUPPORT. What the operations of Machine/LaneSample.lean reach: the pieces of the state and the register fields whose
numbers are set in the mask of each (`F`). -/
namespace Sys2Proof.Machine
open Sys2Proof
set_option Elab.async false

def F.State.countSat : Nat := 0x8000000000000000000000000000000000000000000000000000000000000000000000000000000000000000000000000000000000000000000800000000000000000000000000001000000000000
theorem State.countSat_off {m a} (hm : F.State.countSat &&& m = F.State.countSat) (h0' : Off m a s0') (a1') (a2') : Off m a (State.countSat s0' a1' a2') := by
  unfold State.countSat; exact (.ite h0' (by extract_lets -merge x0 s1; (try clear_value x0); have h2 : Off m a s1 := (by unfold s1; exact (State.wr_off (State.satAdd_off h0' (has_LANE_SAT_CNT (tb hm (by decide))) ..) (has_LANE_STAT_SAT_STICKY (tb hm (by decide))) ..)); (try clear_value s1); (try clear_value s1); exact (State.cond_off h2 (fun _ h3 => (State.int_off (sb hm (by decide)) h3 ..)) ..)))
def F.State.emClose : Nat := 0x1000000000000000000000000000000000000000000000000000000000000000000000000000000000000000000000000000000000000000000000000000000000000010000
theorem State.emClose_off {m a} (hm : F.State.emClose &&& m = F.State.emClose) (h0' : Off m a s0') (a1') : Off m a (State.emClose s0' a1') := by
  unfold State.emClose; exact (by extract_lets -merge x0; (try clear_value x0); exact (.foldl h0' (fun _ h1 _ => (by split; (· exact (by extract_lets -merge x2 x3 x4 x5; (try clear_value x2 x3 x4 x5); exact (.ite (State.setCv_off (sb hm (by decide)) h1 ..) (State.setCv_off (sb hm (by decide)) (State.wr_off h1 (has_PROT_EM_LIM_PWR (tb hm (by decide))) ..) ..)))))) _))
def F.State.emWord : Nat := 0x1000000000000000000000000000000000000000000000000000000000000000000000000000000000000000000000000000000000000000000000000000000000000010000
theorem State.emWord_off {m a} (hm : F.State.emWord &&& m = F.State.emWord) (h0' : Off m a s0') (a1') (a2') (a3') : Off m a (State.emWord s0' a1' a2' a3') := by
  unfold State.emWord; exact (by extract_lets -merge x0 s1 s3; (try clear_value x0); have h2 : Off m a s1 := (by unfold s1; exact (State.setCv_off (sb hm (by decide)) h0' ..)); (try clear_value s1); have h4 : Off m a s3 := (by unfold s3; exact (State.setCv_off (sb hm (by decide)) h2 ..)); (try clear_value s3); (try clear_value s1 s3); exact (.ite h4 (State.emClose_off (sb hm (by decide)) h4 ..)))
def F.State.loopPower : Nat := 0x400000
theorem State.loopPower_off {m a} (hm : F.State.loopPower &&& m = F.State.loopPower) (h0' : Off m a s0') (a1') (a2') (a3') : Off m a (State.loopPower s0' a1' a2' a3') := by
  unfold State.loopPower; exact (.upd h0' (h_cte := .inr (tb hm (by decide))))
def F.State.oscSample : Nat := 0x8000
theorem State.oscSample_off {m a} (hm : F.State.oscSample &&& m = F.State.oscSample) (h0' : Off m a s0') (a1') (a2') (a3') (a4') (a5') : Off m a (State.oscSample s0' a1' a2' a3' a4' a5') := by
  unfold State.oscSample; exact (by extract_lets -merge x0 x1 x2 x3 x4 x5 s6 x8 s9 x11 x12; (try clear_value x0 x1 x2 x3 x4 x5 x8 x11 x12); have h7 : Off m a s6 := (by unfold s6; exact (State.setLane_off (sb hm (by decide)) h0' ..)); (try clear_value s6); have h10 : Off m a s9 := (by unfold s9; exact (State.setLane_off (sb hm (by decide)) h7 ..)); (try clear_value s9); (try clear_value s6 s9); exact (.ite (State.setLane_off (sb hm (by decide)) h0' ..) (.ite h10 (State.setLane_off (sb hm (by decide)) h10 ..))))
def F.State.throttleStep : Nat := 0x8000
theorem State.throttleStep_off {m a} (hm : F.State.throttleStep &&& m = F.State.throttleStep) (h0' : Off m a s0') (a1') : Off m a (State.throttleStep s0' a1') := by
  unfold State.throttleStep; exact (.ite (State.setLane_off (sb hm (by decide)) h0' ..) h0')
def F.State.setGain : Nat := 0x410000000800000000000000000001000000008000
theorem State.setGain_off {m a} (hm : F.State.setGain &&& m = F.State.setGain) (h0' : Off m a s0') (a1') : Off m a (State.setGain s0' a1') := by
  unfold State.setGain; exact (by extract_lets -merge s0 x2 x3 x4 s5; (try clear_value x2 x3 x4); have h1 : Off m a s0 := (by unfold s0; exact (State.bringCap_off (sb hm (by decide)) (State.throttleStep_off (sb hm (by decide)) h0' ..) ..)); (try clear_value s0); have h6 : Off m a s5 := (by unfold s5; exact (State.wr_off (State.wr_off h1 (has_LANE_GAIN_APPLIED (tb hm (by decide))) ..) (has_LANE_GAIN_CLAMPED (tb hm (by decide))) ..)); (try clear_value s5); (try clear_value s0 s5); exact (State.cond_off h6 (fun _ h7 => (State.int_off (sb hm (by decide)) h7 ..)) ..))
def F.State.receive : Nat := 0x8000
theorem State.receive_off {m a} (hm : F.State.receive &&& m = F.State.receive) (h0' : Off m a s0') (a1') (a2') : Off m a (State.receive s0' a1' a2').1 := by
  unfold State.receive; exact (by extract_lets -merge x0; (try clear_value x0); exact (by split; (· exact (.pr1 h0')); (· exact (by split; (· exact (.pr1 (State.setLane_off (sb hm (by decide)) h0' ..)))))))
def F.State.pushRef : Nat := 0x8000
theorem State.pushRef_off {m a} (hm : F.State.pushRef &&& m = F.State.pushRef) (h0' : Off m a s0') (a1') (a2') (a3') (a4') : Off m a (State.pushRef s0' a1' a2' a3' a4') := by
  unfold State.pushRef; exact (by extract_lets -merge x0 x1 x2; (try clear_value x0 x1 x2); exact (State.setLane_off (sb hm (by decide)) h0' ..))
def F.State.odWord : Nat := 0x10000
theorem State.odWord_off {m a} (hm : F.State.odWord &&& m = F.State.odWord) (h0' : Off m a s0') (a1') (a2') (a3') (a4') : Off m a (State.odWord s0' a1' a2' a3' a4') := by
  unfold State.odWord; exact (by extract_lets -merge s0; have h1 : Off m a s0 := (by unfold s0; exact (State.setCv_off (sb hm (by decide)) h0' ..)); (try clear_value s0); (try clear_value s0); exact (State.setCv_off (sb hm (by decide)) h1 ..))
def F.State.pkWord : Nat := 0x10000
theorem State.pkWord_off {m a} (hm : F.State.pkWord &&& m = F.State.pkWord) (h0' : Off m a s0') (a1') (a2') : Off m a (State.pkWord s0' a1' a2') := by
  unfold State.pkWord; exact (State.setCv_off (sb hm (by decide)) h0' ..)
def F.State.portWord : Nat := 0x1008020000000000000000000000000000000000000000000000000000000000000000000000000000000000000020000000000000000000000000000000001000000010000
theorem State.portWord_off {m a} (hm : F.State.portWord &&& m = F.State.portWord) (h0' : Off m a s0') (a1') (a2') (a3') : Off m a (State.portWord s0' a1' a2' a3') := by
  unfold State.portWord; exact (by extract_lets -merge x0 s1 x3; (try clear_value x0 x3); have h2 : Off m a s1 := (by unfold s1; exact (State.setCv_off (sb hm (by decide)) h0' ..)); (try clear_value s1); (try clear_value s1); exact (by split; (· exact (State.pkWord_off (sb hm (by decide)) (State.emWord_off (sb hm (by decide)) (State.odWord_off (sb hm (by decide)) (State.cond_off h2 (fun _ h4 => (State.clipWord_off (sb hm (by decide)) h4 ..)) ..) ..) ..) ..))))
def F.State.portDrain : Nat := 0x1008020000000000000000000000000000000000000000000000000000000000000000000000000000000000000020000000000000000000000000000000001000000010000
theorem State.portDrain_off {m a} (hm : F.State.portDrain &&& m = F.State.portDrain) (h0' : Off m a s0') (a1') : Off m a (State.portDrain s0' a1') := by
  unfold State.portDrain; exact (by extract_lets -merge x0 x1; (try clear_value x0 x1); exact (by split; (· exact h0'); (· exact (by extract_lets -merge x2 x3 s4 x7; (try clear_value x2 x3 x7); have h6 : Off m a s4 := (by unfold s4; exact (.foldl h0' (fun _ h5 _ => (by split; (· exact (State.portWord_off (sb hm (by decide)) h5 ..)))) _)); (try clear_value s4); (try clear_value s4); exact (State.setCv_off (sb hm (by decide)) h6 ..)))))
def F.State.transmit : Nat := 0x1008020000000000000000000000000000000000000000000000000000000000000000000000000000000000000020000000000000000000000000000000001000000018000
theorem State.transmit_off {m a} (hm : F.State.transmit &&& m = F.State.transmit) (h0' : Off m a s0') (a1') (a2') : Off m a (State.transmit s0' a1' a2').1 := by
  unfold State.transmit; exact (by extract_lets -merge x0 x1 x2 s3; (try clear_value x0 x1 x2); have h4 : Off m a s3 := (by unfold s3; exact (State.portDrain_off (sb hm (by decide)) h0' ..)); (try clear_value s3); (try clear_value s3); exact (by split; (· exact (.pr1 h0')); (· exact (by split; (· exact (by split; (· exact (by split; (· exact (by split; (· exact (by extract_lets -merge s5 s7; have h6 : Off m a s5 := (by unfold s5; exact (State.setLane_off (sb hm (by decide)) h4 ..)); (try clear_value s5); have h9 : Off m a s7 := (by unfold s7; exact (State.cond_off h6 (fun _ h8 => (State.setCv_off (sb hm (by decide)) h8 ..)) ..)); (try clear_value s7); (try clear_value s5 s7); exact (.pr1 h9)))))))))))))
def F.State.streamOut : Nat := 0x100000000000000000000000000000000000000000000000000000000000000000000000000000000000000000000000000000000000000000000000000000000000000000400000004040000
theorem State.streamOut_off {m a} (hm : F.State.streamOut &&& m = F.State.streamOut) (h0' : Off m a s0') (a1') (a2') (a3') : Off m a (State.streamOut s0' a1' a2' a3') := by
  unfold State.streamOut; exact (.foldl h0' (fun _ h0 _ => (by extract_lets -merge x1; (try clear_value x1); exact (.ite (by split; (· exact (by extract_lets -merge s2; have h3 : Off m a s2 := (by unfold s2; exact (State.setStx_off (sb hm (by decide)) h0 ..)); (try clear_value s2); (try clear_value s2); exact (State.streamSend_off (sb hm (by decide)) (State.cond_off h3 (fun _ h4 => (State.satInc_off h4 (has_CNX_STX_SAT_CNT (tb hm (by decide))) ..)) ..) ..)))) h0))) _)
def F.State.laneSample : Nat := 0x2000000000000008000100000040000001008020000000000000000000000000000000000000000000000000000000000000000000000000000000000000020000c10000000800000000000000000401000204dd8050
theorem State.laneSample_off {m a} (hm : F.State.laneSample &&& m = F.State.laneSample) (h0' : Off m a s0') (a1') (a2') (a3') (a4') : Off m a (State.laneSample s0' a1' a2' a3' a4') := by
  unfold State.laneSample; exact (by extract_lets -merge s0 x2 x3 s4 s7 s10; (try clear_value x2 x3); have h1 : Off m a s0 := (by unfold s0; exact (State.toSample_off (sb hm (by decide)) h0' ..)); (try clear_value s0); have h6 : Off m a s4 := (by unfold s4; exact (State.cond_off h1 (fun _ h5 => (State.satAdd_off h5 (has_CHF_ECC_CNT (tb hm (by decide))) ..)) ..)); (try clear_value s4); have h9 : Off m a s7 := (by unfold s7; exact (State.cond_off h6 (fun _ h8 => (State.satAdd_off h8 (has_RSM_ECC_CNT (tb hm (by decide))) ..)) ..)); (try clear_value s7); have h11 : Off m a s10 := (by unfold s10; exact (State.setGain_off (sb hm (by decide)) h9 ..)); (try clear_value s10); (try clear_value s0 s4 s7 s10); exact (.ite (State.capWord_off (sb hm (by decide)) h1 ..) (by split; rename_i s14 x15 e12; have h13 : Off m a s14 := .fst e12 (State.receive_off (sb hm (by decide)) h11 ..); exact (by split; (· exact (by split; (· exact (by extract_lets -merge s16 x18; (try clear_value x18); have h17 : Off m a s16 := (by unfold s16; exact (State.setLane_off (sb hm (by decide)) h13 ..)); (try clear_value s16); (try clear_value s16); exact (by split; (· exact (by extract_lets -merge x19 s20 x22 x23; (try clear_value x19 x22 x23); have h21 : Off m a s20 := (by unfold s20; exact (State.sptSample_off (sb hm (by decide)) (State.setLane_off (sb hm (by decide)) h17 ..) ..)); (try clear_value s20); (try clear_value s20); exact (by split; (· exact (by split; (· exact (by extract_lets -merge x24 x25 x26 s27 s29 s31 s34; (try clear_value x24 x25 x26); have h28 : Off m a s27 := (by unfold s27; exact (State.oscSample_off (sb hm (by decide)) (State.pushRef_off (sb hm (by decide)) h21 ..) ..)); (try clear_value s27); have h30 : Off m a s29 := (by unfold s29; exact (State.estSample_off (sb hm (by decide)) (State.searchSample_off (sb hm (by decide)) (State.probeSample_off (sb hm (by decide)) h28 ..) ..) ..)); (try clear_value s29); have h33 : Off m a s31 := (by unfold s31; exact (State.cond_off h30 (fun _ h32 => (State.loopPower_off (sb hm (by decide)) (State.outPower_off (sb hm (by decide)) h32 ..) ..)) ..)); (try clear_value s31); have h36 : Off m a s34 := (by unfold s34; exact (State.cond_off h33 (fun _ h35 => (State.streamOut_off (sb hm (by decide)) h35 ..)) ..)); (try clear_value s34); (try clear_value s27 s29 s31 s34); exact (by split; rename_i s39 x40 e37; have h38 : Off m a s39 := .fst e37 (State.transmit_off (sb hm (by decide)) h36 ..); exact (by extract_lets -merge s41 x43; (try clear_value x43); have h42 : Off m a s41 := (by unfold s41; exact (State.syncTo_off (sb hm (by decide)) (State.countSat_off (sb hm (by decide)) h38 ..) ..)); (try clear_value s41); (try clear_value s41); exact (State.capWord_off (sb hm (by decide)) h42 ..)))))))))))))))))))

end Sys2Proof.Machine
end

