-- ==== Sys2Proof/Laws/OffCte.lean ====
section
/-! SUPPORT. What the operations of Machine/Cte.lean reach: the pieces of the state and the register fields whose
numbers are set in the mask of each (`F`). -/
namespace Sys2Proof.Machine
open Sys2Proof
set_option Elab.async false

def F.State.setLpF : Nat := 0x2
theorem State.setLpF_off {m a} (hm : F.State.setLpF &&& m = F.State.setLpF) (h0' : Off m a s0') (a1') (a2') (a3') (a4') (a5') : Off m a (State.setLpF s0' a1' a2' a3' a4' a5') := by
  unfold State.setLpF; exact (State.stF_off h0' (tb hm (by decide)) ..)
def F.State.setLoop : Nat := 0x400000
theorem State.setLoop_off {m a} (hm : F.State.setLoop &&& m = F.State.setLoop) (h0' : Off m a s0') (a1') (a2') : Off m a (State.setLoop s0' a1' a2') := by
  unfold State.setLoop; exact (.upd h0' (h_cte := .inr (tb hm (by decide))))
def F.State.setPwm : Nat := 0x20000000
theorem State.setPwm_off {m a} (hm : F.State.setPwm &&& m = F.State.setPwm) (h0' : Off m a s0') (a1') (a2') : Off m a (State.setPwm s0' a1' a2') := by
  unfold State.setPwm; exact (.upd h0' (h_pwm := .inr (tb hm (by decide))))
def F.State.setLpBit : Nat := 0x2
theorem State.setLpBit_off {m a} (hm : F.State.setLpBit &&& m = F.State.setLpBit) (h0' : Off m a s0') (a1') (a2') (a3') : Off m a (State.setLpBit s0' a1' a2' a3') := by
  unfold State.setLpBit; exact (State.setLpF_off (sb hm (by decide)) h0' ..)
def F.State.setCte : Nat := 0x400000
theorem State.setCte_off {m a} (hm : F.State.setCte &&& m = F.State.setCte) (h0' : Off m a s0') (a1') : Off m a (State.setCte s0' a1') := by
  unfold State.setCte; exact (.upd h0' (h_cte := .inr (tb hm (by decide))))
def F.State.setInj : Nat := 0x400000
theorem State.setInj_off {m a} (hm : F.State.setInj &&& m = F.State.setInj) (h0' : Off m a s0') (a1') : Off m a (State.setInj s0' a1') := by
  unfold State.setInj; exact (State.setCte_off (sb hm (by decide)) h0' ..)
def F.State.setCteLoad : Nat := 0x100000000000000000000000000000000000000000000000
theorem State.setCteLoad_off {m a} (hm : F.State.setCteLoad &&& m = F.State.setCteLoad) (h0' : Off m a s0') : Off m a (State.setCteLoad s0') := by
  unfold State.setCteLoad; exact (State.wr_off h0' (has_CTE_LOAD (tb hm (by decide))) ..)
def F.State.injEnd : Nat := 0x1000000000000000000000000000000001000000400000
theorem State.injEnd_off {m a} (hm : F.State.injEnd &&& m = F.State.injEnd) (h0' : Off m a s0') : Off m a (State.injEnd s0') := by
  unfold State.injEnd; exact (.ite (State.int_off (sb hm (by decide)) (State.wr_off (State.setInj_off (sb hm (by decide)) h0' ..) (has_CTE_CAP_STAT_INJ_ACTIVE (tb hm (by decide))) ..) ..) h0')
def F.State.loopHalt : Nat := 0xd01100000000000000000000000000000001000020400002
theorem State.loopHalt_off {m a} (hm : F.State.loopHalt &&& m = F.State.loopHalt) (h0' : Off m a s0') (a1') : Off m a (State.loopHalt s0' a1') := by
  unfold State.loopHalt; exact (by extract_lets -merge s0 x3 s4 s6 s8 s10; (try clear_value x3); have h2 : Off m a s0 := (by unfold s0; exact (State.cond_off h0' (fun _ h1 => (State.setInj_off (sb hm (by decide)) (State.injEnd_off (sb hm (by decide)) h1 ..) ..)) ..)); (try clear_value s0); have h5 : Off m a s4 := (by unfold s4; exact (by split; (· exact (State.wr_off h2 (has_PWM_DUTY (tb hm (by decide))) ..)); (· exact h2))); (try clear_value s4); have h7 : Off m a s6 := (by unfold s6; exact (by split; (· exact (State.wr_off h2 (has_BDAC_CFG_OWNED (tb hm (by decide))) ..)); (· exact (State.setPwm_off (sb hm (by decide)) (State.wr_off h5 (has_PWM_CFG_OWNED (tb hm (by decide))) ..) ..)); (· exact h2))); (try clear_value s6); have h9 : Off m a s8 := (by unfold s8; exact (State.setLpF_off (sb hm (by decide)) h7 ..)); (try clear_value s8); have h11 : Off m a s10 := (by unfold s10; exact (State.setLpBit_off (sb hm (by decide)) (State.setLpBit_off (sb hm (by decide)) h9 ..) ..)); (try clear_value s10); (try clear_value s0 s4 s6 s8 s10); exact (State.setCteLoad_off (sb hm (by decide)) (State.setLoop_off (sb hm (by decide)) h11 ..) ..))
def F.State.setLpW : Nat := 0x2
theorem State.setLpW_off {m a} (hm : F.State.setLpW &&& m = F.State.setLpW) (h0' : Off m a s0') (a1') (a2') (a3') : Off m a (State.setLpW s0' a1' a2' a3') := by
  unfold State.setLpW; exact (State.stIn_off h0' (tb hm (by decide)) ..)
def F.State.loopEnable : Nat := 0xd00000000000000000000000000000000003000000400002
theorem State.loopEnable_off {m a} (hm : F.State.loopEnable &&& m = F.State.loopEnable) (h0' : Off m a s0') (a1') : Off m a (State.loopEnable s0' a1') := by
  unfold State.loopEnable; exact (by split; (· exact (State.int_off (sb hm (by decide)) (State.refuse_off (sb hm (by decide)) (State.setLpF_off (sb hm (by decide)) (State.setLpF_off (sb hm (by decide)) h0' ..) ..) ..) ..)); (· exact (by extract_lets -merge x0 x1 x2 s3 s5 s7 s9 x11 s12; (try clear_value x0 x1 x2 x11); have h4 : Off m a s3 := (by unfold s3; exact (State.setLoop_off (sb hm (by decide)) h0' ..)); (try clear_value s3); have h6 : Off m a s5 := (by unfold s5; exact (State.setLpF_off (sb hm (by decide)) h4 ..)); (try clear_value s5); have h8 : Off m a s7 := (by unfold s7; exact (State.setLpW_off (sb hm (by decide)) (State.setLpF_off (sb hm (by decide)) (State.setLpF_off (sb hm (by decide)) h6 ..) ..) ..)); (try clear_value s7); have h10 : Off m a s9 := (by unfold s9; exact (State.setLpBit_off (sb hm (by decide)) (State.setLpBit_off (sb hm (by decide)) h8 ..) ..)); (try clear_value s9); have h13 : Off m a s12 := (by unfold s12; exact (by split; (· exact (State.wr_off h10 (has_BDAC_CFG_OWNED (tb hm (by decide))) ..)); (· exact (State.wr_off h10 (has_PWM_CFG_OWNED (tb hm (by decide))) ..)); (· exact h10))); (try clear_value s12); (try clear_value s3 s5 s7 s9 s12); exact (State.int_off (sb hm (by decide)) (State.setCteLoad_off (sb hm (by decide)) h13 ..) ..))))
def F.State.cueSwap : Nat := 0x1000000000002
theorem State.cueSwap_off {m a} (hm : F.State.cueSwap &&& m = F.State.cueSwap) (h0' : Off m a s0') (a1') : Off m a (State.cueSwap s0' a1') := by
  unfold State.cueSwap; exact (by extract_lets -merge s0; have h1 : Off m a s0 := (by unfold s0; exact (State.setLpF_off (sb hm (by decide)) h0' ..)); (try clear_value s0); (try clear_value s0); exact (State.int_off (sb hm (by decide)) (State.setLpF_off (sb hm (by decide)) h1 ..) ..))
def F.State.cteIgnore : Nat := 0x8000000000000000000000000000000000000000000000000
theorem State.cteIgnore_off {m a} (hm : F.State.cteIgnore &&& m = F.State.cteIgnore) (h0' : Off m a s0') : Off m a (State.cteIgnore s0') := by
  unfold State.cteIgnore; exact (State.satInc_off h0' (has_CTE_IGNWR_CNT (tb hm (by decide))) ..)
def F.State.cue : Nat := 0x8000000000000000000000000000000000003000000400002
theorem State.cue_off {m a} (hm : F.State.cue &&& m = F.State.cue) (h0' : Off m a s0') (a1') : Off m a (State.cue s0' a1') := by
  unfold State.cue; exact (.ite (State.cteIgnore_off (sb hm (by decide)) h0' ..) (.ite (State.refuse_off (sb hm (by decide)) (State.setLpF_off (sb hm (by decide)) h0' ..) ..) (by extract_lets -merge s0; have h1 : Off m a s0 := (by unfold s0; exact (State.setLpF_off (sb hm (by decide)) h0' ..)); (try clear_value s0); (try clear_value s0); exact (.ite (State.setLoop_off (sb hm (by decide)) (State.setLpF_off (sb hm (by decide)) h1 ..) ..) (State.cueSwap_off (sb hm (by decide)) h1 ..)))))
def F.State.writeLpCfg : Nat := 0x8d01100000000000000000000000000000003000020400002
theorem State.writeLpCfg_off {m a} (hm : F.State.writeLpCfg &&& m = F.State.writeLpCfg) (h0' : Off m a s0') (a1') (a2') : Off m a (State.writeLpCfg s0' a1' a2') := by
  unfold State.writeLpCfg; exact (by extract_lets -merge x0 x1 x2 x3 x4 s5 s8 s10 s13 s16; (try clear_value x0 x1 x2 x3 x4); have h7 : Off m a s5 := (by unfold s5; exact (State.cond_off h0' (fun _ h6 => (State.cteIgnore_off (sb hm (by decide)) h6 ..)) ..)); (try clear_value s5); have h9 : Off m a s8 := (by unfold s8; exact (.ite (State.setLpW_off (sb hm (by decide)) h7 ..) (State.setLpW_off (sb hm (by decide)) h0' ..))); (try clear_value s8); have h12 : Off m a s10 := (by unfold s10; exact (State.cond_off h9 (fun _ h11 => (State.setLpBit_off (sb hm (by decide)) h11 ..)) ..)); (try clear_value s10); have h15 : Off m a s13 := (by unfold s13; exact (State.cond_off h12 (fun _ h14 => (State.cue_off (sb hm (by decide)) h14 ..)) ..)); (try clear_value s13); have h21 : Off m a s16 := (by unfold s16; exact (State.cond_off h15 (fun _ h17 => (by extract_lets -merge s18; have h20 : Off m a s18 := (by unfold s18; exact (State.cond_off h17 (fun _ h19 => (State.cueSwap_off (sb hm (by decide)) h19 ..)) ..)); (try clear_value s18); (try clear_value s18); exact (State.setLpF_off (sb hm (by decide)) (State.loopHalt_off (sb hm (by decide)) h20 ..) ..))) ..)); (try clear_value s16); (try clear_value s5 s8 s10 s13 s16); exact (.ite (State.loopEnable_off (sb hm (by decide)) h21 ..) (.ite (State.setLoop_off (sb hm (by decide)) h15 ..) h15)))
def F.State.bdacMove : Nat := 0x800000000000000000000000000000000000000000000
theorem State.bdacMove_off {m a} (hm : F.State.bdacMove &&& m = F.State.bdacMove) (h0' : Off m a s0') (a1') : Off m a (State.bdacMove s0' a1') := by
  unfold State.bdacMove; exact (.ite (State.wr_off h0' (has_BDAC_CODE_OUT (tb hm (by decide))) ..) h0')
def F.State.writeInjCfg : Nat := 0xe00000000000000000000000000000000000000000000000000000000000000000000000000000000000000002000000000000
theorem State.writeInjCfg_off {m a} (hm : F.State.writeInjCfg &&& m = F.State.writeInjCfg) (h0' : Off m a s0') (a1') : Off m a (State.writeInjCfg s0' a1') := by
  unfold State.writeInjCfg; exact (.ite (State.refuse_off (sb hm (by decide)) h0' ..) (State.wrWord_off h0' (.cons (has_CTE_INJ_CFG_SHAPE (tb hm (by decide))) (.cons (has_CTE_INJ_CFG_POINT (tb hm (by decide))) (.cons (has_CTE_INJ_CFG_LOOP (tb hm (by decide))) .nil))) ..))
def F.State.setCap : Nat := 0x400000
theorem State.setCap_off {m a} (hm : F.State.setCap &&& m = F.State.setCap) (h0' : Off m a s0') (a1') : Off m a (State.setCap s0' a1') := by
  unfold State.setCap; exact (State.setCte_off (sb hm (by decide)) h0' ..)
def F.State.writeCteCap : Nat := 0x7000000000000000000000000060000000000000000000000000000000000000000000000000000400000
theorem State.writeCteCap_off {m a} (hm : F.State.writeCteCap &&& m = F.State.writeCteCap) (h0' : Off m a s0') (a1') : Off m a (State.writeCteCap s0' a1') := by
  unfold State.writeCteCap; exact (by extract_lets -merge x0 s1; (try clear_value x0); have h2 : Off m a s1 := (by unfold s1; exact (State.wrWord_off h0' (.cons (has_CTE_CAP_CFG_EN (tb hm (by decide))) (.cons (has_CTE_CAP_CFG_DECIM (tb hm (by decide))) (.cons (has_CTE_CAP_CFG_PRE (tb hm (by decide))) .nil))) ..)); (try clear_value s1); (try clear_value s1); exact (.ite (.ite h2 (State.setCap_off (sb hm (by decide)) (State.wr_off (State.wr_off h2 (has_CTE_CAP_STAT_DONE (tb hm (by decide))) ..) (has_CTE_CAP_STAT_TRIGGERED (tb hm (by decide))) ..) ..)) (State.setCap_off (sb hm (by decide)) h2 ..)))
def F.State.setSect : Nat := 0x400000
theorem State.setSect_off {m a} (hm : F.State.setSect &&& m = F.State.setSect) (h0' : Off m a s0') (a1') (a2') : Off m a (State.setSect s0' a1' a2') := by
  unfold State.setSect; exact (.upd h0' (h_cte := .inr (tb hm (by decide))))
def F.State.writeSectState : Nat := 0x8000000000000000000000000000000000000000000400000
theorem State.writeSectState_off {m a} (hm : F.State.writeSectState &&& m = F.State.writeSectState) (h0' : Off m a s0') (a1') (a2') : Off m a (State.writeSectState s0' a1' a2') := by
  unfold State.writeSectState; exact (by extract_lets -merge x0 x1; (try clear_value x0 x1); exact (by split; (· exact (State.cteIgnore_off (sb hm (by decide)) h0' ..)); (· exact (.ite (State.setSect_off (sb hm (by decide)) h0' ..) (State.setSect_off (sb hm (by decide)) h0' ..)))))
def F.State.writeInjCtl : Nat := 0x400000
theorem State.writeInjCtl_off {m a} (hm : F.State.writeInjCtl &&& m = F.State.writeInjCtl) (h0' : Off m a s0') (a1') : Off m a (State.writeInjCtl s0' a1') := by
  unfold State.writeInjCtl; exact (by extract_lets -merge s0 s3; have h2 : Off m a s0 := (by unfold s0; exact (State.cond_off h0' (fun _ h1 => (State.setInj_off (sb hm (by decide)) h1 ..)) ..)); (try clear_value s0); have h5 : Off m a s3 := (by unfold s3; exact (State.cond_off h2 (fun _ h4 => (State.setInj_off (sb hm (by decide)) h4 ..)) ..)); (try clear_value s3); (try clear_value s0 s3); exact (State.cond_off h5 (fun _ h6 => (State.setCap_off (sb hm (by decide)) h6 ..)) ..))
def F.State.writeInjLen : Nat := 0x1000000000000000000000000000000000000000000000000000000000000000000000000000000000000000002000000000000
theorem State.writeInjLen_off {m a} (hm : F.State.writeInjLen &&& m = F.State.writeInjLen) (h0' : Off m a s0') (a1') : Off m a (State.writeInjLen s0' a1') := by
  unfold State.writeInjLen; exact (.ite (State.refuse_off (sb hm (by decide)) h0' ..) (State.wr_off h0' (has_CTE_INJ_LEN (tb hm (by decide))) ..))
def F.State.cueGroup : Nat := 0x8000000000000000000000000000000000003000000400002
theorem State.cueGroup_off {m a} (hm : F.State.cueGroup &&& m = F.State.cueGroup) (h0' : Off m a s0') (a1') : Off m a (State.cueGroup s0' a1') := by
  unfold State.cueGroup; exact (.foldl h0' (fun _ h0 _ => (.ite (State.cue_off (sb hm (by decide)) h0 ..) h0)) _)
def F.State.writeSect : Nat := 0x8000000000000000000000000000000000000000000400000
theorem State.writeSect_off {m a} (hm : F.State.writeSect &&& m = F.State.writeSect) (h0' : Off m a s0') (a1') (a2') (a3') : Off m a (State.writeSect s0' a1' a2' a3') := by
  unfold State.writeSect; exact (by extract_lets -merge x0 x1 x2 x3 x4; (try clear_value x0 x1 x2 x3 x4); exact (.ite (by split; (· exact (State.setSect_off (sb hm (by decide)) h0' ..)); (· exact (State.cond_off (State.setSect_off (sb hm (by decide)) h0' ..) (fun _ h5 => (State.cteIgnore_off (sb hm (by decide)) h5 ..)) ..))) (.ite (State.cteIgnore_off (sb hm (by decide)) h0' ..) (State.setSect_off (sb hm (by decide)) h0' ..))))
def F.State.writeLp : Nat := 0x8d01100000000000000000000000000000003000020400002
theorem State.writeLp_off {m a} (hm : F.State.writeLp &&& m = F.State.writeLp) (h0' : Off m a s0') (a1') (a2') (a3') : Off m a (State.writeLp s0' a1' a2' a3') := by
  unfold State.writeLp; exact (by extract_lets -merge x0 x1 x2 x3; (try clear_value x0 x1 x2 x3); exact (.ite (State.writeLpCfg_off (sb hm (by decide)) h0' ..) (.ite (State.setLpW_off (sb hm (by decide)) h0' ..) (.ite h0' (.ite (State.cteIgnore_off (sb hm (by decide)) h0' ..) (.ite (State.cteIgnore_off (sb hm (by decide)) h0' ..) (State.cond_off (State.setLpW_off (sb hm (by decide)) h0' ..) (fun _ h4 => (State.setLpBit_off (sb hm (by decide)) h4 ..)) ..)))))))
def F.State.setFrame : Nat := 0x100000000000000000000000000000000000000000000000000000000
theorem State.setFrame_off {m a} (hm : F.State.setFrame &&& m = F.State.setFrame) (h0' : Off m a s0') (a1') (a2') (a3') (a4') : Off m a (State.setFrame s0' a1' a2' a3' a4') := by
  unfold State.setFrame; exact (.foldl h0' (fun _ h0 _ => (State.putBit_off h0 (has_ATTN_DATA (tb hm (by decide))) ..)) _)
def F.State.attnFields : Nat := 0x100000000082000000000000000000000000000000000000000020000
theorem State.attnFields_off {m a} (hm : F.State.attnFields &&& m = F.State.attnFields) (h0' : Off m a s0') (a1') : Off m a (State.attnFields s0' a1') := by
  unfold State.attnFields; exact (by extract_lets -merge x0 s1; (try clear_value x0); have h3 : Off m a s1 := (by unfold s1; exact (.foldl h0' (fun _ h2 _ => (State.setFrame_off (sb hm (by decide)) h2 ..)) _)); (try clear_value s1); (try clear_value s1); exact (.ite h3 (State.attnSend_off (sb hm (by decide)) h3 ..)))
def F.State.capSample : Nat := 0x200000000000000000000000000000000000000000000000000000000000000000000000000000000000000060000000000000000000000000000000000000000000001000000400020
theorem State.capSample_off {m a} (hm : F.State.capSample &&& m = F.State.capSample) (h0' : Off m a s0') (a1') (a2') (a3') : Off m a (State.capSample s0' a1' a2' a3') := by
  unfold State.capSample; exact (by extract_lets -merge x0 x1 s2 x5 s6 x8 s9 s11 s13; (try clear_value x0 x1 x5 x8); have h4 : Off m a s2 := (by unfold s2; exact (State.setCap_off (sb hm (by decide)) (State.cond_off h0' (fun _ h3 => (State.wr_off h3 (has_CTE_CAP_STAT_TRIGGERED (tb hm (by decide))) ..)) ..) ..)); (try clear_value s2); have h7 : Off m a s6 := (by unfold s6; exact (State.setCap_off (sb hm (by decide)) h4 ..)); (try clear_value s6); have h10 : Off m a s9 := (by unfold s9; exact (State.stIn_off (State.stIn_off h7 (tb hm (by decide)) ..) (tb hm (by decide)) ..)); (try clear_value s9); have h12 : Off m a s11 := (by unfold s11; exact (State.setCap_off (sb hm (by decide)) h10 ..)); (try clear_value s11); have h14 : Off m a s13 := (by unfold s13; exact (.ite (State.setCap_off (sb hm (by decide)) (State.wr_off h12 (has_CTE_CAP_STAT_TRIG_IDX (tb hm (by decide))) ..) ..) (State.setCap_off (sb hm (by decide)) h12 ..))); (try clear_value s13); (try clear_value s2 s6 s9 s11 s13); exact (.ite h0' (.ite h7 (.ite (State.int_off (sb hm (by decide)) (State.wr_off (State.setCap_off (sb hm (by decide)) h14 ..) (has_CTE_CAP_STAT_DONE (tb hm (by decide))) ..) ..) h14))))
def F.State.cteCapMem : Nat := 0x3000000000820
theorem State.cteCapMem_off {m a} (hm : F.State.cteCapMem &&& m = F.State.cteCapMem) (h0' : Off m a s0') (a1') : Off m a (State.cteCapMem s0' a1') := by
  unfold State.cteCapMem; exact (State.raise_off (sb hm (by decide)) (State.stIn_off (State.stIn_off h0' (tb hm (by decide)) ..) (tb hm (by decide)) ..) ..)
def F.State.cteMem : Nat := 0x3000000400802
theorem State.cteMem_off {m a} (hm : F.State.cteMem &&& m = F.State.cteMem) (h0' : Off m a s0') (a1') : Off m a (State.cteMem s0' a1') := by
  unfold State.cteMem; exact (by extract_lets -merge s0 s2 s4 s7; have h1 : Off m a s0 := (by unfold s0; exact (State.setLpW_off (sb hm (by decide)) (State.setLpF_off (sb hm (by decide)) h0' ..) ..)); (try clear_value s0); have h3 : Off m a s2 := (by unfold s2; exact (State.setLpBit_off (sb hm (by decide)) (State.setLpBit_off (sb hm (by decide)) h1 ..) ..)); (try clear_value s2); have h6 : Off m a s4 := (by unfold s4; exact (.foldl h3 (fun _ h5 _ => (State.setSect_off (sb hm (by decide)) h5 ..)) _)); (try clear_value s4); have h8 : Off m a s7 := (by unfold s7; exact (.ite (State.int_off (sb hm (by decide)) h6 ..) h0')); (try clear_value s7); (try clear_value s0 s2 s4 s7); exact (State.raise_off (sb hm (by decide)) h8 ..))
def F.State.ctePowerDown : Nat := 0xd01100000000000000000000000000000001000020400002
theorem State.ctePowerDown_off {m a} (hm : F.State.ctePowerDown &&& m = F.State.ctePowerDown) (h0' : Off m a s0') : Off m a (State.ctePowerDown s0') := by
  unfold State.ctePowerDown; exact (.foldl h0' (fun _ h0 _ => (.ite (State.loopHalt_off (sb hm (by decide)) h0 ..) (State.setLoop_off (sb hm (by decide)) h0 ..))) _)
def F.State.cteRestart : Nat := 0x400002
theorem State.cteRestart_off {m a} (hm : F.State.cteRestart &&& m = F.State.cteRestart) (h0' : Off m a s0') : Off m a (State.cteRestart s0') := by
  unfold State.cteRestart; exact (.foldl h0' (fun _ h0 _ => (by extract_lets -merge x1 x2 x3; (try clear_value x1 x2 x3); exact (State.setLoop_off (sb hm (by decide)) (State.setLpBit_off (sb hm (by decide)) h0 ..) ..))) _)
def F.State.deliverCode : Nat := 0x1000100000034082800000000ffc1000000000000000000030000a0028800
theorem State.deliverCode_off {m a} (hm : F.State.deliverCode &&& m = F.State.deliverCode) (h0' : Off m a s0') (a1') (a2') (a3') : Off m a (State.deliverCode s0' a1' a2' a3') := by
  unfold State.deliverCode; exact (by extract_lets -merge x0; (try clear_value x0); exact (by split; (· exact (.ite (State.setLane_off (sb hm (by decide)) h0' ..) h0')); (· exact (State.attnFields_off (sb hm (by decide)) h0' ..)); (· exact (State.bdacMove_off (sb hm (by decide)) (State.wr_off h0' (has_BDAC_CODE_CODE (tb hm (by decide))) ..) ..)); (· exact (State.setPwm_off (sb hm (by decide)) h0' ..)); (· exact (.ite h0' (State.coreRequest_off (sb hm (by decide)) h0' ..))); (· exact h0')))
def F.State.holdAt : Nat := 0x1000000000002
theorem State.holdAt_off {m a} (hm : F.State.holdAt &&& m = F.State.holdAt) (h0' : Off m a s0') (a1') : Off m a (State.holdAt s0' a1') := by
  unfold State.holdAt; exact (.ite h0' (by extract_lets -merge x0 x1 x2; (try clear_value x0 x1 x2); exact (State.cond_off (State.setLpBit_off (sb hm (by decide)) h0' ..) (fun _ h3 => (State.int_off (sb hm (by decide)) h3 ..)) ..)))
def F.State.injBoundary : Nat := 0x1000000000000000000000000000000001000000400000
theorem State.injBoundary_off {m a} (hm : F.State.injBoundary &&& m = F.State.injBoundary) (h0' : Off m a s0') (a1') : Off m a (State.injBoundary s0' a1') := by
  unfold State.injBoundary; exact (.ite h0' (by extract_lets -merge s0 s3; have h2 : Off m a s0 := (by unfold s0; exact (State.cond_off h0' (fun _ h1 => (State.injEnd_off (sb hm (by decide)) h1 ..)) ..)); (try clear_value s0); have h4 : Off m a s3 := (by unfold s3; exact (State.setInj_off (sb hm (by decide)) h2 ..)); (try clear_value s3); (try clear_value s0 s3); exact (.ite (State.setCap_off (sb hm (by decide)) (State.wr_off h4 (has_CTE_CAP_STAT_INJ_ACTIVE (tb hm (by decide))) ..) ..) h2)))
def F.State.injNext : Nat := 0x1000000000000000000000000000000001000000400000
theorem State.injNext_off {m a} (hm : F.State.injNext &&& m = F.State.injNext) (h0' : Off m a s0') (a1') : Off m a (State.injNext s0' a1') := by
  unfold State.injNext; exact (by extract_lets -merge x0 x1 x2 x3; (try clear_value x0 x1 x2 x3); exact (.ite (.ite (State.injEnd_off (sb hm (by decide)) h0' ..) (State.setInj_off (sb hm (by decide)) h0' ..)) h0'))
def F.State.loopFollow : Nat := 0x400002
theorem State.loopFollow_off {m a} (hm : F.State.loopFollow &&& m = F.State.loopFollow) (h0' : Off m a s0') (a1') : Off m a (State.loopFollow s0' a1') := by
  unfold State.loopFollow; exact (by extract_lets -merge s0; have h6 : Off m a s0 := (by unfold s0; exact (.foldl h0' (fun _ h1 _ => (by extract_lets -merge s2; have h4 : Off m a s2 := (by unfold s2; exact (State.cond_off h1 (fun _ h3 => (State.setLpF_off (sb hm (by decide)) h3 ..)) ..)); (try clear_value s2); (try clear_value s2); exact (State.cond_off h4 (fun _ h5 => (State.setLpF_off (sb hm (by decide)) h5 ..)) ..))) _)); (try clear_value s0); (try clear_value s0); exact (State.setLoop_off (sb hm (by decide)) h6 ..))
def F.State.loopSend : Nat := 0x1000100000034082800000000ffc1000000000000000000030000a0028802
theorem State.loopSend_off {m a} (hm : F.State.loopSend &&& m = F.State.loopSend) (h0' : Off m a s0') (a1') : Off m a (State.loopSend s0' a1') := by
  unfold State.loopSend; exact (by split; (· exact h0'); (· exact (by extract_lets -merge s0; have h1 : Off m a s0 := (by unfold s0; exact (State.setLpW_off (sb hm (by decide)) (State.deliverCode_off (sb hm (by decide)) h0' ..) ..)); (try clear_value s0); (try clear_value s0); exact (State.setLpF_off (sb hm (by decide)) h1 ..))))
def F.State.loopPowEnd : Nat := 0x400000
theorem State.loopPowEnd_off {m a} (hm : F.State.loopPowEnd &&& m = F.State.loopPowEnd) (h0' : Off m a s0') (a1') : Off m a (State.loopPowEnd s0' a1') := by
  unfold State.loopPowEnd; exact (State.setLoop_off (sb hm (by decide)) h0' ..)
def F.State.outSat : Nat := 0x1000000000002
theorem State.outSat_off {m a} (hm : F.State.outSat &&& m = F.State.outSat) (h0' : Off m a s0') (a1') : Off m a (State.outSat s0' a1') := by
  unfold State.outSat; exact (State.cond_off h0' (fun _ h0 => (State.int_off (sb hm (by decide)) (State.setLpBit_off (sb hm (by decide)) h0 ..) ..)) ..)
def F.State.transferred : Nat := 0x1000000000002
theorem State.transferred_off {m a} (hm : F.State.transferred &&& m = F.State.transferred) (h0' : Off m a s0') (a1') (a2') : Off m a (State.transferred s0' a1' a2') := by
  unfold State.transferred; exact (by extract_lets -merge s0; have h2 : Off m a s0 := (by unfold s0; exact (State.cond_off h0' (fun _ h1 => (State.int_off (sb hm (by decide)) (State.setLpBit_off (sb hm (by decide)) h1 ..) ..)) ..)); (try clear_value s0); (try clear_value s0); exact (State.int_off (sb hm (by decide)) h2 ..))
def F.State.modeAt : Nat := 0x1000000400002
theorem State.modeAt_off {m a} (hm : F.State.modeAt &&& m = F.State.modeAt) (h0' : Off m a s0') (a1') : Off m a (State.modeAt s0' a1').1 := by
  unfold State.modeAt; exact (by extract_lets -merge x0 x1 x2 s3 s5; (try clear_value x0 x1 x2); have h4 : Off m a s3 := (by unfold s3; exact (State.setLpBit_off (sb hm (by decide)) h0' ..)); (try clear_value s3); have h7 : Off m a s5 := (by unfold s5; exact (State.cond_off h4 (fun _ h6 => (State.setLpW_off (sb hm (by decide)) h6 ..)) ..)); (try clear_value s5); (try clear_value s3 s5); exact (.ite1 (.pr1 (State.setLoop_off (sb hm (by decide)) (State.setLpBit_off (sb hm (by decide)) (State.setLpBit_off (sb hm (by decide)) (State.setLpBit_off (sb hm (by decide)) h0' ..) ..) ..) ..)) (.ite1 (.pr1 (State.transferred_off (sb hm (by decide)) h7 ..)) (.pr1 h0'))))
def F.State.putSect : Nat := 0x1000000400000
theorem State.putSect_off {m a} (hm : F.State.putSect &&& m = F.State.putSect) (h0' : Off m a s0') (a1') (a2') : Off m a (State.putSect s0' a1' a2') := by
  unfold State.putSect; exact (by extract_lets -merge x0; (try clear_value x0); exact (State.cond_off (State.setSect_off (sb hm (by decide)) h0' ..) (fun _ h1 => (State.int_off (sb hm (by decide)) h1 ..)) ..))
def F.State.runInteg : Nat := 0x1000000400000
theorem State.runInteg_off {m a} (hm : F.State.runInteg &&& m = F.State.runInteg) (h0' : Off m a s0') (a1') (a2') : Off m a (State.runInteg s0' a1' a2').2 := by
  unfold State.runInteg; exact (by extract_lets -merge x0 x1 x2 x3 x4 s5 x7 x8; (try clear_value x0 x1 x2 x3 x4 x7 x8); have h6 : Off m a s5 := (by unfold s5; exact (.ite (State.setLoop_off (sb hm (by decide)) (State.setSect_off (sb hm (by decide)) h0' ..) ..) h0')); (try clear_value s5); (try clear_value s5); exact (.ite2 (by split; (· exact (.pr2 (State.putSect_off (sb hm (by decide)) h6 ..)))) (by split; (· exact (.pr2 (State.setLoop_off (sb hm (by decide)) (State.putSect_off (sb hm (by decide)) h6 ..) ..))))))
def F.State.runFront : Nat := 0x1000000400000
theorem State.runFront_off {m a s} (hm : F.State.runFront &&& m = F.State.runFront) (h : Off m a s) (l ks v) :
    Off m a (State.runFront s l ks v).2 := by
  unfold State.runFront
  extract_lets b
  clear_value b
  have gen : ∀ p : Rat × State, Off m a p.2 → Off m a (List.foldl (fun (a : Rat × State) k =>
      let (y, x) := (a.2.sect k).step b a.1
      (y, a.2.putSect k x)) p ks).2 := by
    induction ks with
    | nil => exact fun p hp => hp
    | cons k ks ih => exact fun p hp => ih _ (State.putSect_off (sb hm (by decide)) hp ..)
  exact gen _ h

def F.State.sampleCode : Nat := 0x1000000000002
theorem State.sampleCode_off {m a} (hm : F.State.sampleCode &&& m = F.State.sampleCode) (h0' : Off m a s0') (a1') (a2') : Off m a (State.sampleCode s0' a1' a2').2 := by
  unfold State.sampleCode; exact (.ite2 (by split; (· exact (.pr2 (State.cond_off h0' (fun _ h0 => (State.outSat_off (sb hm (by decide)) h0 ..)) ..)))) (by extract_lets -merge x1 x2 s3 x5; (try clear_value x1 x2 x5); have h4 : Off m a s3 := (by unfold s3; exact (State.setLpF_off (sb hm (by decide)) h0' ..)); (try clear_value s3); (try clear_value s3); exact (by split; (· exact (.pr2 (State.cond_off h4 (fun _ h6 => (State.outSat_off (sb hm (by decide)) h6 ..)) ..))))))
def F.State.loopEval : Nat := 0x200000000000000000000000000000000000000000000000000000000000000000000000000000000000000060000000000001000000000000000000000000000000001000000400022
theorem State.loopEval_off {m a} (hm : F.State.loopEval &&& m = F.State.loopEval) (h0' : Off m a s0') (a1') : Off m a (State.loopEval s0' a1') := by
  unfold State.loopEval; exact (by split; rename_i s2 x3 e0; have h1 : Off m a s2 := .fst e0 (State.modeAt_off (sb hm (by decide)) h0' ..); exact (by extract_lets -merge s4 x6 x7 x8 x9 x10; (try clear_value x6 x7 x8 x9 x10); have h5 : Off m a s4 := (by unfold s4; exact (State.holdAt_off (sb hm (by decide)) h1 ..)); (try clear_value s4); (try clear_value s4); exact (by split; rename_i x16 s15 e13; have h14 : Off m a s15 := .snd e13 (by split; (· exact (by extract_lets -merge s11; have h12 : Off m a s11 := (by unfold s11; exact (State.setLpW_off (sb hm (by decide)) h5 ..)); (try clear_value s11); (try clear_value s11); exact (State.runFront_off (sb hm (by decide)) h12 ..))); (· exact (.pr2 h5))); exact (by split; rename_i x20 s19 e17; have h18 : Off m a s19 := .snd e17 (.ite2 (.pr2 h14) (by split; (· exact (.pr2 (State.setLpBit_off (sb hm (by decide)) h14 ..))); (· exact (.ite2 (State.runInteg_off (sb hm (by decide)) h14 ..) (.pr2 h14))))); exact (by extract_lets -merge x21 x22 s23 x26 s27; (try clear_value x21 x22 x26); have h25 : Off m a s23 := (by unfold s23; exact (State.cond_off h18 (fun _ h24 => (State.outSat_off (sb hm (by decide)) h24 ..)) ..)); (try clear_value s23); have h29 : Off m a s27 := (by unfold s27; exact (State.cond_off h25 (fun _ h28 => (State.transferred_off (sb hm (by decide)) h28 ..)) ..)); (try clear_value s27); (try clear_value s23 s27); exact (by split; rename_i x33 s32 e30; have h31 : Off m a s32 := .snd e30 (State.sampleCode_off (sb hm (by decide)) h29 ..); exact (by extract_lets -merge s34 s36; have h35 : Off m a s34 := (by unfold s34; exact (State.injNext_off (sb hm (by decide)) (State.capSample_off (sb hm (by decide)) h31 ..) ..)); (try clear_value s34); have h37 : Off m a s36 := (by unfold s36; exact (State.setLoop_off (sb hm (by decide)) h35 ..)); (try clear_value s36); (try clear_value s34 s36); exact (State.setLpW_off (sb hm (by decide)) h37 ..))))))))
def F.State.loopBoundary : Nat := 0x600000000000000000200000000000000000000000000000000000000000000000000000000000000000000000000000000000001060100000034d83900000000ffc1000000000000000000030000a0528862
theorem State.loopBoundary_off {m a} (hm : F.State.loopBoundary &&& m = F.State.loopBoundary) (h0' : Off m a s0') (a1') (a2') (a3') : Off m a (State.loopBoundary s0' a1' a2' a3') := by
  unfold State.loopBoundary; exact (by extract_lets -merge s0 x3 s4 s6 s8 s11 s13 s16; (try clear_value x3); have h2 : Off m a s0 := (by unfold s0; exact (State.cond_off h0' (fun _ h1 => (State.satAdd_off h1 (has_CTE_ECC_CNT (tb hm (by decide))) ..)) ..)); (try clear_value s0); have h5 : Off m a s4 := (by unfold s4; exact (State.reach_off (sb hm (by decide)) h2 ..)); (try clear_value s4); have h7 : Off m a s6 := (by unfold s6; exact (State.loopFollow_off (sb hm (by decide)) h5 ..)); (try clear_value s6); have h10 : Off m a s8 := (by unfold s8; exact (State.cond_off h7 (fun _ h9 => (State.raise_off (sb hm (by decide)) (State.setLpBit_off (sb hm (by decide)) (State.satInc_off h9 (has_CTE_OVR_CNT (tb hm (by decide))) ..) ..) ..)) ..)); (try clear_value s8); have h12 : Off m a s11 := (by unfold s11; exact (State.setLoop_off (sb hm (by decide)) (State.loopSend_off (sb hm (by decide)) h10 ..) ..)); (try clear_value s11); have h15 : Off m a s13 := (by unfold s13; exact (State.cond_off h12 (fun _ h14 => (State.cueSwap_off (sb hm (by decide)) h14 ..)) ..)); (try clear_value s13); have h17 : Off m a s16 := (by unfold s16; exact (State.injBoundary_off (sb hm (by decide)) h15 ..)); (try clear_value s16); (try clear_value s0 s4 s6 s8 s11 s13 s16); exact (.ite h2 (.ite (State.loopHalt_off (sb hm (by decide)) h15 ..) (State.loopPowEnd_off (sb hm (by decide)) (.ite (State.loopEval_off (sb hm (by decide)) h17 ..) (State.setLoop_off (sb hm (by decide)) h17 ..)) ..))))
def F.State.loopEn : Nat := 0x8d01100000000000000000000000000000003000020400002
theorem State.loopEn_off {m a} (hm : F.State.loopEn &&& m = F.State.loopEn) (h0' : Off m a s0') (a1') (a2') (a3') : Off m a (State.loopEn s0' a1' a2' a3') := by
  unfold State.loopEn; exact (State.writeLpCfg_off (sb hm (by decide)) h0' ..)

end Sys2Proof.Machine
end

