-- ==== Sys2Proof/Laws/OffHk.lean ====
section
/-! SUPPORT. What the operations of Machine/Hk.lean reach: the pieces of the state and the register fields whose
numbers are set in the mask of each (`F`). -/
namespace Sys2Proof.Machine
open Sys2Proof
set_option Elab.async false

def F.State.hkTrigger : Nat := 0x202000000000000000000000000000000000000000001000008000000
theorem State.hkTrigger_off {m a} (hm : F.State.hkTrigger &&& m = F.State.hkTrigger) (h0' : Off m a s0') : Off m a (State.hkTrigger s0') := by
  unfold State.hkTrigger; exact (.ite h0' (.ite (State.int_off (sb hm (by decide)) (State.satInc_off h0' (has_HK_DISC_CNT (tb hm (by decide))) ..) ..) (State.setHk_off (sb hm (by decide)) (State.wr_off h0' (has_HK_STAT_HELD (tb hm (by decide))) ..) ..)))
def F.State.writeHkCtl : Nat := 0x202000000000000000000000000000000000000000001000008000000
theorem State.writeHkCtl_off {m a} (hm : F.State.writeHkCtl &&& m = F.State.writeHkCtl) (h0' : Off m a s0') (a1') : Off m a (State.writeHkCtl s0' a1') := by
  unfold State.writeHkCtl; exact (.ite (State.hkTrigger_off (sb hm (by decide)) h0' ..) h0')
def F.State.setHkChan : Nat := 0x8000000
theorem State.setHkChan_off {m a} (hm : F.State.setHkChan &&& m = F.State.setHkChan) (h0' : Off m a s0') (a1') (a2') : Off m a (State.setHkChan s0' a1' a2') := by
  unfold State.setHkChan; exact (State.setHk_off (sb hm (by decide)) h0' ..)
def F.State.hkFresh : Nat := 0x8000000
theorem State.hkFresh_off {m a} (hm : F.State.hkFresh &&& m = F.State.hkFresh) (h0' : Off m a s0') (_ : Off m a s1') : Off m a (State.hkFresh s0' s1') := by
  unfold State.hkFresh; exact (.foldl h0' (fun _ h0 _ => (State.setHkChan_off (sb hm (by decide)) h0 ..)) _)
def F.State.writeHkMask : Nat := 0x8000000000000000000000000000000000000000000000000000000000000000000000000000000000000000000000000008000000
theorem State.writeHkMask_off {m a} (hm : F.State.writeHkMask &&& m = F.State.writeHkMask) (h0' : Off m a s0') (a1') : Off m a (State.writeHkMask s0' a1') := by
  unfold State.writeHkMask; exact (State.hkFresh_off (sb hm (by decide)) (State.wr_off h0' (has_HK_SCAN_MASK (tb hm (by decide))) ..) h0' ..)
def F.State.writeHkTimer : Nat := 0x10000000000000000000000000000000000000000000000000000000000000000000000000000000000000000000002000000000000
theorem State.writeHkTimer_off {m a} (hm : F.State.writeHkTimer &&& m = F.State.writeHkTimer) (h0' : Off m a s0') (a1') : Off m a (State.writeHkTimer s0' a1') := by
  unfold State.writeHkTimer; exact (.ite (State.refuse_off (sb hm (by decide)) h0' ..) (State.wr_off h0' (has_HK_TIMER (tb hm (by decide))) ..))
def F.State.writeHkTrig : Nat := 0x3e0000000000000000000000000000000000000000000000000000000000000000000000000000000000000000000002000000000000
theorem State.writeHkTrig_off {m a} (hm : F.State.writeHkTrig &&& m = F.State.writeHkTrig) (h0' : Off m a s0') (a1') : Off m a (State.writeHkTrig s0' a1') := by
  unfold State.writeHkTrig; exact (.ite (State.refuse_off (sb hm (by decide)) h0' ..) (State.wrWord_off h0' (.cons (has_HK_TRIG_TIMER_EN (tb hm (by decide))) (.cons (has_HK_TRIG_PWM_EN (tb hm (by decide))) (.cons (has_HK_TRIG_PWM_EDGE (tb hm (by decide))) (.cons (has_HK_TRIG_PWM_CH (tb hm (by decide))) (.cons (has_HK_TRIG_DELAY (tb hm (by decide))) .nil))))) ..))
def F.State.writeHkCfg : Nat := 0x7000000000000000000000000000000000000000000000000000000000000000000000000000000000000000000000000008000000
theorem State.writeHkCfg_off {m a} (hm : F.State.writeHkCfg &&& m = F.State.writeHkCfg) (h0' : Off m a s0') (a1') : Off m a (State.writeHkCfg s0' a1') := by
  unfold State.writeHkCfg; exact (State.hkFresh_off (sb hm (by decide)) (State.wrWord_off h0' (.cons (has_HK_CFG_EN (tb hm (by decide))) (.cons (has_HK_CFG_LP (tb hm (by decide))) (.cons (has_HK_CFG_FILT (tb hm (by decide))) .nil))) ..) h0' ..)
def F.State.writeThmCtl : Nat := 0x10000000000000000000000000000000000000000000000000000000000000000000000000000
theorem State.writeThmCtl_off {m a} (hm : F.State.writeThmCtl &&& m = F.State.writeThmCtl) (h0' : Off m a s0') (a1') : Off m a (State.writeThmCtl s0' a1') := by
  unfold State.writeThmCtl; exact (.ite (.foldl h0' (fun _ h0 _ => (State.wr_off h0 (has_THM_MAX (tb hm (by decide))) ..)) _) h0')
def F.State.writePwmPer : Nat := 0x400000000000000000000000000000000000000000000000000000000000000000000000000000000000000000000000002000000000000
theorem State.writePwmPer_off {m a} (hm : F.State.writePwmPer &&& m = F.State.writePwmPer) (h0' : Off m a s0') (a1') (a2') : Off m a (State.writePwmPer s0' a1' a2') := by
  unfold State.writePwmPer; exact (.ite (State.refuse_off (sb hm (by decide)) h0' ..) (State.wr_off h0' (has_PWM_PER (tb hm (by decide))) ..))
def F.State.pwmIgnore : Nat := 0x400000000000000000000000000000000000000000000000000000000000000000001000000000000
theorem State.pwmIgnore_off {m a} (hm : F.State.pwmIgnore &&& m = F.State.pwmIgnore) (h0' : Off m a s0') : Off m a (State.pwmIgnore s0') := by
  unfold State.pwmIgnore; exact (State.int_off (sb hm (by decide)) (State.satInc_off h0' (has_PWM_IGNWR_CNT (tb hm (by decide))) ..) ..)
def F.State.writePwmDuty : Nat := 0x400000000000000000000000000000000000100000000000000000000000000000003000000000000
theorem State.writePwmDuty_off {m a} (hm : F.State.writePwmDuty &&& m = F.State.writePwmDuty) (h0' : Off m a s0') (a1') (a2') : Off m a (State.writePwmDuty s0' a1' a2') := by
  unfold State.writePwmDuty; exact (.ite (State.pwmIgnore_off (sb hm (by decide)) h0' ..) (.ite (State.refuse_off (sb hm (by decide)) h0' ..) (State.wr_off h0' (has_PWM_DUTY (tb hm (by decide))) ..)))
def F.State.writePwmCfg : Nat := 0x3e0000000000000000000000000000000000000000000000000000000000000000000000000000000000000000000000000000000000000
theorem State.writePwmCfg_off {m a} (hm : F.State.writePwmCfg &&& m = F.State.writePwmCfg) (h0' : Off m a s0') (a1') (a2') : Off m a (State.writePwmCfg s0' a1' a2') := by
  unfold State.writePwmCfg; exact (State.wrWord_off h0' (.cons (has_PWM_CFG_EN (tb hm (by decide))) (.cons (has_PWM_CFG_POL (tb hm (by decide))) (.cons (has_PWM_CFG_SHUT_EN (tb hm (by decide))) (.cons (has_PWM_CFG_PRESC (tb hm (by decide))) (.cons (has_PWM_CFG_SHUT_DUTY (tb hm (by decide))) .nil))))) ..)
def F.State.writeBdacCfg : Nat := 0x18000000000000000000000000000000000000000000000000000000800000000000000000000000000000000000000000000
theorem State.writeBdacCfg_off {m a} (hm : F.State.writeBdacCfg &&& m = F.State.writeBdacCfg) (h0' : Off m a s0') (a1') (a2') : Off m a (State.writeBdacCfg s0' a1' a2') := by
  unfold State.writeBdacCfg; exact (State.bdacMove_off (sb hm (by decide)) (State.wrWord_off h0' (.cons (has_BDAC_CFG_SAFE (tb hm (by decide))) (.cons (has_BDAC_CFG_STEP (tb hm (by decide))) .nil)) ..) ..)
def F.State.writeBdacCode : Nat := 0x400000000000000000001000000000000000800000000000000000000000000000001000000000000
theorem State.writeBdacCode_off {m a} (hm : F.State.writeBdacCode &&& m = F.State.writeBdacCode) (h0' : Off m a s0') (a1') (a2') : Off m a (State.writeBdacCode s0' a1' a2') := by
  unfold State.writeBdacCode; exact (.ite (State.pwmIgnore_off (sb hm (by decide)) h0' ..) (State.bdacMove_off (sb hm (by decide)) (State.wr_off h0' (has_BDAC_CODE_CODE (tb hm (by decide))) ..) ..))
def F.State.writeThmCfg : Nat := 0x3000000000000000000000000000000000000000000000000000000000000000000000000000000000000000000000000000000000000000002000000000000
theorem State.writeThmCfg_off {m a} (hm : F.State.writeThmCfg &&& m = F.State.writeThmCfg) (h0' : Off m a s0') (a1') : Off m a (State.writeThmCfg s0' a1') := by
  unfold State.writeThmCfg; exact (.ite (State.refuse_off (sb hm (by decide)) h0' ..) (State.wrWord_off h0' (.cons (has_THM_CFG_THR_EN (tb hm (by decide))) (.cons (has_THM_CFG_HYST (tb hm (by decide))) .nil)) ..))
def F.State.bdacAll : Nat := 0x800000000000000000000000000000000000000000000
theorem State.bdacAll_off {m a} (hm : F.State.bdacAll &&& m = F.State.bdacAll) (h0' : Off m a s0') : Off m a (State.bdacAll s0') := by
  unfold State.bdacAll; exact (.foldl h0' (fun _ h0 _ => (State.bdacMove_off (sb hm (by decide)) h0 ..)) _)
def F.State.bdacStep : Nat := 0x800000000000000000000000000000000000200100040
theorem State.bdacStep_off {m a} (hm : F.State.bdacStep &&& m = F.State.bdacStep) (h0' : Off m a s0') : Off m a (State.bdacStep s0') := by
  unfold State.bdacStep; exact (by extract_lets -merge s0; have h1 : Off m a s0 := (by unfold s0; exact (State.toMul_off (sb hm (by decide)) h0' ..)); (try clear_value s0); (try clear_value s0); exact (.foldl h1 (fun _ h2 _ => (by extract_lets -merge x3 x4 x5; (try clear_value x3 x4 x5); exact (State.wr_off h2 (has_BDAC_CODE_OUT (tb hm (by decide))) ..))) _))
def F.State.coolEval : Nat := 0x10000000000000000000000000000000000000000000000000000000000000000000000000000000000000000000000000000000000000000000000000000000000010000000
theorem State.coolEval_off {m a} (hm : F.State.coolEval &&& m = F.State.coolEval) (h0' : Off m a s0') : Off m a (State.coolEval s0') := by
  unfold State.coolEval; exact (.ite h0' (by extract_lets -merge x0 s1; (try clear_value x0); have h2 : Off m a s1 := (by unfold s1; exact (State.setThm_off (sb hm (by decide)) h0' ..)); (try clear_value s1); (try clear_value s1); exact (State.wr_off h2 (has_THM_STAT_COOLING (tb hm (by decide))) ..)))
def F.State.hkConvert : Nat := 0x8000000
theorem State.hkConvert_off {m a} (hm : F.State.hkConvert &&& m = F.State.hkConvert) (h0' : Off m a s0') (a1') (a2') (a3') (a4') : Off m a (State.hkConvert s0' a1' a2' a3' a4') := by
  unfold State.hkConvert; exact (State.setHk_off (sb hm (by decide)) h0' ..)
def F.State.hkNext : Nat := 0x800000000000000000000000000000000000000000000000000000000000000000000000000000000000000000000000000000000000000000000000000000000008000000
theorem State.hkNext_off {m a} (hm : F.State.hkNext &&& m = F.State.hkNext) (h0' : Off m a s0') : Off m a (State.hkNext s0') := by
  unfold State.hkNext; exact (by extract_lets -merge s0; have h1 : Off m a s0 := (by unfold s0; exact (.ite (State.setHk_off (sb hm (by decide)) (State.wr_off h0' (has_HK_STAT_SLOW (tb hm (by decide))) ..) ..) h0')); (try clear_value s0); (try clear_value s0); exact (by split; (· exact (State.hkConvert_off (sb hm (by decide)) (State.setHk_off (sb hm (by decide)) h1 ..) ..)); (· exact (State.hkConvert_off (sb hm (by decide)) (State.setHk_off (sb hm (by decide)) h1 ..) ..)); (· exact (State.setHk_off (sb hm (by decide)) h1 ..))))
def F.State.stepEval : Nat := 0x30000000000000000000000000000000000000000000000000000000000000000000000000000000000000000000000000000000000000000000000000000000000000003ff000011001800
theorem State.stepEval_off {m a} (hm : F.State.stepEval &&& m = F.State.stepEval) (h0' : Off m a s0') (a1') : Off m a (State.stepEval s0' a1') := by
  unfold State.stepEval; exact (by extract_lets -merge x0 x1 s2 s4 s7 s9; (try clear_value x0 x1); have h3 : Off m a s2 := (by unfold s2; exact (State.setThm_off (sb hm (by decide)) (State.wr_off h0' (has_THM_STAT_STEP (tb hm (by decide))) ..) ..)); (try clear_value s2); have h6 : Off m a s4 := (by unfold s4; exact (State.cond_off h3 (fun _ h5 => (State.satInc_off h5 (has_THM_STEP_CNT (tb hm (by decide))) ..)) ..)); (try clear_value s4); have h8 : Off m a s7 := (by unfold s7; exact (State.journalInt_off (sb hm (by decide)) h6 ..)); (try clear_value s7); have h11 : Off m a s9 := (by unfold s9; exact (State.cond_off h8 (fun _ h10 => (State.raise_off (sb hm (by decide)) (State.stand_off (sb hm (by decide)) h10 ..) ..)) ..)); (try clear_value s9); (try clear_value s2 s4 s7 s9); exact (.ite h0' (State.cond_off h11 (fun _ h12 => (State.unstand_off (sb hm (by decide)) h12 ..)) ..)))
def F.State.shutdown : Nat := 0x800000000030000000000000000000000000000000000000000000000000000000000000000000000000000000000000000000d019000041f1003ef3ffffffffffffffffff000075fff843
theorem State.shutdown_off {m a} (hm : F.State.shutdown &&& m = F.State.shutdown) (h0' : Off m a s0') (a1') : Off m a (State.shutdown s0' a1') := by
  unfold State.shutdown; exact (by extract_lets -merge s0 s2 s4 s7 x10 s11 s14 s17 s20 s22; (try clear_value x10); have h1 : Off m a s0 := (by unfold s0; exact (State.wr_off (State.setThm_off (sb hm (by decide)) h0' ..) (has_THM_STAT_SHUT (tb hm (by decide))) ..)); (try clear_value s0); have h3 : Off m a s2 := (by unfold s2; exact (State.satInc_off (State.wr_off h1 (has_THM_STAT_COOLING (tb hm (by decide))) ..) (has_THM_SHUT_CNT (tb hm (by decide))) ..)); (try clear_value s2); have h6 : Off m a s4 := (by unfold s4; exact (.foldl h3 (fun _ h5 _ => (State.detectInt_off (sb hm (by decide)) (State.stand_off (sb hm (by decide)) h5 ..) ..)) _)); (try clear_value s4); have h9 : Off m a s7 := (by unfold s7; exact (.foldl h6 (fun _ h8 _ => (State.portOff_off (sb hm (by decide)) h8 ..)) _)); (try clear_value s7); have h13 : Off m a s11 := (by unfold s11; exact (.foldl h9 (fun _ h12 _ => (State.setLane_off (sb hm (by decide)) (State.laneDisable_off (sb hm (by decide)) h12 ..) ..)) _)); (try clear_value s11); have h16 : Off m a s14 := (by unfold s14; exact (.foldl h13 (fun _ h15 _ => (State.setSynState_off (sb hm (by decide)) h15 ..)) _)); (try clear_value s14); have h19 : Off m a s17 := (by unfold s17; exact (.foldl h16 (fun _ h18 _ => (State.setCv_off (sb hm (by decide)) (State.cvWr_off h18 (has_CONVRX_STAT_CAL_DONE (tb hm (by decide))) (has_CONVTX_STAT_CAL_DONE (tb hm (by decide))) ..) ..)) _)); (try clear_value s17); have h21 : Off m a s20 := (by unfold s20; exact (State.cancelCmd_off (sb hm (by decide)) h19 ..)); (try clear_value s20); have h24 : Off m a s22 := (by unfold s22; exact (State.cond_off h21 (fun _ h23 => (State.toRehearsal_off (sb hm (by decide)) h23 ..)) ..)); (try clear_value s22); (try clear_value s0 s2 s4 s7 s11 s14 s17 s20 s22); exact (State.bdacAll_off (sb hm (by decide)) (State.ctePowerDown_off (sb hm (by decide)) h24 ..) ..))
def F.State.thermalEval : Nat := 0x380000000003800000000030000000000000000000000000000000000000000000000000000000000000000000000000000000000000000000d019000041f1003ef3ffffffffffffffffff000075fff843
theorem State.thermalEval_off {m a} (hm : F.State.thermalEval &&& m = F.State.thermalEval) (h0' : Off m a s0') : Off m a (State.thermalEval s0') := by
  unfold State.thermalEval; exact (by extract_lets -merge s0 x2 x3 s4 x6 s7 s9; (try clear_value x2 x3 x6); have h1 : Off m a s0 := (by unfold s0; exact (by split; (· exact (State.stepEval_off (sb hm (by decide)) (State.wr_off (State.wrS_off h0' (has_THM_STAT_T_HOT (tb hm (by decide))) ..) (has_THM_STAT_HOT_SENS (tb hm (by decide))) ..) ..)); (· exact h0'))); (try clear_value s0); have h5 : Off m a s4 := (by unfold s4; exact (State.wr_off h1 (has_THM_STAT_BLIND (tb hm (by decide))) ..)); (try clear_value s4); have h8 : Off m a s7 := (by unfold s7; exact (State.setThm_off (sb hm (by decide)) h5 ..)); (try clear_value s7); have h11 : Off m a s9 := (by unfold s9; exact (.ite (State.shutdown_off (sb hm (by decide)) h8 ..) (.foldl h8 (fun _ h10 _ => (State.raise_off (sb hm (by decide)) (State.stand_off (sb hm (by decide)) h10 ..) ..)) _))); (try clear_value s9); (try clear_value s0 s4 s7 s9); exact (State.coolEval_off (sb hm (by decide)) h11 ..))
def F.State.hkStore : Nat := 0x7f80000000000100000000000000000000000000000000000000000000000000000000000000000010000000000000000000000000000000000000000000000000000000000000001000018000000
theorem State.hkStore_off {m a} (hm : F.State.hkStore &&& m = F.State.hkStore) (h0' : Off m a s0') (a1') (a2') (a3') : Off m a (State.hkStore s0' a1' a2' a3') := by
  unfold State.hkStore; exact (by extract_lets -merge x0 x1 x2 s3 s5 s7 s9 s11 s13; (try clear_value x0 x1 x2); have h4 : Off m a s3 := (by unfold s3; exact (State.wr_off (State.wr_off (State.wr_off h0' (has_HK_RES_VALID (tb hm (by decide))) ..) (has_HK_RES_SUSPECT (tb hm (by decide))) ..) (has_HK_RES_OVR (tb hm (by decide))) ..)); (try clear_value s3); have h6 : Off m a s5 := (by unfold s5; exact (State.wr_off (State.wr_off (State.wr_off h4 (has_HK_RES_SLOW (tb hm (by decide))) ..) (has_HK_RES_LATE (tb hm (by decide))) ..) (has_HK_RES_VALUE (tb hm (by decide))) ..)); (try clear_value s5); have h8 : Off m a s7 := (by unfold s7; exact (State.setHkChan_off (sb hm (by decide)) (State.inc_off h6 (has_HK_RES_CNT (tb hm (by decide))) ..) ..)); (try clear_value s7); have h10 : Off m a s9 := (by unfold s9; exact (.ite (State.setHk_off (sb hm (by decide)) (State.int_off (sb hm (by decide)) (State.satInc_off (State.orBits_off h8 (has_HK_OVR_STICKY (tb hm (by decide))) ..) (has_HK_OVR_CNT (tb hm (by decide))) ..) ..) ..) h8)); (try clear_value s9); have h12 : Off m a s11 := (by unfold s11; exact (State.setHkChan_off (sb hm (by decide)) h10 ..)); (try clear_value s11); have h14 : Off m a s13 := (by unfold s13; exact (State.setThm_off (sb hm (by decide)) h12 ..)); (try clear_value s13); (try clear_value s3 s5 s7 s9 s11 s13); exact (.ite h10 (.ite (.ite (State.wr_off h14 (has_THM_MAX (tb hm (by decide))) ..) h14) h12)))
def F.State.scanEnd : Nat := 0x600000000000000000000000000000000000000000000000000000000000000000000000000000000000000000000000000000000000000000000000000000000001000008000000
theorem State.scanEnd_off {m a} (hm : F.State.scanEnd &&& m = F.State.scanEnd) (h0' : Off m a s0') : Off m a (State.scanEnd s0') := by
  unfold State.scanEnd; exact (State.int_off (sb hm (by decide)) (State.inc_off (State.wr_off (State.setHk_off (sb hm (by decide)) h0' ..) (has_HK_STAT_BUSY (tb hm (by decide))) ..) (has_HK_STAT_SCAN_CNT (tb hm (by decide))) ..) ..)
def F.State.hkConvEnd : Nat := 0x380007f80003800000700030800000000000000000000000000000000000000000000000000000000000010000000000000000000000000000d019000041f1003ef3ffffffffffffffffff00007dfff843
theorem State.hkConvEnd_off {m a} (hm : F.State.hkConvEnd &&& m = F.State.hkConvEnd) (h0' : Off m a s0') (a1') (a2') : Off m a (State.hkConvEnd s0' a1' a2') := by
  unfold State.hkConvEnd; exact (by split; (· exact h0'); (· exact (by extract_lets -merge s0 s2 s4 s7 s10; have h1 : Off m a s0 := (by unfold s0; exact (State.setHk_off (sb hm (by decide)) (State.reach_off (sb hm (by decide)) h0' ..) ..)); (try clear_value s0); have h3 : Off m a s2 := (by unfold s2; exact (State.hkStore_off (sb hm (by decide)) h1 ..)); (try clear_value s2); have h6 : Off m a s4 := (by unfold s4; exact (State.cond_off h3 (fun _ h5 => (State.thermalEval_off (sb hm (by decide)) h5 ..)) ..)); (try clear_value s4); have h9 : Off m a s7 := (by unfold s7; exact (State.cond_off h6 (fun _ h8 => (State.setHk_off (sb hm (by decide)) (State.wr_off h8 (has_HK_STAT_SLOW (tb hm (by decide))) ..) ..)) ..)); (try clear_value s7); have h12 : Off m a s10 := (by unfold s10; exact (State.cond_off h9 (fun _ h11 => (State.scanEnd_off (sb hm (by decide)) h11 ..)) ..)); (try clear_value s10); (try clear_value s0 s2 s4 s7 s10); exact (State.hkNext_off (sb hm (by decide)) h12 ..))))
def F.State.hkFault : Nat := 0x100000000000000000000000000000000000000000000000000000000000000000000000000000000000000000000000000000000000000000000000000000000003000000000800
theorem State.hkFault_off {m a} (hm : F.State.hkFault &&& m = F.State.hkFault) (h0' : Off m a s0') (a1') (a2') : Off m a (State.hkFault s0' a1' a2') := by
  unfold State.hkFault; exact (State.raise_off (sb hm (by decide)) (State.wr_off h0' (has_HK_RES_VALID (tb hm (by decide))) ..) ..)
def F.State.hkPwm : Nat := 0x202000000000000000000000000000000000000000001000008000000
theorem State.hkPwm_off {m a} (hm : F.State.hkPwm &&& m = F.State.hkPwm) (h0' : Off m a s0') : Off m a (State.hkPwm s0') := by
  unfold State.hkPwm; exact (by extract_lets -merge x0 x1 x2; (try clear_value x0 x1 x2); exact (.ite (State.hkTrigger_off (sb hm (by decide)) h0' ..) h0'))
def F.State.hkTimer : Nat := 0x202000000000000000000000000000000000000000001000208100040
theorem State.hkTimer_off {m a} (hm : F.State.hkTimer &&& m = F.State.hkTimer) (h0' : Off m a s0') : Off m a (State.hkTimer s0') := by
  unfold State.hkTimer; exact (.ite (State.hkTrigger_off (sb hm (by decide)) (State.toMul_off (sb hm (by decide)) h0' ..) ..) h0')
def F.State.pwmEdge : Nat := 0x20100040
theorem State.pwmEdge_off {m a} (hm : F.State.pwmEdge &&& m = F.State.pwmEdge) (h0' : Off m a s0') (a1') : Off m a (State.pwmEdge s0' a1') := by
  unfold State.pwmEdge; exact (by extract_lets -merge x0 x1; (try clear_value x0 x1); exact (.ite h0' (State.setPwm_off (sb hm (by decide)) (State.reach_off (sb hm (by decide)) h0' ..) ..)))
def F.State.pwmFault : Nat := 0x10000000000000000000000000000000000000000000000000000000000000000000000000000000000000000000000000000000000000000000000000000000000000000000000000000000000003000020000800
theorem State.pwmFault_off {m a} (hm : F.State.pwmFault &&& m = F.State.pwmFault) (h0' : Off m a s0') (a1') (a2') : Off m a (State.pwmFault s0' a1' a2') := by
  unfold State.pwmFault; exact (.ite (State.raise_off (sb hm (by decide)) (State.setPwm_off (sb hm (by decide)) h0' ..) ..) (State.raiseInt_off (sb hm (by decide)) (State.stand_off (sb hm (by decide)) (State.wr_off h0' (has_PWM_STAT_MISMATCH (tb hm (by decide))) ..) ..) ..))
def F.State.pwmStart : Nat := 0x100000000000000000000000000000000000020100040
theorem State.pwmStart_off {m a} (hm : F.State.pwmStart &&& m = F.State.pwmStart) (h0' : Off m a s0') (a1') : Off m a (State.pwmStart s0' a1') := by
  unfold State.pwmStart; exact (by extract_lets -merge x0 s1 x3 s4 x6 x7 x8 x9 x10; (try clear_value x0 x3 x6 x7 x8 x9 x10); have h2 : Off m a s1 := (by unfold s1; exact (State.reach_off (sb hm (by decide)) h0' ..)); (try clear_value s1); have h5 : Off m a s4 := (by unfold s4; exact (by split; (· exact (State.wr_off h2 (has_PWM_DUTY (tb hm (by decide))) ..)); (· exact h2))); (try clear_value s4); (try clear_value s1 s4); exact (State.setPwm_off (sb hm (by decide)) h5 ..))
def F.State.scanStart : Nat := 0x1800000000000000000000000600000800000000000000000000000000000000000000000000000000000000000000000000000000000000002000000000000000000000000000000000000000001000008100040
theorem State.scanStart_off {m a} (hm : F.State.scanStart &&& m = F.State.scanStart) (h0' : Off m a s0') : Off m a (State.scanStart s0') := by
  unfold State.scanStart; exact (by split; (· exact h0'); (· exact (.ite h0' (by extract_lets -merge x0 s1 s3 x6 s7; (try clear_value x0 x6); have h2 : Off m a s1 := (by unfold s1; exact (State.reach_off (sb hm (by decide)) h0' ..)); (try clear_value s1); have h5 : Off m a s3 := (by unfold s3; exact (State.cond_off h2 (fun _ h4 => (State.int_off (sb hm (by decide)) (State.satInc_off (State.wr_off h4 (has_HK_STAT_LATE (tb hm (by decide))) ..) (has_HK_LATE_CNT (tb hm (by decide))) ..) ..)) ..)); (try clear_value s3); have h8 : Off m a s7 := (by unfold s7; exact (State.setHk_off (sb hm (by decide)) (State.wr_off (State.wr_off h5 (has_HK_STAT_HELD (tb hm (by decide))) ..) (has_HK_STAT_BUSY (tb hm (by decide))) ..) ..)); (try clear_value s7); (try clear_value s1 s3 s7); exact (.ite (State.scanEnd_off (sb hm (by decide)) h8 ..) (State.hkNext_off (sb hm (by decide)) h8 ..))))))
def F.State.slowRequest : Nat := 0x800000000000000000000000000000000000000000000000000000000000000000000000000000000000000000000000000000000000000000000000000000000208100040
theorem State.slowRequest_off {m a} (hm : F.State.slowRequest &&& m = F.State.slowRequest) (h0' : Off m a s0') : Off m a (State.slowRequest s0') := by
  unfold State.slowRequest; exact (by extract_lets -merge x0 s1; (try clear_value x0); have h2 : Off m a s1 := (by unfold s1; exact (State.setHk_off (sb hm (by decide)) (.ite (State.mark_off (sb hm (by decide)) h0' ..) (State.toMul_off (sb hm (by decide)) h0' ..)) ..)); (try clear_value s1); (try clear_value s1); exact (.ite h2 (State.hkNext_off (sb hm (by decide)) h2 ..)))
def F.State.thermalRestart : Nat := 0x100000000000000000000000000000000000000000000000000000000000000000000000000000000000000000000008001e05b100000c000000c00280000801000010472802
theorem State.thermalRestart_off {m a} (hm : F.State.thermalRestart &&& m = F.State.thermalRestart) (h0' : Off m a s0') : Off m a (State.thermalRestart s0') := by
  unfold State.thermalRestart; exact (by split; (· exact h0'); (· exact (.ite h0' (by extract_lets -merge s0 s2 s5 s8; have h1 : Off m a s0 := (by unfold s0; exact (State.wr_off (State.setThm_off (sb hm (by decide)) h0' ..) (has_THM_STAT_COOLING (tb hm (by decide))) ..)); (try clear_value s0); have h4 : Off m a s2 := (by unfold s2; exact (.foldl h1 (fun _ h3 _ => (.ite h3 (State.synStart_off (sb hm (by decide)) (State.setSynErr_off (sb hm (by decide)) (State.setSyn_off (sb hm (by decide)) h3 ..) ..) ..))) _)); (try clear_value s2); have h7 : Off m a s5 := (by unfold s5; exact (State.portsEval_off (sb hm (by decide)) (.foldl h4 (fun _ h6 _ => (State.estReset_off (sb hm (by decide)) h6 ..)) _) ..)); (try clear_value s5); have h9 : Off m a s8 := (by unfold s8; exact (State.bdacAll_off (sb hm (by decide)) (State.cteRestart_off (sb hm (by decide)) h7 ..) ..)); (try clear_value s8); (try clear_value s0 s2 s5 s8); exact (State.cond_off h9 (fun _ h10 => (State.wr_off h10 (has_SYS_STATE_PENDING (tb hm (by decide))) ..)) ..)))))

end Sys2Proof.Machine
end

