-- ==== Sys2Proof/Laws/OffIc.lean ====
section
/-! SUPPORT. What the operations of Machine/Ic.lean reach: the pieces of the state and the register fields whose
numbers are set in the mask of each (`F`). -/
namespace Sys2Proof.Machine
open Sys2Proof
set_option Elab.async false

def F.State.setSrc : Nat := 0x2000000
theorem State.setSrc_off {m a} (hm : F.State.setSrc &&& m = F.State.setSrc) (h0' : Off m a s0') (a1') (a2') : Off m a (State.setSrc s0' a1' a2') := by
  unfold State.setSrc; exact (State.setHif_off (sb hm (by decide)) h0' ..)
def F.State.icCheck : Nat := 0x3ff000001001800
theorem State.icCheck_off {m a} (hm : F.State.icCheck &&& m = F.State.icCheck) (h0' : Off m a s0') (a1') : Off m a (State.icCheck s0' a1') := by
  unfold State.icCheck; exact (by extract_lets -merge x0; (try clear_value x0); exact (.ite h0' (State.raise_off (sb hm (by decide)) (State.stand_off (sb hm (by decide)) (State.journal_off (sb hm (by decide)) h0' ..) ..) ..)))
def F.State.toHost : Nat := 0x2000000
theorem State.toHost_off {m a} (hm : F.State.toHost &&& m = F.State.toHost) (h0' : Off m a s0') (a1') : Off m a (State.toHost s0' a1') := by
  unfold State.toHost; exact (State.setHif_off (sb hm (by decide)) h0' ..)
def F.State.msix : Nat := 0x2000000
theorem State.msix_off {m a} (hm : F.State.msix &&& m = F.State.msix) (h0' : Off m a s0') (a1') : Off m a (State.msix s0' a1') := by
  unfold State.msix; exact (.ite h0' (.ite (State.setHif_off (sb hm (by decide)) h0' ..) (State.toHost_off (sb hm (by decide)) h0' ..)))
def F.State.lineEval : Nat := 0x2000000
theorem State.lineEval_off {m a} (hm : F.State.lineEval &&& m = F.State.lineEval) (h0' : Off m a s0') (a1') : Off m a (State.lineEval s0' a1') := by
  unfold State.lineEval; exact (.foldl h0' (fun _ h0 _ => (by extract_lets -merge x1 x2 x3 s4; (try clear_value x1 x2 x3); have h5 : Off m a s4 := (by unfold s4; exact (State.setHif_off (sb hm (by decide)) h0 ..)); (try clear_value s4); (try clear_value s4); exact (.ite (State.cond_off h5 (fun _ h6 => (State.msix_off (sb hm (by decide)) h6 ..)) ..) (State.setHif_off (sb hm (by decide)) h5 ..)))) _)
def F.State.icClaim : Nat := 0x40000000000000000000000000000000000000000000000000000000000000000000000000000000000000000000000000000000000000003ff000003001800
theorem State.icClaim_off {m a} (hm : F.State.icClaim &&& m = F.State.icClaim) (h0' : Off m a s0') (a1') (a2') : Off m a (State.icClaim s0' a1' a2').1 := by
  unfold State.icClaim; exact (by extract_lets -merge x0 s1 s3; (try clear_value x0); have h2 : Off m a s1 := (by unfold s1; exact (State.setSrc_off (sb hm (by decide)) h0' ..)); (try clear_value s1); have h4 : Off m a s3 := (by unfold s3; exact (State.setHif_off (sb hm (by decide)) h2 ..)); (try clear_value s3); (try clear_value s1 s3); exact (.ite1 (.pr1 (State.satInc_off h0' (has_IC_SPUR_CNT (tb hm (by decide))) ..)) (.pr1 (State.lineEval_off (sb hm (by decide)) (State.icCheck_off (sb hm (by decide)) h4 ..) ..))))
def F.State.writeVecCtl : Nat := 0x2000008
theorem State.writeVecCtl_off {m a} (hm : F.State.writeVecCtl &&& m = F.State.writeVecCtl) (h0' : Off m a s0') (a1') (a2') : Off m a (State.writeVecCtl s0' a1' a2') := by
  unfold State.writeVecCtl; exact (by extract_lets -merge x0 s1 s3; (try clear_value x0); have h2 : Off m a s1 := (by unfold s1; exact (State.stIn_off h0' (tb hm (by decide)) ..)); (try clear_value s1); have h4 : Off m a s3 := (by unfold s3; exact (State.setHif_off (sb hm (by decide)) h2 ..)); (try clear_value s3); (try clear_value s1 s3); exact (.ite (State.cond_off h4 (fun _ h5 => (State.msix_off (sb hm (by decide)) h5 ..)) ..) h2))
def F.State.writeCntPtr : Nat := 0xfc0000000000000000000000000000000000000000000000000000000000000000000000000000000000000
theorem State.writeCntPtr_off {m a} (hm : F.State.writeCntPtr &&& m = F.State.writeCntPtr) (h0' : Off m a s0') (a1') : Off m a (State.writeCntPtr s0' a1') := by
  unfold State.writeCntPtr; exact (by extract_lets -merge x0 x1 s2; (try clear_value x0 x1); have h3 : Off m a s2 := (by unfold s2; exact (State.wr_off (State.wr_off (State.wr_off h0' (has_IC_CNT_PTR (tb hm (by decide))) ..) (has_IC_CNT_ASSERT (tb hm (by decide))) ..) (has_IC_CNT_CLAIM (tb hm (by decide))) ..)); (try clear_value s2); (try clear_value s2); exact (State.wr_off (State.wr_off (State.wr_off h3 (has_IC_CNT_STAT_VALID (tb hm (by decide))) ..) (has_IC_CNT_STAT_PENDING (tb hm (by decide))) ..) (has_IC_CNT_STAT_ACTIVE (tb hm (by decide))) ..))
def F.State.writeTgtCfg : Nat := 0x18000000000000000000000000000000000000200000000000002000000000000000000000000000002000000
theorem State.writeTgtCfg_off {m a} (hm : F.State.writeTgtCfg &&& m = F.State.writeTgtCfg) (h0' : Off m a s0') (a1') (a2') : Off m a (State.writeTgtCfg s0' a1' a2') := by
  unfold State.writeTgtCfg; exact (by extract_lets -merge s0 s2; have h1 : Off m a s0 := (by unfold s0; exact (State.wrWord_off h0' (.cons (has_IC_TGT_CFG_MASK (tb hm (by decide))) (.cons (has_IC_TGT_CFG_ASLEEP (tb hm (by decide))) (.cons (has_IC_TGT_CFG_DELIV (tb hm (by decide))) .nil))) ..)); (try clear_value s0); have h4 : Off m a s2 := (by unfold s2; exact (State.cond_off h1 (fun _ h3 => (State.clrBits_off h3 (has_IC_WAKE (tb hm (by decide))) ..)) ..)); (try clear_value s2); (try clear_value s0 s2); exact (State.lineEval_off (sb hm (by decide)) h4 ..))
def F.State.wakeEval : Nat := 0x2000000000000000000000000000002000000
theorem State.wakeEval_off {m a} (hm : F.State.wakeEval &&& m = F.State.wakeEval) (h0' : Off m a s0') (a1') : Off m a (State.wakeEval s0' a1') := by
  unfold State.wakeEval; exact (by extract_lets -merge x0; (try clear_value x0); exact (by split; (· exact (.ite (by extract_lets -merge x1 s2; (try clear_value x1); have h3 : Off m a s2 := (by unfold s2; exact (State.orBits_off h0' (has_IC_WAKE (tb hm (by decide))) ..)); (try clear_value s2); (try clear_value s2); exact (State.cond_off h3 (fun _ h4 => (State.setHif_off (sb hm (by decide)) (State.toHost_off (sb hm (by decide)) h4 ..) ..)) ..)) h0')); (· exact h0')))
def F.State.gateway : Nat := 0x2000000000000000000000000000002000000
theorem State.gateway_off {m a} (hm : F.State.gateway &&& m = F.State.gateway) (h0' : Off m a s0') (a1') : Off m a (State.gateway s0' a1') := by
  unfold State.gateway; exact (.ite h0' (.ite (State.wakeEval_off (sb hm (by decide)) (State.setSrc_off (sb hm (by decide)) h0' ..) ..) h0'))
def F.State.badComp : Nat := 0x100000000000000000000000000000000000001000002000000
theorem State.badComp_off {m a} (hm : F.State.badComp &&& m = F.State.badComp) (h0' : Off m a s0') (a1') (a2') (a3') : Off m a (State.badComp s0' a1' a2' a3') := by
  unfold State.badComp; exact (State.setHif_off (sb hm (by decide)) (State.int_off (sb hm (by decide)) (State.satInc_off h0' (has_IC_BADCMP_CNT (tb hm (by decide))) ..) ..) ..)
def F.State.compNow : Nat := 0x1000000000000020000000000000000000003ff000003001800
theorem State.compNow_off {m a} (hm : F.State.compNow &&& m = F.State.compNow) (h0' : Off m a s0') (a1') (a2') (a3') : Off m a (State.compNow s0' a1' a2' a3') := by
  unfold State.compNow; exact (by extract_lets -merge x0 s1; (try clear_value x0); have h2 : Off m a s1 := (by unfold s1; exact (State.setSrc_off (sb hm (by decide)) h0' ..)); (try clear_value s1); (try clear_value s1); exact (.ite (State.lineEval_off (sb hm (by decide)) (State.gateway_off (sb hm (by decide)) (State.icCheck_off (sb hm (by decide)) h2 ..) ..) ..) (State.badComp_off (sb hm (by decide)) h0' ..)))
def F.State.icComplete : Nat := 0x1000000000000020000000000000000000003ff000003001800
theorem State.icComplete_off {m a} (hm : F.State.icComplete &&& m = F.State.icComplete) (h0' : Off m a s0') (a1') (a2') (a3') : Off m a (State.icComplete s0' a1' a2' a3') := by
  unfold State.icComplete; exact (by extract_lets -merge x0; (try clear_value x0); exact (.ite (State.setHif_off (sb hm (by decide)) h0' ..) (State.compNow_off (sb hm (by decide)) h0' ..)))
def F.State.writeSrcCfg : Nat := 0x7000000000000000000000000000000000000000000000000002000000000000000000000000000002000000
theorem State.writeSrcCfg_off {m a} (hm : F.State.writeSrcCfg &&& m = F.State.writeSrcCfg) (h0' : Off m a s0') (a1') (a2') : Off m a (State.writeSrcCfg s0' a1' a2') := by
  unfold State.writeSrcCfg; exact (.ite h0' (by extract_lets -merge x0 s1 s3; (try clear_value x0); have h2 : Off m a s1 := (by unfold s1; exact (State.wrWord_off h0' (.cons (has_IC_SRC_EN (tb hm (by decide))) (.cons (has_IC_SRC_CLASS (tb hm (by decide))) (.cons (has_IC_SRC_TARGETS (tb hm (by decide))) .nil))) ..)); (try clear_value s1); have h5 : Off m a s3 := (by unfold s3; exact (State.cond_off h2 (fun _ h4 => (State.wakeEval_off (sb hm (by decide)) h4 ..)) ..)); (try clear_value s3); (try clear_value s1 s3); exact (State.lineEval_off (sb hm (by decide)) (State.gateway_off (sb hm (by decide)) h5 ..) ..)))
def F.State.writeWake : Nat := 0x2000000000000000000000000000000000000
theorem State.writeWake_off {m a} (hm : F.State.writeWake &&& m = F.State.writeWake) (h0' : Off m a s0') (a1') : Off m a (State.writeWake s0' a1') := by
  unfold State.writeWake; exact (State.clrBits_off h0' (has_IC_WAKE (tb hm (by decide))) ..)
def F.State.icParity : Nat := 0x20000000000000000000003ff000003001800
theorem State.icParity_off {m a} (hm : F.State.icParity &&& m = F.State.icParity) (h0' : Off m a s0') (a1') : Off m a (State.icParity s0' a1') := by
  unfold State.icParity; exact (by extract_lets -merge s0 s2; have h1 : Off m a s0 := (by unfold s0; exact (State.setSrc_off (sb hm (by decide)) h0' ..)); (try clear_value s0); have h3 : Off m a s2 := (by unfold s2; exact (State.raise_off (sb hm (by decide)) (State.journal_off (sb hm (by decide)) h1 ..) ..)); (try clear_value s2); (try clear_value s0 s2); exact (State.lineEval_off (sb hm (by decide)) (State.gateway_off (sb hm (by decide)) h3 ..) ..))
def F.State.msixEnable : Nat := 0x2000000
theorem State.msixEnable_off {m a} (hm : F.State.msixEnable &&& m = F.State.msixEnable) (h0' : Off m a s0') : Off m a (State.msixEnable s0') := by
  unfold State.msixEnable; exact (by extract_lets -merge s0; have h1 : Off m a s0 := (by unfold s0; exact (State.setHif_off (sb hm (by decide)) h0' ..)); (try clear_value s0); (try clear_value s0); exact (.foldl h1 (fun _ h2 _ => (State.msix_off (sb hm (by decide)) h2 ..)) _))
def F.State.sourceAssert : Nat := 0x2000000000000000000000000000002000000
theorem State.sourceAssert_off {m a} (hm : F.State.sourceAssert &&& m = F.State.sourceAssert) (h0' : Off m a s0') (a1') : Off m a (State.sourceAssert s0' a1') := by
  unfold State.sourceAssert; exact (State.lineEval_off (sb hm (by decide)) (State.gateway_off (sb hm (by decide)) h0' ..) ..)

end Sys2Proof.Machine
end

