-- ==== Sys2Proof/Laws/OffRing.lean ====
section
/-! SUPPORT. What the operations of Machine/Ring.lean reach: the pieces of the state and the register fields whose
numbers are set in the mask of each (`F`). -/
namespace Sys2Proof.Machine
open Sys2Proof
set_option Elab.async false

def F.State.setDmaQ : Nat := 0x2000000
theorem State.setDmaQ_off {m a} (hm : F.State.setDmaQ &&& m = F.State.setDmaQ) (h0' : Off m a s0') (a1') (a2') : Off m a (State.setDmaQ s0' a1' a2') := by
  unfold State.setDmaQ; exact (State.setHif_off (sb hm (by decide)) h0' ..)
def F.State.setRun : Nat := 0x2000000
theorem State.setRun_off {m a} (hm : F.State.setRun &&& m = F.State.setRun) (h0' : Off m a s0') (a1') (a2') : Off m a (State.setRun s0' a1' a2') := by
  unfold State.setRun; exact (State.setDmaQ_off (sb hm (by decide)) h0' ..)
def F.State.portDirDown : Nat := 0xe000000000000000000000000000000000000400000004000000
theorem State.portDirDown_off {m a} (hm : F.State.portDirDown &&& m = F.State.portDirDown) (h0' : Off m a s0') (a1') : Off m a (State.portDirDown s0' a1') := by
  unfold State.portDirDown; exact (by extract_lets -merge x0 s1 s3; (try clear_value x0); have h2 : Off m a s1 := (by unfold s1; exact (State.setRing_off (sb hm (by decide)) h0' ..)); (try clear_value s1); have h5 : Off m a s3 := (by unfold s3; exact (.foldl h2 (fun _ h4 _ => (State.satInc_off h4 (has_RING_DROP_CNT (tb hm (by decide))) ..)) _)); (try clear_value s3); (try clear_value s1 s3); exact (State.wr_off (State.wr_off h5 (has_RING_PORT_STAT_STATE (tb hm (by decide))) ..) (.ite (has_RING_STAT_UP_UP (tb hm (by decide))) (has_RING_STAT_DN_UP (tb hm (by decide)))) ..))
def F.State.retrain : Nat := 0x20002000e000000000000000000000000000000000000400000004000000
theorem State.retrain_off {m a} (hm : F.State.retrain &&& m = F.State.retrain) (h0' : Off m a s0') (a1') : Off m a (State.retrain s0' a1') := by
  unfold State.retrain; exact (State.portDirDown_off (sb hm (by decide)) (State.wr_off (State.wr_off h0' (has_RING_PORT_STAT_RX_LOCK (tb hm (by decide))) ..) (has_RING_PORT_STAT_TX_OK (tb hm (by decide))) ..) ..)
def F.State.routeWhole : Nat := 0x3000000200000000000000000000000000001000004000800
theorem State.routeWhole_off {m a} (hm : F.State.routeWhole &&& m = F.State.routeWhole) (h0' : Off m a s0') : Off m a (State.routeWhole s0') := by
  unfold State.routeWhole; exact (by extract_lets -merge s0; have h1 : Off m a s0 := (by unfold s0; exact (State.wr_off (State.wr_off (State.wr_off h0' (has_RING_STAT_STATE (tb hm (by decide))) ..) (has_RING_STAT_BREAK_VALID (tb hm (by decide))) ..) (has_RING_STAT_BREAK_POS (tb hm (by decide))) ..)); (try clear_value s0); (try clear_value s0); exact (State.int_off (sb hm (by decide)) (State.unstand_off (sb hm (by decide)) (State.setRing_off (sb hm (by decide)) h1 ..) ..) ..))
def F.State.tryRoute : Nat := 0x3000000200000000000000000000000000401000004000800
theorem State.tryRoute_off {m a} (hm : F.State.tryRoute &&& m = F.State.tryRoute) (h0' : Off m a s0') : Off m a (State.tryRoute s0') := by
  unfold State.tryRoute; exact (.ite (State.routeWhole_off (sb hm (by decide)) (State.emit_off (sb hm (by decide)) h0' ..) ..) h0')
def F.State.ringRestore : Nat := 0x3000000200000000000000000000000000401000004000800
theorem State.ringRestore_off {m a} (hm : F.State.ringRestore &&& m = F.State.ringRestore) (h0' : Off m a s0') (a1') : Off m a (State.ringRestore s0' a1') := by
  unfold State.ringRestore; exact (.ite (State.tryRoute_off (sb hm (by decide)) (State.setRing_off (sb hm (by decide)) h0' ..) ..) h0')
def F.State.ringResetGo : Nat := 0x402000004000000
theorem State.ringResetGo_off {m a} (hm : F.State.ringResetGo &&& m = F.State.ringResetGo) (h0' : Off m a s0') (a1') (a2') : Off m a (State.ringResetGo s0' a1' a2') := by
  unfold State.ringResetGo; exact (.ite h0' (.ite (State.cond_off h0' (fun _ h0 => (State.emit_off (sb hm (by decide)) h0 ..)) ..) (.ite (State.refuse_off (sb hm (by decide)) h0' ..) (State.sendOnce_off (sb hm (by decide)) h0' ..))))
def F.State.writeRingCtl : Nat := 0x180000000000000000000000000000000000000000000000000020002000e003000000200000000000000000000000000403000004000800
theorem State.writeRingCtl_off {m a} (hm : F.State.writeRingCtl &&& m = F.State.writeRingCtl) (h0' : Off m a s0') (a1') : Off m a (State.writeRingCtl s0' a1') := by
  unfold State.writeRingCtl; exact (by extract_lets -merge s0 s2 s5 s8; have h1 : Off m a s0 := (by unfold s0; exact (State.wr_off (State.wr_off h0' (has_RING_CTL_RST_ALL (tb hm (by decide))) ..) (has_RING_CTL_RST_DEV (tb hm (by decide))) ..)); (try clear_value s0); have h4 : Off m a s2 := (by unfold s2; exact (State.cond_off h1 (fun _ h3 => (State.retrain_off (sb hm (by decide)) h3 ..)) ..)); (try clear_value s2); have h7 : Off m a s5 := (by unfold s5; exact (State.cond_off h4 (fun _ h6 => (State.retrain_off (sb hm (by decide)) h6 ..)) ..)); (try clear_value s5); have h10 : Off m a s8 := (by unfold s8; exact (State.cond_off h7 (fun _ h9 => (State.ringRestore_off (sb hm (by decide)) h9 ..)) ..)); (try clear_value s8); (try clear_value s0 s2 s5 s8); exact (State.cond_off h10 (fun _ h11 => (State.ringResetGo_off (sb hm (by decide)) h11 ..)) ..))
def F.State.remoteStatus : Nat := 0xd0000000000000000000000000000000000000000000000000000000000000000000000000000000000000000000000000000000000000000000000000000004000000
theorem State.remoteStatus_off {m a} (hm : F.State.remoteStatus &&& m = F.State.remoteStatus) (h0' : Off m a s0') (a1') (a2') (a3') (a4') : Off m a (State.remoteStatus s0' a1' a2' a3' a4') := by
  unfold State.remoteStatus; exact (by extract_lets -merge s0 s2; have h1 : Off m a s0 := (by unfold s0; exact (State.setRing_off (sb hm (by decide)) h0' ..)); (try clear_value s0); have h5 : Off m a s2 := (by unfold s2; exact (.foldl h1 (fun _ h3 _ => (State.cond_off h3 (fun _ h4 => (State.wr_off h4 (has_RING_MAP_STATE (tb hm (by decide))) ..)) ..)) _)); (try clear_value s2); (try clear_value s0 s2); exact (.ite (State.putBit_off h5 (has_RING_FAULTN_LO (tb hm (by decide))) ..) (State.putBit_off h5 (has_RING_FAULTN_HI (tb hm (by decide))) ..)))
def F.State.releaseComps : Nat := 0x1000000000000020000000000000000000003ff000003001800
theorem State.releaseComps_off {m a} (hm : F.State.releaseComps &&& m = F.State.releaseComps) (h0' : Off m a s0') : Off m a (State.releaseComps s0') := by
  unfold State.releaseComps; exact (by extract_lets -merge x0 x1 s2; (try clear_value x0 x1); have h3 : Off m a s2 := (by unfold s2; exact (State.setHif_off (sb hm (by decide)) h0' ..)); (try clear_value s2); (try clear_value s2); exact (.foldl h3 (fun _ h4 _ => (State.compNow_off (sb hm (by decide)) h4 ..)) _))
def F.State.ackFrame : Nat := 0xd00000000000000000000000000000000000000000000000000000000000000000000000000000000001030000002000020000000000000000000007ff000007001800
theorem State.ackFrame_off {m a} (hm : F.State.ackFrame &&& m = F.State.ackFrame) (h0' : Off m a s0') (a1') (a2') (a3') (a4') (a5') (a6') (a7') : Off m a (State.ackFrame s0' a1' a2' a3' a4' a5' a6' a7') := by
  unfold State.ackFrame; exact (by extract_lets -merge s0 x2 s3 s6 s9; (try clear_value x2); have h1 : Off m a s0 := (by unfold s0; exact (State.took_off (sb hm (by decide)) h0' ..)); (try clear_value s0); have h5 : Off m a s3 := (by unfold s3; exact (State.cond_off h1 (fun _ h4 => (State.setDeliv_off (sb hm (by decide)) h4 ..)) ..)); (try clear_value s3); have h8 : Off m a s6 := (by unfold s6; exact (State.cond_off h5 (fun _ h7 => (State.remoteStatus_off (sb hm (by decide)) h7 ..)) ..)); (try clear_value s6); have h12 : Off m a s9 := (by unfold s9; exact (.foldl h8 (fun _ h10 _ => (by split; (· exact (State.cond_off h10 (fun _ h11 => (State.setRun_off (sb hm (by decide)) h11 ..)) ..)); (· exact h10))) _)); (try clear_value s9); (try clear_value s0 s3 s6 s9); exact (State.tryRoute_off (sb hm (by decide)) (State.releaseComps_off (sb hm (by decide)) h12 ..) ..))
def F.State.arcDelay : Nat := 0x400000204100040
theorem State.arcDelay_off {m a} (hm : F.State.arcDelay &&& m = F.State.arcDelay) (h0' : Off m a s0') : Off m a (State.arcDelay s0') := by
  unfold State.arcDelay; exact (by extract_lets -merge s0; have h1 : Off m a s0 := (by unfold s0; exact (State.toMul_off (sb hm (by decide)) h0' ..)); (try clear_value s0); (try clear_value s0); exact (.foldl h1 (fun _ h2 _ => (State.emit_off (sb hm (by decide)) h2 ..)) _))
def F.State.replay : Nat := 0x400000000000000000000000000000000000000000000000000000000000000000000000000000000000000000000000000000000000000000000000400000004000000
theorem State.replay_off {m a} (hm : F.State.replay &&& m = F.State.replay) (h0' : Off m a s0') (a1') (a2') : Off m a (State.replay s0' a1' a2') := by
  unfold State.replay; exact (by extract_lets -merge x0 s1; (try clear_value x0); have h2 : Off m a s1 := (by unfold s1; exact (State.satAdd_off (State.setDeliv_off (sb hm (by decide)) h0' ..) (has_RING_REPLAY_CNT (tb hm (by decide))) ..)); (try clear_value s1); (try clear_value s1); exact (.foldl h2 (fun _ h3 _ => (State.emit_off (sb hm (by decide)) h3 ..)) _))
def F.State.dmaReroute : Nat := 0x2000000
theorem State.dmaReroute_off {m a} (hm : F.State.dmaReroute &&& m = F.State.dmaReroute) (h0' : Off m a s0') : Off m a (State.dmaReroute s0') := by
  unfold State.dmaReroute; exact (.foldl h0' (fun _ h0 _ => (by split; (· exact (State.cond_off h0 (fun _ h1 => (State.setRun_off (sb hm (by decide)) h1 ..)) ..)); (· exact h0))) _)
def F.State.routeLine : Nat := 0x2000000000400000000000000000000000000000000000000000000000000000000000000000000000000000000001803018000200000000000000120007d7fffffff00004714b800
theorem State.routeLine_off {m a} (hm : F.State.routeLine &&& m = F.State.routeLine) (h0' : Off m a s0') (a1') : Off m a (State.routeLine s0' a1') := by
  unfold State.routeLine; exact (.ite h0' (by extract_lets -merge s0 x3 s4 s6 s8; (try clear_value x3); have h2 : Off m a s0 := (by unfold s0; exact (State.cond_off h0' (fun _ h1 => (State.ringTimeLost_off (sb hm (by decide)) h1 ..)) ..)); (try clear_value s0); have h5 : Off m a s4 := (by unfold s4; exact (State.setRing_off (sb hm (by decide)) h2 ..)); (try clear_value s4); have h7 : Off m a s6 := (by unfold s6; exact (State.wr_off (State.wr_off (State.wr_off h5 (has_RING_STAT_STATE (tb hm (by decide))) ..) (has_RING_STAT_BREAK_VALID (tb hm (by decide))) ..) (has_RING_STAT_BREAK_POS (tb hm (by decide))) ..)); (try clear_value s6); have h9 : Off m a s8 := (by unfold s8; exact (State.dmaReroute_off (sb hm (by decide)) (State.int_off (sb hm (by decide)) (State.satInc_off h7 (has_RING_REROUTE_CNT (tb hm (by decide))) ..) ..) ..)); (try clear_value s8); (try clear_value s0 s4 s6 s8); exact (.ite (State.wr_off (State.streamsReroute_off (sb hm (by decide)) h5 ..) (has_RING_STAT_STATE (tb hm (by decide))) ..) (State.streamsReroute_off (sb hm (by decide)) (.foldl h9 (fun _ h10 _ => (State.cond_off h10 (fun _ h11 => (State.replay_off (sb hm (by decide)) h11 ..)) ..)) _) ..))))
def F.State.arcDown : Nat := 0x200000000040000000000000000000000000000000000000000000000000000000000000000000000000020000000f803018000200000000000000120007d7fffffff00004714b800
theorem State.arcDown_off {m a} (hm : F.State.arcDown &&& m = F.State.arcDown) (h0' : Off m a s0') (a1') : Off m a (State.arcDown s0' a1') := by
  unfold State.arcDown; exact (by extract_lets -merge s0 s3 x5; (try clear_value x5); have h2 : Off m a s0 := (by unfold s0; exact (State.cond_off h0' (fun _ h1 => (State.portDirDown_off (sb hm (by decide)) (State.wr_off h1 (has_RING_PORT_STAT_TX_OK (tb hm (by decide))) ..) ..)) ..)); (try clear_value s0); have h4 : Off m a s3 := (by unfold s3; exact (State.raiseInt_off (sb hm (by decide)) (State.stand_off (sb hm (by decide)) h2 ..) ..)); (try clear_value s3); (try clear_value s0 s3); exact (.ite h4 (State.routeLine_off (sb hm (by decide)) (State.emit_off (sb hm (by decide)) h4 ..) ..)))
def F.State.breakNotice : Nat := 0x2000000000400000000000000000000000000000000000000000000000000000000000000000000000000000000001803018000200000000000000120007d7fffffff00004714b800
theorem State.breakNotice_off {m a} (hm : F.State.breakNotice &&& m = F.State.breakNotice) (h0' : Off m a s0') (a1') (a2') : Off m a (State.breakNotice s0' a1' a2') := by
  unfold State.breakNotice; exact (by extract_lets -merge s0; have h1 : Off m a s0 := (by unfold s0; exact (State.took_off (sb hm (by decide)) h0' ..)); (try clear_value s0); (try clear_value s0); exact (.ite h1 (State.routeLine_off (sb hm (by decide)) (State.cond_off h1 (fun _ h2 => (State.emit_off (sb hm (by decide)) h2 ..)) ..) ..)))
def F.State.censusMarker : Nat := 0x600000000000000000000000000000000000000000000000000000000000000000000000000000000000000000000000000000000000000000000000000000000000000000000000000000000003ff000005001800
theorem State.censusMarker_off {m a} (hm : F.State.censusMarker &&& m = F.State.censusMarker) (h0' : Off m a s0') (a1') (a2') (a3') (a4') (a5') (a6') : Off m a (State.censusMarker s0' a1' a2' a3' a4' a5' a6') := by
  unfold State.censusMarker; exact (by extract_lets -merge s0 x2 x3 s4 s6 s8; (try clear_value x2 x3); have h1 : Off m a s0 := (by unfold s0; exact (State.setVc_off (sb hm (by decide)) h0' ..)); (try clear_value s0); have h5 : Off m a s4 := (by unfold s4; exact (State.satInc_off h1 (has_RING_CEN_CNT (tb hm (by decide))) ..)); (try clear_value s4); have h7 : Off m a s6 := (by unfold s6; exact (State.setRing_off (sb hm (by decide)) (State.satInc_off h5 (has_RING_CEN_FAIL_CNT (tb hm (by decide))) ..) ..)); (try clear_value s6); have h9 : Off m a s8 := (by unfold s8; exact (State.journal_off (sb hm (by decide)) h7 ..)); (try clear_value s8); (try clear_value s0 s4 s6 s8); exact (.ite h5 (State.raiseInt_off (sb hm (by decide)) (State.stand_off (sb hm (by decide)) h9 ..) ..)))
def F.State.censusSend : Nat := 0x204100040
theorem State.censusSend_off {m a} (hm : F.State.censusSend &&& m = F.State.censusSend) (h0' : Off m a s0') : Off m a (State.censusSend s0') := by
  unfold State.censusSend; exact (by extract_lets -merge s0; have h1 : Off m a s0 := (by unfold s0; exact (State.toMul_off (sb hm (by decide)) h0' ..)); (try clear_value s0); (try clear_value s0); exact (.foldl h1 (fun _ h2 _ => (by extract_lets -merge x3; (try clear_value x3); exact (State.setRing_off (sb hm (by decide)) h2 ..))) _))
def F.State.drainQueue : Nat := 0x4000000
theorem State.drainQueue_off {m a} (hm : F.State.drainQueue &&& m = F.State.drainQueue) (h0' : Off m a s0') (a1') (a2') : Off m a (State.drainQueue s0' a1' a2') := by
  unfold State.drainQueue; exact (by extract_lets -merge x0 x1; (try clear_value x0 x1); exact (State.setVc_off (sb hm (by decide)) (State.setRing_off (sb hm (by decide)) h0' ..) ..))
def F.State.creditReturn : Nat := 0x4000000
theorem State.creditReturn_off {m a} (hm : F.State.creditReturn &&& m = F.State.creditReturn) (h0' : Off m a s0') (a1') (a2') (a3') : Off m a (State.creditReturn s0' a1' a2' a3') := by
  unfold State.creditReturn; exact (State.drainQueue_off (sb hm (by decide)) (State.setVc_off (sb hm (by decide)) h0' ..) ..)
def F.State.delayAnswer : Nat := 0x60000000000000000000000000000000000000000000000000000000000000000000000000000000000000000000000000000000000000000000000000000000000000000000000000000000000000000000000000000004100000
theorem State.delayAnswer_off {m a} (hm : F.State.delayAnswer &&& m = F.State.delayAnswer) (h0' : Off m a s0') (a1') (a2') (a3') (a4') (a5') : Off m a (State.delayAnswer s0' a1' a2' a3' a4' a5') := by
  unfold State.delayAnswer; exact (by extract_lets -merge s0 x2 s3; (try clear_value x2); have h1 : Off m a s0 := (by unfold s0; exact (State.took_off (sb hm (by decide)) h0' ..)); (try clear_value s0); have h4 : Off m a s3 := (by unfold s3; exact (State.setTime_off (sb hm (by decide)) h1 ..)); (try clear_value s3); (try clear_value s0 s3); exact (.ite h4 (State.wr_off h4 (.ite (has_TIME_ARC_DN (tb hm (by decide))) (has_TIME_ARC_UP (tb hm (by decide)))) ..)))
def F.State.delayRequest : Nat := 0x400000004000000
theorem State.delayRequest_off {m a} (hm : F.State.delayRequest &&& m = F.State.delayRequest) (h0' : Off m a s0') (a1') (a2') : Off m a (State.delayRequest s0' a1' a2') := by
  unfold State.delayRequest; exact (by extract_lets -merge s0; have h1 : Off m a s0 := (by unfold s0; exact (State.took_off (sb hm (by decide)) h0' ..)); (try clear_value s0); (try clear_value s0); exact (State.cond_off h1 (fun _ h2 => (State.emit_off (sb hm (by decide)) h2 ..)) ..))
def F.State.readDone : Nat := 0x2000000
theorem State.readDone_off {m a} (hm : F.State.readDone &&& m = F.State.readDone) (h0' : Off m a s0') (a1') (a2') : Off m a (State.readDone s0' a1' a2') := by
  unfold State.readDone; exact (by split; (· exact (State.toHost_off (sb hm (by decide)) h0' ..)); (· exact (by extract_lets -merge x0; (try clear_value x0); exact (State.setRun_off (sb hm (by decide)) (State.toHost_off (sb hm (by decide)) h0' ..) ..))))
def F.State.tunnelRead : Nat := 0x400000006000000
theorem State.tunnelRead_off {m a} (hm : F.State.tunnelRead &&& m = F.State.tunnelRead) (h0' : Off m a s0') (a1') (a2') (a3') : Off m a (State.tunnelRead s0' a1' a2' a3') := by
  unfold State.tunnelRead; exact (by extract_lets -merge x0 s1; (try clear_value x0); have h2 : Off m a s1 := (by unfold s1; exact (State.setHif_off (sb hm (by decide)) h0' ..)); (try clear_value s1); (try clear_value s1); exact (.ite (State.readDone_off (sb hm (by decide)) h0' ..) (.ite (State.sendRead_off (sb hm (by decide)) h2 ..) (State.setDeliv_off (sb hm (by decide)) h2 ..))))
def F.State.tunnelWrite : Nat := 0x1000000000000000000000000000000000000000000000000000000000000000000000000000000000000000000000000000000000000000000000000000000000400000004000000
theorem State.tunnelWrite_off {m a} (hm : F.State.tunnelWrite &&& m = F.State.tunnelWrite) (h0' : Off m a s0') (a1') (a2') : Off m a (State.tunnelWrite s0' a1' a2') := by
  unfold State.tunnelWrite; exact (by extract_lets -merge x0; (try clear_value x0); exact (.ite (State.satInc_off h0' (has_RING_ABS_WR_CNT (tb hm (by decide))) ..) (.ite (State.setDeliv_off (sb hm (by decide)) h0' ..) (State.sendRel_off (sb hm (by decide)) h0' ..))))
def F.State.devAbsent : Nat := 0x40000000000d00000000000000000000000000000000000000000000000000000000000000000000000000000000001000000000000020000000000000000000003ff000007001800
theorem State.devAbsent_off {m a} (hm : F.State.devAbsent &&& m = F.State.devAbsent) (h0' : Off m a s0') (a1') : Off m a (State.devAbsent s0' a1') := by
  unfold State.devAbsent; exact (by extract_lets -merge x0 x1 x2 s3 s5 s8 s10; (try clear_value x0 x1 x2); have h4 : Off m a s3 := (by unfold s3; exact (State.setDeliv_off (sb hm (by decide)) (State.setDeliv_off (sb hm (by decide)) h0' ..) ..)); (try clear_value s3); have h7 : Off m a s5 := (by unfold s5; exact (State.cond_off (State.satAdd_off h4 (has_RING_WDISC_CNT (tb hm (by decide))) ..) (fun _ h6 => (State.journal_off (sb hm (by decide)) h6 ..)) ..)); (try clear_value s5); have h9 : Off m a s8 := (by unfold s8; exact (State.setRing_off (sb hm (by decide)) (State.remoteStatus_off (sb hm (by decide)) h7 ..) ..)); (try clear_value s8); have h13 : Off m a s10 := (by unfold s10; exact (.foldl h9 (fun _ h11 _ => (by split; (· exact (State.cond_off h11 (fun _ h12 => (State.setRun_off (sb hm (by decide)) h12 ..)) ..)); (· exact h11))) _)); (try clear_value s10); (try clear_value s3 s5 s8 s10); exact (State.releaseComps_off (sb hm (by decide)) h13 ..))
def F.State.idConflict : Nat := 0x4041000000000000c002ffffffff00004503b800
theorem State.idConflict_off {m a} (hm : F.State.idConflict &&& m = F.State.idConflict) (h0' : Off m a s0') : Off m a (State.idConflict s0') := by
  unfold State.idConflict; exact (.ite h0' (by extract_lets -merge s0 s2; have h1 : Off m a s0 := (by unfold s0; exact (State.stand_off (sb hm (by decide)) (State.setRing_off (sb hm (by decide)) h0' ..) ..)); (try clear_value s0); have h3 : Off m a s2 := (by unfold s2; exact (State.cancelCmd_off (sb hm (by decide)) (State.raiseInt_off (sb hm (by decide)) h1 ..) ..)); (try clear_value s2); (try clear_value s0 s2); exact (State.cond_off h3 (fun _ h4 => (State.toRehearsal_off (sb hm (by decide)) h4 ..)) ..)))
def F.State.mapSet : Nat := 0xf00000000000000000000000010000000000000000000000000000000000000000000000000000000000000000000000000000000000000000000000000000000000000000000000000000000000000
theorem State.mapSet_off {m a} (hm : F.State.mapSet &&& m = F.State.mapSet) (h0' : Off m a s0') (a1') (a2') : Off m a (State.mapSet s0' a1' a2') := by
  unfold State.mapSet; exact (by split; (· exact (by extract_lets -merge s0; have h1 : Off m a s0 := (by unfold s0; exact (State.wr_off (State.wr_off (State.wr_off h0' (has_RING_MAP_VALID (tb hm (by decide))) ..) (has_RING_MAP_VERTEX (tb hm (by decide))) ..) (has_RING_MAP_STATE (tb hm (by decide))) ..)); (try clear_value s0); (try clear_value s0); exact (State.wr_off (State.wr_off h1 (has_RING_MAP_ID (tb hm (by decide))) ..) (has_RING_MAP_VERSION (tb hm (by decide))) ..))); (· exact (by extract_lets -merge s2; have h3 : Off m a s2 := (by unfold s2; exact (State.wr_off (State.wr_off (State.wr_off h0' (has_RING_MAP_VALID (tb hm (by decide))) ..) (has_RING_MAP_VERTEX (tb hm (by decide))) ..) (has_RING_MAP_STATE (tb hm (by decide))) ..)); (try clear_value s2); (try clear_value s2); exact (State.wr_off (State.wr_off h3 (has_RING_MAP_ID (tb hm (by decide))) ..) (has_RING_MAP_VERSION (tb hm (by decide))) ..))))
def F.State.enumDone : Nat := 0x1800000000000f000000000080040010000000d0000000000000000000000000000000000000000000000000000000000000000000000000000000000100000000204043000000000000c002ffffffff00004703b800
theorem State.enumDone_off {m a} (hm : F.State.enumDone &&& m = F.State.enumDone) (h0' : Off m a s0') (a1') (a2') : Off m a (State.enumDone s0' a1' a2') := by
  unfold State.enumDone; exact (.ite h0' (by extract_lets -merge x0 x1 x2 x3 s4 s7 x9 s10 s12 x15 x16 s17 x20 s21 s23 s25 x28 x29 s30 g33 s37 s41; (try clear_value x0 x1 x2 x3 x9 x15 x16 x20 x28 x29); have h6 : Off m a s4 := (by unfold s4; exact (.foldl h0' (fun _ h5 _ => (State.mapSet_off (sb hm (by decide)) h5 ..)) _)); (try clear_value s4); have h8 : Off m a s7 := (by unfold s7; exact (State.wr_off (State.wr_off (State.wr_off h6 (has_RING_PRES_LO (tb hm (by decide))) ..) (has_RING_PRES_HI (tb hm (by decide))) ..) (has_RING_STAT_SIZE (tb hm (by decide))) ..)); (try clear_value s7); have h11 : Off m a s10 := (by unfold s10; exact (State.setRing_off (sb hm (by decide)) (State.wr_off (State.wr_off h8 (has_RING_STAT_STATE (tb hm (by decide))) ..) (has_RING_STAT_POS (tb hm (by decide))) ..) ..)); (try clear_value s10); have h14 : Off m a s12 := (by unfold s12; exact (State.cond_off h11 (fun _ h13 => (State.unstand_off (sb hm (by decide)) h13 ..)) ..)); (try clear_value s12); have h19 : Off m a s17 := (by unfold s17; exact (.foldl h14 (fun _ h18 _ => (State.raise_off (sb hm (by decide)) (State.devAbsent_off (sb hm (by decide)) h18 ..) ..)) _)); (try clear_value s17); have h22 : Off m a s21 := (by unfold s21; exact (State.setRing_off (sb hm (by decide)) h19 ..)); (try clear_value s21); have h24 : Off m a s23 := (by unfold s23; exact (.ite (State.unstand_off (sb hm (by decide)) h22 ..) (State.stand_off (sb hm (by decide)) h22 ..))); (try clear_value s23); have h27 : Off m a s25 := (by unfold s25; exact (State.cond_off h24 (fun _ h26 => (State.int_off (sb hm (by decide)) h26 ..)) ..)); (try clear_value s25); have h32 : Off m a s30 := (by unfold s30; exact (State.cond_off h27 (fun _ h31 => (State.idConflict_off (sb hm (by decide)) h31 ..)) ..)); (try clear_value s30); have h36 : ∀ y0, Off m a y0 → ∀ y1, Off m a (g33 y0 y1) := (fun _ h34 _ => (State.cond_off h34 (fun _ h35 => (State.emit_off (sb hm (by decide)) h35 ..)) ..)); have h40 : Off m a s37 := (State.cond_off h32 (fun _ h38 => (State.cond_off (h36 _ h38 _) (fun _ h39 => (h36 _ h39 _)) ..)) ..); (try clear_value s37); have h43 : Off m a s41 := (by unfold s41; exact (State.cond_off h40 (fun _ h42 => (State.int_off (sb hm (by decide)) h42 ..)) ..)); (try clear_value s41); (try clear_value s4 s7 s10 s12 s17 s21 s23 s25 s30 s37 s41); exact (State.int_off (sb hm (by decide)) h43 ..)))
def F.State.enumFrame : Nat := 0x8000001000000000000000000000000000000000000000000000000000000000000000000000000000000000000000000000000000204041000000000000c002ffffffff00004503b800
theorem State.enumFrame_off {m a} (hm : F.State.enumFrame &&& m = F.State.enumFrame) (h0' : Off m a s0') (a1') (a2') (a3') (a4') : Off m a (State.enumFrame s0' a1' a2' a3' a4') := by
  unfold State.enumFrame; exact (by extract_lets -merge s0 x2 x3 s4 s7 s9 s12; (try clear_value x2 x3); have h1 : Off m a s0 := (by unfold s0; exact (State.took_off (sb hm (by decide)) h0' ..)); (try clear_value s0); have h6 : Off m a s4 := (by unfold s4; exact (State.cond_off h1 (fun _ h5 => (State.idConflict_off (sb hm (by decide)) h5 ..)) ..)); (try clear_value s4); have h8 : Off m a s7 := (by unfold s7; exact (State.setRing_off (sb hm (by decide)) (State.wr_off (State.wr_off h6 (has_RING_STAT_POS (tb hm (by decide))) ..) (has_RING_STAT_SIZE (tb hm (by decide))) ..) ..)); (try clear_value s7); have h11 : Off m a s9 := (by unfold s9; exact (State.cond_off h8 (fun _ h10 => (State.wr_off h10 (has_RING_STAT_STATE (tb hm (by decide))) ..)) ..)); (try clear_value s9); have h13 : Off m a s12 := (by unfold s12; exact (State.unstand_off (sb hm (by decide)) h11 ..)); (try clear_value s12); (try clear_value s0 s4 s7 s9 s12); exact (.ite h6 (State.cond_off h13 (fun _ h14 => (State.emit_off (sb hm (by decide)) h14 ..)) ..)))
def F.State.enumStart : Nat := 0x400000004000000
theorem State.enumStart_off {m a} (hm : F.State.enumStart &&& m = F.State.enumStart) (h0' : Off m a s0') : Off m a (State.enumStart s0') := by
  unfold State.enumStart; exact (.ite h0' (by extract_lets -merge s0; have h2 : Off m a s0 := (by unfold s0; exact (State.cond_off h0' (fun _ h1 => (State.emit_off (sb hm (by decide)) h1 ..)) ..)); (try clear_value s0); (try clear_value s0); exact (State.cond_off h2 (fun _ h3 => (State.emit_off (sb hm (by decide)) h3 ..)) ..)))
def F.State.frameCrc : Nat := 0x80000000000000000000000000000000000000000000000000000000000000000000000000000000000000000000000000000000000000000000000000000000000000000000000000000000000003000004000800
theorem State.frameCrc_off {m a} (hm : F.State.frameCrc &&& m = F.State.frameCrc) (h0' : Off m a s0') (a1') (a2') : Off m a (State.frameCrc s0' a1' a2') := by
  unfold State.frameCrc; exact (State.raise_off (sb hm (by decide)) (State.satInc_off (State.took_off (sb hm (by decide)) h0' ..) (has_RING_PORT_CRC_CNT (tb hm (by decide))) ..) ..)
def F.State.headerCrc : Nat := 0x10000000000000000000000000000000000000000000000000000000000000000000000000000000000000000000000000000000000000000002000e000000000000000000000000000000000000400000004000000
theorem State.headerCrc_off {m a} (hm : F.State.headerCrc &&& m = F.State.headerCrc) (h0' : Off m a s0') (a1') : Off m a (State.headerCrc s0' a1') := by
  unfold State.headerCrc; exact (State.portDirDown_off (sb hm (by decide)) (State.wr_off (State.satInc_off h0' (has_RING_PORT_HDR_CNT (tb hm (by decide))) ..) (has_RING_PORT_STAT_RX_LOCK (tb hm (by decide))) ..) ..)
def F.State.lockLoss : Nat := 0x2000e000000000000000000000000000000000000400000004000000
theorem State.lockLoss_off {m a} (hm : F.State.lockLoss &&& m = F.State.lockLoss) (h0' : Off m a s0') (a1') (a2') : Off m a (State.lockLoss s0' a1' a2') := by
  unfold State.lockLoss; exact (State.portDirDown_off (sb hm (by decide)) (State.putBit_off h0' (has_RING_PORT_STAT_RX_LOCK (tb hm (by decide))) ..) ..)
def F.State.noVertex : Nat := 0x3000000000800
theorem State.noVertex_off {m a} (hm : F.State.noVertex &&& m = F.State.noVertex) (h0' : Off m a s0') : Off m a (State.noVertex s0') := by
  unfold State.noVertex; exact (.ite h0' (State.raise_off (sb hm (by decide)) (State.stand_off (sb hm (by decide)) h0' ..) ..))
def F.State.readAnswer : Nat := 0x2000000
theorem State.readAnswer_off {m a} (hm : F.State.readAnswer &&& m = F.State.readAnswer) (h0' : Off m a s0') (a1') (a2') (a3') : Off m a (State.readAnswer s0' a1' a2' a3') := by
  unfold State.readAnswer; exact (by split; (· exact (State.readDone_off (sb hm (by decide)) (State.setHif_off (sb hm (by decide)) h0' ..) ..)); (· exact h0'))
def F.State.releaseReads : Nat := 0x400000004000000
theorem State.releaseReads_off {m a s} (hm : F.State.releaseReads &&& m = F.State.releaseReads) (h : Off m a s) (n d) :
    Off m a (State.releaseReads n s d) := by
  induction n generalizing s with
  | zero => exact h
  | succ n ih =>
    unfold State.releaseReads
    split
    · exact ih (State.sendRead_off (sb hm (by decide)) (State.setDeliv_off (sb hm (by decide)) h ..) ..)
    · exact h

def F.State.replayTimeout : Nat := 0x400000000000000000000000000000000000000000000000000000000000000000000000000000000000000000000000000000000000000000000000400000004100040
theorem State.replayTimeout_off {m a} (hm : F.State.replayTimeout &&& m = F.State.replayTimeout) (h0' : Off m a s0') (a1') (a2') : Off m a (State.replayTimeout s0' a1' a2') := by
  unfold State.replayTimeout; exact (by extract_lets -merge x0; (try clear_value x0); exact (.ite h0' (State.replay_off (sb hm (by decide)) (State.reach_off (sb hm (by decide)) h0' ..) ..)))
def F.State.routeCommand : Nat := 0x3000000200000000000000000000000000001000004000800
theorem State.routeCommand_off {m a} (hm : F.State.routeCommand &&& m = F.State.routeCommand) (h0' : Off m a s0') (a1') : Off m a (State.routeCommand s0' a1') := by
  unfold State.routeCommand; exact (State.routeWhole_off (sb hm (by decide)) (State.took_off (sb hm (by decide)) h0' ..) ..)
def F.State.singleTimeout : Nat := 0x1000000000000000000000000000000000000000000000000000000000000000000000000000000000000000000000000000200000000000000000000000000000000000100040
theorem State.singleTimeout_off {m a} (hm : F.State.singleTimeout &&& m = F.State.singleTimeout) (h0' : Off m a s0') : Off m a (State.singleTimeout s0') := by
  unfold State.singleTimeout; exact (.ite h0' (State.wr_off (State.wr_off (State.reach_off (sb hm (by decide)) h0' ..) (has_RING_STAT_STATE (tb hm (by decide))) ..) (has_RING_STAT_SIZE (tb hm (by decide))) ..))
def F.State.split : Nat := 0x40000000000d00000000000000000000000000000000000000000000000000000000000000000000000000000000019000180002000020000000001200000000007ff000007041800
theorem State.split_off {m a} (hm : F.State.split &&& m = F.State.split) (h0' : Off m a s0') (a1') : Off m a (State.split s0' a1') := by
  unfold State.split; exact (.ite h0' (by extract_lets -merge s0; have h1 : Off m a s0 := (by unfold s0; exact (State.streamsReroute_off (sb hm (by decide)) (State.raise_off (sb hm (by decide)) (State.stand_off (sb hm (by decide)) (State.wr_off h0' (has_RING_STAT_STATE (tb hm (by decide))) ..) ..) ..) ..)); (try clear_value s0); (try clear_value s0); exact (State.cond_off h1 (fun _ h2 => (.foldl h2 (fun _ h3 _ => (State.devAbsent_off (sb hm (by decide)) h3 ..)) _)) ..)))
def F.State.statusFrame : Nat := 0xd0000000000000000000000000000000000000000000000000000000000000000000000000000000000000000000000000000000000000000000000000000004000000
theorem State.statusFrame_off {m a} (hm : F.State.statusFrame &&& m = F.State.statusFrame) (h0' : Off m a s0') (a1') (a2') (a3') (a4') (a5') : Off m a (State.statusFrame s0' a1' a2' a3' a4' a5') := by
  unfold State.statusFrame; exact (by extract_lets -merge s0; have h1 : Off m a s0 := (by unfold s0; exact (State.took_off (sb hm (by decide)) h0' ..)); (try clear_value s0); (try clear_value s0); exact (State.cond_off h1 (fun _ h2 => (State.remoteStatus_off (sb hm (by decide)) h2 ..)) ..))
def F.State.statusSend : Nat := 0x400000004100040
theorem State.statusSend_off {m a} (hm : F.State.statusSend &&& m = F.State.statusSend) (h0' : Off m a s0') : Off m a (State.statusSend s0') := by
  unfold State.statusSend; exact (.ite h0' (by extract_lets -merge s0; have h2 : Off m a s0 := (by unfold s0; exact (State.cond_off h0' (fun _ h1 => (State.reach_off (sb hm (by decide)) h1 ..)) ..)); (try clear_value s0); (try clear_value s0); exact (by split; (· exact (State.setRing_off (sb hm (by decide)) (State.sendOnce_off (sb hm (by decide)) h2 ..) ..)))))
def F.State.timeSend : Nat := 0x400000204100040
theorem State.timeSend_off {m a} (hm : F.State.timeSend &&& m = F.State.timeSend) (h0' : Off m a s0') : Off m a (State.timeSend s0') := by
  unfold State.timeSend; exact (.ite h0' (State.timeOut_off (sb hm (by decide)) (State.toMul_off (sb hm (by decide)) h0' ..) ..))
def F.State.trained : Nat := 0x60000000000000000000000000000000000000000000000000000000000000000000000000000000000000000000000000000000000000020002000e000000000000000000000000000000000000001000004000800
theorem State.trained_off {m a} (hm : F.State.trained &&& m = F.State.trained) (h0' : Off m a s0') (a1') (a2') (a3') : Off m a (State.trained s0' a1' a2' a3') := by
  unfold State.trained; exact (by extract_lets -merge s0 s2 s4; have h1 : Off m a s0 := (by unfold s0; exact (.ite (State.wr_off h0' (has_RING_PORT_STAT_TX_OK (tb hm (by decide))) ..) (State.wr_off (State.wr_off h0' (has_RING_PORT_STAT_RX_LOCK (tb hm (by decide))) ..) (has_RING_PORT_SKEW (tb hm (by decide))) ..))); (try clear_value s0); have h3 : Off m a s2 := (by unfold s2; exact (State.wr_off (State.wr_off h1 (has_RING_PORT_STAT_STATE (tb hm (by decide))) ..) (.ite (has_RING_STAT_UP_UP (tb hm (by decide))) (has_RING_STAT_DN_UP (tb hm (by decide)))) ..)); (try clear_value s2); have h6 : Off m a s4 := (by unfold s4; exact (.foldl h3 (fun _ h5 _ => (State.unstand_off (sb hm (by decide)) (State.setVc_off (sb hm (by decide)) h5 ..) ..)) _)); (try clear_value s4); (try clear_value s0 s2 s4); exact (.ite (State.int_off (sb hm (by decide)) (State.unstand_off (sb hm (by decide)) (State.satInc_off h6 (has_RING_PORT_TRAIN_CNT (tb hm (by decide))) ..) ..) ..) h1))
def F.State.tunnelRelease : Nat := 0x400000004000000
theorem State.tunnelRelease_off {m a} (hm : F.State.tunnelRelease &&& m = F.State.tunnelRelease) (h0' : Off m a s0') (a1') : Off m a (State.tunnelRelease s0' a1') := by
  unfold State.tunnelRelease; exact (by extract_lets -merge x0; (try clear_value x0); exact (.ite h0' (by split; (· exact (by extract_lets -merge s1; have h2 : Off m a s1 := (by unfold s1; exact (State.sendRel_off (sb hm (by decide)) (State.setDeliv_off (sb hm (by decide)) h0' ..) ..)); (try clear_value s1); (try clear_value s1); exact (State.releaseReads_off (sb hm (by decide)) h2 ..))); (· exact (State.releaseReads_off (sb hm (by decide)) h0' ..)))))
def F.State.tunnelTimeout : Nat := 0x200000000000000000000000000000000000000000000000000000000000000000000000000000000000000000000000000000000000000000000000000000000000000000000000000000000003000002100840
theorem State.tunnelTimeout_off {m a} (hm : F.State.tunnelTimeout &&& m = F.State.tunnelTimeout) (h0' : Off m a s0') : Off m a (State.tunnelTimeout s0') := by
  unfold State.tunnelTimeout; exact (by split; (· exact (by extract_lets -merge s0 s2; have h1 : Off m a s0 := (by unfold s0; exact (State.setHif_off (sb hm (by decide)) (State.reach_off (sb hm (by decide)) h0' ..) ..)); (try clear_value s0); have h3 : Off m a s2 := (by unfold s2; exact (State.raiseInt_off (sb hm (by decide)) (State.satInc_off h1 (has_HIF_TUN_TO_CNT (tb hm (by decide))) ..) ..)); (try clear_value s2); (try clear_value s0 s2); exact (State.readDone_off (sb hm (by decide)) h3 ..))); (· exact h0'))

end Sys2Proof.Machine
end

