-- ==== Sys2Proof/Laws/OffDma.lean ====
section
/-! SUPPORT. What the operations of Machine/Dma.lean reach: the pieces of the state and the register fields whose
numbers are set in the mask of each (`F`). -/
namespace Sys2Proof.Machine
open Sys2Proof
set_option Elab.async false

def F.State.writeQCfg : Nat := 0xe00000000020080000c10000040004000000000000000000000000000002000002000800
theorem State.writeQCfg_off {m a} (hm : F.State.writeQCfg &&& m = F.State.writeQCfg) (h0' : Off m a s0') (a1') (a2') : Off m a (State.writeQCfg s0' a1' a2') := by
  unfold State.writeQCfg; exact (by extract_lets -merge x0 x1 x2 x3 x4 s5 s7; (try clear_value x0 x1 x2 x3 x4); have h6 : Off m a s5 := (by unfold s5; exact (State.wrWord_off h0' (.cons (has_DMA_Q_CFG_EN (tb hm (by decide))) (.cons (has_DMA_Q_CFG_MOD_CNT (tb hm (by decide))) (.cons (has_DMA_Q_CFG_MOD_TIME (tb hm (by decide))) .nil))) ..)); (try clear_value s5); have h11 : Off m a s7 := (by unfold s7; exact (State.cond_off h6 (fun _ h8 => (by extract_lets -merge s9; have h10 : Off m a s9 := (by unfold s9; exact (State.wr_off (State.wr_off (State.wr_off h8 (has_DMA_Q_TAIL (tb hm (by decide))) ..) (has_DMA_Q_HEAD (tb hm (by decide))) ..) (has_DMA_CQ_HEAD (tb hm (by decide))) ..)); (try clear_value s9); (try clear_value s9); exact (State.setDmaQ_off (sb hm (by decide)) (State.wr_off (State.wr_off (State.wr_off h10 (has_DMA_CQ_TAIL_TAIL (tb hm (by decide))) ..) (has_DMA_CQ_TAIL_PHASE (tb hm (by decide))) ..) (has_DMA_Q_STAT_SIG (tb hm (by decide))) ..) ..))) ..)); (try clear_value s7); (try clear_value s5 s7); exact (.ite (State.refuse_off (sb hm (by decide)) h0' ..) (.ite (State.refuse_off (sb hm (by decide)) h0' ..) (.ite (State.unstand_off (sb hm (by decide)) (State.wr_off h11 (has_DMA_Q_STAT_STATE (tb hm (by decide))) ..) ..) (.ite (State.wr_off h11 (has_DMA_Q_STAT_STATE (tb hm (by decide))) ..) h11)))))
def F.State.writeQBase : Nat := 0x2000000000000
theorem State.writeQBase_off {m a} (hm : F.State.writeQBase &&& m = F.State.writeQBase) (h0' : Off m a s0') (p1' : Has m a1') (a2') (a3') : Off m a (State.writeQBase s0' a1' a2' a3') := by
  unfold State.writeQBase; exact (.ite (State.refuse_off (sb hm (by decide)) h0' ..) (State.wr_off h0' p1' ..))
def F.State.writeCqHead : Nat := 0x80000000000000000000000000000000000000000000000000002000000
theorem State.writeCqHead_off {m a} (hm : F.State.writeCqHead &&& m = F.State.writeCqHead) (h0' : Off m a s0') (a1') (a2') : Off m a (State.writeCqHead s0' a1' a2') := by
  unfold State.writeCqHead; exact (by extract_lets -merge s0 x2; (try clear_value x2); have h1 : Off m a s0 := (by unfold s0; exact (State.wr_off h0' (has_DMA_CQ_HEAD (tb hm (by decide))) ..)); (try clear_value s0); (try clear_value s0); exact (State.setDmaQ_off (sb hm (by decide)) h1 ..))
def F.State.writeHifCfg : Nat := 0xe00000000000000000000000000000000000000000000000000000000000000000000000000000000000000000002000000000000
theorem State.writeHifCfg_off {m a} (hm : F.State.writeHifCfg &&& m = F.State.writeHifCfg) (h0' : Off m a s0') (a1') : Off m a (State.writeHifCfg s0' a1') := by
  unfold State.writeHifCfg; exact (by extract_lets -merge x0 x1; (try clear_value x0 x1); exact (.ite (State.refuse_off (sb hm (by decide)) h0' ..) (State.wrWord_off h0' (.cons (has_HIF_CFG_RO_EN (tb hm (by decide))) (.cons (has_HIF_CFG_MAX_GT (tb hm (by decide))) (.cons (has_HIF_CFG_TUN_TO (tb hm (by decide))) .nil))) ..)))
def F.State.signal : Nat := 0x4000000000000000000000000000000000002000000
theorem State.signal_off {m a} (hm : F.State.signal &&& m = F.State.signal) (h0' : Off m a s0') (a1') : Off m a (State.signal s0' a1') := by
  unfold State.signal; exact (State.setDmaQ_off (sb hm (by decide)) (State.wr_off h0' (has_DMA_Q_STAT_SIG (tb hm (by decide))) ..) ..)
def F.State.sleepBegin : Nat := 0x1000200000004000000000000000000000000000000000002000000
theorem State.sleepBegin_off {m a} (hm : F.State.sleepBegin &&& m = F.State.sleepBegin) (h0' : Off m a s0') : Off m a (State.sleepBegin s0') := by
  unfold State.sleepBegin; exact (.ite h0' (by extract_lets -merge s0 x2 s3; (try clear_value x2); have h1 : Off m a s0 := (by unfold s0; exact (State.wr_off h0' (has_HIF_PM_ASLEEP_NOW (tb hm (by decide))) ..)); (try clear_value s0); have h5 : Off m a s3 := (by unfold s3; exact (.foldl h1 (fun _ h4 _ => (State.wr_off h4 (has_IC_TGT_CFG_ASLEEP (tb hm (by decide))) ..)) _)); (try clear_value s3); (try clear_value s0 s3); exact (.foldl h5 (fun _ h6 _ => (State.signal_off (sb hm (by decide)) h6 ..)) _)))
def F.State.sleepEnd : Nat := 0x1000200000000000002000000000000000000000000000000000000
theorem State.sleepEnd_off {m a} (hm : F.State.sleepEnd &&& m = F.State.sleepEnd) (h0' : Off m a s0') : Off m a (State.sleepEnd s0') := by
  unfold State.sleepEnd; exact (.ite h0' (by extract_lets -merge x0; (try clear_value x0); exact (.foldl (State.wr_off h0' (has_HIF_PM_ASLEEP_NOW (tb hm (by decide))) ..) (fun _ h1 _ => (State.clrBits_off (State.wr_off h1 (has_IC_TGT_CFG_ASLEEP (tb hm (by decide))) ..) (has_IC_WAKE (tb hm (by decide))) ..)) _)))
def F.State.writeHifPm : Nat := 0x200000000000000000000000001000200000004000002000000000000000000000000000002000000
theorem State.writeHifPm_off {m a} (hm : F.State.writeHifPm &&& m = F.State.writeHifPm) (h0' : Off m a s0') (a1') : Off m a (State.writeHifPm s0' a1') := by
  unfold State.writeHifPm; exact (by extract_lets -merge s0; have h1 : Off m a s0 := (by unfold s0; exact (State.wr_off h0' (has_HIF_PM_SLEEP (tb hm (by decide))) ..)); (try clear_value s0); (try clear_value s0); exact (.ite (State.sleepBegin_off (sb hm (by decide)) h1 ..) (State.sleepEnd_off (sb hm (by decide)) h1 ..)))
def F.State.badAccess : Nat := 0x38000000000000000000000000000000000000000000000000000000000000000000000000000000000000000000000000000000000000000000000000000000000000000000000000000000003000002000800
theorem State.badAccess_off {m a} (hm : F.State.badAccess &&& m = F.State.badAccess) (h0' : Off m a s0') (a1') (a2') (a3') : Off m a (State.badAccess s0' a1' a2' a3') := by
  unfold State.badAccess; exact (by extract_lets -merge s0; have h1 : Off m a s0 := (by unfold s0; exact (State.wr_off (State.wr_off (State.satInc_off h0' (has_HIF_BADACC_CNT (tb hm (by decide))) ..) (has_HIF_BADACC_ADDR_WIN (tb hm (by decide))) ..) (has_HIF_BADACC_ADDR_OFFSET (tb hm (by decide))) ..)); (try clear_value s0); (try clear_value s0); exact (State.cond_off (State.raise_off (sb hm (by decide)) h1 ..) (fun _ h2 => (State.toHost_off (sb hm (by decide)) h2 ..)) ..))
def F.State.bufParity : Nat := 0x3000002000800
theorem State.bufParity_off {m a} (hm : F.State.bufParity &&& m = F.State.bufParity) (h0' : Off m a s0') (a1') : Off m a (State.bufParity s0' a1') := by
  unfold State.bufParity; exact (State.raise_off (sb hm (by decide)) (State.setRun_off (sb hm (by decide)) h0' ..) ..)
def F.State.sendAck : Nat := 0x400000004000000
theorem State.sendAck_off {m a} (hm : F.State.sendAck &&& m = F.State.sendAck) (h0' : Off m a s0') (a1') (a2') : Off m a (State.sendAck s0' a1' a2') := by
  unfold State.sendAck; exact (by split; (· exact (State.sendOnce_off (sb hm (by decide)) h0' ..)))
def F.State.rxSeq : Nat := 0x400000004000000
theorem State.rxSeq_off {m a} (hm : F.State.rxSeq &&& m = F.State.rxSeq) (h0' : Off m a s0') (a1') (a2') (a3') (a4') : Off m a (State.rxSeq s0' a1' a2' a3' a4').2 := by
  unfold State.rxSeq; exact (by extract_lets -merge s0 x2 x3; (try clear_value x2 x3); have h1 : Off m a s0 := (by unfold s0; exact (State.took_off (sb hm (by decide)) h0' ..)); (try clear_value s0); (try clear_value s0); exact (.ite2 (.pr2 h1) (.ite2 (.pr2 (State.setDeliv_off (sb hm (by decide)) h1 ..)) (.ite2 (.pr2 (State.sendAck_off (sb hm (by decide)) h1 ..)) (.ite2 (.pr2 h1) (.pr2 (State.sendOnce_off (sb hm (by decide)) (State.setDeliv_off (sb hm (by decide)) h1 ..) ..)))))))
def F.State.bulkArrive : Nat := 0x400000006000000
theorem State.bulkArrive_off {m a} (hm : F.State.bulkArrive &&& m = F.State.bulkArrive) (h0' : Off m a s0') (a1') (a2') (a3') (a4') (a5') (a6') (a7') (a8') : Off m a (State.bulkArrive s0' a1' a2' a3' a4' a5' a6' a7' a8') := by
  unfold State.bulkArrive; exact (by split; rename_i x3 s2 e0; have h1 : Off m a s2 := .snd e0 (State.rxSeq_off (sb hm (by decide)) h0' ..); exact (.ite h1 (by extract_lets -merge s4; have h5 : Off m a s4 := (by unfold s4; exact (State.sendAck_off (sb hm (by decide)) h1 ..)); (try clear_value s4); (try clear_value s4); exact (by split; (· exact (.ite h5 (by extract_lets -merge s6; have h8 : Off m a s6 := (by unfold s6; exact (State.cond_off h5 (fun _ h7 => (State.toHost_off (sb hm (by decide)) h7 ..)) ..)); (try clear_value s6); (try clear_value s6); exact (State.setRun_off (sb hm (by decide)) h8 ..)))); (· exact h5)))))
def F.State.bulkHere : Nat := 0x2000000
theorem State.bulkHere_off {m a} (hm : F.State.bulkHere &&& m = F.State.bulkHere) (h0' : Off m a s0') (a1') (a2') : Off m a (State.bulkHere s0' a1' a2') := by
  unfold State.bulkHere; exact (by split; (· exact (by extract_lets -merge s0; have h2 : Off m a s0 := (by unfold s0; exact (State.cond_off h0' (fun _ h1 => (State.toHost_off (sb hm (by decide)) h1 ..)) ..)); (try clear_value s0); (try clear_value s0); exact (State.setRun_off (sb hm (by decide)) h2 ..))))
def F.State.bulkThere : Nat := 0x400000004000000
theorem State.bulkThere_off {m a} (hm : F.State.bulkThere &&& m = F.State.bulkThere) (h0' : Off m a s0') (a1') (a2') (a3') : Off m a (State.bulkThere s0' a1' a2' a3') := by
  unfold State.bulkThere; exact (by split; (· exact (by extract_lets -merge x0 x1; (try clear_value x0 x1); exact (by split; (· exact (State.sendRel_off (sb hm (by decide)) h0' ..)); (· exact (.foldl h0' (fun _ h2 _ => (State.sendRel_off (sb hm (by decide)) h2 ..)) _))))))
def F.State.work : Nat := 0x1000000
theorem State.work_off {m a} (hm : F.State.work &&& m = F.State.work) (h0' : Off m a s0') (a1') : Off m a (State.work s0' a1') := by
  unfold State.work; exact (State.setStm_off (sb hm (by decide)) h0' ..)
def F.State.bulkRequest : Nat := 0x400000005000000
theorem State.bulkRequest_off {m a} (hm : F.State.bulkRequest &&& m = F.State.bulkRequest) (h0' : Off m a s0') (a1') (a2') (a3') (a4') (a5') : Off m a (State.bulkRequest s0' a1' a2' a3' a4' a5') := by
  unfold State.bulkRequest; exact (by split; rename_i x3 s2 e0; have h1 : Off m a s2 := .snd e0 (State.rxSeq_off (sb hm (by decide)) h0' ..); exact (.ite h1 (by extract_lets -merge s4; have h5 : Off m a s4 := (by unfold s4; exact (State.sendAck_off (sb hm (by decide)) h1 ..)); (try clear_value s4); (try clear_value s4); exact (.ite (State.work_off (sb hm (by decide)) h5 ..) (State.bulkThere_off (sb hm (by decide)) h5 ..)))))
def F.State.writeEntry : Nat := 0x78000000000000000000000000000000000000000000000000000000000000000000000000000000000000000c00000000004000000000000000000000000000000000002000000
theorem State.writeEntry_off {m a} (hm : F.State.writeEntry &&& m = F.State.writeEntry) (h0' : Off m a s0') (a1') (a2') : Off m a (State.writeEntry s0' a1' a2') := by
  unfold State.writeEntry; exact (by extract_lets -merge x0 x1 x2 x3 s4 s6 s8 s11 s13 x16 s17 x19; (try clear_value x0 x1 x2 x3 x16 x19); have h5 : Off m a s4 := (by unfold s4; exact (State.toHost_off (sb hm (by decide)) h0' ..)); (try clear_value s4); have h7 : Off m a s6 := (by unfold s6; exact (State.inc_off h5 (has_DMA_CQ_TAIL_TAIL (tb hm (by decide))) ..)); (try clear_value s6); have h10 : Off m a s8 := (by unfold s8; exact (State.cond_off h7 (fun _ h9 => (State.wr_off h9 (has_DMA_CQ_TAIL_PHASE (tb hm (by decide))) ..)) ..)); (try clear_value s8); have h12 : Off m a s11 := (by unfold s11; exact (State.satInc_off h10 (has_DMA_Q_DONE_CNT (tb hm (by decide))) ..)); (try clear_value s11); have h15 : Off m a s13 := (by unfold s13; exact (State.cond_off h12 (fun _ h14 => (State.wr_off (State.wr_off (State.satInc_off h14 (has_DMA_Q_ERR_CNT (tb hm (by decide))) ..) (has_DMA_Q_STAT_LAST_ERR (tb hm (by decide))) ..) (has_DMA_Q_STAT_ERR_SEEN (tb hm (by decide))) ..)) ..)); (try clear_value s13); have h18 : Off m a s17 := (by unfold s17; exact (State.setDmaQ_off (sb hm (by decide)) h15 ..)); (try clear_value s17); (try clear_value s4 s6 s8 s11 s13 s17); exact (State.cond_off h18 (fun _ h20 => (State.signal_off (sb hm (by decide)) h20 ..)) ..))
def F.State.d0Return : Nat := 0x2000078000000000000000000000000000000000000000000000000000000000000000000000000000000000000001c10200000004000002000000000000000000000000000002000000
theorem State.d0Return_off {m a} (hm : F.State.d0Return &&& m = F.State.d0Return) (h0' : Off m a s0') : Off m a (State.d0Return s0') := by
  unfold State.d0Return; exact (.ite h0' (by extract_lets -merge s0 s2; have h1 : Off m a s0 := (by unfold s0; exact (State.wr_off h0' (has_HIF_PM_D3 (tb hm (by decide))) ..)); (try clear_value s0); have h4 : Off m a s2 := (by unfold s2; exact (.foldl h1 (fun _ h3 _ => (by split; (· exact (State.wr_off (State.writeEntry_off (sb hm (by decide)) h3 ..) (has_DMA_Q_STAT_STATE (tb hm (by decide))) ..)); (· exact h3))) _)); (try clear_value s2); (try clear_value s0 s2); exact (State.sleepEnd_off (sb hm (by decide)) h4 ..)))
def F.State.d3Enter : Nat := 0x2000000000000000000000000000000000000000000000000000000000000000000000000000000000000000000001000200000004000000000000000000000000000000000002000000
theorem State.d3Enter_off {m a} (hm : F.State.d3Enter &&& m = F.State.d3Enter) (h0' : Off m a s0') (a1') : Off m a (State.d3Enter s0' a1') := by
  unfold State.d3Enter; exact (by extract_lets -merge s0 s2; have h1 : Off m a s0 := (by unfold s0; exact (State.setHif_off (sb hm (by decide)) (State.wr_off h0' (has_HIF_PM_D3 (tb hm (by decide))) ..) ..)); (try clear_value s0); have h4 : Off m a s2 := (by unfold s2; exact (.foldl h1 (fun _ h3 _ => (State.setRun_off (sb hm (by decide)) h3 ..)) _)); (try clear_value s2); (try clear_value s0 s2); exact (State.sleepBegin_off (sb hm (by decide)) h4 ..))
def F.State.descBegin : Nat := 0x40000000000000000000000000000000000000002000000
theorem State.descBegin_off {m a} (hm : F.State.descBegin &&& m = F.State.descBegin) (h0' : Off m a s0') (a1') (a2') : Off m a (State.descBegin s0' a1' a2') := by
  unfold State.descBegin; exact (State.setDmaQ_off (sb hm (by decide)) (State.inc_off h0' (has_DMA_Q_HEAD (tb hm (by decide))) ..) ..)
def F.State.descRun : Nat := 0x40000000000000000000000000000000000000002000000
theorem State.descRun_off {m a} (hm : F.State.descRun &&& m = F.State.descRun) (h0' : Off m a s0') (h1' : ∀ y0, Off m a y0 → Off m a (f1' y0)) (a1') (a2') (a3') : Off m a (State.descRun s0' a1' a2' a3' f1') := by
  unfold State.descRun; exact (.ite h0' (by split; (· exact (State.descBegin_off (sb hm (by decide)) h0' ..)); (· exact (h1' _ (State.descBegin_off (sb hm (by decide)) h0' ..)))))
def F.State.descBulk : Nat := 0x40000000000000000000000000000000400000007000000
theorem State.descBulk_off {m a} (hm : F.State.descBulk &&& m = F.State.descBulk) (h0' : Off m a s0') (a1') (a2') (a3') : Off m a (State.descBulk s0' a1' a2' a3') := by
  unfold State.descBulk; exact (State.descRun_off (sb hm (by decide)) h0' (fun _ h0 => (.ite (.ite (State.work_off (sb hm (by decide)) h0 ..) (State.bulkHere_off (sb hm (by decide)) h0 ..)) (State.sendRel_off (sb hm (by decide)) h0 ..))) ..)
def F.State.descComplete : Nat := 0x78000000000000000000000000000000000000000000000000000000000000000000000000000000000000000c00000000004000000000000000000000000000000000002000000
theorem State.descComplete_off {m a} (hm : F.State.descComplete &&& m = F.State.descComplete) (h0' : Off m a s0') (a1') : Off m a (State.descComplete s0' a1') := by
  unfold State.descComplete; exact (by split; (· exact (.ite (State.writeEntry_off (sb hm (by decide)) h0' ..) h0')); (· exact h0'))
def F.State.descFetch : Nat := 0x10000040000000000000000000000000000000003000002000800
theorem State.descFetch_off {m a} (hm : F.State.descFetch &&& m = F.State.descFetch) (h0' : Off m a s0') (a1') : Off m a (State.descFetch s0' a1') := by
  unfold State.descFetch; exact (.ite h0' (by extract_lets -merge x0 s1; (try clear_value x0); have h2 : Off m a s1 := (by unfold s1; exact (State.descBegin_off (sb hm (by decide)) h0' ..)); (try clear_value s1); (try clear_value s1); exact (State.raise_off (sb hm (by decide)) (State.stand_off (sb hm (by decide)) (State.wr_off h2 (has_DMA_Q_STAT_STATE (tb hm (by decide))) ..) ..) ..)))
def F.State.descNop : Nat := 0x40000000000000000000000000000000000000002000000
theorem State.descNop_off {m a} (hm : F.State.descNop &&& m = F.State.descNop) (h0' : Off m a s0') (a1') (a2') : Off m a (State.descNop s0' a1' a2') := by
  unfold State.descNop; exact (State.descRun_off (sb hm (by decide)) h0' (fun _ h0 => (State.setRun_off (sb hm (by decide)) h0 ..)) ..)
def F.State.descRefused : Nat := 0x40000000000000000000000000000000000000002000000
theorem State.descRefused_off {m a s} (hm : F.State.descRefused &&& m = F.State.descRefused) (h : Off m a s) (x y) :
    Off m a (State.descRefused s x y) := by
  unfold State.descRefused; exact .ite (State.descRun_off (sb hm (by decide)) h (fun _ h => h) ..) h

def F.State.linkDown : Nat := 0x80000000000000000001c00000000000000000000000000000000000000000000000000000000000000000000000000000000000000000000000000000000000000000000000000000000000003000000000800
theorem State.linkDown_off {m a} (hm : F.State.linkDown &&& m = F.State.linkDown) (h0' : Off m a s0') : Off m a (State.linkDown s0') := by
  unfold State.linkDown; exact (by extract_lets -merge s0; have h1 : Off m a s0 := (by unfold s0; exact (State.wr_off (State.wr_off (State.wr_off h0' (has_HIF_LINK_UP (tb hm (by decide))) ..) (has_HIF_LINK_SPEED (tb hm (by decide))) ..) (has_HIF_LINK_WIDTH (tb hm (by decide))) ..)); (try clear_value s0); (try clear_value s0); exact (State.raiseInt_off (sb hm (by decide)) (State.stand_off (sb hm (by decide)) (State.satInc_off h1 (has_HIF_LINKDN_CNT (tb hm (by decide))) ..) ..) ..))
def F.State.linkUp : Nat := 0x1c00000000000000000000000000000000000000000000000000000000000000000000000000000000000000000000000000000000000000000000000000000000000001000000000800
theorem State.linkUp_off {m a} (hm : F.State.linkUp &&& m = F.State.linkUp) (h0' : Off m a s0') (a1') (a2') : Off m a (State.linkUp s0' a1' a2') := by
  unfold State.linkUp; exact (by extract_lets -merge s0; have h1 : Off m a s0 := (by unfold s0; exact (State.wr_off (State.wr_off h0' (has_HIF_LINK_UP (tb hm (by decide))) ..) (has_HIF_LINK_SPEED (tb hm (by decide))) ..)); (try clear_value s0); (try clear_value s0); exact (State.unstand_off (sb hm (by decide)) (State.int_off (sb hm (by decide)) (State.wr_off h1 (has_HIF_LINK_WIDTH (tb hm (by decide))) ..) ..) ..))
def F.State.modTimeout : Nat := 0x4000000000000000000000000000000000002100040
theorem State.modTimeout_off {m a} (hm : F.State.modTimeout &&& m = F.State.modTimeout) (h0' : Off m a s0') (a1') : Off m a (State.modTimeout s0' a1') := by
  unfold State.modTimeout; exact (by split; (· exact (State.signal_off (sb hm (by decide)) (State.reach_off (sb hm (by decide)) h0' ..) ..)); (· exact h0'))
def F.State.qDrained : Nat := 0x10000000000000000000000000000000000000000000000000000
theorem State.qDrained_off {m a} (hm : F.State.qDrained &&& m = F.State.qDrained) (h0' : Off m a s0') (a1') : Off m a (State.qDrained s0' a1') := by
  unfold State.qDrained; exact (.ite (State.wr_off h0' (has_DMA_Q_STAT_STATE (tb hm (by decide))) ..) h0')
def F.State.tlpError : Nat := 0x440000000000000000000000000000000000000000000000000000000000000000000000000000000000000000000000000000000000000000000000000000000000000000000000000000000003000000000800
theorem State.tlpError_off {m a} (hm : F.State.tlpError &&& m = F.State.tlpError) (h0' : Off m a s0') (a1') : Off m a (State.tlpError s0' a1') := by
  unfold State.tlpError; exact (.ite (State.satInc_off h0' (has_HIF_CORR_CNT (tb hm (by decide))) ..) (State.raise_off (sb hm (by decide)) (State.satInc_off h0' (has_HIF_UNCORR_CNT (tb hm (by decide))) ..) ..))

end Sys2Proof.Machine
end

