-- ==== Sys2Proof/Laws/OffMedium.lean ====
section
/-! SUPPORT. What the operations of Machine/Medium.lean reach: the pieces of the state and the register fields whose
numbers are set in the mask of each (`F`). -/
namespace Sys2Proof.Machine
open Sys2Proof
set_option Elab.async false

def F.State.codewordRead : Nat := 0x1800000000000000680000000000000000000000000000040000000000000000000000000000000000000000000000000000000000000000000000000000000000000000000000000000000000000000003ff000001001800
theorem State.codewordRead_off {m a} (hm : F.State.codewordRead &&& m = F.State.codewordRead) (h0' : Off m a s0') (a1') (a2') (a3') : Off m a (State.codewordRead s0' a1' a2' a3') := by
  unfold State.codewordRead; exact (by extract_lets -merge x0 x1 s2; (try clear_value x0 x1); have h3 : Off m a s2 := (by unfold s2; exact (State.setStm_off (sb hm (by decide)) h0' ..)); (try clear_value s2); (try clear_value s2); exact (by split; (· exact (State.codewordUnc_off (sb hm (by decide)) h3 ..)); (· exact (State.codewordUnc_off (sb hm (by decide)) h3 ..)); (· exact h3); (· exact (State.satInc_off h3 (has_STM_ECC_CORR (tb hm (by decide))) ..)); (· exact (State.satInc_off h3 (has_STM_ECC_SOFT (tb hm (by decide))) ..))))
def F.State.doWork : Nat := 0x7efdfe00000000000000000000000000000000000000000000000000000000000000000000000000000000000800000000000000000000000000017ff000007001800
theorem State.doWork_off {m a} (hm : F.State.doWork &&& m = F.State.doWork) (h0' : Off m a s0') (a1') : Off m a (State.doWork s0' a1') := by
  unfold State.doWork; exact (by split; (· exact (State.pbReadDone_off (sb hm (by decide)) h0' ..)); (· exact (State.bulkHere_off (sb hm (by decide)) h0' ..)); (· exact (State.bulkThere_off (sb hm (by decide)) h0' ..)); (· exact (State.snapStored_off (sb hm (by decide)) h0' ..)); (· exact (State.histPlace_off (sb hm (by decide)) h0' ..)); (· exact (State.blockRefresh_off (sb hm (by decide)) h0' ..)); (· exact (State.scrubDone_off (sb hm (by decide)) h0' ..)))
def F.State.turn : Nat := 0x7efdfe00000000000000000000000000000000000000000000000000000000000000000000000000000000000800000000000000000000000000017ff000007001800
theorem State.turn_off {m a} (hm : F.State.turn &&& m = F.State.turn) (h0' : Off m a s0') (a1') : Off m a (State.turn s0' a1') := by
  unfold State.turn; exact (.ite (State.work_off (sb hm (by decide)) h0' ..) (State.doWork_off (sb hm (by decide)) h0' ..))
def F.State.serve : Nat := 0x7efdfe00000000000000000000000000000000000000000000000000000000000000000000000000000000000800000000000000000000000000017ff000007001800
theorem State.serve_off {m a} (hm : F.State.serve &&& m = F.State.serve) (h0' : Off m a s0') : Off m a (State.serve s0') := by
  unfold State.serve; exact (by extract_lets -merge x0; (try clear_value x0); exact (.ite h0' (.foldl (State.setStm_off (sb hm (by decide)) h0' ..) (fun _ h1 _ => (.foldl h1 (fun _ h2 _ => (State.turn_off (sb hm (by decide)) h2 ..)) _)) _)))
def F.State.medium : Nat := 0x7efdfe00000000000000000000000000000000000000000000000000000000000000000000000000000000000800000000000000000000000000017ff000007001800
theorem State.medium_off {m a} (hm : F.State.medium &&& m = F.State.medium) (h0' : Off m a s0') (a1') : Off m a (State.medium s0' a1') := by
  unfold State.medium; exact (State.serve_off (sb hm (by decide)) (State.work_off (sb hm (by decide)) h0' ..) ..)
def F.State.readBook : Nat := 0x7efdfe00000000000000000000000000000000000000000000000000000000000000000000000000000000000800000000000000000000000000017ff000007001800
theorem State.readBook_off {m a} (hm : F.State.readBook &&& m = F.State.readBook) (h0' : Off m a s0') : Off m a (State.readBook s0') := by
  unfold State.readBook; exact (by split; (· exact h0'); (· exact (.ite (State.medium_off (sb hm (by decide)) h0' ..) (State.pbReadDone_off (sb hm (by decide)) h0' ..))))

end Sys2Proof.Machine
end

