-- ==== Sys2Proof/Laws/OffBoot.lean ====
section
/-! SUPPORT. What the operations of Machine/Boot.lean reach: the pieces of the state and the register fields whose
numbers are set in the mask of each (`F`). -/
namespace Sys2Proof.Machine
open Sys2Proof
set_option Elab.async false

def F.State.writeSecProg : Nat := 0x1800000000000000000000000000000000000000000000000000000000000002000000000400
theorem State.writeSecProg_off {m a} (hm : F.State.writeSecProg &&& m = F.State.writeSecProg) (h0' : Off m a s0') (a1') : Off m a (State.writeSecProg s0' a1') := by
  unfold State.writeSecProg; exact (by extract_lets -merge x0; (try clear_value x0); exact (.ite (State.refuse_off (sb hm (by decide)) (State.wr_off h0' (has_SEC_STAT_RESULT (tb hm (by decide))) ..) ..) (State.setBoot_off (sb hm (by decide)) (State.wr_off (State.wr_off h0' (has_SEC_STAT_BUSY (tb hm (by decide))) ..) (has_SEC_STAT_RESULT (tb hm (by decide))) ..) ..)))
def F.State.writeBootCfg : Nat := 0x20000000000000000000000000000000000000000000000000000000000000001000000000000000000000000000000000000
theorem State.writeBootCfg_off {m a} (hm : F.State.writeBootCfg &&& m = F.State.writeBootCfg) (h0' : Off m a s0') (a1') : Off m a (State.writeBootCfg s0' a1') := by
  unfold State.writeBootCfg; exact (by extract_lets -merge x0 s1; (try clear_value x0); have h2 : Off m a s1 := (by unfold s1; exact (State.wr_off h0' (has_BOOT_CFG (tb hm (by decide))) ..)); (try clear_value s1); (try clear_value s1); exact (State.cond_off h2 (fun _ h3 => (State.wr_off h3 (has_SYS_STATE_PENDING (tb hm (by decide))) ..)) ..))
def F.State.writeSmemCfg : Nat := 0xc000000000000000000000000000000000000000000000000000000000000000000000000000000000000000000000000002000000000000
theorem State.writeSmemCfg_off {m a} (hm : F.State.writeSmemCfg &&& m = F.State.writeSmemCfg) (h0' : Off m a s0') (a1') : Off m a (State.writeSmemCfg s0' a1') := by
  unfold State.writeSmemCfg; exact (.ite (State.refuse_off (sb hm (by decide)) h0' ..) (State.wrWord_off h0' (.cons (has_SMEM_CFG_LOCK (tb hm (by decide))) (.cons (has_SMEM_CFG_DIV (tb hm (by decide))) .nil)) ..))
def F.State.smemRefuse : Nat := 0x380000000000000000000000000000000000000000000000000000001000000000000
theorem State.smemRefuse_off {m a} (hm : F.State.smemRefuse &&& m = F.State.smemRefuse) (h0' : Off m a s0') (a1') : Off m a (State.smemRefuse s0' a1') := by
  unfold State.smemRefuse; exact (by extract_lets -merge s0; have h1 : Off m a s0 := (by unfold s0; exact (State.satInc_off (State.wr_off h0' (has_SMEM_CMD_STAT_RESULT (tb hm (by decide))) ..) (has_SMEM_ERR_CNT (tb hm (by decide))) ..)); (try clear_value s0); (try clear_value s0); exact (State.int_off (sb hm (by decide)) (State.cond_off h1 (fun _ h2 => (State.wr_off h2 (has_SMEM_CMD_STAT_DONE (tb hm (by decide))) ..)) ..) ..))
def F.State.writeSmemCmd : Nat := 0x7f000000000000000020000003800000000000000000000000000000000000000000000000000003ff000101001800
theorem State.writeSmemCmd_off {m a} (hm : F.State.writeSmemCmd &&& m = F.State.writeSmemCmd) (h0' : Off m a s0') (a1') : Off m a (State.writeSmemCmd s0' a1') := by
  unfold State.writeSmemCmd; exact (by extract_lets -merge s0 s2 s4; have h1 : Off m a s0 := (by unfold s0; exact (State.wrWord_off h0' (.cons (has_SMEM_CMD_WREN (tb hm (by decide))) (.cons (has_SMEM_CMD_ADDR (tb hm (by decide))) (.cons (has_SMEM_CMD_WRITE (tb hm (by decide))) (.cons (has_SMEM_CMD_QUAD (tb hm (by decide))) (.cons (has_SMEM_CMD_POLL (tb hm (by decide))) (.cons (has_SMEM_CMD_OPCODE (tb hm (by decide))) (.cons (has_SMEM_CMD_DUMMY (tb hm (by decide))) .nil))))))) ..)); (try clear_value s0); have h3 : Off m a s2 := (by unfold s2; exact (State.wr_off (State.wr_off (State.wr_off h1 (has_SMEM_CMD_STAT_BUSY (tb hm (by decide))) ..) (has_SMEM_CMD_STAT_DONE (tb hm (by decide))) ..) (has_SMEM_CMD_STAT_RESULT (tb hm (by decide))) ..)); (try clear_value s2); have h5 : Off m a s4 := (by unfold s4; exact (.upd h3 (h_smem := .inr (tb hm (by decide))))); (try clear_value s4); (try clear_value s0 s2 s4); exact (.ite h1 (.ite (State.smemRefuse_off (sb hm (by decide)) h1 ..) (.ite (State.smemRefuse_off (sb hm (by decide)) h1 ..) (State.cond_off h5 (fun _ h6 => (State.journal_off (sb hm (by decide)) h6 ..)) ..)))))
def F.State.setCopyDone : Nat := 0x7000000000000000000000000000000000000000000000000000000000000000000000000000000000000000000000000000000000000000000000000000000000000400
theorem State.setCopyDone_off {m a} (hm : F.State.setCopyDone &&& m = F.State.setCopyDone) (h0' : Off m a s0') (a1') (a2') : Off m a (State.setCopyDone s0' a1' a2') := by
  unfold State.setCopyDone; exact (by extract_lets -merge s0 s2; have h1 : Off m a s0 := (by unfold s0; exact (State.setBoot_off (sb hm (by decide)) h0' ..)); (try clear_value s0); have h3 : Off m a s2 := (by unfold s2; exact (State.wr_off h1 (.ite (has_BOOT_STAT_A_VALID (tb hm (by decide))) (has_BOOT_STAT_B_VALID (tb hm (by decide)))) ..)); (try clear_value s2); (try clear_value s0 s2); exact (State.cond_off h3 (fun _ h4 => (State.wr_off h4 (has_BOOT_STAT_CHECKED (tb hm (by decide))) ..)) ..))
def F.State.copyBad : Nat := 0x21c70000000000000000000000000000000000000000000000000000000000000000000000000000000000000000000000000000000000000000000000003ff000001001c00
theorem State.copyBad_off {m a} (hm : F.State.copyBad &&& m = F.State.copyBad) (h0' : Off m a s0') (a1') (a2') (a3') : Off m a (State.copyBad s0' a1' a2' a3') := by
  unfold State.copyBad; exact (by extract_lets -merge x0 s1 s3; (try clear_value x0); have h2 : Off m a s1 := (by unfold s1; exact (State.wr_off (State.wr_off (State.wr_off h0' (has_BOOT_ERR_CODE (tb hm (by decide))) ..) (has_BOOT_ERR_COPY (tb hm (by decide))) ..) (has_BOOT_ERR_OFFSET (tb hm (by decide))) ..)); (try clear_value s1); have h4 : Off m a s3 := (by unfold s3; exact (.ite (State.raiseInt_off (sb hm (by decide)) (State.satInc_off h2 (has_SEC_AUTH_FAIL_CNT (tb hm (by decide))) ..) ..) (State.raise_off (sb hm (by decide)) h2 ..))); (try clear_value s3); (try clear_value s1 s3); exact (State.journalInt_off (sb hm (by decide)) (State.setCopyDone_off (sb hm (by decide)) h4 ..) ..))
def F.State.backgroundCheck : Nat := 0x21c70000000000000000000000000000000000000000000000000000000000000000000000000000000000000000000000000000000000000000000000003ff000001001c00
theorem State.backgroundCheck_off {m a} (hm : F.State.backgroundCheck &&& m = F.State.backgroundCheck) (h0' : Off m a s0') (a1') (a2') : Off m a (State.backgroundCheck s0' a1' a2') := by
  unfold State.backgroundCheck; exact (by extract_lets -merge x0 x1 s2; (try clear_value x0 x1); have h3 : Off m a s2 := (by unfold s2; exact (.ite (State.setCopyDone_off (sb hm (by decide)) h0' ..) (State.copyBad_off (sb hm (by decide)) h0' ..))); (try clear_value s2); (try clear_value s2); exact (.ite h0' (State.int_off (sb hm (by decide)) h3 ..)))
def F.State.loadCopy : Nat := 0x38000000000000000000002000000000000000000000000000000000000000000000000000000000000000000000000000000000000000000000000000000000000000000000000000000400
theorem State.loadCopy_off {m a} (hm : F.State.loadCopy &&& m = F.State.loadCopy) (h0' : Off m a s0') (a1') : Off m a (State.loadCopy s0' a1') := by
  unfold State.loadCopy; exact (by extract_lets -merge x0 x1 s2 s4; (try clear_value x0 x1); have h3 : Off m a s2 := (by unfold s2; exact (State.wr_off (State.wr_off h0' (has_BOOT_STAT_COPY (tb hm (by decide))) ..) (has_BOOT_SEQ (tb hm (by decide))) ..)); (try clear_value s2); have h5 : Off m a s4 := (by unfold s4; exact (State.wr_off (State.wr_off h3 (has_BOOT_STAT_AUTH (tb hm (by decide))) ..) (has_BOOT_STAT_PHASE (tb hm (by decide))) ..)); (try clear_value s4); (try clear_value s2 s4); exact (State.setBoot_off (sb hm (by decide)) h5 ..))
def F.State.toPhase4 : Nat := 0x2000000000000000000000000000000000000000000000000000000000000000000000000000000000000013000000000000000000000000000002000001000400
theorem State.toPhase4_off {m a} (hm : F.State.toPhase4 &&& m = F.State.toPhase4) (h0' : Off m a s0') : Off m a (State.toPhase4 s0') := by
  unfold State.toPhase4; exact (State.formatImage_off (sb hm (by decide)) (State.setBoot_off (sb hm (by decide)) (State.wr_off h0' (has_BOOT_STAT_PHASE (tb hm (by decide))) ..) ..) ..)
def F.State.noImage : Nat := 0x2000000000000000000000000000000000000000000000000000000000000000000000000000000000000013000000000000000000000000000003000001000c00
theorem State.noImage_off {m a} (hm : F.State.noImage &&& m = F.State.noImage) (h0' : Off m a s0') : Off m a (State.noImage s0') := by
  unfold State.noImage; exact (State.toPhase4_off (sb hm (by decide)) (State.stand_off (sb hm (by decide)) (State.raise_off (sb hm (by decide)) h0' ..) ..) ..)
def F.State.copyChecked : Nat := 0x20000000000000000000000380000000000021c70000020000000000000000000000000000000000000000000000000000000000000000000000000000000000000130000000000000000000000000003ff000001001c00
theorem State.copyChecked_off {m a} (hm : F.State.copyChecked &&& m = F.State.copyChecked) (h0' : Off m a s0') (a1') (a2') : Off m a (State.copyChecked s0' a1' a2') := by
  unfold State.copyChecked; exact (by extract_lets -merge x0 x1 s2 x4 s5; (try clear_value x0 x1 x4); have h3 : Off m a s2 := (by unfold s2; exact (State.wr_off h0' (has_SMEM_STAT_DIV (tb hm (by decide))) ..)); (try clear_value s2); have h6 : Off m a s5 := (by unfold s5; exact (State.copyBad_off (sb hm (by decide)) h3 ..)); (try clear_value s5); (try clear_value s2 s5); exact (.ite h0' (.ite (State.loadCopy_off (sb hm (by decide)) (State.setCopyDone_off (sb hm (by decide)) h3 ..) ..) (.ite (State.noImage_off (sb hm (by decide)) h6 ..) (State.setBoot_off (sb hm (by decide)) h6 ..)))))
def F.State.discoveryDone : Nat := 0x3d0000000000000000000000000000000000021c70000020000000000000000000000000000000000000000000000000000000000000000000000000000000000000130000000000000000000000000003ff000001001c00
theorem State.discoveryDone_off {m a} (hm : F.State.discoveryDone &&& m = F.State.discoveryDone) (h0' : Off m a s0') (a1') (a2') (a3') (a4') : Off m a (State.discoveryDone s0' a1' a2' a3' a4') := by
  unfold State.discoveryDone; exact (.ite h0' (by extract_lets -merge s0 s2 s5 x7 x8 s9 s12; (try clear_value x7 x8); have h1 : Off m a s0 := (by unfold s0; exact (State.wr_off (State.wr_off h0' (has_SMEM_STAT_READY (tb hm (by decide))) ..) (has_BOOT_STAT_PHASE (tb hm (by decide))) ..)); (try clear_value s0); have h4 : Off m a s2 := (by unfold s2; exact (by split; (· exact (State.stand_off (sb hm (by decide)) (State.raise_off (sb hm (by decide)) (State.wr_off (State.wr_off (State.wr_off (State.wr_off h1 (has_SMEM_STAT_MODE (tb hm (by decide))) ..) (has_SMEM_STAT_SIZE_LOG2 (tb hm (by decide))) ..) (has_SMEM_STAT_ADDR4 (tb hm (by decide))) ..) (has_SMEM_STAT_SFDP_OK (tb hm (by decide))) ..) ..) ..)); (· exact (by extract_lets -merge x3; (try clear_value x3); exact (State.wr_off (State.wr_off (State.wr_off (State.wr_off h1 (has_SMEM_STAT_MODE (tb hm (by decide))) ..) (has_SMEM_STAT_SIZE_LOG2 (tb hm (by decide))) ..) (has_SMEM_STAT_ADDR4 (tb hm (by decide))) ..) (has_SMEM_STAT_SFDP_OK (tb hm (by decide))) ..))))); (try clear_value s2); have h6 : Off m a s5 := (by unfold s5; exact (State.setBoot_off (sb hm (by decide)) h4 ..)); (try clear_value s5); have h11 : Off m a s9 := (by unfold s9; exact (State.cond_off h6 (fun _ h10 => (State.copyBad_off (sb hm (by decide)) h10 ..)) ..)); (try clear_value s9); have h14 : Off m a s12 := (by unfold s12; exact (State.cond_off h11 (fun _ h13 => (State.copyBad_off (sb hm (by decide)) h13 ..)) ..)); (try clear_value s12); (try clear_value s0 s2 s5 s9 s12); exact (.ite (State.noImage_off (sb hm (by decide)) (State.stand_off (sb hm (by decide)) (State.raise_off (sb hm (by decide)) h1 ..) ..) ..) (.ite (State.noImage_off (sb hm (by decide)) h14 ..) (State.setBoot_off (sb hm (by decide)) h14 ..)))))
def F.State.gpioEdge : Nat := 0x300000000000000000000000000000000000000000000000000000000000000000000000000000000000000000000000000000000000000000000000000000000000000000000000000000000000000000000000000000000100
theorem State.gpioEdge_off {m a} (hm : F.State.gpioEdge &&& m = F.State.gpioEdge) (h0' : Off m a s0') (a1') (a2') : Off m a (State.gpioEdge s0' a1' a2') := by
  unfold State.gpioEdge; exact (.ite h0' (by extract_lets -merge x0 s1; (try clear_value x0); have h2 : Off m a s1 := (by unfold s1; exact (.upd h0' (h_pins := .inr (tb hm (by decide))))); (try clear_value s1); (try clear_value s1); exact (State.putBit_off h2 (.ite (has_SYS_GPIO_EDGE_RISE (tb hm (by decide))) (has_SYS_GPIO_EDGE_FALL (tb hm (by decide)))) ..)))
def F.State.planKeep : Nat := 0x20000
theorem State.planKeep_off {m a} (hm : F.State.planKeep &&& m = F.State.planKeep) (h0' : Off m a s0') (a1') : Off m a (State.planKeep s0' a1') := by
  unfold State.planKeep; exact (.ite h0' (State.setSyn_off (sb hm (by decide)) h0' ..))
def F.State.startBoth : Nat := 0x1e01b000000005de003f82800008020000000b2000
theorem State.startBoth_off {m a} (hm : F.State.startBoth &&& m = F.State.startBoth) (h0' : Off m a s0') : Off m a (State.startBoth s0') := by
  unfold State.startBoth; exact (.ite (State.planKeep_off (sb hm (by decide)) (State.planKeep_off (sb hm (by decide)) h0' ..) ..) (State.synGo_off (sb hm (by decide)) (State.synGo_off (sb hm (by decide)) h0' ..) ..))
def F.State.recRun : Nat := 0x100000000000000000000000000000000000000000000000000000000000000000000000000000000000000000000000000000000000000000000000000000000400
theorem State.recRun_off {m a} (hm : F.State.recRun &&& m = F.State.recRun) (h0' : Off m a s0') (h1' : ∀ y0, Off m a y0 → Off m a (f1' y0)) : Off m a (State.recRun s0' f1') := by
  unfold State.recRun; exact (.ite h0' (.ite (State.setBoot_off (sb hm (by decide)) h0' ..) (h1' _ (State.setBoot_off (sb hm (by decide)) (State.satInc_off h0' (has_BOOT_STAT_RECORDS (tb hm (by decide))) ..) ..))))
def F.State.imgCalibrate : Nat := 0x1000000000000000000000000000000000000000000000000000000000000000000000000000000000000000001e01b000000005de003f82800008020000000b2400
theorem State.imgCalibrate_off {m a} (hm : F.State.imgCalibrate &&& m = F.State.imgCalibrate) (h0' : Off m a s0') : Off m a (State.imgCalibrate s0') := by
  unfold State.imgCalibrate; exact (State.recRun_off (sb hm (by decide)) h0' (fun _ h0 => (by extract_lets -merge x1; (try clear_value x1); exact (State.setBoot_off (sb hm (by decide)) (State.startBoth_off (sb hm (by decide)) h0 ..) ..))) ..)
def F.State.imgDelay : Nat := 0x100000000000000000000000000000000000000000000000000000000000000000000000000000000000000000000000000000000000000000000000000000000400
theorem State.imgDelay_off {m a} (hm : F.State.imgDelay &&& m = F.State.imgDelay) (h0' : Off m a s0') (a1') : Off m a (State.imgDelay s0' a1') := by
  unfold State.imgDelay; exact (State.recRun_off (sb hm (by decide)) h0' (fun _ h0 => (State.setBoot_off (sb hm (by decide)) h0 ..)) ..)
def F.State.imgDelayEnd : Nat := 0x100440
theorem State.imgDelayEnd_off {m a} (hm : F.State.imgDelayEnd &&& m = F.State.imgDelayEnd) (h0' : Off m a s0') : Off m a (State.imgDelayEnd s0') := by
  unfold State.imgDelayEnd; exact (by split; (· exact (.ite h0' (State.setBoot_off (sb hm (by decide)) (State.reach_off (sb hm (by decide)) h0' ..) ..))); (· exact h0'))
def F.State.imgEnd : Nat := 0x102000000000000000000000000000000000000000000000000000000000000000000000000000000000000013000000000000000000000000000002000001000400
theorem State.imgEnd_off {m a} (hm : F.State.imgEnd &&& m = F.State.imgEnd) (h0' : Off m a s0') : Off m a (State.imgEnd s0') := by
  unfold State.imgEnd; exact (.ite (State.toPhase4_off (sb hm (by decide)) (State.setBoot_off (sb hm (by decide)) (State.satInc_off h0' (has_BOOT_STAT_RECORDS (tb hm (by decide))) ..) ..) ..) h0')
def F.State.imgNop : Nat := 0x100000000000000000000000000000000000000000000000000000000000000000000000000000000000000000000000000000000000000000000000000000000400
theorem State.imgNop_off {m a} (hm : F.State.imgNop &&& m = F.State.imgNop) (h0' : Off m a s0') : Off m a (State.imgNop s0') := by
  unfold State.imgNop; exact (.ite (State.setBoot_off (sb hm (by decide)) (State.satInc_off h0' (has_BOOT_STAT_RECORDS (tb hm (by decide))) ..) ..) h0')
def F.State.loadAbort : Nat := 0x4000000000000000000000000000000000000000000000000000000000000000000000000000000000000000000000000000000000000000000000000000000003000000000800
theorem State.loadAbort_off {m a} (hm : F.State.loadAbort &&& m = F.State.loadAbort) (h0' : Off m a s0') : Off m a (State.loadAbort s0') := by
  unfold State.loadAbort; exact (State.stand_off (sb hm (by decide)) (State.raise_off (sb hm (by decide)) (State.wr_off h0' (has_BOOT_STAT_ABORTED (tb hm (by decide))) ..) ..) ..)
def F.State.imgTimeout : Nat := 0x4000000000002000000000000000000000000000000000000000000000000000000000000000000000000000000000000013000000000000000000000000000003000001100c40
theorem State.imgTimeout_off {m a} (hm : F.State.imgTimeout &&& m = F.State.imgTimeout) (h0' : Off m a s0') : Off m a (State.imgTimeout s0') := by
  unfold State.imgTimeout; exact (by split; (· exact (.ite h0' (by extract_lets -merge s0; have h1 : Off m a s0 := (by unfold s0; exact (State.setBoot_off (sb hm (by decide)) (State.reach_off (sb hm (by decide)) h0' ..) ..)); (try clear_value s0); (try clear_value s0); exact (.ite (State.toPhase4_off (sb hm (by decide)) (State.loadAbort_off (sb hm (by decide)) h1 ..) ..) h1)))); (· exact h0'))
def F.State.loadLimit : Nat := 0x4000000000002000000000000000000000000000000000000000000000000000000000000000000000000000000000000013000000000000000000000000000003000001100c40
theorem State.loadLimit_off {m a} (hm : F.State.loadLimit &&& m = F.State.loadLimit) (h0' : Off m a s0') : Off m a (State.loadLimit s0') := by
  unfold State.loadLimit; exact (by extract_lets -merge x0 s1; (try clear_value x0); have h2 : Off m a s1 := (by unfold s1; exact (State.loadAbort_off (sb hm (by decide)) (State.reach_off (sb hm (by decide)) h0' ..) ..)); (try clear_value s1); (try clear_value s1); exact (.ite h0' (.ite (State.noImage_off (sb hm (by decide)) h2 ..) (State.toPhase4_off (sb hm (by decide)) h2 ..))))
def F.State.strapCheck : Nat := 0x4041000000000000c002ffffffff00004503b800
theorem State.strapCheck_off {m a} (hm : F.State.strapCheck &&& m = F.State.strapCheck) (h0' : Off m a s0') : Off m a (State.strapCheck s0') := by
  unfold State.strapCheck; exact (State.cond_off h0' (fun _ h0 => (State.idConflict_off (sb hm (by decide)) h0 ..)) ..)
def F.State.phase0Done : Nat := 0x22001c00000000000100000000000000000000000000040000200002000000000000000000000000000000000000000000000000000000000000000000000000000000000000000004041000000000000c07fffffffff00004513b900
theorem State.phase0Done_off {m a} (hm : F.State.phase0Done &&& m = F.State.phase0Done) (h0' : Off m a s0') (a1') (a2') (a3') (a4') (a5') (a6') : Off m a (State.phase0Done s0' a1' a2' a3' a4' a5' a6') := by
  unfold State.phase0Done; exact (.ite h0' (by extract_lets -merge s0 s2 s4 x6 s7 s9; (try clear_value x6); have h1 : Off m a s0 := (by unfold s0; exact (State.wr_off (State.wr_off (State.wr_off h0' (has_SYS_STATE_DEV_ID (tb hm (by decide))) ..) (has_SYS_STATE_VERTEX (tb hm (by decide))) ..) (has_TWT_CFG_ADDR (tb hm (by decide))) ..)); (try clear_value s0); have h3 : Off m a s2 := (by unfold s2; exact (State.wr_off h1 (has_TIME_STAT_REF_DEV (tb hm (by decide))) ..)); (try clear_value s2); have h5 : Off m a s4 := (by unfold s4; exact (State.wr_off (State.wr_off h3 (has_HIF_LINK_STRAP_W (tb hm (by decide))) ..) (has_SYS_SUPPLY_NVQ_1V2 (tb hm (by decide))) ..)); (try clear_value s4); have h8 : Off m a s7 := (by unfold s7; exact (.upd h5 (h_pins := .inr (tb hm (by decide))))); (try clear_value s7); have h10 : Off m a s9 := (by unfold s9; exact (by split; (· exact (State.wr_off h8 (has_TIME_STAT_REF_CODE (tb hm (by decide))) ..)); (· exact (State.refInFail_off (sb hm (by decide)) h8 ..)))); (try clear_value s9); (try clear_value s0 s2 s4 s7 s9); exact (State.wr_off (State.strapCheck_off (sb hm (by decide)) h10 ..) (has_BOOT_STAT_PHASE (tb hm (by decide))) ..)))
def F.State.progDone : Nat := 0x3800000000000000000000000000000000000000000000000000000000000000000000000000000000200000000000000018000000000000000000000000000000000000000000000000000000000003ff000001001c00
theorem State.progDone_off {m a} (hm : F.State.progDone &&& m = F.State.progDone) (h0' : Off m a s0') (a1') : Off m a (State.progDone s0' a1') := by
  unfold State.progDone; exact (by split; (· exact h0'); (· exact (by extract_lets -merge x0 s1 s3 s6 s8 s11; (try clear_value x0); have h2 : Off m a s1 := (by unfold s1; exact (State.setBoot_off (sb hm (by decide)) h0' ..)); (try clear_value s1); have h5 : Off m a s3 := (by unfold s3; exact (State.cond_off h2 (fun _ h4 => (State.wr_off h4 (.ite (has_SEC_STAT_CHAIN_KEY (tb hm (by decide))) (.ite (has_SEC_STAT_IMG_KEY (tb hm (by decide))) (has_SEC_STAT_AUTH_REQ (tb hm (by decide))))) ..)) ..)); (try clear_value s3); have h7 : Off m a s6 := (by unfold s6; exact (State.wr_off (State.wr_off h5 (has_SEC_STAT_BUSY (tb hm (by decide))) ..) (has_SEC_STAT_RESULT (tb hm (by decide))) ..)); (try clear_value s6); have h10 : Off m a s8 := (by unfold s8; exact (.foldl h7 (fun _ h9 _ => (State.wr_off h9 (has_SEC_KEY (tb hm (by decide))) ..)) _)); (try clear_value s8); have h13 : Off m a s11 := (by unfold s11; exact (State.cond_off h10 (fun _ h12 => (State.raise_off (sb hm (by decide)) h12 ..)) ..)); (try clear_value s11); (try clear_value s1 s3 s6 s8 s11); exact (State.journalInt_off (sb hm (by decide)) h13 ..))))
def F.State.rehearse : Nat := 0x1000000000000000000000000000000002000000000000000000000000000000000000000000000000000000000000000000000000000000000000000000041000000000000c00288000bff000041033a00
theorem State.rehearse_off {m a} (hm : F.State.rehearse &&& m = F.State.rehearse) (h0' : Off m a s0') : Off m a (State.rehearse s0') := by
  unfold State.rehearse; exact (.ite h0' (by extract_lets -merge s0 s2 x4 s5 s7 s9; (try clear_value x4); have h1 : Off m a s0 := (by unfold s0; exact (State.wr_off h0' (has_BOOT_STAT_PHASE (tb hm (by decide))) ..)); (try clear_value s0); have h3 : Off m a s2 := (by unfold s2; exact (State.wr_off h1 (has_BOOT_TIME (tb hm (by decide))) ..)); (try clear_value s2); have h6 : Off m a s5 := (by unfold s5; exact (State.journal_off (sb hm (by decide)) h3 ..)); (try clear_value s5); have h8 : Off m a s7 := (by unfold s7; exact (State.setSys_off (sb hm (by decide)) (State.int_off (sb hm (by decide)) h6 ..) ..)); (try clear_value s7); have h10 : Off m a s9 := (by unfold s9; exact (State.setFc_off (sb hm (by decide)) (State.setDevState_off (sb hm (by decide)) h8 ..) ..)); (try clear_value s9); (try clear_value s0 s2 s5 s7 s9); exact (State.cond_off h10 (fun _ h11 => (State.wr_off h11 (has_SYS_STATE_PENDING (tb hm (by decide))) ..)) ..)))
def F.State.restartClock : Nat := 0x8000000000000000000000000000000000000000000000000000000000000000000000000000000000000000000000000000000000000000000000000211101040
theorem State.restartClock_off {m a} (hm : F.State.restartClock &&& m = F.State.restartClock) (h0' : Off m a s0') : Off m a (State.restartClock s0') := by
  unfold State.restartClock; exact (by extract_lets -merge x0 x1 x2 s3 x5 x6 x7 x8; (try clear_value x0 x1 x2 x5 x6 x7 x8); have h4 : Off m a s3 := (by unfold s3; exact (State.satAdd_off h0' (has_STM_SCRUB_AGE (tb hm (by decide))) ..)); (try clear_value s3); (try clear_value s3); exact (.upd h4 (h_now := .inr (tb hm (by decide))) (h_pb := .inr (tb hm (by decide))) (h_time := .inr (tb hm (by decide))) (h_stm := .inr (tb hm (by decide))) (h_thm := .inr (tb hm (by decide))) (h_marks := .inr (tb hm (by decide)))))
def F.State.resetRelease : Nat := 0xa000000000000000000000000000000000000000000000000000000000000000000000000000000000000000004041000000000000c002ffffffff00025513bc40
theorem State.resetRelease_off {m a} (hm : F.State.resetRelease &&& m = F.State.resetRelease) (h0' : Off m a s0') : Off m a (State.resetRelease s0') := by
  unfold State.resetRelease; exact (by split; (· exact h0'); (· exact (by extract_lets -merge s0 s2 s4; have h1 : Off m a s0 := (by unfold s0; exact (.ite (State.restartClock_off (sb hm (by decide)) h0' ..) (State.reach_off (sb hm (by decide)) h0' ..))); (try clear_value s0); have h3 : Off m a s2 := (by unfold s2; exact (State.setBoot_off (sb hm (by decide)) h1 ..)); (try clear_value s2); have h5 : Off m a s4 := (by unfold s4; exact (State.setThm_off (sb hm (by decide)) h3 ..)); (try clear_value s4); (try clear_value s0 s2 s4); exact (State.cond_off (State.wr_off h5 (has_BOOT_STAT_PHASE (tb hm (by decide))) ..) (fun _ h6 => (State.strapCheck_off (sb hm (by decide)) h6 ..)) ..))))
def F.State.smemDone : Nat := 0x800000000000000000000000000000000000000000000000000000000000000000000000000000000000000000000000002000000380000000000000000000000000000000000000000000000000000003000100000800
theorem State.smemDone_off {m a} (hm : F.State.smemDone &&& m = F.State.smemDone) (h0' : Off m a s0') (a1') (a2') : Off m a (State.smemDone s0' a1' a2') := by
  unfold State.smemDone; exact (by split; (· exact h0'); (· exact (by extract_lets -merge s0 s2 x5 s6 s8; (try clear_value x5); have h1 : Off m a s0 := (by unfold s0; exact (.upd h0' (h_smem := .inr (tb hm (by decide))))); (try clear_value s0); have h4 : Off m a s2 := (by unfold s2; exact (.ite h1 (.foldl h1 (fun _ h3 _ => (by split; (· exact (State.wrBits_off h3 (has_SMEM_DATA (tb hm (by decide))) ..)))) _))); (try clear_value s2); have h7 : Off m a s6 := (by unfold s6; exact (State.wr_off (State.wr_off (State.wr_off h4 (has_SMEM_CMD_STAT_BUSY (tb hm (by decide))) ..) (has_SMEM_CMD_STAT_DONE (tb hm (by decide))) ..) (has_SMEM_CMD_STAT_RESULT (tb hm (by decide))) ..)); (try clear_value s6); have h9 : Off m a s8 := (by unfold s8; exact (State.int_off (sb hm (by decide)) h7 ..)); (try clear_value s8); (try clear_value s0 s2 s6 s8); exact (State.cond_off h9 (fun _ h10 => (State.raiseInt_off (sb hm (by decide)) (State.satInc_off h10 (has_SMEM_ERR_CNT (tb hm (by decide))) ..) ..)) ..))))
def F.State.standFall : Nat := 0x20800
theorem State.standFall_off {m a} (hm : F.State.standFall &&& m = F.State.standFall) (h0' : Off m a s0') (a1') (a2') : Off m a (State.standFall s0' a1' a2') := by
  unfold State.standFall; exact (.ite (State.linesGood_off (sb hm (by decide)) h0' ..) (.ite (State.unstand_off (sb hm (by decide)) h0' ..) (.ite (.ite (State.unstand_off (sb hm (by decide)) h0' ..) h0') (.ite (State.unstand_off (sb hm (by decide)) h0' ..) h0'))))
def F.State.startCal : Nat := 0x1e01b000000005de003f82800008020000000b2400
theorem State.startCal_off {m a} (hm : F.State.startCal &&& m = F.State.startCal) (h0' : Off m a s0') : Off m a (State.startCal s0') := by
  unfold State.startCal; exact (.ite h0' (State.setBoot_off (sb hm (by decide)) (.ite h0' (State.startBoth_off (sb hm (by decide)) h0' ..)) ..))
def F.State.supplyClear : Nat := 0x6000000000000000000000000000000000000000000000000000000000000000000000000000000000000000000000000000000000000000000000000000000000000003ff000001001800
theorem State.supplyClear_off {m a} (hm : F.State.supplyClear &&& m = F.State.supplyClear) (h0' : Off m a s0') : Off m a (State.supplyClear s0') := by
  unfold State.supplyClear; exact (State.resumeRecording_off (sb hm (by decide)) (State.wr_off (State.wr_off h0' (has_SYS_SUPPLY_UNDER_NOW (tb hm (by decide))) ..) (has_SYS_SUPPLY_OVER_NOW (tb hm (by decide))) ..) ..)
def F.State.supplyOver : Nat := 0x2000000000000000000000000000000300000000000000000000000000000000000000000000000000000000000000000000000000000000000000000000000000000000000000000000000000000000000000003000000000800
theorem State.supplyOver_off {m a} (hm : F.State.supplyOver &&& m = F.State.supplyOver) (h0' : Off m a s0') (a1') : Off m a (State.supplyOver s0' a1') := by
  unfold State.supplyOver; exact (.ite h0' (by extract_lets -merge s0; have h1 : Off m a s0 := (by unfold s0; exact (State.putBit_off (State.putBit_off h0' (has_SYS_SUPPLY_OVER_NOW (tb hm (by decide))) ..) (has_SYS_SUPPLY_OVER_STICKY (tb hm (by decide))) ..)); (try clear_value s0); (try clear_value s0); exact (State.stand_off (sb hm (by decide)) (State.raise_off (sb hm (by decide)) (State.satInc_off h1 (has_SYS_SUPPLY_CNT (tb hm (by decide))) ..) ..) ..)))
def F.State.supplyUnder : Nat := 0x40000000000000000000000000000005040000000000000000000000000000000000000000000000000000000000000000000000000000000000000000000000000000000000000000000000000000000000003ff000001001800
theorem State.supplyUnder_off {m a} (hm : F.State.supplyUnder &&& m = F.State.supplyUnder) (h0' : Off m a s0') (a1') : Off m a (State.supplyUnder s0' a1') := by
  unfold State.supplyUnder; exact (.ite h0' (by extract_lets -merge s0; have h1 : Off m a s0 := (by unfold s0; exact (State.putBit_off (State.putBit_off h0' (has_SYS_SUPPLY_UNDER_NOW (tb hm (by decide))) ..) (has_SYS_SUPPLY_UNDER_STICKY (tb hm (by decide))) ..)); (try clear_value s0); (try clear_value s0); exact (State.pfail_off (sb hm (by decide)) (State.stand_off (sb hm (by decide)) (State.raise_off (sb hm (by decide)) (State.satInc_off h1 (has_SYS_SUPPLY_CNT (tb hm (by decide))) ..) ..) ..) ..)))

end Sys2Proof.Machine
end

