-- ==== Sys2Proof/Laws/OffTwt.lean ====
section
/-! SUPPORT. What the operations of Machine/Twt.lean reach: the pieces of the state and the register fields whose
numbers are set in the mask of each (`F`). -/
namespace Sys2Proof.Machine
open Sys2Proof
set_option Elab.async false

def F.State.writeMboxOut : Nat := 0x800000000000000000000000000000000000000000000000000000000000000000000000000000000000000000000000000000000000002000000000000
theorem State.writeMboxOut_off {m a} (hm : F.State.writeMboxOut &&& m = F.State.writeMboxOut) (h0' : Off m a s0') (a1') (a2') : Off m a (State.writeMboxOut s0' a1' a2') := by
  unfold State.writeMboxOut; exact (.ite (State.refuse_off (sb hm (by decide)) h0' ..) (State.wr_off h0' (has_TWT_MBOX_OUT (tb hm (by decide))) ..))
def F.State.outGo : Nat := 0x2000000000000000000000000000000000000000000000000008000002000040000000
theorem State.outGo_off {m a} (hm : F.State.outGo &&& m = F.State.outGo) (h0' : Off m a s0') : Off m a (State.outGo s0') := by
  unfold State.outGo; exact (.ite (State.refuse_off (sb hm (by decide)) h0' ..) (State.alert_off (sb hm (by decide)) (State.wr_off h0' (has_TWT_STAT_OUT_FULL (tb hm (by decide))) ..) ..))
def F.State.inAck : Nat := 0x1000000000000000000000000000000000000000000000000000000000000000000000
theorem State.inAck_off {m a} (hm : F.State.inAck &&& m = F.State.inAck) (h0' : Off m a s0') : Off m a (State.inAck s0') := by
  unfold State.inAck; exact (State.wr_off h0' (has_TWT_STAT_IN_FULL (tb hm (by decide))) ..)
def F.State.writeTwtCtl : Nat := 0x3000000000000000000000000000000000000000000000000008000002000040000000
theorem State.writeTwtCtl_off {m a} (hm : F.State.writeTwtCtl &&& m = F.State.writeTwtCtl) (h0' : Off m a s0') (a1') : Off m a (State.writeTwtCtl s0' a1') := by
  unfold State.writeTwtCtl; exact (by extract_lets -merge s0 s3; have h2 : Off m a s0 := (by unfold s0; exact (State.cond_off h0' (fun _ h1 => (State.inAck_off (sb hm (by decide)) h1 ..)) ..)); (try clear_value s0); have h5 : Off m a s3 := (by unfold s3; exact (State.cond_off h2 (fun _ h4 => (State.outGo_off (sb hm (by decide)) h4 ..)) ..)); (try clear_value s3); (try clear_value s0 s3); exact (State.cond_off h5 (fun _ h6 => (State.alert_off (sb hm (by decide)) h6 ..)) ..))
def F.State.writeTwtCfg : Nat := 0x600000000000000000000000000000000000000000000000000000000000000000000000000000000000000000000000000000000000002000000000000
theorem State.writeTwtCfg_off {m a} (hm : F.State.writeTwtCfg &&& m = F.State.writeTwtCfg) (h0' : Off m a s0') (a1') : Off m a (State.writeTwtCfg s0' a1') := by
  unfold State.writeTwtCfg; exact (.ite (State.refuse_off (sb hm (by decide)) h0' ..) (State.wrWord_off h0' (.cons (has_TWT_CFG_IDLE_S (tb hm (by decide))) (.cons (has_TWT_CFG_SLEEP_EN (tb hm (by decide))) .nil)) ..))
def F.State.twtWake : Nat := 0x180000000000000000000000000000000000000000000000000000000000000000000000000000000000000000000000000000000000000000000000000000000000040000000
theorem State.twtWake_off {m a} (hm : F.State.twtWake &&& m = F.State.twtWake) (h0' : Off m a s0') : Off m a (State.twtWake s0') := by
  unfold State.twtWake; exact (State.setTwt_off (sb hm (by decide)) (State.satInc_off (State.wr_off h0' (has_TWT_STAT_ASLEEP (tb hm (by decide))) ..) (has_TWT_NACK_CNT (tb hm (by decide))) ..) ..)
def F.State.alertRead : Nat := 0x4000000000180000000000000000000000000000000000000000000000000000000000000000000000000000000000000000000000000000000000000000000000008000001000040000000
theorem State.alertRead_off {m a} (hm : F.State.alertRead &&& m = F.State.alertRead) (h0' : Off m a s0') (a1') : Off m a (State.alertRead s0' a1') := by
  unfold State.alertRead; exact (.ite h0' (.ite (State.twtWake_off (sb hm (by decide)) h0' ..) (by extract_lets -merge s0 s2; have h1 : Off m a s0 := (by unfold s0; exact (State.setTwt_off (sb hm (by decide)) h0' ..)); (try clear_value s0); have h3 : Off m a s2 := (by unfold s2; exact (State.setTwt_off (sb hm (by decide)) (State.satInc_off h1 (has_TWT_XFER_CNT (tb hm (by decide))) ..) ..)); (try clear_value s2); (try clear_value s0 s2); exact (.ite (State.setTwt_off (sb hm (by decide)) h1 ..) (State.cond_off h3 (fun _ h4 => (State.int_off (sb hm (by decide)) (State.wr_off h4 (has_TWT_STAT_ALERT (tb hm (by decide))) ..) ..)) ..)))))
def F.State.twtAddress : Nat := 0x4000000000180000800000000000000000000000000000000000000000000000000000000000000000000000000000000000000000000000000000000000000000000000000000040000000
theorem State.twtAddress_off {m a} (hm : F.State.twtAddress &&& m = F.State.twtAddress) (h0' : Off m a s0') (a1') (a2') : Off m a (State.twtAddress s0' a1' a2') := by
  unfold State.twtAddress; exact (.ite h0' (.ite (State.setTwt_off (sb hm (by decide)) (State.wr_off h0' (has_TWT_STAT_BUSY (tb hm (by decide))) ..) ..) (.ite (State.twtWake_off (sb hm (by decide)) h0' ..) (by extract_lets -merge s0 s3 x5; (try clear_value x5); have h2 : Off m a s0 := (by unfold s0; exact (State.cond_off h0' (fun _ h1 => (State.satInc_off h1 (has_TWT_XFER_CNT (tb hm (by decide))) ..)) ..)); (try clear_value s0); have h4 : Off m a s3 := (by unfold s3; exact (State.wr_off (State.wr_off h2 (has_TWT_STAT_BUSY (tb hm (by decide))) ..) (has_TWT_STAT_ASLEEP (tb hm (by decide))) ..)); (try clear_value s3); (try clear_value s0 s3); exact (State.setTwt_off (sb hm (by decide)) h4 ..)))))
def F.State.twtAdvance : Nat := 0x20000000000000000000000000000000000000000000000000000000000000000000000000000000000000000000000000000000000000000000000000000000000000000000000000
theorem State.twtAdvance_off {m a} (hm : F.State.twtAdvance &&& m = F.State.twtAdvance) (h0' : Off m a s0') : Off m a (State.twtAdvance s0') := by
  unfold State.twtAdvance; exact (State.inc_off h0' (has_TWT_STAT_PTR (tb hm (by decide))) ..)
def F.State.twtEnd : Nat := 0x800000000000000000000000000000000000000000000000000000000000000000000000000000000000000000000000000000000000000000000000000000040000000
theorem State.twtEnd_off {m a} (hm : F.State.twtEnd &&& m = F.State.twtEnd) (h0' : Off m a s0') (a1') : Off m a (State.twtEnd s0' a1') := by
  unfold State.twtEnd; exact (State.cond_off (State.setTwt_off (sb hm (by decide)) h0' ..) (fun _ h0 => (State.wr_off h0 (has_TWT_STAT_BUSY (tb hm (by decide))) ..)) ..)
def F.State.twtRead : Nat := 0x20000000000800000000000000000000000000000000000000000000000000000000000000002000000000000000000000000000000000000000000000000000000003000040000800
theorem State.twtRead_off {m a} (hm : F.State.twtRead &&& m = F.State.twtRead) (h0' : Off m a s0') (a1') (a2') : Off m a (State.twtRead s0' a1' a2') := by
  unfold State.twtRead; exact (.ite h0' (by extract_lets -merge x0 x1 s2 s4 s7 s10; (try clear_value x0 x1); have h3 : Off m a s2 := (by unfold s2; exact (State.setTwt_off (sb hm (by decide)) h0' ..)); (try clear_value s2); have h6 : Off m a s4 := (by unfold s4; exact (State.cond_off h3 (fun _ h5 => (State.raise_off (sb hm (by decide)) h5 ..)) ..)); (try clear_value s4); have h9 : Off m a s7 := (by unfold s7; exact (State.cond_off h6 (fun _ h8 => (State.setTwt_off (sb hm (by decide)) h8 ..)) ..)); (try clear_value s7); have h12 : Off m a s10 := (by unfold s10; exact (State.cond_off h9 (fun _ h11 => (State.int_off (sb hm (by decide)) (State.wr_off h11 (has_TWT_STAT_OUT_FULL (tb hm (by decide))) ..) ..)) ..)); (try clear_value s10); (try clear_value s2 s4 s7 s10); exact (State.twtEnd_off (sb hm (by decide)) (State.twtAdvance_off (sb hm (by decide)) h12 ..) ..)))
def F.State.twtRestart : Nat := 0x100000000000000000000000000000000000000000000000000000000000000000000000000000000000000000000000000000000000000000000000000000000000000000000000000000000000000000000000000001000040000000
theorem State.twtRestart_off {m a} (hm : F.State.twtRestart &&& m = F.State.twtRestart) (h0' : Off m a s0') : Off m a (State.twtRestart s0') := by
  unfold State.twtRestart; exact (.ite h0' (State.setTwt_off (sb hm (by decide)) (State.int_off (sb hm (by decide)) (State.satInc_off h0' (has_TWT_RSACK_CNT (tb hm (by decide))) ..) ..) ..))
def F.State.twtSleep : Nat := 0x100000000000000000000000000000000000000000000000000000000000000000000000000000000000000000000000000000000000000000000000000000000000000100040
theorem State.twtSleep_off {m a} (hm : F.State.twtSleep &&& m = F.State.twtSleep) (h0' : Off m a s0') : Off m a (State.twtSleep s0') := by
  unfold State.twtSleep; exact (.ite h0' (State.wr_off (State.reach_off (sb hm (by decide)) h0' ..) (has_TWT_STAT_ASLEEP (tb hm (by decide))) ..))
def F.State.twtStuck : Nat := 0x200000000000000000000000000000000000000000000000000800000000000000000000000000000000000000000000000000000000000000000000000000000000000000000000000000000000000000000000000003000040000800
theorem State.twtStuck_off {m a} (hm : F.State.twtStuck &&& m = F.State.twtStuck) (h0' : Off m a s0') : Off m a (State.twtStuck s0') := by
  unfold State.twtStuck; exact (.ite h0' (by extract_lets -merge s0; have h1 : Off m a s0 := (by unfold s0; exact (State.setTwt_off (sb hm (by decide)) (State.satInc_off (State.wr_off h0' (has_TWT_STAT_BUSY (tb hm (by decide))) ..) (has_TWT_STUCK_CNT (tb hm (by decide))) ..) ..)); (try clear_value s0); (try clear_value s0); exact (State.raiseInt_off (sb hm (by decide)) h1 ..)))
def F.State.twtWrite : Nat := 0xc0000000000000000000000000000000000000020000080000800000000000000000000000000000000000000000000000000000000000000001000000000000000000000000000000000000000000000000000000001000040000000
theorem State.twtWrite_off {m a} (hm : F.State.twtWrite &&& m = F.State.twtWrite) (h0' : Off m a s0') (a1') (a2') : Off m a (State.twtWrite s0' a1' a2') := by
  unfold State.twtWrite; exact (.ite h0' (by extract_lets -merge x0 s1 s3 s5; (try clear_value x0); have h2 : Off m a s1 := (by unfold s1; exact (State.setTwt_off (sb hm (by decide)) h0' ..)); (try clear_value s1); have h4 : Off m a s3 := (by unfold s3; exact (State.wrBits_off h2 (has_TWT_MBOX_IN (tb hm (by decide))) ..)); (try clear_value s3); have h7 : Off m a s5 := (by unfold s5; exact (.ite (State.setTwt_off (sb hm (by decide)) (State.wr_off h2 (has_TWT_STAT_PTR (tb hm (by decide))) ..) ..) (.ite (.ite (State.twtAdvance_off (sb hm (by decide)) (State.setTwt_off (sb hm (by decide)) (State.satInc_off h2 (has_TWT_NACK_CNT (tb hm (by decide))) ..) ..) ..) (State.twtAdvance_off (sb hm (by decide)) (State.cond_off h4 (fun _ h6 => (State.int_off (sb hm (by decide)) (State.wr_off h6 (has_TWT_STAT_IN_FULL (tb hm (by decide))) ..) ..)) ..) ..)) (State.twtAdvance_off (sb hm (by decide)) (State.satInc_off h2 (has_TWT_ROWR_CNT (tb hm (by decide))) ..) ..)))); (try clear_value s5); (try clear_value s1 s3 s5); exact (State.twtEnd_off (sb hm (by decide)) h7 ..)))

end Sys2Proof.Machine
end

