-- ==== Sys2Proof/Laws/OffHostWrite.lean ====
section
/-! SUPPORT. What the operations of Machine/HostWrite.lean reach: the pieces of the state and the register fields whose
numbers are set in the mask of each (`F`). -/
namespace Sys2Proof.Machine
open Sys2Proof
set_option Elab.async false

def F.State.readFx : Nat := 0x40000000000000000000000000000000000000000000000000000000000000000000000000000000000000000000000000000000000000003ff000003001800
theorem State.readFx_off {m a} (hm : F.State.readFx &&& m = F.State.readFx) (h0' : Off m a s0') (a1') : Off m a (State.readFx s0' a1').1 := by
  unfold State.readFx; exact (by extract_lets -merge x0 x1; (try clear_value x0 x1); exact (.ite1 (by split; rename_i s4 x5 e2; have h3 : Off m a s4 := .fst e2 (State.icClaim_off (sb hm (by decide)) h0' ..); exact (.pr1 h3)) (.pr1 h0')))
def F.State.readLocal : Nat := 0x40000000000000000000000000000000000000000000000000000000000000000000000000000000000000000000000000000000000000003ff000003001800
theorem State.readLocal_off {m a} (hm : F.State.readLocal &&& m = F.State.readLocal) (h0' : Off m a s0') (a1') : Off m a (State.readLocal s0' a1') := by
  unfold State.readLocal; exact (by split; rename_i s2 x3 e0; have h1 : Off m a s2 := .fst e0 (State.readFx_off (sb hm (by decide)) h0' ..); exact (State.toHost_off (sb hm (by decide)) h1 ..))
def F.State.setRunAt : Nat := 0x2000000
theorem State.setRunAt_off {m a} (hm : F.State.setRunAt &&& m = F.State.setRunAt) (h0' : Off m a s0') (a1') (a2') (a3') : Off m a (State.setRunAt s0' a1' a2' a3') := by
  unfold State.setRunAt; exact (State.setRun_off (sb hm (by decide)) h0' ..)
def F.State.answerNow : Nat := 0x40000000000000000000000000000000000000000000000000000000000000000000000000000000000000000000000000000000000000007ff000007001800
theorem State.answerNow_off {m a} (hm : F.State.answerNow &&& m = F.State.answerNow) (h0' : Off m a s0') (a1') (a2') : Off m a (State.answerNow s0' a1' a2') := by
  unfold State.answerNow; exact (by split; rename_i s2 x3 e0; have h1 : Off m a s2 := .fst e0 (State.readFx_off (sb hm (by decide)) h0' ..); exact (State.sendOnce_off (sb hm (by decide)) h1 ..))
def F.State.clearErr : Nat := 0x2000000000000
theorem State.clearErr_off {m a} (hm : F.State.clearErr &&& m = F.State.clearErr) (h0' : Off m a s0') (a1') (a2') : Off m a (State.clearErr s0' a1' a2') := by
  unfold State.clearErr; exact (by extract_lets -merge x0; (try clear_value x0); exact (State.clrBits_off h0' (has_PG_ERR (tb hm (by decide))) ..))
def F.State.pageErrClear : Nat := 0x2000000000000
theorem State.pageErrClear_off {m a} (hm : F.State.pageErrClear &&& m = F.State.pageErrClear) (h0' : Off m a s0') (a1') : Off m a (State.pageErrClear s0' a1') := by
  unfold State.pageErrClear; exact (State.clearErr_off (sb hm (by decide)) h0' ..)
def F.State.pageIntClear : Nat := 0x1000000000000
theorem State.pageIntClear_off {m a} (hm : F.State.pageIntClear &&& m = F.State.pageIntClear) (h0' : Off m a s0') (a1') : Off m a (State.pageIntClear s0' a1') := by
  unfold State.pageIntClear; exact (State.wr_off h0' (has_PG_INT_STAT (tb hm (by decide))) ..)
def F.State.writeHeader : Nat := 0x18000000000000000000000000000000000000000000000000000000000000000000000000000000000000000000000000000000000000000003000000000800
theorem State.writeHeader_off {m a} (hm : F.State.writeHeader &&& m = F.State.writeHeader) (h0' : Off m a s0') (a1') (a2') (a3') : Off m a (State.writeHeader s0' a1' a2' a3') := by
  unfold State.writeHeader; exact (.ite (by extract_lets -merge s0; have h2 : Off m a s0 := (by unfold s0; exact (State.cond_off h0' (fun _ h1 => (State.pageIntClear_off (sb hm (by decide)) h1 ..)) ..)); (try clear_value s0); (try clear_value s0); exact (State.cond_off h2 (fun _ h3 => (State.pageErrClear_off (sb hm (by decide)) h3 ..)) ..)) (.ite (State.clearErr_off (sb hm (by decide)) h0' ..) (.ite (State.wr_off h0' (has_PG_ERR_MASK (tb hm (by decide))) ..) (.ite (State.forceCause_off (sb hm (by decide)) h0' ..) (.ite (State.clrBits_off h0' (has_PG_INT_STAT (tb hm (by decide))) ..) (.ite (State.wr_off h0' (has_PG_INT_EN (tb hm (by decide))) ..) h0'))))))
def F.State.descWord : Nat := 0x40000000000000000000000000000000000000000000000000000000000000000000000000000000000000000000000000000000000000003ff000003001800
theorem State.descWord_off {m a} (hm : F.State.descWord &&& m = F.State.descWord) (h0' : Off m a s0') (a1') (a2') (a3') (a4') (a5') : Off m a (State.descWord s0' a1' a2' a3' a4' a5') := by
  unfold State.descWord; exact (by split; rename_i s2 x3 e0; have h1 : Off m a s2 := .fst e0 (State.readFx_off (sb hm (by decide)) h0' ..); exact (State.setRunAt_off (sb hm (by decide)) (State.toHost_off (sb hm (by decide)) h1 ..) ..))
def F.State.claimNow : Nat := 0x40000000000000000000000000000000000000000000000000000000000000000000000000000000000000000000000000000000000000003ff000003001800
theorem State.claimNow_off {m a} (hm : F.State.claimNow &&& m = F.State.claimNow) (h0' : Off m a s0') (a1') (a2') : Off m a (State.claimNow s0' a1' a2') := by
  unfold State.claimNow; exact (by split; rename_i s2 x3 e0; have h1 : Off m a s2 := .fst e0 (State.icClaim_off (sb hm (by decide)) h0' ..); exact (State.toHost_off (sb hm (by decide)) h1 ..))
def F.State.imgSkip : Nat := 0x1000040000000000000000000000000000000000000000000000000000000000000000000000000000000000000000000000000000000000000003ff000003001c00
theorem State.imgSkip_off {m a} (hm : F.State.imgSkip &&& m = F.State.imgSkip) (h0' : Off m a s0') (a1') (a2') (a3') (a4') (a5') : Off m a (State.imgSkip s0' a1' a2' a3' a4' a5') := by
  unfold State.imgSkip; exact (State.recRun_off (sb hm (by decide)) h0' (fun _ h0 => (by split; rename_i s3 x4 e1; have h2 : Off m a s3 := .fst e1 (State.readFx_off (sb hm (by decide)) h0 ..); exact (.ite (State.setBoot_off (sb hm (by decide)) h2 ..) h2))) ..)
def F.State.imgWait : Nat := 0x1000040000000000000000000000000000000000000000000000000000000000000000000000000000000000000000000000000000000000000003ff000003101c40
theorem State.imgWait_off {m a} (hm : F.State.imgWait &&& m = F.State.imgWait) (h0' : Off m a s0') (a1') (a2') (a3') (a4') (a5') : Off m a (State.imgWait s0' a1' a2' a3' a4' a5') := by
  unfold State.imgWait; exact (by split; (· exact (by extract_lets -merge x0; (try clear_value x0); exact (.ite h0' (by split; rename_i s3 x4 e1; have h2 : Off m a s3 := .fst e1 (State.readFx_off (sb hm (by decide)) (State.reach_off (sb hm (by decide)) h0' ..) ..); exact (.ite (State.setBoot_off (sb hm (by decide)) h2 ..) (State.setBoot_off (sb hm (by decide)) h2 ..)))))); (· exact (State.recRun_off (sb hm (by decide)) h0' (fun _ h5 => (by split; rename_i s8 x9 e6; have h7 : Off m a s8 := .fst e6 (State.readFx_off (sb hm (by decide)) h5 ..); exact (.ite h7 (State.setBoot_off (sb hm (by decide)) h7 ..)))) ..)))

end Sys2Proof.Machine
end

