-- ==== Sys2Proof/Laws/OffCommands.lean ====
section
/-! SUPPORT. What each command reaches. -/
namespace Sys2Proof.Machine
open Sys2Proof
set_option Elab.async false

def F.execEnterPerformance : Nat := 0x13a4100000c00000fc0029fff680100004007a800
theorem execEnterPerformance_off (s) : OutOff F.execEnterPerformance s (execEnterPerformance s) :=
  have hm := Nat.and_self F.execEnterPerformance; .next (have h := Off.refl; (State.enterPerformance_off (sb hm (by decide)) h ..))
def F.execPauseComplete : Nat := 0x4040000000000000c00288000801000040032800
theorem execPauseComplete_off (s) : OutOff F.execPauseComplete s (execPauseComplete s) :=
  have hm := Nat.and_self F.execPauseComplete; .next (have h := Off.refl; (State.pauseDone_off (sb hm (by decide)) h ..))
def F.execStateParity : Nat := 0x4041000000000000c002ffffffff00004503b800
theorem execStateParity_off (s) : OutOff F.execStateParity s (execStateParity s) :=
  have hm := Nat.and_self F.execStateParity; .next (have h := Off.refl; (State.stateParity_off (sb hm (by decide)) h ..))
def F.execSysCmdPause : Nat := 0x800000000000000017a4100000c00000fc002ffffffff00004507ba00
theorem execSysCmdPause_off (s) : OutOff F.execSysCmdPause s (execSysCmdPause s) :=
  have hm := Nat.and_self F.execSysCmdPause; .next (have h := Off.refl; (State.sysCmd_off (sb hm (by decide)) h ..))
def F.execSysCmdReservedCode : Nat := 0x800000000000000017a4100000c00000fc002ffffffff00004507ba00
theorem execSysCmdReservedCode_off (s) (a0') : OutOff F.execSysCmdReservedCode s (execSysCmdReservedCode a0' s) :=
  have hm := Nat.and_self F.execSysCmdReservedCode; .next (have h := Off.refl; (State.sysCmd_off (sb hm (by decide)) h ..))
def F.execSysCmdResume : Nat := 0x800000000000000017a4100000c00000fc002ffffffff00004507ba00
theorem execSysCmdResume_off (s) : OutOff F.execSysCmdResume s (execSysCmdResume s) :=
  have hm := Nat.and_self F.execSysCmdResume; .next (have h := Off.refl; (State.sysCmd_off (sb hm (by decide)) h ..))
def F.execSysCmdStart : Nat := 0x800000000000000017a4100000c00000fc002ffffffff00004507ba00
theorem execSysCmdStart_off (s) : OutOff F.execSysCmdStart s (execSysCmdStart s) :=
  have hm := Nat.and_self F.execSysCmdStart; .next (have h := Off.refl; (State.sysCmd_off (sb hm (by decide)) h ..))
def F.execSysCmdStop : Nat := 0x800000000000000017a4100000c00000fc002ffffffff00004507ba00
theorem execSysCmdStop_off (s) : OutOff F.execSysCmdStop s (execSysCmdStop s) :=
  have hm := Nat.and_self F.execSysCmdStop; .next (have h := Off.refl; (State.sysCmd_off (sb hm (by decide)) h ..))
def F.execBgcalCycleDone : Nat := 0x140000000000000000000000c00000000000000000000000000000000000000000000000000000000000000000000000000000000000000000000000000000000000000000000000000000003000000010800
theorem execBgcalCycleDone_off (s) (a0') (a1') : OutOff F.execBgcalCycleDone s (execBgcalCycleDone a0' a1' s) :=
  have hm := Nat.and_self F.execBgcalCycleDone; .next (have h := Off.refl; (State.bgcalDone_off (sb hm (by decide)) h ..))
def F.execClipCntClr : Nat := 0x200000020000000000000000000000000000000000000000000000
theorem execClipCntClr_off (s) (a0') : OutOff F.execClipCntClr s (execClipCntClr a0' s) :=
  have hm := Nat.and_self F.execClipCntClr; .next (have h := Off.refl; (State.cvCntClr_off (sb hm (by decide)) h ..))
def F.execClippingEpisodeEnd : Nat := 0x20000000000000000000000000000000000000000000000000000000000000000000000000000000000000000000000000000000000000000000000000000000100040
theorem execClippingEpisodeEnd_off (s) (a0') : OutOff F.execClippingEpisodeEnd s (execClippingEpisodeEnd a0' s) :=
  have hm := Nat.and_self F.execClippingEpisodeEnd; .next (have h := Off.refl; (State.clipEnd_off (sb hm (by decide)) h ..))
def F.execClippingEpisodeStart : Nat := 0x8020000000000000000000000000000000000000000000000000000000000000000000000000000000000000020000000000000000000000000000000001000000010000
theorem execClippingEpisodeStart_off (s) (a0') : OutOff F.execClippingEpisodeStart s (execClippingEpisodeStart a0' s) :=
  have hm := Nat.and_self F.execClippingEpisodeStart; .next (have h := Off.refl; (State.clipStart_off (sb hm (by decide)) h ..))
def F.execConvCalComplete : Nat := 0xc00000000000000000000000000000000000000000000000000000000000000000000000000000000000000000000000000000180000000000000c00280000803000000032800
theorem execConvCalComplete_off (s) (a0') (a1') : OutOff F.execConvCalComplete s (execConvCalComplete a0' a1' s) :=
  have hm := Nat.and_self F.execConvCalComplete; .next (have h := Off.refl; (State.convCalDone_off (sb hm (by decide)) h ..))
def F.execConverterDisable : Nat := 0x1fc00000000c000000200000020000000000003ef3ffffffffffffffffff000045bffa41
theorem execConverterDisable_off (s) (a0') (a1') : OutOff F.execConverterDisable s (execConverterDisable a0' a1' s) :=
  have hm := Nat.and_self F.execConverterDisable; .next (have h := Off.refl; (State.byHost_off (sb hm (by decide)) h (fun _ h0 => (State.writeCv_off (sb hm (by decide)) h0 ..)) ..))
def F.execConverterParityError : Nat := 0x3000000010800
theorem execConverterParityError_off (s) (a0') : OutOff F.execConverterParityError s (execConverterParityError a0' s) :=
  have hm := Nat.and_self F.execConverterParityError; .next (have h := Off.refl; (State.cvParity_off (sb hm (by decide)) h ..))
def F.execConvrxEnable : Nat := 0x1fc00000000c000000200000020000000000003ef3ffffffffffffffffff000045bffa41
theorem execConvrxEnable_off (s) (a0') (a1') : OutOff F.execConvrxEnable s (execConvrxEnable a0' a1' s) :=
  have hm := Nat.and_self F.execConvrxEnable; .next (have h := Off.refl; (State.byHost_off (sb hm (by decide)) h (fun _ h0 => (State.writeCv_off (sb hm (by decide)) h0 ..)) ..))
def F.execConvtxEnable : Nat := 0x1fc00000000c000000200000020000000000003ef3ffffffffffffffffff000045bffa41
theorem execConvtxEnable_off (s) (a0') (a1') : OutOff F.execConvtxEnable s (execConvtxEnable a0' a1' s) :=
  have hm := Nat.and_self F.execConvtxEnable; .next (have h := Off.refl; (State.byHost_off (sb hm (by decide)) h (fun _ h0 => (State.writeCv_off (sb hm (by decide)) h0 ..)) ..))
def F.execOverRangeEpisodeEnd : Nat := 0x100000000000000000000000000000000000000000000000000000000000000000000000000000000000000000000000000000000000000000000000000000000000000000000008000
theorem execOverRangeEpisodeEnd_off (s) (a0') : OutOff F.execOverRangeEpisodeEnd s (execOverRangeEpisodeEnd a0' s) :=
  have hm := Nat.and_self F.execOverRangeEpisodeEnd; .next (have h := Off.refl; (State.overEnd_off (sb hm (by decide)) h ..))
def F.execOverRangeEpisodeStart : Nat := 0x80000000000000000100000000000000000000000000000000000000000000000000000000000000000000000000000000000000000000200000000000008000000000000040000000000001000000008000
theorem execOverRangeEpisodeStart_off (s) (a0') : OutOff F.execOverRangeEpisodeStart s (execOverRangeEpisodeStart a0' s) :=
  have hm := Nat.and_self F.execOverRangeEpisodeStart; .next (have h := Off.refl; (State.overStart_off (sb hm (by decide)) h ..))
def F.execOvrCntClr : Nat := 0x200000020000000000000000000000000000000000000000000000
theorem execOvrCntClr_off (s) (a0') : OutOff F.execOvrCntClr s (execOvrCntClr a0' s) :=
  have hm := Nat.and_self F.execOvrCntClr; .next (have h := Off.refl; (State.cvCntClr_off (sb hm (by decide)) h ..))
def F.execSuspectMarkEnd : Nat := 0x40000000000000000000108040
theorem execSuspectMarkEnd_off (s) (a0') : OutOff F.execSuspectMarkEnd s (execSuspectMarkEnd a0' s) :=
  have hm := Nat.and_self F.execSuspectMarkEnd; .next (have h := Off.refl; (State.suspectEnd_off (sb hm (by decide)) h ..))
def F.execChfRomRead : Nat := 0x40000000000000000000000000000000000000000000000000000000000000018000000000000000000000000000000000000000000000000000000000000000000000000000000200
theorem execChfRomRead_off (s) (a0') (a1') : OutOff F.execChfRomRead s (execChfRomRead a0' a1' s) :=
  have hm := Nat.and_self F.execChfRomRead; .next (have h := Off.refl; (State.byHost_off (sb hm (by decide)) h (fun _ h0 => (State.chfRead_off (sb hm (by decide)) h0 ..)) ..))
def F.execChfRomUncorr : Nat := 0x6000000000000000000000000000000000000000000000000000000000000000000000000000000000000000000000000000000000000000000000000000000000000000000000000000003000000000800
theorem execChfRomUncorr_off (s) (a0') : OutOff F.execChfRomUncorr s (execChfRomUncorr a0' s) :=
  have hm := Nat.and_self F.execChfRomUncorr; .next (have h := Off.refl; (State.chfUncorr_off (sb hm (by decide)) h ..))
def F.execLaneCfgShadowWrite : Nat := 0x7e00000000000400000000000007c0000000000000000668c0800c003ef3ffffff3ffd7fffffff000045befa41
theorem execLaneCfgShadowWrite_off (s) (a0') (a1') (a2') : OutOff F.execLaneCfgShadowWrite s (execLaneCfgShadowWrite a0' a1' a2' s) :=
  have hm := Nat.and_self F.execLaneCfgShadowWrite; .next (have h := Off.refl; (State.byHost_off (sb hm (by decide)) h (fun _ h0 => (State.writeLaneWord_off (sb hm (by decide)) h0 ..)) ..))
def F.execLaneDisable : Nat := 0x7c0000000000000000668c0800c003ef3ffffff3ffd7fffffff000045befa41
theorem execLaneDisable_off (s) (a0') (a1') : OutOff F.execLaneDisable s (execLaneDisable a0' a1' s) :=
  have hm := Nat.and_self F.execLaneDisable; .next (have h := Off.refl; (State.byHost_off (sb hm (by decide)) h (fun _ h0 => (State.writeLaneCfg_off (sb hm (by decide)) h0 ..)) ..))
def F.execLaneEnable : Nat := 0x7c0000000000000000668c0800c003ef3ffffff3ffd7fffffff000045befa41
theorem execLaneEnable_off (s) (a0') (a1') : OutOff F.execLaneEnable s (execLaneEnable a0' a1' s) :=
  have hm := Nat.and_self F.execLaneEnable; .next (have h := Off.refl; (State.byHost_off (sb hm (by decide)) h (fun _ h0 => (State.writeLaneCfg_off (sb hm (by decide)) h0 ..)) ..))
def F.execLaneSample : Nat := 0x2000000000000008000100000040000001008020000000000000000000000000000000000000000000000000000000000000000000000000000000000000020000c10000000800000000000000000401000204dd8050
theorem execLaneSample_off (s) (a0') (a1') (a2') (a3') : OutOff F.execLaneSample s (execLaneSample a0' a1' a2' a3' s) :=
  have hm := Nat.and_self F.execLaneSample; .next (have h := Off.refl; (State.laneSample_off (sb hm (by decide)) h ..))
def F.execLaneStart : Nat := 0x200188040
theorem execLaneStart_off (s) (a0') : OutOff F.execLaneStart s (execLaneStart a0' s) :=
  have hm := Nat.and_self F.execLaneStart; .next (have h := Off.refl; (State.laneStart_off (sb hm (by decide)) h ..))
def F.execRsmDelayApply : Nat := 0x20010000000000000000000108040
theorem execRsmDelayApply_off (s) (a0') : OutOff F.execRsmDelayApply s (execRsmDelayApply a0' s) :=
  have hm := Nat.and_self F.execRsmDelayApply; .next (have h := Off.refl; (State.delayApply_off (sb hm (by decide)) h ..))
def F.execRsmDelayWrite : Nat := 0x2000000000000000000000000000000000000000000000000000000000000000000000000000000000020000000000000003000000208a00
theorem execRsmDelayWrite_off (s) (a0') (a1') : OutOff F.execRsmDelayWrite s (execRsmDelayWrite a0' a1' s) :=
  have hm := Nat.and_self F.execRsmDelayWrite; .next (have h := Off.refl; (State.byHost_off (sb hm (by decide)) h (fun _ h0 => (State.writeDelay_off (sb hm (by decide)) h0 ..)) ..))
def F.execRsmFault : Nat := 0x7c000000000000000000000000000000000000000000000000000000000000000000000000000000000000000000000000000000000000000000000000000000000000000000000000000000000000003000000000800
theorem execRsmFault_off (s) (a0') (a1') (a2') (a3') : OutOff F.execRsmFault s (execRsmFault a0' a1' a2' a3' s) :=
  have hm := Nat.and_self F.execRsmFault; .next (have h := Off.refl; (State.rsmFault_off (sb hm (by decide)) h ..))
def F.execClusterPositionWrite : Nat := 0x2000000040201
theorem execClusterPositionWrite_off (s) (a0') : OutOff F.execClusterPositionWrite s (execClusterPositionWrite a0' s) :=
  have hm := Nat.and_self F.execClusterPositionWrite; .next (have h := Off.refl; (State.byHost_off (sb hm (by decide)) h (fun _ h0 => (State.writePos_off (sb hm (by decide)) h0 ..)) ..))
def F.execCnxCeilRiseWrite : Nat := 0x20000000000000000000000000000000000000000000000000000000000000000000003000000000200
theorem execCnxCeilRiseWrite_off (s) (a0') : OutOff F.execCnxCeilRiseWrite s (execCnxCeilRiseWrite a0' s) :=
  have hm := Nat.and_self F.execCnxCeilRiseWrite; .next (have h := Off.refl; (State.byHost_off (sb hm (by decide)) h (fun _ h0 => (State.writeRise_off (sb hm (by decide)) h0 ..)) ..))
def F.execCnxMarginWrite : Nat := 0x40000000000000000000000000000000000000000000000000000000000000000000003000000000200
theorem execCnxMarginWrite_off (s) (a0') : OutOff F.execCnxMarginWrite s (execCnxMarginWrite a0' s) :=
  have hm := Nat.and_self F.execCnxMarginWrite; .next (have h := Off.refl; (State.byHost_off (sb hm (by decide)) h (fun _ h0 => (State.writeMargin_off (sb hm (by decide)) h0 ..)) ..))
def F.execEstimateBlock : Nat := 0x40000000000000000000000000000000000000000000000000000000000000000000000000000000000000000000000000000000000000003e0000000c00000f000000000003000200148841
theorem execEstimateBlock_off (s) (a0') : OutOff F.execEstimateBlock s (execEstimateBlock a0' s) :=
  have hm := Nat.and_self F.execEstimateBlock; .next (have h := Off.refl; (State.estimateBlock_off (sb hm (by decide)) h ..))
def F.execOldClusterRetire : Nat := 0x40001
theorem execOldClusterRetire_off (s) (a0') : OutOff F.execOldClusterRetire s (execOldClusterRetire a0' s) :=
  have hm := Nat.and_self F.execOldClusterRetire; .next (have h := Off.refl; (State.retireOld_off (sb hm (by decide)) h ..))
def F.execPathDisable : Nat := 0xff800000000000000000040000004000040000004000000ee40000f0000000003ff000001041a01
theorem execPathDisable_off (s) (a0') (a1') : OutOff F.execPathDisable s (execPathDisable a0' a1' s) :=
  have hm := Nat.and_self F.execPathDisable; .next (have h := Off.refl; (State.byHost_off (sb hm (by decide)) h (fun _ h0 => (State.writePathCfg_off (sb hm (by decide)) h0 ..)) ..))
def F.execPathEnable : Nat := 0xff800000000000000000040000004000040000004000000ee40000f0000000003ff000001041a01
theorem execPathEnable_off (s) (a0') (a1') : OutOff F.execPathEnable s (execPathEnable a0' a1' s) :=
  have hm := Nat.and_self F.execPathEnable; .next (have h := Off.refl; (State.byHost_off (sb hm (by decide)) h (fun _ h0 => (State.writePathCfg_off (sb hm (by decide)) h0 ..)) ..))
def F.execPathSubtractionStart : Nat := 0x140040
theorem execPathSubtractionStart_off (s) (a0') : OutOff F.execPathSubtractionStart s (execPathSubtractionStart a0' s) :=
  have hm := Nat.and_self F.execPathSubtractionStart; .next (have h := Off.refl; (State.pathStart_off (sb hm (by decide)) h ..))
def F.execProbeIntegrationEnd : Nat := 0x4000000000000000400000000000000001000000040000
theorem execProbeIntegrationEnd_off (s) (a0') : OutOff F.execProbeIntegrationEnd s (execProbeIntegrationEnd a0' s) :=
  have hm := Nat.and_self F.execProbeIntegrationEnd; .next (have h := Off.refl; (State.probeEnd_off (sb hm (by decide)) h ..))
def F.execSearchComplete : Nat := 0x400000000000000000000000000000000000000000000000000000000000000000000000000000000000000000000000000000000000000000000000000000000000000000000080000000000000000001000000140041
theorem execSearchComplete_off (s) : OutOff F.execSearchComplete s (execSearchComplete s) :=
  have hm := Nat.and_self F.execSearchComplete; .next (have h := Off.refl; (State.searchDone_off (sb hm (by decide)) h ..))
def F.execSearchGo : Nat := 0xc0000000000000000000000000000000000000000000000000000000000000000000000000000001000000040200
theorem execSearchGo_off (s) (a0') : OutOff F.execSearchGo s (execSearchGo a0' s) :=
  have hm := Nat.and_self F.execSearchGo; .next (have h := Off.refl; (State.byHost_off (sb hm (by decide)) h (fun _ h0 => (State.writeSlnCtl_off (sb hm (by decide)) h0 ..)) ..))
def F.execSearchStart : Nat := 0x1000000000000000000000000000000000000000000000000000000000000000000000000000000000000000000000000000000000000000000000000000000080000000000000000000000000040000
theorem execSearchStart_off (s) : OutOff F.execSearchStart s (execSearchStart s) :=
  have hm := Nat.and_self F.execSearchStart; .next (have h := Off.refl; (State.searchStart_off (sb hm (by decide)) h ..))
def F.execSlnParityError : Nat := 0x3000000000800
theorem execSlnParityError_off (s) : OutOff F.execSlnParityError s (execSlnParityError s) :=
  have hm := Nat.and_self F.execSlnParityError; .next (have h := Off.refl; (State.slnParity_off (sb hm (by decide)) h ..))
def F.execStreamDisable : Nat := 0x10000000000000000000010000001800018000000000000000000120000000000402000004040200
theorem execStreamDisable_off (s) (a0') (a1') : OutOff F.execStreamDisable s (execStreamDisable a0' a1' s) :=
  have hm := Nat.and_self F.execStreamDisable; .next (have h := Off.refl; (State.byHost_off (sb hm (by decide)) h (fun _ h0 => (State.writeStx_off (sb hm (by decide)) h0 ..)) ..))
def F.execStreamEnable : Nat := 0x10000000000000000000010000001800018000000000000000000120000000000402000004040200
theorem execStreamEnable_off (s) (a0') (a1') : OutOff F.execStreamEnable s (execStreamEnable a0' a1' s) :=
  have hm := Nat.and_self F.execStreamEnable; .next (have h := Off.refl; (State.byHost_off (sb hm (by decide)) h (fun _ h0 => (State.writeStx_off (sb hm (by decide)) h0 ..)) ..))
def F.execStreamFrameReceived : Nat := 0x80000000000000000000000000000000000000000000000000000000000000000000000000000000000000000002000000100000000000000000000000000000000000000400000004040000
theorem execStreamFrameReceived_off (s) (a0') : OutOff F.execStreamFrameReceived s (execStreamFrameReceived a0' s) :=
  have hm := Nat.and_self F.execStreamFrameReceived; .next (have h := Off.refl; (State.streamFrame_off (sb hm (by decide)) h ..))
def F.execStreamLost : Nat := 0x10000000000000000000000000000000000000000000000000000000000000000000000000000000000000000000000000000000008000100000000000003a0000000c00000f000000000003000000140840
theorem execStreamLost_off (s) (a0') : OutOff F.execStreamLost s (execStreamLost a0' s) :=
  have hm := Nat.and_self F.execStreamLost; .next (have h := Off.refl; (State.streamLost_off (sb hm (by decide)) h ..))
def F.execStreamReservationResult : Nat := 0x18000000000000000000120000000000002000000040000
theorem execStreamReservationResult_off (s) (a0') (a1') (a2') : OutOff F.execStreamReservationResult s (execStreamReservationResult a0' a1' a2' s) :=
  have hm := Nat.and_self F.execStreamReservationResult; .next (have h := Off.refl; (State.streamResult_off (sb hm (by decide)) h ..))
def F.execStreamRestored : Nat := 0x8000100000000000000000000000000000000000000001000000040800
theorem execStreamRestored_off (s) (a0') : OutOff F.execStreamRestored s (execStreamRestored a0' s) :=
  have hm := Nat.and_self F.execStreamRestored; .next (have h := Off.refl; (State.streamBack_off (sb hm (by decide)) h ..))
def F.execStreamRxEnable : Nat := 0x380000000000000000000002008000100000000000000000000000000000000000000000000000040200
theorem execStreamRxEnable_off (s) (a0') (a1') : OutOff F.execStreamRxEnable s (execStreamRxEnable a0' a1' s) :=
  have hm := Nat.and_self F.execStreamRxEnable; .next (have h := Off.refl; (State.byHost_off (sb hm (by decide)) h (fun _ h0 => (State.writeSrx_off (sb hm (by decide)) h0 ..)) ..))
def F.execTapCountSnapshot : Nat := 0xc00000000000000000000000000000000000000000000000000000000000000000000000000000000200
theorem execTapCountSnapshot_off (s) : OutOff F.execTapCountSnapshot s (execTapCountSnapshot s) :=
  have hm := Nat.and_self F.execTapCountSnapshot; .next (have h := Off.refl; (State.byHost_off (sb hm (by decide)) h (fun _ h0 => (State.tapSnap_off (sb hm (by decide)) h0 ..)) ..))
def F.execTapMemoryUncorr : Nat := 0x40000000c000000000000000003000000040801
theorem execTapMemoryUncorr_off (s) (a0') : OutOff F.execTapMemoryUncorr s (execTapMemoryUncorr a0' s) :=
  have hm := Nat.and_self F.execTapMemoryUncorr; .next (have h := Off.refl; (State.tapUncorr_off (sb hm (by decide)) h ..))
def F.execTapUpdate : Nat := 0x8000000000000000000000000000000000000000000000000000000000000000000000000000000000000000000000000000000000000000000000000000000000000000000000000000000000200140041
theorem execTapUpdate_off (s) (a0') (a1') : OutOff F.execTapUpdate s (execTapUpdate a0' a1' s) :=
  have hm := Nat.and_self F.execTapUpdate; .next (have h := Off.refl; (State.tapUpdate_off (sb hm (by decide)) h ..))
def F.execTapWrite : Nat := 0x1000000000000000000000000000000000000000000000000000000000000000000000000000000000000000000000000000000000000000000000000201
theorem execTapWrite_off (s) (a0') (a1') (a2') : OutOff F.execTapWrite s (execTapWrite a0' a1' a2' s) :=
  have hm := Nat.and_self F.execTapWrite; .next (have h := Off.refl; (State.byHost_off (sb hm (by decide)) h (fun _ h0 => (State.writeTap_off (sb hm (by decide)) h0 ..)) ..))
def F.execContextCtlWrite : Nat := 0x60000000000000000000000000000000000000000000000000000000000000000000000000000000000000000000000000000000000000001000000080200
theorem execContextCtlWrite_off (s) (a0') (a1') (a2') : OutOff F.execContextCtlWrite s (execContextCtlWrite a0' a1' a2' s) :=
  have hm := Nat.and_self F.execContextCtlWrite; .next (have h := Off.refl; (State.byHost_off (sb hm (by decide)) h (fun _ h0 => (State.writeCtx_off (sb hm (by decide)) h0 ..)) ..))
def F.execContextMemoryUncorr : Nat := 0x18000000003000000080800
theorem execContextMemoryUncorr_off (s) (a0') (a1') : OutOff F.execContextMemoryUncorr s (execContextMemoryUncorr a0' a1' s) :=
  have hm := Nat.and_self F.execContextMemoryUncorr; .next (have h := Off.refl; (State.ctxUncorr_off (sb hm (by decide)) h ..))
def F.execContextSnapshotDone : Nat := 0xc60000000000000000000000000000000000000000000000000000000000000080000
theorem execContextSnapshotDone_off (s) (a0') : OutOff F.execContextSnapshotDone s (execContextSnapshotDone a0' s) :=
  have hm := Nat.and_self F.execContextSnapshotDone; .next (have h := Off.refl; (State.ctxSnapDone_off (sb hm (by decide)) h ..))
def F.execContextSnapshotGo : Nat := 0x8002000000000000000000000c60000000000000000000000000000000000000000000000000000000000000080200
theorem execContextSnapshotGo_off (s) (a0') (a1') : OutOff F.execContextSnapshotGo s (execContextSnapshotGo a0' a1' s) :=
  have hm := Nat.and_self F.execContextSnapshotGo; .next (have h := Off.refl; (State.byHost_off (sb hm (by decide)) h (fun _ h0 => (State.writeCtxSnap_off (sb hm (by decide)) h0 ..)) ..))
def F.execContextStuck : Nat := 0x18000000001000000180040
theorem execContextStuck_off (s) (a0') : OutOff F.execContextStuck s (execContextStuck a0' s) :=
  have hm := Nat.and_self F.execContextStuck; .next (have h := Off.refl; (State.ctxStuck_off (sb hm (by decide)) h ..))
def F.execDecisionWindowClose : Nat := 0x4000000200000000003000000000000000000000000000000000000000000000000000000000000000000000000000000000000000000000000000000000000000000000000c00000005de003f8000000001000000184040
theorem execDecisionWindowClose_off (s) (a0') (a1') : OutOff F.execDecisionWindowClose s (execDecisionWindowClose a0' a1' s) :=
  have hm := Nat.and_self F.execDecisionWindowClose; .next (have h := Off.refl; (State.windowClose_off (sb hm (by decide)) h ..))
def F.execMeasArm : Nat := 0xc00300000000000000000400000000000000000c00000005de103f8000000003000000080200
theorem execMeasArm_off (s) (a0') (a1') : OutOff F.execMeasArm s (execMeasArm a0' a1' s) :=
  have hm := Nat.and_self F.execMeasArm; .next (have h := Off.refl; (State.byHost_off (sb hm (by decide)) h (fun _ h0 => (State.writeSptCfg_off (sb hm (by decide)) h0 ..)) ..))
def F.execSptArm : Nat := 0xc00300000000000000000400000000000000000c00000005de103f8000000003000000080200
theorem execSptArm_off (s) (a0') (a1') : OutOff F.execSptArm s (execSptArm a0' a1' s) :=
  have hm := Nat.and_self F.execSptArm; .next (have h := Off.refl; (State.byHost_off (sb hm (by decide)) h (fun _ h0 => (State.writeSptCfg_off (sb hm (by decide)) h0 ..)) ..))
def F.execSptDisarm : Nat := 0xc00300000000000000000400000000000000000c00000005de103f8000000003000000080200
theorem execSptDisarm_off (s) (a0') (a1') : OutOff F.execSptDisarm s (execSptDisarm a0' a1' s) :=
  have hm := Nat.and_self F.execSptDisarm; .next (have h := Off.refl; (State.byHost_off (sb hm (by decide)) h (fun _ h0 => (State.writeSptCfg_off (sb hm (by decide)) h0 ..)) ..))
def F.execAttnGo : Nat := 0x82000000000000000000000000000000002000000020200
theorem execAttnGo_off (s) (a0') : OutOff F.execAttnGo s (execAttnGo a0' s) :=
  have hm := Nat.and_self F.execAttnGo; .next (have h := Off.refl; (State.byHost_off (sb hm (by decide)) h (fun _ h0 => (State.writeAttnCtl_off (sb hm (by decide)) h0 ..)) ..))
def F.execAttnLatch : Nat := 0x2000000000000000000000000000000000000000000000000000000000000000000000000000000000000000000000082000000000000000000000000000000000000000120040
theorem execAttnLatch_off (s) (a0') : OutOff F.execAttnLatch s (execAttnLatch a0' s) :=
  have hm := Nat.and_self F.execAttnLatch; .next (have h := Off.refl; (State.attnLatch_off (sb hm (by decide)) h ..))
def F.execAttnShiftDone : Nat := 0x2000000000000000000000000000000000000000000000000000000000000000000000000000000000000000000000082000000000000000000000000000000000000000120040
theorem execAttnShiftDone_off (s) (a0') : OutOff F.execAttnShiftDone s (execAttnShiftDone a0' s) :=
  have hm := Nat.and_self F.execAttnShiftDone; .next (have h := Off.refl; (State.attnShifted_off (sb hm (by decide)) h ..))
def F.execFrameBoundary : Nat := 0x60c000000000000000000000000000000000000000000000000000000000000000000000000000000000000000000000000000000000000000000000000000000000008000007fffffff0002451af840
theorem execFrameBoundary_off (s) : OutOff F.execFrameBoundary s (execFrameBoundary s) :=
  have hm := Nat.and_self F.execFrameBoundary; .next (have h := Off.refl; (State.frameBoundary_off (sb hm (by decide)) h ..))
def F.execPaSettleExpiry : Nat := 0xc00080000001000000122840
theorem execPaSettleExpiry_off (s) (a0') : OutOff F.execPaSettleExpiry s (execPaSettleExpiry a0' s) :=
  have hm := Nat.and_self F.execPaSettleExpiry; .next (have h := Off.refl; (State.paSettled_off (sb hm (by decide)) h ..))
def F.execPortCmdOff : Nat := 0x7c0000000000000000000000000000000000000000000000000c00280000803000000032a00
theorem execPortCmdOff_off (s) (a0') (a1') : OutOff F.execPortCmdOff s (execPortCmdOff a0' a1' s) :=
  have hm := Nat.and_self F.execPortCmdOff; .next (have h := Off.refl; (State.byHost_off (sb hm (by decide)) h (fun _ h0 => (State.writePortCfg_off (sb hm (by decide)) h0 ..)) ..))
def F.execPortCmdRx : Nat := 0x7c0000000000000000000000000000000000000000000000000c00280000803000000032a00
theorem execPortCmdRx_off (s) (a0') (a1') : OutOff F.execPortCmdRx s (execPortCmdRx a0' a1' s) :=
  have hm := Nat.and_self F.execPortCmdRx; .next (have h := Off.refl; (State.byHost_off (sb hm (by decide)) h (fun _ h0 => (State.writePortCfg_off (sb hm (by decide)) h0 ..)) ..))
def F.execPortCmdTx : Nat := 0x7c0000000000000000000000000000000000000000000000000c00280000803000000032a00
theorem execPortCmdTx_off (s) (a0') (a1') : OutOff F.execPortCmdTx s (execPortCmdTx a0' a1' s) :=
  have hm := Nat.and_self F.execPortCmdTx; .next (have h := Off.refl; (State.byHost_off (sb hm (by decide)) h (fun _ h0 => (State.writePortCfg_off (sb hm (by decide)) h0 ..)) ..))
def F.execPortUseEnd : Nat := 0x280000800000000122040
theorem execPortUseEnd_off (s) (a0') (a1') : OutOff F.execPortUseEnd s (execPortUseEnd a0' a1' s) :=
  have hm := Nat.and_self F.execPortUseEnd; .next (have h := Off.refl; (State.portUseEnd_off (sb hm (by decide)) h ..))
def F.execPortUseStart : Nat := 0x200000000000000000000000000000000000000000000000000000000000000000000000000000000000000000000000000000000000000000000000000000801000000122040
theorem execPortUseStart_off (s) (a0') : OutOff F.execPortUseStart s (execPortUseStart a0' s) :=
  have hm := Nat.and_self F.execPortUseStart; .next (have h := Off.refl; (State.portUseStart_off (sb hm (by decide)) h ..))
def F.execPresenceLossTimeout : Nat := 0x80000000000000000000000000000000000000000000000000000000000000000000000000000000000000000000000000000000000000000000000000007fffffff00004512b840
theorem execPresenceLossTimeout_off (s) (a0') : OutOff F.execPresenceLossTimeout s (execPresenceLossTimeout a0' s) :=
  have hm := Nat.and_self F.execPresenceLossTimeout; .next (have h := Off.refl; (State.lossTimeout_off (sb hm (by decide)) h ..))
def F.execRefInFail : Nat := 0x40000000000000000000000000000000000000000000000000000000000000000000000000000000000000000000000000000000000000000000007d7fffffff00004510b800
theorem execRefInFail_off (s) : OutOff F.execRefInFail s (execRefInFail s) :=
  have hm := Nat.and_self F.execRefInFail; .next (have h := Off.refl; (State.refFail_off (sb hm (by decide)) h ..))
def F.execRefInRecovered : Nat := 0x400000000000000000000000000000000000000000000000000000000000000000000000000000000000000000000000001e01b0003ef3ffffffffffffffffff000045bff841
theorem execRefInRecovered_off (s) : OutOff F.execRefInRecovered s (execRefInRecovered s) :=
  have hm := Nat.and_self F.execRefInRecovered; .next (have h := Off.refl; (State.refBack_off (sb hm (by decide)) h ..))
def F.execRfcLineMismatch : Nat := 0x3000000020800
theorem execRfcLineMismatch_off (s) (a0') (a1') : OutOff F.execRfcLineMismatch s (execRfcLineMismatch a0' a1' s) :=
  have hm := Nat.and_self F.execRfcLineMismatch; .next (have h := Off.refl; (State.lineMismatch_off (sb hm (by decide)) h ..))
def F.execTurnRoundComplete : Nat := 0xc00280000801000000132840
theorem execTurnRoundComplete_off (s) (a0') : OutOff F.execTurnRoundComplete s (execTurnRoundComplete a0' s) :=
  have hm := Nat.and_self F.execTurnRoundComplete; .next (have h := Off.refl; (State.turnDone_off (sb hm (by decide)) h ..))
def F.execTurnRoundLineEvent : Nat := 0x800000000120040
theorem execTurnRoundLineEvent_off (s) (a0') : OutOff F.execTurnRoundLineEvent s (execTurnRoundLineEvent a0' s) :=
  have hm := Nat.and_self F.execTurnRoundLineEvent; .next (have h := Off.refl; (State.turnEvent_off (sb hm (by decide)) h ..))
def F.execTxTimeoutTdd : Nat := 0x80000000000000000000000000000000000000000000000000000000000000000000000000000000000000000000000000000000000000000000000000007fffffff00004512b840
theorem execTxTimeoutTdd_off (s) (a0') : OutOff F.execTxTimeoutTdd s (execTxTimeoutTdd a0' s) :=
  have hm := Nat.and_self F.execTxTimeoutTdd; .next (have h := Off.refl; (State.tddTimeout_off (sb hm (by decide)) h ..))
def F.execBlockRefresh : Nat := 0x7efdfe00000000000000000000000000000000000000000000000000000000000000000000000000000000000800000000000000000000000000017ff000007001800
theorem execBlockRefresh_off (s) (a0') (a1') (a2') (a3') : OutOff F.execBlockRefresh s (execBlockRefresh a0' a1' a2' a3' s) :=
  have hm := Nat.and_self F.execBlockRefresh; .next (have h := Off.refl; (State.medium_off (sb hm (by decide)) h ..))
def F.execBlockRetire : Nat := 0x800000000000000000000000000000001800000c000000001fe00000000000000000000000000000000000000000000000000000000000000000000000000000000000000000000000000000000000000003ff000001001800
theorem execBlockRetire_off (s) (a0') (a1') (a2') (a3') (a4') (a5') (a6') : OutOff F.execBlockRetire s (execBlockRetire a0' a1' a2' a3' a4' a5' a6' s) :=
  have hm := Nat.and_self F.execBlockRetire; .next (have h := Off.refl; (State.blockRetire_off (sb hm (by decide)) h ..))
def F.execCeBusyTimeout : Nat := 0x80000000000000000000000000000000000000000000000000000000000000000000000000000000000000000000000000000000000000000000000000000000000000003000000000800
theorem execCeBusyTimeout_off (s) : OutOff F.execCeBusyTimeout s (execCeBusyTimeout s) :=
  have hm := Nat.and_self F.execCeBusyTimeout; .next (have h := Off.refl; (State.ceBusy_off (sb hm (by decide)) h ..))
def F.execCodewordUncorrectable : Nat := 0x1800000000000000680000000000000000000000000000040000000000000000000000000000000000000000000000000000000000000000000000000000000000000000000000000000000000000000003ff000001001800
theorem execCodewordUncorrectable_off (s) (a0') (a1') (a2') : OutOff F.execCodewordUncorrectable s (execCodewordUncorrectable a0' a1' a2' s) :=
  have hm := Nat.and_self F.execCodewordUncorrectable; .next (have h := Off.refl; (State.codewordRead_off (sb hm (by decide)) h ..))
def F.execFormatDone : Nat := 0x7000000000c000000001fe00000000000000000000000000000000000000000000000000000000000000000000000000000000000030000000000000000000000000003ff000001001800
theorem execFormatDone_off (s) (a0') : OutOff F.execFormatDone s (execFormatDone a0' s) :=
  have hm := Nat.and_self F.execFormatDone; .next (have h := Off.refl; (State.formatDone_off (sb hm (by decide)) h ..))
def F.execFormatGo : Nat := 0x13000000000000000000000000000002000001000200
theorem execFormatGo_off (s) : OutOff F.execFormatGo s (execFormatGo s) :=
  have hm := Nat.and_self F.execFormatGo; .next (have h := Off.refl; (State.byHost_off (sb hm (by decide)) h (fun _ h0 => (State.formatGo_off (sb hm (by decide)) h0 ..)) ..))
def F.execHistoryIntervalBoundary : Nat := 0x10000000000000000000000000007efdfe00000000000000000000000000000000000000000000000000000000000000000000000000000000000800000000000000000000000000017ff000207181840
theorem execHistoryIntervalBoundary_off (s) (a0') : OutOff F.execHistoryIntervalBoundary s (execHistoryIntervalBoundary a0' s) :=
  have hm := Nat.and_self F.execHistoryIntervalBoundary; .next (have h := Off.refl; (State.serve_off (sb hm (by decide)) (State.histBoundary_off (sb hm (by decide)) h ..) ..))
def F.execReshape : Nat := 0x13000000000000000000000000000002000001000200
theorem execReshape_off (s) : OutOff F.execReshape s (execReshape s) :=
  have hm := Nat.and_self F.execReshape; .next (have h := Off.refl; (State.byHost_off (sb hm (by decide)) h (fun _ h0 => (State.formatStart_off (sb hm (by decide)) h0 ..)) ..))
def F.execScrubPassComplete : Nat := 0x7efdfe00000000000000000000000000000000000000000000000000000000000000000000000000000000000800000000000000000000000000017ff000007001800
theorem execScrubPassComplete_off (s) : OutOff F.execScrubPassComplete s (execScrubPassComplete s) :=
  have hm := Nat.and_self F.execScrubPassComplete; .next (have h := Off.refl; (State.medium_off (sb hm (by decide)) h ..))
def F.execSnapshotArm : Nat := 0x3f0000000000000000000000000000000000000000000000000000000000000000000000000000001002000001000200
theorem execSnapshotArm_off (s) (a0') : OutOff F.execSnapshotArm s (execSnapshotArm a0' s) :=
  have hm := Nat.and_self F.execSnapshotArm; .next (have h := Off.refl; (State.byHost_off (sb hm (by decide)) h (fun _ h0 => (State.writeCapCfg_off (sb hm (by decide)) h0 ..)) ..))
def F.execSnapshotFillComplete : Nat := 0x1000000000100040
theorem execSnapshotFillComplete_off (s) : OutOff F.execSnapshotFillComplete s (execSnapshotFillComplete s) :=
  have hm := Nat.and_self F.execSnapshotFillComplete; .next (have h := Off.refl; (State.snapFill_off (sb hm (by decide)) h ..))
def F.execSnapshotHostTrigger : Nat := 0x93ff000001001a00
theorem execSnapshotHostTrigger_off (s) : OutOff F.execSnapshotHostTrigger s (execSnapshotHostTrigger s) :=
  have hm := Nat.and_self F.execSnapshotHostTrigger; .next (have h := Off.refl; (State.byHost_off (sb hm (by decide)) h (fun _ h0 => (State.snapTrig_off (sb hm (by decide)) h0 ..)) ..))
def F.execSnapshotStored : Nat := 0x7efdfe00000000000000000000000000000000000000000000000000000000000000000000000000000000000800000000000000000000000000017ff000007001800
theorem execSnapshotStored_off (s) : OutOff F.execSnapshotStored s (execSnapshotStored s) :=
  have hm := Nat.and_self F.execSnapshotStored; .next (have h := Off.refl; (State.medium_off (sb hm (by decide)) h ..))
def F.execSnapshotTrigger : Nat := 0x93ff000001001800
theorem execSnapshotTrigger_off (s) (a0') : OutOff F.execSnapshotTrigger s (execSnapshotTrigger a0' s) :=
  have hm := Nat.and_self F.execSnapshotTrigger; .next (have h := Off.refl; (State.snapTrig_off (sb hm (by decide)) h ..))
def F.execStorageReady : Nat := 0x37e000000000000000000000000000f001800000c0000000f1fe00000000000000000000000000000000000000000000000000000000000000000000000000000000000000000000000000000000000000003ff000001001800
theorem execStorageReady_off (s) (a0') : OutOff F.execStorageReady s (execStorageReady a0' s) :=
  have hm := Nat.and_self F.execStorageReady; .next (have h := Off.refl; (State.storageReady_off (sb hm (by decide)) h ..))
def F.execWearCheckpoint : Nat := 0x1100040
theorem execWearCheckpoint_off (s) : OutOff F.execWearCheckpoint s (execWearCheckpoint s) :=
  have hm := Nat.and_self F.execWearCheckpoint; .next (have h := Off.refl; (State.wearCheckpoint_off (sb hm (by decide)) h ..))
def F.execEmissionDetected : Nat := 0x7fffffff00004501b800
theorem execEmissionDetected_off (s) (a0') (a1') : OutOff F.execEmissionDetected s (execEmissionDetected a0' a1' s) :=
  have hm := Nat.and_self F.execEmissionDetected; .next (have h := Off.refl; (State.emission_off (sb hm (by decide)) h ..))
def F.execOscillationGrowth : Nat := 0x3e0000000c00000f00007fffffff00004504b800
theorem execOscillationGrowth_off (s) (a0') : OutOff F.execOscillationGrowth s (execOscillationGrowth a0' s) :=
  have hm := Nat.and_self F.execOscillationGrowth; .next (have h := Off.refl; (State.oscGrowth_off (sb hm (by decide)) h ..))
def F.execOscillationLine : Nat := 0x3e0000000c00000f00007fffffff00004504b800
theorem execOscillationLine_off (s) (a0') : OutOff F.execOscillationLine s (execOscillationLine a0' s) :=
  have hm := Nat.and_self F.execOscillationLine; .next (have h := Off.refl; (State.oscLine_off (sb hm (by decide)) h ..))
def F.execOverdriveDetected : Nat := 0x7fffffff00004501b800
theorem execOverdriveDetected_off (s) (a0') : OutOff F.execOverdriveDetected s (execOverdriveDetected a0' s) :=
  have hm := Nat.and_self F.execOverdriveDetected; .next (have h := Off.refl; (State.overdrive_off (sb hm (by decide)) h ..))
def F.execBackoffEnd : Nat := 0x10000000000000000000010000001000200108040
theorem execBackoffEnd_off (s) (a0') : OutOff F.execBackoffEnd s (execBackoffEnd a0' s) :=
  have hm := Nat.and_self F.execBackoffEnd; .next (have h := Off.refl; (State.backoffEnd_off (sb hm (by decide)) h ..))
def F.execClearLiftHistory : Nat := 0x80000000000000000010000000000000000000000000000000000000000007ff63ff000001003a00
theorem execClearLiftHistory_off (s) (a0') : OutOff F.execClearLiftHistory s (execClearLiftHistory a0' s) :=
  have hm := Nat.and_self F.execClearLiftHistory; .next (have h := Off.refl; (State.byHost_off (sb hm (by decide)) h (fun _ h0 => (State.curRelease_off (sb hm (by decide)) h0 ..)) ..))
def F.execCurtainComplete : Nat := 0x280093ff000041003800
theorem execCurtainComplete_off (s) (a0') : OutOff F.execCurtainComplete s (execCurtainComplete a0' s) :=
  have hm := Nat.and_self F.execCurtainComplete; .next (have h := Off.refl; (State.curtainComplete_off (sb hm (by decide)) h ..))
def F.execCurtainRelease : Nat := 0x80000000000000000010000000000000000000000000000000000000000007ff63ff000001003a00
theorem execCurtainRelease_off (s) (a0') : OutOff F.execCurtainRelease s (execCurtainRelease a0' s) :=
  have hm := Nat.and_self F.execCurtainRelease; .next (have h := Off.refl; (State.byHost_off (sb hm (by decide)) h (fun _ h0 => (State.curRelease_off (sb hm (by decide)) h0 ..)) ..))
def F.execLiftComplete : Nat := 0x100000000000000000000300063ff00000110b840
theorem execLiftComplete_off (s) (a0') : OutOff F.execLiftComplete s (execLiftComplete a0' s) :=
  have hm := Nat.and_self F.execLiftComplete; .next (have h := Off.refl; (State.liftComplete_off (sb hm (by decide)) h ..))
def F.execLiftStart : Nat := 0x100000000000000000000000000000000000000000400163ff000001003800
theorem execLiftStart_off (s) (a0') : OutOff F.execLiftStart s (execLiftStart a0' s) :=
  have hm := Nat.and_self F.execLiftStart; .next (have h := Off.refl; (State.liftStart_off (sb hm (by decide)) h ..))
def F.execPortQuietPeriodEnd : Nat := 0x180000c0200000000000000000000000000007ff63ff000001103840
theorem execPortQuietPeriodEnd_off (s) (a0') (a1') : OutOff F.execPortQuietPeriodEnd s (execPortQuietPeriodEnd a0' a1' s) :=
  have hm := Nat.and_self F.execPortQuietPeriodEnd; .next (have h := Off.refl; (State.portQuietEnd_off (sb hm (by decide)) h ..))
def F.execRemoteShutdown : Nat := 0x6000000000000000000000000000000000000000000000000000000000007fffffff00004500ba00
theorem execRemoteShutdown_off (s) (a0') : OutOff F.execRemoteShutdown s (execRemoteShutdown a0' s) :=
  have hm := Nat.and_self F.execRemoteShutdown; .next (have h := Off.refl; (State.byHost_off (sb hm (by decide)) h (fun _ h0 => (State.writeCurHost_off (sb hm (by decide)) h0 ..)) ..))
def F.execRemoteShutdownClear : Nat := 0x6000000000000000000000000000000000000000000000000000000000007fffffff00004500ba00
theorem execRemoteShutdownClear_off (s) (a0') : OutOff F.execRemoteShutdownClear s (execRemoteShutdownClear a0' s) :=
  have hm := Nat.and_self F.execRemoteShutdownClear; .next (have h := Off.refl; (State.byHost_off (sb hm (by decide)) h (fun _ h0 => (State.writeCurHost_off (sb hm (by decide)) h0 ..)) ..))
def F.execArcDelayMeasurement : Nat := 0x400000204100040
theorem execArcDelayMeasurement_off (s) : OutOff F.execArcDelayMeasurement s (execArcDelayMeasurement s) :=
  have hm := Nat.and_self F.execArcDelayMeasurement; .next (have h := Off.refl; (State.arcDelay_off (sb hm (by decide)) h ..))
def F.execCalendarSetApply : Nat := 0x10000000000000000000000000000000000000000000000000080000000000000000000000000000000000000000000000000000000000000000000000004000400000000000000000000000000000000000000003ff000001301840
theorem execCalendarSetApply_off (s) : OutOff F.execCalendarSetApply s (execCalendarSetApply s) :=
  have hm := Nat.and_self F.execCalendarSetApply; .next (have h := Off.refl; (State.calApply_off (sb hm (by decide)) h ..))
def F.execCalendarSetGo : Nat := 0x402000004100200
theorem execCalendarSetGo_off (s) : OutOff F.execCalendarSetGo s (execCalendarSetGo s) :=
  have hm := Nat.and_self F.execCalendarSetGo; .next (have h := Off.refl; (State.byHost_off (sb hm (by decide)) h (fun _ h0 => (State.calGo_off (sb hm (by decide)) h0 ..)) ..))
def F.execDelayAnswerReceived : Nat := 0x60000000000000000000000000000000000000000000000000000000000000000000000000000000000000000000000000000000000000000000000000000000000000000000000000000000000000000000000000000004100000
theorem execDelayAnswerReceived_off (s) (a0') (a1') (a2') (a3') (a4') : OutOff F.execDelayAnswerReceived s (execDelayAnswerReceived a0' a1' a2' a3' a4' s) :=
  have hm := Nat.and_self F.execDelayAnswerReceived; .next (have h := Off.refl; (State.delayAnswer_off (sb hm (by decide)) h ..))
def F.execDelayRequestReceived : Nat := 0x400000004000000
theorem execDelayRequestReceived_off (s) (a0') (a1') : OutOff F.execDelayRequestReceived s (execDelayRequestReceived a0' a1' s) :=
  have hm := Nat.and_self F.execDelayRequestReceived; .next (have h := Off.refl; (State.delayRequest_off (sb hm (by decide)) h ..))
def F.execDetectorLost : Nat := 0x382080007d7fffffff00004512b840
theorem execDetectorLost_off (s) (a0') : OutOff F.execDetectorLost s (execDetectorLost a0' s) :=
  have hm := Nat.and_self F.execDetectorLost; .next (have h := Off.refl; (State.detLost_off (sb hm (by decide)) h ..))
def F.execHoldoverEvaluation : Nat := 0x7d7fffffff00024510b840
theorem execHoldoverEvaluation_off (s) : OutOff F.execHoldoverEvaluation s (execHoldoverEvaluation s) :=
  have hm := Nat.and_self F.execHoldoverEvaluation; .next (have h := Off.refl; (State.holdEval_off (sb hm (by decide)) h ..))
def F.execKvMeasurementDone : Nat := 0x200000000000000000000000000000000000000000000000000000000000000000000000000000000000000000000000000000000000000000000000000000000000000000000000000000000000000000000000000000000100040
theorem execKvMeasurementDone_off (s) (a0') : OutOff F.execKvMeasurementDone s (execKvMeasurementDone a0' s) :=
  have hm := Nat.and_self F.execKvMeasurementDone; .next (have h := Off.refl; (State.kvDone_off (sb hm (by decide)) h ..))
def F.execPpsInEdge : Nat := 0xc00000000000000000000000000000000000000000000030108000000000000000000000000000000000000000000000000000000000000000000000000000000000000000000000000000000000000007d7fffffff00004530b880
theorem execPpsInEdge_off (s) (a0') : OutOff F.execPpsInEdge s (execPpsInEdge a0' s) :=
  have hm := Nat.and_self F.execPpsInEdge; .next (have h := Off.refl; (State.ppsIn_off (sb hm (by decide)) h ..))
def F.execPpsOutPulse : Nat := 0x200100040
theorem execPpsOutPulse_off (s) : OutOff F.execPpsOutPulse s (execPpsOutPulse s) :=
  have hm := Nat.and_self F.execPpsOutPulse; .next (have h := Off.refl; (State.ppsOut_off (sb hm (by decide)) h ..))
def F.execRealign : Nat := 0x100200
theorem execRealign_off (s) : OutOff F.execRealign s (execRealign s) :=
  have hm := Nat.and_self F.execRealign; .next (have h := Off.refl; (State.byHost_off (sb hm (by decide)) h (fun _ h0 => (State.realignGo_off (sb hm (by decide)) h0 ..)) ..))
def F.execReferenceReturn : Nat := 0x2000000000000000000000000000000000000000000000000000000000000000000000000000000000000000000000000000000000000000004000003ff000001101840
theorem execReferenceReturn_off (s) : OutOff F.execReferenceReturn s (execReferenceReturn s) :=
  have hm := Nat.and_self F.execReferenceReturn; .next (have h := Off.refl; (State.refReturn_off (sb hm (by decide)) h ..))
def F.execSyncDetection : Nat := 0x180000000000000000000800000000000000000000000030108000000000000000000000000000000000000000000000000000000000000000000000000000000000000000000000000000000182080007d7fffffff00004532b880
theorem execSyncDetection_off (s) (a0') (a1') (a2') (a3') (a4') : OutOff F.execSyncDetection s (execSyncDetection a0' a1' a2' a3' a4' s) :=
  have hm := Nat.and_self F.execSyncDetection; .next (have h := Off.refl; (State.syncDetect_off (sb hm (by decide)) h ..))
def F.execTimeDetectorEnable : Nat := 0x1e000000000000000000000000000000000000000000000000000000000000000010382080007d7fffffff00004512ba00
theorem execTimeDetectorEnable_off (s) (a0') (a1') : OutOff F.execTimeDetectorEnable s (execTimeDetectorEnable a0' a1' s) :=
  have hm := Nat.and_self F.execTimeDetectorEnable; .next (have h := Off.refl; (State.byHost_off (sb hm (by decide)) h (fun _ h0 => (State.writeDet_off (sb hm (by decide)) h0 ..)) ..))
def F.execTimeLocked : Nat := 0x7d7fffffff00004510b840
theorem execTimeLocked_off (s) : OutOff F.execTimeLocked s (execTimeLocked s) :=
  have hm := Nat.and_self F.execTimeLocked; .next (have h := Off.refl; (State.timeLocked_off (sb hm (by decide)) h ..))
def F.execTimeMessageReceived : Nat := 0x400000000000000000000000030308000000000000000000000000000000000000000000000000000000020000000000000000000000000000000000000000000000000000007d7fffffff00004530b880
theorem execTimeMessageReceived_off (s) (a0') : OutOff F.execTimeMessageReceived s (execTimeMessageReceived a0' s) :=
  have hm := Nat.and_self F.execTimeMessageReceived; .next (have h := Off.refl; (State.timeMessage_off (sb hm (by decide)) h ..))
def F.execTimeMessageSend : Nat := 0x400000204100040
theorem execTimeMessageSend_off (s) : OutOff F.execTimeMessageSend s (execTimeMessageSend s) :=
  have hm := Nat.and_self F.execTimeMessageSend; .next (have h := Off.refl; (State.timeSend_off (sb hm (by decide)) h ..))
def F.execTimeSnapshot : Nat := 0x7800000000000000000000000000000000000000000000000000000000000000000000000000100200
theorem execTimeSnapshot_off (s) : OutOff F.execTimeSnapshot s (execTimeSnapshot s) :=
  have hm := Nat.and_self F.execTimeSnapshot; .next (have h := Off.refl; (State.byHost_off (sb hm (by decide)) h (fun _ h0 => (State.timeSnap_off (sb hm (by decide)) h0 ..)) ..))
def F.execUnderstudyTakeover : Nat := 0x208000000000000000000000000000000000000000000000000000000000000000000000000000000000000000000000000000000000000007d7fffffff00004530b800
theorem execUnderstudyTakeover_off (s) (a0') : OutOff F.execUnderstudyTakeover s (execUnderstudyTakeover a0' s) :=
  have hm := Nat.and_self F.execUnderstudyTakeover; .next (have h := Off.refl; (State.takeover_off (sb hm (by decide)) h ..))
def F.execUsReady : Nat := 0x200000000000000000000000100040
theorem execUsReady_off (s) : OutOff F.execUsReady s (execUsReady s) :=
  have hm := Nat.and_self F.execUsReady; .next (have h := Off.refl; (State.usReady_off (sb hm (by decide)) h ..))
def F.execTddBankEccError : Nat := 0x3000000200800
theorem execTddBankEccError_off (s) (a0') : OutOff F.execTddBankEccError s (execTddBankEccError a0' s) :=
  have hm := Nat.and_self F.execTddBankEccError; .next (have h := Off.refl; (State.bankEcc_off (sb hm (by decide)) h ..))
def F.execTddSwap : Nat := 0x1c00000000000000000000000000000000000400040000000000000000000000000000000000000000003000000200200
theorem execTddSwap_off (s) (a0') : OutOff F.execTddSwap s (execTddSwap a0' s) :=
  have hm := Nat.and_self F.execTddSwap; .next (have h := Off.refl; (State.byHost_off (sb hm (by decide)) h (fun _ h0 => (State.writeTddCtl_off (sb hm (by decide)) h0 ..)) ..))
def F.execTddSwapApply : Nat := 0x18000000000000000000000000000000000000000000000000000000000000000000000000000000000000000000000000000000000000000000000000000040000000000000000000000000000000000000000001000000300840
theorem execTddSwapApply_off (s) (a0') : OutOff F.execTddSwapApply s (execTddSwapApply a0' s) :=
  have hm := Nat.and_self F.execTddSwapApply; .next (have h := Off.refl; (State.swapApply_off (sb hm (by decide)) h ..))
def F.execSynCalComplete : Nat := 0x1e01b0000000000000c00280000803000000032800
theorem execSynCalComplete_off (s) (a0') (a1') : OutOff F.execSynCalComplete s (execSynCalComplete a0' a1' s) :=
  have hm := Nat.and_self F.execSynCalComplete; .next (have h := Off.refl; (State.synCalDone_off (sb hm (by decide)) h ..))
def F.execSynGoA : Nat := 0x1e01b000000005de003f82800008020000000b2200
theorem execSynGoA_off (s) : OutOff F.execSynGoA s (execSynGoA s) :=
  have hm := Nat.and_self F.execSynGoA; .next (have h := Off.refl; (State.byHost_off (sb hm (by decide)) h (fun _ h0 => (State.synGo_off (sb hm (by decide)) h0 ..)) ..))
def F.execSynGoB : Nat := 0x1e01b000000005de003f82800008020000000b2200
theorem execSynGoB_off (s) : OutOff F.execSynGoB s (execSynGoB s) :=
  have hm := Nat.and_self F.execSynGoB; .next (have h := Off.refl; (State.byHost_off (sb hm (by decide)) h (fun _ h0 => (State.synGo_off (sb hm (by decide)) h0 ..)) ..))
def F.execSynLock : Nat := 0x1e01b0000000000000c00280000803000000032800
theorem execSynLock_off (s) (a0') (a1') : OutOff F.execSynLock s (execSynLock a0' a1' s) :=
  have hm := Nat.and_self F.execSynLock; .next (have h := Off.refl; (State.synLock_off (sb hm (by decide)) h ..))
def F.execSynLossOfLock : Nat := 0xc00000000000000000000000000000000000000000000000000000000000000000000000000000000000000000000000000000000000000000000000000000000000000001e01b0003ef3ffffffffffffffffff000045bff841
theorem execSynLossOfLock_off (s) (a0') : OutOff F.execSynLossOfLock s (execSynLossOfLock a0' s) :=
  have hm := Nat.and_self F.execSynLossOfLock; .next (have h := Off.refl; (State.synLost_off (sb hm (by decide)) h ..))
def F.execSynReady : Nat := 0x20000000000000000000000000000000000000000000000000000000000000000000000000000000000000000000000668c0803c000011ba20d0ffffffffffff000055bbb840
theorem execSynReady_off (s) (a0') : OutOff F.execSynReady s (execSynReady a0' s) :=
  have hm := Nat.and_self F.execSynReady; .next (have h := Off.refl; (State.synReady_off (sb hm (by decide)) h ..))
def F.execCoexGntInFall : Nat := 0x80000000000000000000000000000000000000000000000000000000000000000000000000000000000000000000000000000000000000000000000000000000000001000000022100
theorem execCoexGntInFall_off (s) : OutOff F.execCoexGntInFall s (execCoexGntInFall s) :=
  have hm := Nat.and_self F.execCoexGntInFall; .next (have h := Off.refl; (State.coexGntFall_off (sb hm (by decide)) h ..))
def F.execCoexGntInRise : Nat := 0x20100
theorem execCoexGntInRise_off (s) : OutOff F.execCoexGntInRise s (execCoexGntInRise s) :=
  have hm := Nat.and_self F.execCoexGntInRise; .next (have h := Off.refl; (State.coexGntRise_off (sb hm (by decide)) h ..))
def F.execCoexGrantOut : Nat := 0x20000000000000000000000000200000000000000000000000000000000000000000000000000000000000000000000000000000000000000000000000000000000000000000000000000000000000020000
theorem execCoexGrantOut_off (s) : OutOff F.execCoexGrantOut s (execCoexGrantOut s) :=
  have hm := Nat.and_self F.execCoexGrantOut; .next (have h := Off.refl; (State.coexGntOut_off (sb hm (by decide)) h ..))
def F.execCoexMaxHoldExpiry : Nat := 0x80000000200000000000000000000000000000000000000000000000000000000000000000000000000000000000000000000000000000000000000000000000000003000000120840
theorem execCoexMaxHoldExpiry_off (s) : OutOff F.execCoexMaxHoldExpiry s (execCoexMaxHoldExpiry s) :=
  have hm := Nat.and_self F.execCoexMaxHoldExpiry; .next (have h := Off.refl; (State.coexMaxHold_off (sb hm (by decide)) h ..))
def F.execCoexReqInFall : Nat := 0x200000000000000000000000000000000000000000000000000000000000000000000000000000000000000000000000000000000000000000000200000000000000020100
theorem execCoexReqInFall_off (s) : OutOff F.execCoexReqInFall s (execCoexReqInFall s) :=
  have hm := Nat.and_self F.execCoexReqInFall; .next (have h := Off.refl; (State.coexReqFall_off (sb hm (by decide)) h ..))
def F.execCoexReqInRise : Nat := 0x200000000000000000000000000000000000000000000000000000000000000000000000000000000000000000000000000000000000000000000000200000000000000022100
theorem execCoexReqInRise_off (s) (a0') : OutOff F.execCoexReqInRise s (execCoexReqInRise a0' s) :=
  have hm := Nat.and_self F.execCoexReqInRise; .next (have h := Off.refl; (State.coexReqRise_off (sb hm (by decide)) h ..))
def F.execCoexReqOutRaise : Nat := 0x200000000000000000000000000000000000000000000000000000000000000000000000000000000000000000000000000000000000000000000000000000801000000120040
theorem execCoexReqOutRaise_off (s) (a0') : OutOff F.execCoexReqOutRaise s (execCoexReqOutRaise a0' s) :=
  have hm := Nat.and_self F.execCoexReqOutRaise; .next (have h := Off.refl; (State.coexReqOut_off (sb hm (by decide)) h ..))
def F.execCaptureArm : Nat := 0x7000000000000000000000000060000000000000000000000000000000000000000000000000000400200
theorem execCaptureArm_off (s) (a0') : OutOff F.execCaptureArm s (execCaptureArm a0' s) :=
  have hm := Nat.and_self F.execCaptureArm; .next (have h := Off.refl; (State.byHost_off (sb hm (by decide)) h (fun _ h0 => (State.writeCteCap_off (sb hm (by decide)) h0 ..)) ..))
def F.execCaptureTrig : Nat := 0x400200
theorem execCaptureTrig_off (s) : OutOff F.execCaptureTrig s (execCaptureTrig s) :=
  have hm := Nat.and_self F.execCaptureTrig; .next (have h := Off.refl; (State.byHost_off (sb hm (by decide)) h (fun _ h0 => (State.writeInjCtl_off (sb hm (by decide)) h0 ..)) ..))
def F.execCteCapUncorr : Nat := 0x3000000000820
theorem execCteCapUncorr_off (s) (a0') : OutOff F.execCteCapUncorr s (execCteCapUncorr a0' s) :=
  have hm := Nat.and_self F.execCteCapUncorr; .next (have h := Off.refl; (State.cteCapMem_off (sb hm (by decide)) h ..))
def F.execCteMemUncorr : Nat := 0x3000000400802
theorem execCteMemUncorr_off (s) (a0') : OutOff F.execCteMemUncorr s (execCteMemUncorr a0' s) :=
  have hm := Nat.and_self F.execCteMemUncorr; .next (have h := Off.refl; (State.cteMem_off (sb hm (by decide)) h ..))
def F.execCue : Nat := 0x8d01100000000000000000000000000000003000020400202
theorem execCue_off (s) (a0') (a1') : OutOff F.execCue s (execCue a0' a1' s) :=
  have hm := Nat.and_self F.execCue; .next (have h := Off.refl; (State.byHost_off (sb hm (by decide)) h (fun _ h0 => (State.writeLpCfg_off (sb hm (by decide)) h0 ..)) ..))
def F.execCueGroup : Nat := 0x8000000000000000000000000000000000003000000400202
theorem execCueGroup_off (s) (a0') : OutOff F.execCueGroup s (execCueGroup a0' s) :=
  have hm := Nat.and_self F.execCueGroup; .next (have h := Off.refl; (State.byHost_off (sb hm (by decide)) h (fun _ h0 => (State.cueGroup_off (sb hm (by decide)) h0 ..)) ..))
def F.execInjectGo : Nat := 0x400200
theorem execInjectGo_off (s) : OutOff F.execInjectGo s (execInjectGo s) :=
  have hm := Nat.and_self F.execInjectGo; .next (have h := Off.refl; (State.byHost_off (sb hm (by decide)) h (fun _ h0 => (State.writeInjCtl_off (sb hm (by decide)) h0 ..)) ..))
def F.execInjectStop : Nat := 0x400200
theorem execInjectStop_off (s) : OutOff F.execInjectStop s (execInjectStop s) :=
  have hm := Nat.and_self F.execInjectStop; .next (have h := Off.refl; (State.byHost_off (sb hm (by decide)) h (fun _ h0 => (State.writeInjCtl_off (sb hm (by decide)) h0 ..)) ..))
def F.execLoopDisable : Nat := 0x8d01100000000000000000000000000000003000020400202
theorem execLoopDisable_off (s) (a0') (a1') : OutOff F.execLoopDisable s (execLoopDisable a0' a1' s) :=
  have hm := Nat.and_self F.execLoopDisable; .next (have h := Off.refl; (State.byHost_off (sb hm (by decide)) h (fun _ h0 => (State.loopEn_off (sb hm (by decide)) h0 ..)) ..))
def F.execLoopEnable : Nat := 0x8d01100000000000000000000000000000003000020400202
theorem execLoopEnable_off (s) (a0') (a1') : OutOff F.execLoopEnable s (execLoopEnable a0' a1' s) :=
  have hm := Nat.and_self F.execLoopEnable; .next (have h := Off.refl; (State.byHost_off (sb hm (by decide)) h (fun _ h0 => (State.loopEn_off (sb hm (by decide)) h0 ..)) ..))
def F.execLoopSampleBoundary : Nat := 0x600000000000000000200000000000000000000000000000000000000000000000000000000000000000000000000000000000001060100000034d83900000000ffc1000000000000000000030000a0528862
theorem execLoopSampleBoundary_off (s) (a0') (a1') (a2') : OutOff F.execLoopSampleBoundary s (execLoopSampleBoundary a0' a1' a2' s) :=
  have hm := Nat.and_self F.execLoopSampleBoundary; .next (have h := Off.refl; (State.loopBoundary_off (sb hm (by decide)) h ..))
def F.execGuardHoldoffEnd : Nat := 0x400000000000000000000000000000000000000000000000000000000000000000000000000000000000000000000000000000000000000000000000000000000000900040
theorem execGuardHoldoffEnd_off (s) : OutOff F.execGuardHoldoffEnd s (execGuardHoldoffEnd s) :=
  have hm := Nat.and_self F.execGuardHoldoffEnd; .next (have h := Off.refl; (State.holdoffDone_off (sb hm (by decide)) h ..))
def F.execLedgerAudit : Nat := 0x600000000000000000000000000000000000003ff000201901840
theorem execLedgerAudit_off (s) (a0') : OutOff F.execLedgerAudit s (execLedgerAudit a0' s) :=
  have hm := Nat.and_self F.execLedgerAudit; .next (have h := Off.refl; (State.ledgerAudit_off (sb hm (by decide)) h ..))
def F.execLedgerClearApply : Nat := 0x60000000000000000000000000000000000000000000000900840
theorem execLedgerClearApply_off (s) : OutOff F.execLedgerClearApply s (execLedgerClearApply s) :=
  have hm := Nat.and_self F.execLedgerClearApply; .next (have h := Off.refl; (State.clearApply_off (sb hm (by decide)) h ..))
def F.execLedgerClearGo : Nat := 0x800000000000000000000000000000000000000000000000000000000000000000000000000000000000800200
theorem execLedgerClearGo_off (s) (a0') : OutOff F.execLedgerClearGo s (execLedgerClearGo a0' s) :=
  have hm := Nat.and_self F.execLedgerClearGo; .next (have h := Off.refl; (State.byHost_off (sb hm (by decide)) h (fun _ h0 => (State.writeLedgClr_off (sb hm (by decide)) h0 ..)) ..))
def F.execLedgerSnapshotDone : Nat := 0x1fff80000000000600000000000000000000000000000000000003ff000001901840
theorem execLedgerSnapshotDone_off (s) : OutOff F.execLedgerSnapshotDone s (execLedgerSnapshotDone s) :=
  have hm := Nat.and_self F.execLedgerSnapshotDone; .next (have h := Off.refl; (State.snapDone_off (sb hm (by decide)) h ..))
def F.execLedgerSnapshotGo : Nat := 0x100000000000000000000001fff80000000000600000000000000000000000000000000000003ff000001801a00
theorem execLedgerSnapshotGo_off (s) (a0') : OutOff F.execLedgerSnapshotGo s (execLedgerSnapshotGo a0' s) :=
  have hm := Nat.and_self F.execLedgerSnapshotGo; .next (have h := Off.refl; (State.byHost_off (sb hm (by decide)) h (fun _ h0 => (State.writeSnap_off (sb hm (by decide)) h0 ..)) ..))
def F.execMinClr : Nat := 0x800200
theorem execMinClr_off (s) : OutOff F.execMinClr s (execMinClr s) :=
  have hm := Nat.and_self F.execMinClr; .next (have h := Off.refl; (State.byHost_off (sb hm (by decide)) h (fun _ h0 => (State.minClr_off (sb hm (by decide)) h0 ..)) ..))
def F.execSlackWindowEnd : Nat := 0x3800000000000000000000080000400000000000000000000000000000000000000000000000000000000000000000000000000000000000000034000000000000ffc100000000000000000003000280900840
theorem execSlackWindowEnd_off (s) (a0') : OutOff F.execSlackWindowEnd s (execSlackWindowEnd a0' s) :=
  have hm := Nat.and_self F.execSlackWindowEnd; .next (have h := Off.refl; (State.slackWindowEnd_off (sb hm (by decide)) h ..))
def F.execWingsLoss : Nat := 0x4000000000000000000000000000000000000000000000000000000000000000000000000000000000000000000000000000000000000000000000000000000000000000000000000000000003000000800800
theorem execWingsLoss_off (s) (a0') : OutOff F.execWingsLoss s (execWingsLoss a0' s) :=
  have hm := Nat.and_self F.execWingsLoss; .next (have h := Off.refl; (State.wingsLoss_off (sb hm (by decide)) h ..))
def F.execWingsWarning : Nat := 0x80000400000000000000000000000000000000000000000000000000000000000000000000000000000000000000034000000000000ffc100000000000000000003000080800800
theorem execWingsWarning_off (s) (a0') (a1') : OutOff F.execWingsWarning s (execWingsWarning a0' a1' s) :=
  have hm := Nat.and_self F.execWingsWarning; .next (have h := Off.refl; (State.wingsWarning_off (sb hm (by decide)) h ..))
def F.execMigrationAbort : Nat := 0x3ef3fa21ff3ffd7fffffff000045befa01
theorem execMigrationAbort_off (s) : OutOff F.execMigrationAbort s (execMigrationAbort s) :=
  have hm := Nat.and_self F.execMigrationAbort; .next (have h := Off.refl; (State.byHost_off (sb hm (by decide)) h (fun _ h0 => (State.migHostAbort_off (sb hm (by decide)) h0 ..)) ..))
def F.execMigrationBoundary : Nat := 0x1400400000000000001820c00360005de503f8010000401000004dc8040
theorem execMigrationBoundary_off (s) : OutOff F.execMigrationBoundary s (execMigrationBoundary s) :=
  have hm := Nat.and_self F.execMigrationBoundary; .next (have h := Off.refl; (State.migBoundary_off (sb hm (by decide)) h ..))
def F.execMigrationDeadline : Nat := 0x3ef3fa21ff3ffd7fffffff000045bef841
theorem execMigrationDeadline_off (s) : OutOff F.execMigrationDeadline s (execMigrationDeadline s) :=
  have hm := Nat.and_self F.execMigrationDeadline; .next (have h := Off.refl; (State.migDeadline_off (sb hm (by decide)) h ..))
def F.execMigrationDone : Nat := 0x3ef3ffffff3ffd7fffffff000045bef841
theorem execMigrationDone_off (s) : OutOff F.execMigrationDone s (execMigrationDone s) :=
  have hm := Nat.and_self F.execMigrationDone; .next (have h := Off.refl; (State.migDone_off (sb hm (by decide)) h ..))
def F.execMigrationGo : Nat := 0x7800100400000400004668c0840c00066fc200503f80000007ff000005ac9a01
theorem execMigrationGo_off (s) (a0') (a1') : OutOff F.execMigrationGo s (execMigrationGo a0' a1' s) :=
  have hm := Nat.and_self F.execMigrationGo; .next (have h := Off.refl; (State.byHost_off (sb hm (by decide)) h (fun _ h0 => (State.migGo_off (sb hm (by decide)) h0 ..)) ..))
def F.execMigrationReady : Nat := 0x400000000000000000000000000000000000000000400000004000000
theorem execMigrationReady_off (s) : OutOff F.execMigrationReady s (execMigrationReady s) :=
  have hm := Nat.and_self F.execMigrationReady; .next (have h := Off.refl; (State.migReady_off (sb hm (by decide)) h ..))
def F.execMigrationWarmStart : Nat := 0x400000000000000c400000000000000400000004948041
theorem execMigrationWarmStart_off (s) : OutOff F.execMigrationWarmStart s (execMigrationWarmStart s) :=
  have hm := Nat.and_self F.execMigrationWarmStart; .next (have h := Off.refl; (State.migWarm_off (sb hm (by decide)) h ..))
def F.execDeferredFaultNPulse : Nat := 0x100840
theorem execDeferredFaultNPulse_off (s) : OutOff F.execDeferredFaultNPulse s (execDeferredFaultNPulse s) :=
  have hm := Nat.and_self F.execDeferredFaultNPulse; .next (have h := Off.refl; (State.deferredPulse_off (sb hm (by decide)) h ..))
def F.execFaultEpochLatch : Nat := 0x7fe000000000000000000000000000000000000000000000000000000000000000000000000000000000000000000000000000000c0200000003e0000000c00000f00007fffffff00004514b840
theorem execFaultEpochLatch_off (s) : OutOff F.execFaultEpochLatch s (execFaultEpochLatch s) :=
  have hm := Nat.and_self F.execFaultEpochLatch; .next (have h := Off.refl; (State.epochLatch_off (sb hm (by decide)) h ..))
def F.execFaultEvent : Nat := 0x3000000000800
theorem execFaultEvent_off (s) (a0') (a1') (a2') : OutOff F.execFaultEvent s (execFaultEvent a0' a1' a2' s) :=
  have hm := Nat.and_self F.execFaultEvent; .next (have h := Off.refl; (State.faultEvent_off (sb hm (by decide)) h ..))
def F.execFaultNPulseEnd : Nat := 0x100840
theorem execFaultNPulseEnd_off (s) : OutOff F.execFaultNPulseEnd s (execFaultNPulseEnd s) :=
  have hm := Nat.and_self F.execFaultNPulseEnd; .next (have h := Off.refl; (State.pulseEnd_off (sb hm (by decide)) h ..))
def F.execFirstFaultAck : Nat := 0x2000000000000000000000000000000003ff000001001a00
theorem execFirstFaultAck_off (s) : OutOff F.execFirstFaultAck s (execFirstFaultAck s) :=
  have hm := Nat.and_self F.execFirstFaultAck; .next (have h := Off.refl; (State.byHost_off (sb hm (by decide)) h (fun _ h0 => (State.ackFirst_off (sb hm (by decide)) h0 ..)) ..))
def F.execForceCause : Nat := 0x2000000000a00
theorem execForceCause_off (s) (a0') (a1') : OutOff F.execForceCause s (execForceCause a0' a1' s) :=
  have hm := Nat.and_self F.execForceCause; .next (have h := Off.refl; (State.byHost_off (sb hm (by decide)) h (fun _ h0 => (State.forceCause_off (sb hm (by decide)) h0 ..)) ..))
def F.execForceSource : Nat := 0xa00
theorem execForceSource_off (s) (a0') (a1') : OutOff F.execForceSource s (execForceSource a0' a1' s) :=
  have hm := Nat.and_self F.execForceSource; .next (have h := Off.refl; (State.byHost_off (sb hm (by decide)) h (fun _ h0 => (State.forceSource_off (sb hm (by decide)) h0 ..)) ..))
def F.execHostClear : Nat := 0x1000000000000000000000000180000c0200000000000000000000000000007ff63ff000001003a00
theorem execHostClear_off (s) (a0') (a1') : OutOff F.execHostClear s (execHostClear a0' a1' s) :=
  have hm := Nat.and_self F.execHostClear; .next (have h := Off.refl; (State.byHost_off (sb hm (by decide)) h (fun _ h0 => (State.hostClear_off (sb hm (by decide)) h0 ..)) ..))
def F.execSeverityWrite : Nat := 0x380000000000000000000000000000000000000000000000000000000000000000000003ff000001001a00
theorem execSeverityWrite_off (s) (a0') (a1') : OutOff F.execSeverityWrite s (execSeverityWrite a0' a1' s) :=
  have hm := Nat.and_self F.execSeverityWrite; .next (have h := Off.refl; (State.byHost_off (sb hm (by decide)) h (fun _ h0 => (State.writeSev_off (sb hm (by decide)) h0 ..)) ..))
def F.execSourceRecovery : Nat := 0x180000c0200000000000000000000000000007ff63ff000001103840
theorem execSourceRecovery_off (s) (a0') : OutOff F.execSourceRecovery s (execSourceRecovery a0' s) :=
  have hm := Nat.and_self F.execSourceRecovery; .next (have h := Off.refl; (State.sourceRecovery_off (sb hm (by decide)) h ..))
def F.execFlushPeriodic : Nat := 0x3ff000201101840
theorem execFlushPeriodic_off (s) : OutOff F.execFlushPeriodic s (execFlushPeriodic s) :=
  have hm := Nat.and_self F.execFlushPeriodic; .next (have h := Off.refl; (State.flushPeriodic_off (sb hm (by decide)) h ..))
def F.execFoldWindowExpiry : Nat := 0x3ff000001101840
theorem execFoldWindowExpiry_off (s) : OutOff F.execFoldWindowExpiry s (execFoldWindowExpiry s) :=
  have hm := Nat.and_self F.execFoldWindowExpiry; .next (have h := Off.refl; (State.foldEnd_off (sb hm (by decide)) h ..))
def F.execPbCfgWrite : Nat := 0x1c0000000000000000000000000000000000000000000000000000000000000000000000000003ff000001001a00
theorem execPbCfgWrite_off (s) (a0') : OutOff F.execPbCfgWrite s (execPbCfgWrite a0' s) :=
  have hm := Nat.and_self F.execPbCfgWrite; .next (have h := Off.refl; (State.byHost_off (sb hm (by decide)) h (fun _ h0 => (State.writePbCfg_off (sb hm (by decide)) h0 ..)) ..))
def F.execPbReadDone : Nat := 0x7efdfe00000000000000000000000000000000000000000000000000000000000000000000000000000000000800000000000000000000000000017ff000007001800
theorem execPbReadDone_off (s) : OutOff F.execPbReadDone s (execPbReadDone s) :=
  have hm := Nat.and_self F.execPbReadDone; .next (have h := Off.refl; (State.readBook_off (sb hm (by decide)) h ..))
def F.execPbReadGo : Nat := 0x80000000000000000000000000000000000000001200
theorem execPbReadGo_off (s) : OutOff F.execPbReadGo s (execPbReadGo s) :=
  have hm := Nat.and_self F.execPbReadGo; .next (have h := Off.refl; (State.byHost_off (sb hm (by decide)) h (fun _ h0 => (State.pbReadGo_off (sb hm (by decide)) h0 ..)) ..))
def F.execPfailAssert : Nat := 0x40000000000000000000000000000000000000000000000000000000000000000000000000000000000000000000000000000000000000000000000000000000000003ff000001001800
theorem execPfailAssert_off (s) (a0') : OutOff F.execPfailAssert s (execPfailAssert a0' s) :=
  have hm := Nat.and_self F.execPfailAssert; .next (have h := Off.refl; (State.pfail_off (sb hm (by decide)) h ..))
def F.execPfailDeassert : Nat := 0x3ff000001001800
theorem execPfailDeassert_off (s) : OutOff F.execPfailDeassert s (execPfailDeassert s) :=
  have hm := Nat.and_self F.execPfailDeassert; .next (have h := Off.refl; (State.pfailRise_off (sb hm (by decide)) h ..))
def F.execRateLimitWindowEnd : Nat := 0x3ff000201101840
theorem execRateLimitWindowEnd_off (s) : OutOff F.execRateLimitWindowEnd s (execRateLimitWindowEnd s) :=
  have hm := Nat.and_self F.execRateLimitWindowEnd; .next (have h := Off.refl; (State.rateEnd_off (sb hm (by decide)) h ..))
def F.execRecordAdmittedAfterWait : Nat := 0x3ff000001001800
theorem execRecordAdmittedAfterWait_off (s) : OutOff F.execRecordAdmittedAfterWait s (execRecordAdmittedAfterWait s) :=
  have hm := Nat.and_self F.execRecordAdmittedAfterWait; .next (have h := Off.refl; (State.letWaiting_off (sb hm (by decide)) h ..))
def F.execRecordArrival : Nat := 0x3ff000001001800
theorem execRecordArrival_off (s) (a0') (a1') (a2') (a3') : OutOff F.execRecordArrival s (execRecordArrival a0' a1' a2' a3' s) :=
  have hm := Nat.and_self F.execRecordArrival; .next (have h := Off.refl; (State.recordArrival_off (sb hm (by decide)) h ..))
def F.execRecordConfirmed : Nat := 0x7efdfe00000000000000000000000000000000000000000000000000000000000000000000000000000000000800000000000000000000000000017ff000007001800
theorem execRecordConfirmed_off (s) (a0') : OutOff F.execRecordConfirmed s (execRecordConfirmed a0' s) :=
  have hm := Nat.and_self F.execRecordConfirmed; .next (have h := Off.refl; (State.serve_off (sb hm (by decide)) (State.confirm_off (sb hm (by decide)) h ..) ..))
def F.execStagingUncorr : Nat := 0x3ff000001001880
theorem execStagingUncorr_off (s) (a0') : OutOff F.execStagingUncorr s (execStagingUncorr a0' s) :=
  have hm := Nat.and_self F.execStagingUncorr; .next (have h := Off.refl; (State.stagingLost_off (sb hm (by decide)) h ..))
def F.execVaultFlushComplete : Nat := 0x1000
theorem execVaultFlushComplete_off (s) : OutOff F.execVaultFlushComplete s (execVaultFlushComplete s) :=
  have hm := Nat.and_self F.execVaultFlushComplete; .next (have h := Off.refl; (State.vaultDone_off (sb hm (by decide)) h ..))
def F.execVaultLineUncorr : Nat := 0x3000000000800
theorem execVaultLineUncorr_off (s) : OutOff F.execVaultLineUncorr s (execVaultLineUncorr s) :=
  have hm := Nat.and_self F.execVaultLineUncorr; .next (have h := Off.refl; (State.vaultUncorr_off (sb hm (by decide)) h ..))
def F.execVaultRestore : Nat := 0x7efdfe00000000000000000000000000000000000000000000000000000000000000000000000000000000000800000000000000000000000000017ff000007001800
theorem execVaultRestore_off (s) : OutOff F.execVaultRestore s (execVaultRestore s) :=
  have hm := Nat.and_self F.execVaultRestore; .next (have h := Off.refl; (State.serve_off (sb hm (by decide)) (State.restoreStart_off (sb hm (by decide)) h ..) ..))
def F.execVerifyDone : Nat := 0xc00000000000000000000000000000000000000000000000000000000000000000000000000000000000000000000003c000000000000000000000000000000000000000000000000000000000001000000000000
theorem execVerifyDone_off (s) (a0') : OutOff F.execVerifyDone s (execVerifyDone a0' s) :=
  have hm := Nat.and_self F.execVerifyDone; .next (have h := Off.refl; (State.verifyDone_off (sb hm (by decide)) h ..))
def F.execVerifyGo : Nat := 0x3c000000000000000000000000000000000000000000000000000000000000000000001200
theorem execVerifyGo_off (s) : OutOff F.execVerifyGo s (execVerifyGo s) :=
  have hm := Nat.and_self F.execVerifyGo; .next (have h := Off.refl; (State.byHost_off (sb hm (by decide)) h (fun _ h0 => (State.verifyGo_off (sb hm (by decide)) h0 ..)) ..))
def F.execVerifyStop : Nat := 0x1200
theorem execVerifyStop_off (s) : OutOff F.execVerifyStop s (execVerifyStop s) :=
  have hm := Nat.and_self F.execVerifyStop; .next (have h := Off.refl; (State.byHost_off (sb hm (by decide)) h (fun _ h0 => (State.verifyStop_off (sb hm (by decide)) h0 ..)) ..))
def F.execBadAccess : Nat := 0x38000000000000000000000000000000000000000000000000000000000000000000000000000000000000000000000000000000000000000000000000000000000000000000000000000000003000002000800
theorem execBadAccess_off (s) (a0') (a1') (a2') : OutOff F.execBadAccess s (execBadAccess a0' a1' a2' s) :=
  have hm := Nat.and_self F.execBadAccess; .next (have h := Off.refl; (State.badAccess_off (sb hm (by decide)) h ..))
def F.execD0Return : Nat := 0x2000078000000000000000000000000000000000000000000000000000000000000000000000000000000000000001c10200000004000002000000000000000000000000000002000000
theorem execD0Return_off (s) : OutOff F.execD0Return s (execD0Return s) :=
  have hm := Nat.and_self F.execD0Return; .next (have h := Off.refl; (State.d0Return_off (sb hm (by decide)) h ..))
def F.execD3hotEntry : Nat := 0x2000000000000000000000000000000000000000000000000000000000000000000000000000000000000000000001000200000004000000000000000000000000000000000002000000
theorem execD3hotEntry_off (s) (a0') : OutOff F.execD3hotEntry s (execD3hotEntry a0' s) :=
  have hm := Nat.and_self F.execD3hotEntry; .next (have h := Off.refl; (State.d3Enter_off (sb hm (by decide)) h ..))
def F.execHostSleepEntry : Nat := 0x200000000000000000000000001000200000004000002000000000000000000000000000002000200
theorem execHostSleepEntry_off (s) : OutOff F.execHostSleepEntry s (execHostSleepEntry s) :=
  have hm := Nat.and_self F.execHostSleepEntry; .next (have h := Off.refl; (State.byHost_off (sb hm (by decide)) h (fun _ h0 => (State.writeHifPm_off (sb hm (by decide)) h0 ..)) ..))
def F.execHostSleepExit : Nat := 0x200000000000000000000000001000200000004000002000000000000000000000000000002000200
theorem execHostSleepExit_off (s) : OutOff F.execHostSleepExit s (execHostSleepExit s) :=
  have hm := Nat.and_self F.execHostSleepExit; .next (have h := Off.refl; (State.byHost_off (sb hm (by decide)) h (fun _ h0 => (State.writeHifPm_off (sb hm (by decide)) h0 ..)) ..))
def F.execLinkDown : Nat := 0x80000000000000000001c00000000000000000000000000000000000000000000000000000000000000000000000000000000000000000000000000000000000000000000000000000000000003000000000800
theorem execLinkDown_off (s) : OutOff F.execLinkDown s (execLinkDown s) :=
  have hm := Nat.and_self F.execLinkDown; .next (have h := Off.refl; (State.linkDown_off (sb hm (by decide)) h ..))
def F.execLinkUp : Nat := 0x1c00000000000000000000000000000000000000000000000000000000000000000000000000000000000000000000000000000000000000000000000000000000000001000000000800
theorem execLinkUp_off (s) (a0') (a1') : OutOff F.execLinkUp s (execLinkUp a0' a1' s) :=
  have hm := Nat.and_self F.execLinkUp; .next (have h := Off.refl; (State.linkUp_off (sb hm (by decide)) h ..))
def F.execPcieErrorTlp : Nat := 0x440000000000000000000000000000000000000000000000000000000000000000000000000000000000000000000000000000000000000000000000000000000000000000000000000000000003000000000800
theorem execPcieErrorTlp_off (s) (a0') : OutOff F.execPcieErrorTlp s (execPcieErrorTlp a0' s) :=
  have hm := Nat.and_self F.execPcieErrorTlp; .next (have h := Off.refl; (State.tlpError_off (sb hm (by decide)) h ..))
def F.execTunnelTimeout : Nat := 0x200000000000000000000000000000000000000000000000000000000000000000000000000000000000000000000000000000000000000000000000000000000000000000000000000000000003000002100840
theorem execTunnelTimeout_off (s) : OutOff F.execTunnelTimeout s (execTunnelTimeout s) :=
  have hm := Nat.and_self F.execTunnelTimeout; .next (have h := Off.refl; (State.tunnelTimeout_off (sb hm (by decide)) h ..))
def F.execWinbWrite : Nat := 0x400000000000000000000000000000000000000000000000000000000000000000000000000000000000000000000000000000000000000000000000000000000000000000000000000000000000000000000000000000000000000000
theorem execWinbWrite_off (s) : OutOff F.execWinbWrite s (execWinbWrite s) :=
  have hm := Nat.and_self F.execWinbWrite; .next (have h := Off.refl; (State.satInc_off h (has_HIF_WINB_WR_CNT (tb hm (by decide))) ..))
def F.execBufParity : Nat := 0x3000002000800
theorem execBufParity_off (s) (a0') : OutOff F.execBufParity s (execBufParity a0' s) :=
  have hm := Nat.and_self F.execBufParity; .next (have h := Off.refl; (State.bufParity_off (sb hm (by decide)) h ..))
def F.execCqHeadWrite : Nat := 0x80000000000000000000000000000000000000000000000000002000200
theorem execCqHeadWrite_off (s) (a0') (a1') : OutOff F.execCqHeadWrite s (execCqHeadWrite a0' a1' s) :=
  have hm := Nat.and_self F.execCqHeadWrite; .next (have h := Off.refl; (State.byHost_off (sb hm (by decide)) h (fun _ h0 => (State.writeCqHead_off (sb hm (by decide)) h0 ..)) ..))
def F.execDescComplete : Nat := 0x78000000000000000000000000000000000000000000000000000000000000000000000000000000000000000c00000000004000000000000000000000000000000000002000000
theorem execDescComplete_off (s) (a0') : OutOff F.execDescComplete s (execDescComplete a0' s) :=
  have hm := Nat.and_self F.execDescComplete; .next (have h := Off.refl; (State.descComplete_off (sb hm (by decide)) h ..))
def F.execDescFetchError : Nat := 0x10000040000000000000000000000000000000003000002000800
theorem execDescFetchError_off (s) (a0') : OutOff F.execDescFetchError s (execDescFetchError a0' s) :=
  have hm := Nat.and_self F.execDescFetchError; .next (have h := Off.refl; (State.descFetch_off (sb hm (by decide)) h ..))
def F.execDescMediumRead : Nat := 0x7efdfe00000000000000000000000000000000000000000000000000000000000000000000000000000000400800000000000000000000000000017ff000007001800
theorem execDescMediumRead_off (s) (a0') (a1') : OutOff F.execDescMediumRead s (execDescMediumRead a0' a1' s) :=
  have hm := Nat.and_self F.execDescMediumRead; .next (have h := Off.refl; (State.serve_off (sb hm (by decide)) (State.descBulk_off (sb hm (by decide)) h ..) ..))
def F.execDescMemoryRead : Nat := 0x40000000000000000000000000000000400000007000000
theorem execDescMemoryRead_off (s) (a0') (a1') : OutOff F.execDescMemoryRead s (execDescMemoryRead a0' a1' s) :=
  have hm := Nat.and_self F.execDescMemoryRead; .next (have h := Off.refl; (State.descBulk_off (sb hm (by decide)) h ..))
def F.execDescNop : Nat := 0x40000000000000000000000000000000000000002000000
theorem execDescNop_off (s) (a0') (a1') : OutOff F.execDescNop s (execDescNop a0' a1' s) :=
  have hm := Nat.and_self F.execDescNop; .next (have h := Off.refl; (State.descNop_off (sb hm (by decide)) h ..))
def F.execDescRefusedKind : Nat := 0x40000000000000000000000000000000000000002000000
theorem execDescRefusedKind_off (s) (a0') (a1') : OutOff F.execDescRefusedKind s (execDescRefusedKind a0' a1' s) :=
  have hm := Nat.and_self F.execDescRefusedKind; .next (have h := Off.refl; (State.descRefused_off (sb hm (by decide)) h ..))
def F.execDmaDoorbell : Nat := 0x20000000000000000000000000000000000000000000000000000000000200
theorem execDmaDoorbell_off (s) (a0') (a1') : OutOff F.execDmaDoorbell s (execDmaDoorbell a0' a1' s) :=
  have hm := Nat.and_self F.execDmaDoorbell; .next (have h := Off.refl; (State.byHost_off (sb hm (by decide)) h (fun _ h0 => (State.wr_off h0 (has_DMA_Q_TAIL (tb hm (by decide))) ..)) ..))
def F.execModerationTimeout : Nat := 0x4000000000000000000000000000000000002100040
theorem execModerationTimeout_off (s) (a0') : OutOff F.execModerationTimeout s (execModerationTimeout a0' s) :=
  have hm := Nat.and_self F.execModerationTimeout; .next (have h := Off.refl; (State.modTimeout_off (sb hm (by decide)) h ..))
def F.execQueueDisable : Nat := 0xe00000000020080000c10000040004000000000000000000000000000002000002000a00
theorem execQueueDisable_off (s) (a0') (a1') : OutOff F.execQueueDisable s (execQueueDisable a0' a1' s) :=
  have hm := Nat.and_self F.execQueueDisable; .next (have h := Off.refl; (State.byHost_off (sb hm (by decide)) h (fun _ h0 => (State.writeQCfg_off (sb hm (by decide)) h0 ..)) ..))
def F.execQueueDrained : Nat := 0x10000000000000000000000000000000000000000000000000000
theorem execQueueDrained_off (s) (a0') : OutOff F.execQueueDrained s (execQueueDrained a0' s) :=
  have hm := Nat.and_self F.execQueueDrained; .next (have h := Off.refl; (State.qDrained_off (sb hm (by decide)) h ..))
def F.execQueueEnable : Nat := 0xe00000000020080000c10000040004000000000000000000000000000002000002000a00
theorem execQueueEnable_off (s) (a0') (a1') : OutOff F.execQueueEnable s (execQueueEnable a0' a1' s) :=
  have hm := Nat.and_self F.execQueueEnable; .next (have h := Off.refl; (State.byHost_off (sb hm (by decide)) h (fun _ h0 => (State.writeQCfg_off (sb hm (by decide)) h0 ..)) ..))
def F.execQueueReset : Nat := 0xe00000000020080000c10000040004000000000000000000000000000002000002000a00
theorem execQueueReset_off (s) (a0') (a1') : OutOff F.execQueueReset s (execQueueReset a0' a1' s) :=
  have hm := Nat.and_self F.execQueueReset; .next (have h := Off.refl; (State.byHost_off (sb hm (by decide)) h (fun _ h0 => (State.writeQCfg_off (sb hm (by decide)) h0 ..)) ..))
def F.execCountSnapshot : Nat := 0xfc0000000000000000000000000000000000000000000000000000000000000000000000000000000000200
theorem execCountSnapshot_off (s) (a0') : OutOff F.execCountSnapshot s (execCountSnapshot a0' s) :=
  have hm := Nat.and_self F.execCountSnapshot; .next (have h := Off.refl; (State.byHost_off (sb hm (by decide)) h (fun _ h0 => (State.writeCntPtr_off (sb hm (by decide)) h0 ..)) ..))
def F.execIcComplete : Nat := 0x1000000000000020000000000000000000003ff000003001a00
theorem execIcComplete_off (s) (a0') (a1') (a2') : OutOff F.execIcComplete s (execIcComplete a0' a1' a2' s) :=
  have hm := Nat.and_self F.execIcComplete; .next (have h := Off.refl; (State.byHost_off (sb hm (by decide)) h (fun _ h0 => (State.icComplete_off (sb hm (by decide)) h0 ..)) ..))
def F.execIcStateParity : Nat := 0x20000000000000000000003ff000003001800
theorem execIcStateParity_off (s) (a0') : OutOff F.execIcStateParity s (execIcStateParity a0' s) :=
  have hm := Nat.and_self F.execIcStateParity; .next (have h := Off.refl; (State.icParity_off (sb hm (by decide)) h ..))
def F.execMsixEnable : Nat := 0x2000000
theorem execMsixEnable_off (s) : OutOff F.execMsixEnable s (execMsixEnable s) :=
  have hm := Nat.and_self F.execMsixEnable; .next (have h := Off.refl; (State.msixEnable_off (sb hm (by decide)) h ..))
def F.execMsixUnmask : Nat := 0x2000208
theorem execMsixUnmask_off (s) (a0') : OutOff F.execMsixUnmask s (execMsixUnmask a0' s) :=
  have hm := Nat.and_self F.execMsixUnmask; .next (have h := Off.refl; (State.byHost_off (sb hm (by decide)) h (fun _ h0 => (State.writeVecCtl_off (sb hm (by decide)) h0 ..)) ..))
def F.execSourceAssertion : Nat := 0x2000000000000000000000000000002000000
theorem execSourceAssertion_off (s) (a0') : OutOff F.execSourceAssertion s (execSourceAssertion a0' s) :=
  have hm := Nat.and_self F.execSourceAssertion; .next (have h := Off.refl; (State.sourceAssert_off (sb hm (by decide)) h ..))
def F.execSourceConfigWrite : Nat := 0x7000000000000000000000000000000000000000000000000002000000000000000000000000000002000200
theorem execSourceConfigWrite_off (s) (a0') (a1') : OutOff F.execSourceConfigWrite s (execSourceConfigWrite a0' a1' s) :=
  have hm := Nat.and_self F.execSourceConfigWrite; .next (have h := Off.refl; (State.byHost_off (sb hm (by decide)) h (fun _ h0 => (State.writeSrcCfg_off (sb hm (by decide)) h0 ..)) ..))
def F.execTargetConfigWrite : Nat := 0x18000000000000000000000000000000000000200000000000002000000000000000000000000000002000200
theorem execTargetConfigWrite_off (s) (a0') (a1') : OutOff F.execTargetConfigWrite s (execTargetConfigWrite a0' a1' s) :=
  have hm := Nat.and_self F.execTargetConfigWrite; .next (have h := Off.refl; (State.byHost_off (sb hm (by decide)) h (fun _ h0 => (State.writeTgtCfg_off (sb hm (by decide)) h0 ..)) ..))
def F.execWakeClear : Nat := 0x2000000000000000000000000000000000200
theorem execWakeClear_off (s) (a0') : OutOff F.execWakeClear s (execWakeClear a0' s) :=
  have hm := Nat.and_self F.execWakeClear; .next (have h := Off.refl; (State.byHost_off (sb hm (by decide)) h (fun _ h0 => (State.writeWake_off (sb hm (by decide)) h0 ..)) ..))
def F.execAckFrame : Nat := 0xd00000000000000000000000000000000000000000000000000000000000000000000000000000000001030000002000020000000000000000000007ff000007001800
theorem execAckFrame_off (s) (a0') (a1') (a2') (a3') (a4') (a5') (a6') : OutOff F.execAckFrame s (execAckFrame a0' a1' a2' a3' a4' a5' a6' s) :=
  have hm := Nat.and_self F.execAckFrame; .next (have h := Off.refl; (State.ackFrame_off (sb hm (by decide)) h ..))
def F.execArcDown : Nat := 0x200000000040000000000000000000000000000000000000000000000000000000000000000000000000020000000f803018000200000000000000120007d7fffffff00004714b800
theorem execArcDown_off (s) (a0') : OutOff F.execArcDown s (execArcDown a0' s) :=
  have hm := Nat.and_self F.execArcDown; .next (have h := Off.refl; (State.arcDown_off (sb hm (by decide)) h ..))
def F.execBreakNoticeFrame : Nat := 0x2000000000400000000000000000000000000000000000000000000000000000000000000000000000000000000001803018000200000000000000120007d7fffffff00004714b800
theorem execBreakNoticeFrame_off (s) (a0') (a1') : OutOff F.execBreakNoticeFrame s (execBreakNoticeFrame a0' a1' s) :=
  have hm := Nat.and_self F.execBreakNoticeFrame; .next (have h := Off.refl; (State.breakNotice_off (sb hm (by decide)) h ..))
def F.execBulkDataFrame : Nat := 0x400000006000000
theorem execBulkDataFrame_off (s) (a0') (a1') (a2') (a3') (a4') (a5') (a6') (a7') : OutOff F.execBulkDataFrame s (execBulkDataFrame a0' a1' a2' a3' a4' a5' a6' a7' s) :=
  have hm := Nat.and_self F.execBulkDataFrame; .next (have h := Off.refl; (State.bulkArrive_off (sb hm (by decide)) h ..))
def F.execBulkRequestFrame : Nat := 0x7efdfe00000000000000000000000000000000000000000000000000000000000000000000000000000000000800000000000000000000000000017ff000007001800
theorem execBulkRequestFrame_off (s) (a0') (a1') (a2') (a3') (a4') : OutOff F.execBulkRequestFrame s (execBulkRequestFrame a0' a1' a2' a3' a4' s) :=
  have hm := Nat.and_self F.execBulkRequestFrame; .next (have h := Off.refl; (State.serve_off (sb hm (by decide)) (State.bulkRequest_off (sb hm (by decide)) h ..) ..))
def F.execCensusMarker : Nat := 0x600000000000000000000000000000000000000000000000000000000000000000000000000000000000000000000000000000000000000000000000000000000000000000000000000000000003ff000005001800
theorem execCensusMarker_off (s) (a0') (a1') (a2') (a3') (a4') (a5') : OutOff F.execCensusMarker s (execCensusMarker a0' a1' a2' a3' a4' a5' s) :=
  have hm := Nat.and_self F.execCensusMarker; .next (have h := Off.refl; (State.censusMarker_off (sb hm (by decide)) h ..))
def F.execCensusMarkerSend : Nat := 0x204100040
theorem execCensusMarkerSend_off (s) : OutOff F.execCensusMarkerSend s (execCensusMarkerSend s) :=
  have hm := Nat.and_self F.execCensusMarkerSend; .next (have h := Off.refl; (State.censusSend_off (sb hm (by decide)) h ..))
def F.execCreditReturn : Nat := 0x4000000
theorem execCreditReturn_off (s) (a0') (a1') (a2') : OutOff F.execCreditReturn s (execCreditReturn a0' a1' a2' s) :=
  have hm := Nat.and_self F.execCreditReturn; .next (have h := Off.refl; (State.creditReturn_off (sb hm (by decide)) h ..))
def F.execEnumerationComplete : Nat := 0x1800000000000f000000000080040010000000d0000000000000000000000000000000000000000000000000000000000000000000000000000000000100000000204043000000000000c002ffffffff00004703b800
theorem execEnumerationComplete_off (s) (a0') (a1') : OutOff F.execEnumerationComplete s (execEnumerationComplete a0' a1' s) :=
  have hm := Nat.and_self F.execEnumerationComplete; .next (have h := Off.refl; (State.enumDone_off (sb hm (by decide)) h ..))
def F.execEnumerationFrame : Nat := 0x8000001000000000000000000000000000000000000000000000000000000000000000000000000000000000000000000000000000204041000000000000c002ffffffff00004503b800
theorem execEnumerationFrame_off (s) (a0') (a1') (a2') (a3') : OutOff F.execEnumerationFrame s (execEnumerationFrame a0' a1' a2' a3' s) :=
  have hm := Nat.and_self F.execEnumerationFrame; .next (have h := Off.refl; (State.enumFrame_off (sb hm (by decide)) h ..))
def F.execEnumerationStart : Nat := 0x400000004000000
theorem execEnumerationStart_off (s) : OutOff F.execEnumerationStart s (execEnumerationStart s) :=
  have hm := Nat.and_self F.execEnumerationStart; .next (have h := Off.refl; (State.enumStart_off (sb hm (by decide)) h ..))
def F.execFrameCrcFail : Nat := 0x80000000000000000000000000000000000000000000000000000000000000000000000000000000000000000000000000000000000000000000000000000000000000000000000000000000000003000004000800
theorem execFrameCrcFail_off (s) (a0') (a1') : OutOff F.execFrameCrcFail s (execFrameCrcFail a0' a1' s) :=
  have hm := Nat.and_self F.execFrameCrcFail; .next (have h := Off.refl; (State.frameCrc_off (sb hm (by decide)) h ..))
def F.execHeaderCrcFail : Nat := 0x10000000000000000000000000000000000000000000000000000000000000000000000000000000000000000000000000000000000000000002000e000000000000000000000000000000000000400000004000000
theorem execHeaderCrcFail_off (s) (a0') : OutOff F.execHeaderCrcFail s (execHeaderCrcFail a0' s) :=
  have hm := Nat.and_self F.execHeaderCrcFail; .next (have h := Off.refl; (State.headerCrc_off (sb hm (by decide)) h ..))
def F.execNakFrame : Nat := 0x400000000000000000000000000000000000000000000000000000000000000000000000000000000000000000000000000000000000000000000000400000004000000
theorem execNakFrame_off (s) (a0') (a1') (a2') : OutOff F.execNakFrame s (execNakFrame a0' a1' a2' s) :=
  have hm := Nat.and_self F.execNakFrame; .next (have h := Off.refl; (State.replay_off (sb hm (by decide)) (State.took_off (sb hm (by decide)) h ..) ..))
def F.execNoVertexTimeout : Nat := 0x3000000000800
theorem execNoVertexTimeout_off (s) : OutOff F.execNoVertexTimeout s (execNoVertexTimeout s) :=
  have hm := Nat.and_self F.execNoVertexTimeout; .next (have h := Off.refl; (State.noVertex_off (sb hm (by decide)) h ..))
def F.execPortRetrain : Nat := 0x20002000e000000000000000000000000000000000000400000004000000
theorem execPortRetrain_off (s) (a0') : OutOff F.execPortRetrain s (execPortRetrain a0' s) :=
  have hm := Nat.and_self F.execPortRetrain; .next (have h := Off.refl; (State.retrain_off (sb hm (by decide)) h ..))
def F.execReadAnswerFrame : Nat := 0x6000000
theorem execReadAnswerFrame_off (s) (a0') (a1') (a2') (a3') : OutOff F.execReadAnswerFrame s (execReadAnswerFrame a0' a1' a2' a3' s) :=
  have hm := Nat.and_self F.execReadAnswerFrame; .next (have h := Off.refl; (State.readAnswer_off (sb hm (by decide)) (State.took_off (sb hm (by decide)) h ..) ..))
def F.execReplayTimeout : Nat := 0x400000000000000000000000000000000000000000000000000000000000000000000000000000000000000000000000000000000000000000000000400000004100040
theorem execReplayTimeout_off (s) (a0') (a1') : OutOff F.execReplayTimeout s (execReplayTimeout a0' a1' s) :=
  have hm := Nat.and_self F.execReplayTimeout; .next (have h := Off.refl; (State.replayTimeout_off (sb hm (by decide)) h ..))
def F.execRingLaneLockLoss : Nat := 0x2000e000000000000000000000000000000000000400000004000000
theorem execRingLaneLockLoss_off (s) (a0') (a1') : OutOff F.execRingLaneLockLoss s (execRingLaneLockLoss a0' a1' s) :=
  have hm := Nat.and_self F.execRingLaneLockLoss; .next (have h := Off.refl; (State.lockLoss_off (sb hm (by decide)) h ..))
def F.execRingResetGo : Nat := 0x1800000000000000000000000000000000000000000000000000000000000000000000000000000000000000000000000402000004000200
theorem execRingResetGo_off (s) (a0') (a1') : OutOff F.execRingResetGo s (execRingResetGo a0' a1' s) :=
  have hm := Nat.and_self F.execRingResetGo; .next (have h := Off.refl; (State.byHost_off (sb hm (by decide)) h (fun _ h0 => (State.ringResetGo_off (sb hm (by decide)) (State.wr_off (State.wr_off h0 (has_RING_CTL_RST_ALL (tb hm (by decide))) ..) (has_RING_CTL_RST_DEV (tb hm (by decide))) ..) ..)) ..))
def F.execRingRestore : Nat := 0x3000000200000000000000000000000000401000004000800
theorem execRingRestore_off (s) (a0') : OutOff F.execRingRestore s (execRingRestore a0' s) :=
  have hm := Nat.and_self F.execRingRestore; .next (have h := Off.refl; (State.ringRestore_off (sb hm (by decide)) h ..))
def F.execRingTrainingDone : Nat := 0x60000000000000000000000000000000000000000000000000000000000000000000000000000000000000000000000000000000000000020002000e000000000000000000000000000000000000001000004000800
theorem execRingTrainingDone_off (s) (a0') (a1') (a2') : OutOff F.execRingTrainingDone s (execRingTrainingDone a0' a1' a2' s) :=
  have hm := Nat.and_self F.execRingTrainingDone; .next (have h := Off.refl; (State.trained_off (sb hm (by decide)) h ..))
def F.execRouteCommandFrame : Nat := 0x3000000200000000000000000000000000001000004000800
theorem execRouteCommandFrame_off (s) (a0') : OutOff F.execRouteCommandFrame s (execRouteCommandFrame a0' s) :=
  have hm := Nat.and_self F.execRouteCommandFrame; .next (have h := Off.refl; (State.routeCommand_off (sb hm (by decide)) h ..))
def F.execSingleTimeout : Nat := 0x1000000000000000000000000000000000000000000000000000000000000000000000000000000000000000000000000000200000000000000000000000000000000000100040
theorem execSingleTimeout_off (s) : OutOff F.execSingleTimeout s (execSingleTimeout s) :=
  have hm := Nat.and_self F.execSingleTimeout; .next (have h := Off.refl; (State.singleTimeout_off (sb hm (by decide)) h ..))
def F.execSplit : Nat := 0x40000000000d00000000000000000000000000000000000000000000000000000000000000000000000000000000019000180002000020000000001200000000007ff000007041800
theorem execSplit_off (s) (a0') : OutOff F.execSplit s (execSplit a0' s) :=
  have hm := Nat.and_self F.execSplit; .next (have h := Off.refl; (State.split_off (sb hm (by decide)) h ..))
def F.execStatusFrame : Nat := 0xd0000000000000000000000000000000000000000000000000000000000000000000000000000000000000000000000000000000000000000000000000000004000000
theorem execStatusFrame_off (s) (a0') (a1') (a2') (a3') (a4') : OutOff F.execStatusFrame s (execStatusFrame a0' a1' a2' a3' a4' s) :=
  have hm := Nat.and_self F.execStatusFrame; .next (have h := Off.refl; (State.statusFrame_off (sb hm (by decide)) h ..))
def F.execStatusFrameSend : Nat := 0x400000004100040
theorem execStatusFrameSend_off (s) : OutOff F.execStatusFrameSend s (execStatusFrameSend s) :=
  have hm := Nat.and_self F.execStatusFrameSend; .next (have h := Off.refl; (State.statusSend_off (sb hm (by decide)) h ..))
def F.execTunnelWriteReleased : Nat := 0x400000004000000
theorem execTunnelWriteReleased_off (s) (a0') : OutOff F.execTunnelWriteReleased s (execTunnelWriteReleased a0' s) :=
  have hm := Nat.and_self F.execTunnelWriteReleased; .next (have h := Off.refl; (State.tunnelRelease_off (sb hm (by decide)) h ..))
def F.execBdacStep : Nat := 0x800000000000000000000000000000000000200100040
theorem execBdacStep_off (s) : OutOff F.execBdacStep s (execBdacStep s) :=
  have hm := Nat.and_self F.execBdacStep; .next (have h := Off.refl; (State.bdacStep_off (sb hm (by decide)) h ..))
def F.execHkConversionEnd : Nat := 0x380007f80003800000700030800000000000000000000000000000000000000000000000000000000000010000000000000000000000000000d019000041f1003ef3ffffffffffffffffff00007dfff843
theorem execHkConversionEnd_off (s) (a0') (a1') : OutOff F.execHkConversionEnd s (execHkConversionEnd a0' a1' s) :=
  have hm := Nat.and_self F.execHkConversionEnd; .next (have h := Off.refl; (State.hkConvEnd_off (sb hm (by decide)) h ..))
def F.execHkFault : Nat := 0x100000000000000000000000000000000000000000000000000000000000000000000000000000000000000000000000000000000000000000000000000000000003000000000800
theorem execHkFault_off (s) (a0') (a1') : OutOff F.execHkFault s (execHkFault a0' a1' s) :=
  have hm := Nat.and_self F.execHkFault; .next (have h := Off.refl; (State.hkFault_off (sb hm (by decide)) h ..))
def F.execHkGo : Nat := 0x202000000000000000000000000000000000000000001000008000200
theorem execHkGo_off (s) : OutOff F.execHkGo s (execHkGo s) :=
  have hm := Nat.and_self F.execHkGo; .next (have h := Off.refl; (State.byHost_off (sb hm (by decide)) h (fun _ h0 => (State.hkTrigger_off (sb hm (by decide)) h0 ..)) ..))
def F.execHkPwmTrigger : Nat := 0x202000000000000000000000000000000000000000001000008000000
theorem execHkPwmTrigger_off (s) : OutOff F.execHkPwmTrigger s (execHkPwmTrigger s) :=
  have hm := Nat.and_self F.execHkPwmTrigger; .next (have h := Off.refl; (State.hkPwm_off (sb hm (by decide)) h ..))
def F.execHkScanStart : Nat := 0x1800000000000000000000000600000800000000000000000000000000000000000000000000000000000000000000000000000000000000002000000000000000000000000000000000000000001000008100040
theorem execHkScanStart_off (s) : OutOff F.execHkScanStart s (execHkScanStart s) :=
  have hm := Nat.and_self F.execHkScanStart; .next (have h := Off.refl; (State.scanStart_off (sb hm (by decide)) h ..))
def F.execHkTimerTrigger : Nat := 0x202000000000000000000000000000000000000000001000208100040
theorem execHkTimerTrigger_off (s) : OutOff F.execHkTimerTrigger s (execHkTimerTrigger s) :=
  have hm := Nat.and_self F.execHkTimerTrigger; .next (have h := Off.refl; (State.hkTimer_off (sb hm (by decide)) h ..))
def F.execMaxClr : Nat := 0x10000000000000000000000000000000000000000000000000000000000000000000000000200
theorem execMaxClr_off (s) : OutOff F.execMaxClr s (execMaxClr s) :=
  have hm := Nat.and_self F.execMaxClr; .next (have h := Off.refl; (State.byHost_off (sb hm (by decide)) h (fun _ h0 => (State.writeThmCtl_off (sb hm (by decide)) h0 ..)) ..))
def F.execPwmDutyEdge : Nat := 0x20100040
theorem execPwmDutyEdge_off (s) (a0') : OutOff F.execPwmDutyEdge s (execPwmDutyEdge a0' s) :=
  have hm := Nat.and_self F.execPwmDutyEdge; .next (have h := Off.refl; (State.pwmEdge_off (sb hm (by decide)) h ..))
def F.execPwmMismatch : Nat := 0x10000000000000000000000000000000000000000000000000000000000000000000000000000000000000000000000000000000000000000000000000000000000000000000000000000000000003000020000800
theorem execPwmMismatch_off (s) (a0') (a1') : OutOff F.execPwmMismatch s (execPwmMismatch a0' a1' s) :=
  have hm := Nat.and_self F.execPwmMismatch; .next (have h := Off.refl; (State.pwmFault_off (sb hm (by decide)) h ..))
def F.execPwmPeriodStart : Nat := 0x100000000000000000000000000000000000020100040
theorem execPwmPeriodStart_off (s) (a0') : OutOff F.execPwmPeriodStart s (execPwmPeriodStart a0' s) :=
  have hm := Nat.and_self F.execPwmPeriodStart; .next (have h := Off.refl; (State.pwmStart_off (sb hm (by decide)) h ..))
def F.execSlowRoundRequest : Nat := 0x800000000000000000000000000000000000000000000000000000000000000000000000000000000000000000000000000000000000000000000000000000000208100040
theorem execSlowRoundRequest_off (s) : OutOff F.execSlowRoundRequest s (execSlowRoundRequest s) :=
  have hm := Nat.and_self F.execSlowRoundRequest; .next (have h := Off.refl; (State.slowRequest_off (sb hm (by decide)) h ..))
def F.execThermalRestart : Nat := 0x100000000000000000000000000000000000000000000000000000000000000000000000000000000000000000000008001e05b100000c000000c00280000801000010472802
theorem execThermalRestart_off (s) : OutOff F.execThermalRestart s (execThermalRestart s) :=
  have hm := Nat.and_self F.execThermalRestart; .next (have h := Off.refl; (State.thermalRestart_off (sb hm (by decide)) h ..))
def F.execAlertResponse : Nat := 0x4000000000180000000000000000000000000000000000000000000000000000000000000000000000000000000000000000000000000000000000000000000000008000001000040000000
theorem execAlertResponse_off (s) (a0') : OutOff F.execAlertResponse s (execAlertResponse a0' s) :=
  have hm := Nat.and_self F.execAlertResponse; .next (have h := Off.refl; (State.alertRead_off (sb hm (by decide)) h ..))
def F.execHostAlert : Nat := 0x8000000000040000200
theorem execHostAlert_off (s) : OutOff F.execHostAlert s (execHostAlert s) :=
  have hm := Nat.and_self F.execHostAlert; .next (have h := Off.refl; (State.byHost_off (sb hm (by decide)) h (fun _ h0 => (State.alert_off (sb hm (by decide)) h0 ..)) ..))
def F.execMailboxInAck : Nat := 0x1000000000000000000000000000000000000000000000000000000000000000000200
theorem execMailboxInAck_off (s) : OutOff F.execMailboxInAck s (execMailboxInAck s) :=
  have hm := Nat.and_self F.execMailboxInAck; .next (have h := Off.refl; (State.byHost_off (sb hm (by decide)) h (fun _ h0 => (State.inAck_off (sb hm (by decide)) h0 ..)) ..))
def F.execMailboxOutGo : Nat := 0x2000000000000000000000000000000000000000000000000008000002000040000200
theorem execMailboxOutGo_off (s) : OutOff F.execMailboxOutGo s (execMailboxOutGo s) :=
  have hm := Nat.and_self F.execMailboxOutGo; .next (have h := Off.refl; (State.byHost_off (sb hm (by decide)) h (fun _ h0 => (State.outGo_off (sb hm (by decide)) h0 ..)) ..))
def F.execTwtAddress : Nat := 0x4000000000180000800000000000000000000000000000000000000000000000000000000000000000000000000000000000000000000000000000000000000000000000000000040000000
theorem execTwtAddress_off (s) (a0') (a1') : OutOff F.execTwtAddress s (execTwtAddress a0' a1' s) :=
  have hm := Nat.and_self F.execTwtAddress; .next (have h := Off.refl; (State.twtAddress_off (sb hm (by decide)) h ..))
def F.execTwtIdleSleep : Nat := 0x100000000000000000000000000000000000000000000000000000000000000000000000000000000000000000000000000000000000000000000000000000000000000100040
theorem execTwtIdleSleep_off (s) : OutOff F.execTwtIdleSleep s (execTwtIdleSleep s) :=
  have hm := Nat.and_self F.execTwtIdleSleep; .next (have h := Off.refl; (State.twtSleep_off (sb hm (by decide)) h ..))
def F.execTwtReadByte : Nat := 0x20000000000800000000000000000000000000000000000000000000000000000000000000002000000000000000000000000000000000000000000000000000000003000040000800
theorem execTwtReadByte_off (s) (a0') (a1') : OutOff F.execTwtReadByte s (execTwtReadByte a0' a1' s) :=
  have hm := Nat.and_self F.execTwtReadByte; .next (have h := Off.refl; (State.twtRead_off (sb hm (by decide)) h ..))
def F.execTwtRepeatedStartAtAck : Nat := 0x100000000000000000000000000000000000000000000000000000000000000000000000000000000000000000000000000000000000000000000000000000000000000000000000000000000000000000000000000001000040000000
theorem execTwtRepeatedStartAtAck_off (s) : OutOff F.execTwtRepeatedStartAtAck s (execTwtRepeatedStartAtAck s) :=
  have hm := Nat.and_self F.execTwtRepeatedStartAtAck; .next (have h := Off.refl; (State.twtRestart_off (sb hm (by decide)) h ..))
def F.execTwtSclStuck : Nat := 0x200000000000000000000000000000000000000000000000000800000000000000000000000000000000000000000000000000000000000000000000000000000000000000000000000000000000000000000000000003000040000800
theorem execTwtSclStuck_off (s) : OutOff F.execTwtSclStuck s (execTwtSclStuck s) :=
  have hm := Nat.and_self F.execTwtSclStuck; .next (have h := Off.refl; (State.twtStuck_off (sb hm (by decide)) h ..))
def F.execTwtWriteByte : Nat := 0xc0000000000000000000000000000000000000020000080000800000000000000000000000000000000000000000000000000000000000000001000000000000000000000000000000000000000000000000000000001000040000000
theorem execTwtWriteByte_off (s) (a0') (a1') : OutOff F.execTwtWriteByte s (execTwtWriteByte a0' a1' s) :=
  have hm := Nat.and_self F.execTwtWriteByte; .next (have h := Off.refl; (State.twtWrite_off (sb hm (by decide)) h ..))
def F.execBusClearDone : Nat := 0x18000000000000000000000000000000000000000000000000000000000000000000000000000000000000000000000000000000000000000000000000000000000000000000000000000ffc100000000000000000003000080000800
theorem execBusClearDone_off (s) (a0') (a1') : OutOff F.execBusClearDone s (execBusClearDone a0' a1' s) :=
  have hm := Nat.and_self F.execBusClearDone; .next (have h := Off.refl; (State.clearDone_off (sb hm (by decide)) h ..))
def F.execPollDue : Nat := 0x4000000000000000000000000000000000000000000000000000000000000000000000000000000000000000000000000000000000000000000000000000000000000000000000000000ffc100000000000000000003000280100840
theorem execPollDue_off (s) (a0') (a1') : OutOff F.execPollDue s (execPollDue a0' a1' s) :=
  have hm := Nat.and_self F.execPollDue; .next (have h := Off.refl; (State.pollDue_off (sb hm (by decide)) h ..))
def F.execRegulatorRetry : Nat := 0xffc100000000000000000003000080100840
theorem execRegulatorRetry_off (s) (a0') : OutOff F.execRegulatorRetry s (execRegulatorRetry a0' s) :=
  have hm := Nat.and_self F.execRegulatorRetry; .next (have h := Off.refl; (State.regRetry_off (sb hm (by decide)) h ..))
def F.execTwcAbort : Nat := 0x803080000000000000000000ffc100000000000000000003000080000a00
theorem execTwcAbort_off (s) (a0') : OutOff F.execTwcAbort s (execTwcAbort a0' s) :=
  have hm := Nat.and_self F.execTwcAbort; .next (have h := Off.refl; (State.byHost_off (sb hm (by decide)) h (fun _ h0 => (State.twAbort_off (sb hm (by decide)) h0 ..)) ..))
def F.execTwcClear : Nat := 0xffc100000000000000000003000080000a00
theorem execTwcClear_off (s) (a0') : OutOff F.execTwcClear s (execTwcClear a0' s) :=
  have hm := Nat.and_self F.execTwcClear; .next (have h := Off.refl; (State.byHost_off (sb hm (by decide)) h (fun _ h0 => (State.twClear_off (sb hm (by decide)) h0 ..)) ..))
def F.execTwcCommandGo : Nat := 0x1e0000000000000000000000000000000000000000000000000000000000000ffc100000000000000000003000080000a00
theorem execTwcCommandGo_off (s) (a0') (a1') : OutOff F.execTwcCommandGo s (execTwcCommandGo a0' a1' s) :=
  have hm := Nat.and_self F.execTwcCommandGo; .next (have h := Off.refl; (State.byHost_off (sb hm (by decide)) h (fun _ h0 => (State.writeTwcCmd_off (sb hm (by decide)) h0 ..)) ..))
def F.execTwcTransactionDone : Nat := 0x803080000000000000000000ffc100000000000000000003000080000800
theorem execTwcTransactionDone_off (s) (a0') (a1') (a2') (a3') : OutOff F.execTwcTransactionDone s (execTwcTransactionDone a0' a1' a2' a3' s) :=
  have hm := Nat.and_self F.execTwcTransactionDone; .next (have h := Off.refl; (State.twDone_off (sb hm (by decide)) h ..))
def F.execBackgroundCopyCheck : Nat := 0x21c70000000000000000000000000000000000000000000000000000000000000000000000000000000000000000000000000000000000000000000000003ff000001001c00
theorem execBackgroundCopyCheck_off (s) (a0') (a1') : OutOff F.execBackgroundCopyCheck s (execBackgroundCopyCheck a0' a1' s) :=
  have hm := Nat.and_self F.execBackgroundCopyCheck; .next (have h := Off.refl; (State.backgroundCheck_off (sb hm (by decide)) h ..))
def F.execImageCopyChecked : Nat := 0x20000000000000000000000380000000000021c70000020000000000000000000000000000000000000000000000000000000000000000000000000000000000000130000000000000000000000000003ff000001001c00
theorem execImageCopyChecked_off (s) (a0') (a1') : OutOff F.execImageCopyChecked s (execImageCopyChecked a0' a1' s) :=
  have hm := Nat.and_self F.execImageCopyChecked; .next (have h := Off.refl; (State.copyChecked_off (sb hm (by decide)) h ..))
def F.execLoadLimitExpiry : Nat := 0x4000000000002000000000000000000000000000000000000000000000000000000000000000000000000000000000000013000000000000000000000000000003000001100c40
theorem execLoadLimitExpiry_off (s) : OutOff F.execLoadLimitExpiry s (execLoadLimitExpiry s) :=
  have hm := Nat.and_self F.execLoadLimitExpiry; .next (have h := Off.refl; (State.loadLimit_off (sb hm (by decide)) h ..))
def F.execRehearsalEntry : Nat := 0x1000000000000000000000000000000002000000000000000000000000000000000000000000000000000000000000000000000000000000000000000000041000000000000c00288000bff000041033a00
theorem execRehearsalEntry_off (s) : OutOff F.execRehearsalEntry s (execRehearsalEntry s) :=
  have hm := Nat.and_self F.execRehearsalEntry; .next (have h := Off.refl; (State.rehearse_off (sb hm (by decide)) h ..))
def F.execResetRelease : Nat := 0xa000000000000000000000000000000000000000000000000000000000000000000000000000000000000000004041000000000000c002ffffffff00025513bc40
theorem execResetRelease_off (s) : OutOff F.execResetRelease s (execResetRelease s) :=
  have hm := Nat.and_self F.execResetRelease; .next (have h := Off.refl; (State.resetRelease_off (sb hm (by decide)) h ..))
def F.execSmemDiscoveryDone : Nat := 0x3d0000000000000000000000000000000000021c70000020000000000000000000000000000000000000000000000000000000000000000000000000000000000000130000000000000000000000000003ff000001001c00
theorem execSmemDiscoveryDone_off (s) (a0') (a1') (a2') (a3') : OutOff F.execSmemDiscoveryDone s (execSmemDiscoveryDone a0' a1' a2' a3' s) :=
  have hm := Nat.and_self F.execSmemDiscoveryDone; .next (have h := Off.refl; (State.discoveryDone_off (sb hm (by decide)) h ..))
def F.execStartupCalibration : Nat := 0x1e01b000000005de003f82800008020000000b2400
theorem execStartupCalibration_off (s) : OutOff F.execStartupCalibration s (execStartupCalibration s) :=
  have hm := Nat.and_self F.execStartupCalibration; .next (have h := Off.refl; (State.startCal_off (sb hm (by decide)) h ..))
def F.execStartupPhase0Done : Nat := 0x22001c00000000000100000000000000000000000000040000200002000000000000000000000000000000000000000000000000000000000000000000000000000000000000000004041000000000000c07fffffffff00004513b900
theorem execStartupPhase0Done_off (s) (a0') (a1') (a2') (a3') (a4') (a5') : OutOff F.execStartupPhase0Done s (execStartupPhase0Done a0' a1' a2' a3' a4' a5' s) :=
  have hm := Nat.and_self F.execStartupPhase0Done; .next (have h := Off.refl; (State.phase0Done_off (sb hm (by decide)) h ..))
def F.execImageCalibrate : Nat := 0x1000000000000000000000000000000000000000000000000000000000000000000000000000000000000000001e01b000000005de003f82800008020000000b2400
theorem execImageCalibrate_off (s) : OutOff F.execImageCalibrate s (execImageCalibrate s) :=
  have hm := Nat.and_self F.execImageCalibrate; .next (have h := Off.refl; (State.imgCalibrate_off (sb hm (by decide)) h ..))
def F.execImageDelay : Nat := 0x100000000000000000000000000000000000000000000000000000000000000000000000000000000000000000000000000000000000000000000000000000000400
theorem execImageDelay_off (s) (a0') : OutOff F.execImageDelay s (execImageDelay a0' s) :=
  have hm := Nat.and_self F.execImageDelay; .next (have h := Off.refl; (State.imgDelay_off (sb hm (by decide)) h ..))
def F.execImageDelayEnd : Nat := 0x100440
theorem execImageDelayEnd_off (s) : OutOff F.execImageDelayEnd s (execImageDelayEnd s) :=
  have hm := Nat.and_self F.execImageDelayEnd; .next (have h := Off.refl; (State.imgDelayEnd_off (sb hm (by decide)) h ..))
def F.execImageEnd : Nat := 0x102000000000000000000000000000000000000000000000000000000000000000000000000000000000000013000000000000000000000000000002000001000400
theorem execImageEnd_off (s) : OutOff F.execImageEnd s (execImageEnd s) :=
  have hm := Nat.and_self F.execImageEnd; .next (have h := Off.refl; (State.imgEnd_off (sb hm (by decide)) h ..))
def F.execImageNop : Nat := 0x100000000000000000000000000000000000000000000000000000000000000000000000000000000000000000000000000000000000000000000000000000000400
theorem execImageNop_off (s) : OutOff F.execImageNop s (execImageNop s) :=
  have hm := Nat.and_self F.execImageNop; .next (have h := Off.refl; (State.imgNop_off (sb hm (by decide)) h ..))
def F.execImageSkip : Nat := 0x1000040000000000000000000000000000000000000000000000000000000000000000000000000000000000000000000000000000000000000003ff000003001c00
theorem execImageSkip_off (s) (a0') (a1') (a2') (a3') (a4') : OutOff F.execImageSkip s (execImageSkip a0' a1' a2' a3' a4' s) :=
  have hm := Nat.and_self F.execImageSkip; .next (have h := Off.refl; (State.imgSkip_off (sb hm (by decide)) h ..))
def F.execImageWait : Nat := 0x1000040000000000000000000000000000000000000000000000000000000000000000000000000000000000000000000000000000000000000003ff000003101c40
theorem execImageWait_off (s) (a0') (a1') (a2') (a3') (a4') : OutOff F.execImageWait s (execImageWait a0' a1' a2' a3' a4' s) :=
  have hm := Nat.and_self F.execImageWait; .next (have h := Off.refl; (State.imgWait_off (sb hm (by decide)) h ..))
def F.execImageWaitTimeout : Nat := 0x4000000000002000000000000000000000000000000000000000000000000000000000000000000000000000000000000013000000000000000000000000000003000001100c40
theorem execImageWaitTimeout_off (s) : OutOff F.execImageWaitTimeout s (execImageWaitTimeout s) :=
  have hm := Nat.and_self F.execImageWaitTimeout; .next (have h := Off.refl; (State.imgTimeout_off (sb hm (by decide)) h ..))
def F.execOtpProgram : Nat := 0x1800000000000000000000000000000000000000000000000000000000000002000000000600
theorem execOtpProgram_off (s) (a0') : OutOff F.execOtpProgram s (execOtpProgram a0' s) :=
  have hm := Nat.and_self F.execOtpProgram; .next (have h := Off.refl; (State.byHost_off (sb hm (by decide)) h (fun _ h0 => (State.writeSecProg_off (sb hm (by decide)) h0 ..)) ..))
def F.execOtpProgramDone : Nat := 0x3800000000000000000000000000000000000000000000000000000000000000000000000000000000200000000000000018000000000000000000000000000000000000000000000000000000000003ff000001001c00
theorem execOtpProgramDone_off (s) (a0') : OutOff F.execOtpProgramDone s (execOtpProgramDone a0' s) :=
  have hm := Nat.and_self F.execOtpProgramDone; .next (have h := Off.refl; (State.progDone_off (sb hm (by decide)) h ..))
def F.execSmemCommandDone : Nat := 0x800000000000000000000000000000000000000000000000000000000000000000000000000000000000000000000000002000000380000000000000000000000000000000000000000000000000000003000100000800
theorem execSmemCommandDone_off (s) (a0') (a1') : OutOff F.execSmemCommandDone s (execSmemCommandDone a0' a1' s) :=
  have hm := Nat.and_self F.execSmemCommandDone; .next (have h := Off.refl; (State.smemDone_off (sb hm (by decide)) h ..))
def F.execSmemCommandGo : Nat := 0x7f000000000000000020000003800000000000000000000000000000000000000000000000000003ff000101001a00
theorem execSmemCommandGo_off (s) (a0') : OutOff F.execSmemCommandGo s (execSmemCommandGo a0' s) :=
  have hm := Nat.and_self F.execSmemCommandGo; .next (have h := Off.refl; (State.byHost_off (sb hm (by decide)) h (fun _ h0 => (State.writeSmemCmd_off (sb hm (by decide)) h0 ..)) ..))
def F.execPageErrClear : Nat := 0x2000000000200
theorem execPageErrClear_off (s) (a0') : OutOff F.execPageErrClear s (execPageErrClear a0' s) :=
  have hm := Nat.and_self F.execPageErrClear; .next (have h := Off.refl; (State.byHost_off (sb hm (by decide)) h (fun _ h0 => (State.pageErrClear_off (sb hm (by decide)) h0 ..)) ..))
def F.execPageIntClear : Nat := 0x1000000000200
theorem execPageIntClear_off (s) (a0') : OutOff F.execPageIntClear s (execPageIntClear a0' s) :=
  have hm := Nat.and_self F.execPageIntClear; .next (have h := Off.refl; (State.byHost_off (sb hm (by decide)) h (fun _ h0 => (State.pageIntClear_off (sb hm (by decide)) h0 ..)) ..))
def F.execStandingSignalFall : Nat := 0x20800
theorem execStandingSignalFall_off (s) (a0') (a1') : OutOff F.execStandingSignalFall s (execStandingSignalFall a0' a1' s) :=
  have hm := Nat.and_self F.execStandingSignalFall; .next (have h := Off.refl; (State.standFall_off (sb hm (by decide)) h ..))
def F.execGpioEdge : Nat := 0x300000000000000000000000000000000000000000000000000000000000000000000000000000000000000000000000000000000000000000000000000000000000000000000000000000000000000000000000000000000100
theorem execGpioEdge_off (s) (a0') (a1') : OutOff F.execGpioEdge s (execGpioEdge a0' a1' s) :=
  have hm := Nat.and_self F.execGpioEdge; .next (have h := Off.refl; (State.gpioEdge_off (sb hm (by decide)) h ..))
def F.execSupplyAlarmClear : Nat := 0x6000000000000000000000000000000000000000000000000000000000000000000000000000000000000000000000000000000000000000000000000000000000000003ff000001001800
theorem execSupplyAlarmClear_off (s) : OutOff F.execSupplyAlarmClear s (execSupplyAlarmClear s) :=
  have hm := Nat.and_self F.execSupplyAlarmClear; .next (have h := Off.refl; (State.supplyClear_off (sb hm (by decide)) h ..))
def F.execSupplyOverAlarm : Nat := 0x2000000000000000000000000000000300000000000000000000000000000000000000000000000000000000000000000000000000000000000000000000000000000000000000000000000000000000000000003000000000800
theorem execSupplyOverAlarm_off (s) (a0') : OutOff F.execSupplyOverAlarm s (execSupplyOverAlarm a0' s) :=
  have hm := Nat.and_self F.execSupplyOverAlarm; .next (have h := Off.refl; (State.supplyOver_off (sb hm (by decide)) h ..))
def F.execSupplyUnderAlarm : Nat := 0x40000000000000000000000000000005040000000000000000000000000000000000000000000000000000000000000000000000000000000000000000000000000000000000000000000000000000000000003ff000001001800
theorem execSupplyUnderAlarm_off (s) (a0') : OutOff F.execSupplyUnderAlarm s (execSupplyUnderAlarm a0' s) :=
  have hm := Nat.and_self F.execSupplyUnderAlarm; .next (have h := Off.refl; (State.supplyUnder_off (sb hm (by decide)) h ..))

end Sys2Proof.Machine
end

