-- ==== Sys2Proof/Laws/Frame.lean ====
section
/-! SUPPORT. From the mask of a command to its frame in the terms of Safety.lean. -/
namespace Sys2Proof.Machine
open Sys2Proof

/-- The number of a piece of the state in a mask. -/
def partNo : Part → Nat
  | .now => 6
  | .free => 7
  | .pins => 8
  | .sys => 9
  | .boot => 10
  | .fc => 11
  | .pb => 12
  | .cur => 13
  | .prot => 14
  | .lanes => 15
  | .conv => 16
  | .rfc => 17
  | .cnx => 18
  | .spt => 19
  | .time => 20
  | .tdd => 21
  | .cte => 22
  | .fab => 23
  | .stm => 24
  | .hif => 25
  | .ring => 26
  | .hk => 27
  | .thm => 28
  | .pwm => 29
  | .twt => 30
  | .twc => 31
  | .smem => 32
  | .marks => 33

/-- The mask with the numbers of a list. -/
def maskWith (l : List Nat) : Nat := l.foldr (fun b a => a ||| 2 ^ b) 0

theorem mem_of_maskWith {l : List Nat} {n : Nat} (h : (maskWith l).testBit n = true) : n ∈ l := by
  induction l with
  | nil => simp [maskWith] at h
  | cons b l ih =>
    simp only [maskWith, List.foldr_cons, Nat.testBit_or, Bool.or_eq_true, Nat.testBit_two_pow, decide_eq_true_eq] at h
    rcases h with h | h
    · exact List.mem_cons_of_mem _ (ih h)
    · rw [h]; exact List.mem_cons_self

theorem partNo_range (p : Part) : 6 ≤ partNo p ∧ partNo p ≤ 33 := by cases p <;> decide
theorem regionNo_lt (r : Region) : r.no < 6 := by cases r <;> decide
theorem partNo_inj {p q : Part} (h : partNo p = partNo q) : p = q := by
  revert h; cases p <;> cases q <;> first | exact fun _ => rfl | exact fun h => absurd h (by decide)
theorem regionNo_inj {p q : Region} (h : p.no = q.no) : p = q := by
  revert h; cases p <;> cases q <;> first | exact fun _ => rfl | exact fun h => absurd h (by decide)

theorem fldNo_low {n : Nat} (h : n < 48) (i : Nat) : (fldNo n).has i = false := by
  have e : fldNo n = noFld := by
    have : n / 16 = 0 ∨ n / 16 = 1 ∨ n / 16 = 2 := by omega
    rcases this with h | h | h <;> simp only [fldNo, h]
  rw [e]; simp [Fld.has, noFld]

theorem Off.part {m : Nat} {a s : State} (h : Off m a s) (p : Part) (hb : m.testBit (partNo p) = false) : p.same a s := by
  cases p
  case now =>
    rcases h.now with e | e
    · exact e
    · exact absurd (hb.symm.trans e) (by decide)
  case free =>
    rcases h.free with e | e
    · exact e
    · exact absurd (hb.symm.trans e) (by decide)
  case pins =>
    rcases h.pins with e | e
    · exact e
    · exact absurd (hb.symm.trans e) (by decide)
  case sys =>
    rcases h.sys with e | e
    · exact e
    · exact absurd (hb.symm.trans e) (by decide)
  case boot =>
    rcases h.boot with e | e
    · exact e
    · exact absurd (hb.symm.trans e) (by decide)
  case fc =>
    rcases h.fc with e | e
    · exact e
    · exact absurd (hb.symm.trans e) (by decide)
  case pb =>
    rcases h.pb with e | e
    · exact e
    · exact absurd (hb.symm.trans e) (by decide)
  case cur =>
    rcases h.cur with e | e
    · exact e
    · exact absurd (hb.symm.trans e) (by decide)
  case prot =>
    rcases h.prot with e | e
    · exact e
    · exact absurd (hb.symm.trans e) (by decide)
  case lanes =>
    rcases h.lanes with e | e
    · exact e
    · exact absurd (hb.symm.trans e) (by decide)
  case conv =>
    rcases h.conv with e | e
    · exact e
    · exact absurd (hb.symm.trans e) (by decide)
  case rfc =>
    rcases h.rfc with e | e
    · exact e
    · exact absurd (hb.symm.trans e) (by decide)
  case cnx =>
    rcases h.cnx with e | e
    · exact e
    · exact absurd (hb.symm.trans e) (by decide)
  case spt =>
    rcases h.spt with e | e
    · exact e
    · exact absurd (hb.symm.trans e) (by decide)
  case time =>
    rcases h.time with e | e
    · exact e
    · exact absurd (hb.symm.trans e) (by decide)
  case tdd =>
    rcases h.tdd with e | e
    · exact e
    · exact absurd (hb.symm.trans e) (by decide)
  case cte =>
    rcases h.cte with e | e
    · exact e
    · exact absurd (hb.symm.trans e) (by decide)
  case fab =>
    rcases h.fab with e | e
    · exact e
    · exact absurd (hb.symm.trans e) (by decide)
  case stm =>
    rcases h.stm with e | e
    · exact e
    · exact absurd (hb.symm.trans e) (by decide)
  case hif =>
    rcases h.hif with e | e
    · exact e
    · exact absurd (hb.symm.trans e) (by decide)
  case ring =>
    rcases h.ring with e | e
    · exact e
    · exact absurd (hb.symm.trans e) (by decide)
  case hk =>
    rcases h.hk with e | e
    · exact e
    · exact absurd (hb.symm.trans e) (by decide)
  case thm =>
    rcases h.thm with e | e
    · exact e
    · exact absurd (hb.symm.trans e) (by decide)
  case pwm =>
    rcases h.pwm with e | e
    · exact e
    · exact absurd (hb.symm.trans e) (by decide)
  case twt =>
    rcases h.twt with e | e
    · exact e
    · exact absurd (hb.symm.trans e) (by decide)
  case twc =>
    rcases h.twc with e | e
    · exact e
    · exact absurd (hb.symm.trans e) (by decide)
  case smem =>
    rcases h.smem with e | e
    · exact e
    · exact absurd (hb.symm.trans e) (by decide)
  case marks =>
    rcases h.marks with e | e
    · exact e
    · exact absurd (hb.symm.trans e) (by decide)

/-- What lies outside a mask lies outside the memories, pieces and fields whose numbers make it up. -/
theorem Off.confined {m : Nat} {a s : State} (h : Off m a s) {rs : List Region} {ps : List Part} {l : List Nat} {fs : List Fld}
    (hm : maskWith (rs.map Region.no ++ (ps.map partNo ++ l)) = m) (hl : l.all (fun n => decide (48 ≤ n)) = true)
    (hf : l.map fldNo = fs) : Confined rs ps fs a s := by
  subst hm hf
  have hl' : ∀ n ∈ l, 48 ≤ n := fun n hn => by simpa using List.all_eq_true.1 hl n hn
  have out : ∀ n, (maskWith (rs.map Region.no ++ (ps.map partNo ++ l))).testBit n = true →
      (∃ r ∈ rs, r.no = n) ∨ (∃ p ∈ ps, partNo p = n) ∨ n ∈ l := fun n hn => by
    have := mem_of_maskWith hn
    simpa [List.mem_append, List.mem_map] using this
  have off : ∀ {n}, (¬ (maskWith (rs.map Region.no ++ (ps.map partNo ++ l))).testBit n = true) →
      (maskWith (rs.map Region.no ++ (ps.map partNo ++ l))).testBit n = false := fun h => by simpa using h
  refine ⟨?_, fun p hp => h.part p (off fun hb => ?_), fun x hx => h.mem x fun r hr => ?_, fun g j hg => ?_⟩
  · rcases h.pending with e | e
    · exact e
    · rcases out _ e with ⟨r, _, hr⟩ | ⟨p, _, hp⟩ | hn
      · have := regionNo_lt r; omega
      · have := partNo_range p; omega
      · have := hl' _ hn; omega
  · rcases out _ hb with ⟨r, _, hr⟩ | ⟨q, hq, e⟩ | hn
    · have := regionNo_lt r; have := partNo_range p; omega
    · exact hp (partNo_inj e ▸ hq)
    · have := hl' _ hn; have := partNo_range p; omega
  · rcases out _ hr with ⟨q, hq, e⟩ | ⟨p, _, hp⟩ | hn
    · exact hx r (regionNo_inj e ▸ hq)
    · have := regionNo_lt r; have := partNo_range p; omega
    · have := hl' _ hn; have := regionNo_lt r; omega
  · unfold State.rd
    rw [h.regs]
    intro f ⟨n, hn, e⟩ i hi
    subst e
    rcases Nat.lt_or_ge n 48 with hlt | hge
    · rw [fldNo_low hlt] at hi; exact Bool.noConfusion hi
    · rcases out _ hn with ⟨r, _, hr⟩ | ⟨p, _, hp⟩ | hn
      · have := regionNo_lt r; omega
      · have := partNo_range p; omega
      · exact hg _ (List.mem_map_of_mem hn) i hi

theorem OutOff.onlyChanges {m : Nat} {c : Instr} (h : ∀ s, OutOff m s (exec c s)) {rs : List Region} {ps : List Part}
    {l : List Nat} {fs : List Fld} (hm : maskWith (rs.map Region.no ++ (ps.map partNo ++ l)) = m)
    (hl : l.all (fun n => decide (48 ≤ n)) = true) (hf : l.map fldNo = fs) : OnlyChanges c rs ps fs :=
  fun s t e => ((h s).of t e).confined hm hl hf

end Sys2Proof.Machine
end

