-- ==== Sys2Proof/Laws/KeepBase.lean ====
section
/-! SUPPORT. What an operation of the device keeps: the queue of waiting commands, the canonical form of the memory, and a
legal time of day. Each later file of this folder proves it once for each operation of one file of Machine/. An operation
that reaches no byte of the memory has a lemma `…_same`; one that stores has a lemma `…_kept`. -/
namespace Sys2Proof.Machine
open Sys2Proof

/-- The time of day is below 2^32 s, and its tick index below one second. -/
structure TodOk (t : TimeSt) : Prop where
  idx : t.idx < tps
  sec : t.sec < 2 ^ 32

/-- The queue is `q`, the memory is `m`, and the time of day is legal. -/
structure Same (q : List Instr) (m : List Host.Cell) (s : State) : Prop where
  pending : s.pending = q
  mem : s.mem = m
  tod : TodOk s.time

/-- The queue is `q`, the memory is in canonical form, and the time of day is legal. -/
structure Kept (q : List Instr) (s : State) : Prop where
  pending : s.pending = q
  mem : Memory.wf s.mem = true
  tod : TodOk s.time

theorem keep {q : List Instr} {s t : State} (h : Kept q s) (f : Same q s.mem s → Same q s.mem t) : Kept q t :=
  have k := f ⟨h.pending, rfl, h.tod⟩
  ⟨k.pending, k.mem ▸ h.mem, k.tod⟩

theorem Same.upd {q : List Instr} {m : List Host.Cell} {s t : State} (h : Same q m s)
    (hp : t.pending = s.pending := by rfl) (hm : t.mem = s.mem := by rfl)
    (hi : t.time.idx = s.time.idx := by rfl) (hs : t.time.sec = s.time.sec := by rfl) : Same q m t :=
  ⟨hp.trans h.pending, hm.trans h.mem, ⟨hi ▸ h.tod.idx, hs ▸ h.tod.sec⟩⟩

theorem Kept.upd {q : List Instr} {s t : State} (h : Kept q s)
    (hp : t.pending = s.pending := by rfl) (hm : t.mem = s.mem := by rfl)
    (hi : t.time.idx = s.time.idx := by rfl) (hs : t.time.sec = s.time.sec := by rfl) : Kept q t :=
  ⟨hp.trans h.pending, hm ▸ h.mem, ⟨hi ▸ h.tod.idx, hs ▸ h.tod.sec⟩⟩

section
variable {q : List Instr} {m : List Host.Cell} {α : Type} {c : Prop} [Decidable c]

theorem Same.ite {a b : State} (ha : Same q m a) (hb : Same q m b) : Same q m (if c then a else b) := by
  split <;> assumption
theorem Same.ite1 {a b : State × α} (ha : Same q m a.1) (hb : Same q m b.1) : Same q m (if c then a else b).1 := by
  split <;> assumption
theorem Same.ite2 {a b : α × State} (ha : Same q m a.2) (hb : Same q m b.2) : Same q m (if c then a else b).2 := by
  split <;> assumption
theorem Kept.ite {a b : State} (ha : Kept q a) (hb : Kept q b) : Kept q (if c then a else b) := by split <;> assumption
theorem Kept.ite1 {a b : State × α} (ha : Kept q a.1) (hb : Kept q b.1) : Kept q (if c then a else b).1 := by
  split <;> assumption
theorem Kept.ite2 {a b : α × State} (ha : Kept q a.2) (hb : Kept q b.2) : Kept q (if c then a else b).2 := by
  split <;> assumption

theorem Same.pr1 {s : State} {x : α} (h : Same q m s) : Same q m (s, x).1 := h
theorem Same.pr2 {s : State} {x : α} (h : Same q m s) : Same q m (x, s).2 := h
theorem Kept.pr1 {s : State} {x : α} (h : Kept q s) : Kept q (s, x).1 := h
theorem Kept.pr2 {s : State} {x : α} (h : Kept q s) : Kept q (x, s).2 := h

theorem Same.fst {p : State × α} {s : State} {x : α} (e : p = (s, x)) (h : Same q m p.1) : Same q m s := by subst e; exact h
theorem Same.snd {p : α × State} {s : State} {x : α} (e : p = (x, s)) (h : Same q m p.2) : Same q m s := by subst e; exact h
theorem Kept.fst {p : State × α} {s : State} {x : α} (e : p = (s, x)) (h : Kept q p.1) : Kept q s := by subst e; exact h
theorem Kept.snd {p : α × State} {s : State} {x : α} (e : p = (x, s)) (h : Kept q p.2) : Kept q s := by subst e; exact h

theorem Same.foldl {s : State} {f : State → α → State} (h : Same q m s) (hf : ∀ y, Same q m y → ∀ a, Same q m (f y a))
    (l : List α) : Same q m (l.foldl f s) := by
  induction l generalizing s with
  | nil => exact h
  | cons a l ih => exact ih (hf s h a)
theorem Kept.foldl {s : State} {f : State → α → State} (h : Kept q s) (hf : ∀ y, Kept q y → ∀ a, Kept q (f y a))
    (l : List α) : Kept q (l.foldl f s) := by
  induction l generalizing s with
  | nil => exact h
  | cons a l ih => exact ih (hf s h a)
end

/-- An outcome whose next state keeps the queue, the memory and a legal time of day. -/
structure OutSame (q : List Instr) (m : List Host.Cell) (o : Host.Outcome State Fault Refusal) : Prop where
  of : ∀ t, o = .next t → Same q m t
/-- An outcome whose next state keeps the queue, the memory's form and a legal time of day. -/
structure OutKept (q : List Instr) (o : Host.Outcome State Fault Refusal) : Prop where
  of : ∀ t, o = .next t → Kept q t

theorem OutSame.next {q : List Instr} {m : List Host.Cell} {s : State} (h : Same q m s) : OutSame q m (.next s) :=
  ⟨fun _ e => by cases e; exact h⟩
theorem OutKept.next {q : List Instr} {s : State} (h : Kept q s) : OutKept q (.next s) :=
  ⟨fun _ e => by cases e; exact h⟩
theorem OutSame.kept {q : List Instr} {s : State} {o : Host.Outcome State Fault Refusal} (h : Kept q s)
    (f : Same q s.mem s → OutSame q s.mem o) : OutKept q o :=
  ⟨fun t e => keep h fun k => (f k).of t e⟩

theorem tps_pos : 0 < tps := by decide

theorem TodOk.zero {t : TimeSt} (hi : t.idx = 0) (hs : t.sec = 0) : TodOk t :=
  ⟨hi ▸ tps_pos, hs ▸ Nat.two_pow_pos 32⟩

end Sys2Proof.Machine
end

