-- ==== Sys2Proof/Laws/KeepOps.lean ====
section
/-! SUPPORT. What the operations of Machine/Ops.lean keep: the queue, the memory or its canonical form, a legal time of
day. -/
namespace Sys2Proof.Machine
open Sys2Proof
set_option Elab.async false

theorem State.setHif_same {q m} (h0' : Same q m s0') (a1') : Same q m (State.setHif s0' a1') := by
  unfold State.setHif; exact (.upd h0')
theorem State.wr_same {q m} (h0' : Same q m s0') (a1') (a2') (a3') : Same q m (State.wr s0' a1' a2' a3') := by
  unfold State.wr; exact (.upd h0')
theorem State.satAdd_same {q m} (h0' : Same q m s0') (a1') (a2') (a3') : Same q m (State.satAdd s0' a1' a2' a3') := by
  unfold State.satAdd; exact (State.wr_same h0' ..)
theorem State.satInc_same {q m} (h0' : Same q m s0') (a1') (a2') : Same q m (State.satInc s0' a1' a2') := by
  unfold State.satInc; exact (State.satAdd_same h0' ..)
theorem State.setFcSrc_same {q m} (h0' : Same q m s0') (a1') (a2') : Same q m (State.setFcSrc s0' a1' a2') := by
  unfold State.setFcSrc; exact (.upd h0')
theorem State.orBits_same {q m} (h0' : Same q m s0') (a1') (a2') (a3') : Same q m (State.orBits s0' a1' a2' a3') := by
  unfold State.orBits; exact (State.wr_same h0' ..)
theorem State.setPb_same {q m} (h0' : Same q m s0') (a1') : Same q m (State.setPb s0' a1') := by
  unfold State.setPb; exact (.upd h0')
theorem State.setFc_same {q m} (h0' : Same q m s0') (a1') : Same q m (State.setFc s0' a1') := by
  unfold State.setFc; exact (.upd h0')
theorem State.cond_same {q m s} (h : Same q m s) {f : State → State} (hf : ∀ y, Same q m y → Same q m (f y)) (c) :
    Same q m (State.cond s c f) := by
  unfold State.cond; exact .ite (hf s h) h
theorem State.cond_kept {q s} (h : Kept q s) {f : State → State} (hf : ∀ y, Kept q y → Kept q (f y)) (c) :
    Kept q (State.cond s c f) := by
  unfold State.cond; exact .ite (hf s h) h

theorem State.setStm_same {q m} (h0' : Same q m s0') (a1') : Same q m (State.setStm s0' a1') := by
  unfold State.setStm; exact (.upd h0')
theorem State.setRing_same {q m} (h0' : Same q m s0') (a1') : Same q m (State.setRing s0' a1') := by
  unfold State.setRing; exact (.upd h0')
theorem State.clrBits_same {q m} (h0' : Same q m s0') (a1') (a2') (a3') : Same q m (State.clrBits s0' a1' a2' a3') := by
  unfold State.clrBits; exact (State.wr_same h0' ..)
theorem State.st8_kept {q s} (h : Kept q s) (a b) : Kept q (State.st8 s a b) := ⟨h.pending, memSet_wf a b h.mem, h.tod⟩

theorem State.st_kept {q} (h0' : Kept q s0') (a1') (a2') : Kept q (State.st s0' a1' a2') := by
  unfold State.st; exact (State.st8_kept (State.st8_kept (State.st8_kept (State.st8_kept h0' ..) ..) ..) ..)
theorem State.stIn_kept {q} (h0' : Kept q s0') (a1') (a2') (a3') : Kept q (State.stIn s0' a1' a2' a3') := by
  unfold State.stIn; exact (.ite (State.st_kept h0' ..) h0')
theorem State.stF_kept {q} (h0' : Kept q s0') (a1') (a2') (a3') (a4') (a5') : Kept q (State.stF s0' a1' a2' a3' a4' a5') := by
  unfold State.stF; exact (State.stIn_kept h0' ..)
theorem State.setCnx_same {q m} (h0' : Same q m s0') (a1') : Same q m (State.setCnx s0' a1') := by
  unfold State.setCnx; exact (.upd h0')
theorem State.wrWord_same {q m} (h0' : Same q m s0') (a1') (a2') (a3') : Same q m (State.wrWord s0' a1' a2' a3') := by
  unfold State.wrWord; exact (.foldl h0' (fun _ h0 _ => (State.wr_same h0 ..)) _)
theorem State.setClu_same {q m} (h0' : Same q m s0') (a1') (a2') : Same q m (State.setClu s0' a1' a2') := by
  unfold State.setClu; exact (.upd h0')
theorem State.setPath_same {q m} (h0' : Same q m s0') (a1') (a2') : Same q m (State.setPath s0' a1' a2') := by
  unfold State.setPath; exact (.upd h0')
theorem State.setRfc_same {q m} (h0' : Same q m s0') (a1') : Same q m (State.setRfc s0' a1') := by
  unfold State.setRfc; exact (.upd h0')
theorem State.setCport_same {q m} (h0' : Same q m s0') (a1') (a2') : Same q m (State.setCport s0' a1' a2') := by
  unfold State.setCport; exact (.upd h0')
theorem State.setRport_same {q m} (h0' : Same q m s0') (a1') (a2') : Same q m (State.setRport s0' a1' a2') := by
  unfold State.setRport; exact (.upd h0')
theorem State.setCv_same {q m} (h0' : Same q m s0') (a1') (a2') : Same q m (State.setCv s0' a1' a2') := by
  unfold State.setCv; exact (.upd h0')
theorem State.setLane_same {q m} (h0' : Same q m s0') (a1') (a2') : Same q m (State.setLane s0' a1' a2') := by
  unfold State.setLane; exact (.upd h0')
theorem State.setFab_same {q m} (h0' : Same q m s0') (a1') : Same q m (State.setFab s0' a1') := by
  unfold State.setFab; exact (.upd h0')
theorem State.putBit_same {q m} (h0' : Same q m s0') (a1') (a2') (a3') (a4') : Same q m (State.putBit s0' a1' a2' a3' a4') := by
  unfold State.putBit; exact (.ite (State.orBits_same h0' ..) (State.clrBits_same h0' ..))
theorem State.setTwt_same {q m} (h0' : Same q m s0') (a1') : Same q m (State.setTwt s0' a1') := by
  unfold State.setTwt; exact (.upd h0')
theorem State.pass_same {q m s} (h : Same q m s) (d : Nat) : Same q m (State.pass s d) :=
  ⟨h.pending, h.mem, ⟨Nat.mod_lt _ tps_pos, Nat.mod_lt _ (by decide)⟩⟩

theorem State.reach_same {q m} (h0' : Same q m s0') (a1') : Same q m (State.reach s0' a1') := by
  unfold State.reach; exact (.ite (State.pass_same h0' ..) h0')
theorem State.setTime_same {q m s} (h : Same q m s) (f : TimeSt → TimeSt)
    (hf : ∀ t, TodOk t → TodOk (f t) := by exact fun t h => ⟨h.idx, h.sec⟩) : Same q m (State.setTime s f) :=
  ⟨h.pending, h.mem, hf _ h.tod⟩

theorem State.wrBits_same {q m} (h0' : Same q m s0') (a1') (a2') (a3') (a4') (a5') : Same q m (State.wrBits s0' a1' a2' a3' a4' a5') := by
  unfold State.wrBits; exact (State.wr_same h0' ..)
theorem State.setHk_same {q m} (h0' : Same q m s0') (a1') : Same q m (State.setHk s0' a1') := by
  unfold State.setHk; exact (.upd h0')
theorem State.setBoot_same {q m} (h0' : Same q m s0') (a1') : Same q m (State.setBoot s0' a1') := by
  unfold State.setBoot; exact (.upd h0')
theorem State.setSys_same {q m} (h0' : Same q m s0') (a1') : Same q m (State.setSys s0' a1') := by
  unfold State.setSys; exact (.upd h0')
theorem State.draw_same {q m s} (h : Same q m s) : Same q m (State.draw s).2 := .upd h

theorem State.wrPair_same {q m} (h0' : Same q m s0') (a1') (a2') (a3') : Same q m (State.wrPair s0' a1' a2' a3') := by
  unfold State.wrPair; exact (State.wr_same (State.wr_same h0' ..) ..)
theorem State.mark_same {q m} (h0' : Same q m s0') (a1') : Same q m (State.mark s0' a1') := by
  unfold State.mark; exact (.upd h0')
theorem State.toMul_same {q m} (h0' : Same q m s0') (a1') (a2') (a3') : Same q m (State.toMul s0' a1' a2' a3') := by
  unfold State.toMul; exact (by extract_lets -merge x0; (try clear_value x0); exact (State.mark_same (.ite h0' (State.reach_same h0' ..)) ..))
theorem State.inc_same {q m} (h0' : Same q m s0') (a1') (a2') : Same q m (State.inc s0' a1' a2') := by
  unfold State.inc; exact (State.wr_same h0' ..)
theorem State.wrS_same {q m} (h0' : Same q m s0') (a1') (a2') (a3') : Same q m (State.wrS s0' a1' a2' a3') := by
  unfold State.wrS; exact (State.wr_same h0' ..)
theorem State.wrSat_same {q m} (h0' : Same q m s0') (a1') (a2') (a3') : Same q m (State.wrSat s0' a1' a2' a3') := by
  unfold State.wrSat; exact (State.wrS_same h0' ..)
theorem State.setTod_same {q m s} (h : Same q m s) (n) : Same q m (State.setTod s n) :=
  ⟨h.pending, h.mem, ⟨Nat.mod_lt _ tps_pos, Nat.mod_lt _ (by decide)⟩⟩

theorem State.setThm_same {q m} (h0' : Same q m s0') (a1') : Same q m (State.setThm s0' a1') := by
  unfold State.setThm; exact (.upd h0')
theorem State.each_same {α : Type} {q m s} (h : Same q m s) {f : State → α → State}
    (hf : ∀ y, Same q m y → ∀ a, Same q m (f y a)) (l) : Same q m (State.each s l f) := .foldl h hf l
theorem State.each_kept {α : Type} {q s} (h : Kept q s) {f : State → α → State}
    (hf : ∀ y, Kept q y → ∀ a, Kept q (f y a)) (l) : Kept q (State.each s l f) := .foldl h hf l


end Sys2Proof.Machine
end

