-- ==== Sys2Proof/Laws/KeepFlags.lean ====
section
/-! SUPPORT. What the operations of Machine/Flags.lean keep: the queue, the memory or its canonical form, a legal time of
day. -/
namespace Sys2Proof.Machine
open Sys2Proof
set_option Elab.async false

theorem State.stand_same {q m} (h0' : Same q m s0') (a1') (a2') : Same q m (State.stand s0' a1' a2') := by
  unfold State.stand; exact (State.setFcSrc_same h0' ..)
theorem State.int_same {q m} (h0' : Same q m s0') (a1') (a2') : Same q m (State.int s0' a1' a2') := by
  unfold State.int; exact (State.orBits_same h0' ..)
theorem State.setInts_same {q m} (h0' : Same q m s0') (a1') : Same q m (State.setInts s0' a1') := by
  unfold State.setInts; exact (.foldl h0' (fun _ h0 _ => (State.int_same h0 ..)) _)
theorem State.deliver_same {q m} (h0' : Same q m s0') (a1') : Same q m (State.deliver s0' a1') := by
  unfold State.deliver; exact (State.setFc_same h0' ..)
theorem State.raiseInt_same {q m} (h0' : Same q m s0') (a1') (a2') (a3') (a4') : Same q m (State.raiseInt s0' a1' a2' a3' a4') := by
  unfold State.raiseInt; exact (by extract_lets -merge s0; have h1 : Same q m s0 := (State.orBits_same h0' ..); (try clear_value s0); (try clear_value s0); exact (by split; (· exact (State.setInts_same h1 ..)); (· exact (.ite (State.setInts_same h1 ..) (State.deliver_same h1 ..)))))
theorem State.raise_same {q m} (h0' : Same q m s0') (a1') (a2') (a3') : Same q m (State.raise s0' a1' a2' a3') := by
  unfold State.raise; exact (State.raiseInt_same h0' ..)
theorem State.refuse_same {q m} (h0' : Same q m s0') (a1') : Same q m (State.refuse s0' a1') := by
  unfold State.refuse; exact (State.orBits_same h0' ..)
theorem State.unstand_same {q m} (h0' : Same q m s0') (a1') (a2') : Same q m (State.unstand s0' a1' a2') := by
  unfold State.unstand; exact (State.setFcSrc_same h0' ..)
theorem State.setStatus_same {q m} (h0' : Same q m s0') (a1') (a2') : Same q m (State.setStatus s0' a1' a2') := by
  unfold State.setStatus; exact (.ite (State.putBit_same h0' ..) (State.putBit_same h0' ..))

end Sys2Proof.Machine
end

