-- ==== Sys2Proof/Laws/KeepJournal.lean ====
section
/-! SUPPORT. What the operations of Machine/Journal.lean keep: the queue, the memory or its canonical form, a legal time of
day. -/
namespace Sys2Proof.Machine
open Sys2Proof
set_option Elab.async false

theorem State.visible_same {q m} (h0' : Same q m s0') (a1') (a2') : Same q m (State.visible s0' a1' a2') := by
  unfold State.visible; exact (by extract_lets -merge s0 s2; have h1 : Same q m s0 := (State.orBits_same (State.orBits_same h0' ..) ..); (try clear_value s0); have h3 : Same q m s2 := (State.setInts_same h1 ..); (try clear_value s2); (try clear_value s0 s2); exact (by split; (· exact (State.wr_same (State.wr_same h3 ..) ..)); (· exact h3)))
theorem State.closeOpen_same {q m} (h0' : Same q m s0') : Same q m (State.closeOpen s0') := by
  unfold State.closeOpen; exact (by split; (· exact h0'); (· exact (by extract_lets -merge x0; (try clear_value x0); exact (State.setPb_same h0' ..))))
theorem State.dropRec_same {q m} (h0' : Same q m s0') (a1') (a2') : Same q m (State.dropRec s0' a1' a2') := by
  unfold State.dropRec; exact (State.visible_same (State.int_same (State.satInc_same h0' ..) ..) ..)
theorem State.number_same {q m} (h0' : Same q m s0') (a1') (a2') (a3') (a4') : Same q m (State.number s0' a1' a2' a3' a4') := by
  unfold State.number; exact (by extract_lets -merge x0 x1 x2 s3 s5; (try clear_value x0 x1 x2); have h4 : Same q m s3 := (State.setPb_same h0' ..); (try clear_value s3); have h6 : Same q m s5 := (State.visible_same h4 ..); (try clear_value s5); (try clear_value s3 s5); exact (State.cond_same h6 (fun _ h7 => (State.closeOpen_same h7 ..)) ..))
theorem State.programmed_same {q m} (h0' : Same q m s0') (a1') (a2') (a3') : Same q m (State.programmed s0' a1' a2' a3') := by
  unfold State.programmed; exact (State.setStm_same h0' ..)
theorem State.enterApron_same {q m} (h0' : Same q m s0') (a1') (a2') : Same q m (State.enterApron s0' a1' a2') := by
  unfold State.enterApron; exact (.ite (by extract_lets -merge x0 s1 s3; (try clear_value x0); have h2 : Same q m s1 := (State.setPb_same h0' ..); (try clear_value s1); have h5 : Same q m s3 := (State.cond_same h2 (fun _ h4 => (State.int_same (State.setPb_same h4 ..) ..)) ..); (try clear_value s3); (try clear_value s1 s3); exact (State.number_same h5 ..)) (by split; (· exact (by extract_lets -merge s6 s8; have h7 : Same q m s6 := (State.setPb_same h0' ..); (try clear_value s6); have h9 : Same q m s8 := (State.programmed_same h7 ..); (try clear_value s8); (try clear_value s6 s8); exact (State.number_same (State.int_same (State.satInc_same h9 ..) ..) ..))); (· exact (State.dropRec_same h0' ..))))
theorem State.enter_same {q m} (h0' : Same q m s0') (a1') (a2') : Same q m (State.enter s0' a1' a2') := by
  unfold State.enter; exact (.ite (State.enterApron_same h0' ..) (by extract_lets -merge s0 s2 x4 s5 x7; (try clear_value x4 x7); have h1 : Same q m s0 := (State.number_same h0' ..); (try clear_value s0); have h3 : Same q m s2 := (State.setPb_same h1 ..); (try clear_value s2); have h6 : Same q m s5 := (State.setPb_same h3 ..); (try clear_value s5); (try clear_value s0 s2 s5); exact (.ite h1 (.ite h3 (State.enterApron_same (State.closeOpen_same h6 ..) ..)))))
theorem State.arrive_same {q m} (h0' : Same q m s0') (a1') : Same q m (State.arrive s0' a1') := by
  unfold State.arrive; exact (by extract_lets -merge s0 s2 s4; have h1 : Same q m s0 := (State.closeOpen_same h0' ..); (try clear_value s0); have h3 : Same q m s2 := (State.setPb_same h1 ..); (try clear_value s2); have h5 : Same q m s4 := (State.satInc_same h3 ..); (try clear_value s4); (try clear_value s0 s2 s4); exact (.ite (State.dropRec_same h1 ..) (.ite (State.dropRec_same h1 ..) (.ite (State.stand_same (State.raise_same h5 ..) ..) (State.enter_same h1 ..)))))
theorem State.rlEnd_same {q m} (h0' : Same q m s0') : Same q m (State.rlEnd s0') := by
  unfold State.rlEnd; exact (by extract_lets -merge x0 s1; (try clear_value x0); have h2 : Same q m s1 := (State.setPb_same h0' ..); (try clear_value s1); (try clear_value s1); exact (.ite (.foldl h2 (fun _ h3 _ => (by split; (· exact (State.arrive_same h3 ..)))) _) h2))
theorem State.record_same {q m} (h0' : Same q m s0') (a1') : Same q m (State.record s0' a1') := by
  unfold State.record; exact (.ite (by extract_lets -merge s0 x3 x4 s5; (try clear_value x3 x4); have h2 : Same q m s0 := (State.cond_same h0' (fun _ h1 => (State.rlEnd_same h1 ..)) ..); (try clear_value s0); have h6 : Same q m s5 := (State.setPb_same h2 ..); (try clear_value s5); (try clear_value s0 s5); exact (.ite (State.dropRec_same h6 ..) (State.arrive_same (State.setPb_same h2 ..) ..))) (by split; (· exact (State.arrive_same h0' ..)); (· exact (.ite (by extract_lets -merge x7 s8 s10; (try clear_value x7); have h9 : Same q m s8 := (State.setPb_same h0' ..); (try clear_value s8); have h11 : Same q m s10 := (State.visible_same h9 ..); (try clear_value s10); (try clear_value s8 s10); exact (State.cond_same h11 (fun _ h12 => (State.closeOpen_same h12 ..)) ..)) (State.arrive_same h0' ..)))))
theorem State.holdRec_same {q m} (h0' : Same q m s0') (a1') : Same q m (State.holdRec s0' a1') := by
  unfold State.holdRec; exact (State.visible_same (State.setPb_same h0' ..) ..)
theorem State.hold_same {q m} (h0' : Same q m s0') (a1') : Same q m (State.hold s0' a1') := by
  unfold State.hold; exact (by extract_lets -merge x0 s1; (try clear_value x0); have h2 : Same q m s1 := (State.setPb_same h0' ..); (try clear_value s1); (try clear_value s1); exact (.ite (State.dropRec_same h0' ..) (.ite (State.stand_same (State.raise_same (State.satInc_same h2 ..) ..) ..) (State.holdRec_same h0' ..))))
theorem State.handOne_same {q m} (h0' : Same q m s0') (a1') : Same q m (State.handOne s0' a1') := by
  unfold State.handOne; exact (.ite (State.visible_same (State.setPb_same h0' ..) ..) (.ite (State.hold_same h0' ..) (State.record_same h0' ..)))
theorem State.auditBook_same {q m} (h0' : Same q m s0') : Same q m (State.auditBook s0') := by
  unfold State.auditBook; exact (by extract_lets -merge s0 s2; have h1 : Same q m s0 := (State.setPb_same h0' ..); (try clear_value s0); have h3 : Same q m s2 := (State.stand_same (State.raise_same h1 ..) ..); (try clear_value s2); (try clear_value s0 s2); exact (by split; (· exact h1); (· exact (State.handOne_same h3 ..))))
theorem State.audited_same {q m} (h0' : Same q m s0') : Same q m (State.audited s0') := by
  unfold State.audited; exact (.ite (State.auditBook_same h0' ..) h0')
theorem State.handRec_same {q m} (h0' : Same q m s0') (a1') : Same q m (State.handRec s0' a1') := by
  unfold State.handRec; exact (State.audited_same (State.handOne_same h0' ..) ..)
theorem State.journalInt_same {q m} (h0' : Same q m s0') (a1') (a2') (a3') (a4') (a5') : Same q m (State.journalInt s0' a1' a2' a3' a4' a5') := by
  unfold State.journalInt; exact (State.handRec_same h0' ..)
theorem State.journal_same {q m} (h0' : Same q m s0') (a1') (a2') (a3') (a4') : Same q m (State.journal s0' a1' a2' a3' a4') := by
  unfold State.journal; exact (State.journalInt_same h0' ..)
theorem State.journals_same {q m} (h0' : Same q m s0') (a1') : Same q m (State.journals s0' a1') := by
  unfold State.journals; exact (.foldl h0' (fun _ h0 _ => (by split; (· exact (State.journal_same h0 ..)))) _)

end Sys2Proof.Machine
end

