-- ==== Sys2Proof/Laws/KeepSignals.lean ====
section
/-! SUPPORT. What the operations of Machine/Signals.lean keep: the queue, the memory or its canonical form, a legal time of
day. -/
namespace Sys2Proof.Machine
open Sys2Proof
set_option Elab.async false

theorem State.alert_same {q m} (h0' : Same q m s0') (a1') : Same q m (State.alert s0' a1') := by
  unfold State.alert; exact (.ite (State.setTwt_same (State.wr_same h0' ..) ..) h0')
theorem State.snapMiss_same {q m} (h0' : Same q m s0') (a1') : Same q m (State.snapMiss s0' a1') := by
  unfold State.snapMiss; exact (State.journalInt_same (State.satInc_same h0' ..) ..)
theorem State.snapTrig_same {q m} (h0' : Same q m s0') (a1') : Same q m (State.snapTrig s0' a1') := by
  unfold State.snapTrig; exact (.ite h0' (by extract_lets -merge x0 x1; (try clear_value x0 x1); exact (.ite h0' (.ite (.ite (State.setStm_same (State.wr_same h0' ..) ..) (State.snapMiss_same h0' ..)) (.ite (State.setStm_same h0' ..) (State.snapMiss_same h0' ..))))))
theorem State.snapCurtain_same {q m} (h0' : Same q m s0') (a1') : Same q m (State.snapCurtain s0' a1') := by
  unfold State.snapCurtain; exact (.ite (State.snapTrig_same h0' ..) (.ite (State.snapTrig_same h0' ..) h0'))

end Sys2Proof.Machine
end

