-- ==== Sys2Proof/Laws/KeepRingSend.lean ====
section
/-! SUPPORT. What the operations of Machine/RingSend.lean keep: the queue, the memory or its canonical form, a legal time of
day. -/
namespace Sys2Proof.Machine
open Sys2Proof
set_option Elab.async false

theorem State.setVc_same {q m} (h0' : Same q m s0') (a1') (a2') (a3') : Same q m (State.setVc s0' a1' a2' a3') := by
  unfold State.setVc; exact (State.setRing_same h0' ..)
theorem State.emit_same {q m} (h0' : Same q m s0') (a1') : Same q m (State.emit s0' a1') := by
  unfold State.emit; exact (.ite (State.satInc_same h0' ..) (by extract_lets -merge x0; (try clear_value x0); exact (.ite (State.setRing_same h0' ..) (State.setRing_same (State.setVc_same h0' ..) ..))))
theorem State.sendOnce_same {q m} (h0' : Same q m s0') (a1') (a2') (a3') : Same q m (State.sendOnce s0' a1' a2' a3') := by
  unfold State.sendOnce; exact (State.emit_same h0' ..)
theorem State.setDeliv_same {q m} (h0' : Same q m s0') (a1') (a2') (a3') : Same q m (State.setDeliv s0' a1' a2' a3') := by
  unfold State.setDeliv; exact (State.setRing_same h0' ..)
theorem State.sendRel_same {q m} (h0' : Same q m s0') (a1') (a2') (a3') : Same q m (State.sendRel s0' a1' a2' a3') := by
  unfold State.sendRel; exact (by extract_lets -merge x0 x1; (try clear_value x0 x1); exact (State.emit_same (State.setDeliv_same h0' ..) ..))
theorem State.sendRead_same {q m} (h0' : Same q m s0') (a1') (a2') : Same q m (State.sendRead s0' a1' a2') := by
  unfold State.sendRead; exact (State.emit_same h0' ..)

end Sys2Proof.Machine
end

