-- ==== Sys2Proof/Laws/KeepCurtain.lean ====
section
/-! SUPPORT. What the operations of Machine/Curtain.lean keep: the queue, the memory or its canonical form, a legal time of
day. -/
namespace Sys2Proof.Machine
open Sys2Proof
set_option Elab.async false

theorem State.setStx_same {q m} (h0' : Same q m s0') (a1') (a2') : Same q m (State.setStx s0' a1' a2') := by
  unfold State.setStx; exact (State.setCnx_same h0' ..)
theorem State.coexRelease_same {q m} (h0' : Same q m s0') : Same q m (State.coexRelease s0') := by
  unfold State.coexRelease; exact (.ite h0' (State.wr_same h0' ..))
theorem State.suspendLifts_same {q m} (h0' : Same q m s0') : Same q m (State.suspendLifts s0') := by
  unfold State.suspendLifts; exact (.foldl h0' (fun _ h0 _ => (.ite (State.setCport_same h0 ..) h0)) _)
theorem State.setLifting_same {q m} (h0' : Same q m s0') (a1') (a2') : Same q m (State.setLifting s0' a1' a2') := by
  unfold State.setLifting; exact (State.wr_same (State.putBit_same h0' ..) ..)
theorem State.endCap_same {q m} (h0' : Same q m s0') (a1') : Same q m (State.endCap s0' a1') := by
  unfold State.endCap; exact (by split; (· exact h0'); (· exact (State.int_same (State.wr_same (State.setLane_same h0' ..) ..) ..)))
theorem State.requestPort_same {q m} (h0' : Same q m s0') (a1') (a2') (a3') (a4') : Same q m (State.requestPort s0' a1' a2' a3' a4') := by
  unfold State.requestPort; exact (by extract_lets -merge x0 x1 x2 x3 x4 s5 s7 s9 s11 s13 s16 s19; (try clear_value x0 x1 x2 x3 x4); have h6 : Same q m s5 := (State.wr_same h0' ..); (try clear_value s5); have h8 : Same q m s7 := (State.setCport_same h6 ..); (try clear_value s7); have h10 : Same q m s9 := (State.setLifting_same h8 ..); (try clear_value s9); have h12 : Same q m s11 := (.ite (State.putBit_same h10 ..) (State.putBit_same h10 ..)); (try clear_value s11); have h15 : Same q m s13 := (.foldl h12 (fun _ h14 _ => (State.endCap_same h14 ..)) _); (try clear_value s13); have h18 : Same q m s16 := (State.cond_same h15 (fun _ h17 => (State.satInc_same h17 ..)) ..); (try clear_value s16); have h21 : Same q m s19 := (State.cond_same h18 (fun _ h20 => (State.snapCurtain_same h20 ..)) ..); (try clear_value s19); (try clear_value s5 s7 s9 s11 s13 s16 s19); exact (State.cond_same h21 (fun _ h22 => (State.alert_same h22 ..)) ..))
theorem State.streamSend_same {q m} (h0' : Same q m s0') (a1') (a2') (a3') (a4') (a5') : Same q m (State.streamSend s0' a1' a2' a3' a4' a5') := by
  unfold State.streamSend; exact (by extract_lets -merge x0 x1 x2 x3 x4; (try clear_value x0 x1 x2 x3 x4); exact (State.emit_same h0' ..))
theorem State.streamCurtain_same {q m} (h0' : Same q m s0') (a1') : Same q m (State.streamCurtain s0' a1') := by
  unfold State.streamCurtain; exact (.foldl h0' (fun _ h0 _ => (by extract_lets -merge x1; (try clear_value x1); exact (.ite (State.streamSend_same h0 ..) h0))) _)
theorem State.request_same {q m} (h0' : Same q m s0') (a1') (a2') (a3') (a4') : Same q m (State.request s0' a1' a2' a3' a4') := by
  unfold State.request; exact (by extract_lets -merge x0 x1 x2 x3 s4 s7 s10; (try clear_value x0 x1 x2 x3); have h6 : Same q m s4 := (.foldl h0' (fun _ h5 _ => (State.requestPort_same h5 ..)) _); (try clear_value s4); have h9 : Same q m s7 := (State.coexRelease_same (.foldl h6 (fun _ h8 _ => (State.streamCurtain_same h8 ..)) _) ..); (try clear_value s7); have h12 : Same q m s10 := (State.cond_same h9 (fun _ h11 => (State.journal_same h11 ..)) ..); (try clear_value s10); (try clear_value s4 s7 s10); exact (State.cond_same h12 (fun _ h13 => (State.journalInt_same h13 ..)) ..))
theorem State.clearCause_same {q m} (h0' : Same q m s0') (a1') (a2') : Same q m (State.clearCause s0' a1' a2') := by
  unfold State.clearCause; exact (.ite (by extract_lets -merge s0 s2; have h1 : Same q m s0 := (State.wr_same h0' ..); (try clear_value s0); have h3 : Same q m s2 := (State.setCport_same h1 ..); (try clear_value s2); (try clear_value s0 s2); exact (.ite (State.setLifting_same (State.setCport_same h3 ..) ..) h3)) h0')
theorem State.clearCauses_same {q m} (h0' : Same q m s0') (a1') (a2') : Same q m (State.clearCauses s0' a1' a2') := by
  unfold State.clearCauses; exact (.foldl h0' (fun _ h0 _ => (State.clearCause_same h0 ..)) _)
theorem State.refreshOther_same {q m} (h0' : Same q m s0') : Same q m (State.refreshOther s0') := by
  unfold State.refreshOther; exact (.foldl h0' (fun _ h0 _ => (.ite h0 (State.clearCause_same h0 ..))) _)
theorem State.startCap_same {q m} (h0' : Same q m s0') (a1') : Same q m (State.startCap s0' a1') := by
  unfold State.startCap; exact (by extract_lets -merge x0 s1; (try clear_value x0); have h2 : Same q m s1 := (State.setLane_same h0' ..); (try clear_value s1); (try clear_value s1); exact (State.wr_same (State.wr_same h2 ..) ..))
theorem State.toSample_same {q m} (h0' : Same q m s0') (a1') (a2') (a3') : Same q m (State.toSample s0' a1' a2' a3') := by
  unfold State.toSample; exact (State.toMul_same h0' ..)
theorem State.completePort_same {q m} (h0' : Same q m s0') (a1') : Same q m (State.completePort s0' a1') := by
  unfold State.completePort; exact (by extract_lets -merge s0 s2 s4 s7; have h1 : Same q m s0 := (State.putBit_same h0' ..); (try clear_value s0); have h3 : Same q m s2 := (State.setCport_same h1 ..); (try clear_value s2); have h6 : Same q m s4 := (.foldl h3 (fun _ h5 _ => (.ite (State.setFcSrc_same h5 ..) h5)) _); (try clear_value s4); have h9 : Same q m s7 := (.foldl h6 (fun _ h8 _ => (State.snapCurtain_same h8 ..)) _); (try clear_value s7); (try clear_value s0 s2 s4 s7); exact (State.alert_same (State.int_same h9 ..) ..))
theorem State.liftDone_same {q m} (h0' : Same q m s0') (a1') : Same q m (State.liftDone s0' a1') := by
  unfold State.liftDone; exact (by extract_lets -merge x0 s1 s3 s5; (try clear_value x0); have h2 : Same q m s1 := (State.setCport_same h0' ..); (try clear_value s1); have h4 : Same q m s3 := (State.putBit_same (State.setLifting_same h2 ..) ..); (try clear_value s3); have h7 : Same q m s5 := (.foldl h4 (fun _ h6 _ => (State.startCap_same h6 ..)) _); (try clear_value s5); (try clear_value s1 s3 s5); exact (State.journalInt_same h7 ..))
theorem State.liftStart_same {q m} (h0' : Same q m s0') (a1') : Same q m (State.liftStart s0' a1') := by
  unfold State.liftStart; exact (.ite (.ite (by extract_lets -merge x0 s1 s3 s5; (try clear_value x0); have h2 : Same q m s1 := (State.putBit_same (State.wr_same h0' ..) ..); (try clear_value s1); have h4 : Same q m s3 := (State.setLifting_same (State.setCport_same h2 ..) ..); (try clear_value s3); have h6 : Same q m s5 := (State.journalInt_same (State.satInc_same h4 ..) ..); (try clear_value s5); (try clear_value s1 s3 s5); exact (State.journal_same h6 ..)) (State.setCport_same h0' ..)) h0')

end Sys2Proof.Machine
end

