-- ==== Sys2Proof/Laws/KeepLane.lean ====
section
/-! SUPPORT. What the operations of Machine/Lane.lean keep: the queue, the memory or its canonical form, a legal time of
day. -/
namespace Sys2Proof.Machine
open Sys2Proof
set_option Elab.async false

theorem State.setLat_same {q m} (h0' : Same q m s0') (a1') : Same q m (State.setLat s0' a1') := by
  unfold State.setLat; exact (State.wr_same h0' ..)
theorem State.markSuspect_same {q m} (h0' : Same q m s0') (a1') : Same q m (State.markSuspect s0' a1') := by
  unfold State.markSuspect; exact (by extract_lets -merge x0 s1; (try clear_value x0); have h2 : Same q m s1 := (State.wr_same (State.setLane_same h0' ..) ..); (try clear_value s1); (try clear_value s1); exact (State.cond_same h2 (fun _ h3 => (State.int_same (State.wr_same h3 ..) ..)) ..))
theorem State.laneAccept_same {q m} (h0' : Same q m s0') (a1') (a2') (a3') : Same q m (State.laneAccept s0' a1' a2' a3') := by
  unfold State.laneAccept; exact (by extract_lets -merge x0 x1 s2 s4 s6 s8; (try clear_value x0 x1); have h3 : Same q m s2 := (State.setLane_same h0' ..); (try clear_value s2); have h5 : Same q m s4 := (State.wr_same (State.wr_same (State.wr_same h3 ..) ..) ..); (try clear_value s4); have h7 : Same q m s6 := (State.wr_same (State.wr_same (State.wr_same (State.wr_same h5 ..) ..) ..) ..); (try clear_value s6); have h10 : Same q m s8 := (State.cond_same h7 (fun _ h9 => (State.markSuspect_same h9 ..)) ..); (try clear_value s8); (try clear_value s2 s4 s6 s8); exact (by split; (· exact (by split; (· exact (by extract_lets -merge x11 s12 s14; (try clear_value x11); have h13 : Same q m s12 := (State.wr_same (State.wr_same (State.wr_same h10 ..) ..) ..); (try clear_value s12); have h15 : Same q m s14 := (State.setFab_same (State.wr_same h13 ..) ..); (try clear_value s14); (try clear_value s12 s14); exact (State.setLat_same h15 ..)))))))
theorem State.laneRefuse_same {q m} (h0' : Same q m s0') (a1') (a2') : Same q m (State.laneRefuse s0' a1' a2') := by
  unfold State.laneRefuse; exact (State.refuse_same (State.wr_same (State.wr_same h0' ..) ..) ..)
theorem State.laneBegin_same {q m} (h0' : Same q m s0') (a1') (a2') : Same q m (State.laneBegin s0' a1' a2') := by
  unfold State.laneBegin; exact (State.setLane_same h0' ..)

end Sys2Proof.Machine
end

