-- ==== Sys2Proof/Laws/KeepCnx.lean ====
section
/-! SUPPORT. What the operations of Machine/Cnx.lean keep: the queue, the memory or its canonical form, a legal time of
day. -/
namespace Sys2Proof.Machine
open Sys2Proof
set_option Elab.async false

theorem State.setTap_kept {q} (h0' : Kept q s0') (a1') (a2') : Kept q (State.setTap s0' a1' a2') := by
  unfold State.setTap; exact (State.stIn_kept (State.stIn_kept h0' ..) ..)
theorem State.writeTap_kept {q} (h0' : Kept q s0') (a1') (a2') (a3') : Kept q (State.writeTap s0' a1' a2' a3') := by
  unfold State.writeTap; exact (by extract_lets -merge x0 x1 x2; (try clear_value x0 x1 x2); exact (.ite (State.setTap_kept h0' ..) (keep h0' fun h => State.satInc_same h ..)))
theorem State.tapSnap_same {q m} (h0' : Same q m s0') : Same q m (State.tapSnap s0') := by
  unfold State.tapSnap; exact (State.wr_same (State.wr_same h0' ..) ..)
theorem State.unreserve_same {q m} (h0' : Same q m s0') (a1') (a2') : Same q m (State.unreserve s0' a1' a2') := by
  unfold State.unreserve; exact (State.setCnx_same h0' ..)
theorem State.stopStream_same {q m} (h0' : Same q m s0') (a1') : Same q m (State.stopStream s0' a1') := by
  unfold State.stopStream; exact (by extract_lets -merge x0 x1; (try clear_value x0 x1); exact (by split; (· exact (by extract_lets -merge s2; have h4 : Same q m s2 := (State.cond_same h0' (fun _ h3 => (State.sendRel_same h3 ..)) ..); (try clear_value s2); (try clear_value s2); exact (State.wr_same (State.setStx_same (State.unreserve_same h4 ..) ..) ..)))))
theorem State.streamRefuse_same {q m} (h0' : Same q m s0') (a1') (a2') : Same q m (State.streamRefuse s0' a1' a2') := by
  unfold State.streamRefuse; exact (by extract_lets -merge s0; have h1 : Same q m s0 := (State.setStx_same (State.unreserve_same h0' ..) ..); (try clear_value s0); (try clear_value s0); exact (State.refuse_same (State.wr_same (State.wr_same (State.wr_same h1 ..) ..) ..) ..))
theorem State.reserve_same {q m} (h0' : Same q m s0') (a1') : Same q m (State.reserve s0' a1') := by
  unfold State.reserve; exact (State.setCnx_same h0' ..)
theorem State.streamAsk_same {q m} (h0' : Same q m s0') (a1') (a2') : Same q m (State.streamAsk s0' a1' a2') := by
  unfold State.streamAsk; exact (by split; (· exact (by extract_lets -merge x0 x1; (try clear_value x0 x1); exact (.ite (State.streamRefuse_same h0' ..) (State.cond_same (State.setStx_same (State.reserve_same h0' ..) ..) (fun _ h2 => (State.sendRel_same h2 ..)) ..)))))
theorem State.writeStx_same {q m} (h0' : Same q m s0') (a1') (a2') : Same q m (State.writeStx s0' a1' a2') := by
  unfold State.writeStx; exact (by extract_lets -merge x0 s1 x3 g4; (try clear_value x0 x3); have h2 : Same q m s1 := (State.wrWord_same h0' ..); (try clear_value s1); have h6 : ∀ y0, Same q m y0 → ∀ y1, Same q m (g4 y0 y1) := (fun _ h5 _ => (State.refuse_same (State.wr_same (State.wr_same h5 ..) ..) ..)); (try clear_value s1); exact (.ite (.ite h2 (.ite (h6 _ h2 _) (.ite (h6 _ h2 _) (State.streamAsk_same h2 ..)))) (State.stopStream_same h2 ..)))
theorem State.zeroCluster_kept {q} (h0' : Kept q s0') (a1') : Kept q (State.zeroCluster s0' a1') := by
  unfold State.zeroCluster; exact (.foldl h0' (fun _ h0 _ => (State.setTap_kept h0 ..)) _)
theorem State.writePos_kept {q} (h0' : Kept q s0') (a1') : Kept q (State.writePos s0' a1') := by
  unfold State.writePos; exact (by extract_lets -merge x0 x1 x2 x3 x4; (try clear_value x0 x1 x2 x3 x4); exact (.ite (keep h0' fun h => State.refuse_same h ..) (keep (State.zeroCluster_kept h0' ..) fun h => State.setClu_same h ..)))
theorem State.pathRefuse_same {q m} (h0' : Same q m s0') (a1') (a2') : Same q m (State.pathRefuse s0' a1' a2') := by
  unfold State.pathRefuse; exact (State.int_same (State.refuse_same (State.wr_same (State.wr_same h0' ..) ..) ..) ..)
theorem State.setLoad_same {q m} (h0' : Same q m s0') : Same q m (State.setLoad s0') := by
  unfold State.setLoad; exact (State.wr_same h0' ..)
theorem State.queueSearch_same {q m} (h0' : Same q m s0') (a1') (a2') : Same q m (State.queueSearch s0' a1' a2') := by
  unfold State.queueSearch; exact (.ite (State.int_same h0' ..) (State.setCnx_same h0' ..))
theorem State.setEst_same {q m} (h0' : Same q m s0') (a1') : Same q m (State.setEst s0' a1') := by
  unfold State.setEst; exact (by extract_lets -merge x0; (try clear_value x0); exact (State.wr_same (State.wr_same h0' ..) ..))
theorem State.setSln_same {q m} (h0' : Same q m s0') (a1') (a2') : Same q m (State.setSln s0' a1' a2') := by
  unfold State.setSln; exact (State.setCnx_same h0' ..)
theorem State.tapAudit_same {q m} (h0' : Same q m s0') : Same q m (State.tapAudit s0') := by
  unfold State.tapAudit; exact (by split; (· exact (.ite h0' (State.journal_same (State.stand_same (State.raise_same h0' ..) ..) ..))))
theorem State.countTaps_same {q m} (h0' : Same q m s0') (a1') (a2') : Same q m (State.countTaps s0' a1' a2') := by
  unfold State.countTaps; exact (State.tapAudit_same (State.setCnx_same h0' ..) ..)
theorem State.allocCluster_kept {q} (h0' : Kept q s0') (a1') (a2') (a3') : Kept q (State.allocCluster s0' a1' a2' a3') := by
  unfold State.allocCluster; exact (by split; (· exact h0'); (· exact (keep (keep (State.zeroCluster_kept h0' ..) fun h => State.setClu_same h ..) fun h => State.countTaps_same h ..)))
theorem State.pathAccept_kept {q} (h0' : Kept q s0') (a1') : Kept q (State.pathAccept s0' a1') := by
  unfold State.pathAccept; exact (by extract_lets -merge x0 x1 x2 x3 x4 s5 s8 s11 x14 s15 s17 s19 s21 s23 s25; (try clear_value x0 x1 x2 x3 x4 x14); have h7 : Kept q s5 := (.foldl h0' (fun _ h6 _ => (State.allocCluster_kept h6 ..)) _); (try clear_value s5); have h10 : Kept q s8 := (.foldl h7 (fun _ h9 _ => (State.allocCluster_kept h9 ..)) _); (try clear_value s8); have h13 : Kept q s11 := (.foldl h10 (fun _ h12 _ => (State.allocCluster_kept h12 ..)) _); (try clear_value s11); have h16 : Kept q s15 := (keep h13 fun h => State.setPath_same h ..); (try clear_value s15); have h18 : Kept q s17 := (keep h16 fun h => State.setSln_same h ..); (try clear_value s17); have h20 : Kept q s19 := (keep h18 fun h => State.setCnx_same h ..); (try clear_value s19); have h22 : Kept q s21 := (keep (keep (keep (keep h20 fun h => State.wr_same h ..) fun h => State.wr_same h ..) fun h => State.wr_same h ..) fun h => State.wr_same h ..); (try clear_value s21); have h24 : Kept q s23 := (keep h22 fun h => State.setPath_same h ..); (try clear_value s23); have h26 : Kept q s25 := (keep (keep (keep h24 fun h => State.wr_same h ..) fun h => State.setEst_same h ..) fun h => State.int_same h ..); (try clear_value s25); (try clear_value s5 s8 s11 s15 s17 s19 s21 s23 s25); exact (keep (keep (keep h26 fun h => State.queueSearch_same h ..) fun h => State.setLoad_same h ..) fun h => State.int_same h ..))
theorem State.setIso_same {q m} (h0' : Same q m s0') (a1') : Same q m (State.setIso s0' a1') := by
  unfold State.setIso; exact (by split; (· exact (by extract_lets -merge s0 s2; have h1 : Same q m s0 := (State.wr_same (State.wr_same h0' ..) ..); (try clear_value s0); have h3 : Same q m s2 := (State.wr_same h1 ..); (try clear_value s2); (try clear_value s0 s2); exact (State.wr_same h3 ..))))
theorem State.releaseClusters_kept {q} (h0' : Kept q s0') (a1') : Kept q (State.releaseClusters s0' a1') := by
  unfold State.releaseClusters; exact (.foldl h0' (fun _ h0 _ => (keep (keep (State.zeroCluster_kept h0 ..) fun h => State.setClu_same h ..) fun h => State.countTaps_same h ..)) _)
theorem State.pathDisable_kept {q} (h0' : Kept q s0') (a1') : Kept q (State.pathDisable s0' a1') := by
  unfold State.pathDisable; exact (by extract_lets -merge x0 x1 x2 x3 s4 s6 x8 s9 s11 s14; (try clear_value x0 x1 x2 x3 x8); have h5 : Kept q s4 := (State.releaseClusters_kept h0' ..); (try clear_value s4); have h7 : Kept q s6 := (keep h5 fun h => State.setPath_same h ..); (try clear_value s6); have h10 : Kept q s9 := (keep h7 fun h => State.setCnx_same h ..); (try clear_value s9); have h13 : Kept q s11 := (State.cond_kept h10 (fun _ h12 => (keep h12 fun h => State.wr_same h ..)) ..); (try clear_value s11); have h15 : Kept q s14 := (keep (keep (keep h13 fun h => State.wr_same h ..) fun h => State.wr_same h ..) fun h => State.wr_same h ..); (try clear_value s14); (try clear_value s4 s6 s9 s11 s14); exact (.ite (keep h0' fun h => State.wr_same h ..) (keep (keep h15 fun h => State.setLoad_same h ..) fun h => State.setIso_same h ..)))
theorem State.writePathCfg_kept {q} (h0' : Kept q s0') (a1') (a2') : Kept q (State.writePathCfg s0' a1' a2') := by
  unfold State.writePathCfg; exact (by extract_lets -merge x0 s1; (try clear_value x0); have h2 : Kept q s1 := (keep h0' fun h => State.wrWord_same h ..); (try clear_value s1); (try clear_value s1); exact (.ite (.ite h2 (by split; (· exact (keep h2 fun h => State.pathRefuse_same h ..)); (· exact (State.pathAccept_kept h2 ..)))) (State.pathDisable_kept h2 ..)))
theorem State.setSrx_same {q m} (h0' : Same q m s0') (a1') (a2') : Same q m (State.setSrx s0' a1' a2') := by
  unfold State.setSrx; exact (State.setCnx_same h0' ..)
theorem State.dropRemote_same {q m} (h0' : Same q m s0') (a1') : Same q m (State.dropRemote s0' a1') := by
  unfold State.dropRemote; exact (State.setCnx_same h0' ..)
theorem State.writeSrx_same {q m} (h0' : Same q m s0') (a1') (a2') : Same q m (State.writeSrx s0' a1' a2') := by
  unfold State.writeSrx; exact (by extract_lets -merge s0; have h1 : Same q m s0 := (State.wrWord_same h0' ..); (try clear_value s0); (try clear_value s0); exact (.ite h1 (State.dropRemote_same (State.setSrx_same (State.wr_same (State.wr_same (State.wr_same h1 ..) ..) ..) ..) ..)))
theorem State.writeMargin_same {q m} (h0' : Same q m s0') (a1') : Same q m (State.writeMargin s0' a1') := by
  unfold State.writeMargin; exact (by extract_lets -merge x0; (try clear_value x0); exact (.ite (State.wr_same h0' ..) (State.int_same (State.refuse_same h0' ..) ..)))
theorem State.writeRise_same {q m} (h0' : Same q m s0') (a1') : Same q m (State.writeRise s0' a1') := by
  unfold State.writeRise; exact (by extract_lets -merge x0; (try clear_value x0); exact (.ite (State.wr_same h0' ..) (State.int_same (State.refuse_same h0' ..) ..)))
theorem State.dropRetained_same {q m} (h0' : Same q m s0') (a1') : Same q m (State.dropRetained s0' a1') := by
  unfold State.dropRetained; exact (State.setCnx_same h0' ..)
theorem State.stopLaneStreams_same {q m} (h0' : Same q m s0') (a1') : Same q m (State.stopLaneStreams s0' a1') := by
  unfold State.stopLaneStreams; exact (.foldl h0' (fun _ h0 _ => (.ite (State.wr_same (State.stopStream_same h0 ..) ..) h0)) _)
theorem State.writeSlnCtl_same {q m} (h0' : Same q m s0') (a1') : Same q m (State.writeSlnCtl s0' a1') := by
  unfold State.writeSlnCtl; exact (by extract_lets -merge s0; have h1 : Same q m s0 := (State.wr_same (State.wr_same h0' ..) ..); (try clear_value s0); (try clear_value s0); exact (State.cond_same h1 (fun _ h2 => (State.queueSearch_same h2 ..)) ..))
theorem State.outRestart_same {q m} (h0' : Same q m s0') : Same q m (State.outRestart s0') := by
  unfold State.outRestart; exact (by extract_lets -merge s0; have h2 : Same q m s0 := (.foldl h0' (fun _ h1 _ => (State.setLane_same h1 ..)) _); (try clear_value s0); (try clear_value s0); exact (State.setCnx_same h2 ..))
theorem State.setCeil_same {q m} (h0' : Same q m s0') (a1') (a2') (a3') : Same q m (State.setCeil s0' a1' a2' a3') := by
  unfold State.setCeil; exact (by extract_lets -merge s0 s2; have h1 : Same q m s0 := (State.setCnx_same h0' ..); (try clear_value s0); have h3 : Same q m s2 := (State.wr_same (State.wr_same (State.wr_same h1 ..) ..) ..); (try clear_value s2); (try clear_value s0 s2); exact (State.wr_same h3 ..))
theorem State.firstCeil_same {q m} (h0' : Same q m s0') : Same q m (State.firstCeil s0') := by
  unfold State.firstCeil; exact (by extract_lets -merge s0; have h2 : Same q m s0 := (.foldl h0' (fun _ h1 _ => (State.setEst_same (State.setPath_same h1 ..) ..)) _); (try clear_value s0); (try clear_value s0); exact (.foldl h2 (fun _ h3 _ => (by extract_lets -merge x4; (try clear_value x4); exact (State.setCeil_same (State.setIso_same h3 ..) ..))) _))
theorem State.took_same {q m} (h0' : Same q m s0') (a1') (a2') : Same q m (State.took s0' a1' a2') := by
  unfold State.took; exact (State.setRing_same h0' ..)
theorem State.streamsReroute_same {q m} (h0' : Same q m s0') : Same q m (State.streamsReroute s0') := by
  unfold State.streamsReroute; exact (.foldl h0' (fun _ h0 _ => (by extract_lets -merge x1 x2 x3 x4 s5; (try clear_value x1 x2 x3 x4); have h6 : Same q m s5 := (State.wr_same (State.wr_same (State.wr_same h0 ..) ..) ..); (try clear_value s5); (try clear_value s5); exact (.ite (.ite (State.streamAsk_same (State.unreserve_same h6 ..) ..) (State.wr_same (State.wr_same (State.stopStream_same h0 ..) ..) ..)) h0))) _)
theorem State.beginSearch_same {q m} (h0' : Same q m s0') (a1') : Same q m (State.beginSearch s0' a1') := by
  unfold State.beginSearch; exact (by extract_lets -merge s0; have h1 : Same q m s0 := (State.setCnx_same h0' ..); (try clear_value s0); (try clear_value s0); exact (State.wr_same (State.wr_same h1 ..) ..))
theorem State.ceilFall_same {q m} (h0' : Same q m s0') (a1') : Same q m (State.ceilFall s0' a1') := by
  unfold State.ceilFall; exact (by extract_lets -merge x0; (try clear_value x0); exact (.ite (State.setCeil_same (State.setIso_same h0' ..) ..) (State.setIso_same h0' ..)))
theorem State.ceilStep_same {q m} (h0' : Same q m s0') (a1') : Same q m (State.ceilStep s0' a1') := by
  unfold State.ceilStep; exact (by extract_lets -merge x0 x1 x2; (try clear_value x0 x1 x2); exact (State.setCeil_same (State.setIso_same h0' ..) ..))
theorem State.countRetire_same {q m} (h0' : Same q m s0') (a1') : Same q m (State.countRetire s0' a1') := by
  unfold State.countRetire; exact (.foldl h0' (fun _ h0 _ => (State.setClu_same h0 ..)) _)
theorem State.estReset_same {q m} (h0' : Same q m s0') (a1') : Same q m (State.estReset s0' a1') := by
  unfold State.estReset; exact (by extract_lets -merge s0; have h1 : Same q m s0 := (State.setPath_same h0' ..); (try clear_value s0); (try clear_value s0); exact (State.queueSearch_same (State.int_same (State.setEst_same (State.wr_same h1 ..) ..) ..) ..))
theorem State.oscReset_same {q m} (h0' : Same q m s0') (a1') : Same q m (State.oscReset s0' a1') := by
  unfold State.oscReset; exact (by extract_lets -merge x0 s1; (try clear_value x0); have h3 : Same q m s1 := (.foldl h0' (fun _ h2 _ => (State.estReset_same h2 ..)) _); (try clear_value s1); (try clear_value s1); exact (.foldl h3 (fun _ h4 _ => (State.ceilFall_same h4 ..)) _))
theorem State.estSample_same {q m} (h0' : Same q m s0') (a1') (a2') : Same q m (State.estSample s0' a1' a2') := by
  unfold State.estSample; exact (.foldl h0' (fun _ h0 _ => (.ite (by extract_lets -merge x1; (try clear_value x1); exact (State.setPath_same h0 ..)) h0)) _)
theorem State.moveClusters_kept {q} (h0' : Kept q s0') (a1') : Kept q (State.moveClusters s0' a1') := by
  unfold State.moveClusters; exact (by extract_lets -merge x0 x1 s2; (try clear_value x0 x1); have h3 : Kept q s2 := h0'; (try clear_value s2); (try clear_value s2); exact (.foldl h0' (fun _ h4 _ => (by extract_lets -merge x5 x6 s7; (try clear_value x5 x6); have h11 : Kept q s7 := (by unfold s7; exact (.ite (.foldl h4 (fun _ h8 _ => (by extract_lets -merge x9 x10; (try clear_value x9 x10); exact (State.setTap_kept h8 ..))) _) (State.zeroCluster_kept h4 ..))); (try clear_value s7); (try clear_value s7); exact (keep h11 fun h => State.setClu_same h ..))) _))
theorem State.outBlock_same {q m} (h0' : Same q m s0') (a1') : Same q m (State.outBlock s0' a1') := by
  unfold State.outBlock; exact (by extract_lets -merge x0 s1; (try clear_value x0); have h2 : Same q m s1 := (State.setLane_same h0' ..); (try clear_value s1); (try clear_value s1); exact (State.cond_same h2 (fun _ h3 => (State.setCnx_same h3 ..)) ..))
theorem State.pathBlock_kept {q} (h0' : Kept q s0') (a1') : Kept q (State.pathBlock s0' a1') := by
  unfold State.pathBlock; exact (by extract_lets -merge x0 x1 s2 x4 x5 x6 x7 x8 x9 s10 s13; (try clear_value x0 x1 x4 x5 x6 x7 x8 x9); have h3 : Kept q s2 := (keep h0' fun h => State.setPath_same h ..); (try clear_value s2); have h12 : Kept q s10 := (.foldl h3 (fun _ h11 _ => (State.zeroCluster_kept h11 ..)) _); (try clear_value s10); have h14 : Kept q s13 := (keep (keep h12 fun h => State.setPath_same h ..) fun h => State.estReset_same h ..); (try clear_value s13); (try clear_value s2 s10 s13); exact (.ite h3 (.ite (keep (keep h14 fun h => State.satInc_same h ..) fun h => State.raise_same h ..) (keep (keep h3 fun h => State.setPath_same h ..) fun h => State.setEst_same h ..))))
theorem State.estimateBlock_kept {q} (h0' : Kept q s0') (a1') : Kept q (State.estimateBlock s0' a1') := by
  unfold State.estimateBlock; exact (by extract_lets -merge s0 s2 x5; (try clear_value x5); have h1 : Kept q s0 := (keep (keep h0' fun h => State.toSample_same h ..) fun h => State.outBlock_same h ..); (try clear_value s0); have h4 : Kept q s2 := (.foldl h1 (fun _ h3 _ => (.ite (keep (State.moveClusters_kept (State.pathBlock_kept h3 ..) ..) fun h => State.countRetire_same h ..) h3)) _); (try clear_value s2); (try clear_value s0 s2); exact (.ite (keep h4 fun h => State.setIso_same h ..) (keep h4 fun h => State.ceilStep_same h ..)))
theorem State.searchSample_same {q m} (h0' : Same q m s0') (a1') (a2') (a3') (a4') : Same q m (State.searchSample s0' a1' a2' a3' a4') := by
  unfold State.searchSample; exact (by split; (· exact h0'); (· exact (by extract_lets -merge x0; (try clear_value x0); exact (.ite (State.setCnx_same h0' ..) h0'))))
theorem State.probeSample_same {q m} (h0' : Same q m s0') (a1') (a2') (a3') (a4') : Same q m (State.probeSample s0' a1' a2' a3' a4') := by
  unfold State.probeSample; exact (.foldl h0' (fun _ h0 _ => (by extract_lets -merge x1 x2; (try clear_value x1 x2); exact (.ite (State.setPath_same h0 ..) h0))) _)
theorem State.outPower_same {q m} (h0' : Same q m s0') (a1') (a2') : Same q m (State.outPower s0' a1' a2') := by
  unfold State.outPower; exact (by extract_lets -merge s0 x2 s3; (try clear_value x2); have h1 : Same q m s0 := (State.setLane_same h0' ..); (try clear_value s0); have h4 : Same q m s3 := (State.setLane_same h1 ..); (try clear_value s3); (try clear_value s0 s3); exact (.ite h1 (State.cond_same h4 (fun _ h5 => (State.setCnx_same h5 ..)) ..)))
theorem State.lms_kept {q} (h0' : Kept q s0') (a1') (a2') : Kept q (State.lms s0' a1' a2') := by
  unfold State.lms; exact (by extract_lets -merge x0 x1 x2 x3 x4 x5; (try clear_value x0 x1 x2 x3 x4 x5); exact (.foldl h0' (fun _ h6 _ => (.foldl h6 (fun _ h7 _ => (by extract_lets -merge x8 x9; (try clear_value x8 x9); exact (State.setTap_kept h7 ..))) _)) _))
theorem State.placeDense_same {q m} (h0' : Same q m s0') (a1') (a2') (a3') : Same q m (State.placeDense s0' a1' a2' a3') := by
  unfold State.placeDense; exact (by extract_lets -merge x0 x1 s2; (try clear_value x0 x1); have h3 : Same q m s2 := (State.setSln_same h0' ..); (try clear_value s2); (try clear_value s2); exact (.foldl h3 (fun _ h4 _ => (by split; (· exact (by extract_lets -merge x5; (try clear_value x5); exact (.ite (State.setClu_same h4 ..) (State.setClu_same h4 ..)))))) _))
theorem State.placeFirst_kept {q} (h0' : Kept q s0') (a1') (a2') (a3') : Kept q (State.placeFirst s0' a1' a2' a3') := by
  unfold State.placeFirst; exact (by extract_lets -merge x0 s1 x4 x5; (try clear_value x0 x4 x5); have h3 : Kept q s1 := (keep (.foldl h0' (fun _ h2 _ => (State.zeroCluster_kept h2 ..)) _) fun h => State.placeDense_same h ..); (try clear_value s1); (try clear_value s1); exact (.foldl h3 (fun _ h6 _ => (by split; (· exact (keep h6 fun h => State.setClu_same h ..)))) _))
theorem State.probeEnd_same {q m} (h0' : Same q m s0') (a1') : Same q m (State.probeEnd s0' a1') := by
  unfold State.probeEnd; exact (by extract_lets -merge x0 x1 x2 x3 x4 x5 x6 s7 s9; (try clear_value x0 x1 x2 x3 x4 x5 x6); have h8 : Same q m s7 := (State.setPath_same h0' ..); (try clear_value s7); have h10 : Same q m s9 := (State.wr_same (State.wr_same h8 ..) ..); (try clear_value s9); (try clear_value s7 s9); exact (.ite h0' (State.cond_same h10 (fun _ h11 => (State.int_same h11 ..)) ..)))
theorem State.streamRelay_same {q m} (h0' : Same q m s0') (a1') (a2') (a3') (a4') (a5') (a6') : Same q m (State.streamRelay s0' a1' a2' a3' a4' a5' a6') := by
  unfold State.streamRelay; exact (by extract_lets -merge x0; (try clear_value x0); exact (.ite (State.sendRel_same h0' ..) (.ite (State.sendRel_same (State.reserve_same h0' ..) ..) (State.sendRel_same (State.reserve_same h0' ..) ..))))
theorem State.streamLeave_same {q m} (h0' : Same q m s0') (a1') (a2') (a3') (a4') (a5') : Same q m (State.streamLeave s0' a1' a2' a3' a4' a5') := by
  unfold State.streamLeave; exact (State.cond_same (State.unreserve_same h0' ..) (fun _ h0 => (State.sendRel_same h0 ..)) ..)
theorem State.streamResult_same {q m} (h0' : Same q m s0') (a1') (a2') (a3') : Same q m (State.streamResult s0' a1' a2' a3') := by
  unfold State.streamResult; exact (.ite h0' (.ite (State.wr_same (State.wr_same (State.setStx_same h0' ..) ..) ..) (State.streamRefuse_same h0' ..)))
theorem State.replace_kept {q} (h0' : Kept q s0') (a1') (a2') (a3') (a4') : Kept q (State.replace s0' a1' a2' a3' a4') := by
  unfold State.replace; exact (by extract_lets -merge x0 x1 x2 x3 x4 s5 x7 x8 x9 s10 s17; (try clear_value x0 x1 x2 x3 x4 x7 x8 x9); have h6 : Kept q s5 := (keep h0' fun h => State.setSln_same h ..); (try clear_value s5); have h16 : Kept q s10 := (by unfold s10; exact (.ite (by split; (· exact (by extract_lets -merge x11 s12; (try clear_value x11); have h15 : Kept q s12 := (by unfold s12; exact (by split; (· exact (by extract_lets -merge s13; have h14 : Kept q s13 := (keep (State.zeroCluster_kept h6 ..) fun h => State.setClu_same h ..); (try clear_value s13); (try clear_value s13); exact (keep h14 fun h => State.setClu_same h ..))); (· exact (keep h6 fun h => State.setClu_same h ..)))); (try clear_value s12); (try clear_value s12); exact (keep (keep h15 fun h => State.setSln_same h ..) fun h => State.int_same h ..))); (· exact h6)) h6)); (try clear_value s10); have h18 : Kept q s17 := (keep h16 fun h => State.placeDense_same h ..); (try clear_value s17); (try clear_value s5 s10 s17); exact (.ite (keep (keep h18 fun h => State.setSln_same h ..) fun h => State.int_same h ..) h16))
theorem State.retireOld_kept {q} (h0' : Kept q s0') (a1') : Kept q (State.retireOld s0' a1') := by
  unfold State.retireOld; exact (.foldl h0' (fun _ h0 _ => (keep (State.zeroCluster_kept h0 ..) fun h => State.setClu_same h ..)) _)
theorem State.searchDone_kept {q} (h0' : Kept q s0') : Kept q (State.searchDone s0') := by
  unfold State.searchDone; exact (by split; (· exact h0'); (· exact (by extract_lets -merge x0 s1 x3 x4 x5 x6 x7 s8 s10 s12 s14; (try clear_value x0 x3 x4 x5 x6 x7); have h2 : Kept q s1 := (keep h0' fun h => State.reach_same h ..); (try clear_value s1); have h9 : Kept q s8 := (keep h2 fun h => State.setSln_same h ..); (try clear_value s8); have h11 : Kept q s10 := (keep h9 fun h => State.setCnx_same h ..); (try clear_value s10); have h13 : Kept q s12 := (keep (keep h11 fun h => State.wr_same h ..) fun h => State.inc_same h ..); (try clear_value s12); have h16 : Kept q s14 := (State.cond_kept h13 (fun _ h15 => (keep h15 fun h => State.int_same h ..)) ..); (try clear_value s14); (try clear_value s1 s8 s10 s12 s14); exact (.ite h0' (.ite (.ite (keep (State.placeFirst_kept h16 ..) fun h => State.int_same h ..) (State.replace_kept h16 ..)) h16)))))
theorem State.searchStart_same {q m} (h0' : Same q m s0') : Same q m (State.searchStart s0') := by
  unfold State.searchStart; exact (.ite h0' (by extract_lets -merge x0 s1 x3; (try clear_value x0 x3); have h2 : Same q m s1 := (State.setCnx_same h0' ..); (try clear_value s1); (try clear_value s1); exact (by split; (· exact (State.beginSearch_same (State.setCnx_same h0' ..) ..)); (· exact (by split; (· exact h2); (· exact (State.beginSearch_same h2 ..)))))))
theorem State.streamBack_same {q m} (h0' : Same q m s0') (a1') : Same q m (State.streamBack s0' a1') := by
  unfold State.streamBack; exact (.ite h0' (by extract_lets -merge s0 s2; have h1 : Same q m s0 := (State.int_same (State.wr_same (State.wr_same h0' ..) ..) ..); (try clear_value s0); have h3 : Same q m s2 := (State.setSrx_same h1 ..); (try clear_value s2); (try clear_value s0 s2); exact (.ite h3 (State.unstand_same h3 ..))))
theorem State.streamTake_same {q m} (h0' : Same q m s0') (a1') : Same q m (State.streamTake s0' a1') := by
  unfold State.streamTake; exact (by extract_lets -merge x0 x1; (try clear_value x0 x1); exact (.foldl h0' (fun _ h2 _ => (.ite (by extract_lets -merge s3 s5; have h4 : Same q m s3 := (State.setSrx_same h2 ..); (try clear_value s3); have h6 : Same q m s5 := (State.wr_same (State.wr_same h4 ..) ..); (try clear_value s5); (try clear_value s3 s5); exact (State.cond_same h6 (fun _ h7 => (State.wr_same h7 ..)) ..)) h2)) _))
theorem State.streamFrame_same {q m} (h0' : Same q m s0') (a1') : Same q m (State.streamFrame s0' a1') := by
  unfold State.streamFrame; exact (by extract_lets -merge s0; have h1 : Same q m s0 := (State.took_same h0' ..); (try clear_value s0); (try clear_value s0); exact (.ite (State.streamTake_same h1 ..) (State.emit_same h1 ..)))
theorem State.streamLost_same {q m} (h0' : Same q m s0') (a1') : Same q m (State.streamLost s0' a1') := by
  unfold State.streamLost; exact (by split; (· exact h0'); (· exact (.ite h0' (by extract_lets -merge s0 s2 x4 s5 s8 x11; (try clear_value x4 x11); have h1 : Same q m s0 := (State.reach_same h0' ..); (try clear_value s0); have h3 : Same q m s2 := (State.dropRemote_same (State.satInc_same (State.wr_same (State.wr_same h1 ..) ..) ..) ..); (try clear_value s2); have h7 : Same q m s5 := (.foldl h3 (fun _ h6 _ => (State.setEst_same (State.setPath_same h6 ..) ..)) _); (try clear_value s5); have h10 : Same q m s8 := (.foldl h7 (fun _ h9 _ => (State.ceilFall_same h9 ..)) _); (try clear_value s8); (try clear_value s0 s2 s5 s8); exact (State.stand_same (State.raiseInt_same h10 ..) ..)))))
theorem State.tapUncorr_kept {q} (h0' : Kept q s0') (a1') : Kept q (State.tapUncorr s0' a1') := by
  unfold State.tapUncorr; exact (by extract_lets -merge x0 s1; (try clear_value x0); have h2 : Kept q s1 := (State.zeroCluster_kept h0' ..); (try clear_value s1); (try clear_value s1); exact (.ite (keep (keep h2 fun h => State.estReset_same h ..) fun h => State.raise_same h ..) (keep h2 fun h => State.raise_same h ..)))

end Sys2Proof.Machine
end

