-- ==== Sys2Proof/Laws/KeepFc.lean ====
section
/-! SUPPORT. What the operations of Machine/Fc.lean keep: the queue, the memory or its canonical form, a legal time of
day. -/
namespace Sys2Proof.Machine
open Sys2Proof
set_option Elab.async false

theorem State.forceBit_same {q m} (h0' : Same q m s0') (a1') (a2') : Same q m (State.forceBit s0' a1' a2') := by
  unfold State.forceBit; exact (.ite (State.refuse_same h0' ..) (by split; (· exact h0'); (· exact (by extract_lets -merge s0; have h1 : Same q m s0 := (State.orBits_same h0' ..); (try clear_value s0); (try clear_value s0); exact (.ite h1 (State.deliver_same h1 ..))))))
theorem State.forceCause_same {q m} (h0' : Same q m s0') (a1') (a2') : Same q m (State.forceCause s0' a1' a2') := by
  unfold State.forceCause; exact (.ite h0' (.foldl h0' (fun _ h0 _ => (State.forceBit_same h0 ..)) _))
theorem State.detectInt_same {q m} (h0' : Same q m s0') (a1') (a2') (a3') (a4') (a5') : Same q m (State.detectInt s0' a1' a2' a3' a4' a5') := by
  unfold State.detectInt; exact (State.raiseInt_same (State.request_same h0' ..) ..)
theorem State.detect_same {q m} (h0' : Same q m s0') (a1') (a2') (a3') (a4') : Same q m (State.detect s0' a1' a2' a3' a4') := by
  unfold State.detect; exact (State.detectInt_same h0' ..)
theorem State.writeCurHost_same {q m} (h0' : Same q m s0') (a1') : Same q m (State.writeCurHost s0' a1') := by
  unfold State.writeCurHost; exact (by extract_lets -merge x0 x1 s2 s4; (try clear_value x0 x1); have h3 : Same q m s2 := (State.wr_same (State.wr_same h0' ..) ..); (try clear_value s2); have h6 : Same q m s4 := (State.cond_same h3 (fun _ h5 => (State.request_same h5 ..)) ..); (try clear_value s4); (try clear_value s2 s4); exact (State.clearCauses_same h6 ..))
theorem State.curRelease_same {q m} (h0' : Same q m s0') (a1') : Same q m (State.curRelease s0' a1') := by
  unfold State.curRelease; exact (by extract_lets -merge x0 x1 x2 x3 x4 x5 s6 s10 s13; (try clear_value x0 x1 x2 x3 x4 x5); have h9 : Same q m s6 := (State.cond_same h0' (fun _ h7 => (.foldl h7 (fun _ h8 _ => (State.setCport_same h8 ..)) _)) ..); (try clear_value s6); have h12 : Same q m s10 := (.foldl h9 (fun _ h11 _ => (State.clearCause_same (State.setCport_same (State.putBit_same h11 ..) ..) ..)) _); (try clear_value s10); have h15 : Same q m s13 := (State.cond_same h12 (fun _ h14 => (State.journal_same h14 ..)) ..); (try clear_value s13); (try clear_value s6 s10 s13); exact (.ite h15 (State.journalInt_same (State.satInc_same h15 ..) ..)))
theorem State.forceSource_same {q m} (h0' : Same q m s0') (a1') (a2') : Same q m (State.forceSource s0' a1' a2') := by
  unfold State.forceSource; exact (.foldl h0' (fun _ h0 _ => (by extract_lets -merge x1; (try clear_value x1); exact (.ite (State.deliver_same h0 ..) h0))) _)
theorem State.writeSev_same {q m} (h0' : Same q m s0') (a1') (a2') : Same q m (State.writeSev s0' a1' a2') := by
  unfold State.writeSev; exact (.ite h0' (by extract_lets -merge x0 x1 x2 x3 s4; (try clear_value x0 x1 x2 x3); have h5 : Same q m s4 := (State.wr_same (State.wr_same (State.wr_same h0' ..) ..) ..); (try clear_value s4); (try clear_value s4); exact (.ite (State.refuse_same h0' ..) (by split; (· exact (.ite h5 (State.journal_same h5 ..)))))))
theorem State.clearOwn_same {q m} (h0' : Same q m s0') (a1') : Same q m (State.clearOwn s0' a1') := by
  unfold State.clearOwn; exact (.foldl h0' (fun _ h0 _ => (State.clearCauses_same h0 ..)) _)
theorem State.ffIdle_same {q m} (h0' : Same q m s0') : Same q m (State.ffIdle s0') := by
  unfold State.ffIdle; exact (.ite (State.wr_same h0' ..) h0')
theorem State.recover_same {q m} (h0' : Same q m s0') (a1') (a2') : Same q m (State.recover s0' a1' a2') := by
  unfold State.recover; exact (by extract_lets -merge x0 x1 x2 s3 s5 x7 x8 s9 s11 s13 s15; (try clear_value x0 x1 x2 x7 x8); have h4 : Same q m s3 := (State.satInc_same (State.setStatus_same h0' ..) ..); (try clear_value s3); have h6 : Same q m s5 := (State.satInc_same h4 ..); (try clear_value s5); have h10 : Same q m s9 := (State.handRec_same h6 ..); (try clear_value s9); have h12 : Same q m s11 := (State.setFcSrc_same h10 ..); (try clear_value s11); have h14 : Same q m s13 := (State.refreshOther_same h12 ..); (try clear_value s13); have h17 : Same q m s15 := (State.cond_same h14 (fun _ h16 => (State.clearCauses_same h16 ..)) ..); (try clear_value s15); (try clear_value s3 s5 s9 s11 s13 s15); exact (State.ffIdle_same h17 ..))
theorem State.hostClearBit_same {q m} (h0' : Same q m s0') (a1') : Same q m (State.hostClearBit s0' a1') := by
  unfold State.hostClearBit; exact (.ite h0' (.ite (State.int_same (State.satInc_same h0' ..) ..) (by extract_lets -merge s0; have h1 : Same q m s0 := (State.recover_same h0' ..); (try clear_value s0); (try clear_value s0); exact (State.cond_same h1 (fun _ h2 => (State.clearOwn_same h2 ..)) ..))))
theorem State.hostClear_same {q m} (h0' : Same q m s0') (a1') (a2') : Same q m (State.hostClear s0' a1' a2') := by
  unfold State.hostClear; exact (.foldl h0' (fun _ h0 _ => (by extract_lets -merge x1; (try clear_value x1); exact (.ite (State.hostClearBit_same h0 ..) h0))) _)
theorem State.ackFirst_same {q m} (h0' : Same q m s0') : Same q m (State.ackFirst s0') := by
  unfold State.ackFirst; exact (.ite h0' (by extract_lets -merge x0 s1; (try clear_value x0); have h2 : Same q m s1 := (State.wr_same h0' ..); (try clear_value s1); (try clear_value s1); exact (State.journal_same h2 ..)))
theorem State.bringCap_same {q m} (h0' : Same q m s0') (a1') : Same q m (State.bringCap s0' a1') := by
  unfold State.bringCap; exact (by split; (· exact h0'); (· exact (by extract_lets -merge x0; (try clear_value x0); exact (State.wr_same (State.setLane_same h0' ..) ..))))
theorem State.newRate_same {q m} (h0' : Same q m s0') (a1') : Same q m (State.newRate s0' a1') := by
  unfold State.newRate; exact (.foldl h0' (fun _ h0 _ => (.ite (State.setLane_same (State.bringCap_same h0 ..) ..) h0)) _)
theorem State.backoffEnd_same {q m} (h0' : Same q m s0') (a1') : Same q m (State.backoffEnd s0' a1') := by
  unfold State.backoffEnd; exact (.ite h0' (by extract_lets -merge s0; have h1 : Same q m s0 := (State.bringCap_same (State.toSample_same h0' ..) ..); (try clear_value s0); (try clear_value s0); exact (.ite (State.endCap_same h1 ..) h1)))
theorem State.curtainComplete_same {q m} (h0' : Same q m s0') (a1') : Same q m (State.curtainComplete s0' a1') := by
  unfold State.curtainComplete; exact (.foldl h0' (fun _ h0 _ => (State.completePort_same h0 ..)) _)
theorem State.startPulse_same {q m} (h0' : Same q m s0') : Same q m (State.startPulse s0') := by
  unfold State.startPulse; exact (State.setFc_same h0' ..)
theorem State.deferredPulse_same {q m} (h0' : Same q m s0') : Same q m (State.deferredPulse s0') := by
  unfold State.deferredPulse; exact (by split; (· exact h0'); (· exact (.ite (State.startPulse_same (State.reach_same h0' ..) ..) h0')))
theorem State.emission_same {q m} (h0' : Same q m s0') (a1') (a2') : Same q m (State.emission s0' a1' a2') := by
  unfold State.emission; exact (.ite (State.detect_same (State.setCv_same h0' ..) ..) h0')
theorem State.pulseLatch_same {q m} (h0' : Same q m s0') : Same q m (State.pulseLatch s0') := by
  unfold State.pulseLatch; exact (.ite h0' (by split; (· exact (.ite (State.setFc_same h0' ..) (State.startPulse_same h0' ..))); (· exact (State.startPulse_same h0' ..))))
theorem State.latchCurtain_same {q m} (h0' : Same q m s0') (a1') : Same q m (State.latchCurtain s0' a1') := by
  unfold State.latchCurtain; exact (.ite h0' (by extract_lets -merge x0 s1 x4 s5; (try clear_value x0 x4); have h3 : Same q m s1 := (by unfold s1; exact (.foldl h0' (fun _ h2 _ => (by split; (· exact (State.request_same h2 ..)))) _)); (try clear_value s1); have h6 : Same q m s5 := (State.setFcSrc_same h3 ..); (try clear_value s5); (try clear_value s1 s5); exact (.ite (State.oscReset_same h6 ..) h6)))
theorem State.latch_same {q m} (h0' : Same q m s0') (a1') : Same q m (State.latch s0' a1') := by
  unfold State.latch; exact (by extract_lets -merge x0 x1 x2 x3 s4 s6 s8 s10 s13 x15 s16 s27 x33 x34 s35 s37 s39; (try clear_value x0 x1 x2 x3 x15 x33 x34); have h5 : Same q m s4 := (State.setStatus_same h0' ..); (try clear_value s4); have h7 : Same q m s6 := (State.wr_same h5 ..); (try clear_value s6); have h9 : Same q m s8 := (State.setFcSrc_same h7 ..); (try clear_value s8); have h12 : Same q m s10 := (State.cond_same h9 (fun _ h11 => (State.pulseLatch_same h11 ..)) ..); (try clear_value s10); have h14 : Same q m s13 := (State.latchCurtain_same h12 ..); (try clear_value s13); have h26 : Same q m s16 := (by unfold s16; exact (State.cond_same h14 (fun _ h17 => (by extract_lets -merge s18 s20 s22 s24; have h19 : Same q m s18 := (State.wr_same (State.wr_same (State.wr_same h17 ..) ..) ..); (try clear_value s18); have h21 : Same q m s20 := (State.wr_same (State.wr_same (State.wr_same h19 ..) ..) ..); (try clear_value s20); have h23 : Same q m s22 := (State.wr_same (State.wr_same h21 ..) ..); (try clear_value s22); have h25 : Same q m s24 := (State.wr_same (State.wr_same h23 ..) ..); (try clear_value s24); (try clear_value s18 s20 s22 s24); exact (State.wr_same (State.wr_same h25 ..) ..))) ..)); (try clear_value s16); have h32 : Same q m s27 := (by unfold s27; exact (State.cond_same h26 (fun _ h28 => (by extract_lets -merge s29; have h31 : Same q m s29 := (State.cond_same (State.satInc_same h28 ..) (fun _ h30 => (State.satInc_same h30 ..)) ..); (try clear_value s29); (try clear_value s29); exact (State.wr_same h31 ..))) ..)); (try clear_value s27); have h36 : Same q m s35 := (State.handRec_same h32 ..); (try clear_value s35); have h38 : Same q m s37 := (State.auditBook_same (State.setPb_same h36 ..) ..); (try clear_value s37); have h41 : Same q m s39 := (State.cond_same h38 (fun _ h40 => (State.snapTrig_same h40 ..)) ..); (try clear_value s39); (try clear_value s4 s6 s8 s10 s13 s16 s27 s35 s37 s39); exact (State.alert_same h41 ..))
theorem State.epochLatch_same {q m} (h0' : Same q m s0') : Same q m (State.epochLatch s0') := by
  unfold State.epochLatch; exact (.ite h0' (by extract_lets -merge s0 x2; (try clear_value x2); have h1 : Same q m s0 := (State.reach_same h0' ..); (try clear_value s0); (try clear_value s0); exact (.foldl (State.setFc_same h1 ..) (fun _ h3 _ => (State.latch_same h3 ..)) _)))
theorem State.faultEvent_same {q m} (h0' : Same q m s0') (a1') (a2') (a3') : Same q m (State.faultEvent s0' a1' a2' a3') := by
  unfold State.faultEvent; exact (.ite (State.raise_same h0' ..) h0')
theorem State.liftComplete_same {q m} (h0' : Same q m s0') (a1') : Same q m (State.liftComplete s0' a1') := by
  unfold State.liftComplete; exact (by split; (· exact (.ite h0' (State.liftDone_same (State.reach_same h0' ..) ..))); (· exact (.ite (State.liftDone_same h0' ..) h0')); (· exact h0'))
theorem State.oscillation_same {q m} (h0' : Same q m s0') (a1') : Same q m (State.oscillation s0' a1') := by
  unfold State.oscillation; exact (.ite (by extract_lets -merge x0; (try clear_value x0); exact (State.oscReset_same (State.detect_same h0' ..) ..)) h0')
theorem State.oscGrowth_same {q m} (h0' : Same q m s0') (a1') : Same q m (State.oscGrowth s0' a1') := by
  unfold State.oscGrowth; exact (.ite (State.oscillation_same (State.setLane_same h0' ..) ..) h0')
theorem State.oscLine_same {q m} (h0' : Same q m s0') (a1') : Same q m (State.oscLine s0' a1') := by
  unfold State.oscLine; exact (.ite (State.oscillation_same (State.setLane_same h0' ..) ..) h0')
theorem State.overdrive_same {q m} (h0' : Same q m s0') (a1') : Same q m (State.overdrive s0' a1') := by
  unfold State.overdrive; exact (.ite (State.detect_same (State.setCv_same h0' ..) ..) h0')
theorem State.pathStart_same {q m} (h0' : Same q m s0') (a1') : Same q m (State.pathStart s0' a1') := by
  unfold State.pathStart; exact (by extract_lets -merge x0; (try clear_value x0); exact (.ite (State.setPath_same (State.reach_same h0' ..) ..) h0'))
theorem State.portQuietEnd_same {q m} (h0' : Same q m s0') (a1') (a2') : Same q m (State.portQuietEnd s0' a1' a2') := by
  unfold State.portQuietEnd; exact (by split; (· exact h0'); (· exact (by split; (· exact (by extract_lets -merge x0 x1 s2; (try clear_value x0 x1); have h3 : Same q m s2 := (State.clearCause_same (State.reach_same h0' ..) ..); (try clear_value s2); (try clear_value s2); exact (.ite (State.recover_same h3 ..) h3))); (· exact h0'))))
theorem State.pulseEnd_same {q m} (h0' : Same q m s0') : Same q m (State.pulseEnd s0') := by
  unfold State.pulseEnd; exact (by split; (· exact h0'); (· exact (by extract_lets -merge s0; have h1 : Same q m s0 := (State.reach_same h0' ..); (try clear_value s0); (try clear_value s0); exact (State.setFc_same h1 ..))))
theorem State.slnParity_same {q m} (h0' : Same q m s0') : Same q m (State.slnParity s0') := by
  unfold State.slnParity; exact (by split; (· exact h0'); (· exact (State.raise_same h0' ..)))
theorem State.sourceRecovery_same {q m} (h0' : Same q m s0') (a1') : Same q m (State.sourceRecovery s0' a1') := by
  unfold State.sourceRecovery; exact (by extract_lets -merge x0; (try clear_value x0); exact (by split; (· exact h0'); (· exact (.ite h0' (State.recover_same (State.reach_same h0' ..) ..)))))
theorem State.tapUpdate_kept {q} (h0' : Kept q s0') (a1') (a2') : Kept q (State.tapUpdate s0' a1' a2') := by
  unfold State.tapUpdate; exact (by extract_lets -merge s0 x3; (try clear_value x3); have h2 : Kept q s0 := (State.cond_kept (keep h0' fun h => State.toSample_same h ..) (fun _ h1 => (keep h1 fun h => State.satAdd_same h ..)) ..); (try clear_value s0); (try clear_value s0); exact (.foldl h2 (fun _ h4 _ => (by extract_lets -merge x5 s6; (try clear_value x5); have h7 : Kept q s6 := (keep h4 fun h => State.setPath_same h ..); (try clear_value s6); (try clear_value s6); exact (.ite (.ite h7 (State.lms_kept h7 ..)) h4))) _))

end Sys2Proof.Machine
end

