-- ==== Sys2Proof/Laws/KeepPb.lean ====
section
/-! SUPPORT. What the operations of Machine/Pb.lean keep: the queue, the memory or its canonical form, a legal time of
day. -/
namespace Sys2Proof.Machine
open Sys2Proof
set_option Elab.async false

theorem State.verifyStop_same {q m} (h0' : Same q m s0') : Same q m (State.verifyStop s0') := by
  unfold State.verifyStop; exact (.ite (State.setPb_same h0' ..) h0')
theorem State.pbReadGo_same {q m} (h0' : Same q m s0') : Same q m (State.pbReadGo s0') := by
  unfold State.pbReadGo; exact (by extract_lets -merge x0; (try clear_value x0); exact (State.wr_same (State.setPb_same h0' ..) ..))
theorem State.verifyGo_same {q m} (h0' : Same q m s0') : Same q m (State.verifyGo s0') := by
  unfold State.verifyGo; exact (.ite h0' (by extract_lets -merge x0 s1; (try clear_value x0); have h2 : Same q m s1 := (State.setPb_same h0' ..); (try clear_value s1); (try clear_value s1); exact (State.wr_same (State.wr_same (State.wr_same (State.wr_same h2 ..) ..) ..) ..)))
theorem State.writePbCfg_same {q m} (h0' : Same q m s0') (a1') : Same q m (State.writePbCfg s0' a1') := by
  unfold State.writePbCfg; exact (.ite (State.refuse_same h0' ..) (by extract_lets -merge s0; have h2 : Same q m s0 := (State.cond_same h0' (fun _ h1 => (State.setPb_same (State.audited_same (State.closeOpen_same h1 ..) ..) ..)) ..); (try clear_value s0); (try clear_value s0); exact (State.wrWord_same h2 ..)))
theorem State.waitMet_same {q m} (h0' : Same q m s0') : Same q m (State.waitMet s0') := by
  unfold State.waitMet; exact (.ite (State.unstand_same h0' ..) h0')
theorem State.confirm_same {q m} (h0' : Same q m s0') (a1') : Same q m (State.confirm s0' a1') := by
  unfold State.confirm; exact (by split; (· exact h0'); (· exact (.ite (by extract_lets -merge s0 s2; have h1 : Same q m s0 := (State.programmed_same h0' ..); (try clear_value s0); have h3 : Same q m s2 := (State.setPb_same h1 ..); (try clear_value s2); (try clear_value s0 s2); exact (State.waitMet_same h3 ..)) h0')))
theorem State.pbReadDone_same {q m} (h0' : Same q m s0') : Same q m (State.pbReadDone s0') := by
  unfold State.pbReadDone; exact (by split; (· exact h0'); (· exact (by split; (· exact (by extract_lets -merge s0 s2; have h1 : Same q m s0 := (State.setPb_same h0' ..); (try clear_value s0); have h4 : Same q m s2 := (by unfold s2; exact (by split; (· exact (.foldl h1 (fun _ h3 _ => (State.wr_same h3 ..)) _)); (· exact h1))); (try clear_value s2); (try clear_value s0 s2); exact (State.int_same (State.wr_same (State.wr_same (State.wr_same h4 ..) ..) ..) ..))))))
theorem State.flushPeriodic_same {q m} (h0' : Same q m s0') : Same q m (State.flushPeriodic s0') := by
  unfold State.flushPeriodic; exact (by extract_lets -merge s0; have h1 : Same q m s0 := (State.toMul_same h0' ..); (try clear_value s0); (try clear_value s0); exact (State.setPb_same (State.auditBook_same h1 ..) ..))
theorem State.foldEnd_same {q m} (h0' : Same q m s0') : Same q m (State.foldEnd s0') := by
  unfold State.foldEnd; exact (by split; (· exact h0'); (· exact (State.audited_same (State.closeOpen_same (State.reach_same h0' ..) ..) ..)))
theorem State.gapRecord_same {q m} (h0' : Same q m s0') (a1') (a2') : Same q m (State.gapRecord s0' a1' a2') := by
  unfold State.gapRecord; exact (State.journalInt_same h0' ..)
theorem State.gapsOwed_same {q m} (h0' : Same q m s0') : Same q m (State.gapsOwed s0') := by
  unfold State.gapsOwed; exact (by extract_lets -merge x0; (try clear_value x0); exact (.foldl (State.setPb_same h0' ..) (fun _ h1 _ => (State.gapRecord_same h1 ..)) _))
theorem State.letWaiting_same {q m} (h0' : Same q m s0') : Same q m (State.letWaiting s0') := by
  unfold State.letWaiting; exact (by split; (· exact h0'); (· exact (.ite h0' (by extract_lets -merge s0 x2 s3; (try clear_value x2); have h1 : Same q m s0 := (State.setPb_same h0' ..); (try clear_value s0); have h4 : Same q m s3 := (.ite (State.audited_same (State.enter_same (State.closeOpen_same h1 ..) ..) ..) (State.holdRec_same h1 ..)); (try clear_value s3); (try clear_value s0 s3); exact (State.waitMet_same h4 ..)))))
theorem State.pfail_same {q m} (h0' : Same q m s0') (a1') : Same q m (State.pfail s0' a1') := by
  unfold State.pfail; exact (by extract_lets -merge s0 s2 x4 s5 s7; (try clear_value x4); have h1 : Same q m s0 := (State.setPb_same h0' ..); (try clear_value s0); have h3 : Same q m s2 := (State.closeOpen_same h1 ..); (try clear_value s2); have h6 : Same q m s5 := (.ite (State.audited_same (State.closeOpen_same (State.enter_same h3 ..) ..) ..) h3); (try clear_value s5); have h8 : Same q m s7 := (State.satInc_same h6 ..); (try clear_value s7); (try clear_value s0 s2 s5 s7); exact (.ite h1 (.ite (State.setPb_same h8 ..) (State.setPb_same h8 ..))))
theorem State.vaultDone_same {q m} (h0' : Same q m s0') : Same q m (State.vaultDone s0') := by
  unfold State.vaultDone; exact (.ite (State.setPb_same h0' ..) h0')
theorem State.resumeRecording_same {q m} (h0' : Same q m s0') : Same q m (State.resumeRecording s0') := by
  unfold State.resumeRecording; exact (.ite (by extract_lets -merge s0 s2; have h1 : Same q m s0 := (State.vaultDone_same h0' ..); (try clear_value s0); have h3 : Same q m s2 := (State.setPb_same h1 ..); (try clear_value s2); (try clear_value s0 s2); exact (State.gapsOwed_same (State.journal_same h3 ..) ..)) h0')
theorem State.pfailRise_same {q m} (h0' : Same q m s0') : Same q m (State.pfailRise s0') := by
  unfold State.pfailRise; exact (State.resumeRecording_same (State.setPb_same h0' ..) ..)
theorem State.rateEnd_same {q m} (h0' : Same q m s0') : Same q m (State.rateEnd s0') := by
  unfold State.rateEnd; exact (.ite (State.audited_same (State.rlEnd_same (State.toMul_same h0' ..) ..) ..) h0')
theorem State.recordArrival_same {q m} (h0' : Same q m s0') (a1') (a2') (a3') (a4') : Same q m (State.recordArrival s0' a1' a2' a3' a4') := by
  unfold State.recordArrival; exact (State.journal_same h0' ..)
theorem State.restore_same {q m} (h0' : Same q m s0') (a1') (a2') : Same q m (State.restore s0' a1' a2') := by
  unfold State.restore; exact (.ite h0' (by extract_lets -merge x0 x1 x2 x3 x4 s5 s9 s11 x13 x14 s15 x17 s18 s20 s22 x24 s25 s27 x29 s30 s32 s34 x36 s37; (try clear_value x0 x1 x2 x3 x4 x13 x14 x17 x24 x29 x36); have h8 : Same q m s5 := (State.cond_same h0' (fun _ h6 => (.foldl h6 (fun _ h7 _ => (State.programmed_same h7 ..)) _)) ..); (try clear_value s5); have h10 : Same q m s9 := (State.setPb_same h8 ..); (try clear_value s9); have h12 : Same q m s11 := (State.setPb_same h10 ..); (try clear_value s11); have h16 : Same q m s15 := (State.setPb_same h12 ..); (try clear_value s15); have h19 : Same q m s18 := (.ite (State.gapRecord_same h16 ..) h16); (try clear_value s18); have h21 : Same q m s20 := (.ite (State.raise_same h19 ..) h12); (try clear_value s20); have h23 : Same q m s22 := (State.gapsOwed_same (State.auditBook_same h21 ..) ..); (try clear_value s22); have h26 : Same q m s25 := (State.setPb_same h23 ..); (try clear_value s25); have h28 : Same q m s27 := (.ite (State.journal_same (State.setStm_same h26 ..) ..) h23); (try clear_value s27); have h31 : Same q m s30 := (State.journal_same h28 ..); (try clear_value s30); have h33 : Same q m s32 := (State.setPb_same (State.closeOpen_same h31 ..) ..); (try clear_value s32); have h35 : Same q m s34 := (.ite (State.journal_same h33 ..) h31); (try clear_value s34); have h38 : Same q m s37 := (State.setPb_same h35 ..); (try clear_value s37); (try clear_value s5 s9 s11 s15 s18 s20 s22 s25 s27 s30 s32 s34 s37); exact (.foldl h38 (fun _ h39 _ => (State.enter_same (State.closeOpen_same h39 ..) ..)) _)))
theorem State.restoreStart_same {q m} (h0' : Same q m s0') : Same q m (State.restoreStart s0') := by
  unfold State.restoreStart; exact (.ite (State.restore_same h0' ..) h0')
theorem State.stagingLost_same {q m} (h0' : Same q m s0') (a1') : Same q m (State.stagingLost s0' a1') := by
  unfold State.stagingLost; exact (by split; (· exact h0'); (· exact (by split; rename_i x7 s6 e4; have h5 : Same q m s6 := .snd e4 (.ite2 (.pr2 h0') (by split; rename_i x3 s2 e0; have h1 : Same q m s2 := .snd e0 (State.draw_same h0' ..); exact (.pr2 h1))); exact (by extract_lets -merge s8 s10; have h9 : Same q m s8 := (State.setPb_same h5 ..); (try clear_value s8); have h11 : Same q m s10 := (State.raise_same h9 ..); (try clear_value s10); (try clear_value s8 s10); exact (.ite (State.setPb_same h11 ..) (State.gapRecord_same h11 ..))))))
theorem State.vaultUncorr_same {q m} (h0' : Same q m s0') : Same q m (State.vaultUncorr s0') := by
  unfold State.vaultUncorr; exact (State.raise_same h0' ..)
theorem State.verifyDone_same {q m} (h0' : Same q m s0') (a1') : Same q m (State.verifyDone s0' a1') := by
  unfold State.verifyDone; exact (.ite h0' (by extract_lets -merge x0 x1 x2 s3 s5; (try clear_value x0 x1 x2); have h4 : Same q m s3 := (State.wr_same (State.wr_same (State.wr_same h0' ..) ..) ..); (try clear_value s3); have h7 : Same q m s5 := (by unfold s5; exact (by split; (· exact h4); (· exact (by extract_lets -merge x6; (try clear_value x6); exact (State.wr_same (State.wr_same (State.wr_same h4 ..) ..) ..))))); (try clear_value s5); (try clear_value s3 s5); exact (State.int_same h7 ..)))

end Sys2Proof.Machine
end

