-- ==== Sys2Proof/Laws/KeepTwc.lean ====
section
/-! SUPPORT. What the operations of Machine/Twc.lean keep: the queue, the memory or its canonical form, a legal time of
day. -/
namespace Sys2Proof.Machine
open Sys2Proof
set_option Elab.async false

theorem State.pollFail_same {q m} (h0' : Same q m s0') (a1') (a2') : Same q m (State.pollFail s0' a1' a2') := by
  unfold State.pollFail; exact (State.raise_same (State.int_same (State.satInc_same (State.wr_same h0' ..) ..) ..) ..)
theorem State.setTw_same {q m} (h0' : Same q m s0') (a1') (a2') : Same q m (State.setTw s0' a1' a2') := by
  unfold State.setTw; exact (.upd h0')
theorem State.regFail_same {q m} (h0' : Same q m s0') (a1') (a2') (a3') : Same q m (State.regFail s0' a1' a2' a3') := by
  unfold State.regFail; exact (by extract_lets -merge s0 s2; have h1 : Same q m s0 := (State.setTw_same h0' ..); (try clear_value s0); have h3 : Same q m s2 := (State.int_same (State.satInc_same (State.wr_same h1 ..) ..) ..); (try clear_value s2); (try clear_value s0 s2); exact (State.stand_same (State.raise_same h3 ..) ..))
theorem State.cmdEnd_same {q m} (h0' : Same q m s0') (a1') (a2') (a3') (a4') : Same q m (State.cmdEnd s0' a1' a2' a3' a4') := by
  unfold State.cmdEnd; exact (by extract_lets -merge s0 s2 s5; have h1 : Same q m s0 := (State.wr_same (State.wr_same (State.wr_same h0' ..) ..) ..); (try clear_value s0); have h4 : Same q m s2 := (by unfold s2; exact (.foldl h1 (fun _ h3 _ => (by split; (· exact (State.wrBits_same h3 ..)))) _)); (try clear_value s2); have h6 : Same q m s5 := (State.int_same h4 ..); (try clear_value s5); (try clear_value s0 s2 s5); exact (State.cond_same h6 (fun _ h7 => (State.int_same h7 ..)) ..))
theorem State.failWaiting_same {q m} (h0' : Same q m s0') (a1') : Same q m (State.failWaiting s0' a1') := by
  unfold State.failWaiting; exact (by extract_lets -merge x0 s1 s3 s5; (try clear_value x0); have h2 : Same q m s1 := (State.setTw_same h0' ..); (try clear_value s1); have h4 : Same q m s3 := (by unfold s3; exact (by split; (· exact (State.regFail_same h2 ..)); (· exact h2))); (try clear_value s3); have h7 : Same q m s5 := (State.cond_same h4 (fun _ h6 => (State.cmdEnd_same h6 ..)) ..); (try clear_value s5); (try clear_value s1 s3 s5); exact (.foldl h7 (fun _ h8 _ => (State.pollFail_same h8 ..)) _))
theorem State.twStart_same {q m} (h0' : Same q m s0') (a1') (a2') : Same q m (State.twStart s0' a1' a2') := by
  unfold State.twStart; exact (by extract_lets -merge s0; have h1 : Same q m s0 := (State.satInc_same (State.wr_same h0' ..) ..); (try clear_value s0); (try clear_value s0); exact (by split; (· exact (State.setTw_same h1 ..)); (· exact (State.setTw_same h1 ..)); (· exact (State.setTw_same h1 ..))))
theorem State.clearStart_same {q m} (h0' : Same q m s0') (a1') : Same q m (State.clearStart s0' a1') := by
  unfold State.clearStart; exact (State.satInc_same (State.setTw_same h0' ..) ..)
theorem State.twNext_same {q m} (h0' : Same q m s0') (a1') : Same q m (State.twNext s0' a1') := by
  unfold State.twNext; exact (by extract_lets -merge x0; (try clear_value x0); exact (.ite h0' (.ite (State.clearStart_same h0' ..) (by split; (· exact h0'); (· exact (.ite (by split; (· exact (.ite (State.failWaiting_same h0' ..) (State.clearStart_same h0' ..))); (· exact (State.clearStart_same h0' ..))) (State.twStart_same h0' ..)))))))
theorem State.regRequest_same {q m} (h0' : Same q m s0') (a1') : Same q m (State.regRequest s0' a1') := by
  unfold State.regRequest; exact (by split; (· exact (State.satInc_same h0' ..)); (· exact (State.twNext_same (State.setTw_same h0' ..) ..)))
theorem State.writeTwcTimeA_same {q m} (h0' : Same q m s0') (a1') (a2') : Same q m (State.writeTwcTimeA s0' a1' a2') := by
  unfold State.writeTwcTimeA; exact (by extract_lets -merge x0 x1; (try clear_value x0 x1); exact (.ite (State.refuse_same h0' ..) (State.wrWord_same h0' ..)))
theorem State.writeTwcTimeB_same {q m} (h0' : Same q m s0') (a1') (a2') : Same q m (State.writeTwcTimeB s0' a1' a2') := by
  unfold State.writeTwcTimeB; exact (.ite (State.refuse_same h0' ..) (State.wrWord_same h0' ..))
theorem State.twClear_same {q m} (h0' : Same q m s0') (a1') : Same q m (State.twClear s0' a1') := by
  unfold State.twClear; exact (State.twNext_same (State.setTw_same h0' ..) ..)
theorem State.regDone_same {q m} (h0' : Same q m s0') (a1') (a2') : Same q m (State.regDone s0' a1' a2') := by
  unfold State.regDone; exact (State.unstand_same (State.wr_same (State.wr_same h0' ..) ..) ..)
theorem State.pollDone_same {q m} (h0' : Same q m s0') (a1') (a2') (a3') : Same q m (State.pollDone s0' a1' a2' a3') := by
  unfold State.pollDone; exact (by extract_lets -merge x0 x1 x2 x3; (try clear_value x0 x1 x2 x3); exact (State.wr_same (State.wr_same (State.wr_same h0' ..) ..) ..))
theorem State.twResult_same {q m} (h0' : Same q m s0') (a1') (a2') (a3') (a4') : Same q m (State.twResult s0' a1' a2' a3' a4') := by
  unfold State.twResult; exact (by split; (· exact h0'); (· exact (by extract_lets -merge s0; have h1 : Same q m s0 := (State.wr_same (State.wr_same (State.setTw_same h0' ..) ..) ..); (try clear_value s0); (try clear_value s0); exact (by split; (· exact (.ite (State.regDone_same h1 ..) (State.regFail_same h1 ..))); (· exact (State.cmdEnd_same h1 ..)); (· exact (.ite (State.pollDone_same h1 ..) (State.pollFail_same h1 ..)))))))
theorem State.twAbort_same {q m} (h0' : Same q m s0') (a1') : Same q m (State.twAbort s0' a1') := by
  unfold State.twAbort; exact (by extract_lets -merge s0; have h1 : Same q m s0 := (State.twResult_same h0' ..); (try clear_value s0); (try clear_value s0); exact (State.twNext_same (State.setTw_same h1 ..) ..))
theorem State.writeTwcCtl_same {q m} (h0' : Same q m s0') (a1') (a2') : Same q m (State.writeTwcCtl s0' a1' a2') := by
  unfold State.writeTwcCtl; exact (by extract_lets -merge s0; have h2 : Same q m s0 := (State.cond_same h0' (fun _ h1 => (State.twAbort_same h1 ..)) ..); (try clear_value s0); (try clear_value s0); exact (State.cond_same h2 (fun _ h3 => (State.twClear_same h3 ..)) ..))
theorem State.writeTwcCfg_same {q m} (h0' : Same q m s0') (a1') (a2') : Same q m (State.writeTwcCfg s0' a1' a2') := by
  unfold State.writeTwcCfg; exact (.ite (State.refuse_same h0' ..) (State.twNext_same (State.wrWord_same h0' ..) ..))
theorem State.writePollA_same {q m} (h0' : Same q m s0') (a1') (a2') (a3') : Same q m (State.writePollA s0' a1' a2' a3') := by
  unfold State.writePollA; exact (by extract_lets -merge x0 x1 s2 s4; (try clear_value x0 x1); have h3 : Same q m s2 := (State.wrWord_same h0' ..); (try clear_value s2); have h6 : Same q m s4 := (State.cond_same h3 (fun _ h5 => (State.wr_same h5 ..)) ..); (try clear_value s4); (try clear_value s2 s4); exact (State.cond_same h6 (fun _ h7 => (State.setTw_same h7 ..)) ..))
theorem State.writeRegCfg_same {q m} (h0' : Same q m s0') (a1') (a2') : Same q m (State.writeRegCfg s0' a1' a2') := by
  unfold State.writeRegCfg; exact (.ite (State.refuse_same h0' ..) (State.wrWord_same h0' ..))
theorem State.writeTwcCmd_same {q m} (h0' : Same q m s0') (a1') (a2') : Same q m (State.writeTwcCmd s0' a1' a2') := by
  unfold State.writeTwcCmd; exact (by extract_lets -merge x0 x1 s2; (try clear_value x0 x1); have h3 : Same q m s2 := (State.wrWord_same h0' ..); (try clear_value s2); (try clear_value s2); exact (.ite (State.refuse_same h0' ..) (.ite (State.refuse_same h0' ..) (.ite h3 (State.twNext_same (State.setTw_same (State.wr_same h3 ..) ..) ..)))))
theorem State.clearDone_same {q m} (h0' : Same q m s0') (a1') (a2') : Same q m (State.clearDone s0' a1' a2') := by
  unfold State.clearDone; exact (.ite h0' (by extract_lets -merge s0 s2; have h1 : Same q m s0 := (State.setTw_same h0' ..); (try clear_value s0); have h3 : Same q m s2 := (State.wr_same (State.wr_same h1 ..) ..); (try clear_value s2); (try clear_value s0 s2); exact (.ite (State.twNext_same (State.unstand_same h3 ..) ..) (State.failWaiting_same (State.int_same (State.stand_same (State.raise_same h3 ..) ..) ..) ..))))
theorem State.pollDue_same {q m} (h0' : Same q m s0') (a1') (a2') : Same q m (State.pollDue s0' a1' a2') := by
  unfold State.pollDue; exact (by extract_lets -merge x0 s1; (try clear_value x0); have h2 : Same q m s1 := (State.toMul_same h0' ..); (try clear_value s1); (try clear_value s1); exact (.ite h0' (.ite (State.satInc_same h2 ..) (State.twNext_same (State.setTw_same h2 ..) ..))))
theorem State.regRetry_same {q m} (h0' : Same q m s0') (a1') : Same q m (State.regRetry s0' a1') := by
  unfold State.regRetry; exact (by split; (· exact h0'); (· exact (State.twNext_same (State.setTw_same (State.reach_same h0' ..) ..) ..)))
theorem State.twDone_same {q m} (h0' : Same q m s0') (a1') (a2') (a3') (a4') : Same q m (State.twDone s0' a1' a2' a3' a4') := by
  unfold State.twDone; exact (.ite h0' (by extract_lets -merge s0 s2; have h1 : Same q m s0 := (State.twResult_same h0' ..); (try clear_value s0); have h4 : Same q m s2 := (State.cond_same h1 (fun _ h3 => (State.setTw_same h3 ..)) ..); (try clear_value s2); (try clear_value s0 s2); exact (State.twNext_same h4 ..)))

end Sys2Proof.Machine
end

