-- ==== Sys2Proof/Laws/KeepFab.lean ====
section
/-! SUPPORT. What the operations of Machine/Fab.lean keep: the queue, the memory or its canonical form, a legal time of
day. -/
namespace Sys2Proof.Machine
open Sys2Proof
set_option Elab.async false

theorem State.setLedger_same {q m} (h0' : Same q m s0') (a1') (a2') : Same q m (State.setLedger s0' a1' a2') := by
  unfold State.setLedger; exact (State.setFab_same h0' ..)
theorem State.syncTo_same {q m} (h0' : Same q m s0') (a1') (a2') : Same q m (State.syncTo s0' a1' a2') := by
  unfold State.syncTo; exact (.ite (State.setLedger_same h0' ..) h0')
theorem State.writeFabCfg_same {q m} (h0' : Same q m s0') (a1') : Same q m (State.writeFabCfg s0' a1') := by
  unfold State.writeFabCfg; exact (by extract_lets -merge x0 x1; (try clear_value x0 x1); exact (.ite (State.refuse_same h0' ..) (State.wrWord_same h0' ..)))
theorem State.writeVlim_same {q m} (h0' : Same q m s0') (a1') : Same q m (State.writeVlim s0' a1') := by
  unfold State.writeVlim; exact (by extract_lets -merge x0 x1; (try clear_value x0 x1); exact (.ite (State.refuse_same h0' ..) (State.wrWord_same h0' ..)))
theorem State.minClr_same {q m} (h0' : Same q m s0') : Same q m (State.minClr s0') := by
  unfold State.minClr; exact (State.setFab_same h0' ..)
theorem State.sendMv_same {q m} (h0' : Same q m s0') (a1') (a2') : Same q m (State.sendMv s0' a1' a2') := by
  unfold State.sendMv; exact (State.regRequest_same (State.wr_same (State.wr_same h0' ..) ..) ..)
theorem State.coreRequest_same {q m} (h0' : Same q m s0') (a1') (a2') : Same q m (State.coreRequest s0' a1' a2') := by
  unfold State.coreRequest; exact (by extract_lets -merge x0 x1 x2 x3; (try clear_value x0 x1 x2 x3); exact (.ite h0' (State.sendMv_same h0' ..)))
theorem State.writeVreq_same {q m} (h0' : Same q m s0') (a1') (a2') : Same q m (State.writeVreq s0' a1' a2') := by
  unfold State.writeVreq; exact (by extract_lets -merge s0 s2; have h1 : Same q m s0 := (State.wrWord_same h0' ..); (try clear_value s0); have h3 : Same q m s2 := (State.wrWord_same h1 ..); (try clear_value s2); (try clear_value s0 s2); exact (.ite (State.satInc_same h1 ..) (State.cond_same h3 (fun _ h4 => (State.coreRequest_same h4 ..)) ..)))
theorem State.writeLedgClr_same {q m} (h0' : Same q m s0') (a1') : Same q m (State.writeLedgClr s0' a1') := by
  unfold State.writeLedgClr; exact (by extract_lets -merge x0 s1; (try clear_value x0); have h2 : Same q m s1 := (State.wr_same h0' ..); (try clear_value s1); (try clear_value s1); exact (.ite h2 (State.setFab_same h2 ..)))
theorem State.setAudit_same {q m} (h0' : Same q m s0') : Same q m (State.setAudit s0') := by
  unfold State.setAudit; exact (by split; (· exact (State.wr_same (State.wr_same h0' ..) ..)); (· exact (State.wr_same (State.wr_same h0' ..) ..)))
theorem State.ledgerCheck_same {q m} (h0' : Same q m s0') (a1') : Same q m (State.ledgerCheck s0' a1') := by
  unfold State.ledgerCheck; exact (by extract_lets -merge x0 x1 s2 s4 x6; (try clear_value x0 x1 x6); have h3 : Same q m s2 := (State.setAudit_same (State.setLedger_same h0' ..) ..); (try clear_value s2); have h5 : Same q m s4 := (State.stand_same (State.raiseInt_same h3 ..) ..); (try clear_value s4); (try clear_value s2 s4); exact (.ite h0' (State.journals_same h5 ..)))
theorem State.ledgerCopy_same {q m} (h0' : Same q m s0') (a1') : Same q m (State.ledgerCopy s0' a1') := by
  unfold State.ledgerCopy; exact (by extract_lets -merge x0 s1 s3 s5 s7 s9 s11; (try clear_value x0); have h2 : Same q m s1 := (State.wrPair_same h0' ..); (try clear_value s1); have h4 : Same q m s3 := (State.wrPair_same h2 ..); (try clear_value s3); have h6 : Same q m s5 := (State.wrPair_same h4 ..); (try clear_value s5); have h8 : Same q m s7 := (State.wrPair_same h6 ..); (try clear_value s7); have h10 : Same q m s9 := (State.wr_same (State.wr_same h8 ..) ..); (try clear_value s9); have h12 : Same q m s11 := (State.wr_same (State.wr_same (State.wr_same h10 ..) ..) ..); (try clear_value s11); (try clear_value s1 s3 s5 s7 s9 s11); exact (State.wr_same (State.setFab_same h12 ..) ..))
theorem State.writeSnap_same {q m} (h0' : Same q m s0') (a1') : Same q m (State.writeSnap s0' a1') := by
  unfold State.writeSnap; exact (by extract_lets -merge x0 s1 s3; (try clear_value x0); have h2 : Same q m s1 := (State.wr_same h0' ..); (try clear_value s1); have h4 : Same q m s3 := (State.wr_same h2 ..); (try clear_value s3); (try clear_value s1 s3); exact (.ite h2 (.ite (State.setFab_same h4 ..) (State.ledgerCheck_same (State.ledgerCopy_same h4 ..) ..))))
theorem State.syncLedger_same {q m} (h0' : Same q m s0') (a1') : Same q m (State.syncLedger s0' a1') := by
  unfold State.syncLedger; exact (State.syncTo_same h0' ..)
theorem State.clearApply_same {q m} (h0' : Same q m s0') : Same q m (State.clearApply s0') := by
  unfold State.clearApply; exact (by split; (· exact h0'); (· exact (by extract_lets -merge s0 s2; have h1 : Same q m s0 := (State.syncLedger_same (State.reach_same h0' ..) ..); (try clear_value s0); have h3 : Same q m s2 := (State.setLedger_same h1 ..); (try clear_value s2); (try clear_value s0 s2); exact (State.unstand_same (State.setAudit_same (State.setFab_same h3 ..) ..) ..))))
theorem State.holdoffDone_same {q m} (h0' : Same q m s0') : Same q m (State.holdoffDone s0') := by
  unfold State.holdoffDone; exact (by split; (· exact h0'); (· exact (by extract_lets -merge s0; have h1 : Same q m s0 := (State.reach_same h0' ..); (try clear_value s0); (try clear_value s0); exact (.ite h1 (State.wr_same (State.setFab_same h1 ..) ..)))))
theorem State.ledgerAudit_same {q m} (h0' : Same q m s0') (a1') : Same q m (State.ledgerAudit s0' a1') := by
  unfold State.ledgerAudit; exact (by extract_lets -merge s0 x2 s3 s6; (try clear_value x2); have h1 : Same q m s0 := (State.toMul_same h0' ..); (try clear_value s0); have h5 : Same q m s3 := (.foldl h1 (fun _ h4 _ => (State.syncLedger_same h4 ..)) _); (try clear_value s3); have h8 : Same q m s6 := (by unfold s6; exact (.foldl h5 (fun _ h7 _ => (by split; (· exact (State.setLedger_same h7 ..)))) _)); (try clear_value s6); (try clear_value s0 s3 s6); exact (.foldl h8 (fun _ h9 _ => (State.ledgerCheck_same h9 ..)) _))
theorem State.voltageGuard_same {q m} (h0' : Same q m s0') (a1') : Same q m (State.voltageGuard s0' a1') := by
  unfold State.voltageGuard; exact (by extract_lets -merge s0 s2; have h1 : Same q m s0 := (State.setFab_same h0' ..); (try clear_value s0); have h4 : Same q m s2 := (State.cond_same h1 (fun _ h3 => (State.sendMv_same h3 ..)) ..); (try clear_value s2); (try clear_value s0 s2); exact (State.satInc_same (State.int_same (State.wr_same h4 ..) ..) ..))
theorem State.slackWindowEnd_same {q m} (h0' : Same q m s0') (a1') : Same q m (State.slackWindowEnd s0' a1') := by
  unfold State.slackWindowEnd; exact (by extract_lets -merge s0 x2 s3 x5 x6 s7 s9 s11; (try clear_value x2 x5 x6); have h1 : Same q m s0 := (State.toMul_same h0' ..); (try clear_value s0); have h4 : Same q m s3 := (State.setFab_same h1 ..); (try clear_value s3); have h8 : Same q m s7 := (State.wr_same h4 ..); (try clear_value s7); have h10 : Same q m s9 := (by unfold s9; exact (by split; (· exact (State.wr_same h8 ..)); (· exact h8))); (try clear_value s9); have h13 : Same q m s11 := (.ite (State.stand_same (State.raise_same (State.wr_same h10 ..) ..) ..) (State.cond_same (State.wr_same h10 ..) (fun _ h12 => (State.unstand_same h12 ..)) ..)); (try clear_value s11); (try clear_value s0 s3 s7 s9 s11); exact (.ite (State.voltageGuard_same h13 ..) (.ite (State.setFab_same h13 ..) (State.setFab_same h13 ..))))
theorem State.snapDone_same {q m} (h0' : Same q m s0') : Same q m (State.snapDone s0') := by
  unfold State.snapDone; exact (by split; (· exact h0'); (· exact (by extract_lets -merge s0; have h1 : Same q m s0 := (State.syncLedger_same (State.reach_same h0' ..) ..); (try clear_value s0); (try clear_value s0); exact (State.ledgerCheck_same (State.ledgerCopy_same h1 ..) ..))))
theorem State.wingsLoss_same {q m} (h0' : Same q m s0') (a1') : Same q m (State.wingsLoss s0' a1') := by
  unfold State.wingsLoss; exact (by extract_lets -merge s0; have h1 : Same q m s0 := (State.raiseInt_same (State.satInc_same h0' ..) ..); (try clear_value s0); (try clear_value s0); exact (.foldl h1 (fun _ h2 _ => (by split; (· exact (State.setLedger_same (State.syncLedger_same h2 ..) ..)))) _))
theorem State.wingsWarning_same {q m} (h0' : Same q m s0') (a1') (a2') : Same q m (State.wingsWarning s0' a1' a2') := by
  unfold State.wingsWarning; exact (by extract_lets -merge x0 x1 x2 s3; (try clear_value x0 x1 x2); have h4 : Same q m s3 := (State.setFab_same h0' ..); (try clear_value s3); (try clear_value s3); exact (.ite h4 (.ite (State.voltageGuard_same (State.stand_same (State.raiseInt_same h4 ..) ..) ..) (.ite h4 (State.unstand_same h4 ..)))))

end Sys2Proof.Machine
end

