-- ==== Sys2Proof/Laws/KeepSpt.lean ====
section
/-! SUPPORT. What the operations of Machine/Spt.lean keep: the queue, the memory or its canonical form, a legal time of
day. -/
namespace Sys2Proof.Machine
open Sys2Proof
set_option Elab.async false

theorem State.setCtx_same {q m} (h0' : Same q m s0') (a1') (a2') : Same q m (State.setCtx s0' a1' a2') := by
  unfold State.setCtx; exact (.upd h0')
theorem State.writeCtx_same {q m} (h0' : Same q m s0') (a1') (a2') (a3') : Same q m (State.writeCtx s0' a1' a2' a3') := by
  unfold State.writeCtx; exact (by extract_lets -merge x0 x1 x2; (try clear_value x0 x1 x2); exact (.ite (.ite (State.int_same (State.satInc_same h0' ..) ..) (State.int_same (State.satInc_same h0' ..) ..)) (State.setCtx_same h0' ..)))
theorem State.sptWr_same {q m} (h0' : Same q m s0') (a1') (a2') (a3') (a4') : Same q m (State.sptWr s0' a1' a2' a3' a4') := by
  unfold State.sptWr; exact (State.wr_same h0' ..)
theorem State.setSl_same {q m} (h0' : Same q m s0') (a1') (a2') : Same q m (State.setSl s0' a1' a2') := by
  unfold State.setSl; exact (.upd h0')
theorem State.setStuck_same {q m} (h0' : Same q m s0') : Same q m (State.setStuck s0') := by
  unfold State.setStuck; exact (by split; (· exact (State.wr_same (State.wr_same h0' ..) ..)); (· exact (State.wr_same (State.wr_same h0' ..) ..)))
theorem State.sptStop_same {q m} (h0' : Same q m s0') (a1') : Same q m (State.sptStop s0' a1') := by
  unfold State.sptStop; exact (.ite (by extract_lets -merge s0 s3 s5; have h2 : Same q m s0 := (.foldl h0' (fun _ h1 _ => (.ite (State.setCtx_same h1 ..) h1)) _); (try clear_value s0); have h4 : Same q m s3 := (State.sptWr_same (State.sptWr_same h2 ..) ..); (try clear_value s3); have h7 : Same q m s5 := (State.cond_same h4 (fun _ h6 => (State.wr_same h6 ..)) ..); (try clear_value s5); (try clear_value s0 s3 s5); exact (State.setStuck_same (State.setSl_same h7 ..) ..)) h0')
theorem State.sptWr0_same {q m} (h0' : Same q m s0') (a1') (a2') (a3') (a4') : Same q m (State.sptWr0 s0' a1' a2' a3' a4') := by
  unfold State.sptWr0; exact (State.wr_same h0' ..)
theorem State.setSptLoad_same {q m} (h0' : Same q m s0') (a1') : Same q m (State.setSptLoad s0' a1') := by
  unfold State.setSptLoad; exact (State.sptWr0_same h0' ..)
theorem State.sptDisarm_same {q m} (h0' : Same q m s0') (a1') (a2') : Same q m (State.sptDisarm s0' a1' a2') := by
  unfold State.sptDisarm; exact (by extract_lets -merge s0 s2 s4; have h1 : Same q m s0 := (State.sptWr_same (State.sptStop_same h0' ..) ..); (try clear_value s0); have h3 : Same q m s2 := (State.sptWr_same h1 ..); (try clear_value s2); have h6 : Same q m s4 := (State.cond_same h3 (fun _ h5 => (State.sptWr_same h5 ..)) ..); (try clear_value s4); (try clear_value s0 s2 s4); exact (State.setSptLoad_same h6 ..))
theorem State.sptRetire_same {q m} (h0' : Same q m s0') (a1') : Same q m (State.sptRetire s0' a1') := by
  unfold State.sptRetire; exact (.ite (State.sptDisarm_same h0' ..) h0')
theorem State.freshCtxs_same {q m} (h0' : Same q m s0') (a1') : Same q m (State.freshCtxs s0' a1') := by
  unfold State.freshCtxs; exact (by extract_lets -merge x0; (try clear_value x0); exact (State.setStuck_same (.foldl h0' (fun _ h1 _ => (State.setCtx_same h1 ..)) _) ..))
theorem State.sptActive_same {q m} (h0' : Same q m s0') (a1') : Same q m (State.sptActive s0' a1') := by
  unfold State.sptActive; exact (.ite h0' (by extract_lets -merge s0 s2 s4; have h1 : Same q m s0 := (State.freshCtxs_same (State.setSl_same h0' ..) ..); (try clear_value s0); have h3 : Same q m s2 := (State.sptWr_same (State.sptWr_same h1 ..) ..); (try clear_value s2); have h5 : Same q m s4 := (State.sptWr_same h3 ..); (try clear_value s4); (try clear_value s0 s2 s4); exact (State.cond_same h5 (fun _ h6 => (State.setLat_same (State.wr_same h6 ..) ..)) ..)))
theorem State.holdCfg_same {q m} (h0' : Same q m s0') (a1') : Same q m (State.holdCfg s0' a1') := by
  unfold State.holdCfg; exact (.foldl h0' (fun _ h0 _ => (.ite (by extract_lets -merge x1; (try clear_value x1); exact (State.setSl_same h0 ..)) h0)) _)
theorem State.ctxCopy_same {q m} (h0' : Same q m s0') (a1') (a2') : Same q m (State.ctxCopy s0' a1' a2') := by
  unfold State.ctxCopy; exact (by extract_lets -merge x0 x1 s2; (try clear_value x0 x1); have h4 : Same q m s2 := (.foldl h0' (fun _ h3 _ => (State.wr_same h3 ..)) _); (try clear_value s2); (try clear_value s2); exact (State.wr_same h4 ..))
theorem State.setSpt_same {q m} (h0' : Same q m s0') (a1') : Same q m (State.setSpt s0' a1') := by
  unfold State.setSpt; exact (.upd h0')
theorem State.writeCtxSnap_same {q m} (h0' : Same q m s0') (a1') (a2') : Same q m (State.writeCtxSnap s0' a1' a2') := by
  unfold State.writeCtxSnap; exact (by extract_lets -merge x0 s1 s3 g5; (try clear_value x0); have h2 : Same q m s1 := (State.wr_same h0' ..); (try clear_value s1); have h4 : Same q m s3 := (State.wr_same h2 ..); (try clear_value s3); have h7 : ∀ y0, Same q m y0 → ∀ y1, Same q m (g5 y0 y1) := (fun _ h6 _ => (State.setSpt_same h6 ..)); (try clear_value s1 s3); exact (.ite h2 (by split; (· exact (.ite (h7 _ h4 _) (State.ctxCopy_same (h7 _ h4 _) ..))); (· exact (State.ctxCopy_same (h7 _ h4 _) ..)))))
theorem State.writeSptMap_same {q m} (h0' : Same q m s0') (a1') (a2') : Same q m (State.writeSptMap s0' a1' a2') := by
  unfold State.writeSptMap; exact (.ite (State.sptWr_same h0' ..) (State.wrWord_same h0' ..))
theorem State.sptArm_same {q m} (h0' : Same q m s0') (a1') : Same q m (State.sptArm s0' a1') := by
  unfold State.sptArm; exact (by extract_lets -merge s0 s2; have h1 : Same q m s0 := (State.setSptLoad_same (State.sptWr_same (State.sptWr_same h0' ..) ..) ..); (try clear_value s0); have h3 : Same q m s2 := (State.freshCtxs_same (State.setSl_same h1 ..) ..); (try clear_value s2); (try clear_value s0 s2); exact (State.cond_same h3 (fun _ h4 => (State.sptActive_same h4 ..)) ..))
theorem State.sptBegin_same {q m} (h0' : Same q m s0') (a1') (a2') : Same q m (State.sptBegin s0' a1' a2') := by
  unfold State.sptBegin; exact (.ite h0' (by extract_lets -merge x0 x1 x2 x3 x4 x5; (try clear_value x0 x1 x2 x3 x4 x5); exact (State.setSl_same h0' ..)))
theorem State.writeSptCfg_same {q m} (h0' : Same q m s0') (a1') (a2') : Same q m (State.writeSptCfg s0' a1' a2') := by
  unfold State.writeSptCfg; exact (by extract_lets -merge x0 s1 s3 s5; (try clear_value x0); have h2 : Same q m s1 := (State.wrWord_same h0' ..); (try clear_value s1); have h4 : Same q m s3 := (State.int_same h2 ..); (try clear_value s3); have h6 : Same q m s5 := (State.sptArm_same h4 ..); (try clear_value s5); (try clear_value s1 s3 s5); exact (.ite (.ite (State.sptWr_same h0' ..) (.ite (State.wrWord_same (State.sptDisarm_same h0' ..) ..) (State.setSl_same h0' ..))) (.ite h2 (by split; (· exact (State.refuse_same (State.sptWr_same (State.sptWr_same h4 ..) ..) ..)); (· exact (.ite (State.sptBegin_same h6 ..) h6))))))
theorem State.holdProt_same {q m} (h0' : Same q m s0') : Same q m (State.holdProt s0') := by
  unfold State.holdProt; exact (.upd h0')
theorem State.ctxInterval_same {q m} (h0' : Same q m s0') : Same q m (State.ctxInterval s0') := by
  unfold State.ctxInterval; exact (by extract_lets -merge s0; have h1 : Same q m s0 := (State.setSpt_same h0' ..); (try clear_value s0); (try clear_value s0); exact (State.int_same (State.int_same h1 ..) ..))
theorem State.ctxSnapDone_same {q m} (h0' : Same q m s0') (a1') : Same q m (State.ctxSnapDone s0' a1') := by
  unfold State.ctxSnapDone; exact (by split; (· exact h0'); (· exact (by extract_lets -merge x0; (try clear_value x0); exact (.ite (State.ctxCopy_same (State.setSpt_same h0' ..) ..) h0'))))
theorem State.ctxStuck_same {q m} (h0' : Same q m s0') (a1') : Same q m (State.ctxStuck s0' a1') := by
  unfold State.ctxStuck; exact (by extract_lets -merge x0 x1; (try clear_value x0 x1); exact (by split; (· exact h0'); (· exact (.ite h0' (by extract_lets -merge s2; have h3 : Same q m s2 := (State.reach_same h0' ..); (try clear_value s2); (try clear_value s2); exact (State.int_same (State.setStuck_same (State.setCtx_same h3 ..) ..) ..))))))
theorem State.ctxUncorr_same {q m} (h0' : Same q m s0') (a1') (a2') : Same q m (State.ctxUncorr s0' a1' a2') := by
  unfold State.ctxUncorr; exact (by extract_lets -merge x0 x1 s2 x5 x6 s7 s9 x11 s12; (try clear_value x0 x1 x5 x6 x11); have h4 : Same q m s2 := (.foldl h0' (fun _ h3 _ => (State.setSl_same h3 ..)) _); (try clear_value s2); have h8 : Same q m s7 := (State.setCtx_same h0' ..); (try clear_value s7); have h10 : Same q m s9 := (State.setStuck_same h8 ..); (try clear_value s9); have h13 : Same q m s12 := (by unfold s12; exact (by split; (· exact (.ite (State.setSl_same h10 ..) h10)); (· exact h10))); (try clear_value s12); (try clear_value s2 s7 s9 s12); exact (.ite (State.raise_same h4 ..) (State.raise_same h13 ..)))
theorem State.frameNc_same {q m} (h0' : Same q m s0') (a1') : Same q m (State.frameNc s0' a1').2 := by
  unfold State.frameNc; exact (by extract_lets -merge x0 s1 x3 x4 x5; (try clear_value x0 x3 x4 x5); have h2 : Same q m s1 := (State.setSl_same h0' ..); (try clear_value s1); (try clear_value s1); exact (.ite2 (.pr2 h0') (.ite2 (.pr2 (State.wr_same (State.wr_same h2 ..) ..)) (.pr2 (State.wr_same (State.wr_same h2 ..) ..)))))
theorem State.sptSample_same {q m} (h0' : Same q m s0') (a1') (a2') (a3') (a4') (a5') : Same q m (State.sptSample s0' a1' a2' a3' a4' a5') := by
  unfold State.sptSample; exact (by extract_lets -merge x0 x1 x2 x3; (try clear_value x0 x1 x2 x3); exact (.ite h0' (State.setSl_same h0' ..)))
theorem State.measPwr_same {q m} (h0' : Same q m s0') (a1') (a2') : Same q m (State.measPwr s0' a1' a2') := by
  unfold State.measPwr; exact (by extract_lets -merge x0 x1 s2 s4 x6; (try clear_value x0 x1 x6); have h3 : Same q m s2 := (State.wr_same h0' ..); (try clear_value s2); have h5 : Same q m s4 := (.ite h3 (State.wr_same h3 ..)); (try clear_value s4); (try clear_value s2 s4); exact (.ite (.upd h5) h5))
theorem State.windowClose_same {q m} (h0' : Same q m s0') (a1') (a2') : Same q m (State.windowClose s0' a1' a2') := by
  unfold State.windowClose; exact (.ite h0' (by extract_lets -merge s0 x2 x3 s4 x7 x8 x9 x10 x11 x12 x13 x14 x15 x16 x17 x18 x19 s20 s23 s26 x29 s30 s32 s35 s37; (try clear_value x2 x3 x7 x8 x9 x10 x11 x12 x13 x14 x15 x16 x17 x18 x19 x29); have h1 : Same q m s0 := (State.reach_same h0' ..); (try clear_value s0); have h6 : Same q m s4 := (State.cond_same h1 (fun _ h5 => (State.satAdd_same h5 ..)) ..); (try clear_value s4); have h22 : Same q m s20 := (.ite h6 (.foldl h6 (fun _ h21 _ => (State.setCtx_same h21 ..)) _)); (try clear_value s20); have h25 : Same q m s23 := (by unfold s23; exact (State.cond_same h22 (fun _ h24 => (by split; (· exact (State.setSl_same h24 ..)))) ..)); (try clear_value s23); have h28 : Same q m s26 := (State.cond_same h25 (fun _ h27 => (State.measPwr_same h27 ..)) ..); (try clear_value s26); have h31 : Same q m s30 := (State.setSl_same h28 ..); (try clear_value s30); have h34 : Same q m s32 := (State.cond_same h31 (fun _ h33 => (State.int_same (State.sptWr_same h33 ..) ..)) ..); (try clear_value s32); have h36 : Same q m s35 := (State.sptWr_same h34 ..); (try clear_value s35); have h38 : Same q m s37 := (State.setStuck_same h36 ..); (try clear_value s37); (try clear_value s0 s4 s20 s23 s26 s30 s32 s35 s37); exact (by split; (· exact (.ite (State.sptDisarm_same h38 ..) h38)); (· exact h38))))

end Sys2Proof.Machine
end

