-- ==== Sys2Proof/Laws/KeepTdd.lean ====
section
/-! SUPPORT. What the operations of Machine/Tdd.lean keep: the queue, the memory or its canonical form, a legal time of
day. -/
namespace Sys2Proof.Machine
open Sys2Proof
set_option Elab.async false

theorem State.tddStand_same {q m} (h0' : Same q m s0') : Same q m (State.tddStand s0') := by
  unfold State.tddStand; exact (by extract_lets -merge s0; have h1 : Same q m s0 := (.ite (State.unstand_same h0' ..) (State.stand_same h0' ..)); (try clear_value s0); (try clear_value s0); exact (.ite (State.unstand_same h1 ..) (State.stand_same h1 ..)))
theorem State.setTdd_same {q m} (h0' : Same q m s0') (a1') : Same q m (State.setTdd s0' a1') := by
  unfold State.setTdd; exact (.upd h0')
theorem State.guardCheck_same {q m} (h0' : Same q m s0') (a1') : Same q m (State.guardCheck s0' a1') := by
  unfold State.guardCheck; exact (by extract_lets -merge x0 s1; (try clear_value x0); have h2 : Same q m s1 := (State.tddStand_same (State.setTdd_same h0' ..) ..); (try clear_value s1); (try clear_value s1); exact (.ite h0' (State.raiseInt_same h2 ..)))
theorem State.guardDrop_same {q m} (h0' : Same q m s0') (a1') : Same q m (State.guardDrop s0' a1') := by
  unfold State.guardDrop; exact (by extract_lets -merge x0; (try clear_value x0); exact (State.tddStand_same (State.setTdd_same h0' ..) ..))
theorem State.cancelSwap_same {q m} (h0' : Same q m s0') (a1') : Same q m (State.cancelSwap s0' a1') := by
  unfold State.cancelSwap; exact (.ite (State.int_same (State.wr_same (State.putBit_same h0' ..) ..) ..) h0')
theorem State.writeTddCtl_same {q m} (h0' : Same q m s0') (a1') : Same q m (State.writeTddCtl s0' a1') := by
  unfold State.writeTddCtl; exact (by extract_lets -merge x0 s1 x3 x4; (try clear_value x0 x3 x4); have h2 : Same q m s1 := (State.wr_same (State.wr_same h0' ..) ..); (try clear_value s1); (try clear_value s1); exact (.ite h2 (by split; (· exact (State.int_same (State.cancelSwap_same (State.refuse_same (State.wr_same h2 ..) ..) ..) ..)); (· exact (State.setTdd_same (State.putBit_same (State.wr_same h2 ..) ..) ..)))))
theorem State.writeTddBank_same {q m} (h0' : Same q m s0') (a1') (a2') (a3') (a4') (a5') : Same q m (State.writeTddBank s0' a1' a2' a3' a4' a5') := by
  unfold State.writeTddBank; exact (.ite (State.satInc_same h0' ..) (by extract_lets -merge s0; have h1 : Same q m s0 := (State.wrWord_same h0' ..); (try clear_value s0); (try clear_value s0); exact (by split; (· exact (.ite (State.cancelSwap_same h1 ..) h1)); (· exact h1))))
theorem State.bankEcc_same {q m} (h0' : Same q m s0') (a1') : Same q m (State.bankEcc s0' a1') := by
  unfold State.bankEcc; exact (by extract_lets -merge x0 s1; (try clear_value x0); have h2 : Same q m s1 := (.ite h0' (State.tddStand_same (State.setTdd_same h0' ..) ..)); (try clear_value s1); (try clear_value s1); exact (State.raise_same h2 ..))
theorem State.swapApply_same {q m} (h0' : Same q m s0') (a1') : Same q m (State.swapApply s0' a1') := by
  unfold State.swapApply; exact (by split; (· exact h0'); (· exact (by extract_lets -merge s0 s2 s4 s6 x8 s9; (try clear_value x8); have h1 : Same q m s0 := (State.reach_same h0' ..); (try clear_value s0); have h3 : Same q m s2 := (State.putBit_same (State.putBit_same h1 ..) ..); (try clear_value s2); have h5 : Same q m s4 := (State.int_same (State.putBit_same h3 ..) ..); (try clear_value s4); have h7 : Same q m s6 := (State.setTdd_same h5 ..); (try clear_value s6); have h10 : Same q m s9 := (.ite (State.setTdd_same h7 ..) h7); (try clear_value s9); (try clear_value s0 s2 s4 s6 s9); exact (State.tddStand_same h10 ..))))

end Sys2Proof.Machine
end

