-- ==== Sys2Proof/Laws/KeepTime.lean ====
section
/-! SUPPORT. What the operations of Machine/Time.lean keep: the queue, the memory or its canonical form, a legal time of
day. -/
namespace Sys2Proof.Machine
open Sys2Proof
set_option Elab.async false

theorem State.donorLatch_same {q m} (h0' : Same q m s0') (a1') : Same q m (State.donorLatch s0' a1') := by
  unfold State.donorLatch; exact (by extract_lets -merge x0; (try clear_value x0); exact (.ite h0' (State.detect_same (State.stand_same h0' ..) ..)))
theorem State.lossEval_same {q m} (h0' : Same q m s0') (a1') : Same q m (State.lossEval s0' a1') := by
  unfold State.lossEval; exact (by extract_lets -merge x0 x1 s2 x5; (try clear_value x0 x1 x5); have h4 : Same q m s2 := (State.cond_same h0' (fun _ h3 => (State.setCport_same (State.unstand_same h3 ..) ..)) ..); (try clear_value s2); (try clear_value s2); exact (State.setRport_same h4 ..))
theorem State.lossAll_same {q m} (h0' : Same q m s0') : Same q m (State.lossAll s0') := by
  unfold State.lossAll; exact (.foldl h0' (fun _ h0 _ => (State.lossEval_same h0 ..)) _)
theorem State.presUpdate_same {q m} (h0' : Same q m s0') (a1') : Same q m (State.presUpdate s0' a1') := by
  unfold State.presUpdate; exact (by extract_lets -merge x0; (try clear_value x0); exact (.ite h0' (State.lossAll_same (State.int_same (State.wr_same h0' ..) ..) ..)))
theorem State.setNoSrc_same {q m} (h0' : Same q m s0') : Same q m (State.setNoSrc s0') := by
  unfold State.setNoSrc; exact (State.wr_same h0' ..)
theorem State.setDet_same {q m} (h0' : Same q m s0') (a1') (a2') : Same q m (State.setDet s0' a1' a2') := by
  unfold State.setDet; exact (by extract_lets -merge x0 s1 s3 s6 s8; (try clear_value x0); have h2 : Same q m s1 := (State.wr_same h0' ..); (try clear_value s1); have h5 : Same q m s3 := (State.cond_same h2 (fun _ h4 => (State.int_same h4 ..)) ..); (try clear_value s3); have h7 : Same q m s6 := (State.wr_same h5 ..); (try clear_value s6); have h9 : Same q m s8 := (State.setNoSrc_same h7 ..); (try clear_value s8); (try clear_value s1 s3 s6 s8); exact (State.presUpdate_same h9 ..))
theorem State.setTimeState_same {q m} (h0' : Same q m s0') (a1') : Same q m (State.setTimeState s0' a1') := by
  unfold State.setTimeState; exact (by extract_lets -merge x0 x1 x2 s3 s5 s7 s10; (try clear_value x0 x1 x2); have h4 : Same q m s3 := (State.int_same (State.wr_same (State.wr_same h0' ..) ..) ..); (try clear_value s3); have h6 : Same q m s5 := (State.setTime_same h4 ..); (try clear_value s5); have h9 : Same q m s7 := (State.cond_same h6 (fun _ h8 => (State.wr_same (State.wr_same h8 ..) ..)) ..); (try clear_value s7); have h12 : Same q m s10 := (State.cond_same h9 (fun _ h11 => (State.setTime_same (State.wr_same (State.wr_same h11 ..) ..) ..)) ..); (try clear_value s10); (try clear_value s3 s5 s7 s10); exact (.ite h0' (.ite (State.donorLatch_same h12 ..) (.ite (State.unstand_same (State.unstand_same h12 ..) ..) h12))))
theorem State.holdover_same {q m} (h0' : Same q m s0') : Same q m (State.holdover s0') := by
  unfold State.holdover; exact (by extract_lets -merge x0; (try clear_value x0); exact (.ite (by split; (· exact (by extract_lets -merge x1; (try clear_value x1); exact (State.setTime_same (State.wr_same (State.setTimeState_same h0' ..) ..) ..)))) h0'))
theorem State.donorLost_same {q m} (h0' : Same q m s0') : Same q m (State.donorLost s0') := by
  unfold State.donorLost; exact (.ite h0' (by extract_lets -merge s0; have h1 : Same q m s0 := (State.wr_same (State.setTime_same h0' ..) ..); (try clear_value s0); (try clear_value s0); exact (.ite (State.holdover_same h1 ..) h1)))
theorem State.detIdle_same {q m} (h0' : Same q m s0') (a1') : Same q m (State.detIdle s0' a1') := by
  unfold State.detIdle; exact (State.donorLost_same (State.setDet_same (State.wr_same h0' ..) ..) ..)
theorem State.detLaneOff_same {q m} (h0' : Same q m s0') (a1') : Same q m (State.detLaneOff s0' a1') := by
  unfold State.detLaneOff; exact (.foldl h0' (fun _ h0 _ => (.ite (State.detIdle_same h0 ..) h0)) _)
theorem State.writePpsi_same {q m} (h0' : Same q m s0') (a1') : Same q m (State.writePpsi s0' a1') := by
  unfold State.writePpsi; exact (.ite (State.refuse_same h0' ..) (by extract_lets -merge x0 s1; (try clear_value x0); have h2 : Same q m s1 := (State.setNoSrc_same (State.wrWord_same h0' ..) ..); (try clear_value s1); (try clear_value s1); exact (State.cond_same h2 (fun _ h3 => (State.holdover_same h3 ..)) ..)))
theorem State.writeDet_same {q m} (h0' : Same q m s0') (a1') (a2') : Same q m (State.writeDet s0' a1' a2') := by
  unfold State.writeDet; exact (by extract_lets -merge x0 s1 s4; (try clear_value x0); have h3 : Same q m s1 := (State.cond_same h0' (fun _ h2 => (State.detIdle_same h2 ..)) ..); (try clear_value s1); have h5 : Same q m s4 := (State.wrWord_same h3 ..); (try clear_value s4); (try clear_value s1 s4); exact (.ite h5 (by split; (· exact (State.refuse_same (State.wr_same (State.wr_same h5 ..) ..) ..)); (· exact (State.setDet_same (State.wr_same h5 ..) ..)))))
theorem State.writeOsc_same {q m} (h0' : Same q m s0') (a1') : Same q m (State.writeOsc s0' a1') := by
  unfold State.writeOsc; exact (.ite (State.setTime_same (State.wr_same h0' ..) ..) h0')
theorem State.tuneHost_same {q m} (h0' : Same q m s0') : Same q m (State.tuneHost s0') := by
  unfold State.tuneHost; exact (State.cond_same h0' (fun _ h0 => (State.wr_same h0 ..)) ..)
theorem State.writeTimeCfg_same {q m} (h0' : Same q m s0') (a1') : Same q m (State.writeTimeCfg s0' a1') := by
  unfold State.writeTimeCfg; exact (by extract_lets -merge x0 x1 s2 s4 s6; (try clear_value x0 x1); have h3 : Same q m s2 := (State.wrWord_same h0' ..); (try clear_value s2); have h5 : Same q m s4 := (State.wr_same h3 ..); (try clear_value s4); have h7 : Same q m s6 := (.ite h5 (.ite (State.setTimeState_same h5 ..) (.ite (State.holdover_same h5 ..) h5))); (try clear_value s6); (try clear_value s2 s4 s6); exact (.ite (State.refuse_same h0' ..) (State.tuneHost_same h7 ..)))
theorem State.timeOut_same {q m} (h0' : Same q m s0') : Same q m (State.timeOut s0') := by
  unfold State.timeOut; exact (by extract_lets -merge g0 s3 s6; have h2 : ∀ y0, Same q m y0 → ∀ y1, Same q m (g0 y0 y1) := (fun _ h1 _ => (State.emit_same h1 ..)); have h5 : Same q m s3 := (State.cond_same h0' (fun _ h4 => (h2 _ h4 _)) ..); (try clear_value s3); have h8 : Same q m s6 := (State.cond_same h5 (fun _ h7 => (h2 _ h7 _)) ..); (try clear_value s6); (try clear_value s3 s6); exact (State.setTime_same h8 ..))
theorem State.calGo_same {q m} (h0' : Same q m s0') : Same q m (State.calGo s0') := by
  unfold State.calGo; exact (.ite (State.timeOut_same (State.setTime_same h0' ..) ..) (State.refuse_same h0' ..))
theorem State.timeSnap_same {q m} (h0' : Same q m s0') : Same q m (State.timeSnap s0') := by
  unfold State.timeSnap; exact (by extract_lets -merge s0 s2 s4; have h1 : Same q m s0 := (State.setTime_same h0' ..); (try clear_value s0); have h3 : Same q m s2 := (State.wr_same (State.wr_same h1 ..) ..); (try clear_value s2); have h5 : Same q m s4 := (State.wr_same h3 ..); (try clear_value s4); (try clear_value s0 s2 s4); exact (State.wr_same h5 ..))
theorem State.realignGo_same {q m} (h0' : Same q m s0') : Same q m (State.realignGo s0') := by
  unfold State.realignGo; exact (.ite (State.setTime_same h0' ..) h0')
theorem State.writeTimeCtl_same {q m} (h0' : Same q m s0') (a1') : Same q m (State.writeTimeCtl s0' a1') := by
  unfold State.writeTimeCtl; exact (by extract_lets -merge s0 s3; have h2 : Same q m s0 := (State.cond_same h0' (fun _ h1 => (State.timeSnap_same h1 ..)) ..); (try clear_value s0); have h5 : Same q m s3 := (State.cond_same h2 (fun _ h4 => (State.realignGo_same h4 ..)) ..); (try clear_value s3); (try clear_value s0 s3); exact (State.cond_same h5 (fun _ h6 => (State.calGo_same h6 ..)) ..))
theorem State.writeTimeLoop_same {q m} (h0' : Same q m s0') (a1') : Same q m (State.writeTimeLoop s0' a1') := by
  unfold State.writeTimeLoop; exact (by extract_lets -merge x0 x1; (try clear_value x0 x1); exact (.ite (State.refuse_same h0' ..) (State.wrWord_same h0' ..)))
theorem State.writeHold_same {q m} (h0' : Same q m s0') (a1') : Same q m (State.writeHold s0' a1') := by
  unfold State.writeHold; exact (.ite (State.refuse_same h0' ..) (State.wrWord_same h0' ..))
theorem State.ringTimeLost_same {q m} (h0' : Same q m s0') : Same q m (State.ringTimeLost s0') := by
  unfold State.ringTimeLost; exact (.ite h0' (State.int_same (State.holdover_same (State.setTime_same h0' ..) ..) ..))
theorem State.averageDelta_same {q m} (h0' : Same q m s0') (a1') : Same q m (State.averageDelta s0' a1') := by
  unfold State.averageDelta; exact (by extract_lets -merge x0 x1; (try clear_value x0 x1); exact (State.setTime_same (State.wrSat_same h0' ..) ..))
theorem State.stepTod_same {q m} (h0' : Same q m s0') (a1') (a2') : Same q m (State.stepTod s0' a1' a2') := by
  unfold State.stepTod; exact (by extract_lets -merge x0 x1 x2 s3 s5; (try clear_value x0 x1 x2); have h4 : Same q m s3 := (State.setStm_same (State.setTod_same h0' ..) ..); (try clear_value s3); have h6 : Same q m s5 := (State.journalInt_same (State.satInc_same h4 ..) ..); (try clear_value s5); (try clear_value s3 s5); exact (.ite h0' (.ite (State.setTdd_same h6 ..) h6)))
theorem State.calApply_same {q m} (h0' : Same q m s0') : Same q m (State.calApply s0') := by
  unfold State.calApply; exact (by split; (· exact h0'); (· exact (by extract_lets -merge s0 s2 x4 s5 s7; (try clear_value x4); have h1 : Same q m s0 := (State.reach_same h0' ..); (try clear_value s0); have h3 : Same q m s2 := (State.reach_same h1 ..); (try clear_value s2); have h6 : Same q m s5 := (State.stepTod_same (State.wr_same (State.setTime_same h3 ..) ..) ..); (try clear_value s5); have h8 : Same q m s7 := (State.int_same h6 ..); (try clear_value s7); (try clear_value s0 s2 s5 s7); exact (State.cancelSwap_same (State.cancelSwap_same h8 ..) ..))))
theorem State.detLost_same {q m} (h0' : Same q m s0') (a1') : Same q m (State.detLost s0' a1') := by
  unfold State.detLost; exact (.ite (by extract_lets -merge s0; have h1 : Same q m s0 := (State.reach_same h0' ..); (try clear_value s0); (try clear_value s0); exact (State.donorLost_same (State.setDet_same h1 ..) ..)) h0')
theorem State.timeFault_same {q m} (h0' : Same q m s0') (a1') : Same q m (State.timeFault s0' a1') := by
  unfold State.timeFault; exact (State.raise_same (State.cond_same h0' (fun _ h0 => (State.stand_same h0 ..)) ..) ..)
theorem State.srcCheck_same {q m} (h0' : Same q m s0') : Same q m (State.srcCheck s0') := by
  unfold State.srcCheck; exact (.ite (.ite (by extract_lets -merge s0; have h1 : Same q m s0 := (State.toMul_same h0' ..); (try clear_value s0); (try clear_value s0); exact (State.cond_same h1 (fun _ h2 => (State.holdover_same h2 ..)) ..)) h0') (by split; (· exact (by extract_lets -merge s3; have h4 : Same q m s3 := (State.toMul_same h0' ..); (try clear_value s3); (try clear_value s3); exact (State.cond_same h4 (fun _ h5 => (State.ringTimeLost_same h5 ..)) ..))); (· exact h0')))
theorem State.holdEval_same {q m} (h0' : Same q m s0') : Same q m (State.holdEval s0') := by
  unfold State.holdEval; exact (.ite (State.srcCheck_same h0' ..) (.ite h0' (by extract_lets -merge x0 s1 x3 s4; (try clear_value x0 x3); have h2 : Same q m s1 := (State.toMul_same h0' ..); (try clear_value s1); have h5 : Same q m s4 := (State.wr_same (State.wr_same h2 ..) ..); (try clear_value s4); (try clear_value s1 s4); exact (.ite (State.timeFault_same (State.setTimeState_same h5 ..) ..) h5))))
theorem State.kvDone_same {q m} (h0' : Same q m s0') (a1') : Same q m (State.kvDone s0' a1') := by
  unfold State.kvDone; exact (by split; (· exact h0'); (· exact (State.setTime_same (State.wr_same (State.reach_same h0' ..) ..) ..)))
theorem State.restep_same {q m} (h0' : Same q m s0') (a1') : Same q m (State.restep s0' a1') := by
  unfold State.restep; exact (by extract_lets -merge s0; have h1 : Same q m s0 := (State.timeFault_same (State.setTimeState_same h0' ..) ..); (try clear_value s0); (try clear_value s0); exact (State.stepTod_same (State.setTime_same h1 ..) ..))
theorem State.tuneTo_same {q m} (h0' : Same q m s0') (a1') : Same q m (State.tuneTo s0' a1') := by
  unfold State.tuneTo; exact (by extract_lets -merge x0 x1 x2 s3; (try clear_value x0 x1 x2); have h4 : Same q m s3 := (State.wr_same (State.wr_same h0' ..) ..); (try clear_value s3); (try clear_value s3); exact (State.cond_same h4 (fun _ h5 => (State.timeFault_same h5 ..)) ..))
theorem State.tuneLoop_same {q m} (h0' : Same q m s0') : Same q m (State.tuneLoop s0') := by
  unfold State.tuneLoop; exact (.ite h0' (.ite (by split; rename_i x3 s2 e0; have h1 : Same q m s2 := .snd e0 (State.draw_same h0' ..); exact (State.tuneTo_same h1 ..)) (.ite (by split; rename_i x7 s6 e4; have h5 : Same q m s6 := .snd e4 (State.draw_same h0' ..); exact (State.setTime_same h5 ..)) h0')))
theorem State.tryAcquire_same {q m} (h0' : Same q m s0') (a1') (a2') : Same q m (State.tryAcquire s0' a1' a2') := by
  unfold State.tryAcquire; exact (.ite h0' (by split; rename_i s2 x3 e0; have h1 : Same q m s2 := .fst e0 (.ite1 (.pr1 h0') (.pr1 (State.stepTod_same (State.setTime_same h0' ..) ..))); exact (.ite h1 (by extract_lets -merge s4; have h5 : Same q m s4 := (State.setTimeState_same h1 ..); (try clear_value s4); (try clear_value s4); exact (State.setTime_same h5 ..)))))
theorem State.measure_same {q m} (h0' : Same q m s0') (a1') (a2') (a3') : Same q m (State.measure s0' a1' a2' a3') := by
  unfold State.measure; exact (by extract_lets -merge s0 s2 s4 s6 x8 s9 s11; (try clear_value x8); have h1 : Same q m s0 := (State.wrSat_same (State.wrSat_same h0' ..) ..); (try clear_value s0); have h3 : Same q m s2 := (State.setTime_same (State.wr_same h1 ..) ..); (try clear_value s2); have h5 : Same q m s4 := (State.setTimeState_same h3 ..); (try clear_value s4); have h7 : Same q m s6 := (.ite (.ite (State.setTime_same h5 ..) h5) h3); (try clear_value s6); have h10 : Same q m s9 := (.ite (.ite (State.setTimeState_same h7 ..) h7) (.ite (State.setTimeState_same h7 ..) h7)); (try clear_value s9); have h12 : Same q m s11 := (.ite (.ite h7 (State.tryAcquire_same h7 ..)) (.ite (State.restep_same h7 ..) (.ite (State.setTime_same h10 ..) h10))); (try clear_value s11); (try clear_value s0 s2 s4 s6 s9 s11); exact (State.tuneLoop_same h12 ..))
theorem State.refInFail_same {q m} (h0' : Same q m s0') : Same q m (State.refInFail s0') := by
  unfold State.refInFail; exact (.ite h0' (by extract_lets -merge s0; have h1 : Same q m s0 := (State.wr_same (State.setTime_same h0' ..) ..); (try clear_value s0); (try clear_value s0); exact (State.setTimeState_same (State.raise_same (State.stand_same h1 ..) ..) ..)))
theorem State.ppsIn_same {q m} (h0' : Same q m s0') (a1') : Same q m (State.ppsIn s0' a1') := by
  unfold State.ppsIn; exact (by extract_lets -merge x0 x1 x2 x3; (try clear_value x0 x1 x2 x3); exact (.ite (State.int_same (State.wr_same (State.wr_same h0' ..) ..) ..) (.ite (State.measure_same h0' ..) h0')))
theorem State.ppsOut_same {q m} (h0' : Same q m s0') : Same q m (State.ppsOut s0') := by
  unfold State.ppsOut; exact (.ite h0' (by extract_lets -merge x0 x1 s2; (try clear_value x0 x1); have h3 : Same q m s2 := (State.mark_same (.ite h0' (State.reach_same h0' ..)) ..); (try clear_value s2); (try clear_value s2); exact (.ite h3 (State.setTime_same h3 ..))))
theorem State.roleMove_same {q m} (h0' : Same q m s0') (a1') (a2') (a3') : Same q m (State.roleMove s0' a1' a2' a3') := by
  unfold State.roleMove; exact (by extract_lets -merge x0 s1; (try clear_value x0); have h2 : Same q m s1 := (State.setTime_same (State.wr_same h0' ..) ..); (try clear_value s1); (try clear_value s1); exact (State.journalInt_same h2 ..))
theorem State.refReturn_same {q m} (h0' : Same q m s0') : Same q m (State.refReturn s0') := by
  unfold State.refReturn; exact (.ite h0' (by extract_lets -merge x0 g1; (try clear_value x0); have h3 : ∀ y0, Same q m y0 → Same q m (g1 y0) := (fun _ h2 => (State.roleMove_same (State.wr_same (State.setTime_same h2 ..) ..) ..)); exact (by split; (· exact (h3 _ (State.reach_same h0' ..))); (· exact h0'); (· exact (.ite h0' (h3 _ h0'))))))
theorem State.ringSet_same {q m} (h0' : Same q m s0') (a1') (a2') : Same q m (State.ringSet s0' a1' a2') := by
  unfold State.ringSet; exact (by extract_lets -merge x0; (try clear_value x0); exact (State.setTime_same h0' ..))
theorem State.slewHeld_same {q m} (h0' : Same q m s0') : Same q m (State.slewHeld s0') := by
  unfold State.slewHeld; exact (.ite (by extract_lets -merge x0 x1 x2; (try clear_value x0 x1 x2); exact (State.setTime_same h0' ..)) h0')
theorem State.syncDetect_same {q m} (h0' : Same q m s0') (a1') (a2') (a3') (a4') (a5') : Same q m (State.syncDetect s0' a1' a2' a3' a4' a5') := by
  unfold State.syncDetect; exact (by extract_lets -merge x0 x1 x2 s3 s5 s7 s9 x11; (try clear_value x0 x1 x2 x11); have h4 : Same q m s3 := (State.wr_same (State.wr_same h0' ..) ..); (try clear_value s3); have h6 : Same q m s5 := (State.setTime_same h4 ..); (try clear_value s5); have h8 : Same q m s7 := (State.setDet_same h6 ..); (try clear_value s7); have h10 : Same q m s9 := (State.slewHeld_same h8 ..); (try clear_value s9); (try clear_value s3 s5 s7 s9); exact (.ite h0' (.ite h8 (.ite (.ite (State.measure_same h10 ..) h8) (.ite (State.setTime_same (State.averageDelta_same h8 ..) ..) (.ite (State.setTime_same (State.averageDelta_same h8 ..) ..) h8))))))
theorem State.takeover_same {q m} (h0' : Same q m s0') (a1') : Same q m (State.takeover s0' a1') := by
  unfold State.takeover; exact (by extract_lets -merge x0 x1 s2 s4 s6; (try clear_value x0 x1); have h3 : Same q m s2 := (State.setTime_same h0' ..); (try clear_value s2); have h5 : Same q m s4 := (State.setTime_same h0' ..); (try clear_value s4); have h7 : Same q m s6 := (State.stepTod_same (State.roleMove_same h5 ..) ..); (try clear_value s6); (try clear_value s2 s4 s6); exact (.ite (State.roleMove_same (State.wr_same h3 ..) ..) (.ite (State.wr_same (State.setTimeState_same h7 ..) ..) h0')))
theorem State.timeLocked_same {q m} (h0' : Same q m s0') : Same q m (State.timeLocked s0') := by
  unfold State.timeLocked; exact (by split; (· exact (.ite (State.setTimeState_same (State.reach_same h0' ..) ..) h0')); (· exact h0'))
theorem State.timeTake_same {q m} (h0' : Same q m s0') (a1') : Same q m (State.timeTake s0' a1') := by
  unfold State.timeTake; exact (by extract_lets -merge x0 s1 s3 x5 s6 s8 s11 s13 s15 x18 x19 s20; (try clear_value x0 x5 x18 x19); have h2 : Same q m s1 := (State.setTime_same h0' ..); (try clear_value s1); have h4 : Same q m s3 := (State.wr_same h2 ..); (try clear_value s3); have h7 : Same q m s6 := (by unfold s6; exact (.ite h4 (by split; (· exact (.ite (State.roleMove_same h4 ..) (State.int_same (State.wr_same h4 ..) ..))); (· exact (State.int_same (State.wr_same h4 ..) ..))))); (try clear_value s6); have h10 : Same q m s8 := (State.cond_same h7 (fun _ h9 => (State.setTime_same h9 ..)) ..); (try clear_value s8); have h12 : Same q m s11 := (State.tuneHost_same (State.wr_same h10 ..) ..); (try clear_value s11); have h14 : Same q m s13 := (by unfold s13; exact (by split; (· exact (State.ringSet_same h12 ..)); (· exact h12))); (try clear_value s13); have h17 : Same q m s15 := (by unfold s15; exact (by split; (· exact (State.cond_same h14 (fun _ h16 => (State.tuneTo_same h16 ..)) ..)); (· exact h14))); (try clear_value s15); have h21 : Same q m s20 := (.ite (State.setTime_same (State.setTod_same h17 ..) ..) h17); (try clear_value s20); (try clear_value s1 s3 s6 s8 s11 s13 s15 s20); exact (.ite (State.holdover_same (State.setTime_same h17 ..) ..) (State.measure_same h21 ..)))
theorem State.timeRelay_same {q m} (h0' : Same q m s0') (a1') : Same q m (State.timeRelay s0' a1') := by
  unfold State.timeRelay; exact (by extract_lets -merge x0 x1 x2; (try clear_value x0 x1 x2); exact (State.cond_same h0' (fun _ h3 => (State.emit_same h3 ..)) ..))
theorem State.timeMessage_same {q m} (h0' : Same q m s0') (a1') : Same q m (State.timeMessage s0' a1') := by
  unfold State.timeMessage; exact (by extract_lets -merge s0; have h1 : Same q m s0 := (State.took_same h0' ..); (try clear_value s0); (try clear_value s0); exact (.ite (State.setTime_same h1 ..) (.ite h1 (State.timeRelay_same (State.timeTake_same h1 ..) ..))))
theorem State.usReady_same {q m} (h0' : Same q m s0') : Same q m (State.usReady s0') := by
  unfold State.usReady; exact (by split; (· exact h0'); (· exact (.ite (State.wr_same (State.reach_same h0' ..) ..) h0')))

end Sys2Proof.Machine
end

