-- ==== Sys2Proof/Laws/KeepLaneOps.lean ====
section
/-! SUPPORT. What the operations of Machine/LaneOps.lean keep: the queue, the memory or its canonical form, a legal time of
day. -/
namespace Sys2Proof.Machine
open Sys2Proof
set_option Elab.async false

theorem State.laneEnable_same {q m} (h0' : Same q m s0') (a1') : Same q m (State.laneEnable s0' a1') := by
  unfold State.laneEnable; exact (by extract_lets -merge x0 s1 s3; (try clear_value x0); have h2 : Same q m s1 := (State.int_same h0' ..); (try clear_value s1); have h4 : Same q m s3 := (State.guardCheck_same (State.sptActive_same (State.laneAccept_same h2 ..) ..) ..); (try clear_value s3); (try clear_value s1 s3); exact (by split; (· exact (State.laneRefuse_same h2 ..)); (· exact (State.cond_same h4 (fun _ h5 => (State.donorLatch_same h5 ..)) ..))))
theorem State.laneOff_same {q m} (h0' : Same q m s0') (a1') (a2') (a3') : Same q m (State.laneOff s0' a1' a2' a3') := by
  unfold State.laneOff; exact (by extract_lets -merge s0 s2 s5 s7 s9 s12 s14 s16 s18 s21; have h1 : Same q m s0 := (State.syncTo_same h0' ..); (try clear_value s0); have h4 : Same q m s2 := (State.cond_same h1 (fun _ h3 => (State.setLedger_same h3 ..)) ..); (try clear_value s2); have h6 : Same q m s5 := (State.endCap_same h4 ..); (try clear_value s5); have h8 : Same q m s7 := (State.setLane_same h6 ..); (try clear_value s7); have h11 : Same q m s9 := (State.cond_same h8 (fun _ h10 => (State.wr_same h10 ..)) ..); (try clear_value s9); have h13 : Same q m s12 := (State.wr_same (State.wr_same (State.wr_same h11 ..) ..) ..); (try clear_value s12); have h15 : Same q m s14 := (State.wr_same (State.wr_same h13 ..) ..); (try clear_value s14); have h17 : Same q m s16 := (State.guardDrop_same (State.sptStop_same (State.dropRetained_same (State.stopLaneStreams_same h15 ..) ..) ..) ..); (try clear_value s16); have h20 : Same q m s18 := (State.cond_same h17 (fun _ h19 => (State.detLaneOff_same h19 ..)) ..); (try clear_value s18); have h22 : Same q m s21 := (.upd h20); (try clear_value s21); (try clear_value s0 s2 s5 s7 s9 s12 s14 s16 s18 s21); exact (State.presUpdate_same h22 ..))
theorem State.laneStop_same {q m} (h0' : Same q m s0') (a1') (a2') (a3') : Same q m (State.laneStop s0' a1' a2' a3') := by
  unfold State.laneStop; exact (State.laneOff_same (State.cond_same h0' (fun _ h0 => (State.reach_same h0 ..)) ..) ..)
theorem State.slotOff_kept {q} (h0' : Kept q s0') (a1') (a2') : Kept q (State.slotOff s0' a1' a2') := by
  unfold State.slotOff; exact (.foldl (keep h0' fun h => State.laneOff_same h ..) (fun _ h0 _ => (State.pathDisable_kept h0 ..)) _)
theorem State.migEnd_same {q m} (h0' : Same q m s0') (a1') : Same q m (State.migEnd s0' a1') := by
  unfold State.migEnd; exact (by extract_lets -merge s0 s2; have h1 : Same q m s0 := (State.wr_same (State.setFab_same h0' ..) ..); (try clear_value s0); have h3 : Same q m s2 := (State.int_same (State.wr_same h1 ..) ..); (try clear_value s2); (try clear_value s0 s2); exact (.ite (State.satInc_same h3 ..) (State.satInc_same h3 ..)))
theorem State.migAbort_kept {q} (h0' : Kept q s0') : Kept q (State.migAbort s0') := by
  unfold State.migAbort; exact (by split; (· exact h0'); (· exact (by extract_lets -merge s0 s3 s7; have h2 : Kept q s0 := (State.cond_kept h0' (fun _ h1 => (State.slotOff_kept h1 ..)) ..); (try clear_value s0); have h6 : Kept q s3 := (State.cond_kept h2 (fun _ h4 => (.foldl h4 (fun _ h5 _ => (keep h5 fun h => State.setPath_same h ..)) _)) ..); (try clear_value s3); have h9 : Kept q s7 := (State.cond_kept h6 (fun _ h8 => (keep h8 fun h => State.sendRel_same h ..)) ..); (try clear_value s7); (try clear_value s0 s3 s7); exact (keep h9 fun h => State.migEnd_same h ..))))
theorem State.migFinish_kept {q} (h0' : Kept q s0') : Kept q (State.migFinish s0') := by
  unfold State.migFinish; exact (by split; (· exact h0'); (· exact (by extract_lets -merge s0 s2; have h1 : Kept q s0 := (keep (State.slotOff_kept h0' ..) fun h => State.sptDisarm_same h ..); (try clear_value s0); have h4 : Kept q s2 := (.ite (.foldl h1 (fun _ h3 _ => (.ite (State.pathDisable_kept h3 ..) h3)) _) h0'); (try clear_value s2); (try clear_value s0 s2); exact (keep h4 fun h => State.migEnd_same h ..))))
theorem State.laneDisable_kept {q} (h0' : Kept q s0') (a1') (a2') (a3') : Kept q (State.laneDisable s0' a1' a2' a3') := by
  unfold State.laneDisable; exact (.ite (State.cond_kept h0' (fun _ h0 => (keep h0 fun h => State.wr_same h ..)) ..) (by split; (· exact (keep h0' fun h => State.laneStop_same h ..)); (· exact (by extract_lets -merge x1 s2 s4; (try clear_value x1); have h3 : Kept q s2 := (State.migAbort_kept h0' ..); (try clear_value s2); have h5 : Kept q s4 := (keep h0' fun h => State.laneStop_same h ..); (try clear_value s4); (try clear_value s2 s4); exact (.ite (keep h0' fun h => State.laneStop_same h ..) (.ite (.ite (keep h3 fun h => State.laneStop_same h ..) h3) (.ite (State.migFinish_kept h5 ..) h5)))))))
theorem State.writeLaneCfg_kept {q} (h0' : Kept q s0') (a1') (a2') : Kept q (State.writeLaneCfg s0' a1' a2') := by
  unfold State.writeLaneCfg; exact (by extract_lets -merge x0 x1 x2 s3 s5; (try clear_value x0 x1 x2); have h4 : Kept q s3 := (keep h0' fun h => State.wrWord_same h ..); (try clear_value s3); have h7 : Kept q s5 := (State.cond_kept h4 (fun _ h6 => (keep h6 fun h => State.sptRetire_same h ..)) ..); (try clear_value s5); (try clear_value s3 s5); exact (.ite (State.cond_kept (keep h7 fun h => State.setLane_same h ..) (fun _ h8 => (keep h8 fun h => State.detLaneOff_same h ..)) ..) (.ite (.ite h7 (State.laneDisable_kept h7 ..)) (.ite (keep h7 fun h => State.laneEnable_same h ..) (keep h7 fun h => State.setLane_same h ..)))))
theorem State.writeChfSel_same {q m} (h0' : Same q m s0') (a1') (a2') : Same q m (State.writeChfSel s0' a1' a2') := by
  unfold State.writeChfSel; exact (by extract_lets -merge x0; (try clear_value x0); exact (State.cond_same (State.wrWord_same h0' ..) (fun _ h1 => (State.sptRetire_same h1 ..)) ..))
theorem State.writeLaneWord_kept {q} (h0' : Kept q s0') (a1') (a2') (a3') : Kept q (State.writeLaneWord s0' a1' a2' a3') := by
  unfold State.writeLaneWord; exact (by split; (· exact (State.writeLaneCfg_kept h0' ..)); (· exact (keep h0' fun h => State.writeChfSel_same h ..)); (· exact (keep h0' fun h => State.wrWord_same h ..)))
theorem State.writeChfPtr_same {q m} (h0' : Same q m s0') (a1') : Same q m (State.writeChfPtr s0' a1') := by
  unfold State.writeChfPtr; exact (State.wrWord_same h0' ..)
theorem State.writeDelay_same {q m} (h0' : Same q m s0') (a1') (a2') : Same q m (State.writeDelay s0' a1' a2') := by
  unfold State.writeDelay; exact (by extract_lets -merge x0 s1 x3 s4; (try clear_value x0 x3); have h2 : Same q m s1 := (State.wr_same h0' ..); (try clear_value s1); have h5 : Same q m s4 := (State.wr_same (State.setLane_same h2 ..) ..); (try clear_value s4); (try clear_value s1 s4); exact (.ite (State.cond_same h5 (fun _ h6 => (State.guardCheck_same h6 ..)) ..) h2))
theorem State.targetAccept_kept {q s t} (h : Kept q s) {dst w b js} (e : State.targetAccept s dst w b js = some t) :
    Kept q t := by
  unfold State.targetAccept at e
  extract_lets +onlyGivenNames -merge x0 s1 s2 at e
  have h1 : Kept q s1 := keep h fun h => State.laneAccept_same h ..
  have h2 : Kept q s2 :=
    keep (keep (keep h1 fun h => State.setLane_same h ..) fun h => State.setLedger_same h ..) fun h => State.sptActive_same h ..
  clear_value s2
  have gen : ∀ (js : List Nat) (o : Option State), (∀ x, o = some x → Kept q x) → ∀ t, List.foldl
      (fun (o : Option State) j => match o with
        | none => none
        | some s =>
          let p := 4 * dst + j
          match s.pathErr p with
          | some _ => none
          | none => some ((((s.wr CNX_PATH_CFG_EN p 1).pathAccept p).setPath p
              fun x => { x with startAt := w, warming := true }))) o js = some t → Kept q t := by
    intro js
    induction js with
    | nil => exact fun o ho t e => ho t e
    | cons j js ih =>
      intro o ho t e
      refine ih _ ?_ t e
      intro x ex
      rcases o with _ | s
      · exact nomatch ex
      · simp only at ex
        split at ex
        · exact nomatch ex
        · cases ex
          exact keep (State.pathAccept_kept (keep (ho s rfl) fun h => State.wr_same h ..) ..) fun h => State.setPath_same h ..
  exact gen js (some s2) (fun x e => by cases e; exact h2) t e

theorem State.migBegin_same {q m} (h0' : Same q m s0') (a1') (a2') (a3') (a4') : Same q m (State.migBegin s0' a1' a2' a3' a4') := by
  unfold State.migBegin; exact (by extract_lets -merge s0 s2 s4; have h1 : Same q m s0 := (State.setFab_same h0' ..); (try clear_value s0); have h3 : Same q m s2 := (State.wr_same (State.wr_same (State.wr_same h1 ..) ..) ..); (try clear_value s2); have h5 : Same q m s4 := (State.wr_same (State.wr_same (State.wr_same h3 ..) ..) ..); (try clear_value s4); (try clear_value s0 s2 s4); exact (State.wr_same (State.wr_same h5 ..) ..))
theorem State.migGo_kept {q s} (h : Kept q s) (a b) : Kept q (State.migGo s a b) := by
  unfold State.migGo
  extract_lets +onlyGivenNames -merge src dst remote dev n l at_ lt warm js early asked rerr s1 bad
  have h1 : Kept q s1 := keep h fun h => State.cond_same h (fun _ h => State.sendRel_same h ..) ..
  have hb : ∀ e, Kept q (bad e) := fun e => keep h1 fun h => State.refuse_same (State.wr_same h ..) ..
  clear_value s1 bad
  refine .ite (hb _) (.ite (hb _) (.ite (hb _) (.ite (hb _) (.ite (hb _) (.ite (hb _) (.ite (.ite (hb _) (.ite (hb _) ?_)) ?_))))))
  · exact keep h1 fun h => State.migBegin_same h ..
  · split
    · exact hb _
    · rename_i t e
      exact keep (State.targetAccept_kept h1 e) fun h => State.guardCheck_same (State.migBegin_same h ..) ..

theorem State.migHostAbort_kept {q} (h0' : Kept q s0') : Kept q (State.migHostAbort s0') := by
  unfold State.migHostAbort; exact (.ite (State.migAbort_kept h0' ..) h0')
theorem State.writeMigCtl_kept {q} (h0' : Kept q s0') (a1') (a2') (a3') : Kept q (State.writeMigCtl s0' a1' a2' a3') := by
  unfold State.writeMigCtl; exact (by extract_lets -merge s0; have h2 : Kept q s0 := (State.cond_kept h0' (fun _ h1 => (State.migGo_kept h1 ..)) ..); (try clear_value s0); (try clear_value s0); exact (State.cond_kept h2 (fun _ h3 => (State.migHostAbort_kept h3 ..)) ..))
theorem State.writeMigCfg_same {q m} (h0' : Same q m s0') (a1') : Same q m (State.writeMigCfg s0' a1') := by
  unfold State.writeMigCfg; exact (.ite (State.refuse_same h0' ..) (State.wrWord_same h0' ..))
theorem State.chfRead_same {q m} (h0' : Same q m s0') (a1') (a2') : Same q m (State.chfRead s0' a1' a2') := by
  unfold State.chfRead; exact (State.cond_same (State.writeChfPtr_same h0' ..) (fun _ h0 => (State.satInc_same h0 ..)) ..)
theorem State.chfUncorr_same {q m} (h0' : Same q m s0') (a1') : Same q m (State.chfUncorr s0' a1') := by
  unfold State.chfUncorr; exact (State.raise_same (State.wr_same (State.wr_same h0' ..) ..) ..)
theorem State.delayApply_same {q m} (h0' : Same q m s0') (a1') : Same q m (State.delayApply s0' a1') := by
  unfold State.delayApply; exact (by split; (· exact h0'); (· exact (by extract_lets -merge s0; have h1 : Same q m s0 := (State.reach_same h0' ..); (try clear_value s0); (try clear_value s0); exact (State.setLat_same (State.wr_same (State.setLane_same h1 ..) ..) ..))))
theorem State.laneStart_same {q m} (h0' : Same q m s0') (a1') : Same q m (State.laneStart s0' a1') := by
  unfold State.laneStart; exact (by split; (· exact (by extract_lets -merge x0 s1 s3; (try clear_value x0); have h2 : Same q m s1 := (State.reach_same h0' ..); (try clear_value s1); have h4 : Same q m s3 := (State.laneBegin_same h2 ..); (try clear_value s3); (try clear_value s1 s3); exact (.ite h0' (State.sptBegin_same (State.mark_same (State.mark_same h4 ..) ..) ..)))); (· exact h0'))
theorem State.pasteGain_same {q m} (h0' : Same q m s0') (a1') (a2') (a3') (a4') (a5') : Same q m (State.pasteGain s0' a1' a2' a3' a4' a5') := by
  unfold State.pasteGain; exact (by extract_lets -merge s0 s2; have h1 : Same q m s0 := (State.setLane_same h0' ..); (try clear_value s0); have h3 : Same q m s2 := (State.setCnx_same (State.wr_same h1 ..) ..); (try clear_value s2); (try clear_value s0 s2); exact (State.wr_same h3 ..))
theorem State.spotArm_same {q m} (h0' : Same q m s0') (a1') : Same q m (State.spotArm s0' a1') := by
  unfold State.spotArm; exact (.ite h0' (by extract_lets -merge s0; have h2 : Same q m s0 := (State.cond_same h0' (fun _ h1 => (State.wr_same h1 ..)) ..); (try clear_value s0); (try clear_value s0); exact (State.sptArm_same (State.sptWr_same h2 ..) ..)))
theorem State.spotPaste_same {q m} (h0' : Same q m s0') (a1') (a2') (a3') (a4') (a5') (a6') (a7') (a8') (a9') (a10') : Same q m (State.spotPaste s0' a1' a2' a3' a4' a5' a6' a7' a8' a9' a10') := by
  unfold State.spotPaste; exact (by extract_lets -merge s0 s2 s4 s7; have h1 : Same q m s0 := (State.spotArm_same h0' ..); (try clear_value s0); have h3 : Same q m s2 := (State.setSl_same h1 ..); (try clear_value s2); have h6 : Same q m s4 := (by unfold s4; exact (.foldl h3 (fun _ h5 _ => (by split; (· exact (State.setCtx_same h5 ..)))) _)); (try clear_value s4); have h8 : Same q m s7 := (State.sptWr_same (State.sptWr_same h6 ..) ..); (try clear_value s7); (try clear_value s0 s2 s4 s7); exact (.ite (State.setStuck_same (State.sptWr_same h8 ..) ..) (State.sptBegin_same h1 ..)))
theorem State.migSpot_same {q m} (h0' : Same q m s0') (a1') (a2') (a3') : Same q m (State.migSpot s0' a1' a2' a3') := by
  unfold State.migSpot; exact (.ite (State.sptBegin_same h0' ..) (by split; (· exact (State.spotPaste_same h0' ..)); (· exact h0')))
theorem State.repoint_same {q m} (h0' : Same q m s0') (a1') (a2') : Same q m (State.repoint s0' a1' a2') := by
  unfold State.repoint; exact (by extract_lets -merge s0 s4 x7; (try clear_value x7); have h3 : Same q m s0 := (by unfold s0; exact (.foldl h0' (fun _ h1 _ => (by extract_lets -merge x2; (try clear_value x2); exact (.ite (State.wr_same (State.setPath_same h1 ..) ..) h1))) _)); (try clear_value s0); have h6 : Same q m s4 := (.foldl h3 (fun _ h5 _ => (.ite (State.setStx_same (State.wr_same h5 ..) ..) h5)) _); (try clear_value s4); (try clear_value s0 s4); exact (.upd h6))
theorem State.migBoundary_same {q m} (h0' : Same q m s0') : Same q m (State.migBoundary s0') := by
  unfold State.migBoundary; exact (by split; (· exact h0'); (· exact (by extract_lets -merge x0 x1 s2 s4 s6 s9 s11 x13 s14 x17 s18 s20 s22 s25; (try clear_value x0 x1 x13 x17); have h3 : Same q m s2 := (State.reach_same h0' ..); (try clear_value s2); have h5 : Same q m s4 := (State.setFab_same h3 ..); (try clear_value s4); have h8 : Same q m s6 := (.foldl h5 (fun _ h7 _ => (State.setPath_same h7 ..)) _); (try clear_value s6); have h10 : Same q m s9 := (State.setFab_same h8 ..); (try clear_value s9); have h12 : Same q m s11 := (State.bringCap_same h5 ..); (try clear_value s11); have h16 : Same q m s14 := (State.cond_same h12 (fun _ h15 => (State.sendRel_same h15 ..)) ..); (try clear_value s14); have h19 : Same q m s18 := (State.pasteGain_same (State.bringCap_same h5 ..) ..); (try clear_value s18); have h21 : Same q m s20 := (State.migSpot_same h19 ..); (try clear_value s20); have h24 : Same q m s22 := (State.cond_same h21 (fun _ h23 => (State.setLane_same (State.markSuspect_same h23 ..) ..)) ..); (try clear_value s22); have h27 : Same q m s25 := (.foldl h24 (fun _ h26 _ => (State.setPath_same h26 ..)) _); (try clear_value s25); (try clear_value s2 s4 s6 s9 s11 s14 s18 s20 s22 s25); exact (.ite h0' (.ite (State.migEnd_same (State.sptBegin_same h10 ..) ..) (.ite (State.sendRel_same h16 ..) (State.repoint_same h27 ..)))))))
theorem State.migDeadline_kept {q} (h0' : Kept q s0') : Kept q (State.migDeadline s0') := by
  unfold State.migDeadline; exact (by split; (· exact h0'); (· exact (.ite h0' (by extract_lets -merge x0 s1; (try clear_value x0); have h2 : Kept q s1 := (keep h0' fun h => State.reach_same h ..); (try clear_value s1); (try clear_value s1); exact (.ite h2 (.ite (keep (keep h2 fun h => State.wr_same h ..) fun h => State.setLedger_same h ..) (State.migAbort_kept h2 ..)))))))
theorem State.migDone_kept {q} (h0' : Kept q s0') : Kept q (State.migDone s0') := by
  unfold State.migDone; exact (by split; (· exact h0'); (· exact (.ite h0' (by extract_lets -merge s0 s2; have h1 : Kept q s0 := (keep h0' fun h => State.reach_same h ..); (try clear_value s0); have h3 : Kept q s2 := (keep h1 fun h => State.syncTo_same h ..); (try clear_value s2); (try clear_value s0 s2); exact (State.migFinish_kept h3 ..)))))
theorem State.migReady_same {q m} (h0' : Same q m s0') : Same q m (State.migReady s0') := by
  unfold State.migReady; exact (by split; (· exact h0'); (· exact (.ite (State.wr_same (State.cond_same h0' (fun _ h0 => (State.sendRel_same h0 ..)) ..) ..) h0')))
theorem State.migRemoteAbort_kept {q} (h0' : Kept q s0') (a1') : Kept q (State.migRemoteAbort s0' a1') := by
  unfold State.migRemoteAbort; exact (.ite h0' (by split; (· exact (.ite (keep h0' fun h => State.wr_same h ..) (State.migAbort_kept h0' ..))); (· exact (.ite (keep (keep h0' fun h => State.wr_same h ..) fun h => State.sendRel_same h ..) h0'))))
theorem State.migRemoteGo_kept {q s} (h : Kept q s) (a b c d e f g i) : Kept q (State.migRemoteGo s a b c d e f g i).2.2 := by
  unfold State.migRemoteGo
  repeat' first | exact h | split | extract_lets
  rename_i t e
  exact keep (State.targetAccept_kept h e) fun h => State.guardCheck_same (State.migBegin_same h ..) ..

theorem State.pathPaste_kept {q} (h0' : Kept q s0') (a1') (a2') : Kept q (State.pathPaste s0' a1' a2') := by
  unfold State.pathPaste; exact (by extract_lets -merge s0 s2; have h1 : Kept q s0 := (keep h0' fun h => State.setPath_same h ..); (try clear_value s0); have h7 : Kept q s2 := (by unfold s2; exact (.foldl h1 (fun _ h3 _ => (by split; (· exact (by extract_lets -merge s4; have h5 : Kept q s4 := (keep h3 fun h => State.setClu_same h ..); (try clear_value s4); (try clear_value s4); exact (.foldl h5 (fun _ h6 _ => (by split; (· exact (State.setTap_kept h6 ..)))) _))))) _)); (try clear_value s2); (try clear_value s0 s2); exact (keep (keep (keep h7 fun h => State.wr_same h ..) fun h => State.wr_same h ..) fun h => State.setEst_same h ..))
theorem State.migWarm_kept {q} (h0' : Kept q s0') : Kept q (State.migWarm s0') := by
  unfold State.migWarm; exact (by split; (· exact h0'); (· exact (.ite h0' (by extract_lets -merge x0 s1 s3 s5 x8 s9; (try clear_value x0 x8); have h2 : Kept q s1 := (keep h0' fun h => State.reach_same h ..); (try clear_value s1); have h4 : Kept q s3 := (keep h2 fun h => State.setFab_same h ..); (try clear_value s3); have h7 : Kept q s5 := (State.cond_kept h4 (fun _ h6 => (keep h6 fun h => State.laneBegin_same h ..)) ..); (try clear_value s5); have h12 : Kept q s9 := (by unfold s9; exact (.foldl h7 (fun _ h10 _ => (by extract_lets -merge x11; (try clear_value x11); exact (.ite (keep h10 fun h => State.sendRel_same h ..) (State.pathPaste_kept h10 ..)))) _)); (try clear_value s9); (try clear_value s1 s3 s5 s9); exact (.ite h7 (.foldl h12 (fun _ h13 _ => (keep h13 fun h => State.setPath_same h ..)) _))))))
theorem State.rsmFault_same {q m} (h0' : Same q m s0') (a1') (a2') (a3') (a4') : Same q m (State.rsmFault s0' a1' a2' a3' a4') := by
  unfold State.rsmFault; exact (by extract_lets -merge s0 s2; have h1 : Same q m s0 := (State.wr_same (State.wr_same (State.wr_same h0' ..) ..) ..); (try clear_value s0); have h4 : Same q m s2 := (State.cond_same h1 (fun _ h3 => (State.wr_same (State.wr_same h3 ..) ..)) ..); (try clear_value s2); (try clear_value s0 s2); exact (State.raise_same h4 ..))

end Sys2Proof.Machine
end

