-- ==== Sys2Proof/Laws/KeepConv.lean ====
section
/-! SUPPORT. What the operations of Machine/Conv.lean keep: the queue, the memory or its canonical form, a legal time of
day. -/
namespace Sys2Proof.Machine
open Sys2Proof
set_option Elab.async false

theorem State.cvWr_same {q m} (h0' : Same q m s0') (a1') (a2') (a3') (a4') : Same q m (State.cvWr s0' a1' a2' a3' a4') := by
  unfold State.cvWr; exact (.ite (State.wr_same h0' ..) (State.wr_same h0' ..))
theorem State.cvFault_same {q m} (h0' : Same q m s0') (a1') (a2') : Same q m (State.cvFault s0' a1' a2') := by
  unfold State.cvFault; exact (State.int_same (State.stand_same (State.raise_same h0' ..) ..) ..)
theorem State.cvFail_same {q m} (h0' : Same q m s0') (a1') : Same q m (State.cvFail s0' a1') := by
  unfold State.cvFail; exact (by extract_lets -merge x0; (try clear_value x0); exact (State.cvWr_same h0' ..))
theorem State.bgcalDone_same {q m} (h0' : Same q m s0') (a1') (a2') : Same q m (State.bgcalDone s0' a1' a2') := by
  unfold State.bgcalDone; exact (.ite h0' (by extract_lets -merge s0 s2 s4; have h1 : Same q m s0 := (State.cvWr_same h0' ..); (try clear_value s0); have h3 : Same q m s2 := (State.setCv_same h1 ..); (try clear_value s2); have h6 : Same q m s4 := (State.cond_same h3 (fun _ h5 => (State.unstand_same h5 ..)) ..); (try clear_value s4); (try clear_value s0 s2 s4); exact (.ite (State.cvFail_same (State.cvFault_same h3 ..) ..) (.ite h3 (State.cvFail_same (State.unstand_same (State.unstand_same h6 ..) ..) ..)))))
theorem State.clipEnd_same {q m} (h0' : Same q m s0') (a1') : Same q m (State.clipEnd s0' a1') := by
  unfold State.clipEnd; exact (.ite (State.wr_same (State.reach_same h0' ..) ..) h0')
theorem State.clipWord_same {q m} (h0' : Same q m s0') (a1') : Same q m (State.clipWord s0' a1') := by
  unfold State.clipWord; exact (by extract_lets -merge x0 s1; (try clear_value x0); have h2 : Same q m s1 := (State.setCv_same (State.wr_same (State.wr_same h0' ..) ..) ..); (try clear_value s1); (try clear_value s1); exact (State.cond_same h2 (fun _ h3 => (State.int_same (State.satInc_same h3 ..) ..)) ..))
theorem State.clipStart_same {q m} (h0' : Same q m s0') (a1') : Same q m (State.clipStart s0' a1') := by
  unfold State.clipStart; exact (.ite (State.clipWord_same h0' ..) h0')
theorem State.cvCalEnd_same {q m} (h0' : Same q m s0') (a1') (a2') : Same q m (State.cvCalEnd s0' a1' a2') := by
  unfold State.cvCalEnd; exact (by extract_lets -merge s0 s2 s4; have h1 : Same q m s0 := (State.setCv_same h0' ..); (try clear_value s0); have h3 : Same q m s2 := (State.cvWr_same h1 ..); (try clear_value s2); have h5 : Same q m s4 := (.ite (State.int_same h3 ..) (State.cvFault_same h3 ..)); (try clear_value s4); (try clear_value s0 s2 s4); exact (State.cvFail_same h5 ..))
theorem State.cvParity_same {q m} (h0' : Same q m s0') (a1') : Same q m (State.cvParity s0' a1') := by
  unfold State.cvParity; exact (State.cvFault_same (State.setCv_same h0' ..) ..)
theorem State.overEnd_same {q m} (h0' : Same q m s0') (a1') : Same q m (State.overEnd s0' a1') := by
  unfold State.overEnd; exact (.ite h0' (by extract_lets -merge x0 s1; (try clear_value x0); have h2 : Same q m s1 := (State.wr_same h0' ..); (try clear_value s1); (try clear_value s1); exact (.foldl h2 (fun _ h3 _ => (State.setLane_same h3 ..)) _)))
theorem State.overStart_same {q m} (h0' : Same q m s0') (a1') : Same q m (State.overStart s0' a1') := by
  unfold State.overStart; exact (.ite h0' (by extract_lets -merge s0; have h1 : Same q m s0 := (State.satInc_same (State.wr_same (State.wr_same h0' ..) ..) ..); (try clear_value s0); (try clear_value s0); exact (.foldl (State.int_same h1 ..) (fun _ h2 _ => (State.markSuspect_same h2 ..)) _)))
theorem State.suspectEnd_same {q m} (h0' : Same q m s0') (a1') : Same q m (State.suspectEnd s0' a1') := by
  unfold State.suspectEnd; exact (by split; (· exact h0'); (· exact (State.wr_same (State.setLane_same (State.reach_same h0' ..) ..) ..)))

end Sys2Proof.Machine
end

