-- ==== Sys2Proof/Laws/KeepRfc.lean ====
section
/-! SUPPORT. What the operations of Machine/Rfc.lean keep: the queue, the memory or its canonical form, a legal time of
day. -/
namespace Sys2Proof.Machine
open Sys2Proof
set_option Elab.async false

theorem State.setSynErr_same {q m} (h0' : Same q m s0') (a1') (a2') : Same q m (State.setSynErr s0' a1' a2') := by
  unfold State.setSynErr; exact (State.wr_same h0' ..)
theorem State.setSyn_same {q m} (h0' : Same q m s0') (a1') (a2') : Same q m (State.setSyn s0' a1' a2') := by
  unfold State.setSyn; exact (State.setRfc_same h0' ..)
theorem State.cutTx_same {q m} (h0' : Same q m s0') (a1') : Same q m (State.cutTx s0' a1') := by
  unfold State.cutTx; exact (State.setRport_same h0' ..)
theorem State.setPortState_same {q m} (h0' : Same q m s0') (a1') (a2') : Same q m (State.setPortState s0' a1' a2') := by
  unfold State.setPortState; exact (State.setRport_same (State.wr_same h0' ..) ..)
theorem State.holdSyn_same {q m} (h0' : Same q m s0') (a1') (a2') (a3') : Same q m (State.holdSyn s0' a1' a2' a3') := by
  unfold State.holdSyn; exact (State.setRport_same h0' ..)
theorem State.coexGrant_same {q m} (h0' : Same q m s0') : Same q m (State.coexGrant s0') := by
  unfold State.coexGrant; exact (by extract_lets -merge s0; have h1 : Same q m s0 := (State.wr_same (State.setRfc_same h0' ..) ..); (try clear_value s0); (try clear_value s0); exact (State.suspendLifts_same (.foldl h1 (fun _ h2 _ => (State.setRport_same h2 ..)) _) ..))
theorem State.coexTry_same {q m} (h0' : Same q m s0') : Same q m (State.coexTry s0') := by
  unfold State.coexTry; exact (State.cond_same h0' (fun _ h0 => (State.coexGrant_same h0 ..)) ..)
theorem State.setSynState_same {q m} (h0' : Same q m s0') (a1') (a2') : Same q m (State.setSynState s0' a1' a2') := by
  unfold State.setSynState; exact (State.wr_same h0' ..)
theorem State.synStart_same {q m} (h0' : Same q m s0') (a1') : Same q m (State.synStart s0' a1') := by
  unfold State.synStart; exact (by extract_lets -merge s0 x2 s3 s6; (try clear_value x2); have h1 : Same q m s0 := (State.setSyn_same (State.satInc_same (State.setSynState_same h0' ..) ..) ..); (try clear_value s0); have h5 : Same q m s3 := (.foldl h1 (fun _ h4 _ => (State.setCv_same (State.cvWr_same h4 ..) ..)) _); (try clear_value s3); have h9 : Same q m s6 := (by unfold s6; exact (.foldl h5 (fun _ h7 _ => (by extract_lets -merge x8; (try clear_value x8); exact (.ite h7 (State.holdSyn_same (State.setPortState_same (State.cutTx_same h7 ..) ..) ..)))) _)); (try clear_value s6); (try clear_value s0 s3 s6); exact (State.coexRelease_same (State.coexTry_same (State.suspendLifts_same h9 ..) ..) ..))
theorem State.synAccept_same {q m} (h0' : Same q m s0') (a1') : Same q m (State.synAccept s0' a1') := by
  unfold State.synAccept; exact (by extract_lets -merge s0 s2; have h1 : Same q m s0 := (State.setSyn_same (State.setSynErr_same h0' ..) ..); (try clear_value s0); have h4 : Same q m s2 := (.foldl h1 (fun _ h3 _ => (State.sptRetire_same h3 ..)) _); (try clear_value s2); (try clear_value s0 s2); exact (State.synStart_same h4 ..))
theorem State.synGo_same {q m} (h0' : Same q m s0') (a1') : Same q m (State.synGo s0' a1') := by
  unfold State.synGo; exact (.ite (State.refuse_same (State.setSynErr_same h0' ..) ..) (.ite (State.refuse_same (State.setSynErr_same h0' ..) ..) (State.synAccept_same h0' ..)))
theorem State.writeSynCtl_same {q m} (h0' : Same q m s0') (a1') : Same q m (State.writeSynCtl s0' a1') := by
  unfold State.writeSynCtl; exact (by extract_lets -merge s0; have h2 : Same q m s0 := (State.cond_same h0' (fun _ h1 => (State.synGo_same h1 ..)) ..); (try clear_value s0); (try clear_value s0); exact (State.cond_same h2 (fun _ h3 => (State.synGo_same h3 ..)) ..))
theorem State.calAlone_same {q m} (h0' : Same q m s0') (a1') : Same q m (State.calAlone s0' a1') := by
  unfold State.calAlone; exact (by extract_lets -merge x0; (try clear_value x0); exact (.ite (State.setCv_same h0' ..) h0'))
theorem State.cvCntClr_same {q m} (h0' : Same q m s0') (a1') : Same q m (State.cvCntClr s0' a1') := by
  unfold State.cvCntClr; exact (State.cvWr_same h0' ..)
theorem State.portOff_same {q m} (h0' : Same q m s0') (a1') : Same q m (State.portOff s0' a1') := by
  unfold State.portOff; exact (by extract_lets -merge s0 s2; have h1 : Same q m s0 := (State.setPortState_same (State.cutTx_same h0' ..) ..); (try clear_value s0); have h3 : Same q m s2 := (State.setRport_same h1 ..); (try clear_value s2); (try clear_value s0 s2); exact (State.coexRelease_same (State.coexTry_same (State.suspendLifts_same h3 ..) ..) ..))
theorem State.portUp_same {q m} (h0' : Same q m s0') (a1') : Same q m (State.portUp s0' a1') := by
  unfold State.portUp; exact (by extract_lets -merge x0 s1 s3; (try clear_value x0); have h2 : Same q m s1 := (State.setPortState_same h0' ..); (try clear_value s1); have h5 : Same q m s3 := (.foldl h2 (fun _ h4 _ => (.ite (State.holdSyn_same h4 ..) h4)) _); (try clear_value s3); (try clear_value s1 s3); exact (.ite (.foldl h5 (fun _ h6 _ => (State.calAlone_same h6 ..)) _) h0'))
theorem State.turnStart_same {q m} (h0' : Same q m s0') (a1') (a2') : Same q m (State.turnStart s0' a1' a2') := by
  unfold State.turnStart; exact (by extract_lets -merge s0 s2; have h1 : Same q m s0 := (State.setRport_same h0' ..); (try clear_value s0); have h4 : Same q m s2 := (State.cond_same h1 (fun _ h3 => (State.setPortState_same h3 ..)) ..); (try clear_value s2); (try clear_value s0 s2); exact (.ite (State.setCport_same h4 ..) h4))
theorem State.turnAlone_same {q m} (h0' : Same q m s0') (a1') : Same q m (State.turnAlone s0' a1') := by
  unfold State.turnAlone; exact (by extract_lets -merge x0 x1; (try clear_value x0 x1); exact (.ite (State.turnStart_same h0' ..) h0'))
theorem State.enterTx_same {q m} (h0' : Same q m s0') (a1') : Same q m (State.enterTx s0' a1') := by
  unfold State.enterTx; exact (by extract_lets -merge x0; (try clear_value x0); exact (.ite h0' (.ite (State.setRport_same h0' ..) (State.setRport_same h0' ..))))
theorem State.portMove_same {q m} (h0' : Same q m s0') (a1') : Same q m (State.portMove s0' a1') := by
  unfold State.portMove; exact (by extract_lets -merge x0 s1 x3; (try clear_value x0 x3); have h2 : Same q m s1 := (.ite (State.setPortState_same h0' ..) h0'); (try clear_value s1); (try clear_value s1); exact (.ite h2 (.ite (.ite (State.enterTx_same h2 ..) (.ite (State.cutTx_same h2 ..) h2)) (.ite (State.setPortState_same (State.cutTx_same h2 ..) ..) h2))))
theorem State.cmdDone_same {q m} (h0' : Same q m s0') (a1') (a2') : Same q m (State.cmdDone s0' a1' a2') := by
  unfold State.cmdDone; exact (by extract_lets -merge s0; have h1 : Same q m s0 := (State.int_same (State.wr_same (State.wr_same h0' ..) ..) ..); (try clear_value s0); (try clear_value s0); exact (State.cond_same h1 (fun _ h2 => (State.int_same h2 ..)) ..))
theorem State.cmdCheck_same {q m} (h0' : Same q m s0') (a1') : Same q m (State.cmdCheck s0' a1') := by
  unfold State.cmdCheck; exact (by extract_lets -merge x0 x1; (try clear_value x0 x1); exact (State.cond_same h0' (fun _ h2 => (State.cmdDone_same h2 ..)) ..))
theorem State.portEval_same {q m} (h0' : Same q m s0') (a1') : Same q m (State.portEval s0' a1') := by
  unfold State.portEval; exact (by extract_lets -merge s0; have h1 : Same q m s0 := (State.suspendLifts_same (State.turnAlone_same (State.portMove_same (State.portUp_same h0' ..) ..) ..) ..); (try clear_value s0); (try clear_value s0); exact (State.coexRelease_same (State.coexTry_same (State.lossEval_same (State.cmdCheck_same h1 ..) ..) ..) ..))
theorem State.cvDisable_kept {q} (h0' : Kept q s0') (a1') : Kept q (State.cvDisable s0' a1') := by
  unfold State.cvDisable; exact (by extract_lets -merge x0 x1 s2 s5; (try clear_value x0 x1); have h4 : Kept q s2 := (.foldl h0' (fun _ h3 _ => (State.laneDisable_kept h3 ..)) _); (try clear_value s2); have h6 : Kept q s5 := (keep (keep h4 fun h => State.cvWr_same h ..) fun h => State.setCv_same h ..); (try clear_value s5); (try clear_value s2 s5); exact (State.cond_kept h6 (fun _ h7 => (keep (keep h7 fun h => State.portOff_same h ..) fun h => State.portEval_same h ..)) ..))
theorem State.writeCv_kept {q} (h0' : Kept q s0') (a1') (a2') : Kept q (State.writeCv s0' a1' a2') := by
  unfold State.writeCv; exact (by extract_lets -merge x0 x1 x2 x3 s4 s7 s10 s12; (try clear_value x0 x1 x2 x3); have h6 : Kept q s4 := (State.cond_kept h0' (fun _ h5 => (keep h5 fun h => State.cvCntClr_same h ..)) ..); (try clear_value s4); have h9 : Kept q s7 := (State.cond_kept h6 (fun _ h8 => (State.cvDisable_kept h8 ..)) ..); (try clear_value s7); have h11 : Kept q s10 := (.ite (keep h9 fun h => State.wrWord_same h ..) (keep h9 fun h => State.wrWord_same h ..)); (try clear_value s10); have h15 : Kept q s12 := (State.cond_kept h11 (fun _ h13 => (State.cond_kept (keep h13 fun h => State.cvWr_same h ..) (fun _ h14 => (keep h14 fun h => State.wr_same h ..)) ..)) ..); (try clear_value s12); (try clear_value s4 s7 s10 s12); exact (.ite (keep (keep (keep h15 fun h => State.setCv_same h ..) fun h => State.calAlone_same h ..) fun h => State.portEval_same h ..) h15))
theorem State.portsEval_same {q m} (h0' : Same q m s0') : Same q m (State.portsEval s0') := by
  unfold State.portsEval; exact (.foldl h0' (fun _ h0 _ => (State.portEval_same h0 ..)) _)
theorem State.setAttn_same {q m} (h0' : Same q m s0') (a1') (a2') : Same q m (State.setAttn s0' a1' a2') := by
  unfold State.setAttn; exact (State.setRfc_same h0' ..)
theorem State.attnShift_same {q m} (h0' : Same q m s0') (a1') (a2') : Same q m (State.attnShift s0' a1' a2') := by
  unfold State.attnShift; exact (by extract_lets -merge x0 x1 s2; (try clear_value x0 x1); have h3 : Same q m s2 := (State.setAttn_same h0' ..); (try clear_value s2); (try clear_value s2); exact (State.wr_same h3 ..))
theorem State.attnSend_same {q m} (h0' : Same q m s0') (a1') : Same q m (State.attnSend s0' a1') := by
  unfold State.attnSend; exact (.ite h0' (.ite (State.wr_same (State.setAttn_same h0' ..) ..) (State.attnShift_same h0' ..)))
theorem State.writeAttnCtl_same {q m} (h0' : Same q m s0') (a1') (a2') : Same q m (State.writeAttnCtl s0' a1' a2') := by
  unfold State.writeAttnCtl; exact (.ite h0' (.ite (State.refuse_same h0' ..) (State.attnSend_same h0' ..)))
theorem State.writeAttnData_same {q m} (h0' : Same q m s0') (a1') (a2') (a3') : Same q m (State.writeAttnData s0' a1' a2' a3') := by
  unfold State.writeAttnData; exact (.ite (State.refuse_same h0' ..) (State.wr_same h0' ..))
theorem State.coexResume_same {q m} (h0' : Same q m s0') : Same q m (State.coexResume s0') := by
  unfold State.coexResume; exact (.foldl h0' (fun _ h0 _ => (by extract_lets -merge x1; (try clear_value x1); exact (.ite h0 (State.setRport_same h0 ..)))) _)
theorem State.writeCoexCfg_same {q m} (h0' : Same q m s0') (a1') : Same q m (State.writeCoexCfg s0' a1') := by
  unfold State.writeCoexCfg; exact (.ite (State.refuse_same h0' ..) (by extract_lets -merge s0; have h1 : Same q m s0 := (State.wrWord_same h0' ..); (try clear_value s0); (try clear_value s0); exact (State.portsEval_same (State.cond_same h1 (fun _ h2 => (State.coexResume_same h2 ..)) ..) ..)))
theorem State.writeAttnCfg_same {q m} (h0' : Same q m s0') (a1') (a2') : Same q m (State.writeAttnCfg s0' a1' a2') := by
  unfold State.writeAttnCfg; exact (.ite (State.refuse_same h0' ..) (by extract_lets -merge s0; have h1 : Same q m s0 := (State.wrWord_same h0' ..); (try clear_value s0); (try clear_value s0); exact (.ite (State.wr_same (State.wr_same (State.setAttn_same h1 ..) ..) ..) h1)))
theorem State.writePortCfg_same {q m} (h0' : Same q m s0') (a1') (a2') : Same q m (State.writePortCfg s0' a1' a2') := by
  unfold State.writePortCfg; exact (by extract_lets -merge x0 s1 s4 s6; (try clear_value x0); have h3 : Same q m s1 := (State.cond_same h0' (fun _ h2 => (State.int_same (State.wr_same h2 ..) ..)) ..); (try clear_value s1); have h5 : Same q m s4 := (State.wr_same (State.wrWord_same h3 ..) ..); (try clear_value s4); have h10 : Same q m s6 := (State.cond_same h5 (fun _ h7 => (.foldl h7 (fun _ h8 _ => (State.cond_same h8 (fun _ h9 => (State.holdSyn_same h9 ..)) ..)) _)) ..); (try clear_value s6); (try clear_value s1 s4 s6); exact (.ite (State.refuse_same h0' ..) (.ite (State.cmdCheck_same (State.portOff_same h10 ..) ..) (State.portEval_same h10 ..))))
theorem State.attnLE_same {q m} (h0' : Same q m s0') (a1') : Same q m (State.attnLE s0' a1') := by
  unfold State.attnLE; exact (by extract_lets -merge x0 s1; (try clear_value x0); have h2 : Same q m s1 := (State.inc_same (State.setAttn_same h0' ..) ..); (try clear_value s1); (try clear_value s1); exact (by split; (· exact (State.attnShift_same (State.wr_same h2 ..) ..)); (· exact (State.wr_same h2 ..))))
theorem State.attnLatch_same {q m} (h0' : Same q m s0') (a1') : Same q m (State.attnLatch s0' a1') := by
  unfold State.attnLatch; exact (by extract_lets -merge x0 x1; (try clear_value x0 x1); exact (.ite h0' (.ite (State.attnLE_same (State.reach_same h0' ..) ..) (by split; (· exact (State.attnLE_same (State.reach_same h0' ..) ..)); (· exact h0')))))
theorem State.attnShifted_same {q m} (h0' : Same q m s0') (a1') : Same q m (State.attnShifted s0' a1') := by
  unfold State.attnShifted; exact (by extract_lets -merge x0 s1; (try clear_value x0); have h2 : Same q m s1 := (State.reach_same h0' ..); (try clear_value s1); (try clear_value s1); exact (.ite h0' (.ite (State.attnLE_same h2 ..) (State.setAttn_same h2 ..))))
theorem State.coexEnd_same {q m} (h0' : Same q m s0') : Same q m (State.coexEnd s0') := by
  unfold State.coexEnd; exact (by extract_lets -merge s0; have h1 : Same q m s0 := (State.setRfc_same (State.wr_same h0' ..) ..); (try clear_value s0); (try clear_value s0); exact (.foldl h1 (fun _ h2 _ => (.ite (by extract_lets -merge s3; have h4 : Same q m s3 := (State.setRport_same h2 ..); (try clear_value s3); (try clear_value s3); exact (State.cond_same h4 (fun _ h5 => (State.setRport_same h5 ..)) ..)) h2)) _))
theorem State.coexGntFall_same {q m} (h0' : Same q m s0') : Same q m (State.coexGntFall s0') := by
  unfold State.coexGntFall; exact (by extract_lets -merge x0 s1 s3; (try clear_value x0); have h2 : Same q m s1 := (.upd h0'); (try clear_value s1); have h5 : Same q m s3 := (.foldl h2 (fun _ h4 _ => (State.setRport_same h4 ..)) _); (try clear_value s3); (try clear_value s1 s3); exact (.ite h2 (State.suspendLifts_same (State.int_same (State.int_same (State.satInc_same h5 ..) ..) ..) ..)))
theorem State.coexGntOut_same {q m} (h0' : Same q m s0') : Same q m (State.coexGntOut s0') := by
  unfold State.coexGntOut; exact (.ite h0' (State.setRfc_same (State.satInc_same (State.wr_same h0' ..) ..) ..))
theorem State.coexGntRise_same {q m} (h0' : Same q m s0') : Same q m (State.coexGntRise s0') := by
  unfold State.coexGntRise; exact (State.coexResume_same (.upd h0') ..)
theorem State.coexMaxHold_same {q m} (h0' : Same q m s0') : Same q m (State.coexMaxHold s0') := by
  unfold State.coexMaxHold; exact (by extract_lets -merge x0; (try clear_value x0); exact (by split; (· exact (.ite h0' (by extract_lets -merge s1; have h2 : Same q m s1 := (State.coexEnd_same (State.reach_same h0' ..) ..); (try clear_value s1); (try clear_value s1); exact (State.raiseInt_same (State.satInc_same h2 ..) ..)))); (· exact h0')))
theorem State.coexReqFall_same {q m} (h0' : Same q m s0') : Same q m (State.coexReqFall s0') := by
  unfold State.coexReqFall; exact (by extract_lets -merge x0 s1; (try clear_value x0); have h2 : Same q m s1 := (.upd h0'); (try clear_value s1); (try clear_value s1); exact (State.coexEnd_same (State.wr_same h2 ..) ..))
theorem State.coexReqOut_same {q m} (h0' : Same q m s0') (a1') : Same q m (State.coexReqOut s0' a1') := by
  unfold State.coexReqOut; exact (.ite h0' (.ite (by split; (· exact (State.setRport_same (State.wr_same (State.reach_same h0' ..) ..) ..)); (· exact h0')) (.ite h0' (by extract_lets -merge s0 x2 s3; (try clear_value x2); have h1 : Same q m s0 := (State.wr_same h0' ..); (try clear_value s0); have h5 : Same q m s3 := (State.cond_same h1 (fun _ h4 => (State.satInc_same h4 ..)) ..); (try clear_value s3); (try clear_value s0 s3); exact (.ite (State.int_same (State.setRport_same h5 ..) ..) (State.setRport_same h5 ..))))))
theorem State.coexReqRise_same {q m} (h0' : Same q m s0') (a1') : Same q m (State.coexReqRise s0' a1') := by
  unfold State.coexReqRise; exact (by extract_lets -merge x0 s1 x3; (try clear_value x0 x3); have h2 : Same q m s1 := (.upd h0'); (try clear_value s1); (try clear_value s1); exact (by split; (· exact (State.coexGrant_same h2 ..)); (· exact (.ite (State.coexGrant_same h2 ..) (State.wr_same h2 ..))); (· exact (State.satInc_same h2 ..))))
theorem State.convCalDone_same {q m} (h0' : Same q m s0') (a1') (a2') : Same q m (State.convCalDone s0' a1' a2') := by
  unfold State.convCalDone; exact (.ite h0' (by extract_lets -merge x0 x1 s2; (try clear_value x0 x1); have h3 : Same q m s2 := (State.setSyn_same (State.cvCalEnd_same h0' ..) ..); (try clear_value s2); (try clear_value s2); exact (.ite (State.portEval_same h3 ..) (State.cond_same h3 (fun _ h4 => (State.cmdDone_same h4 ..)) ..))))
theorem State.noiseRise_same {q m} (h0' : Same q m s0') (a1') (a2') : Same q m (State.noiseRise s0' a1' a2') := by
  unfold State.noiseRise; exact (by extract_lets -merge x0 x1 x2 x3 x4 s5 x7 x8 x9 s10; (try clear_value x0 x1 x2 x3 x4 x7 x8 x9); have h6 : Same q m s5 := (.upd h0'); (try clear_value s5); have h11 : Same q m s10 := (State.wr_same (State.wr_same h6 ..) ..); (try clear_value s10); (try clear_value s5 s10); exact (.ite h6 (.ite (State.detect_same h11 ..) h11)))
theorem State.frameBoundary_same {q m} (h0' : Same q m s0') : Same q m (State.frameBoundary s0') := by
  unfold State.frameBoundary; exact (by extract_lets -merge s0 s2 x9 s10; (try clear_value x9); have h1 : Same q m s0 := (State.mark_same (.ite h0' (State.reach_same h0' ..)) ..); (try clear_value s0); have h8 : Same q m s2 := (by unfold s2; exact (.foldl h1 (fun _ h3 _ => (by split; rename_i x7 s6 e4; have h5 : Same q m s6 := .snd e4 (State.frameNc_same h3 ..); exact (by split; (· exact (State.noiseRise_same h5 ..)); (· exact h5)))) _)); (try clear_value s2); have h11 : Same q m s10 := (.upd h8); (try clear_value s10); (try clear_value s0 s2 s10); exact (.foldl h11 (fun _ h12 _ => (by extract_lets -merge x13; (try clear_value x13); exact (State.presUpdate_same (.upd h12) ..))) _))
theorem State.lineMismatch_same {q m} (h0' : Same q m s0') (a1') (a2') : Same q m (State.lineMismatch s0' a1' a2') := by
  unfold State.lineMismatch; exact (by extract_lets -merge s0; have h1 : Same q m s0 := (State.setRport_same h0' ..); (try clear_value s0); (try clear_value s0); exact (State.raise_same (State.stand_same h1 ..) ..))
theorem State.linesGood_same {q m} (h0' : Same q m s0') (a1') : Same q m (State.linesGood s0' a1') := by
  unfold State.linesGood; exact (State.unstand_same (State.setRport_same h0' ..) ..)
theorem State.txTimeout_same {q m} (h0' : Same q m s0') (a1') (a2') : Same q m (State.txTimeout s0' a1' a2') := by
  unfold State.txTimeout; exact (State.detect_same (State.satInc_same h0' ..) ..)
theorem State.lossTimeout_same {q m} (h0' : Same q m s0') (a1') : Same q m (State.lossTimeout s0' a1') := by
  unfold State.lossTimeout; exact (by split; (· exact h0'); (· exact (.ite h0' (by extract_lets -merge s0; have h1 : Same q m s0 := (State.reach_same h0' ..); (try clear_value s0); (try clear_value s0); exact (State.txTimeout_same (State.stand_same (State.setRport_same h1 ..) ..) ..)))))
theorem State.paSettled_same {q m} (h0' : Same q m s0') (a1') : Same q m (State.paSettled s0' a1') := by
  unfold State.paSettled; exact (by split; (· exact h0'); (· exact (by extract_lets -merge s0 s2; have h1 : Same q m s0 := (State.setRport_same (State.reach_same h0' ..) ..); (try clear_value s0); have h4 : Same q m s2 := (State.cond_same h1 (fun _ h3 => (State.setPortState_same h3 ..)) ..); (try clear_value s2); (try clear_value s0 s2); exact (State.lossEval_same (State.cmdCheck_same h4 ..) ..))))
theorem State.portUseEnd_same {q m} (h0' : Same q m s0') (a1') (a2') : Same q m (State.portUseEnd s0' a1' a2') := by
  unfold State.portUseEnd; exact (.ite h0' (by split; (· exact h0'); (· exact (by extract_lets -merge s0 x2 s3 x5 s6; (try clear_value x2 x5); have h1 : Same q m s0 := (State.reach_same h0' ..); (try clear_value s0); have h4 : Same q m s3 := (State.setRport_same h1 ..); (try clear_value s3); have h7 : Same q m s6 := (by unfold s6; exact (.ite (.ite (State.turnStart_same (State.setRport_same h4 ..) ..) h4) (by split; (· exact (.ite (State.turnStart_same h4 ..) h4)); (· exact h4)))); (try clear_value s6); (try clear_value s0 s3 s6); exact (State.coexRelease_same (State.coexTry_same h7 ..) ..)))))
theorem State.portUseStart_same {q m} (h0' : Same q m s0') (a1') : Same q m (State.portUseStart s0' a1') := by
  unfold State.portUseStart; exact (.ite h0' (by split; (· exact h0'); (· exact (by extract_lets -merge s0 x2 s3 s5 s7; (try clear_value x2); have h1 : Same q m s0 := (State.reach_same h0' ..); (try clear_value s0); have h4 : Same q m s3 := (State.setRport_same h1 ..); (try clear_value s3); have h6 : Same q m s5 := (State.coexRelease_same h4 ..); (try clear_value s5); have h8 : Same q m s7 := (State.satInc_same h6 ..); (try clear_value s7); (try clear_value s0 s3 s5 s7); exact (.ite h6 (.ite (State.suspendLifts_same (State.int_same (State.setRport_same h8 ..) ..) ..) h8))))))
theorem State.synFailed_same {q m} (h0' : Same q m s0') (a1') : Same q m (State.synFailed s0' a1') := by
  unfold State.synFailed; exact (by extract_lets -merge s0; have h1 : Same q m s0 := (State.setSynState_same h0' ..); (try clear_value s0); (try clear_value s0); exact (.foldl h1 (fun _ h2 _ => (by extract_lets -merge x3; (try clear_value x3); exact (.ite (State.cmdDone_same h2 ..) h2))) _))
theorem State.synRetry_kept {q} (h0' : Kept q s0') (a1') : Kept q (State.synRetry s0' a1') := by
  unfold State.synRetry; exact (by extract_lets -merge x0 s1 x4 s5; (try clear_value x0 x4); have h3 : Kept q s1 := (.foldl h0' (fun _ h2 _ => (State.laneDisable_kept h2 ..)) _); (try clear_value s1); have h7 : Kept q s5 := (.foldl h3 (fun _ h6 _ => (.ite h6 (keep h6 fun h => State.holdSyn_same h ..))) _); (try clear_value s5); (try clear_value s1 s5); exact (.ite (keep (keep (keep h7 fun h => State.setSynErr_same h ..) fun h => State.synFailed_same h ..) fun h => State.suspendLifts_same h ..) (keep (keep h3 fun h => State.setSyn_same h ..) fun h => State.synStart_same h ..)))
theorem State.refBack_kept {q} (h0' : Kept q s0') : Kept q (State.refBack s0') := by
  unfold State.refBack; exact (.ite h0' (by extract_lets -merge s0; have h1 : Kept q s0 := (keep (keep (keep h0' fun h => State.setTime_same h ..) fun h => State.unstand_same h ..) fun h => State.wr_same h ..); (try clear_value s0); (try clear_value s0); exact (.foldl h1 (fun _ h2 _ => (.ite h2 (State.synRetry_kept h2 ..))) _)))
theorem State.refFail_same {q m} (h0' : Same q m s0') : Same q m (State.refFail s0') := by
  unfold State.refFail; exact (State.refInFail_same h0' ..)
theorem State.restartLanes_same {q m} (h0' : Same q m s0') : Same q m (State.restartLanes s0') := by
  unfold State.restartLanes; exact (.foldl h0' (fun _ h0 _ => (.ite (by extract_lets -merge s1; have h2 : Same q m s1 := (State.laneEnable_same (State.setLane_same h0 ..) ..); (try clear_value s1); (try clear_value s1); exact (State.cond_same h2 (fun _ h3 => (State.detLaneOff_same h3 ..)) ..)) h0)) _)
theorem State.restartDone_same {q m} (h0' : Same q m s0') : Same q m (State.restartDone s0') := by
  unfold State.restartDone; exact (.ite (by extract_lets -merge s0 s2; have h1 : Same q m s0 := (State.wr_same (State.setThm_same h0' ..) ..); (try clear_value s0); have h3 : Same q m s2 := (State.unstand_same (State.int_same (State.clearCauses_same h1 ..) ..) ..); (try clear_value s2); (try clear_value s0 s2); exact (State.restartLanes_same (State.unstand_same h3 ..) ..)) h0')
theorem State.synFail_same {q m} (h0' : Same q m s0') (a1') (a2') : Same q m (State.synFail s0' a1' a2') := by
  unfold State.synFail; exact (by extract_lets -merge s0 s2; have h1 : Same q m s0 := (State.raiseInt_same (State.setSynErr_same h0' ..) ..); (try clear_value s0); have h3 : Same q m s2 := (State.stand_same h1 ..); (try clear_value s2); (try clear_value s0 s2); exact (.ite (State.synFailed_same h3 ..) (State.synStart_same (State.setSyn_same h3 ..) ..)))
theorem State.synCalDone_same {q m} (h0' : Same q m s0') (a1') (a2') : Same q m (State.synCalDone s0' a1' a2') := by
  unfold State.synCalDone; exact (.ite h0' (.ite (State.setSynState_same h0' ..) (State.synFail_same h0' ..)))
theorem State.synLock_same {q m} (h0' : Same q m s0') (a1') (a2') : Same q m (State.synLock s0' a1' a2') := by
  unfold State.synLock; exact (.ite h0' (.ite (State.synFail_same h0' ..) (by extract_lets -merge s0; have h1 : Same q m s0 := (State.setSyn_same (State.setSynState_same h0' ..) ..); (try clear_value s0); (try clear_value s0); exact (.foldl h1 (fun _ h2 _ => (State.setCv_same h2 ..)) _))))
theorem State.synLost_kept {q} (h0' : Kept q s0') (a1') : Kept q (State.synLost s0' a1') := by
  unfold State.synLost; exact (.ite h0' (by extract_lets -merge s0; have h1 : Kept q s0 := (keep (keep h0' fun h => State.satInc_same h ..) fun h => State.raiseInt_same h ..); (try clear_value s0); (try clear_value s0); exact (State.synRetry_kept (keep h1 fun h => State.stand_same h ..) ..)))
theorem State.synReady_same {q m} (h0' : Same q m s0') (a1') : Same q m (State.synReady s0' a1') := by
  unfold State.synReady; exact (.ite h0' (by extract_lets -merge s0 s2 s4; have h1 : Same q m s0 := (State.reach_same h0' ..); (try clear_value s0); have h3 : Same q m s2 := (State.unstand_same (State.int_same (State.setSyn_same (State.setSynState_same h1 ..) ..) ..) ..); (try clear_value s2); have h6 : Same q m s4 := (.foldl h3 (fun _ h5 _ => (State.holdSyn_same h5 ..)) _); (try clear_value s4); (try clear_value s0 s2 s4); exact (State.portsEval_same (State.restartDone_same h6 ..) ..)))
theorem State.tddTimeout_same {q m} (h0' : Same q m s0') (a1') : Same q m (State.tddTimeout s0' a1') := by
  unfold State.tddTimeout; exact (by split; (· exact h0'); (· exact (by extract_lets -merge s0; have h1 : Same q m s0 := (State.setRport_same (State.reach_same h0' ..) ..); (try clear_value s0); (try clear_value s0); exact (.ite (State.txTimeout_same h1 ..) h1))))
theorem State.turnDone_same {q m} (h0' : Same q m s0') (a1') : Same q m (State.turnDone s0' a1') := by
  unfold State.turnDone; exact (by split; (· exact h0'); (· exact (by extract_lets -merge s0 s2 s4; have h1 : Same q m s0 := (State.reach_same h0' ..); (try clear_value s0); have h3 : Same q m s2 := (State.setRport_same h1 ..); (try clear_value s2); have h6 : Same q m s4 := (State.cond_same h3 (fun _ h5 => (State.setPortState_same h5 ..)) ..); (try clear_value s4); (try clear_value s0 s2 s4); exact (State.portEval_same h6 ..))))
theorem State.turnEvent_same {q m} (h0' : Same q m s0') (a1') : Same q m (State.turnEvent s0' a1') := by
  unfold State.turnEvent; exact (by split; (· exact h0'); (· exact (by extract_lets -merge x0 s1; (try clear_value x0); have h2 : Same q m s1 := (State.reach_same h0' ..); (try clear_value s1); (try clear_value s1); exact (.ite h0' (State.coexRelease_same (State.setRport_same h2 ..) ..)))))

end Sys2Proof.Machine
end

