-- ==== Sys2Proof/Laws/KeepSys.lean ====
section
/-! SUPPORT. What the operations of Machine/Sys.lean keep: the queue, the memory or its canonical form, a legal time of
day. -/
namespace Sys2Proof.Machine
open Sys2Proof
set_option Elab.async false

theorem State.defer_same {q m} (h0' : Same q m s0') (a1') : Same q m (State.defer s0' a1') := by
  unfold State.defer; exact (State.setSys_same h0' ..)
theorem State.rejectCmd_same {q m} (h0' : Same q m s0') : Same q m (State.rejectCmd s0') := by
  unfold State.rejectCmd; exact (State.int_same (State.satInc_same h0' ..) ..)
theorem State.stateCurtain_same {q m} (h0' : Same q m s0') : Same q m (State.stateCurtain s0') := by
  unfold State.stateCurtain; exact (State.request_same h0' ..)
theorem State.setDevState_same {q m} (h0' : Same q m s0') (a1') : Same q m (State.setDevState s0' a1') := by
  unfold State.setDevState; exact (State.portsEval_same (State.alert_same (State.int_same (State.wr_same h0' ..) ..) ..) ..)
theorem State.toRehearsal_same {q m} (h0' : Same q m s0') : Same q m (State.toRehearsal s0') := by
  unfold State.toRehearsal; exact (by extract_lets -merge s0; have h1 : Same q m s0 := (State.wr_same h0' ..); (try clear_value s0); (try clear_value s0); exact (.ite h1 (State.setDevState_same (State.cond_same h1 (fun _ h2 => (State.stateCurtain_same h2 ..)) ..) ..)))
theorem State.cancelCmd_same {q m} (h0' : Same q m s0') : Same q m (State.cancelCmd s0') := by
  unfold State.cancelCmd; exact (.ite h0' (State.int_same (State.wr_same h0' ..) ..))
theorem State.enterPerformance_same {q m} (h0' : Same q m s0') : Same q m (State.enterPerformance s0') := by
  unfold State.enterPerformance; exact (by extract_lets -merge x0 x1 s2 s4 s6; (try clear_value x0 x1); have h3 : Same q m s2 := (State.outRestart_same (State.setDevState_same (State.wr_same h0' ..) ..) ..); (try clear_value s2); have h5 : Same q m s4 := (.ite h3 (State.setCnx_same (State.firstCeil_same h3 ..) ..)); (try clear_value s4); have h9 : Same q m s6 := (State.cond_same h5 (fun _ h7 => (.foldl h7 (fun _ h8 _ => (State.startCap_same h8 ..)) _)) ..); (try clear_value s6); (try clear_value s2 s4 s6); exact (.ite h0' (State.clearCauses_same h9 ..)))
theorem State.evalCmd_same {q m} (h0' : Same q m s0') (a1') : Same q m (State.evalCmd s0' a1') := by
  unfold State.evalCmd; exact (.ite (State.rejectCmd_same h0' ..) (.ite (by extract_lets -merge s0; have h1 : Same q m s0 := (State.cancelCmd_same (State.setSys_same h0' ..) ..); (try clear_value s0); (try clear_value s0); exact (.ite h1 (State.toRehearsal_same h1 ..))) (.ite (State.enterPerformance_same (State.wr_same (State.setSys_same h0' ..) ..) ..) (.ite (State.enterPerformance_same (State.wr_same h0' ..) ..) (.ite (State.stateCurtain_same (State.wr_same h0' ..) ..) (State.rejectCmd_same h0' ..))))))
theorem State.sysCmd_same {q m} (h0' : Same q m s0') (a1') : Same q m (State.sysCmd s0' a1') := by
  unfold State.sysCmd; exact (.ite h0' (.ite (State.defer_same h0' ..) (State.evalCmd_same h0' ..)))
theorem State.byHost_same {q m} (h0' : Same q m s0') (h1' : ∀ y0, Same q m y0 → Same q m (f1' y0)) (a1') (a2') : Same q m (State.byHost s0' a1' a2' f1') := by
  unfold State.byHost; exact (.ite (h1' _ h0') (State.defer_same h0' ..))
theorem State.byHost_kept {q} (h0' : Kept q s0') (h1' : ∀ y0, Kept q y0 → Kept q (f1' y0)) (a1') (a2') : Kept q (State.byHost s0' a1' a2' f1') := by
  unfold State.byHost; exact (.ite (h1' _ h0') (keep h0' fun h => State.defer_same h ..))
theorem State.pauseDone_same {q m} (h0' : Same q m s0') : Same q m (State.pauseDone s0') := by
  unfold State.pauseDone; exact (.ite (State.setDevState_same (State.wr_same h0' ..) ..) h0')
theorem State.stateParity_same {q m} (h0' : Same q m s0') : Same q m (State.stateParity s0') := by
  unfold State.stateParity; exact (State.raise_same (State.toRehearsal_same (State.cancelCmd_same h0' ..) ..) ..)

end Sys2Proof.Machine
end

