-- ==== Sys2Proof/Laws/KeepStm.lean ====
section
/-! SUPPORT. What the operations of Machine/Stm.lean keep: the queue, the memory or its canonical form, a legal time of
day. -/
namespace Sys2Proof.Machine
open Sys2Proof
set_option Elab.async false

theorem State.capAbandon_same {q m} (h0' : Same q m s0') : Same q m (State.capAbandon s0') := by
  unfold State.capAbandon; exact (by extract_lets -merge x0; (try clear_value x0); exact (.ite (State.setStm_same (State.wr_same (State.satInc_same h0' ..) ..) ..) h0'))
theorem State.writeCapCfg_same {q m} (h0' : Same q m s0') (a1') : Same q m (State.writeCapCfg s0' a1') := by
  unfold State.writeCapCfg; exact (by extract_lets -merge x0 x1 x2 x3 x4 x5 s6; (try clear_value x0 x1 x2 x3 x4 x5); have h7 : Same q m s6 := (State.wr_same (State.wrWord_same h0' ..) ..); (try clear_value s6); (try clear_value s6); exact (.ite (State.refuse_same h0' ..) (.ite (State.refuse_same h0' ..) (.ite (State.setStm_same (State.wr_same h7 ..) ..) (.ite (State.wr_same h7 ..) h7)))))
theorem State.formatStart_same {q m} (h0' : Same q m s0') (a1') : Same q m (State.formatStart s0' a1') := by
  unfold State.formatStart; exact (.ite h0' (by split; (· exact (State.refuse_same (State.wr_same h0' ..) ..)); (· exact (State.setStm_same (State.wr_same (State.wr_same (State.wr_same h0' ..) ..) ..) ..))))
theorem State.formatGo_same {q m} (h0' : Same q m s0') (a1') : Same q m (State.formatGo s0' a1') := by
  unfold State.formatGo; exact (.ite (State.setStm_same h0' ..) (State.formatStart_same h0' ..))
theorem State.writeFmtCtl_same {q m} (h0' : Same q m s0') (a1') (a2') : Same q m (State.writeFmtCtl s0' a1' a2') := by
  unfold State.writeFmtCtl; exact (by extract_lets -merge s0; have h2 : Same q m s0 := (State.cond_same h0' (fun _ h1 => (State.formatGo_same h1 ..)) ..); (try clear_value s0); (try clear_value s0); exact (State.cond_same h2 (fun _ h3 => (State.formatStart_same h3 ..)) ..))
theorem State.writeStmLimits_same {q m} (h0' : Same q m s0') (a1') : Same q m (State.writeStmLimits s0' a1') := by
  unfold State.writeStmLimits; exact (.ite (State.refuse_same h0' ..) (State.wrWord_same h0' ..))
theorem State.writeCapCtl_same {q m} (h0' : Same q m s0') (a1') : Same q m (State.writeCapCtl s0' a1') := by
  unfold State.writeCapCtl; exact (State.cond_same h0' (fun _ h0 => (State.snapTrig_same h0 ..)) ..)
theorem State.writeScrubCfg_same {q m} (h0' : Same q m s0') (a1') : Same q m (State.writeScrubCfg s0' a1') := by
  unfold State.writeScrubCfg; exact (by extract_lets -merge x0 x1; (try clear_value x0 x1); exact (.ite (State.refuse_same h0' ..) (State.wrWord_same h0' ..)))
theorem State.writeHistCfg_same {q m} (h0' : Same q m s0') (a1') : Same q m (State.writeHistCfg s0' a1') := by
  unfold State.writeHistCfg; exact (by extract_lets -merge x0; (try clear_value x0); exact (.ite (State.refuse_same h0' ..) (State.wrWord_same h0' ..)))
theorem State.writeStmIf_same {q m} (h0' : Same q m s0') (a1') : Same q m (State.writeStmIf s0' a1') := by
  unfold State.writeStmIf; exact (by extract_lets -merge x0; (try clear_value x0); exact (.ite (State.refuse_same h0' ..) (State.wr_same h0' ..)))
theorem State.erased_same {q m} (h0' : Same q m s0') (a1') (a2') (a3') : Same q m (State.erased s0' a1' a2' a3') := by
  unfold State.erased; exact (by extract_lets -merge s0 s2 s4 x6; (try clear_value x6); have h1 : Same q m s0 := (State.setStm_same h0' ..); (try clear_value s0); have h3 : Same q m s2 := (.ite (State.wr_same (State.wr_same h1 ..) ..) (State.wr_same (State.wr_same h1 ..) ..)); (try clear_value s2); have h5 : Same q m s4 := (State.setStm_same h3 ..); (try clear_value s4); (try clear_value s0 s2 s4); exact (.ite (State.stand_same (State.raise_same h5 ..) ..) h5))
theorem State.blockRefresh_same {q m} (h0' : Same q m s0') (a1') (a2') (a3') (a4') : Same q m (State.blockRefresh s0' a1' a2' a3' a4') := by
  unfold State.blockRefresh; exact (.ite h0' (by extract_lets -merge s0 s2; have h1 : Same q m s0 := (State.satInc_same h0' ..); (try clear_value s0); have h3 : Same q m s2 := (by unfold s2; exact (by split; (· exact (State.satInc_same h1 ..)); (· exact h1); (· exact h1); (· exact h1); (· exact h1))); (try clear_value s2); (try clear_value s0 s2); exact (State.erased_same h3 ..)))
theorem State.setSpare_same {q m} (h0' : Same q m s0') (a1') : Same q m (State.setSpare s0' a1') := by
  unfold State.setSpare; exact (by extract_lets -merge x0 x1 x2 s3; (try clear_value x0 x1 x2); have h4 : Same q m s3 := (State.wr_same (State.wr_same h0' ..) ..); (try clear_value s3); (try clear_value s3); exact (.ite (State.stand_same (State.raiseInt_same h4 ..) ..) (.ite (State.unstand_same h4 ..) h4)))
theorem State.setRings_same {q m} (h0' : Same q m s0') : Same q m (State.setRings s0') := by
  unfold State.setRings; exact (by extract_lets -merge s0; have h1 : Same q m s0 := (by unfold s0; exact (by split; (· exact (State.wr_same (State.wr_same (State.wr_same (State.wr_same h0' ..) ..) ..) ..)); (· exact h0'))); (try clear_value s0); (try clear_value s0); exact (by split; (· exact (State.wr_same (State.wr_same (State.wr_same (State.wr_same h1 ..) ..) ..) ..)); (· exact h1)))
theorem State.shrink_same {q m} (h0' : Same q m s0') : Same q m (State.shrink s0') := by
  unfold State.shrink; exact (by extract_lets -merge x0 x1 s2 x4 s5; (try clear_value x0 x1 x4); have h3 : Same q m s2 := (State.setStm_same h0' ..); (try clear_value s2); have h6 : Same q m s5 := (State.setStm_same h0' ..); (try clear_value s5); (try clear_value s2 s5); exact (.ite (State.journal_same (State.setRings_same (State.wr_same h3 ..) ..) ..) (.ite (State.journal_same (State.setRings_same (State.wr_same h6 ..) ..) ..) h0')))
theorem State.blockRetire_same {q m} (h0' : Same q m s0') (a1') (a2') (a3') (a4') (a5') (a6') (a7') : Same q m (State.blockRetire s0' a1' a2' a3' a4' a5' a6' a7') := by
  unfold State.blockRetire; exact (by extract_lets -merge s0 s2; have h1 : Same q m s0 := (State.journal_same (State.satInc_same h0' ..) ..); (try clear_value s0); have h3 : Same q m s2 := (State.setSpare_same (State.raiseInt_same h1 ..) ..); (try clear_value s2); (try clear_value s0 s2); exact (State.cond_same h3 (fun _ h4 => (State.shrink_same h4 ..)) ..))
theorem State.capWord_kept {q} (h0' : Kept q s0') (a1') (a2') (a3') (a4') : Kept q (State.capWord s0' a1' a2' a3' a4') := by
  unfold State.capWord; exact (by extract_lets -merge x0 x1 x2 x3; (try clear_value x0 x1 x2 x3); exact (by split; (· exact h0'); (· exact (.ite (by extract_lets -merge x4; (try clear_value x4); exact (State.stIn_kept (State.stIn_kept h0' ..) ..)) h0'))))
theorem State.ceBusy_same {q m} (h0' : Same q m s0') : Same q m (State.ceBusy s0') := by
  unfold State.ceBusy; exact (by extract_lets -merge s0; have h1 : Same q m s0 := (State.stand_same (State.raise_same h0' ..) ..); (try clear_value s0); (try clear_value s0); exact (State.cond_same h1 (fun _ h2 => (State.wr_same h2 ..)) ..))
theorem State.clearHist_same {q m} (h0' : Same q m s0') : Same q m (State.clearHist s0') := by
  unfold State.clearHist; exact (by extract_lets -merge s0; have h1 : Same q m s0 := (State.setStm_same h0' ..); (try clear_value s0); (try clear_value s0); exact (State.wr_same (State.wr_same (State.wr_same (State.wr_same h1 ..) ..) ..) ..))
theorem State.clearSnaps_same {q m} (h0' : Same q m s0') : Same q m (State.clearSnaps s0') := by
  unfold State.clearSnaps; exact (by extract_lets -merge s0; have h1 : Same q m s0 := (State.setStm_same h0' ..); (try clear_value s0); (try clear_value s0); exact (State.wr_same (State.wr_same (State.wr_same (State.wr_same h1 ..) ..) ..) ..))
theorem State.codewordUnc_same {q m} (h0' : Same q m s0') (a1') (a2') : Same q m (State.codewordUnc s0' a1' a2') := by
  unfold State.codewordUnc; exact (by extract_lets -merge s0 s2 s4; have h1 : Same q m s0 := (State.wr_same (State.wr_same (State.satInc_same h0' ..) ..) ..); (try clear_value s0); have h3 : Same q m s2 := (State.setStm_same h1 ..); (try clear_value s2); have h5 : Same q m s4 := (State.journal_same (State.raise_same h3 ..) ..); (try clear_value s4); (try clear_value s0 s2 s4); exact (State.satInc_same (State.int_same h5 ..) ..))
theorem State.formatImage_same {q m} (h0' : Same q m s0') : Same q m (State.formatImage s0') := by
  unfold State.formatImage; exact (.ite (State.formatStart_same (State.setStm_same h0' ..) ..) h0')
theorem State.unitsWritten_same {q m} (h0' : Same q m s0') (a1') (a2') (a3') (a4') : Same q m (State.unitsWritten s0' a1' a2' a3' a4') := by
  unfold State.unitsWritten; exact (State.setStm_same (State.programmed_same h0' ..) ..)
theorem State.histPlace_same {q m} (h0' : Same q m s0') (a1') (a2') : Same q m (State.histPlace s0' a1' a2') := by
  unfold State.histPlace; exact (by extract_lets -merge x0 x1 x2 s3; (try clear_value x0 x1 x2); have h4 : Same q m s3 := (State.setStm_same h0' ..); (try clear_value s3); (try clear_value s3); exact (.ite h0' (State.setRings_same (State.unitsWritten_same h4 ..) ..)))
theorem State.snapStored_same {q m} (h0' : Same q m s0') : Same q m (State.snapStored s0') := by
  unfold State.snapStored; exact (.ite h0' (by extract_lets -merge x0 x1 x2 x3 s4 s6 s8 s10; (try clear_value x0 x1 x2 x3); have h5 : Same q m s4 := (State.setStm_same h0' ..); (try clear_value s4); have h7 : Same q m s6 := (State.setRings_same (State.unitsWritten_same h5 ..) ..); (try clear_value s6); have h9 : Same q m s8 := (State.journal_same h7 ..); (try clear_value s8); have h11 : Same q m s10 := (State.int_same h9 ..); (try clear_value s10); (try clear_value s4 s6 s8 s10); exact (.ite (State.setStm_same (State.wr_same h11 ..) ..) (State.wr_same h11 ..))))
theorem State.scrubDone_same {q m} (h0' : Same q m s0') : Same q m (State.scrubDone s0') := by
  unfold State.scrubDone; exact (by extract_lets -merge s0; have h1 : Same q m s0 := (State.wr_same (State.wr_same (State.satInc_same h0' ..) ..) ..); (try clear_value s0); (try clear_value s0); exact (State.int_same (State.setStm_same h1 ..) ..))
theorem State.setBook_same {q m} (h0' : Same q m s0') (a1') (a2') : Same q m (State.setBook s0' a1' a2') := by
  unfold State.setBook; exact (State.setPb_same h0' ..)
theorem State.formatDone_same {q m} (h0' : Same q m s0') (a1') : Same q m (State.formatDone s0' a1') := by
  unfold State.formatDone; exact (.ite h0' (by extract_lets -merge x0 x1 x2 x3 x4 x5 s6 s8 s10 s12 x14 s15 s17 s19; (try clear_value x0 x1 x2 x3 x4 x5 x14); have h7 : Same q m s6 := (State.setStm_same h0' ..); (try clear_value s6); have h9 : Same q m s8 := (State.wr_same (State.wr_same (State.wr_same h7 ..) ..) ..); (try clear_value s8); have h11 : Same q m s10 := (State.clearSnaps_same (State.clearHist_same (State.wr_same (State.wr_same h9 ..) ..) ..) ..); (try clear_value s10); have h13 : Same q m s12 := (State.wr_same (State.wr_same h11 ..) ..); (try clear_value s12); have h16 : Same q m s15 := (State.programmed_same (State.setStm_same h13 ..) ..); (try clear_value s15); have h18 : Same q m s17 := (.ite (State.programmed_same (State.setStm_same h11 ..) ..) (State.setPb_same (State.setBook_same h16 ..) ..)); (try clear_value s17); have h20 : Same q m s19 := (State.journal_same h18 ..); (try clear_value s19); (try clear_value s6 s8 s10 s12 s15 s17 s19); exact (State.int_same h20 ..)))
theorem State.histFrame_same {q m} (h0' : Same q m s0') (a1') : Same q m (State.histFrame s0' a1') := by
  unfold State.histFrame; exact (by extract_lets -merge x0 s1 x3; (try clear_value x0 x3); have h2 : Same q m s1 := (State.setStm_same h0' ..); (try clear_value s1); (try clear_value s1); exact (.ite h0' (.ite (State.journalInt_same (State.raise_same (State.satInc_same h2 ..) ..) ..) (State.setStm_same h0' ..))))
theorem State.histBoundary_same {q m} (h0' : Same q m s0') (a1') : Same q m (State.histBoundary s0' a1') := by
  unfold State.histBoundary; exact (by extract_lets -merge s0 s2 x4; (try clear_value x4); have h1 : Same q m s0 := (State.toMul_same h0' ..); (try clear_value s0); have h3 : Same q m s2 := (State.histFrame_same (State.ctxInterval_same h1 ..) ..); (try clear_value s2); (try clear_value s0 s2); exact (.ite (State.setStm_same h3 ..) h3))
theorem State.snapFill_same {q m} (h0' : Same q m s0') : Same q m (State.snapFill s0') := by
  unfold State.snapFill; exact (.ite h0' (by extract_lets -merge x0; (try clear_value x0); exact (State.wr_same (State.reach_same h0' ..) ..)))
theorem State.storageReady_same {q m} (h0' : Same q m s0') (a1') : Same q m (State.storageReady s0' a1') := by
  unfold State.storageReady; exact (.ite h0' (by extract_lets -merge s0 s2 s4 s6 s8 s10 x12 s13 s16 s19 s22 s24 s26 s28 s30; (try clear_value x12); have h1 : Same q m s0 := (State.wr_same (State.wr_same (State.wr_same (State.wr_same h0' ..) ..) ..) ..); (try clear_value s0); have h3 : Same q m s2 := (State.wr_same (State.wr_same h1 ..) ..); (try clear_value s2); have h5 : Same q m s4 := (State.wr_same (State.wr_same h3 ..) ..); (try clear_value s4); have h7 : Same q m s6 := (State.setStm_same h5 ..); (try clear_value s6); have h9 : Same q m s8 := (State.wr_same (State.wr_same (State.wr_same h7 ..) ..) ..); (try clear_value s8); have h11 : Same q m s10 := (State.wr_same h9 ..); (try clear_value s10); have h15 : Same q m s13 := (State.cond_same h11 (fun _ h14 => (State.stand_same (State.raise_same h14 ..) ..)) ..); (try clear_value s13); have h18 : Same q m s16 := (State.cond_same h15 (fun _ h17 => (State.unstand_same h17 ..)) ..); (try clear_value s16); have h21 : Same q m s19 := (State.cond_same h18 (fun _ h20 => (State.wr_same h20 ..)) ..); (try clear_value s19); have h23 : Same q m s22 := (State.wr_same (State.unstand_same (State.wr_same h21 ..) ..) ..); (try clear_value s22); have h25 : Same q m s24 := (State.wr_same (State.wr_same (State.wr_same h23 ..) ..) ..); (try clear_value s24); have h27 : Same q m s26 := (State.setStm_same h25 ..); (try clear_value s26); have h29 : Same q m s28 := (State.setBook_same (State.wr_same h21 ..) ..); (try clear_value s28); have h31 : Same q m s30 := (State.setStm_same h29 ..); (try clear_value s30); (try clear_value s0 s2 s4 s6 s8 s10 s13 s16 s19 s22 s24 s26 s28 s30); exact (by split; (· exact (State.setBook_same (State.wr_same h21 ..) ..)); (· exact (State.clearSnaps_same (State.clearHist_same (State.setBook_same (State.setSpare_same (State.unstand_same (State.wr_same h21 ..) ..) ..) ..) ..) ..)); (· exact (State.setSpare_same (State.setRings_same (State.setBook_same (State.setPb_same h27 ..) ..) ..) ..)); (· exact (State.journal_same (State.stand_same (State.raise_same h31 ..) ..) ..)))))
theorem State.wearCheckpoint_same {q m} (h0' : Same q m s0') : Same q m (State.wearCheckpoint s0') := by
  unfold State.wearCheckpoint; exact (by extract_lets -merge s0; have h1 : Same q m s0 := (.ite h0' (State.reach_same h0' ..)); (try clear_value s0); (try clear_value s0); exact (State.setStm_same h1 ..))

end Sys2Proof.Machine
end

