-- ==== Sys2Proof/Laws/KeepLaneSample.lean ====
section
/-! SUPPORT. What the operations of Machine/LaneSample.lean keep: the queue, the memory or its canonical form, a legal time of
day. -/
namespace Sys2Proof.Machine
open Sys2Proof
set_option Elab.async false

theorem State.countSat_same {q m} (h0' : Same q m s0') (a1') (a2') : Same q m (State.countSat s0' a1' a2') := by
  unfold State.countSat; exact (.ite h0' (by extract_lets -merge x0 s1; (try clear_value x0); have h2 : Same q m s1 := (State.wr_same (State.satAdd_same h0' ..) ..); (try clear_value s1); (try clear_value s1); exact (State.cond_same h2 (fun _ h3 => (State.int_same h3 ..)) ..)))
theorem State.emClose_same {q m} (h0' : Same q m s0') (a1') : Same q m (State.emClose s0' a1') := by
  unfold State.emClose; exact (by extract_lets -merge x0; (try clear_value x0); exact (.foldl h0' (fun _ h1 _ => (by split; (· exact (by extract_lets -merge x2 x3 x4 x5; (try clear_value x2 x3 x4 x5); exact (.ite (State.setCv_same h1 ..) (State.setCv_same (State.wr_same h1 ..) ..)))))) _))
theorem State.emWord_same {q m} (h0' : Same q m s0') (a1') (a2') (a3') : Same q m (State.emWord s0' a1' a2' a3') := by
  unfold State.emWord; exact (by extract_lets -merge x0 s1 s3; (try clear_value x0); have h2 : Same q m s1 := (State.setCv_same h0' ..); (try clear_value s1); have h4 : Same q m s3 := (State.setCv_same h2 ..); (try clear_value s3); (try clear_value s1 s3); exact (.ite h4 (State.emClose_same h4 ..)))
theorem State.loopPower_same {q m} (h0' : Same q m s0') (a1') (a2') (a3') : Same q m (State.loopPower s0' a1' a2' a3') := by
  unfold State.loopPower; exact (.upd h0')
theorem State.oscSample_same {q m} (h0' : Same q m s0') (a1') (a2') (a3') (a4') (a5') : Same q m (State.oscSample s0' a1' a2' a3' a4' a5') := by
  unfold State.oscSample; exact (by extract_lets -merge x0 x1 x2 x3 x4 x5 s6 x8 s9 x11 x12; (try clear_value x0 x1 x2 x3 x4 x5 x8 x11 x12); have h7 : Same q m s6 := (State.setLane_same h0' ..); (try clear_value s6); have h10 : Same q m s9 := (State.setLane_same h7 ..); (try clear_value s9); (try clear_value s6 s9); exact (.ite (State.setLane_same h0' ..) (.ite h10 (State.setLane_same h10 ..))))
theorem State.throttleStep_same {q m} (h0' : Same q m s0') (a1') : Same q m (State.throttleStep s0' a1') := by
  unfold State.throttleStep; exact (.ite (State.setLane_same h0' ..) h0')
theorem State.setGain_same {q m} (h0' : Same q m s0') (a1') : Same q m (State.setGain s0' a1') := by
  unfold State.setGain; exact (by extract_lets -merge s0 x2 x3 x4 s5; (try clear_value x2 x3 x4); have h1 : Same q m s0 := (State.bringCap_same (State.throttleStep_same h0' ..) ..); (try clear_value s0); have h6 : Same q m s5 := (State.wr_same (State.wr_same h1 ..) ..); (try clear_value s5); (try clear_value s0 s5); exact (State.cond_same h6 (fun _ h7 => (State.int_same h7 ..)) ..))
theorem State.receive_same {q m} (h0' : Same q m s0') (a1') (a2') : Same q m (State.receive s0' a1' a2').1 := by
  unfold State.receive; exact (by extract_lets -merge x0; (try clear_value x0); exact (by split; (· exact (.pr1 h0')); (· exact (by split; (· exact (.pr1 (State.setLane_same h0' ..)))))))
theorem State.pushRef_same {q m} (h0' : Same q m s0') (a1') (a2') (a3') (a4') : Same q m (State.pushRef s0' a1' a2' a3' a4') := by
  unfold State.pushRef; exact (by extract_lets -merge x0 x1 x2; (try clear_value x0 x1 x2); exact (State.setLane_same h0' ..))
theorem State.odWord_same {q m} (h0' : Same q m s0') (a1') (a2') (a3') (a4') : Same q m (State.odWord s0' a1' a2' a3' a4') := by
  unfold State.odWord; exact (by extract_lets -merge s0; have h1 : Same q m s0 := (State.setCv_same h0' ..); (try clear_value s0); (try clear_value s0); exact (State.setCv_same h1 ..))
theorem State.pkWord_same {q m} (h0' : Same q m s0') (a1') (a2') : Same q m (State.pkWord s0' a1' a2') := by
  unfold State.pkWord; exact (State.setCv_same h0' ..)
theorem State.portWord_same {q m} (h0' : Same q m s0') (a1') (a2') (a3') : Same q m (State.portWord s0' a1' a2' a3') := by
  unfold State.portWord; exact (by extract_lets -merge x0 s1 x3; (try clear_value x0 x3); have h2 : Same q m s1 := (State.setCv_same h0' ..); (try clear_value s1); (try clear_value s1); exact (by split; (· exact (State.pkWord_same (State.emWord_same (State.odWord_same (State.cond_same h2 (fun _ h4 => (State.clipWord_same h4 ..)) ..) ..) ..) ..))))
theorem State.portDrain_same {q m} (h0' : Same q m s0') (a1') : Same q m (State.portDrain s0' a1') := by
  unfold State.portDrain; exact (by extract_lets -merge x0 x1; (try clear_value x0 x1); exact (by split; (· exact h0'); (· exact (by extract_lets -merge x2 x3 s4 x7; (try clear_value x2 x3 x7); have h6 : Same q m s4 := (by unfold s4; exact (.foldl h0' (fun _ h5 _ => (by split; (· exact (State.portWord_same h5 ..)))) _)); (try clear_value s4); (try clear_value s4); exact (State.setCv_same h6 ..)))))
theorem State.transmit_same {q m} (h0' : Same q m s0') (a1') (a2') : Same q m (State.transmit s0' a1' a2').1 := by
  unfold State.transmit; exact (by extract_lets -merge x0 x1 x2 s3; (try clear_value x0 x1 x2); have h4 : Same q m s3 := (State.portDrain_same h0' ..); (try clear_value s3); (try clear_value s3); exact (by split; (· exact (.pr1 h0')); (· exact (by split; (· exact (by split; (· exact (by split; (· exact (by split; (· exact (by extract_lets -merge s5 s7; have h6 : Same q m s5 := (State.setLane_same h4 ..); (try clear_value s5); have h9 : Same q m s7 := (State.cond_same h6 (fun _ h8 => (State.setCv_same h8 ..)) ..); (try clear_value s7); (try clear_value s5 s7); exact (.pr1 h9)))))))))))))
theorem State.streamOut_same {q m} (h0' : Same q m s0') (a1') (a2') (a3') : Same q m (State.streamOut s0' a1' a2' a3') := by
  unfold State.streamOut; exact (.foldl h0' (fun _ h0 _ => (by extract_lets -merge x1; (try clear_value x1); exact (.ite (by split; (· exact (by extract_lets -merge s2; have h3 : Same q m s2 := (State.setStx_same h0 ..); (try clear_value s2); (try clear_value s2); exact (State.streamSend_same (State.cond_same h3 (fun _ h4 => (State.satInc_same h4 ..)) ..) ..)))) h0))) _)
theorem State.laneSample_kept {q} (h0' : Kept q s0') (a1') (a2') (a3') (a4') : Kept q (State.laneSample s0' a1' a2' a3' a4') := by
  unfold State.laneSample; exact (by extract_lets -merge s0 x2 x3 s4 s7 s10; (try clear_value x2 x3); have h1 : Kept q s0 := (keep h0' fun h => State.toSample_same h ..); (try clear_value s0); have h6 : Kept q s4 := (State.cond_kept h1 (fun _ h5 => (keep h5 fun h => State.satAdd_same h ..)) ..); (try clear_value s4); have h9 : Kept q s7 := (State.cond_kept h6 (fun _ h8 => (keep h8 fun h => State.satAdd_same h ..)) ..); (try clear_value s7); have h11 : Kept q s10 := (keep h9 fun h => State.setGain_same h ..); (try clear_value s10); (try clear_value s0 s4 s7 s10); exact (.ite (State.capWord_kept h1 ..) (by split; rename_i s14 x15 e12; have h13 : Kept q s14 := .fst e12 (keep h11 fun h => State.receive_same h ..); exact (by split; (· exact (by split; (· exact (by extract_lets -merge s16 x18; (try clear_value x18); have h17 : Kept q s16 := (keep h13 fun h => State.setLane_same h ..); (try clear_value s16); (try clear_value s16); exact (by split; (· exact (by extract_lets -merge x19 s20 x22 x23; (try clear_value x19 x22 x23); have h21 : Kept q s20 := (keep (keep h17 fun h => State.setLane_same h ..) fun h => State.sptSample_same h ..); (try clear_value s20); (try clear_value s20); exact (by split; (· exact (by split; (· exact (by extract_lets -merge x24 x25 x26 s27 s29 s31 s34; (try clear_value x24 x25 x26); have h28 : Kept q s27 := (keep (keep h21 fun h => State.pushRef_same h ..) fun h => State.oscSample_same h ..); (try clear_value s27); have h30 : Kept q s29 := (keep (keep (keep h28 fun h => State.probeSample_same h ..) fun h => State.searchSample_same h ..) fun h => State.estSample_same h ..); (try clear_value s29); have h33 : Kept q s31 := (State.cond_kept h30 (fun _ h32 => (keep (keep h32 fun h => State.outPower_same h ..) fun h => State.loopPower_same h ..)) ..); (try clear_value s31); have h36 : Kept q s34 := (State.cond_kept h33 (fun _ h35 => (keep h35 fun h => State.streamOut_same h ..)) ..); (try clear_value s34); (try clear_value s27 s29 s31 s34); exact (by split; rename_i s39 x40 e37; have h38 : Kept q s39 := .fst e37 (keep h36 fun h => State.transmit_same h ..); exact (by extract_lets -merge s41 x43; (try clear_value x43); have h42 : Kept q s41 := (keep (keep h38 fun h => State.countSat_same h ..) fun h => State.syncTo_same h ..); (try clear_value s41); (try clear_value s41); exact (State.capWord_kept h42 ..)))))))))))))))))))

end Sys2Proof.Machine
end

