-- ==== Sys2Proof/Laws/KeepCte.lean ====
section
/-! SUPPORT. What the operations of Machine/Cte.lean keep: the queue, the memory or its canonical form, a legal time of
day. -/
namespace Sys2Proof.Machine
open Sys2Proof
set_option Elab.async false

theorem State.setLpF_kept {q} (h0' : Kept q s0') (a1') (a2') (a3') (a4') (a5') : Kept q (State.setLpF s0' a1' a2' a3' a4' a5') := by
  unfold State.setLpF; exact (State.stF_kept h0' ..)
theorem State.setLoop_same {q m} (h0' : Same q m s0') (a1') (a2') : Same q m (State.setLoop s0' a1' a2') := by
  unfold State.setLoop; exact (.upd h0')
theorem State.setPwm_same {q m} (h0' : Same q m s0') (a1') (a2') : Same q m (State.setPwm s0' a1' a2') := by
  unfold State.setPwm; exact (.upd h0')
theorem State.setLpBit_kept {q} (h0' : Kept q s0') (a1') (a2') (a3') : Kept q (State.setLpBit s0' a1' a2' a3') := by
  unfold State.setLpBit; exact (State.setLpF_kept h0' ..)
theorem State.setCte_same {q m} (h0' : Same q m s0') (a1') : Same q m (State.setCte s0' a1') := by
  unfold State.setCte; exact (.upd h0')
theorem State.setInj_same {q m} (h0' : Same q m s0') (a1') : Same q m (State.setInj s0' a1') := by
  unfold State.setInj; exact (State.setCte_same h0' ..)
theorem State.setCteLoad_same {q m} (h0' : Same q m s0') : Same q m (State.setCteLoad s0') := by
  unfold State.setCteLoad; exact (State.wr_same h0' ..)
theorem State.injEnd_same {q m} (h0' : Same q m s0') : Same q m (State.injEnd s0') := by
  unfold State.injEnd; exact (.ite (State.int_same (State.wr_same (State.setInj_same h0' ..) ..) ..) h0')
theorem State.loopHalt_kept {q} (h0' : Kept q s0') (a1') : Kept q (State.loopHalt s0' a1') := by
  unfold State.loopHalt; exact (by extract_lets -merge s0 x3 s4 s6 s8 s10; (try clear_value x3); have h2 : Kept q s0 := (State.cond_kept h0' (fun _ h1 => (keep (keep h1 fun h => State.injEnd_same h ..) fun h => State.setInj_same h ..)) ..); (try clear_value s0); have h5 : Kept q s4 := (by unfold s4; exact (by split; (· exact (keep h2 fun h => State.wr_same h ..)); (· exact h2))); (try clear_value s4); have h7 : Kept q s6 := (by unfold s6; exact (by split; (· exact (keep h2 fun h => State.wr_same h ..)); (· exact (keep (keep h5 fun h => State.wr_same h ..) fun h => State.setPwm_same h ..)); (· exact h2))); (try clear_value s6); have h9 : Kept q s8 := (State.setLpF_kept h7 ..); (try clear_value s8); have h11 : Kept q s10 := (State.setLpBit_kept (State.setLpBit_kept h9 ..) ..); (try clear_value s10); (try clear_value s0 s4 s6 s8 s10); exact (keep (keep h11 fun h => State.setLoop_same h ..) fun h => State.setCteLoad_same h ..))
theorem State.setLpW_kept {q} (h0' : Kept q s0') (a1') (a2') (a3') : Kept q (State.setLpW s0' a1' a2' a3') := by
  unfold State.setLpW; exact (State.stIn_kept h0' ..)
theorem State.loopEnable_kept {q} (h0' : Kept q s0') (a1') : Kept q (State.loopEnable s0' a1') := by
  unfold State.loopEnable; exact (by split; (· exact (keep (keep (State.setLpF_kept (State.setLpF_kept h0' ..) ..) fun h => State.refuse_same h ..) fun h => State.int_same h ..)); (· exact (by extract_lets -merge x0 x1 x2 s3 s5 s7 s9 x11 s12; (try clear_value x0 x1 x2 x11); have h4 : Kept q s3 := (keep h0' fun h => State.setLoop_same h ..); (try clear_value s3); have h6 : Kept q s5 := (State.setLpF_kept h4 ..); (try clear_value s5); have h8 : Kept q s7 := (State.setLpW_kept (State.setLpF_kept (State.setLpF_kept h6 ..) ..) ..); (try clear_value s7); have h10 : Kept q s9 := (State.setLpBit_kept (State.setLpBit_kept h8 ..) ..); (try clear_value s9); have h13 : Kept q s12 := (by unfold s12; exact (by split; (· exact (keep h10 fun h => State.wr_same h ..)); (· exact (keep h10 fun h => State.wr_same h ..)); (· exact h10))); (try clear_value s12); (try clear_value s3 s5 s7 s9 s12); exact (keep (keep h13 fun h => State.setCteLoad_same h ..) fun h => State.int_same h ..))))
theorem State.cueSwap_kept {q} (h0' : Kept q s0') (a1') : Kept q (State.cueSwap s0' a1') := by
  unfold State.cueSwap; exact (by extract_lets -merge s0; have h1 : Kept q s0 := (State.setLpF_kept h0' ..); (try clear_value s0); (try clear_value s0); exact (keep (State.setLpF_kept h1 ..) fun h => State.int_same h ..))
theorem State.cteIgnore_same {q m} (h0' : Same q m s0') : Same q m (State.cteIgnore s0') := by
  unfold State.cteIgnore; exact (State.satInc_same h0' ..)
theorem State.cue_kept {q} (h0' : Kept q s0') (a1') : Kept q (State.cue s0' a1') := by
  unfold State.cue; exact (.ite (keep h0' fun h => State.cteIgnore_same h ..) (.ite (keep (State.setLpF_kept h0' ..) fun h => State.refuse_same h ..) (by extract_lets -merge s0; have h1 : Kept q s0 := (State.setLpF_kept h0' ..); (try clear_value s0); (try clear_value s0); exact (.ite (keep (State.setLpF_kept h1 ..) fun h => State.setLoop_same h ..) (State.cueSwap_kept h1 ..)))))
theorem State.writeLpCfg_kept {q} (h0' : Kept q s0') (a1') (a2') : Kept q (State.writeLpCfg s0' a1' a2') := by
  unfold State.writeLpCfg; exact (by extract_lets -merge x0 x1 x2 x3 x4 s5 s8 s10 s13 s16; (try clear_value x0 x1 x2 x3 x4); have h7 : Kept q s5 := (State.cond_kept h0' (fun _ h6 => (keep h6 fun h => State.cteIgnore_same h ..)) ..); (try clear_value s5); have h9 : Kept q s8 := (.ite (State.setLpW_kept h7 ..) (State.setLpW_kept h0' ..)); (try clear_value s8); have h12 : Kept q s10 := (State.cond_kept h9 (fun _ h11 => (State.setLpBit_kept h11 ..)) ..); (try clear_value s10); have h15 : Kept q s13 := (State.cond_kept h12 (fun _ h14 => (State.cue_kept h14 ..)) ..); (try clear_value s13); have h21 : Kept q s16 := (by unfold s16; exact (State.cond_kept h15 (fun _ h17 => (by extract_lets -merge s18; have h20 : Kept q s18 := (State.cond_kept h17 (fun _ h19 => (State.cueSwap_kept h19 ..)) ..); (try clear_value s18); (try clear_value s18); exact (State.setLpF_kept (State.loopHalt_kept h20 ..) ..))) ..)); (try clear_value s16); (try clear_value s5 s8 s10 s13 s16); exact (.ite (State.loopEnable_kept h21 ..) (.ite (keep h15 fun h => State.setLoop_same h ..) h15)))
theorem State.bdacMove_same {q m} (h0' : Same q m s0') (a1') : Same q m (State.bdacMove s0' a1') := by
  unfold State.bdacMove; exact (.ite (State.wr_same h0' ..) h0')
theorem State.writeInjCfg_same {q m} (h0' : Same q m s0') (a1') : Same q m (State.writeInjCfg s0' a1') := by
  unfold State.writeInjCfg; exact (.ite (State.refuse_same h0' ..) (State.wrWord_same h0' ..))
theorem State.setCap_same {q m} (h0' : Same q m s0') (a1') : Same q m (State.setCap s0' a1') := by
  unfold State.setCap; exact (State.setCte_same h0' ..)
theorem State.writeCteCap_same {q m} (h0' : Same q m s0') (a1') : Same q m (State.writeCteCap s0' a1') := by
  unfold State.writeCteCap; exact (by extract_lets -merge x0 s1; (try clear_value x0); have h2 : Same q m s1 := (State.wrWord_same h0' ..); (try clear_value s1); (try clear_value s1); exact (.ite (.ite h2 (State.setCap_same (State.wr_same (State.wr_same h2 ..) ..) ..)) (State.setCap_same h2 ..)))
theorem State.setSect_same {q m} (h0' : Same q m s0') (a1') (a2') : Same q m (State.setSect s0' a1' a2') := by
  unfold State.setSect; exact (.upd h0')
theorem State.writeSectState_same {q m} (h0' : Same q m s0') (a1') (a2') : Same q m (State.writeSectState s0' a1' a2') := by
  unfold State.writeSectState; exact (by extract_lets -merge x0 x1; (try clear_value x0 x1); exact (by split; (· exact (State.cteIgnore_same h0' ..)); (· exact (.ite (State.setSect_same h0' ..) (State.setSect_same h0' ..)))))
theorem State.writeInjCtl_same {q m} (h0' : Same q m s0') (a1') : Same q m (State.writeInjCtl s0' a1') := by
  unfold State.writeInjCtl; exact (by extract_lets -merge s0 s3; have h2 : Same q m s0 := (State.cond_same h0' (fun _ h1 => (State.setInj_same h1 ..)) ..); (try clear_value s0); have h5 : Same q m s3 := (State.cond_same h2 (fun _ h4 => (State.setInj_same h4 ..)) ..); (try clear_value s3); (try clear_value s0 s3); exact (State.cond_same h5 (fun _ h6 => (State.setCap_same h6 ..)) ..))
theorem State.writeInjLen_same {q m} (h0' : Same q m s0') (a1') : Same q m (State.writeInjLen s0' a1') := by
  unfold State.writeInjLen; exact (.ite (State.refuse_same h0' ..) (State.wr_same h0' ..))
theorem State.cueGroup_kept {q} (h0' : Kept q s0') (a1') : Kept q (State.cueGroup s0' a1') := by
  unfold State.cueGroup; exact (.foldl h0' (fun _ h0 _ => (.ite (State.cue_kept h0 ..) h0)) _)
theorem State.writeSect_same {q m} (h0' : Same q m s0') (a1') (a2') (a3') : Same q m (State.writeSect s0' a1' a2' a3') := by
  unfold State.writeSect; exact (by extract_lets -merge x0 x1 x2 x3 x4; (try clear_value x0 x1 x2 x3 x4); exact (.ite (by split; (· exact (State.setSect_same h0' ..)); (· exact (State.cond_same (State.setSect_same h0' ..) (fun _ h5 => (State.cteIgnore_same h5 ..)) ..))) (.ite (State.cteIgnore_same h0' ..) (State.setSect_same h0' ..))))
theorem State.writeLp_kept {q} (h0' : Kept q s0') (a1') (a2') (a3') : Kept q (State.writeLp s0' a1' a2' a3') := by
  unfold State.writeLp; exact (by extract_lets -merge x0 x1 x2 x3; (try clear_value x0 x1 x2 x3); exact (.ite (State.writeLpCfg_kept h0' ..) (.ite (State.setLpW_kept h0' ..) (.ite h0' (.ite (keep h0' fun h => State.cteIgnore_same h ..) (.ite (keep h0' fun h => State.cteIgnore_same h ..) (State.cond_kept (State.setLpW_kept h0' ..) (fun _ h4 => (State.setLpBit_kept h4 ..)) ..)))))))
theorem State.setFrame_same {q m} (h0' : Same q m s0') (a1') (a2') (a3') (a4') : Same q m (State.setFrame s0' a1' a2' a3' a4') := by
  unfold State.setFrame; exact (.foldl h0' (fun _ h0 _ => (State.putBit_same h0 ..)) _)
theorem State.attnFields_same {q m} (h0' : Same q m s0') (a1') : Same q m (State.attnFields s0' a1') := by
  unfold State.attnFields; exact (by extract_lets -merge x0 s1; (try clear_value x0); have h3 : Same q m s1 := (.foldl h0' (fun _ h2 _ => (State.setFrame_same h2 ..)) _); (try clear_value s1); (try clear_value s1); exact (.ite h3 (State.attnSend_same h3 ..)))
theorem State.capSample_kept {q} (h0' : Kept q s0') (a1') (a2') (a3') : Kept q (State.capSample s0' a1' a2' a3') := by
  unfold State.capSample; exact (by extract_lets -merge x0 x1 s2 x5 s6 x8 s9 s11 s13; (try clear_value x0 x1 x5 x8); have h4 : Kept q s2 := (keep (State.cond_kept h0' (fun _ h3 => (keep h3 fun h => State.wr_same h ..)) ..) fun h => State.setCap_same h ..); (try clear_value s2); have h7 : Kept q s6 := (keep h4 fun h => State.setCap_same h ..); (try clear_value s6); have h10 : Kept q s9 := (State.stIn_kept (State.stIn_kept h7 ..) ..); (try clear_value s9); have h12 : Kept q s11 := (keep h10 fun h => State.setCap_same h ..); (try clear_value s11); have h14 : Kept q s13 := (.ite (keep (keep h12 fun h => State.wr_same h ..) fun h => State.setCap_same h ..) (keep h12 fun h => State.setCap_same h ..)); (try clear_value s13); (try clear_value s2 s6 s9 s11 s13); exact (.ite h0' (.ite h7 (.ite (keep (keep (keep h14 fun h => State.setCap_same h ..) fun h => State.wr_same h ..) fun h => State.int_same h ..) h14))))
theorem State.cteCapMem_kept {q} (h0' : Kept q s0') (a1') : Kept q (State.cteCapMem s0' a1') := by
  unfold State.cteCapMem; exact (keep (State.stIn_kept (State.stIn_kept h0' ..) ..) fun h => State.raise_same h ..)
theorem State.cteMem_kept {q} (h0' : Kept q s0') (a1') : Kept q (State.cteMem s0' a1') := by
  unfold State.cteMem; exact (by extract_lets -merge s0 s2 s4 s7; have h1 : Kept q s0 := (State.setLpW_kept (State.setLpF_kept h0' ..) ..); (try clear_value s0); have h3 : Kept q s2 := (State.setLpBit_kept (State.setLpBit_kept h1 ..) ..); (try clear_value s2); have h6 : Kept q s4 := (.foldl h3 (fun _ h5 _ => (keep h5 fun h => State.setSect_same h ..)) _); (try clear_value s4); have h8 : Kept q s7 := (.ite (keep h6 fun h => State.int_same h ..) h0'); (try clear_value s7); (try clear_value s0 s2 s4 s7); exact (keep h8 fun h => State.raise_same h ..))
theorem State.ctePowerDown_kept {q} (h0' : Kept q s0') : Kept q (State.ctePowerDown s0') := by
  unfold State.ctePowerDown; exact (.foldl h0' (fun _ h0 _ => (.ite (State.loopHalt_kept h0 ..) (keep h0 fun h => State.setLoop_same h ..))) _)
theorem State.cteRestart_kept {q} (h0' : Kept q s0') : Kept q (State.cteRestart s0') := by
  unfold State.cteRestart; exact (.foldl h0' (fun _ h0 _ => (by extract_lets -merge x1 x2 x3; (try clear_value x1 x2 x3); exact (keep (State.setLpBit_kept h0 ..) fun h => State.setLoop_same h ..))) _)
theorem State.deliverCode_same {q m} (h0' : Same q m s0') (a1') (a2') (a3') : Same q m (State.deliverCode s0' a1' a2' a3') := by
  unfold State.deliverCode; exact (by extract_lets -merge x0; (try clear_value x0); exact (by split; (· exact (.ite (State.setLane_same h0' ..) h0')); (· exact (State.attnFields_same h0' ..)); (· exact (State.bdacMove_same (State.wr_same h0' ..) ..)); (· exact (State.setPwm_same h0' ..)); (· exact (.ite h0' (State.coreRequest_same h0' ..))); (· exact h0')))
theorem State.holdAt_kept {q} (h0' : Kept q s0') (a1') : Kept q (State.holdAt s0' a1') := by
  unfold State.holdAt; exact (.ite h0' (by extract_lets -merge x0 x1 x2; (try clear_value x0 x1 x2); exact (State.cond_kept (State.setLpBit_kept h0' ..) (fun _ h3 => (keep h3 fun h => State.int_same h ..)) ..)))
theorem State.injBoundary_same {q m} (h0' : Same q m s0') (a1') : Same q m (State.injBoundary s0' a1') := by
  unfold State.injBoundary; exact (.ite h0' (by extract_lets -merge s0 s3; have h2 : Same q m s0 := (State.cond_same h0' (fun _ h1 => (State.injEnd_same h1 ..)) ..); (try clear_value s0); have h4 : Same q m s3 := (State.setInj_same h2 ..); (try clear_value s3); (try clear_value s0 s3); exact (.ite (State.setCap_same (State.wr_same h4 ..) ..) h2)))
theorem State.injNext_same {q m} (h0' : Same q m s0') (a1') : Same q m (State.injNext s0' a1') := by
  unfold State.injNext; exact (by extract_lets -merge x0 x1 x2 x3; (try clear_value x0 x1 x2 x3); exact (.ite (.ite (State.injEnd_same h0' ..) (State.setInj_same h0' ..)) h0'))
theorem State.loopFollow_kept {q} (h0' : Kept q s0') (a1') : Kept q (State.loopFollow s0' a1') := by
  unfold State.loopFollow; exact (by extract_lets -merge s0; have h6 : Kept q s0 := (by unfold s0; exact (.foldl h0' (fun _ h1 _ => (by extract_lets -merge s2; have h4 : Kept q s2 := (State.cond_kept h1 (fun _ h3 => (State.setLpF_kept h3 ..)) ..); (try clear_value s2); (try clear_value s2); exact (State.cond_kept h4 (fun _ h5 => (State.setLpF_kept h5 ..)) ..))) _)); (try clear_value s0); (try clear_value s0); exact (keep h6 fun h => State.setLoop_same h ..))
theorem State.loopSend_kept {q} (h0' : Kept q s0') (a1') : Kept q (State.loopSend s0' a1') := by
  unfold State.loopSend; exact (by split; (· exact h0'); (· exact (by extract_lets -merge s0; have h1 : Kept q s0 := (State.setLpW_kept (keep h0' fun h => State.deliverCode_same h ..) ..); (try clear_value s0); (try clear_value s0); exact (State.setLpF_kept h1 ..))))
theorem State.loopPowEnd_same {q m} (h0' : Same q m s0') (a1') : Same q m (State.loopPowEnd s0' a1') := by
  unfold State.loopPowEnd; exact (State.setLoop_same h0' ..)
theorem State.outSat_kept {q} (h0' : Kept q s0') (a1') : Kept q (State.outSat s0' a1') := by
  unfold State.outSat; exact (State.cond_kept h0' (fun _ h0 => (keep (State.setLpBit_kept h0 ..) fun h => State.int_same h ..)) ..)
theorem State.transferred_kept {q} (h0' : Kept q s0') (a1') (a2') : Kept q (State.transferred s0' a1' a2') := by
  unfold State.transferred; exact (by extract_lets -merge s0; have h2 : Kept q s0 := (State.cond_kept h0' (fun _ h1 => (keep (State.setLpBit_kept h1 ..) fun h => State.int_same h ..)) ..); (try clear_value s0); (try clear_value s0); exact (keep h2 fun h => State.int_same h ..))
theorem State.modeAt_kept {q} (h0' : Kept q s0') (a1') : Kept q (State.modeAt s0' a1').1 := by
  unfold State.modeAt; exact (by extract_lets -merge x0 x1 x2 s3 s5; (try clear_value x0 x1 x2); have h4 : Kept q s3 := (State.setLpBit_kept h0' ..); (try clear_value s3); have h7 : Kept q s5 := (State.cond_kept h4 (fun _ h6 => (State.setLpW_kept h6 ..)) ..); (try clear_value s5); (try clear_value s3 s5); exact (.ite1 (.pr1 (keep (State.setLpBit_kept (State.setLpBit_kept (State.setLpBit_kept h0' ..) ..) ..) fun h => State.setLoop_same h ..)) (.ite1 (.pr1 (State.transferred_kept h7 ..)) (.pr1 h0'))))
theorem State.putSect_same {q m} (h0' : Same q m s0') (a1') (a2') : Same q m (State.putSect s0' a1' a2') := by
  unfold State.putSect; exact (by extract_lets -merge x0; (try clear_value x0); exact (State.cond_same (State.setSect_same h0' ..) (fun _ h1 => (State.int_same h1 ..)) ..))
theorem State.runInteg_same {q m} (h0' : Same q m s0') (a1') (a2') : Same q m (State.runInteg s0' a1' a2').2 := by
  unfold State.runInteg; exact (by extract_lets -merge x0 x1 x2 x3 x4 s5 x7 x8; (try clear_value x0 x1 x2 x3 x4 x7 x8); have h6 : Same q m s5 := (.ite (State.setLoop_same (State.setSect_same h0' ..) ..) h0'); (try clear_value s5); (try clear_value s5); exact (.ite2 (by split; (· exact (.pr2 (State.putSect_same h6 ..)))) (by split; (· exact (.pr2 (State.setLoop_same (State.putSect_same h6 ..) ..))))))
theorem State.runFront_same {q m s} (h : Same q m s) (l ks v) : Same q m (State.runFront s l ks v).2 := by
  unfold State.runFront
  extract_lets b
  clear_value b
  have gen : ∀ p : Rat × State, Same q m p.2 → Same q m (List.foldl (fun (a : Rat × State) k =>
      let (y, x) := (a.2.sect k).step b a.1
      (y, a.2.putSect k x)) p ks).2 := by
    induction ks with
    | nil => exact fun p hp => hp
    | cons k ks ih => exact fun p hp => ih _ (State.putSect_same hp ..)
  exact gen _ h

theorem State.sampleCode_kept {q} (h0' : Kept q s0') (a1') (a2') : Kept q (State.sampleCode s0' a1' a2').2 := by
  unfold State.sampleCode; exact (.ite2 (by split; (· exact (.pr2 (State.cond_kept h0' (fun _ h0 => (State.outSat_kept h0 ..)) ..)))) (by extract_lets -merge x1 x2 s3 x5; (try clear_value x1 x2 x5); have h4 : Kept q s3 := (State.setLpF_kept h0' ..); (try clear_value s3); (try clear_value s3); exact (by split; (· exact (.pr2 (State.cond_kept h4 (fun _ h6 => (State.outSat_kept h6 ..)) ..))))))
theorem State.loopEval_kept {q} (h0' : Kept q s0') (a1') : Kept q (State.loopEval s0' a1') := by
  unfold State.loopEval; exact (by split; rename_i s2 x3 e0; have h1 : Kept q s2 := .fst e0 (State.modeAt_kept h0' ..); exact (by extract_lets -merge s4 x6 x7 x8 x9 x10; (try clear_value x6 x7 x8 x9 x10); have h5 : Kept q s4 := (State.holdAt_kept h1 ..); (try clear_value s4); (try clear_value s4); exact (by split; rename_i x16 s15 e13; have h14 : Kept q s15 := .snd e13 (by split; (· exact (by extract_lets -merge s11; have h12 : Kept q s11 := (State.setLpW_kept h5 ..); (try clear_value s11); (try clear_value s11); exact (keep h12 fun h => State.runFront_same h ..))); (· exact (.pr2 h5))); exact (by split; rename_i x20 s19 e17; have h18 : Kept q s19 := .snd e17 (.ite2 (.pr2 h14) (by split; (· exact (.pr2 (State.setLpBit_kept h14 ..))); (· exact (.ite2 (keep h14 fun h => State.runInteg_same h ..) (.pr2 h14))))); exact (by extract_lets -merge x21 x22 s23 x26 s27; (try clear_value x21 x22 x26); have h25 : Kept q s23 := (State.cond_kept h18 (fun _ h24 => (State.outSat_kept h24 ..)) ..); (try clear_value s23); have h29 : Kept q s27 := (State.cond_kept h25 (fun _ h28 => (State.transferred_kept h28 ..)) ..); (try clear_value s27); (try clear_value s23 s27); exact (by split; rename_i x33 s32 e30; have h31 : Kept q s32 := .snd e30 (State.sampleCode_kept h29 ..); exact (by extract_lets -merge s34 s36; have h35 : Kept q s34 := (keep (State.capSample_kept h31 ..) fun h => State.injNext_same h ..); (try clear_value s34); have h37 : Kept q s36 := (keep h35 fun h => State.setLoop_same h ..); (try clear_value s36); (try clear_value s34 s36); exact (State.setLpW_kept h37 ..))))))))
theorem State.loopBoundary_kept {q} (h0' : Kept q s0') (a1') (a2') (a3') : Kept q (State.loopBoundary s0' a1' a2' a3') := by
  unfold State.loopBoundary; exact (by extract_lets -merge s0 x3 s4 s6 s8 s11 s13 s16; (try clear_value x3); have h2 : Kept q s0 := (State.cond_kept h0' (fun _ h1 => (keep h1 fun h => State.satAdd_same h ..)) ..); (try clear_value s0); have h5 : Kept q s4 := (keep h2 fun h => State.reach_same h ..); (try clear_value s4); have h7 : Kept q s6 := (State.loopFollow_kept h5 ..); (try clear_value s6); have h10 : Kept q s8 := (State.cond_kept h7 (fun _ h9 => (keep (State.setLpBit_kept (keep h9 fun h => State.satInc_same h ..) ..) fun h => State.raise_same h ..)) ..); (try clear_value s8); have h12 : Kept q s11 := (keep (State.loopSend_kept h10 ..) fun h => State.setLoop_same h ..); (try clear_value s11); have h15 : Kept q s13 := (State.cond_kept h12 (fun _ h14 => (State.cueSwap_kept h14 ..)) ..); (try clear_value s13); have h17 : Kept q s16 := (keep h15 fun h => State.injBoundary_same h ..); (try clear_value s16); (try clear_value s0 s4 s6 s8 s11 s13 s16); exact (.ite h2 (.ite (State.loopHalt_kept h15 ..) (keep (.ite (State.loopEval_kept h17 ..) (keep h17 fun h => State.setLoop_same h ..)) fun h => State.loopPowEnd_same h ..))))
theorem State.loopEn_kept {q} (h0' : Kept q s0') (a1') (a2') (a3') : Kept q (State.loopEn s0' a1' a2' a3') := by
  unfold State.loopEn; exact (State.writeLpCfg_kept h0' ..)

end Sys2Proof.Machine
end

