-- ==== Sys2Proof/Laws/KeepHk.lean ====
section
/-! SUPPORT. What the operations of Machine/Hk.lean keep: the queue, the memory or its canonical form, a legal time of
day. -/
namespace Sys2Proof.Machine
open Sys2Proof
set_option Elab.async false

theorem State.hkTrigger_same {q m} (h0' : Same q m s0') : Same q m (State.hkTrigger s0') := by
  unfold State.hkTrigger; exact (.ite h0' (.ite (State.int_same (State.satInc_same h0' ..) ..) (State.setHk_same (State.wr_same h0' ..) ..)))
theorem State.writeHkCtl_same {q m} (h0' : Same q m s0') (a1') : Same q m (State.writeHkCtl s0' a1') := by
  unfold State.writeHkCtl; exact (.ite (State.hkTrigger_same h0' ..) h0')
theorem State.setHkChan_same {q m} (h0' : Same q m s0') (a1') (a2') : Same q m (State.setHkChan s0' a1' a2') := by
  unfold State.setHkChan; exact (State.setHk_same h0' ..)
theorem State.hkFresh_same {q m} (h0' : Same q m s0') (_ : Same q m s1') : Same q m (State.hkFresh s0' s1') := by
  unfold State.hkFresh; exact (.foldl h0' (fun _ h0 _ => (State.setHkChan_same h0 ..)) _)
theorem State.writeHkMask_same {q m} (h0' : Same q m s0') (a1') : Same q m (State.writeHkMask s0' a1') := by
  unfold State.writeHkMask; exact (State.hkFresh_same (State.wr_same h0' ..) h0' ..)
theorem State.writeHkTimer_same {q m} (h0' : Same q m s0') (a1') : Same q m (State.writeHkTimer s0' a1') := by
  unfold State.writeHkTimer; exact (.ite (State.refuse_same h0' ..) (State.wr_same h0' ..))
theorem State.writeHkTrig_same {q m} (h0' : Same q m s0') (a1') : Same q m (State.writeHkTrig s0' a1') := by
  unfold State.writeHkTrig; exact (.ite (State.refuse_same h0' ..) (State.wrWord_same h0' ..))
theorem State.writeHkCfg_same {q m} (h0' : Same q m s0') (a1') : Same q m (State.writeHkCfg s0' a1') := by
  unfold State.writeHkCfg; exact (State.hkFresh_same (State.wrWord_same h0' ..) h0' ..)
theorem State.writeThmCtl_same {q m} (h0' : Same q m s0') (a1') : Same q m (State.writeThmCtl s0' a1') := by
  unfold State.writeThmCtl; exact (.ite (.foldl h0' (fun _ h0 _ => (State.wr_same h0 ..)) _) h0')
theorem State.writePwmPer_same {q m} (h0' : Same q m s0') (a1') (a2') : Same q m (State.writePwmPer s0' a1' a2') := by
  unfold State.writePwmPer; exact (.ite (State.refuse_same h0' ..) (State.wr_same h0' ..))
theorem State.pwmIgnore_same {q m} (h0' : Same q m s0') : Same q m (State.pwmIgnore s0') := by
  unfold State.pwmIgnore; exact (State.int_same (State.satInc_same h0' ..) ..)
theorem State.writePwmDuty_same {q m} (h0' : Same q m s0') (a1') (a2') : Same q m (State.writePwmDuty s0' a1' a2') := by
  unfold State.writePwmDuty; exact (.ite (State.pwmIgnore_same h0' ..) (.ite (State.refuse_same h0' ..) (State.wr_same h0' ..)))
theorem State.writePwmCfg_same {q m} (h0' : Same q m s0') (a1') (a2') : Same q m (State.writePwmCfg s0' a1' a2') := by
  unfold State.writePwmCfg; exact (State.wrWord_same h0' ..)
theorem State.writeBdacCfg_same {q m} (h0' : Same q m s0') (a1') (a2') : Same q m (State.writeBdacCfg s0' a1' a2') := by
  unfold State.writeBdacCfg; exact (State.bdacMove_same (State.wrWord_same h0' ..) ..)
theorem State.writeBdacCode_same {q m} (h0' : Same q m s0') (a1') (a2') : Same q m (State.writeBdacCode s0' a1' a2') := by
  unfold State.writeBdacCode; exact (.ite (State.pwmIgnore_same h0' ..) (State.bdacMove_same (State.wr_same h0' ..) ..))
theorem State.writeThmCfg_same {q m} (h0' : Same q m s0') (a1') : Same q m (State.writeThmCfg s0' a1') := by
  unfold State.writeThmCfg; exact (.ite (State.refuse_same h0' ..) (State.wrWord_same h0' ..))
theorem State.bdacAll_same {q m} (h0' : Same q m s0') : Same q m (State.bdacAll s0') := by
  unfold State.bdacAll; exact (.foldl h0' (fun _ h0 _ => (State.bdacMove_same h0 ..)) _)
theorem State.bdacStep_same {q m} (h0' : Same q m s0') : Same q m (State.bdacStep s0') := by
  unfold State.bdacStep; exact (by extract_lets -merge s0; have h1 : Same q m s0 := (State.toMul_same h0' ..); (try clear_value s0); (try clear_value s0); exact (.foldl h1 (fun _ h2 _ => (by extract_lets -merge x3 x4 x5; (try clear_value x3 x4 x5); exact (State.wr_same h2 ..))) _))
theorem State.coolEval_same {q m} (h0' : Same q m s0') : Same q m (State.coolEval s0') := by
  unfold State.coolEval; exact (.ite h0' (by extract_lets -merge x0 s1; (try clear_value x0); have h2 : Same q m s1 := (State.setThm_same h0' ..); (try clear_value s1); (try clear_value s1); exact (State.wr_same h2 ..)))
theorem State.hkConvert_same {q m} (h0' : Same q m s0') (a1') (a2') (a3') (a4') : Same q m (State.hkConvert s0' a1' a2' a3' a4') := by
  unfold State.hkConvert; exact (State.setHk_same h0' ..)
theorem State.hkNext_same {q m} (h0' : Same q m s0') : Same q m (State.hkNext s0') := by
  unfold State.hkNext; exact (by extract_lets -merge s0; have h1 : Same q m s0 := (.ite (State.setHk_same (State.wr_same h0' ..) ..) h0'); (try clear_value s0); (try clear_value s0); exact (by split; (· exact (State.hkConvert_same (State.setHk_same h1 ..) ..)); (· exact (State.hkConvert_same (State.setHk_same h1 ..) ..)); (· exact (State.setHk_same h1 ..))))
theorem State.stepEval_same {q m} (h0' : Same q m s0') (a1') : Same q m (State.stepEval s0' a1') := by
  unfold State.stepEval; exact (by extract_lets -merge x0 x1 s2 s4 s7 s9; (try clear_value x0 x1); have h3 : Same q m s2 := (State.setThm_same (State.wr_same h0' ..) ..); (try clear_value s2); have h6 : Same q m s4 := (State.cond_same h3 (fun _ h5 => (State.satInc_same h5 ..)) ..); (try clear_value s4); have h8 : Same q m s7 := (State.journalInt_same h6 ..); (try clear_value s7); have h11 : Same q m s9 := (State.cond_same h8 (fun _ h10 => (State.raise_same (State.stand_same h10 ..) ..)) ..); (try clear_value s9); (try clear_value s2 s4 s7 s9); exact (.ite h0' (State.cond_same h11 (fun _ h12 => (State.unstand_same h12 ..)) ..)))
theorem State.shutdown_kept {q} (h0' : Kept q s0') (a1') : Kept q (State.shutdown s0' a1') := by
  unfold State.shutdown; exact (by extract_lets -merge s0 s2 s4 s7 x10 s11 s14 s17 s20 s22; (try clear_value x10); have h1 : Kept q s0 := (keep (keep h0' fun h => State.setThm_same h ..) fun h => State.wr_same h ..); (try clear_value s0); have h3 : Kept q s2 := (keep (keep h1 fun h => State.wr_same h ..) fun h => State.satInc_same h ..); (try clear_value s2); have h6 : Kept q s4 := (.foldl h3 (fun _ h5 _ => (keep (keep h5 fun h => State.stand_same h ..) fun h => State.detectInt_same h ..)) _); (try clear_value s4); have h9 : Kept q s7 := (.foldl h6 (fun _ h8 _ => (keep h8 fun h => State.portOff_same h ..)) _); (try clear_value s7); have h13 : Kept q s11 := (.foldl h9 (fun _ h12 _ => (keep (State.laneDisable_kept h12 ..) fun h => State.setLane_same h ..)) _); (try clear_value s11); have h16 : Kept q s14 := (.foldl h13 (fun _ h15 _ => (keep h15 fun h => State.setSynState_same h ..)) _); (try clear_value s14); have h19 : Kept q s17 := (.foldl h16 (fun _ h18 _ => (keep (keep h18 fun h => State.cvWr_same h ..) fun h => State.setCv_same h ..)) _); (try clear_value s17); have h21 : Kept q s20 := (keep h19 fun h => State.cancelCmd_same h ..); (try clear_value s20); have h24 : Kept q s22 := (State.cond_kept h21 (fun _ h23 => (keep h23 fun h => State.toRehearsal_same h ..)) ..); (try clear_value s22); (try clear_value s0 s2 s4 s7 s11 s14 s17 s20 s22); exact (keep (State.ctePowerDown_kept h24 ..) fun h => State.bdacAll_same h ..))
theorem State.thermalEval_kept {q} (h0' : Kept q s0') : Kept q (State.thermalEval s0') := by
  unfold State.thermalEval; exact (by extract_lets -merge s0 x2 x3 s4 x6 s7 s9; (try clear_value x2 x3 x6); have h1 : Kept q s0 := (by unfold s0; exact (by split; (· exact (keep (keep (keep h0' fun h => State.wrS_same h ..) fun h => State.wr_same h ..) fun h => State.stepEval_same h ..)); (· exact h0'))); (try clear_value s0); have h5 : Kept q s4 := (keep h1 fun h => State.wr_same h ..); (try clear_value s4); have h8 : Kept q s7 := (keep h5 fun h => State.setThm_same h ..); (try clear_value s7); have h11 : Kept q s9 := (.ite (State.shutdown_kept h8 ..) (.foldl h8 (fun _ h10 _ => (keep (keep h10 fun h => State.stand_same h ..) fun h => State.raise_same h ..)) _)); (try clear_value s9); (try clear_value s0 s4 s7 s9); exact (keep h11 fun h => State.coolEval_same h ..))
theorem State.hkStore_same {q m} (h0' : Same q m s0') (a1') (a2') (a3') : Same q m (State.hkStore s0' a1' a2' a3') := by
  unfold State.hkStore; exact (by extract_lets -merge x0 x1 x2 s3 s5 s7 s9 s11 s13; (try clear_value x0 x1 x2); have h4 : Same q m s3 := (State.wr_same (State.wr_same (State.wr_same h0' ..) ..) ..); (try clear_value s3); have h6 : Same q m s5 := (State.wr_same (State.wr_same (State.wr_same h4 ..) ..) ..); (try clear_value s5); have h8 : Same q m s7 := (State.setHkChan_same (State.inc_same h6 ..) ..); (try clear_value s7); have h10 : Same q m s9 := (.ite (State.setHk_same (State.int_same (State.satInc_same (State.orBits_same h8 ..) ..) ..) ..) h8); (try clear_value s9); have h12 : Same q m s11 := (State.setHkChan_same h10 ..); (try clear_value s11); have h14 : Same q m s13 := (State.setThm_same h12 ..); (try clear_value s13); (try clear_value s3 s5 s7 s9 s11 s13); exact (.ite h10 (.ite (.ite (State.wr_same h14 ..) h14) h12)))
theorem State.scanEnd_same {q m} (h0' : Same q m s0') : Same q m (State.scanEnd s0') := by
  unfold State.scanEnd; exact (State.int_same (State.inc_same (State.wr_same (State.setHk_same h0' ..) ..) ..) ..)
theorem State.hkConvEnd_kept {q} (h0' : Kept q s0') (a1') (a2') : Kept q (State.hkConvEnd s0' a1' a2') := by
  unfold State.hkConvEnd; exact (by split; (· exact h0'); (· exact (by extract_lets -merge s0 s2 s4 s7 s10; have h1 : Kept q s0 := (keep (keep h0' fun h => State.reach_same h ..) fun h => State.setHk_same h ..); (try clear_value s0); have h3 : Kept q s2 := (keep h1 fun h => State.hkStore_same h ..); (try clear_value s2); have h6 : Kept q s4 := (State.cond_kept h3 (fun _ h5 => (State.thermalEval_kept h5 ..)) ..); (try clear_value s4); have h9 : Kept q s7 := (State.cond_kept h6 (fun _ h8 => (keep (keep h8 fun h => State.wr_same h ..) fun h => State.setHk_same h ..)) ..); (try clear_value s7); have h12 : Kept q s10 := (State.cond_kept h9 (fun _ h11 => (keep h11 fun h => State.scanEnd_same h ..)) ..); (try clear_value s10); (try clear_value s0 s2 s4 s7 s10); exact (keep h12 fun h => State.hkNext_same h ..))))
theorem State.hkFault_same {q m} (h0' : Same q m s0') (a1') (a2') : Same q m (State.hkFault s0' a1' a2') := by
  unfold State.hkFault; exact (State.raise_same (State.wr_same h0' ..) ..)
theorem State.hkPwm_same {q m} (h0' : Same q m s0') : Same q m (State.hkPwm s0') := by
  unfold State.hkPwm; exact (by extract_lets -merge x0 x1 x2; (try clear_value x0 x1 x2); exact (.ite (State.hkTrigger_same h0' ..) h0'))
theorem State.hkTimer_same {q m} (h0' : Same q m s0') : Same q m (State.hkTimer s0') := by
  unfold State.hkTimer; exact (.ite (State.hkTrigger_same (State.toMul_same h0' ..) ..) h0')
theorem State.pwmEdge_same {q m} (h0' : Same q m s0') (a1') : Same q m (State.pwmEdge s0' a1') := by
  unfold State.pwmEdge; exact (by extract_lets -merge x0 x1; (try clear_value x0 x1); exact (.ite h0' (State.setPwm_same (State.reach_same h0' ..) ..)))
theorem State.pwmFault_same {q m} (h0' : Same q m s0') (a1') (a2') : Same q m (State.pwmFault s0' a1' a2') := by
  unfold State.pwmFault; exact (.ite (State.raise_same (State.setPwm_same h0' ..) ..) (State.raiseInt_same (State.stand_same (State.wr_same h0' ..) ..) ..))
theorem State.pwmStart_same {q m} (h0' : Same q m s0') (a1') : Same q m (State.pwmStart s0' a1') := by
  unfold State.pwmStart; exact (by extract_lets -merge x0 s1 x3 s4 x6 x7 x8 x9 x10; (try clear_value x0 x3 x6 x7 x8 x9 x10); have h2 : Same q m s1 := (State.reach_same h0' ..); (try clear_value s1); have h5 : Same q m s4 := (by unfold s4; exact (by split; (· exact (State.wr_same h2 ..)); (· exact h2))); (try clear_value s4); (try clear_value s1 s4); exact (State.setPwm_same h5 ..))
theorem State.scanStart_same {q m} (h0' : Same q m s0') : Same q m (State.scanStart s0') := by
  unfold State.scanStart; exact (by split; (· exact h0'); (· exact (.ite h0' (by extract_lets -merge x0 s1 s3 x6 s7; (try clear_value x0 x6); have h2 : Same q m s1 := (State.reach_same h0' ..); (try clear_value s1); have h5 : Same q m s3 := (State.cond_same h2 (fun _ h4 => (State.int_same (State.satInc_same (State.wr_same h4 ..) ..) ..)) ..); (try clear_value s3); have h8 : Same q m s7 := (State.setHk_same (State.wr_same (State.wr_same h5 ..) ..) ..); (try clear_value s7); (try clear_value s1 s3 s7); exact (.ite (State.scanEnd_same h8 ..) (State.hkNext_same h8 ..))))))
theorem State.slowRequest_same {q m} (h0' : Same q m s0') : Same q m (State.slowRequest s0') := by
  unfold State.slowRequest; exact (by extract_lets -merge x0 s1; (try clear_value x0); have h2 : Same q m s1 := (State.setHk_same (.ite (State.mark_same h0' ..) (State.toMul_same h0' ..)) ..); (try clear_value s1); (try clear_value s1); exact (.ite h2 (State.hkNext_same h2 ..)))
theorem State.thermalRestart_kept {q} (h0' : Kept q s0') : Kept q (State.thermalRestart s0') := by
  unfold State.thermalRestart; exact (by split; (· exact h0'); (· exact (.ite h0' (by extract_lets -merge s0 s2 s5 s8; have h1 : Kept q s0 := (keep (keep h0' fun h => State.setThm_same h ..) fun h => State.wr_same h ..); (try clear_value s0); have h4 : Kept q s2 := (.foldl h1 (fun _ h3 _ => (.ite h3 (keep (keep (keep h3 fun h => State.setSyn_same h ..) fun h => State.setSynErr_same h ..) fun h => State.synStart_same h ..))) _); (try clear_value s2); have h7 : Kept q s5 := (keep (.foldl h4 (fun _ h6 _ => (keep h6 fun h => State.estReset_same h ..)) _) fun h => State.portsEval_same h ..); (try clear_value s5); have h9 : Kept q s8 := (keep (State.cteRestart_kept h7 ..) fun h => State.bdacAll_same h ..); (try clear_value s8); (try clear_value s0 s2 s5 s8); exact (State.cond_kept h9 (fun _ h10 => (keep h10 fun h => State.wr_same h ..)) ..)))))

end Sys2Proof.Machine
end

