-- ==== Sys2Proof/Laws/KeepIc.lean ====
section
/-! SUPPORT. What the operations of Machine/Ic.lean keep: the queue, the memory or its canonical form, a legal time of
day. -/
namespace Sys2Proof.Machine
open Sys2Proof
set_option Elab.async false

theorem State.setSrc_same {q m} (h0' : Same q m s0') (a1') (a2') : Same q m (State.setSrc s0' a1' a2') := by
  unfold State.setSrc; exact (State.setHif_same h0' ..)
theorem State.icCheck_same {q m} (h0' : Same q m s0') (a1') : Same q m (State.icCheck s0' a1') := by
  unfold State.icCheck; exact (by extract_lets -merge x0; (try clear_value x0); exact (.ite h0' (State.raise_same (State.stand_same (State.journal_same h0' ..) ..) ..)))
theorem State.toHost_same {q m} (h0' : Same q m s0') (a1') : Same q m (State.toHost s0' a1') := by
  unfold State.toHost; exact (State.setHif_same h0' ..)
theorem State.msix_same {q m} (h0' : Same q m s0') (a1') : Same q m (State.msix s0' a1') := by
  unfold State.msix; exact (.ite h0' (.ite (State.setHif_same h0' ..) (State.toHost_same h0' ..)))
theorem State.lineEval_same {q m} (h0' : Same q m s0') (a1') : Same q m (State.lineEval s0' a1') := by
  unfold State.lineEval; exact (.foldl h0' (fun _ h0 _ => (by extract_lets -merge x1 x2 x3 s4; (try clear_value x1 x2 x3); have h5 : Same q m s4 := (State.setHif_same h0 ..); (try clear_value s4); (try clear_value s4); exact (.ite (State.cond_same h5 (fun _ h6 => (State.msix_same h6 ..)) ..) (State.setHif_same h5 ..)))) _)
theorem State.icClaim_same {q m} (h0' : Same q m s0') (a1') (a2') : Same q m (State.icClaim s0' a1' a2').1 := by
  unfold State.icClaim; exact (by extract_lets -merge x0 s1 s3; (try clear_value x0); have h2 : Same q m s1 := (State.setSrc_same h0' ..); (try clear_value s1); have h4 : Same q m s3 := (State.setHif_same h2 ..); (try clear_value s3); (try clear_value s1 s3); exact (.ite1 (.pr1 (State.satInc_same h0' ..)) (.pr1 (State.lineEval_same (State.icCheck_same h4 ..) ..))))
theorem State.writeVecCtl_kept {q} (h0' : Kept q s0') (a1') (a2') : Kept q (State.writeVecCtl s0' a1' a2') := by
  unfold State.writeVecCtl; exact (by extract_lets -merge x0 s1 s3; (try clear_value x0); have h2 : Kept q s1 := (State.stIn_kept h0' ..); (try clear_value s1); have h4 : Kept q s3 := (keep h2 fun h => State.setHif_same h ..); (try clear_value s3); (try clear_value s1 s3); exact (.ite (State.cond_kept h4 (fun _ h5 => (keep h5 fun h => State.msix_same h ..)) ..) h2))
theorem State.writeCntPtr_same {q m} (h0' : Same q m s0') (a1') : Same q m (State.writeCntPtr s0' a1') := by
  unfold State.writeCntPtr; exact (by extract_lets -merge x0 x1 s2; (try clear_value x0 x1); have h3 : Same q m s2 := (State.wr_same (State.wr_same (State.wr_same h0' ..) ..) ..); (try clear_value s2); (try clear_value s2); exact (State.wr_same (State.wr_same (State.wr_same h3 ..) ..) ..))
theorem State.writeTgtCfg_same {q m} (h0' : Same q m s0') (a1') (a2') : Same q m (State.writeTgtCfg s0' a1' a2') := by
  unfold State.writeTgtCfg; exact (by extract_lets -merge s0 s2; have h1 : Same q m s0 := (State.wrWord_same h0' ..); (try clear_value s0); have h4 : Same q m s2 := (State.cond_same h1 (fun _ h3 => (State.clrBits_same h3 ..)) ..); (try clear_value s2); (try clear_value s0 s2); exact (State.lineEval_same h4 ..))
theorem State.wakeEval_same {q m} (h0' : Same q m s0') (a1') : Same q m (State.wakeEval s0' a1') := by
  unfold State.wakeEval; exact (by extract_lets -merge x0; (try clear_value x0); exact (by split; (· exact (.ite (by extract_lets -merge x1 s2; (try clear_value x1); have h3 : Same q m s2 := (State.orBits_same h0' ..); (try clear_value s2); (try clear_value s2); exact (State.cond_same h3 (fun _ h4 => (State.setHif_same (State.toHost_same h4 ..) ..)) ..)) h0')); (· exact h0')))
theorem State.gateway_same {q m} (h0' : Same q m s0') (a1') : Same q m (State.gateway s0' a1') := by
  unfold State.gateway; exact (.ite h0' (.ite (State.wakeEval_same (State.setSrc_same h0' ..) ..) h0'))
theorem State.badComp_same {q m} (h0' : Same q m s0') (a1') (a2') (a3') : Same q m (State.badComp s0' a1' a2' a3') := by
  unfold State.badComp; exact (State.setHif_same (State.int_same (State.satInc_same h0' ..) ..) ..)
theorem State.compNow_same {q m} (h0' : Same q m s0') (a1') (a2') (a3') : Same q m (State.compNow s0' a1' a2' a3') := by
  unfold State.compNow; exact (by extract_lets -merge x0 s1; (try clear_value x0); have h2 : Same q m s1 := (State.setSrc_same h0' ..); (try clear_value s1); (try clear_value s1); exact (.ite (State.lineEval_same (State.gateway_same (State.icCheck_same h2 ..) ..) ..) (State.badComp_same h0' ..)))
theorem State.icComplete_same {q m} (h0' : Same q m s0') (a1') (a2') (a3') : Same q m (State.icComplete s0' a1' a2' a3') := by
  unfold State.icComplete; exact (by extract_lets -merge x0; (try clear_value x0); exact (.ite (State.setHif_same h0' ..) (State.compNow_same h0' ..)))
theorem State.writeSrcCfg_same {q m} (h0' : Same q m s0') (a1') (a2') : Same q m (State.writeSrcCfg s0' a1' a2') := by
  unfold State.writeSrcCfg; exact (.ite h0' (by extract_lets -merge x0 s1 s3; (try clear_value x0); have h2 : Same q m s1 := (State.wrWord_same h0' ..); (try clear_value s1); have h5 : Same q m s3 := (State.cond_same h2 (fun _ h4 => (State.wakeEval_same h4 ..)) ..); (try clear_value s3); (try clear_value s1 s3); exact (State.lineEval_same (State.gateway_same h5 ..) ..)))
theorem State.writeWake_same {q m} (h0' : Same q m s0') (a1') : Same q m (State.writeWake s0' a1') := by
  unfold State.writeWake; exact (State.clrBits_same h0' ..)
theorem State.icParity_same {q m} (h0' : Same q m s0') (a1') : Same q m (State.icParity s0' a1') := by
  unfold State.icParity; exact (by extract_lets -merge s0 s2; have h1 : Same q m s0 := (State.setSrc_same h0' ..); (try clear_value s0); have h3 : Same q m s2 := (State.raise_same (State.journal_same h1 ..) ..); (try clear_value s2); (try clear_value s0 s2); exact (State.lineEval_same (State.gateway_same h3 ..) ..))
theorem State.msixEnable_same {q m} (h0' : Same q m s0') : Same q m (State.msixEnable s0') := by
  unfold State.msixEnable; exact (by extract_lets -merge s0; have h1 : Same q m s0 := (State.setHif_same h0' ..); (try clear_value s0); (try clear_value s0); exact (.foldl h1 (fun _ h2 _ => (State.msix_same h2 ..)) _))
theorem State.sourceAssert_same {q m} (h0' : Same q m s0') (a1') : Same q m (State.sourceAssert s0' a1') := by
  unfold State.sourceAssert; exact (State.lineEval_same (State.gateway_same h0' ..) ..)

end Sys2Proof.Machine
end

