-- ==== Sys2Proof/Laws/KeepRing.lean ====
section
/-! SUPPORT. What the operations of Machine/Ring.lean keep: the queue, the memory or its canonical form, a legal time of
day. -/
namespace Sys2Proof.Machine
open Sys2Proof
set_option Elab.async false

theorem State.setDmaQ_same {q m} (h0' : Same q m s0') (a1') (a2') : Same q m (State.setDmaQ s0' a1' a2') := by
  unfold State.setDmaQ; exact (State.setHif_same h0' ..)
theorem State.setRun_same {q m} (h0' : Same q m s0') (a1') (a2') : Same q m (State.setRun s0' a1' a2') := by
  unfold State.setRun; exact (State.setDmaQ_same h0' ..)
theorem State.portDirDown_same {q m} (h0' : Same q m s0') (a1') : Same q m (State.portDirDown s0' a1') := by
  unfold State.portDirDown; exact (by extract_lets -merge x0 s1 s3; (try clear_value x0); have h2 : Same q m s1 := (State.setRing_same h0' ..); (try clear_value s1); have h5 : Same q m s3 := (.foldl h2 (fun _ h4 _ => (State.satInc_same h4 ..)) _); (try clear_value s3); (try clear_value s1 s3); exact (State.wr_same (State.wr_same h5 ..) ..))
theorem State.retrain_same {q m} (h0' : Same q m s0') (a1') : Same q m (State.retrain s0' a1') := by
  unfold State.retrain; exact (State.portDirDown_same (State.wr_same (State.wr_same h0' ..) ..) ..)
theorem State.routeWhole_same {q m} (h0' : Same q m s0') : Same q m (State.routeWhole s0') := by
  unfold State.routeWhole; exact (by extract_lets -merge s0; have h1 : Same q m s0 := (State.wr_same (State.wr_same (State.wr_same h0' ..) ..) ..); (try clear_value s0); (try clear_value s0); exact (State.int_same (State.unstand_same (State.setRing_same h1 ..) ..) ..))
theorem State.tryRoute_same {q m} (h0' : Same q m s0') : Same q m (State.tryRoute s0') := by
  unfold State.tryRoute; exact (.ite (State.routeWhole_same (State.emit_same h0' ..) ..) h0')
theorem State.ringRestore_same {q m} (h0' : Same q m s0') (a1') : Same q m (State.ringRestore s0' a1') := by
  unfold State.ringRestore; exact (.ite (State.tryRoute_same (State.setRing_same h0' ..) ..) h0')
theorem State.ringResetGo_same {q m} (h0' : Same q m s0') (a1') (a2') : Same q m (State.ringResetGo s0' a1' a2') := by
  unfold State.ringResetGo; exact (.ite h0' (.ite (State.cond_same h0' (fun _ h0 => (State.emit_same h0 ..)) ..) (.ite (State.refuse_same h0' ..) (State.sendOnce_same h0' ..))))
theorem State.writeRingCtl_same {q m} (h0' : Same q m s0') (a1') : Same q m (State.writeRingCtl s0' a1') := by
  unfold State.writeRingCtl; exact (by extract_lets -merge s0 s2 s5 s8; have h1 : Same q m s0 := (State.wr_same (State.wr_same h0' ..) ..); (try clear_value s0); have h4 : Same q m s2 := (State.cond_same h1 (fun _ h3 => (State.retrain_same h3 ..)) ..); (try clear_value s2); have h7 : Same q m s5 := (State.cond_same h4 (fun _ h6 => (State.retrain_same h6 ..)) ..); (try clear_value s5); have h10 : Same q m s8 := (State.cond_same h7 (fun _ h9 => (State.ringRestore_same h9 ..)) ..); (try clear_value s8); (try clear_value s0 s2 s5 s8); exact (State.cond_same h10 (fun _ h11 => (State.ringResetGo_same h11 ..)) ..))
theorem State.remoteStatus_same {q m} (h0' : Same q m s0') (a1') (a2') (a3') (a4') : Same q m (State.remoteStatus s0' a1' a2' a3' a4') := by
  unfold State.remoteStatus; exact (by extract_lets -merge s0 s2; have h1 : Same q m s0 := (State.setRing_same h0' ..); (try clear_value s0); have h5 : Same q m s2 := (.foldl h1 (fun _ h3 _ => (State.cond_same h3 (fun _ h4 => (State.wr_same h4 ..)) ..)) _); (try clear_value s2); (try clear_value s0 s2); exact (.ite (State.putBit_same h5 ..) (State.putBit_same h5 ..)))
theorem State.releaseComps_same {q m} (h0' : Same q m s0') : Same q m (State.releaseComps s0') := by
  unfold State.releaseComps; exact (by extract_lets -merge x0 x1 s2; (try clear_value x0 x1); have h3 : Same q m s2 := (State.setHif_same h0' ..); (try clear_value s2); (try clear_value s2); exact (.foldl h3 (fun _ h4 _ => (State.compNow_same h4 ..)) _))
theorem State.ackFrame_same {q m} (h0' : Same q m s0') (a1') (a2') (a3') (a4') (a5') (a6') (a7') : Same q m (State.ackFrame s0' a1' a2' a3' a4' a5' a6' a7') := by
  unfold State.ackFrame; exact (by extract_lets -merge s0 x2 s3 s6 s9; (try clear_value x2); have h1 : Same q m s0 := (State.took_same h0' ..); (try clear_value s0); have h5 : Same q m s3 := (State.cond_same h1 (fun _ h4 => (State.setDeliv_same h4 ..)) ..); (try clear_value s3); have h8 : Same q m s6 := (State.cond_same h5 (fun _ h7 => (State.remoteStatus_same h7 ..)) ..); (try clear_value s6); have h12 : Same q m s9 := (by unfold s9; exact (.foldl h8 (fun _ h10 _ => (by split; (· exact (State.cond_same h10 (fun _ h11 => (State.setRun_same h11 ..)) ..)); (· exact h10))) _)); (try clear_value s9); (try clear_value s0 s3 s6 s9); exact (State.tryRoute_same (State.releaseComps_same h12 ..) ..))
theorem State.arcDelay_same {q m} (h0' : Same q m s0') : Same q m (State.arcDelay s0') := by
  unfold State.arcDelay; exact (by extract_lets -merge s0; have h1 : Same q m s0 := (State.toMul_same h0' ..); (try clear_value s0); (try clear_value s0); exact (.foldl h1 (fun _ h2 _ => (State.emit_same h2 ..)) _))
theorem State.replay_same {q m} (h0' : Same q m s0') (a1') (a2') : Same q m (State.replay s0' a1' a2') := by
  unfold State.replay; exact (by extract_lets -merge x0 s1; (try clear_value x0); have h2 : Same q m s1 := (State.satAdd_same (State.setDeliv_same h0' ..) ..); (try clear_value s1); (try clear_value s1); exact (.foldl h2 (fun _ h3 _ => (State.emit_same h3 ..)) _))
theorem State.dmaReroute_same {q m} (h0' : Same q m s0') : Same q m (State.dmaReroute s0') := by
  unfold State.dmaReroute; exact (.foldl h0' (fun _ h0 _ => (by split; (· exact (State.cond_same h0 (fun _ h1 => (State.setRun_same h1 ..)) ..)); (· exact h0))) _)
theorem State.routeLine_same {q m} (h0' : Same q m s0') (a1') : Same q m (State.routeLine s0' a1') := by
  unfold State.routeLine; exact (.ite h0' (by extract_lets -merge s0 x3 s4 s6 s8; (try clear_value x3); have h2 : Same q m s0 := (State.cond_same h0' (fun _ h1 => (State.ringTimeLost_same h1 ..)) ..); (try clear_value s0); have h5 : Same q m s4 := (State.setRing_same h2 ..); (try clear_value s4); have h7 : Same q m s6 := (State.wr_same (State.wr_same (State.wr_same h5 ..) ..) ..); (try clear_value s6); have h9 : Same q m s8 := (State.dmaReroute_same (State.int_same (State.satInc_same h7 ..) ..) ..); (try clear_value s8); (try clear_value s0 s4 s6 s8); exact (.ite (State.wr_same (State.streamsReroute_same h5 ..) ..) (State.streamsReroute_same (.foldl h9 (fun _ h10 _ => (State.cond_same h10 (fun _ h11 => (State.replay_same h11 ..)) ..)) _) ..))))
theorem State.arcDown_same {q m} (h0' : Same q m s0') (a1') : Same q m (State.arcDown s0' a1') := by
  unfold State.arcDown; exact (by extract_lets -merge s0 s3 x5; (try clear_value x5); have h2 : Same q m s0 := (State.cond_same h0' (fun _ h1 => (State.portDirDown_same (State.wr_same h1 ..) ..)) ..); (try clear_value s0); have h4 : Same q m s3 := (State.raiseInt_same (State.stand_same h2 ..) ..); (try clear_value s3); (try clear_value s0 s3); exact (.ite h4 (State.routeLine_same (State.emit_same h4 ..) ..)))
theorem State.breakNotice_same {q m} (h0' : Same q m s0') (a1') (a2') : Same q m (State.breakNotice s0' a1' a2') := by
  unfold State.breakNotice; exact (by extract_lets -merge s0; have h1 : Same q m s0 := (State.took_same h0' ..); (try clear_value s0); (try clear_value s0); exact (.ite h1 (State.routeLine_same (State.cond_same h1 (fun _ h2 => (State.emit_same h2 ..)) ..) ..)))
theorem State.censusMarker_same {q m} (h0' : Same q m s0') (a1') (a2') (a3') (a4') (a5') (a6') : Same q m (State.censusMarker s0' a1' a2' a3' a4' a5' a6') := by
  unfold State.censusMarker; exact (by extract_lets -merge s0 x2 x3 s4 s6 s8; (try clear_value x2 x3); have h1 : Same q m s0 := (State.setVc_same h0' ..); (try clear_value s0); have h5 : Same q m s4 := (State.satInc_same h1 ..); (try clear_value s4); have h7 : Same q m s6 := (State.setRing_same (State.satInc_same h5 ..) ..); (try clear_value s6); have h9 : Same q m s8 := (State.journal_same h7 ..); (try clear_value s8); (try clear_value s0 s4 s6 s8); exact (.ite h5 (State.raiseInt_same (State.stand_same h9 ..) ..)))
theorem State.censusSend_same {q m} (h0' : Same q m s0') : Same q m (State.censusSend s0') := by
  unfold State.censusSend; exact (by extract_lets -merge s0; have h1 : Same q m s0 := (State.toMul_same h0' ..); (try clear_value s0); (try clear_value s0); exact (.foldl h1 (fun _ h2 _ => (by extract_lets -merge x3; (try clear_value x3); exact (State.setRing_same h2 ..))) _))
theorem State.drainQueue_same {q m} (h0' : Same q m s0') (a1') (a2') : Same q m (State.drainQueue s0' a1' a2') := by
  unfold State.drainQueue; exact (by extract_lets -merge x0 x1; (try clear_value x0 x1); exact (State.setVc_same (State.setRing_same h0' ..) ..))
theorem State.creditReturn_same {q m} (h0' : Same q m s0') (a1') (a2') (a3') : Same q m (State.creditReturn s0' a1' a2' a3') := by
  unfold State.creditReturn; exact (State.drainQueue_same (State.setVc_same h0' ..) ..)
theorem State.delayAnswer_same {q m} (h0' : Same q m s0') (a1') (a2') (a3') (a4') (a5') : Same q m (State.delayAnswer s0' a1' a2' a3' a4' a5') := by
  unfold State.delayAnswer; exact (by extract_lets -merge s0 x2 s3; (try clear_value x2); have h1 : Same q m s0 := (State.took_same h0' ..); (try clear_value s0); have h4 : Same q m s3 := (State.setTime_same h1 ..); (try clear_value s3); (try clear_value s0 s3); exact (.ite h4 (State.wr_same h4 ..)))
theorem State.delayRequest_same {q m} (h0' : Same q m s0') (a1') (a2') : Same q m (State.delayRequest s0' a1' a2') := by
  unfold State.delayRequest; exact (by extract_lets -merge s0; have h1 : Same q m s0 := (State.took_same h0' ..); (try clear_value s0); (try clear_value s0); exact (State.cond_same h1 (fun _ h2 => (State.emit_same h2 ..)) ..))
theorem State.readDone_same {q m} (h0' : Same q m s0') (a1') (a2') : Same q m (State.readDone s0' a1' a2') := by
  unfold State.readDone; exact (by split; (· exact (State.toHost_same h0' ..)); (· exact (by extract_lets -merge x0; (try clear_value x0); exact (State.setRun_same (State.toHost_same h0' ..) ..))))
theorem State.tunnelRead_same {q m} (h0' : Same q m s0') (a1') (a2') (a3') : Same q m (State.tunnelRead s0' a1' a2' a3') := by
  unfold State.tunnelRead; exact (by extract_lets -merge x0 s1; (try clear_value x0); have h2 : Same q m s1 := (State.setHif_same h0' ..); (try clear_value s1); (try clear_value s1); exact (.ite (State.readDone_same h0' ..) (.ite (State.sendRead_same h2 ..) (State.setDeliv_same h2 ..))))
theorem State.tunnelWrite_same {q m} (h0' : Same q m s0') (a1') (a2') : Same q m (State.tunnelWrite s0' a1' a2') := by
  unfold State.tunnelWrite; exact (by extract_lets -merge x0; (try clear_value x0); exact (.ite (State.satInc_same h0' ..) (.ite (State.setDeliv_same h0' ..) (State.sendRel_same h0' ..))))
theorem State.devAbsent_same {q m} (h0' : Same q m s0') (a1') : Same q m (State.devAbsent s0' a1') := by
  unfold State.devAbsent; exact (by extract_lets -merge x0 x1 x2 s3 s5 s8 s10; (try clear_value x0 x1 x2); have h4 : Same q m s3 := (State.setDeliv_same (State.setDeliv_same h0' ..) ..); (try clear_value s3); have h7 : Same q m s5 := (State.cond_same (State.satAdd_same h4 ..) (fun _ h6 => (State.journal_same h6 ..)) ..); (try clear_value s5); have h9 : Same q m s8 := (State.setRing_same (State.remoteStatus_same h7 ..) ..); (try clear_value s8); have h13 : Same q m s10 := (by unfold s10; exact (.foldl h9 (fun _ h11 _ => (by split; (· exact (State.cond_same h11 (fun _ h12 => (State.setRun_same h12 ..)) ..)); (· exact h11))) _)); (try clear_value s10); (try clear_value s3 s5 s8 s10); exact (State.releaseComps_same h13 ..))
theorem State.idConflict_same {q m} (h0' : Same q m s0') : Same q m (State.idConflict s0') := by
  unfold State.idConflict; exact (.ite h0' (by extract_lets -merge s0 s2; have h1 : Same q m s0 := (State.stand_same (State.setRing_same h0' ..) ..); (try clear_value s0); have h3 : Same q m s2 := (State.cancelCmd_same (State.raiseInt_same h1 ..) ..); (try clear_value s2); (try clear_value s0 s2); exact (State.cond_same h3 (fun _ h4 => (State.toRehearsal_same h4 ..)) ..)))
theorem State.mapSet_same {q m} (h0' : Same q m s0') (a1') (a2') : Same q m (State.mapSet s0' a1' a2') := by
  unfold State.mapSet; exact (by split; (· exact (by extract_lets -merge s0; have h1 : Same q m s0 := (State.wr_same (State.wr_same (State.wr_same h0' ..) ..) ..); (try clear_value s0); (try clear_value s0); exact (State.wr_same (State.wr_same h1 ..) ..))); (· exact (by extract_lets -merge s2; have h3 : Same q m s2 := (State.wr_same (State.wr_same (State.wr_same h0' ..) ..) ..); (try clear_value s2); (try clear_value s2); exact (State.wr_same (State.wr_same h3 ..) ..))))
theorem State.enumDone_same {q m} (h0' : Same q m s0') (a1') (a2') : Same q m (State.enumDone s0' a1' a2') := by
  unfold State.enumDone; exact (.ite h0' (by extract_lets -merge x0 x1 x2 x3 s4 s7 x9 s10 s12 x15 x16 s17 x20 s21 s23 s25 x28 x29 s30 g33 s37 s41; (try clear_value x0 x1 x2 x3 x9 x15 x16 x20 x28 x29); have h6 : Same q m s4 := (.foldl h0' (fun _ h5 _ => (State.mapSet_same h5 ..)) _); (try clear_value s4); have h8 : Same q m s7 := (State.wr_same (State.wr_same (State.wr_same h6 ..) ..) ..); (try clear_value s7); have h11 : Same q m s10 := (State.setRing_same (State.wr_same (State.wr_same h8 ..) ..) ..); (try clear_value s10); have h14 : Same q m s12 := (State.cond_same h11 (fun _ h13 => (State.unstand_same h13 ..)) ..); (try clear_value s12); have h19 : Same q m s17 := (.foldl h14 (fun _ h18 _ => (State.raise_same (State.devAbsent_same h18 ..) ..)) _); (try clear_value s17); have h22 : Same q m s21 := (State.setRing_same h19 ..); (try clear_value s21); have h24 : Same q m s23 := (.ite (State.unstand_same h22 ..) (State.stand_same h22 ..)); (try clear_value s23); have h27 : Same q m s25 := (State.cond_same h24 (fun _ h26 => (State.int_same h26 ..)) ..); (try clear_value s25); have h32 : Same q m s30 := (State.cond_same h27 (fun _ h31 => (State.idConflict_same h31 ..)) ..); (try clear_value s30); have h36 : ∀ y0, Same q m y0 → ∀ y1, Same q m (g33 y0 y1) := (fun _ h34 _ => (State.cond_same h34 (fun _ h35 => (State.emit_same h35 ..)) ..)); have h40 : Same q m s37 := (State.cond_same h32 (fun _ h38 => (State.cond_same (h36 _ h38 _) (fun _ h39 => (h36 _ h39 _)) ..)) ..); (try clear_value s37); have h43 : Same q m s41 := (State.cond_same h40 (fun _ h42 => (State.int_same h42 ..)) ..); (try clear_value s41); (try clear_value s4 s7 s10 s12 s17 s21 s23 s25 s30 s37 s41); exact (State.int_same h43 ..)))
theorem State.enumFrame_same {q m} (h0' : Same q m s0') (a1') (a2') (a3') (a4') : Same q m (State.enumFrame s0' a1' a2' a3' a4') := by
  unfold State.enumFrame; exact (by extract_lets -merge s0 x2 x3 s4 s7 s9 s12; (try clear_value x2 x3); have h1 : Same q m s0 := (State.took_same h0' ..); (try clear_value s0); have h6 : Same q m s4 := (State.cond_same h1 (fun _ h5 => (State.idConflict_same h5 ..)) ..); (try clear_value s4); have h8 : Same q m s7 := (State.setRing_same (State.wr_same (State.wr_same h6 ..) ..) ..); (try clear_value s7); have h11 : Same q m s9 := (State.cond_same h8 (fun _ h10 => (State.wr_same h10 ..)) ..); (try clear_value s9); have h13 : Same q m s12 := (State.unstand_same h11 ..); (try clear_value s12); (try clear_value s0 s4 s7 s9 s12); exact (.ite h6 (State.cond_same h13 (fun _ h14 => (State.emit_same h14 ..)) ..)))
theorem State.enumStart_same {q m} (h0' : Same q m s0') : Same q m (State.enumStart s0') := by
  unfold State.enumStart; exact (.ite h0' (by extract_lets -merge s0; have h2 : Same q m s0 := (State.cond_same h0' (fun _ h1 => (State.emit_same h1 ..)) ..); (try clear_value s0); (try clear_value s0); exact (State.cond_same h2 (fun _ h3 => (State.emit_same h3 ..)) ..)))
theorem State.frameCrc_same {q m} (h0' : Same q m s0') (a1') (a2') : Same q m (State.frameCrc s0' a1' a2') := by
  unfold State.frameCrc; exact (State.raise_same (State.satInc_same (State.took_same h0' ..) ..) ..)
theorem State.headerCrc_same {q m} (h0' : Same q m s0') (a1') : Same q m (State.headerCrc s0' a1') := by
  unfold State.headerCrc; exact (State.portDirDown_same (State.wr_same (State.satInc_same h0' ..) ..) ..)
theorem State.lockLoss_same {q m} (h0' : Same q m s0') (a1') (a2') : Same q m (State.lockLoss s0' a1' a2') := by
  unfold State.lockLoss; exact (State.portDirDown_same (State.putBit_same h0' ..) ..)
theorem State.noVertex_same {q m} (h0' : Same q m s0') : Same q m (State.noVertex s0') := by
  unfold State.noVertex; exact (.ite h0' (State.raise_same (State.stand_same h0' ..) ..))
theorem State.readAnswer_same {q m} (h0' : Same q m s0') (a1') (a2') (a3') : Same q m (State.readAnswer s0' a1' a2' a3') := by
  unfold State.readAnswer; exact (by split; (· exact (State.readDone_same (State.setHif_same h0' ..) ..)); (· exact h0'))
theorem State.releaseReads_same {q m s} (h : Same q m s) (n d) : Same q m (State.releaseReads n s d) := by
  induction n generalizing s with
  | zero => exact h
  | succ n ih =>
    unfold State.releaseReads
    split
    · exact ih (State.sendRead_same (State.setDeliv_same h ..) ..)
    · exact h

theorem State.replayTimeout_same {q m} (h0' : Same q m s0') (a1') (a2') : Same q m (State.replayTimeout s0' a1' a2') := by
  unfold State.replayTimeout; exact (by extract_lets -merge x0; (try clear_value x0); exact (.ite h0' (State.replay_same (State.reach_same h0' ..) ..)))
theorem State.routeCommand_same {q m} (h0' : Same q m s0') (a1') : Same q m (State.routeCommand s0' a1') := by
  unfold State.routeCommand; exact (State.routeWhole_same (State.took_same h0' ..) ..)
theorem State.singleTimeout_same {q m} (h0' : Same q m s0') : Same q m (State.singleTimeout s0') := by
  unfold State.singleTimeout; exact (.ite h0' (State.wr_same (State.wr_same (State.reach_same h0' ..) ..) ..))
theorem State.split_same {q m} (h0' : Same q m s0') (a1') : Same q m (State.split s0' a1') := by
  unfold State.split; exact (.ite h0' (by extract_lets -merge s0; have h1 : Same q m s0 := (State.streamsReroute_same (State.raise_same (State.stand_same (State.wr_same h0' ..) ..) ..) ..); (try clear_value s0); (try clear_value s0); exact (State.cond_same h1 (fun _ h2 => (.foldl h2 (fun _ h3 _ => (State.devAbsent_same h3 ..)) _)) ..)))
theorem State.statusFrame_same {q m} (h0' : Same q m s0') (a1') (a2') (a3') (a4') (a5') : Same q m (State.statusFrame s0' a1' a2' a3' a4' a5') := by
  unfold State.statusFrame; exact (by extract_lets -merge s0; have h1 : Same q m s0 := (State.took_same h0' ..); (try clear_value s0); (try clear_value s0); exact (State.cond_same h1 (fun _ h2 => (State.remoteStatus_same h2 ..)) ..))
theorem State.statusSend_same {q m} (h0' : Same q m s0') : Same q m (State.statusSend s0') := by
  unfold State.statusSend; exact (.ite h0' (by extract_lets -merge s0; have h2 : Same q m s0 := (State.cond_same h0' (fun _ h1 => (State.reach_same h1 ..)) ..); (try clear_value s0); (try clear_value s0); exact (by split; (· exact (State.setRing_same (State.sendOnce_same h2 ..) ..)))))
theorem State.timeSend_same {q m} (h0' : Same q m s0') : Same q m (State.timeSend s0') := by
  unfold State.timeSend; exact (.ite h0' (State.timeOut_same (State.toMul_same h0' ..) ..))
theorem State.trained_same {q m} (h0' : Same q m s0') (a1') (a2') (a3') : Same q m (State.trained s0' a1' a2' a3') := by
  unfold State.trained; exact (by extract_lets -merge s0 s2 s4; have h1 : Same q m s0 := (.ite (State.wr_same h0' ..) (State.wr_same (State.wr_same h0' ..) ..)); (try clear_value s0); have h3 : Same q m s2 := (State.wr_same (State.wr_same h1 ..) ..); (try clear_value s2); have h6 : Same q m s4 := (.foldl h3 (fun _ h5 _ => (State.unstand_same (State.setVc_same h5 ..) ..)) _); (try clear_value s4); (try clear_value s0 s2 s4); exact (.ite (State.int_same (State.unstand_same (State.satInc_same h6 ..) ..) ..) h1))
theorem State.tunnelRelease_same {q m} (h0' : Same q m s0') (a1') : Same q m (State.tunnelRelease s0' a1') := by
  unfold State.tunnelRelease; exact (by extract_lets -merge x0; (try clear_value x0); exact (.ite h0' (by split; (· exact (by extract_lets -merge s1; have h2 : Same q m s1 := (State.sendRel_same (State.setDeliv_same h0' ..) ..); (try clear_value s1); (try clear_value s1); exact (State.releaseReads_same h2 ..))); (· exact (State.releaseReads_same h0' ..)))))
theorem State.tunnelTimeout_same {q m} (h0' : Same q m s0') : Same q m (State.tunnelTimeout s0') := by
  unfold State.tunnelTimeout; exact (by split; (· exact (by extract_lets -merge s0 s2; have h1 : Same q m s0 := (State.setHif_same (State.reach_same h0' ..) ..); (try clear_value s0); have h3 : Same q m s2 := (State.raiseInt_same (State.satInc_same h1 ..) ..); (try clear_value s2); (try clear_value s0 s2); exact (State.readDone_same h3 ..))); (· exact h0'))

end Sys2Proof.Machine
end

