-- ==== Sys2Proof/Laws/KeepDma.lean ====
section
/-! SUPPORT. What the operations of Machine/Dma.lean keep: the queue, the memory or its canonical form, a legal time of
day. -/
namespace Sys2Proof.Machine
open Sys2Proof
set_option Elab.async false

theorem State.writeQCfg_same {q m} (h0' : Same q m s0') (a1') (a2') : Same q m (State.writeQCfg s0' a1' a2') := by
  unfold State.writeQCfg; exact (by extract_lets -merge x0 x1 x2 x3 x4 s5 s7; (try clear_value x0 x1 x2 x3 x4); have h6 : Same q m s5 := (State.wrWord_same h0' ..); (try clear_value s5); have h11 : Same q m s7 := (by unfold s7; exact (State.cond_same h6 (fun _ h8 => (by extract_lets -merge s9; have h10 : Same q m s9 := (State.wr_same (State.wr_same (State.wr_same h8 ..) ..) ..); (try clear_value s9); (try clear_value s9); exact (State.setDmaQ_same (State.wr_same (State.wr_same (State.wr_same h10 ..) ..) ..) ..))) ..)); (try clear_value s7); (try clear_value s5 s7); exact (.ite (State.refuse_same h0' ..) (.ite (State.refuse_same h0' ..) (.ite (State.unstand_same (State.wr_same h11 ..) ..) (.ite (State.wr_same h11 ..) h11)))))
theorem State.writeQBase_same {q m} (h0' : Same q m s0') (a1') (a2') (a3') : Same q m (State.writeQBase s0' a1' a2' a3') := by
  unfold State.writeQBase; exact (.ite (State.refuse_same h0' ..) (State.wr_same h0' ..))
theorem State.writeCqHead_same {q m} (h0' : Same q m s0') (a1') (a2') : Same q m (State.writeCqHead s0' a1' a2') := by
  unfold State.writeCqHead; exact (by extract_lets -merge s0 x2; (try clear_value x2); have h1 : Same q m s0 := (State.wr_same h0' ..); (try clear_value s0); (try clear_value s0); exact (State.setDmaQ_same h1 ..))
theorem State.writeHifCfg_same {q m} (h0' : Same q m s0') (a1') : Same q m (State.writeHifCfg s0' a1') := by
  unfold State.writeHifCfg; exact (by extract_lets -merge x0 x1; (try clear_value x0 x1); exact (.ite (State.refuse_same h0' ..) (State.wrWord_same h0' ..)))
theorem State.signal_same {q m} (h0' : Same q m s0') (a1') : Same q m (State.signal s0' a1') := by
  unfold State.signal; exact (State.setDmaQ_same (State.wr_same h0' ..) ..)
theorem State.sleepBegin_same {q m} (h0' : Same q m s0') : Same q m (State.sleepBegin s0') := by
  unfold State.sleepBegin; exact (.ite h0' (by extract_lets -merge s0 x2 s3; (try clear_value x2); have h1 : Same q m s0 := (State.wr_same h0' ..); (try clear_value s0); have h5 : Same q m s3 := (.foldl h1 (fun _ h4 _ => (State.wr_same h4 ..)) _); (try clear_value s3); (try clear_value s0 s3); exact (.foldl h5 (fun _ h6 _ => (State.signal_same h6 ..)) _)))
theorem State.sleepEnd_same {q m} (h0' : Same q m s0') : Same q m (State.sleepEnd s0') := by
  unfold State.sleepEnd; exact (.ite h0' (by extract_lets -merge x0; (try clear_value x0); exact (.foldl (State.wr_same h0' ..) (fun _ h1 _ => (State.clrBits_same (State.wr_same h1 ..) ..)) _)))
theorem State.writeHifPm_same {q m} (h0' : Same q m s0') (a1') : Same q m (State.writeHifPm s0' a1') := by
  unfold State.writeHifPm; exact (by extract_lets -merge s0; have h1 : Same q m s0 := (State.wr_same h0' ..); (try clear_value s0); (try clear_value s0); exact (.ite (State.sleepBegin_same h1 ..) (State.sleepEnd_same h1 ..)))
theorem State.badAccess_same {q m} (h0' : Same q m s0') (a1') (a2') (a3') : Same q m (State.badAccess s0' a1' a2' a3') := by
  unfold State.badAccess; exact (by extract_lets -merge s0; have h1 : Same q m s0 := (State.wr_same (State.wr_same (State.satInc_same h0' ..) ..) ..); (try clear_value s0); (try clear_value s0); exact (State.cond_same (State.raise_same h1 ..) (fun _ h2 => (State.toHost_same h2 ..)) ..))
theorem State.bufParity_same {q m} (h0' : Same q m s0') (a1') : Same q m (State.bufParity s0' a1') := by
  unfold State.bufParity; exact (State.raise_same (State.setRun_same h0' ..) ..)
theorem State.sendAck_same {q m} (h0' : Same q m s0') (a1') (a2') : Same q m (State.sendAck s0' a1' a2') := by
  unfold State.sendAck; exact (by split; (· exact (State.sendOnce_same h0' ..)))
theorem State.rxSeq_same {q m} (h0' : Same q m s0') (a1') (a2') (a3') (a4') : Same q m (State.rxSeq s0' a1' a2' a3' a4').2 := by
  unfold State.rxSeq; exact (by extract_lets -merge s0 x2 x3; (try clear_value x2 x3); have h1 : Same q m s0 := (State.took_same h0' ..); (try clear_value s0); (try clear_value s0); exact (.ite2 (.pr2 h1) (.ite2 (.pr2 (State.setDeliv_same h1 ..)) (.ite2 (.pr2 (State.sendAck_same h1 ..)) (.ite2 (.pr2 h1) (.pr2 (State.sendOnce_same (State.setDeliv_same h1 ..) ..)))))))
theorem State.bulkArrive_same {q m} (h0' : Same q m s0') (a1') (a2') (a3') (a4') (a5') (a6') (a7') (a8') : Same q m (State.bulkArrive s0' a1' a2' a3' a4' a5' a6' a7' a8') := by
  unfold State.bulkArrive; exact (by split; rename_i x3 s2 e0; have h1 : Same q m s2 := .snd e0 (State.rxSeq_same h0' ..); exact (.ite h1 (by extract_lets -merge s4; have h5 : Same q m s4 := (State.sendAck_same h1 ..); (try clear_value s4); (try clear_value s4); exact (by split; (· exact (.ite h5 (by extract_lets -merge s6; have h8 : Same q m s6 := (State.cond_same h5 (fun _ h7 => (State.toHost_same h7 ..)) ..); (try clear_value s6); (try clear_value s6); exact (State.setRun_same h8 ..)))); (· exact h5)))))
theorem State.bulkHere_same {q m} (h0' : Same q m s0') (a1') (a2') : Same q m (State.bulkHere s0' a1' a2') := by
  unfold State.bulkHere; exact (by split; (· exact (by extract_lets -merge s0; have h2 : Same q m s0 := (State.cond_same h0' (fun _ h1 => (State.toHost_same h1 ..)) ..); (try clear_value s0); (try clear_value s0); exact (State.setRun_same h2 ..))))
theorem State.bulkThere_same {q m} (h0' : Same q m s0') (a1') (a2') (a3') : Same q m (State.bulkThere s0' a1' a2' a3') := by
  unfold State.bulkThere; exact (by split; (· exact (by extract_lets -merge x0 x1; (try clear_value x0 x1); exact (by split; (· exact (State.sendRel_same h0' ..)); (· exact (.foldl h0' (fun _ h2 _ => (State.sendRel_same h2 ..)) _))))))
theorem State.work_same {q m} (h0' : Same q m s0') (a1') : Same q m (State.work s0' a1') := by
  unfold State.work; exact (State.setStm_same h0' ..)
theorem State.bulkRequest_same {q m} (h0' : Same q m s0') (a1') (a2') (a3') (a4') (a5') : Same q m (State.bulkRequest s0' a1' a2' a3' a4' a5') := by
  unfold State.bulkRequest; exact (by split; rename_i x3 s2 e0; have h1 : Same q m s2 := .snd e0 (State.rxSeq_same h0' ..); exact (.ite h1 (by extract_lets -merge s4; have h5 : Same q m s4 := (State.sendAck_same h1 ..); (try clear_value s4); (try clear_value s4); exact (.ite (State.work_same h5 ..) (State.bulkThere_same h5 ..)))))
theorem State.writeEntry_same {q m} (h0' : Same q m s0') (a1') (a2') : Same q m (State.writeEntry s0' a1' a2') := by
  unfold State.writeEntry; exact (by extract_lets -merge x0 x1 x2 x3 s4 s6 s8 s11 s13 x16 s17 x19; (try clear_value x0 x1 x2 x3 x16 x19); have h5 : Same q m s4 := (State.toHost_same h0' ..); (try clear_value s4); have h7 : Same q m s6 := (State.inc_same h5 ..); (try clear_value s6); have h10 : Same q m s8 := (State.cond_same h7 (fun _ h9 => (State.wr_same h9 ..)) ..); (try clear_value s8); have h12 : Same q m s11 := (State.satInc_same h10 ..); (try clear_value s11); have h15 : Same q m s13 := (State.cond_same h12 (fun _ h14 => (State.wr_same (State.wr_same (State.satInc_same h14 ..) ..) ..)) ..); (try clear_value s13); have h18 : Same q m s17 := (State.setDmaQ_same h15 ..); (try clear_value s17); (try clear_value s4 s6 s8 s11 s13 s17); exact (State.cond_same h18 (fun _ h20 => (State.signal_same h20 ..)) ..))
theorem State.d0Return_same {q m} (h0' : Same q m s0') : Same q m (State.d0Return s0') := by
  unfold State.d0Return; exact (.ite h0' (by extract_lets -merge s0 s2; have h1 : Same q m s0 := (State.wr_same h0' ..); (try clear_value s0); have h4 : Same q m s2 := (by unfold s2; exact (.foldl h1 (fun _ h3 _ => (by split; (· exact (State.wr_same (State.writeEntry_same h3 ..) ..)); (· exact h3))) _)); (try clear_value s2); (try clear_value s0 s2); exact (State.sleepEnd_same h4 ..)))
theorem State.d3Enter_same {q m} (h0' : Same q m s0') (a1') : Same q m (State.d3Enter s0' a1') := by
  unfold State.d3Enter; exact (by extract_lets -merge s0 s2; have h1 : Same q m s0 := (State.setHif_same (State.wr_same h0' ..) ..); (try clear_value s0); have h4 : Same q m s2 := (.foldl h1 (fun _ h3 _ => (State.setRun_same h3 ..)) _); (try clear_value s2); (try clear_value s0 s2); exact (State.sleepBegin_same h4 ..))
theorem State.descBegin_same {q m} (h0' : Same q m s0') (a1') (a2') : Same q m (State.descBegin s0' a1' a2') := by
  unfold State.descBegin; exact (State.setDmaQ_same (State.inc_same h0' ..) ..)
theorem State.descRun_same {q m} (h0' : Same q m s0') (h1' : ∀ y0, Same q m y0 → Same q m (f1' y0)) (a1') (a2') (a3') : Same q m (State.descRun s0' a1' a2' a3' f1') := by
  unfold State.descRun; exact (.ite h0' (by split; (· exact (State.descBegin_same h0' ..)); (· exact (h1' _ (State.descBegin_same h0' ..)))))
theorem State.descRun_kept {q} (h0' : Kept q s0') (h1' : ∀ y0, Kept q y0 → Kept q (f1' y0)) (a1') (a2') (a3') : Kept q (State.descRun s0' a1' a2' a3' f1') := by
  unfold State.descRun; exact (.ite h0' (by split; (· exact (keep h0' fun h => State.descBegin_same h ..)); (· exact (h1' _ (keep h0' fun h => State.descBegin_same h ..)))))
theorem State.descBulk_same {q m} (h0' : Same q m s0') (a1') (a2') (a3') : Same q m (State.descBulk s0' a1' a2' a3') := by
  unfold State.descBulk; exact (State.descRun_same h0' (fun _ h0 => (.ite (.ite (State.work_same h0 ..) (State.bulkHere_same h0 ..)) (State.sendRel_same h0 ..))) ..)
theorem State.descComplete_same {q m} (h0' : Same q m s0') (a1') : Same q m (State.descComplete s0' a1') := by
  unfold State.descComplete; exact (by split; (· exact (.ite (State.writeEntry_same h0' ..) h0')); (· exact h0'))
theorem State.descFetch_same {q m} (h0' : Same q m s0') (a1') : Same q m (State.descFetch s0' a1') := by
  unfold State.descFetch; exact (.ite h0' (by extract_lets -merge x0 s1; (try clear_value x0); have h2 : Same q m s1 := (State.descBegin_same h0' ..); (try clear_value s1); (try clear_value s1); exact (State.raise_same (State.stand_same (State.wr_same h2 ..) ..) ..)))
theorem State.descNop_same {q m} (h0' : Same q m s0') (a1') (a2') : Same q m (State.descNop s0' a1' a2') := by
  unfold State.descNop; exact (State.descRun_same h0' (fun _ h0 => (State.setRun_same h0 ..)) ..)
theorem State.descRefused_same {q m s} (h : Same q m s) (a b) : Same q m (State.descRefused s a b) := by
  unfold State.descRefused; exact .ite (State.descRun_same h (fun _ h => h) ..) h

theorem State.linkDown_same {q m} (h0' : Same q m s0') : Same q m (State.linkDown s0') := by
  unfold State.linkDown; exact (by extract_lets -merge s0; have h1 : Same q m s0 := (State.wr_same (State.wr_same (State.wr_same h0' ..) ..) ..); (try clear_value s0); (try clear_value s0); exact (State.raiseInt_same (State.stand_same (State.satInc_same h1 ..) ..) ..))
theorem State.linkUp_same {q m} (h0' : Same q m s0') (a1') (a2') : Same q m (State.linkUp s0' a1' a2') := by
  unfold State.linkUp; exact (by extract_lets -merge s0; have h1 : Same q m s0 := (State.wr_same (State.wr_same h0' ..) ..); (try clear_value s0); (try clear_value s0); exact (State.unstand_same (State.int_same (State.wr_same h1 ..) ..) ..))
theorem State.modTimeout_same {q m} (h0' : Same q m s0') (a1') : Same q m (State.modTimeout s0' a1') := by
  unfold State.modTimeout; exact (by split; (· exact (State.signal_same (State.reach_same h0' ..) ..)); (· exact h0'))
theorem State.qDrained_same {q m} (h0' : Same q m s0') (a1') : Same q m (State.qDrained s0' a1') := by
  unfold State.qDrained; exact (.ite (State.wr_same h0' ..) h0')
theorem State.tlpError_same {q m} (h0' : Same q m s0') (a1') : Same q m (State.tlpError s0' a1') := by
  unfold State.tlpError; exact (.ite (State.satInc_same h0' ..) (State.raise_same (State.satInc_same h0' ..) ..))

end Sys2Proof.Machine
end

