-- ==== Sys2Proof/Laws/KeepMedium.lean ====
section
/-! SUPPORT. What the operations of Machine/Medium.lean keep: the queue, the memory or its canonical form, a legal time of
day. -/
namespace Sys2Proof.Machine
open Sys2Proof
set_option Elab.async false

theorem State.codewordRead_same {q m} (h0' : Same q m s0') (a1') (a2') (a3') : Same q m (State.codewordRead s0' a1' a2' a3') := by
  unfold State.codewordRead; exact (by extract_lets -merge x0 x1 s2; (try clear_value x0 x1); have h3 : Same q m s2 := (State.setStm_same h0' ..); (try clear_value s2); (try clear_value s2); exact (by split; (· exact (State.codewordUnc_same h3 ..)); (· exact (State.codewordUnc_same h3 ..)); (· exact h3); (· exact (State.satInc_same h3 ..)); (· exact (State.satInc_same h3 ..))))
theorem State.doWork_same {q m} (h0' : Same q m s0') (a1') : Same q m (State.doWork s0' a1') := by
  unfold State.doWork; exact (by split; (· exact (State.pbReadDone_same h0' ..)); (· exact (State.bulkHere_same h0' ..)); (· exact (State.bulkThere_same h0' ..)); (· exact (State.snapStored_same h0' ..)); (· exact (State.histPlace_same h0' ..)); (· exact (State.blockRefresh_same h0' ..)); (· exact (State.scrubDone_same h0' ..)))
theorem State.turn_same {q m} (h0' : Same q m s0') (a1') : Same q m (State.turn s0' a1') := by
  unfold State.turn; exact (.ite (State.work_same h0' ..) (State.doWork_same h0' ..))
theorem State.serve_same {q m} (h0' : Same q m s0') : Same q m (State.serve s0') := by
  unfold State.serve; exact (by extract_lets -merge x0; (try clear_value x0); exact (.ite h0' (.foldl (State.setStm_same h0' ..) (fun _ h1 _ => (.foldl h1 (fun _ h2 _ => (State.turn_same h2 ..)) _)) _)))
theorem State.medium_same {q m} (h0' : Same q m s0') (a1') : Same q m (State.medium s0' a1') := by
  unfold State.medium; exact (State.serve_same (State.work_same h0' ..) ..)
theorem State.readBook_same {q m} (h0' : Same q m s0') : Same q m (State.readBook s0') := by
  unfold State.readBook; exact (by split; (· exact h0'); (· exact (.ite (State.medium_same h0' ..) (State.pbReadDone_same h0' ..))))

end Sys2Proof.Machine
end

