-- ==== Sys2Proof/Laws/KeepBoot.lean ====
section
/-! SUPPORT. What the operations of Machine/Boot.lean keep: the queue, the memory or its canonical form, a legal time of
day. -/
namespace Sys2Proof.Machine
open Sys2Proof
set_option Elab.async false

theorem State.writeSecProg_same {q m} (h0' : Same q m s0') (a1') : Same q m (State.writeSecProg s0' a1') := by
  unfold State.writeSecProg; exact (by extract_lets -merge x0; (try clear_value x0); exact (.ite (State.refuse_same (State.wr_same h0' ..) ..) (State.setBoot_same (State.wr_same (State.wr_same h0' ..) ..) ..)))
theorem State.writeBootCfg_same {q m} (h0' : Same q m s0') (a1') : Same q m (State.writeBootCfg s0' a1') := by
  unfold State.writeBootCfg; exact (by extract_lets -merge x0 s1; (try clear_value x0); have h2 : Same q m s1 := (State.wr_same h0' ..); (try clear_value s1); (try clear_value s1); exact (State.cond_same h2 (fun _ h3 => (State.wr_same h3 ..)) ..))
theorem State.resetBlocks_kept {q s} (h : Kept q s) (k n) : Kept q (State.resetBlocks s k n) := by
  refine ⟨h.pending, memWfFrom_filter _ h.mem, ?_⟩
  unfold State.resetBlocks
  extract_lets f t r
  show TodOk (if f then {} else _)
  split
  · exact TodOk.zero rfl rfl
  · exact ⟨h.tod.idx, h.tod.sec⟩

theorem State.resetGo_kept {q} (h0' : Kept q s0') (a1') (a2') : Kept q (State.resetGo s0' a1' a2') := by
  unfold State.resetGo; exact (by extract_lets -merge x0 s1; (try clear_value x0); have h7 : Kept q s1 := (by unfold s1; exact (State.cond_kept h0' (fun _ h2 => (by extract_lets -merge s3; have h6 : Kept q s3 := (.foldl h2 (fun _ h4 _ => (State.cond_kept h4 (fun _ h5 => (keep h5 fun h => State.clearStart_same h ..)) ..)) _); (try clear_value s3); (try clear_value s3); exact (keep h6 fun h => State.capAbandon_same h ..))) ..)); (try clear_value s1); (try clear_value s1); exact (keep (State.resetBlocks_kept h7 ..) fun h => State.wr_same h ..))
theorem State.writeBootReset_kept {q} (h0' : Kept q s0') (a1') : Kept q (State.writeBootReset s0' a1') := by
  unfold State.writeBootReset; exact (.ite (keep h0' fun h => State.refuse_same h ..) (.ite (State.resetGo_kept h0' ..) (.ite (State.resetGo_kept h0' ..) (keep h0' fun h => State.refuse_same h ..))))
theorem State.writeSmemCfg_same {q m} (h0' : Same q m s0') (a1') : Same q m (State.writeSmemCfg s0' a1') := by
  unfold State.writeSmemCfg; exact (.ite (State.refuse_same h0' ..) (State.wrWord_same h0' ..))
theorem State.smemRefuse_same {q m} (h0' : Same q m s0') (a1') : Same q m (State.smemRefuse s0' a1') := by
  unfold State.smemRefuse; exact (by extract_lets -merge s0; have h1 : Same q m s0 := (State.satInc_same (State.wr_same h0' ..) ..); (try clear_value s0); (try clear_value s0); exact (State.int_same (State.cond_same h1 (fun _ h2 => (State.wr_same h2 ..)) ..) ..))
theorem State.writeSmemCmd_same {q m} (h0' : Same q m s0') (a1') : Same q m (State.writeSmemCmd s0' a1') := by
  unfold State.writeSmemCmd; exact (by extract_lets -merge s0 s2 s4; have h1 : Same q m s0 := (State.wrWord_same h0' ..); (try clear_value s0); have h3 : Same q m s2 := (State.wr_same (State.wr_same (State.wr_same h1 ..) ..) ..); (try clear_value s2); have h5 : Same q m s4 := (.upd h3); (try clear_value s4); (try clear_value s0 s2 s4); exact (.ite h1 (.ite (State.smemRefuse_same h1 ..) (.ite (State.smemRefuse_same h1 ..) (State.cond_same h5 (fun _ h6 => (State.journal_same h6 ..)) ..)))))
theorem State.setCopyDone_same {q m} (h0' : Same q m s0') (a1') (a2') : Same q m (State.setCopyDone s0' a1' a2') := by
  unfold State.setCopyDone; exact (by extract_lets -merge s0 s2; have h1 : Same q m s0 := (State.setBoot_same h0' ..); (try clear_value s0); have h3 : Same q m s2 := (State.wr_same h1 ..); (try clear_value s2); (try clear_value s0 s2); exact (State.cond_same h3 (fun _ h4 => (State.wr_same h4 ..)) ..))
theorem State.copyBad_same {q m} (h0' : Same q m s0') (a1') (a2') (a3') : Same q m (State.copyBad s0' a1' a2' a3') := by
  unfold State.copyBad; exact (by extract_lets -merge x0 s1 s3; (try clear_value x0); have h2 : Same q m s1 := (State.wr_same (State.wr_same (State.wr_same h0' ..) ..) ..); (try clear_value s1); have h4 : Same q m s3 := (.ite (State.raiseInt_same (State.satInc_same h2 ..) ..) (State.raise_same h2 ..)); (try clear_value s3); (try clear_value s1 s3); exact (State.journalInt_same (State.setCopyDone_same h4 ..) ..))
theorem State.backgroundCheck_same {q m} (h0' : Same q m s0') (a1') (a2') : Same q m (State.backgroundCheck s0' a1' a2') := by
  unfold State.backgroundCheck; exact (by extract_lets -merge x0 x1 s2; (try clear_value x0 x1); have h3 : Same q m s2 := (.ite (State.setCopyDone_same h0' ..) (State.copyBad_same h0' ..)); (try clear_value s2); (try clear_value s2); exact (.ite h0' (State.int_same h3 ..)))
theorem State.loadCopy_same {q m} (h0' : Same q m s0') (a1') : Same q m (State.loadCopy s0' a1') := by
  unfold State.loadCopy; exact (by extract_lets -merge x0 x1 s2 s4; (try clear_value x0 x1); have h3 : Same q m s2 := (State.wr_same (State.wr_same h0' ..) ..); (try clear_value s2); have h5 : Same q m s4 := (State.wr_same (State.wr_same h3 ..) ..); (try clear_value s4); (try clear_value s2 s4); exact (State.setBoot_same h5 ..))
theorem State.toPhase4_same {q m} (h0' : Same q m s0') : Same q m (State.toPhase4 s0') := by
  unfold State.toPhase4; exact (State.formatImage_same (State.setBoot_same (State.wr_same h0' ..) ..) ..)
theorem State.noImage_same {q m} (h0' : Same q m s0') : Same q m (State.noImage s0') := by
  unfold State.noImage; exact (State.toPhase4_same (State.stand_same (State.raise_same h0' ..) ..) ..)
theorem State.copyChecked_same {q m} (h0' : Same q m s0') (a1') (a2') : Same q m (State.copyChecked s0' a1' a2') := by
  unfold State.copyChecked; exact (by extract_lets -merge x0 x1 s2 x4 s5; (try clear_value x0 x1 x4); have h3 : Same q m s2 := (State.wr_same h0' ..); (try clear_value s2); have h6 : Same q m s5 := (State.copyBad_same h3 ..); (try clear_value s5); (try clear_value s2 s5); exact (.ite h0' (.ite (State.loadCopy_same (State.setCopyDone_same h3 ..) ..) (.ite (State.noImage_same h6 ..) (State.setBoot_same h6 ..)))))
theorem State.discoveryDone_same {q m} (h0' : Same q m s0') (a1') (a2') (a3') (a4') : Same q m (State.discoveryDone s0' a1' a2' a3' a4') := by
  unfold State.discoveryDone; exact (.ite h0' (by extract_lets -merge s0 s2 s5 x7 x8 s9 s12; (try clear_value x7 x8); have h1 : Same q m s0 := (State.wr_same (State.wr_same h0' ..) ..); (try clear_value s0); have h4 : Same q m s2 := (by unfold s2; exact (by split; (· exact (State.stand_same (State.raise_same (State.wr_same (State.wr_same (State.wr_same (State.wr_same h1 ..) ..) ..) ..) ..) ..)); (· exact (by extract_lets -merge x3; (try clear_value x3); exact (State.wr_same (State.wr_same (State.wr_same (State.wr_same h1 ..) ..) ..) ..))))); (try clear_value s2); have h6 : Same q m s5 := (State.setBoot_same h4 ..); (try clear_value s5); have h11 : Same q m s9 := (State.cond_same h6 (fun _ h10 => (State.copyBad_same h10 ..)) ..); (try clear_value s9); have h14 : Same q m s12 := (State.cond_same h11 (fun _ h13 => (State.copyBad_same h13 ..)) ..); (try clear_value s12); (try clear_value s0 s2 s5 s9 s12); exact (.ite (State.noImage_same (State.stand_same (State.raise_same h1 ..) ..) ..) (.ite (State.noImage_same h14 ..) (State.setBoot_same h14 ..)))))
theorem State.gpioEdge_same {q m} (h0' : Same q m s0') (a1') (a2') : Same q m (State.gpioEdge s0' a1' a2') := by
  unfold State.gpioEdge; exact (.ite h0' (by extract_lets -merge x0 s1; (try clear_value x0); have h2 : Same q m s1 := (.upd h0'); (try clear_value s1); (try clear_value s1); exact (State.putBit_same h2 ..)))
theorem State.planKeep_same {q m} (h0' : Same q m s0') (a1') : Same q m (State.planKeep s0' a1') := by
  unfold State.planKeep; exact (.ite h0' (State.setSyn_same h0' ..))
theorem State.startBoth_same {q m} (h0' : Same q m s0') : Same q m (State.startBoth s0') := by
  unfold State.startBoth; exact (.ite (State.planKeep_same (State.planKeep_same h0' ..) ..) (State.synGo_same (State.synGo_same h0' ..) ..))
theorem State.recRun_same {q m} (h0' : Same q m s0') (h1' : ∀ y0, Same q m y0 → Same q m (f1' y0)) : Same q m (State.recRun s0' f1') := by
  unfold State.recRun; exact (.ite h0' (.ite (State.setBoot_same h0' ..) (h1' _ (State.setBoot_same (State.satInc_same h0' ..) ..))))
theorem State.recRun_kept {q} (h0' : Kept q s0') (h1' : ∀ y0, Kept q y0 → Kept q (f1' y0)) : Kept q (State.recRun s0' f1') := by
  unfold State.recRun; exact (.ite h0' (.ite (keep h0' fun h => State.setBoot_same h ..) (h1' _ (keep (keep h0' fun h => State.satInc_same h ..) fun h => State.setBoot_same h ..))))
theorem State.imgCalibrate_same {q m} (h0' : Same q m s0') : Same q m (State.imgCalibrate s0') := by
  unfold State.imgCalibrate; exact (State.recRun_same h0' (fun _ h0 => (by extract_lets -merge x1; (try clear_value x1); exact (State.setBoot_same (State.startBoth_same h0 ..) ..))) ..)
theorem State.imgDelay_same {q m} (h0' : Same q m s0') (a1') : Same q m (State.imgDelay s0' a1') := by
  unfold State.imgDelay; exact (State.recRun_same h0' (fun _ h0 => (State.setBoot_same h0 ..)) ..)
theorem State.imgDelayEnd_same {q m} (h0' : Same q m s0') : Same q m (State.imgDelayEnd s0') := by
  unfold State.imgDelayEnd; exact (by split; (· exact (.ite h0' (State.setBoot_same (State.reach_same h0' ..) ..))); (· exact h0'))
theorem State.imgEnd_same {q m} (h0' : Same q m s0') : Same q m (State.imgEnd s0') := by
  unfold State.imgEnd; exact (.ite (State.toPhase4_same (State.setBoot_same (State.satInc_same h0' ..) ..) ..) h0')
theorem State.imgNop_same {q m} (h0' : Same q m s0') : Same q m (State.imgNop s0') := by
  unfold State.imgNop; exact (.ite (State.setBoot_same (State.satInc_same h0' ..) ..) h0')
theorem State.loadAbort_same {q m} (h0' : Same q m s0') : Same q m (State.loadAbort s0') := by
  unfold State.loadAbort; exact (State.stand_same (State.raise_same (State.wr_same h0' ..) ..) ..)
theorem State.imgTimeout_same {q m} (h0' : Same q m s0') : Same q m (State.imgTimeout s0') := by
  unfold State.imgTimeout; exact (by split; (· exact (.ite h0' (by extract_lets -merge s0; have h1 : Same q m s0 := (State.setBoot_same (State.reach_same h0' ..) ..); (try clear_value s0); (try clear_value s0); exact (.ite (State.toPhase4_same (State.loadAbort_same h1 ..) ..) h1)))); (· exact h0'))
theorem State.loadLimit_same {q m} (h0' : Same q m s0') : Same q m (State.loadLimit s0') := by
  unfold State.loadLimit; exact (by extract_lets -merge x0 s1; (try clear_value x0); have h2 : Same q m s1 := (State.loadAbort_same (State.reach_same h0' ..) ..); (try clear_value s1); (try clear_value s1); exact (.ite h0' (.ite (State.noImage_same h2 ..) (State.toPhase4_same h2 ..))))
theorem State.strapCheck_same {q m} (h0' : Same q m s0') : Same q m (State.strapCheck s0') := by
  unfold State.strapCheck; exact (State.cond_same h0' (fun _ h0 => (State.idConflict_same h0 ..)) ..)
theorem State.phase0Done_same {q m} (h0' : Same q m s0') (a1') (a2') (a3') (a4') (a5') (a6') : Same q m (State.phase0Done s0' a1' a2' a3' a4' a5' a6') := by
  unfold State.phase0Done; exact (.ite h0' (by extract_lets -merge s0 s2 s4 x6 s7 s9; (try clear_value x6); have h1 : Same q m s0 := (State.wr_same (State.wr_same (State.wr_same h0' ..) ..) ..); (try clear_value s0); have h3 : Same q m s2 := (State.wr_same h1 ..); (try clear_value s2); have h5 : Same q m s4 := (State.wr_same (State.wr_same h3 ..) ..); (try clear_value s4); have h8 : Same q m s7 := (.upd h5); (try clear_value s7); have h10 : Same q m s9 := (by unfold s9; exact (by split; (· exact (State.wr_same h8 ..)); (· exact (State.refInFail_same h8 ..)))); (try clear_value s9); (try clear_value s0 s2 s4 s7 s9); exact (State.wr_same (State.strapCheck_same h10 ..) ..)))
theorem State.progDone_same {q m} (h0' : Same q m s0') (a1') : Same q m (State.progDone s0' a1') := by
  unfold State.progDone; exact (by split; (· exact h0'); (· exact (by extract_lets -merge x0 s1 s3 s6 s8 s11; (try clear_value x0); have h2 : Same q m s1 := (State.setBoot_same h0' ..); (try clear_value s1); have h5 : Same q m s3 := (State.cond_same h2 (fun _ h4 => (State.wr_same h4 ..)) ..); (try clear_value s3); have h7 : Same q m s6 := (State.wr_same (State.wr_same h5 ..) ..); (try clear_value s6); have h10 : Same q m s8 := (.foldl h7 (fun _ h9 _ => (State.wr_same h9 ..)) _); (try clear_value s8); have h13 : Same q m s11 := (State.cond_same h10 (fun _ h12 => (State.raise_same h12 ..)) ..); (try clear_value s11); (try clear_value s1 s3 s6 s8 s11); exact (State.journalInt_same h13 ..))))
theorem State.rehearse_same {q m} (h0' : Same q m s0') : Same q m (State.rehearse s0') := by
  unfold State.rehearse; exact (.ite h0' (by extract_lets -merge s0 s2 x4 s5 s7 s9; (try clear_value x4); have h1 : Same q m s0 := (State.wr_same h0' ..); (try clear_value s0); have h3 : Same q m s2 := (State.wr_same h1 ..); (try clear_value s2); have h6 : Same q m s5 := (State.journal_same h3 ..); (try clear_value s5); have h8 : Same q m s7 := (State.setSys_same (State.int_same h6 ..) ..); (try clear_value s7); have h10 : Same q m s9 := (State.setFc_same (State.setDevState_same h8 ..) ..); (try clear_value s9); (try clear_value s0 s2 s5 s7 s9); exact (State.cond_same h10 (fun _ h11 => (State.wr_same h11 ..)) ..)))
theorem State.restartClock_same {q m s} (h : Same q m s) : Same q m (State.restartClock s) := by
  unfold State.restartClock
  extract_lets d back hours s1
  have h1 : Same q m s1 := State.satAdd_same h ..
  clear_value s1
  exact ⟨h1.pending, h1.mem, TodOk.zero rfl rfl⟩

theorem State.resetRelease_same {q m} (h0' : Same q m s0') : Same q m (State.resetRelease s0') := by
  unfold State.resetRelease; exact (by split; (· exact h0'); (· exact (by extract_lets -merge s0 s2 s4; have h1 : Same q m s0 := (.ite (State.restartClock_same h0' ..) (State.reach_same h0' ..)); (try clear_value s0); have h3 : Same q m s2 := (State.setBoot_same h1 ..); (try clear_value s2); have h5 : Same q m s4 := (State.setThm_same h3 ..); (try clear_value s4); (try clear_value s0 s2 s4); exact (State.cond_same (State.wr_same h5 ..) (fun _ h6 => (State.strapCheck_same h6 ..)) ..))))
theorem State.ringResetFrame_kept {q} (h0' : Kept q s0') (a1') : Kept q (State.ringResetFrame s0' a1') := by
  unfold State.ringResetFrame; exact (State.resetGo_kept (keep h0' fun h => State.took_same h ..) ..)
theorem State.smemDone_same {q m} (h0' : Same q m s0') (a1') (a2') : Same q m (State.smemDone s0' a1' a2') := by
  unfold State.smemDone; exact (by split; (· exact h0'); (· exact (by extract_lets -merge s0 s2 x5 s6 s8; (try clear_value x5); have h1 : Same q m s0 := (.upd h0'); (try clear_value s0); have h4 : Same q m s2 := (by unfold s2; exact (.ite h1 (.foldl h1 (fun _ h3 _ => (by split; (· exact (State.wrBits_same h3 ..)))) _))); (try clear_value s2); have h7 : Same q m s6 := (State.wr_same (State.wr_same (State.wr_same h4 ..) ..) ..); (try clear_value s6); have h9 : Same q m s8 := (State.int_same h7 ..); (try clear_value s8); (try clear_value s0 s2 s6 s8); exact (State.cond_same h9 (fun _ h10 => (State.raiseInt_same (State.satInc_same h10 ..) ..)) ..))))
theorem State.standFall_same {q m} (h0' : Same q m s0') (a1') (a2') : Same q m (State.standFall s0' a1' a2') := by
  unfold State.standFall; exact (.ite (State.linesGood_same h0' ..) (.ite (State.unstand_same h0' ..) (.ite (.ite (State.unstand_same h0' ..) h0') (.ite (State.unstand_same h0' ..) h0'))))
theorem State.startCal_same {q m} (h0' : Same q m s0') : Same q m (State.startCal s0') := by
  unfold State.startCal; exact (.ite h0' (State.setBoot_same (.ite h0' (State.startBoth_same h0' ..)) ..))
theorem State.supplyClear_same {q m} (h0' : Same q m s0') : Same q m (State.supplyClear s0') := by
  unfold State.supplyClear; exact (State.resumeRecording_same (State.wr_same (State.wr_same h0' ..) ..) ..)
theorem State.supplyOver_same {q m} (h0' : Same q m s0') (a1') : Same q m (State.supplyOver s0' a1') := by
  unfold State.supplyOver; exact (.ite h0' (by extract_lets -merge s0; have h1 : Same q m s0 := (State.putBit_same (State.putBit_same h0' ..) ..); (try clear_value s0); (try clear_value s0); exact (State.stand_same (State.raise_same (State.satInc_same h1 ..) ..) ..)))
theorem State.supplyUnder_same {q m} (h0' : Same q m s0') (a1') : Same q m (State.supplyUnder s0' a1') := by
  unfold State.supplyUnder; exact (.ite h0' (by extract_lets -merge s0; have h1 : Same q m s0 := (State.putBit_same (State.putBit_same h0' ..) ..); (try clear_value s0); (try clear_value s0); exact (State.pfail_same (State.stand_same (State.raise_same (State.satInc_same h1 ..) ..) ..) ..)))

end Sys2Proof.Machine
end

