-- ==== Sys2Proof/Laws/KeepTwt.lean ====
section
/-! SUPPORT. What the operations of Machine/Twt.lean keep: the queue, the memory or its canonical form, a legal time of
day. -/
namespace Sys2Proof.Machine
open Sys2Proof
set_option Elab.async false

theorem State.writeMboxOut_same {q m} (h0' : Same q m s0') (a1') (a2') : Same q m (State.writeMboxOut s0' a1' a2') := by
  unfold State.writeMboxOut; exact (.ite (State.refuse_same h0' ..) (State.wr_same h0' ..))
theorem State.outGo_same {q m} (h0' : Same q m s0') : Same q m (State.outGo s0') := by
  unfold State.outGo; exact (.ite (State.refuse_same h0' ..) (State.alert_same (State.wr_same h0' ..) ..))
theorem State.inAck_same {q m} (h0' : Same q m s0') : Same q m (State.inAck s0') := by
  unfold State.inAck; exact (State.wr_same h0' ..)
theorem State.writeTwtCtl_same {q m} (h0' : Same q m s0') (a1') : Same q m (State.writeTwtCtl s0' a1') := by
  unfold State.writeTwtCtl; exact (by extract_lets -merge s0 s3; have h2 : Same q m s0 := (State.cond_same h0' (fun _ h1 => (State.inAck_same h1 ..)) ..); (try clear_value s0); have h5 : Same q m s3 := (State.cond_same h2 (fun _ h4 => (State.outGo_same h4 ..)) ..); (try clear_value s3); (try clear_value s0 s3); exact (State.cond_same h5 (fun _ h6 => (State.alert_same h6 ..)) ..))
theorem State.writeTwtCfg_same {q m} (h0' : Same q m s0') (a1') : Same q m (State.writeTwtCfg s0' a1') := by
  unfold State.writeTwtCfg; exact (.ite (State.refuse_same h0' ..) (State.wrWord_same h0' ..))
theorem State.twtWake_same {q m} (h0' : Same q m s0') : Same q m (State.twtWake s0') := by
  unfold State.twtWake; exact (State.setTwt_same (State.satInc_same (State.wr_same h0' ..) ..) ..)
theorem State.alertRead_same {q m} (h0' : Same q m s0') (a1') : Same q m (State.alertRead s0' a1') := by
  unfold State.alertRead; exact (.ite h0' (.ite (State.twtWake_same h0' ..) (by extract_lets -merge s0 s2; have h1 : Same q m s0 := (State.setTwt_same h0' ..); (try clear_value s0); have h3 : Same q m s2 := (State.setTwt_same (State.satInc_same h1 ..) ..); (try clear_value s2); (try clear_value s0 s2); exact (.ite (State.setTwt_same h1 ..) (State.cond_same h3 (fun _ h4 => (State.int_same (State.wr_same h4 ..) ..)) ..)))))
theorem State.twtAddress_same {q m} (h0' : Same q m s0') (a1') (a2') : Same q m (State.twtAddress s0' a1' a2') := by
  unfold State.twtAddress; exact (.ite h0' (.ite (State.setTwt_same (State.wr_same h0' ..) ..) (.ite (State.twtWake_same h0' ..) (by extract_lets -merge s0 s3 x5; (try clear_value x5); have h2 : Same q m s0 := (State.cond_same h0' (fun _ h1 => (State.satInc_same h1 ..)) ..); (try clear_value s0); have h4 : Same q m s3 := (State.wr_same (State.wr_same h2 ..) ..); (try clear_value s3); (try clear_value s0 s3); exact (State.setTwt_same h4 ..)))))
theorem State.twtAdvance_same {q m} (h0' : Same q m s0') : Same q m (State.twtAdvance s0') := by
  unfold State.twtAdvance; exact (State.inc_same h0' ..)
theorem State.twtEnd_same {q m} (h0' : Same q m s0') (a1') : Same q m (State.twtEnd s0' a1') := by
  unfold State.twtEnd; exact (State.cond_same (State.setTwt_same h0' ..) (fun _ h0 => (State.wr_same h0 ..)) ..)
theorem State.twtRead_same {q m} (h0' : Same q m s0') (a1') (a2') : Same q m (State.twtRead s0' a1' a2') := by
  unfold State.twtRead; exact (.ite h0' (by extract_lets -merge x0 x1 s2 s4 s7 s10; (try clear_value x0 x1); have h3 : Same q m s2 := (State.setTwt_same h0' ..); (try clear_value s2); have h6 : Same q m s4 := (State.cond_same h3 (fun _ h5 => (State.raise_same h5 ..)) ..); (try clear_value s4); have h9 : Same q m s7 := (State.cond_same h6 (fun _ h8 => (State.setTwt_same h8 ..)) ..); (try clear_value s7); have h12 : Same q m s10 := (State.cond_same h9 (fun _ h11 => (State.int_same (State.wr_same h11 ..) ..)) ..); (try clear_value s10); (try clear_value s2 s4 s7 s10); exact (State.twtEnd_same (State.twtAdvance_same h12 ..) ..)))
theorem State.twtRestart_same {q m} (h0' : Same q m s0') : Same q m (State.twtRestart s0') := by
  unfold State.twtRestart; exact (.ite h0' (State.setTwt_same (State.int_same (State.satInc_same h0' ..) ..) ..))
theorem State.twtSleep_same {q m} (h0' : Same q m s0') : Same q m (State.twtSleep s0') := by
  unfold State.twtSleep; exact (.ite h0' (State.wr_same (State.reach_same h0' ..) ..))
theorem State.twtStuck_same {q m} (h0' : Same q m s0') : Same q m (State.twtStuck s0') := by
  unfold State.twtStuck; exact (.ite h0' (by extract_lets -merge s0; have h1 : Same q m s0 := (State.setTwt_same (State.satInc_same (State.wr_same h0' ..) ..) ..); (try clear_value s0); (try clear_value s0); exact (State.raiseInt_same h1 ..)))
theorem State.twtWrite_same {q m} (h0' : Same q m s0') (a1') (a2') : Same q m (State.twtWrite s0' a1' a2') := by
  unfold State.twtWrite; exact (.ite h0' (by extract_lets -merge x0 s1 s3 s5; (try clear_value x0); have h2 : Same q m s1 := (State.setTwt_same h0' ..); (try clear_value s1); have h4 : Same q m s3 := (State.wrBits_same h2 ..); (try clear_value s3); have h7 : Same q m s5 := (.ite (State.setTwt_same (State.wr_same h2 ..) ..) (.ite (.ite (State.twtAdvance_same (State.setTwt_same (State.satInc_same h2 ..) ..) ..) (State.twtAdvance_same (State.cond_same h4 (fun _ h6 => (State.int_same (State.wr_same h6 ..) ..)) ..) ..)) (State.twtAdvance_same (State.satInc_same h2 ..) ..))); (try clear_value s5); (try clear_value s1 s3 s5); exact (State.twtEnd_same h7 ..)))

end Sys2Proof.Machine
end

