-- ==== Sys2Proof/Laws/KeepHostWrite.lean ====
section
/-! SUPPORT. What the operations of Machine/HostWrite.lean keep: the queue, the memory or its canonical form, a legal time of
day. -/
namespace Sys2Proof.Machine
open Sys2Proof
set_option Elab.async false

theorem State.readFx_same {q m} (h0' : Same q m s0') (a1') : Same q m (State.readFx s0' a1').1 := by
  unfold State.readFx; exact (by extract_lets -merge x0 x1; (try clear_value x0 x1); exact (.ite1 (by split; rename_i s4 x5 e2; have h3 : Same q m s4 := .fst e2 (State.icClaim_same h0' ..); exact (.pr1 h3)) (.pr1 h0')))
theorem State.readLocal_same {q m} (h0' : Same q m s0') (a1') : Same q m (State.readLocal s0' a1') := by
  unfold State.readLocal; exact (by split; rename_i s2 x3 e0; have h1 : Same q m s2 := .fst e0 (State.readFx_same h0' ..); exact (State.toHost_same h1 ..))
theorem State.setRunAt_same {q m} (h0' : Same q m s0') (a1') (a2') (a3') : Same q m (State.setRunAt s0' a1' a2' a3') := by
  unfold State.setRunAt; exact (State.setRun_same h0' ..)
theorem State.answerNow_same {q m} (h0' : Same q m s0') (a1') (a2') : Same q m (State.answerNow s0' a1' a2') := by
  unfold State.answerNow; exact (by split; rename_i s2 x3 e0; have h1 : Same q m s2 := .fst e0 (State.readFx_same h0' ..); exact (State.sendOnce_same h1 ..))
theorem State.clearErr_same {q m} (h0' : Same q m s0') (a1') (a2') : Same q m (State.clearErr s0' a1' a2') := by
  unfold State.clearErr; exact (by extract_lets -merge x0; (try clear_value x0); exact (State.clrBits_same h0' ..))
theorem State.pageErrClear_same {q m} (h0' : Same q m s0') (a1') : Same q m (State.pageErrClear s0' a1') := by
  unfold State.pageErrClear; exact (State.clearErr_same h0' ..)
theorem State.pageIntClear_same {q m} (h0' : Same q m s0') (a1') : Same q m (State.pageIntClear s0' a1') := by
  unfold State.pageIntClear; exact (State.wr_same h0' ..)
theorem State.writeHeader_same {q m} (h0' : Same q m s0') (a1') (a2') (a3') : Same q m (State.writeHeader s0' a1' a2' a3') := by
  unfold State.writeHeader; exact (.ite (by extract_lets -merge s0; have h2 : Same q m s0 := (State.cond_same h0' (fun _ h1 => (State.pageIntClear_same h1 ..)) ..); (try clear_value s0); (try clear_value s0); exact (State.cond_same h2 (fun _ h3 => (State.pageErrClear_same h3 ..)) ..)) (.ite (State.clearErr_same h0' ..) (.ite (State.wr_same h0' ..) (.ite (State.forceCause_same h0' ..) (.ite (State.clrBits_same h0' ..) (.ite (State.wr_same h0' ..) h0'))))))
theorem State.writePlain_same {q m} (h0' : Same q m s0') (a1') (a2') : Same q m (State.writePlain s0' a1' a2') := by
  unfold State.writePlain; exact (.foldl h0' (fun _ h0 _ => (by split; (· exact (by split; (· exact (State.wr_same h0 ..)); (· exact (State.clrBits_same h0 ..)); (· exact h0); (· exact h0))))) _)
theorem State.checked_same {q m} (h0' : Same q m s0') (a1') (a2') (a3') (a4') : Same q m (State.checked s0' a1' a2' a3' a4') := by
  unfold State.checked; exact (.ite (State.writePlain_same h0' ..) (State.refuse_same h0' ..))
theorem State.writeCnx_kept {q} (h0' : Kept q s0') (a1') (a2') : Kept q (State.writeCnx s0' a1' a2') := by
  unfold State.writeCnx; exact (by extract_lets -merge s0 x2 x3; (try clear_value x2 x3); have h1 : Kept q s0 := (keep h0' fun h => State.writePlain_same h ..); (try clear_value s0); (try clear_value s0); exact (.ite (keep h0' fun h => State.writeMargin_same h ..) (.ite (keep h0' fun h => State.writeRise_same h ..) (.ite (keep h0' fun h => State.checked_same h ..) (.ite (keep h0' fun h => State.checked_same h ..) (.ite (State.cond_kept h0' (fun _ h4 => (keep h4 fun h => State.tapSnap_same h ..)) ..) (.ite (State.writePos_kept h0' ..) (.ite (State.writePathCfg_kept h0' ..) (.ite (keep h0' fun h => State.writeStx_same h ..) (.ite (keep h0' fun h => State.writeSrx_same h ..) h1))))))))))
theorem State.writeLane_kept {q} (h0' : Kept q s0') (a1') (a2') (a3') : Kept q (State.writeLane s0' a1' a2' a3') := by
  unfold State.writeLane; exact (by extract_lets -merge x0; (try clear_value x0); exact (.ite (State.writeLaneCfg_kept h0' ..) (.ite (State.writeLaneWord_kept h0' ..) (.ite (State.writeLaneWord_kept h0' ..) (.ite (State.writeLaneWord_kept h0' ..) (.ite (State.writeLaneWord_kept h0' ..) (.ite (State.writeLaneWord_kept h0' ..) (.ite (State.writeLaneWord_kept h0' ..) (keep h0' fun h => State.writePlain_same h ..)))))))))
theorem State.writeFab_same {q m} (h0' : Same q m s0') (a1') (a2') : Same q m (State.writeFab s0' a1' a2') := by
  unfold State.writeFab; exact (.ite (State.writeFabCfg_same h0' ..) (.ite (State.writeVlim_same h0' ..) (.ite (State.writeVreq_same h0' ..) (.ite (State.cond_same h0' (fun _ h0 => (State.minClr_same h0 ..)) ..) (State.writePlain_same h0' ..)))))
theorem State.writeSpt_same {q m} (h0' : Same q m s0') (a1') (a2') (a3') : Same q m (State.writeSpt s0' a1' a2' a3') := by
  unfold State.writeSpt; exact (by extract_lets -merge x0 x1 x2 x3; (try clear_value x0 x1 x2 x3); exact (.ite (State.checked_same (State.cond_same h0' (fun _ h4 => (State.holdCfg_same h4 ..)) ..) ..) (.ite (State.writeCtxSnap_same h0' ..) (.ite (State.writeSptCfg_same h0' ..) (.ite (State.writeSptMap_same h0' ..) (State.writePlain_same h0' ..))))))
theorem State.writeConv_kept {q} (h0' : Kept q s0') (a1') (a2') (a3') : Kept q (State.writeConv s0' a1' a2' a3') := by
  unfold State.writeConv; exact (.ite (State.writeCv_kept h0' ..) (keep h0' fun h => State.writePlain_same h ..))
theorem State.writeSln_same {q m} (h0' : Same q m s0') (a1') (a2') : Same q m (State.writeSln s0' a1' a2') := by
  unfold State.writeSln; exact (.ite (State.checked_same h0' ..) (.ite (State.writeSlnCtl_same h0' ..) (State.writePlain_same h0' ..)))
theorem State.writeDma_same {q m} (h0' : Same q m s0') (a1') (a2') : Same q m (State.writeDma s0' a1' a2') := by
  unfold State.writeDma; exact (by extract_lets -merge x0 x1; (try clear_value x0 x1); exact (.ite (.ite (State.writeQCfg_same h0' ..) (.ite (State.writeQBase_same h0' ..) (.ite (State.writeQBase_same h0' ..) (.ite (State.writeQBase_same h0' ..) (.ite (State.writeQBase_same h0' ..) (.ite (State.writeCqHead_same h0' ..) (State.writePlain_same h0' ..))))))) (State.writePlain_same h0' ..)))
theorem State.writeCur_same {q m} (h0' : Same q m s0') (a1') (a2') : Same q m (State.writeCur s0' a1' a2') := by
  unfold State.writeCur; exact (.ite (State.writeCurHost_same h0' ..) (.ite (State.curRelease_same h0' ..) (State.writePlain_same h0' ..)))
theorem State.writeHif_kept {q} (h0' : Kept q s0') (a1') (a2') : Kept q (State.writeHif s0' a1' a2') := by
  unfold State.writeHif; exact (.ite (keep h0' fun h => State.writeHifCfg_same h ..) (.ite (keep h0' fun h => State.writeHifPm_same h ..) (.ite (.ite (State.writeVecCtl_kept h0' ..) (State.stIn_kept h0' ..)) (keep h0' fun h => State.writePlain_same h ..))))
theorem State.writeHk_same {q m} (h0' : Same q m s0') (a1') (a2') : Same q m (State.writeHk s0' a1' a2') := by
  unfold State.writeHk; exact (.ite (State.writeHkCfg_same h0' ..) (.ite (State.writeHkMask_same h0' ..) (.ite (State.writeHkTrig_same h0' ..) (.ite (State.writeHkTimer_same h0' ..) (.ite (State.cond_same h0' (fun _ h0 => (State.writeHkCtl_same h0 ..)) ..) (State.writePlain_same h0' ..))))))
theorem State.writeIc_same {q m} (h0' : Same q m s0') (a1') (a2') (a3') : Same q m (State.writeIc s0' a1' a2' a3') := by
  unfold State.writeIc; exact (.ite (State.icComplete_same h0' ..) (.ite h0' (.ite (State.writeWake_same h0' ..) (.ite (State.writeCntPtr_same h0' ..) (.ite (State.writeTgtCfg_same h0' ..) (.ite (State.writeSrcCfg_same h0' ..) (State.writePlain_same h0' ..)))))))
theorem State.writeFc_same {q m} (h0' : Same q m s0') (a1') (a2') : Same q m (State.writeFc s0' a1' a2') := by
  unfold State.writeFc; exact (.ite (State.hostClear_same h0' ..) (.ite (State.hostClear_same h0' ..) (.ite (State.forceSource_same h0' ..) (.ite (State.forceSource_same h0' ..) (.ite (State.checked_same h0' ..) (.ite (State.cond_same h0' (fun _ h0 => (State.ackFirst_same h0 ..)) ..) (.ite (State.writeSev_same h0' ..) (State.writePlain_same h0' ..))))))))
theorem State.writeStart_kept {q} (h0' : Kept q s0') (a1') (a2') (a3') : Kept q (State.writeStart s0' a1' a2' a3') := by
  unfold State.writeStart; exact (.ite (keep h0' fun h => State.writeBootCfg_same h ..) (.ite (State.writeBootReset_kept h0' ..) (.ite (keep h0' fun h => State.writeSecProg_same h ..) (.ite (keep h0' fun h => State.wr_same h ..) (.ite (keep h0' fun h => State.writeSmemCfg_same h ..) (.ite (keep h0' fun h => State.writeSmemCmd_same h ..) (keep h0' fun h => State.writePlain_same h ..)))))))
theorem State.writeRfc_same {q m} (h0' : Same q m s0') (a1') (a2') : Same q m (State.writeRfc s0' a1' a2') := by
  unfold State.writeRfc; exact (by extract_lets -merge x0 x1 x2; (try clear_value x0 x1 x2); exact (.ite (State.checked_same h0' ..) (.ite (.ite (State.writeAttnCfg_same h0' ..) (.ite (State.writeAttnCtl_same h0' ..) (.ite (State.writeAttnData_same h0' ..) h0'))) (.ite (State.writePortCfg_same h0' ..) (.ite (State.lossAll_same (State.writePlain_same h0' ..) ..) (.ite (State.writeCoexCfg_same h0' ..) (State.writePlain_same h0' ..)))))))
theorem State.writeTwc_same {q m} (h0' : Same q m s0') (a1') (a2') (a3') : Same q m (State.writeTwc s0' a1' a2' a3') := by
  unfold State.writeTwc; exact (by extract_lets -merge x0; (try clear_value x0); exact (.ite (State.writeTwcCfg_same h0' ..) (.ite (State.writeTwcTimeA_same h0' ..) (.ite (State.writeTwcTimeB_same h0' ..) (.ite (State.writeTwcCtl_same h0' ..) (.ite (State.writeTwcCmd_same h0' ..) (.ite (State.writeRegCfg_same h0' ..) (.ite (State.writePollA_same h0' ..) (.ite (State.checked_same h0' ..) (State.writePlain_same h0' ..))))))))))
theorem State.writeLedg_kept {q} (h0' : Kept q s0') (a1') (a2') : Kept q (State.writeLedg s0' a1' a2') := by
  unfold State.writeLedg; exact (.ite (keep h0' fun h => State.writeSnap_same h ..) (.ite (keep h0' fun h => State.writeLedgClr_same h ..) (.ite (keep h0' fun h => State.writeMigCfg_same h ..) (.ite (by split; rename_i x3 s2 e0; have h1 : Kept q s2 := .snd e0 (keep h0' fun h => State.draw_same h ..); exact (by extract_lets -merge x4; (try clear_value x4); exact (State.writeMigCtl_kept h1 ..))) (keep h0' fun h => State.writePlain_same h ..)))))
theorem State.writePb_same {q m} (h0' : Same q m s0') (a1') (a2') : Same q m (State.writePb s0' a1' a2') := by
  unfold State.writePb; exact (.ite (State.writePbCfg_same h0' ..) (.ite (State.cond_same h0' (fun _ h0 => (State.pbReadGo_same h0 ..)) ..) (.ite (State.checked_same h0' ..) (.ite (State.cond_same (State.cond_same h0' (fun _ h1 => (State.verifyGo_same h1 ..)) ..) (fun _ h2 => (State.verifyStop_same h2 ..)) ..) (State.writePlain_same h0' ..)))))
theorem State.writeStm_same {q m} (h0' : Same q m s0') (a1') (a2') : Same q m (State.writeStm s0' a1' a2') := by
  unfold State.writeStm; exact (.ite (State.writeStmIf_same h0' ..) (.ite (State.writeStmLimits_same h0' ..) (.ite (State.writeFmtCtl_same h0' ..) (.ite (State.writeHistCfg_same h0' ..) (.ite (State.writeCapCfg_same h0' ..) (.ite (State.writeCapCtl_same h0' ..) (.ite (State.writeScrubCfg_same h0' ..) (State.writePlain_same h0' ..))))))))
theorem State.writeTdd_same {q m} (h0' : Same q m s0') (a1') (a2') : Same q m (State.writeTdd s0' a1' a2') := by
  unfold State.writeTdd; exact (.ite (State.writeTddCtl_same h0' ..) (.ite (by extract_lets -merge x0 g1 x3; (try clear_value x0 x3); have h2 : ∀ y0, ∀ y1, ∀ y2, Same q m (g1 y0 y1 y2) := (fun _ _ _ => (State.writeTddBank_same h0' ..)); exact (.ite (h2 _ _ _) (.ite (h2 _ _ _) (.ite (h2 _ _ _) (.ite (h2 _ _ _) h0'))))) (State.writePlain_same h0' ..)))
theorem State.writeProt_same {q m} (h0' : Same q m s0') (a1') (a2') : Same q m (State.writeProt s0' a1' a2') := by
  unfold State.writeProt; exact (by extract_lets -merge x0 x1 x2 x3 x4 x5 x6 x7 x8; (try clear_value x0 x1 x2 x3 x4 x5 x6 x7 x8); exact (.ite (State.checked_same h0' ..) (.ite (State.checked_same h0' ..) (.ite (State.checked_same (State.cond_same h0' (fun _ h9 => (State.holdProt_same h9 ..)) ..) ..) (.ite (State.writePlain_same (State.holdProt_same h0' ..) ..) (.ite (.ite (State.writePlain_same (State.newRate_same h0' ..) ..) (State.refuse_same h0' ..)) (.ite (State.checked_same h0' ..) (State.writePlain_same h0' ..))))))))
theorem State.writePwm_same {q m} (h0' : Same q m s0') (a1') (a2') : Same q m (State.writePwm s0' a1' a2') := by
  unfold State.writePwm; exact (by extract_lets -merge x0; (try clear_value x0); exact (.ite (State.writePwmCfg_same h0' ..) (.ite (State.writePwmPer_same h0' ..) (.ite (State.writePwmDuty_same h0' ..) (.ite (State.writeBdacCfg_same h0' ..) (.ite (State.writeBdacCode_same h0' ..) (State.writePlain_same h0' ..)))))))
theorem State.writeCte_kept {q} (h0' : Kept q s0') (a1') (a2') : Kept q (State.writeCte s0' a1' a2') := by
  unfold State.writeCte; exact (.ite (State.cueGroup_kept h0' ..) (.ite (keep h0' fun h => State.writeSectState_same h ..) (.ite (keep h0' fun h => State.writeSectState_same h ..) (.ite (keep h0' fun h => State.writeInjCfg_same h ..) (.ite (keep h0' fun h => State.writeInjLen_same h ..) (.ite (keep h0' fun h => State.writeInjCtl_same h ..) (.ite (keep h0' fun h => State.writeCteCap_same h ..) (keep h0' fun h => State.writePlain_same h ..))))))))
theorem State.writeTwt_same {q m} (h0' : Same q m s0') (a1') (a2') : Same q m (State.writeTwt s0' a1' a2') := by
  unfold State.writeTwt; exact (.ite (State.writeTwtCfg_same h0' ..) (.ite (State.writeTwtCtl_same h0' ..) (.ite (State.writeMboxOut_same h0' ..) (State.writePlain_same h0' ..))))
theorem State.writeTime_same {q m} (h0' : Same q m s0') (a1') (a2') : Same q m (State.writeTime s0' a1' a2') := by
  unfold State.writeTime; exact (by extract_lets -merge x0 x1 x2; (try clear_value x0 x1 x2); exact (.ite (State.writeTimeCfg_same h0' ..) (.ite (State.writeTimeCtl_same h0' ..) (.ite (State.checked_same h0' ..) (.ite (State.writeOsc_same h0' ..) (.ite (State.writeHold_same h0' ..) (.ite (State.writeTimeLoop_same h0' ..) (.ite (State.checked_same h0' ..) (.ite (State.writePpsi_same h0' ..) (.ite (State.checked_same h0' ..) (.ite (State.checked_same h0' ..) (.ite (State.writeDet_same h0' ..) (State.writePlain_same h0' ..)))))))))))))
theorem State.writePage_kept {q} (h0' : Kept q s0') (a1') (a2') (a3') : Kept q (State.writePage s0' a1' a2' a3') := by
  unfold State.writePage; exact (.ite (.ite (keep h0' fun h => State.sysCmd_same h ..) (keep h0' fun h => State.writePlain_same h ..)) (.ite (State.writeStart_kept h0' ..) (.ite (keep h0' fun h => State.writeFc_same h ..) (.ite (keep h0' fun h => State.writeIc_same h ..) (.ite (keep h0' fun h => State.writeIc_same h ..) (.ite (keep h0' fun h => State.writePb_same h ..) (.ite (keep h0' fun h => State.writeStm_same h ..) (.ite (State.writeHif_kept h0' ..) (.ite (keep h0' fun h => State.writeDma_same h ..) (.ite (.ite (keep h0' fun h => State.writeRingCtl_same h ..) (keep h0' fun h => State.writePlain_same h ..)) (.ite (keep h0' fun h => State.writeTime_same h ..) (.ite (keep h0' fun h => State.writeTdd_same h ..) (.ite (.ite (keep h0' fun h => State.writeSynCtl_same h ..) (keep h0' fun h => State.writePlain_same h ..)) (.ite (keep h0' fun h => State.writeRfc_same h ..) (.ite (keep h0' fun h => State.writeCur_same h ..) (.ite (keep h0' fun h => State.writeProt_same h ..) (.ite (keep h0' fun h => State.writeHk_same h ..) (.ite (.ite (keep h0' fun h => State.writeThmCfg_same h ..) (.ite (keep h0' fun h => State.writeThmCtl_same h ..) (keep h0' fun h => State.writePlain_same h ..))) (.ite (keep h0' fun h => State.writePwm_same h ..) (.ite (keep h0' fun h => State.writeTwt_same h ..) (.ite (keep h0' fun h => State.writeTwc_same h ..) (.ite (keep h0' fun h => State.writeTwc_same h ..) (.ite (State.writeCte_kept h0' ..) (.ite (keep h0' fun h => State.writeFab_same h ..) (.ite (State.writeLedg_kept h0' ..) (.ite (State.writeConv_kept h0' ..) (.ite (State.writeLane_kept h0' ..) (.ite (.ite (keep h0' fun h => State.writeChfSel_same h ..) (.ite (keep h0' fun h => State.writeChfPtr_same h ..) h0')) (.ite (.ite (keep h0' fun h => State.writeDelay_same h ..) (keep h0' fun h => State.writePlain_same h ..)) (.ite (State.writeCnx_kept h0' ..) (.ite (keep h0' fun h => State.writeSln_same h ..) (.ite (keep h0' fun h => State.writeSpt_same h ..) (.ite (keep h0' fun h => State.writeSpt_same h ..) h0')))))))))))))))))))))))))))))))))
theorem State.hostWrite_kept {q} (h0' : Kept q s0') (a1') (a2') : Kept q (State.hostWrite s0' a1' a2') := by
  unfold State.hostWrite; exact (by extract_lets -merge x0 x1 x2 x3; (try clear_value x0 x1 x2 x3); exact (.ite (.ite (State.writeTap_kept h0' ..) (.ite h0' (.ite (keep h0' fun h => State.writeCtx_same h ..) (.ite (.ite (State.writeLpCfg_kept h0' ..) (State.writeLp_kept h0' ..)) (.ite (keep h0' fun h => State.writeSect_same h ..) (.ite (State.stIn_kept h0' ..) h0')))))) (.ite h0' (.ite (.ite h0' (keep h0' fun h => State.writeHeader_same h ..)) (State.writePage_kept h0' ..)))))
theorem State.descWord_same {q m} (h0' : Same q m s0') (a1') (a2') (a3') (a4') (a5') : Same q m (State.descWord s0' a1' a2' a3' a4' a5') := by
  unfold State.descWord; exact (by split; rename_i s2 x3 e0; have h1 : Same q m s2 := .fst e0 (State.readFx_same h0' ..); exact (State.setRunAt_same (State.toHost_same h1 ..) ..))
theorem State.claimNow_same {q m} (h0' : Same q m s0') (a1') (a2') : Same q m (State.claimNow s0' a1' a2') := by
  unfold State.claimNow; exact (by split; rename_i s2 x3 e0; have h1 : Same q m s2 := .fst e0 (State.icClaim_same h0' ..); exact (State.toHost_same h1 ..))
theorem State.access_kept {q} (h0' : Kept q s0') (a1') : Kept q (State.access s0' a1') := by
  unfold State.access; exact (.ite (keep h0' fun h => State.defer_same h ..) (by split; (· exact (State.hostWrite_kept h0' ..)); (· exact (keep h0' fun h => State.readLocal_same h ..)); (· exact (keep h0' fun h => State.claimNow_same h ..)); (· exact (keep h0' fun h => State.answerNow_same h ..)); (· exact (keep h0' fun h => State.descWord_same h ..)); (· exact (keep h0' fun h => State.setRunAt_same h ..))))
theorem State.claimRead_kept {q} (h0' : Kept q s0') (a1') (a2') : Kept q (State.claimRead s0' a1' a2') := by
  unfold State.claimRead; exact (.ite (keep h0' fun h => State.toHost_same h ..) (State.access_kept h0' ..))
theorem State.deferredEval_kept {q} (h0' : Kept q s0') : Kept q (State.deferredEval s0') := by
  unfold State.deferredEval; exact (.ite h0' (.foldl (keep h0' fun h => State.setSys_same h ..) (fun _ h0 _ => (State.access_kept h0 ..)) _))
theorem State.descRegRead_kept {q} (h0' : Kept q s0') (a1') (a2') : Kept q (State.descRegRead s0' a1' a2') := by
  unfold State.descRegRead; exact (State.descRun_kept h0' (fun _ h0 => (by extract_lets -merge x1 x2; (try clear_value x1 x2); exact (.foldl h0 (fun _ h3 _ => (.ite (State.access_kept h3 ..) (keep h3 fun h => State.tunnelRead_same h ..))) _))) ..)
theorem State.descRegWrite_kept {q} (h0' : Kept q s0') (a1') (a2') (a3') : Kept q (State.descRegWrite s0' a1' a2' a3') := by
  unfold State.descRegWrite; exact (State.descRun_kept h0' (fun _ h0 => (by extract_lets -merge x1 x2 x3 x4 s5 s7 x10; (try clear_value x1 x2 x3 x4 x10); have h6 : Kept q s5 := (keep h0 fun h => State.setRun_same h ..); (try clear_value s5); have h9 : Kept q s7 := (.foldl h6 (fun _ h8 _ => (keep h8 fun h => State.tunnelWrite_same h ..)) _); (try clear_value s7); (try clear_value s5 s7); exact (.ite (State.access_kept (.foldl h6 (fun _ h11 _ => (State.access_kept h11 ..)) _) ..) (keep h9 fun h => State.setRun_same h ..)))) ..)
theorem State.hostRead_kept {q} (h0' : Kept q s0') (a1') (a2') : Kept q (State.hostRead s0' a1' a2') := by
  unfold State.hostRead; exact (.ite (keep h0' fun h => State.toHost_same h ..) (.ite (keep h0' fun h => State.tunnelRead_same h ..) (State.access_kept h0' ..)))
theorem State.imgModify_kept {q} (h0' : Kept q s0') (a1') (a2') (a3') : Kept q (State.imgModify s0' a1' a2' a3') := by
  unfold State.imgModify; exact (State.recRun_kept h0' (fun _ h0 => (by split; rename_i s3 x4 e1; have h2 : Kept q s3 := .fst e1 (keep h0 fun h => State.readFx_same h ..); exact (State.hostWrite_kept h2 ..))) ..)
theorem State.imgSkip_same {q m} (h0' : Same q m s0') (a1') (a2') (a3') (a4') (a5') : Same q m (State.imgSkip s0' a1' a2' a3' a4' a5') := by
  unfold State.imgSkip; exact (State.recRun_same h0' (fun _ h0 => (by split; rename_i s3 x4 e1; have h2 : Same q m s3 := .fst e1 (State.readFx_same h0 ..); exact (.ite (State.setBoot_same h2 ..) h2))) ..)
theorem State.imgWait_same {q m} (h0' : Same q m s0') (a1') (a2') (a3') (a4') (a5') : Same q m (State.imgWait s0' a1' a2' a3' a4' a5') := by
  unfold State.imgWait; exact (by split; (· exact (by extract_lets -merge x0; (try clear_value x0); exact (.ite h0' (by split; rename_i s3 x4 e1; have h2 : Same q m s3 := .fst e1 (State.readFx_same (State.reach_same h0' ..) ..); exact (.ite (State.setBoot_same h2 ..) (State.setBoot_same h2 ..)))))); (· exact (State.recRun_same h0' (fun _ h5 => (by split; rename_i s8 x9 e6; have h7 : Same q m s8 := .fst e6 (State.readFx_same h5 ..); exact (.ite h7 (State.setBoot_same h7 ..)))) ..)))
theorem State.imgWrite_kept {q} (h0' : Kept q s0') (a1') (a2') : Kept q (State.imgWrite s0' a1' a2') := by
  unfold State.imgWrite; exact (State.recRun_kept h0' (fun _ h0 => (.foldl h0 (fun _ h1 _ => (State.hostWrite_kept h1 ..)) _)) ..)
theorem State.readFrame_kept {q} (h0' : Kept q s0') (a1') (a2') (a3') (a4') : Kept q (State.readFrame s0' a1' a2' a3' a4') := by
  unfold State.readFrame; exact (by extract_lets -merge s0 x2 x3; (try clear_value x2 x3); have h1 : Kept q s0 := (keep h0' fun h => State.took_same h ..); (try clear_value s0); (try clear_value s0); exact (.ite (keep h1 fun h => State.sendOnce_same h ..) (.ite (.ite h1 (keep (keep h1 fun h => State.setDeliv_same h ..) fun h => State.sendOnce_same h ..)) (State.access_kept h1 ..))))
theorem State.regWrite_kept {q} (h0' : Kept q s0') (a1') (a2') : Kept q (State.regWrite s0' a1' a2') := by
  unfold State.regWrite; exact (State.byHost_kept h0' (fun _ h0 => (State.hostWrite_kept h0 ..)) ..)
theorem State.regBody_kept {q s} (h : Kept q s) (a b) : Kept q (State.regBody s a b) := by
  unfold State.regBody
  extract_lets target
  clear_value target
  split
  · exact State.regWrite_kept h ..
  · rename_i slot rate lat dst tail js tod
    exact keep (State.migRemoteGo_kept h ..) fun h => State.sendRel_same h ..
  · split
    · exact State.pathPaste_kept h ..
    · exact h
  · exact .ite h (keep h fun h => State.spotPaste_same h ..)
  · exact .ite h (keep h fun h => State.pasteGain_same h ..)
  · exact .ite (keep h fun h => State.migReady_same h ..) h
  · exact h
  · exact State.migRemoteAbort_kept h ..
  · exact keep h fun h => State.wr_same h ..
  · exact keep h fun h => State.streamRelay_same h ..
  · exact keep h fun h => State.streamResult_same h ..
  · exact keep h fun h => State.streamLeave_same h ..

theorem State.regFrame_kept {q} (h0' : Kept q s0') (a1') (a2') (a3') (a4') : Kept q (State.regFrame s0' a1' a2' a3' a4') := by
  unfold State.regFrame; exact (by split; rename_i x3 s2 e0; have h1 : Kept q s2 := .snd e0 (keep h0' fun h => State.rxSeq_same h ..); exact (.ite (keep (State.regBody_kept h1 ..) fun h => State.sendAck_same h ..) h1))
theorem State.registerWrite_kept {q} (h0' : Kept q s0') (a1') (a2') (a3') : Kept q (State.registerWrite s0' a1' a2' a3') := by
  unfold State.registerWrite; exact (.ite h0' (.ite (keep h0' fun h => State.tunnelWrite_same h ..) (State.regWrite_kept h0' ..)))

end Sys2Proof.Machine
end

