-- ==== Sys2Proof/Laws/KeepCommands.lean ====
section
/-! SUPPORT. What each command keeps: the queue, the memory or its canonical form, a legal time of day. -/
namespace Sys2Proof.Machine
open Sys2Proof
set_option Elab.async false

theorem execDeferredCmdEvaluation_kept {q s} (h : Kept q s) : OutKept q (execDeferredCmdEvaluation s) :=
  .next (State.deferredEval_kept h ..)
theorem execEnterPerformance_same {q m s} (h : Same q m s) : OutSame q m (execEnterPerformance s) :=
  .next (State.enterPerformance_same h ..)
theorem execPauseComplete_same {q m s} (h : Same q m s) : OutSame q m (execPauseComplete s) :=
  .next (State.pauseDone_same h ..)
theorem execStateParity_same {q m s} (h : Same q m s) : OutSame q m (execStateParity s) :=
  .next (State.stateParity_same h ..)
theorem execSysCmdPause_same {q m s} (h : Same q m s) : OutSame q m (execSysCmdPause s) :=
  .next (State.sysCmd_same h ..)
theorem execSysCmdReservedCode_same {q m s} (h : Same q m s) (a0') : OutSame q m (execSysCmdReservedCode a0' s) :=
  .next (State.sysCmd_same h ..)
theorem execSysCmdResume_same {q m s} (h : Same q m s) : OutSame q m (execSysCmdResume s) :=
  .next (State.sysCmd_same h ..)
theorem execSysCmdStart_same {q m s} (h : Same q m s) : OutSame q m (execSysCmdStart s) :=
  .next (State.sysCmd_same h ..)
theorem execSysCmdStop_same {q m s} (h : Same q m s) : OutSame q m (execSysCmdStop s) :=
  .next (State.sysCmd_same h ..)
theorem execBgcalCycleDone_same {q m s} (h : Same q m s) (a0') (a1') : OutSame q m (execBgcalCycleDone a0' a1' s) :=
  .next (State.bgcalDone_same h ..)
theorem execClipCntClr_same {q m s} (h : Same q m s) (a0') : OutSame q m (execClipCntClr a0' s) :=
  .next (State.cvCntClr_same h ..)
theorem execClippingEpisodeEnd_same {q m s} (h : Same q m s) (a0') : OutSame q m (execClippingEpisodeEnd a0' s) :=
  .next (State.clipEnd_same h ..)
theorem execClippingEpisodeStart_same {q m s} (h : Same q m s) (a0') : OutSame q m (execClippingEpisodeStart a0' s) :=
  .next (State.clipStart_same h ..)
theorem execConvCalComplete_same {q m s} (h : Same q m s) (a0') (a1') : OutSame q m (execConvCalComplete a0' a1' s) :=
  .next (State.convCalDone_same h ..)
theorem execConverterDisable_kept {q s} (h : Kept q s) (a0') (a1') : OutKept q (execConverterDisable a0' a1' s) :=
  .next (State.byHost_kept h (fun _ h0 => (State.writeCv_kept h0 ..)) ..)
theorem execConverterParityError_same {q m s} (h : Same q m s) (a0') : OutSame q m (execConverterParityError a0' s) :=
  .next (State.cvParity_same h ..)
theorem execConvrxEnable_kept {q s} (h : Kept q s) (a0') (a1') : OutKept q (execConvrxEnable a0' a1' s) :=
  .next (State.byHost_kept h (fun _ h0 => (State.writeCv_kept h0 ..)) ..)
theorem execConvtxEnable_kept {q s} (h : Kept q s) (a0') (a1') : OutKept q (execConvtxEnable a0' a1' s) :=
  .next (State.byHost_kept h (fun _ h0 => (State.writeCv_kept h0 ..)) ..)
theorem execOverRangeEpisodeEnd_same {q m s} (h : Same q m s) (a0') : OutSame q m (execOverRangeEpisodeEnd a0' s) :=
  .next (State.overEnd_same h ..)
theorem execOverRangeEpisodeStart_same {q m s} (h : Same q m s) (a0') : OutSame q m (execOverRangeEpisodeStart a0' s) :=
  .next (State.overStart_same h ..)
theorem execOvrCntClr_same {q m s} (h : Same q m s) (a0') : OutSame q m (execOvrCntClr a0' s) :=
  .next (State.cvCntClr_same h ..)
theorem execSuspectMarkEnd_same {q m s} (h : Same q m s) (a0') : OutSame q m (execSuspectMarkEnd a0' s) :=
  .next (State.suspectEnd_same h ..)
theorem execChfRomRead_same {q m s} (h : Same q m s) (a0') (a1') : OutSame q m (execChfRomRead a0' a1' s) :=
  .next (State.byHost_same h (fun _ h0 => (State.chfRead_same h0 ..)) ..)
theorem execChfRomUncorr_same {q m s} (h : Same q m s) (a0') : OutSame q m (execChfRomUncorr a0' s) :=
  .next (State.chfUncorr_same h ..)
theorem execLaneCfgShadowWrite_kept {q s} (h : Kept q s) (a0') (a1') (a2') : OutKept q (execLaneCfgShadowWrite a0' a1' a2' s) :=
  .next (State.byHost_kept h (fun _ h0 => (State.writeLaneWord_kept h0 ..)) ..)
theorem execLaneDisable_kept {q s} (h : Kept q s) (a0') (a1') : OutKept q (execLaneDisable a0' a1' s) :=
  .next (State.byHost_kept h (fun _ h0 => (State.writeLaneCfg_kept h0 ..)) ..)
theorem execLaneEnable_kept {q s} (h : Kept q s) (a0') (a1') : OutKept q (execLaneEnable a0' a1' s) :=
  .next (State.byHost_kept h (fun _ h0 => (State.writeLaneCfg_kept h0 ..)) ..)
theorem execLaneSample_kept {q s} (h : Kept q s) (a0') (a1') (a2') (a3') : OutKept q (execLaneSample a0' a1' a2' a3' s) :=
  .next (State.laneSample_kept h ..)
theorem execLaneStart_same {q m s} (h : Same q m s) (a0') : OutSame q m (execLaneStart a0' s) :=
  .next (State.laneStart_same h ..)
theorem execRsmDelayApply_same {q m s} (h : Same q m s) (a0') : OutSame q m (execRsmDelayApply a0' s) :=
  .next (State.delayApply_same h ..)
theorem execRsmDelayWrite_same {q m s} (h : Same q m s) (a0') (a1') : OutSame q m (execRsmDelayWrite a0' a1' s) :=
  .next (State.byHost_same h (fun _ h0 => (State.writeDelay_same h0 ..)) ..)
theorem execRsmFault_same {q m s} (h : Same q m s) (a0') (a1') (a2') (a3') : OutSame q m (execRsmFault a0' a1' a2' a3' s) :=
  .next (State.rsmFault_same h ..)
theorem execClusterPositionWrite_kept {q s} (h : Kept q s) (a0') : OutKept q (execClusterPositionWrite a0' s) :=
  .next (State.byHost_kept h (fun _ h0 => (State.writePos_kept h0 ..)) ..)
theorem execCnxCeilRiseWrite_same {q m s} (h : Same q m s) (a0') : OutSame q m (execCnxCeilRiseWrite a0' s) :=
  .next (State.byHost_same h (fun _ h0 => (State.writeRise_same h0 ..)) ..)
theorem execCnxMarginWrite_same {q m s} (h : Same q m s) (a0') : OutSame q m (execCnxMarginWrite a0' s) :=
  .next (State.byHost_same h (fun _ h0 => (State.writeMargin_same h0 ..)) ..)
theorem execEstimateBlock_kept {q s} (h : Kept q s) (a0') : OutKept q (execEstimateBlock a0' s) :=
  .next (State.estimateBlock_kept h ..)
theorem execOldClusterRetire_kept {q s} (h : Kept q s) (a0') : OutKept q (execOldClusterRetire a0' s) :=
  .next (State.retireOld_kept h ..)
theorem execPathDisable_kept {q s} (h : Kept q s) (a0') (a1') : OutKept q (execPathDisable a0' a1' s) :=
  .next (State.byHost_kept h (fun _ h0 => (State.writePathCfg_kept h0 ..)) ..)
theorem execPathEnable_kept {q s} (h : Kept q s) (a0') (a1') : OutKept q (execPathEnable a0' a1' s) :=
  .next (State.byHost_kept h (fun _ h0 => (State.writePathCfg_kept h0 ..)) ..)
theorem execPathSubtractionStart_same {q m s} (h : Same q m s) (a0') : OutSame q m (execPathSubtractionStart a0' s) :=
  .next (State.pathStart_same h ..)
theorem execProbeIntegrationEnd_same {q m s} (h : Same q m s) (a0') : OutSame q m (execProbeIntegrationEnd a0' s) :=
  .next (State.probeEnd_same h ..)
theorem execSearchComplete_kept {q s} (h : Kept q s) : OutKept q (execSearchComplete s) :=
  .next (State.searchDone_kept h ..)
theorem execSearchGo_same {q m s} (h : Same q m s) (a0') : OutSame q m (execSearchGo a0' s) :=
  .next (State.byHost_same h (fun _ h0 => (State.writeSlnCtl_same h0 ..)) ..)
theorem execSearchStart_same {q m s} (h : Same q m s) : OutSame q m (execSearchStart s) :=
  .next (State.searchStart_same h ..)
theorem execSlnParityError_same {q m s} (h : Same q m s) : OutSame q m (execSlnParityError s) :=
  .next (State.slnParity_same h ..)
theorem execStreamDisable_same {q m s} (h : Same q m s) (a0') (a1') : OutSame q m (execStreamDisable a0' a1' s) :=
  .next (State.byHost_same h (fun _ h0 => (State.writeStx_same h0 ..)) ..)
theorem execStreamEnable_same {q m s} (h : Same q m s) (a0') (a1') : OutSame q m (execStreamEnable a0' a1' s) :=
  .next (State.byHost_same h (fun _ h0 => (State.writeStx_same h0 ..)) ..)
theorem execStreamFrameReceived_same {q m s} (h : Same q m s) (a0') : OutSame q m (execStreamFrameReceived a0' s) :=
  .next (State.streamFrame_same h ..)
theorem execStreamLost_same {q m s} (h : Same q m s) (a0') : OutSame q m (execStreamLost a0' s) :=
  .next (State.streamLost_same h ..)
theorem execStreamReservationResult_same {q m s} (h : Same q m s) (a0') (a1') (a2') : OutSame q m (execStreamReservationResult a0' a1' a2' s) :=
  .next (State.streamResult_same h ..)
theorem execStreamRestored_same {q m s} (h : Same q m s) (a0') : OutSame q m (execStreamRestored a0' s) :=
  .next (State.streamBack_same h ..)
theorem execStreamRxEnable_same {q m s} (h : Same q m s) (a0') (a1') : OutSame q m (execStreamRxEnable a0' a1' s) :=
  .next (State.byHost_same h (fun _ h0 => (State.writeSrx_same h0 ..)) ..)
theorem execTapCountSnapshot_same {q m s} (h : Same q m s) : OutSame q m (execTapCountSnapshot s) :=
  .next (State.byHost_same h (fun _ h0 => (State.tapSnap_same h0 ..)) ..)
theorem execTapMemoryUncorr_kept {q s} (h : Kept q s) (a0') : OutKept q (execTapMemoryUncorr a0' s) :=
  .next (State.tapUncorr_kept h ..)
theorem execTapUpdate_kept {q s} (h : Kept q s) (a0') (a1') : OutKept q (execTapUpdate a0' a1' s) :=
  .next (State.tapUpdate_kept h ..)
theorem execTapWrite_kept {q s} (h : Kept q s) (a0') (a1') (a2') : OutKept q (execTapWrite a0' a1' a2' s) :=
  .next (State.byHost_kept h (fun _ h0 => (State.writeTap_kept h0 ..)) ..)
theorem execContextCtlWrite_same {q m s} (h : Same q m s) (a0') (a1') (a2') : OutSame q m (execContextCtlWrite a0' a1' a2' s) :=
  .next (State.byHost_same h (fun _ h0 => (State.writeCtx_same h0 ..)) ..)
theorem execContextMemoryUncorr_same {q m s} (h : Same q m s) (a0') (a1') : OutSame q m (execContextMemoryUncorr a0' a1' s) :=
  .next (State.ctxUncorr_same h ..)
theorem execContextSnapshotDone_same {q m s} (h : Same q m s) (a0') : OutSame q m (execContextSnapshotDone a0' s) :=
  .next (State.ctxSnapDone_same h ..)
theorem execContextSnapshotGo_same {q m s} (h : Same q m s) (a0') (a1') : OutSame q m (execContextSnapshotGo a0' a1' s) :=
  .next (State.byHost_same h (fun _ h0 => (State.writeCtxSnap_same h0 ..)) ..)
theorem execContextStuck_same {q m s} (h : Same q m s) (a0') : OutSame q m (execContextStuck a0' s) :=
  .next (State.ctxStuck_same h ..)
theorem execDecisionWindowClose_same {q m s} (h : Same q m s) (a0') (a1') : OutSame q m (execDecisionWindowClose a0' a1' s) :=
  .next (State.windowClose_same h ..)
theorem execMeasArm_same {q m s} (h : Same q m s) (a0') (a1') : OutSame q m (execMeasArm a0' a1' s) :=
  .next (State.byHost_same h (fun _ h0 => (State.writeSptCfg_same h0 ..)) ..)
theorem execSptArm_same {q m s} (h : Same q m s) (a0') (a1') : OutSame q m (execSptArm a0' a1' s) :=
  .next (State.byHost_same h (fun _ h0 => (State.writeSptCfg_same h0 ..)) ..)
theorem execSptDisarm_same {q m s} (h : Same q m s) (a0') (a1') : OutSame q m (execSptDisarm a0' a1' s) :=
  .next (State.byHost_same h (fun _ h0 => (State.writeSptCfg_same h0 ..)) ..)
theorem execAttnGo_same {q m s} (h : Same q m s) (a0') : OutSame q m (execAttnGo a0' s) :=
  .next (State.byHost_same h (fun _ h0 => (State.writeAttnCtl_same h0 ..)) ..)
theorem execAttnLatch_same {q m s} (h : Same q m s) (a0') : OutSame q m (execAttnLatch a0' s) :=
  .next (State.attnLatch_same h ..)
theorem execAttnShiftDone_same {q m s} (h : Same q m s) (a0') : OutSame q m (execAttnShiftDone a0' s) :=
  .next (State.attnShifted_same h ..)
theorem execFrameBoundary_same {q m s} (h : Same q m s) : OutSame q m (execFrameBoundary s) :=
  .next (State.frameBoundary_same h ..)
theorem execPaSettleExpiry_same {q m s} (h : Same q m s) (a0') : OutSame q m (execPaSettleExpiry a0' s) :=
  .next (State.paSettled_same h ..)
theorem execPortCmdOff_same {q m s} (h : Same q m s) (a0') (a1') : OutSame q m (execPortCmdOff a0' a1' s) :=
  .next (State.byHost_same h (fun _ h0 => (State.writePortCfg_same h0 ..)) ..)
theorem execPortCmdRx_same {q m s} (h : Same q m s) (a0') (a1') : OutSame q m (execPortCmdRx a0' a1' s) :=
  .next (State.byHost_same h (fun _ h0 => (State.writePortCfg_same h0 ..)) ..)
theorem execPortCmdTx_same {q m s} (h : Same q m s) (a0') (a1') : OutSame q m (execPortCmdTx a0' a1' s) :=
  .next (State.byHost_same h (fun _ h0 => (State.writePortCfg_same h0 ..)) ..)
theorem execPortUseEnd_same {q m s} (h : Same q m s) (a0') (a1') : OutSame q m (execPortUseEnd a0' a1' s) :=
  .next (State.portUseEnd_same h ..)
theorem execPortUseStart_same {q m s} (h : Same q m s) (a0') : OutSame q m (execPortUseStart a0' s) :=
  .next (State.portUseStart_same h ..)
theorem execPresenceLossTimeout_same {q m s} (h : Same q m s) (a0') : OutSame q m (execPresenceLossTimeout a0' s) :=
  .next (State.lossTimeout_same h ..)
theorem execRefInFail_same {q m s} (h : Same q m s) : OutSame q m (execRefInFail s) :=
  .next (State.refFail_same h ..)
theorem execRefInRecovered_kept {q s} (h : Kept q s) : OutKept q (execRefInRecovered s) :=
  .next (State.refBack_kept h ..)
theorem execRfcLineMismatch_same {q m s} (h : Same q m s) (a0') (a1') : OutSame q m (execRfcLineMismatch a0' a1' s) :=
  .next (State.lineMismatch_same h ..)
theorem execTurnRoundComplete_same {q m s} (h : Same q m s) (a0') : OutSame q m (execTurnRoundComplete a0' s) :=
  .next (State.turnDone_same h ..)
theorem execTurnRoundLineEvent_same {q m s} (h : Same q m s) (a0') : OutSame q m (execTurnRoundLineEvent a0' s) :=
  .next (State.turnEvent_same h ..)
theorem execTxTimeoutTdd_same {q m s} (h : Same q m s) (a0') : OutSame q m (execTxTimeoutTdd a0' s) :=
  .next (State.tddTimeout_same h ..)
theorem execBlockRefresh_same {q m s} (h : Same q m s) (a0') (a1') (a2') (a3') : OutSame q m (execBlockRefresh a0' a1' a2' a3' s) :=
  .next (State.medium_same h ..)
theorem execBlockRetire_same {q m s} (h : Same q m s) (a0') (a1') (a2') (a3') (a4') (a5') (a6') : OutSame q m (execBlockRetire a0' a1' a2' a3' a4' a5' a6' s) :=
  .next (State.blockRetire_same h ..)
theorem execCeBusyTimeout_same {q m s} (h : Same q m s) : OutSame q m (execCeBusyTimeout s) :=
  .next (State.ceBusy_same h ..)
theorem execCodewordUncorrectable_same {q m s} (h : Same q m s) (a0') (a1') (a2') : OutSame q m (execCodewordUncorrectable a0' a1' a2' s) :=
  .next (State.codewordRead_same h ..)
theorem execFormatDone_same {q m s} (h : Same q m s) (a0') : OutSame q m (execFormatDone a0' s) :=
  .next (State.formatDone_same h ..)
theorem execFormatGo_same {q m s} (h : Same q m s) : OutSame q m (execFormatGo s) :=
  .next (State.byHost_same h (fun _ h0 => (State.formatGo_same h0 ..)) ..)
theorem execHistoryIntervalBoundary_same {q m s} (h : Same q m s) (a0') : OutSame q m (execHistoryIntervalBoundary a0' s) :=
  .next (State.serve_same (State.histBoundary_same h ..) ..)
theorem execReshape_same {q m s} (h : Same q m s) : OutSame q m (execReshape s) :=
  .next (State.byHost_same h (fun _ h0 => (State.formatStart_same h0 ..)) ..)
theorem execScrubPassComplete_same {q m s} (h : Same q m s) : OutSame q m (execScrubPassComplete s) :=
  .next (State.medium_same h ..)
theorem execSnapshotArm_same {q m s} (h : Same q m s) (a0') : OutSame q m (execSnapshotArm a0' s) :=
  .next (State.byHost_same h (fun _ h0 => (State.writeCapCfg_same h0 ..)) ..)
theorem execSnapshotFillComplete_same {q m s} (h : Same q m s) : OutSame q m (execSnapshotFillComplete s) :=
  .next (State.snapFill_same h ..)
theorem execSnapshotHostTrigger_same {q m s} (h : Same q m s) : OutSame q m (execSnapshotHostTrigger s) :=
  .next (State.byHost_same h (fun _ h0 => (State.snapTrig_same h0 ..)) ..)
theorem execSnapshotStored_same {q m s} (h : Same q m s) : OutSame q m (execSnapshotStored s) :=
  .next (State.medium_same h ..)
theorem execSnapshotTrigger_same {q m s} (h : Same q m s) (a0') : OutSame q m (execSnapshotTrigger a0' s) :=
  .next (State.snapTrig_same h ..)
theorem execStorageReady_same {q m s} (h : Same q m s) (a0') : OutSame q m (execStorageReady a0' s) :=
  .next (State.storageReady_same h ..)
theorem execWearCheckpoint_same {q m s} (h : Same q m s) : OutSame q m (execWearCheckpoint s) :=
  .next (State.wearCheckpoint_same h ..)
theorem execEmissionDetected_same {q m s} (h : Same q m s) (a0') (a1') : OutSame q m (execEmissionDetected a0' a1' s) :=
  .next (State.emission_same h ..)
theorem execOscillationGrowth_same {q m s} (h : Same q m s) (a0') : OutSame q m (execOscillationGrowth a0' s) :=
  .next (State.oscGrowth_same h ..)
theorem execOscillationLine_same {q m s} (h : Same q m s) (a0') : OutSame q m (execOscillationLine a0' s) :=
  .next (State.oscLine_same h ..)
theorem execOverdriveDetected_same {q m s} (h : Same q m s) (a0') : OutSame q m (execOverdriveDetected a0' s) :=
  .next (State.overdrive_same h ..)
theorem execBackoffEnd_same {q m s} (h : Same q m s) (a0') : OutSame q m (execBackoffEnd a0' s) :=
  .next (State.backoffEnd_same h ..)
theorem execClearLiftHistory_same {q m s} (h : Same q m s) (a0') : OutSame q m (execClearLiftHistory a0' s) :=
  .next (State.byHost_same h (fun _ h0 => (State.curRelease_same h0 ..)) ..)
theorem execCurtainComplete_same {q m s} (h : Same q m s) (a0') : OutSame q m (execCurtainComplete a0' s) :=
  .next (State.curtainComplete_same h ..)
theorem execCurtainRelease_same {q m s} (h : Same q m s) (a0') : OutSame q m (execCurtainRelease a0' s) :=
  .next (State.byHost_same h (fun _ h0 => (State.curRelease_same h0 ..)) ..)
theorem execLiftComplete_same {q m s} (h : Same q m s) (a0') : OutSame q m (execLiftComplete a0' s) :=
  .next (State.liftComplete_same h ..)
theorem execLiftStart_same {q m s} (h : Same q m s) (a0') : OutSame q m (execLiftStart a0' s) :=
  .next (State.liftStart_same h ..)
theorem execPortQuietPeriodEnd_same {q m s} (h : Same q m s) (a0') (a1') : OutSame q m (execPortQuietPeriodEnd a0' a1' s) :=
  .next (State.portQuietEnd_same h ..)
theorem execRemoteShutdown_same {q m s} (h : Same q m s) (a0') : OutSame q m (execRemoteShutdown a0' s) :=
  .next (State.byHost_same h (fun _ h0 => (State.writeCurHost_same h0 ..)) ..)
theorem execRemoteShutdownClear_same {q m s} (h : Same q m s) (a0') : OutSame q m (execRemoteShutdownClear a0' s) :=
  .next (State.byHost_same h (fun _ h0 => (State.writeCurHost_same h0 ..)) ..)
theorem execArcDelayMeasurement_same {q m s} (h : Same q m s) : OutSame q m (execArcDelayMeasurement s) :=
  .next (State.arcDelay_same h ..)
theorem execCalendarSetApply_same {q m s} (h : Same q m s) : OutSame q m (execCalendarSetApply s) :=
  .next (State.calApply_same h ..)
theorem execCalendarSetGo_same {q m s} (h : Same q m s) : OutSame q m (execCalendarSetGo s) :=
  .next (State.byHost_same h (fun _ h0 => (State.calGo_same h0 ..)) ..)
theorem execDelayAnswerReceived_same {q m s} (h : Same q m s) (a0') (a1') (a2') (a3') (a4') : OutSame q m (execDelayAnswerReceived a0' a1' a2' a3' a4' s) :=
  .next (State.delayAnswer_same h ..)
theorem execDelayRequestReceived_same {q m s} (h : Same q m s) (a0') (a1') : OutSame q m (execDelayRequestReceived a0' a1' s) :=
  .next (State.delayRequest_same h ..)
theorem execDetectorLost_same {q m s} (h : Same q m s) (a0') : OutSame q m (execDetectorLost a0' s) :=
  .next (State.detLost_same h ..)
theorem execHoldoverEvaluation_same {q m s} (h : Same q m s) : OutSame q m (execHoldoverEvaluation s) :=
  .next (State.holdEval_same h ..)
theorem execKvMeasurementDone_same {q m s} (h : Same q m s) (a0') : OutSame q m (execKvMeasurementDone a0' s) :=
  .next (State.kvDone_same h ..)
theorem execPpsInEdge_same {q m s} (h : Same q m s) (a0') : OutSame q m (execPpsInEdge a0' s) :=
  .next (State.ppsIn_same h ..)
theorem execPpsOutPulse_same {q m s} (h : Same q m s) : OutSame q m (execPpsOutPulse s) :=
  .next (State.ppsOut_same h ..)
theorem execRealign_same {q m s} (h : Same q m s) : OutSame q m (execRealign s) :=
  .next (State.byHost_same h (fun _ h0 => (State.realignGo_same h0 ..)) ..)
theorem execReferenceReturn_same {q m s} (h : Same q m s) : OutSame q m (execReferenceReturn s) :=
  .next (State.refReturn_same h ..)
theorem execSyncDetection_same {q m s} (h : Same q m s) (a0') (a1') (a2') (a3') (a4') : OutSame q m (execSyncDetection a0' a1' a2' a3' a4' s) :=
  .next (State.syncDetect_same h ..)
theorem execTimeDetectorEnable_same {q m s} (h : Same q m s) (a0') (a1') : OutSame q m (execTimeDetectorEnable a0' a1' s) :=
  .next (State.byHost_same h (fun _ h0 => (State.writeDet_same h0 ..)) ..)
theorem execTimeLocked_same {q m s} (h : Same q m s) : OutSame q m (execTimeLocked s) :=
  .next (State.timeLocked_same h ..)
theorem execTimeMessageReceived_same {q m s} (h : Same q m s) (a0') : OutSame q m (execTimeMessageReceived a0' s) :=
  .next (State.timeMessage_same h ..)
theorem execTimeMessageSend_same {q m s} (h : Same q m s) : OutSame q m (execTimeMessageSend s) :=
  .next (State.timeSend_same h ..)
theorem execTimeSnapshot_same {q m s} (h : Same q m s) : OutSame q m (execTimeSnapshot s) :=
  .next (State.byHost_same h (fun _ h0 => (State.timeSnap_same h0 ..)) ..)
theorem execUnderstudyTakeover_same {q m s} (h : Same q m s) (a0') : OutSame q m (execUnderstudyTakeover a0' s) :=
  .next (State.takeover_same h ..)
theorem execUsReady_same {q m s} (h : Same q m s) : OutSame q m (execUsReady s) :=
  .next (State.usReady_same h ..)
theorem execTddBankEccError_same {q m s} (h : Same q m s) (a0') : OutSame q m (execTddBankEccError a0' s) :=
  .next (State.bankEcc_same h ..)
theorem execTddSwap_same {q m s} (h : Same q m s) (a0') : OutSame q m (execTddSwap a0' s) :=
  .next (State.byHost_same h (fun _ h0 => (State.writeTddCtl_same h0 ..)) ..)
theorem execTddSwapApply_same {q m s} (h : Same q m s) (a0') : OutSame q m (execTddSwapApply a0' s) :=
  .next (State.swapApply_same h ..)
theorem execSynCalComplete_same {q m s} (h : Same q m s) (a0') (a1') : OutSame q m (execSynCalComplete a0' a1' s) :=
  .next (State.synCalDone_same h ..)
theorem execSynGoA_same {q m s} (h : Same q m s) : OutSame q m (execSynGoA s) :=
  .next (State.byHost_same h (fun _ h0 => (State.synGo_same h0 ..)) ..)
theorem execSynGoB_same {q m s} (h : Same q m s) : OutSame q m (execSynGoB s) :=
  .next (State.byHost_same h (fun _ h0 => (State.synGo_same h0 ..)) ..)
theorem execSynLock_same {q m s} (h : Same q m s) (a0') (a1') : OutSame q m (execSynLock a0' a1' s) :=
  .next (State.synLock_same h ..)
theorem execSynLossOfLock_kept {q s} (h : Kept q s) (a0') : OutKept q (execSynLossOfLock a0' s) :=
  .next (State.synLost_kept h ..)
theorem execSynReady_same {q m s} (h : Same q m s) (a0') : OutSame q m (execSynReady a0' s) :=
  .next (State.synReady_same h ..)
theorem execCoexGntInFall_same {q m s} (h : Same q m s) : OutSame q m (execCoexGntInFall s) :=
  .next (State.coexGntFall_same h ..)
theorem execCoexGntInRise_same {q m s} (h : Same q m s) : OutSame q m (execCoexGntInRise s) :=
  .next (State.coexGntRise_same h ..)
theorem execCoexGrantOut_same {q m s} (h : Same q m s) : OutSame q m (execCoexGrantOut s) :=
  .next (State.coexGntOut_same h ..)
theorem execCoexMaxHoldExpiry_same {q m s} (h : Same q m s) : OutSame q m (execCoexMaxHoldExpiry s) :=
  .next (State.coexMaxHold_same h ..)
theorem execCoexReqInFall_same {q m s} (h : Same q m s) : OutSame q m (execCoexReqInFall s) :=
  .next (State.coexReqFall_same h ..)
theorem execCoexReqInRise_same {q m s} (h : Same q m s) (a0') : OutSame q m (execCoexReqInRise a0' s) :=
  .next (State.coexReqRise_same h ..)
theorem execCoexReqOutRaise_same {q m s} (h : Same q m s) (a0') : OutSame q m (execCoexReqOutRaise a0' s) :=
  .next (State.coexReqOut_same h ..)
theorem execCaptureArm_same {q m s} (h : Same q m s) (a0') : OutSame q m (execCaptureArm a0' s) :=
  .next (State.byHost_same h (fun _ h0 => (State.writeCteCap_same h0 ..)) ..)
theorem execCaptureTrig_same {q m s} (h : Same q m s) : OutSame q m (execCaptureTrig s) :=
  .next (State.byHost_same h (fun _ h0 => (State.writeInjCtl_same h0 ..)) ..)
theorem execCteCapUncorr_kept {q s} (h : Kept q s) (a0') : OutKept q (execCteCapUncorr a0' s) :=
  .next (State.cteCapMem_kept h ..)
theorem execCteMemUncorr_kept {q s} (h : Kept q s) (a0') : OutKept q (execCteMemUncorr a0' s) :=
  .next (State.cteMem_kept h ..)
theorem execCue_kept {q s} (h : Kept q s) (a0') (a1') : OutKept q (execCue a0' a1' s) :=
  .next (State.byHost_kept h (fun _ h0 => (State.writeLpCfg_kept h0 ..)) ..)
theorem execCueGroup_kept {q s} (h : Kept q s) (a0') : OutKept q (execCueGroup a0' s) :=
  .next (State.byHost_kept h (fun _ h0 => (State.cueGroup_kept h0 ..)) ..)
theorem execInjectGo_same {q m s} (h : Same q m s) : OutSame q m (execInjectGo s) :=
  .next (State.byHost_same h (fun _ h0 => (State.writeInjCtl_same h0 ..)) ..)
theorem execInjectStop_same {q m s} (h : Same q m s) : OutSame q m (execInjectStop s) :=
  .next (State.byHost_same h (fun _ h0 => (State.writeInjCtl_same h0 ..)) ..)
theorem execLoopDisable_kept {q s} (h : Kept q s) (a0') (a1') : OutKept q (execLoopDisable a0' a1' s) :=
  .next (State.byHost_kept h (fun _ h0 => (State.loopEn_kept h0 ..)) ..)
theorem execLoopEnable_kept {q s} (h : Kept q s) (a0') (a1') : OutKept q (execLoopEnable a0' a1' s) :=
  .next (State.byHost_kept h (fun _ h0 => (State.loopEn_kept h0 ..)) ..)
theorem execLoopSampleBoundary_kept {q s} (h : Kept q s) (a0') (a1') (a2') : OutKept q (execLoopSampleBoundary a0' a1' a2' s) :=
  .next (State.loopBoundary_kept h ..)
theorem execGuardHoldoffEnd_same {q m s} (h : Same q m s) : OutSame q m (execGuardHoldoffEnd s) :=
  .next (State.holdoffDone_same h ..)
theorem execLedgerAudit_same {q m s} (h : Same q m s) (a0') : OutSame q m (execLedgerAudit a0' s) :=
  .next (State.ledgerAudit_same h ..)
theorem execLedgerClearApply_same {q m s} (h : Same q m s) : OutSame q m (execLedgerClearApply s) :=
  .next (State.clearApply_same h ..)
theorem execLedgerClearGo_same {q m s} (h : Same q m s) (a0') : OutSame q m (execLedgerClearGo a0' s) :=
  .next (State.byHost_same h (fun _ h0 => (State.writeLedgClr_same h0 ..)) ..)
theorem execLedgerSnapshotDone_same {q m s} (h : Same q m s) : OutSame q m (execLedgerSnapshotDone s) :=
  .next (State.snapDone_same h ..)
theorem execLedgerSnapshotGo_same {q m s} (h : Same q m s) (a0') : OutSame q m (execLedgerSnapshotGo a0' s) :=
  .next (State.byHost_same h (fun _ h0 => (State.writeSnap_same h0 ..)) ..)
theorem execMinClr_same {q m s} (h : Same q m s) : OutSame q m (execMinClr s) :=
  .next (State.byHost_same h (fun _ h0 => (State.minClr_same h0 ..)) ..)
theorem execSlackWindowEnd_same {q m s} (h : Same q m s) (a0') : OutSame q m (execSlackWindowEnd a0' s) :=
  .next (State.slackWindowEnd_same h ..)
theorem execWingsLoss_same {q m s} (h : Same q m s) (a0') : OutSame q m (execWingsLoss a0' s) :=
  .next (State.wingsLoss_same h ..)
theorem execWingsWarning_same {q m s} (h : Same q m s) (a0') (a1') : OutSame q m (execWingsWarning a0' a1' s) :=
  .next (State.wingsWarning_same h ..)
theorem execMigrationAbort_kept {q s} (h : Kept q s) : OutKept q (execMigrationAbort s) :=
  .next (State.byHost_kept h (fun _ h0 => (State.migHostAbort_kept h0 ..)) ..)
theorem execMigrationBoundary_same {q m s} (h : Same q m s) : OutSame q m (execMigrationBoundary s) :=
  .next (State.migBoundary_same h ..)
theorem execMigrationDeadline_kept {q s} (h : Kept q s) : OutKept q (execMigrationDeadline s) :=
  .next (State.migDeadline_kept h ..)
theorem execMigrationDone_kept {q s} (h : Kept q s) : OutKept q (execMigrationDone s) :=
  .next (State.migDone_kept h ..)
theorem execMigrationGo_kept {q s} (h : Kept q s) (a0') (a1') : OutKept q (execMigrationGo a0' a1' s) :=
  .next (State.byHost_kept h (fun _ h0 => (State.migGo_kept h0 ..)) ..)
theorem execMigrationReady_same {q m s} (h : Same q m s) : OutSame q m (execMigrationReady s) :=
  .next (State.migReady_same h ..)
theorem execMigrationWarmStart_kept {q s} (h : Kept q s) : OutKept q (execMigrationWarmStart s) :=
  .next (State.migWarm_kept h ..)
theorem execDeferredFaultNPulse_same {q m s} (h : Same q m s) : OutSame q m (execDeferredFaultNPulse s) :=
  .next (State.deferredPulse_same h ..)
theorem execFaultEpochLatch_same {q m s} (h : Same q m s) : OutSame q m (execFaultEpochLatch s) :=
  .next (State.epochLatch_same h ..)
theorem execFaultEvent_same {q m s} (h : Same q m s) (a0') (a1') (a2') : OutSame q m (execFaultEvent a0' a1' a2' s) :=
  .next (State.faultEvent_same h ..)
theorem execFaultNPulseEnd_same {q m s} (h : Same q m s) : OutSame q m (execFaultNPulseEnd s) :=
  .next (State.pulseEnd_same h ..)
theorem execFirstFaultAck_same {q m s} (h : Same q m s) : OutSame q m (execFirstFaultAck s) :=
  .next (State.byHost_same h (fun _ h0 => (State.ackFirst_same h0 ..)) ..)
theorem execForceCause_same {q m s} (h : Same q m s) (a0') (a1') : OutSame q m (execForceCause a0' a1' s) :=
  .next (State.byHost_same h (fun _ h0 => (State.forceCause_same h0 ..)) ..)
theorem execForceSource_same {q m s} (h : Same q m s) (a0') (a1') : OutSame q m (execForceSource a0' a1' s) :=
  .next (State.byHost_same h (fun _ h0 => (State.forceSource_same h0 ..)) ..)
theorem execHostClear_same {q m s} (h : Same q m s) (a0') (a1') : OutSame q m (execHostClear a0' a1' s) :=
  .next (State.byHost_same h (fun _ h0 => (State.hostClear_same h0 ..)) ..)
theorem execSeverityWrite_same {q m s} (h : Same q m s) (a0') (a1') : OutSame q m (execSeverityWrite a0' a1' s) :=
  .next (State.byHost_same h (fun _ h0 => (State.writeSev_same h0 ..)) ..)
theorem execSourceRecovery_same {q m s} (h : Same q m s) (a0') : OutSame q m (execSourceRecovery a0' s) :=
  .next (State.sourceRecovery_same h ..)
theorem execFlushPeriodic_same {q m s} (h : Same q m s) : OutSame q m (execFlushPeriodic s) :=
  .next (State.flushPeriodic_same h ..)
theorem execFoldWindowExpiry_same {q m s} (h : Same q m s) : OutSame q m (execFoldWindowExpiry s) :=
  .next (State.foldEnd_same h ..)
theorem execPbCfgWrite_same {q m s} (h : Same q m s) (a0') : OutSame q m (execPbCfgWrite a0' s) :=
  .next (State.byHost_same h (fun _ h0 => (State.writePbCfg_same h0 ..)) ..)
theorem execPbReadDone_same {q m s} (h : Same q m s) : OutSame q m (execPbReadDone s) :=
  .next (State.readBook_same h ..)
theorem execPbReadGo_same {q m s} (h : Same q m s) : OutSame q m (execPbReadGo s) :=
  .next (State.byHost_same h (fun _ h0 => (State.pbReadGo_same h0 ..)) ..)
theorem execPfailAssert_same {q m s} (h : Same q m s) (a0') : OutSame q m (execPfailAssert a0' s) :=
  .next (State.pfail_same h ..)
theorem execPfailDeassert_same {q m s} (h : Same q m s) : OutSame q m (execPfailDeassert s) :=
  .next (State.pfailRise_same h ..)
theorem execRateLimitWindowEnd_same {q m s} (h : Same q m s) : OutSame q m (execRateLimitWindowEnd s) :=
  .next (State.rateEnd_same h ..)
theorem execRecordAdmittedAfterWait_same {q m s} (h : Same q m s) : OutSame q m (execRecordAdmittedAfterWait s) :=
  .next (State.letWaiting_same h ..)
theorem execRecordArrival_same {q m s} (h : Same q m s) (a0') (a1') (a2') (a3') : OutSame q m (execRecordArrival a0' a1' a2' a3' s) :=
  .next (State.recordArrival_same h ..)
theorem execRecordConfirmed_same {q m s} (h : Same q m s) (a0') : OutSame q m (execRecordConfirmed a0' s) :=
  .next (State.serve_same (State.confirm_same h ..) ..)
theorem execStagingUncorr_same {q m s} (h : Same q m s) (a0') : OutSame q m (execStagingUncorr a0' s) :=
  .next (State.stagingLost_same h ..)
theorem execVaultFlushComplete_same {q m s} (h : Same q m s) : OutSame q m (execVaultFlushComplete s) :=
  .next (State.vaultDone_same h ..)
theorem execVaultLineUncorr_same {q m s} (h : Same q m s) : OutSame q m (execVaultLineUncorr s) :=
  .next (State.vaultUncorr_same h ..)
theorem execVaultRestore_same {q m s} (h : Same q m s) : OutSame q m (execVaultRestore s) :=
  .next (State.serve_same (State.restoreStart_same h ..) ..)
theorem execVerifyDone_same {q m s} (h : Same q m s) (a0') : OutSame q m (execVerifyDone a0' s) :=
  .next (State.verifyDone_same h ..)
theorem execVerifyGo_same {q m s} (h : Same q m s) : OutSame q m (execVerifyGo s) :=
  .next (State.byHost_same h (fun _ h0 => (State.verifyGo_same h0 ..)) ..)
theorem execVerifyStop_same {q m s} (h : Same q m s) : OutSame q m (execVerifyStop s) :=
  .next (State.byHost_same h (fun _ h0 => (State.verifyStop_same h0 ..)) ..)
theorem execBadAccess_same {q m s} (h : Same q m s) (a0') (a1') (a2') : OutSame q m (execBadAccess a0' a1' a2' s) :=
  .next (State.badAccess_same h ..)
theorem execD0Return_same {q m s} (h : Same q m s) : OutSame q m (execD0Return s) :=
  .next (State.d0Return_same h ..)
theorem execD3hotEntry_same {q m s} (h : Same q m s) (a0') : OutSame q m (execD3hotEntry a0' s) :=
  .next (State.d3Enter_same h ..)
theorem execHostSleepEntry_same {q m s} (h : Same q m s) : OutSame q m (execHostSleepEntry s) :=
  .next (State.byHost_same h (fun _ h0 => (State.writeHifPm_same h0 ..)) ..)
theorem execHostSleepExit_same {q m s} (h : Same q m s) : OutSame q m (execHostSleepExit s) :=
  .next (State.byHost_same h (fun _ h0 => (State.writeHifPm_same h0 ..)) ..)
theorem execLinkDown_same {q m s} (h : Same q m s) : OutSame q m (execLinkDown s) :=
  .next (State.linkDown_same h ..)
theorem execLinkUp_same {q m s} (h : Same q m s) (a0') (a1') : OutSame q m (execLinkUp a0' a1' s) :=
  .next (State.linkUp_same h ..)
theorem execPcieErrorTlp_same {q m s} (h : Same q m s) (a0') : OutSame q m (execPcieErrorTlp a0' s) :=
  .next (State.tlpError_same h ..)
theorem execTunnelTimeout_same {q m s} (h : Same q m s) : OutSame q m (execTunnelTimeout s) :=
  .next (State.tunnelTimeout_same h ..)
theorem execTunnelledRead_kept {q s} (h : Kept q s) (a0') (a1') : OutKept q (execTunnelledRead a0' a1' s) :=
  .next (State.hostRead_kept h ..)
theorem execWinbWrite_same {q m s} (h : Same q m s) : OutSame q m (execWinbWrite s) :=
  .next (State.satInc_same h ..)
theorem execBufParity_same {q m s} (h : Same q m s) (a0') : OutSame q m (execBufParity a0' s) :=
  .next (State.bufParity_same h ..)
theorem execCqHeadWrite_same {q m s} (h : Same q m s) (a0') (a1') : OutSame q m (execCqHeadWrite a0' a1' s) :=
  .next (State.byHost_same h (fun _ h0 => (State.writeCqHead_same h0 ..)) ..)
theorem execDescComplete_same {q m s} (h : Same q m s) (a0') : OutSame q m (execDescComplete a0' s) :=
  .next (State.descComplete_same h ..)
theorem execDescFetchError_same {q m s} (h : Same q m s) (a0') : OutSame q m (execDescFetchError a0' s) :=
  .next (State.descFetch_same h ..)
theorem execDescMediumRead_same {q m s} (h : Same q m s) (a0') (a1') : OutSame q m (execDescMediumRead a0' a1' s) :=
  .next (State.serve_same (State.descBulk_same h ..) ..)
theorem execDescMemoryRead_same {q m s} (h : Same q m s) (a0') (a1') : OutSame q m (execDescMemoryRead a0' a1' s) :=
  .next (State.descBulk_same h ..)
theorem execDescNop_same {q m s} (h : Same q m s) (a0') (a1') : OutSame q m (execDescNop a0' a1' s) :=
  .next (State.descNop_same h ..)
theorem execDescRefusedKind_same {q m s} (h : Same q m s) (a0') (a1') : OutSame q m (execDescRefusedKind a0' a1' s) :=
  .next (State.descRefused_same h ..)
theorem execDescRegisterRead_kept {q s} (h : Kept q s) (a0') (a1') : OutKept q (execDescRegisterRead a0' a1' s) :=
  .next (State.descRegRead_kept h ..)
theorem execDescRegisterWrite_kept {q s} (h : Kept q s) (a0') (a1') (a2') : OutKept q (execDescRegisterWrite a0' a1' a2' s) :=
  .next (State.descRegWrite_kept h ..)
theorem execDmaDoorbell_same {q m s} (h : Same q m s) (a0') (a1') : OutSame q m (execDmaDoorbell a0' a1' s) :=
  .next (State.byHost_same h (fun _ h0 => (State.wr_same h0 ..)) ..)
theorem execModerationTimeout_same {q m s} (h : Same q m s) (a0') : OutSame q m (execModerationTimeout a0' s) :=
  .next (State.modTimeout_same h ..)
theorem execQueueDisable_same {q m s} (h : Same q m s) (a0') (a1') : OutSame q m (execQueueDisable a0' a1' s) :=
  .next (State.byHost_same h (fun _ h0 => (State.writeQCfg_same h0 ..)) ..)
theorem execQueueDrained_same {q m s} (h : Same q m s) (a0') : OutSame q m (execQueueDrained a0' s) :=
  .next (State.qDrained_same h ..)
theorem execQueueEnable_same {q m s} (h : Same q m s) (a0') (a1') : OutSame q m (execQueueEnable a0' a1' s) :=
  .next (State.byHost_same h (fun _ h0 => (State.writeQCfg_same h0 ..)) ..)
theorem execQueueReset_same {q m s} (h : Same q m s) (a0') (a1') : OutSame q m (execQueueReset a0' a1' s) :=
  .next (State.byHost_same h (fun _ h0 => (State.writeQCfg_same h0 ..)) ..)
theorem execCountSnapshot_same {q m s} (h : Same q m s) (a0') : OutSame q m (execCountSnapshot a0' s) :=
  .next (State.byHost_same h (fun _ h0 => (State.writeCntPtr_same h0 ..)) ..)
theorem execIcClaim_kept {q s} (h : Kept q s) (a0') (a1') : OutKept q (execIcClaim a0' a1' s) :=
  .next (State.claimRead_kept h ..)
theorem execIcComplete_same {q m s} (h : Same q m s) (a0') (a1') (a2') : OutSame q m (execIcComplete a0' a1' a2' s) :=
  .next (State.byHost_same h (fun _ h0 => (State.icComplete_same h0 ..)) ..)
theorem execIcStateParity_same {q m s} (h : Same q m s) (a0') : OutSame q m (execIcStateParity a0' s) :=
  .next (State.icParity_same h ..)
theorem execMsixEnable_same {q m s} (h : Same q m s) : OutSame q m (execMsixEnable s) :=
  .next (State.msixEnable_same h ..)
theorem execMsixUnmask_kept {q s} (h : Kept q s) (a0') : OutKept q (execMsixUnmask a0' s) :=
  .next (State.byHost_kept h (fun _ h0 => (State.writeVecCtl_kept h0 ..)) ..)
theorem execSourceAssertion_same {q m s} (h : Same q m s) (a0') : OutSame q m (execSourceAssertion a0' s) :=
  .next (State.sourceAssert_same h ..)
theorem execSourceConfigWrite_same {q m s} (h : Same q m s) (a0') (a1') : OutSame q m (execSourceConfigWrite a0' a1' s) :=
  .next (State.byHost_same h (fun _ h0 => (State.writeSrcCfg_same h0 ..)) ..)
theorem execTargetConfigWrite_same {q m s} (h : Same q m s) (a0') (a1') : OutSame q m (execTargetConfigWrite a0' a1' s) :=
  .next (State.byHost_same h (fun _ h0 => (State.writeTgtCfg_same h0 ..)) ..)
theorem execWakeClear_same {q m s} (h : Same q m s) (a0') : OutSame q m (execWakeClear a0' s) :=
  .next (State.byHost_same h (fun _ h0 => (State.writeWake_same h0 ..)) ..)
theorem execAckFrame_same {q m s} (h : Same q m s) (a0') (a1') (a2') (a3') (a4') (a5') (a6') : OutSame q m (execAckFrame a0' a1' a2' a3' a4' a5' a6' s) :=
  .next (State.ackFrame_same h ..)
theorem execArcDown_same {q m s} (h : Same q m s) (a0') : OutSame q m (execArcDown a0' s) :=
  .next (State.arcDown_same h ..)
theorem execBreakNoticeFrame_same {q m s} (h : Same q m s) (a0') (a1') : OutSame q m (execBreakNoticeFrame a0' a1' s) :=
  .next (State.breakNotice_same h ..)
theorem execBulkDataFrame_same {q m s} (h : Same q m s) (a0') (a1') (a2') (a3') (a4') (a5') (a6') (a7') : OutSame q m (execBulkDataFrame a0' a1' a2' a3' a4' a5' a6' a7' s) :=
  .next (State.bulkArrive_same h ..)
theorem execBulkRequestFrame_same {q m s} (h : Same q m s) (a0') (a1') (a2') (a3') (a4') : OutSame q m (execBulkRequestFrame a0' a1' a2' a3' a4' s) :=
  .next (State.serve_same (State.bulkRequest_same h ..) ..)
theorem execCensusMarker_same {q m s} (h : Same q m s) (a0') (a1') (a2') (a3') (a4') (a5') : OutSame q m (execCensusMarker a0' a1' a2' a3' a4' a5' s) :=
  .next (State.censusMarker_same h ..)
theorem execCensusMarkerSend_same {q m s} (h : Same q m s) : OutSame q m (execCensusMarkerSend s) :=
  .next (State.censusSend_same h ..)
theorem execCreditReturn_same {q m s} (h : Same q m s) (a0') (a1') (a2') : OutSame q m (execCreditReturn a0' a1' a2' s) :=
  .next (State.creditReturn_same h ..)
theorem execEnumerationComplete_same {q m s} (h : Same q m s) (a0') (a1') : OutSame q m (execEnumerationComplete a0' a1' s) :=
  .next (State.enumDone_same h ..)
theorem execEnumerationFrame_same {q m s} (h : Same q m s) (a0') (a1') (a2') (a3') : OutSame q m (execEnumerationFrame a0' a1' a2' a3' s) :=
  .next (State.enumFrame_same h ..)
theorem execEnumerationStart_same {q m s} (h : Same q m s) : OutSame q m (execEnumerationStart s) :=
  .next (State.enumStart_same h ..)
theorem execFrameCrcFail_same {q m s} (h : Same q m s) (a0') (a1') : OutSame q m (execFrameCrcFail a0' a1' s) :=
  .next (State.frameCrc_same h ..)
theorem execHeaderCrcFail_same {q m s} (h : Same q m s) (a0') : OutSame q m (execHeaderCrcFail a0' s) :=
  .next (State.headerCrc_same h ..)
theorem execNakFrame_same {q m s} (h : Same q m s) (a0') (a1') (a2') : OutSame q m (execNakFrame a0' a1' a2' s) :=
  .next (State.replay_same (State.took_same h ..) ..)
theorem execNoVertexTimeout_same {q m s} (h : Same q m s) : OutSame q m (execNoVertexTimeout s) :=
  .next (State.noVertex_same h ..)
theorem execPortRetrain_same {q m s} (h : Same q m s) (a0') : OutSame q m (execPortRetrain a0' s) :=
  .next (State.retrain_same h ..)
theorem execReadAnswerFrame_same {q m s} (h : Same q m s) (a0') (a1') (a2') (a3') : OutSame q m (execReadAnswerFrame a0' a1' a2' a3' s) :=
  .next (State.readAnswer_same (State.took_same h ..) ..)
theorem execRegisterReadFrame_kept {q s} (h : Kept q s) (a0') (a1') (a2') (a3') : OutKept q (execRegisterReadFrame a0' a1' a2' a3' s) :=
  .next (State.readFrame_kept h ..)
theorem execRegisterWriteFrame_kept {q s} (h : Kept q s) (a0') (a1') (a2') (a3') : OutKept q (execRegisterWriteFrame a0' a1' a2' a3' s) :=
  .next (State.regFrame_kept h ..)
theorem execReplayTimeout_same {q m s} (h : Same q m s) (a0') (a1') : OutSame q m (execReplayTimeout a0' a1' s) :=
  .next (State.replayTimeout_same h ..)
theorem execRingLaneLockLoss_same {q m s} (h : Same q m s) (a0') (a1') : OutSame q m (execRingLaneLockLoss a0' a1' s) :=
  .next (State.lockLoss_same h ..)
theorem execRingResetGo_same {q m s} (h : Same q m s) (a0') (a1') : OutSame q m (execRingResetGo a0' a1' s) :=
  .next (State.byHost_same h (fun _ h0 => (State.ringResetGo_same (State.wr_same (State.wr_same h0 ..) ..) ..)) ..)
theorem execRingRestore_same {q m s} (h : Same q m s) (a0') : OutSame q m (execRingRestore a0' s) :=
  .next (State.ringRestore_same h ..)
theorem execRingTrainingDone_same {q m s} (h : Same q m s) (a0') (a1') (a2') : OutSame q m (execRingTrainingDone a0' a1' a2' s) :=
  .next (State.trained_same h ..)
theorem execRouteCommandFrame_same {q m s} (h : Same q m s) (a0') : OutSame q m (execRouteCommandFrame a0' s) :=
  .next (State.routeCommand_same h ..)
theorem execSingleTimeout_same {q m s} (h : Same q m s) : OutSame q m (execSingleTimeout s) :=
  .next (State.singleTimeout_same h ..)
theorem execSplit_same {q m s} (h : Same q m s) (a0') : OutSame q m (execSplit a0' s) :=
  .next (State.split_same h ..)
theorem execStatusFrame_same {q m s} (h : Same q m s) (a0') (a1') (a2') (a3') (a4') : OutSame q m (execStatusFrame a0' a1' a2' a3' a4' s) :=
  .next (State.statusFrame_same h ..)
theorem execStatusFrameSend_same {q m s} (h : Same q m s) : OutSame q m (execStatusFrameSend s) :=
  .next (State.statusSend_same h ..)
theorem execTunnelWriteReleased_same {q m s} (h : Same q m s) (a0') : OutSame q m (execTunnelWriteReleased a0' s) :=
  .next (State.tunnelRelease_same h ..)
theorem execBdacStep_same {q m s} (h : Same q m s) : OutSame q m (execBdacStep s) :=
  .next (State.bdacStep_same h ..)
theorem execHkConversionEnd_kept {q s} (h : Kept q s) (a0') (a1') : OutKept q (execHkConversionEnd a0' a1' s) :=
  .next (State.hkConvEnd_kept h ..)
theorem execHkFault_same {q m s} (h : Same q m s) (a0') (a1') : OutSame q m (execHkFault a0' a1' s) :=
  .next (State.hkFault_same h ..)
theorem execHkGo_same {q m s} (h : Same q m s) : OutSame q m (execHkGo s) :=
  .next (State.byHost_same h (fun _ h0 => (State.hkTrigger_same h0 ..)) ..)
theorem execHkPwmTrigger_same {q m s} (h : Same q m s) : OutSame q m (execHkPwmTrigger s) :=
  .next (State.hkPwm_same h ..)
theorem execHkScanStart_same {q m s} (h : Same q m s) : OutSame q m (execHkScanStart s) :=
  .next (State.scanStart_same h ..)
theorem execHkTimerTrigger_same {q m s} (h : Same q m s) : OutSame q m (execHkTimerTrigger s) :=
  .next (State.hkTimer_same h ..)
theorem execMaxClr_same {q m s} (h : Same q m s) : OutSame q m (execMaxClr s) :=
  .next (State.byHost_same h (fun _ h0 => (State.writeThmCtl_same h0 ..)) ..)
theorem execPwmDutyEdge_same {q m s} (h : Same q m s) (a0') : OutSame q m (execPwmDutyEdge a0' s) :=
  .next (State.pwmEdge_same h ..)
theorem execPwmMismatch_same {q m s} (h : Same q m s) (a0') (a1') : OutSame q m (execPwmMismatch a0' a1' s) :=
  .next (State.pwmFault_same h ..)
theorem execPwmPeriodStart_same {q m s} (h : Same q m s) (a0') : OutSame q m (execPwmPeriodStart a0' s) :=
  .next (State.pwmStart_same h ..)
theorem execSlowRoundRequest_same {q m s} (h : Same q m s) : OutSame q m (execSlowRoundRequest s) :=
  .next (State.slowRequest_same h ..)
theorem execThermalRestart_kept {q s} (h : Kept q s) : OutKept q (execThermalRestart s) :=
  .next (State.thermalRestart_kept h ..)
theorem execAlertResponse_same {q m s} (h : Same q m s) (a0') : OutSame q m (execAlertResponse a0' s) :=
  .next (State.alertRead_same h ..)
theorem execHostAlert_same {q m s} (h : Same q m s) : OutSame q m (execHostAlert s) :=
  .next (State.byHost_same h (fun _ h0 => (State.alert_same h0 ..)) ..)
theorem execMailboxInAck_same {q m s} (h : Same q m s) : OutSame q m (execMailboxInAck s) :=
  .next (State.byHost_same h (fun _ h0 => (State.inAck_same h0 ..)) ..)
theorem execMailboxOutGo_same {q m s} (h : Same q m s) : OutSame q m (execMailboxOutGo s) :=
  .next (State.byHost_same h (fun _ h0 => (State.outGo_same h0 ..)) ..)
theorem execTwtAddress_same {q m s} (h : Same q m s) (a0') (a1') : OutSame q m (execTwtAddress a0' a1' s) :=
  .next (State.twtAddress_same h ..)
theorem execTwtIdleSleep_same {q m s} (h : Same q m s) : OutSame q m (execTwtIdleSleep s) :=
  .next (State.twtSleep_same h ..)
theorem execTwtReadByte_same {q m s} (h : Same q m s) (a0') (a1') : OutSame q m (execTwtReadByte a0' a1' s) :=
  .next (State.twtRead_same h ..)
theorem execTwtRepeatedStartAtAck_same {q m s} (h : Same q m s) : OutSame q m (execTwtRepeatedStartAtAck s) :=
  .next (State.twtRestart_same h ..)
theorem execTwtSclStuck_same {q m s} (h : Same q m s) : OutSame q m (execTwtSclStuck s) :=
  .next (State.twtStuck_same h ..)
theorem execTwtWriteByte_same {q m s} (h : Same q m s) (a0') (a1') : OutSame q m (execTwtWriteByte a0' a1' s) :=
  .next (State.twtWrite_same h ..)
theorem execBusClearDone_same {q m s} (h : Same q m s) (a0') (a1') : OutSame q m (execBusClearDone a0' a1' s) :=
  .next (State.clearDone_same h ..)
theorem execPollDue_same {q m s} (h : Same q m s) (a0') (a1') : OutSame q m (execPollDue a0' a1' s) :=
  .next (State.pollDue_same h ..)
theorem execRegulatorRetry_same {q m s} (h : Same q m s) (a0') : OutSame q m (execRegulatorRetry a0' s) :=
  .next (State.regRetry_same h ..)
theorem execTwcAbort_same {q m s} (h : Same q m s) (a0') : OutSame q m (execTwcAbort a0' s) :=
  .next (State.byHost_same h (fun _ h0 => (State.twAbort_same h0 ..)) ..)
theorem execTwcClear_same {q m s} (h : Same q m s) (a0') : OutSame q m (execTwcClear a0' s) :=
  .next (State.byHost_same h (fun _ h0 => (State.twClear_same h0 ..)) ..)
theorem execTwcCommandGo_same {q m s} (h : Same q m s) (a0') (a1') : OutSame q m (execTwcCommandGo a0' a1' s) :=
  .next (State.byHost_same h (fun _ h0 => (State.writeTwcCmd_same h0 ..)) ..)
theorem execTwcTransactionDone_same {q m s} (h : Same q m s) (a0') (a1') (a2') (a3') : OutSame q m (execTwcTransactionDone a0' a1' a2' a3' s) :=
  .next (State.twDone_same h ..)
theorem execBackgroundCopyCheck_same {q m s} (h : Same q m s) (a0') (a1') : OutSame q m (execBackgroundCopyCheck a0' a1' s) :=
  .next (State.backgroundCheck_same h ..)
theorem execBootResetFabric_kept {q s} (h : Kept q s) (a0') : OutKept q (execBootResetFabric a0' s) :=
  .next (State.byHost_kept h (fun _ h0 => (State.writeBootReset_kept h0 ..)) ..)
theorem execBootResetHost_kept {q s} (h : Kept q s) (a0') : OutKept q (execBootResetHost a0' s) :=
  .next (State.byHost_kept h (fun _ h0 => (State.writeBootReset_kept h0 ..)) ..)
theorem execHostReset_kept {q s} (h : Kept q s) : OutKept q (execHostReset s) :=
  .next (State.resetGo_kept h ..)
theorem execImageCopyChecked_same {q m s} (h : Same q m s) (a0') (a1') : OutSame q m (execImageCopyChecked a0' a1' s) :=
  .next (State.copyChecked_same h ..)
theorem execLoadLimitExpiry_same {q m s} (h : Same q m s) : OutSame q m (execLoadLimitExpiry s) :=
  .next (State.loadLimit_same h ..)
theorem execPinReset_kept {q s} (h : Kept q s) : OutKept q (execPinReset s) :=
  .next (State.resetGo_kept h ..)
theorem execPowerOnReset_kept {q s} (h : Kept q s) (a0') : OutKept q (execPowerOnReset a0' s) :=
  .next (State.resetGo_kept h ..)
theorem execRehearsalEntry_same {q m s} (h : Same q m s) : OutSame q m (execRehearsalEntry s) :=
  .next (State.rehearse_same h ..)
theorem execResetRelease_same {q m s} (h : Same q m s) : OutSame q m (execResetRelease s) :=
  .next (State.resetRelease_same h ..)
theorem execRingResetFrame_kept {q s} (h : Kept q s) (a0') : OutKept q (execRingResetFrame a0' s) :=
  .next (State.ringResetFrame_kept h ..)
theorem execSmemDiscoveryDone_same {q m s} (h : Same q m s) (a0') (a1') (a2') (a3') : OutSame q m (execSmemDiscoveryDone a0' a1' a2' a3' s) :=
  .next (State.discoveryDone_same h ..)
theorem execStartupCalibration_same {q m s} (h : Same q m s) : OutSame q m (execStartupCalibration s) :=
  .next (State.startCal_same h ..)
theorem execStartupPhase0Done_same {q m s} (h : Same q m s) (a0') (a1') (a2') (a3') (a4') (a5') : OutSame q m (execStartupPhase0Done a0' a1' a2' a3' a4' a5' s) :=
  .next (State.phase0Done_same h ..)
theorem execImageCalibrate_same {q m s} (h : Same q m s) : OutSame q m (execImageCalibrate s) :=
  .next (State.imgCalibrate_same h ..)
theorem execImageDelay_same {q m s} (h : Same q m s) (a0') : OutSame q m (execImageDelay a0' s) :=
  .next (State.imgDelay_same h ..)
theorem execImageDelayEnd_same {q m s} (h : Same q m s) : OutSame q m (execImageDelayEnd s) :=
  .next (State.imgDelayEnd_same h ..)
theorem execImageEnd_same {q m s} (h : Same q m s) : OutSame q m (execImageEnd s) :=
  .next (State.imgEnd_same h ..)
theorem execImageModify_kept {q s} (h : Kept q s) (a0') (a1') (a2') : OutKept q (execImageModify a0' a1' a2' s) :=
  .next (State.imgModify_kept h ..)
theorem execImageNop_same {q m s} (h : Same q m s) : OutSame q m (execImageNop s) :=
  .next (State.imgNop_same h ..)
theorem execImageSkip_same {q m s} (h : Same q m s) (a0') (a1') (a2') (a3') (a4') : OutSame q m (execImageSkip a0' a1' a2' a3' a4' s) :=
  .next (State.imgSkip_same h ..)
theorem execImageWait_same {q m s} (h : Same q m s) (a0') (a1') (a2') (a3') (a4') : OutSame q m (execImageWait a0' a1' a2' a3' a4' s) :=
  .next (State.imgWait_same h ..)
theorem execImageWaitTimeout_same {q m s} (h : Same q m s) : OutSame q m (execImageWaitTimeout s) :=
  .next (State.imgTimeout_same h ..)
theorem execImageWrite_kept {q s} (h : Kept q s) (a0') (a1') : OutKept q (execImageWrite a0' a1' s) :=
  .next (State.imgWrite_kept h ..)
theorem execOtpProgram_same {q m s} (h : Same q m s) (a0') : OutSame q m (execOtpProgram a0' s) :=
  .next (State.byHost_same h (fun _ h0 => (State.writeSecProg_same h0 ..)) ..)
theorem execOtpProgramDone_same {q m s} (h : Same q m s) (a0') : OutSame q m (execOtpProgramDone a0' s) :=
  .next (State.progDone_same h ..)
theorem execSmemCommandDone_same {q m s} (h : Same q m s) (a0') (a1') : OutSame q m (execSmemCommandDone a0' a1' s) :=
  .next (State.smemDone_same h ..)
theorem execSmemCommandGo_same {q m s} (h : Same q m s) (a0') : OutSame q m (execSmemCommandGo a0' s) :=
  .next (State.byHost_same h (fun _ h0 => (State.writeSmemCmd_same h0 ..)) ..)
theorem execPageErrClear_same {q m s} (h : Same q m s) (a0') : OutSame q m (execPageErrClear a0' s) :=
  .next (State.byHost_same h (fun _ h0 => (State.pageErrClear_same h0 ..)) ..)
theorem execPageIntClear_same {q m s} (h : Same q m s) (a0') : OutSame q m (execPageIntClear a0' s) :=
  .next (State.byHost_same h (fun _ h0 => (State.pageIntClear_same h0 ..)) ..)
theorem execRegisterWrite_kept {q s} (h : Kept q s) (a0') (a1') (a2') : OutKept q (execRegisterWrite a0' a1' a2' s) :=
  .next (State.registerWrite_kept h ..)
theorem execStandingSignalFall_same {q m s} (h : Same q m s) (a0') (a1') : OutSame q m (execStandingSignalFall a0' a1' s) :=
  .next (State.standFall_same h ..)
theorem execGpioEdge_same {q m s} (h : Same q m s) (a0') (a1') : OutSame q m (execGpioEdge a0' a1' s) :=
  .next (State.gpioEdge_same h ..)
theorem execSupplyAlarmClear_same {q m s} (h : Same q m s) : OutSame q m (execSupplyAlarmClear s) :=
  .next (State.supplyClear_same h ..)
theorem execSupplyOverAlarm_same {q m s} (h : Same q m s) (a0') : OutSame q m (execSupplyOverAlarm a0' s) :=
  .next (State.supplyOver_same h ..)
theorem execSupplyUnderAlarm_same {q m s} (h : Same q m s) (a0') : OutSame q m (execSupplyUnderAlarm a0' s) :=
  .next (State.supplyUnder_same h ..)

end Sys2Proof.Machine
end

