-- ==== Sys2Proof/WellFormed.lean ====
section
/-! DEFINITION. Which commands are well formed: operands that a type does not bound already lie in the ranges that the
rules give them. The meanings are total, and act on an ill-formed command as on any other. -/
namespace Sys2Proof

/-- Port, slot, rate and shift of a stream-samples frame (R107), and at most 32 complex words. -/
def StreamFrame.wf (f : StreamFrame) : Bool :=
  decide (f.dev < 64) && decide (f.slot < 8) && decide (f.rate < 7) && decide (f.shift < 7)

/-- A time message has come over at most 64 arcs, a whole ring of 64 devices, and names devices of the ring and a move of
kind below 4 (R188). -/
def TimeMsg.wf (m : TimeMsg) : Bool :=
  decide (m.dev < 64) && decide (m.state < 5) && decide (m.hops ≤ 64) && m.us.all (fun d => decide (d < 64))
    && (m.move.all fun x => decide (x.1 < 4))

/-- A position of an enumeration holds a device ID (R387). -/
def MapEntry.wf (e : MapEntry) : Bool := decide (e.id < 64)

/-- The body of a register-write frame addresses a slice (R384). -/
def RegBody.wf : RegBody → Bool
  | .write a _ => decide (a < 2 ^ 24)
  | .migGo src _ _ dst tail paths _ => decide (src < 32) && decide (dst < 32) && decide (tail < 16) && paths.all fun j => decide (j < 4)
  | .migPath j _ => decide (j < 4)
  | .migSpot dst res _ _ _ _ _ _ _ => decide (dst < 32) && decide (res < 8)
  | .migGain dst _ _ _ _ => decide (dst < 32)
  | .migResult err _ => decide (err < 9)
  | .migReady => true
  | .migAbort => true
  | .migDup => true
  | .streamAsk dev slot rate dir hop hops =>
    decide (dev < 64) && decide (slot < 8) && decide (rate < 8) && decide (dir < 2) && decide (hop ≤ hops) && decide (hops ≤ 64)
  | .streamAnswer slot _ hop => decide (slot < 8) && decide (hop ≤ 64)
  | .streamEnd dev slot dir hop hops =>
    decide (dev < 64) && decide (slot < 8) && decide (dir < 2) && decide (hop ≤ hops) && decide (hops ≤ 64)

/-- Well-formed commands. -/
def WellFormed (i : Instr) : Bool :=
  match i with
  | .streamFrameReceived f => f.wf
  | .timeMessageReceived m => m.wf
  | .recordArrival _ _ sev _ => decide (1 ≤ sev) && decide (sev ≤ 4)
  | .registerWriteFrame _ _ _ b => b.wf
  | .enumerationFrame _ _ _ seen => decide (seen.length ≤ 64) && seen.all MapEntry.wf
  | .enumerationComplete found _ => decide (found.length ≤ 64) && found.all fun e => e.all MapEntry.wf
  | .bulkDataFrame _ _ _ _ _ _ _ ws => decide (ws.length ≤ 64)
  | .censusMarker _ _ _ _ b relayed => decide (b ≤ 256) && decide (relayed ≤ 256)
  | .smemDiscoveryDone _ _ hdrA hdrB => decide (hdrA.length = 64) && decide (hdrB.length = 64)
  | .imageWrite off vs => decide (off.toNat % 4 = 0) && decide (1 ≤ vs.length)
  | .imageModify off _ _ => decide (off.toNat % 4 = 0)
  | .imageWait off _ _ _ _ => decide (off.toNat % 4 = 0)
  | .imageSkip off _ _ _ _ => decide (off.toNat % 4 = 0)
  | .registerWrite _ off _ => decide (off.toNat % 4 = 0)
  | .smemCommandDone bs _ => decide (bs.length ≤ 256)
  | .twcTransactionDone _ _ _ bs => decide (bs.length ≤ 64)
  | _ => true

end Sys2Proof
end

