-- ==== Sys2Proof/Tests/Slice0.lean ====
section
/-! SUPPORT. Tests: ill-formed commands that WellFormed refuses, small steps checked against numbers of the manual, and for
each statement with hypotheses a concrete state and operands that meet them. -/
namespace Sys2Proof.Tests
open Sys2Proof Sys2Proof.Machine
set_option Elab.async false

/-! ### WellFormed -/

/-- A stream frame all of whose numbers are in range. -/
def frame0 : StreamFrame := ⟨false, 0, 1, 3, 1, 0, none, 0, 2, 1, false, 0, 0, []⟩
/-- A time message all of whose numbers are in range. -/
def time0 : TimeMsg := ⟨false, 3, true, 1, 0, 0, 0, 2, none, none, [], none⟩

theorem test_wf_streamFrame : WellFormed (.streamFrameReceived frame0) = true := by decide
theorem test_wf_streamFrame_dev : WellFormed (.streamFrameReceived { frame0 with dev := 64 }) = false := by decide
theorem test_wf_streamFrame_slot : WellFormed (.streamFrameReceived { frame0 with slot := 8 }) = false := by decide
theorem test_wf_streamFrame_rate : WellFormed (.streamFrameReceived { frame0 with rate := 7 }) = false := by decide
theorem test_wf_streamFrame_shift : WellFormed (.streamFrameReceived { frame0 with shift := 7 }) = false := by decide
theorem test_wf_timeMsg : WellFormed (.timeMessageReceived time0) = true := by decide
theorem test_wf_timeMsg_dev : WellFormed (.timeMessageReceived { time0 with dev := 64 }) = false := by decide
theorem test_wf_timeMsg_state : WellFormed (.timeMessageReceived { time0 with state := 5 }) = false := by decide
theorem test_wf_timeMsg_hops : WellFormed (.timeMessageReceived { time0 with hops := 65 }) = false := by decide
theorem test_wf_timeMsg_us : WellFormed (.timeMessageReceived { time0 with us := [64] }) = false := by decide
theorem test_wf_timeMsg_move : WellFormed (.timeMessageReceived { time0 with move := some (4, 0) }) = false := by decide
theorem test_wf_record_low : WellFormed (.recordArrival .fc 0x0100 0 0) = false := by decide
theorem test_wf_record_high : WellFormed (.recordArrival .fc 0x0100 5 0) = false := by decide
theorem test_wf_body_write : WellFormed (.registerWriteFrame false 1 0 (.write 0x1000000 0)) = false := by decide
theorem test_wf_body_migGo : WellFormed (.registerWriteFrame false 1 0 (.migGo 32 0 0 0 0 [] 0)) = false := by decide
theorem test_wf_body_migGo_path : WellFormed (.registerWriteFrame false 1 0 (.migGo 0 0 0 0 0 [4] 0)) = false := by decide
theorem test_wf_body_migGain : WellFormed (.registerWriteFrame false 1 0 (.migGain 32 0 0 0 none)) = false := by decide
theorem test_wf_body_migResult : WellFormed (.registerWriteFrame false 1 0 (.migResult 9 0)) = false := by decide
theorem test_wf_body_migPath :
    WellFormed (.registerWriteFrame false 1 0 (.migPath 4 ⟨none, 0, none, none, none, 0, 0, false, []⟩)) = false := by decide
theorem test_wf_body_migSpot : WellFormed (.registerWriteFrame false 1 0 (.migSpot 32 0 0 0 0 0 0 {} [])) = false := by decide
theorem test_wf_body_streamAsk : WellFormed (.registerWriteFrame false 1 0 (.streamAsk 0 8 0 0 0 0)) = false := by decide
theorem test_wf_body_streamAnswer : WellFormed (.registerWriteFrame false 1 0 (.streamAnswer 0 true 65)) = false := by decide
theorem test_wf_body_streamEnd : WellFormed (.registerWriteFrame false 1 0 (.streamEnd 0 0 2 0 0)) = false := by decide
theorem test_wf_enumeration_id : WellFormed (.enumerationFrame false 0 0 [⟨64, false, 0, false⟩]) = false := by decide
theorem test_wf_enumeration_size :
    WellFormed (.enumerationFrame false 0 0 (List.replicate 65 ⟨1, false, 0, false⟩)) = false := by decide +kernel
theorem test_wf_map_id : WellFormed (.enumerationComplete [some ⟨64, false, 0, false⟩] []) = false := by decide
theorem test_wf_map_size : WellFormed (.enumerationComplete (List.replicate 65 none) []) = false := by decide +kernel
theorem test_wf_bulk : WellFormed (.bulkDataFrame false 1 0 0 0 0 true (List.replicate 65 0)) = false := by decide +kernel
theorem test_wf_census : WellFormed (.censusMarker false 0 0 0 257 0) = false := by decide
theorem test_wf_census_relayed : WellFormed (.censusMarker false 0 0 0 0 257) = false := by decide
theorem test_wf_discovery : WellFormed (.smemDiscoveryDone true none [] []) = false := by decide
theorem test_wf_imageWrite : WellFormed (.imageWrite 0x40 []) = false := by decide
theorem test_wf_imageWrite_off : WellFormed (.imageWrite 0x41 [0]) = false := by decide
theorem test_wf_imageModify : WellFormed (.imageModify 0x42 0 0) = false := by decide
theorem test_wf_imageWait : WellFormed (.imageWait 0x43 0 0 0 false) = false := by decide
theorem test_wf_imageSkip : WellFormed (.imageSkip 0x41 0 0 false 0) = false := by decide
theorem test_wf_registerWrite : WellFormed (.registerWrite 0 0x41 0) = false := by decide
theorem test_wf_smem : WellFormed (.smemCommandDone (List.replicate 257 0) false) = false := by decide +kernel
theorem test_wf_twc : WellFormed (.twcTransactionDone 0 0 0 (List.replicate 65 0)) = false := by decide +kernel

/-! ### Steps -/

/-- The next state of an outcome, the state after reset where there is none. -/
def after (o : Host.Outcome State Fault Refusal) : State :=
  match o with
  | .next t => t
  | .fault _ => State.reset
  | .refused _ => State.reset

/-- The device with commands in its queue. -/
def withQueue (s : State) (q : List Instr) : State := { s with pending := q }
/-- A device in REHEARSAL. -/
def rehearsing : State := State.reset.setSys fun x => { x with dark := false }

/-- R105: the default margin is 15.000 dB, 0x3C0 in 1/64 dB. -/
theorem test_reset_margin : State.reset.rd CNX_MARGIN 0 = 0x3C0 := by decide
/-- Table 3-10: a margin of 10.000 dB is taken. -/
theorem test_margin_low : (after (step (withQueue State.reset [.cnxMarginWrite 0x280#32]))).rd CNX_MARGIN 0 = 0x280 := by
  decide +kernel
/-- R105: a margin below 10 dB is refused and leaves the field unchanged. -/
theorem test_margin_refused : (after (step (withQueue State.reset [.cnxMarginWrite 0x27F#32]))).rd CNX_MARGIN 0 = 0x3C0 := by
  decide +kernel
/-- The queue gives up its front and keeps its rest. -/
theorem test_queue_order :
    (after (step (withQueue State.reset [.cnxMarginWrite 0x280#32, .cnxMarginWrite 0x300#32]))).pending
      = [.cnxMarginWrite 0x300#32] := by decide +kernel
/-- An idle step passes one tick. -/
theorem test_idle_tick : (after (step State.reset)).now = 1 := by decide +kernel
/-- R27: a STOP in REHEARSAL is not counted as rejected. -/
theorem test_stop_rehearsal : (after (step (withQueue rehearsing [.sysCmdStop]))).rd SYS_REJ_CNT 0 = 0 := by decide +kernel
/-- Table 17-1: a power-on reset gives KIND 0. -/
theorem test_power_on_kind : (after (step (withQueue rehearsing [.powerOnReset 0]))).rd BOOT_STAT_KIND 0 = 0 := by
  decide +kernel


/-! ### Witnesses: for each clause with hypotheses, a state and operands that meet them all together -/

/-- A device out of start-up, in REHEARSAL, with nothing else done. -/
def dev0 : State := State.reset.setSys fun x => { x with dark := false }
/-- A blank medium. -/
def medium0 : MediumInfo := ⟨.blank, 0xFF, 3, 1, 16, 2048, 768, 3000, 4, 0, (0, 0), (0, 0), 1, 1, false, 0, 0, 0, false⟩
/-- A device with lane 0 a running transmit lane on TXOUT_0. -/
def running : State := dev0.setLane 0 fun l => { l with phase := .running 0, cfg := 0x40000000 }
/-- A record of source 1 with number 0. -/
def rec0 : Rec := { code := 1, sev := 1, source := 1, payload := 0 }

/-- Lanes 0 and 1 run and transmit, and LANE_STAT shows it. -/
def running2 : State :=
  ((running.setLane 1 fun l => { l with phase := .running 0, cfg := 0x40000000 }).wr LANE_STAT_ACTIVE 0 1).wr LANE_STAT_ACTIVE 1 1

/-- The device with lane 0 measured, one context. -/
def measured : State :=
  ((((running.wr MEAS_LANE_STAT_MEASURING 0 1).wr MEAS_LANE_STAT_ARMED 0 1).wr MEAS_LANE_MAP_COUNT 0 1).setSl 0
    fun l => { l with started := true })
/-- The device with lane 16 gated, one context. -/
def spotted : State :=
  ((dev0.wr SPT_LANE_STAT_MEASURING 0 1).wr SPT_LANE_STAT_ARMED 0 1).wr SPT_LANE_MAP_COUNT 0 1

/-- The device with synthesisers, converters of port 0 and a plan for lanes 0 and 1. -/
def planned : State :=
  (((((((((({ dev0 with rfc := { dev0.rfc with synA := { num := 2, den := 1 }, synB := { num := 4, den := 1 } } } : State).wr
    CONVRX_CFG_EN 0 1).wr CONVRX_STAT_CAL_DONE 0 1).wr CONVRX_CFG_SIDE 0 0).wr CONVTX_CFG_EN 0 1).wr
    CONVTX_STAT_CAL_DONE 0 1).wr CONVTX_CFG_SIDE 0 1).wr LANE_RX_FTW_HI 0 0x4000).wr LANE_TX_FTW_HI 0 0x4000).wr
    LANE_RX_FTW_HI 1 0x4000).wr LANE_TX_FTW_HI 1 0x4000

/-- The device with pattern 0 loaded, and lane 0 a running TDD lane on port 0. -/
def tdd0 : State :=
  (((dev0.wr TDD_ENT_DIR 0 1).wr TDD_ENT_DIR 1 2).wr TDD_ENT_START 1 1000 |>.wr TDD_STAT_LOADED 0 1).setLane 0
    fun l => { l with phase := .running 0, cfg := 0x60000000 }

/-- The device with an ample blank medium. -/
def blank : State :=
  ((dev0.wr STM_STAT_MEDIUM 0 medBLANK).wr STM_GEOM_BPC 0 1).wr STM_STAT_USABLE 0 4000 |>.wr STM_FMT_CFG_P16 0 1
    |>.wr STM_STAT_READY 0 1

/-- The device in PERFORMANCE with path 0 running, from lane 1 to lane 0, its reference loud. -/
def probed : State :=
  ((((running2.setPath 0 fun x => { x with on := true, running := true, cfg := 0x00110000 }).wr SYS_STATE_DEV_STATE 0 2).wr
    RFC_PORT_STAT_STATE 0 stTX).wr (causeFld cSTATE) 0 0).setLane 1 fun l => { l with ref := [⟨100000, 0⟩] }

/-- The device with the completion source of DMA queue 0 enabled, and an entry to read. -/
def asserting : State :=
  ((dev0.wr IC_SRC_EN 160 1).wr DMA_CQ_TAIL_TAIL 0 1).wr DMA_Q_STAT_SIG 0 1

/-- A descriptor of a kind: 4 bytes from or to device address 0x40, and the host's address 0. -/
def desc (kind : Nat) : Desc := ⟨BitVec.ofNat 32 (kind * 2 ^ 28), 4, 0x40, 0, 0, 0⟩
/-- The device with queue 0 running and one descriptor in it. -/
def queued : State := (dev0.wr DMA_Q_STAT_STATE 0 qRUNNING).wr DMA_Q_TAIL 0 1
/-- A descriptor under way. -/
def run0 : DmaRun := queued.runOf 0 (desc 1)

/-- The device with the two-wire target addressed. -/
def addressed : State := dev0.wr TWT_STAT_BUSY 0 1

/-- A ring device that is not the vertex, with both ports up. -/
def linked : State := ((dev0.wr SYS_STATE_VERTEX 0 0).wr RING_PORT_STAT_STATE 0 2).wr RING_PORT_STAT_STATE 1 2
/-- The vertex of a ring that holds device 2, with both ports up. -/
def vertex0 : State := (linked.wr SYS_STATE_VERTEX 0 1).wr RING_PRES_LO 0 5

/-- The device in a phase of start-up. -/
def starting (k : Nat) : State := State.reset.wr BOOT_STAT_PHASE 0 k

/-- An image header of one block, CRC-32C good, and the words of a block up to its last that is not 0: an END record, with
filler that makes the tag 0. -/
def header0 : List Byte :=
  [78, 68, 78, 49, 1, 0, 0, 0, 0, 0, 0, 0, 1, 0, 0, 0, 0, 0, 0, 0, 5] ++ List.replicate 39 0 ++ [229, 229, 133, 34]
def block0 : List Word := [0x07000000, 0xFF000000, 0x12c37434]

theorem test_witness_pathEnable : ∃ (s : State) (p : Fin 128) (v : Word), s.sys.deferred = [] ∧ (s.path p).on = false ∧ (s.wrWord pathFlds p (v ||| 0x80000000#32)).pathErr p = none :=
  ⟨(running2 : State), (0 : Fin 128), (0x110100 : Word), by decide +kernel, by decide +kernel, by decide +kernel⟩
theorem test_witness_pathSubtractionStart : ∃ (s : State) (p : Fin 128), (s.path p).on = true ∧ (s.path p).running = false :=
  ⟨(dev0.setPath 0 fun x => { x with on := true } : State), (0 : Fin 128), by decide +kernel, by decide +kernel⟩
theorem test_witness_pathDisable : ∃ (s : State) (p : Fin 128), s.sys.deferred = [] ∧ (s.path p).on = true :=
  ⟨(dev0.setPath 0 fun x => { x with on := true } : State), (0 : Fin 128), by decide +kernel, by decide +kernel⟩
theorem test_witness_tapWrite : ∃ (s : State) (k : Fin 65536), s.sys.deferred = [] ∧ MemoryCanonical s ∧ (s.clu (k / 32)).used = true ∧ s.rd CNX_PATH_CFG_FREEZE (s.clu (k / 32)).path ≠ 0 :=
  ⟨((dev0.setClu 0 fun c => { c with used := true }).wr CNX_PATH_CFG_FREEZE 0 1 : State), (0 : Fin 65536), by decide +kernel, by unfold MemoryCanonical; decide +kernel, by decide +kernel, by decide +kernel⟩
theorem test_witness_tapCountSnapshot : ∃ (s : State), s.sys.deferred = [] :=
  ⟨dev0, by decide +kernel⟩
theorem test_witness_clusterPositionWrite : ∃ (s : State) (v : Word), s.sys.deferred = [] ∧ (s.clu (s.rd CNX_CLU_PTR 0)).used = true ∧ s.rd CNX_PATH_CFG_AUTO (s.clu (s.rd CNX_CLU_PTR 0)).path = 0 ∧ -16 ≤ sx 16 v.toNat ∧ sx 16 v.toNat + 31 ≤ posMax (s.lane (victim (s.clu (s.rd CNX_CLU_PTR 0)).path)).rate ∧ ((∀ d ∈ s.clustersOf (s.clu (s.rd CNX_CLU_PTR 0)).path, d ≠ s.rd CNX_CLU_PTR 0 → ((s.clu d).placed || (s.clu d).next.isSome) = true → 32 ≤ (sx 16 v.toNat - (s.clu d).next.getD (s.clu d).pos).natAbs)) :=
  ⟨((dev0.setClu 0 fun c => { c with used := true }).wr CNX_PATH_CFG_AUTO 0 0 : State), (0 : Word), by decide +kernel, by decide +kernel, by decide +kernel, by decide +kernel, by decide +kernel, by decide +kernel⟩
theorem test_witness_cnxMarginWrite : ∃ (s : State) (v : Word), s.sys.deferred = [] ∧ 0x280 ≤ CNX_MARGIN.of v ∧ CNX_MARGIN.of v ≤ 0xA00 :=
  ⟨dev0, (0x280 : Word), by decide +kernel, by decide +kernel, by decide +kernel⟩
theorem test_witness_cnxCeilRiseWrite : ∃ (s : State) (v : Word), s.sys.deferred = [] ∧ 1 ≤ CNX_CEIL_RISE.of v ∧ CNX_CEIL_RISE.of v ≤ 60 :=
  ⟨dev0, (1 : Word), by decide +kernel, by decide +kernel, by decide +kernel⟩
theorem test_witness_searchGo : ∃ (s : State), s.sys.deferred = [] ∧ s.cnx.queue.length < 128 :=
  ⟨dev0, by decide +kernel, by decide +kernel⟩
theorem test_witness_searchStart : ∃ (s : State) (p : Nat) (w : Why) (rest : List (Nat × Why)), s.rd SLN_CTL_HOLD 0 = 0 ∧ s.cnx.search = none ∧ (s.cnx.queue.filter fun e => (s.path e.1).on) = (p, w) :: rest ∧ p < 128 :=
  ⟨((dev0.setPath 5 fun x => { x with on := true }).setCnx fun c => { c with queue := [(5, .host)] } : State), (5 : Nat), (.host : Why), ([] : List (Nat × Why)), by decide +kernel, by decide +kernel, by decide +kernel, by decide +kernel⟩
theorem test_witness_searchComplete : ∃ (s : State) (p : Nat) (w : Why), s.cnx.search = some (p, w) ∧ 2 ^ 16 ≤ s.cnx.corr.n :=
  ⟨(dev0.setCnx fun c => { c with search := some (5, .host), corr := { n := 65536 } } : State), (5 : Nat), (.host : Why), by decide +kernel, by decide +kernel⟩
theorem test_witness_oldClusterRetire : ∃ (s : State) (p : Fin 128) (c : Nat), ((s.clustersOf p).filter fun c => (s.clu c).retire == some 0) = [c] :=
  ⟨(dev0.setClu 7 fun c => { c with used := true, retire := some 0 } : State), (0 : Fin 128), (7 : Nat), by decide +kernel⟩
theorem test_witness_slnParityError : ∃ (s : State) (p : Nat) (w : Why), s.cnx.search = some (p, w) :=
  ⟨(dev0.setCnx fun c => { c with search := some (5, .host) } : State), (5 : Nat), (.host : Why), by decide +kernel⟩
theorem test_witness_tapUpdate : ∃ (s : State) (u : State) (n : Fin 32) (k : Fin 4), ((∀ j : Fin 4, (s.path (4 * n + j)).on = decide (j = k))) ∧ u = s.toSample (evTAP + n) n 1 ∧ u.sampleNo n % 2 ^ (s.path (4 * n + k)).upd = 0 ∧ (u.setPath (4 * n + k) fun x => { x with refLow := u.refQuiet (4 * n + k) }).frozen (4 * n + k) = false :=
  ⟨(probed : State), _, (0 : Fin 32), (0 : Fin 4), by decide +kernel, rfl, by decide +kernel, by decide +kernel⟩
theorem test_witness_estimateBlock : ∃ (s : State) (u : State) (n : Fin 32), ((∀ p ∈ lanePaths n, (s.path p).on = false)) ∧ s.performing = true ∧ u = (s.toSample (evBLOCK + n) n 1024).outBlock n :=
  ⟨(dev0.wr SYS_STATE_DEV_STATE 0 2 : State), _, (0 : Fin 32), by decide +kernel, by decide +kernel, rfl⟩
theorem test_witness_probeIntegrationEnd : ∃ (s : State) (p : Fin 128), (s.path p).on = true ∧ 2 ^ 20 ≤ (s.path p).probe.n :=
  ⟨(dev0.setPath 0 fun x => { x with on := true, probe := { n := 1048576 } } : State), (0 : Fin 128), by decide +kernel, by decide +kernel⟩
theorem test_witness_tapMemoryUncorr : ∃ (s : State), MemoryCanonical s :=
  ⟨dev0, by unfold MemoryCanonical; decide +kernel⟩
theorem test_witness_streamEnable : ∃ (s : State) (k : Fin 8) (v : Word), s.sys.deferred = [] ∧ s.rd CNX_STX_CFG_EN k = 0 ∧ s.rd LANE_STAT_ACTIVE (CNX_STX_CFG_LANE.of v) ≠ 0 ∧ (s.lane (CNX_STX_CFG_LANE.of v)).txEn = true ∧ CNX_STX_CFG_SHIFT.of v ≠ 7 ∧ s.streamRoute (CNX_STX_CFG_DIR.of v) (CNX_STX_CFG_HOPS.of v) = true ∧ s.arcFits ⟨dirPort (CNX_STX_CFG_DIR.of v), s.devId, k, (s.lane (CNX_STX_CFG_LANE.of v)).rate⟩ = true :=
  ⟨(running2.setRing fun r => { r with enumerated := true } : State), (0 : Fin 8), (0x10000000 : Word), by decide +kernel, by decide +kernel, by decide +kernel, by decide +kernel, by decide +kernel, by decide +kernel, by decide +kernel⟩
theorem test_witness_streamReservationResult : ∃ (s : State) (k : Fin 8), (s.stx k).pending = true :=
  ⟨(dev0.setStx 0 fun x => { x with pending := true } : State), (0 : Fin 8), by decide +kernel⟩
theorem test_witness_streamDisable : ∃ (s : State), s.sys.deferred = [] :=
  ⟨dev0, by decide +kernel⟩
theorem test_witness_streamRxEnable : ∃ (s : State), s.sys.deferred = [] :=
  ⟨dev0, by decide +kernel⟩
theorem test_witness_streamFrameReceived : ∃ (s : State) (f : StreamFrame) (k : Fin 8), ((∀ j : Fin 8, (s.rd CNX_SRX_CFG_EN j ≠ 0 ∧ s.rd CNX_SRX_CFG_SRC_DEV j = f.dev ∧ s.rd CNX_SRX_CFG_SRC_SLOT j = f.slot) ↔ j = k)) ∧ f.hops = 0 :=
  ⟨((dev0.wr CNX_SRX_CFG_EN 0 1).wr CNX_SRX_CFG_SRC_DEV 0 3 : State), ({ frame0 with slot := 0 } : StreamFrame), (0 : Fin 8), by decide +kernel, by decide +kernel⟩
theorem test_witness_streamLost : ∃ (s : State) (k : Fin 8) (a : Nat), (s.srx k).lastFrame = some a ∧ s.rd CNX_SRX_CFG_EN k ≠ 0 ∧ s.rd CNX_SRX_STAT_LOST k = 0 :=
  ⟨((dev0.setSrx 0 fun x => { x with lastFrame := some 9 }).wr CNX_SRX_CFG_EN 0 1 : State), (0 : Fin 8), (9 : Nat), by decide +kernel, by decide +kernel, by decide +kernel⟩
theorem test_witness_streamRestored : ∃ (s : State) (k : Fin 8), s.rd CNX_SRX_STAT_LOST k ≠ 0 :=
  ⟨(dev0.wr CNX_SRX_STAT_LOST 0 1 : State), (0 : Fin 8), by decide +kernel⟩
theorem test_witness_faultEvent : ∃ (s : State) (page : Page) (b : Fin 32) (n : Nat), causeSrc (pageOff page) b = some n ∧ (maskable (pageOff page) b && s.tst PG_ERR_MASK (pageOff page) b) = false :=
  ⟨dev0, (.fab : Page), (1 : Fin 32), (27 : Nat), by decide +kernel, by decide +kernel⟩
theorem test_witness_faultEpochLatch : ∃ (s : State) (e : FcEvent), s.fc.events = [e] ∧ e.src < 56 :=
  ⟨(dev0.deliver ⟨3, false, 0, 0, 1, pgPB, []⟩ : State), (⟨3, false, 0, 0, 1, pgPB, []⟩ : FcEvent), by decide +kernel, by decide +kernel⟩
theorem test_witness_forceCause : ∃ (s : State) (page : Page) (v : Word) (b : Nat) (n : Nat), s.sys.deferred = [] ∧ pageOff page ≠ pgCUR ∧ ((List.range 32).filter fun b => v.getLsbD b) = [b] ∧ b ≠ 0 ∧ causeSrc (pageOff page) b = some n ∧ (maskable (pageOff page) b && s.tst PG_ERR_MASK (pageOff page) b) = false :=
  ⟨dev0, (.pb : Page), (2 : Word), (1 : Nat), (4 : Nat), by decide +kernel, by decide +kernel, by decide +kernel, by decide +kernel, by decide +kernel, by decide +kernel⟩
theorem test_witness_forceSource : ∃ (s : State) (hi : Bool) (v : Word) (b : Nat), s.sys.deferred = [] ∧ ((List.range 32).filter fun b => v.getLsbD b) = [b] ∧ (if hi then 32 + b else b) < 56 :=
  ⟨dev0, (false : Bool), (2 : Word), (1 : Nat), by decide +kernel, by decide +kernel, by decide +kernel⟩
theorem test_witness_sourceRecovery : ∃ (s : State) (n : Fin 56) (q : Nat), s.quietLen n = some q ∧ s.status n = true ∧ (n.val < 13 ∨ 16 < n.val) ∧ (s.fcSrc n).await = 0 ∧ (s.fcSrc n).stand = 0 :=
  ⟨(dev0.setStatus 3 true : State), (3 : Fin 56), (secT 10 : Nat), by decide +kernel, by decide +kernel, by decide +kernel, by decide +kernel, by decide +kernel⟩
theorem test_witness_hostClear : ∃ (s : State) (hi : Bool) (v : Word) (b : Nat), s.sys.deferred = [] ∧ ((List.range 32).filter fun b => v.getLsbD b) = [b] ∧ (if hi then 32 + b else b) < 56 ∧ s.status (if hi then 32 + b else b) = true ∧ s.standing (if hi then 32 + b else b) = false :=
  ⟨(dev0.setStatus 3 true : State), (false : Bool), (8 : Word), (3 : Nat), by decide +kernel, by decide +kernel, by decide +kernel, by decide +kernel, by decide +kernel⟩
theorem test_witness_firstFaultAck : ∃ (s : State), s.sys.deferred = [] ∧ s.rd FC_FF_SRC_VALID 0 ≠ 0 :=
  ⟨(dev0.wr FC_FF_SRC_VALID 0 1 : State), by decide +kernel, by decide +kernel⟩
theorem test_witness_severityWrite : ∃ (s : State) (n : Fin 64) (v : Word), s.sys.deferred = [] ∧ n.val < 56 ∧ fixedSev n = false ∧ 1 ≤ FC_SEV_SEV.of v ∧ FC_SEV_SEV.of v ≤ 4 ∧ FC_SEV_QSEL.of v ≠ 7 :=
  ⟨dev0, (3 : Fin 64), (2 : Word), by decide +kernel, by decide +kernel, by decide +kernel, by decide +kernel, by decide +kernel, by decide +kernel⟩
theorem test_witness_faultNPulseEnd : ∃ (s : State) (a : Nat), s.fc.pulseEnd = some a :=
  ⟨(dev0.setFc fun f => { f with pulseEnd := some 9 } : State), (9 : Nat), by decide +kernel⟩
theorem test_witness_deferredFaultNPulse : ∃ (s : State) (a : Nat), s.fc.restEnd = some a ∧ s.fc.restLatch = true :=
  ⟨(dev0.setFc fun f => { f with restEnd := some 9, restLatch := true } : State), (9 : Nat), by decide +kernel, by decide +kernel⟩
theorem test_witness_remoteShutdown : ∃ (s : State) (v : Word) (m : Fin 8), s.sys.deferred = [] ∧ CUR_HOST_ALL.of v = 0 ∧ (CUR_HOST_SHUT.of v).testBit m = true ∧ s.cause m cHOST = false :=
  ⟨dev0, (4 : Word), (2 : Fin 8), by decide +kernel, by decide +kernel, by decide +kernel, by decide +kernel⟩
theorem test_witness_remoteShutdownClear : ∃ (s : State) (v : Word) (m : Fin 8), s.sys.deferred = [] ∧ CUR_HOST_ALL.of v = 0 ∧ (CUR_HOST_SHUT.of v).testBit m = false ∧ s.cause m cHOST = true :=
  ⟨(dev0.wr (causeFld cHOST) 2 1 : State), (0 : Word), (2 : Fin 8), by decide +kernel, by decide +kernel, by decide +kernel, by decide +kernel⟩
theorem test_witness_curtainComplete : ∃ (s : State) (ports : BitVec 8) (m : Nat), (portList ports).filter (fun m => (s.cport m).completing) = [m] :=
  ⟨(dev0.setCport 2 fun x => { x with completing := true } : State), (4 : BitVec 8), (2 : Nat), by decide +kernel⟩
theorem test_witness_portQuietPeriodEnd : ∃ (s : State) (m : Fin 8) (b : Fin 7) (n : Nat) (q : Nat), causeOwner b = some n ∧ s.quietLen n = some q ∧ (s.cport m).completing = false ∧ s.cause m b = true ∧ s.quietReady m b = true ∧ b.val ≠ cTHERM ∧ n = 17 :=
  ⟨(dev0.wr (causeFld cTXTO) 2 1 : State), (2 : Fin 8), (5 : Fin 7), (17 : Nat), (secT 10 : Nat), by decide +kernel, by decide +kernel, by decide +kernel, by decide +kernel, by decide +kernel, by decide +kernel, by decide +kernel⟩
theorem test_witness_liftStart : ∃ (s : State) (m : Fin 8), (s.cport m).lift = .due ∧ s.causes m = [] ∧ s.held m = false ∧ (s.cport m).counted = false :=
  ⟨(((dev0.setCport 2 fun x => { x with lift := .due }).wr RFC_PORT_STAT_STATE 2 3).wr (causeFld cSTATE) 2 0 : State), (2 : Fin 8), by decide +kernel, by decide +kernel, by decide +kernel, by decide +kernel⟩
theorem test_witness_liftComplete : ∃ (s : State) (m : Fin 8) (a : Nat), (s.cport m).lift = .settle a ∧ s.held m = false :=
  ⟨((dev0.setCport 2 fun x => { x with lift := .settle 7 }).wr RFC_PORT_STAT_STATE 2 3 : State), (2 : Fin 8), (7 : Nat), by decide +kernel, by decide +kernel⟩
theorem test_witness_curtainRelease : ∃ (s : State) (v : Word) (m : Fin 8), s.sys.deferred = [] ∧ portList (BitVec.ofNat 8 (CUR_RELEASE_PORTS.of (v &&& 0xFF#32))) = [m.val] ∧ s.causes m = [cLATCH] :=
  ⟨((dev0.wr (causeFld cLATCH) 2 1).wr (causeFld cSTATE) 2 0 : State), (4 : Word), (2 : Fin 8), by decide +kernel, by decide +kernel, by decide +kernel⟩
theorem test_witness_clearLiftHistory : ∃ (s : State) (v : Word) (m : Fin 8), s.sys.deferred = [] ∧ portList (BitVec.ofNat 8 (CUR_RELEASE_PORTS.of (v ||| 0x100#32))) = [m.val] ∧ s.cause m cLATCH = false :=
  ⟨dev0, (4 : Word), (2 : Fin 8), by decide +kernel, by decide +kernel, by decide +kernel⟩
theorem test_witness_backoffEnd : ∃ (s : State) (u : State) (n : Fin 32), (s.lane n).cap.isSome = true ∧ u = (s.toSample (evCAP + n) n 1024).bringCap n ∧ min (u.lane n).request (u.rd LANE_GAIN_LIMIT n) * tps ≤ (u.lane n).cap.getD 0 :=
  ⟨(dev0.setLane 0 fun l => { l with cap := some 0 } : State), _, (0 : Fin 32), by decide +kernel, rfl, by decide +kernel⟩
theorem test_witness_oscillationGrowth : ∃ (s : State) (n : Fin 32), (s.lane n).active = true ∧ (s.lane n).txEn = true ∧ (s.lane n).tx < 8 ∧ (s.lane n).osc.grow = true :=
  ⟨(running.setLane 0 fun l => { l with osc := { grow := true } } : State), (0 : Fin 32), by decide +kernel, by decide +kernel, by decide +kernel, by decide +kernel⟩
theorem test_witness_oscillationLine : ∃ (s : State) (n : Fin 32), (s.lane n).active = true ∧ (s.lane n).txEn = true ∧ (s.lane n).tx < 8 ∧ (s.lane n).osc.line = true :=
  ⟨(running.setLane 0 fun l => { l with osc := { line := true } } : State), (0 : Fin 32), by decide +kernel, by decide +kernel, by decide +kernel, by decide +kernel⟩
theorem test_witness_overdriveDetected : ∃ (s : State) (m : Fin 8), s.rd CONVTX_CFG_EN m ≠ 0 ∧ (s.cv (8 + m)).odMet = true :=
  ⟨((dev0.wr CONVTX_CFG_EN 0 1).setCv 8 fun c => { c with odMet := true } : State), (0 : Fin 8), by decide +kernel, by decide +kernel⟩
theorem test_witness_emissionDetected : ∃ (s : State) (m : Fin 8) (b : Fin 4), s.rd CONVTX_CFG_EN m ≠ 0 ∧ (s.cv (8 + m)).emMet.getLsbD b = true :=
  ⟨((dev0.wr CONVTX_CFG_EN 0 1).setCv 8 fun c => { c with emMet := 1 } : State), (0 : Fin 8), (0 : Fin 4), by decide +kernel, by decide +kernel⟩
theorem test_witness_recordArrival : ∃ (s : State), Recording s :=
  ⟨(dev0.setPb fun p => { p with restored := true } : State), by unfold Recording; decide +kernel⟩
theorem test_witness_recordAdmittedAfterWait : ∃ (s : State) (w : Waiting) (rest : List Waiting), s.pb.waiting = w :: rest ∧ s.pb.staging.length + s.pb.held.length < 8192 ∧ Recording (s.setPb fun p => { p with waiting := [] }) :=
  ⟨(dev0.setPb fun p => { p with restored := true, waiting := [⟨rec0, 0, false, []⟩] } : State), (⟨rec0, 0, false, []⟩ : Waiting), ([] : List Waiting), by decide +kernel, by decide +kernel, by unfold Recording; decide +kernel⟩
theorem test_witness_foldWindowExpiry : ∃ (s : State) (r : Rec), s.pb.openRec = some r ∧ s.pb.violation = none :=
  ⟨(dev0.setPb fun p => { p with restored := true, next := 1, staging := [rec0] } : State), (rec0 : Rec), by decide +kernel, by decide +kernel⟩
theorem test_witness_rateLimitWindowEnd : ∃ (s : State), s.rd PB_CFG_COMPAT 0 ≠ 0 ∧ s.pb.rlSupp = [] ∧ s.pb.auditDue = false :=
  ⟨(dev0.wr PB_CFG_COMPAT 0 1 : State), by decide +kernel, by decide +kernel, by decide +kernel⟩
theorem test_witness_pbCfgWrite : ∃ (s : State) (v : Word), s.sys.deferred = [] ∧ PB_CFG_RL_MAX.of v ≠ 0 ∧ PB_CFG_RL_WIN.of v ≠ 0 :=
  ⟨dev0, (0xFFFFFFFF : Word), by decide +kernel, by decide +kernel, by decide +kernel⟩
theorem test_witness_flushPeriodic : ∃ (s : State), s.pb.violation = none :=
  ⟨dev0, by decide +kernel⟩
theorem test_witness_recordConfirmed : ∃ (s : State) (seq : BitVec 40) (r : Rec), (s.pb.staging.find? fun r => r.seq == seq) = some r ∧ r.closed = true ∧ r.handed = true ∧ 0 < s.pb.mainCap ∧ s.stm.work = [] :=
  ⟨(dev0.setPb fun p => { p with restored := true, next := 1, mainCap := 16, staging := [{ rec0 with closed := true, handed := true }] } : State), (0 : BitVec 40), ({ rec0 with closed := true, handed := true } : Rec), by decide +kernel, by decide +kernel, by decide +kernel, by decide +kernel, by decide +kernel⟩
theorem test_witness_pfailAssert : ∃ (s : State), s.pb.pf = false ∧ s.pb.restored = true :=
  ⟨(dev0.setPb fun p => { p with restored := true } : State), by decide +kernel, by decide +kernel⟩
theorem test_witness_vaultFlushComplete : ∃ (s : State), s.pb.pf = true ∧ s.pb.pfDone = false ∧ s.pb.restored = true :=
  ⟨(dev0.setPb fun p => { p with restored := true, pf := true } : State), by decide +kernel, by decide +kernel, by decide +kernel⟩
theorem test_witness_pfailDeassert : ∃ (s : State), s.pb.pf = true ∧ s.pb.restored = true ∧ s.rd SYS_SUPPLY_UNDER_NOW 0 = 0 :=
  ⟨(dev0.setPb fun p => { p with restored := true, pf := true } : State), by decide +kernel, by decide +kernel, by decide +kernel⟩
theorem test_witness_stagingUncorr : ∃ (s : State) (seq : BitVec 40) (r : Rec), (s.pb.staging.find? fun r => r.seq == seq) = some r :=
  ⟨(dev0.setPb fun p => { p with restored := true, next := 1, staging := [rec0] } : State), (0 : BitVec 40), (rec0 : Rec), by decide +kernel⟩
theorem test_witness_pbReadGo : ∃ (s : State), s.sys.deferred = [] :=
  ⟨dev0, by decide +kernel⟩
theorem test_witness_pbReadDone : ∃ (s : State) (n : BitVec 40), s.pb.rdPending = some n ∧ ((s.findNumber n).1 < 3 ∨ s.stm.work = [] ∧ s.ahead 3 = false) :=
  ⟨(dev0.setPb fun p => { p with rdPending := some 0 } : State), (0 : BitVec 40), by decide +kernel, by decide +kernel⟩
theorem test_witness_verifyGo : ∃ (s : State), s.sys.deferred = [] ∧ s.rd PB_VFY_STAT_BUSY 0 = 0 :=
  ⟨dev0, by decide +kernel, by decide +kernel⟩
theorem test_witness_verifyStop : ∃ (s : State), s.sys.deferred = [] ∧ s.rd PB_VFY_STAT_BUSY 0 ≠ 0 :=
  ⟨(dev0.wr PB_VFY_STAT_BUSY 0 1 : State), by decide +kernel, by decide +kernel⟩
theorem test_witness_verifyDone : ∃ (s : State) (k : Nat) (cnt : Nat), s.rd PB_VFY_STAT_BUSY 0 ≠ 0 ∧ cnt = (if s.pb.vfyStop then min k s.pb.vfyLeft else s.pb.vfyLeft) :=
  ⟨(dev0.wr PB_VFY_STAT_BUSY 0 1 : State), (0 : Nat), _, by decide +kernel, rfl⟩
theorem test_witness_vaultRestore : ∃ (s : State), s.rd STM_STAT_READY 0 ≠ 0 ∧ s.rd STM_STAT_MEDIUM 0 = 2 ∧ s.pb.restored = false :=
  ⟨((dev0.wr STM_STAT_READY 0 1).wr STM_STAT_MEDIUM 0 2 : State), by decide +kernel, by decide +kernel, by decide +kernel⟩
theorem test_witness_sptArm : ∃ (s : State) (u : State) (k : Fin 16) (v : Word) (c : SptCfg), s.sys.deferred = [] ∧ s.armed (16 + k) = false ∧ u = (s.wrWord (sptCfgFlds (16 + k)) k (v ||| 0x80000000#32)).int pgSPT 0 ∧ c = ⟨(v ||| 0x80000000#32).getLsbD 30, u.rd SPT_LANE_CFG_RES k, sx 14 (u.rd SPT_LANE_CFG_FIRST k), u.rd SPT_LANE_MAP_BASE k, u.rd SPT_LANE_MAP_COUNT k⟩ ∧ u.sptErr (16 + k) c = none :=
  ⟨(dev0.wr SPT_LANE_MAP_COUNT 0 1 : State), _, (0 : Fin 16), (0 : Word), _, by decide +kernel, by decide +kernel, rfl, rfl, by decide +kernel⟩
theorem test_witness_measArm : ∃ (s : State) (u : State) (n : Fin 16) (v : Word) (c : SptCfg), s.sys.deferred = [] ∧ s.armed n = false ∧ u = (s.wrWord (sptCfgFlds n) n (v ||| 0x80000000#32)).int pgMEAS 0 ∧ c = ⟨false, u.rd MEAS_LANE_CFG_RES n, sx 14 (u.rd MEAS_LANE_CFG_FIRST n), u.rd MEAS_LANE_MAP_BASE n, u.rd MEAS_LANE_MAP_COUNT n⟩ ∧ u.sptErr n c = none :=
  ⟨(dev0.wr MEAS_LANE_MAP_COUNT 0 1 : State), _, (0 : Fin 16), (0 : Word), _, by decide +kernel, by decide +kernel, rfl, rfl, by decide +kernel⟩
theorem test_witness_sptDisarm : ∃ (s : State) (n : Fin 32), s.sys.deferred = [] ∧ s.armed n = true ∧ s.gating n = false ∧ (s.lane n).on = false :=
  ⟨(dev0.wr MEAS_LANE_STAT_ARMED 0 1 : State), (0 : Fin 32), by decide +kernel, by decide +kernel, by decide +kernel, by decide +kernel⟩
theorem test_witness_decisionWindowClose : ∃ (s : State) (n : Fin 32), s.measuring n = true ∧ (s.lane n).active = true ∧ (s.sl n).started = true ∧ (s.sl n).disarm = none :=
  ⟨(measured : State), (0 : Fin 32), by decide +kernel, by decide +kernel, by decide +kernel, by decide +kernel⟩
theorem test_witness_contextStuck : ∃ (s : State) (c : Fin 32768) (f : Nat), (s.ctx c).runFrom = some f ∧ s.rd SPT_MON 0 ≠ 0 ∧ (s.ctx c).stuck = false ∧ ctlMode (s.ctx c).force = 0 ∧ c.val < 16384 ∧ (s.ctxLane c).isSome = true :=
  ⟨((spotted.setCtx 0 fun c => { c with runFrom := some 5 }).wr SPT_MON 0 1 : State), (0 : Fin 32768), (5 : Nat), by decide +kernel, by decide +kernel, by decide +kernel, by decide +kernel, by decide +kernel, by decide +kernel⟩
theorem test_witness_contextCtlWrite : ∃ (s : State) (v : Word), s.sys.deferred = [] ∧ 0x0C ≤ bits v 8 8 ∧ bits v 8 8 ≤ 0x78 ∧ ctlMode v ≠ 3 :=
  ⟨dev0, (0x00082800 : Word), by decide +kernel, by decide +kernel, by decide +kernel, by decide +kernel⟩
theorem test_witness_contextSnapshotGo : ∃ (s : State) (dn : Bool) (v : Word) (n : Nat), s.sys.deferred = [] ∧ (s.ctxLane (bits (v ||| 0x40000000#32) 0 14 + if dn then 16384 else 0)) = some n ∧ s.measuring n = true ∧ n < 32 :=
  ⟨(spotted : State), (false : Bool), (0 : Word), (16 : Nat), by decide +kernel, by decide +kernel, by decide +kernel, by decide +kernel⟩
theorem test_witness_contextSnapshotDone : ∃ (s : State) (dn : Bool) (c : Nat) (w : Nat) (n : Nat), (if dn then s.spt.snapDn else s.spt.snapUp) = some (c, w) ∧ s.ctxLane (c + if dn then 16384 else 0) = some n ∧ w < (s.sl n).win :=
  ⟨((spotted.setSl 16 fun l => { l with win := 1 }).setSpt fun x => { x with snapUp := some (0, 0) } : State), (false : Bool), (0 : Nat), (0 : Nat), (16 : Nat), by decide +kernel, by decide +kernel, by decide +kernel⟩
theorem test_witness_timeSnapshot : ∃ (s : State), s.sys.deferred = [] :=
  ⟨dev0, by decide +kernel⟩
theorem test_witness_kvMeasurementDone : ∃ (s : State) (a : Nat), s.time.kvSince = some a :=
  ⟨(dev0.setTime fun t => { t with kvSince := some 5 } : State), (5 : Nat), by decide +kernel⟩
theorem test_witness_timeDetectorEnable : ∃ (s : State) (k : Fin 4) (v : Word), s.sys.deferred = [] ∧ s.rd TIME_DET_STAT_STATE k = 0 ∧ (s.wrWord detFlds k (v ||| 0x80000000#32)).detErr k (v ||| 0x80000000#32) = none :=
  ⟨(dev0.setLane 0 fun l => { l with phase := .running 0, cfg := 0x00060000 } : State), (0 : Fin 4), (0 : Word), by decide +kernel, by decide +kernel, by decide +kernel⟩
theorem test_witness_syncDetection : ∃ (s : State) (k : Fin 4) (pci : BitVec 10), s.rd TIME_DET_STAT_STATE k ≠ 0 ∧ (s.rd TIME_DET_CFG_PCI k = 0x3FF ∨ s.rd TIME_DET_CFG_PCI k = pci.toNat) :=
  ⟨((dev0.wr TIME_DET_STAT_STATE 0 1).wr TIME_DET_CFG_PCI 0 0x3FF : State), (0 : Fin 4), (0 : BitVec 10), by decide +kernel, by decide +kernel⟩
theorem test_witness_timeLocked : ∃ (s : State) (a : Nat), s.time.goodSince = some a ∧ s.timeState = 2 :=
  ⟨((dev0.wr TIME_STAT_STATE 0 2).setTime fun t => { t with goodSince := some 5 } : State), (5 : Nat), by decide +kernel, by decide +kernel⟩
theorem test_witness_detectorLost : ∃ (s : State) (k : Fin 4), s.detOn k = true :=
  ⟨(dev0.wr TIME_DET_STAT_STATE 0 2 : State), (0 : Fin 4), by decide +kernel⟩
theorem test_witness_holdoverEvaluation : ∃ (s : State) (u : State), s.timeState = 4 ∧ u = s.toMul evHOLD s.time.holdAt 983040 ∧ u.holdE (u.now - s.time.holdAt) ≤ (u.rd TIME_HOLD_BUDGET 0 : Rat) :=
  ⟨(dev0.wr TIME_STAT_STATE 0 4 : State), _, by decide +kernel, rfl, by decide +kernel⟩
theorem test_witness_calendarSetGo : ∃ (s : State), s.sys.deferred = [] ∧ s.isRef = true :=
  ⟨(dev0.wr SYS_STATE_VERTEX 0 1 : State), by decide +kernel, by decide +kernel⟩
theorem test_witness_realign : ∃ (s : State), s.sys.deferred = [] ∧ s.isRef = true :=
  ⟨(dev0.wr SYS_STATE_VERTEX 0 1 : State), by decide +kernel, by decide +kernel⟩
theorem test_witness_ppsOutPulse : ∃ (s : State), s.rd TIME_PPSO_EN 0 ≠ 0 ∧ s.rd TIME_PPSO_GATE 0 = 0 :=
  ⟨(dev0.wr TIME_PPSO_EN 0 1 |>.wr TIME_PPSO_GATE 0 0 : State), by decide +kernel, by decide +kernel⟩
theorem test_witness_ppsInEdge : ∃ (s : State) (at_ : Int) (x : Nat), s.rd TIME_PPSI_MODE 0 = 1 ∧ at_ = (s.tod : Int) - roundDiv (s.rdS TIME_PPSI_COMP 0 * 98304) 100000 ∧ x = (at_ % ((2 ^ 32 * tps : Nat) : Int)).toNat :=
  ⟨(dev0.wr TIME_PPSI_MODE 0 1 : State), _, _, by decide +kernel, rfl, rfl⟩
theorem test_witness_timeMessageReceived : ∃ (s : State) (m : TimeMsg), m.dev ≠ s.devId ∧ m.dev < 64 ∧ m.hops < 2 ^ TIME_RING.w ∧ (m.port = true → s.ring.broken ≠ []) :=
  ⟨dev0, (time0 : TimeMsg), by decide +kernel, by decide +kernel, by decide +kernel, by decide +kernel⟩
theorem test_witness_usReady : ∃ (s : State) (a : Nat), s.time.usSince = some a ∧ s.rd TIME_CFG_ROLE 0 = 1 ∧ s.vertex = false ∧ s.rd TIME_STAT_US_IGNORED 0 = 0 ∧ s.timeValid = true ∧ s.serving.isSome = true :=
  ⟨((((dev0.setTime fun t => { t with usSince := some 5 }).wr TIME_CFG_ROLE 0 1).wr TIME_STAT_VALID 0 1).wr TIME_DET_STAT_STATE 0 2 |>.wr SYS_STATE_VERTEX 0 0 : State), (5 : Nat), by decide +kernel, by decide +kernel, by decide +kernel, by decide +kernel, by decide +kernel, by decide +kernel⟩
theorem test_witness_understudyTakeover : ∃ (s : State), s.rd TIME_CFG_ROLE 0 = 1 ∧ s.vertex = false ∧ s.rd TIME_STAT_US_IGNORED 0 = 0 ∧ s.isRef = false ∧ s.timeValid = true ∧ s.rd TIME_STAT_US_READY 0 ≠ 0 ∧ (s.time.refState = 0 ∨ s.time.refState = 4) :=
  ⟨((((dev0.wr TIME_CFG_ROLE 0 1).wr TIME_STAT_VALID 0 1).wr TIME_STAT_US_READY 0 1).wr TIME_STAT_REF_DEV 0 5 |>.wr SYS_STATE_VERTEX 0 0 : State), by decide +kernel, by decide +kernel, by decide +kernel, by decide +kernel, by decide +kernel, by decide +kernel, by decide +kernel⟩
theorem test_witness_referenceReturn : ∃ (s : State) (a : Nat), s.vertex = true ∧ s.isRef = false ∧ s.serving.isSome = true ∧ s.rd TIME_CFG_REVERT 0 ≠ 0 ∧ s.time.retSince = some a :=
  ⟨(((((dev0.wr SYS_STATE_VERTEX 0 1).wr TIME_DET_STAT_STATE 0 2).wr TIME_CFG_REVERT 0 1).wr TIME_STAT_REF_DEV 0 5).setTime fun t => { t with retSince := some 5 } : State), (5 : Nat), by decide +kernel, by decide +kernel, by decide +kernel, by decide +kernel, by decide +kernel⟩
theorem test_witness_calendarSetApply : ∃ (s : State) (a : Nat) (named : Option Nat), s.time.calSet = some (a, named) :=
  ⟨(dev0.setTime fun t => { t with calSet := some (5, none) } : State), (5 : Nat), (none : Option Nat), by decide +kernel⟩
theorem test_witness_tddSwap : ∃ (s : State) (u : State) (v : Word) (x : Nat) (b : Nat), s.sys.deferred = [] ∧ x = TDD_CTL_PAT.of (v ||| 0x80000000#32) ∧ u = (s.wr TDD_CTL_PAT 0 x).wr TDD_CTL_FRAME 0 (TDD_CTL_FRAME.of (v ||| 0x80000000#32)) ∧ b = (match u.actBank x with | some i => 1 - i % 2 | none => 0) ∧ u.swapErr x (2 * x + b) = none :=
  ⟨(((dev0.wr TDD_ENT_DIR 0 1).wr TDD_ENT_DIR 1 2).wr TDD_ENT_START 1 1000 : State), _, (0 : Word), _, _, by decide +kernel, rfl, rfl, rfl, by decide +kernel⟩
theorem test_witness_tddSwapApply : ∃ (s : State) (x : Fin 2) (w : Swap), s.swapOf x = some w :=
  ⟨((dev0.wr TDD_STAT_PENDING 0 1).setTdd fun t => { t with pend := [(0, ⟨1, 3⟩)] } : State), (0 : Fin 2), (⟨1, 3⟩ : Swap), by decide +kernel⟩
theorem test_witness_convrxEnable : ∃ (s : State) (m : Fin 8), s.sys.deferred = [] ∧ s.rd CONVRX_CFG_EN m = 0 :=
  ⟨dev0, (0 : Fin 8), by decide +kernel, by decide +kernel⟩
theorem test_witness_convtxEnable : ∃ (s : State) (m : Fin 8), s.sys.deferred = [] ∧ s.rd CONVTX_CFG_EN m = 0 :=
  ⟨dev0, (0 : Fin 8), by decide +kernel, by decide +kernel⟩
theorem test_witness_converterDisable : ∃ (s : State) (c : Fin 16), s.sys.deferred = [] ∧ s.cvEn c = true :=
  ⟨(dev0.wr CONVRX_CFG_EN 0 1 : State), (0 : Fin 16), by decide +kernel, by decide +kernel⟩
theorem test_witness_convCalComplete : ∃ (s : State) (c : Fin 16), (s.cv c).cal = true :=
  ⟨(dev0.setCv 0 fun c => { c with cal := true } : State), (0 : Fin 16), by decide +kernel⟩
theorem test_witness_bgcalCycleDone : ∃ (s : State) (c : Fin 16), s.cvEn c = true ∧ s.cvRd CONVRX_CFG_BGCAL_EN CONVTX_CFG_BGCAL_EN c = 1 ∧ (s.cv c).cal = false :=
  ⟨((dev0.wr CONVRX_CFG_EN 0 1).wr CONVRX_CFG_BGCAL_EN 0 1 : State), (0 : Fin 16), by decide +kernel, by decide +kernel, by decide +kernel⟩
theorem test_witness_overRangeEpisodeStart : ∃ (s : State) (m : Fin 8), s.rd CONVRX_STAT_OVR_NOW m = 0 ∧ s.rd CONVRX_CFG_EN m ≠ 0 :=
  ⟨(dev0.wr CONVRX_CFG_EN 0 1 : State), (0 : Fin 8), by decide +kernel, by decide +kernel⟩
theorem test_witness_overRangeEpisodeEnd : ∃ (s : State) (m : Fin 8), s.rd CONVRX_STAT_OVR_NOW m ≠ 0 :=
  ⟨(dev0.wr CONVRX_STAT_OVR_NOW 0 1 : State), (0 : Fin 8), by decide +kernel⟩
theorem test_witness_suspectMarkEnd : ∃ (s : State) (n : Fin 32) (a : Nat), (s.lane n).suspectEnds = some a :=
  ⟨(dev0.setLane 0 fun l => { l with suspectEnds := some 5 } : State), (0 : Fin 32), (5 : Nat), by decide +kernel⟩
theorem test_witness_clippingEpisodeStart : ∃ (s : State) (m : Fin 8), s.rd CONVTX_STAT_CLIP_NOW m = 0 ∧ s.rd CONVTX_CFG_EN m ≠ 0 :=
  ⟨(dev0.wr CONVTX_CFG_EN 0 1 : State), (0 : Fin 8), by decide +kernel, by decide +kernel⟩
theorem test_witness_laneEnable : ∃ (s : State) (u : State) (n : Fin 32) (v : Word), s.sys.deferred = [] ∧ s.thm.shut = false ∧ (s.lane n).on = false ∧ s.rd LANE_CFG_EN n = 0 ∧ s.armed n = false ∧ u = s.wrWord laneFlds n (v ||| 0x80000000#32) ∧ (u.int (pgAt pgLANE n) 0).laneErr n (u.laneCfg n) = none :=
  ⟨(planned : State), _, (0 : Fin 32), (0 : Word), by decide +kernel, by decide +kernel, by decide +kernel, by decide +kernel, by decide +kernel, rfl, by decide +kernel⟩
theorem test_witness_laneStart : ∃ (s : State) (n : Fin 32) (k : Nat), (s.lane n).phase = .accepted k ∧ s.fab.mig = none :=
  ⟨(dev0.setLane 0 fun l => { l with phase := .accepted 5 } : State), (0 : Fin 32), (5 : Nat), by decide +kernel, by decide +kernel⟩
theorem test_witness_laneDisable : ∃ (s : State) (n : Fin 32), s.sys.deferred = [] ∧ s.thm.shut = false ∧ (s.lane n).on = true ∧ s.fab.mig = none :=
  ⟨(running : State), (0 : Fin 32), by decide +kernel, by decide +kernel, by decide +kernel, by decide +kernel⟩
theorem test_witness_laneCfgShadowWrite : ∃ (s : State) (n : Fin 32), s.sys.deferred = [] ∧ s.thm.shut = false ∧ (s.lane n).on = true ∧ s.rd LANE_CFG_EN n = 1 :=
  ⟨(running.wr LANE_CFG_EN 0 1 : State), (0 : Fin 32), by decide +kernel, by decide +kernel, by decide +kernel, by decide +kernel⟩
theorem test_witness_chfRomRead : ∃ (s : State), s.sys.deferred = [] :=
  ⟨dev0, by decide +kernel⟩
theorem test_witness_rsmDelayWrite : ∃ (s : State) (n : Fin 32), s.sys.deferred = [] ∧ (s.lane n).on = true :=
  ⟨(running : State), (0 : Fin 32), by decide +kernel, by decide +kernel⟩
theorem test_witness_rsmDelayApply : ∃ (s : State) (n : Fin 32) (d : Nat) (a : Nat), (s.lane n).delayNext = some (d, a) :=
  ⟨(dev0.setLane 0 fun l => { l with delayNext := some (3, 5) } : State), (0 : Fin 32), (3 : Nat), (5 : Nat), by decide +kernel⟩
theorem test_witness_guardHoldoffEnd : ∃ (s : State) (a : Nat), s.fab.holdoffEnd = some a ∧ s.wingWarns = false :=
  ⟨(dev0.setFab fun f => { f with holdoffEnd := some 5 } : State), (5 : Nat), by decide +kernel, by decide +kernel⟩
theorem test_witness_wingsWarning : ∃ (s : State) (w : Fin 22) (x : Nat), w.val < 16 ∧ wingPast w x = true ∧ (s.fab.wings.get {} w).warn = false :=
  ⟨dev0, (0 : Fin 22), (200 : Nat), by decide +kernel, by decide +kernel, by decide +kernel⟩
theorem test_witness_minClr : ∃ (s : State), s.sys.deferred = [] :=
  ⟨dev0, by decide +kernel⟩
theorem test_witness_ledgerAudit : ∃ (s : State) (u : State) (n : Fin 32), (List.range 32).filter (fun n => (s.lane n).active) = [n.val] ∧ u = (s.toMul evAUDIT 0 (msT 1)).syncLedger n ∧ (u.ledger n).reported = false ∧ (u.ledger n).imbalance ≠ 0 :=
  ⟨(running.setLedger 0 fun l => { l with late := 3 } : State), _, (0 : Fin 32), by decide +kernel, rfl, by decide +kernel, by decide +kernel⟩
theorem test_witness_ledgerSnapshotGo : ∃ (s : State) (v : Word), s.sys.deferred = [] ∧ (s.lane (LEDG_SNAP_LANE.of (v ||| 0x80000000#32))).active = true :=
  ⟨(running : State), (0 : Word), by decide +kernel, by decide +kernel⟩
theorem test_witness_ledgerSnapshotDone : ∃ (s : State) (u : State) (n : Fin 32) (a : Nat), s.fab.snap = some (n.val, a) ∧ u = (s.reach a).syncLedger n :=
  ⟨(dev0.setFab fun f => { f with snap := some (0, 5) } : State), _, (0 : Fin 32), (5 : Nat), by decide +kernel, rfl⟩
theorem test_witness_ledgerClearGo : ∃ (s : State), s.sys.deferred = [] :=
  ⟨dev0, by decide +kernel⟩
theorem test_witness_ledgerClearApply : ∃ (s : State) (u : State) (n : Nat) (a : Nat), s.fab.clr = some (n, a) ∧ u = (s.reach a).syncLedger n :=
  ⟨(dev0.setFab fun f => { f with clr := some (0, 5) } : State), _, (0 : Nat), (5 : Nat), by decide +kernel, rfl⟩
theorem test_witness_laneSample : ∃ (s : State) (u : State) (n : Fin 32), (s.lane n).active = true ∧ u = s.toSample (evSAMPLE + n) n 1 :=
  ⟨(running : State), _, (0 : Fin 32), by decide +kernel, rfl⟩
theorem test_witness_slackWindowEnd : ∃ (s : State) (u : State) (act : List (Fin 188 × BitVec 12)) (i : Fin 188) (j : Nat) (c : Nat), u = s.toMul evSLACK 0 gaugeT ∧ (act.map fun x => (x.1.val, x.2.toNat)).find? (fun x => x.1 == i.val) = some (j, c) :=
  ⟨dev0, _, ([(0, 5)] : List (Fin 188 × BitVec 12)), (0 : Fin 188), (0 : Nat), (5 : Nat), rfl, by decide +kernel⟩
theorem test_witness_migrationGo : ∃ (s : State) (u : State) (src : Nat) (dst : Nat) (b : Nat) (warm : Nat), s.sys.deferred = [] ∧ src = s.rd LEDG_MIG_CFG_SRC 0 ∧ dst = s.rd LEDG_MIG_CFG_DST 0 ∧ b = s.rd LEDG_MIG_S_HI 0 * 2 ^ 32 + s.rd LEDG_MIG_S_LO 0 ∧ warm = warmLen (s.lane src).rate (s.slotLat dst) ∧ s.rd LEDG_MIG_CFG_REMOTE 0 = 0 ∧ s.fab.mig = none ∧ (s.lane src).on = true ∧ b % 64 = 0 ∧ s.now + msT 1 ≤ b * (s.lane src).period ∧ b * (s.lane src).period ≤ s.now + secT 10 ∧ (s.lane dst).on = false ∧ downlink dst = downlink src ∧ (s.laneCfg dst).rate = (s.lane src).rate ∧ s.laneErr dst (s.laneCfg dst) = none ∧ s.lat src ≤ s.slotLat dst ∧ s.targetAccept dst (b - warm) b (s.slotPathsOn src) = some u :=
  ⟨(((planned.setLane 0 fun l => { l with phase := .running 0 }).wr LEDG_MIG_CFG_DST 0 1).wr LEDG_MIG_S_LO 0 2048 : State), _, _, _, _, _, by decide +kernel, rfl, rfl, rfl, rfl, by decide +kernel, by decide +kernel, by decide +kernel, by decide +kernel, by decide +kernel, by decide +kernel, by decide +kernel, by decide +kernel, by decide +kernel, by decide +kernel, by decide +kernel, rfl⟩
theorem test_witness_migrationAbort : ∃ (s : State) (m : Mig), s.sys.deferred = [] ∧ s.fab.mig = some m ∧ s.rd LEDG_MIG_STAT_PHASE 0 = migWARMING :=
  ⟨((dev0.setFab fun f => { f with mig := some ⟨0, 1, 64, false, 0, 1, 0, false, false⟩ }).wr LEDG_MIG_STAT_PHASE 0 migWARMING : State), (⟨0, 1, 64, false, 0, 1, 0, false, false⟩ : Mig), by decide +kernel, by decide +kernel, by decide +kernel⟩
theorem test_witness_migrationWarmStart : ∃ (s : State) (m : Mig), s.fab.mig = some m ∧ m.warmed = false ∧ s.rd LEDG_MIG_STAT_PHASE 0 = migWARMING :=
  ⟨((dev0.setFab fun f => { f with mig := some ⟨0, 1, 64, false, 0, 1, 0, false, false⟩ }).wr LEDG_MIG_STAT_PHASE 0 migWARMING : State), (⟨0, 1, 64, false, 0, 1, 0, false, false⟩ : Mig), by decide +kernel, by decide +kernel, by decide +kernel⟩
theorem test_witness_migrationReady : ∃ (s : State) (m : Mig), s.fab.mig = some m ∧ m.warmed = true ∧ s.rd LEDG_MIG_STAT_PHASE 0 = migWARMING :=
  ⟨((dev0.setFab fun f => { f with mig := some ⟨0, 1, 64, false, 0, 1, 0, true, false⟩ }).wr LEDG_MIG_STAT_PHASE 0 migWARMING : State), (⟨0, 1, 64, false, 0, 1, 0, true, false⟩ : Mig), by decide +kernel, by decide +kernel, by decide +kernel⟩
theorem test_witness_migrationDeadline : ∃ (s : State) (m : Mig), s.fab.mig = some m ∧ s.migSource = true ∧ s.rd LEDG_MIG_STAT_PHASE 0 = migWARMING ∧ s.rd LEDG_MIG_STAT_READY 0 ≠ 0 :=
  ⟨(((dev0.setFab fun f => { f with mig := some ⟨0, 1, 64, false, 0, 1, 0, true, false⟩ }).wr LEDG_MIG_STAT_PHASE 0 migWARMING).wr LEDG_MIG_STAT_READY 0 1 : State), (⟨0, 1, 64, false, 0, 1, 0, true, false⟩ : Mig), by decide +kernel, by decide +kernel, by decide +kernel, by decide +kernel⟩
theorem test_witness_migrationBoundary : ∃ (s : State) (m : Mig), s.fab.mig = some m ∧ s.migSource = true ∧ m.crossed = false ∧ s.rd LEDG_MIG_STAT_PHASE 0 = migCOMMITTED :=
  ⟨((dev0.setFab fun f => { f with mig := some ⟨0, 1, 64, false, 0, 1, 0, true, false⟩ }).wr LEDG_MIG_STAT_PHASE 0 migCOMMITTED : State), (⟨0, 1, 64, false, 0, 1, 0, true, false⟩ : Mig), by decide +kernel, by decide +kernel, by decide +kernel, by decide +kernel⟩
theorem test_witness_migrationDone : ∃ (s : State) (m : Mig), s.fab.mig = some m ∧ s.migSource = true ∧ m.crossed = true :=
  ⟨(dev0.setFab fun f => { f with mig := some ⟨0, 1, 64, false, 0, 1, 0, true, true⟩ } : State), (⟨0, 1, 64, false, 0, 1, 0, true, true⟩ : Mig), by decide +kernel, by decide +kernel, by decide +kernel⟩
theorem test_witness_portUseEnd : ∃ (s : State) (m : Fin 8) (tx : Bool) (d : Nat), s.tddPort m = true ∧ s.useEnd m tx = some d :=
  ⟨(tdd0 : State), (0 : Fin 8), (true : Bool), ((tdd0.useEnd 0 true).get (by decide +kernel) : Nat), by decide +kernel, by decide +kernel⟩
theorem test_witness_portUseStart : ∃ (s : State) (m : Fin 8) (d : Nat) (tx : Bool), s.tddPort m = true ∧ s.nextUse m = some (d, tx) ∧ s.rd RFC_PORT_CFG_COEX m = 0 :=
  ⟨(tdd0 : State), (0 : Fin 8), (((tdd0.nextUse 0).get (by decide +kernel)).1 : Nat), (((tdd0.nextUse 0).get (by decide +kernel)).2 : Bool), by decide +kernel, by decide +kernel, by decide +kernel⟩
theorem test_witness_refInFail : ∃ (s : State), s.time.refFail = false :=
  ⟨dev0, by decide +kernel⟩
theorem test_witness_refInRecovered : ∃ (s : State), s.time.refFail = true :=
  ⟨(dev0.setTime fun t => { t with refFail := true } : State), by decide +kernel⟩
theorem test_witness_portCmdOff : ∃ (s : State), s.sys.deferred = [] :=
  ⟨dev0, by decide +kernel⟩
theorem test_witness_turnRoundLineEvent : ∃ (s : State) (m : Fin 8) (x : Turn), (s.rport m).turn = some x ∧ x.next < (if x.toTx then 3 else 4) :=
  ⟨(dev0.setRport 0 fun r => { r with turn := some ⟨true, 5, 0⟩ } : State), (0 : Fin 8), (⟨true, 5, 0⟩ : Turn), by decide +kernel, by decide +kernel⟩
theorem test_witness_turnRoundComplete : ∃ (s : State) (m : Fin 8) (x : Turn), (s.rport m).turn = some x ∧ x.toTx = true ∧ s.tddPort m = true ∧ s.portState m ≠ stCAL :=
  ⟨(tdd0.setRport 0 fun r => { r with turn := some ⟨true, 5, 0⟩ } : State), (0 : Fin 8), (⟨true, 5, 0⟩ : Turn), by decide +kernel, by decide +kernel, by decide +kernel, by decide +kernel⟩
theorem test_witness_paSettleExpiry : ∃ (s : State) (m : Fin 8) (a : Nat), (s.rport m).settle = some a ∧ s.portState m = stRX :=
  ⟨((dev0.setRport 0 fun r => { r with settle := some 5 }).wr RFC_PORT_STAT_STATE 0 stRX : State), (0 : Fin 8), (5 : Nat), by decide +kernel, by decide +kernel⟩
theorem test_witness_synGoA : ∃ (s : State), s.sys.deferred = [] ∧ s.lanesOn = [] ∧ s.planBad 0 = false :=
  ⟨(planned.wr SYN_A_NUM 0 2 |>.wr SYN_A_DEN 0 1 |>.wr SYN_B_NUM 0 4 |>.wr SYN_B_DEN 0 1 : State), by decide +kernel, by decide +kernel, by decide +kernel⟩
theorem test_witness_synGoB : ∃ (s : State), s.sys.deferred = [] ∧ s.lanesOn = [] ∧ s.planBad 1 = false :=
  ⟨(planned.wr SYN_A_NUM 0 2 |>.wr SYN_A_DEN 0 1 |>.wr SYN_B_NUM 0 4 |>.wr SYN_B_DEN 0 1 : State), by decide +kernel, by decide +kernel, by decide +kernel⟩
theorem test_witness_synCalComplete : ∃ (s : State) (b : Bool), s.synState b.toNat = synCAL :=
  ⟨(dev0.setSynState 0 synCAL : State), (false : Bool), by decide +kernel⟩
theorem test_witness_synLock : ∃ (s : State) (b : Bool), s.synState b.toNat = synLOCKING :=
  ⟨(dev0.setSynState 0 synLOCKING : State), (false : Bool), by decide +kernel⟩
theorem test_witness_synReady : ∃ (s : State) (b : Bool), s.synState b.toNat = synCONVCAL ∧ ((s.synConvs b.toNat).any fun c => (s.cv c).cal) = false :=
  ⟨(dev0.setSynState 0 synCONVCAL : State), (false : Bool), by decide +kernel, by decide +kernel⟩
theorem test_witness_synLossOfLock : ∃ (s : State) (b : Bool), s.synState b.toNat = synREADY :=
  ⟨(dev0.setSynState 0 synREADY : State), (false : Bool), by decide +kernel⟩
theorem test_witness_txTimeoutTdd : ∃ (s : State) (u : State) (m : Fin 8) (a : Nat), (s.rport m).txEnd = some a ∧ u = (s.reach (a + usT 10)).setRport m (fun r => { r with txEnd := none }) ∧ u.tddPort m = true ∧ u.paen m = true ∧ (u.rport m).use ≠ .tx :=
  ⟨((tdd0.setRport 0 fun r => { r with txEnd := some 5 }).wr RFC_PORT_STAT_STATE 0 stTX |>.wr (causeFld cSTATE) 0 0 : State), _, (0 : Fin 8), (5 : Nat), by decide +kernel, rfl, by decide +kernel, by decide +kernel, by decide +kernel⟩
theorem test_witness_presenceLossTimeout : ∃ (s : State) (m : Fin 8) (a : Nat), (s.rport m).lossFrom = some a ∧ (s.rport m).lossHit = false :=
  ⟨(dev0.setRport 0 fun r => { r with lossFrom := some 5 } : State), (0 : Fin 8), (5 : Nat), by decide +kernel, by decide +kernel⟩
theorem test_witness_attnGo : ∃ (s : State) (x : Fin 2), s.sys.deferred = [] ∧ s.rd ATTN_CFG_OWNER x = 0 ∧ s.rd ATTN_CFG_LEN x ≠ 0 ∧ s.rd ATTN_STAT_BUSY x = 0 :=
  ⟨(dev0.wr ATTN_CFG_LEN 0 8 : State), (0 : Fin 2), by decide +kernel, by decide +kernel, by decide +kernel, by decide +kernel⟩
theorem test_witness_attnShiftDone : ∃ (s : State) (x : Fin 2), (s.attn x).shifting = true ∧ s.rd ATTN_CFG_LATCH x ≠ 0 :=
  ⟨((dev0.setAttn 0 fun a => { a with shifting := true }).wr ATTN_CFG_LATCH 0 1 : State), (0 : Fin 2), by decide +kernel, by decide +kernel⟩
theorem test_witness_attnLatch : ∃ (s : State) (x : Fin 2), (s.attn x).awaiting = true ∧ s.rd ATTN_CFG_LATCH x = 2 ∧ (s.attn x).held = none :=
  ⟨((dev0.setAttn 0 fun a => { a with awaiting := true }).wr ATTN_CFG_LATCH 0 2 : State), (0 : Fin 2), by decide +kernel, by decide +kernel, by decide +kernel⟩
theorem test_witness_coexReqInRise : ∃ (s : State), s.rd COEX_CFG_IN_POL 0 = 0 :=
  ⟨(dev0.wr COEX_CFG_IN_POL 0 0 : State), by decide +kernel⟩
theorem test_witness_coexGrantOut : ∃ (s : State), s.rfc.granted = true ∧ s.rd COEX_STAT_GNT_OUT 0 = 0 :=
  ⟨(dev0.setRfc fun r => { r with granted := true } : State), by decide +kernel, by decide +kernel⟩
theorem test_witness_coexMaxHoldExpiry : ∃ (s : State) (a : Nat), s.rfc.grantAt = some a ∧ s.rd COEX_TIME_MAX_HOLD 0 ≠ 0 :=
  ⟨(dev0.setRfc (fun r => { r with grantAt := some 5 }) |>.wr COEX_TIME_MAX_HOLD 0 5 : State), (5 : Nat), by decide +kernel, by decide +kernel⟩
theorem test_witness_coexReqOutRaise : ∃ (s : State) (m : Fin 8), s.rd RFC_PORT_CFG_COEX m ≠ 0 ∧ s.rd COEX_CFG_OUT_MODE 0 = 1 ∧ s.tddPort m = false ∧ (s.rport m).entry = true :=
  ⟨(((dev0.wr RFC_PORT_CFG_COEX 0 1).wr COEX_CFG_OUT_MODE 0 1).setRport 0 fun r => { r with entry := true } : State), (0 : Fin 8), by decide +kernel, by decide +kernel, by decide +kernel, by decide +kernel⟩
theorem test_witness_coexGntInRise : ∃ (s : State) (m : Fin 8), (s.rport m).coexWait = true ∧ (s.portState m = stTX ∨ (s.rport m).entry = true) :=
  ⟨(dev0.setRport 0 fun r => { r with coexWait := true, entry := true } : State), (0 : Fin 8), by decide +kernel, by decide +kernel⟩
theorem test_witness_coexGntInFall : ∃ (s : State) (u : State), s.rd COEX_CFG_OUT_MODE 0 = 2 ∧ u = { s with pins := { s.pins with coexGntIn := false } } ∧ (u.shared.any fun m => u.paen m) = true :=
  ⟨(((dev0.wr COEX_CFG_OUT_MODE 0 2).wr RFC_PORT_CFG_COEX 0 1).wr RFC_PORT_STAT_STATE 0 stTX |>.wr (causeFld cSTATE) 0 0 : State), _, by decide +kernel, rfl, by decide +kernel⟩
theorem test_witness_twcCommandGo : ∃ (s : State) (q : Fin 2) (v : Word), s.sys.deferred = [] ∧ TWC_CMD_WLEN.of (v ||| 0x80000000#32) ≤ 32 ∧ TWC_CMD_RLEN.of (v ||| 0x80000000#32) ≤ 32 ∧ s.rd TWC_CMD_STAT_BUSY q = 0 ∧ TWC_CMD_WLEN.of (v ||| 0x80000000#32) + TWC_CMD_RLEN.of (v ||| 0x80000000#32) + TWC_CMD_PEC.of (v ||| 0x80000000#32) ≤ 33 ∧ s.rd TWC_CFG_EN q ≠ 0 ∧ (s.tw q).run = none ∧ (s.tw q).clear = false ∧ (s.tw q).clearReq = false ∧ (s.tw q).regWait = none ∧ s.rd TWC_STAT_STUCK q = 0 ∧ s.rd TWC_STAT_SDA q ≠ 0 :=
  ⟨(dev0.wr TWC_CFG_EN 0 1 |>.wr TWC_STAT_SDA 0 1 : State), (0 : Fin 2), (0 : Word), by decide +kernel, by decide +kernel, by decide +kernel, by decide +kernel, by decide +kernel, by decide +kernel, by decide +kernel, by decide +kernel, by decide +kernel, by decide +kernel, by decide +kernel, by decide +kernel⟩
theorem test_witness_twcTransactionDone : ∃ (s : State) (q : Fin 2), (s.tw q).run = some .host :=
  ⟨(dev0.setTw 0 fun t => { t with run := some .host } : State), (0 : Fin 2), by decide +kernel⟩
theorem test_witness_pollDue : ∃ (s : State) (u : State) (q : Fin 2) (e : Fin 16), s.rd TWC_POLL_A_EN (pollIx q e) ≠ 0 ∧ (s.tw q).run.isSome = true ∧ (s.tw q).polls.contains e.val = false ∧ u = s.toMul (evPOLL + 16 * q + e) 0 (983040 * max 1 (s.rd TWC_POLL_B (pollIx q e))) :=
  ⟨((dev0.setTw 0 fun t => { t with run := some .host }).wr TWC_POLL_A_EN (pollIx 0 0) 1 : State), _, (0 : Fin 2), (0 : Fin 16), by decide +kernel, by decide +kernel, by decide +kernel, rfl⟩
theorem test_witness_regulatorRetry : ∃ (s : State) (q : Fin 2) (a : Nat) (mv : Nat), (s.tw q).retryAt = some a ∧ (s.tw q).regWait = some mv ∧ s.rd TWC_CFG_EN q ≠ 0 ∧ (s.tw q).run = none ∧ (s.tw q).clear = false ∧ (s.tw q).clearReq = false ∧ s.rd TWC_STAT_STUCK q = 0 ∧ s.rd TWC_STAT_SDA q ≠ 0 :=
  ⟨((dev0.setTw 0 fun t => { t with retryAt := some 5, regWait := some 900 }).wr TWC_CFG_EN 0 1 |>.wr TWC_STAT_SDA 0 1 : State), (0 : Fin 2), (5 : Nat), (900 : Nat), by decide +kernel, by decide +kernel, by decide +kernel, by decide +kernel, by decide +kernel, by decide +kernel, by decide +kernel, by decide +kernel⟩
theorem test_witness_twcAbort : ∃ (s : State) (q : Fin 2), s.sys.deferred = [] ∧ (s.tw q).run = some .host ∧ s.rd TWC_CFG_EN q ≠ 0 ∧ (s.tw q).clear = false :=
  ⟨((dev0.setTw 0 fun t => { t with run := some .host }).wr TWC_CFG_EN 0 1 : State), (0 : Fin 2), by decide +kernel, by decide +kernel, by decide +kernel, by decide +kernel⟩
theorem test_witness_twcClear : ∃ (s : State) (q : Fin 2), s.sys.deferred = [] ∧ (s.tw q).run = none ∧ s.rd TWC_CFG_EN q ≠ 0 ∧ (s.tw q).clear = false :=
  ⟨(dev0.wr TWC_CFG_EN 0 1 : State), (0 : Fin 2), by decide +kernel, by decide +kernel, by decide +kernel, by decide +kernel⟩
theorem test_witness_busClearDone : ∃ (s : State) (q : Fin 2), (s.tw q).clear = true :=
  ⟨(dev0.setTw 0 fun t => { t with clear := true } : State), (0 : Fin 2), by decide +kernel⟩
theorem test_witness_portCmdRx : ∃ (s : State) (m : Fin 8), s.sys.deferred = [] ∧ s.portState m = stRX ∧ (s.rport m).settle = none ∧ (s.rport m).entry = false :=
  ⟨(dev0.wr RFC_PORT_STAT_STATE 0 stRX : State), (0 : Fin 8), by decide +kernel, by decide +kernel, by decide +kernel, by decide +kernel⟩
theorem test_witness_portCmdTx : ∃ (s : State) (m : Fin 8), s.sys.deferred = [] ∧ s.portState m = stRX ∧ (s.rport m).settle = none ∧ (s.rport m).entry = false ∧ s.performing = false ∧ s.synHold m = false ∧ s.synBusy 0 = false ∧ s.synBusy 1 = false :=
  ⟨(dev0.wr RFC_PORT_STAT_STATE 0 stRX : State), (0 : Fin 8), by decide +kernel, by decide +kernel, by decide +kernel, by decide +kernel, by decide +kernel, by decide +kernel, by decide +kernel, by decide +kernel⟩
theorem test_witness_sysCmdStart : ∃ (s : State) (u : State), s.sys.dark = false ∧ s.rd SYS_STATE_IN_TRANSITION 0 = 0 ∧ s.sys.deferred = [] ∧ s.devState = stREHEARSAL ∧ u = ({ s with sys := { s.sys with stopHeld := false } } : State).wr SYS_STATE_PENDING 0 cmdSTART ∧ u.mayPerform = true :=
  ⟨dev0, _, by decide +kernel, by decide +kernel, by decide +kernel, by decide +kernel, rfl, by decide +kernel⟩
theorem test_witness_sysCmdResume : ∃ (s : State) (u : State), s.sys.dark = false ∧ s.rd SYS_STATE_IN_TRANSITION 0 = 0 ∧ s.sys.deferred = [] ∧ s.devState = stINTERVAL ∧ u = s.wr SYS_STATE_PENDING 0 cmdRESUME ∧ u.mayPerform = true :=
  ⟨(dev0.wr SYS_STATE_DEV_STATE 0 3 : State), _, by decide +kernel, by decide +kernel, by decide +kernel, by decide +kernel, rfl, by decide +kernel⟩
theorem test_witness_sysCmdPause : ∃ (s : State), s.sys.dark = false ∧ s.rd SYS_STATE_IN_TRANSITION 0 = 0 ∧ s.sys.deferred = [] ∧ s.devState = stPERFORMANCE :=
  ⟨(dev0.wr SYS_STATE_DEV_STATE 0 2 : State), by decide +kernel, by decide +kernel, by decide +kernel, by decide +kernel⟩
theorem test_witness_sysCmdStop : ∃ (s : State), s.sys.dark = false ∧ s.rd SYS_STATE_IN_TRANSITION 0 = 0 ∧ s.sys.deferred = [] ∧ s.devState ≠ stREHEARSAL :=
  ⟨(dev0.wr SYS_STATE_DEV_STATE 0 2 : State), by decide +kernel, by decide +kernel, by decide +kernel, by decide +kernel⟩
theorem test_witness_sysCmdReservedCode : ∃ (s : State), s.rd SYS_STATE_IN_TRANSITION 0 = 0 ∧ s.sys.deferred = [] :=
  ⟨dev0, by decide +kernel, by decide +kernel⟩
theorem test_witness_deferredCmdEvaluation : ∃ (s : State), s.rd SYS_STATE_IN_TRANSITION 0 = 0 ∧ s.sys.deferred = [.write 0x40 5#32] :=
  ⟨(dev0.setSys fun x => { x with deferred := [.write 0x40 5#32] } : State), by decide +kernel, by decide +kernel⟩
theorem test_witness_enterPerformance : ∃ (s : State), s.sys.dark = false ∧ s.mayPerform = true ∧ ((s.rd SYS_STATE_PENDING 0 = cmdSTART ∧ s.devState = stREHEARSAL) ∨ (s.rd SYS_STATE_PENDING 0 = cmdRESUME ∧ s.devState = stINTERVAL)) :=
  ⟨(dev0.wr SYS_STATE_PENDING 0 cmdSTART : State), by decide +kernel, by decide +kernel, by decide +kernel⟩
theorem test_witness_pauseComplete : ∃ (s : State), s.devState = stPERFORMANCE ∧ s.rd SYS_STATE_IN_TRANSITION 0 = 1 ∧ ((∀ m < 8, s.down m = true)) :=
  ⟨(dev0.wr SYS_STATE_DEV_STATE 0 2 |>.wr SYS_STATE_IN_TRANSITION 0 1 : State), by decide +kernel, by decide +kernel, by decide +kernel⟩
theorem test_witness_stateParity : ∃ (s : State), s.devState ≠ stREHEARSAL :=
  ⟨(dev0.wr SYS_STATE_DEV_STATE 0 2 : State), by decide +kernel⟩
theorem test_witness_timeMessageSend : ∃ (s : State) (u : State), s.isRef = true ∧ u = s.toMul evTIMEMSG 0 983040 ∧ s.rportUp 1 = true ∧ s.ring.broken = [] ∧ (s.vc 1 2).credits ≠ 0 ∧ (s.ring.queue.any fun g => g.port == 1 && g.vc == 2) = false :=
  ⟨(dev0.wr SYS_STATE_VERTEX 0 1 |>.wr RING_PORT_STAT_STATE 1 2 : State), _, by decide +kernel, rfl, by decide +kernel, by decide +kernel, by decide +kernel, by decide +kernel⟩
theorem test_witness_arcDelayMeasurement : ∃ (s : State) (u : State), u = s.toMul evARC 0 983040 ∧ s.rportUp 0 = true ∧ s.rportUp 1 = false ∧ (s.vc 0 2).credits ≠ 0 ∧ (s.ring.queue.any fun g => g.port == 0 && g.vc == 2) = false :=
  ⟨(dev0.wr RING_PORT_STAT_STATE 0 2 : State), _, rfl, by decide +kernel, by decide +kernel, by decide +kernel, by decide +kernel⟩
theorem test_witness_delayRequestReceived : ∃ (s : State) (p : Bool), s.rportUp p.toNat = true ∧ (s.vc p.toNat 2).credits ≠ 0 ∧ (s.ring.queue.any fun g => g.port == p.toNat && g.vc == 2) = false :=
  ⟨(dev0.wr RING_PORT_STAT_STATE 0 2 : State), (false : Bool), by decide +kernel, by decide +kernel, by decide +kernel⟩
theorem test_witness_delayAnswerReceived : ∃ (rtt : Nat) (turn : Nat) (corr : Int) (d : Int), d = roundDiv ((rtt : Int) - turn + 2 * corr) 2 ∧ 0 ≤ d ∧ d < 2 ^ TIME_ARC_DN.w :=
  ⟨(0 : Nat), (0 : Nat), (0 : Int), _, rfl, by decide +kernel, by decide +kernel⟩
theorem test_witness_storageReady : ∃ (s : State) (m : MediumInfo), s.rd STM_STAT_READY 0 = 0 ∧ m.kind = .blank :=
  ⟨dev0, (medium0 : MediumInfo), by decide +kernel, by decide +kernel⟩
theorem test_witness_formatGo : ∃ (s : State), s.sys.deferred = [] ∧ s.sys.dark = false ∧ s.stm.format = false ∧ s.fmtErr false = none :=
  ⟨(blank : State), by decide +kernel, by decide +kernel, by decide +kernel, by decide +kernel⟩
theorem test_witness_reshape : ∃ (s : State), s.sys.deferred = [] ∧ s.stm.format = false ∧ s.fmtErr true = none :=
  ⟨(blank.wr STM_STAT_MEDIUM 0 medOWN |>.wr STM_PART_P16 0 1 : State), by decide +kernel, by decide +kernel, by decide +kernel⟩
theorem test_witness_formatDone : ∃ (s : State), s.stm.format = true ∧ s.stm.reshape = false :=
  ⟨(dev0.setStm fun x => { x with format := true } : State), by decide +kernel, by decide +kernel⟩
theorem test_witness_codewordUncorrectable : ∃ (s : State) (part : Fin 5) (unit : Nat) (copies : List (List (BitVec 36608))), ((∀ c ∈ copies, s.decodeCopy part unit c = .failed)) :=
  ⟨dev0, (0 : Fin 5), (0 : Nat), ([] : List (List (BitVec 36608))), by decide +kernel⟩
theorem test_witness_blockRefresh : ∃ (s : State) (n : Nat) (pslc : Bool), s.stm.work = [] ∧ s.ahead 6 = false ∧ s.rd STM_LIMITS_RD_LIM 0 * (if pslc then 10000 else 1000) ≤ n :=
  ⟨dev0, (100000000 : Nat), (false : Bool), by decide +kernel, by decide +kernel, by decide +kernel⟩
theorem test_witness_scrubPassComplete : ∃ (s : State), s.stm.work = [] ∧ s.ahead 7 = false :=
  ⟨dev0, by decide +kernel, by decide +kernel⟩
theorem test_witness_wearCheckpoint : ∃ (s : State), s.stm.erases < 8192 :=
  ⟨dev0, by decide +kernel⟩
theorem test_witness_ceBusyTimeout : ∃ (s : State), s.rd STM_STAT_MIRROR 0 = 1 :=
  ⟨(dev0.wr STM_STAT_MIRROR 0 1 : State), by decide +kernel⟩
theorem test_witness_snapshotArm : ∃ (s : State) (v : Word), s.sys.deferred = [] ∧ STM_CAP_CFG_POINT.of v ≠ 3 ∧ 1 ≤ STM_CAP_CFG_SEV_MIN.of v ∧ STM_CAP_CFG_SEV_MIN.of v ≤ 4 ∧ s.rd STM_CAP_STAT 0 = capIDLE ∧ s.stm.snapUnits ≠ 0 ∧ ((List.range 32).filter (s.rd STM_CAP_LANES 0).testBit).length ≠ 0 ∧ ((List.range 32).filter (s.rd STM_CAP_LANES 0).testBit).length ≤ 8 :=
  ⟨(dev0.setStm (fun x => { x with snapUnits := 8 }) |>.wr STM_CAP_LANES 0 1 : State), (0x10000 : Word), by decide +kernel, by decide +kernel, by decide +kernel, by decide +kernel, by decide +kernel, by decide +kernel, by decide +kernel, by decide +kernel⟩
theorem test_witness_snapshotTrigger : ∃ (s : State) (b : Fin 4), s.tst STM_CAP_CFG_TRIG 0 b = true ∧ s.rd STM_CAP_STAT 0 = capFILLING ∧ s.stm.capLastAt = none :=
  ⟨(dev0.wr STM_CAP_CFG_TRIG 0 0xF |>.wr STM_CAP_STAT 0 capFILLING : State), (0 : Fin 4), by decide +kernel, by decide +kernel, by decide +kernel⟩
theorem test_witness_snapshotHostTrigger : ∃ (s : State), s.sys.deferred = [] ∧ s.tst STM_CAP_CFG_TRIG 0 2 = true ∧ s.rd STM_CAP_STAT 0 = capFILLING ∧ s.stm.capLastAt = none :=
  ⟨(dev0.wr STM_CAP_CFG_TRIG 0 0xF |>.wr STM_CAP_STAT 0 capFILLING : State), by decide +kernel, by decide +kernel, by decide +kernel, by decide +kernel⟩
theorem test_witness_snapshotFillComplete : ∃ (s : State), s.rd STM_CAP_STAT 0 = capPOST :=
  ⟨(dev0.wr STM_CAP_STAT 0 capPOST : State), by decide +kernel⟩
theorem test_witness_snapshotStored : ∃ (s : State), s.rd STM_CAP_STAT 0 = capWRITING ∧ s.rd STM_CAP_CFG_ARM 0 = 0 ∧ s.stm.work = [] ∧ s.ahead 4 = false :=
  ⟨(dev0.wr STM_CAP_STAT 0 capWRITING : State), by decide +kernel, by decide +kernel, by decide +kernel, by decide +kernel⟩
theorem test_witness_historyIntervalBoundary : ∃ (s : State) (u : State), u = s.toMul evHIST 0 (histTicks s.stm.histT) ∧ s.rd STM_HIST_CFG_EN 0 = 1 ∧ s.stm.histUnits ≠ 0 ∧ s.rd STM_STAT_MEDIUM 0 = medOWN ∧ s.rd STM_STAT_READY 0 = 1 ∧ s.stm.work = [] ∧ s.ahead 5 = false :=
  ⟨(dev0.setStm (fun x => { x with histUnits := 8 }) |>.wr STM_HIST_CFG_EN 0 1 |>.wr STM_STAT_MEDIUM 0 medOWN |>.wr STM_STAT_READY 0 1 |>.setPb fun p => { p with restored := true } : State), _, rfl, by decide +kernel, by decide +kernel, by decide +kernel, by decide +kernel, by decide +kernel, by decide +kernel⟩
theorem test_witness_loopEnable : ∃ (s : State) (u : State) (l : Fin 256) (v : Word), s.sys.deferred = [] ∧ (s.loop l).on = false ∧ v.getLsbD 30 = false ∧ v.getLsbD 28 = false ∧ u = s.setLpW l wCFG (maskWord (lpMask 0) (s.lpW l wCFG) (v ||| 0x80000000#32)) ∧ u.loopErr l = none :=
  ⟨(dev0.setLpW 0 wPERIOD 0x10000 : State), _, (0 : Fin 256), (0x02000000 : Word), by decide +kernel, by decide +kernel, by decide +kernel, by decide +kernel, rfl, by decide +kernel⟩
theorem test_witness_loopDisable : ∃ (s : State) (l : Fin 256) (v : Word), s.sys.deferred = [] ∧ (s.loop l).on = true ∧ (s.loop l).stopping = false ∧ v.getLsbD 28 = false :=
  ⟨(dev0.setLoop 0 fun x => { x with on := true } : State), (0 : Fin 256), (0 : Word), by decide +kernel, by decide +kernel, by decide +kernel, by decide +kernel⟩
theorem test_witness_loopSampleBoundary : ∃ (s : State) (l : Fin 256), (s.loop l).on = true ∧ s.thm.shut = false ∧ (s.loop l).stopping = false :=
  ⟨(dev0.setLoop 0 fun x => { x with on := true } : State), (0 : Fin 256), by decide +kernel, by decide +kernel, by decide +kernel⟩
theorem test_witness_cue : ∃ (s : State) (u : State) (l : Fin 256) (v : Word), s.sys.deferred = [] ∧ Memory.wf s.mem = true ∧ (s.loop l).on = false ∧ v.getLsbD 31 = false ∧ v.getLsbD 30 = false ∧ u = s.setLpW l wCFG (maskWord (lpMask 0) (s.lpW l wCFG) (v ||| 0x10000000#32)) ∧ u.lpF l wCFG 27 1 = 0 ∧ u.satClass l (u.lpF l wCFG 25 1 == 1) = true :=
  ⟨(dev0 : State), _, (0 : Fin 256), (0x02000000 : Word), by decide +kernel, by decide +kernel, by decide +kernel, by decide +kernel, by decide +kernel, rfl, by decide +kernel, by decide +kernel⟩
theorem test_witness_cueGroup : ∃ (s : State) (v : Word) (l : Fin 256), s.sys.deferred = [] ∧ Memory.wf s.mem = true ∧ (s.loop l).on = true ∧ ((∀ k : Fin 256, v.getLsbD (s.lpF k wCFG 20 4) = decide (k = l))) ∧ s.lpF l wCFG 27 1 = 0 ∧ s.satClass l (s.lpF l wCFG 25 1 == 1) = true :=
  ⟨((dev0.setLoop 0 fun x => { x with on := true }).setLpF 0 wCFG 25 1 1 |>.setLpF 0 wCFG 20 4 3 : State), (8 : Word), (0 : Fin 256), by decide +kernel, by decide +kernel, by decide +kernel, by decide +kernel, by decide +kernel, by decide +kernel⟩
theorem test_witness_injectGo : ∃ (s : State), s.sys.deferred = [] ∧ s.cte.inj.run = false :=
  ⟨dev0, by decide +kernel, by decide +kernel⟩
theorem test_witness_injectStop : ∃ (s : State), s.sys.deferred = [] ∧ s.cte.inj.run = true :=
  ⟨(dev0.setInj fun x => { x with run := true } : State), by decide +kernel, by decide +kernel⟩
theorem test_witness_captureTrig : ∃ (s : State), s.sys.deferred = [] ∧ s.cte.cap.armed = true :=
  ⟨(dev0.setCap fun x => { x with armed := true } : State), by decide +kernel, by decide +kernel⟩
theorem test_witness_captureArm : ∃ (s : State), s.sys.deferred = [] ∧ s.rd CTE_CAP_CFG_EN 0 = 0 :=
  ⟨dev0, by decide +kernel, by decide +kernel⟩
theorem test_witness_cteMemUncorr : ∃ (s : State) (l : Fin 256), (s.loop l).on = true :=
  ⟨(dev0.setLoop 0 fun x => { x with on := true } : State), (0 : Fin 256), by decide +kernel⟩
theorem test_witness_cteCapUncorr : ∃ (s : State), Memory.wf s.mem = true :=
  ⟨dev0, by decide +kernel⟩
theorem test_witness_hkTimerTrigger : ∃ (s : State) (u : State), s.rd HK_TRIG_TIMER_EN 0 = 1 ∧ s.rd HK_CFG_EN 0 = 1 ∧ s.rd HK_SCAN_MASK 0 ≠ 0 ∧ s.hk.held = none ∧ u = s.toMul evTIMER 0 (1024 * max 1 (s.rd HK_TIMER 0)) :=
  ⟨(dev0.wr HK_TRIG_TIMER_EN 0 1 |>.wr HK_CFG_EN 0 1 |>.wr HK_SCAN_MASK 0 1 : State), _, by decide +kernel, by decide +kernel, by decide +kernel, by decide +kernel, rfl⟩
theorem test_witness_hkPwmTrigger : ∃ (s : State) (x : PwmChan), x = s.pwmChan (s.rd HK_TRIG_PWM_CH 0) ∧ s.rd HK_TRIG_PWM_EN 0 = 1 ∧ s.rd HK_TRIG_PWM_EDGE 0 = 0 ∧ x.en = true ∧ x.t0 = s.now ∧ s.rd HK_CFG_EN 0 = 1 ∧ s.rd HK_SCAN_MASK 0 ≠ 0 ∧ s.hk.held = none :=
  ⟨((dev0.setPwm 0 fun x => { x with en := true }) |>.wr HK_TRIG_PWM_EN 0 1 |>.wr HK_CFG_EN 0 1 |>.wr HK_SCAN_MASK 0 1 : State), _, rfl, by decide +kernel, by decide +kernel, by decide +kernel, by decide +kernel, by decide +kernel, by decide +kernel, by decide +kernel⟩
theorem test_witness_hkGo : ∃ (s : State), s.sys.deferred = [] ∧ s.rd HK_CFG_EN 0 = 1 ∧ s.rd HK_SCAN_MASK 0 ≠ 0 ∧ s.hk.held = none :=
  ⟨(dev0.wr HK_CFG_EN 0 1 |>.wr HK_SCAN_MASK 0 1 : State), by decide +kernel, by decide +kernel, by decide +kernel, by decide +kernel⟩
theorem test_witness_hkScanStart : ∃ (s : State) (a : Nat), s.hk.held = some a ∧ s.hk.scanOn = false ∧ s.hk.slowOn = false ∧ s.hk.conv = none ∧ s.hk.freeAt ≤ a ∧ s.rd HK_SCAN_MASK 0 ≠ 0 :=
  ⟨(dev0.setHk (fun x => { x with held := some 5 }) |>.wr HK_SCAN_MASK 0 1 : State), (5 : Nat), by decide +kernel, by decide +kernel, by decide +kernel, by decide +kernel, by decide +kernel, by decide +kernel⟩
theorem test_witness_slowRoundRequest : ∃ (s : State) (u : State), s.now ≠ 0 ∧ u = s.toMul evSLOW 0 983040 ∧ s.hk.conv = none ∧ s.hk.slowOn = false :=
  ⟨(({ dev0 with now := 5 } : State) : State), _, by decide +kernel, rfl, by decide +kernel, by decide +kernel⟩
theorem test_witness_hkConversionEnd : ∃ (s : State) (c : HkConv) (n : Fin 32), s.hk.conv = some c ∧ c.ch = n ∧ c.slow = false :=
  ⟨(dev0.setHk fun x => { x with conv := some ⟨0, false, false, false, 5⟩ } : State), (⟨0, false, false, false, 5⟩ : HkConv), (0 : Fin 32), by decide +kernel, by decide +kernel, by decide +kernel⟩
theorem test_witness_maxClr : ∃ (s : State), s.sys.deferred = [] :=
  ⟨dev0, by decide +kernel⟩
theorem test_witness_pwmPeriodStart : ∃ (s : State) (n : Fin 6), (s.pwmChan n).loopDuty = none ∧ s.thm.shut = false :=
  ⟨dev0, (0 : Fin 6), by decide +kernel, by decide +kernel⟩
theorem test_witness_pwmDutyEdge : ∃ (s : State) (n : Fin 6), (s.pwmChan n).duty ≠ 0 ∧ (s.pwmChan n).duty < (s.pwmChan n).per ∧ s.now ≤ (s.pwmChan n).t0 + (s.pwmChan n).duty * 2 ^ (s.pwmChan n).presc :=
  ⟨(dev0.setPwm 0 fun x => { x with duty := 5 } : State), (0 : Fin 6), by decide +kernel, by decide +kernel, by decide +kernel⟩
theorem test_witness_bdacStep : ∃ (s : State) (u : State) (k : Fin 8), u = s.toMul evBDAC 0 1024 ∧ s.rd BDAC_CFG_STEP k = 0 :=
  ⟨dev0, _, (0 : Fin 8), rfl, by decide +kernel⟩
theorem test_witness_thermalRestart : ∃ (s : State) (a : Int), s.thm.coolAt = some a ∧ s.thm.shut = true ∧ s.thm.restart = false ∧ a + (secT 1 : Nat) ≤ s.now :=
  ⟨(({ dev0 with now := secT 2 } : State).setThm fun x => { x with shut := true, coolAt := some 5 } : State), (5 : Int), by decide +kernel, by decide +kernel, by decide +kernel, by decide +kernel⟩
theorem test_witness_tunnelledRead : ∃ (s : State) (dev : Fin 64), s.sys.dark = false ∧ s.vertex = true ∧ dev.val ≠ s.devId ∧ s.present dev = true ∧ (s.deliv dev 0).waiting = [] :=
  ⟨(dev0.wr RING_PRES_LO 0 6 |>.wr SYS_STATE_VERTEX 0 1 : State), (2 : Fin 64), by decide +kernel, by decide +kernel, by decide +kernel, by decide +kernel, by decide +kernel⟩
theorem test_witness_tunnelTimeout : ∃ (s : State) (r : TunRead) (rs : List TunRead), s.hif.reads = r :: rs ∧ r.dma = none :=
  ⟨(dev0.setHif fun x => { x with reads := [⟨2, 0x40, 5, none⟩] } : State), (⟨2, 0x40, 5, none⟩ : TunRead), ([] : List TunRead), by decide +kernel, by decide +kernel⟩
theorem test_witness_d0Return : ∃ (s : State), s.rd HIF_PM_D3 0 = 1 ∧ s.rd HIF_PM_SLEEP 0 = 0 :=
  ⟨(dev0.wr HIF_PM_D3 0 1 : State), by decide +kernel, by decide +kernel⟩
theorem test_witness_hostSleepEntry : ∃ (s : State), s.sys.deferred = [] :=
  ⟨dev0, by decide +kernel⟩
theorem test_witness_hostSleepExit : ∃ (s : State), s.sys.deferred = [] ∧ s.rd HIF_PM_D3 0 = 0 :=
  ⟨dev0, by decide +kernel, by decide +kernel⟩
theorem test_witness_sourceAssertion : ∃ (s : State) (n : Fin 256), n.val ≠ 0 ∧ (s.src n).st = .idle ∧ s.rd IC_SRC_EN n = 1 ∧ s.srcLevel n = true :=
  ⟨(asserting : State), (160 : Fin 256), by decide +kernel, by decide +kernel, by decide +kernel, by decide +kernel⟩
theorem test_witness_icClaim : ∃ (s : State) (t : Fin 4) (fast : Bool) (n : Nat), s.sys.dark = false ∧ s.sys.deferred = [] ∧ s.topFor t fast = n ∧ n ≠ 0 :=
  ⟨(asserting.setSrc 160 fun x => { x with st := .pending } : State), (0 : Fin 4), (false : Bool), (160 : Nat), by decide +kernel, by decide +kernel, by decide +kernel, by decide +kernel⟩
theorem test_witness_icComplete : ∃ (s : State) (u : State) (t : Fin 4) (fast : Bool) (n : BitVec 8), s.sys.deferred = [] ∧ n.toNat ≠ 0 ∧ n.toNat < 193 ∧ (s.src n.toNat).st = .active ∧ (s.src n.toNat).owner = t ∧ (s.src n.toNat).fast = fast ∧ u = s.setSrc n.toNat (fun x => { x with st := .idle }) ∧ u.icLaw n.toNat = 0 ∧ u.srcLevel n.toNat = false :=
  ⟨(dev0.setSrc 7 fun x => { x with st := .active, asserts := 1, claims := 1 } : State), _, (0 : Fin 4), (false : Bool), (7 : BitVec 8), by decide +kernel, by decide +kernel, by decide +kernel, by decide +kernel, by decide +kernel, by decide +kernel, rfl, by decide +kernel, by decide +kernel⟩
theorem test_witness_sourceConfigWrite : ∃ (s : State) (n : Fin 256), s.sys.deferred = [] ∧ n.val ≠ 0 :=
  ⟨dev0, (7 : Fin 256), by decide +kernel, by decide +kernel⟩
theorem test_witness_countSnapshot : ∃ (s : State), s.sys.deferred = [] :=
  ⟨dev0, by decide +kernel⟩
theorem test_witness_wakeClear : ∃ (s : State), s.sys.deferred = [] :=
  ⟨dev0, by decide +kernel⟩
theorem test_witness_targetConfigWrite : ∃ (s : State), s.sys.deferred = [] :=
  ⟨dev0, by decide +kernel⟩
theorem test_witness_msixUnmask : ∃ (s : State) (v : Fin 4), s.sys.deferred = [] ∧ Memory.wf s.mem = true ∧ s.vecMasked v = true ∧ s.hif.pba.getLsbD v = true ∧ s.hif.msixEn = true ∧ s.line v = true ∧ s.rd IC_TGT_CFG_DELIV v = 1 :=
  ⟨((asserting.setSrc 160 fun x => { x with st := .pending }).setHif (fun x => { x with pba := 1, msixEn := true }) |>.st (msixEntry 0 + 12) 1 |>.wr IC_TGT_CFG_DELIV 0 1 : State), (0 : Fin 4), by decide +kernel, by decide +kernel, by decide +kernel, by decide +kernel, by decide +kernel, by decide +kernel, by decide +kernel⟩
theorem test_witness_icStateParity : ∃ (s : State) (n : Fin 256), s.rd IC_SRC_EN n = 0 :=
  ⟨dev0, (0 : Fin 256), by decide +kernel⟩
theorem test_witness_otpProgram : ∃ (s : State) (v : Word) (n : Nat), s.sys.deferred = [] ∧ SEC_PROG_SLOT.of v = n ∧ s.sys.dark = false ∧ s.devState = stREHEARSAL ∧ s.slotUsed n = false ∧ (n = 2 → s.slotUsed 1 = true) ∧ SEC_PROG_CONFIRM.of v = 0xC5 ∧ s.boot.prog = none :=
  ⟨dev0, (0xc5000000 : Word), (0 : Nat), by decide +kernel, by decide +kernel, by decide +kernel, by decide +kernel, by decide +kernel, by decide +kernel, by decide +kernel, by decide +kernel⟩
theorem test_witness_otpProgramDone : ∃ (s : State), s.boot.prog = some 0 :=
  ⟨(dev0.setBoot fun b => { b with prog := some 0 } : State), by decide +kernel⟩
theorem test_witness_smemCommandGo : ∃ (s : State) (v : Word), s.sys.deferred = [] ∧ s.smem.run = none ∧ s.sys.dark = false ∧ s.rd SMEM_LEN 0 ≤ 256 ∧ s.rd SMEM_CFG_LOCK 0 = 0 ∧ SMEM_CMD_WREN.of v = 0 :=
  ⟨(dev0.wr SMEM_CFG_LOCK 0 0 : State), (0 : Word), by decide +kernel, by decide +kernel, by decide +kernel, by decide +kernel, by decide +kernel, by decide +kernel⟩
theorem test_witness_smemCommandDone : ∃ (s : State) (c : SmemCmd), s.smem.run = some c :=
  ⟨(({ dev0 with smem := ⟨some ⟨false, false, 4⟩⟩ } : State) : State), (⟨false, false, 4⟩ : SmemCmd), by decide +kernel⟩
theorem test_witness_supplyUnderAlarm : ∃ (s : State) (r : Fin 7), s.tst SYS_SUPPLY_UNDER_NOW 0 r = false :=
  ⟨dev0, (0 : Fin 7), by decide +kernel⟩
theorem test_witness_supplyOverAlarm : ∃ (s : State) (r : Fin 7), s.tst SYS_SUPPLY_OVER_NOW 0 r = false :=
  ⟨dev0, (0 : Fin 7), by decide +kernel⟩
theorem test_witness_gpioEdge : ∃ (s : State) (m : Fin 16) (level : Bool), s.tst SYS_GPIO_DIR 0 m = false ∧ s.pins.gpio.getLsbD m = !level :=
  ⟨(dev0 : State), (0 : Fin 16), (true : Bool), by decide +kernel, by decide +kernel⟩
theorem test_witness_dmaDoorbell : ∃ (s : State), s.sys.deferred = [] :=
  ⟨dev0, by decide +kernel⟩
theorem test_witness_descNop : ∃ (s : State) (q : Fin 8) (d : Desc), s.mayStart q = true ∧ d.kind = 0 :=
  ⟨(queued : State), (0 : Fin 8), (desc 0 : Desc), by decide +kernel, by decide +kernel⟩
theorem test_witness_descMemoryRead : ∃ (s : State) (q : Fin 8) (d : Desc) (st : Nat) (info : Nat) (ws : List Word), s.mayStart q = true ∧ d.kind = 1 ∧ s.descErr d = none ∧ d.dev = s.devId ∧ (s.descBegin q (s.runOf q d)).bulkData d = (st, info, ws) ∧ ws ≠ [] :=
  ⟨(queued : State), (0 : Fin 8), (desc 1 : Desc), (0 : Nat), (0 : Nat), ((queued.bulkData (desc 1)).2.2 : List Word), by decide +kernel, by decide +kernel, by decide +kernel, by decide +kernel, by decide +kernel, by decide +kernel⟩
theorem test_witness_descMediumRead : ∃ (s : State) (q : Fin 8) (d : Desc) (st : Nat) (info : Nat) (ws : List Word), s.mayStart q = true ∧ d.kind = 2 ∧ s.descErr d = none ∧ d.dev = s.devId ∧ s.stm.work = [] ∧ s.ahead 3 = false ∧ (s.descBegin q (s.runOf q d)).bulkData d = (st, info, ws) ∧ ws ≠ [] :=
  ⟨(queued.wr STM_PART_P16 0 1 |>.setPb fun p => { p with restored := true } : State), (0 : Fin 8), (⟨0x20000000, 1, 0, 0, 0, 0⟩ : Desc), (0 : Nat), (0 : Nat), (((queued.wr STM_PART_P16 0 1).bulkData ⟨0x20000000, 1, 0, 0, 0, 0⟩).2.2 : List Word), by decide +kernel, by decide +kernel, by decide +kernel, by decide +kernel, by decide +kernel, by decide +kernel, by decide +kernel, by decide +kernel⟩
theorem test_witness_descRegisterRead : ∃ (s : State) (q : Fin 8) (d : Desc), s.sys.deferred = [] ∧ s.mayStart q = true ∧ d.kind = 3 ∧ s.descErr d = none ∧ d.dev = s.devId :=
  ⟨(queued : State), (0 : Fin 8), (desc 3 : Desc), by decide +kernel, by decide +kernel, by decide +kernel, by decide +kernel, by decide +kernel⟩
theorem test_witness_descRegisterWrite : ∃ (s : State) (u : State) (v : State) (q : Fin 8) (d : Desc) (w : Word), s.sys.deferred = [] ∧ s.mayStart q = true ∧ d.kind = 4 ∧ s.descErr d = none ∧ d.dev = s.devId ∧ d.len = 4 ∧ u = (s.descBegin q { s.runOf q d with bytes := 4 }) ∧ u.hostWrite d.devAddr w = v ∧ v.sys.deferred = [] :=
  ⟨(queued : State), _, _, (0 : Fin 8), (desc 4 : Desc), (0 : Word), by decide +kernel, by decide +kernel, by decide +kernel, by decide +kernel, by decide +kernel, by decide +kernel, rfl, rfl, by decide +kernel⟩
theorem test_witness_descRefusedKind : ∃ (s : State) (q : Fin 8) (d : Desc), s.mayStart q = true ∧ s.descErr d = some 6 :=
  ⟨(queued : State), (0 : Fin 8), (desc 5 : Desc), by decide +kernel, by decide +kernel⟩
theorem test_witness_descComplete : ∃ (s : State) (q : Fin 8) (r : DmaRun), (s.dmaQ q).run = some r ∧ r.done = true ∧ s.rd HIF_PM_D3 0 = 0 :=
  ⟨(dev0.setDmaQ 0 fun x => { x with run := some { run0 with done := true } } : State), (0 : Fin 8), ({ run0 with done := true } : DmaRun), by decide +kernel, by decide +kernel, by decide +kernel⟩
theorem test_witness_descFetchError : ∃ (s : State) (q : Fin 8), s.mayStart q = true :=
  ⟨(queued : State), (0 : Fin 8), by decide +kernel⟩
theorem test_witness_cqHeadWrite : ∃ (s : State), s.sys.deferred = [] :=
  ⟨dev0, by decide +kernel⟩
theorem test_witness_moderationTimeout : ∃ (s : State) (q : Fin 8) (a : Nat) (l : List (Option Nat)), (s.dmaQ q).unsig = some a :: l :=
  ⟨(dev0.setDmaQ 0 fun x => { x with unsig := [some 5] } : State), (0 : Fin 8), (5 : Nat), ([] : List (Option Nat)), by decide +kernel⟩
theorem test_witness_queueEnable : ∃ (s : State) (q : Fin 8) (v : Word), s.sys.deferred = [] ∧ s.rd DMA_Q_CFG_EN q = 0 ∧ s.rd DMA_Q_BASE_LO q % 4096 = 0 ∧ s.rd DMA_CQ_BASE_LO q % 4096 = 0 ∧ DMA_Q_CFG_MOD_CNT.of v = 1 :=
  ⟨dev0, (0 : Fin 8), (0x10000 : Word), by decide +kernel, by decide +kernel, by decide +kernel, by decide +kernel, by decide +kernel⟩
theorem test_witness_queueDisable : ∃ (s : State) (q : Fin 8), s.sys.deferred = [] ∧ s.rd DMA_Q_CFG_EN q = 1 ∧ s.qState q = qRUNNING :=
  ⟨(queued.wr DMA_Q_CFG_EN 0 1 : State), (0 : Fin 8), by decide +kernel, by decide +kernel, by decide +kernel⟩
theorem test_witness_queueDrained : ∃ (s : State) (q : Fin 8), s.qState q = qDRAINING ∧ (s.dmaQ q).run = none :=
  ⟨(dev0.wr DMA_Q_STAT_STATE 0 qDRAINING : State), (0 : Fin 8), by decide +kernel, by decide +kernel⟩
theorem test_witness_queueReset : ∃ (s : State) (q : Fin 8) (v : Word), s.sys.deferred = [] ∧ v.getLsbD 31 = false ∧ s.rd DMA_Q_CFG_EN q = 0 ∧ s.qState q = qIDLE :=
  ⟨dev0, (0 : Fin 8), (0 : Word), by decide +kernel, by decide +kernel, by decide +kernel, by decide +kernel⟩
theorem test_witness_bufParity : ∃ (s : State) (q : Fin 8) (r : DmaRun), (s.dmaQ q).run = some r :=
  ⟨(dev0.setDmaQ 0 fun x => { x with run := some run0 } : State), (0 : Fin 8), (run0 : DmaRun), by decide +kernel⟩
theorem test_witness_twtAddress : ∃ (s : State) (addr : BitVec 7), s.sys.dark = false ∧ addr.toNat = s.rd TWT_CFG_ADDR 0 ∧ s.rd TWT_STAT_ASLEEP 0 = 0 ∧ s.rd TWT_STAT_BUSY 0 = 0 :=
  ⟨(dev0.wr TWT_STAT_ASLEEP 0 0 : State), (BitVec.ofNat 7 (dev0.rd TWT_CFG_ADDR 0) : BitVec 7), by decide +kernel, by decide +kernel, by decide +kernel, by decide +kernel⟩
theorem test_witness_twtWriteByte : ∃ (s : State), s.rd TWT_STAT_BUSY 0 = 1 ∧ s.twt.reading = false ∧ s.twt.first = true :=
  ⟨(addressed.setTwt fun t => { t with first := true } : State), by decide +kernel, by decide +kernel, by decide +kernel⟩
theorem test_witness_twtReadByte : ∃ (s : State), s.rd TWT_STAT_BUSY 0 = 1 ∧ s.twt.reading = true :=
  ⟨(addressed.setTwt fun t => { t with reading := true } : State), by decide +kernel, by decide +kernel⟩
theorem test_witness_twtRepeatedStartAtAck : ∃ (s : State), s.rd TWT_STAT_BUSY 0 = 1 :=
  ⟨(addressed : State), by decide +kernel⟩
theorem test_witness_twtSclStuck : ∃ (s : State), s.rd TWT_STAT_BUSY 0 = 1 :=
  ⟨(addressed : State), by decide +kernel⟩
theorem test_witness_twtIdleSleep : ∃ (s : State), s.rd TWT_STAT_BUSY 0 = 0 ∧ s.rd TWT_STAT_ASLEEP 0 = 0 ∧ s.rd TWT_CFG_SLEEP_EN 0 = 1 :=
  ⟨(dev0.wr TWT_CFG_SLEEP_EN 0 1 |>.wr TWT_STAT_ASLEEP 0 0 : State), by decide +kernel, by decide +kernel, by decide +kernel⟩
theorem test_witness_alertResponse : ∃ (s : State), s.sys.dark = false ∧ s.rd TWT_STAT_ASLEEP 0 = 0 ∧ s.rd TWT_STAT_ALERT 0 = 1 :=
  ⟨(dev0.wr TWT_STAT_ALERT 0 1 |>.wr TWT_STAT_ASLEEP 0 0 : State), by decide +kernel, by decide +kernel, by decide +kernel⟩
theorem test_witness_mailboxInAck : ∃ (s : State), s.sys.deferred = [] :=
  ⟨dev0, by decide +kernel⟩
theorem test_witness_mailboxOutGo : ∃ (s : State), s.sys.deferred = [] ∧ s.rd TWT_STAT_OUT_FULL 0 = 0 :=
  ⟨dev0, by decide +kernel, by decide +kernel⟩
theorem test_witness_hostAlert : ∃ (s : State), s.sys.deferred = [] ∧ s.tst TWT_ALERT_EN 0 alertHOST = true :=
  ⟨(dev0.wr TWT_ALERT_EN 0 0xFF : State), by decide +kernel, by decide +kernel⟩
theorem test_witness_ringTrainingDone : ∃ (s : State) (p : Bool), s.rd RING_PORT_STAT_RX_LOCK p.toNat = 0xF ∧ s.rportUp p.toNat = false :=
  ⟨(dev0.wr RING_PORT_STAT_RX_LOCK 0 0xF : State), (false : Bool), by decide +kernel, by decide +kernel⟩
theorem test_witness_registerWriteFrame : ∃ (s : State) (u : State) (p : Bool) (src : Fin 64) (seq : BitVec 16), s.sys.dark = false ∧ seq = BitVec.ofNat 16 (s.deliv src 0).expect ∧ u = (s.took p.toNat 0).setDeliv src 0 (fun x => { x with expect := x.expect + 1, nakSent := false }) :=
  ⟨dev0, _, (false : Bool), (0 : Fin 64), _, by decide +kernel, rfl, rfl⟩
theorem test_witness_registerReadFrame : ∃ (s : State) (u : State) (p : Bool) (src : Fin 64) (seq : BitVec 16) (off : BitVec 24) (w : Word), s.sys.dark = false ∧ s.sys.deferred = [] ∧ seq = BitVec.ofNat 16 (s.deliv src 0).expect ∧ (s.took p.toNat 0).readFx off.toNat = (u, w) ∧ Sends u (u.portTo src) 0 :=
  ⟨(linked : State), _, (false : Bool), (2 : Fin 64), _, (0x40 : BitVec 24), _, by decide +kernel, by decide +kernel, rfl, (Prod.eta _).symm, by unfold Sends; decide +kernel⟩
theorem test_witness_readAnswerFrame : ∃ (s : State) (src : Fin 64) (off : BitVec 24) (r : TunRead), (s.hif.reads.find? fun r => r.dev == src.val && r.off == off.toNat) = some r ∧ r.dma = none :=
  ⟨(dev0.setHif fun x => { x with reads := [⟨2, 0x40, 5, none⟩] } : State), (2 : Fin 64), (0x40 : BitVec 24), (⟨2, 0x40, 5, none⟩ : TunRead), by decide +kernel, by decide +kernel⟩
theorem test_witness_statusFrame : ∃ (s : State) (src : Fin 64), s.vertex = true ∧ s.present src = true :=
  ⟨(vertex0 : State), (2 : Fin 64), by decide +kernel, by decide +kernel⟩
theorem test_witness_statusFrameSend : ∃ (s : State) (l : Bool) (f : Bool) (st : Nat), s.vertex = false ∧ s.ring.enumerated = true ∧ s.ownStatus = (l, f, st) ∧ s.ring.lastStatus ≠ some s.ownStatus ∧ Sends s (s.portTo 0) 0 :=
  ⟨(linked.setRing fun x => { x with enumerated := true } : State), _, _, _, by decide +kernel, by decide +kernel, rfl, by decide +kernel, by unfold Sends; decide +kernel⟩
theorem test_witness_creditReturn : ∃ (s : State), s.ring.queue = [] :=
  ⟨dev0, by decide +kernel⟩
theorem test_witness_censusMarker : ∃ (s : State) (p : Bool) (v : Fin 4) (cs : Fin 257) (rCum : BitVec 16) (b : Nat), cs.val + b + ((s.vc p.toNat v).retCum - rCum).toNat = 256 :=
  ⟨dev0, (false : Bool), (0 : Fin 4), (256 : Fin 257), (0 : BitVec 16), (0 : Nat), by decide +kernel⟩
theorem test_witness_enumerationStart : ∃ (s : State), s.vertex = true ∧ s.rportUp 0 = false ∧ Sends s 1 0 :=
  ⟨(vertex0.wr RING_PORT_STAT_STATE 0 0 : State), by decide +kernel, by decide +kernel, by unfold Sends; decide +kernel⟩
theorem test_witness_enumerationFrame : ∃ (s : State) (p : Bool) (pos : Fin 64) (size : Fin 64) (seen : List MapEntry), s.vertex = false ∧ ((seen.eraseIdx (enumPlace p.toNat pos size)).any fun e => e.id == s.devId || (e.vtx && s.vertex)) = false :=
  ⟨(linked : State), (false : Bool), (0 : Fin 64), (0 : Fin 64), ([] : List MapEntry), by decide +kernel, by decide +kernel⟩
theorem test_witness_singleTimeout : ∃ (s : State), s.vertex = true ∧ s.ring.enumerated = false ∧ s.rportUp 0 = false ∧ s.rportUp 1 = false :=
  ⟨(dev0.wr SYS_STATE_VERTEX 0 1 : State), by decide +kernel, by decide +kernel, by decide +kernel, by decide +kernel⟩
theorem test_witness_noVertexTimeout : ∃ (s : State), s.vertex = false ∧ s.ring.enumerated = false ∧ s.rportUp 0 = true :=
  ⟨(linked : State), by decide +kernel, by decide +kernel, by decide +kernel⟩
theorem test_witness_arcDown : ∃ (s : State), s.ring.enumerated = false :=
  ⟨dev0, by decide +kernel⟩
theorem test_witness_split : ∃ (s : State), 2 ≤ s.ring.broken.length ∧ s.vertex = false :=
  ⟨(linked.setRing fun x => { x with broken := [0, 1] } : State), by decide +kernel, by decide +kernel⟩
theorem test_witness_ringRestore : ∃ (s : State), s.vertex = true ∧ s.ring.broken ≠ [] ∧ s.ring.down = [] ∧ (s.ring.deliv.all fun x => x.1 % 4 != 0 || x.2.unacked.isEmpty) = true :=
  ⟨(vertex0.setRing fun x => { x with broken := [0] } : State), by decide +kernel, by decide +kernel, by decide +kernel, by decide +kernel⟩
theorem test_witness_breakNoticeFrame : ∃ (s : State) (p : Bool), s.ring.broken = [] ∧ s.rportUp (1 - p.toNat) = false :=
  ⟨dev0, (false : Bool), by decide +kernel, by decide +kernel⟩
theorem test_witness_ringResetGo : ∃ (s : State) (u : State) (dev : Fin 64), s.sys.deferred = [] ∧ u = (s.wr RING_CTL_RST_ALL 0 0).wr RING_CTL_RST_DEV 0 dev.val ∧ s.vertex = true ∧ dev.val ≠ s.devId ∧ s.present dev = true ∧ Sends u (u.portTo dev) 0 :=
  ⟨(vertex0 : State), _, (2 : Fin 64), by decide +kernel, rfl, by decide +kernel, by decide +kernel, by decide +kernel, by unfold Sends; decide +kernel⟩
theorem test_witness_bulkRequestFrame : ∃ (s : State) (u : State) (p : Bool) (src : Fin 64) (seq : BitVec 16) (d : Desc) (st : Nat) (info : Nat) (ws : List Word), s.sys.dark = false ∧ seq = BitVec.ofNat 16 (s.deliv src 3).expect ∧ u = ((s.took p.toNat 3).setDeliv src 3 (fun x => { x with expect := x.expect + 1, nakSent := false })).sendAck src 3 ∧ u.stm.work = [] ∧ (d.kind = 2 → u.ahead 3 = false) ∧ u.bulkData d = (st, info, ws) ∧ pieces 64 (ws.length / 64 + 1) ws = [ws] :=
  ⟨(linked : State), _, (false : Bool), (0 : Fin 64), _, (desc 1 : Desc), (0 : Nat), (0 : Nat), ((linked.bulkData (desc 1)).2.2 : List Word), by decide +kernel, rfl, rfl, by decide +kernel, by decide +kernel, by decide +kernel, by decide +kernel⟩
theorem test_witness_bulkDataFrame : ∃ (s : State) (src : Fin 64) (seq : BitVec 16) (q : Fin 8) (ws : List Word) (r : DmaRun), s.sys.dark = false ∧ seq = BitVec.ofNat 16 (s.deliv src 3).expect ∧ (s.dmaQ q).run = some r ∧ r.done = false ∧ r.dev = src ∧ ws ≠ [] :=
  ⟨(dev0.setDmaQ 0 fun x => { x with run := some { run0 with dev := 2 } } : State), (2 : Fin 64), _, (0 : Fin 8), ([1] : List Word), ({ run0 with dev := 2 } : DmaRun), by decide +kernel, rfl, by decide +kernel, by decide +kernel, by decide +kernel, by decide +kernel⟩
theorem test_witness_ackFrame : ∃ (s : State) (src : Fin 64) (bulk : Bool) (seq : BitVec 16) (v : Nat) (k : Nat), v = (if bulk then 3 else 0) ∧ s.vertex = false ∧ s.ring.restoring = false ∧ s.hif.heldComps = [] ∧ (s.deliv src v).ackCount seq = k ∧ 0 < k :=
  ⟨(linked.setDeliv 2 0 fun x => { x with unacked := [⟨1, 0, 2, 0, .write (.write 0x40 0)⟩], next := 1 } : State), (2 : Fin 64), (false : Bool), (0 : BitVec 16), _, (1 : Nat), rfl, by decide +kernel, by decide +kernel, by decide +kernel, by decide +kernel, by decide +kernel⟩
theorem test_witness_nakFrame : ∃ (s : State) (u : State) (p : Bool) (src : Fin 64) (bulk : Bool) (f : Frame) (v : Nat), v = (if bulk then 3 else 0) ∧ u = s.took p.toNat 0 ∧ s.ring.broken = [] ∧ (s.deliv src v).unacked = [f] ∧ Sends u (1) f.vc :=
  ⟨(linked.setDeliv 2 0 fun x => { x with unacked := [⟨1, 0, 2, 0, .write (.write 0x40 0)⟩], next := 1 } : State), _, (false : Bool), (2 : Fin 64), (false : Bool), (⟨1, 0, 2, 0, .write (.write 0x40 0)⟩ : Frame), _, rfl, rfl, by decide +kernel, by decide +kernel, by unfold Sends; decide +kernel⟩
theorem test_witness_replayTimeout : ∃ (s : State) (u : State) (dev : Fin 64) (bulk : Bool) (f : Frame) (v : Nat), v = (if bulk then 3 else 0) ∧ u = s.reach ((s.deliv dev v).lastProg + usT 50) ∧ s.ring.broken = [] ∧ (s.deliv dev v).unacked = [f] ∧ Sends u (1) f.vc :=
  ⟨(linked.setDeliv 2 0 fun x => { x with unacked := [⟨1, 0, 2, 0, .write (.write 0x40 0)⟩], next := 1 } : State), _, (2 : Fin 64), (false : Bool), (⟨1, 0, 2, 0, .write (.write 0x40 0)⟩ : Frame), _, rfl, rfl, by decide +kernel, by decide +kernel, by unfold Sends; decide +kernel⟩
theorem test_witness_tunnelWriteReleased : ∃ (s : State) (dev : Fin 64) (b : RegBody), s.ring.restoring = false ∧ (s.deliv dev 0).unacked.length < 64 ∧ (s.deliv dev 0).waiting = [.write b] :=
  ⟨(vertex0.setDeliv 2 0 fun x => { x with waiting := [.write (.write 0x40 0)] } : State), (2 : Fin 64), (.write 0x40 0 : RegBody), by decide +kernel, by decide +kernel, by decide +kernel⟩
theorem test_witness_censusMarkerSend : ∃ (s : State), s.rportUp 0 = true ∧ s.rportUp 1 = false :=
  ⟨(linked.wr RING_PORT_STAT_STATE 1 0 : State), by decide +kernel, by decide +kernel⟩
theorem test_witness_enumerationComplete : ∃ (s : State) (found : List (Option MapEntry)), s.vertex = true ∧ found.filterMap id = [s.ownEntry] ∧ (List.range 64).filter s.present = [s.devId] ∧ s.ring.departed = [] :=
  ⟨(dev0.wr SYS_STATE_VERTEX 0 1 |>.wr RING_PRES_LO 0 1 : State), ([some dev0.ownEntry] : List (Option MapEntry)), by decide +kernel, by decide +kernel, by decide +kernel, by decide +kernel⟩
theorem test_witness_pinReset : ∃ (s : State), s.boot.inReset = none :=
  ⟨dev0, by decide +kernel⟩
theorem test_witness_hostReset : ∃ (s : State), s.boot.inReset = none :=
  ⟨dev0, by decide +kernel⟩
theorem test_witness_bootResetHost : ∃ (s : State) (v : Word), s.sys.deferred = [] ∧ BOOT_RESET_KEY.of v = 0x5A ∧ s.boot.inReset = none :=
  ⟨dev0, (0x5a000000 : Word), by decide +kernel, by decide +kernel, by decide +kernel⟩
theorem test_witness_bootResetFabric : ∃ (s : State) (v : Word), s.sys.deferred = [] ∧ BOOT_RESET_KEY.of v = 0x5A ∧ s.boot.inReset = none :=
  ⟨dev0, (0x5a000000 : Word), by decide +kernel, by decide +kernel, by decide +kernel⟩
theorem test_witness_ringResetFrame : ∃ (s : State), s.boot.inReset = none :=
  ⟨dev0, by decide +kernel⟩
theorem test_witness_resetRelease : ∃ (s : State) (k : ResetKind), s.boot.inReset = some k ∧ k.full = true :=
  ⟨(dev0.setBoot fun b => { b with inReset := some .powerOn } : State), (.powerOn : ResetKind), by decide +kernel, by decide +kernel⟩
theorem test_witness_startupPhase0Done : ∃ (s : State), s.sys.dark = true ∧ s.boot.inReset = none ∧ s.rd BOOT_STAT_PHASE 0 = 0 :=
  ⟨(starting 0 : State), by decide +kernel, by decide +kernel, by decide +kernel⟩
theorem test_witness_smemDiscoveryDone : ∃ (s : State) (ha : List Byte) (hb : List Byte), s.sys.dark = true ∧ s.boot.inReset = none ∧ s.rd BOOT_STAT_PHASE 0 = 1 ∧ hdrCheck ha (0x800000) s.boot.slot2 = 0 ∧ hdrCheck hb (0x800000) s.boot.slot2 = 0 :=
  ⟨(starting 1 : State), (header0 : List Byte), (header0 : List Byte), by decide +kernel, by decide +kernel, by decide +kernel, by decide +kernel, by decide +kernel⟩
theorem test_witness_imageCopyChecked : ∃ (s : State) (blocks : List (List Word)) (tag : List Byte) (x : Nat), s.rd BOOT_STAT_PHASE 0 = 2 ∧ s.boot.cand = 1 ∧ copyCheck s.boot.hdrA blocks tag s.boot.slot1 = (0, x) :=
  ⟨((starting 2).setBoot fun b => { b with hdrA := header0, cand := 1 } : State), ([block0] : List (List Word)), ([] : List Byte), (0 : Nat), by decide +kernel, by decide +kernel, by decide +kernel⟩
theorem test_witness_imageNop : ∃ (s : State), s.recReady = true :=
  ⟨(starting 3 : State), by decide +kernel⟩
theorem test_witness_imageWrite : ∃ (s : State) (u : State), s.recReady = true ∧ s.boot.skip = 0 ∧ u = (s.satInc BOOT_STAT_RECORDS 0).setBoot (fun b => { b with calWait := false }) :=
  ⟨(starting 3 : State), _, by decide +kernel, by decide +kernel, rfl⟩
theorem test_witness_imageModify : ∃ (s : State) (u : State) (x : State) (off : BitVec 24) (w : Word), s.recReady = true ∧ s.boot.skip = 0 ∧ u = (s.satInc BOOT_STAT_RECORDS 0).setBoot (fun b => { b with calWait := false }) ∧ u.readFx off.toNat = (x, w) :=
  ⟨(starting 3 : State), _, _, (0x40 : BitVec 24), _, by decide +kernel, by decide +kernel, rfl, (Prod.eta _).symm⟩
theorem test_witness_imageWait : ∃ (s : State) (u : State) (x : State) (off : BitVec 24) (mask : Word) (v : Word) (w : Word), s.recReady = true ∧ s.boot.skip = 0 ∧ u = (s.satInc BOOT_STAT_RECORDS 0).setBoot (fun b => { b with calWait := false }) ∧ u.readFx off.toNat = (x, w) ∧ w &&& mask ≠ v :=
  ⟨(starting 3 : State), _, _, (0x40 : BitVec 24), (0 : Word), (0xFFFFFFFF : Word), _, by decide +kernel, by decide +kernel, rfl, (Prod.eta _).symm, by decide +kernel⟩
theorem test_witness_imageWaitTimeout : ∃ (s : State) (a : Nat), s.boot.recEnd = some a ∧ s.boot.waiting = true ∧ s.boot.fatal = true :=
  ⟨((starting 3).setBoot fun b => { b with recEnd := some 5, waiting := true, fatal := true } : State), (5 : Nat), by decide +kernel, by decide +kernel, by decide +kernel⟩
theorem test_witness_imageDelay : ∃ (s : State), s.recReady = true ∧ s.boot.skip = 0 :=
  ⟨(starting 3 : State), by decide +kernel, by decide +kernel⟩
theorem test_witness_imageDelayEnd : ∃ (s : State) (a : Nat), s.boot.recEnd = some a ∧ s.boot.waiting = false :=
  ⟨((starting 3).setBoot fun b => { b with recEnd := some 5 } : State), (5 : Nat), by decide +kernel, by decide +kernel⟩
theorem test_witness_imageSkip : ∃ (s : State) (u : State) (x : State) (off : BitVec 24) (mask : Word) (v : Word) (w : Word), s.recReady = true ∧ s.boot.skip = 0 ∧ u = (s.satInc BOOT_STAT_RECORDS 0).setBoot (fun b => { b with calWait := false }) ∧ u.readFx off.toNat = (x, w) ∧ w &&& mask = v :=
  ⟨(starting 3 : State), _, _, (0x40 : BitVec 24), (0 : Word), (0 : Word), _, by decide +kernel, by decide +kernel, rfl, (Prod.eta _).symm, by decide +kernel⟩
theorem test_witness_imageCalibrate : ∃ (s : State), s.recReady = true ∧ s.boot.skip = 0 ∧ s.synParked = false :=
  ⟨(starting 3 : State), by decide +kernel, by decide +kernel, by decide +kernel⟩
theorem test_witness_imageEnd : ∃ (s : State), s.recReady = true :=
  ⟨(starting 3 : State), by decide +kernel⟩
theorem test_witness_loadLimitExpiry : ∃ (s : State), s.sys.dark = true ∧ s.boot.inReset = none ∧ s.rd BOOT_STAT_PHASE 0 = 3 :=
  ⟨(starting 3 : State), by decide +kernel, by decide +kernel, by decide +kernel⟩
theorem test_witness_startupCalibration : ∃ (s : State), s.sys.dark = true ∧ s.rd BOOT_STAT_PHASE 0 = 4 ∧ s.boot.phase4 = false :=
  ⟨(starting 4 : State), by decide +kernel, by decide +kernel, by decide +kernel⟩
theorem test_witness_rehearsalEntry : ∃ (s : State), s.sys.dark = true ∧ s.rd BOOT_STAT_PHASE 0 = 4 ∧ s.boot.phase4 = true ∧ s.synSettled = true :=
  ⟨((starting 4).setBoot fun b => { b with phase4 := true } : State), by decide +kernel, by decide +kernel, by decide +kernel, by decide +kernel⟩
theorem test_witness_backgroundCopyCheck : ∃ (s : State) (blocks : List (List Word)) (tag : List Byte) (x : Nat), s.sys.dark = false ∧ s.boot.doneA = true ∧ s.boot.doneB = false ∧ s.boot.hdrB ≠ [] ∧ copyCheck s.boot.hdrB blocks tag s.boot.slot1 = (0, x) :=
  ⟨(dev0.setBoot fun b => { b with hdrB := header0, doneA := true } : State), ([block0] : List (List Word)), ([] : List Byte), (0 : Nat), by decide +kernel, by decide +kernel, by decide +kernel, by decide +kernel, by decide +kernel⟩
theorem test_witness_pageIntClear : ∃ (s : State), s.sys.deferred = [] :=
  ⟨dev0, by decide +kernel⟩
theorem test_witness_pageErrClear : ∃ (s : State) (b : Nat), s.sys.deferred = [] ∧ b < 32 :=
  ⟨dev0, (0 : Nat), by decide +kernel, by decide +kernel⟩
theorem test_witness_registerWrite_1 : ∃ (s : State), s.sys.dark = true :=
  ⟨(State.reset : State), by decide +kernel⟩
theorem test_witness_registerWrite_2 : ∃ (s : State) (dev : Fin 64), s.sys.dark = false ∧ (s.vertex = true → dev.val = s.devId) ∧ s.sys.deferred = [] :=
  ⟨dev0, (0 : Fin 64), by decide +kernel, by decide +kernel, by decide +kernel⟩
theorem test_witness_registerWrite_3 : ∃ (s : State) (dev : Fin 64) (page : Page) (off : BitVec 24), s.sys.dark = false ∧ (s.vertex = true → dev.val = s.devId) ∧ s.sys.deferred = [] ∧ off.toNat = pageOff page + 0x1C ∧ pageOff page ≠ pgIC + 0x1000 :=
  ⟨dev0, (0 : Fin 64), (.sys : Page), (0x1C : BitVec 24), by decide +kernel, by decide +kernel, by decide +kernel, by decide +kernel, by decide +kernel⟩
theorem test_witness_registerWrite_4 : ∃ (s : State) (dev : Fin 64), s.sys.dark = false ∧ s.vertex = true ∧ dev.val ≠ s.devId ∧ s.present dev = true ∧ s.ring.restoring = false ∧ (s.deliv dev 0).unacked.length < 64 ∧ (s.deliv dev 0).waiting = [] :=
  ⟨(vertex0 : State), (2 : Fin 64), by decide +kernel, by decide +kernel, by decide +kernel, by decide +kernel, by decide +kernel, by decide +kernel, by decide +kernel⟩
theorem test_witness_registerWrite_5 : ∃ (s : State) (dev : Fin 64), s.sys.dark = false ∧ s.vertex = true ∧ dev.val ≠ s.devId ∧ s.present dev = false :=
  ⟨(vertex0 : State), (3 : Fin 64), by decide +kernel, by decide +kernel, by decide +kernel, by decide +kernel⟩
theorem test_witness_standingSignalFall_2 : ∃ (s : State) (n : Fin 56) (k : Fin 32), (n.val = 12 ∨ n.val = 21 ∨ n.val = 5 ∧ k.val = 5 ∨ n.val = 54 ∧ k.val = 0 ∧ s.rd SYS_SUPPLY_UNDER_NOW 0 = 0 ∧ s.rd SYS_SUPPLY_OVER_NOW 0 = 0) :=
  ⟨dev0, (21 : Fin 56), (0 : Fin 32), by decide +kernel⟩

/-! ### Witnesses of the statements that speak of every command -/
theorem test_witness_StepRunsFrontCommand : ∃ (c : Instr) (s : State) (rest : List Instr), s.pending = c :: rest :=
  ⟨.sysCmdStop, withQueue dev0 [.sysCmdStop], [], rfl⟩
theorem test_witness_IdleStepPassesATick : ∃ s : State, s.pending = [] := ⟨dev0, rfl⟩
theorem test_witness_StepKeepsInvariant : ∃ s t : State, MemoryCanonical s ∧ TimeLegal s ∧ step s = .next t :=
  ⟨dev0, _, by unfold MemoryCanonical; decide +kernel, by unfold TimeLegal; decide +kernel, rfl⟩
theorem test_witness_EveryCommandCompletes : ∃ s : State, MemoryCanonical s ∧ TimeLegal s :=
  ⟨dev0, by unfold MemoryCanonical; decide +kernel, by unfold TimeLegal; decide +kernel⟩
theorem test_witness_StoreThenRead_last : ∃ (s : State) (r : Region) (o : Nat), MemoryCanonical s ∧ o + 4 ≤ r.size :=
  ⟨dev0, .taps, 0x7FFFC, by unfold MemoryCanonical; decide +kernel, by decide +kernel⟩
theorem test_witness_TapStores_tap : ∃ (s t : State) (x : Nat), exec (.tapWrite 65535 true 1) s = .next t ∧ x < tapAddr 65535 :=
  ⟨dev0, _, 0, rfl, by decide +kernel⟩
theorem test_witness_TapStores_cluster :
    ∃ (s t : State) (x : Nat), exec (.tapMemoryUncorr 0) s = .next t ∧ tapAddr 0 + 256 ≤ x :=
  ⟨dev0, _, tapAddr 0 + 256, rfl, by decide +kernel⟩
/-- The device in PERFORMANCE with a PAUSE in transition. -/
def pausing : State := dev0.wr SYS_STATE_DEV_STATE 0 2 |>.wr SYS_STATE_IN_TRANSITION 0 1
theorem test_witness_PauseCompletes_down :
    ∃ s : State, s.devState = stPERFORMANCE ∧ s.rd SYS_STATE_IN_TRANSITION 0 = 1 ∧ ∀ m < 8, s.down m = true :=
  ⟨pausing, by decide +kernel, by decide +kernel, by decide +kernel⟩
theorem test_witness_PauseCompletes_up :
    ∃ s : State, s.devState = stPERFORMANCE ∧ s.rd SYS_STATE_IN_TRANSITION 0 = 1 ∧ ¬ ∀ m < 8, s.down m = true :=
  ⟨(pausing.wr CUR_STAT_DOWN 0 0).wr RFC_PORT_STAT_STATE 0 stTX, by decide +kernel, by decide +kernel, by decide +kernel⟩
theorem test_witness_StopInRehearsal : ∃ s : State, s.sys.dark = false ∧ s.devState = stREHEARSAL
    ∧ s.rd SYS_STATE_IN_TRANSITION 0 = 0 ∧ s.sys.deferred = [] ∧ s.rd SYS_STATE_PENDING 0 = 0 :=
  ⟨dev0, rfl, by decide +kernel, by decide +kernel, rfl, by decide +kernel⟩
theorem test_witness_StopInRehearsal_pending : ∃ s : State, s.sys.dark = false ∧ s.devState = stREHEARSAL
    ∧ s.rd SYS_STATE_IN_TRANSITION 0 = 0 ∧ s.sys.deferred = [] ∧ s.rd SYS_STATE_PENDING 0 ≠ 0 :=
  ⟨dev0.wr SYS_STATE_PENDING 0 cmdSTART, rfl, by decide +kernel, by decide +kernel, rfl, by decide +kernel⟩
theorem test_witness_SeverityLeavesLatched : ∃ s t : State, exec (.severityWrite 3 2) s = .next t := ⟨dev0, _, rfl⟩
theorem test_witness_SignalPathFrame : ∃ s t : State, exec .sysCmdStop s = .next t := ⟨dev0, _, rfl⟩
theorem test_witness_CancellerFrame : ∃ s t : State, exec (.pathSubtractionStart 0) s = .next t := ⟨dev0, _, rfl⟩
theorem test_witness_RadioFrame : ∃ s t : State, exec (.portCmdRx 0 0) s = .next t := ⟨dev0, _, rfl⟩
theorem test_witness_StorageFrame : ∃ s t : State, exec .scrubPassComplete s = .next t := ⟨dev0, _, rfl⟩
theorem test_witness_FaultFrame : ∃ s t : State, exec .firstFaultAck s = .next t := ⟨dev0, _, rfl⟩
theorem test_witness_TimeAndEngineFrame : ∃ s t : State, exec .timeSnapshot s = .next t := ⟨dev0, _, rfl⟩
theorem test_witness_HostFrame : ∃ s t : State, exec (.badAccess false false 0) s = .next t := ⟨dev0, _, rfl⟩
theorem test_witness_RingFrame : ∃ s t : State, exec (.ringRestore false) s = .next t := ⟨dev0, _, rfl⟩
theorem test_witness_SerialAndStartFrame : ∃ s t : State, exec (.twcClear 0) s = .next t := ⟨dev0, _, rfl⟩

end Sys2Proof.Tests
end

/-! PROOF. From the mask of an operation (the Off files of Laws) to what it leaves alone: a frame in the terms of Safety.lean that
names the fields themselves, and a register field that reads as before. -/
namespace Sys2Proof.Machine
open Sys2Proof

/-- The numbers of a mask lie below this one. -/
def maskBits : Nat := 743

theorem lt_maskBits_of_testBit {m n : Nat} (hm : m < 2 ^ maskBits) (hn : m.testBit n = true) : n < maskBits :=
  Nat.lt_of_not_le fun hge =>
    have hlt : m < 2 ^ n := Nat.lt_of_lt_of_le hm (Nat.pow_le_pow_right (by decide) hge)
    Bool.noConfusion ((Nat.testBit_lt_two_pow hlt).symm.trans hn)

/-! ### Frames -/

/-- The fields hold the same places of the register file. -/
def Fld.samePlaces (f g : Fld) : Bool :=
  f.off == g.off && f.stride == g.stride && f.lo == g.lo && f.n == g.n && f.per == g.per && f.runs == g.runs

theorem Fld.has_of_samePlaces {f g : Fld} (h : f.samePlaces g = true) (i : Nat) : f.has i = g.has i := by
  simp only [Fld.samePlaces, Bool.and_eq_true, beq_iff_eq] at h
  obtain ⟨⟨⟨_, hn⟩, hper⟩, hruns⟩ := h
  simp only [Fld.has, hn, hper, hruns]

theorem Fld.key_of_samePlaces {f g : Fld} (h : f.samePlaces g = true) (i : Nat) : f.key i = g.key i := by
  simp only [Fld.samePlaces, Bool.and_eq_true, beq_iff_eq] at h
  obtain ⟨⟨⟨⟨⟨hoff, hstride⟩, hlo⟩, _⟩, _⟩, _⟩ := h
  simp only [Fld.key, Fld.addr, hoff, hstride, hlo]

/-- The memory, piece or field with number `n` is one of those listed. -/
def numberListed (rs : List Region) (ps : List Part) (fs : List Fld) (n : Nat) : Bool :=
  rs.any (fun r => r.no == n) || ps.any (fun p => partNo p == n) || decide (48 ≤ n) && fs.any (fldNo n).samePlaces

/-- Every number of the mask is that of a memory, piece or field listed. -/
def maskCovers (m : Nat) (rs : List Region) (ps : List Part) (fs : List Fld) : Bool :=
  decide (m < 2 ^ maskBits) && (List.range maskBits).all fun n => !m.testBit n || numberListed rs ps fs n

theorem listed_of_maskCovers {m n : Nat} {rs : List Region} {ps : List Part} {fs : List Fld}
    (hc : maskCovers m rs ps fs = true) (hn : m.testBit n = true) :
    (∃ r ∈ rs, r.no = n) ∨ (∃ p ∈ ps, partNo p = n) ∨ 48 ≤ n ∧ ∃ f ∈ fs, (fldNo n).samePlaces f = true := by
  simp only [maskCovers, Bool.and_eq_true, decide_eq_true_eq, List.all_eq_true, List.mem_range] at hc
  have := hc.2 n (lt_maskBits_of_testBit hc.1 hn)
  simpa [hn, numberListed, or_assoc] using this

/-- What lies outside a mask lies outside the memories, pieces and fields that cover it: `Off.confined` without the numbers of
the fields. -/
theorem Off.confined_of_maskCovers {m : Nat} {a s : State} (h : Off m a s) {rs : List Region} {ps : List Part}
    {fs : List Fld} (hc : maskCovers m rs ps fs = true) : Confined rs ps fs a s where
  pending := h.pending.resolve_right fun hn => by
    rcases listed_of_maskCovers hc hn with ⟨r, _, hr⟩ | ⟨p, _, hp⟩ | ⟨hge, _⟩
    · have := regionNo_lt r; omega
    · have := partNo_range p; omega
    · omega
  parts p hp := h.part p <| Bool.eq_false_iff.2 fun hn => by
    rcases listed_of_maskCovers hc hn with ⟨r, _, hr⟩ | ⟨q, hq, hqp⟩ | ⟨hge, _⟩
    · have := regionNo_lt r; have := partNo_range p; omega
    · exact hp (partNo_inj hqp ▸ hq)
    · have := partNo_range p; omega
  mem x hx := h.mem x fun r hn => by
    rcases listed_of_maskCovers hc hn with ⟨q, hq, hqr⟩ | ⟨p, _, hp⟩ | ⟨hge, _⟩
    · exact hx r (regionNo_inj hqr ▸ hq)
    · have := regionNo_lt r; have := partNo_range p; omega
    · have := regionNo_lt r; omega
  regs g j hg := by
    unfold State.rd
    rw [h.regs]
    rintro f ⟨n, hn, rfl⟩ i hi
    rcases listed_of_maskCovers hc hn with ⟨r, _, hr⟩ | ⟨p, _, hp⟩ | ⟨_, f, hf, hsame⟩
    · rw [fldNo_low (by have := regionNo_lt r; omega)] at hi; exact Bool.noConfusion hi
    · rw [fldNo_low (by have := partNo_range p; omega)] at hi; exact Bool.noConfusion hi
    · rw [Fld.key_of_samePlaces hsame]
      exact hg f hf i (Fld.has_of_samePlaces hsame i ▸ hi)

/-- A command changes nothing but memories, pieces and fields that cover its mask. -/
theorem onlyChanges_of_maskCovers {m : Nat} {c : Instr} (h : ∀ s, OutOff m s (exec c s)) {rs : List Region}
    {ps : List Part} {fs : List Fld} (hc : maskCovers m rs ps fs = true) : OnlyChanges c rs ps fs :=
  fun s t e => ((h s).of t e).confined_of_maskCovers hc

/-! ### A field that reads as before -/

/-- The field exists at the one index whose place can be `k`. -/
def Fld.meets (f : Fld) (k : Nat) : Bool :=
  let i := ((k - f.lo) / 32 - f.off) / f.stride
  f.key i == k && (f.stride == 0 || f.has i)

theorem Fld.meets_of_key {f : Fld} {i : Nat} (hi : f.has i = true) : f.meets (f.key i) = true := by
  have haddr : (f.key i - f.lo) / 32 - f.off = f.stride * i := by simp only [Fld.key, Fld.addr]; omega
  rcases Nat.eq_zero_or_pos f.stride with h0 | hpos
  · simp [Fld.meets, Fld.key, Fld.addr, h0]
  · simp [Fld.meets, haddr, Nat.mul_div_cancel_left i hpos, hi]

/-- No field of the mask has the place `k`. -/
def maskMisses (m k : Nat) : Bool :=
  decide (m < 2 ^ maskBits) && (List.range maskBits).all fun n => !m.testBit n || !(fldNo n).meets k

theorem Off.rd_eq {m : Nat} {a s : State} (h : Off m a s) {g : Fld} {j : Nat} (hk : maskMisses m (g.key j) = true) :
    s.rd g j = a.rd g j := by
  simp only [maskMisses, Bool.and_eq_true, decide_eq_true_eq, List.all_eq_true, List.mem_range] at hk
  unfold State.rd
  rw [h.regs]
  rintro f ⟨n, hn, rfl⟩ i hi e
  have := hk.2 n (lt_maskBits_of_testBit hk.1 hn)
  simp [hn, ← e, Fld.meets_of_key hi] at this

end Sys2Proof.Machine

/-! PROOF. The frame of the commands of system, converters and lanes. -/
namespace Sys2Proof.Machine
open Sys2Proof

/-- Settles O11: each clause names memories, pieces and fields that cover the mask of its command (Laws/OffCommands.lean). -/
theorem signalPathFrame : Obligations.SignalPathFrame :=
  ⟨onlyChanges_of_maskCovers execSysCmdStart_off (by decide +kernel),
   onlyChanges_of_maskCovers execSysCmdPause_off (by decide +kernel),
   onlyChanges_of_maskCovers execSysCmdResume_off (by decide +kernel),
   onlyChanges_of_maskCovers execSysCmdStop_off (by decide +kernel),
   fun a => onlyChanges_of_maskCovers (execSysCmdReservedCode_off · a) (by decide +kernel),
   onlyChanges_of_maskCovers execEnterPerformance_off (by decide +kernel),
   onlyChanges_of_maskCovers execPauseComplete_off (by decide +kernel),
   onlyChanges_of_maskCovers execStateParity_off (by decide +kernel),
   fun a b => onlyChanges_of_maskCovers (execConvrxEnable_off · a b) (by decide +kernel),
   fun a b => onlyChanges_of_maskCovers (execConvtxEnable_off · a b) (by decide +kernel),
   fun a b => onlyChanges_of_maskCovers (execConverterDisable_off · a b) (by decide +kernel),
   fun a b => onlyChanges_of_maskCovers (execConvCalComplete_off · a b) (by decide +kernel),
   fun a => onlyChanges_of_maskCovers (execOvrCntClr_off · a) (by decide +kernel),
   fun a => onlyChanges_of_maskCovers (execClipCntClr_off · a) (by decide +kernel),
   fun a b => onlyChanges_of_maskCovers (execBgcalCycleDone_off · a b) (by decide +kernel),
   fun a => onlyChanges_of_maskCovers (execConverterParityError_off · a) (by decide +kernel),
   fun a => onlyChanges_of_maskCovers (execOverRangeEpisodeStart_off · a) (by decide +kernel),
   fun a => onlyChanges_of_maskCovers (execOverRangeEpisodeEnd_off · a) (by decide +kernel),
   fun a => onlyChanges_of_maskCovers (execSuspectMarkEnd_off · a) (by decide +kernel),
   fun a => onlyChanges_of_maskCovers (execClippingEpisodeStart_off · a) (by decide +kernel),
   fun a => onlyChanges_of_maskCovers (execClippingEpisodeEnd_off · a) (by decide +kernel),
   fun a b => onlyChanges_of_maskCovers (execLaneEnable_off · a b) (by decide +kernel),
   fun a => onlyChanges_of_maskCovers (execLaneStart_off · a) (by decide +kernel),
   fun a b => onlyChanges_of_maskCovers (execLaneDisable_off · a b) (by decide +kernel),
   fun a b c => onlyChanges_of_maskCovers (execLaneCfgShadowWrite_off · a b c) (by decide +kernel),
   fun a b c d => onlyChanges_of_maskCovers (execLaneSample_off · a b c d) (by decide +kernel),
   fun a b => onlyChanges_of_maskCovers (execChfRomRead_off · a b) (by decide +kernel),
   fun a => onlyChanges_of_maskCovers (execChfRomUncorr_off · a) (by decide +kernel),
   fun a b c d => onlyChanges_of_maskCovers (execRsmFault_off · a b c d) (by decide +kernel),
   fun a b => onlyChanges_of_maskCovers (execRsmDelayWrite_off · a b) (by decide +kernel),
   fun a => onlyChanges_of_maskCovers (execRsmDelayApply_off · a) (by decide +kernel)⟩

end Sys2Proof.Machine

/-! PROOF. What fields read after the shared writes of a register, and the causes of the Curtain after a request
(spec/05_network_protection.md R153, R155). -/
namespace Sys2Proof.Machine
open Sys2Proof

/-! ### Register fields -/

theorem State.rd_satInc_self {s : State} {f : Fld} {i : Nat} (hi : f.has i = true) (hw : f.w ≤ 32) :
    (s.satInc f i).rd f i = min (s.rd f i + 1) (2 ^ f.w - 1) := by
  have hpos := Nat.two_pow_pos f.w
  rw [State.satInc, State.satAdd, State.rd_wr_self _ _ hi hw]
  exact Nat.mod_eq_of_lt (by omega)

theorem State.tst_orBits_self {s : State} {f : Fld} {i b : Nat} (m : Nat) (hi : f.has i = true) (hw : f.w ≤ 32) (hb : b < f.w) :
    (s.orBits f i m).tst f i b = (s.tst f i b || m.testBit b) := by
  simp only [State.tst, State.orBits, State.rd_wr_self _ _ hi hw, Nat.testBit_mod_two_pow, hb, Nat.testBit_or, decide_true,
    Bool.true_and]

/-- Fields are read from the register file alone. -/
theorem State.rd_congr {s t : State} (h : t.regs = s.regs) (f : Fld) (i : Nat) : t.rd f i = s.rd f i := by
  simp only [State.rd, h]

theorem State.tst_congr {s t : State} (h : t.regs = s.regs) (f : Fld) (i b : Nat) : t.tst f i b = s.tst f i b := by
  simp only [State.tst, State.rd_congr h]

/-- Of the registers an occurrence of a cause changes its PG_ERR bit alone (R278). -/
theorem State.raise_regs (s : State) (page b : Nat) (ports : Ports) :
    (s.raise page b ports).regs = (s.orBits PG_ERR page (2 ^ b)).regs := by
  unfold State.raise State.raiseInt
  extract_lets t
  split
  · rfl
  · split <;> rfl

/-! ### Causes after a request (R153, R155) -/

/-- What a request reaches on a port beside the cause itself. -/
def F.requestPortTail : Nat :=
  F.State.setCport ||| F.State.setLifting ||| 2 ^ 77 ||| F.State.endCap ||| 2 ^ 78 ||| F.State.snapCurtain ||| F.State.alert

theorem State.requestPort_off_cause (s : State) (m b : Nat) (wide forced : Bool) :
    Off F.requestPortTail (s.wr (causeFld b) m 1) (s.requestPort m b wide forced) := by
  have hm := Nat.and_self F.requestPortTail
  unfold State.requestPort
  extract_lets fresh complete had bit mates s1 s2 s3 s4 s5 s6 s7
  have h2 : Off F.requestPortTail s1 s2 := State.setCport_off (sb hm (by decide)) .refl ..
  have h3 : Off F.requestPortTail s1 s3 := State.setLifting_off (sb hm (by decide)) h2 ..
  have h4 : Off F.requestPortTail s1 s4 :=
    .ite (State.putBit_off h3 (has_CUR_STAT_DOWN (by decide)) ..) (State.putBit_off h3 (has_CUR_STAT_DOWN (by decide)) ..)
  have h5 : Off F.requestPortTail s1 s5 := .foldl h4 (fun _ h _ => State.endCap_off (sb hm (by decide)) h ..) _
  have h6 : Off F.requestPortTail s1 s6 :=
    State.cond_off h5 (fun _ h => State.satInc_off h (has_CUR_EPI_CNT (by decide)) ..) _
  have h7 : Off F.requestPortTail s1 s7 := State.cond_off h6 (fun _ h => State.snapCurtain_off (sb hm (by decide)) h ..) _
  exact State.cond_off h7 (fun _ h => State.alert_off (sb hm (by decide)) h ..) _

theorem causeFld_shape (b : Nat) :
    (causeFld b).stride = 4 ∧ (causeFld b).w = 1 ∧ (causeFld b).n = 8 ∧ (causeFld b).per = 8 ∧ (causeFld b).runs = 1 := by
  unfold causeFld; split <;> exact ⟨rfl, rfl, rfl, rfl, rfl⟩

theorem causeFld_has (b : Nat) {m : Nat} (hm : m < 8) : (causeFld b).has m = true := by
  obtain ⟨_, _, hn, hper, hruns⟩ := causeFld_shape b
  simp only [Fld.has, hn, hper, hruns, Bool.and_eq_true, decide_eq_true_eq]
  omega

theorem causeFld_key_ne (b : Nat) {m k : Nat} (h : m ≠ k) : (causeFld b).key m ≠ (causeFld b).key k := by
  obtain ⟨hstride, _⟩ := causeFld_shape b
  simp only [Fld.key, Fld.addr, hstride]
  omega

/-- A cause written as standing on one port stands there, and on the other ports as before. -/
theorem State.wr_cause {s : State} {m k : Nat} (b : Nat) (hm : m < 8) :
    (s.wr (causeFld b) m 1).cause k b = (m == k || s.cause k b) := by
  obtain ⟨_, hw, _⟩ := causeFld_shape b
  by_cases hk : m = k
  · subst hk; simp [State.cause, State.on, State.rd_wr_self _ _ (causeFld_has b hm), hw]
  · simp [State.cause, State.on, State.rd_wr_ne _ _ (causeFld_key_ne b hk), hk]

theorem Off.cause_eq {m : Nat} {a s : State} (h : Off m a s) {k b : Nat} (hk : maskMisses m ((causeFld b).key k) = true) :
    s.cause k b = a.cause k b := by
  simp only [State.cause, State.on, h.rd_eq hk]

theorem State.requestPort_cause {s : State} {m k b : Nat} (wide forced : Bool) (hm : m < 8) (hk : k < 8) (hb : b < 11) :
    (s.requestPort m b wide forced).cause k b = (m == k || s.cause k b) := by
  have hmiss : ∀ b < 11, ∀ k < 8, maskMisses F.requestPortTail ((causeFld b).key k) = true := by decide +kernel
  rw [(s.requestPort_off_cause m b wide forced).cause_eq (hmiss b hb k hk), State.wr_cause b hm]

theorem State.requestPorts_cause {k b : Nat} (wide forced : Bool) (hk : k < 8) (hb : b < 11) (l : List Nat) :
    ∀ s : State, (∀ m ∈ l, m < 8) →
      (l.foldl (fun s m => s.requestPort m b wide forced) s).cause k b = (decide (k ∈ l) || s.cause k b) := by
  induction l with
  | nil => intro s _; simp
  | cons m l ih =>
    intro s hl
    rw [List.foldl_cons, ih _ fun x hx => hl x (List.mem_cons_of_mem _ hx),
      State.requestPort_cause wide forced (hl m List.mem_cons_self) hk hb]
    by_cases hmk : k = m
    · simp [hmk]
    · simp [hmk, beq_eq_false_iff_ne.2 (Ne.symm hmk)]

/-- What a request reaches beside its ports. -/
def F.requestTail : Nat := F.State.streamCurtain ||| F.State.coexRelease ||| F.State.journal ||| F.State.journalInt

/-- A request's cause stands on its ports, and on the others where it stood before (R153). -/
theorem State.request_cause {s : State} {ports : Ports} {k b : Nat} (wide forced : Bool) (hk : k < 8) (hb : b < 11) :
    (s.request ports b wide forced).cause k b = (decide (k ∈ portList ports) || s.cause k b) := by
  have hm := Nat.and_self F.requestTail
  have hmiss : ∀ b < 11, ∀ k < 8, maskMisses F.requestTail ((causeFld b).key k) = true := by decide +kernel
  have hlt : ∀ m ∈ portList ports, m < 8 := fun m h => List.mem_range.1 (List.mem_filter.1 h).1
  rw [← State.requestPorts_cause wide forced hk hb (portList ports) s hlt]
  refine Off.cause_eq (m := F.requestTail) ?_ (hmiss b hb k hk)
  unfold State.request
  extract_lets ms voids fresh is s1 s2 s3
  have h2 : Off F.requestTail s1 s2 :=
    State.coexRelease_off (sb hm (by decide)) (.foldl .refl (fun _ h _ => State.streamCurtain_off (sb hm (by decide)) h ..) _)
  have h3 : Off F.requestTail s1 s3 := State.cond_off h2 (fun _ h => State.journal_off (sb hm (by decide)) h ..) _
  exact State.cond_off h3 (fun _ h => State.journalInt_off (sb hm (by decide)) h ..) _

end Sys2Proof.Machine

/-! PROOF. SYS_CMD and the device state (spec/00_scope.md R9 to R11; spec/01_architecture.md R27, R28;
spec/17_startup_and_settings.md R466). -/
namespace Sys2Proof.Machine
open Sys2Proof

/-! ### The fields of SYS_STATE under the operations of a transition -/

/-- What a new device state reaches beside DEV_STATE. -/
def F.setDevStateTail : Nat := F.State.portsEval ||| F.State.alert ||| F.State.int

theorem State.setDevState_off_devState (s : State) (st : Nat) :
    Off F.setDevStateTail (s.wr SYS_STATE_DEV_STATE 0 st) (s.setDevState st) := by
  have hm := Nat.and_self F.setDevStateTail
  exact State.portsEval_off (sb hm (by decide)) (State.alert_off (sb hm (by decide))
    (State.int_off (sb hm (by decide)) .refl ..) ..)

theorem State.setDevState_devState (s : State) (st : Nat) : (s.setDevState st).devState = st % 4 := by
  rw [State.devState, (s.setDevState_off_devState st).rd_eq (by decide +kernel)]
  exact State.rd_wr_self _ _ (by decide) (by decide)

theorem State.setDevState_pending (s : State) (st : Nat) :
    (s.setDevState st).rd SYS_STATE_PENDING 0 = s.rd SYS_STATE_PENDING 0 :=
  (State.setDevState_off (Nat.and_self _) .refl st).rd_eq (by decide +kernel)

theorem State.setDevState_inTransition (s : State) (st : Nat) :
    (s.setDevState st).rd SYS_STATE_IN_TRANSITION 0 = s.rd SYS_STATE_IN_TRANSITION 0 :=
  (State.setDevState_off (Nat.and_self _) .refl st).rd_eq (by decide +kernel)

theorem State.stateCurtain_devState (s : State) : s.stateCurtain.devState = s.devState :=
  (State.stateCurtain_off (Nat.and_self _) .refl).rd_eq (by decide +kernel)

theorem State.stateCurtain_inTransition (s : State) :
    s.stateCurtain.rd SYS_STATE_IN_TRANSITION 0 = s.rd SYS_STATE_IN_TRANSITION 0 :=
  (State.stateCurtain_off (Nat.and_self _) .refl).rd_eq (by decide +kernel)

/-- The Curtain of the device state stands on every port (R154). -/
theorem State.stateCurtain_cause (s : State) {m : Nat} (hm : m < 8) : s.stateCurtain.cause m cSTATE = true := by
  have hports : ∀ m < 8, m ∈ portList allPorts := by decide
  rw [State.stateCurtain, State.request_cause true false hm (by decide), decide_eq_true (hports m hm), Bool.true_or]

theorem State.toRehearsal_devState (s : State) : s.toRehearsal.devState = stREHEARSAL := by
  unfold State.toRehearsal
  extract_lets t
  split
  · assumption
  · exact State.setDevState_devState ..

theorem State.toRehearsal_inTransition (s : State) : s.toRehearsal.rd SYS_STATE_IN_TRANSITION 0 = 0 := by
  unfold State.toRehearsal
  extract_lets t
  have ht : t.rd SYS_STATE_IN_TRANSITION 0 = 0 := State.rd_wr_self _ _ (by decide) (by decide)
  split
  · exact ht
  · rw [State.setDevState_inTransition]
    unfold State.cond
    split
    · rw [State.stateCurtain_inTransition, ht]
    · exact ht

theorem State.toRehearsal_pending (s : State) : s.toRehearsal.rd SYS_STATE_PENDING 0 = s.rd SYS_STATE_PENDING 0 :=
  (State.toRehearsal_off (Nat.and_self _) .refl).rd_eq (by decide +kernel)

theorem State.cancelCmd_pending (s : State) : s.cancelCmd.rd SYS_STATE_PENDING 0 = 0 := by
  unfold State.cancelCmd
  split
  · assumption
  · rw [(State.int_off (Nat.and_self _) .refl pgSYS 2).rd_eq (by decide +kernel)]
    exact State.rd_wr_self _ _ (by decide) (by decide)

theorem State.cancelCmd_devState (s : State) : s.cancelCmd.devState = s.devState :=
  (State.cancelCmd_off (Nat.and_self _) .refl).rd_eq (by decide +kernel)

/-! ### Entry to PERFORMANCE (R9) -/

/-- What the entry to PERFORMANCE reaches once DEV_STATE and PENDING are written. -/
def F.entryTail : Nat :=
  F.State.outRestart ||| F.State.firstCeil ||| F.State.setCnx ||| F.State.startCap ||| F.State.clearCauses

theorem State.enterPerformance_off_entered {s : State} (hdark : s.sys.dark = false) (hmay : s.mayPerform = true)
    (hcmd : s.rd SYS_STATE_PENDING 0 = cmdSTART ∧ s.devState = stREHEARSAL
      ∨ s.rd SYS_STATE_PENDING 0 = cmdRESUME ∧ s.devState = stINTERVAL) :
    Off F.entryTail ((s.wr SYS_STATE_PENDING 0 0).setDevState stPERFORMANCE) s.enterPerformance := by
  have hm := Nat.and_self F.entryTail
  unfold State.enterPerformance
  extract_lets p from3 s1 s2 s3
  have hgo : (s.sys.dark || !(p == cmdSTART && s.devState == stREHEARSAL || p == cmdRESUME && from3)
      || !s.mayPerform) = false := by
    simp only [hdark, hmay, p, from3]
    rcases hcmd with ⟨hp, hst⟩ | ⟨hp, hst⟩ <;> rw [hp, hst] <;> rfl
  rw [if_neg (by rw [hgo]; exact Bool.false_ne_true)]
  have h1 : Off F.entryTail _ s1 := State.outRestart_off (sb hm (by decide)) .refl
  have h2 : Off F.entryTail _ s2 :=
    .ite h1 (State.setCnx_off (sb hm (by decide)) (State.firstCeil_off (sb hm (by decide)) h1) ..)
  have h3 : Off F.entryTail _ s3 :=
    State.cond_off h2 (fun _ h => .foldl h (fun _ h _ => State.startCap_off (sb hm (by decide)) h ..) _) _
  exact State.clearCauses_off (sb hm (by decide)) h3 ..

/-- A pending command takes effect: the device performs, and no command is pending (R9). -/
theorem State.enterPerformance_enters {s : State} (hdark : s.sys.dark = false) (hmay : s.mayPerform = true)
    (hcmd : s.rd SYS_STATE_PENDING 0 = cmdSTART ∧ s.devState = stREHEARSAL
      ∨ s.rd SYS_STATE_PENDING 0 = cmdRESUME ∧ s.devState = stINTERVAL) :
    s.enterPerformance.devState = stPERFORMANCE ∧ s.enterPerformance.rd SYS_STATE_PENDING 0 = 0 := by
  have h := State.enterPerformance_off_entered hdark hmay hcmd
  constructor
  · rw [State.devState, h.rd_eq (by decide +kernel)]
    exact State.setDevState_devState ..
  · rw [h.rd_eq (by decide +kernel), State.setDevState_pending]
    exact State.rd_wr_self _ _ (by decide) (by decide)

/-! ### Commands (R10, R11, R27) -/

theorem State.rejectCmd_rejCnt (s : State) :
    s.rejectCmd.rd SYS_REJ_CNT 0 = min (s.rd SYS_REJ_CNT 0 + 1) (2 ^ SYS_REJ_CNT.w - 1) := by
  rw [State.rejectCmd, (State.int_off (Nat.and_self _) .refl pgSYS 1).rd_eq (by decide +kernel)]
  exact State.rd_satInc_self (by decide) (by decide)

theorem State.rejectCmd_devState (s : State) : s.rejectCmd.devState = s.devState :=
  (State.rejectCmd_off (Nat.and_self _) .refl).rd_eq (by decide +kernel)

theorem State.rejectCmd_pending (s : State) : s.rejectCmd.rd SYS_STATE_PENDING 0 = s.rd SYS_STATE_PENDING 0 :=
  (State.rejectCmd_off (Nat.and_self _) .refl).rd_eq (by decide +kernel)

theorem State.rejectCmd_sys (s : State) : s.rejectCmd.sys = s.sys := rfl

/-- With no transition in progress and nothing waiting, a command is evaluated at once (R11). -/
theorem State.sysCmd_eq_evalCmd {s : State} {c : Nat} (hc : c ≠ 0) (htr : s.rd SYS_STATE_IN_TRANSITION 0 = 0)
    (hdef : s.sys.deferred = []) : s.sysCmd c = s.evalCmd c := by
  simp [State.sysCmd, State.on, hc, htr, hdef]

theorem State.evalCmd_start {s : State} (hdark : s.sys.dark = false) (hst : s.devState = stREHEARSAL) :
    s.evalCmd cmdSTART
      = ((s.setSys fun x => { x with stopHeld := false }).wr SYS_STATE_PENDING 0 cmdSTART).enterPerformance := by
  simp [State.evalCmd, hdark, hst, cmdSTART, cmdSTOP]

theorem State.evalCmd_resume {s : State} (hdark : s.sys.dark = false) (hst : s.devState = stINTERVAL) :
    s.evalCmd cmdRESUME = (s.wr SYS_STATE_PENDING 0 cmdRESUME).enterPerformance := by
  simp [State.evalCmd, hdark, hst, cmdSTART, cmdSTOP, cmdRESUME]

theorem State.evalCmd_pause {s : State} (hdark : s.sys.dark = false) (hst : s.devState = stPERFORMANCE) :
    s.evalCmd cmdPAUSE = (s.wr SYS_STATE_IN_TRANSITION 0 1).stateCurtain := by
  simp [State.evalCmd, hdark, hst, cmdSTART, cmdSTOP, cmdRESUME, cmdPAUSE]

theorem State.evalCmd_stop {s : State} (hdark : s.sys.dark = false) (hst : s.devState ≠ stREHEARSAL) :
    s.evalCmd cmdSTOP = ((s.setSys fun x => { x with stopHeld := true }).cancelCmd).toRehearsal := by
  have hkeep : ((s.setSys fun x => { x with stopHeld := true }).cancelCmd).devState ≠ stREHEARSAL := by
    rw [State.cancelCmd_devState]; exact hst
  simp [State.evalCmd, hdark, hkeep]

/-- A reserved code is rejected in every state (R10). -/
theorem State.evalCmd_reserved {s : State} {c : Nat} (hc : 5 ≤ c) : s.evalCmd c = s.rejectCmd := by
  have h1 : c ≠ cmdSTOP := by unfold cmdSTOP; omega
  have h2 : c ≠ cmdSTART := by unfold cmdSTART; omega
  have h3 : c ≠ cmdRESUME := by unfold cmdRESUME; omega
  have h4 : c ≠ cmdPAUSE := by unfold cmdPAUSE; omega
  simp [State.evalCmd, h1, h2, h3, h4]

theorem State.sysCmd_reserved {s : State} {c : Nat} (hc : 5 ≤ c) (htr : s.rd SYS_STATE_IN_TRANSITION 0 = 0)
    (hdef : s.sys.deferred = []) : s.sysCmd c = s.rejectCmd := by
  rw [State.sysCmd_eq_evalCmd (by omega) htr hdef, State.evalCmd_reserved hc]

end Sys2Proof.Machine

/-! PROOF. What SYS_CMD and the transitions of the device state complete with. -/
namespace Sys2Proof.Machine
open Sys2Proof

theorem execSysCmdStart_enters {s u : State} (hdark : s.sys.dark = false) (htr : s.rd SYS_STATE_IN_TRANSITION 0 = 0)
    (hdef : s.sys.deferred = []) (hst : s.devState = stREHEARSAL)
    (hu : u = ({ s with sys := { s.sys with stopHeld := false } } : State).wr SYS_STATE_PENDING 0 cmdSTART)
    (hmay : u.mayPerform = true) :
    ∃ t, exec .sysCmdStart s = .next t ∧ t.devState = stPERFORMANCE ∧ t.rd SYS_STATE_PENDING 0 = 0 := by
  subst hu
  refine ⟨_, rfl, ?_⟩
  rw [State.sysCmd_eq_evalCmd (by decide) htr hdef, State.evalCmd_start hdark hst]
  exact State.enterPerformance_enters hdark hmay
    (.inl ⟨State.rd_wr_self _ _ (by decide) (by decide), (State.rd_wr_ne _ _ (by decide)).trans hst⟩)

theorem execSysCmdPause_begins {s : State} {m : Fin 8} (hdark : s.sys.dark = false)
    (htr : s.rd SYS_STATE_IN_TRANSITION 0 = 0) (hdef : s.sys.deferred = []) (hst : s.devState = stPERFORMANCE) :
    ∃ t, exec .sysCmdPause s = .next t ∧ t.devState = stPERFORMANCE ∧ t.rd SYS_STATE_IN_TRANSITION 0 = 1
      ∧ t.cause m cSTATE = true := by
  refine ⟨_, rfl, ?_⟩
  rw [State.sysCmd_eq_evalCmd (by decide) htr hdef, State.evalCmd_pause hdark hst]
  refine ⟨?_, ?_, State.stateCurtain_cause _ m.isLt⟩
  · rw [State.stateCurtain_devState]
    exact (State.rd_wr_ne _ _ (by decide)).trans hst
  · rw [State.stateCurtain_inTransition]
    exact State.rd_wr_self _ _ (by decide) (by decide)

theorem execSysCmdResume_enters {s u : State} (hdark : s.sys.dark = false) (htr : s.rd SYS_STATE_IN_TRANSITION 0 = 0)
    (hdef : s.sys.deferred = []) (hst : s.devState = stINTERVAL) (hu : u = s.wr SYS_STATE_PENDING 0 cmdRESUME)
    (hmay : u.mayPerform = true) :
    ∃ t, exec .sysCmdResume s = .next t ∧ t.devState = stPERFORMANCE ∧ t.rd SYS_STATE_PENDING 0 = 0 := by
  subst hu
  refine ⟨_, rfl, ?_⟩
  rw [State.sysCmd_eq_evalCmd (by decide) htr hdef, State.evalCmd_resume hdark hst]
  exact State.enterPerformance_enters hdark hmay
    (.inr ⟨State.rd_wr_self _ _ (by decide) (by decide), (State.rd_wr_ne _ _ (by decide)).trans hst⟩)

theorem execSysCmdStop_rehearses {s : State} (hdark : s.sys.dark = false) (htr : s.rd SYS_STATE_IN_TRANSITION 0 = 0)
    (hdef : s.sys.deferred = []) (hst : s.devState ≠ stREHEARSAL) :
    ∃ t, exec .sysCmdStop s = .next t ∧ t.devState = stREHEARSAL ∧ t.rd SYS_STATE_PENDING 0 = 0
      ∧ t.rd SYS_STATE_IN_TRANSITION 0 = 0 := by
  refine ⟨_, rfl, ?_⟩
  rw [State.sysCmd_eq_evalCmd (by decide) htr hdef, State.evalCmd_stop hdark hst]
  exact ⟨State.toRehearsal_devState _, by rw [State.toRehearsal_pending, State.cancelCmd_pending],
    State.toRehearsal_inTransition _⟩

theorem execSysCmdReservedCode_rejects {s : State} {k : Fin 3} (htr : s.rd SYS_STATE_IN_TRANSITION 0 = 0)
    (hdef : s.sys.deferred = []) :
    ∃ t, exec (.sysCmdReservedCode k) s = .next t
      ∧ t.rd SYS_REJ_CNT 0 = min (s.rd SYS_REJ_CNT 0 + 1) (2 ^ SYS_REJ_CNT.w - 1)
      ∧ t.devState = s.devState ∧ t.rd SYS_STATE_PENDING 0 = s.rd SYS_STATE_PENDING 0 := by
  refine ⟨_, rfl, ?_⟩
  rw [State.sysCmd_reserved (Nat.le_add_right 5 k) htr hdef]
  exact ⟨s.rejectCmd_rejCnt, s.rejectCmd_devState, s.rejectCmd_pending⟩

/-- A write of SYS_CMD with a reserved code, as it arrives by any path. -/
theorem State.hostWrite_sysCmd_reserved {s : State} (htr : s.rd SYS_STATE_IN_TRANSITION 0 = 0) (hdef : s.sys.deferred = []) :
    s.hostWrite 0x40 5#32 = s.rejectCmd :=
  State.sysCmd_reserved (c := 5) (Nat.le_refl 5) htr hdef

theorem execDeferredCmdEvaluation_rejects {s : State} (htr : s.rd SYS_STATE_IN_TRANSITION 0 = 0)
    (hdef : s.sys.deferred = [.write 0x40 5#32]) :
    ∃ t, exec .deferredCmdEvaluation s = .next t ∧ t.sys.deferred = []
      ∧ t.rd SYS_REJ_CNT 0 = min (s.rd SYS_REJ_CNT 0 + 1) (2 ^ SYS_REJ_CNT.w - 1) := by
  have heval : s.deferredEval = (s.setSys fun x => { x with deferred := [] }).hostWrite 0x40 5#32 := by
    simp [State.deferredEval, State.on, htr, hdef, State.access]
  refine ⟨_, rfl, ?_⟩
  rw [heval, State.hostWrite_sysCmd_reserved (by exact htr) rfl]
  exact ⟨rfl, State.rejectCmd_rejCnt _⟩

theorem execPauseComplete_reaches {s : State} (hst : s.devState = stPERFORMANCE) (htr : s.rd SYS_STATE_IN_TRANSITION 0 = 1)
    (hdown : ∀ m < 8, s.down m = true) :
    ∃ t, exec .pauseComplete s = .next t ∧ t.devState = stINTERVAL ∧ t.rd SYS_STATE_IN_TRANSITION 0 = 0 := by
  have hdone : s.pauseDone = (s.wr SYS_STATE_IN_TRANSITION 0 0).setDevState stINTERVAL :=
    if_pos (by simpa [State.on, hst, htr] using hdown)
  refine ⟨_, rfl, ?_⟩
  rw [hdone]
  refine ⟨State.setDevState_devState .., ?_⟩
  rw [State.setDevState_inTransition]
  exact State.rd_wr_self _ _ (by decide) (by decide)

/-- REHEARSAL is forced, nothing is pending, and source 0's cause is reported (R466). -/
theorem execStateParity_forces (s : State) :
    ∃ t, exec .stateParity s = .next t ∧ t.devState = stREHEARSAL ∧ t.rd SYS_STATE_PENDING 0 = 0
      ∧ t.rd SYS_STATE_IN_TRANSITION 0 = 0 ∧ t.tst PG_ERR pgSYS 1 = true := by
  have hoff := State.raise_off (Nat.and_self _) (.refl (a := s.cancelCmd.toRehearsal)) pgSYS 1 allPorts
  refine ⟨_, rfl, ?_, ?_, ?_, ?_⟩
  · exact (hoff.rd_eq (by decide +kernel)).trans (State.toRehearsal_devState _)
  · exact (hoff.rd_eq (by decide +kernel)).trans ((State.toRehearsal_pending _).trans s.cancelCmd_pending)
  · exact (hoff.rd_eq (by decide +kernel)).trans (State.toRehearsal_inTransition _)
  · rw [State.stateParity, State.tst_congr (State.raise_regs ..),
      State.tst_orBits_self _ (by decide) (by decide) (by decide)]
    exact Bool.or_true _

/-- Settles O20: a command that waits for nothing is evaluated at once; an entry to PERFORMANCE, a fall of the Curtain and a
return to REHEARSAL write their fields of SYS_STATE, and what follows in them reaches no field of it. -/
theorem systemCommandsComplete : Obligations.SystemCommandsComplete :=
  ⟨fun _ _ => execSysCmdStart_enters, fun _ _ => execSysCmdPause_begins, fun _ _ => execSysCmdResume_enters,
   fun _ => execSysCmdStop_rehearses, fun _ _ => execSysCmdReservedCode_rejects, fun _ => execDeferredCmdEvaluation_rejects,
   fun _ hdark hmay hcmd => ⟨_, rfl, State.enterPerformance_enters hdark hmay hcmd⟩, fun _ => execPauseComplete_reaches,
   fun s _ => execStateParity_forces s⟩

end Sys2Proof.Machine

/-! PROOF. A register write as it arrives from the host, and the fall of a standing signal (spec/00_scope.md R6;
spec/10_fault_collector.md R278). -/
namespace Sys2Proof.Machine
open Sys2Proof

/-! ### The page header -/

/-- A page is a multiple of 4 KiB below the tap window, has a block ID, and has a header. -/
theorem pageOff_lies (page : Page) :
    pageOff page % 0x1000 = 0 ∧ pageOff page < 0x80000 ∧ (pageId (pageOff page)).isNone = false := by
  cases page with
  | twc q => revert q; decide
  | convRx m => revert m; decide
  | convTx m => revert m; decide
  | lane n => revert n; decide
  | _ => decide

theorem PG_INT_EN_has (page : Page) : PG_INT_EN.has (pageOff page) = true := by
  obtain ⟨hmul, hlt, _⟩ := pageOff_lies page
  refine Bool.and_eq_true_iff.2 ⟨decide_eq_true ?_, decide_eq_true ?_⟩
  · exact hmul ▸ Nat.zero_lt_one
  · exact Nat.div_lt_of_lt_mul hlt

/-- A write of a word of a page's header, but for that of the fast bank (R378). -/
theorem State.hostWrite_header {s : State} {page : Page} {o : Nat} {v : Word} (ho : o < 0x40) (hal : o % 4 = 0)
    (hfast : pageOff page ≠ pgIC + 0x1000) : s.hostWrite (pageOff page + o) v = s.writeHeader (pageOff page) o v := by
  obtain ⟨hmul, hlt, hid⟩ := pageOff_lies page
  have ha : (pageOff page + o) / 4 * 4 = pageOff page + o := by omega
  have hoff : (pageOff page + o) % 0x1000 = o := by omega
  have hwin : ¬ 0x100000 ≤ pageOff page + o := by omega
  simp only [State.hostWrite, ha, hoff, hwin, Nat.add_sub_cancel, hid, ho, hfast, if_true, if_false, Bool.false_eq_true]

/-- PG_INT_EN keeps the bits that the page defines, and nothing else changes but registers (R471, R472). -/
theorem State.hostWrite_intEn {s : State} {page : Page} {v : Word} (hfast : pageOff page ≠ pgIC + 0x1000) :
    (s.hostWrite (pageOff page + 0x1C) v).rd PG_INT_EN (pageOff page) = v.toNat % 2 ^ intBits (pageOff page)
      ∧ (s.hostWrite (pageOff page + 0x1C) v).mem = s.mem := by
  rw [State.hostWrite_header (by decide) (by decide) hfast]
  have hlt : v.toNat % 2 ^ intBits (pageOff page) < 2 ^ 32 := Nat.lt_of_le_of_lt (Nat.mod_le ..) v.isLt
  refine ⟨?_, rfl⟩
  exact (State.rd_wr_self _ _ (PG_INT_EN_has page) (by decide)).trans (Nat.mod_eq_of_lt hlt)

/-! ### Where a register write goes (R38, R357, R450) -/

theorem State.registerWrite_dark {s : State} {d a : Nat} {v : Word} (hdark : s.sys.dark = true) :
    s.registerWrite d a v = s := by
  simp [State.registerWrite, hdark]

/-- A write of the device's own slice acts at once where nothing waits. -/
theorem State.registerWrite_own {s : State} {d a : Nat} {v : Word} (hdark : s.sys.dark = false)
    (hown : s.vertex = true → d = s.devId) (hdef : s.sys.deferred = []) : s.registerWrite d a v = s.hostWrite a v := by
  cases hv : s.vertex with
  | false => simp [State.registerWrite, State.regWrite, State.byHost, hdark, hv, hdef]
  | true => simp [State.registerWrite, State.regWrite, State.byHost, hdark, hown hv, hdef]

/-- The vertex sends a write of another slice over the ring. -/
theorem State.registerWrite_remote {s : State} {d a : Nat} {v : Word} (hdark : s.sys.dark = false)
    (hvtx : s.vertex = true) (hd : d ≠ s.devId) : s.registerWrite d a v = s.tunnelWrite d (.write a v) := by
  simp [State.registerWrite, hdark, hvtx, hd]

/-! ### Reliable delivery (R385, R389) -/

/-- Sending a frame leaves what is delivered to a device, and from it, as it was. -/
theorem State.emit_deliv (s : State) (f : Frame) (d vc : Nat) : (s.emit f).deliv d vc = s.deliv d vc := by
  unfold State.emit
  extract_lets v
  split
  · rfl
  · split <;> rfl

theorem State.sendRel_unacked (s : State) (d vc : Nat) (b : RingBody) :
    ((s.sendRel d vc b).deliv d vc).unacked
      = (s.deliv d vc).unacked ++ [⟨s.portTo d, vc, d, (s.deliv d vc).next, b⟩] := by
  rw [State.sendRel, State.emit_deliv]
  simp only [State.deliv, State.setDeliv, State.setRing, Tab.get_set_self]

/-- A write for a present device with room goes out under the next number. -/
theorem State.tunnelWrite_sends {s : State} {d : Nat} {b : RegBody} (hpres : s.present d = true)
    (hring : s.ring.restoring = false) (hroom : (s.deliv d 0).unacked.length < 64) (hwait : (s.deliv d 0).waiting = []) :
    s.tunnelWrite d b = s.sendRel d 0 (.write b) := by
  simp [State.tunnelWrite, hpres, hring, Nat.not_le.2 hroom, hwait]

/-- A write for an absent device is counted and discarded (R388). -/
theorem State.tunnelWrite_absent {s : State} {d : Nat} {b : RegBody} (hpres : s.present d = false) :
    s.tunnelWrite d b = s.satInc RING_ABS_WR_CNT 0 := by
  simp [State.tunnelWrite, hpres]

/-! ### Standing signals (R278, R291) -/

theorem State.unstand_stand (s : State) (n c : Nat) :
    ((s.unstand n c).fcSrc n).stand = (s.fcSrc n).stand &&& ~~~(BitVec.ofNat 32 (2 ^ c)) := by
  simp only [State.unstand, State.fcSrc, State.setFcSrc, Tab.get_set_self]
  exact (apply_ite FcSrc.stand ..).trans (ite_self _)

/-- A condition that is met leaves the other conditions of its source as they were. -/
theorem State.unstand_getLsbD (s : State) (n c b : Nat) (hb : b < 32) :
    ((s.unstand n c).fcSrc n).stand.getLsbD b = ((s.fcSrc n).stand.getLsbD b && b != c) := by
  rw [State.unstand_stand, BitVec.getLsbD_and, BitVec.getLsbD_not, BitVec.getLsbD_ofNat, Nat.testBit_two_pow]
  by_cases h : c = b
  · simp [h, hb]
  · simp [h, hb, Ne.symm h]

theorem State.linesGood_lineFault (s : State) (m : Nat) : ((s.linesGood m).rport m).lineFault = false := by
  simp only [State.linesGood, State.unstand, State.setFcSrc, State.rport, State.setRport, Tab.get_set_self]

theorem State.linesGood_fcSrc (s : State) (m : Nat) : (s.linesGood m).fcSrc 12 = (s.unstand 12 m).fcSrc 12 := rfl

/-- The condition that falls is the one named, for each source whose standing signal falls after a time (R278). -/
theorem State.standFall_getLsbD {s : State} {n c b : Nat} (hb : b < 32)
    (hn : n = 12 ∨ n = 21 ∨ n = 5 ∧ c = 5
      ∨ n = 54 ∧ c = 0 ∧ s.rd SYS_SUPPLY_UNDER_NOW 0 = 0 ∧ s.rd SYS_SUPPLY_OVER_NOW 0 = 0) :
    ((s.standFall n c).fcSrc n).stand.getLsbD b = ((s.fcSrc n).stand.getLsbD b && b != c) := by
  rcases hn with rfl | rfl | ⟨rfl, rfl⟩ | ⟨rfl, rfl, hunder, hover⟩
  · exact (congrArg (·.stand.getLsbD b) (s.linesGood_fcSrc c)).trans (s.unstand_getLsbD 12 c b hb)
  · exact s.unstand_getLsbD 21 c b hb
  · exact s.unstand_getLsbD 5 5 b hb
  · have hfall : s.standFall 54 0 = s.unstand 54 0 := by simp [State.standFall, hunder, hover]
    rw [hfall]
    exact s.unstand_getLsbD 54 0 b hb

/-! ### The commands -/

theorem execRegisterWrite_intEn {s : State} {dev : Fin 64} {page : Page} {off : BitVec 24} {v : Word}
    (hdark : s.sys.dark = false) (hown : s.vertex = true → dev.val = s.devId) (hdef : s.sys.deferred = [])
    (hoff : off.toNat = pageOff page + 0x1C) (hfast : pageOff page ≠ pgIC + 0x1000) :
    ∃ t, exec (.registerWrite dev off v) s = .next t
      ∧ t.rd PG_INT_EN (pageOff page) = v.toNat % 2 ^ intBits (pageOff page) ∧ t.mem = s.mem := by
  refine ⟨_, rfl, ?_⟩
  rw [State.registerWrite_own hdark hown hdef, hoff]
  exact State.hostWrite_intEn hfast

theorem execRegisterWrite_sends {s : State} {dev : Fin 64} {off : BitVec 24} {v : Word} (hdark : s.sys.dark = false)
    (hvtx : s.vertex = true) (hd : dev.val ≠ s.devId) (hpres : s.present dev = true) (hring : s.ring.restoring = false)
    (hroom : (s.deliv dev 0).unacked.length < 64) (hwait : (s.deliv dev 0).waiting = []) :
    ∃ t, exec (.registerWrite dev off v) s = .next t
      ∧ (t.deliv dev 0).unacked
        = (s.deliv dev 0).unacked ++ [⟨s.portTo dev, 0, dev, (s.deliv dev 0).next, .write (.write off.toNat v)⟩] := by
  refine ⟨_, rfl, ?_⟩
  rw [State.registerWrite_remote hdark hvtx hd, State.tunnelWrite_sends hpres hring hroom hwait]
  exact State.sendRel_unacked ..

theorem execRegisterWrite_absent {s : State} {dev : Fin 64} {off : BitVec 24} {v : Word} (hdark : s.sys.dark = false)
    (hvtx : s.vertex = true) (hd : dev.val ≠ s.devId) (hpres : s.present dev = false) :
    ∃ t, exec (.registerWrite dev off v) s = .next t
      ∧ t.rd RING_ABS_WR_CNT 0 = min (s.rd RING_ABS_WR_CNT 0 + 1) (2 ^ RING_ABS_WR_CNT.w - 1) := by
  refine ⟨_, rfl, ?_⟩
  rw [State.registerWrite_remote hdark hvtx hd, State.tunnelWrite_absent hpres]
  exact State.rd_satInc_self (by decide) (by decide)

/-- Settles O60: a register write is discarded in DARK, acts on the device's own slice or goes over the ring; a standing signal
loses the one condition that is met. -/
theorem registerWriteAndSignalFallComplete : Obligations.RegisterWriteAndSignalFallComplete :=
  ⟨⟨fun _ _ _ _ hdark => congrArg _ (State.registerWrite_dark hdark),
    fun _ _ _ _ hdark hown hdef => congrArg _ (State.registerWrite_own hdark hown hdef),
    fun _ _ _ _ _ => execRegisterWrite_intEn, fun _ _ _ _ => execRegisterWrite_sends,
    fun _ _ _ _ => execRegisterWrite_absent⟩,
   fun s k => ⟨_, rfl, s.linesGood_lineFault k⟩,
   fun _ _ _ hn => ⟨_, rfl, fun _ hb => State.standFall_getLsbD hb hn⟩⟩

end Sys2Proof.Machine

/-! PROOF. A PAUSE completes (spec/01_architecture.md R28). -/
namespace Sys2Proof.Machine
open Sys2Proof

/-- Where the Curtain is open on a port, a PAUSE goes on. -/
theorem State.pauseDone_of_not_down {s : State} (hup : ¬ ∀ m < 8, s.down m = true) : s.pauseDone = s :=
  if_neg fun h => hup <| by simpa only [List.all_eq_true, List.mem_range] using (Bool.and_eq_true_iff.1 h).2

/-- Settles O8: with the Curtain down on every port the device reads INTERVAL, and otherwise nothing happens. -/
theorem pauseCompletes : Obligations.PauseCompletes := fun s hst htr => by
  by_cases hdown : ∀ m < 8, s.down m = true
  · obtain ⟨t, hexec, hstate, htr0⟩ := execPauseComplete_reaches hst htr hdown
    exact ⟨t, hexec, fun _ => ⟨hstate, htr0⟩, fun hup => absurd hdown hup⟩
  · refine ⟨_, rfl, fun h => absurd h hdown, fun _ => ?_⟩
    rw [State.pauseDone_of_not_down hdown]
    exact ⟨rfl, htr⟩

end Sys2Proof.Machine

/-! PROOF. The frame of the commands of storage manager and prompt book. -/
namespace Sys2Proof.Machine
open Sys2Proof

/-- Settles O14: each clause names memories, pieces and fields that cover the mask of its command (Laws/OffCommands.lean). -/
theorem storageFrame : Obligations.StorageFrame :=
  ⟨fun a => onlyChanges_of_maskCovers (execHistoryIntervalBoundary_off · a) (by decide +kernel),
   fun a => onlyChanges_of_maskCovers (execStorageReady_off · a) (by decide +kernel),
   onlyChanges_of_maskCovers execFormatGo_off (by decide +kernel),
   onlyChanges_of_maskCovers execReshape_off (by decide +kernel),
   fun a => onlyChanges_of_maskCovers (execFormatDone_off · a) (by decide +kernel),
   fun a b c => onlyChanges_of_maskCovers (execCodewordUncorrectable_off · a b c) (by decide +kernel),
   fun a b c d => onlyChanges_of_maskCovers (execBlockRefresh_off · a b c d) (by decide +kernel),
   fun a b c d e f g => onlyChanges_of_maskCovers (execBlockRetire_off · a b c d e f g) (by decide +kernel),
   onlyChanges_of_maskCovers execScrubPassComplete_off (by decide +kernel),
   onlyChanges_of_maskCovers execWearCheckpoint_off (by decide +kernel),
   onlyChanges_of_maskCovers execCeBusyTimeout_off (by decide +kernel),
   fun a => onlyChanges_of_maskCovers (execSnapshotArm_off · a) (by decide +kernel),
   fun a => onlyChanges_of_maskCovers (execSnapshotTrigger_off · a) (by decide +kernel),
   onlyChanges_of_maskCovers execSnapshotHostTrigger_off (by decide +kernel),
   onlyChanges_of_maskCovers execSnapshotFillComplete_off (by decide +kernel),
   onlyChanges_of_maskCovers execSnapshotStored_off (by decide +kernel),
   fun a b c d => onlyChanges_of_maskCovers (execRecordArrival_off · a b c d) (by decide +kernel),
   onlyChanges_of_maskCovers execRecordAdmittedAfterWait_off (by decide +kernel),
   onlyChanges_of_maskCovers execFoldWindowExpiry_off (by decide +kernel),
   onlyChanges_of_maskCovers execRateLimitWindowEnd_off (by decide +kernel),
   fun a => onlyChanges_of_maskCovers (execPbCfgWrite_off · a) (by decide +kernel),
   onlyChanges_of_maskCovers execFlushPeriodic_off (by decide +kernel),
   fun a => onlyChanges_of_maskCovers (execRecordConfirmed_off · a) (by decide +kernel),
   fun a => onlyChanges_of_maskCovers (execPfailAssert_off · a) (by decide +kernel),
   onlyChanges_of_maskCovers execVaultFlushComplete_off (by decide +kernel),
   onlyChanges_of_maskCovers execPfailDeassert_off (by decide +kernel),
   onlyChanges_of_maskCovers execVaultRestore_off (by decide +kernel),
   fun a => onlyChanges_of_maskCovers (execStagingUncorr_off · a) (by decide +kernel),
   onlyChanges_of_maskCovers execVaultLineUncorr_off (by decide +kernel),
   onlyChanges_of_maskCovers execPbReadGo_off (by decide +kernel),
   onlyChanges_of_maskCovers execPbReadDone_off (by decide +kernel),
   onlyChanges_of_maskCovers execVerifyGo_off (by decide +kernel),
   onlyChanges_of_maskCovers execVerifyStop_off (by decide +kernel),
   fun a => onlyChanges_of_maskCovers (execVerifyDone_off · a) (by decide +kernel)⟩

end Sys2Proof.Machine

/-! PROOF. The recorder of the prompt book: what numbering, closing and auditing leave of the book
(spec/11_prompt_book.md R308 to R316). -/
namespace Sys2Proof.Machine
open Sys2Proof

/-! ### Operations that do not reach the book -/

theorem Off.pb_eq {m : Nat} {a s : State} (h : Off m a s) (hb : m.testBit (partNo .pb) = false) : s.pb = a.pb :=
  h.part .pb hb

@[simp] theorem State.satInc_pb (s : State) (f : Fld) (i : Nat) : (s.satInc f i).pb = s.pb := rfl
@[simp] theorem State.int_pb (s : State) (page b : Nat) : (s.int page b).pb = s.pb := rfl
@[simp] theorem State.stand_pb (s : State) (n c : Nat) : (s.stand n c).pb = s.pb := rfl

@[simp] theorem State.raise_pb (s : State) (page b : Nat) (ports : Ports) : (s.raise page b ports).pb = s.pb :=
  (State.raise_off (Nat.and_self _) .refl page b ports).pb_eq (by decide)

@[simp] theorem State.visible_pb (s : State) (w : Waiting) (seq : Option (BitVec 40)) : (s.visible w seq).pb = s.pb :=
  (State.visible_off (Nat.and_self _) .refl w seq).pb_eq (by decide)

@[simp] theorem State.dropRec_pb (s : State) (w : Waiting) (cnt : Fld) : (s.dropRec w cnt).pb = s.pb := by
  rw [State.dropRec, State.visible_pb, State.int_pb, State.satInc_pb]

@[simp] theorem State.waitMet_pb (s : State) : s.waitMet.pb = s.pb :=
  (State.waitMet_off (Nat.and_self _) .refl).pb_eq (by decide)

@[simp] theorem State.reach_pb (s : State) (n : Nat) : (s.reach n).pb = s.pb :=
  (State.reach_off (Nat.and_self _) .refl n).pb_eq (by decide)

@[simp] theorem State.toMul_pb (s : State) (e o p : Nat) : (s.toMul e o p).pb = s.pb :=
  (State.toMul_off (Nat.and_self _) .refl e o p).pb_eq (by decide)

theorem State.reach_now (s : State) (n : Nat) : (s.reach n).now = max s.now n := by
  unfold State.reach
  split
  · rw [State.pass_now]; omega
  · omega

/-! ### Numbering (R308, R312) -/

/-- The book once a record with the next number stands in staging. -/
def PbSt.issuing (p : PbSt) (r : Rec) : PbSt :=
  { p with staging := p.staging ++ [r], next := p.next + 1, gaps := p.gaps ++ r.gap.toList,
           reserve := if p.reserve ≤ p.next.toNat then (p.next.toNat / 2 ^ 20 + 1) * 2 ^ 20 else p.reserve }

/-- Outside the COMPAT mode a record stays open as it is issued (R310, R311). -/
theorem State.number_pb {s : State} (w : Waiting) (late : Bool) (hcompat : s.rd PB_CFG_COMPAT 0 = 0) :
    (s.number w late .main s.pb.mainUsed).pb = s.pb.issuing (s.issue w.r late) := by
  unfold State.number
  extract_lets n r0 r u t
  have ht : t.on PB_CFG_COMPAT 0 = false := by
    rw [State.on, (State.visible_off (Nat.and_self _) (.refl (a := u)) w (some n)).rd_eq (by decide +kernel)]
    exact congrArg (· != 0) hcompat
  rw [ht]
  exact State.visible_pb u w (some n)

/-- A record that does not take the last slot of the main area is numbered, and nothing more (R314). -/
theorem State.enter_pb {s : State} (w : Waiting) (late : Bool) (hfull : s.pb.mainFull = false)
    (hroom : s.pb.mainCap = 0 ∨ s.pb.mainUsed + 1 < s.pb.mainCap) (hcompat : s.rd PB_CFG_COMPAT 0 = 0) :
    ∃ used, (s.enter w late).pb = { s.pb.issuing (s.issue w.r late) with mainUsed := used } := by
  have hnum := State.number_pb w late hcompat
  simp only [State.enter, hfull, Bool.false_eq_true, if_false, State.setPb_pb]
  generalize s.number w late .main s.pb.mainUsed = t at hnum
  simp only [hnum]
  by_cases hcap : s.pb.mainCap = 0
  · exact ⟨s.pb.mainUsed, by simp only [hcap, if_true, hnum, PbSt.issuing]⟩
  · exact ⟨s.pb.mainUsed + 1, by
      simp only [PbSt.issuing, hcap, hroom.resolve_left hcap, if_true, if_false, State.setPb_pb, hnum]⟩

theorem State.closeOpen_of_none {s : State} (h : s.pb.openRec = none) : s.closeOpen = s := by
  simp only [State.closeOpen, h]

theorem State.audited_of_not_due {s : State} (h : s.pb.auditDue = false) : s.audited = s := by
  simp only [State.audited, h, Bool.false_eq_true, if_false]

/-- A record that the book takes at once is admitted, whatever its severity (R310 to R314). -/
theorem State.handOne_of_recording {s : State} (h : Recording s) (w : Waiting) : s.handOne w = s.enter w false := by
  obtain ⟨hpf, hrestored, hopen, hcompat, hfull, hwaiting, hstaging, _, _⟩ := h
  have hminor : ¬ 7168 ≤ s.pb.staging.length := Nat.not_le.2 hstaging
  have hmajor : ¬ 8192 ≤ s.pb.staging.length := by omega
  have hoff : s.on PB_CFG_COMPAT 0 = false := by rw [State.on, hcompat]; rfl
  have harrive : s.arrive w = s.enter w false := by
    simp only [State.arrive, State.closeOpen_of_none hopen, hfull, hwaiting, hminor, hmajor, decide_false, List.isEmpty_nil,
      Bool.not_true, Bool.or_self, Bool.and_false, Bool.false_eq_true, if_false]
  simp only [State.handOne, State.record, hpf, hrestored, hoff, hopen, harrive, Bool.not_true, Bool.false_eq_true, if_false]

/-- A record that the book takes at once is issued, and no audit follows. -/
theorem State.handRec_pb_of_recording {s : State} (h : Recording s) (w : Waiting) :
    ∃ used, (s.handRec w).pb = { s.pb.issuing (s.issue w.r false) with mainUsed := used } := by
  have henter := State.handOne_of_recording h w
  obtain ⟨_, _, _, hcompat, hfull, _, _, hroom, hdue⟩ := h
  obtain ⟨used, hpb⟩ := State.enter_pb w false hfull hroom hcompat
  refine ⟨used, ?_⟩
  rw [State.handRec, henter, State.audited_of_not_due (by rw [hpb]; exact hdue), hpb]

/-! ### Closing the open record (R309, R310, R313) -/

/-- The book once its open record has closed with a tag. -/
def PbSt.closing (p : PbSt) (r : Rec) (tag : Word) : PbSt :=
  { p with staging := p.staging.dropLast ++ [{ r with closed := true, tag := tag }], lastTag := tag }

/-- The open record closes; from 1,024 closed records on, a flush begins and its audit is due. -/
theorem State.closeOpen_pb {s : State} {r : Rec} (h : s.pb.openRec = some r) :
    s.closeOpen.pb = s.pb.closing r (r.chainTag s.pb.lastTag s.chainKey)
      ∨ s.closeOpen.pb = { (s.pb.closing r (r.chainTag s.pb.lastTag s.chainKey)).flush with auditDue := true } := by
  simp only [State.closeOpen, h, State.setPb_pb]
  split
  · exact .inr rfl
  · exact .inl rfl

theorem PbSt.openRec_eq_some {p : PbSt} {r : Rec} (h : p.openRec = some r) : p.staging.dropLast ++ [r] = p.staging := by
  unfold PbSt.openRec at h
  split at h
  case h_1 x hlast =>
    split at h
    · contradiction
    · cases h
      obtain ⟨rs, hrs⟩ := List.getLast?_eq_some_iff.1 hlast
      rw [hrs, List.dropLast_concat]
  case h_2 => contradiction

theorem PbSt.closing_openRec (p : PbSt) (r : Rec) (tag : Word) : (p.closing r tag).openRec = none := by
  simp only [PbSt.openRec, PbSt.closing, List.getLast?_append, List.getLast?_singleton, Option.some_or, if_true]

theorem PbSt.flush_closing_openRec (p : PbSt) (r : Rec) (tag : Word) : (p.closing r tag).flush.openRec = none := by
  simp only [PbSt.openRec, PbSt.flush, PbSt.closing, List.map_append, List.map_cons, List.map_nil, List.getLast?_append,
    List.getLast?_singleton, Option.some_or, if_true]

/-! ### The numbers of the book (R30, R42) -/

/-- Of staging the audit reads the numbers alone. -/
theorem PbSt.violation_of_seqs {p : PbSt} {l : List Rec} {tag : Word} {due : Bool}
    (h : l.map (·.seq.toNat) = p.staging.map (·.seq.toNat)) :
    PbSt.violation { p with staging := l, lastTag := tag, auditDue := due } = p.violation := by
  simp only [PbSt.violation, PbSt.numbers, h]

theorem PbSt.closing_seqs {p : PbSt} {r : Rec} (h : p.openRec = some r) (tag : Word) :
    (p.closing r tag).staging.map (·.seq.toNat) = p.staging.map (·.seq.toNat) := by
  rw [← congrArg (List.map (·.seq.toNat)) (PbSt.openRec_eq_some h)]
  simp only [PbSt.closing, List.map_append, List.map_cons, List.map_nil]

theorem PbSt.flush_seqs (p : PbSt) : p.flush.staging.map (·.seq.toNat) = p.staging.map (·.seq.toNat) := by
  simp only [PbSt.flush, List.map_map]
  refine List.map_congr_left fun r _ => ?_
  simp only [Function.comp]
  split <;> rfl

/-- An open record that closes has the chain's next tag, and leaves the numbers of the book as they were. -/
theorem State.closeOpen_closes {s : State} {r : Rec} (h : s.pb.openRec = some r) :
    s.closeOpen.pb.openRec = none ∧ s.closeOpen.pb.lastTag = r.chainTag s.pb.lastTag s.chainKey
      ∧ s.closeOpen.pb.violation = s.pb.violation := by
  have hseq := PbSt.closing_seqs h (r.chainTag s.pb.lastTag s.chainKey)
  rcases State.closeOpen_pb h with e | e
  · rw [e]
    exact ⟨PbSt.closing_openRec .., rfl, PbSt.violation_of_seqs hseq⟩
  · rw [e]
    exact ⟨PbSt.flush_closing_openRec .., rfl, PbSt.violation_of_seqs ((PbSt.flush_seqs _).trans hseq)⟩

/-- An audit that finds every number once leaves the book as it was. -/
theorem State.auditBook_of_consistent {s : State} (h : s.pb.violation = none) :
    s.auditBook = s.setPb fun p => { p with auditDue := false } := by
  have hsame : PbSt.violation { s.pb with auditDue := false } = none := (PbSt.violation_of_seqs rfl).trans h
  simp only [State.auditBook, State.setPb_pb, hsame, ite_self]

theorem State.audited_of_consistent {s : State} (h : s.pb.violation = none) :
    s.audited.pb = { s.pb with auditDue := false } := by
  unfold State.audited
  split
  · rw [State.auditBook_of_consistent h]; rfl
  · rename_i hdue
    rw [← Bool.eq_false_iff.2 hdue]

end Sys2Proof.Machine

/-! PROOF. The recorder leaves alone what a power failure and the restore turn on (spec/11_prompt_book.md R316, R317). -/
namespace Sys2Proof.Machine
open Sys2Proof

/-- Of the book what only a power failure, the restore or a reset changes, with the rest as it is before any record. -/
def PbSt.power (p : PbSt) : PbSt :=
  { restored := p.restored, cold := p.cold, pf := p.pf, pfDone := p.pfDone, pfailLow := p.pfailLow,
    head := { valid := p.head.valid } }

theorem PbSt.restored_of_power {p q : PbSt} (h : p.power = q.power) : p.restored = q.restored :=
  show p.power.restored = q.power.restored from congrArg _ h

theorem State.ite_power {c : Prop} [Decidable c] {x y : State} {p : PbSt} (hx : x.pb.power = p) (hy : y.pb.power = p) :
    (if c then x else y).pb.power = p := by
  split <;> assumption

theorem State.cond_power {s : State} {f : State → State} (hf : ∀ s, (f s).pb.power = s.pb.power) (c : Bool) :
    (s.cond c f).pb.power = s.pb.power := State.ite_power (hf s) rfl

theorem State.foldl_power {α : Type} {f : State → α → State} (hf : ∀ s x, (f s x).pb.power = s.pb.power) (l : List α) :
    ∀ s : State, (l.foldl f s).pb.power = s.pb.power := by
  induction l with
  | nil => exact fun _ => rfl
  | cons x l ih => exact fun s => (ih _).trans (hf s x)

theorem State.closeOpen_power (s : State) : s.closeOpen.pb.power = s.pb.power := by
  cases hopen : s.pb.openRec with
  | none => rw [State.closeOpen_of_none hopen]
  | some r => rcases State.closeOpen_pb hopen with e | e <;> rw [e] <;> rfl

theorem State.number_power (s : State) (w : Waiting) (late : Bool) (area : Area) (slot : Nat) :
    (s.number w late area slot).pb.power = s.pb.power := by
  unfold State.number
  extract_lets n r0 r u t
  rw [State.cond_power State.closeOpen_power, State.visible_pb]
  rfl

theorem State.enterApron_power (s : State) (w : Waiting) (late : Bool) :
    (s.enterApron w late).pb.power = s.pb.power := by
  unfold State.enterApron
  refine State.ite_power ?_ ?_
  · extract_lets k t u
    have hu : u.pb.power = t.pb.power := State.cond_power (f := fun s =>
      (s.setPb fun p => { p with apronFull := true }).int pgPB 1) (fun _ => rfl) _
    exact (State.number_power ..).trans hu
  · split
    · rw [State.number_power]; rfl
    · rw [State.dropRec_pb]

theorem State.enter_power (s : State) (w : Waiting) (late : Bool) : (s.enter w late).pb.power = s.pb.power := by
  have hnum := State.number_power s w late .main s.pb.mainUsed
  unfold State.enter
  refine State.ite_power (State.enterApron_power ..) ?_
  extract_lets t u last v r
  exact State.ite_power hnum <| State.ite_power hnum <|
    (State.enterApron_power ..).trans ((State.closeOpen_power _).trans hnum)

theorem State.arrive_power (s : State) (w : Waiting) : (s.arrive w).pb.power = s.pb.power := by
  have hclose := s.closeOpen_power
  unfold State.arrive
  generalize s.closeOpen = t at hclose
  extract_lets _ u v
  have hwait : ((v.raise pgPB 3 allPorts).stand 4 3).pb.power = s.pb.power := by
    rw [State.stand_pb, State.raise_pb]; exact hclose
  have hdrop (cnt : Fld) : (t.dropRec w cnt).pb.power = s.pb.power := by rw [State.dropRec_pb]; exact hclose
  exact State.ite_power (hdrop _) <| State.ite_power (hdrop _) <|
    State.ite_power hwait ((State.enter_power ..).trans hclose)

theorem PbSt.power_restart (p : PbSt) (win : Nat) (issued supp : Tab Nat) :
    PbSt.power { p with rlWin := win, rlIssued := issued, rlSupp := supp } = p.power := rfl

theorem State.rlEnd_power (s : State) : s.rlEnd.pb.power = s.pb.power := by
  unfold State.rlEnd
  extract_lets sup t
  have ht : t.pb.power = s.pb.power := PbSt.power_restart s.pb s.rlNow [] []
  refine State.ite_power ((State.foldl_power (fun u x => ?_) sup t).trans ht) ht
  obtain ⟨c, n⟩ := x
  exact State.arrive_power ..

theorem State.record_power (s : State) (w : Waiting) : (s.record w).pb.power = s.pb.power := by
  unfold State.record
  refine State.ite_power ?_ ?_
  · extract_lets t c k u
    have ht : t.pb.power = s.pb.power := State.cond_power State.rlEnd_power _
    refine State.ite_power ?_ ((State.arrive_power ..).trans ht)
    rw [State.dropRec_pb]; exact ht
  · split
    · exact State.arrive_power ..
    · refine State.ite_power ?_ (State.arrive_power ..)
      extract_lets o' t u
      rw [State.cond_power State.closeOpen_power, State.visible_pb]
      rfl

theorem State.hold_power (s : State) (w : Waiting) : (s.hold w).pb.power = s.pb.power := by
  unfold State.hold
  extract_lets n t
  refine State.ite_power ?_ (State.ite_power ?_ ?_)
  · rw [State.dropRec_pb]
  · rw [State.stand_pb, State.raise_pb]; rfl
  · rw [State.holdRec, State.visible_pb]; rfl

theorem State.handOne_power (s : State) (w : Waiting) : (s.handOne w).pb.power = s.pb.power := by
  unfold State.handOne
  refine State.ite_power ?_ (State.ite_power (State.hold_power ..) (State.record_power ..))
  rw [State.visible_pb]; rfl

theorem State.auditBook_power (s : State) : s.auditBook.pb.power = s.pb.power := by
  unfold State.auditBook
  extract_lets t
  split
  · rfl
  · rw [State.handOne_power, State.stand_pb, State.raise_pb]; rfl

theorem State.audited_power (s : State) : s.audited.pb.power = s.pb.power :=
  State.ite_power s.auditBook_power rfl

end Sys2Proof.Machine

/-! PROOF. What the commands of the recorder, of its windows and of a power failure complete with. -/
namespace Sys2Proof.Machine
open Sys2Proof

theorem execRecordArrival_issues {s : State} {page : Page} {code : BitVec 16} {sev : Nat} {payload : BitVec 64}
    (h : Recording s) :
    ∃ t, exec (.recordArrival page code sev payload) s = .next t ∧ t.pb.next = s.pb.next + 1
      ∧ t.pb.staging
        = s.pb.staging ++ [s.issue (s.mkRec (pageOff page) code.toNat (max 1 (min 4 sev)) false payload.toNat) false] := by
  obtain ⟨used, hpb⟩ := State.handRec_pb_of_recording h
    ⟨s.mkRec (pageOff page) code.toNat (max 1 (min 4 sev)) false payload.toNat, 0, false, []⟩
  exact ⟨_, rfl, congrArg PbSt.next hpb, congrArg PbSt.staging hpb⟩

/-! ### A waiting record (R312) -/

/-- The first waiting record is admitted with LATE once a place is free. -/
theorem State.letWaiting_of_recording {s : State} {w : Waiting} {rest : List Waiting} (hwait : s.pb.waiting = w :: rest)
    (hplace : s.pb.staging.length + s.pb.held.length < 8192)
    (h : Recording (s.setPb fun p => { p with waiting := [] })) :
    ∃ used, s.letWaiting.pb
      = { s.pb.issuing (s.issue w.r true) with waiting := rest, mainUsed := used } := by
  obtain ⟨hpf, hrestored, hopen, hcompat, hfull, _, _, hroom, hdue⟩ := h
  have hgo : ¬ (8192 ≤ s.pb.staging.length + s.pb.held.length ∨ s.pb.pf = true) := by
    rintro (hge | hlow)
    · omega
    · exact Bool.noConfusion (hlow.symm.trans hpf)
  let u := s.setPb fun p => { p with waiting := rest }
  obtain ⟨used, hpb⟩ := State.enter_pb (s := u) w true hfull hroom hcompat
  have hclosed : u.closeOpen = u := State.closeOpen_of_none hopen
  have hlet : s.letWaiting = if u.pb.restored then (u.closeOpen.enter w true).audited.waitMet
      else (u.holdRec { w with r := { w.r with late := true } }).waitMet := by
    simp only [State.letWaiting, hwait, hgo, if_false]
    exact (apply_ite State.waitMet ..)
  refine ⟨used, ?_⟩
  rw [hlet, if_pos (show u.pb.restored = true from hrestored), State.waitMet_pb, hclosed,
    State.audited_of_not_due (by rw [hpb]; exact hdue), hpb]
  rfl

theorem execRecordAdmittedAfterWait_issues {s : State} {w : Waiting} {rest : List Waiting}
    (hwait : s.pb.waiting = w :: rest) (hplace : s.pb.staging.length + s.pb.held.length < 8192)
    (h : Recording (s.setPb fun p => { p with waiting := [] })) :
    ∃ t, exec .recordAdmittedAfterWait s = .next t ∧ t.pb.waiting = rest ∧ t.pb.next = s.pb.next + 1
      ∧ t.pb.staging = s.pb.staging ++ [s.issue w.r true] := by
  obtain ⟨used, hpb⟩ := State.letWaiting_of_recording hwait hplace h
  exact ⟨_, rfl, congrArg PbSt.waiting hpb, congrArg PbSt.next hpb, congrArg PbSt.staging hpb⟩

/-! ### The windows of time (R310, R311, R313) -/

theorem execFoldWindowExpiry_closes {s : State} {r : Rec} (hopen : s.pb.openRec = some r)
    (hok : s.pb.violation = none) :
    ∃ t, exec .foldWindowExpiry s = .next t ∧ t.pb.openRec = none ∧ t.pb.lastTag = r.chainTag s.pb.lastTag s.chainKey
      ∧ t.now = max s.now (r.issued + (secT 60 : Nat)).toNat := by
  let u := s.reach (r.issued + (secT 60 : Nat)).toNat
  have hu : u.pb = s.pb := s.reach_pb _
  have hkey : u.chainKey = s.chainKey := by
    have hboot : u.boot = s.boot := (State.reach_off (Nat.and_self _) .refl _).part .boot (by decide)
    simp only [State.chainKey, hu, hboot]
  obtain ⟨hnone, htag, hviol⟩ := State.closeOpen_closes (s := u) (hu ▸ hopen)
  have hpb := State.audited_of_consistent (hviol.trans (hu ▸ hok))
  have hend : s.foldEnd = u.closeOpen.audited := by simp only [State.foldEnd, hopen]; rfl
  refine ⟨_, rfl, ?_, ?_, ?_⟩ <;> rw [hend]
  · rw [hpb]; exact hnone
  · rw [hpb, ← hkey, ← hu]; exact htag
  · have hnow : u.closeOpen.audited.now = u.now := (State.audited_off (m := F.State.audited) (Nat.and_self _)
      (State.closeOpen_off (by decide) .refl)).part .now (by decide)
    exact hnow.trans (s.reach_now _)

/-- A window in which nothing was suppressed ends without a record. -/
theorem State.rlEnd_of_none {s : State} (h : s.pb.rlSupp = []) :
    s.rlEnd = s.setPb fun p => { p with rlWin := s.rlNow, rlIssued := [], rlSupp := [] } := by
  simp only [State.rlEnd, h, List.foldl_nil, ite_self]

@[simp] theorem State.setPb_rlNow (s : State) (g : PbSt → PbSt) : (s.setPb g).rlNow = s.rlNow := rfl

theorem execRateLimitWindowEnd_restarts {s : State} (hcompat : s.rd PB_CFG_COMPAT 0 ≠ 0) (hsupp : s.pb.rlSupp = [])
    (hdue : s.pb.auditDue = false) :
    ∃ t, exec .rateLimitWindowEnd s = .next t ∧ t.pb.rlIssued = [] ∧ t.pb.rlWin = t.rlNow := by
  have hu := s.toMul_pb evRATE 0 (msT (max 1 (s.rd PB_CFG_RL_WIN 0)))
  have hon : s.on PB_CFG_COMPAT 0 = true := bne_iff_ne.2 hcompat
  refine ⟨_, rfl, ?_⟩
  rw [State.rateEnd, if_pos hon]
  generalize s.toMul evRATE 0 (msT (max 1 (s.rd PB_CFG_RL_WIN 0))) = u at hu
  rw [State.rlEnd_of_none (hu ▸ hsupp), State.audited_of_not_due (by rw [State.setPb_pb]; exact hu ▸ hdue),
    State.setPb_rlNow]
  exact ⟨rfl, rfl⟩

theorem execFlushPeriodic_hands {s : State} (hok : s.pb.violation = none) :
    ∃ t, exec .flushPeriodic s = .next t ∧ t.pb = { s.pb.flush with auditDue := false } := by
  have hu : (s.toMul evFLUSH 0 (msT 250)).pb = s.pb := s.toMul_pb ..
  refine ⟨_, rfl, ?_⟩
  rw [State.flushPeriodic, State.setPb_pb, State.auditBook_of_consistent (by rw [hu]; exact hok), State.setPb_pb, hu]
  rfl

/-! ### PB_CFG (R311, R323) -/

@[simp] theorem Fld.of_mod (f : Fld) (v : Word) : f.of v % 2 ^ f.w = f.of v := Nat.mod_mod ..

theorem State.wrWord_pbCfg (s : State) (v : Word) :
    let t := s.wrWord [PB_CFG_COMPAT, PB_CFG_RL_MAX, PB_CFG_RL_WIN] 0 v
    t.rd PB_CFG_COMPAT 0 = PB_CFG_COMPAT.of v ∧ t.rd PB_CFG_RL_MAX 0 = PB_CFG_RL_MAX.of v
      ∧ t.rd PB_CFG_RL_WIN 0 = PB_CFG_RL_WIN.of v := by
  simp only [State.wrWord, List.foldl_cons, List.foldl_nil]
  refine ⟨?_, ?_, ?_⟩
  · rw [State.rd_wr_ne _ _ (by decide), State.rd_wr_ne _ _ (by decide), State.rd_wr_self _ _ (by decide) (by decide),
      Fld.of_mod]
  · rw [State.rd_wr_ne _ _ (by decide), State.rd_wr_self _ _ (by decide) (by decide), Fld.of_mod]
  · rw [State.rd_wr_self _ _ (by decide) (by decide), Fld.of_mod]

theorem execPbCfgWrite_writes {s : State} {v : Word} (hdef : s.sys.deferred = []) (hmax : PB_CFG_RL_MAX.of v ≠ 0)
    (hwin : PB_CFG_RL_WIN.of v ≠ 0) :
    ∃ t, exec (.pbCfgWrite v) s = .next t ∧ t.rd PB_CFG_COMPAT 0 = PB_CFG_COMPAT.of v
      ∧ t.rd PB_CFG_RL_MAX 0 = PB_CFG_RL_MAX.of v ∧ t.rd PB_CFG_RL_WIN 0 = PB_CFG_RL_WIN.of v := by
  have hnow : s.sys.deferred.isEmpty = true := List.isEmpty_iff.2 hdef
  have htaken : ¬ (PB_CFG_RL_MAX.of v = 0 ∨ PB_CFG_RL_WIN.of v = 0) := not_or.2 ⟨hmax, hwin⟩
  refine ⟨_, rfl, ?_⟩
  rw [State.byHost, if_pos hnow, State.writePbCfg, if_neg htaken]
  exact State.wrWord_pbCfg ..

/-! ### A confirmed record (R34) -/

theorem State.serve_of_idle {s : State} (h : s.stm.work = []) : s.serve = s := by
  simp only [State.serve, h, List.isEmpty_nil, if_true]

theorem State.confirm_releases {s : State} {seq : BitVec 40} {r : Rec}
    (hfind : (s.pb.staging.find? fun r => r.seq == seq) = some r) (hclosed : r.closed = true) (hhanded : r.handed = true)
    (hcap : 0 < s.pb.mainCap) :
    s.confirm seq = ((s.programmed 0 (s.bookUnit r) 1).setPb fun p =>
      { p with staging := p.staging.filter (fun x => x.seq != seq), book := p.book ++ [r] }).waitMet := by
  simp only [State.confirm, hfind, hclosed, hhanded, hcap, decide_true, Bool.and_self, if_true]

theorem execRecordConfirmed_releases {s : State} {seq : BitVec 40} {r : Rec}
    (hfind : (s.pb.staging.find? fun r => r.seq == seq) = some r) (hclosed : r.closed = true) (hhanded : r.handed = true)
    (hcap : 0 < s.pb.mainCap) (hidle : s.stm.work = []) :
    ∃ t, exec (.recordConfirmed seq) s = .next t ∧ t.pb.book = s.pb.book ++ [r]
      ∧ t.pb.staging = s.pb.staging.filter fun x => x.seq != seq := by
  have hconf := State.confirm_releases hfind hclosed hhanded hcap
  have hwork : (s.confirm seq).stm.work = [] := by
    rw [hconf, (State.waitMet_off (Nat.and_self _) .refl).part .stm (by decide)]
    exact hidle
  refine ⟨_, rfl, ?_⟩
  rw [State.serve_of_idle hwork, hconf, State.waitMet_pb]
  exact ⟨rfl, rfl⟩

/-! ### A power failure (R316) -/

/-- The open record closes, and the power-fail record is issued and closed. -/
def State.recordPowerFail (s : State) (supply : Bool) : State :=
  let u := (s.setPb fun p => { p with pfailLow := p.pfailLow || !supply }).closeOpen
  (u.enter ⟨u.mkRec pgPB 0x0004 sevMAJOR false (pf 63 1 supply.toNat), 0, false, []⟩ false).closeOpen.audited

/-- The head line names the next number and the chain's last tag; nothing is in the vault yet. -/
def PbSt.failing (p : PbSt) : PbSt :=
  { p with pf := true, pfDone := false, pfEvents := 0, markDone := false, vault := [],
           head := { valid := true, next := p.next, tag := p.lastTag, hmac := p.hmac, events := 0 } }

theorem State.recordPowerFail_restored (s : State) (supply : Bool) :
    (s.recordPowerFail supply).pb.restored = s.pb.restored :=
  PbSt.restored_of_power (q := { s.pb with pfailLow := s.pb.pfailLow || !supply }) <| by
    rw [State.recordPowerFail, State.audited_power, State.closeOpen_power, State.enter_power, State.closeOpen_power]
    rfl

theorem State.recordPowerFail_off (s : State) (supply : Bool) :
    Off F.State.audited s (s.recordPowerFail supply) :=
  State.audited_off (by decide) <| State.closeOpen_off (by decide) <| State.enter_off (by decide)
    (State.closeOpen_off (by decide) (State.setPb_off (by decide) .refl _)) ..

/-- After the restore a power failure is recorded and counted, and the vault's head line is written. -/
theorem State.pfail_of_restored {s : State} (supply : Bool) (hpf : s.pb.pf = false) (hrestored : s.pb.restored = true) :
    s.pfail supply = ((s.recordPowerFail supply).satInc PB_VAULT_PF_CNT 0).setPb PbSt.failing := by
  unfold State.pfail
  extract_lets u v r w z
  have hlow : ¬ u.pb.pf = true := by rw [Bool.not_eq_true]; exact hpf
  have hback : v.pb.restored = true := (PbSt.restored_of_power u.closeOpen_power).trans hrestored
  have hz : z = (s.recordPowerFail supply).satInc PB_VAULT_PF_CNT 0 :=
    congrArg (fun x : State => x.satInc PB_VAULT_PF_CNT 0) (if_pos hback)
  have hwarm : (z.pb.cold && !z.pb.restored) = false := by
    rw [hz, State.satInc_pb, State.recordPowerFail_restored, hrestored, Bool.not_true, Bool.and_false]
  rw [if_neg hlow, hwarm, hz]
  rfl

theorem execPfailAssert_fails {s : State} {supply : Bool} (hpf : s.pb.pf = false) (hrestored : s.pb.restored = true) :
    ∃ t, exec (.pfailAssert supply) s = .next t ∧ t.pb.pf = true ∧ t.pb.head.valid = true ∧ t.pb.head.next = t.pb.next
      ∧ t.rd PB_VAULT_PF_CNT 0 = min (s.rd PB_VAULT_PF_CNT 0 + 1) (2 ^ PB_VAULT_PF_CNT.w - 1) := by
  refine ⟨_, rfl, ?_⟩
  rw [State.pfail_of_restored supply hpf hrestored]
  refine ⟨rfl, rfl, rfl, ?_⟩
  rw [State.setPb_rd, State.rd_satInc_self (by decide) (by decide),
    (s.recordPowerFail_off supply).rd_eq (by decide +kernel)]

theorem execVaultFlushComplete_marks {s : State} (hpf : s.pb.pf = true) (hdone : s.pb.pfDone = false)
    (hrestored : s.pb.restored = true) :
    ∃ t, exec .vaultFlushComplete s = .next t ∧ t.pb.markDone = true ∧ t.pb.vault = s.pb.staging ∧ t.pb.pfDone = true := by
  have hvault : s.vaultDone.pb = { s.pb with pfDone := true, markDone := true, vault := s.pb.staging } := by
    simp only [State.vaultDone, hpf, hdone, hrestored, State.setPb_pb, Bool.not_false, Bool.not_true, Bool.and_self,
      Bool.and_false, Bool.false_eq_true, if_true, if_false]
  exact ⟨_, rfl, congrArg PbSt.markDone hvault, congrArg PbSt.vault hvault, congrArg PbSt.pfDone hvault⟩

/-- Settles O42: a record that meets room is issued; closing, auditing and flushing keep the numbers of the book, and what the
recorder does before a power failure leaves its restored state alone. -/
theorem recorderCommandsComplete : Obligations.RecorderCommandsComplete :=
  ⟨fun _ _ _ _ _ => execRecordArrival_issues, fun _ _ _ => execRecordAdmittedAfterWait_issues,
   fun _ _ => execFoldWindowExpiry_closes, fun _ => execRateLimitWindowEnd_restarts, fun _ _ => execPbCfgWrite_writes,
   fun _ => execFlushPeriodic_hands, fun _ _ _ => execRecordConfirmed_releases, fun _ _ => execPfailAssert_fails,
   fun _ => execVaultFlushComplete_marks⟩

end Sys2Proof.Machine

/-! PROOF. Fields that repeat by lane or converter, and lanes and the clock, under the mask of an operation. -/
namespace Sys2Proof.Machine
open Sys2Proof
-- One thread: each further one reserves its whole stack, and the compile of the joined text has little left.
set_option Elab.async false

/-- A field that repeats without a gap exists at each index below their number. -/
theorem Fld.has_of_lt {f : Fld} {i : Nat} (hper : f.per = f.n) (hruns : f.runs = 1) (hi : i < f.n) : f.has i = true := by
  simp only [Fld.has, hper, hruns, Nat.mod_eq_of_lt hi, Nat.div_eq_of_lt hi, hi, Nat.zero_lt_one, decide_true, Bool.and_self]

/-- Two fields that repeat with one stride hold different places at each index where they do at index 0. -/
theorem Fld.key_ne {f g : Fld} (hstride : f.stride = g.stride) (h : f.key 0 ≠ g.key 0) (i : Nat) : f.key i ≠ g.key i := by
  simp only [Fld.key, Fld.addr, hstride] at h ⊢
  omega

/-- No field of the mask has a place of the field. -/
def maskLeaves (m : Nat) (f : Fld) : Bool := (List.range f.n).all fun i => maskMisses m (f.key i)

theorem Off.rd_eq_of_lt {m : Nat} {a s : State} (h : Off m a s) {f : Fld} {i : Nat} (hk : maskLeaves m f = true)
    (hi : i < f.n) : s.rd f i = a.rd f i :=
  h.rd_eq (List.all_eq_true.1 hk i (List.mem_range.2 hi))

theorem Off.now_eq {m : Nat} {a s : State} (h : Off m a s) (hb : m.testBit (partNo .now) = false) : s.now = a.now :=
  h.part .now hb

theorem Off.lane_eq {m : Nat} {a s : State} (h : Off m a s) (hb : m.testBit (partNo .lanes) = false) (n : Nat) :
    s.lane n = a.lane n := by
  have hlanes : s.lanes = a.lanes := h.part .lanes hb
  rw [State.lane, hlanes, State.lane]

@[simp] theorem State.reach_lane (s : State) (t n : Nat) : (s.reach t).lane n = s.lane n :=
  (State.reach_off (Nat.and_self _) .refl t).lane_eq (by decide) n

end Sys2Proof.Machine

/-! PROOF. Episodes of the converters and the end of suspect marks (spec/02_lanes_and_converters.md R52, R53, R56). -/
namespace Sys2Proof.Machine
open Sys2Proof
set_option Elab.async false

/-- An episode begins: its flag and its sticky flag set, and its count rises. -/
def State.beginEpisode (s : State) (now sticky cnt : Fld) (i : Nat) : State :=
  ((s.wr now i 1).wr sticky i 1).satInc cnt i

theorem State.beginEpisode_reads {now sticky cnt : Fld} {i : Nat} (s : State) (hi : i < cnt.n)
    (hdistinct : ∀ j < cnt.n, [cnt, sticky, now].Pairwise (·.key j ≠ ·.key j))
    (hhas : ∀ j < cnt.n, ∀ f ∈ [now, sticky, cnt], f.has j = true) (hw : now.w = 1 ∧ sticky.w = 1 ∧ cnt.w ≤ 32) :
    (s.beginEpisode now sticky cnt i).rd now i = 1 ∧ (s.beginEpisode now sticky cnt i).rd sticky i = 1
      ∧ (s.beginEpisode now sticky cnt i).rd cnt i = min (s.rd cnt i + 1) (2 ^ cnt.w - 1) := by
  have hdistinct := hdistinct i hi
  have hhas := hhas i hi
  simp only [List.pairwise_cons, List.forall_mem_cons] at hdistinct hhas
  obtain ⟨⟨hcs, hcn, -⟩, ⟨hsn, -⟩, -⟩ := hdistinct
  obtain ⟨hnow, hsticky, hcnt, -⟩ := hhas
  obtain ⟨hwn, hws, hwc⟩ := hw
  refine ⟨?_, ?_, ?_⟩
  · rw [State.beginEpisode, State.satInc, State.satAdd, State.rd_wr_ne _ _ hcn, State.rd_wr_ne _ _ hsn]
    exact (State.rd_wr_self _ _ hnow (by omega)).trans (Nat.mod_eq_of_lt (Nat.one_lt_two_pow (by omega)))
  · rw [State.beginEpisode, State.satInc, State.satAdd, State.rd_wr_ne _ _ hcs]
    exact (State.rd_wr_self _ _ hsticky (by omega)).trans (Nat.mod_eq_of_lt (Nat.one_lt_two_pow (by omega)))
  · rw [State.beginEpisode, State.rd_satInc_self hcnt hwc, State.rd_wr_ne _ _ hcs.symm, State.rd_wr_ne _ _ hcn.symm]

/-! ### Over-range (R52, R53) -/

/-- What an over-range episode reaches beside its converter's registers. -/
def F.overStartTail : Nat := F.State.int ||| F.State.markSuspect

theorem State.overStart_off_begun {s : State} {m : Nat} (hnow : s.rd CONVRX_STAT_OVR_NOW m = 0)
    (hen : s.rd CONVRX_CFG_EN m ≠ 0) :
    Off F.overStartTail (s.beginEpisode CONVRX_STAT_OVR_NOW CONVRX_STAT_OVR_STICKY CONVRX_OVR_CNT m) (s.overStart m) := by
  have hm := Nat.and_self F.overStartTail
  have hgo : (s.on CONVRX_STAT_OVR_NOW m || !s.on CONVRX_CFG_EN m) = false := by simp [State.on, hnow, hen]
  rw [State.overStart, if_neg (by rw [hgo]; exact Bool.false_ne_true)]
  exact .foldl (State.int_off (sb hm (by decide)) .refl ..) (fun _ h _ => State.markSuspect_off (sb hm (by decide)) h ..) _

theorem execOverRangeEpisodeStart_counts {s : State} {m : Fin 8} (hnow : s.rd CONVRX_STAT_OVR_NOW m = 0)
    (hen : s.rd CONVRX_CFG_EN m ≠ 0) :
    ∃ t, exec (.overRangeEpisodeStart m) s = .next t ∧ t.rd CONVRX_STAT_OVR_NOW m = 1 ∧ t.rd CONVRX_STAT_OVR_STICKY m = 1
      ∧ t.rd CONVRX_OVR_CNT m = min (s.rd CONVRX_OVR_CNT m + 1) (2 ^ CONVRX_OVR_CNT.w - 1) := by
  have h := State.overStart_off_begun hnow hen
  refine ⟨_, rfl, ?_⟩
  rw [h.rd_eq_of_lt (by decide +kernel) m.isLt, h.rd_eq_of_lt (by decide +kernel) m.isLt,
    h.rd_eq_of_lt (by decide +kernel) m.isLt]
  exact s.beginEpisode_reads m.isLt (by decide) (by decide) (by decide)

theorem execOverRangeEpisodeEnd_clears {s : State} {m : Fin 8} (hnow : s.rd CONVRX_STAT_OVR_NOW m ≠ 0) :
    ∃ t, exec (.overRangeEpisodeEnd m) s = .next t ∧ t.rd CONVRX_STAT_OVR_NOW m = 0 := by
  have hon : s.on CONVRX_STAT_OVR_NOW m = true := bne_iff_ne.2 hnow
  have h : Off F.State.setLane (s.wr CONVRX_STAT_OVR_NOW m 0) (s.overEnd m) := by
    rw [State.overEnd, if_neg (by rw [hon]; decide)]
    exact .foldl .refl (fun _ h _ => State.setLane_off (Nat.and_self _) h ..) _
  refine ⟨_, rfl, ?_⟩
  rw [h.rd_eq_of_lt (by decide +kernel) m.isLt]
  exact State.rd_wr_self _ _ (Fld.has_of_lt rfl rfl m.isLt) (by decide)

theorem State.suspectEnd_of_some {s : State} {n a : Nat} (hends : (s.lane n).suspectEnds = some a) :
    s.suspectEnd n = ((s.reach a).setLane n fun l => { l with suspect := false, suspectEnds := none }).wr
      LANE_STAT_SUSPECT n 0 := by
  simp only [State.suspectEnd, hends]

theorem execSuspectMarkEnd_ends {s : State} {n : Fin 32} {a : Nat} (hends : (s.lane n).suspectEnds = some a) :
    ∃ t, exec (.suspectMarkEnd n) s = .next t ∧ (t.lane n).suspect = false ∧ t.rd LANE_STAT_SUSPECT n = 0
      ∧ t.now = max s.now a := by
  refine ⟨_, rfl, ?_⟩
  rw [State.suspectEnd_of_some hends]
  refine ⟨?_, State.rd_wr_self _ _ (Fld.has_of_lt rfl rfl n.isLt) (by decide), s.reach_now a⟩
  rw [State.wr_lane, State.setLane_lane_self]

/-! ### Clipping (R56) -/

/-- Of the registers, the first saturated word of an episode changes those of the episode and a page-status bit. -/
theorem State.clipStart_regs {s : State} {m : Nat} (hnow : s.rd CONVTX_STAT_CLIP_NOW m = 0)
    (hen : s.rd CONVTX_CFG_EN m ≠ 0) :
    (s.clipStart m).regs = ((s.beginEpisode CONVTX_STAT_CLIP_NOW CONVTX_STAT_CLIP_STICKY CONVTX_CLIP_CNT m).int
      (pgAt pgCONVTX m) 0).regs := by
  have hon : s.on CONVTX_CFG_EN m = true := bne_iff_ne.2 hen
  have hoff : s.on CONVTX_STAT_CLIP_NOW m = false := by rw [State.on, hnow]; rfl
  rw [State.clipStart, if_pos hon, State.clipWord, hoff]
  rfl

theorem execClippingEpisodeStart_counts {s : State} {m : Fin 8} (hnow : s.rd CONVTX_STAT_CLIP_NOW m = 0)
    (hen : s.rd CONVTX_CFG_EN m ≠ 0) :
    ∃ t, exec (.clippingEpisodeStart m) s = .next t ∧ t.rd CONVTX_STAT_CLIP_NOW m = 1 ∧ t.rd CONVTX_STAT_CLIP_STICKY m = 1
      ∧ t.rd CONVTX_CLIP_CNT m = min (s.rd CONVTX_CLIP_CNT m + 1) (2 ^ CONVTX_CLIP_CNT.w - 1) := by
  have h := State.int_off (Nat.and_self _)
    (.refl (a := s.beginEpisode CONVTX_STAT_CLIP_NOW CONVTX_STAT_CLIP_STICKY CONVTX_CLIP_CNT m)) (pgAt pgCONVTX m) 0
  refine ⟨_, rfl, ?_⟩
  simp only [State.rd_congr (State.clipStart_regs hnow hen)]
  rw [h.rd_eq_of_lt (by decide +kernel) m.isLt, h.rd_eq_of_lt (by decide +kernel) m.isLt,
    h.rd_eq_of_lt (by decide +kernel) m.isLt]
  exact s.beginEpisode_reads m.isLt (by decide) (by decide) (by decide)

theorem State.clipEnd_clears (s : State) (m : Fin 8) : (s.clipEnd m).rd CONVTX_STAT_CLIP_NOW m = 0 := by
  unfold State.clipEnd
  split
  case isTrue => exact State.rd_wr_self _ _ (Fld.has_of_lt rfl rfl m.isLt) (by decide)
  case isFalse hoff => simpa [State.on] using hoff

/-- Settles O22: an episode of over-range or clipping begins with its flags and its count, and what follows reaches none of
them; each end clears its flag. -/
theorem converterEpisodesComplete : Obligations.ConverterEpisodesComplete :=
  ⟨fun _ _ => execOverRangeEpisodeStart_counts, fun _ _ => execOverRangeEpisodeEnd_clears,
   fun _ _ _ => execSuspectMarkEnd_ends, fun _ _ => execClippingEpisodeStart_counts,
   fun s m => ⟨_, rfl, s.clipEnd_clears m⟩⟩

end Sys2Proof.Machine

/-! PROOF. Words of several fields, and the words that the commands of a lane write. -/
namespace Sys2Proof.Machine
open Sys2Proof
set_option Elab.async false

theorem State.rd_wrWord_ne {g : Fld} {i j : Nat} {v : Word} {fs : List Fld} (s : State)
    (h : ∀ f ∈ fs, f.key i ≠ g.key j) : (s.wrWord fs i v).rd g j = s.rd g j := by
  induction fs generalizing s with
  | nil => rfl
  | cons f fs ih =>
    obtain ⟨hf, hfs⟩ := List.forall_mem_cons.1 h
    exact (ih (s.wr f i (f.of v)) hfs).trans (State.rd_wr_ne _ _ hf)

/-- Each field of a word reads as the part of the word that falls on it. -/
theorem State.rd_wrWord_self {f : Fld} {i : Nat} {v : Word} {fs : List Fld} (s : State) (hf : f ∈ fs)
    (hdistinct : fs.Pairwise (·.key i ≠ ·.key i)) (hi : f.has i = true) (hw : f.w ≤ 32) :
    (s.wrWord fs i v).rd f i = f.of v := by
  induction fs generalizing s with
  | nil => contradiction
  | cons g fs ih =>
    obtain ⟨hg, hfs⟩ := List.pairwise_cons.1 hdistinct
    rcases List.mem_cons.1 hf with rfl | hf
    · have htail : (s.wrWord (f :: fs) i v).rd f i = (s.wr f i (f.of v)).rd f i :=
        State.rd_wrWord_ne _ fun x hx => (hg x hx).symm
      rw [htail, State.rd_wr_self _ _ hi hw, Fld.of_mod]
    · exact ih (s.wr g i (g.of v)) hf hfs

theorem State.byHost_of_none {s : State} (hdef : s.sys.deferred = []) (a : Nat) (v : Word) (act : State → State) :
    s.byHost a v act = act s :=
  if_pos (List.isEmpty_iff.2 hdef)

theorem LANE_CFG_EN_of (v : Word) : LANE_CFG_EN.of v = (v.getLsbD 31).toNat := (Nat.toNat_testBit v.toNat 31).symm

theorem LANE_CFG_EN_of_set (v : Word) : LANE_CFG_EN.of (v ||| 0x80000000#32) = 1 := by
  rw [LANE_CFG_EN_of, BitVec.getLsbD_or, show (0x80000000#32).getLsbD 31 = true by decide, Bool.or_true]
  rfl

theorem LANE_CFG_EN_of_clear (v : Word) : LANE_CFG_EN.of (v &&& 0x7FFFFFFF#32) = 0 := by
  rw [LANE_CFG_EN_of, BitVec.getLsbD_and, show (0x7FFFFFFF#32).getLsbD 31 = false by decide, Bool.and_false]
  rfl

/-- On an enabled lane the shadow's word of LANE_CFG has EN set. -/
theorem State.shadowWord_cfg {s : State} {n : Nat} (hen : s.rd LANE_CFG_EN n = 1) (v : Word) :
    s.shadowWord n .cfg v = v &&& 0x7FFFFFFF#32 ||| 0x80000000#32 :=
  congrArg (fun en => v &&& 0x7FFFFFFF#32 ||| BitVec.ofNat 32 (en * 2 ^ 31)) hen

theorem LANE_CFG_RATE_of_shadow (v : Word) :
    LANE_CFG_RATE.of (v &&& 0x7FFFFFFF#32 ||| 0x80000000#32) = LANE_CFG_RATE.of v := by
  have hbits : (v &&& 0x7FFFFFFF#32 ||| 0x80000000#32).extractLsb' 16 3 = v.extractLsb' 16 3 := by
    rw [BitVec.extractLsb'_or, BitVec.extractLsb'_and,
      show (0x7FFFFFFF#32).extractLsb' 16 3 = BitVec.allOnes 3 by decide,
      show (0x80000000#32).extractLsb' 16 3 = 0#3 by decide, BitVec.and_allOnes, BitVec.or_zero]
  have hof : ∀ x : Word, LANE_CFG_RATE.of x = (x.extractLsb' 16 3).toNat := fun x => by
    rw [BitVec.extractLsb'_toNat, Nat.shiftRight_eq_div_pow]; rfl
  rw [hof, hof, hbits]

end Sys2Proof.Machine

/-! PROOF. Lanes are enabled, started and disabled (spec/02_lanes_and_converters.md R58 to R60). -/
namespace Sys2Proof.Machine
open Sys2Proof
set_option Elab.async false

/-! ### A write of LANE_CFG (R58 to R60) -/

theorem State.sptRetire_of_not_armed {s : State} {n : Nat} (h : s.armed n = false) : s.sptRetire n = s := by
  simp only [State.sptRetire, h, Bool.false_and, Bool.false_eq_true, if_false]

theorem State.wrWord_armed (s : State) (n : Fin 32) (v : Word) : (s.wrWord laneFlds n v).armed n = s.armed n := by
  have hkeys : ∀ n < 32, ∀ f ∈ laneFlds,
      f.key n ≠ (pageF n SPT_LANE_STAT_ARMED MEAS_LANE_STAT_ARMED).key (n % 16) := by decide
  rw [State.armed, State.sptRd, State.rd_wrWord_ne s (hkeys n n.isLt)]
  rfl

/-- Away from a thermal shutdown a write that sets EN enables a lane that is not enabled. -/
theorem State.writeLaneCfg_enables {s : State} {n : Fin 32} {w : Word} (hshut : s.thm.shut = false)
    (hoff : (s.lane n).on = false) (hwas : s.rd LANE_CFG_EN n = 0) (harmed : s.armed n = false)
    (hen : LANE_CFG_EN.of w = 1) : s.writeLaneCfg n w = (s.wrWord laneFlds n w).laneEnable n := by
  have harmed' := (s.wrWord_armed n w).trans harmed
  have hshut' : (s.wrWord laneFlds n w).thm.shut = false := hshut
  have hoff' : ((s.wrWord laneFlds n w).lane n).on = false := hoff
  have hwas' : s.on LANE_CFG_EN n = false := by rw [State.on, hwas]; rfl
  simp only [State.writeLaneCfg, State.cond, State.sptRetire_of_not_armed harmed', ite_self, hshut', hoff', hwas', hen,
    beq_self_eq_true, Bool.not_false, Bool.and_self, Bool.false_eq_true, if_true, if_false]

/-- Away from a thermal shutdown a write to an enabled lane stays in the shadow, or disables it. -/
theorem State.writeLaneCfg_of_on {s : State} {n : Nat} {w : Word} (hshut : s.thm.shut = false)
    (hon : (s.lane n).on = true) :
    ∃ u, Off F.State.sptRetire (s.wrWord laneFlds n w) u
      ∧ s.writeLaneCfg n w = if LANE_CFG_EN.of w == 1 then u else u.laneDisable n false u.now := by
  unfold State.writeLaneCfg
  extract_lets en was change v u
  have hu : Off F.State.sptRetire v u :=
    State.cond_off .refl (fun _ h => State.sptRetire_off (Nat.and_self _) h ..) _
  have hshut' : u.thm.shut = false := (congrArg (·.shut) (hu.part .thm (by decide))).trans hshut
  have hon' : (u.lane n).on = true := (congrArg LaneSt.on (hu.lane_eq (by decide) n)).trans hon
  refine ⟨u, hu, ?_⟩
  rw [if_neg (by rw [hshut']; decide), if_pos hon']

/-! ### An accepted lane (R58) -/

/-- What the acceptance of a lane reaches once EN, ACTIVE and ERR_CODE are written. -/
def F.laneAcceptTail : Nat := F.State.laneAccept ^^^ (2 ^ 119 ||| 2 ^ 120 ||| 2 ^ 171)

theorem State.laneAccept_off_written (s : State) (n : Nat) (c : LaneCfg) (psel : Bool) :
    Off F.laneAcceptTail (((s.wr LANE_CFG_EN n 1).wr LANE_STAT_ACTIVE n 1).wr LANE_STAT_ERR_CODE n 0)
      (s.laneAccept n c psel) := by
  have hm := Nat.and_self F.laneAcceptTail
  unfold State.laneAccept
  extract_lets p start s1 s2 s3 s4
  have h2 : Off F.laneAcceptTail (((s.wr LANE_CFG_EN n 1).wr LANE_STAT_ACTIVE n 1).wr LANE_STAT_ERR_CODE n 0) s2 :=
    .upd .refl (h_lanes := .inr (by decide))
  have h3 : Off F.laneAcceptTail _ s3 :=
    .wr (.wr (.wr (.wr h2 (has_LANE_SAT_CNT (by decide)) ..) (has_LANE_GAIN_APPLIED (by decide)) ..)
      (has_RSM_STAT (by decide)) ..) (has_LANE_STAT_SUSPECT (by decide)) ..
  have h4 : Off F.laneAcceptTail _ s4 :=
    State.cond_off h3 (fun _ h => State.markSuspect_off (sb hm (by decide)) h ..) _
  split
  split
  exact State.setLat_off (sb hm (by decide)) (State.setFab_off (sb hm (by decide)) (.wr (.wr (.wr (.wr h4
    (has_LANE_DEC_D (by decide)) ..) (has_LANE_DEC_I (by decide)) ..) (has_RSM_RATIO_LO (by decide)) ..)
    (has_RSM_RATIO_HI (by decide)) ..) ..) ..

/-- An accepted lane's ledger counts from the next lane sample whose number is a multiple of 64 (R58, R263). -/
theorem State.laneAccept_ledger (s : State) (n : Nat) (c : LaneCfg) (psel : Bool) :
    ((s.laneAccept n c psel).ledger n).next = (s.now / (ratePeriod c.rate * 64) + 1) * 64 :=
  congrArg Ledger.next (Tab.get_set_self ..)

theorem State.laneAccept_reads (s : State) (n : Fin 32) (c : LaneCfg) (psel : Bool) :
    (s.laneAccept n c psel).rd LANE_STAT_ACTIVE n = 1 ∧ (s.laneAccept n c psel).rd LANE_STAT_ERR_CODE n = 0
      ∧ (s.laneAccept n c psel).rd LANE_CFG_EN n = 1 := by
  have h := s.laneAccept_off_written n c psel
  refine ⟨?_, ?_, ?_⟩ <;> rw [h.rd_eq_of_lt (by decide +kernel) n.isLt]
  · rw [State.rd_wr_ne _ _ (Fld.key_ne (by decide) (by decide) n)]
    exact State.rd_wr_self _ _ (Fld.has_of_lt rfl rfl n.isLt) (by decide)
  · exact State.rd_wr_self _ _ (Fld.has_of_lt rfl rfl n.isLt) (by decide)
  · rw [State.rd_wr_ne _ _ (Fld.key_ne (by decide) (by decide) n),
      State.rd_wr_ne _ _ (Fld.key_ne (by decide) (by decide) n)]
    exact State.rd_wr_self _ _ (Fld.has_of_lt rfl rfl n.isLt) (by decide)

/-- What an enable reaches once the lane is accepted. -/
def F.laneEnableTail : Nat := F.State.sptActive ||| F.State.guardCheck ||| F.State.donorLatch

theorem State.laneEnable_off_accepted {s : State} {n : Nat}
    (hpass : (s.int (pgAt pgLANE n) 0).laneErr n (s.laneCfg n) = none) :
    Off F.laneEnableTail
      ((s.int (pgAt pgLANE n) 0).laneAccept n (s.laneCfg n) ((s.int (pgAt pgLANE n) 0).pselOf n)) (s.laneEnable n) := by
  have hm := Nat.and_self F.laneEnableTail
  simp only [State.laneEnable, hpass]
  exact State.cond_off (State.guardCheck_off (sb hm (by decide)) (State.sptActive_off (sb hm (by decide)) .refl ..) ..)
    (fun _ h => State.donorLatch_off (sb hm (by decide)) h ..) _

theorem execLaneEnable_accepts {s u : State} {n : Fin 32} {v : Word} (hdef : s.sys.deferred = [])
    (hshut : s.thm.shut = false) (hoff : (s.lane n).on = false) (hwas : s.rd LANE_CFG_EN n = 0)
    (harmed : s.armed n = false) (hu : u = s.wrWord laneFlds n (v ||| 0x80000000#32))
    (hpass : (u.int (pgAt pgLANE n) 0).laneErr n (u.laneCfg n) = none) :
    ∃ t, exec (.laneEnable n v) s = .next t
      ∧ (t.ledger n).next = (s.now / (ratePeriod (u.laneCfg n).rate * 64) + 1) * 64
      ∧ t.rd LANE_STAT_ACTIVE n = 1 ∧ t.rd LANE_STAT_ERR_CODE n = 0 ∧ t.rd LANE_CFG_EN n = 1 := by
  have h := State.laneEnable_off_accepted hpass
  have hfab := h.part .fab (by decide)
  have hnow : u.now = s.now := hu ▸ rfl
  refine ⟨_, rfl, ?_⟩
  rw [State.byHost_of_none hdef, State.writeLaneCfg_enables hshut hoff hwas harmed (LANE_CFG_EN_of_set v), ← hu,
    h.rd_eq_of_lt (by decide +kernel) n.isLt, h.rd_eq_of_lt (by decide +kernel) n.isLt,
    h.rd_eq_of_lt (by decide +kernel) n.isLt, State.ledger, hfab, ← hnow]
  exact ⟨State.laneAccept_ledger .., State.laneAccept_reads ..⟩

/-! ### The start of an accepted lane (R58, R59) -/

/-- What a start reaches beside its lane and the clock. -/
def F.laneStartTail : Nat := F.State.mark ||| F.State.sptBegin

theorem State.laneStart_off_begun {s : State} {n k : Nat} (hphase : (s.lane n).phase = .accepted k)
    (hmig : s.fab.mig = none) :
    Off F.laneStartTail ((s.reach (k * (s.lane n).period)).laneBegin n k) (s.laneStart n) := by
  have hm := Nat.and_self F.laneStartTail
  simp only [State.laneStart, hphase, hmig, Bool.false_eq_true, if_false]
  exact State.sptBegin_off (sb hm (by decide)) (State.mark_off (sb hm (by decide))
    (State.mark_off (sb hm (by decide)) .refl ..) ..) ..

theorem execLaneStart_begins {s : State} {n : Fin 32} {k : Nat} (hphase : (s.lane n).phase = .accepted k)
    (hmig : s.fab.mig = none) :
    ∃ t, exec (.laneStart n) s = .next t ∧ (t.lane n).phase = .running k
      ∧ (t.lane n).rxAcc = BitVec.ofNat 48 ((s.lane n).rxPhase.toNat * 2 ^ 32)
      ∧ (t.lane n).txAcc = BitVec.ofNat 48 ((s.lane n).txPhase.toNat * 2 ^ 32)
      ∧ t.now = max s.now (k * (s.lane n).period) := by
  have h := State.laneStart_off_begun hphase hmig
  refine ⟨_, rfl, ?_⟩
  rw [h.lane_eq (by decide), h.now_eq (by decide), State.laneBegin, State.setLane_lane_self, State.reach_lane]
  exact ⟨rfl, rfl, rfl, s.reach_now _⟩

/-! ### A lane that stops (R60) -/

/-- What a stop of a lane reaches once EN and ACTIVE are written. -/
def F.laneOffTail : Nat := F.State.laneOff ^^^ (2 ^ 119 ||| 2 ^ 120)

theorem State.laneOff_reads (s : State) (n : Fin 32) (dis : Bool) :
    (s.laneOff n dis false).rd LANE_STAT_ACTIVE n = 0 ∧ (s.laneOff n dis false).rd LANE_CFG_EN n = 0 := by
  have hm := Nat.and_self F.laneOffTail
  unfold State.laneOff
  extract_lets s1 s2 s3 s4 s5 s6 s7 s8 s9 s10
  have h6 : Off F.laneOffTail (s5.wr LANE_STAT_ACTIVE n 0) s6 :=
    .wr (.wr .refl (has_LANE_LAT (by decide)) ..) (has_LANE_STAT_SUSPECT (by decide)) ..
  have h7 : Off F.laneOffTail _ s7 := .wr (.wr h6 (has_RSM_STAT (by decide)) ..) (has_LANE_GAIN_CLAMPED (by decide)) ..
  have h8 : Off F.laneOffTail _ s8 :=
    State.guardDrop_off (sb hm (by decide)) (State.sptStop_off (sb hm (by decide)) (State.dropRetained_off
      (sb hm (by decide)) (State.stopLaneStreams_off (sb hm (by decide)) h7 ..) ..) ..) ..
  have h9 : Off F.laneOffTail _ s9 := State.cond_off h8 (fun _ h => State.detLaneOff_off (sb hm (by decide)) h ..) _
  clear_value s9
  have h10 : Off F.laneOffTail _ s10 := .upd h9 (h_prot := .inr (by decide))
  have h := State.presUpdate_off (sb hm (by decide)) h10 n
  constructor <;> rw [h.rd_eq_of_lt (by decide +kernel) n.isLt]
  · exact State.rd_wr_self _ _ (Fld.has_of_lt rfl rfl n.isLt) (by decide)
  · rw [State.rd_wr_ne _ _ (Fld.key_ne (by decide) (by decide) n)]
    exact State.rd_wr_self _ _ (Fld.has_of_lt rfl rfl n.isLt) (by decide)

theorem execLaneDisable_stops {s : State} {n : Fin 32} {v : Word} (hdef : s.sys.deferred = [])
    (hshut : s.thm.shut = false) (hon : (s.lane n).on = true) (hmig : s.fab.mig = none) :
    ∃ t, exec (.laneDisable n v) s = .next t ∧ t.rd LANE_STAT_ACTIVE n = 0 ∧ t.rd LANE_CFG_EN n = 0 := by
  obtain ⟨u, hu, hwrite⟩ := State.writeLaneCfg_of_on (n := n) (w := v &&& 0x7FFFFFFF#32) hshut hon
  have hon' : (u.lane n).on = true := (congrArg LaneSt.on (hu.lane_eq (by decide) n)).trans hon
  have hmig' : u.fab.mig = none := (congrArg FabSt.mig (hu.part .fab (by decide))).trans hmig
  have hstop : u.laneDisable n false u.now = u.laneStop n false u.now := by
    simp only [State.laneDisable, hon', hmig', Bool.not_true, Bool.false_eq_true, if_false]
  refine ⟨_, rfl, ?_⟩
  rw [State.byHost_of_none hdef, hwrite, LANE_CFG_EN_of_clear, if_neg (by decide), hstop, State.laneStop]
  exact State.laneOff_reads ..

end Sys2Proof.Machine

/-! PROOF. The shadow of an enabled lane, and the words of a lane sample (spec/02_lanes_and_converters.md R59, R66). -/
namespace Sys2Proof.Machine
open Sys2Proof
set_option Elab.async false

/-! ### Writes to the shadow (R59) -/

theorem State.writeLaneWord_cfg {s : State} {n : Fin 32} {v : Word} (hshut : s.thm.shut = false)
    (hon : (s.lane n).on = true) (hen : s.rd LANE_CFG_EN n = 1) :
    (s.writeLaneWord n .cfg v).rd LANE_CFG_RATE n = LANE_CFG_RATE.of v ∧ (s.writeLaneWord n .cfg v).lane n = s.lane n := by
  have hdistinct : ∀ n < 32, laneFlds.Pairwise (·.key n ≠ ·.key n) := by decide
  obtain ⟨u, hu, hwrite⟩ := State.writeLaneCfg_of_on (n := n) (w := s.shadowWord n .cfg v) hshut hon
  have hstay : s.writeLaneWord n .cfg v = u := by
    rw [State.writeLaneWord, hwrite, State.shadowWord_cfg hen, LANE_CFG_EN_of_set]; rfl
  rw [hstay]
  constructor
  · rw [hu.rd_eq_of_lt (by decide +kernel) n.isLt, State.rd_wrWord_self s (by simp [laneFlds]) (hdistinct n n.isLt)
      (Fld.has_of_lt rfl rfl n.isLt) (by decide), State.shadowWord_cfg hen, LANE_CFG_RATE_of_shadow]
  · exact hu.lane_eq (by decide) n

/-- A word other than LANE_CFG holds the one field of its register. -/
theorem State.writeLaneWord_reads (s : State) (n : Fin 32) {w : LaneWord} (v : Word) (hw : w ≠ .cfg) :
    (s.writeLaneWord n w v).rd (laneWordFld w) n = (laneWordFld w).of v := by
  have hfld : ∀ w, ∀ n < 32, (laneWordFld w).has n = true ∧ (laneWordFld w).w ≤ 32 := by
    intro w; cases w <;> decide
  obtain ⟨hhas, hwidth⟩ := hfld w n n.isLt
  have hword : (s.wrWord [laneWordFld w] n v).rd (laneWordFld w) n = (laneWordFld w).of v :=
    State.rd_wrWord_self s (List.mem_singleton_self _) (List.pairwise_singleton ..) hhas hwidth
  cases w
  case cfg => contradiction
  case chf =>
    have h : Off F.State.sptRetire (s.wrWord [CHF_SEL] n v) (s.writeChfSel n v) :=
      State.cond_off .refl (fun _ h => State.sptRetire_off (Nat.and_self _) h ..) _
    exact (h.rd_eq_of_lt (by decide +kernel) n.isLt).trans hword
  all_goals exact hword

theorem execLaneCfgShadowWrite_writes {s : State} {n : Fin 32} {w : LaneWord} {v : Word} (hdef : s.sys.deferred = [])
    (hshut : s.thm.shut = false) (hon : (s.lane n).on = true) (hen : s.rd LANE_CFG_EN n = 1) :
    ∃ t, exec (.laneCfgShadowWrite n w v) s = .next t
      ∧ (w = .cfg → t.rd LANE_CFG_RATE n = LANE_CFG_RATE.of v ∧ t.lane n = s.lane n)
      ∧ (w = .rxLo → t.rd LANE_RX_FTW_LO n = LANE_RX_FTW_LO.of v) ∧ (w = .rxHi → t.rd LANE_RX_FTW_HI n = LANE_RX_FTW_HI.of v)
      ∧ (w = .rxPhase → t.rd LANE_RX_PHASE n = LANE_RX_PHASE.of v) ∧ (w = .txLo → t.rd LANE_TX_FTW_LO n = LANE_TX_FTW_LO.of v)
      ∧ (w = .txHi → t.rd LANE_TX_FTW_HI n = LANE_TX_FTW_HI.of v) ∧ (w = .txPhase → t.rd LANE_TX_PHASE n = LANE_TX_PHASE.of v)
      ∧ (w = .chf → t.rd CHF_SEL n = CHF_SEL.of v) := by
  refine ⟨_, rfl, ?_⟩
  rw [State.byHost_of_none hdef]
  refine ⟨?_, ?_, ?_, ?_, ?_, ?_, ?_, ?_⟩ <;> rintro rfl
  · exact State.writeLaneWord_cfg hshut hon hen
  all_goals exact s.writeLaneWord_reads n v (by decide)

/-! ### A lane sample (R50, R66) -/

/-- The clock stands at `now`, and the last word of the lane's reference line is that of lane sample `k`. -/
structure SampledAt (now n k : Nat) (s : State) : Prop where
  now_eq : s.now = now
  refNo_eq : (s.lane n).refNo = k

section
variable {now n k : Nat} {s t : State}

theorem SampledAt.of_off {m : Nat} (h : SampledAt now n k s) (hoff : Off m s t)
    (hnow : m.testBit (partNo .now) = false) (hlanes : m.testBit (partNo .lanes) = false) : SampledAt now n k t :=
  ⟨(hoff.now_eq hnow).trans h.now_eq, (congrArg LaneSt.refNo (hoff.lane_eq hlanes n)).trans h.refNo_eq⟩

theorem SampledAt.setLane {g : LaneSt → LaneSt} (h : SampledAt now n k s)
    (hg : ∀ l, (g l).refNo = l.refNo := by intro l; rfl) : SampledAt now n k (s.setLane n g) :=
  ⟨h.now_eq, by rw [State.setLane_lane_self, hg, h.refNo_eq]⟩

theorem SampledAt.cond {f : State → State} (h : SampledAt now n k s)
    (hf : ∀ y, SampledAt now n k y → SampledAt now n k (f y)) (c : Bool) : SampledAt now n k (s.cond c f) := by
  unfold State.cond
  split
  · exact hf s h
  · exact h

/-- The reference word of a lane sample enters the lane's lines (R83). -/
theorem SampledAt.pushRef (h : s.now = now) (r pr : Iq) : SampledAt now n k (s.pushRef n k r pr) :=
  ⟨h, congrArg LaneSt.refNo (State.setLane_lane_self ..)⟩

theorem SampledAt.oscSample (h : SampledAt now n k s) (i : Nat) (r y : Iq) (g : Nat) :
    SampledAt now n k (s.oscSample n i r y g) := by
  unfold State.oscSample
  extract_lets l b o from_ o1 o2 s1 grow s2 bin hit
  have h1 : SampledAt now n k s1 := h.setLane
  have h2 : SampledAt now n k s2 := h1.setLane
  split
  · exact h.setLane
  · split
    · exact h2
    · exact h2.setLane

theorem SampledAt.outPower (h : SampledAt now n k s) (r : Iq) : SampledAt now n k (s.outPower n r) := by
  unfold State.outPower
  extract_lets s1 l s2
  have h1 : SampledAt now n k s1 := h.setLane
  have h2 : SampledAt now n k s2 := h1.setLane
  split
  · exact h1
  · exact h2.cond (fun _ h => h.of_off (State.setCnx_off (Nat.and_self _) .refl _) (by decide) (by decide)) _

theorem SampledAt.transmit (h : SampledAt now n k s) (x : Iq) : SampledAt now n k (s.transmit n x).1 := by
  unfold State.transmit
  extract_lets l line d s1
  have h1 : SampledAt now n k s1 :=
    h.of_off (State.portDrain_off (Nat.and_self _) .refl _) (by decide) (by decide)
  split
  case h_1 => exact h
  case h_2 =>
    split; split; split; split
    extract_lets s2 s3
    have h2 : SampledAt now n k s2 := h1.setLane
    exact h2.cond (fun _ h => h.of_off (State.setCv_off (Nat.and_self _) .refl ..) (by decide) (by decide)) _

end

/-- Of what a lane sample reaches, all but the clock. -/
def F.laneSampleRest : Nat := F.State.laneSample ^^^ 2 ^ 6

/-- A sample of an active lane leaves the clock at the sample's instant, and its word in the reference line. The word enters
the line between `s6` and `s7`: up to it only the clock matters, after it the line as well. -/
theorem State.laneSample_sampled {s u : State} {n : Nat} {ws : List (BitVec 14)} {a b : Nat}
    (hu : u = s.toSample (evSAMPLE + n) n 1) (hactive : (u.lane n).active = true) :
    SampledAt u.now n (u.sampleNo n) (s.laneSample n ws a b) := by
  have hm := Nat.and_self F.laneSampleRest
  unfold State.laneSample
  extract_lets u' k live s1 s2 s3
  have hu' : u' = u := hu.symm
  clear_value u'
  subst hu'
  rw [if_neg (by rw [hactive]; decide)]
  have h3 : Off F.laneSampleRest u' s3 := State.setGain_off (sb hm (by decide))
    (State.cond_off (State.cond_off .refl (fun _ h => State.satAdd_off h (has_CHF_ECC_CNT (by decide)) ..) _)
      (fun _ h => State.satAdd_off h (has_RSM_ECC_CNT (by decide)) ..) _) ..
  split
  rename_i s4 xn hreceive
  have h4 : Off F.laneSampleRest u' s4 := .fst hreceive (State.receive_off (sb hm (by decide)) h3 ..)
  split
  split
  extract_lets s5 l
  have h5 : Off F.laneSampleRest u' s5 := State.setLane_off (sb hm (by decide)) h4 ..
  split
  extract_lets bank s6 g pr
  have h6 : Off F.laneSampleRest u' s6 :=
    State.sptSample_off (sb hm (by decide)) (State.setLane_off (sb hm (by decide)) h5 ..) ..
  split
  split
  extract_lets r n6 out s7 s8 s9 s10
  have h7 : SampledAt u'.now n k s7 := (SampledAt.pushRef (h6.now_eq (by decide)) out pr).oscSample ..
  have h8 : SampledAt u'.now n k s8 := h7.of_off (m := F.State.estSample ||| F.State.searchSample ||| F.State.probeSample)
    (State.estSample_off (by decide) (State.searchSample_off (by decide) (State.probeSample_off (by decide) .refl ..) ..) ..)
    (by decide) (by decide)
  have h9 : SampledAt u'.now n k s9 := h8.cond
    (fun _ h => (h.outPower r).of_off (State.loopPower_off (Nat.and_self _) .refl ..) (by decide) (by decide)) _
  have h10 : SampledAt u'.now n k s10 := h9.cond
    (fun _ h => h.of_off (State.streamOut_off (Nat.and_self _) .refl ..) (by decide) (by decide)) _
  split
  rename_i s11 n7 htransmit
  have h11 : SampledAt u'.now n k s11 := by
    have h := h10.transmit (if s10.delivers n k then out else Iq.zero)
    rwa [htransmit] at h
  exact h11.of_off (m := F.State.capWord ||| F.State.syncTo ||| F.State.countSat)
    (State.capWord_off (by decide) (State.syncTo_off (by decide) (State.countSat_off (by decide) .refl ..) ..) ..)
    (by decide) (by decide)

theorem execLaneSample_samples {s u : State} {n : Fin 32} {ws : List (BitVec 14)} {a b : Nat}
    (hactive : (s.lane n).active = true) (hu : u = s.toSample (evSAMPLE + n) n 1) :
    ∃ t, exec (.laneSample n ws a b) s = .next t ∧ t.now = u.now ∧ (t.lane n).refNo = u.sampleNo n := by
  have hlane : u.lane n = s.lane n := hu ▸ (State.toSample_off (Nat.and_self _) .refl ..).lane_eq (by decide) n
  have h := State.laneSample_sampled (ws := ws) (a := a) (b := b) hu (hlane ▸ hactive)
  exact ⟨_, rfl, h.now_eq, h.refNo_eq⟩

end Sys2Proof.Machine

/-! PROOF. The channel filter's ROM, the resampler's faults and its delay, and the commands of a lane
(spec/02_lanes_and_converters.md R65, R68, R72). -/
namespace Sys2Proof.Machine
open Sys2Proof
set_option Elab.async false

/-! ### Errors of the ROMs (R65, R72) -/

theorem State.raise_tst (s : State) {page b : Nat} (ports : Ports) (hpage : PG_ERR.has page = true) (hb : b < PG_ERR.w) :
    (s.raise page b ports).tst PG_ERR page b = true := by
  rw [State.tst_congr (State.raise_regs ..), State.tst_orBits_self _ hpage (by decide) hb, Nat.testBit_two_pow_self,
    Bool.or_true]

theorem execChfRomRead_points {s : State} {v : Word} (hdef : s.sys.deferred = []) :
    ∃ t, exec (.chfRomRead v false) s = .next t ∧ t.rd CHF_ROM_PTR_TAP 0 = CHF_ROM_PTR_TAP.of v
      ∧ t.rd CHF_ROM_PTR_INDEX 0 = CHF_ROM_PTR_INDEX.of v := by
  refine ⟨_, rfl, ?_⟩
  rw [State.byHost_of_none hdef]
  exact ⟨State.rd_wrWord_self s (.head _) (by decide) (by decide) (by decide),
    State.rd_wrWord_self s (.tail _ (.head _)) (by decide) (by decide) (by decide)⟩

theorem State.chfUncorr_off_written (s : State) (i : Nat) :
    Off F.State.raise ((s.wr CHF_UNC_VALID 0 1).wr CHF_UNC_INDEX 0 i) (s.chfUncorr i) :=
  State.raise_off (Nat.and_self _) .refl ..

theorem execChfRomUncorr_reports (s : State) (i : Fin 512) :
    ∃ t, exec (.chfRomUncorr i) s = .next t ∧ t.rd CHF_UNC_VALID 0 = 1 ∧ t.rd CHF_UNC_INDEX 0 = i
      ∧ t.tst PG_ERR pgCHF 1 = true := by
  have h := s.chfUncorr_off_written i
  refine ⟨_, rfl, ?_, ?_, State.raise_tst _ _ (by decide) (by decide)⟩
  · rw [h.rd_eq (by decide +kernel), State.rd_wr_ne _ _ (by decide)]
    exact State.rd_wr_self _ _ (by decide) (by decide)
  · rw [h.rd_eq (by decide +kernel)]
    exact (State.rd_wr_self _ _ (by decide) (by decide)).trans (Nat.mod_eq_of_lt i.isLt)

/-- What a fault of the resampler reaches once VALID, CHECK and LANE are written. -/
def F.rsmFaultTail : Nat := F.State.raise ||| 1 <<< 688 ||| 1 <<< 689

theorem State.rsmFault_off_written (s : State) (n : Nat) (check : Bool) (phase tap : Nat) :
    Off F.rsmFaultTail (((s.wr RSM_UNC_VALID 0 1).wr RSM_UNC_CHECK 0 check.toNat).wr RSM_UNC_LANE 0 n)
      (s.rsmFault n check phase tap) := by
  unfold State.rsmFault
  extract_lets s1 s2
  exact State.raise_off (by decide) (State.cond_off .refl
    (fun _ h => .wr (.wr h (has_RSM_UNC_PHASE (by decide)) ..) (has_RSM_UNC_TAP (by decide)) ..) _) ..

theorem execRsmFault_reports (s : State) (n : Fin 32) (check : Bool) (phase : Fin 1024) (tap : Fin 16) :
    ∃ t, exec (.rsmFault n check phase tap) s = .next t ∧ t.rd RSM_UNC_VALID 0 = 1 ∧ t.rd RSM_UNC_CHECK 0 = check.toNat
      ∧ t.rd RSM_UNC_LANE 0 = n ∧ t.tst PG_ERR pgRSM (if check then 2 else 1) = true := by
  have h := s.rsmFault_off_written n check phase tap
  refine ⟨_, rfl, ?_, ?_, ?_, State.raise_tst _ _ (by decide) (by split <;> decide)⟩
  · rw [h.rd_eq (by decide +kernel), State.rd_wr_ne _ _ (by decide), State.rd_wr_ne _ _ (by decide)]
    exact State.rd_wr_self _ _ (by decide) (by decide)
  · rw [h.rd_eq (by decide +kernel), State.rd_wr_ne _ _ (by decide)]
    exact (State.rd_wr_self _ _ (by decide) (by decide)).trans (Nat.mod_eq_of_lt check.toNat_lt)
  · rw [h.rd_eq (by decide +kernel)]
    exact (State.rd_wr_self _ _ (by decide) (by decide)).trans (Nat.mod_eq_of_lt n.isLt)

/-! ### The delay of the resampler (R68) -/

theorem State.writeDelay_off_written {s : State} {n : Nat} {v : Word} (hon : (s.lane n).on = true) :
    Off F.State.guardCheck (((s.wr RSM_DELAY n (RSM_DELAY.of v)).setLane n fun l =>
      { l with delayNext := some (RSM_DELAY.of v, s.nextSample n 64) }).wr RSM_STAT n 1) (s.writeDelay n v) := by
  unfold State.writeDelay
  extract_lets d s1 up s2
  rw [if_pos (by exact hon)]
  exact State.cond_off .refl (fun _ h => State.guardCheck_off (Nat.and_self _) h ..) _

theorem execRsmDelayWrite_pends {s : State} {n : Fin 32} {v : Word} (hdef : s.sys.deferred = [])
    (hon : (s.lane n).on = true) :
    ∃ t, exec (.rsmDelayWrite n v) s = .next t ∧ t.rd RSM_DELAY n = RSM_DELAY.of v ∧ t.rd RSM_STAT n = 1
      ∧ (t.lane n).delayNext = some (RSM_DELAY.of v, s.nextSample n 64) := by
  have h := State.writeDelay_off_written (v := v) hon
  refine ⟨_, rfl, ?_⟩
  rw [State.byHost_of_none hdef, h.rd_eq_of_lt (by decide +kernel) n.isLt, h.rd_eq_of_lt (by decide +kernel) n.isLt,
    h.lane_eq (by decide)]
  refine ⟨?_, State.rd_wr_self _ _ (Fld.has_of_lt rfl rfl n.isLt) (by decide), ?_⟩
  · rw [State.rd_wr_ne _ _ (Fld.key_ne (by decide) (by decide) n)]
    exact (State.rd_wr_self _ _ (Fld.has_of_lt rfl rfl n.isLt) (by decide)).trans (Fld.of_mod ..)
  · rw [State.wr_lane, State.setLane_lane_self]

theorem State.delayApply_of_some {s : State} {n d a : Nat} (hnext : (s.lane n).delayNext = some (d, a)) :
    s.delayApply n
      = (((s.reach a).setLane n fun l => { l with delay := d, delayNext := none }).wr RSM_STAT n 0).setLat n := by
  simp only [State.delayApply, hnext]

theorem execRsmDelayApply_applies {s : State} {n : Fin 32} {d a : Nat} (hnext : (s.lane n).delayNext = some (d, a)) :
    ∃ t, exec (.rsmDelayApply n) s = .next t ∧ (t.lane n).delay = d ∧ (t.lane n).delayNext = none ∧ t.rd RSM_STAT n = 0
      ∧ t.now = max s.now a := by
  have hlane := (s.reach a).setLane_lane_self n fun l => { l with delay := d, delayNext := none }
  refine ⟨_, rfl, ?_⟩
  rw [State.delayApply_of_some hnext]
  refine ⟨congrArg LaneSt.delay hlane, congrArg LaneSt.delayNext hlane, ?_, s.reach_now a⟩
  rw [(State.setLat_off (Nat.and_self _) .refl n).rd_eq_of_lt (by decide +kernel) n.isLt]
  exact State.rd_wr_self _ _ (Fld.has_of_lt rfl rfl n.isLt) (by decide)

/-- Settles O23: each command writes the fields and the lane state that its clause names, and what follows in it reaches none of
them; a lane sample keeps the number of its word in the reference line to its end. -/
theorem laneCommandsComplete : Obligations.LaneCommandsComplete :=
  ⟨fun _ _ _ _ => execLaneEnable_accepts, fun _ _ _ => execLaneStart_begins, fun _ _ _ => execLaneDisable_stops,
   fun _ _ _ _ => execLaneCfgShadowWrite_writes, fun _ _ _ _ _ _ => execLaneSample_samples,
   fun _ _ => execChfRomRead_points, execChfRomUncorr_reports, execRsmFault_reports, fun _ _ _ => execRsmDelayWrite_pends,
   fun _ _ _ _ => execRsmDelayApply_applies⟩

end Sys2Proof.Machine

/-! PROOF. Words and taps in the addressed memory (spec/03_feedback_cancellation.md R86, R87, R115). -/
namespace Sys2Proof.Machine
open Sys2Proof
set_option Elab.async false

/-! ### Words -/

theorem State.stIn_eq {r : Region} {o : Nat} (s : State) (w : Word) (ho : o + 4 ≤ r.size) :
    s.stIn r o w = s.st (r.lo + o) w :=
  if_pos ho

theorem st_mem_wf {s : State} (a : Nat) (w : Word) (h : Memory.wf s.mem = true) : Memory.wf (s.st a w).mem = true :=
  st8_mem_wf _ _ (st8_mem_wf _ _ (st8_mem_wf _ _ (st8_mem_wf _ _ h)))

/-- A word that shares no byte with the stored one reads as before. -/
theorem ld_st_ne {s : State} {a b : Nat} (w : Word) (h : b + 4 ≤ a ∨ a + 4 ≤ b) : (s.st a w).ld b = s.ld b := by
  simp only [State.ld]
  rw [ld8_st_ne w (by omega), ld8_st_ne w (by omega), ld8_st_ne w (by omega), ld8_st_ne w (by omega)]

/-- Settles O6: a store inside a memory is four bytes stored in turn. -/
theorem storeThenRead : Obligations.StoreThenRead := fun s r o w hcanon ho => by
  rw [s.stIn_eq w ho]
  exact ⟨ld_st_self _ w hcanon, st_mem_wf _ w hcanon, fun _ hx => ld8_st_ne w hx⟩

/-! ### The parts of a tap -/

theorem sx_24_bounds (v : Nat) : -(2 ^ 23) ≤ sx 24 v ∧ sx 24 v < 2 ^ 23 := by
  unfold sx; split <;> omega

theorem satS_24_sx (v : Nat) : satS 24 (sx 24 v) = sx 24 v := by
  have := sx_24_bounds v
  simp only [satS]; omega

/-- A saturated part of a tap comes back from its word. -/
theorem sx_24_ux_satS (x : Int) : sx 24 (BitVec.ofNat 32 (ux 24 (satS 24 x))).toNat = satS 24 x := by
  have hsat : -(2 ^ 23) ≤ satS 24 x ∧ satS 24 x < 2 ^ 23 := by simp only [satS]; omega
  generalize satS 24 x = y at hsat
  simp only [BitVec.toNat_ofNat, sx, ux]
  split <;> omega

/-! ### One tap -/

theorem tapAddr_mono {t u : Nat} (h : t < u) : tapAddr t + 8 ≤ tapAddr u := by
  simp only [tapAddr]; omega

theorem State.setTap_eq {t : Nat} (s : State) (w : Int × Int) (ht : t < 65536) :
    s.setTap t w = (s.st (tapAddr t) (BitVec.ofNat 32 (ux 24 (satS 24 w.1)))).st (tapAddr t + 4)
      (BitVec.ofNat 32 (ux 24 (satS 24 w.2))) := by
  have hsize : Region.taps.size = 0x80000 := rfl
  rw [State.setTap, State.stIn_eq _ _ (by omega), State.stIn_eq _ _ (by omega), ← Nat.add_assoc]
  rfl

theorem State.setTap_mem_wf {s : State} {t : Nat} (w : Int × Int) (ht : t < 65536) (h : Memory.wf s.mem = true) :
    Memory.wf (s.setTap t w).mem = true := by
  rw [s.setTap_eq w ht]
  exact st_mem_wf _ _ (st_mem_wf _ _ h)

/-- A tap set reads back, its parts saturated to 24 bits (R86). -/
theorem State.setTap_tap_self {s : State} {t : Nat} (w : Int × Int) (ht : t < 65536) (h : Memory.wf s.mem = true) :
    (s.setTap t w).tap t = (satS 24 w.1, satS 24 w.2) := by
  rw [s.setTap_eq w ht, State.tap, ld_st_self _ _ (st_mem_wf _ _ h), ld_st_ne _ (.inl (Nat.le_refl _)), ld_st_self _ _ h,
    sx_24_ux_satS, sx_24_ux_satS]

theorem State.setTap_tap_ne {s : State} {t u : Nat} (w : Int × Int) (ht : t < 65536) (h : t ≠ u) :
    (s.setTap t w).tap u = s.tap u := by
  have hdisjoint : tapAddr u + 8 ≤ tapAddr t ∨ tapAddr t + 8 ≤ tapAddr u :=
    (Nat.lt_or_gt_of_ne h).symm.imp tapAddr_mono tapAddr_mono
  rw [s.setTap_eq w ht, State.tap, ld_st_ne _ (by omega), ld_st_ne _ (by omega), ld_st_ne _ (by omega),
    ld_st_ne _ (by omega), State.tap]

theorem State.setTap_ld8_ne {s : State} {t x : Nat} (w : Int × Int) (ht : t < 65536)
    (hx : x < tapAddr t ∨ tapAddr t + 8 ≤ x) : (s.setTap t w).ld8 x = s.ld8 x := by
  rw [s.setTap_eq w ht, ld8_st_ne _ (by omega), ld8_st_ne _ (by omega)]

theorem Off.ld8_eq {m : Nat} {a s : State} (h : Off m a s) (hm : ∀ n < 6, m.testBit n = false) (x : Nat) :
    s.ld8 x = a.ld8 x :=
  h.mem x fun r hr => Bool.noConfusion ((hm r.no (regionNo_lt r)).symm.trans hr)

theorem Off.tap_eq {m : Nat} {a s : State} (h : Off m a s) (hm : ∀ n < 6, m.testBit n = false) (t : Nat) :
    s.tap t = a.tap t := by
  simp only [State.tap, State.ld, h.ld8_eq hm]

/-! ### The taps of a cluster -/

/-- The first `n` taps of a cluster set to zero. -/
def State.zeroTaps (s : State) (c n : Nat) : State := (List.range n).foldl (fun s j => s.setTap (32 * c + j) (0, 0)) s

theorem State.zeroTaps_succ (s : State) (c n : Nat) :
    s.zeroTaps c (n + 1) = (s.zeroTaps c n).setTap (32 * c + n) (0, 0) := by
  simp only [State.zeroTaps, List.range_succ, List.foldl_append, List.foldl_cons, List.foldl_nil]

theorem State.zeroCluster_eq (s : State) (c : Nat) : s.zeroCluster c = s.zeroTaps c 32 := rfl

theorem State.zeroTaps_mem_wf {s : State} {c n : Nat} (hc : c < 2048) (hn : n ≤ 32) (h : Memory.wf s.mem = true) :
    Memory.wf (s.zeroTaps c n).mem = true := by
  induction n with
  | zero => exact h
  | succ n ih =>
    rw [s.zeroTaps_succ]
    exact State.setTap_mem_wf _ (by omega) (ih (by omega))

theorem State.zeroTaps_tap {s : State} {c n j : Nat} (hc : c < 2048) (hn : n ≤ 32) (hj : j < n)
    (h : Memory.wf s.mem = true) : (s.zeroTaps c n).tap (32 * c + j) = (0, 0) := by
  induction n with
  | zero => omega
  | succ n ih =>
    rw [s.zeroTaps_succ]
    rcases Nat.lt_succ_iff_lt_or_eq.1 hj with hlt | rfl
    · rw [State.setTap_tap_ne _ (by omega) (by omega), ih (by omega) hlt]
    · exact State.setTap_tap_self _ (by omega) (State.zeroTaps_mem_wf hc (by omega) h)

theorem State.zeroTaps_ld8_ne {s : State} {c n x : Nat} (hc : c < 2048) (hn : n ≤ 32)
    (hx : x < tapAddr (32 * c) ∨ tapAddr (32 * c) + 256 ≤ x) : (s.zeroTaps c n).ld8 x = s.ld8 x := by
  induction n with
  | zero => rfl
  | succ n ih =>
    rw [s.zeroTaps_succ, State.setTap_ld8_ne _ (by omega) (by simp only [tapAddr] at hx ⊢; omega), ih (by omega)]

/-! ### The commands that store to the tap memory (R87, R115) -/

theorem State.writeTap_ld8_ne {s : State} {t x : Nat} (half : Bool) (v : Word) (ht : t < 65536)
    (hx : x < tapAddr t ∨ tapAddr t + 8 ≤ x) : (s.writeTap t half v).ld8 x = s.ld8 x := by
  unfold State.writeTap
  extract_lets c w p
  split
  · exact State.setTap_ld8_ne _ ht hx
  · rfl

/-- What an uncorrectable error of a cluster reaches once its taps are zero. -/
def F.tapUncorrTail : Nat := F.State.estReset ||| F.State.raise

theorem State.tapUncorr_off_zeroed (s : State) (c : Nat) : Off F.tapUncorrTail (s.zeroCluster c) (s.tapUncorr c) := by
  have hm := Nat.and_self F.tapUncorrTail
  unfold State.tapUncorr
  extract_lets cl z
  exact .ite (State.raise_off (sb hm (by decide)) (State.estReset_off (sb hm (by decide)) .refl ..) ..)
    (State.raise_off (sb hm (by decide)) .refl ..)

/-- Settles O7: a tap write stores to one tap or to none, and what follows the zeroing of a cluster reaches no memory. -/
theorem tapStores : Obligations.TapStores := by
  refine ⟨?_, ?_⟩
  · rintro s _ k half v ⟨⟩ x hx
    unfold State.byHost
    split
    · exact State.writeTap_ld8_ne half v k.isLt hx
    · rfl
  · rintro s _ c ⟨⟩ x hx
    rw [(s.tapUncorr_off_zeroed c).ld8_eq (by decide)]
    exact State.zeroTaps_ld8_ne c.isLt (Nat.le_refl _) hx

end Sys2Proof.Machine

/-! PROOF. The frame of the commands of canceller and spotlight. -/
namespace Sys2Proof.Machine
open Sys2Proof
set_option Elab.async false

/-- Settles O12: each clause names memories, pieces and fields that cover the mask of its command (Laws/OffCommands.lean). -/
theorem cancellerFrame : Obligations.CancellerFrame :=
  ⟨fun a b => onlyChanges_of_maskCovers (execPathEnable_off · a b) (by decide +kernel),
   fun a => onlyChanges_of_maskCovers (execPathSubtractionStart_off · a) (by decide +kernel),
   fun a b => onlyChanges_of_maskCovers (execPathDisable_off · a b) (by decide +kernel),
   fun a b c => onlyChanges_of_maskCovers (execTapWrite_off · a b c) (by decide +kernel),
   onlyChanges_of_maskCovers execTapCountSnapshot_off (by decide +kernel),
   fun a => onlyChanges_of_maskCovers (execClusterPositionWrite_off · a) (by decide +kernel),
   fun a => onlyChanges_of_maskCovers (execCnxMarginWrite_off · a) (by decide +kernel),
   fun a => onlyChanges_of_maskCovers (execCnxCeilRiseWrite_off · a) (by decide +kernel),
   fun a => onlyChanges_of_maskCovers (execSearchGo_off · a) (by decide +kernel),
   onlyChanges_of_maskCovers execSearchStart_off (by decide +kernel),
   onlyChanges_of_maskCovers execSearchComplete_off (by decide +kernel),
   fun a => onlyChanges_of_maskCovers (execOldClusterRetire_off · a) (by decide +kernel),
   onlyChanges_of_maskCovers execSlnParityError_off (by decide +kernel),
   fun a b => onlyChanges_of_maskCovers (execTapUpdate_off · a b) (by decide +kernel),
   fun a => onlyChanges_of_maskCovers (execEstimateBlock_off · a) (by decide +kernel),
   fun a => onlyChanges_of_maskCovers (execProbeIntegrationEnd_off · a) (by decide +kernel),
   fun a => onlyChanges_of_maskCovers (execTapMemoryUncorr_off · a) (by decide +kernel),
   fun a b => onlyChanges_of_maskCovers (execStreamEnable_off · a b) (by decide +kernel),
   fun a b c => onlyChanges_of_maskCovers (execStreamReservationResult_off · a b c) (by decide +kernel),
   fun a b => onlyChanges_of_maskCovers (execStreamDisable_off · a b) (by decide +kernel),
   fun a b => onlyChanges_of_maskCovers (execStreamRxEnable_off · a b) (by decide +kernel),
   fun a => onlyChanges_of_maskCovers (execStreamFrameReceived_off · a) (by decide +kernel),
   fun a => onlyChanges_of_maskCovers (execStreamLost_off · a) (by decide +kernel),
   fun a => onlyChanges_of_maskCovers (execStreamRestored_off · a) (by decide +kernel),
   fun a b => onlyChanges_of_maskCovers (execSptArm_off · a b) (by decide +kernel),
   fun a b => onlyChanges_of_maskCovers (execMeasArm_off · a b) (by decide +kernel),
   fun a b => onlyChanges_of_maskCovers (execSptDisarm_off · a b) (by decide +kernel),
   fun a b => onlyChanges_of_maskCovers (execDecisionWindowClose_off · a b) (by decide +kernel),
   fun a => onlyChanges_of_maskCovers (execContextStuck_off · a) (by decide +kernel),
   fun a b c => onlyChanges_of_maskCovers (execContextCtlWrite_off · a b c) (by decide +kernel),
   fun a b => onlyChanges_of_maskCovers (execContextSnapshotGo_off · a b) (by decide +kernel),
   fun a => onlyChanges_of_maskCovers (execContextSnapshotDone_off · a) (by decide +kernel),
   fun a b => onlyChanges_of_maskCovers (execContextMemoryUncorr_off · a b) (by decide +kernel)⟩

end Sys2Proof.Machine

/-! PROOF. Registers written in turn at one index, the fields of a masked word, and the state of paths, clusters and streams where
an operation does not reach the canceller. -/
namespace Sys2Proof.Machine
open Sys2Proof
set_option Elab.async false

/-! ### Fields written in turn -/

/-- Each field of a list set, in turn, to the value beside it. -/
def State.wrAll (s : State) (i : Nat) (ws : List (Fld × Nat)) : State := ws.foldl (fun s w => s.wr w.1 i w.2) s

/-- The fields repeat with one stride and hold different places. -/
def Fld.apart (f g : Fld) : Bool := f.stride == g.stride && f.key 0 != g.key 0

theorem Fld.key_ne_of_apart {f g : Fld} (h : f.apart g = true) (i : Nat) : f.key i ≠ g.key i := by
  simp only [Fld.apart, Bool.and_eq_true, beq_iff_eq, bne_iff_ne] at h
  exact Fld.key_ne h.1 h.2 i

theorem State.rd_wrAll_ne {g : Fld} {i : Nat} {ws : List (Fld × Nat)} (s : State) (h : ∀ w ∈ ws, g.apart w.1 = true) :
    (s.wrAll i ws).rd g i = s.rd g i := by
  induction ws generalizing s with
  | nil => rfl
  | cons w ws ih =>
    obtain ⟨hw, hws⟩ := List.forall_mem_cons.1 h
    exact (ih (s.wr w.1 i w.2) hws).trans (State.rd_wr_ne _ _ (Fld.key_ne_of_apart hw i).symm)

/-- Each of the fields reads as it was set. -/
theorem State.rd_wrAll_self {f : Fld} {i v : Nat} {ws : List (Fld × Nat)} (s : State)
    (hdistinct : ws.Pairwise (·.1.apart ·.1 = true)) (hmem : (f, v) ∈ ws) (hi : f.has i = true) (hw : f.w ≤ 32) :
    (s.wrAll i ws).rd f i = v % 2 ^ f.w := by
  induction ws generalizing s with
  | nil => contradiction
  | cons w ws ih =>
    obtain ⟨hhead, htail⟩ := List.pairwise_cons.1 hdistinct
    rcases List.mem_cons.1 hmem with rfl | hmem
    · exact (State.rd_wrAll_ne (s.wr f i v) hhead).trans (State.rd_wr_self s v hi hw)
    · exact ih (s.wr w.1 i w.2) htail hmem

/-- No field of the mask has a place of the field: `maskLeaves`, with the indices gone through for the mask's own fields alone. -/
def maskAvoids (m : Nat) (f : Fld) : Bool :=
  decide (m < 2 ^ maskBits) &&
    (List.range maskBits).all fun n => !m.testBit n || (List.range f.n).all fun i => !(fldNo n).meets (f.key i)

theorem maskLeaves_of_maskAvoids {m : Nat} {f : Fld} (h : maskAvoids m f = true) : maskLeaves m f = true := by
  simp only [maskAvoids, maskLeaves, maskMisses, Bool.and_eq_true, decide_eq_true_eq, List.all_eq_true, Bool.or_eq_true] at h ⊢
  exact fun i hi => ⟨h.1, fun n hn => (h.2 n hn).imp_right fun hmeets => hmeets i hi⟩

theorem Off.rd_eq_of_avoids {m : Nat} {a s : State} (h : Off m a s) {f : Fld} {i : Nat} (hm : maskAvoids m f = true)
    (hi : i < f.n) : s.rd f i = a.rd f i :=
  h.rd_eq_of_lt (maskLeaves_of_maskAvoids hm) hi

/-- A field set among others reads so after an operation that avoids it. -/
theorem Off.rd_of_wrAll {m : Nat} {u s : State} {i : Nat} {ws : List (Fld × Nat)} (h : Off m (u.wrAll i ws) s)
    (hdistinct : ws.Pairwise (·.1.apart ·.1 = true)) {f : Fld} {v : Nat} (hmem : (f, v) ∈ ws)
    (hm : maskAvoids m f = true) (hf : f.per = f.n ∧ f.runs = 1 ∧ f.w ≤ 32) (hi : i < f.n) : s.rd f i = v % 2 ^ f.w := by
  obtain ⟨hper, hruns, hw⟩ := hf
  rw [h.rd_eq_of_avoids hm hi, u.rd_wrAll_self hdistinct hmem (Fld.has_of_lt hper hruns hi) hw]

/-! ### Bits of page registers -/

theorem State.int_tst (s : State) {page b : Nat} (hpage : PG_INT_STAT.has page = true) (hb : b < PG_INT_STAT.w) :
    (s.int page b).tst PG_INT_STAT page b = true := by
  rw [State.int, State.tst_orBits_self _ hpage (by decide) hb, Nat.testBit_two_pow_self, Bool.or_true]

/-! ### Fields of a masked word -/

theorem Fld.of_or (f : Fld) (v m : Word) : f.of (v ||| m) = f.of v ||| f.of m := by
  simp only [Fld.of, bits, BitVec.toNat_or, ← Nat.shiftRight_eq_div_pow, Nat.shiftRight_or_distrib, Nat.or_mod_two_pow]

theorem Fld.of_and (f : Fld) (v m : Word) : f.of (v &&& m) = f.of v &&& f.of m := by
  simp only [Fld.of, bits, BitVec.toNat_and, ← Nat.shiftRight_eq_div_pow, Nat.shiftRight_and_distrib, Nat.and_mod_two_pow]

/-- A bit of the mask sets a field of one bit. -/
theorem Fld.of_or_set {f : Fld} {m : Word} (v : Word) (hw : f.w = 1) (hm : f.of m = 1) : f.of (v ||| m) = 1 := by
  have hlt : f.of v < 2 ^ f.w := Nat.mod_lt _ (Nat.two_pow_pos _)
  rw [hw] at hlt
  rw [Fld.of_or, hm]
  rcases (by omega : f.of v = 0 ∨ f.of v = 1) with h | h <;> rw [h] <;> rfl

/-- A field that the mask leaves out reads as before. -/
theorem Fld.of_or_of_zero {f : Fld} {m : Word} (v : Word) (hm : f.of m = 0) : f.of (v ||| m) = f.of v := by
  rw [Fld.of_or, hm, Nat.or_zero]

theorem Fld.of_and_of_zero {f : Fld} {m : Word} (v : Word) (hm : f.of m = 0) : f.of (v &&& m) = 0 := by
  rw [Fld.of_and, hm, Nat.and_zero]

/-! ### The canceller's state out of an operation's reach -/

section
variable {m : Nat} {a s : State} (h : Off m a s) (hb : m.testBit (partNo .cnx) = false)
include h hb

theorem Off.cnx_eq : s.cnx = a.cnx := h.part .cnx hb

theorem Off.path_eq (p : Nat) : s.path p = a.path p := by rw [State.path, h.cnx_eq hb, State.path]

theorem Off.srx_eq (k : Nat) : s.srx k = a.srx k := by rw [State.srx, h.cnx_eq hb, State.srx]

theorem Off.stx_eq (k : Nat) : s.stx k = a.stx k := by rw [State.stx, h.cnx_eq hb, State.stx]

end

theorem State.queueSearch_path (s : State) (p : Nat) (w : Why) (q : Nat) : (s.queueSearch p w).path q = s.path q := by
  unfold State.queueSearch
  split <;> rfl

end Sys2Proof.Machine

/-! PROOF. Coupling paths are enabled, begin to subtract and are disabled (spec/03_feedback_cancellation.md R79, R84). -/
namespace Sys2Proof.Machine
open Sys2Proof
set_option Elab.async false

/-! ### Accepted paths (R79, R84) -/

theorem State.writePathCfg_accepts {s : State} {p : Nat} {v : Word} (hen : CNX_PATH_CFG_EN.of v = 1)
    (hoff : (s.path p).on = false) (hpass : (s.wrWord pathFlds p v).pathErr p = none) :
    s.writePathCfg p v = (s.wrWord pathFlds p v).pathAccept p := by
  simp only [State.writePathCfg, hen, hoff, hpass, if_true, Bool.false_eq_true, if_false]

/-- The clusters that an accepted path is given, one by one (R84). -/
def State.pathClusters (s : State) (p : Nat) : State :=
  let rate := (s.lane (victim p)).rate
  let w : PathSt := { cfg := s.pathCfg p }
  let base : Int := clipBase rate w.dense (-(s.rd SLN_CFG_DENSE_PRE 0 : Int))
  let s := (List.range w.dense).foldl (fun s i => s.allocCluster p .dense (clipPos rate (base + 32 * i))) s
  let s := (List.range w.sparse).foldl (fun s i => s.allocCluster p .sparse (clipPos rate (base + 32 * (w.dense + i)))) s
  (List.range w.spare).foldl (fun s _ => s.allocCluster p .spare 0) s

theorem State.pathClusters_off (s : State) (p : Nat) : Off F.State.allocCluster s (s.pathClusters p) :=
  .foldl (.foldl (.foldl .refl (fun _ h _ => State.allocCluster_off (Nat.and_self _) h ..) _)
    (fun _ h _ => State.allocCluster_off (Nat.and_self _) h ..) _)
    (fun _ h _ => State.allocCluster_off (Nat.and_self _) h ..) _

/-- The path that its clusters are allocated to is entered, and its estimates are reset (R79, R84, R104). -/
def State.pathEnter (s : State) (p : Nat) (w : PathSt) (startAt : Nat) : State :=
  let s := s.setPath p fun _ =>
    { on := true, cfg := w.cfg, fofs := BitVec.ofNat 32 (s.rd CNX_PATH_FOFS p), startAt := startAt }
  let s := s.setSln p fun _ => {}
  let s := s.setCnx fun c =>
    { c with retained := c.retained.filter fun r => !(r.victim == victim p && r.remote == w.remote && r.src == w.src) }
  let s := (((s.wr CNX_PATH_STAT_ACTIVE p 1).wr CNX_PATH_STAT_ERR p 0).wr CNX_PATH_STAT_ISO_VALID p 0).wr
    CNX_PATH_STAT_FLOOR p 0
  let s := s.setPath p fun x => { x with xk := 0 }
  let s := ((s.wr CNX_PATH_STAT_EST_RESET p 1).setEst p).int pgCNX 2
  ((s.queueSearch p .enable).setLoad).int pgCNX 0

theorem State.pathAccept_eq (s : State) (p : Nat) :
    s.pathAccept p = (s.pathClusters p).pathEnter p { cfg := s.pathCfg p }
      (((s.pathClusters p).now / (ratePeriod (s.lane (victim p)).rate * 1024) + 1) * 1024) := rfl

/-- What an accepted path shows in its status. -/
def acceptedStat : List (Fld × Nat) :=
  [(CNX_PATH_STAT_ACTIVE, 1), (CNX_PATH_STAT_ERR, 0), (CNX_PATH_STAT_ISO_VALID, 0), (CNX_PATH_STAT_FLOOR, 0),
   (CNX_PATH_STAT_EST_RESET, 1)]

/-- What the entry of a path reaches once the path's state and status are written. -/
def F.pathEnterTail : Nat := F.State.setEst ||| F.State.int ||| F.State.queueSearch ||| F.State.setLoad

theorem State.pathEnter_off_written (s : State) (p : Nat) (w : PathSt) (startAt : Nat) :
    ∃ u : State, Off F.pathEnterTail (u.wrAll p acceptedStat) (s.pathEnter p w startAt) := by
  have hm := Nat.and_self F.pathEnterTail
  unfold State.pathEnter
  extract_lets s1 s2 s3 s4 s5 s6
  refine ⟨s3.setPath p fun x => { x with xk := 0 }, ?_⟩
  clear_value s3
  have h6 : Off F.pathEnterTail ((s3.setPath p fun x => { x with xk := 0 }).wrAll p acceptedStat) s6 :=
    State.int_off (sb hm (by decide)) (State.setEst_off (sb hm (by decide)) .refl ..) ..
  exact State.int_off (sb hm (by decide)) (State.setLoad_off (sb hm (by decide))
    (State.queueSearch_off (sb hm (by decide)) h6 ..)) ..

theorem State.pathEnter_path (s : State) (p : Nat) (w : PathSt) (startAt : Nat) :
    (s.pathEnter p w startAt).path p =
      { on := true, cfg := w.cfg, fofs := BitVec.ofNat 32 (s.rd CNX_PATH_FOFS p), startAt := startAt } := by
  unfold State.pathEnter
  extract_lets s1 s2 s3 s4 s5 s6
  have h1 : s1.path p = { on := true, cfg := w.cfg, fofs := BitVec.ofNat 32 (s.rd CNX_PATH_FOFS p), startAt := startAt } :=
    State.setPath_path_self ..
  have h5 : s5.path p = { s1.path p with xk := 0 } := State.setPath_path_self ..
  exact (s6.queueSearch_path p .enable p).trans (h5.trans (by rw [h1]))

theorem execPathEnable_accepts {s : State} {p : Fin 128} {v : Word} (hdef : s.sys.deferred = [])
    (hoff : (s.path p).on = false) (hpass : (s.wrWord pathFlds p (v ||| 0x80000000#32)).pathErr p = none) :
    ∃ t, exec (.pathEnable p v) s = .next t ∧ (t.path p).on = true ∧ (t.path p).running = false
      ∧ (t.path p).startAt = (s.now / (ratePeriod (s.lane (victim p)).rate * 1024) + 1) * 1024
      ∧ t.rd CNX_PATH_STAT_ACTIVE p = 1 ∧ t.rd CNX_PATH_STAT_ERR p = 0 ∧ t.rd CNX_PATH_STAT_ISO_VALID p = 0
      ∧ t.rd CNX_PATH_STAT_EST_RESET p = 1 ∧ t.tst PG_INT_STAT pgCNX 0 = true := by
  refine ⟨_, rfl, ?_⟩
  rw [State.byHost_of_none hdef, State.writePathCfg_accepts (Fld.of_or_set v rfl (by decide)) hoff hpass, State.pathAccept_eq,
    (State.pathClusters_off ..).now_eq (by decide), State.pathEnter_path]
  obtain ⟨u, h⟩ := State.pathEnter_off_written
    ((s.wrWord pathFlds p (v ||| 0x80000000#32)).pathClusters p) p
    { cfg := (s.wrWord pathFlds p (v ||| 0x80000000#32)).pathCfg p }
    ((s.now / (ratePeriod (s.lane (victim p)).rate * 1024) + 1) * 1024)
  have hstat := fun {f x} => h.rd_of_wrAll (by decide) (f := f) (v := x)
  refine ⟨rfl, rfl, rfl, ?_, ?_, ?_, ?_, State.int_tst _ (by decide) (by decide)⟩
  · exact hstat (.head _) (by decide +kernel) (by decide) p.isLt
  · exact hstat (.tail _ (.head _)) (by decide +kernel) (by decide) p.isLt
  · exact hstat (.tail _ (.tail _ (.head _))) (by decide +kernel) (by decide) p.isLt
  · exact hstat (.tail _ (.tail _ (.tail _ (.tail _ (.head _))))) (by decide +kernel) (by decide) p.isLt

end Sys2Proof.Machine

/-! PROOF. Paths begin to subtract and are disabled, and the host's writes to taps, clusters and settings of the canceller
(spec/03_feedback_cancellation.md R79, R84, R87, R93, R105, R116). -/
namespace Sys2Proof.Machine
open Sys2Proof
set_option Elab.async false

/-! ### The start of subtraction (R79) -/

theorem State.pathStart_of_waiting {s : State} {p : Nat} (hon : (s.path p).on = true) (hrun : (s.path p).running = false) :
    s.pathStart p = (s.reach ((s.path p).startAt * (s.lane (victim p)).period)).setPath p
      fun x => { x with running := true } := by
  simp only [State.pathStart, hon, hrun, Bool.not_false, Bool.and_self, if_true]

theorem execPathSubtractionStart_starts {s : State} {p : Fin 128} (hon : (s.path p).on = true)
    (hrun : (s.path p).running = false) :
    ∃ t, exec (.pathSubtractionStart p) s = .next t ∧ (t.path p).running = true
      ∧ t.now = max s.now ((s.path p).startAt * (s.lane (victim p)).period) := by
  refine ⟨_, rfl, ?_⟩
  rw [State.pathStart_of_waiting hon hrun]
  exact ⟨congrArg PathSt.running (State.setPath_path_self ..), State.reach_now ..⟩

/-! ### Disabled paths (R84) -/

/-- What a disabled path shows in its registers. -/
def disabledStat : List (Fld × Nat) := [(CNX_PATH_CFG_EN, 0), (CNX_PATH_STAT_ACTIVE, 0), (CNX_PATH_STAT_ISO_VALID, 0)]

/-- What the disabling of a path reaches once its state and its status are written. -/
def F.pathDisableTail : Nat := F.State.setLoad ||| F.State.setIso

theorem State.pathDisable_off_written {s : State} {p : Nat} (hon : (s.path p).on = true) :
    ∃ u : State, (u.path p).on = false ∧ Off F.pathDisableTail (u.wrAll p disabledStat) (s.pathDisable p) := by
  unfold State.pathDisable
  extract_lets x n refOn kept s1 s2 busy s3 s4 s5
  rw [if_neg (by rw [hon]; decide)]
  have h2 : s2.path p = {} := State.setPath_path_self ..
  clear_value s2
  have h4 : s4.path p = {} := by
    unfold s4 State.cond
    split <;> exact h2
  clear_value s4
  exact ⟨s4, by rw [h4], State.setIso_off (by decide) (State.setLoad_off (by decide) .refl) ..⟩

theorem State.writePathCfg_disables {s : State} {p : Nat} {v : Word} (hen : CNX_PATH_CFG_EN.of v = 0) :
    s.writePathCfg p v = (s.wrWord pathFlds p v).pathDisable p := by
  simp only [State.writePathCfg, hen, Nat.zero_ne_one, if_false]

theorem execPathDisable_stops {s : State} {p : Fin 128} {v : Word} (hdef : s.sys.deferred = [])
    (hon : (s.path p).on = true) :
    ∃ t, exec (.pathDisable p v) s = .next t ∧ (t.path p).on = false ∧ t.rd CNX_PATH_CFG_EN p = 0
      ∧ t.rd CNX_PATH_STAT_ACTIVE p = 0 ∧ t.rd CNX_PATH_STAT_ISO_VALID p = 0 := by
  refine ⟨_, rfl, ?_⟩
  rw [State.byHost_of_none hdef, State.writePathCfg_disables (Fld.of_and_of_zero v (by decide))]
  obtain ⟨u, hu, h⟩ := State.pathDisable_off_written (s := s.wrWord pathFlds p (v &&& 0x7FFFFFFF#32)) (p := p) hon
  have hstat := fun {f x} => h.rd_of_wrAll (by decide) (f := f) (v := x)
  refine ⟨?_, ?_, ?_, ?_⟩
  · rw [h.path_eq (by decide)]
    exact hu
  · exact hstat (.head _) (by decide +kernel) (by decide) p.isLt
  · exact hstat (.tail _ (.head _)) (by decide +kernel) (by decide) p.isLt
  · exact hstat (.tail _ (.tail _ (.head _))) (by decide +kernel) (by decide) p.isLt

/-! ### Taps (R87, R116) -/

theorem State.writeTap_of_frozen {s : State} {t : Nat} {half : Bool} {v : Word} (hused : (s.clu (t / 32)).used = true)
    (hfreeze : s.rd CNX_PATH_CFG_FREEZE (s.clu (t / 32)).path ≠ 0) :
    s.writeTap t half v
      = s.setTap t (if half then ((s.tap t).1, sx 24 v.toNat) else (sx 24 v.toNat, (s.tap t).2)) := by
  have hon : s.on CNX_PATH_CFG_FREEZE (s.clu (t / 32)).path = true := bne_iff_ne.2 hfreeze
  simp only [State.writeTap, hused, hon, Bool.and_self, if_true]

theorem execTapWrite_writes {s : State} {k : Fin 65536} {half : Bool} {v : Word} (hdef : s.sys.deferred = [])
    (hcanon : MemoryCanonical s) (hused : (s.clu (k / 32)).used = true)
    (hfreeze : s.rd CNX_PATH_CFG_FREEZE (s.clu (k / 32)).path ≠ 0) :
    ∃ t, exec (.tapWrite k half v) s = .next t
      ∧ t.tap k = if half then ((s.tap k).1, sx 24 v.toNat) else (sx 24 v.toNat, (s.tap k).2) := by
  refine ⟨_, rfl, ?_⟩
  rw [State.byHost_of_none hdef, State.writeTap_of_frozen hused hfreeze, State.setTap_tap_self _ k.isLt hcanon]
  cases half <;> simp only [State.tap, satS_24_sx, if_true, if_false, Bool.false_eq_true]

theorem execTapCountSnapshot_freezes {s : State} (hdef : s.sys.deferred = []) :
    ∃ t, exec .tapCountSnapshot s = .next t ∧ t.rd CNX_TAP_ALLOC 0 = s.cnx.tapsUsed % 2 ^ CNX_TAP_ALLOC.w
      ∧ t.rd CNX_TAP_FREE 0 = s.cnx.tapsFree % 2 ^ CNX_TAP_FREE.w := by
  refine ⟨_, rfl, ?_⟩
  rw [State.byHost_of_none hdef]
  exact ⟨(State.rd_wr_ne _ _ (by decide)).trans (State.rd_wr_self _ _ (by decide) (by decide)),
    State.rd_wr_self _ _ (by decide) (by decide)⟩

/-! ### A cluster's position (R93) -/

theorem State.setClu_tap (s : State) (c : Nat) (g : Cluster → Cluster) (t : Nat) : (s.setClu c g).tap t = s.tap t := rfl

theorem State.writePos_accepts {s : State} {v : Word} (hused : (s.clu (s.rd CNX_CLU_PTR 0)).used = true)
    (hauto : s.rd CNX_PATH_CFG_AUTO (s.clu (s.rd CNX_CLU_PTR 0)).path = 0) (hlow : -16 ≤ sx 16 v.toNat)
    (hhigh : sx 16 v.toNat + 31 ≤ posMax (s.lane (victim (s.clu (s.rd CNX_CLU_PTR 0)).path)).rate)
    (hclear : ∀ d ∈ s.clustersOf (s.clu (s.rd CNX_CLU_PTR 0)).path, d ≠ s.rd CNX_CLU_PTR 0 →
      ((s.clu d).placed || (s.clu d).next.isSome) = true → 32 ≤ (sx 16 v.toNat - (s.clu d).next.getD (s.clu d).pos).natAbs) :
    s.writePos v = (s.zeroCluster (s.rd CNX_CLU_PTR 0)).setClu (s.rd CNX_CLU_PTR 0)
      fun x => { x with next := some (sx 16 v.toNat), keep := false, nextAt := s.now } := by
  have hmanual : s.on CNX_PATH_CFG_AUTO (s.clu (s.rd CNX_CLU_PTR 0)).path = false := by rw [State.on, hauto]; rfl
  unfold State.writePos
  extract_lets c cl pos rate clash
  have hclash : clash = false := by
    rw [← Bool.not_eq_true, List.any_eq_true]
    rintro ⟨d, hd, h⟩
    simp only [Bool.and_eq_true, bne_iff_ne, decide_eq_true_eq] at h
    exact absurd (hclear d hd h.1.1 h.1.2) (Nat.not_le.2 h.2)
  have hgo : (!cl.used || s.on CNX_PATH_CFG_AUTO cl.path || decide (pos < -16) || decide (posMax rate < pos + 31) || clash)
      = false := by
    rw [hclash, hmanual, hused, decide_eq_false (Int.not_lt.2 hlow), decide_eq_false (Int.not_lt.2 hhigh)]
    rfl
  rw [if_neg (by rw [hgo]; exact Bool.false_ne_true)]

theorem execClusterPositionWrite_moves {s : State} {v : Word} (hdef : s.sys.deferred = [])
    (hused : (s.clu (s.rd CNX_CLU_PTR 0)).used = true)
    (hauto : s.rd CNX_PATH_CFG_AUTO (s.clu (s.rd CNX_CLU_PTR 0)).path = 0) (hlow : -16 ≤ sx 16 v.toNat)
    (hhigh : sx 16 v.toNat + 31 ≤ posMax (s.lane (victim (s.clu (s.rd CNX_CLU_PTR 0)).path)).rate)
    (hclear : ∀ d ∈ s.clustersOf (s.clu (s.rd CNX_CLU_PTR 0)).path, d ≠ s.rd CNX_CLU_PTR 0 →
      ((s.clu d).placed || (s.clu d).next.isSome) = true → 32 ≤ (sx 16 v.toNat - (s.clu d).next.getD (s.clu d).pos).natAbs) :
    ∃ t, exec (.clusterPositionWrite v) s = .next t ∧ (t.clu (s.rd CNX_CLU_PTR 0)).next = some (sx 16 v.toNat)
      ∧ (MemoryCanonical s → ∀ j < 32, t.tap (32 * s.rd CNX_CLU_PTR 0 + j) = (0, 0)) := by
  refine ⟨_, rfl, ?_⟩
  rw [State.byHost_of_none hdef, State.writePos_accepts hused hauto hlow hhigh hclear]
  refine ⟨congrArg Cluster.next (State.setClu_clu_self ..), fun hcanon j hj => ?_⟩
  rw [State.setClu_tap, State.zeroCluster_eq]
  exact State.zeroTaps_tap (s.rd_lt CNX_CLU_PTR 0) (Nat.le_refl _) hj hcanon

/-! ### Settings (R105, R116) -/

theorem execCnxMarginWrite_writes {s : State} {v : Word} (hdef : s.sys.deferred = []) (hlow : 0x280 ≤ CNX_MARGIN.of v)
    (hhigh : CNX_MARGIN.of v ≤ 0xA00) :
    ∃ t, exec (.cnxMarginWrite v) s = .next t ∧ t.rd CNX_MARGIN 0 = CNX_MARGIN.of v := by
  refine ⟨_, rfl, ?_⟩
  rw [State.byHost_of_none hdef, State.writeMargin, if_pos ⟨hlow, hhigh⟩]
  exact (State.rd_wr_self _ _ (by decide) (by decide)).trans (Fld.of_mod ..)

theorem execCnxCeilRiseWrite_writes {s : State} {v : Word} (hdef : s.sys.deferred = []) (hlow : 1 ≤ CNX_CEIL_RISE.of v)
    (hhigh : CNX_CEIL_RISE.of v ≤ 60) :
    ∃ t, exec (.cnxCeilRiseWrite v) s = .next t ∧ t.rd CNX_CEIL_RISE 0 = CNX_CEIL_RISE.of v := by
  refine ⟨_, rfl, ?_⟩
  rw [State.byHost_of_none hdef, State.writeRise, if_pos ⟨hlow, hhigh⟩]
  exact (State.rd_wr_self _ _ (by decide) (by decide)).trans (Fld.of_mod ..)

/-- Settles O24: an accepted path writes its status and then only what no clause names, and a disabled one likewise; a tap
reads back as stored, and a setting in range as written. -/
theorem pathCommandsComplete : Obligations.PathCommandsComplete :=
  ⟨fun _ _ _ => execPathEnable_accepts, fun _ _ => execPathSubtractionStart_starts, fun _ _ _ => execPathDisable_stops,
   fun _ _ _ _ => execTapWrite_writes, fun _ => execTapCountSnapshot_freezes, fun _ _ => execClusterPositionWrite_moves,
   fun _ _ => execCnxMarginWrite_writes, fun _ _ => execCnxCeilRiseWrite_writes⟩

end Sys2Proof.Machine

/-! PROOF. Sightline: searches are queued, start and end, and a moved-from cluster becomes the spare
(spec/03_feedback_cancellation.md R89, R90, R92, R115). -/
namespace Sys2Proof.Machine
open Sys2Proof
set_option Elab.async false

/-! ### A search is queued and starts (R89) -/

theorem State.queueSearch_of_room {s : State} {p : Nat} {w : Why} (h : s.cnx.queue.length < 128) :
    s.queueSearch p w = s.setCnx fun c => { c with queue := c.queue ++ [(p, w)] } :=
  if_neg (Nat.not_le.2 h)

theorem execSearchGo_queues {s : State} {v : Word} (hdef : s.sys.deferred = []) (hroom : s.cnx.queue.length < 128) :
    ∃ t, exec (.searchGo v) s = .next t ∧ t.cnx.queue = s.cnx.queue ++ [(SLN_CTL_PATH.of v, .host)] := by
  have hgo : (SLN_CTL_GO.of (v ||| 0x8000#32) == 1) = true := beq_iff_eq.2 (Fld.of_or_set v rfl (by decide))
  refine ⟨_, rfl, ?_⟩
  rw [State.byHost_of_none hdef, State.writeSlnCtl, State.cond, if_pos hgo, Fld.of_or_of_zero (f := SLN_CTL_PATH) v (by decide),
    State.queueSearch_of_room (by exact hroom)]
  rfl

theorem execSearchStart_starts {s : State} {p : Nat} {w : Why} {rest : List (Nat × Why)} (hhold : s.rd SLN_CTL_HOLD 0 = 0)
    (hidle : s.cnx.search = none) (hqueue : (s.cnx.queue.filter fun e => (s.path e.1).on) = (p, w) :: rest) (hp : p < 128) :
    ∃ t, exec .searchStart s = .next t ∧ t.cnx.search = some (p, w) ∧ t.rd SLN_STAT_BUSY 0 = 1
      ∧ t.rd SLN_STAT_CUR_PATH 0 = p := by
  have hfree : (s.on SLN_CTL_HOLD 0 || s.cnx.search.isSome) = false := by rw [State.on, hhold, hidle]; rfl
  have hstart : s.searchStart = (s.setCnx fun c => { c with queue := rest }).beginSearch (p, w) := by
    simp only [State.searchStart, hfree, hqueue, Bool.false_eq_true, if_false]
  refine ⟨_, rfl, ?_⟩
  rw [hstart]
  exact ⟨rfl, (State.rd_wr_ne _ _ (by decide)).trans (State.rd_wr_self _ _ (by decide) (by decide)),
    (State.rd_wr_self _ _ (by decide) (by decide)).trans (Nat.mod_eq_of_lt hp)⟩

/-! ### A search ends (R90) -/

/-- What a search reaches once its end is counted. -/
def F.searchDoneTail : Nat := F.State.int ||| F.State.placeFirst ||| F.State.replace

/-- The search's results are taken 20 µs after its samples, and the correlator is free. -/
theorem State.searchDone_off_counted {s : State} {p : Nat} {w : Why} (hsearch : s.cnx.search = some (p, w))
    (hfull : 2 ^ 16 ≤ s.cnx.corr.n) :
    ∃ u : State, Off F.State.setCnx (s.reach (s.cnx.corrAt + usT 20)) u
      ∧ Off F.searchDoneTail ((u.wr SLN_STAT_BUSY 0 0).inc SLN_STAT_SEARCH_CNT 0) s.searchDone := by
  have hm := Nat.and_self F.searchDoneTail
  unfold State.searchDone
  split
  case h_1 hnone => exact nomatch hnone.symm.trans hsearch
  case h_2 p' w' _ =>
    extract_lets c s1 rate peaks out pd first s2 s3 s4 s5
    rw [if_neg (Nat.not_lt.2 hfull)]
    refine ⟨s3, State.setCnx_off (by decide) (State.setSln_off (by decide) .refl ..) .., ?_⟩
    clear_value s3
    have h5 : Off F.searchDoneTail s4 s5 := State.cond_off .refl (fun _ h => State.int_off (sb hm (by decide)) h ..) _
    exact .ite (.ite (State.int_off (sb hm (by decide)) (State.placeFirst_off (sb hm (by decide)) h5 ..) ..)
      (State.replace_off (sb hm (by decide)) h5 ..)) h5

theorem execSearchComplete_counts {s : State} {p : Nat} {w : Why} (hsearch : s.cnx.search = some (p, w))
    (hfull : 2 ^ 16 ≤ s.cnx.corr.n) :
    ∃ t, exec .searchComplete s = .next t ∧ t.rd SLN_STAT_BUSY 0 = 0
      ∧ t.rd SLN_STAT_SEARCH_CNT 0 = (s.rd SLN_STAT_SEARCH_CNT 0 + 1) % 2 ^ SLN_STAT_SEARCH_CNT.w
      ∧ t.now = max s.now (s.cnx.corrAt + usT 20) := by
  obtain ⟨u, hu, h⟩ := State.searchDone_off_counted hsearch hfull
  have hcnt : u.rd SLN_STAT_SEARCH_CNT 0 = s.rd SLN_STAT_SEARCH_CNT 0 :=
    (hu.rd_eq (by decide +kernel)).trans ((State.reach_off (Nat.and_self _) .refl _).rd_eq (by decide +kernel))
  refine ⟨_, rfl, ?_, ?_, ?_⟩
  · rw [h.rd_eq (by decide +kernel), State.inc, State.rd_wr_ne _ _ (by decide)]
    exact State.rd_wr_self _ _ (by decide) (by decide)
  · rw [h.rd_eq (by decide +kernel), State.inc, State.rd_wr_self _ _ (by decide) (by decide), State.rd_wr_ne _ _ (by decide),
      hcnt]
  · exact (h.now_eq (by decide)).trans ((hu.now_eq (by decide)).trans (State.reach_now ..))

/-! ### A moved-from cluster and a parity error (R92, R115) -/

theorem execOldClusterRetire_spares {s : State} {p : Fin 128} {c : Nat}
    (hretire : ((s.clustersOf p).filter fun c => (s.clu c).retire == some 0) = [c]) :
    ∃ t, exec (.oldClusterRetire p) s = .next t ∧ (t.clu c).role = .spare ∧ (t.clu c).retire = none := by
  refine ⟨_, rfl, ?_⟩
  rw [State.retireOld, hretire, List.foldl_cons, List.foldl_nil, State.setClu_clu_self]
  exact ⟨rfl, rfl⟩

theorem State.slnParity_of_search {s : State} {p : Nat} {w : Why} (h : s.cnx.search = some (p, w)) :
    s.slnParity = s.raise pgSLN 1 (portBit (s.lane (victim p)).tx) := by
  simp only [State.slnParity, h]

theorem execSlnParityError_reports {s : State} {p : Nat} {w : Why} (hsearch : s.cnx.search = some (p, w)) :
    ∃ t, exec .slnParityError s = .next t ∧ t.tst PG_ERR pgSLN 1 = true ∧ t.cnx.search = some (p, w) := by
  refine ⟨_, rfl, ?_⟩
  rw [State.slnParity_of_search hsearch]
  refine ⟨State.raise_tst _ _ (by decide) (by decide), ?_⟩
  rw [(State.raise_off (Nat.and_self _) (.refl (a := s)) ..).cnx_eq (by decide), hsearch]

end Sys2Proof.Machine

/-! PROOF. Adaptation, estimate blocks, the isolation probe and errors of the tap memory
(spec/03_feedback_cancellation.md R94, R100, R101, R103, R115). -/
namespace Sys2Proof.Machine
open Sys2Proof
set_option Elab.async false

/-! ### Loops of which at most one turn acts -/

theorem foldl_of_none {α β : Type} {f : β → α → β} {s : β} {l : List α} (h : ∀ b ∈ l, f s b = s) : l.foldl f s = s := by
  induction l with
  | nil => rfl
  | cons b l ih =>
    obtain ⟨hb, hl⟩ := List.forall_mem_cons.1 h
    rw [List.foldl_cons, hb, ih hl]

theorem foldl_of_only {α β : Type} {f : β → α → β} {s : β} {l : List α} {a : α} (hmem : a ∈ l) (hnodup : l.Nodup)
    (hbefore : ∀ b ∈ l, b ≠ a → f s b = s) (hafter : ∀ b ∈ l, b ≠ a → f (f s a) b = f s a) : l.foldl f s = f s a := by
  induction l with
  | nil => contradiction
  | cons b l ih =>
    obtain ⟨hb, hl⟩ := List.nodup_cons.1 hnodup
    rw [List.foldl_cons]
    by_cases hba : b = a
    · subst hba
      exact foldl_of_none fun c hc => hafter c (List.mem_cons_of_mem _ hc) fun hcb => hb (hcb ▸ hc)
    · rw [hbefore b List.mem_cons_self hba]
      exact ih ((List.mem_cons.1 hmem).resolve_left (Ne.symm hba)) hl
        (fun c hc => hbefore c (List.mem_cons_of_mem _ hc)) fun c hc => hafter c (List.mem_cons_of_mem _ hc)

theorem lanePaths_nodup (n : Nat) : (lanePaths n).Nodup :=
  List.pairwise_map.2 (List.nodup_range.imp fun hne h => hne (Nat.add_left_cancel h))

theorem mem_lanePaths {n p : Nat} : p ∈ lanePaths n ↔ ∃ k : Fin 4, 4 * n + k = p := by
  simp only [lanePaths, List.mem_map, List.mem_range]
  exact ⟨fun ⟨k, hk, h⟩ => ⟨⟨k, hk⟩, h⟩, fun ⟨k, h⟩ => ⟨k, k.isLt, h⟩⟩

/-! ### An update of taps (R94) -/

/-- One turn of the loop over a lane's paths at lane sample `k`. -/
def State.tapTurn (k : Nat) (s : State) (p : Nat) : State :=
  let x := s.path p
  if x.on && k % 2 ^ x.upd == 0 then
    let s := s.setPath p fun x => { x with refLow := s.refQuiet p }
    if s.frozen p then s else s.lms p k
  else s

theorem State.tapUpdate_eq (s : State) (n : Nat) :
    s.tapUpdate n 0 = (lanePaths n).foldl (State.tapTurn ((s.toSample (evTAP + n) n 1).sampleNo n))
      (s.toSample (evTAP + n) n 1) := rfl

theorem State.tapTurn_of_off {s : State} {k p : Nat} (h : (s.path p).on = false) : s.tapTurn k p = s := by
  simp only [State.tapTurn, h, Bool.false_and, Bool.false_eq_true, if_false]

/-- The state with the quiet reference of a path noted. -/
theorem State.tapTurn_of_due {s : State} {k p : Nat} (hon : (s.path p).on = true) (hdue : k % 2 ^ (s.path p).upd = 0)
    (hadapts : (s.setPath p fun x => { x with refLow := s.refQuiet p }).frozen p = false) :
    s.tapTurn k p = (s.setPath p fun x => { x with refLow := s.refQuiet p }).lms p k := by
  simp only [State.tapTurn, hon, hdue, hadapts, beq_self_eq_true, Bool.and_self, Bool.false_eq_true, if_true, if_false]

theorem State.lms_off_self (s : State) (p k : Nat) : Off F.State.lms s (s.lms p k) := State.lms_off (Nat.and_self _) .refl ..

theorem execTapUpdate_adapts {s u : State} {n : Fin 32} {k : Fin 4}
    (honly : ∀ j : Fin 4, (s.path (4 * n + j)).on = decide (j = k)) (hu : u = s.toSample (evTAP + n) n 1)
    (hdue : u.sampleNo n % 2 ^ (s.path (4 * n + k)).upd = 0)
    (hadapts : (u.setPath (4 * n + k) fun x => { x with refLow := u.refQuiet (4 * n + k) }).frozen (4 * n + k) = false) :
    ∃ t, exec (.tapUpdate n 0) s = .next t ∧ t.now = u.now ∧ (t.path (4 * n + k)).refLow = u.refQuiet (4 * n + k)
      ∧ t.mem = ((u.setPath (4 * n + k) fun x => { x with refLow := u.refQuiet (4 * n + k) }).lms (4 * n + k)
        (u.sampleNo n)).mem := by
  have hpath : ∀ p, u.path p = s.path p :=
    fun p => hu ▸ (State.toSample_off (Nat.and_self _) .refl ..).path_eq (by decide) p
  have hturn := State.tapTurn_of_due ((congrArg PathSt.on (hpath _)).trans ((honly k).trans (decide_eq_true rfl)))
    ((hpath _).symm ▸ hdue) hadapts
  have hoff : ∀ b ∈ lanePaths n, b ≠ 4 * n + k → (u.path b).on = false := fun b hb hne => by
    obtain ⟨j, rfl⟩ := mem_lanePaths.1 hb
    rw [hpath, honly]
    exact decide_eq_false fun hjk => hne (by rw [hjk])
  have hlms := (u.setPath (4 * n + k) fun x => { x with refLow := u.refQuiet (4 * n + k) }).lms_off_self (4 * n + k)
    (u.sampleNo n)
  have hloop : s.tapUpdate n 0 = u.tapTurn (u.sampleNo n) (4 * n + k) := by
    rw [State.tapUpdate_eq, ← hu]
    refine foldl_of_only (mem_lanePaths.2 ⟨k, rfl⟩) (lanePaths_nodup n) (fun b hb hne => State.tapTurn_of_off (hoff b hb hne))
      fun b hb hne => State.tapTurn_of_off ?_
    rw [hturn, hlms.path_eq (by decide), State.setPath_path, if_neg (Ne.symm hne)]
    exact hoff b hb hne
  refine ⟨_, rfl, ?_⟩
  rw [hloop, hturn]
  refine ⟨hlms.now_eq (by decide), ?_, rfl⟩
  rw [hlms.path_eq (by decide), State.setPath_path_self]

/-! ### Estimate blocks (R101, R103) -/

/-- What a new ceiling reaches beside the ceiling itself and LIMIT. -/
def F.setCeilTail : Nat := 7 <<< 155

theorem State.setCeil_reads (s : State) (n : Fin 32) (g t : Int) :
    (s.setCeil n g t).gcOf n = g ∧ (s.setCeil n g t).rd LANE_GAIN_LIMIT n = gainCode g % 2 ^ LANE_GAIN_LIMIT.w := by
  constructor
  · exact Tab.get_set_self ..
  · unfold State.setCeil
    extract_lets s1 s2
    have h : Off F.setCeilTail (s1.wr LANE_GAIN_LIMIT n (gainCode g)) (s2.wr CNX_CEIL_RISING n (decide (g < min t gMax)).toNat) :=
      .wr (.wr (.wr .refl (has_CNX_CEIL_CEIL (by decide)) ..) (has_CNX_CEIL_TARGET (by decide)) ..)
        (has_CNX_CEIL_RISING (by decide)) ..
    rw [h.rd_eq_of_avoids (by decide +kernel) n.isLt]
    exact State.rd_wr_self _ _ (Fld.has_of_lt rfl rfl n.isLt) (by decide)

theorem State.estimateBlock_of_idle {s u : State} {n : Nat} (hu : u = (s.toSample (evBLOCK + n) n 1024).outBlock n)
    (hoff : ∀ p ∈ lanePaths n, (u.path p).on = false) (hperf : u.performing = true) : s.estimateBlock n = u.ceilStep n := by
  unfold State.estimateBlock
  extract_lets s1 s2 held
  have h1 : s1 = u := hu.symm
  clear_value s1
  subst h1
  have h2 : s2 = s1 := foldl_of_none fun p hp => by rw [hoff p hp, if_neg Bool.false_ne_true]
  clear_value s2
  subst h2
  have hheld : held = false := by
    have hany : ((lanePaths n).any fun p => (s2.path p).on && (s2.freezeWord p).testBit 2) = false :=
      List.any_eq_false.2 fun p hp => by rw [hoff p hp, Bool.false_and]; exact Bool.false_ne_true
    rw [show held = (!s2.performing || _) from rfl, hperf, hany]
    rfl
  rw [if_neg (by rw [hheld]; exact Bool.false_ne_true)]

theorem State.outBlock_path (s : State) (n p : Nat) : (s.outBlock n).path p = s.path p := by
  unfold State.outBlock State.cond
  extract_lets l s1
  split <;> rfl

theorem State.performing_congr {s t : State} (hsys : t.sys = s.sys)
    (hst : t.rd SYS_STATE_DEV_STATE 0 = s.rd SYS_STATE_DEV_STATE 0) : t.performing = s.performing := by
  simp only [State.performing, State.devState, hsys, hst]

theorem State.ceilStep_reads (s : State) (n : Fin 32) :
    (s.ceilStep n).gcOf n = (if s.target n < s.gcOf n then max (s.target n) gMin
        else max gMin (min (min (s.target n) (s.gcOf n + s.riseStep n)) gMax))
      ∧ (s.ceilStep n).rd LANE_GAIN_LIMIT n = gainCode ((s.ceilStep n).gcOf n) % 2 ^ LANE_GAIN_LIMIT.w := by
  obtain ⟨hgc, hlimit⟩ := (s.setIso n).setCeil_reads n (if s.target n < s.gcOf n then max (s.target n) gMin
    else max gMin (min (min (s.target n) (s.gcOf n + s.riseStep n)) gMax)) (s.target n)
  exact ⟨hgc, hlimit.trans (congrArg (fun g => gainCode g % 2 ^ LANE_GAIN_LIMIT.w) hgc.symm)⟩

theorem execEstimateBlock_steps {s u : State} {n : Fin 32} (hoff : ∀ p ∈ lanePaths n, (s.path p).on = false)
    (hperf : s.performing = true) (hu : u = (s.toSample (evBLOCK + n) n 1024).outBlock n) :
    ∃ t, exec (.estimateBlock n) s = .next t ∧ t.now = u.now
      ∧ t.gcOf n = (if u.target n < u.gcOf n then max (u.target n) gMin
        else max gMin (min (min (u.target n) (u.gcOf n + u.riseStep n)) gMax))
      ∧ t.rd LANE_GAIN_LIMIT n = gainCode (t.gcOf n) % 2 ^ LANE_GAIN_LIMIT.w := by
  have hblock : Off (F.State.toSample ||| F.State.outBlock) s u :=
    hu ▸ State.outBlock_off (by decide) (State.toSample_off (by decide) .refl ..) ..
  have hpath : ∀ p, u.path p = s.path p := fun p => by
    rw [hu, State.outBlock_path, (State.toSample_off (Nat.and_self _) .refl ..).path_eq (by decide)]
  have hperf' := (State.performing_congr (hblock.part .sys (by decide)) (hblock.rd_eq (by decide +kernel))).trans hperf
  refine ⟨_, rfl, ?_⟩
  rw [State.estimateBlock_of_idle hu (fun p hp => (congrArg PathSt.on (hpath p)).trans (hoff p hp)) hperf']
  exact ⟨(State.ceilStep_off (Nat.and_self _) .refl ..).now_eq (by decide), u.ceilStep_reads n⟩

/-! ### The end of a probe's integration (R100) -/

/-- A lag of the coupling stands 10 dB above the noise of the correlator. -/
def CorrSt.found (c : CorrSt) : Bool := (c.lagPow c.h).any fun v => decide (10 * c.noise < v)

/-- The coupling of a finished integration; where no lag stands above the noise, that at which one would. -/
def CorrSt.coupling (c : CorrSt) : Nat := if c.found then sumNat (c.lagPow c.h) else 10 * c.noise

theorem State.probeEnd_of_full {s : State} {p : Nat} (hon : (s.path p).on = true) (hfull : 2 ^ 20 ≤ (s.path p).probe.n) :
    ∃ u : State, u.path p = { s.path p with
        hProbe := levelOf (s.path p).probe.coupling,
        xProbe := some (dBpow (max 1 (s.path p).probe.coupling)
          (max 1 (sumNat ((s.path p).probe.lagPow (s.path p).probe.r)))), probe := {} }
      ∧ Off F.State.int ((u.wr CNX_PATH_STAT_FLOOR p (!(s.path p).probe.found).toNat).wr CNX_PATH_STAT_ISO_VALID p 1)
        (s.probeEnd p) := by
  unfold State.probeEnd
  extract_lets x c all hs found h r s1 s2
  have hgo : (!x.on || decide (c.n < 2 ^ 20)) = false := by
    rw [show x.on = true from hon, decide_eq_false (Nat.not_lt.2 hfull)]
    rfl
  rw [if_neg (by rw [hgo]; exact Bool.false_ne_true)]
  exact ⟨s1, State.setPath_path_self .., State.cond_off .refl (fun _ h => State.int_off (Nat.and_self _) h ..) _⟩

theorem execProbeIntegrationEnd_measures {s : State} {p : Fin 128} (hon : (s.path p).on = true)
    (hfull : 2 ^ 20 ≤ (s.path p).probe.n) :
    ∃ t, exec (.probeIntegrationEnd p) s = .next t
      ∧ (∀ h, h = (s.path p).probe.coupling → (t.path p).hProbe = levelOf h
        ∧ (t.path p).xProbe = some (dBpow (max 1 h) (max 1 (sumNat ((s.path p).probe.lagPow (s.path p).probe.r)))))
      ∧ (t.path p).probe = {} ∧ t.rd CNX_PATH_STAT_ISO_VALID p = 1
      ∧ t.rd CNX_PATH_STAT_FLOOR p = (!(s.path p).probe.found).toNat := by
  obtain ⟨u, hu, h⟩ := State.probeEnd_of_full hon hfull
  refine ⟨_, rfl, ?_⟩
  rw [h.path_eq (by decide), State.wr_path, State.wr_path, hu]
  refine ⟨fun _ hc => hc ▸ ⟨rfl, rfl⟩, rfl, ?_, ?_⟩
  · rw [h.rd_eq_of_avoids (by decide +kernel) p.isLt]
    exact State.rd_wr_self _ _ (Fld.has_of_lt rfl rfl p.isLt) (by decide)
  · rw [h.rd_eq_of_avoids (by decide +kernel) p.isLt]
    exact (State.rd_wr_ne _ _ (Fld.key_ne (by decide) (by decide) p)).trans
      ((State.rd_wr_self _ _ (Fld.has_of_lt rfl rfl p.isLt) (by decide)).trans (Nat.mod_eq_of_lt (Bool.toNat_lt _)))

/-! ### Uncorrectable errors of the tap memory (R115) -/

theorem State.tapUncorr_tst (s : State) (c : Nat) : (s.tapUncorr c).tst PG_ERR pgCNX 1 = true := by
  unfold State.tapUncorr
  extract_lets cl z
  split <;> exact State.raise_tst _ _ (by decide) (by decide)

theorem execTapMemoryUncorr_zeroes {s : State} {k : Fin 2048} (hcanon : MemoryCanonical s) :
    ∃ t, exec (.tapMemoryUncorr k) s = .next t ∧ t.tst PG_ERR pgCNX 1 = true ∧ ∀ j < 32, t.tap (32 * k + j) = (0, 0) := by
  refine ⟨_, rfl, s.tapUncorr_tst k, fun j hj => ?_⟩
  rw [(s.tapUncorr_off_zeroed k).tap_eq (by decide), State.zeroCluster_eq]
  exact State.zeroTaps_tap k.isLt (Nat.le_refl _) hj hcanon

/-- Settles O25: a search, an estimate block and a probe's integration end with the values of their clauses, and what follows
reaches none of them; of a lane's four paths an update of taps acts on the one that is on. -/
theorem sightlineAndAdaptationComplete : Obligations.SightlineAndAdaptationComplete :=
  ⟨fun _ _ => execSearchGo_queues, fun _ _ _ _ => execSearchStart_starts, fun _ _ _ => execSearchComplete_counts,
   fun _ _ _ => execOldClusterRetire_spares, fun _ _ _ => execSlnParityError_reports,
   fun _ _ _ _ honly hu hdue hadapts => execTapUpdate_adapts honly hu hdue hadapts,
   fun _ _ _ hoff hperf hu => execEstimateBlock_steps hoff hperf hu,
   fun _ _ => execProbeIntegrationEnd_measures, fun _ _ => execTapMemoryUncorr_zeroes⟩

end Sys2Proof.Machine

/-! PROOF. Transmit streams are reserved, answered and disabled (spec/03_feedback_cancellation.md R109, R113). -/
namespace Sys2Proof.Machine
open Sys2Proof
set_option Elab.async false

theorem State.wr_stx (s : State) (f : Fld) (i v k : Nat) : (s.wr f i v).stx k = s.stx k := rfl

theorem State.setStx_stx_self (s : State) (k : Nat) (g : StxSt → StxSt) : (s.setStx k g).stx k = g (s.stx k) :=
  Tab.get_set_self ..

/-- The fields of the configuration of a transmit stream. -/
def F.stxFlds : Nat := 1 <<< 101 ||| 3 <<< 203 ||| 1 <<< 232 ||| 1 <<< 316

theorem State.wrWord_stxFlds_off (s : State) (k : Nat) (v : Word) : Off F.stxFlds s (s.wrWord stxFlds k v) :=
  State.wrWord_off .refl (.cons (has_CNX_STX_CFG_EN (by decide)) (.cons (has_CNX_STX_CFG_DIR (by decide))
    (.cons (has_CNX_STX_CFG_HOPS (by decide)) (.cons (has_CNX_STX_CFG_SHIFT (by decide))
      (.cons (has_CNX_STX_CFG_LANE (by decide)) .nil))))) ..

theorem State.rd_wrWord_stxFlds {f : Fld} (s : State) (k : Fin 8) (v : Word) (hmem : f ∈ stxFlds)
    (hf : f.per = 8 ∧ f.n = 8 ∧ f.runs = 1 ∧ f.w ≤ 32) : (s.wrWord stxFlds k v).rd f k = f.of v := by
  have hdistinct : ∀ k < 8, stxFlds.Pairwise (·.key k ≠ ·.key k) := by decide
  obtain ⟨hper, hn, hruns, hw⟩ := hf
  exact s.rd_wrWord_self hmem (hdistinct k k.isLt) (Fld.has_of_lt (hper.trans hn.symm) hruns (by omega)) hw

/-! ### A reservation begins (R109) -/

theorem State.streamRoute_congr {s t : State} (hring : t.ring = s.ring) (hsize : t.rd RING_STAT_SIZE 0 = s.rd RING_STAT_SIZE 0)
    (hpos : t.rd RING_STAT_POS 0 = s.rd RING_STAT_POS 0) (dir hops : Nat) : t.streamRoute dir hops = s.streamRoute dir hops := by
  simp only [State.streamRoute, State.streamArcs, hring, hsize, hpos]

/-- A write that enables a stream whose lane transmits, and whose route stands, asks for its rate. -/
theorem State.writeStx_asks {s : State} {k : Nat} {v : Word} (hen : CNX_STX_CFG_EN.of v = 1) (hwas : s.rd CNX_STX_CFG_EN k = 0)
    (hlane : s.rd LANE_STAT_ACTIVE (CNX_STX_CFG_LANE.of v) ≠ 0) (htx : (s.lane (CNX_STX_CFG_LANE.of v)).txEn = true)
    (hshift : CNX_STX_CFG_SHIFT.of v ≠ 7) (hroute : s.streamRoute (CNX_STX_CFG_DIR.of v) (CNX_STX_CFG_HOPS.of v) = true) :
    s.writeStx k v = (s.wrWord stxFlds k v).streamAsk k v := by
  have h := s.wrWord_stxFlds_off k v
  have hwas' : s.on CNX_STX_CFG_EN k = false := by rw [State.on, hwas]; rfl
  have hactive : (s.wrWord stxFlds k v).on LANE_STAT_ACTIVE (CNX_STX_CFG_LANE.of v) = true := by
    have hn : CNX_STX_CFG_LANE.of v < LANE_STAT_ACTIVE.n := Nat.mod_lt _ (by decide)
    rw [State.on, h.rd_eq_of_avoids (by decide +kernel) hn]
    exact bne_iff_ne.2 hlane
  have htx' : ((s.wrWord stxFlds k v).lane (CNX_STX_CFG_LANE.of v)).txEn = true := by rw [h.lane_eq (by decide), htx]
  have hroute' : (s.wrWord stxFlds k v).streamRoute (CNX_STX_CFG_DIR.of v) (CNX_STX_CFG_HOPS.of v) = true := by
    rw [State.streamRoute_congr (h.part .ring (by decide)) (h.rd_eq (by decide +kernel)) (h.rd_eq (by decide +kernel)), hroute]
  simp only [State.writeStx, hen, hwas', hactive, htx', hshift, hroute', Bool.and_self, Bool.not_true, Bool.false_eq_true,
    or_self, if_true, if_false]

theorem State.streamAsk_off_reserved {s : State} {k : Nat} {v : Word}
    (hfits : s.arcFits ⟨dirPort (CNX_STX_CFG_DIR.of v), s.devId, k, (s.lane (CNX_STX_CFG_LANE.of v)).rate⟩ = true) :
    ∃ x : Resv, Off F.State.sendRel ((s.reserve x).setStx k fun _ => { pending := true, cfg := v }) (s.streamAsk k v) := by
  refine ⟨⟨dirPort (CNX_STX_CFG_DIR.of v), s.devId, k, (s.lane (CNX_STX_CFG_LANE.of v)).rate⟩, ?_⟩
  rw [State.streamAsk, if_neg (by rw [hfits]; decide)]
  exact State.cond_off .refl (fun _ h => State.sendRel_off (Nat.and_self _) h ..) _

theorem execStreamEnable_asks {s : State} {k : Fin 8} {v : Word} (hdef : s.sys.deferred = [])
    (hwas : s.rd CNX_STX_CFG_EN k = 0) (hlane : s.rd LANE_STAT_ACTIVE (CNX_STX_CFG_LANE.of v) ≠ 0)
    (htx : (s.lane (CNX_STX_CFG_LANE.of v)).txEn = true) (hshift : CNX_STX_CFG_SHIFT.of v ≠ 7)
    (hroute : s.streamRoute (CNX_STX_CFG_DIR.of v) (CNX_STX_CFG_HOPS.of v) = true)
    (hfits : s.arcFits ⟨dirPort (CNX_STX_CFG_DIR.of v), s.devId, k, (s.lane (CNX_STX_CFG_LANE.of v)).rate⟩ = true) :
    ∃ t, exec (.streamEnable k v) s = .next t ∧ (t.stx k).pending = true ∧ t.rd CNX_STX_CFG_EN k = 1
      ∧ t.rd CNX_STX_CFG_LANE k = CNX_STX_CFG_LANE.of v := by
  obtain ⟨w, hw⟩ : ∃ w, w = v ||| 0x80000000#32 := ⟨_, rfl⟩
  have hen : CNX_STX_CFG_EN.of w = 1 := hw ▸ Fld.of_or_set v rfl (by decide)
  have hkeep : ∀ f : Fld, f.of 0x80000000#32 = 0 → f.of w = f.of v := fun f hf => hw ▸ Fld.of_or_of_zero v hf
  have hL := hkeep CNX_STX_CFG_LANE (by decide)
  have hD := hkeep CNX_STX_CFG_DIR (by decide)
  have hoff := s.wrWord_stxFlds_off k w
  have hfits' : (s.wrWord stxFlds k w).arcFits ⟨dirPort (CNX_STX_CFG_DIR.of w), (s.wrWord stxFlds k w).devId, k,
      ((s.wrWord stxFlds k w).lane (CNX_STX_CFG_LANE.of w)).rate⟩ = true := by
    rw [State.devId, hoff.rd_eq (by decide +kernel), hoff.lane_eq (by decide), hL, hD]
    exact hfits
  obtain ⟨x, hask⟩ := State.streamAsk_off_reserved hfits'
  refine ⟨_, rfl, ?_⟩
  rw [State.byHost_of_none hdef, ← hw, State.writeStx_asks hen hwas (by rwa [hL]) (by rwa [hL])
    (by rwa [hkeep CNX_STX_CFG_SHIFT (by decide)]) (by rwa [hD, hkeep CNX_STX_CFG_HOPS (by decide)])]
  refine ⟨?_, ?_, ?_⟩
  · rw [hask.stx_eq (by decide), State.setStx_stx_self]
  · exact (hask.rd_eq_of_avoids (by decide +kernel) k.isLt).trans
      ((s.rd_wrWord_stxFlds k w (.head _) (by decide)).trans hen)
  · exact (hask.rd_eq_of_avoids (by decide +kernel) k.isLt).trans
      ((s.rd_wrWord_stxFlds k w (by simp [stxFlds]) (by decide)).trans hL)

/-! ### The result of a reservation (R109) -/

theorem execStreamReservationResult_grants {s : State} {k : Fin 8} {arc : Fin 4} (hpend : (s.stx k).pending = true) :
    ∃ t, exec (.streamReservationResult k true arc) s = .next t ∧ t.rd CNX_STX_STAT_ACTIVE k = 1
      ∧ t.rd CNX_STX_STAT_ERR k = 0 ∧ (t.stx k).pending = false := by
  have hgrant : s.streamResult k true arc
      = ((s.setStx k fun x => { x with pending := false }).wr CNX_STX_STAT_ACTIVE k 1).wr CNX_STX_STAT_ERR k 0 := by
    simp only [State.streamResult, hpend, Bool.not_true, Bool.true_or, Bool.false_eq_true, if_true, if_false]
  refine ⟨_, rfl, ?_⟩
  rw [hgrant]
  refine ⟨?_, State.rd_wr_self _ _ (Fld.has_of_lt rfl rfl k.isLt) (by decide), ?_⟩
  · rw [State.rd_wr_ne _ _ (Fld.key_ne (by decide) (by decide) k)]
    exact State.rd_wr_self _ _ (Fld.has_of_lt rfl rfl k.isLt) (by decide)
  · rw [State.wr_stx, State.wr_stx, State.setStx_stx_self]

theorem execStreamReservationResult_refuses {s : State} {k : Fin 8} {arc : Fin 4} (hpend : (s.stx k).pending = true)
    (hhops : CNX_STX_CFG_HOPS.of (s.stx k).cfg ≠ 1) :
    ∃ t, exec (.streamReservationResult k false arc) s = .next t ∧ t.rd CNX_STX_CFG_EN k = 0 ∧ t.rd CNX_STX_STAT_ERR k = 3
      ∧ t.rd CNX_STX_STAT_ARC k = arc := by
  have hrefuse : s.streamResult k false arc = s.streamRefuse k arc := by
    simp only [State.streamResult, hpend, beq_false_of_ne hhops, Bool.not_true, Bool.or_self, Bool.false_eq_true, if_false]
  have h : ∃ u : State, Off F.State.refuse
      (((u.wr CNX_STX_CFG_EN k 0).wr CNX_STX_STAT_ERR k 3).wr CNX_STX_STAT_ARC k arc) (s.streamRefuse k arc) :=
    ⟨(s.unreserve s.devId k).setStx k fun x => { x with pending := false }, State.refuse_off (Nat.and_self _) .refl ..⟩
  obtain ⟨u, h⟩ := h
  refine ⟨_, rfl, ?_⟩
  rw [hrefuse]
  refine ⟨?_, ?_, ?_⟩ <;> rw [h.rd_eq_of_avoids (by decide +kernel) k.isLt]
  · rw [State.rd_wr_ne _ _ (Fld.key_ne (by decide) (by decide) k), State.rd_wr_ne _ _ (Fld.key_ne (by decide) (by decide) k)]
    exact State.rd_wr_self _ _ (Fld.has_of_lt rfl rfl k.isLt) (by decide)
  · rw [State.rd_wr_ne _ _ (Fld.key_ne (by decide) (by decide) k)]
    exact State.rd_wr_self _ _ (Fld.has_of_lt rfl rfl k.isLt) (by decide)
  · exact (State.rd_wr_self _ _ (Fld.has_of_lt rfl rfl k.isLt) (by decide)).trans (Nat.mod_eq_of_lt arc.isLt)

/-! ### A stream stops (R113) -/

theorem State.stopStream_reads (s : State) (k : Fin 8) :
    (s.stopStream k).rd CNX_STX_STAT_ACTIVE k = 0 ∧ ((s.stopStream k).stx k).pending = false := by
  obtain ⟨u, hu⟩ : ∃ u : State, s.stopStream k = (u.setStx k fun _ => {}).wr CNX_STX_STAT_ACTIVE k 0 := by
    unfold State.stopStream
    extract_lets c
    exact ⟨_, rfl⟩
  rw [hu]
  exact ⟨State.rd_wr_self _ _ (Fld.has_of_lt rfl rfl k.isLt) (by decide), by rw [State.wr_stx, State.setStx_stx_self]⟩

theorem execStreamDisable_stops {s : State} {k : Fin 8} {v : Word} (hdef : s.sys.deferred = []) :
    ∃ t, exec (.streamDisable k v) s = .next t ∧ t.rd CNX_STX_STAT_ACTIVE k = 0 ∧ (t.stx k).pending = false
      ∧ t.rd CNX_STX_CFG_EN k = 0 := by
  have hen : CNX_STX_CFG_EN.of (v &&& 0x7FFFFFFF#32) = 0 := Fld.of_and_of_zero v (by decide)
  have hstop : s.writeStx k (v &&& 0x7FFFFFFF#32) = (s.wrWord stxFlds k (v &&& 0x7FFFFFFF#32)).stopStream k := by
    simp only [State.writeStx, hen, Nat.zero_ne_one, if_false]
  obtain ⟨hactive, hpend⟩ := (s.wrWord stxFlds k (v &&& 0x7FFFFFFF#32)).stopStream_reads k
  refine ⟨_, rfl, ?_⟩
  rw [State.byHost_of_none hdef, hstop]
  exact ⟨hactive, hpend, ((State.stopStream_off (Nat.and_self _) .refl _).rd_eq_of_avoids (by decide +kernel) k.isLt).trans
    ((s.rd_wrWord_stxFlds k _ (.head _) (by decide)).trans hen)⟩

end Sys2Proof.Machine

/-! PROOF. Receive streams: a slot is enabled, takes frames, is lost and comes back
(spec/03_feedback_cancellation.md R107, R108, R111). -/
namespace Sys2Proof.Machine
open Sys2Proof
set_option Elab.async false

theorem State.setSrx_srx_self (s : State) (k : Nat) (g : SrxSt → SrxSt) : (s.setSrx k g).srx k = g (s.srx k) :=
  Tab.get_set_self ..

/-! ### A slot is enabled (R108) -/

theorem execStreamRxEnable_writes {s : State} {k : Fin 8} {v : Word} (hdef : s.sys.deferred = []) :
    ∃ t, exec (.streamRxEnable k v) s = .next t ∧ t.rd CNX_SRX_CFG_EN k = 1
      ∧ t.rd CNX_SRX_CFG_SRC_SLOT k = CNX_SRX_CFG_SRC_SLOT.of (v ||| 0x80000000#32)
      ∧ t.rd CNX_SRX_CFG_SRC_DEV k = CNX_SRX_CFG_SRC_DEV.of (v ||| 0x80000000#32) := by
  have hen : CNX_SRX_CFG_EN.of (v ||| 0x80000000#32) = 1 := Fld.of_or_set v rfl (by decide)
  have hdistinct : ∀ k < 8, srxFlds.Pairwise (·.key k ≠ ·.key k) := by decide
  have hword : s.writeSrx k (v ||| 0x80000000#32) = s.wrWord srxFlds k (v ||| 0x80000000#32) := by
    simp only [State.writeSrx, hen, if_true]
  refine ⟨_, rfl, ?_⟩
  rw [State.byHost_of_none hdef, hword]
  exact ⟨(s.rd_wrWord_self (.head _) (hdistinct k k.isLt) (Fld.has_of_lt rfl rfl k.isLt) (by decide)).trans hen,
    s.rd_wrWord_self (.tail _ (.tail _ (.head _))) (hdistinct k k.isLt) (Fld.has_of_lt rfl rfl k.isLt) (by decide),
    s.rd_wrWord_self (.tail _ (.head _)) (hdistinct k k.isLt) (Fld.has_of_lt rfl rfl k.isLt) (by decide)⟩

/-! ### A frame arrives (R107) -/

/-- The receive slot is enabled and names the sender of the frame. -/
def State.names (s : State) (f : StreamFrame) (k : Nat) : Bool :=
  s.on CNX_SRX_CFG_EN k && s.rd CNX_SRX_CFG_SRC_DEV k == f.dev && s.rd CNX_SRX_CFG_SRC_SLOT k == f.slot

theorem State.names_iff {s : State} {f : StreamFrame} {k : Nat} : s.names f k = true ↔
    s.rd CNX_SRX_CFG_EN k ≠ 0 ∧ s.rd CNX_SRX_CFG_SRC_DEV k = f.dev ∧ s.rd CNX_SRX_CFG_SRC_SLOT k = f.slot := by
  simp only [State.names, State.on, Bool.and_eq_true, bne_iff_ne, beq_iff_eq, and_assoc]

/-- The slot takes the frame: its words and their probes, newest first, enter the slot's lines. -/
def State.slotTake (f : StreamFrame) (ws ps : List Iq) (s : State) (k : Nat) : State :=
  let s := s.setSrx k fun x =>
    { x with lastFrame := some s.now, refNo := f.no, seed := f.seed, level := f.level, chf := f.chf, rate := f.rate,
             ref := (ws ++ x.ref).take 4096, probes := (ps ++ x.probes).take 4096 }
  let s := (s.wr CNX_SRX_STAT_LAT k f.lat).wr CNX_SRX_STAT_CURTAIN k f.curtain.toNat
  s.cond (!s.on CNX_SRX_STAT_LOST k) fun s => s.wr CNX_SRX_STAT_ACTIVE k 1

theorem State.streamTake_eq (s : State) (f : StreamFrame) :
    ∃ ws ps : List Iq, s.streamTake f
      = (List.range 8).foldl (fun s k => if s.names f k then s.slotTake f ws ps k else s) s := by
  unfold State.streamTake
  extract_lets ws ps
  exact ⟨ws, ps, by unfold State.names State.slotTake; rfl⟩

/-- What a slot reaches once a frame's words and its Curtain are in. -/
def F.slotTakeTail : Nat := 1 <<< 212

theorem State.slotTake_off_entered (s : State) (f : StreamFrame) (ws ps : List Iq) (k : Nat) :
    ∃ u : State, ((u.srx k).lastFrame = some s.now ∧ (u.srx k).seed = f.seed ∧ (u.srx k).level = f.level)
      ∧ Off F.slotTakeTail (u.wr CNX_SRX_STAT_CURTAIN k f.curtain.toNat) (s.slotTake f ws ps k) := by
  unfold State.slotTake
  extract_lets s1 s2
  have h1 : s1.srx k = _ := State.setSrx_srx_self ..
  refine ⟨s1.wr CNX_SRX_STAT_LAT k f.lat, ?_, State.cond_off .refl (fun _ h => .wr h (has_CNX_SRX_STAT_ACTIVE (by decide)) ..) _⟩
  rw [show (s1.wr CNX_SRX_STAT_LAT k f.lat).srx k = s1.srx k from rfl, h1]
  exact ⟨rfl, rfl, rfl⟩

theorem State.slotTake_off (s : State) (f : StreamFrame) (ws ps : List Iq) (k : Nat) :
    Off F.State.streamTake s (s.slotTake f ws ps k) :=
  State.cond_off (.wr (.wr (State.setSrx_off (by decide) .refl ..) (has_CNX_SRX_STAT_LAT (by decide)) ..)
    (has_CNX_SRX_STAT_CURTAIN (by decide)) ..) (fun _ h => .wr h (has_CNX_SRX_STAT_ACTIVE (by decide)) ..) _

theorem State.slotTake_names (s : State) (f : StreamFrame) (ws ps : List Iq) (k : Nat) {j : Nat} (hj : j < 8) :
    (s.slotTake f ws ps k).names f j = s.names f j := by
  have h := s.slotTake_off f ws ps k
  simp only [State.names, State.on, h.rd_eq_of_avoids (f := CNX_SRX_CFG_EN) (by decide +kernel) hj,
    h.rd_eq_of_avoids (f := CNX_SRX_CFG_SRC_DEV) (by decide +kernel) hj,
    h.rd_eq_of_avoids (f := CNX_SRX_CFG_SRC_SLOT) (by decide +kernel) hj]

theorem State.streamTake_of_only {s : State} {f : StreamFrame} {k : Fin 8} (honly : ∀ j : Fin 8, s.names f j = true ↔ j = k) :
    ∃ ws ps : List Iq, s.streamTake f = s.slotTake f ws ps k := by
  obtain ⟨ws, ps, h⟩ := s.streamTake_eq f
  have hskip : ∀ j ∈ List.range 8, j ≠ k → s.names f j = false := fun j hj hne =>
    Bool.eq_false_iff.2 fun hn => hne (congrArg Fin.val ((honly ⟨j, List.mem_range.1 hj⟩).1 hn))
  have hturn : (if s.names f k then s.slotTake f ws ps k else s) = s.slotTake f ws ps k := if_pos ((honly k).2 rfl)
  refine ⟨ws, ps, ?_⟩
  rw [h, ← hturn]
  refine foldl_of_only (List.mem_range.2 k.isLt) List.nodup_range (fun j hj hne => ?_) fun j hj hne => ?_
  · rw [hskip j hj hne, if_neg Bool.false_ne_true]
  · rw [hturn, State.slotTake_names s f ws ps k (List.mem_range.1 hj), hskip j hj hne, if_neg Bool.false_ne_true]

theorem execStreamFrameReceived_takes {s : State} {f : StreamFrame} {k : Fin 8}
    (honly : ∀ j : Fin 8, (s.rd CNX_SRX_CFG_EN j ≠ 0 ∧ s.rd CNX_SRX_CFG_SRC_DEV j = f.dev
      ∧ s.rd CNX_SRX_CFG_SRC_SLOT j = f.slot) ↔ j = k) (hhops : f.hops = 0) :
    ∃ t, exec (.streamFrameReceived f) s = .next t ∧ (t.srx k).lastFrame = some s.now ∧ (t.srx k).seed = f.seed
      ∧ (t.srx k).level = f.level ∧ t.rd CNX_SRX_STAT_CURTAIN k = f.curtain.toNat := by
  obtain ⟨ws, ps, htake⟩ := State.streamTake_of_only (s := s.took f.port.toNat 1)
    fun j => State.names_iff.trans (honly j)
  obtain ⟨u, hu, h⟩ := (s.took f.port.toNat 1).slotTake_off_entered f ws ps k
  refine ⟨_, rfl, ?_⟩
  rw [State.streamFrame, if_pos hhops, htake, h.srx_eq (by decide), h.rd_eq_of_avoids (by decide +kernel) k.isLt]
  obtain ⟨hlast, hseed, hlevel⟩ := hu
  exact ⟨hlast, hseed, hlevel, (State.rd_wr_self _ _ (Fld.has_of_lt rfl rfl k.isLt) (by decide)).trans
    (Nat.mod_eq_of_lt (Bool.toNat_lt _))⟩

/-! ### A stream is lost (R111) -/

theorem State.raiseInt_tst (s : State) (is : List (Nat × Nat)) {page b : Nat} (ports : Ports)
    (hmiss : maskMisses (F.State.setInts ||| F.State.deliver) (PG_ERR.key page) = true) (hpage : PG_ERR.has page = true)
    (hb : b < PG_ERR.w) : (s.raiseInt is page b ports).tst PG_ERR page b = true := by
  have h : Off (F.State.setInts ||| F.State.deliver) (s.orBits PG_ERR page (2 ^ b)) (s.raiseInt is page b ports) := by
    unfold State.raiseInt
    extract_lets t
    split
    · exact State.setInts_off (by decide) .refl ..
    · exact .ite (State.setInts_off (by decide) .refl ..) (State.deliver_off (by decide) .refl ..)
  rw [State.tst, h.rd_eq hmiss]
  exact (State.tst_orBits_self _ hpage (by decide) hb).trans (by rw [Nat.testBit_two_pow_self, Bool.or_true])

theorem State.stand_getLsbD (s : State) (n : Nat) {c : Nat} (hc : c < 32) :
    ((s.stand n c).fcSrc n).stand.getLsbD c = true := by
  rw [State.stand, State.setFcSrc_fcSrc_self, BitVec.getLsbD_or, BitVec.getLsbD_ofNat, Nat.testBit_two_pow_self,
    decide_eq_true hc, Bool.and_true, Bool.or_true]

/-- What the loss of a stream reaches once its status is written. -/
def F.streamLostTail : Nat :=
  1 <<< 652 ||| F.State.setCnx ||| F.State.setEst ||| F.State.ceilFall ||| F.State.raiseInt ||| F.State.stand

/-- The status is written at the instant of the loss; its cause, and the report of it, come last. -/
theorem State.streamLost_of_due {s : State} {k a : Nat} (hlast : (s.srx k).lastFrame = some a)
    (hen : s.rd CNX_SRX_CFG_EN k ≠ 0) (hlost : s.rd CNX_SRX_STAT_LOST k = 0) :
    Off F.streamLostTail (((s.reach (a + usT 2)).wr CNX_SRX_STAT_LOST k 1).wr CNX_SRX_STAT_ACTIVE k 0) (s.streamLost k)
      ∧ ∃ (u : State) (ports : Ports), s.streamLost k = (u.raiseInt [(pgCNX, 3)] pgCNX 3 ports).stand 29 3 := by
  have hm := Nat.and_self F.streamLostTail
  have hgo : (!s.on CNX_SRX_CFG_EN k || s.on CNX_SRX_STAT_LOST k) = false := by simp [State.on, hen, hlost]
  generalize hr : s.streamLost k = r
  unfold State.streamLost at hr
  split at hr
  case h_1 hnone => exact nomatch hnone.symm.trans hlast
  case h_2 b hsome =>
    obtain rfl : b = a := Option.some.inj (hsome.symm.trans hlast)
    rw [if_neg (by rw [hgo]; exact Bool.false_ne_true)] at hr
    subst hr
    extract_lets s1 s2 ps s3 s4 ports
    have h2 : Off F.streamLostTail ((s1.wr CNX_SRX_STAT_LOST k 1).wr CNX_SRX_STAT_ACTIVE k 0) s2 :=
      State.dropRemote_off (sb hm (by decide)) (State.satInc_off .refl (has_CNX_SRX_LOST_CNT (by decide)) ..) ..
    have h3 : Off F.streamLostTail _ s3 := .foldl h2
      (fun _ h _ => State.setEst_off (sb hm (by decide)) (State.setPath_off (sb hm (by decide)) h ..) ..) _
    have h4 : Off F.streamLostTail _ s4 := .foldl h3 (fun _ h _ => State.ceilFall_off (sb hm (by decide)) h ..) _
    exact ⟨State.stand_off (sb hm (by decide)) (State.raiseInt_off (sb hm (by decide)) h4 ..) .., s4, ports, rfl⟩

theorem execStreamLost_reports {s : State} {k : Fin 8} {a : Nat} (hlast : (s.srx k).lastFrame = some a)
    (hen : s.rd CNX_SRX_CFG_EN k ≠ 0) (hlost : s.rd CNX_SRX_STAT_LOST k = 0) :
    ∃ t, exec (.streamLost k) s = .next t ∧ t.rd CNX_SRX_STAT_LOST k = 1 ∧ t.rd CNX_SRX_STAT_ACTIVE k = 0
      ∧ t.now = max s.now (a + usT 2) ∧ t.tst PG_ERR pgCNX 3 = true ∧ (t.fcSrc 29).stand.getLsbD 3 = true := by
  obtain ⟨h, u, ports, hend⟩ := State.streamLost_of_due hlast hen hlost
  refine ⟨_, rfl, ?_, ?_, ?_, ?_, ?_⟩
  · rw [h.rd_eq_of_avoids (by decide +kernel) k.isLt, State.rd_wr_ne _ _ (Fld.key_ne (by decide) (by decide) k)]
    exact State.rd_wr_self _ _ (Fld.has_of_lt rfl rfl k.isLt) (by decide)
  · rw [h.rd_eq_of_avoids (by decide +kernel) k.isLt]
    exact State.rd_wr_self _ _ (Fld.has_of_lt rfl rfl k.isLt) (by decide)
  · exact (h.now_eq (by decide)).trans (State.reach_now ..)
  · rw [hend]
    exact u.raiseInt_tst _ _ (by decide +kernel) (by decide) (by decide)
  · rw [hend]
    exact State.stand_getLsbD _ _ (by decide)

/-! ### Frames return (R111) -/

/-- The state of a slot whose frames have returned, before what stands of source 29 is looked at. -/
def State.slotBack (s : State) (k : Nat) : State :=
  (((s.wr CNX_SRX_STAT_LOST k 0).wr CNX_SRX_STAT_ACTIVE k 1).int pgCNX 4).setSrx k fun x => { x with lastFrame := some s.now }

theorem State.streamBack_off_slot {s : State} {k : Nat} (hlost : s.rd CNX_SRX_STAT_LOST k ≠ 0) :
    Off F.State.unstand (s.slotBack k) (s.streamBack k) := by
  have hon : s.on CNX_SRX_STAT_LOST k = true := bne_iff_ne.2 hlost
  unfold State.streamBack
  extract_lets s1 s2
  rw [if_neg (by rw [hon]; decide)]
  exact .ite .refl (State.unstand_off (Nat.and_self _) .refl ..)

theorem execStreamRestored_recovers {s : State} {k : Fin 8} (hlost : s.rd CNX_SRX_STAT_LOST k ≠ 0) :
    ∃ t, exec (.streamRestored k) s = .next t ∧ t.rd CNX_SRX_STAT_LOST k = 0 ∧ t.rd CNX_SRX_STAT_ACTIVE k = 1
      ∧ (t.srx k).lastFrame = some s.now ∧ t.tst PG_INT_STAT pgCNX 4 = true := by
  have h := State.streamBack_off_slot hlost
  have hslot : Off (F.State.int ||| F.State.setSrx) ((s.wr CNX_SRX_STAT_LOST k 0).wr CNX_SRX_STAT_ACTIVE k 1) (s.slotBack k) :=
    State.setSrx_off (by decide) (State.int_off (by decide) .refl ..) ..
  refine ⟨_, rfl, ?_, ?_, ?_, ?_⟩
  · rw [h.rd_eq_of_avoids (by decide +kernel) k.isLt, hslot.rd_eq_of_avoids (by decide +kernel) k.isLt,
      State.rd_wr_ne _ _ (Fld.key_ne (by decide) (by decide) k)]
    exact State.rd_wr_self _ _ (Fld.has_of_lt rfl rfl k.isLt) (by decide)
  · rw [h.rd_eq_of_avoids (by decide +kernel) k.isLt, hslot.rd_eq_of_avoids (by decide +kernel) k.isLt]
    exact State.rd_wr_self _ _ (Fld.has_of_lt rfl rfl k.isLt) (by decide)
  · rw [h.srx_eq (by decide), State.slotBack, State.setSrx_srx_self]
  · rw [State.tst, h.rd_eq (by decide +kernel)]
    exact State.int_tst _ (by decide) (by decide)

/-- Settles O26: each command writes the status and the slot that its clause names, and what follows reaches none of them; a
frame enters the one slot that names its sender. -/
theorem streamCommandsComplete : Obligations.StreamCommandsComplete :=
  ⟨fun _ _ _ => execStreamEnable_asks,
   fun _ _ _ hpend => ⟨execStreamReservationResult_grants hpend, execStreamReservationResult_refuses hpend⟩,
   fun _ _ _ => execStreamDisable_stops, fun _ _ _ => execStreamRxEnable_writes, fun _ _ _ => execStreamFrameReceived_takes,
   fun _ _ _ => execStreamLost_reports, fun _ _ => execStreamRestored_recovers⟩

end Sys2Proof.Machine

/-! PROOF. Fields of the two pages of spotlight and measurement, and lanes that are armed and disarmed
(spec/04_spotlight_and_measurement.md R122, R123, R141). -/
namespace Sys2Proof.Machine
open Sys2Proof
set_option Elab.async false

/-! ### The two pages (R141) -/

/-- The field has a place for each of the 16 lanes of a page. -/
def Fld.byLane (f : Fld) (w : Nat) : Bool := f.n == 16 && f.per == 16 && f.runs == 1 && f.w == w && decide (w ≤ 32)

/-- A field of a lane's page is that of the one page or that of the other. -/
theorem pageF_eq (n : Nat) (f g : Fld) : pageF n f g = f ∨ pageF n f g = g := by
  unfold pageF
  split
  · exact .inr rfl
  · exact .inl rfl

section
variable {f g : Fld} {w n : Nat}

theorem State.sptRd_sptWr_self (s : State) (v : Nat) (hf : f.byLane w = true) (hg : g.byLane w = true) :
    (s.sptWr f g n v).sptRd f g n = v % 2 ^ w := by
  have h : (pageF n f g).byLane w = true := by rcases pageF_eq n f g with e | e <;> rw [e] <;> assumption
  simp only [Fld.byLane, Bool.and_eq_true, beq_iff_eq, decide_eq_true_eq] at h
  obtain ⟨⟨⟨⟨hn, hper⟩, hruns⟩, hw⟩, hle⟩ := h
  rw [State.sptRd, State.sptWr,
    State.rd_wr_self _ _ (Fld.has_of_lt (hper.trans hn.symm) hruns (by omega)) (by omega), hw]

theorem State.sptRd_sptWr_ne {f' g' : Fld} (s : State) (v : Nat) (hf : f'.apart f = true) (hg : g'.apart g = true) :
    (s.sptWr f' g' n v).sptRd f g n = s.sptRd f g n := by
  refine State.rd_wr_ne _ _ (Fld.key_ne_of_apart ?_ _)
  unfold pageF
  split <;> assumption

theorem Off.sptRd_eq {m : Nat} {a s : State} (h : Off m a s) (hf : maskAvoids m f = true) (hg : maskAvoids m g = true)
    (hn : f.n = 16 ∧ g.n = 16) : s.sptRd f g n = a.sptRd f g n := by
  have hlt : n % 16 < 16 := Nat.mod_lt n (by decide)
  unfold State.sptRd
  rcases pageF_eq n f g with e | e <;> rw [e]
  · exact h.rd_eq_of_avoids hf (hn.1.symm ▸ hlt)
  · exact h.rd_eq_of_avoids hg (hn.2.symm ▸ hlt)

end

theorem Off.armed_eq {m : Nat} {a s : State} (h : Off m a s) (hs : maskAvoids m SPT_LANE_STAT_ARMED = true)
    (hm : maskAvoids m MEAS_LANE_STAT_ARMED = true) (n : Nat) : s.armed n = a.armed n := by
  rw [State.armed, h.sptRd_eq hs hm ⟨rfl, rfl⟩, State.armed]

theorem State.sptWr_armed (s : State) (n v : Nat) :
    (s.sptWr SPT_LANE_STAT_ARMED MEAS_LANE_STAT_ARMED n v).armed n = (v % 2 == 1) :=
  congrArg (· == 1) (s.sptRd_sptWr_self v (w := 1) (by decide) (by decide))

theorem downlink_uplinkLane (k : Fin 16) : downlink (16 + k) = false := decide_eq_false (by omega)

theorem downlink_downlinkLane (n : Fin 16) : downlink n = true := decide_eq_true n.isLt

theorem uplinkLane_mod (k : Fin 16) : (16 + k.val) % 16 = k := by omega

/-! ### A lane is armed (R122) -/

/-- What an arming reaches once ERR and ARMED are written. -/
def F.sptArmTail : Nat := F.State.setSptLoad ||| F.State.sptActive

theorem State.sptArm_off_armed (s : State) (n : Nat) :
    Off F.sptArmTail ((s.sptWr SPT_LANE_STAT_ERR MEAS_LANE_STAT_ERR n 0).sptWr SPT_LANE_STAT_ARMED MEAS_LANE_STAT_ARMED n 1)
      (s.sptArm n) :=
  State.cond_off (State.freshCtxs_off (by decide) (State.setSl_off (by decide) (State.setSptLoad_off (by decide) .refl ..)
    ..) ..) (fun _ h => State.sptActive_off (by decide) h ..) _

/-- A write that sets EN on a lane that passes its checks arms it; measuring begins at once on an active lane. -/
theorem State.writeSptCfg_off_armed {s u : State} {n : Nat} {v : Word} (harmed : s.armed n = false)
    (hen : v.getLsbD 31 = true) (hu : u = (s.wrWord (sptCfgFlds n) (n % 16) v).int (sptPage n) 0)
    (hpass : u.sptErr n (u.sptCfgOf n (!downlink n && v.getLsbD 30)) = none) :
    Off F.sptArmTail ((u.sptWr SPT_LANE_STAT_ERR MEAS_LANE_STAT_ERR n 0).sptWr SPT_LANE_STAT_ARMED MEAS_LANE_STAT_ARMED n 1)
      (s.writeSptCfg n v) := by
  simp only [State.writeSptCfg, harmed, hen, ← hu, hpass, Bool.not_true, Bool.false_eq_true, if_false]
  exact .ite (State.sptBegin_off (by decide) (u.sptArm_off_armed n) ..) (u.sptArm_off_armed n)

theorem State.writeSptCfg_arms {s u : State} {n : Nat} {v : Word} (harmed : s.armed n = false)
    (hen : v.getLsbD 31 = true) (hu : u = (s.wrWord (sptCfgFlds n) (n % 16) v).int (sptPage n) 0)
    (hpass : u.sptErr n (u.sptCfgOf n (!downlink n && v.getLsbD 30)) = none) :
    (s.writeSptCfg n v).armed n = true
      ∧ (s.writeSptCfg n v).sptRd SPT_LANE_STAT_ERR MEAS_LANE_STAT_ERR n = 0 := by
  have h := State.writeSptCfg_off_armed harmed hen hu hpass
  rw [h.armed_eq (by decide +kernel) (by decide +kernel), h.sptRd_eq (by decide +kernel) (by decide +kernel) (by decide)]
  exact ⟨State.sptWr_armed .., (State.sptRd_sptWr_ne _ _ (by decide) (by decide)).trans
    (State.sptRd_sptWr_self _ _ (w := 4) (by decide) (by decide))⟩

theorem getLsbD_or_en (v : Word) : (v ||| 0x80000000#32).getLsbD 31 = true := by
  rw [BitVec.getLsbD_or, show (0x80000000#32).getLsbD 31 = true by decide, Bool.or_true]

theorem execSptArm_arms {s u : State} {k : Fin 16} {v : Word} {c : SptCfg} (hdef : s.sys.deferred = [])
    (harmed : s.armed (16 + k) = false)
    (hu : u = (s.wrWord (sptCfgFlds (16 + k)) k (v ||| 0x80000000#32)).int pgSPT 0)
    (hc : c = ⟨(v ||| 0x80000000#32).getLsbD 30, u.rd SPT_LANE_CFG_RES k, sx 14 (u.rd SPT_LANE_CFG_FIRST k),
      u.rd SPT_LANE_MAP_BASE k, u.rd SPT_LANE_MAP_COUNT k⟩) (hpass : u.sptErr (16 + k) c = none) :
    ∃ t, exec (.sptArm k v) s = .next t ∧ t.armed (16 + k) = true ∧ t.rd SPT_LANE_STAT_ERR k = 0 := by
  have hup := downlink_uplinkLane k
  have hcfg : u.sptCfgOf (16 + k) (!downlink (16 + k) && (v ||| 0x80000000#32).getLsbD 30) = c := by
    simp only [hc, State.sptCfgOf, State.sptRes, State.sptFirst, State.sptCount, State.sptRd, pageF, hup, uplinkLane_mod,
      Bool.not_false, Bool.true_and, Bool.false_eq_true, if_false]
  have h := State.writeSptCfg_arms harmed (getLsbD_or_en v) (u := u)
    (by rw [hu, uplinkLane_mod, sptPage, hup]; rfl) (by rw [hcfg, hpass])
  refine ⟨_, rfl, ?_⟩
  rw [State.byHost_of_none hdef]
  simpa only [State.sptRd, pageF, hup, uplinkLane_mod, Bool.false_eq_true, if_false] using h

theorem execMeasArm_arms {s u : State} {n : Fin 16} {v : Word} {c : SptCfg} (hdef : s.sys.deferred = [])
    (harmed : s.armed n = false) (hu : u = (s.wrWord (sptCfgFlds n) n (v ||| 0x80000000#32)).int pgMEAS 0)
    (hc : c = ⟨false, u.rd MEAS_LANE_CFG_RES n, sx 14 (u.rd MEAS_LANE_CFG_FIRST n), u.rd MEAS_LANE_MAP_BASE n,
      u.rd MEAS_LANE_MAP_COUNT n⟩) (hpass : u.sptErr n c = none) :
    ∃ t, exec (.measArm n v) s = .next t ∧ t.armed n = true ∧ t.rd MEAS_LANE_STAT_ERR n = 0 := by
  have hdn := downlink_downlinkLane n
  have hmod : n.val % 16 = n := Nat.mod_eq_of_lt n.isLt
  have hcfg : u.sptCfgOf n (!downlink n && (v ||| 0x80000000#32).getLsbD 30) = c := by
    simp only [hc, State.sptCfgOf, State.sptRes, State.sptFirst, State.sptCount, State.sptRd, pageF, hdn, hmod,
      Bool.not_true, Bool.false_and, if_true]
  have h := State.writeSptCfg_arms harmed (getLsbD_or_en v) (u := u) (by rw [hu, hmod, sptPage, hdn]; rfl)
    (by rw [hcfg, hpass])
  refine ⟨_, rfl, ?_⟩
  rw [State.byHost_of_none hdef]
  simpa only [State.sptRd, pageF, hdn, hmod, if_true] using h

/-! ### A lane is disarmed (R123) -/

/-- What a disarming reaches once ARMED is written. -/
def F.sptDisarmTail : Nat := F.State.setSptLoad ||| 1 <<< 105 ||| 1 <<< 107 ||| 1 <<< 112 ||| 1 <<< 114

theorem State.sptDisarm_off_disarmed (s : State) (n e : Nat) :
    Off F.sptDisarmTail ((s.sptStop n).sptWr SPT_LANE_STAT_ARMED MEAS_LANE_STAT_ARMED n 0) (s.sptDisarm n e) :=
  State.setSptLoad_off (by decide) (State.cond_off (State.sptWr_off .refl (has_SPT_LANE_CFG_EN (by decide))
    (has_MEAS_LANE_CFG_EN (by decide)) ..) (fun _ h => State.sptWr_off h (has_SPT_LANE_STAT_ERR (by decide))
    (has_MEAS_LANE_STAT_ERR (by decide)) ..) _) ..

theorem State.sptDisarm_armed (s : State) (n e : Nat) : (s.sptDisarm n e).armed n = false :=
  ((s.sptDisarm_off_disarmed n e).armed_eq (by decide +kernel) (by decide +kernel) n).trans (State.sptWr_armed ..)

theorem State.wrWord_sptCfgFlds_armed (s : State) (n : Nat) (v : Word) :
    (s.wrWord (sptCfgFlds n) (n % 16) v).armed n = s.armed n := by
  have hkeys : ∀ f ∈ sptCfgFlds n, f.key (n % 16) ≠ (pageF n SPT_LANE_STAT_ARMED MEAS_LANE_STAT_ARMED).key (n % 16) := by
    have h : ∀ f ∈ sptCfgFlds n, f.apart (pageF n SPT_LANE_STAT_ARMED MEAS_LANE_STAT_ARMED) = true := by
      unfold sptCfgFlds pageF
      cases downlink n <;> decide
    exact fun f hf => Fld.key_ne_of_apart (h f hf) _
  rw [State.armed, State.sptRd, State.rd_wrWord_ne s hkeys]
  rfl

theorem State.writeSptCfg_disarms {s : State} {n : Nat} {v : Word} (harmed : s.armed n = true) (hen : v.getLsbD 31 = false)
    (hgate : s.gating n = false) (hoff : (s.lane n).on = false) :
    s.writeSptCfg n v = (s.sptDisarm n 0).wrWord (sptCfgFlds n) (n % 16) v := by
  simp only [State.writeSptCfg, harmed, hen, hgate, hoff, Bool.or_self, Bool.not_false, Bool.false_eq_true, if_true, if_false]

theorem execSptDisarm_disarms {s : State} {n : Fin 32} {v : Word} (hdef : s.sys.deferred = []) (harmed : s.armed n = true)
    (hgate : s.gating n = false) (hoff : (s.lane n).on = false) :
    ∃ t, exec (.sptDisarm n v) s = .next t ∧ t.armed n = false := by
  have hen : (v &&& 0x7FFFFFFF#32).getLsbD 31 = false := by
    rw [BitVec.getLsbD_and, show (0x7FFFFFFF#32).getLsbD 31 = false by decide, Bool.and_false]
  refine ⟨_, rfl, ?_⟩
  rw [State.byHost_of_none hdef, State.writeSptCfg_disarms harmed hen hgate hoff, State.wrWord_sptCfgFlds_armed]
  exact State.sptDisarm_armed ..

end Sys2Proof.Machine

/-! PROOF. The close of a decision window, and contexts reported stuck, written, copied and lost
(spec/04_spotlight_and_measurement.md R127, R131, R134, R135, R138). -/
namespace Sys2Proof.Machine
open Sys2Proof
set_option Elab.async false

/-! ### Lanes and contexts out of an operation's reach -/

section
variable {m : Nat} {a s : State} (h : Off m a s) (hb : m.testBit (partNo .spt) = false)
include h hb

theorem Off.spt_eq : s.spt = a.spt := h.part .spt hb

theorem Off.ctx_eq (c : Nat) : s.ctx c = a.ctx c := by rw [State.ctx, h.spt_eq hb, State.ctx]

theorem Off.sl_eq (n : Nat) : s.sl n = a.sl n := by rw [State.sl, h.spt_eq hb, State.sl]

end

theorem State.setCtx_ctx_self (s : State) (c : Nat) (g : CtxSt → CtxSt) : (s.setCtx c g).ctx c = g (s.ctx c) :=
  Tab.get_set_self ..

theorem State.setSl_sl_self (s : State) (n : Nat) (g : SptLane → SptLane) : (s.setSl n g).sl n = g (s.sl n) :=
  Tab.get_set_self ..

theorem State.setCtx_now (s : State) (c : Nat) (g : CtxSt → CtxSt) : (s.setCtx c g).now = s.now := rfl

/-! ### The close of a window (R127) -/

/-- The window that is open on a lane, a disarm that waits for its end, and the tick. -/
def State.window (s : State) (n : Nat) : Nat × Option Nat × Nat := ((s.sl n).win, (s.sl n).disarm, s.now)

theorem Off.window_eq {m : Nat} {a s : State} (h : Off m a s) (hspt : m.testBit (partNo .spt) = false)
    (hnow : m.testBit (partNo .now) = false) (n : Nat) : s.window n = a.window n := by
  rw [State.window, h.sl_eq hspt, h.now_eq hnow, State.window]

theorem State.setCtx_window (s : State) (c : Nat) (g : CtxSt → CtxSt) (n : Nat) : (s.setCtx c g).window n = s.window n := rfl

theorem State.setSl_window (s : State) (n : Nat) (g : SptLane → SptLane) :
    (s.setSl n g).window n = ((g (s.sl n)).win, (g (s.sl n)).disarm, s.now) := by
  rw [State.window, State.setSl_sl_self]
  rfl

theorem State.foldl_window {α : Type} {n : Nat} {f : State → α → State} (hf : ∀ s x, (f s x).window n = s.window n)
    (l : List α) : ∀ s : State, (l.foldl f s).window n = s.window n := by
  induction l with
  | nil => exact fun _ => rfl
  | cons x l ih => exact fun s => (ih _).trans (hf s x)

theorem State.cond_window {n : Nat} {f : State → State} (s : State) (hf : (f s).window n = s.window n) (c : Bool) :
    (s.cond c f).window n = s.window n := by
  unfold State.cond
  split
  · exact hf
  · rfl

/-- Samples that enter a window leave a waiting disarm. -/
theorem SptLane.foldl_take_disarm (l : List (List Nat × Bool × Bool)) :
    ∀ y : SptLane, (l.foldl SptLane.take y).disarm = y.disarm := by
  induction l with
  | nil => exact fun _ => rfl
  | cons e l ih => exact fun y => ih (y.take e)

/-- What the decisions of a window reach beside contexts and lanes. -/
def F.windowTail : Nat := F.State.windowClose ^^^ (2 ^ partNo .spt ||| 2 ^ partNo .now ||| 2 ^ partNo .time)

theorem State.windowClose_window {s : State} {n : Nat} (ecc : Nat) (hmeas : s.measuring n = true)
    (hactive : (s.lane n).active = true) (hstart : (s.sl n).started = true) (hdisarm : (s.sl n).disarm = none) :
    (s.windowClose n ecc).window n = ((s.sl n).win + 1, none, max s.now (s.winEnd n)) := by
  have hm := Nat.and_self F.windowTail
  have hgo : (!(s.measuring n && (s.lane n).active && (s.sl n).started)) = false := by rw [hmeas, hactive, hstart]; rfl
  unfold State.windowClose
  rw [hgo, if_neg Bool.false_ne_true]
  extract_lets s0 x dn s1 idle sus drop learn f df floorP cs trims pw last begun late s2 s3 s4 gs s5 s6 s7 s8
  have h0 : s0.window n = ((s.sl n).win, none, max s.now (s.winEnd n)) := by
    rw [State.window, (State.reach_off (Nat.and_self _) (.refl (a := s)) _).sl_eq (by decide), hdisarm]
    exact congrArg _ (congrArg _ (s.reach_now _))
  have h1 : s1.window n = s0.window n := State.cond_window _ ((State.satAdd_off (m := F.windowTail) .refl
    (.ite (has_MEAS_ECC_CNT (by decide)) (has_SPT_ECC_CNT (by decide))) ..).window_eq (by decide) (by decide) n) _
  have h2 : s2.window n = s1.window n := by
    unfold s2
    split
    · rfl
    · exact State.foldl_window (fun s c => s.setCtx_window ..) _ _
  have h3 : s3.window n = s2.window n := State.cond_window _ (by split; exact State.setSl_window ..) _
  have h4 : s4.window n = s3.window n := State.cond_window _
    ((State.measPwr_off (Nat.and_self _) .refl ..).window_eq (by decide) (by decide) n) _
  have h5 : s5.window n = ((s4.window n).1 + 1, (s4.window n).2) := by
    rw [State.setSl_window, SptLane.foldl_take_disarm]
    rfl
  have h8 : Off F.windowTail s5 s8 := State.setStuck_off (sb hm (by decide)) (State.sptWr_off
    (State.cond_off .refl (fun _ h => State.int_off (sb hm (by decide)) (State.sptWr_off h
      (has_SPT_LANE_STAT_LEARNING (by decide)) (has_MEAS_LANE_STAT_LEARNING (by decide)) ..) ..) _)
    (has_SPT_LANE_STAT_OPEN_NOW (by decide)) (has_MEAS_LANE_STAT_ACTIVE_NOW (by decide)) ..)
  have hend : s8.window n = ((s.sl n).win + 1, none, max s.now (s.winEnd n)) := by
    rw [h8.window_eq (by decide) (by decide), h5, h4, h3, h2, h1, h0]
  have hnone : (s8.sl n).disarm = none := congrArg (·.2.1) hend
  clear_value s8
  rw [hnone]
  exact hend

theorem execDecisionWindowClose_closes {s : State} {n : Fin 32} {ecc : Nat} (hmeas : s.measuring n = true)
    (hactive : (s.lane n).active = true) (hstart : (s.sl n).started = true) (hdisarm : (s.sl n).disarm = none) :
    ∃ t, exec (.decisionWindowClose n ecc) s = .next t ∧ t.now = max s.now (s.winEnd n)
      ∧ (t.sl n).win = (s.sl n).win + 1 := by
  have h := State.windowClose_window ecc hmeas hactive hstart hdisarm
  exact ⟨_, rfl, congrArg (·.2.2) h, congrArg (·.1) h⟩

/-! ### A stuck context (R135) -/

/-- What the report of a stuck context reaches once the context is marked. -/
def F.ctxStuckTail : Nat := F.State.setStuck ||| F.State.int

theorem State.ctxStuck_of_due {s : State} {c f : Nat} (hrun : (s.ctx c).runFrom = some f) (hmon : s.rd SPT_MON 0 ≠ 0)
    (hstuck : (s.ctx c).stuck = false) (hauto : ctlMode (s.ctx c).force = 0) (hup : c < 16384)
    (hlane : (s.ctxLane c).isSome = true) :
    s.ctxStuck c
      = (((s.reach (f + secT (s.rd SPT_MON 0))).setCtx c fun x => { x with stuck := true }).setStuck).int pgSPT 2 := by
  have hsome : (s.ctxLane c).isNone = false := by rw [Option.isNone_eq_false_iff, hlane]
  simp only [State.ctxStuck, hrun, hmon, hstuck, hauto, Nat.not_le.2 hup, hsome, ne_eq, not_true_eq_false,
    Bool.false_eq_true, or_self, if_false]

theorem execContextStuck_reports {s : State} {c : Fin 32768} {f : Nat} (hrun : (s.ctx c).runFrom = some f)
    (hmon : s.rd SPT_MON 0 ≠ 0) (hstuck : (s.ctx c).stuck = false) (hauto : ctlMode (s.ctx c).force = 0)
    (hup : c.val < 16384) (hlane : (s.ctxLane c).isSome = true) :
    ∃ t, exec (.contextStuck c) s = .next t ∧ (t.ctx c).stuck = true ∧ t.tst PG_INT_STAT pgSPT 2 = true
      ∧ t.now = max s.now (f + secT (s.rd SPT_MON 0)) := by
  have h := State.int_off (m := F.ctxStuckTail) (by decide) (State.setStuck_off (by decide)
    (.refl (a := (s.reach (f + secT (s.rd SPT_MON 0))).setCtx c fun x => { x with stuck := true }))) pgSPT 2
  refine ⟨_, rfl, ?_⟩
  rw [State.ctxStuck_of_due hrun hmon hstuck hauto hup hlane, h.ctx_eq (by decide), State.setCtx_ctx_self,
    h.now_eq (by decide), State.setCtx_now, State.reach_now]
  exact ⟨rfl, State.int_tst _ (by decide) (by decide), rfl⟩

/-! ### CTX_CTL (R131) -/

theorem State.writeCtx_of_valid {s : State} {c : Nat} {v : Word} (hlow : 0x0C ≤ bits v 8 8) (hhigh : bits v 8 8 ≤ 0x78)
    (hmode : ctlMode v ≠ 3) : ∃ old : CtxSt → Option Word, s.writeCtx c 0 v
      = s.setCtx c fun x => { x with ctl := v &&& 0xFFFFFF03#32, inForce := old x, ctlAt := s.now } := by
  simp only [State.writeCtx, Nat.not_lt.2 hlow, Nat.not_lt.2 hhigh, hmode, ne_eq, not_true_eq_false, or_self, if_false]
  exact ⟨_, rfl⟩

theorem execContextCtlWrite_writes {s : State} {c : Fin 32768} {v : Word} (hdef : s.sys.deferred = [])
    (hlow : 0x0C ≤ bits v 8 8) (hhigh : bits v 8 8 ≤ 0x78) (hmode : ctlMode v ≠ 3) :
    ∃ t, exec (.contextCtlWrite c 0 v) s = .next t ∧ (t.ctx c).ctl = v &&& 0xFFFFFF03#32 := by
  obtain ⟨old, h⟩ := State.writeCtx_of_valid (s := s) (c := c) hlow hhigh hmode
  refine ⟨_, rfl, ?_⟩
  rw [State.byHost_of_none hdef]
  exact (congrArg (fun t : State => (t.ctx c).ctl) h).trans (congrArg CtxSt.ctl (State.setCtx_ctx_self ..))

/-! ### Copies of a context (R134) -/

/-- An operation that leaves the arming of the lanes and their maps leaves which lane a context belongs to. -/
theorem Off.ctxLane_eq {m : Nat} {a s : State} (h : Off m a s)
    (hm : ∀ f ∈ [SPT_LANE_STAT_ARMED, MEAS_LANE_STAT_ARMED, SPT_LANE_MAP_BASE, MEAS_LANE_MAP_BASE, SPT_LANE_MAP_COUNT,
      MEAS_LANE_MAP_COUNT], maskAvoids m f = true) (c : Nat) : s.ctxLane c = a.ctxLane c := by
  simp only [List.forall_mem_cons, List.not_mem_nil, false_implies, implies_true, and_true] at hm
  obtain ⟨hsa, hma, hsb, hmb, hsc, hmc⟩ := hm
  have harmed : s.armed = a.armed := funext (h.armed_eq hsa hma)
  have hbase : s.sptBase = a.sptBase := funext fun n => by
    rw [State.sptBase, h.sptRd_eq hsb hmb ⟨rfl, rfl⟩, State.sptBase]
  have hcount : s.sptCount = a.sptCount := funext fun _ => h.sptRd_eq hsc hmc ⟨rfl, rfl⟩
  rw [State.ctxLane, harmed, hbase, hcount, State.ctxLane]

/-- The fields that a request of a copy writes. -/
def F.snapFlds : Nat := 1 <<< 270 ||| 1 <<< 275 ||| 1 <<< 361 ||| 1 <<< 375

/-- The state with the request of a copy, or none, in place of that of the page. -/
def State.setSnap (s : State) (dn : Bool) (r : Option (Nat × Nat)) : State :=
  s.setSpt fun p => if dn then { p with snapDn := r } else { p with snapUp := r }

theorem State.setSnap_snap (s : State) (dn : Bool) (r : Option (Nat × Nat)) :
    (if dn then (s.setSnap dn r).spt.snapDn else (s.setSnap dn r).spt.snapUp) = r := by
  cases dn <;> rfl

theorem rd_wr_snapDone (s : State) (dn : Bool) (v : Nat) :
    (s.wr (if dn then MEAS_SNAP_DONE else SPT_SNAP_DONE) 0 v).rd (if dn then MEAS_SNAP_DONE else SPT_SNAP_DONE) 0
      = v % 2 := by
  cases dn <;> exact State.rd_wr_self _ _ (by decide) (by decide)

/-- On a lane that is measuring a request waits for the end of the open window. -/
theorem State.writeCtxSnap_of_measuring {s : State} {dn : Bool} {v : Word} {n : Nat} (hgo : v.getLsbD 30 = true)
    (hlane : s.ctxLane (bits v 0 14 + if dn then 16384 else 0) = some n) (hmeas : s.measuring n = true) :
    s.writeCtxSnap dn v = ((s.wr (if dn then MEAS_SNAP_CTX else SPT_SNAP_CTX) 0 (bits v 0 14)).wr
      (if dn then MEAS_SNAP_DONE else SPT_SNAP_DONE) 0 0).setSnap dn (some (bits v 0 14, (s.sl n).win)) := by
  have h : Off F.snapFlds s ((s.wr (if dn then MEAS_SNAP_CTX else SPT_SNAP_CTX) 0 (bits v 0 14)).wr
      (if dn then MEAS_SNAP_DONE else SPT_SNAP_DONE) 0 0) :=
    .wr (.wr .refl (.ite (has_MEAS_SNAP_CTX (by decide)) (has_SPT_SNAP_CTX (by decide))) ..)
      (.ite (has_MEAS_SNAP_DONE (by decide)) (has_SPT_SNAP_DONE (by decide))) ..
  have hlane' := (h.ctxLane_eq (by decide +kernel) _).trans hlane
  have hmeas' : State.measuring _ n = true :=
    (congrArg (· == 1) (h.sptRd_eq (by decide +kernel) (by decide +kernel) (by decide))).trans hmeas
  simp only [State.writeCtxSnap, hgo, hlane', hmeas', Bool.not_true, Bool.false_eq_true, if_false, if_true]
  rfl

theorem execContextSnapshotGo_requests {s : State} {dn : Bool} {v : Word} {n : Nat} (hdef : s.sys.deferred = [])
    (hlane : s.ctxLane (bits (v ||| 0x40000000#32) 0 14 + if dn then 16384 else 0) = some n)
    (hmeas : s.measuring n = true) :
    ∃ t, exec (.contextSnapshotGo dn v) s = .next t ∧ t.rd (if dn then MEAS_SNAP_DONE else SPT_SNAP_DONE) 0 = 0
      ∧ (if dn then t.spt.snapDn else t.spt.snapUp) = some (bits (v ||| 0x40000000#32) 0 14, (s.sl n).win) := by
  have hgo : (v ||| 0x40000000#32).getLsbD 30 = true := by
    rw [BitVec.getLsbD_or, show (0x40000000#32).getLsbD 30 = true by decide, Bool.or_true]
  refine ⟨_, rfl, ?_⟩
  rw [State.byHost_of_none hdef, State.writeCtxSnap_of_measuring hgo hlane hmeas]
  exact ⟨rd_wr_snapDone .., State.setSnap_snap ..⟩

/-- The copy is made once the window that the request awaited has ended. -/
theorem State.ctxSnapDone_of_ended {s : State} {dn : Bool} {c w n : Nat}
    (hsnap : (if dn then s.spt.snapDn else s.spt.snapUp) = some (c, w))
    (hlane : s.ctxLane (c + if dn then 16384 else 0) = some n) (hend : w < (s.sl n).win) :
    s.ctxSnapDone dn = (s.setSnap dn none).ctxCopy dn c := by
  have hnone : (s.setSpt fun p => if dn then { p with snapDn := none } else { p with snapUp := none }) = s.setSnap dn none :=
    rfl
  simp only [State.ctxSnapDone, hsnap, hlane, hend, hnone, decide_true, Bool.or_true, if_true]

theorem execContextSnapshotDone_copies {s : State} {dn : Bool} {c w n : Nat}
    (hsnap : (if dn then s.spt.snapDn else s.spt.snapUp) = some (c, w))
    (hlane : s.ctxLane (c + if dn then 16384 else 0) = some n) (hend : w < (s.sl n).win) :
    ∃ t, exec (.contextSnapshotDone dn) s = .next t ∧ t.rd (if dn then MEAS_SNAP_DONE else SPT_SNAP_DONE) 0 = 1
      ∧ (if dn then t.spt.snapDn else t.spt.snapUp) = none := by
  refine ⟨_, rfl, ?_⟩
  rw [State.ctxSnapDone_of_ended hsnap hlane hend,
    (State.ctxCopy_off (Nat.and_self _) (.refl (a := s.setSnap dn none)) dn c).spt_eq (by decide)]
  exact ⟨rd_wr_snapDone .., State.setSnap_snap ..⟩

/-! ### An uncorrectable error in a context (R138) -/

theorem State.ctxUncorr_false_eq (s : State) (c : Nat) :
    ∃ (u : State) (ports : Ports), u.ctx c = (s.ctx c).fresh s.spt.gen 256
      ∧ s.ctxUncorr false c = u.raise (if 16384 ≤ c then pgMEAS else pgSPT) 1 ports := by
  have h := (State.setStuck_off (Nat.and_self _) (.refl (a := s.setCtx c fun x => x.fresh s.spt.gen 256))).ctx_eq
    (by decide) c
  rw [State.setCtx_ctx_self] at h
  unfold State.ctxUncorr
  extract_lets dn ls s0 owner g s1 s2 ps s3
  have h3 : s3.ctx c = s2.ctx c := by
    unfold s3
    clear_value owner
    cases owner with
    | some n => exact apply_ite (fun t : State => t.ctx c) .. |>.trans (ite_self _)
    | none => rfl
  refine ⟨s3, ps, h3.trans h, ?_⟩
  simp only [Bool.false_eq_true, if_false, dn, decide_eq_true_eq]

theorem execContextMemoryUncorr_refreshes {s : State} {c : Fin 32768} :
    ∃ t, exec (.contextMemoryUncorr false c) s = .next t ∧ t.ctx c = (s.ctx c).fresh s.spt.gen 256
      ∧ t.tst PG_ERR (if 16384 ≤ c.val then pgMEAS else pgSPT) 1 = true := by
  obtain ⟨u, ports, hctx, h⟩ := s.ctxUncorr_false_eq c
  have hpage : PG_ERR.has (if 16384 ≤ c.val then pgMEAS else pgSPT) = true := by split <;> decide
  refine ⟨_, rfl, ?_⟩
  rw [h, (State.raise_off (Nat.and_self _) (.refl (a := u)) ..).ctx_eq (by decide)]
  exact ⟨hctx, State.raise_tst _ _ hpage (by decide)⟩

/-- Settles O27: a write that arms a lane sets ARMED after its checks and what follows reaches neither ARMED nor ERR; a window
that closes gives way to the next, and what its decisions change leaves the lane's windows alone; contexts read as each command
leaves them. -/
theorem spotlightCommandsComplete : Obligations.SpotlightCommandsComplete :=
  ⟨fun _ _ _ _ _ => execSptArm_arms, fun _ _ _ _ _ => execMeasArm_arms, fun _ _ _ => execSptDisarm_disarms,
   fun _ _ _ => execDecisionWindowClose_closes, fun _ _ _ => execContextStuck_reports,
   fun _ _ _ => execContextCtlWrite_writes,
   fun _ _ _ _ hdef hlane hmeas _ => execContextSnapshotGo_requests hdef hlane hmeas,
   fun _ _ _ _ _ => execContextSnapshotDone_copies, fun _ _ => execContextMemoryUncorr_refreshes⟩

end Sys2Proof.Machine

/-! PROOF. The recorder leaves the storage manager alone but for what it programs (spec/11_prompt_book.md R315;
spec/12_storage_manager.md R333). -/
namespace Sys2Proof.Machine
open Sys2Proof
set_option Elab.async false

/-- The storage manager apart from what was programmed. -/
def StmSt.unprogrammed (x : StmSt) : StmSt := { x with progs := [], wrSeq := 0 }

theorem Off.stm_eq {m : Nat} {a s : State} (h : Off m a s) (hb : m.testBit (partNo .stm) = false) : s.stm = a.stm :=
  h.part .stm hb

/-- What a record reaches beside the storage manager. -/
def F.recordTail : Nat := F.State.journal ^^^ 2 ^ partNo .stm

theorem Off.unprogrammed_eq {a s : State} (h : Off F.recordTail a s) : s.stm.unprogrammed = a.stm.unprogrammed :=
  congrArg _ (h.stm_eq (by decide))

theorem State.programmed_unprogrammed (s : State) (part u k : Nat) :
    (s.programmed part u k).stm.unprogrammed = s.stm.unprogrammed := rfl

theorem State.number_unprogrammed (s : State) (w : Waiting) (late : Bool) (area : Area) (slot : Nat) :
    (s.number w late area slot).stm.unprogrammed = s.stm.unprogrammed :=
  (State.number_off (by decide) .refl ..).unprogrammed_eq

theorem State.closeOpen_unprogrammed (s : State) : s.closeOpen.stm.unprogrammed = s.stm.unprogrammed :=
  (State.closeOpen_off (by decide) .refl).unprogrammed_eq

theorem State.dropRec_unprogrammed (s : State) (w : Waiting) {cnt : Fld} (hcnt : Has F.recordTail cnt) :
    (s.dropRec w cnt).stm.unprogrammed = s.stm.unprogrammed :=
  (State.dropRec_off (by decide) .refl hcnt w).unprogrammed_eq

theorem State.enterApron_unprogrammed (s : State) (w : Waiting) (late : Bool) :
    (s.enterApron w late).stm.unprogrammed = s.stm.unprogrammed := by
  unfold State.enterApron
  split
  · extract_lets k t u
    have hu : Off F.recordTail s u := State.cond_off (State.setPb_off (by decide) .refl _)
      (fun _ h => State.int_off (by decide) (State.setPb_off (by decide) h _) ..) _
    exact (State.number_unprogrammed ..).trans hu.unprogrammed_eq
  · split
    · exact (State.number_unprogrammed ..).trans (State.programmed_unprogrammed ..)
    · exact State.dropRec_unprogrammed _ _ (has_PB_DROP_APRON (by decide))

theorem State.enter_unprogrammed (s : State) (w : Waiting) (late : Bool) :
    (s.enter w late).stm.unprogrammed = s.stm.unprogrammed := by
  have hnum := s.number_unprogrammed w late .main s.pb.mainUsed
  unfold State.enter
  split
  · exact State.enterApron_unprogrammed ..
  · extract_lets t u last v r
    split
    · exact hnum
    · split
      · exact hnum
      · exact (State.enterApron_unprogrammed ..).trans ((State.closeOpen_unprogrammed v).trans hnum)

theorem State.arrive_unprogrammed (s : State) (w : Waiting) : (s.arrive w).stm.unprogrammed = s.stm.unprogrammed := by
  unfold State.arrive
  extract_lets t u v
  have ht : t.stm.unprogrammed = s.stm.unprogrammed := s.closeOpen_unprogrammed
  have hwait : Off F.recordTail t ((v.raise pgPB 3 allPorts).stand 4 3) := State.stand_off (by decide) (State.raise_off
    (by decide) (State.satInc_off (State.setPb_off (by decide) .refl _) (has_PB_WAIT_CNT (by decide)) ..) ..) ..
  refine Eq.trans ?_ ht
  split
  · exact State.dropRec_unprogrammed _ _ (has_PB_DROP_FULL (by decide))
  · split
    · exact State.dropRec_unprogrammed _ _ (has_PB_DROP_STAGE (by decide))
    · split
      · exact hwait.unprogrammed_eq
      · exact State.enter_unprogrammed ..

theorem State.foldl_unprogrammed {α : Type} {f : State → α → State}
    (hf : ∀ s x, (f s x).stm.unprogrammed = s.stm.unprogrammed) (l : List α) :
    ∀ s : State, (l.foldl f s).stm.unprogrammed = s.stm.unprogrammed := by
  induction l with
  | nil => exact fun _ => rfl
  | cons x l ih => exact fun s => (ih _).trans (hf s x)

theorem State.rlEnd_unprogrammed (s : State) : s.rlEnd.stm.unprogrammed = s.stm.unprogrammed := by
  unfold State.rlEnd
  extract_lets sup t
  have ht : t.stm.unprogrammed = s.stm.unprogrammed := congrArg _ (State.setPb_stm s _)
  split
  · exact (State.foldl_unprogrammed (fun u x => State.arrive_unprogrammed ..) sup t).trans ht
  · exact ht

theorem State.record_unprogrammed (s : State) (w : Waiting) : (s.record w).stm.unprogrammed = s.stm.unprogrammed := by
  unfold State.record
  split
  · extract_lets t c k u
    have ht : t.stm.unprogrammed = s.stm.unprogrammed := by
      unfold t State.cond
      split
      · exact s.rlEnd_unprogrammed
      · rfl
    refine Eq.trans ?_ ht
    split
    · exact State.dropRec_unprogrammed _ _ (has_PB_DROP_RL (by decide))
    · exact State.arrive_unprogrammed ..
  · split
    · exact State.arrive_unprogrammed ..
    · split
      · extract_lets o' t u
        have hu : Off F.recordTail s u := State.visible_off (by decide) (State.setPb_off (by decide) .refl _) ..
        exact (State.cond_off hu (fun _ h => State.closeOpen_off (by decide) h) _).unprogrammed_eq
      · exact State.arrive_unprogrammed ..

theorem State.handOne_unprogrammed (s : State) (w : Waiting) : (s.handOne w).stm.unprogrammed = s.stm.unprogrammed := by
  unfold State.handOne
  split
  · exact (State.visible_off (m := F.recordTail) (by decide) (State.setPb_off (by decide) .refl _) ..).unprogrammed_eq
  · split
    · exact (State.hold_off (by decide) .refl w).unprogrammed_eq
    · exact s.record_unprogrammed w

theorem State.audited_unprogrammed (s : State) : s.audited.stm.unprogrammed = s.stm.unprogrammed := by
  unfold State.audited State.auditBook
  extract_lets t
  split
  · split
    · rfl
    · have ht : Off F.recordTail t ((t.raise pgPB 1 allPorts).stand 4 1) :=
        State.stand_off (by decide) (State.raise_off (by decide) .refl ..) ..
      exact (State.handOne_unprogrammed ..).trans ht.unprogrammed_eq
  · rfl

/-- A record changes of the storage manager only what was programmed. -/
theorem State.journal_unprogrammed (s : State) (page code sev payload : Nat) :
    (s.journal page code sev payload).stm.unprogrammed = s.stm.unprogrammed :=
  (State.audited_unprogrammed _).trans (State.handOne_unprogrammed ..)

end Sys2Proof.Machine

/-! PROOF. The order of the work on the medium, the history interval and the upkeep of the medium
(spec/04_spotlight_and_measurement.md R133; spec/12_storage_manager.md R334, R336 to R340, R344). -/
namespace Sys2Proof.Machine
open Sys2Proof
set_option Elab.async false

/-! ### The order of work (R340) -/

theorem Off.ahead_eq {m : Nat} {a s : State} (h : Off m a s) (hpb : m.testBit (partNo .pb) = false)
    (hm : ∀ f ∈ [STM_STAT_READY, STM_STAT_MEDIUM, STM_CAP_STAT], maskAvoids m f = true) (hwork : s.stm.work = a.stm.work)
    (p : Nat) : s.ahead p = a.ahead p := by
  simp only [List.forall_mem_cons, List.not_mem_nil, false_implies, implies_true, and_true] at hm
  obtain ⟨hready, hmedium, hcap⟩ := hm
  simp only [State.ahead, State.on, h.pb_eq hpb, hwork, h.rd_eq_of_avoids hready (i := 0) (by decide),
    h.rd_eq_of_avoids hmedium (i := 0) (by decide), h.rd_eq_of_avoids hcap (i := 0) (by decide)]

/-- Work that alone waits takes its turn. -/
theorem State.serve_of_single {s : State} {w : Work} (hwork : s.stm.work = [w]) :
    s.serve = (s.setStm fun x => { x with work := [] }).turn w := by
  have hprio : w.prio ∈ [3, 4, 5, 6, 7] := by cases w <;> exact of_decide_eq_true rfl
  have hturn : [w].filter (fun x => x.prio == w.prio) = [w] := by simp only [List.filter, beq_self_eq_true]
  have hskip : ∀ p, p ≠ w.prio → [w].filter (fun x => x.prio == p) = [] := fun p hp => by
    simp only [List.filter, beq_eq_false_iff_ne.2 hp.symm]
  simp only [State.serve, hwork, List.isEmpty_cons, Bool.false_eq_true, if_false]
  rw [foldl_of_only hprio (by decide) (fun p _ hp => by rw [hskip p hp, List.foldl_nil])
    fun p _ hp => by rw [hskip p hp, List.foldl_nil], hturn, List.foldl_cons, List.foldl_nil]

/-- Work that comes while none waits, and nothing before it, is done at once. -/
theorem State.medium_of_idle {s : State} {w : Work} (hwork : s.stm.work = []) (hahead : s.ahead w.prio = false) :
    s.medium w = s.doWork w := by
  have hone : (s.work w).stm.work = [w] := by rw [State.work, State.setStm_stm, hwork, List.nil_append]
  have hback : (s.work w).setStm (fun x => { x with work := [] }) = s := by
    have : { s.stm with work := [] } = s.stm := by rw [← hwork]
    rw [State.work, State.setStm, State.setStm, this]
  rw [State.medium, State.serve_of_single hone, hback, State.turn, hahead, if_neg Bool.false_ne_true]

/-! ### The history interval (R133, R344) -/

theorem State.histPlace_keeps (s : State) (no : Nat) (ws : List Word) :
    (s.histPlace no ws).stm.histNext = s.stm.histNext ∧ (s.histPlace no ws).stm.work = s.stm.work
      ∧ (s.histPlace no ws).spt = s.spt := by
  unfold State.histPlace
  extract_lets size k u t
  split
  · exact ⟨rfl, rfl, rfl⟩
  · have h := State.setRings_off (Nat.and_self _) (.refl (a := t.unitsWritten 2 size u k))
    rw [h.stm_eq (by decide), h.spt_eq (by decide)]
    exact ⟨rfl, rfl, rfl⟩

/-- Where frames are taken and none waits, the frame of the interval comes as work. -/
theorem State.histFrame_of_room {s : State} (hen : s.rd STM_HIST_CFG_EN 0 = 1) (hunits : s.stm.histUnits ≠ 0)
    (hmedium : s.rd STM_STAT_MEDIUM 0 = medOWN) (hready : s.rd STM_STAT_READY 0 = 1) (hwork : s.stm.work = []) :
    s.histFrame 0 = s.setStm fun x => { x with
      work := [.history x.histNext s.histWords], histNext := x.histNext + 1, histDropped := false, histStep := false } := by
  simp only [State.histFrame, State.on, hen, hunits, hmedium, hready, hwork, State.setStm, List.countP_nil, List.nil_append]
  rfl

/-- The interval's end leaves the one frame waiting, whatever INTERVAL holds from now on. -/
theorem State.histBoundary_of_room {s u : State} (hu : (s.toMul evHIST 0 (histTicks s.stm.histT)).ctxInterval = u)
    (hen : u.rd STM_HIST_CFG_EN 0 = 1) (hunits : u.stm.histUnits ≠ 0) (hmedium : u.rd STM_STAT_MEDIUM 0 = medOWN)
    (hready : u.rd STM_STAT_READY 0 = 1) (hwork : u.stm.work = []) :
    ∃ t, s.histBoundary 0 = u.setStm fun x => { x with
      work := [.history x.histNext u.histWords], histNext := x.histNext + 1, histDropped := false, histStep := false,
      histT := t } := by
  unfold State.histBoundary
  extract_lets s1 s2 t
  have h2 : s2 = _ := (congrArg (·.histFrame 0) hu).trans (State.histFrame_of_room hen hunits hmedium hready hwork)
  rw [h2]
  split
  · exact ⟨t, rfl⟩
  · exact ⟨u.stm.histT, rfl⟩

/-- What an interval's end reaches before its frame is programmed. -/
def F.intervalEnd : Nat := F.State.toMul ||| F.State.ctxInterval ||| F.State.setStm

/-- Where nothing waits before it, the interval's frame is programmed at once. -/
theorem State.serve_histBoundary {s u : State} (hu : (s.toMul evHIST 0 (histTicks s.stm.histT)).ctxInterval = u)
    (hen : s.rd STM_HIST_CFG_EN 0 = 1) (hunits : s.stm.histUnits ≠ 0) (hmedium : s.rd STM_STAT_MEDIUM 0 = medOWN)
    (hready : s.rd STM_STAT_READY 0 = 1) (hwork : s.stm.work = []) (hahead : s.ahead 5 = false) :
    ∃ (v : State) (no : Nat) (ws : List Word), (s.histBoundary 0).serve = v.histPlace no ws
      ∧ v.stm.histNext = s.stm.histNext + 1 ∧ v.stm.work = [] ∧ v.spt = u.spt := by
  have h : Off F.intervalEnd s u := hu ▸ State.ctxInterval_off (by decide) (State.toMul_off (by decide) .refl ..)
  have hstm : u.stm = s.stm :=
    hu ▸ (State.ctxInterval_off (m := F.State.toMul ||| F.State.ctxInterval) (by decide)
      (State.toMul_off (by decide) .refl ..)).stm_eq (by decide)
  obtain ⟨t, hbound⟩ := State.histBoundary_of_room hu ((h.rd_eq (by decide +kernel)).trans hen) (hstm ▸ hunits)
    ((h.rd_eq (by decide +kernel)).trans hmedium) ((h.rd_eq (by decide +kernel)).trans hready) (hstm ▸ hwork)
  have hone : (s.histBoundary 0).stm.work = [.history u.stm.histNext u.histWords] := by rw [hbound]; rfl
  obtain ⟨v, hv⟩ : ∃ v, v = (s.histBoundary 0).setStm fun x => { x with work := [] } := ⟨_, rfl⟩
  have hvwork : v.stm.work = [] := congrArg (·.stm.work) hv
  have hvahead : v.ahead 5 = false := by
    have hoff : Off F.intervalEnd s v :=
      hv ▸ hbound ▸ State.setStm_off (by decide) (State.setStm_off (by decide) h _) _
    rw [hoff.ahead_eq (by decide) (by decide +kernel) (hvwork.trans hwork.symm), hahead]
  refine ⟨v, u.stm.histNext, u.histWords, ?_, ?_, hvwork, ?_⟩
  · rw [State.serve_of_single hone, ← hv, State.turn, Work.prio, hvahead, if_neg Bool.false_ne_true, State.doWork]
  · rw [hv, hbound, ← hstm]
    rfl
  · rw [hv, hbound]
    rfl

theorem execHistoryIntervalBoundary_closes {s u : State} (hu : u = s.toMul evHIST 0 (histTicks s.stm.histT))
    (hen : s.rd STM_HIST_CFG_EN 0 = 1) (hunits : s.stm.histUnits ≠ 0) (hmedium : s.rd STM_STAT_MEDIUM 0 = medOWN)
    (hready : s.rd STM_STAT_READY 0 = 1) (hwork : s.stm.work = []) (hahead : s.ahead 5 = false) :
    ∃ t, exec (.historyIntervalBoundary 0) s = .next t ∧ t.spt.gen = s.spt.gen + 1 ∧ t.spt.boundAt = u.now
      ∧ t.stm.histNext = s.stm.histNext + 1 ∧ t.stm.work = [] := by
  obtain ⟨v, no, ws, hserve, hnext, hvwork, hspt⟩ := State.serve_histBoundary (congrArg State.ctxInterval hu.symm) hen
    hunits hmedium hready hwork hahead
  obtain ⟨hplaceNext, hplaceWork, hplaceSpt⟩ := v.histPlace_keeps no ws
  have hgen : u.spt = s.spt := hu ▸ (State.toMul_off (Nat.and_self _) .refl ..).spt_eq (by decide)
  have ht : (s.histBoundary 0).serve.spt = u.ctxInterval.spt := by rw [hserve, hplaceSpt, hspt]
  refine ⟨(s.histBoundary 0).serve, rfl, ?_, congrArg (·.boundAt) ht, ?_, ?_⟩
  · exact (congrArg (·.gen) ht).trans (congrArg (·.gen + 1) hgen)
  · rw [hserve, hplaceNext, hnext]
  · rw [hserve, hplaceWork, hvwork]

/-! ### Codewords that no copy gives (R334) -/

theorem State.codewordRead_of_failed {s : State} {part unit : Nat} {copies : List (List (BitVec 36608))}
    (hfail : ∀ c ∈ copies, s.decodeCopy part unit c = .failed) :
    ∃ feats, s.codewordRead part unit copies = (s.setStm fun x => { x with feats := feats }).codewordUnc part unit := by
  have hnone : (copies.map (s.decodeCopy part unit)).find? (· != .failed) = none :=
    List.find?_eq_none.2 fun r hr => by
      obtain ⟨c, hc, rfl⟩ := List.mem_map.1 hr
      rw [hfail c hc]
      decide
  unfold State.codewordRead
  extract_lets rs tried t
  rw [hnone]
  exact ⟨_, rfl⟩

/-- What an uncorrectable codeword reaches once it is counted and named. -/
def F.codewordUncTail : Nat := F.State.journal ||| F.State.raise ||| 1 <<< 518

theorem State.codewordUnc_off_named (s : State) (part unit : Nat) :
    Off F.codewordUncTail (((s.satInc STM_ECC_UNC 0).wr STM_UNC_PART 0 part).wr STM_UNC_UNIT 0 unit)
      (s.codewordUnc part unit) :=
  State.satInc_off (State.int_off (by decide) (State.journal_off (by decide) (State.raise_off (by decide)
    (State.setStm_off (by decide) .refl _) ..) ..) ..) (has_STM_REFRESH_CNT (by decide)) _

/-- The refresh of its block is counted last. -/
theorem State.codewordUnc_rd_refresh (s : State) (part unit : Nat) :
    (s.codewordUnc part unit).rd STM_REFRESH_CNT 0 = min (s.rd STM_REFRESH_CNT 0 + 1) (2 ^ STM_REFRESH_CNT.w - 1) := by
  unfold State.codewordUnc
  extract_lets s1 s2 s3
  have h : Off (F.State.codewordUnc ^^^ 1 <<< 518) s (s3.int pgSTM 4) :=
    State.int_off (by decide) (State.journal_off (by decide) (State.raise_off (by decide) (State.setStm_off (by decide)
      (.wr (.wr (State.satInc_off .refl (has_STM_ECC_UNC (by decide)) _) (has_STM_UNC_PART (by decide)) ..)
        (has_STM_UNC_UNIT (by decide)) ..) _) ..) ..) ..
  rw [State.rd_satInc_self (by decide) (by decide), h.rd_eq (by decide +kernel)]

theorem execCodewordUncorrectable_counts {s : State} {part : Fin 5} {unit : Nat} {copies : List (List (BitVec 36608))}
    (hfail : ∀ c ∈ copies, s.decodeCopy part unit c = .failed) :
    ∃ t, exec (.codewordUncorrectable part unit copies) s = .next t
      ∧ t.rd STM_ECC_UNC 0 = min (s.rd STM_ECC_UNC 0 + 1) (2 ^ STM_ECC_UNC.w - 1) ∧ t.rd STM_UNC_PART 0 = part
      ∧ t.rd STM_UNC_UNIT 0 = unit % 2 ^ STM_UNC_UNIT.w
      ∧ t.rd STM_REFRESH_CNT 0 = min (s.rd STM_REFRESH_CNT 0 + 1) (2 ^ STM_REFRESH_CNT.w - 1) := by
  obtain ⟨feats, hread⟩ := State.codewordRead_of_failed hfail
  have h := (s.setStm fun x => { x with feats := feats }).codewordUnc_off_named part unit
  refine ⟨_, rfl, ?_⟩
  rw [hread]
  refine ⟨?_, ?_, ?_, State.codewordUnc_rd_refresh ..⟩
  · rw [h.rd_eq (by decide +kernel), State.rd_wr_ne _ _ (by decide), State.rd_wr_ne _ _ (by decide)]
    exact State.rd_satInc_self (by decide) (by decide)
  · rw [h.rd_eq (by decide +kernel), State.rd_wr_ne _ _ (by decide), State.rd_wr_self _ _ (by decide) (by decide)]
    exact Nat.mod_eq_of_lt (Nat.lt_trans part.isLt (by decide))
  · rw [h.rd_eq (by decide +kernel)]
    exact State.rd_wr_self _ _ (by decide) (by decide)

/-! ### Refreshes, retirements, scrub and checkpoints (R336 to R339) -/

theorem State.erased_erases (s : State) (pslc : Bool) (mx mean : Nat) :
    (s.erased pslc mx mean).stm.erases = s.stm.erases + 1 := by
  unfold State.erased
  extract_lets s1 s2 s3 e
  have h2 : s2.stm = s1.stm := by
    unfold s2
    split <;> rfl
  have h3 : s3.stm.erases = s.stm.erases + 1 := congrArg StmSt.erases h2
  split
  · exact (congrArg StmSt.erases ((State.stand_off (m := F.State.raise) (by decide) (State.raise_off (by decide)
      (.refl (a := s3)) ..) ..).stm_eq (by decide))).trans h3
  · exact h3

theorem State.blockRefresh_of_reads {s : State} {n : Nat} {pslc : Bool}
    (hlimit : s.rd STM_LIMITS_RD_LIM 0 * (if pslc then 10000 else 1000) ≤ n) (mx mean : Nat) :
    s.blockRefresh (.reads n) pslc mx mean
      = ((s.satInc STM_REFRESH_CNT 0).satInc STM_RD_DIST_CNT 0).erased pslc mx mean := by
  have hmay : s.mayRefresh (.reads n) pslc = true := decide_eq_true hlimit
  simp only [State.blockRefresh, hmay, Bool.not_true, Bool.false_eq_true, if_false]

theorem execBlockRefresh_counts {s : State} {n : Nat} {pslc : Bool} {mx mean : Nat} (hwork : s.stm.work = [])
    (hahead : s.ahead 6 = false) (hlimit : s.rd STM_LIMITS_RD_LIM 0 * (if pslc then 10000 else 1000) ≤ n) :
    ∃ t, exec (.blockRefresh (.reads n) pslc mx mean) s = .next t
      ∧ t.rd STM_REFRESH_CNT 0 = min (s.rd STM_REFRESH_CNT 0 + 1) (2 ^ STM_REFRESH_CNT.w - 1)
      ∧ t.rd STM_RD_DIST_CNT 0 = min (s.rd STM_RD_DIST_CNT 0 + 1) (2 ^ STM_RD_DIST_CNT.w - 1)
      ∧ t.stm.erases = s.stm.erases + 1 := by
  have h := State.erased_off (Nat.and_self _) (.refl (a := (s.satInc STM_REFRESH_CNT 0).satInc STM_RD_DIST_CNT 0)) pslc
    mx mean
  refine ⟨_, rfl, ?_⟩
  rw [State.medium_of_idle (w := .refresh (.reads n) pslc mx mean) hwork hahead, State.doWork,
    State.blockRefresh_of_reads hlimit]
  refine ⟨?_, ?_, State.erased_erases ..⟩ <;> rw [h.rd_eq (by decide +kernel)]
  · exact (State.rd_wr_ne _ _ (by decide)).trans (State.rd_satInc_self (by decide) (by decide))
  · rw [State.rd_satInc_self (by decide) (by decide), State.satInc, State.satAdd, State.rd_wr_ne _ _ (by decide)]

/-- What the spare blocks left change beside SPARE. -/
def F.setSpareTail : Nat := F.State.raiseInt ||| 1 <<< 580

theorem State.setSpare_off_written {m : Nat} {a s : State} {n : Nat} (hm : F.setSpareTail &&& m = F.setSpareTail)
    (h : Off m a (s.wr STM_SPARE 0 n)) : Off m a (s.setSpare n) := by
  unfold State.setSpare
  extract_lets page low was t
  have ht : Off m a t := .wr h (has_STM_STAT_SPARE_LOW (tb hm (by decide))) ..
  exact .ite (State.stand_off (sb hm (by decide)) (State.raiseInt_off (sb hm (by decide)) ht ..) ..)
    (.ite (State.unstand_off (sb hm (by decide)) ht ..) ht)

/-- The retirement is counted first; SPARE is written once it is recorded. -/
theorem State.blockRetire_off_counted (s : State) (erase pslc : Bool) (ch ce lun block spare : Nat) :
    Off (F.State.blockRetire ^^^ 1 <<< 711) (s.satInc STM_RETIRED 0) (s.blockRetire erase pslc ch ce lun block spare)
      ∧ ∃ u : State, Off (F.setSpareTail ||| F.State.shrink) (u.wr STM_SPARE 0 spare)
        (s.blockRetire erase pslc ch ce lun block spare) := by
  constructor
  · exact State.cond_off (State.setSpare_off (by decide) (State.raiseInt_off (by decide) (State.journal_off (by decide)
      .refl ..) ..) _) (fun _ h => State.shrink_off (by decide) h) _
  · unfold State.blockRetire
    extract_lets s1 s2
    exact ⟨s1.raiseInt [(pgSTM, 5)] pgSTM 2 allPorts, State.cond_off (State.setSpare_off_written (by decide) .refl)
      (fun _ h => State.shrink_off (by decide) h) _⟩

theorem execBlockRetire_counts {s : State} {erase pslc : Bool} {ch : Fin 2} {ce : Fin 4} {lun : Fin 16} {block : Word}
    {spare : Nat} :
    ∃ t, exec (.blockRetire erase pslc ch ce lun block spare) s = .next t
      ∧ t.rd STM_RETIRED 0 = min (s.rd STM_RETIRED 0 + 1) (2 ^ STM_RETIRED.w - 1)
      ∧ t.rd STM_SPARE 0 = spare % 2 ^ STM_SPARE.w := by
  obtain ⟨hcount, u, hspare⟩ := s.blockRetire_off_counted erase pslc ch ce lun block.toNat spare
  refine ⟨_, rfl, ?_, ?_⟩
  · rw [hcount.rd_eq (by decide +kernel)]
    exact State.rd_satInc_self (by decide) (by decide)
  · rw [hspare.rd_eq (by decide +kernel)]
    exact State.rd_wr_self _ _ (by decide) (by decide)

theorem execScrubPassComplete_completes {s : State} (hwork : s.stm.work = []) (hahead : s.ahead 7 = false) :
    ∃ t, exec .scrubPassComplete s = .next t
      ∧ t.rd STM_SCRUB_STAT_PASSES 0 = min (s.rd STM_SCRUB_STAT_PASSES 0 + 1) (2 ^ STM_SCRUB_STAT_PASSES.w - 1)
      ∧ t.rd STM_SCRUB_STAT_PROGRESS 0 = 0 ∧ t.rd STM_SCRUB_AGE 0 = 0 ∧ t.stm.scrubAt = s.now := by
  have h : Off (F.State.int ||| F.State.setStm)
      (((s.satInc STM_SCRUB_STAT_PASSES 0).wr STM_SCRUB_STAT_PROGRESS 0 0).wr STM_SCRUB_AGE 0 0) s.scrubDone :=
    State.int_off (by decide) (State.setStm_off (by decide) .refl _) ..
  refine ⟨_, rfl, ?_⟩
  rw [State.medium_of_idle (w := .scrub) hwork hahead, State.doWork]
  refine ⟨?_, ?_, ?_, rfl⟩ <;> rw [h.rd_eq (by decide +kernel)]
  · rw [State.rd_wr_ne _ _ (by decide), State.rd_wr_ne _ _ (by decide)]
    exact State.rd_satInc_self (by decide) (by decide)
  · rw [State.rd_wr_ne _ _ (by decide)]
    exact State.rd_wr_self _ _ (by decide) (by decide)
  · exact State.rd_wr_self _ _ (by decide) (by decide)

/-- Before 8,192 erases the checkpoint comes with the hour. -/
theorem State.wearCheckpoint_of_few {s : State} (h : s.stm.erases < 8192) :
    s.wearCheckpoint = (s.reach (s.stm.checkAt + secT 3600)).setStm fun x =>
      { x with erases := 0, checkAt := (s.reach (s.stm.checkAt + secT 3600)).now } := by
  unfold State.wearCheckpoint
  rw [if_neg (Nat.not_le.2 h)]

theorem State.wearCheckpoint_now {s : State} (h : s.stm.erases < 8192) :
    s.wearCheckpoint.now = max s.now (s.stm.checkAt + secT 3600) :=
  (congrArg State.now (State.wearCheckpoint_of_few h)).trans ((State.setStm_now ..).trans (State.reach_now ..))

theorem execWearCheckpoint_restarts {s : State} (herases : s.stm.erases < 8192) :
    ∃ t, exec .wearCheckpoint s = .next t ∧ t.stm.erases = 0 ∧ t.now = max s.now (s.stm.checkAt + secT 3600)
      ∧ t.stm.checkAt = t.now :=
  ⟨_, rfl, congrArg (·.stm.erases) (State.wearCheckpoint_of_few herases), State.wearCheckpoint_now herases, rfl⟩

end Sys2Proof.Machine

/-! PROOF. The medium is identified, formatted and reshaped (spec/12_storage_manager.md R328 to R331). -/
namespace Sys2Proof.Machine
open Sys2Proof
set_option Elab.async false

/-! ### A blank medium (R328) -/

/-- A blank medium: its spare blocks are counted, and book and rings are empty. -/
def State.blankMedium (s : State) (spare : Nat) : State :=
  ((((s.wr STM_STAT_MEDIUM 0 medBLANK).unstand 5 4).setSpare spare).setBook 0 true).clearHist.clearSnaps

/-- What a blank medium reaches beside MEDIUM. -/
def F.blankMediumTail : Nat :=
  F.State.unstand ||| F.State.setSpare ||| F.State.setBook ||| F.State.clearHist ||| F.State.clearSnaps

theorem State.blankMedium_off {m : Nat} {a s : State} (hm : F.blankMediumTail &&& m = F.blankMediumTail)
    (h : Off m a (s.wr STM_STAT_MEDIUM 0 medBLANK)) (spare : Nat) : Off m a (s.blankMedium spare) :=
  State.clearSnaps_off (sb hm (by decide)) (State.clearHist_off (sb hm (by decide)) (State.setBook_off (sb hm (by decide))
    (State.setSpare_off (sb hm (by decide)) (State.unstand_off (sb hm (by decide)) h ..) _) ..))

/-- What the identification of a blank medium reaches once READY is written. -/
def F.readyTail : Nat := F.blankMediumTail ||| F.State.setStm ||| F.State.raise ||| 15 <<< 520 ||| 1 <<< 593 ||| 1 <<< 595

/-- The geometry is written, then READY; what the medium holds comes last. -/
theorem State.storageReady_of_blank {s : State} {m : MediumInfo} (hready : s.rd STM_STAT_READY 0 = 0)
    (hkind : m.kind = .blank) :
    (∃ (u : State) (usable mts : Nat), Off F.readyTail ((((u.wr STM_GEOM_RAW 0 m.raw).wr STM_STAT_USABLE 0 usable).wr
        STM_IF_MTS 0 mts).wr STM_STAT_READY 0 1) (s.storageReady m))
      ∧ ∃ u : State, s.storageReady m = u.blankMedium m.spare := by
  have hoff : s.on STM_STAT_READY 0 = false := by rw [State.on, hready]; rfl
  unfold State.storageReady
  rw [hoff, if_neg Bool.false_ne_true]
  extract_lets s1 s2 s3 s4 s5 s6 own s7 s8 s9
  have h6 : Off F.readyTail s3 s6 :=
    .wr (.wr (.wr (.wr (State.setStm_off (by decide) .refl _) (has_STM_WEAR_N_MAX (by decide)) ..)
      (has_STM_WEAR_N_MEAN (by decide)) ..) (has_STM_WEAR_S_MAX (by decide)) ..) (has_STM_WEAR_S_MEAN (by decide)) ..
  have h7 : Off F.readyTail s3 s7 := State.cond_off h6
    (fun _ h => State.stand_off (by decide) (State.raise_off (by decide) h ..) ..) _
  have h8 : Off F.readyTail s3 s8 := State.cond_off h7 (fun _ h => State.unstand_off (by decide) h ..) _
  have h9 : Off F.readyTail s3 s9 := State.cond_off h8 (fun _ h => .wr h (has_STM_STAT_SINGLE (by decide)) ..) _
  clear_value s9
  rw [hkind]
  exact ⟨⟨s1, _, _, State.blankMedium_off (by decide) (.wr h9 (has_STM_STAT_MEDIUM (by decide)) ..) _⟩, s9, rfl⟩

theorem execStorageReady_blank {s : State} {m : MediumInfo} (hready : s.rd STM_STAT_READY 0 = 0) (hkind : m.kind = .blank) :
    ∃ t, exec (.storageReady m) s = .next t ∧ t.rd STM_STAT_READY 0 = 1 ∧ t.rd STM_STAT_MEDIUM 0 = medBLANK
      ∧ t.rd STM_GEOM_RAW 0 = m.raw % 2 ^ STM_GEOM_RAW.w ∧ t.stm.hist = [] ∧ t.stm.snaps = [] ∧ t.pb.book = [] := by
  obtain ⟨⟨u, usable, mts, h⟩, v, hblank⟩ := State.storageReady_of_blank hready hkind
  refine ⟨_, rfl, ?_, ?_, ?_, ?_⟩
  · rw [h.rd_eq (by decide +kernel)]
    exact State.rd_wr_self _ _ (by decide) (by decide)
  · rw [hblank, (State.blankMedium_off (m := F.blankMediumTail) (by decide) .refl _).rd_eq (by decide +kernel)]
    exact State.rd_wr_self _ _ (by decide) (by decide)
  · rw [h.rd_eq (by decide +kernel), State.rd_wr_ne _ _ (by decide), State.rd_wr_ne _ _ (by decide),
      State.rd_wr_ne _ _ (by decide)]
    exact State.rd_wr_self _ _ (by decide) (by decide)
  · rw [hblank]
    exact ⟨rfl, rfl, rfl⟩

/-! ### A format starts (R329, R331) -/

theorem State.formatStart_of_passed {s : State} {re : Bool} (hidle : s.stm.format = false) (hpass : s.fmtErr re = none) :
    s.formatStart re = (((s.wr STM_FMT_STAT_ERR 0 0).wr STM_FMT_STAT_BUSY 0 1).wr STM_FMT_STAT_DONE 0 0).setStm fun x =>
      { x with format := true, reshape := re } := by
  simp only [State.formatStart, hidle, hpass, Bool.false_eq_true, if_false]

theorem State.formatStart_shows {s : State} {re : Bool} (hidle : s.stm.format = false) (hpass : s.fmtErr re = none) :
    (s.formatStart re).stm.format = true ∧ (s.formatStart re).stm.reshape = re
      ∧ (s.formatStart re).rd STM_FMT_STAT_BUSY 0 = 1 ∧ (s.formatStart re).rd STM_FMT_STAT_DONE 0 = 0
      ∧ (s.formatStart re).rd STM_FMT_STAT_ERR 0 = 0 := by
  simp only [State.formatStart_of_passed hidle hpass, State.setStm_rd]
  refine ⟨rfl, rfl, ?_, ?_, ?_⟩
  · rw [State.rd_wr_ne _ _ (by decide)]
    exact State.rd_wr_self _ _ (by decide) (by decide)
  · exact State.rd_wr_self _ _ (by decide) (by decide)
  · rw [State.rd_wr_ne _ _ (by decide), State.rd_wr_ne _ _ (by decide)]
    exact State.rd_wr_self _ _ (by decide) (by decide)

theorem execFormatGo_starts {s : State} (hdef : s.sys.deferred = []) (hdark : s.sys.dark = false)
    (hidle : s.stm.format = false) (hpass : s.fmtErr false = none) :
    ∃ t, exec .formatGo s = .next t ∧ t.stm.format = true ∧ t.stm.reshape = false ∧ t.rd STM_FMT_STAT_BUSY 0 = 1
      ∧ t.rd STM_FMT_STAT_DONE 0 = 0 ∧ t.rd STM_FMT_STAT_ERR 0 = 0 := by
  refine ⟨_, rfl, ?_⟩
  rw [State.byHost_of_none hdef, State.formatGo, hdark, if_neg Bool.false_ne_true]
  exact State.formatStart_shows hidle hpass

theorem execReshape_starts {s : State} (hdef : s.sys.deferred = []) (hidle : s.stm.format = false)
    (hpass : s.fmtErr true = none) :
    ∃ t, exec .reshape s = .next t ∧ t.stm.format = true ∧ t.stm.reshape = true ∧ t.rd STM_FMT_STAT_BUSY 0 = 1
      ∧ t.rd STM_FMT_STAT_DONE 0 = 0 ∧ t.rd STM_FMT_STAT_ERR 0 = 0 := by
  refine ⟨_, rfl, ?_⟩
  rw [State.byHost_of_none hdef]
  exact State.formatStart_shows hidle hpass

/-! ### A format is done (R330) -/

/-- What the end of a first format reaches once MEDIUM is written, and once BUSY and DONE are. -/
def F.formattedTail : Nat := F.State.setStm ||| F.State.setBook ||| F.State.journal ||| F.State.int ||| 1 <<< 594
def F.formatDoneTail : Nat := F.formattedTail ||| F.State.clearHist ||| F.State.clearSnaps ||| 1 <<< 593

/-- BUSY and DONE are written first; MEDIUM follows, with the rings empty, and then header, book and record. -/
theorem State.formatDone_of_first {s : State} {bad : Nat} (hformat : s.stm.format = true) (hre : s.stm.reshape = false) :
    (∃ u : State, Off F.formatDoneTail ((u.wr STM_FMT_STAT_BUSY 0 0).wr STM_FMT_STAT_DONE 0 1) (s.formatDone bad))
      ∧ (∃ u : State, Off F.formattedTail (u.wr STM_STAT_MEDIUM 0 medOWN) (s.formatDone bad))
      ∧ (s.formatDone bad).stm.format = false ∧ (s.formatDone bad).stm.hist = [] := by
  unfold State.formatDone
  rw [hformat, hre, if_neg (by decide)]
  extract_lets re p16 mir b sz h s1 s2 s3 s4 f s5 s6 s7
  have htail {m : Nat} {a : State} (hm : F.formattedTail &&& m = F.formattedTail)
      (h : Off m a (s3.wr STM_STAT_MEDIUM 0 medOWN)) : Off m a (s7.int pgSTM 0) := by
    have h4 : Off m a s4 := .wr h (has_STM_STAT_MIRROR (tb hm (by decide))) ..
    have h5 : Off m a s5 := State.programmed_off (sb hm (by decide)) (State.setStm_off (sb hm (by decide)) h4 _) ..
    have h6 : Off m a s6 := by
      unfold s6
      rw [if_neg Bool.false_ne_true]
      exact State.setPb_off (sb hm (by decide)) (State.setBook_off (sb hm (by decide)) h5 ..) _
    exact State.int_off (sb hm (by decide)) (State.journal_off (sb hm (by decide)) h6 ..) ..
  have h7 : s7.stm.unprogrammed = s6.stm.unprogrammed := State.journal_unprogrammed ..
  refine ⟨⟨s2, htail (by decide) (.wr ?_ (has_STM_STAT_MEDIUM (by decide)) ..)⟩, ⟨s3, htail (by decide) .refl⟩,
    congrArg StmSt.format h7, congrArg StmSt.hist h7⟩
  exact State.clearSnaps_off (by decide) (State.clearHist_off (by decide) .refl)

theorem execFormatDone_completes {s : State} {bad : Nat} (hformat : s.stm.format = true) (hre : s.stm.reshape = false) :
    ∃ t, exec (.formatDone bad) s = .next t ∧ t.rd STM_STAT_MEDIUM 0 = medOWN ∧ t.rd STM_FMT_STAT_BUSY 0 = 0
      ∧ t.rd STM_FMT_STAT_DONE 0 = 1 ∧ t.stm.format = false ∧ t.stm.hist = [] := by
  obtain ⟨⟨u, h⟩, ⟨v, hmedium⟩, hstm⟩ := State.formatDone_of_first (bad := bad) hformat hre
  refine ⟨_, rfl, ?_, ?_, ?_, hstm⟩
  · rw [hmedium.rd_eq (by decide +kernel)]
    exact State.rd_wr_self _ _ (by decide) (by decide)
  · rw [h.rd_eq (by decide +kernel), State.rd_wr_ne _ _ (by decide)]
    exact State.rd_wr_self _ _ (by decide) (by decide)
  · rw [h.rd_eq (by decide +kernel)]
    exact State.rd_wr_self _ _ (by decide) (by decide)

/-- Settles O30: work that comes while none waits is done at once, and each event writes the counts and states of its clause
before what records, raises or counts anything else, which reaches none of them. -/
theorem storageMediumComplete : Obligations.StorageMediumComplete :=
  ⟨fun _ _ hu hen hunits hmedium hready hwork hahead =>
     execHistoryIntervalBoundary_closes hu hen hunits hmedium hready hwork hahead,
   fun _ _ => execStorageReady_blank, fun _ => execFormatGo_starts, fun _ => execReshape_starts,
   fun _ _ => execFormatDone_completes, fun _ _ _ _ => execCodewordUncorrectable_counts,
   fun _ _ _ _ _ => execBlockRefresh_counts, fun _ _ _ _ _ _ _ _ => execBlockRetire_counts,
   fun _ => execScrubPassComplete_completes, fun _ => execWearCheckpoint_restarts⟩

end Sys2Proof.Machine

/-! PROOF. The frame of the commands of protection, Curtain, collector, fabric and migrations. -/
namespace Sys2Proof.Machine
open Sys2Proof
set_option Elab.async false

/-- Settles O15: each clause names memories, pieces and fields that cover the mask of its command (Laws/OffCommands.lean). -/
theorem faultFrame : Obligations.FaultFrame :=
  ⟨fun a => onlyChanges_of_maskCovers (execOscillationGrowth_off · a) (by decide +kernel),
   fun a => onlyChanges_of_maskCovers (execOscillationLine_off · a) (by decide +kernel),
   fun a => onlyChanges_of_maskCovers (execOverdriveDetected_off · a) (by decide +kernel),
   fun a b => onlyChanges_of_maskCovers (execEmissionDetected_off · a b) (by decide +kernel),
   fun a => onlyChanges_of_maskCovers (execRemoteShutdown_off · a) (by decide +kernel),
   fun a => onlyChanges_of_maskCovers (execRemoteShutdownClear_off · a) (by decide +kernel),
   fun a => onlyChanges_of_maskCovers (execCurtainComplete_off · a) (by decide +kernel),
   fun a b => onlyChanges_of_maskCovers (execPortQuietPeriodEnd_off · a b) (by decide +kernel),
   fun a => onlyChanges_of_maskCovers (execLiftStart_off · a) (by decide +kernel),
   fun a => onlyChanges_of_maskCovers (execLiftComplete_off · a) (by decide +kernel),
   fun a => onlyChanges_of_maskCovers (execCurtainRelease_off · a) (by decide +kernel),
   fun a => onlyChanges_of_maskCovers (execClearLiftHistory_off · a) (by decide +kernel),
   fun a => onlyChanges_of_maskCovers (execBackoffEnd_off · a) (by decide +kernel),
   fun a b c => onlyChanges_of_maskCovers (execFaultEvent_off · a b c) (by decide +kernel),
   onlyChanges_of_maskCovers execFaultEpochLatch_off (by decide +kernel),
   fun a b => onlyChanges_of_maskCovers (execForceCause_off · a b) (by decide +kernel),
   fun a b => onlyChanges_of_maskCovers (execForceSource_off · a b) (by decide +kernel),
   fun a => onlyChanges_of_maskCovers (execSourceRecovery_off · a) (by decide +kernel),
   fun a b => onlyChanges_of_maskCovers (execHostClear_off · a b) (by decide +kernel),
   onlyChanges_of_maskCovers execFirstFaultAck_off (by decide +kernel),
   fun a b => onlyChanges_of_maskCovers (execSeverityWrite_off · a b) (by decide +kernel),
   onlyChanges_of_maskCovers execFaultNPulseEnd_off (by decide +kernel),
   onlyChanges_of_maskCovers execDeferredFaultNPulse_off (by decide +kernel),
   fun a => onlyChanges_of_maskCovers (execSlackWindowEnd_off · a) (by decide +kernel),
   onlyChanges_of_maskCovers execGuardHoldoffEnd_off (by decide +kernel),
   fun a b => onlyChanges_of_maskCovers (execWingsWarning_off · a b) (by decide +kernel),
   fun a => onlyChanges_of_maskCovers (execWingsLoss_off · a) (by decide +kernel),
   onlyChanges_of_maskCovers execMinClr_off (by decide +kernel),
   fun a => onlyChanges_of_maskCovers (execLedgerAudit_off · a) (by decide +kernel),
   fun a => onlyChanges_of_maskCovers (execLedgerSnapshotGo_off · a) (by decide +kernel),
   onlyChanges_of_maskCovers execLedgerSnapshotDone_off (by decide +kernel),
   fun a => onlyChanges_of_maskCovers (execLedgerClearGo_off · a) (by decide +kernel),
   onlyChanges_of_maskCovers execLedgerClearApply_off (by decide +kernel),
   fun a b => onlyChanges_of_maskCovers (execMigrationGo_off · a b) (by decide +kernel),
   onlyChanges_of_maskCovers execMigrationAbort_off (by decide +kernel),
   onlyChanges_of_maskCovers execMigrationWarmStart_off (by decide +kernel),
   onlyChanges_of_maskCovers execMigrationReady_off (by decide +kernel),
   onlyChanges_of_maskCovers execMigrationDeadline_off (by decide +kernel),
   onlyChanges_of_maskCovers execMigrationBoundary_off (by decide +kernel),
   onlyChanges_of_maskCovers execMigrationDone_off (by decide +kernel)⟩

end Sys2Proof.Machine

/-! PROOF. Sets of ports, bits of register fields, and the causes of the Curtain as they clear
(spec/05_network_protection.md R157). -/
namespace Sys2Proof.Machine
open Sys2Proof
set_option Elab.async false

/-! ### Sets of ports -/

theorem mem_portList {p : Ports} {m : Nat} : m ∈ portList p ↔ m < 8 ∧ p.getLsbD m = true := by
  simp only [portList, List.mem_filter, List.mem_range, BitVec.getLsbD]

theorem portBit_getLsbD (m : Nat) {k : Nat} (hk : k < 8) : (portBit m).getLsbD k = decide (k = m) := by
  simp only [portBit, BitVec.getLsbD_ofNat, hk, decide_true, Bool.true_and, Nat.testBit_two_pow, eq_comm]

theorem portsOf_getLsbD {k : Nat} (hk : k < 8) (l : List Nat) : (portsOf l).getLsbD k = decide (k ∈ l) := by
  have hfold : ∀ (l : List Nat) (a : Ports),
      (l.foldl (fun a m => a ||| portBit m) a).getLsbD k = (a.getLsbD k || decide (k ∈ l)) := by
    intro l
    induction l with
    | nil => intro a; simp
    | cons m l ih =>
      intro a
      rw [List.foldl_cons, ih, BitVec.getLsbD_or, portBit_getLsbD m hk]
      simp [Bool.or_assoc]
  simp [portsOf, hfold]

/-! ### Bits of a field -/

theorem and_two_pow_of_testBit {x b : Nat} (hb : x.testBit b = true) : x &&& 2 ^ b = 2 ^ b := by
  refine Nat.eq_of_testBit_eq fun i => ?_
  rw [Nat.testBit_and, Nat.testBit_two_pow]
  by_cases hi : b = i
  · rw [← hi, hb, Bool.true_and]
  · rw [decide_eq_false hi, Bool.and_false]

/-- The bit taken out is gone, whether it was set or not. -/
theorem testBit_sub_and_two_pow (x b : Nat) : (x - (x &&& 2 ^ b)).testBit b = false := by
  cases hb : x.testBit b with
  | false =>
    have hzero : x &&& 2 ^ b = 0 := Nat.eq_of_testBit_eq fun i => by
      rw [Nat.testBit_and, Nat.testBit_two_pow, Nat.zero_testBit]
      by_cases hi : b = i
      · rw [← hi, hb, Bool.false_and]
      · rw [decide_eq_false hi, Bool.and_false]
    rw [hzero, Nat.sub_zero, hb]
  | true =>
    have hodd : x / 2 ^ b % 2 = 1 := of_decide_eq_true (Nat.testBit_eq_decide_div_mod_eq.symm.trans hb)
    have hdiv : (x - 2 ^ b) / 2 ^ b = x / 2 ^ b - 1 := by
      rw [← Nat.sub_mul_div x (2 ^ b) 1, Nat.mul_one]
    rw [and_two_pow_of_testBit hb, Nat.testBit_eq_decide_div_mod_eq, hdiv, decide_eq_false_iff_not]
    omega

theorem State.tst_putBit_self {s : State} {f : Fld} {i b : Nat} (v : Bool) (hi : f.has i = true) (hw : f.w ≤ 32)
    (hb : b < f.w) : (s.putBit f i b v).tst f i b = v := by
  cases v
  · rw [State.putBit, if_neg Bool.false_ne_true, State.clrBits, State.tst, State.rd_wr_self _ _ hi hw,
      Nat.testBit_mod_two_pow, testBit_sub_and_two_pow, Bool.and_false]
  · rw [State.putBit, if_pos rfl, State.tst_orBits_self _ hi hw hb, Nat.testBit_two_pow_self, Bool.or_true]

theorem Off.tst_eq {m : Nat} {a s : State} (h : Off m a s) {f : Fld} {i : Nat} (hk : maskMisses m (f.key i) = true)
    (b : Nat) : s.tst f i b = a.tst f i b := by
  rw [State.tst, h.rd_eq hk, State.tst]

/-! ### Causes clear (R157) -/

/-- A cause written as ended on one port is gone there, and stands on the others as before. -/
theorem State.wr_cause_zero {s : State} {m k : Nat} (b : Nat) (hm : m < 8) :
    (s.wr (causeFld b) m 0).cause k b = (s.cause k b && k != m) := by
  obtain ⟨_, hw, _⟩ := causeFld_shape b
  by_cases hk : m = k
  · subst hk; simp [State.cause, State.on, State.rd_wr_self _ _ (causeFld_has b hm), hw]
  · simp [State.cause, State.on, State.rd_wr_ne _ _ (causeFld_key_ne b hk), Ne.symm hk]

/-- What the end of a cause reaches on a port beside the cause itself. -/
def F.clearCauseTail : Nat := F.State.setCport ||| F.State.setLifting

theorem State.clearCause_off_cause {s : State} {m b : Nat} (hstands : s.cause m b = true) :
    Off F.clearCauseTail (s.wr (causeFld b) m 0) (s.clearCause m b) := by
  have hm := Nat.and_self F.clearCauseTail
  unfold State.clearCause
  rw [if_pos hstands]
  extract_lets s1 s2
  have h2 : Off F.clearCauseTail s1 s2 := State.setCport_off (sb hm (by decide)) .refl ..
  exact .ite (State.setLifting_off (sb hm (by decide)) (State.setCport_off (sb hm (by decide)) h2 ..) ..) h2

theorem State.clearCause_cause {s : State} {m k b : Nat} (hm : m < 8) (hk : k < 8) (hb : b < 11) :
    (s.clearCause m b).cause k b = (s.cause k b && k != m) := by
  have hmiss : ∀ b < 11, ∀ k < 8, maskMisses F.clearCauseTail ((causeFld b).key k) = true := by decide +kernel
  cases hstands : s.cause m b with
  | true => rw [(State.clearCause_off_cause hstands).cause_eq (hmiss b hb k hk), State.wr_cause_zero b hm]
  | false =>
    have hsame : s.clearCause m b = s := if_neg (by rw [hstands]; exact Bool.false_ne_true)
    rw [hsame]
    by_cases hkm : k = m
    · subst hkm; rw [hstands, Bool.false_and]
    · rw [bne_iff_ne.2 hkm, Bool.and_true]

/-- A cause that clears on a set of ports stands on the others as before. -/
theorem State.clearCauses_cause {s : State} {ports : Ports} {k b : Nat} (hk : k < 8) (hb : b < 11) :
    (s.clearCauses ports b).cause k b = (s.cause k b && !ports.getLsbD k) := by
  have hfold : ∀ (l : List Nat) (s : State), (∀ m ∈ l, m < 8) →
      (l.foldl (fun s m => s.clearCause m b) s).cause k b = (s.cause k b && !decide (k ∈ l)) := by
    intro l
    induction l with
    | nil => intro s _; simp
    | cons m l ih =>
      intro s hl
      obtain ⟨hm, hl⟩ := List.forall_mem_cons.1 hl
      rw [List.foldl_cons, ih _ hl, State.clearCause_cause hm hk hb]
      have hne : (k != m) = !decide (k = m) := rfl
      simp only [hne, List.mem_cons, Bool.decide_or, Bool.not_or, Bool.and_assoc]
  rw [State.clearCauses, hfold _ s fun m h => (mem_portList.1 h).1]
  simp [mem_portList, hk]

end Sys2Proof.Machine

/-! PROOF. The detectors of network protection: a detector requests the Curtain and reports its cause
(spec/05_network_protection.md R143 to R147). -/
namespace Sys2Proof.Machine
open Sys2Proof
set_option Elab.async false

/-- A detector's cause stands on each of its ports, and its PG_ERR bit of PROT is set (R143). -/
theorem State.detect_latches {s : State} {b bit k : Nat} {ports : Ports} (hk : k < 8) (hb : b < 11)
    (hport : ports.getLsbD k = true) (hbit : bit < PG_ERR.w) :
    (s.detect b pgPROT bit ports).cause k b = true ∧ (s.detect b pgPROT bit ports).tst PG_ERR pgPROT bit = true := by
  have hmiss : ∀ b < 11, ∀ k < 8, maskMisses F.State.raiseInt ((causeFld b).key k) = true := by decide +kernel
  have hmem : k ∈ portList ports := mem_portList.2 ⟨hk, hport⟩
  unfold State.detect State.detectInt
  constructor
  · rw [(State.raiseInt_off (Nat.and_self _) .refl ..).cause_eq (hmiss b hb k hk), State.request_cause _ _ hk hb,
      decide_eq_true hmem, Bool.true_or]
  · exact State.raise_tst _ _ (by decide) hbit

theorem portBit_getLsbD_self {m : Nat} (hm : m < 8) : (portBit m).getLsbD m = true := by
  rw [portBit_getLsbD m hm, decide_eq_true rfl]

/-- The Curtain of an oscillation covers the lane's own transmit port (Table 5-4). -/
theorem State.oscPorts_tx {s : State} {n : Nat} (hport : (s.lane n).tx < 8) :
    (s.oscPorts n).getLsbD (s.lane n).tx = true := by
  rw [State.oscPorts, portsOf_getLsbD hport, decide_eq_true List.mem_cons_self]

/-- An oscillation latches on a lane that repeats (R144, R145). -/
theorem State.oscillation_latches {s : State} {n : Nat} (hactive : (s.lane n).active = true)
    (htx : (s.lane n).txEn = true) (hport : (s.lane n).tx < 8) :
    (s.oscillation n).cause (s.lane n).tx cOSC = true ∧ (s.oscillation n).tst PG_ERR pgPROT 1 = true := by
  have hgo : s.oscillation n = (s.detect cOSC pgPROT 1 (s.oscPorts n)).oscReset (s.oscPorts n) :=
    if_pos (by rw [hactive, htx]; rfl)
  have hmiss : ∀ k < 8, maskMisses F.State.oscReset ((causeFld cOSC).key k) = true := by decide +kernel
  have hreset := State.oscReset_off (Nat.and_self _) (.refl (a := s.detect cOSC pgPROT 1 (s.oscPorts n))) (s.oscPorts n)
  rw [hgo, hreset.cause_eq (hmiss _ hport), hreset.tst_eq (by decide +kernel)]
  exact State.detect_latches hport (by decide) (State.oscPorts_tx hport) (by decide)

theorem execOscillationGrowth_latches {s : State} {n : Fin 32} (hactive : (s.lane n).active = true)
    (htx : (s.lane n).txEn = true) (hport : (s.lane n).tx < 8) (hmet : (s.lane n).osc.grow = true) :
    ∃ t, exec (.oscillationGrowth n) s = .next t ∧ t.cause (s.lane n).tx cOSC = true
      ∧ t.tst PG_ERR pgPROT 1 = true := by
  have hlane := s.setLane_lane_self n fun l => { l with osc := { l.osc with grow := false } }
  have hlatch := State.oscillation_latches (n := n) (by rw [hlane]; exact hactive) (by rw [hlane]; exact htx)
    (by rw [hlane]; exact hport)
  refine ⟨_, rfl, ?_⟩
  rw [State.oscGrowth, if_pos hmet]
  rwa [hlane] at hlatch

theorem execOscillationLine_latches {s : State} {n : Fin 32} (hactive : (s.lane n).active = true)
    (htx : (s.lane n).txEn = true) (hport : (s.lane n).tx < 8) (hmet : (s.lane n).osc.line = true) :
    ∃ t, exec (.oscillationLine n) s = .next t ∧ t.cause (s.lane n).tx cOSC = true
      ∧ t.tst PG_ERR pgPROT 1 = true := by
  have hlane := s.setLane_lane_self n fun l => { l with osc := { l.osc with line := false } }
  have hlatch := State.oscillation_latches (n := n) (by rw [hlane]; exact hactive) (by rw [hlane]; exact htx)
    (by rw [hlane]; exact hport)
  refine ⟨_, rfl, ?_⟩
  rw [State.oscLine, if_pos hmet]
  rwa [hlane] at hlatch

theorem execOverdriveDetected_latches {s : State} {m : Fin 8} (hen : s.rd CONVTX_CFG_EN m ≠ 0)
    (hmet : (s.cv (8 + m)).odMet = true) :
    ∃ t, exec (.overdriveDetected m) s = .next t ∧ t.cause m cOVERDRIVE = true ∧ t.tst PG_ERR pgPROT 4 = true := by
  have hgo : (s.on CONVTX_CFG_EN m && (s.cv (8 + m)).odMet) = true := by rw [State.on, bne_iff_ne.2 hen, hmet]; rfl
  refine ⟨_, rfl, ?_⟩
  rw [State.overdrive, if_pos hgo]
  exact State.detect_latches m.isLt (by decide) (portBit_getLsbD_self m.isLt) (by decide)

theorem execEmissionDetected_latches {s : State} {m : Fin 8} {b : Fin 4} (hen : s.rd CONVTX_CFG_EN m ≠ 0)
    (hmet : (s.cv (8 + m)).emMet.getLsbD b = true) :
    ∃ t, exec (.emissionDetected m b) s = .next t ∧ t.cause m cEMISSION = true ∧ t.tst PG_ERR pgPROT 3 = true := by
  have hgo : (s.on CONVTX_CFG_EN m && (s.cv (8 + m)).emMet.getLsbD b) = true := by
    rw [State.on, bne_iff_ne.2 hen, hmet]; rfl
  refine ⟨_, rfl, ?_⟩
  rw [State.emission, if_pos hgo]
  exact State.detect_latches m.isLt (by decide) (portBit_getLsbD_self m.isLt) (by decide)

/-- Settles O32: a criterion that is met requests the Curtain for the port and reports its cause of PROT, and the reset of
estimates that follows an oscillation reaches neither. -/
theorem protectionEventsComplete : Obligations.ProtectionEventsComplete :=
  ⟨fun _ _ => execOscillationGrowth_latches, fun _ _ => execOscillationLine_latches,
   fun _ _ => execOverdriveDetected_latches, fun _ _ _ => execEmissionDetected_latches⟩

end Sys2Proof.Machine

/-! PROOF. The host's shutdown and release of the Curtain (spec/05_network_protection.md R151, R157, R161). -/
namespace Sys2Proof.Machine
open Sys2Proof
set_option Elab.async false

/-! ### CUR_HOST (R151, R157) -/

/-- The ports that a word of CUR_HOST shuts. -/
def shutPorts (v : Word) : Ports := if CUR_HOST_ALL.of v = 1 then allPorts else BitVec.ofNat 8 (CUR_HOST_SHUT.of v)

theorem shutPorts_getLsbD {v : Word} {k : Nat} (hall : CUR_HOST_ALL.of v = 0) (hk : k < 8) :
    (shutPorts v).getLsbD k = (CUR_HOST_SHUT.of v).testBit k := by
  rw [shutPorts, hall, if_neg Nat.zero_ne_one, BitVec.getLsbD_ofNat, decide_eq_true hk, Bool.true_and]

/-- The ports with the HOST cause. -/
def State.hostPorts (s : State) : Ports := portsOf ((List.range 8).filter fun m => s.cause m cHOST)

theorem State.hostPorts_getLsbD {s : State} {k : Nat} (hk : k < 8) : s.hostPorts.getLsbD k = s.cause k cHOST := by
  rw [State.hostPorts, portsOf_getLsbD hk]
  simp [List.mem_filter, hk]

/-- CUR_HOST as a word leaves it. -/
def State.storeCurHost (s : State) (v : Word) : State :=
  (s.wr CUR_HOST_ALL 0 (CUR_HOST_ALL.of v)).wr CUR_HOST_SHUT 0 (CUR_HOST_SHUT.of v)

theorem State.storeCurHost_shut (s : State) (v : Word) : (s.storeCurHost v).rd CUR_HOST_SHUT 0 = CUR_HOST_SHUT.of v :=
  (State.rd_wr_self _ _ (by decide) (by decide)).trans (Nat.mod_mod _ _)

theorem State.storeCurHost_cause {s : State} {v : Word} {k : Nat} (hk : k < 8) :
    (s.storeCurHost v).cause k cHOST = s.cause k cHOST := by
  have hall : ∀ k < 8, CUR_HOST_ALL.key 0 ≠ (causeFld cHOST).key k := by decide
  have hshut : ∀ k < 8, CUR_HOST_SHUT.key 0 ≠ (causeFld cHOST).key k := by decide
  rw [State.cause, State.on, State.storeCurHost, State.rd_wr_ne _ _ (hshut k hk), State.rd_wr_ne _ _ (hall k hk)]
  rfl

/-- A write of CUR_HOST requests the Curtain on the ports newly shut, and then ends the HOST cause on those released. -/
theorem State.writeCurHost_eq (s : State) (v : Word) :
    s.writeCurHost v = ((s.storeCurHost v).cond (shutPorts v &&& ~~~s.hostPorts != 0) fun s' =>
      s'.request (shutPorts v &&& ~~~s.hostPorts) cHOST false false).clearCauses (s.hostPorts &&& ~~~shutPorts v) cHOST :=
  rfl

theorem State.writeCurHost_shut (s : State) (v : Word) : (s.writeCurHost v).rd CUR_HOST_SHUT 0 = CUR_HOST_SHUT.of v := by
  have h : Off (F.State.request ||| F.State.clearCauses) (s.storeCurHost v) (s.writeCurHost v) := by
    have hm := Nat.and_self (F.State.request ||| F.State.clearCauses)
    rw [State.writeCurHost_eq]
    exact State.clearCauses_off (sb hm (by decide))
      (State.cond_off .refl (fun _ h => State.request_off (sb hm (by decide)) h ..) _) ..
  rw [h.rd_eq (by decide +kernel), State.storeCurHost_shut]

/-- After a write of CUR_HOST the HOST cause stands on the ports that the word shuts, and on no other. -/
theorem State.writeCurHost_cause {s : State} {v : Word} {k : Nat} (hk : k < 8) :
    (s.writeCurHost v).cause k cHOST = (shutPorts v).getLsbD k := by
  have hrequest : ((s.storeCurHost v).cond (shutPorts v &&& ~~~s.hostPorts != 0) fun s' =>
      s'.request (shutPorts v &&& ~~~s.hostPorts) cHOST false false).cause k cHOST
        = ((shutPorts v).getLsbD k && !s.cause k cHOST || s.cause k cHOST) := by
    have hnew : (shutPorts v &&& ~~~s.hostPorts).getLsbD k = ((shutPorts v).getLsbD k && !s.cause k cHOST) := by
      rw [BitVec.getLsbD_and, BitVec.getLsbD_not, State.hostPorts_getLsbD hk, decide_eq_true hk, Bool.true_and]
    rw [← hnew]
    unfold State.cond
    split
    case isTrue =>
      rw [State.request_cause _ _ hk (by decide), State.storeCurHost_cause hk]
      simp [mem_portList, hk]
    case isFalse hnone =>
      have hzero : shutPorts v &&& ~~~s.hostPorts = 0 := Decidable.byContradiction fun h => hnone (bne_iff_ne.2 h)
      rw [State.storeCurHost_cause hk, hzero, show (0 : Ports).getLsbD k = false from BitVec.getLsbD_zero, Bool.false_or]
  rw [State.writeCurHost_eq, State.clearCauses_cause hk (by decide), hrequest, BitVec.getLsbD_and, BitVec.getLsbD_not,
    State.hostPorts_getLsbD hk]
  cases (shutPorts v).getLsbD k <;> cases s.cause k cHOST <;> simp [hk]

theorem execRemoteShutdown_shuts {s : State} {v : Word} {m : Fin 8} (hdef : s.sys.deferred = [])
    (hall : CUR_HOST_ALL.of v = 0) (hshut : (CUR_HOST_SHUT.of v).testBit m = true) :
    ∃ t, exec (.remoteShutdown v) s = .next t ∧ t.cause m cHOST = true ∧ t.rd CUR_HOST_SHUT 0 = CUR_HOST_SHUT.of v := by
  refine ⟨_, rfl, ?_⟩
  rw [State.byHost_of_none hdef, State.writeCurHost_cause m.isLt, shutPorts_getLsbD hall m.isLt]
  exact ⟨hshut, s.writeCurHost_shut v⟩

theorem execRemoteShutdownClear_clears {s : State} {v : Word} {m : Fin 8} (hdef : s.sys.deferred = [])
    (hall : CUR_HOST_ALL.of v = 0) (hshut : (CUR_HOST_SHUT.of v).testBit m = false) :
    ∃ t, exec (.remoteShutdownClear v) s = .next t ∧ t.cause m cHOST = false
      ∧ t.rd CUR_HOST_SHUT 0 = CUR_HOST_SHUT.of v := by
  refine ⟨_, rfl, ?_⟩
  rw [State.byHost_of_none hdef, State.writeCurHost_cause m.isLt, shutPorts_getLsbD hall m.isLt]
  exact ⟨hshut, s.writeCurHost_shut v⟩

/-! ### CUR_RELEASE (R161) -/

theorem State.cause_of_mem_causes {s : State} {m b : Nat} (h : b ∈ s.causes m) : s.cause m b = true :=
  (List.mem_filter.1 h).2

/-- The one port named holds LATCH alone: the latch is released, and the record follows. -/
theorem State.curRelease_releases {s : State} {v : Word} {m : Nat} (hm : m < 8)
    (hports : portList (BitVec.ofNat 8 (CUR_RELEASE_PORTS.of v)) = [m]) (hcauses : s.causes m = [cLATCH]) :
    (s.curRelease v).cause m cLATCH = false := by
  have hlatch : s.cause m cLATCH = true := State.cause_of_mem_causes (by rw [hcauses]; exact List.mem_cons_self)
  have hmiss : ∀ m < 8, maskMisses F.State.journal ((causeFld cLATCH).key m) = true := by decide +kernel
  unfold State.curRelease
  extract_lets ps clr latched stands ok bad s1 s2 s3
  have hstands : stands m = false := by simp only [stands, hcauses]; rfl
  have hlatched : latched = [m] := by simp only [latched, ps, hports, List.filter_cons, hlatch]; rfl
  have hok : ok = [m] := by simp only [ok, hlatched, List.filter_cons, hstands]; rfl
  have hbad : bad = [] := by simp only [bad, hlatched, List.filter_cons, hstands]; rfl
  have h3 : Off F.State.journal s2 s3 :=
    State.cond_off .refl (fun _ h => State.journal_off (Nat.and_self _) h ..) _
  rw [hbad, List.isEmpty_nil, if_pos rfl, h3.cause_eq (hmiss m hm)]
  simp only [s2, hok, List.foldl_cons, List.foldl_nil]
  rw [State.clearCause_cause hm hm (by decide), bne_self_eq_false, Bool.and_false]

theorem execCurtainRelease_releases {s : State} {v : Word} {m : Fin 8} (hdef : s.sys.deferred = [])
    (hports : portList (BitVec.ofNat 8 (CUR_RELEASE_PORTS.of (v &&& 0xFF#32))) = [m.val])
    (hcauses : s.causes m = [cLATCH]) :
    ∃ t, exec (.curtainRelease v) s = .next t ∧ t.cause m cLATCH = false := by
  refine ⟨_, rfl, ?_⟩
  rw [State.byHost_of_none hdef]
  exact State.curRelease_releases m.isLt hports hcauses

/-- With CLR_HIST set and no latch on the one port named, its lift history is emptied and nothing else happens. -/
theorem State.curRelease_clrHist {s : State} {v : Word} {m : Nat} (hclr : CUR_RELEASE_CLR_HIST.of v = 1)
    (hports : portList (BitVec.ofNat 8 (CUR_RELEASE_PORTS.of v)) = [m]) (hlatch : s.cause m cLATCH = false) :
    s.curRelease v = s.setCport m fun c => { c with hist := [] } := by
  simp [State.curRelease, State.cond, hclr, hports, hlatch]

theorem execClearLiftHistory_clears {s : State} {v : Word} {m : Fin 8} (hdef : s.sys.deferred = [])
    (hports : portList (BitVec.ofNat 8 (CUR_RELEASE_PORTS.of (v ||| 0x100#32))) = [m.val])
    (hlatch : s.cause m cLATCH = false) :
    ∃ t, exec (.clearLiftHistory v) s = .next t ∧ (t.cport m).hist = [] := by
  refine ⟨_, rfl, ?_⟩
  rw [State.byHost_of_none hdef, State.curRelease_clrHist (Fld.of_or_set v rfl rfl) hports hlatch,
    State.setCport_cport_self]

end Sys2Proof.Machine

/-! PROOF. The Curtain is complete, causes end with their quiet periods, ports lift and back-off caps end
(spec/05_network_protection.md R153, R157, R158, R162). -/
namespace Sys2Proof.Machine
open Sys2Proof
set_option Elab.async false

/-! ### The Curtain is complete (R153) -/

/-- What a complete Curtain reaches beside CUR_STAT.DOWN. -/
def F.completePortTail : Nat :=
  F.State.setCport ||| F.State.setFcSrc ||| F.State.snapCurtain ||| F.State.int ||| F.State.alert

theorem State.completePort_down {s : State} {m : Nat} (hm : m < 8) :
    (s.completePort m).tst CUR_STAT_DOWN 0 m = true := by
  have h : Off F.completePortTail (s.putBit CUR_STAT_DOWN 0 m true) (s.completePort m) := by
    have hand := Nat.and_self F.completePortTail
    unfold State.completePort
    extract_lets s1 s2 s3 s4
    have h2 : Off F.completePortTail s1 s2 := State.setCport_off (sb hand (by decide)) .refl ..
    have h3 : Off F.completePortTail s1 s3 :=
      .foldl h2 (fun _ h _ => .ite (State.setFcSrc_off (sb hand (by decide)) h ..) h) _
    have h4 : Off F.completePortTail s1 s4 :=
      .foldl h3 (fun _ h _ => State.snapCurtain_off (sb hand (by decide)) h ..) _
    exact State.alert_off (sb hand (by decide)) (State.int_off (sb hand (by decide)) h4 ..) ..
  rw [h.tst_eq (by decide +kernel), State.tst_putBit_self true (by decide) (by decide) hm]

theorem State.completePort_int (s : State) (m : Nat) : (s.completePort m).tst PG_INT_STAT pgCUR 0 = true := by
  unfold State.completePort
  rw [(State.alert_off (Nat.and_self _) .refl 4).tst_eq (by decide +kernel), State.int_tst _ (by decide) (by decide)]

theorem execCurtainComplete_completes {s : State} {ports : BitVec 8} {m : Nat}
    (hone : ((portList ports).filter fun m => (s.cport m).completing) = [m]) :
    ∃ t, exec (.curtainComplete ports) s = .next t ∧ t.tst CUR_STAT_DOWN 0 m = true
      ∧ t.tst PG_INT_STAT pgCUR 0 = true := by
  have hmem : m ∈ (portList ports).filter fun m => (s.cport m).completing := by rw [hone]; exact List.mem_cons_self
  have hm : m < 8 := (mem_portList.1 (List.mem_filter.1 hmem).1).1
  refine ⟨_, rfl, ?_⟩
  rw [State.curtainComplete, hone]
  exact ⟨State.completePort_down hm, s.completePort_int m⟩

/-! ### Quiet periods (R157) -/

/-- A cause of source 17 clears at the end of its quiet period, and the source does not recover with it. -/
theorem State.portQuietEnd_of_source17 {s : State} {m b q : Nat} (howner : causeOwner b = some 17)
    (hlen : s.quietLen 17 = some q) (hcompl : (s.cport m).completing = false) (hcause : s.cause m b = true)
    (hready : s.quietReady m b = true) (htherm : b ≠ cTHERM) :
    ∃ from_, s.portQuietEnd m b = (s.reach (from_ + q)).clearCause m b := by
  have hgo : ((s.cport m).completing || !s.cause m b || !s.quietReady m b || b == cTHERM) = false := by
    rw [hcompl, hcause, hready, beq_false_of_ne htherm]; rfl
  unfold State.portQuietEnd
  simp only [howner, hlen, hgo]
  exact ⟨_, rfl⟩

theorem execPortQuietPeriodEnd_clears {s : State} {m : Fin 8} {b : Fin 7} {n q : Nat} (howner : causeOwner b = some n)
    (hlen : s.quietLen n = some q) (hcompl : (s.cport m).completing = false) (hcause : s.cause m b = true)
    (hready : s.quietReady m b = true) (htherm : b.val ≠ cTHERM) (hn : n = 17) :
    ∃ t, exec (.portQuietPeriodEnd m b) s = .next t ∧ t.cause m b = false := by
  subst hn
  obtain ⟨from_, hend⟩ := State.portQuietEnd_of_source17 howner hlen hcompl hcause hready htherm
  refine ⟨_, rfl, ?_⟩
  rw [hend, State.clearCause_cause m.isLt m.isLt (Nat.lt_of_lt_of_le b.isLt (by decide)), bne_self_eq_false, Bool.and_false]

/-! ### Lifts (R158) -/

theorem execLiftStart_starts {s : State} {m : Fin 8} (hdue : (s.cport m).lift = .due) (hcauses : s.causes m = [])
    (hheld : s.held m = false) (hcount : (s.cport m).counted = false) :
    ∃ t, exec (.liftStart m) s = .next t
      ∧ (t.cport m).lift = (if s.tddPort m then .waitTurn else .settle s.now) := by
  have hstart : s.liftStart m
      = s.setCport m fun c => { c with lift := if s.tddPort m then .waitTurn else .settle s.now } := by
    simp [State.liftStart, hdue, hcauses, hheld, hcount]
  refine ⟨_, rfl, ?_⟩
  rw [hstart, State.setCport_cport_self]

/-- What a completed lift reaches beside the port's LIFTING and DOWN. -/
def F.liftDoneTail : Nat := F.State.startCap ||| F.State.journalInt

theorem State.liftDone_off_lifted (s : State) (m : Nat) :
    ∃ u : State, Off F.liftDoneTail ((u.setLifting m false).putBit CUR_STAT_DOWN 0 m false) (s.liftDone m) := by
  have hm := Nat.and_self F.liftDoneTail
  unfold State.liftDone
  extract_lets counted s1 s2 s3
  refine ⟨s1, State.journalInt_off (sb hm (by decide)) ?_ ..⟩
  exact .foldl .refl (fun _ h _ => State.startCap_off (sb hm (by decide)) h ..) _

theorem State.liftDone_down {s : State} {m : Nat} (hm : m < 8) : (s.liftDone m).tst CUR_STAT_DOWN 0 m = false := by
  obtain ⟨u, h⟩ := s.liftDone_off_lifted m
  rw [h.tst_eq (by decide +kernel), State.tst_putBit_self false (by decide) (by decide) hm]

theorem State.liftDone_lifting {s : State} {m : Nat} (hm : m < 8) : (s.liftDone m).rd CUR_CAUSE_LIFTING m = 0 := by
  obtain ⟨u, h⟩ := s.liftDone_off_lifted m
  have hkey : ∀ m < 8, CUR_STAT_DOWN.key 0 ≠ CUR_CAUSE_LIFTING.key m := by decide
  rw [h.rd_eq_of_avoids (by decide +kernel) hm]
  refine (State.rd_wr_ne _ _ (hkey m hm)).trans ?_
  exact State.rd_wr_self _ _ (Fld.has_of_lt rfl rfl hm) (by decide)

theorem State.liftDone_now (s : State) (m : Nat) : (s.liftDone m).now = s.now :=
  (State.liftDone_off (Nat.and_self _) .refl m).now_eq (by decide)

theorem State.liftComplete_of_settle {s : State} {m a : Nat} (hsettle : (s.cport m).lift = .settle a)
    (hheld : s.held m = false) : s.liftComplete m = (s.reach (s.releaseAt m a)).liftDone m := by
  simp [State.liftComplete, hsettle, hheld]

theorem execLiftComplete_lifts {s : State} {m : Fin 8} {a : Nat} (hsettle : (s.cport m).lift = .settle a)
    (hheld : s.held m = false) :
    ∃ t, exec (.liftComplete m) s = .next t ∧ t.tst CUR_STAT_DOWN 0 m = false ∧ t.rd CUR_CAUSE_LIFTING m = 0
      ∧ t.now = max s.now (s.releaseAt m a) := by
  refine ⟨_, rfl, ?_⟩
  rw [State.liftComplete_of_settle hsettle hheld]
  exact ⟨State.liftDone_down m.isLt, State.liftDone_lifting m.isLt, by rw [State.liftDone_now, State.reach_now]⟩

/-! ### Back-off caps (R162) -/

theorem State.capNow_isSome {s : State} {n : Nat} : (s.capNow n).isSome = (s.lane n).cap.isSome := by
  rw [State.capNow, Option.isSome_map]

/-- A cap that is brought up to its last lane sample still runs. -/
theorem State.bringCap_cap (s : State) (n : Nat) : ((s.bringCap n).lane n).cap = s.capNow n := by
  unfold State.bringCap
  cases hcap : s.capNow n with
  | none =>
    have hnone := s.capNow_isSome (n := n)
    rw [hcap] at hnone
    exact Option.isSome_eq_false_iff.1 hnone.symm |> Option.isNone_iff_eq_none.1
  | some c => simp only [State.wr_lane, State.setLane_lane_self]

theorem State.toSample_lane (s : State) (e n k i : Nat) : (s.toSample e n k).lane i = s.lane i :=
  (State.toSample_off (Nat.and_self _) .refl e n k).lane_eq (by decide) i

theorem State.endCap_ends {s : State} {n : Nat} (hn : n < 32) (hcap : (s.lane n).cap.isSome = true) :
    ((s.endCap n).lane n).cap = none ∧ (s.endCap n).rd PROT_LANE_STAT_BACKOFF n = 0 ∧ (s.endCap n).now = s.now := by
  obtain ⟨c, hc⟩ := Option.isSome_iff_exists.1 hcap
  have hend : s.endCap n = ((s.setLane n fun l => { l with cap := none, capNext := none }).wr
      PROT_LANE_STAT_BACKOFF n 0).int pgCUR 4 := by
    rw [State.endCap, hc]
  rw [hend]
  refine ⟨congrArg LaneSt.cap (s.setLane_lane_self n fun l => { l with cap := none, capNext := none }), ?_, rfl⟩
  rw [(State.int_off (Nat.and_self _) .refl pgCUR 4).rd_eq_of_avoids (by decide +kernel) hn]
  exact State.rd_wr_self _ _ (Fld.has_of_lt rfl rfl hn) (by decide)

theorem execBackoffEnd_ends {s u : State} {n : Fin 32} (hcap : (s.lane n).cap.isSome = true)
    (hu : u = (s.toSample (evCAP + n) n 1024).bringCap n)
    (hup : min (u.lane n).request (u.rd LANE_GAIN_LIMIT n) * tps ≤ (u.lane n).cap.getD 0) :
    ∃ t, exec (.backoffEnd n) s = .next t ∧ (t.lane n).cap = none ∧ t.rd PROT_LANE_STAT_BACKOFF n = 0
      ∧ t.now = u.now := by
  have hruns : (u.lane n).cap.isSome = true := by
    rw [hu, State.bringCap_cap, State.capNow_isSome, State.toSample_lane, hcap]
  have hend : s.backoffEnd n = u.endCap n := by
    rw [State.backoffEnd, if_neg (by rw [← Option.not_isSome, hcap]; exact Bool.false_ne_true), ← hu]
    exact if_pos hup
  refine ⟨_, rfl, ?_⟩
  rw [hend]
  exact State.endCap_ends n.isLt hruns

/-- Settles O33: a write of CUR_HOST leaves the HOST cause on the ports it shuts alone; a release, a quiet period, a lift and a
back-off end what their clauses name, and what follows in them reaches none of it. -/
theorem curtainCommandsComplete : Obligations.CurtainCommandsComplete :=
  ⟨fun _ _ _ hdef hall hshut _ => execRemoteShutdown_shuts hdef hall hshut,
   fun _ _ _ hdef hall hshut _ => execRemoteShutdownClear_clears hdef hall hshut,
   fun _ _ _ => execCurtainComplete_completes, fun _ _ _ _ _ => execPortQuietPeriodEnd_clears,
   fun _ _ => execLiftStart_starts, fun _ _ _ => execLiftComplete_lifts,
   fun _ _ _ => execCurtainRelease_releases, fun _ _ _ => execClearLiftHistory_clears,
   fun _ _ _ => execBackoffEnd_ends⟩

end Sys2Proof.Machine

/-! PROOF. The ports and the pins out of an operation's reach, what the clock leaves of them, and loops over the ports. -/
namespace Sys2Proof.Machine
open Sys2Proof

/-! ### The sequencer's state under a mask -/

section
variable {m : Nat} {a s : State} (h : Off m a s)
include h

theorem Off.rfc_eq (hb : m.testBit (partNo .rfc) = false) : s.rfc = a.rfc := h.part .rfc hb

theorem Off.rport_eq (hb : m.testBit (partNo .rfc) = false) (k : Nat) : s.rport k = a.rport k := by
  rw [State.rport, h.rfc_eq hb, State.rport]

theorem Off.pins_eq (hb : m.testBit (partNo .pins) = false) : s.pins = a.pins := h.part .pins hb

end

/-! ### The clock goes on -/

@[simp] theorem State.reach_rd (s : State) (n : Nat) (f : Fld) (i : Nat) : (s.reach n).rd f i = s.rd f i :=
  State.rd_congr (by unfold State.reach; split <;> rfl) f i

@[simp] theorem State.reach_rfc (s : State) (n : Nat) : (s.reach n).rfc = s.rfc :=
  (State.reach_off (Nat.and_self _) .refl n).rfc_eq (by decide)

@[simp] theorem State.reach_rport (s : State) (n k : Nat) : (s.reach n).rport k = s.rport k := by
  rw [State.rport, State.reach_rfc, State.rport]

/-! ### Loops of which no turn, or one, changes what is read -/

theorem foldl_keeps {α β γ : Type} {f : β → α → β} (g : β → γ) {l : List α} (hf : ∀ s, ∀ b ∈ l, g (f s b) = g s) :
    ∀ s, g (l.foldl f s) = g s := by
  induction l with
  | nil => exact fun _ => rfl
  | cons b l ih =>
    intro s
    rw [List.foldl_cons, ih fun s c hc => hf s c (List.mem_cons_of_mem _ hc), hf s b List.mem_cons_self]

/-- Where the turns of the others leave what is read, the one turn finds it as it was at the start, and leaves it as it is at the
end. -/
theorem foldl_turn {α β γ : Type} {f : β → α → β} (g : β → γ) {l : List α} {a : α} (hmem : a ∈ l) (hnodup : l.Nodup)
    (hothers : ∀ s, ∀ b ∈ l, b ≠ a → g (f s b) = g s) (s : β) : ∃ u, g u = g s ∧ g (l.foldl f s) = g (f u a) := by
  obtain ⟨before, after, rfl⟩ := List.append_of_mem hmem
  obtain ⟨-, htail, hcross⟩ := List.pairwise_append.1 hnodup
  refine ⟨before.foldl f s, foldl_keeps g (fun s b hb => ?_) s, ?_⟩
  · exact hothers s b (List.mem_append_left _ hb) (hcross b hb a List.mem_cons_self)
  · rw [List.foldl_append, List.foldl_cons]
    refine foldl_keeps g (fun s b hb => ?_) _
    exact hothers s b (List.mem_append_right _ (List.mem_cons_of_mem _ hb)) ((List.pairwise_cons.1 htail).1 b hb).symm

end Sys2Proof.Machine

/-! PROOF. Entries to TX, the transmit timeouts, the attenuator buses, line faults and the uses of a TDD port
(spec/07_radio_sequencing.md R210, R215, R216, R218, R219, R221, R223). -/
namespace Sys2Proof.Machine
open Sys2Proof

/-! ### An entry to TX is complete (R210) -/

theorem State.setPortState_portState {s : State} {m st : Nat} (hm : m < 8) (hst : st < 8) :
    (s.setPortState m st).portState m = st :=
  (State.rd_wr_self _ _ (Fld.has_of_lt rfl rfl hm) (by decide)).trans (Nat.mod_eq_of_lt hst)

theorem State.setPortState_settle (s : State) (m st : Nat) :
    ((s.setPortState m st).rport m).settle = (s.rport m).settle := by
  rw [State.setPortState, State.setRport_rport_self]
  split <;> rfl

/-- The loss timer alone is set: PA_SETTLE runs on. -/
theorem State.lossEval_settle (s : State) (m : Nat) : ((s.lossEval m).rport m).settle = (s.rport m).settle := by
  unfold State.lossEval
  extract_lets miss back s1 runs
  have hm := Nat.and_self (F.State.unstand ||| F.State.setCport)
  have h1 : Off (F.State.unstand ||| F.State.setCport) s s1 :=
    State.cond_off .refl (fun _ h => State.setCport_off (sb hm (by decide)) (State.unstand_off (sb hm (by decide)) h ..) ..) _
  rw [State.setRport_rport_self, h1.rport_eq (by decide)]

theorem State.paSettled_of_rx {s : State} {m a : Nat} (hsettle : (s.rport m).settle = some a)
    (hrx : s.portState m = stRX) :
    s.paSettled m = ((((s.reach (s.releaseAt m a)).setRport m fun r =>
      { r with settle := none, lossFrom := none, lossHit := false }).setPortState m stTX).cmdCheck m).lossEval m := by
  have hstate : ((s.reach (s.releaseAt m a)).setRport m fun r =>
      { r with settle := none, lossFrom := none, lossHit := false }).portState m = stRX :=
    (State.reach_rd ..).trans hrx
  simp only [State.paSettled, hsettle, State.cond, hstate, beq_self_eq_true, if_true]

theorem execPaSettleExpiry_transmits {s : State} {m : Fin 8} {a : Nat} (hsettle : (s.rport m).settle = some a)
    (hrx : s.portState m = stRX) :
    ∃ t, exec (.paSettleExpiry m) s = .next t ∧ (t.rport m).settle = none ∧ t.portState m = stTX
      ∧ t.now = max s.now (s.releaseAt m a) := by
  refine ⟨_, rfl, ?_⟩
  rw [State.paSettled_of_rx hsettle hrx]
  generalize hu : ((s.reach (s.releaseAt m a)).setRport m fun r =>
    { r with settle := none, lossFrom := none, lossHit := false }) = u
  have hsettled : (u.rport m).settle = none := by rw [← hu, State.setRport_rport_self]
  have hnow : u.now = max s.now (s.releaseAt m a) := by rw [← hu, State.setRport_now, State.reach_now]
  have hcmd := State.cmdCheck_off (Nat.and_self _) (.refl (a := u.setPortState m stTX)) m
  have hboth := Nat.and_self (F.State.cmdCheck ||| F.State.lossEval)
  have htail : Off (F.State.cmdCheck ||| F.State.lossEval) (u.setPortState m stTX)
      (((u.setPortState m stTX).cmdCheck m).lossEval m) :=
    State.lossEval_off (sb hboth (by decide)) (State.cmdCheck_off (sb hboth (by decide)) .refl ..) ..
  refine ⟨?_, ?_, ?_⟩
  · rw [State.lossEval_settle, hcmd.rport_eq (by decide), State.setPortState_settle, hsettled]
  · rw [State.portState, htail.rd_eq_of_avoids (by decide +kernel) m.isLt]
    exact State.setPortState_portState m.isLt (by decide)
  · rw [htail.now_eq (by decide)]
    exact hnow

/-! ### Transmit timeouts (R215, R216) -/

/-- A detector's cause stands on each of its ports, whatever page reports it (R143, R217). -/
theorem State.detect_cause {s : State} {b page bit k : Nat} {ports : Ports} (hk : k < 8) (hb : b < 11)
    (hport : ports.getLsbD k = true) : (s.detect b page bit ports).cause k b = true := by
  have hmiss : ∀ b < 11, ∀ k < 8, maskMisses F.State.raiseInt ((causeFld b).key k) = true := by decide +kernel
  rw [State.detect, State.detectInt, (State.raiseInt_off (Nat.and_self _) .refl ..).cause_eq (hmiss b hb k hk),
    State.request_cause _ _ hk hb, decide_eq_true (mem_portList.2 ⟨hk, hport⟩), Bool.true_or]

/-- Source 17 latches for the port and is counted, at once. -/
theorem State.txTimeout_latches {s : State} {m bit : Nat} (hm : m < 8) :
    (s.txTimeout m bit).cause m cTXTO = true ∧ (s.txTimeout m bit).now = s.now
      ∧ (s.txTimeout m bit).rd RFC_PORT_TXTO_CNT m
        = min (s.rd RFC_PORT_TXTO_CNT m + 1) (2 ^ RFC_PORT_TXTO_CNT.w - 1) := by
  have h := State.detect_off (Nat.and_self _) (.refl (a := s.satInc RFC_PORT_TXTO_CNT m)) cTXTO pgRFC bit (portBit m)
  refine ⟨State.detect_cause hm (by decide) (portBit_getLsbD_self hm), h.now_eq (by decide), ?_⟩
  rw [State.txTimeout, h.rd_eq_of_avoids (by decide +kernel) hm]
  exact State.rd_satInc_self (Fld.has_of_lt rfl rfl hm) (by decide)

theorem State.tddTimeout_of_late {s u : State} {m a : Nat} (hend : (s.rport m).txEnd = some a)
    (hu : u = (s.reach (a + usT 10)).setRport m fun r => { r with txEnd := none }) (htdd : u.tddPort m = true)
    (hpaen : u.paen m = true) (huse : (u.rport m).use ≠ .tx) : s.tddTimeout m = u.txTimeout m 3 := by
  simp only [State.tddTimeout, hend, ← hu, htdd, hpaen, bne_iff_ne.2 huse, Bool.and_self, if_true]

theorem execTxTimeoutTdd_latches {s u : State} {m : Fin 8} {a : Nat} (hend : (s.rport m).txEnd = some a)
    (hu : u = (s.reach (a + usT 10)).setRport m fun r => { r with txEnd := none }) (htdd : u.tddPort m = true)
    (hpaen : u.paen m = true) (huse : (u.rport m).use ≠ .tx) :
    ∃ t, exec (.txTimeoutTdd m) s = .next t ∧ t.cause m cTXTO = true ∧ t.now = max s.now (a + usT 10)
      ∧ t.rd RFC_PORT_TXTO_CNT m = min (s.rd RFC_PORT_TXTO_CNT m + 1) (2 ^ RFC_PORT_TXTO_CNT.w - 1) := by
  obtain ⟨hcause, hnow, hcnt⟩ := State.txTimeout_latches (s := u) (bit := 3) m.isLt
  refine ⟨_, rfl, ?_⟩
  rw [State.tddTimeout_of_late hend hu htdd hpaen huse]
  refine ⟨hcause, hnow.trans ?_, hcnt.trans ?_⟩
  · rw [hu, State.setRport_now, State.reach_now]
  · rw [hu, State.setRport_rd, State.reach_rd]

theorem State.lossTimeout_of_running {s : State} {m a : Nat} (hfrom : (s.rport m).lossFrom = some a)
    (hhit : (s.rport m).lossHit = false) :
    s.lossTimeout m = (((s.reach (a + s.rd RFC_CFG 0 * msT 100)).setRport m fun r =>
      { r with lossHit := true }).stand 17 m).txTimeout m 4 := by
  simp only [State.lossTimeout, hfrom, hhit, Bool.false_eq_true, if_false]

theorem execPresenceLossTimeout_latches {s : State} {m : Fin 8} {a : Nat} (hfrom : (s.rport m).lossFrom = some a)
    (hhit : (s.rport m).lossHit = false) :
    ∃ t, exec (.presenceLossTimeout m) s = .next t ∧ t.cause m cTXTO = true
      ∧ t.now = max s.now (a + s.rd RFC_CFG 0 * msT 100)
      ∧ t.rd RFC_PORT_TXTO_CNT m = min (s.rd RFC_PORT_TXTO_CNT m + 1) (2 ^ RFC_PORT_TXTO_CNT.w - 1) := by
  refine ⟨_, rfl, ?_⟩
  rw [State.lossTimeout_of_running hfrom hhit]
  obtain ⟨hcause, hnow, hcnt⟩ := State.txTimeout_latches (bit := 4) (s := ((s.reach (a + s.rd RFC_CFG 0 * msT 100)).setRport m
    fun r => { r with lossHit := true }).stand 17 m) m.isLt
  refine ⟨hcause, hnow.trans ?_, hcnt.trans ?_⟩
  · rw [State.stand, State.setFcSrc_now, State.setRport_now, State.reach_now]
  · rw [State.stand, State.setFcSrc_rd, State.setRport_rd, State.reach_rd]

/-! ### Attenuator buses (R218, R219) -/

@[simp] theorem State.setAttn_attn_self (s : State) (x : Nat) (f : AttnSt → AttnSt) :
    (s.setAttn x f).attn x = f (s.attn x) :=
  Tab.get_set_self ..

/-- GO sends the data words at once on a bus that is the host's, is not disabled and does not shift. -/
theorem State.writeAttnCtl_shifts {s : State} {x : Nat} {v : Word} (hgo : ATTN_CTL.of v ≠ 0)
    (howner : s.rd ATTN_CFG_OWNER x = 0) (hlen : s.rd ATTN_CFG_LEN x ≠ 0) (hbusy : s.rd ATTN_STAT_BUSY x = 0) :
    s.writeAttnCtl x v = s.attnShift x (s.attnWord x) := by
  simp [State.writeAttnCtl, State.attnSend, State.on, hgo, howner, hlen, hbusy]

theorem execAttnGo_shifts {s : State} {x : Fin 2} (hdef : s.sys.deferred = []) (howner : s.rd ATTN_CFG_OWNER x = 0)
    (hlen : s.rd ATTN_CFG_LEN x ≠ 0) (hbusy : s.rd ATTN_STAT_BUSY x = 0) :
    ∃ t, exec (.attnGo x) s = .next t ∧ t.rd ATTN_STAT_BUSY x = 1 ∧ (t.attn x).shifting = true
      ∧ (t.attn x).frame = s.attnWord x
      ∧ (t.attn x).doneAt = s.now + (2 * s.rd ATTN_CFG_LEN x + 5) * s.rd ATTN_CFG_DIV x := by
  have hattn := s.setAttn_attn_self x fun a =>
    { a with shifting := true, awaiting := false, frame := s.attnWord x, len := s.rd ATTN_CFG_LEN x,
             lsb := s.on ATTN_CFG_LSB_FIRST x, half := s.rd ATTN_CFG_DIV x, t0 := s.now,
             doneAt := s.now + (2 * s.rd ATTN_CFG_LEN x + 5) * s.rd ATTN_CFG_DIV x }
  refine ⟨_, rfl, ?_⟩
  rw [State.byHost_of_none hdef, State.writeAttnCtl_shifts (by decide) howner hlen hbusy]
  exact ⟨State.rd_wr_self _ _ (Fld.has_of_lt rfl rfl x.isLt) (by decide), congrArg AttnSt.shifting hattn,
    congrArg AttnSt.frame hattn, congrArg AttnSt.doneAt hattn⟩

theorem State.attnShifted_awaits {s : State} {x : Nat} (hshift : (s.attn x).shifting = true)
    (hlatch : s.rd ATTN_CFG_LATCH x ≠ 0) :
    s.attnShifted x = (s.reach (s.attn x).doneAt).setAttn x fun a => { a with shifting := false, awaiting := true } := by
  simp [State.attnShifted, hshift, hlatch]

theorem execAttnShiftDone_awaits {s : State} {x : Fin 2} (hshift : (s.attn x).shifting = true)
    (hlatch : s.rd ATTN_CFG_LATCH x ≠ 0) :
    ∃ t, exec (.attnShiftDone x) s = .next t ∧ (t.attn x).shifting = false ∧ (t.attn x).awaiting = true
      ∧ t.now = max s.now (s.attn x).doneAt := by
  refine ⟨_, rfl, ?_⟩
  rw [State.attnShifted_awaits hshift hlatch, State.setAttn_attn_self]
  exact ⟨rfl, rfl, State.reach_now ..⟩

/-- LE latches the bits shifted, and with no frame held the bus is idle again. -/
theorem State.attnLE_latches {s : State} {x : Nat} (hx : x < 2) (hheld : (s.attn x).held = none) :
    ((s.attnLE x).attn x).latched = (s.attn x).bits ∧ (s.attnLE x).rd ATTN_STAT_BUSY x = 0
      ∧ ((s.attnLE x).attn x).awaiting = false ∧ (s.attnLE x).now = s.now := by
  have hattn := s.setAttn_attn_self x fun a =>
    { a with shifting := false, awaiting := false, latched := (s.attn x).bits, held := none,
             leAt := if a.awaiting then some s.now else none }
  unfold State.attnLE
  simp only [hheld]
  exact ⟨congrArg AttnSt.latched hattn, State.rd_wr_self _ _ (Fld.has_of_lt rfl rfl hx) (by decide),
    congrArg AttnSt.awaiting hattn, rfl⟩

theorem State.attnLatch_at_frame {s : State} {x : Nat} (hawait : (s.attn x).awaiting = true)
    (hlatch : s.rd ATTN_CFG_LATCH x = 2) :
    s.attnLatch x = (s.reach (s.frameAfterTick (s.attn x).doneAt)).attnLE x := by
  simp [State.attnLatch, hawait, hlatch]

theorem execAttnLatch_latches {s : State} {x : Fin 2} (hawait : (s.attn x).awaiting = true)
    (hlatch : s.rd ATTN_CFG_LATCH x = 2) (hheld : (s.attn x).held = none) :
    ∃ t, exec (.attnLatch x) s = .next t ∧ (t.attn x).latched = (s.attn x).bits ∧ t.rd ATTN_STAT_BUSY x = 0
      ∧ (t.attn x).awaiting = false ∧ t.now = max s.now (s.frameAfterTick (s.attn x).doneAt) := by
  have hattn (n : Nat) : (s.reach n).attn x = s.attn x := by rw [State.attn, State.reach_rfc, State.attn]
  refine ⟨_, rfl, ?_⟩
  rw [State.attnLatch_at_frame hawait hlatch]
  have hlatches := State.attnLE_latches (s := s.reach (s.frameAfterTick (s.attn x).doneAt)) x.isLt (by rw [hattn, hheld])
  rwa [hattn, State.reach_now] at hlatches

/-! ### Line faults (R223) -/

theorem execRfcLineMismatch_reports (s : State) (m : Fin 8) (parity : Bool) :
    ∃ t, exec (.rfcLineMismatch m parity) s = .next t ∧ (t.rport m).lineFault = true
      ∧ t.tst PG_ERR pgRFC (if parity then 2 else 1) = true := by
  have hfault := s.setRport_rport_self m fun r => { r with lineFault := true }
  refine ⟨_, rfl, ?_, State.raise_tst _ _ (by decide) (by cases parity <;> decide)⟩
  rw [State.lineMismatch, (State.raise_off (Nat.and_self _) .refl ..).rport_eq (by decide)]
  exact congrArg RfcPort.lineFault hfault

/-! ### The use of a TDD port begins (R196, R221) -/

theorem State.coexRelease_on_coex {s : State} {m : Nat} (hm : m < 8) :
    s.coexRelease.on RFC_PORT_CFG_COEX m = s.on RFC_PORT_CFG_COEX m := by
  rw [State.on, (State.coexRelease_off (Nat.and_self _) .refl).rd_eq_of_avoids (by decide +kernel) hm, State.on]

/-- On a port that is not shared a use only begins, and COEX_REQ_OUT follows. -/
theorem State.portUseStart_of_unshared {s : State} {m d : Nat} {tx : Bool} (hm : m < 8) (htdd : s.tddPort m = true)
    (hnext : s.nextUse m = some (d, tx)) (hcoex : s.rd RFC_PORT_CFG_COEX m = 0) :
    ∃ f : RfcPort → RfcPort, (∀ r, (f r).use = if tx then .tx else .rx)
      ∧ s.portUseStart m = ((s.reach (s.now + d)).setRport m f).coexRelease := by
  have hoff (n : Nat) (f : RfcPort → RfcPort) : (((s.reach n).setRport m f).coexRelease).on RFC_PORT_CFG_COEX m = false := by
    rw [State.coexRelease_on_coex hm, State.on, State.setRport_rd, State.reach_rd, hcoex]; rfl
  unfold State.portUseStart
  simp only [htdd, hnext, hoff, Bool.not_true, Bool.and_false, Bool.false_and, Bool.not_false, Bool.false_eq_true,
    if_false, if_true]
  exact ⟨_, fun _ => rfl, rfl⟩

theorem execPortUseStart_begins {s : State} {m : Fin 8} {d : Nat} {tx : Bool} (htdd : s.tddPort m = true)
    (hnext : s.nextUse m = some (d, tx)) (hcoex : s.rd RFC_PORT_CFG_COEX m = 0) :
    ∃ t, exec (.portUseStart m) s = .next t ∧ (t.rport m).use = (if tx then .tx else .rx) ∧ t.now = s.now + d := by
  obtain ⟨f, huse, hstart⟩ := State.portUseStart_of_unshared m.isLt htdd hnext hcoex
  have h := State.coexRelease_off (Nat.and_self _) (.refl (a := (s.reach (s.now + d)).setRport m f))
  refine ⟨_, rfl, ?_⟩
  rw [hstart, h.rport_eq (by decide), h.now_eq (by decide), State.setRport_rport_self, State.setRport_now, State.reach_now]
  exact ⟨huse _, Nat.max_eq_right (Nat.le_add_right ..)⟩

/-- Settles O29: each command sets the port or the bus that its clause names, and the checks, requests and reports that follow
reach none of it. -/
theorem portEventsComplete : Obligations.PortEventsComplete :=
  ⟨fun _ _ _ => execPaSettleExpiry_transmits, fun _ _ _ _ => execTxTimeoutTdd_latches,
   fun _ _ _ => execPresenceLossTimeout_latches, fun _ _ => execAttnGo_shifts, fun _ _ => execAttnShiftDone_awaits,
   fun _ _ => execAttnLatch_latches, execRfcLineMismatch_reports, fun _ _ _ _ => execPortUseStart_begins⟩

end Sys2Proof.Machine

/-! PROOF. The coexistence handshakes: the radio's request and its grant, and the device's own (spec/07_radio_sequencing.md R220
to R222). -/
namespace Sys2Proof.Machine
open Sys2Proof

/-! ### The radio's request (R220) -/

/-- What a grant reaches once it is noted: the holds of the shared ports, and their lifts. -/
def F.coexGrantTail : Nat := F.State.setRport ||| F.State.suspendLifts

/-- A grant is noted, the hold is requested of each shared port, and the wait is over. -/
theorem State.coexGrant_grants (s : State) :
    s.coexGrant.rfc.granted = true ∧ s.coexGrant.rd COEX_STAT_PENDING 0 = 0 := by
  unfold State.coexGrant
  extract_lets s1
  have hm := Nat.and_self F.coexGrantTail
  have hholds := foldl_keeps (l := s1.shared) (f := fun s m => s.setRport m fun r => { r with coexIn := true })
    (fun s => s.rfc.granted) (fun _ _ _ => rfl) s1
  constructor
  · rw [(State.suspendLifts_off (Nat.and_self _) .refl).rfc_eq (by decide)]
    exact hholds
  · have h : Off F.coexGrantTail s1 _ := State.suspendLifts_off (sb hm (by decide))
      (.foldl .refl (fun _ h m => State.setRport_off (sb hm (by decide)) h m fun r => { r with coexIn := true }) s1.shared)
    rw [h.rd_eq (by decide +kernel)]
    exact State.rd_wr_self _ _ (by decide) (by decide)

theorem execCoexReqInRise_grants {s : State} {pri : Bool} (hpol : s.rd COEX_CFG_IN_POL 0 = 0) :
    ∃ t, exec (.coexReqInRise pri) s = .next t ∧ t.rfc.granted = true ∧ t.pins.coexReqIn = true ∧ t.pins.coexPri = pri
      ∧ t.rd COEX_STAT_PENDING 0 = 0 := by
  have hrise : s.coexReqRise pri
      = State.coexGrant { s with pins := { s.pins with coexReqIn := true, coexPri := pri } } := by
    have hpol' : State.rd { s with pins := { s.pins with coexReqIn := true, coexPri := pri } } COEX_CFG_IN_POL 0 = 0 := hpol
    simp only [State.coexReqRise, hpol']
  obtain ⟨hgranted, hpending⟩ :=
    State.coexGrant_grants { s with pins := { s.pins with coexReqIn := true, coexPri := pri } }
  refine ⟨_, rfl, ?_⟩
  rw [hrise, (State.coexGrant_off (Nat.and_self _) .refl).pins_eq (by decide)]
  exact ⟨hgranted, rfl, rfl, hpending⟩

theorem State.coexGntOut_of_granted {s : State} (hgranted : s.rfc.granted = true)
    (hlow : s.rd COEX_STAT_GNT_OUT 0 = 0) :
    s.coexGntOut = ((s.wr COEX_STAT_GNT_OUT 0 1).satInc COEX_GRANT_CNT 0).setRfc fun r => { r with grantAt := some s.now } := by
  simp [State.coexGntOut, State.on, hgranted, hlow]

theorem execCoexGrantOut_raises {s : State} (hgranted : s.rfc.granted = true) (hlow : s.rd COEX_STAT_GNT_OUT 0 = 0) :
    ∃ t, exec .coexGrantOut s = .next t ∧ t.rd COEX_STAT_GNT_OUT 0 = 1 ∧ t.rfc.grantAt = some s.now
      ∧ t.rd COEX_GRANT_CNT 0 = min (s.rd COEX_GRANT_CNT 0 + 1) (2 ^ COEX_GRANT_CNT.w - 1) := by
  refine ⟨_, rfl, ?_⟩
  rw [State.coexGntOut_of_granted hgranted hlow, State.setRfc_rd, State.setRfc_rd]
  refine ⟨?_, rfl, ?_⟩
  · exact (State.rd_wr_ne _ _ (by decide)).trans (State.rd_wr_self _ _ (by decide) (by decide))
  · rw [State.rd_satInc_self (by decide) (by decide), State.rd_wr_ne _ _ (by decide)]

/-! ### The inbound hold ends (R220, R222) -/

/-- The ports that resume reach neither the grant nor a register. -/
theorem State.coexEnd_keeps (s : State) :
    s.coexEnd.rfc.granted = false ∧ s.coexEnd.regs = (s.wr COEX_STAT_GNT_OUT 0 0).regs := by
  unfold State.coexEnd
  extract_lets s1
  refine Prod.mk.inj (foldl_keeps (fun s => (s.rfc.granted, s.regs)) (fun s m _ => ?_) s1)
  split
  case isTrue =>
    extract_lets s2
    unfold State.cond
    split <;> rfl
  case isFalse => rfl

theorem State.coexEnd_rd (s : State) (f : Fld) (i : Nat) : s.coexEnd.rd f i = (s.wr COEX_STAT_GNT_OUT 0 0).rd f i :=
  State.rd_congr s.coexEnd_keeps.2 f i

theorem State.coexEnd_ends (s : State) :
    s.coexEnd.rfc.granted = false ∧ s.coexEnd.rd COEX_STAT_GNT_OUT 0 = 0 ∧ s.coexEnd.now = s.now := by
  refine ⟨s.coexEnd_keeps.1, ?_, (State.coexEnd_off (Nat.and_self _) .refl).now_eq (by decide)⟩
  rw [State.coexEnd_rd]
  exact State.rd_wr_self _ _ (by decide) (by decide)

theorem execCoexReqInFall_ends (s : State) :
    ∃ t, exec .coexReqInFall s = .next t ∧ t.rfc.granted = false ∧ t.rd COEX_STAT_GNT_OUT 0 = 0
      ∧ t.rd COEX_STAT_PENDING 0 = 0 ∧ t.pins.coexReqIn = false := by
  refine ⟨_, rfl, ?_⟩
  have hfall : s.coexReqFall
      = (State.wr { s with pins := { s.pins with coexReqIn := false } } COEX_STAT_PENDING 0 0).coexEnd := rfl
  rw [hfall]
  generalize hv : ({ s with pins := { s.pins with coexReqIn := false } } : State) = v
  obtain ⟨hgranted, hlow, -⟩ := (v.wr COEX_STAT_PENDING 0 0).coexEnd_ends
  refine ⟨hgranted, hlow, ?_, ?_⟩
  · rw [State.coexEnd_rd, State.rd_wr_ne _ _ (by decide)]
    exact State.rd_wr_self _ _ (by decide) (by decide)
  · rw [(State.coexEnd_off (Nat.and_self _) .refl).pins_eq (by decide), State.wr_pins, ← hv]

theorem State.coexMaxHold_of_held {s : State} {a : Nat} (hat : s.rfc.grantAt = some a)
    (hlim : s.rd COEX_TIME_MAX_HOLD 0 ≠ 0) :
    ∃ ports : Ports, s.coexMaxHold
      = ((s.reach (a + usT (10 * s.rd COEX_TIME_MAX_HOLD 0))).coexEnd.satInc COEX_WDRAW_CNT 0).raiseInt
        [(pgSYN, 3)] pgRFC 5 ports := by
  simp only [State.coexMaxHold, hat, hlim, if_false]
  exact ⟨_, rfl⟩

theorem execCoexMaxHoldExpiry_withdraws {s : State} {a : Nat} (hat : s.rfc.grantAt = some a)
    (hlim : s.rd COEX_TIME_MAX_HOLD 0 ≠ 0) :
    ∃ t, exec .coexMaxHoldExpiry s = .next t ∧ t.rfc.granted = false ∧ t.rd COEX_STAT_GNT_OUT 0 = 0
      ∧ t.rd COEX_WDRAW_CNT 0 = min (s.rd COEX_WDRAW_CNT 0 + 1) (2 ^ COEX_WDRAW_CNT.w - 1)
      ∧ t.tst PG_ERR pgRFC 5 = true ∧ t.now = max s.now (a + usT (10 * s.rd COEX_TIME_MAX_HOLD 0)) := by
  obtain ⟨ports, hexpire⟩ := State.coexMaxHold_of_held hat hlim
  refine ⟨_, rfl, ?_⟩
  rw [hexpire]
  generalize a + usT (10 * s.rd COEX_TIME_MAX_HOLD 0) = n
  obtain ⟨hgranted, hlow, hnow⟩ := (s.reach n).coexEnd_ends
  have hcnt : (s.reach n).coexEnd.rd COEX_WDRAW_CNT 0 = s.rd COEX_WDRAW_CNT 0 := by
    rw [State.coexEnd_rd, State.rd_wr_ne _ _ (by decide), State.reach_rd]
  rw [State.reach_now] at hnow
  generalize (s.reach n).coexEnd = u at hgranted hlow hcnt hnow ⊢
  have h := State.raiseInt_off (Nat.and_self _) (.refl (a := u.satInc COEX_WDRAW_CNT 0)) [(pgSYN, 3)] pgRFC 5 ports
  refine ⟨?_, ?_, ?_, State.raiseInt_tst _ _ _ (by decide +kernel) (by decide) (by decide), (h.now_eq (by decide)).trans hnow⟩
  · exact (congrArg RfcSt.granted (h.rfc_eq (by decide))).trans hgranted
  · exact (h.rd_eq (by decide +kernel)).trans ((State.rd_wr_ne _ _ (by decide)).trans hlow)
  · rw [h.rd_eq (by decide +kernel), State.rd_satInc_self (by decide) (by decide), hcnt]

/-! ### The device's own request (R221) -/

/-- COEX_REQ_OUT rises; a request that finds COEX_GNT_IN low is counted as denied. -/
def State.coexRequested (s : State) : State :=
  (s.wr COEX_STAT_REQ_OUT 0 1).cond (!s.pins.coexGntIn) fun s => s.satInc COEX_DENY_CNT 0

theorem State.coexRequested_reqOut (s : State) : s.coexRequested.rd COEX_STAT_REQ_OUT 0 = 1 := by
  have hself : (s.wr COEX_STAT_REQ_OUT 0 1).rd COEX_STAT_REQ_OUT 0 = 1 := State.rd_wr_self _ _ (by decide) (by decide)
  unfold State.coexRequested State.cond
  split
  · exact (State.rd_wr_ne _ _ (by decide)).trans hself
  · exact hself

theorem State.coexRequested_outMode (s : State) : s.coexRequested.rd COEX_CFG_OUT_MODE 0 = s.rd COEX_CFG_OUT_MODE 0 := by
  have hwr := s.rd_wr_ne (f := COEX_STAT_REQ_OUT) (g := COEX_CFG_OUT_MODE) (i := 0) (j := 0) 1 (by decide)
  unfold State.coexRequested State.cond
  split
  · exact (State.rd_wr_ne _ _ (by decide)).trans hwr
  · exact hwr

/-- In advisory mode an entry to TX waits for LEAD alone, whatever COEX_GNT_IN says. -/
theorem State.coexReqOut_of_entry {s : State} {m : Nat} (hshared : s.rd RFC_PORT_CFG_COEX m ≠ 0)
    (hmode : s.rd COEX_CFG_OUT_MODE 0 = 1) (hfdd : s.tddPort m = false) (hentry : (s.rport m).entry = true) :
    s.coexReqOut m = s.coexRequested.setRport m fun r => { r with entry := false, settle := some (s.now + s.leadT) } := by
  have hgo : (s.on RFC_PORT_CFG_COEX m && s.rd COEX_CFG_OUT_MODE 0 != 0) = true := by
    rw [State.on, bne_iff_ne.2 hshared, hmode]; rfl
  have hstrict : s.coexRequested.strict = false := by
    rw [State.strict, State.coexRequested_outMode, hmode]; rfl
  have hlead : (s.wr COEX_STAT_REQ_OUT 0 1).leadT = s.leadT := by
    rw [State.leadT, State.rd_wr_ne _ _ (by decide), State.leadT]
  unfold State.coexReqOut
  rw [hgo, hfdd, hentry]
  extract_lets s1 e s2
  have hs2 : s2 = s.coexRequested := rfl
  rw [hs2, hstrict]
  simp only [Bool.not_true, Bool.false_and, Bool.false_eq_true, if_false, e, s1, hlead, State.wr_now]

theorem execCoexReqOutRaise_raises {s : State} {m : Fin 8} (hshared : s.rd RFC_PORT_CFG_COEX m ≠ 0)
    (hmode : s.rd COEX_CFG_OUT_MODE 0 = 1) (hfdd : s.tddPort m = false) (hentry : (s.rport m).entry = true) :
    ∃ t, exec (.coexReqOutRaise m) s = .next t ∧ t.rd COEX_STAT_REQ_OUT 0 = 1 ∧ (t.rport m).entry = false
      ∧ (t.rport m).settle = some (s.now + s.leadT) := by
  refine ⟨_, rfl, ?_⟩
  rw [State.coexReqOut_of_entry hshared hmode hfdd hentry, State.setRport_rport_self, State.setRport_rd]
  exact ⟨s.coexRequested_reqOut, rfl, rfl⟩

/-! ### The radio's grant to the device (R221) -/

/-- One turn of the loop over the ports that wait for COEX_GNT_IN. -/
def State.coexResumePort (s : State) (m : Nat) : State :=
  let r := s.rport m
  if !r.coexWait then s
  else s.setRport m fun r =>
    { r with coexWait := false, entry := false, leadEnd := none,
             settle := if s.portState m == stTX || r.entry then some (max s.now (r.leadEnd.getD 0)) else r.settle }

theorem State.coexResume_eq (s : State) : s.coexResume = (List.range 8).foldl State.coexResumePort s := rfl

/-- What the turn of port `m` reads. -/
def State.coexView (m : Nat) (s : State) : RfcPort × Nat × Nat := (s.rport m, s.portState m, s.now)

theorem State.coexResumePort_view_ne {s : State} {m k : Nat} (hk : k ≠ m) :
    (s.coexResumePort k).coexView m = s.coexView m := by
  unfold State.coexResumePort
  extract_lets r
  split
  · rfl
  · rw [State.coexView, State.setRport_rport, if_neg hk]
    rfl

/-- A port that waits and is in TX, or enters it, settles from the end of LEAD or from now. -/
theorem State.coexResumePort_settles {s : State} {m : Nat} (hwait : (s.rport m).coexWait = true)
    (henters : s.portState m = stTX ∨ (s.rport m).entry = true) :
    ((s.coexResumePort m).rport m).coexWait = false
      ∧ ((s.coexResumePort m).rport m).settle = some (max s.now ((s.rport m).leadEnd.getD 0)) := by
  have hgo : (s.portState m == stTX || (s.rport m).entry) = true := by
    simpa only [Bool.or_eq_true, beq_iff_eq] using henters
  unfold State.coexResumePort
  simp only [hwait, Bool.not_true, Bool.false_eq_true, if_false, State.setRport_rport_self, hgo, if_true, and_self]

theorem execCoexGntInRise_resumes {s : State} {m : Fin 8} (hwait : (s.rport m).coexWait = true)
    (henters : s.portState m = stTX ∨ (s.rport m).entry = true) :
    ∃ t, exec .coexGntInRise s = .next t ∧ t.pins.coexGntIn = true ∧ (t.rport m).coexWait = false
      ∧ (t.rport m).settle = some (max s.now ((s.rport m).leadEnd.getD 0)) := by
  refine ⟨_, rfl, ?_⟩
  unfold State.coexGntRise
  generalize hv : ({ s with pins := { s.pins with coexGntIn := true } } : State) = v
  have hpins : v.coexResume.pins = v.pins := (State.coexResume_off (Nat.and_self _) .refl).pins_eq (by decide)
  refine ⟨by rw [hpins, ← hv], ?_⟩
  obtain ⟨u, hu, hturn⟩ := foldl_turn (State.coexView m) (List.mem_range.2 m.isLt) List.nodup_range
    (fun _ _ _ => State.coexResumePort_view_ne) v
  rw [← State.coexResume_eq] at hturn
  simp only [State.coexView, Prod.mk.injEq] at hu hturn
  obtain ⟨hport, hstate, hnow⟩ := hu
  obtain ⟨hresumed, -⟩ := hturn
  rw [hresumed]
  have hsettles := State.coexResumePort_settles (s := u) (m := m) (by rw [hport, ← hv]; exact hwait)
    (by rw [hport, hstate, ← hv]; exact henters)
  rw [hport, hnow, ← hv] at hsettles
  exact hsettles

/-- In strict mode a fall during a transmission holds the shared ports, and is counted. -/
theorem State.coexGntFall_off_held {s u : State} (hmode : s.rd COEX_CFG_OUT_MODE 0 = 2)
    (hu : u = { s with pins := { s.pins with coexGntIn := false } }) (hsends : (u.shared.any fun m => u.paen m) = true) :
    ∃ v : State, Off F.State.setRport u v
      ∧ Off (F.State.int ||| F.State.suspendLifts) (v.satInc COEX_WDRAW_CNT 0) s.coexGntFall := by
  have hstrict : u.strict = true := by
    rw [hu]; exact beq_iff_eq.2 hmode
  have hm := Nat.and_self (F.State.int ||| F.State.suspendLifts)
  unfold State.coexGntFall
  simp only [← hu, hstrict, hsends, Bool.not_true, Bool.or_false, Bool.false_eq_true, if_false]
  exact ⟨_, .foldl .refl (fun _ h _ => State.setRport_off (Nat.and_self _) h ..) _,
    State.suspendLifts_off (sb hm (by decide))
      (State.int_off (sb hm (by decide)) (State.int_off (sb hm (by decide)) .refl ..) ..)⟩

theorem execCoexGntInFall_counts {s u : State} (hmode : s.rd COEX_CFG_OUT_MODE 0 = 2)
    (hu : u = { s with pins := { s.pins with coexGntIn := false } }) (hsends : (u.shared.any fun m => u.paen m) = true) :
    ∃ t, exec .coexGntInFall s = .next t ∧ t.pins.coexGntIn = false
      ∧ t.rd COEX_WDRAW_CNT 0 = min (s.rd COEX_WDRAW_CNT 0 + 1) (2 ^ COEX_WDRAW_CNT.w - 1) := by
  obtain ⟨v, hheld, htail⟩ := State.coexGntFall_off_held hmode hu hsends
  have hcnt : u.rd COEX_WDRAW_CNT 0 = s.rd COEX_WDRAW_CNT 0 := by rw [hu]; rfl
  have hpin : v.pins.coexGntIn = false := by rw [hheld.pins_eq (by decide), hu]
  refine ⟨_, rfl, ?_, ?_⟩
  · rw [htail.pins_eq (by decide)]
    exact hpin
  · rw [htail.rd_eq (by decide +kernel), State.rd_satInc_self (by decide) (by decide), hheld.rd_eq (by decide +kernel), hcnt]

/-- Settles O37: a request, a grant and the fall of each set the lines and counts of their clauses, and the holds and lifts of the
shared ports that follow reach none of them; a port that waits resumes in its own turn of the loop. -/
theorem coexistenceComplete : Obligations.CoexistenceComplete :=
  ⟨fun _ _ => execCoexReqInRise_grants, fun _ => execCoexGrantOut_raises, execCoexReqInFall_ends,
   fun _ _ => execCoexMaxHoldExpiry_withdraws, fun _ _ => execCoexReqOutRaise_raises, fun _ _ => execCoexGntInRise_resumes,
   fun _ _ => execCoexGntInFall_counts⟩

end Sys2Proof.Machine

/-! PROOF. The words and fields of the loop descriptors (spec/08_control_engine.md R245, Table 8-12). -/
namespace Sys2Proof.Machine
open Sys2Proof

/-! ### A field of a word -/

/-- The word `x` with `v` in its field of `w` bits at bit `lo`. -/
def setBits (x : Word) (lo w v : Nat) : Word :=
  BitVec.ofNat 32 (x.toNat - bits x lo w * 2 ^ lo + v % 2 ^ w * 2 ^ lo)

/-- The bits of `n` above a field, `v` in the field, and the bits of `n` below it. -/
def spliced (n lo w v : Nat) : Nat := 2 ^ lo * (2 ^ w * (n / 2 ^ (lo + w)) + v % 2 ^ w) + n % 2 ^ lo

theorem spliced_testBit (n lo w v i : Nat) :
    (spliced n lo w v).testBit i = if lo ≤ i ∧ i < lo + w then v.testBit (i - lo) else n.testBit i := by
  rw [spliced, Nat.testBit_two_pow_mul_add _ (Nat.mod_lt _ (Nat.two_pow_pos lo))]
  split
  case isTrue hbelow => rw [if_neg (by omega), Nat.testBit_mod_two_pow, decide_eq_true hbelow, Bool.true_and]
  case isFalse =>
    rw [Nat.testBit_two_pow_mul_add _ (Nat.mod_lt _ (Nat.two_pow_pos w))]
    split
    case isTrue hin => rw [if_pos (by omega), Nat.testBit_mod_two_pow, decide_eq_true hin, Bool.true_and]
    case isFalse =>
      rw [if_neg (by omega), Nat.testBit_div_two_pow]
      congr 1
      omega

theorem spliced_lt (x : Word) {lo w : Nat} (v : Nat) (h : lo + w ≤ 32) : spliced x.toNat lo w v < 2 ^ 32 := by
  refine Nat.lt_pow_two_of_testBit _ fun i hi => ?_
  rw [spliced_testBit, if_neg (by omega)]
  exact Nat.testBit_lt_two_pow (Nat.lt_of_lt_of_le x.isLt (Nat.pow_le_pow_right (by decide) hi))

theorem setBits_toNat (x : Word) {lo w : Nat} (v : Nat) (h : lo + w ≤ 32) :
    (setBits x lo w v).toNat = spliced x.toNat lo w v := by
  have hparts : x.toNat = 2 ^ lo * (2 ^ w * (x.toNat / 2 ^ (lo + w))) + bits x lo w * 2 ^ lo + x.toNat % 2 ^ lo := by
    rw [bits, Nat.pow_add, ← Nat.div_div_eq_div_mul, Nat.mul_comm (_ % _), ← Nat.mul_add, Nat.div_add_mod, Nat.div_add_mod]
  have hspliced : x.toNat - bits x lo w * 2 ^ lo + v % 2 ^ w * 2 ^ lo = spliced x.toNat lo w v := by
    rw [spliced, Nat.mul_add, Nat.mul_comm (v % 2 ^ w)]
    omega
  rw [setBits, hspliced, BitVec.toNat_ofNat, Nat.mod_eq_of_lt (spliced_lt x v h)]

theorem bits_testBit (x : Word) (lo w i : Nat) : (bits x lo w).testBit i = (decide (i < w) && x.toNat.testBit (lo + i)) := by
  rw [bits, Nat.testBit_mod_two_pow, Nat.testBit_div_two_pow, Nat.add_comm]

theorem bits_setBits_self (x : Word) {lo w : Nat} (v : Nat) (h : lo + w ≤ 32) :
    bits (setBits x lo w v) lo w = v % 2 ^ w := by
  refine Nat.eq_of_testBit_eq fun i => ?_
  rw [bits_testBit, setBits_toNat x v h, spliced_testBit, Nat.testBit_mod_two_pow]
  by_cases hi : i < w
  · rw [if_pos (by omega), Nat.add_sub_cancel_left]
  · rw [decide_eq_false hi, Bool.false_and, Bool.false_and]

theorem bits_setBits_ne (x : Word) {lo w lo' w' : Nat} (v : Nat) (h : lo + w ≤ 32) (hne : lo + w ≤ lo' ∨ lo' + w' ≤ lo) :
    bits (setBits x lo w v) lo' w' = bits x lo' w' := by
  refine Nat.eq_of_testBit_eq fun i => ?_
  rw [bits_testBit, bits_testBit, setBits_toNat x v h, spliced_testBit]
  by_cases hi : i < w'
  · rw [if_neg (by omega)]
  · rw [decide_eq_false hi, Bool.false_and, Bool.false_and]

/-! ### The words of a descriptor -/

theorem State.setLpW_eq (s : State) {l i : Nat} (v : Word) (hl : l < 256) (hi : i < 16) :
    s.setLpW l i v = s.st (lpAddr l i) v :=
  s.stIn_eq v (by simp only [lpOff, Region.size]; omega)

theorem State.setLpW_mem_wf {s : State} {l i : Nat} (v : Word) (hl : l < 256) (hi : i < 16) (h : Memory.wf s.mem = true) :
    Memory.wf (s.setLpW l i v).mem = true := by
  rw [s.setLpW_eq v hl hi]
  exact st_mem_wf _ v h

theorem State.lpW_setLpW_self {s : State} {l i : Nat} (v : Word) (hl : l < 256) (hi : i < 16) (h : Memory.wf s.mem = true) :
    (s.setLpW l i v).lpW l i = v := by
  rw [s.setLpW_eq v hl hi]
  exact ld_st_self _ v h

theorem State.lpW_setLpW_ne {s : State} {l i k j : Nat} (v : Word) (hl : l < 256) (hi : i < 16) (hj : j < 16)
    (hne : l ≠ k ∨ i ≠ j) : (s.setLpW l i v).lpW k j = s.lpW k j := by
  rw [s.setLpW_eq v hl hi]
  exact ld_st_ne v (by simp only [lpAddr, lpOff]; omega)

/-! ### The fields of a descriptor -/

theorem State.setLpF_eq (s : State) (l i lo w v : Nat) :
    s.setLpF l i lo w v = s.setLpW l i (setBits (s.lpW l i) lo w v) := rfl

theorem State.setLpF_mem_wf {s : State} {l i : Nat} (lo w v : Nat) (hl : l < 256) (hi : i < 16)
    (h : Memory.wf s.mem = true) : Memory.wf (s.setLpF l i lo w v).mem = true :=
  State.setLpW_mem_wf _ hl hi h

theorem State.lpF_setLpF_self {s : State} {l i lo w : Nat} (v : Nat) (hl : l < 256) (hi : i < 16) (hw : lo + w ≤ 32)
    (h : Memory.wf s.mem = true) : (s.setLpF l i lo w v).lpF l i lo w = v % 2 ^ w := by
  rw [s.setLpF_eq]
  exact (congrArg (bits · lo w) (State.lpW_setLpW_self _ hl hi h)).trans (bits_setBits_self _ v hw)

/-- A field of another loop, of another word or of other bits reads as before. -/
theorem State.lpF_setLpF_ne {s : State} {l i lo w k j lo' w' : Nat} (v : Nat) (hl : l < 256) (hi : i < 16) (hj : j < 16)
    (hw : lo + w ≤ 32) (h : Memory.wf s.mem = true) (hne : l ≠ k ∨ i ≠ j ∨ lo + w ≤ lo' ∨ lo' + w' ≤ lo) :
    (s.setLpF l i lo w v).lpF k j lo' w' = s.lpF k j lo' w' := by
  rw [s.setLpF_eq]
  by_cases hsame : l = k ∧ i = j
  · obtain ⟨rfl, rfl⟩ := hsame
    exact (congrArg (bits · lo' w') (State.lpW_setLpW_self _ hl hi h)).trans (bits_setBits_ne _ v hw (by omega))
  · exact congrArg (bits · lo' w') (State.lpW_setLpW_ne _ hl hi hj (by omega))

/-! ### The loops and the clock while a descriptor is written -/

section
variable {m : Nat} {a s : State} (h : Off m a s)
include h

theorem Off.cte_eq (hb : m.testBit (partNo .cte) = false) : s.cte = a.cte := h.part .cte hb

theorem Off.loop_eq (hb : m.testBit (partNo .cte) = false) (k : Nat) : s.loop k = a.loop k := by
  rw [State.loop, h.cte_eq hb, State.loop]

end

@[simp] theorem State.setLpW_loop (s : State) (l i : Nat) (v : Word) (k : Nat) : (s.setLpW l i v).loop k = s.loop k :=
  (State.setLpW_off (Nat.and_self _) .refl l i v).loop_eq (by decide) k

@[simp] theorem State.setLpF_loop (s : State) (l i lo w v k : Nat) : (s.setLpF l i lo w v).loop k = s.loop k :=
  s.setLpW_loop ..

@[simp] theorem State.setLpW_now (s : State) (l i : Nat) (v : Word) : (s.setLpW l i v).now = s.now :=
  (State.setLpW_off (Nat.and_self _) .refl l i v).now_eq (by decide)

@[simp] theorem State.setLpF_now (s : State) (l i lo w v : Nat) : (s.setLpF l i lo w v).now = s.now :=
  s.setLpW_now ..

@[simp] theorem State.int_loop (s : State) (page b k : Nat) : (s.int page b).loop k = s.loop k := rfl

@[simp] theorem State.setLoop_loop_self (s : State) (l : Nat) (f : LoopSt → LoopSt) : (s.setLoop l f).loop l = f (s.loop l) :=
  Tab.get_set_self ..

end Sys2Proof.Machine

/-! PROOF. Loops start, stop and sample (spec/08_control_engine.md R228, R246). -/
namespace Sys2Proof.Machine
open Sys2Proof

theorem State.cond_false (s : State) (f : State → State) : s.cond false f = s := rfl

/-! ### The enabling write (R246) -/

/-- The state of a loop that the enabling write starts: sample 0 falls on the first boundary at least 1 µs from now. -/
def State.startedLoop (s : State) (l : Nat) : LoopSt :=
  let per := s.lpPeriod l
  let u := wordBfp (if s.lpF l wCFG 30 1 = 1 then s.lpW l wMANUAL else s.lpW l wOUTPUT)
  { on := true, t0 := (s.now + usT 1 + per - 1) / per * per, uLast := u, uPrev := u, cls := s.lpF l wCFG 25 1 == 1 }

/-- What an enabled loop reaches beside its own state; fields 190 and 191 are the OWNED bits of BDAC_CFG and PWM_CFG. -/
def F.loopEnableTail : Nat :=
  F.State.setLpF ||| F.State.setLpW ||| F.State.setLpBit ||| F.State.setCteLoad ||| 3 <<< 190

theorem State.loopEnable_of_passed {s : State} {l : Nat} (hpass : s.loopErr l = none) :
    ∃ u, Off F.loopEnableTail (s.setLoop l fun _ => s.startedLoop l) u ∧ s.loopEnable l = u.int pgCTE 0 := by
  have hm := Nat.and_self F.loopEnableTail
  unfold State.loopEnable
  split
  case h_1 e he => exact absurd (hpass.symm.trans he) nofun
  case h_2 =>
    extract_lets per cls u s1 s2 s3 s4 i s5
    have h2 : Off F.loopEnableTail s1 s2 := State.setLpF_off (sb hm (by decide)) .refl ..
    have h3 : Off F.loopEnableTail s1 s3 := State.setLpW_off (sb hm (by decide)) (State.setLpF_off (sb hm (by decide))
      (State.setLpF_off (sb hm (by decide)) h2 ..) ..) ..
    have h4 : Off F.loopEnableTail s1 s4 :=
      State.setLpBit_off (sb hm (by decide)) (State.setLpBit_off (sb hm (by decide)) h3 ..) ..
    have h5 : Off F.loopEnableTail s1 s5 := by
      unfold s5
      split
      · exact State.wr_off h4 (has_BDAC_CFG_OWNED (by decide)) ..
      · exact State.wr_off h4 (has_PWM_CFG_OWNED (by decide)) ..
      · exact h4
    exact ⟨_, State.setCteLoad_off (sb hm (by decide)) h5, rfl⟩

/-- LP_CFG of a loop that is off takes every writable bit; then CUE and EN act. -/
theorem State.writeLpCfg_of_off {s : State} {l : Nat} {v : Word} (hoff : (s.loop l).on = false)
    (hauto : v.getLsbD 30 = false) :
    s.writeLpCfg l v
      = let u := (s.setLpW l wCFG (maskWord (lpMask 0) (s.lpW l wCFG) v)).cond (v.getLsbD 28) fun s => s.cue l
        if v.getLsbD 31 then u.loopEnable l else u := by
  simp only [State.writeLpCfg, hoff, hauto, State.cond, Bool.false_and, Bool.not_false, Bool.and_true, Bool.false_eq_true,
    if_false]

theorem execLoopEnable_starts {s u : State} {l : Fin 256} {v : Word} (hdef : s.sys.deferred = [])
    (hoff : (s.loop l).on = false) (hauto : v.getLsbD 30 = false) (hcue : v.getLsbD 28 = false)
    (hu : u = s.setLpW l wCFG (maskWord (lpMask 0) (s.lpW l wCFG) (v ||| 0x80000000#32))) (hpass : u.loopErr l = none) :
    ∃ t, exec (.loopEnable l v) s = .next t ∧ (t.loop l).on = true
      ∧ (t.loop l).t0 = (s.now + usT 1 + u.lpPeriod l - 1) / u.lpPeriod l * u.lpPeriod l
      ∧ t.tst PG_INT_STAT pgCTE 0 = true := by
  have hwrite : s.writeLpCfg l (v ||| 0x80000000#32) = u.loopEnable l := by
    rw [State.writeLpCfg_of_off hoff (by rw [BitVec.getLsbD_or, hauto]; rfl), ← hu, BitVec.getLsbD_or, BitVec.getLsbD_or,
      hcue]
    exact if_pos (Bool.or_true _)
  have hnow : u.now = s.now := by rw [hu, State.setLpW_now]
  refine ⟨_, rfl, ?_⟩
  obtain ⟨w, htail, henable⟩ := State.loopEnable_of_passed hpass
  have hloop : w.loop l = u.startedLoop l := (htail.loop_eq (by decide) l).trans (State.setLoop_loop_self ..)
  rw [State.byHost_of_none hdef, State.loopEn, if_pos rfl, hwrite, henable, State.int_loop, hloop, State.startedLoop, hnow]
  exact ⟨rfl, rfl, State.int_tst _ (by decide) (by decide)⟩

/-! ### The disabling write (R246) -/

/-- What a write of LP_CFG reaches before EN acts. -/
def F.lpCfgWritten : Nat := F.State.cteIgnore ||| F.State.setLpW ||| F.State.setLpBit

/-- A loop whose EN falls stops at its next boundary. -/
theorem State.writeLpCfg_stops {s : State} {l : Nat} {v : Word} (hon : (s.loop l).on = true)
    (hlive : (s.loop l).stopping = false) (hcue : v.getLsbD 28 = false) (hen : v.getLsbD 31 = false) :
    ∃ u, Off F.lpCfgWritten s u ∧ s.writeLpCfg l v = u.setLoop l fun x => { x with stopping := true } := by
  have hm := Nat.and_self F.lpCfgWritten
  simp only [State.writeLpCfg, hon, hlive, hcue, hen, Bool.not_false, Bool.and_true, Bool.false_and, Bool.false_eq_true,
    if_true, if_false, State.cond_false]
  exact ⟨_, State.cond_off (State.setLpW_off (sb hm (by decide)) (State.cond_off .refl (fun _ h =>
    State.cteIgnore_off (sb hm (by decide)) h) _) ..) (fun _ h => State.setLpBit_off (sb hm (by decide)) h ..) _, rfl⟩

theorem execLoopDisable_stops {s : State} {l : Fin 256} {v : Word} (hdef : s.sys.deferred = [])
    (hon : (s.loop l).on = true) (hlive : (s.loop l).stopping = false) (hcue : v.getLsbD 28 = false) :
    ∃ t, exec (.loopDisable l v) s = .next t ∧ (t.loop l).on = true ∧ (t.loop l).stopping = true := by
  obtain ⟨u, hwritten, hstops⟩ :=
    State.writeLpCfg_stops (v := v &&& 0x7FFFFFFF#32) hon hlive
      (by rw [BitVec.getLsbD_and, hcue]; rfl) (by rw [BitVec.getLsbD_and]; exact Bool.and_false _)
  refine ⟨_, rfl, ?_⟩
  rw [State.byHost_of_none hdef, State.loopEn, if_neg Bool.false_ne_true, hstops, State.setLoop_loop_self,
    hwritten.loop_eq (by decide)]
  exact ⟨hon, rfl⟩

/-! ### A sample boundary (R228) -/

/-- An evaluated sample has an output, to be sent at the next boundary. -/
theorem State.loopEval_out (s : State) (l : Nat) : ((s.loopEval l).loop l).out.isSome = true := by
  unfold State.loopEval
  split
  extract_lets
  split
  split
  extract_lets
  split
  extract_lets
  rw [State.setLpW_loop, State.setLoop_loop_self]
  rfl

/-- What a boundary reaches before the sample that starts there is evaluated; field 658 is CTE_OVR_CNT. -/
def F.boundaryFront : Nat :=
  F.State.loopFollow ||| F.State.raise ||| F.State.setLpBit ||| F.State.loopSend ||| F.State.setLoop ||| F.State.cueSwap
    ||| F.State.injBoundary ||| 1 <<< 658

/-- At a boundary the clock stands at the instant of the sample, and after the output, the Cue and the injector the new
sample is evaluated. -/
theorem State.loopBoundary_evaluates {s : State} {l : Nat} (hon : (s.loop l).on = true) (hshut : s.thm.shut = false)
    (hstop : (s.loop l).stopping = false) :
    ∃ u, Off F.boundaryFront (s.reach ((s.loop l).t0 + (s.loop l).n * s.lpPeriod l)) u
      ∧ s.loopBoundary l true 0 = (u.loopEval l).loopPowEnd l := by
  have hm := Nat.and_self F.boundaryFront
  have hgo : (!(s.loop l).on || s.thm.shut && s.thm.restart == false) = false := by rw [hon, hshut]; rfl
  unfold State.loopBoundary
  extract_lets s0 x s1 s2 s3 s4 s5 s6
  have h2 : Off F.boundaryFront s1 s2 := State.loopFollow_off (sb hm (by decide)) .refl l
  have h3 : Off F.boundaryFront s1 s3 := State.cond_off h2 (fun _ h => State.raise_off (sb hm (by decide))
    (State.setLpBit_off (sb hm (by decide)) (State.satInc_off h (has_CTE_OVR_CNT (by decide)) ..) ..) ..) _
  have h4 : Off F.boundaryFront s1 s4 :=
    State.setLoop_off (sb hm (by decide)) (State.loopSend_off (sb hm (by decide)) h3 l) ..
  have h5 : Off F.boundaryFront s1 s5 := State.cond_off h4 (fun _ h => State.cueSwap_off (sb hm (by decide)) h l) _
  have h6 : Off F.boundaryFront s1 s6 := State.injBoundary_off (sb hm (by decide)) h5 l
  refine ⟨s6, h6, ?_⟩
  rw [if_neg (by exact Bool.eq_false_iff.1 hgo), if_neg (by exact Bool.eq_false_iff.1 hstop), if_pos rfl]

theorem execLoopSampleBoundary_samples {s : State} {l : Fin 256} (hon : (s.loop l).on = true) (hshut : s.thm.shut = false)
    (hstop : (s.loop l).stopping = false) :
    ∃ t, exec (.loopSampleBoundary l true 0) s = .next t ∧ t.now = max s.now ((s.loop l).t0 + (s.loop l).n * s.lpPeriod l)
      ∧ (t.loop l).out.isSome = true := by
  obtain ⟨u, hfront, heval⟩ := State.loopBoundary_evaluates hon hshut hstop
  have hrest : Off (F.State.loopEval ||| F.State.loopPowEnd) u ((u.loopEval l).loopPowEnd l) :=
    State.loopPowEnd_off (by decide) (State.loopEval_off (by decide) .refl l) l
  refine ⟨_, rfl, ?_⟩
  rw [heval]
  refine ⟨?_, ?_⟩
  · rw [hrest.now_eq (by decide), hfront.now_eq (by decide), State.reach_now]
  · rw [State.loopPowEnd, State.setLoop_loop_self]
    exact u.loopEval_out l

end Sys2Proof.Machine

/-! PROOF. Banks swap by cues (spec/08_control_engine.md R239). -/
namespace Sys2Proof.Machine
open Sys2Proof

/-! ### A loop's Cue -/

/-- The Cue of a loop whose target accepts any bank, and that awaits no other. -/
theorem State.cue_of_fit {s : State} {l : Nat} (hclear : s.lpF l wCFG 27 1 = 0)
    (hfit : s.satClass l (s.lpF l wCFG 25 1 == 1) = true) :
    s.cue l = if (s.loop l).on then
        ((s.setLpF l wSTAT 28 4 0).setLpF l wCFG 27 1 1).setLoop l fun x => { x with cueAt := s.now }
      else (s.setLpF l wSTAT 28 4 0).cueSwap l := by
  simp only [State.cue, hclear, hfit, Nat.zero_ne_one, if_false, Bool.not_true, Bool.false_and, Bool.false_eq_true,
    State.setLpF_loop, State.setLpF_now]

/-- The other bank is in force, no Cue waits, and LP_STAT.ERR stays. -/
theorem State.cueSwap_swaps {s : State} {l : Nat} (hl : l < 256) (hwf : Memory.wf s.mem = true) :
    (s.cueSwap l).lpF l wCFG 29 1 = (1 - s.lpF l wCFG 29 1) % 2 ∧ (s.cueSwap l).lpF l wCFG 27 1 = 0
      ∧ (s.cueSwap l).lpF l wSTAT 28 4 = s.lpF l wSTAT 28 4 := by
  have hint : ∀ j lo w, (s.cueSwap l).lpF l j lo w
      = ((s.setLpF l wCFG 29 1 (1 - s.lpF l wCFG 29 1)).setLpF l wCFG 27 1 0).lpF l j lo w := fun _ _ _ => rfl
  have hwf' := State.setLpF_mem_wf 29 1 (1 - s.lpF l wCFG 29 1) hl (i := wCFG) (by decide) hwf
  refine ⟨?_, ?_, ?_⟩
  · rw [hint, State.lpF_setLpF_ne _ hl (by decide) (by decide) (by decide) hwf' (.inr (.inr (by decide)))]
    exact State.lpF_setLpF_self _ hl (by decide) (by decide) hwf
  · exact (hint ..).trans (State.lpF_setLpF_self _ hl (by decide) (by decide) hwf')
  · rw [hint, State.lpF_setLpF_ne _ hl (by decide) (by decide) (by decide) hwf' (.inr (.inl (by decide))),
      State.lpF_setLpF_ne _ hl (by decide) (by decide) (by decide) hwf (.inr (.inl (by decide)))]

theorem execCue_swaps {s u : State} {l : Fin 256} {v : Word} (hdef : s.sys.deferred = []) (hwf : Memory.wf s.mem = true)
    (hoff : (s.loop l).on = false) (hen : v.getLsbD 31 = false) (hauto : v.getLsbD 30 = false)
    (hu : u = s.setLpW l wCFG (maskWord (lpMask 0) (s.lpW l wCFG) (v ||| 0x10000000#32))) (hclear : u.lpF l wCFG 27 1 = 0)
    (hfit : u.satClass l (u.lpF l wCFG 25 1 == 1) = true) :
    ∃ t, exec (.cue l v) s = .next t ∧ t.lpF l wCFG 29 1 = (1 - u.lpF l wCFG 29 1) % 2 ∧ t.lpF l wCFG 27 1 = 0
      ∧ t.lpF l wSTAT 28 4 = 0 := by
  have hwrite : s.writeLpCfg l (v ||| 0x10000000#32) = (u.setLpF l wSTAT 28 4 0).cueSwap l := by
    have huoff : (u.loop l).on = false := by rw [hu, State.setLpW_loop, hoff]
    rw [State.writeLpCfg_of_off hoff (by rw [BitVec.getLsbD_or, hauto]; rfl), ← hu, BitVec.getLsbD_or, BitVec.getLsbD_or,
      hen]
    exact (if_pos (Bool.or_true _)).trans ((State.cue_of_fit hclear hfit).trans (by rw [huoff]; rfl))
  have hwf' : Memory.wf u.mem = true := by rw [hu]; exact State.setLpW_mem_wf _ l.isLt (by decide) hwf
  have hbank : (u.setLpF l wSTAT 28 4 0).lpF l wCFG 29 1 = u.lpF l wCFG 29 1 :=
    State.lpF_setLpF_ne (i := wSTAT) _ l.isLt (by decide) (by decide) (by decide) hwf' (.inr (.inl (by decide)))
  have herr : (u.setLpF l wSTAT 28 4 0).lpF l wSTAT 28 4 = 0 :=
    State.lpF_setLpF_self _ l.isLt (by decide) (by decide) hwf'
  refine ⟨_, rfl, ?_⟩
  rw [State.byHost_of_none hdef, hwrite]
  obtain ⟨hswapped, hdone, hkept⟩ := State.cueSwap_swaps (s := u.setLpF l wSTAT 28 4 0) l.isLt
    (State.setLpF_mem_wf _ _ _ l.isLt (by decide) hwf')
  exact ⟨hbank ▸ hswapped, hdone, hkept.trans herr⟩

/-! ### The Cue of groups -/

/-- A loop over a list of which one turn changes the state is that turn. -/
theorem foldl_eq_turn {α β : Type} {f : β → α → β} {l : List α} {a : α} {s : β} (hmem : a ∈ l) (hnodup : l.Nodup)
    (hbefore : ∀ b ∈ l, b ≠ a → f s b = s) (hafter : ∀ b ∈ l, b ≠ a → f (f s a) b = f s a) : l.foldl f s = f s a := by
  obtain ⟨before, after, rfl⟩ := List.append_of_mem hmem
  obtain ⟨-, htail, hcross⟩ := List.pairwise_append.1 hnodup
  have hstay : ∀ (t : β) (m : List α), (∀ b ∈ m, f t b = t) → m.foldl f t = t := fun t m h =>
    List.foldlRecOn m f (motive := (· = t)) rfl fun _ hu b hb => by rw [hu, h b hb]
  rw [List.foldl_append, List.foldl_cons, hstay s before fun b hb =>
    hbefore b (List.mem_append_left _ hb) (hcross b hb a List.mem_cons_self)]
  exact hstay _ after fun b hb =>
    hafter b (List.mem_append_right _ (List.mem_cons_of_mem _ hb)) ((List.pairwise_cons.1 htail).1 b hb).symm

/-- The Cue of an enabled loop waits for its next boundary; the loop's bank and the group of every loop stay. -/
theorem State.cue_waits {s : State} {l : Nat} (hl : l < 256) (hwf : Memory.wf s.mem = true) (hon : (s.loop l).on = true)
    (hclear : s.lpF l wCFG 27 1 = 0) (hfit : s.satClass l (s.lpF l wCFG 25 1 == 1) = true) :
    (s.cue l).lpF l wCFG 27 1 = 1 ∧ (s.cue l).lpF l wCFG 29 1 = s.lpF l wCFG 29 1 ∧ (s.cue l).lpF l wSTAT 28 4 = 0
      ∧ ∀ k, (s.cue l).lpF k wCFG 20 4 = s.lpF k wCFG 20 4 := by
  have hcue : ∀ k j lo w, (s.cue l).lpF k j lo w = ((s.setLpF l wSTAT 28 4 0).setLpF l wCFG 27 1 1).lpF k j lo w := by
    intro k j lo w
    rw [State.cue_of_fit hclear hfit, if_pos hon]
    rfl
  have hwf' := State.setLpF_mem_wf 28 4 0 hl (i := wSTAT) (by decide) hwf
  refine ⟨?_, ?_, ?_, fun k => ?_⟩ <;> rw [hcue]
  · exact State.lpF_setLpF_self _ hl (by decide) (by decide) hwf'
  · rw [State.lpF_setLpF_ne _ hl (by decide) (by decide) (by decide) hwf' (.inr (.inr (by decide))),
      State.lpF_setLpF_ne _ hl (by decide) (by decide) (by decide) hwf (.inr (.inl (by decide)))]
  · rw [State.lpF_setLpF_ne _ hl (by decide) (by decide) (by decide) hwf' (.inr (.inl (by decide)))]
    exact State.lpF_setLpF_self _ hl (by decide) (by decide) hwf
  · rw [State.lpF_setLpF_ne _ hl (by decide) (by decide) (by decide) hwf' (.inr (.inr (by decide))),
      State.lpF_setLpF_ne _ hl (by decide) (by decide) (by decide) hwf (.inr (.inl (by decide)))]

theorem execCueGroup_waits {s : State} {v : Word} {l : Fin 256} (hdef : s.sys.deferred = []) (hwf : Memory.wf s.mem = true)
    (hon : (s.loop l).on = true) (hgroup : ∀ k : Fin 256, v.getLsbD (s.lpF k wCFG 20 4) = decide (k = l))
    (hclear : s.lpF l wCFG 27 1 = 0) (hfit : s.satClass l (s.lpF l wCFG 25 1 == 1) = true) :
    ∃ t, exec (.cueGroup v) s = .next t ∧ t.lpF l wCFG 27 1 = 1 ∧ t.lpF l wCFG 29 1 = s.lpF l wCFG 29 1
      ∧ t.lpF l wSTAT 28 4 = 0 := by
  obtain ⟨hwaits, hbank, herr, hgroups⟩ := State.cue_waits l.isLt hwf hon hclear hfit
  have hnamed : ∀ k < 256, v.getLsbD (s.lpF k wCFG 20 4) = decide (k = l.val) := fun k hk => by
    rw [← decide_eq_decide.2 (Fin.ext_iff (a := ⟨k, hk⟩) (b := l))]; exact hgroup ⟨k, hk⟩
  have hturn : (if v.getLsbD (s.lpF l wCFG 20 4) then s.cue l else s) = s.cue l := if_pos (by simp [hgroup])
  have hone : s.cueGroup v = s.cue l := by
    refine (foldl_eq_turn (List.mem_range.2 l.isLt) List.nodup_range (fun k hk hne => ?_) fun k hk hne => ?_).trans hturn
    · exact if_neg (by simp [hnamed k (List.mem_range.1 hk), hne])
    · rw [hturn]
      exact if_neg (by simp [hgroups, hnamed k (List.mem_range.1 hk), hne])
  refine ⟨_, rfl, ?_⟩
  rw [State.byHost_of_none hdef, hone]
  exact ⟨hwaits, hbank, herr⟩

end Sys2Proof.Machine

/-! PROOF. Injection, capture and the faults of the engine's memories (spec/08_control_engine.md R247 to R249). -/
namespace Sys2Proof.Machine
open Sys2Proof

/-! ### Injection (R247) -/

theorem State.writeInjCtl_go {s : State} (hidle : s.cte.inj.run = false) :
    s.writeInjCtl 0x80000000#32 = s.setInj fun j => { j with pendGo := true } := by
  simp [State.writeInjCtl, State.cond, hidle]

theorem execInjectGo_pends {s : State} (hdef : s.sys.deferred = []) (hidle : s.cte.inj.run = false) :
    ∃ t, exec .injectGo s = .next t ∧ t.cte.inj.pendGo = true := by
  refine ⟨_, rfl, ?_⟩
  rw [State.byHost_of_none hdef, State.writeInjCtl_go hidle]
  rfl

theorem State.writeInjCtl_stop (s : State) :
    s.writeInjCtl 0x40000000#32 = s.setInj fun j => { j with pendGo := false, pendStop := j.run } := by
  simp [State.writeInjCtl, State.cond]

theorem execInjectStop_pends {s : State} (hdef : s.sys.deferred = []) (hrun : s.cte.inj.run = true) :
    ∃ t, exec .injectStop s = .next t ∧ t.cte.inj.pendGo = false ∧ t.cte.inj.pendStop = true := by
  refine ⟨_, rfl, ?_⟩
  rw [State.byHost_of_none hdef, State.writeInjCtl_stop]
  exact ⟨rfl, hrun⟩

/-! ### Capture (R248) -/

theorem State.writeInjCtl_trig {s : State} (harmed : s.cte.cap.armed = true) :
    s.writeInjCtl 0x20000000#32 = s.setCap fun c => { c with pendTrig := true } := by
  simp [State.writeInjCtl, State.cond, harmed]

theorem execCaptureTrig_pends {s : State} (hdef : s.sys.deferred = []) (harmed : s.cte.cap.armed = true) :
    ∃ t, exec .captureTrig s = .next t ∧ t.cte.cap.pendTrig = true ∧ t.cte.cap.armed = true := by
  refine ⟨_, rfl, ?_⟩
  rw [State.byHost_of_none hdef, State.writeInjCtl_trig harmed]
  exact ⟨rfl, harmed⟩

@[simp] theorem State.setCap_rd (s : State) (g : CapSt → CapSt) (f : Fld) (i : Nat) : (s.setCap g).rd f i = s.rd f i := rfl

theorem State.writeCteCap_of_rise {s : State} {v : Word} (hidle : s.rd CTE_CAP_CFG_EN 0 = 0) (hen : v.getLsbD 31 = true) :
    s.writeCteCap v = (((s.wrWord [CTE_CAP_CFG_EN, CTE_CAP_CFG_DECIM, CTE_CAP_CFG_PRE] 0 v).wr CTE_CAP_STAT_DONE 0 0).wr
      CTE_CAP_STAT_TRIGGERED 0 0).setCap fun _ => { armed := true } := by
  simp [State.writeCteCap, State.on, hidle, hen]

theorem execCaptureArm_arms {s : State} {v : Word} (hdef : s.sys.deferred = []) (hidle : s.rd CTE_CAP_CFG_EN 0 = 0) :
    ∃ t, exec (.captureArm v) s = .next t ∧ t.rd CTE_CAP_CFG_EN 0 = 1 ∧ t.rd CTE_CAP_STAT_DONE 0 = 0
      ∧ t.rd CTE_CAP_STAT_TRIGGERED 0 = 0 ∧ t.cte.cap = { armed := true } := by
  refine ⟨_, rfl, ?_⟩
  rw [State.byHost_of_none hdef, State.writeCteCap_of_rise hidle (by simp)]
  simp only [State.setCap_rd]
  refine ⟨?_, ?_, ?_, rfl⟩
  · refine (State.rd_wr_ne _ _ (by decide)).trans ((State.rd_wr_ne _ _ (by decide)).trans ?_)
    rw [State.rd_wrWord_self _ List.mem_cons_self (by decide) (by decide) (by decide)]
    exact Fld.of_or_set v rfl (by decide)
  · exact (State.rd_wr_ne _ _ (by decide)).trans (State.rd_wr_self _ _ (by decide) (by decide))
  · exact State.rd_wr_self _ _ (by decide) (by decide)

/-! ### Memory errors (R249) -/

/-- An occurrence of a cause leaves the page-status bits as they stand (R278). -/
theorem State.raise_tst_int (s : State) (page b : Nat) (ports : Ports) (p k : Nat)
    (hne : PG_ERR.key page ≠ PG_INT_STAT.key p) : (s.raise page b ports).tst PG_INT_STAT p k = s.tst PG_INT_STAT p k := by
  rw [State.tst_congr (State.raise_regs ..), State.tst, State.orBits, State.rd_wr_ne _ _ hne, State.tst]

theorem State.cteMem_of_on {s : State} {l : Nat} (hon : (s.loop l).on = true) :
    ∃ (u : State) (ports : Ports), s.cteMem l = (u.int pgCTE 8).raise pgCTE 1 ports := by
  simp only [State.cteMem, hon, if_true]
  exact ⟨_, _, rfl⟩

theorem execCteMemUncorr_reports {s : State} {l : Fin 256} (hon : (s.loop l).on = true) :
    ∃ t, exec (.cteMemUncorr l) s = .next t ∧ t.tst PG_INT_STAT pgCTE 8 = true ∧ t.tst PG_ERR pgCTE 1 = true := by
  obtain ⟨u, ports, hmem⟩ := State.cteMem_of_on hon
  refine ⟨_, rfl, ?_⟩
  rw [hmem, State.raise_tst_int _ _ _ _ _ _ (by decide)]
  exact ⟨State.int_tst _ (by decide) (by decide), State.raise_tst _ _ (by decide) (by decide)⟩

theorem execCteCapUncorr_zeroes {s : State} {i : Fin 65536} (hwf : Memory.wf s.mem = true) :
    ∃ t, exec (.cteCapUncorr i) s = .next t ∧ t.ld (Region.loopCap.lo + 8 * i) = 0
      ∧ t.ld (Region.loopCap.lo + 8 * i + 4) = 0 ∧ t.tst PG_ERR pgCTE 3 = true := by
  have hin : 8 * i.val + 4 + 4 ≤ Region.loopCap.size := by have := i.isLt; simp only [Region.size]; omega
  have hstored : (s.stIn .loopCap (8 * i) 0).stIn .loopCap (8 * i + 4) 0
      = (s.st (Region.loopCap.lo + 8 * i) 0).st (Region.loopCap.lo + 8 * i + 4) 0 := by
    rw [State.stIn_eq _ _ hin, State.stIn_eq _ _ (by omega), Nat.add_assoc]
  refine ⟨_, rfl, ?_⟩
  rw [State.cteCapMem, hstored]
  generalize Region.loopCap.lo + 8 * i.val = a
  have hwf' : Memory.wf (s.st a 0).mem = true := st_mem_wf a 0 hwf
  have hraise := State.raise_off (Nat.and_self _) (.refl (a := (s.st a 0).st (a + 4) 0)) pgCTE 3 allPorts
  have hld : ∀ x, (((s.st a 0).st (a + 4) 0).raise pgCTE 3 allPorts).ld x = ((s.st a 0).st (a + 4) 0).ld x := fun x => by
    simp only [State.ld, hraise.ld8_eq (by decide)]
  rw [hld, hld, ld_st_ne _ (.inl (Nat.le_refl _)), ld_st_self _ _ hwf, ld_st_self _ _ hwf']
  exact ⟨rfl, rfl, State.raise_tst _ _ (by decide) (by decide)⟩

/-- Settles O38: each write of the host reaches the state its clause names, and what follows in it reaches none of it; a
boundary evaluates its sample after the clock has reached it, and a Cue of one loop is the only turn of its groups' loop. -/
theorem engineCommandsComplete : Obligations.EngineCommandsComplete :=
  ⟨fun _ _ _ _ => execLoopEnable_starts, fun _ _ _ => execLoopDisable_stops, fun _ _ => execLoopSampleBoundary_samples,
   fun _ _ _ _ => execCue_swaps, fun _ _ _ => execCueGroup_waits, fun _ => execInjectGo_pends, fun _ => execInjectStop_pends,
   fun _ => execCaptureTrig_pends, fun _ _ => execCaptureArm_arms, fun _ _ => execCteMemUncorr_reports,
   fun _ _ => execCteCapUncorr_zeroes⟩

end Sys2Proof.Machine

/-! PROOF. The fabric and the ledgers out of an operation's reach, and what the clock and the writes of a ledger leave of them
(spec/09_self_timed_fabric.md R263). -/
namespace Sys2Proof.Machine
open Sys2Proof

section
variable {m : Nat} {a s : State} (h : Off m a s) (hb : m.testBit (partNo .fab) = false)
include h hb

theorem Off.fab_eq : s.fab = a.fab := h.part .fab hb

theorem Off.ledger_eq (n : Nat) : s.ledger n = a.ledger n := by rw [State.ledger, h.fab_eq hb, State.ledger]

end

@[simp] theorem State.reach_fab (s : State) (t : Nat) : (s.reach t).fab = s.fab :=
  (State.reach_off (Nat.and_self _) .refl t).fab_eq (by decide)

@[simp] theorem State.toMul_lane (s : State) (e o p n : Nat) : (s.toMul e o p).lane n = s.lane n :=
  (State.toMul_off (Nat.and_self _) .refl e o p).lane_eq (by decide) n

@[simp] theorem State.setLedger_ledger_self (s : State) (n : Nat) (f : Ledger → Ledger) :
    (s.setLedger n f).ledger n = f (s.ledger n) :=
  Tab.get_set_self ..

theorem State.syncLedger_off_self (s : State) (n : Nat) : Off F.State.syncLedger s (s.syncLedger n) :=
  State.syncLedger_off (Nat.and_self _) .refl n

/-- The ledger of a lane that is not active stands (R263). -/
theorem State.syncLedger_of_inactive {s : State} {n : Nat} (hidle : (s.lane n).active = false) : s.syncLedger n = s := by
  rw [State.syncLedger, State.syncTo, hidle]
  exact if_neg Bool.false_ne_true

end Sys2Proof.Machine

/-! PROOF. The voltage guard, gauge windows and wings buffers (spec/09_self_timed_fabric.md R255 to R260, R276). -/
namespace Sys2Proof.Machine
open Sys2Proof

/-! ### The voltage guard (R260) -/

/-- Of the fabric's state the guard sets its own flag and the end of its hold-off alone. -/
theorem State.voltageGuard_fab (s : State) (t : Nat) :
    (s.voltageGuard t).fab = { s.fab with guard := true, holdoffEnd := some (t + s.holdoff) } := by
  unfold State.voltageGuard
  extract_lets s1 s2
  have hsent : Off F.State.sendMv s1 s2 := State.cond_off .refl (fun _ h => State.sendMv_off (Nat.and_self _) h ..) _
  exact hsent.fab_eq (by decide)

theorem State.voltageGuard_now (s : State) (t : Nat) : (s.voltageGuard t).now = s.now :=
  (State.voltageGuard_off (Nat.and_self _) .refl t).now_eq (by decide)

/-- The guard shows that it acts, and counts (R260). -/
theorem State.voltageGuard_reads (s : State) (t : Nat) :
    (s.voltageGuard t).rd FAB_STAT_VGUARD 0 = 1
      ∧ (s.voltageGuard t).rd FAB_GUARD_CNT 0 = min (s.rd FAB_GUARD_CNT 0 + 1) (2 ^ FAB_GUARD_CNT.w - 1) := by
  unfold State.voltageGuard
  extract_lets s1 s2
  have hsent : Off F.State.sendMv s1 s2 := State.cond_off .refl (fun _ h => State.sendMv_off (Nat.and_self _) h ..) _
  have hcnt : ((s2.wr FAB_STAT_VGUARD 0 1).int pgFAB 0).rd FAB_GUARD_CNT 0 = s.rd FAB_GUARD_CNT 0 :=
    (State.rd_wr_ne _ _ (by decide)).trans ((State.rd_wr_ne _ _ (by decide)).trans (hsent.rd_eq (by decide +kernel)))
  refine ⟨?_, by rw [State.rd_satInc_self (by decide) (by decide), hcnt]⟩
  exact (State.rd_wr_ne _ _ (by decide)).trans ((State.rd_wr_ne _ _ (by decide)).trans
    (State.rd_wr_self _ _ (by decide) (by decide)))

theorem State.holdoffDone_of_quiet {s : State} {a : Nat} (hend : s.fab.holdoffEnd = some a) (hquiet : s.wingWarns = false) :
    s.holdoffDone
      = ((s.reach a).setFab fun f => { f with guard := false, holdoffEnd := none }).wr FAB_STAT_VGUARD 0 0 := by
  have hquiet' : (s.reach a).wingWarns = false := by rw [State.wingWarns, State.reach_fab, ← State.wingWarns, hquiet]
  rw [State.holdoffDone, hend]
  exact if_neg (by exact Bool.eq_false_iff.1 hquiet')

theorem execGuardHoldoffEnd_ends {s : State} {a : Nat} (hend : s.fab.holdoffEnd = some a) (hquiet : s.wingWarns = false) :
    ∃ t, exec .guardHoldoffEnd s = .next t ∧ t.fab.guard = false ∧ t.fab.holdoffEnd = none ∧ t.rd FAB_STAT_VGUARD 0 = 0
      ∧ t.now = max s.now a := by
  refine ⟨_, rfl, ?_⟩
  rw [State.holdoffDone_of_quiet hend hquiet]
  exact ⟨rfl, rfl, State.rd_wr_self _ _ (by decide) (by decide), s.reach_now a⟩

/-! ### Gauge windows (R257) -/

/-- What a gauge window leaves: the islands, its instant, and the clock. -/
def State.gauge (s : State) : Tab Island × Nat × Nat := (s.fab.islands, s.fab.windowAt, s.now)

theorem State.voltageGuard_gauge (s : State) (t : Nat) : (s.voltageGuard t).gauge = s.gauge := by
  rw [State.gauge, State.voltageGuard_fab, State.voltageGuard_now, State.gauge]

theorem Off.gauge_eq {m : Nat} {a s : State} (h : Off m a s) (hfab : m.testBit (partNo .fab) = false)
    (hnow : m.testBit (partNo .now) = false) : s.gauge = a.gauge := by
  rw [State.gauge, h.fab_eq hfab, h.now_eq hnow, State.gauge]

/-- An island's turn at the end of a gauge window. -/
def State.islandTurn (s : State) (act : List (Nat × Nat)) (t : Tab Island) (i : Nat) : Tab Island :=
  let x := s.fab.islands.get {} i
  match act.find? (·.1 == i) with
  | some (_, c) => t.set i { slack := c, active := true, min := min x.min c }
  | none => if x == {} then t else t.set i { x with slack := 0xFFF, active := false }

theorem State.islandTurn_get_ne (s : State) (act : List (Nat × Nat)) (t : Tab Island) {i k : Nat} (hne : i ≠ k) :
    (s.islandTurn act t i).get {} k = t.get {} k := by
  unfold State.islandTurn
  extract_lets x
  split
  · exact Tab.get_set_ne _ _ hne t
  · split
    · rfl
    · exact Tab.get_set_ne _ _ hne t

theorem State.islandTurn_get_of_active {s : State} {act : List (Nat × Nat)} {i j c : Nat} (t : Tab Island)
    (hact : act.find? (fun x => x.1 == i) = some (j, c)) :
    (s.islandTurn act t i).get {} i
      = { slack := c, active := true, min := min (s.fab.islands.get {} i).min c } := by
  simp only [State.islandTurn, hact, Tab.get_set_self]

/-- The islands at the end of a gauge window. -/
def State.windowIslands (s : State) (act : List (Nat × Nat)) : Tab Island :=
  (List.range 188).foldl (s.islandTurn act) s.fab.islands

theorem State.windowIslands_get_of_active {s : State} {act : List (Nat × Nat)} {i j c : Nat} (hi : i < 188)
    (hact : act.find? (fun x => x.1 == i) = some (j, c)) :
    (s.windowIslands act).get {} i = { slack := c, active := true, min := min (s.fab.islands.get {} i).min c } := by
  obtain ⟨t, -, ht⟩ := foldl_turn (f := s.islandTurn act) (Tab.get {} · i) (List.mem_range.2 hi) List.nodup_range
    (fun t _ _ hne => s.islandTurn_get_ne act t hne) s.fab.islands
  exact ht.trans (State.islandTurn_get_of_active t hact)

/-- What a window's end reaches with its report, before the guard is looked at; fields 659 to 661 are those of FAB_STAT. -/
def F.slackReport : Nat := F.State.raise ||| F.State.stand ||| F.State.unstand ||| 7 <<< 659

/-- A window's end takes in the islands at its instant, and what follows leaves them, the instant and the clock. -/
theorem State.slackWindowEnd_gauge (s : State) (act : List (Nat × Nat)) :
    (s.slackWindowEnd act).gauge = ((s.toMul evSLACK 0 gaugeT).windowIslands act, (s.toMul evSLACK 0 gaugeT).now,
      (s.toMul evSLACK 0 gaugeT).now) := by
  have hm := Nat.and_self F.slackReport
  unfold State.slackWindowEnd
  extract_lets u isl s1 low code s2 s3 s4
  have hislands : isl = u.windowIslands act := rfl
  clear_value code low isl
  have h2 : Off F.slackReport s1 s2 := State.wr_off .refl (has_FAB_STAT_LOW_SLACK (by decide)) ..
  have h3 : Off F.slackReport s1 s3 := by
    unfold s3
    split
    · exact State.wr_off h2 (has_FAB_STAT_LOW_ISL (by decide)) ..
    · exact h2
  have h4 : Off F.slackReport s1 s4 := by
    unfold s4
    split
    · exact State.stand_off (sb hm (by decide)) (State.raise_off (sb hm (by decide))
        (State.wr_off h3 (has_FAB_STAT_SLACK_LOW (by decide)) ..) ..) ..
    · exact State.cond_off (State.wr_off h3 (has_FAB_STAT_SLACK_LOW (by decide)) ..) (fun _ h =>
        State.unstand_off (sb hm (by decide)) h ..) _
  have hreported : s4.gauge = (u.windowIslands act, u.now, u.now) :=
    (h4.gauge_eq (by decide) (by decide)).trans (congrArg (·, u.now, u.now) hislands)
  split
  · exact (State.voltageGuard_gauge ..).trans hreported
  · split <;> exact hreported

theorem execSlackWindowEnd_gauges {s u : State} {act : List (Fin 188 × BitVec 12)} {i : Fin 188} {j c : Nat}
    (hu : u = s.toMul evSLACK 0 gaugeT)
    (hact : (act.map fun x => (x.1.val, x.2.toNat)).find? (fun x => x.1 == i.val) = some (j, c)) :
    ∃ t, exec (.slackWindowEnd act) s = .next t ∧ t.fab.windowAt = u.now ∧ t.now = u.now
      ∧ (t.fab.islands.get {} i).slack = c ∧ (t.fab.islands.get {} i).active = true := by
  obtain ⟨hislands, hrest⟩ := Prod.mk.inj (s.slackWindowEnd_gauge (act.map fun x => (x.1.val, x.2.toNat)))
  obtain ⟨hat, hnow⟩ := Prod.mk.inj hrest
  refine ⟨_, rfl, ?_⟩
  rw [hislands, hat, hnow, ← hu, State.windowIslands_get_of_active i.isLt hact]
  exact ⟨rfl, rfl, rfl, rfl⟩

/-! ### Wings buffers (R255, R256, R276) -/

/-- A converter wings buffer that crosses into its warning raises source 27 and lets the guard act (R255). -/
theorem State.wingsWarning_of_crossing {s : State} {w v : Nat} (hw : w < 16) (hpast : wingPast w v = true)
    (hquiet : (s.fab.wings.get {} w).warn = false) :
    ∃ worst, s.wingsWarning w v
      = (((s.setFab fun f => { f with wings := f.wings.set w { now := v, worst := worst, warn := true } }).raiseInt
          [(pgFAB, 1)] pgFAB 2 allPorts).stand 27 2).voltageGuard (s.nextMul gaugeT) := by
  unfold State.wingsWarning
  extract_lets x worst past s1
  rw [if_neg (Nat.not_le.2 hw), if_pos (by simp only [past, x, hpast, hquiet]; rfl)]
  refine ⟨some worst, ?_⟩
  unfold s1 past
  rw [hpast]
  rfl

theorem execWingsWarning_guards {s : State} {w : Fin 22} {x : Nat} (hw : w.val < 16) (hpast : wingPast w x = true)
    (hquiet : (s.fab.wings.get {} w).warn = false) :
    ∃ t, exec (.wingsWarning w x) s = .next t ∧ t.rd FAB_STAT_VGUARD 0 = 1 ∧ (t.fab.wings.get {} w).now = x
      ∧ (t.fab.wings.get {} w).warn = true
      ∧ t.rd FAB_GUARD_CNT 0 = min (s.rd FAB_GUARD_CNT 0 + 1) (2 ^ FAB_GUARD_CNT.w - 1) := by
  obtain ⟨worst, hcross⟩ := State.wingsWarning_of_crossing hw hpast hquiet
  have hwing := Tab.get_set_self ({} : Wing) { now := x, worst := worst, warn := true } w.val s.fab.wings
  generalize hs1 : s.setFab (fun f => { f with wings := f.wings.set w { now := x, worst := worst, warn := true } }) = s1
    at hcross
  have hraised : Off (F.State.raiseInt ||| F.State.stand) s1 ((s1.raiseInt [(pgFAB, 1)] pgFAB 2 allPorts).stand 27 2) :=
    State.stand_off (by decide) (State.raiseInt_off (by decide) .refl ..) ..
  obtain ⟨hguard, hcnt⟩ :=
    State.voltageGuard_reads ((s1.raiseInt [(pgFAB, 1)] pgFAB 2 allPorts).stand 27 2) (s.nextMul gaugeT)
  refine ⟨_, rfl, ?_⟩
  rw [hcross, hguard, hcnt, State.voltageGuard_fab, hraised.fab_eq (by decide), hraised.rd_eq (by decide +kernel), ← hs1]
  exact ⟨rfl, congrArg Wing.now hwing, congrArg Wing.warn hwing, rfl⟩

/-- The ledgers' turns after a word is lost reach the fabric's state alone. -/
theorem State.wingsLoss_off_raised (s : State) (ls : List (Nat × Nat)) :
    Off F.State.setLedger ((s.satInc FAB_WLOSS_CNT 0).raiseInt [(pgFAB, 1)] pgFAB 3 allPorts) (s.wingsLoss ls) :=
  .foldl .refl (fun _ h _ => State.setLedger_off (Nat.and_self _) (State.syncLedger_off (by decide) h ..) ..) _

/-- The samples that a lane loses in a wings buffer go from Held to WINGS (R256). -/
theorem State.wingsLoss_ledger {s : State} {n k : Nat} (hidle : (s.lane n).active = false) :
    (s.wingsLoss [(n, k)]).ledger n = { s.ledger n with
      held := (s.ledger n).held - min k (s.ledger n).held, wings := (s.ledger n).wings + min k (s.ledger n).held } := by
  have hraised : Off (F.State.raiseInt ||| 1 <<< 662) s ((s.satInc FAB_WLOSS_CNT 0).raiseInt [(pgFAB, 1)] pgFAB 3 allPorts) :=
    State.raiseInt_off (by decide) (State.satInc_off .refl (has_FAB_WLOSS_CNT (by decide)) ..) ..
  unfold State.wingsLoss
  extract_lets s1
  have hturn : s1.syncLedger n = s1 := State.syncLedger_of_inactive (by rw [hraised.lane_eq (by decide), hidle])
  simp only [List.foldl_cons, List.foldl_nil, hturn, State.setLedger_ledger_self]
  rw [hraised.ledger_eq (by decide)]

theorem execWingsLoss_discards (s : State) (ls : List (Fin 32 × Nat)) :
    ∃ t, exec (.wingsLoss ls) s = .next t ∧ t.rd FAB_WLOSS_CNT 0 = min (s.rd FAB_WLOSS_CNT 0 + 1) (2 ^ FAB_WLOSS_CNT.w - 1)
      ∧ (∀ (n : Fin 32) (k : Nat), ls = [(n, k)] → (s.lane n).active = false →
        (t.ledger n).held = (s.ledger n).held - min k (s.ledger n).held
          ∧ (t.ledger n).wings = (s.ledger n).wings + min k (s.ledger n).held) := by
  refine ⟨_, rfl, ?_, ?_⟩
  · rw [(s.wingsLoss_off_raised _).rd_eq (by decide +kernel),
      (State.raiseInt_off (Nat.and_self _) .refl ..).rd_eq (by decide +kernel)]
    exact State.rd_satInc_self (by decide) (by decide)
  · rintro n k rfl hidle
    rw [List.map_singleton, State.wingsLoss_ledger hidle]
    exact ⟨rfl, rfl⟩

theorem execMinClr_resets {s : State} (hdef : s.sys.deferred = []) :
    ∃ t, exec .minClr s = .next t ∧ t.fab.islands = s.fab.islands.map (fun (i, x) => (i, { x with min := 0xFFF }))
      ∧ t.fab.wings = s.fab.wings.map (fun (i, x) => (i, { x with worst := none })) := by
  refine ⟨_, rfl, ?_⟩
  rw [State.byHost_of_none hdef]
  exact ⟨rfl, rfl⟩

end Sys2Proof.Machine

/-! PROOF. The ledgers are audited, copied and cleared (spec/09_self_timed_fabric.md R265 to R267). -/
namespace Sys2Proof.Machine
open Sys2Proof

/-! ### The audit (R265) -/

/-- What a failed check reaches beside the mark in the ledger. -/
def F.ledgerCheckTail : Nat := F.State.setAudit ||| F.State.raiseInt ||| F.State.stand ||| F.State.journals

/-- A ledger out of balance is reported, once (R265). -/
theorem State.ledgerCheck_reported {s : State} {n : Nat} (hnew : (s.ledger n).reported = false)
    (himb : (s.ledger n).imbalance ≠ 0) : ((s.ledgerCheck n).ledger n).reported = true := by
  have hm := Nat.and_self F.ledgerCheckTail
  unfold State.ledgerCheck
  extract_lets l excess s1 s2 r
  have h1 : Off F.ledgerCheckTail (s.setLedger n fun l => { l with reported := true }) s1 :=
    State.setAudit_off (sb hm (by decide)) .refl
  have h2 : Off F.ledgerCheckTail (s.setLedger n fun l => { l with reported := true }) s2 :=
    State.stand_off (sb hm (by decide)) (State.raiseInt_off (sb hm (by decide)) h1 ..) ..
  rw [if_neg (by simp [l, hnew, himb]), (State.journals_off (sb hm (by decide)) h2 _).ledger_eq (by decide),
    State.setLedger_ledger_self]

/-- The audit of the one lane that is active brings its ledger up to now and checks it. -/
theorem State.ledgerAudit_of_only {s : State} {n : Nat}
    (honly : (List.range 32).filter (fun n => (s.lane n).active) = [n]) :
    s.ledgerAudit [] = ((s.toMul evAUDIT 0 (msT 1)).syncLedger n).ledgerCheck n := by
  unfold State.ledgerAudit
  extract_lets s1 act s2 s3
  have hact : act = [n] := by simp only [act, s1, State.toMul_lane, honly]
  simp only [s3, s2, hact, List.foldl_cons, List.foldl_nil, s1]

theorem execLedgerAudit_reports {s u : State} {n : Fin 32}
    (honly : (List.range 32).filter (fun n => (s.lane n).active) = [n.val])
    (hu : u = (s.toMul evAUDIT 0 (msT 1)).syncLedger n) (hnew : (u.ledger n).reported = false)
    (himb : (u.ledger n).imbalance ≠ 0) :
    ∃ t, exec (.ledgerAudit []) s = .next t ∧ (t.ledger n).reported = true := by
  refine ⟨_, rfl, ?_⟩
  rw [List.map_nil, State.ledgerAudit_of_only honly, ← hu]
  exact State.ledgerCheck_reported hnew himb

/-! ### Snapshots (R266) -/

/-- A snapshot of an active lane waits for its next lane sample. -/
theorem State.writeSnap_of_active {s : State} {v : Word} (hgo : LEDG_SNAP_GO.of v = 1)
    (hactive : (s.lane (LEDG_SNAP_LANE.of v)).active = true) :
    s.writeSnap v = ((s.wr LEDG_SNAP_LANE 0 (LEDG_SNAP_LANE.of v)).wr LEDG_SNAP_DONE 0 0).setFab fun f =>
      { f with snap := some (LEDG_SNAP_LANE.of v, s.nextSample (LEDG_SNAP_LANE.of v) 1) } := by
  unfold State.writeSnap
  extract_lets n s1 s2
  rw [if_neg (by rw [hgo]; decide)]
  exact if_pos hactive

theorem execLedgerSnapshotGo_requests {s : State} {v : Word} (hdef : s.sys.deferred = [])
    (hactive : (s.lane (LEDG_SNAP_LANE.of (v ||| 0x80000000#32))).active = true) :
    ∃ t, exec (.ledgerSnapshotGo v) s = .next t ∧ t.rd LEDG_SNAP_DONE 0 = 0
      ∧ t.fab.snap = some (LEDG_SNAP_LANE.of (v ||| 0x80000000#32),
        s.nextSample (LEDG_SNAP_LANE.of (v ||| 0x80000000#32)) 1) := by
  refine ⟨_, rfl, ?_⟩
  rw [State.byHost_of_none hdef, State.writeSnap_of_active (Fld.of_or_set v rfl rfl) hactive]
  exact ⟨State.rd_wr_self _ _ (by decide) (by decide), rfl⟩

/-- The copy shows that it is made, and Held among the counts. -/
theorem State.ledgerCopy_reads (s : State) (n : Nat) :
    (s.ledgerCopy n).rd LEDG_SNAP_DONE 0 = 1
      ∧ (s.ledgerCopy n).rd LEDG_S_HELD 0 = (s.ledger n).held % 2 ^ LEDG_S_HELD.w := by
  unfold State.ledgerCopy
  extract_lets l s1 s2 s3 s4 s5 s6
  refine ⟨State.rd_wr_self _ _ (by decide) (by decide), ?_⟩
  calc (((s6.setFab fun f => { f with snap := none }).wr LEDG_SNAP_DONE 0 1).rd LEDG_S_HELD 0)
      = s6.rd LEDG_S_HELD 0 := State.rd_wr_ne _ _ (by decide)
    _ = s5.rd LEDG_S_HELD 0 := (State.rd_wr_ne _ _ (by decide)).trans
      ((State.rd_wr_ne _ _ (by decide)).trans (State.rd_wr_ne _ _ (by decide)))
    _ = (s4.wr LEDG_S_HELD 0 l.held).rd LEDG_S_HELD 0 := State.rd_wr_ne _ _ (by decide)
    _ = l.held % 2 ^ LEDG_S_HELD.w := State.rd_wr_self _ _ (by decide) (by decide)

theorem State.snapDone_of_some {s : State} {n a : Nat} (hsnap : s.fab.snap = some (n, a)) :
    s.snapDone = (((s.reach a).syncLedger n).ledgerCopy n).ledgerCheck n := by
  rw [State.snapDone, hsnap]

theorem execLedgerSnapshotDone_copies {s u : State} {n : Fin 32} {a : Nat} (hsnap : s.fab.snap = some (n.val, a))
    (hu : u = (s.reach a).syncLedger n) :
    ∃ t, exec .ledgerSnapshotDone s = .next t ∧ t.rd LEDG_SNAP_DONE 0 = 1
      ∧ t.rd LEDG_S_HELD 0 = (u.ledger n).held % 2 ^ LEDG_S_HELD.w ∧ t.now = max s.now a := by
  have hcheck := State.ledgerCheck_off (Nat.and_self _) (.refl (a := u.ledgerCopy n)) n
  have hcopy := State.ledgerCopy_off (Nat.and_self _) (.refl (a := u)) n
  obtain ⟨hdone, hheld⟩ := u.ledgerCopy_reads n
  refine ⟨_, rfl, ?_⟩
  rw [State.snapDone_of_some hsnap, ← hu]
  refine ⟨(hcheck.rd_eq (by decide +kernel)).trans hdone, (hcheck.rd_eq (by decide +kernel)).trans hheld, ?_⟩
  rw [hcheck.now_eq (by decide), hcopy.now_eq (by decide), hu, (State.syncLedger_off_self _ _).now_eq (by decide),
    State.reach_now]

/-! ### Clears (R267) -/

theorem State.writeLedgClr_requests {s : State} {v : Word} (hgo : LEDG_CLR_GO.of v = 1) :
    s.writeLedgClr v = (s.wr LEDG_CLR_LANE 0 (LEDG_CLR_LANE.of v)).setFab fun f =>
      { f with clr := some (LEDG_CLR_LANE.of v, s.nextSample (LEDG_CLR_LANE.of v) 1) } := by
  unfold State.writeLedgClr
  extract_lets n s1
  exact if_neg (by rw [hgo]; decide)

theorem execLedgerClearGo_requests {s : State} {v : Word} (hdef : s.sys.deferred = []) :
    ∃ t, exec (.ledgerClearGo v) s = .next t
      ∧ t.fab.clr = some (LEDG_CLR_LANE.of (v ||| 0x80000000#32),
        s.nextSample (LEDG_CLR_LANE.of (v ||| 0x80000000#32)) 1) := by
  refine ⟨_, rfl, ?_⟩
  rw [State.byHost_of_none hdef, State.writeLedgClr_requests (Fld.of_or_set v rfl rfl)]
  rfl

/-- The counts of a cleared ledger (R267). -/
def Ledger.cleared (l : Ledger) : Ledger :=
  { l with inn := l.held, out := 0, late := 0, dis := 0, wings := 0, reported := false }

/-- A clear reaches the registers of the audit and source 28 beside the fabric's state. -/
theorem State.clearApply_off_cleared {s : State} {n a : Nat} (hclr : s.fab.clr = some (n, a)) :
    Off (F.State.setAudit ||| F.State.unstand)
      ((((s.reach a).syncLedger n).setLedger n Ledger.cleared).setFab fun f => { f with clr := none }) s.clearApply := by
  rw [State.clearApply, hclr]
  exact State.unstand_off (by decide) (State.setAudit_off (by decide) .refl) ..

theorem execLedgerClearApply_clears {s u : State} {n a : Nat} (hclr : s.fab.clr = some (n, a))
    (hu : u = (s.reach a).syncLedger n) :
    ∃ t, exec .ledgerClearApply s = .next t ∧ t.fab.clr = none
      ∧ t.ledger n = { u.ledger n with
        inn := (u.ledger n).held, out := 0, late := 0, dis := 0, wings := 0, reported := false }
      ∧ t.now = max s.now a := by
  have hcleared := State.clearApply_off_cleared hclr
  rw [← hu] at hcleared
  refine ⟨_, rfl, by rw [hcleared.fab_eq (by decide)]; rfl, ?_, ?_⟩
  · exact (hcleared.ledger_eq (by decide) n).trans (State.setLedger_ledger_self ..)
  · rw [hcleared.now_eq (by decide), State.setFab_now]
    exact (congrArg State.now hu).trans (((State.syncLedger_off_self _ _).now_eq (by decide)).trans (s.reach_now a))

/-- Settles O39: each command writes the registers and the state of the fabric that its clause names, and what follows in it
reaches none of them; a gauge window, the guard and a ledger's check touch of that state only their own pieces. -/
theorem fabricCommandsComplete : Obligations.FabricCommandsComplete :=
  ⟨fun _ _ _ _ _ _ => execSlackWindowEnd_gauges, fun _ _ => execGuardHoldoffEnd_ends, fun _ _ _ => execWingsWarning_guards,
   execWingsLoss_discards, fun _ => execMinClr_resets, fun _ _ _ => execLedgerAudit_reports,
   fun _ _ => execLedgerSnapshotGo_requests, fun _ _ _ _ => execLedgerSnapshotDone_copies,
   fun _ _ => execLedgerClearGo_requests, fun _ _ _ _ => execLedgerClearApply_clears⟩

end Sys2Proof.Machine

/-! PROOF. Lane migrations begin, are aborted and end (spec/09_self_timed_fabric.md R268, R269, R271). -/
namespace Sys2Proof.Machine
open Sys2Proof

/-! ### A migration begins (R268) -/

/-- What the register file shows as a migration begins. -/
def migBegun (gap warm : Nat) (target : Bool) : List (Fld × Nat) :=
  [(LEDG_MIG_STAT_ERR, 0), (LEDG_MIG_STAT_PHASE, migWARMING), (LEDG_MIG_STAT_ROLE, target.toNat), (LEDG_MIG_STAT_DUP, 0),
    (LEDG_MIG_STAT_READY, 0), (LEDG_MIG_STAT_BUSY, 1), (LEDG_MIG_GAP, gap), (LEDG_MIG_WARM, warm)]

theorem migBegun_apart (gap warm : Nat) (target : Bool) : (migBegun gap warm target).Pairwise (·.1.apart ·.1 = true) := by
  have hflds : ((migBegun gap warm target).map Prod.fst).Pairwise (fun f g => f.apart g = true) := by
    simp only [migBegun, List.map_cons, List.map_nil]
    decide
  exact List.pairwise_map.1 hflds

theorem State.migBegin_eq (s : State) (m : Mig) (gap warm : Nat) (target : Bool) :
    s.migBegin m gap warm target = (s.setFab fun f => { f with mig := some m }).wrAll 0 (migBegun gap warm target) := rfl

/-- The checks 1 to 6 of Table 9-3 pass for a migration from `src` to `dst`, both of this device, at lane sample `b`. -/
structure State.MigPasses (s : State) (src dst b : Nat) : Prop where
  here : s.rd LEDG_MIG_CFG_REMOTE 0 = 0
  free : s.fab.mig = none
  srcOn : (s.lane src).on = true
  block : b % 64 = 0
  notEarly : s.now + msT 1 ≤ b * (s.lane src).period
  notLate : b * (s.lane src).period ≤ s.now + secT 10
  dstOff : (s.lane dst).on = false
  direction : downlink dst = downlink src
  rate : (s.laneCfg dst).rate = (s.lane src).rate
  lane : s.laneErr dst (s.laneCfg dst) = none
  latency : s.lat src ≤ s.slotLat dst

/-- A request that passes begins WARMING where the target's paths are accepted, and the guard check of its lane follows. -/
theorem State.migGo_of_passes {s u : State} {src dst b warm : Nat} (rerr rlat : Nat)
    (hsrc : src = s.rd LEDG_MIG_CFG_SRC 0) (hdst : dst = s.rd LEDG_MIG_CFG_DST 0)
    (hb : b = s.rd LEDG_MIG_S_HI 0 * 2 ^ 32 + s.rd LEDG_MIG_S_LO 0)
    (hwarm : warm = warmLen (s.lane src).rate (s.slotLat dst)) (hpasses : s.MigPasses src dst b)
    (hu : s.targetAccept dst (b - warm) b (s.slotPathsOn src) = some u) :
    ∃ gap, s.migGo rerr rlat = (u.migBegin
      { src := src, dst := dst, s := b, remote := false, tail := s.rd LEDG_MIG_CFG_TAIL 0, w := b - warm }
      gap warm false).guardCheck dst := by
  obtain ⟨hhere, hfree, hon, hblock, hearly, hlate, hoff, hdir, hrate, hlane, hlat⟩ := hpasses
  have hremote : s.on LEDG_MIG_CFG_REMOTE 0 = false := by rw [State.on, hhere]; rfl
  refine ⟨psOf (s.slotLat dst) - psOf (s.lat src), ?_⟩
  simp only [State.migGo, ← hsrc, ← hdst, ← hb, ← hwarm, hremote, Bool.false_and, Bool.false_eq_true, if_false,
    State.cond_false]
  rw [if_neg (by simp [hfree]), if_neg (by simp [hon]), if_neg (by simp [hoff, hdir, hrate]), if_neg (by omega),
    if_neg (by simp [hlane]), if_neg (by simp [hlat]), hu]

theorem execMigrationGo_begins {s u : State} {rerr : Fin 9} {rlat src dst b warm : Nat} (hdef : s.sys.deferred = [])
    (hsrc : src = s.rd LEDG_MIG_CFG_SRC 0) (hdst : dst = s.rd LEDG_MIG_CFG_DST 0)
    (hb : b = s.rd LEDG_MIG_S_HI 0 * 2 ^ 32 + s.rd LEDG_MIG_S_LO 0)
    (hwarm : warm = warmLen (s.lane src).rate (s.slotLat dst)) (hpasses : s.MigPasses src dst b)
    (hu : s.targetAccept dst (b - warm) b (s.slotPathsOn src) = some u) :
    ∃ t, exec (.migrationGo rerr rlat) s = .next t
      ∧ t.fab.mig
        = some { src := src, dst := dst, s := b, remote := false, tail := s.rd LEDG_MIG_CFG_TAIL 0, w := b - warm }
      ∧ t.rd LEDG_MIG_STAT_PHASE 0 = migWARMING ∧ t.rd LEDG_MIG_STAT_BUSY 0 = 1 ∧ t.rd LEDG_MIG_STAT_ERR 0 = 0 := by
  obtain ⟨gap, hgo⟩ := State.migGo_of_passes rerr rlat hsrc hdst hb hwarm hpasses hu
  have hguard := State.guardCheck_off (Nat.and_self _) (.refl (a := u.migBegin
    { src := src, dst := dst, s := b, remote := false, tail := s.rd LEDG_MIG_CFG_TAIL 0, w := b - warm } gap warm false)) dst
  have hapart := migBegun_apart gap warm false
  refine ⟨_, rfl, ?_⟩
  rw [State.byHost_of_none hdef, hgo]
  refine ⟨by rw [hguard.fab_eq (by decide)]; rfl, ?_, ?_, ?_⟩
  · exact hguard.rd_of_wrAll hapart (v := migWARMING) (by simp [migBegun]) (by decide +kernel) (by decide) (by decide)
  · exact hguard.rd_of_wrAll hapart (v := 1) (by simp [migBegun]) (by decide +kernel) (by decide) (by decide)
  · exact hguard.rd_of_wrAll hapart (v := 0) (by simp [migBegun]) (by decide +kernel) (by decide) (by decide)

/-! ### A migration ends (R269, R271) -/

/-- What the end of a migration reaches beside its phase and BUSY: the interrupt and a count. -/
def F.migEndTail : Nat := F.State.int ||| 3 <<< 132

theorem State.migEnd_off_ended (s : State) (phase : Nat) :
    Off F.migEndTail (((s.setFab fun f => { f with mig := none }).wr LEDG_MIG_STAT_PHASE 0 phase).wr LEDG_MIG_STAT_BUSY 0 0)
      (s.migEnd phase) := by
  unfold State.migEnd
  extract_lets s1 s2
  have hint : Off F.migEndTail (s1.wr LEDG_MIG_STAT_BUSY 0 0) s2 := State.int_off (by decide) .refl ..
  exact .ite (State.satInc_off hint (has_LEDG_MIG_CNT_DONE (by decide)) ..)
    (State.satInc_off hint (has_LEDG_MIG_CNT_ABORTED (by decide)) ..)

theorem State.migEnd_ends (s : State) (phase : Nat) :
    (s.migEnd phase).fab.mig = none ∧ (s.migEnd phase).rd LEDG_MIG_STAT_PHASE 0 = phase % 2 ^ LEDG_MIG_STAT_PHASE.w
      ∧ (s.migEnd phase).rd LEDG_MIG_STAT_BUSY 0 = 0 ∧ (s.migEnd phase).now = s.now := by
  have hended := s.migEnd_off_ended phase
  refine ⟨by rw [hended.fab_eq (by decide)]; rfl, ?_, ?_, hended.now_eq (by decide)⟩
  · rw [hended.rd_eq (by decide +kernel)]
    exact (State.rd_wr_ne _ _ (by decide)).trans (State.rd_wr_self _ _ (by decide) (by decide))
  · rw [hended.rd_eq (by decide +kernel)]
    exact State.rd_wr_self _ _ (by decide) (by decide)

/-- An abort releases what the migration holds and then ends it. -/
theorem State.migAbort_eq_migEnd {s : State} {m : Mig} (hmig : s.fab.mig = some m) :
    ∃ u : State, s.migAbort = u.migEnd migABORTED := by
  rw [State.migAbort, hmig]
  exact ⟨_, rfl⟩

theorem execMigrationAbort_aborts {s : State} {m : Mig} (hdef : s.sys.deferred = []) (hmig : s.fab.mig = some m)
    (hphase : s.rd LEDG_MIG_STAT_PHASE 0 = migWARMING) :
    ∃ t, exec .migrationAbort s = .next t ∧ t.fab.mig = none ∧ t.rd LEDG_MIG_STAT_PHASE 0 = migABORTED
      ∧ t.rd LEDG_MIG_STAT_BUSY 0 = 0 := by
  obtain ⟨u, habort⟩ := State.migAbort_eq_migEnd hmig
  obtain ⟨hnone, hend, hbusy, -⟩ := u.migEnd_ends migABORTED
  refine ⟨_, rfl, ?_⟩
  rw [State.byHost_of_none hdef, State.migHostAbort, if_pos hphase, habort]
  exact ⟨hnone, hend, hbusy⟩

/-- The source slot is left without the clock going on, and then the migration ends. -/
theorem State.migFinish_eq_migEnd {s : State} {m : Mig} (hmig : s.fab.mig = some m) :
    ∃ u : State, u.now = s.now ∧ s.migFinish = u.migEnd migDONE := by
  have hm := Nat.and_self F.State.migFinish
  rw [State.migFinish, hmig]
  dsimp -zeta only
  extract_lets s1 s2
  have h1 : Off F.State.migFinish s s1 :=
    State.sptDisarm_off (sb hm (by decide)) (State.slotOff_off (sb hm (by decide)) .refl ..) ..
  have h2 : Off F.State.migFinish s s2 :=
    .ite (.foldl h1 (fun _ h _ => .ite (State.pathDisable_off (sb hm (by decide)) h ..) h) _) .refl
  exact ⟨s2, h2.now_eq (by decide), rfl⟩

theorem State.migDone_of_crossed {s : State} {m : Mig} (hmig : s.fab.mig = some m) (hsource : s.migSource = true)
    (hcrossed : m.crossed = true) :
    s.migDone = ((s.reach (s.migDoneAt m)).syncTo m.src ((s.reach (s.migDoneAt m)).sampleNo m.src + 2)).migFinish := by
  rw [State.migDone, hmig]
  exact if_neg (by rw [hcrossed, hsource]; decide)

/-- A ledger brought up to a sample leaves the migration in progress. -/
@[simp] theorem State.syncTo_mig (s : State) (n k : Nat) : (s.syncTo n k).fab.mig = s.fab.mig := by
  unfold State.syncTo
  split <;> rfl

theorem execMigrationDone_finishes {s : State} {m : Mig} (hmig : s.fab.mig = some m) (hsource : s.migSource = true)
    (hcrossed : m.crossed = true) :
    ∃ t, exec .migrationDone s = .next t ∧ t.fab.mig = none ∧ t.rd LEDG_MIG_STAT_PHASE 0 = migDONE
      ∧ t.rd LEDG_MIG_STAT_BUSY 0 = 0 ∧ t.now = max s.now (s.migDoneAt m) := by
  have hdone := State.migDone_of_crossed hmig hsource hcrossed
  generalize hk : (s.reach (s.migDoneAt m)).sampleNo m.src + 2 = k at hdone
  have hsync := State.syncTo_off (Nat.and_self _) (.refl (a := s.reach (s.migDoneAt m))) m.src k
  obtain ⟨u, hnow, hfinish⟩ := State.migFinish_eq_migEnd (s := (s.reach (s.migDoneAt m)).syncTo m.src k) (m := m)
    (by rw [State.syncTo_mig, State.reach_fab, hmig])
  obtain ⟨hnone, hend, hbusy, hkept⟩ := u.migEnd_ends migDONE
  refine ⟨_, rfl, ?_⟩
  rw [hdone, hfinish]
  exact ⟨hnone, hend, hbusy, by rw [hkept, hnow, hsync.now_eq (by decide), State.reach_now]⟩

end Sys2Proof.Machine

/-! PROOF. A migration warms up, is committed and crosses its boundary (spec/09_self_timed_fabric.md R269, R270). -/
namespace Sys2Proof.Machine
open Sys2Proof

@[simp] theorem State.reach_migSource (s : State) (t : Nat) : (s.reach t).migSource = s.migSource := by
  rw [State.migSource, State.on, State.reach_rd, ← State.on, ← State.migSource]

/-! ### The warm-up (R269) -/

/-- What the start of the warm-up reaches after the copy is noted. -/
def F.migWarmTail : Nat := F.State.laneBegin ||| F.State.sendRel ||| F.State.pathPaste ||| F.State.setPath

/-- At W the clock goes on and the copy is noted; the lane of the target and the paths come after. -/
theorem State.migWarm_off_warmed {s : State} {m : Mig} {n : Nat} (hmig : s.fab.mig = some m) (hcold : m.warmed = false)
    (hphase : s.rd LEDG_MIG_STAT_PHASE 0 = migWARMING) (hn : n = if s.migSource then m.src else m.dst) :
    Off F.migWarmTail ((s.reach (m.w * (s.lane n).period)).setFab fun f =>
      { f with mig := some { m with warmed := true } }) s.migWarm := by
  have hm := Nat.and_self F.migWarmTail
  rw [State.migWarm, hmig]
  dsimp -zeta only
  extract_lets n' s1 s2 s3 js s4
  rw [if_neg (by rw [hcold, hphase]; decide)]
  subst hn
  have h3 : Off F.migWarmTail s2 s3 := State.cond_off .refl (fun _ h => State.laneBegin_off (sb hm (by decide)) h ..) _
  have h4 : Off F.migWarmTail s2 s4 := .foldl h3 (fun _ h _ =>
    .ite (State.sendRel_off (sb hm (by decide)) h ..) (State.pathPaste_off (sb hm (by decide)) h ..)) _
  exact .ite h3 (.foldl h4 (fun _ h _ => State.setPath_off (sb hm (by decide)) h ..) _)

theorem execMigrationWarmStart_warms {s : State} {m : Mig} (hmig : s.fab.mig = some m) (hcold : m.warmed = false)
    (hphase : s.rd LEDG_MIG_STAT_PHASE 0 = migWARMING) :
    ∃ t, exec .migrationWarmStart s = .next t ∧ t.fab.mig = some { m with warmed := true }
      ∧ t.now = max s.now (m.w * (s.lane (if s.migSource then m.src else m.dst)).period) := by
  have hwarmed := State.migWarm_off_warmed hmig hcold hphase rfl
  refine ⟨_, rfl, by rw [hwarmed.fab_eq (by decide)]; rfl, ?_⟩
  rw [hwarmed.now_eq (by decide), State.setFab_now, State.reach_now]

theorem execMigrationReady_reports {s : State} {m : Mig} (hmig : s.fab.mig = some m) (hwarm : m.warmed = true)
    (hphase : s.rd LEDG_MIG_STAT_PHASE 0 = migWARMING) :
    ∃ t, exec .migrationReady s = .next t ∧ t.rd LEDG_MIG_STAT_READY 0 = 1 := by
  refine ⟨_, rfl, ?_⟩
  simp only [State.migReady, hmig, if_pos (And.intro hphase hwarm)]
  exact State.rd_wr_self _ _ (by decide) (by decide)

/-! ### The deadline (R269) -/

/-- At S − 64 a source whose target is ready commits: its results are late from S, and it takes in none past the tail. -/
theorem State.migDeadline_commits {s : State} {m : Mig} (hmig : s.fab.mig = some m) (hsource : s.migSource = true)
    (hphase : s.rd LEDG_MIG_STAT_PHASE 0 = migWARMING) (hready : s.rd LEDG_MIG_STAT_READY 0 ≠ 0) :
    s.migDeadline = ((s.reach ((m.s - 64) * (s.lane m.src).period)).wr LEDG_MIG_STAT_PHASE 0 migCOMMITTED).setLedger m.src
      fun l => { l with lateFrom := some m.s, stop := some (m.s + 64 * m.tail) } := by
  have hon : ∀ t, (s.reach t).on LEDG_MIG_STAT_READY 0 = true := fun t => by
    rw [State.on, State.reach_rd]
    exact bne_iff_ne.2 hready
  simp only [State.migDeadline, hmig, hphase, hsource, hon, State.reach_migSource, ne_eq, not_true, if_false, if_true,
    Bool.not_true, Bool.false_eq_true]

theorem execMigrationDeadline_commits {s : State} {m : Mig} (hmig : s.fab.mig = some m) (hsource : s.migSource = true)
    (hphase : s.rd LEDG_MIG_STAT_PHASE 0 = migWARMING) (hready : s.rd LEDG_MIG_STAT_READY 0 ≠ 0) :
    ∃ t, exec .migrationDeadline s = .next t ∧ t.rd LEDG_MIG_STAT_PHASE 0 = migCOMMITTED
      ∧ (t.ledger m.src).lateFrom = some m.s ∧ (t.ledger m.src).stop = some (m.s + 64 * m.tail)
      ∧ t.now = max s.now ((m.s - 64) * (s.lane m.src).period) := by
  refine ⟨_, rfl, ?_⟩
  rw [State.migDeadline_commits hmig hsource hphase hready, State.setLedger_ledger_self]
  exact ⟨State.rd_wr_self _ _ (by decide) (by decide), rfl, rfl, s.reach_now _⟩

/-! ### The boundary (R270) -/

/-- What the boundary reaches at the source after the crossing is noted. -/
def F.migBoundaryTail : Nat :=
  F.State.bringCap ||| F.State.sendRel ||| F.State.pasteGain ||| F.State.migSpot ||| F.State.markSuspect ||| F.State.setLane
    ||| F.State.setPath ||| F.State.repoint

/-- At S the clock goes on and the crossing is noted; the gain, the spotlight and the references come after. -/
theorem State.migBoundary_off_crossed {s : State} {m : Mig} {n : Nat} (hmig : s.fab.mig = some m)
    (hsource : s.migSource = true) (hahead : m.crossed = false) (hphase : s.rd LEDG_MIG_STAT_PHASE 0 = migCOMMITTED)
    (hn : n = if s.migSource then m.src else m.dst) :
    Off F.migBoundaryTail ((s.reach (m.s * (s.lane n).period)).setFab fun f =>
      { f with mig := some { m with crossed := true } }) s.migBoundary := by
  have hm := Nat.and_self F.migBoundaryTail
  rw [State.migBoundary, hmig]
  dsimp -zeta only
  extract_lets ph n' s1 s2 sT1 sT2 sR1 lR sR2 l sL1 sL2 sL3 sL4
  have hsource' : s2.migSource = true := (s.reach_migSource _).trans hsource
  rw [if_neg (by simp [ph, hahead, hphase]), if_neg (by rw [hsource']; decide)]
  subst hn
  have hR1 : Off F.migBoundaryTail s2 sR1 := State.bringCap_off (sb hm (by decide)) .refl ..
  have hR2 : Off F.migBoundaryTail s2 sR2 := State.cond_off hR1 (fun _ h => State.sendRel_off (sb hm (by decide)) h ..) _
  have hL1 : Off F.migBoundaryTail s2 sL1 :=
    State.pasteGain_off (sb hm (by decide)) (State.bringCap_off (sb hm (by decide)) .refl ..) ..
  have hL2 : Off F.migBoundaryTail s2 sL2 := State.migSpot_off (sb hm (by decide)) hL1 ..
  have hL3 : Off F.migBoundaryTail s2 sL3 := State.cond_off hL2 (fun _ h =>
    State.setLane_off (sb hm (by decide)) (State.markSuspect_off (sb hm (by decide)) h ..) ..) _
  have hL4 : Off F.migBoundaryTail s2 sL4 := .foldl hL3 (fun _ h _ => State.setPath_off (sb hm (by decide)) h ..) _
  exact .ite (State.sendRel_off (sb hm (by decide)) hR2 ..) (State.repoint_off (sb hm (by decide)) hL4 ..)

theorem execMigrationBoundary_crosses {s : State} {m : Mig} (hmig : s.fab.mig = some m) (hsource : s.migSource = true)
    (hahead : m.crossed = false) (hphase : s.rd LEDG_MIG_STAT_PHASE 0 = migCOMMITTED) :
    ∃ t, exec .migrationBoundary s = .next t ∧ t.fab.mig = some { m with crossed := true }
      ∧ t.now = max s.now (m.s * (s.lane m.src).period) := by
  have hcrossed := State.migBoundary_off_crossed hmig hsource hahead hphase (if_pos hsource).symm
  refine ⟨_, rfl, by rw [hcrossed.fab_eq (by decide)]; rfl, ?_⟩
  rw [hcrossed.now_eq (by decide), State.setFab_now, State.reach_now]

/-- Settles O40: a request that passes the checks begins WARMING, and an abort and the last result end the migration in `migEnd`;
between them each event writes the migration's state at its instant, and what it does to lanes, paths and spotlights after that
reaches neither that state nor the clock. -/
theorem migrationCommandsComplete : Obligations.MigrationCommandsComplete :=
  ⟨fun _ _ _ _ _ _ _ _ hdef hsrc hdst hb hwarm hhere hfree hon hblock hearly hlate hoff hdir hrate hlane hlat =>
     execMigrationGo_begins hdef hsrc hdst hb hwarm
       ⟨hhere, hfree, hon, hblock, hearly, hlate, hoff, hdir, hrate, hlane, hlat⟩,
   fun _ _ => execMigrationAbort_aborts, fun _ _ => execMigrationWarmStart_warms, fun _ _ => execMigrationReady_reports,
   fun _ _ => execMigrationDeadline_commits, fun _ _ => execMigrationBoundary_crosses,
   fun _ _ => execMigrationDone_finishes⟩

end Sys2Proof.Machine

/-! PROOF. The frame of the commands of two-wire ports, start-up, images, settings, registers and supplies. -/
namespace Sys2Proof.Machine
open Sys2Proof
set_option Elab.async false

/-- Settles O19: each clause names memories, pieces and fields that cover the mask of its command (Laws/OffCommands.lean). -/
theorem serialAndStartFrame : Obligations.SerialAndStartFrame :=
  ⟨fun a b => onlyChanges_of_maskCovers (execTwtAddress_off · a b) (by decide +kernel),
   fun a b => onlyChanges_of_maskCovers (execTwtWriteByte_off · a b) (by decide +kernel),
   fun a b => onlyChanges_of_maskCovers (execTwtReadByte_off · a b) (by decide +kernel),
   onlyChanges_of_maskCovers execTwtRepeatedStartAtAck_off (by decide +kernel),
   onlyChanges_of_maskCovers execTwtSclStuck_off (by decide +kernel),
   onlyChanges_of_maskCovers execTwtIdleSleep_off (by decide +kernel),
   fun a => onlyChanges_of_maskCovers (execAlertResponse_off · a) (by decide +kernel),
   onlyChanges_of_maskCovers execMailboxInAck_off (by decide +kernel),
   onlyChanges_of_maskCovers execMailboxOutGo_off (by decide +kernel),
   onlyChanges_of_maskCovers execHostAlert_off (by decide +kernel),
   fun a b => onlyChanges_of_maskCovers (execTwcCommandGo_off · a b) (by decide +kernel),
   fun a b c d => onlyChanges_of_maskCovers (execTwcTransactionDone_off · a b c d) (by decide +kernel),
   fun a b => onlyChanges_of_maskCovers (execPollDue_off · a b) (by decide +kernel),
   fun a => onlyChanges_of_maskCovers (execRegulatorRetry_off · a) (by decide +kernel),
   fun a => onlyChanges_of_maskCovers (execTwcAbort_off · a) (by decide +kernel),
   fun a => onlyChanges_of_maskCovers (execTwcClear_off · a) (by decide +kernel),
   fun a b => onlyChanges_of_maskCovers (execBusClearDone_off · a b) (by decide +kernel),
   onlyChanges_of_maskCovers execResetRelease_off (by decide +kernel),
   fun a b c d e f => onlyChanges_of_maskCovers (execStartupPhase0Done_off · a b c d e f) (by decide +kernel),
   fun a b c d => onlyChanges_of_maskCovers (execSmemDiscoveryDone_off · a b c d) (by decide +kernel),
   fun a b => onlyChanges_of_maskCovers (execImageCopyChecked_off · a b) (by decide +kernel),
   onlyChanges_of_maskCovers execLoadLimitExpiry_off (by decide +kernel),
   onlyChanges_of_maskCovers execStartupCalibration_off (by decide +kernel),
   onlyChanges_of_maskCovers execRehearsalEntry_off (by decide +kernel),
   fun a b => onlyChanges_of_maskCovers (execBackgroundCopyCheck_off · a b) (by decide +kernel),
   onlyChanges_of_maskCovers execImageNop_off (by decide +kernel),
   fun a b c d e => onlyChanges_of_maskCovers (execImageWait_off · a b c d e) (by decide +kernel),
   onlyChanges_of_maskCovers execImageWaitTimeout_off (by decide +kernel),
   fun a => onlyChanges_of_maskCovers (execImageDelay_off · a) (by decide +kernel),
   onlyChanges_of_maskCovers execImageDelayEnd_off (by decide +kernel),
   fun a b c d e => onlyChanges_of_maskCovers (execImageSkip_off · a b c d e) (by decide +kernel),
   onlyChanges_of_maskCovers execImageCalibrate_off (by decide +kernel),
   onlyChanges_of_maskCovers execImageEnd_off (by decide +kernel),
   fun a => onlyChanges_of_maskCovers (execOtpProgram_off · a) (by decide +kernel),
   fun a => onlyChanges_of_maskCovers (execOtpProgramDone_off · a) (by decide +kernel),
   fun a => onlyChanges_of_maskCovers (execSmemCommandGo_off · a) (by decide +kernel),
   fun a b => onlyChanges_of_maskCovers (execSmemCommandDone_off · a b) (by decide +kernel),
   fun a => onlyChanges_of_maskCovers (execPageIntClear_off · a) (by decide +kernel),
   fun a => onlyChanges_of_maskCovers (execPageErrClear_off · a) (by decide +kernel),
   fun a b => onlyChanges_of_maskCovers (execStandingSignalFall_off · a b) (by decide +kernel),
   fun a => onlyChanges_of_maskCovers (execSupplyUnderAlarm_off · a) (by decide +kernel),
   fun a => onlyChanges_of_maskCovers (execSupplyOverAlarm_off · a) (by decide +kernel),
   onlyChanges_of_maskCovers execSupplyAlarmClear_off (by decide +kernel),
   fun a b => onlyChanges_of_maskCovers (execGpioEdge_off · a b) (by decide +kernel)⟩

end Sys2Proof.Machine

/-! PROOF. What the recorder leaves of the collector: the sources other than 4 (spec/11_prompt_book.md R312;
spec/18_register_directory.md, Table 18-6). -/
namespace Sys2Proof.Machine
open Sys2Proof
set_option Elab.async false

/-! ### The collector out of an operation's reach -/

theorem Off.fc_eq {m : Nat} {a s : State} (h : Off m a s) (hb : m.testBit (partNo .fc) = false) : s.fc = a.fc :=
  h.part .fc hb

theorem Off.fcSrc_eq {m : Nat} {a s : State} (h : Off m a s) (hb : m.testBit (partNo .fc) = false) (k : Nat) :
    s.fcSrc k = a.fcSrc k := by
  rw [State.fcSrc, h.fc_eq hb, State.fcSrc]

@[simp] theorem State.visible_fcSrc (s : State) (w : Waiting) (seq : Option (BitVec 40)) (k : Nat) :
    (s.visible w seq).fcSrc k = s.fcSrc k :=
  (State.visible_off (Nat.and_self _) .refl w seq).fcSrc_eq (by decide) k

@[simp] theorem State.dropRec_fcSrc (s : State) (w : Waiting) (cnt : Fld) (k : Nat) :
    (s.dropRec w cnt).fcSrc k = s.fcSrc k :=
  State.visible_fcSrc ..

@[simp] theorem State.closeOpen_fcSrc (s : State) (k : Nat) : s.closeOpen.fcSrc k = s.fcSrc k :=
  (State.closeOpen_off (Nat.and_self _) .refl).fcSrc_eq (by decide) k

@[simp] theorem State.enter_fcSrc (s : State) (w : Waiting) (late : Bool) (k : Nat) :
    (s.enter w late).fcSrc k = s.fcSrc k :=
  (State.enter_off (Nat.and_self _) .refl w late).fcSrc_eq (by decide) k

/-- An occurrence of a cause is an event at most; what stands at the sources stays (R278). -/
@[simp] theorem State.raise_fcSrc (s : State) (page b : Nat) (ports : Ports) (k : Nat) :
    (s.raise page b ports).fcSrc k = s.fcSrc k := by
  unfold State.raise State.raiseInt
  extract_lets t
  split
  · rfl
  · split <;> rfl

theorem State.stand_fcSrc_ne (s : State) {n k : Nat} (c : Nat) (hk : k ≠ n) : (s.stand n c).fcSrc k = s.fcSrc k := by
  rw [State.stand, State.setFcSrc_fcSrc, if_neg hk.symm]

/-! ### The recorder makes source 4 stand alone (R312, Table 18-6) -/

theorem State.ite_fcSrc {c : Prop} [Decidable c] {x y : State} {k : Nat} {v : FcSrc} (hx : x.fcSrc k = v)
    (hy : y.fcSrc k = v) : (if c then x else y).fcSrc k = v := by
  split <;> assumption

section
variable {k : Nat} (hk : k ≠ 4)
include hk

theorem State.arrive_fcSrc (s : State) (w : Waiting) : (s.arrive w).fcSrc k = s.fcSrc k := by
  have hclose := s.closeOpen_fcSrc k
  unfold State.arrive
  generalize s.closeOpen = t at hclose
  extract_lets _ u v
  have hwait : ((v.raise pgPB 3 allPorts).stand 4 3).fcSrc k = s.fcSrc k := by
    rw [State.stand_fcSrc_ne _ 3 hk, State.raise_fcSrc]; exact hclose
  have hdrop (cnt : Fld) : (t.dropRec w cnt).fcSrc k = s.fcSrc k := (State.dropRec_fcSrc ..).trans hclose
  exact State.ite_fcSrc (hdrop _) <| State.ite_fcSrc (hdrop _) <|
    State.ite_fcSrc hwait ((State.enter_fcSrc ..).trans hclose)

theorem State.rlEnd_fcSrc (s : State) : s.rlEnd.fcSrc k = s.fcSrc k := by
  unfold State.rlEnd
  extract_lets sup t
  have ht : t.fcSrc k = s.fcSrc k := State.setPb_fcSrc ..
  refine State.ite_fcSrc ((foldl_keeps (fun s : State => s.fcSrc k) (fun u x _ => ?_) t).trans ht) ht
  obtain ⟨c, n⟩ := x
  exact State.arrive_fcSrc hk ..

theorem State.record_fcSrc (s : State) (w : Waiting) : (s.record w).fcSrc k = s.fcSrc k := by
  unfold State.record
  refine State.ite_fcSrc ?_ ?_
  · extract_lets t c n u
    have ht : t.fcSrc k = s.fcSrc k := State.ite_fcSrc (s.rlEnd_fcSrc hk) rfl
    exact State.ite_fcSrc ((State.dropRec_fcSrc ..).trans ht) ((State.arrive_fcSrc hk ..).trans ht)
  · split
    · exact State.arrive_fcSrc hk s w
    · extract_lets o' t u
      have hu : u.fcSrc k = s.fcSrc k := State.visible_fcSrc ..
      exact State.ite_fcSrc (State.ite_fcSrc (u.closeOpen_fcSrc k |>.trans hu) hu) (State.arrive_fcSrc hk s w)

theorem State.hold_fcSrc (s : State) (w : Waiting) : (s.hold w).fcSrc k = s.fcSrc k := by
  unfold State.hold
  extract_lets n t
  refine State.ite_fcSrc (State.dropRec_fcSrc ..) (State.ite_fcSrc ?_ (State.visible_fcSrc ..))
  rw [State.stand_fcSrc_ne _ 3 hk, State.raise_fcSrc]
  rfl

theorem State.handOne_fcSrc (s : State) (w : Waiting) : (s.handOne w).fcSrc k = s.fcSrc k :=
  State.ite_fcSrc (State.visible_fcSrc ..) (State.ite_fcSrc (s.hold_fcSrc hk w) (s.record_fcSrc hk w))

theorem State.auditBook_fcSrc (s : State) : s.auditBook.fcSrc k = s.fcSrc k := by
  unfold State.auditBook
  extract_lets t
  split
  · rfl
  · rw [State.handOne_fcSrc hk, State.stand_fcSrc_ne _ 1 hk, State.raise_fcSrc]
    rfl

theorem State.journal_fcSrc (s : State) (page code sev payload : Nat) :
    (s.journal page code sev payload).fcSrc k = s.fcSrc k :=
  have hone := s.handOne_fcSrc hk _
  State.ite_fcSrc ((State.auditBook_fcSrc hk _).trans hone) hone

end

end Sys2Proof.Machine

/-! PROOF. A write of FC_SEV_n acts on later latches alone (spec/10_fault_collector.md R284, R304). -/
namespace Sys2Proof.Machine
open Sys2Proof
set_option Elab.async false

/-! ### Status bits, and the state of a port's Curtain, out of an operation's reach -/

theorem Off.status_eq {m : Nat} {a s : State} (h : Off m a s) (hlo : maskMisses m (FC_STATUS_LO.key 0) = true)
    (hhi : maskMisses m (FC_STATUS_HI.key 0) = true) (n : Nat) : s.status n = a.status n := by
  simp only [State.status, h.tst_eq hlo, h.tst_eq hhi]

theorem Off.cv_eq {m : Nat} {a s : State} (h : Off m a s) (hb : m.testBit (partNo .conv) = false) (n : Nat) :
    s.cv n = a.cv n := by
  have hconv : s.conv = a.conv := h.part .conv hb
  rw [State.cv, hconv, State.cv]

/-- The registers of each port that its holds are read from (R204, R205). -/
def downFlds : List Fld := [RFC_PORT_STAT_STATE, RFC_PORT_CFG_TARGET, RFC_PORT_CFG_PROBE_EN]

theorem Off.down_eq {m : Nat} {a s : State} (h : Off m a s) (hrfc : m.testBit (partNo .rfc) = false)
    (hconv : m.testBit (partNo .conv) = false) (hdark : s.sys.dark = a.sys.dark)
    (hdown : maskMisses m (CUR_STAT_DOWN.key 0) = true) (hdev : maskMisses m (SYS_STATE_DEV_STATE.key 0) = true)
    (hport : downFlds.all (maskAvoids m) = true) {k : Nat} (hk : k < 8) : s.down k = a.down k := by
  have hrd : ∀ f ∈ downFlds, f.n = 8 → s.rd f k = a.rd f k := fun f hf hn =>
    h.rd_eq_of_avoids (List.all_eq_true.1 hport f hf) (hn ▸ hk)
  simp only [State.down, State.held, State.probing, State.portState, State.on, State.offStage, State.devState,
    State.calibrating, State.synHold, State.coexHold, h.tst_eq hdown, h.rd_eq hdev, hdark, h.cv_eq hconv, h.rport_eq hrfc,
    hrd RFC_PORT_STAT_STATE (.head _) rfl, hrd RFC_PORT_CFG_TARGET (.tail _ (.head _)) rfl,
    hrd RFC_PORT_CFG_PROBE_EN (.tail _ (.tail _ (.head _))) rfl]

/-! ### FC_SEV_n -/

theorem State.writeSev_fcSrc (s : State) (n : Nat) (v : Word) {k : Nat} (hk : k ≠ 4) :
    (s.writeSev n v).fcSrc k = s.fcSrc k := by
  unfold State.writeSev
  extract_lets fx sev q sc t
  refine State.ite_fcSrc rfl (State.ite_fcSrc rfl ?_)
  exact State.ite_fcSrc rfl ((State.journal_fcSrc hk ..).trans rfl)

theorem State.writeSev_sys (s : State) (n : Nat) (v : Word) : (s.writeSev n v).sys = s.sys :=
  (State.writeSev_off (Nat.and_self _) .refl n v).part .sys (by decide)

/-- A write that waits behind a command adds to the queue of accesses alone (R11). -/
theorem State.byHost_keeps {β : Type} (g : State → β) {s : State} {a : Nat} {v : Word} {act : State → State}
    (hact : g (act s) = g s) (hdefer : g (s.defer (.write a v)) = g s) : g (s.byHost a v act) = g s := by
  unfold State.byHost
  split <;> assumption

/-- Settles O10: what a write of FC_SEV_n reaches holds no status bit, no part of the Curtain and nothing that the state of a
port is read from; of the sources the record of the write reaches source 4 alone. -/
theorem severityLeavesLatched : Obligations.SeverityLeavesLatched := by
  intro s t n v ht
  have h := (execSeverityWrite_off s n v).of t ht
  cases ht
  have hcause : ∀ b < 11, ∀ k < 8, maskMisses F.execSeverityWrite ((causeFld b).key k) = true := by decide +kernel
  refine ⟨fun k _ => h.status_eq (by decide +kernel) (by decide +kernel) k, fun k hk => ?_, h.part .cur (by decide),
    fun m hm b hb => h.cause_eq (hcause b (by omega) m hm), fun m hm => ?_⟩
  · exact State.byHost_keeps (fun s => s.fcSrc k) (s.writeSev_fcSrc n v hk) rfl
  · refine h.down_eq (by decide) (by decide) ?_ (by decide +kernel) (by decide +kernel) (by decide +kernel) hm
    exact State.byHost_keeps (fun s => s.sys.dark) (congrArg SysSt.dark (s.writeSev_sys n v)) rfl

end Sys2Proof.Machine

/-! PROOF. Events reach the collector, and an epoch latches them (spec/10_fault_collector.md R278, R279, R285, R297). -/
namespace Sys2Proof.Machine
open Sys2Proof
set_option Elab.async false

/-! ### Events (R278, R279) -/

/-- Setting a cause's PG_ERR bit leaves the mask of the page as it is. -/
theorem State.orBits_err_tst_mask (s : State) (page m b : Nat) :
    (s.orBits PG_ERR page m).tst PG_ERR_MASK page b = s.tst PG_ERR_MASK page b := by
  have hne : PG_ERR.key page ≠ PG_ERR_MASK.key page := Fld.key_ne (f := PG_ERR) (g := PG_ERR_MASK) rfl (by decide) page
  rw [State.tst, State.orBits, State.rd_wr_ne _ _ hne, State.tst]

section
variable {s : State} {page b n : Nat} (hsrc : causeSrc page b = some n)
  (hopen : (maskable page b && s.tst PG_ERR_MASK page b) = false)
include hsrc hopen

/-- A cause that is not masked delivers an event of its source. -/
theorem State.raise_delivers (ports : Ports) :
    (s.raise page b ports).fc.events = s.fc.events ++ [⟨n, false, causeDrop page b, ports, b, page, []⟩] := by
  simp only [State.raise, State.raiseInt, hsrc, State.orBits_err_tst_mask, hopen, Bool.false_eq_true, if_false]
  rfl

/-- A forced cause that is not masked delivers a forced event of its source. -/
theorem State.forceBit_delivers (hb : b ≠ 0) :
    (s.forceBit page b).fc.events = s.fc.events ++ [⟨n, true, causeDrop page b, 0, b, page, []⟩] := by
  simp only [State.forceBit, if_neg hb, hsrc, State.orBits_err_tst_mask, hopen, Bool.false_eq_true, if_false]
  rfl

end

theorem execFaultEvent_delivers {s : State} {page : Page} {b : Fin 32} {ports : BitVec 8} {n : Nat}
    (hsrc : causeSrc (pageOff page) b = some n)
    (hopen : (maskable (pageOff page) b && s.tst PG_ERR_MASK (pageOff page) b) = false) :
    ∃ t, exec (.faultEvent page b ports) s = .next t
      ∧ t.fc.events = s.fc.events ++ [⟨n, false, causeDrop (pageOff page) b, ports, b, pageOff page, []⟩] := by
  refine ⟨_, rfl, ?_⟩
  rw [State.faultEvent, if_pos (by rw [hsrc]; rfl)]
  exact State.raise_delivers hsrc hopen ports

theorem execForceCause_delivers {s : State} {page : Page} {v : Word} {b n : Nat} (hdef : s.sys.deferred = [])
    (hpage : pageOff page ≠ pgCUR) (hone : ((List.range 32).filter fun b => v.getLsbD b) = [b]) (hb : b ≠ 0)
    (hsrc : causeSrc (pageOff page) b = some n)
    (hopen : (maskable (pageOff page) b && s.tst PG_ERR_MASK (pageOff page) b) = false) :
    ∃ t, exec (.forceCause page v) s = .next t
      ∧ t.fc.events = s.fc.events ++ [⟨n, true, causeDrop (pageOff page) b, 0, b, pageOff page, []⟩] := by
  refine ⟨_, rfl, ?_⟩
  rw [State.byHost_of_none hdef, State.forceCause, if_neg hpage, hone]
  exact State.forceBit_delivers hsrc hopen hb

theorem execForceSource_delivers {s : State} {hi : Bool} {v : Word} {b : Nat} (hdef : s.sys.deferred = [])
    (hone : ((List.range 32).filter fun b => v.getLsbD b) = [b]) (hn : (if hi then 32 + b else b) < 56) :
    ∃ t, exec (.forceSource hi v) s = .next t
      ∧ t.fc.events = s.fc.events
        ++ [⟨if hi then 32 + b else b, true, 0, 0, 0, srcPage (if hi then 32 + b else b), []⟩] := by
  refine ⟨_, rfl, ?_⟩
  rw [State.byHost_of_none hdef, State.forceSource, hone, List.foldl_cons, List.foldl_nil, if_pos hn]
  rfl

/-! ### Status bits -/

theorem State.setStatus_status {s : State} {n : Nat} (v : Bool) (hn : n < 56) : (s.setStatus n v).status n = v := by
  unfold State.setStatus State.status
  split
  · exact State.tst_putBit_self v (by decide) (by decide) ‹_›
  · exact State.tst_putBit_self v (by decide) (by decide) (by simp only [FC_STATUS_HI]; omega)

theorem State.setStatus_off_self (s : State) (n : Nat) (v : Bool) : Off F.State.setStatus s (s.setStatus n v) :=
  State.setStatus_off (Nat.and_self _) .refl n v

/-! ### The end of an epoch (R285) -/

/-- What a latch reaches once its status bit is set. -/
def F.latchTail : Nat := F.State.latch ^^^ F.State.setStatus

theorem State.latch_off_status (s : State) (l : Latch) : Off F.latchTail (s.setStatus l.src true) (s.latch l) := by
  have hm := Nat.and_self F.latchTail
  unfold State.latch
  extract_lets was cause fills merges s1 s2 s3 s4 s5 tick s6 s7 ints r s8 s9 s10
  have h3 : Off F.latchTail s1 s3 :=
    State.setFcSrc_off (sb hm (by decide)) (State.wr_off .refl (has_FC_SEV_LAST (by decide)) ..) ..
  have h4 : Off F.latchTail s1 s4 := State.cond_off h3 (fun _ h => State.pulseLatch_off (sb hm (by decide)) h) _
  have h5 : Off F.latchTail s1 s5 := State.latchCurtain_off (sb hm (by decide)) h4 l
  have h6 : Off F.latchTail s1 s6 := State.cond_off h5 (fun _ h =>
    have h := State.wr_off h (has_FC_FF_SRC_VALID (by decide)) 0 1
    have h := State.wr_off h (has_FC_FF_SRC_FORCED (by decide)) 0 l.forced.toNat
    have h := State.wr_off h (has_FC_FF_SRC_MAX_MERGED (by decide)) 0 0
    have h := State.wr_off h (has_FC_FF_SRC_SEV (by decide)) 0 l.sev
    have h := State.wr_off h (has_FC_FF_SRC_SOURCE (by decide)) 0 l.src
    have h := State.wr_off h (has_FC_FF_CAUSE (by decide)) 0 cause
    have h := State.wr_off (State.wr_off h (has_FC_FF_TICK_LO (by decide)) ..) (has_FC_FF_TICK_HI (by decide)) ..
    have h := State.wr_off (State.wr_off h (has_FC_FF_SEQ_LO (by decide)) ..) (has_FC_FF_SEQ_HI (by decide)) ..
    State.wr_off (State.wr_off h (has_FC_FF_MERGE_CO_EPOCH (by decide)) ..) (has_FC_FF_MERGE_MERGE (by decide)) ..) _
  have h7 : Off F.latchTail s1 s7 := State.cond_off h6 (fun _ h =>
    State.wr_off (State.cond_off (State.satInc_off h (has_FC_FF_MERGE_MERGE (by decide)) ..)
      (fun _ h => State.satInc_off h (has_FC_FF_MERGE_CO_EPOCH (by decide)) ..) _) (has_FC_FF_SRC_MAX_MERGED (by decide)) ..) _
  have h8 : Off F.latchTail s1 s8 := State.handRec_off (sb hm (by decide)) h7 _
  have h9 : Off F.latchTail s1 s9 :=
    State.auditBook_off (sb hm (by decide)) (State.setPb_off (sb hm (by decide)) h8 _)
  have h10 : Off F.latchTail s1 s10 := State.cond_off h9 (fun _ h => State.snapTrig_off (sb hm (by decide)) h 1) _
  exact State.alert_off (sb hm (by decide)) h10 1

theorem State.latch_status {s : State} {l : Latch} (hsrc : l.src < 56) : (s.latch l).status l.src = true := by
  rw [(s.latch_off_status l).status_eq (by decide +kernel) (by decide +kernel), State.setStatus_status true hsrc]

theorem State.latch_now (s : State) (l : Latch) : (s.latch l).now = s.now :=
  (State.latch_off (Nat.and_self _) .refl l).now_eq (by decide)

@[simp] theorem State.reach_fc (s : State) (t : Nat) : (s.reach t).fc = s.fc :=
  (State.reach_off (Nat.and_self _) .refl t).fc_eq (by decide)

/-- The one event of an epoch forms its one latch. -/
theorem State.latches_of_one {s : State} {e : FcEvent} (h : s.fc.events = [e]) : s.latches = [s.latchOf e.src [e]] := by
  simp [State.latches, h, List.eraseDups_cons]

theorem execFaultEpochLatch_latches {s : State} {e : FcEvent} (hone : s.fc.events = [e]) (hsrc : e.src < 56) :
    ∃ t, exec .faultEpochLatch s = .next t ∧ t.status e.src = true ∧ t.now = max s.now (s.nextMul 16) := by
  have hlatches := State.latches_of_one (s := s.reach (s.nextMul 16)) (by rw [State.reach_fc, hone])
  refine ⟨_, rfl, ?_⟩
  simp only [State.epochLatch, hone, List.isEmpty_cons, Bool.false_eq_true, if_false, hlatches, List.foldl_cons,
    List.foldl_nil]
  exact ⟨State.latch_status (l := State.latchOf _ e.src [e]) hsrc, (State.latch_now ..).trans (s.reach_now _)⟩

/-! ### Pulses of FAULT_N (R297) -/

theorem execFaultNPulseEnd_ends {s : State} {a : Nat} (hpulse : s.fc.pulseEnd = some a) :
    ∃ t, exec .faultNPulseEnd s = .next t ∧ t.fc.pulseEnd = none ∧ t.fc.restEnd = some (a + usT 10)
      ∧ t.now = max s.now a := by
  refine ⟨_, rfl, ?_⟩
  simp only [State.pulseEnd, hpulse]
  exact ⟨rfl, rfl, s.reach_now a⟩

theorem execDeferredFaultNPulse_starts {s : State} {a : Nat} (hrest : s.fc.restEnd = some a)
    (hlatch : s.fc.restLatch = true) :
    ∃ t, exec .deferredFaultNPulse s = .next t
      ∧ t.fc.pulseEnd = some (max s.now a + usT (10 * s.rd FC_CFG_PULSE_W 0)) ∧ t.fc.restEnd = none := by
  refine ⟨_, rfl, ?_⟩
  simp only [State.deferredPulse, hrest, hlatch, if_true, State.startPulse, State.setFc_fc, State.reach_now,
    State.reach_rd, and_self]

end Sys2Proof.Machine

/-! PROOF. Sources recover, the first fault is acknowledged and severities are written (spec/10_fault_collector.md R284, R290,
R292, R295, R304). -/
namespace Sys2Proof.Machine
open Sys2Proof
set_option Elab.async false

/-! ### Recovery (R292, R295) -/

/-- What a recovery reaches once the status bit is cleared and the recovery is counted. -/
def F.recoverTail : Nat := F.State.recover ^^^ F.State.setStatus ^^^ 2 ^ 219

theorem State.recover_off_counted (s : State) (n code : Nat) :
    Off F.recoverTail ((s.setStatus n false).satInc FC_REC_CNT 0) (s.recover n code) := by
  have hm := Nat.and_self F.recoverTail
  unfold State.recover
  extract_lets x forced sat s1 s2 ms r s3 s4 s5 s6
  have h2 : Off F.recoverTail s1 s2 := State.satInc_off .refl (has_FC_SEV_REC_CNT (by decide)) _
  have h3 : Off F.recoverTail s1 s3 := State.handRec_off (sb hm (by decide)) h2 _
  have h4 : Off F.recoverTail s1 s4 := State.setFcSrc_off (sb hm (by decide)) h3 ..
  have h5 : Off F.recoverTail s1 s5 := State.refreshOther_off (sb hm (by decide)) h4
  have h6 : Off F.recoverTail s1 s6 := State.cond_off h5 (fun _ h => State.clearCauses_off (sb hm (by decide)) h ..) _
  exact State.ffIdle_off (sb hm (by decide)) h6

/-- A source that recovers has its status bit cleared, and is counted. -/
theorem State.recover_clears (s : State) {n : Nat} (code : Nat) (hn : n < 56) :
    (s.recover n code).status n = false
      ∧ (s.recover n code).rd FC_REC_CNT 0 = min (s.rd FC_REC_CNT 0 + 1) (2 ^ FC_REC_CNT.w - 1) := by
  have htail := s.recover_off_counted n code
  have hcount : Off (2 ^ 219) (s.setStatus n false) ((s.setStatus n false).satInc FC_REC_CNT 0) :=
    State.satInc_off .refl (has_FC_REC_CNT (by decide)) 0
  constructor
  · rw [htail.status_eq (by decide +kernel) (by decide +kernel), hcount.status_eq (by decide +kernel) (by decide +kernel),
      State.setStatus_status false hn]
  · rw [htail.rd_eq (by decide +kernel), State.rd_satInc_self (by decide) (by decide),
      (s.setStatus_off_self n false).rd_eq (by decide +kernel)]

theorem State.recover_now (s : State) (n code : Nat) : (s.recover n code).now = s.now :=
  (State.recover_off (Nat.and_self _) .refl n code).now_eq (by decide)

/-- A source other than 13 to 16 recovers as its quiet period ends, where its Curtain is complete and nothing stands. -/
theorem State.sourceRecovery_recovers {s : State} {n q : Nat} (hlen : s.quietLen n = some q) (hset : s.status n = true)
    (hn : n < 13 ∨ 16 < n) (hawait : (s.fcSrc n).await = 0) (hstand : (s.fcSrc n).stand = 0) :
    s.sourceRecovery n = (s.reach ((s.fcSrc n).quiet + q)).recover n 0x0101 := by
  have hports : ¬ (13 ≤ n ∧ n ≤ 16) := by omega
  simp [State.sourceRecovery, hlen, hset, hawait, hstand, hports]

theorem execSourceRecovery_recovers {s : State} {n : Fin 56} {q : Nat} (hlen : s.quietLen n = some q)
    (hset : s.status n = true) (hn : n.val < 13 ∨ 16 < n.val) (hawait : (s.fcSrc n).await = 0)
    (hstand : (s.fcSrc n).stand = 0) :
    ∃ t, exec (.sourceRecovery n) s = .next t ∧ t.status n = false ∧ t.now = max s.now ((s.fcSrc n).quiet + q)
      ∧ t.rd FC_REC_CNT 0 = min (s.rd FC_REC_CNT 0 + 1) (2 ^ FC_REC_CNT.w - 1) := by
  obtain ⟨hclear, hcount⟩ := (s.reach ((s.fcSrc n).quiet + q)).recover_clears 0x0101 n.isLt
  refine ⟨_, rfl, ?_⟩
  rw [State.sourceRecovery_recovers hlen hset hn hawait hstand, State.recover_now, State.reach_now]
  exact ⟨hclear, rfl, hcount.trans (by rw [State.reach_rd])⟩

/-- The causes of a source's own that clear after it reach neither its status bit nor the count. -/
theorem State.hostClearBit_clears {s : State} {n : Nat} (hn : n < 56) (hset : s.status n = true)
    (hstand : s.standing n = false) :
    (s.hostClearBit n).status n = false
      ∧ (s.hostClearBit n).rd FC_REC_CNT 0 = min (s.rd FC_REC_CNT 0 + 1) (2 ^ FC_REC_CNT.w - 1) := by
  have hown : Off F.State.clearOwn (s.recover n 0x0102) (s.hostClearBit n) := by
    simp only [State.hostClearBit, hset, hstand, Bool.not_true, Bool.false_eq_true, if_false]
    exact State.cond_off .refl (fun _ h => State.clearOwn_off (Nat.and_self _) h n) _
  rw [hown.status_eq (by decide +kernel) (by decide +kernel), hown.rd_eq (by decide +kernel)]
  exact s.recover_clears 0x0102 hn

theorem execHostClear_clears {s : State} {hi : Bool} {v : Word} {b : Nat} (hdef : s.sys.deferred = [])
    (hone : ((List.range 32).filter fun b => v.getLsbD b) = [b]) (hn : (if hi then 32 + b else b) < 56)
    (hset : s.status (if hi then 32 + b else b) = true) (hstand : s.standing (if hi then 32 + b else b) = false) :
    ∃ t, exec (.hostClear hi v) s = .next t ∧ t.status (if hi then 32 + b else b) = false
      ∧ t.rd FC_REC_CNT 0 = min (s.rd FC_REC_CNT 0 + 1) (2 ^ FC_REC_CNT.w - 1) := by
  refine ⟨_, rfl, ?_⟩
  rw [State.byHost_of_none hdef, State.hostClear, hone, List.foldl_cons, List.foldl_nil, if_pos hn]
  exact State.hostClearBit_clears hn hset hstand

/-! ### The first fault (R290) -/

theorem execFirstFaultAck_ends {s : State} (hdef : s.sys.deferred = []) (hvalid : s.rd FC_FF_SRC_VALID 0 ≠ 0) :
    ∃ t, exec .firstFaultAck s = .next t ∧ t.rd FC_FF_SRC_VALID 0 = 0 := by
  have hon : s.on FC_FF_SRC_VALID 0 = true := bne_iff_ne.2 hvalid
  refine ⟨_, rfl, ?_⟩
  rw [State.byHost_of_none hdef, State.ackFirst, hon, Bool.not_true, if_neg Bool.false_ne_true,
    (State.journal_off (Nat.and_self _) .refl ..).rd_eq (by decide +kernel)]
  exact State.rd_wr_self _ _ (by decide) (by decide)

/-! ### FC_SEV_n (R284, R304) -/

/-- The writable fields of FC_SEV_n. -/
def sevFlds : List Fld := [FC_SEV_SEV, FC_SEV_QSEL, FC_SEV_SCOPE]

/-- A valid write stores the word's fields, and is recorded at most. -/
theorem State.writeSev_off_written {s : State} {n : Nat} {v : Word} (hn : n < 56) (hfixed : fixedSev n = false)
    (hlow : 1 ≤ FC_SEV_SEV.of v) (hhigh : FC_SEV_SEV.of v ≤ 4) (hqsel : FC_SEV_QSEL.of v ≠ 7) :
    Off F.State.journal (s.wrWord sevFlds n v) (s.writeSev n v) := by
  have hvalid : ¬ (FC_SEV_SEV.of v < 1 ∨ 4 < FC_SEV_SEV.of v ∨ FC_SEV_QSEL.of v = 7) := by omega
  simp only [State.writeSev, if_neg (Nat.not_le.2 hn), hfixed, Bool.false_eq_true, if_false, and_false, or_false,
    if_neg hvalid]
  exact .ite .refl (State.journal_off (Nat.and_self _) .refl ..)

theorem State.writeSev_rd {s : State} {n : Nat} {v : Word} (hn : n < 56) (hfixed : fixedSev n = false)
    (hlow : 1 ≤ FC_SEV_SEV.of v) (hhigh : FC_SEV_SEV.of v ≤ 4) (hqsel : FC_SEV_QSEL.of v ≠ 7) {f : Fld}
    (hf : f ∈ sevFlds) : (s.writeSev n v).rd f n = f.of v := by
  have havoid : ∀ f ∈ sevFlds, maskAvoids F.State.journal f = true ∧ f.per = f.n ∧ f.runs = 1 ∧ f.w ≤ 32 ∧ f.n = 56 := by
    simp only [sevFlds, List.forall_mem_cons]
    decide +kernel
  obtain ⟨hjournal, hper, hruns, hw, hcount⟩ := havoid f hf
  have hdistinct : sevFlds.Pairwise (·.apart ·) := by decide
  rw [(State.writeSev_off_written hn hfixed hlow hhigh hqsel).rd_eq_of_avoids hjournal (by omega)]
  exact State.rd_wrWord_self s hf (hdistinct.imp fun h => Fld.key_ne_of_apart h n)
    (Fld.has_of_lt hper hruns (by omega)) hw

theorem execSeverityWrite_writes {s : State} {n : Fin 64} {v : Word} (hdef : s.sys.deferred = []) (hn : n.val < 56)
    (hfixed : fixedSev n = false) (hlow : 1 ≤ FC_SEV_SEV.of v) (hhigh : FC_SEV_SEV.of v ≤ 4)
    (hqsel : FC_SEV_QSEL.of v ≠ 7) :
    ∃ t, exec (.severityWrite n v) s = .next t ∧ t.rd FC_SEV_SEV n = FC_SEV_SEV.of v
      ∧ t.rd FC_SEV_QSEL n = FC_SEV_QSEL.of v ∧ t.rd FC_SEV_SCOPE n = FC_SEV_SCOPE.of v := by
  have hrd := fun {f : Fld} => State.writeSev_rd (s := s) (f := f) hn hfixed hlow hhigh hqsel
  refine ⟨_, rfl, ?_⟩
  rw [State.byHost_of_none hdef]
  exact ⟨hrd (.head _), hrd (.tail _ (.head _)), hrd (.tail _ (.tail _ (.head _)))⟩

/-- Settles O41: reports and forced causes deliver their event, an epoch's one event latches, a recovery clears its status bit and
is counted, and the records that follow reach none of the fields of a clause. -/
theorem collectorCommandsComplete : Obligations.CollectorCommandsComplete :=
  ⟨fun _ _ _ _ _ => execFaultEvent_delivers, fun _ _ => execFaultEpochLatch_latches,
   fun _ _ _ _ _ => execForceCause_delivers, fun _ _ _ _ => execForceSource_delivers,
   fun _ _ _ => execSourceRecovery_recovers, fun _ _ _ _ => execHostClear_clears,
   fun _ => execFirstFaultAck_ends, fun _ _ _ => execSeverityWrite_writes, fun _ _ => execFaultNPulseEnd_ends,
   fun _ _ => execDeferredFaultNPulse_starts⟩

end Sys2Proof.Machine

/-! PROOF. No command stops the device, and every command leaves the queue of commands (spec/00_scope.md R4;
spec/01_architecture.md). -/
namespace Sys2Proof.Machine
open Sys2Proof

/-- Settles O1: a step on a queue that is not empty is the meaning of its first command on the rest. -/
theorem stepRunsFrontCommand : Obligations.StepRunsFrontCommand := fun c s rest h => by
  simp only [step, h]

/-- Whatever the command, the queue, the canonical form of the memory and a legal time of day outlive it. -/
theorem exec_kept {q : List Instr} {s : State} (h : Kept q s) : ∀ c : Instr, OutKept q (exec c s)
  | .sysCmdStart => OutSame.kept h (execSysCmdStart_same ·)
  | .sysCmdPause => OutSame.kept h (execSysCmdPause_same ·)
  | .sysCmdResume => OutSame.kept h (execSysCmdResume_same ·)
  | .sysCmdStop => OutSame.kept h (execSysCmdStop_same ·)
  | .sysCmdReservedCode _ => OutSame.kept h (execSysCmdReservedCode_same · _)
  | .deferredCmdEvaluation => execDeferredCmdEvaluation_kept h
  | .enterPerformance => OutSame.kept h (execEnterPerformance_same ·)
  | .pauseComplete => OutSame.kept h (execPauseComplete_same ·)
  | .stateParity => OutSame.kept h (execStateParity_same ·)
  | .convrxEnable _ _ => execConvrxEnable_kept h _ _
  | .convtxEnable _ _ => execConvtxEnable_kept h _ _
  | .converterDisable _ _ => execConverterDisable_kept h _ _
  | .convCalComplete _ _ => OutSame.kept h (execConvCalComplete_same · _ _)
  | .ovrCntClr _ => OutSame.kept h (execOvrCntClr_same · _)
  | .clipCntClr _ => OutSame.kept h (execClipCntClr_same · _)
  | .bgcalCycleDone _ _ => OutSame.kept h (execBgcalCycleDone_same · _ _)
  | .converterParityError _ => OutSame.kept h (execConverterParityError_same · _)
  | .overRangeEpisodeStart _ => OutSame.kept h (execOverRangeEpisodeStart_same · _)
  | .overRangeEpisodeEnd _ => OutSame.kept h (execOverRangeEpisodeEnd_same · _)
  | .suspectMarkEnd _ => OutSame.kept h (execSuspectMarkEnd_same · _)
  | .clippingEpisodeStart _ => OutSame.kept h (execClippingEpisodeStart_same · _)
  | .clippingEpisodeEnd _ => OutSame.kept h (execClippingEpisodeEnd_same · _)
  | .laneEnable _ _ => execLaneEnable_kept h _ _
  | .laneStart _ => OutSame.kept h (execLaneStart_same · _)
  | .laneDisable _ _ => execLaneDisable_kept h _ _
  | .laneCfgShadowWrite _ _ _ => execLaneCfgShadowWrite_kept h _ _ _
  | .laneSample _ _ _ _ => execLaneSample_kept h _ _ _ _
  | .chfRomRead _ _ => OutSame.kept h (execChfRomRead_same · _ _)
  | .chfRomUncorr _ => OutSame.kept h (execChfRomUncorr_same · _)
  | .rsmFault _ _ _ _ => OutSame.kept h (execRsmFault_same · _ _ _ _)
  | .rsmDelayWrite _ _ => OutSame.kept h (execRsmDelayWrite_same · _ _)
  | .rsmDelayApply _ => OutSame.kept h (execRsmDelayApply_same · _)
  | .pathEnable _ _ => execPathEnable_kept h _ _
  | .pathSubtractionStart _ => OutSame.kept h (execPathSubtractionStart_same · _)
  | .pathDisable _ _ => execPathDisable_kept h _ _
  | .tapWrite _ _ _ => execTapWrite_kept h _ _ _
  | .tapCountSnapshot => OutSame.kept h (execTapCountSnapshot_same ·)
  | .clusterPositionWrite _ => execClusterPositionWrite_kept h _
  | .cnxMarginWrite _ => OutSame.kept h (execCnxMarginWrite_same · _)
  | .cnxCeilRiseWrite _ => OutSame.kept h (execCnxCeilRiseWrite_same · _)
  | .searchGo _ => OutSame.kept h (execSearchGo_same · _)
  | .searchStart => OutSame.kept h (execSearchStart_same ·)
  | .searchComplete => execSearchComplete_kept h
  | .oldClusterRetire _ => execOldClusterRetire_kept h _
  | .slnParityError => OutSame.kept h (execSlnParityError_same ·)
  | .tapUpdate _ _ => execTapUpdate_kept h _ _
  | .estimateBlock _ => execEstimateBlock_kept h _
  | .probeIntegrationEnd _ => OutSame.kept h (execProbeIntegrationEnd_same · _)
  | .tapMemoryUncorr _ => execTapMemoryUncorr_kept h _
  | .streamEnable _ _ => OutSame.kept h (execStreamEnable_same · _ _)
  | .streamReservationResult _ _ _ => OutSame.kept h (execStreamReservationResult_same · _ _ _)
  | .streamDisable _ _ => OutSame.kept h (execStreamDisable_same · _ _)
  | .streamRxEnable _ _ => OutSame.kept h (execStreamRxEnable_same · _ _)
  | .streamFrameReceived _ => OutSame.kept h (execStreamFrameReceived_same · _)
  | .streamLost _ => OutSame.kept h (execStreamLost_same · _)
  | .streamRestored _ => OutSame.kept h (execStreamRestored_same · _)
  | .sptArm _ _ => OutSame.kept h (execSptArm_same · _ _)
  | .measArm _ _ => OutSame.kept h (execMeasArm_same · _ _)
  | .sptDisarm _ _ => OutSame.kept h (execSptDisarm_same · _ _)
  | .decisionWindowClose _ _ => OutSame.kept h (execDecisionWindowClose_same · _ _)
  | .contextStuck _ => OutSame.kept h (execContextStuck_same · _)
  | .contextCtlWrite _ _ _ => OutSame.kept h (execContextCtlWrite_same · _ _ _)
  | .contextSnapshotGo _ _ => OutSame.kept h (execContextSnapshotGo_same · _ _)
  | .contextSnapshotDone _ => OutSame.kept h (execContextSnapshotDone_same · _)
  | .contextMemoryUncorr _ _ => OutSame.kept h (execContextMemoryUncorr_same · _ _)
  | .frameBoundary => OutSame.kept h (execFrameBoundary_same ·)
  | .historyIntervalBoundary _ => OutSame.kept h (execHistoryIntervalBoundary_same · _)
  | .oscillationGrowth _ => OutSame.kept h (execOscillationGrowth_same · _)
  | .oscillationLine _ => OutSame.kept h (execOscillationLine_same · _)
  | .overdriveDetected _ => OutSame.kept h (execOverdriveDetected_same · _)
  | .emissionDetected _ _ => OutSame.kept h (execEmissionDetected_same · _ _)
  | .remoteShutdown _ => OutSame.kept h (execRemoteShutdown_same · _)
  | .remoteShutdownClear _ => OutSame.kept h (execRemoteShutdownClear_same · _)
  | .curtainComplete _ => OutSame.kept h (execCurtainComplete_same · _)
  | .portQuietPeriodEnd _ _ => OutSame.kept h (execPortQuietPeriodEnd_same · _ _)
  | .liftStart _ => OutSame.kept h (execLiftStart_same · _)
  | .liftComplete _ => OutSame.kept h (execLiftComplete_same · _)
  | .curtainRelease _ => OutSame.kept h (execCurtainRelease_same · _)
  | .clearLiftHistory _ => OutSame.kept h (execClearLiftHistory_same · _)
  | .backoffEnd _ => OutSame.kept h (execBackoffEnd_same · _)
  | .timeSnapshot => OutSame.kept h (execTimeSnapshot_same ·)
  | .kvMeasurementDone _ => OutSame.kept h (execKvMeasurementDone_same · _)
  | .timeDetectorEnable _ _ => OutSame.kept h (execTimeDetectorEnable_same · _ _)
  | .syncDetection _ _ _ _ _ => OutSame.kept h (execSyncDetection_same · _ _ _ _ _)
  | .timeLocked => OutSame.kept h (execTimeLocked_same ·)
  | .detectorLost _ => OutSame.kept h (execDetectorLost_same · _)
  | .holdoverEvaluation => OutSame.kept h (execHoldoverEvaluation_same ·)
  | .calendarSetGo => OutSame.kept h (execCalendarSetGo_same ·)
  | .calendarSetApply => OutSame.kept h (execCalendarSetApply_same ·)
  | .realign => OutSame.kept h (execRealign_same ·)
  | .ppsOutPulse => OutSame.kept h (execPpsOutPulse_same ·)
  | .ppsInEdge _ => OutSame.kept h (execPpsInEdge_same · _)
  | .timeMessageSend => OutSame.kept h (execTimeMessageSend_same ·)
  | .timeMessageReceived _ => OutSame.kept h (execTimeMessageReceived_same · _)
  | .arcDelayMeasurement => OutSame.kept h (execArcDelayMeasurement_same ·)
  | .delayRequestReceived _ _ => OutSame.kept h (execDelayRequestReceived_same · _ _)
  | .delayAnswerReceived _ _ _ _ _ => OutSame.kept h (execDelayAnswerReceived_same · _ _ _ _ _)
  | .usReady => OutSame.kept h (execUsReady_same ·)
  | .understudyTakeover _ => OutSame.kept h (execUnderstudyTakeover_same · _)
  | .referenceReturn => OutSame.kept h (execReferenceReturn_same ·)
  | .tddSwap _ => OutSame.kept h (execTddSwap_same · _)
  | .tddSwapApply _ => OutSame.kept h (execTddSwapApply_same · _)
  | .tddBankEccError _ => OutSame.kept h (execTddBankEccError_same · _)
  | .portUseEnd _ _ => OutSame.kept h (execPortUseEnd_same · _ _)
  | .refInFail => OutSame.kept h (execRefInFail_same ·)
  | .refInRecovered => execRefInRecovered_kept h
  | .portCmdOff _ _ => OutSame.kept h (execPortCmdOff_same · _ _)
  | .portCmdRx _ _ => OutSame.kept h (execPortCmdRx_same · _ _)
  | .portCmdTx _ _ => OutSame.kept h (execPortCmdTx_same · _ _)
  | .turnRoundLineEvent _ => OutSame.kept h (execTurnRoundLineEvent_same · _)
  | .turnRoundComplete _ => OutSame.kept h (execTurnRoundComplete_same · _)
  | .paSettleExpiry _ => OutSame.kept h (execPaSettleExpiry_same · _)
  | .synGoA => OutSame.kept h (execSynGoA_same ·)
  | .synGoB => OutSame.kept h (execSynGoB_same ·)
  | .synCalComplete _ _ => OutSame.kept h (execSynCalComplete_same · _ _)
  | .synLock _ _ => OutSame.kept h (execSynLock_same · _ _)
  | .synReady _ => OutSame.kept h (execSynReady_same · _)
  | .synLossOfLock _ => execSynLossOfLock_kept h _
  | .txTimeoutTdd _ => OutSame.kept h (execTxTimeoutTdd_same · _)
  | .presenceLossTimeout _ => OutSame.kept h (execPresenceLossTimeout_same · _)
  | .attnGo _ => OutSame.kept h (execAttnGo_same · _)
  | .attnShiftDone _ => OutSame.kept h (execAttnShiftDone_same · _)
  | .attnLatch _ => OutSame.kept h (execAttnLatch_same · _)
  | .coexReqInRise _ => OutSame.kept h (execCoexReqInRise_same · _)
  | .coexGrantOut => OutSame.kept h (execCoexGrantOut_same ·)
  | .coexReqInFall => OutSame.kept h (execCoexReqInFall_same ·)
  | .coexMaxHoldExpiry => OutSame.kept h (execCoexMaxHoldExpiry_same ·)
  | .coexReqOutRaise _ => OutSame.kept h (execCoexReqOutRaise_same · _)
  | .coexGntInRise => OutSame.kept h (execCoexGntInRise_same ·)
  | .coexGntInFall => OutSame.kept h (execCoexGntInFall_same ·)
  | .rfcLineMismatch _ _ => OutSame.kept h (execRfcLineMismatch_same · _ _)
  | .loopEnable _ _ => execLoopEnable_kept h _ _
  | .loopDisable _ _ => execLoopDisable_kept h _ _
  | .loopSampleBoundary _ _ _ => execLoopSampleBoundary_kept h _ _ _
  | .cue _ _ => execCue_kept h _ _
  | .cueGroup _ => execCueGroup_kept h _
  | .injectGo => OutSame.kept h (execInjectGo_same ·)
  | .injectStop => OutSame.kept h (execInjectStop_same ·)
  | .captureTrig => OutSame.kept h (execCaptureTrig_same ·)
  | .captureArm _ => OutSame.kept h (execCaptureArm_same · _)
  | .cteMemUncorr _ => execCteMemUncorr_kept h _
  | .cteCapUncorr _ => execCteCapUncorr_kept h _
  | .slackWindowEnd _ => OutSame.kept h (execSlackWindowEnd_same · _)
  | .guardHoldoffEnd => OutSame.kept h (execGuardHoldoffEnd_same ·)
  | .wingsWarning _ _ => OutSame.kept h (execWingsWarning_same · _ _)
  | .wingsLoss _ => OutSame.kept h (execWingsLoss_same · _)
  | .minClr => OutSame.kept h (execMinClr_same ·)
  | .ledgerAudit _ => OutSame.kept h (execLedgerAudit_same · _)
  | .ledgerSnapshotGo _ => OutSame.kept h (execLedgerSnapshotGo_same · _)
  | .ledgerSnapshotDone => OutSame.kept h (execLedgerSnapshotDone_same ·)
  | .ledgerClearGo _ => OutSame.kept h (execLedgerClearGo_same · _)
  | .ledgerClearApply => OutSame.kept h (execLedgerClearApply_same ·)
  | .migrationGo _ _ => execMigrationGo_kept h _ _
  | .migrationAbort => execMigrationAbort_kept h
  | .migrationWarmStart => execMigrationWarmStart_kept h
  | .migrationReady => OutSame.kept h (execMigrationReady_same ·)
  | .migrationDeadline => execMigrationDeadline_kept h
  | .migrationBoundary => OutSame.kept h (execMigrationBoundary_same ·)
  | .migrationDone => execMigrationDone_kept h
  | .faultEvent _ _ _ => OutSame.kept h (execFaultEvent_same · _ _ _)
  | .faultEpochLatch => OutSame.kept h (execFaultEpochLatch_same ·)
  | .forceCause _ _ => OutSame.kept h (execForceCause_same · _ _)
  | .forceSource _ _ => OutSame.kept h (execForceSource_same · _ _)
  | .sourceRecovery _ => OutSame.kept h (execSourceRecovery_same · _)
  | .hostClear _ _ => OutSame.kept h (execHostClear_same · _ _)
  | .firstFaultAck => OutSame.kept h (execFirstFaultAck_same ·)
  | .severityWrite _ _ => OutSame.kept h (execSeverityWrite_same · _ _)
  | .faultNPulseEnd => OutSame.kept h (execFaultNPulseEnd_same ·)
  | .recordArrival _ _ _ _ => OutSame.kept h (execRecordArrival_same · _ _ _ _)
  | .recordAdmittedAfterWait => OutSame.kept h (execRecordAdmittedAfterWait_same ·)
  | .foldWindowExpiry => OutSame.kept h (execFoldWindowExpiry_same ·)
  | .rateLimitWindowEnd => OutSame.kept h (execRateLimitWindowEnd_same ·)
  | .pbCfgWrite _ => OutSame.kept h (execPbCfgWrite_same · _)
  | .flushPeriodic => OutSame.kept h (execFlushPeriodic_same ·)
  | .recordConfirmed _ => OutSame.kept h (execRecordConfirmed_same · _)
  | .pfailAssert _ => OutSame.kept h (execPfailAssert_same · _)
  | .vaultFlushComplete => OutSame.kept h (execVaultFlushComplete_same ·)
  | .pfailDeassert => OutSame.kept h (execPfailDeassert_same ·)
  | .vaultRestore => OutSame.kept h (execVaultRestore_same ·)
  | .stagingUncorr _ => OutSame.kept h (execStagingUncorr_same · _)
  | .vaultLineUncorr => OutSame.kept h (execVaultLineUncorr_same ·)
  | .pbReadGo => OutSame.kept h (execPbReadGo_same ·)
  | .pbReadDone => OutSame.kept h (execPbReadDone_same ·)
  | .verifyGo => OutSame.kept h (execVerifyGo_same ·)
  | .verifyStop => OutSame.kept h (execVerifyStop_same ·)
  | .verifyDone _ => OutSame.kept h (execVerifyDone_same · _)
  | .storageReady _ => OutSame.kept h (execStorageReady_same · _)
  | .formatGo => OutSame.kept h (execFormatGo_same ·)
  | .reshape => OutSame.kept h (execReshape_same ·)
  | .formatDone _ => OutSame.kept h (execFormatDone_same · _)
  | .codewordUncorrectable _ _ _ => OutSame.kept h (execCodewordUncorrectable_same · _ _ _)
  | .blockRefresh _ _ _ _ => OutSame.kept h (execBlockRefresh_same · _ _ _ _)
  | .blockRetire _ _ _ _ _ _ _ => OutSame.kept h (execBlockRetire_same · _ _ _ _ _ _ _)
  | .scrubPassComplete => OutSame.kept h (execScrubPassComplete_same ·)
  | .wearCheckpoint => OutSame.kept h (execWearCheckpoint_same ·)
  | .ceBusyTimeout => OutSame.kept h (execCeBusyTimeout_same ·)
  | .snapshotArm _ => OutSame.kept h (execSnapshotArm_same · _)
  | .snapshotTrigger _ => OutSame.kept h (execSnapshotTrigger_same · _)
  | .snapshotHostTrigger => OutSame.kept h (execSnapshotHostTrigger_same ·)
  | .snapshotFillComplete => OutSame.kept h (execSnapshotFillComplete_same ·)
  | .snapshotStored => OutSame.kept h (execSnapshotStored_same ·)
  | .badAccess _ _ _ => OutSame.kept h (execBadAccess_same · _ _ _)
  | .winbWrite => OutSame.kept h (execWinbWrite_same ·)
  | .tunnelledRead _ _ => execTunnelledRead_kept h _ _
  | .tunnelTimeout => OutSame.kept h (execTunnelTimeout_same ·)
  | .dmaDoorbell _ _ => OutSame.kept h (execDmaDoorbell_same · _ _)
  | .descNop _ _ => OutSame.kept h (execDescNop_same · _ _)
  | .descMemoryRead _ _ => OutSame.kept h (execDescMemoryRead_same · _ _)
  | .descMediumRead _ _ => OutSame.kept h (execDescMediumRead_same · _ _)
  | .descRegisterRead _ _ => execDescRegisterRead_kept h _ _
  | .descRegisterWrite _ _ _ => execDescRegisterWrite_kept h _ _ _
  | .descRefusedKind _ _ => OutSame.kept h (execDescRefusedKind_same · _ _)
  | .descComplete _ => OutSame.kept h (execDescComplete_same · _)
  | .descFetchError _ => OutSame.kept h (execDescFetchError_same · _)
  | .cqHeadWrite _ _ => OutSame.kept h (execCqHeadWrite_same · _ _)
  | .moderationTimeout _ => OutSame.kept h (execModerationTimeout_same · _)
  | .queueEnable _ _ => OutSame.kept h (execQueueEnable_same · _ _)
  | .queueDisable _ _ => OutSame.kept h (execQueueDisable_same · _ _)
  | .queueDrained _ => OutSame.kept h (execQueueDrained_same · _)
  | .queueReset _ _ => OutSame.kept h (execQueueReset_same · _ _)
  | .d3hotEntry _ => OutSame.kept h (execD3hotEntry_same · _)
  | .d0Return => OutSame.kept h (execD0Return_same ·)
  | .sourceAssertion _ => OutSame.kept h (execSourceAssertion_same · _)
  | .icClaim _ _ => execIcClaim_kept h _ _
  | .icComplete _ _ _ => OutSame.kept h (execIcComplete_same · _ _ _)
  | .sourceConfigWrite _ _ => OutSame.kept h (execSourceConfigWrite_same · _ _)
  | .countSnapshot _ => OutSame.kept h (execCountSnapshot_same · _)
  | .wakeClear _ => OutSame.kept h (execWakeClear_same · _)
  | .targetConfigWrite _ _ => OutSame.kept h (execTargetConfigWrite_same · _ _)
  | .msixUnmask _ => execMsixUnmask_kept h _
  | .msixEnable => OutSame.kept h (execMsixEnable_same ·)
  | .hostSleepEntry => OutSame.kept h (execHostSleepEntry_same ·)
  | .hostSleepExit => OutSame.kept h (execHostSleepExit_same ·)
  | .linkDown => OutSame.kept h (execLinkDown_same ·)
  | .pcieErrorTlp _ => OutSame.kept h (execPcieErrorTlp_same · _)
  | .icStateParity _ => OutSame.kept h (execIcStateParity_same · _)
  | .bufParity _ => OutSame.kept h (execBufParity_same · _)
  | .ringLaneLockLoss _ _ => OutSame.kept h (execRingLaneLockLoss_same · _ _)
  | .ringTrainingDone _ _ _ => OutSame.kept h (execRingTrainingDone_same · _ _ _)
  | .portRetrain _ => OutSame.kept h (execPortRetrain_same · _)
  | .headerCrcFail _ => OutSame.kept h (execHeaderCrcFail_same · _)
  | .frameCrcFail _ _ => OutSame.kept h (execFrameCrcFail_same · _ _)
  | .registerWriteFrame _ _ _ _ => execRegisterWriteFrame_kept h _ _ _ _
  | .registerReadFrame _ _ _ _ => execRegisterReadFrame_kept h _ _ _ _
  | .readAnswerFrame _ _ _ _ => OutSame.kept h (execReadAnswerFrame_same · _ _ _ _)
  | .ackFrame _ _ _ _ _ _ _ => OutSame.kept h (execAckFrame_same · _ _ _ _ _ _ _)
  | .nakFrame _ _ _ => OutSame.kept h (execNakFrame_same · _ _ _)
  | .statusFrame _ _ _ _ _ => OutSame.kept h (execStatusFrame_same · _ _ _ _ _)
  | .statusFrameSend => OutSame.kept h (execStatusFrameSend_same ·)
  | .replayTimeout _ _ => OutSame.kept h (execReplayTimeout_same · _ _)
  | .tunnelWriteReleased _ => OutSame.kept h (execTunnelWriteReleased_same · _)
  | .creditReturn _ _ _ => OutSame.kept h (execCreditReturn_same · _ _ _)
  | .censusMarkerSend => OutSame.kept h (execCensusMarkerSend_same ·)
  | .censusMarker _ _ _ _ _ _ => OutSame.kept h (execCensusMarker_same · _ _ _ _ _ _)
  | .enumerationStart => OutSame.kept h (execEnumerationStart_same ·)
  | .enumerationFrame _ _ _ _ => OutSame.kept h (execEnumerationFrame_same · _ _ _ _)
  | .enumerationComplete _ _ => OutSame.kept h (execEnumerationComplete_same · _ _)
  | .singleTimeout => OutSame.kept h (execSingleTimeout_same ·)
  | .noVertexTimeout => OutSame.kept h (execNoVertexTimeout_same ·)
  | .arcDown _ => OutSame.kept h (execArcDown_same · _)
  | .breakNoticeFrame _ _ => OutSame.kept h (execBreakNoticeFrame_same · _ _)
  | .split _ => OutSame.kept h (execSplit_same · _)
  | .ringRestore _ => OutSame.kept h (execRingRestore_same · _)
  | .routeCommandFrame _ => OutSame.kept h (execRouteCommandFrame_same · _)
  | .ringResetGo _ _ => OutSame.kept h (execRingResetGo_same · _ _)
  | .bulkRequestFrame _ _ _ _ _ => OutSame.kept h (execBulkRequestFrame_same · _ _ _ _ _)
  | .bulkDataFrame _ _ _ _ _ _ _ _ => OutSame.kept h (execBulkDataFrame_same · _ _ _ _ _ _ _ _)
  | .hkTimerTrigger => OutSame.kept h (execHkTimerTrigger_same ·)
  | .hkPwmTrigger => OutSame.kept h (execHkPwmTrigger_same ·)
  | .hkGo => OutSame.kept h (execHkGo_same ·)
  | .hkScanStart => OutSame.kept h (execHkScanStart_same ·)
  | .slowRoundRequest => OutSame.kept h (execSlowRoundRequest_same ·)
  | .hkConversionEnd _ _ => execHkConversionEnd_kept h _ _
  | .thermalRestart => execThermalRestart_kept h
  | .maxClr => OutSame.kept h (execMaxClr_same ·)
  | .hkFault _ _ => OutSame.kept h (execHkFault_same · _ _)
  | .pwmPeriodStart _ => OutSame.kept h (execPwmPeriodStart_same · _)
  | .pwmDutyEdge _ => OutSame.kept h (execPwmDutyEdge_same · _)
  | .pwmMismatch _ _ => OutSame.kept h (execPwmMismatch_same · _ _)
  | .bdacStep => OutSame.kept h (execBdacStep_same ·)
  | .twtAddress _ _ => OutSame.kept h (execTwtAddress_same · _ _)
  | .twtWriteByte _ _ => OutSame.kept h (execTwtWriteByte_same · _ _)
  | .twtReadByte _ _ => OutSame.kept h (execTwtReadByte_same · _ _)
  | .twtRepeatedStartAtAck => OutSame.kept h (execTwtRepeatedStartAtAck_same ·)
  | .twtSclStuck => OutSame.kept h (execTwtSclStuck_same ·)
  | .twtIdleSleep => OutSame.kept h (execTwtIdleSleep_same ·)
  | .alertResponse _ => OutSame.kept h (execAlertResponse_same · _)
  | .mailboxInAck => OutSame.kept h (execMailboxInAck_same ·)
  | .mailboxOutGo => OutSame.kept h (execMailboxOutGo_same ·)
  | .hostAlert => OutSame.kept h (execHostAlert_same ·)
  | .twcCommandGo _ _ => OutSame.kept h (execTwcCommandGo_same · _ _)
  | .twcTransactionDone _ _ _ _ => OutSame.kept h (execTwcTransactionDone_same · _ _ _ _)
  | .pollDue _ _ => OutSame.kept h (execPollDue_same · _ _)
  | .regulatorRetry _ => OutSame.kept h (execRegulatorRetry_same · _)
  | .twcAbort _ => OutSame.kept h (execTwcAbort_same · _)
  | .twcClear _ => OutSame.kept h (execTwcClear_same · _)
  | .busClearDone _ _ => OutSame.kept h (execBusClearDone_same · _ _)
  | .powerOnReset _ => execPowerOnReset_kept h _
  | .pinReset => execPinReset_kept h
  | .hostReset => execHostReset_kept h
  | .bootResetHost _ => execBootResetHost_kept h _
  | .bootResetFabric _ => execBootResetFabric_kept h _
  | .ringResetFrame _ => execRingResetFrame_kept h _
  | .resetRelease => OutSame.kept h (execResetRelease_same ·)
  | .startupPhase0Done _ _ _ _ _ _ => OutSame.kept h (execStartupPhase0Done_same · _ _ _ _ _ _)
  | .smemDiscoveryDone _ _ _ _ => OutSame.kept h (execSmemDiscoveryDone_same · _ _ _ _)
  | .imageCopyChecked _ _ => OutSame.kept h (execImageCopyChecked_same · _ _)
  | .imageNop => OutSame.kept h (execImageNop_same ·)
  | .imageWrite _ _ => execImageWrite_kept h _ _
  | .imageModify _ _ _ => execImageModify_kept h _ _ _
  | .imageWait _ _ _ _ _ => OutSame.kept h (execImageWait_same · _ _ _ _ _)
  | .imageWaitTimeout => OutSame.kept h (execImageWaitTimeout_same ·)
  | .imageDelay _ => OutSame.kept h (execImageDelay_same · _)
  | .imageDelayEnd => OutSame.kept h (execImageDelayEnd_same ·)
  | .imageSkip _ _ _ _ _ => OutSame.kept h (execImageSkip_same · _ _ _ _ _)
  | .imageCalibrate => OutSame.kept h (execImageCalibrate_same ·)
  | .imageEnd => OutSame.kept h (execImageEnd_same ·)
  | .loadLimitExpiry => OutSame.kept h (execLoadLimitExpiry_same ·)
  | .startupCalibration => OutSame.kept h (execStartupCalibration_same ·)
  | .rehearsalEntry => OutSame.kept h (execRehearsalEntry_same ·)
  | .backgroundCopyCheck _ _ => OutSame.kept h (execBackgroundCopyCheck_same · _ _)
  | .otpProgram _ => OutSame.kept h (execOtpProgram_same · _)
  | .otpProgramDone _ => OutSame.kept h (execOtpProgramDone_same · _)
  | .smemCommandGo _ => OutSame.kept h (execSmemCommandGo_same · _)
  | .smemCommandDone _ _ => OutSame.kept h (execSmemCommandDone_same · _ _)
  | .pageIntClear _ => OutSame.kept h (execPageIntClear_same · _)
  | .pageErrClear _ => OutSame.kept h (execPageErrClear_same · _)
  | .supplyUnderAlarm _ => OutSame.kept h (execSupplyUnderAlarm_same · _)
  | .supplyOverAlarm _ => OutSame.kept h (execSupplyOverAlarm_same · _)
  | .supplyAlarmClear => OutSame.kept h (execSupplyAlarmClear_same ·)
  | .gpioEdge _ _ => OutSame.kept h (execGpioEdge_same · _ _)
  | .registerWrite _ _ _ => execRegisterWrite_kept h _ _ _
  | .linkUp _ _ => OutSame.kept h (execLinkUp_same · _ _)
  | .portUseStart _ => OutSame.kept h (execPortUseStart_same · _)
  | .standingSignalFall _ _ => OutSame.kept h (execStandingSignalFall_same · _ _)
  | .deferredFaultNPulse => OutSame.kept h (execDeferredFaultNPulse_same ·)

/-- Every command's meaning is a next state: no arm of `exec` faults or refuses. -/
theorem exec_completes (c : Instr) (s : State) : ∃ t, exec c s = .next t := by
  cases c <;> exact ⟨_, rfl⟩

/-- Settles O5: every command answers a next state (the model's choice, log entry 6), and what each keeps includes the queue. -/
theorem everyCommandCompletes : Obligations.EveryCommandCompletes := fun c s hmem htod => by
  obtain ⟨t, hexec⟩ := exec_completes c s
  have hkept : Kept s.pending s := ⟨rfl, hmem, htod.1, htod.2⟩
  exact ⟨t, hexec, ((exec_kept hkept c).of t hexec).pending⟩

end Sys2Proof.Machine

/-! PROOF. The frame of the commands of host interface, DMA and interrupts. -/
namespace Sys2Proof.Machine
open Sys2Proof

/-- Settles O17: each clause names memories, pieces and fields that cover the mask of its command (Laws/OffCommands.lean). -/
theorem hostFrame : Obligations.HostFrame :=
  ⟨fun a b c => onlyChanges_of_maskCovers (execBadAccess_off · a b c) (by decide +kernel),
   onlyChanges_of_maskCovers execWinbWrite_off (by decide +kernel),
   onlyChanges_of_maskCovers execTunnelTimeout_off (by decide +kernel),
   fun a => onlyChanges_of_maskCovers (execD3hotEntry_off · a) (by decide +kernel),
   onlyChanges_of_maskCovers execD0Return_off (by decide +kernel),
   onlyChanges_of_maskCovers execHostSleepEntry_off (by decide +kernel),
   onlyChanges_of_maskCovers execHostSleepExit_off (by decide +kernel),
   onlyChanges_of_maskCovers execLinkDown_off (by decide +kernel),
   fun a => onlyChanges_of_maskCovers (execPcieErrorTlp_off · a) (by decide +kernel),
   fun a b => onlyChanges_of_maskCovers (execLinkUp_off · a b) (by decide +kernel),
   fun a b => onlyChanges_of_maskCovers (execDmaDoorbell_off · a b) (by decide +kernel),
   fun a b => onlyChanges_of_maskCovers (execDescNop_off · a b) (by decide +kernel),
   fun a b => onlyChanges_of_maskCovers (execDescMemoryRead_off · a b) (by decide +kernel),
   fun a b => onlyChanges_of_maskCovers (execDescMediumRead_off · a b) (by decide +kernel),
   fun a b => onlyChanges_of_maskCovers (execDescRefusedKind_off · a b) (by decide +kernel),
   fun a => onlyChanges_of_maskCovers (execDescComplete_off · a) (by decide +kernel),
   fun a => onlyChanges_of_maskCovers (execDescFetchError_off · a) (by decide +kernel),
   fun a b => onlyChanges_of_maskCovers (execCqHeadWrite_off · a b) (by decide +kernel),
   fun a => onlyChanges_of_maskCovers (execModerationTimeout_off · a) (by decide +kernel),
   fun a b => onlyChanges_of_maskCovers (execQueueEnable_off · a b) (by decide +kernel),
   fun a b => onlyChanges_of_maskCovers (execQueueDisable_off · a b) (by decide +kernel),
   fun a => onlyChanges_of_maskCovers (execQueueDrained_off · a) (by decide +kernel),
   fun a b => onlyChanges_of_maskCovers (execQueueReset_off · a b) (by decide +kernel),
   fun a => onlyChanges_of_maskCovers (execBufParity_off · a) (by decide +kernel),
   fun a => onlyChanges_of_maskCovers (execSourceAssertion_off · a) (by decide +kernel),
   fun a b c => onlyChanges_of_maskCovers (execIcComplete_off · a b c) (by decide +kernel),
   fun a b => onlyChanges_of_maskCovers (execSourceConfigWrite_off · a b) (by decide +kernel),
   fun a => onlyChanges_of_maskCovers (execCountSnapshot_off · a) (by decide +kernel),
   fun a => onlyChanges_of_maskCovers (execWakeClear_off · a) (by decide +kernel),
   fun a b => onlyChanges_of_maskCovers (execTargetConfigWrite_off · a b) (by decide +kernel),
   fun a => onlyChanges_of_maskCovers (execMsixUnmask_off · a) (by decide +kernel),
   onlyChanges_of_maskCovers execMsixEnable_off (by decide +kernel),
   fun a => onlyChanges_of_maskCovers (execIcStateParity_off · a) (by decide +kernel)⟩

end Sys2Proof.Machine

/-! PROOF. The frame of the commands of cascade ring and housekeeping. -/
namespace Sys2Proof.Machine
open Sys2Proof

/-- Settles O18: each clause names memories, pieces and fields that cover the mask of its command (Laws/OffCommands.lean). -/
theorem ringFrame : Obligations.RingFrame :=
  ⟨fun a b => onlyChanges_of_maskCovers (execRingLaneLockLoss_off · a b) (by decide +kernel),
   fun a b c => onlyChanges_of_maskCovers (execRingTrainingDone_off · a b c) (by decide +kernel),
   fun a => onlyChanges_of_maskCovers (execPortRetrain_off · a) (by decide +kernel),
   fun a => onlyChanges_of_maskCovers (execHeaderCrcFail_off · a) (by decide +kernel),
   fun a b => onlyChanges_of_maskCovers (execFrameCrcFail_off · a b) (by decide +kernel),
   fun a b c d => onlyChanges_of_maskCovers (execReadAnswerFrame_off · a b c d) (by decide +kernel),
   fun a b c d e f g => onlyChanges_of_maskCovers (execAckFrame_off · a b c d e f g) (by decide +kernel),
   fun a b c => onlyChanges_of_maskCovers (execNakFrame_off · a b c) (by decide +kernel),
   fun a b c d e => onlyChanges_of_maskCovers (execStatusFrame_off · a b c d e) (by decide +kernel),
   onlyChanges_of_maskCovers execStatusFrameSend_off (by decide +kernel),
   fun a b => onlyChanges_of_maskCovers (execReplayTimeout_off · a b) (by decide +kernel),
   fun a => onlyChanges_of_maskCovers (execTunnelWriteReleased_off · a) (by decide +kernel),
   fun a b c => onlyChanges_of_maskCovers (execCreditReturn_off · a b c) (by decide +kernel),
   onlyChanges_of_maskCovers execCensusMarkerSend_off (by decide +kernel),
   fun a b c d e f => onlyChanges_of_maskCovers (execCensusMarker_off · a b c d e f) (by decide +kernel),
   onlyChanges_of_maskCovers execEnumerationStart_off (by decide +kernel),
   fun a b c d => onlyChanges_of_maskCovers (execEnumerationFrame_off · a b c d) (by decide +kernel),
   fun a b => onlyChanges_of_maskCovers (execEnumerationComplete_off · a b) (by decide +kernel),
   onlyChanges_of_maskCovers execSingleTimeout_off (by decide +kernel),
   onlyChanges_of_maskCovers execNoVertexTimeout_off (by decide +kernel),
   fun a => onlyChanges_of_maskCovers (execArcDown_off · a) (by decide +kernel),
   fun a b => onlyChanges_of_maskCovers (execBreakNoticeFrame_off · a b) (by decide +kernel),
   fun a => onlyChanges_of_maskCovers (execSplit_off · a) (by decide +kernel),
   fun a => onlyChanges_of_maskCovers (execRingRestore_off · a) (by decide +kernel),
   fun a => onlyChanges_of_maskCovers (execRouteCommandFrame_off · a) (by decide +kernel),
   fun a b => onlyChanges_of_maskCovers (execRingResetGo_off · a b) (by decide +kernel),
   fun a b c d e => onlyChanges_of_maskCovers (execBulkRequestFrame_off · a b c d e) (by decide +kernel),
   fun a b c d e f g h => onlyChanges_of_maskCovers (execBulkDataFrame_off · a b c d e f g h) (by decide +kernel),
   onlyChanges_of_maskCovers execHkTimerTrigger_off (by decide +kernel),
   onlyChanges_of_maskCovers execHkPwmTrigger_off (by decide +kernel),
   onlyChanges_of_maskCovers execHkGo_off (by decide +kernel),
   onlyChanges_of_maskCovers execHkScanStart_off (by decide +kernel),
   onlyChanges_of_maskCovers execSlowRoundRequest_off (by decide +kernel),
   fun a b => onlyChanges_of_maskCovers (execHkConversionEnd_off · a b) (by decide +kernel),
   onlyChanges_of_maskCovers execThermalRestart_off (by decide +kernel),
   onlyChanges_of_maskCovers execMaxClr_off (by decide +kernel),
   fun a b => onlyChanges_of_maskCovers (execHkFault_off · a b) (by decide +kernel),
   fun a => onlyChanges_of_maskCovers (execPwmPeriodStart_off · a) (by decide +kernel),
   fun a => onlyChanges_of_maskCovers (execPwmDutyEdge_off · a) (by decide +kernel),
   fun a b => onlyChanges_of_maskCovers (execPwmMismatch_off · a b) (by decide +kernel),
   onlyChanges_of_maskCovers execBdacStep_off (by decide +kernel)⟩

end Sys2Proof.Machine

/-! PROOF. The clears of a page's interrupt and error bits (spec/18_register_directory.md R472; spec/10_fault_collector.md R278;
spec/05_network_protection.md R166). -/
namespace Sys2Proof.Machine
open Sys2Proof
set_option Elab.async false

/-! ### Bits taken out of a number, and sets of bits -/

theorem testBit_sub_and (x m b : Nat) : (x - (x &&& m)).testBit b = (x.testBit b && !m.testBit b) := by
  have hle : x &&& m ≤ x := Nat.and_le_left
  have hlow : (x &&& m) % 2 = 1 ↔ x % 2 = 1 ∧ m % 2 = 1 := Nat.and_mod_two_eq_one
  induction b generalizing x m with
  | zero =>
    rw [Bool.eq_iff_iff]
    simp only [Nat.testBit_zero, Bool.and_eq_true, Bool.not_eq_true', decide_eq_true_eq, decide_eq_false_iff_not]
    omega
  | succ b ih =>
    have hhalf : (x &&& m) / 2 = x / 2 &&& m / 2 := Nat.and_div_two
    have hdiv : (x - (x &&& m)) / 2 = x / 2 - (x / 2 &&& m / 2) := by omega
    rw [Nat.testBit_succ, Nat.testBit_succ, Nat.testBit_succ, hdiv]
    exact ih _ _ Nat.and_le_left Nat.and_mod_two_eq_one

theorem State.tst_clrBits_self {s : State} {f : Fld} {i : Nat} (m b : Nat) (hi : f.has i = true) (hw : f.w ≤ 32) :
    (s.clrBits f i m).tst f i b = (s.tst f i b && !m.testBit b) := by
  have hlt : s.rd f i - (s.rd f i &&& m) < 2 ^ f.w := Nat.lt_of_le_of_lt (Nat.sub_le ..) (s.rd_lt f i)
  rw [State.tst, State.clrBits, State.rd_wr_self _ _ hi hw, Nat.mod_eq_of_lt hlt, testBit_sub_and, State.tst]

theorem maskOf_succ (n : Nat) (f : Nat → Bool) : maskOf (n + 1) f = if f n then maskOf n f + 2 ^ n else maskOf n f := by
  rw [maskOf, List.range_succ, List.foldl_concat, maskOf]

theorem maskOf_lt (n : Nat) (f : Nat → Bool) : maskOf n f < 2 ^ n := by
  induction n with
  | zero => exact Nat.one_pos
  | succ n ih =>
    rw [maskOf_succ, Nat.pow_succ]
    split <;> omega

theorem maskOf_testBit (n : Nat) (f : Nat → Bool) (b : Nat) : (maskOf n f).testBit b = (decide (b < n) && f b) := by
  induction n with
  | zero => exact Nat.zero_testBit b
  | succ n ih =>
    rcases Nat.lt_trichotomy b n with hb | rfl | hb
    · rw [maskOf_succ, apply_ite (Nat.testBit · b), Nat.add_comm, Nat.testBit_two_pow_add_gt hb, ih, ite_self,
        decide_eq_true hb, decide_eq_true (Nat.lt_succ_of_lt hb)]
    · rw [maskOf_succ, apply_ite (Nat.testBit · b), Nat.add_comm, Nat.testBit_two_pow_add_eq,
        Nat.testBit_lt_two_pow (maskOf_lt b f), decide_eq_true (Nat.lt_succ_self b)]
      cases f b <;> rfl
    · have hbig : maskOf (n + 1) f < 2 ^ b := Nat.lt_of_lt_of_le (maskOf_lt ..) (Nat.pow_le_pow_right (by decide) hb)
      rw [Nat.testBit_lt_two_pow hbig, decide_eq_false (Nat.not_lt.2 hb), Bool.false_and]

/-! ### The clears (R472) -/

theorem PG_ERR_has (page : Page) : PG_ERR.has (pageOff page) = true := PG_INT_EN_has page

theorem PG_INT_STAT_has (page : Page) : PG_INT_STAT.has (pageOff page) = true := PG_INT_EN_has page

theorem execPageIntClear_clears {s : State} {page : Page} (hdef : s.sys.deferred = []) :
    ∃ t, exec (.pageIntClear page) s = .next t ∧ t.rd PG_INT_STAT (pageOff page) = 0 := by
  refine ⟨_, rfl, ?_⟩
  rw [State.byHost_of_none hdef]
  exact State.rd_wr_self _ _ (PG_INT_STAT_has page) (by decide)

/-- Every bit of PG_ERR clears, but a detector's while a port holds its cause. -/
theorem State.pageErrClear_tst (s : State) (page : Page) {b : Nat} (hb : b < 32) :
    (s.pageErrClear (pageOff page)).tst PG_ERR (pageOff page) b
      = (s.tst PG_ERR (pageOff page) b && (decide (pageOff page = pgPROT) && decide (1 ≤ b) && decide (b ≤ 5)
        && (List.range 8).any fun m => s.cause m (b - 1))) := by
  have hones : (0xFFFFFFFF : Nat).testBit b = true := (Nat.testBit_two_pow_sub_one (n := 32) ..).trans (decide_eq_true hb)
  rw [State.pageErrClear, State.clearErr, State.tst_clrBits_self _ _ (PG_ERR_has page) (by decide), testBit_sub_and, hones,
    Bool.true_and, Bool.not_not]
  by_cases hprot : pageOff page = pgPROT
  · rw [if_pos hprot, maskOf_testBit, decide_eq_true hprot, Bool.true_and]
    by_cases hfive : b ≤ 5
    · rw [decide_eq_true (show b < 8 by omega), Bool.true_and]
    · rw [decide_eq_false hfive, Bool.and_false, Bool.false_and, Bool.and_false]
  · rw [if_neg hprot, decide_eq_false hprot, Nat.zero_testBit, Bool.false_and, Bool.false_and, Bool.false_and]

/-- Settles O59: INT_CLR writes 0; ERR_CLR takes out of PG_ERR every bit but those of R166, which stay while their cause stands
(log entry 24). -/
theorem pageClearsComplete : Obligations.PageClearsComplete :=
  ⟨fun _ _ => execPageIntClear_clears, fun s page _ hdef hb => ⟨_, rfl, by
    rw [State.byHost_of_none hdef]
    exact s.pageErrClear_tst page hb⟩⟩

end Sys2Proof.Machine

/-! PROOF. The records of an NDN image run, wait, are skipped and end phase 3 (spec/17_startup_and_settings.md R448, R455, R458). -/
namespace Sys2Proof.Machine
open Sys2Proof
set_option Elab.async false

/-! ### A record runs (R455) -/

/-- A record is counted, and a CALIBRATE before it is no longer awaited. -/
def State.recBegin (s : State) : State := (s.satInc BOOT_STAT_RECORDS 0).setBoot fun b => { b with calWait := false }

theorem State.recBegin_records (s : State) :
    s.recBegin.rd BOOT_STAT_RECORDS 0 = min (s.rd BOOT_STAT_RECORDS 0 + 1) (2 ^ BOOT_STAT_RECORDS.w - 1) :=
  State.rd_satInc_self (by decide) (by decide)

theorem State.recRun_of_ready {s : State} (hready : s.recReady = true) (hskip : s.boot.skip = 0) (f : State → State) :
    s.recRun f = f s.recBegin := by
  simp only [State.recRun, hready, hskip, Bool.not_true, Bool.false_eq_true, Nat.lt_irrefl, if_false, State.recBegin]

theorem State.recEnd_of_recReady {s : State} (hready : s.recReady = true) : s.boot.recEnd = none := by
  simp only [State.recReady, Bool.and_eq_true, Option.isNone_iff_eq_none] at hready
  exact hready.1.2

theorem execImageNop_counts {s : State} (hready : s.recReady = true) :
    ∃ t, exec .imageNop s = .next t
      ∧ t.rd BOOT_STAT_RECORDS 0 = min (s.rd BOOT_STAT_RECORDS 0 + 1) (2 ^ BOOT_STAT_RECORDS.w - 1)
      ∧ t.boot.calWait = false ∧ t.boot.skip = s.boot.skip :=
  ⟨s.recBegin, congrArg Host.Outcome.next (if_pos hready), s.recBegin_records, rfl, rfl⟩

/-! ### Accesses to registers (R455) -/

theorem execImageWrite_writes {s u : State} {off : BitVec 24} {v : Word} (hready : s.recReady = true)
    (hskip : s.boot.skip = 0) (hu : u = s.recBegin) :
    ∃ t, exec (.imageWrite off [v]) s = .next t ∧ t = u.hostWrite off.toNat v :=
  ⟨_, rfl, hu ▸ State.recRun_of_ready hready hskip _⟩

theorem execImageModify_writes {s u x : State} {off : BitVec 24} {mask v w : Word} (hready : s.recReady = true)
    (hskip : s.boot.skip = 0) (hu : u = s.recBegin) (hread : u.readFx off.toNat = (x, w)) :
    ∃ t, exec (.imageModify off mask v) s = .next t ∧ t = x.hostWrite off.toNat ((w &&& ~~~mask) ||| (v &&& mask)) := by
  subst hu
  refine ⟨_, rfl, ?_⟩
  rw [State.imgModify, State.recRun_of_ready hready hskip, hread]

theorem execImageWait_polls {s u x : State} {off : BitVec 24} {mask v w timeout : Word} {fatal : Bool}
    (hready : s.recReady = true) (hskip : s.boot.skip = 0) (hu : u = s.recBegin)
    (hread : u.readFx off.toNat = (x, w)) (hdiff : w &&& mask ≠ v) :
    ∃ t, exec (.imageWait off mask v timeout fatal) s = .next t
      ∧ t.boot.recEnd = some (x.now + usT timeout.toNat) ∧ t.boot.waiting = true ∧ t.boot.fatal = fatal
      ∧ t.boot.pollAt = x.now := by
  subst hu
  have hwait : s.imgWait off.toNat mask v timeout.toNat fatal = x.setBoot fun b =>
      { b with recEnd := some (x.now + usT timeout.toNat), waiting := true, fatal := fatal, pollAt := x.now } := by
    simp only [State.imgWait, State.recEnd_of_recReady hready, State.recRun_of_ready hready hskip, hread, if_neg hdiff]
  exact ⟨_, congrArg Host.Outcome.next hwait, rfl, rfl, rfl, rfl⟩

theorem execImageSkip_skips {s u x : State} {off : BitVec 24} {mask v w count : Word} (hready : s.recReady = true)
    (hskip : s.boot.skip = 0) (hu : u = s.recBegin) (hread : u.readFx off.toNat = (x, w)) (hsame : w &&& mask = v) :
    ∃ t, exec (.imageSkip off mask v false count) s = .next t ∧ t.boot.skip = count.toNat := by
  subst hu
  have hrun : s.imgSkip off.toNat mask v false count.toNat = x.setBoot fun b => { b with skip := count.toNat } := by
    simp only [State.imgSkip, State.recRun_of_ready hready hskip, hread, decide_eq_true hsame, Bool.bne_false, if_true]
  exact ⟨_, congrArg Host.Outcome.next hrun, rfl⟩

/-! ### Delays and calibration (R449, R455) -/

theorem execImageDelay_starts {s : State} {us : Word} (hready : s.recReady = true) (hskip : s.boot.skip = 0) :
    ∃ t, exec (.imageDelay us) s = .next t ∧ t.boot.recEnd = some (s.now + usT us.toNat) ∧ t.boot.waiting = false
      ∧ t.rd BOOT_STAT_RECORDS 0 = min (s.rd BOOT_STAT_RECORDS 0 + 1) (2 ^ BOOT_STAT_RECORDS.w - 1) :=
  ⟨_, congrArg Host.Outcome.next (State.recRun_of_ready hready hskip _), rfl, rfl, s.recBegin_records⟩

theorem execImageDelayEnd_ends {s : State} {a : Nat} (hend : s.boot.recEnd = some a) (hdelay : s.boot.waiting = false) :
    ∃ t, exec .imageDelayEnd s = .next t ∧ t.boot.recEnd = none ∧ t.now = max s.now a := by
  have hrun : s.imgDelayEnd = (s.reach a).setBoot fun b => { b with recEnd := none } := by
    simp only [State.imgDelayEnd, hend, hdelay, Bool.false_eq_true, if_false]
  exact ⟨_, congrArg Host.Outcome.next hrun, rfl, s.reach_now a⟩

theorem execImageCalibrate_calibrates {s : State} (hready : s.recReady = true) (hskip : s.boot.skip = 0)
    (hfree : s.synParked = false) :
    ∃ t, exec .imageCalibrate s = .next t ∧ t.boot.calibrated = true ∧ t.boot.calWait = true
      ∧ t.rd BOOT_STAT_RECORDS 0 = min (s.rd BOOT_STAT_RECORDS 0 + 1) (2 ^ BOOT_STAT_RECORDS.w - 1) := by
  have hparked : s.recBegin.synParked = false := hfree
  have hrun : s.imgCalibrate = s.recBegin.startBoth.setBoot fun b => { b with calibrated := true, calWait := true } := by
    rw [State.imgCalibrate, State.recRun_of_ready hready hskip, hparked]
    rfl
  have hoff := State.startBoth_off (Nat.and_self _) (.refl (a := s.recBegin))
  exact ⟨_, congrArg Host.Outcome.next hrun, rfl, rfl, (hoff.rd_eq (by decide +kernel)).trans s.recBegin_records⟩

/-! ### The end of phase 3 (R448, R458) -/

/-- What the image load's end reaches beside the phase. -/
def F.toPhase4Tail : Nat := F.State.setBoot ||| F.State.formatImage

theorem State.toPhase4_off_entered (s : State) : Off F.toPhase4Tail (s.wr BOOT_STAT_PHASE 0 4) s.toPhase4 := by
  have hm := Nat.and_self F.toPhase4Tail
  exact State.formatImage_off (sb hm (by decide)) (State.setBoot_off (sb hm (by decide)) .refl ..)

theorem State.toPhase4_phase (s : State) : s.toPhase4.rd BOOT_STAT_PHASE 0 = 4 := by
  rw [s.toPhase4_off_entered.rd_eq (by decide +kernel)]
  exact State.rd_wr_self _ _ (by decide) (by decide)

theorem State.toPhase4_off_self (s : State) : Off F.State.toPhase4 s s.toPhase4 := State.toPhase4_off (Nat.and_self _) .refl

/-- A GO of the image reaches nothing of the start-up. -/
theorem State.formatImage_boot (s : State) : s.formatImage.boot = s.boot :=
  (State.formatImage_off (Nat.and_self _) .refl).part .boot (by decide)

theorem State.toPhase4_ended (s : State) : s.toPhase4.boot.ended = s.boot.ended := by
  rw [State.toPhase4, State.formatImage_boot]
  rfl

theorem State.loadAbort_aborted (s : State) : s.loadAbort.rd BOOT_STAT_ABORTED 0 = 1 := by
  have hm := Nat.and_self (F.State.raise ||| F.State.stand)
  have hoff : Off (F.State.raise ||| F.State.stand) (s.wr BOOT_STAT_ABORTED 0 1) s.loadAbort :=
    State.stand_off (sb hm (by decide)) (State.raise_off (sb hm (by decide)) .refl ..) ..
  rw [hoff.rd_eq (by decide +kernel)]
  exact State.rd_wr_self _ _ (by decide) (by decide)

theorem State.loadAbort_now (s : State) : s.loadAbort.now = s.now :=
  (State.loadAbort_off (Nat.and_self _) .refl).now_eq (by decide)

/-- A load that is aborted goes on with phase 4. -/
theorem State.loadAbort_toPhase4_reads (s : State) :
    s.loadAbort.toPhase4.rd BOOT_STAT_PHASE 0 = 4 ∧ s.loadAbort.toPhase4.rd BOOT_STAT_ABORTED 0 = 1
      ∧ s.loadAbort.toPhase4.now = s.now := by
  have hoff := s.loadAbort.toPhase4_off_self
  exact ⟨s.loadAbort.toPhase4_phase, (hoff.rd_eq (by decide +kernel)).trans s.loadAbort_aborted,
    (hoff.now_eq (by decide)).trans s.loadAbort_now⟩

theorem execImageWaitTimeout_aborts {s : State} {a : Nat} (hend : s.boot.recEnd = some a) (hwait : s.boot.waiting = true)
    (hfatal : s.boot.fatal = true) :
    ∃ t, exec .imageWaitTimeout s = .next t ∧ t.rd BOOT_STAT_PHASE 0 = 4 ∧ t.rd BOOT_STAT_ABORTED 0 = 1
      ∧ t.now = max s.now a := by
  have hboot : (s.reach a).boot = s.boot := (State.reach_off (Nat.and_self _) .refl a).part .boot (by decide)
  have hrun : s.imgTimeout
      = ((s.reach a).setBoot fun b => { b with recEnd := none, waiting := false }).loadAbort.toPhase4 := by
    simp only [State.imgTimeout, hend, hwait, Bool.not_true, Bool.false_eq_true, if_false]
    exact if_pos ((congrArg BootSt.fatal hboot).trans hfatal)
  obtain ⟨hphase, haborted, hnow⟩ :=
    State.loadAbort_toPhase4_reads ((s.reach a).setBoot fun b => { b with recEnd := none, waiting := false })
  exact ⟨_, congrArg Host.Outcome.next hrun, hphase, haborted, hnow.trans (s.reach_now a)⟩

theorem execImageEnd_ends {s : State} (hready : s.recReady = true) :
    ∃ t, exec .imageEnd s = .next t ∧ t.rd BOOT_STAT_PHASE 0 = 4 ∧ t.boot.ended = true
      ∧ t.rd BOOT_STAT_RECORDS 0 = min (s.rd BOOT_STAT_RECORDS 0 + 1) (2 ^ BOOT_STAT_RECORDS.w - 1) :=
  ⟨_, congrArg Host.Outcome.next (if_pos hready), State.toPhase4_phase _, State.toPhase4_ended _,
    ((State.toPhase4_off_self _).rd_eq (by decide +kernel)).trans s.recBegin_records⟩

/-- Settles O57: a record that may run is counted and acts on the state so begun; phase 4 follows an END and a fatal timeout.
That a late end of a record leaves the clock where it stands is the model's choice (log entry 3). -/
theorem imageRecordsComplete : Obligations.ImageRecordsComplete :=
  ⟨fun _ => execImageNop_counts, fun _ _ _ _ => execImageWrite_writes, fun _ _ _ _ _ _ _ => execImageModify_writes,
   fun _ _ _ _ _ _ _ _ _ => execImageWait_polls, fun _ _ => execImageWaitTimeout_aborts, fun _ _ => execImageDelay_starts,
   fun _ _ => execImageDelayEnd_ends, fun _ _ _ _ _ _ _ _ => execImageSkip_skips, fun _ => execImageCalibrate_calibrates,
   fun _ => execImageEnd_ends⟩

end Sys2Proof.Machine

/-! PROOF. One-time memory, host access to the settings memory, the supply monitor and GPIO (spec/17_startup_and_settings.md R463,
R465; spec/19_electrical_and_package.md R487, R503). -/
namespace Sys2Proof.Machine
open Sys2Proof
set_option Elab.async false

/-! ### One-time memory (R463) -/

theorem execOtpProgram_starts {s : State} {v : Word} {n : Nat} (hdef : s.sys.deferred = []) (hslot : SEC_PROG_SLOT.of v = n)
    (hdark : s.sys.dark = false) (hst : s.devState = stREHEARSAL) (hfree : s.slotUsed n = false)
    (hkey : n = 2 → s.slotUsed 1 = true) (hconfirm : SEC_PROG_CONFIRM.of v = 0xC5) (hidle : s.boot.prog = none) :
    ∃ t, exec (.otpProgram v) s = .next t ∧ t.boot.prog = some n ∧ t.rd SEC_STAT_BUSY 0 = 1 ∧ t.rd SEC_STAT_RESULT 0 = 0 := by
  have hprog : s.writeSecProg v
      = ((s.wr SEC_STAT_BUSY 0 1).wr SEC_STAT_RESULT 0 0).setBoot fun b => { b with prog := some n } := by
    simp only [State.writeSecProg, hslot]
    refine if_neg ?_
    simpa [hdark, hst, hfree, hconfirm, hidle] using hkey
  refine ⟨_, rfl, ?_⟩
  rw [State.byHost_of_none hdef, hprog]
  refine ⟨rfl, (State.rd_wr_ne (s := s.wr SEC_STAT_BUSY 0 1) (f := SEC_STAT_RESULT) (i := 0) 0 (by decide)).trans ?_,
    State.rd_wr_self (f := SEC_STAT_RESULT) _ _ (by decide) (by decide)⟩
  exact State.rd_wr_self _ _ (by decide) (by decide)

/-- The key of slot 0 as it is programmed. -/
def State.keyProgrammed (s : State) : State :=
  (((s.setBoot fun b => { b with prog := none, otp0 := some s.stagedKey }).wr SEC_STAT_CHAIN_KEY 0 1).wr SEC_STAT_BUSY 0 0).wr
    SEC_STAT_RESULT 0 1

/-- What the end of a programming reaches once its outcome is shown: the key words and the record. -/
def F.progDoneTail : Nat := F.State.journalInt ||| 1 <<< 365

theorem State.progDone_off_programmed {s : State} (hprog : s.boot.prog = some 0) :
    Off F.progDoneTail s.keyProgrammed (s.progDone true) := by
  have hm := Nat.and_self F.progDoneTail
  simp only [State.progDone, hprog]
  exact State.journalInt_off (sb hm (by decide)) (.foldl .refl (fun _ h _ => .wr h (has_SEC_KEY (by decide)) ..) _) ..

theorem execOtpProgramDone_programs {s : State} (hprog : s.boot.prog = some 0) :
    ∃ t, exec (.otpProgramDone true) s = .next t ∧ t.boot.otp0 = some s.stagedKey ∧ t.boot.prog = none
      ∧ t.rd SEC_STAT_CHAIN_KEY 0 = 1 ∧ t.rd SEC_STAT_BUSY 0 = 0 ∧ t.rd SEC_STAT_RESULT 0 = 1 := by
  have h := State.progDone_off_programmed hprog
  have hboot : (s.progDone true).boot = s.keyProgrammed.boot := h.part .boot (by decide)
  refine ⟨_, rfl, congrArg BootSt.otp0 hboot, congrArg BootSt.prog hboot, ?_, ?_, ?_⟩
  · rw [h.rd_eq (by decide +kernel)]
    exact (State.rd_wr_ne _ _ (by decide)).trans
      ((State.rd_wr_ne _ _ (by decide)).trans (State.rd_wr_self _ _ (by decide) (by decide)))
  · rw [h.rd_eq (by decide +kernel)]
    exact (State.rd_wr_ne _ _ (by decide)).trans (State.rd_wr_self _ _ (by decide) (by decide))
  · rw [h.rd_eq (by decide +kernel)]
    exact State.rd_wr_self _ _ (by decide) (by decide)

/-! ### Host access to the settings memory (R465) -/

/-- A command is sent with the fields of SMEM_CMD. -/
def State.smemSend (s : State) : State :=
  let t := ((s.wr SMEM_CMD_STAT_BUSY 0 1).wr SMEM_CMD_STAT_DONE 0 0).wr SMEM_CMD_STAT_RESULT 0 0
  { t with smem := { run := some ⟨t.on SMEM_CMD_WRITE 0, t.on SMEM_CMD_POLL 0, t.rd SMEM_LEN 0⟩ } }

theorem State.smemSend_rd_ne (s : State) {g : Fld} (hbusy : SMEM_CMD_STAT_BUSY.key 0 ≠ g.key 0)
    (hdone : SMEM_CMD_STAT_DONE.key 0 ≠ g.key 0) (hres : SMEM_CMD_STAT_RESULT.key 0 ≠ g.key 0) :
    s.smemSend.rd g 0 = s.rd g 0 :=
  (State.rd_wr_ne _ _ hres).trans ((State.rd_wr_ne _ _ hdone).trans (State.rd_wr_ne _ _ hbusy))

theorem State.smemSend_stat (s : State) : s.smemSend.rd SMEM_CMD_STAT_BUSY 0 = 1 ∧ s.smemSend.rd SMEM_CMD_STAT_DONE 0 = 0
    ∧ s.smemSend.rd SMEM_CMD_STAT_RESULT 0 = 0 := by
  let t := ((s.wr SMEM_CMD_STAT_BUSY 0 1).wr SMEM_CMD_STAT_DONE 0 0).wr SMEM_CMD_STAT_RESULT 0 0
  change t.rd SMEM_CMD_STAT_BUSY 0 = 1 ∧ t.rd SMEM_CMD_STAT_DONE 0 = 0 ∧ t.rd SMEM_CMD_STAT_RESULT 0 = 0
  simp (disch := decide) only [t, State.rd_wr_ne, State.rd_wr_self]
  exact ⟨rfl, rfl, rfl⟩

/-- The write of SMEM_CMD reaches its own fields alone. -/
theorem State.rd_wrWord_smemFlds_ne (s : State) (v : Word) {g : Fld} (h : ∀ f ∈ smemFlds, f.key 0 ≠ g.key 0) :
    (s.wrWord smemFlds 0 v).rd g 0 = s.rd g 0 := State.rd_wrWord_ne s h

theorem State.writeSmemCmd_sends {s : State} {v : Word} (hgo : v.getLsbD 31 = true) (hrun : s.smem.run = none)
    (hdark : s.sys.dark = false) (hlen : s.rd SMEM_LEN 0 ≤ 256) (hlock : s.rd SMEM_CFG_LOCK 0 = 0)
    (hwren : SMEM_CMD_WREN.of v = 0) : s.writeSmemCmd v = (s.wrWord smemFlds 0 v).smemSend := by
  have hbusy : ((s.wrWord smemFlds 0 v).smem.run.isSome || (s.wrWord smemFlds 0 v).sys.dark
      || decide (256 < (s.wrWord smemFlds 0 v).rd SMEM_LEN 0)) = false := by
    have hidle : (s.wrWord smemFlds 0 v).smem.run = none := hrun
    have hlit : (s.wrWord smemFlds 0 v).sys.dark = false := hdark
    rw [hidle, hlit, State.rd_wrWord_smemFlds_ne s v (by decide), decide_eq_false (Nat.not_lt.2 hlen)]
    rfl
  have hfree : (s.wrWord smemFlds 0 v).smemLocked = false := by
    simp only [State.smemLocked, State.on, State.rd_wrWord_smemFlds_ne s v (g := SMEM_CFG_LOCK) (by decide), hlock, bne_self_eq_false,
      Bool.false_and]
  have hplain : (s.wrWord smemFlds 0 v).smemSend.rd SMEM_CMD_WREN 0 = 0 := by
    rw [State.smemSend_rd_ne _ (by decide) (by decide) (by decide)]
    exact (State.rd_wrWord_self s (.head _) (by decide) (by decide) (by decide)).trans hwren
  have hjournal : (s.wrWord smemFlds 0 v).smemSend.on SMEM_CMD_WREN 0 = false := by
    rw [State.on, hplain]
    rfl
  simp only [State.writeSmemCmd, hgo, hbusy, hfree, Bool.not_true, Bool.false_eq_true, if_false]
  exact if_neg (Bool.eq_false_iff.1 hjournal)

theorem execSmemCommandGo_sends {s : State} {v : Word} (hdef : s.sys.deferred = []) (hrun : s.smem.run = none)
    (hdark : s.sys.dark = false) (hlen : s.rd SMEM_LEN 0 ≤ 256) (hlock : s.rd SMEM_CFG_LOCK 0 = 0)
    (hwren : SMEM_CMD_WREN.of v = 0) :
    ∃ t, exec (.smemCommandGo v) s = .next t ∧ t.rd SMEM_CMD_STAT_BUSY 0 = 1 ∧ t.rd SMEM_CMD_STAT_DONE 0 = 0
      ∧ t.rd SMEM_CMD_STAT_RESULT 0 = 0 ∧ t.rd SMEM_CMD_OPCODE 0 = SMEM_CMD_OPCODE.of v
      ∧ (t.smem.run.map fun r => r.len) = some (s.rd SMEM_LEN 0) := by
  have hgo : (v ||| 0x80000000#32).getLsbD 31 = true := getLsbD_or_en v
  have hwren' : SMEM_CMD_WREN.of (v ||| 0x80000000#32) = 0 := (Fld.of_or_of_zero v (by decide)).trans hwren
  have hop : (s.wrWord smemFlds 0 (v ||| 0x80000000#32)).rd SMEM_CMD_OPCODE 0 = SMEM_CMD_OPCODE.of (v ||| 0x80000000#32) :=
    State.rd_wrWord_self s (by simp [smemFlds]) (by decide) (by decide) (by decide)
  refine ⟨_, rfl, ?_⟩
  rw [State.byHost_of_none hdef, State.writeSmemCmd_sends hgo hrun hdark hlen hlock hwren']
  obtain ⟨hbusy, hdone, hres⟩ := (s.wrWord smemFlds 0 (v ||| 0x80000000#32)).smemSend_stat
  refine ⟨hbusy, hdone, hres, ?_, congrArg some ?_⟩
  · rw [State.smemSend_rd_ne _ (by decide) (by decide) (by decide), hop, Fld.of_or_of_zero v (by decide)]
  · exact (State.smemSend_rd_ne _ (by decide) (by decide) (by decide)).trans (State.rd_wrWord_smemFlds_ne s _ (by decide))

theorem State.smemDone_of_run {s : State} {c : SmemCmd} (bs : List Byte) (hrun : s.smem.run = some c) :
    ∃ u : State, u.smem = {} ∧ s.smemDone bs false
      = (((u.wr SMEM_CMD_STAT_BUSY 0 0).wr SMEM_CMD_STAT_DONE 0 1).wr SMEM_CMD_STAT_RESULT 0 0).int pgSMEM 0 := by
  simp only [State.smemDone, hrun, Bool.false_and, Bool.false_eq_true, if_false]
  refine ⟨_, ?_, rfl⟩
  split
  · rfl
  · refine (foldl_keeps State.smem ?_ _).trans rfl
    exact fun _ _ _ => rfl

theorem execSmemCommandDone_ends {s : State} {bs : List Byte} {c : SmemCmd} (hrun : s.smem.run = some c) :
    ∃ t, exec (.smemCommandDone bs false) s = .next t ∧ t.smem.run = none ∧ t.rd SMEM_CMD_STAT_BUSY 0 = 0
      ∧ t.rd SMEM_CMD_STAT_DONE 0 = 1 ∧ t.rd SMEM_CMD_STAT_RESULT 0 = 0 := by
  obtain ⟨u, hsmem, hdone⟩ := State.smemDone_of_run bs hrun
  refine ⟨_, congrArg Host.Outcome.next hdone, congrArg SmemSt.run hsmem, ?_⟩
  have hint (x : State) (g : Fld) (h : PG_INT_STAT.key pgSMEM ≠ g.key 0) : (x.int pgSMEM 0).rd g 0 = x.rd g 0 :=
    State.rd_wr_ne _ _ h
  simp (disch := decide) only [hint, State.rd_wr_ne, State.rd_wr_self]
  exact ⟨rfl, rfl, rfl⟩

/-! ### The supply monitor (R487) -/

/-- A rail's alarm as its level, its sticky bit and the count show it. -/
def State.alarmShown (s : State) (now sticky : Fld) (r : Nat) : State :=
  ((s.putBit now 0 r true).putBit sticky 0 r true).satInc SYS_SUPPLY_CNT 0

/-- What an alarm reaches once it is shown. -/
def F.alarmTail : Nat := F.State.raise ||| F.State.stand ||| F.State.pfail

theorem State.supplyUnder_off_shown {s : State} {r : Nat} (hnow : s.tst SYS_SUPPLY_UNDER_NOW 0 r = false) :
    Off F.alarmTail (s.alarmShown SYS_SUPPLY_UNDER_NOW SYS_SUPPLY_UNDER_STICKY r) (s.supplyUnder r) := by
  have hm := Nat.and_self F.alarmTail
  rw [State.supplyUnder, if_neg (Bool.eq_false_iff.1 hnow)]
  exact State.pfail_off (sb hm (by decide)) (State.stand_off (sb hm (by decide))
    (State.raise_off (sb hm (by decide)) .refl ..) ..) ..

theorem State.supplyOver_eq {s : State} {r : Nat} (hnow : s.tst SYS_SUPPLY_OVER_NOW 0 r = false) :
    s.supplyOver r = ((s.alarmShown SYS_SUPPLY_OVER_NOW SYS_SUPPLY_OVER_STICKY r).raise pgSYS 2 allPorts).stand 54 0 :=
  if_neg (Bool.eq_false_iff.1 hnow)

theorem State.supplyOver_off_shown {s : State} {r : Nat} (hnow : s.tst SYS_SUPPLY_OVER_NOW 0 r = false) :
    Off F.alarmTail (s.alarmShown SYS_SUPPLY_OVER_NOW SYS_SUPPLY_OVER_STICKY r) (s.supplyOver r) := by
  have hm := Nat.and_self F.alarmTail
  rw [State.supplyOver_eq hnow]
  exact State.stand_off (sb hm (by decide)) (State.raise_off (sb hm (by decide)) .refl ..) ..

theorem State.tst_wr_ne {s : State} {f g : Fld} {i j : Nat} (v b : Nat) (h : f.key i ≠ g.key j) :
    (s.wr f i v).tst g j b = s.tst g j b := by
  rw [State.tst, State.rd_wr_ne _ _ h, State.tst]

theorem State.tst_putBit_ne {s : State} {f g : Fld} {i j : Nat} (c b : Nat) (v : Bool) (h : f.key i ≠ g.key j) :
    (s.putBit f i c v).tst g j b = s.tst g j b := by
  unfold State.putBit
  split
  · exact State.tst_wr_ne _ _ h
  · exact State.tst_wr_ne _ _ h

/-- Two fields of seven rails beside the count. -/
theorem State.alarmShown_reads {now sticky : Fld} (s : State) (r : Fin 7) (hnow : now.has 0 = true ∧ now.w = 7)
    (hsticky : sticky.has 0 = true ∧ sticky.w = 7) (hne : sticky.key 0 ≠ now.key 0)
    (hcnt : now.key 0 ≠ SYS_SUPPLY_CNT.key 0 ∧ sticky.key 0 ≠ SYS_SUPPLY_CNT.key 0) :
    (s.alarmShown now sticky r).tst now 0 r = true ∧ (s.alarmShown now sticky r).tst sticky 0 r = true
      ∧ (s.alarmShown now sticky r).rd SYS_SUPPLY_CNT 0 = min (s.rd SYS_SUPPLY_CNT 0 + 1) (2 ^ SYS_SUPPLY_CNT.w - 1) := by
  have hr := r.isLt
  refine ⟨?_, ?_, ?_⟩
  · rw [State.alarmShown, State.satInc, State.satAdd, State.tst_wr_ne _ _ hcnt.1.symm, State.tst_putBit_ne _ _ _ hne,
      State.tst_putBit_self _ hnow.1 (by omega) (by omega)]
  · rw [State.alarmShown, State.satInc, State.satAdd, State.tst_wr_ne _ _ hcnt.2.symm,
      State.tst_putBit_self _ hsticky.1 (by omega) (by omega)]
  · rw [State.alarmShown, State.rd_satInc_self (by decide) (by decide), State.putBit, if_pos rfl, State.orBits,
      State.rd_wr_ne _ _ hcnt.2, State.putBit, if_pos rfl, State.orBits, State.rd_wr_ne _ _ hcnt.1]

theorem execSupplyUnderAlarm_shows {s : State} {r : Fin 7} (hnow : s.tst SYS_SUPPLY_UNDER_NOW 0 r = false) :
    ∃ t, exec (.supplyUnderAlarm r) s = .next t ∧ t.tst SYS_SUPPLY_UNDER_NOW 0 r = true
      ∧ t.tst SYS_SUPPLY_UNDER_STICKY 0 r = true
      ∧ t.rd SYS_SUPPLY_CNT 0 = min (s.rd SYS_SUPPLY_CNT 0 + 1) (2 ^ SYS_SUPPLY_CNT.w - 1) := by
  have h := State.supplyUnder_off_shown hnow
  refine ⟨_, rfl, ?_⟩
  rw [h.tst_eq (by decide +kernel), h.tst_eq (by decide +kernel), h.rd_eq (by decide +kernel)]
  exact s.alarmShown_reads r (by decide) (by decide) (by decide) (by decide)

theorem execSupplyOverAlarm_shows {s : State} {r : Fin 7} (hnow : s.tst SYS_SUPPLY_OVER_NOW 0 r = false) :
    ∃ t, exec (.supplyOverAlarm r) s = .next t ∧ t.tst SYS_SUPPLY_OVER_NOW 0 r = true
      ∧ t.tst SYS_SUPPLY_OVER_STICKY 0 r = true
      ∧ t.rd SYS_SUPPLY_CNT 0 = min (s.rd SYS_SUPPLY_CNT 0 + 1) (2 ^ SYS_SUPPLY_CNT.w - 1) ∧ t.pb.pf = s.pb.pf := by
  have h := State.supplyOver_off_shown hnow
  obtain ⟨hlevel, hsticky, hcnt⟩ := s.alarmShown_reads (now := SYS_SUPPLY_OVER_NOW) (sticky := SYS_SUPPLY_OVER_STICKY) r
    (by decide) (by decide) (by decide) (by decide)
  refine ⟨_, rfl, ?_, ?_, ?_, ?_⟩
  · rw [h.tst_eq (by decide +kernel), hlevel]
  · rw [h.tst_eq (by decide +kernel), hsticky]
  · rw [h.rd_eq (by decide +kernel), hcnt]
  · rw [State.supplyOver_eq hnow, State.stand_pb, State.raise_pb]
    rfl

theorem execSupplyAlarmClear_clears (s : State) :
    ∃ t, exec .supplyAlarmClear s = .next t ∧ t.rd SYS_SUPPLY_UNDER_NOW 0 = 0 ∧ t.rd SYS_SUPPLY_OVER_NOW 0 = 0 := by
  have h : Off F.State.resumeRecording ((s.wr SYS_SUPPLY_UNDER_NOW 0 0).wr SYS_SUPPLY_OVER_NOW 0 0) s.supplyClear :=
    State.resumeRecording_off (Nat.and_self _) .refl
  refine ⟨_, rfl, ?_, ?_⟩
  · rw [h.rd_eq (by decide +kernel), State.rd_wr_ne _ _ (by decide)]
    exact State.rd_wr_self _ _ (by decide) (by decide)
  · rw [h.rd_eq (by decide +kernel)]
    exact State.rd_wr_self _ _ (by decide) (by decide)

/-! ### GPIO (R503) -/

/-- The samples of the pins with that of pin `m`. -/
def gpioSample (g : BitVec 16) (m : Nat) (level : Bool) : BitVec 16 :=
  if level then g ||| BitVec.ofNat 16 (2 ^ m) else g &&& ~~~(BitVec.ofNat 16 (2 ^ m))

theorem gpioSample_getLsbD (g : BitVec 16) (m : Fin 16) (level : Bool) : (gpioSample g m level).getLsbD m = level := by
  have hbit : (BitVec.ofNat 16 (2 ^ m.val)).getLsbD m = true := by
    rw [BitVec.getLsbD_ofNat, Nat.testBit_two_pow_self, decide_eq_true m.isLt, Bool.and_self]
  cases level with
  | true => simp only [gpioSample, if_true, BitVec.getLsbD_or, hbit, Bool.or_true]
  | false =>
    simp only [gpioSample, Bool.false_eq_true, if_false, BitVec.getLsbD_and, BitVec.getLsbD_not, hbit, Bool.not_true,
      Bool.and_false]

theorem execGpioEdge_samples {s : State} {m : Fin 16} {level : Bool} (hin : s.tst SYS_GPIO_DIR 0 m = false)
    (hedge : s.pins.gpio.getLsbD m = !level) :
    ∃ t, exec (.gpioEdge m level) s = .next t ∧ t.pins.gpio.getLsbD m = level
      ∧ t.tst (if level then SYS_GPIO_EDGE_RISE else SYS_GPIO_EDGE_FALL) 0 m = true := by
  have hrun : s.gpioEdge m level
      = State.putBit { s with pins := { s.pins with gpio := gpioSample s.pins.gpio m level } }
          (if level then SYS_GPIO_EDGE_RISE else SYS_GPIO_EDGE_FALL) 0 m true :=
    if_neg (by rw [hin, hedge]; cases level <;> decide)
  refine ⟨_, congrArg Host.Outcome.next hrun, gpioSample_getLsbD s.pins.gpio m level, ?_⟩
  have hm : m.val < 16 := m.isLt
  cases level with
  | true => exact State.tst_putBit_self _ (by decide) (by decide) hm
  | false => exact State.tst_putBit_self _ (by decide) (by decide) hm

/-- Settles O58: each command's own writes stand, and the record, the report of a cause and the power failure that follow them
reach none of the fields of a clause. That SEC_STAT shows a slot at the end of its programming (log entry 79), and that a rail's NOW bits
clear at SUPPLY_ALARM_CLEAR alone (log entry 80), is the model's reading. -/
theorem settingsAndSupplyComplete : Obligations.SettingsAndSupplyComplete :=
  ⟨fun _ _ _ => execOtpProgram_starts, fun _ => execOtpProgramDone_programs, fun _ _ => execSmemCommandGo_sends,
   fun _ _ _ => execSmemCommandDone_ends, fun _ _ => execSupplyUnderAlarm_shows, fun _ _ => execSupplyOverAlarm_shows,
   execSupplyAlarmClear_clears, fun _ _ _ => execGpioEdge_samples⟩

end Sys2Proof.Machine

/-! PROOF. The reset kinds and their release (spec/14_cascade_ring.md R396; spec/17_startup_and_settings.md R442, R443). -/
namespace Sys2Proof.Machine
open Sys2Proof
set_option Elab.async false

/-! ### What a reset leaves (R443) -/

/-- The blocks are in the reset `k`, and the device is in DARK. -/
def State.InReset (t : State) (k : ResetKind) : Prop :=
  t.boot.inReset = some k ∧ t.sys = {} ∧ t.lanes = [] ∧ t.cnx = {} ∧ t.rd BOOT_STAT_KIND 0 = k.code

theorem State.resetGo_inReset (s : State) (k : ResetKind) (kept : Nat) :
    (s.resetGo k kept).InReset (k.over s.boot.inReset) := by
  have hcode (j : ResetKind) : j.code % 2 ^ BOOT_STAT_KIND.w = j.code := by cases j <;> rfl
  exact ⟨rfl, rfl, rfl, rfl, (State.rd_wr_self _ _ (by decide) (by decide)).trans (hcode _)⟩

/-- No reset is in force, so that the request's own kind is. -/
theorem State.resetGo_inReset_of_none {s : State} {k : ResetKind} (hnone : s.boot.inReset = none) (kept : Nat) :
    (s.resetGo k kept).InReset k := by
  have h := s.resetGo_inReset k kept
  rwa [hnone] at h

/-- A power-on reset takes the place of any other. -/
theorem ResetKind.over_powerOn (j : Option ResetKind) : ResetKind.powerOn.over j = .powerOn := by
  cases j with
  | none => rfl
  | some j => cases j <;> rfl

theorem execPowerOnReset_resets (s : State) (kept : Nat) :
    ∃ t, exec (.powerOnReset kept) s = .next t ∧ t.InReset .powerOn :=
  ⟨_, rfl, by simpa only [ResetKind.over_powerOn] using s.resetGo_inReset .powerOn kept⟩

theorem execPinReset_resets {s : State} (hnone : s.boot.inReset = none) : ∃ t, exec .pinReset s = .next t ∧ t.InReset .pin :=
  ⟨_, rfl, State.resetGo_inReset_of_none hnone 0⟩

theorem execHostReset_resets {s : State} (hnone : s.boot.inReset = none) : ∃ t, exec .hostReset s = .next t ∧ t.InReset .host :=
  ⟨_, rfl, State.resetGo_inReset_of_none hnone 0⟩

theorem execRingResetFrame_resets {s : State} {p : Bool} (hnone : s.boot.inReset = none) :
    ∃ t, exec (.ringResetFrame p) s = .next t ∧ t.InReset .ring :=
  ⟨_, rfl, State.resetGo_inReset_of_none (s := s.took p.toNat 0) hnone 0⟩

/-! ### A write of BOOT_RESET (R442) -/

/-- The key is left of a value whose lowest bits are a kind. -/
theorem BOOT_RESET_KEY_of_kind {v m : Word} (hm : BOOT_RESET_KEY.of m = 0) (hkey : BOOT_RESET_KEY.of v = 0x5A) :
    BOOT_RESET_KEY.of ((v &&& 0xFFFFFFF8#32) ||| m) = 0x5A := by
  rw [Fld.of_or_of_zero _ hm, Fld.of_and, hkey]
  decide

theorem BOOT_RESET_KIND_of_kind (v m : Word) : BOOT_RESET_KIND.of ((v &&& 0xFFFFFFF8#32) ||| m) = BOOT_RESET_KIND.of m := by
  rw [Fld.of_or, Fld.of_and_of_zero v (by decide), Nat.zero_or]

theorem execBootResetHost_resets {s : State} {v : Word} (hdef : s.sys.deferred = []) (hkey : BOOT_RESET_KEY.of v = 0x5A)
    (hnone : s.boot.inReset = none) : ∃ t, exec (.bootResetHost v) s = .next t ∧ t.InReset .host := by
  have hwrite : s.writeBootReset ((v &&& 0xFFFFFFF8#32) ||| 2#32) = s.resetGo .host 0 := by
    rw [State.writeBootReset, BOOT_RESET_KEY_of_kind (by decide) hkey, BOOT_RESET_KIND_of_kind]
    rfl
  refine ⟨_, rfl, ?_⟩
  rw [State.byHost_of_none hdef, hwrite]
  exact State.resetGo_inReset_of_none hnone 0

theorem execBootResetFabric_resets {s : State} {v : Word} (hdef : s.sys.deferred = []) (hkey : BOOT_RESET_KEY.of v = 0x5A)
    (hnone : s.boot.inReset = none) : ∃ t, exec (.bootResetFabric v) s = .next t ∧ t.InReset .fabric := by
  have hwrite : s.writeBootReset ((v &&& 0xFFFFFFF8#32) ||| 4#32) = s.resetGo .fabric 0 := by
    rw [State.writeBootReset, BOOT_RESET_KEY_of_kind (by decide) hkey, BOOT_RESET_KIND_of_kind]
    rfl
  refine ⟨_, rfl, ?_⟩
  rw [State.byHost_of_none hdef, hwrite]
  exact State.resetGo_inReset_of_none hnone 0

/-! ### The release (R443, R447) -/

/-- Start-up begins at phase 0 and tick 0. -/
theorem execResetRelease_of_full {s : State} {k : ResetKind} (hreset : s.boot.inReset = some k) (hfull : k.full = true) :
    ∃ t, exec .resetRelease s = .next t ∧ t.boot.inReset = none ∧ t.now = 0 ∧ t.rd BOOT_STAT_PHASE 0 = 0 ∧ t.boot.t0 = 0 := by
  have hrun : s.resetRelease = ((s.restartClock.setBoot fun b =>
      { b with inReset := none, t0 := s.restartClock.now, slot0 := b.otp0, slot1 := b.otp1, slot2 := b.otp2 }).setThm fun t =>
      { t with lastUsable := s.restartClock.now, stepAt := s.restartClock.now }).wr BOOT_STAT_PHASE 0 0 := by
    simp only [State.resetRelease, hreset, hfull, if_true, Bool.not_true]
    rfl
  exact ⟨_, congrArg Host.Outcome.next hrun, rfl, rfl, State.rd_wr_self _ _ (by decide) (by decide), rfl⟩

/-- Settles O55: every request resets the blocks, by whichever way it comes, and the release ends the reset in force. -/
theorem resetCommandsComplete : Obligations.ResetCommandsComplete :=
  ⟨execPowerOnReset_resets, fun _ => execPinReset_resets, fun _ => execHostReset_resets, fun _ _ => execBootResetHost_resets,
   fun _ _ => execBootResetFabric_resets, fun _ _ => execRingResetFrame_resets, fun _ _ => execResetRelease_of_full⟩

end Sys2Proof.Machine

/-! PROOF. The phases of start-up (spec/17_startup_and_settings.md R447, R448, R453, R457, R459). -/
namespace Sys2Proof.Machine
open Sys2Proof
set_option Elab.async false

/-! ### Phase 0 (R447) -/

/-- The identity and the two-wire address that the straps show. -/
def State.strapped (s : State) (id : Nat) (vtx : Bool) (twt : Nat) : State :=
  ((s.wr SYS_STATE_DEV_ID 0 id).wr SYS_STATE_VERTEX 0 vtx.toNat).wr TWT_CFG_ADDR 0 (0x5C + twt)

/-- What the rest of phase 0 reaches before the phase itself: REF_IN's device and code, the link's width, the supply's level, the
pins, and what a failed REF_IN and an ID conflict reach. -/
def F.phase0Tail : Nat :=
  F.State.strapCheck ||| F.State.refInFail ||| 1 <<< partNo .pins ||| 1 <<< 537 ||| 1 <<< 668 ||| 1 <<< 720 ||| 1 <<< 733

theorem State.phase0Done_of_strapped {s : State} {id : Nat} {vtx : Bool} {twt hm : Nat} {ref : Option Nat} {nvq : Bool}
    (hdark : s.sys.dark = true) (hnone : s.boot.inReset = none) (hphase : s.rd BOOT_STAT_PHASE 0 = 0) :
    ∃ u, Off F.phase0Tail (s.strapped id vtx twt) u ∧ s.phase0Done id vtx twt hm ref nvq = u.wr BOOT_STAT_PHASE 0 1 := by
  have hmask := Nat.and_self F.phase0Tail
  unfold State.phase0Done
  rw [if_neg (by rw [hdark, hnone, hphase]; decide)]
  extract_lets s1 s2 s3 id' s4 s5
  refine ⟨_, State.strapCheck_off (sb hmask (by decide)) ?_, rfl⟩
  have h2 : Off F.phase0Tail s1 s2 := .wr .refl (has_TIME_STAT_REF_DEV (by decide)) ..
  have h3 : Off F.phase0Tail s1 s3 :=
    .wr (.wr h2 (has_HIF_LINK_STRAP_W (by decide)) ..) (has_SYS_SUPPLY_NVQ_1V2 (by decide)) ..
  have h4 : Off F.phase0Tail s1 s4 := .upd h3 (h_pins := .inr (by decide))
  cases ref with
  | some c => exact .wr h4 (has_TIME_STAT_REF_CODE (by decide)) ..
  | none => exact State.refInFail_off (sb hmask (by decide)) h4

theorem execStartupPhase0Done_straps {s : State} {id : Fin 64} {vtx : Bool} {twt hm : Fin 4} {ref : Option (Fin 6)} {nvq : Bool}
    (hdark : s.sys.dark = true) (hnone : s.boot.inReset = none) (hphase : s.rd BOOT_STAT_PHASE 0 = 0) :
    ∃ t, exec (.startupPhase0Done id vtx twt hm ref nvq) s = .next t ∧ t.rd BOOT_STAT_PHASE 0 = 1
      ∧ t.rd SYS_STATE_DEV_ID 0 = id ∧ t.rd SYS_STATE_VERTEX 0 = vtx.toNat ∧ t.rd TWT_CFG_ADDR 0 = 0x5C + twt := by
  obtain ⟨u, hoff, hrun⟩ := State.phase0Done_of_strapped (id := id) (vtx := vtx) (twt := twt) (hm := hm) (ref := ref.map (·.val))
    (nvq := nvq) hdark hnone hphase
  refine ⟨_, congrArg Host.Outcome.next hrun, State.rd_wr_self _ _ (by decide) (by decide), ?_, ?_, ?_⟩
  · rw [State.rd_wr_ne _ _ (by decide), hoff.rd_eq (by decide +kernel), State.strapped]
    simp (disch := decide) only [State.rd_wr_ne, State.rd_wr_self]
    exact Nat.mod_eq_of_lt id.isLt
  · rw [State.rd_wr_ne _ _ (by decide), hoff.rd_eq (by decide +kernel), State.strapped]
    simp (disch := decide) only [State.rd_wr_ne, State.rd_wr_self]
    cases vtx <;> rfl
  · rw [State.rd_wr_ne _ _ (by decide), hoff.rd_eq (by decide +kernel), State.strapped]
    simp (disch := decide) only [State.rd_wr_self]
    exact Nat.mod_eq_of_lt (Nat.lt_trans (Nat.add_lt_add_left twt.isLt _) (by decide))

/-! ### Phases 1 and 2 (R453, R457) -/

/-- The flash answers without a valid SFDP signature. -/
def State.flashFound (s : State) : State :=
  (((((s.wr SMEM_STAT_READY 0 1).wr BOOT_STAT_PHASE 0 2).wr SMEM_STAT_MODE 0 1).wr SMEM_STAT_SIZE_LOG2 0 24).wr SMEM_STAT_ADDR4 0 0).wr
    SMEM_STAT_SFDP_OK 0 0

/-- The report of the missing signature. -/
def State.noSfdp (s : State) : State := (s.raise pgSMEM 2 allPorts).stand 25 2

theorem State.noSfdp_off (s : State) : Off (F.State.raise ||| F.State.stand) s s.noSfdp := by
  have hm := Nat.and_self (F.State.raise ||| F.State.stand)
  exact State.stand_off (sb hm (by decide)) (State.raise_off (sb hm (by decide)) .refl ..) ..

/-- Both headers pass their checks. -/
theorem State.discoveryDone_of_headers {s : State} {ha hb : List Byte} (hdark : s.sys.dark = true) (hnone : s.boot.inReset = none)
    (hphase : s.rd BOOT_STAT_PHASE 0 = 1) (hca : hdrCheck ha 0x800000 s.boot.slot2 = 0)
    (hcb : hdrCheck hb 0x800000 s.boot.slot2 = 0) :
    s.discoveryDone true none ha hb
      = (s.flashFound.noSfdp.setBoot fun b => { b with hdrA := ha, hdrB := hb }).setBoot fun b =>
          { b with cand := if hdrSeq ha < hdrSeq hb then 2 else 1 } := by
  have hsize : s.flashFound.rd SMEM_STAT_SIZE_LOG2 0 = 24 := by
    rw [State.flashFound]
    simp (disch := decide) only [State.rd_wr_ne, State.rd_wr_self]
    rfl
  have hhalf : (s.flashFound.noSfdp.setBoot fun b => { b with hdrA := ha, hdrB := hb }).flashHalf = 0x800000 := by
    have hsame : (s.flashFound.noSfdp.setBoot fun b => { b with hdrA := ha, hdrB := hb }).rd SMEM_STAT_SIZE_LOG2 0 = 24 :=
      (s.flashFound.noSfdp_off.rd_eq (by decide +kernel)).trans hsize
    rw [State.flashHalf, hsame]
    decide
  have hboot : s.flashFound.noSfdp.boot = s.boot := s.flashFound.noSfdp_off.part .boot (by decide)
  have hslot : (s.flashFound.noSfdp.setBoot fun b => { b with hdrA := ha, hdrB := hb }).boot.slot2 = s.boot.slot2 :=
    (congrArg BootSt.slot2 hboot : s.flashFound.noSfdp.boot.slot2 = s.boot.slot2)
  unfold State.discoveryDone
  rw [if_neg (by rw [hdark, hnone, hphase]; decide)]
  extract_lets s1 s2 s3 ca cb s4 s5
  have hca' : ca = 0 := by rw [← hca, ← hhalf, ← hslot]; rfl
  have hcb' : cb = 0 := by rw [← hcb, ← hhalf, ← hslot]; rfl
  simp only [s5, s4, hca', hcb', ne_eq, not_true_eq_false, false_and, Bool.not_true, Bool.false_eq_true, if_false, bne_self_eq_false,
    State.cond, s3, s2, s1]
  rfl

theorem execSmemDiscoveryDone_selects {s : State} {ha hb : List Byte} (hdark : s.sys.dark = true) (hnone : s.boot.inReset = none)
    (hphase : s.rd BOOT_STAT_PHASE 0 = 1) (hca : hdrCheck ha 0x800000 s.boot.slot2 = 0)
    (hcb : hdrCheck hb 0x800000 s.boot.slot2 = 0) :
    ∃ t, exec (.smemDiscoveryDone true none ha hb) s = .next t ∧ t.rd BOOT_STAT_PHASE 0 = 2 ∧ t.rd SMEM_STAT_READY 0 = 1
      ∧ t.rd SMEM_STAT_MODE 0 = 1 ∧ t.rd SMEM_STAT_SIZE_LOG2 0 = 24
      ∧ t.boot.cand = if hdrSeq ha < hdrSeq hb then 2 else 1 := by
  have h := s.flashFound.noSfdp_off
  have hfound : s.flashFound.rd BOOT_STAT_PHASE 0 = 2 ∧ s.flashFound.rd SMEM_STAT_READY 0 = 1
      ∧ s.flashFound.rd SMEM_STAT_MODE 0 = 1 ∧ s.flashFound.rd SMEM_STAT_SIZE_LOG2 0 = 24 := by
    rw [State.flashFound]
    simp (disch := decide) only [State.rd_wr_ne, State.rd_wr_self]
    exact ⟨rfl, rfl, rfl, rfl⟩
  obtain ⟨hphase2, hready, hmode, hsize⟩ := hfound
  exact ⟨_, congrArg Host.Outcome.next (State.discoveryDone_of_headers hdark hnone hphase hca hcb),
    (h.rd_eq (by decide +kernel)).trans hphase2, (h.rd_eq (by decide +kernel)).trans hready,
    (h.rd_eq (by decide +kernel)).trans hmode, (h.rd_eq (by decide +kernel)).trans hsize, rfl⟩

/-- A copy has been checked, with its outcome. -/
def State.copyMarked (s : State) (c : Nat) (ok : Bool) : State :=
  (s.setBoot fun b => if c = 1 then { b with doneA := true } else { b with doneB := true }).wr
    (if c = 1 then BOOT_STAT_A_VALID else BOOT_STAT_B_VALID) 0 ok.toNat

theorem State.setCopyDone_off_marked (s : State) (c : Nat) (ok : Bool) :
    Off (1 <<< 542) (s.copyMarked c ok) (s.setCopyDone c ok) :=
  State.cond_off .refl (fun _ h => .wr h (has_BOOT_STAT_CHECKED (by decide)) ..) _

theorem State.setCopyDone_boot (s : State) (c : Nat) (ok : Bool) : (s.setCopyDone c ok).boot = (s.copyMarked c ok).boot :=
  (s.setCopyDone_off_marked c ok).part .boot (by decide)

theorem State.setCopyDone_A_VALID (s : State) : (s.setCopyDone 1 true).rd BOOT_STAT_A_VALID 0 = 1 :=
  ((s.setCopyDone_off_marked 1 true).rd_eq (by decide +kernel)).trans (State.rd_wr_self _ _ (by decide) (by decide))

theorem State.setCopyDone_B_VALID (s : State) : (s.setCopyDone 2 true).rd BOOT_STAT_B_VALID 0 = 1 :=
  ((s.setCopyDone_off_marked 2 true).rd_eq (by decide +kernel)).trans (State.rd_wr_self _ _ (by decide) (by decide))

/-- Both copies have been checked. -/
theorem State.setCopyDone_CHECKED {s : State} (hA : s.boot.doneA = true) : (s.setCopyDone 2 true).rd BOOT_STAT_CHECKED 0 = 1 := by
  have hboth : ((s.copyMarked 2 true).boot.doneA && (s.copyMarked 2 true).boot.doneB) = true := by
    have hkept : (s.copyMarked 2 true).boot.doneA = true := hA
    rw [hkept]
    rfl
  have hrun : s.setCopyDone 2 true = (s.copyMarked 2 true).wr BOOT_STAT_CHECKED 0 1 := if_pos hboth
  rw [hrun]
  exact State.rd_wr_self _ _ (by decide) (by decide)

/-- What a copy's load writes to the registers. -/
def State.copyShown (s : State) (c : Nat) : State :=
  (((s.wr BOOT_STAT_COPY 0 c).wr BOOT_SEQ 0 (hdrSeq (s.hdr c))).wr BOOT_STAT_AUTH 0
    (hdrHmac (s.hdr c) && s.boot.slot1.isSome).toNat).wr BOOT_STAT_PHASE 0 3

theorem State.loadCopy_of_shown (s : State) (c : Nat) :
    ∃ f : BootSt → BootSt, s.loadCopy c = (s.copyShown c).setBoot f ∧ ∀ b, (f b).cand = 0 ∧ (f b).doneA = b.doneA := by
  unfold State.loadCopy State.copyShown
  exact ⟨_, rfl, fun _ => ⟨rfl, rfl⟩⟩

theorem State.copyShown_boot (s : State) (c : Nat) : (s.copyShown c).boot = s.boot := rfl

theorem State.copyShown_reads (s : State) (c : Nat) :
    (s.copyShown c).rd BOOT_STAT_PHASE 0 = 3 ∧ (s.copyShown c).rd BOOT_STAT_COPY 0 = c % 2 ^ BOOT_STAT_COPY.w
      ∧ (s.copyShown c).rd BOOT_STAT_A_VALID 0 = s.rd BOOT_STAT_A_VALID 0 := by
  unfold State.copyShown
  simp (disch := decide) only [State.rd_wr_ne, State.rd_wr_self, and_true]
  decide

/-- The first copy is the candidate and passes its checks. -/
theorem State.copyChecked_of_passes {s : State} {blocks : List (List Word)} {tag : List Byte} {x : Nat}
    (hphase : s.rd BOOT_STAT_PHASE 0 = 2) (hcand : s.boot.cand = 1)
    (hpass : copyCheck s.boot.hdrA blocks tag s.boot.slot1 = (0, x)) :
    ∃ d, s.copyChecked blocks tag = ((s.wr SMEM_STAT_DIV 0 d).setCopyDone 1 true).loadCopy 1 := by
  unfold State.copyChecked
  rw [if_neg (by rw [hphase, hcand]; decide), hcand]
  extract_lets d s1 r
  have hr : r.1 = 0 := by
    have hhdr : s1.hdr 1 = s.boot.hdrA := if_pos rfl
    have hslot : s1.boot.slot1 = s.boot.slot1 := rfl
    rw [show r = copyCheck (s1.hdr 1) blocks tag s1.boot.slot1 from rfl, hhdr, hslot, hpass]
  rw [if_pos hr]
  exact ⟨_, rfl⟩

theorem execImageCopyChecked_loads {s : State} {blocks : List (List Word)} {tag : List Byte} {x : Nat}
    (hphase : s.rd BOOT_STAT_PHASE 0 = 2) (hcand : s.boot.cand = 1)
    (hpass : copyCheck s.boot.hdrA blocks tag s.boot.slot1 = (0, x)) :
    ∃ t, exec (.imageCopyChecked blocks tag) s = .next t ∧ t.rd BOOT_STAT_PHASE 0 = 3 ∧ t.rd BOOT_STAT_COPY 0 = 1
      ∧ t.boot.cand = 0 ∧ t.boot.doneA = true ∧ t.rd BOOT_STAT_A_VALID 0 = 1 := by
  obtain ⟨d, hrun⟩ := State.copyChecked_of_passes hphase hcand hpass
  obtain ⟨f, hload, hf⟩ := ((s.wr SMEM_STAT_DIV 0 d).setCopyDone 1 true).loadCopy_of_shown 1
  obtain ⟨hphase3, hcopy, hvalid⟩ := ((s.wr SMEM_STAT_DIV 0 d).setCopyDone 1 true).copyShown_reads 1
  have hdone : ((s.wr SMEM_STAT_DIV 0 d).setCopyDone 1 true).boot.doneA = true := by
    rw [State.setCopyDone_boot]
    rfl
  refine ⟨_, congrArg Host.Outcome.next (hrun.trans hload), ?_, ?_, (hf _).1, ?_, ?_⟩
  · rw [State.setBoot_rd, hphase3]
  · rw [State.setBoot_rd, hcopy]
    decide
  · exact (hf ((s.wr SMEM_STAT_DIV 0 d).setCopyDone 1 true).boot).2.trans hdone
  · rw [State.setBoot_rd, hvalid]
    exact State.setCopyDone_A_VALID _

/-- The second copy is not checked yet. -/
theorem State.backgroundCheck_of_passes {s : State} {blocks : List (List Word)} {tag : List Byte} {x : Nat}
    (hdark : s.sys.dark = false) (hA : s.boot.doneA = true) (hB : s.boot.doneB = false) (hhdr : s.boot.hdrB ≠ [])
    (hpass : copyCheck s.boot.hdrB blocks tag s.boot.slot1 = (0, x)) :
    s.backgroundCheck blocks tag = (s.setCopyDone 2 true).int pgBOOT 2 := by
  have hempty : s.boot.hdrB.isEmpty = false := by simpa using hhdr
  have hhdr2 : s.hdr 2 = s.boot.hdrB := rfl
  simp only [State.backgroundCheck, hA, hB, hdark, Bool.not_true, Bool.false_eq_true, if_false, hhdr2, hempty, hpass, Bool.and_false,
    Bool.or_false, if_true]

theorem execBackgroundCopyCheck_checks {s : State} {blocks : List (List Word)} {tag : List Byte} {x : Nat}
    (hdark : s.sys.dark = false) (hA : s.boot.doneA = true) (hB : s.boot.doneB = false) (hhdr : s.boot.hdrB ≠ [])
    (hpass : copyCheck s.boot.hdrB blocks tag s.boot.slot1 = (0, x)) :
    ∃ t, exec (.backgroundCopyCheck blocks tag) s = .next t ∧ t.boot.doneB = true ∧ t.rd BOOT_STAT_B_VALID 0 = 1
      ∧ t.rd BOOT_STAT_CHECKED 0 = 1 ∧ t.tst PG_INT_STAT pgBOOT 2 = true := by
  have hrun := State.backgroundCheck_of_passes hdark hA hB hhdr hpass
  have hdone : (s.setCopyDone 2 true).boot.doneB = true := by
    rw [State.setCopyDone_boot]
    rfl
  refine ⟨_, congrArg Host.Outcome.next hrun, hdone, ?_, ?_, State.int_tst _ (by decide) (by decide)⟩
  · exact (State.rd_wr_ne _ _ (by decide)).trans s.setCopyDone_B_VALID
  · exact (State.rd_wr_ne _ _ (by decide)).trans (State.setCopyDone_CHECKED hA)

/-! ### Phases 3 to 5 (R447, R448, R459) -/

theorem execLoadLimitExpiry_aborts {s : State} (hdark : s.sys.dark = true) (hnone : s.boot.inReset = none)
    (hphase : s.rd BOOT_STAT_PHASE 0 = 3) :
    ∃ t, exec .loadLimitExpiry s = .next t ∧ t.rd BOOT_STAT_PHASE 0 = 4 ∧ t.rd BOOT_STAT_ABORTED 0 = 1
      ∧ t.now = max s.now (s.boot.t0 + msT s.boot.limit) := by
  have hrun : s.loadLimit = (s.reach (s.boot.t0 + msT s.boot.limit)).loadAbort.toPhase4 := by
    unfold State.loadLimit
    rw [hphase, if_neg (by rw [hdark, hnone]; decide), if_neg (by decide)]
  obtain ⟨hphase4, haborted, hnow⟩ := State.loadAbort_toPhase4_reads (s.reach (s.boot.t0 + msT s.boot.limit))
  exact ⟨_, congrArg Host.Outcome.next hrun, hphase4, haborted, hnow.trans (s.reach_now _)⟩

theorem execStartupCalibration_starts {s : State} (hdark : s.sys.dark = true) (hphase : s.rd BOOT_STAT_PHASE 0 = 4)
    (hfirst : s.boot.phase4 = false) :
    ∃ t, exec .startupCalibration s = .next t ∧ t.boot.phase4 = true ∧ t.rd BOOT_STAT_PHASE 0 = 4 := by
  have hrun : s.startCal = (if s.boot.calibrated then s else s.startBoth).setBoot fun b => { b with phase4 := true } :=
    if_neg (by rw [hdark, hphase, hfirst]; decide)
  have hoff : Off F.State.startBoth s (if s.boot.calibrated then s else s.startBoth) :=
    .ite .refl (State.startBoth_off (Nat.and_self _) .refl)
  exact ⟨_, congrArg Host.Outcome.next hrun, rfl, (hoff.rd_eq (by decide +kernel)).trans hphase⟩

/-- The record of the start-up, and its interrupt. -/
def State.startUpRecorded (s : State) (ticks payload : Nat) : State :=
  (((s.wr BOOT_STAT_PHASE 0 5).wr BOOT_TIME 0 ticks).journal pgBOOT 0x0B00 sevNOTE payload).int pgBOOT 0

/-- DARK ends. -/
def State.lit (s : State) : State := s.setSys fun x => { x with dark := false }

/-- REHEARSAL begins, and with it the wait of the collector for it. -/
def State.rehearsalBegun (s : State) : State := (s.setDevState stREHEARSAL).setFc fun f => { f with seenRehearsal := true }

/-- An autonomous START is held pending (R461). -/
def State.autoStart (s : State) : State := s.cond s.autonomous fun s => s.wr SYS_STATE_PENDING 0 cmdSTART

theorem State.rehearse_of_settled {s : State} (hdark : s.sys.dark = true) (hphase : s.rd BOOT_STAT_PHASE 0 = 4)
    (hcal : s.boot.phase4 = true) (hsettled : s.synSettled = true) :
    ∃ ticks payload, s.rehearse = (s.startUpRecorded ticks payload).lit.rehearsalBegun.autoStart := by
  unfold State.rehearse
  rw [if_neg (by rw [hdark, hphase, hcal, hsettled, Bool.true_or]; decide)]
  exact ⟨_, _, rfl⟩

theorem State.startUpRecorded_phase (s : State) (ticks payload : Nat) :
    (s.startUpRecorded ticks payload).rd BOOT_STAT_PHASE 0 = 5 := by
  have hm := Nat.and_self (F.State.journal ||| F.State.int)
  have hoff : Off (F.State.journal ||| F.State.int) ((s.wr BOOT_STAT_PHASE 0 5).wr BOOT_TIME 0 ticks)
      (s.startUpRecorded ticks payload) :=
    State.int_off (sb hm (by decide)) (State.journal_off (sb hm (by decide)) .refl ..) ..
  rw [hoff.rd_eq (by decide +kernel), State.rd_wr_ne _ _ (by decide)]
  exact State.rd_wr_self _ _ (by decide) (by decide)

theorem State.rehearsalBegun_off (s : State) : Off (F.State.setDevState ||| F.State.setFc) s s.rehearsalBegun := by
  have hm := Nat.and_self (F.State.setDevState ||| F.State.setFc)
  exact State.setFc_off (sb hm (by decide)) (State.setDevState_off (sb hm (by decide)) .refl ..) ..

theorem State.rehearsalBegun_devState (s : State) : s.rehearsalBegun.rd SYS_STATE_DEV_STATE 0 = stREHEARSAL := by
  rw [State.rehearsalBegun, State.setFc_rd]
  exact s.setDevState_devState stREHEARSAL

theorem State.autoStart_off (s : State) : Off (1 <<< 144) s s.autoStart :=
  State.cond_off .refl (fun _ h => .wr h (has_SYS_STATE_PENDING (by decide)) ..) _

theorem execRehearsalEntry_enters {s : State} (hdark : s.sys.dark = true) (hphase : s.rd BOOT_STAT_PHASE 0 = 4)
    (hcal : s.boot.phase4 = true) (hsettled : s.synSettled = true) :
    ∃ t, exec .rehearsalEntry s = .next t ∧ t.sys.dark = false ∧ t.rd BOOT_STAT_PHASE 0 = 5 ∧ t.devState = stREHEARSAL := by
  obtain ⟨ticks, payload, hrun⟩ := State.rehearse_of_settled hdark hphase hcal hsettled
  have hbegun := (s.startUpRecorded ticks payload).lit.rehearsalBegun_off
  have hauto := (s.startUpRecorded ticks payload).lit.rehearsalBegun.autoStart_off
  refine ⟨_, congrArg Host.Outcome.next hrun, ?_, ?_, ?_⟩
  · exact congrArg SysSt.dark ((hauto.part .sys (by decide)).trans (hbegun.part .sys (by decide)))
  · rw [hauto.rd_eq (by decide +kernel), hbegun.rd_eq (by decide +kernel)]
    exact s.startUpRecorded_phase ticks payload
  · rw [State.devState, hauto.rd_eq (by decide +kernel)]
    exact State.rehearsalBegun_devState _

/-- Settles O56: each phase's own writes stand, and none of the reports, records and checks beside them reaches them. That a late
expiry of LOAD_LIMIT leaves the clock where it stands is the model's choice (log entry 3). -/
theorem startUpComplete : Obligations.StartUpComplete :=
  ⟨fun _ _ _ _ _ _ _ => execStartupPhase0Done_straps, fun _ _ _ => execSmemDiscoveryDone_selects,
   fun _ _ _ _ => execImageCopyChecked_loads, fun _ => execLoadLimitExpiry_aborts, fun _ => execStartupCalibration_starts,
   fun _ => execRehearsalEntry_enters, fun _ _ _ _ => execBackgroundCopyCheck_checks⟩

end Sys2Proof.Machine

/-! PROOF. What the end of a power failure, the restore and the work on the medium leave of the recorder's state of power
(spec/11_prompt_book.md R316, R317, R322). -/
namespace Sys2Proof.Machine
open Sys2Proof
set_option Elab.async false

/-! ### Records of the book's own page -/

theorem State.handRec_power (s : State) (w : Waiting) : (s.handRec w).pb.power = s.pb.power := by
  rw [State.handRec, State.audited_power, State.handOne_power]

theorem State.journal_power (s : State) (page code sev payload : Nat) :
    (s.journal page code sev payload).pb.power = s.pb.power := State.handRec_power ..

theorem State.gapRecord_power (s : State) (n k : Nat) : (s.gapRecord n k).pb.power = s.pb.power := State.handRec_power ..

theorem State.gapsOwed_power (s : State) : s.gapsOwed.pb.power = s.pb.power :=
  State.foldl_power (fun _ _ => State.gapRecord_power ..) _ _

/-! ### Recording resumes (R316) -/

/-- The book once PFAIL_N has risen and no supply is low. -/
def PbSt.resumed (p : PbSt) : PbSt :=
  { p with pf := false, pfDone := false, vault := [], markDone := false, head := { p.head with valid := false } }

theorem State.vaultDone_restored (s : State) (hrestored : s.pb.restored = true) :
    s.vaultDone.pb.restored = true ∧ s.vaultDone.pb.pfailLow = s.pb.pfailLow := by
  unfold State.vaultDone
  split
  · simp only [State.setPb_pb, hrestored, Bool.not_true, Bool.and_false, Bool.false_eq_true, if_false, and_self]
  · exact ⟨hrestored, rfl⟩

theorem State.resumeRecording_of_low {s : State} (hpf : s.pb.pf = true) (hlow : s.pb.pfailLow = false)
    (hrestored : s.pb.restored = true) (hunder : s.rd SYS_SUPPLY_UNDER_NOW 0 = 0) :
    s.resumeRecording = ((s.vaultDone.setPb PbSt.resumed).journal pgPB 0x0005 sevNOTE 0).gapsOwed := by
  have hback := (s.vaultDone_restored hrestored).1
  have hbook : (s.vaultDone.setPb fun p =>
      if p.cold && !p.restored then { p with pf := false, pfDone := false } else p.resumed) = s.vaultDone.setPb PbSt.resumed := by
    rw [State.setPb, State.setPb, hback, Bool.not_true, Bool.and_false, if_neg Bool.false_ne_true]
  unfold State.resumeRecording
  rw [hpf, hlow, hunder, if_pos (by decide)]
  exact congrArg (fun u : State => (u.journal pgPB 0x0005 sevNOTE 0).gapsOwed) hbook

theorem execPfailDeassert_resumes {s : State} (hpf : s.pb.pf = true) (hrestored : s.pb.restored = true)
    (hunder : s.rd SYS_SUPPLY_UNDER_NOW 0 = 0) :
    ∃ t, exec .pfailDeassert s = .next t ∧ t.pb.pf = false ∧ t.pb.pfailLow = false ∧ t.pb.head.valid = false := by
  let u := s.setPb fun p => { p with pfailLow := false }
  have hrun : s.pfailRise = ((u.vaultDone.setPb PbSt.resumed).journal pgPB 0x0005 sevNOTE 0).gapsOwed :=
    State.resumeRecording_of_low (s := u) hpf rfl hrestored hunder
  have hpower : s.pfailRise.pb.power = u.vaultDone.pb.resumed.power := by
    rw [hrun, State.gapsOwed_power, State.journal_power, State.setPb_pb]
  have hlow : u.vaultDone.pb.pfailLow = false := (u.vaultDone_restored hrestored).2
  exact ⟨_, rfl, show s.pfailRise.pb.power.pf = false from congrArg PbSt.pf hpower,
    show s.pfailRise.pb.power.pfailLow = false from (congrArg PbSt.pfailLow hpower).trans hlow,
    show s.pfailRise.pb.power.head.valid = false from congrArg (·.head.valid) hpower⟩

/-! ### The restore (R317) -/

/-- The recorder is restored, whatever its other state of power. -/
theorem State.restored_of_power {s t : State} (h : t.pb.power = s.pb.power) (hs : s.pb.restored = true) :
    t.pb.restored = true := (PbSt.restored_of_power h).trans hs

theorem State.restore_restored (s : State) (kind : Nat) (cold : Bool) : (s.restore kind cold).pb.restored = true := by
  unfold State.restore
  split
  case isTrue h => exact h
  case isFalse =>
    extract_lets n events lostMark valid back s1 s2 s3 last from_ s4 k s5 s6 s7 n1 s8 s9 chain s10 s11 s12 held s13
    have h3 : s3.pb.restored = true := rfl
    clear_value s3
    have h6 : s6.pb.restored = true := by
      refine State.restored_of_power (State.ite_power ?_ rfl) h3
      rw [State.raise_pb]
      exact State.ite_power (State.gapRecord_power ..) rfl
    have h7 : s7.pb.restored = true := State.restored_of_power ((State.gapsOwed_power _).trans (State.auditBook_power _)) h6
    have h9 : s9.pb.restored = true := State.restored_of_power (State.ite_power (State.journal_power ..) rfl) h7
    have h10 : s10.pb.restored = true := State.restored_of_power (State.journal_power ..) h9
    have h12 : s12.pb.restored = true := by
      refine State.restored_of_power (State.ite_power ((State.journal_power ..).trans ?_) rfl) h10
      exact s10.closeOpen_power
    have h13 : s13.pb.restored = true := h12
    exact State.restored_of_power (State.foldl_power (fun u w => (State.enter_power ..).trans u.closeOpen_power) held s13) h13

/-! ### Work on the medium -/

theorem State.pbReadDone_power (s : State) : s.pbReadDone.pb.power = s.pb.power := by
  unfold State.pbReadDone
  split
  · rfl
  · split
    extract_lets u v
    have hv : v.pb = u.pb := by
      simp only [v]
      split
      · refine foldl_keeps State.pb ?_ _
        exact fun _ _ _ => rfl
      · rfl
    rw [State.int_pb, State.wr_pb, State.wr_pb, State.wr_pb, hv]
    rfl

theorem State.snapStored_power (s : State) : s.snapStored.pb.power = s.pb.power := by
  unfold State.snapStored
  split
  · rfl
  · extract_lets size k u sn s1 s2 s3 s4
    have h2 : s2.pb = s.pb :=
      (State.setRings_off (m := F.State.snapStored ^^^ 1 <<< partNo .pb) (by decide)
        (State.unitsWritten_off (by decide) (State.setStm_off (by decide) .refl ..) ..)).pb_eq (by decide)
    have h4 : s4.pb.power = s.pb.power := by
      rw [State.int_pb, State.journal_power, h2]
    exact State.ite_power h4 h4

theorem State.doWork_power (s : State) (w : Work) : (s.doWork w).pb.power = s.pb.power := by
  cases w with
  | pbRead => exact s.pbReadDone_power
  | snapshot => exact s.snapStored_power
  | bulk q d => exact congrArg PbSt.power ((State.bulkHere_off (Nat.and_self _) .refl ..).pb_eq (by decide))
  | send src q d => exact congrArg PbSt.power ((State.bulkThere_off (Nat.and_self _) .refl ..).pb_eq (by decide))
  | history no ws => exact congrArg PbSt.power ((State.histPlace_off (Nat.and_self _) .refl ..).pb_eq (by decide))
  | refresh why pslc mx mean =>
    exact congrArg PbSt.power ((State.blockRefresh_off (Nat.and_self _) .refl ..).pb_eq (by decide))
  | scrub => exact congrArg PbSt.power ((State.scrubDone_off (Nat.and_self _) .refl).pb_eq (by decide))

theorem State.turn_power (s : State) (w : Work) : (s.turn w).pb.power = s.pb.power :=
  State.ite_power rfl (s.doWork_power w)

theorem State.serve_power (s : State) : s.serve.pb.power = s.pb.power :=
  State.ite_power rfl (State.foldl_power (fun u _ => State.foldl_power (fun v w => v.turn_power w) _ u) _ _)

theorem execVaultRestore_restores {s : State} (hready : s.rd STM_STAT_READY 0 ≠ 0) (hmedium : s.rd STM_STAT_MEDIUM 0 = 2) :
    ∃ t, exec .vaultRestore s = .next t ∧ t.pb.restored = true := by
  have hstart : s.restoreStart = s.restore s.boot.kind.code s.pb.cold :=
    if_pos (by rw [State.on, hmedium, bne_iff_ne.2 hready]; decide)
  exact ⟨_, rfl, State.restored_of_power s.restoreStart.serve_power (hstart ▸ s.restore_restored _ _)⟩

/-! ### Memory errors of the book (R322) -/

/-- The book without a number of staging. -/
def State.dropStaged (s : State) (seq : BitVec 40) : State :=
  s.setPb fun p => { p with staging := p.staging.filter fun x => x.seq != seq }

theorem execStagingUncorr_owes {s : State} {seq : BitVec 40} {r : Rec}
    (hfind : (s.pb.staging.find? fun r => r.seq == seq) = some r) (hpf : s.pb.pf = true) :
    ∃ t, exec (.stagingUncorr seq) s = .next t ∧ t.tst PG_ERR pgPB 2 = true
      ∧ t.pb.staging = (s.pb.staging.filter fun x => x.seq != seq) ∧ t.pb.owed = s.pb.owed ++ [(seq, 1)] := by
  have hlost : ∃ (u : State) (v : Word), u.pb = s.pb ∧ s.stagingLost seq
      = (((u.dropStaged seq).setPb fun p => { p with lastTag := v }).raise pgPB 2 allPorts).setPb fun p =>
        { p with owed := p.owed ++ [(seq, 1)] } := by
    have hpend (u : State) (v : Word) (hu : u.pb = s.pb) :
        (((u.dropStaged seq).setPb fun p => { p with lastTag := v }).raise pgPB 2 allPorts).pb.pf = true := by
      rw [State.raise_pb, State.setPb_pb, State.dropStaged, State.setPb_pb, hu, hpf]
    simp only [State.stagingLost, hfind]
    cases r.closed with
    | true => exact ⟨s, s.pb.lastTag, rfl, if_pos (hpend s _ rfl)⟩
    | false => exact ⟨s.draw.2, (Config.freeValue s.draw.1).setWidth 32, rfl, if_pos (hpend s.draw.2 _ rfl)⟩
  obtain ⟨u, v, hu, hrun⟩ := hlost
  refine ⟨_, congrArg Host.Outcome.next hrun, ?_, ?_, ?_⟩
  · rw [State.tst_congr rfl]
    exact State.raise_tst _ _ (by decide) (by decide)
  · rw [State.setPb_pb, State.raise_pb, ← hu]
    rfl
  · rw [State.setPb_pb, State.raise_pb, ← hu]
    rfl

/-- Recording goes on where a cause is raised. -/
theorem Recording.raise {s : State} (h : Recording s) (page b : Nat) (ports : Ports)
    (hne : PG_ERR.key page ≠ PB_CFG_COMPAT.key 0) : Recording (s.raise page b ports) := by
  have hcompat : (s.raise page b ports).rd PB_CFG_COMPAT 0 = s.rd PB_CFG_COMPAT 0 :=
    (State.rd_congr (State.raise_regs ..) _ _).trans (State.rd_wr_ne _ _ hne)
  unfold Recording at h ⊢
  rwa [hcompat, State.raise_pb]

/-- A gap record of one number names it. -/
theorem State.gapRec_gap (s : State) (seq : BitVec 40) :
    (s.mkRec pgPB 2 sevMAJOR false (pf 40 24 1 + seq.toNat % 2 ^ 40)).gap = some (seq, 1) := by
  have hone : pf 40 24 1 = 2 ^ 40 := rfl
  have hlt := seq.isLt
  have hnum : (BitVec.ofNat 64 (pf 40 24 1 + seq.toNat % 2 ^ 40)).setWidth 40 = seq := by
    apply BitVec.eq_of_toNat_eq
    rw [BitVec.toNat_setWidth, BitVec.toNat_ofNat, hone]
    omega
  have hcount : (BitVec.ofNat 64 (pf 40 24 1 + seq.toNat % 2 ^ 40) >>> 40).toNat = 1 := by
    rw [BitVec.toNat_ushiftRight, BitVec.toNat_ofNat, hone, Nat.shiftRight_eq_div_pow]
    omega
  have hcode : (s.mkRec pgPB 2 sevMAJOR false (pf 40 24 1 + seq.toNat % 2 ^ 40)).code = 2
      ∧ (s.mkRec pgPB 2 sevMAJOR false (pf 40 24 1 + seq.toNat % 2 ^ 40)).source.toNat = pgPB / 0x1000 := ⟨rfl, rfl⟩
  rw [Rec.gap, if_pos hcode]
  exact congrArg some (Prod.ext hnum hcount)

theorem execStagingUncorr_names {s : State} {seq : BitVec 40} {r : Rec}
    (hfind : (s.pb.staging.find? fun r => r.seq == seq) = some r) (hclosed : r.closed = true)
    (hrec : Recording (s.dropStaged seq)) :
    ∃ t g, exec (.stagingUncorr seq) s = .next t ∧ t.pb.staging = (s.pb.staging.filter fun x => x.seq != seq) ++ [g]
      ∧ g.seq = s.pb.next ∧ g.code = 2 ∧ g.gap = some (seq, 1) ∧ t.pb.next = s.pb.next + 1
      ∧ t.pb.gaps = s.pb.gaps ++ [(seq, 1)] := by
  let u := (s.dropStaged seq).raise pgPB 2 allPorts
  have hu : Recording u := hrec.raise _ _ _ (by decide)
  have hpb : u.pb = (s.dropStaged seq).pb := State.raise_pb ..
  have hrun : s.stagingLost seq = u.gapRecord seq.toNat 1 := by
    have hpf : ¬ u.pb.pf = true := by rw [hu.1]; exact Bool.false_ne_true
    simp only [State.stagingLost, hfind, hclosed, if_true]
    exact if_neg hpf
  obtain ⟨used, hissued⟩ := State.handRec_pb_of_recording hu
    ⟨u.mkRec pgPB 0x0002 sevMAJOR false (pf 40 24 1 + seq.toNat % 2 ^ 40), 0, false, [(pgPB, 6)]⟩
  have hstaging : u.pb.staging = s.pb.staging.filter fun x => x.seq != seq := congrArg PbSt.staging hpb
  have hnext : u.pb.next = s.pb.next := (congrArg PbSt.next hpb).trans rfl
  have hgaps : u.pb.gaps = s.pb.gaps := (congrArg PbSt.gaps hpb).trans rfl
  have hgap := u.gapRec_gap seq
  refine ⟨_, u.issue (u.mkRec pgPB 0x0002 sevMAJOR false (pf 40 24 1 + seq.toNat % 2 ^ 40)) false,
    congrArg Host.Outcome.next hrun, ?_, hnext, rfl, hgap, ?_, ?_⟩
  · exact (congrArg PbSt.staging hissued).trans (congrArg (· ++ [_]) hstaging)
  · exact (congrArg PbSt.next hissued).trans (congrArg (· + 1) hnext)
  · refine (congrArg PbSt.gaps hissued).trans ?_
    change u.pb.gaps ++ (u.mkRec pgPB 2 sevMAJOR false (pf 40 24 1 + seq.toNat % 2 ^ 40)).gap.toList = _
    rw [hgap, hgaps]
    rfl

/-- Settles O43: the operations that follow a power failure's end, a restore or a lost record are all records, which leave the state
of power alone. That the vault carries the gap that is owed is the model's choice (log entry 105). -/
theorem vaultComplete : Obligations.VaultComplete :=
  ⟨fun _ => execPfailDeassert_resumes, fun _ hready hmedium _ => execVaultRestore_restores hready hmedium,
   fun _ _ _ hfind => ⟨execStagingUncorr_owes hfind, execStagingUncorr_names hfind⟩,
   fun _ => ⟨_, rfl, State.raise_tst _ _ (by decide) (by decide)⟩⟩

end Sys2Proof.Machine

/-! PROOF. Reads and verification of the book (spec/11_prompt_book.md R320, R321). -/
namespace Sys2Proof.Machine
open Sys2Proof
set_option Elab.async false

/-! ### Reads (R320) -/

theorem execPbReadGo_asks {s : State} (hdef : s.sys.deferred = []) :
    ∃ t, exec .pbReadGo s = .next t ∧ t.rd PB_RD_STAT_DONE 0 = 0
      ∧ t.pb.rdPending = some (BitVec.ofNat 40 (s.rd PB_RD_SEQ_HI 0 * 2 ^ 32 + s.rd PB_RD_SEQ_LO 0)) := by
  refine ⟨_, rfl, ?_⟩
  rw [State.byHost_of_none hdef]
  exact ⟨State.rd_wr_self _ _ (by decide) (by decide), rfl⟩

/-- The five places of a record, and that it is nowhere. -/
theorem State.findNumber_lt (s : State) (n : BitVec 40) : (s.findNumber n).1 < 6 := by
  unfold State.findNumber
  repeat' split
  all_goals exact of_decide_eq_true rfl

/-- The answer to a read, with its data. -/
def State.readAnswered (s : State) (w : Nat) (o : Bool) : State :=
  (((s.wr PB_RD_STAT_DONE 0 1).wr PB_RD_STAT_WHERE 0 w).wr PB_RD_STAT_OPEN 0 o.toNat).int pgPB 4

theorem State.pbReadDone_of_pending {s : State} {n : BitVec 40} (hpend : s.pb.rdPending = some n) :
    ∃ u : State, u.pb = { s.pb with rdPending := none }
      ∧ s.pbReadDone = u.readAnswered (s.findNumber n).1 (s.findNumber n).2.1 := by
  simp only [State.pbReadDone, hpend]
  refine ⟨_, ?_, rfl⟩
  split
  · refine (foldl_keeps State.pb ?_ _).trans rfl
    exact fun _ _ _ => rfl
  · rfl

theorem State.readAnswered_reads (s : State) (w : Nat) (o : Bool) :
    (s.readAnswered w o).rd PB_RD_STAT_DONE 0 = 1 ∧ (s.readAnswered w o).rd PB_RD_STAT_WHERE 0 = w % 2 ^ PB_RD_STAT_WHERE.w
      ∧ (s.readAnswered w o).tst PG_INT_STAT pgPB 4 = true := by
  refine ⟨?_, ?_, State.int_tst _ (by decide) (by decide)⟩
  · simp (disch := decide) only [State.readAnswered, State.int, State.orBits, State.rd_wr_ne, State.rd_wr_self]
    decide
  · simp (disch := decide) only [State.readAnswered, State.int, State.orBits, State.rd_wr_ne, State.rd_wr_self]

/-- A record in staging or the vault is read at once, one on the medium when nothing waits before it (R340). -/
theorem State.readBook_of_ready {s : State} {n : BitVec 40} (hpend : s.pb.rdPending = some n)
    (hready : (s.findNumber n).1 < 3 ∨ s.stm.work = [] ∧ s.ahead 3 = false) : s.readBook = s.pbReadDone := by
  simp only [State.readBook, hpend]
  split
  case isTrue h =>
    obtain ⟨hidle, hahead⟩ := hready.resolve_left (Nat.not_lt.2 h)
    exact State.medium_of_idle (w := .pbRead) hidle hahead
  case isFalse => rfl

theorem execPbReadDone_answers {s : State} {n : BitVec 40} (hpend : s.pb.rdPending = some n)
    (hready : (s.findNumber n).1 < 3 ∨ s.stm.work = [] ∧ s.ahead 3 = false) :
    ∃ t, exec .pbReadDone s = .next t ∧ t.rd PB_RD_STAT_DONE 0 = 1 ∧ t.rd PB_RD_STAT_WHERE 0 = (s.findNumber n).1
      ∧ t.pb.rdPending = none ∧ t.tst PG_INT_STAT pgPB 4 = true := by
  obtain ⟨u, hpb, hrun⟩ := State.pbReadDone_of_pending hpend
  obtain ⟨hdone, hwhere, hint⟩ := u.readAnswered_reads (s.findNumber n).1 (s.findNumber n).2.1
  exact ⟨_, congrArg Host.Outcome.next ((State.readBook_of_ready hpend hready).trans hrun), hdone,
    hwhere.trans (Nat.mod_eq_of_lt (Nat.lt_trans (s.findNumber_lt n) (by decide))), congrArg PbSt.rdPending hpb, hint⟩

/-! ### Verification (R321) -/

theorem execVerifyGo_starts {s : State} (hdef : s.sys.deferred = []) (hidle : s.rd PB_VFY_STAT_BUSY 0 = 0) :
    ∃ t, exec .verifyGo s = .next t ∧ t.rd PB_VFY_STAT_BUSY 0 = 1 ∧ t.rd PB_VFY_STAT_DONE 0 = 0
      ∧ t.pb.vfyLeft = s.rd PB_VFY_CNT 0 := by
  have hoff : ¬ s.on PB_VFY_STAT_BUSY 0 = true := by rw [State.on, hidle]; decide
  refine ⟨_, rfl, ?_⟩
  rw [State.byHost_of_none hdef, State.verifyGo, if_neg hoff]
  refine ⟨?_, ?_, rfl⟩
  · simp (disch := decide) only [State.rd_wr_ne, State.rd_wr_self]
    decide
  · simp (disch := decide) only [State.rd_wr_ne, State.rd_wr_self]
    decide

theorem execVerifyStop_stops {s : State} (hdef : s.sys.deferred = []) (hbusy : s.rd PB_VFY_STAT_BUSY 0 ≠ 0) :
    ∃ t, exec .verifyStop s = .next t ∧ t.pb.vfyStop = true := by
  have hon : s.on PB_VFY_STAT_BUSY 0 = true := bne_iff_ne.2 hbusy
  refine ⟨_, rfl, ?_⟩
  rw [State.byHost_of_none hdef, State.verifyStop, if_pos hon]
  rfl

/-- A record that fails verification is shown, with its number. -/
def State.showBad (s : State) (bad : List Nat) : State :=
  match bad with
  | [] => s
  | b :: bs => ((s.wr PB_VFY_STAT_FAIL 0 1).wr PB_VFY_BAD_LO 0 (bs.foldl min b)).wr PB_VFY_BAD_HI 0 (bs.foldl min b / 2 ^ 32)

/-- The numbers of a range that fail verification. -/
def State.badNumbers (s : State) (from_ cnt : Nat) : List Nat :=
  s.pb.numbers.filter fun n => decide (from_ ≤ n) && decide (n < from_ + cnt) && s.badNumber n

/-- The end of a verification, with its count. -/
def State.verifyEnded (s : State) (cnt : Nat) : State :=
  ((s.wr PB_VFY_STAT_BUSY 0 0).wr PB_VFY_STAT_DONE 0 1).wr PB_VFY_DONE_CNT 0 cnt

theorem State.verifyDone_of_busy {s : State} {k cnt : Nat} (hbusy : s.rd PB_VFY_STAT_BUSY 0 ≠ 0)
    (hcnt : cnt = (if s.pb.vfyStop then min k s.pb.vfyLeft else s.pb.vfyLeft)) :
    s.verifyDone k = ((s.verifyEnded cnt).showBad (s.badNumbers s.pb.vfyNext.toNat cnt)).int pgPB 5 := by
  have hon : s.on PB_VFY_STAT_BUSY 0 = true := bne_iff_ne.2 hbusy
  unfold State.verifyDone
  rw [hon, if_neg (by decide), hcnt]
  rfl

theorem State.showBad_rd (s : State) (bad : List Nat) {g : Fld} (hfail : PB_VFY_STAT_FAIL.key 0 ≠ g.key 0)
    (hlo : PB_VFY_BAD_LO.key 0 ≠ g.key 0) (hhi : PB_VFY_BAD_HI.key 0 ≠ g.key 0) : (s.showBad bad).rd g 0 = s.rd g 0 := by
  cases bad with
  | nil => rfl
  | cons b bs => exact (State.rd_wr_ne _ _ hhi).trans ((State.rd_wr_ne _ _ hlo).trans (State.rd_wr_ne _ _ hfail))

/-- What follows the end of a verification leaves its own fields. -/
theorem State.verifyShown_rd (s : State) (bad : List Nat) {g : Fld} (hfail : PB_VFY_STAT_FAIL.key 0 ≠ g.key 0)
    (hlo : PB_VFY_BAD_LO.key 0 ≠ g.key 0) (hhi : PB_VFY_BAD_HI.key 0 ≠ g.key 0) (hint : PG_INT_STAT.key pgPB ≠ g.key 0) :
    ((s.showBad bad).int pgPB 5).rd g 0 = s.rd g 0 :=
  (State.rd_wr_ne _ _ hint).trans (s.showBad_rd bad hfail hlo hhi)

theorem State.showBad_FAIL (s : State) {bad : List Nat} (hbad : bad ≠ []) : (s.showBad bad).rd PB_VFY_STAT_FAIL 0 = 1 := by
  cases bad with
  | nil => contradiction
  | cons b bs =>
    rw [State.showBad, State.rd_wr_ne _ _ (by decide), State.rd_wr_ne _ _ (by decide)]
    exact State.rd_wr_self _ _ (by decide) (by decide)

theorem execVerifyDone_ends {s : State} {k cnt : Nat} (hbusy : s.rd PB_VFY_STAT_BUSY 0 ≠ 0)
    (hcnt : cnt = (if s.pb.vfyStop then min k s.pb.vfyLeft else s.pb.vfyLeft)) :
    ∃ t, exec (.verifyDone k) s = .next t ∧ t.rd PB_VFY_STAT_BUSY 0 = 0 ∧ t.rd PB_VFY_STAT_DONE 0 = 1
      ∧ t.rd PB_VFY_DONE_CNT 0 = cnt % 2 ^ PB_VFY_DONE_CNT.w ∧ t.tst PG_INT_STAT pgPB 5 = true
      ∧ ((∃ n ∈ s.pb.numbers, s.pb.vfyNext.toNat ≤ n ∧ n < s.pb.vfyNext.toNat + cnt ∧ s.badNumber n = true) →
        t.rd PB_VFY_STAT_FAIL 0 = 1) := by
  refine ⟨_, congrArg Host.Outcome.next (State.verifyDone_of_busy hbusy hcnt), ?_, ?_, ?_,
    State.int_tst _ (by decide) (by decide), ?_⟩
  · rw [State.verifyShown_rd _ _ (by decide) (by decide) (by decide) (by decide), State.verifyEnded]
    simp (disch := decide) only [State.rd_wr_ne, State.rd_wr_self]
    decide
  · rw [State.verifyShown_rd _ _ (by decide) (by decide) (by decide) (by decide), State.verifyEnded]
    simp (disch := decide) only [State.rd_wr_ne, State.rd_wr_self]
    decide
  · rw [State.verifyShown_rd _ _ (by decide) (by decide) (by decide) (by decide), State.verifyEnded]
    exact State.rd_wr_self _ _ (by decide) (by decide)
  · rintro ⟨n, hn, hfrom, hto, hbad⟩
    have hmem : n ∈ s.badNumbers s.pb.vfyNext.toNat cnt :=
      List.mem_filter.2 ⟨hn, by rw [decide_eq_true hfrom, decide_eq_true hto, hbad]; rfl⟩
    rw [State.int, State.orBits, State.rd_wr_ne _ _ (by decide)]
    exact State.showBad_FAIL _ (List.ne_nil_of_mem hmem)

/-- Settles O44: a read that may be answered shows where the record is held, and a verification that ends shows its count and, where
a number of its range fails, the failure. The order of the work on the medium is the model's choice (log entry 110). -/
theorem bookReadsComplete : Obligations.BookReadsComplete :=
  ⟨fun _ => execPbReadGo_asks, fun _ _ => execPbReadDone_answers, fun _ => execVerifyGo_starts, fun _ => execVerifyStop_stops,
   fun _ _ _ => execVerifyDone_ends⟩

end Sys2Proof.Machine

/-! PROOF. Channel timeouts and the captures of snapshots (spec/12_storage_manager.md R346, R347, R350). -/
namespace Sys2Proof.Machine
open Sys2Proof
set_option Elab.async false

/-! ### A chip enable that stays busy (R350) -/

theorem execCeBusyTimeout_single {s : State} (hmirror : s.rd STM_STAT_MIRROR 0 = 1) :
    ∃ t, exec .ceBusyTimeout s = .next t ∧ t.rd STM_STAT_SINGLE 0 = 1 ∧ t.tst PG_ERR pgSTM 5 = true := by
  let u := (s.raise pgSTM 5 allPorts).stand 5 5
  have hmirror' : u.rd STM_STAT_MIRROR 0 = 1 :=
    ((State.rd_congr (State.raise_regs ..) _ _).trans (State.rd_wr_ne _ _ (by decide))).trans hmirror
  have hon : u.on STM_STAT_MIRROR 0 = true := by rw [State.on, hmirror']; decide
  have hrun : s.ceBusy = u.wr STM_STAT_SINGLE 0 1 := if_pos hon
  refine ⟨_, congrArg Host.Outcome.next hrun, State.rd_wr_self _ _ (by decide) (by decide), ?_⟩
  rw [State.tst_wr_ne _ _ (by decide)]
  exact State.raise_tst _ _ (by decide) (by decide)

/-! ### Arming (R346) -/

/-- A capture starts to fill. -/
def State.capFills (s : State) (m : Nat) : State :=
  (s.wr STM_CAP_STAT 0 capFILLING).setStm fun x =>
    { x with capLanes := BitVec.ofNat 32 m, capFillAt := s.now, capCauses := 0 }

theorem State.writeCapCfg_arms {s : State} {v : Word} (harm : v.getLsbD 31 = true) (hpoint : STM_CAP_CFG_POINT.of v ≠ 3)
    (hlo : 1 ≤ STM_CAP_CFG_SEV_MIN.of v) (hhi : STM_CAP_CFG_SEV_MIN.of v ≤ 4) (hidle : s.rd STM_CAP_STAT 0 = capIDLE)
    (hunits : s.stm.snapUnits ≠ 0) (hsome : ((List.range 32).filter (s.rd STM_CAP_LANES 0).testBit).length ≠ 0)
    (hmost : ((List.range 32).filter (s.rd STM_CAP_LANES 0).testBit).length ≤ 8) :
    s.writeCapCfg v = ((s.wrWord capFlds 0 v).wr STM_CAP_CFG_ARM 0 1).capFills (s.rd STM_CAP_LANES 0) := by
  have hrange : ¬ (STM_CAP_CFG_POINT.of v = 3 ∨ STM_CAP_CFG_SEV_MIN.of v < 1 ∨ 4 < STM_CAP_CFG_SEV_MIN.of v) := by omega
  have hroom : (s.stm.snapUnits == 0 || ((List.range 32).filter (s.rd STM_CAP_LANES 0).testBit).length == 0
      || decide (8 < ((List.range 32).filter (s.rd STM_CAP_LANES 0).testBit).length)) = false := by
    rw [beq_false_of_ne hunits, beq_false_of_ne hsome, decide_eq_false (Nat.not_lt.2 hmost)]
    rfl
  unfold State.writeCapCfg
  extract_lets arm was sev m n idle u
  have hno : (arm && !was && (s.stm.snapUnits == 0 || n == 0 || decide (8 < n))) = false := by
    rw [show (s.stm.snapUnits == 0 || n == 0 || decide (8 < n)) = false from hroom, Bool.and_false]
  have hgo : (arm && idle) = true := by
    rw [show arm = true from harm, show idle = (s.rd STM_CAP_STAT 0 == capIDLE) from rfl, hidle]
    rfl
  rw [if_neg hrange, hno, if_neg Bool.false_ne_true, hgo, if_pos rfl]
  simp only [u, show arm = true from harm]
  rfl

theorem execSnapshotArm_fills {s : State} {v : Word} (hdef : s.sys.deferred = []) (hpoint : STM_CAP_CFG_POINT.of v ≠ 3)
    (hlo : 1 ≤ STM_CAP_CFG_SEV_MIN.of v) (hhi : STM_CAP_CFG_SEV_MIN.of v ≤ 4) (hidle : s.rd STM_CAP_STAT 0 = capIDLE)
    (hunits : s.stm.snapUnits ≠ 0) (hsome : ((List.range 32).filter (s.rd STM_CAP_LANES 0).testBit).length ≠ 0)
    (hmost : ((List.range 32).filter (s.rd STM_CAP_LANES 0).testBit).length ≤ 8) :
    ∃ t, exec (.snapshotArm v) s = .next t ∧ t.rd STM_CAP_STAT 0 = capFILLING ∧ t.rd STM_CAP_CFG_ARM 0 = 1
      ∧ t.stm.capLanes = BitVec.ofNat 32 (s.rd STM_CAP_LANES 0) ∧ t.stm.capFillAt = s.now := by
  have hpoint' : STM_CAP_CFG_POINT.of (v ||| 0x80000000#32) ≠ 3 := by rwa [Fld.of_or_of_zero v (by decide)]
  have hsev : STM_CAP_CFG_SEV_MIN.of (v ||| 0x80000000#32) = STM_CAP_CFG_SEV_MIN.of v := Fld.of_or_of_zero v (by decide)
  refine ⟨_, rfl, ?_⟩
  rw [State.byHost_of_none hdef, State.writeCapCfg_arms (getLsbD_or_en v) hpoint' (by rwa [hsev]) (by rwa [hsev]) hidle hunits
    hsome hmost]
  refine ⟨State.rd_wr_self (f := STM_CAP_STAT) _ _ (by decide) (by decide), ?_, rfl, rfl⟩
  exact (State.rd_wr_ne (s := (s.wrWord capFlds 0 (v ||| 0x80000000#32)).wr STM_CAP_CFG_ARM 0 1) (f := STM_CAP_STAT) (i := 0)
    capFILLING (by decide)).trans (State.rd_wr_self _ _ (by decide) (by decide))

/-! ### Triggers (R346, R347) -/

/-- The first trigger of a capture is accepted: none came before it that holds others off. -/
theorem State.snapTrig_accepts {s : State} {b : Nat} (hsel : s.tst STM_CAP_CFG_TRIG 0 b = true)
    (hfill : s.rd STM_CAP_STAT 0 = capFILLING) (hlast : s.stm.capLastAt = none) :
    (s.snapTrig b).rd STM_CAP_STAT 0 = capPOST ∧ (s.snapTrig b).stm.capTrigAt = s.now
      ∧ (s.snapTrig b).stm.capCauses = BitVec.ofNat 4 (2 ^ b) := by
  have hrun : ∃ f : StmSt → StmSt, s.snapTrig b = (s.wr STM_CAP_STAT 0 capPOST).setStm f
      ∧ ∀ x, (f x).capTrigAt = s.now ∧ (f x).capCauses = BitVec.ofNat 4 (2 ^ b) := by
    unfold State.snapTrig
    rw [hsel, hfill, hlast, if_neg (by decide)]
    exact ⟨_, (if_neg (by decide)).trans ((if_pos rfl).trans (if_pos rfl)), fun _ => ⟨rfl, rfl⟩⟩
  obtain ⟨f, hrun, hf⟩ := hrun
  obtain ⟨htrig, hcauses⟩ := hf s.stm
  rw [hrun]
  exact ⟨State.rd_wr_self (f := STM_CAP_STAT) _ _ (by decide) (by decide), htrig, hcauses⟩

theorem execSnapshotTrigger_accepts {s : State} {b : Fin 4} (hsel : s.tst STM_CAP_CFG_TRIG 0 b = true)
    (hfill : s.rd STM_CAP_STAT 0 = capFILLING) (hlast : s.stm.capLastAt = none) :
    ∃ t, exec (.snapshotTrigger b) s = .next t ∧ t.rd STM_CAP_STAT 0 = capPOST ∧ t.stm.capTrigAt = s.now
      ∧ t.stm.capCauses = BitVec.ofNat 4 (2 ^ b.val) :=
  ⟨_, rfl, State.snapTrig_accepts hsel hfill hlast⟩

theorem execSnapshotHostTrigger_accepts {s : State} (hdef : s.sys.deferred = []) (hsel : s.tst STM_CAP_CFG_TRIG 0 2 = true)
    (hfill : s.rd STM_CAP_STAT 0 = capFILLING) (hlast : s.stm.capLastAt = none) :
    ∃ t, exec .snapshotHostTrigger s = .next t ∧ t.rd STM_CAP_STAT 0 = capPOST ∧ t.stm.capTrigAt = s.now
      ∧ t.stm.capCauses = 4 := by
  refine ⟨_, rfl, ?_⟩
  rw [State.byHost_of_none hdef]
  exact State.snapTrig_accepts hsel hfill hlast

/-! ### The end of a capture (R346) -/

theorem execSnapshotFillComplete_writes {s : State} (hpost : s.rd STM_CAP_STAT 0 = capPOST) :
    ∃ t, exec .snapshotFillComplete s = .next t ∧ t.rd STM_CAP_STAT 0 = capWRITING ∧ s.now ≤ t.now := by
  have hrun : ∃ a, s.snapFill = (s.reach a).wr STM_CAP_STAT 0 capWRITING := ⟨_, if_neg (not_not.2 hpost)⟩
  obtain ⟨a, hrun⟩ := hrun
  refine ⟨_, congrArg Host.Outcome.next hrun, State.rd_wr_self _ _ (by decide) (by decide), ?_⟩
  rw [State.wr_now, State.reach_now]
  exact Nat.le_max_left ..

/-- What a stored snapshot reaches before the capture's state is written. -/
def F.snapStoreTail : Nat := F.State.setStm ||| F.State.unitsWritten ||| F.State.setRings ||| F.State.journal ||| F.State.int

/-- A stored snapshot takes its number, and the capture is idle where it is not armed. -/
theorem State.snapStored_of_writing {s : State} (hwriting : s.rd STM_CAP_STAT 0 = capWRITING)
    (harm : s.rd STM_CAP_CFG_ARM 0 = 0) :
    ∃ u : State, u.stm.snapNext = s.stm.snapNext + 1 ∧ s.snapStored = u.wr STM_CAP_STAT 0 capIDLE := by
  have hm := Nat.and_self F.snapStoreTail
  unfold State.snapStored
  rw [if_neg (not_not.2 hwriting)]
  extract_lets size k a sn s1 s2 s3 s4
  have h2 : Off F.snapStoreTail s s2 := State.setRings_off (sb hm (by decide))
    (State.unitsWritten_off (sb hm (by decide)) (State.setStm_off (sb hm (by decide)) .refl ..) ..)
  have h4 : Off F.snapStoreTail s s4 :=
    State.int_off (sb hm (by decide)) (State.journal_off (sb hm (by decide)) h2 ..) ..
  have hidle : ¬ s4.on STM_CAP_CFG_ARM 0 = true := by
    rw [State.on, h4.rd_eq (by decide +kernel), harm]
    decide
  have hnext2 : s2.stm = (s1.unitsWritten 3 size a k).stm :=
    (State.setRings_off (Nat.and_self _) .refl).stm_eq (by decide)
  have hnext : s4.stm.unprogrammed = s2.stm.unprogrammed := State.journal_unprogrammed ..
  have hno : s4.stm.unprogrammed.snapNext = s.stm.snapNext + 1 := by
    rw [hnext, hnext2]
    rfl
  exact ⟨s4, hno, if_neg hidle⟩

theorem execSnapshotStored_stores {s : State} (hwriting : s.rd STM_CAP_STAT 0 = capWRITING)
    (harm : s.rd STM_CAP_CFG_ARM 0 = 0) (hidle : s.stm.work = []) (hahead : s.ahead 4 = false) :
    ∃ t, exec .snapshotStored s = .next t ∧ t.rd STM_CAP_STAT 0 = capIDLE ∧ t.stm.snapNext = s.stm.snapNext + 1 := by
  obtain ⟨u, hnext, hrun⟩ := State.snapStored_of_writing hwriting harm
  have hmedium : s.medium .snapshot = s.snapStored := State.medium_of_idle (w := .snapshot) hidle hahead
  exact ⟨_, congrArg Host.Outcome.next (hmedium.trans hrun), State.rd_wr_self _ _ (by decide) (by decide), hnext⟩

/-- Settles O31: each state of the capture is written last, and a snapshot's record changes of the storage manager only what was
programmed. -/
theorem snapshotCaptureComplete : Obligations.SnapshotCaptureComplete :=
  ⟨fun _ => execCeBusyTimeout_single, fun _ _ => execSnapshotArm_fills, fun _ _ => execSnapshotTrigger_accepts,
   fun _ => execSnapshotHostTrigger_accepts, fun _ => execSnapshotFillComplete_writes, fun _ => execSnapshotStored_stores⟩

end Sys2Proof.Machine

/-! PROOF. Accesses of the host link and its power states (spec/13_host_interface.md R356, R357, R363, R371, R374). -/
namespace Sys2Proof.Machine
open Sys2Proof
set_option Elab.async false

theorem Off.hif_eq {m : Nat} {a s : State} (h : Off m a s) (hb : m.testBit (partNo .hif) = false) : s.hif = a.hif :=
  h.part .hif hb

theorem Bool.toNat_mod_two_pow (b : Bool) {w : Nat} (hw : 0 < w) : b.toNat % 2 ^ w = b.toNat :=
  Nat.mod_eq_of_lt (Nat.lt_of_lt_of_le (Bool.toNat_lt b) (Nat.le_self_pow hw.ne' 2))

/-! ### Malformed requests (R356) -/

/-- A malformed request, counted with its place. -/
def State.badCounted (s : State) (winB : Bool) (off : Nat) : State :=
  ((s.satInc HIF_BADACC_CNT 0).wr HIF_BADACC_ADDR_WIN 0 winB.toNat).wr HIF_BADACC_ADDR_OFFSET 0 off

theorem State.badCounted_reads (s : State) (winB : Bool) (off : BitVec 30) :
    (s.badCounted winB off.toNat).rd HIF_BADACC_CNT 0 = min (s.rd HIF_BADACC_CNT 0 + 1) (2 ^ HIF_BADACC_CNT.w - 1)
      ∧ (s.badCounted winB off.toNat).rd HIF_BADACC_ADDR_WIN 0 = winB.toNat
      ∧ (s.badCounted winB off.toNat).rd HIF_BADACC_ADDR_OFFSET 0 = off.toNat := by
  unfold State.badCounted
  refine ⟨?_, ?_, ?_⟩
  · rw [State.rd_wr_ne _ _ (by decide), State.rd_wr_ne _ _ (by decide), State.rd_satInc_self (by decide) (by decide)]
  · rw [State.rd_wr_ne _ _ (by decide), State.rd_wr_self _ _ (by decide) (by decide)]
    exact Bool.toNat_mod_two_pow winB (by decide)
  · rw [State.rd_wr_self _ _ (by decide) (by decide)]
    exact Nat.mod_eq_of_lt off.isLt

theorem execBadAccess_counts (s : State) (winB : Bool) (off : BitVec 30) :
    ∃ t, exec (.badAccess winB true off) s = .next t
      ∧ t.rd HIF_BADACC_CNT 0 = min (s.rd HIF_BADACC_CNT 0 + 1) (2 ^ HIF_BADACC_CNT.w - 1)
      ∧ t.rd HIF_BADACC_ADDR_WIN 0 = winB.toNat ∧ t.rd HIF_BADACC_ADDR_OFFSET 0 = off.toNat
      ∧ t.hif.out = s.hif.out ++ [.readData 0xFFFFFFFF#32] := by
  have h := State.raise_off (Nat.and_self _) (.refl (a := s.badCounted winB off.toNat)) pgHIF 1 allPorts
  have hhif := h.hif_eq (by decide)
  obtain ⟨hcnt, hwin, hoff⟩ := s.badCounted_reads winB off
  refine ⟨((s.badCounted winB off.toNat).raise pgHIF 1 allPorts).toHost (.readData 0xFFFFFFFF#32), rfl, ?_, ?_, ?_, ?_⟩
  · rw [State.toHost, State.setHif_rd, h.rd_eq (by decide +kernel), hcnt]
  · rw [State.toHost, State.setHif_rd, h.rd_eq (by decide +kernel), hwin]
  · rw [State.toHost, State.setHif_rd, h.rd_eq (by decide +kernel), hoff]
  · exact congrArg (fun x : HifSt => x.out ++ [HostMsg.readData 0xFFFFFFFF#32]) hhif

/-! ### Tunnelled reads (R357) -/

theorem State.tunnelRead_of_present {s : State} {d off : Nat} {dma : Option (Nat × Nat)} (hpres : s.present d = true)
    (hwait : (s.deliv d 0).waiting = []) :
    s.tunnelRead d off dma = (s.setHif fun h => { h with reads := h.reads ++ [⟨d, off, s.now, dma⟩] }).sendRead d off := by
  have hempty : (s.deliv d 0).waiting.isEmpty = true := by rw [hwait]; rfl
  rw [State.tunnelRead, hpres, Bool.not_true, if_neg Bool.false_ne_true]
  exact if_pos hempty

theorem execTunnelledRead_sends {s : State} {dev : Fin 64} {off : BitVec 24} (hdark : s.sys.dark = false)
    (hvertex : s.vertex = true) (hdev : dev.val ≠ s.devId) (hpres : s.present dev = true)
    (hwait : (s.deliv dev 0).waiting = []) :
    ∃ t, exec (.tunnelledRead dev off) s = .next t ∧ t.hif.reads = s.hif.reads ++ [⟨dev, off.toNat, s.now, none⟩]
      ∧ t.hif.out = s.hif.out := by
  have hrun : s.hostRead dev off.toNat
      = (s.setHif fun h => { h with reads := h.reads ++ [⟨dev, off.toNat, s.now, none⟩] }).sendRead dev off.toNat := by
    rw [State.hostRead, if_neg (by rw [hdark]; decide), if_pos (by rw [hvertex, bne_iff_ne.2 hdev]; rfl),
      State.tunnelRead_of_present hpres hwait]
  have hhif := (State.sendRead_off (Nat.and_self _)
    (.refl (a := s.setHif fun h => { h with reads := h.reads ++ [⟨dev, off.toNat, s.now, none⟩] })) dev off.toNat).hif_eq
    (by decide)
  exact ⟨_, congrArg Host.Outcome.next hrun, congrArg HifSt.reads hhif, (congrArg HifSt.out hhif).trans rfl⟩

/-- The oldest read is given up. -/
def State.readLost (s : State) (r : TunRead) (rs : List TunRead) : State :=
  ((s.reach (r.since + usT (10 * s.rd HIF_CFG_TUN_TO 0))).setHif fun h => { h with reads := rs }).satInc HIF_TUN_TO_CNT 0

theorem execTunnelTimeout_answers {s : State} {r : TunRead} {rs : List TunRead} (hreads : s.hif.reads = r :: rs)
    (hhost : r.dma = none) :
    ∃ t, exec .tunnelTimeout s = .next t ∧ t.hif.reads = rs ∧ t.hif.out = s.hif.out ++ [.readData 0xFFFFFFFF#32]
      ∧ t.rd HIF_TUN_TO_CNT 0 = min (s.rd HIF_TUN_TO_CNT 0 + 1) (2 ^ HIF_TUN_TO_CNT.w - 1)
      ∧ t.now = max s.now (r.since + usT (10 * s.rd HIF_CFG_TUN_TO 0)) := by
  have h := State.raiseInt_off (Nat.and_self _) (.refl (a := s.readLost r rs)) [(pgHIF, 1)] pgHIF 2 allPorts
  have hhif := h.hif_eq (by decide)
  have hreach := (State.reach_off (Nat.and_self _) .refl (r.since + usT (10 * s.rd HIF_CFG_TUN_TO 0)) : Off _ s _)
  have hrun : s.tunnelTimeout
      = ((s.readLost r rs).raiseInt [(pgHIF, 1)] pgHIF 2 allPorts).toHost (.readData 0xFFFFFFFF#32) := by
    simp only [State.tunnelTimeout, hreads, State.readDone, hhost, State.readLost]
  refine ⟨_, congrArg Host.Outcome.next hrun, congrArg HifSt.reads hhif, ?_, ?_, ?_⟩
  · refine (congrArg (fun x : HifSt => x.out ++ [HostMsg.readData 0xFFFFFFFF#32]) hhif).trans ?_
    exact congrArg (· ++ [HostMsg.readData 0xFFFFFFFF#32]) (congrArg HifSt.out (hreach.hif_eq (by decide)) :)
  · rw [State.toHost, State.setHif_rd, h.rd_eq (by decide +kernel), State.readLost, State.rd_satInc_self (by decide) (by decide),
      State.setHif_rd, State.reach_rd]
  · exact (h.now_eq (by decide)).trans (s.reach_now _)

/-! ### Power states and host sleep (R363, R371) -/

theorem State.rd_of_on {s : State} {f : Fld} {i : Nat} (hw : f.w = 1) (hon : s.on f i = true) : s.rd f i = 1 := by
  have hlt := s.rd_lt f i
  have hne : s.rd f i ≠ 0 := bne_iff_ne.1 hon
  rw [hw] at hlt
  omega

theorem State.rd_of_off {s : State} {f : Fld} {i : Nat} (hoff : s.on f i = false) : s.rd f i = 0 := by
  simpa [State.on] using hoff

/-- What the begin and the end of host sleep reach beside its flag: the targets' flags, their wake bits and the queues. -/
def F.sleepTail : Nat := F.State.signal ||| 1 <<< 201 ||| 1 <<< 145

theorem State.sleepBegin_asleep (s : State) : s.sleepBegin.rd HIF_PM_ASLEEP_NOW 0 = 1 := by
  have hm := Nat.and_self F.sleepTail
  unfold State.sleepBegin
  split
  case isTrue hon => exact State.rd_of_on rfl hon
  case isFalse =>
    refine (Off.rd_eq (m := F.sleepTail) (a := s.wr HIF_PM_ASLEEP_NOW 0 1) ?_ (by decide +kernel)).trans
      (State.rd_wr_self _ _ (by decide) (by decide))
    exact .foldl (.foldl .refl (fun _ h _ => .wr h (has_IC_TGT_CFG_ASLEEP (by decide)) ..) _)
      (fun _ h q => State.signal_off (sb hm (by decide)) h q) _

/-- In D0 and without SLEEP, host sleep ends where it had begun. -/
theorem State.sleepEnd_awake {s : State} (hsleep : s.rd HIF_PM_SLEEP 0 = 0) (hd3 : s.rd HIF_PM_D3 0 = 0) :
    s.sleepEnd.rd HIF_PM_ASLEEP_NOW 0 = 0 := by
  have hgo : (!s.on HIF_PM_ASLEEP_NOW 0 || s.on HIF_PM_SLEEP 0 || s.on HIF_PM_D3 0) = !s.on HIF_PM_ASLEEP_NOW 0 := by
    have h1 : s.on HIF_PM_SLEEP 0 = false := by rw [State.on, hsleep]; rfl
    have h2 : s.on HIF_PM_D3 0 = false := by rw [State.on, hd3]; rfl
    rw [h1, h2, Bool.or_false, Bool.or_false]
  unfold State.sleepEnd
  rw [hgo]
  split
  case isTrue hoff => exact State.rd_of_off (by simpa using hoff)
  case isFalse =>
    refine (Off.rd_eq (m := F.sleepTail) (a := s.wr HIF_PM_ASLEEP_NOW 0 0) ?_ (by decide +kernel)).trans
      (State.rd_wr_self _ _ (by decide) (by decide))
    exact .foldl .refl (fun _ h t =>
      State.clrBits_off (.wr h (has_IC_TGT_CFG_ASLEEP (by decide)) t 0) (has_IC_WAKE (by decide)) 0 (2 ^ t)) _

theorem State.sleepBegin_off_self (s : State) : Off F.State.sleepBegin s s.sleepBegin := State.sleepBegin_off (Nat.and_self _) .refl
theorem State.sleepEnd_off_self (s : State) : Off F.State.sleepEnd s s.sleepEnd := State.sleepEnd_off (Nat.and_self _) .refl

theorem execD3hotEntry_sleeps (s : State) (pmeEn : Bool) :
    ∃ t, exec (.d3hotEntry pmeEn) s = .next t ∧ t.rd HIF_PM_D3 0 = 1 ∧ t.rd HIF_PM_ASLEEP_NOW 0 = 1 := by
  have hcut : Off F.State.setRun ((s.wr HIF_PM_D3 0 1).setHif fun h => { h with pmeEn := pmeEn })
      ((List.range 8).foldl (fun (s : State) q => s.setRun q fun r => { r with status := 5, done := true })
        ((s.wr HIF_PM_D3 0 1).setHif fun h => { h with pmeEn := pmeEn })) :=
    .foldl .refl (fun _ h q => State.setRun_off (Nat.and_self _) h q _) _
  refine ⟨_, rfl, ?_, State.sleepBegin_asleep _⟩
  rw [State.d3Enter, (State.sleepBegin_off_self _).rd_eq (by decide +kernel), hcut.rd_eq (by decide +kernel), State.setHif_rd]
  exact State.rd_wr_self _ _ (by decide) (by decide)

/-- The descriptors cut short complete, and their queues stop. -/
def State.cutRuns (s : State) : State :=
  (List.range 8).foldl (fun (s : State) q =>
    match (s.dmaQ q).run with
    | some r => (s.writeEntry q r).wr DMA_Q_STAT_STATE q qSTOPPED
    | none => s) s

/-- What the end of a descriptor cut short reaches. -/
def F.cutTail : Nat := F.State.writeEntry ||| 1 <<< 208

theorem execD0Return_wakes {s : State} (hd3 : s.rd HIF_PM_D3 0 = 1) (hsleep : s.rd HIF_PM_SLEEP 0 = 0) :
    ∃ t, exec .d0Return s = .next t ∧ t.rd HIF_PM_D3 0 = 0 ∧ t.rd HIF_PM_ASLEEP_NOW 0 = 0 := by
  let u := (s.wr HIF_PM_D3 0 0).cutRuns
  have hm := Nat.and_self F.cutTail
  have hcut : Off F.cutTail (s.wr HIF_PM_D3 0 0) u := .foldl .refl (fun x h q => by
    split
    · exact .wr (State.writeEntry_off (sb hm (by decide)) h ..) (has_DMA_Q_STAT_STATE (by decide)) ..
    · exact h) _
  have hrun : s.d0Return = u.sleepEnd := if_neg (by rw [State.on, hd3]; decide)
  have hd3' : u.rd HIF_PM_D3 0 = 0 := (hcut.rd_eq (by decide +kernel)).trans (State.rd_wr_self _ _ (by decide) (by decide))
  have hsleep' : u.rd HIF_PM_SLEEP 0 = 0 := by
    rw [hcut.rd_eq (by decide +kernel), State.rd_wr_ne _ _ (by decide), hsleep]
  exact ⟨_, congrArg Host.Outcome.next hrun, (u.sleepEnd_off_self.rd_eq (by decide +kernel)).trans hd3',
    State.sleepEnd_awake hsleep' hd3'⟩

theorem execHostSleepEntry_sleeps {s : State} (hdef : s.sys.deferred = []) :
    ∃ t, exec .hostSleepEntry s = .next t ∧ t.rd HIF_PM_SLEEP 0 = 1 ∧ t.rd HIF_PM_ASLEEP_NOW 0 = 1 := by
  let u := s.wr HIF_PM_SLEEP 0 (HIF_PM_SLEEP.of 0x80000000#32)
  have hsleep : u.rd HIF_PM_SLEEP 0 = 1 := State.rd_wr_self _ _ (by decide) (by decide)
  have hrun : s.writeHifPm 0x80000000#32 = u.sleepBegin := if_pos (bne_iff_ne.2 (by rw [hsleep]; decide))
  refine ⟨_, rfl, ?_⟩
  rw [State.byHost_of_none hdef, hrun]
  exact ⟨(u.sleepBegin_off_self.rd_eq (by decide +kernel)).trans hsleep, u.sleepBegin_asleep⟩

theorem execHostSleepExit_wakes {s : State} (hdef : s.sys.deferred = []) (hd3 : s.rd HIF_PM_D3 0 = 0) :
    ∃ t, exec .hostSleepExit s = .next t ∧ t.rd HIF_PM_SLEEP 0 = 0 ∧ t.rd HIF_PM_ASLEEP_NOW 0 = 0 := by
  let u := s.wr HIF_PM_SLEEP 0 (HIF_PM_SLEEP.of 0#32)
  have hsleep : u.rd HIF_PM_SLEEP 0 = 0 := State.rd_wr_self _ _ (by decide) (by decide)
  have hd3' : u.rd HIF_PM_D3 0 = 0 := (State.rd_wr_ne _ _ (by decide)).trans hd3
  have hrun : s.writeHifPm 0#32 = u.sleepEnd := if_neg (by rw [State.on, hsleep]; decide)
  refine ⟨_, rfl, ?_⟩
  rw [State.byHost_of_none hdef, hrun]
  exact ⟨(u.sleepEnd_off_self.rd_eq (by decide +kernel)).trans hsleep, State.sleepEnd_awake hsleep hd3'⟩

/-! ### The link (R374) -/

theorem execLinkDown_falls (s : State) :
    ∃ t, exec .linkDown s = .next t ∧ t.rd HIF_LINK_UP 0 = 0
      ∧ t.rd HIF_LINKDN_CNT 0 = min (s.rd HIF_LINKDN_CNT 0 + 1) (2 ^ HIF_LINKDN_CNT.w - 1) ∧ t.tst PG_ERR pgHIF 4 = true := by
  let u := (((s.wr HIF_LINK_UP 0 0).wr HIF_LINK_SPEED 0 0).wr HIF_LINK_WIDTH 0 0).satInc HIF_LINKDN_CNT 0
  have h := State.raiseInt_off (Nat.and_self _) (.refl (a := u.stand 6 0)) [(pgHIF, 0)] pgHIF 4 allPorts
  have hup : u.rd HIF_LINK_UP 0 = 0 := by
    simp (disch := decide) only [u, State.satInc, State.satAdd, State.rd_wr_ne, State.rd_wr_self]
    rfl
  have hcnt : u.rd HIF_LINKDN_CNT 0 = min (s.rd HIF_LINKDN_CNT 0 + 1) (2 ^ HIF_LINKDN_CNT.w - 1) := by
    rw [State.rd_satInc_self (by decide) (by decide), State.rd_wr_ne _ _ (by decide), State.rd_wr_ne _ _ (by decide),
      State.rd_wr_ne _ _ (by decide)]
  exact ⟨(u.stand 6 0).raiseInt [(pgHIF, 0)] pgHIF 4 allPorts, rfl, (h.rd_eq (by decide +kernel)).trans hup,
    (h.rd_eq (by decide +kernel)).trans hcnt,
    (u.stand 6 0).raiseInt_tst [(pgHIF, 0)] allPorts (by decide +kernel) (by decide) (by decide)⟩

theorem execPcieErrorTlp_counts (s : State) :
    ∃ t, exec (.pcieErrorTlp false) s = .next t
      ∧ t.rd HIF_UNCORR_CNT 0 = min (s.rd HIF_UNCORR_CNT 0 + 1) (2 ^ HIF_UNCORR_CNT.w - 1) ∧ t.tst PG_ERR pgHIF 3 = true := by
  have h := State.raise_off (Nat.and_self _) (.refl (a := s.satInc HIF_UNCORR_CNT 0)) pgHIF 3 allPorts
  exact ⟨(s.satInc HIF_UNCORR_CNT 0).raise pgHIF 3 allPorts, rfl,
    (h.rd_eq (by decide +kernel)).trans (State.rd_satInc_self (by decide) (by decide)),
    State.raise_tst _ _ (by decide) (by decide)⟩

theorem execLinkUp_rises (s : State) (speed width : Fin 5) :
    ∃ t, exec (.linkUp speed width) s = .next t ∧ t.rd HIF_LINK_UP 0 = 1
      ∧ t.rd HIF_LINK_SPEED 0 = min speed.val (s.rd HIF_CFG_MAX_GT 0)
      ∧ t.rd HIF_LINK_WIDTH 0 = min width.val (s.rd HIF_LINK_STRAP_W 0) := by
  let u := (s.wr HIF_LINK_UP 0 1).wr HIF_LINK_SPEED 0 (min speed.val (s.rd HIF_CFG_MAX_GT 0))
  let v := u.wr HIF_LINK_WIDTH 0 (min width.val (u.rd HIF_LINK_STRAP_W 0))
  have hm := Nat.and_self (F.State.int ||| F.State.unstand)
  have h : Off (F.State.int ||| F.State.unstand) v ((v.int pgHIF 0).unstand 6 0) :=
    State.unstand_off (sb hm (by decide)) (State.int_off (sb hm (by decide)) .refl ..) ..
  have hstrap : u.rd HIF_LINK_STRAP_W 0 = s.rd HIF_LINK_STRAP_W 0 := by
    simp (disch := decide) only [u, State.rd_wr_ne]
  refine ⟨(v.int pgHIF 0).unstand 6 0, rfl, (h.rd_eq (by decide +kernel)).trans ?_, (h.rd_eq (by decide +kernel)).trans ?_,
    (h.rd_eq (by decide +kernel)).trans ?_⟩
  · simp (disch := decide) only [v, u, State.rd_wr_ne, State.rd_wr_self]
    rfl
  · simp (disch := decide) only [v, u, State.rd_wr_ne, State.rd_wr_self]
    exact Nat.mod_eq_of_lt (Nat.lt_of_le_of_lt (Nat.min_le_left ..) (Nat.lt_trans speed.isLt (by decide)))
  · simp (disch := decide) only [v, hstrap, State.rd_wr_self]
    exact Nat.mod_eq_of_lt (Nat.lt_of_le_of_lt (Nat.min_le_left ..) (Nat.lt_trans width.isLt (by decide)))

/-- Settles O45: each access and each change of power reaches, beside the fields of its clause, only what it stops or reports. That a
late timeout leaves the clock where it stands is the model's choice (log entry 3). -/
theorem hostLinkCommandsComplete : Obligations.HostLinkCommandsComplete :=
  ⟨execBadAccess_counts, fun _ => ⟨_, rfl, State.rd_satInc_self (by decide) (by decide)⟩, fun _ _ _ => execTunnelledRead_sends,
   fun _ _ _ => execTunnelTimeout_answers, execD3hotEntry_sleeps, fun _ => execD0Return_wakes, fun _ => execHostSleepEntry_sleeps,
   fun _ => execHostSleepExit_wakes, execLinkDown_falls, execPcieErrorTlp_counts, execLinkUp_rises⟩

end Sys2Proof.Machine

/-! PROOF. The running descriptor of a queue under the operations of the queues, and the descriptors (spec/12_storage_manager.md R349;
spec/13_host_interface.md R359 to R363). -/
namespace Sys2Proof.Machine
open Sys2Proof
set_option Elab.async false

/-! ### A queue's engine -/

theorem Tab.set_set {α : Type} (v w : α) (i : Nat) : ∀ t : Tab α, Tab.set (Tab.set t i v) i w = Tab.set t i w
  | [] => by simp [Tab.set]
  | (k, x) :: t => by
    have ih := Tab.set_set v w i t
    by_cases hlt : i < k
    · simp [Tab.set, hlt]
    · by_cases heq : k = i
      · simp [Tab.set, heq]
      · simp [Tab.set, hlt, heq, ih]

@[simp] theorem State.setDmaQ_dmaQ_self (s : State) (q : Nat) (f : DmaQ → DmaQ) : (s.setDmaQ q f).dmaQ q = f (s.dmaQ q) :=
  Tab.get_set_self ..

theorem State.setDmaQ_setDmaQ (s : State) (q : Nat) (f g : DmaQ → DmaQ) :
    (s.setDmaQ q f).setDmaQ q g = s.setDmaQ q (g ∘ f) := by
  have hset : ((s.setDmaQ q f).hif.dma.set q (g ((s.setDmaQ q f).dmaQ q))) = s.hif.dma.set q (g (f (s.dmaQ q))) := by
    rw [State.setDmaQ_dmaQ_self]
    exact Tab.set_set ..
  rw [State.setDmaQ, State.setHif, hset]
  rfl

@[simp] theorem State.setDmaQ_rd (s : State) (q : Nat) (f : DmaQ → DmaQ) (g : Fld) (j : Nat) : (s.setDmaQ q f).rd g j = s.rd g j :=
  rfl

theorem State.setRun_run (s : State) (q : Nat) (f : DmaRun → DmaRun) : ((s.setRun q f).dmaQ q).run = (s.dmaQ q).run.map f := by
  rw [State.setRun, State.setDmaQ_dmaQ_self]

theorem State.descBegin_run (s : State) (q : Nat) (r : DmaRun) : ((s.descBegin q r).dmaQ q).run = some r := by
  rw [State.descBegin, State.setDmaQ_dmaQ_self]

theorem State.descBegin_head (s : State) (q : Fin 8) (r : DmaRun) :
    (s.descBegin q r).rd DMA_Q_HEAD q = (s.rd DMA_Q_HEAD q + 1) % 2 ^ DMA_Q_HEAD.w :=
  State.rd_wr_self (f := DMA_Q_HEAD) _ _ (Fld.has_of_lt rfl rfl q.isLt) (by decide)

/-- A change of the running descriptor as it starts is the start of the changed descriptor. -/
theorem State.descBegin_setRun (s : State) (q : Nat) (r : DmaRun) (f : DmaRun → DmaRun) :
    (s.descBegin q r).setRun q f = s.descBegin q (f r) := by
  rw [State.descBegin, State.setRun, State.setDmaQ_setDmaQ]
  rfl

theorem State.descBegin_off_self (s : State) (q : Nat) (r : DmaRun) : Off F.State.descBegin s (s.descBegin q r) :=
  State.descBegin_off (Nat.and_self _) .refl q r

theorem State.runOf_idx (s : State) (q : Nat) (d : Desc) : (s.runOf q d).idx = s.rd DMA_Q_HEAD q := rfl

theorem State.descBegin_runIdx (s : State) (q : Nat) (r : DmaRun) : (s.descBegin q r).runIdx q = r.idx := by
  rw [State.runIdx, State.descBegin_run]

theorem State.descBegin_devId (s : State) (q : Fin 8) (r : DmaRun) : (s.descBegin q r).devId = s.devId :=
  (s.descBegin_off_self q r).rd_eq (by decide +kernel)

theorem State.descRun_of_starts {s : State} {q : Nat} {d : Desc} {k : Nat} (hstart : s.mayStart q = true) (hkind : d.kind = k)
    (herr : s.descErr d = none) (f : State → State) : s.descRun q d k f = f (s.descBegin q (s.runOf q d)) := by
  rw [State.descRun, hstart, hkind, bne_self_eq_false, Bool.not_true, Bool.or_self, if_neg Bool.false_ne_true, herr]

theorem State.descRun_of_refused {s : State} {q : Nat} {d : Desc} {k e : Nat} (hstart : s.mayStart q = true) (hkind : d.kind = k)
    (herr : s.descErr d = some e) (f : State → State) :
    s.descRun q d k f = s.descBegin q { s.runOf q d with status := e, done := true } := by
  rw [State.descRun, hstart, hkind, bne_self_eq_false, Bool.not_true, Bool.or_self, if_neg Bool.false_ne_true, herr]

/-! ### Descriptors that complete as they start (R359) -/

theorem State.descErr_of_nop {s : State} {d : Desc} (hkind : d.kind = 0) : s.descErr d = none := by
  simp [State.descErr, hkind]

theorem execDescNop_completes {s : State} {q : Fin 8} {d : Desc} (hstart : s.mayStart q = true) (hkind : d.kind = 0) :
    ∃ t, exec (.descNop q d) s = .next t ∧ (t.dmaQ q).run = some { s.runOf q d with done := true }
      ∧ t.rd DMA_Q_HEAD q = (s.rd DMA_Q_HEAD q + 1) % 2 ^ DMA_Q_HEAD.w := by
  have hrun : s.descNop q d = s.descBegin q { s.runOf q d with done := true } := by
    rw [State.descNop, State.descRun_of_starts hstart hkind (State.descErr_of_nop hkind), State.descBegin_setRun]
  exact ⟨_, congrArg Host.Outcome.next hrun, State.descBegin_run .., State.descBegin_head ..⟩

theorem execDescRefusedKind_refuses {s : State} {q : Fin 8} {d : Desc} (hstart : s.mayStart q = true)
    (herr : s.descErr d = some 6) :
    ∃ t, exec (.descRefusedKind q d) s = .next t ∧ (t.dmaQ q).run = some { s.runOf q d with status := 6, done := true }
      ∧ t.rd DMA_Q_HEAD q = (s.rd DMA_Q_HEAD q + 1) % 2 ^ DMA_Q_HEAD.w := by
  have hrun : s.descRefused q d = s.descBegin q { s.runOf q d with status := 6, done := true } :=
    (if_pos herr).trans (State.descRun_of_refused hstart rfl herr _)
  exact ⟨_, congrArg Host.Outcome.next hrun, State.descBegin_run .., State.descBegin_head ..⟩

theorem execDescFetchError_stops {s : State} {q : Fin 8} (hstart : s.mayStart q = true) :
    ∃ t, exec (.descFetchError q) s = .next t ∧ t.qState q = qSTOPPED
      ∧ (t.dmaQ q).run.map (fun r => (r.tag, r.status, r.done)) = some (0xFFFF, 4, true) ∧ t.tst PG_ERR pgDMA 1 = true := by
  let u := s.descBegin q { s.runOf q ⟨0, 0, 0, 0, 0, 0⟩ with tag := 0xFFFF, status := 4, done := true, failed := true }
  let v := (u.wr DMA_Q_STAT_STATE q qSTOPPED).stand 7 q
  have hrun : s.descFetch q = v.raise pgDMA 1 allPorts := if_neg (by rw [hstart]; decide)
  have h := State.raise_off (Nat.and_self _) (.refl (a := v)) pgDMA 1 allPorts
  refine ⟨_, congrArg Host.Outcome.next hrun, ?_, ?_, State.raise_tst _ _ (by decide) (by decide)⟩
  · rw [State.qState, h.rd_eq_of_lt (by decide +kernel) q.isLt]
    exact State.rd_wr_self (f := DMA_Q_STAT_STATE) _ _ (Fld.has_of_lt rfl rfl q.isLt) (by decide)
  · have hq : (v.raise pgDMA 1 allPorts).dmaQ q = u.dmaQ q := by
      rw [State.dmaQ, h.hif_eq (by decide)]
      rfl
    rw [hq, State.descBegin_run]
    rfl

/-! ### Data of this device (R349, R359) -/

theorem State.bulkHere_of_data {s : State} {q : Nat} {d : Desc} {st info : Nat} {ws : List Word}
    (hdata : s.bulkData d = (st, info, ws)) (hws : ws ≠ []) :
    s.bulkHere q d = (s.toHost (.write d.host ws)).setRun q fun r =>
      { r with status := st, info := info, bytes := 4 * ws.length, done := true } := by
  have hsome : (!ws.isEmpty) = true := by cases ws <;> simp_all
  simp only [State.bulkHere, hdata, State.cond, hsome, if_true]

/-- The data of a descriptor that has started go to the host, and the descriptor is done. -/
theorem State.bulkHere_completes {s : State} {q : Fin 8} {d : Desc} {r : DmaRun} {st info : Nat} {ws : List Word}
    (hdata : (s.descBegin q r).bulkData d = (st, info, ws)) (hws : ws ≠ []) :
    (((s.descBegin q r).bulkHere q d).dmaQ q).run
        = some { r with status := st, info := info, bytes := 4 * ws.length, done := true }
      ∧ ((s.descBegin q r).bulkHere q d).hif.out = s.hif.out ++ [.write d.host ws]
      ∧ ((s.descBegin q r).bulkHere q d).rd DMA_Q_HEAD q = (s.rd DMA_Q_HEAD q + 1) % 2 ^ DMA_Q_HEAD.w := by
  rw [State.bulkHere_of_data hdata hws]
  refine ⟨?_, rfl, s.descBegin_head q r⟩
  have hrun : (((s.descBegin q r).toHost (.write d.host ws)).dmaQ q).run = some r := s.descBegin_run q r
  rw [State.setRun_run, hrun]
  rfl

theorem execDescMemoryRead_moves {s : State} {q : Fin 8} {d : Desc} {st info : Nat} {ws : List Word}
    (hstart : s.mayStart q = true) (hkind : d.kind = 1) (herr : s.descErr d = none) (hdev : d.dev = s.devId)
    (hdata : (s.descBegin q (s.runOf q d)).bulkData d = (st, info, ws)) (hws : ws ≠ []) :
    ∃ t, exec (.descMemoryRead q d) s = .next t
      ∧ (t.dmaQ q).run = some { s.runOf q d with status := st, info := info, bytes := 4 * ws.length, done := true }
      ∧ t.hif.out = s.hif.out ++ [.write d.host ws] ∧ t.rd DMA_Q_HEAD q = (s.rd DMA_Q_HEAD q + 1) % 2 ^ DMA_Q_HEAD.w := by
  have hrun : s.descBulk q d 1 = (s.descBegin q (s.runOf q d)).bulkHere q d := by
    rw [State.descBulk, State.descRun_of_starts hstart hkind herr, if_pos (by rw [State.descBegin_devId, hdev])]
    exact if_neg (by decide)
  exact ⟨_, congrArg Host.Outcome.next hrun, State.bulkHere_completes hdata hws⟩

theorem execDescMediumRead_moves {s : State} {q : Fin 8} {d : Desc} {st info : Nat} {ws : List Word}
    (hstart : s.mayStart q = true) (hkind : d.kind = 2) (herr : s.descErr d = none) (hdev : d.dev = s.devId)
    (hidle : s.stm.work = []) (hahead : s.ahead 3 = false)
    (hdata : (s.descBegin q (s.runOf q d)).bulkData d = (st, info, ws)) (hws : ws ≠ []) :
    ∃ t, exec (.descMediumRead q d) s = .next t
      ∧ (t.dmaQ q).run = some { s.runOf q d with status := st, info := info, bytes := 4 * ws.length, done := true }
      ∧ t.hif.out = s.hif.out ++ [.write d.host ws] ∧ t.rd DMA_Q_HEAD q = (s.rd DMA_Q_HEAD q + 1) % 2 ^ DMA_Q_HEAD.w := by
  let u := s.descBegin q (s.runOf q d)
  have hu := s.descBegin_off_self q (s.runOf q d)
  have hahead' : u.ahead 3 = false := (hu.ahead_eq (by decide) (by decide +kernel) rfl 3).trans hahead
  have hrun : (s.descBulk q d 2).serve = u.bulkHere q d := by
    rw [State.descBulk, State.descRun_of_starts hstart hkind herr, if_pos (by rw [State.descBegin_devId, hdev]), if_pos rfl]
    exact State.medium_of_idle (s := u) (w := .bulk q d) hidle hahead'
  exact ⟨_, congrArg Host.Outcome.next hrun, State.bulkHere_completes hdata hws⟩

/-! ### Ranges of registers (R359) -/

/-- Two steps that agree while a property lasts leave the same. -/
theorem foldl_congr_of_invariant {α β : Type} {f g : α → β → α} {P : α → Prop} (h : ∀ x b, P x → f x b = g x b ∧ P (g x b))
    (l : List β) : ∀ x, P x → l.foldl f x = l.foldl g x := by
  induction l with
  | nil => exact fun _ _ => rfl
  | cons b l ih =>
    intro x hx
    obtain ⟨heq, hp⟩ := h x b hx
    rw [List.foldl_cons, List.foldl_cons, heq, ih _ hp]

theorem State.not_deferred {s : State} (hdef : s.sys.deferred = []) : ¬ (!s.sys.deferred.isEmpty) = true := by
  rw [hdef]
  decide

theorem State.access_write {s : State} (hdef : s.sys.deferred = []) (a : Nat) (v : Word) :
    s.access (.write a v) = s.hostWrite a v := if_neg (State.not_deferred hdef)

theorem State.access_descRead {s : State} (hdef : s.sys.deferred = []) (q i a h : Nat) (last : Bool) :
    s.access (.descRead q i a h last) = s.descWord q i a h last := if_neg (State.not_deferred hdef)

theorem State.access_descEnd {s : State} (hdef : s.sys.deferred = []) (q i : Nat) :
    s.access (.descEnd q i) = s.setRunAt q i fun r => { r with done := true } := if_neg (State.not_deferred hdef)

theorem execDescRegisterRead_reads {s : State} {q : Fin 8} {d : Desc} (hdef : s.sys.deferred = []) (hstart : s.mayStart q = true)
    (hkind : d.kind = 3) (herr : s.descErr d = none) (hdev : d.dev = s.devId) :
    exec (.descRegisterRead q d) s = .next ((List.range (d.len / 4)).foldl (fun s' k =>
      s'.descWord q (s.rd DMA_Q_HEAD q) (d.devAddr + 4 * k) (d.host + 4 * k) (k + 1 == d.len / 4))
      (s.descBegin q (s.runOf q d))) := by
  refine congrArg Host.Outcome.next ?_
  rw [State.descRegRead, State.descRun_of_starts hstart hkind herr, State.descBegin_runIdx]
  refine foldl_congr_of_invariant (P := fun u : State => u.sys.deferred = [] ∧ u.devId = s.devId) ?_ _ _
    ⟨hdef, s.descBegin_devId q _⟩
  rintro u k ⟨hdef, hid⟩
  have h := State.descWord_off (Nat.and_self _) (.refl (a := u)) q (s.rd DMA_Q_HEAD q) (d.devAddr + 4 * k) (d.host + 4 * k)
    (k + 1 == d.len / 4)
  refine ⟨?_, (congrArg SysSt.deferred (h.part .sys (by decide))).trans hdef, (h.rd_eq (by decide +kernel)).trans hid⟩
  rw [if_pos (hdev.trans hid.symm), State.access_descRead hdef, State.runOf_idx]

/-- The one word of a range goes out before the descriptor is done. -/
theorem State.descRegWrite_of_word {s u v : State} {q : Fin 8} {d : Desc} {w : Word} (hdef : s.sys.deferred = [])
    (hstart : s.mayStart q = true) (hkind : d.kind = 4) (herr : s.descErr d = none) (hdev : d.dev = s.devId) (hlen : d.len = 4)
    (hu : u = s.descBegin q { s.runOf q d with bytes := 4 }) (hv : u.hostWrite d.devAddr w = v) (hdef' : v.sys.deferred = []) :
    s.descRegWrite q d [w] = v.setRunAt q (s.rd DMA_Q_HEAD q) fun r => { r with done := true } := by
  have hdefu : u.sys.deferred = [] := hu ▸ hdef
  have hidu : d.dev = u.devId := by rw [hu, State.descBegin_devId, hdev]
  have hset : (s.descBegin q (s.runOf q d)).setRun q (fun r => { r with status := 0, bytes := 4 }) = u := by
    rw [State.descBegin_setRun, hu, State.runOf]
  have hwrite : u.access (.write d.devAddr w) = v := (State.access_write hdefu ..).trans hv
  rw [State.descRegWrite, State.descRun_of_starts hstart hkind herr]
  extract_lets n i xs st x
  have hn : n = 1 := by rw [show n = d.len / 4 from rfl, hlen]
  have hxs : xs = [(w, 0)] := by rw [show xs = ([w].take n).zipIdx from rfl, hn]; rfl
  have hst : st = 0 := by rw [show st = if [w].length < n then 4 else 0 from rfl, hn]; rfl
  have hx : x = u := by
    rw [← hset, show x = (s.descBegin q (s.runOf q d)).setRun q (fun r => { r with status := st, bytes := 4 * xs.length }) from rfl,
      hst, hxs, List.length_singleton, Nat.mul_one]
  have hi : i = s.rd DMA_Q_HEAD q := s.descBegin_runIdx ..
  rw [hx, hi, hxs, List.foldl_cons, List.foldl_nil, Nat.mul_zero, Nat.add_zero, if_pos hidu, hwrite, State.access_descEnd hdef']

theorem execDescRegisterWrite_writes {s u v : State} {q : Fin 8} {d : Desc} {w : Word} (hdef : s.sys.deferred = [])
    (hstart : s.mayStart q = true) (hkind : d.kind = 4) (herr : s.descErr d = none) (hdev : d.dev = s.devId) (hlen : d.len = 4)
    (hu : u = s.descBegin q { s.runOf q d with bytes := 4 }) (hv : u.hostWrite d.devAddr w = v) (hdef' : v.sys.deferred = []) :
    ∃ t, exec (.descRegisterWrite q d [w]) s = .next t ∧ t.regs = v.regs ∧ t.mem = v.mem
      ∧ (t.dmaQ q).run = (v.dmaQ q).run.map fun r => if r.idx = s.rd DMA_Q_HEAD q then { r with done := true } else r :=
  ⟨_, congrArg Host.Outcome.next (State.descRegWrite_of_word hdef hstart hkind herr hdev hlen hu hv hdef'), rfl, rfl,
    State.setRun_run ..⟩

/-! ### Completion entries (R361, R362) -/

/-- A write of a field leaves the others of its place in a row of equal strides. -/
theorem State.rd_wr_ne_at {s : State} {f g : Fld} (i v : Nat) (hstride : f.stride = g.stride) (hkey : f.key 0 ≠ g.key 0) :
    (s.wr f i v).rd g i = s.rd g i := State.rd_wr_ne _ _ (Fld.key_ne hstride hkey i)

/-- What a completion entry reaches after the queue's tail, its phase and its count: its errors and its signal. -/
def F.doneTail : Nat := F.State.writeEntry ^^^ (1 <<< 214 ||| 1 <<< 215 ||| 1 <<< 567)

theorem State.signal_run (s : State) (q : Nat) : ((s.signal q).dmaQ q).run = (s.dmaQ q).run := by
  rw [State.signal, State.setDmaQ_dmaQ_self]
  rfl

theorem State.writeEntry_completes (s : State) (q : Fin 8) (r : DmaRun) :
    ((s.writeEntry q r).dmaQ q).run = none
      ∧ (s.writeEntry q r).rd DMA_Q_DONE_CNT q = min (s.rd DMA_Q_DONE_CNT q + 1) (2 ^ DMA_Q_DONE_CNT.w - 1)
      ∧ (s.writeEntry q r).rd DMA_CQ_TAIL_TAIL q = (s.rd DMA_CQ_TAIL_TAIL q + 1) % 2 ^ DMA_CQ_TAIL_TAIL.w := by
  have hm := Nat.and_self F.doneTail
  unfold State.writeEntry
  extract_lets t base w0 w s1 s2 s3 s4 s5 mt s6 full
  have h3 : Off (1 <<< 214) s2 s3 := State.cond_off .refl (fun _ h => .wr h (has_DMA_CQ_TAIL_PHASE (by decide)) ..) _
  have h5 : Off F.doneTail s4 s5 := State.cond_off .refl (fun _ h => .wr (.wr (State.satInc_off h
    (has_DMA_Q_ERR_CNT (by decide)) ..) (has_DMA_Q_STAT_LAST_ERR (by decide)) ..) (has_DMA_Q_STAT_ERR_SEEN (by decide)) ..) _
  have h6 : Off F.doneTail s4 s6 := State.setDmaQ_off (sb hm (by decide)) h5 ..
  have hend : Off F.doneTail s4 (s6.cond (full || r.notify || r.status != 0 || s6.on HIF_PM_ASLEEP_NOW 0) fun s => s.signal q) :=
    State.cond_off h6 (fun _ h => State.signal_off (sb hm (by decide)) h ..) _
  refine ⟨?_, ?_, ?_⟩
  · have hnone : (s6.dmaQ q).run = none := by rw [State.setDmaQ_dmaQ_self]
    unfold State.cond
    split
    · rw [State.signal_run, hnone]
    · exact hnone
  · have h3cnt : s3.rd DMA_Q_DONE_CNT q = s.rd DMA_Q_DONE_CNT q := by
      rw [h3.rd_eq_of_lt (by decide +kernel) q.isLt]
      exact State.rd_wr_ne_at _ _ (by decide) (by decide)
    rw [hend.rd_eq_of_lt (by decide +kernel) q.isLt, State.rd_satInc_self (Fld.has_of_lt rfl rfl q.isLt) (by decide), h3cnt]
  · have h4 : s4.rd DMA_CQ_TAIL_TAIL q = s3.rd DMA_CQ_TAIL_TAIL q := State.rd_wr_ne_at _ _ (by decide) (by decide)
    rw [hend.rd_eq_of_lt (by decide +kernel) q.isLt, h4, h3.rd_eq_of_lt (by decide +kernel) q.isLt]
    exact State.rd_wr_self _ _ (Fld.has_of_lt rfl rfl q.isLt) (by decide)

theorem execDescComplete_completes {s : State} {q : Fin 8} {r : DmaRun} (hrun : (s.dmaQ q).run = some r) (hdone : r.done = true)
    (hd3 : s.rd HIF_PM_D3 0 = 0) :
    ∃ t, exec (.descComplete q) s = .next t ∧ (t.dmaQ q).run = none
      ∧ t.rd DMA_Q_DONE_CNT q = min (s.rd DMA_Q_DONE_CNT q + 1) (2 ^ DMA_Q_DONE_CNT.w - 1)
      ∧ t.rd DMA_CQ_TAIL_TAIL q = (s.rd DMA_CQ_TAIL_TAIL q + 1) % 2 ^ DMA_CQ_TAIL_TAIL.w := by
  have hentry : s.descComplete q = s.writeEntry q r := by
    simp only [State.descComplete, hrun]
    exact if_pos (by rw [hdone, State.on, hd3]; rfl)
  exact ⟨_, congrArg Host.Outcome.next hentry, s.writeEntry_completes q r⟩

theorem execDmaDoorbell_moves {s : State} {q : Fin 8} {v : Word} (hdef : s.sys.deferred = []) :
    ∃ t, exec (.dmaDoorbell q v) s = .next t ∧ t.rd DMA_Q_TAIL q = DMA_Q_TAIL.of v := by
  refine ⟨_, rfl, ?_⟩
  rw [State.byHost_of_none hdef]
  exact (State.rd_wr_self _ _ (Fld.has_of_lt rfl rfl q.isLt) (by decide)).trans (Fld.of_mod ..)

/-- Settles O46: a descriptor starts, its data move and its completion entry is written; none of it reaches another descriptor's
fields. That a range of registers waits word by word behind a command is the model's choice (log entry 26). -/
theorem descriptorCommandsComplete : Obligations.DescriptorCommandsComplete :=
  ⟨fun _ _ _ => execDmaDoorbell_moves, fun _ _ _ => execDescNop_completes, fun _ _ _ _ _ _ => execDescMemoryRead_moves,
   fun _ _ _ _ _ _ => execDescMediumRead_moves, fun _ _ _ => execDescRegisterRead_reads,
   fun _ _ _ _ _ _ => execDescRegisterWrite_writes, fun _ _ _ => execDescRefusedKind_refuses,
   fun _ _ _ => execDescComplete_completes, fun _ _ => execDescFetchError_stops⟩

end Sys2Proof.Machine

/-! PROOF. The states of the queues (spec/13_host_interface.md R362, R363, R374). -/
namespace Sys2Proof.Machine
open Sys2Proof
set_option Elab.async false

/-! ### Signals (R362) -/

theorem execCqHeadWrite_writes {s : State} {q : Fin 8} {v : Word} (hdef : s.sys.deferred = []) :
    ∃ t, exec (.cqHeadWrite q v) s = .next t ∧ t.rd DMA_CQ_HEAD q = DMA_CQ_HEAD.of v := by
  refine ⟨_, rfl, ?_⟩
  rw [State.byHost_of_none hdef, State.writeCqHead, State.setDmaQ_rd]
  exact (State.rd_wr_self _ _ (Fld.has_of_lt rfl rfl q.isLt) (by decide)).trans (Fld.of_mod ..)

theorem execModerationTimeout_signals {s : State} {q : Fin 8} {a : Nat} {l : List (Option Nat)}
    (hunsig : (s.dmaQ q).unsig = some a :: l) :
    ∃ t, exec (.moderationTimeout q) s = .next t ∧ t.rd DMA_Q_STAT_SIG q = s.rd DMA_CQ_TAIL_TAIL q ∧ (t.dmaQ q).unsig = []
      ∧ t.now = max s.now a := by
  have hrun : s.modTimeout q = (s.reach a).signal q := by simp only [State.modTimeout, hunsig]
  refine ⟨_, congrArg Host.Outcome.next hrun, ?_, ?_, s.reach_now a⟩
  · rw [State.signal, State.setDmaQ_rd, State.rd_wr_self _ _ (Fld.has_of_lt rfl rfl q.isLt) (by decide), State.reach_rd]
    exact s.rd_mod DMA_CQ_TAIL_TAIL q
  · rw [State.signal, State.setDmaQ_dmaQ_self]

/-! ### A write of DMA_Q_CFG (R363) -/

/-- The fields of a queue's configuration. -/
def qCfgFlds : List Fld := [DMA_Q_CFG_EN, DMA_Q_CFG_MOD_CNT, DMA_Q_CFG_MOD_TIME]

theorem DMA_Q_CFG_EN_of (v : Word) : DMA_Q_CFG_EN.of v = (v.getLsbD 31).toNat := (Nat.toNat_testBit v.toNat 31).symm

theorem State.wrWord_qCfg_en (s : State) (q : Fin 8) (v : Word) :
    (s.wrWord qCfgFlds q v).rd DMA_Q_CFG_EN q = (v.getLsbD 31).toNat := by
  have hdistinct : ∀ q < 8, qCfgFlds.Pairwise (·.key q ≠ ·.key q) := by decide
  rw [← DMA_Q_CFG_EN_of]
  exact State.rd_wrWord_self s (.head _) (hdistinct q q.isLt) (Fld.has_of_lt rfl rfl q.isLt) (by decide)

theorem State.wrWord_qCfg_qState (s : State) (q : Fin 8) (v : Word) : (s.wrWord qCfgFlds q v).qState q = s.qState q := by
  have hne : ∀ q < 8, ∀ f ∈ qCfgFlds, f.key q ≠ DMA_Q_STAT_STATE.key q := by decide
  exact State.rd_wrWord_ne s (hne q q.isLt)

/-- A queue is enabled with aligned rings and an entry signalled at once. -/
theorem State.writeQCfg_enables {s : State} {q : Fin 8} {v : Word} (hen : v.getLsbD 31 = true) (hreset : v.getLsbD 30 = false)
    (hwas : s.rd DMA_Q_CFG_EN q = 0) (hbase : s.rd DMA_Q_BASE_LO q % 4096 = 0) (hcq : s.rd DMA_CQ_BASE_LO q % 4096 = 0)
    (hcnt : DMA_Q_CFG_MOD_CNT.of v = 1) :
    s.writeQCfg q v = ((s.wrWord qCfgFlds q v).wr DMA_Q_STAT_STATE q qRUNNING).unstand 7 q := by
  have hoff : s.on DMA_Q_CFG_EN q = false := by rw [State.on, hwas]; rfl
  unfold State.writeQCfg
  rw [hen, hreset, hbase, hcq, hcnt, hoff]
  simp only [Bool.false_and, Bool.false_eq_true, if_false, ne_eq, not_true_eq_false, decide_false, Nat.lt_irrefl, Bool.and_false,
    Bool.or_false, one_ne_zero, Bool.and_self, Bool.not_false, if_true, State.cond]
  rfl

/-- A queue that runs drains as it is disabled. -/
theorem State.writeQCfg_disables {s : State} {q : Fin 8} {v : Word} (hen : v.getLsbD 31 = false) (hreset : v.getLsbD 30 = false)
    (hwas : s.rd DMA_Q_CFG_EN q = 1) (hstate : s.qState q = qRUNNING) :
    s.writeQCfg q v = (s.wrWord qCfgFlds q v).wr DMA_Q_STAT_STATE q qDRAINING := by
  have hon : s.on DMA_Q_CFG_EN q = true := by rw [State.on, hwas]; rfl
  have hstate' : (s.wrWord [DMA_Q_CFG_EN, DMA_Q_CFG_MOD_CNT, DMA_Q_CFG_MOD_TIME] q v).qState q = qRUNNING :=
    (s.wrWord_qCfg_qState q v).trans hstate
  unfold State.writeQCfg
  rw [hen, hreset, hon]
  simp only [Bool.false_and, Bool.false_eq_true, if_false, Bool.not_false, Bool.not_true, Bool.and_self, if_true, State.cond, hstate']
  rfl

/-- The indices of a queue start again. -/
def State.resetQueue (s : State) (q : Nat) : State :=
  ((((((s.wr DMA_Q_TAIL q 0).wr DMA_Q_HEAD q 0).wr DMA_CQ_HEAD q 0).wr DMA_CQ_TAIL_TAIL q 0).wr DMA_CQ_TAIL_PHASE q 1).wr
    DMA_Q_STAT_SIG q 0).setDmaQ q fun x => { x with unsig := [] }

theorem State.writeQCfg_resets {s : State} {q : Fin 8} {v : Word} (hen : v.getLsbD 31 = false) (hreset : v.getLsbD 30 = true)
    (hwas : s.rd DMA_Q_CFG_EN q = 0) (hstate : s.qState q = qIDLE) :
    s.writeQCfg q v = (s.wrWord qCfgFlds q v).resetQueue q := by
  have hoff : s.on DMA_Q_CFG_EN q = false := by rw [State.on, hwas]; rfl
  unfold State.writeQCfg
  rw [hen, hreset, hoff, hstate]
  simp only [Bool.false_and, Bool.or_self, bne_self_eq_false, Bool.and_false, Bool.false_eq_true, if_false, if_true, State.cond,
    Bool.not_false]
  rfl

theorem State.resetQueue_reads (s : State) (q : Fin 8) :
    (s.resetQueue q).rd DMA_Q_TAIL q = 0 ∧ (s.resetQueue q).rd DMA_Q_HEAD q = 0 ∧ (s.resetQueue q).rd DMA_CQ_HEAD q = 0
      ∧ (s.resetQueue q).rd DMA_CQ_TAIL_TAIL q = 0 ∧ (s.resetQueue q).rd DMA_CQ_TAIL_PHASE q = 1
      ∧ ((s.resetQueue q).dmaQ q).unsig = [] := by
  unfold State.resetQueue
  refine ⟨?_, ?_, ?_, ?_, ?_, by rw [State.setDmaQ_dmaQ_self]⟩
  all_goals
    simp (disch := decide) only [State.setDmaQ_rd, State.rd_wr_ne_at]
    exact State.rd_wr_self _ _ (Fld.has_of_lt rfl rfl q.isLt) (by decide)

theorem execQueueEnable_runs {s : State} {q : Fin 8} {v : Word} (hdef : s.sys.deferred = []) (hwas : s.rd DMA_Q_CFG_EN q = 0)
    (hbase : s.rd DMA_Q_BASE_LO q % 4096 = 0) (hcq : s.rd DMA_CQ_BASE_LO q % 4096 = 0) (hcnt : DMA_Q_CFG_MOD_CNT.of v = 1) :
    ∃ t, exec (.queueEnable q v) s = .next t ∧ t.qState q = qRUNNING ∧ t.rd DMA_Q_CFG_EN q = 1 := by
  have hen : ((v ||| 0x80000000#32) &&& 0xBFFFFFFF#32).getLsbD 31 = true := by
    rw [BitVec.getLsbD_and, getLsbD_or_en]
    decide
  have hreset : ((v ||| 0x80000000#32) &&& 0xBFFFFFFF#32).getLsbD 30 = false := by
    rw [BitVec.getLsbD_and, show (0xBFFFFFFF#32).getLsbD 30 = false by decide, Bool.and_false]
  have hcnt' : DMA_Q_CFG_MOD_CNT.of ((v ||| 0x80000000#32) &&& 0xBFFFFFFF#32) = 1 := by
    rw [Fld.of_and, Fld.of_or_of_zero v (by decide), hcnt]
    decide
  refine ⟨_, rfl, ?_⟩
  rw [State.byHost_of_none hdef, State.writeQCfg_enables hen hreset hwas hbase hcq hcnt']
  refine ⟨State.rd_wr_self (f := DMA_Q_STAT_STATE) _ _ (Fld.has_of_lt rfl rfl q.isLt) (by decide), ?_⟩
  refine (State.rd_wr_ne (f := DMA_Q_STAT_STATE) (g := DMA_Q_CFG_EN) (i := q) (j := q) _ _ (Fld.key_ne (by decide) (by decide) q)).trans ?_
  rw [State.wrWord_qCfg_en, hen]
  rfl

theorem execQueueDisable_drains {s : State} {q : Fin 8} {v : Word} (hdef : s.sys.deferred = []) (hwas : s.rd DMA_Q_CFG_EN q = 1)
    (hstate : s.qState q = qRUNNING) :
    ∃ t, exec (.queueDisable q v) s = .next t ∧ t.qState q = qDRAINING ∧ t.rd DMA_Q_CFG_EN q = 0 := by
  have hen : (v &&& 0x3FFFFFFF#32).getLsbD 31 = false := by
    rw [BitVec.getLsbD_and, show (0x3FFFFFFF#32).getLsbD 31 = false by decide, Bool.and_false]
  have hreset : (v &&& 0x3FFFFFFF#32).getLsbD 30 = false := by
    rw [BitVec.getLsbD_and, show (0x3FFFFFFF#32).getLsbD 30 = false by decide, Bool.and_false]
  refine ⟨_, rfl, ?_⟩
  rw [State.byHost_of_none hdef, State.writeQCfg_disables hen hreset hwas hstate]
  refine ⟨State.rd_wr_self (f := DMA_Q_STAT_STATE) _ _ (Fld.has_of_lt rfl rfl q.isLt) (by decide), ?_⟩
  rw [State.rd_wr_ne _ _ (Fld.key_ne (by decide) (by decide) q), State.wrWord_qCfg_en, hen]
  rfl

theorem execQueueDrained_idles {s : State} {q : Fin 8} (hstate : s.qState q = qDRAINING) (hrun : (s.dmaQ q).run = none) :
    ∃ t, exec (.queueDrained q) s = .next t ∧ t.qState q = qIDLE := by
  have hdrained : s.qDrained q = s.wr DMA_Q_STAT_STATE q qIDLE := if_pos (by rw [hstate, hrun]; rfl)
  exact ⟨_, congrArg Host.Outcome.next hdrained,
    State.rd_wr_self (f := DMA_Q_STAT_STATE) _ _ (Fld.has_of_lt rfl rfl q.isLt) (by decide)⟩

theorem execQueueReset_restarts {s : State} {q : Fin 8} {v : Word} (hdef : s.sys.deferred = []) (hen : v.getLsbD 31 = false)
    (hwas : s.rd DMA_Q_CFG_EN q = 0) (hstate : s.qState q = qIDLE) :
    ∃ t, exec (.queueReset q v) s = .next t ∧ t.rd DMA_Q_TAIL q = 0 ∧ t.rd DMA_Q_HEAD q = 0 ∧ t.rd DMA_CQ_HEAD q = 0
      ∧ t.rd DMA_CQ_TAIL_TAIL q = 0 ∧ t.rd DMA_CQ_TAIL_PHASE q = 1 ∧ (t.dmaQ q).unsig = [] := by
  have hen' : (v ||| 0x40000000#32).getLsbD 31 = false := by
    rw [BitVec.getLsbD_or, hen]
    decide
  have hreset : (v ||| 0x40000000#32).getLsbD 30 = true := by
    rw [BitVec.getLsbD_or, show (0x40000000#32).getLsbD 30 = true by decide, Bool.or_true]
  refine ⟨_, rfl, ?_⟩
  rw [State.byHost_of_none hdef, State.writeQCfg_resets hen' hreset hwas hstate]
  exact State.resetQueue_reads ..

/-! ### A parity error of a buffer (R374) -/

theorem execBufParity_completes {s : State} {q : Fin 8} {r : DmaRun} (hrun : (s.dmaQ q).run = some r) :
    ∃ t, exec (.bufParity q) s = .next t ∧ (t.dmaQ q).run = some { r with status := 5, done := true }
      ∧ t.tst PG_ERR pgDMA 2 = true := by
  have h := State.raise_off (Nat.and_self _) (.refl (a := s.setRun q fun r => { r with status := 5, done := true })) pgDMA 2 allPorts
  refine ⟨_, rfl, ?_, State.raise_tst _ _ (by decide) (by decide)⟩
  have hq : (s.bufParity q).dmaQ q = (s.setRun q fun r => { r with status := 5, done := true }).dmaQ q := by
    rw [State.dmaQ, State.bufParity, h.hif_eq (by decide)]
    rfl
  rw [hq, State.setRun_run, hrun]
  rfl

/-- Settles O47: each form of a write of DMA_Q_CFG passes its checks and leaves the state that it names. That a late timeout leaves the
clock where it stands is the model's choice (log entry 3). -/
theorem queueCommandsComplete : Obligations.QueueCommandsComplete :=
  ⟨fun _ _ _ => execCqHeadWrite_writes, fun _ _ _ _ => execModerationTimeout_signals, fun _ _ _ => execQueueEnable_runs,
   fun _ _ _ => execQueueDisable_drains, fun _ _ => execQueueDrained_idles, fun _ _ _ => execQueueReset_restarts,
   fun _ _ _ => execBufParity_completes⟩

end Sys2Proof.Machine

/-! PROOF. Interrupt sources, claims and targets (spec/13_host_interface.md R364, R366, R367, R369, R370, R372, R374). -/
namespace Sys2Proof.Machine
open Sys2Proof
set_option Elab.async false

/-! ### The sources of the controller -/

theorem State.src_congr {s t : State} (h : t.hif.ic = s.hif.ic) (n : Nat) : t.src n = s.src n := by
  rw [State.src, h, State.src]

@[simp] theorem State.setSrc_src_self (s : State) (n : Nat) (f : IcSrc → IcSrc) : (s.setSrc n f).src n = f (s.src n) :=
  Tab.get_set_self ..

theorem State.line_congr {s t : State} (hregs : t.regs = s.regs) (hic : t.hif.ic = s.hif.ic) (n : Nat) :
    t.line n = s.line n := by
  simp only [State.line, State.topFor, State.shownFor, State.shown, State.targets, State.on, State.rd_congr hregs,
    State.src_congr hic]

/-! ### What the lines and the wakes leave of the interface (R369, R370) -/

theorem State.msix_ic (s : State) (t : Nat) : (s.msix t).hif.ic = s.hif.ic := by
  unfold State.msix
  split
  · rfl
  · split <;> rfl

theorem State.msix_msixEn (s : State) (t : Nat) : (s.msix t).hif.msixEn = s.hif.msixEn := by
  unfold State.msix
  split
  · rfl
  · split <;> rfl

theorem State.lineEval_ic (s : State) (again : Option Nat) : (s.lineEval again).hif.ic = s.hif.ic := by
  refine foldl_keeps (fun s : State => s.hif.ic) (fun u t _ => ?_) s
  dsimp only
  split
  · unfold State.cond
    split
    · exact State.msix_ic ..
    · rfl
  · rfl

theorem State.lineEval_src (s : State) (again : Option Nat) (n : Nat) : (s.lineEval again).src n = s.src n :=
  State.src_congr (s.lineEval_ic again) n

theorem State.wakeEval_src (s : State) (n k : Nat) : (s.wakeEval n).src k = s.src k := by
  refine State.src_congr ?_ k
  unfold State.wakeEval State.cond
  dsimp only
  split
  · split
    · split <;> rfl
    · rfl
  · rfl

/-! ### The gateway (R364) -/

theorem State.gateway_of_disabled {s : State} {n : Nat} (hoff : s.on IC_SRC_EN n = false) : s.gateway n = s := by
  rw [State.gateway, hoff, Bool.and_false, Bool.false_and, if_neg Bool.false_ne_true, ite_self]

theorem State.gateway_of_low {s : State} {n : Nat} (hlow : s.srcLevel n = false) : s.gateway n = s := by
  rw [State.gateway, hlow, Bool.and_false, if_neg Bool.false_ne_true, ite_self]

theorem State.gateway_of_high {s : State} {n : Fin 256} (hn : n.val ≠ 0) (hidle : (s.src n).st = .idle)
    (hen : s.rd IC_SRC_EN n = 1) (hhigh : s.srcLevel n = true) :
    s.gateway n = (s.setSrc n fun x => { x with st := .pending, asserts := x.asserts + 1 }).wakeEval n := by
  have hon : s.on IC_SRC_EN n = true := by rw [State.on, hen]; rfl
  have hsource : ¬ (n.val = 0 ∨ 256 ≤ n.val) := by omega
  rw [State.gateway, if_neg hsource, hidle, hon, hhigh]
  rfl

theorem execSourceAssertion_asserts {s : State} {n : Fin 256} (hn : n.val ≠ 0) (hidle : (s.src n).st = .idle)
    (hen : s.rd IC_SRC_EN n = 1) (hhigh : s.srcLevel n = true) :
    ∃ t, exec (.sourceAssertion n) s = .next t ∧ (t.src n).st = .pending ∧ (t.src n).asserts = (s.src n).asserts + 1 := by
  have hsrc : ((s.gateway n).lineEval none).src n = { s.src n with st := .pending, asserts := (s.src n).asserts + 1 } := by
    rw [State.lineEval_src, State.gateway_of_high hn hidle hen hhigh, State.wakeEval_src, State.setSrc_src_self]
  exact ⟨_, rfl, congrArg IcSrc.st hsrc, congrArg IcSrc.asserts hsrc⟩

/-! ### Claims and completions (R366, R367) -/

theorem State.icCheck_src (s : State) (n k : Nat) : (s.icCheck n).src k = s.src k :=
  State.src_congr (congrArg HifSt.ic ((State.icCheck_off (Nat.and_self _) .refl ..).hif_eq (by decide))) k

theorem State.access_claim {s : State} (hdef : s.sys.deferred = []) (t : Nat) (fast : Bool) :
    s.access (.claim t fast) = s.claimNow t fast := if_neg (State.not_deferred hdef)

/-- A claim of a source makes it active. -/
theorem State.icClaim_of_shown {s : State} {t n : Nat} {fast : Bool} (htop : s.topFor t fast = n) (hn : n ≠ 0) :
    ∃ u, s.icClaim t fast = (u, n)
      ∧ u.src n = { s.src n with st := .active, owner := t, fast := fast, claims := (s.src n).claims + 1 } := by
  subst htop
  refine ⟨_, if_neg hn, ?_⟩
  rw [State.lineEval_src, State.icCheck_src]
  exact s.setSrc_src_self (s.topFor t fast) fun x => { x with st := .active, owner := t, fast := fast, claims := x.claims + 1 }

theorem execIcClaim_claims {s : State} {t : Fin 4} {fast : Bool} {n : Nat} (hdark : s.sys.dark = false)
    (hdef : s.sys.deferred = []) (htop : s.topFor t fast = n) (hn : n ≠ 0) :
    ∃ u, exec (.icClaim t fast) s = .next u ∧ (u.src n).st = .active ∧ (u.src n).owner = t ∧ (u.src n).fast = fast
      ∧ (u.src n).claims = (s.src n).claims + 1 ∧ u.hif.out.getLast? = some (.readData (BitVec.ofNat 32 n)) := by
  obtain ⟨u, hclaim, hsrc⟩ := State.icClaim_of_shown htop hn
  have hrun : s.claimRead t fast = u.toHost (.readData (BitVec.ofNat 32 n)) := by
    rw [State.claimRead, hdark, if_neg Bool.false_ne_true, State.access_claim hdef, State.claimNow, hclaim]
  have hsrc' : (u.toHost (.readData (BitVec.ofNat 32 n))).src n = _ := (State.src_congr rfl n).trans hsrc
  exact ⟨_, congrArg Host.Outcome.next hrun, (congrArg IcSrc.st hsrc' :), (congrArg IcSrc.owner hsrc' :),
    (congrArg IcSrc.fast hsrc' :), (congrArg IcSrc.claims hsrc' :), List.getLast?_concat⟩

theorem execIcComplete_completes {s u : State} {t : Fin 4} {fast : Bool} {n : BitVec 8} (hdef : s.sys.deferred = [])
    (hn : n.toNat ≠ 0) (hlocal : n.toNat < 193) (hactive : (s.src n.toNat).st = .active) (howner : (s.src n.toNat).owner = t)
    (hfast : (s.src n.toNat).fast = fast) (hu : u = s.setSrc n.toNat (fun x => { x with st := .idle }))
    (hlaw : u.icLaw n.toNat = 0) (hlow : u.srcLevel n.toNat = false) :
    ∃ v, exec (.icComplete t fast n) s = .next v ∧ (v.src n.toNat).st = .idle
      ∧ (v.src n.toNat).claims = (s.src n.toNat).claims := by
  have hcomp : s.icComplete t fast n.toNat = s.compNow t fast n.toNat := by
    rw [State.icComplete, decide_eq_false (Nat.not_le.2 hlocal), Bool.and_false, Bool.false_and, Bool.false_and]
    rfl
  have hcheck : u.icCheck n.toNat = u := by rw [State.icCheck, hlaw]; rfl
  have hnow : s.compNow t fast n.toNat = u.lineEval (some t) := by
    rw [State.compNow, if_pos ⟨hn, hactive, howner, hfast⟩, ← hu]
    show ((u.icCheck n.toNat).gateway n.toNat).lineEval (some t.val) = _
    rw [hcheck, State.gateway_of_low hlow]
  have hsrc : (u.lineEval (some t)).src n.toNat = { s.src n.toNat with st := .idle } := by
    rw [State.lineEval_src, hu, State.setSrc_src_self]
  refine ⟨u.lineEval (some t), congrArg Host.Outcome.next ?_, (congrArg IcSrc.st hsrc :), (congrArg IcSrc.claims hsrc :)⟩
  rw [State.byHost_of_none hdef, hcomp, hnow]

/-! ### Writes of the host (R364, R370, R372) -/

/-- The fields of a source's configuration. -/
def srcCfgFlds : List Fld := [IC_SRC_EN, IC_SRC_CLASS, IC_SRC_TARGETS]

theorem State.writeSrcCfg_rd {s : State} {n : Fin 256} {v : Word} (hn : n.val ≠ 0) {f : Fld} (hf : f ∈ srcCfgFlds)
    (hleft : maskAvoids F.State.gateway f = true) (hsize : f.n = 256) (hhas : f.has n = true) (hw : f.w ≤ 32) :
    (s.writeSrcCfg n v).rd f n = f.of v := by
  have hm := Nat.and_self F.State.gateway
  have hdistinct : srcCfgFlds.Pairwise (·.key n ≠ ·.key n) :=
    List.Pairwise.imp (R := fun f g : Fld => f.apart g = true) (fun h => Fld.key_ne_of_apart h n) (by decide)
  rw [State.writeSrcCfg, if_neg hn]
  refine (Off.rd_eq_of_avoids (m := F.State.gateway) (a := s.wrWord srcCfgFlds n v) ?_ hleft (n.isLt.trans_eq hsize.symm)).trans
    (State.rd_wrWord_self s hf hdistinct hhas hw)
  exact State.lineEval_off (sb hm (by decide)) (State.gateway_off hm
    (State.cond_off .refl (fun _ h => State.wakeEval_off hm h ..) _) ..) ..

theorem execSourceConfigWrite_writes {s : State} {n : Fin 256} {v : Word} (hdef : s.sys.deferred = []) (hn : n.val ≠ 0) :
    ∃ t, exec (.sourceConfigWrite n v) s = .next t ∧ t.rd IC_SRC_EN n = IC_SRC_EN.of v
      ∧ t.rd IC_SRC_CLASS n = IC_SRC_CLASS.of v ∧ t.rd IC_SRC_TARGETS n = IC_SRC_TARGETS.of v := by
  refine ⟨s.writeSrcCfg n v, congrArg Host.Outcome.next (State.byHost_of_none hdef ..), ?_, ?_, ?_⟩
  · exact State.writeSrcCfg_rd hn (.head _) (by decide +kernel) rfl (Fld.has_of_lt rfl rfl n.isLt) (by decide)
  · exact State.writeSrcCfg_rd hn (.tail _ (.head _)) (by decide +kernel) rfl (Fld.has_of_lt rfl rfl n.isLt) (by decide)
  · exact State.writeSrcCfg_rd hn (.tail _ (.tail _ (.head _))) (by decide +kernel) rfl (Fld.has_of_lt rfl rfl n.isLt) (by decide)

theorem execCountSnapshot_snapshots {s : State} {v : Word} (hdef : s.sys.deferred = []) :
    ∃ t, exec (.countSnapshot v) s = .next t ∧ t.rd IC_CNT_PTR 0 = IC_CNT_PTR.of v
      ∧ t.rd IC_CNT_ASSERT 0 = (s.src (IC_CNT_PTR.of v)).asserts.toNat
      ∧ t.rd IC_CNT_CLAIM 0 = (s.src (IC_CNT_PTR.of v)).claims.toNat ∧ t.rd IC_CNT_STAT_VALID 0 = 1 := by
  refine ⟨s.writeCntPtr v, congrArg Host.Outcome.next (State.byHost_of_none hdef ..), ?_, ?_, ?_, ?_⟩
  · simp (disch := decide) only [State.writeCntPtr, State.rd_wr_ne, State.rd_wr_self]
    exact Fld.of_mod ..
  · simp (disch := decide) only [State.writeCntPtr, State.rd_wr_ne, State.rd_wr_self]
    exact Nat.mod_eq_of_lt (BitVec.isLt _)
  · simp (disch := decide) only [State.writeCntPtr, State.rd_wr_ne, State.rd_wr_self]
    exact Nat.mod_eq_of_lt (BitVec.isLt _)
  · simp (disch := decide) only [State.writeCntPtr, State.rd_wr_ne, State.rd_wr_self]
    rfl

theorem execWakeClear_clears {s : State} {v : Word} {k : Fin 4} (hdef : s.sys.deferred = []) :
    ∃ t, exec (.wakeClear v) s = .next t ∧ t.tst IC_WAKE 0 k = (s.tst IC_WAKE 0 k && !(IC_WAKE.of v).testBit k) :=
  ⟨s.writeWake v, congrArg Host.Outcome.next (State.byHost_of_none hdef ..), State.tst_clrBits_self _ _ (by decide) (by decide)⟩

/-- The fields of a target's configuration. -/
def tgtCfgFlds : List Fld := [IC_TGT_CFG_MASK, IC_TGT_CFG_ASLEEP, IC_TGT_CFG_DELIV]

/-- The wake bit and the lines. -/
def F.tgtCfgTail : Nat := F.State.lineEval ||| 1 <<< 145

theorem State.writeTgtCfg_rd {s : State} {t : Fin 4} {v : Word} {f : Fld} (hf : f ∈ tgtCfgFlds)
    (hleft : maskAvoids F.tgtCfgTail f = true) (hsize : f.n = 4) (hhas : f.has t = true) (hw : f.w ≤ 32) :
    (s.writeTgtCfg t v).rd f t = f.of v := by
  have hm := Nat.and_self F.tgtCfgTail
  have hdistinct : tgtCfgFlds.Pairwise (·.key t ≠ ·.key t) :=
    List.Pairwise.imp (R := fun f g : Fld => f.apart g = true) (fun h => Fld.key_ne_of_apart h t) (by decide)
  refine (Off.rd_eq_of_avoids (m := F.tgtCfgTail) (a := s.wrWord tgtCfgFlds t v) ?_ hleft (t.isLt.trans_eq hsize.symm)).trans
    (State.rd_wrWord_self s hf hdistinct hhas hw)
  exact State.lineEval_off (sb hm (by decide)) (State.cond_off .refl (fun _ h => .wr h (has_IC_WAKE (by decide)) ..) _) ..

theorem execTargetConfigWrite_writes {s : State} {t : Fin 4} {v : Word} (hdef : s.sys.deferred = []) :
    ∃ u, exec (.targetConfigWrite t v) s = .next u ∧ u.rd IC_TGT_CFG_MASK t = IC_TGT_CFG_MASK.of v
      ∧ u.rd IC_TGT_CFG_ASLEEP t = IC_TGT_CFG_ASLEEP.of v ∧ u.rd IC_TGT_CFG_DELIV t = IC_TGT_CFG_DELIV.of v := by
  refine ⟨s.writeTgtCfg t v, congrArg Host.Outcome.next (State.byHost_of_none hdef ..), ?_, ?_, ?_⟩
  · exact State.writeTgtCfg_rd (.head _) (by decide +kernel) rfl (Fld.has_of_lt rfl rfl t.isLt) (by decide)
  · exact State.writeTgtCfg_rd (.tail _ (.head _)) (by decide +kernel) rfl (Fld.has_of_lt rfl rfl t.isLt) (by decide)
  · exact State.writeTgtCfg_rd (.tail _ (.tail _ (.head _))) (by decide +kernel) rfl (Fld.has_of_lt rfl rfl t.isLt) (by decide)

/-! ### MSI-X (R369) -/

/-- The mask bit of an entry clears as 0 is written to its word. -/
theorem State.stIn_vecMasked {s : State} (v : Fin 4) (hmem : Memory.wf s.mem = true) :
    (s.stIn .vecs (0x10 * v + 12) 0#32).vecMasked v = false := by
  have hin : 0x10 * v.val + 12 + 4 ≤ Region.vecs.size := by
    show 0x10 * v.val + 12 + 4 ≤ 0x40
    omega
  rw [State.vecMasked, State.stIn, if_pos hin, msixEntry, Nat.add_assoc, ld_st_self _ _ hmem]
  rfl

theorem State.stIn_hif (s : State) (r : Region) (o : Nat) (w : Word) : (s.stIn r o w).hif = s.hif := by
  unfold State.stIn
  split <;> rfl

theorem State.stIn_regs (s : State) (r : Region) (o : Nat) (w : Word) : (s.stIn r o w).regs = s.regs := by
  unfold State.stIn
  split <;> rfl

theorem State.setHif_vecMasked (s : State) (g : HifSt → HifSt) (v : Nat) : (s.setHif g).vecMasked v = s.vecMasked v := rfl

theorem State.msix_of_unmasked {s : State} {v : Nat} (hen : s.hif.msixEn = true) (hclear : s.vecMasked v = false) :
    s.msix v = s.toHost (.msix v) := by
  rw [State.msix, hen, hclear]
  rfl

/-- A vector is no longer pending. -/
def State.clrPba (s : State) (v : Nat) : State := s.setHif fun h => { h with pba := h.pba &&& ~~~(BitVec.ofNat 4 (2 ^ v)) }

/-- The message of a pending vector is sent as its mask bit clears. -/
theorem State.writeVecCtl_unmasks {s : State} {v : Fin 4} (hmem : Memory.wf s.mem = true) (hmasked : s.vecMasked v = true)
    (hpba : s.hif.pba.getLsbD v = true) (hen : s.hif.msixEn = true) (hline : s.line v = true)
    (hdeliv : s.rd IC_TGT_CFG_DELIV v = 1) :
    s.writeVecCtl v 0#32 = ((s.stIn .vecs (0x10 * v + 12) 0#32).clrPba v).toHost (.msix v) := by
  have hclear := State.stIn_vecMasked v hmem
  have hhif := s.stIn_hif .vecs (0x10 * v + 12) 0#32
  have hregs := s.stIn_regs .vecs (0x10 * v + 12) 0#32
  have hzero : (0#32 : Word) &&& 1#32 = 0#32 := rfl
  have hbit : (0#32 : Word).getLsbD 0 = false := rfl
  generalize hs1 : s.stIn .vecs (0x10 * v + 12) 0#32 = s1 at hclear hhif hregs
  have hline' : (s1.clrPba v).line v = true := (State.line_congr hregs (congrArg HifSt.ic hhif) v).trans hline
  have hon : (s1.clrPba v).on IC_TGT_CFG_DELIV v = true := by
    rw [State.on, State.clrPba, State.setHif_rd, State.rd_congr hregs, hdeliv]
    rfl
  have hgo : ((s1.clrPba v).line v && (s1.clrPba v).on IC_TGT_CFG_DELIV v) = true := by rw [hline', hon]; rfl
  have hen' : (s1.clrPba v).hif.msixEn = true := (congrArg HifSt.msixEn hhif).trans hen
  have hclear' : (s1.clrPba v).vecMasked v = false := hclear
  rw [State.writeVecCtl, hzero, hs1, hmasked, hbit, hhif, hpba, ← State.msix_of_unmasked hen' hclear']
  simp only [Bool.not_false, Bool.and_self, if_true]
  exact if_pos hgo

theorem execMsixUnmask_sends {s : State} {v : Fin 4} (hdef : s.sys.deferred = []) (hmem : Memory.wf s.mem = true)
    (hmasked : s.vecMasked v = true) (hpba : s.hif.pba.getLsbD v = true) (hen : s.hif.msixEn = true) (hline : s.line v = true)
    (hdeliv : s.rd IC_TGT_CFG_DELIV v = 1) :
    ∃ t, exec (.msixUnmask v) s = .next t ∧ t.vecMasked v = false ∧ t.hif.out = s.hif.out ++ [.msix v] := by
  refine ⟨_, congrArg Host.Outcome.next ((State.byHost_of_none hdef ..).trans
    (State.writeVecCtl_unmasks hmem hmasked hpba hen hline hdeliv)), ?_, ?_⟩
  · rw [State.toHost, State.clrPba, State.setHif_vecMasked, State.setHif_vecMasked]
    exact State.stIn_vecMasked v hmem
  · rw [State.toHost, State.setHif_hif, State.clrPba, State.setHif_hif, State.stIn_hif]

theorem execMsixEnable_enables {s : State} : ∃ t, exec .msixEnable s = .next t ∧ t.hif.msixEn = true :=
  ⟨s.msixEnable, rfl, foldl_keeps (fun s : State => s.hif.msixEn) (fun u t _ => u.msix_msixEn t)
    (s.setHif fun h => { h with msixEn := true })⟩

/-! ### A parity error (R374) -/

/-- The bit of PG_ERR and the interrupts of its record. -/
def F.icParityRecord : Nat := F.State.journal ||| F.State.raise

/-- What a parity error leaves of a source. -/
def IcSrc.afterParity (x : IcSrc) : IcSrc :=
  { x with st := .idle, claims := if x.st = .pending then x.claims + 1 else x.claims }

theorem execIcStateParity_idles {s : State} {n : Fin 256} (hdis : s.rd IC_SRC_EN n = 0) :
    ∃ t, exec (.icStateParity n) s = .next t ∧ (t.src n).st = .idle ∧ t.tst PG_ERR pgIC 2 = true := by
  have hm := Nat.and_self F.icParityRecord
  obtain ⟨j, hj⟩ : ∃ j, j = (s.setSrc n IcSrc.afterParity).journal pgIC 0x0801 sevMAJOR (pf 56 8 n) := ⟨_, rfl⟩
  have hoff : Off F.icParityRecord (s.setSrc n IcSrc.afterParity) (j.raise pgIC 2 allPorts) := by
    rw [hj]
    exact State.raise_off (sb hm (by decide)) (State.journal_off (sb hm (by decide)) .refl ..) ..
  have hen : (j.raise pgIC 2 allPorts).on IC_SRC_EN n = false := by
    rw [State.on, hoff.rd_eq_of_avoids (by decide +kernel) n.isLt, State.setSrc, State.setHif_rd, hdis]
    rfl
  have hrun : s.icParity n = (j.raise pgIC 2 allPorts).lineEval none := by
    rw [hj] at hen ⊢
    exact congrArg (State.lineEval · none) (State.gateway_of_disabled hen)
  have hsrc : (j.raise pgIC 2 allPorts).src n = (s.src n).afterParity :=
    (State.src_congr (congrArg HifSt.ic (hoff.hif_eq (by decide))) n).trans (s.setSrc_src_self ..)
  refine ⟨_, congrArg Host.Outcome.next hrun, ?_, ?_⟩
  · rw [State.lineEval_src, hsrc]
    rfl
  · rw [(State.lineEval_off (Nat.and_self _) .refl ..).tst_eq (by decide +kernel)]
    exact State.raise_tst _ _ (by decide +kernel) (by decide)

/-- Settles O48: a source becomes pending, active and idle again with its counts; a register write holds the fields it names; an
unmasked vector is sent with its line. -/
theorem interruptCommandsComplete : Obligations.InterruptCommandsComplete :=
  ⟨fun _ _ => execSourceAssertion_asserts, fun _ _ _ _ => execIcClaim_claims, fun _ _ _ _ _ => execIcComplete_completes,
    fun _ _ _ => execSourceConfigWrite_writes, fun _ _ => execCountSnapshot_snapshots, fun _ _ _ => execWakeClear_clears,
    fun _ _ _ => execTargetConfigWrite_writes, fun _ _ => execMsixUnmask_sends, fun _ => execMsixEnable_enables,
    fun _ _ => execIcStateParity_idles⟩

end Sys2Proof.Machine

/-! PROOF. Status frames, replays, credits, census and enumeration (spec/14_cascade_ring.md R385, R386, R387, R389, R391). -/
namespace Sys2Proof.Machine
open Sys2Proof
set_option Elab.async false

/-! ### Sending (R385, R389) -/

theorem Off.ring_eq {m : Nat} {a s : State} (h : Off m a s) (hb : m.testBit (partNo .ring) = false) : s.ring = a.ring :=
  h.part .ring hb

/-- A frame leaves at once where its port is up, a credit is there and none waits before it. -/
theorem State.emit_of_sends {s : State} {f : Frame} (h : Sends s f.port f.vc) :
    s.emit f = (s.setVc f.port f.vc fun v => { v with credits := v.credits - 1 }).setRing fun r =>
      { r with out := r.out ++ [f] } := by
  obtain ⟨hup, hcredit, hfront⟩ := h
  have hdoor : ¬ ((s.vc f.port f.vc).credits = 0 ∨ (s.ring.queue.any fun g => g.port == f.port && g.vc == f.vc) = true) := by
    rw [hfront]
    simp only [hcredit, Bool.false_eq_true, or_self, not_false_eq_true]
  rw [State.emit, hup]
  exact if_neg hdoor

theorem State.emit_out {s : State} {f : Frame} (h : Sends s f.port f.vc) : (s.emit f).ring.out = s.ring.out ++ [f] := by
  rw [State.emit_of_sends h]
  rfl

theorem State.emit_rd_of_sends {s : State} {f : Frame} (h : Sends s f.port f.vc) (g : Fld) (i : Nat) :
    (s.emit f).rd g i = s.rd g i := by
  rw [State.emit_of_sends h]
  rfl

theorem State.emit_enumerated (s : State) (f : Frame) : (s.emit f).ring.enumerated = s.ring.enumerated := by
  unfold State.emit
  extract_lets v
  split
  · rfl
  · split <;> rfl

/-- What lets a frame go is read from the ports' states, their credits and the frames that wait. -/
theorem Sends.congr {s t : State} {p v : Nat} (h : Sends s p v) (hup : t.rportUp p = s.rportUp p) (hvcs : t.ring.vcs = s.ring.vcs)
    (hqueue : t.ring.queue = s.ring.queue) : Sends t p v := by
  rw [Sends, hup, State.vc, hvcs, hqueue]
  exact h

theorem State.portTo_of_whole {s : State} (hwhole : s.ring.broken = []) (d : Nat) : s.portTo d = 1 := by
  rw [State.portTo, hwhole]
  simp only [List.any_nil, ite_self, Bool.false_eq_true, if_false]

@[simp] theorem State.setDeliv_deliv_self (s : State) (d vc : Nat) (f : Deliv → Deliv) :
    (s.setDeliv d vc f).deliv d vc = f (s.deliv d vc) := Tab.get_set_self ..

@[simp] theorem State.setVc_vc_self (s : State) (p v : Nat) (f : Vc → Vc) : (s.setVc p v f).vc p v = f (s.vc p v) :=
  Tab.get_set_self ..

/-! ### Status frames (R391) -/

theorem State.putBit_ring (s : State) (f : Fld) (i b : Nat) (v : Bool) : (s.putBit f i b v).ring = s.ring := by
  unfold State.putBit
  split <;> rfl

theorem State.remoteStatus_remote (s : State) (d : Nat) (level low : Bool) (st : Nat) :
    (s.remoteStatus d level low st).remote d = ⟨level, low, st⟩ := by
  have hstates := foldl_keeps (l := List.range 64) (f := fun (s : State) q =>
      s.cond (s.on RING_MAP_VALID q && s.rd RING_MAP_ID q == d) fun s => s.wr RING_MAP_STATE q (if st = 0 then 1 else 2))
    State.ring (fun u q _ => by unfold State.cond; split <;> rfl)
    (s.setRing fun r => { r with remotes := r.remotes.set d ⟨level, low, st⟩ })
  have hring : (s.remoteStatus d level low st).ring = { s.ring with remotes := s.ring.remotes.set d ⟨level, low, st⟩ } := by
    unfold State.remoteStatus
    extract_lets s1 s2
    refine Eq.trans ?_ hstates
    split
    · exact State.putBit_ring ..
    · exact State.putBit_ring ..
  rw [State.remote, hring]
  exact Tab.get_set_self ..

theorem execStatusFrame_learns {s : State} {p : Bool} {src : Fin 64} {line low : Bool} {st : Fin 4} (hvertex : s.vertex = true)
    (hpresent : s.present src = true) :
    ∃ t, exec (.statusFrame p src line low st) s = .next t ∧ t.remote src = ⟨line, low, st⟩ := by
  have hboth : ((s.took p.toNat 0).vertex && (s.took p.toNat 0).present src) = true := by
    show (s.vertex && s.present src) = true
    rw [hvertex, hpresent]
    rfl
  have hrun : s.statusFrame p.toNat src line low st = (s.took p.toNat 0).remoteStatus src line low st := if_pos hboth
  exact ⟨_, congrArg Host.Outcome.next hrun, State.remoteStatus_remote ..⟩

theorem execStatusFrameSend_sends {s : State} {l f : Bool} {st : Nat} (hvertex : s.vertex = false)
    (henum : s.ring.enumerated = true) (hown : s.ownStatus = (l, f, st)) (hnews : s.ring.lastStatus ≠ some s.ownStatus)
    (hsends : Sends s (s.portTo 0) 0) :
    ∃ t, exec .statusFrameSend s = .next t ∧ t.ring.out = s.ring.out ++ [⟨s.portTo 0, 0, 0, 0, .status l f st⟩]
      ∧ t.ring.lastStatus = some (l, f, st) ∧ t.ring.statusAt = s.now := by
  have hrun : s.statusSend = (s.sendOnce 0 0 (.status l f st)).setRing fun r =>
      { r with lastStatus := some (l, f, st), statusAt := s.now } := by
    have hnews' : (s.ring.lastStatus == some (l, f, st)) = false := beq_eq_false_iff_ne.2 (hown ▸ hnews)
    simp only [State.statusSend, hvertex, henum, Bool.not_true, Bool.or_false, Bool.false_eq_true, if_false, State.cond, hown,
      hnews']
  refine ⟨_, congrArg Host.Outcome.next hrun, ?_, rfl, rfl⟩
  exact State.emit_out (f := ⟨s.portTo 0, 0, 0, 0, .status l f st⟩) hsends

/-! ### Replays and releases (R389) -/

/-- The frames of a device are about to go again: the wait for progress starts anew, and one replay is counted. -/
def State.beforeReplay (s : State) (d v : Nat) : State :=
  (s.setDeliv d v fun x => { x with lastProg := s.now }).satAdd RING_REPLAY_CNT 0 1

theorem State.beforeReplay_rd (s : State) (d v : Nat) :
    (s.beforeReplay d v).rd RING_REPLAY_CNT 0 = min (s.rd RING_REPLAY_CNT 0 + 1) (2 ^ RING_REPLAY_CNT.w - 1) :=
  State.rd_satInc_self (s := s.setDeliv d v fun x => { x with lastProg := s.now }) (by decide) (by decide)

theorem State.replay_one {s : State} {d v : Nat} {f : Frame} (hwhole : s.ring.broken = []) (hone : (s.deliv d v).unacked = [f]) :
    s.replay d v = (s.beforeReplay d v).emit { f with port := 1 } := by
  have hport : (s.beforeReplay d v).portTo d = 1 := State.portTo_of_whole (s := s.beforeReplay d v) hwhole d
  rw [State.replay, hone, ← hport]
  rfl

theorem Sends.beforeReplay {s : State} {p k : Nat} (h : Sends s p k) (hp : p < 2) (d v : Nat) : Sends (s.beforeReplay d v) p k := by
  have hne : ∀ p < 2, RING_REPLAY_CNT.key 0 ≠ RING_PORT_STAT_STATE.key p := by decide
  refine h.congr ?_ rfl rfl
  rw [State.rportUp, State.beforeReplay, State.satAdd, State.rd_wr_ne _ _ (hne p hp)]
  rfl

theorem execReplayTimeout_replays {s u : State} {dev : Fin 64} {bulk : Bool} {f : Frame} {v : Nat} (hv : v = (if bulk then 3 else 0))
    (hu : u = s.reach ((s.deliv dev v).lastProg + usT 50)) (hwhole : s.ring.broken = []) (hone : (s.deliv dev v).unacked = [f])
    (hsends : Sends u 1 f.vc) :
    ∃ t, exec (.replayTimeout dev bulk) s = .next t ∧ t.ring.out = s.ring.out ++ [{ f with port := 1 }]
      ∧ t.rd RING_REPLAY_CNT 0 = min (s.rd RING_REPLAY_CNT 0 + 1) (2 ^ RING_REPLAY_CNT.w - 1)
      ∧ t.now = max s.now ((s.deliv dev v).lastProg + usT 50) ∧ (t.deliv dev v).lastProg = t.now := by
  have hring : u.ring = s.ring := by rw [hu]; exact (State.reach_off (Nat.and_self _) .refl ..).ring_eq (by decide)
  have hnow : u.now = max s.now ((s.deliv dev v).lastProg + usT 50) := by rw [hu, State.reach_now]
  have hrd : u.rd RING_REPLAY_CNT 0 = s.rd RING_REPLAY_CNT 0 := by rw [hu, State.reach_rd]
  have hone' : (u.deliv dev v).unacked = [f] := by rw [State.deliv, hring]; exact hone
  have hgo : Sends (u.beforeReplay dev v) 1 f.vc := hsends.beforeReplay (by decide) ..
  have hrun : s.replayTimeout dev v = (u.beforeReplay dev v).emit { f with port := 1 } := by
    rw [State.replayTimeout, hone, ← State.replay_one (hring ▸ hwhole) hone', hu]
    rfl
  have hprog : ((u.beforeReplay dev v).deliv dev v).lastProg = u.now :=
    congrArg Deliv.lastProg (u.setDeliv_deliv_self dev v fun x => { x with lastProg := u.now })
  have hout : (u.beforeReplay dev v).ring.out = s.ring.out := by
    rw [← hring]
    rfl
  have hnow' : (u.beforeReplay dev v).now = u.now := rfl
  have hcnt := u.beforeReplay_rd dev v
  have hexec : exec (.replayTimeout dev bulk) s = .next (s.replayTimeout dev v) := by rw [hv]; rfl
  generalize u.beforeReplay dev v = w at hgo hrun hprog hout hnow' hcnt
  have hnow'' : (w.emit { f with port := 1 }).now = w.now := (State.emit_off (Nat.and_self _) .refl ..).now_eq (by decide)
  refine ⟨_, hexec.trans (congrArg Host.Outcome.next hrun), ?_, ?_, ?_, ?_⟩
  · rw [State.emit_out (f := { f with port := 1 }) hgo, hout]
  · rw [State.emit_rd_of_sends (f := { f with port := 1 }) hgo, hcnt, hrd]
  · rw [hnow'', hnow', hnow]
  · rw [hnow'', State.emit_deliv, hprog, hnow']

theorem execTunnelWriteReleased_sends {s : State} {dev : Fin 64} {b : RegBody} (hring : s.ring.restoring = false)
    (hroom : (s.deliv dev 0).unacked.length < 64) (hwait : (s.deliv dev 0).waiting = [.write b]) :
    ∃ t, exec (.tunnelWriteReleased dev) s = .next t ∧ (t.deliv dev 0).waiting = []
      ∧ (t.deliv dev 0).unacked = (s.deliv dev 0).unacked ++ [⟨s.portTo dev, 0, dev, (s.deliv dev 0).next, .write b⟩]
      ∧ (t.deliv dev 0).next = (s.deliv dev 0).next + 1 := by
  have hopen : ¬ (s.ring.restoring = true ∨ 64 ≤ (s.deliv dev 0).unacked.length) := by
    rw [hring]
    simp only [Bool.false_eq_true, false_or, not_le, hroom]
  have hrun : s.tunnelRelease dev = (s.setDeliv dev 0 fun x => { x with waiting := [] }).sendRel dev 0 (.write b) := by
    rw [State.tunnelRelease, if_neg hopen, hwait]
    rfl
  refine ⟨_, congrArg Host.Outcome.next hrun, ?_, ?_, ?_⟩
  · rw [State.sendRel, State.emit_deliv, State.setDeliv_deliv_self, State.setDeliv_deliv_self]
  · rw [State.sendRel_unacked, State.setDeliv_deliv_self]
    rfl
  · rw [State.sendRel, State.emit_deliv, State.setDeliv_deliv_self, State.setDeliv_deliv_self]

/-! ### Credits and census (R385, R386) -/

theorem execCreditReturn_returns {s : State} {p : Bool} {v : Fin 4} {n : BitVec 8} (hqueue : s.ring.queue = []) :
    ∃ t, exec (.creditReturn p v n) s = .next t ∧ (t.vc p.toNat v).credits = (s.vc p.toNat v).credits + n.toNat
      ∧ (t.vc p.toNat v).rCum = (s.vc p.toNat v).rCum + BitVec.ofNat 16 n.toNat := by
  obtain ⟨u, hu⟩ : ∃ u, u = s.setVc p.toNat v fun x =>
    { x with credits := x.credits + n.toNat, rCum := x.rCum + BitVec.ofNat 16 n.toNat } := ⟨_, rfl⟩
  have hidle : u.ring.queue = [] := by rw [hu]; exact hqueue
  have hvc : (u.drainQueue p.toNat v).vc p.toNat v = u.vc p.toNat v := by
    rw [State.drainQueue, hidle]
    simp only [List.filter_nil, List.take_nil, List.length_nil, List.drop_nil, List.append_nil, State.setVc_vc_self, Nat.sub_zero]
    rfl
  have hvc' : (u.vc p.toNat v) = { s.vc p.toNat v with
      credits := (s.vc p.toNat v).credits + n.toNat, rCum := (s.vc p.toNat v).rCum + BitVec.ofNat 16 n.toNat } := by
    rw [hu, State.setVc_vc_self]
  refine ⟨u.drainQueue p.toNat v, by rw [hu]; rfl, ?_, ?_⟩
  · rw [hvc, hvc']
  · rw [hvc, hvc']

/-- The marker of a VC of a port. -/
def State.marker (s : State) (p v : Nat) : Frame := ⟨p, v, everyDev, 0, .census (s.vc p v).credits (s.vc p v).rCum⟩

theorem execCensusMarkerSend_sends {s : State} (hup : s.rportUp 0 = true) (hdown : s.rportUp 1 = false) :
    ∃ t, exec .censusMarkerSend s = .next t
      ∧ t.ring.out = s.ring.out ++ (List.range 4).map fun v => ⟨0, v, everyDev, 0, .census (s.vc 0 v).credits (s.vc 0 v).rCum⟩ := by
  have hoff := State.toMul_off (Nat.and_self _) (.refl (a := s)) evCENSUS 0 983040
  have hring := hoff.ring_eq (by decide)
  have hstate (p : Nat) (hp : p < 2) : (s.toMul evCENSUS 0 983040).rportUp p = s.rportUp p := by
    rw [State.rportUp, hoff.rd_eq_of_lt (by decide +kernel) hp, State.rportUp]
  generalize hu : s.toMul evCENSUS 0 983040 = u at hring hstate
  have hports : (List.range 8).filter (fun k => u.rportUp (k / 4)) = List.range 4 := by
    simp [List.range_succ, hstate, hup, hdown]
  have hrun : s.censusSend = (((u.setRing fun r => { r with out := r.out ++ [u.marker 0 0] }).setRing fun r =>
      { r with out := r.out ++ [u.marker 0 1] }).setRing fun r => { r with out := r.out ++ [u.marker 0 2] }).setRing fun r =>
      { r with out := r.out ++ [u.marker 0 3] } := by
    rw [State.censusSend, hu]
    dsimp only
    rw [hports]
    rfl
  refine ⟨_, congrArg Host.Outcome.next hrun, ?_⟩
  simp only [State.setRing_ring, List.append_assoc]
  rw [hring]
  simp only [State.marker, State.vc, hring]
  rfl


theorem execCensusMarker_counts {s : State} {p : Bool} {v : Fin 4} {cs : Fin 257} {rCum : BitVec 16} {b : Nat}
    (htotal : cs.val + b + ((s.vc p.toNat v).retCum - rCum).toNat = 256) :
    ∃ t, exec (.censusMarker p v cs rCum b 0) s = .next t
      ∧ t.rd RING_CEN_CNT 0 = min (s.rd RING_CEN_CNT 0 + 1) (2 ^ RING_CEN_CNT.w - 1)
      ∧ t.rd RING_CEN_FAIL_CNT 0 = s.rd RING_CEN_FAIL_CNT 0 := by
  obtain ⟨u, hu⟩ : ∃ u, u = s.setVc p.toNat v fun x => { x with retCum := x.retCum + BitVec.ofNat 16 0 } := ⟨_, rfl⟩
  have hret : (u.vc p.toNat v).retCum = (s.vc p.toNat v).retCum := by
    rw [hu, State.setVc_vc_self]
    exact BitVec.add_zero _
  have hregs : u.regs = s.regs := by rw [hu]; rfl
  have hrun : s.censusMarker p.toNat v cs rCum b 0 = u.satInc RING_CEN_CNT 0 := by
    rw [← hret, hu] at htotal
    rw [hu]
    exact if_pos htotal
  refine ⟨_, congrArg Host.Outcome.next hrun, ?_, ?_⟩
  · rw [State.rd_satInc_self (by decide) (by decide), State.rd_congr hregs]
  · rw [State.satInc, State.satAdd, State.rd_wr_ne _ _ (by decide), State.rd_congr hregs]

/-! ### Enumeration (R387) -/

theorem execEnumerationStart_starts {s : State} (hvertex : s.vertex = true) (hdown : s.rportUp 0 = false) (hsends : Sends s 1 0) :
    ∃ t, exec .enumerationStart s = .next t ∧ t.ring.out = s.ring.out ++ [⟨1, 0, everyDev, 0, .enumeration [s.ownEntry]⟩] := by
  have hsends' : Sends s (Frame.port ⟨1, 0, everyDev, 0, .enumeration [s.ownEntry]⟩) 0 := hsends
  have hdown' : (s.emit ⟨1, 0, everyDev, 0, .enumeration [s.ownEntry]⟩).rportUp 0 = false := by
    rw [State.rportUp, State.emit_rd_of_sends hsends', ← State.rportUp, hdown]
  have hrun : s.enumStart = s.emit ⟨1, 0, everyDev, 0, .enumeration [s.ownEntry]⟩ := by
    rw [State.enumStart, hvertex, hsends.1]
    simp only [Bool.not_true, Bool.false_eq_true, State.cond, if_true, hdown', Bool.false_and, if_false]
  exact ⟨_, congrArg Host.Outcome.next hrun, State.emit_out hsends'⟩

/-- What the passing on of an enumeration frame reaches. -/
def F.enumFrameTail : Nat := F.State.unstand ||| F.State.emit ||| 1 <<< 165

/-- The device has learnt its place. -/
def State.placed (s : State) (pos size : Nat) : State :=
  ((s.wr RING_STAT_POS 0 pos).wr RING_STAT_SIZE 0 size).setRing fun r => { r with enumerated := true }

/-- A device that is not the vertex and is in no conflict learns its place and passes the frame on. -/
theorem State.enumFrame_places {s : State} {p pos size : Nat} {seen : List MapEntry} (hvertex : s.vertex = false)
    (hclash : ((seen.eraseIdx (enumPlace p pos size)).any fun e => e.id == s.devId || (e.vtx && s.vertex)) = false) :
    Off F.enumFrameTail ((s.took p 0).placed pos size) (s.enumFrame p pos size seen)
      ∧ (s.enumFrame p pos size seen).ring.enumerated = true := by
  have hm := Nat.and_self F.enumFrameTail
  unfold State.enumFrame
  extract_lets u own clash u1 u2 u3 u4
  have hcalm : clash = false := hclash
  have h1 : u1 = u := by
    unfold u1
    rw [hcalm]
    rfl
  have hother : ¬ u1.vertex = true := by
    rw [h1]
    exact Bool.eq_false_iff.1 hvertex
  have h2 : u2 = u.placed pos size := by
    unfold u2
    rw [h1]
    rfl
  have h3 : Off F.enumFrameTail (u.placed pos size) u3 :=
    h2 ▸ State.cond_off .refl (fun _ h => .wr h (has_RING_STAT_STATE (by decide)) ..) _
  have h4 : Off F.enumFrameTail (u.placed pos size) u4 := State.unstand_off (sb hm (by decide)) h3 ..
  have henum : u4.ring.enumerated = true := by
    show u3.ring.enumerated = true
    have hring : u3.ring = u2.ring := by
      unfold u3 State.cond
      split <;> rfl
    rw [hring, h2]
    rfl
  rw [if_neg hother]
  refine ⟨State.cond_off h4 (fun _ h => State.emit_off (sb hm (by decide)) h ..) _, ?_⟩
  unfold State.cond
  split
  · rw [State.emit_enumerated, henum]
  · exact henum

theorem execEnumerationFrame_learns {s : State} {p : Bool} {pos size : Fin 64} {seen : List MapEntry} (hvertex : s.vertex = false)
    (hclash : ((seen.eraseIdx (enumPlace p.toNat pos size)).any fun e => e.id == s.devId || (e.vtx && s.vertex)) = false) :
    ∃ t, exec (.enumerationFrame p pos size.castSucc seen) s = .next t ∧ t.rd RING_STAT_POS 0 = pos
      ∧ t.rd RING_STAT_SIZE 0 = size ∧ t.ring.enumerated = true := by
  obtain ⟨hoff, henum⟩ := State.enumFrame_places hvertex hclash
  refine ⟨_, rfl, (hoff.rd_eq (by decide +kernel)).trans ?_, (hoff.rd_eq (by decide +kernel)).trans ?_, henum⟩
  · rw [State.placed, State.setRing_rd, State.rd_wr_ne _ _ (by decide), State.rd_wr_self _ _ (by decide) (by decide)]
    exact Nat.mod_eq_of_lt pos.isLt
  · rw [State.placed, State.setRing_rd, State.rd_wr_self _ _ (by decide) (by decide)]
    exact Nat.mod_eq_of_lt (size.isLt.trans (by decide))

/-- What the end of an enumeration in which no device came or went reaches beside the ring. -/
def F.enumDoneTail : Nat := F.State.stand ||| F.State.unstand ||| F.State.int

/-- The ring as an enumeration found it that the vertex alone answered. -/
theorem State.enumDone_fills {s : State} {found : List (Option MapEntry)} {down : List Nat}
    (hvertex : s.vertex = true) (hfound : found.filterMap id = [s.ownEntry]) (hold : (List.range 64).filter s.present = [s.devId]) :
    (s.enumDone found down).ring.enumerated = true ∧ (s.enumDone found down).ring.down = down
      ∧ (s.enumDone found down).rd RING_STAT_POS 0 = 0 ∧ (s.enumDone found down).rd RING_STAT_SIZE 0 = 1 := by
  have hm := Nat.and_self F.enumDoneTail
  unfold State.enumDone
  rw [hvertex, hfound, hold, if_neg (by decide)]
  extract_lets old es ids m s1 s2 st s3 s4 gone came s5 dep s6 s7 s8 clash mine s9 tell s10 s11
  have hids : ids = [s.devId] := rfl
  have hvertices : ¬ 1 < (es.filter (·.vtx)).length := Nat.not_lt.2 (List.length_filter_le ..)
  have hown : ¬ 1 < (ids.filter (· == s8.devId)).length := Nat.not_lt.2 (List.length_filter_le ..)
  have hcalm : clash = false := by
    unfold clash
    rw [decide_eq_false hvertices, hids]
    rfl
  have hmine : mine = false := by
    unfold mine
    rw [decide_eq_false hvertices, decide_eq_false hown]
    rfl
  have hgone : gone = [] := by simp [gone, old, hids]
  have h4 : Off F.enumDoneTail s3 s4 := State.cond_off .refl (fun _ h => State.unstand_off (sb hm (by decide)) h ..) _
  have h5 : s5 = s4 := by
    unfold s5
    rw [hgone]
    rfl
  have h7 : Off F.enumDoneTail s6 s7 :=
    .ite (State.unstand_off (sb hm (by decide)) .refl ..) (State.stand_off (sb hm (by decide)) .refl ..)
  have h8 : Off F.enumDoneTail s6 s8 := State.cond_off h7 (fun _ h => State.int_off (sb hm (by decide)) h ..) _
  have h11 : s11 = s8 := by
    unfold s11 s10 s9
    rw [hcalm, hmine]
    rfl
  have hlast : Off F.enumDoneTail s6 (s11.int pgRING 0) := State.int_off (sb hm (by decide)) (h11 ▸ h8) ..
  have hring : s4.ring = s3.ring := h4.ring_eq (by decide)
  clear_value s1
  refine ⟨?_, ?_, ?_, ?_⟩
  · rw [hlast.ring_eq (by decide)]
    unfold s6
    rw [h5, State.setRing_ring, hring]
    rfl
  · rw [hlast.ring_eq (by decide)]
    unfold s6
    rw [h5, State.setRing_ring, hring]
    rfl
  · rw [hlast.rd_eq (by decide +kernel)]
    unfold s6
    rw [State.setRing_rd, h5, h4.rd_eq (by decide +kernel)]
    unfold s3
    rw [State.setRing_rd, State.rd_wr_self _ _ (by decide) (by decide)]
    rfl
  · rw [hlast.rd_eq (by decide +kernel)]
    unfold s6
    rw [State.setRing_rd, h5, h4.rd_eq (by decide +kernel)]
    unfold s3 s2
    rw [State.setRing_rd, State.rd_wr_ne _ _ (by decide), State.rd_wr_ne _ _ (by decide),
      State.rd_wr_self _ _ (by decide) (by decide)]
    rfl

theorem execEnumerationComplete_fills {s : State} {found : List (Option MapEntry)} {down : List (Fin 64)}
    (hvertex : s.vertex = true) (hfound : found.filterMap id = [s.ownEntry]) (hold : (List.range 64).filter s.present = [s.devId]) :
    ∃ t, exec (.enumerationComplete found down) s = .next t ∧ t.ring.enumerated = true ∧ t.ring.down = down.map (·.val)
      ∧ t.rd RING_STAT_POS 0 = 0 ∧ t.rd RING_STAT_SIZE 0 = 1 :=
  ⟨_, rfl, State.enumDone_fills hvertex hfound hold⟩

/-- Settles O50. A status frame leaves at a change and is remembered at the vertex; an unacknowledged frame goes again and is
counted; a held write is sent with the next number; credits return; markers leave on each VC and are checked; enumeration gives
each device its place. That a late timeout leaves the clock where it stands is the model's choice (log entry 3). -/
theorem ringTrafficComplete : Obligations.RingTrafficComplete :=
  ⟨fun _ _ _ _ _ _ => execStatusFrame_learns, fun _ _ _ _ => execStatusFrameSend_sends,
    fun _ _ _ _ _ _ => execReplayTimeout_replays, fun _ _ _ => execTunnelWriteReleased_sends,
    fun _ _ _ _ => execCreditReturn_returns, fun _ => execCensusMarkerSend_sends, fun _ _ _ _ _ _ => execCensusMarker_counts,
    fun _ => execEnumerationStart_starts, fun _ _ _ _ _ => execEnumerationFrame_learns,
    fun _ _ _ hvertex hfound hold _ => execEnumerationComplete_fills hvertex hfound hold⟩

end Sys2Proof.Machine

/-! PROOF. Housekeeping, thermal restart, PWM and bias codes (spec/15_housekeeping_and_thermal.md R404, R406, R407, R408, R413,
R415, R417, R418, R419, R422). -/
namespace Sys2Proof.Machine
open Sys2Proof
set_option Elab.async false

/-! ### Triggers (R406) -/

theorem State.toMul_rd (s : State) (e o p : Nat) {f : Fld} {i : Nat} (hk : maskMisses F.State.toMul (f.key i) = true) :
    (s.toMul e o p).rd f i = s.rd f i :=
  (State.toMul_off (Nat.and_self _) .refl e o p).rd_eq hk

theorem State.toMul_hk (s : State) (e o p : Nat) : (s.toMul e o p).hk = s.hk :=
  (State.toMul_off (Nat.and_self _) .refl e o p).part .hk (by decide)

/-- A trigger is held where none is. -/
theorem State.hkTrigger_holds {s : State} (hen : s.rd HK_CFG_EN 0 = 1) (hmask : s.rd HK_SCAN_MASK 0 ≠ 0)
    (hheld : s.hk.held = none) :
    s.hkTrigger.rd HK_STAT_HELD 0 = 1 ∧ s.hkTrigger.hk.held = some (s.now + 16 * s.rd HK_TRIG_DELAY 0) := by
  have hgo : ¬ (!s.on HK_CFG_EN 0 || s.rd HK_SCAN_MASK 0 == 0) = true := by
    rw [State.on, hen, beq_eq_false_iff_ne.2 hmask]
    decide
  have hrun : s.hkTrigger = (s.wr HK_STAT_HELD 0 1).setHk fun h =>
      { h with held := some (s.now + 16 * s.rd HK_TRIG_DELAY 0) } := by
    rw [State.hkTrigger, if_neg hgo, hheld]
    rfl
  rw [hrun]
  exact ⟨State.rd_wr_self _ _ (by decide) (by decide), rfl⟩

theorem execHkTimerTrigger_holds {s u : State} (htimer : s.rd HK_TRIG_TIMER_EN 0 = 1) (hen : s.rd HK_CFG_EN 0 = 1)
    (hmask : s.rd HK_SCAN_MASK 0 ≠ 0) (hheld : s.hk.held = none)
    (hu : u = s.toMul evTIMER 0 (1024 * max 1 (s.rd HK_TIMER 0))) :
    ∃ t, exec .hkTimerTrigger s = .next t ∧ t.rd HK_STAT_HELD 0 = 1
      ∧ t.hk.held = some (u.now + 16 * s.rd HK_TRIG_DELAY 0) := by
  have hrun : s.hkTimer = u.hkTrigger := by
    rw [State.hkTimer, State.on, htimer, hu]
    rfl
  have hrd {f : Fld} (hk : maskMisses F.State.toMul (f.key 0) = true) : u.rd f 0 = s.rd f 0 := by
    rw [hu, State.toMul_rd _ _ _ _ hk]
  have hhk : u.hk = s.hk := by rw [hu, State.toMul_hk]
  obtain ⟨hstat, htrig⟩ := State.hkTrigger_holds (s := u) ((hrd (by decide +kernel)).trans hen)
    ((hrd (by decide +kernel)).trans_ne hmask) ((congrArg HkSt.held hhk).trans hheld)
  exact ⟨_, congrArg Host.Outcome.next hrun, hstat, htrig.trans (by rw [hrd (by decide +kernel)])⟩

theorem execHkPwmTrigger_holds {s : State} {x : PwmChan} (hx : x = s.pwmChan (s.rd HK_TRIG_PWM_CH 0))
    (hpwm : s.rd HK_TRIG_PWM_EN 0 = 1) (hedge : s.rd HK_TRIG_PWM_EDGE 0 = 0) (hon : x.en = true) (hstart : x.t0 = s.now)
    (hen : s.rd HK_CFG_EN 0 = 1) (hmask : s.rd HK_SCAN_MASK 0 ≠ 0) (hheld : s.hk.held = none) :
    ∃ t, exec .hkPwmTrigger s = .next t ∧ t.rd HK_STAT_HELD 0 = 1
      ∧ t.hk.held = some (s.now + 16 * s.rd HK_TRIG_DELAY 0) := by
  have hrun : s.hkPwm = s.hkTrigger := by
    rw [State.hkPwm, ← hx, State.on, State.on, hpwm, hedge, hon]
    exact if_pos (beq_iff_eq.2 hstart)
  exact ⟨_, congrArg Host.Outcome.next hrun, State.hkTrigger_holds hen hmask hheld⟩

theorem execHkGo_holds {s : State} (hdef : s.sys.deferred = []) (hen : s.rd HK_CFG_EN 0 = 1) (hmask : s.rd HK_SCAN_MASK 0 ≠ 0)
    (hheld : s.hk.held = none) :
    ∃ t, exec .hkGo s = .next t ∧ t.rd HK_STAT_HELD 0 = 1 ∧ t.hk.held = some (s.now + 16 * s.rd HK_TRIG_DELAY 0) :=
  ⟨_, congrArg Host.Outcome.next (State.byHost_of_none hdef ..), State.hkTrigger_holds hen hmask hheld⟩

/-! ### Scans and rounds (R407, R408) -/

/-- A user scan starts with the channels of HK_SCAN_MASK. -/
def State.beginScan (s : State) : State :=
  ((s.wr HK_STAT_HELD 0 0).wr HK_STAT_BUSY 0 1).setHk fun h =>
    { h with held := none, scanOn := true, scan := (List.range 32).filter (s.rd HK_SCAN_MASK 0).testBit, scanLate := false,
             filt := s.on HK_CFG_FILT 0, lp := s.on HK_CFG_LP 0 }

theorem execHkScanStart_starts {s : State} {a : Nat} (hheld : s.hk.held = some a) (hscan : s.hk.scanOn = false)
    (hslow : s.hk.slowOn = false) (hconv : s.hk.conv = none) (hfree : s.hk.freeAt ≤ a) (hmask : s.rd HK_SCAN_MASK 0 ≠ 0) :
    ∃ t, exec .hkScanStart s = .next t ∧ t.rd HK_STAT_HELD 0 = 0 ∧ t.rd HK_STAT_BUSY 0 = 1 ∧ t.now = max s.now a
      ∧ t.rd HK_STAT_LATE 0 = s.rd HK_STAT_LATE 0 := by
  have hrun : s.scanStart = (s.reach a).beginScan.hkNext := by
    have hmask' : (s.reach a).rd HK_SCAN_MASK 0 ≠ 0 := (State.reach_rd ..).trans_ne hmask
    simp only [State.scanStart, hheld, hscan, hslow, hconv, Bool.or_self, Option.isSome_none, Bool.false_eq_true, if_false,
      Nat.max_eq_left hfree, decide_eq_false (Nat.not_lt.2 hfree), State.cond, if_neg hmask']
    rfl
  have hoff := State.hkNext_off (Nat.and_self _) (.refl (a := (s.reach a).beginScan))
  refine ⟨_, congrArg Host.Outcome.next hrun, ?_, ?_, ?_, ?_⟩
  · rw [hoff.rd_eq (by decide +kernel), State.beginScan, State.setHk_rd, State.rd_wr_ne _ _ (by decide),
      State.rd_wr_self _ _ (by decide) (by decide)]
    rfl
  · rw [hoff.rd_eq (by decide +kernel), State.beginScan, State.setHk_rd, State.rd_wr_self _ _ (by decide) (by decide)]
    rfl
  · exact (hoff.now_eq (by decide)).trans (s.reach_now a)
  · rw [hoff.rd_eq (by decide +kernel), State.beginScan, State.setHk_rd, State.rd_wr_ne _ _ (by decide),
      State.rd_wr_ne _ _ (by decide), State.reach_rd]

/-- A slow round begins. -/
def State.beginRound (s : State) : State :=
  (s.wr HK_STAT_SLOW 0 1).setHk fun h =>
    { h with slowReq := false, slowOn := true, slow := (List.range 8).map (24 + ·), slowLp := s.on HK_CFG_LP 0 }

/-- A slow round that is requested begins with its first channel. -/
theorem State.hkNext_of_requested {s : State} (hreq : s.hk.slowReq = true) (hslow : s.hk.slowOn = false) :
    ∃ r ticks, s.hkNext = (s.beginRound.setHk fun h => { h with slow := r }).hkConvert 24 true false ticks := by
  have hgo : (s.hk.slowReq && !s.hk.slowOn) = true := by
    rw [hreq, hslow]
    rfl
  refine ⟨(List.range 7).map (25 + ·), convTicks true s.beginRound.hk.slowLp, ?_⟩
  rw [State.hkNext, if_pos hgo]
  rfl

theorem execSlowRoundRequest_starts {s u : State} (hpast : s.now ≠ 0) (hu : u = s.toMul evSLOW 0 983040) (hconv : s.hk.conv = none)
    (hslow : s.hk.slowOn = false) :
    ∃ t, exec .slowRoundRequest s = .next t ∧ t.rd HK_STAT_SLOW 0 = 1 ∧ t.hk.slowOn = true ∧ t.hk.slowReq = false
      ∧ t.now = u.now := by
  have hfirst : (s.now == 0 && s.marks.get 0 evSLOW == 0) = false := by rw [beq_eq_false_iff_ne.2 hpast, Bool.false_and]
  have hhk : u.hk = s.hk := by rw [hu, State.toMul_hk]
  have hrun : s.slowRequest = (u.setHk fun h => { h with slowReq := true }).hkNext := by
    simp only [State.slowRequest, hfirst, Bool.false_eq_true, if_false, ← hu, State.setHk_hk, hhk, hconv, Option.isSome_none]
  obtain ⟨r, ticks, hround⟩ := State.hkNext_of_requested (s := u.setHk fun h => { h with slowReq := true }) rfl
    ((congrArg HkSt.slowOn hhk).trans hslow)
  refine ⟨_, congrArg Host.Outcome.next (hrun.trans hround), ?_, rfl, rfl, rfl⟩
  exact State.rd_wr_self _ _ (by decide) (by decide)

/-! ### Results (R404, R419) -/

/-- The words of a result. -/
def State.resultWritten (s : State) (c : HkConv) (raw : BitVec 16) (ok : Bool) : State :=
  (((((s.wr HK_RES_VALID c.ch ok.toNat).wr HK_RES_SUSPECT c.ch c.suspect.toNat).wr HK_RES_OVR c.ch
    (decide (raw = 0 ∨ raw = 0xFFFF#16)).toNat).wr HK_RES_SLOW c.ch c.slow.toNat).wr HK_RES_LATE c.ch c.late.toNat).wr
    HK_RES_VALUE c.ch (BitVec.ofInt 16 (hkValue c.ch raw)).toNat

/-- What a result reaches beside its words: its count, the over-range, the channel and its maximum. -/
def F.resultTail : Nat :=
  F.State.setHkChan ||| F.State.setHk ||| F.State.setThm ||| F.State.int ||| 1 <<< 304 ||| 1 <<< 619 ||| 1 <<< 620 ||| 1 <<< 621

theorem State.hkStore_off_written {m : Nat} (hm : F.resultTail &&& m = F.resultTail) (s : State) (c : HkConv) (raw : BitVec 16)
    (ok : Bool) : Off m (s.resultWritten c raw ok) (s.hkStore c raw ok) := by
  unfold State.hkStore
  extract_lets extreme v n s1 s2 s3 s4 s5 s6
  have h3 : Off m s2 s3 := State.setHkChan_off (sb hm (by decide)) (.wr .refl (has_HK_RES_CNT (tb hm (by decide))) ..) ..
  have h4 : Off m s2 s4 :=
    .ite (State.setHk_off (sb hm (by decide)) (State.int_off (sb hm (by decide))
      (.wr (.wr h3 (has_HK_OVR_STICKY (tb hm (by decide))) ..) (has_HK_OVR_CNT (tb hm (by decide))) ..) ..) ..) h3
  have h5 : Off m s2 s5 := State.setHkChan_off (sb hm (by decide)) h4 ..
  have h6 : Off m s2 s6 := State.setThm_off (sb hm (by decide)) h5 ..
  exact .ite h4 (.ite (.ite (.wr h6 (has_THM_MAX (tb hm (by decide))) ..) h6) h5)

/-- What the end of a conversion of a user scan reaches beside the words of its result. -/
def F.convEndTail : Nat := F.resultTail ||| F.State.scanEnd ||| F.State.hkNext

theorem State.hkConvEnd_off_written {s : State} {c : HkConv} (raw : BitVec 16) (ok : Bool) (hconv : s.hk.conv = some c)
    (huser : c.slow = false) :
    Off F.convEndTail (((s.reach c.done).setHk fun h => { h with conv := none }).resultWritten c raw ok) (s.hkConvEnd raw ok) := by
  have hm := Nat.and_self F.convEndTail
  unfold State.hkConvEnd
  rw [hconv]
  simp only [huser, Bool.false_and, Bool.not_false, Bool.true_and]
  refine State.hkNext_off (sb hm (by decide)) (State.cond_off ?_ (fun _ h => State.scanEnd_off (sb hm (by decide)) h) _)
  exact State.hkStore_off_written (sb hm (by decide)) ..

theorem execHkConversionEnd_stores {s : State} {raw : BitVec 16} {ok : Bool} {c : HkConv} {n : Fin 32} (hconv : s.hk.conv = some c)
    (hch : c.ch = n) (huser : c.slow = false) :
    ∃ t, exec (.hkConversionEnd raw ok) s = .next t ∧ t.rd HK_RES_VALID n = ok.toNat
      ∧ t.rd HK_RES_VALUE n = (BitVec.ofInt 16 (hkValue n raw)).toNat ∧ t.now = max s.now c.done := by
  have hoff := State.hkConvEnd_off_written raw ok hconv huser
  refine ⟨s.hkConvEnd raw ok, rfl, ?_, ?_, ?_⟩
  · rw [hoff.rd_eq_of_avoids (by decide +kernel) n.isLt, State.resultWritten, hch]
    simp (disch := decide) only [State.rd_wr_ne_at]
    rw [State.rd_wr_self _ _ (Fld.has_of_lt rfl rfl n.isLt) (by decide)]
    exact Bool.toNat_mod_two_pow ok (by decide)
  · rw [hoff.rd_eq_of_avoids (by decide +kernel) n.isLt, State.resultWritten, hch,
      State.rd_wr_self _ _ (Fld.has_of_lt rfl rfl n.isLt) (by decide)]
    exact Nat.mod_eq_of_lt (BitVec.isLt _)
  · exact (hoff.now_eq (by decide)).trans (s.reach_now c.done)

theorem execHkFault_faults {s : State} {parity : Bool} {c : Fin 32} :
    ∃ t, exec (.hkFault parity c) s = .next t ∧ t.rd HK_RES_VALID c = 0
      ∧ t.tst PG_ERR pgHK (if parity then 2 else 1) = true := by
  refine ⟨_, rfl, ?_, ?_⟩
  · have hoff := State.raise_off (Nat.and_self _) (.refl (a := s.wr HK_RES_VALID c 0)) pgHK (if parity then 2 else 1) allPorts
    exact (hoff.rd_eq_of_avoids (by decide +kernel) c.isLt).trans
      (State.rd_wr_self _ _ (Fld.has_of_lt rfl rfl c.isLt) (by decide))
  · refine State.raise_tst _ _ (by decide +kernel) ?_
    cases parity <;> decide

/-! ### Thermal control (R413, R422) -/

/-- What the restart of the islands reaches beside the cooling timer. -/
def F.islandsTail : Nat :=
  F.State.setSyn ||| F.State.setSynErr ||| F.State.synStart ||| F.State.estReset ||| F.State.portsEval ||| F.State.cteRestart |||
    F.State.bdacAll ||| 1 <<< 144

/-- The cooling is over. -/
def State.cooled (s : State) : State :=
  (s.setThm fun t => { t with restart := true, coolAt := none }).wr THM_STAT_COOLING 0 0

theorem State.thermalRestart_off_cooled {s : State} {a : Int} (hcool : s.thm.coolAt = some a) (hshut : s.thm.shut = true)
    (hrestart : s.thm.restart = false) (hdue : a + (secT 1 : Nat) ≤ s.now) :
    Off F.islandsTail s.cooled s.thermalRestart := by
  have hm := Nat.and_self F.islandsTail
  have hgo : ¬ (!s.thm.shut || s.thm.restart || decide ((s.now : Int) < a + (secT 1 : Nat))) = true := by
    rw [hshut, hrestart, decide_eq_false (Int.not_lt.2 hdue)]
    decide
  unfold State.thermalRestart
  rw [hcool]
  simp -zeta only [if_neg hgo]
  extract_lets s1 s2 s3 s4
  have h2 : Off F.islandsTail s.cooled s2 :=
    .foldl .refl (fun _ h _ => .ite h (State.synStart_off (sb hm (by decide))
      (State.setSynErr_off (sb hm (by decide)) (State.setSyn_off (sb hm (by decide)) h ..) ..) ..)) _
  have h3 : Off F.islandsTail s.cooled s3 :=
    State.portsEval_off (sb hm (by decide)) (.foldl h2 (fun _ h _ => State.estReset_off (sb hm (by decide)) h ..) _)
  have h4 : Off F.islandsTail s.cooled s4 :=
    State.bdacAll_off (sb hm (by decide)) (State.cteRestart_off (sb hm (by decide)) h3)
  exact State.cond_off h4 (fun _ h => .wr h (has_SYS_STATE_PENDING (by decide)) ..) _

theorem execThermalRestart_restarts {s : State} {a : Int} (hcool : s.thm.coolAt = some a) (hshut : s.thm.shut = true)
    (hrestart : s.thm.restart = false) (hdue : a + (secT 1 : Nat) ≤ s.now) :
    ∃ t, exec .thermalRestart s = .next t ∧ t.thm.restart = true ∧ t.thm.coolAt = none ∧ t.rd THM_STAT_COOLING 0 = 0 := by
  have hoff := State.thermalRestart_off_cooled hcool hshut hrestart hdue
  have hthm : s.thermalRestart.thm = s.cooled.thm := hoff.part .thm (by decide)
  refine ⟨s.thermalRestart, rfl, congrArg ThmSt.restart hthm, congrArg ThmSt.coolAt hthm, ?_⟩
  rw [hoff.rd_eq (by decide +kernel)]
  exact State.rd_wr_self _ _ (by decide) (by decide)

theorem execMaxClr_clears {s : State} {k : Fin 4} (hdef : s.sys.deferred = []) :
    ∃ t, exec .maxClr s = .next t ∧ t.rd THM_MAX k = 0x8000 := by
  have hrun : s.writeThmCtl 1#32 = (List.range 4).foldl (fun (s : State) k => s.wr THM_MAX k 0x8000) s := rfl
  refine ⟨_, congrArg Host.Outcome.next ((State.byHost_of_none hdef ..).trans hrun), ?_⟩
  have hne : ∀ b < 4, ∀ k < 4, b ≠ k → THM_MAX.key b ≠ THM_MAX.key k := by decide
  obtain ⟨u, -, hturn⟩ := foldl_turn (State.rd · THM_MAX k) (f := fun (s : State) k => s.wr THM_MAX k 0x8000)
    (List.mem_range.2 k.isLt) List.nodup_range (fun s b hb hbk => State.rd_wr_ne _ _ (hne b (List.mem_range.1 hb) k k.isLt hbk)) s
  exact hturn.trans (State.rd_wr_self _ _ (Fld.has_of_lt rfl rfl k.isLt) (by decide))

/-! ### PWM and bias codes (R415, R417, R418) -/

@[simp] theorem State.setPwm_pwmChan_self (s : State) (n : Nat) (f : PwmChan → PwmChan) :
    (s.setPwm n f).pwmChan n = f (s.pwmChan n) := Tab.get_set_self ..

theorem State.reach_pwm (s : State) (n : Nat) : (s.reach n).pwm = s.pwm :=
  (State.reach_off (Nat.and_self _) .refl n).part .pwm (by decide)

/-- What a period takes over from the settings written, in a channel that no loop owns. -/
theorem State.pwmStart_takes {s u : State} {n : Nat} (hloop : (s.pwmChan n).loopDuty = none) (hshut : s.thm.shut = false)
    (hu : u = s.reach ((s.pwmChan n).t0 + (s.pwmChan n).per * 2 ^ (s.pwmChan n).presc)) :
    ∃ presc bad level, s.pwmStart n = u.setPwm n fun x =>
      { x with t0 := u.now, en := u.on PWM_CFG_EN n, per := u.rd PWM_PER n, duty := min (u.rd PWM_PER n) (u.rd PWM_DUTY n),
               pol := u.on PWM_CFG_POL n, presc := presc, parity := bad, level := level } := by
  have hthm : u.thm = s.thm := by rw [hu]; exact (State.reach_off (Nat.and_self _) .refl _).part .thm (by decide)
  refine ⟨u.rd PWM_CFG_PRESC n, u.pwmBad n,
    (u.on PWM_CFG_EN n && !u.pwmBad n && decide (0 < min (u.rd PWM_PER n) (u.rd PWM_DUTY n))) != u.on PWM_CFG_POL n, ?_⟩
  simp only [State.pwmStart, hloop, ← hu, hthm, hshut, Bool.false_and, Bool.false_eq_true, if_false]

theorem execPwmPeriodStart_starts {s : State} {n : Fin 6} (hloop : (s.pwmChan n).loopDuty = none) (hshut : s.thm.shut = false) :
    ∃ t, exec (.pwmPeriodStart n) s = .next t
      ∧ t.now = max s.now ((s.pwmChan n).t0 + (s.pwmChan n).per * 2 ^ (s.pwmChan n).presc)
      ∧ (t.pwmChan n).t0 = t.now ∧ (t.pwmChan n).en = s.on PWM_CFG_EN n ∧ (t.pwmChan n).per = s.rd PWM_PER n
      ∧ (t.pwmChan n).duty = min (s.rd PWM_PER n) (s.rd PWM_DUTY n) ∧ (t.pwmChan n).pol = s.on PWM_CFG_POL n := by
  obtain ⟨presc, bad, level, hrun⟩ := State.pwmStart_takes hloop hshut rfl
  refine ⟨_, congrArg Host.Outcome.next hrun, s.reach_now _, ?_⟩
  rw [State.setPwm_pwmChan_self]
  simp only [State.on, State.reach_rd, and_self, and_true]
  rfl

theorem execPwmDutyEdge_falls {s : State} {n : Fin 6} (hduty : (s.pwmChan n).duty ≠ 0)
    (hper : (s.pwmChan n).duty < (s.pwmChan n).per)
    (htime : s.now ≤ (s.pwmChan n).t0 + (s.pwmChan n).duty * 2 ^ (s.pwmChan n).presc) :
    ∃ t, exec (.pwmDutyEdge n) s = .next t ∧ t.now = (s.pwmChan n).t0 + (s.pwmChan n).duty * 2 ^ (s.pwmChan n).presc
      ∧ (t.pwmChan n).level = (s.pwmChan n).pol := by
  have hgo : ¬ ((s.pwmChan n).duty = 0 ∨ (s.pwmChan n).per ≤ (s.pwmChan n).duty
      ∨ (s.pwmChan n).t0 + (s.pwmChan n).duty * 2 ^ (s.pwmChan n).presc < s.now) := by
    simp only [hduty, Nat.not_le.2 hper, Nat.not_lt.2 htime, or_self, not_false_eq_true]
  refine ⟨_, congrArg Host.Outcome.next (if_neg hgo), (s.reach_now _).trans (Nat.max_eq_right htime), ?_⟩
  rw [State.setPwm_pwmChan_self, State.pwmChan, State.reach_pwm, State.pwmChan]

theorem execPwmMismatch_mismatches {s : State} {n : Fin 6} :
    ∃ t, exec (.pwmMismatch n false) s = .next t ∧ t.rd PWM_STAT_MISMATCH n = 1 ∧ t.tst PG_ERR pgPWM 1 = true := by
  refine ⟨((s.wr PWM_STAT_MISMATCH n 1).stand 21 n).raiseInt [(pgPWM, 0)] pgPWM 1 allPorts, rfl, ?_,
    State.raiseInt_tst _ _ _ (by decide +kernel) (by decide) (by decide)⟩
  rw [(State.raiseInt_off (Nat.and_self _) .refl ..).rd_eq_of_avoids (by decide +kernel) n.isLt,
    (State.stand_off (Nat.and_self _) .refl ..).rd_eq_of_avoids (by decide +kernel) n.isLt]
  exact State.rd_wr_self _ _ (Fld.has_of_lt rfl rfl n.isLt) (by decide)

/-- What a bias DAC's next code depends on, and the code. -/
def State.bdacView (k : Nat) (s : State) : Nat × Nat × Nat := (s.rd BDAC_CODE_OUT k, s.rd BDAC_CFG_STEP k, s.bdacTarget k)

theorem State.bdacTarget_congr {s t : State} (hthm : t.thm = s.thm) {k : Nat}
    (hsafe : t.rd BDAC_CFG_SAFE k = s.rd BDAC_CFG_SAFE k) (hcode : t.rd BDAC_CODE_CODE k = s.rd BDAC_CODE_CODE k) :
    t.bdacTarget k = s.bdacTarget k := by
  rw [State.bdacTarget, hthm, hsafe, hcode, State.bdacTarget]

theorem State.bdacView_wr_out {s : State} {b k : Fin 8} (v : Nat) (hbk : b ≠ k) :
    State.bdacView k (s.wr BDAC_CODE_OUT b v) = State.bdacView k s := by
  have hout : ∀ b k : Fin 8, b ≠ k → BDAC_CODE_OUT.key b ≠ BDAC_CODE_OUT.key k := by decide
  have hothers : ∀ b k : Fin 8, BDAC_CODE_OUT.key b ≠ BDAC_CFG_STEP.key k ∧ BDAC_CODE_OUT.key b ≠ BDAC_CFG_SAFE.key k
      ∧ BDAC_CODE_OUT.key b ≠ BDAC_CODE_CODE.key k := by decide
  obtain ⟨hstep, hsafe, hcode⟩ := hothers b k
  rw [State.bdacView, State.rd_wr_ne _ _ (hout b k hbk), State.rd_wr_ne _ _ hstep,
    State.bdacTarget_congr (s := s) (t := s.wr BDAC_CODE_OUT b v) rfl (State.rd_wr_ne _ _ hsafe) (State.rd_wr_ne _ _ hcode), State.bdacView]

theorem State.bdacTarget_lt (s : State) (k : Nat) : s.bdacTarget k < 2 ^ BDAC_CODE_OUT.w := by
  unfold State.bdacTarget
  split
  · exact s.rd_lt BDAC_CFG_SAFE k
  · exact s.rd_lt BDAC_CODE_CODE k

theorem execBdacStep_moves {s u : State} {k : Fin 8} (hu : u = s.toMul evBDAC 0 1024) (hstep : s.rd BDAC_CFG_STEP k = 0) :
    ∃ t, exec .bdacStep s = .next t ∧ t.now = u.now ∧ t.rd BDAC_CODE_OUT k = s.bdacTarget k := by
  have hoff := State.toMul_off (Nat.and_self _) (.refl (a := s)) evBDAC 0 1024
  rw [← hu] at hoff
  have htarget : u.bdacTarget k = s.bdacTarget k := State.bdacTarget_congr (hoff.part .thm (by decide))
    (hoff.rd_eq_of_avoids (by decide +kernel) k.isLt) (hoff.rd_eq_of_avoids (by decide +kernel) k.isLt)
  have hstep' : u.rd BDAC_CFG_STEP k = 0 := (hoff.rd_eq_of_avoids (by decide +kernel) k.isLt).trans hstep
  refine ⟨s.bdacStep, rfl, ?_, ?_⟩
  · rw [State.bdacStep, ← hu]
    refine foldl_keeps State.now ?_ _
    exact fun _ _ _ => rfl
  · rw [State.bdacStep, ← hu]
    obtain ⟨w, hw, hturn⟩ := foldl_turn (f := fun (s : State) k =>
        let o := s.rd BDAC_CODE_OUT k
        let t := s.bdacTarget k
        let st := s.rd BDAC_CFG_STEP k
        s.wr BDAC_CODE_OUT k (if st = 0 then t else if o < t then min t (o + st) else max t (o - st)))
      (State.bdacView k) (List.mem_range.2 k.isLt) List.nodup_range
      (fun s b hb hbk => State.bdacView_wr_out (b := ⟨b, List.mem_range.1 hb⟩) _ fun h => hbk (congrArg Fin.val h)) u
    have hwstep : w.rd BDAC_CFG_STEP k = 0 := (congrArg (·.2.1) hw).trans hstep'
    have hwtarget : w.bdacTarget k = s.bdacTarget k := (congrArg (·.2.2) hw).trans htarget
    refine (congrArg Prod.fst hturn).trans ?_
    refine (State.rd_wr_self _ _ (Fld.has_of_lt rfl rfl k.isLt) (by decide)).trans ?_
    rw [if_pos hwstep, hwtarget]
    exact Nat.mod_eq_of_lt (s.bdacTarget_lt k)

/-- Settles O52. A trigger is held, and its scan starts at its instant; a slow round starts where it is requested; a conversion's
result is stored; the cooling ends; a period takes over what was written; a code without a step follows its target at once. That
a late event leaves the clock where it stands is the model's choice (log entry 3). -/
theorem housekeepingCommandsComplete : Obligations.HousekeepingCommandsComplete :=
  ⟨fun _ _ => execHkTimerTrigger_holds, fun _ _ => execHkPwmTrigger_holds, fun _ => execHkGo_holds,
    fun _ _ => execHkScanStart_starts, fun _ _ => execSlowRoundRequest_starts, fun _ _ _ _ _ => execHkConversionEnd_stores,
    fun _ _ => execThermalRestart_restarts, fun _ _ => execMaxClr_clears, fun _ _ _ => execHkFault_faults,
    fun _ _ => execPwmPeriodStart_starts, fun _ _ => execPwmDutyEdge_falls, fun _ _ => execPwmMismatch_mismatches,
    fun _ _ _ => execBdacStep_moves⟩

end Sys2Proof.Machine

/-! PROOF. The two-wire target, its mailboxes and its alert (spec/16_two_wire_ports.md R426, R427, R428, R429, R430, R431). -/
namespace Sys2Proof.Machine
open Sys2Proof
set_option Elab.async false

/-! ### Transactions (R426) -/

theorem State.on_of_one {s : State} {f : Fld} {i : Nat} (h : s.rd f i = 1) : s.on f i = true := by
  rw [State.on, h]
  rfl

theorem State.on_of_zero {s : State} {f : Fld} {i : Nat} (h : s.rd f i = 0) : s.on f i = false := by
  rw [State.on, h]
  rfl

/-- The port is addressed. -/
def State.addressed (s : State) : State := ((s.satInc TWT_XFER_CNT 0).wr TWT_STAT_BUSY 0 1).wr TWT_STAT_ASLEEP 0 0

theorem execTwtAddress_opens {s : State} {addr : BitVec 7} (hdark : s.sys.dark = false) (haddr : addr.toNat = s.rd TWT_CFG_ADDR 0)
    (hawake : s.rd TWT_STAT_ASLEEP 0 = 0) (hidle : s.rd TWT_STAT_BUSY 0 = 0) :
    ∃ t, exec (.twtAddress addr false) s = .next t ∧ t.rd TWT_STAT_BUSY 0 = 1 ∧ t.twt.acked = true ∧ t.twt.first = true
      ∧ t.twt.reading = false ∧ t.rd TWT_XFER_CNT 0 = min (s.rd TWT_XFER_CNT 0 + 1) (2 ^ TWT_XFER_CNT.w - 1) := by
  have hrun : s.twtAddress addr.toNat false = s.addressed.setTwt fun t =>
      { t with reading := false, first := true, lastAt := s.addressed.now, afterStuck := false, acked := true,
               snap := s.addressed.twt.snap } := by
    rw [State.twtAddress, hdark, haddr, State.on_of_zero hawake, State.on_of_zero hidle, if_neg Bool.false_ne_true,
      if_neg (not_not.2 rfl)]
    rfl
  refine ⟨_, congrArg Host.Outcome.next hrun, ?_, rfl, rfl, rfl, ?_⟩
  · rw [State.setTwt_rd, State.addressed, State.rd_wr_ne _ _ (by decide), State.rd_wr_self _ _ (by decide) (by decide)]
    rfl
  · rw [State.setTwt_rd, State.addressed, State.rd_wr_ne _ _ (by decide), State.rd_wr_ne _ _ (by decide),
      State.rd_satInc_self (by decide) (by decide)]

theorem State.twtEnd_stop (s : State) : s.twtEnd true = (s.setTwt fun t => { t with lastAt := s.now }).wr TWT_STAT_BUSY 0 0 := rfl

theorem execTwtWriteByte_points {s : State} {b : Byte} (hbusy : s.rd TWT_STAT_BUSY 0 = 1) (hwriting : s.twt.reading = false)
    (hfirst : s.twt.first = true) :
    ∃ t, exec (.twtWriteByte b true) s = .next t ∧ t.rd TWT_STAT_PTR 0 = b.toNat ∧ t.twt.acked = true ∧ t.twt.first = false
      ∧ t.rd TWT_STAT_BUSY 0 = 0 := by
  have hrun : s.twtWrite b true = ((((s.setTwt fun t => { t with acked := true }).wr TWT_STAT_PTR 0 b.toNat).setTwt fun t =>
      { t with first := false }).twtEnd true) := by
    rw [State.twtWrite, State.on_of_one hbusy, hwriting]
    simp only [Bool.not_true, Bool.or_self, Bool.false_eq_true, if_false, State.setTwt_twt, hfirst, if_true]
  refine ⟨_, congrArg Host.Outcome.next hrun, ?_, rfl, rfl, ?_⟩
  · rw [State.twtEnd_stop, State.rd_wr_ne _ _ (by decide), State.setTwt_rd, State.setTwt_rd,
      State.rd_wr_self _ _ (by decide) (by decide)]
    exact Nat.mod_eq_of_lt b.isLt
  · rw [State.twtEnd_stop, State.rd_wr_self _ _ (by decide) (by decide)]
    rfl

/-- What a read of a byte changes before the pointer advances: the byte sent, causes that are acknowledged and the mailbox that
empties. -/
def F.twtReadHead : Nat := F.State.setTwt ||| F.State.int ||| 1 <<< 277

/-- A byte is read: it is the one at the pointer, which advances. -/
theorem State.twtRead_sends {s : State} (hbusy : s.rd TWT_STAT_BUSY 0 = 1) (hreading : s.twt.reading = true) :
    ∃ u, s.twtRead true false = u.twtAdvance.twtEnd true ∧ u.twt.sent = s.twtByte ∧ Off F.twtReadHead s u := by
  have hm := Nat.and_self F.twtReadHead
  obtain ⟨s1, hs1⟩ : ∃ s1, s1 = s.setTwt fun t => { t with sent := s.twtByte } := ⟨_, rfl⟩
  obtain ⟨s2, hs2⟩ : ∃ s2, s2 = s1.cond (s.rd TWT_STAT_PTR 0 == 0x66) fun s => s.setTwt fun t =>
    { t with causes := t.causes &&& ~~~((t.snap.drop 0x66).headD 0) } := ⟨_, rfl⟩
  have hsent : s2.twt.sent = s.twtByte := by
    rw [hs2, State.cond]
    split <;> rw [hs1] <;> rfl
  have hoff : Off F.twtReadHead s s2 := by
    rw [hs2, hs1]
    exact State.cond_off (State.setTwt_off (sb hm (by decide)) .refl ..) (fun _ h => State.setTwt_off (sb hm (by decide)) h ..) _
  refine ⟨s2.cond (s.rd TWT_STAT_PTR 0 == 0xFF && s2.on TWT_STAT_OUT_FULL 0) fun s => (s.wr TWT_STAT_OUT_FULL 0 0).int pgTWT 1,
    ?_, ?_, State.cond_off hoff (fun _ h => State.int_off (sb hm (by decide)) (.wr h (has_TWT_STAT_OUT_FULL (by decide)) ..) ..) _⟩
  · rw [State.twtRead, State.on_of_one hbusy, hreading, hs2, hs1]
    rfl
  · unfold State.cond
    split
    · exact hsent
    · exact hsent

theorem execTwtReadByte_reads {s : State} (hbusy : s.rd TWT_STAT_BUSY 0 = 1) (hreading : s.twt.reading = true) :
    ∃ t, exec (.twtReadByte true false) s = .next t ∧ t.twt.sent = s.twtByte
      ∧ t.rd TWT_STAT_PTR 0 = (s.rd TWT_STAT_PTR 0 + 1) % 256 ∧ t.rd TWT_STAT_BUSY 0 = 0 := by
  obtain ⟨u, hrun, hsent, hoff⟩ := State.twtRead_sends hbusy hreading
  refine ⟨_, congrArg Host.Outcome.next hrun, hsent, ?_, ?_⟩
  · rw [State.twtEnd_stop, State.rd_wr_ne _ _ (by decide), State.setTwt_rd, State.twtAdvance, State.inc,
      State.rd_wr_self _ _ (by decide) (by decide), hoff.rd_eq (by decide +kernel)]
    rfl
  · rw [State.twtEnd_stop, State.rd_wr_self _ _ (by decide) (by decide)]
    rfl

/-! ### Repeated starts, a stuck bus and sleep (R429, R430, R431) -/

theorem execTwtRepeatedStartAtAck_counts {s : State} (hbusy : s.rd TWT_STAT_BUSY 0 = 1) :
    ∃ t, exec .twtRepeatedStartAtAck s = .next t
      ∧ t.rd TWT_RSACK_CNT 0 = min (s.rd TWT_RSACK_CNT 0 + 1) (2 ^ TWT_RSACK_CNT.w - 1) ∧ t.twt.lastAt = s.now
      ∧ t.rd TWT_STAT_PTR 0 = s.rd TWT_STAT_PTR 0 := by
  have hrun : s.twtRestart = ((s.satInc TWT_RSACK_CNT 0).int pgTWT 3).setTwt fun t => { t with lastAt := s.now } := by
    rw [State.twtRestart, State.on_of_one hbusy]
    rfl
  have hoff := State.int_off (Nat.and_self _) (.refl (a := s.satInc TWT_RSACK_CNT 0)) pgTWT 3
  refine ⟨_, congrArg Host.Outcome.next hrun, ?_, rfl, ?_⟩
  · rw [State.setTwt_rd, hoff.rd_eq (by decide +kernel), State.rd_satInc_self (by decide) (by decide)]
  · rw [State.setTwt_rd, hoff.rd_eq (by decide +kernel), State.satInc, State.satAdd, State.rd_wr_ne _ _ (by decide)]

theorem execTwtSclStuck_abandons {s : State} (hbusy : s.rd TWT_STAT_BUSY 0 = 1) :
    ∃ t, exec .twtSclStuck s = .next t ∧ t.rd TWT_STAT_BUSY 0 = 0
      ∧ t.rd TWT_STUCK_CNT 0 = min (s.rd TWT_STUCK_CNT 0 + 1) (2 ^ TWT_STUCK_CNT.w - 1) ∧ t.tst PG_ERR pgTWT 1 = true
      ∧ t.twt.afterStuck = true := by
  obtain ⟨u, hu⟩ : ∃ u, u = ((s.wr TWT_STAT_BUSY 0 0).satInc TWT_STUCK_CNT 0).setTwt fun t =>
    { t with afterStuck := true, lastAt := s.now } := ⟨_, rfl⟩
  have hrun : s.twtStuck = u.raiseInt [(pgTWT, 2)] pgTWT 1 allPorts := by
    rw [State.twtStuck, State.on_of_one hbusy, hu]
    rfl
  have hoff := State.raiseInt_off (Nat.and_self _) (.refl (a := u)) [(pgTWT, 2)] pgTWT 1 allPorts
  have htwt : (u.raiseInt [(pgTWT, 2)] pgTWT 1 allPorts).twt = u.twt := hoff.part .twt (by decide)
  refine ⟨_, congrArg Host.Outcome.next hrun, ?_, ?_, State.raiseInt_tst _ _ _ (by decide +kernel) (by decide) (by decide), ?_⟩
  · rw [hoff.rd_eq (by decide +kernel), hu, State.setTwt_rd, State.satInc, State.satAdd, State.rd_wr_ne _ _ (by decide),
      State.rd_wr_self _ _ (by decide) (by decide)]
    rfl
  · rw [hoff.rd_eq (by decide +kernel), hu, State.setTwt_rd, State.rd_satInc_self (by decide) (by decide),
      State.rd_wr_ne _ _ (by decide)]
  · rw [htwt, hu]
    rfl

theorem execTwtIdleSleep_sleeps {s : State} (hidle : s.rd TWT_STAT_BUSY 0 = 0) (hawake : s.rd TWT_STAT_ASLEEP 0 = 0)
    (hen : s.rd TWT_CFG_SLEEP_EN 0 = 1) :
    ∃ t, exec .twtIdleSleep s = .next t ∧ t.rd TWT_STAT_ASLEEP 0 = 1
      ∧ t.now = max s.now (s.twt.lastAt + secT (s.rd TWT_CFG_IDLE_S 0)) := by
  have hrun : s.twtSleep = (s.reach (s.twt.lastAt + secT (s.rd TWT_CFG_IDLE_S 0))).wr TWT_STAT_ASLEEP 0 1 := by
    rw [State.twtSleep, State.on_of_zero hidle, State.on_of_zero hawake, State.on_of_one hen]
    exact if_neg (by decide)
  refine ⟨_, congrArg Host.Outcome.next hrun, State.rd_wr_self _ _ (by decide) (by decide), ?_⟩
  rw [State.wr_now, State.reach_now]

/-! ### The alert and the mailboxes (R427, R428) -/

/-- The port sends its address in answer to the alert response. -/
def State.alertAnswered (s : State) : State :=
  ((s.setTwt fun t => { t with lastAt := s.now, afterStuck := false }).satInc TWT_XFER_CNT 0).setTwt fun t =>
    { t with acked := true, sent := BitVec.ofNat 8 (2 * s.rd TWT_CFG_ADDR 0) }

theorem execAlertResponse_answers {s : State} (hdark : s.sys.dark = false) (hawake : s.rd TWT_STAT_ASLEEP 0 = 0)
    (halert : s.rd TWT_STAT_ALERT 0 = 1) :
    ∃ t, exec (.alertResponse false) s = .next t ∧ t.rd TWT_STAT_ALERT 0 = 0 ∧ t.twt.acked = true
      ∧ t.twt.sent = BitVec.ofNat 8 (2 * s.rd TWT_CFG_ADDR 0) ∧ t.tst PG_INT_STAT pgTWT 4 = true := by
  have hrun : s.alertRead false = (s.alertAnswered.wr TWT_STAT_ALERT 0 0).int pgTWT 4 := by
    have hpending : (s.setTwt fun t => { t with lastAt := s.now, afterStuck := false }).on TWT_STAT_ALERT 0 = true :=
      State.on_of_one halert
    rw [State.alertRead, hdark, State.on_of_zero hawake]
    simp only [Bool.false_and, Bool.false_eq_true, if_false, hpending, Bool.not_true]
    rfl
  refine ⟨_, congrArg Host.Outcome.next hrun, ?_, rfl, rfl, State.int_tst _ (by decide +kernel) (by decide)⟩
  rw [(State.int_off (Nat.and_self _) .refl ..).rd_eq (by decide +kernel)]
  exact State.rd_wr_self _ _ (by decide) (by decide)

theorem execMailboxInAck_empties {s : State} (hdef : s.sys.deferred = []) :
    ∃ t, exec .mailboxInAck s = .next t ∧ t.rd TWT_STAT_IN_FULL 0 = 0 :=
  ⟨_, congrArg Host.Outcome.next (State.byHost_of_none hdef ..), State.rd_wr_self _ _ (by decide) (by decide)⟩

theorem execMailboxOutGo_fills {s : State} (hdef : s.sys.deferred = []) (hfree : s.rd TWT_STAT_OUT_FULL 0 = 0) :
    ∃ t, exec .mailboxOutGo s = .next t ∧ t.rd TWT_STAT_OUT_FULL 0 = 1 := by
  have hrun : s.outGo = (s.wr TWT_STAT_OUT_FULL 0 1).alert alertOUT := by
    rw [State.outGo, State.on_of_zero hfree]
    rfl
  refine ⟨_, congrArg Host.Outcome.next ((State.byHost_of_none hdef ..).trans hrun), ?_⟩
  rw [(State.alert_off (Nat.and_self _) .refl ..).rd_eq (by decide +kernel)]
  exact State.rd_wr_self _ _ (by decide) (by decide)

theorem execHostAlert_alerts {s : State} (hdef : s.sys.deferred = []) (hen : s.tst TWT_ALERT_EN 0 alertHOST = true) :
    ∃ t, exec .hostAlert s = .next t ∧ t.rd TWT_STAT_ALERT 0 = 1
      ∧ t.twt.causes = s.twt.causes ||| BitVec.ofNat 8 (2 ^ alertHOST) := by
  have hrun : s.alert alertHOST = (s.wr TWT_STAT_ALERT 0 1).setTwt fun t =>
      { t with causes := t.causes ||| BitVec.ofNat 8 (2 ^ alertHOST) } := if_pos hen
  exact ⟨_, congrArg Host.Outcome.next ((State.byHost_of_none hdef ..).trans hrun),
    State.rd_wr_self _ _ (by decide) (by decide), rfl⟩

/-- Settles O53: an address byte opens a transaction, whose bytes set the pointer or leave at it; a repeated start is counted; a stuck
bus ends it; the idle port sleeps; the alert is latched and answered; the mailboxes fill and empty. That a late event leaves the
clock where it stands is the model's choice (log entry 3). -/
theorem twoWireTargetComplete : Obligations.TwoWireTargetComplete :=
  ⟨fun _ _ => execTwtAddress_opens, fun _ _ => execTwtWriteByte_points, fun _ => execTwtReadByte_reads,
    fun _ => execTwtRepeatedStartAtAck_counts, fun _ => execTwtSclStuck_abandons, fun _ => execTwtIdleSleep_sleeps,
    fun _ => execAlertResponse_answers, fun _ => execMailboxInAck_empties, fun _ => execMailboxOutGo_fills,
    fun _ => execHostAlert_alerts⟩

end Sys2Proof.Machine

/-! PROOF. The two-wire controllers (spec/16_two_wire_ports.md R432, R433, R434, R435, R436). -/
namespace Sys2Proof.Machine
open Sys2Proof
set_option Elab.async false

/-! ### What an idle controller does next (R432, R436) -/

theorem State.on_of_ne {s : State} {f : Fld} {i : Nat} (h : s.rd f i ≠ 0) : s.on f i = true := bne_iff_ne.2 h

@[simp] theorem State.setTw_tw_self (s : State) (q : Nat) (f : TwcSt → TwcSt) : (s.setTw q f).tw q = f (s.tw q) := Tab.get_set_self ..

theorem State.setTw_rd (s : State) (q : Nat) (g : TwcSt → TwcSt) (f : Fld) (i : Nat) : (s.setTw q g).rd f i = s.rd f i := rfl

/-- The controller is enabled, and runs nothing. -/
structure State.TwIdle (s : State) (q : Nat) : Prop where
  en : s.rd TWC_CFG_EN q ≠ 0
  run : (s.tw q).run = none
  clear : (s.tw q).clear = false

theorem State.TwIdle.congr {s t : State} {q : Nat} (h : s.TwIdle q) (hen : t.rd TWC_CFG_EN q = s.rd TWC_CFG_EN q)
    (hrun : (t.tw q).run = (s.tw q).run) (hclear : (t.tw q).clear = (s.tw q).clear) : t.TwIdle q :=
  ⟨hen.trans_ne h.en, hrun.trans h.run, hclear.trans h.clear⟩

theorem State.TwIdle.free {s : State} {q : Nat} (h : s.TwIdle q) :
    ¬ (!s.on TWC_CFG_EN q || (s.tw q).run.isSome || (s.tw q).clear) = true := by
  rw [State.on_of_ne h.en, h.run, h.clear]
  decide

theorem State.twNext_of_running {s : State} {q : Nat} (hrun : (s.tw q).run.isSome = true) : s.twNext q = s := by
  refine if_pos ?_
  rw [hrun, Bool.or_true, Bool.true_or]

theorem State.TwIdle.clears {s : State} {q : Nat} (h : s.TwIdle q) (hreq : (s.tw q).clearReq = true) :
    s.twNext q = s.clearStart q :=
  (if_neg h.free).trans (if_pos hreq)

theorem State.TwIdle.starts {s : State} {q : Nat} {i : TwItem} (h : s.TwIdle q) (hreq : (s.tw q).clearReq = false)
    (hwait : s.twWaiting q = some i) (hstuck : s.rd TWC_STAT_STUCK q = 0) (hsda : s.rd TWC_STAT_SDA q ≠ 0) :
    s.twNext q = s.twStart q i := by
  refine (if_neg h.free).trans ((if_neg (Bool.eq_false_iff.1 hreq)).trans ?_)
  rw [hwait, State.on_of_zero hstuck, State.on_of_ne hsda]
  rfl

theorem State.twStart_busy (s : State) {q : Nat} (hq : q < 2) (i : TwItem) : (s.twStart q i).rd TWC_STAT_BUSY q = 1 := by
  have hbusy : ((s.wr TWC_STAT_BUSY q 1).satInc TWC_XFER_CNT q).rd TWC_STAT_BUSY q = 1 := by
    rw [State.satInc, State.satAdd, State.rd_wr_ne_at _ _ (by decide) (by decide),
      State.rd_wr_self _ _ (Fld.has_of_lt rfl rfl hq) (by decide)]
    rfl
  cases i <;> exact hbusy

/-! ### Commands of the host and transactions (R432, R433) -/

/-- The fields of a command. -/
def twcCmdFlds : List Fld := [TWC_CMD_PEC, TWC_CMD_WLEN, TWC_CMD_RLEN, TWC_CMD_ADDR]

/-- The words and the busy bit of a command. -/
def F.twcCmd : Nat := 1 <<< 136 ||| 1 <<< 389 ||| 1 <<< 390 ||| 1 <<< 391 ||| 1 <<< 392

/-- A command of the host waits. -/
def State.twcQueued (s : State) (q : Nat) (v : Word) : State :=
  ((s.wrWord twcCmdFlds q v).wr TWC_CMD_STAT_BUSY q 1).setTw q fun t => { t with cmdWait := true }

theorem State.twcQueued_off (s : State) (q : Nat) (v : Word) :
    Off F.twcCmd s ((s.wrWord twcCmdFlds q v).wr TWC_CMD_STAT_BUSY q 1) :=
  .wr (State.wrWord_off .refl (.cons (has_TWC_CMD_PEC (by decide)) (.cons (has_TWC_CMD_WLEN (by decide))
    (.cons (has_TWC_CMD_RLEN (by decide)) (.cons (has_TWC_CMD_ADDR (by decide)) .nil)))) ..) (has_TWC_CMD_STAT_BUSY (by decide)) ..

theorem State.tw_congr {s t : State} (h : t.twc = s.twc) (q : Nat) : t.tw q = s.tw q := by rw [State.tw, h, State.tw]

theorem State.twcQueued_tw (s : State) (q : Nat) (v : Word) : (s.twcQueued q v).tw q = { s.tw q with cmdWait := true } := by
  rw [State.twcQueued, State.setTw_tw_self, State.tw_congr ((s.twcQueued_off q v).part .twc (by decide))]

theorem State.twcQueued_rd {s : State} {q : Fin 2} (v : Word) {f : Fld} (hf : maskAvoids F.twcCmd f = true) (hn : f.n = 2) :
    (s.twcQueued q v).rd f q = s.rd f q :=
  (s.twcQueued_off q v).rd_eq_of_avoids hf (q.isLt.trans_eq hn.symm)

/-- A command whose lengths fit is taken up by a controller without one. -/
theorem State.writeTwcCmd_queues {s : State} {q : Nat} {v : Word} (hgo : TWC_CMD_GO.of v = 1) (hw : TWC_CMD_WLEN.of v ≤ 32)
    (hr : TWC_CMD_RLEN.of v ≤ 32) (hfree : s.rd TWC_CMD_STAT_BUSY q = 0)
    (hsum : TWC_CMD_WLEN.of v + TWC_CMD_RLEN.of v + TWC_CMD_PEC.of v ≤ 33) :
    s.writeTwcCmd q v = (s.twcQueued q v).twNext q := by
  have hlengths : ¬ (32 < TWC_CMD_WLEN.of v ∨ 32 < TWC_CMD_RLEN.of v) := by omega
  have hroom : ¬ (s.on TWC_CMD_STAT_BUSY q = true ∨ 33 < TWC_CMD_WLEN.of v + TWC_CMD_RLEN.of v + TWC_CMD_PEC.of v) := by
    rw [State.on_of_zero hfree]
    simp only [Bool.false_eq_true, false_or, Nat.not_lt, hsum]
  rw [State.writeTwcCmd, if_neg hlengths, if_neg fun h => hroom h.2, hgo]
  rfl

theorem execTwcCommandGo_starts {s : State} {q : Fin 2} {v : Word} (hdef : s.sys.deferred = [])
    (hw : TWC_CMD_WLEN.of (v ||| 0x80000000#32) ≤ 32) (hr : TWC_CMD_RLEN.of (v ||| 0x80000000#32) ≤ 32)
    (hfree : s.rd TWC_CMD_STAT_BUSY q = 0)
    (hsum : TWC_CMD_WLEN.of (v ||| 0x80000000#32) + TWC_CMD_RLEN.of (v ||| 0x80000000#32)
      + TWC_CMD_PEC.of (v ||| 0x80000000#32) ≤ 33)
    (hen : s.rd TWC_CFG_EN q ≠ 0) (hrun : (s.tw q).run = none) (hclear : (s.tw q).clear = false)
    (hreq : (s.tw q).clearReq = false) (hreg : (s.tw q).regWait = none) (hstuck : s.rd TWC_STAT_STUCK q = 0)
    (hsda : s.rd TWC_STAT_SDA q ≠ 0) :
    ∃ t, exec (.twcCommandGo q v) s = .next t ∧ (t.tw q).run = some .host ∧ (t.tw q).cmdWait = false
      ∧ t.rd TWC_CMD_STAT_BUSY q = 1 ∧ t.rd TWC_STAT_BUSY q = 1 ∧ t.rd TWC_CMD_ADDR q = TWC_CMD_ADDR.of (v ||| 0x80000000#32) := by
  have hgo : TWC_CMD_GO.of (v ||| 0x80000000#32) = 1 := Fld.of_or_set v rfl (by decide)
  have hexec : exec (.twcCommandGo q v) s = .next (s.writeTwcCmd q (v ||| 0x80000000#32)) :=
    congrArg Host.Outcome.next (State.byHost_of_none hdef ..)
  generalize v ||| 0x80000000#32 = x at hw hr hsum hgo hexec ⊢
  have htw := s.twcQueued_tw q x
  have hidle : (s.twcQueued q x).TwIdle q :=
    ⟨(State.twcQueued_rd x (by decide +kernel) rfl).trans_ne hen, by rw [htw]; exact hrun, by rw [htw]; exact hclear⟩
  have hwait : (s.twcQueued q x).twWaiting q = some .host := by
    rw [State.twWaiting, htw]
    simp only [hreg, if_true]
  have hstart : s.writeTwcCmd q x = (s.twcQueued q x).twStart q .host :=
    (State.writeTwcCmd_queues hgo hw hr hfree hsum).trans (hidle.starts (by rw [htw]; exact hreq) hwait
      ((State.twcQueued_rd x (by decide +kernel) rfl).trans hstuck) ((State.twcQueued_rd x (by decide +kernel) rfl).trans_ne hsda))
  have hoff := State.twStart_off (Nat.and_self _) (.refl (a := s.twcQueued q x)) q .host
  have hdistinct : twcCmdFlds.Pairwise (·.key q ≠ ·.key q) :=
    List.Pairwise.imp (R := fun f g : Fld => f.apart g = true) (fun h => Fld.key_ne_of_apart h q) (by decide)
  refine ⟨(s.twcQueued q x).twStart q .host, hexec.trans (congrArg Host.Outcome.next hstart), ?_, ?_, ?_,
    State.twStart_busy _ q.isLt _, ?_⟩
  · exact congrArg TwcSt.run (State.setTw_tw_self _ _ fun t => { t with run := some .host, cmdWait := false })
  · exact congrArg TwcSt.cmdWait (State.setTw_tw_self _ _ fun t => { t with run := some .host, cmdWait := false })
  · rw [hoff.rd_eq_of_avoids (by decide +kernel) q.isLt, State.twcQueued, State.setTw_rd]
    exact State.rd_wr_self _ _ (Fld.has_of_lt rfl rfl q.isLt) (by decide)
  · rw [hoff.rd_eq_of_avoids (by decide +kernel) q.isLt, State.twcQueued, State.setTw_rd,
      State.rd_wr_ne_at _ _ (by decide) (by decide)]
    exact State.rd_wrWord_self s (.tail _ (.tail _ (.tail _ (.head _)))) hdistinct (Fld.has_of_lt rfl rfl q.isLt) (by decide)

/-- What follows the result of a host command. -/
def F.cmdResultTail : Nat := F.State.cmdEnd ||| F.State.setTw ||| F.State.twNext

theorem execTwcTransactionDone_lasts {s : State} {q : Fin 2} {res : Fin 8} {acked : Fin 64} {bs : List Byte}
    (hrun : (s.tw q).run = some .host) :
    ∃ t, exec (.twcTransactionDone q res acked bs) s = .next t ∧ t.rd TWC_STAT_LAST q = res := by
  have hm := Nat.and_self F.cmdResultTail
  obtain ⟨u, hu⟩ : ∃ u, u = ((s.setTw q fun t => { t with run := none }).wr TWC_STAT_BUSY q 0).wr TWC_STAT_LAST q res := ⟨_, rfl⟩
  have hoff : Off F.cmdResultTail u (s.twDone q res acked bs) := by
    unfold State.twDone State.twResult
    rw [hrun, hu]
    exact State.twNext_off (sb hm (by decide)) (State.cond_off (State.cmdEnd_off (sb hm (by decide)) .refl ..)
      (fun _ h => State.setTw_off (sb hm (by decide)) h ..) _) ..
  refine ⟨_, rfl, (hoff.rd_eq_of_avoids (by decide +kernel) q.isLt).trans ?_⟩
  rw [hu, State.rd_wr_self _ _ (Fld.has_of_lt rfl rfl q.isLt) (by decide)]
  exact Nat.mod_eq_of_lt (res.isLt.trans_le (by decide))

/-! ### Polls and the regulator (R434, R435) -/

theorem execPollDue_queues {s u : State} {q : Fin 2} {e : Fin 16} (hen : s.rd TWC_POLL_A_EN (pollIx q e) ≠ 0)
    (hrun : (s.tw q).run.isSome = true) (hnew : (s.tw q).polls.contains e.val = false)
    (hu : u = s.toMul (evPOLL + 16 * q + e) 0 (983040 * max 1 (s.rd TWC_POLL_B (pollIx q e)))) :
    ∃ t, exec (.pollDue q e) s = .next t
      ∧ (t.tw q).polls = (s.tw q).polls.filter (· < e.val) ++ e.val :: (s.tw q).polls.filter (e.val < ·) ∧ t.now = u.now := by
  have htw : u.tw q = s.tw q := by
    rw [hu]
    exact State.tw_congr ((State.toMul_off (Nat.and_self _) .refl ..).part .twc (by decide)) q
  have hgo : s.pollDue q e = u.setTw q fun t =>
      { t with polls := t.polls.filter (· < e.val) ++ e.val :: t.polls.filter (e.val < ·) } := by
    rw [State.pollDue, State.on_of_ne hen]
    simp only [Bool.not_true, Bool.false_eq_true, if_false, ← hu, htw, hnew]
    refine State.twNext_of_running ?_
    rw [State.setTw_tw_self, htw]
    exact hrun
  refine ⟨_, congrArg Host.Outcome.next hgo, ?_, rfl⟩
  rw [State.setTw_tw_self, htw]

theorem execRegulatorRetry_sends {s : State} {q : Fin 2} {a mv : Nat} (hretry : (s.tw q).retryAt = some a)
    (hreg : (s.tw q).regWait = some mv) (hen : s.rd TWC_CFG_EN q ≠ 0) (hrun : (s.tw q).run = none)
    (hclear : (s.tw q).clear = false) (hreq : (s.tw q).clearReq = false) (hstuck : s.rd TWC_STAT_STUCK q = 0)
    (hsda : s.rd TWC_STAT_SDA q ≠ 0) :
    ∃ t, exec (.regulatorRetry q) s = .next t ∧ (t.tw q).run = some (.reg mv) ∧ t.rd TWC_STAT_BUSY q = 1
      ∧ t.now = max s.now a := by
  obtain ⟨u, hu⟩ : ∃ u, u = (s.reach a).setTw q fun t => { t with retryAt := none } := ⟨_, rfl⟩
  have htw : u.tw q = { s.tw q with retryAt := none } := by
    rw [hu, State.setTw_tw_self, State.tw_congr ((State.reach_off (Nat.and_self _) .refl a).part .twc (by decide))]
  have hrd (f : Fld) : u.rd f q = s.rd f q := by rw [hu, State.setTw_rd, State.reach_rd]
  have hidle : u.TwIdle q := ⟨(hrd _).trans_ne hen, by rw [htw]; exact hrun, by rw [htw]; exact hclear⟩
  have hwait : u.twWaiting q = some (.reg mv) := by
    rw [State.twWaiting, htw]
    simp only [hreg]
  have hstart : s.regRetry q = u.twStart q (.reg mv) := by
    rw [State.regRetry, hretry, ← hidle.starts (by rw [htw]; exact hreq) hwait ((hrd _).trans hstuck) ((hrd _).trans_ne hsda), hu]
  refine ⟨_, congrArg Host.Outcome.next hstart, ?_, State.twStart_busy _ q.isLt _, ?_⟩
  · rw [State.twStart, State.setTw_tw_self]
  · rw [(State.twStart_off (Nat.and_self _) .refl ..).now_eq (by decide), hu]
    exact s.reach_now a

/-! ### Aborts and bus clears (R436) -/

/-- A bus clear has begun. -/
def State.clearing (s : State) (q : Nat) : State := (s.setTw q fun t => { t with clearReq := true }).clearStart q

theorem State.clearing_tw (s : State) (q : Nat) : (s.clearing q).tw q = { s.tw q with clear := true, clearReq := false } := by
  have hcount (u : State) (f : TwcSt → TwcSt) : ((u.setTw q f).satInc TWC_CLEAR_CNT q).tw q = f (u.tw q) := u.setTw_tw_self q f
  rw [State.clearing, State.clearStart, hcount, State.setTw_tw_self]

theorem State.TwIdle.twClear {s : State} {q : Nat} (h : s.TwIdle q) : s.twClear q = s.clearing q := by
  have hasked : (s.setTw q fun t => { t with clearReq := true }).TwIdle q :=
    h.congr rfl (by rw [State.setTw_tw_self]) (by rw [State.setTw_tw_self])
  exact hasked.clears (by rw [State.setTw_tw_self])

/-- The host command that runs is abandoned. -/
def State.abandoned (s : State) (q : Nat) : State :=
  ((s.setTw q fun t => { t with run := none }).wr TWC_STAT_BUSY q 0).wr TWC_STAT_LAST q 7

/-- What follows the RESULT of a command that read nothing. -/
def F.cmdEndTail : Nat := F.State.int ||| 1 <<< 137

theorem State.cmdEnd_result {s : State} {q : Fin 2} {res : Nat} (acked : Nat) (hres : res < 8) :
    (s.cmdEnd q res acked []).rd TWC_CMD_STAT_RESULT q = res := by
  have hm := Nat.and_self F.cmdEndTail
  have hoff : Off F.cmdEndTail ((s.wr TWC_CMD_STAT_BUSY q 0).wr TWC_CMD_STAT_RESULT q res) (s.cmdEnd q res acked []) := by
    unfold State.cmdEnd
    exact State.cond_off (State.int_off (sb hm (by decide)) (.wr .refl (has_TWC_CMD_STAT_BYTES (by decide)) ..) ..)
      (fun _ h => State.int_off (sb hm (by decide)) h ..) _
  rw [hoff.rd_eq_of_avoids (by decide +kernel) q.isLt, State.rd_wr_self _ _ (Fld.has_of_lt rfl rfl q.isLt) (by decide)]
  exact Nat.mod_eq_of_lt (hres.trans_le (by decide))

theorem execTwcAbort_clears {s : State} {q : Fin 2} (hdef : s.sys.deferred = []) (hrun : (s.tw q).run = some .host)
    (hen : s.rd TWC_CFG_EN q ≠ 0) (hclear : (s.tw q).clear = false) :
    ∃ t, exec (.twcAbort q) s = .next t ∧ (t.tw q).clear = true ∧ (t.tw q).run = none ∧ t.rd TWC_STAT_LAST q = 7
      ∧ t.rd TWC_CMD_STAT_RESULT q = 7 := by
  obtain ⟨w, hw⟩ : ∃ w, w = (s.abandoned q).cmdEnd q 7 0 [] := ⟨_, rfl⟩
  have hoff : Off F.State.cmdEnd (s.abandoned q) w := by
    rw [hw]
    exact State.cmdEnd_off (Nat.and_self _) .refl ..
  have hwtw : w.tw q = { s.tw q with run := none } := by
    rw [State.tw_congr (hoff.part .twc (by decide))]
    exact s.setTw_tw_self q fun t => { t with run := none }
  have hen' : w.rd TWC_CFG_EN q ≠ 0 := by
    rw [hoff.rd_eq_of_avoids (by decide +kernel) q.isLt, State.abandoned, State.rd_wr_ne_at _ _ (by decide) (by decide),
      State.rd_wr_ne_at _ _ (by decide) (by decide), State.setTw_rd]
    exact hen
  have hlast : w.rd TWC_STAT_LAST q = 7 := by
    rw [hoff.rd_eq_of_avoids (by decide +kernel) q.isLt]
    exact State.rd_wr_self _ _ (Fld.has_of_lt rfl rfl q.isLt) (by decide)
  have hresult : w.rd TWC_CMD_STAT_RESULT q = 7 := by
    rw [hw]
    exact State.cmdEnd_result _ (by decide)
  have habort : s.twAbort q = w.twClear q := by
    rw [State.twAbort, State.twResult, hrun, hw]
    rfl
  have hidle : w.TwIdle q := ⟨hen', by rw [hwtw], by rw [hwtw]; exact hclear⟩
  have hcount {f : Fld} (hstride : TWC_CLEAR_CNT.stride = f.stride) (hkey : TWC_CLEAR_CNT.key 0 ≠ f.key 0) :
      (w.clearing q).rd f q = w.rd f q := State.rd_wr_ne_at _ _ hstride hkey
  refine ⟨_, congrArg Host.Outcome.next ((State.byHost_of_none hdef ..).trans (habort.trans hidle.twClear)), ?_, ?_, ?_, ?_⟩
  · rw [State.clearing_tw]
  · rw [State.clearing_tw, hwtw]
  · rw [hcount (by decide) (by decide), hlast]
  · rw [hcount (by decide) (by decide), hresult]

theorem execTwcClear_clears {s : State} {q : Fin 2} (hdef : s.sys.deferred = []) (hrun : (s.tw q).run = none)
    (hen : s.rd TWC_CFG_EN q ≠ 0) (hclear : (s.tw q).clear = false) :
    ∃ t, exec (.twcClear q) s = .next t ∧ (t.tw q).clear = true
      ∧ t.rd TWC_CLEAR_CNT q = min (s.rd TWC_CLEAR_CNT q + 1) (2 ^ TWC_CLEAR_CNT.w - 1) := by
  have hidle : s.TwIdle q := ⟨hen, hrun, hclear⟩
  refine ⟨_, congrArg Host.Outcome.next ((State.byHost_of_none hdef ..).trans hidle.twClear), ?_, ?_⟩
  · rw [State.clearing_tw]
  · exact State.rd_satInc_self (Fld.has_of_lt rfl rfl q.isLt) (by decide)

/-- What follows a bus clear. -/
def F.clearDoneTail : Nat := F.State.unstand ||| F.State.twNext ||| 1 <<< 736

theorem execBusClearDone_frees {s : State} {q : Fin 2} (hclear : (s.tw q).clear = true) :
    ∃ t, exec (.busClearDone q true) s = .next t ∧ t.rd TWC_STAT_SDA q = 1 := by
  have hm := Nat.and_self F.clearDoneTail
  obtain ⟨u, hu⟩ : ∃ u, u = (s.setTw q fun t => { t with clear := false, failAt := none }).wr TWC_STAT_SDA q 1 := ⟨_, rfl⟩
  have hrun : s.clearDone q true = (((u.wr TWC_STAT_STUCK q 0).unstand (twSrc q) 1).twNext q) := by
    rw [State.clearDone, hclear, hu]
    rfl
  have hoff : Off F.clearDoneTail u (((u.wr TWC_STAT_STUCK q 0).unstand (twSrc q) 1).twNext q) :=
    State.twNext_off (sb hm (by decide)) (State.unstand_off (sb hm (by decide)) (.wr .refl (has_TWC_STAT_STUCK (by decide)) ..) ..) ..
  refine ⟨_, congrArg Host.Outcome.next hrun, (hoff.rd_eq_of_avoids (by decide +kernel) q.isLt).trans ?_⟩
  rw [hu]
  exact State.rd_wr_self _ _ (Fld.has_of_lt rfl rfl q.isLt) (by decide)

/-- Settles O54: an idle controller starts the command, the poll or the regulator request that waits; a transaction leaves its result;
an abort and a clear run a bus clear, which frees SDA. That a late event leaves the clock where it stands is the model's choice
(log entry 3). -/
theorem twoWireControllerComplete : Obligations.TwoWireControllerComplete :=
  ⟨fun _ _ _ => execTwcCommandGo_starts, fun _ _ _ _ _ => execTwcTransactionDone_lasts, fun _ _ _ _ => execPollDue_queues,
    fun _ _ _ _ => execRegulatorRetry_sends, fun _ _ => execTwcAbort_clears, fun _ _ => execTwcClear_clears,
    fun _ _ => execBusClearDone_frees⟩

end Sys2Proof.Machine

/-! PROOF. What every step keeps: the invariant of reset, an idle step, and the step on a waiting command (spec/06_time_reference.md
R169; spec/18_register_directory.md). -/
namespace Sys2Proof.Machine
open Sys2Proof
set_option Elab.async false

/-- On an empty queue a step is one tick. -/
theorem step_of_idle {s : State} (h : s.pending = []) : step s = .next (s.pass 1) := by
  simp only [step, h]

/-- Settles O2: an idle step is one tick, the model's choice (log entry 2); `State.pass` moves the clock and the time of day alone. -/
theorem idleStepPassesATick : Obligations.IdleStepPassesATick := fun s h =>
  ⟨s.pass 1, step_of_idle h, rfl, h, rfl, rfl⟩

/-- Settles O3: reset holds memories without an addressed byte, TOD 0 and an empty queue, which is the model's (log entry 4). -/
theorem resetInvariant : Obligations.ResetInvariant :=
  ⟨rfl, ⟨tps_pos, Nat.two_pow_pos 32⟩, rfl⟩

/-- Settles O4: a command keeps its invariant whatever it is (`exec_kept`), and a tick takes the time of day modulo its bounds. -/
theorem stepKeepsInvariant : Obligations.StepKeepsInvariant := fun s t hmem htod hstep => by
  cases hq : s.pending with
  | nil =>
    have ht : s.pass 1 = t := Host.Outcome.next.inj ((step_of_idle hq).symm.trans hstep)
    subst ht
    exact ⟨hmem, Nat.mod_lt _ tps_pos, Nat.mod_lt _ (Nat.two_pow_pos 32)⟩
  | cons c rest =>
    have hkept : Kept rest { s with pending := rest } := ⟨rfl, hmem, htod.1, htod.2⟩
    have ht := (exec_kept hkept c).of t ((stepRunsFrontCommand c s rest hq).symm.trans hstep)
    exact ⟨ht.mem, ht.tod.idx, ht.tod.sec⟩

end Sys2Proof.Machine

/-! PROOF. The frame of the commands of radio sequencing, TDD, synthesisers and coexistence. -/
namespace Sys2Proof.Machine
open Sys2Proof
set_option Elab.async false

/-- Settles O13: each clause names memories, pieces and fields that cover the mask of its command (Laws/OffCommands.lean). -/
theorem radioFrame : Obligations.RadioFrame :=
  ⟨onlyChanges_of_maskCovers execFrameBoundary_off (by decide +kernel),
   fun a b => onlyChanges_of_maskCovers (execPortUseEnd_off · a b) (by decide +kernel),
   onlyChanges_of_maskCovers execRefInFail_off (by decide +kernel),
   onlyChanges_of_maskCovers execRefInRecovered_off (by decide +kernel),
   fun a b => onlyChanges_of_maskCovers (execPortCmdOff_off · a b) (by decide +kernel),
   fun a b => onlyChanges_of_maskCovers (execPortCmdRx_off · a b) (by decide +kernel),
   fun a b => onlyChanges_of_maskCovers (execPortCmdTx_off · a b) (by decide +kernel),
   fun a => onlyChanges_of_maskCovers (execTurnRoundLineEvent_off · a) (by decide +kernel),
   fun a => onlyChanges_of_maskCovers (execTurnRoundComplete_off · a) (by decide +kernel),
   fun a => onlyChanges_of_maskCovers (execPaSettleExpiry_off · a) (by decide +kernel),
   fun a => onlyChanges_of_maskCovers (execTxTimeoutTdd_off · a) (by decide +kernel),
   fun a => onlyChanges_of_maskCovers (execPresenceLossTimeout_off · a) (by decide +kernel),
   fun a => onlyChanges_of_maskCovers (execAttnGo_off · a) (by decide +kernel),
   fun a => onlyChanges_of_maskCovers (execAttnShiftDone_off · a) (by decide +kernel),
   fun a => onlyChanges_of_maskCovers (execAttnLatch_off · a) (by decide +kernel),
   fun a b => onlyChanges_of_maskCovers (execRfcLineMismatch_off · a b) (by decide +kernel),
   fun a => onlyChanges_of_maskCovers (execPortUseStart_off · a) (by decide +kernel),
   fun a => onlyChanges_of_maskCovers (execTddSwap_off · a) (by decide +kernel),
   fun a => onlyChanges_of_maskCovers (execTddSwapApply_off · a) (by decide +kernel),
   fun a => onlyChanges_of_maskCovers (execTddBankEccError_off · a) (by decide +kernel),
   onlyChanges_of_maskCovers execSynGoA_off (by decide +kernel),
   onlyChanges_of_maskCovers execSynGoB_off (by decide +kernel),
   fun a b => onlyChanges_of_maskCovers (execSynCalComplete_off · a b) (by decide +kernel),
   fun a b => onlyChanges_of_maskCovers (execSynLock_off · a b) (by decide +kernel),
   fun a => onlyChanges_of_maskCovers (execSynReady_off · a) (by decide +kernel),
   fun a => onlyChanges_of_maskCovers (execSynLossOfLock_off · a) (by decide +kernel),
   fun a => onlyChanges_of_maskCovers (execCoexReqInRise_off · a) (by decide +kernel),
   onlyChanges_of_maskCovers execCoexGrantOut_off (by decide +kernel),
   onlyChanges_of_maskCovers execCoexReqInFall_off (by decide +kernel),
   onlyChanges_of_maskCovers execCoexMaxHoldExpiry_off (by decide +kernel),
   fun a => onlyChanges_of_maskCovers (execCoexReqOutRaise_off · a) (by decide +kernel),
   onlyChanges_of_maskCovers execCoexGntInRise_off (by decide +kernel),
   onlyChanges_of_maskCovers execCoexGntInFall_off (by decide +kernel)⟩

end Sys2Proof.Machine

/-! PROOF. The frame of the commands of time reference and control engine. -/
namespace Sys2Proof.Machine
open Sys2Proof
set_option Elab.async false

/-- Settles O16: each clause names memories, pieces and fields that cover the mask of its command (Laws/OffCommands.lean). -/
theorem timeAndEngineFrame : Obligations.TimeAndEngineFrame :=
  ⟨onlyChanges_of_maskCovers execTimeSnapshot_off (by decide +kernel),
   fun a => onlyChanges_of_maskCovers (execKvMeasurementDone_off · a) (by decide +kernel),
   fun a b => onlyChanges_of_maskCovers (execTimeDetectorEnable_off · a b) (by decide +kernel),
   fun a b c d e => onlyChanges_of_maskCovers (execSyncDetection_off · a b c d e) (by decide +kernel),
   onlyChanges_of_maskCovers execTimeLocked_off (by decide +kernel),
   fun a => onlyChanges_of_maskCovers (execDetectorLost_off · a) (by decide +kernel),
   onlyChanges_of_maskCovers execHoldoverEvaluation_off (by decide +kernel),
   onlyChanges_of_maskCovers execCalendarSetGo_off (by decide +kernel),
   onlyChanges_of_maskCovers execCalendarSetApply_off (by decide +kernel),
   onlyChanges_of_maskCovers execRealign_off (by decide +kernel),
   onlyChanges_of_maskCovers execPpsOutPulse_off (by decide +kernel),
   fun a => onlyChanges_of_maskCovers (execPpsInEdge_off · a) (by decide +kernel),
   onlyChanges_of_maskCovers execTimeMessageSend_off (by decide +kernel),
   fun a => onlyChanges_of_maskCovers (execTimeMessageReceived_off · a) (by decide +kernel),
   onlyChanges_of_maskCovers execArcDelayMeasurement_off (by decide +kernel),
   fun a b => onlyChanges_of_maskCovers (execDelayRequestReceived_off · a b) (by decide +kernel),
   fun a b c d e => onlyChanges_of_maskCovers (execDelayAnswerReceived_off · a b c d e) (by decide +kernel),
   onlyChanges_of_maskCovers execUsReady_off (by decide +kernel),
   fun a => onlyChanges_of_maskCovers (execUnderstudyTakeover_off · a) (by decide +kernel),
   onlyChanges_of_maskCovers execReferenceReturn_off (by decide +kernel),
   fun a b => onlyChanges_of_maskCovers (execLoopEnable_off · a b) (by decide +kernel),
   fun a b => onlyChanges_of_maskCovers (execLoopDisable_off · a b) (by decide +kernel),
   fun a b c => onlyChanges_of_maskCovers (execLoopSampleBoundary_off · a b c) (by decide +kernel),
   fun a b => onlyChanges_of_maskCovers (execCue_off · a b) (by decide +kernel),
   fun a => onlyChanges_of_maskCovers (execCueGroup_off · a) (by decide +kernel),
   onlyChanges_of_maskCovers execInjectGo_off (by decide +kernel),
   onlyChanges_of_maskCovers execInjectStop_off (by decide +kernel),
   onlyChanges_of_maskCovers execCaptureTrig_off (by decide +kernel),
   fun a => onlyChanges_of_maskCovers (execCaptureArm_off · a) (by decide +kernel),
   fun a => onlyChanges_of_maskCovers (execCteMemUncorr_off · a) (by decide +kernel),
   fun a => onlyChanges_of_maskCovers (execCteCapUncorr_off · a) (by decide +kernel)⟩

end Sys2Proof.Machine

/-! PROOF. TDD swaps and the calibration sequence of a synthesiser (spec/06_time_reference.md R197, R198;
spec/07_radio_sequencing.md R211, R212, R214). -/
namespace Sys2Proof.Machine
open Sys2Proof
set_option Elab.async false

/-! ### Swaps of a TDD pattern (R197, R198) -/

theorem TDD_CTL_SWAP_of (v : Word) : TDD_CTL_SWAP.of v = (v.getLsbD 31).toNat := (Nat.toNat_testBit v.toNat 31).symm

/-- A write of TDD_CTL that passes the checks of Table 6-5 makes its swap the pending one. -/
theorem State.writeTddCtl_pends {s u : State} {v : Word} {x b : Nat} (hgo : v.getLsbD 31 = true) (hx : x = TDD_CTL_PAT.of v)
    (hu : u = (s.wr TDD_CTL_PAT 0 x).wr TDD_CTL_FRAME 0 (TDD_CTL_FRAME.of v))
    (hb : b = match u.actBank x with | some i => 1 - i % 2 | none => 0) (hpass : u.swapErr x (2 * x + b) = none) :
    s.writeTddCtl v = ((u.wr TDD_STAT_ERR 0 0).putBit TDD_STAT_PENDING 0 x true).setTdd
      fun t => { t with pend := t.pend.set x ⟨b, u.frameAfter (TDD_CTL_FRAME.of v)⟩ } := by
  subst hx hu hb
  have hswap : TDD_CTL_SWAP.of v ≠ 0 := by rw [TDD_CTL_SWAP_of, hgo]; decide
  unfold State.writeTddCtl
  simp only [hswap, if_false]
  split
  next e he => exact absurd (hpass.symm.trans he) (by simp)
  next => rfl

theorem execTddSwap_pends {s u : State} {v : Word} {x b : Nat} (hdef : s.sys.deferred = [])
    (hx : x = TDD_CTL_PAT.of (v ||| 0x80000000#32))
    (hu : u = (s.wr TDD_CTL_PAT 0 x).wr TDD_CTL_FRAME 0 (TDD_CTL_FRAME.of (v ||| 0x80000000#32)))
    (hb : b = match u.actBank x with | some i => 1 - i % 2 | none => 0) (hpass : u.swapErr x (2 * x + b) = none) :
    ∃ t, exec (.tddSwap v) s = .next t ∧ t.tst TDD_STAT_PENDING 0 x = true ∧ t.rd TDD_STAT_ERR 0 = 0
      ∧ t.swapOf x = some ⟨b, u.frameAfter (TDD_CTL_FRAME.of (v ||| 0x80000000#32))⟩ := by
  have hlt : x < TDD_STAT_PENDING.w := hx ▸ Nat.mod_lt _ (by decide)
  obtain ⟨w, hw⟩ : ∃ w, w = (u.wr TDD_STAT_ERR 0 0).putBit TDD_STAT_PENDING 0 x true := ⟨_, rfl⟩
  have hpend : w.tst TDD_STAT_PENDING 0 x = true := by
    rw [hw]
    exact State.tst_putBit_self true (by decide) (by decide) hlt
  have herr : w.rd TDD_STAT_ERR 0 = 0 := by
    rw [hw, State.putBit, if_pos rfl, State.orBits, State.rd_wr_ne _ _ (by decide)]
    exact State.rd_wr_self _ _ (by decide) (by decide)
  refine ⟨_, congrArg Host.Outcome.next ((State.byHost_of_none hdef ..).trans
    (State.writeTddCtl_pends (getLsbD_or_en v) hx hu hb hpass)), ?_⟩
  rw [← hw]
  refine ⟨hpend, herr, ?_⟩
  unfold State.swapOf
  refine (if_pos (show State.tst _ _ _ _ = true from hpend)).trans ?_
  exact congrArg some (Tab.get_set_self ..)

/-- What the taking effect of a swap reaches beside TDD_STAT and the clock. -/
def F.swapTail : Nat := F.State.int ||| F.State.setTdd ||| F.State.tddStand

theorem execTddSwapApply_applies {s : State} {x : Fin 2} {w : Swap} (hpend : s.swapOf x = some w) :
    ∃ t, exec (.tddSwapApply x) s = .next t ∧ t.tst TDD_STAT_PENDING 0 x = false
      ∧ t.tst TDD_STAT_ACT_BANK 0 x = (w.bank == 1) ∧ t.tst TDD_STAT_LOADED 0 x = true := by
  have hm := Nat.and_self F.swapTail
  obtain ⟨u, hu⟩ : ∃ u, u = (((s.reach (s.now + (s.swapDue x w - s.tod))).putBit TDD_STAT_PENDING 0 x false).putBit
    TDD_STAT_ACT_BANK 0 x (w.bank == 1)).putBit TDD_STAT_LOADED 0 x true := ⟨_, rfl⟩
  have hoff : Off F.swapTail u (s.swapApply x) := by
    rw [State.swapApply, hpend, hu]
    exact State.tddStand_off (sb hm (by decide)) (.ite (State.setTdd_off (sb hm (by decide))
      (State.setTdd_off (sb hm (by decide)) (State.int_off (sb hm (by decide)) .refl ..) ..) ..)
      (State.setTdd_off (sb hm (by decide)) (State.int_off (sb hm (by decide)) .refl ..) ..))
  refine ⟨_, rfl, ?_, ?_, ?_⟩
  · rw [hoff.tst_eq (by decide +kernel), hu, State.tst_putBit_ne _ _ _ (by decide), State.tst_putBit_ne _ _ _ (by decide)]
    exact State.tst_putBit_self false (by decide) (by decide) x.isLt
  · rw [hoff.tst_eq (by decide +kernel), hu, State.tst_putBit_ne _ _ _ (by decide)]
    exact State.tst_putBit_self _ (by decide) (by decide) x.isLt
  · rw [hoff.tst_eq (by decide +kernel), hu]
    exact State.tst_putBit_self true (by decide) (by decide) x.isLt

theorem State.bankEcc_tst (s : State) (x : Nat) : (s.bankEcc x).tst PG_ERR pgTDD 2 = true :=
  State.raise_tst _ _ (by decide) (by decide)

/-! ### The fields of a synthesiser -/

theorem Off.rd_synF_eq {m : Nat} {a s : State} (h : Off m a s) {f g : Fld} (hf : maskMisses m (f.key 0) = true)
    (hg : maskMisses m (g.key 0) = true) (k : Nat) : s.rd (synF f g k) 0 = a.rd (synF f g k) 0 := by
  unfold synF
  split
  · exact h.rd_eq hf
  · exact h.rd_eq hg

theorem Off.synState_eq {m : Nat} {a s : State} (h : Off m a s) (hA : maskMisses m (SYN_STAT_STATE_A.key 0) = true)
    (hB : maskMisses m (SYN_STAT_STATE_B.key 0) = true) (k : Nat) : s.synState k = a.synState k := h.rd_synF_eq hA hB k

theorem State.rd_wr_synF_self (s : State) (f g : Fld) (k v : Nat) (hf : f.has 0 = true) (hg : g.has 0 = true) (hw : f.w ≤ 32)
    (hwg : g.w = f.w) : (s.wr (synF f g k) 0 v).rd (synF f g k) 0 = v % 2 ^ f.w := by
  unfold synF
  split
  · exact State.rd_wr_self _ _ hf hw
  · rw [← hwg]
    exact State.rd_wr_self _ _ hg (hwg ▸ hw)

theorem State.setSynState_synState (s : State) (k : Nat) {v : Nat} (hv : v < 8) : (s.setSynState k v).synState k = v :=
  (State.rd_wr_synF_self s SYN_STAT_STATE_A SYN_STAT_STATE_B k v (by decide) (by decide) (by decide) rfl).trans (Nat.mod_eq_of_lt hv)

/-! ### The calibration sequence starts (R211) -/

/-- What the start of the sequence reaches beside the synthesiser's state and its count of calibrations. -/
def F.synStartTail : Nat :=
  F.State.setSyn ||| F.State.setCv ||| F.State.cutTx ||| F.State.setPortState ||| F.State.holdSyn ||| F.State.suspendLifts
    ||| F.State.coexTry ||| F.State.coexRelease ||| 1 <<< 151 ||| 1 <<< 152

theorem State.synStart_off_counted (s : State) (k : Nat) :
    Off F.synStartTail ((s.setSynState k synCAL).satInc (synF SYN_CAL_CNT_A SYN_CAL_CNT_B k) 0) (s.synStart k) := by
  have hm := Nat.and_self F.synStartTail
  unfold State.synStart
  extract_lets u cs v w
  have hu : Off F.synStartTail _ u := State.setSyn_off (sb hm (by decide)) .refl ..
  have hv : Off F.synStartTail _ v := .foldl hu (fun _ h _ => State.setCv_off (sb hm (by decide))
    (State.cvWr_off h (has_CONVRX_STAT_CAL_DONE (by decide)) (has_CONVTX_STAT_CAL_DONE (by decide)) ..) ..) _
  have hw : Off F.synStartTail _ w := .foldl hv (fun _ h _ => .ite h (State.holdSyn_off (sb hm (by decide))
    (State.setPortState_off (sb hm (by decide)) (State.cutTx_off (sb hm (by decide)) h ..) ..) ..)) _
  exact State.coexRelease_off (sb hm (by decide)) (State.coexTry_off (sb hm (by decide))
    (State.suspendLifts_off (sb hm (by decide)) hw))

theorem State.synStart_synState (s : State) (k : Nat) : (s.synStart k).synState k = synCAL := by
  rw [(s.synStart_off_counted k).synState_eq (by decide +kernel) (by decide +kernel)]
  have hcount : ((s.setSynState k synCAL).satInc (synF SYN_CAL_CNT_A SYN_CAL_CNT_B k) 0).synState k
      = (s.setSynState k synCAL).synState k := by
    refine State.rd_wr_ne _ _ ?_
    unfold synF
    split <;> decide
  exact hcount.trans (State.setSynState_synState s k (by decide))

theorem State.rd_satInc_synF_self (s : State) (f g : Fld) (k : Nat) (hf : f.has 0 = true) (hg : g.has 0 = true) (hw : f.w ≤ 32)
    (hwg : g.w = f.w) :
    (s.satInc (synF f g k) 0).rd (synF f g k) 0 = min (s.rd (synF f g k) 0 + 1) (2 ^ f.w - 1) := by
  unfold synF
  split
  · exact State.rd_satInc_self hf hw
  · rw [← hwg]
    exact State.rd_satInc_self hg (hwg ▸ hw)

theorem State.synStart_calCnt (s : State) (k : Nat) :
    (s.synStart k).rd (synF SYN_CAL_CNT_A SYN_CAL_CNT_B k) 0
      = min (s.rd (synF SYN_CAL_CNT_A SYN_CAL_CNT_B k) 0 + 1) (2 ^ SYN_CAL_CNT_A.w - 1) := by
  rw [(s.synStart_off_counted k).rd_synF_eq (by decide +kernel) (by decide +kernel),
    State.rd_satInc_synF_self _ SYN_CAL_CNT_A SYN_CAL_CNT_B k (by decide) (by decide) (by decide) rfl]
  have hstate : (s.setSynState k synCAL).rd (synF SYN_CAL_CNT_A SYN_CAL_CNT_B k) 0
      = s.rd (synF SYN_CAL_CNT_A SYN_CAL_CNT_B k) 0 := by
    refine State.rd_wr_ne _ _ ?_
    unfold synF
    split <;> decide
  rw [hstate]

/-- What an accepted GO reaches before its sequence starts. -/
def F.synPlan : Nat := F.State.setSyn ||| F.State.sptRetire

/-- An accepted GO starts the sequence from a state that has the fields of the synthesiser, with ERR cleared. -/
theorem State.synAccept_starts (s : State) (k : Nat) :
    ∃ u, s.synAccept k = u.synStart k ∧ Off F.synPlan (s.setSynErr k 0) u :=
  have hm := Nat.and_self F.synPlan
  ⟨_, rfl, .foldl (State.setSyn_off (sb hm (by decide)) .refl ..) (fun _ h _ => State.sptRetire_off (sb hm (by decide)) h ..) _⟩

theorem State.synGo_starts {s : State} {k : Nat} (hoff : s.lanesOn = []) (hplan : s.planBad k = false) :
    (s.synGo k).synState k = synCAL ∧ (s.synGo k).rd (synF SYN_STAT_ERR_A SYN_STAT_ERR_B k) 0 = 0
      ∧ (s.synGo k).rd (synF SYN_CAL_CNT_A SYN_CAL_CNT_B k) 0
        = min (s.rd (synF SYN_CAL_CNT_A SYN_CAL_CNT_B k) 0 + 1) (2 ^ SYN_CAL_CNT_A.w - 1) := by
  obtain ⟨u, hstart, hu⟩ := s.synAccept_starts k
  have hgo : s.synGo k = u.synStart k := by
    rw [State.synGo, hoff, List.isEmpty_nil, Bool.not_true, if_neg Bool.false_ne_true, hplan, if_neg Bool.false_ne_true]
    exact hstart
  have hcnt : u.rd (synF SYN_CAL_CNT_A SYN_CAL_CNT_B k) 0 = s.rd (synF SYN_CAL_CNT_A SYN_CAL_CNT_B k) 0 := by
    rw [hu.rd_synF_eq (by decide +kernel) (by decide +kernel)]
    refine State.rd_wr_ne _ _ ?_
    unfold synF
    split <;> decide
  rw [hgo]
  refine ⟨u.synStart_synState k, ?_, (u.synStart_calCnt k).trans (by rw [hcnt])⟩
  rw [(State.synStart_off (Nat.and_self _) .refl k).rd_synF_eq (by decide +kernel) (by decide +kernel),
    hu.rd_synF_eq (by decide +kernel) (by decide +kernel)]
  exact State.rd_wr_synF_self s _ _ k 0 (by decide) (by decide) (by decide) rfl

theorem execSynGoA_starts {s : State} (hdef : s.sys.deferred = []) (hoff : s.lanesOn = []) (hplan : s.planBad 0 = false) :
    ∃ t, exec .synGoA s = .next t ∧ t.synState 0 = synCAL ∧ t.rd SYN_STAT_ERR_A 0 = 0
      ∧ t.rd SYN_CAL_CNT_A 0 = min (s.rd SYN_CAL_CNT_A 0 + 1) (2 ^ SYN_CAL_CNT_A.w - 1) :=
  ⟨_, congrArg Host.Outcome.next (State.byHost_of_none hdef ..), State.synGo_starts hoff hplan⟩

theorem execSynGoB_starts {s : State} (hdef : s.sys.deferred = []) (hoff : s.lanesOn = []) (hplan : s.planBad 1 = false) :
    ∃ t, exec .synGoB s = .next t ∧ t.synState 1 = synCAL ∧ t.rd SYN_STAT_ERR_B 0 = 0
      ∧ t.rd SYN_CAL_CNT_B 0 = min (s.rd SYN_CAL_CNT_B 0 + 1) (2 ^ SYN_CAL_CNT_B.w - 1) :=
  ⟨_, congrArg Host.Outcome.next (State.byHost_of_none hdef ..), State.synGo_starts hoff hplan⟩

/-! ### The steps of the sequence (R212) -/

theorem execSynCalComplete_locks {s : State} {b : Bool} (hcal : s.synState b.toNat = synCAL) :
    ∃ t, exec (.synCalComplete b true) s = .next t ∧ t.synState b.toNat = synLOCKING := by
  refine ⟨s.synCalDone b.toNat true, rfl, ?_⟩
  rw [State.synCalDone, if_neg (not_not_intro hcal), if_pos rfl]
  exact State.setSynState_synState s _ (by decide)

theorem execSynLock_calibrates {s : State} {b : Bool} (hlock : s.synState b.toNat = synLOCKING) :
    ∃ t, exec (.synLock b true) s = .next t ∧ t.synState b.toNat = synCONVCAL := by
  refine ⟨s.synLock b.toNat true, rfl, ?_⟩
  rw [State.synLock, if_neg (not_not_intro hlock), if_neg (by decide)]
  extract_lets u
  have hu : u.synState b.toNat = synCONVCAL := State.setSynState_synState s _ (by decide)
  rw [foldl_keeps (fun y : State => y.synState b.toNat) fun y c _ => ?_]
  · exact hu
  · rfl

/-- What a synthesiser that becomes READY reaches beside its state and the clock. -/
def F.synReadyTail : Nat :=
  F.State.setSyn ||| F.State.int ||| F.State.unstand ||| F.State.holdSyn ||| F.State.restartDone ||| F.State.portsEval

theorem execSynReady_readies {s : State} {b : Bool} (hcal : s.synState b.toNat = synCONVCAL)
    (hdone : ((s.synConvs b.toNat).any fun c => (s.cv c).cal) = false) :
    ∃ t, exec (.synReady b) s = .next t ∧ t.synState b.toNat = synREADY
      ∧ t.now = max s.now ((s.syn b.toNat).since + usT (s.rd SYN_CFG_SETTLE 0)) := by
  have hm := Nat.and_self F.synReadyTail
  obtain ⟨u, hu⟩ : ∃ u, u = (s.reach ((s.syn b.toNat).since + usT (s.rd SYN_CFG_SETTLE 0))).setSynState b.toNat synREADY := ⟨_, rfl⟩
  have hwait : (decide (s.synState b.toNat ≠ synCONVCAL) || (s.synConvs b.toNat).any fun c => (s.cv c).cal) = false := by
    rw [hdone, hcal]
    rfl
  have hoff : Off F.synReadyTail u (s.synReady b.toNat) := by
    rw [State.synReady, hwait, if_neg Bool.false_ne_true, hu]
    exact State.portsEval_off (sb hm (by decide)) (State.restartDone_off (sb hm (by decide)) (.foldl
      (State.unstand_off (sb hm (by decide)) (State.int_off (sb hm (by decide)) (State.setSyn_off (sb hm (by decide)) .refl ..) ..) ..)
      (fun _ h _ => State.holdSyn_off (sb hm (by decide)) h ..) _))
  refine ⟨_, rfl, ?_, ?_⟩
  · rw [hoff.synState_eq (by decide +kernel) (by decide +kernel), hu]
    exact State.setSynState_synState _ _ (by decide)
  · rw [hoff.now_eq (by decide), hu]
    exact State.reach_now ..

/-! ### Loss of lock (R214) -/

/-- What a loss of lock reaches once it is counted. -/
def F.synLostTail : Nat := F.State.raiseInt ||| F.State.stand ||| F.State.synRetry

theorem execSynLossOfLock_counts {s : State} {b : Bool} (hready : s.synState b.toNat = synREADY) :
    ∃ t, exec (.synLossOfLock b) s = .next t
      ∧ t.rd (synF SYN_LOL_CNT_A SYN_LOL_CNT_B b.toNat) 0
        = min (s.rd (synF SYN_LOL_CNT_A SYN_LOL_CNT_B b.toNat) 0 + 1) (2 ^ SYN_LOL_CNT_A.w - 1) := by
  have hm := Nat.and_self F.synLostTail
  have hoff : Off F.synLostTail (s.satInc (synF SYN_LOL_CNT_A SYN_LOL_CNT_B b.toNat) 0) (s.synLost b.toNat) := by
    rw [State.synLost, if_neg (not_not_intro hready)]
    exact State.synRetry_off (sb hm (by decide)) (State.stand_off (sb hm (by decide))
      (State.raiseInt_off (sb hm (by decide)) .refl ..) ..) ..
  refine ⟨_, rfl, ?_⟩
  rw [hoff.rd_synF_eq (by decide +kernel) (by decide +kernel)]
  exact State.rd_satInc_synF_self s _ _ _ (by decide) (by decide) (by decide) rfl

/-- Settles O36: a swap that passes its checks is pending and takes effect at its frame; a GO starts the calibration sequence, whose
steps lead a synthesiser to READY; a loss of lock is counted. That a late event leaves the clock where it stands is the model's
choice (log entry 3). -/
theorem tddAndSynthesiserComplete : Obligations.TddAndSynthesiserComplete :=
  ⟨fun _ _ _ _ _ => execTddSwap_pends, fun _ _ _ => execTddSwapApply_applies, fun s x => ⟨_, rfl, s.bankEcc_tst x⟩,
    fun _ => execSynGoA_starts, fun _ => execSynGoB_starts, fun _ _ => execSynCalComplete_locks, fun _ _ => execSynLock_calibrates,
    fun _ _ => execSynReady_readies, fun _ _ => execSynLossOfLock_counts⟩

end Sys2Proof.Machine

/-! PROOF. The time state, the detectors, holdover and the setting of the calendar (spec/06_time_reference.md R169, R172, R174, R175,
R177, R181, R191, R193). -/
namespace Sys2Proof.Machine
open Sys2Proof
set_option Elab.async false

/-! ### The snapshot and the slope (R169, R172) -/

theorem State.timeSnap_reads (s : State) :
    s.timeSnap.rd TIME_TOD_SEC 0 = s.time.sec % 2 ^ 32
      ∧ s.timeSnap.rd TIME_TOD_FRAC 0 = (roundDiv (s.time.idx * 2 ^ 32 : Nat) tps).toNat % 2 ^ 32
      ∧ s.timeSnap.rd TIME_FRAME 0 = s.frameNo % 1024 ∧ s.timeSnap.time.snapTick = s.now := by
  unfold State.timeSnap
  extract_lets u v w
  refine ⟨?_, ?_, ?_, ?_⟩
  · rw [State.rd_wr_ne _ _ (by decide), State.rd_wr_ne _ _ (by decide), State.rd_wr_ne _ _ (by decide)]
    exact State.rd_wr_self _ _ (by decide) (by decide)
  · rw [State.rd_wr_ne _ _ (by decide), State.rd_wr_ne _ _ (by decide)]
    exact State.rd_wr_self _ _ (by decide) (by decide)
  · rw [State.rd_wr_ne _ _ (by decide)]
    exact (State.rd_wr_self _ _ (by decide) (by decide)).trans (Nat.mod_mod ..)
  · simp only [w, v, u, State.wr_time, State.setTime_time]

theorem execTimeSnapshot_reads {s : State} (hdef : s.sys.deferred = []) :
    ∃ t, exec .timeSnapshot s = .next t ∧ t.rd TIME_TOD_SEC 0 = s.time.sec % 2 ^ 32
      ∧ t.rd TIME_TOD_FRAC 0 = (roundDiv (s.time.idx * 2 ^ 32 : Nat) tps).toNat % 2 ^ 32 ∧ t.rd TIME_FRAME 0 = s.frameNo % 1024
      ∧ t.time.snapTick = s.now :=
  ⟨s.timeSnap, congrArg Host.Outcome.next (State.byHost_of_none hdef ..), s.timeSnap_reads⟩

theorem execKvMeasurementDone_writes {s : State} (kv : BitVec 16) {a : Nat} (hsince : s.time.kvSince = some a) :
    ∃ t, exec (.kvMeasurementDone kv) s = .next t ∧ t.rd TIME_OSC_KV 0 = kv.toNat ∧ t.time.kvSince = none
      ∧ t.now = max s.now (a + msT 200) := by
  obtain ⟨u, hu⟩ : ∃ u, u = s.reach (a + msT 200) := ⟨_, rfl⟩
  have hrun : s.kvDone kv = (u.wr TIME_OSC_KV 0 kv.toNat).setTime fun x => { x with kvSince := none } := by
    rw [State.kvDone, hsince, hu]
  refine ⟨_, congrArg Host.Outcome.next hrun, ?_, rfl, ?_⟩
  · exact (State.rd_wr_self _ _ (by decide) (by decide)).trans (Nat.mod_eq_of_lt kv.isLt)
  · rw [State.setTime_now, State.wr_now, hu, State.reach_now]

/-! ### Detectors (R174, R175) -/

/-- What a new state of a detector reaches beside it. -/
def F.setDetTail : Nat := F.State.int ||| F.State.setNoSrc ||| F.State.presUpdate ||| 1 <<< 116

theorem State.setDet_off_detState (s : State) (k st : Nat) :
    Off F.setDetTail (s.wr TIME_DET_STAT_STATE k st) (s.setDet k st) := by
  have hm := Nat.and_self F.setDetTail
  unfold State.setDet
  extract_lets old u v w x
  have hv : Off F.setDetTail u v := State.cond_off .refl (fun _ h => State.int_off (sb hm (by decide)) h ..) _
  have hw : Off F.setDetTail u w := .wr hv (has_TIME_STAT_SERVING (by decide)) ..
  exact State.presUpdate_off (sb hm (by decide)) (State.setNoSrc_off (sb hm (by decide)) hw) ..

theorem State.setDet_detState (s : State) (k : Fin 4) {st : Nat} (hst : st < 4) :
    (s.setDet k st).rd TIME_DET_STAT_STATE k = st := by
  rw [(s.setDet_off_detState k st).rd_eq_of_avoids (by decide +kernel) k.isLt]
  exact (State.rd_wr_self _ _ (Fld.has_of_lt rfl rfl k.isLt) (by decide)).trans (Nat.mod_eq_of_lt hst)

/-- A field that a new state of a detector does not reach. -/
theorem State.setDet_rd (s : State) (k st : Nat) {f : Fld} {i : Nat} (hm : maskAvoids F.State.setDet f = true) (hi : i < f.n) :
    (s.setDet k st).rd f i = s.rd f i :=
  (State.setDet_off (Nat.and_self _) .refl k st).rd_eq_of_avoids hm hi

/-- A write that passes the checks of Table 6-1 on an idle detector starts its search. -/
theorem State.writeDet_searches {s : State} {k : Nat} {v : Word} (hen : v.getLsbD 31 = true)
    (hidle : s.rd TIME_DET_STAT_STATE k = 0) (hpass : (s.wrWord detFlds k v).detErr k v = none) :
    s.writeDet k v = ((s.wrWord detFlds k v).wr TIME_DET_STAT_ERR k 0).setDet k 1 := by
  unfold State.writeDet
  rw [hidle, hen, if_neg (by decide)]
  simp only [State.cond, bne_self_eq_false, Bool.false_eq_true, if_false, hpass]

theorem execTimeDetectorEnable_searches {s : State} {k : Fin 4} {v : Word} (hdef : s.sys.deferred = [])
    (hidle : s.rd TIME_DET_STAT_STATE k = 0)
    (hpass : (s.wrWord detFlds k (v ||| 0x80000000#32)).detErr k (v ||| 0x80000000#32) = none) :
    ∃ t, exec (.timeDetectorEnable k v) s = .next t ∧ t.rd TIME_DET_STAT_STATE k = 1 ∧ t.rd TIME_DET_STAT_ERR k = 0
      ∧ t.rd TIME_DET_CFG_EN k = 1 := by
  have hhas : TIME_DET_STAT_ERR.has k = true := Fld.has_of_lt rfl rfl k.isLt
  have hapart : detFlds.Pairwise (·.apart ·) := by decide
  have hdistinct : detFlds.Pairwise (·.key k ≠ ·.key k) := hapart.imp fun h => Fld.key_ne_of_apart h k
  refine ⟨_, congrArg Host.Outcome.next ((State.byHost_of_none hdef ..).trans
    (State.writeDet_searches (getLsbD_or_en v) hidle hpass)), State.setDet_detState _ k (by decide), ?_, ?_⟩
  · rw [State.setDet_rd _ _ _ (by decide +kernel) k.isLt]
    exact State.rd_wr_self _ _ hhas (by decide)
  · rw [State.setDet_rd _ _ _ (by decide +kernel) k.isLt, State.rd_wr_ne_at _ _ (by decide) (by decide),
      State.rd_wrWord_self (fs := detFlds) _ (.head _) hdistinct (Fld.has_of_lt rfl rfl k.isLt) (by decide)]
    exact Fld.of_or_set v (by decide) (by decide)

/-- What a detection reaches once the detector has its state. -/
def F.detectedTail : Nat := F.State.slewHeld ||| F.State.measure ||| F.State.averageDelta ||| F.State.setTime

theorem State.syncDetect_off_detected {s : State} {k pci : Nat} (sinr : BitVec 8) (ph fe : Int)
    (hstate : s.rd TIME_DET_STAT_STATE k ≠ 0)
    (hcell : s.rd TIME_DET_CFG_PCI k = 0x3FF ∨ s.rd TIME_DET_CFG_PCI k = pci) :
    ∃ u : State, u.regs = ((s.wr TIME_DET_STAT_PCI k pci).wr TIME_DET_STAT_SINR k sinr.toNat).regs
      ∧ Off F.detectedTail (u.setDet k 2) (s.syncDetect k pci sinr ph fe) := by
  have hm := Nat.and_self F.detectedTail
  unfold State.syncDetect
  extract_lets st want ph' u v w us
  have hgo : ¬(st = 0 ∨ ¬(want = 0x3FF ∨ want = pci)) := by
    rw [not_or, not_not]
    exact ⟨hstate, hcell⟩
  rw [if_neg hgo]
  exact ⟨v, rfl, .ite .refl (.ite
    (.ite (State.measure_off (sb hm (by decide)) (State.slewHeld_off (sb hm (by decide)) .refl) ..) .refl)
    (.ite (State.setTime_off (sb hm (by decide)) (State.averageDelta_off (sb hm (by decide)) .refl ..) ..)
      (.ite (State.setTime_off (sb hm (by decide)) (State.averageDelta_off (sb hm (by decide)) .refl ..) ..) .refl)))⟩

theorem execSyncDetection_detects {s : State} {k : Fin 4} {pci : BitVec 10} (sinr : BitVec 8) (ph fe : Int)
    (hstate : s.rd TIME_DET_STAT_STATE k ≠ 0)
    (hcell : s.rd TIME_DET_CFG_PCI k = 0x3FF ∨ s.rd TIME_DET_CFG_PCI k = pci.toNat) :
    ∃ t, exec (.syncDetection k pci sinr ph fe) s = .next t ∧ t.rd TIME_DET_STAT_STATE k = 2
      ∧ t.rd TIME_DET_STAT_PCI k = pci.toNat ∧ t.rd TIME_DET_STAT_SINR k = sinr.toNat := by
  obtain ⟨u, hu, hoff⟩ := State.syncDetect_off_detected sinr ph fe hstate hcell
  refine ⟨_, rfl, ?_, ?_, ?_⟩
  · rw [hoff.rd_eq_of_avoids (by decide +kernel) k.isLt]
    exact State.setDet_detState u k (by decide)
  · rw [hoff.rd_eq_of_avoids (by decide +kernel) k.isLt, State.setDet_rd _ _ _ (by decide +kernel) k.isLt, State.rd_congr hu,
      State.rd_wr_ne_at _ _ (by decide) (by decide)]
    exact (State.rd_wr_self _ _ (Fld.has_of_lt rfl rfl k.isLt) (by decide)).trans (Nat.mod_eq_of_lt pci.isLt)
  · rw [hoff.rd_eq_of_avoids (by decide +kernel) k.isLt, State.setDet_rd _ _ _ (by decide +kernel) k.isLt, State.rd_congr hu]
    exact (State.rd_wr_self _ _ (Fld.has_of_lt rfl rfl k.isLt) (by decide)).trans (Nat.mod_eq_of_lt sinr.isLt)

theorem execDetectorLost_loses {s : State} {k : Fin 4} (hon : s.detOn k = true) :
    ∃ t, exec (.detectorLost k) s = .next t ∧ t.rd TIME_DET_STAT_STATE k = 3
      ∧ t.now = max s.now ((s.time.det.get {} k).lastAt + msT (50 * s.rd TIME_LOOP_LOSS 0)) := by
  obtain ⟨u, hu⟩ : ∃ u, u = s.reach ((s.time.det.get {} k).lastAt + msT (50 * s.rd TIME_LOOP_LOSS 0)) := ⟨_, rfl⟩
  have hoff : Off F.State.donorLost (u.setDet k 3) (s.detLost k) := by
    rw [State.detLost, if_pos hon, hu]
    exact State.donorLost_off (Nat.and_self _) .refl
  refine ⟨_, rfl, ?_, ?_⟩
  · rw [hoff.rd_eq_of_avoids (by decide +kernel) k.isLt]
    exact State.setDet_detState u k (by decide)
  · rw [hoff.now_eq (by decide), (State.setDet_off (Nat.and_self _) .refl k 3).now_eq (by decide), hu]
    exact State.reach_now ..

/-! ### The time state and holdover (R177, R191) -/

/-- What a new time state reaches beside it. -/
def F.setTimeStateTail : Nat := F.State.setTimeState ^^^ 1 <<< 85

theorem State.setTimeState_off_timeState {s : State} {st : Nat} (hnew : s.timeState ≠ st) :
    Off F.setTimeStateTail (s.wr TIME_STAT_STATE 0 st) (s.setTimeState st) := by
  have hm := Nat.and_self F.setTimeStateTail
  unfold State.setTimeState
  extract_lets old was v u w x y
  have hu : Off F.setTimeStateTail (s.wr TIME_STAT_STATE 0 st) u :=
    State.int_off (sb hm (by decide)) (.wr .refl (has_TIME_STAT_VALID (by decide)) ..) ..
  have hx : Off F.setTimeStateTail (s.wr TIME_STAT_STATE 0 st) x :=
    State.cond_off (State.setTime_off (sb hm (by decide)) hu ..) (fun _ h =>
      .wr (.wr h (has_TIME_HOLD_STAT_E (by decide)) ..) (has_TIME_HOLD_STAT_T (by decide)) ..) _
  have hy : Off F.setTimeStateTail (s.wr TIME_STAT_STATE 0 st) y :=
    State.cond_off hx (fun _ h => State.setTime_off (sb hm (by decide))
      (.wr (.wr h (has_TIME_OSC (by decide)) ..) (has_TIME_STAT_SRC_ACT (by decide)) ..) ..) _
  rw [if_neg hnew]
  exact .ite (State.donorLatch_off (sb hm (by decide)) hy ..)
    (.ite (State.unstand_off (sb hm (by decide)) (State.unstand_off (sb hm (by decide)) hy ..) ..) hy)

theorem State.setTimeState_timeState (s : State) {st : Nat} (hst : st < 8) : (s.setTimeState st).timeState = st := by
  by_cases hold : s.timeState = st
  · rw [State.setTimeState, if_pos hold]
    exact hold
  · rw [State.timeState, (State.setTimeState_off_timeState hold).rd_eq (by decide +kernel)]
    exact (State.rd_wr_self _ _ (by decide) (by decide)).trans (Nat.mod_eq_of_lt hst)

theorem execTimeLocked_locks {s : State} {a : Nat} (hgood : s.time.goodSince = some a) (hacq : s.timeState = 2) :
    ∃ t, exec .timeLocked s = .next t ∧ t.timeState = 3 ∧ t.now = max s.now (a + secT 10) := by
  have hrun : s.timeLocked = (s.reach (a + secT 10)).setTimeState 3 := by
    rw [State.timeLocked, hgood]
    exact if_pos hacq
  refine ⟨_, congrArg Host.Outcome.next hrun, State.setTimeState_timeState _ (by decide), ?_⟩
  rw [(State.setTimeState_off (Nat.and_self _) .refl 3).now_eq (by decide)]
  exact State.reach_now ..

/-- The error of holdover and its time as the next evaluation writes them. -/
def State.holdWritten (u : State) (h : Nat) : State :=
  (u.wr TIME_HOLD_STAT_E 0 (min 0xFFFF (roundRat (u.holdE (u.now - h))).toNat)).wr TIME_HOLD_STAT_T 0
    (min 0xFFFF ((u.now - h) / tps))

theorem State.holdEval_within {s u : State} (hhold : s.timeState = 4) (hu : u = s.toMul evHOLD s.time.holdAt 983040)
    (hbudget : u.holdE (u.now - s.time.holdAt) ≤ (u.rd TIME_HOLD_BUDGET 0 : Rat)) :
    s.holdEval = u.holdWritten s.time.holdAt := by
  have hread : (u.holdWritten s.time.holdAt).rd TIME_HOLD_BUDGET 0 = u.rd TIME_HOLD_BUDGET 0 := by
    rw [State.holdWritten, State.rd_wr_ne _ _ (by decide), State.rd_wr_ne _ _ (by decide)]
  subst hu
  unfold State.holdEval
  rw [if_neg (by omega), if_neg (by omega)]
  refine if_neg (not_lt.2 (le_of_le_of_eq hbudget ?_))
  exact congrArg Nat.cast hread.symm

theorem execHoldoverEvaluation_within {s u : State} (hhold : s.timeState = 4) (hu : u = s.toMul evHOLD s.time.holdAt 983040)
    (hbudget : u.holdE (u.now - s.time.holdAt) ≤ (u.rd TIME_HOLD_BUDGET 0 : Rat)) :
    ∃ t, exec .holdoverEvaluation s = .next t ∧ t.rd TIME_HOLD_STAT_T 0 = min 0xFFFF ((u.now - s.time.holdAt) / tps)
      ∧ t.rd TIME_HOLD_STAT_E 0 = min 0xFFFF (roundRat (u.holdE (u.now - s.time.holdAt))).toNat ∧ t.timeState = 4 := by
  have hfits (n : Nat) : min 0xFFFF n % 2 ^ 16 = min 0xFFFF n := Nat.mod_eq_of_lt (by omega)
  refine ⟨_, congrArg Host.Outcome.next (State.holdEval_within hhold hu hbudget), ?_, ?_, ?_⟩
  · exact (State.rd_wr_self _ _ (by decide) (by decide)).trans (hfits _)
  · rw [State.holdWritten, State.rd_wr_ne _ _ (by decide)]
    exact (State.rd_wr_self _ _ (by decide) (by decide)).trans (hfits _)
  · rw [State.timeState, State.holdWritten, State.rd_wr_ne _ _ (by decide), State.rd_wr_ne _ _ (by decide), hu,
      State.toMul_rd _ _ _ _ (by decide +kernel)]
    exact hhold

/-! ### The calendar is set (R181) -/

theorem State.emit_time (s : State) (f : Frame) : (s.emit f).time = s.time :=
  (State.emit_off (Nat.and_self _) .refl f).part .time (by decide)

theorem State.timeOut_calSet (s : State) : s.timeOut.time.calSet = s.time.calSet := by
  unfold State.timeOut
  extract_lets send u v
  have hu : u.time = s.time := by
    unfold u State.cond
    split
    · exact State.emit_time ..
    · rfl
  have hv : v.time = u.time := by
    unfold v State.cond
    split
    · exact State.emit_time ..
    · rfl
  show v.time.calSet = s.time.calSet
  rw [hv, hu]

theorem execCalendarSetGo_sets {s : State} (hdef : s.sys.deferred = []) (href : s.isRef = true) :
    ∃ t, exec .calendarSetGo s = .next t ∧ t.time.calSet = some (s.now, none) := by
  have hrun : s.calGo = (s.setTime fun t => { t with calSet := some (s.now, none) }).timeOut := if_pos href
  exact ⟨_, congrArg Host.Outcome.next ((State.byHost_of_none hdef ..).trans hrun), State.timeOut_calSet _⟩

theorem State.stepTod_calSet (s : State) (kind : Nat) (new : Int) : (s.stepTod kind new).time.calSet = s.time.calSet := by
  unfold State.stepTod
  extract_lets old n d u v
  have hv : v.time = u.time :=
    (State.journalInt_off (Nat.and_self _) .refl ..).part .time (by decide)
  have hcal : v.time.calSet = s.time.calSet := (congrArg TimeSt.calSet hv).trans rfl
  split
  · rfl
  · split <;> exact hcal

theorem State.cancelSwap_tst_int (s : State) (x b : Nat) :
    (s.cancelSwap x).tst PG_INT_STAT pgTIME b = s.tst PG_INT_STAT pgTIME b := by
  unfold State.cancelSwap
  split
  · rw [State.int, State.orBits, State.tst_wr_ne _ _ (by decide), State.tst_wr_ne _ _ (by decide),
      State.tst_putBit_ne _ _ _ (by decide)]
  · rfl

/-- What an applied calendar time reaches once it is flagged. -/
def F.calTail : Nat := F.State.stepTod ||| F.State.int ||| F.State.cancelSwap

theorem State.calApply_eq {s : State} {a : Nat} {named : Option Nat} (hset : s.time.calSet = some (a, named)) :
    ∃ (u : State) (new : Int), u.time.calSet = none
      ∧ s.calApply = ((((u.wr TIME_STAT_CAL_SET 0 1).stepTod 2 new).int pgTIME 3).cancelSwap 0).cancelSwap 1 := by
  simp only [State.calApply, hset]
  refine ⟨_, _, ?_, rfl⟩
  rfl

theorem execCalendarSetApply_applies {s : State} {a : Nat} {named : Option Nat} (hset : s.time.calSet = some (a, named)) :
    ∃ t, exec .calendarSetApply s = .next t ∧ t.time.calSet = none ∧ t.rd TIME_STAT_CAL_SET 0 = 1
      ∧ t.tst PG_INT_STAT pgTIME 3 = true := by
  have hm := Nat.and_self F.calTail
  obtain ⟨u, new, hnone, hrun⟩ := State.calApply_eq hset
  refine ⟨_, congrArg Host.Outcome.next hrun, ?_, ?_, ?_⟩
  · have hcancel (y : State) (x : Nat) : (y.cancelSwap x).time = y.time :=
      (State.cancelSwap_off (Nat.and_self _) .refl x).part .time (by decide)
    have hint (y : State) : (y.int pgTIME 3).time = y.time := rfl
    rw [hcancel, hcancel, hint, State.stepTod_calSet]
    exact hnone
  · have hoff : Off F.calTail (u.wr TIME_STAT_CAL_SET 0 1)
        (((((u.wr TIME_STAT_CAL_SET 0 1).stepTod 2 new).int pgTIME 3).cancelSwap 0).cancelSwap 1) :=
      State.cancelSwap_off (sb hm (by decide)) (State.cancelSwap_off (sb hm (by decide)) (State.int_off (sb hm (by decide))
        (State.stepTod_off (sb hm (by decide)) .refl ..) ..) ..) ..
    rw [hoff.rd_eq (by decide +kernel)]
    exact State.rd_wr_self _ _ (by decide) (by decide)
  · rw [State.cancelSwap_tst_int, State.cancelSwap_tst_int]
    exact State.int_tst _ (by decide) (by decide)

theorem execRealign_realigns {s : State} (hdef : s.sys.deferred = []) (href : s.isRef = true) :
    ∃ t, exec .realign s = .next t ∧ t.time.realign = (s.time.held != 0) := by
  have hrun : s.realignGo = s.setTime fun t => { t with realign := t.held != 0 } := if_pos href
  exact ⟨_, congrArg Host.Outcome.next ((State.byHost_of_none hdef ..).trans hrun), rfl⟩

/-- Settles O34: what each command writes stands at its end, as the operations that follow do not reach it. That a late event leaves
the clock where it stands (log entry 3) and that HOLD_STAT reads 0 out of holdover (log entry 111) are the model's choices; the
transitions of the time loop are deduced (log entry 53). -/
theorem timeLoopComplete : Obligations.TimeLoopComplete :=
  ⟨fun _ => execTimeSnapshot_reads, fun _ kv _ => execKvMeasurementDone_writes kv, fun _ _ _ => execTimeDetectorEnable_searches,
    fun _ _ _ sinr ph fe => execSyncDetection_detects sinr ph fe, fun _ _ => execTimeLocked_locks,
    fun _ _ => execDetectorLost_loses, fun _ _ => execHoldoverEvaluation_within, fun _ => execCalendarSetGo_sets,
    fun _ _ _ => execCalendarSetApply_applies, fun _ => execRealign_realigns⟩

end Sys2Proof.Machine

/-! PROOF. Pulses, time messages over the ring and the moves of the reference role (spec/06_time_reference.md R184, R185, R188, R192,
R193). -/
namespace Sys2Proof.Machine
open Sys2Proof
set_option Elab.async false

/-! ### Pulses (R184, R185) -/

/-- PPS_OUT goes high at the pulse's instant, with the registers as they were. -/
theorem State.ppsOut_rises {s : State} (hen : s.rd TIME_PPSO_EN 0 ≠ 0) (hgate : s.rd TIME_PPSO_GATE 0 = 0) :
    ∃ u : State, s.ppsOut = u.setTime fun t => { t with ppsHigh := some (u.now + usT (10 * u.rd TIME_PPSO_WIDTH 0)) } := by
  unfold State.ppsOut
  rw [State.on_of_ne hen]
  extract_lets at_ d u
  have hoff : Off (F.State.reach ||| F.State.mark) s u :=
    have hm := Nat.and_self (F.State.reach ||| F.State.mark)
    State.mark_off (sb hm (by decide)) (.ite .refl (State.reach_off (sb hm (by decide)) .refl ..)) ..
  have hopen : u.on TIME_PPSO_GATE 0 = false := by
    rw [State.on, hoff.rd_eq (by decide +kernel), hgate]
    rfl
  refine ⟨u, ?_⟩
  rw [hopen]
  rfl

theorem execPpsOutPulse_rises {s : State} (hen : s.rd TIME_PPSO_EN 0 ≠ 0) (hgate : s.rd TIME_PPSO_GATE 0 = 0) :
    ∃ t, exec .ppsOutPulse s = .next t ∧ t.time.ppsHigh = some (t.now + usT (10 * s.rd TIME_PPSO_WIDTH 0)) := by
  obtain ⟨u, hrun⟩ := State.ppsOut_rises hen hgate
  have hwidth : u.rd TIME_PPSO_WIDTH 0 = s.rd TIME_PPSO_WIDTH 0 := by
    have hkeep : s.ppsOut.rd TIME_PPSO_WIDTH 0 = s.rd TIME_PPSO_WIDTH 0 :=
      (State.ppsOut_off (Nat.and_self _) .refl).rd_eq (by decide +kernel)
    rwa [hrun, State.setTime_rd] at hkeep
  refine ⟨_, congrArg Host.Outcome.next hrun, ?_⟩
  rw [State.setTime_time, State.setTime_now, hwidth]

theorem execPpsInEdge_captures {s : State} {fe at_ : Int} {x : Nat} (hmode : s.rd TIME_PPSI_MODE 0 = 1)
    (hat : at_ = (s.tod : Int) - roundDiv (s.rdS TIME_PPSI_COMP 0 * 98304) 100000)
    (hx : x = (at_ % ((2 ^ 32 * tps : Nat) : Int)).toNat) :
    ∃ t, exec (.ppsInEdge fe) s = .next t ∧ t.rd TIME_PPSI_SEC 0 = x / tps % 2 ^ 32
      ∧ t.rd TIME_PPSI_FRAC 0 = (roundDiv (x % tps * 2 ^ 32 : Nat) tps).toNat % 2 ^ 32 ∧ t.tst PG_INT_STAT pgTIME 4 = true := by
  have hrun : s.ppsIn fe = ((s.wr TIME_PPSI_SEC 0 (x / tps)).wr TIME_PPSI_FRAC 0
      (roundDiv (x % tps * 2 ^ 32 : Nat) tps).toNat).int pgTIME 4 := by
    subst hat hx
    exact if_pos hmode
  have hint (u : State) {f : Fld} (h : PG_INT_STAT.key pgTIME ≠ f.key 0) : (u.int pgTIME 4).rd f 0 = u.rd f 0 :=
    State.rd_wr_ne _ _ h
  refine ⟨_, congrArg Host.Outcome.next hrun, ?_, ?_, State.int_tst _ (by decide) (by decide)⟩
  · rw [hint _ (by decide), State.rd_wr_ne _ _ (by decide)]
    exact State.rd_wr_self _ _ (by decide) (by decide)
  · rw [hint _ (by decide)]
    exact State.rd_wr_self _ _ (by decide) (by decide)

/-! ### Time messages and delays over the ring (R188) -/

theorem State.toMul_ring (s : State) (e o p : Nat) : (s.toMul e o p).ring = s.ring :=
  (State.toMul_off (Nat.and_self _) .refl e o p).ring_eq (by decide)

theorem State.toMul_rportUp (s : State) (e o p : Nat) {q : Nat} (hq : q < 2) : (s.toMul e o p).rportUp q = s.rportUp q := by
  rw [State.rportUp, (State.toMul_off (Nat.and_self _) .refl e o p).rd_eq_of_avoids (by decide +kernel) hq, State.rportUp]

/-- The reference's message goes out by RING_DN alone while the ring is whole. -/
theorem State.timeOut_of_whole {u : State} (hsends : Sends u 1 2) (hwhole : u.ring.broken = []) :
    u.timeOut = (u.emit ⟨1, 2, everyDev, 0, .time (u.timeMsg 1)⟩).setTime fun t => { t with corr := none } := by
  have hbroken : (u.emit ⟨1, 2, everyDev, 0, .time (u.timeMsg 1)⟩).ring.broken = [] := by
    rw [State.emit_of_sends (f := ⟨1, 2, _, _, _⟩) hsends]
    exact hwhole
  unfold State.timeOut
  simp only [State.cond, hsends.1, if_true, hbroken, List.isEmpty_nil, Bool.not_true, Bool.and_false, Bool.false_eq_true, if_false]

theorem execTimeMessageSend_sends {s u : State} (href : s.isRef = true) (hu : u = s.toMul evTIMEMSG 0 983040)
    (hup : s.rportUp 1 = true) (hwhole : s.ring.broken = []) (hcredit : (s.vc 1 2).credits ≠ 0)
    (hfront : (s.ring.queue.any fun g => g.port == 1 && g.vc == 2) = false) :
    ∃ t, exec .timeMessageSend s = .next t
      ∧ t.ring.out = s.ring.out ++ [⟨1, 2, everyDev, 0, .time (u.timeMsg 1)⟩] ∧ t.time.corr = none ∧ t.now = u.now := by
  have hring : u.ring = s.ring := by rw [hu, State.toMul_ring]
  have hsends : Sends u 1 2 := Sends.congr ⟨hup, hcredit, hfront⟩ (by rw [hu, State.toMul_rportUp _ _ _ _ (by decide)])
    (congrArg RingSt.vcs hring) (congrArg RingSt.queue hring)
  have hrun : s.timeSend = (u.emit ⟨1, 2, everyDev, 0, .time (u.timeMsg 1)⟩).setTime fun t => { t with corr := none } := by
    rw [State.timeSend, href, ← State.timeOut_of_whole hsends (hring ▸ hwhole), hu]
    rfl
  refine ⟨_, congrArg Host.Outcome.next hrun, ?_, rfl, ?_⟩
  · rw [State.setTime_ring, State.emit_out (f := ⟨1, 2, _, _, _⟩) hsends, hring]
  · rw [State.setTime_now, (State.emit_off (Nat.and_self _) .refl _).now_eq (by decide)]

theorem execArcDelayMeasurement_asks {s u : State} (hu : u = s.toMul evARC 0 983040) (hup : s.rportUp 0 = true)
    (hdown : s.rportUp 1 = false) (hcredit : (s.vc 0 2).credits ≠ 0)
    (hfront : (s.ring.queue.any fun g => g.port == 0 && g.vc == 2) = false) :
    ∃ t, exec .arcDelayMeasurement s = .next t
      ∧ t.ring.out = s.ring.out ++ [⟨0, 2, everyDev, 0, .delayReq u.now⟩] ∧ t.now = u.now := by
  have hring : u.ring = s.ring := by rw [hu, State.toMul_ring]
  have hup0 : u.rportUp 0 = s.rportUp 0 := by rw [hu, State.toMul_rportUp _ _ _ _ (by decide)]
  have hup1 : u.rportUp 1 = s.rportUp 1 := by rw [hu, State.toMul_rportUp _ _ _ _ (by decide)]
  have hsends : Sends u 0 2 := Sends.congr ⟨hup, hcredit, hfront⟩ hup0 (congrArg RingSt.vcs hring) (congrArg RingSt.queue hring)
  have hports : [0, 1].filter u.rportUp = [0] := by
    simp only [List.filter, hup0, hup1, hup, hdown]
  have hrun : s.arcDelay = u.emit ⟨0, 2, everyDev, 0, .delayReq u.now⟩ := by
    unfold State.arcDelay
    rw [← hu]
    extract_lets v
    rw [hports]
    rfl
  refine ⟨_, congrArg Host.Outcome.next hrun, ?_, (State.emit_off (Nat.and_self _) .refl _).now_eq (by decide)⟩
  rw [State.emit_out (f := ⟨0, 2, _, _, _⟩) hsends, hring]

theorem State.took_credits (s : State) (p v : Nat) : ((s.took p v).vc p v).credits = (s.vc p v).credits := by
  rw [State.vc, State.took, State.setRing_ring, Tab.get_set_self]
  rfl

theorem execDelayRequestReceived_answers {s : State} {p : Bool} (t1 : Nat) (hup : s.rportUp p.toNat = true)
    (hcredit : (s.vc p.toNat 2).credits ≠ 0) (hfront : (s.ring.queue.any fun g => g.port == p.toNat && g.vc == 2) = false) :
    ∃ t, exec (.delayRequestReceived p t1) s = .next t
      ∧ t.ring.out = s.ring.out ++ [⟨p.toNat, 2, everyDev, 0, .delayAns t1 s.now s.now⟩] := by
  have hsends : Sends (s.took p.toNat 2) p.toNat 2 := ⟨hup, (s.took_credits ..).trans_ne hcredit, hfront⟩
  have hrun : s.delayRequest p.toNat t1 = (s.took p.toNat 2).emit ⟨p.toNat, 2, everyDev, 0, .delayAns t1 s.now s.now⟩ :=
    if_pos hup
  exact ⟨_, congrArg Host.Outcome.next hrun, State.emit_out (f := ⟨_, 2, _, _, _⟩) hsends⟩

theorem execDelayAnswerReceived_reports {s : State} {dn : Bool} {rtt turn : Nat} {corr d : Int}
    (hd : d = roundDiv ((rtt : Int) - turn + 2 * corr) 2) (hlow : 0 ≤ d) (hhigh : d < 2 ^ TIME_ARC_DN.w) :
    ∃ t, exec (.delayAnswerReceived false dn rtt turn corr) s = .next t
      ∧ t.rd (if dn then TIME_ARC_DN else TIME_ARC_UP) 0 = d.toNat := by
  have hfits : d.toNat % 2 ^ 24 = d.toNat := Nat.mod_eq_of_lt (by change d < 2 ^ 24 at hhigh; omega)
  obtain ⟨u, hu⟩ : ∃ u, u = (s.took 0 2).setTime fun t => { t with arcs := t.arcs.set (2 * 0 + dn.toNat) d.toNat } := ⟨_, rfl⟩
  have hrun : s.delayAnswer 0 dn rtt turn corr = u.wr (if dn then TIME_ARC_DN else TIME_ARC_UP) 0 d.toNat := by
    unfold State.delayAnswer
    rw [← hd, max_eq_right hlow, hu]
    rfl
  refine ⟨_, congrArg Host.Outcome.next hrun, ?_⟩
  cases dn
  · exact (State.rd_wr_self _ _ (by decide) (by decide)).trans hfits
  · exact (State.rd_wr_self _ _ (by decide) (by decide)).trans hfits

/-! ### A follower takes its time (R188, R190) -/

theorem State.roleMove_off_refDev (s : State) (dev kind : Nat) (delta : Int) :
    Off (F.State.setTime ||| F.State.journalInt) (s.wr TIME_STAT_REF_DEV 0 dev) (s.roleMove dev kind delta) :=
  have hm := Nat.and_self (F.State.setTime ||| F.State.journalInt)
  State.journalInt_off (sb hm (by decide)) (State.setTime_off (sb hm (by decide)) .refl ..) ..

theorem State.roleMove_refDev (s : State) {dev : Nat} (kind : Nat) (delta : Int) (hdev : dev < 64) :
    (s.roleMove dev kind delta).rd TIME_STAT_REF_DEV 0 = dev := by
  rw [(s.roleMove_off_refDev dev kind delta).rd_eq (by decide +kernel)]
  exact (State.rd_wr_self _ _ (by decide) (by decide)).trans (Nat.mod_eq_of_lt hdev)

/-- What a follower reaches once it knows its reference and its place in the ring. -/
def F.timeTakeTail : Nat :=
  F.State.tuneHost ||| F.State.ringSet ||| F.State.tuneTo ||| F.State.setTime ||| F.State.holdover ||| F.State.measure

theorem State.timeTake_off_placed (s : State) {m : TimeMsg} (hdev : m.dev < 64) :
    ∃ v : State, v.rd TIME_STAT_REF_DEV 0 = m.dev ∧ Off F.timeTakeTail (v.wr TIME_RING 0 m.hops) (s.timeTake m) := by
  have hm := Nat.and_self F.timeTakeTail
  unfold State.timeTake
  extract_lets p s1 s2 wasRef s3 s4 s5 s6 s7 ph t s8
  have hnamed (u : State) : ((u.wr TIME_STAT_REF_DEV 0 m.dev).int pgTIME 1).rd TIME_STAT_REF_DEV 0 = m.dev := by
    rw [State.int, State.orBits, State.rd_wr_ne _ _ (by decide)]
    exact (State.rd_wr_self _ _ (by decide) (by decide)).trans (Nat.mod_eq_of_lt hdev)
  have h3 : s3.rd TIME_STAT_REF_DEV 0 = m.dev := by
    unfold s3
    split
    · assumption
    · split
      · split
        · exact State.roleMove_refDev _ _ _ hdev
        · exact hnamed _
      · exact hnamed _
  have h4 : s4.rd TIME_STAT_REF_DEV 0 = m.dev :=
    ((State.cond_off .refl (fun _ h => State.setTime_off (Nat.and_self F.State.setTime) h ..) _ : Off _ s3 s4).rd_eq
      (by decide +kernel)).trans h3
  refine ⟨s4, h4, ?_⟩
  have h5 : Off F.timeTakeTail (s4.wr TIME_RING 0 m.hops) s5 := State.tuneHost_off (sb hm (by decide)) .refl
  have h6 : Off F.timeTakeTail (s4.wr TIME_RING 0 m.hops) s6 := by
    unfold s6
    split
    · exact State.ringSet_off (sb hm (by decide)) h5 ..
    · exact h5
  have h7 : Off F.timeTakeTail (s4.wr TIME_RING 0 m.hops) s7 := by
    unfold s7
    split
    · exact State.cond_off h6 (fun _ h => State.tuneTo_off (sb hm (by decide)) h ..) _
    · exact h6
  have h8 : Off F.timeTakeTail (s4.wr TIME_RING 0 m.hops) s8 :=
    .ite (State.setTime_off (sb hm (by decide)) (State.setTod_off (sb hm (by decide)) h7 ..) ..) h7
  exact .ite (State.holdover_off (sb hm (by decide)) (State.setTime_off (sb hm (by decide)) h7 ..))
    (State.measure_off (sb hm (by decide)) h8 ..)

theorem execTimeMessageReceived_follows {s : State} {m : TimeMsg} (hother : m.dev ≠ s.devId) (hdev : m.dev < 64)
    (hhops : m.hops < 2 ^ TIME_RING.w) (hcut : m.port = true → s.ring.broken ≠ []) :
    ∃ t, exec (.timeMessageReceived m) s = .next t ∧ t.rd TIME_RING 0 = m.hops ∧ t.rd TIME_STAT_REF_DEV 0 = m.dev := by
  obtain ⟨v, hrefDev, hoff⟩ := (s.took m.port.toNat 2).timeTake_off_placed hdev
  have hway : (m.port && (s.took m.port.toNat 2).ring.broken.isEmpty) = false := by
    rw [Bool.and_eq_false_imp]
    exact fun hport => List.isEmpty_eq_false_iff.2 (hcut hport)
  have hrun : s.timeMessage m = ((s.took m.port.toNat 2).timeTake m).timeRelay m := by
    refine (if_neg hother).trans (if_neg ?_)
    rw [hway]
    exact Bool.false_ne_true
  have hrelay {f : Fld} (h : maskMisses F.State.timeRelay (f.key 0) = true) (u : State) : (u.timeRelay m).rd f 0 = u.rd f 0 :=
    (State.timeRelay_off (Nat.and_self _) .refl m).rd_eq h
  refine ⟨_, congrArg Host.Outcome.next hrun, ?_, ?_⟩
  · rw [hrelay (by decide +kernel), hoff.rd_eq (by decide +kernel)]
    exact (State.rd_wr_self _ _ (by decide) (by decide)).trans (Nat.mod_eq_of_lt hhops)
  · rw [hrelay (by decide +kernel), hoff.rd_eq (by decide +kernel), State.rd_wr_ne _ _ (by decide)]
    exact hrefDev

/-! ### The understudy and the return of the reference (R192, R193) -/

theorem execUsReady_readies {s : State} {a : Nat} (hsince : s.time.usSince = some a) (hrole : s.rd TIME_CFG_ROLE 0 = 1)
    (hvertex : s.vertex = false) (hheard : s.rd TIME_STAT_US_IGNORED 0 = 0) (hvalid : s.timeValid = true)
    (hserving : s.serving.isSome = true) :
    ∃ t, exec .usReady s = .next t ∧ t.rd TIME_STAT_US_READY 0 = 1 ∧ t.now = max s.now (a + secT 60) := by
  have hrun : s.usReady = (s.reach (a + secT 60)).wr TIME_STAT_US_READY 0 1 := by
    rw [State.usReady, hsince]
    simp only [hrole, hvertex, State.on_of_zero hheard, hvalid, hserving, beq_self_eq_true, Bool.not_false, Bool.and_self, if_true]
  refine ⟨_, congrArg Host.Outcome.next hrun, State.rd_wr_self _ _ (by decide) (by decide), ?_⟩
  rw [State.wr_now, State.reach_now]

theorem State.roleMove_time (s : State) (dev kind : Nat) (delta : Int) :
    (s.roleMove dev kind delta).time
      = { s.time with moved := if dev = s.devId then some (kind, delta) else none } := by
  unfold State.roleMove
  extract_lets old u
  exact (State.journalInt_off (Nat.and_self _) (.refl (a := u)) ..).part .time (by decide)

theorem State.roleMove_srcAct (s : State) (dev kind : Nat) (delta : Int) :
    ((s.wr TIME_STAT_SRC_ACT 0 0).roleMove dev kind delta).rd TIME_STAT_SRC_ACT 0 = 0 := by
  rw [(State.roleMove_off_refDev _ dev kind delta).rd_eq (by decide +kernel), State.rd_wr_ne _ _ (by decide)]
  exact State.rd_wr_self _ _ (by decide) (by decide)

theorem execUnderstudyTakeover_takes {s : State} (ph : Int) (hrole : s.rd TIME_CFG_ROLE 0 = 1) (hvertex : s.vertex = false)
    (hheard : s.rd TIME_STAT_US_IGNORED 0 = 0) (hother : s.isRef = false) (hvalid : s.timeValid = true)
    (hready : s.rd TIME_STAT_US_READY 0 ≠ 0) (hlost : s.time.refState = 0 ∨ s.time.refState = 4) :
    ∃ t, exec (.understudyTakeover ph) s = .next t ∧ t.time.refRole = true ∧ t.time.held = s.rdS TIME_US_DELTA 0
      ∧ t.rd TIME_STAT_REF_DEV 0 = s.devId ∧ t.rd TIME_STAT_SRC_ACT 0 = 0 := by
  obtain ⟨u, hu⟩ : ∃ u, u = s.setTime fun t => { t with refRole := true, held := s.rdS TIME_US_DELTA 0, realign := false } :=
    ⟨_, rfl⟩
  have hrun : s.takeover ph = (u.wr TIME_STAT_SRC_ACT 0 0).roleMove s.devId 0 (roundDiv (s.rdS TIME_US_DELTA 0) 1000) := by
    have hannounced : (s.time.refState == 0 || s.time.refState == 4) = true := by
      rcases hlost with h | h <;> rw [h] <;> rfl
    unfold State.takeover
    simp only [hrole, hvertex, State.on_of_zero hheard, hother, hvalid, State.on_of_ne hready, hannounced, beq_self_eq_true,
      Bool.not_false, Bool.and_self, if_true, hu]
    rfl
  refine ⟨_, congrArg Host.Outcome.next hrun, ?_, ?_, State.roleMove_refDev _ _ _ (s.rd_lt ..), State.roleMove_srcAct ..⟩
  · rw [State.roleMove_time, State.wr_time, hu, State.setTime_time]
  · rw [State.roleMove_time, State.wr_time, hu, State.setTime_time]

theorem execReferenceReturn_returns {s : State} {a : Nat} (hvertex : s.vertex = true) (hother : s.isRef = false)
    (hserving : s.serving.isSome = true) (hrevert : s.rd TIME_CFG_REVERT 0 ≠ 0) (hsince : s.time.retSince = some a) :
    ∃ t, exec .referenceReturn s = .next t ∧ t.time.held = s.rdS TIME_US_DELTA 0 ∧ t.rd TIME_STAT_REF_DEV 0 = s.devId
      ∧ t.rd TIME_STAT_SRC_ACT 0 = 0 ∧ t.now = max s.now (a + secT 60) := by
  obtain ⟨u, hu⟩ : ∃ u, u = (s.reach (a + secT 60)).setTime fun t =>
    { t with held := s.rdS TIME_US_DELTA 0, realign := false, retSince := none } := ⟨_, rfl⟩
  have hdevId : (s.reach (a + secT 60)).devId = s.devId := State.reach_rd ..
  have hrun : s.refReturn = (u.wr TIME_STAT_SRC_ACT 0 0).roleMove s.devId 2 (roundDiv (s.rdS TIME_US_DELTA 0) 1000) := by
    have hserve : s.serving.isNone = false := by rw [Option.isNone_eq_false_iff, hserving]
    unfold State.refReturn
    simp only [hvertex, hother, hserve, State.on_of_ne hrevert, hsince, Bool.not_true, Bool.or_self, Bool.false_eq_true,
      if_false, hdevId, hu]
  refine ⟨_, congrArg Host.Outcome.next hrun, ?_, State.roleMove_refDev _ _ _ (s.rd_lt ..), State.roleMove_srcAct .., ?_⟩
  · rw [State.roleMove_time, State.wr_time, hu, State.setTime_time]
  · rw [(State.roleMove_off (Nat.and_self _) .refl ..).now_eq (by decide), State.wr_now, hu, State.setTime_now, State.reach_now]

/-- Settles O35: a pulse and an edge of PPS are timed and captured; the reference's time and the delays of the arcs go round the ring;
a follower takes its place from a message, and the role moves to the understudy and back to the vertex. That a late event leaves the
clock where it stands is the model's choice (log entry 3). -/
theorem timeMessagesComplete : Obligations.TimeMessagesComplete :=
  ⟨fun _ => execPpsOutPulse_rises, fun _ _ _ _ => execPpsInEdge_captures, fun _ _ => execTimeMessageSend_sends,
    fun _ _ => execTimeMessageReceived_follows, fun _ _ => execArcDelayMeasurement_asks,
    fun _ _ t1 => execDelayRequestReceived_answers t1, fun _ _ _ _ _ _ => execDelayAnswerReceived_reports,
    fun _ _ => execUsReady_readies, fun _ ph => execUnderstudyTakeover_takes ph, fun _ _ => execReferenceReturn_returns⟩

end Sys2Proof.Machine

/-! PROOF. The commands of a port, its uses and turn-rounds, the reference clock and the frame boundary (spec/06_time_reference.md
R170, R196, R199; spec/07_radio_sequencing.md R207, R208). -/
namespace Sys2Proof.Machine
open Sys2Proof
set_option Elab.async false

/-! ### The frame boundary (R170) -/

/-- What a frame boundary reaches beside the clock. -/
def F.frameBoundaryTail : Nat :=
  F.State.frameNc ||| F.State.noiseRise ||| F.State.presUpdate ||| F.State.mark ||| 1 <<< 13 ||| 1 <<< 14

theorem State.frameBoundary_off_reached (s : State) :
    Off F.frameBoundaryTail (if s.time.idx % 9830400 = 0 ∧ s.due evFRAME = true then s else s.reach s.frameEnd)
      s.frameBoundary := by
  have hm := Nat.and_self F.frameBoundaryTail
  unfold State.frameBoundary
  generalize (if s.time.idx % 9830400 = 0 ∧ s.due evFRAME = true then s else s.reach s.frameEnd) = a
  extract_lets s1 s2 old s3
  have h1 : Off F.frameBoundaryTail a s1 := State.mark_off (sb hm (by decide)) .refl ..
  have h2 : Off F.frameBoundaryTail a s2 := .foldl h1 (fun _ h _ => by
    split
    rename_i nc u hnc
    have hu : Off F.frameBoundaryTail a u := .snd hnc (State.frameNc_off (sb hm (by decide)) h ..)
    split
    · exact State.noiseRise_off (sb hm (by decide)) hu ..
    · exact hu) _
  clear_value s2
  have h3 : Off F.frameBoundaryTail a s3 := .upd h2 (h_cur := .inr (tb hm (by decide)))
  exact .foldl h3 (fun _ h _ => State.presUpdate_off (sb hm (by decide)) (.upd h (h_prot := .inr (tb hm (by decide)))) ..) _

theorem State.frameBoundary_now (s : State) :
    s.frameBoundary.now = if s.time.idx % 9830400 = 0 ∧ s.due evFRAME = true then s.now else max s.now s.frameEnd := by
  rw [s.frameBoundary_off_reached.now_eq (by decide)]
  split
  · rfl
  · exact State.reach_now ..

/-! ### The reference clock (R199) -/

/-- What the loss of REF_IN reaches beside its flag. -/
def F.refFailTail : Nat := F.State.stand ||| F.State.raise ||| F.State.setTimeState

theorem execRefInFail_degrades {s : State} (hgood : s.time.refFail = false) :
    ∃ t, exec .refInFail s = .next t ∧ t.rd TIME_STAT_DEGRADED 0 = 1 ∧ t.timeState = 0 := by
  have hm := Nat.and_self F.refFailTail
  obtain ⟨u, hu⟩ : ∃ u, u = (s.setTime fun t => { t with refFail := true }).wr TIME_STAT_DEGRADED 0 1 := ⟨_, rfl⟩
  have hrun : s.refFail = ((u.stand 55 0).raise pgTIME 4 allPorts).setTimeState 0 := by
    rw [State.refFail, State.refInFail, hgood, hu]
    rfl
  have hoff : Off F.refFailTail u (((u.stand 55 0).raise pgTIME 4 allPorts).setTimeState 0) :=
    State.setTimeState_off (sb hm (by decide)) (State.raise_off (sb hm (by decide))
      (State.stand_off (sb hm (by decide)) .refl ..) ..) ..
  refine ⟨_, congrArg Host.Outcome.next hrun, ?_, State.setTimeState_timeState _ (by decide)⟩
  rw [hoff.rd_eq (by decide +kernel), hu]
  exact State.rd_wr_self _ _ (by decide) (by decide)

theorem execRefInRecovered_restores {s : State} (hfail : s.time.refFail = true) :
    ∃ t, exec .refInRecovered s = .next t ∧ t.rd TIME_STAT_DEGRADED 0 = 0 := by
  obtain ⟨u, hu⟩ : ∃ u, u = ((s.setTime fun t => { t with refFail := false }).unstand 55 0).wr TIME_STAT_DEGRADED 0 0 := ⟨_, rfl⟩
  have hoff : Off F.State.synRetry u s.refBack := by
    rw [State.refBack, hfail, hu]
    exact .foldl .refl (fun _ h _ => .ite h (State.synRetry_off (Nat.and_self _) h ..)) _
  refine ⟨_, rfl, ?_⟩
  rw [hoff.rd_eq (by decide +kernel), hu]
  exact State.rd_wr_self _ _ (by decide) (by decide)

/-! ### What a port's upkeep leaves of it -/

/-- A port without the hold of an inbound grant. -/
def RfcPort.ungranted (r : RfcPort) : RfcPort := { r with coexIn := false }

/-- A grant holds the shared ports, and leaves the rest of each port. -/
theorem State.coexGrant_rport (s : State) (m : Nat) : (s.coexGrant.rport m).ungranted = (s.rport m).ungranted := by
  unfold State.coexGrant
  extract_lets u
  rw [(State.suspendLifts_off (Nat.and_self _) .refl).rport_eq (by decide)]
  refine (foldl_keeps (fun y : State => (y.rport m).ungranted) (fun y k _ => ?_) u).trans rfl
  rw [State.setRport_rport]
  split
  next hk => rw [hk]; rfl
  next => rfl

/-- The operations on coexistence that end a port's event leave the rest of the port. -/
theorem State.coexTail_rport (s : State) (m : Nat) :
    (s.coexTry.coexRelease.rport m).ungranted = (s.rport m).ungranted := by
  rw [(State.coexRelease_off (Nat.and_self _) .refl).rport_eq (by decide)]
  unfold State.coexTry State.cond
  split
  · exact s.coexGrant_rport m
  · rfl

theorem State.coexTail_use (s : State) (m : Nat) : (s.coexTry.coexRelease.rport m).use = (s.rport m).use :=
  have h := congrArg RfcPort.use (s.coexTail_rport m)
  h

theorem State.coexTail_turn (s : State) (m : Nat) : (s.coexTry.coexRelease.rport m).turn = (s.rport m).turn :=
  have h := congrArg RfcPort.turn (s.coexTail_rport m)
  h

theorem State.lossEval_turn (s : State) (m : Nat) : ((s.lossEval m).rport m).turn = (s.rport m).turn := by
  unfold State.lossEval
  extract_lets miss back u runs
  have hm := Nat.and_self (F.State.unstand ||| F.State.setCport)
  have hu : Off (F.State.unstand ||| F.State.setCport) s u :=
    State.cond_off .refl (fun _ h => State.setCport_off (sb hm (by decide)) (State.unstand_off (sb hm (by decide)) h ..) ..) _
  rw [State.setRport_rport_self, hu.rport_eq (by decide)]

theorem State.tddPort_congr {s t : State} (h : t.lanes = s.lanes) (m : Nat) : t.tddPort m = s.tddPort m := by
  simp only [State.tddPort, State.portLanes, State.lane, h]

/-! ### The uses of a port and its turn-rounds (R196, R208) -/

theorem State.setPortState_use (s : State) (m st : Nat) : ((s.setPortState m st).rport m).use = (s.rport m).use := by
  rw [State.setPortState, State.setRport_rport_self]
  split <;> rfl

theorem State.setPortState_turn (s : State) (m st : Nat) : ((s.setPortState m st).rport m).turn = (s.rport m).turn := by
  rw [State.setPortState, State.setRport_rport_self]
  split <;> rfl

theorem State.turnStart_use (s : State) (m : Nat) (toTx : Bool) : ((s.turnStart m toTx).rport m).use = (s.rport m).use := by
  unfold State.turnStart
  extract_lets u v
  have hu : (u.rport m).use = (s.rport m).use := by rw [State.setRport_rport_self]
  have hv : (v.rport m).use = (u.rport m).use := by
    unfold v State.cond
    split
    · exact State.setPortState_use ..
    · rfl
  split <;> exact hv.trans hu

/-- What the end of a use reaches beside the clock. -/
def F.useEndTail : Nat := F.State.setRport ||| F.State.turnStart ||| F.State.coexTry ||| F.State.coexRelease

/-- A use that ends leaves its port, to which a turn-round may come. -/
theorem State.portUseEnd_ends {s : State} {m d : Nat} {tx : Bool} (htdd : s.tddPort m = true) (hend : s.useEnd m tx = some d) :
    ((s.portUseEnd m tx).rport m).use = .none ∧ Off F.useEndTail (s.reach (s.now + d)) (s.portUseEnd m tx) := by
  have hm := Nat.and_self F.useEndTail
  unfold State.portUseEnd
  simp -zeta only [htdd, hend, Bool.not_true, Bool.false_eq_true, if_false]
  extract_lets u sent v may w
  have hv : (v.rport m).use = .none ∧ Off F.useEndTail u v :=
    ⟨by rw [State.setRport_rport_self], State.setRport_off (sb hm (by decide)) .refl ..⟩
  have hturn {y : State} (hy : (y.rport m).use = .none ∧ Off F.useEndTail u y) (toTx : Bool) :
      ((y.turnStart m toTx).rport m).use = .none ∧ Off F.useEndTail u (y.turnStart m toTx) :=
    ⟨(y.turnStart_use m toTx).trans hy.1, State.turnStart_off (sb hm (by decide)) hy.2 ..⟩
  have hw : (w.rport m).use = .none ∧ Off F.useEndTail u w := by
    unfold w
    split
    · split
      · refine hturn ⟨?_, State.setRport_off (sb hm (by decide)) hv.2 ..⟩ false
        rw [State.setRport_rport_self]
        exact hv.1
      · exact hv
    · split
      · split
        · exact hturn hv true
        · exact hv
      · exact hv
  obtain ⟨huse, hoff⟩ := hw
  exact ⟨(w.coexTail_use m).trans huse, State.coexRelease_off (sb hm (by decide)) (State.coexTry_off (sb hm (by decide)) hoff)⟩

theorem execPortUseEnd_ends {s : State} {m : Fin 8} {tx : Bool} {d : Nat} (htdd : s.tddPort m = true)
    (hend : s.useEnd m tx = some d) :
    ∃ t, exec (.portUseEnd m tx) s = .next t ∧ (t.rport m).use = .none ∧ t.now = s.now + d := by
  obtain ⟨huse, hoff⟩ := State.portUseEnd_ends htdd hend
  refine ⟨_, rfl, huse, ?_⟩
  rw [hoff.now_eq (by decide), State.reach_now]
  omega

theorem execTurnRoundLineEvent_goesOn {s : State} {m : Fin 8} {x : Turn} (hturn : (s.rport m).turn = some x)
    (hnext : x.next < if x.toTx then 3 else 4) :
    ∃ t, exec (.turnRoundLineEvent m) s = .next t ∧ (t.rport m).turn = some { x with next := x.next + 1 }
      ∧ t.now = max s.now (x.t0 + nsT (turnNs x.toTx x.next)) := by
  obtain ⟨u, hu⟩ : ∃ u, u = s.reach (x.t0 + nsT (turnNs x.toTx x.next)) := ⟨_, rfl⟩
  have hrun : s.turnEvent m = (u.setRport m fun r => { r with turn := some { x with next := x.next + 1 } }).coexRelease := by
    rw [State.turnEvent, hturn, hu]
    exact if_neg (Nat.not_le.2 hnext)
  have hoff := State.coexRelease_off (Nat.and_self _)
    (.refl (a := u.setRport m fun r => { r with turn := some { x with next := x.next + 1 } }))
  refine ⟨_, congrArg Host.Outcome.next hrun, ?_, ?_⟩
  · rw [hoff.rport_eq (by decide), State.setRport_rport_self]
  · rw [hoff.now_eq (by decide), State.setRport_now, hu, State.reach_now]

/-- A port that its state, its converters and its turn-round leave where it is has its command, its timers and its coexistence
followed alone. -/
theorem State.portEval_of_rest {s : State} {m : Nat} (hup : s.portUp m = s) (hmove : s.portMove m = s)
    (hturn : s.turnAlone m = s) : s.portEval m = ((s.suspendLifts.cmdCheck m).lossEval m).coexTry.coexRelease := by
  rw [State.portEval, hup, hmove, hturn]

theorem State.portUp_of_on {s : State} {m : Nat} (hon : s.portState m ≠ stOFF) : s.portUp m = s := by
  unfold State.portUp
  extract_lets tg
  rw [beq_false_of_ne hon]
  exact if_neg Bool.false_ne_true

theorem State.probing_of_calibrated {s : State} {m : Nat} (hcal : s.portState m ≠ stCAL) : s.probing m = false := by
  rw [State.probing, beq_false_of_ne hcal]
  simp only [Bool.false_and]

theorem State.turnAlone_of_idle {s : State} {m : Nat} (hcal : s.portState m ≠ stCAL)
    (hidle : (s.portState m == stRX && s.portTarget m == 2 && s.performing) = false) : s.turnAlone m = s := by
  unfold State.turnAlone
  extract_lets is may
  have hmay : may = false := by
    unfold may
    rw [hidle, State.probing_of_calibrated hcal]
    rfl
  rw [hmay, Bool.and_false]
  exact if_neg (by simp only [Bool.false_and, Bool.false_eq_true, not_false_eq_true])

theorem State.portMove_of_tdd {s : State} {m : Nat} (hcal : s.portState m ≠ stCAL) (htdd : s.tddPort m = true) :
    s.portMove m = s := by
  unfold State.portMove
  rw [beq_false_of_ne hcal]
  simp only [Bool.false_and, Bool.false_eq_true, if_false, htdd, if_true]

/-- What a port's upkeep reaches where the port stays where it is. -/
def F.portRest : Nat :=
  F.State.suspendLifts ||| F.State.cmdCheck ||| F.State.lossEval ||| F.State.coexTry ||| F.State.coexRelease

theorem State.portRest_off (s : State) (m : Nat) :
    Off F.portRest s ((s.suspendLifts.cmdCheck m).lossEval m).coexTry.coexRelease :=
  have hm := Nat.and_self F.portRest
  State.coexRelease_off (sb hm (by decide)) (State.coexTry_off (sb hm (by decide)) (State.lossEval_off (sb hm (by decide))
    (State.cmdCheck_off (sb hm (by decide)) (State.suspendLifts_off (sb hm (by decide)) .refl) ..) ..))

theorem State.portRest_turn (s : State) (m : Nat) :
    ((((s.suspendLifts.cmdCheck m).lossEval m).coexTry.coexRelease).rport m).turn = (s.rport m).turn := by
  rw [State.coexTail_turn, State.lossEval_turn, (State.cmdCheck_off (Nat.and_self _) .refl m).rport_eq (by decide),
    (State.suspendLifts_off (Nat.and_self _) .refl).rport_eq (by decide)]

theorem execTurnRoundComplete_transmits {s : State} {m : Fin 8} {x : Turn} (hturn : (s.rport m).turn = some x)
    (htx : x.toTx = true) (htdd : s.tddPort m = true) (hcal : s.portState m ≠ stCAL) :
    ∃ t, exec (.turnRoundComplete m) s = .next t ∧ t.portState m = stTX ∧ (t.rport m).turn = none
      ∧ t.now = max s.now (x.t0 + nsT 1750) := by
  obtain ⟨u, hu⟩ : ∃ u, u = (s.reach (x.t0 + nsT 1750)).setRport m fun r =>
    { r with turn := none, use := if x.toTx && r.use == .none then .none else r.use } := ⟨_, rfl⟩
  have hstate : (u.setPortState m stTX).portState m = stTX := State.setPortState_portState m.isLt (by decide)
  have hlanes : (u.setPortState m stTX).lanes = s.lanes := by
    rw [hu]
    exact (State.reach_off (Nat.and_self _) .refl _).part .lanes (by decide)
  have hcal' : (u.setPortState m stTX).portState m ≠ stCAL := by rw [hstate]; decide
  have hrest : (u.setPortState m stTX).portEval m
      = (((u.setPortState m stTX).suspendLifts.cmdCheck m).lossEval m).coexTry.coexRelease :=
    State.portEval_of_rest (State.portUp_of_on (by rw [hstate]; decide))
      (State.portMove_of_tdd hcal' ((State.tddPort_congr hlanes m).trans htdd))
      (State.turnAlone_of_idle hcal' (by rw [hstate]; rfl))
  have hrun : s.turnDone m = (u.setPortState m stTX).portEval m := by
    have hcalu : (u.portState m != stCAL) = true := by
      rw [hu]
      exact bne_iff_ne.2 (by rwa [State.portState, State.setRport_rd, State.reach_rd])
    unfold State.turnDone
    rw [hturn]
    simp only [← hu, State.cond, hcalu, if_true]
    rw [htx, if_pos rfl]
  refine ⟨_, congrArg Host.Outcome.next (hrun.trans hrest), ?_, ?_, ?_⟩
  · rw [State.portState, (State.portRest_off _ m).rd_eq_of_avoids (by decide +kernel) m.isLt]
    exact hstate
  · rw [State.portRest_turn, State.setPortState_turn, hu, State.setRport_rport_self]
  · rw [(State.portRest_off _ m).now_eq (by decide), State.setPortState, State.setRport_now, State.wr_now, hu, State.setRport_now,
      State.reach_now]

/-! ### Port commands (R207) -/

/-- A port with the fields of its command written, and the command running. -/
def State.portCfgWritten (s : State) (m : Nat) (v : Word) : State :=
  ((s.cond (s.on RFC_PORT_STAT_BUSY m) fun s => (s.wr RFC_PORT_STAT_RESULT m 3).int pgRFC 0).wrWord portFlds m v).wr
    RFC_PORT_STAT_BUSY m 1

/-- The ports' holds for the synthesisers that the target needs and that calibrate (R213). -/
def State.synHolds (s : State) (m tg : Nat) : State :=
  (needs m tg).foldl (fun (s : State) c => s.cond (s.synBusy (cvSyn c)) fun s => s.holdSyn (cvSyn c) m true) s

theorem State.writePortCfg_off_target {s : State} {m : Nat} {v : Word} (htg : RFC_PORT_CFG_TARGET.of v = 0) :
    s.writePortCfg m v = ((s.portCfgWritten m v).portOff m).cmdCheck m := by
  unfold State.writePortCfg
  rw [htg]
  simp only [if_neg (Nat.zero_ne_add_one 2), bne_self_eq_false, State.cond, Bool.false_eq_true, if_false, if_true]
  rfl

theorem State.writePortCfg_on_target {s : State} {m tg : Nat} {v : Word} (htg : RFC_PORT_CFG_TARGET.of v = tg)
    (hvalid : tg ≠ 3) (hon : tg ≠ 0) : s.writePortCfg m v = ((s.portCfgWritten m v).synHolds m tg).portEval m := by
  have hne : (tg != 0) = true := bne_iff_ne.2 hon
  unfold State.writePortCfg
  rw [htg]
  simp only [if_neg hvalid, if_neg hon, hne, State.cond, if_true]
  rfl

/-- What the write of a command reaches. -/
def F.portCfgWritten : Nat :=
  F.State.int ||| 1 <<< 94 ||| 1 <<< 95 ||| 1 <<< 294 ||| 1 <<< 295 ||| 1 <<< 296 ||| 1 <<< 297 ||| 1 <<< 298

theorem State.portCfgWritten_off (s : State) (m : Nat) (v : Word) : Off F.portCfgWritten s (s.portCfgWritten m v) :=
  have hm := Nat.and_self F.portCfgWritten
  have hcond := State.cond_off .refl (fun _ h => State.int_off (sb hm (by decide))
    (.wr h (has_RFC_PORT_STAT_RESULT (by decide)) m 3) pgRFC 0) (s.on RFC_PORT_STAT_BUSY m)
  .wr (State.wrWord_off hcond (.cons (has_RFC_PORT_CFG_TARGET (by decide)) (.cons (has_RFC_PORT_CFG_PROBE_EN (by decide))
    (.cons (has_RFC_PORT_CFG_FDD_POS (by decide)) (.cons (has_RFC_PORT_CFG_RX_PROT (by decide))
      (.cons (has_RFC_PORT_CFG_COEX (by decide)) .nil))))) ..) (has_RFC_PORT_STAT_BUSY (by decide)) ..

/-- A command of port `m` is running toward target `tg`. -/
def State.Commanded (s : State) (m tg : Nat) : Prop := s.portTarget m = tg ∧ s.rd RFC_PORT_STAT_BUSY m = 1

theorem State.portCfgWritten_commanded (s : State) {m : Nat} (hm : m < 8) (v : Word) :
    (s.portCfgWritten m v).Commanded m (RFC_PORT_CFG_TARGET.of v) := by
  have hapart : portFlds.Pairwise (·.apart ·) := by decide
  constructor
  · rw [State.portTarget, State.portCfgWritten, State.rd_wr_ne_at _ _ (by decide) (by decide)]
    exact State.rd_wrWord_self (fs := portFlds) _ (.head _) (hapart.imp fun h => Fld.key_ne_of_apart h m)
      (Fld.has_of_lt rfl rfl hm) (by decide)
  · exact State.rd_wr_self _ _ (Fld.has_of_lt rfl rfl hm) (by decide)

/-- An operation out of reach of a port's TARGET and BUSY leaves its command as it is. -/
theorem State.Commanded.of_off {k m tg : Nat} {s t : State} (h : s.Commanded m tg) (hoff : Off k s t) (hm : m < 8)
    (htarget : maskAvoids k RFC_PORT_CFG_TARGET = true) (hbusy : maskAvoids k RFC_PORT_STAT_BUSY = true) :
    t.Commanded m tg :=
  ⟨(hoff.rd_eq_of_avoids htarget hm).trans h.1, (hoff.rd_eq_of_avoids hbusy hm).trans h.2⟩

/-- What a completed command leaves: the target, no command running, and RESULT 1. -/
def State.CmdComplete (s : State) (m tg : Nat) : Prop :=
  s.portTarget m = tg ∧ s.rd RFC_PORT_STAT_BUSY m = 0 ∧ s.rd RFC_PORT_STAT_RESULT m = 1

theorem State.CmdComplete.of_off {k m tg : Nat} {s t : State} (h : s.CmdComplete m tg) (hoff : Off k s t) (hm : m < 8)
    (htarget : maskAvoids k RFC_PORT_CFG_TARGET = true) (hbusy : maskAvoids k RFC_PORT_STAT_BUSY = true)
    (hresult : maskAvoids k RFC_PORT_STAT_RESULT = true) : t.CmdComplete m tg := by
  obtain ⟨htg, hb, hres⟩ := h
  exact ⟨(hoff.rd_eq_of_avoids htarget hm).trans htg, (hoff.rd_eq_of_avoids hbusy hm).trans hb,
    (hoff.rd_eq_of_avoids hresult hm).trans hres⟩

theorem State.cmdDone_complete {s : State} {m tg : Nat} (h : s.Commanded m tg) (hm : m < 8) : (s.cmdDone m 1).CmdComplete m tg := by
  have hint : Off F.State.int ((s.wr RFC_PORT_STAT_RESULT m 1).wr RFC_PORT_STAT_BUSY m 0) (s.cmdDone m 1) :=
    State.int_off (Nat.and_self _) .refl ..
  refine State.CmdComplete.of_off ⟨?_, ?_, ?_⟩ hint hm (by decide +kernel) (by decide +kernel) (by decide +kernel)
  · rw [State.portTarget, State.rd_wr_ne_at _ _ (by decide) (by decide), State.rd_wr_ne_at _ _ (by decide) (by decide)]
    exact h.1
  · exact State.rd_wr_self _ _ (Fld.has_of_lt rfl rfl hm) (by decide)
  · rw [State.rd_wr_ne_at _ _ (by decide) (by decide)]
    exact State.rd_wr_self _ _ (Fld.has_of_lt rfl rfl hm) (by decide)

/-- The port is where its target has it, or would transmit but for Curtain causes and the device state (R207). -/
def State.Arrived (s : State) (m tg : Nat) : Prop :=
  (tg = 0 ∧ s.portState m = stOFF) ∨ (tg = 1 ∧ s.portState m = stRX)
    ∨ (tg = 2 ∧ s.portState m = stRX ∧ s.synHold m = false ∧ s.performing = false)

theorem State.cmdCheck_of_arrived {s : State} {m tg : Nat} (h : s.Commanded m tg) (harrived : s.Arrived m tg) :
    s.cmdCheck m = s.cmdDone m 1 := by
  obtain ⟨htg, hbusy⟩ := h
  have hon : s.on RFC_PORT_STAT_BUSY m = true := State.on_of_one hbusy
  unfold State.cmdCheck
  rcases harrived with ⟨h0, hst⟩ | ⟨h1, hst⟩ | ⟨h2, hst, hsyn, hperf⟩
  · simp only [htg, h0, hst, hon, State.cond, beq_self_eq_true, Bool.and_self, if_true]
  · simp only [htg, h1, hst, hon, State.cond, beq_self_eq_true, Bool.and_self, if_true]
  · simp only [htg, h2, hst, hon, hsyn, hperf, State.cond, beq_self_eq_true, Bool.not_false, Bool.or_true, Bool.true_or,
      Bool.and_self, if_true]

/-- A port in RX whose target does not move it completes its command there. -/
theorem State.portEval_completes {s : State} {m tg : Nat} (hm : m < 8) (hcmd : s.Commanded m tg)
    (hrx : s.portState m = stRX) (hsettle : (s.rport m).settle = none) (hentry : (s.rport m).entry = false)
    (hstays : tg = 1 ∨ (tg = 2 ∧ s.synHold m = false ∧ s.performing = false)) : (s.portEval m).CmdComplete m tg := by
  have htg := hcmd.1
  have hcal : s.portState m ≠ stCAL := by rw [hrx]; decide
  have hidle : (s.portTarget m == 2 && s.performing) = false := by
    rcases hstays with h | ⟨-, -, hperf⟩
    · rw [htg, h]; rfl
    · rw [hperf, Bool.and_false]
  have hmove : s.portMove m = s := by
    have hidle' : (tg == 2 && s.performing) = false := htg ▸ hidle
    unfold State.portMove
    rw [beq_false_of_ne hcal]
    simp only [htg, hidle', hrx, hsettle, hentry, Bool.false_and, Bool.false_eq_true, if_false,
      beq_self_eq_true, if_true, Option.isSome_none, Bool.or_self, ite_self]
  have hrest := State.portEval_of_rest (State.portUp_of_on (by rw [hrx]; decide)) hmove
    (State.turnAlone_of_idle hcal (by rw [Bool.and_assoc, hidle, Bool.and_false]))
  have hlifts := State.suspendLifts_off (Nat.and_self _) (.refl (a := s))
  have hcmd' : s.suspendLifts.Commanded m tg := hcmd.of_off hlifts hm (by decide +kernel) (by decide +kernel)
  have hstate : s.suspendLifts.portState m = stRX := (hlifts.rd_eq_of_avoids (by decide +kernel) hm).trans hrx
  have harrived : s.suspendLifts.Arrived m tg := by
    rcases hstays with h | ⟨h, hsyn, hperf⟩
    · exact .inr (.inl ⟨h, hstate⟩)
    · refine .inr (.inr ⟨h, hstate, ?_, ?_⟩)
      · rw [State.synHold, hlifts.rport_eq (by decide)]
        exact hsyn
      · rw [State.performing, hlifts.part .sys (by decide), State.devState, hlifts.rd_eq (by decide +kernel)]
        exact hperf
  have htail := Nat.and_self (F.State.lossEval ||| F.State.coexTry ||| F.State.coexRelease)
  rw [hrest, State.cmdCheck_of_arrived hcmd' harrived]
  exact (State.cmdDone_complete hcmd' hm).of_off (State.coexRelease_off (sb htail (by decide)) (State.coexTry_off
    (sb htail (by decide)) (State.lossEval_off (sb htail (by decide)) .refl ..))) hm (by decide +kernel) (by decide +kernel)
    (by decide +kernel)

/-! ### The holds of a command -/

theorem State.synHolds_off (s : State) (m tg : Nat) : Off F.State.holdSyn s (s.synHolds m tg) :=
  .foldl .refl (fun _ h _ => State.cond_off h (fun _ h => State.holdSyn_off (Nat.and_self _) h ..) _) _

/-- A port without the holds of the synthesisers. -/
def RfcPort.unheld (r : RfcPort) : RfcPort := { r with synA := false, synB := false }

theorem State.holdSyn_rport (s : State) (k m : Nat) (v : Bool) : ((s.holdSyn k m v).rport m).unheld = (s.rport m).unheld := by
  rw [State.holdSyn, State.setRport_rport_self]
  split <;> rfl

theorem State.synHolds_rport (s : State) (m tg : Nat) : ((s.synHolds m tg).rport m).unheld = (s.rport m).unheld := by
  refine foldl_keeps (fun y : State => (y.rport m).unheld) (fun y c _ => ?_) s
  unfold State.cond
  split
  · exact y.holdSyn_rport ..
  · rfl

/-- No hold comes of synthesisers that do not calibrate. -/
theorem State.synHolds_of_idle {s : State} (hA : s.synBusy 0 = false) (hB : s.synBusy 1 = false) {m : Nat} (hm : m < 8)
    (tg : Nat) : s.synHolds m tg = s := by
  have hlow : m / 8 = 0 := by omega
  have hhigh : (8 + m) / 8 = 1 := by omega
  unfold State.synHolds needs
  split <;> simp only [List.foldl, cvSyn, hlow, hhigh, hA, hB, State.cond_false]

/-! ### The commands -/

theorem TARGET_of_or (v : Word) {w : Word} {tg : Nat} (hw : RFC_PORT_CFG_TARGET.of w = tg) :
    RFC_PORT_CFG_TARGET.of ((v &&& 0x3FFFFFFF#32) ||| w) = tg := by
  rw [Fld.of_or, Fld.of_and_of_zero v (by decide), hw, Nat.zero_or]

/-- A command of a port that is in RX, and that no entry to TX moves, completes at once. -/
theorem State.writePortCfg_completes {s : State} {m tg : Nat} {v : Word} (hm : m < 8) (htg : RFC_PORT_CFG_TARGET.of v = tg)
    (hrx : s.portState m = stRX) (hsettle : (s.rport m).settle = none) (hentry : (s.rport m).entry = false)
    (hstays : tg = 1 ∨ (tg = 2 ∧ s.performing = false ∧ s.synHold m = false ∧ s.synBusy 0 = false ∧ s.synBusy 1 = false)) :
    (s.writePortCfg m v).CmdComplete m tg := by
  have hwritten := s.portCfgWritten_off m v
  obtain ⟨u, hu⟩ : ∃ u, u = s.portCfgWritten m v := ⟨_, rfl⟩
  rw [← hu] at hwritten
  have hcmd : u.Commanded m tg := by
    rw [hu, ← htg]
    exact s.portCfgWritten_commanded hm v
  have hholds := u.synHolds_off m tg
  have hport : ((u.synHolds m tg).rport m).unheld = (s.rport m).unheld := by
    rw [State.synHolds_rport, hwritten.rport_eq (by decide)]
  have hsettle' : ((u.synHolds m tg).rport m).settle = none :=
    have h := congrArg RfcPort.settle hport
    Eq.trans h hsettle
  have hentry' : ((u.synHolds m tg).rport m).entry = false :=
    have h := congrArg RfcPort.entry hport
    Eq.trans h hentry
  have hstate : (u.synHolds m tg).portState m = stRX := by
    rw [State.portState, hholds.rd_eq_of_avoids (by decide +kernel) hm, hwritten.rd_eq_of_avoids (by decide +kernel) hm]
    exact hrx
  have hkeep : tg = 1 ∨ (tg = 2 ∧ (u.synHolds m tg).synHold m = false ∧ (u.synHolds m tg).performing = false) := by
    rcases hstays with h | ⟨h, hperf, hsyn, hA, hB⟩
    · exact .inl h
    · have hidle {k : Nat} (hk : s.synBusy k = false) : u.synBusy k = false := by
        rw [State.synBusy, hwritten.synState_eq (by decide +kernel) (by decide +kernel)]
        exact hk
      rw [State.synHolds_of_idle (hidle hA) (hidle hB) hm]
      refine .inr ⟨h, ?_, ?_⟩
      · rw [State.synHold, hwritten.rport_eq (by decide)]
        exact hsyn
      · rw [State.performing, hwritten.part .sys (by decide), State.devState, hwritten.rd_eq (by decide +kernel)]
        exact hperf
  rw [State.writePortCfg_on_target htg (by omega) (by omega), ← hu]
  exact State.portEval_completes hm (hcmd.of_off hholds hm (by decide +kernel) (by decide +kernel)) hstate hsettle' hentry'
    hkeep

theorem execPortCmdRx_completes {s : State} {m : Fin 8} (v : Word) (hdef : s.sys.deferred = []) (hrx : s.portState m = stRX)
    (hsettle : (s.rport m).settle = none) (hentry : (s.rport m).entry = false) :
    ∃ t, exec (.portCmdRx m v) s = .next t ∧ t.portTarget m = 1 ∧ t.rd RFC_PORT_STAT_BUSY m = 0
      ∧ t.rd RFC_PORT_STAT_RESULT m = 1 :=
  ⟨_, congrArg Host.Outcome.next (State.byHost_of_none hdef ..),
    State.writePortCfg_completes m.isLt (TARGET_of_or v (by decide)) hrx hsettle hentry (.inl rfl)⟩

theorem execPortCmdTx_completes {s : State} {m : Fin 8} (v : Word) (hdef : s.sys.deferred = []) (hrx : s.portState m = stRX)
    (hsettle : (s.rport m).settle = none) (hentry : (s.rport m).entry = false) (hperf : s.performing = false)
    (hsyn : s.synHold m = false) (hA : s.synBusy 0 = false) (hB : s.synBusy 1 = false) :
    ∃ t, exec (.portCmdTx m v) s = .next t ∧ t.portTarget m = 2 ∧ t.rd RFC_PORT_STAT_BUSY m = 0
      ∧ t.rd RFC_PORT_STAT_RESULT m = 1 :=
  ⟨_, congrArg Host.Outcome.next (State.byHost_of_none hdef ..),
    State.writePortCfg_completes m.isLt (TARGET_of_or v (by decide)) hrx hsettle hentry (.inr ⟨rfl, hperf, hsyn, hA, hB⟩)⟩

/-- What a port that goes to OFF reaches beside its state and its transmission. -/
def F.portOffTail : Nat := F.State.setRport ||| F.State.suspendLifts ||| F.State.coexTry ||| F.State.coexRelease

theorem State.portOff_portState (s : State) {m : Nat} (hm : m < 8) : (s.portOff m).portState m = stOFF := by
  have hmask := Nat.and_self F.portOffTail
  have hoff : Off F.portOffTail ((s.cutTx m).setPortState m stOFF) (s.portOff m) :=
    State.coexRelease_off (sb hmask (by decide)) (State.coexTry_off (sb hmask (by decide))
      (State.suspendLifts_off (sb hmask (by decide)) (State.setRport_off (sb hmask (by decide)) .refl ..)))
  rw [State.portState, hoff.rd_eq_of_avoids (by decide +kernel) hm]
  exact State.setPortState_portState hm (by decide)

theorem execPortCmdOff_completes {s : State} {m : Fin 8} (v : Word) (hdef : s.sys.deferred = []) :
    ∃ t, exec (.portCmdOff m v) s = .next t ∧ t.portTarget m = 0 ∧ t.portState m = stOFF ∧ t.rd RFC_PORT_STAT_BUSY m = 0
      ∧ t.rd RFC_PORT_STAT_RESULT m = 1 := by
  have htg : RFC_PORT_CFG_TARGET.of (v &&& 0x3FFFFFFF#32) = 0 := Fld.of_and_of_zero v (by decide)
  obtain ⟨u, hu⟩ : ∃ u, u = (s.portCfgWritten m (v &&& 0x3FFFFFFF#32)).portOff m := ⟨_, rfl⟩
  have hstate : u.portState m = stOFF := hu ▸ State.portOff_portState _ m.isLt
  have hcmd : u.Commanded m 0 := by
    have hwritten := s.portCfgWritten_commanded m.isLt (v &&& 0x3FFFFFFF#32)
    rw [htg] at hwritten
    rw [hu]
    exact hwritten.of_off (State.portOff_off (Nat.and_self _) .refl m) m.isLt (by decide +kernel) (by decide +kernel)
  have hrun : s.writePortCfg m (v &&& 0x3FFFFFFF#32) = u.cmdDone m 1 := by
    rw [State.writePortCfg_off_target htg, ← hu]
    exact State.cmdCheck_of_arrived hcmd (.inl ⟨rfl, hstate⟩)
  obtain ⟨htarget, hbusy, hresult⟩ := State.cmdDone_complete hcmd m.isLt
  refine ⟨_, congrArg Host.Outcome.next ((State.byHost_of_none hdef ..).trans hrun), htarget, ?_, hbusy, hresult⟩
  rw [State.portState, (State.cmdDone_off (Nat.and_self _) .refl m 1).rd_eq_of_avoids (by decide +kernel) m.isLt]
  exact hstate

/-- Settles O28: a command of a port ends with its target, RESULT 1 and no command running; a use, a turn-round and the frame end at
their instants. That a late event leaves the clock where it stands is the model's choice (log entry 3). -/
theorem portCommandsComplete : Obligations.PortCommandsComplete :=
  ⟨fun s => ⟨_, rfl, s.frameBoundary_now⟩, fun _ _ _ _ => execPortUseEnd_ends, fun _ => execRefInFail_degrades,
    fun _ => execRefInRecovered_restores, fun _ _ v => execPortCmdOff_completes v, fun _ _ v => execPortCmdRx_completes v,
    fun _ _ v => execPortCmdTx_completes v, fun _ _ _ => execTurnRoundLineEvent_goesOn,
    fun _ _ _ => execTurnRoundComplete_transmits⟩

end Sys2Proof.Machine
